-- ==== Sys2Proof/Word.lean ====
section
/-!
DEFINITION. The word types of the block: a byte, a 32-bit register word, a binary64 word, and reading a
two's complement number out of a field.
-/

namespace Sys2Proof

/-- One byte of a frame, a record or a memory. -/
abbrev Byte := BitVec 8

/-- One 32-bit word: a register, a table-window word or a measurement word (R632, R9). -/
abbrev Word32 := BitVec 32

/-- One binary64 word of the calibration stage (R302). -/
abbrev Word64 := BitVec 64

end Sys2Proof
end

