-- ==== Sys2Proof/Wire.lean ====
section
/-!
DEFINITION. What the outside world hands to the block with a command: frames at its balls, descriptors and
buffers read from host memory, samples of its time references. Frames of the formats that other standards own
(PTP, GOOSE, sampled values, IEC TR 61850-90-5, MACsec, PRP and HSR tags) are given with their fields decoded;
the C37.118 and Daxide payloads, whose layout the spec itself uses, are given as bytes.
-/

namespace Sys2Proof

/-- The access paths to BAR0, each with shadows of its own (R5, R473, R633). -/
inductive Path where
  | host | cmd | xaorn
  deriving DecidableEq, Repr

/-- One parameter of a MAC secure frame: its channel, association, packet number, and the key that made its ICV
(`none`: no key, the check fails) (R162). -/
structure SecTag where
  sci : Nat
  an : Nat
  pn : Nat
  icvKey : Option Nat
  deriving DecidableEq, Repr

/-- A PRP trailer or an HSR tag (R154, R157): its sequence number and its LAN identifier or path. -/
structure RedTag where
  hsr : Bool
  seq : Nat
  lanB : Bool
  deriving DecidableEq, Repr

/-- PTP message types the device generates or forwards (R52). -/
inductive PtpType where
  | sync | followUp | delayReq | delayResp | pdelayReq | pdelayResp | pdelayRespFollowUp | announce | management
  deriving DecidableEq, Repr

/-- The port states of IEEE 1588 that decide what a port sends, an uncalibrated port counting as a slave and every other state as
`initializing` (R52). -/
inductive PtpState where
  | initializing | master | slave | passive
  deriving DecidableEq, Repr, Inhabited

/-- The UTC information a reference can carry (R88): the offset, a pending leap and its direction. -/
structure UtcInfo where
  utcOfs : Nat
  leapPend : Bool
  leapDel : Bool
  deriving DecidableEq, Repr

/-- What a PTP exchange yields for the timekeeper: offset and mean-path figures in quarter nanoseconds and
nanoseconds, the reference's own error and traceability, and its UTC information (R46 to R57, R81, R88). -/
structure TimeSample where
  offset : Int
  rtd : Option Nat
  err : Option Nat
  traceable : Bool
  utc : Option UtcInfo
  deriving DecidableEq, Repr

/-- The grandmaster's fields of an Announce (R54, R81, R82, R88): clockClass, clockAccuracy, totalTimeInaccuracy,
timeTraceable, its UTC information, and its other fields as sent. -/
structure PtpGm where
  cls : Nat
  acc : Nat
  inacc : Nat
  traceable : Bool
  utc : Option UtcInfo
  other : List Byte
  deriving DecidableEq, Repr

/-- A received PTP message: its type and domain, whether a Follow_Up comes after it (twoStepFlag), the key its authentication TLV
was made with (`none`: no valid TLV), the correction field, and the time sample this message completes, if it completes one, whose
error, traceability and UTC information follow the grandmaster. -/
structure PtpMsg where
  mtype : PtpType
  domain : Nat
  twoStep : Bool
  authKey : Option Nat
  correction : Int
  sample : Option TimeSample
  /-- the grandmaster's fields, of an Announce -/
  gm : Option PtpGm
  /-- the frame, from its destination address to its FCS, without it -/
  raw : List Byte
  deriving DecidableEq, Repr

/-- A GOOSE message (R200, R201). -/
structure Goose where
  appid : Nat
  gocbCrc : Nat
  confRev : Nat
  ndsCom : Bool
  sim : Bool
  stNum : Nat
  sqNum : Nat
  tal : Nat
  data : List Nat
  deriving DecidableEq, Repr

/-- One sample of a sampled-value channel: the value and the quality word. -/
structure SvSample where
  value : Int
  quality : Nat
  deriving DecidableEq, Repr

/-- One ASDU of a sampled-value frame. -/
structure SvAsdu where
  svidCrc : Nat
  smpCnt : Nat
  smpSynch : Nat
  samples : List SvSample
  deriving DecidableEq, Repr

/-- One member of an R-SV phasor dataset (R189). -/
inductive SvMember where
  | f32 (v : Word32) (bad : Bool)
  | i32 (v : Int) (bad : Bool)
  deriving DecidableEq, Repr

/-- The payload of a 90-5 SPDU. -/
inductive SpduBody where
  | dataset (appid svidCrc smpSynch : Nat) (refNs : Nat) (members : List SvMember)
  | sv (appid : Nat) (asdus : List SvAsdu)
  | goose (g : Goose)
  deriving DecidableEq, Repr

/-- A 90-5 SPDU: its key ID and number, its algorithm (0 none, coded as AUTH of Table ING-3), whether it is
encrypted, and the key its tag was made with (R204). -/
structure Spdu where
  keyId : Nat
  num : Nat
  alg : Nat
  encrypted : Bool
  tagKey : Option Nat
  body : SpduBody
  deriving DecidableEq, Repr

/-- A Daxide frame at a link: its bytes from header to payload (Table DXL-2), the key its tag was made with, whether
its FCS is good, and its stamp's place inside the tick. -/
structure DxFrame where
  bytes : List Byte
  tagKey : Option Nat
  fcsOk : Bool
  q : Nat
  deriving DecidableEq, Repr

/-- What an IP packet carries. -/
inductive IpBody where
  | bytes (b : List Byte)
  | spdu (p : Spdu)
  | dax (f : DxFrame)
  deriving DecidableEq, Repr

/-- IPv4 or IPv6 packet fields that ingest looks at (Table ING-2, R176, R181). Addresses are numbered as R659. -/
structure IpPacket where
  v6 : Bool
  src : Nat
  dst : Nat
  fragOrOpts : Bool
  /-- 6 TCP, 17 UDP -/
  proto : Nat
  sport : Nat
  dport : Nat
  /-- the UDP checksum field is zero -/
  sumZero : Bool
  /-- a nonzero UDP checksum that verifies -/
  sumOk : Bool
  body : IpBody
  deriving DecidableEq, Repr

/-- What a frame carries behind its tags. -/
inductive FrameBody where
  | ptp (m : PtpMsg)
  | pause (quanta : Nat)
  | pfc (enables : Nat) (quanta : List Nat)
  | supervision
  | sv (appid : Nat) (asdus : List SvAsdu)
  | goose (g : Goose)
  | ip (p : IpPacket)
  /-- the payload of a RELAY frame a Daxide link hands to ingest, with its origin (R543) -/
  | relay (origin : Nat) (payload : List Byte)
  | other (etherType : Nat)
  deriving DecidableEq, Repr

/-- A frame at the receive balls of a field port, or an injected frame. `q` is the stamp's place inside the
current tick, in quarter nanoseconds (R128). `len` counts from the destination address to the FCS (R126). `raw` is the frame
as the host receives it when it is forwarded (R177). `fecCorr` and `fecUncorr` are the codewords of its line's FEC that were
corrected, or could not be, since the frame before (Table FP-3). -/
structure RxFrame where
  dst : Nat
  srcMac : Nat
  vlans : List Nat
  len : Nat
  fcsOk : Bool
  codeErr : Bool
  sec : Option SecTag
  red : Option RedTag
  q : Nat
  body : FrameBody
  raw : List Byte
  fecCorr : Nat
  fecUncorr : Nat
  deriving DecidableEq, Repr

/-- A descriptor as the device reads it from host memory: sixteen little-endian words (Table HIF-4). -/
abbrev DescWords := List Nat

/-- What lifts a mask for MSI-X (R487). -/
inductive MsixCtl where
  /-- the mask bit of one vector of the table is cleared -/
  | vector (v : Nat)
  /-- the function mask is written -/
  | funcMask (on : Bool)
  /-- MSI-X Enable is written -/
  | enable (on : Bool)
  deriving DecidableEq, Repr

/-- Where a DMA read failed (R462, R491, R492). -/
inductive DmaRead where
  | descriptor | buffer
  deriving DecidableEq, Repr

/-- The IEEE C37.118 extension of an IRIG-B frame (R61): the year's two BCD digits, a pending leap second and whether it is
deleted, the local offset in half hours and whether it is negative, and the time quality. -/
structure IrigExt where
  year : Nat
  leapPend : Bool
  leapDel : Bool
  ofsHalf : Nat
  ofsNeg : Bool
  tq : Nat
  deriving DecidableEq, Repr

/-- An IRIG-B frame as its pulses spell it (R59 to R62): the parity, the number k of its code B00k, the BCD fields of seconds,
minutes, hours, days of the year and year (of B004 to B007), the control functions as the extension has them, and how long ago
its on-time mark was, in quarter nanoseconds of the device's counter. -/
structure IrigFrame where
  parityOk : Bool
  code : Nat
  secB : Nat
  minB : Nat
  hourB : Nat
  dayB : Nat
  yearB : Nat
  ext : Option IrigExt
  agoQ : Nat
  deriving DecidableEq, Repr

/-- Who met a Hamper parity error (HMP_MAP_DATA.CAUSE). -/
inductive HCause where
  | selfTest | engine | scrub | bar4
  deriving DecidableEq, Repr

/-- What a converter's hold edge takes (R270, R283): the code of the conversion and the deviation of the actual edge
from its slot boundary, in units of 0.25 ns. -/
structure AdcSample where
  code : Int
  dev : Int
  deriving DecidableEq, Repr

/-- The body of a key command that creates a key (Table KEY-4): the metadata it gives; its check value, as the key it
was computed for (`none`: all zero); the key inside the wrap with the slot and generation of an import's context, or
the key it is wrapped under (`none`: it does not unwrap); and the KDF, label and context of a derivation. -/
structure KeyBody where
  usage : Nat
  len : Nat
  keyId : Nat
  persist : Bool
  kcv : Option Nat
  material : Nat
  wrapSlot : Nat
  wrapGen : Nat
  wrapKey : Option Nat
  kdf : Nat
  label : List Byte
  context : List Byte
  deriving DecidableEq, Repr

/-- What the flash holds when the board has programmed it while the device was in POR: the two boot settings copies and
the two image slots from their first byte. -/
structure FlashLoad where
  copyA : List Byte
  copyB : List Byte
  imgA : List Byte
  imgB : List Byte
  deriving DecidableEq, Repr

/-- What start-up meets (R625, R627, R116, R117, R555): the flash where the board has programmed it, whether the fuses pass
their own check, the Hamper words that fail the self-test, and whether OSC10M lies in its window. -/
structure BootInfo where
  flash : Option FlashLoad
  fuseOk : Bool
  badWords : List Nat
  oscOk : Bool
  deriving DecidableEq, Repr

/-- A fault that strikes one rule engine in a pass (R361): the engine, the item's kind as RUL_INTEG_STAT.KIND codes it, its
index, and the bits it flips in that engine's result. Kind 5 strikes a table word of the engine's copy, before the pass: the
word at BAR0 address `index`, with bad parity when bit 32 of `flip` is set. -/
structure Upset where
  eng1 : Bool
  kind : Nat
  index : Nat
  flip : Nat
  deriving DecidableEq, Repr

end Sys2Proof
end

