-- ==== Sys2Proof/Syntax.lean ====
section
/-!
DEFINITION. The commands the block takes: one constructor per row of the table of operations and events, with the
operands the outside world supplies.
-/

namespace Sys2Proof

/-- The commands of the block, in the order of the table. -/
inductive Instr where
  /-- R632. A BAR0 write to a register or table word that has no row of its own is applied under that field's access rules. -/
  | writeRegister (p : Path) (addr : Nat) (v : Word32)
  /-- R165. A read of an RC field returns its value and clears it. -/
  | readClearOnRead (p : Path) (addr : Nat)
  /-- R5. A read of the low half of a 64-bit pair latches the high half into that access path's shadow. -/
  | readLowHalf (p : Path) (addr : Nat)
  /-- R7. A read of the high half returns the path's shadow, and sets GLB_STATUS.TORN when no low-half read preceded it. -/
  | readHighHalf (p : Path) (addr : Nat)
  /-- R35. A read of TKP_NOW_NS latches the matching seconds into the path's shadow. -/
  | readTkpNowNs (p : Path)
  /-- R460. A BAR0 read of an island in reset returns 0 within 2 µs and sets GLB_STATUS.ISL_RST_RD. -/
  | readIslandInReset (p : Path) (addr : Nat)
  /-- R616. A BAR0 write to an island that is in reset, gated or not yet started is discarded and sets ISL_RST_WR. -/
  | writeIslandInReset (p : Path) (addr : Nat) (v : Word32)
  /-- R25. A GLB_SPLIT write applies its valid fields, rejects fields holding 3 (or 2 in KEY) and sets REJ. -/
  | writeGlbSplit (v : Word32)
  /-- R30. Setting GLB_LOCK makes every RWL field read-only. -/
  | glbLockSet
  /-- R19. An island clock stops or leaves its window; within 10 µs the device logs it, resets the island and drives INTEGRITY or releases the pins. -/
  | islandClockFail (island : Nat)
  /-- R19. After the clock has been back within its window for 10 ms, the island leaves reset on its kept configuration, as after an IRST. -/
  | islandClockRecover (island : Nat)
  /-- R648. REFCLK leaves its window; the PLLs move to OSC10M, or AON runs on the internal oscillator while the other islands stay in reset. -/
  | refclkFail
  /-- R649. OSC10M leaves its window while CLKSRC = 1, and R648 applies with the roles of the two clocks exchanged. -/
  | osc10mFail
  /-- R24. An island leaves reset and accepts requests once its configuration has been loaded. -/
  | islandResetExit (island : Nat)
  /-- R34. Each 4 ns tick advances the counter by the frequency word, applying any pending step or slew. -/
  | timekeeperTick
  /-- R50. An offset and delay sample of a reference is accepted, discarded as an outlier, or taken as a path step. -/
  | referenceSample (slot : Nat) (x : TimeSample)
  /-- R664. At each servo interval boundary the servo updates the frequency word and state, checks for reference loss and advances any asymmetry comparison. -/
  | servoUpdate
  /-- R69. With SERVO = 2 and no TKP_FREQ_HI write within HOST_TMO, the servo enters HOLDOVER. -/
  | hostTmo
  /-- R66. A write to TKP_FREQ_LO holds the low bits of a new frequency word while SERVO is 0 or 2. -/
  | writeTkpFreqLo (v : Word32)
  /-- R66. A write to TKP_FREQ_HI applies the held 40-bit frequency word at the next tick. -/
  | writeTkpFreqHi (v : Word32)
  /-- R66. A read of TKP_FREQ_LO returns the word in use and latches its high bits. -/
  | readTkpFreqLo (p : Path)
  /-- R67. A write to TKP_ADJ steps or slews time at the next tick, or becomes a pending timed adjustment. -/
  | writeTkpAdj (v : Word32)
  /-- R68. A pending timed adjustment is taken up at its target and applied or discarded by its lateness. -/
  | timedAdjust
  /-- R56. A received PTP message is authenticated, flood-limited and used by the timekeeper. -/
  | ptpMessageReceive (port : Nat) (m : PtpMsg)
  /-- R52. The hardware sends a Sync, Follow_Up, delay or Pdelay message from Xaorn's templates at its interval. -/
  | ptpMessageTransmit (port : Nat) (m : PtpType)
  /-- R53. An Announce is sent with clockClass, clockAccuracy and inaccuracy filled at send time. -/
  | ptpAnnounceTransmit (port : Nat)
  /-- R55. The transparent clock corrects the residence time of a PTP message forwarded across a port pair. -/
  | tcForward (port : Nat) (m : PtpMsg) (ingressQ : Nat)
  /-- R58. A 1PPS edge is stamped, accepted or counted as bad, and labelled. -/
  | tinPpsEdge (falling : Bool) (q : Nat)
  /-- R62. An IRIG-B frame is decoded and labels the accepted 1PPS edge, or is discarded. -/
  | irigFrame (f : IrigFrame)
  /-- R89. At the end of the UTC day with LEAP_PEND set, UTC_OFS is changed and LEAP_OCC is set. -/
  | leapSecond
  /-- R89. LEAP_OCC clears 24 h after the leap. -/
  | leapOccExpire
  /-- R91. At each whole TAI second plus the offset, the TOUT 1PPS pulse starts unless it is squelched. -/
  | ppsOutput
  /-- R91. The TOUT 1PPS pulse ends after PPS_WIDTH × 10 µs. -/
  | ppsPulseEnd
  /-- R96. A partition write is applied or rejected for overlap, range, MODAL limits or an active owner. -/
  | writeHmpPart (n : Nat) (v : Word32)
  /-- R102. A parity error is re-read four cycles later; the fault is found transient, or lasting and fenced. -/
  | hamperReplay (a : Nat) (cause : HCause) (again : Bool)
  /-- R107. A write to a fenced word is followed by two check reads that release the fence or log a failed release. -/
  | fenceReleaseCheck (a : Nat) (good : Bool)
  /-- R109. Patrol scrub reads its next line in an idle or forced bank cycle and checks its parity. -/
  | scrubRead
  /-- R112. A scrub pass that runs beyond 2.0 s sets SCRUB_LATE and is logged. -/
  | scrubPassLate
  /-- R118. A BAR4 read returns Hamper words, checked for parity, or 0 when BAR4_EN = 0. -/
  | bar4Read (p : Path) (a : Nat)
  /-- R119. A BAR4 write is discarded and counted. -/
  | bar4Write (a : Nat) (v : Word32)
  /-- R122. A write to FP_CTRL sets the enable, mode and loopback, or rejects invalid or locked mode changes. -/
  | writeFpCtrl (port : Nat) (v : Word32)
  /-- R124. A port declares link up once it has lock or synchronisation and any auto-negotiation has completed. -/
  | linkUp (port : Nat)
  /-- R124. A port declares link down within 10 µs of losing lock, and counts and logs the loss. -/
  | linkDown (port : Nat)
  /-- R128. A received frame is stamped, checked, de-duplicated, forwarded under HSR and passed on. -/
  | frameReceive (port : Nat) (f : RxFrame)
  /-- R157. A duplicate-discard key expires after FORGET. -/
  | dupKeyForget (pair : Nat)
  /-- R130. At a frame boundary the port starts the head frame of the highest eligible class, or discards it while the link is down or when it cannot fit. -/
  | txFrameStart (port : Nat)
  /-- R131. A transmitted frame ends; its stamp is queued and its completion follows. -/
  | txFrameEnd (port : Nat)
  /-- R152. Data for a frame in progress arrives late; the frame is ended with an inverted FCS and START_THR is raised. -/
  | txUnderrun (port : Nat)
  /-- R138. A timed frame is sent at its target, or late or expired under its tolerance. -/
  | timedLaunch (port : Nat) (tc : Nat)
  /-- R139. The guard time before a head-of-queue timed frame begins, blocking frames that would overlap its target. -/
  | guardTimeStart (port : Nat)
  /-- R155. Once both copies of a paired frame have left or been dropped, one completion is written. -/
  | pairCompletion (pair : Nat)
  /-- R133. A write of 1 to CONFIG_CHANGE takes the administrative gate list as the pending configuration. -/
  | configChange (port : Nat)
  /-- R133. At the config change time the pending gate list becomes operational. -/
  | gateConfigApply (port : Nat)
  /-- R135. A gate control entry's interval ends, and the next entry or the next cycle starts. -/
  | gateEntryAdvance (port : Nat)
  /-- R145. A received PAUSE or PFC frame pauses, re-times or releases classes, or is discarded. -/
  | pauseFrameReceive (port : Nat) (f : RxFrame)
  /-- R145. A class's pause time runs out. -/
  | pauseExpire (port : Nat) (tc : Nat)
  /-- R148. A class paused without a break for longer than STORM has further requests ignored, and the event is logged. -/
  | pauseStorm (port : Nat) (tc : Nat)
  /-- R148. With no pause request received for STORM, the class honours requests again. -/
  | pauseStormClear (port : Nat) (tc : Nat)
  /-- R149. The receive buffer passes 75 % full and the port sends PAUSE or PFC. -/
  | pauseTransmit (port : Nat)
  /-- R149. At half the paused time, with the buffer still above 50 %, the pause is sent again. -/
  | pauseResend (port : Nat)
  /-- R149. The buffer falls below 50 % and quanta 0 is sent. -/
  | pauseReleaseSend (port : Nat)
  /-- R161. Supervision frames are sent on both ports at SUP_INT. -/
  | hsrSupervisionSend (pair : Nat)
  /-- R172. Ingest takes a frame from an input round-robin into the intake buffer, applying port limits and overflow. -/
  | ingestIntake
  /-- R175. A frame is taken from the intake buffer, classified, bound, checked and converted to words. -/
  | ingestParse
  /-- R177. At each whole TAI second the host-forwarding count restarts. -/
  | hostlimSecond
  /-- R203. timeAllowedToLive passes without a frame and the target word becomes 0x7FC0_0001. -/
  | gooseTalExpire (sub : Nat)
  /-- R198. CFG_PEND clears after STAT bit 10 has been clear for 60 s. -/
  | cfgPendTimeout (src : Nat)
  /-- R184. A source-table write is applied, validated when VALID is set, or ignored while the entry is valid. -/
  | writeSourceEntry (addr : Nat) (v : Word32)
  /-- R228. Roll Call takes a parsed frame, writes it into its spread and marks the source present, or treats it as duplicate, late, future, slotless or degraded. -/
  | alignFrame
  /-- R222. A spread opens at its instant or at its first accepted frame. -/
  | spreadOpen
  /-- R222. Grid time reaches T + WAIT and the spread closes with reason DEADLINE. -/
  | spreadDeadline
  /-- R252. A spread's slot is released once the lag spread has closed and every consumer has finished reading it. -/
  | slotRelease
  /-- R240. Writing EN = 1 to an output checks it and enables or refuses it. -/
  | outputEnable (n : Nat)
  /-- R256. Roll Call lays out regions, sizes its depth, rechecks outputs and opens its first spread. -/
  | rollCallStart
  /-- R257. EN going to 0 flushes every open spread in order and stops Roll Call. -/
  | rollCallStop
  /-- R265. ADC_REF.EN going to 1 starts the converter reference. -/
  | refEnable
  /-- R265. After 2.0 ms, or 0.1 ms with an external reference, REF_OK rises. -/
  | refReady
  /-- R275. GO walks the Itinerary and arms the converter, or refuses the start. -/
  | adcGo (cv : Nat)
  /-- R276. The armed start target is taken up, and the first hold edge falls or the converter disarms. -/
  | adcStart (cv : Nat)
  /-- R277. STOP disarms an armed converter, or stops a running one at the next slot boundary. -/
  | adcStop (cv : Nat)
  /-- R270. At each slot boundary the converter takes a hold edge or idles, and advances its Itinerary. -/
  | adcSlot (cv : Nat) (smp : AdcSample)
  /-- R280. A finished conversion, or the mean of an entry, is delivered to its lane and to the diagnostic ring. -/
  | adcSampleDeliver (cv : Nat)
  /-- R285. A diagnostic descriptor completes 100 µs after its first record. -/
  | diagFlush
  /-- R294. A lane accepts a sample, fills gaps, discards it, or performs a synchronising reset. -/
  | laneSample (lane : Nat)
  /-- R295. No sample reaches an enabled lane for IN_TMO and the lane enters WAITING. -/
  | laneInputTimeout (lane : Nat)
  /-- R315. Writing EN = 1 to a lane checks its settings and budgets, and enables it or refuses it. -/
  | laneEnable (lane : Nat) (v : Word32)
  /-- R311. A write to FLT_LANE_SYNC requests a synchronising reset of the lane. -/
  | laneSyncRequest (lane : Nat)
  /-- R301. Setting VALID on a coefficient set checks its symmetry and sum. -/
  | coefSetValidate (set : Nat) (v : Word32)
  /-- R323. Setting VALID on a local source group checks its slot and lanes. -/
  | groupValidate (g : Nat) (v : Word32)
  /-- R317. FLT_SWAP_CMD.GO places a swap request in each named lane's pending slot, or refuses it. -/
  | swapGo (v : Word32)
  /-- R318. A pending swap is taken up at its target, or at the end of a running fade, and starts, completes late, or expires. -/
  | swapStart (lane : Nat)
  /-- R319. After FADE estimates the active bank changes to the new bank. -/
  | fadeEnd (lane : Nat)
  /-- R325. Once every lane of a group has its output for t, the group block is written into the spread. -/
  | groupBlockWrite (g : Nat)
  /-- R325. At t + X_max + IN_TMO, the block is written with missing lanes invalid, or not written at all. -/
  | groupBlockTimeout (g : Nat)
  /-- R336. ANA takes the next queued close and runs the areas, pairs, islands, detectors and rules on both engines. -/
  | rulePass (ups : List Upset)
  /-- R367. An edge at the head of the action queue drives pins, templates, STAT, tokens, host records, the Logbook and Dispatch. -/
  | alarmAction
  /-- R368. The MIN_WIDTH time of an alarm pin ends, ending a pulse or allowing release. -/
  | pinWidthExpire (pin : Nat)
  /-- R368. Writing RUL_PINn.REL releases a latched pin. -/
  | pinRelease (pin : Nat)
  /-- R359. RUL_ACK.GO acknowledges a latched rule. -/
  | ruleAck (rule : Nat)
  /-- R365. RUL_ACK.INTEG acknowledges INTEGRITY so that it clears after a clean pass. -/
  | integAck
  /-- R366. Every 100 ms the two engines' table copies are compared and repaired, or INTEGRITY is raised. -/
  | tableCopyCheck (ups : List Upset)
  /-- R353. Setting a rule's VALID checks the entry, and clearing it issues a falling edge. -/
  | ruleValidate (r : Nat) (v : Word32)
  /-- R342. Setting an area's VALID checks its members. -/
  | areaValidate (a : Nat) (v : Word32)
  /-- R352. Setting a quick detector's VALID checks its operand and coefficients. -/
  | detectorValidate (q : Nat) (v : Word32)
  /-- R371. Enabling a GOOSE template checks it and sends its first frame. -/
  | templateEnable (t : Nat) (v : Word32)
  /-- R372. A template's retransmission interval ends and the frame is sent again with a higher sqNum. -/
  | gooseRetransmit (t : Nat)
  /-- R381. A write to RUL_HSTATEj in host mode makes edges for the changed bits and drives their actions. -/
  | hstateWrite (j : Nat) (v : Word32)
  /-- R396. A ready segment updates the cross-spectral store, once no epoch processing holds it. -/
  | segmentApply
  /-- R400. At an epoch boundary the engine begins decomposition or a snapshot, or skips the epoch. -/
  | epochBoundary
  /-- R414. Decomposition completes; peaks are fitted, slots are published and the epoch record is written. -/
  | epochPublish
  /-- R416. A snapshot bin record is written when a descriptor is free. -/
  | snapshotBinWrite
  /-- R417. A snapshot that runs longer than SNAP_TMO is ended and counted. -/
  | snapshotTimeout
  /-- R418. The modal engine checks its configuration and starts, setting t0. -/
  | modalStart
  /-- R420. The modal engine stops once the running processing or snapshot ends. -/
  | modalStop
  /-- R426. CAP_CTRL.EN going to 1 lays out RAWHIST, or refuses the enable. -/
  | captureEnable
  /-- R456. CAP_CTRL.EN going to 0 returns every engine to IDLE and discards the layout. -/
  | captureDisable
  /-- R434. Setting a trigger definition's VALID checks it. -/
  | triggerDefValidate (d : Nat) (v : Word32)
  /-- R448. Setting an envelope mask's VALID checks its points. -/
  | maskValidate (k : Nat) (v : Word32)
  /-- R435. A CAP_SWTRIG write fires an SRC 4 definition. -/
  | softwareTrigger (v : Word32)
  /-- R438. ARM checks the engine, and arms it at once or waits for a timed arm. -/
  | captureArm (eng : Nat)
  /-- R439. A timed arm is taken up at its target and arms or expires. -/
  | captureTimedArm (eng : Nat)
  /-- R440. PRE ms after arming the engine moves from FILLING to ARMED. -/
  | pretriggerFull (eng : Nat)
  /-- R443. A trigger reaching an armed engine opens a collection, or is ignored in other states. -/
  | captureTrigger (eng : Nat)
  /-- R443. The collection window ends and the capture's triggers and t_trig are fixed. -/
  | collectionClose (eng : Nat)
  /-- R447. Every channel has its last block; the header is written and the engine enters DONE or HELD. -/
  | captureComplete (eng : Nat)
  /-- R452. A record is written into CAPT ring buffers as descriptors become free. -/
  | captureDeliver (eng : Nat)
  /-- R453. After delivery, or on REL, the slice is released and the engine re-arms or goes IDLE. -/
  | captureRelease (eng : Nat)
  /-- R442. DISARM returns an engine that is not DONE to IDLE. -/
  | captureDisarm (eng : Nat)
  /-- R462. Enabling a ring reads and checks its control block, and starts or refuses the ring. -/
  | ringEnable (n : Nat) (cb : Option DescWords)
  /-- R463. Disabling a ring stops descriptor intake, and aborts descriptors not yet started and waiting timed waits. -/
  | ringDisable (n : Nat)
  /-- R463. Once started descriptors have completed, the ring's STATE goes off. -/
  | ringStopped (n : Nat)
  /-- R464. A BAR2 write sets PROD and/or CCONS of a ring, or is counted as a bad doorbell. -/
  | doorbell (ofs : Nat) (size : Nat) (v : Nat) (descs : List DescWords)
  /-- R466. Every POLL_NS the device reads PROD and CCONS of polled rings as a doorbell. -/
  | ringPoll (n : Nat) (prod : Nat) (ccons : Nat) (descs : List DescWords)
  /-- R467. A completion is written once a slot is free, followed by the control-block write-back and token signalling. -/
  | completionWrite (n : Nat)
  /-- R470. A NOP descriptor completes without action. -/
  | descNop (n : Nat)
  /-- R480. A FENCE starts once every earlier descriptor of its ring has completed, and then completes OK. -/
  | descFence (n : Nat)
  /-- R481. A descriptor waiting on a token starts when the token reaches WAITVAL. -/
  | tokenWaitStart (n : Nat)
  /-- R482. A descriptor that waited on its token longer than HIF_FENCE.TMO completes LIMIT_EXCEEDED. -/
  | fenceTimeout (n : Nat)
  /-- R473. WRITE_BLOCK reads a host buffer and writes it to BAR0 registers in ascending order. -/
  | cmdWriteBlock (n : Nat) (ws : List Word32)
  /-- R473. READ_BLOCK reads BAR0 registers and writes them to a host buffer. -/
  | cmdReadBlock (n : Nat)
  /-- R476. A TXH SEND fetches a frame and queues it on a field port or pair. -/
  | txhSend (n : Nat) (bytes : List Byte)
  /-- R475. A TXH SEND with DEST 20 hands the frame to ingest as the injection input. -/
  | txhInject (n : Nat) (f : RxFrame)
  /-- R472. A BUF descriptor posts a buffer on a device-to-host ring. -/
  | bufPost (n : Nat)
  /-- R486. A ring's moderation condition or a block cause requests an MSI-X message, which is sent or marked pending. -/
  | msixMessage (vec : Nat)
  /-- R486. MOD_TIME µs after the first counted completion, a message is requested. -/
  | moderationTimer (n : Nat)
  /-- R487. Lifting a mask, or setting MSI-X Enable, sends one message per pending vector. -/
  | msixUnmask (c : MsixCtl)
  /-- R488. No heartbeat write for TMO ms declares the host stalled. -/
  | hostStall
  /-- R489. A write to HIF_HB clears STALL and resumes host-memory writes. -/
  | heartbeat (v : Word32)
  /-- R490. The PCIe link goes down without a reset and the device acts as if the host had stalled. -/
  | pcieLinkDown
  /-- R491. A failed DMA read stops the ring for a descriptor read, or rejects the descriptor for a buffer read. -/
  | dmaReadFail (n : Nat) (kind : DmaRead)
  /-- R496. Writing a thread entry's VALID creates or frees the thread, or is refused. -/
  | threadValidate (th : Nat) (v : Word32)
  /-- R500. READY puts a thread on its ready list and ends any pending wait. -/
  | dspReady (n : Nat)
  /-- R504. DELAY makes a thread DELAYED until a target time. -/
  | dspDelay (n : Nat)
  /-- R506. WAIT makes a thread WAITING for a close or alarm edge, with an optional timeout. -/
  | dspWait (n : Nat)
  /-- R499. CANCEL makes a thread BLOCKED and ends its wait. -/
  | dspCancel (n : Nat)
  /-- R500. SET_PRIO changes a thread's priority, moving a READY thread to the tail of its new list. -/
  | dspSetPrio (n : Nat)
  /-- R505. TIMER posts a timed increment of a fence token. -/
  | dspTimer (n : Nat)
  /-- R504. At each tick boundary due delays, timeouts and timers are taken up with OK, LATE or EXPIRED. -/
  | dispatchTick
  /-- R503. A read of DSP_CPUc_TAKE makes NEXT RUNNING and preempts the current thread. -/
  | dspTake (p : Path) (cpu : Nat)
  /-- R511. Spilled entries are fetched back when on-chip use falls below seven eighths. -/
  | spillFetch (ok : Bool)
  /-- R522. The fabric starts and BOOT is incremented. -/
  | fabricStart
  /-- R523. A Daxide frame is checked, authenticated and de-duplicated, then forwarded or applied by type. -/
  | daxideFrameReceive (link : Nat) (f : DxFrame)
  /-- R534. Every BEACON × 10 ms a BEACON is flooded. -/
  | beaconSend
  /-- R534. No TOKEN or BEACON from an origin for LOSS_MS sets LOST and FAILSAFE. -/
  | remoteOriginLost (node : Nat)
  /-- R533. A write to a remote alarm entry is applied, or ignored while the entry is valid. -/
  | remoteAlarmEntryWrite (addr : Nat) (v : Word32)
  /-- R539. Enabling relay checks the RELAY partition size, and enables relay or refuses it. -/
  | relayEnable
  /-- R541. A held RELAY or MGMT frame with no ACK after RTO is sent again. -/
  | relayRetransmit (link : Nat)
  /-- R541. A held frame is discarded 100 ms after it was first sent. -/
  | relayExpire (link : Nat)
  /-- R544. Each link sends a KEEPALIVE every INT µs. -/
  | keepaliveSend (link : Nat)
  /-- R544. No KEEPALIVE for MISS × INT declares the link down. -/
  | keepaliveTimeout (link : Nat)
  /-- R544. Loss of PCS lock on a DL link declares it down within 10 µs. -/
  | dxlLockLoss (link : Nat)
  /-- R547. A DL link sends a TIME REQ 2^RATE times per second. -/
  | timeReqSend (link : Nat)
  /-- R565. INFO replies with a slot's status entry. -/
  | keyInfo (n : Nat)
  /-- R561. IMPORT unwraps a key to the device and makes it pending after its KCV check. -/
  | keyImport (n : Nat) (b : KeyBody)
  /-- R560. DERIVE creates a pending key from a parent slot. -/
  | keyDerive (n : Nat) (b : KeyBody)
  /-- R560. UNWRAP creates a pending key wrapped under a parent slot. -/
  | keyUnwrap (n : Nat) (b : KeyBody)
  /-- R566. The pending key's flash copy has been written and read back, and the command completes. -/
  | keyCopyWritten (good : Bool)
  /-- R563. COMMIT programs the commit record and makes the verified pending key active. -/
  | keyCommit (n : Nat) (good : Bool)
  /-- R564. ERASE empties a slot in the device and in flash. -/
  | keyErase (n : Nat)
  /-- R569. ATTEST replies with a signed attestation statement. -/
  | keyAttest (n : Nat) (nonce : List Byte)
  /-- R629. The firmware STATUS command replies with the slots and headers. -/
  | fwStatus (n : Nat)
  /-- R629. WRITE stores image data into the slot that is not running. -/
  | fwWrite (n : Nat) (ofs : Nat) (data : List Byte)
  /-- R629. CHECK verifies the image in the slot that is not running. -/
  | fwCheck (n : Nat) (len : Nat)
  /-- R629. ACTIVATE writes trial settings and restarts the Xaorn cores from the new slot. -/
  | fwActivate (n : Nat)
  /-- R625. SETTINGS writes a new boot settings copy, or rejects an invalid one. -/
  | fwSettings (n : Nat) (body : List Byte)
  /-- R630. The new image reports its services running; UPDATING clears and the update is logged OK. -/
  | xaornReport
  /-- R630. No report within 5 s restarts the cores from the previous slot. -/
  | updateTimeout
  /-- R631. A lockstep pair disagrees; it is halted, logged and restarted. -/
  | lockstepMismatch (pair : Nat)
  /-- R574. An event is judged by its code's token bucket, and enters the intake or is dropped. -/
  | logEvent (code : Nat) (inst : Nat) (det : Nat) (det2 : Nat)
  /-- R574. A code's bucket gains one token every 1 ÷ RATE s. -/
  | logTokenRefill (code : Nat)
  /-- R571. The writer takes an event from the intake, writes and reads back its record, or writes the full record. -/
  | logRecordWrite (good : Bool)
  /-- R582. The Logbook scrub reads its next word. -/
  | logScrub (bad : Bool)
  /-- R581. A Logbook parity error is re-read four AON cycles later and found transient or lasting. -/
  | logReread (bad : Bool)
  /-- R583. GO latches END and starts the reader, or is refused. -/
  | logReadGo (v : Word32)
  /-- R583. The reader packs records into the next free LOGS buffer and completes it. -/
  | logReadDeliver
  /-- R583. A reader buffer completes 1 ms after its first record. -/
  | logBufferTimeout
  /-- R587. STOP completes the partly filled buffer and stops the reader. -/
  | logReadStop (v : Word32)
  /-- R660. Xaorn writes a record to the flash mirror and LOG_MIR_SEQ advances. -/
  | mirrorRecord
  /-- R642. PFW_N is taken low; the key store finishes commit records and the Logbook flush starts or is skipped. -/
  | powerFailWarning
  /-- R642. PFW_N is taken high again and the rise is logged. -/
  | powerFailClear
  /-- R588. The flush header is written, event 529 is raised and FLUSH_DONE is set. -/
  | logFlushDone
  /-- R590. A probe takes a sample into its bins and checks its limit. -/
  | probeSample (kind : Nat) (index : Nat) (x : Int) (lost : Nat)
  /-- R591. Enabling a probe checks it and clears its accumulators. -/
  | probeEnable (p : Nat) (v : Word32)
  /-- R593. LKO_SNAP.GO copies probe accumulators into the snapshot table, optionally clearing them. -/
  | lkoSnapshot (v : Word32)
  /-- R598. A COMPRESS job starts on a free lane and slot. -/
  | cmpCompress (n : Nat) (src : List Byte)
  /-- R601. A DECOMPRESS job starts on a free lane and inflates under its output limits. -/
  | cmpDecompress (n : Nat) (src : List Byte)
  /-- R605. A compression job ends, zeroing its output on failure and writing its completion. -/
  | cmpJobComplete (lane : Nat)
  /-- R640. A rail falls below threshold or TESTEN is high, and the device enters POR. -/
  | powerOnReset (test : Bool)
  /-- R643. SYS_RST_N held low holds the device in POR. -/
  | sysRstAssert
  /-- R627. POR is released and start-up runs: clocks, fuses, boot settings, self-test, keys and Xaorn. -/
  | porRelease (b : BootInfo)
  /-- R627. READY rises once every start-up condition holds. -/
  | deviceReady
  /-- R611. PERST_N low starts an HRST and holds HST in reset. -/
  | perstAssert
  /-- R611. PERST_N rises and the PCIe link trains. -/
  | perstRelease
  /-- R663. A PCIe hot reset starts an HRST with HST held for at most 1 ms. -/
  | pcieHotReset
  /-- R458. A Function Level Reset starts an HRST of the configured scope. -/
  | functionLevelReset
  /-- R663. HST leaves reset after an FLR or hot reset and stops answering CRS. -/
  | hstResetRelease
  /-- R609. A keyed write to GLB_RST performs an SRST of every island except AON. -/
  | softReset (v : Word32)
  /-- R612. A bit written in GLB_ISLRST resets one island. -/
  | islandReset (hi : Bool) (v : Word32)
  /-- R619. GLB_DOZE.ENTER starts entry into Doze, or is refused. -/
  | dozeEnter
  /-- R620. Doze entry completes and GLB_STATUS.DOZE rises. -/
  | dozeEntryDone
  /-- R621. A write to GLB_DOZE.WAKE starts a wake. -/
  | dozeWake
  /-- R621. An edge on a selected GPIO starts a wake. -/
  | gpioWake (pin : Nat) (falling : Bool)
  /-- R622. Setting or clearing TIMED during Doze arms or disarms the timed wake. -/
  | writeGlbWake (v : Word32)
  /-- R622. The timed wake is taken up at its target and wakes the device, or expires. -/
  | timedWake
  /-- R623. Wake completes 1.2 ms after its cause; DOZE falls and the blocks restart. -/
  | wakeDone
  /-- R652. Tj at or above the trip level for 1 ms forces a POR held until the release level. -/
  | thermalTrip (tj : Int)
  /-- R648. A failed REFCLK (or OSC10M while it is the source) has been back within its window for 10 ms, and the islands held in reset restart on their kept configuration. -/
  | refclkReturn (osc : Bool)
  /-- R611. PCIe link training completes and the link is up, setting HIF_STATUS.LINK. -/
  | pcieLinkUp (width : Nat) (speed : Nat)
  /-- R485. The SGMII link of the MGT port to its external PHY goes up or down, updating MGT_STATUS and setting MGT_INT.LINK_CHG. -/
  | mgtLinkChange (up : Bool) (speed : Nat)
  /-- R661. Xaorn appends any valid flush to the mirror, erases the flush area and sets LOG_STATUS.FLUSH_READY. -/
  | flushAreaErase
  /-- R540. Xaorn hands a MGMT frame to the fabric, which routes it on the primary or alternate link and holds it until acknowledged. -/
  | mgmtFrameSend (dest : Nat) (bytes : List Byte) (deflate : Bool)
  deriving DecidableEq, Repr

end Sys2Proof
end

