-- ==== Sys2Proof/Config.lean ====
section
/-!
DEFINITION. What the spec leaves open: functions and values with no body, so that nothing can be proved of what they
are. Each is named in the assumption log.
-/

namespace Sys2Proof

/-- The filter of a reference's offset, which the spec names and does not define: the filtered offset after a servo
interval of the given mean, in quarter nanoseconds (R50, R73, R81). -/
opaque Config.offsetFilter : Int → Int → Int

/-- The filter of a reference's round-trip delay, in nanoseconds (R73). -/
opaque Config.rtdFilter : Nat → Nat → Nat

/-- A free value of 32 bits: the value drawn at a draw count. -/
opaque Config.freeWord : Nat → Word32

/-- Which code of Table SCP-5 a word carries whose arithmetic has no numeric result; the spec does not say (R9). -/
opaque Config.nanCode : Fin 5

/-- The KDF of a derivation: parent material, KDF number, label and context to the new key's material (R560). -/
opaque Config.derive : Nat → Nat → List Byte → List Byte → Nat

/-- The 8-byte Device Serial Number. -/
opaque Config.serial : Nat

/-- The import public key, 65 bytes, as a number (Table KEY-6). -/
opaque Config.importKey : Nat

/-- The attestation signature over a statement, 64 bytes, as a number (R569). -/
opaque Config.attestSig : List Byte → Nat

/-- The device certificate: its length and its bytes (Table KEY-6). -/
opaque Config.certLen : Nat
opaque Config.certByte : Nat → Byte

/-- Does an image, given by its bytes that are not erased, pass the check of its header and signature with this length
(`none`: the length its own header gives) (R626, Table RST-6)? The header's layout and the firmware key are not given. -/
opaque Config.imageOk : List (Nat × Option Byte) → Option Nat → Bool

/-- SHA-384 of an image's body and SHA-256 of the boot settings, as numbers (Table KEY-6). -/
opaque Config.imageSha : List (Nat × Option Byte) → Nat
opaque Config.sha256 : List Byte → Nat

/-- Bytes of the flash beyond 64 MiB (Table RST-4). -/
opaque Config.flashExtra : Nat

/-- The trip and release levels of the on-die sensor in °C, which the spec gives as ranges of 118 to 122 and 108 to 112
(Table PIN-13). -/
opaque Config.tripLevel : Int
opaque Config.releaseLevel : Int

/-- The raw DEFLATE stream of a COMPRESS job and its blocks: EFFORT, TABLE, NOTFINAL and the source. The spec leaves the
match search and the dynamic codes open (R598). -/
opaque Config.deflate : Nat → Nat → Bool → List Byte → List Byte × Nat

/-- Where a stored block of 64 KiB, which one stored block of RFC 1951 cannot hold, is cut (R598). -/
opaque Config.storedCut : Nat

/-- Bytes of a port's receive buffer beyond one longest frame, which the spec does not give (R149, RX_FIFO_DROP). -/
opaque Config.rxBufExtra : Nat

/-- Bytes of a port's receive buffer: it holds at least one frame of the greatest MAX_LEN (DEDUCED from R126, log entry 8). -/
def Config.rxBufBytes : Nat := Config.rxBufExtra + 9216

/-- The template of a supervision frame, which Xaorn writes by means the spec does not give (R161): the frame at a version of
Xaorn's data, from its destination address to its FCS, without it. -/
opaque Config.template : Nat → List Byte

/-- The state that Xaorn sets a PTP port to, at a version of its data: the best master clock algorithm is not part of the spec
(R52). -/
opaque Config.portState : Nat → PtpState

/-- The template of a PTP message, which Xaorn writes by means the spec does not give (R52): the frame of a type at a version of
Xaorn's data, from its destination address to its FCS, without it. -/
opaque Config.ptpTemplate : Nat → PtpType → List Byte

/-- A PTP message with the fields put in that the hardware fills, at the places and in the form that IEEE 1588-2019 and IEEE
C37.238 give them (R53 to R55): the type, the frame, the fields' values, and a grandmaster's other fields that are passed
through. -/
opaque Config.ptpFill : PtpType → List Byte → List Int → List Byte → List Byte

/-- How far the mixer's cosine and sine lie from the exact ones, in units of 2^-30, at a nominal frequency and an instant in
quarter nanoseconds: the error below 2^-24 that the spec leaves open (R297). -/
opaque Config.mixDev : Nat → Nat → Int × Int

/-- The eigenvalues of a 4 × 4 Hermitian matrix and its eigenvectors, by a cyclic Jacobi whose sweeps the spec does not
give (R404): the sixteen complex entries in row order to the four values, descending, and the sixteen complex entries of
u in row order, each part as the bits of a binary64. -/
opaque Config.eig4 : List Word64 → List Word64

/-- The UDP payload of an IEC TR 61850-90-5 frame, whose encoding another standard gives (R248, R374): the session header of
the template, the SPDU number, smpCnt, the instant in nanoseconds, the members (an INT32 or a FLOAT32), and algorithm and key
of its tag. -/
opaque Config.sessionFrame :
  List Byte → Nat → Nat → Nat → List (Bool × Word32) → Nat → Option Nat → List Byte

end Sys2Proof
end

