-- ==== Sys2Proof/Machine/FMap.lean ====
section
/-!
DEFINITION. A sparse table: a list of (key, value) pairs with strictly rising keys and no entry equal to what an
unlisted key reads as. Registers, memories and per-instance engine state all stand in such tables, so that
equal contents are equal data.
-/

namespace Sys2Proof

/-- A sparse table from numbers to values. -/
abbrev FMap (α : Type) := List (Nat × α)

/-- The entry of a key, if the table lists one. -/
def fmLook {α : Type} : FMap α → Nat → Option α
  | [], _ => none
  | (k, v) :: m, a => if a = k then some v else fmLook m a

/-- List a key with a value, keys rising. -/
def fmInsert {α : Type} : FMap α → Nat → α → FMap α
  | [], a, x => [(a, x)]
  | (k, v) :: m, a, x =>
    if a < k then (a, x) :: (k, v) :: m
    else if a = k then (a, x) :: m
    else (k, v) :: fmInsert m a x

/-- Drop a key. -/
def fmErase {α : Type} (m : FMap α) (a : Nat) : FMap α :=
  m.filter fun e => e.1 != a

/-- What the table reads at a key: its entry, else the default of that key. -/
def fmAt {α : Type} (dflt : Nat → α) (m : FMap α) (a : Nat) : α :=
  (fmLook m a).getD (dflt a)

/-- Write a key; the value an unlisted key reads as removes the entry. -/
def fmPut {α : Type} [DecidableEq α] (dflt : Nat → α) (m : FMap α) (a : Nat) (x : α) : FMap α :=
  if x = dflt a then fmErase m a else fmInsert m a x

/-- Keys rise strictly from a bound on. -/
def fmSorted {α : Type} : Option Nat → FMap α → Bool
  | _, [] => true
  | none, (k, _) :: m => fmSorted (some k) m
  | some b, (k, _) :: m => decide (b < k) && fmSorted (some k) m

/-- The canonical form: keys rise strictly and no entry equals the default of its key. -/
def fmWf {α : Type} [DecidableEq α] (dflt : Nat → α) (m : FMap α) : Bool :=
  fmSorted none m && m.all fun e => decide (e.2 ≠ dflt e.1)

/-- Per-instance state of an engine: an instance that is not listed has the default (empty) state. -/
def tget {α : Type} [Inhabited α] (m : FMap α) (i : Nat) : α :=
  fmAt (fun _ => default) m i

/-- Write the state of one instance. -/
def tset {α : Type} [Inhabited α] [DecidableEq α] (m : FMap α) (i : Nat) (x : α) : FMap α :=
  fmPut (fun _ => default) m i x

/-- Change the state of one instance. -/
def tmod {α : Type} [Inhabited α] [DecidableEq α] (m : FMap α) (i : Nat) (f : α → α) : FMap α :=
  tset m i (f (tget m i))

end Sys2Proof
end

