-- ==== Sys2Proof/Machine/Field.lean ====
section
/-!
DEFINITION. What a register table row says of a field: where its register lies (with the instance strides of the
address map), its bits, its access code (Table SCP-3), its Reset value and its Keeps letters (Table SCP-4).
-/

namespace Sys2Proof

/-- Where a register lies in BAR0: `count` instances `stride` apart, each of `sub` words `substride` apart
(Table MAP-1: "the block base, plus the instance stride, plus the register's offset"). -/
structure RegAt where
  base : Nat
  stride : Nat
  count : Nat
  sub : Nat
  substride : Nat
  deriving DecidableEq, Repr

/-- Access codes of Table SCP-3. -/
inductive Access where
  | rw | ro | rc | w1c | w1s | wo | rwl
  deriving DecidableEq, Repr

/-- The letters of the Keeps column (Table SCP-4). -/
structure Keeps where
  h : Bool
  s : Bool
  i : Bool
  d : Bool
  deriving DecidableEq, Repr

def kNone : Keeps := ⟨false, false, false, false⟩
def kH : Keeps := ⟨true, false, false, false⟩
def kD : Keeps := ⟨false, false, false, true⟩
def kHI : Keeps := ⟨true, false, true, false⟩
def kHID : Keeps := ⟨true, false, true, true⟩
def kHSID : Keeps := ⟨true, true, true, true⟩

/-- One field of a register or of a table-window word. -/
structure Field where
  reg : RegAt
  lo : Nat
  width : Nat
  acc : Access
  reset : Nat
  keeps : Keeps
  deriving DecidableEq, Repr

/-- BAR0 byte address of word `j` of a register, words counted through the sub-words of each instance. -/
def RegAt.addr (r : RegAt) (j : Nat) : Nat :=
  r.base + (j / r.sub) * r.stride + (j % r.sub) * r.substride

/-- Words of the register, over all instances. -/
def RegAt.size (r : RegAt) : Nat := r.count * r.sub

/-- The word index of an address inside this register, if it is one of its words. -/
def RegAt.index? (r : RegAt) (a : Nat) : Option Nat :=
  if a < r.base then none else
    let d := a - r.base
    let i := if r.stride = 0 then 0 else min (d / r.stride) (r.count - 1)
    let e := d - i * r.stride
    let j := if r.substride = 0 then 0 else e / r.substride
    let k := i * r.sub + j
    if i < r.count ∧ j < r.sub ∧ r.addr k = a then some k else none

/-- The bits of the field, in place. -/
def Field.mask (f : Field) : Word32 := BitVec.ofNat 32 ((2 ^ f.width - 1) * 2 ^ f.lo)

/-- A field lies inside the word. -/
def Field.fits (f : Field) : Bool := decide (f.lo + f.width ≤ 32)

end Sys2Proof
end

