-- ==== Sys2Proof/Machine/RegsA.lean ====
section
/-!
DEFINITION. GLB, TKP and HMP registers: every field of the spec's register tables and table windows of these
blocks, with its place, its access code, its Reset value and its Keeps letters, as the tables state them.
-/

namespace Sys2Proof

/-- Table RST-7 (18_reset_power_boot). -/
def At.GLB_ID : RegAt := ⟨0x0, 0x0, 1, 1, 0⟩
/-- R1 -/
def Reg.GLB_ID.ID : Field := ⟨At.GLB_ID, 0, 32, .ro, 0x51200B0, kHSID⟩

/-- Table RST-7 (18_reset_power_boot). -/
def At.GLB_CTRL : RegAt := ⟨0x4, 0x0, 1, 1, 0⟩
/-- Table RST-1 -/
def Reg.GLB_CTRL.HRST_SCOPE : Field := ⟨At.GLB_CTRL, 0, 1, .rwl, 0x0, kHSID⟩

/-- Table RST-7 (18_reset_power_boot). -/
def At.GLB_STATUS : RegAt := ⟨0x8, 0x0, 1, 1, 0⟩
/-- R627 -/
def Reg.GLB_STATUS.READY : Field := ⟨At.GLB_STATUS, 0, 1, .ro, 0x0, kHID⟩
/-- R7 -/
def Reg.GLB_STATUS.TORN : Field := ⟨At.GLB_STATUS, 1, 1, .w1c, 0x0, kHID⟩
/-- R460 -/
def Reg.GLB_STATUS.ISL_RST_RD : Field := ⟨At.GLB_STATUS, 2, 1, .w1c, 0x0, kHID⟩
/-- R616 -/
def Reg.GLB_STATUS.ISL_RST_WR : Field := ⟨At.GLB_STATUS, 3, 1, .w1c, 0x0, kHID⟩
/-- Xaorn services running -/
def Reg.GLB_STATUS.XAORN_RUN : Field := ⟨At.GLB_STATUS, 4, 1, .ro, 0x0, kHID⟩
/-- R626 -/
def Reg.GLB_STATUS.XFAIL : Field := ⟨At.GLB_STATUS, 5, 1, .ro, 0x0, kHID⟩
/-- R629 to R631 -/
def Reg.GLB_STATUS.UPDATING : Field := ⟨At.GLB_STATUS, 6, 1, .ro, 0x0, kHSID⟩
/-- R620, R623 -/
def Reg.GLB_STATUS.DOZE : Field := ⟨At.GLB_STATUS, 7, 1, .ro, 0x0, kHSID⟩
/-- Running image slot: 0 A, 1 B -/
def Reg.GLB_STATUS.SLOT : Field := ⟨At.GLB_STATUS, 8, 1, .ro, 0x0, kHID⟩
/-- R625 -/
def Reg.GLB_STATUS.SET_DEF : Field := ⟨At.GLB_STATUS, 9, 1, .ro, 0x0, kHSID⟩
/-- PFW_N is low -/
def Reg.GLB_STATUS.PFW : Field := ⟨At.GLB_STATUS, 10, 1, .ro, 0x0, kHSID⟩

/-- Table RST-8 (18_reset_power_boot). -/
def At.GLB_RST : RegAt := ⟨0xC, 0x0, 1, 1, 0⟩
/-- R609 -/
def Reg.GLB_RST.GO : Field := ⟨At.GLB_RST, 0, 1, .wo, 0x0, kNone⟩
/-- Must be 0x5352 -/
def Reg.GLB_RST.KEY : Field := ⟨At.GLB_RST, 16, 16, .wo, 0x0, kNone⟩

/-- Table RST-8 (18_reset_power_boot). -/
def At.GLB_ISLRST_LO : RegAt := ⟨0x10, 0x0, 1, 1, 0⟩
/-- Table RST-2; a bit reads 1 while its island is in reset -/
def Reg.GLB_ISLRST_LO.ISL : Field := ⟨At.GLB_ISLRST_LO, 0, 32, .w1s, 0x0, kNone⟩

/-- Table RST-8 (18_reset_power_boot). -/
def At.GLB_ISLRST_HI : RegAt := ⟨0x14, 0x0, 1, 1, 0⟩
/-- Table RST-2 -/
def Reg.GLB_ISLRST_HI.ISL : Field := ⟨At.GLB_ISLRST_HI, 0, 4, .w1s, 0x0, kNone⟩

/-- Table RST-8 (18_reset_power_boot). -/
def At.GLB_LOCK : RegAt := ⟨0x18, 0x0, 1, 1, 0⟩
/-- Makes every RWL field read-only; cleared only by POR, SRST and HRST with scope 1 (R27) -/
def Reg.GLB_LOCK.LOCK : Field := ⟨At.GLB_LOCK, 0, 1, .w1s, 0x0, kHID⟩

/-- Table RST-8 (18_reset_power_boot). -/
def At.GLB_RSTCAUSE : RegAt := ⟨0x1C, 0x0, 1, 1, 0⟩
/-- Last reset: 0 POR, 1 HRST, 2 SRST, 3 IRST, 4 HRST with scope 1 -/
def Reg.GLB_RSTCAUSE.KIND : Field := ⟨At.GLB_RSTCAUSE, 0, 3, .ro, 0x0, kHSID⟩
/-- Island of the last IRST -/
def Reg.GLB_RSTCAUSE.ISLAND : Field := ⟨At.GLB_RSTCAUSE, 8, 6, .ro, 0x0, kHSID⟩
/-- The last POR came from SYS_RST_N, not a supply monitor -/
def Reg.GLB_RSTCAUSE.EXT : Field := ⟨At.GLB_RSTCAUSE, 16, 1, .ro, 0x0, kHSID⟩

/-- Table RST-9 (18_reset_power_boot). -/
def At.GLB_INT : RegAt := ⟨0x24, 0x0, 1, 1, 0⟩
/-- READY rose -/
def Reg.GLB_INT.READY : Field := ⟨At.GLB_INT, 0, 1, .w1c, 0x0, kHID⟩
/-- R617 -/
def Reg.GLB_INT.RST : Field := ⟨At.GLB_INT, 1, 1, .w1c, 0x0, kHSID⟩
/-- R623 -/
def Reg.GLB_INT.WAKE : Field := ⟨At.GLB_INT, 2, 1, .w1c, 0x0, kHSID⟩
/-- PFW_N fell -/
def Reg.GLB_INT.PFW : Field := ⟨At.GLB_INT, 3, 1, .w1c, 0x0, kHSID⟩
/-- R630, R631, or XFAIL set -/
def Reg.GLB_INT.XAORN : Field := ⟨At.GLB_INT, 4, 1, .w1c, 0x0, kHSID⟩
/-- R609, R619 -/
def Reg.GLB_INT.REJ : Field := ⟨At.GLB_INT, 5, 1, .w1c, 0x0, kHSID⟩
/-- R19 -/
def Reg.GLB_INT.CLK_FAIL : Field := ⟨At.GLB_INT, 6, 1, .w1c, 0x0, kHSID⟩
/-- Bit 16 + k enables cause k; vector 0 (Table HIF-8) -/
def Reg.GLB_INT.EN : Field := ⟨At.GLB_INT, 16, 7, .rw, 0x0, kHSID⟩

/-- Table RST-10 (18_reset_power_boot). -/
def At.GLB_DOZE : RegAt := ⟨0x28, 0x0, 1, 1, 0⟩
/-- R619; reads 0 -/
def Reg.GLB_DOZE.ENTER : Field := ⟨At.GLB_DOZE, 0, 1, .w1s, 0x0, kNone⟩
/-- R621; reads 0 -/
def Reg.GLB_DOZE.WAKE : Field := ⟨At.GLB_DOZE, 1, 1, .w1s, 0x0, kNone⟩
/-- OK, REJECTED, LATE or EXPIRED -/
def Reg.GLB_DOZE.STATUS : Field := ⟨At.GLB_DOZE, 8, 8, .ro, 0x0, kHSID⟩

/-- Table RST-10 (18_reset_power_boot). -/
def At.GLB_WAKE : RegAt := ⟨0x2C, 0x0, 1, 1, 0⟩
/-- Bit g: an edge on GPIO g wakes the device -/
def Reg.GLB_WAKE.GPIO : Field := ⟨At.GLB_WAKE, 0, 16, .rw, 0x0, kHSID⟩
/-- 0 rising edge, 1 falling edge -/
def Reg.GLB_WAKE.FALL : Field := ⟨At.GLB_WAKE, 16, 1, .rw, 0x0, kHSID⟩
/-- R622 -/
def Reg.GLB_WAKE.TIMED : Field := ⟨At.GLB_WAKE, 17, 1, .rw, 0x0, kHSID⟩

/-- Table RST-10 (18_reset_power_boot). -/
def At.GLB_WAKE_ST : RegAt := ⟨0x30, 0x0, 1, 1, 0⟩
/-- Wake target, ST32 -/
def Reg.GLB_WAKE_ST.ST : Field := ⟨At.GLB_WAKE_ST, 0, 32, .rw, 0x0, kHSID⟩

/-- Table RST-10 (18_reset_power_boot). -/
def At.GLB_WAKE_TE : RegAt := ⟨0x34, 0x0, 1, 1, 0⟩
/-- Target epoch; used in EXTEND only -/
def Reg.GLB_WAKE_TE.EPOCH : Field := ⟨At.GLB_WAKE_TE, 0, 16, .rw, 0x0, kHSID⟩
/-- µs; 0: no lateness tolerated (R43) -/
def Reg.GLB_WAKE_TE.LATE_TOL : Field := ⟨At.GLB_WAKE_TE, 16, 16, .rw, 0x0, kHSID⟩

/-- Table RST-10 (18_reset_power_boot). -/
def At.GLB_XAORN : RegAt := ⟨0x38, 0x0, 1, 1, 0⟩
/-- Status code of the last update (R630) -/
def Reg.GLB_XAORN.LAST : Field := ⟨At.GLB_XAORN, 0, 8, .ro, 0x0, kHSID⟩
/-- Core restarts under R631, saturating -/
def Reg.GLB_XAORN.RESTARTS : Field := ⟨At.GLB_XAORN, 8, 8, .ro, 0x0, kHSID⟩

/-- Table ARC-4 (01_architecture). -/
def At.GLB_SPLIT : RegAt := ⟨0x20, 0x0, 1, 1, 0⟩
/-- Time servo. 0 off: frequency word frozen. 1 hardware servo. 2 host writes the frequency word. 3 reserved. -/
def Reg.GLB_SPLIT.SERVO : Field := ⟨At.GLB_SPLIT, 0, 2, .rwl, 0x1, kHSID⟩
/-- Alignment. 0 off: parsed frames discarded and counted. 1 Roll Call. 2 parsed frames to the host. 3 reserved. -/
def Reg.GLB_SPLIT.ALIGN : Field := ⟨At.GLB_SPLIT, 2, 2, .rwl, 0x0, kHID⟩
/-- Raw-lane phasor estimation. 0 off. 1 hardware. 2 decimated I/Q to the host. 3 reserved. -/
def Reg.GLB_SPLIT.PHASOR : Field := ⟨At.GLB_SPLIT, 4, 2, .rwl, 0x0, kHID⟩
/-- Rules, island detector and quick detectors together. 0 off. 1 hardware. 2 host evaluates from the spread ring. 3 reserved. -/
def Reg.GLB_SPLIT.RULES : Field := ⟨At.GLB_SPLIT, 6, 2, .rwl, 0x0, kHID⟩
/-- Modal engine. 0 off. 1 hardware decomposition. 2 matrix snapshots to the host. 3 reserved. -/
def Reg.GLB_SPLIT.MODAL : Field := ⟨At.GLB_SPLIT, 8, 2, .rwl, 0x0, kHID⟩
/-- Capture. 0 off. 1 or 2 on; 2 behaves as 1. 3 reserved. -/
def Reg.GLB_SPLIT.CAPTURE : Field := ⟨At.GLB_SPLIT, 10, 2, .rwl, 0x0, kHID⟩
/-- Compression. 0 off. 1 or 2 on; 2 behaves as 1. 3 reserved. -/
def Reg.GLB_SPLIT.COMP : Field := ⟨At.GLB_SPLIT, 12, 2, .rwl, 0x0, kHID⟩
/-- Dispatch. 0 off. 1 or 2 on; 2 behaves as 1. 3 reserved. -/
def Reg.GLB_SPLIT.DSPT : Field := ⟨At.GLB_SPLIT, 14, 2, .rwl, 0x1, kHID⟩
/-- Logbook mirroring to flash. 0 off. 1 or 2 on; 2 behaves as 1. 3 reserved. -/
def Reg.GLB_SPLIT.LOGMIR : Field := ⟨At.GLB_SPLIT, 16, 2, .rwl, 0x1, kHSID⟩
/-- Key store. 0 off: no key handles issued. 1 on. 2 and 3 rejected. -/
def Reg.GLB_SPLIT.KEY : Field := ⟨At.GLB_SPLIT, 18, 2, .rwl, 0x1, kHSID⟩
/-- Set when a write carried a rejected value. -/
def Reg.GLB_SPLIT.REJ : Field := ⟨At.GLB_SPLIT, 31, 1, .w1c, 0x0, kHID⟩

/-- Table TKP-7 (02_timekeeper). -/
def At.TKP_CTRL : RegAt := ⟨0x10000, 0x0, 1, 1, 0⟩
/-- 0 SIGNED, 1 EXTEND (R36 to R39) -/
def Reg.TKP_CTRL.STMODE : Field := ⟨At.TKP_CTRL, 0, 1, .rw, 0x0, kHSID⟩
/-- AON clock from 0 REFCLK, 1 OSC10M. The switch takes effect within 1 ms, without a phase step. -/
def Reg.TKP_CTRL.CLKSRC : Field := ⟨At.TKP_CTRL, 1, 1, .rwl, 0x0, kHSID⟩
/-- 1 allows servo steps after first lock -/
def Reg.TKP_CTRL.STEP_EN : Field := ⟨At.TKP_CTRL, 2, 1, .rw, 0x0, kHSID⟩
/-- TKP_ADJ: 0 step, 1 slew -/
def Reg.TKP_CTRL.ADJ_MODE : Field := ⟨At.TKP_CTRL, 3, 1, .rw, 0x0, kHSID⟩
/-- Asymmetry detector on -/
def Reg.TKP_CTRL.ASYM_EN : Field := ⟨At.TKP_CTRL, 4, 1, .rw, 0x1, kHSID⟩
/-- R77 -/
def Reg.TKP_CTRL.ASYM_LEARN : Field := ⟨At.TKP_CTRL, 5, 1, .rw, 0x0, kHSID⟩
/-- TKP_ADJ: 0 takes effect at the next tick; 1 takes effect at TKP_ADJ_T (R68) -/
def Reg.TKP_CTRL.ADJ_TIMED : Field := ⟨At.TKP_CTRL, 6, 1, .rw, 0x0, kHSID⟩

/-- Table TKP-8 (02_timekeeper). -/
def At.TKP_STATUS : RegAt := ⟨0x10004, 0x0, 1, 1, 0⟩
/-- Table TKP-5 -/
def Reg.TKP_STATUS.STATE : Field := ⟨At.TKP_STATUS, 0, 3, .ro, 0x0, kHSID⟩
/-- No active reference -/
def Reg.TKP_STATUS.ACT_NONE : Field := ⟨At.TKP_STATUS, 3, 1, .ro, 0x1, kHSID⟩
/-- Active slot; meaningless while ACT_NONE = 1 -/
def Reg.TKP_STATUS.ACTIVE : Field := ⟨At.TKP_STATUS, 4, 2, .ro, 0x0, kHSID⟩
/-- One bit per slot -/
def Reg.TKP_STATUS.REF_VALID : Field := ⟨At.TKP_STATUS, 8, 4, .ro, 0x0, kHSID⟩
/-- One bit per slot -/
def Reg.TKP_STATUS.REF_SUSPECT : Field := ⟨At.TKP_STATUS, 12, 4, .ro, 0x0, kHSID⟩
/-- OSC10M within ±2 % -/
def Reg.TKP_STATUS.OSC10M_OK : Field := ⟨At.TKP_STATUS, 16, 1, .ro, 0x0, kHSID⟩
/-- LOCKED reached since POR -/
def Reg.TKP_STATUS.EVER_LOCKED : Field := ⟨At.TKP_STATUS, 17, 1, .ro, 0x0, kHSID⟩
/-- Comparison running -/
def Reg.TKP_STATUS.ASYM_PEND : Field := ⟨At.TKP_STATUS, 18, 1, .ro, 0x0, kHSID⟩
/-- A slew is in progress -/
def Reg.TKP_STATUS.SLEWING : Field := ⟨At.TKP_STATUS, 19, 1, .ro, 0x0, kHSID⟩

/-- Table TKP-9 (02_timekeeper). -/
def At.TKP_NOW_NS : RegAt := ⟨0x10008, 0x0, 1, 1, 0⟩
/-- Nanoseconds; the read latches SL and SH (R35) -/
def Reg.TKP_NOW_NS.NS : Field := ⟨At.TKP_NOW_NS, 0, 32, .ro, 0x0, kHSID⟩

/-- Table TKP-9 (02_timekeeper). -/
def At.TKP_NOW_SL : RegAt := ⟨0x1000C, 0x0, 1, 1, 0⟩
/-- TAI seconds [31:0] from the shadow -/
def Reg.TKP_NOW_SL.SEC : Field := ⟨At.TKP_NOW_SL, 0, 32, .ro, 0x0, kHSID⟩

/-- Table TKP-9 (02_timekeeper). -/
def At.TKP_NOW_SH : RegAt := ⟨0x10010, 0x0, 1, 1, 0⟩
/-- TAI seconds [47:32] from the shadow; [31:16] read 0 -/
def Reg.TKP_NOW_SH.SEC : Field := ⟨At.TKP_NOW_SH, 0, 16, .ro, 0x0, kHSID⟩

/-- Table TKP-9 (02_timekeeper). -/
def At.TKP_ST32 : RegAt := ⟨0x10014, 0x0, 1, 1, 0⟩
/-- Current ST32; low half of the pair -/
def Reg.TKP_ST32.ST : Field := ⟨At.TKP_ST32, 0, 32, .ro, 0x0, kHSID⟩

/-- Table TKP-9 (02_timekeeper). -/
def At.TKP_EPOCH : RegAt := ⟨0x10018, 0x0, 1, 1, 0⟩
/-- Epoch from the shadow; [31:16] read 0 -/
def Reg.TKP_EPOCH.EPOCH : Field := ⟨At.TKP_EPOCH, 0, 16, .ro, 0x0, kHSID⟩

/-- Table TKP-10 (02_timekeeper). -/
def At.TKP_FREQ_LO : RegAt := ⟨0x10020, 0x0, 1, 1, 0⟩
/-- Frequency word [31:0], units of 2^-48 ns/ns; reads return the word in use and latch its HI (R66) -/
def Reg.TKP_FREQ_LO.F : Field := ⟨At.TKP_FREQ_LO, 0, 32, .rw, 0x0, kHSID⟩

/-- Table TKP-10 (02_timekeeper). -/
def At.TKP_FREQ_HI : RegAt := ⟨0x10024, 0x0, 1, 1, 0⟩
/-- Frequency word [39:32], signed; the write applies the word (R66); [31:8] reserved -/
def Reg.TKP_FREQ_HI.F : Field := ⟨At.TKP_FREQ_HI, 0, 8, .rw, 0x0, kHSID⟩

/-- Table TKP-10 (02_timekeeper). -/
def At.TKP_ADJ : RegAt := ⟨0x10028, 0x0, 1, 1, 0⟩
/-- Signed phase adjustment in ns (R67, R68); 0 has no effect -/
def Reg.TKP_ADJ.NS : Field := ⟨At.TKP_ADJ, 0, 32, .wo, 0x0, kNone⟩

/-- Table TKP-10 (02_timekeeper). -/
def At.TKP_ADJ_T : RegAt := ⟨0x10070, 0x0, 1, 1, 0⟩
/-- Target of a timed adjustment, ST32 (R68) -/
def Reg.TKP_ADJ_T.ST : Field := ⟨At.TKP_ADJ_T, 0, 32, .rw, 0x0, kHSID⟩

/-- Table TKP-10 (02_timekeeper). -/
def At.TKP_ADJ_TE : RegAt := ⟨0x10074, 0x0, 1, 1, 0⟩
/-- Target epoch; used in EXTEND only -/
def Reg.TKP_ADJ_TE.EPOCH : Field := ⟨At.TKP_ADJ_TE, 0, 16, .rw, 0x0, kHSID⟩
/-- µs; 0: no lateness tolerated (R43) -/
def Reg.TKP_ADJ_TE.LATE_TOL : Field := ⟨At.TKP_ADJ_TE, 16, 16, .rw, 0x0, kHSID⟩

/-- Table TKP-10 (02_timekeeper). -/
def At.TKP_ADJ_STAT : RegAt := ⟨0x10078, 0x0, 1, 1, 0⟩
/-- OK, LATE or EXPIRED of the last timed adjustment -/
def Reg.TKP_ADJ_STAT.STATUS : Field := ⟨At.TKP_ADJ_STAT, 0, 8, .ro, 0x0, kHSID⟩
/-- A timed adjustment is pending -/
def Reg.TKP_ADJ_STAT.PEND : Field := ⟨At.TKP_ADJ_STAT, 8, 1, .ro, 0x0, kHSID⟩

/-- Table TKP-11 (02_timekeeper). -/
def At.TKP_SERVO : RegAt := ⟨0x10030, 0x0, 1, 1, 0⟩
/-- Servo interval 2^-INTERVAL s -/
def Reg.TKP_SERVO.INTERVAL : Field := ⟨At.TKP_SERVO, 0, 2, .rw, 0x2, kHSID⟩
/-- kp = 2^-KP_SHIFT -/
def Reg.TKP_SERVO.KP_SHIFT : Field := ⟨At.TKP_SERVO, 4, 4, .rw, 0x1, kHSID⟩
/-- ki = 2^-KI_SHIFT -/
def Reg.TKP_SERVO.KI_SHIFT : Field := ⟨At.TKP_SERVO, 8, 4, .rw, 0x4, kHSID⟩
/-- ppm; 0: the slew clamp is bypassed and only the ±500 ppm limit applies -/
def Reg.TKP_SERVO.SLEW_MAX : Field := ⟨At.TKP_SERVO, 16, 8, .rw, 0x64, kHSID⟩
/-- log2 of the averaged words, 0–10; larger values act as 10 -/
def Reg.TKP_SERVO.HO_AVG : Field := ⟨At.TKP_SERVO, 24, 4, .rw, 0x6, kHSID⟩

/-- Table TKP-11 (02_timekeeper). -/
def At.TKP_LOCK : RegAt := ⟨0x10034, 0x0, 1, 1, 0⟩
/-- ns; 0: lock check bypassed, LOCKED never entered -/
def Reg.TKP_LOCK.LOCK_THR : Field := ⟨At.TKP_LOCK, 0, 16, .rw, 0x64, kHSID⟩
/-- ns; 0: unlock check bypassed, and R65 always enters ACQUIRE -/
def Reg.TKP_LOCK.UNLOCK_THR : Field := ⟨At.TKP_LOCK, 16, 16, .rw, 0x3E8, kHSID⟩

/-- Table TKP-11 (02_timekeeper). -/
def At.TKP_GATE : RegAt := ⟨0x10060, 0x0, 1, 1, 0⟩
/-- µs; 0: the servo never steps -/
def Reg.TKP_GATE.STEP_THR : Field := ⟨At.TKP_GATE, 0, 16, .rw, 0xA, kHSID⟩
/-- ns; 0: outlier gate bypassed -/
def Reg.TKP_GATE.OUTLIER : Field := ⟨At.TKP_GATE, 16, 16, .rw, 0x7D0, kHSID⟩

/-- Table TKP-12 (02_timekeeper). -/
def At.TKP_HO : RegAt := ⟨0x10038, 0x0, 1, 1, 0⟩
/-- Error growth in units of 0.1 ns/s; 0: no growth -/
def Reg.TKP_HO.HO_RATE : Field := ⟨At.TKP_HO, 0, 16, .rw, 0xA, kHSID⟩
/-- µs, for clockClass 7; 0: 187 from entry -/
def Reg.TKP_HO.HO_LIMIT : Field := ⟨At.TKP_HO, 16, 8, .rw, 0x1, kHSID⟩
/-- Units of 125 ms; 0: watchdog bypassed -/
def Reg.TKP_HO.HOST_TMO : Field := ⟨At.TKP_HO, 24, 8, .rw, 0x20, kHSID⟩

/-- Table TKP-12 (02_timekeeper). -/
def At.TKP_ASYM : RegAt := ⟨0x1003C, 0x0, 1, 1, 0⟩
/-- Units of 100 ns; 0: detection bypassed -/
def Reg.TKP_ASYM.THR : Field := ⟨At.TKP_ASYM, 0, 16, .rw, 0x14, kHSID⟩
/-- Updates; 0: the second reference wins at once -/
def Reg.TKP_ASYM.CONFIRM : Field := ⟨At.TKP_ASYM, 16, 4, .rw, 0x8, kHSID⟩
/-- Units of 10 ns; 0: agreement never found -/
def Reg.TKP_ASYM.AGREE : Field := ⟨At.TKP_ASYM, 20, 12, .rw, 0x14, kHSID⟩

/-- Table TKP-13 (02_timekeeper). -/
def At.TKP_TQ : RegAt := ⟨0x10040, 0x0, 1, 1, 0⟩
/-- ns; 0xFF_FFFF unknown -/
def Reg.TKP_TQ.HOST_ERR : Field := ⟨At.TKP_TQ, 0, 24, .rw, 0xFFFFFF, kHSID⟩
/-- µs; 0: sync error set whenever e > 0 -/
def Reg.TKP_TQ.SYNC_LIMIT : Field := ⟨At.TKP_TQ, 24, 8, .rw, 0xA, kHSID⟩

/-- Table TKP-13 (02_timekeeper). -/
def At.TKP_ERR : RegAt := ⟨0x10064, 0x0, 1, 1, 0⟩
/-- e in ns, saturating; all ones means unknown -/
def Reg.TKP_ERR.E : Field := ⟨At.TKP_ERR, 0, 32, .ro, 0xFFFFFFFF, kHSID⟩

/-- Table TKP-13 (02_timekeeper). -/
def At.TKP_TQ_OUT : RegAt := ⟨0x10068, 0x0, 1, 1, 0⟩
/-- Message time quality -/
def Reg.TKP_TQ_OUT.TQ : Field := ⟨At.TKP_TQ_OUT, 0, 4, .ro, 0xF, kHSID⟩
/-- STAT [8:6] -/
def Reg.TKP_TQ_OUT.STATQ : Field := ⟨At.TKP_TQ_OUT, 4, 3, .ro, 0x7, kHSID⟩
/-- STAT [5:4] -/
def Reg.TKP_TQ_OUT.UNLK : Field := ⟨At.TKP_TQ_OUT, 8, 2, .ro, 0x3, kHSID⟩
/-- STAT bit 13 -/
def Reg.TKP_TQ_OUT.SYNCERR : Field := ⟨At.TKP_TQ_OUT, 10, 1, .ro, 0x1, kHSID⟩
/-- clockAccuracy -/
def Reg.TKP_TQ_OUT.ACC : Field := ⟨At.TKP_TQ_OUT, 16, 8, .ro, 0xFE, kHSID⟩
/-- clockClass -/
def Reg.TKP_TQ_OUT.CLASS : Field := ⟨At.TKP_TQ_OUT, 24, 8, .ro, 0xF8, kHSID⟩

/-- Table TKP-14 (02_timekeeper). -/
def At.TKP_UTC : RegAt := ⟨0x10044, 0x0, 1, 1, 0⟩
/-- TAI − UTC in s -/
def Reg.TKP_UTC.UTC_OFS : Field := ⟨At.TKP_UTC, 0, 16, .rw, 0x25, kHSID⟩
/-- Leap second at the end of this UTC day -/
def Reg.TKP_UTC.LEAP_PEND : Field := ⟨At.TKP_UTC, 16, 1, .rw, 0x0, kHSID⟩
/-- 0 insert, 1 delete -/
def Reg.TKP_UTC.LEAP_DIR : Field := ⟨At.TKP_UTC, 17, 1, .rw, 0x0, kHSID⟩
/-- Set for 24 h after a leap -/
def Reg.TKP_UTC.LEAP_OCC : Field := ⟨At.TKP_UTC, 18, 1, .ro, 0x0, kHSID⟩
/-- 1: ignore reference-supplied values -/
def Reg.TKP_UTC.HOST_ONLY : Field := ⟨At.TKP_UTC, 19, 1, .rw, 0x0, kHSID⟩

/-- Table TKP-14 (02_timekeeper). -/
def At.TKP_TIN : RegAt := ⟨0x10048, 0x0, 1, 1, 0⟩
/-- 1PPS input on -/
def Reg.TKP_TIN.PPS_EN : Field := ⟨At.TKP_TIN, 0, 1, .rw, 0x0, kHSID⟩
/-- 0 rising edge, 1 falling edge -/
def Reg.TKP_TIN.PPS_FALL : Field := ⟨At.TKP_TIN, 1, 1, .rw, 0x0, kHSID⟩
/-- IRIG-B decoding on -/
def Reg.TKP_TIN.IRIG_EN : Field := ⟨At.TKP_TIN, 2, 1, .rw, 0x0, kHSID⟩
/-- Honour the C37.118 extension -/
def Reg.TKP_TIN.IRIG_EXT : Field := ⟨At.TKP_TIN, 3, 1, .rw, 0x1, kHSID⟩
/-- R63 -/
def Reg.TKP_TIN.LABEL_NEAREST : Field := ⟨At.TKP_TIN, 4, 1, .rw, 0x0, kHSID⟩
/-- Treat PPS as traceable -/
def Reg.TKP_TIN.TRACEABLE : Field := ⟨At.TKP_TIN, 5, 1, .rw, 0x0, kHSID⟩
/-- Source error in units of 10 ns; 0: taken as zero -/
def Reg.TKP_TIN.PPS_ACC : Field := ⟨At.TKP_TIN, 8, 8, .rw, 0xA, kHSID⟩
/-- Signed ns, cable and receiver delay -/
def Reg.TKP_TIN.PPS_DLY : Field := ⟨At.TKP_TIN, 16, 16, .rw, 0x0, kHSID⟩

/-- Table TKP-14 (02_timekeeper). -/
def At.TKP_TIN_CNT : RegAt := ⟨0x1004C, 0x0, 1, 1, 0⟩
/-- Rejected edges, saturating -/
def Reg.TKP_TIN_CNT.BAD_PPS : Field := ⟨At.TKP_TIN_CNT, 0, 16, .rc, 0x0, kHSID⟩
/-- Rejected frames, saturating -/
def Reg.TKP_TIN_CNT.BAD_IRIG : Field := ⟨At.TKP_TIN_CNT, 16, 16, .rc, 0x0, kHSID⟩

/-- Table TKP-15 (02_timekeeper). -/
def At.TKP_TOUT : RegAt := ⟨0x10050, 0x0, 1, 1, 0⟩
/-- 1PPS output on -/
def Reg.TKP_TOUT.PPS_EN : Field := ⟨At.TKP_TOUT, 0, 1, .rw, 0x0, kHSID⟩
/-- 10 MHz output on -/
def Reg.TKP_TOUT.TEN_EN : Field := ⟨At.TKP_TOUT, 1, 1, .rw, 0x0, kHSID⟩
/-- R92 -/
def Reg.TKP_TOUT.SQUELCH : Field := ⟨At.TKP_TOUT, 2, 2, .rw, 0x1, kHSID⟩
/-- Units of 10 µs, 1–50,000 (10 µs to 500 ms); values above 50,000 act as 50,000; 0: PPS held low -/
def Reg.TKP_TOUT.PPS_WIDTH : Field := ⟨At.TKP_TOUT, 16, 16, .rw, 0xA, kHSID⟩

/-- Table TKP-15 (02_timekeeper). -/
def At.TKP_TOUT_OFS : RegAt := ⟨0x1006C, 0x0, 1, 1, 0⟩
/-- Signed ns, output advance or delay -/
def Reg.TKP_TOUT_OFS.NS : Field := ⟨At.TKP_TOUT_OFS, 0, 32, .rw, 0x0, kHSID⟩

/-- Table TKP-16 (02_timekeeper). -/
def At.TKP_PTP : RegAt := ⟨0x10054, 0x0, 1, 1, 0⟩
/-- 0 off, 1 ordinary, 2 boundary, 3 rejected -/
def Reg.TKP_PTP.ROLE : Field := ⟨At.TKP_PTP, 0, 2, .rwl, 0x0, kHSID⟩
/-- Transparent clock on the pairs in TC_PAIR -/
def Reg.TKP_PTP.TC_EN : Field := ⟨At.TKP_PTP, 2, 1, .rwl, 0x0, kHSID⟩
/-- Transmit two-step -/
def Reg.TKP_PTP.TWO_STEP : Field := ⟨At.TKP_PTP, 3, 1, .rwl, 0x0, kHSID⟩
/-- Slave-only ordinary clock -/
def Reg.TKP_PTP.SLAVE_ONLY : Field := ⟨At.TKP_PTP, 4, 1, .rwl, 0x0, kHSID⟩
/-- Annex P required -/
def Reg.TKP_PTP.AUTH_EN : Field := ⟨At.TKP_PTP, 5, 1, .rwl, 0x0, kHSID⟩
/-- Domain number -/
def Reg.TKP_PTP.DOMAIN : Field := ⟨At.TKP_PTP, 8, 8, .rwl, 0x0, kHSID⟩
/-- 0 61850-9-3, 1 C37.238-2017, 2 default peer-delay, 3 default delay request-response, 4–7 rejected -/
def Reg.TKP_PTP.PROFILE : Field := ⟨At.TKP_PTP, 16, 3, .rwl, 0x0, kHSID⟩
/-- Key-store slot for Annex P -/
def Reg.TKP_PTP.KEY_SLOT : Field := ⟨At.TKP_PTP, 24, 6, .rwl, 0x0, kHSID⟩

/-- Table TKP-16 (02_timekeeper). -/
def At.TKP_PTP_PORTS : RegAt := ⟨0x10058, 0x0, 1, 1, 0⟩
/-- Bit n: FP n is a PTP port -/
def Reg.TKP_PTP_PORTS.PORT_EN : Field := ⟨At.TKP_PTP_PORTS, 0, 16, .rwl, 0x0, kHSID⟩
/-- Bit k: FP2k and FP2k+1 -/
def Reg.TKP_PTP_PORTS.TC_PAIR : Field := ⟨At.TKP_PTP_PORTS, 16, 8, .rwl, 0x0, kHSID⟩

/-- Table TKP-17 (02_timekeeper). -/
def At.TKP_INT : RegAt := ⟨0x1005C, 0x0, 1, 1, 0⟩
/-- STATE changed -/
def Reg.TKP_INT.STATE_CHG : Field := ⟨At.TKP_INT, 0, 1, .w1c, 0x0, kHSID⟩
/-- Servo interval ended -/
def Reg.TKP_INT.UPD : Field := ⟨At.TKP_INT, 1, 1, .w1c, 0x0, kHSID⟩
/-- R47 -/
def Reg.TKP_INT.REF_LOSS : Field := ⟨At.TKP_INT, 2, 1, .w1c, 0x0, kHSID⟩
/-- R74 -/
def Reg.TKP_INT.ASYM : Field := ⟨At.TKP_INT, 3, 1, .w1c, 0x0, kHSID⟩
/-- R80 -/
def Reg.TKP_INT.ASYM_SINGLE : Field := ⟨At.TKP_INT, 4, 1, .w1c, 0x0, kHSID⟩
/-- Phase stepped -/
def Reg.TKP_INT.STEP : Field := ⟨At.TKP_INT, 5, 1, .w1c, 0x0, kHSID⟩
/-- ±500 ppm limit reached -/
def Reg.TKP_INT.FREQ_CLAMP : Field := ⟨At.TKP_INT, 6, 1, .w1c, 0x0, kHSID⟩
/-- R69 -/
def Reg.TKP_INT.HOST_TMO : Field := ⟨At.TKP_INT, 7, 1, .w1c, 0x0, kHSID⟩
/-- A TIN_CNT counter rose -/
def Reg.TKP_INT.TIN_BAD : Field := ⟨At.TKP_INT, 8, 1, .w1c, 0x0, kHSID⟩
/-- Leap second applied -/
def Reg.TKP_INT.LEAP : Field := ⟨At.TKP_INT, 9, 1, .w1c, 0x0, kHSID⟩
/-- A reserved value was written to SRC, ROLE or PROFILE and ignored, or a write was ignored under R68 -/
def Reg.TKP_INT.CFG_REJ : Field := ⟨At.TKP_INT, 10, 1, .w1c, 0x0, kHSID⟩
/-- A timed adjustment completed (R68) -/
def Reg.TKP_INT.ADJ_DONE : Field := ⟨At.TKP_INT, 11, 1, .w1c, 0x0, kHSID⟩
/-- Bit 16 + k enables cause k; the vector is given in "Host interface: rings, doorbells and ordering" -/
def Reg.TKP_INT.EN : Field := ⟨At.TKP_INT, 16, 12, .rw, 0x0, kHSID⟩

/-- Table TKP-18 (02_timekeeper). -/
def At.TKP_REFn_CFG : RegAt := ⟨0x10100, 0x20, 4, 1, 0⟩
/-- Table TKP-3 -/
def Reg.TKP_REFn_CFG.SRC : Field := ⟨At.TKP_REFn_CFG, 0, 5, .rw, 0x0, kHSID⟩

/-- Table TKP-18 (02_timekeeper). -/
def At.TKP_REFn_ASYM : RegAt := ⟨0x10104, 0x20, 4, 1, 0⟩
/-- Signed, units of 0.25 ns, subtracted from each offset; updated by R77 -/
def Reg.TKP_REFn_ASYM.CORR : Field := ⟨At.TKP_REFn_ASYM, 0, 32, .rw, 0x0, kHSID⟩

/-- Table TKP-18 (02_timekeeper). -/
def At.TKP_REFn_OFS : RegAt := ⟨0x10108, 0x20, 4, 1, 0⟩
/-- Last accepted offset, signed ns, saturating -/
def Reg.TKP_REFn_OFS.NS : Field := ⟨At.TKP_REFn_OFS, 0, 32, .ro, 0x0, kHSID⟩

/-- Table TKP-18 (02_timekeeper). -/
def At.TKP_REFn_RTD : RegAt := ⟨0x1010C, 0x20, 4, 1, 0⟩
/-- Last round-trip delay in ns; 0 for TIN -/
def Reg.TKP_REFn_RTD.NS : Field := ⟨At.TKP_REFn_RTD, 0, 32, .ro, 0x0, kHSID⟩

/-- Table TKP-18 (02_timekeeper). -/
def At.TKP_REFn_STAT : RegAt := ⟨0x10110, 0x20, 4, 1, 0⟩
/-- R46 -/
def Reg.TKP_REFn_STAT.VALID : Field := ⟨At.TKP_REFn_STAT, 0, 1, .ro, 0x0, kHSID⟩
/-- Writing 1 re-admits the reference -/
def Reg.TKP_REFn_STAT.SUSPECT : Field := ⟨At.TKP_REFn_STAT, 1, 1, .w1c, 0x0, kHSID⟩
/-- Outlier discards, saturating -/
def Reg.TKP_REFn_STAT.DISCARD : Field := ⟨At.TKP_REFn_STAT, 8, 8, .rc, 0x0, kHSID⟩
/-- Accepted samples, wrapping -/
def Reg.TKP_REFn_STAT.ACCEPT : Field := ⟨At.TKP_REFn_STAT, 16, 16, .ro, 0x0, kHSID⟩

/-- Table HMP-7 (03_hamper). -/
def At.HMP_CTRL : RegAt := ⟨0x20000, 0x0, 1, 1, 0⟩
/-- Patrol scrub on (R109) -/
def Reg.HMP_CTRL.SCRUB_EN : Field := ⟨At.HMP_CTRL, 0, 1, .rw, 0x1, kHID⟩
/-- BAR4 reads reach the Hamper (R120) -/
def Reg.HMP_CTRL.BAR4_EN : Field := ⟨At.HMP_CTRL, 1, 1, .rwl, 0x1, kHID⟩

/-- Table HMP-7 (03_hamper). -/
def At.HMP_STATUS : RegAt := ⟨0x20004, 0x0, 1, 1, 0⟩
/-- Self-test complete since POR -/
def Reg.HMP_STATUS.SELFTEST_DONE : Field := ⟨At.HMP_STATUS, 0, 1, .ro, 0x0, kHSID⟩
/-- R117 -/
def Reg.HMP_STATUS.SELFTEST_FAIL : Field := ⟨At.HMP_STATUS, 1, 1, .ro, 0x0, kHSID⟩
/-- A scrub pass is in progress -/
def Reg.HMP_STATUS.SCRUB_RUN : Field := ⟨At.HMP_STATUS, 2, 1, .ro, 0x0, kHI⟩
/-- Fenced words in all banks, 0–2,048 -/
def Reg.HMP_STATUS.FENCED : Field := ⟨At.HMP_STATUS, 16, 12, .ro, 0x0, kHSID⟩

/-- Table HMP-8 (03_hamper). -/
def At.HMP_INT : RegAt := ⟨0x20008, 0x0, 1, 1, 0⟩
/-- R104 -/
def Reg.HMP_INT.LASTING : Field := ⟨At.HMP_INT, 0, 1, .w1c, 0x0, kHI⟩
/-- R106 -/
def Reg.HMP_INT.MAP_FULL : Field := ⟨At.HMP_INT, 1, 1, .w1c, 0x0, kHI⟩
/-- R96 -/
def Reg.HMP_INT.CFG_REJ : Field := ⟨At.HMP_INT, 2, 1, .w1c, 0x0, kHI⟩
/-- R107 -/
def Reg.HMP_INT.RELEASE : Field := ⟨At.HMP_INT, 3, 1, .w1c, 0x0, kHI⟩
/-- R112 -/
def Reg.HMP_INT.SCRUB_LATE : Field := ⟨At.HMP_INT, 4, 1, .w1c, 0x0, kHI⟩
/-- Bit 16 + k enables cause k; the vector is given in "Host interface: rings, doorbells and ordering" -/
def Reg.HMP_INT.EN : Field := ⟨At.HMP_INT, 16, 5, .rw, 0x0, kHID⟩

/-- Table HMP-9 (03_hamper). -/
def At.HMP_SCRUB : RegAt := ⟨0x2000C, 0x0, 1, 1, 0⟩
/-- Completed passes, wrapping -/
def Reg.HMP_SCRUB.PASSES : Field := ⟨At.HMP_SCRUB, 0, 16, .ro, 0x0, kHI⟩
/-- Unit being scrubbed -/
def Reg.HMP_SCRUB.UNIT : Field := ⟨At.HMP_SCRUB, 16, 7, .ro, 0x0, kHI⟩

/-- Table HMP-10 (03_hamper). -/
def At.HMP_PARTn : RegAt := ⟨0x20010, 0x4, 6, 1, 0⟩
/-- First unit, 0–127 -/
def Reg.HMP_PARTn.BASE : Field := ⟨At.HMP_PARTn, 0, 7, .rw, 0x0, kHID⟩
/-- Units, 0–128 (MODAL 0–48); 0: partition absent (R98) -/
def Reg.HMP_PARTn.SIZE : Field := ⟨At.HMP_PARTn, 8, 8, .rw, 0x0, kHID⟩

/-- Table HMP-11 (03_hamper). -/
def At.HMP_CNT_TRANS : RegAt := ⟨0x20030, 0x0, 1, 1, 0⟩
/-- Transient faults, saturating -/
def Reg.HMP_CNT_TRANS.N : Field := ⟨At.HMP_CNT_TRANS, 0, 32, .rc, 0x0, kH⟩

/-- Table HMP-11 (03_hamper). -/
def At.HMP_CNT_LAST : RegAt := ⟨0x20034, 0x0, 1, 1, 0⟩
/-- Lasting faults, saturating -/
def Reg.HMP_CNT_LAST.N : Field := ⟨At.HMP_CNT_LAST, 0, 32, .rc, 0x0, kH⟩

/-- Table HMP-11 (03_hamper). -/
def At.HMP_CNT_REL : RegAt := ⟨0x20038, 0x0, 1, 1, 0⟩
/-- Fence releases, saturating -/
def Reg.HMP_CNT_REL.N : Field := ⟨At.HMP_CNT_REL, 0, 32, .rc, 0x0, kH⟩

/-- Table HMP-11 (03_hamper). -/
def At.HMP_CNT_BAR4WR : RegAt := ⟨0x2003C, 0x0, 1, 1, 0⟩
/-- Discarded BAR4 writes, saturating -/
def Reg.HMP_CNT_BAR4WR.N : Field := ⟨At.HMP_CNT_BAR4WR, 0, 32, .rc, 0x0, kH⟩

/-- Table HMP-11 (03_hamper). -/
def At.HMP_QSTATq : RegAt := ⟨0x20040, 0x4, 8, 1, 0⟩
/-- Transient faults in quadrant q, saturating -/
def Reg.HMP_QSTATq.TRANS : Field := ⟨At.HMP_QSTATq, 0, 16, .rc, 0x0, kH⟩
/-- Fenced words in quadrant q, 0–256 -/
def Reg.HMP_QSTATq.FENCED : Field := ⟨At.HMP_QSTATq, 16, 9, .ro, 0x0, kHSID⟩

/-- Table HMP-12 (03_hamper). -/
def At.HMP_MAPFULL_LO : RegAt := ⟨0x20060, 0x0, 1, 1, 0⟩
/-- Banks 0–31, map full; low half of a pair under R5 to R7 -/
def Reg.HMP_MAPFULL_LO.BANK : Field := ⟨At.HMP_MAPFULL_LO, 0, 32, .ro, 0x0, kHSID⟩

/-- Table HMP-12 (03_hamper). -/
def At.HMP_MAPFULL_HI : RegAt := ⟨0x20064, 0x0, 1, 1, 0⟩
/-- Banks 32–63, from the shadow -/
def Reg.HMP_MAPFULL_HI.BANK : Field := ⟨At.HMP_MAPFULL_HI, 0, 32, .ro, 0x0, kHSID⟩

/-- Table HMP-12 (03_hamper). -/
def At.HMP_MAP_SEL : RegAt := ⟨0x20068, 0x0, 1, 1, 0⟩
/-- Bank to read -/
def Reg.HMP_MAP_SEL.BANK : Field := ⟨At.HMP_MAP_SEL, 0, 6, .rw, 0x0, kHID⟩
/-- Entry 0–31 -/
def Reg.HMP_MAP_SEL.ENTRY : Field := ⟨At.HMP_MAP_SEL, 8, 5, .rw, 0x0, kHID⟩

/-- Table HMP-12 (03_hamper). -/
def At.HMP_MAP_DATA : RegAt := ⟨0x2006C, 0x0, 1, 1, 0⟩
/-- Word index in the bank: A[23:9] × 16 + A[5:2] -/
def Reg.HMP_MAP_DATA.WORD : Field := ⟨At.HMP_MAP_DATA, 0, 19, .ro, 0x0, kHSID⟩
/-- Quadrant of the bank, for convenience -/
def Reg.HMP_MAP_DATA.QUAD : Field := ⟨At.HMP_MAP_DATA, 19, 3, .ro, 0x0, kHSID⟩
/-- 0 self-test, 1 engine read, 2 scrub, 3 BAR4 read -/
def Reg.HMP_MAP_DATA.CAUSE : Field := ⟨At.HMP_MAP_DATA, 28, 2, .ro, 0x0, kHSID⟩
/-- The entry holds a fenced word -/
def Reg.HMP_MAP_DATA.VALID : Field := ⟨At.HMP_MAP_DATA, 31, 1, .ro, 0x0, kHSID⟩

def regFieldsA0 : List Field :=
  [Reg.GLB_ID.ID,
   Reg.GLB_CTRL.HRST_SCOPE,
   Reg.GLB_STATUS.READY,
   Reg.GLB_STATUS.TORN,
   Reg.GLB_STATUS.ISL_RST_RD,
   Reg.GLB_STATUS.ISL_RST_WR,
   Reg.GLB_STATUS.XAORN_RUN,
   Reg.GLB_STATUS.XFAIL,
   Reg.GLB_STATUS.UPDATING,
   Reg.GLB_STATUS.DOZE,
   Reg.GLB_STATUS.SLOT,
   Reg.GLB_STATUS.SET_DEF,
   Reg.GLB_STATUS.PFW,
   Reg.GLB_RST.GO,
   Reg.GLB_RST.KEY,
   Reg.GLB_ISLRST_LO.ISL,
   Reg.GLB_ISLRST_HI.ISL,
   Reg.GLB_LOCK.LOCK,
   Reg.GLB_RSTCAUSE.KIND,
   Reg.GLB_RSTCAUSE.ISLAND,
   Reg.GLB_RSTCAUSE.EXT,
   Reg.GLB_INT.READY,
   Reg.GLB_INT.RST,
   Reg.GLB_INT.WAKE,
   Reg.GLB_INT.PFW,
   Reg.GLB_INT.XAORN,
   Reg.GLB_INT.REJ,
   Reg.GLB_INT.CLK_FAIL,
   Reg.GLB_INT.EN,
   Reg.GLB_DOZE.ENTER,
   Reg.GLB_DOZE.WAKE,
   Reg.GLB_DOZE.STATUS,
   Reg.GLB_WAKE.GPIO,
   Reg.GLB_WAKE.FALL,
   Reg.GLB_WAKE.TIMED,
   Reg.GLB_WAKE_ST.ST,
   Reg.GLB_WAKE_TE.EPOCH,
   Reg.GLB_WAKE_TE.LATE_TOL,
   Reg.GLB_XAORN.LAST,
   Reg.GLB_XAORN.RESTARTS,
   Reg.GLB_SPLIT.SERVO,
   Reg.GLB_SPLIT.ALIGN,
   Reg.GLB_SPLIT.PHASOR,
   Reg.GLB_SPLIT.RULES,
   Reg.GLB_SPLIT.MODAL,
   Reg.GLB_SPLIT.CAPTURE,
   Reg.GLB_SPLIT.COMP,
   Reg.GLB_SPLIT.DSPT,
   Reg.GLB_SPLIT.LOGMIR,
   Reg.GLB_SPLIT.KEY,
   Reg.GLB_SPLIT.REJ,
   Reg.TKP_CTRL.STMODE,
   Reg.TKP_CTRL.CLKSRC,
   Reg.TKP_CTRL.STEP_EN,
   Reg.TKP_CTRL.ADJ_MODE,
   Reg.TKP_CTRL.ASYM_EN,
   Reg.TKP_CTRL.ASYM_LEARN,
   Reg.TKP_CTRL.ADJ_TIMED,
   Reg.TKP_STATUS.STATE,
   Reg.TKP_STATUS.ACT_NONE]

def regFieldsA1 : List Field :=
  [Reg.TKP_STATUS.ACTIVE,
   Reg.TKP_STATUS.REF_VALID,
   Reg.TKP_STATUS.REF_SUSPECT,
   Reg.TKP_STATUS.OSC10M_OK,
   Reg.TKP_STATUS.EVER_LOCKED,
   Reg.TKP_STATUS.ASYM_PEND,
   Reg.TKP_STATUS.SLEWING,
   Reg.TKP_NOW_NS.NS,
   Reg.TKP_NOW_SL.SEC,
   Reg.TKP_NOW_SH.SEC,
   Reg.TKP_ST32.ST,
   Reg.TKP_EPOCH.EPOCH,
   Reg.TKP_FREQ_LO.F,
   Reg.TKP_FREQ_HI.F,
   Reg.TKP_ADJ.NS,
   Reg.TKP_ADJ_T.ST,
   Reg.TKP_ADJ_TE.EPOCH,
   Reg.TKP_ADJ_TE.LATE_TOL,
   Reg.TKP_ADJ_STAT.STATUS,
   Reg.TKP_ADJ_STAT.PEND,
   Reg.TKP_SERVO.INTERVAL,
   Reg.TKP_SERVO.KP_SHIFT,
   Reg.TKP_SERVO.KI_SHIFT,
   Reg.TKP_SERVO.SLEW_MAX,
   Reg.TKP_SERVO.HO_AVG,
   Reg.TKP_LOCK.LOCK_THR,
   Reg.TKP_LOCK.UNLOCK_THR,
   Reg.TKP_GATE.STEP_THR,
   Reg.TKP_GATE.OUTLIER,
   Reg.TKP_HO.HO_RATE,
   Reg.TKP_HO.HO_LIMIT,
   Reg.TKP_HO.HOST_TMO,
   Reg.TKP_ASYM.THR,
   Reg.TKP_ASYM.CONFIRM,
   Reg.TKP_ASYM.AGREE,
   Reg.TKP_TQ.HOST_ERR,
   Reg.TKP_TQ.SYNC_LIMIT,
   Reg.TKP_ERR.E,
   Reg.TKP_TQ_OUT.TQ,
   Reg.TKP_TQ_OUT.STATQ,
   Reg.TKP_TQ_OUT.UNLK,
   Reg.TKP_TQ_OUT.SYNCERR,
   Reg.TKP_TQ_OUT.ACC,
   Reg.TKP_TQ_OUT.CLASS,
   Reg.TKP_UTC.UTC_OFS,
   Reg.TKP_UTC.LEAP_PEND,
   Reg.TKP_UTC.LEAP_DIR,
   Reg.TKP_UTC.LEAP_OCC,
   Reg.TKP_UTC.HOST_ONLY,
   Reg.TKP_TIN.PPS_EN,
   Reg.TKP_TIN.PPS_FALL,
   Reg.TKP_TIN.IRIG_EN,
   Reg.TKP_TIN.IRIG_EXT,
   Reg.TKP_TIN.LABEL_NEAREST,
   Reg.TKP_TIN.TRACEABLE,
   Reg.TKP_TIN.PPS_ACC,
   Reg.TKP_TIN.PPS_DLY,
   Reg.TKP_TIN_CNT.BAD_PPS,
   Reg.TKP_TIN_CNT.BAD_IRIG,
   Reg.TKP_TOUT.PPS_EN]

def regFieldsA2 : List Field :=
  [Reg.TKP_TOUT.TEN_EN,
   Reg.TKP_TOUT.SQUELCH,
   Reg.TKP_TOUT.PPS_WIDTH,
   Reg.TKP_TOUT_OFS.NS,
   Reg.TKP_PTP.ROLE,
   Reg.TKP_PTP.TC_EN,
   Reg.TKP_PTP.TWO_STEP,
   Reg.TKP_PTP.SLAVE_ONLY,
   Reg.TKP_PTP.AUTH_EN,
   Reg.TKP_PTP.DOMAIN,
   Reg.TKP_PTP.PROFILE,
   Reg.TKP_PTP.KEY_SLOT,
   Reg.TKP_PTP_PORTS.PORT_EN,
   Reg.TKP_PTP_PORTS.TC_PAIR,
   Reg.TKP_INT.STATE_CHG,
   Reg.TKP_INT.UPD,
   Reg.TKP_INT.REF_LOSS,
   Reg.TKP_INT.ASYM,
   Reg.TKP_INT.ASYM_SINGLE,
   Reg.TKP_INT.STEP,
   Reg.TKP_INT.FREQ_CLAMP,
   Reg.TKP_INT.HOST_TMO,
   Reg.TKP_INT.TIN_BAD,
   Reg.TKP_INT.LEAP,
   Reg.TKP_INT.CFG_REJ,
   Reg.TKP_INT.ADJ_DONE,
   Reg.TKP_INT.EN,
   Reg.TKP_REFn_CFG.SRC,
   Reg.TKP_REFn_ASYM.CORR,
   Reg.TKP_REFn_OFS.NS,
   Reg.TKP_REFn_RTD.NS,
   Reg.TKP_REFn_STAT.VALID,
   Reg.TKP_REFn_STAT.SUSPECT,
   Reg.TKP_REFn_STAT.DISCARD,
   Reg.TKP_REFn_STAT.ACCEPT,
   Reg.HMP_CTRL.SCRUB_EN,
   Reg.HMP_CTRL.BAR4_EN,
   Reg.HMP_STATUS.SELFTEST_DONE,
   Reg.HMP_STATUS.SELFTEST_FAIL,
   Reg.HMP_STATUS.SCRUB_RUN,
   Reg.HMP_STATUS.FENCED,
   Reg.HMP_INT.LASTING,
   Reg.HMP_INT.MAP_FULL,
   Reg.HMP_INT.CFG_REJ,
   Reg.HMP_INT.RELEASE,
   Reg.HMP_INT.SCRUB_LATE,
   Reg.HMP_INT.EN,
   Reg.HMP_SCRUB.PASSES,
   Reg.HMP_SCRUB.UNIT,
   Reg.HMP_PARTn.BASE,
   Reg.HMP_PARTn.SIZE,
   Reg.HMP_CNT_TRANS.N,
   Reg.HMP_CNT_LAST.N,
   Reg.HMP_CNT_REL.N,
   Reg.HMP_CNT_BAR4WR.N,
   Reg.HMP_QSTATq.TRANS,
   Reg.HMP_QSTATq.FENCED,
   Reg.HMP_MAPFULL_LO.BANK,
   Reg.HMP_MAPFULL_HI.BANK,
   Reg.HMP_MAP_SEL.BANK]

def regFieldsA3 : List Field :=
  [Reg.HMP_MAP_SEL.ENTRY,
   Reg.HMP_MAP_DATA.WORD,
   Reg.HMP_MAP_DATA.QUAD,
   Reg.HMP_MAP_DATA.CAUSE,
   Reg.HMP_MAP_DATA.VALID]

/-- Every field of this file. -/
def regFieldsA : List Field :=
  regFieldsA0 ++ regFieldsA1 ++ regFieldsA2 ++ regFieldsA3

/-- The words of this file whose Reset value is not zero. -/
def regResetsA : List (RegAt × Nat) :=
  [(At.GLB_ID, 0x51200B0),
   (At.GLB_SPLIT, 0x54001),
   (At.TKP_CTRL, 0x10),
   (At.TKP_STATUS, 0x8),
   (At.TKP_SERVO, 0x6640412),
   (At.TKP_LOCK, 0x3E80064),
   (At.TKP_GATE, 0x7D0000A),
   (At.TKP_HO, 0x2001000A),
   (At.TKP_ASYM, 0x1480014),
   (At.TKP_TQ, 0xAFFFFFF),
   (At.TKP_ERR, 0xFFFFFFFF),
   (At.TKP_TQ_OUT, 0xF8FE077F),
   (At.TKP_UTC, 0x25),
   (At.TKP_TIN, 0xA08),
   (At.TKP_TOUT, 0xA0004),
   (At.HMP_CTRL, 0x3)]

end Sys2Proof
end

