-- ==== Sys2Proof/Machine/RegsB.lean ====
section
/-!
DEFINITION. FP and DXL registers and their tables: every field of the spec's register tables and table windows of these
blocks, with its place, its access code, its Reset value and its Keeps letters, as the tables state them.
-/

namespace Sys2Proof

/-- Table FP-6 (04_field_ports). -/
def At.FP_CTRL : RegAt := ⟨0x40000, 0x2000, 16, 1, 0⟩
/-- Port on -/
def Reg.FP_CTRL.EN : Field := ⟨At.FP_CTRL, 0, 1, .rw, 0x0, kHID⟩
/-- Table FP-1 (R122, R123) -/
def Reg.FP_CTRL.SPEED : Field := ⟨At.FP_CTRL, 1, 2, .rw, 0x0, kHID⟩
/-- Table FP-1 -/
def Reg.FP_CTRL.FEC : Field := ⟨At.FP_CTRL, 3, 2, .rw, 0x0, kHID⟩
/-- Clause 37 at 1000BASE-X; ignored at other speeds -/
def Reg.FP_CTRL.AN_EN : Field := ⟨At.FP_CTRL, 5, 1, .rw, 0x1, kHID⟩
/-- PCS loopback (R666); the transmitter is still driven -/
def Reg.FP_CTRL.LOOP : Field := ⟨At.FP_CTRL, 6, 1, .rw, 0x0, kHID⟩
/-- Class of hardware PTP messages -/
def Reg.FP_CTRL.PTP_TC : Field := ⟨At.FP_CTRL, 8, 3, .rw, 0x6, kHID⟩

/-- Table FP-6 (04_field_ports). -/
def At.FP_STATUS : RegAt := ⟨0x40004, 0x2000, 16, 1, 0⟩
/-- Link up -/
def Reg.FP_STATUS.LINK : Field := ⟨At.FP_STATUS, 0, 1, .ro, 0x0, kH⟩
/-- Clause 37 complete -/
def Reg.FP_STATUS.AN_DONE : Field := ⟨At.FP_STATUS, 1, 1, .ro, 0x0, kH⟩
/-- FEC alignment locked -/
def Reg.FP_STATUS.FEC_LOCK : Field := ⟨At.FP_STATUS, 2, 1, .ro, 0x0, kH⟩
/-- Bit k: TC k paused -/
def Reg.FP_STATUS.PAUSED : Field := ⟨At.FP_STATUS, 8, 8, .ro, 0x0, kH⟩
/-- R148 -/
def Reg.FP_STATUS.STORM : Field := ⟨At.FP_STATUS, 16, 1, .ro, 0x0, kH⟩

/-- Table FP-7 (04_field_ports). -/
def At.FP_INT : RegAt := ⟨0x40008, 0x2000, 16, 1, 0⟩
/-- R124 -/
def Reg.FP_INT.LINK_CHG : Field := ⟨At.FP_INT, 0, 1, .w1c, 0x0, kH⟩
/-- R152 -/
def Reg.FP_INT.TX_UNDERRUN : Field := ⟨At.FP_INT, 1, 1, .w1c, 0x0, kH⟩
/-- R143 -/
def Reg.FP_INT.TS_LOST : Field := ⟨At.FP_INT, 2, 1, .w1c, 0x0, kH⟩
/-- R148 -/
def Reg.FP_INT.PAUSE_STORM : Field := ⟨At.FP_INT, 3, 1, .w1c, 0x0, kH⟩
/-- A write was rejected or ignored -/
def Reg.FP_INT.CFG_REJ : Field := ⟨At.FP_INT, 4, 1, .w1c, 0x0, kH⟩
/-- R167 -/
def Reg.FP_INT.STAT_HALF : Field := ⟨At.FP_INT, 5, 1, .w1c, 0x0, kH⟩
/-- R163 -/
def Reg.FP_INT.PN_HIGH : Field := ⟨At.FP_INT, 6, 1, .w1c, 0x0, kH⟩
/-- Bit 16 + k enables cause k; the vector is given in "Host interface: rings, doorbells and ordering" -/
def Reg.FP_INT.EN : Field := ⟨At.FP_INT, 16, 7, .rw, 0x0, kHID⟩

/-- Table FP-8 (04_field_ports). -/
def At.FP_MAC_LO : RegAt := ⟨0x4000C, 0x2000, 16, 1, 0⟩
/-- MAC address [31:0] -/
def Reg.FP_MAC_LO.ADDR : Field := ⟨At.FP_MAC_LO, 0, 32, .rw, 0x0, kHID⟩

/-- Table FP-8 (04_field_ports). -/
def At.FP_MAC_HI : RegAt := ⟨0x40010, 0x2000, 16, 1, 0⟩
/-- MAC address [47:32]; [31:16] reserved -/
def Reg.FP_MAC_HI.ADDR : Field := ⟨At.FP_MAC_HI, 0, 16, .rw, 0x0, kHID⟩

/-- Table FP-8 (04_field_ports). -/
def At.FP_FRAME : RegAt := ⟨0x40014, 0x2000, 16, 1, 0⟩
/-- Bytes, 64–9,216. Values 0–63 and above 9,216 are rejected under R122's rule. -/
def Reg.FP_FRAME.MAX_LEN : Field := ⟨At.FP_FRAME, 0, 14, .rw, 0x5F2, kHID⟩

/-- Table FP-8 (04_field_ports). -/
def At.FP_TXCFG : RegAt := ⟨0x40018, 0x2000, 16, 1, 0⟩
/-- R151; raised by R152 -/
def Reg.FP_TXCFG.START_THR : Field := ⟨At.FP_TXCFG, 0, 3, .rw, 0x0, kHID⟩

/-- Table FP-8 (04_field_ports). -/
def At.FP_TS_LAT : RegAt := ⟨0x4001C, 0x2000, 16, 1, 0⟩
/-- Signed, units of 0.25 ns -/
def Reg.FP_TS_LAT.RX_TRIM : Field := ⟨At.FP_TS_LAT, 0, 16, .rw, 0x0, kHID⟩
/-- Signed, units of 0.25 ns -/
def Reg.FP_TS_LAT.TX_TRIM : Field := ⟨At.FP_TS_LAT, 16, 16, .rw, 0x0, kHID⟩

/-- Table FP-8 (04_field_ports). -/
def At.FP_TS_CNT : RegAt := ⟨0x40020, 0x2000, 16, 1, 0⟩
/-- Entries in use, 0–64 -/
def Reg.FP_TS_CNT.PENDING : Field := ⟨At.FP_TS_CNT, 0, 7, .ro, 0x0, kH⟩
/-- Highest PENDING since the last read -/
def Reg.FP_TS_CNT.HWM : Field := ⟨At.FP_TS_CNT, 8, 7, .rc, 0x0, kH⟩

/-- Table FP-9 (04_field_ports). -/
def At.FP_PAUSE : RegAt := ⟨0x40024, 0x2000, 16, 1, 0⟩
/-- 0 none, 1 PAUSE, 2 PFC, 3 rejected -/
def Reg.FP_PAUSE.MODE : Field := ⟨At.FP_PAUSE, 0, 2, .rw, 0x0, kHID⟩
/-- Bit p: honour PFC for priority p -/
def Reg.FP_PAUSE.PFC_EN : Field := ⟨At.FP_PAUSE, 8, 8, .rw, 0x0, kHID⟩
/-- R149 -/
def Reg.FP_PAUSE.TX_EN : Field := ⟨At.FP_PAUSE, 16, 1, .rw, 0x0, kHID⟩
/-- Units of 10 ms; 0: watchdog bypassed -/
def Reg.FP_PAUSE.STORM : Field := ⟨At.FP_PAUSE, 24, 8, .rw, 0x14, kHID⟩

/-- Table FP-9 (04_field_ports). -/
def At.FP_PAUSE_TX : RegAt := ⟨0x40028, 0x2000, 16, 1, 0⟩
/-- Sent quanta; 0: no pause frames sent -/
def Reg.FP_PAUSE_TX.QUANTA : Field := ⟨At.FP_PAUSE_TX, 0, 16, .rw, 0xFFFF, kHID⟩

/-- Table FP-9 (04_field_ports). -/
def At.FP_PAIR : RegAt := ⟨0x4002C, 0x2000, 16, 1, 0⟩
/-- Even ports only: 0 none, 1 PRP, 2 HSR, 3 rejected -/
def Reg.FP_PAIR.MODE : Field := ⟨At.FP_PAIR, 0, 2, .rw, 0x0, kHID⟩
/-- Units of 10 ms; 0: duplicate discard bypassed, every copy passed -/
def Reg.FP_PAIR.FORGET : Field := ⟨At.FP_PAIR, 8, 8, .rw, 0x28, kHID⟩
/-- Units of 100 ms; 0: no supervision frames -/
def Reg.FP_PAIR.SUP_INT : Field := ⟨At.FP_PAIR, 16, 8, .rw, 0x14, kHID⟩
/-- HSR NetId -/
def Reg.FP_PAIR.NET_ID : Field := ⟨At.FP_PAIR, 24, 3, .rw, 0x0, kHID⟩

/-- Table FP-9 (04_field_ports). -/
def At.FP_PAIR_STAT : RegAt := ⟨0x40030, 0x2000, 16, 1, 0⟩
/-- Evicted keys, saturating -/
def Reg.FP_PAIR_STAT.EVICT : Field := ⟨At.FP_PAIR_STAT, 0, 16, .rc, 0x0, kH⟩
/-- Keys held, 0–4,096 -/
def Reg.FP_PAIR_STAT.ENTRIES : Field := ⟨At.FP_PAIR_STAT, 16, 13, .ro, 0x0, kH⟩

/-- Table FP-10 (04_field_ports). -/
def At.FP_TAS_CTRL : RegAt := ⟨0x40040, 0x2000, 16, 1, 0⟩
/-- Entries 0–128; values above 128 rejected; 0: list bypassed, all gates open -/
def Reg.FP_TAS_CTRL.ADMIN_LEN : Field := ⟨At.FP_TAS_CTRL, 0, 8, .rw, 0x0, kHID⟩
/-- R132 -/
def Reg.FP_TAS_CTRL.GATE_EN : Field := ⟨At.FP_TAS_CTRL, 8, 1, .rw, 0x0, kHID⟩
/-- R133; reads 0 -/
def Reg.FP_TAS_CTRL.CONFIG_CHANGE : Field := ⟨At.FP_TAS_CTRL, 9, 1, .w1s, 0x0, kNone⟩
/-- Gate states before any list has run -/
def Reg.FP_TAS_CTRL.INIT : Field := ⟨At.FP_TAS_CTRL, 16, 8, .rw, 0xFF, kHID⟩

/-- Table FP-10 (04_field_ports). -/
def At.FP_TAS_BASE_NS : RegAt := ⟨0x40044, 0x2000, 16, 1, 0⟩
/-- Base time, nanoseconds -/
def Reg.FP_TAS_BASE_NS.NS : Field := ⟨At.FP_TAS_BASE_NS, 0, 32, .rw, 0x0, kHID⟩

/-- Table FP-10 (04_field_ports). -/
def At.FP_TAS_BASE_SL : RegAt := ⟨0x40048, 0x2000, 16, 1, 0⟩
/-- Base time, TAI seconds [31:0] -/
def Reg.FP_TAS_BASE_SL.SEC : Field := ⟨At.FP_TAS_BASE_SL, 0, 32, .rw, 0x0, kHID⟩

/-- Table FP-10 (04_field_ports). -/
def At.FP_TAS_BASE_SH : RegAt := ⟨0x4004C, 0x2000, 16, 1, 0⟩
/-- Base time, TAI seconds [47:32] -/
def Reg.FP_TAS_BASE_SH.SEC : Field := ⟨At.FP_TAS_BASE_SH, 0, 16, .rw, 0x0, kHID⟩

/-- Table FP-10 (04_field_ports). -/
def At.FP_TAS_CYCLE : RegAt := ⟨0x40050, 0x2000, 16, 1, 0⟩
/-- Cycle time; 0: list bypassed -/
def Reg.FP_TAS_CYCLE.NS : Field := ⟨At.FP_TAS_CYCLE, 0, 32, .rw, 0x0, kHID⟩

/-- Table FP-10 (04_field_ports). -/
def At.FP_TAS_EXT : RegAt := ⟨0x40054, 0x2000, 16, 1, 0⟩
/-- Cycle time extension; 0: no extension -/
def Reg.FP_TAS_EXT.NS : Field := ⟨At.FP_TAS_EXT, 0, 32, .rw, 0x0, kHID⟩

/-- Table FP-10 (04_field_ports). -/
def At.FP_TAS_STAT : RegAt := ⟨0x40058, 0x2000, 16, 1, 0⟩
/-- Operational bank; the other bank is administrative -/
def Reg.FP_TAS_STAT.OPER_BANK : Field := ⟨At.FP_TAS_STAT, 0, 1, .ro, 0x0, kHID⟩
/-- A change is waiting (R134) -/
def Reg.FP_TAS_STAT.PENDING : Field := ⟨At.FP_TAS_STAT, 1, 1, .ro, 0x0, kHID⟩
/-- Operational entries -/
def Reg.FP_TAS_STAT.OPER_LEN : Field := ⟨At.FP_TAS_STAT, 8, 8, .ro, 0x0, kHID⟩
/-- Entry now running -/
def Reg.FP_TAS_STAT.ENTRY : Field := ⟨At.FP_TAS_STAT, 16, 8, .ro, 0x0, kH⟩

/-- Table FP-11 (04_field_ports). -/
def At.FP_MSEC_CTRL : RegAt := ⟨0x40060, 0x2000, 16, 1, 0⟩
/-- MACsec on -/
def Reg.FP_MSEC_CTRL.EN : Field := ⟨At.FP_MSEC_CTRL, 0, 1, .rw, 0x0, kHID⟩
/-- 0 disabled, 1 check, 2 strict, 3 rejected -/
def Reg.FP_MSEC_CTRL.VALIDATE : Field := ⟨At.FP_MSEC_CTRL, 1, 2, .rw, 0x2, kHID⟩
/-- Protect transmitted frames -/
def Reg.FP_MSEC_CTRL.PROTECT : Field := ⟨At.FP_MSEC_CTRL, 3, 1, .rw, 0x1, kHID⟩
/-- Include the SCI in the SecTag -/
def Reg.FP_MSEC_CTRL.INC_SCI : Field := ⟨At.FP_MSEC_CTRL, 4, 1, .rw, 0x1, kHID⟩

/-- Table FP-11 (04_field_ports). -/
def At.FP_MSEC_WIN : RegAt := ⟨0x40064, 0x2000, 16, 1, 0⟩
/-- Replay window; 0: strict ordering -/
def Reg.FP_MSEC_WIN.WIN : Field := ⟨At.FP_MSEC_WIN, 0, 32, .rw, 0x0, kHID⟩

/-- Table FP-11 (04_field_ports). -/
def At.FP_MSEC_TXSA : RegAt := ⟨0x40068, 0x2000, 16, 1, 0⟩
/-- Transmit association number -/
def Reg.FP_MSEC_TXSA.AN : Field := ⟨At.FP_MSEC_TXSA, 0, 2, .rw, 0x0, kHID⟩
/-- Key-store slot of the SAK -/
def Reg.FP_MSEC_TXSA.KEY_SLOT : Field := ⟨At.FP_MSEC_TXSA, 8, 6, .rw, 0x0, kHID⟩
/-- Association installed -/
def Reg.FP_MSEC_TXSA.VALID : Field := ⟨At.FP_MSEC_TXSA, 16, 1, .rw, 0x0, kHID⟩

/-- Table FP-11 (04_field_ports). -/
def At.FP_MSEC_TXPN : RegAt := ⟨0x4006C, 0x2000, 16, 1, 0⟩
/-- Next transmit packet number -/
def Reg.FP_MSEC_TXPN.PN : Field := ⟨At.FP_MSEC_TXPN, 0, 32, .ro, 0x0, kH⟩

/-- Table FP-11 (04_field_ports). -/
def At.FP_MSEC_SEL : RegAt := ⟨0x40070, 0x2000, 16, 1, 0⟩
/-- Receive channel 0–3 -/
def Reg.FP_MSEC_SEL.SC : Field := ⟨At.FP_MSEC_SEL, 0, 2, .rw, 0x0, kHID⟩
/-- Association of that channel -/
def Reg.FP_MSEC_SEL.AN : Field := ⟨At.FP_MSEC_SEL, 8, 2, .rw, 0x0, kHID⟩

/-- Table FP-11 (04_field_ports). -/
def At.FP_MSEC_SCI_LO : RegAt := ⟨0x40074, 0x2000, 16, 1, 0⟩
/-- SCI [31:0] of the selected channel -/
def Reg.FP_MSEC_SCI_LO.SCI : Field := ⟨At.FP_MSEC_SCI_LO, 0, 32, .rw, 0x0, kHID⟩

/-- Table FP-11 (04_field_ports). -/
def At.FP_MSEC_SCI_HI : RegAt := ⟨0x40078, 0x2000, 16, 1, 0⟩
/-- SCI [63:32] -/
def Reg.FP_MSEC_SCI_HI.SCI : Field := ⟨At.FP_MSEC_SCI_HI, 0, 32, .rw, 0x0, kHID⟩

/-- Table FP-11 (04_field_ports). -/
def At.FP_MSEC_RXSA : RegAt := ⟨0x4007C, 0x2000, 16, 1, 0⟩
/-- Key-store slot of the selected association -/
def Reg.FP_MSEC_RXSA.KEY_SLOT : Field := ⟨At.FP_MSEC_RXSA, 0, 6, .rw, 0x0, kHID⟩
/-- Association installed -/
def Reg.FP_MSEC_RXSA.VALID : Field := ⟨At.FP_MSEC_RXSA, 8, 1, .rw, 0x0, kHID⟩

/-- Table FP-11 (04_field_ports). -/
def At.FP_MSEC_RXPN : RegAt := ⟨0x40080, 0x2000, 16, 1, 0⟩
/-- Lowest acceptable packet number -/
def Reg.FP_MSEC_RXPN.PN : Field := ⟨At.FP_MSEC_RXPN, 0, 32, .ro, 0x0, kH⟩

/-- Table FP-12 (04_field_ports). -/
def At.FP_BC_RXF : RegAt := ⟨0x40090, 0x2000, 16, 1, 0⟩
/-- Good frames received, saturating -/
def Reg.FP_BC_RXF.N : Field := ⟨At.FP_BC_RXF, 0, 32, .rc, 0x0, kH⟩

/-- Table FP-12 (04_field_ports). -/
def At.FP_BC_TXF : RegAt := ⟨0x40094, 0x2000, 16, 1, 0⟩
/-- Frames sent, saturating -/
def Reg.FP_BC_TXF.N : Field := ⟨At.FP_BC_TXF, 0, 32, .rc, 0x0, kH⟩

/-- Table FP-12 (04_field_ports). -/
def At.FP_BC_RXERR : RegAt := ⟨0x40098, 0x2000, 16, 1, 0⟩
/-- Receive errors, saturating -/
def Reg.FP_BC_RXERR.N : Field := ⟨At.FP_BC_RXERR, 0, 32, .rc, 0x0, kH⟩

/-- Table FP-12 (04_field_ports). -/
def At.FP_BC_DROP : RegAt := ⟨0x4009C, 0x2000, 16, 1, 0⟩
/-- Drops, saturating -/
def Reg.FP_BC_DROP.N : Field := ⟨At.FP_BC_DROP, 0, 32, .rc, 0x0, kH⟩

/-- Table FP-12 (04_field_ports). -/
def At.FP_STAT_HALF : RegAt := ⟨0x400A0, 0x2000, 16, 1, 0⟩
/-- Bit k: R167 -/
def Reg.FP_STAT_HALF.K : Field := ⟨At.FP_STAT_HALF, 0, 32, .w1c, 0x0, kH⟩

/-- Table FP-12 (04_field_ports). -/
def At.FP_FULL_LO : RegAt := ⟨0x40800, 0x2000, 16, 32, 8⟩
/-- Table FP-3, bits [31:0]; latches the high half -/
def Reg.FP_FULL_LO.N : Field := ⟨At.FP_FULL_LO, 0, 32, .ro, 0x0, kH⟩

/-- Table FP-12 (04_field_ports). -/
def At.FP_FULL_HI : RegAt := ⟨0x40804, 0x2000, 16, 32, 8⟩
/-- Bits [47:32] from the shadow; [31:16] read 0 -/
def Reg.FP_FULL_HI.N : Field := ⟨At.FP_FULL_HI, 0, 16, .ro, 0x0, kH⟩

/-- Table DXL-10 (14_daxide_fabric). -/
def At.DXL_CTRL : RegAt := ⟨0x60000, 0x0, 1, 1, 0⟩
/-- Fabric on (R522) -/
def Reg.DXL_CTRL.EN : Field := ⟨At.DXL_CTRL, 0, 1, .rw, 0x0, kHID⟩

/-- Table DXL-10 (14_daxide_fabric). -/
def At.DXL_NODE : RegAt := ⟨0x60004, 0x0, 1, 1, 0⟩
/-- Node ID (AON) -/
def Reg.DXL_NODE.ID : Field := ⟨At.DXL_NODE, 0, 9, .rwl, 0x0, kHSID⟩
/-- R522 (AON) -/
def Reg.DXL_NODE.BOOT : Field := ⟨At.DXL_NODE, 16, 16, .rw, 0x0, kHSID⟩

/-- Table DXL-10 (14_daxide_fabric). -/
def At.DXL_CFG : RegAt := ⟨0x60008, 0x0, 1, 1, 0⟩
/-- 1–8; 0 and above 8 rejected, field unchanged, CFG_REJ set -/
def Reg.DXL_CFG.HOPS : Field := ⟨At.DXL_CFG, 0, 4, .rw, 0x8, kHID⟩
/-- Units of 10 ms; 0: no beacons -/
def Reg.DXL_CFG.BEACON : Field := ⟨At.DXL_CFG, 8, 8, .rw, 0xA, kHID⟩

/-- Table DXL-10 (14_daxide_fabric). -/
def At.DXL_STATUS : RegAt := ⟨0x6000C, 0x0, 1, 1, 0⟩
/-- Fabric running -/
def Reg.DXL_STATUS.RUN : Field := ⟨At.DXL_STATUS, 0, 1, .ro, 0x0, kH⟩
/-- Bit n: link n up -/
def Reg.DXL_STATUS.UP : Field := ⟨At.DXL_STATUS, 4, 4, .ro, 0x0, kH⟩
/-- Status of the last relay enable -/
def Reg.DXL_STATUS.FAIL : Field := ⟨At.DXL_STATUS, 8, 8, .ro, 0x0, kH⟩

/-- Table DXL-11 (14_daxide_fabric). -/
def At.DXL_INT : RegAt := ⟨0x60010, 0x0, 1, 1, 0⟩
/-- A write was refused or ignored -/
def Reg.DXL_INT.CFG_REJ : Field := ⟨At.DXL_INT, 0, 1, .w1c, 0x0, kH⟩
/-- R544, R545 -/
def Reg.DXL_INT.LINK_CHG : Field := ⟨At.DXL_INT, 1, 1, .w1c, 0x0, kH⟩
/-- R525 -/
def Reg.DXL_INT.AUTH_FAIL : Field := ⟨At.DXL_INT, 2, 1, .w1c, 0x0, kH⟩
/-- R528 -/
def Reg.DXL_INT.NODE_CLASH : Field := ⟨At.DXL_INT, 3, 1, .w1c, 0x0, kH⟩
/-- R534 -/
def Reg.DXL_INT.LOST : Field := ⟨At.DXL_INT, 4, 1, .w1c, 0x0, kH⟩
/-- R541 -/
def Reg.DXL_INT.RELAY_DROP : Field := ⟨At.DXL_INT, 5, 1, .w1c, 0x0, kH⟩
/-- Bit 16 + k enables cause k; vector 5 (Table HIF-8) -/
def Reg.DXL_INT.EN : Field := ⟨At.DXL_INT, 16, 6, .rw, 0x0, kHID⟩

/-- Table DXL-12 (14_daxide_fabric). -/
def At.DXL_UDP : RegAt := ⟨0x60014, 0x0, 1, 1, 0⟩
/-- UDP port; 0: no UDP links carried -/
def Reg.DXL_UDP.PORT : Field := ⟨At.DXL_UDP, 0, 16, .rw, 0x1BEE, kHID⟩
/-- Traffic class -/
def Reg.DXL_UDP.TC : Field := ⟨At.DXL_UDP, 16, 3, .rw, 0x7, kHID⟩

/-- Table DXL-12 (14_daxide_fabric). -/
def At.DXL_RELAY : RegAt := ⟨0x60018, 0x0, 1, 1, 0⟩
/-- R538, R539 -/
def Reg.DXL_RELAY.EN : Field := ⟨At.DXL_RELAY, 0, 1, .rw, 0x0, kHID⟩
/-- Parent node -/
def Reg.DXL_RELAY.PARENT : Field := ⟨At.DXL_RELAY, 8, 9, .rw, 0x0, kHID⟩
/-- ms; 0: no retransmission -/
def Reg.DXL_RELAY.RTO : Field := ⟨At.DXL_RELAY, 24, 8, .rw, 0x14, kHID⟩

/-- Table DXL-12 (14_daxide_fabric). -/
def At.DXL_RELAY_MAX : RegAt := ⟨0x6001C, 0x0, 1, 1, 0⟩
/-- Payload bytes, 512–9,000; other values rejected -/
def Reg.DXL_RELAY_MAX.LEN : Field := ⟨At.DXL_RELAY_MAX, 0, 14, .rw, 0x2328, kHID⟩

/-- Table DXL-12 (14_daxide_fabric). -/
def At.DXL_HOST : RegAt := ⟨0x60020, 0x0, 1, 1, 0⟩
/-- ALRM ring number -/
def Reg.DXL_HOST.ALRM_RING : Field := ⟨At.DXL_HOST, 0, 8, .rw, 0x0, kHID⟩
/-- R537 -/
def Reg.DXL_HOST.EN : Field := ⟨At.DXL_HOST, 8, 1, .rw, 0x0, kHID⟩

/-- Table DXL-13 (14_daxide_fabric). -/
def At.DXL_CNT_TOKEN : RegAt := ⟨0x60040, 0x0, 1, 1, 0⟩
/-- Tokens taken -/
def Reg.DXL_CNT_TOKEN.N : Field := ⟨At.DXL_CNT_TOKEN, 0, 32, .rc, 0x0, kH⟩

/-- Table DXL-13 (14_daxide_fabric). -/
def At.DXL_CNT_DUP : RegAt := ⟨0x60044, 0x0, 1, 1, 0⟩
/-- R526 -/
def Reg.DXL_CNT_DUP.N : Field := ⟨At.DXL_CNT_DUP, 0, 32, .rc, 0x0, kH⟩

/-- Table DXL-13 (14_daxide_fabric). -/
def At.DXL_CNT_OLD : RegAt := ⟨0x60048, 0x0, 1, 1, 0⟩
/-- R526, R527 -/
def Reg.DXL_CNT_OLD.N : Field := ⟨At.DXL_CNT_OLD, 0, 32, .rc, 0x0, kH⟩

/-- Table DXL-13 (14_daxide_fabric). -/
def At.DXL_CNT_AUTH : RegAt := ⟨0x6004C, 0x0, 1, 1, 0⟩
/-- R525 -/
def Reg.DXL_CNT_AUTH.N : Field := ⟨At.DXL_CNT_AUTH, 0, 32, .rc, 0x0, kH⟩

/-- Table DXL-13 (14_daxide_fabric). -/
def At.DXL_CNT_MALFORMED : RegAt := ⟨0x60050, 0x0, 1, 1, 0⟩
/-- R523 -/
def Reg.DXL_CNT_MALFORMED.N : Field := ⟨At.DXL_CNT_MALFORMED, 0, 32, .rc, 0x0, kH⟩

/-- Table DXL-13 (14_daxide_fabric). -/
def At.DXL_CNT_BIND : RegAt := ⟨0x60054, 0x0, 1, 1, 0⟩
/-- R521, R545 -/
def Reg.DXL_CNT_BIND.N : Field := ⟨At.DXL_CNT_BIND, 0, 32, .rc, 0x0, kH⟩

/-- Table DXL-13 (14_daxide_fabric). -/
def At.DXL_CNT_CLASH : RegAt := ⟨0x60058, 0x0, 1, 1, 0⟩
/-- R528 -/
def Reg.DXL_CNT_CLASH.N : Field := ⟨At.DXL_CNT_CLASH, 0, 32, .rc, 0x0, kH⟩

/-- Table DXL-13 (14_daxide_fabric). -/
def At.DXL_CNT_RLIM : RegAt := ⟨0x6005C, 0x0, 1, 1, 0⟩
/-- R546 -/
def Reg.DXL_CNT_RLIM.N : Field := ⟨At.DXL_CNT_RLIM, 0, 32, .rc, 0x0, kH⟩

/-- Table DXL-13 (14_daxide_fabric). -/
def At.DXL_CNT_HOPS : RegAt := ⟨0x60060, 0x0, 1, 1, 0⟩
/-- R540 -/
def Reg.DXL_CNT_HOPS.N : Field := ⟨At.DXL_CNT_HOPS, 0, 32, .rc, 0x0, kH⟩

/-- Table DXL-13 (14_daxide_fabric). -/
def At.DXL_CNT_RELAY_EXP : RegAt := ⟨0x60064, 0x0, 1, 1, 0⟩
/-- R541 -/
def Reg.DXL_CNT_RELAY_EXP.N : Field := ⟨At.DXL_CNT_RELAY_EXP, 0, 32, .rc, 0x0, kH⟩

/-- Table DXL-13 (14_daxide_fabric). -/
def At.DXL_CNT_RELAY_DROP : RegAt := ⟨0x60068, 0x0, 1, 1, 0⟩
/-- R541 -/
def Reg.DXL_CNT_RELAY_DROP.N : Field := ⟨At.DXL_CNT_RELAY_DROP, 0, 32, .rc, 0x0, kH⟩

/-- Table DXL-13 (14_daxide_fabric). -/
def At.DXL_CNT_HOSTDROP : RegAt := ⟨0x6006C, 0x0, 1, 1, 0⟩
/-- R537 -/
def Reg.DXL_CNT_HOSTDROP.N : Field := ⟨At.DXL_CNT_HOSTDROP, 0, 32, .rc, 0x0, kH⟩

/-- Table DXL-14 (14_daxide_fabric). -/
def At.DXL_LINKn_CFG : RegAt := ⟨0x60100, 0x40, 4, 1, 0⟩
/-- Link on -/
def Reg.DXL_LINKn_CFG.EN : Field := ⟨At.DXL_LINKn_CFG, 0, 1, .rw, 0x0, kHID⟩
/-- 0 DL, 1 UDP, 2–3 rejected (R517) -/
def Reg.DXL_LINKn_CFG.MODE : Field := ⟨At.DXL_LINKn_CFG, 1, 2, .rw, 0x0, kHID⟩
/-- DL only: 1 Clause 108 RS-FEC -/
def Reg.DXL_LINKn_CFG.FEC : Field := ⟨At.DXL_LINKn_CFG, 3, 1, .rw, 0x0, kHID⟩
/-- UDP: field port 0–15 -/
def Reg.DXL_LINKn_CFG.FP : Field := ⟨At.DXL_LINKn_CFG, 4, 5, .rw, 0x0, kHID⟩
/-- R547 -/
def Reg.DXL_LINKn_CFG.TIME_EN : Field := ⟨At.DXL_LINKn_CFG, 9, 1, .rw, 0x0, kHID⟩
/-- R524 -/
def Reg.DXL_LINKn_CFG.KEY_SLOT : Field := ⟨At.DXL_LINKn_CFG, 10, 6, .rw, 0x0, kHID⟩
/-- R524, R525 -/
def Reg.DXL_LINKn_CFG.AUTH : Field := ⟨At.DXL_LINKn_CFG, 16, 1, .rw, 0x0, kHID⟩

/-- Table DXL-14 (14_daxide_fabric). -/
def At.DXL_LINKn_PEER : RegAt := ⟨0x60104, 0x40, 4, 1, 0⟩
/-- Expected partner -/
def Reg.DXL_LINKn_PEER.NODE : Field := ⟨At.DXL_LINKn_PEER, 0, 9, .rw, 0x0, kHID⟩
/-- Accept any partner -/
def Reg.DXL_LINKn_PEER.ANY : Field := ⟨At.DXL_LINKn_PEER, 9, 1, .rw, 0x0, kHID⟩

/-- Table DXL-14 (14_daxide_fabric). -/
def At.DXL_LINKn_KA : RegAt := ⟨0x60108, 0x40, 4, 1, 0⟩
/-- µs, 100–65,535; other nonzero values rejected; 0: no keep-alives, link never up -/
def Reg.DXL_LINKn_KA.INT : Field := ⟨At.DXL_LINKn_KA, 0, 16, .rw, 0x3E8, kHID⟩
/-- Missed intervals; 0: keep-alive watch bypassed -/
def Reg.DXL_LINKn_KA.MISS : Field := ⟨At.DXL_LINKn_KA, 16, 4, .rw, 0x3, kHID⟩

/-- Table DXL-14 (14_daxide_fabric). -/
def At.DXL_LINKn_TIME : RegAt := ⟨0x6010C, 0x40, 4, 1, 0⟩
/-- 2^RATE REQ per second -/
def Reg.DXL_LINKn_TIME.RATE : Field := ⟨At.DXL_LINKn_TIME, 0, 3, .rw, 0x4, kHID⟩

/-- Table DXL-14 (14_daxide_fabric). -/
def At.DXL_LINKn_RLIM : RegAt := ⟨0x60110, 0x40, 4, 1, 0⟩
/-- Per ms; 0: limit bypassed -/
def Reg.DXL_LINKn_RLIM.FRAMES : Field := ⟨At.DXL_LINKn_RLIM, 0, 16, .rw, 0x0, kHID⟩

/-- Table DXL-14 (14_daxide_fabric). -/
def At.DXL_LINKn_STAT : RegAt := ⟨0x60114, 0x40, 4, 1, 0⟩
/-- 0 off, 1 training, 2 up, 3 refused -/
def Reg.DXL_LINKn_STAT.STATE : Field := ⟨At.DXL_LINKn_STAT, 0, 2, .ro, 0x0, kH⟩
/-- Last frame passed its tag -/
def Reg.DXL_LINKn_STAT.AUTH_OK : Field := ⟨At.DXL_LINKn_STAT, 2, 1, .ro, 0x0, kH⟩
/-- Partner's node ID -/
def Reg.DXL_LINKn_STAT.PARTNER : Field := ⟨At.DXL_LINKn_STAT, 16, 9, .ro, 0x0, kH⟩

/-- Table DXL-14 (14_daxide_fabric). -/
def At.DXL_LINKn_RTD : RegAt := ⟨0x60118, 0x40, 4, 1, 0⟩
/-- Last rtd, ns -/
def Reg.DXL_LINKn_RTD.NS : Field := ⟨At.DXL_LINKn_RTD, 0, 32, .ro, 0x0, kH⟩

/-- Table DXL-14 (14_daxide_fabric). -/
def At.DXL_LINKn_TOFS : RegAt := ⟨0x6011C, 0x40, 4, 1, 0⟩
/-- Mean o over 64 samples, signed, units of 0.25 ns -/
def Reg.DXL_LINKn_TOFS.Q : Field := ⟨At.DXL_LINKn_TOFS, 0, 32, .ro, 0x0, kH⟩

/-- Table DXL-14 (14_daxide_fabric). -/
def At.DXL_LINKn_IPk : RegAt := ⟨0x60120, 0x40, 4, 4, 4⟩
/-- Peer address; IP0 holds the high bits -/
def Reg.DXL_LINKn_IPk.ADDR : Field := ⟨At.DXL_LINKn_IPk, 0, 32, .rw, 0x0, kHID⟩

/-- Table DXL-14 (14_daxide_fabric). -/
def At.DXL_LINKn_RXF : RegAt := ⟨0x60130, 0x40, 4, 1, 0⟩
/-- Frames received, saturating -/
def Reg.DXL_LINKn_RXF.N : Field := ⟨At.DXL_LINKn_RXF, 0, 32, .rc, 0x0, kH⟩

/-- Table DXL-14 (14_daxide_fabric). -/
def At.DXL_LINKn_TXF : RegAt := ⟨0x60134, 0x40, 4, 1, 0⟩
/-- Frames sent, saturating -/
def Reg.DXL_LINKn_TXF.N : Field := ⟨At.DXL_LINKn_TXF, 0, 32, .rc, 0x0, kH⟩

/-- Table DXL-14 (14_daxide_fabric). -/
def At.DXL_LINKn_DROP : RegAt := ⟨0x60138, 0x40, 4, 1, 0⟩
/-- Frames discarded on this link, saturating -/
def Reg.DXL_LINKn_DROP.N : Field := ⟨At.DXL_LINKn_DROP, 0, 32, .rc, 0x0, kH⟩

/-- Table DXL-7 (14_daxide_fabric), word 0 of the entry. -/
def At.T_ROUTE : RegAt := ⟨0x3A0000, 0x4, 512, 1, 0⟩
def Reg.T_ROUTE.PRIMARY : Field := ⟨At.T_ROUTE, 0, 2, .rw, 0x0, kHID⟩
def Reg.T_ROUTE.P_VALID : Field := ⟨At.T_ROUTE, 2, 1, .rw, 0x0, kHID⟩
def Reg.T_ROUTE.ALT : Field := ⟨At.T_ROUTE, 4, 2, .rw, 0x0, kHID⟩
def Reg.T_ROUTE.A_VALID : Field := ⟨At.T_ROUTE, 6, 1, .rw, 0x0, kHID⟩

/-- Table DXL-4 (14_daxide_fabric), word 0 of the entry. -/
def At.T_RALARM_0 : RegAt := ⟨0x3A0800, 0x8, 256, 1, 0⟩
def Reg.T_RALARM.VALID : Field := ⟨At.T_RALARM_0, 0, 1, .rw, 0x0, kHID⟩
def Reg.T_RALARM.NODE : Field := ⟨At.T_RALARM_0, 1, 9, .rw, 0x0, kHID⟩
def Reg.T_RALARM.RULE : Field := ⟨At.T_RALARM_0, 10, 12, .rw, 0x0, kHID⟩
def Reg.T_RALARM.INTEG : Field := ⟨At.T_RALARM_0, 22, 1, .rw, 0x0, kHID⟩
def Reg.T_RALARM.FAILSAFE : Field := ⟨At.T_RALARM_0, 23, 1, .rw, 0x0, kHID⟩
def Reg.T_RALARM.HOST : Field := ⟨At.T_RALARM_0, 24, 1, .rw, 0x0, kHID⟩
/-- Table DXL-4 (14_daxide_fabric), word 1 of the entry. -/
def At.T_RALARM_1 : RegAt := ⟨0x3A0804, 0x8, 256, 1, 0⟩
def Reg.T_RALARM.LOSS_MS : Field := ⟨At.T_RALARM_1, 0, 16, .rw, 0x0, kHID⟩

/-- Table DXL-5 (14_daxide_fabric), word 0 of the entry. -/
def At.T_RASTAT_0 : RegAt := ⟨0x3A1000, 0x8, 256, 1, 0⟩
def Reg.T_RASTAT.STATE : Field := ⟨At.T_RASTAT_0, 0, 1, .ro, 0x0, kH⟩
def Reg.T_RASTAT.LOST : Field := ⟨At.T_RASTAT_0, 1, 1, .ro, 0x0, kH⟩
def Reg.T_RASTAT.SET : Field := ⟨At.T_RASTAT_0, 2, 1, .ro, 0x0, kH⟩
/-- Table DXL-5 (14_daxide_fabric), word 1 of the entry. -/
def At.T_RASTAT_1 : RegAt := ⟨0x3A1004, 0x8, 256, 1, 0⟩
def Reg.T_RASTAT.EDGE_T : Field := ⟨At.T_RASTAT_1, 0, 32, .ro, 0x0, kH⟩

/-- Table FP-2 (04_field_ports), word 0 of the entry. -/
def At.T_GATE : RegAt := ⟨0x41000, 0x2000, 16, 256, 8⟩
def Reg.T_GATE.GATES : Field := ⟨At.T_GATE, 0, 8, .rw, 0x0, kHID⟩
def Reg.T_GATE.OP : Field := ⟨At.T_GATE, 8, 4, .rw, 0x0, kHID⟩

/-- Table FP-2 (04_field_ports), word 0 of the entry. -/
def At.T_GATEI : RegAt := ⟨0x41004, 0x2000, 16, 256, 8⟩
def Reg.T_GATEI.INTERVAL : Field := ⟨At.T_GATEI, 0, 32, .rw, 0x0, kHID⟩

def regFieldsB0 : List Field :=
  [Reg.FP_CTRL.EN,
   Reg.FP_CTRL.SPEED,
   Reg.FP_CTRL.FEC,
   Reg.FP_CTRL.AN_EN,
   Reg.FP_CTRL.LOOP,
   Reg.FP_CTRL.PTP_TC,
   Reg.FP_STATUS.LINK,
   Reg.FP_STATUS.AN_DONE,
   Reg.FP_STATUS.FEC_LOCK,
   Reg.FP_STATUS.PAUSED,
   Reg.FP_STATUS.STORM,
   Reg.FP_INT.LINK_CHG,
   Reg.FP_INT.TX_UNDERRUN,
   Reg.FP_INT.TS_LOST,
   Reg.FP_INT.PAUSE_STORM,
   Reg.FP_INT.CFG_REJ,
   Reg.FP_INT.STAT_HALF,
   Reg.FP_INT.PN_HIGH,
   Reg.FP_INT.EN,
   Reg.FP_MAC_LO.ADDR,
   Reg.FP_MAC_HI.ADDR,
   Reg.FP_FRAME.MAX_LEN,
   Reg.FP_TXCFG.START_THR,
   Reg.FP_TS_LAT.RX_TRIM,
   Reg.FP_TS_LAT.TX_TRIM,
   Reg.FP_TS_CNT.PENDING,
   Reg.FP_TS_CNT.HWM,
   Reg.FP_PAUSE.MODE,
   Reg.FP_PAUSE.PFC_EN,
   Reg.FP_PAUSE.TX_EN,
   Reg.FP_PAUSE.STORM,
   Reg.FP_PAUSE_TX.QUANTA,
   Reg.FP_PAIR.MODE,
   Reg.FP_PAIR.FORGET,
   Reg.FP_PAIR.SUP_INT,
   Reg.FP_PAIR.NET_ID,
   Reg.FP_PAIR_STAT.EVICT,
   Reg.FP_PAIR_STAT.ENTRIES,
   Reg.FP_TAS_CTRL.ADMIN_LEN,
   Reg.FP_TAS_CTRL.GATE_EN,
   Reg.FP_TAS_CTRL.CONFIG_CHANGE,
   Reg.FP_TAS_CTRL.INIT,
   Reg.FP_TAS_BASE_NS.NS,
   Reg.FP_TAS_BASE_SL.SEC,
   Reg.FP_TAS_BASE_SH.SEC,
   Reg.FP_TAS_CYCLE.NS,
   Reg.FP_TAS_EXT.NS,
   Reg.FP_TAS_STAT.OPER_BANK,
   Reg.FP_TAS_STAT.PENDING,
   Reg.FP_TAS_STAT.OPER_LEN,
   Reg.FP_TAS_STAT.ENTRY,
   Reg.FP_MSEC_CTRL.EN,
   Reg.FP_MSEC_CTRL.VALIDATE,
   Reg.FP_MSEC_CTRL.PROTECT,
   Reg.FP_MSEC_CTRL.INC_SCI,
   Reg.FP_MSEC_WIN.WIN,
   Reg.FP_MSEC_TXSA.AN,
   Reg.FP_MSEC_TXSA.KEY_SLOT,
   Reg.FP_MSEC_TXSA.VALID,
   Reg.FP_MSEC_TXPN.PN]

def regFieldsB1 : List Field :=
  [Reg.FP_MSEC_SEL.SC,
   Reg.FP_MSEC_SEL.AN,
   Reg.FP_MSEC_SCI_LO.SCI,
   Reg.FP_MSEC_SCI_HI.SCI,
   Reg.FP_MSEC_RXSA.KEY_SLOT,
   Reg.FP_MSEC_RXSA.VALID,
   Reg.FP_MSEC_RXPN.PN,
   Reg.FP_BC_RXF.N,
   Reg.FP_BC_TXF.N,
   Reg.FP_BC_RXERR.N,
   Reg.FP_BC_DROP.N,
   Reg.FP_STAT_HALF.K,
   Reg.FP_FULL_LO.N,
   Reg.FP_FULL_HI.N,
   Reg.DXL_CTRL.EN,
   Reg.DXL_NODE.ID,
   Reg.DXL_NODE.BOOT,
   Reg.DXL_CFG.HOPS,
   Reg.DXL_CFG.BEACON,
   Reg.DXL_STATUS.RUN,
   Reg.DXL_STATUS.UP,
   Reg.DXL_STATUS.FAIL,
   Reg.DXL_INT.CFG_REJ,
   Reg.DXL_INT.LINK_CHG,
   Reg.DXL_INT.AUTH_FAIL,
   Reg.DXL_INT.NODE_CLASH,
   Reg.DXL_INT.LOST,
   Reg.DXL_INT.RELAY_DROP,
   Reg.DXL_INT.EN,
   Reg.DXL_UDP.PORT,
   Reg.DXL_UDP.TC,
   Reg.DXL_RELAY.EN,
   Reg.DXL_RELAY.PARENT,
   Reg.DXL_RELAY.RTO,
   Reg.DXL_RELAY_MAX.LEN,
   Reg.DXL_HOST.ALRM_RING,
   Reg.DXL_HOST.EN,
   Reg.DXL_CNT_TOKEN.N,
   Reg.DXL_CNT_DUP.N,
   Reg.DXL_CNT_OLD.N,
   Reg.DXL_CNT_AUTH.N,
   Reg.DXL_CNT_MALFORMED.N,
   Reg.DXL_CNT_BIND.N,
   Reg.DXL_CNT_CLASH.N,
   Reg.DXL_CNT_RLIM.N,
   Reg.DXL_CNT_HOPS.N,
   Reg.DXL_CNT_RELAY_EXP.N,
   Reg.DXL_CNT_RELAY_DROP.N,
   Reg.DXL_CNT_HOSTDROP.N,
   Reg.DXL_LINKn_CFG.EN,
   Reg.DXL_LINKn_CFG.MODE,
   Reg.DXL_LINKn_CFG.FEC,
   Reg.DXL_LINKn_CFG.FP,
   Reg.DXL_LINKn_CFG.TIME_EN,
   Reg.DXL_LINKn_CFG.KEY_SLOT,
   Reg.DXL_LINKn_CFG.AUTH,
   Reg.DXL_LINKn_PEER.NODE,
   Reg.DXL_LINKn_PEER.ANY,
   Reg.DXL_LINKn_KA.INT,
   Reg.DXL_LINKn_KA.MISS]

def regFieldsB2 : List Field :=
  [Reg.DXL_LINKn_TIME.RATE,
   Reg.DXL_LINKn_RLIM.FRAMES,
   Reg.DXL_LINKn_STAT.STATE,
   Reg.DXL_LINKn_STAT.AUTH_OK,
   Reg.DXL_LINKn_STAT.PARTNER,
   Reg.DXL_LINKn_RTD.NS,
   Reg.DXL_LINKn_TOFS.Q,
   Reg.DXL_LINKn_IPk.ADDR,
   Reg.DXL_LINKn_RXF.N,
   Reg.DXL_LINKn_TXF.N,
   Reg.DXL_LINKn_DROP.N,
   Reg.T_ROUTE.PRIMARY,
   Reg.T_ROUTE.P_VALID,
   Reg.T_ROUTE.ALT,
   Reg.T_ROUTE.A_VALID,
   Reg.T_RALARM.VALID,
   Reg.T_RALARM.NODE,
   Reg.T_RALARM.RULE,
   Reg.T_RALARM.INTEG,
   Reg.T_RALARM.FAILSAFE,
   Reg.T_RALARM.HOST,
   Reg.T_RALARM.LOSS_MS,
   Reg.T_RASTAT.STATE,
   Reg.T_RASTAT.LOST,
   Reg.T_RASTAT.SET,
   Reg.T_RASTAT.EDGE_T,
   Reg.T_GATE.GATES,
   Reg.T_GATE.OP,
   Reg.T_GATEI.INTERVAL]

/-- Every field of this file. -/
def regFieldsB : List Field :=
  regFieldsB0 ++ regFieldsB1 ++ regFieldsB2

/-- The words of this file whose Reset value is not zero. -/
def regResetsB : List (RegAt × Nat) :=
  [(At.FP_CTRL, 0x620),
   (At.FP_FRAME, 0x5F2),
   (At.FP_PAUSE, 0x14000000),
   (At.FP_PAUSE_TX, 0xFFFF),
   (At.FP_PAIR, 0x142800),
   (At.FP_TAS_CTRL, 0xFF0000),
   (At.FP_MSEC_CTRL, 0x1C),
   (At.DXL_CFG, 0xA08),
   (At.DXL_UDP, 0x71BEE),
   (At.DXL_RELAY, 0x14000000),
   (At.DXL_RELAY_MAX, 0x2328),
   (At.DXL_LINKn_KA, 0x303E8),
   (At.DXL_LINKn_TIME, 0x4)]

end Sys2Proof
end

