-- ==== Sys2Proof/Machine/RegsC.lean ====
section
/-!
DEFINITION. ING, ALN and ADC registers and their tables: every field of the spec's register tables and table windows of these
blocks, with its place, its access code, its Reset value and its Keeps letters, as the tables state them.
-/

namespace Sys2Proof

/-- Table ING-9 (05_ingest). -/
def At.ING_CTRL : RegAt := ⟨0x70000, 0x0, 1, 1, 0⟩
/-- Ingest on; with 0, every frame is discarded and counted in ING_CNT_UNSUP -/
def Reg.ING_CTRL.EN : Field := ⟨At.ING_CTRL, 0, 1, .rw, 0x0, kHID⟩
/-- Table ING-2, row 1 -/
def Reg.ING_CTRL.MULTITAG_HOST : Field := ⟨At.ING_CTRL, 1, 1, .rw, 0x0, kHID⟩
/-- Row 6 -/
def Reg.ING_CTRL.TCP_HOST : Field := ⟨At.ING_CTRL, 2, 1, .rw, 0x1, kHID⟩
/-- Row 5 -/
def Reg.ING_CTRL.FRAG_HOST : Field := ⟨At.ING_CTRL, 3, 1, .rw, 0x1, kHID⟩
/-- Row 10 and R180 -/
def Reg.ING_CTRL.UNK_HOST : Field := ⟨At.ING_CTRL, 4, 1, .rw, 0x0, kHID⟩
/-- R188 -/
def Reg.ING_CTRL.TEST_INVALID : Field := ⟨At.ING_CTRL, 5, 1, .rw, 0x1, kHID⟩
/-- R200 -/
def Reg.ING_CTRL.SIM_ACCEPT : Field := ⟨At.ING_CTRL, 6, 1, .rw, 0x0, kHID⟩

/-- Table ING-9 (05_ingest). -/
def At.ING_STATUS : RegAt := ⟨0x70004, 0x0, 1, 1, 0⟩
/-- Frames parsed in the last whole second -/
def Reg.ING_STATUS.FPS : Field := ⟨At.ING_STATUS, 0, 18, .ro, 0x0, kH⟩
/-- Intake buffer fill, % -/
def Reg.ING_STATUS.FILL : Field := ⟨At.ING_STATUS, 20, 8, .ro, 0x0, kH⟩

/-- Table ING-10 (05_ingest). -/
def At.ING_INT : RegAt := ⟨0x70008, 0x0, 1, 1, 0⟩
/-- R183, R184 -/
def Reg.ING_INT.CFG_REJ : Field := ⟨At.ING_INT, 0, 1, .w1c, 0x0, kH⟩
/-- R197, R198 -/
def Reg.ING_INT.CFG_CHG : Field := ⟨At.ING_INT, 1, 1, .w1c, 0x0, kH⟩
/-- R174 -/
def Reg.ING_INT.INTAKE_OVF : Field := ⟨At.ING_INT, 2, 1, .w1c, 0x0, kH⟩
/-- R181 -/
def Reg.ING_INT.BIND_FAIL : Field := ⟨At.ING_INT, 3, 1, .w1c, 0x0, kH⟩
/-- R204 -/
def Reg.ING_INT.AUTH_FAIL : Field := ⟨At.ING_INT, 4, 1, .w1c, 0x0, kH⟩
/-- R193 -/
def Reg.ING_INT.FUTURE : Field := ⟨At.ING_INT, 5, 1, .w1c, 0x0, kH⟩
/-- R203 -/
def Reg.ING_INT.TAL_EXP : Field := ⟨At.ING_INT, 6, 1, .w1c, 0x0, kH⟩
/-- R173 -/
def Reg.ING_INT.PORT_LIM : Field := ⟨At.ING_INT, 7, 1, .w1c, 0x0, kH⟩
/-- Bit 16 + k enables cause k; the vector is given in "Host interface: rings, doorbells and ordering" -/
def Reg.ING_INT.EN : Field := ⟨At.ING_INT, 16, 8, .rw, 0x0, kHID⟩

/-- Table ING-11 (05_ingest). -/
def At.ING_UDP : RegAt := ⟨0x7000C, 0x0, 1, 1, 0⟩
/-- 0: C37.118 over UDP not recognised -/
def Reg.ING_UDP.C37_PORT : Field := ⟨At.ING_UDP, 0, 16, .rw, 0x1269, kHID⟩
/-- 0: 90-5 not recognised -/
def Reg.ING_UDP.R905_PORT : Field := ⟨At.ING_UDP, 16, 16, .rw, 0x66, kHID⟩

/-- Table ING-11 (05_ingest). -/
def At.ING_TIME : RegAt := ⟨0x70010, 0x0, 1, 1, 0⟩
/-- Units of 10 µs; tolerance, 0 rejects any future time (R193) -/
def Reg.ING_TIME.FUT_TOL : Field := ⟨At.ING_TIME, 0, 16, .rw, 0x64, kHID⟩
/-- µs; tolerance, 0 demands an exact grid instant -/
def Reg.ING_TIME.GRID_TOL : Field := ⟨At.ING_TIME, 16, 16, .rw, 0xA, kHID⟩

/-- Table ING-11 (05_ingest). -/
def At.ING_RXH : RegAt := ⟨0x70014, 0x0, 1, 1, 0⟩
/-- Ring number -/
def Reg.ING_RXH.HOST_RING : Field := ⟨At.ING_RXH, 0, 8, .rw, 0x0, kHID⟩
/-- Ring number -/
def Reg.ING_RXH.CFG_RING : Field := ⟨At.ING_RXH, 8, 8, .rw, 0x0, kHID⟩
/-- Ring number -/
def Reg.ING_RXH.ALN_RING : Field := ⟨At.ING_RXH, 16, 8, .rw, 0x0, kHID⟩

/-- Table ING-11 (05_ingest). -/
def At.ING_HOSTLIM : RegAt := ⟨0x70018, 0x0, 1, 1, 0⟩
/-- Frames per second; 0: nothing forwarded under R177 -/
def Reg.ING_HOSTLIM.RATE : Field := ⟨At.ING_HOSTLIM, 0, 16, .rw, 0x3E8, kHID⟩

/-- Table ING-11 (05_ingest). -/
def At.ING_PORTLIMn : RegAt := ⟨0x70040, 0x4, 21, 1, 0⟩
/-- Frames per ms; 0: limit bypassed -/
def Reg.ING_PORTLIMn.LIMIT : Field := ⟨At.ING_PORTLIMn, 0, 16, .rw, 0x0, kHID⟩

/-- Table ING-12 (05_ingest). -/
def At.ING_CNT_ACCEPT : RegAt := ⟨0x700A0, 0x0, 1, 1, 0⟩
/-- Blocks accepted, saturating -/
def Reg.ING_CNT_ACCEPT.N : Field := ⟨At.ING_CNT_ACCEPT, 0, 32, .rc, 0x0, kH⟩

/-- Table ING-12 (05_ingest). -/
def At.ING_CNT_OVF : RegAt := ⟨0x700A4, 0x0, 1, 1, 0⟩
/-- R174 -/
def Reg.ING_CNT_OVF.N : Field := ⟨At.ING_CNT_OVF, 0, 32, .rc, 0x0, kH⟩

/-- Table ING-12 (05_ingest). -/
def At.ING_CNT_PORTLIM : RegAt := ⟨0x700A8, 0x0, 1, 1, 0⟩
/-- R173 -/
def Reg.ING_CNT_PORTLIM.N : Field := ⟨At.ING_CNT_PORTLIM, 0, 32, .rc, 0x0, kH⟩

/-- Table ING-12 (05_ingest). -/
def At.ING_CNT_UNSUP : RegAt := ⟨0x700AC, 0x0, 1, 1, 0⟩
/-- Table ING-2 -/
def Reg.ING_CNT_UNSUP.N : Field := ⟨At.ING_CNT_UNSUP, 0, 32, .rc, 0x0, kH⟩

/-- Table ING-12 (05_ingest). -/
def At.ING_CNT_UNKNOWN : RegAt := ⟨0x700B0, 0x0, 1, 1, 0⟩
/-- R180 -/
def Reg.ING_CNT_UNKNOWN.N : Field := ⟨At.ING_CNT_UNKNOWN, 0, 32, .rc, 0x0, kH⟩

/-- Table ING-12 (05_ingest). -/
def At.ING_CNT_BIND : RegAt := ⟨0x700B4, 0x0, 1, 1, 0⟩
/-- R181 -/
def Reg.ING_CNT_BIND.N : Field := ⟨At.ING_CNT_BIND, 0, 32, .rc, 0x0, kH⟩

/-- Table ING-12 (05_ingest). -/
def At.ING_CNT_RATE : RegAt := ⟨0x700B8, 0x0, 1, 1, 0⟩
/-- R182 -/
def Reg.ING_CNT_RATE.N : Field := ⟨At.ING_CNT_RATE, 0, 32, .rc, 0x0, kH⟩

/-- Table ING-12 (05_ingest). -/
def At.ING_CNT_MALFORMED : RegAt := ⟨0x700BC, 0x0, 1, 1, 0⟩
/-- R176, R179, R199, R200 -/
def Reg.ING_CNT_MALFORMED.N : Field := ⟨At.ING_CNT_MALFORMED, 0, 32, .rc, 0x0, kH⟩

/-- Table ING-12 (05_ingest). -/
def At.ING_CNT_BADCHK : RegAt := ⟨0x700C0, 0x0, 1, 1, 0⟩
/-- R179 -/
def Reg.ING_CNT_BADCHK.N : Field := ⟨At.ING_CNT_BADCHK, 0, 32, .rc, 0x0, kH⟩

/-- Table ING-12 (05_ingest). -/
def At.ING_CNT_AUTH : RegAt := ⟨0x700C4, 0x0, 1, 1, 0⟩
/-- R204 -/
def Reg.ING_CNT_AUTH.N : Field := ⟨At.ING_CNT_AUTH, 0, 32, .rc, 0x0, kH⟩

/-- Table ING-12 (05_ingest). -/
def At.ING_CNT_FUTURE : RegAt := ⟨0x700C8, 0x0, 1, 1, 0⟩
/-- R193 -/
def Reg.ING_CNT_FUTURE.N : Field := ⟨At.ING_CNT_FUTURE, 0, 32, .rc, 0x0, kH⟩

/-- Table ING-12 (05_ingest). -/
def At.ING_CNT_OFFGRID : RegAt := ⟨0x700CC, 0x0, 1, 1, 0⟩
/-- R192 -/
def Reg.ING_CNT_OFFGRID.N : Field := ⟨At.ING_CNT_OFFGRID, 0, 32, .rc, 0x0, kH⟩

/-- Table ING-12 (05_ingest). -/
def At.ING_CNT_CFGMIS : RegAt := ⟨0x700D0, 0x0, 1, 1, 0⟩
/-- R197, R200 -/
def Reg.ING_CNT_CFGMIS.N : Field := ⟨At.ING_CNT_CFGMIS, 0, 32, .rc, 0x0, kH⟩

/-- Table ING-12 (05_ingest). -/
def At.ING_CNT_HOSTDROP : RegAt := ⟨0x700D4, 0x0, 1, 1, 0⟩
/-- R177, R207 -/
def Reg.ING_CNT_HOSTDROP.N : Field := ⟨At.ING_CNT_HOSTDROP, 0, 32, .rc, 0x0, kH⟩

/-- Table ALN-10 (06_spreads_alignment). -/
def At.ALN_CTRL : RegAt := ⟨0x80000, 0x0, 1, 1, 0⟩
/-- Roll Call on (R256, R257) -/
def Reg.ALN_CTRL.EN : Field := ⟨At.ALN_CTRL, 0, 1, .rw, 0x0, kHID⟩
/-- RATE code of Table ING-3; 12–15 rejected, field unchanged, CFG_REJ set; 7 is 60 fps -/
def Reg.ALN_CTRL.SPREAD_RATE : Field := ⟨At.ALN_CTRL, 1, 4, .rw, 0x7, kHID⟩
/-- Spread periods reserved for output lag (R254); 0: none beyond enabled outputs -/
def Reg.ALN_CTRL.LAG_RSV : Field := ⟨At.ALN_CTRL, 8, 8, .rw, 0x0, kHID⟩

/-- Table ALN-10 (06_spreads_alignment). -/
def At.ALN_STATUS : RegAt := ⟨0x80004, 0x0, 1, 1, 0⟩
/-- Roll Call running -/
def Reg.ALN_STATUS.RUN : Field := ⟨At.ALN_STATUS, 0, 1, .ro, 0x0, kH⟩
/-- Status code of the last start attempt: OK or NO_SPACE -/
def Reg.ALN_STATUS.FAIL : Field := ⟨At.ALN_STATUS, 8, 8, .ro, 0x0, kH⟩
/-- Spreads open now -/
def Reg.ALN_STATUS.OPEN : Field := ⟨At.ALN_STATUS, 16, 12, .ro, 0x0, kH⟩

/-- Table ALN-11 (06_spreads_alignment). -/
def At.ALN_INT : RegAt := ⟨0x80008, 0x0, 1, 1, 0⟩
/-- A write was rejected or ignored (R212, R241, R258) -/
def Reg.ALN_INT.CFG_REJ : Field := ⟨At.ALN_INT, 0, 1, .w1c, 0x0, kH⟩
/-- R253 -/
def Reg.ALN_INT.NO_SPACE : Field := ⟨At.ALN_INT, 1, 1, .w1c, 0x0, kH⟩
/-- R219 -/
def Reg.ALN_INT.DORMANT : Field := ⟨At.ALN_INT, 2, 1, .w1c, 0x0, kH⟩
/-- R232 -/
def Reg.ALN_INT.NOSLOT : Field := ⟨At.ALN_INT, 3, 1, .w1c, 0x0, kH⟩
/-- R238 -/
def Reg.ALN_INT.SPRD_DROP : Field := ⟨At.ALN_INT, 4, 1, .w1c, 0x0, kH⟩
/-- R230 -/
def Reg.ALN_INT.LATE : Field := ⟨At.ALN_INT, 5, 1, .w1c, 0x0, kH⟩
/-- R240 -/
def Reg.ALN_INT.OUT_REJ : Field := ⟨At.ALN_INT, 6, 1, .w1c, 0x0, kH⟩
/-- Bit 16 + k enables cause k; the vector is given in "Host interface: rings, doorbells and ordering" -/
def Reg.ALN_INT.EN : Field := ⟨At.ALN_INT, 16, 7, .rw, 0x0, kHID⟩

/-- Table ALN-12 (06_spreads_alignment). -/
def At.ALN_WAIT : RegAt := ⟨0x8000C, 0x0, 1, 1, 0⟩
/-- µs, 1,000–10,000,000; other values rejected, field unchanged, CFG_REJ set -/
def Reg.ALN_WAIT.WAIT : Field := ⟨At.ALN_WAIT, 0, 24, .rw, 0xF4240, kHID⟩

/-- Table ALN-12 (06_spreads_alignment). -/
def At.ALN_LATE : RegAt := ⟨0x80010, 0x0, 1, 1, 0⟩
/-- µs; 0: the LATE flag is never set on arrival -/
def Reg.ALN_LATE.LATE_MARK : Field := ⟨At.ALN_LATE, 0, 24, .rw, 0x0, kHID⟩

/-- Table ALN-12 (06_spreads_alignment). -/
def At.ALN_HOST : RegAt := ⟨0x80014, 0x0, 1, 1, 0⟩
/-- RXH ring for spread records -/
def Reg.ALN_HOST.SPRD_RING : Field := ⟨At.ALN_HOST, 0, 8, .rw, 0x0, kHID⟩
/-- RXH ring for late patches -/
def Reg.ALN_HOST.PATCH_RING : Field := ⟨At.ALN_HOST, 8, 8, .rw, 0x0, kHID⟩
/-- R236 -/
def Reg.ALN_HOST.SPRD_EN : Field := ⟨At.ALN_HOST, 16, 1, .rw, 0x0, kHID⟩
/-- R239 -/
def Reg.ALN_HOST.PATCH_EN : Field := ⟨At.ALN_HOST, 17, 1, .rw, 0x0, kHID⟩

/-- Table ALN-12 (06_spreads_alignment). -/
def At.ALN_SIZE : RegAt := ⟨0x80018, 0x0, 1, 1, 0⟩
/-- Spread size in bytes (R213) -/
def Reg.ALN_SIZE.S : Field := ⟨At.ALN_SIZE, 0, 18, .ro, 0x0, kH⟩

/-- Table ALN-12 (06_spreads_alignment). -/
def At.ALN_DEPTH : RegAt := ⟨0x8001C, 0x0, 1, 1, 0⟩
/-- Spread slots (R253) -/
def Reg.ALN_DEPTH.D : Field := ⟨At.ALN_DEPTH, 0, 12, .ro, 0x0, kH⟩
/-- Units of 1 MiB needed -/
def Reg.ALN_DEPTH.NEED : Field := ⟨At.ALN_DEPTH, 16, 8, .ro, 0x0, kH⟩

/-- Table ALN-13 (06_spreads_alignment). -/
def At.ALN_LAST_NS : RegAt := ⟨0x80020, 0x0, 1, 1, 0⟩
/-- Instant of the last closed spread, ns; the read latches SL and SH as R35 states for TKP_NOW -/
def Reg.ALN_LAST_NS.NS : Field := ⟨At.ALN_LAST_NS, 0, 32, .ro, 0x0, kH⟩

/-- Table ALN-13 (06_spreads_alignment). -/
def At.ALN_LAST_SL : RegAt := ⟨0x80024, 0x0, 1, 1, 0⟩
/-- TAI seconds [31:0] from the shadow -/
def Reg.ALN_LAST_SL.SEC : Field := ⟨At.ALN_LAST_SL, 0, 32, .ro, 0x0, kH⟩

/-- Table ALN-13 (06_spreads_alignment). -/
def At.ALN_LAST_SH : RegAt := ⟨0x80028, 0x0, 1, 1, 0⟩
/-- TAI seconds [47:32] from the shadow; [31:16] read 0 -/
def Reg.ALN_LAST_SH.SEC : Field := ⟨At.ALN_LAST_SH, 0, 16, .ro, 0x0, kH⟩

/-- Table ALN-13 (06_spreads_alignment). -/
def At.ALN_SEQ : RegAt := ⟨0x8002C, 0x0, 1, 1, 0⟩
/-- Sequence number of the last closed spread -/
def Reg.ALN_SEQ.SEQ : Field := ⟨At.ALN_SEQ, 0, 32, .ro, 0x0, kH⟩

/-- Table ALN-14 (06_spreads_alignment). -/
def At.ALN_CNT_CLOSE_FULL : RegAt := ⟨0x80040, 0x0, 1, 1, 0⟩
/-- Spreads closed on full arrival -/
def Reg.ALN_CNT_CLOSE_FULL.N : Field := ⟨At.ALN_CNT_CLOSE_FULL, 0, 32, .rc, 0x0, kH⟩

/-- Table ALN-14 (06_spreads_alignment). -/
def At.ALN_CNT_CLOSE_DL : RegAt := ⟨0x80044, 0x0, 1, 1, 0⟩
/-- Spreads closed at the deadline -/
def Reg.ALN_CNT_CLOSE_DL.N : Field := ⟨At.ALN_CNT_CLOSE_DL, 0, 32, .rc, 0x0, kH⟩

/-- Table ALN-14 (06_spreads_alignment). -/
def At.ALN_CNT_DUP : RegAt := ⟨0x80048, 0x0, 1, 1, 0⟩
/-- R228 -/
def Reg.ALN_CNT_DUP.N : Field := ⟨At.ALN_CNT_DUP, 0, 32, .rc, 0x0, kH⟩

/-- Table ALN-14 (06_spreads_alignment). -/
def At.ALN_CNT_LATE : RegAt := ⟨0x8004C, 0x0, 1, 1, 0⟩
/-- R230 -/
def Reg.ALN_CNT_LATE.N : Field := ⟨At.ALN_CNT_LATE, 0, 32, .rc, 0x0, kH⟩

/-- Table ALN-14 (06_spreads_alignment). -/
def At.ALN_CNT_FUTURE : RegAt := ⟨0x80050, 0x0, 1, 1, 0⟩
/-- R229 -/
def Reg.ALN_CNT_FUTURE.N : Field := ⟨At.ALN_CNT_FUTURE, 0, 32, .rc, 0x0, kH⟩

/-- Table ALN-14 (06_spreads_alignment). -/
def At.ALN_CNT_NOSLOT : RegAt := ⟨0x80054, 0x0, 1, 1, 0⟩
/-- R232 -/
def Reg.ALN_CNT_NOSLOT.N : Field := ⟨At.ALN_CNT_NOSLOT, 0, 32, .rc, 0x0, kH⟩

/-- Table ALN-14 (06_spreads_alignment). -/
def At.ALN_CNT_TQDROP : RegAt := ⟨0x80058, 0x0, 1, 1, 0⟩
/-- R231 -/
def Reg.ALN_CNT_TQDROP.N : Field := ⟨At.ALN_CNT_TQDROP, 0, 32, .rc, 0x0, kH⟩

/-- Table ALN-14 (06_spreads_alignment). -/
def At.ALN_CNT_NOREGION : RegAt := ⟨0x8005C, 0x0, 1, 1, 0⟩
/-- R212, R214 -/
def Reg.ALN_CNT_NOREGION.N : Field := ⟨At.ALN_CNT_NOREGION, 0, 32, .rc, 0x0, kH⟩

/-- Table ALN-14 (06_spreads_alignment). -/
def At.ALN_CNT_SPRD_DROP : RegAt := ⟨0x80060, 0x0, 1, 1, 0⟩
/-- R238, R262 -/
def Reg.ALN_CNT_SPRD_DROP.N : Field := ⟨At.ALN_CNT_SPRD_DROP, 0, 32, .rc, 0x0, kH⟩

/-- Table ALN-14 (06_spreads_alignment). -/
def At.ALN_CNT_PATCH_DROP : RegAt := ⟨0x80064, 0x0, 1, 1, 0⟩
/-- R239, R262 -/
def Reg.ALN_CNT_PATCH_DROP.N : Field := ⟨At.ALN_CNT_PATCH_DROP, 0, 32, .rc, 0x0, kH⟩

/-- Table ALN-15 (06_spreads_alignment). -/
def At.ALN_COEFn : RegAt := ⟨0x80080, 0x4, 8, 1, 0⟩
/-- Taps 1–63, odd; even values rejected; 0: set unused. Writes while an enabled output uses the set are ignored, with CFG_REJ set. -/
def Reg.ALN_COEFn.NTAPS : Field := ⟨At.ALN_COEFn, 0, 6, .rw, 0x0, kHID⟩

/-- Table ALN-16 (06_spreads_alignment). -/
def At.ALN_OUTn_CFG : RegAt := ⟨0x80100, 0x20, 32, 1, 0⟩
/-- Output on (R240) -/
def Reg.ALN_OUTn_CFG.EN : Field := ⟨At.ALN_OUTn_CFG, 0, 1, .rw, 0x0, kHID⟩
/-- 0 C37.118, 1 R-SV -/
def Reg.ALN_OUTn_CFG.FMT : Field := ⟨At.ALN_OUTn_CFG, 1, 1, .rw, 0x0, kHID⟩
/-- C37.118 version: 0 version 1, 1 version 2 -/
def Reg.ALN_OUTn_CFG.VER2 : Field := ⟨At.ALN_OUTn_CFG, 2, 1, .rw, 0x1, kHID⟩
/-- RATE code; 12–15 refuse the output -/
def Reg.ALN_OUTn_CFG.RATE : Field := ⟨At.ALN_OUTn_CFG, 3, 4, .rw, 0x7, kHID⟩
/-- R245 -/
def Reg.ALN_OUTn_CFG.HOLD : Field := ⟨At.ALN_OUTn_CFG, 7, 1, .rw, 0x0, kHID⟩
/-- R251 -/
def Reg.ALN_OUTn_CFG.CMD_EN : Field := ⟨At.ALN_OUTn_CFG, 8, 1, .rw, 0x0, kHID⟩
/-- R251 -/
def Reg.ALN_OUTn_CFG.CMD_ANY : Field := ⟨At.ALN_OUTn_CFG, 9, 1, .rw, 0x0, kHID⟩
/-- FP 0–15; 16–31 refuse the output -/
def Reg.ALN_OUTn_CFG.PORT : Field := ⟨At.ALN_OUTn_CFG, 10, 5, .rw, 0x0, kHID⟩
/-- Traffic class -/
def Reg.ALN_OUTn_CFG.TC : Field := ⟨At.ALN_OUTn_CFG, 15, 3, .rw, 0x5, kHID⟩
/-- Key slot for R-SV -/
def Reg.ALN_OUTn_CFG.KEY_SLOT : Field := ⟨At.ALN_OUTn_CFG, 18, 6, .rw, 0x0, kHID⟩
/-- As AUTH in Table ING-3 -/
def Reg.ALN_OUTn_CFG.AUTH : Field := ⟨At.ALN_OUTn_CFG, 24, 2, .rw, 0x0, kHID⟩

/-- Table ALN-16 (06_spreads_alignment). -/
def At.ALN_OUTn_MAP : RegAt := ⟨0x80104, 0x20, 32, 1, 0⟩
/-- First pool entry -/
def Reg.ALN_OUTn_MAP.FIRST : Field := ⟨At.ALN_OUTn_MAP, 0, 12, .rw, 0x0, kHID⟩
/-- Entries 0–512; above 512 refuses the output; 0: nothing sent -/
def Reg.ALN_OUTn_MAP.COUNT : Field := ⟨At.ALN_OUTn_MAP, 16, 10, .rw, 0x0, kHID⟩

/-- Table ALN-16 (06_spreads_alignment). -/
def At.ALN_OUTn_ID : RegAt := ⟨0x80108, 0x20, 32, 1, 0⟩
/-- Output IDCODE -/
def Reg.ALN_OUTn_ID.IDCODE : Field := ⟨At.ALN_OUTn_ID, 0, 16, .rw, 0x0, kHID⟩

/-- Table ALN-16 (06_spreads_alignment). -/
def At.ALN_OUTn_TB : RegAt := ⟨0x8010C, 0x20, 32, 1, 0⟩
/-- FRACSEC base; 0 refuses the output -/
def Reg.ALN_OUTn_TB.TIME_BASE : Field := ⟨At.ALN_OUTn_TB, 0, 24, .rw, 0xF4240, kHID⟩

/-- Table ALN-16 (06_spreads_alignment). -/
def At.ALN_OUTn_LAG : RegAt := ⟨0x80110, 0x20, 32, 1, 0⟩
/-- Lag in spread periods (R244) -/
def Reg.ALN_OUTn_LAG.LAG : Field := ⟨At.ALN_OUTn_LAG, 0, 8, .ro, 0x0, kH⟩

/-- Table ALN-16 (06_spreads_alignment). -/
def At.ALN_OUTn_STAT : RegAt := ⟨0x80114, 0x20, 32, 1, 0⟩
/-- Transmission on (R251) -/
def Reg.ALN_OUTn_STAT.ON : Field := ⟨At.ALN_OUTn_STAT, 0, 1, .ro, 0x0, kH⟩
/-- The last enable was refused -/
def Reg.ALN_OUTn_STAT.REJ : Field := ⟨At.ALN_OUTn_STAT, 1, 1, .w1c, 0x0, kH⟩
/-- Status code of the last enable -/
def Reg.ALN_OUTn_STAT.REASON : Field := ⟨At.ALN_OUTn_STAT, 8, 8, .ro, 0x0, kH⟩

/-- Table ALN-16 (06_spreads_alignment). -/
def At.ALN_OUTn_CNT : RegAt := ⟨0x80118, 0x20, 32, 1, 0⟩
/-- Frames sent, saturating -/
def Reg.ALN_OUTn_CNT.N : Field := ⟨At.ALN_OUTn_CNT, 0, 32, .rc, 0x0, kH⟩

/-- Table ALN-16 (06_spreads_alignment). -/
def At.ALN_OUTn_DROP : RegAt := ⟨0x8011C, 0x20, 32, 1, 0⟩
/-- Frames discarded (R249, R250, R251), saturating -/
def Reg.ALN_OUTn_DROP.N : Field := ⟨At.ALN_OUTn_DROP, 0, 32, .rc, 0x0, kH⟩

/-- Table ADC-8 (07_local_adc). -/
def At.ADC_CTRL : RegAt := ⟨0xA0000, 0x0, 1, 1, 0⟩
/-- Table ADC-5 -/
def Reg.ADC_CTRL.FMT : Field := ⟨At.ADC_CTRL, 0, 2, .rw, 0x0, kHID⟩
/-- R285 -/
def Reg.ADC_CTRL.DIAG_EN : Field := ⟨At.ADC_CTRL, 2, 1, .rw, 0x0, kHID⟩
/-- 0 ADC0, 1 ADC1, 2 both, 3 rejected -/
def Reg.ADC_CTRL.DIAG_CV : Field := ⟨At.ADC_CTRL, 3, 2, .rw, 0x0, kHID⟩
/-- RXH ring number -/
def Reg.ADC_CTRL.DIAG_RING : Field := ⟨At.ADC_CTRL, 8, 8, .rw, 0x0, kHID⟩

/-- Table ADC-8 (07_local_adc). -/
def At.ADC_REF : RegAt := ⟨0xA0004, 0x0, 1, 1, 0⟩
/-- Reference on (R265) -/
def Reg.ADC_REF.EN : Field := ⟨At.ADC_REF, 0, 1, .rw, 0x0, kHID⟩
/-- External reference -/
def Reg.ADC_REF.EXT : Field := ⟨At.ADC_REF, 1, 1, .rw, 0x0, kHID⟩

/-- Table ADC-8 (07_local_adc). -/
def At.ADC_STATUS : RegAt := ⟨0xA0008, 0x0, 1, 1, 0⟩
/-- R265 -/
def Reg.ADC_STATUS.REF_OK : Field := ⟨At.ADC_STATUS, 0, 1, .ro, 0x0, kH⟩
/-- ADC0 running -/
def Reg.ADC_STATUS.RUN0 : Field := ⟨At.ADC_STATUS, 1, 1, .ro, 0x0, kH⟩
/-- ADC1 running -/
def Reg.ADC_STATUS.RUN1 : Field := ⟨At.ADC_STATUS, 2, 1, .ro, 0x0, kH⟩
/-- ADC0 armed -/
def Reg.ADC_STATUS.ARMED0 : Field := ⟨At.ADC_STATUS, 3, 1, .ro, 0x0, kH⟩
/-- ADC1 armed -/
def Reg.ADC_STATUS.ARMED1 : Field := ⟨At.ADC_STATUS, 4, 1, .ro, 0x0, kH⟩
/-- Entry ADC0 is running -/
def Reg.ADC_STATUS.POS0 : Field := ⟨At.ADC_STATUS, 8, 7, .ro, 0x0, kH⟩
/-- Entry ADC1 is running -/
def Reg.ADC_STATUS.POS1 : Field := ⟨At.ADC_STATUS, 16, 7, .ro, 0x0, kH⟩

/-- Table ADC-9 (07_local_adc). -/
def At.ADC_INT : RegAt := ⟨0xA000C, 0x0, 1, 1, 0⟩
/-- R276, ADC0 -/
def Reg.ADC_INT.START0 : Field := ⟨At.ADC_INT, 0, 1, .w1c, 0x0, kH⟩
/-- R276, ADC1 -/
def Reg.ADC_INT.START1 : Field := ⟨At.ADC_INT, 1, 1, .w1c, 0x0, kH⟩
/-- R273, ADC0 -/
def Reg.ADC_INT.DONE0 : Field := ⟨At.ADC_INT, 2, 1, .w1c, 0x0, kH⟩
/-- R273, ADC1 -/
def Reg.ADC_INT.DONE1 : Field := ⟨At.ADC_INT, 3, 1, .w1c, 0x0, kH⟩
/-- A write or start was rejected or ignored -/
def Reg.ADC_INT.CFG_REJ : Field := ⟨At.ADC_INT, 4, 1, .w1c, 0x0, kH⟩
/-- R266 -/
def Reg.ADC_INT.REF_EARLY : Field := ⟨At.ADC_INT, 5, 1, .w1c, 0x0, kH⟩
/-- R283 -/
def Reg.ADC_INT.TDC_RANGE : Field := ⟨At.ADC_INT, 6, 1, .w1c, 0x0, kH⟩
/-- R264 -/
def Reg.ADC_INT.CLIP : Field := ⟨At.ADC_INT, 7, 1, .w1c, 0x0, kH⟩
/-- Bit 16 + k enables cause k; the vector is given in "Host interface: rings, doorbells and ordering" -/
def Reg.ADC_INT.EN : Field := ⟨At.ADC_INT, 16, 8, .rw, 0x0, kHID⟩

/-- Table ADC-10 (07_local_adc). -/
def At.ADC_TDC_LIM : RegAt := ⟨0xA0010, 0x0, 1, 1, 0⟩
/-- Units of 0.25 ns; 0: check bypassed -/
def Reg.ADC_TDC_LIM.LIM : Field := ⟨At.ADC_TDC_LIM, 0, 8, .rw, 0x10, kHID⟩

/-- Table ADC-10 (07_local_adc). -/
def At.ADC_CLIPCH : RegAt := ⟨0xA0014, 0x0, 1, 1, 0⟩
/-- Bit c: AIN c clipped -/
def Reg.ADC_CLIPCH.CH : Field := ⟨At.ADC_CLIPCH, 0, 24, .w1c, 0x0, kH⟩

/-- Table ADC-10 (07_local_adc). -/
def At.ADC_CNT_DIAG : RegAt := ⟨0xA0018, 0x0, 1, 1, 0⟩
/-- Discarded diagnostic records, saturating -/
def Reg.ADC_CNT_DIAG.N : Field := ⟨At.ADC_CNT_DIAG, 0, 32, .rc, 0x0, kH⟩

/-- Table ADC-11 (07_local_adc). -/
def At.ADC_CVn_CTRL : RegAt := ⟨0xA0040, 0x40, 2, 1, 0⟩
/-- Converter enabled; 0 acts as STOP -/
def Reg.ADC_CVn_CTRL.EN : Field := ⟨At.ADC_CVn_CTRL, 0, 1, .rw, 0x0, kHID⟩
/-- R275; reads 0 -/
def Reg.ADC_CVn_CTRL.GO : Field := ⟨At.ADC_CVn_CTRL, 1, 1, .w1s, 0x0, kNone⟩
/-- R277; reads 0 -/
def Reg.ADC_CVn_CTRL.STOP : Field := ⟨At.ADC_CVn_CTRL, 2, 1, .w1s, 0x0, kNone⟩
/-- R288 -/
def Reg.ADC_CVn_CTRL.AUTO : Field := ⟨At.ADC_CVn_CTRL, 3, 1, .rw, 0x0, kHID⟩

/-- Table ADC-11 (07_local_adc). -/
def At.ADC_CVn_SLOT : RegAt := ⟨0xA0044, 0x40, 2, 1, 0⟩
/-- Slot length (R268) -/
def Reg.ADC_CVn_SLOT.NS : Field := ⟨At.ADC_CVn_SLOT, 0, 16, .rw, 0x1F4, kHID⟩

/-- Table ADC-11 (07_local_adc). -/
def At.ADC_CVn_LIST : RegAt := ⟨0xA0048, 0x40, 2, 1, 0⟩
/-- First entry -/
def Reg.ADC_CVn_LIST.START : Field := ⟨At.ADC_CVn_LIST, 0, 7, .rw, 0x0, kHID⟩

/-- Table ADC-11 (07_local_adc). -/
def At.ADC_CVn_LOOPS : RegAt := ⟨0xA004C, 0x40, 2, 1, 0⟩
/-- Jumps taken; 0: none (R271) -/
def Reg.ADC_CVn_LOOPS.COUNT : Field := ⟨At.ADC_CVn_LOOPS, 0, 16, .rw, 0x0, kHID⟩
/-- Loop without end -/
def Reg.ADC_CVn_LOOPS.ENDLESS : Field := ⟨At.ADC_CVn_LOOPS, 16, 1, .rw, 0x0, kHID⟩

/-- Table ADC-11 (07_local_adc). -/
def At.ADC_CVn_TSTART : RegAt := ⟨0xA0050, 0x40, 2, 1, 0⟩
/-- Start target, ST32 -/
def Reg.ADC_CVn_TSTART.ST : Field := ⟨At.ADC_CVn_TSTART, 0, 32, .rw, 0x0, kHID⟩

/-- Table ADC-11 (07_local_adc). -/
def At.ADC_CVn_TEPOCH : RegAt := ⟨0xA0054, 0x40, 2, 1, 0⟩
/-- Target epoch; used in EXTEND only -/
def Reg.ADC_CVn_TEPOCH.EPOCH : Field := ⟨At.ADC_CVn_TEPOCH, 0, 16, .rw, 0x0, kHID⟩
/-- µs; 0: no lateness tolerated (R43) -/
def Reg.ADC_CVn_TEPOCH.LATE_TOL : Field := ⟨At.ADC_CVn_TEPOCH, 16, 16, .rw, 0x0, kHID⟩

/-- Table ADC-11 (07_local_adc). -/
def At.ADC_CVn_STAT : RegAt := ⟨0xA0058, 0x40, 2, 1, 0⟩
/-- OK, LATE, EXPIRED, REJECTED or SKIPPED_ZERO -/
def Reg.ADC_CVn_STAT.START_STATUS : Field := ⟨At.ADC_CVn_STAT, 0, 8, .ro, 0x0, kH⟩

/-- Table ADC-11 (07_local_adc). -/
def At.ADC_CVn_LOOPLEN : RegAt := ⟨0xA005C, 0x40, 2, 1, 0⟩
/-- Loop length; 0 when no loop -/
def Reg.ADC_CVn_LOOPLEN.NS : Field := ⟨At.ADC_CVn_LOOPLEN, 0, 32, .ro, 0x0, kH⟩

/-- Table ADC-11 (07_local_adc). -/
def At.ADC_CVn_PASS : RegAt := ⟨0xA0060, 0x40, 2, 1, 0⟩
/-- Loop jumps taken this run, wrapping -/
def Reg.ADC_CVn_PASS.N : Field := ⟨At.ADC_CVn_PASS, 0, 32, .ro, 0x0, kH⟩

/-- Table ADC-11 (07_local_adc). -/
def At.ADC_CVn_SETTLE : RegAt := ⟨0xA0064, 0x40, 2, 1, 0⟩
/-- n of the running entry (R279) -/
def Reg.ADC_CVn_SETTLE.N : Field := ⟨At.ADC_CVn_SETTLE, 0, 9, .ro, 0x0, kH⟩

/-- Table ADC-11 (07_local_adc). -/
def At.ADC_CVn_TDC : RegAt := ⟨0xA0068, 0x40, 2, 1, 0⟩
/-- Smallest d since the last read, signed -/
def Reg.ADC_CVn_TDC.MIN : Field := ⟨At.ADC_CVn_TDC, 0, 16, .rc, 0x0, kH⟩
/-- Largest d since the last read, signed -/
def Reg.ADC_CVn_TDC.MAX : Field := ⟨At.ADC_CVn_TDC, 16, 16, .rc, 0x0, kH⟩

/-- Table ADC-11 (07_local_adc). -/
def At.ADC_CVn_CNT_INV : RegAt := ⟨0xA006C, 0x40, 2, 1, 0⟩
/-- Invalid conversions, saturating -/
def Reg.ADC_CVn_CNT_INV.N : Field := ⟨At.ADC_CVn_CNT_INV, 0, 32, .rc, 0x0, kH⟩

/-- Table ADC-11 (07_local_adc). -/
def At.ADC_CVn_CNT_CLIP : RegAt := ⟨0xA0070, 0x40, 2, 1, 0⟩
/-- Clipped conversions, saturating -/
def Reg.ADC_CVn_CNT_CLIP.N : Field := ⟨At.ADC_CVn_CNT_CLIP, 0, 32, .rc, 0x0, kH⟩

/-- Table ADC-11 (07_local_adc). -/
def At.ADC_CVn_CNT_NOLANE : RegAt := ⟨0xA0074, 0x40, 2, 1, 0⟩
/-- Samples discarded under R281, saturating -/
def Reg.ADC_CVn_CNT_NOLANE.N : Field := ⟨At.ADC_CVn_CNT_NOLANE, 0, 32, .rc, 0x0, kH⟩

/-- Table ING-3 (05_ingest), word 0 of the entry. -/
def At.T_SRC_0 : RegAt := ⟨0x200000, 0x40, 512, 1, 0⟩
def Reg.T_SRC.VALID : Field := ⟨At.T_SRC_0, 0, 1, .rw, 0x0, kHID⟩
def Reg.T_SRC.TYPE : Field := ⟨At.T_SRC_0, 1, 3, .rw, 0x0, kHID⟩
def Reg.T_SRC.RATE : Field := ⟨At.T_SRC_0, 4, 4, .rw, 0x0, kHID⟩
def Reg.T_SRC.WORDS : Field := ⟨At.T_SRC_0, 8, 7, .rw, 0x0, kHID⟩
def Reg.T_SRC.PORT : Field := ⟨At.T_SRC_0, 15, 5, .rw, 0x0, kHID⟩
def Reg.T_SRC.MAC_CHK : Field := ⟨At.T_SRC_0, 20, 1, .rw, 0x0, kHID⟩
def Reg.T_SRC.IP_CHK : Field := ⟨At.T_SRC_0, 21, 1, .rw, 0x0, kHID⟩
def Reg.T_SRC.FNOM : Field := ⟨At.T_SRC_0, 22, 1, .rw, 0x0, kHID⟩
def Reg.T_SRC.TQ_MAX : Field := ⟨At.T_SRC_0, 23, 4, .rw, 0x0, kHID⟩
def Reg.T_SRC.UNLK_MAX : Field := ⟨At.T_SRC_0, 27, 2, .rw, 0x0, kHID⟩
/-- Table ING-3 (05_ingest), word 1 of the entry. -/
def At.T_SRC_1 : RegAt := ⟨0x200004, 0x40, 512, 1, 0⟩
def Reg.T_SRC.IDCODE : Field := ⟨At.T_SRC_1, 0, 16, .rw, 0x0, kHID⟩
def Reg.T_SRC.PMU_INDEX : Field := ⟨At.T_SRC_1, 16, 9, .rw, 0x0, kHID⟩
/-- Table ING-3 (05_ingest), word 2 of the entry. -/
def At.T_SRC_2 : RegAt := ⟨0x200008, 0x40, 512, 1, 0⟩
def Reg.T_SRC.MAC_HI : Field := ⟨At.T_SRC_2, 0, 16, .rw, 0x0, kHID⟩
/-- Table ING-3 (05_ingest), word 3 of the entry. -/
def At.T_SRC_3 : RegAt := ⟨0x20000C, 0x40, 512, 1, 0⟩
def Reg.T_SRC.MAC_LO : Field := ⟨At.T_SRC_3, 0, 32, .rw, 0x0, kHID⟩
/-- Table ING-3 (05_ingest), word 4 of the entry. -/
def At.T_SRC_4 : RegAt := ⟨0x200010, 0x40, 512, 1, 0⟩
def Reg.T_SRC.IP0 : Field := ⟨At.T_SRC_4, 0, 32, .rw, 0x0, kHID⟩
/-- Table ING-3 (05_ingest), word 5 of the entry. -/
def At.T_SRC_5 : RegAt := ⟨0x200014, 0x40, 512, 1, 0⟩
def Reg.T_SRC.IP1 : Field := ⟨At.T_SRC_5, 0, 32, .rw, 0x0, kHID⟩
/-- Table ING-3 (05_ingest), word 6 of the entry. -/
def At.T_SRC_6 : RegAt := ⟨0x200018, 0x40, 512, 1, 0⟩
def Reg.T_SRC.IP2 : Field := ⟨At.T_SRC_6, 0, 32, .rw, 0x0, kHID⟩
/-- Table ING-3 (05_ingest), word 7 of the entry. -/
def At.T_SRC_7 : RegAt := ⟨0x20001C, 0x40, 512, 1, 0⟩
def Reg.T_SRC.IP3 : Field := ⟨At.T_SRC_7, 0, 32, .rw, 0x0, kHID⟩
/-- Table ING-3 (05_ingest), word 8 of the entry. -/
def At.T_SRC_8 : RegAt := ⟨0x200020, 0x40, 512, 1, 0⟩
def Reg.T_SRC.UDP_SRC : Field := ⟨At.T_SRC_8, 0, 16, .rw, 0x0, kHID⟩
def Reg.T_SRC.RLIM : Field := ⟨At.T_SRC_8, 16, 16, .rw, 0x0, kHID⟩
/-- Table ING-3 (05_ingest), word 9 of the entry. -/
def At.T_SRC_9 : RegAt := ⟨0x200024, 0x40, 512, 1, 0⟩
def Reg.T_SRC.FORMAT : Field := ⟨At.T_SRC_9, 0, 4, .rw, 0x0, kHID⟩
def Reg.T_SRC.PHNMR : Field := ⟨At.T_SRC_9, 4, 5, .rw, 0x0, kHID⟩
def Reg.T_SRC.ANNMR : Field := ⟨At.T_SRC_9, 9, 6, .rw, 0x0, kHID⟩
def Reg.T_SRC.DGNMR : Field := ⟨At.T_SRC_9, 15, 6, .rw, 0x0, kHID⟩
/-- Table ING-3 (05_ingest), word 10 of the entry. -/
def At.T_SRC_10 : RegAt := ⟨0x200028, 0x40, 512, 1, 0⟩
def Reg.T_SRC.KEY_SLOT : Field := ⟨At.T_SRC_10, 0, 6, .rw, 0x0, kHID⟩
def Reg.T_SRC.KEY_SLOT2 : Field := ⟨At.T_SRC_10, 8, 6, .rw, 0x0, kHID⟩
def Reg.T_SRC.AUTH : Field := ⟨At.T_SRC_10, 16, 2, .rw, 0x0, kHID⟩
/-- Table ING-3 (05_ingest), word 11 of the entry. -/
def At.T_SRC_11 : RegAt := ⟨0x20002C, 0x40, 512, 1, 0⟩
def Reg.T_SRC.SVID_CRC : Field := ⟨At.T_SRC_11, 0, 32, .rw, 0x0, kHID⟩
/-- Table ING-3 (05_ingest), word 12 of the entry. -/
def At.T_SRC_12 : RegAt := ⟨0x200030, 0x40, 512, 1, 0⟩
def Reg.T_SRC.TIME_BASE : Field := ⟨At.T_SRC_12, 0, 24, .rw, 0x0, kHID⟩

/-- Table ING-13 (05_ingest), word 0 of the entry. -/
def At.T_SRCSTAT_0 : RegAt := ⟨0x208000, 0x20, 512, 1, 0⟩
def Reg.T_SRCSTAT.ACCEPT : Field := ⟨At.T_SRCSTAT_0, 0, 32, .ro, 0x0, kH⟩
/-- Table ING-13 (05_ingest), word 1 of the entry. -/
def At.T_SRCSTAT_1 : RegAt := ⟨0x208004, 0x20, 512, 1, 0⟩
def Reg.T_SRCSTAT.DROP : Field := ⟨At.T_SRCSTAT_1, 0, 32, .ro, 0x0, kH⟩
/-- Table ING-13 (05_ingest), word 2 of the entry. -/
def At.T_SRCSTAT_2 : RegAt := ⟨0x208008, 0x20, 512, 1, 0⟩
def Reg.T_SRCSTAT.LAST_T : Field := ⟨At.T_SRCSTAT_2, 0, 32, .ro, 0x0, kH⟩
/-- Table ING-13 (05_ingest), word 3 of the entry. -/
def At.T_SRCSTAT_3 : RegAt := ⟨0x20800C, 0x20, 512, 1, 0⟩
def Reg.T_SRCSTAT.LAST_ARR : Field := ⟨At.T_SRCSTAT_3, 0, 32, .ro, 0x0, kH⟩
/-- Table ING-13 (05_ingest), word 4 of the entry. -/
def At.T_SRCSTAT_4 : RegAt := ⟨0x208010, 0x20, 512, 1, 0⟩
def Reg.T_SRCSTAT.LAST_STAT : Field := ⟨At.T_SRCSTAT_4, 0, 16, .ro, 0x0, kH⟩
def Reg.T_SRCSTAT.LAST_REASON : Field := ⟨At.T_SRCSTAT_4, 16, 8, .ro, 0x0, kH⟩
def Reg.T_SRCSTAT.STATE : Field := ⟨At.T_SRCSTAT_4, 24, 2, .ro, 0x0, kH⟩

/-- Table ING-5 (05_ingest), word 0 of the entry. -/
def At.T_SVSUB_0 : RegAt := ⟨0x20C000, 0x40, 64, 1, 0⟩
def Reg.T_SVSUB.VALID : Field := ⟨At.T_SVSUB_0, 0, 1, .rw, 0x0, kHID⟩
def Reg.T_SVSUB.LAYOUT : Field := ⟨At.T_SVSUB_0, 1, 2, .rw, 0x0, kHID⟩
def Reg.T_SVSUB.CHANNELS : Field := ⟨At.T_SVSUB_0, 3, 5, .rw, 0x0, kHID⟩
def Reg.T_SVSUB.PORT : Field := ⟨At.T_SVSUB_0, 8, 8, .rw, 0x0, kHID⟩
def Reg.T_SVSUB.APPID : Field := ⟨At.T_SVSUB_0, 16, 16, .rw, 0x0, kHID⟩
/-- Table ING-5 (05_ingest), word 1 of the entry. -/
def At.T_SVSUB_1 : RegAt := ⟨0x20C004, 0x40, 64, 1, 0⟩
def Reg.T_SVSUB.SVID_CRC : Field := ⟨At.T_SVSUB_1, 0, 32, .rw, 0x0, kHID⟩
/-- Table ING-5 (05_ingest), word 2 of the entry. -/
def At.T_SVSUB_2 : RegAt := ⟨0x20C008, 0x40, 64, 1, 0⟩
def Reg.T_SVSUB.DST_HI : Field := ⟨At.T_SVSUB_2, 0, 16, .rw, 0x0, kHID⟩
/-- Table ING-5 (05_ingest), word 3 of the entry. -/
def At.T_SVSUB_3 : RegAt := ⟨0x20C00C, 0x40, 64, 1, 0⟩
def Reg.T_SVSUB.DST_LO : Field := ⟨At.T_SVSUB_3, 0, 32, .rw, 0x0, kHID⟩
/-- Table ING-5 (05_ingest), word 4 of the entry. -/
def At.T_SVSUB_4 : RegAt := ⟨0x20C010, 0x40, 64, 1, 0⟩
def Reg.T_SVSUB.RATE : Field := ⟨At.T_SVSUB_4, 0, 16, .rw, 0x0, kHID⟩
def Reg.T_SVSUB.LANE_BASE : Field := ⟨At.T_SVSUB_4, 16, 9, .rw, 0x0, kHID⟩
/-- Table ING-5 (05_ingest), word 5 of the entry. -/
def At.T_SVSUB_5 : RegAt := ⟨0x20C014, 0x40, 64, 1, 0⟩
def Reg.T_SVSUB.KEY_SLOT : Field := ⟨At.T_SVSUB_5, 0, 6, .rw, 0x0, kHID⟩
def Reg.T_SVSUB.AUTH : Field := ⟨At.T_SVSUB_5, 8, 2, .rw, 0x0, kHID⟩

/-- Table ING-6 (05_ingest), word 0 of the entry. -/
def At.T_GSUB_0 : RegAt := ⟨0x20E000, 0x40, 128, 1, 0⟩
def Reg.T_GSUB.VALID : Field := ⟨At.T_GSUB_0, 0, 1, .rw, 0x0, kHID⟩
def Reg.T_GSUB.ROUTED : Field := ⟨At.T_GSUB_0, 1, 1, .rw, 0x0, kHID⟩
def Reg.T_GSUB.PORT : Field := ⟨At.T_GSUB_0, 8, 8, .rw, 0x0, kHID⟩
def Reg.T_GSUB.APPID : Field := ⟨At.T_GSUB_0, 16, 16, .rw, 0x0, kHID⟩
/-- Table ING-6 (05_ingest), word 1 of the entry. -/
def At.T_GSUB_1 : RegAt := ⟨0x20E004, 0x40, 128, 1, 0⟩
def Reg.T_GSUB.GOCB_CRC : Field := ⟨At.T_GSUB_1, 0, 32, .rw, 0x0, kHID⟩
/-- Table ING-6 (05_ingest), word 2 of the entry. -/
def At.T_GSUB_2 : RegAt := ⟨0x20E008, 0x40, 128, 1, 0⟩
def Reg.T_GSUB.CONFREV : Field := ⟨At.T_GSUB_2, 0, 32, .rw, 0x0, kHID⟩
/-- Table ING-6 (05_ingest), word 3 of the entry. -/
def At.T_GSUB_3 : RegAt := ⟨0x20E00C, 0x40, 128, 1, 0⟩
def Reg.T_GSUB.SRC : Field := ⟨At.T_GSUB_3, 0, 9, .rw, 0x0, kHID⟩
def Reg.T_GSUB.WORD : Field := ⟨At.T_GSUB_3, 9, 6, .rw, 0x0, kHID⟩
def Reg.T_GSUB.KEY_SLOT : Field := ⟨At.T_GSUB_3, 16, 6, .rw, 0x0, kHID⟩
def Reg.T_GSUB.AUTH : Field := ⟨At.T_GSUB_3, 24, 2, .rw, 0x0, kHID⟩

/-- Table ING-6 (05_ingest), word 0 of the entry. -/
def At.T_GSUBM : RegAt := ⟨0x20E010, 0x40, 128, 8, 4⟩
def Reg.T_GSUBM.LOW : Field := ⟨At.T_GSUBM, 0, 16, .rw, 0x0, kHID⟩
def Reg.T_GSUBM.HIGH : Field := ⟨At.T_GSUBM, 16, 16, .rw, 0x0, kHID⟩

/-- Table ING-1 (05_ingest), word 0 of the entry. -/
def At.T_SCALE : RegAt := ⟨0x220000, 0x4, 32768, 1, 0⟩
def Reg.T_SCALE.S : Field := ⟨At.T_SCALE, 0, 32, .rw, 0x0, kHID⟩

/-- Table ALN-17 (06_spreads_alignment), word 0 of the entry. -/
def At.T_ATTR_0 : RegAt := ⟨0x240000, 0x10, 512, 1, 0⟩
def Reg.T_ATTR.RSV : Field := ⟨At.T_ATTR_0, 0, 7, .rw, 0x0, kHID⟩
def Reg.T_ATTR.AWAIT : Field := ⟨At.T_ATTR_0, 8, 1, .rw, 0x0, kHID⟩
def Reg.T_ATTR.TQ_POLICY : Field := ⟨At.T_ATTR_0, 9, 2, .rw, 0x0, kHID⟩
def Reg.T_ATTR.HOST : Field := ⟨At.T_ATTR_0, 11, 1, .rw, 0x0, kHID⟩
def Reg.T_ATTR.RELAY : Field := ⟨At.T_ATTR_0, 12, 1, .rw, 0x0, kHID⟩
def Reg.T_ATTR.ABSENT_N : Field := ⟨At.T_ATTR_0, 16, 8, .rw, 0x0, kHID⟩
/-- Table ALN-17 (06_spreads_alignment), word 1 of the entry. -/
def At.T_ATTR_1 : RegAt := ⟨0x240004, 0x10, 512, 1, 0⟩
def Reg.T_ATTR.OFFSET : Field := ⟨At.T_ATTR_1, 0, 18, .ro, 0x0, kHID⟩
/-- Table ALN-17 (06_spreads_alignment), word 2 of the entry. -/
def At.T_ATTR_2 : RegAt := ⟨0x240008, 0x10, 512, 1, 0⟩
def Reg.T_ATTR.STATE : Field := ⟨At.T_ATTR_2, 0, 2, .ro, 0x0, kHID⟩
def Reg.T_ATTR.MISS_RUN : Field := ⟨At.T_ATTR_2, 16, 16, .ro, 0x0, kHID⟩

/-- Table ALN-8 (06_spreads_alignment), word 0 of the entry. -/
def At.T_TMPL : RegAt := ⟨0x242000, 0x100, 32, 64, 4⟩
def Reg.T_TMPL.W : Field := ⟨At.T_TMPL, 0, 32, .rw, 0x0, kHID⟩

/-- Table ALN-1 (06_spreads_alignment), word 0 of the entry. -/
def At.T_DECIM : RegAt := ⟨0x244000, 0x4, 512, 1, 0⟩
def Reg.T_DECIM.C : Field := ⟨At.T_DECIM, 0, 32, .rw, 0x0, kHID⟩

/-- Table ALN-7 (06_spreads_alignment), word 0 of the entry. -/
def At.T_POOL_0 : RegAt := ⟨0x248000, 0x10, 4096, 1, 0⟩
def Reg.T_POOL.SRC : Field := ⟨At.T_POOL_0, 0, 9, .rw, 0x0, kHID⟩
def Reg.T_POOL.METHOD : Field := ⟨At.T_POOL_0, 9, 1, .rw, 0x0, kHID⟩
def Reg.T_POOL.COEF : Field := ⟨At.T_POOL_0, 10, 3, .rw, 0x0, kHID⟩
/-- Table ALN-7 (06_spreads_alignment), word 1 of the entry. -/
def At.T_POOL_1 : RegAt := ⟨0x248004, 0x10, 4096, 1, 0⟩
def Reg.T_POOL.MASK_LO : Field := ⟨At.T_POOL_1, 0, 32, .rw, 0x0, kHID⟩
/-- Table ALN-7 (06_spreads_alignment), word 2 of the entry. -/
def At.T_POOL_2 : RegAt := ⟨0x248008, 0x10, 4096, 1, 0⟩
def Reg.T_POOL.MASK_HI : Field := ⟨At.T_POOL_2, 0, 32, .rw, 0x0, kHID⟩

/-- Table ADC-4 (07_local_adc), word 0 of the entry. -/
def At.T_ITIN_0 : RegAt := ⟨0x260000, 0x8, 128, 1, 0⟩
def Reg.T_ITIN.CHAN : Field := ⟨At.T_ITIN_0, 0, 5, .rw, 0x0, kHID⟩
def Reg.T_ITIN.GAIN : Field := ⟨At.T_ITIN_0, 5, 2, .rw, 0x0, kHID⟩
def Reg.T_ITIN.LANE : Field := ⟨At.T_ITIN_0, 7, 9, .rw, 0x0, kHID⟩
def Reg.T_ITIN.LANE_EN : Field := ⟨At.T_ITIN_0, 16, 1, .rw, 0x0, kHID⟩
def Reg.T_ITIN.ACC : Field := ⟨At.T_ITIN_0, 17, 1, .rw, 0x0, kHID⟩
def Reg.T_ITIN.OP : Field := ⟨At.T_ITIN_0, 18, 2, .rw, 0x0, kHID⟩
def Reg.T_ITIN.LOOP_TO : Field := ⟨At.T_ITIN_0, 20, 7, .rw, 0x0, kHID⟩
/-- Table ADC-4 (07_local_adc), word 1 of the entry. -/
def At.T_ITIN_1 : RegAt := ⟨0x260004, 0x8, 128, 1, 0⟩
def Reg.T_ITIN.REPEAT : Field := ⟨At.T_ITIN_1, 0, 9, .rw, 0x0, kHID⟩
def Reg.T_ITIN.DELAY : Field := ⟨At.T_ITIN_1, 16, 16, .rw, 0x0, kHID⟩

def regFieldsC0 : List Field :=
  [Reg.ING_CTRL.EN,
   Reg.ING_CTRL.MULTITAG_HOST,
   Reg.ING_CTRL.TCP_HOST,
   Reg.ING_CTRL.FRAG_HOST,
   Reg.ING_CTRL.UNK_HOST,
   Reg.ING_CTRL.TEST_INVALID,
   Reg.ING_CTRL.SIM_ACCEPT,
   Reg.ING_STATUS.FPS,
   Reg.ING_STATUS.FILL,
   Reg.ING_INT.CFG_REJ,
   Reg.ING_INT.CFG_CHG,
   Reg.ING_INT.INTAKE_OVF,
   Reg.ING_INT.BIND_FAIL,
   Reg.ING_INT.AUTH_FAIL,
   Reg.ING_INT.FUTURE,
   Reg.ING_INT.TAL_EXP,
   Reg.ING_INT.PORT_LIM,
   Reg.ING_INT.EN,
   Reg.ING_UDP.C37_PORT,
   Reg.ING_UDP.R905_PORT,
   Reg.ING_TIME.FUT_TOL,
   Reg.ING_TIME.GRID_TOL,
   Reg.ING_RXH.HOST_RING,
   Reg.ING_RXH.CFG_RING,
   Reg.ING_RXH.ALN_RING,
   Reg.ING_HOSTLIM.RATE,
   Reg.ING_PORTLIMn.LIMIT,
   Reg.ING_CNT_ACCEPT.N,
   Reg.ING_CNT_OVF.N,
   Reg.ING_CNT_PORTLIM.N,
   Reg.ING_CNT_UNSUP.N,
   Reg.ING_CNT_UNKNOWN.N,
   Reg.ING_CNT_BIND.N,
   Reg.ING_CNT_RATE.N,
   Reg.ING_CNT_MALFORMED.N,
   Reg.ING_CNT_BADCHK.N,
   Reg.ING_CNT_AUTH.N,
   Reg.ING_CNT_FUTURE.N,
   Reg.ING_CNT_OFFGRID.N,
   Reg.ING_CNT_CFGMIS.N,
   Reg.ING_CNT_HOSTDROP.N,
   Reg.ALN_CTRL.EN,
   Reg.ALN_CTRL.SPREAD_RATE,
   Reg.ALN_CTRL.LAG_RSV,
   Reg.ALN_STATUS.RUN,
   Reg.ALN_STATUS.FAIL,
   Reg.ALN_STATUS.OPEN,
   Reg.ALN_INT.CFG_REJ,
   Reg.ALN_INT.NO_SPACE,
   Reg.ALN_INT.DORMANT,
   Reg.ALN_INT.NOSLOT,
   Reg.ALN_INT.SPRD_DROP,
   Reg.ALN_INT.LATE,
   Reg.ALN_INT.OUT_REJ,
   Reg.ALN_INT.EN,
   Reg.ALN_WAIT.WAIT,
   Reg.ALN_LATE.LATE_MARK,
   Reg.ALN_HOST.SPRD_RING,
   Reg.ALN_HOST.PATCH_RING,
   Reg.ALN_HOST.SPRD_EN]

def regFieldsC1 : List Field :=
  [Reg.ALN_HOST.PATCH_EN,
   Reg.ALN_SIZE.S,
   Reg.ALN_DEPTH.D,
   Reg.ALN_DEPTH.NEED,
   Reg.ALN_LAST_NS.NS,
   Reg.ALN_LAST_SL.SEC,
   Reg.ALN_LAST_SH.SEC,
   Reg.ALN_SEQ.SEQ,
   Reg.ALN_CNT_CLOSE_FULL.N,
   Reg.ALN_CNT_CLOSE_DL.N,
   Reg.ALN_CNT_DUP.N,
   Reg.ALN_CNT_LATE.N,
   Reg.ALN_CNT_FUTURE.N,
   Reg.ALN_CNT_NOSLOT.N,
   Reg.ALN_CNT_TQDROP.N,
   Reg.ALN_CNT_NOREGION.N,
   Reg.ALN_CNT_SPRD_DROP.N,
   Reg.ALN_CNT_PATCH_DROP.N,
   Reg.ALN_COEFn.NTAPS,
   Reg.ALN_OUTn_CFG.EN,
   Reg.ALN_OUTn_CFG.FMT,
   Reg.ALN_OUTn_CFG.VER2,
   Reg.ALN_OUTn_CFG.RATE,
   Reg.ALN_OUTn_CFG.HOLD,
   Reg.ALN_OUTn_CFG.CMD_EN,
   Reg.ALN_OUTn_CFG.CMD_ANY,
   Reg.ALN_OUTn_CFG.PORT,
   Reg.ALN_OUTn_CFG.TC,
   Reg.ALN_OUTn_CFG.KEY_SLOT,
   Reg.ALN_OUTn_CFG.AUTH,
   Reg.ALN_OUTn_MAP.FIRST,
   Reg.ALN_OUTn_MAP.COUNT,
   Reg.ALN_OUTn_ID.IDCODE,
   Reg.ALN_OUTn_TB.TIME_BASE,
   Reg.ALN_OUTn_LAG.LAG,
   Reg.ALN_OUTn_STAT.ON,
   Reg.ALN_OUTn_STAT.REJ,
   Reg.ALN_OUTn_STAT.REASON,
   Reg.ALN_OUTn_CNT.N,
   Reg.ALN_OUTn_DROP.N,
   Reg.ADC_CTRL.FMT,
   Reg.ADC_CTRL.DIAG_EN,
   Reg.ADC_CTRL.DIAG_CV,
   Reg.ADC_CTRL.DIAG_RING,
   Reg.ADC_REF.EN,
   Reg.ADC_REF.EXT,
   Reg.ADC_STATUS.REF_OK,
   Reg.ADC_STATUS.RUN0,
   Reg.ADC_STATUS.RUN1,
   Reg.ADC_STATUS.ARMED0,
   Reg.ADC_STATUS.ARMED1,
   Reg.ADC_STATUS.POS0,
   Reg.ADC_STATUS.POS1,
   Reg.ADC_INT.START0,
   Reg.ADC_INT.START1,
   Reg.ADC_INT.DONE0,
   Reg.ADC_INT.DONE1,
   Reg.ADC_INT.CFG_REJ,
   Reg.ADC_INT.REF_EARLY,
   Reg.ADC_INT.TDC_RANGE]

def regFieldsC2 : List Field :=
  [Reg.ADC_INT.CLIP,
   Reg.ADC_INT.EN,
   Reg.ADC_TDC_LIM.LIM,
   Reg.ADC_CLIPCH.CH,
   Reg.ADC_CNT_DIAG.N,
   Reg.ADC_CVn_CTRL.EN,
   Reg.ADC_CVn_CTRL.GO,
   Reg.ADC_CVn_CTRL.STOP,
   Reg.ADC_CVn_CTRL.AUTO,
   Reg.ADC_CVn_SLOT.NS,
   Reg.ADC_CVn_LIST.START,
   Reg.ADC_CVn_LOOPS.COUNT,
   Reg.ADC_CVn_LOOPS.ENDLESS,
   Reg.ADC_CVn_TSTART.ST,
   Reg.ADC_CVn_TEPOCH.EPOCH,
   Reg.ADC_CVn_TEPOCH.LATE_TOL,
   Reg.ADC_CVn_STAT.START_STATUS,
   Reg.ADC_CVn_LOOPLEN.NS,
   Reg.ADC_CVn_PASS.N,
   Reg.ADC_CVn_SETTLE.N,
   Reg.ADC_CVn_TDC.MIN,
   Reg.ADC_CVn_TDC.MAX,
   Reg.ADC_CVn_CNT_INV.N,
   Reg.ADC_CVn_CNT_CLIP.N,
   Reg.ADC_CVn_CNT_NOLANE.N,
   Reg.T_SRC.VALID,
   Reg.T_SRC.TYPE,
   Reg.T_SRC.RATE,
   Reg.T_SRC.WORDS,
   Reg.T_SRC.PORT,
   Reg.T_SRC.MAC_CHK,
   Reg.T_SRC.IP_CHK,
   Reg.T_SRC.FNOM,
   Reg.T_SRC.TQ_MAX,
   Reg.T_SRC.UNLK_MAX,
   Reg.T_SRC.IDCODE,
   Reg.T_SRC.PMU_INDEX,
   Reg.T_SRC.MAC_HI,
   Reg.T_SRC.MAC_LO,
   Reg.T_SRC.IP0,
   Reg.T_SRC.IP1,
   Reg.T_SRC.IP2,
   Reg.T_SRC.IP3,
   Reg.T_SRC.UDP_SRC,
   Reg.T_SRC.RLIM,
   Reg.T_SRC.FORMAT,
   Reg.T_SRC.PHNMR,
   Reg.T_SRC.ANNMR,
   Reg.T_SRC.DGNMR,
   Reg.T_SRC.KEY_SLOT,
   Reg.T_SRC.KEY_SLOT2,
   Reg.T_SRC.AUTH,
   Reg.T_SRC.SVID_CRC,
   Reg.T_SRC.TIME_BASE,
   Reg.T_SRCSTAT.ACCEPT,
   Reg.T_SRCSTAT.DROP,
   Reg.T_SRCSTAT.LAST_T,
   Reg.T_SRCSTAT.LAST_ARR,
   Reg.T_SRCSTAT.LAST_STAT,
   Reg.T_SRCSTAT.LAST_REASON]

def regFieldsC3 : List Field :=
  [Reg.T_SRCSTAT.STATE,
   Reg.T_SVSUB.VALID,
   Reg.T_SVSUB.LAYOUT,
   Reg.T_SVSUB.CHANNELS,
   Reg.T_SVSUB.PORT,
   Reg.T_SVSUB.APPID,
   Reg.T_SVSUB.SVID_CRC,
   Reg.T_SVSUB.DST_HI,
   Reg.T_SVSUB.DST_LO,
   Reg.T_SVSUB.RATE,
   Reg.T_SVSUB.LANE_BASE,
   Reg.T_SVSUB.KEY_SLOT,
   Reg.T_SVSUB.AUTH,
   Reg.T_GSUB.VALID,
   Reg.T_GSUB.ROUTED,
   Reg.T_GSUB.PORT,
   Reg.T_GSUB.APPID,
   Reg.T_GSUB.GOCB_CRC,
   Reg.T_GSUB.CONFREV,
   Reg.T_GSUB.SRC,
   Reg.T_GSUB.WORD,
   Reg.T_GSUB.KEY_SLOT,
   Reg.T_GSUB.AUTH,
   Reg.T_GSUBM.LOW,
   Reg.T_GSUBM.HIGH,
   Reg.T_SCALE.S,
   Reg.T_ATTR.RSV,
   Reg.T_ATTR.AWAIT,
   Reg.T_ATTR.TQ_POLICY,
   Reg.T_ATTR.HOST,
   Reg.T_ATTR.RELAY,
   Reg.T_ATTR.ABSENT_N,
   Reg.T_ATTR.OFFSET,
   Reg.T_ATTR.STATE,
   Reg.T_ATTR.MISS_RUN,
   Reg.T_TMPL.W,
   Reg.T_DECIM.C,
   Reg.T_POOL.SRC,
   Reg.T_POOL.METHOD,
   Reg.T_POOL.COEF,
   Reg.T_POOL.MASK_LO,
   Reg.T_POOL.MASK_HI,
   Reg.T_ITIN.CHAN,
   Reg.T_ITIN.GAIN,
   Reg.T_ITIN.LANE,
   Reg.T_ITIN.LANE_EN,
   Reg.T_ITIN.ACC,
   Reg.T_ITIN.OP,
   Reg.T_ITIN.LOOP_TO,
   Reg.T_ITIN.REPEAT,
   Reg.T_ITIN.DELAY]

/-- Every field of this file. -/
def regFieldsC : List Field :=
  regFieldsC0 ++ regFieldsC1 ++ regFieldsC2 ++ regFieldsC3

/-- The words of this file whose Reset value is not zero. -/
def regResetsC : List (RegAt × Nat) :=
  [(At.ING_CTRL, 0x2C),
   (At.ING_UDP, 0x661269),
   (At.ING_TIME, 0xA0064),
   (At.ING_HOSTLIM, 0x3E8),
   (At.ALN_CTRL, 0xE),
   (At.ALN_WAIT, 0xF4240),
   (At.ALN_OUTn_CFG, 0x2803C),
   (At.ALN_OUTn_TB, 0xF4240),
   (At.ADC_TDC_LIM, 0x10),
   (At.ADC_CVn_SLOT, 0x1F4)]

end Sys2Proof
end

