-- ==== Sys2Proof/Machine/RegsD.lean ====
section
/-!
DEFINITION. FLT, RUL and MOD registers and their tables: every field of the spec's register tables and table windows of these
blocks, with its place, its access code, its Reset value and its Keeps letters, as the tables state them.
-/

namespace Sys2Proof

/-- Table FLT-8 (08_filter_chain). -/
def At.FLT_CTRL : RegAt := ⟨0xB0000, 0x0, 1, 1, 0⟩
/-- Lanes on; 0 makes every lane idle without changing its EN -/
def Reg.FLT_CTRL.EN : Field := ⟨At.FLT_CTRL, 0, 1, .rw, 0x0, kHID⟩
/-- R294; 0: any gap causes a synchronising reset -/
def Reg.FLT_CTRL.GAP_MAX : Field := ⟨At.FLT_CTRL, 8, 4, .rw, 0x4, kHID⟩
/-- µs; tolerance for R295 and R325 -/
def Reg.FLT_CTRL.IN_TMO : Field := ⟨At.FLT_CTRL, 16, 16, .rw, 0x7D0, kHID⟩

/-- Table FLT-8 (08_filter_chain). -/
def At.FLT_STAT : RegAt := ⟨0xB0004, 0x0, 1, 1, 0⟩
/-- R320 -/
def Reg.FLT_STAT.SWAP_OVERWRITTEN : Field := ⟨At.FLT_STAT, 0, 1, .w1c, 0x0, kH⟩
/-- Lanes delivering valid output -/
def Reg.FLT_STAT.LANES_RUN : Field := ⟨At.FLT_STAT, 16, 10, .ro, 0x0, kH⟩

/-- Table FLT-8 (08_filter_chain). -/
def At.FLT_HOST : RegAt := ⟨0xB000C, 0x0, 1, 1, 0⟩
/-- RXH ring number -/
def Reg.FLT_HOST.IQ_RING : Field := ⟨At.FLT_HOST, 0, 8, .rw, 0x0, kHID⟩
/-- Pairs per record; 0: no records -/
def Reg.FLT_HOST.BLK : Field := ⟨At.FLT_HOST, 8, 12, .rw, 0x40, kHID⟩

/-- Table FLT-9 (08_filter_chain). -/
def At.FLT_INT : RegAt := ⟨0xB0008, 0x0, 1, 1, 0⟩
/-- A write or enable was refused or ignored -/
def Reg.FLT_INT.CFG_REJ : Field := ⟨At.FLT_INT, 0, 1, .w1c, 0x0, kH⟩
/-- R296, R298, R300 -/
def Reg.FLT_INT.SAT : Field := ⟨At.FLT_INT, 1, 1, .w1c, 0x0, kH⟩
/-- R294 -/
def Reg.FLT_INT.GAP : Field := ⟨At.FLT_INT, 2, 1, .w1c, 0x0, kH⟩
/-- A synchronising reset caused by the input -/
def Reg.FLT_INT.SYNC : Field := ⟨At.FLT_INT, 3, 1, .w1c, 0x0, kH⟩
/-- A fade completed -/
def Reg.FLT_INT.SWAP_DONE : Field := ⟨At.FLT_INT, 4, 1, .w1c, 0x0, kH⟩
/-- R322 -/
def Reg.FLT_INT.SWAP_LATE : Field := ⟨At.FLT_INT, 5, 1, .w1c, 0x0, kH⟩
/-- R329 -/
def Reg.FLT_INT.IQ_DROP : Field := ⟨At.FLT_INT, 6, 1, .w1c, 0x0, kH⟩
/-- Bit 16 + k enables cause k; the vector is given in "Host interface: rings, doorbells and ordering" -/
def Reg.FLT_INT.EN : Field := ⟨At.FLT_INT, 16, 7, .rw, 0x0, kHID⟩

/-- Table FLT-10 (08_filter_chain). -/
def At.FLT_BUDGET_IN : RegAt := ⟨0xB0010, 0x0, 1, 1, 0⟩
/-- Σ FS in ksample/s, rounded up, of 32,000 -/
def Reg.FLT_BUDGET_IN.KSPS : Field := ⟨At.FLT_BUDGET_IN, 0, 16, .ro, 0x0, kH⟩

/-- Table FLT-10 (08_filter_chain). -/
def At.FLT_BUDGET_MAC : RegAt := ⟨0xB0014, 0x0, 1, 1, 0⟩
/-- FIR budget in use in 10^6 MAC/s, rounded up, of 1,024 -/
def Reg.FLT_BUDGET_MAC.MMAC : Field := ⟨At.FLT_BUDGET_MAC, 0, 16, .ro, 0x0, kH⟩

/-- Table FLT-10 (08_filter_chain). -/
def At.FLT_BUDGET_HIST : RegAt := ⟨0xB0018, 0x0, 1, 1, 0⟩
/-- History words in use, of 262,144 -/
def Reg.FLT_BUDGET_HIST.WORDS : Field := ⟨At.FLT_BUDGET_HIST, 0, 19, .ro, 0x0, kH⟩

/-- Table FLT-10 (08_filter_chain). -/
def At.FLT_SWAP_CMD : RegAt := ⟨0xB0020, 0x0, 1, 1, 0⟩
/-- First lane -/
def Reg.FLT_SWAP_CMD.LANE : Field := ⟨At.FLT_SWAP_CMD, 0, 9, .rw, 0x0, kHID⟩
/-- Lanes 0–32; above 32 refused; 0: SKIPPED_ZERO -/
def Reg.FLT_SWAP_CMD.NLANE : Field := ⟨At.FLT_SWAP_CMD, 16, 6, .rw, 0x1, kHID⟩
/-- Bank to make active -/
def Reg.FLT_SWAP_CMD.BANK : Field := ⟨At.FLT_SWAP_CMD, 24, 1, .rw, 0x0, kHID⟩
/-- R317; reads 0 -/
def Reg.FLT_SWAP_CMD.GO : Field := ⟨At.FLT_SWAP_CMD, 31, 1, .w1s, 0x0, kNone⟩

/-- Table FLT-10 (08_filter_chain). -/
def At.FLT_SWAP_T : RegAt := ⟨0xB0024, 0x0, 1, 1, 0⟩
/-- Target, ST32 -/
def Reg.FLT_SWAP_T.ST : Field := ⟨At.FLT_SWAP_T, 0, 32, .rw, 0x0, kHID⟩

/-- Table FLT-10 (08_filter_chain). -/
def At.FLT_SWAP_TE : RegAt := ⟨0xB0028, 0x0, 1, 1, 0⟩
/-- Target epoch; used in EXTEND only -/
def Reg.FLT_SWAP_TE.EPOCH : Field := ⟨At.FLT_SWAP_TE, 0, 16, .rw, 0x0, kHID⟩
/-- µs; 0: no lateness tolerated (R43) -/
def Reg.FLT_SWAP_TE.LATE_TOL : Field := ⟨At.FLT_SWAP_TE, 16, 16, .rw, 0x0, kHID⟩

/-- Table FLT-10 (08_filter_chain). -/
def At.FLT_SWAP_RES : RegAt := ⟨0xB002C, 0x0, 1, 1, 0⟩
/-- OK, REJECTED or SKIPPED_ZERO -/
def Reg.FLT_SWAP_RES.STATUS : Field := ⟨At.FLT_SWAP_RES, 0, 8, .ro, 0x0, kH⟩

/-- Table FLT-11 (08_filter_chain). -/
def At.FLT_CNT_NOLANE : RegAt := ⟨0xB0040, 0x0, 1, 1, 0⟩
/-- R289 -/
def Reg.FLT_CNT_NOLANE.N : Field := ⟨At.FLT_CNT_NOLANE, 0, 32, .rc, 0x0, kH⟩

/-- Table FLT-11 (08_filter_chain). -/
def At.FLT_CNT_GAP : RegAt := ⟨0xB0044, 0x0, 1, 1, 0⟩
/-- Positions filled under R294 -/
def Reg.FLT_CNT_GAP.N : Field := ⟨At.FLT_CNT_GAP, 0, 32, .rc, 0x0, kH⟩

/-- Table FLT-11 (08_filter_chain). -/
def At.FLT_CNT_DUPSMP : RegAt := ⟨0xB0048, 0x0, 1, 1, 0⟩
/-- R294 -/
def Reg.FLT_CNT_DUPSMP.N : Field := ⟨At.FLT_CNT_DUPSMP, 0, 32, .rc, 0x0, kH⟩

/-- Table FLT-11 (08_filter_chain). -/
def At.FLT_CNT_SYNC : RegAt := ⟨0xB004C, 0x0, 1, 1, 0⟩
/-- Samples discarded under R312 -/
def Reg.FLT_CNT_SYNC.N : Field := ⟨At.FLT_CNT_SYNC, 0, 32, .rc, 0x0, kH⟩

/-- Table FLT-11 (08_filter_chain). -/
def At.FLT_CNT_SAT : RegAt := ⟨0xB0050, 0x0, 1, 1, 0⟩
/-- Saturations -/
def Reg.FLT_CNT_SAT.N : Field := ⟨At.FLT_CNT_SAT, 0, 32, .rc, 0x0, kH⟩

/-- Table FLT-11 (08_filter_chain). -/
def At.FLT_CNT_IQ_DROP : RegAt := ⟨0xB0054, 0x0, 1, 1, 0⟩
/-- R329 -/
def Reg.FLT_CNT_IQ_DROP.N : Field := ⟨At.FLT_CNT_IQ_DROP, 0, 32, .rc, 0x0, kH⟩

/-- Table FLT-12 (08_filter_chain). -/
def At.FLT_SETTLE_LANEn : RegAt := ⟨0xB1000, 0x4, 512, 1, 0⟩
/-- Invalid outputs after a reset at current settings (R314) -/
def Reg.FLT_SETTLE_LANEn.N : Field := ⟨At.FLT_SETTLE_LANEn, 0, 16, .ro, 0x0, kH⟩
/-- Invalid outputs still to come -/
def Reg.FLT_SETTLE_LANEn.REMAIN : Field := ⟨At.FLT_SETTLE_LANEn, 16, 16, .ro, 0x0, kH⟩

/-- Table RUL-17 (09_rules_islands). -/
def At.RUL_CTRL : RegAt := ⟨0xC0000, 0x0, 1, 1, 0⟩
/-- Passes run (R336) -/
def Reg.RUL_CTRL.EN : Field := ⟨At.RUL_CTRL, 0, 1, .rw, 0x0, kHID⟩
/-- R363 -/
def Reg.RUL_CTRL.DIS_POL : Field := ⟨At.RUL_CTRL, 1, 1, .rw, 0x0, kHID⟩
/-- Area, pair and island steps run -/
def Reg.RUL_CTRL.AREA_EN : Field := ⟨At.RUL_CTRL, 2, 1, .rw, 0x1, kHID⟩
/-- Quick detectors run -/
def Reg.RUL_CTRL.QD_EN : Field := ⟨At.RUL_CTRL, 3, 1, .rw, 0x1, kHID⟩
/-- R366 -/
def Reg.RUL_CTRL.COPY_CHK : Field := ⟨At.RUL_CTRL, 4, 1, .rw, 0x1, kHID⟩

/-- Table RUL-17 (09_rules_islands). -/
def At.RUL_STATUS : RegAt := ⟨0xC0004, 0x0, 1, 1, 0⟩
/-- Passes running -/
def Reg.RUL_STATUS.RUN : Field := ⟨At.RUL_STATUS, 0, 1, .ro, 0x0, kH⟩
/-- After the last pass -/
def Reg.RUL_STATUS.ISLANDS : Field := ⟨At.RUL_STATUS, 8, 7, .ro, 0x0, kH⟩
/-- Evaluation queue fill, 0–64 -/
def Reg.RUL_STATUS.QDEPTH : Field := ⟨At.RUL_STATUS, 16, 7, .ro, 0x0, kH⟩
/-- INTEGRITY set (R365) -/
def Reg.RUL_STATUS.INTEG : Field := ⟨At.RUL_STATUS, 24, 1, .ro, 0x0, kH⟩

/-- Table RUL-18 (09_rules_islands). -/
def At.RUL_INT : RegAt := ⟨0xC0008, 0x0, 1, 1, 0⟩
/-- A write was refused or ignored -/
def Reg.RUL_INT.CFG_REJ : Field := ⟨At.RUL_INT, 0, 1, .w1c, 0x0, kH⟩
/-- R362 -/
def Reg.RUL_INT.INTEG : Field := ⟨At.RUL_INT, 1, 1, .w1c, 0x0, kH⟩
/-- A rule edge occurred -/
def Reg.RUL_INT.EDGE : Field := ⟨At.RUL_INT, 2, 1, .w1c, 0x0, kH⟩
/-- R348 -/
def Reg.RUL_INT.ISL_CHG : Field := ⟨At.RUL_INT, 3, 1, .w1c, 0x0, kH⟩
/-- R337 -/
def Reg.RUL_INT.SKIP : Field := ⟨At.RUL_INT, 4, 1, .w1c, 0x0, kH⟩
/-- R379 -/
def Reg.RUL_INT.ALRM_DROP : Field := ⟨At.RUL_INT, 5, 1, .w1c, 0x0, kH⟩
/-- R377 -/
def Reg.RUL_INT.TOK_DROP : Field := ⟨At.RUL_INT, 6, 1, .w1c, 0x0, kH⟩
/-- R374 -/
def Reg.RUL_INT.GOOSE_DROP : Field := ⟨At.RUL_INT, 7, 1, .w1c, 0x0, kH⟩
/-- Bit 16 + k enables cause k; the vector is given in "Host interface: rings, doorbells and ordering" -/
def Reg.RUL_INT.EN : Field := ⟨At.RUL_INT, 16, 8, .rw, 0x0, kHID⟩

/-- Table RUL-19 (09_rules_islands). -/
def At.RUL_ISL : RegAt := ⟨0xC000C, 0x0, 1, 1, 0⟩
/-- Reference area for APART -/
def Reg.RUL_ISL.REF_AREA : Field := ⟨At.RUL_ISL, 0, 6, .rw, 0x0, kHID⟩

/-- Table RUL-19 (09_rules_islands). -/
def At.RUL_HOST : RegAt := ⟨0xC0010, 0x0, 1, 1, 0⟩
/-- ALRM ring number; another class drops the records as under R379 -/
def Reg.RUL_HOST.ALRM_RING : Field := ⟨At.RUL_HOST, 0, 8, .rw, 0x0, kHID⟩
/-- R378 -/
def Reg.RUL_HOST.HOST_EN : Field := ⟨At.RUL_HOST, 8, 1, .rw, 0x0, kHID⟩

/-- Table RUL-19 (09_rules_islands). -/
def At.RUL_ACK : RegAt := ⟨0xC0014, 0x0, 1, 1, 0⟩
/-- Rule to acknowledge -/
def Reg.RUL_ACK.RULE : Field := ⟨At.RUL_ACK, 0, 12, .wo, 0x0, kNone⟩
/-- 1 acknowledges RULE (R359) -/
def Reg.RUL_ACK.GO : Field := ⟨At.RUL_ACK, 12, 1, .wo, 0x0, kNone⟩
/-- 1 acknowledges INTEGRITY (R365) -/
def Reg.RUL_ACK.INTEG : Field := ⟨At.RUL_ACK, 13, 1, .wo, 0x0, kNone⟩

/-- Table RUL-19 (09_rules_islands). -/
def At.RUL_INTEG_CFG : RegAt := ⟨0xC0018, 0x0, 1, 1, 0⟩
/-- Token on INTEGRITY edges -/
def Reg.RUL_INTEG_CFG.TOKEN : Field := ⟨At.RUL_INTEG_CFG, 0, 1, .rw, 0x0, kHID⟩
/-- Record on INTEGRITY edges -/
def Reg.RUL_INTEG_CFG.HOST : Field := ⟨At.RUL_INTEG_CFG, 1, 1, .rw, 0x1, kHID⟩
/-- R375 -/
def Reg.RUL_INTEG_CFG.STAT_REASON : Field := ⟨At.RUL_INTEG_CFG, 2, 4, .rw, 0xF, kHID⟩

/-- Table RUL-19 (09_rules_islands). -/
def At.RUL_INTEG_OUT : RegAt := ⟨0xC001C, 0x0, 1, 1, 0⟩
/-- Bit n: output n carries INTEGRITY in STAT -/
def Reg.RUL_INTEG_OUT.MASK : Field := ⟨At.RUL_INTEG_OUT, 0, 32, .rw, 0x0, kHID⟩

/-- Table RUL-19 (09_rules_islands). -/
def At.RUL_INTEG_STAT : RegAt := ⟨0xC0020, 0x0, 1, 1, 0⟩
/-- First disagreement: 0 area, 1 pair, 2 island, 3 detector, 4 rule, 5 table copy -/
def Reg.RUL_INTEG_STAT.KIND : Field := ⟨At.RUL_INTEG_STAT, 0, 3, .ro, 0x0, kH⟩
/-- Its index -/
def Reg.RUL_INTEG_STAT.INDEX : Field := ⟨At.RUL_INTEG_STAT, 3, 12, .ro, 0x0, kH⟩
/-- Disagreeing passes, saturating; the read also rearms KIND and INDEX -/
def Reg.RUL_INTEG_STAT.COUNT : Field := ⟨At.RUL_INTEG_STAT, 16, 16, .rc, 0x0, kH⟩

/-- Table RUL-20 (09_rules_islands). -/
def At.RUL_PINn : RegAt := ⟨0xC0030, 0x4, 4, 1, 0⟩
/-- R368 -/
def Reg.RUL_PINn.MODE : Field := ⟨At.RUL_PINn, 0, 2, .rw, 0x0, kHID⟩
/-- Follow INTEGRITY in mode 1 -/
def Reg.RUL_PINn.INTEG : Field := ⟨At.RUL_PINn, 2, 1, .rw, 0x0, kHID⟩
/-- R369 -/
def Reg.RUL_PINn.TEST : Field := ⟨At.RUL_PINn, 3, 1, .rw, 0x0, kHID⟩
/-- Releases a latched pin; reads 0 -/
def Reg.RUL_PINn.REL : Field := ⟨At.RUL_PINn, 4, 1, .w1s, 0x0, kNone⟩
/-- ms; 0: no minimum, and no pulse in mode 2 -/
def Reg.RUL_PINn.MIN_WIDTH : Field := ⟨At.RUL_PINn, 8, 8, .rw, 0x0, kHID⟩
/-- Pin asserted -/
def Reg.RUL_PINn.STATE : Field := ⟨At.RUL_PINn, 16, 1, .ro, 0x0, kH⟩

/-- Table RUL-21 (09_rules_islands). -/
def At.RUL_CNT_PASS : RegAt := ⟨0xC0080, 0x0, 1, 1, 0⟩
/-- Passes completed -/
def Reg.RUL_CNT_PASS.N : Field := ⟨At.RUL_CNT_PASS, 0, 32, .rc, 0x0, kH⟩

/-- Table RUL-21 (09_rules_islands). -/
def At.RUL_CNT_EDGE : RegAt := ⟨0xC0084, 0x0, 1, 1, 0⟩
/-- Rule edges -/
def Reg.RUL_CNT_EDGE.N : Field := ⟨At.RUL_CNT_EDGE, 0, 32, .rc, 0x0, kH⟩

/-- Table RUL-21 (09_rules_islands). -/
def At.RUL_CNT_SKIP : RegAt := ⟨0xC0088, 0x0, 1, 1, 0⟩
/-- R337 -/
def Reg.RUL_CNT_SKIP.N : Field := ⟨At.RUL_CNT_SKIP, 0, 32, .rc, 0x0, kH⟩

/-- Table RUL-21 (09_rules_islands). -/
def At.RUL_CNT_INTEG : RegAt := ⟨0xC008C, 0x0, 1, 1, 0⟩
/-- R362 -/
def Reg.RUL_CNT_INTEG.N : Field := ⟨At.RUL_CNT_INTEG, 0, 32, .rc, 0x0, kH⟩

/-- Table RUL-21 (09_rules_islands). -/
def At.RUL_CNT_ALRM_DROP : RegAt := ⟨0xC0090, 0x0, 1, 1, 0⟩
/-- R379 -/
def Reg.RUL_CNT_ALRM_DROP.N : Field := ⟨At.RUL_CNT_ALRM_DROP, 0, 32, .rc, 0x0, kH⟩

/-- Table RUL-21 (09_rules_islands). -/
def At.RUL_CNT_TOK_DROP : RegAt := ⟨0xC0094, 0x0, 1, 1, 0⟩
/-- R377 -/
def Reg.RUL_CNT_TOK_DROP.N : Field := ⟨At.RUL_CNT_TOK_DROP, 0, 32, .rc, 0x0, kH⟩

/-- Table RUL-21 (09_rules_islands). -/
def At.RUL_CNT_GOOSE_TX : RegAt := ⟨0xC0098, 0x0, 1, 1, 0⟩
/-- Template frames queued -/
def Reg.RUL_CNT_GOOSE_TX.N : Field := ⟨At.RUL_CNT_GOOSE_TX, 0, 32, .rc, 0x0, kH⟩

/-- Table RUL-21 (09_rules_islands). -/
def At.RUL_CNT_GOOSE_DROP : RegAt := ⟨0xC009C, 0x0, 1, 1, 0⟩
/-- R374 -/
def Reg.RUL_CNT_GOOSE_DROP.N : Field := ⟨At.RUL_CNT_GOOSE_DROP, 0, 32, .rc, 0x0, kH⟩

/-- Table RUL-22 (09_rules_islands). -/
def At.RUL_HSTATEj : RegAt := ⟨0xC0400, 0x4, 128, 1, 0⟩
/-- Bit k: host state of rule 32 × j + k (R381) -/
def Reg.RUL_HSTATEj.ACT : Field := ⟨At.RUL_HSTATEj, 0, 32, .rw, 0x0, kH⟩

/-- Table MOD-10 (10_modal_engine). -/
def At.MOD_CTRL : RegAt := ⟨0xD0000, 0x0, 1, 1, 0⟩
/-- Engine on (R418, R420) -/
def Reg.MOD_CTRL.EN : Field := ⟨At.MOD_CTRL, 0, 1, .rw, 0x0, kHID⟩
/-- L, 4–512; 0: engine skipped -/
def Reg.MOD_CTRL.LANES : Field := ⟨At.MOD_CTRL, 1, 10, .rw, 0x0, kHID⟩
/-- B, 3–128; 0: engine skipped -/
def Reg.MOD_CTRL.BINS : Field := ⟨At.MOD_CTRL, 16, 8, .rw, 0x0, kHID⟩

/-- Table MOD-10 (10_modal_engine). -/
def At.MOD_STATUS : RegAt := ⟨0xD0004, 0x0, 1, 1, 0⟩
/-- Engine running -/
def Reg.MOD_STATUS.RUN : Field := ⟨At.MOD_STATUS, 0, 1, .ro, 0x0, kH⟩
/-- 0 stopped, 1 no segment yet, 2 accumulating, 3 epoch processing -/
def Reg.MOD_STATUS.STATE : Field := ⟨At.MOD_STATUS, 1, 2, .ro, 0x0, kH⟩
/-- Status of the last start (Table MOD-8) -/
def Reg.MOD_STATUS.FAIL : Field := ⟨At.MOD_STATUS, 8, 8, .ro, 0x0, kH⟩
/-- Q, quadrants of the MODAL partition -/
def Reg.MOD_STATUS.QUADS : Field := ⟨At.MOD_STATUS, 16, 2, .ro, 0x0, kH⟩

/-- Table MOD-11 (10_modal_engine). -/
def At.MOD_INT : RegAt := ⟨0xD0008, 0x0, 1, 1, 0⟩
/-- A write or start was refused or ignored -/
def Reg.MOD_INT.CFG_REJ : Field := ⟨At.MOD_INT, 0, 1, .w1c, 0x0, kH⟩
/-- An epoch record or snapshot ended -/
def Reg.MOD_INT.EPOCH : Field := ⟨At.MOD_INT, 1, 1, .w1c, 0x0, kH⟩
/-- R402 -/
def Reg.MOD_INT.EP_SKIP : Field := ⟨At.MOD_INT, 2, 1, .w1c, 0x0, kH⟩
/-- R401 -/
def Reg.MOD_INT.EP_ABANDON : Field := ⟨At.MOD_INT, 3, 1, .w1c, 0x0, kH⟩
/-- R394 -/
def Reg.MOD_INT.LANE_ZERO : Field := ⟨At.MOD_INT, 4, 1, .w1c, 0x0, kH⟩
/-- R398 -/
def Reg.MOD_INT.BIN_RST : Field := ⟨At.MOD_INT, 5, 1, .w1c, 0x0, kH⟩
/-- R405 -/
def Reg.MOD_INT.NOCONV : Field := ⟨At.MOD_INT, 6, 1, .w1c, 0x0, kH⟩
/-- R412 -/
def Reg.MOD_INT.RES_DROP : Field := ⟨At.MOD_INT, 7, 1, .w1c, 0x0, kH⟩
/-- R417 -/
def Reg.MOD_INT.SNAP_FAIL : Field := ⟨At.MOD_INT, 8, 1, .w1c, 0x0, kH⟩
/-- Bit 16 + k enables cause k; the vector is given in "Host interface: rings, doorbells and ordering" -/
def Reg.MOD_INT.EN : Field := ⟨At.MOD_INT, 16, 9, .rw, 0x0, kHID⟩

/-- Table MOD-12 (10_modal_engine). -/
def At.MOD_SAMP : RegAt := ⟨0xD000C, 0x0, 1, 1, 0⟩
/-- Spreads per modal sample; 0 acts as 1 -/
def Reg.MOD_SAMP.DEC : Field := ⟨At.MOD_SAMP, 0, 8, .rw, 0x1, kHID⟩
/-- R391; 0: mean removal bypassed -/
def Reg.MOD_SAMP.MSH : Field := ⟨At.MOD_SAMP, 8, 4, .rw, 0x8, kHID⟩
/-- R394; tolerance -/
def Reg.MOD_SAMP.GAP_MAX : Field := ⟨At.MOD_SAMP, 16, 12, .rw, 0x10, kHID⟩

/-- Table MOD-12 (10_modal_engine). -/
def At.MOD_SEG : RegAt := ⟨0xD0010, 0x0, 1, 1, 0⟩
/-- N = 2^NSH, 6–12; other values rejected, field unchanged, CFG_REJ set -/
def Reg.MOD_SEG.NSH : Field := ⟨At.MOD_SEG, 0, 4, .rw, 0x9, kHID⟩
/-- R396, 0–10; above 10 rejected -/
def Reg.MOD_SEG.FSH : Field := ⟨At.MOD_SEG, 4, 4, .rw, 0x3, kHID⟩

/-- Table MOD-12 (10_modal_engine). -/
def At.MOD_EPOCH : RegAt := ⟨0xD0014, 0x0, 1, 1, 0⟩
/-- Units of 100 ms, 5–600; other values rejected -/
def Reg.MOD_EPOCH.EPOCH : Field := ⟨At.MOD_EPOCH, 0, 10, .rw, 0x64, kHID⟩

/-- Table MOD-12 (10_modal_engine). -/
def At.MOD_DEC : RegAt := ⟨0xD0018, 0x0, 1, 1, 0⟩
/-- 1–16; above 16 rejected; 0: decomposition skipped, records with FLAGS bit 5 and NPEAK 0 -/
def Reg.MOD_DEC.ITER : Field := ⟨At.MOD_DEC, 0, 5, .rw, 0x8, kHID⟩
/-- Residual below 2^-TOL_SH; 0: one iteration per bin, no check -/
def Reg.MOD_DEC.TOL_SH : Field := ⟨At.MOD_DEC, 8, 4, .rw, 0xC, kHID⟩

/-- Table MOD-13 (10_modal_engine). -/
def At.MOD_PROM : RegAt := ⟨0xD0020, 0x0, 1, 1, 0⟩
/-- binary32 prominence (2.0); 1.0 or less: check bypassed -/
def Reg.MOD_PROM.P : Field := ⟨At.MOD_PROM, 0, 32, .rw, 0x40000000, kHID⟩

/-- Table MOD-13 (10_modal_engine). -/
def At.MOD_FLOOR : RegAt := ⟨0xD0024, 0x0, 1, 1, 0⟩
/-- binary32 σ1 floor; 0: no floor -/
def Reg.MOD_FLOOR.F : Field := ⟨At.MOD_FLOOR, 0, 32, .rw, 0x0, kHID⟩

/-- Table MOD-13 (10_modal_engine). -/
def At.MOD_TRACK : RegAt := ⟨0xD0028, 0x0, 1, 1, 0⟩
/-- binary32 Hz (0.02); 0: tracking bypassed -/
def Reg.MOD_TRACK.DF : Field := ⟨At.MOD_TRACK, 0, 32, .rw, 0x3CA3D70A, kHID⟩

/-- Table MOD-13 (10_modal_engine). -/
def At.MOD_REF : RegAt := ⟨0xD002C, 0x0, 1, 1, 0⟩
/-- R406 -/
def Reg.MOD_REF.REF_LANE : Field := ⟨At.MOD_REF, 0, 9, .rw, 0x0, kHID⟩
/-- 0–16; above 16 rejected; 0: no peaks reported -/
def Reg.MOD_REF.NPEAK_MAX : Field := ⟨At.MOD_REF, 16, 5, .rw, 0x10, kHID⟩

/-- Table MOD-14 (10_modal_engine). -/
def At.MOD_HOST : RegAt := ⟨0xD0030, 0x0, 1, 1, 0⟩
/-- MODL ring for epoch records -/
def Reg.MOD_HOST.RES_RING : Field := ⟨At.MOD_HOST, 0, 8, .rw, 0x0, kHID⟩
/-- MODL ring for snapshots -/
def Reg.MOD_HOST.SNAP_RING : Field := ⟨At.MOD_HOST, 8, 8, .rw, 0x0, kHID⟩
/-- R412 -/
def Reg.MOD_HOST.RES_EN : Field := ⟨At.MOD_HOST, 16, 1, .rw, 0x0, kHID⟩
/-- Units of 10 ms; 0: no time limit -/
def Reg.MOD_HOST.SNAP_TMO : Field := ⟨At.MOD_HOST, 24, 8, .rw, 0x32, kHID⟩

/-- Table MOD-14 (10_modal_engine). -/
def At.MOD_SNAP : RegAt := ⟨0xD0034, 0x0, 1, 1, 0⟩
/-- First bin of a snapshot -/
def Reg.MOD_SNAP.FIRST : Field := ⟨At.MOD_SNAP, 0, 7, .rw, 0x0, kHID⟩
/-- Bins, 0–128; 0: snapshot skipped (R416) -/
def Reg.MOD_SNAP.NBIN : Field := ⟨At.MOD_SNAP, 8, 8, .rw, 0x80, kHID⟩

/-- Table MOD-14 (10_modal_engine). -/
def At.MOD_EPNUM : RegAt := ⟨0xD0038, 0x0, 1, 1, 0⟩
/-- Number of the last epoch begun -/
def Reg.MOD_EPNUM.N : Field := ⟨At.MOD_EPNUM, 0, 32, .ro, 0x0, kH⟩

/-- Table MOD-14 (10_modal_engine). -/
def At.MOD_DECT : RegAt := ⟨0xD003C, 0x0, 1, 1, 0⟩
/-- Duration of the last epoch processing, ns, saturating -/
def Reg.MOD_DECT.NS : Field := ⟨At.MOD_DECT, 0, 32, .ro, 0x0, kH⟩

/-- Table MOD-15 (10_modal_engine). -/
def At.MOD_LAST_NS : RegAt := ⟨0xD0040, 0x0, 1, 1, 0⟩
/-- Last epoch boundary, ns; the read latches SL and SH as R35 states -/
def Reg.MOD_LAST_NS.NS : Field := ⟨At.MOD_LAST_NS, 0, 32, .ro, 0x0, kH⟩

/-- Table MOD-15 (10_modal_engine). -/
def At.MOD_LAST_SL : RegAt := ⟨0xD0044, 0x0, 1, 1, 0⟩
/-- TAI seconds [31:0] from the shadow -/
def Reg.MOD_LAST_SL.SEC : Field := ⟨At.MOD_LAST_SL, 0, 32, .ro, 0x0, kH⟩

/-- Table MOD-15 (10_modal_engine). -/
def At.MOD_LAST_SH : RegAt := ⟨0xD0048, 0x0, 1, 1, 0⟩
/-- TAI seconds [47:32] from the shadow -/
def Reg.MOD_LAST_SH.SEC : Field := ⟨At.MOD_LAST_SH, 0, 16, .ro, 0x0, kH⟩

/-- Table MOD-16 (10_modal_engine). -/
def At.MOD_CNT_SEG : RegAt := ⟨0xD0080, 0x0, 1, 1, 0⟩
/-- Segments applied -/
def Reg.MOD_CNT_SEG.N : Field := ⟨At.MOD_CNT_SEG, 0, 32, .rc, 0x0, kH⟩

/-- Table MOD-16 (10_modal_engine). -/
def At.MOD_CNT_SEGDROP : RegAt := ⟨0xD0084, 0x0, 1, 1, 0⟩
/-- R394 -/
def Reg.MOD_CNT_SEGDROP.N : Field := ⟨At.MOD_CNT_SEGDROP, 0, 32, .rc, 0x0, kH⟩

/-- Table MOD-16 (10_modal_engine). -/
def At.MOD_CNT_EPOCH : RegAt := ⟨0xD0088, 0x0, 1, 1, 0⟩
/-- Epochs processed -/
def Reg.MOD_CNT_EPOCH.N : Field := ⟨At.MOD_CNT_EPOCH, 0, 32, .rc, 0x0, kH⟩

/-- Table MOD-16 (10_modal_engine). -/
def At.MOD_CNT_EPSKIP : RegAt := ⟨0xD008C, 0x0, 1, 1, 0⟩
/-- R402 -/
def Reg.MOD_CNT_EPSKIP.N : Field := ⟨At.MOD_CNT_EPSKIP, 0, 32, .rc, 0x0, kH⟩

/-- Table MOD-16 (10_modal_engine). -/
def At.MOD_CNT_EPABANDON : RegAt := ⟨0xD0090, 0x0, 1, 1, 0⟩
/-- R401 -/
def Reg.MOD_CNT_EPABANDON.N : Field := ⟨At.MOD_CNT_EPABANDON, 0, 32, .rc, 0x0, kH⟩

/-- Table MOD-16 (10_modal_engine). -/
def At.MOD_CNT_BINRST : RegAt := ⟨0xD0094, 0x0, 1, 1, 0⟩
/-- R398 -/
def Reg.MOD_CNT_BINRST.N : Field := ⟨At.MOD_CNT_BINRST, 0, 32, .rc, 0x0, kH⟩

/-- Table MOD-16 (10_modal_engine). -/
def At.MOD_CNT_NOCONV : RegAt := ⟨0xD0098, 0x0, 1, 1, 0⟩
/-- R405, in bin-epochs -/
def Reg.MOD_CNT_NOCONV.N : Field := ⟨At.MOD_CNT_NOCONV, 0, 32, .rc, 0x0, kH⟩

/-- Table MOD-16 (10_modal_engine). -/
def At.MOD_CNT_RES_DROP : RegAt := ⟨0xD009C, 0x0, 1, 1, 0⟩
/-- R412 -/
def Reg.MOD_CNT_RES_DROP.N : Field := ⟨At.MOD_CNT_RES_DROP, 0, 32, .rc, 0x0, kH⟩

/-- Table MOD-16 (10_modal_engine). -/
def At.MOD_CNT_SNAP_FAIL : RegAt := ⟨0xD00A0, 0x0, 1, 1, 0⟩
/-- R417 -/
def Reg.MOD_CNT_SNAP_FAIL.N : Field := ⟨At.MOD_CNT_SNAP_FAIL, 0, 32, .rc, 0x0, kH⟩

/-- Table MOD-16 (10_modal_engine). -/
def At.MOD_CNT_SAMP_INV : RegAt := ⟨0xD00A4, 0x0, 1, 1, 0⟩
/-- R390 -/
def Reg.MOD_CNT_SAMP_INV.N : Field := ⟨At.MOD_CNT_SAMP_INV, 0, 32, .rc, 0x0, kH⟩

/-- Table FLT-13 (08_filter_chain), word 0 of the entry. -/
def At.T_LANE_0 : RegAt := ⟨0x270000, 0x40, 512, 1, 0⟩
def Reg.T_LANE.EN : Field := ⟨At.T_LANE_0, 0, 1, .rw, 0x0, kHID⟩
def Reg.T_LANE.SRC_SEL : Field := ⟨At.T_LANE_0, 1, 2, .rw, 0x0, kHID⟩
def Reg.T_LANE.SV_STREAM : Field := ⟨At.T_LANE_0, 3, 6, .rw, 0x0, kHID⟩
def Reg.T_LANE.FNOM : Field := ⟨At.T_LANE_0, 9, 1, .rw, 0x0, kHID⟩
def Reg.T_LANE.ISHIFT : Field := ⟨At.T_LANE_0, 10, 5, .rw, 0x0, kHID⟩
def Reg.T_LANE.REC : Field := ⟨At.T_LANE_0, 15, 1, .rw, 0x0, kHID⟩
def Reg.T_LANE.FCOMP : Field := ⟨At.T_LANE_0, 16, 1, .rw, 0x0, kHID⟩
def Reg.T_LANE.RAVG : Field := ⟨At.T_LANE_0, 17, 5, .rw, 0x0, kHID⟩
def Reg.T_LANE.RATE : Field := ⟨At.T_LANE_0, 22, 4, .rw, 0x0, kHID⟩
/-- Table FLT-13 (08_filter_chain), word 1 of the entry. -/
def At.T_LANE_1 : RegAt := ⟨0x270004, 0x40, 512, 1, 0⟩
def Reg.T_LANE.FS : Field := ⟨At.T_LANE_1, 0, 21, .rw, 0x0, kHID⟩
/-- Table FLT-13 (08_filter_chain), word 5 of the entry. -/
def At.T_LANE_5 : RegAt := ⟨0x270014, 0x40, 512, 1, 0⟩
def Reg.T_LANE.SET0 : Field := ⟨At.T_LANE_5, 0, 6, .rw, 0x0, kHID⟩
def Reg.T_LANE.SET1 : Field := ⟨At.T_LANE_5, 8, 6, .rw, 0x0, kHID⟩
def Reg.T_LANE.D4 : Field := ⟨At.T_LANE_5, 16, 8, .rw, 0x0, kHID⟩
def Reg.T_LANE.BANK : Field := ⟨At.T_LANE_5, 24, 1, .rw, 0x0, kHID⟩
/-- Table FLT-13 (08_filter_chain), word 6 of the entry. -/
def At.T_LANE_6 : RegAt := ⟨0x270018, 0x40, 512, 1, 0⟩
def Reg.T_LANE.FADE : Field := ⟨At.T_LANE_6, 0, 12, .rw, 0x0, kHID⟩
/-- Table FLT-13 (08_filter_chain), word 7 of the entry. -/
def At.T_LANE_7 : RegAt := ⟨0x27001C, 0x40, 512, 1, 0⟩
def Reg.T_LANE.SCALE : Field := ⟨At.T_LANE_7, 0, 32, .rw, 0x0, kHID⟩
/-- Table FLT-13 (08_filter_chain), word 8 of the entry. -/
def At.T_LANE_8 : RegAt := ⟨0x270020, 0x40, 512, 1, 0⟩
def Reg.T_LANE.CAL_GAIN : Field := ⟨At.T_LANE_8, 0, 32, .rw, 0x0, kHID⟩
/-- Table FLT-13 (08_filter_chain), word 9 of the entry. -/
def At.T_LANE_9 : RegAt := ⟨0x270024, 0x40, 512, 1, 0⟩
def Reg.T_LANE.CAL_PHASE : Field := ⟨At.T_LANE_9, 0, 32, .rw, 0x0, kHID⟩
/-- Table FLT-13 (08_filter_chain), word 10 of the entry. -/
def At.T_LANE_10 : RegAt := ⟨0x270028, 0x40, 512, 1, 0⟩
def Reg.T_LANE.CAL_SKEW : Field := ⟨At.T_LANE_10, 0, 32, .rw, 0x0, kHID⟩
/-- Table FLT-13 (08_filter_chain), word 11 of the entry. -/
def At.T_LANE_11 : RegAt := ⟨0x27002C, 0x40, 512, 1, 0⟩
def Reg.T_LANE.MAG_MIN : Field := ⟨At.T_LANE_11, 0, 32, .rw, 0x0, kHID⟩

/-- Table FLT-13 (08_filter_chain), word 0 of the entry. -/
def At.T_LANEMA : RegAt := ⟨0x270008, 0x40, 512, 3, 4⟩
def Reg.T_LANEMA.M : Field := ⟨At.T_LANEMA, 0, 13, .rw, 0x0, kHID⟩
def Reg.T_LANEMA.S : Field := ⟨At.T_LANEMA, 13, 5, .rw, 0x0, kHID⟩
def Reg.T_LANEMA.D : Field := ⟨At.T_LANEMA, 18, 10, .rw, 0x0, kHID⟩

/-- Table FLT-15 (08_filter_chain), word 0 of the entry. -/
def At.T_LANESTAT_0 : RegAt := ⟨0x278000, 0x10, 512, 1, 0⟩
def Reg.T_LANESTAT.STATE : Field := ⟨At.T_LANESTAT_0, 0, 2, .ro, 0x0, kH⟩
def Reg.T_LANESTAT.ACTIVE : Field := ⟨At.T_LANESTAT_0, 2, 1, .ro, 0x0, kH⟩
def Reg.T_LANESTAT.FADING : Field := ⟨At.T_LANESTAT_0, 3, 1, .ro, 0x0, kH⟩
def Reg.T_LANESTAT.PENDING : Field := ⟨At.T_LANESTAT_0, 4, 1, .ro, 0x0, kH⟩
def Reg.T_LANESTAT.OVERWRITTEN : Field := ⟨At.T_LANESTAT_0, 5, 1, .ro, 0x0, kH⟩
def Reg.T_LANESTAT.SWAP_STATUS : Field := ⟨At.T_LANESTAT_0, 8, 8, .ro, 0x0, kH⟩
def Reg.T_LANESTAT.EN_STATUS : Field := ⟨At.T_LANESTAT_0, 16, 8, .ro, 0x0, kH⟩
def Reg.T_LANESTAT.FLT_LANE_SYNC : Field := ⟨At.T_LANESTAT_0, 31, 1, .wo, 0x0, kH⟩
/-- Table FLT-15 (08_filter_chain), word 1 of the entry. -/
def At.T_LANESTAT_1 : RegAt := ⟨0x278004, 0x10, 512, 1, 0⟩
def Reg.T_LANESTAT.LAST_F : Field := ⟨At.T_LANESTAT_1, 0, 32, .ro, 0x0, kH⟩
/-- Table FLT-15 (08_filter_chain), word 2 of the entry. -/
def At.T_LANESTAT_2 : RegAt := ⟨0x278008, 0x10, 512, 1, 0⟩
def Reg.T_LANESTAT.SAT : Field := ⟨At.T_LANESTAT_2, 0, 16, .ro, 0x0, kH⟩
def Reg.T_LANESTAT.GAP : Field := ⟨At.T_LANESTAT_2, 16, 16, .ro, 0x0, kH⟩

/-- Table FLT-14 (08_filter_chain), word 0 of the entry. -/
def At.T_GROUP_0 : RegAt := ⟨0x27A000, 0x10, 128, 1, 0⟩
def Reg.T_GROUP.VALID : Field := ⟨At.T_GROUP_0, 0, 1, .rw, 0x0, kHID⟩
def Reg.T_GROUP.SLOT : Field := ⟨At.T_GROUP_0, 1, 9, .rw, 0x0, kHID⟩
def Reg.T_GROUP.FIRST : Field := ⟨At.T_GROUP_0, 10, 9, .rw, 0x0, kHID⟩
def Reg.T_GROUP.COUNT : Field := ⟨At.T_GROUP_0, 19, 6, .rw, 0x0, kHID⟩
def Reg.T_GROUP.FW : Field := ⟨At.T_GROUP_0, 25, 1, .rw, 0x0, kHID⟩
def Reg.T_GROUP.FMODE : Field := ⟨At.T_GROUP_0, 26, 1, .rw, 0x0, kHID⟩
/-- Table FLT-14 (08_filter_chain), word 1 of the entry. -/
def At.T_GROUP_1 : RegAt := ⟨0x27A004, 0x10, 128, 1, 0⟩
def Reg.T_GROUP.FLANE : Field := ⟨At.T_GROUP_1, 0, 9, .rw, 0x0, kHID⟩
def Reg.T_GROUP.FLANE_B : Field := ⟨At.T_GROUP_1, 9, 9, .rw, 0x0, kHID⟩
def Reg.T_GROUP.FLANE_C : Field := ⟨At.T_GROUP_1, 18, 9, .rw, 0x0, kHID⟩

/-- Table FLT-3 (08_filter_chain), word 0 of the entry. -/
def At.T_FIR : RegAt := ⟨0x280000, 0x800, 64, 1, 0⟩
def Reg.T_FIR.VALID : Field := ⟨At.T_FIR, 0, 1, .rw, 0x0, kHID⟩
def Reg.T_FIR.NTAPS : Field := ⟨At.T_FIR, 1, 8, .rw, 0x0, kHID⟩

/-- Table FLT-3 (08_filter_chain), word 0 of the entry. -/
def At.T_DROOP : RegAt := ⟨0x280010, 0x800, 64, 33, 4⟩
def Reg.T_DROOP.D : Field := ⟨At.T_DROOP, 0, 32, .rw, 0x0, kHID⟩

/-- Table FLT-3 (08_filter_chain), word 0 of the entry. -/
def At.T_TAP : RegAt := ⟨0x280100, 0x800, 64, 255, 4⟩
def Reg.T_TAP.C : Field := ⟨At.T_TAP, 0, 32, .rw, 0x0, kHID⟩

/-- Table RUL-10 (09_rules_islands), word 0 of the entry. -/
def At.T_RULE_0 : RegAt := ⟨0x300000, 0x20, 4096, 1, 0⟩
def Reg.T_RULE.VALID : Field := ⟨At.T_RULE_0, 0, 1, .rw, 0x0, kHID⟩
def Reg.T_RULE.FUNC : Field := ⟨At.T_RULE_0, 1, 3, .rw, 0x0, kHID⟩
def Reg.T_RULE.CMP : Field := ⟨At.T_RULE_0, 4, 3, .rw, 0x0, kHID⟩
def Reg.T_RULE.LATCH : Field := ⟨At.T_RULE_0, 7, 1, .rw, 0x0, kHID⟩
def Reg.T_RULE.REJ_TQ : Field := ⟨At.T_RULE_0, 8, 1, .rw, 0x0, kHID⟩
def Reg.T_RULE.NANPOL : Field := ⟨At.T_RULE_0, 9, 2, .rw, 0x0, kHID⟩
def Reg.T_RULE.RATE_N : Field := ⟨At.T_RULE_0, 11, 6, .rw, 0x0, kHID⟩
def Reg.T_RULE.PICKUP : Field := ⟨At.T_RULE_0, 17, 8, .rw, 0x0, kHID⟩
def Reg.T_RULE.DROPOUT : Field := ⟨At.T_RULE_0, 25, 7, .rw, 0x0, kHID⟩
/-- Table RUL-10 (09_rules_islands), word 1 of the entry. -/
def At.T_RULE_1 : RegAt := ⟨0x300004, 0x20, 4096, 1, 0⟩
def Reg.T_RULE.OPA : Field := ⟨At.T_RULE_1, 0, 32, .rw, 0x0, kHID⟩
/-- Table RUL-10 (09_rules_islands), word 2 of the entry. -/
def At.T_RULE_2 : RegAt := ⟨0x300008, 0x20, 4096, 1, 0⟩
def Reg.T_RULE.OPB : Field := ⟨At.T_RULE_2, 0, 32, .rw, 0x0, kHID⟩
/-- Table RUL-10 (09_rules_islands), word 3 of the entry. -/
def At.T_RULE_3 : RegAt := ⟨0x30000C, 0x20, 4096, 1, 0⟩
def Reg.T_RULE.HI : Field := ⟨At.T_RULE_3, 0, 32, .rw, 0x0, kHID⟩
/-- Table RUL-10 (09_rules_islands), word 4 of the entry. -/
def At.T_RULE_4 : RegAt := ⟨0x300010, 0x20, 4096, 1, 0⟩
def Reg.T_RULE.LO : Field := ⟨At.T_RULE_4, 0, 32, .rw, 0x0, kHID⟩
/-- Table RUL-10 (09_rules_islands), word 5 of the entry. -/
def At.T_RULE_5 : RegAt := ⟨0x300014, 0x20, 4096, 1, 0⟩
def Reg.T_RULE.HYST : Field := ⟨At.T_RULE_5, 0, 32, .rw, 0x0, kHID⟩
/-- Table RUL-10 (09_rules_islands), word 6 of the entry. -/
def At.T_RULE_6 : RegAt := ⟨0x300018, 0x20, 4096, 1, 0⟩
def Reg.T_RULE.GATE : Field := ⟨At.T_RULE_6, 0, 12, .rw, 0x0, kHID⟩
def Reg.T_RULE.GATE_EN : Field := ⟨At.T_RULE_6, 12, 1, .rw, 0x0, kHID⟩
def Reg.T_RULE.GATE_INV : Field := ⟨At.T_RULE_6, 13, 1, .rw, 0x0, kHID⟩
def Reg.T_RULE.PINS : Field := ⟨At.T_RULE_6, 14, 4, .rw, 0x0, kHID⟩
def Reg.T_RULE.HOST : Field := ⟨At.T_RULE_6, 18, 1, .rw, 0x0, kHID⟩
def Reg.T_RULE.TOKEN : Field := ⟨At.T_RULE_6, 19, 1, .rw, 0x0, kHID⟩
def Reg.T_RULE.LOG : Field := ⟨At.T_RULE_6, 20, 1, .rw, 0x0, kHID⟩
def Reg.T_RULE.DSP : Field := ⟨At.T_RULE_6, 21, 1, .rw, 0x0, kHID⟩
def Reg.T_RULE.STAT_ALL : Field := ⟨At.T_RULE_6, 22, 1, .rw, 0x0, kHID⟩
def Reg.T_RULE.STAT_REASON : Field := ⟨At.T_RULE_6, 23, 4, .rw, 0x0, kHID⟩
/-- Table RUL-10 (09_rules_islands), word 7 of the entry. -/
def At.T_RULE_7 : RegAt := ⟨0x30001C, 0x20, 4096, 1, 0⟩
def Reg.T_RULE.STAT_OUT : Field := ⟨At.T_RULE_7, 0, 32, .rw, 0x0, kHID⟩

/-- Table RUL-13 (09_rules_islands), word 0 of the entry. -/
def At.T_RSTATE_0 : RegAt := ⟨0x320000, 0x10, 4096, 1, 0⟩
def Reg.T_RSTATE.ACTIVE : Field := ⟨At.T_RSTATE_0, 0, 1, .ro, 0x0, kH⟩
def Reg.T_RSTATE.ACKED : Field := ⟨At.T_RSTATE_0, 1, 1, .ro, 0x0, kH⟩
def Reg.T_RSTATE.MET : Field := ⟨At.T_RSTATE_0, 2, 1, .ro, 0x0, kH⟩
def Reg.T_RSTATE.PCOUNT : Field := ⟨At.T_RSTATE_0, 3, 8, .ro, 0x0, kH⟩
def Reg.T_RSTATE.DCOUNT : Field := ⟨At.T_RSTATE_0, 11, 7, .ro, 0x0, kH⟩
def Reg.T_RSTATE.EVAL : Field := ⟨At.T_RSTATE_0, 18, 1, .ro, 0x0, kH⟩
/-- Table RUL-13 (09_rules_islands), word 1 of the entry. -/
def At.T_RSTATE_1 : RegAt := ⟨0x320004, 0x10, 4096, 1, 0⟩
def Reg.T_RSTATE.X : Field := ⟨At.T_RSTATE_1, 0, 32, .ro, 0x0, kH⟩
/-- Table RUL-13 (09_rules_islands), word 2 of the entry. -/
def At.T_RSTATE_2 : RegAt := ⟨0x320008, 0x10, 4096, 1, 0⟩
def Reg.T_RSTATE.EDGE_T : Field := ⟨At.T_RSTATE_2, 0, 32, .ro, 0x0, kH⟩
/-- Table RUL-13 (09_rules_islands), word 3 of the entry. -/
def At.T_RSTATE_3 : RegAt := ⟨0x32000C, 0x10, 4096, 1, 0⟩
def Reg.T_RSTATE.EDGES : Field := ⟨At.T_RSTATE_3, 0, 32, .ro, 0x0, kH⟩

/-- Table RUL-3 (09_rules_islands), word 0 of the entry. -/
def At.T_AREA : RegAt := ⟨0x330000, 0x10, 64, 1, 0⟩
def Reg.T_AREA.VALID : Field := ⟨At.T_AREA, 0, 1, .rw, 0x0, kHID⟩
def Reg.T_AREA.FIRST : Field := ⟨At.T_AREA, 1, 10, .rw, 0x0, kHID⟩
def Reg.T_AREA.COUNT : Field := ⟨At.T_AREA, 11, 6, .rw, 0x0, kHID⟩
def Reg.T_AREA.MIN_VALID : Field := ⟨At.T_AREA, 17, 6, .rw, 0x0, kHID⟩
def Reg.T_AREA.REJ_TQ : Field := ⟨At.T_AREA, 23, 1, .rw, 0x0, kHID⟩

/-- Table RUL-23 (09_rules_islands), word 0 of the entry. -/
def At.T_AREASTAT_0 : RegAt := ⟨0x330400, 0x10, 64, 1, 0⟩
def Reg.T_AREASTAT.VALID : Field := ⟨At.T_AREASTAT_0, 0, 1, .ro, 0x0, kH⟩
def Reg.T_AREASTAT.NVALID : Field := ⟨At.T_AREASTAT_0, 1, 6, .ro, 0x0, kH⟩
def Reg.T_AREASTAT.ISL : Field := ⟨At.T_AREASTAT_0, 8, 7, .ro, 0x0, kH⟩
/-- Table RUL-23 (09_rules_islands), word 1 of the entry. -/
def At.T_AREASTAT_1 : RegAt := ⟨0x330404, 0x10, 64, 1, 0⟩
def Reg.T_AREASTAT.F : Field := ⟨At.T_AREASTAT_1, 0, 32, .ro, 0x0, kH⟩
/-- Table RUL-23 (09_rules_islands), word 2 of the entry. -/
def At.T_AREASTAT_2 : RegAt := ⟨0x330408, 0x10, 64, 1, 0⟩
def Reg.T_AREASTAT.A : Field := ⟨At.T_AREASTAT_2, 0, 32, .ro, 0x0, kH⟩

/-- Table RUL-4 (09_rules_islands), word 0 of the entry. -/
def At.T_MEMBER_0 : RegAt := ⟨0x330800, 0x8, 1024, 1, 0⟩
def Reg.T_MEMBER.SRC : Field := ⟨At.T_MEMBER_0, 0, 9, .rw, 0x0, kHID⟩
def Reg.T_MEMBER.PWORD : Field := ⟨At.T_MEMBER_0, 9, 6, .rw, 0x0, kHID⟩
def Reg.T_MEMBER.FWORD : Field := ⟨At.T_MEMBER_0, 15, 6, .rw, 0x0, kHID⟩
/-- Table RUL-4 (09_rules_islands), word 1 of the entry. -/
def At.T_MEMBER_1 : RegAt := ⟨0x330804, 0x8, 1024, 1, 0⟩
def Reg.T_MEMBER.WEIGHT : Field := ⟨At.T_MEMBER_1, 0, 32, .rw, 0x0, kHID⟩

/-- Table RUL-5 (09_rules_islands), word 0 of the entry. -/
def At.T_PAIR_0 : RegAt := ⟨0x334000, 0x10, 2016, 1, 0⟩
def Reg.T_PAIR.EN : Field := ⟨At.T_PAIR_0, 0, 1, .rw, 0x0, kHID⟩
def Reg.T_PAIR.N_SEP : Field := ⟨At.T_PAIR_0, 1, 8, .rw, 0x0, kHID⟩
def Reg.T_PAIR.N_CLR : Field := ⟨At.T_PAIR_0, 9, 8, .rw, 0x0, kHID⟩
def Reg.T_PAIR.TIE_EN : Field := ⟨At.T_PAIR_0, 17, 1, .rw, 0x0, kHID⟩
def Reg.T_PAIR.TIE : Field := ⟨At.T_PAIR_0, 18, 12, .rw, 0x0, kHID⟩
/-- Table RUL-5 (09_rules_islands), word 1 of the entry. -/
def At.T_PAIR_1 : RegAt := ⟨0x334004, 0x10, 2016, 1, 0⟩
def Reg.T_PAIR.DF_THR : Field := ⟨At.T_PAIR_1, 0, 32, .rw, 0x0, kHID⟩
/-- Table RUL-5 (09_rules_islands), word 2 of the entry. -/
def At.T_PAIR_2 : RegAt := ⟨0x334008, 0x10, 2016, 1, 0⟩
def Reg.T_PAIR.DA_THR : Field := ⟨At.T_PAIR_2, 0, 32, .rw, 0x0, kHID⟩

/-- Table RUL-23 (09_rules_islands), word 0 of the entry. -/
def At.T_PAIRSTAT_0 : RegAt := ⟨0x33C000, 0x10, 2016, 1, 0⟩
def Reg.T_PAIRSTAT.STATE : Field := ⟨At.T_PAIRSTAT_0, 0, 2, .ro, 0x0, kH⟩
def Reg.T_PAIRSTAT.SIGN : Field := ⟨At.T_PAIRSTAT_0, 2, 1, .ro, 0x0, kH⟩
def Reg.T_PAIRSTAT.COUNT : Field := ⟨At.T_PAIRSTAT_0, 3, 8, .ro, 0x0, kH⟩
/-- Table RUL-23 (09_rules_islands), word 1 of the entry. -/
def At.T_PAIRSTAT_1 : RegAt := ⟨0x33C004, 0x10, 2016, 1, 0⟩
def Reg.T_PAIRSTAT.BASE : Field := ⟨At.T_PAIRSTAT_1, 0, 32, .ro, 0x0, kH⟩
/-- Table RUL-23 (09_rules_islands), word 2 of the entry. -/
def At.T_PAIRSTAT_2 : RegAt := ⟨0x33C008, 0x10, 2016, 1, 0⟩
def Reg.T_PAIRSTAT.DF : Field := ⟨At.T_PAIRSTAT_2, 0, 32, .ro, 0x0, kH⟩
/-- Table RUL-23 (09_rules_islands), word 3 of the entry. -/
def At.T_PAIRSTAT_3 : RegAt := ⟨0x33C00C, 0x10, 2016, 1, 0⟩
def Reg.T_PAIRSTAT.DA : Field := ⟨At.T_PAIRSTAT_3, 0, 32, .ro, 0x0, kH⟩

/-- Table RUL-7 (09_rules_islands), word 0 of the entry. -/
def At.T_QDET_0 : RegAt := ⟨0x344000, 0x20, 1024, 1, 0⟩
def Reg.T_QDET.VALID : Field := ⟨At.T_QDET_0, 0, 1, .rw, 0x0, kHID⟩
def Reg.T_QDET.KSH : Field := ⟨At.T_QDET_0, 1, 4, .rw, 0x0, kHID⟩
def Reg.T_QDET.HOLD : Field := ⟨At.T_QDET_0, 5, 8, .rw, 0x0, kHID⟩
/-- Table RUL-7 (09_rules_islands), word 1 of the entry. -/
def At.T_QDET_1 : RegAt := ⟨0x344004, 0x20, 1024, 1, 0⟩
def Reg.T_QDET.OP : Field := ⟨At.T_QDET_1, 0, 32, .rw, 0x0, kHID⟩
/-- Table RUL-7 (09_rules_islands), word 2 of the entry. -/
def At.T_QDET_2 : RegAt := ⟨0x344008, 0x20, 1024, 1, 0⟩
def Reg.T_QDET.B0 : Field := ⟨At.T_QDET_2, 0, 32, .rw, 0x0, kHID⟩
/-- Table RUL-7 (09_rules_islands), word 3 of the entry. -/
def At.T_QDET_3 : RegAt := ⟨0x34400C, 0x20, 1024, 1, 0⟩
def Reg.T_QDET.A1 : Field := ⟨At.T_QDET_3, 0, 32, .rw, 0x0, kHID⟩
/-- Table RUL-7 (09_rules_islands), word 4 of the entry. -/
def At.T_QDET_4 : RegAt := ⟨0x344010, 0x20, 1024, 1, 0⟩
def Reg.T_QDET.A2 : Field := ⟨At.T_QDET_4, 0, 32, .rw, 0x0, kHID⟩
/-- Table RUL-7 (09_rules_islands), word 5 of the entry. -/
def At.T_QDET_5 : RegAt := ⟨0x344014, 0x20, 1024, 1, 0⟩
def Reg.T_QDET.THR : Field := ⟨At.T_QDET_5, 0, 32, .rw, 0x0, kHID⟩
/-- Table RUL-7 (09_rules_islands), word 6 of the entry. -/
def At.T_QDET_6 : RegAt := ⟨0x344018, 0x20, 1024, 1, 0⟩
def Reg.T_QDET.HYST : Field := ⟨At.T_QDET_6, 0, 32, .rw, 0x0, kHID⟩

/-- Table RUL-9 (09_rules_islands), word 0 of the entry. -/
def At.T_QDSTAT_0 : RegAt := ⟨0x34C000, 0x10, 1024, 1, 0⟩
def Reg.T_QDSTAT.STATE : Field := ⟨At.T_QDSTAT_0, 0, 2, .ro, 0x0, kH⟩
def Reg.T_QDSTAT.ACTIVE : Field := ⟨At.T_QDSTAT_0, 2, 1, .ro, 0x0, kH⟩
def Reg.T_QDSTAT.HCOUNT : Field := ⟨At.T_QDSTAT_0, 8, 8, .ro, 0x0, kH⟩
def Reg.T_QDSTAT.SETTLE : Field := ⟨At.T_QDSTAT_0, 16, 16, .ro, 0x0, kH⟩
/-- Table RUL-9 (09_rules_islands), word 1 of the entry. -/
def At.T_QDSTAT_1 : RegAt := ⟨0x34C004, 0x10, 1024, 1, 0⟩
def Reg.T_QDSTAT.ENV : Field := ⟨At.T_QDSTAT_1, 0, 32, .ro, 0x0, kH⟩
/-- Table RUL-9 (09_rules_islands), word 2 of the entry. -/
def At.T_QDSTAT_2 : RegAt := ⟨0x34C008, 0x10, 1024, 1, 0⟩
def Reg.T_QDSTAT.Y : Field := ⟨At.T_QDSTAT_2, 0, 32, .ro, 0x0, kH⟩

/-- Table RUL-14 (09_rules_islands), word 0 of the entry. -/
def At.T_GTMPL_0 : RegAt := ⟨0x350000, 0x200, 64, 1, 0⟩
def Reg.T_GTMPL.EN : Field := ⟨At.T_GTMPL_0, 0, 1, .rw, 0x0, kHID⟩
def Reg.T_GTMPL.ROUTED : Field := ⟨At.T_GTMPL_0, 1, 1, .rw, 0x0, kHID⟩
def Reg.T_GTMPL.PORT : Field := ⟨At.T_GTMPL_0, 2, 4, .rw, 0x0, kHID⟩
def Reg.T_GTMPL.TC : Field := ⟨At.T_GTMPL_0, 6, 3, .rw, 0x0, kHID⟩
def Reg.T_GTMPL.KEY_SLOT : Field := ⟨At.T_GTMPL_0, 9, 6, .rw, 0x0, kHID⟩
def Reg.T_GTMPL.AUTH : Field := ⟨At.T_GTMPL_0, 15, 2, .rw, 0x0, kHID⟩
/-- Table RUL-14 (09_rules_islands), word 1 of the entry. -/
def At.T_GTMPL_1 : RegAt := ⟨0x350004, 0x200, 64, 1, 0⟩
def Reg.T_GTMPL.T_MIN : Field := ⟨At.T_GTMPL_1, 0, 16, .rw, 0x0, kHID⟩
def Reg.T_GTMPL.T_MAX : Field := ⟨At.T_GTMPL_1, 16, 16, .rw, 0x0, kHID⟩
/-- Table RUL-14 (09_rules_islands), word 2 of the entry. -/
def At.T_GTMPL_2 : RegAt := ⟨0x350008, 0x200, 64, 1, 0⟩
def Reg.T_GTMPL.LEN : Field := ⟨At.T_GTMPL_2, 0, 16, .rw, 0x0, kHID⟩
def Reg.T_GTMPL.OFS_ST : Field := ⟨At.T_GTMPL_2, 16, 16, .rw, 0x0, kHID⟩
/-- Table RUL-14 (09_rules_islands), word 3 of the entry. -/
def At.T_GTMPL_3 : RegAt := ⟨0x35000C, 0x200, 64, 1, 0⟩
def Reg.T_GTMPL.OFS_SQ : Field := ⟨At.T_GTMPL_3, 0, 16, .rw, 0x0, kHID⟩
def Reg.T_GTMPL.OFS_T : Field := ⟨At.T_GTMPL_3, 16, 16, .rw, 0x0, kHID⟩
/-- Table RUL-14 (09_rules_islands), word 4 of the entry. -/
def At.T_GTMPL_4 : RegAt := ⟨0x350010, 0x200, 64, 1, 0⟩
def Reg.T_GTMPL.OFS_TAL : Field := ⟨At.T_GTMPL_4, 0, 16, .rw, 0x0, kHID⟩
def Reg.T_GTMPL.OFS_DATA : Field := ⟨At.T_GTMPL_4, 16, 16, .rw, 0x0, kHID⟩
/-- Table RUL-14 (09_rules_islands), word 13 of the entry. -/
def At.T_GTMPL_13 : RegAt := ⟨0x350034, 0x200, 64, 1, 0⟩
def Reg.T_GTMPL.ST_INIT : Field := ⟨At.T_GTMPL_13, 0, 32, .rw, 0x0, kHID⟩

/-- Table RUL-14 (09_rules_islands), word 0 of the entry. -/
def At.T_GTMPLM : RegAt := ⟨0x350014, 0x200, 64, 8, 4⟩
def Reg.T_GTMPLM.LOW : Field := ⟨At.T_GTMPLM, 0, 16, .rw, 0x0, kHID⟩
def Reg.T_GTMPLM.HIGH : Field := ⟨At.T_GTMPLM, 16, 16, .rw, 0x0, kHID⟩

/-- Table RUL-14 (09_rules_islands), word 0 of the entry. -/
def At.T_GTMPLI : RegAt := ⟨0x350040, 0x200, 64, 112, 4⟩
def Reg.T_GTMPLI.W : Field := ⟨At.T_GTMPLI, 0, 32, .rw, 0x0, kHID⟩

/-- Table MOD-2 (10_modal_engine), word 0 of the entry. -/
def At.T_MLANE_0 : RegAt := ⟨0x360000, 0x10, 512, 1, 0⟩
def Reg.T_MLANE.OPA : Field := ⟨At.T_MLANE_0, 0, 32, .rw, 0x0, kHID⟩
/-- Table MOD-2 (10_modal_engine), word 1 of the entry. -/
def At.T_MLANE_1 : RegAt := ⟨0x360004, 0x10, 512, 1, 0⟩
def Reg.T_MLANE.OPB : Field := ⟨At.T_MLANE_1, 0, 32, .rw, 0x0, kHID⟩
/-- Table MOD-2 (10_modal_engine), word 2 of the entry. -/
def At.T_MLANE_2 : RegAt := ⟨0x360008, 0x10, 512, 1, 0⟩
def Reg.T_MLANE.FUNC : Field := ⟨At.T_MLANE_2, 0, 2, .rw, 0x0, kHID⟩
def Reg.T_MLANE.REJ_TQ : Field := ⟨At.T_MLANE_2, 2, 1, .rw, 0x0, kHID⟩

/-- Table MOD-1 (10_modal_engine), word 0 of the entry. -/
def At.T_MBIN : RegAt := ⟨0x362000, 0x4, 128, 1, 0⟩
def Reg.T_MBIN.F : Field := ⟨At.T_MBIN, 0, 32, .rw, 0x0, kHID⟩

/-- Table MOD-6 (10_modal_engine), word 0 of the entry. -/
def At.T_MSLOT_0 : RegAt := ⟨0x363000, 0x10, 64, 1, 0⟩
def Reg.T_MSLOT.EN : Field := ⟨At.T_MSLOT_0, 0, 1, .rw, 0x0, kHID⟩
def Reg.T_MSLOT.QTY : Field := ⟨At.T_MSLOT_0, 1, 3, .rw, 0x0, kHID⟩
def Reg.T_MSLOT.LANE : Field := ⟨At.T_MSLOT_0, 4, 9, .rw, 0x0, kHID⟩
def Reg.T_MSLOT.BIN : Field := ⟨At.T_MSLOT_0, 13, 7, .rw, 0x0, kHID⟩
/-- Table MOD-6 (10_modal_engine), word 1 of the entry. -/
def At.T_MSLOT_1 : RegAt := ⟨0x363004, 0x10, 64, 1, 0⟩
def Reg.T_MSLOT.F_LO : Field := ⟨At.T_MSLOT_1, 0, 32, .rw, 0x0, kHID⟩
/-- Table MOD-6 (10_modal_engine), word 2 of the entry. -/
def At.T_MSLOT_2 : RegAt := ⟨0x363008, 0x10, 64, 1, 0⟩
def Reg.T_MSLOT.F_HI : Field := ⟨At.T_MSLOT_2, 0, 32, .rw, 0x0, kHID⟩
/-- Table MOD-6 (10_modal_engine), word 3 of the entry. -/
def At.T_MSLOT_3 : RegAt := ⟨0x36300C, 0x10, 64, 1, 0⟩
def Reg.T_MSLOT.CONF_MIN : Field := ⟨At.T_MSLOT_3, 0, 32, .rw, 0x0, kHID⟩

/-- Table MOD-1 (10_modal_engine), word 0 of the entry. -/
def At.T_MSLOTV : RegAt := ⟨0x363400, 0x4, 64, 1, 0⟩
def Reg.T_MSLOTV.V : Field := ⟨At.T_MSLOTV, 0, 32, .ro, 0x0, kH⟩

/-- Table MOD-17 (10_modal_engine), word 0 of the entry. -/
def At.T_MLSTAT_0 : RegAt := ⟨0x364000, 0x10, 512, 1, 0⟩
def Reg.T_MLSTAT.STATE : Field := ⟨At.T_MLSTAT_0, 0, 2, .ro, 0x0, kH⟩
def Reg.T_MLSTAT.INV : Field := ⟨At.T_MLSTAT_0, 16, 16, .ro, 0x0, kH⟩
/-- Table MOD-17 (10_modal_engine), word 1 of the entry. -/
def At.T_MLSTAT_1 : RegAt := ⟨0x364004, 0x10, 512, 1, 0⟩
def Reg.T_MLSTAT.ZEROED : Field := ⟨At.T_MLSTAT_1, 0, 32, .ro, 0x0, kH⟩
/-- Table MOD-17 (10_modal_engine), word 2 of the entry. -/
def At.T_MLSTAT_2 : RegAt := ⟨0x364008, 0x10, 512, 1, 0⟩
def Reg.T_MLSTAT.MEAN : Field := ⟨At.T_MLSTAT_2, 0, 32, .ro, 0x0, kH⟩
/-- Table MOD-17 (10_modal_engine), word 3 of the entry. -/
def At.T_MLSTAT_3 : RegAt := ⟨0x36400C, 0x10, 512, 1, 0⟩
def Reg.T_MLSTAT.LAST : Field := ⟨At.T_MLSTAT_3, 0, 32, .ro, 0x0, kH⟩

/-- Table MOD-1 (10_modal_engine), word 0 of the entry. -/
def At.T_MPEAK : RegAt := ⟨0x368000, 0x20, 16, 8, 4⟩
def Reg.T_MPEAK.W : Field := ⟨At.T_MPEAK, 0, 32, .ro, 0x0, kH⟩

/-- Table MOD-1 (10_modal_engine), word 0 of the entry. -/
def At.T_MSV : RegAt := ⟨0x369000, 0x10, 128, 4, 4⟩
def Reg.T_MSV.S : Field := ⟨At.T_MSV, 0, 32, .ro, 0x0, kH⟩

def regFieldsD0 : List Field :=
  [Reg.FLT_CTRL.EN,
   Reg.FLT_CTRL.GAP_MAX,
   Reg.FLT_CTRL.IN_TMO,
   Reg.FLT_STAT.SWAP_OVERWRITTEN,
   Reg.FLT_STAT.LANES_RUN,
   Reg.FLT_HOST.IQ_RING,
   Reg.FLT_HOST.BLK,
   Reg.FLT_INT.CFG_REJ,
   Reg.FLT_INT.SAT,
   Reg.FLT_INT.GAP,
   Reg.FLT_INT.SYNC,
   Reg.FLT_INT.SWAP_DONE,
   Reg.FLT_INT.SWAP_LATE,
   Reg.FLT_INT.IQ_DROP,
   Reg.FLT_INT.EN,
   Reg.FLT_BUDGET_IN.KSPS,
   Reg.FLT_BUDGET_MAC.MMAC,
   Reg.FLT_BUDGET_HIST.WORDS,
   Reg.FLT_SWAP_CMD.LANE,
   Reg.FLT_SWAP_CMD.NLANE,
   Reg.FLT_SWAP_CMD.BANK,
   Reg.FLT_SWAP_CMD.GO,
   Reg.FLT_SWAP_T.ST,
   Reg.FLT_SWAP_TE.EPOCH,
   Reg.FLT_SWAP_TE.LATE_TOL,
   Reg.FLT_SWAP_RES.STATUS,
   Reg.FLT_CNT_NOLANE.N,
   Reg.FLT_CNT_GAP.N,
   Reg.FLT_CNT_DUPSMP.N,
   Reg.FLT_CNT_SYNC.N,
   Reg.FLT_CNT_SAT.N,
   Reg.FLT_CNT_IQ_DROP.N,
   Reg.FLT_SETTLE_LANEn.N,
   Reg.FLT_SETTLE_LANEn.REMAIN,
   Reg.RUL_CTRL.EN,
   Reg.RUL_CTRL.DIS_POL,
   Reg.RUL_CTRL.AREA_EN,
   Reg.RUL_CTRL.QD_EN,
   Reg.RUL_CTRL.COPY_CHK,
   Reg.RUL_STATUS.RUN,
   Reg.RUL_STATUS.ISLANDS,
   Reg.RUL_STATUS.QDEPTH,
   Reg.RUL_STATUS.INTEG,
   Reg.RUL_INT.CFG_REJ,
   Reg.RUL_INT.INTEG,
   Reg.RUL_INT.EDGE,
   Reg.RUL_INT.ISL_CHG,
   Reg.RUL_INT.SKIP,
   Reg.RUL_INT.ALRM_DROP,
   Reg.RUL_INT.TOK_DROP,
   Reg.RUL_INT.GOOSE_DROP,
   Reg.RUL_INT.EN,
   Reg.RUL_ISL.REF_AREA,
   Reg.RUL_HOST.ALRM_RING,
   Reg.RUL_HOST.HOST_EN,
   Reg.RUL_ACK.RULE,
   Reg.RUL_ACK.GO,
   Reg.RUL_ACK.INTEG,
   Reg.RUL_INTEG_CFG.TOKEN,
   Reg.RUL_INTEG_CFG.HOST]

def regFieldsD1 : List Field :=
  [Reg.RUL_INTEG_CFG.STAT_REASON,
   Reg.RUL_INTEG_OUT.MASK,
   Reg.RUL_INTEG_STAT.KIND,
   Reg.RUL_INTEG_STAT.INDEX,
   Reg.RUL_INTEG_STAT.COUNT,
   Reg.RUL_PINn.MODE,
   Reg.RUL_PINn.INTEG,
   Reg.RUL_PINn.TEST,
   Reg.RUL_PINn.REL,
   Reg.RUL_PINn.MIN_WIDTH,
   Reg.RUL_PINn.STATE,
   Reg.RUL_CNT_PASS.N,
   Reg.RUL_CNT_EDGE.N,
   Reg.RUL_CNT_SKIP.N,
   Reg.RUL_CNT_INTEG.N,
   Reg.RUL_CNT_ALRM_DROP.N,
   Reg.RUL_CNT_TOK_DROP.N,
   Reg.RUL_CNT_GOOSE_TX.N,
   Reg.RUL_CNT_GOOSE_DROP.N,
   Reg.RUL_HSTATEj.ACT,
   Reg.MOD_CTRL.EN,
   Reg.MOD_CTRL.LANES,
   Reg.MOD_CTRL.BINS,
   Reg.MOD_STATUS.RUN,
   Reg.MOD_STATUS.STATE,
   Reg.MOD_STATUS.FAIL,
   Reg.MOD_STATUS.QUADS,
   Reg.MOD_INT.CFG_REJ,
   Reg.MOD_INT.EPOCH,
   Reg.MOD_INT.EP_SKIP,
   Reg.MOD_INT.EP_ABANDON,
   Reg.MOD_INT.LANE_ZERO,
   Reg.MOD_INT.BIN_RST,
   Reg.MOD_INT.NOCONV,
   Reg.MOD_INT.RES_DROP,
   Reg.MOD_INT.SNAP_FAIL,
   Reg.MOD_INT.EN,
   Reg.MOD_SAMP.DEC,
   Reg.MOD_SAMP.MSH,
   Reg.MOD_SAMP.GAP_MAX,
   Reg.MOD_SEG.NSH,
   Reg.MOD_SEG.FSH,
   Reg.MOD_EPOCH.EPOCH,
   Reg.MOD_DEC.ITER,
   Reg.MOD_DEC.TOL_SH,
   Reg.MOD_PROM.P,
   Reg.MOD_FLOOR.F,
   Reg.MOD_TRACK.DF,
   Reg.MOD_REF.REF_LANE,
   Reg.MOD_REF.NPEAK_MAX,
   Reg.MOD_HOST.RES_RING,
   Reg.MOD_HOST.SNAP_RING,
   Reg.MOD_HOST.RES_EN,
   Reg.MOD_HOST.SNAP_TMO,
   Reg.MOD_SNAP.FIRST,
   Reg.MOD_SNAP.NBIN,
   Reg.MOD_EPNUM.N,
   Reg.MOD_DECT.NS,
   Reg.MOD_LAST_NS.NS,
   Reg.MOD_LAST_SL.SEC]

def regFieldsD2 : List Field :=
  [Reg.MOD_LAST_SH.SEC,
   Reg.MOD_CNT_SEG.N,
   Reg.MOD_CNT_SEGDROP.N,
   Reg.MOD_CNT_EPOCH.N,
   Reg.MOD_CNT_EPSKIP.N,
   Reg.MOD_CNT_EPABANDON.N,
   Reg.MOD_CNT_BINRST.N,
   Reg.MOD_CNT_NOCONV.N,
   Reg.MOD_CNT_RES_DROP.N,
   Reg.MOD_CNT_SNAP_FAIL.N,
   Reg.MOD_CNT_SAMP_INV.N,
   Reg.T_LANE.EN,
   Reg.T_LANE.SRC_SEL,
   Reg.T_LANE.SV_STREAM,
   Reg.T_LANE.FNOM,
   Reg.T_LANE.ISHIFT,
   Reg.T_LANE.REC,
   Reg.T_LANE.FCOMP,
   Reg.T_LANE.RAVG,
   Reg.T_LANE.RATE,
   Reg.T_LANE.FS,
   Reg.T_LANE.SET0,
   Reg.T_LANE.SET1,
   Reg.T_LANE.D4,
   Reg.T_LANE.BANK,
   Reg.T_LANE.FADE,
   Reg.T_LANE.SCALE,
   Reg.T_LANE.CAL_GAIN,
   Reg.T_LANE.CAL_PHASE,
   Reg.T_LANE.CAL_SKEW,
   Reg.T_LANE.MAG_MIN,
   Reg.T_LANEMA.M,
   Reg.T_LANEMA.S,
   Reg.T_LANEMA.D,
   Reg.T_LANESTAT.STATE,
   Reg.T_LANESTAT.ACTIVE,
   Reg.T_LANESTAT.FADING,
   Reg.T_LANESTAT.PENDING,
   Reg.T_LANESTAT.OVERWRITTEN,
   Reg.T_LANESTAT.SWAP_STATUS,
   Reg.T_LANESTAT.EN_STATUS,
   Reg.T_LANESTAT.FLT_LANE_SYNC,
   Reg.T_LANESTAT.LAST_F,
   Reg.T_LANESTAT.SAT,
   Reg.T_LANESTAT.GAP,
   Reg.T_GROUP.VALID,
   Reg.T_GROUP.SLOT,
   Reg.T_GROUP.FIRST,
   Reg.T_GROUP.COUNT,
   Reg.T_GROUP.FW,
   Reg.T_GROUP.FMODE,
   Reg.T_GROUP.FLANE,
   Reg.T_GROUP.FLANE_B,
   Reg.T_GROUP.FLANE_C,
   Reg.T_FIR.VALID,
   Reg.T_FIR.NTAPS,
   Reg.T_DROOP.D,
   Reg.T_TAP.C,
   Reg.T_RULE.VALID,
   Reg.T_RULE.FUNC]

def regFieldsD3 : List Field :=
  [Reg.T_RULE.CMP,
   Reg.T_RULE.LATCH,
   Reg.T_RULE.REJ_TQ,
   Reg.T_RULE.NANPOL,
   Reg.T_RULE.RATE_N,
   Reg.T_RULE.PICKUP,
   Reg.T_RULE.DROPOUT,
   Reg.T_RULE.OPA,
   Reg.T_RULE.OPB,
   Reg.T_RULE.HI,
   Reg.T_RULE.LO,
   Reg.T_RULE.HYST,
   Reg.T_RULE.GATE,
   Reg.T_RULE.GATE_EN,
   Reg.T_RULE.GATE_INV,
   Reg.T_RULE.PINS,
   Reg.T_RULE.HOST,
   Reg.T_RULE.TOKEN,
   Reg.T_RULE.LOG,
   Reg.T_RULE.DSP,
   Reg.T_RULE.STAT_ALL,
   Reg.T_RULE.STAT_REASON,
   Reg.T_RULE.STAT_OUT,
   Reg.T_RSTATE.ACTIVE,
   Reg.T_RSTATE.ACKED,
   Reg.T_RSTATE.MET,
   Reg.T_RSTATE.PCOUNT,
   Reg.T_RSTATE.DCOUNT,
   Reg.T_RSTATE.EVAL,
   Reg.T_RSTATE.X,
   Reg.T_RSTATE.EDGE_T,
   Reg.T_RSTATE.EDGES,
   Reg.T_AREA.VALID,
   Reg.T_AREA.FIRST,
   Reg.T_AREA.COUNT,
   Reg.T_AREA.MIN_VALID,
   Reg.T_AREA.REJ_TQ,
   Reg.T_AREASTAT.VALID,
   Reg.T_AREASTAT.NVALID,
   Reg.T_AREASTAT.ISL,
   Reg.T_AREASTAT.F,
   Reg.T_AREASTAT.A,
   Reg.T_MEMBER.SRC,
   Reg.T_MEMBER.PWORD,
   Reg.T_MEMBER.FWORD,
   Reg.T_MEMBER.WEIGHT,
   Reg.T_PAIR.EN,
   Reg.T_PAIR.N_SEP,
   Reg.T_PAIR.N_CLR,
   Reg.T_PAIR.TIE_EN,
   Reg.T_PAIR.TIE,
   Reg.T_PAIR.DF_THR,
   Reg.T_PAIR.DA_THR,
   Reg.T_PAIRSTAT.STATE,
   Reg.T_PAIRSTAT.SIGN,
   Reg.T_PAIRSTAT.COUNT,
   Reg.T_PAIRSTAT.BASE,
   Reg.T_PAIRSTAT.DF,
   Reg.T_PAIRSTAT.DA,
   Reg.T_QDET.VALID]

def regFieldsD4 : List Field :=
  [Reg.T_QDET.KSH,
   Reg.T_QDET.HOLD,
   Reg.T_QDET.OP,
   Reg.T_QDET.B0,
   Reg.T_QDET.A1,
   Reg.T_QDET.A2,
   Reg.T_QDET.THR,
   Reg.T_QDET.HYST,
   Reg.T_QDSTAT.STATE,
   Reg.T_QDSTAT.ACTIVE,
   Reg.T_QDSTAT.HCOUNT,
   Reg.T_QDSTAT.SETTLE,
   Reg.T_QDSTAT.ENV,
   Reg.T_QDSTAT.Y,
   Reg.T_GTMPL.EN,
   Reg.T_GTMPL.ROUTED,
   Reg.T_GTMPL.PORT,
   Reg.T_GTMPL.TC,
   Reg.T_GTMPL.KEY_SLOT,
   Reg.T_GTMPL.AUTH,
   Reg.T_GTMPL.T_MIN,
   Reg.T_GTMPL.T_MAX,
   Reg.T_GTMPL.LEN,
   Reg.T_GTMPL.OFS_ST,
   Reg.T_GTMPL.OFS_SQ,
   Reg.T_GTMPL.OFS_T,
   Reg.T_GTMPL.OFS_TAL,
   Reg.T_GTMPL.OFS_DATA,
   Reg.T_GTMPL.ST_INIT,
   Reg.T_GTMPLM.LOW,
   Reg.T_GTMPLM.HIGH,
   Reg.T_GTMPLI.W,
   Reg.T_MLANE.OPA,
   Reg.T_MLANE.OPB,
   Reg.T_MLANE.FUNC,
   Reg.T_MLANE.REJ_TQ,
   Reg.T_MBIN.F,
   Reg.T_MSLOT.EN,
   Reg.T_MSLOT.QTY,
   Reg.T_MSLOT.LANE,
   Reg.T_MSLOT.BIN,
   Reg.T_MSLOT.F_LO,
   Reg.T_MSLOT.F_HI,
   Reg.T_MSLOT.CONF_MIN,
   Reg.T_MSLOTV.V,
   Reg.T_MLSTAT.STATE,
   Reg.T_MLSTAT.INV,
   Reg.T_MLSTAT.ZEROED,
   Reg.T_MLSTAT.MEAN,
   Reg.T_MLSTAT.LAST,
   Reg.T_MPEAK.W,
   Reg.T_MSV.S]

/-- Every field of this file. -/
def regFieldsD : List Field :=
  regFieldsD0 ++ regFieldsD1 ++ regFieldsD2 ++ regFieldsD3 ++ regFieldsD4

/-- The words of this file whose Reset value is not zero. -/
def regResetsD : List (RegAt × Nat) :=
  [(At.FLT_CTRL, 0x7D00400),
   (At.FLT_HOST, 0x4000),
   (At.FLT_SWAP_CMD, 0x10000),
   (At.RUL_CTRL, 0x1C),
   (At.RUL_INTEG_CFG, 0x3E),
   (At.MOD_SAMP, 0x100801),
   (At.MOD_SEG, 0x39),
   (At.MOD_EPOCH, 0x64),
   (At.MOD_DEC, 0xC08),
   (At.MOD_PROM, 0x40000000),
   (At.MOD_TRACK, 0x3CA3D70A),
   (At.MOD_REF, 0x100000),
   (At.MOD_HOST, 0x32000000),
   (At.MOD_SNAP, 0x8000)]

end Sys2Proof
end

