-- ==== Sys2Proof/Machine/RegsE.lean ====
section
/-!
DEFINITION. CAP, HIF, DSP, KEY, LOG, LKO, CMP and MGT registers and their tables: every field of the spec's register tables and table windows of these
blocks, with its place, its access code, its Reset value and its Keeps letters, as the tables state them.
-/

namespace Sys2Proof

/-- Table CAP-11 (11_capture). -/
def At.CAP_CTRL : RegAt := ⟨0xE0000, 0x0, 1, 1, 0⟩
/-- Capture on (R426, R456) -/
def Reg.CAP_CTRL.EN : Field := ⟨At.CAP_CTRL, 0, 1, .rw, 0x0, kHID⟩

/-- Table CAP-11 (11_capture). -/
def At.CAP_HIST : RegAt := ⟨0xE0004, 0x0, 1, 1, 0⟩
/-- Raw history depth, ms; 0: no regions -/
def Reg.CAP_HIST.H : Field := ⟨At.CAP_HIST, 0, 16, .rw, 0x0, kHID⟩

/-- Table CAP-11 (11_capture). -/
def At.CAP_STATUS : RegAt := ⟨0xE0008, 0x0, 1, 1, 0⟩
/-- RAWHIST laid out -/
def Reg.CAP_STATUS.RUN : Field := ⟨At.CAP_STATUS, 0, 1, .ro, 0x0, kH⟩
/-- Status of the last enable -/
def Reg.CAP_STATUS.FAIL : Field := ⟨At.CAP_STATUS, 8, 8, .ro, 0x0, kH⟩
/-- RAWHIST units needed -/
def Reg.CAP_STATUS.NEED : Field := ⟨At.CAP_STATUS, 16, 8, .ro, 0x0, kH⟩

/-- Table CAP-11 (11_capture). -/
def At.CAP_SWTRIG : RegAt := ⟨0xE0010, 0x0, 1, 1, 0⟩
/-- Definition to fire -/
def Reg.CAP_SWTRIG.DEF : Field := ⟨At.CAP_SWTRIG, 0, 8, .wo, 0x0, kNone⟩
/-- 1 fires DEF when it is of SRC 4 -/
def Reg.CAP_SWTRIG.GO : Field := ⟨At.CAP_SWTRIG, 31, 1, .wo, 0x0, kNone⟩

/-- Table CAP-12 (11_capture). -/
def At.CAP_INT : RegAt := ⟨0xE000C, 0x0, 1, 1, 0⟩
/-- A write or arm was refused or ignored -/
def Reg.CAP_INT.CFG_REJ : Field := ⟨At.CAP_INT, 0, 1, .w1c, 0x0, kH⟩
/-- An engine triggered -/
def Reg.CAP_INT.TRIG : Field := ⟨At.CAP_INT, 1, 1, .w1c, 0x0, kH⟩
/-- R447 -/
def Reg.CAP_INT.DONE : Field := ⟨At.CAP_INT, 2, 1, .w1c, 0x0, kH⟩
/-- R450 -/
def Reg.CAP_INT.MASK_VIOL : Field := ⟨At.CAP_INT, 3, 1, .w1c, 0x0, kH⟩
/-- R439 -/
def Reg.CAP_INT.ARM : Field := ⟨At.CAP_INT, 4, 1, .w1c, 0x0, kH⟩
/-- Bit 16 + k enables cause k; the vector is given in "Host interface: rings, doorbells and ordering" -/
def Reg.CAP_INT.EN : Field := ⟨At.CAP_INT, 16, 5, .rw, 0x0, kHID⟩

/-- Table CAP-13 (11_capture). -/
def At.CAP_CNT_RAWSKIP : RegAt := ⟨0xE0020, 0x0, 1, 1, 0⟩
/-- R428, saturating -/
def Reg.CAP_CNT_RAWSKIP.N : Field := ⟨At.CAP_CNT_RAWSKIP, 0, 32, .rc, 0x0, kH⟩

/-- Table CAP-13 (11_capture). -/
def At.CAP_CNT_PASSDROP : RegAt := ⟨0xE0024, 0x0, 1, 1, 0⟩
/-- R451, saturating -/
def Reg.CAP_CNT_PASSDROP.N : Field := ⟨At.CAP_CNT_PASSDROP, 0, 32, .rc, 0x0, kH⟩

/-- Table CAP-14 (11_capture). -/
def At.CAP_ENGn_CTRL : RegAt := ⟨0xE0100, 0x40, 8, 1, 0⟩
/-- R438; reads 0 -/
def Reg.CAP_ENGn_CTRL.ARM : Field := ⟨At.CAP_ENGn_CTRL, 0, 1, .w1s, 0x0, kNone⟩
/-- R439 -/
def Reg.CAP_ENGn_CTRL.TIMED : Field := ⟨At.CAP_ENGn_CTRL, 1, 1, .rw, 0x0, kHID⟩
/-- R442; reads 0 -/
def Reg.CAP_ENGn_CTRL.DISARM : Field := ⟨At.CAP_ENGn_CTRL, 2, 1, .w1s, 0x0, kNone⟩
/-- R453; reads 0 -/
def Reg.CAP_ENGn_CTRL.REL : Field := ⟨At.CAP_ENGn_CTRL, 3, 1, .w1s, 0x0, kNone⟩

/-- Table CAP-14 (11_capture). -/
def At.CAP_ENGn_CFG : RegAt := ⟨0xE0104, 0x40, 8, 1, 0⟩
/-- Channels 0–64; 0: SKIPPED_ZERO -/
def Reg.CAP_ENGn_CFG.NCH : Field := ⟨At.CAP_ENGn_CFG, 0, 7, .rw, 0x0, kHID⟩
/-- CAPT ring -/
def Reg.CAP_ENGn_CFG.RING : Field := ⟨At.CAP_ENGn_CFG, 8, 8, .rw, 0x0, kHID⟩
/-- R452 -/
def Reg.CAP_ENGn_CFG.DELIVER : Field := ⟨At.CAP_ENGn_CFG, 16, 1, .rw, 0x1, kHID⟩
/-- R453 -/
def Reg.CAP_ENGn_CFG.REARM : Field := ⟨At.CAP_ENGn_CFG, 17, 1, .rw, 0x0, kHID⟩
/-- R451 -/
def Reg.CAP_ENGn_CFG.MASKSTOP : Field := ⟨At.CAP_ENGn_CFG, 18, 1, .rw, 0x0, kHID⟩
/-- R451 -/
def Reg.CAP_ENGn_CFG.PASS_DROP : Field := ⟨At.CAP_ENGn_CFG, 19, 1, .rw, 0x0, kHID⟩
/-- µs; tolerance (R443) -/
def Reg.CAP_ENGn_CFG.COLLECT : Field := ⟨At.CAP_ENGn_CFG, 24, 8, .rw, 0x32, kHID⟩

/-- Table CAP-14 (11_capture). -/
def At.CAP_ENGn_PRE : RegAt := ⟨0xE0108, 0x40, 8, 1, 0⟩
/-- 0–60,000 -/
def Reg.CAP_ENGn_PRE.MS : Field := ⟨At.CAP_ENGn_PRE, 0, 16, .rw, 0x0, kHID⟩

/-- Table CAP-14 (11_capture). -/
def At.CAP_ENGn_POST : RegAt := ⟨0xE010C, 0x40, 8, 1, 0⟩
/-- 0–600,000 -/
def Reg.CAP_ENGn_POST.MS : Field := ⟨At.CAP_ENGn_POST, 0, 20, .rw, 0x0, kHID⟩

/-- Table CAP-14 (11_capture). -/
def At.CAP_ENGn_AVG : RegAt := ⟨0xE0110, 0x40, 8, 1, 0⟩
/-- 0 acts as 1 -/
def Reg.CAP_ENGn_AVG.RAW : Field := ⟨At.CAP_ENGn_AVG, 0, 12, .rw, 0x1, kHID⟩
/-- 0 acts as 1 -/
def Reg.CAP_ENGn_AVG.FRM : Field := ⟨At.CAP_ENGn_AVG, 16, 8, .rw, 0x1, kHID⟩

/-- Table CAP-14 (11_capture). -/
def At.CAP_ENGn_BUF : RegAt := ⟨0xE0114, 0x40, 8, 1, 0⟩
/-- Slice start in the CAPTURE partition, 4 KiB units -/
def Reg.CAP_ENGn_BUF.OFS : Field := ⟨At.CAP_ENGn_BUF, 0, 15, .rw, 0x0, kHID⟩
/-- 4 KiB units; 0: arm gives NO_SPACE -/
def Reg.CAP_ENGn_BUF.SIZE : Field := ⟨At.CAP_ENGn_BUF, 16, 16, .rw, 0x0, kHID⟩

/-- Table CAP-14 (11_capture). -/
def At.CAP_ENGn_TARM : RegAt := ⟨0xE0118, 0x40, 8, 1, 0⟩
/-- Arm target, ST32 -/
def Reg.CAP_ENGn_TARM.ST : Field := ⟨At.CAP_ENGn_TARM, 0, 32, .rw, 0x0, kHID⟩

/-- Table CAP-14 (11_capture). -/
def At.CAP_ENGn_TEP : RegAt := ⟨0xE011C, 0x40, 8, 1, 0⟩
/-- Target epoch; used in EXTEND only -/
def Reg.CAP_ENGn_TEP.EPOCH : Field := ⟨At.CAP_ENGn_TEP, 0, 16, .rw, 0x0, kHID⟩
/-- µs; 0: no lateness tolerated (R43) -/
def Reg.CAP_ENGn_TEP.LATE_TOL : Field := ⟨At.CAP_ENGn_TEP, 16, 16, .rw, 0x0, kHID⟩

/-- Table CAP-14 (11_capture). -/
def At.CAP_ENGn_STAT : RegAt := ⟨0xE0120, 0x40, 8, 1, 0⟩
/-- Table CAP-5 -/
def Reg.CAP_ENGn_STAT.STATE : Field := ⟨At.CAP_ENGn_STAT, 0, 3, .ro, 0x0, kH⟩
/-- Table CAP-6, or OK, LATE, EXPIRED -/
def Reg.CAP_ENGn_STAT.ARM_STATUS : Field := ⟨At.CAP_ENGn_STAT, 8, 8, .ro, 0x0, kH⟩

/-- Table CAP-14 (11_capture). -/
def At.CAP_ENGn_IGN : RegAt := ⟨0xE0124, 0x40, 8, 1, 0⟩
/-- R441, saturating -/
def Reg.CAP_ENGn_IGN.N : Field := ⟨At.CAP_ENGn_IGN, 0, 32, .rc, 0x0, kH⟩

/-- Table CAP-14 (11_capture). -/
def At.CAP_ENGn_CNT : RegAt := ⟨0xE0128, 0x40, 8, 1, 0⟩
/-- Records completed, saturating -/
def Reg.CAP_ENGn_CNT.N : Field := ⟨At.CAP_ENGn_CNT, 0, 32, .rc, 0x0, kH⟩

/-- Table HIF-10 (12_host_rings). -/
def At.HIF_CTRL : RegAt := ⟨0xF0000, 0x0, 1, 1, 0⟩
/-- R478 -/
def Reg.HIF_CTRL.RO_EN : Field := ⟨At.HIF_CTRL, 0, 1, .rw, 0x1, kD⟩
/-- R489 -/
def Reg.HIF_CTRL.QUIESCE : Field := ⟨At.HIF_CTRL, 1, 1, .rw, 0x0, kD⟩

/-- Table HIF-10 (12_host_rings). -/
def At.HIF_STATUS : RegAt := ⟨0xF0004, 0x0, 1, 1, 0⟩
/-- Link up -/
def Reg.HIF_STATUS.LINK : Field := ⟨At.HIF_STATUS, 0, 1, .ro, 0x0, kD⟩
/-- R488 -/
def Reg.HIF_STATUS.STALL : Field := ⟨At.HIF_STATUS, 1, 1, .ro, 0x0, kNone⟩
/-- Negotiated lanes -/
def Reg.HIF_STATUS.WIDTH : Field := ⟨At.HIF_STATUS, 4, 4, .ro, 0x0, kD⟩
/-- 1 to 5: 2.5 to 32 GT/s -/
def Reg.HIF_STATUS.SPEED : Field := ⟨At.HIF_STATUS, 8, 3, .ro, 0x0, kD⟩

/-- Table HIF-10 (12_host_rings). -/
def At.HIF_INT : RegAt := ⟨0xF0008, 0x0, 1, 1, 0⟩
/-- R465 -/
def Reg.HIF_INT.DB_BAD : Field := ⟨At.HIF_INT, 0, 1, .w1c, 0x0, kNone⟩
/-- R482, R491 -/
def Reg.HIF_INT.RING_ERR : Field := ⟨At.HIF_INT, 1, 1, .w1c, 0x0, kNone⟩
/-- R491, R492 -/
def Reg.HIF_INT.DMA_ERR : Field := ⟨At.HIF_INT, 2, 1, .w1c, 0x0, kNone⟩
/-- R488 -/
def Reg.HIF_INT.STALL : Field := ⟨At.HIF_INT, 3, 1, .w1c, 0x0, kNone⟩
/-- R462 -/
def Reg.HIF_INT.CFG_REJ : Field := ⟨At.HIF_INT, 4, 1, .w1c, 0x0, kNone⟩
/-- Bit 16 + k enables cause k; vector 0 -/
def Reg.HIF_INT.EN : Field := ⟨At.HIF_INT, 16, 5, .rw, 0x0, kD⟩

/-- Table HIF-11 (12_host_rings). -/
def At.HIF_POLL_NS : RegAt := ⟨0xF000C, 0x0, 1, 1, 0⟩
/-- Poll interval in ns; values 1–249 act as 250; 0: no polling -/
def Reg.HIF_POLL_NS.NS : Field := ⟨At.HIF_POLL_NS, 0, 24, .rw, 0x0, kD⟩

/-- Table HIF-11 (12_host_rings). -/
def At.HIF_HB : RegAt := ⟨0xF0010, 0x0, 1, 1, 0⟩
/-- Any write is a heartbeat -/
def Reg.HIF_HB.CNT : Field := ⟨At.HIF_HB, 0, 32, .rw, 0x0, kD⟩

/-- Table HIF-11 (12_host_rings). -/
def At.HIF_HB_CFG : RegAt := ⟨0xF0014, 0x0, 1, 1, 0⟩
/-- ms; 0: heartbeat watch bypassed -/
def Reg.HIF_HB_CFG.TMO : Field := ⟨At.HIF_HB_CFG, 0, 16, .rw, 0x0, kD⟩

/-- Table HIF-11 (12_host_rings). -/
def At.HIF_FENCE : RegAt := ⟨0xF0018, 0x0, 1, 1, 0⟩
/-- ms; 0: no limit (R482) -/
def Reg.HIF_FENCE.TMO : Field := ⟨At.HIF_FENCE, 0, 16, .rw, 0x3E8, kD⟩

/-- Table HIF-11 (12_host_rings). -/
def At.HIF_CNT_DBX : RegAt := ⟨0xF001C, 0x0, 1, 1, 0⟩
/-- R465, saturating -/
def Reg.HIF_CNT_DBX.N : Field := ⟨At.HIF_CNT_DBX, 0, 32, .rc, 0x0, kD⟩

/-- Table HIF-11 (12_host_rings). -/
def At.HIF_ERR_RING : RegAt := ⟨0xF0020, 0x0, 1, 1, 0⟩
/-- Ring of the last error -/
def Reg.HIF_ERR_RING.RING : Field := ⟨At.HIF_ERR_RING, 0, 8, .ro, 0x0, kD⟩
/-- Its status code -/
def Reg.HIF_ERR_RING.STATUS : Field := ⟨At.HIF_ERR_RING, 8, 8, .ro, 0x0, kD⟩

/-- Table HIF-11 (12_host_rings). -/
def At.HIF_TOKk : RegAt := ⟨0xF0100, 0x4, 64, 1, 0⟩
/-- Token counter; writable while no descriptor waits on it -/
def Reg.HIF_TOKk.VAL : Field := ⟨At.HIF_TOKk, 0, 16, .rw, 0x0, kD⟩

/-- Table HIF-12 (12_host_rings). -/
def At.HIF_RINGn_CTRL : RegAt := ⟨0xF2000, 0x20, 256, 1, 0⟩
/-- R462, R463 -/
def Reg.HIF_RINGn_CTRL.EN : Field := ⟨At.HIF_RINGn_CTRL, 0, 1, .rw, 0x0, kD⟩

/-- Table HIF-12 (12_host_rings). -/
def At.HIF_RINGn_CBA_LO : RegAt := ⟨0xF2004, 0x20, 256, 1, 0⟩
/-- Control block address [31:6]; [5:0] read 0 -/
def Reg.HIF_RINGn_CBA_LO.ADDR : Field := ⟨At.HIF_RINGn_CBA_LO, 6, 26, .rw, 0x0, kD⟩

/-- Table HIF-12 (12_host_rings). -/
def At.HIF_RINGn_CBA_HI : RegAt := ⟨0xF2008, 0x20, 256, 1, 0⟩
/-- Control block address [63:32] -/
def Reg.HIF_RINGn_CBA_HI.ADDR : Field := ⟨At.HIF_RINGn_CBA_HI, 0, 32, .rw, 0x0, kD⟩

/-- Table HIF-12 (12_host_rings). -/
def At.HIF_RINGn_STAT : RegAt := ⟨0xF200C, 0x20, 256, 1, 0⟩
/-- 0 off, 1 running, 2 stopping, 3 error -/
def Reg.HIF_RINGn_STAT.STATE : Field := ⟨At.HIF_RINGn_STAT, 0, 2, .ro, 0x0, kD⟩
/-- OK, REJECTED or SKIPPED_ZERO -/
def Reg.HIF_RINGn_STAT.EN_STATUS : Field := ⟨At.HIF_RINGn_STAT, 8, 8, .ro, 0x0, kD⟩
/-- R465 -/
def Reg.HIF_RINGn_STAT.DB_BAD : Field := ⟨At.HIF_RINGn_STAT, 16, 1, .w1c, 0x0, kD⟩
/-- R491 -/
def Reg.HIF_RINGn_STAT.DMA_ERR : Field := ⟨At.HIF_RINGn_STAT, 17, 1, .w1c, 0x0, kD⟩

/-- Table HIF-12 (12_host_rings). -/
def At.HIF_RINGn_DCONS : RegAt := ⟨0xF2010, 0x20, 256, 1, 0⟩
/-- Device DCONS -/
def Reg.HIF_RINGn_DCONS.N : Field := ⟨At.HIF_RINGn_DCONS, 0, 32, .ro, 0x0, kD⟩

/-- Table HIF-12 (12_host_rings). -/
def At.HIF_RINGn_CPROD : RegAt := ⟨0xF2014, 0x20, 256, 1, 0⟩
/-- Device CPROD -/
def Reg.HIF_RINGn_CPROD.N : Field := ⟨At.HIF_RINGn_CPROD, 0, 32, .ro, 0x0, kD⟩

/-- Table HIF-12 (12_host_rings). -/
def At.HIF_RINGn_DROP : RegAt := ⟨0xF2018, 0x20, 256, 1, 0⟩
/-- Entries not delivered, saturating -/
def Reg.HIF_RINGn_DROP.N : Field := ⟨At.HIF_RINGn_DROP, 0, 32, .rc, 0x0, kD⟩

/-- Table DSP-10 (13_dispatch). -/
def At.DSP_CTRL : RegAt := ⟨0x100000, 0x0, 1, 1, 0⟩
/-- Dispatch on; writes to DSP_SPILL_* are ignored while 1 -/
def Reg.DSP_CTRL.EN : Field := ⟨At.DSP_CTRL, 0, 1, .rw, 0x0, kD⟩

/-- Table DSP-10 (13_dispatch). -/
def At.DSP_TICK : RegAt := ⟨0x100004, 0x0, 1, 1, 0⟩
/-- Tick, 10–10,000 µs, dividing 1,000,000; other values rejected, field unchanged, CFG_REJ set; writes while EN = 1 ignored -/
def Reg.DSP_TICK.US : Field := ⟨At.DSP_TICK, 0, 14, .rw, 0x64, kD⟩

/-- Table DSP-10 (13_dispatch). -/
def At.DSP_STATUS : RegAt := ⟨0x100008, 0x0, 1, 1, 0⟩
/-- Dispatch running -/
def Reg.DSP_STATUS.RUN : Field := ⟨At.DSP_STATUS, 0, 1, .ro, 0x0, kNone⟩
/-- Threads READY, 0–2,048 -/
def Reg.DSP_STATUS.READY : Field := ⟨At.DSP_STATUS, 1, 12, .ro, 0x0, kNone⟩
/-- Timed targets on chip, 0–2,048 -/
def Reg.DSP_STATUS.TIMED : Field := ⟨At.DSP_STATUS, 13, 12, .ro, 0x0, kNone⟩

/-- Table DSP-10 (13_dispatch). -/
def At.DSP_INT : RegAt := ⟨0x10000C, 0x0, 1, 1, 0⟩
/-- R496, R497 -/
def Reg.DSP_INT.CFG_REJ : Field := ⟨At.DSP_INT, 0, 1, .w1c, 0x0, kNone⟩
/-- R504 -/
def Reg.DSP_INT.LATE : Field := ⟨At.DSP_INT, 1, 1, .w1c, 0x0, kNone⟩
/-- R510 -/
def Reg.DSP_INT.SPILL : Field := ⟨At.DSP_INT, 2, 1, .w1c, 0x0, kNone⟩
/-- R512 -/
def Reg.DSP_INT.NOSPACE : Field := ⟨At.DSP_INT, 3, 1, .w1c, 0x0, kNone⟩
/-- R513 -/
def Reg.DSP_INT.SPILL_ERR : Field := ⟨At.DSP_INT, 4, 1, .w1c, 0x0, kNone⟩
/-- Bit 16 + k enables cause k; vector 14 (Table HIF-8) -/
def Reg.DSP_INT.EN : Field := ⟨At.DSP_INT, 16, 5, .rw, 0x0, kD⟩

/-- Table DSP-11 (13_dispatch). -/
def At.DSP_SPILL_LO : RegAt := ⟨0x100010, 0x0, 1, 1, 0⟩
/-- Area address [31:12]; [11:0] read 0 -/
def Reg.DSP_SPILL_LO.ADDR : Field := ⟨At.DSP_SPILL_LO, 12, 20, .rw, 0x0, kD⟩

/-- Table DSP-11 (13_dispatch). -/
def At.DSP_SPILL_HI : RegAt := ⟨0x100014, 0x0, 1, 1, 0⟩
/-- Area address [63:32] -/
def Reg.DSP_SPILL_HI.ADDR : Field := ⟨At.DSP_SPILL_HI, 0, 32, .rw, 0x0, kD⟩

/-- Table DSP-11 (13_dispatch). -/
def At.DSP_SPILL_CFG : RegAt := ⟨0x100018, 0x0, 1, 1, 0⟩
/-- Entries 2^LOG2, 12–16; 1–11 and above 16 rejected; 0: no spill area -/
def Reg.DSP_SPILL_CFG.LOG2 : Field := ⟨At.DSP_SPILL_CFG, 0, 5, .rw, 0x0, kD⟩
/-- Entries in use, saturating at 0xFFFF -/
def Reg.DSP_SPILL_CFG.USED : Field := ⟨At.DSP_SPILL_CFG, 16, 16, .ro, 0x0, kNone⟩

/-- Table DSP-12 (13_dispatch). -/
def At.DSP_CNT_WAKE : RegAt := ⟨0x100040, 0x0, 1, 1, 0⟩
/-- Threads made READY -/
def Reg.DSP_CNT_WAKE.N : Field := ⟨At.DSP_CNT_WAKE, 0, 32, .rc, 0x0, kNone⟩

/-- Table DSP-12 (13_dispatch). -/
def At.DSP_CNT_LATE : RegAt := ⟨0x100044, 0x0, 1, 1, 0⟩
/-- R504 -/
def Reg.DSP_CNT_LATE.N : Field := ⟨At.DSP_CNT_LATE, 0, 32, .rc, 0x0, kNone⟩

/-- Table DSP-12 (13_dispatch). -/
def At.DSP_CNT_EXPIRED : RegAt := ⟨0x100048, 0x0, 1, 1, 0⟩
/-- R504 -/
def Reg.DSP_CNT_EXPIRED.N : Field := ⟨At.DSP_CNT_EXPIRED, 0, 32, .rc, 0x0, kNone⟩

/-- Table DSP-12 (13_dispatch). -/
def At.DSP_CNT_PREEMPT : RegAt := ⟨0x10004C, 0x0, 1, 1, 0⟩
/-- R503 -/
def Reg.DSP_CNT_PREEMPT.N : Field := ⟨At.DSP_CNT_PREEMPT, 0, 32, .rc, 0x0, kNone⟩

/-- Table DSP-12 (13_dispatch). -/
def At.DSP_CNT_RACE : RegAt := ⟨0x100050, 0x0, 1, 1, 0⟩
/-- R509 -/
def Reg.DSP_CNT_RACE.N : Field := ⟨At.DSP_CNT_RACE, 0, 32, .rc, 0x0, kNone⟩

/-- Table DSP-12 (13_dispatch). -/
def At.DSP_CNT_NOSPACE : RegAt := ⟨0x100054, 0x0, 1, 1, 0⟩
/-- R512 -/
def Reg.DSP_CNT_NOSPACE.N : Field := ⟨At.DSP_CNT_NOSPACE, 0, 32, .rc, 0x0, kNone⟩

/-- Table DSP-13 (13_dispatch). -/
def At.DSP_CPUc_CFG : RegAt := ⟨0x100100, 0x10, 18, 1, 0⟩
/-- Messages for c (R502) -/
def Reg.DSP_CPUc_CFG.EN : Field := ⟨At.DSP_CPUc_CFG, 0, 1, .rw, 0x0, kD⟩
/-- Preempt a running thread -/
def Reg.DSP_CPUc_CFG.PREEMPT : Field := ⟨At.DSP_CPUc_CFG, 1, 1, .rw, 0x1, kD⟩
/-- MSI-X vector; ignored for c = 16, 17 -/
def Reg.DSP_CPUc_CFG.VEC : Field := ⟨At.DSP_CPUc_CFG, 8, 6, .rw, 0x0, kD⟩

/-- Table DSP-13 (13_dispatch). -/
def At.DSP_CPUc_NEXT : RegAt := ⟨0x100104, 0x10, 18, 1, 0⟩
/-- R501 -/
def Reg.DSP_CPUc_NEXT.THREAD : Field := ⟨At.DSP_CPUc_NEXT, 0, 11, .ro, 0x0, kNone⟩
/-- Its priority -/
def Reg.DSP_CPUc_NEXT.PRIO : Field := ⟨At.DSP_CPUc_NEXT, 11, 6, .ro, 0x0, kNone⟩
/-- A thread is ready -/
def Reg.DSP_CPUc_NEXT.VALID : Field := ⟨At.DSP_CPUc_NEXT, 31, 1, .ro, 0x0, kNone⟩

/-- Table DSP-13 (13_dispatch). -/
def At.DSP_CPUc_TAKE : RegAt := ⟨0x100108, 0x10, 18, 1, 0⟩
/-- R503; the read takes the thread -/
def Reg.DSP_CPUc_TAKE.THREAD : Field := ⟨At.DSP_CPUc_TAKE, 0, 11, .rc, 0x0, kNone⟩
/-- Its priority -/
def Reg.DSP_CPUc_TAKE.PRIO : Field := ⟨At.DSP_CPUc_TAKE, 11, 6, .rc, 0x0, kNone⟩
/-- A thread was taken; its USER then reads from DSP_CPUc_USER -/
def Reg.DSP_CPUc_TAKE.VALID : Field := ⟨At.DSP_CPUc_TAKE, 31, 1, .rc, 0x0, kNone⟩

/-- Table DSP-13 (13_dispatch). -/
def At.DSP_CPUc_CUR : RegAt := ⟨0x10010C, 0x10, 18, 1, 0⟩
/-- Thread RUNNING on c -/
def Reg.DSP_CPUc_CUR.THREAD : Field := ⟨At.DSP_CPUc_CUR, 0, 11, .ro, 0x0, kNone⟩
/-- 0: none (R499) -/
def Reg.DSP_CPUc_CUR.VALID : Field := ⟨At.DSP_CPUc_CUR, 31, 1, .ro, 0x0, kNone⟩

/-- Table DSP-15 (13_dispatch). -/
def At.DSP_CPUc_USER : RegAt := ⟨0x100300, 0x4, 18, 1, 0⟩
/-- Word 1 of the thread entry last taken on processor c (R503) -/
def Reg.DSP_CPUc_USER.USER : Field := ⟨At.DSP_CPUc_USER, 0, 32, .ro, 0x0, kNone⟩

/-- Table KEY-8 (15_key_store). -/
def At.KEY_STATUS : RegAt := ⟨0x110000, 0x0, 1, 1, 0⟩
/-- R555 -/
def Reg.KEY_STATUS.FUSE_OK : Field := ⟨At.KEY_STATUS, 0, 1, .ro, 0x0, kHSID⟩
/-- R567 complete, or slots held empty under R555 -/
def Reg.KEY_STATUS.LOADED : Field := ⟨At.KEY_STATUS, 1, 1, .ro, 0x0, kHSID⟩
/-- A command is running -/
def Reg.KEY_STATUS.BUSY : Field := ⟨At.KEY_STATUS, 2, 1, .ro, 0x0, kHSID⟩
/-- Active slots, 0–64 -/
def Reg.KEY_STATUS.ACTIVE : Field := ⟨At.KEY_STATUS, 4, 7, .ro, 0x0, kHSID⟩
/-- Slots with a pending key -/
def Reg.KEY_STATUS.PENDING : Field := ⟨At.KEY_STATUS, 12, 7, .ro, 0x0, kHSID⟩

/-- Table KEY-8 (15_key_store). -/
def At.KEY_INT : RegAt := ⟨0x110004, 0x0, 1, 1, 0⟩
/-- R556 -/
def Reg.KEY_INT.DENY : Field := ⟨At.KEY_INT, 0, 1, .w1c, 0x0, kHSID⟩
/-- R567 -/
def Reg.KEY_INT.LOAD_FAIL : Field := ⟨At.KEY_INT, 1, 1, .w1c, 0x0, kHSID⟩
/-- R567 -/
def Reg.KEY_INT.DISCARD : Field := ⟨At.KEY_INT, 2, 1, .w1c, 0x0, kHSID⟩
/-- A read-back failed; the command completed REJECTED -/
def Reg.KEY_INT.FLASH_ERR : Field := ⟨At.KEY_INT, 3, 1, .w1c, 0x0, kHSID⟩
/-- Bit 16 + k enables cause k; vector 15 (Table HIF-8) -/
def Reg.KEY_INT.EN : Field := ⟨At.KEY_INT, 16, 4, .rw, 0x0, kHSID⟩

/-- Table KEY-8 (15_key_store). -/
def At.KEY_DENY : RegAt := ⟨0x110008, 0x0, 1, 1, 0⟩
/-- Slot of the last refusal -/
def Reg.KEY_DENY.SLOT : Field := ⟨At.KEY_DENY, 0, 6, .ro, 0x0, kHSID⟩
/-- 0 MACsec transmit, 1 MACsec receive, 2 ingest, 3 output stream, 4 GOOSE template, 5 Daxide, 6 PTP -/
def Reg.KEY_DENY.ENGINE : Field := ⟨At.KEY_DENY, 8, 4, .ro, 0x0, kHSID⟩
/-- 0 empty, 1 usage, 2 length, 3 GLB_SPLIT.KEY = 0 -/
def Reg.KEY_DENY.REASON : Field := ⟨At.KEY_DENY, 12, 2, .ro, 0x0, kHSID⟩

/-- Table KEY-8 (15_key_store). -/
def At.KEY_CNT_DENY : RegAt := ⟨0x11000C, 0x0, 1, 1, 0⟩
/-- Refusals, saturating -/
def Reg.KEY_CNT_DENY.N : Field := ⟨At.KEY_CNT_DENY, 0, 32, .rc, 0x0, kHSID⟩

/-- Table LOG-7 (16_logbook_lookout). -/
def At.LOG_STATUS : RegAt := ⟨0x120000, 0x0, 1, 1, 0⟩
/-- R578 -/
def Reg.LOG_STATUS.FULL : Field := ⟨At.LOG_STATUS, 0, 1, .ro, 0x0, kHSID⟩
/-- Flush area known to be erased (R661) -/
def Reg.LOG_STATUS.FLUSH_READY : Field := ⟨At.LOG_STATUS, 1, 1, .ro, 0x0, kHSID⟩
/-- Intake fill, 0–64 -/
def Reg.LOG_STATUS.INTAKE : Field := ⟨At.LOG_STATUS, 8, 7, .ro, 0x0, kHSID⟩

/-- Table LOG-7 (16_logbook_lookout). -/
def At.LOG_MIR_SEQ : RegAt := ⟨0x120018, 0x0, 1, 1, 0⟩
/-- Highest SEQ mirrored (R660); a register of its own at 0x0012_0018 -/
def Reg.LOG_MIR_SEQ.SEQ : Field := ⟨At.LOG_MIR_SEQ, 0, 32, .ro, 0x0, kHSID⟩

/-- Table LOG-7 (16_logbook_lookout). -/
def At.LOG_INT : RegAt := ⟨0x120004, 0x0, 1, 1, 0⟩
/-- R578 -/
def Reg.LOG_INT.FULL : Field := ⟨At.LOG_INT, 0, 1, .w1c, 0x0, kHSID⟩
/-- R579, R581 -/
def Reg.LOG_INT.MEM_FAULT : Field := ⟨At.LOG_INT, 1, 1, .w1c, 0x0, kHSID⟩
/-- R580 -/
def Reg.LOG_INT.FAILED : Field := ⟨At.LOG_INT, 2, 1, .w1c, 0x0, kHSID⟩
/-- R576 -/
def Reg.LOG_INT.INTAKE_OVF : Field := ⟨At.LOG_INT, 3, 1, .w1c, 0x0, kHSID⟩
/-- R588 -/
def Reg.LOG_INT.FLUSH_DONE : Field := ⟨At.LOG_INT, 4, 1, .w1c, 0x0, kHSID⟩
/-- R589 -/
def Reg.LOG_INT.FLUSH_SKIP : Field := ⟨At.LOG_INT, 5, 1, .w1c, 0x0, kHSID⟩
/-- Bit 16 + k enables cause k; vector 16 (Table HIF-8) -/
def Reg.LOG_INT.EN : Field := ⟨At.LOG_INT, 16, 7, .rw, 0x0, kHSID⟩

/-- Table LOG-7 (16_logbook_lookout). -/
def At.LOG_SEQ : RegAt := ⟨0x120008, 0x0, 1, 1, 0⟩
/-- Highest SEQ written -/
def Reg.LOG_SEQ.SEQ : Field := ⟨At.LOG_SEQ, 0, 32, .ro, 0x0, kHSID⟩

/-- Table LOG-7 (16_logbook_lookout). -/
def At.LOG_USED : RegAt := ⟨0x12000C, 0x0, 1, 1, 0⟩
/-- Bytes used, including PAD and fenced regions -/
def Reg.LOG_USED.BYTES : Field := ⟨At.LOG_USED, 0, 22, .ro, 0x0, kHSID⟩

/-- Table LOG-7 (16_logbook_lookout). -/
def At.LOG_CNT_INTAKE : RegAt := ⟨0x120010, 0x0, 1, 1, 0⟩
/-- R576, saturating -/
def Reg.LOG_CNT_INTAKE.N : Field := ⟨At.LOG_CNT_INTAKE, 0, 32, .ro, 0x0, kHSID⟩

/-- Table LOG-7 (16_logbook_lookout). -/
def At.LOG_CNT_FULL : RegAt := ⟨0x120014, 0x0, 1, 1, 0⟩
/-- R578, R580, saturating -/
def Reg.LOG_CNT_FULL.N : Field := ⟨At.LOG_CNT_FULL, 0, 32, .ro, 0x0, kHSID⟩

/-- Table LOG-8 (16_logbook_lookout). -/
def At.LOG_HEALTH0 : RegAt := ⟨0x120020, 0x0, 1, 1, 0⟩
/-- 0 OK, 1 DEGRADED (a region fenced), 2 FAILED -/
def Reg.LOG_HEALTH0.STATE : Field := ⟨At.LOG_HEALTH0, 0, 2, .ro, 0x0, kHSID⟩
/-- Fenced regions, 0–8,191 -/
def Reg.LOG_HEALTH0.FENCED : Field := ⟨At.LOG_HEALTH0, 2, 14, .ro, 0x0, kHSID⟩
/-- Transient faults, saturating -/
def Reg.LOG_HEALTH0.TRANS : Field := ⟨At.LOG_HEALTH0, 16, 16, .ro, 0x0, kHSID⟩

/-- Table LOG-8 (16_logbook_lookout). -/
def At.LOG_HEALTH1 : RegAt := ⟨0x120024, 0x0, 1, 1, 0⟩
/-- First fenced region -/
def Reg.LOG_HEALTH1.FIRST : Field := ⟨At.LOG_HEALTH1, 0, 13, .ro, 0x0, kHSID⟩
/-- Last fenced region -/
def Reg.LOG_HEALTH1.LAST : Field := ⟨At.LOG_HEALTH1, 16, 13, .ro, 0x0, kHSID⟩

/-- Table LOG-8 (16_logbook_lookout). -/
def At.LOG_HEALTH2 : RegAt := ⟨0x120028, 0x0, 1, 1, 0⟩
/-- Lasting faults, saturating -/
def Reg.LOG_HEALTH2.LASTING : Field := ⟨At.LOG_HEALTH2, 0, 16, .ro, 0x0, kHSID⟩
/-- Failed writes, saturating -/
def Reg.LOG_HEALTH2.WFAIL : Field := ⟨At.LOG_HEALTH2, 16, 16, .ro, 0x0, kHSID⟩

/-- Table LOG-9 (16_logbook_lookout). -/
def At.LOG_RD_START : RegAt := ⟨0x120030, 0x0, 1, 1, 0⟩
/-- First SEQ to deliver -/
def Reg.LOG_RD_START.SEQ : Field := ⟨At.LOG_RD_START, 0, 32, .rw, 0x1, kD⟩

/-- Table LOG-9 (16_logbook_lookout). -/
def At.LOG_RD_CTRL : RegAt := ⟨0x120034, 0x0, 1, 1, 0⟩
/-- LOGS ring -/
def Reg.LOG_RD_CTRL.RING : Field := ⟨At.LOG_RD_CTRL, 0, 8, .rw, 0x0, kD⟩
/-- R584 -/
def Reg.LOG_RD_CTRL.FOLLOW : Field := ⟨At.LOG_RD_CTRL, 8, 1, .rw, 0x0, kD⟩
/-- R583; reads 0 -/
def Reg.LOG_RD_CTRL.GO : Field := ⟨At.LOG_RD_CTRL, 9, 1, .w1s, 0x0, kNone⟩
/-- Stops the reader; reads 0 -/
def Reg.LOG_RD_CTRL.STOP : Field := ⟨At.LOG_RD_CTRL, 10, 1, .w1s, 0x0, kNone⟩

/-- Table LOG-9 (16_logbook_lookout). -/
def At.LOG_RD_STAT : RegAt := ⟨0x120038, 0x0, 1, 1, 0⟩
/-- Reader running -/
def Reg.LOG_RD_STAT.RUN : Field := ⟨At.LOG_RD_STAT, 0, 1, .ro, 0x0, kD⟩
/-- OK or REJECTED -/
def Reg.LOG_RD_STAT.STATUS : Field := ⟨At.LOG_RD_STAT, 8, 8, .ro, 0x0, kD⟩

/-- Table LOG-9 (16_logbook_lookout). -/
def At.LOG_RD_NEXT : RegAt := ⟨0x12003C, 0x0, 1, 1, 0⟩
/-- First SEQ not delivered (R587); a GO sets it to LOG_RD_START -/
def Reg.LOG_RD_NEXT.SEQ : Field := ⟨At.LOG_RD_NEXT, 0, 32, .ro, 0x0, kHSID⟩

/-- Table LKO-4 (16_logbook_lookout). -/
def At.LKO_CTRL : RegAt := ⟨0x128000, 0x0, 1, 1, 0⟩
/-- Probes sample -/
def Reg.LKO_CTRL.EN : Field := ⟨At.LKO_CTRL, 0, 1, .rw, 0x0, kHID⟩

/-- Table LKO-4 (16_logbook_lookout). -/
def At.LKO_INT : RegAt := ⟨0x128004, 0x0, 1, 1, 0⟩
/-- R594 -/
def Reg.LKO_INT.OVER : Field := ⟨At.LKO_INT, 0, 1, .w1c, 0x0, kH⟩
/-- R591 -/
def Reg.LKO_INT.CFG_REJ : Field := ⟨At.LKO_INT, 1, 1, .w1c, 0x0, kH⟩
/-- Bit 16 + k enables cause k; vector 17 (Table HIF-8) -/
def Reg.LKO_INT.EN : Field := ⟨At.LKO_INT, 16, 2, .rw, 0x0, kHID⟩

/-- Table LKO-4 (16_logbook_lookout). -/
def At.LKO_SNAP : RegAt := ⟨0x128008, 0x0, 1, 1, 0⟩
/-- Probe to copy -/
def Reg.LKO_SNAP.PROBE : Field := ⟨At.LKO_SNAP, 0, 6, .rw, 0x0, kHID⟩
/-- Copy every probe -/
def Reg.LKO_SNAP.ALL : Field := ⟨At.LKO_SNAP, 8, 1, .rw, 0x0, kHID⟩
/-- R593 -/
def Reg.LKO_SNAP.CLEAR : Field := ⟨At.LKO_SNAP, 9, 1, .rw, 0x0, kHID⟩
/-- R593; reads 0 -/
def Reg.LKO_SNAP.GO : Field := ⟨At.LKO_SNAP, 31, 1, .w1s, 0x0, kNone⟩

/-- Table LKO-4 (16_logbook_lookout). -/
def At.LKO_OVER0 : RegAt := ⟨0x12800C, 0x0, 1, 1, 0⟩
/-- Bit p: probe p over its limit -/
def Reg.LKO_OVER0.P : Field := ⟨At.LKO_OVER0, 0, 32, .w1c, 0x0, kH⟩

/-- Table LKO-4 (16_logbook_lookout). -/
def At.LKO_OVER1 : RegAt := ⟨0x128010, 0x0, 1, 1, 0⟩
/-- Bit p: probe 32 + p -/
def Reg.LKO_OVER1.P : Field := ⟨At.LKO_OVER1, 0, 32, .w1c, 0x0, kH⟩

/-- Table LKO-4 (16_logbook_lookout). -/
def At.LKO_CNT_LOST : RegAt := ⟨0x128014, 0x0, 1, 1, 0⟩
/-- R592, saturating -/
def Reg.LKO_CNT_LOST.N : Field := ⟨At.LKO_CNT_LOST, 0, 32, .rc, 0x0, kH⟩

/-- Table CMP-5 (17_compression). -/
def At.CMP_CTRL : RegAt := ⟨0x130000, 0x0, 1, 1, 0⟩
/-- Engine on (R607) -/
def Reg.CMP_CTRL.EN : Field := ⟨At.CMP_CTRL, 0, 1, .rw, 0x0, kHID⟩

/-- Table CMP-5 (17_compression). -/
def At.CMP_STATUS : RegAt := ⟨0x130004, 0x0, 1, 1, 0⟩
/-- Bit n: lane n runs a job -/
def Reg.CMP_STATUS.BUSY : Field := ⟨At.CMP_STATUS, 0, 4, .ro, 0x0, kH⟩
/-- STAGE slots, 0–4 (R596) -/
def Reg.CMP_STATUS.SLOTS : Field := ⟨At.CMP_STATUS, 8, 3, .ro, 0x0, kH⟩

/-- Table CMP-5 (17_compression). -/
def At.CMP_INT : RegAt := ⟨0x130008, 0x0, 1, 1, 0⟩
/-- A job completed with a status other than OK or SKIPPED_ZERO -/
def Reg.CMP_INT.FAIL : Field := ⟨At.CMP_INT, 0, 1, .w1c, 0x0, kH⟩
/-- R602 -/
def Reg.CMP_INT.LIMIT : Field := ⟨At.CMP_INT, 1, 1, .w1c, 0x0, kH⟩
/-- R606 -/
def Reg.CMP_INT.PARITY : Field := ⟨At.CMP_INT, 2, 1, .w1c, 0x0, kH⟩
/-- Bit 16 + k enables cause k; vector 13 (Table HIF-8) -/
def Reg.CMP_INT.EN : Field := ⟨At.CMP_INT, 16, 3, .rw, 0x0, kHID⟩

/-- Table CMP-5 (17_compression). -/
def At.CMP_DLIM : RegAt := ⟨0x13000C, 0x0, 1, 1, 0⟩
/-- Output bytes per input byte; 0: ratio limit bypassed -/
def Reg.CMP_DLIM.MAX_RATIO : Field := ⟨At.CMP_DLIM, 0, 16, .rw, 0x100, kHID⟩

/-- Table CMP-5 (17_compression). -/
def At.CMP_DMAX : RegAt := ⟨0x130010, 0x0, 1, 1, 0⟩
/-- KiB; 0: absolute limit bypassed -/
def Reg.CMP_DMAX.MAX_OUT : Field := ⟨At.CMP_DMAX, 0, 32, .rw, 0x10000, kHID⟩

/-- Table CMP-6 (17_compression). -/
def At.CMP_CNT_JOBS : RegAt := ⟨0x130040, 0x0, 1, 1, 0⟩
/-- Jobs completed -/
def Reg.CMP_CNT_JOBS.N : Field := ⟨At.CMP_CNT_JOBS, 0, 32, .rc, 0x0, kH⟩

/-- Table CMP-6 (17_compression). -/
def At.CMP_CNT_FAIL : RegAt := ⟨0x130044, 0x0, 1, 1, 0⟩
/-- Jobs failed (R605) -/
def Reg.CMP_CNT_FAIL.N : Field := ⟨At.CMP_CNT_FAIL, 0, 32, .rc, 0x0, kH⟩

/-- Table CMP-6 (17_compression). -/
def At.CMP_CNT_LIMIT : RegAt := ⟨0x130048, 0x0, 1, 1, 0⟩
/-- R602 -/
def Reg.CMP_CNT_LIMIT.N : Field := ⟨At.CMP_CNT_LIMIT, 0, 32, .rc, 0x0, kH⟩

/-- Table CMP-6 (17_compression). -/
def At.CMP_CNT_OUTFULL : RegAt := ⟨0x13004C, 0x0, 1, 1, 0⟩
/-- Jobs ended OUT_FULL -/
def Reg.CMP_CNT_OUTFULL.N : Field := ⟨At.CMP_CNT_OUTFULL, 0, 32, .rc, 0x0, kH⟩

/-- Table MAP-3 (19_register_map). -/
def At.MGT_STATUS : RegAt := ⟨0x140000, 0x0, 1, 1, 0⟩
/-- SGMII link to the external PHY up -/
def Reg.MGT_STATUS.LINK : Field := ⟨At.MGT_STATUS, 0, 1, .ro, 0x0, kH⟩
/-- 0 none, 1 10 Mb/s, 2 100 Mb/s, 3 1 Gb/s -/
def Reg.MGT_STATUS.SPEED : Field := ⟨At.MGT_STATUS, 1, 2, .ro, 0x0, kH⟩

/-- Table MAP-3 (19_register_map). -/
def At.MGT_INT : RegAt := ⟨0x140004, 0x0, 1, 1, 0⟩
/-- LINK changed -/
def Reg.MGT_INT.LINK_CHG : Field := ⟨At.MGT_INT, 0, 1, .w1c, 0x0, kH⟩
/-- Enables cause 0; vector 18 (Table HIF-8) -/
def Reg.MGT_INT.EN : Field := ⟨At.MGT_INT, 16, 1, .rw, 0x0, kHID⟩

/-- Table CAP-2 (11_capture), word 0 of the entry. -/
def At.T_CCHAN : RegAt := ⟨0x370000, 0x8, 512, 1, 0⟩
def Reg.T_CCHAN.KIND : Field := ⟨At.T_CCHAN, 0, 2, .rw, 0x0, kHID⟩
def Reg.T_CCHAN.INDEX : Field := ⟨At.T_CCHAN, 2, 12, .rw, 0x0, kHID⟩
def Reg.T_CCHAN.BUS : Field := ⟨At.T_CCHAN, 14, 2, .rw, 0x0, kHID⟩
def Reg.T_CCHAN.FIELD : Field := ⟨At.T_CCHAN, 16, 7, .rw, 0x0, kHID⟩
def Reg.T_CCHAN.DIGITAL : Field := ⟨At.T_CCHAN, 23, 1, .rw, 0x0, kHID⟩
def Reg.T_CCHAN.MASK : Field := ⟨At.T_CCHAN, 24, 5, .rw, 0x0, kHID⟩
def Reg.T_CCHAN.MASK_EN : Field := ⟨At.T_CCHAN, 29, 1, .rw, 0x0, kHID⟩

/-- Table CAP-3 (11_capture), word 0 of the entry. -/
def At.T_CTRIG_0 : RegAt := ⟨0x371000, 0x20, 256, 1, 0⟩
def Reg.T_CTRIG.VALID : Field := ⟨At.T_CTRIG_0, 0, 1, .rw, 0x0, kHID⟩
def Reg.T_CTRIG.SRC : Field := ⟨At.T_CTRIG_0, 1, 3, .rw, 0x0, kHID⟩
def Reg.T_CTRIG.COND : Field := ⟨At.T_CTRIG_0, 4, 3, .rw, 0x0, kHID⟩
def Reg.T_CTRIG.INTERP : Field := ⟨At.T_CTRIG_0, 7, 1, .rw, 0x0, kHID⟩
def Reg.T_CTRIG.ENG : Field := ⟨At.T_CTRIG_0, 8, 8, .rw, 0x0, kHID⟩
/-- Table CAP-3 (11_capture), word 1 of the entry. -/
def At.T_CTRIG_1 : RegAt := ⟨0x371004, 0x20, 256, 1, 0⟩
def Reg.T_CTRIG.INDEX : Field := ⟨At.T_CTRIG_1, 0, 12, .rw, 0x0, kHID⟩
def Reg.T_CTRIG.BUS : Field := ⟨At.T_CTRIG_1, 12, 2, .rw, 0x0, kHID⟩
def Reg.T_CTRIG.FIELD : Field := ⟨At.T_CTRIG_1, 14, 7, .rw, 0x0, kHID⟩
def Reg.T_CTRIG.SVCH : Field := ⟨At.T_CTRIG_1, 21, 5, .rw, 0x0, kHID⟩
/-- Table CAP-3 (11_capture), word 2 of the entry. -/
def At.T_CTRIG_2 : RegAt := ⟨0x371008, 0x20, 256, 1, 0⟩
def Reg.T_CTRIG.HI : Field := ⟨At.T_CTRIG_2, 0, 32, .rw, 0x0, kHID⟩
/-- Table CAP-3 (11_capture), word 3 of the entry. -/
def At.T_CTRIG_3 : RegAt := ⟨0x37100C, 0x20, 256, 1, 0⟩
def Reg.T_CTRIG.LO : Field := ⟨At.T_CTRIG_3, 0, 32, .rw, 0x0, kHID⟩
/-- Table CAP-3 (11_capture), word 4 of the entry. -/
def At.T_CTRIG_4 : RegAt := ⟨0x371010, 0x20, 256, 1, 0⟩
def Reg.T_CTRIG.MASK : Field := ⟨At.T_CTRIG_4, 0, 16, .rw, 0x0, kHID⟩
/-- Table CAP-3 (11_capture), word 5 of the entry. -/
def At.T_CTRIG_5 : RegAt := ⟨0x371014, 0x20, 256, 1, 0⟩
def Reg.T_CTRIG.HYST : Field := ⟨At.T_CTRIG_5, 0, 32, .rw, 0x0, kHID⟩

/-- Table CAP-7 (11_capture), word 0 of the entry. -/
def At.T_CMASK : RegAt := ⟨0x373000, 0x100, 32, 1, 0⟩
def Reg.T_CMASK.VALID : Field := ⟨At.T_CMASK, 0, 1, .rw, 0x0, kHID⟩
def Reg.T_CMASK.NPT : Field := ⟨At.T_CMASK, 1, 5, .rw, 0x0, kHID⟩
def Reg.T_CMASK.NANFAIL : Field := ⟨At.T_CMASK, 6, 1, .rw, 0x0, kHID⟩

/-- Table CAP-7 (11_capture), word 0 of the entry. -/
def At.T_CMASKP : RegAt := ⟨0x373010, 0x100, 32, 60, 4⟩
def Reg.T_CMASKP.W : Field := ⟨At.T_CMASKP, 0, 32, .rw, 0x0, kHID⟩

/-- Table CAP-15 (11_capture), word 0 of the entry. -/
def At.T_CTSTAT_0 : RegAt := ⟨0x375000, 0x10, 256, 1, 0⟩
def Reg.T_CTSTAT.FIRES : Field := ⟨At.T_CTSTAT_0, 0, 32, .ro, 0x0, kH⟩
/-- Table CAP-15 (11_capture), word 1 of the entry. -/
def At.T_CTSTAT_1 : RegAt := ⟨0x375004, 0x10, 256, 1, 0⟩
def Reg.T_CTSTAT.LAST : Field := ⟨At.T_CTSTAT_1, 0, 32, .ro, 0x0, kH⟩
/-- Table CAP-15 (11_capture), word 2 of the entry. -/
def At.T_CTSTAT_2 : RegAt := ⟨0x375008, 0x10, 256, 1, 0⟩
def Reg.T_CTSTAT.X_P : Field := ⟨At.T_CTSTAT_2, 0, 32, .ro, 0x0, kH⟩

/-- Table DSP-2 (13_dispatch), word 0 of the entry. -/
def At.T_THREAD_0 : RegAt := ⟨0x380000, 0x10, 2048, 1, 0⟩
def Reg.T_THREAD.VALID : Field := ⟨At.T_THREAD_0, 0, 1, .rw, 0x0, kD⟩
def Reg.T_THREAD.CPU : Field := ⟨At.T_THREAD_0, 1, 5, .rw, 0x0, kD⟩
def Reg.T_THREAD.PRIO : Field := ⟨At.T_THREAD_0, 6, 6, .rw, 0x0, kD⟩
/-- Table DSP-2 (13_dispatch), word 1 of the entry. -/
def At.T_THREAD_1 : RegAt := ⟨0x380004, 0x10, 2048, 1, 0⟩
def Reg.T_THREAD.USER : Field := ⟨At.T_THREAD_1, 0, 32, .rw, 0x0, kD⟩

/-- Table DSP-14 (13_dispatch), word 0 of the entry. -/
def At.T_THSTAT_0 : RegAt := ⟨0x390000, 0x10, 2048, 1, 0⟩
def Reg.T_THSTAT.STATE : Field := ⟨At.T_THSTAT_0, 0, 3, .ro, 0x0, kD⟩
def Reg.T_THSTAT.SPILLED : Field := ⟨At.T_THSTAT_0, 3, 1, .ro, 0x0, kD⟩
def Reg.T_THSTAT.WAIT : Field := ⟨At.T_THSTAT_0, 4, 2, .ro, 0x0, kD⟩
def Reg.T_THSTAT.TMO : Field := ⟨At.T_THSTAT_0, 6, 1, .ro, 0x0, kD⟩
/-- Table DSP-14 (13_dispatch), word 1 of the entry. -/
def At.T_THSTAT_1 : RegAt := ⟨0x390004, 0x10, 2048, 1, 0⟩
def Reg.T_THSTAT.TARGET : Field := ⟨At.T_THSTAT_1, 0, 32, .ro, 0x0, kD⟩
/-- Table DSP-14 (13_dispatch), word 2 of the entry. -/
def At.T_THSTAT_2 : RegAt := ⟨0x390008, 0x10, 2048, 1, 0⟩
def Reg.T_THSTAT.ARG : Field := ⟨At.T_THSTAT_2, 0, 32, .ro, 0x0, kD⟩
/-- Table DSP-14 (13_dispatch), word 3 of the entry. -/
def At.T_THSTAT_3 : RegAt := ⟨0x39000C, 0x10, 2048, 1, 0⟩
def Reg.T_THSTAT.WAKES : Field := ⟨At.T_THSTAT_3, 0, 32, .ro, 0x0, kD⟩

/-- Table KEY-1 (15_key_store), word 0 of the entry. -/
def At.T_KSLOT_0 : RegAt := ⟨0x3B0000, 0x20, 64, 1, 0⟩
def Reg.T_KSLOT.STATE : Field := ⟨At.T_KSLOT_0, 0, 2, .ro, 0x0, kHSID⟩
def Reg.T_KSLOT.PERSIST : Field := ⟨At.T_KSLOT_0, 2, 1, .ro, 0x0, kHSID⟩
def Reg.T_KSLOT.LEN : Field := ⟨At.T_KSLOT_0, 3, 1, .ro, 0x0, kHSID⟩
def Reg.T_KSLOT.DEPTH : Field := ⟨At.T_KSLOT_0, 4, 3, .ro, 0x0, kHSID⟩
def Reg.T_KSLOT.PARENT : Field := ⟨At.T_KSLOT_0, 8, 6, .ro, 0x0, kHSID⟩
def Reg.T_KSLOT.P_VERIFIED : Field := ⟨At.T_KSLOT_0, 14, 1, .ro, 0x0, kHSID⟩
/-- Table KEY-1 (15_key_store), word 1 of the entry. -/
def At.T_KSLOT_1 : RegAt := ⟨0x3B0004, 0x20, 64, 1, 0⟩
def Reg.T_KSLOT.USAGE : Field := ⟨At.T_KSLOT_1, 0, 8, .ro, 0x0, kHSID⟩
def Reg.T_KSLOT.PUSAGE : Field := ⟨At.T_KSLOT_1, 8, 8, .ro, 0x0, kHSID⟩
/-- Table KEY-1 (15_key_store), word 2 of the entry. -/
def At.T_KSLOT_2 : RegAt := ⟨0x3B0008, 0x20, 64, 1, 0⟩
def Reg.T_KSLOT.KEYID : Field := ⟨At.T_KSLOT_2, 0, 32, .ro, 0x0, kHSID⟩
/-- Table KEY-1 (15_key_store), word 3 of the entry. -/
def At.T_KSLOT_3 : RegAt := ⟨0x3B000C, 0x20, 64, 1, 0⟩
def Reg.T_KSLOT.GEN : Field := ⟨At.T_KSLOT_3, 0, 32, .ro, 0x0, kHSID⟩
/-- Table KEY-1 (15_key_store), word 4 of the entry. -/
def At.T_KSLOT_4 : RegAt := ⟨0x3B0010, 0x20, 64, 1, 0⟩
def Reg.T_KSLOT.PGEN : Field := ⟨At.T_KSLOT_4, 0, 32, .ro, 0x0, kHSID⟩
/-- Table KEY-1 (15_key_store), word 5 of the entry. -/
def At.T_KSLOT_5 : RegAt := ⟨0x3B0014, 0x20, 64, 1, 0⟩
def Reg.T_KSLOT.USES : Field := ⟨At.T_KSLOT_5, 0, 32, .ro, 0x0, kHSID⟩
/-- Table KEY-1 (15_key_store), word 6 of the entry. -/
def At.T_KSLOT_6 : RegAt := ⟨0x3B0018, 0x20, 64, 1, 0⟩
def Reg.T_KSLOT.DENIED : Field := ⟨At.T_KSLOT_6, 0, 32, .ro, 0x0, kHSID⟩

/-- Table LOG-5 (16_logbook_lookout), word 0 of the entry. -/
def At.T_LIMIT_0 : RegAt := ⟨0x3C0000, 0x8, 1024, 1, 0⟩
def Reg.T_LIMIT.RATE : Field := ⟨At.T_LIMIT_0, 0, 16, .rw, 0x10, kHSID⟩
def Reg.T_LIMIT.BURST : Field := ⟨At.T_LIMIT_0, 16, 8, .rw, 0x20, kHSID⟩
def Reg.T_LIMIT.OFF : Field := ⟨At.T_LIMIT_0, 24, 1, .rw, 0x0, kHSID⟩
/-- Table LOG-5 (16_logbook_lookout), word 1 of the entry. -/
def At.T_LIMIT_1 : RegAt := ⟨0x3C0004, 0x8, 1024, 1, 0⟩
def Reg.T_LIMIT.DROPS : Field := ⟨At.T_LIMIT_1, 0, 32, .ro, 0x0, kHSID⟩

/-- Table LKO-1 (16_logbook_lookout), word 0 of the entry. -/
def At.T_PROBE_0 : RegAt := ⟨0x3C2000, 0x10, 64, 1, 0⟩
def Reg.T_PROBE.EN : Field := ⟨At.T_PROBE_0, 0, 1, .rw, 0x0, kHID⟩
def Reg.T_PROBE.KIND : Field := ⟨At.T_PROBE_0, 1, 5, .rw, 0x0, kHID⟩
def Reg.T_PROBE.MODE : Field := ⟨At.T_PROBE_0, 6, 1, .rw, 0x0, kHID⟩
def Reg.T_PROBE.INDEX : Field := ⟨At.T_PROBE_0, 16, 16, .rw, 0x0, kHID⟩
/-- Table LKO-1 (16_logbook_lookout), word 1 of the entry. -/
def At.T_PROBE_1 : RegAt := ⟨0x3C2004, 0x10, 64, 1, 0⟩
def Reg.T_PROBE.BASE : Field := ⟨At.T_PROBE_1, 0, 32, .rw, 0x0, kHID⟩
/-- Table LKO-1 (16_logbook_lookout), word 2 of the entry. -/
def At.T_PROBE_2 : RegAt := ⟨0x3C2008, 0x10, 64, 1, 0⟩
def Reg.T_PROBE.WIDTH : Field := ⟨At.T_PROBE_2, 0, 32, .rw, 0x0, kHID⟩
/-- Table LKO-1 (16_logbook_lookout), word 3 of the entry. -/
def At.T_PROBE_3 : RegAt := ⟨0x3C200C, 0x10, 64, 1, 0⟩
def Reg.T_PROBE.LIMIT : Field := ⟨At.T_PROBE_3, 0, 32, .rw, 0x0, kHID⟩

/-- Table LKO-3 (16_logbook_lookout), word 0 of the entry. -/
def At.T_PSNAP : RegAt := ⟨0x3C8000, 0x200, 64, 128, 4⟩
def Reg.T_PSNAP.W : Field := ⟨At.T_PSNAP, 0, 32, .ro, 0x0, kH⟩

/-- Table HIF-1 (12_host_rings), word 0 of the entry. -/
def At.T_MSIX_0 : RegAt := ⟨0xF8000, 0x10, 64, 1, 0⟩
def Reg.T_MSIX.ADDR_LO : Field := ⟨At.T_MSIX_0, 0, 32, .rw, 0x0, kD⟩
/-- Table HIF-1 (12_host_rings), word 1 of the entry. -/
def At.T_MSIX_1 : RegAt := ⟨0xF8004, 0x10, 64, 1, 0⟩
def Reg.T_MSIX.ADDR_HI : Field := ⟨At.T_MSIX_1, 0, 32, .rw, 0x0, kD⟩
/-- Table HIF-1 (12_host_rings), word 2 of the entry. -/
def At.T_MSIX_2 : RegAt := ⟨0xF8008, 0x10, 64, 1, 0⟩
def Reg.T_MSIX.DATA : Field := ⟨At.T_MSIX_2, 0, 32, .rw, 0x0, kD⟩
/-- Table HIF-1 (12_host_rings), word 3 of the entry. -/
def At.T_MSIX_3 : RegAt := ⟨0xF800C, 0x10, 64, 1, 0⟩
def Reg.T_MSIX.MASK : Field := ⟨At.T_MSIX_3, 0, 1, .rw, 0x1, kD⟩

/-- Table HIF-1 (12_host_rings), word 0 of the entry. -/
def At.T_MSIXPBA : RegAt := ⟨0xF9000, 0x4, 2, 1, 0⟩
def Reg.T_MSIXPBA.P : Field := ⟨At.T_MSIXPBA, 0, 32, .ro, 0x0, kD⟩

def regFieldsE0 : List Field :=
  [Reg.CAP_CTRL.EN,
   Reg.CAP_HIST.H,
   Reg.CAP_STATUS.RUN,
   Reg.CAP_STATUS.FAIL,
   Reg.CAP_STATUS.NEED,
   Reg.CAP_SWTRIG.DEF,
   Reg.CAP_SWTRIG.GO,
   Reg.CAP_INT.CFG_REJ,
   Reg.CAP_INT.TRIG,
   Reg.CAP_INT.DONE,
   Reg.CAP_INT.MASK_VIOL,
   Reg.CAP_INT.ARM,
   Reg.CAP_INT.EN,
   Reg.CAP_CNT_RAWSKIP.N,
   Reg.CAP_CNT_PASSDROP.N,
   Reg.CAP_ENGn_CTRL.ARM,
   Reg.CAP_ENGn_CTRL.TIMED,
   Reg.CAP_ENGn_CTRL.DISARM,
   Reg.CAP_ENGn_CTRL.REL,
   Reg.CAP_ENGn_CFG.NCH,
   Reg.CAP_ENGn_CFG.RING,
   Reg.CAP_ENGn_CFG.DELIVER,
   Reg.CAP_ENGn_CFG.REARM,
   Reg.CAP_ENGn_CFG.MASKSTOP,
   Reg.CAP_ENGn_CFG.PASS_DROP,
   Reg.CAP_ENGn_CFG.COLLECT,
   Reg.CAP_ENGn_PRE.MS,
   Reg.CAP_ENGn_POST.MS,
   Reg.CAP_ENGn_AVG.RAW,
   Reg.CAP_ENGn_AVG.FRM,
   Reg.CAP_ENGn_BUF.OFS,
   Reg.CAP_ENGn_BUF.SIZE,
   Reg.CAP_ENGn_TARM.ST,
   Reg.CAP_ENGn_TEP.EPOCH,
   Reg.CAP_ENGn_TEP.LATE_TOL,
   Reg.CAP_ENGn_STAT.STATE,
   Reg.CAP_ENGn_STAT.ARM_STATUS,
   Reg.CAP_ENGn_IGN.N,
   Reg.CAP_ENGn_CNT.N,
   Reg.HIF_CTRL.RO_EN,
   Reg.HIF_CTRL.QUIESCE,
   Reg.HIF_STATUS.LINK,
   Reg.HIF_STATUS.STALL,
   Reg.HIF_STATUS.WIDTH,
   Reg.HIF_STATUS.SPEED,
   Reg.HIF_INT.DB_BAD,
   Reg.HIF_INT.RING_ERR,
   Reg.HIF_INT.DMA_ERR,
   Reg.HIF_INT.STALL,
   Reg.HIF_INT.CFG_REJ,
   Reg.HIF_INT.EN,
   Reg.HIF_POLL_NS.NS,
   Reg.HIF_HB.CNT,
   Reg.HIF_HB_CFG.TMO,
   Reg.HIF_FENCE.TMO,
   Reg.HIF_CNT_DBX.N,
   Reg.HIF_ERR_RING.RING,
   Reg.HIF_ERR_RING.STATUS,
   Reg.HIF_TOKk.VAL,
   Reg.HIF_RINGn_CTRL.EN]

def regFieldsE1 : List Field :=
  [Reg.HIF_RINGn_CBA_LO.ADDR,
   Reg.HIF_RINGn_CBA_HI.ADDR,
   Reg.HIF_RINGn_STAT.STATE,
   Reg.HIF_RINGn_STAT.EN_STATUS,
   Reg.HIF_RINGn_STAT.DB_BAD,
   Reg.HIF_RINGn_STAT.DMA_ERR,
   Reg.HIF_RINGn_DCONS.N,
   Reg.HIF_RINGn_CPROD.N,
   Reg.HIF_RINGn_DROP.N,
   Reg.DSP_CTRL.EN,
   Reg.DSP_TICK.US,
   Reg.DSP_STATUS.RUN,
   Reg.DSP_STATUS.READY,
   Reg.DSP_STATUS.TIMED,
   Reg.DSP_INT.CFG_REJ,
   Reg.DSP_INT.LATE,
   Reg.DSP_INT.SPILL,
   Reg.DSP_INT.NOSPACE,
   Reg.DSP_INT.SPILL_ERR,
   Reg.DSP_INT.EN,
   Reg.DSP_SPILL_LO.ADDR,
   Reg.DSP_SPILL_HI.ADDR,
   Reg.DSP_SPILL_CFG.LOG2,
   Reg.DSP_SPILL_CFG.USED,
   Reg.DSP_CNT_WAKE.N,
   Reg.DSP_CNT_LATE.N,
   Reg.DSP_CNT_EXPIRED.N,
   Reg.DSP_CNT_PREEMPT.N,
   Reg.DSP_CNT_RACE.N,
   Reg.DSP_CNT_NOSPACE.N,
   Reg.DSP_CPUc_CFG.EN,
   Reg.DSP_CPUc_CFG.PREEMPT,
   Reg.DSP_CPUc_CFG.VEC,
   Reg.DSP_CPUc_NEXT.THREAD,
   Reg.DSP_CPUc_NEXT.PRIO,
   Reg.DSP_CPUc_NEXT.VALID,
   Reg.DSP_CPUc_TAKE.THREAD,
   Reg.DSP_CPUc_TAKE.PRIO,
   Reg.DSP_CPUc_TAKE.VALID,
   Reg.DSP_CPUc_CUR.THREAD,
   Reg.DSP_CPUc_CUR.VALID,
   Reg.DSP_CPUc_USER.USER,
   Reg.KEY_STATUS.FUSE_OK,
   Reg.KEY_STATUS.LOADED,
   Reg.KEY_STATUS.BUSY,
   Reg.KEY_STATUS.ACTIVE,
   Reg.KEY_STATUS.PENDING,
   Reg.KEY_INT.DENY,
   Reg.KEY_INT.LOAD_FAIL,
   Reg.KEY_INT.DISCARD,
   Reg.KEY_INT.FLASH_ERR,
   Reg.KEY_INT.EN,
   Reg.KEY_DENY.SLOT,
   Reg.KEY_DENY.ENGINE,
   Reg.KEY_DENY.REASON,
   Reg.KEY_CNT_DENY.N,
   Reg.LOG_STATUS.FULL,
   Reg.LOG_STATUS.FLUSH_READY,
   Reg.LOG_STATUS.INTAKE,
   Reg.LOG_MIR_SEQ.SEQ]

def regFieldsE2 : List Field :=
  [Reg.LOG_INT.FULL,
   Reg.LOG_INT.MEM_FAULT,
   Reg.LOG_INT.FAILED,
   Reg.LOG_INT.INTAKE_OVF,
   Reg.LOG_INT.FLUSH_DONE,
   Reg.LOG_INT.FLUSH_SKIP,
   Reg.LOG_INT.EN,
   Reg.LOG_SEQ.SEQ,
   Reg.LOG_USED.BYTES,
   Reg.LOG_CNT_INTAKE.N,
   Reg.LOG_CNT_FULL.N,
   Reg.LOG_HEALTH0.STATE,
   Reg.LOG_HEALTH0.FENCED,
   Reg.LOG_HEALTH0.TRANS,
   Reg.LOG_HEALTH1.FIRST,
   Reg.LOG_HEALTH1.LAST,
   Reg.LOG_HEALTH2.LASTING,
   Reg.LOG_HEALTH2.WFAIL,
   Reg.LOG_RD_START.SEQ,
   Reg.LOG_RD_CTRL.RING,
   Reg.LOG_RD_CTRL.FOLLOW,
   Reg.LOG_RD_CTRL.GO,
   Reg.LOG_RD_CTRL.STOP,
   Reg.LOG_RD_STAT.RUN,
   Reg.LOG_RD_STAT.STATUS,
   Reg.LOG_RD_NEXT.SEQ,
   Reg.LKO_CTRL.EN,
   Reg.LKO_INT.OVER,
   Reg.LKO_INT.CFG_REJ,
   Reg.LKO_INT.EN,
   Reg.LKO_SNAP.PROBE,
   Reg.LKO_SNAP.ALL,
   Reg.LKO_SNAP.CLEAR,
   Reg.LKO_SNAP.GO,
   Reg.LKO_OVER0.P,
   Reg.LKO_OVER1.P,
   Reg.LKO_CNT_LOST.N,
   Reg.CMP_CTRL.EN,
   Reg.CMP_STATUS.BUSY,
   Reg.CMP_STATUS.SLOTS,
   Reg.CMP_INT.FAIL,
   Reg.CMP_INT.LIMIT,
   Reg.CMP_INT.PARITY,
   Reg.CMP_INT.EN,
   Reg.CMP_DLIM.MAX_RATIO,
   Reg.CMP_DMAX.MAX_OUT,
   Reg.CMP_CNT_JOBS.N,
   Reg.CMP_CNT_FAIL.N,
   Reg.CMP_CNT_LIMIT.N,
   Reg.CMP_CNT_OUTFULL.N,
   Reg.MGT_STATUS.LINK,
   Reg.MGT_STATUS.SPEED,
   Reg.MGT_INT.LINK_CHG,
   Reg.MGT_INT.EN,
   Reg.T_CCHAN.KIND,
   Reg.T_CCHAN.INDEX,
   Reg.T_CCHAN.BUS,
   Reg.T_CCHAN.FIELD,
   Reg.T_CCHAN.DIGITAL,
   Reg.T_CCHAN.MASK]

def regFieldsE3 : List Field :=
  [Reg.T_CCHAN.MASK_EN,
   Reg.T_CTRIG.VALID,
   Reg.T_CTRIG.SRC,
   Reg.T_CTRIG.COND,
   Reg.T_CTRIG.INTERP,
   Reg.T_CTRIG.ENG,
   Reg.T_CTRIG.INDEX,
   Reg.T_CTRIG.BUS,
   Reg.T_CTRIG.FIELD,
   Reg.T_CTRIG.SVCH,
   Reg.T_CTRIG.HI,
   Reg.T_CTRIG.LO,
   Reg.T_CTRIG.MASK,
   Reg.T_CTRIG.HYST,
   Reg.T_CMASK.VALID,
   Reg.T_CMASK.NPT,
   Reg.T_CMASK.NANFAIL,
   Reg.T_CMASKP.W,
   Reg.T_CTSTAT.FIRES,
   Reg.T_CTSTAT.LAST,
   Reg.T_CTSTAT.X_P,
   Reg.T_THREAD.VALID,
   Reg.T_THREAD.CPU,
   Reg.T_THREAD.PRIO,
   Reg.T_THREAD.USER,
   Reg.T_THSTAT.STATE,
   Reg.T_THSTAT.SPILLED,
   Reg.T_THSTAT.WAIT,
   Reg.T_THSTAT.TMO,
   Reg.T_THSTAT.TARGET,
   Reg.T_THSTAT.ARG,
   Reg.T_THSTAT.WAKES,
   Reg.T_KSLOT.STATE,
   Reg.T_KSLOT.PERSIST,
   Reg.T_KSLOT.LEN,
   Reg.T_KSLOT.DEPTH,
   Reg.T_KSLOT.PARENT,
   Reg.T_KSLOT.P_VERIFIED,
   Reg.T_KSLOT.USAGE,
   Reg.T_KSLOT.PUSAGE,
   Reg.T_KSLOT.KEYID,
   Reg.T_KSLOT.GEN,
   Reg.T_KSLOT.PGEN,
   Reg.T_KSLOT.USES,
   Reg.T_KSLOT.DENIED,
   Reg.T_LIMIT.RATE,
   Reg.T_LIMIT.BURST,
   Reg.T_LIMIT.OFF,
   Reg.T_LIMIT.DROPS,
   Reg.T_PROBE.EN,
   Reg.T_PROBE.KIND,
   Reg.T_PROBE.MODE,
   Reg.T_PROBE.INDEX,
   Reg.T_PROBE.BASE,
   Reg.T_PROBE.WIDTH,
   Reg.T_PROBE.LIMIT,
   Reg.T_PSNAP.W,
   Reg.T_MSIX.ADDR_LO,
   Reg.T_MSIX.ADDR_HI,
   Reg.T_MSIX.DATA]

def regFieldsE4 : List Field :=
  [Reg.T_MSIX.MASK,
   Reg.T_MSIXPBA.P]

/-- Every field of this file. -/
def regFieldsE : List Field :=
  regFieldsE0 ++ regFieldsE1 ++ regFieldsE2 ++ regFieldsE3 ++ regFieldsE4

/-- The words of this file whose Reset value is not zero. -/
def regResetsE : List (RegAt × Nat) :=
  [(At.CAP_ENGn_CFG, 0x32010000),
   (At.CAP_ENGn_AVG, 0x10001),
   (At.HIF_CTRL, 0x1),
   (At.HIF_FENCE, 0x3E8),
   (At.DSP_TICK, 0x64),
   (At.DSP_CPUc_CFG, 0x2),
   (At.LOG_RD_START, 0x1),
   (At.CMP_DLIM, 0x100),
   (At.CMP_DMAX, 0x10000),
   (At.T_MSIX_3, 0x1)]

/-- Reset words of the table windows that are not zero. -/
def tableResets : List (RegAt × Nat) := [(At.T_LIMIT_0, 0x200010)]

end Sys2Proof
end

