-- ==== Sys2Proof/Machine/RegFile.lean ====
section
/-!
DEFINITION. The register file: every register and table-window word of BAR0, held sparsely against its reset
word, and the reading, writing and resetting of fields (R3, R4, R632, Tables SCP-3 and SCP-4).
-/

namespace Sys2Proof

/-- Every field the register tables and the table windows give. -/
def allFields : List Field := regFieldsA ++ regFieldsB ++ regFieldsC ++ regFieldsD ++ regFieldsE

/-- The registers below the table windows whose reset word is not zero. -/
def regResets : List (RegAt × Nat) := regResetsA ++ regResetsB ++ regResetsC ++ regResetsD ++ regResetsE

/-- The word an address holds after a power-on reset (R3). -/
def resetWord (a : Nat) : Word32 :=
  match (if a < 0x200000 then regResets else tableResets).find? (fun e => (e.1.index? a).isSome) with
  | some e => BitVec.ofNat 32 e.2
  | none => 0

/-- The register file: BAR0 byte address to word. -/
abbrev RegFile := FMap Word32

/-- The word at an address. -/
def rword (m : RegFile) (a : Nat) : Word32 := fmAt resetWord m a

/-- Put a word at an address. -/
def rput (m : RegFile) (a : Nat) (w : Word32) : RegFile := fmPut resetWord m a w

/-- The bits of a field in a word, as a number. -/
def Field.ofWord (f : Field) (w : Word32) : Nat := (w.toNat >>> f.lo) % 2 ^ f.width

/-- A word with the bits of one field replaced. -/
def Field.inWord (f : Field) (w : Word32) (v : Nat) : Word32 :=
  (w &&& ~~~f.mask) ||| (BitVec.ofNat 32 ((v % 2 ^ f.width) * 2 ^ f.lo))

/-- The value of a field of instance `i`. -/
def fget (m : RegFile) (f : Field) (i : Nat) : Nat := f.ofWord (rword m (f.reg.addr i))

/-- Write a field of instance `i`. -/
def fput (m : RegFile) (f : Field) (i : Nat) (v : Nat) : RegFile :=
  rput m (f.reg.addr i) (f.inWord (rword m (f.reg.addr i)) v)

/-- The fields that lie in the word at an address. -/
def fieldsAt (a : Nat) : List Field := allFields.filter fun f => (f.reg.index? a).isSome

/-- The bits of a word that the given fields cover. -/
def maskOf (fs : List Field) : Word32 := fs.foldl (fun m f => m ||| f.mask) 0

/-- What a reset or Doze is, for the Keeps column (Table SCP-4): a host reset, a soft reset, a reset of the
field's own island, or Doze. -/
inductive ResetKind where
  | hrst | srst | irst | doze
  deriving DecidableEq, Repr

/-- Does a field keep its value across this reset? -/
def Keeps.keeps (k : Keeps) : ResetKind → Bool
  | .hrst => k.h
  | .srst => k.s
  | .irst => k.i
  | .doze => k.d

/-- The word at an address after a reset: the kept fields stay, the others take their Reset value (R4). -/
def wordAfter (k : ResetKind) (a : Nat) (w : Word32) : Word32 :=
  let keep := maskOf ((fieldsAt a).filter fun f => f.keeps.keeps k)
  (w &&& keep) ||| (resetWord a &&& ~~~keep)

/-- Reset the registers of the addresses chosen (R4). -/
def resetRegs (k : ResetKind) (here : Nat → Bool) (m : RegFile) : RegFile :=
  (m.map fun e => if here e.1 then (e.1, wordAfter k e.1 e.2) else e).filter fun e => e.2 != resetWord e.1

end Sys2Proof
end

