-- ==== Sys2Proof/Machine/StCore.lean ====
section
/-!
DEFINITION. State of the AON island and of the host island beside their registers: grid time, the timekeeper, the
Logbook, the rings, MSI-X and the accesses of BAR0.
-/

namespace Sys2Proof.Machine

open Sys2Proof

/-- Grid time: the counter in units of 2^-46 ns, so that the tick of R34 is exact, and the 4 ns ticks of the
undisciplined AON clock since power-on. -/
structure Time where
  cnt : Nat
  ticks : Nat
  deriving DecidableEq, Repr, Inhabited

/-! ## Logbook -/

/-- An event on its way to the Logbook: its code, instance, DETAIL and DETAIL2 (R570, R571), or the payload words of
a record that carries its own (code 304). -/
structure LogEv where
  code : Nat
  inst : Nat
  det : Nat
  det2 : Nat
  payload : List Word32
  deriving DecidableEq, Repr, Inhabited

/-- An event in the 64-entry intake, with its instant N (R575). -/
structure LogItem where
  ev : LogEv
  t : Nat
  deriving DecidableEq, Repr, Inhabited

/-- One record of the Logbook memory (Table LOG-4) and where it lies. -/
structure LogRec where
  seq : Nat
  ev : LogEv
  drops : Nat
  t : Nat
  rewritten : Bool
  region : Nat
  ofs : Nat
  deriving DecidableEq, Repr, Inhabited

/-- The token bucket of a code (R574): its tokens, absent while it stands as POR left it; the start of its token clock, the
tokens given since that start, the rate it runs at, and whether it runs. -/
structure Bucket where
  tokens : Option Nat
  start : Nat
  given : Nat
  rate : Nat
  run : Bool
  deriving DecidableEq, Repr, Inhabited

/-- The Logbook memory and its writer. `region` and `ofs` are the next free place; `attempts` counts the failed
writes of the record in hand (R580); `lasting` lists the words with a lasting fault. -/
structure Logbook where
  intake : List LogItem
  records : List LogRec
  region : Nat
  ofs : Nat
  seq : Nat
  full : Bool
  failed : Bool
  attempts : Nat
  fenced : List Nat
  lasting : List Nat
  /-- the word the scrub reads next, and the words it reads again (R581, R582) -/
  scrub : Nat
  again : List Nat
  buckets : FMap Bucket
  pend : FMap Nat
  deriving DecidableEq, Repr, Inhabited

/-- The host's Logbook reader (R583 to R587). -/
structure LogReader where
  next : Nat
  stop : Nat
  follow : Bool
  ring : Nat
  caught : Bool
  buf : List LogRec
  since : Nat
  deriving DecidableEq, Repr, Inhabited

/-- The Logbook's areas of the flash (R588, R589, R660, R661): whether a flush runs, the records of the flush area, its
header (first and last SEQ, T of the edge, LOG_HEALTH.STATE), whether any byte of it has been written since it was
erased, and the circular mirror. -/
structure Flush where
  running : Bool
  area : List LogRec
  header : Option (Nat × Nat × Nat × Nat)
  tEdge : Nat
  dirty : Bool
  mirror : List LogRec
  deriving DecidableEq, Repr, Inhabited

/-- A Lookout probe's accumulators (R590). -/
structure Probe where
  count : Nat
  low : Int
  high : Int
  sum : Int
  bins : FMap Nat
  deriving DecidableEq, Repr, Inhabited

/-! ## Rings -/

/-- A descriptor taken from host memory and not started (R467). -/
structure Taken where
  idx : Nat
  words : DescWords
  /-- its token wait is over -/
  released : Bool
  deriving DecidableEq, Repr, Inhabited

/-- A buffer the host has posted on a device-to-host ring (R472); a descriptor that gives none holds its place with the
status it will complete with (R8, R471). -/
structure Posted where
  idx : Nat
  tag : Nat
  irq : Bool
  addr : Nat
  len : Nat
  st : Nat
  deriving DecidableEq, Repr, Inhabited

/-- A completion that is owed: the work has ended and the completion waits to be written (R467). -/
structure Owed where
  idx : Nat
  tag : Nat
  status : Nat
  more : Bool
  len : Nat
  ext : List Byte
  ord : Bool
  irq : Bool
  sig : Option Nat
  /-- field port whose stamp queue entry this completion frees (R142) -/
  stampPort : Option Nat
  deriving DecidableEq, Repr, Inhabited

/-- A ring as the device holds it after reading its control block (R462). -/
structure Ring where
  dbase : Nat
  cbase : Nat
  log2 : Nat
  cls : Nat
  vec : Nat
  poll : Bool
  irqEn : Bool
  modCnt : Nat
  modTime : Nat
  prod : Nat
  ccons : Nat
  /-- the control block's DROP, wrapping -/
  drop : Nat
  taken : List Taken
  /-- descriptors started and not yet owed a completion -/
  started : List (Nat × DescWords)
  posted : List Posted
  owed : List Owed
  /-- index of a FENCE that has started and whose completion is not written -/
  fence : Option Nat
  /-- local time at which the head descriptor became the head -/
  headSince : Nat
  lastPoll : Nat
  modCount : Nat
  modSince : Option Nat
  deriving DecidableEq, Repr, Inhabited

/-- A completion as written (Table HIF-5). -/
structure Compl where
  tag : Nat
  status : Nat
  phase : Nat
  more : Bool
  didx : Nat
  len : Nat
  t : Nat
  ext : List Byte
  deriving DecidableEq, Repr, Inhabited

/-- One write to host memory (R478). -/
inductive HostWrite where
  | data (addr : Nat) (bytes : List Byte) (relaxed : Bool)
  | completion (addr : Nat) (c : Compl)
  | writeBack (addr dcons cprod drop : Nat)
  | message (vec : Nat)
  deriving DecidableEq, Repr

/-- State of the HST island beside its registers. -/
structure Hif where
  rings : FMap Ring
  /-- writes to host memory, oldest first -/
  sent : List HostWrite
  /-- vectors with a requested message (R487) -/
  msgReq : List Nat
  msixEn : Bool
  funcMask : Bool
  /-- R490: the link has been down and no heartbeat has arrived since -/
  linkHold : Bool
  lastHb : Nat
  /-- HST answers configuration requests with CRS (R663) -/
  crs : Bool
  /-- the link trains since this local time -/
  training : Option Nat
  deriving DecidableEq, Repr, Inhabited

/-- What an access path read last, and its shadows (R5 to R7): per pair, the latched high half and whether a low
half has been read since the last high half. -/
structure PathSt where
  rd : Word32
  shadow : FMap Nat
  fresh : FMap Nat
  deriving DecidableEq, Repr, Inhabited

/-- A compression lane's job (R596): whether it runs, its descriptor with its ring and index, its STAGE slot, its source
bytes, where a lasting Hamper fault cuts them, and whether a Hamper quadrant it reads was in reset (R21). -/
structure CmpJob where
  busy : Bool
  ring : Nat
  idx : Nat
  words : DescWords
  slot : Option Nat
  src : List Byte
  cut : Option Nat
  aborted : Bool
  deriving DecidableEq, Repr, Inhabited

/-! ## Timekeeper -/

/-- A reference slot (R46 to R51, R73, R74): sums of the samples of this servo interval in quarter nanoseconds, what
was heard, the filtered figures, the source's error and traceability, and the path steps found in this interval. -/
structure RefSt where
  sumQ : Int
  cnt : Nat
  heard : Bool
  discarded : Nat
  discSum : Int
  /-- a servo interval has begun since the source was set -/
  armed : Bool
  /-- a sample has been heard since the source was set -/
  known : Bool
  /-- the whole intervals since a sample was heard, up to 3 -/
  silent : Nat
  discRun : Nat
  mean : Option Int
  filt : Option Int
  /-- the filtered offset before the last interval -/
  filtPrev : Option Int
  /-- the offset after the last path step of this interval -/
  jump : Option Int
  filtRtd : Option Nat
  err : Option Nat
  traceable : Bool
  pathSteps : List (Int × Int)
  deriving DecidableEq, Repr, Inhabited

/-- A comparison of R75 to R79. -/
structure AsymCmp where
  stepped : Nat
  second : Nat
  dO : Int
  left : Nat
  /-- the stepped reference was the active one -/
  onActive : Bool
  /-- the second reference's filtered offset before the comparison began -/
  secondStart : Int
  secondLast : Int
  relSum : Int
  relCnt : Nat
  unconfirmed : Bool
  /-- the servo interval in which it began -/
  startUpd : Nat
  deriving DecidableEq, Repr, Inhabited

/-- PTP state of a port: its state and the version of its templates and datasets as Xaorn last left them (R52), the grandmaster
of its last Announce (R54), the fields of the Announce last sent (R53), the messages received in the current second (R57), the
discards, the messages sent by type, and the residence of each type's last event message that left in two-step mode, in units of
2^-16 ns (R55, R164). -/
structure PtpPort where
  state : PtpState
  tmpl : Nat
  gm : Option PtpGm
  announced : Option (Nat × Nat × Option Nat)
  second : Nat
  count : Nat
  authFail : Nat
  flooded : Nat
  sent : FMap Nat
  residence : FMap Int
  deriving DecidableEq, Repr, Inhabited

/-- The TIN inputs (R58 to R63). -/
structure TinSt where
  lastEdge : Option Nat
  lastLabel : Option Int
  /-- the last frame's label and its on-time mark, waiting for its edge -/
  label : Option (Nat × Nat)
  extQ : Option Nat
  utc : Option UtcInfo
  deriving DecidableEq, Repr, Inhabited

/-- State of the timekeeper beside its registers. Frequency words count 2^-48; `integ` counts 2^-80. -/
structure Tkp where
  freq : Int
  freqHeld : Nat
  freqNext : Option Int
  stepNext : Int
  slew : Int
  slewRem : Nat
  adjVal : Int
  refs : FMap RefSt
  integ : Int
  lockCnt : Nat
  unlockCnt : Nat
  lastUpd : Nat
  /-- instant at which LOCKED or HOST was last left -/
  leftLock : Option Nat
  wasLocked : Bool
  /-- HOLDOVER: the error at entry and its instant (R72) -/
  hoErr : Option Nat
  hoFrom : Nat
  hoWords : List Int
  cmp : List AsymCmp
  /-- |Δo| added to e by R75 -/
  asymErr : Nat
  clearSuspect : List Nat
  hostLast : Nat
  /-- SERVO went from 0 to 2 and the host has not written since (R665) -/
  hostWait : Bool
  /-- the host watchdog has expired since the last host write (R69) -/
  tmoSeen : Bool
  /-- the active reference has changed and its offset is being pulled in (R49) -/
  pullIn : Bool
  /-- STMODE as the last tick took it (R39) -/
  extend : Bool
  /-- GLB_SPLIT.SERVO as the servo last acted on it (Table ARC-6) -/
  mode : Nat
  ptp : FMap PtpPort
  tin : TinSt
  leapAt : Option Nat
  /-- the UTC day at whose end the pending leap comes (R89) -/
  leapDay : Nat
  /-- the TAI second from which the last leap's offset holds, and the change of the offset (R90) -/
  lastLeap : Option (Nat × Int)
  /-- the TAI second that an inserted leap second made, whose SOC repeats that of the second before (R90) -/
  twin : Option Nat
  ppsEnd : Option Nat
  ppsLast : Nat
  deriving DecidableEq, Repr, Inhabited

end Sys2Proof.Machine
end

