-- ==== Sys2Proof/Machine/StAlign.lean ====
section
/-!
DEFINITION. State of Roll Call and of the outputs beside their registers and tables.
-/

namespace Sys2Proof.Machine

open Sys2Proof

/-- A block that ingest or a local group hands to Roll Call, or the report of a future frame (R195, R193): its source, its
instant as a second and an index on the source's rate grid, its arrival in grid nanoseconds, STAT, FLAGS (Table ALN-3) and
words. -/
structure AlnBlk where
  src : Nat
  sec : Nat
  idx : Nat
  rate : Nat
  arrNs : Nat
  stat : Nat
  flags : Nat
  words : List Word32
  future : Bool
  deriving DecidableEq, Repr, Inhabited

/-- A source region as delivered to a consumer (Table ALN-2). -/
structure Region where
  src : Nat
  stat : Nat
  arr : Nat
  flags : Nat
  words : List Word32
  deriving DecidableEq, Repr, Inhabited

/-- An open spread: its number of periods since the TAI epoch, the sources due, those present, those with a future report,
and those whose degraded frame was not written (R229, R231). -/
structure Spread where
  k : Nat
  due : List Nat
  present : List Nat
  future : List Nat
  tqDrop : List Nat
  deriving DecidableEq, Repr, Inhabited

/-- An output: the instant it was enabled, its lag in spread periods, its IP identification and its SPDU number (R243, R244,
R248, R249). -/
structure OutSt where
  since : Nat
  lag : Nat
  ipId : Nat
  spdu : Nat
  deriving DecidableEq, Repr, Inhabited

/-- State of alignment. `last` is the instant of the last closed spread; `drain` holds when spreads opened before ALIGN left
1 still close (R255); `nextK` is the first instant that time has not opened and `firstK` the first since the start; `open_`
rises; `held` lists the closed spreads whose slots are not released, with their SEQ; `awaitFrom` and `validAt` are per source
(R221, R234); `attrLog` holds replaced attribute words with the time of the write (R258); `hist` holds the regions of the
spreads closed last, newest first, as the output filters took them; `dlv` the records given to a ring, with the spread of a
spread record, the ring and the descriptor's index (R238, R260). -/
structure Aln where
  last : Option Nat
  drain : Bool
  nextK : Nat
  firstK : Nat
  closedK : Option Nat
  open_ : List Spread
  held : List (Nat × Nat)
  seq : Nat
  lag : Nat
  awaitFrom : FMap Nat
  validAt : FMap Nat
  attrLog : List (Nat × Nat × Word32)
  lateSec : Option Nat
  inq : List AlnBlk
  hist : List (Nat × List Region)
  outs : FMap OutSt
  dlv : List (Option Nat × Nat × Nat)
  deriving DecidableEq, Repr, Inhabited

end Sys2Proof.Machine
end

