-- ==== Sys2Proof/Machine/StCapture.lean ====
section
/-!
DEFINITION. State of capture beside its registers and tables.
-/

namespace Sys2Proof.Machine

open Sys2Proof

/-- An instant as an exact fraction of seconds since the TAI epoch. -/
structure Inst where
  num : Nat
  den : Nat
  deriving DecidableEq, Repr, Inhabited

/-- One record of the decoded-field bus (R205): bus 0 source slot, 1 SV stream, 2 GOOSE subscription; its number; the
instant of its values; when it was placed, in grid nanoseconds; and its fields as (field ID of Table ING-7, word,
whether the word is a binary32). The quality of SV channel c stands under 95 + c. -/
structure BusRec where
  bus : Nat
  index : Nat
  inst : Inst
  placed : Nat
  vals : List (Nat × Word32 × Bool)
  deriving DecidableEq, Repr, Inhabited

/-- A channel of an armed engine: its entry, its sample rate, its averaging, its counts of blocks, the word offset of its
area in the slice; the block being formed and its values so far; the first and last block written circularly; the
first block of the record and the next one to record; and for a decoded field the records not yet sampled. -/
structure CapChan where
  entry : Nat
  rate : Nat
  avg : Nat
  npre : Nat
  ntot : Nat
  base : Nat
  cur : Nat
  acc : List Word32
  circ : Option (Nat × Nat)
  first : Nat
  next : Nat
  latest : List (Nat × Word32)
  deriving DecidableEq, Repr, Inhabited

/-- State of an engine: its channels as armed, the arming instant, whether the arm was late, whether a spread word was
unavailable (R431), triggers on their way, the collection in progress, the definitions taken in with their instants, the
record's t_trig, its flags, its first violation, late triggers, record numbers, the instant of completion, its bytes
and those delivered, and the next frame instant. -/
structure CapEng where
  chans : List CapChan
  armT : Nat
  late : Bool
  noSpread : Bool
  inbox : List (Nat × Inst)
  collAt : Option Nat
  collK : Nat
  defs : List (Nat × Inst)
  trig : Option Inst
  histShort : Bool
  viol : Option (Nat × Nat × Nat)
  tlater : Nat
  seq : Nat
  doneT : Nat
  len : Nat
  pos : Nat
  frmK : Nat
  deriving DecidableEq, Repr, Inhabited

/-- A lane's region of RAWHIST (R426): word offset and size, the position of its last synchronising restart or of the
first sample after the layout, and the newest position written. Of a lane without a region (R98) `recent` holds the newest
sample, and every sample accepted since while an engine records. -/
structure CapRegion where
  lane : Nat
  fs : Nat
  base : Nat
  size : Nat
  start : Option Nat
  newest : Option Nat
  recent : List (Nat × Word32)
  deriving DecidableEq, Repr, Inhabited

/-- State of capture: the engines, the RAWHIST layout, and per definition its previous valid value with its instant. -/
structure Cap where
  eng : FMap CapEng
  layout : List CapRegion
  prev : FMap (Option (Word32 × Inst))
  deriving DecidableEq, Repr, Inhabited

end Sys2Proof.Machine
end

