-- ==== Sys2Proof/Machine/StDaxide.lean ====
section
/-!
DEFINITION. State of the Daxide fabric beside its registers and tables.
-/

namespace Sys2Proof.Machine

open Sys2Proof

/-- The de-duplication window of an origin and TYPE (R526): the highest SEQ accepted and, bit i, whether SEQ
high − 1 − i has been accepted. -/
structure DxWin where
  seen : Bool
  high : Nat
  mask : Nat
  deriving DecidableEq, Repr, Inhabited

/-- A RELAY or MGMT frame held until its next hop acknowledges it (R541): what names it, its destination, its bytes'
count and place in the RELAY partition (word offset), when it was first and last sent, the link it last left on, and
whether it has left at all, so that it goes again with RETX. -/
structure DxHeld where
  typ : Nat
  origin : Nat
  seq : Nat
  dest : Nat
  count : Nat
  ofs : Nat
  first : Nat
  last : Nat
  link : Option Nat
  left : Bool
  deriving DecidableEq, Repr, Inhabited

/-- A frame sent on a DL link: the link, header and payload, the key of its tag, whether it ended with a good FCS
(R531), and the zeros after its tag (R518). -/
structure DxSent where
  link : Nat
  bytes : List Byte
  tagKey : Option Nat
  good : Bool
  pad : Nat
  deriving DecidableEq, Repr

/-- A time exchange whose T3 is still to come (R548): the REQ's SEQ, t1, t2 and t4 in quarter nanoseconds. -/
structure DxExch where
  seq : Nat
  t1 : Nat
  t2 : Nat
  t4 : Nat
  deriving DecidableEq, Repr, Inhabited

/-- State of a link: when a KEEPALIVE was last received and sent, whether its partner hears us, the millisecond of
R546 and the frames in it, the REQs sent and not answered with their departures, the exchanges that wait for T3, the
departure of the last RESP sent with its REQSEQ, when a REQ was last sent, the last 64 values of o, and GM_NODE and
STEPS of the last RESP received. -/
structure DxLink where
  kaRx : Option Nat
  kaTx : Option Nat
  heard : Bool
  ms : Nat
  msCnt : Nat
  reqs : FMap Nat
  exchs : List DxExch
  respT3 : Option (Nat × Nat)
  reqTx : Option Nat
  offs : List Int
  gm : Option (Nat × Nat)
  deriving DecidableEq, Repr, Inhabited

/-- State of the fabric: the links; per origin its BOOT, its windows (origin × 8 + TYPE) and when a TOKEN or BEACON of
it was last taken; this node's SEQ by TYPE; the held frames, oldest first; when each remote alarm entry was made valid;
records dropped since the last one written; the last beacon; frames sent on DL links; MGMT payloads handed to Xaorn. -/
structure Dxl where
  links : FMap DxLink
  boots : FMap (Option Nat)
  wins : FMap DxWin
  heardAt : FMap Nat
  seqs : FMap Nat
  held : List DxHeld
  since : FMap Nat
  dropped : Nat
  beaconAt : Nat
  sent : List DxSent
  mgmtIn : List (Nat × Bool × List Byte)
  deriving DecidableEq, Repr, Inhabited

end Sys2Proof.Machine
end

