-- ==== Sys2Proof/Machine/StDsp.lean ====
section
/-!
DEFINITION. State of Dispatch beside its registers and tables.
-/

namespace Sys2Proof.Machine

open Sys2Proof

/-- A pending DELAY or WAIT of a thread: its descriptor, what it waits for (coded as WAIT of Table DSP-14: 1 time,
2 close, 3 alarm), ARG with the epoch of the descriptor, and EDGE. -/
structure ThWait where
  ring : Nat
  idx : Nat
  kind : Nat
  arg : Nat
  epoch : Nat
  edge : Nat
  deriving DecidableEq, Repr, Inhabited

/-- Whose timed target it is: a thread's, or a TIMER's with its descriptor and token. -/
inductive TimedOwner where
  | thread (t : Nat)
  | timer (ring idx tok : Nat)
  deriving DecidableEq, Repr

/-- A pending timed target (R505): its owner, target, epoch and tolerance, whether it lies in the spill area now and
whether it ever did. -/
structure TimedEnt where
  own : TimedOwner
  target : Nat
  epoch : Nat
  tol : Nat
  spilled : Bool
  wasSpilled : Bool
  deriving DecidableEq, Repr

/-- State of Dispatch: pending waits by thread, the ready lists by processor × 64 + priority, the READY threads whose
entries lie in the spill area, the pending targets, the tick acted on last, and the interrupts raised to Xaorn by
processor. -/
structure Dsp where
  waits : FMap (Option ThWait)
  ready : FMap (List Nat)
  spilledReady : List Nat
  timed : List TimedEnt
  lastTick : Nat
  xaornIrq : FMap Nat
  deriving DecidableEq, Repr, Inhabited

end Sys2Proof.Machine
end

