-- ==== Sys2Proof/Machine/StIngest.lean ====
section
/-!
DEFINITION. State of ingest beside its registers and tables.
-/

namespace Sys2Proof.Machine

open Sys2Proof

/-- A frame at an ingest input: where it came in, its arrival in quarter nanoseconds (R171), and whether a MACsec check
has failed on it (R162). -/
structure InFrame where
  input : Nat
  arrQ : Nat
  frame : RxFrame
  unverified : Bool
  deriving DecidableEq, Repr

/-- An injected frame that waits for the intake buffer (R475): its descriptor and its stamp, if valid. -/
structure Inject where
  ring : Nat
  idx : Nat
  arrQ : Option Nat
  frame : RxFrame
  deriving DecidableEq, Repr

/-- What ingest remembers of a source: the 100 ms window of R182 as the arrivals in it, the second of its last logged
rate discard plus 1, STAT bit 10 of the last accepted block (R198) and since when it has been clear. -/
structure SrcSt where
  window : List Nat
  rateLog : Nat
  bit10 : Bool
  clearSince : Nat
  deriving DecidableEq, Repr, Inhabited

/-- State of a GOOSE subscription (R201, R203): stNum and sqNum of the last accepted frame and the local time at which
its time-allowed-to-live ends. -/
structure GooseSt where
  heard : Bool
  stNum : Nat
  sqNum : Nat
  talEnd : Nat
  expired : Bool
  state : Word32
  deriving DecidableEq, Repr, Inhabited

/-- State of ingest: the frames at its inputs, the intake buffer, the input served last, the frames of this
millisecond by input, what was forwarded to the host in this second, the frames parsed in this second, what it
remembers of sources and subscriptions, the SPDU numbers by key material, and the state words of TYPE 5 sources
(source × 64 + word) with, by source, the ST32 of their last change. -/
structure Ing where
  inq : FMap (List InFrame)
  injq : List Inject
  buf : List InFrame
  bytes : Nat
  turn : Nat
  ms : Nat
  msCnt : FMap Nat
  msSeen : Bool
  second : Nat
  hostCnt : Nat
  fps : Nat
  src : FMap SrcSt
  goose : FMap GooseSt
  spduNum : FMap Nat
  words : FMap Word32
  /-- CFG-3 frames in hand by IDCODE: the CONT_IDX that comes next, and what the frames so far carry (R196) -/
  cfg3 : FMap (Nat × List Byte)
  changed : FMap Nat
  deriving DecidableEq, Repr, Inhabited

end Sys2Proof.Machine
end

