-- ==== Sys2Proof/Machine/StRules.lean ====
section
/-!
DEFINITION. State of the rule engines, of the alarm pins and of the GOOSE templates beside their registers and tables.
-/

namespace Sys2Proof.Machine

open Sys2Proof

/-- The value of an operand: a binary64, or a NaN with its invalid code (R339, R340). -/
inductive RVal where
  | num (x : Word64)
  | bad (code : Word32)
  deriving DecidableEq, Repr, Inhabited

/-- An area's values (R344). -/
structure AreaV where
  valid : Bool
  nvalid : Nat
  f : RVal
  a : RVal
  deriving DecidableEq, Repr, Inhabited

/-- A pair (Table RUL-6): state 0 INVALID, 1 NORMAL, 2 SUSPECT, 3 SEPARATED; whether it was SEPARATED when it became
INVALID. -/
structure PairV where
  state : Nat
  was : Bool
  count : Nat
  neg : Bool
  base : RVal
  df : RVal
  da : RVal
  deriving DecidableEq, Repr, Inhabited

/-- A quick detector: its filter, its counts and its envelope (R349 to R351). -/
structure DetV where
  x1 : Word64
  x2 : Word64
  y1 : Word64
  y2 : Word64
  e2 : Word64
  hold : Nat
  settle : Nat
  active : Bool
  env : RVal
  deriving DecidableEq, Repr, Inhabited

/-- A rule's state; `hist` holds its rate history, newest first, with the instants in spread periods (R357, R359). -/
structure RuleV where
  active : Bool
  acked : Bool
  met : Bool
  eval : Bool
  pc : Nat
  dc : Nat
  x : RVal
  hist : List (Nat × RVal)
  deriving DecidableEq, Repr, Inhabited

/-- One of the two engines. `isl` holds the island number of each area, 64 for none. -/
structure EngV where
  areas : FMap AreaV
  pairs : FMap PairV
  isl : List Nat
  nIsl : Nat
  dets : FMap DetV
  rules : FMap RuleV
  deriving DecidableEq, Repr, Inhabited

/-- A close in the evaluation queue (R337): its spread and the sources due, and the spreads after it that were not taken
because the queue was full. -/
structure EvalItem where
  k : Nat
  inst : Nat
  seq : Nat
  due : List Nat
  skipped : List (Nat × List Nat)
  deriving DecidableEq, Repr, Inhabited

/-- An edge on the action queue (R367): a rule, or INTEGRITY (`none`); 0 falling, 1 rising, 2 acknowledged; the spread; the
binary32 x; ISLANDS; a disagreement in the pass; the rule is LATCHED; ST32 of the decision. -/
structure Edge where
  rule : Option Nat
  kind : Nat
  inst : Nat
  seq : Nat
  x : Word32
  islands : Nat
  dis : Bool
  latched : Bool
  dec : Nat
  /-- edges of one pass, or of one write of RUL_HSTATEj, share a number (R372) -/
  pass : Nat
  deriving DecidableEq, Repr, Inhabited

/-- An alarm pin: since when it is asserted, the end of its pulse, and whether it is latched (R368, R369). -/
structure PinSt where
  since : Option Nat
  pulseEnd : Option Nat
  latched : Bool
  deriving DecidableEq, Repr, Inhabited

/-- A GOOSE template: stNum and sqNum of the last frame, the spread instant of the last change, the members as last sent,
the offset in ms of the last frame from the
change, and the local time of the change (R372). -/
structure TmplSt where
  st : Nat
  sq : Nat
  tInst : Nat
  members : List Bool
  off : Nat
  since : Nat
  spdu : Nat
  deriving DecidableEq, Repr, Inhabited

/-- State of the rules. `latest` holds, per source, its region in the latest evaluated spread in which it was due (R343);
`falling` the rules whose VALID was cleared while ACTIVE, with their last x (R354); `copy1` the words in which engine 1's copy of a table differs
from engine 0's, `badPar` the copies with bad parity (bit 0 engine 0, bit 1 engine 1); `diff` the items, by kind and index, on
which the engines differ in the pass that runs; `mode` is GLB_SPLIT.RULES as it stands in effect and `next`
as the last close took it (Table ARC-6); `integSeen`
holds when RUL_INTEG_STAT has recorded an item and has not been read since; `dropped` the alarm records dropped since the last
one written; `lastInst` and `lastSeq` the spread of the last pass; `passes` numbers the passes. -/
structure Rul where
  e0 : EngV
  e1 : EngV
  latest : FMap (Option Region)
  falling : List (Nat × Word32)
  evalQ : List EvalItem
  actQ : List Edge
  integ : Bool
  integAck : Bool
  integSeen : Bool
  copy1 : FMap Word32
  badPar : FMap Nat
  diff : List (Nat × Nat)
  mode : Nat
  next : Nat
  pins : FMap PinSt
  tmpl : FMap TmplSt
  dropped : Nat
  lastInst : Nat
  lastSeq : Nat
  passes : Nat
  deriving DecidableEq, Repr, Inhabited

end Sys2Proof.Machine
end

