-- ==== Sys2Proof/Machine/StModal.lean ====
section
/-!
DEFINITION. State of the modal engine beside its registers, its tables and the MODAL partition.
-/

namespace Sys2Proof.Machine

open Sys2Proof

/-- A modal lane: its mean, the last valid output of FUNC 2 and 3, the sample being formed (sum and count of the valid
values, the spreads at which the lane was due, the lowest invalid code), and its samples x since the start of the next
segment, `none` for an invalid one (R389 to R393). -/
structure MLane where
  mu : Option Word64
  uPrev : Option Word64
  sum : Word64
  nv : Nat
  nd : Nat
  code : Option Word32
  xs : List (Option Word64)
  deriving DecidableEq, Repr, Inhabited

/-- A segment that is ready: its samples by lane, and the instant of its last sample. -/
structure MSeg where
  xs : List (List (Option Word64))
  last : Nat
  deriving DecidableEq, Repr, Inhabited

/-- Epoch processing or a snapshot that runs (R400, R416): the epoch and its boundary, the segments applied and the ST32 of
the last of their samples, whether it is a snapshot, when it began (local time and ST32), whether the snapshot's header is
written and its next bin, and the registers and slot entries as they stood at the boundary (R421). -/
structure MProc where
  epoch : Nat
  boundary : Nat
  segs : Nat
  lastSeg : Nat
  snap : Bool
  start : Nat
  startSt : Nat
  hdr : Bool
  next : Nat
  cfg : RegFile
  deriving DecidableEq, Repr, Inhabited

/-- A peak (Table MOD-5). -/
structure MPeak where
  freq : Word32
  damp : Word32
  amp : Word32
  conf : Word32
  sep : Word32
  half : Word32
  bin : Nat
  track : Nat
  flags : Nat
  m : Nat
  shape : List Word32
  deriving DecidableEq, Repr, Inhabited

/-- State of the engine: t0 as a TAI second, the number of the segment that forms next, segments ready and not applied,
per bin the segments applied, the bins marked for restart, those whose vectors are those of an earlier epoch, the segments
applied since start and the last of their samples, the number of the last epoch, the processing that runs, the peaks of the
last processed epoch with their tracks, the track counter, a stop that waits, whether the hardware decomposes (the mode in
effect), and whether an epoch with data has been published. -/
structure Mod where
  lanes : FMap MLane
  t0 : Nat
  seg : Nat
  ready : List MSeg
  m : FMap Nat
  marked : List Nat
  hasVec : List Nat
  segs : Nat
  lastSeg : Nat
  epoch : Nat
  proc : Option MProc
  prev : List (Word32 × Nat)
  track : Nat
  stopDue : Bool
  hw : Bool
  data : Bool
  deriving DecidableEq, Repr, Inhabited

end Sys2Proof.Machine
end

