-- ==== Sys2Proof/Machine/StPorts.lean ====
section
/-!
DEFINITION. State of the Hamper and of the field ports beside their registers.
-/

namespace Sys2Proof.Machine

open Sys2Proof

/-! ## Hamper -/

/-- One word of a bank: its value and whether its stored parity is wrong (R100). -/
structure HWord where
  v : Word32
  bad : Bool
  deriving DecidableEq, Repr, Inhabited

/-- One entry of a bank's bad-word map (R104). -/
structure BadWord where
  word : Nat
  cause : HCause
  deriving DecidableEq, Repr

/-- State of the Hamper: its words by word address (A / 4), the bad-word maps by bank, the writes whose two check
reads are still to come (R107), the scrub's next line and the start of its pass. -/
structure Hmp where
  mem : FMap HWord
  maps : FMap (List BadWord)
  checks : FMap Word32
  scrubLine : Nat
  passStart : Nat
  lateSeen : Bool
  deriving DecidableEq, Repr, Inhabited

/-! ## Field ports -/

/-- Who queued a frame for transmission. -/
inductive TxOrigin where
  | desc (ring idx : Nat)
  | output (n : Nat)
  | template (t : Nat)
  | ptp (m : PtpType)
  /-- a message the transparent clock forwards, with its stamp on arrival in quarter nanoseconds -/
  | transparent (m : PtpMsg) (arrQ : Nat)
  | hsrForward
  | daxide (link : Nat)
  | supervision
  | flow
  deriving DecidableEq, Repr

/-- A frame in a transmit queue. `len` counts from the destination address to the FCS, tags included; `fetched` is how
much of it is inside the port, for a frame whose data comes from outside while it is sent (R151); `launch` is target, epoch and
LATE_TOL. -/
structure TxFrame where
  org : TxOrigin
  tc : Nat
  len : Nat
  bytes : List Byte
  launch : Option (Nat × Nat × Nat)
  tsReq : Bool
  fetched : Option Nat
  red : Option RedTag
  deriving DecidableEq, Repr

/-- A frame on the wire: when its first bit after the SFD left, in quarter nanoseconds, and its status so far. -/
structure TxCur where
  frame : TxFrame
  startQ : Nat
  status : Nat
  deriving DecidableEq, Repr

/-- A gate configuration as taken (R133): bank, entries, cycle, extension and base time in TAI nanoseconds. -/
structure GateCfg where
  bank : Nat
  len : Nat
  cycle : Nat
  ext : Nat
  base : Nat
  deriving DecidableEq, Repr, Inhabited

/-- The gates of a port (R132 to R135, R168): the operational configuration, the pending one with its config change
time, a list that restarts after an island reset with its instant, and the entry now running with its start and the ends of the
entry and of the cycle in grid nanoseconds. -/
structure GateSt where
  oper : Option GateCfg
  pend : Option (GateCfg × Nat)
  restart : Option (GateCfg × Nat)
  gates : Nat
  entry : Nat
  entryStart : Nat
  entryEnd : Nat
  cycleEnd : Nat
  deriving DecidableEq, Repr, Inhabited

/-- A receive association (R162): its key slot and lowest acceptable packet number. -/
structure RxSa where
  keySlot : Nat
  valid : Bool
  lowPn : Nat
  deriving DecidableEq, Repr, Inhabited

/-- State of one field port beside its registers. -/
structure Port where
  queues : FMap (List TxFrame)
  cur : Option TxCur
  /-- per class: grid-independent local time at which the pause ends (0: not paused) -/
  pauseEnd : FMap Nat
  pauseSince : FMap Nat
  /-- classes that ignore pause requests (R148), and the last request of each class -/
  storm : List Nat
  lastReq : FMap Nat
  stamps : List (TxOrigin × Nat)
  rxFill : Nat
  /-- a pause has been sent and not released: when it was last sent -/
  pauseSent : Option Nat
  gate : GateSt
  /-- classes whose head is a timed frame in its guard time (R139) -/
  guard : List Nat
  rxSa : FMap RxSa
  sci : FMap Nat
  /-- supervision frames handed to Xaorn, oldest first (R161) -/
  supIn : List RxFrame
  /-- PAUSE and PFC frames that wait for a frame boundary (R149) -/
  flowQ : List TxFrame
  /-- frames sent in loopback and not yet received, each with whether its FCS is good, and the types of the looped PTP messages
  that the PTP engine has not yet received (R666) -/
  looped : List (TxFrame × Bool)
  loopPtp : List PtpType
  /-- frames sent at the balls, oldest first: the frame, its start in quarter nanoseconds, and whether it ended with a
  good FCS (R131) -/
  sent : List (TxFrame × Nat × Bool)
  deriving DecidableEq, Repr, Inhabited

/-- What became of one copy of a paired frame: its status, whether it left on time, and its stamp (R155). -/
structure CopyFate where
  status : Nat
  onTime : Bool
  stamp : Option Nat
  deriving DecidableEq, Repr

/-- A paired frame whose copies have not both left (R155): each copy's fate once known. `some none` means dropped under R156. -/
structure PairWait where
  ring : Nat
  idx : Nat
  words : DescWords
  even : Option (Option CopyFate)
  odd : Option (Option CopyFate)
  deriving DecidableEq, Repr

/-- A key of the discard table (R157). -/
structure DupKey where
  mac : Nat
  seq : Nat
  at_ : Nat
  deriving DecidableEq, Repr

/-- State of a port pair: its sequence number, its discard table, the frames whose copies have not both left, the local time of its
last supervision frame and the version of the template for it as Xaorn last left it (R161). -/
structure PairSt where
  seq : Nat
  supLast : Nat
  supTmpl : Nat
  keys : List DupKey
  waits : List PairWait
  deriving DecidableEq, Repr, Inhabited

end Sys2Proof.Machine
end

