-- ==== Sys2Proof/Machine/StPower.lean ====
section
/-!
DEFINITION. State of resets, clocks, Doze, start-up, the flash and the pins (the chapters on resets and signals).
-/

namespace Sys2Proof.Machine

open Sys2Proof

/-- An island's condition (R19, R21, R612, R620): not started since power-on, accepting requests, in reset, or gated
in Doze. -/
inductive IslMode where
  | off | run | reset | gated
  deriving DecidableEq, Repr, Inhabited

/-- An island: its condition, whether its clock is outside its window (R19), and whether a failed reference clock holds it in
reset (R648). -/
structure IslSt where
  mode : IslMode
  clkBad : Bool
  held : Bool
  deriving DecidableEq, Repr, Inhabited

/-- Doze (R619 to R623). -/
inductive DozePhase where
  | awake | waitKey | entering | asleep | waking
  deriving DecidableEq, Repr, Inhabited

/-- A reset that runs or waits for the end of a wake (R614, R615): island resets, an HRST of either scope, an SRST. -/
inductive ResetReq where
  | none | irst (islands : List Nat) | hrst0 | hrst1 | srst
  deriving DecidableEq, Repr, Inhabited

/-- Power, clocks, resets, Doze, start-up and Xaorn. -/
structure Pwr where
  /-- POR has been released: AON accepts requests -/
  released : Bool
  /-- SYS_RST_N is low, TESTEN is high, Tj has passed the trip level and not the release level -/
  sysRst : Bool
  testEn : Bool
  hot : Bool
  pfwLow : Bool
  perstLow : Bool
  /-- HST is held in reset by a hot reset or an FLR until it is released (R663); the link trains after a hot reset -/
  hstHold : Bool
  hotReset : Bool
  /-- REFCLK and OSC10M are outside their windows; AON runs on the internal oscillator (R648, R649) -/
  refBad : Bool
  oscBad : Bool
  intOsc : Bool
  doze : DozePhase
  /-- when the wake's cause came -/
  wakeFrom : Nat
  /-- a wake cause has arrived during entry -/
  wakeDue : Bool
  /-- the timed wake taken up: target, epoch and LATE_TOL (R622) -/
  timed : Option (Nat × Nat × Nat)
  /-- a reset that waits for the end of a wake (R615) -/
  waiting : ResetReq
  /-- an HRST or SRST that has started and not ended (R614, R617) -/
  wide : ResetReq
  /-- the Xaorn cores execute an image, since this local time -/
  xaornRuns : Bool
  xaornFrom : Nat
  /-- a CHECK has passed since the last WRITE (Table RST-6) -/
  checked : Bool
  /-- an update waits for its report, since `xaornFrom` (R630) -/
  update : Bool
  /-- the image slots of the flash, by slot and offset; an erased byte is `none` -/
  images : FMap (FMap (Option Byte))
  /-- the two boot settings copies of the flash (Table RST-4) -/
  copyA : List Byte
  copyB : List Byte
  deriving DecidableEq, Repr, Inhabited

/-! ## Key store -/

/-- A key with its metadata (Table KEY-1). The value stands for the key material; two keys are the same key when
their values are equal. -/
structure KeyRec where
  material : Nat
  usage : Nat
  long : Bool
  depth : Nat
  parent : Nat
  keyId : Nat
  persist : Bool
  gen : Nat
  deriving DecidableEq, Repr, Inhabited

/-- A slot: its active key, and a pending one with P_VERIFIED. -/
structure KeySlot where
  active : Option KeyRec
  pending : Option (KeyRec × Bool)
  deriving DecidableEq, Repr, Inhabited

/-- A flash copy of a slot (Table KEY-5): the key it holds, whether its GCM tag and its commit record are valid. -/
structure KeyCopy where
  key : KeyRec
  tagOk : Bool
  committed : Bool
  deriving DecidableEq, Repr, Inhabited

/-- A key command that waits for its flash copy (R566): its descriptor, its slot, the new key and whether its check
value has passed. -/
structure KeyCmd where
  ring : Nat
  idx : Nat
  slot : Nat
  key : KeyRec
  verified : Bool
  deriving DecidableEq, Repr, Inhabited

/-- State of the key store. `held` lists the engine, instance and slot of the keys engines hold (R558); `fuseBad`
is the fuses' own condition (R555). -/
structure Keys where
  slots : FMap KeySlot
  copies : FMap (Option KeyCopy)
  held : List (Nat × Nat × Nat)
  fuseBad : Bool
  cmd : Option KeyCmd
  deriving DecidableEq, Repr, Inhabited

end Sys2Proof.Machine
end

