-- ==== Sys2Proof/Machine/StRaw.lean ====
section
/-!
DEFINITION. State of the converters and of the raw lanes beside their registers and tables.
-/

namespace Sys2Proof.Machine

open Sys2Proof

/-! ## Converters -/

/-- A result that waits for delivery (R280, R285): the bytes of its diagnostic record, if one is due, and the sample of an
entry: its lane, its code or invalid code, its RAWHIST word and its instant in quarter nanoseconds. -/
structure AdcDue where
  diag : Option (List Byte)
  sample : Option (Nat × Option Int × Word32 × Nat)
  deriving DecidableEq, Repr, Inhabited

/-- A converter (R270 to R284): its target, short time and epoch as one number, and its tolerance; its arming instant in grid
nanoseconds; the entries its start walked; conversions and idle slots done in the running entry; the next slot boundary; whether the next conversion is the first after a phase step; CHAN, GAIN and DELAY of the previous entry; the sums of the
entry's valid conversions: codes, instants in quarter nanoseconds, number; the last conversion: its code, if valid, and its
instant; whether a stop waits for the slot to end, and whether ADC_CVn_TDC holds a deviation. -/
structure Cv where
  target : Nat
  tol : Nat
  armNs : Nat
  walked : List Nat
  reps : Nat
  idle : Nat
  next : Nat
  stepped : Bool
  prev : Option (Nat × Nat × Nat)
  sumCode : Int
  sumQ : Nat
  valid : Nat
  last : Option (Option Int × Nat)
  stopping : Bool
  tdcSeen : Bool
  due : List AdcDue
  deriving DecidableEq, Repr, Inhabited

/-- The converters: their state, the local time at which the reference was switched on, and the diagnostic buffer with the
local time of its first record. -/
structure Adc where
  cv : FMap Cv
  refFrom : Option Nat
  diag : List (List Byte)
  diagFrom : Nat
  deriving DecidableEq, Repr, Inhabited

/-! ## Lanes -/

/-- A sample on its way to a lane: the SV stream it came from (`none`: the converters), its instant, its value, its taint,
its TQ mark and its RAWHIST word. -/
structure LaneSmp where
  stream : Option Nat
  inst : Inst
  value : Int
  taint : Option Word32
  tq : Bool
  raw : Word32
  deriving DecidableEq, Repr, Inhabited

/-- A value of the FIR: the index of its centre on the estimate grid, its parts as binary64, and its place k in a fade
over F estimates between two coefficient sets (k = 0: no fade). -/
structure XVal where
  n : Nat
  re : Word64
  im : Word64
  k : Nat
  f : Nat
  old : Nat
  new : Nat
  deriving DecidableEq, Repr, Inhabited

/-- An output of a lane that its group has not taken: its index on the RATE grid, its four words, and for the positive
sequence the centre index and the FIR values around it, with the invalid code of the estimate. -/
structure LaneOut where
  m : Nat
  words : List Word32
  n : Nat
  xs : List (Word64 × Word64)
  bad : Option Word32
  deriving DecidableEq, Repr, Inhabited

/-- A swap request (R317). -/
structure SwapReq where
  bank : Nat
  target : Nat
  epoch : Nat
  tol : Nat
  deriving DecidableEq, Repr, Inhabited

/-- A record of I/Q pairs being filled (Table FLT-6): its pairs, the position of the first pair's latest input, whether a
pair is tainted or saturated. -/
structure IqBuf where
  pairs : List (Int × Int × Option Word32)
  firstQ : Nat
  dbar : Word32
  sat : Bool
  lost : Bool
  deriving DecidableEq, Repr, Inhabited

/-- A lane (R289 to R322): samples that wait; the position accepted last; the local time of the last sample; whether a
synchronising reset waits for its first sample; the restart position; the values each moving average and the FIR hold,
newest first; the FIR values the estimator holds; tainted positions with their codes; the offsets of the samples' instants
from their positions, newest first, in quarter nanoseconds times FS; the TQ mark; the active bank; the fade as (new bank, k,
F); the pending request; the outputs; a saturation in the pair being formed; the I/Q record; and the local time of the last
change of EN. -/
structure LaneSt where
  inq : List LaneSmp
  q : Option Nat
  lastLoc : Nat
  sync : Bool
  p0 : Option Nat
  ma : FMap (List (Int × Int))
  fir : List (Int × Int)
  xs : List XVal
  taints : List (Nat × Word32)
  offs : List Int
  tq : Bool
  active : Nat
  fade : Option (Nat × Nat × Nat)
  pend : Option SwapReq
  outs : List LaneOut
  satNow : Bool
  iq : IqBuf
  enAt : Option Nat
  deriving DecidableEq, Repr, Inhabited

/-- A group: the index of the last output instant it wrote, and the local time at which it became valid. -/
structure GroupSt where
  done : Option Nat
  validAt : Nat
  deriving DecidableEq, Repr, Inhabited

/-- The raw lanes and the groups. -/
structure Flt where
  lanes : FMap LaneSt
  groups : FMap GroupSt
  deriving DecidableEq, Repr, Inhabited

end Sys2Proof.Machine
end

