-- ==== Sys2Proof/Machine/State.lean ====
section
/-!
DEFINITION. The state of the block: grid time, the Logbook, the device proper and the queue of waiting commands; the
reasons a step can stop; and the state after a power-on reset.
-/

namespace Sys2Proof.Machine

open Sys2Proof

/-- The device beside grid time, the Logbook and the command queue. `regs` is BAR0, `evs` the events raised by the
command in hand on their way to the Logbook, `paths` the access paths by number (0 host, 1 CMD engine, 2 Xaorn),
`free` counts the free values drawn so far (the model's own field). -/
structure Dev where
  regs : RegFile
  evs : List LogEv
  paths : FMap PathSt
  pwr : Pwr
  isl : FMap IslSt
  tkp : Tkp
  hif : Hif
  rdr : LogReader
  flush : Flush
  /-- the Lookout's accumulators by probe -/
  lko : FMap Probe
  /-- the compression jobs by lane -/
  cmp : FMap CmpJob
  hmp : Hmp
  ports : FMap Port
  pairs : FMap PairSt
  keys : Keys
  ing : Ing
  aln : Aln
  adc : Adc
  flt : Flt
  dsp : Dsp
  dxl : Dxl
  cap : Cap
  rul : Rul
  mdl : Mod
  free : Nat
  deriving DecidableEq, Repr, Inhabited

/-- The state of the block and the queue of commands that wait, first in, first out. -/
structure State where
  time : Time
  log : Logbook
  dev : Dev
  pending : List Instr
  deriving DecidableEq, Repr, Inhabited

/-- Why a step stops with a fault. -/
inductive Fault where
  /-- Raised by an access that lies outside its BAR window, which no bus delivers to the device. Safe: the model
  stops where the spec gives no behaviour. -/
  | outsideWindow
  deriving DecidableEq, Repr

/-- Why a step refuses a command. -/
inductive Refusal where
  /-- Raised by the dispatch for a command that has no meaning yet. Safe: nothing can be proved of a step that
  refuses. -/
  | notModelled (mnemonic : String)
  deriving DecidableEq, Repr

/-- The device held in a power-on reset: every register at its Reset value and nothing in flight. GLB_SPLIT.SERVO is 1
at reset, and the servo acts on it; the board holds PERST_N low until POR has been released (R628). -/
def Dev.reset : Dev :=
  { (default : Dev) with
    tkp := { (default : Tkp) with mode := 1 }
    pwr := { (default : Pwr) with perstLow := true } }

/-- The block held in a power-on reset: grid time 0, an empty Logbook, every register at its Reset value (R3), every
island not started, nothing queued. -/
def State.reset : State where
  time := ⟨0, 0⟩
  log := default
  dev := Dev.reset
  pending := []

end Sys2Proof.Machine
end

