-- ==== Sys2Proof/Machine/Ops.lean ====
section
/-!
DEFINITION. The named operations every block shares: grid time and the comparison of short times, fields of the
register file, events and interrupt causes, islands, and how a meaning becomes a command's outcome.
-/

namespace Sys2Proof.Machine

open Sys2Proof

/-! ## Grid time -/

/-- The continuous nanosecond count N. -/
def Time.ns (t : Time) : Nat := t.cnt / 2 ^ 46

/-- Grid time in quarter nanoseconds, the resolution of stamps (R128). -/
def Time.qns (t : Time) : Nat := t.cnt / 2 ^ 44

/-- Nanoseconds of the undisciplined AON clock since power-on, for intervals that are not on grid time. -/
def Time.loc (t : Time) : Nat := t.ticks * 4

/-- ST32 (Table TKP-1). -/
def Time.st32 (t : Time) : Nat := t.ns % 2 ^ 32

/-- The short-time epoch (Table TKP-1). -/
def Time.epoch (t : Time) : Nat := t.ns / 2 ^ 32 % 2 ^ 16

/-- TAI seconds. -/
def Time.sec (t : Time) : Nat := t.ns / 1000000000

/-- Nanoseconds within the TAI second. -/
def Time.nsec (t : Time) : Nat := t.ns % 1000000000

/-- The signed difference a − b of two short times of modulus m. -/
def sdiff (m a b : Nat) : Int :=
  let r := (a % m + m - b % m) % m
  if r < m / 2 then (r : Int) else (r : Int) - (m : Int)

/-- A two's complement number of w bits. -/
def sint (w v : Nat) : Int := if v % 2 ^ w < 2 ^ (w - 1) then ((v % 2 ^ w : Nat) : Int) else ((v % 2 ^ w : Nat) : Int) - (2 ^ w : Nat)

/-- A number as two's complement in w bits. -/
def unsig (w : Nat) (v : Int) : Nat := (v % ((2 ^ w : Nat) : Int)).toNat

/-- What the policy of R40 to R42 says of a timed action. -/
inductive Verdict where
  | wait | ok | late | expired
  deriving DecidableEq, Repr

/-- R40 to R42: a target in the future waits; one within the current tick, which `span` nanoseconds make, is on time; a past
one is late within LATE_TOL µs and expired beyond it. -/
def verdictOf (d : Int) (span tol : Nat) : Verdict :=
  if span ≤ d then .wait
  else if 0 ≤ d then .ok
  else if -d ≤ (tol * 1000 : Nat) then .late
  else .expired

/-- How far a short time lies ahead of now (R36, R37). -/
def timeAhead (ext : Bool) (nowNs target epoch : Nat) : Int :=
  if ext then sdiff (2 ^ 48) (epoch * 2 ^ 32 + target) nowNs else sdiff (2 ^ 32) target nowNs

/-- The policy of R40 to R42 for a target short time. -/
def timedVerdict (ext : Bool) (span nowNs target epoch tol : Nat) : Verdict :=
  verdictOf (timeAhead ext nowNs target epoch) span tol

/-- One unit of the counter is 2^-46 ns. -/
def nsUnit : Nat := 2 ^ 46

/-- The slew of one tick: SLEW_MAX ppm, or 500 ppm when SLEW_MAX is 0 (R67), with the remainder carried. -/
def slewTick (ppm : Nat) (slew : Int) (rem : Nat) : Int × Int × Nat :=
  let acc := rem + 4 * nsUnit * (if ppm = 0 then 500 else ppm)
  let amt : Int := (acc / 1000000 : Nat)
  if slew = 0 then (0, 0, 0)
  else if slew.natAbs ≤ amt.natAbs then (slew, 0, 0)
  else if 0 < slew then (amt, slew - amt, acc % 1000000)
  else (-amt, slew + amt, acc % 1000000)

/-! ## Status codes (Table SCP-6) -/

def stOk : Nat := 0x00
def stLate : Nat := 0x01
def stExpired : Nat := 0x02
def stTsLost : Nat := 0x03
def stOutFull : Nat := 0x04
def stBadCheck : Nat := 0x05
def stLimit : Nat := 0x06
def stAborted : Nat := 0x07
def stBusy : Nat := 0x08
def stSkipped : Nat := 0x09
def stParity : Nat := 0x0A
def stAuthFail : Nat := 0x0B
def stNotVerified : Nat := 0x0C
def stRejected : Nat := 0x0D
def stNoSpace : Nat := 0x0E
def stMalformed : Nat := 0x0F

/-- The status of a timed action that has been taken. -/
def Verdict.status : Verdict → Nat
  | .wait => stOk
  | .ok => stOk
  | .late => stLate
  | .expired => stExpired

/-! ## Invalid-word codes (Table SCP-5) -/

def wMissing : Word32 := 0x7FC00001
def wParity : Word32 := 0x7FC00002
def wSettling : Word32 := 0x7FC00003
def wInvalid : Word32 := 0x7FC00004
def wHeld : Word32 := 0x7FC00005

/-! ## Fields -/

/-- The value of a field of instance `i`. -/
def Dev.getN (d : Dev) (f : Field) (i : Nat) : Nat := fget d.regs f i

/-- The value of a field of a register with one instance. -/
def Dev.get (d : Dev) (f : Field) : Nat := d.getN f 0

/-- Is a one-bit field set? -/
def Dev.onN (d : Dev) (f : Field) (i : Nat) : Bool := d.getN f i != 0

/-- Is a one-bit field set? -/
def Dev.on (d : Dev) (f : Field) : Bool := d.onN f 0

/-- The whole nanoseconds by which the next tick advances grid time, which the current tick covers (R34, R40). -/
def tickSpan (t : Time) (d : Dev) : Nat :=
  let sl := (slewTick (d.get Reg.TKP_SERVO.SLEW_MAX) d.tkp.slew d.tkp.slewRem).1
  ((t.cnt : Int) + 4 * nsUnit + d.tkp.freqNext.getD d.tkp.freq + sl).toNat / nsUnit - t.ns

/-- The policy of R40 to R42 now, under STMODE as the last tick took it (R39). -/
def verdictNow (t : Time) (d : Dev) (target epoch tol : Nat) : Verdict :=
  timedVerdict d.tkp.extend (tickSpan t d) t.ns target epoch tol

/-- Write a field of instance `i`. -/
def Dev.setN (d : Dev) (f : Field) (i v : Nat) : Dev := { d with regs := fput d.regs f i v }

/-- Write a field. -/
def Dev.set (d : Dev) (f : Field) (v : Nat) : Dev := d.setN f 0 v

/-- Write a one-bit field. -/
def Dev.setB (d : Dev) (f : Field) (i : Nat) (b : Bool) : Dev := d.setN f i (if b then 1 else 0)

/-- Add to a saturating counter. -/
def Dev.addSat (d : Dev) (f : Field) (i n : Nat) : Dev := d.setN f i (min (d.getN f i + n) (2 ^ f.width - 1))

/-- Count one in a saturating counter. -/
def Dev.sat (d : Dev) (f : Field) (i : Nat := 0) : Dev := d.addSat f i 1

/-- Count one in a wrapping counter. -/
def Dev.wrapInc (d : Dev) (f : Field) (i : Nat := 0) : Dev := d.setN f i (d.getN f i + 1)

/-- The whole word at an address. -/
def Dev.word (d : Dev) (a : Nat) : Word32 := rword d.regs a

/-- Write a table word: the bits of its fields. -/
def Dev.putWord (d : Dev) (a : Nat) (w : Word32) : Dev :=
  { d with regs := rput d.regs a (w &&& maskOf (fieldsAt a)) }

/-- Write a table word whose VALID, bit 0, the device does not set. -/
def Dev.putUnvalid (d : Dev) (a : Nat) (w : Word32) : Dev := d.putWord a (w &&& ~~~1)

/-- Bit k of a word. -/
def bitOf (w : Word32) (k : Nat) : Bool := w.getLsbD k

/-- Bits [lo + w − 1 : lo] of a number. -/
def bits (v lo w : Nat) : Nat := (v >>> lo) % 2 ^ w

/-- A Boolean as a bit. -/
def b2n (b : Bool) : Nat := if b then 1 else 0

/-- A free value: the draw counter is read and advanced, and nothing constrains the value. -/
def Dev.draw (d : Dev) : Nat × Dev := (d.free, { d with free := d.free + 1 })

/-! ## Events and interrupt causes -/

/-- Raise an event for the Logbook (R570). -/
def Dev.event (d : Dev) (code inst det det2 : Nat) : Dev :=
  { d with evs := d.evs ++ [⟨code, inst, det, det2, []⟩] }

/-- A block's interrupt register: its address, its vector (Table HIF-8) and its block number (Table LOG-2). -/
structure IntBlk where
  addr : Nat
  vec : Nat
  blk : Nat
  deriving DecidableEq, Repr

def intGlb : IntBlk := ⟨0x24, 0, 0⟩
def intTkp : IntBlk := ⟨0x1005C, 1, 1⟩
def intHmp : IntBlk := ⟨0x20008, 2, 2⟩
def intFp (n : Nat) : IntBlk := ⟨0x40008 + n * 0x2000, if n < 8 then 3 else 4, 3⟩
def intDxl : IntBlk := ⟨0x60010, 5, 4⟩
def intIng : IntBlk := ⟨0x70008, 6, 5⟩
def intAln : IntBlk := ⟨0x80008, 7, 6⟩
def intAdc : IntBlk := ⟨0xA000C, 8, 7⟩
def intFlt : IntBlk := ⟨0xB0008, 9, 8⟩
def intRul : IntBlk := ⟨0xC0008, 10, 9⟩
def intMod : IntBlk := ⟨0xD0008, 11, 10⟩
def intCap : IntBlk := ⟨0xE000C, 12, 11⟩
def intHif : IntBlk := ⟨0xF0008, 0, 12⟩
def intDsp : IntBlk := ⟨0x10000C, 14, 13⟩
def intKey : IntBlk := ⟨0x110004, 15, 14⟩
def intCmp : IntBlk := ⟨0x130008, 13, 15⟩
def intLog : IntBlk := ⟨0x120004, 16, 16⟩
def intLko : IntBlk := ⟨0x128004, 17, 17⟩
def intMgt : IntBlk := ⟨0x140004, 18, 18⟩

/-- Every interrupt register. -/
def intBlks : List IntBlk :=
  [intGlb, intTkp, intHmp, intDxl, intIng, intAln, intAdc, intFlt, intRul, intMod, intCap, intHif, intDsp, intKey,
   intCmp, intLog, intLko, intMgt] ++ (List.range 16).map intFp

/-- Request a message on a vector; requests that arrive before the message is sent make one (R487). -/
def Dev.request (d : Dev) (vec : Nat) : Dev :=
  if vec ∈ d.hif.msgReq then d else { d with hif := { d.hif with msgReq := d.hif.msgReq ++ [vec] } }

/-- A cause bit rises without an event: the bit is set, and an enabled cause that was 0 requests a message (R485). -/
def Dev.raise (d : Dev) (b : IntBlk) (k : Nat) : Dev :=
  let w := d.word b.addr
  let d1 := { d with regs := rput d.regs b.addr (w ||| BitVec.ofNat 32 (2 ^ k)) }
  if !bitOf w k && bitOf w (16 + k) then d1.request b.vec else d1

/-- The condition of cause k of a block's interrupt register occurs: the bit rises (R485) and the event of its code
is raised (R570). -/
def Dev.cause (d : Dev) (b : IntBlk) (k inst det : Nat) : Dev :=
  (d.raise b k).event (b.blk * 32 + k) inst det 0

/-! ## Islands -/

/-- The island a BAR0 offset lies in, numbered as Table RST-2 (Tables MAP-1 and MAP-2). -/
def islandOf (a : Nat) : Nat :=
  if a < 0x20000 then 63
  else if a < 0x40000 then 28
  else if a < 0x60000 then 1 + (a - 0x40000) / 0x2000
  else if a < 0x70000 then if a = 0x60004 then 63 else 17
  else if a < 0x80000 then 21
  else if a < 0xA0000 then 22
  else if a < 0xC0000 then 23
  else if a < 0xE0000 then 24
  else if a < 0xF0000 then 25
  else if a < 0x100000 then 0
  else if a < 0x110000 then 27
  else if a < 0x128000 then 63
  else if a < 0x130000 then 27
  else if a < 0x140000 then 26
  else if a < 0x200000 then 27
  else if a < 0x240000 then 21
  else if a < 0x260000 then 22
  else if a < 0x300000 then 23
  else if a < 0x370000 then 24
  else if a < 0x380000 then 25
  else if a < 0x3A0000 then 27
  else if a < 0x3B0000 then 17
  else if a < 0x3C2000 then 63
  else 27

def islHst : Nat := 0
def islPrt (n : Nat) : Nat := 1 + n
def islDxl (n : Nat) : Nat := 17 + n
def islIng : Nat := 21
def islAln : Nat := 22
def islRaw : Nat := 23
def islAna : Nat := 24
def islCap : Nat := 25
def islCmp : Nat := 26
def islMgt : Nat := 27
def islHmp (q : Nat) : Nat := 28 + q
def islAon : Nat := 63

/-- Does the island accept requests (R24)? AON does from POR release on. -/
def Dev.up (d : Dev) (i : Nat) : Bool :=
  if i = 63 then d.pwr.released else decide ((tget d.isl i).mode = .run)

/-- The island is in reset. -/
def Dev.inReset (d : Dev) (i : Nat) : Bool := decide ((tget d.isl i).mode = .reset)

/-! ## Per-instance state -/

def Dev.port (d : Dev) (n : Nat) : Port := tget d.ports n
def Dev.setPort (d : Dev) (n : Nat) (p : Port) : Dev := { d with ports := tset d.ports n p }
def Dev.pair (d : Dev) (n : Nat) : PairSt := tget d.pairs n
def Dev.setPair (d : Dev) (n : Nat) (p : PairSt) : Dev := { d with pairs := tset d.pairs n p }
def Dev.ring (d : Dev) (n : Nat) : Ring := tget d.hif.rings n
def Dev.setRing (d : Dev) (n : Nat) (r : Ring) : Dev := { d with hif := { d.hif with rings := tset d.hif.rings n r } }
def Dev.ref (d : Dev) (n : Nat) : RefSt := tget d.tkp.refs n
def Dev.setRef (d : Dev) (n : Nat) (r : RefSt) : Dev := { d with tkp := { d.tkp with refs := tset d.tkp.refs n r } }

/-! ## Access paths (R5 to R7) -/

def pathNum : Path → Nat
  | .host => 0
  | .cmd => 1
  | .xaorn => 2

def Dev.path (d : Dev) (p : Path) : PathSt := tget d.paths (pathNum p)
def Dev.setPath (d : Dev) (p : Path) (x : PathSt) : Dev := { d with paths := tset d.paths (pathNum p) x }

/-- The word a read returns to its path. -/
def Dev.answer (d : Dev) (p : Path) (w : Word32) : Dev := d.setPath p { d.path p with rd := w }

/-- A low half is read: the high half goes into the path's shadow (R5). `hi` is the address of the high half. -/
def Dev.latch (d : Dev) (p : Path) (hi v : Nat) : Dev :=
  let x := d.path p
  d.setPath p { x with shadow := tset x.shadow hi v, fresh := tset x.fresh hi 1 }

/-- A high half is read: the shadow is returned, and TORN is set when no low half has been read since the last read of
the high half on this path (R6, R7). -/
def Dev.readShadow (d : Dev) (p : Path) (hi : Nat) : Dev :=
  let x := d.path p
  let d1 := d.setPath p { x with rd := BitVec.ofNat 32 (tget x.shadow hi), fresh := tset x.fresh hi 0 }
  if tget x.fresh hi = 0 then d1.set Reg.GLB_STATUS.TORN 1 else d1

/-! ## Bytes -/

/-- A number as n little-endian bytes. -/
def le (n v : Nat) : List Byte :=
  match n with
  | 0 => []
  | n + 1 => BitVec.ofNat 8 v :: le n (v / 256)

/-- A number as n big-endian bytes. -/
def be (n v : Nat) : List Byte := (le n v).reverse

/-- Little-endian bytes as a number. -/
def leVal : List Byte → Nat
  | [] => 0
  | b :: bs => b.toNat + 256 * leVal bs

/-- Big-endian bytes as a number. -/
def beVal (bs : List Byte) : Nat := leVal bs.reverse

/-- n bytes at an offset; bytes beyond the end read as 0. -/
def slice (bs : List Byte) (ofs n : Nat) : List Byte :=
  let s := (bs.drop ofs).take n
  s ++ List.replicate (n - s.length) 0

/-- TK80 as ten bytes: TAI seconds and nanoseconds, little-endian. -/
def tk80Bytes (ns : Nat) : List Byte := le 6 (ns / 1000000000) ++ le 4 (ns % 1000000000)

end Sys2Proof.Machine
end

