-- ==== Sys2Proof/Machine/LogOps.lean ====
section
/-!
DEFINITION. The way of an event into the Logbook intake (R570 to R577), and how a meaning on the device becomes the
outcome of a command: the events it raised enter the intake in the order of R575.
-/

namespace Sys2Proof.Machine

open Sys2Proof

/-- The place of an event's island in the order of Table ARC-3 (R575). -/
def islandOrder (e : LogEv) : Nat :=
  let b := e.code / 32
  if b = 0 ∨ b = 1 ∨ b = 14 ∨ b = 16 then 0
  else if b = 12 then 1
  else if b = 3 then 2 + min e.inst 15
  else if b = 4 then 18 + min e.inst 3
  else if b = 5 then 22
  else if b = 6 then 23
  else if b = 7 ∨ b = 8 then 24
  else if b = 9 ∨ b = 10 then 25
  else if b = 11 then 26
  else if b = 15 then 27
  else if b = 2 then 29
  else 28

/-- Insert an event after those of its own and earlier islands. -/
def insertEv (e : LogEv) : List LogEv → List LogEv
  | [] => [e]
  | x :: xs => if islandOrder e < islandOrder x then e :: x :: xs else x :: insertEv e xs

/-- Events of one instant in island order, those of one island as they were raised (R575). -/
def orderEvs (es : List LogEv) : List LogEv := es.foldl (fun acc e => insertEv e acc) []

/-- The tokens of a bucket; one that has not been used holds the reset BURST of Table LOG-5 (R574). -/
def Bucket.held (b : Bucket) : Nat := b.tokens.getD 32

/-- The tokens a bucket has gained and not been given: one every 1 ÷ RATE s, at the rate in force since its token clock
started (R574). -/
def bucketDue (now : Nat) (b : Bucket) : Nat :=
  if b.run then (now - b.start) * b.rate / 1000000000 - b.given else 0

/-- A bucket as an event at the instant `now` finds it (R574). A written RATE and BURST take effect from this event: tokens up
to it came at the old rate, and the clock starts anew with another. A full bucket's clock stands. -/
def bucketRefill (rate burst now : Nat) (b : Bucket) : Bucket :=
  let n := b.held + bucketDue now b
  if burst ≤ n then ⟨some burst, 0, 0, 0, false⟩
  else if b.run ∧ b.rate = rate then { b with tokens := some n, given := b.given + bucketDue now b }
  else ⟨some n, now, 0, rate, true⟩

/-- Take one token; a full bucket's clock starts. -/
def bucketTake (rate now : Nat) (b : Bucket) : Bucket :=
  if b.run then { b with tokens := some (b.held - 1) } else ⟨some (b.held - 1), now, 0, rate, true⟩

/-- BURST of a code; 0 acts as 1 (Table LOG-5). -/
def burstOf (code : Nat) (d : Dev) : Nat := max 1 (d.getN Reg.T_LIMIT.BURST code)

/-- An event is dropped: its code's DROPS and its pending count rise (R576, R577). -/
def logDrop (code : Nat) (lb : Logbook) (d : Dev) : Logbook × Dev :=
  ({ lb with pend := tset lb.pend code (tget lb.pend code + 1) }, d.sat Reg.T_LIMIT.DROPS code)

/-- Does an event of this code pass its limit (R574)? The Logbook with the bucket as it then stands. -/
def logLimit (now : Nat) (code : Nat) (lb : Logbook) (d : Dev) : Bool × Logbook :=
  let rate := d.getN Reg.T_LIMIT.RATE code
  if d.onN Reg.T_LIMIT.OFF code then (false, lb)
  else if rate = 0 then (true, lb)
  else
    let b := bucketRefill rate (burstOf code d) now (tget lb.buckets code)
    if 0 < b.held then (true, { lb with buckets := tset lb.buckets code (bucketTake rate now b) })
    else (false, { lb with buckets := tset lb.buckets code b })

/-- An event has passed its limit: it enters the intake, or is dropped because the Logbook takes no more records
(R578, R580) or the intake is full (R576). -/
def logEnter (t : Time) (e : LogEv) (lb : Logbook) (d : Dev) : Logbook × Dev × Bool :=
  if lb.full || lb.failed then
    let (lb1, d1) := logDrop e.code lb d
    (lb1, d1.sat Reg.LOG_CNT_FULL.N, false)
  else if 64 ≤ lb.intake.length then
    let (lb1, d1) := logDrop e.code lb d
    (lb1, (d1.sat Reg.LOG_CNT_INTAKE.N).raise intLog 3, true)
  else
    ({ lb with intake := lb.intake ++ [⟨e, t.ns⟩] }, d, false)

/-- Causes of the interrupt register of each block of Table LOG-2. -/
def causeCounts : List Nat := [7, 12, 5, 7, 6, 8, 7, 8, 7, 8, 9, 5, 5, 5, 4, 3, 7, 2, 1]

/-- The codes of Table LOG-3. -/
def extraCodes : List Nat :=
  [16, 17, 18, 19, 20, 48, 49, 50, 51, 80, 81, 112, 113, 144, 176, 177, 178, 304, 464, 528, 529, 530, 560, 592, 593, 594]

/-- Does Table LOG-2 or LOG-3 define this code (R570)? -/
def codeDefined (code : Nat) : Bool :=
  if code % 32 < 16 then decide (code % 32 < causeCounts.getD (code / 32) 0) else extraCodes.contains code

/-- Judge one event (R574, R576 to R578); a code that no table defines is never written (R570). -/
def logJudge1 (t : Time) (e : LogEv) (lb : Logbook) (d : Dev) : Logbook × Dev × Bool :=
  if !codeDefined e.code then (lb, d, false)
  else
    match logLimit t.loc e.code lb d with
    | (true, lb1) => logEnter t e lb1 d
    | (false, lb1) => let (lb2, d2) := logDrop e.code lb1 d; (lb2, d2, false)

/-- Judge one event, and after an intake overflow the overflow's own event, code 515 (R570, R576). That event's own
drop raises no further one. -/
def logJudge (t : Time) (s : Logbook × Dev) (e : LogEv) : Logbook × Dev :=
  match logJudge1 t e s.1 s.2 with
  | (lb, d, false) => (lb, d)
  | (lb, d, true) => let r := logJudge1 t ⟨515, 0, 0, 0, []⟩ lb d; (r.1, r.2.1)

/-- The events the command raised go to the Logbook, and LOG_STATUS.INTAKE shows the fill. -/
def finish (s : State) : State :=
  let r := (orderEvs s.dev.evs).foldl (logJudge s.time) (s.log, { s.dev with evs := [] })
  { s with log := r.1, dev := r.2.set Reg.LOG_STATUS.INTAKE r.1.intake.length }

/-- The outcome of a command whose meaning is a change of the device alone. -/
def run (s : State) (f : Time → Dev → Dev) : Host.Outcome State Fault Refusal :=
  .next (finish { s with dev := f s.time s.dev })

/-- The outcome of a command that also reads or writes the Logbook. -/
def runLog (s : State) (f : Time → Logbook → Dev → Logbook × Dev) : Host.Outcome State Fault Refusal :=
  let r := f s.time s.log s.dev
  .next (finish { s with log := r.1, dev := r.2 })

/-- The outcome of a command that can also reset grid time. -/
def runAll (s : State) (f : Time → Logbook → Dev → Time × Logbook × Dev) : Host.Outcome State Fault Refusal :=
  let r := f s.time s.log s.dev
  .next (finish { s with time := r.1, log := r.2.1, dev := r.2.2 })

end Sys2Proof.Machine
end

