-- ==== Sys2Proof/Machine/Flash.lean ====
section
/-!
DEFINITION. The flash: the boot settings and their check, the Xaorn image slots, and the start of the Xaorn cores
(Tables RST-4 and RST-6, R625, R626).
-/

namespace Sys2Proof.Machine

open Sys2Proof

/-! ## CRC-32 (R598) -/

/-- One bit-wise step of the reflected CRC-32 of polynomial 0x04C1_1DB7. -/
def crc32Bit (c : Nat) : Nat := if c % 2 = 1 then (c / 2) ^^^ 0xEDB88320 else c / 2

/-- The CRC register after one byte. -/
def crc32Byte (c : Nat) (b : Byte) : Nat := (List.range 8).foldl (fun x _ => crc32Bit x) (c ^^^ b.toNat)

/-- CRC-32 continued from the CRC of the bytes before; 0 starts a stream. -/
def crc32 (seed : Nat) (bs : List Byte) : Nat := bs.foldl crc32Byte (seed ^^^ 0xFFFFFFFF) ^^^ 0xFFFFFFFF

/-! ## Boot settings -/

/-- n little-endian bytes of a settings copy at an offset. -/
def setAt (b : List Byte) (ofs n : Nat) : Nat := leVal (slice b ofs n)

def setSeq (b : List Byte) : Nat := setAt b 4 4
def setFlags (b : List Byte) : Nat := setAt b 12 1

/-- The areas a copy places, as (offset, length). -/
def setAreas (b : List Byte) : List (Nat × Nat) :=
  [(setAt b 16 4, 0x10000), (setAt b 20 4, 0x10000), (setAt b 24 4, 0x10000), (setAt b 28 4, 0x40000),
   (setAt b 32 4, 0x800000), (setAt b 36 4, 0x800000), (setAt b 40 4, setAt b 44 4)]

def areasApart : List (Nat × Nat) → Bool
  | [] => true
  | a :: rest =>
    rest.all (fun b => decide (a.1 + a.2 ≤ b.1) || decide (b.1 + b.2 ≤ a.1)) && areasApart rest

/-- R625: is a copy valid? The two settings copies at the start of the flash count as an area. -/
def settingsOk (b : List Byte) : Bool :=
  b.length == 4096 && setAt b 0 4 == 0x4B594253 && crc32 0 (b.take 4092) == setAt b 4092 4 &&
    (setAreas b).all (fun a => a.1 % 0x10000 == 0 && decide (a.1 + a.2 ≤ 0x4000000 + Config.flashExtra)) &&
    areasApart ((0, 0x2000) :: setAreas b)

/-- The defaults of Table RST-4, as the body of a copy. -/
def setDefault : List Byte :=
  le 4 0x4B594253 ++ le 4 0 ++ le 2 0x1FA7 ++ le 2 0x0512 ++ le 4 0 ++ le 4 0x10000 ++ le 4 0x20000 ++ le 4 0x30000 ++
    le 4 0x40000 ++ le 4 0x100000 ++ le 4 0x900000 ++ le 4 0x1100000 ++ le 4 0x2F00000 ++ le 4048 0

/-- The copy the device uses: the valid one of higher SEQ, compared as a signed difference (R625). -/
def setUsed (p : Pwr) : Option (List Byte) :=
  match settingsOk p.copyA, settingsOk p.copyB with
  | true, true => if 0 < sdiff (2 ^ 32) (setSeq p.copyB) (setSeq p.copyA) then some p.copyB else some p.copyA
  | true, false => some p.copyA
  | false, true => some p.copyB
  | false, false => none

/-- Write a copy of these contents with SEQ one higher than the copy in use, over the copy of lower SEQ or over one that is
not valid (Table RST-6). -/
def setWrite (body : List Byte) (p : Pwr) : Pwr :=
  let seq := (match setUsed p with | some b => setSeq b + 1 | none => 1) % 2 ^ 32
  let c0 := body.take 4 ++ le 4 seq ++ (body.drop 8).take 4084
  let c := c0 ++ le 4 (crc32 0 c0)
  let overA := if settingsOk p.copyA then
      settingsOk p.copyB && decide (0 ≤ sdiff (2 ^ 32) (setSeq p.copyB) (setSeq p.copyA))
    else true
  if overA then { p with copyA := c } else { p with copyB := c }

/-- The settings in force with another preferred slot and TRIAL flag, written as a new copy (R629, R630). -/
def setFlip (slot : Nat) (trial : Bool) (p : Pwr) : Pwr :=
  let b := (setUsed p).getD setDefault
  let f := setFlags b % 4 + 4 * (slot % 2) + 8 * b2n trial
  setWrite (b.take 12 ++ le 1 f ++ b.drop 13) p

/-! ## Xaorn images -/

def Dev.modPwr (d : Dev) (f : Pwr → Pwr) : Dev := { d with pwr := f d.pwr }

/-- A byte as the flash holds it: an erased byte is not listed. -/
def flashByte (b : Byte) : Option Byte := if b = 0xFF then none else some b

/-- Bytes written from an offset on. -/
def flashFill : List Byte → Nat → FMap (Option Byte) → FMap (Option Byte)
  | [], _, m => m
  | b :: bs, a, m => flashFill bs (a + 1) (tset m a (flashByte b))

/-- Does the image in a slot pass the boot check? -/
def imageGood (slot : Nat) (p : Pwr) : Bool := Config.imageOk (tget p.images slot) none

/-- The cores start from a slot (R626): SLOT shows it, and the services do not run yet. -/
def xaornStart (t : Time) (slot : Nat) (d : Dev) : Dev :=
  let d1 := ((d.set Reg.GLB_STATUS.SLOT slot).set Reg.GLB_STATUS.XAORN_RUN 0).set Reg.GLB_STATUS.XFAIL 0
  d1.modPwr fun p => { p with xaornRuns := true, xaornFrom := t.loc }

/-- Both images failed: the cores stay halted (R626). -/
def xaornFail (d : Dev) : Dev :=
  let d1 := ((d.set Reg.GLB_STATUS.XAORN_RUN 0).set Reg.GLB_STATUS.XFAIL 1).cause intGlb 4 0 stNotVerified
  d1.modPwr fun p => { p with xaornRuns := false }

/-- Start from a slot, or from the other when its image fails its check (R626). -/
def xaornBoot (t : Time) (slot : Nat) (d : Dev) : Dev :=
  if imageGood slot d.pwr then xaornStart t slot d
  else if imageGood (1 - slot) d.pwr then xaornStart t (1 - slot) d
  else xaornFail d

/-- The cores restart from the image they ran (R610, R613, R631). A device without a running image stays halted. -/
def xaornRestart (t : Time) (d : Dev) : Dev :=
  if d.on Reg.GLB_STATUS.XFAIL then d else xaornStart t (d.get Reg.GLB_STATUS.SLOT) d

/-- An SRST has reset GLB_STATUS; `old` is the device before. The cores restart from the image they ran (R610); a device that ran
none looks for one again, as at the start, and XFAIL follows (R626). -/
def xaornAgain (t : Time) (old d : Dev) : Dev :=
  let slot := old.get Reg.GLB_STATUS.SLOT
  if old.on Reg.GLB_STATUS.XFAIL then xaornBoot t slot (d.set Reg.GLB_STATUS.SLOT slot) else xaornStart t slot d

/-- Xaorn runs its services and is awake: it takes requests (R565, R620, R626). -/
def xaornUp (d : Dev) : Bool :=
  d.on Reg.GLB_STATUS.XAORN_RUN && !d.on Reg.GLB_STATUS.UPDATING && d.up islMgt

/-- What an MBOX descriptor completes with when Xaorn does not take requests (R21, R565, R626, R629). -/
def mboxStatus (d : Dev) : Nat :=
  if d.on Reg.GLB_STATUS.XFAIL then stNotVerified else if d.inReset islMgt then stAborted else stBusy

end Sys2Proof.Machine
end

