-- ==== Sys2Proof/Machine/Rings.lean ====
section
/-!
DEFINITION. The rings: taking descriptors, starting and completing them, delivering records into posted buffers, MSI-X
messages, and the host's presence (the chapter on the host interface).
-/

namespace Sys2Proof.Machine

open Sys2Proof

/-! ## Descriptors (Tables HIF-4, HIF-6, HIF-7) -/

def dw (ws : DescWords) (i : Nat) : Nat := ws.getD i 0 % 2 ^ 32
def dOpcode (ws : DescWords) : Nat := bits (dw ws 0) 0 8
def dOrd (ws : DescWords) : Bool := bits (dw ws 0) 8 1 != 0
def dIrq (ws : DescWords) : Bool := bits (dw ws 0) 9 1 != 0
def dSig (ws : DescWords) : Bool := bits (dw ws 0) 10 1 != 0
def dWait (ws : DescWords) : Bool := bits (dw ws 0) 11 1 != 0
def dTag (ws : DescWords) : Nat := bits (dw ws 0) 16 16
def dSigTok (ws : DescWords) : Nat := bits (dw ws 1) 0 6
def dWaitTok (ws : DescWords) : Nat := bits (dw ws 1) 8 6
def dWaitVal (ws : DescWords) : Nat := bits (dw ws 1) 16 16
def dAddr (ws : DescWords) : Nat := dw ws 2 + 2 ^ 32 * dw ws 3
def dLen (ws : DescWords) : Nat := dw ws 4

/-- Byte k of the descriptor. -/
def dByte (ws : DescWords) (k : Nat) : Nat := bits (dw ws (k / 4)) (8 * (k % 4)) 8

/-- Bytes k to k + n − 1 of the descriptor, little-endian. -/
def dBytes (ws : DescWords) (k n : Nat) : Nat :=
  match n with
  | 0 => 0
  | n + 1 => dByte ws k + 256 * dBytes ws (k + 1) n

/-- Are bytes k to k + n − 1 zero? -/
def dZero (ws : DescWords) (k n : Nat) : Bool := dBytes ws k n == 0

/-! ## Ring classes (Table HIF-2) -/

def clsCmd : Nat := 1
def clsTxh : Nat := 2
def clsRxh : Nat := 3
def clsSprd : Nat := 4
def clsAlrm : Nat := 5
def clsCapt : Nat := 6
def clsModl : Nat := 7
def clsLogs : Nat := 8
def clsCmpj : Nat := 9
def clsDspt : Nat := 10
def clsMbox : Nat := 11

/-- Is the class device to host? -/
def toHost (c : Nat) : Bool := 3 ≤ c && c ≤ 8

/-- The opcodes a class defines (Tables HIF-6, HIF-7, CMP-1, DSP-6, KEY-3; R472). -/
def opcodeDefined (c op : Nat) : Bool :=
  if toHost c then op == 0x10
  else if op ≤ 1 then true
  else if c = clsCmd then op == 0x10 || op == 0x11
  else if c = clsTxh then op == 0x10
  else if c = clsCmpj then op == 0x10 || op == 0x11
  else if c = clsDspt then 0x10 ≤ op && op ≤ 0x15
  else if c = clsMbox then op == 0x10
  else false

/-- The reserved parts of a descriptor that its class names (R471). -/
def reservedClear (c : Nat) (ws : DescWords) : Bool :=
  let op := dOpcode ws
  bits (dw ws 0) 12 4 == 0 && bits (dw ws 1) 6 2 == 0 && bits (dw ws 1) 14 2 == 0 && dw ws 5 == 0 &&
    (if op ≤ 1 then true
     else if c = clsCmd then dZero ws 28 36
     else if c = clsTxh then
       bits (dByte ws 24) 5 3 == 0 && bits (dByte ws 25) 6 2 == 0 && dZero ws 44 20 &&
         (dByte ws 24 ≤ 15 || dByte ws 24 == 20)
     else if c = clsDspt then
       bits (dByte ws 25) 3 5 == 0 && decide (bits (dByte ws 26) 0 2 ≤ 1) && bits (dByte ws 26) 3 2 != 3 && dZero ws 40 24
     else if c = clsCmpj then
       bits (dByte ws 24) 0 2 != 3 && bits (dByte ws 24) 4 2 != 3 && bits (dByte ws 25) 1 7 == 0 && dZero ws 26 2 &&
         dZero ws 52 12 && !(op == 0x10 && bits (dByte ws 24) 6 1 == 1 && bits (dByte ws 24) 0 2 != 0)
     else if c = clsMbox then
       (dByte ws 24 != 1 || (decide (1 ≤ dByte ws 25) && decide (dByte ws 25 ≤ 7) && decide (dByte ws 26 < 64) &&
         (dByte ws 25 != 3 && dByte ws 25 != 4 || decide (dByte ws 27 < 64)))) &&
       (dByte ws 24 != 2 || (decide (1 ≤ dByte ws 25) && decide (dByte ws 25 ≤ 5)))
     else true)

/-- R471: an undefined opcode or a reserved value makes the descriptor MALFORMED. -/
def descBad (c : Nat) (ws : DescWords) : Bool := !opcodeDefined c (dOpcode ws) || !reservedClear c ws

/-! ## Ring state -/

def ringSize (r : Ring) : Nat := 2 ^ r.log2

/-- STATE of Table HIF-12: 0 off, 1 running, 2 stopping, 3 error. -/
def ringState (d : Dev) (n : Nat) : Nat := d.getN Reg.HIF_RINGn_STAT.STATE n

def ringRuns (d : Dev) (n : Nat) : Bool := ringState d n == 1

/-- Does ring n run with this class? A ring of class SPRD meets every requirement for RXH (R461). -/
def ringIs (d : Dev) (n cls : Nat) : Bool :=
  ringRuns d n && ((d.ring n).cls == cls || (cls == clsRxh && (d.ring n).cls == clsSprd))

/-- The device writes nothing to host memory: the host is stalled with QUIESCE = 1 (R489), or the link has been
down (R490), or HST is not running. -/
def hifQuiet (d : Dev) : Bool :=
  d.hif.linkHold || (d.on Reg.HIF_STATUS.STALL && d.on Reg.HIF_CTRL.QUIESCE) || !d.up islHst

/-- Completion slots in use or promised: CPROD − CCONS and the completions owed. -/
def slotsUsed (d : Dev) (n : Nat) : Nat :=
  (d.getN Reg.HIF_RINGn_CPROD.N n + 2 ^ 32 - (d.ring n).ccons) % 2 ^ 32

/-- Has a device-to-host ring a free descriptor (R468)? -/
def ringFree (d : Dev) (n : Nat) : Bool :=
  ringRuns d n && !hifQuiet d && !(d.ring n).posted.isEmpty &&
    decide (slotsUsed d n + (d.ring n).owed.length < ringSize (d.ring n))

/-- An entry is not delivered: the control block's DROP and HIF_RINGn_DROP count it (R468, R14). -/
def ringDrop (n : Nat) (d : Dev) : Dev :=
  let r := d.ring n
  (d.setRing n { r with drop := (r.drop + 1) % 2 ^ 32 }).sat Reg.HIF_RINGn_DROP.N n

def hostWrite (w : HostWrite) (d : Dev) : Dev := { d with hif := { d.hif with sent := d.hif.sent ++ [w] } }

/-- A completion becomes owed. -/
def owe (n : Nat) (o : Owed) (d : Dev) : Dev :=
  let r := d.ring n
  d.setRing n { r with owed := r.owed ++ [o] }

/-- The owed completion of a descriptor. -/
def owedOf (cls idx : Nat) (ws : DescWords) (status len : Nat) (ext : List Byte) : Owed :=
  ⟨idx, dTag ws, status, false, len, ext, dOrd ws && !toHost cls, dIrq ws,
    if dSig ws && !toHost cls then some (dSigTok ws) else none, none⟩

/-- The outcome of a delivery to a device-to-host ring. -/
inductive Delivery where
  | sent | dropped | noSpace
  deriving DecidableEq, Repr

/-- The buffer at the head of a device-to-host ring is used: its descriptor is taken and its completion is owed (R467,
R472). -/
def useBuffer (n : Nat) (b : Posted) (status : Nat) (more : Bool) (len : Nat) (ext : List Byte) (d : Dev) : Dev :=
  let r := d.ring n
  owe n ⟨b.idx, b.tag, status, more, len, ext, false, b.irq, none, none⟩
    ((d.setRing n { r with posted := r.posted.tail }).setN Reg.HIF_RINGn_DCONS.N n (b.idx + 1))

/-- Descriptors without a buffer complete once they are at the head (R8, R471, R472). -/
def skipBad (n : Nat) : Nat → Dev → Dev
  | 0, d => d
  | fuel + 1, d =>
    match (d.ring n).posted with
    | b :: _ => if b.st = stOk then d else skipBad n fuel (useBuffer n b b.st false 0 [] d)
    | [] => d

/-- Write one record or frame into the next posted buffer of a device-to-host ring (R468, R472, R478): with no free
descriptor the entry is dropped and counted; a buffer that is too small completes with NO_SPACE and the bytes
needed. -/
def deliverSt (n : Nat) (bytes ext : List Byte) (more : Bool) (status : Nat) (d : Dev) : Delivery × Dev :=
  let r := d.ring n
  match r.posted with
  | b :: rest =>
    if ringFree d n then
      if b.len < bytes.length then
        (.noSpace, skipBad n rest.length (useBuffer n b stNoSpace false bytes.length [] d))
      else
        (.sent, skipBad n rest.length (useBuffer n b status more bytes.length ext
          (hostWrite (.data b.addr bytes (d.on Reg.HIF_CTRL.RO_EN)) d)))
    else (.dropped, ringDrop n d)
  | [] => (.dropped, ringDrop n d)

/-- A delivery whose completion carries OK. -/
def deliver (n : Nat) (bytes ext : List Byte) (d : Dev) : Delivery × Dev := deliverSt n bytes ext false stOk d

/-! ## Taking and starting descriptors -/

/-- The token comparison of R481. -/
def tokenReached (d : Dev) (tok val : Nat) : Bool := decide (0 ≤ sdiff (2 ^ 16) (d.getN Reg.HIF_TOKk.VAL tok) val)

/-- The index of the next descriptor to read. A device-to-host ring takes a descriptor when it uses its buffer. -/
def nextDesc (d : Dev) (n : Nat) : Nat :=
  let r := d.ring n
  let k := d.getN Reg.HIF_RINGn_DCONS.N n
  if toHost r.cls then (k + r.taken.length + r.posted.length) % 2 ^ 32 else k

/-- Take the descriptors read from the next index on, up to PROD − 1 (R467); a malformed one completes at once without
being performed (R471), and so does a request that Xaorn cannot take (R565, R626, R629). On a device-to-host ring they wait
in ring order to be used (R472). -/
def takeDescs (t : Time) (n : Nat) : List DescWords → Dev → Dev
  | [], d => d
  | ws :: rest, d =>
    let r := d.ring n
    let k := nextDesc d n
    let wait : Ring := { r with
      taken := r.taken ++ [⟨k, ws, false⟩], headSince := if r.taken.isEmpty then t.loc else r.headSince }
    if !ringRuns d n || hifQuiet d || k = r.prod then d
    else if toHost r.cls then takeDescs t n rest (d.setRing n wait)
    else
      let d1 := d.setN Reg.HIF_RINGn_DCONS.N n (k + 1)
      let d2 :=
        if descBad r.cls ws then owe n (owedOf r.cls k ws stMalformed 0 []) d1
        else if r.cls = clsMbox ∧ 0x10 ≤ dOpcode ws ∧ !xaornUp d then
          owe n (owedOf r.cls k ws (mboxStatus d) 0 []) d1
        else d1.setRing n wait
      takeDescs t n rest d2

/-- May the head descriptor start? No fence is in progress ahead of it and its token wait, if any, is over (R480,
R481). DEDUCED: while the device writes nothing to host memory (R489, R490), none starts. -/
def headReady (d : Dev) (n : Nat) : Option Taken :=
  if !ringRuns d n || hifQuiet d || (d.ring n).fence.isSome then none
  else match (d.ring n).taken with
    | [] => none
    | h :: _ =>
      if toHost (d.ring n).cls || !dWait h.words || h.released || tokenReached d (dWaitTok h.words) (dWaitVal h.words)
      then some h else none

/-- The head descriptor of a ring of this class, if it may start and has this opcode. -/
def startable (d : Dev) (n cls op : Nat) : Option Taken :=
  if n < 256 ∧ (d.ring n).cls = cls then
    match headReady d n with
    | some h => if dOpcode h.words = op then some h else none
    | none => none
  else none

/-- The head leaves the descriptors that wait. -/
def popHead (t : Time) (n : Nat) (d : Dev) : Dev :=
  let r := d.ring n
  d.setRing n { r with taken := r.taken.tail, headSince := t.loc }

/-- The head starts: its work has begun and its completion is not yet due. -/
def startHead (t : Time) (n : Nat) (h : Taken) (d : Dev) : Dev :=
  let d1 := popHead t n d
  let r := d1.ring n
  d1.setRing n { r with started := r.started ++ [(h.idx, h.words)] }

/-- The head completes without having been started (R483), or by work that is done at once. -/
def completeHead (t : Time) (n : Nat) (h : Taken) (status len : Nat) (ext : List Byte) (d : Dev) : Dev :=
  owe n (owedOf (d.ring n).cls h.idx h.words status len ext) (popHead t n d)

/-- A started descriptor's work ends: its completion becomes owed. A ring that an HRST has reset no longer knows
the descriptor, and its completion is discarded (R493). -/
def endStarted (n idx status len : Nat) (ext : List Byte) (stampPort : Option Nat) (d : Dev) : Dev :=
  let r := d.ring n
  match r.started.find? (fun e => e.1 == idx) with
  | none => d
  | some e =>
    let d1 := d.setRing n { r with started := r.started.filter fun e => e.1 != idx }
    owe n { owedOf r.cls idx e.2 status len ext with stampPort := stampPort } d1

/-- Does ring n still owe the completion of descriptor idx? -/
def owes (d : Dev) (n idx : Nat) : Bool := (d.ring n).owed.any fun o => o.idx == idx

/-- The entry in descriptor idx of a device-to-host ring is cut short while its completion is owed: it completes with
ABORTED_RESET and no bytes. -/
def cutEntry (n idx : Nat) (d : Dev) : Dev :=
  let r := d.ring n
  d.setRing n { r with owed := r.owed.map fun o =>
    if o.idx = idx then { o with status := stAborted, more := false, len := 0, ext := [] } else o }

/-- The diagnostic buffer of the converters that lies in the head buffer of ring n is lost (R285, R463). -/
def entryAborted (n : Nat) (d : Dev) : Dev :=
  if d.adc.diag.isEmpty || d.get Reg.ADC_CTRL.DIAG_RING != n then d
  else
    let d1 := { d with adc := { d.adc with diag := [] } }
    match (d.ring n).posted with
    | b :: _ => useBuffer n b stAborted false 0 [] d1
    | [] => d1

/-- Every descriptor taken and not started completes with ABORTED_RESET, on a device-to-host ring the entry being written;
buffers that wait to be used have not been taken (R463, R491). -/
def abortTaken (n : Nat) (d : Dev) : Dev :=
  let r := d.ring n
  if toHost r.cls then
    let d1 := entryAborted n d
    d1.setRing n { d1.ring n with taken := [], posted := [] }
  else
    d.setRing n { r with
      taken := [], owed := r.owed ++ r.taken.map fun h => owedOf r.cls h.idx h.words stAborted 0 [] }

/-- The Logbook reader stops without completing its partly filled buffer (R587). -/
def readerStop (d : Dev) : Dev :=
  { d.set Reg.LOG_RD_STAT.RUN 0 with rdr := { d.rdr with buf := [] } }

/-- The reader's ring is gone (R587). -/
def ringGone (n : Nat) (d : Dev) : Dev :=
  if d.on Reg.LOG_RD_STAT.RUN && d.rdr.ring == n then readerStop d else d

/-! ## MSI-X (R485 to R487, R489) -/

/-- May a message of this vector be sent now? -/
def msiOpen (d : Dev) (vec : Nat) : Bool :=
  d.hif.msixEn && !d.hif.funcMask && !d.onN Reg.T_MSIX.MASK vec && !hifQuiet d

def pbaBit (d : Dev) (vec : Nat) : Bool := (d.getN Reg.T_MSIXPBA.P (vec / 32)).testBit (vec % 32)

def setPba (vec : Nat) (b : Bool) (d : Dev) : Dev :=
  let w := d.getN Reg.T_MSIXPBA.P (vec / 32)
  if w.testBit (vec % 32) == b then d
  else d.setN Reg.T_MSIXPBA.P (vec / 32) (w ^^^ 2 ^ (vec % 32))

/-- A requested message is sent, or its vector's pending bit is set (R487). -/
def sendMessage (vec : Nat) (d : Dev) : Dev :=
  if msiOpen d vec then hostWrite (.message vec) d else setPba vec true d

/-- Send one message per pending vector that is no longer held back (R487, R489). -/
def msiFlush (d : Dev) : Dev :=
  (List.range 64).foldl (fun d v =>
    if pbaBit d v && msiOpen d v then hostWrite (.message v) (setPba v false d) else d) d

/-! ## Completions -/

/-- A descriptor of this index or an earlier one is not complete (R479). -/
def earlierOpen (r : Ring) (idx : Nat) : Bool :=
  r.taken.any (fun h => decide (sdiff (2 ^ 32) h.idx idx < 0)) ||
  r.started.any (fun e => decide (sdiff (2 ^ 32) e.1 idx < 0)) ||
  r.owed.any (fun o => decide (sdiff (2 ^ 32) o.idx idx < 0))

/-- The next completion to write: on a device-to-host ring the oldest; else the oldest that ORD does not hold back
(R472, R479). -/
def nextOwed (r : Ring) : Option Owed :=
  if toHost r.cls then r.owed.head?
  else r.owed.find? fun o => !(o.ord && earlierOpen r o.idx)

/-- The 32 bytes of a completion (Table HIF-5). -/
def Compl.bytes (c : Compl) : List Byte :=
  le 2 c.tag ++ le 1 c.status ++ le 1 (c.phase + 2 * b2n c.more) ++ le 2 c.didx ++ le 2 0 ++ le 4 c.len ++ le 4 c.t ++
    slice c.ext 0 16

/-- Moderation after a completion (R486). -/
def moderate (t : Time) (n : Nat) (irq : Bool) (d : Dev) : Dev :=
  let r := d.ring n
  if !r.irqEn then d
  else
    let c := r.modCount + 1
    if irq || max 1 r.modCnt ≤ c then (d.setRing n { r with modCount := 0, modSince := none }).request r.vec
    else d.setRing n { r with modCount := c, modSince := some (r.modSince.getD t.loc) }

/-- A transmit stamp queue entry is freed (R142). -/
def freeStamp (port : Nat) (o : TxOrigin) (d : Dev) : Dev :=
  let p := d.port port
  let s := p.stamps.eraseP fun e => e.1 == o
  (d.setPort port { p with stamps := s }).setN Reg.FP_TS_CNT.PENDING port s.length

/-- Write the next completion of ring n (R467 to R469, R478, R481, R483, R486). -/
def completionWrite (t : Time) (n : Nat) (d : Dev) : Dev :=
  let r := d.ring n
  let k := d.getN Reg.HIF_RINGn_CPROD.N n
  if hifQuiet d || ringState d n = 0 || ringSize r ≤ slotsUsed d n then d
  else match nextOwed r with
    | none => d
    | some o =>
      let slot := k % ringSize r
      let c : Compl := ⟨o.tag, o.status, 1 - (k >>> r.log2) % 2, o.more, o.idx % ringSize r, o.len, t.st32, o.ext⟩
      let fenced := r.fence == some o.idx
      let r1 : Ring :=
        { r with
          owed := r.owed.erase o, fence := (if fenced then none else r.fence),
          headSince := (if fenced then t.loc else r.headSince) }
      let d1 := hostWrite (.completion (r.cbase + 32 * slot) c)
        ((d.setRing n r1).setN Reg.HIF_RINGn_CPROD.N n (k + 1))
      let d2 := hostWrite (.writeBack
        (d.getN Reg.HIF_RINGn_CBA_LO.ADDR n * 64 + 2 ^ 32 * d.getN Reg.HIF_RINGn_CBA_HI.ADDR n)
        (d1.getN Reg.HIF_RINGn_DCONS.N n) (d1.getN Reg.HIF_RINGn_CPROD.N n) r.drop) d1
      let d3 := match o.sig with
        | some tok => d2.setN Reg.HIF_TOKk.VAL tok (d2.getN Reg.HIF_TOKk.VAL tok + 1)
        | none => d2
      let d4 := match o.stampPort with
        | some p => freeStamp p (.desc n o.idx) d3
        | none => d3
      let d5 := if r.cls = clsLogs ∧ o.status = stOk then d4.set Reg.LOG_RD_NEXT.SEQ (leVal (slice o.ext 4 4) + 1) else d4
      moderate t n o.irq d5

def execCompletionWrite (n : Nat) (s : State) : Host.Outcome State Fault Refusal :=
  run s fun t d => if n < 256 then completionWrite t n d else d

/-! ## Enabling and disabling (R462, R463) -/

/-- The control block's fields make a ring (R462). -/
def ringOfBlock (cb : DescWords) (loc : Nat) : Ring :=
  { (default : Ring) with
    dbase := dw cb 0 + 2 ^ 32 * dw cb 1, cbase := dw cb 2 + 2 ^ 32 * dw cb 3, log2 := bits (dw cb 4) 0 8,
    cls := bits (dw cb 4) 8 8, vec := bits (dw cb 4) 16 6, poll := bits (dw cb 4) 24 1 != 0,
    irqEn := bits (dw cb 4) 25 1 != 0, modCnt := bits (dw cb 5) 0 16, modTime := bits (dw cb 5) 16 16,
    headSince := loc, lastPoll := loc }

/-- The refusals of R462. -/
def ringRefused (r : Ring) : Bool :=
  (1 ≤ r.log2 && r.log2 ≤ 3) || 16 < r.log2 || r.cls == 0 || 11 < r.cls || r.dbase % 64 != 0 || r.cbase % 64 != 0 ||
    (decide (r.dbase < r.cbase + 32 * ringSize r) && decide (r.cbase < r.dbase + 64 * ringSize r))

/-- A write to a register or a table word of an island that does not accept requests is discarded (R616); in POR there is no
register to show it. -/
def onWrite (addr : Nat) (f : Dev → Dev) (d : Dev) : Dev :=
  if d.up (islandOf addr) then f d else if d.pwr.released then d.set Reg.GLB_STATUS.ISL_RST_WR 1 else d

/-- EN goes from 0 to 1 and the control block is read (R462); `none` is a read that failed. -/
def ringEnable (t : Time) (n : Nat) (cb : Option DescWords) (d : Dev) : Dev :=
  if ringState d n ≠ 0 ∨ d.onN Reg.HIF_RINGn_CTRL.EN n then d
  else match cb with
    | none =>
      ((((d.setN Reg.HIF_RINGn_STAT.EN_STATUS n stRejected).setN Reg.HIF_RINGn_STAT.DMA_ERR n 1).cause intHif 4 n
        stRejected).cause intHif 2 n stRejected).set Reg.HIF_ERR_RING.RING n |>.set Reg.HIF_ERR_RING.STATUS stRejected
    | some ws =>
      let r := ringOfBlock ws t.loc
      if r.log2 = 0 then d.setN Reg.HIF_RINGn_STAT.EN_STATUS n stSkipped
      else if ringRefused r then (d.setN Reg.HIF_RINGn_STAT.EN_STATUS n stRejected).cause intHif 4 n stRejected
      else
        (((((d.setRing n r).setN Reg.HIF_RINGn_CTRL.EN n 1).setN Reg.HIF_RINGn_STAT.STATE n 1).setN
          Reg.HIF_RINGn_STAT.EN_STATUS n stOk).setN Reg.HIF_RINGn_DCONS.N n 0).setN Reg.HIF_RINGn_CPROD.N n 0

def execRingEnable (n : Nat) (cb : Option DescWords) (s : State) : Host.Outcome State Fault Refusal :=
  run s fun t d => if n < 256 then onWrite 0xF2000 (ringEnable t n cb) d else d

/-- A stopping ring with no started work and no owed completion is off (R463). -/
def ringStopped (n : Nat) (d : Dev) : Dev :=
  let r := d.ring n
  if ringState d n = 2 ∧ r.started.isEmpty ∧ r.owed.isEmpty then
    (d.setRing n default).setN Reg.HIF_RINGn_STAT.STATE n 0
  else d

def execRingStopped (n : Nat) (s : State) : Host.Outcome State Fault Refusal :=
  run s fun _ d => ringStopped n d

/-! ## Doorbells (R464 to R466, R634) -/

/-- A doorbell is ignored and counted (R465). -/
def doorbellBad (n : Option Nat) (d : Dev) : Dev :=
  let d1 := (d.sat Reg.HIF_CNT_DBX.N).cause intHif 0 (n.getD 0) 0
  match n with
  | some k => d1.setN Reg.HIF_RINGn_STAT.DB_BAD k 1
  | none => d1

/-- A new PROD or CCONS for ring n, with the descriptors the device then reads (R464 to R467). -/
def doorbell (t : Time) (n : Nat) (prod ccons : Option Nat) (descs : List DescWords) (d : Dev) : Dev :=
  let r := d.ring n
  let dcons := d.getN Reg.HIF_RINGn_DCONS.N n
  let cprod := d.getN Reg.HIF_RINGn_CPROD.N n
  let p := (prod.getD r.prod) % 2 ^ 32
  let c := (ccons.getD r.ccons) % 2 ^ 32
  if ringState d n ≠ 1 ∨ sdiff (2 ^ 32) p r.prod < 0 ∨ ringSize r < (p + 2 ^ 32 - dcons) % 2 ^ 32 ∨
      sdiff (2 ^ 32) c r.ccons < 0 ∨ 0 < sdiff (2 ^ 32) c cprod then doorbellBad (some n) d
  else takeDescs t n descs (d.setRing n { r with prod := p, ccons := c })

/-- A BAR2 write of `size` bytes at offset `ofs` (R464, R465, R634). -/
def bar2Write (t : Time) (ofs size v : Nat) (descs : List DescWords) (d : Dev) : Dev :=
  let n := ofs / 8
  if 0x7FF < ofs then doorbellBad none d
  else if size = 8 ∧ ofs % 8 = 0 then doorbell t n (some (v % 2 ^ 32)) (some (v / 2 ^ 32 % 2 ^ 32)) descs d
  else if size = 4 ∧ ofs % 8 = 0 then doorbell t n (some (v % 2 ^ 32)) none descs d
  else if size = 4 ∧ ofs % 8 = 4 then doorbell t n none (some (v % 2 ^ 32)) descs d
  else doorbellBad none d

def execDoorbell (ofs size v : Nat) (descs : List DescWords) (s : State) : Host.Outcome State Fault Refusal :=
  run s fun t d => if d.up islHst then bar2Write t ofs size v descs d else d

/-- The device reads PROD and CCONS of a polled ring (R466). -/
def execRingPoll (n prod ccons : Nat) (descs : List DescWords) (s : State) : Host.Outcome State Fault Refusal :=
  run s fun t d =>
    let r := d.ring n
    let ns := d.get Reg.HIF_POLL_NS.NS
    if n < 256 ∧ ringRuns d n ∧ r.poll ∧ ns ≠ 0 ∧ max 250 ns ≤ t.loc - r.lastPoll then
      doorbell t n (some prod) (some ccons) descs (d.setRing n { r with lastPoll := t.loc })
    else d

/-! ## Descriptors without an engine of their own -/

/-- A NOP completes without action (R470). -/
def descNop (t : Time) (n : Nat) (d : Dev) : Dev :=
  match headReady d n with
  | some h =>
    if n < 256 ∧ !toHost (d.ring n).cls ∧ dOpcode h.words = 0 then completeHead t n h stOk 0 [] d else d
  | none => d

def execDescNop (n : Nat) (s : State) : Host.Outcome State Fault Refusal := run s fun t d => descNop t n d

/-- A FENCE starts once every earlier descriptor of its ring has completed, and holds the later ones until its own
completion is written (R480). -/
def descFence (t : Time) (n : Nat) (d : Dev) : Dev :=
  let r := d.ring n
  match headReady d n with
  | some h =>
    if n < 256 ∧ !toHost r.cls ∧ dOpcode h.words = 1 ∧ r.started.isEmpty ∧ r.owed.isEmpty then
      let d1 := completeHead t n h stOk 0 [] d
      d1.setRing n { d1.ring n with fence := some h.idx }
    else d
  | none => d

def execDescFence (n : Nat) (s : State) : Host.Outcome State Fault Refusal := run s fun t d => descFence t n d

/-- The head's token has reached WAITVAL: its wait is over (R481). -/
def tokenWaitStart (n : Nat) (d : Dev) : Dev :=
  let r := d.ring n
  match r.taken with
  | h :: rest =>
    if n < 256 ∧ ringRuns d n ∧ !toHost r.cls ∧ dWait h.words ∧ tokenReached d (dWaitTok h.words) (dWaitVal h.words) then
      d.setRing n { r with taken := { h with released := true } :: rest }
    else d
  | [] => d

def execTokenWaitStart (n : Nat) (s : State) : Host.Outcome State Fault Refusal := run s fun _ d => tokenWaitStart n d

/-- The head has waited on its token longer than HIF_FENCE.TMO (R482). -/
def fenceTimeout (t : Time) (n : Nat) (d : Dev) : Dev :=
  let r := d.ring n
  let tmo := d.get Reg.HIF_FENCE.TMO
  match r.taken with
  | h :: _ =>
    if n < 256 ∧ ringRuns d n ∧ !toHost r.cls ∧ dWait h.words ∧ !h.released ∧ r.fence.isNone ∧
        !tokenReached d (dWaitTok h.words) (dWaitVal h.words) ∧ tmo ≠ 0 ∧ tmo * 1000000 < t.loc - r.headSince then
      (completeHead t n h stLimit 0 [] d).cause intHif 1 n stLimit
    else d
  | [] => d

def execFenceTimeout (n : Nat) (s : State) : Host.Outcome State Fault Refusal := run s fun t d => fenceTimeout t n d

/-- What a descriptor of a device-to-host ring will complete with if it gives no buffer: MALFORMED, or SKIPPED_ZERO for LEN 0
(R471, R8). -/
def bufStatus (cls : Nat) (ws : DescWords) : Nat :=
  if descBad cls ws then stMalformed else if dLen ws = 0 then stSkipped else stOk

/-- A BUF descriptor posts its buffer (R472). -/
def bufPost (t : Time) (n : Nat) (d : Dev) : Dev :=
  match headReady d n with
  | some h =>
    if n < 256 ∧ toHost (d.ring n).cls then
      let d1 := popHead t n d
      let r := d1.ring n
      let b : Posted :=
        ⟨h.idx, dTag h.words, dIrq h.words, dAddr h.words, dLen h.words, bufStatus r.cls h.words⟩
      skipBad n 1 (d1.setRing n { r with posted := r.posted ++ [b] })
    else d
  | none => d

def execBufPost (n : Nat) (s : State) : Host.Outcome State Fault Refusal := run s fun t d => bufPost t n d

/-! ## Messages -/

def msixMessage (vec : Nat) (d : Dev) : Dev :=
  if vec ∈ d.hif.msgReq then
    sendMessage vec { d with hif := { d.hif with msgReq := d.hif.msgReq.erase vec } }
  else d

def execMsixMessage (vec : Nat) (s : State) : Host.Outcome State Fault Refusal := run s fun _ d => msixMessage vec d

/-- MOD_TIME has passed since the first counted completion (R486). -/
def moderationTimer (t : Time) (n : Nat) (d : Dev) : Dev :=
  let r := d.ring n
  match r.modSince with
  | some s0 =>
    if r.irqEn ∧ r.modTime ≠ 0 ∧ r.modTime * 1000 ≤ t.loc - s0 then
      (d.setRing n { r with modCount := 0, modSince := none }).request r.vec
    else d
  | none => d

def execModerationTimer (n : Nat) (s : State) : Host.Outcome State Fault Refusal := run s fun t d => moderationTimer t n d

/-- A mask is lifted or set, or MSI-X Enable is written (R487). -/
def msixControl (c : MsixCtl) (d : Dev) : Dev :=
  msiFlush (match c with
    | .vector v => if v < 64 then onWrite 0xF8000 (fun d => d.setN Reg.T_MSIX.MASK v 0) d else d
    | .funcMask b => { d with hif := { d.hif with funcMask := b } }
    | .enable b => { d with hif := { d.hif with msixEn := b } })

def execMsixUnmask (c : MsixCtl) (s : State) : Host.Outcome State Fault Refusal := run s fun _ d => msixControl c d

/-! ## The host's presence (R488 to R490) -/

/-- The host is declared stalled (R488). -/
def declareStall (d : Dev) : Dev := (d.set Reg.HIF_STATUS.STALL 1).cause intHif 3 0 0

def hostStall (t : Time) (d : Dev) : Dev :=
  let tmo := d.get Reg.HIF_HB_CFG.TMO
  if d.up islHst ∧ tmo ≠ 0 ∧ !d.on Reg.HIF_STATUS.STALL ∧ tmo * 1000000 ≤ t.loc - d.hif.lastHb then declareStall d else d

def execHostStall (s : State) : Host.Outcome State Fault Refusal := run s fun t d => hostStall t d

/-- A write to HIF_HB is a heartbeat: STALL clears and the device resumes (R489, R490). -/
def heartbeat (t : Time) (v : Word32) (d : Dev) : Dev :=
  let d1 := (d.set Reg.HIF_HB.CNT v.toNat).set Reg.HIF_STATUS.STALL 0
  msiFlush { d1 with hif := { d1.hif with
    lastHb := t.loc, linkHold := d1.hif.linkHold && !d1.on Reg.HIF_STATUS.LINK } }

def execHeartbeat (v : Word32) (s : State) : Host.Outcome State Fault Refusal :=
  run s fun t d => onWrite 0xF0010 (heartbeat t v) d

/-- The link goes down without a reset (R490). -/
def pcieLinkDown (d : Dev) : Dev :=
  if d.on Reg.HIF_STATUS.LINK then
    let d1 := (((d.set Reg.HIF_STATUS.LINK 0).set Reg.HIF_STATUS.WIDTH 0).set Reg.HIF_STATUS.SPEED 0)
    declareStall { d1 with hif := { d1.hif with linkHold := true } }
  else d

def execPcieLinkDown (s : State) : Host.Outcome State Fault Refusal := run s fun _ d => pcieLinkDown d

end Sys2Proof.Machine
end

