-- ==== Sys2Proof/Machine/Hamper.lean ====
section
/-!
DEFINITION. The Hamper: reading and writing its words, lasting faults and fences, partitions, patrol scrub and the
BAR4 window (the chapter on the Hamper).
-/

namespace Sys2Proof.Machine

open Sys2Proof

def Dev.modHmp (d : Dev) (f : Hmp → Hmp) : Dev := { d with hmp := f d.hmp }

/-! ## Addresses (Table HMP-1). A word address is A / 4. -/

def hQuad (w : Nat) : Nat := w / 2 ^ 22 % 8
def hBank (w : Nat) : Nat := hQuad w * 8 + w / 16 % 8
def hWordIdx (w : Nat) : Nat := w / 128 % 2 ^ 15 * 16 + w % 16

/-- Words of the Hamper. -/
def hWords : Nat := 2 ^ 25

/-- Does the quadrant of this word accept requests (R21)? -/
def hUp (d : Dev) (w : Nat) : Bool := d.up (islHmp (hQuad w))

/-- The entries of a bank's bad-word map. -/
def hMap (d : Dev) (b : Nat) : List BadWord := tget d.hmp.maps b

/-- Is the word fenced? -/
def hFenced (d : Dev) (w : Nat) : Bool := (hMap d (hBank w)).any fun e => e.word == hWordIdx w

/-- HMP_MAP_DATA.CAUSE (Table HMP-12). -/
def hCauseCode : HCause → Nat
  | .selfTest => 0
  | .engine => 1
  | .scrub => 2
  | .bar4 => 3

/-- Fenced words in all banks and in each quadrant, and the full-map bits, follow the maps. -/
def hCounts (w : Nat) (d : Dev) : Dev :=
  let q := hQuad w
  let inQ := ((List.range 8).map fun k => (hMap d (q * 8 + k)).length).sum
  let all := (d.hmp.maps.map fun e => e.2.length).sum
  (d.set Reg.HMP_STATUS.FENCED all).setN Reg.HMP_QSTATq.FENCED q inQ

/-- Set a bank's bit in HMP_MAPFULL. -/
def setMapFull (b : Nat) (d : Dev) : Dev :=
  let f := if b < 32 then Reg.HMP_MAPFULL_LO.BANK else Reg.HMP_MAPFULL_HI.BANK
  if (d.get f).testBit (b % 32) then d else d.set f (d.get f + 2 ^ (b % 32))

/-- Enter a word in its bank's bad-word map. -/
def fence (w : Nat) (c : HCause) (d : Dev) : Dev :=
  let b := hBank w
  hCounts w (d.modHmp fun h => { h with maps := tset h.maps b (hMap d b ++ [⟨hWordIdx w, c⟩]) })

/-- A lasting fault is found (R104, R106): the word is fenced, unless its bank's map is full. -/
def lasting (w : Nat) (c : HCause) (d : Dev) : Dev :=
  let b := hBank w
  let d1 := ((d.sat Reg.HMP_CNT_LAST.N).cause intHmp 0 b (hWordIdx w))
  if (hMap d b).length < 32 then fence w c d1
  else (setMapFull b d1).cause intHmp 1 b (hWordIdx w)

/-- The words of a word's line whose stored parity is wrong and that no fence covers. -/
def badInLine (d : Dev) (w : Nat) : List Nat :=
  (d.hmp.mem.filter fun e => e.1 / 16 == w / 16 && e.2.bad && !hFenced d e.1).map fun e => e.1

/-- A read checks the parity of every word in its line (R101): each wrong one that is not fenced is a lasting fault (R104 to
R106). -/
def lineCheck (c : HCause) (w : Nat) (d : Dev) : Dev :=
  if hUp d w then (badInLine d w).foldl (fun x v => lasting v c x) d else d

/-- The word a read of a checked line delivers (R104, R105). A quadrant in reset completes the read with ABORTED_RESET (R21),
and what the reader then takes for the word is not stated: a free value. -/
def hval (w : Nat) (d : Dev) : Word32 × Dev :=
  if !hUp d w then (Config.freeWord d.draw.1, d.draw.2)
  else if hFenced d w || (tget d.hmp.mem w).bad then (wParity, d)
  else ((tget d.hmp.mem w).v, d)

/-- A word is read. -/
def hread (c : HCause) (w : Nat) (d : Dev) : Word32 × Dev := hval w (lineCheck c w d)

/-- Consecutive words are read, each line once; `fresh` says that the line of the first word has not been read yet. -/
def hreadLines (c : HCause) : Nat → Bool → Nat → Dev → List Word32 × Dev
  | 0, _, _, d => ([], d)
  | n + 1, fresh, w, d =>
    let (x, d1) := if fresh then hread c w d else hval w d
    let (xs, d2) := hreadLines c n ((w + 1) % 16 == 0) (w + 1) d1
    (x :: xs, d2)

def hreadMany (c : HCause) (w n : Nat) (d : Dev) : List Word32 × Dev := hreadLines c n true w d

/-- Does reading a word meet a lasting fault? -/
def hBad (d : Dev) (w : Nat) : Bool := hFenced d w || (tget d.hmp.mem w).bad

/-- A word is written with good parity (R100); a fenced word waits for its two check reads (R107). A quadrant in reset
takes no write (R21). -/
def hwrite (w : Nat) (v : Word32) (d : Dev) : Dev :=
  if !hUp d w then d
  else if hFenced d w then d.modHmp fun h => { h with checks := fmInsert h.checks w v }
  else d.modHmp fun h => { h with mem := tset h.mem w ⟨v, false⟩ }

/-- Consecutive words are written. -/
def hwriteMany (w : Nat) (vs : List Word32) (d : Dev) : Dev :=
  match vs with
  | [] => d
  | v :: vs => hwriteMany (w + 1) vs (hwrite w v d)

/-- The replay of a parity error has read the word again (R102 to R104): transient, or lasting. -/
def hamperReplay (w : Nat) (c : HCause) (again : Bool) (d : Dev) : Dev :=
  if hWords ≤ w ∨ !hUp d w ∨ hFenced d w then d
  else if again then lasting w c (d.modHmp fun h => { h with mem := tset h.mem w { tget h.mem w with bad := true } })
  else (d.sat Reg.HMP_CNT_TRANS.N).sat Reg.HMP_QSTATq.TRANS (hQuad w)

def execHamperReplay (a : Nat) (c : HCause) (again : Bool) (s : State) : Host.Outcome State Fault Refusal :=
  run s fun _ d => hamperReplay (a / 4) c again d

/-- The two check reads after a write to a fenced word (R107). -/
def fenceReleaseCheck (w : Nat) (good : Bool) (d : Dev) : Dev :=
  match fmLook d.hmp.checks w with
  | none => d
  | some v =>
    let d1 := d.modHmp fun h => { h with checks := fmErase h.checks w }
    let b := hBank w
    if good then
      let d2 := d1.modHmp fun h => { h with
        mem := tset h.mem w ⟨v, false⟩, maps := tset h.maps b ((hMap d b).filter fun e => e.word != hWordIdx w) }
      ((hCounts w d2).sat Reg.HMP_CNT_REL.N).cause intHmp 3 b (hWordIdx w)
    else d1.event 80 b b (hWordIdx w)

def execFenceReleaseCheck (a : Nat) (good : Bool) (s : State) : Host.Outcome State Fault Refusal :=
  run s fun _ d => fenceReleaseCheck (a / 4) good d

/-! ## Partitions (R96 to R98) -/

def partAlign : Nat := 0
def partRaw : Nat := 1
def partCapture : Nat := 2
def partModal : Nat := 3
def partStage : Nat := 4
def partRelay : Nat := 5

/-- First word of a partition and its size in bytes. -/
def partWord (d : Dev) (n : Nat) : Nat := d.getN Reg.HMP_PARTn.BASE n * 2 ^ 18
def partBytes (d : Dev) (n : Nat) : Nat := d.getN Reg.HMP_PARTn.SIZE n * 2 ^ 20

/-- Does the word lie inside partition n? -/
def inPart (d : Dev) (n w : Nat) : Bool := decide (partWord d n ≤ w) && decide (w < partWord d n + partBytes d n / 4)

/-- Parsed frames go to Roll Call: with an absent ALIGN partition they are discarded as with ALIGN off (R98, Table
HMP-4). -/
def alignTakes (d : Dev) : Bool := d.up islAln && d.get Reg.GLB_SPLIT.ALIGN == 1 && partBytes d partAlign != 0

/-- An engine writes consecutive words of a partition: it writes nothing outside it (R97). -/
def partWrite (n w : Nat) (vs : List Word32) (d : Dev) : Dev :=
  match vs with
  | [] => d
  | v :: vs => partWrite n (w + 1) vs (if inPart d n w then hwrite w v d else d)

/-- An engine reads consecutive words of a partition. Of a word that a partition moved since no longer holds it issues no read
(R97), and takes a free value. -/
def partRead (n w k : Nat) (d : Dev) : List Word32 × Dev :=
  if (List.range k).all fun i => inPart d n (w + i) then hreadMany .engine w k d
  else (List.range k).foldl (fun a i =>
    let (x, e) := if inPart d n (w + i) then hread .engine (w + i) a.2
      else (Config.freeWord a.2.draw.1, a.2.draw.2)
    (a.1 ++ [x], e)) ([], d)

/-- Is the owner of partition n active (Table HMP-3)? -/
def partActive (d : Dev) (n : Nat) : Bool :=
  match n with
  | 0 => d.get Reg.GLB_SPLIT.ALIGN == 1
  | 1 => d.get Reg.GLB_SPLIT.PHASOR != 0 || d.get Reg.GLB_SPLIT.CAPTURE != 0
  | 2 => d.get Reg.GLB_SPLIT.CAPTURE != 0
  | 3 => d.get Reg.GLB_SPLIT.MODAL != 0
  | 4 => d.get Reg.GLB_SPLIT.COMP != 0
  | _ => (List.range 4).any fun l => d.onN Reg.DXL_LINKn_CFG.EN l

/-- Would the partition overlap another of nonzero SIZE? -/
def partOverlaps (d : Dev) (n base size : Nat) : Bool :=
  size != 0 && (List.range 6).any fun m =>
    let b := d.getN Reg.HMP_PARTn.BASE m
    let z := d.getN Reg.HMP_PARTn.SIZE m
    m != n && z != 0 && decide (base < b + z) && decide (b < base + size)

/-- R96: is the write rejected? -/
def partBad (d : Dev) (n base size : Nat) : Bool :=
  partOverlaps d n base size || decide (128 < base + size) ||
    (n == partModal && (decide (48 < size) || (size != 0 && decide (2 < (base + size - 1) / 16 - base / 16)))) ||
    partActive d n

/-- GLB_LOCK is set (R30). -/
def locked (d : Dev) : Bool := d.on Reg.GLB_LOCK.LOCK

def writeHmpPart (n : Nat) (v : Word32) (d : Dev) : Dev :=
  let base := bits v.toNat 0 7
  let size := bits v.toNat 8 8
  if 6 ≤ n ∨ locked d then d
  else if partBad d n base size then d.cause intHmp 2 n 0
  else (d.setN Reg.HMP_PARTn.BASE n base).setN Reg.HMP_PARTn.SIZE n size

def execWriteHmpPart (n : Nat) (v : Word32) (s : State) : Host.Outcome State Fault Refusal :=
  run s fun _ d => onWrite 0x20010 (writeHmpPart n v) d

/-! ## Patrol scrub (R109 to R114) -/

/-- Lines of the Hamper, in the order of their addresses. -/
def hLines : Nat := 2 ^ 21

/-- A new pass starts from unit 0 (R114). -/
def scrubStart (t : Time) (d : Dev) : Dev :=
  ((d.modHmp fun h => { h with scrubLine := 0, passStart := t.loc, lateSeen := false }).set
    Reg.HMP_STATUS.SCRUB_RUN 1).set Reg.HMP_SCRUB.UNIT 0

/-- Scrub stops: its pass is cut short and not counted (R114). -/
def scrubStop (d : Dev) : Dev := d.set Reg.HMP_STATUS.SCRUB_RUN 0

/-- SCRUB_EN has been written: a pass starts or is cut short (R114). -/
def scrubEnable (t : Time) (was : Bool) (d : Dev) : Dev :=
  if d.on Reg.HMP_CTRL.SCRUB_EN then
    if was || !d.on Reg.HMP_STATUS.SELFTEST_DONE || d.pwr.doze != .awake then d else scrubStart t d
  else scrubStop d

/-- Scrub reads the sixteen words of its next line, skipping fenced ones (R109), and moves on. -/
def scrubRead (t : Time) (d : Dev) : Dev :=
  if !d.on Reg.HMP_STATUS.SCRUB_RUN then d
  else
    let l := d.hmp.scrubLine
    let d1 := if hUp d (l * 16) then (hreadMany .scrub (l * 16) 16 d).2 else d
    if l + 1 = hLines then scrubStart t (d1.wrapInc Reg.HMP_SCRUB.PASSES)
    else (d1.modHmp fun h => { h with scrubLine := l + 1 }).set Reg.HMP_SCRUB.UNIT ((l + 1) / 2 ^ 14)

def execScrubRead (s : State) : Host.Outcome State Fault Refusal := run s fun t d => scrubRead t d

/-- The pass has run beyond 2.0 s (R112). -/
def scrubPassLate (t : Time) (d : Dev) : Dev :=
  if d.on Reg.HMP_STATUS.SCRUB_RUN && !d.hmp.lateSeen && decide (2000000000 < t.loc - d.hmp.passStart) then
    (d.modHmp fun h => { h with lateSeen := true }).cause intHmp 4 0 0
  else d

def execScrubPassLate (s : State) : Host.Outcome State Fault Refusal := run s fun t d => scrubPassLate t d

/-! ## Self-test (R116, R117) -/

/-- The failing words of one bank beyond its 32 map entries are not fenced (R117). -/
def selfTestWord (w : Nat) (d : Dev) : Dev :=
  let b := hBank w
  if hWords ≤ w ∨ hFenced d w then d
  else
    let d1 := d.modHmp fun h => { h with mem := tset h.mem w ⟨0, true⟩ }
    if (hMap d b).length < 32 then fence w .selfTest d1 else setMapFull b (d1.set Reg.HMP_STATUS.SELFTEST_FAIL 1)

/-- Every word is tested; the words given fail (R116, R117). -/
def hamperSelfTest (bad : List Nat) (d : Dev) : Dev :=
  let d0 := d.modHmp fun h => { h with mem := [], maps := [], checks := [] }
  let d1 := bad.foldl (fun d w => selfTestWord w d) d0
  let lost (b : Nat) : Nat := (bad.eraseDups.filter fun w => decide (w < hWords) && hBank w == b).length
  let d2 := (List.range 64).foldl (fun d b => if 32 < lost b then d.event 81 b b (lost b) else d) d1
  d2.set Reg.HMP_STATUS.SELFTEST_DONE 1

/-! ## BAR4 (R118 to R121) -/

/-- A BAR4 read of the word that holds byte `a` (R118, R120). A quadrant in reset answers ABORTED_RESET, and the word
the host then reads is not stated: a free value. -/
def bar4Read (p : Path) (w : Nat) (d : Dev) : Dev :=
  if !d.on Reg.HMP_CTRL.BAR4_EN then d.answer p 0
  else if hUp d w then
    let (x, d1) := hread .bar4 w d
    d1.answer p x
  else
    let (k, d1) := d.draw
    d1.answer p (Config.freeWord k)

def execBar4Read (p : Path) (a : Nat) (s : State) : Host.Outcome State Fault Refusal :=
  if 2 ^ 27 ≤ a then .fault .outsideWindow else run s fun _ d => bar4Read p (a / 4) d

/-- Writes to BAR4 are discarded and counted (R119). -/
def execBar4Write (a : Nat) (_v : Word32) (s : State) : Host.Outcome State Fault Refusal :=
  if 2 ^ 27 ≤ a then .fault .outsideWindow else run s fun _ d => if d.pwr.released then d.sat Reg.HMP_CNT_BAR4WR.N else d

/-- HMP_MAP_DATA as read through HMP_MAP_SEL (Table HMP-12). -/
def mapDataWord (d : Dev) : Nat :=
  let b := d.get Reg.HMP_MAP_SEL.BANK
  match (hMap d b)[d.get Reg.HMP_MAP_SEL.ENTRY]? with
  | some e => e.word + 2 ^ 19 * (b / 8) + 2 ^ 28 * hCauseCode e.cause + 2 ^ 31
  | none => 0

end Sys2Proof.Machine
end

