-- ==== Sys2Proof/Machine/KeyOps.lean ====
section
/-!
DEFINITION. The use of keys by the engines (R556 to R558, Table KEY-2).
-/

namespace Sys2Proof.Machine

open Sys2Proof

def Dev.keySlot (d : Dev) (s : Nat) : KeySlot := tget d.keys.slots s

/-- Engines of KEY_DENY.ENGINE. -/
def engMsecTx : Nat := 0
def engMsecRx : Nat := 1
def engIngest : Nat := 2
def engOutput : Nat := 3
def engTemplate : Nat := 4
def engDaxide : Nat := 5
def engPtp : Nat := 6

/-- A use is refused (R556). -/
def keyDeny (eng slot reason : Nat) (d : Dev) : Dev :=
  ((((d.sat Reg.T_KSLOT.DENIED slot).sat Reg.KEY_CNT_DENY.N).set Reg.KEY_DENY.SLOT slot).set Reg.KEY_DENY.ENGINE
    eng).set Reg.KEY_DENY.REASON reason |>.cause intKey 0 slot reason

/-- An engine names a slot for a frame: the key it gets, or a refusal (R556 to R558). `usage` is the bit of Table
KEY-2 and `long` asks for 32 bytes. -/
def keyUse (eng inst slot usage : Nat) (long : Bool) (d : Dev) : Option KeyRec × Dev :=
  let me := (eng, inst, slot)
  match (d.keySlot slot).active with
  | none => (none, keyDeny eng slot 0 d)
  | some k =>
    if d.get Reg.GLB_SPLIT.KEY ≠ 1 ∧ me ∉ d.keys.held then (none, keyDeny eng slot 3 d)
    else if !k.usage.testBit usage then (none, keyDeny eng slot 1 d)
    else if long && !k.long then (none, keyDeny eng slot 2 d)
    else
      let d1 := d.wrapInc Reg.T_KSLOT.USES slot
      (some k, if me ∈ d.keys.held then d1 else { d1 with keys := { d1.keys with held := me :: d1.keys.held } })

/-- The usage bit and length of a 90-5 AUTH code (Table KEY-2). -/
def authUsage (auth : Nat) : Nat := if auth = 3 then 2 else 1

/-- Engines let go of the keys of a slot (R558). -/
def keyRelease (slot : Nat) (d : Dev) : Dev :=
  { d with keys := { d.keys with held := d.keys.held.filter fun h => h.2.2 != slot } }

/-- The island an engine's key is used in (R558). -/
def keyIsland (eng inst : Nat) : Nat :=
  if eng = 0 ∨ eng = 1 then islPrt inst
  else if eng = 2 then islIng
  else if eng = 3 then islAln
  else if eng = 4 then islAna
  else if eng = 5 then islDxl inst
  else islAon

end Sys2Proof.Machine
end

