-- ==== Sys2Proof/Machine/Timekeeper.lean ====
section
/-!
DEFINITION. The timekeeper: the counter, host adjustments, references, the servo with its holdover and asymmetry
detector, time quality, TIN, leap seconds and the 1PPS output (the chapter on grid time).
-/

namespace Sys2Proof.Machine

open Sys2Proof

def Dev.modTkp (d : Dev) (f : Tkp → Tkp) : Dev := { d with tkp := f d.tkp }

/-! ## The counter (R34, R45, R67) -/

/-- The index of the servo interval at an instant: 2^INTERVAL of them in each TAI second (R664). -/
def servoIndex (d : Dev) (ns : Nat) : Nat := ns * 2 ^ d.get Reg.TKP_SERVO.INTERVAL / 1000000000

/-- The timekeeper steps while a converter runs (R284): the current slot ends where it would have, and the next one starts on the
first slot boundary of the stepped time from there on. -/
def adcStep (step : Int) (d : Dev) : Dev :=
  (List.range 2).foldl (fun x n =>
    let slot := max 1 (x.getN Reg.ADC_CVn_SLOT.NS n)
    if x.on (if n = 0 then Reg.ADC_STATUS.RUN0 else Reg.ADC_STATUS.RUN1) then
      { x with adc := { x.adc with cv := tmod x.adc.cv n fun c =>
        let u := slot * nsUnit
        { c with next := (((c.next * nsUnit : Nat) + step).toNat + u - 1) / u * slot, stepped := true } } }
    else x) d

/-- Grid time less TKP_TOUT_OFS, whose whole seconds are those of the 1PPS output (R91). -/
def ppsTime (t : Time) (d : Dev) : Int := (t.ns : Int) - sint 32 (d.get Reg.TKP_TOUT_OFS.NS)

/-- The whole seconds of the 1PPS output are counted from now on, after a phase step or a write of TKP_TOUT_OFS: the next pulse
starts at the next of them, one within this tick included (R91). -/
def ppsRealign (t : Time) (d : Dev) : Dev :=
  let x := ppsTime t d
  d.modTkp fun k => { k with ppsLast := ((x - (if x % 1000000000 < tickSpan t d then 1 else 0 : Nat)) / 1000000000).toNat }

/-- Time has been stepped to t: the servo's boundaries and the whole seconds of the 1PPS output are those of the stepped time, and
so are the slots of a running converter (R44, R91, R284, R664). -/
def phaseStepped (t : Time) (step : Int) (d : Dev) : Dev :=
  adcStep step (ppsRealign t ((d.modTkp fun k => { k with
    lastUpd := if step < 0 then min k.lastUpd (servoIndex d t.ns) else k.lastUpd }).cause intTkp 5 0 0))

/-- One 4 ns tick: the frequency word (a new one first), the slew, then any phase step (R34, R45, R66, R67). -/
def tick (t : Time) (d : Dev) : Time × Dev :=
  let k := d.tkp
  let f := k.freqNext.getD k.freq
  let (sl, left, rem) := slewTick (d.get Reg.TKP_SERVO.SLEW_MAX) k.slew k.slewRem
  let cnt : Int := (t.cnt : Int) + 4 * nsUnit + f + sl + k.stepNext
  let t1 : Time := ⟨cnt.toNat, t.ticks + 1⟩
  let d1 := { d with tkp := { k with
    freq := f, freqNext := none, slew := left, slewRem := rem, stepNext := 0, extend := d.on Reg.TKP_CTRL.STMODE } }
  let d2 := d1.set Reg.TKP_STATUS.SLEWING (b2n (left != 0))
  (t1, if k.stepNext = 0 then d2 else phaseStepped t1 k.stepNext d2)

/-! ## Host words and adjustments (R66 to R68) -/

/-- The low word is held while the servo is off or host-assisted (R66). -/
def writeFreqLo (v : Word32) (d : Dev) : Dev :=
  if d.tkp.mode = 1 then d else d.modTkp fun k => { k with freqHeld := v.toNat }

/-- Servo states of Table TKP-5. -/
def svFreerun : Nat := 0
def svAcquire : Nat := 1
def svLocked : Nat := 2
def svHoldover : Nat := 3
def svHost : Nat := 4

def svState (d : Dev) : Nat := d.get Reg.TKP_STATUS.STATE

/-- The state changes: STATE_CHG, the instant at which LOCKED or HOST was left (R83), and the first entry into LOCKED since POR
(R64). -/
def setSvState (t : Time) (x : Nat) (d : Dev) : Dev :=
  let o := svState d
  if o = x then d
  else
    let d1 := (d.set Reg.TKP_STATUS.STATE x).modTkp fun k =>
      { k with leftLock := if (o = 2 ∨ o = 4) ∧ x ≠ 2 ∧ x ≠ 4 then some t.loc else k.leftLock
               lockCnt := 0, unlockCnt := 0, wasLocked := k.wasLocked || x == 2 }
    (if x = 2 then d1.set Reg.TKP_STATUS.EVER_LOCKED 1 else d1).cause intTkp 0 0 x

/-- The high word applies the 40-bit word at the next tick; in host mode the write enters or keeps HOST (R66, R69,
Table TKP-5). DESIGN CHOICE: without a write to TKP_FREQ_LO since the last one, the low word held last is applied again, 0 after
POR. -/
def writeFreqHi (t : Time) (v : Word32) (d : Dev) : Dev :=
  if d.tkp.mode = 1 then d
  else
    let d1 := d.modTkp fun k => { k with freqNext := some (sint 40 (v.toNat % 256 * 2 ^ 32 + k.freqHeld)) }
    if d.tkp.mode = 2 then
      setSvState t svHost (d1.modTkp fun k => { k with hostLast := t.ns, hostWait := false, tmoSeen := false })
    else d1

/-- The frequency word as a 40-bit number. -/
def freqBits (d : Dev) : Nat := unsig 40 d.tkp.freq

/-- A read of TKP_FREQ_LO returns the word in use and latches its high bits (R66). -/
def readFreqLo (p : Path) (d : Dev) : Dev :=
  (d.answer p (BitVec.ofNat 32 (freqBits d))).latch p 0x10024 (freqBits d / 2 ^ 32)

/-- Apply an adjustment in ns from now on: a step at the next tick, or a slew (R67). -/
def applyAdj (v : Int) (d : Dev) : Dev :=
  if d.on Reg.TKP_CTRL.ADJ_MODE then
    (d.modTkp fun k => { k with slew := k.slew + v * nsUnit }).set Reg.TKP_STATUS.SLEWING 1
  else d.modTkp fun k => { k with stepNext := k.stepNext + v * nsUnit }

/-- A write to TKP_ADJ (R67, R68). -/
def writeAdj (v : Word32) (d : Dev) : Dev :=
  if d.on Reg.TKP_ADJ_STAT.PEND then d.cause intTkp 10 0 0
  else if v = 0 then d
  else if d.on Reg.TKP_CTRL.ADJ_TIMED then
    (d.modTkp fun k => { k with adjVal := v.toInt }).set Reg.TKP_ADJ_STAT.PEND 1
  else applyAdj v.toInt d

/-- The pending timed adjustment meets its target (R68): on time or late it is applied at this tick, expired it is
discarded; the status is written and ADJ_DONE set. -/
def timedAdjust (t : Time) (d : Dev) : Time × Dev :=
  if d.on Reg.TKP_ADJ_STAT.PEND then
    let done (v : Verdict) (d : Dev) : Dev :=
      ((d.set Reg.TKP_ADJ_STAT.STATUS v.status).set Reg.TKP_ADJ_STAT.PEND 0).cause intTkp 11 0 v.status
    match verdictNow t d (d.get Reg.TKP_ADJ_T.ST) (d.get Reg.TKP_ADJ_TE.EPOCH) (d.get Reg.TKP_ADJ_TE.LATE_TOL) with
    | .wait => (t, d)
    | .expired => (t, done .expired d)
    | v =>
      let a := d.tkp.adjVal
      if d.on Reg.TKP_CTRL.ADJ_MODE then (t, done v (applyAdj a d))
      else
        let t1 : Time := ⟨((t.cnt : Int) + a * nsUnit).toNat, t.ticks⟩
        (t1, done v (phaseStepped t1 (a * nsUnit) d))
  else (t, d)

/-- A tick: the counter advances, and a timed adjustment whose target lies in the new tick applies before anything else does
(R45). -/
def execTimekeeperTick (s : State) : Host.Outcome State Fault Refusal :=
  if s.dev.pwr.released then
    let r := tick s.time s.dev
    let q := timedAdjust r.1 r.2
    .next (finish { s with time := q.1, dev := q.2 })
  else .next s

def execWriteTkpFreqLo (v : Word32) (s : State) : Host.Outcome State Fault Refusal :=
  run s fun _ d => if d.pwr.released then writeFreqLo v d else d
def execWriteTkpFreqHi (v : Word32) (s : State) : Host.Outcome State Fault Refusal :=
  run s fun t d => if d.pwr.released then writeFreqHi t v d else d
def execReadTkpFreqLo (p : Path) (s : State) : Host.Outcome State Fault Refusal :=
  run s fun _ d => if d.pwr.released then readFreqLo p d else d.answer p 0
def execWriteTkpAdj (v : Word32) (s : State) : Host.Outcome State Fault Refusal :=
  run s fun _ d => if d.pwr.released then writeAdj v d else d

def execTimedAdjust (s : State) : Host.Outcome State Fault Refusal :=
  let r := timedAdjust s.time s.dev
  .next (finish { s with time := r.1, dev := r.2 })

/-! ## Time quality (R81 to R86) -/

/-- The active reference, if there is one. -/
def activeRef (d : Dev) : Option Nat :=
  if d.on Reg.TKP_STATUS.ACT_NONE then none else some (d.get Reg.TKP_STATUS.ACTIVE)

/-- The magnitude of a quarter-nanosecond figure in whole nanoseconds. DESIGN CHOICE: rounded up, where R81 states no rounding. -/
def ceilNs (x : Int) : Nat := (x.natAbs + 3) / 4

/-- The estimate e of the device's own time error in ns; `none` is unknown (R81, R72, R75, R648). DESIGN CHOICE: in HOLDOVER, HO_RATE
as it stands counts for the whole time since the entry, and the growth is rounded down to whole nanoseconds. -/
def errEst (t : Time) (d : Dev) : Option Nat :=
  let st := svState d
  if d.pwr.intOsc then none
  else if st = svLocked ∨ st = svAcquire then
    match activeRef d with
    | some n => (d.ref n).err.map fun e => e + ceilNs ((d.ref n).filt.getD 0) + 3
    | none => none
  else if st = svHoldover then
    d.tkp.hoErr.map fun e => e + d.get Reg.TKP_HO.HO_RATE * (t.loc - d.tkp.hoFrom) / 10000000000 + d.tkp.asymErr
  else if st = svHost then
    let e := d.get Reg.TKP_TQ.HOST_ERR
    if e = 0xFFFFFF then none else some e
  else none

/-- Is the active reference traceable (R82)? -/
def traceable (d : Dev) : Bool :=
  match activeRef d with
  | some n => (d.ref n).traceable
  | none => false

/-- Is HOST_ERR known? -/
def hostErrKnown (d : Dev) : Bool := d.get Reg.TKP_TQ.HOST_ERR != 0xFFFFFF

/-- Message time quality of Table TKP-6 by the error bound alone. -/
def tqOfErr : Option Nat → Nat
  | none => 0xF
  | some e =>
    if e ≤ 1 then 1 else if e ≤ 10 then 2 else if e ≤ 100 then 3 else if e ≤ 1000 then 4
    else if e ≤ 10000 then 5 else if e ≤ 100000 then 6 else if e ≤ 1000000 then 7 else if e ≤ 10000000 then 8
    else if e ≤ 100000000 then 9 else if e ≤ 1000000000 then 0xA else if e ≤ 10000000000 then 0xB else 0xF

/-- STAT [8:6] of Table TKP-6. -/
def statqOfErr : Option Nat → Nat
  | none => 7
  | some e =>
    if e ≤ 100 then 1 else if e ≤ 1000 then 2 else if e ≤ 10000 then 3 else if e ≤ 100000 then 4
    else if e ≤ 1000000 then 5 else if e ≤ 10000000 then 6 else 7

/-- Message time quality (R82). -/
def tqNow (t : Time) (d : Dev) : Nat :=
  let st := svState d
  if traceable d && (st == svLocked || (st == svHost && hostErrKnown d)) then 0 else tqOfErr (errEst t d)

/-- STAT [5:4], unlocked time (R83). -/
def unlkNow (t : Time) (d : Dev) : Nat :=
  let st := svState d
  if st = svLocked ∨ st = svHost then 0
  else match d.tkp.leftLock with
    | none => 3
    | some a =>
      let s := (t.loc - a) / 1000000000
      if s < 10 then 0 else if s < 100 then 1 else if s < 1000 then 2 else 3

/-- STAT bit 13, sync error (R84). -/
def syncErrNow (t : Time) (d : Dev) : Bool :=
  match errEst t d with
  | none => true
  | some e => d.get Reg.TKP_TQ.SYNC_LIMIT * 1000 < e

/-- The bounds of clockAccuracy 0x20 to 0x30 of IEEE 1588-2019 in nanoseconds (R85). -/
def accBounds : List Nat :=
  [25, 100, 250, 1000, 2500, 10000, 25000, 100000, 250000, 1000000, 2500000, 10000000, 25000000, 100000000, 250000000,
    1000000000, 10000000000]

/-- clockAccuracy of IEEE 1588-2019, 0x20 (25 ns) to 0x31 (beyond 10 s) (R85). -/
def clockAcc : Option Nat → Nat
  | none => 0xFE
  | some e => 0x20 + (accBounds.takeWhile fun b => decide (b < e)).length

/-- Does e lie within HO_LIMIT (R86, R92)? A limit of 0 is passed from entry. -/
def withinHoLimit (t : Time) (d : Dev) : Bool :=
  let lim := d.get Reg.TKP_HO.HO_LIMIT * 1000
  match errEst t d with
  | some e => lim != 0 && e ≤ lim
  | none => false

/-- clockClass (R86). -/
def clockClass (t : Time) (d : Dev) : Nat :=
  let st := svState d
  if d.on Reg.TKP_PTP.SLAVE_ONLY then 255
  else if st = svLocked then if traceable d then 6 else 248
  else if st = svHost then if hostErrKnown d && traceable d then 6 else 248
  else if st = svHoldover then if withinHoLimit t d then 7 else 187
  else 248

/-- TKP_ERR as read. -/
def errWord (t : Time) (d : Dev) : Nat :=
  match errEst t d with
  | none => 0xFFFFFFFF
  | some e => min e 0xFFFFFFFE

/-- TKP_TQ_OUT as read (Table TKP-13). -/
def tqOutWord (t : Time) (d : Dev) : Nat :=
  tqNow t d + 16 * statqOfErr (errEst t d) + 256 * unlkNow t d + 1024 * b2n (syncErrNow t d) +
    65536 * clockAcc (errEst t d) + 16777216 * clockClass t d

/-- The STAT bits of a local source that the timekeeper sets (R87): bits 13, 8:6 and 5:4. -/
def statTimeBits (t : Time) (d : Dev) : Nat :=
  8192 * b2n (syncErrNow t d) + 64 * statqOfErr (errEst t d) + 16 * unlkNow t d

/-! ## References (R46 to R51, R73) -/

/-- The UTC day at whose end a leap that becomes pending now is applied: a deleted second's, seen from its last second, is the
next one (R89). -/
def leapDayNow (t : Time) (d : Dev) : Nat :=
  (((t.sec : Int) - d.get Reg.TKP_UTC.UTC_OFS + d.get Reg.TKP_UTC.LEAP_DIR) / 86400).toNat

/-- The UTC fields have been written; `old` is the device before. A leap that has become pending is due at the end of this UTC day
(R89), and another offset than the last leap left is no longer that leap's (R90). -/
def utcWritten (t : Time) (old d : Dev) : Dev :=
  let d1 := if d.on Reg.TKP_UTC.LEAP_PEND && !old.on Reg.TKP_UTC.LEAP_PEND then
      d.modTkp fun k => { k with leapDay := leapDayNow t d }
    else d
  if d.get Reg.TKP_UTC.UTC_OFS = old.get Reg.TKP_UTC.UTC_OFS then d1 else d1.modTkp fun k => { k with lastLeap := none }

/-- UTC information of the active reference (R88). -/
def takeUtc (t : Time) (slot : Nat) (u : Option UtcInfo) (d : Dev) : Dev :=
  match u with
  | some x =>
    if d.on Reg.TKP_UTC.HOST_ONLY || activeRef d != some slot then d
    else utcWritten t d (((d.set Reg.TKP_UTC.UTC_OFS x.utcOfs).set Reg.TKP_UTC.LEAP_PEND (b2n x.leapPend)).set
      Reg.TKP_UTC.LEAP_DIR (b2n x.leapDel))
  | none => d

/-- A signed number held in 32 bits, saturating. -/
def satS32 (x : Int) : Nat := unsig 32 (max (-(2 ^ 31 : Int)) (min x (2 ^ 31 - 1)))

/-- A sample of a reference (R50, R73): an outlier while LOCKED is discarded unless the path has stepped; every other
sample is accepted. After a path step later samples are compared with the offset it led to. -/
def refSample (t : Time) (slot : Nat) (x : TimeSample) (d : Dev) : Dev :=
  if 4 ≤ slot ∨ d.getN Reg.TKP_REFn_CFG.SRC slot = 0 then d
  else
    let r := d.ref slot
    let o := x.offset - sint 32 (d.getN Reg.TKP_REFn_ASYM.CORR slot)
    let base := r.jump.orElse fun _ => r.filt
    let thr := d.get Reg.TKP_ASYM.THR * 100
    let dRt : Option Int := match x.rtd, r.filtRtd with
      | some a, some b =>
        if d.on Reg.TKP_CTRL.ASYM_EN && thr != 0 && decide (thr ≤ ((a : Int) - (b : Int)).natAbs)
        then some ((a : Int) - (b : Int)) else none
      | _, _ => none
    let gate := d.get Reg.TKP_GATE.OUTLIER * 4
    let out := svState d == svLocked && gate != 0 && dRt.isNone &&
      (match base with | some f => decide (gate < (o - f).natAbs) | none => false)
    if out then
      (d.setRef slot { r with heard := true, discarded := r.discarded + 1, discSum := r.discSum + o }).sat
        Reg.TKP_REFn_STAT.DISCARD slot
    else
      let r1 := { r with
        heard := true, sumQ := r.sumQ + o, cnt := r.cnt + 1, err := x.err, traceable := x.traceable
        filtRtd := match x.rtd, r.filtRtd with
          | some a, some b => some (if dRt.isSome then a else Config.rtdFilter b a)
          | some a, none => some a
          | none, f => f
        jump := if dRt.isSome then some o else r.jump
        pathSteps := match dRt with
          | some s => r.pathSteps ++ [(s * 4, o - base.getD o)]
          | none => r.pathSteps }
      let d1 := ((d.setRef slot r1).setN Reg.TKP_REFn_OFS.NS slot (satS32 (o / 4))).setN Reg.TKP_REFn_RTD.NS slot
        (min (x.rtd.getD 0) (2 ^ 32 - 1))
      takeUtc t slot x.utc (d1.wrapInc Reg.TKP_REFn_STAT.ACCEPT slot)

def execReferenceSample (slot : Nat) (x : TimeSample) (s : State) : Host.Outcome State Fault Refusal :=
  run s fun t d => if d.pwr.released then refSample t slot x d else d

/-! ## The servo (R48 to R51, R64, R65, R69 to R80, R664, R665) -/

/-- The mean of the last 2^HO_AVG words of LOCKED updates, of those there are, or the current word (R71). DESIGN CHOICE: the mean
is rounded down to a whole word. -/
def holdoverWord (d : Dev) : Int :=
  let ws := d.tkp.hoWords.take (2 ^ min 10 (d.get Reg.TKP_SERVO.HO_AVG))
  if ws.isEmpty then d.tkp.freq else ws.sum / ws.length

/-- Enter HOLDOVER with the error estimate e of the entry (R72); with the hardware servo the word is the averaged one (R71). -/
def enterHoldover (t : Time) (avg : Bool) (e : Option Nat) (d : Dev) : Dev :=
  if svState d = svHoldover then d
  else
    let w := holdoverWord d
    setSvState t svHoldover (d.modTkp fun k =>
      { k with hoErr := e, hoFrom := t.loc, asymErr := 0, freqNext := if avg then some w else k.freqNext })

/-- The IRIG-B frame of the last label says that TIN is not valid (R61). -/
def tinBadQuality (d : Dev) : Bool :=
  d.on Reg.TKP_TIN.IRIG_EN && d.on Reg.TKP_TIN.IRIG_EXT && d.tkp.tin.extQ == some 0xF

/-- Is the slot valid (R46, R61)? -/
def refValid (d : Dev) (n : Nat) : Bool :=
  let src := d.getN Reg.TKP_REFn_CFG.SRC n
  src != 0 && !d.onN Reg.TKP_REFn_STAT.SUSPECT n && (d.ref n).known && decide ((d.ref n).silent < 2) &&
    !(src == 17 && tinBadQuality d)

/-- REF_VALID of TKP_STATUS. -/
def refValidBits (d : Dev) : Nat := (List.range 4).foldl (fun a n => a + b2n (refValid d n) * 2 ^ n) 0

/-- The registers show which references are valid. -/
def showRefs (d : Dev) : Dev :=
  ((List.range 4).foldl (fun x n => x.setB Reg.TKP_REFn_STAT.VALID n (refValid d n)) d).set Reg.TKP_STATUS.REF_VALID
    (refValidBits d)

/-- The lowest-numbered valid slot other than those given. -/
def lowestValid (d : Dev) (except_ : List Nat) : Option Nat :=
  (List.range 4).find? fun n => refValid d n && !except_.contains n

/-- The active reference becomes n (R48); after another one its offset is to be pulled in (R49). -/
def setActive (n : Option Nat) (d : Dev) : Dev :=
  match n with
  | none => d.set Reg.TKP_STATUS.ACT_NONE 1
  | some k =>
    let d1 := match activeRef d with
      | some m => if m = k then d else d.modTkp fun x => { x with pullIn := true }
      | none => d
    (d1.set Reg.TKP_STATUS.ACT_NONE 0).set Reg.TKP_STATUS.ACTIVE k

/-- SUSPECT of a slot, in its status and in TKP_STATUS. -/
def setSuspect (n : Nat) (b : Bool) (d : Dev) : Dev :=
  let w := d.get Reg.TKP_STATUS.REF_SUSPECT
  let w1 := if w.testBit n == b then w else w ^^^ 2 ^ n
  showRefs ((d.setB Reg.TKP_REFn_STAT.SUSPECT n b).set Reg.TKP_STATUS.REF_SUSPECT w1)

/-- Close the interval of one slot: loss (R47), the mean of its samples, the filtered offset (R73) and the run of intervals whose
samples were all discarded (R51). The interval in which the source was set is not whole and counts for no loss. DESIGN CHOICE: the
mean is rounded down to 0.25 ns. -/
def closeSlot (d : Dev) (n : Nat) : Dev :=
  let r := d.ref n
  if d.getN Reg.TKP_REFn_CFG.SRC n = 0 then d
  else
    let silent := if r.heard || !r.armed then 0 else min 3 (r.silent + 1)
    let mean : Option Int := if r.cnt = 0 then none else some (r.sumQ / r.cnt)
    let allOut := r.cnt == 0 && r.discarded != 0
    let r1 := { r with
      sumQ := 0, cnt := 0, heard := false, discarded := 0, discSum := 0, armed := true, known := r.known || r.heard
      silent := silent
      discRun := if allOut then r.discRun + 1 else 0
      mean := if allOut && decide (2 ≤ r.discRun) then some (r.discSum / r.discarded) else mean
      filt := match mean, r.jump.orElse (fun _ => r.filt) with
        | some m, some f => some (Config.offsetFilter f m)
        | some m, none => some m
        | none, f => f
      filtPrev := r.filt, jump := none }
    let d1 := d.setRef n r1
    if silent = 2 ∧ r.silent = 1 then d1.cause intTkp 2 n 0 else d1

/-- A path step coincides with an offset jump of about half its size (R74). DESIGN CHOICE: a jump above 0.625 × |ΔRT| is no
suspicion either, and is followed as a smaller one is. -/
def asymmetric (s : Int × Int) : Bool :=
  decide (3 * s.1.natAbs ≤ 8 * s.2.natAbs) && decide (8 * s.2.natAbs ≤ 5 * s.1.natAbs)

/-- References under a running comparison. -/
def comparing (d : Dev) : List Nat := d.tkp.cmp.map fun c => c.stepped

/-- Comparisons change, and ASYM_PEND with them. -/
def setCmps (l : List AsymCmp) (d : Dev) : Dev :=
  (d.modTkp fun k => { k with cmp := l }).set Reg.TKP_STATUS.ASYM_PEND (b2n (!l.isEmpty))

/-- The reference that can confirm a step of slot n: the active one, else the lowest-numbered valid one, that shows no re-route
itself (R75, R78, R79). -/
def confirmer (d : Dev) (n : Nat) : Option Nat :=
  let out := n :: comparing d
  match activeRef d with
  | some k => if refValid d k && !out.contains k then some k else lowestValid d out
  | none => lowestValid d out

/-- The comparison ends (R76, R77, R79, R70). With SERVO = 2 it reports and acts on nothing; DESIGN CHOICE: with SERVO = 0 too.
DESIGN CHOICE: the mean that R77 adds is rounded down, and one without a sample to take it from is a free value; a step of a
reference that is not active and that nothing could confirm changes nothing. -/
def decideCmp (c : AsymCmp) (d : Dev) : Dev :=
  let moved := c.secondLast - c.secondStart
  let agree := d.get Reg.TKP_ASYM.AGREE * 40
  let real := c.left != 0 && agree != 0 && decide ((moved - c.dO).natAbs ≤ agree)
  let d1 := setCmps (d.tkp.cmp.filter fun e => e.stepped != c.stepped)
    (d.modTkp fun k => { k with asymErr := if c.onActive then 0 else k.asymErr })
  let acts := d.tkp.mode = 1
  let outcome (code n : Nat) (d : Dev) : Dev :=
    d.event code 0 (c.stepped + 256 * (if c.onActive then n else (activeRef d).getD n)) 0
  if c.unconfirmed then
    let n := (lowestValid d []).getD c.stepped
    let d2 := outcome 51 n d1
    if acts && c.onActive then setActive (some n) d2 else d2
  else if real then
    let d2 := outcome 50 c.stepped d1
    if acts && c.onActive then setActive (some c.stepped) d2 else d2
  else
    let d2 := outcome 50 c.second d1
    if acts then
      let d3 := setSuspect c.stepped true d2
      let d4 := if c.onActive then setActive (some c.second) d3 else d3
      if d.on Reg.TKP_CTRL.ASYM_LEARN then
        let (corr, d5) : Int × Dev := if c.relCnt = 0 then ((Config.freeWord d4.draw.1).toInt, d4.draw.2)
          else (c.relSum / c.relCnt, d4)
        let r := d5.ref c.stepped
        ((d5.setRef c.stepped { r with filt := r.filt.map (· - corr) }).setN Reg.TKP_REFn_ASYM.CORR c.stepped
          (unsig 32 (sint 32 (d5.getN Reg.TKP_REFn_ASYM.CORR c.stepped) + corr))).modTkp
          fun k => { k with clearSuspect := k.clearSuspect ++ [c.stepped] }
      else d4
    else d2

/-- What a comparison with a second reference starts from: the second's offset as it was before this interval. -/
def freshCmp (second : Nat) (d : Dev) (c : AsymCmp) : AsymCmp :=
  let o := ((d.ref second).filtPrev.orElse fun _ => (d.ref second).filt).getD 0
  { c with second := second, left := d.get Reg.TKP_ASYM.CONFIRM, secondStart := o, secondLast := o, relSum := 0, relCnt := 0,
           startUpd := d.tkp.lastUpd }

/-- Start a comparison of the stepped reference with a second one (R75, R78); `ok` says that the second shows no re-route itself
(R79). With CONFIRM = 0 the second wins at once (Table TKP-12). -/
def startCmp (t : Time) (stepped second : Nat) (ok : Bool) (dO : Int) (d : Dev) : Dev :=
  let onActive := activeRef d == some stepped
  let c := freshCmp second d ⟨stepped, second, dO, 0, onActive, 0, 0, 0, 0, !ok, 0⟩
  if c.left = 0 then decideCmp c d
  else
    let r := d.ref stepped
    let e := if svState d = svLocked ∨ svState d = svAcquire then
        r.err.map fun e => e + ceilNs (r.filtPrev.getD 0) + 3
      else errEst t d
    let d1 := if onActive && d.tkp.mode == 1 then
        (enterHoldover t true e d).modTkp fun k => { k with asymErr := ceilNs dO }
      else d
    setCmps (d1.tkp.cmp ++ [c]) d1

/-- A comparison whose second reference shows a re-route itself starts again against a third one, or stays unconfirmed (R79). -/
def rePick (n : Nat) (d : Dev) : Dev :=
  setCmps (d.tkp.cmp.map fun c =>
    if c.second != n then c
    else match lowestValid d (n :: comparing d) with
      | some k => freshCmp k d c
      | none => { c with unconfirmed := true }) d

/-- Reference n has stepped by dO: a comparison begins. `none`: no other reference is valid (R75, R78, R79). -/
def beginCmp (t : Time) (n : Nat) (dO : Int) (d : Dev) : Option Dev :=
  let d1 := if d.tkp.cmp.any fun c => c.second == n then rePick n d else d
  if (comparing d).contains n then some d1
  else match confirmer d1 n with
    | some k => some (startCmp t n k true dO d1)
    | none => match lowestValid d1 [n] with
      | some k => some (startCmp t n k false dO d1)
      | none => none

/-- A suspected re-route on slot n with offset jump dO (R74, R75, R78 to R80); of the only valid reference it is followed. -/
def suspectStep (t : Time) (n : Nat) (dO : Int) (d : Dev) : Dev :=
  let d1 := d.cause intTkp 3 n 0
  match beginCmp t n dO d1 with
  | some x => x
  | none => if activeRef d1 = some n then d1.cause intTkp 4 n 0 else d1

/-- Every sample of slot n has been discarded for three intervals: its new offset is a step (R51). -/
def discardStep (t : Time) (n : Nat) (d : Dev) : Dev :=
  if (comparing d).contains n then d
  else
    let r := d.ref n
    let d1 := d.setRef n { r with filt := r.mean, discRun := 0 }
    match beginCmp t n (r.mean.getD 0 - r.filt.getD 0) d1 with
    | some x => x
    | none => if activeRef d1 = some n ∧ d1.tkp.mode = 1 then setSvState t svAcquire d1 else d1

/-- One update of a running comparison (R75, R76). -/
def stepCmp (d : Dev) (c : AsymCmp) : Dev :=
  let c1 : AsymCmp := match (d.ref c.second).mean with | some m => { c with secondLast := m } | none => c
  let c2 : AsymCmp := match (d.ref c.stepped).mean, (d.ref c.second).mean with
    | some a, some b => { c1 with relSum := c1.relSum + (a - b), relCnt := c1.relCnt + 1 }
    | _, _ => c1
  if c2.left ≤ 1 then decideCmp c2 d
  else setCmps (d.tkp.cmp.map fun e => if e.stepped = c.stepped then { c2 with left := c2.left - 1 } else e) d

/-- The asymmetry detector at an update (R70, R73 to R80): the path steps of this interval, the references whose samples were all
discarded for three intervals (R51), and the comparisons that were running. -/
def asymUpdate (t : Time) (d : Dev) : Dev :=
  let d0 := d.tkp.clearSuspect.foldl (fun x n => setSuspect n false x) (d.modTkp fun k => { k with clearSuspect := [] })
  let d1 := (List.range 4).foldl (fun d n =>
    let r := d.ref n
    let d2 := d.setRef n { r with pathSteps := [] }
    let d3 := r.pathSteps.foldl (fun x s => if asymmetric s then suspectStep t n s.2 x else x) d2
    if r.pathSteps.isEmpty && decide (3 ≤ r.discRun) then discardStep t n d3 else d3) d0
  (d1.tkp.cmp.filter fun c => c.startUpd != d1.tkp.lastUpd).foldl stepCmp d1

/-- The source of slot n is set anew: comparisons of the slot end, and those it was to confirm stay unconfirmed. -/
def cmpForget (n : Nat) (d : Dev) : Dev :=
  if d.tkp.cmp.any fun c => c.stepped == n || c.second == n then
    setCmps ((d.tkp.cmp.filter fun c => c.stepped != n).map fun c => if c.second = n then { c with unconfirmed := true } else c)
      (d.modTkp fun k => { k with asymErr := if k.cmp.any fun c => c.stepped == n && c.onActive then 0 else k.asymErr })
  else d

/-- Change of SERVO at an update (Table ARC-6, R665). DESIGN CHOICE: the integral starts at minus the frequency in use whenever
the hardware servo begins, from 0 as from 2. -/
def servoMode (t : Time) (d : Dev) : Dev :=
  let m := d.get Reg.GLB_SPLIT.SERVO
  let o := d.tkp.mode
  if m = o then d
  else
    let d1 := if m = 0 ∧ svState d ≠ svFreerun then enterHoldover t false (errEst t d) d else d
    let d2 := if o = 2 ∧ m = 1 ∧ svState d1 = svHost then
        if (lowestValid d1 []).isSome then setSvState t svAcquire d1 else enterHoldover t true (errEst t d1) d1
      else d1
    d2.modTkp fun k => { k with
      mode := m, hostLast := if m = 2 then t.ns else k.hostLast, hostWait := m == 2 && o == 0, tmoSeen := false
      integ := if m = 1 then -k.freq * 2 ^ 32 else k.integ }

/-- The active reference and, with the hardware servo, the state follow the valid references (R48, R49, R65, R665, Table
TKP-5). -/
def servoFollow (t : Time) (d : Dev) : Dev :=
  if d.tkp.mode == 1 && d.tkp.cmp.any fun c => c.onActive then d
  else
    let keep := !d.tkp.cmp.isEmpty && match activeRef d with
      | some n => refValid d n
      | none => false
    let d1 := if keep then d else setActive (lowestValid d []) d
    if d.tkp.mode ≠ 1 then d1
    else match activeRef d1 with
      | none => if d.tkp.wasLocked then enterHoldover t true (errEst t d) d1 else setSvState t svFreerun d1
      | some n =>
        let st := svState d1
        if st = svFreerun then setSvState t svAcquire d1
        else if st = svHoldover then
          let thr := d.get Reg.TKP_LOCK.UNLOCK_THR * 4
          let o := ((d1.ref n).mean.orElse fun _ => (d1.ref n).filt).getD 0
          if thr ≠ 0 ∧ o.natAbs ≤ thr then setSvState t svLocked d1 else setSvState t svAcquire d1
        else d1

/-- The control law of R664, in units of 2^-80: the new integral, the clamped frequency and whether the 500 ppm limit
was hit. `o` is in quarter nanoseconds. -/
def servoLaw (d : Dev) (acquire : Bool) (o : Int) : Int × Int × Bool :=
  let oT := o * 2 ^ 80 * 2 ^ d.get Reg.TKP_SERVO.INTERVAL / 4000000000
  let integ := d.tkp.integ + oT / 2 ^ d.get Reg.TKP_SERVO.KI_SHIFT
  let f := -(oT / 2 ^ d.get Reg.TKP_SERVO.KP_SHIFT) - integ
  let slewMax := d.get Reg.TKP_SERVO.SLEW_MAX
  let c : Int := slewMax * 2 ^ 80 / 1000000
  let f1 := if acquire && slewMax != 0 then max (-c) (min f c) else f
  let lim : Int := 500 * 2 ^ 80 / 1000000
  (integ, max (-lim) (min f1 lim), decide (lim < f1.natAbs))

/-- An update counts toward lock or its loss: LOCKED after eight consecutive ones within LOCK_THR, ACQUIRE after three
consecutive ones beyond UNLOCK_THR (Table TKP-5). -/
def lockCount (t : Time) (o : Int) (d : Dev) : Dev :=
  let st := svState d
  let lockThr := d.get Reg.TKP_LOCK.LOCK_THR * 4
  let unlThr := d.get Reg.TKP_LOCK.UNLOCK_THR * 4
  if st = svAcquire then
    let c := if lockThr ≠ 0 ∧ o.natAbs ≤ lockThr then d.tkp.lockCnt + 1 else 0
    if c = 8 then setSvState t svLocked d else d.modTkp fun k => { k with lockCnt := c }
  else if st = svLocked then
    let c := if unlThr ≠ 0 ∧ unlThr < o.natAbs then d.tkp.unlockCnt + 1 else 0
    if c = 3 then setSvState t svAcquire d else d.modTkp fun k => { k with unlockCnt := c }
  else d

/-- The servo steps phase by −o, or runs its law (R64, R664); the offset of a reference that has become active instead of another
is pulled in without a step, until it has come within STEP_THR (R49). -/
def servoSteer (n : Nat) (o : Int) (d : Dev) : Dev :=
  let thr := d.get Reg.TKP_GATE.STEP_THR * 4000
  let st := svState d
  let beyond := thr != 0 && decide (thr < o.natAbs)
  if (!d.tkp.wasLocked || d.on Reg.TKP_CTRL.STEP_EN) && !d.tkp.pullIn && beyond then
    (d.modTkp fun k => { k with stepNext := k.stepNext - o * 2 ^ 44 }).setRef n { d.ref n with filt := some 0 }
  else
    let (integ, f, hit) := servoLaw d (st == svAcquire) o
    let w := (f + 2 ^ 31) / 2 ^ 32
    let d1 := d.modTkp fun k => { k with
      integ := integ, freqNext := some w, pullIn := k.pullIn && beyond
      hoWords := if st = svLocked then (w :: k.hoWords).take 1024 else k.hoWords }
    if hit then d1.cause intTkp 6 0 0 else d1

/-- One loop update on the mean offset o of the active reference (R64, R664). -/
def servoLoop (t : Time) (n : Nat) (o : Int) (d : Dev) : Dev := lockCount t o (servoSteer n o d)

/-- The update at a servo interval boundary (R664). -/
def servoUpdate (t : Time) (d : Dev) : Dev :=
  let i := servoIndex d t.ns
  if i ≤ d.tkp.lastUpd then d
  else
    let d1 := (d.modTkp fun k => { k with lastUpd := i }).cause intTkp 1 0 0
    let d2 := servoMode t (showRefs ((List.range 4).foldl closeSlot d1))
    let d5 := servoFollow t (asymUpdate t d2)
    match activeRef d5 with
    | some n =>
      match (d5.ref n).mean with
      | some o =>
        if d5.tkp.mode = 1 ∧ (svState d5 = svAcquire ∨ svState d5 = svLocked) then servoLoop t n o d5 else d5
      | none => d5
    | none => d5

def execServoUpdate (s : State) : Host.Outcome State Fault Refusal :=
  run s fun t d => if d.pwr.released then servoUpdate t d else d

/-- The host watchdog (R69): once after the last host write. After a change of SERVO from 0 to 2 the state waits for the first
host write (R665). -/
def hostTmo (t : Time) (d : Dev) : Dev :=
  let tmo := d.get Reg.TKP_HO.HOST_TMO
  if d.tkp.mode = 2 ∧ tmo ≠ 0 ∧ d.tkp.tmoSeen = false ∧ d.tkp.hostLast + tmo * 125000000 ≤ t.ns then
    ((if d.tkp.hostWait then d else enterHoldover t false (errEst t d) d).modTkp fun k => { k with tmoSeen := true }).cause
      intTkp 7 0 0
  else d

def execHostTmo (s : State) : Host.Outcome State Fault Refusal := run s fun t d => hostTmo t d

/-! ## UTC (R88 to R90) -/

/-- The UTC second of a TAI second: the offset is the one in force then, also before the last leap (R88, R90). -/
def utcOf (d : Dev) (tai : Nat) : Int :=
  (tai : Int) - d.get Reg.TKP_UTC.UTC_OFS + (match d.tkp.lastLeap with
    | some (a, c) => if tai < a then c else 0
    | none => 0)

/-- The TAI second of a UTC second. -/
def taiOf (d : Dev) (utc : Int) : Int :=
  let x := utc + d.get Reg.TKP_UTC.UTC_OFS
  match d.tkp.lastLeap with
  | some (a, c) => if x - c < a then x - c else x
  | none => x

/-- Days from 1970 to the start of a year. -/
def daysTo (y : Nat) : Nat := 365 * (y - 1970) + ((y - 1) / 4 - (y - 1) / 100 + (y - 1) / 400 - 477)

/-- The year of a day since 1970. -/
def yearOfDay (n : Nat) : Nat :=
  let y := 1970 + n * 400 / 146097
  if daysTo (y + 1) ≤ n then y + 1 else if n < daysTo y then y - 1 else y

/-! ## TIN (R58 to R63) -/

/-- The slot that takes TIN, if one does. -/
def tinSlot (d : Dev) : Option Nat := (List.range 4).find? fun n => d.getN Reg.TKP_REFn_CFG.SRC n == 17

/-- The bound of an IRIG-B time quality code in ns; code 0 has none of its own (R81). -/
def irigBound (acc tq : Nat) : Option Nat :=
  if tq = 0 then some acc
  else if tq ≤ 0xB then some (10 ^ (tq - 1))
  else none

/-- A labelled edge becomes a sample of the TIN reference. `extra` is added to its error (R60). DESIGN CHOICE: with IRIG_EXT = 1 and
no extension received, the error is PPS_ACC. PPS counts as traceable by TKP_TIN.TRACEABLE only without IRIG_EXT (R82). -/
def tinSample (t : Time) (stampQ : Nat) (sec : Int) (extra : Nat) (d : Dev) : Dev :=
  match tinSlot d with
  | none => d
  | some n =>
    let acc := d.get Reg.TKP_TIN.PPS_ACC * 10
    let q := if d.on Reg.TKP_TIN.IRIG_EXT && d.on Reg.TKP_TIN.IRIG_EN then d.tkp.tin.extQ else none
    if tinBadQuality d then d
    else
      let err := match q with
        | some c => (irigBound acc c).map (· + extra)
        | none => some (acc + extra)
      let tr := if d.on Reg.TKP_TIN.IRIG_EXT then q == some 0 else d.on Reg.TKP_TIN.TRACEABLE
      refSample t n ⟨(stampQ : Int) - sec * 4000000000, none, err, tr, if q.isSome then d.tkp.tin.utc else none⟩ d

/-- A bad edge or frame is counted (R58, R62). -/
def tinBad (f : Field) (d : Dev) : Dev := (d.sat f).cause intTkp 8 0 0

/-- Distance of two instants in quarter nanoseconds. -/
def distQ (a b : Nat) : Nat := max a b - min a b

/-- An edge of 1PPS (R58, R60, R63). -/
def tinEdge (t : Time) (falling : Bool) (q : Nat) (d : Dev) : Dev :=
  if !d.on Reg.TKP_TIN.PPS_EN || d.on Reg.TKP_TIN.PPS_FALL != falling then d
  else
    let stamp := ((t.qns + q % 16 : Nat) - sint 16 (d.get Reg.TKP_TIN.PPS_DLY) * 4).toNat
    let good := match d.tkp.tin.lastEdge with
      | none => true
      | some e => decide (distQ stamp (e + 4000000000) ≤ 40000)
    if !good then tinBad Reg.TKP_TIN_CNT.BAD_PPS d
    else
      let d1 := d.modTkp fun k => { k with tin := { k.tin with lastEdge := some stamp } }
      if d.on Reg.TKP_TIN.IRIG_EN then
        match d.tkp.tin.label with
        | some (sec, mark) =>
          if distQ stamp mark ≤ 20000 then
            tinSample t stamp sec 0 (d1.modTkp fun k => { k with tin := { k.tin with label := none } })
          else d1
        | none => d1
      else if d.on Reg.TKP_TIN.LABEL_NEAREST then tinSample t stamp ((stamp + 2000000000) / 4000000000 : Nat) 0 d1
      else d1

def execTinPpsEdge (falling : Bool) (q : Nat) (s : State) : Host.Outcome State Fault Refusal :=
  run s fun t d => tinEdge t falling q d

/-- TKP_TIN has been written; `old` is the device before. The first edge after an enable is accepted whatever came before it
(R58). -/
def tinWritten (old d : Dev) : Dev :=
  showRefs (if d.on Reg.TKP_TIN.PPS_EN && !old.on Reg.TKP_TIN.PPS_EN then
      d.modTkp fun k => { k with tin := { k.tin with lastEdge := none, label := none } }
    else d)

/-- A number in BCD. -/
def bcd (v : Nat) : Nat := v / 256 * 100 + v / 16 % 16 * 10 + v % 16

/-- The year of an IRIG-B frame: the extension's (R61), else that of codes B004 to B007; in 2000 to 2099. -/
def irigYear (d : Dev) (f : IrigFrame) : Option Nat :=
  match (if d.on Reg.TKP_TIN.IRIG_EXT then f.ext else none) with
  | some x => some (2000 + bcd x.year)
  | none => if 4 ≤ f.code then some (2000 + bcd f.yearB) else none

/-- The local offset of an IRIG-B frame in seconds, which UTC lies behind IRIG-B time (R61). -/
def irigOfs (d : Dev) (f : IrigFrame) : Int :=
  match (if d.on Reg.TKP_TIN.IRIG_EXT then f.ext else none) with
  | some x => if x.ofsNeg then -(x.ofsHalf * 1800 : Nat) else (x.ofsHalf * 1800 : Nat)
  | none => 0

/-- The UTC second that the BCD fields of an IRIG-B frame spell, a 60th second as the one before it. -/
def irigUtc (d : Dev) (f : IrigFrame) (y : Nat) : Int :=
  (((daysTo y + bcd f.dayB - 1) * 86400 + bcd f.hourB * 3600 + bcd f.minB * 60 + min 59 (bcd f.secB) : Nat) : Int) - irigOfs d f

/-- The TAI second that an IRIG-B frame labels (R59, R61); without a year, the one nearest to current time. -/
def irigLabel (t : Time) (d : Dev) (f : IrigFrame) : Int :=
  let utc := match irigYear d f with
    | some y => irigUtc d f y
    | none =>
      let y := yearOfDay (utcOf d t.sec / 86400).toNat
      let far (x : Int) : Nat := (x - utcOf d t.sec).natAbs
      [irigUtc d f (y + 1), irigUtc d f (y - 1)].foldl (fun a b => if far b < far a then b else a) (irigUtc d f y)
  taiOf d utc + (bcd f.secB - min 59 (bcd f.secB) : Nat)

/-- The UTC information of an IRIG-B extension: the offset stays, since IRIG-B carries none (R61, R88). -/
def irigInfo (d : Dev) (x : IrigExt) : UtcInfo := ⟨d.get Reg.TKP_UTC.UTC_OFS, x.leapPend, x.leapDel⟩

/-- An IRIG-B frame (R60 to R62): discarded for its parity or its sequence, or it labels the edge at its on-time mark. -/
def irigFrame (t : Time) (f : IrigFrame) (d : Dev) : Dev :=
  if !d.on Reg.TKP_TIN.IRIG_EN then d
  else if !f.parityOk then tinBad Reg.TKP_TIN_CNT.BAD_IRIG d
  else
    let sec := irigLabel t d f
    let mark := t.qns - f.agoQ
    let seqOk := match d.tkp.tin.lastLabel with
      | none => true
      | some l => sec == l + 1
    let d0 := d.modTkp fun k => { k with tin := { k.tin with lastLabel := some sec } }
    if !seqOk then tinBad Reg.TKP_TIN_CNT.BAD_IRIG d0
    else
      let x := if d.on Reg.TKP_TIN.IRIG_EXT then f.ext else none
      let d1 := showRefs (d0.modTkp fun k => { k with tin := { k.tin with extQ := x.map (·.tq), utc := x.map (irigInfo d) } })
      let hold := d1.modTkp fun k => { k with tin := { k.tin with label := some (sec.toNat, mark) } }
      if !d.on Reg.TKP_TIN.PPS_EN then tinSample t mark sec 100 d1
      else match d.tkp.tin.lastEdge with
        | some e => if distQ e mark ≤ 20000 then tinSample t e sec 0 d1 else hold
        | none => hold

def execIrigFrame (f : IrigFrame) (s : State) : Host.Outcome State Fault Refusal := run s fun t d => irigFrame t f d

/-! ## Leap seconds (R88, R89) -/

/-- The TAI second at which the pending leap is applied (R89). -/
def leapDue (d : Dev) : Int :=
  (((d.tkp.leapDay + 1) * 86400 - d.get Reg.TKP_UTC.LEAP_DIR : Nat) : Int) + d.get Reg.TKP_UTC.UTC_OFS

/-- The leap at the end of the UTC day (R89). -/
def leapSecond (t : Time) (d : Dev) : Dev :=
  let del := d.on Reg.TKP_UTC.LEAP_DIR
  if d.on Reg.TKP_UTC.LEAP_PEND ∧ leapDue d ≤ t.sec then
    let ofs := d.get Reg.TKP_UTC.UTC_OFS
    (((d.set Reg.TKP_UTC.UTC_OFS (if del then ofs + 2 ^ 16 - 1 else ofs + 1)).set Reg.TKP_UTC.LEAP_PEND 0).set
      Reg.TKP_UTC.LEAP_OCC 1).cause intTkp 9 0 0 |>.modTkp fun k => { k with
      leapAt := some t.ns, twin := if del then k.twin else some (leapDue d).toNat
      lastLeap := some ((leapDue d).toNat, if del then -1 else 1) }
  else d

def execLeapSecond (s : State) : Host.Outcome State Fault Refusal := run s fun t d => leapSecond t d

/-- The other TAI second with the SOC of this one, when an inserted leap second makes that SOC occur twice (R90, R191). -/
def twinSecond (d : Dev) (tai : Nat) : Option Nat :=
  if d.tkp.twin = some tai then some (tai - 1)
  else if d.on Reg.TKP_UTC.LEAP_PEND && !d.on Reg.TKP_UTC.LEAP_DIR && ((tai : Int) + 1 == leapDue d) then some (tai + 1)
  else none

/-- LEAP_OCC clears after 24 h (R89). DESIGN CHOICE: they are counted on grid time. -/
def leapOccExpire (t : Time) (d : Dev) : Dev :=
  match d.tkp.leapAt with
  | some a =>
    if a + 86400000000000 ≤ t.ns then
      (d.set Reg.TKP_UTC.LEAP_OCC 0).modTkp fun k => { k with leapAt := none }
    else d
  | none => d

def execLeapOccExpire (s : State) : Host.Outcome State Fault Refusal := run s fun t d => leapOccExpire t d

/-! ## Time output (R91, R92) -/

/-- Are the outputs held low (R92)? -/
def squelched (t : Time) (d : Dev) : Bool :=
  let st := svState d
  match d.get Reg.TKP_TOUT.SQUELCH with
  | 0 => false
  | 1 => st == svFreerun
  | 2 => st == svFreerun || (st == svHoldover && !withinHoLimit t d)
  | _ => st != svLocked && st != svHost

/-- The pulse starts at each whole TAI second plus the offset (R91). -/
def ppsOutput (t : Time) (d : Dev) : Dev :=
  let i := (ppsTime t d / 1000000000).toNat
  if i ≤ d.tkp.ppsLast then d
  else
    let w := min 50000 (d.get Reg.TKP_TOUT.PPS_WIDTH)
    d.modTkp fun k => { k with
      ppsLast := i, ppsEnd := if d.on Reg.TKP_TOUT.PPS_EN && w != 0 then some (t.loc + w * 10000) else k.ppsEnd }

def execPpsOutput (s : State) : Host.Outcome State Fault Refusal := run s fun t d => ppsOutput t d

/-- The 1PPS ball is high: a pulse runs and nothing holds the output low (R91, R92). -/
def ppsHigh (t : Time) (d : Dev) : Bool := d.tkp.ppsEnd.isSome && d.on Reg.TKP_TOUT.PPS_EN && !squelched t d

/-- The 10 MHz ball is driven. -/
def tenDriven (t : Time) (d : Dev) : Bool := d.on Reg.TKP_TOUT.TEN_EN && !squelched t d

/-- The 10 MHz ball is high: it rises every 100 ns from the rising edge of each 1PPS pulse on (R91). PRESUMED: it is high for half
of its period. -/
def tenHigh (t : Time) (d : Dev) : Bool := tenDriven t d && decide (ppsTime t d % 100 < 50)

def ppsPulseEnd (t : Time) (d : Dev) : Dev :=
  match d.tkp.ppsEnd with
  | some e => if e ≤ t.loc then d.modTkp fun k => { k with ppsEnd := none } else d
  | none => d

def execPpsPulseEnd (s : State) : Host.Outcome State Fault Refusal := run s fun t d => ppsPulseEnd t d

end Sys2Proof.Machine
end

