-- ==== Sys2Proof/Machine/PtpClock.lean ====
section
/-!
DEFINITION. The PTP clock's data: port states and templates, what a message must pass to be used, the grandmaster a port hears,
and the fields the hardware fills as a message leaves (R52 to R57, R81, R82, R164).
-/

namespace Sys2Proof.Machine

open Sys2Proof

def Dev.ptp (d : Dev) (n : Nat) : PtpPort := tget d.tkp.ptp n

def Dev.modPtp (d : Dev) (n : Nat) (f : PtpPort → PtpPort) : Dev :=
  { d with tkp := { d.tkp with ptp := tmod d.tkp.ptp n f } }

/-- The number a message type is counted under. -/
def ptpCode : PtpType → Nat
  | .sync => 0
  | .delayReq => 1
  | .pdelayReq => 2
  | .pdelayResp => 3
  | .followUp => 8
  | .delayResp => 9
  | .pdelayRespFollowUp => 10
  | .announce => 11
  | .management => 13

/-- Event messages of IEEE 1588, which are stamped. -/
def isEvent (m : PtpType) : Bool := decide (ptpCode m < 8)

/-- Is FP n a PTP port of a clock that is on (Table TKP-16)? -/
def ptpOn (d : Dev) (n : Nat) : Bool :=
  decide (n < 16) && d.get Reg.TKP_PTP.ROLE != 0 && (d.get Reg.TKP_PTP_PORTS.PORT_EN).testBit n

/-- Does the transparent clock forward from FP n (Table TKP-16)? -/
def tcOn (d : Dev) (n : Nat) : Bool :=
  decide (n < 16) && d.on Reg.TKP_PTP.TC_EN && (d.get Reg.TKP_PTP_PORTS.TC_PAIR).testBit (n / 2)

/-- Xaorn sets the port's state and writes its templates while it runs; halted or being updated, it leaves them as they were
(R52). -/
def xaornPtp (n : Nat) (d : Dev) : Dev :=
  if xaornUp d then
    let (k, d1) := d.draw
    d1.modPtp n fun p => { p with state := Config.portState k, tmpl := k }
  else d

/-- Does a port send a message of this type? PRESUMED from IEEE 1588-2019: a master sends Sync, Follow_Up, Announce and Delay_Resp,
a slave Delay_Req, and every initialized port the Pdelay messages; the delay request-response mechanism is that of PROFILE 3 alone. -/
def portSends (d : Dev) (n : Nat) (m : PtpType) : Bool :=
  let s := (d.ptp n).state
  let e2e := d.get Reg.TKP_PTP.PROFILE == 3
  let master := s == .master && !d.on Reg.TKP_PTP.SLAVE_ONLY
  match m with
  | .sync => master
  | .followUp => master
  | .announce => master
  | .delayResp => master && e2e
  | .delayReq => s == .slave && e2e
  | .pdelayReq => s != .initializing && !e2e
  | .pdelayResp => s != .initializing && !e2e
  | .pdelayRespFollowUp => s != .initializing && !e2e
  | .management => false

/-! ## What a received message must pass (R56, R57) -/

/-- The message counts toward the flood limit of R57: the answer says whether it is in excess. -/
def ptpFlood (t : Time) (n : Nat) (d : Dev) : Bool × Dev :=
  let p := d.ptp n
  let s := t.ns / 1000000000
  let c := if p.second = s then p.count + 1 else 1
  let d1 := d.modPtp n fun p => { p with second := s, count := c }
  if c ≤ 512 then (false, d1)
  else
    let d2 := d1.modPtp n fun p => { p with flooded := p.flooded + 1 }
    (true, if c = 513 then d2.event 49 n n 0 else d2)

/-- Annex P: does the message carry a valid authentication TLV made with the key of KEY_SLOT (R56)? -/
def ptpAuthOk (m : PtpMsg) (d : Dev) : Bool × Dev :=
  if !d.on Reg.TKP_PTP.AUTH_EN then (true, d)
  else match m.authKey with
    | none => (false, d)
    | some k =>
      match keyUse engPtp 0 (d.get Reg.TKP_PTP.KEY_SLOT) 4 false d with
      | (some key, d1) => (decide (k = key.material), d1)
      | (none, d1) => (false, d1)

/-- A message without a valid TLV is discarded, counted in its port's statistics and logged (R56). -/
def ptpAuth (n : Nat) (m : PtpMsg) (d : Dev) : Bool × Dev :=
  match ptpAuthOk m d with
  | (true, d1) => (true, d1)
  | (false, d1) => (false, (d1.modPtp n fun p => { p with authFail := p.authFail + 1 }).event 48 n n 0)

/-- Every PTP message received at a port counts toward its limit and is authenticated, whatever its domain (R56, R57): the answer
says whether it is used. -/
def ptpJudge (t : Time) (n : Nat) (m : PtpMsg) (d : Dev) : Bool × Dev :=
  match ptpFlood t n d with
  | (true, d1) => (false, d1)
  | (false, d1) => ptpAuth n m d1

/-- What `ptpJudge` said of a message that it has judged already, on a port that is a PTP port too. -/
def ptpJudged (t : Time) (n : Nat) (m : PtpMsg) (d : Dev) : Bool × Dev :=
  let p := d.ptp n
  if p.second = t.ns / 1000000000 ∧ 512 < p.count then (false, d) else ptpAuthOk m d

/-! ## The grandmaster (R54, R81, R82, R88) -/

/-- The bound of a clockAccuracy of IEEE 1588-2019 in nanoseconds, a part of one rounded up (R81); `none`: unknown, or beyond
10 s. -/
def accBound (a : Nat) : Option Nat :=
  if 0x17 ≤ a ∧ a < 0x20 then [1, 1, 1, 1, 1, 1, 1, 3, 10][a - 0x17]?
  else if 0x20 ≤ a then accBounds[a - 0x20]?
  else none

/-- A sample of PTP as the grandmaster of its port makes it (R81, R82, R88): the error is the clockAccuracy bound, or
totalTimeInaccuracy under C37.238-2017, where PRESUMED all ones is unknown. -/
def gmSample (d : Dev) (n : Nat) (x : TimeSample) : TimeSample :=
  match (d.ptp n).gm with
  | none => { x with err := none, traceable := false, utc := none }
  | some g =>
    { x with
      err := if d.get Reg.TKP_PTP.PROFILE = 1 then (if g.inacc = 2 ^ 32 - 1 then none else some g.inacc) else accBound g.acc
      traceable := g.traceable, utc := g.utc }

/-- The slot that PTP on port n feeds. -/
def ptpSlot (d : Dev) (n : Nat) : Option Nat := (List.range 4).find? fun k => d.getN Reg.TKP_REFn_CFG.SRC k == n + 1

/-- The grandmaster of the active reference, if that is PTP. -/
def activeGm (d : Dev) : Option (Nat × PtpGm) :=
  match activeRef d with
  | some n =>
    let s := d.getN Reg.TKP_REFn_CFG.SRC n
    if 1 ≤ s ∧ s ≤ 16 then ((d.ptp (s - 1)).gm).map fun g => (n, g) else none
  | none => none

/-- The grandmaster whose fields Announce passes through: that of a boundary clock that is LOCKED or in ACQUIRE (R54). -/
def passedGm (d : Dev) : Option (Nat × PtpGm) :=
  let st := svState d
  if d.get Reg.TKP_PTP.ROLE = 2 ∧ (st = svLocked ∨ st = svAcquire) then activeGm d else none

/-- clockClass, clockAccuracy and totalTimeInaccuracy of an Announce, and the grandmaster's other fields that it passes through
(R53, R54). -/
def announceFields (t : Time) (d : Dev) : (Nat × Nat × Option Nat) × List Byte :=
  let tlv (x : Nat) : Option Nat := if d.get Reg.TKP_PTP.PROFILE = 1 then some (min x (2 ^ 32 - 1)) else none
  match passedGm d with
  | some (n, g) => ((g.cls, g.acc, tlv (g.inacc + 3 + ceilNs ((d.ref n).filt.getD 0))), g.other)
  | none => ((clockClass t d, clockAcc (errEst t d), tlv (errWord t d)), [])

/-! ## Filling a message as it leaves (R53, R55, R164) -/

/-- Does MACsec protect transmission? -/
def protects (d : Dev) (n : Nat) : Bool := d.onN Reg.FP_MSEC_CTRL.EN n && d.onN Reg.FP_MSEC_CTRL.PROTECT n

/-- PTP is sent in two-step mode on this port (R164). -/
def twoStep (d : Dev) (n : Nat) : Bool := d.on Reg.TKP_PTP.TWO_STEP || protects d n

/-- A frame with its filled fields keeps its length. -/
def filled (m : PtpType) (b : List Byte) (vs : List Int) (other : List Byte) : List Byte :=
  slice (Config.ptpFill m b vs other) 0 b.length

/-- The other port of a pair. -/
def twin (n : Nat) : Nat := n / 2 * 2 + (1 - n % 2)

/-- The residence of the event message that a general message belongs to, which left in two-step mode on port `out`, or on the
other port in the other direction (R55): the follow-up carries it, and a Delay_Resp that of its Delay_Req. -/
def residenceOf (out : Nat) (m : PtpType) (d : Dev) : Int :=
  match m with
  | .followUp => tget (d.ptp out).residence 0
  | .pdelayRespFollowUp => tget (d.ptp out).residence 3 + tget (d.ptp (twin out)).residence 2
  | .delayResp => tget (d.ptp (twin out)).residence 1
  | _ => 0

/-- The message whose correction takes the residence of a one-step message that leaves in two-step mode (R164). -/
def followOf : PtpType → Option PtpType
  | .sync => some .followUp
  | .pdelayResp => some .pdelayRespFollowUp
  | _ => none

/-- The hardware fills a frame as it leaves port n at an instant in quarter nanoseconds (R53 to R55, R164): an Announce its time
quality, a one-step Sync or Pdelay_Resp its instant, and a forwarded message its correction with its residence, in units of 2^-16 ns;
in two-step mode an event message's residence goes to the message after it. -/
def fillTx (t : Time) (n q : Nat) (f : TxFrame) (d : Dev) : TxFrame × Dev :=
  match f.org with
  | .ptp .announce =>
    let (a, other) := announceFields t d
    ({ f with bytes := filled .announce f.bytes [a.1, a.2.1, ((a.2.2.map (· + 1)).getD 0 : Nat)] other },
      d.modPtp n fun p => { p with announced := some a })
  | .ptp m =>
    if (followOf m).isSome && !twoStep d n then ({ f with bytes := filled m f.bytes [(q : Int)] [] }, d) else (f, d)
  | .transparent m a =>
    let res : Int := ((q : Int) - a) * 2 ^ 14
    if isEvent m.mtype then
      if twoStep d n then
        ({ f with bytes := filled m.mtype f.bytes [m.correction] [] },
          d.modPtp n fun p => { p with residence := tset p.residence (ptpCode m.mtype) res })
      else ({ f with bytes := filled m.mtype f.bytes [m.correction + res] [] },
        d.modPtp n fun p => { p with residence := tset p.residence (ptpCode m.mtype) 0 })
    else ({ f with bytes := filled m.mtype f.bytes [m.correction + residenceOf n m.mtype d] [] }, d)
  | _ => (f, d)

/-- The Follow_Up that a one-step message forwarded in two-step mode needs: it carries the residence (R55, R164). -/
def ownFollow (d : Dev) (n : Nat) (f : TxFrame) : Option TxFrame :=
  match f.org with
  | .transparent m a =>
    if twoStep d n && !m.twoStep then
      (followOf m.mtype).map fun g => { f with org := .transparent { m with mtype := g, twoStep := true, correction := 0 } a }
    else none
  | _ => none

end Sys2Proof.Machine
end

