-- ==== Sys2Proof/Machine/Ports.lean ====
section
/-!
DEFINITION. The field ports: links, the transmit scheduler with its gates, timed launch and stamps, flow control, PRP
and HSR pairs, MACsec and reception (the chapter on field ports).
-/

namespace Sys2Proof.Machine

open Sys2Proof

def Dev.modPort (d : Dev) (n : Nat) (f : Port → Port) : Dev := d.setPort n (f (d.port n))

/-- Bits per nanosecond of the line (Table FP-1). -/
def lineRate (d : Dev) (n : Nat) : Nat :=
  match d.getN Reg.FP_CTRL.SPEED n with
  | 0 => 1
  | 1 => 10
  | _ => 25

/-- Nanoseconds that a frame takes on the wire, with preamble and interframe gap (R136). -/
def wireNs (d : Dev) (n len : Nat) : Nat := ((len + 20) * 8 + lineRate d n - 1) / lineRate d n

def linkUp (d : Dev) (n : Nat) : Bool := d.onN Reg.FP_STATUS.LINK n

/-- Does the port run? -/
def portRuns (d : Dev) (n : Nat) : Bool := decide (n < 16) && d.up (islPrt n) && d.onN Reg.FP_CTRL.EN n

/-! ## The full counter set (R166, R167, Table FP-3) -/

def fullVal (d : Dev) (n k : Nat) : Nat :=
  d.getN Reg.FP_FULL_LO.N (n * 32 + k) + 2 ^ 32 * d.getN Reg.FP_FULL_HI.N (n * 32 + k)

/-- Add to full-set counter k of port n; a rise of bit 47 is reported (R167). -/
def fullAdd (n k m : Nat) (d : Dev) : Dev :=
  let v := fullVal d n k
  let w := (v + m) % 2 ^ 48
  let d1 := (d.setN Reg.FP_FULL_LO.N (n * 32 + k) w).setN Reg.FP_FULL_HI.N (n * 32 + k) (w / 2 ^ 32)
  if !v.testBit 47 && w.testBit 47 then
    (d1.setN Reg.FP_STAT_HALF.K n (d1.getN Reg.FP_STAT_HALF.K n ||| 2 ^ k)).cause (intFp n) 5 n k
  else d1

/-- FP_BC_DROP counts a drop. -/
def bcDrop (n : Nat) (d : Dev) : Dev := d.sat Reg.FP_BC_DROP.N n

/-! ## Pairs (R153 to R156) -/

/-- Mode of the pair a port belongs to: 0 none, 1 PRP, 2 HSR. -/
def pairMode (d : Dev) (n : Nat) : Nat := d.getN Reg.FP_PAIR.MODE (n / 2 * 2)

/-- The number of no ring. -/
def noRing : Nat := 256

/-- The fate of one copy of a paired frame becomes known (R155). -/
def setFate (n ring idx : Nat) (fate : Option CopyFate) (d : Dev) : Dev :=
  let p := d.pair (n / 2)
  d.setPair (n / 2) { p with waits := p.waits.map fun w =>
    if w.ring = ring ∧ w.idx = idx then
      (if n % 2 = 0 then { w with even := some fate } else { w with odd := some fate })
    else w }

/-- Bytes 16 to 31 of a TXH completion (R476). -/
def txExt (stamp : Option Nat) (dest : Nat) : List Byte :=
  match stamp with
  | some q => tk80Bytes (q / 4) ++ [BitVec.ofNat 8 (q % 4), BitVec.ofNat 8 dest]
  | none => List.replicate 11 0 ++ [BitVec.ofNat 8 dest]

/-- A frame's way through the port ends: what became of it, `none` where a pair drops it under R156. -/
def txDone (n : Nat) (f : TxFrame) (fate : Option CopyFate) (d : Dev) : Dev :=
  match f.org with
  | .desc ring idx =>
    if pairMode d n ≠ 0 then setFate n ring idx fate d
    else
      let (st, stamp) : Nat × Option Nat := match fate with
        | some x => (x.status, x.stamp)
        | none => (stRejected, none)
      endStarted ring idx st f.bytes.length (txExt stamp n) (if stamp.isSome then some n else none) d
  | _ => d

/-- A frame that does not leave ends with a status. -/
def txFail (n : Nat) (f : TxFrame) (status : Nat) (d : Dev) : Dev := txDone n f (some ⟨status, false, none⟩) d

/-! ## Gates (R132 to R137) -/

/-- Entries of a gate list that count: their number, gate states and interval. -/
def gateList (d : Dev) (n : Nat) (c : GateCfg) : List (Nat × Nat × Nat) :=
  if c.cycle = 0 then []
  else (List.range (min c.len 128)).filterMap fun j =>
    let i := n * 256 + c.bank * 128 + j
    let iv := d.getN Reg.T_GATEI.INTERVAL i
    if iv = 0 then none else some (j, d.getN Reg.T_GATE.GATES i, iv)

/-- End of the cycle that starts at `start`: a change that falls within the extension ends it (R135). -/
def cycleEndOf (c : GateCfg) (pend : Option (GateCfg × Nat)) (start : Nat) : Nat :=
  match pend with
  | some (_, at_) => if start < at_ ∧ at_ ≤ start + c.cycle + c.ext then at_ else start + c.cycle
  | none => start + c.cycle

/-- The entry at the head of `l` runs from `start`; the last one holds until the cycle ends (R135). -/
def runEntry (l : List (Nat × Nat × Nat)) (start : Nat) (g : GateSt) : GateSt :=
  match l with
  | [] => { g with gates := 255, entry := 0, entryStart := start, entryEnd := g.cycleEnd }
  | (j, gs, iv) :: rest =>
    { g with gates := gs, entry := j, entryStart := start, entryEnd := if rest.isEmpty then g.cycleEnd else min (start + iv) g.cycleEnd }

/-- A cycle starts (R135). -/
def newCycle (d : Dev) (n : Nat) (c : GateCfg) (start : Nat) (g : GateSt) : GateSt :=
  runEntry (gateList d n c) start { g with cycleEnd := cycleEndOf c g.pend start }

/-- The list moves to its next entry, or to the next cycle. -/
def gateAdvance (d : Dev) (n : Nat) (c : GateCfg) (g : GateSt) : GateSt :=
  if g.cycleEnd ≤ g.entryEnd then newCycle d n c g.cycleEnd g
  else runEntry ((gateList d n c).filter fun e => g.entry < e.1) g.entryEnd g

/-- A change has become pending: the end of the running cycle, and so of its entry, follows it (R135). -/
def gateExtend (d : Dev) (n : Nat) (g : GateSt) : GateSt :=
  match g.oper with
  | some c =>
    if (gateList d n c).isEmpty then g
    else runEntry ((gateList d n c).filter fun e => g.entry ≤ e.1) g.entryStart
      { g with cycleEnd := cycleEndOf c g.pend (g.cycleEnd - c.cycle) }
  | none => g

/-- A configuration becomes operational at its instant (R133). -/
def gateApply (d : Dev) (n : Nat) (c : GateCfg) (at_ : Nat) (g : GateSt) : GateSt :=
  newCycle d n c at_ { g with oper := some c, pend := none, restart := none }

/-- A list that an island reset stopped restarts (R168). -/
def gateRestart (d : Dev) (n : Nat) (c : GateCfg) (at_ : Nat) (g : GateSt) : GateSt :=
  newCycle d n c at_ { g with oper := some c, restart := none }

/-- Gate states now: all open with GATE_EN = 0 or an empty list, INIT before a list runs (R132, R133). -/
def gatesNow (d : Dev) (n : Nat) (g : GateSt) : Nat :=
  if !d.onN Reg.FP_TAS_CTRL.GATE_EN n then 255
  else match g.oper with
    | none => d.getN Reg.FP_TAS_CTRL.INIT n
    | some c => if (gateList d n c).isEmpty then 255 else g.gates

/-- The next instant at which the gates can change, and the state then. -/
def gateNext (d : Dev) (n : Nat) (g : GateSt) : Option (Nat × GateSt) :=
  let own : Option (Nat × GateSt) := match g.oper, g.restart with
    | some c, _ => if (gateList d n c).isEmpty then none else some (g.entryEnd, gateAdvance d n c g)
    | none, some (c, at_) => some (at_, gateRestart d n c at_ g)
    | none, none => none
  match g.pend, own with
  | some (c, at_), some (e, g1) => if at_ ≤ e then some (at_, gateApply d n c at_ g) else some (e, g1)
  | some (c, at_), none => some (at_, gateApply d n c at_ g)
  | none, o => o

/-- The next instant before `until_` at which the gate of a class closes, if there is one; every change lies at least 1 ns after the
one before, so `until_ - now` of them suffice (R136). -/
def gateClose (d : Dev) (n tc until_ now : Nat) : Nat → GateSt → Option Nat
  | 0, _ => none
  | fuel + 1, g =>
    if !(gatesNow d n g).testBit tc then some now
    else match gateNext d n g with
      | some (e, g1) => if until_ ≤ e then none else gateClose d n tc until_ e fuel g1
      | none => none

/-- Spans of one cycle of a list: open or not, and how long. -/
def gateSpans (tc cycle : Nat) : Nat → List (Nat × Nat × Nat) → List (Bool × Nat)
  | _, [] => []
  | start, (_, gs, iv) :: rest =>
    if cycle ≤ start then []
    else (gs.testBit tc, if rest.isEmpty then cycle - start else min iv (cycle - start)) ::
      gateSpans tc cycle (start + iv) rest

/-- The longest run of open spans. -/
def longestRun : Nat → Nat → List (Bool × Nat) → Nat
  | _, best, [] => best
  | cur, best, (o, x) :: rest =>
    let c := if o then cur + x else 0
    longestRun c (max best c) rest

/-- The longest open span of a class in the operational list; `none` is without end (R137). -/
def longestOpen (d : Dev) (n tc : Nat) (g : GateSt) : Option Nat :=
  if !d.onN Reg.FP_TAS_CTRL.GATE_EN n then none
  else match g.oper with
    | none => none
    | some c =>
      let sp := gateSpans tc c.cycle 0 (gateList d n c)
      if sp.all (·.1) then none else some (longestRun 0 0 (sp ++ sp))

/-- The base time in the administrative registers, in TAI nanoseconds. -/
def baseNs (d : Dev) (n : Nat) : Nat :=
  (d.getN Reg.FP_TAS_BASE_SL.SEC n + 2 ^ 32 * d.getN Reg.FP_TAS_BASE_SH.SEC n) * 1000000000 +
    d.getN Reg.FP_TAS_BASE_NS.NS n

/-- The config change time of R133. -/
def changeTime (now : Nat) (c : GateCfg) : Nat :=
  if now < c.base then c.base
  else if c.cycle ≠ 0 then c.base + ((now - c.base) / c.cycle + 1) * c.cycle
  else now + 4

/-- CONFIG_CHANGE is written with 1 (R133, R134). -/
def configChange (t : Time) (n : Nat) (d : Dev) : Dev :=
  if d.onN Reg.FP_TAS_STAT.PENDING n then d.cause (intFp n) 4 n 0
  else
    let c : GateCfg := ⟨1 - d.getN Reg.FP_TAS_STAT.OPER_BANK n, d.getN Reg.FP_TAS_CTRL.ADMIN_LEN n,
      d.getN Reg.FP_TAS_CYCLE.NS n, d.getN Reg.FP_TAS_EXT.NS n, baseNs d n⟩
    (d.modPort n fun p => { p with gate := gateExtend d n { p.gate with pend := some (c, changeTime t.ns c) } }).setN
      Reg.FP_TAS_STAT.PENDING n 1

def execConfigChange (port : Nat) (s : State) : Host.Outcome State Fault Refusal :=
  run s fun t d => if port < 16 then onWrite (0x40040 + port * 0x2000) (configChange t port) d else d

/-- A reserved OP of the entry now running is reported (Table FP-2). -/
def gateOpCheck (n : Nat) (d : Dev) : Dev :=
  let g := (d.port n).gate
  match g.oper with
  | some c =>
    if !(gateList d n c).isEmpty && d.getN Reg.T_GATE.OP (n * 256 + c.bank * 128 + g.entry) != 0
    then d.cause (intFp n) 4 n 0 else d
  | none => d

/-- The instant of a configuration that waits. -/
def dueAt (x : Option (GateCfg × Nat)) (now : Nat) : Option (GateCfg × Nat) := x.filter fun y => decide (y.2 ≤ now)

/-- The change time of the pending configuration, or of a restart, has come; of the two the earlier one counts first, and a change
not after the restart takes its place (R133, R168). -/
def gateConfigApply (t : Time) (n : Nat) (d : Dev) : Dev :=
  let g := (d.port n).gate
  let change (c : GateCfg) (at_ : Nat) : Dev :=
    let d1 := d.modPort n fun p => { p with gate := gateApply d n c at_ g }
    gateOpCheck n ((((d1.setN Reg.FP_TAS_STAT.OPER_BANK n c.bank).setN Reg.FP_TAS_STAT.OPER_LEN n c.len).setN
      Reg.FP_TAS_STAT.PENDING n 0).setN Reg.FP_TAS_STAT.ENTRY n (d1.port n).gate.entry)
  let again (c : GateCfg) (at_ : Nat) : Dev :=
    let d1 := d.modPort n fun p => { p with gate := gateRestart d n c at_ g }
    gateOpCheck n (d1.setN Reg.FP_TAS_STAT.ENTRY n (d1.port n).gate.entry)
  match dueAt g.pend t.ns, dueAt g.restart t.ns with
  | some (c, a), some (r, b) => if a ≤ b then change c a else again r b
  | some (c, a), none => change c a
  | none, some (r, b) => again r b
  | none, none => d

def execGateConfigApply (port : Nat) (s : State) : Host.Outcome State Fault Refusal :=
  run s fun t d => if port < 16 ∧ d.up (islPrt port) then gateConfigApply t port d else d

/-- The running entry or cycle ends (R135). -/
def gateEntryAdvance (t : Time) (n : Nat) (d : Dev) : Dev :=
  let g := (d.port n).gate
  match g.oper with
  | some c =>
    if !(gateList d n c).isEmpty && decide (g.entryEnd ≤ t.ns) then
      let d1 := d.modPort n fun p => { p with gate := gateAdvance d n c g }
      gateOpCheck n (d1.setN Reg.FP_TAS_STAT.ENTRY n (d1.port n).gate.entry)
    else d
  | none => d

def execGateEntryAdvance (port : Nat) (s : State) : Host.Outcome State Fault Refusal :=
  run s fun t d => if port < 16 ∧ d.up (islPrt port) then gateEntryAdvance t port d else d

/-! ## Queues -/

def queueOf (d : Dev) (n tc : Nat) : List TxFrame := tget (d.port n).queues tc

/-- A frame enters a queue. -/
def pushTx (n : Nat) (f : TxFrame) (d : Dev) : Dev :=
  d.modPort n fun p => { p with queues := tset p.queues (f.tc % 8) (tget p.queues (f.tc % 8) ++ [f]) }

/-- The head of a queue leaves it. -/
def popTx (n tc : Nat) (d : Dev) : Dev :=
  d.modPort n fun p => { p with queues := tset p.queues tc (tget p.queues tc).tail }

/-- Is this frame sent on one port of a pair only, in a mode (R154)? -/
def ownPortOnly (mode : Nat) : TxOrigin → Bool
  | .ptp _ => true
  | .transparent _ _ => true
  | .hsrForward => true
  | .supervision => mode == 2
  | .flow => true
  | _ => false

/-- A frame is queued on a port, or on both ports of its pair with one sequence number (R154). A port in reset takes
no frame (R21). -/
def sendTx (n : Nat) (f : TxFrame) (d : Dev) : Dev :=
  let m := pairMode d n
  if m = 0 ∨ ownPortOnly m f.org then (if d.up (islPrt n) then pushTx n f d else d)
  else
    let e := n / 2 * 2
    let s := (d.pair (n / 2)).seq
    let d1 := d.setPair (n / 2) { d.pair (n / 2) with seq := (s + 1) % 2 ^ 16 }
    let copy (odd : Bool) : TxFrame := { f with
      len := f.len + 6, red := some ⟨m == 2, s, odd⟩
      fetched := f.fetched.map fun k => if f.len ≤ k then k + 6 else k }
    let d2 := if d.up (islPrt e) then pushTx e (copy false) d1 else txFail e f stAborted d1
    if d.up (islPrt (e + 1)) then pushTx (e + 1) (copy true) d2 else txFail (e + 1) f stAborted d2

/-! ## Starting a frame (R125, R130, R136 to R141, R150, R163) -/

/-- Signed nanoseconds until a launch target (R36, R38). -/
def launchDelta (t : Time) (d : Dev) (l : Nat × Nat × Nat) : Int :=
  timeAhead d.tkp.extend t.ns l.1 l.2.1

/-- The guard time of R139. -/
def guardNs (d : Dev) (n : Nat) : Nat := max 8000 (wireNs d n (d.getN Reg.FP_FRAME.MAX_LEN n) + 500)

/-- The classes whose head is a timed frame inside its guard time (R139). -/
def guardRefresh (t : Time) (n : Nat) (d : Dev) : Dev :=
  let g := (List.range 8).filter fun tc =>
    match (queueOf d n tc).head? with
    | some f => match f.launch with
      | some l => let x := launchDelta t d l; decide ((tickSpan t d : Int) ≤ x) && decide (x ≤ guardNs d n)
      | none => false
    | none => false
  d.modPort n fun p => { p with guard := g }

def execGuardTimeStart (port : Nat) (s : State) : Host.Outcome State Fault Refusal :=
  run s fun t d => if portRuns d port then guardRefresh t port d else d

/-- Does a frame, of class tc if it has one, overlap the target of another class's timed head (R139)? -/
def overlapsGuard (t : Time) (d : Dev) (n : Nat) (tc : Option Nat) (len : Nat) : Bool :=
  (d.port n).guard.any fun c =>
    tc != some c && match (queueOf d n c).head? with
      | some f => match f.launch with
        | some l => decide (launchDelta t d l < wireNs d n len)
        | none => false
      | none => false

/-- The gate is open, the class is not paused, the frame fits before its gate closes and clears every guard time. -/
def canStart (t : Time) (d : Dev) (n tc len : Nat) : Bool :=
  let p := d.port n
  (gatesNow d n p.gate).testBit tc && tget p.pauseEnd tc == 0 && !overlapsGuard t d n (some tc) len &&
    gateClose d n tc (t.ns + wireNs d n len) t.ns (wireNs d n len) p.gate == none

/-- The head of class tc is discarded; `none` is no status, of a copy that a pair drops under R156. -/
def discardHead (n tc : Nat) (f : TxFrame) (status : Option Nat) (d : Dev) : Dev :=
  txDone n f (status.map fun st => ⟨st, false, none⟩) (popTx n tc d)

/-- Bytes of a fetched frame that must be inside the port before it starts (R151). -/
def startBytes (d : Dev) (n len : Nat) : Nat :=
  match d.getN Reg.FP_TXCFG.START_THR n with
  | 0 => min 256 len
  | 1 => min 512 len
  | 2 => min 1024 len
  | 3 => min 2048 len
  | _ => len

/-- Is enough of a frame inside the port (R151)? -/
def startReady (d : Dev) (n : Nat) (f : TxFrame) : Bool :=
  match f.fetched with
  | none => true
  | some k => decide (startBytes d n f.len ≤ k)

/-- More of the fetched heads of a port has come in, how much the spec does not say: nothing where enough is inside (R151). -/
def fillHeads (n : Nat) (d : Dev) : Dev :=
  (List.range 8).foldl (fun x tc =>
    match queueOf x n tc with
    | f :: rest =>
      if startReady x n f then x
      else
        let (k, x1) := x.draw
        x1.modPort n fun p => { p with queues := tset p.queues tc ({ f with
          fetched := f.fetched.map fun b => min f.len (b + (Config.freeWord k).toNat) } :: rest) }
    | [] => x) d

/-- MACsec takes a packet number and the key for a frame (R163, R556). -/
def msecTx (n : Nat) (d : Dev) : Bool × Dev :=
  if !protects d n then (true, d)
  else
    let pn := d.getN Reg.FP_MSEC_TXPN.PN n
    if !d.onN Reg.FP_MSEC_TXSA.VALID n || pn == 0xFFFFFFFF then (false, d)
    else
      match keyUse engMsecTx n (d.getN Reg.FP_MSEC_TXSA.KEY_SLOT n) 0 true d with
      | (none, d1) => (false, d1)
      | (some _, d1) =>
        let d2 := d1.setN Reg.FP_MSEC_TXPN.PN n (pn + 1)
        (true, if pn + 1 = 0xC0000000 then d2.cause (intFp n) 6 n 0 else d2)

/-- What happens to the head of a class at a frame boundary. -/
inductive Pick where
  | nothing
  | discarded (d : Dev)
  | started (d : Dev)
  deriving DecidableEq, Repr

/-- The frame goes onto the wire, its first bit after the SFD at an instant in quarter nanoseconds; what the hardware fills is
filled as it leaves (R53, R55, R138, R163). -/
def startTx (t : Time) (n tc : Nat) (f : TxFrame) (status startQ : Nat) (d : Dev) : Pick :=
  match msecTx n d with
  | (false, d1) => .discarded (bcDrop n (discardHead n tc f (some stRejected) d1))
  | (true, d1) =>
    let d2 := popTx n tc d1
    let d3 := match ownFollow d n f with
      | some g => pushTx n g d2
      | none => d2
    let (g, d4) := fillTx t n startQ f d3
    .started (d4.modPort n fun p => { p with cur := some ⟨g, startQ, status⟩ })

/-- The head of class tc (R125, R130, R136 to R141, R151, R156). A timed frame on time starts at its target (R138). -/
def tryClass (t : Time) (n tc : Nat) (d : Dev) : Pick :=
  match (queueOf d n tc).head? with
  | none => .nothing
  | some f =>
    if !linkUp d n then .discarded (bcDrop n (discardHead n tc f (if pairMode d n = 0 then some stRejected else none) d))
    else if (match longestOpen d n tc (d.port n).gate with | some x => decide (x < wireNs d n f.len) | none => false)
    then .discarded (fullAdd n 28 1 (bcDrop n (discardHead n tc f (some stLimit) d)))
    else if !canStart t d n tc f.len || !startReady d n f then .nothing
    else match f.launch with
      | none => startTx t n tc f stOk t.qns d
      | some l =>
        match verdictNow t d l.1 l.2.1 l.2.2 with
        | .wait => .nothing
        | .ok => startTx t n tc f stOk ((t.ns + (launchDelta t d l).toNat) * 4) d
        | .late => startTx t n tc f stLate t.qns (fullAdd n 30 1 d)
        | .expired => .discarded (fullAdd n 29 1 (bcDrop n (discardHead n tc f (some stExpired) d)))

/-- The classes in order: the first whose head can start or must be discarded. -/
def pickClass (t : Time) (n : Nat) (d : Dev) : List Nat → Pick
  | [] => .nothing
  | tc :: rest =>
    match tryClass t n tc d with
    | .nothing => pickClass t n d rest
    | x => x

/-- At a frame boundary the highest eligible class starts its head; heads that cannot be sent are discarded on the
way (R130). -/
def pickFrame (t : Time) (n : Nat) (classes : List Nat) : Nat → Dev → Dev
  | 0, d => d
  | fuel + 1, d =>
    match pickClass t n d classes with
    | .nothing => d
    | .started d1 => d1
    | .discarded d1 => pickFrame t n classes fuel d1

/-- Frames queued on a port. -/
def queued (d : Dev) (n : Nat) : Nat := ((d.port n).queues.map fun e => e.2.length).sum

/-- The head of the class is a timed frame whose target is now. -/
def targetNow (t : Time) (n : Nat) (d : Dev) (tc : Nat) : Bool :=
  match (queueOf d n tc).head? with
  | some f => match f.launch with
    | some l => decide (verdictNow t d l.1 l.2.1 l.2.2 = .ok)
    | none => false
  | none => false

/-- A flow control frame that may start: it is of no class, so that neither gate nor pause holds it (DESIGN CHOICE), but it overlaps
no timed target (R139, R149). -/
def flowReady (t : Time) (n : Nat) (d : Dev) : Option TxFrame :=
  match (d.port n).flowQ with
  | f :: _ =>
    if linkUp d n && !overlapsGuard t d n none f.len && !(List.range 8).any (targetNow t n d) then some f else none
  | [] => none

/-- A frame boundary: a flow control frame goes first, and a timed head whose target is now before every other class (R130, R138,
R149). -/
def txFrameStart (t : Time) (n : Nat) (classes : List Nat) (d : Dev) : Dev :=
  if n < 16 ∧ d.up (islPrt n) ∧ (d.port n).cur = none then
    let d1 := fillHeads n (guardRefresh t n d)
    match flowReady t n d1 with
    | some f => d1.modPort n fun p => { p with flowQ := p.flowQ.tail, cur := some ⟨f, t.qns, stOk⟩ }
    | none =>
      pickFrame t n (classes.filter (targetNow t n d1) ++ classes.filter fun tc => !targetNow t n d1 tc)
        (queued d1 n + 1) d1
  else d

def execTxFrameStart (port : Nat) (s : State) : Host.Outcome State Fault Refusal :=
  run s fun t d => txFrameStart t port [7, 6, 5, 4, 3, 2, 1, 0] d

/-- The target of a timed head has come (R138, R141). -/
def execTimedLaunch (port tc : Nat) (s : State) : Host.Outcome State Fault Refusal :=
  run s fun t d =>
    match (queueOf d port tc).head? with
    | some f => if f.launch.isSome then txFrameStart t port [tc] d else d
    | none => d

/-! ## Ending a frame (R131, R142, R143, R152, R168) -/

/-- Does the frame's stamp go into the transmit timestamp queue (R142)? DESIGN CHOICE: not where its ring is gone, since the
completion that would free the entry is lost (R169). -/
def wantsStamp (d : Dev) (n : Nat) (f : TxFrame) : Bool :=
  match f.org with
  | .ptp m => isEvent m && twoStep d n
  | .desc ring _ => f.tsReq && decide (ring ≠ noRing)
  | _ => f.tsReq

/-- The transmit stamp in quarter nanoseconds (R142). -/
def txStamp (d : Dev) (n startQ : Nat) : Nat :=
  ((startQ : Int) + sint 16 (d.getN Reg.FP_TS_LAT.TX_TRIM n)).toNat

/-- A stamp enters the queue; HWM follows. -/
def pushStamp (n : Nat) (o : TxOrigin) (q : Nat) (d : Dev) : Dev :=
  let d1 := d.modPort n fun p => { p with stamps := p.stamps ++ [(o, q)] }
  let k := (d1.port n).stamps.length
  (d1.setN Reg.FP_TS_CNT.PENDING n k).setN Reg.FP_TS_CNT.HWM n (max k (d1.getN Reg.FP_TS_CNT.HWM n))

/-- The frame in progress has run to its FCS, or was ended with the inverse of it: it has been at the balls, and is on its way back
with LOOP (R131, R666). -/
def offWire (n : Nat) (c : TxCur) (good : Bool) (d : Dev) : Dev :=
  d.modPort n fun p => { p with
    cur := none, sent := p.sent ++ [(c.frame, c.startQ, good)]
    looped := if d.onN Reg.FP_CTRL.LOOP n then p.looped ++ [(c.frame, good)] else p.looped }

/-- The frame in progress ends with its FCS (R131, R142, R143, Table FP-3). -/
def txFrameEnd (n : Nat) (d : Dev) : Dev :=
  match (d.port n).cur with
  | none => d
  | some c =>
    let f := c.frame
    let d1 := offWire n c true d
    let d2 := (fullAdd n 25 1 (fullAdd n 24 f.len d1)).sat Reg.FP_BC_TXF.N n
    let d3 := if f.org = .flow then fullAdd n 26 1 d2 else d2
    let onTime := c.status == stOk
    if wantsStamp d n f then
      if 64 ≤ (d.port n).stamps.length then
        txDone n f (some ⟨stTsLost, onTime, none⟩) ((fullAdd n 31 1 d3).cause (intFp n) 2 n stTsLost)
      else
        let q := txStamp d n c.startQ
        txDone n f (some ⟨c.status, onTime, if f.tsReq then some q else none⟩) (pushStamp n f.org q d3)
    else txDone n f (some ⟨c.status, onTime, none⟩) d3

def execTxFrameEnd (port : Nat) (s : State) : Host.Outcome State Fault Refusal :=
  run s fun _ d => if port < 16 then txFrameEnd port d else d

/-- The data of the frame in progress does not arrive in time (R152); a frame that was wholly inside the port, or built on the chip,
has all its data. -/
def txUnderrun (n : Nat) (d : Dev) : Dev :=
  match (d.port n).cur with
  | none => d
  | some c =>
    if (c.frame.fetched.getD c.frame.len) ≥ c.frame.len then d
    else
      let thr := d.getN Reg.FP_TXCFG.START_THR n
      let d2 := (fullAdd n 27 1 (offWire n c false d)).cause (intFp n) 1 n stMalformed
      txFail n c.frame stMalformed (if thr < 4 then d2.setN Reg.FP_TXCFG.START_THR n (thr + 1) else d2)

def execTxUnderrun (port : Nat) (s : State) : Host.Outcome State Fault Refusal :=
  run s fun _ d => if port < 16 then txUnderrun port d else d

/-- The status of a paired frame and the port whose stamp it carries (R155). -/
def pairStatus (e o : Option CopyFate) : Nat × Option (Nat × Bool) :=
  let left (x : Option CopyFate) : Bool := (x.map (·.onTime)).getD false
  let st := if left e || left o then stOk
    else match e, o with
      | some a, _ => a.status
      | none, some b => b.status
      | none, none => stRejected
  let stamp := match e.bind (·.stamp), o.bind (·.stamp) with
    | some a, some b => if b < a then some (b, true) else some (a, false)
    | some a, none => some (a, false)
    | none, some b => some (b, true)
    | none, none => none
  (st, stamp)

/-- Both copies of a paired frame have left or been dropped: its completion becomes due (R155). -/
def pairCompletion (pr : Nat) (d : Dev) : Dev :=
  let p := d.pair pr
  match p.waits.find? fun w => w.even.isSome && w.odd.isSome with
  | none => d
  | some w =>
    let e := w.even.join
    let o := w.odd.join
    let (st, stamp) := pairStatus e o
    let d1 := d.setPair pr { p with waits := p.waits.erase w }
    let second := match stamp with
      | some (_, odd) => if odd then pr * 2 else pr * 2 + 1
      | none => 16
    let d2 := if second < 16 ∧ (e.bind (·.stamp)).isSome ∧ (o.bind (·.stamp)).isSome then freeStamp second (.desc w.ring w.idx) d1 else d1
    endStarted w.ring w.idx st (dLen w.words) (txExt (stamp.map (·.1)) (pr * 2))
      (stamp.map fun x => if x.2 then pr * 2 + 1 else pr * 2) d2

def execPairCompletion (pair : Nat) (s : State) : Host.Outcome State Fault Refusal :=
  run s fun _ d => if pair < 8 then pairCompletion pair d else d

/-! ## TXH (R127, R474 to R476) -/

def txhDest (ws : DescWords) : Nat := dByte ws 24 % 32

/-- A SEND for a field port (R127, R474, R476): the device fetches the frame and queues it. -/
def txhSend (t : Time) (n : Nat) (bytes : List Byte) (d : Dev) : Dev :=
  match startable d n clsTxh 0x10 with
  | none => d
  | some h =>
    let ws := h.words
    let p := txhDest ws
    if 16 ≤ p then d
    else if dLen ws = 0 then completeHead t n h stSkipped 0 [] d
    else
      let m := pairMode d p
      let refuse (st : Nat) : Dev := completeHead t n h st 0 (txExt none p) d
      if m ≠ 0 ∧ p % 2 = 1 then refuse stRejected
      else if d.getN Reg.FP_FRAME.MAX_LEN p < dLen ws + 4 + (if m = 0 then 0 else 6) then refuse stMalformed
      else if !d.up (islPrt p) then refuse stAborted
      else
        let fl := dByte ws 25
        let timed := fl.testBit 3
        let f : TxFrame := ⟨.desc n h.idx, fl % 8, dLen ws + 4, slice bytes 0 (dLen ws),
          if timed then some (dw ws 7, dBytes ws 32 2, dBytes ws 26 2) else none, fl.testBit 4,
          if timed then none else some (startBytes d p (dLen ws + 4)), none⟩
        let d1 := startHead t n h d
        let d2 := if m = 0 then d1 else
          d1.setPair (p / 2) { d1.pair (p / 2) with waits := (d1.pair (p / 2)).waits ++ [⟨n, h.idx, ws, none, none⟩] }
        sendTx p f d2

def execTxhSend (n : Nat) (bytes : List Byte) (s : State) : Host.Outcome State Fault Refusal :=
  run s fun t d => txhSend t n bytes d

/-- A SEND with DEST 20 (R475): the frame waits at the injection input until ingest takes it. -/
def txhInject (t : Time) (n : Nat) (f : RxFrame) (d : Dev) : Dev :=
  match startable d n clsTxh 0x10 with
  | none => d
  | some h =>
    let ws := h.words
    if txhDest ws ≠ 20 then d
    else if dLen ws = 0 then completeHead t n h stSkipped 0 [] d
    else if !d.up islIng then completeHead t n h stAborted 0 (txExt none 20) d
    else
      let stamp := if (dByte ws 25).testBit 5 then
          some ((dBytes ws 34 6 * 1000000000 + dBytes ws 40 4) * 4) else none
      let d1 := startHead t n h d
      { d1 with ing := { d1.ing with injq := d1.ing.injq ++ [⟨n, h.idx, stamp, { f with len := dLen ws + 4 }⟩] } }

def execTxhInject (n : Nat) (f : RxFrame) (s : State) : Host.Outcome State Fault Refusal :=
  run s fun t d => txhInject t n f d

/-! ## Links (R122 to R124, R156, R666) -/

/-- LINK goes up (R124). -/
def linkGoUp (n : Nat) (d : Dev) : Dev :=
  if !portRuns d n || linkUp d n then d
  else
    let an := d.getN Reg.FP_CTRL.SPEED n == 0 && d.onN Reg.FP_CTRL.AN_EN n
    (((d.setN Reg.FP_STATUS.LINK n 1).setB Reg.FP_STATUS.AN_DONE n an).setB Reg.FP_STATUS.FEC_LOCK n
      (d.getN Reg.FP_CTRL.FEC n != 0)).cause (intFp n) 0 n 1

/-- LINK goes down (R124); in a pair the path loss is logged (R156). -/
def linkGoDown (n : Nat) (d : Dev) : Dev :=
  if !linkUp d n then d
  else
    let d1 := (((d.setN Reg.FP_STATUS.LINK n 0).setN Reg.FP_STATUS.AN_DONE n 0).setN Reg.FP_STATUS.FEC_LOCK n 0).cause
      (intFp n) 0 n 0
    let d2 := fullAdd n 23 1 d1
    if pairMode d n ≠ 0 then d2.event 113 n n 0 else d2

def execLinkUp (port : Nat) (s : State) : Host.Outcome State Fault Refusal := run s fun _ d => linkGoUp port d
def execLinkDown (port : Nat) (s : State) : Host.Outcome State Fault Refusal :=
  run s fun _ d => if port < 16 then linkGoDown port d else d

/-- The FEC values that Table FP-1 allows. -/
def fecOk (speed fec : Nat) : Bool :=
  match speed with
  | 0 => fec == 0
  | 1 => decide (fec ≤ 1)
  | 2 => decide (fec ≤ 2)
  | _ => false

/-- A write to FP_CTRL (R122, R123, R666). -/
def writeFpCtrl (n : Nat) (v : Word32) (d : Dev) : Dev :=
  let w := v.toNat
  let speed := bits w 1 2
  let fec := bits w 3 2
  let an := bits w 5 1
  let was := d.onN Reg.FP_CTRL.EN n
  let changes := speed != d.getN Reg.FP_CTRL.SPEED n || fec != d.getN Reg.FP_CTRL.FEC n || an != d.getN Reg.FP_CTRL.AN_EN n
  let loopChg := bits w 6 1 != d.getN Reg.FP_CTRL.LOOP n
  let d1 := ((d.setN Reg.FP_CTRL.EN n (bits w 0 1)).setN Reg.FP_CTRL.LOOP n (bits w 6 1)).setN Reg.FP_CTRL.PTP_TC n (bits w 8 3)
  let d2 :=
    if was then if changes then d1.cause (intFp n) 4 n 0 else d1
    else if fecOk speed fec then
      ((d1.setN Reg.FP_CTRL.SPEED n speed).setN Reg.FP_CTRL.FEC n fec).setN Reg.FP_CTRL.AN_EN n an
    else (d1.setN Reg.FP_CTRL.AN_EN n an).cause (intFp n) 4 n 0
  let d3 := if loopChg then d2.modPort n fun p => { p with looped := [], loopPtp := [] } else d2
  if loopChg || (was && bits w 0 1 == 0) then linkGoDown n d3 else d3

def execWriteFpCtrl (port : Nat) (v : Word32) (s : State) : Host.Outcome State Fault Refusal :=
  run s fun _ d => if port < 16 then onWrite (0x40000 + port * 0x2000) (writeFpCtrl port v) d else d

/-! ## PAUSE and PFC (R144 to R150) -/

/-- FP_STATUS.PAUSED and STORM follow the port. -/
def pauseBits (n : Nat) (d : Dev) : Dev :=
  let p := d.port n
  (d.setN Reg.FP_STATUS.PAUSED n ((List.range 8).foldl (fun a c => a + b2n (tget p.pauseEnd c != 0) * 2 ^ c) 0)).setB
    Reg.FP_STATUS.STORM n (!p.storm.isEmpty)

/-- A pause request of q quanta for one class (R145, R147, R148). -/
def pauseClass (t : Time) (rate q : Nat) (p : Port) (tc : Nat) : Port :=
  let p1 := { p with lastReq := tset p.lastReq tc (t.loc + 1) }
  if p.storm.contains tc then p1
  else if q = 0 then { p1 with pauseEnd := tset p1.pauseEnd tc 0, pauseSince := tset p1.pauseSince tc 0 }
  else { p1 with
    pauseEnd := tset p1.pauseEnd tc (t.loc + (q * 512 + rate - 1) / rate)
    pauseSince := if tget p1.pauseEnd tc = 0 then tset p1.pauseSince tc (t.loc + 1) else p1.pauseSince }

/-- A good PAUSE or PFC frame (R144, R145). -/
def pauseReceive (t : Time) (n : Nat) (b : FrameBody) (d : Dev) : Dev :=
  let m := d.getN Reg.FP_PAUSE.MODE n
  let rate := lineRate d n
  match b with
  | .pause q =>
    let d1 := fullAdd n 4 1 d
    if m = 1 then
      pauseBits n (d1.modPort n fun p => (List.range 8).foldl (pauseClass t rate (q % 2 ^ 16)) p)
    else d1
  | .pfc en qs =>
    let d1 := fullAdd n 5 1 d
    if m = 2 then
      let cs := (List.range 8).filter fun c => en.testBit c && (d.getN Reg.FP_PAUSE.PFC_EN n).testBit c
      pauseBits n (d1.modPort n fun p => cs.foldl (fun p c => pauseClass t rate (qs.getD c 0 % 2 ^ 16) p c) p)
    else d1
  | _ => d

/-- The pause time of a class has passed (R145). -/
def pauseExpire (t : Time) (n tc : Nat) (d : Dev) : Dev :=
  let e := tget (d.port n).pauseEnd tc
  if e ≠ 0 ∧ e ≤ t.loc then
    pauseBits n (d.modPort n fun p => { p with
      pauseEnd := tset p.pauseEnd tc 0, pauseSince := tset p.pauseSince tc 0 })
  else d

def execPauseExpire (port tc : Nat) (s : State) : Host.Outcome State Fault Refusal :=
  run s fun t d => if port < 16 ∧ tc < 8 then pauseExpire t port tc d else d

/-- A class has been paused without a break for longer than STORM (R148). -/
def pauseStorm (t : Time) (n tc : Nat) (d : Dev) : Dev :=
  let p := d.port n
  let lim := d.getN Reg.FP_PAUSE.STORM n * 10000000
  if tget p.pauseEnd tc ≠ 0 ∧ lim ≠ 0 ∧ !p.storm.contains tc ∧ lim < t.loc + 1 - tget p.pauseSince tc then
    (pauseBits n (d.setPort n { p with storm := p.storm ++ [tc] })).cause (intFp n) 3 n 0
  else d

def execPauseStorm (port tc : Nat) (s : State) : Host.Outcome State Fault Refusal :=
  run s fun t d => if port < 16 ∧ tc < 8 then pauseStorm t port tc d else d

/-- No request for the class has come for STORM (R148). -/
def pauseStormClear (t : Time) (n tc : Nat) (d : Dev) : Dev :=
  let p := d.port n
  if p.storm.contains tc ∧ d.getN Reg.FP_PAUSE.STORM n * 10000000 ≤ t.loc + 1 - tget p.lastReq tc then
    pauseBits n (d.setPort n { p with storm := p.storm.erase tc })
  else d

def execPauseStormClear (port tc : Nat) (s : State) : Host.Outcome State Fault Refusal :=
  run s fun t d => if port < 16 ∧ tc < 8 then pauseStormClear t port tc d else d

/-- The port's own MAC address (R659). -/
def portMac (d : Dev) (n : Nat) : Nat := d.getN Reg.FP_MAC_LO.ADDR n + 2 ^ 32 * d.getN Reg.FP_MAC_HI.ADDR n

/-- The head of a MAC control frame. -/
def flowHead (op : Nat) : List Byte := be 2 0x8808 ++ be 2 op

/-- A PAUSE frame of IEEE 802.3 Annex 31B, or a PFC frame of IEEE 802.1Qbb for every class, as MODE sets (R149). PRESUMED: their
layout is that of those standards. -/
def flowBytes (d : Dev) (n q : Nat) : List Byte :=
  slice (be 6 0x0180C2000001 ++ be 6 (portMac d n) ++
    (if d.getN Reg.FP_PAUSE.MODE n = 2 then flowHead 0x0101 ++ be 2 0xFF ++ (List.replicate 8 (be 2 q)).flatten
     else flowHead 0x0001 ++ be 2 q)) 0 60

/-- A flow control frame with quanta q goes out at the next frame boundary; `since` is when the pause that it makes began (R149). -/
def sendFlow (n q : Nat) (since : Option Nat) (d : Dev) : Dev :=
  let f : TxFrame := ⟨.flow, 0, 64, flowBytes d n q, none, false, none, none⟩
  d.modPort n fun p => { p with pauseSent := since, flowQ := p.flowQ ++ [f] }

/-- May the port send flow control frames? -/
def flowOn (d : Dev) (n : Nat) : Bool :=
  portRuns d n && linkUp d n && d.onN Reg.FP_PAUSE.TX_EN n && d.getN Reg.FP_PAUSE.MODE n != 0 &&
    d.getN Reg.FP_PAUSE_TX.QUANTA n != 0

def pauseTransmit (t : Time) (n : Nat) (d : Dev) : Dev :=
  let p := d.port n
  if flowOn d n ∧ p.pauseSent = none ∧ 3 * Config.rxBufBytes < 4 * p.rxFill then
    sendFlow n (d.getN Reg.FP_PAUSE_TX.QUANTA n) (some t.loc) d
  else d

def pauseResend (t : Time) (n : Nat) (d : Dev) : Dev :=
  let p := d.port n
  let q := d.getN Reg.FP_PAUSE_TX.QUANTA n
  match p.pauseSent with
  | some a =>
    if flowOn d n ∧ Config.rxBufBytes < 2 * p.rxFill ∧ q * 256 / lineRate d n ≤ t.loc - a
    then sendFlow n q (some t.loc) d else d
  | none => d

def pauseReleaseSend (n : Nat) (d : Dev) : Dev :=
  let p := d.port n
  if flowOn d n ∧ p.pauseSent.isSome ∧ 2 * p.rxFill < Config.rxBufBytes then sendFlow n 0 none d else d

def execPauseTransmit (port : Nat) (s : State) : Host.Outcome State Fault Refusal := run s fun t d => pauseTransmit t port d
def execPauseResend (port : Nat) (s : State) : Host.Outcome State Fault Refusal := run s fun t d => pauseResend t port d
def execPauseReleaseSend (port : Nat) (s : State) : Host.Outcome State Fault Refusal :=
  run s fun _ d => pauseReleaseSend port d

/-! ## Reception (R126, R128, R157 to R162) -/

/-- A receive error is counted (FP_BC_RXERR). -/
def rxError (n k : Nat) (d : Dev) : Dev := (fullAdd n k 1 d).sat Reg.FP_BC_RXERR.N n

/-- Counter of a good frame's size. -/
def sizeBin (len : Nat) : Nat :=
  if len ≤ 64 then 6 else if len ≤ 127 then 7 else if len ≤ 255 then 8 else if len ≤ 511 then 9
  else if len ≤ 1023 then 10 else if len ≤ 1518 then 11 else 12

/-- A good frame is counted (Table FP-3). -/
def rxGood (n : Nat) (f : RxFrame) (d : Dev) : Dev :=
  let d1 := fullAdd n (sizeBin f.len) 1 (fullAdd n 1 1 (fullAdd n 0 f.len (d.sat Reg.FP_BC_RXF.N n)))
  if f.dst = 2 ^ 48 - 1 then fullAdd n 3 1 d1
  else if f.dst.testBit 40 then fullAdd n 2 1 d1 else d1

/-- The outcome of a port's checks on a frame. -/
inductive RxCheck where
  | discard (d : Dev)
  | pass (unverified : Bool) (f : RxFrame) (d : Dev)
  deriving DecidableEq, Repr

/-- Receive channel k's association an, as an index. -/
def saIdx (k an : Nat) : Nat := k % 4 * 4 + an % 4

/-- A frame that names an installed association and passes its checks (R162). -/
def msecVerify (n : Nat) (s : SecTag) (d : Dev) : Bool × Dev :=
  let p := d.port n
  match (List.range 4).find? fun k => tget p.sci k == s.sci && (tget p.rxSa (saIdx k s.an)).valid with
  | none => (false, d)
  | some k =>
    let sa := tget p.rxSa (saIdx k s.an)
    match keyUse engMsecRx n sa.keySlot 0 true d with
    | (none, d1) => (false, d1)
    | (some key, d1) =>
      if s.icvKey = some key.material ∧ sa.lowPn ≤ s.pn then
        (true, d1.modPort n fun p => { p with
          rxSa := tset p.rxSa (saIdx k s.an) { sa with lowPn := max sa.lowPn (s.pn + 1 - d.getN Reg.FP_MSEC_WIN.WIN n) } })
      else (false, d1)

/-- MACsec on reception (R162). -/
def msecRx (n : Nat) (f : RxFrame) (d : Dev) : RxCheck :=
  let v := d.getN Reg.FP_MSEC_CTRL.VALIDATE n
  if !d.onN Reg.FP_MSEC_CTRL.EN n then
    .pass false (if f.sec.isSome then { f with body := .other 0x88E5 } else f) d
  else match f.sec with
    | none => if v = 2 then .discard d else .pass false f d
    | some s =>
      if v = 0 then .pass false f d
      else
        match msecVerify n s d with
        | (true, d1) => .pass false f d1
        | (false, d1) =>
          let d2 := (rxError n 18 d1).event 112 n n 0
          if v = 2 then .discard d2 else .pass true f d2

/-- Length and FCS checks (R126). -/
def rxMac (n : Nat) (f : RxFrame) (d : Dev) : RxCheck :=
  if f.codeErr then .discard (rxError n 16 d)
  else if d.getN Reg.FP_FRAME.MAX_LEN n < f.len then .discard (rxError n 15 d)
  else if f.len < 64 then .discard (rxError n 14 d)
  else if !f.fcsOk then .discard (rxError n 13 d)
  else msecRx n f d

/-- Keys of a pair that are not yet forgotten (R157): with FORGET = 0, which only bypasses the discard, all of them. -/
def liveKeys (t : Time) (d : Dev) (pr : Nat) : List DupKey :=
  let f := d.getN Reg.FP_PAIR.FORGET (pr * 2)
  (d.pair pr).keys.filter fun k => f == 0 || decide (t.loc - k.at_ < f * 10000000)

def setKeys (pr : Nat) (ks : List DupKey) (d : Dev) : Dev :=
  (d.setPair pr { d.pair pr with keys := ks }).setN Reg.FP_PAIR_STAT.ENTRIES (pr * 2) ks.length

/-- The oldest keys that FORGET has passed leave the table (R157). -/
def dupKeyForget (t : Time) (pr : Nat) (d : Dev) : Dev := setKeys pr (liveKeys t d pr) d

def execDupKeyForget (pair : Nat) (s : State) : Host.Outcome State Fault Refusal :=
  run s fun t d => if pair < 8 then dupKeyForget t pair d else d

/-- A new key enters the table, evicting the oldest when it is full (R158). -/
def addKey (t : Time) (pr : Nat) (mac seq : Nat) (d : Dev) : Dev :=
  let ks := (d.pair pr).keys
  if 4096 ≤ ks.length then setKeys pr (ks.tail ++ [⟨mac, seq, t.loc⟩]) (d.sat Reg.FP_PAIR_STAT.EVICT (pr * 2))
  else setKeys pr (ks ++ [⟨mac, seq, t.loc⟩]) d

/-- Is this the MAC address of one of the two ports of n's pair? -/
def nodeMac (d : Dev) (n mac : Nat) : Bool := mac == portMac d n || mac == portMac d (twin n)

/-- HSR forwards the frame, as it came, to the other port, in the class of its priority, unless it is addressed to this node alone
(R160). DESIGN CHOICE: a frame without a VLAN tag, which carries no priority, goes in class 0. DEDUCED from R55 and R154: a PTP message
crosses a pair through the transparent clock alone. -/
def hsrForward (n : Nat) (f : RxFrame) (d : Dev) : Dev :=
  let tc := match f.vlans.head? with | some v => v / 2 ^ 13 % 8 | none => 0
  let ptp := match f.body with
    | .ptp _ => true
    | _ => false
  if nodeMac d n f.dst || ptp then d
  else sendTx (twin n) ⟨.hsrForward, tc, f.len, f.raw, none, false, none, f.red⟩ d

/-- Bytes a port's receive buffer holds follow the frames at its ingest input. -/
def toIngest (n arrQ : Nat) (unv : Bool) (f : RxFrame) (d : Dev) : Dev :=
  let p := d.port n
  if d.inReset islIng then d
  else if Config.rxBufBytes < p.rxFill + f.len then bcDrop n (fullAdd n 17 1 d)
  else
    let d1 := d.setPort n { p with rxFill := p.rxFill + f.len }
    { d1 with ing := { d1.ing with inq := tset d1.ing.inq n (tget d1.ing.inq n ++ [⟨n, arrQ, f, unv⟩]) } }

/-- A frame that has passed the port: PTP goes to the timekeeper and supervision to Xaorn (R161), the rest to ingest, PTP behind two
or more VLAN tags among it (Tables TKP-4 and ING-2). -/
def handUp (n arrQ : Nat) (unv : Bool) (f : RxFrame) (d : Dev) : Dev :=
  match f.body with
  | .ptp m =>
    if 2 ≤ f.vlans.length then toIngest n arrQ unv f d
    else if d.onN Reg.FP_CTRL.LOOP n then d.modPort n fun p => { p with loopPtp := p.loopPtp ++ [m.mtype] }
    else d
  | .supervision => d.modPort n fun p => { p with supIn := p.supIn ++ [f] }
  | _ => toIngest n arrQ unv f d

/-- Pairs on reception (R157 to R160). -/
def rxPair (t : Time) (n arrQ : Nat) (unv : Bool) (f : RxFrame) (d : Dev) : Dev :=
  let m := pairMode d n
  let pr := n / 2
  if m = 0 then handUp n arrQ unv f d
  else if m = 2 ∧ nodeMac d n f.srcMac = true then d
  else match f.red with
    | none => handUp n arrQ unv f (if m = 2 then hsrForward n f d else d)
    | some r =>
      let d1 := if m = 1 ∧ !r.hsr ∧ r.lanB ≠ (n % 2 == 1) then fullAdd n 20 1 d else d
      let pass := d.getN Reg.FP_PAIR.FORGET (pr * 2) = 0
      let seen := (liveKeys t d1 pr).any fun k => k.mac == f.srcMac && k.seq == r.seq
      if seen && !pass then fullAdd n 19 1 d1
      else if seen || (pass && m == 1) then handUp n arrQ unv f d1
      else
        let d2 := addKey t pr f.srcMac r.seq (dupKeyForget t pr d1)
        handUp n arrQ unv f (if m = 2 then hsrForward n f d2 else d2)

/-- Does a received body stand for a frame of this origin, with these bytes (R666)? -/
def bodyFits (o : TxOrigin) (b : List Byte) (x : FrameBody) : Bool :=
  match o, x with
  | .ptp m, .ptp g => g.mtype == m
  | .transparent m _, .ptp g => g.mtype == m.mtype
  | .flow, .pause q => slice b 12 6 == flowHead 0x0001 ++ be 2 q
  | .flow, .pfc en qs => slice b 12 22 == flowHead 0x0101 ++ be 2 en ++ (qs.map (be 2)).flatten
  | .supervision, .supervision => true
  | .ptp _, _ => false
  | .transparent _ _, _ => false
  | .flow, _ => false
  | .supervision, _ => false
  | _, .pause _ => false
  | _, .pfc _ _ => false
  | _, _ => true

/-- Is this the oldest looped frame of the port, received (R666)? -/
def loopFits (d : Dev) (n : Nat) (f : RxFrame) : Bool :=
  match (d.port n).looped.head? with
  | some (c, good) =>
    f.len == c.len && f.fcsOk == good && f.raw == c.bytes && f.red == c.red && bodyFits c.org c.bytes f.body
  | none => false

/-- A frame at the receive balls, or on the looped stream (R126, R128, R144, R157 to R162, R666), and the codewords of its FEC (Table
FP-3). -/
def frameReceive (t : Time) (n : Nat) (f : RxFrame) (d : Dev) : Dev :=
  if !portRuns d n || !linkUp d n then d
  else
    let loops := d.onN Reg.FP_CTRL.LOOP n
    if loops && !loopFits d n f then d
    else
      let dl := if loops then d.modPort n fun p => { p with looped := p.looped.tail } else d
      let d0 := if d.getN Reg.FP_CTRL.FEC n = 0 then dl else fullAdd n 22 f.fecUncorr (fullAdd n 21 f.fecCorr dl)
      let arrQ := ((t.qns + f.q % 16 : Nat) + sint 16 (d.getN Reg.FP_TS_LAT.RX_TRIM n)).toNat
      match rxMac n f d0 with
      | .discard d1 => d1
      | .pass unv g d1 =>
        let d2 := rxGood n g d1
        match g.body with
        | .pause _ => pauseReceive t n g.body d2
        | .pfc _ _ => pauseReceive t n g.body d2
        | _ => rxPair t n arrQ unv g d2

def execFrameReceive (port : Nat) (f : RxFrame) (s : State) : Host.Outcome State Fault Refusal :=
  run s fun t d => frameReceive t port f d

/-- A PAUSE or PFC frame is received (R144 to R148). -/
def execPauseFrameReceive (port : Nat) (f : RxFrame) (s : State) : Host.Outcome State Fault Refusal :=
  run s fun t d =>
    match f.body with
    | .pause _ => frameReceive t port f d
    | .pfc _ _ => frameReceive t port f d
    | _ => d

/-- Xaorn writes the template of a pair's supervision frames while it runs (R161). -/
def xaornSup (pr : Nat) (d : Dev) : Dev :=
  if xaornUp d then
    let (k, d1) := d.draw
    d1.setPair pr { d1.pair pr with supTmpl := k }
  else d

/-- Supervision frames of a pair leave on both ports: one with the trailer on each LAN in PRP, one with a tag of its own on each port
in HSR (R154, R161). DESIGN CHOICE: they go in class 0. -/
def supervisionSend (t : Time) (pr : Nat) (d : Dev) : Dev :=
  let e := pr * 2
  let iv := d.getN Reg.FP_PAIR.SUP_INT e * 100000000
  let m := pairMode d e
  if m ≠ 0 ∧ iv ≠ 0 ∧ iv ≤ t.loc - (d.pair pr).supLast ∧ (portRuns d e = true ∨ portRuns d (e + 1) = true) then
    let d1 := xaornSup pr d
    let d2 := d1.setPair pr { d1.pair pr with supLast := t.loc }
    let b := Config.template (d2.pair pr).supTmpl
    let f : TxFrame := ⟨.supervision, 0, b.length + 4, b, none, false, none, none⟩
    if m = 1 then sendTx e f d2
    else
      (List.range 2).foldl (fun x k =>
        if portRuns x (e + k) then
          let s := (x.pair pr).seq
          sendTx (e + k) { f with len := f.len + 6, red := some ⟨true, s, k == 1⟩ }
            (x.setPair pr { x.pair pr with seq := (s + 1) % 2 ^ 16 })
        else x) d2
  else d

def execHsrSupervisionSend (pair : Nat) (s : State) : Host.Outcome State Fault Refusal :=
  run s fun t d => if pair < 8 then supervisionSend t pair d else d

/-! ## Resets and Doze (R168, R170) -/

/-- Every frame in a port's queues, highest class first. -/
def allQueued (p : Port) : List TxFrame := ((List.range 8).reverse.map fun c => tget p.queues c).flatten

/-- An island reset of a port (R168). -/
def portReset (t : Time) (n : Nat) (d : Dev) : Dev :=
  let p := d.port n
  let d1 := match p.cur with
    | some c => txFail n c.frame stAborted (offWire n c false d)
    | none => d
  let d2 := (allQueued p).foldl (fun d f => txFail n f stAborted d) d1
  let g := p.gate
  let d3 := d2.setPort n { (default : Port) with
    sent := (d2.port n).sent
    supIn := p.supIn
    sci := p.sci
    rxSa := p.rxSa.map fun e => (e.1, { e.2 with lowPn := 0 })
    gate := { g with oper := none, restart := match g.oper, g.restart with
      | some c, _ => some (c, changeTime t.ns c)
      | none, r => r } }
  let d4 := { d3 with ing := { d3.ing with inq := tset d3.ing.inq n [] } }.setN Reg.FP_TAS_STAT.ENTRY n 0
  linkGoDown n (setKeys (n / 2) [] d4)

/-- Doze entry drops the link and discards queued frames without completions (R170); a frame in progress runs to its FCS first
(R131). -/
def portDoze (n : Nat) (d : Dev) : Dev :=
  linkGoDown n ((txFrameEnd n d).modPort n fun p => { p with
    queues := [], flowQ := [], pauseEnd := [], pauseSince := [], looped := [], loopPtp := []
    rxSa := p.rxSa.map fun e => (e.1, { e.2 with lowPn := 0 }) })

end Sys2Proof.Machine
end

