-- ==== Sys2Proof/Machine/Daxide.lean ====
section
/-!
DEFINITION. The Daxide fabric: frames, authentication, de-duplication, tokens, remote alarms, relay with its held
frames, keep-alives and time over links (the chapter on the Daxide fabric).
-/

namespace Sys2Proof.Machine

open Sys2Proof

def Dev.modDxl (d : Dev) (f : Dxl → Dxl) : Dev := { d with dxl := f d.dxl }
def Dev.dlink (d : Dev) (l : Nat) : DxLink := tget d.dxl.links l
def Dev.modLink (d : Dev) (l : Nat) (f : DxLink → DxLink) : Dev :=
  d.modDxl fun x => { x with links := tset x.links l (f (tget x.links l)) }

/-! ## Bytes -/

def byteAt (bs : List Byte) (k : Nat) : Nat := (bs.getD k 0).toNat
def leAt (bs : List Byte) (k n : Nat) : Nat := leVal (slice bs k n)

/-- Bytes as little-endian words, the last filled with zeros. -/
def packWords (n : Nat) (bs : List Byte) : List Word32 :=
  (List.range n).map fun i => BitVec.ofNat 32 (leAt bs (4 * i) 4)

/-- Words as bytes, little-endian. -/
def wordsBytes (ws : List Word32) : List Byte := (ws.map fun w => le 4 w.toNat).flatten

/-! ## The header (Tables DXL-2 and DXL-3) -/

def tyKeepalive : Nat := 0
def tyToken : Nat := 1
def tyRelay : Nat := 2
def tyTime : Nat := 3
def tyMgmt : Nat := 4
def tyAck : Nat := 5
def tyBeacon : Nat := 6

def dxType (b : List Byte) : Nat := byteAt b 0 % 16
def dxVer (b : List Byte) : Nat := byteAt b 0 / 16
def dxHops (b : List Byte) : Nat := byteAt b 1
def dxOrigin (b : List Byte) : Nat := leAt b 2 2 % 512
def dxDest (b : List Byte) : Nat := leAt b 4 2 % 512
def dxAll (b : List Byte) : Bool := (leAt b 4 2).testBit 15
def dxLen (b : List Byte) : Nat := leAt b 6 2
def dxSeq (b : List Byte) : Nat := leAt b 8 4
def dxBoot (b : List Byte) : Nat := leAt b 12 2
def dxFlags (b : List Byte) : Nat := leAt b 14 2
def dxTag (b : List Byte) : Bool := (dxFlags b).testBit 0
def dxBody (b : List Byte) : List Byte := b.drop 16

/-- A header. -/
def dxHeader (typ hops origin dest : Nat) (all : Bool) (len seq boot flags : Nat) : List Byte :=
  le 1 (typ + 16) ++ le 1 hops ++ le 2 origin ++ le 2 (dest + 2 ^ 15 * b2n all) ++ le 2 len ++ le 4 seq ++ le 2 boot ++
    le 2 flags

/-- The fixed length of a TYPE's payload. -/
def dxFixed (typ : Nat) : Option Nat :=
  if typ = tyKeepalive then some 16
  else if typ = tyToken then some 32
  else if typ = tyTime then some 48
  else if typ = tyAck then some 8
  else if typ = tyBeacon then some 0
  else none

/-- Bytes of a payload that Table DXL-3 reserves. -/
def dxPadBad (b : List Byte) : Bool :=
  let p := dxBody b
  let typ := dxType b
  let nz (k n : Nat) : Bool := leAt p k n != 0
  if typ = tyKeepalive then nz 4 12
  else if typ = tyToken then nz 3 1 || nz 24 8
  else if typ = tyTime then nz 11 1 || nz 40 8 || (byteAt p 0 == 0 && nz 9 39)
  else false

/-- R523. -/
def dxMalformed (b : List Byte) : Bool :=
  let typ := dxType b
  decide (b.length < 16) || dxVer b != 1 || decide (6 < typ) || dxHops b == 0 || decide (8 < dxHops b) ||
    dxLen b != b.length - 16 ||
    (match dxFixed typ with
     | some n => dxLen b != n
     | none => typ == tyMgmt && (dxLen b == 0 || decide (8192 < dxLen b))) ||
    decide (2 ^ 9 ≤ leAt b 2 2) || (leAt b 4 2 / 2 ^ 9) % 2 ^ 6 != 0 || decide (2 ^ 3 ≤ dxFlags b) || dxPadBad b ||
    (dxAll b != (typ == tyToken || typ == tyBeacon))

/-! ## Links -/

def selfNode (d : Dev) : Nat := d.get Reg.DXL_NODE.ID
def selfBoot (d : Dev) : Nat := d.get Reg.DXL_NODE.BOOT
def linkState (d : Dev) (l : Nat) : Nat := d.getN Reg.DXL_LINKn_STAT.STATE l
def fabricRuns (d : Dev) : Bool := d.up (islDxl 0) && d.on Reg.DXL_STATUS.RUN

/-- Does link l take and send frames: the fabric runs, the link is on and its island is up? -/
def linkOn (d : Dev) (l : Nat) : Bool :=
  decide (l < 4) && fabricRuns d && d.up (islDxl l) && d.onN Reg.DXL_LINKn_CFG.EN l

def linkIsUp (d : Dev) (l : Nat) : Bool := linkOn d l && linkState d l == 2

def isDl (d : Dev) (l : Nat) : Bool := d.getN Reg.DXL_LINKn_CFG.MODE l == 0

/-- Set a link's STATE and its bit of DXL_STATUS.UP. -/
def setLinkState (l st : Nat) (d : Dev) : Dev :=
  let d1 := d.setN Reg.DXL_LINKn_STAT.STATE l st
  d1.set Reg.DXL_STATUS.UP (((List.range 4).map fun k => if linkState d1 k = 2 then 2 ^ k else 0).sum)

def linkDrop (l : Nat) (d : Dev) : Dev := d.sat Reg.DXL_LINKn_DROP.N l

/-- The link goes down (R544). -/
def linkFalls (l : Nat) (d : Dev) : Dev :=
  ((setLinkState l 1 d).modLink l fun x => { x with kaRx := none, heard := false }).cause intDxl 1 l 0

/-- The peer address is IPv4-mapped (R520). -/
def peerV4 (d : Dev) (l : Nat) : Bool :=
  d.getN Reg.DXL_LINKn_IPk.ADDR (l * 4) == 0 && d.getN Reg.DXL_LINKn_IPk.ADDR (l * 4 + 1) == 0 &&
    d.getN Reg.DXL_LINKn_IPk.ADDR (l * 4 + 2) == 0xFFFF

/-- The peer address of a link as one number (R659). -/
def peerIp (d : Dev) (l : Nat) : Nat :=
  ((d.getN Reg.DXL_LINKn_IPk.ADDR (l * 4) * 2 ^ 32 + d.getN Reg.DXL_LINKn_IPk.ADDR (l * 4 + 1)) * 2 ^ 32 +
    d.getN Reg.DXL_LINKn_IPk.ADDR (l * 4 + 2)) * 2 ^ 32 + d.getN Reg.DXL_LINKn_IPk.ADDR (l * 4 + 3)

/-- Write the TAG flag into a frame's header. -/
def withTag (b : List Byte) (on : Bool) : List Byte :=
  let fl := dxFlags b
  b.take 14 ++ le 2 (fl - fl % 2 + b2n on) ++ b.drop 16

/-- Write HOPS into a frame's header. -/
def withHops (b : List Byte) (h : Nat) : List Byte := b.take 1 ++ le 1 h ++ b.drop 2

/-- Write RETX into a frame's header. -/
def withRetx (b : List Byte) : List Byte :=
  let fl := dxFlags b
  b.take 14 ++ le 2 (if fl.testBit 2 then fl else fl + 4) ++ b.drop 16

/-- Zeros after the tag of a DL frame of n bytes from header to tag: the frame with its FCS has at least 64 bytes, as an
Ethernet frame counts them (R518; that the FCS counts is DEDUCED from `delimited like an Ethernet frame`). -/
def dxPad (n : Nat) : Nat := 64 - (n + 4)

/-- A frame leaves on a link, signed when AUTH = 1 (R518, R520, R524). A UDP link's frame is queued on its field port; its
tag adds 16 bytes, and one whose data comes from the Hamper can start before it is wholly in the port (`mem`, R151). A refused key
sends nothing and counts a drop (R556). -/
def dxEmit (l : Nat) (b : List Byte) (good mem : Bool) (d : Dev) : Dev :=
  let auth := d.onN Reg.DXL_LINKn_CFG.AUTH l
  let r := if auth then
      (match keyUse engDaxide l (d.getN Reg.DXL_LINKn_CFG.KEY_SLOT l) 3 true d with
       | (some k, d1) => (some (some k.material), d1)
       | (none, d1) => (none, d1))
    else (some none, d)
  match r with
  | (none, d1) => linkDrop l d1
  | (some key, d1) =>
    let x := withTag b auth
    if isDl d l then
      (d1.sat Reg.DXL_LINKn_TXF.N l).modDxl fun s => { s with sent := s.sent ++ [⟨l, x, key, good, dxPad (x.length + 16 * b2n auth)⟩] }
    else if d.get Reg.DXL_UDP.PORT = 0 ∨ !good then d1
    else
      let n := max 64 (14 + (if peerV4 d l then 20 else 40) + 8 + x.length + 16 * b2n auth + 4)
      let p := d.getN Reg.DXL_LINKn_CFG.FP l
      sendTx p ⟨.daxide l, d.get Reg.DXL_UDP.TC, n, x, none, false, if mem then some (startBytes d p n) else none, none⟩
        (d1.sat Reg.DXL_LINKn_TXF.N l)

/-- A frame is flooded on every link that is up but the one it came in on (R529, R530). -/
def dxFlood (b : List Byte) (from_ : Option Nat) (good : Bool) (d : Dev) : Dev :=
  (List.range 4).foldl (fun x l => if linkIsUp d l && from_ != some l then dxEmit l b good false x else x) d

/-- The next SEQ of this node for a TYPE (Table DXL-2). -/
def nextSeq (typ : Nat) (d : Dev) : Nat × Dev :=
  let s := tget d.dxl.seqs typ
  let n := if s = 2 ^ 32 - 1 then 1 else s + 1
  (n, d.modDxl fun x => { x with seqs := tset x.seqs typ n })

/-- A frame of this node for one hop: KEEPALIVE, TIME or ACK. -/
def dxOwn (l typ : Nat) (payload : List Byte) (d : Dev) : Nat × Dev :=
  let (n, d1) := nextSeq typ d
  (n, dxEmit l (dxHeader typ 1 (selfNode d) (d.getN Reg.DXL_LINKn_STAT.PARTNER l) false payload.length n (selfBoot d) 0
    ++ payload) true false d1)

/-! ## De-duplication (R526, R527) -/

inductive Fresh where
  | fresh | dup | old
  deriving DecidableEq, Repr

/-- Is a SEQ new to the window? -/
def winJudge (w : DxWin) (seq : Nat) : Fresh :=
  if !w.seen then .fresh
  else
    let k := sdiff (2 ^ 32) seq w.high
    if 0 < k then .fresh
    else if k = 0 then .dup
    else if k < -64 then .old
    else if w.mask.testBit (-k - 1).toNat then .dup else .fresh

/-- The window with a SEQ accepted. -/
def winTake (w : DxWin) (seq : Nat) : DxWin :=
  if !w.seen then ⟨true, seq, 0⟩
  else
    let k := sdiff (2 ^ 32) seq w.high
    if 0 < k then
      let n := k.toNat
      if 64 < n then ⟨true, seq, 0⟩ else ⟨true, seq, (w.mask * 2 ^ n + 2 ^ (n - 1)) % 2 ^ 64⟩
    else { w with mask := w.mask ||| 2 ^ (-k - 1).toNat }

/-- TYPEs that are de-duplicated. -/
def dxWindowed (typ : Nat) : Bool := typ == tyToken || typ == tyBeacon || typ == tyRelay || typ == tyMgmt

def winKey (origin typ : Nat) : Nat := origin * 8 + typ

def takeSeq (origin typ seq : Nat) (d : Dev) : Dev :=
  d.modDxl fun x => { x with wins := tset x.wins (winKey origin typ) (winTake (tget x.wins (winKey origin typ)) seq) }

/-- A frame of this node's own, recorded so that a returning flood is a duplicate (R528). -/
def ownFlood (typ : Nat) (payload : List Byte) (d : Dev) : Nat × Dev :=
  let (n, d1) := nextSeq typ d
  let b := dxHeader typ (d.get Reg.DXL_CFG.HOPS) (selfNode d) 0 true payload.length n (selfBoot d) 0 ++ payload
  (n, dxFlood b none true ((takeSeq (selfNode d) typ n d1).modDxl fun x =>
    { x with boots := tset x.boots (selfNode d) (some (selfBoot d)) }))

/-! ## Remote alarms (R533 to R537) -/

/-- One record of Table DXL-6 goes to the host (R537, R379). -/
def remoteRecord (sec10 : List Byte) (rule edge origin x seq k : Nat) (d : Dev) : Dev :=
  if !d.on Reg.DXL_HOST.EN then d
  else
    let n := d.get Reg.DXL_HOST.ALRM_RING
    let rec_ := sec10 ++ le 2 rule ++ le 1 edge ++ le 1 0 ++ le 2 origin ++ le 4 x ++ le 4 seq ++ le 2 k ++ le 2 0 ++
      le 4 d.dxl.dropped
    let lost (d : Dev) : Dev := (d.sat Reg.DXL_CNT_HOSTDROP.N).modDxl fun s => { s with dropped := s.dropped + 1 }
    if !ringIs d n clsAlrm then lost d
    else match deliver n rec_ (List.replicate 16 0) d with
      | (.sent, d1) => d1.modDxl fun s => { s with dropped := 0 }
      | (_, d1) => lost d1

/-- STATE of entry k takes a value; on a change EDGE_T is stamped and, with HOST = 1, a record is written. -/
def remoteSet (t : Time) (k : Nat) (v : Bool) (record : Dev → Dev) (d : Dev) : Dev :=
  if d.onN Reg.T_RASTAT.STATE k == v then d
  else
    let d1 := (d.setB Reg.T_RASTAT.STATE k v).setN Reg.T_RASTAT.EDGE_T k t.st32
    if d.onN Reg.T_RALARM.HOST k then record d1 else d1

/-- The RULE a record of entry k names. -/
def entryRule (d : Dev) (k : Nat) : Nat := if d.onN Reg.T_RALARM.INTEG k then 0xFFFF else d.getN Reg.T_RALARM.RULE k

/-- Fold over the valid entries that follow a node. -/
def entriesOf (d : Dev) (node : Nat) : List Nat :=
  (List.range 256).filter fun k => d.onN Reg.T_RALARM.VALID k && d.getN Reg.T_RALARM.NODE k == node

/-- A token is applied to the remote alarm table (R533, R537). -/
def tokenApply (t : Time) (origin seq : Nat) (p : List Byte) (d : Dev) : Dev :=
  let rule := leAt p 0 2
  let edge := byteAt p 2
  (entriesOf d origin).foldl (fun x k =>
    if entryRule x k = rule then
      let x1 := remoteSet t k (edge != 0)
        (remoteRecord (slice p 4 10) rule (b2n (edge != 0)) origin (leAt p 14 4) seq k) x
      (x1.setN Reg.T_RASTAT.SET k 1).setN Reg.T_RASTAT.LOST k 0
    else x) d

/-- A record of entry k that no token gave: the values of Table DXL-6 that are not stated are free. -/
def remoteOther (edge k : Nat) (loss : Bool) (d : Dev) : Dev :=
  let (a, d1) := d.draw
  let (b, d2) := d1.draw
  let (c, d3) := d2.draw
  let w (i : Nat) : Nat := (Config.freeWord i).toNat
  let sec10 := if loss then List.replicate 10 0 else le 6 (w a) ++ le 4 (w a)
  remoteRecord sec10 (entryRule d k) edge (d.getN Reg.T_RALARM.NODE k) (if loss then wMissing.toNat else w b) (w c) k d3

/-- The origin has restarted (R535). -/
def originRestart (t : Time) (node : Nat) (d : Dev) : Dev :=
  (entriesOf d node).foldl (fun x k => (remoteSet t k false (remoteOther 4 k false) x).setN Reg.T_RASTAT.LOST k 0) d

/-- No TOKEN or BEACON of a node has been taken for LOSS_MS (R534). -/
def originLost (t : Time) (node : Nat) (d : Dev) : Dev :=
  if !fabricRuns d then d
  else (entriesOf d node).foldl (fun x k =>
    let ms := x.getN Reg.T_RALARM.LOSS_MS k
    let from_ := max (tget x.dxl.heardAt node) (tget x.dxl.since k)
    if ms ≠ 0 ∧ !x.onN Reg.T_RASTAT.LOST k ∧ ms * 1000000 ≤ t.loc - from_ then
      (remoteSet t k (x.onN Reg.T_RALARM.FAILSAFE k) (remoteOther 3 k true) (x.setN Reg.T_RASTAT.LOST k 1)).cause
        intDxl 4 0 0
    else x) d

def execRemoteOriginLost (node : Nat) (s : State) : Host.Outcome State Fault Refusal :=
  run s fun t d => originLost t node d

/-- A write to the remote alarm table (R533): a valid entry only takes a write of word 0 that clears VALID. -/
def remoteEntryWrite (t : Time) (addr : Nat) (v : Word32) (d : Dev) : Dev :=
  let k := (addr - 0x3A0800) / 8
  let valid := d.onN Reg.T_RALARM.VALID k
  let put (d : Dev) : Dev := { d with regs := rput d.regs addr (v &&& maskOf (fieldsAt addr)) }
  if addr % 8 = 0 then
    if valid && bitOf v 0 then d.cause intDxl 0 0 0
    else if bitOf v 0 then
      ((((put d).setN Reg.T_RASTAT.STATE k 0).setN Reg.T_RASTAT.LOST k 0).setN Reg.T_RASTAT.SET k 0).modDxl fun s =>
        { s with since := tset s.since k t.loc }
    else put d
  else if valid then d.cause intDxl 0 0 0
  else put d

def execRemoteAlarmEntryWrite (addr : Nat) (v : Word32) (s : State) : Host.Outcome State Fault Refusal :=
  run s fun t d =>
    if 0x3A0800 ≤ addr ∧ addr < 0x3A1000 ∧ addr % 4 = 0 then onWrite addr (remoteEntryWrite t addr v) d else d

/-! ## Held frames (R540, R541) -/

/-- The link a frame for DEST leaves on (R540). -/
def routeLink (d : Dev) (dest : Nat) : Option Nat :=
  let a := d.getN Reg.T_ROUTE.PRIMARY dest
  let b := d.getN Reg.T_ROUTE.ALT dest
  if d.onN Reg.T_ROUTE.P_VALID dest && linkIsUp d a then some a
  else if d.onN Reg.T_ROUTE.A_VALID dest && linkIsUp d b then some b
  else none

def heldWords (h : DxHeld) : Nat := (h.count + 3) / 4

/-- A place in the RELAY partition for n words, if there is one. -/
def heldPlace (d : Dev) (n : Nat) : Option Nat :=
  let cap := partBytes d partRelay / 4
  (0 :: d.dxl.held.map fun h => h.ofs + heldWords h).find? fun o =>
    decide (o + n ≤ cap) && d.dxl.held.all fun h => decide (o + n ≤ h.ofs) || decide (h.ofs + heldWords h ≤ o)

/-- The oldest held frames make room (R541); `fuel` bounds how many. -/
def heldRoom (fuel n : Nat) (d : Dev) : Option Nat × Dev :=
  match heldPlace d n, fuel with
  | some o, _ => (some o, d)
  | none, 0 => (none, d)
  | none, fuel + 1 =>
    if d.dxl.held.isEmpty then (none, d)
    else heldRoom fuel n (((d.modDxl fun x => { x with held := x.held.tail }).sat Reg.DXL_CNT_RELAY_DROP.N).cause
      intDxl 5 0 0)

def heldSame (a b : DxHeld) : Bool := a.typ == b.typ && a.origin == b.origin && a.seq == b.seq

def dropHeld (h : DxHeld) (d : Dev) : Dev :=
  d.modDxl fun x => { x with held := x.held.filter fun g => !heldSame g h }

/-- A held frame is read back and sent; a lasting fault in it discards it and counts in the link's statistics (R541, Table
HMP-5), and so does a quadrant in reset. -/
def sendHeld (t : Time) (retx : Bool) (h : DxHeld) (d : Dev) : Dev :=
  match routeLink d h.dest with
  | none => d
  | some l =>
    let w := partWord d partRelay + h.ofs
    let bad := (List.range (heldWords h)).any fun i => hBad d (w + i) || !hUp d (w + i) || !inPart d partRelay (w + i)
    let (ws, d1) := partRead partRelay w (heldWords h) d
    if bad then linkDrop l (dropHeld h d1)
    else
      let b := (wordsBytes ws).take h.count
      let mark (g : DxHeld) : DxHeld := if heldSame g h then { g with last := t.loc, link := some l, left := true } else g
      let d2 := d1.modDxl fun x => { x with held := x.held.map mark }
      dxEmit l (if retx then withRetx b else b) true true d2

/-- A RELAY or MGMT frame is held and sent (R540, R541). A frame the RELAY partition cannot hold is discarded. -/
def holdFrame (t : Time) (b : List Byte) (d : Dev) : Dev :=
  let n := (b.length + 3) / 4
  match heldRoom (d.dxl.held.length + 1) n d with
  | (none, d1) => (d1.sat Reg.DXL_CNT_RELAY_DROP.N).cause intDxl 5 0 0
  | (some o, d1) =>
    let h : DxHeld := ⟨dxType b, dxOrigin b, dxSeq b, dxDest b, b.length, o, t.loc, t.loc, none, false⟩
    sendHeld t false h (partWrite partRelay (partWord d1 partRelay + o) (packWords n b) (d1.modDxl fun x =>
      { x with held := x.held ++ [h] }))

/-- The link a held frame belongs to: the one it last left on, or for a frame not sent yet the one it would leave on. -/
def heldOn (d : Dev) (l : Nat) (h : DxHeld) : Bool :=
  match h.link with
  | some k => k == l
  | none => routeLink d h.dest == some l || (routeLink d h.dest).isNone

/-- RTO ms have passed without an ACK, or the frame has found no link yet (R541). -/
def relayRetransmit (t : Time) (l : Nat) (d : Dev) : Dev :=
  let rto := d.get Reg.DXL_RELAY.RTO
  if !fabricRuns d then d
  else match d.dxl.held.find? fun h => heldOn d l h &&
      (h.link.isNone || (rto != 0 && decide (rto * 1000000 ≤ t.loc - h.last))) with
    | some h => sendHeld t h.left h d
    | none => d

def execRelayRetransmit (link : Nat) (s : State) : Host.Outcome State Fault Refusal :=
  run s fun t d => relayRetransmit t link d

/-- 100 ms have passed since the frame was first sent from this node (R541); RELAY_DROP is raised for this discard as for
the other of the rule (DEDUCED: Table DXL-11 gives the cause to R541 as a whole). -/
def relayExpire (t : Time) (l : Nat) (d : Dev) : Dev :=
  match d.dxl.held.find? fun h => heldOn d l h && decide (100000000 ≤ t.loc - h.first) with
  | some h => ((dropHeld h d).sat Reg.DXL_CNT_RELAY_EXP.N).cause intDxl 5 l 0
  | none => d

def execRelayExpire (link : Nat) (s : State) : Host.Outcome State Fault Refusal :=
  run s fun t d => relayExpire t link d

/-! ## Relay (R538, R539) -/

/-- Bytes per second of RELAY traffic (R539): the regions of the RELAY = 1 sources and the header and tag of each
frame, one frame per instant and whole payload. -/
def relayRate (d : Dev) : Nat :=
  let rates : List Nat := [10, 12, 15, 20, 25, 30, 50, 60, 100, 120, 200, 240]
  let srcs := (List.range 512).filter fun s => d.onN Reg.T_SRC.VALID s && d.onN Reg.T_ATTR.RELAY s
  let size (s : Nat) : Nat := 16 + 4 * d.getN Reg.T_SRC.WORDS s
  let rate (s : Nat) : Nat := rates.getD (d.getN Reg.T_SRC.RATE s) 0
  let bytes := (srcs.map fun s => size s * rate s).sum
  let perInst := (srcs.map size).sum
  let frames := ((perInst + (d.get Reg.DXL_RELAY_MAX.LEN - 16) - 1) / max 1 (d.get Reg.DXL_RELAY_MAX.LEN - 16)) *
    (srcs.map rate).foldl max 0
  bytes + 32 * frames

/-- The need of Table HMP-4 for RELAY: every link that is on carries the relay bytes. A part of a byte counts as one. -/
def relayNeed (d : Dev) : Nat :=
  let n := ((List.range 4).filter fun l => d.onN Reg.DXL_LINKn_CFG.EN l).length
  (n * relayRate d + 9) / 10 + n * 65536

/-- RELAY.EN is written with 1 (R539). -/
def relayEnable (d : Dev) : Dev :=
  if d.on Reg.DXL_RELAY.EN then d
  else if partBytes d partRelay = 0 ∨ partBytes d partRelay < relayNeed d then
    (d.set Reg.DXL_STATUS.FAIL stNoSpace).cause intDxl 0 0 stNoSpace
  else (d.set Reg.DXL_STATUS.FAIL stOk).set Reg.DXL_RELAY.EN 1

def execRelayEnable (s : State) : Host.Outcome State Fault Refusal := run s fun _ d => onWrite 0x60018 relayEnable d

/-- Split regions into frames of at most `max_` bytes, whole regions each (R538). -/
def relayGroups (max_ : Nat) : List (List Byte) → List (List Byte) → Nat → List (List (List Byte))
  | [], cur, _ => if cur.isEmpty then [] else [cur.reverse]
  | r :: rs, cur, n =>
    if cur.isEmpty ∨ n + r.length ≤ max_ then relayGroups max_ rs (r :: cur) (n + r.length)
    else cur.reverse :: relayGroups max_ rs [r] r.length

/-- A spread closes: its relayed regions go to the parent (R538). -/
def relayBuild (t : Time) (inst spseq : Nat) (regions : List (List Byte)) (d : Dev) : Dev :=
  if !(fabricRuns d && d.on Reg.DXL_RELAY.EN) then d
  else (relayGroups (d.get Reg.DXL_RELAY_MAX.LEN - 16) regions [] 0).foldl (fun x g =>
    let p := tk80Bytes inst ++ le 2 g.length ++ le 4 spseq ++ g.flatten
    let (n, x1) := nextSeq tyRelay x
    holdFrame t (dxHeader tyRelay (x.get Reg.DXL_CFG.HOPS) (selfNode x) (x.get Reg.DXL_RELAY.PARENT) false p.length n
      (selfBoot x) 0 ++ p) x1) d

/-- Xaorn sends a MGMT frame (R540). -/
def mgmtSend (t : Time) (dest : Nat) (payload : List Byte) (deflate : Bool) (d : Dev) : Dev :=
  if !(fabricRuns d && d.pwr.xaornRuns) || payload.isEmpty || decide (8192 < payload.length) || decide (512 ≤ dest) then d
  else
    let (n, d1) := nextSeq tyMgmt d
    holdFrame t (dxHeader tyMgmt (d.get Reg.DXL_CFG.HOPS) (selfNode d) dest false payload.length n (selfBoot d)
      (2 * b2n deflate) ++ payload) d1

def execMgmtFrameSend (dest : Nat) (bytes : List Byte) (deflate : Bool) (s : State) : Host.Outcome State Fault Refusal :=
  run s fun t d => mgmtSend t dest bytes deflate d

/-! ## Tokens and beacons (R529, R534) -/

/-- Payload of a TOKEN (Table DXL-3). -/
def tokenPayload (rule edge inst x islands spseq : Nat) : List Byte :=
  le 2 rule ++ le 1 edge ++ le 1 0 ++ tk80Bytes inst ++ le 4 x ++ le 2 islands ++ le 4 spseq ++ le 8 0

/-- An edge with TOKEN set floods a TOKEN (R529). -/
def tokenSend (rule edge inst x islands spseq : Nat) (d : Dev) : Dev :=
  if fabricRuns d then (ownFlood tyToken (tokenPayload rule edge inst x islands spseq) d).2 else d

/-- Every DXL_CFG.BEACON × 10 ms (R534). -/
def beaconSend (t : Time) (d : Dev) : Dev :=
  let n := d.get Reg.DXL_CFG.BEACON
  if fabricRuns d && n != 0 && decide (n * 10000000 ≤ t.loc - d.dxl.beaconAt) then
    (ownFlood tyBeacon [] (d.modDxl fun x => { x with beaconAt := t.loc })).2
  else d

def execBeaconSend (s : State) : Host.Outcome State Fault Refusal := run s fun t d => beaconSend t d

/-! ## Starting the fabric (R522, R551) -/

/-- The fabric starts: a new BOOT, SEQ from 1, every link that is on trains. -/
def fabricStart (t : Time) (d : Dev) : Dev :=
  let d1 := ((d.set Reg.DXL_CTRL.EN 1).set Reg.DXL_STATUS.RUN 1).set Reg.DXL_NODE.BOOT (selfBoot d + 1)
  (List.range 4).foldl (fun x l => setLinkState l (if x.onN Reg.DXL_LINKn_CFG.EN l then 1 else 0) x)
    (d1.modDxl fun x => { x with
      links := [], boots := [], wins := [], seqs := [], held := [], beaconAt := t.loc })

def execFabricStart (s : State) : Host.Outcome State Fault Refusal :=
  run s fun t d => onWrite 0x60000 (fun d => if d.on Reg.DXL_STATUS.RUN then d else fabricStart t d) d

/-- The fabric stops: links go down, held frames and de-duplication state are discarded (R551). -/
def fabricStop (d : Dev) : Dev :=
  (List.range 4).foldl (fun x l => setLinkState l 0 x)
    ((d.set Reg.DXL_STATUS.RUN 0).modDxl fun x => { x with
      links := [], boots := [], wins := [], seqs := [], held := [] })

/-- Link l's island is reset (R551): the link goes down and its held frames look for another route. -/
def linkReset (l : Nat) (d : Dev) : Dev :=
  (setLinkState l (if d.onN Reg.DXL_LINKn_CFG.EN l && fabricRuns d then 1 else 0) d).modDxl fun x => { x with
    links := tset x.links l default
    held := x.held.map fun h => if h.link = some l then { h with link := none } else h }

/-- A link's EN is written (R517, R545). -/
def linkEnable (l : Nat) (on : Bool) (d : Dev) : Dev :=
  let d1 := (d.setB Reg.DXL_LINKn_CFG.EN l on).modLink l fun _ => default
  setLinkState l (if on && fabricRuns d then 1 else 0) d1

/-! ## Keep-alives (R544, R545) -/

/-- Have we received keep-alives of link l within its window? -/
def hears (t : Time) (d : Dev) (l : Nat) : Bool :=
  match (d.dlink l).kaRx with
  | none => false
  | some a =>
    let w := d.getN Reg.DXL_LINKn_KA.MISS l * d.getN Reg.DXL_LINKn_KA.INT l * 1000
    w == 0 || decide (t.loc - a < w)

def keepaliveSend (t : Time) (l : Nat) (d : Dev) : Dev :=
  let int := d.getN Reg.DXL_LINKn_KA.INT l
  let due := match (d.dlink l).kaTx with
    | none => true
    | some a => decide (int * 1000 ≤ t.loc - a)
  if linkOn d l && linkState d l != 3 && int != 0 && due then
    (dxOwn l tyKeepalive (le 1 l ++ le 1 (b2n (hears t d l)) ++ le 2 int ++ le 12 0)
      (d.modLink l fun x => { x with kaTx := some t.loc })).2
  else d

def execKeepaliveSend (link : Nat) (s : State) : Host.Outcome State Fault Refusal :=
  run s fun t d => keepaliveSend t link d

def keepaliveTimeout (t : Time) (l : Nat) (d : Dev) : Dev :=
  if linkIsUp d l && d.getN Reg.DXL_LINKn_KA.MISS l != 0 && !hears t d l then linkFalls l d else d

def execKeepaliveTimeout (link : Nat) (s : State) : Host.Outcome State Fault Refusal :=
  run s fun t d => keepaliveTimeout t link d

def execDxlLockLoss (link : Nat) (s : State) : Host.Outcome State Fault Refusal :=
  run s fun _ d => if linkIsUp d link && isDl d link then linkFalls link d else d

/-- A KEEPALIVE has been received (R545). -/
def keepaliveTake (t : Time) (l : Nat) (b : List Byte) (d : Dev) : Dev :=
  let who := dxOrigin b
  let d1 := d.setN Reg.DXL_LINKn_STAT.PARTNER l who
  if !(d.onN Reg.DXL_LINKn_PEER.ANY l || d.getN Reg.DXL_LINKn_PEER.NODE l == who) then
    (((setLinkState l 3 d1).sat Reg.DXL_CNT_BIND.N).cause intDxl 1 l 0).event 144 l l who
  else
    let h := (byteAt (dxBody b) 1).testBit 0
    let d2 := d1.modLink l fun x => { x with kaRx := some t.loc, heard := h }
    if d.getN Reg.DXL_LINKn_KA.INT l = 0 then d2
    else if h ∧ linkState d l ≠ 2 then (setLinkState l 2 d2).cause intDxl 1 l 0
    else if !h ∧ linkState d l = 2 then (setLinkState l 1 d2).cause intDxl 1 l 0
    else d2

/-! ## Time over links (R547 to R549) -/

def qBytes (q : Nat) : List Byte := tk80Bytes (q / 4)

/-- GM_NODE and STEPS this device states (R549). -/
def timeOrigin (d : Dev) : Nat × Nat :=
  let a := d.get Reg.TKP_STATUS.ACTIVE
  let src := d.getN Reg.TKP_REFn_CFG.SRC a
  if !d.on Reg.TKP_STATUS.ACT_NONE ∧ 18 ≤ src ∧ src ≤ 21 then
    match (d.dlink (src - 18)).gm with
    | some (g, n) => (g, min 255 (n + 1))
    | none => (selfNode d, 0)
  else (selfNode d, 0)

/-- Bytes 0 to 8 of a TIME frame. -/
def timeHead (t : Time) (msg : Nat) (d : Dev) : List Byte :=
  let (g, n) := timeOrigin d
  let a := d.get Reg.TKP_STATUS.ACTIVE
  let tr := !d.on Reg.TKP_STATUS.ACT_NONE && (d.ref a).traceable
  le 1 msg ++ le 1 n ++ le 2 g ++ le 4 (errWord t d) ++
    le 1 (b2n tr + 2 * b2n (d.get Reg.TKP_STATUS.STATE == 2))

/-- A REQ is sent 2^RATE times per second (R547). -/
def timeReqSend (t : Time) (l : Nat) (d : Dev) : Dev :=
  let due := match (d.dlink l).reqTx with
    | none => true
    | some a => decide (1000000000 ≤ (t.loc - a) * 2 ^ d.getN Reg.DXL_LINKn_TIME.RATE l)
  if linkIsUp d l && isDl d l && d.onN Reg.DXL_LINKn_CFG.TIME_EN l && due then
    let (n, d1) := dxOwn l tyTime (timeHead t 0 d ++ le 39 0) d
    d1.modLink l fun x => { x with reqTx := some t.loc, reqs := fmInsert x.reqs n t.qns }
  else d

def execTimeReqSend (link : Nat) (s : State) : Host.Outcome State Fault Refusal :=
  run s fun t d => timeReqSend t link d

/-- A REQ is answered with a RESP (R547). -/
def timeAnswer (t : Time) (l arrQ : Nat) (b : List Byte) (d : Dev) : Dev :=
  let (seq3, t3) := ((d.dlink l).respT3).getD (0, 0)
  let p := timeHead t 1 d ++ le 1 (arrQ % 4) ++ le 1 (t3 % 4) ++ le 1 0 ++ le 4 (dxSeq b) ++ qBytes arrQ ++ qBytes t3 ++
    le 4 seq3 ++ le 8 0
  (dxOwn l tyTime p d).2.modLink l fun x => { x with respT3 := some (dxSeq b, t.qns) }

/-- TK80 bytes and a quarter count as quarter nanoseconds. -/
def qAt (p : List Byte) (k qk : Nat) : Nat := (leAt p k 6 * 1000000000 + leAt p (k + 6) 4) * 4 + byteAt p qk % 4

/-- An exchange is complete: the link's figures and a sample for every slot that names the link (R548, R549). -/
def timeSample (t : Time) (l : Nat) (x : DxExch) (t3 : Nat) (b : List Byte) (d : Dev) : Dev :=
  let p := dxBody b
  let o : Int := (((x.t1 : Int) - x.t2) + ((x.t4 : Int) - t3)) / 2
  let rtd : Int := (((x.t4 : Int) - x.t1) - ((t3 : Int) - x.t2)) / 4
  let offs := ((d.dlink l).offs ++ [o]).reverse.take 64 |>.reverse
  let d1 := (d.modLink l fun s => { s with offs := offs }).setN Reg.DXL_LINKn_RTD.NS l (unsig 32 rtd)
  let d2 := d1.setN Reg.DXL_LINKn_TOFS.Q l (unsig 32 (offs.sum / (offs.length : Int)))
  let err := leAt p 4 4
  if leAt p 2 2 = selfNode d ∨ 8 ≤ byteAt p 1 ∨ err = 2 ^ 32 - 1 then d2
  else (List.range 4).foldl (fun s k =>
    if s.getN Reg.TKP_REFn_CFG.SRC k = 18 + l then
      refSample t k ⟨o, some rtd.toNat, some err, (byteAt p 8).testBit 0, none⟩ s
    else s) d2

/-- A RESP has been received (R548). -/
def timeTake (t : Time) (l arrQ : Nat) (b : List Byte) (d : Dev) : Dev :=
  let p := dxBody b
  let seq3 := leAt p 36 4
  let s := d.dlink l
  let d1 := d.modLink l fun x => { x with gm := some (leAt p 2 2, byteAt p 1) }
  let d2 := match s.exchs.find? fun x => x.seq == seq3 with
    | some x => timeSample t l x (qAt p 26 10) b (d1.modLink l fun y => { y with exchs := y.exchs.erase x })
    | none => d1
  let q := leAt p 12 4
  match fmLook s.reqs q with
  | some t1 => d2.modLink l fun y => { y with
      reqs := fmErase y.reqs q, exchs := y.exchs ++ [⟨q, t1, qAt p 16 9, arrQ⟩] }
  | none => d2

/-! ## Receiving (R518, R523 to R532, R540 to R546) -/

/-- An ACK for a RELAY or MGMT frame goes back on its link (R542). -/
def ackSend (l : Nat) (b : List Byte) (d : Dev) : Dev :=
  (dxOwn l tyAck (le 4 (dxSeq b) ++ le 2 (dxOrigin b) ++ le 1 (dxType b) ++ le 1 0) d).2

/-- A frame that floods: forwarded, and a TOKEN applied (R530, R534). -/
def floodTake (t : Time) (l : Nat) (b : List Byte) (d : Dev) : Dev :=
  let d1 := if 1 < dxHops b then dxFlood (withHops b (dxHops b - 1)) (some l) true d else d
  let d2 := d1.modDxl fun x => { x with heardAt := tset x.heardAt (dxOrigin b) t.loc }
  if dxType b = tyToken then tokenApply t (dxOrigin b) (dxSeq b) (dxBody b) (d2.sat Reg.DXL_CNT_TOKEN.N) else d2

/-- A RELAY or MGMT frame that is new: for this node, or to be forwarded (R540, R542, R543). -/
def hopTake (t : Time) (l arrQ : Nat) (b : List Byte) (d : Dev) : Dev :=
  if dxDest b ≠ selfNode d then
    if dxHops b = 1 then linkDrop l (d.sat Reg.DXL_CNT_HOPS.N)
    else ackSend l b (holdFrame t (withHops b (dxHops b - 1)) d)
  else if dxType b = tyRelay then
    let f : RxFrame := ⟨0, 0, [], b.length, true, false, none, none, 0, .relay (dxOrigin b) (dxBody b), b, 0, 0⟩
    ackSend l b (toIngest (16 + l) arrQ false f d)
  else if d.pwr.xaornRuns then
    ackSend l b (d.modDxl fun x => { x with
      mgmtIn := x.mgmtIn ++ [(dxOrigin b, (dxFlags b).testBit 1, dxBody b)] })
  else d

/-- De-duplication and what follows it (R526, R527). -/
def dxNew (t : Time) (l arrQ : Nat) (b : List Byte) (d : Dev) : Dev :=
  let typ := dxType b
  match winJudge (tget d.dxl.wins (winKey (dxOrigin b) typ)) (dxSeq b) with
  | .dup =>
    let d1 := linkDrop l (d.sat Reg.DXL_CNT_DUP.N)
    if typ = tyRelay ∨ (typ = tyMgmt ∧ (dxDest b ≠ selfNode d ∨ d.pwr.xaornRuns)) then ackSend l b d1 else d1
  | .old => linkDrop l (d.sat Reg.DXL_CNT_OLD.N)
  | .fresh =>
    -- a MGMT frame that Xaorn cannot take is not accepted, and its sender repeats it
    if typ = tyMgmt ∧ dxDest b = selfNode d ∧ !d.pwr.xaornRuns then linkDrop l d
    else
      let d1 := takeSeq (dxOrigin b) typ (dxSeq b) d
      if typ = tyToken ∨ typ = tyBeacon then floodTake t l b d1 else hopTake t l arrQ b d1

/-- A frame whose origin and BOOT have been judged (R527), by TYPE. -/
def dxByType (t : Time) (l arrQ : Nat) (b : List Byte) (d : Dev) : Dev :=
  let typ := dxType b
  if typ = tyKeepalive then keepaliveTake t l b d
  else if linkState d l ≠ 2 then linkDrop l d
  else if typ = tyTime then
    if !(isDl d l && d.onN Reg.DXL_LINKn_CFG.TIME_EN l) then linkDrop l d
    else if byteAt (dxBody b) 0 = 0 then timeAnswer t l arrQ b d
    else timeTake t l arrQ b d
  else if typ = tyAck then
    let p := dxBody b
    d.modDxl fun x => { x with held := x.held.filter fun h =>
      !(h.link == some l && h.seq == leAt p 0 4 && h.origin == leAt p 4 2 && h.typ == byteAt p 6) }
  else dxNew t l arrQ b d

/-- The node and BOOT of the origin (R527, R528, R535). -/
def dxOriginCheck (t : Time) (l arrQ : Nat) (b : List Byte) (d : Dev) : Dev :=
  let o := dxOrigin b
  if o = selfNode d ∧ dxBoot b ≠ selfBoot d then
    linkDrop l ((d.sat Reg.DXL_CNT_CLASH.N).cause intDxl 3 l 0)
  else match tget d.dxl.boots o with
    | none => dxByType t l arrQ b (d.modDxl fun x => { x with boots := tset x.boots o (some (dxBoot b)) })
    | some k =>
      let c := sdiff (2 ^ 16) (dxBoot b) k
      if c < 0 then linkDrop l (d.sat Reg.DXL_CNT_OLD.N)
      else if c = 0 then dxByType t l arrQ b d
      else dxByType t l arrQ b (originRestart t o (d.modDxl fun x => { x with
        boots := tset x.boots o (some (dxBoot b)), wins := x.wins.filter fun e => e.1 / 8 != o }))

/-- Would this token's copies have left before its tag was checked (R531)? -/
def cutThrough (d : Dev) (l : Nat) (b : List Byte) : Bool :=
  isDl d l && (dxType b == tyToken || dxType b == tyBeacon) && linkState d l == 2 && decide (1 < dxHops b) &&
    !(dxOrigin b == selfNode d && dxBoot b != selfBoot d) &&
    (match tget d.dxl.boots (dxOrigin b) with
     | some k => let c := sdiff (2 ^ 16) (dxBoot b) k
       decide (0 < c) || (c == 0 && winJudge (tget d.dxl.wins (winKey (dxOrigin b) (dxType b))) (dxSeq b) == .fresh)
     | none => true)

/-- The tag fails (R525, R531). -/
def dxAuthFail (l : Nat) (b : List Byte) (d : Dev) : Dev :=
  let d1 := if cutThrough d l b then dxFlood (withHops b (dxHops b - 1)) (some l) false d else d
  linkDrop l (((d1.sat Reg.DXL_CNT_AUTH.N).cause intDxl 2 l stAuthFail).setN Reg.DXL_LINKn_STAT.AUTH_OK l 0)

/-- The tag of a frame is checked (R524, R525, R556). -/
def dxAuth (t : Time) (l arrQ : Nat) (f : DxFrame) (d : Dev) : Dev :=
  if !d.onN Reg.DXL_LINKn_CFG.AUTH l then dxOriginCheck t l arrQ f.bytes d
  else match keyUse engDaxide l (d.getN Reg.DXL_LINKn_CFG.KEY_SLOT l) 3 true d with
    | (none, d1) => dxAuthFail l f.bytes d1
    | (some k, d1) =>
      if dxTag f.bytes && f.tagKey == some k.material then
        dxOriginCheck t l arrQ f.bytes (d1.setN Reg.DXL_LINKn_STAT.AUTH_OK l 1)
      else dxAuthFail l f.bytes d1

/-- The limit of R546: frames of every TYPE but KEEPALIVE and TIME in this millisecond. -/
def dxLimit (t : Time) (l : Nat) (b : List Byte) (d : Dev) : Bool × Dev :=
  let lim := d.getN Reg.DXL_LINKn_RLIM.FRAMES l
  if lim = 0 ∨ dxType b = tyKeepalive ∨ dxType b = tyTime then (true, d)
  else
    let ms := t.loc / 1000000
    let c := if (d.dlink l).ms = ms then (d.dlink l).msCnt else 0
    let d1 := d.modLink l fun x => { x with ms := ms, msCnt := c + 1 }
    (decide (c < lim), d1)

/-- A frame at link l (R518, R523, R545, R546). -/
def dxReceive (t : Time) (l arrQ : Nat) (f : DxFrame) (d0 : Dev) : Dev :=
  let d := d0.sat Reg.DXL_LINKn_RXF.N l
  if !f.fcsOk ∨ linkState d l = 3 then linkDrop l d
  else if dxMalformed f.bytes then linkDrop l (d.sat Reg.DXL_CNT_MALFORMED.N)
  else match dxLimit t l f.bytes d with
    | (false, d1) => linkDrop l (d1.sat Reg.DXL_CNT_RLIM.N)
    | (true, d1) => dxAuth t l arrQ f d1

def execDaxideFrameReceive (link : Nat) (f : DxFrame) (s : State) : Host.Outcome State Fault Refusal :=
  run s fun t d => if linkOn d link then dxReceive t link (t.qns + f.q % 16) f d else d

/-- Ingest hands a datagram to the UDP link it belongs to (R521). -/
def dxDatagram (t : Time) (port ip : Nat) (arrQ : Nat) (f : DxFrame) (d : Dev) : Dev :=
  match (List.range 4).find? fun l => linkOn d l && !isDl d l && d.getN Reg.DXL_LINKn_CFG.FP l == port && peerIp d l == ip with
  | some l => dxReceive t l arrQ f d
  | none => d.sat Reg.DXL_CNT_BIND.N

end Sys2Proof.Machine
end

