-- ==== Sys2Proof/Machine/Flags.lean ====
section
/-!
DEFINITION. IEEE 754 arithmetic in binary32 and binary64, round to nearest with ties to even, with gradual underflow: the
arithmetic the engines state for their words. Values are held as their bits.
-/

namespace Sys2Proof.Machine

open Sys2Proof

/-- A format: exponent bits and fraction bits. -/
structure Fmt where
  eb : Nat
  mb : Nat
  deriving DecidableEq, Repr

def b32 : Fmt := ⟨8, 23⟩
def b64 : Fmt := ⟨11, 52⟩

def Fmt.bias (f : Fmt) : Nat := 2 ^ (f.eb - 1) - 1
def Fmt.inf (f : Fmt) (neg : Bool) : Nat := (if neg then 2 ^ (f.eb + f.mb) else 0) + (2 ^ f.eb - 1) * 2 ^ f.mb
def Fmt.qnan (f : Fmt) : Nat := f.inf false + 2 ^ (f.mb - 1)

/-- An exact value: not a number, an infinity, or ± m × 2^e. -/
inductive Num where
  | nan
  | inf (neg : Bool)
  | fin (neg : Bool) (m : Nat) (e : Int)
  deriving DecidableEq, Repr

/-- The value of a bit pattern. -/
def Fmt.num (f : Fmt) (b : Nat) : Num :=
  let neg := b.testBit (f.eb + f.mb)
  let ex := b / 2 ^ f.mb % 2 ^ f.eb
  let fr := b % 2 ^ f.mb
  if ex = 2 ^ f.eb - 1 then if fr = 0 then .inf neg else .nan
  else if ex = 0 then .fin neg fr (1 - (f.bias : Int) - f.mb)
  else .fin neg (2 ^ f.mb + fr) ((ex : Int) - f.bias - f.mb)

/-- Quotient, remainder and divisor of num × 2^k ÷ den. -/
def scaledDiv (num den : Nat) (k : Int) : Nat × Nat × Nat :=
  let n := if 0 ≤ k then num * 2 ^ k.toNat else num
  let d := if 0 ≤ k then den else den * 2 ^ (-k).toNat
  (n / d, n % d, d)

/-- The bits nearest to ± num ÷ den × 2^e, ties to even. -/
def Fmt.round (f : Fmt) (neg : Bool) (num den : Nat) (e : Int) : Nat :=
  let s := if neg then 2 ^ (f.eb + f.mb) else 0
  if num = 0 then s
  else
    let p := f.mb + 1
    let l : Int := (Nat.log2 num : Int) - (Nat.log2 den : Int) + e
    let low : Int := 1 - (f.bias : Int) - f.mb
    let u0 := max (l - p) low
    let u := if 2 ^ p ≤ (scaledDiv num den (e - u0)).1 then u0 + 1 else u0
    let (q, r, d) := scaledDiv num den (e - u)
    let q1 := if d < 2 * r ∨ (2 * r = d ∧ q % 2 = 1) then q + 1 else q
    let (q2, u2) : Nat × Int := if q1 = 2 ^ p then (2 ^ f.mb, u + 1) else (q1, u)
    if q2 < 2 ^ f.mb then s + q2
    else
      let ex := (u2 + f.mb + f.bias).toNat
      if 2 ^ f.eb - 1 ≤ ex then f.inf neg else s + ex * 2 ^ f.mb + (q2 - 2 ^ f.mb)

/-- The bits nearest to an exact value. -/
def Fmt.enc (f : Fmt) : Num → Nat
  | .nan => f.qnan
  | .inf s => f.inf s
  | .fin s m e => f.round s m 1 e

def Num.neg : Num → Num
  | .nan => .nan
  | .inf s => .inf !s
  | .fin s m e => .fin (!s) m e

def Num.abs : Num → Num
  | .nan => .nan
  | .inf _ => .inf false
  | .fin _ m e => .fin false m e

/-- The exact sum. -/
def Num.add : Num → Num → Num
  | .nan, _ => .nan
  | _, .nan => .nan
  | .inf a, .inf b => if a = b then .inf a else .nan
  | .inf a, .fin _ _ _ => .inf a
  | .fin _ _ _, .inf b => .inf b
  | .fin s m e, .fin t n g =>
    let l := min e g
    let x : Int := ((m * 2 ^ (e - l).toNat : Nat) : Int) * (if s then -1 else 1)
    let y : Int := ((n * 2 ^ (g - l).toNat : Nat) : Int) * (if t then -1 else 1)
    if x + y = 0 then .fin (s && t) 0 l else .fin (decide (x + y < 0)) (x + y).natAbs l

/-- The exact product. -/
def Num.mul : Num → Num → Num
  | .nan, _ => .nan
  | _, .nan => .nan
  | .inf a, .inf b => .inf (a != b)
  | .inf a, .fin t n _ => if n = 0 then .nan else .inf (a != t)
  | .fin s m _, .inf b => if m = 0 then .nan else .inf (s != b)
  | .fin s m e, .fin t n g => .fin (s != t) (m * n) (e + g)

/-- The quotient, rounded to a format. -/
def Fmt.div (f : Fmt) : Num → Num → Nat
  | .nan, _ => f.qnan
  | _, .nan => f.qnan
  | .inf _, .inf _ => f.qnan
  | .inf a, .fin t _ _ => f.inf (a != t)
  | .fin s _ _, .inf b => f.round (s != b) 0 1 0
  | .fin s m e, .fin t n g =>
    if n = 0 then if m = 0 then f.qnan else f.inf (s != t) else f.round (s != t) m n (e - g)

/-- The integer square root by bits. -/
def isqrtAux (n : Nat) : Nat → Nat → Nat
  | 0, r => r
  | k + 1, r => let c := r + 2 ^ k; isqrtAux n k (if c * c ≤ n then c else r)

def isqrt (n : Nat) : Nat := isqrtAux n (Nat.log2 n / 2 + 1) 0

/-- The square root, rounded to a format. -/
def Fmt.sqrt (f : Fmt) : Num → Nat
  | .nan => f.qnan
  | .inf s => if s then f.qnan else f.inf false
  | .fin s m e =>
    if m = 0 then f.round s 0 1 0
    else if s then f.qnan
    else
      let k := 2 * (f.mb + 4)
      let (m1, e1) : Nat × Int := if e % 2 = 0 then (m, e) else (2 * m, e - 1)
      let n := m1 * 2 ^ (2 * k)
      let r := isqrt n
      f.round false (if r * r = n then 2 * r else 2 * r + 1) 1 (e1 / 2 - k - 1)

/-- a < b; a NaN compares with nothing. -/
def Num.lt (a b : Num) : Bool :=
  match a, b with
  | .nan, _ => false
  | _, .nan => false
  | .inf s, .inf t => s && !t
  | .inf s, .fin _ _ _ => s
  | .fin _ _ _, .inf t => !t
  | .fin _ _ _, .fin _ _ _ =>
    match Num.add a (Num.neg b) with
    | .fin s m _ => s && m != 0
    | _ => false

def Num.isNan : Num → Bool
  | .nan => true
  | _ => false

def Num.isInf : Num → Bool
  | .inf _ => true
  | _ => false

/-- a ≤ b. -/
def Num.le (a b : Num) : Bool := !a.isNan && !b.isNan && !Num.lt b a

/-- A finite value as a fraction; 0 where there is none. -/
def Num.frac : Num → Int × Nat
  | .fin neg m e =>
    let s : Int := if neg then -(m : Int) else m
    match e with
    | .ofNat k => (s * (2 ^ k : Nat), 1)
    | .negSucc k => (s, 2 ^ (k + 1))
  | _ => (0, 1)

def Num.ofInt (n : Int) : Num := .fin (decide (n < 0)) n.natAbs 0

/-- The value rounded toward minus infinity; 0 where there is none. -/
def Num.floor : Num → Int
  | .fin s m e =>
    let x : Int := if s then -(m : Int) else m
    if 0 ≤ e then x * 2 ^ e.toNat else x / 2 ^ (-e).toNat
  | _ => 0

/-! Words -/

def num32 (w : Word32) : Num := b32.num w.toNat
def num64 (w : Word64) : Num := b64.num w.toNat

/-- The invalid-word code of a word whose arithmetic has no numeric result (R9). -/
def nanWord : Word32 := BitVec.ofNat 32 (0x7FC00001 + Config.nanCode.val)

def to32 (x : Num) : Word32 := if x.isNan then nanWord else BitVec.ofNat 32 (b32.enc x)
def to64 (x : Num) : Word64 := BitVec.ofNat 64 (b64.enc x)

/-- Rounded to binary64, as a value. -/
def rnd64 (x : Num) : Num := b64.num (b64.enc x)
def rnd32 (x : Num) : Num := b32.num (b32.enc x)

/-- binary64 operations on values. -/
def dAdd (a b : Num) : Num := rnd64 (Num.add a b)
def dSub (a b : Num) : Num := rnd64 (Num.add a b.neg)
def dMul (a b : Num) : Num := rnd64 (Num.mul a b)
def dDiv (a b : Num) : Num := b64.num (b64.div a b)
def dSqrt (a : Num) : Num := b64.num (b64.sqrt a)

/-- binary32 operations on values. -/
def sAdd (a b : Num) : Num := rnd32 (Num.add a b)
def sSub (a b : Num) : Num := rnd32 (Num.add a b.neg)
def sMul (a b : Num) : Num := rnd32 (Num.mul a b)
def sDiv (a b : Num) : Num := b32.num (b32.div a b)

def Num.zero : Num := .fin false 0 0
def Num.one : Num := .fin false 1 0

/-- Is the word a NaN? -/
def isNan32 (w : Word32) : Bool := (num32 w).isNan

/-- The invalid code of the lowest value among words that are NaNs (R10). -/
def lowestCode (ws : List Word32) : Option Word32 :=
  ws.foldl (fun a w => if isNan32 w then match a with
    | some c => some (if w.toNat < c.toNat then w else c)
    | none => some w
  else a) none

end Sys2Proof.Machine
end

