-- ==== Sys2Proof/Machine/Capture.lean ====
section
/-!
DEFINITION. Capture: raw history, trigger definitions, engines, collections, records, masks and delivery (the chapter on
capture).
-/

namespace Sys2Proof.Machine

open Sys2Proof

def Dev.modCap (d : Dev) (f : Cap → Cap) : Dev := { d with cap := f d.cap }
def Dev.eng (d : Dev) (n : Nat) : CapEng := tget d.cap.eng n
def Dev.modEng (d : Dev) (n : Nat) (f : CapEng → CapEng) : Dev :=
  d.modCap fun c => { c with eng := tset c.eng n (f (tget c.eng n)) }

def capRej (d : Dev) : Dev := d.cause intCap 0 0 0

/-! ## Instants -/

/-- a is no later than b. -/
def Inst.le (a b : Inst) : Bool := decide (a.num * b.den ≤ b.num * a.den)

/-- Quarter nanoseconds nearest to an instant. -/
def Inst.q (a : Inst) : Nat := (a.num * 8000000000 + a.den) / (2 * max 1 a.den)

/-- An instant given in quarter nanoseconds. -/
def qInst (q : Nat) : Inst := ⟨q, 4000000000⟩

/-- An instant moved back by a signed count of quarter nanoseconds. -/
def Inst.minusQ (a : Inst) (skew : Int) : Inst :=
  ⟨((a.num * 4000000000 : Nat) - skew * a.den : Int).toNat, a.den * 4000000000⟩

/-- The index of the interval of rate f that holds an instant. -/
def Inst.slot (a : Inst) (f : Nat) : Nat := a.num * f / max 1 a.den

/-- The first index of rate f whose instant is at or after this one. -/
def Inst.slotUp (a : Inst) (f : Nat) : Nat := (a.num * f + a.den - 1) / max 1 a.den

/-- ST32 of an instant. -/
def Inst.st32 (a : Inst) : Nat := a.q / 4 % 2 ^ 32

/-! ## RAWHIST (R426 to R429) -/

/-- Lanes that record, in order. -/
def recLanes (d : Dev) : List Nat := (List.range 512).filter fun n => d.onN Reg.T_LANE.REC n

/-- The regions of the layout, packed from the partition base. -/
def layoutOf (h : Nat) (d : Dev) : List Nat → Nat → List CapRegion
  | [], _ => []
  | n :: ns, at_ =>
    let fs := d.getN Reg.T_LANE.FS n
    let z := fs * h / 1000
    ⟨n, fs, at_, z, none, none, []⟩ :: layoutOf h d ns (at_ + z)

/-- RAWHIST is laid out and filled with 0x7FC0_0001, or the enable is refused (R426, R427). With an absent partition no lane
has a history, and raw channels record from the trigger on (R98, Table HMP-4). -/
def captureStart (d : Dev) : Dev :=
  let h := d.get Reg.CAP_HIST.H
  let lanes := if h = 0 then [] else recLanes d
  let absent := partBytes d partRaw == 0
  let lay0 := layoutOf h d lanes 0
  let words := (lay0.map fun r => r.size).sum
  let lay := if absent then lay0.map fun r => { r with base := 0, size := 0 } else lay0
  let refuse (st : Nat) (d : Dev) : Dev :=
    capRej (((d.set Reg.CAP_CTRL.EN 0).set Reg.CAP_STATUS.FAIL st).set Reg.CAP_STATUS.RUN 0)
  let d1 := d.set Reg.CAP_STATUS.NEED (min 255 ((words * 4 + 2 ^ 20 - 1) / 2 ^ 20))
  if lanes.any fun n => d.getN Reg.T_LANE.FS n * h % 1000 != 0 then refuse stRejected d1
  else if !absent && decide (partBytes d partRaw < words * 4) then refuse stNoSpace d1
  else
    let d2 := if absent then d1 else partWrite partRaw (partWord d partRaw) (List.replicate words wMissing) d1
    (((d2.modCap fun c => { c with layout := lay }).set Reg.CAP_CTRL.EN 1).set Reg.CAP_STATUS.FAIL stOk).set
      Reg.CAP_STATUS.RUN 1

def execCaptureEnable (s : State) : Host.Outcome State Fault Refusal :=
  run s fun _ d => onWrite 0xE0000 (fun d => if d.on Reg.CAP_CTRL.EN then d else captureStart d) d

/-- Set an engine's STATE. -/
def setEng (n st : Nat) (d : Dev) : Dev := d.setN Reg.CAP_ENGn_STAT.STATE n st
def engState (d : Dev) (n : Nat) : Nat := d.getN Reg.CAP_ENGn_STAT.STATE n

/-- An engine returns to IDLE; its record number goes on. -/
def engIdle (n : Nat) (d : Dev) : Dev :=
  setEng n 0 (d.modEng n fun e => { (default : CapEng) with seq := e.seq })

/-- Every engine returns to IDLE and the layout is discarded (R456). -/
def captureStop (d : Dev) : Dev :=
  (((List.range 8).foldl (fun x n => engIdle n x) d).modCap fun c => { c with layout := [] }).set Reg.CAP_STATUS.RUN 0

def execCaptureDisable (s : State) : Host.Outcome State Fault Refusal :=
  run s fun _ d => onWrite 0xE0000 (fun d => captureStop (d.set Reg.CAP_CTRL.EN 0)) d

/-- The region of a lane. -/
def regionOf (d : Dev) (lane : Nat) : Option CapRegion := d.cap.layout.find? fun r => r.lane == lane

def modRegion (lane : Nat) (f : CapRegion → CapRegion) (d : Dev) : Dev :=
  d.modCap fun c => { c with layout := c.layout.map fun r => if r.lane = lane then f r else r }

/-- A lane restarts at a position (R312, R429). -/
def rawRestart (lane p : Nat) (d : Dev) : Dev := modRegion lane (fun r => { r with start := some p }) d

/-- A word is written to a lane's region, or counted as skipped (R331, R428). -/
def rawWrite (lane p : Nat) (w : Word32) (d : Dev) : Dev :=
  if !(d.up islCap && d.on Reg.CAP_STATUS.RUN) then d
  else match regionOf d lane with
    | some r =>
      if d.onN Reg.T_LANE.REC lane && d.getN Reg.T_LANE.FS lane == r.fs then
        if r.size = 0 then
          let keep := if (List.range 8).any fun n => engState d n == 4 then r.recent else []
          modRegion lane (fun r => { r with recent := keep ++ [(p, w)] }) d
        else modRegion lane (fun r => { r with start := some (r.start.getD p), newest := some p })
          (partWrite partRaw (partWord d partRaw + r.base + p % r.size) [w] d)
      else d.sat Reg.CAP_CNT_RAWSKIP.N
    | none => if d.onN Reg.T_LANE.REC lane then d.sat Reg.CAP_CNT_RAWSKIP.N else d

/-- The newest position of a lane that an engine can read. -/
def CapRegion.head (r : CapRegion) : Option Nat := if r.size = 0 then r.recent.getLast?.map fun e => e.1 else r.newest

/-- An engine reads a raw position (R429): the word, and whether it has been overwritten. -/
def rawRead (lane p : Nat) (d : Dev) : Word32 × Bool × Dev :=
  match regionOf d lane with
  | none => (wMissing, false, d)
  | some r =>
    if r.size = 0 then (((r.recent.find? fun e => e.1 == p).map fun e => e.2).getD wMissing, false, d)
    else match r.start, r.newest with
    | some a, some z =>
      if p < a ∨ z < p then (wMissing, false, d)
      else if r.size ≤ z - p then (wMissing, true, d)
      else
        let (ws, d1) := partRead partRaw (partWord d partRaw + r.base + p % r.size) 1 d
        (ws.getD 0 wMissing, false, d1)
    | _, _ => (wMissing, false, d)

/-- Is a lane's raw word a binary32? It never is: SV values and converter samples are integers (R429). -/
def intInvalid (w : Word32) : Bool :=
  w == wMissing || w == wParity || w == wSettling || w == wInvalid || w == wHeld

/-- The invalid code a NaN word carries; a NaN of unknown origin carries 0x7FC0_0004 (R340). -/
def codeOf (w : Word32) : Word32 := if intInvalid w then w else wInvalid

/-! ## Averaging (R432) -/

/-- An integer value rounded to nearest, ties to even. -/
def Num.nearest (x : Num) : Int :=
  let f := x.floor
  let r := Num.add x (Num.ofInt (-f))
  let half : Num := .fin false 1 (-1)
  if Num.lt half r || (r.le half && half.le r && f % 2 != 0) then f + 1 else f

/-- The value of a block of samples in the channel's word form. -/
def blockValue (isFloat digital : Bool) (vals : List Word32) : Word32 :=
  let bad (w : Word32) : Bool := if isFloat then isNan32 w else intInvalid w
  let ok := vals.filter fun w => !bad w
  if digital then vals.getLastD wMissing
  else if ok.isEmpty then
    (lowestCode (if isFloat then vals.map fun w => if isNan32 w then codeOf w else w else vals)).getD wMissing
  else if isFloat then to32 (dDiv ((ok.map num32).foldl dAdd .zero) (Num.ofInt ok.length))
  else
    let s : Num := (ok.map fun w => Num.ofInt w.toInt).foldl dAdd .zero
    BitVec.ofInt 32 (dDiv s (Num.ofInt ok.length)).nearest

/-! ## Channel entries -/

def ceKind (e : Nat) : Nat := bits e 0 2
def ceIndex (e : Nat) : Nat := bits e 2 12
def ceBus (e : Nat) : Nat := bits e 14 2
def ceField (e : Nat) : Nat := bits e 16 7
def ceDigital (e : Nat) : Bool := e.testBit 23
def ceMask (e : Nat) : Nat := bits e 24 5
def ceMaskEn (e : Nat) : Bool := e.testBit 29

/-- Is a decoded field a binary32 (Table ING-7)? -/
def fieldIsFloat (f : Nat) : Bool := decide (4 ≤ f) && decide (f ≤ 67)

/-- Is a channel's word form binary32? -/
def ceFloat (e : Nat) : Bool :=
  match ceKind e with
  | 1 => false
  | 2 => decide (ceField e < 64)
  | _ => fieldIsFloat (ceField e)

/-- The spread rates of Table ING-3. -/
def rateOf (code : Nat) : Nat := [10, 12, 15, 20, 25, 30, 50, 60, 100, 120, 200, 240].getD code 0

/-- The spread rate R (R211). -/
def spreadRate (d : Dev) : Nat := rateOf (d.get Reg.ALN_CTRL.SPREAD_RATE)

/-- Does Roll Call run with hardware alignment? -/
def spreadsFlow (d : Dev) : Bool := d.get Reg.GLB_SPLIT.ALIGN == 1 && d.on Reg.ALN_STATUS.RUN && d.up islAln

/-! ## Arming (R438, R439) -/

/-- Does a channel entry hold a reserved value or an INDEX or FIELD out of range? -/
def ceBad (e : Nat) : Bool :=
  match ceKind e with
  | 0 => true
  | 1 => decide (512 ≤ ceIndex e)
  | 2 => decide (512 ≤ ceIndex e) || decide (65 < ceField e)
  | _ =>
    (match ceBus e with
     | 0 => decide (512 ≤ ceIndex e)
     | 1 => decide (64 ≤ ceIndex e)
     | 2 => decide (128 ≤ ceIndex e)
     | _ => true) || decide (95 < ceField e)

/-- The entry of channel c of engine n. -/
def chanEntry (d : Dev) (n c : Nat) : Nat := (d.word (Reg.T_CCHAN.KIND.reg.addr (n * 64 + c))).toNat

/-- A channel with its counts (Table CAP-6). -/
def chanOf (d : Dev) (n c : Nat) : CapChan :=
  let e := chanEntry d n c
  let rate := if ceKind e = 1 then d.getN Reg.T_LANE.FS (ceIndex e) else spreadRate d
  let avg := max 1 (if ceKind e = 1 then d.getN Reg.CAP_ENGn_AVG.RAW n else d.getN Reg.CAP_ENGn_AVG.FRM n)
  let npre := d.getN Reg.CAP_ENGn_PRE.MS n * rate / (1000 * avg)
  let npost := (d.getN Reg.CAP_ENGn_POST.MS n * rate + 1000 * avg - 1) / (1000 * avg)
  { (default : CapChan) with entry := e, rate := rate, avg := avg, npre := npre, ntot := npre + npost }

/-- The channels of an engine, their areas one after another behind the 4,096-byte header. -/
def layChans : List CapChan → Nat → List CapChan
  | [], _ => []
  | c :: cs, at_ => { c with base := at_ } :: layChans cs (at_ + c.ntot)

def chansOf (d : Dev) (n : Nat) : List CapChan :=
  layChans ((List.range (d.getN Reg.CAP_ENGn_CFG.NCH n)).map fun c => chanOf d n c) 1024

/-- P of the record: four bytes for each block. -/
def recordPayload (cs : List CapChan) : Nat := 4 * (cs.map fun c => c.ntot).sum

/-- Does the slice of engine n overlap another engine's? -/
def sliceOverlaps (d : Dev) (n : Nat) : Bool :=
  let b := d.getN Reg.CAP_ENGn_BUF.OFS n
  let z := d.getN Reg.CAP_ENGn_BUF.SIZE n
  (List.range 8).any fun m =>
    let b2 := d.getN Reg.CAP_ENGn_BUF.OFS m
    let z2 := d.getN Reg.CAP_ENGn_BUF.SIZE m
    m != n && z2 != 0 && decide (b < b2 + z2) && decide (b2 < b + z)

/-- The arm checks of Table CAP-6. -/
def armCheck (d : Dev) (n : Nat) : Nat :=
  let cs := chansOf d n
  let pre := d.getN Reg.CAP_ENGn_PRE.MS n
  let raws := cs.filter fun c => ceKind c.entry == 1
  let frames := cs.filter fun c => ceKind c.entry != 1
  let z := d.getN Reg.CAP_ENGn_BUF.SIZE n
  if !d.on Reg.CAP_STATUS.RUN ∨ d.get Reg.GLB_SPLIT.CAPTURE = 0 then stRejected
  else if 64 < cs.length ∨ cs.any (fun c => ceBad c.entry) then stRejected
  else if raws.any (fun c => (regionOf d (ceIndex c.entry)).isNone) ∨ (!raws.isEmpty ∧ d.get Reg.CAP_HIST.H ≤ pre) then
    stRejected
  else if raws.any (fun c => c.rate % c.avg != 0) ∨ frames.any (fun c => c.rate % c.avg != 0) then stRejected
  else if cs.any (fun c => ceMaskEn c.entry && !d.onN Reg.T_CMASK.VALID (ceMask c.entry)) then stRejected
  else if 60000 < pre ∨ 600000 < d.getN Reg.CAP_ENGn_POST.MS n then stRejected
  else if cs.isEmpty ∨ cs.all (fun c => c.ntot == 0) then stSkipped
  else if z * 4096 < 4096 + recordPayload cs ∨ sliceOverlaps d n ∨
      partBytes d partCapture < (d.getN Reg.CAP_ENGn_BUF.OFS n + z) * 4096 then stNoSpace
  else stOk

/-- The engine is armed from now on (R439, R440). -/
def engArm (t : Time) (n status : Nat) (d : Dev) : Dev :=
  let cs := chansOf d n
  let d1 := d.modEng n fun e => { (default : CapEng) with
    chans := cs, armT := t.ns, late := status == stLate, seq := e.seq, frmK := t.ns * spreadRate d / 1000000000 + 1 }
  (setEng n 2 (d1.setN Reg.CAP_ENGn_STAT.ARM_STATUS n status)).cause intCap 4 n status

/-- ARM is checked, and the engine armed or its timed arm begun (R438, R439); a refusal sets CFG_REJ (Table CAP-12). -/
def engArmCheck (t : Time) (n : Nat) (timed : Bool) (d : Dev) : Dev :=
  let st := armCheck d n
  if st = stSkipped then d.setN Reg.CAP_ENGn_STAT.ARM_STATUS n st
  else if st ≠ stOk then capRej (d.setN Reg.CAP_ENGn_STAT.ARM_STATUS n st)
  else if timed then setEng n 1 (d.setN Reg.CAP_ENGn_STAT.ARM_STATUS n stOk)
  else engArm t n stOk d

/-- ARM is written with 1 (R438). -/
def captureArm (t : Time) (n : Nat) (d : Dev) : Dev :=
  if engState d n = 0 then engArmCheck t n (d.onN Reg.CAP_ENGn_CTRL.TIMED n) d else capRej d

def execCaptureArm (eng : Nat) (s : State) : Host.Outcome State Fault Refusal :=
  run s fun t d => if eng < 8 then onWrite 0xE0100 (captureArm t eng) d else d

/-- A timed arm is taken up (R439). -/
def captureTimedArm (t : Time) (n : Nat) (d : Dev) : Dev :=
  if 8 ≤ n ∨ engState d n ≠ 1 then d
  else
    let v := verdictNow t d (d.getN Reg.CAP_ENGn_TARM.ST n) (d.getN Reg.CAP_ENGn_TEP.EPOCH n)
      (d.getN Reg.CAP_ENGn_TEP.LATE_TOL n)
    match v with
    | .wait => d
    | .expired => (setEng n 0 (d.setN Reg.CAP_ENGn_STAT.ARM_STATUS n stExpired)).cause intCap 4 n stExpired
    | .ok => engArm t n stOk d
    | .late => engArm t n stLate d

def execCaptureTimedArm (eng : Nat) (s : State) : Host.Outcome State Fault Refusal :=
  run s fun t d => captureTimedArm t eng d

/-! ## Masks (R448 to R450) -/

def maskWord (d : Dev) (k j : Nat) : Nat := d.getN Reg.T_CMASKP.W (k * 60 + j)
def maskOfs (d : Dev) (k i : Nat) : Int := sint 32 (maskWord d k (3 * i))
def maskUp (d : Dev) (k i : Nat) : Num := b32.num (maskWord d k (3 * i + 1))
def maskLo (d : Dev) (k i : Nat) : Num := b32.num (maskWord d k (3 * i + 2))

def numFinite : Num → Bool
  | .fin _ _ _ => true
  | _ => false

/-- R448. -/
def maskOk (d : Dev) (k npt : Nat) : Bool :=
  decide (2 ≤ npt) && decide (npt ≤ 20) &&
    ((List.range npt).all fun i => numFinite (maskUp d k i) && numFinite (maskLo d k i) && (maskLo d k i).le (maskUp d k i)) &&
    (List.range (npt - 1)).all fun i => decide (maskOfs d k i < maskOfs d k (i + 1))

def maskValidate (k : Nat) (v : Word32) (d : Dev) : Dev :=
  let a := 0x373000 + k * 0x100
  if bitOf v 0 then
    if d.onN Reg.T_CMASK.VALID k then capRej d
    else if maskOk d k (bits v.toNat 1 5) then d.putWord a v else capRej (d.putUnvalid a v)
  else d.putWord a v

def execMaskValidate (k : Nat) (v : Word32) (s : State) : Host.Outcome State Fault Refusal :=
  run s fun _ d => if k < 32 then onWrite 0x373000 (maskValidate k v) d else d

/-- Is v above (or, `below`, below) the line between (o0, y0) and (o1, y1) at the offset num ÷ den µs? All exact. -/
def beyond (below : Bool) (v y0 y1 : Num) (o0 o1 num : Int) (den : Nat) : Bool :=
  let w : Num := Num.ofInt ((o1 - o0) * den)
  let x : Num := Num.ofInt (num - o0 * den)
  let line := Num.add (Num.mul y0 w) (Num.mul (Num.add y1 y0.neg) x)
  let vv := Num.mul v w
  if below then Num.lt vv line else Num.lt line vv

/-- Does a block violate mask k (R449)? `num ÷ den` is its instant less t_trig in µs. -/
def maskViolated (d : Dev) (k : Nat) (isFloat : Bool) (w : Word32) (num : Int) (den : Nat) : Bool :=
  let npt := d.getN Reg.T_CMASK.NPT k
  if num < maskOfs d k 0 * den ∨ maskOfs d k (npt - 1) * den < num then false
  else if isFloat && isNan32 w then d.onN Reg.T_CMASK.NANFAIL k
  else
    let v := if isFloat then num32 w else Num.ofInt w.toInt
    match (List.range (npt - 1)).find? fun i => decide (num ≤ maskOfs d k (i + 1) * den) with
    | some i =>
      beyond false v (maskUp d k i) (maskUp d k (i + 1)) (maskOfs d k i) (maskOfs d k (i + 1)) num den ||
        beyond true v (maskLo d k i) (maskLo d k (i + 1)) (maskOfs d k i) (maskOfs d k (i + 1)) num den
    | none => false

/-! ## Recording -/

/-- First word of an engine's slice. -/
def sliceWord (d : Dev) (n : Nat) : Nat := partWord d partCapture + d.getN Reg.CAP_ENGn_BUF.OFS n * 1024

/-- Channel c of engine n, changed. -/
def modChan (n c : Nat) (f : CapChan → CapChan) (d : Dev) : Dev :=
  d.modEng n fun e => { e with chans := e.chans.modify c f }

/-- Block b of channel c is recorded, and tested against its mask (R449, R450). -/
def recordBlock (n c b : Nat) (w : Word32) (d : Dev) : Dev :=
  match (d.eng n).chans[c]? with
  | none => d
  | some ch =>
    let i := b - ch.first
    let d1 := modChan n c (fun h => { h with next := b + 1 }) (partWrite partCapture (sliceWord d n + ch.base + i) [w] d)
    let viol :=
      match (d.eng n).trig with
      | some tr =>
        -- the instant of the block is b × avg ÷ rate s
        let num : Int := ((b * ch.avg * tr.den : Nat) : Int) - (tr.num * ch.rate : Nat)
        ceMaskEn ch.entry && maskViolated d (ceMask ch.entry) (ceFloat ch.entry) w (num * 1000000) (ch.rate * tr.den)
      | none => false
    if viol && (d.eng n).viol.isNone then
      (d1.modEng n fun e => { e with viol := some (c, ceMask ch.entry, i) }).cause intCap 3 n 0
    else d1

/-- Block b of a raw channel from RAWHIST (R429, R432, R446). -/
def rawBlock (lane avg b : Nat) (digital : Bool) (d : Dev) : Word32 × Bool × Dev :=
  let r := (List.range avg).foldl (fun (acc : List Word32 × Bool × Dev) i =>
    let (w, sh, d1) := rawRead lane (b * avg + i) acc.2.2
    (acc.1 ++ [w], acc.2.1 || sh, d1)) ([], false, d)
  (blockValue false digital r.1, r.2.1, r.2.2)

/-- Record raw blocks of channel c up to position p; `fuel` bounds their number. -/
def rawAdvance (fuel n c p : Nat) (d : Dev) : Dev :=
  match fuel, (d.eng n).chans[c]? with
  | fuel + 1, some ch =>
    if ch.next < ch.first + ch.ntot ∧ ch.next * ch.avg + ch.avg - 1 ≤ p then
      let (w, sh, d1) := rawBlock (ceIndex ch.entry) ch.avg ch.next (ceDigital ch.entry) d
      let d2 := if sh then d1.modEng n fun e => { e with histShort := true } else d1
      rawAdvance fuel n c p (recordBlock n c ch.next w d2)
    else d
  | _, _ => d

/-- Is the engine recording after its collection? -/
def posting (d : Dev) (n : Nat) : Bool := engState d n == 4 && (d.eng n).trig.isSome

/-- Engines record the raw blocks that a lane's newest position completes. -/
def rawSample (lane p : Nat) (d : Dev) : Dev :=
  (List.range 8).foldl (fun x n =>
    if posting x n then
      ((List.range (x.eng n).chans.length)).foldl (fun y c =>
        match (y.eng n).chans[c]? with
        | some ch => if ceKind ch.entry = 1 ∧ ceIndex ch.entry = lane then rawAdvance (ch.ntot + 1) n c p y else y
        | none => y) x
    else x) d

/-- A frame channel has a sample at instant k of rate R (R430, R432, R440): it joins its block, and a block that is
complete is written circularly before the trigger and recorded after it. -/
def frameSample (n c k : Nat) (w : Word32) (d : Dev) : Dev :=
  match (d.eng n).chans[c]? with
  | none => d
  | some ch =>
    let b := k / ch.avg
    let acc := if ch.cur = b then ch.acc ++ [w] else [w]
    let d1 := modChan n c (fun h => { h with cur := b, acc := acc }) d
    if k % ch.avg + 1 < ch.avg then d1
    else
      let v := blockValue (ceFloat ch.entry) (ceDigital ch.entry) acc
      if posting d n then
        if ch.first ≤ b ∧ b < ch.first + ch.ntot then recordBlock n c b v d1 else d1
      else if ch.ntot = 0 then d1
      else
        modChan n c (fun h => { h with circ := some ((ch.circ.getD (b, b)).1, b) })
          (partWrite partCapture (sliceWord d n + ch.base + b % ch.ntot) [v] d1)

/-- Does the engine sample its frame channels? -/
def framing (d : Dev) (n : Nat) : Bool := let s := engState d n; s == 2 || s == 3 || s == 4

/-- The value of a decoded-field channel at instant k (R430): the latest record placed before it and since the previous
instant. -/
def latestField (ch : CapChan) (k rate : Nat) : Word32 :=
  let ok := ch.latest.filter fun e => decide (e.1 * rate < k * 1000000000) && decide ((k - 1) * 1000000000 ≤ e.1 * rate)
  (ok.getLast?.map fun e => e.2).getD wMissing

/-- Every frame channel of engine n samples at instant k; `rd` reads a spread word, `none` when no spread closes. -/
def frameInstant (n k : Nat) (rd : Option (Nat → Nat → Dev → Word32 × Dev)) (d : Dev) : Dev :=
  let d1 := (List.range (d.eng n).chans.length).foldl (fun x c =>
    match (x.eng n).chans[c]? with
    | none => x
    | some ch =>
      match ceKind ch.entry, rd with
      | 2, some f =>
        let (w, x1) := f (ceIndex ch.entry) (ceField ch.entry) x
        frameSample n c k w x1
      | 2, none => frameSample n c k wMissing (x.modEng n fun e => { e with noSpread := true })
      | 3, _ =>
        frameSample n c k (latestField ch k ch.rate) (modChan n c (fun h => { h with
          latest := h.latest.filter fun e => decide (k * 1000000000 ≤ e.1 * ch.rate) }) x)
      | _, _ => x) d
  d1.modEng n fun e => { e with frmK := k + 1 }

/-- While no spread closes, the frame instants that grid time has passed are sampled without spread words (R431). -/
def frameCatchUp (fuel n now : Nat) (d : Dev) : Dev :=
  match fuel with
  | 0 => d
  | fuel + 1 =>
    let k := (d.eng n).frmK
    if framing d n && !spreadsFlow d && decide (k * 1000000000 ≤ now * spreadRate d) && spreadRate d != 0 then
      frameCatchUp fuel n now (frameInstant n k none d)
    else d

/-- The frame instants that engine n has passed without a spread before instant k: their spread words are unavailable (R431). -/
def frameGap (n : Nat) : Nat → Dev → Dev
  | 0, d => d
  | m + 1, d => frameGap n m (frameInstant n (d.eng n).frmK none d)

/-- Bring an engine's frame channels up to now. -/
def catchUp (t : Time) (n : Nat) (d : Dev) : Dev :=
  frameCatchUp (t.ns * spreadRate d / 1000000000 + 1 - (d.eng n).frmK) n t.ns d

/-! ## Trigger definitions (R434 to R437) -/

def defOk (v0 v1 hyst : Nat) : Bool :=
  let src := bits v0 1 3
  let cond := bits v0 4 3
  let index := bits v1 0 12
  let bus := bits v1 12 2
  let field := bits v1 14 7
  decide (src ≤ 4) && cond != 7 && (Num.zero.le (b32.num hyst)) &&
    (match src with
     | 0 => (match bus with
       | 0 => decide (index < 512)
       | 1 => decide (index < 64)
       | 2 => decide (index < 128)
       | _ => false) && decide (field ≤ 95) && (field != 95 || decide (bits v1 21 5 < 24))
     | 1 => decide (index < 512) && decide (field ≤ 65)
     | 2 => decide (cond ≤ 2)
     | 3 => decide (index < 512)
     | _ => true)

def triggerValidate (k : Nat) (v : Word32) (d : Dev) : Dev :=
  let a := 0x371000 + k * 0x20
  if bitOf v 0 then
    if defOk v.toNat (d.word (a + 4)).toNat (d.word (a + 20)).toNat then
      (d.putWord a v).modCap fun c => if d.onN Reg.T_CTRIG.VALID k then c else { c with prev := tset c.prev k none }
    else if d.onN Reg.T_CTRIG.VALID k then capRej d
    else capRej (d.putUnvalid a v)
  else d.putWord a v

def execTriggerDefValidate (d : Nat) (v : Word32) (s : State) : Host.Outcome State Fault Refusal :=
  run s fun _ x => if d < 256 then onWrite 0x371000 (triggerValidate d v) x else x

/-- A definition fires: it is counted and goes to the engines it names (R435, R436). -/
def defFire (k : Nat) (i : Inst) (d : Dev) : Dev :=
  let d1 := (d.wrapInc Reg.T_CTSTAT.FIRES k).setN Reg.T_CTSTAT.LAST k i.st32
  let m := d.getN Reg.T_CTRIG.ENG k
  (List.range 8).foldl (fun x n => if m.testBit n then x.modEng n fun e => { e with inbox := e.inbox ++ [(k, i)] } else x) d1

/-- Does a value meet a definition's condition (Table CAP-4)? Comparisons in binary64. -/
def condMet (d : Dev) (k : Nat) (x : Num) (w : Word32) (prev : Option (Num × Word32)) : Bool :=
  let hi := b32.num (d.getN Reg.T_CTRIG.HI k)
  let lo := b32.num (d.getN Reg.T_CTRIG.LO k)
  let hy := b32.num (d.getN Reg.T_CTRIG.HYST k)
  match d.getN Reg.T_CTRIG.COND k, prev with
  | 0, _ => Num.lt hi x
  | 1, _ => Num.lt x lo
  | 2, _ => Num.lt hi x || Num.lt x lo
  | 3, some (p, _) => Num.lt hi x && p.le (dSub hi hy)
  | 4, some (p, _) => Num.lt x lo && (dAdd lo hy).le p
  | 5, some (_, pw) => w != pw
  | 6, _ => (w.toNat % 2 ^ 16) &&& d.getN Reg.T_CTRIG.MASK k != 0
  | _, _ => false

/-- The instant of a raw-lane crossing (R437), rounded to 0.25 ns. -/
def crossInst (l x xp : Num) (t tp : Inst) : Inst :=
  let (an, ad) := (Num.add l xp.neg).frac
  let (bn, bd) := (Num.add x xp.neg).frac
  -- t_p + (t − t_p) × (an ÷ ad) ÷ (bn ÷ bd), in quarter nanoseconds
  let tpN : Int := (tp.num * t.den : Nat)
  let dt : Int := ((t.num * tp.den : Nat) : Int) - (tp.num * t.den : Nat)
  let num : Int := tpN * (ad * bn) + dt * an * bd
  let den : Int := (t.den * tp.den : Nat) * (ad * bn)
  let n1 := if den < 0 then -num else num
  let d1 := den.natAbs
  qInst ((n1 * 8000000000 + d1) / (2 * (max 1 d1 : Nat))).toNat

/-- A value of a definition's input: the value, its word, whether it is a binary32, and its instant (R435 to R437). A raw word
that is an invalid code is a NaN: a tainted sample cannot be told from it (R429). -/
def defValue (k : Nat) (w : Word32) (isFloat : Bool) (i : Inst) (skew : Int) (d : Dev) : Dev :=
  let x := if isFloat then num32 w else Num.ofInt w.toInt
  if x.isNan || (d.getN Reg.T_CTRIG.SRC k == 3 && intInvalid w) then d
  else
    let p := (tget d.cap.prev k).map fun e => ((if isFloat then num32 e.1 else Num.ofInt e.1.toInt), e.1)
    let pi := ((tget d.cap.prev k).map fun e => e.2).getD i
    let cond := d.getN Reg.T_CTRIG.COND k
    let cross := d.onN Reg.T_CTRIG.INTERP k && d.getN Reg.T_CTRIG.SRC k == 3 && (cond == 3 || cond == 4)
    let at_ := if cross then
        (match p with
         | some (pv, _) => crossInst (b32.num (d.getN (if cond = 3 then Reg.T_CTRIG.HI else Reg.T_CTRIG.LO) k)) x pv i pi
         | none => i)
      else i
    let d1 := if condMet d k x w p then defFire k (at_.minusQ skew) d else d
    (d1.modCap fun c => { c with prev := tset c.prev k (some (w, i)) }).setN Reg.T_CTSTAT.X_P k
      (if isFloat then w.toNat else (to32 x).toNat)

/-- Valid definitions of one SRC. -/
def defsOf (d : Dev) (src : Nat) : List Nat :=
  (List.range 256).filter fun k => d.onN Reg.T_CTRIG.VALID k && d.getN Reg.T_CTRIG.SRC k == src

/-- A record is placed on the decoded-field bus (R205, R430, R435). -/
def capBus (r : BusRec) (d : Dev) : Dev :=
  if !d.up islCap then d
  else
    let d1 := (defsOf d 0).foldl (fun x k =>
      let f := x.getN Reg.T_CTRIG.FIELD k
      let f1 := if f = 95 then 95 + x.getN Reg.T_CTRIG.SVCH k else f
      if x.getN Reg.T_CTRIG.BUS k = r.bus ∧ x.getN Reg.T_CTRIG.INDEX k = r.index then
        match r.vals.find? fun v => v.1 == f1 with
        | some v => defValue k v.2.1 v.2.2 r.inst 0 x
        | none => x
      else x) d
    (List.range 8).foldl (fun x n =>
      if framing x n then
        (List.range (x.eng n).chans.length).foldl (fun y c =>
          match (y.eng n).chans[c]? with
          | some ch =>
            if ceKind ch.entry = 3 ∧ ceBus ch.entry = r.bus ∧ ceIndex ch.entry = r.index then
              match r.vals.find? fun v => v.1 == ceField ch.entry with
              | some v => modChan n c (fun h => { h with latest := h.latest ++ [(r.placed, v.2.1)] }) y
              | none => y
            else y
          | none => y) x
      else x) d1

/-- A spread at instant k of rate R closes (R430, R435): `due` tells the sources that are due, `rd` reads a word of a
region. While Roll Call drains, the frame channels follow R431. -/
def capSpread (k rate : Nat) (due : Nat → Bool) (rd : Nat → Nat → Dev → Word32 × Dev) (d : Dev) : Dev :=
  if !d.up islCap then d
  else
    let d1 := (defsOf d 1).foldl (fun x j =>
      let s := x.getN Reg.T_CTRIG.INDEX j
      let f := x.getN Reg.T_CTRIG.FIELD j
      if due s then
        let (w, x1) := rd s f x
        defValue j w (decide (f < 64)) ⟨k, rate⟩ 0 x1
      else x) d
    let word (s f : Nat) (d : Dev) : Word32 × Dev := if due s then rd s f d else (wHeld, d)
    if !spreadsFlow d1 then d1
    else (List.range 8).foldl (fun x n =>
      if framing x n then frameInstant n k (some word) (frameGap n (k - (x.eng n).frmK) x) else x) d1

/-- A lane has accepted a sample (R435, R436): its RAWHIST word, its position and its instant. -/
def capRaw (lane p : Nat) (w : Word32) (i : Inst) (d : Dev) : Dev :=
  if !d.up islCap then d
  else
    let skew := sint 32 (d.getN Reg.T_LANE.CAL_SKEW lane)
    rawSample lane p ((defsOf d 3).foldl (fun x k =>
      if x.getN Reg.T_CTRIG.INDEX k = lane then defValue k w false i skew x else x) d)

/-- A rule has an edge (R435). -/
def capRule (rule : Nat) (rising : Bool) (i : Inst) (d : Dev) : Dev :=
  if !d.up islCap then d
  else (defsOf d 2).foldl (fun x k =>
    let c := x.getN Reg.T_CTRIG.COND k
    if x.getN Reg.T_CTRIG.INDEX k = rule ∧ (c = 2 ∨ (c = 0 ∧ rising) ∨ (c = 1 ∧ !rising)) then defFire k i x else x) d

/-- CAP_SWTRIG is written (R435, R436). -/
def softwareTrigger (t : Time) (v : Word32) (d : Dev) : Dev :=
  let k := bits v.toNat 0 8
  if bitOf v 31 && d.onN Reg.T_CTRIG.VALID k && d.getN Reg.T_CTRIG.SRC k == 4 then defFire k (qInst t.qns) d else d

def execSoftwareTrigger (v : Word32) (s : State) : Host.Outcome State Fault Refusal :=
  run s fun t d => onWrite 0xE0010 (softwareTrigger t v) d

/-! ## Engines (R440 to R447) -/

def pretriggerFull (t : Time) (n : Nat) (d : Dev) : Dev :=
  if n < 8 ∧ engState d n = 2 ∧ (d.eng n).armT + d.getN Reg.CAP_ENGn_PRE.MS n * 1000000 ≤ t.ns then
    setEng n 3 (catchUp t n d)
  else d

def execPretriggerFull (eng : Nat) (s : State) : Host.Outcome State Fault Refusal :=
  run s fun t d => pretriggerFull t eng d

/-- The highest block rate among an engine's channels: blocks per second (R443). -/
def blockRate (e : CapEng) : Nat := (e.chans.map fun c => c.rate / max 1 c.avg).foldl max 0

/-- The first trigger on its way reaches the engine (R441, R443). -/
def captureTrigger (t : Time) (n : Nat) (d : Dev) : Dev :=
  match (d.eng n).inbox with
  | [] => d
  | (k, i) :: rest =>
    let d1 := d.modEng n fun e => { e with inbox := rest }
    let st := engState d n
    let slot := i.slot (blockRate (d.eng n))
    if st = 3 then
      (setEng n 4 (d1.modEng n fun e => { e with collAt := some t.loc, collK := slot, defs := [(k, i)] })).cause
        intCap 1 n 0
    else if st = 4 ∧ slot = (d.eng n).collK ∧
        ((d.eng n).collAt.any fun a => decide (t.loc ≤ a + d.getN Reg.CAP_ENGn_CFG.COLLECT n * 1000)) then
      d1.modEng n fun e => { e with defs := if e.defs.any (fun x => x.1 == k) then e.defs else e.defs ++ [(k, i)] }
    else if st = 0 then d1
    else
      let d2 := d1.sat Reg.CAP_ENGn_IGN.N n
      if st = 4 then d2.modEng n fun e => { e with tlater := min (e.tlater + 1) 0xFFFF } else d2

def execCaptureTrigger (eng : Nat) (s : State) : Host.Outcome State Fault Refusal :=
  run s fun t d => if eng < 8 then captureTrigger t eng d else d

/-- Pre-trigger blocks of a frame channel out of the circular area, in time order (R445, R446). -/
def framePre (n c : Nat) (d : Dev) : Dev :=
  match (d.eng n).chans[c]? with
  | none => d
  | some ch =>
    match ch.circ with
    | none => d
    | some (lo, hi) =>
      let base := sliceWord d n + ch.base
      let r := (List.range (hi + 1 - ch.first)).foldl (fun (acc : List (Word32 × Bool) × Dev) i =>
        let b := ch.first + i
        if b < lo ∨ b + ch.ntot ≤ hi then (acc.1 ++ [(wMissing, true)], acc.2)
        else
          let (ws, x) := partRead partCapture (base + b % max 1 ch.ntot) 1 acc.2
          (acc.1 ++ [(ws.getD 0 wMissing, false)], x)) ([], d)
      let d1 := if r.1.any fun e => e.2 then r.2.modEng n fun e => { e with histShort := true } else r.2
      ((List.range r.1.length).zip (r.1.take ch.ntot)).foldl (fun x e => recordBlock n c (ch.first + e.1) e.2.1 x) d1

/-- The collection ends (R443 to R446): the primary trigger and t_trig are fixed, and every block already at hand is
recorded. -/
def collectionClose (t : Time) (n : Nat) (d0 : Dev) : Dev :=
  match (d0.eng n).collAt with
  | none => d0
  | some a =>
    if engState d0 n ≠ 4 ∨ t.loc - a < d0.getN Reg.CAP_ENGn_CFG.COLLECT n * 1000 then d0
    else
      let d := catchUp t n d0
      match (d.eng n).defs with
      | [] => engIdle n d
      | e0 :: es =>
        let prim := es.foldl (fun m e => if e.1 < m.1 then e else m) e0
        let fix (ch : CapChan) : CapChan :=
          let tb := prim.2.slotUp (ch.rate / max 1 ch.avg)
          { ch with first := tb - ch.npre, next := tb - ch.npre }
        let d1 := d.modEng n fun e => { e with collAt := none, trig := some prim.2, chans := e.chans.map fix }
        (List.range (d1.eng n).chans.length).foldl (fun x c =>
          match (x.eng n).chans[c]? with
          | none => x
          | some ch =>
            if ceKind ch.entry = 1 then
              match (regionOf x (ceIndex ch.entry)).bind CapRegion.head with
              | some p => rawAdvance (ch.ntot + 1) n c p x
              | none => x
            else framePre n c x) d1

def execCollectionClose (eng : Nat) (s : State) : Host.Outcome State Fault Refusal :=
  run s fun t d => if eng < 8 then collectionClose t eng d else d

/-- The record header (Tables CAP-8 and CAP-9). -/
def capHeader (t : Time) (n : Nat) (d : Dev) : List Byte :=
  let e := d.eng n
  let q := (e.trig.getD ⟨0, 1⟩).q
  let prim := e.defs.foldl (fun m x => min m x.1) 255
  let len := 4096 + recordPayload e.chans
  let v := e.viol.getD (0xFFFF, 0, 0)
  let flags := b2n e.viol.isSome + 2 * b2n e.histShort + 8 * b2n e.late + 32 * b2n e.noSpread
  let trig := ((List.range 256).filter fun k => e.defs.any fun x => x.1 == k).foldl (fun m k => m + 2 ^ k) 0
  let chan (c : CapChan) : List Byte :=
    let s0 := c.first * c.avg
    le 8 c.entry ++ le 6 (s0 / max 1 c.rate) ++ le 4 (s0 % max 1 c.rate) ++ le 2 0 ++ le 4 c.rate ++ le 4 c.npre ++
      le 4 c.ntot
  let b := tk80Bytes (q / 4) ++ le 1 (q % 4) ++ le 1 n ++ le 2 prim ++ le 2 e.defs.length ++ le 4 len ++
    le 4 (e.seq % 2 ^ 32) ++ le 4 (e.armT % 2 ^ 32) ++ le 4 t.st32 ++ le 2 e.chans.length ++ le 2 e.tlater ++ le 2 v.1 ++
    le 2 v.2.1 ++ le 4 v.2.2 ++ le 4 (d.getN Reg.CAP_ENGn_PRE.MS n) ++ le 4 (d.getN Reg.CAP_ENGn_POST.MS n) ++
    le 2 (d.getN Reg.CAP_ENGn_AVG.RAW n) ++ le 2 (d.getN Reg.CAP_ENGn_AVG.FRM n) ++ le 1 flags
  slice (slice b 0 128 ++ le 32 trig ++ (e.chans.map chan).flatten) 0 4096

/-- The slice is released (R453): IDLE, or armed again. -/
def engRelease (t : Time) (n : Nat) (rearm : Bool) (d : Dev) : Dev :=
  let d1 := engIdle n d
  if rearm && d.onN Reg.CAP_ENGn_CFG.REARM n then engArmCheck t n false d1 else d1

/-- Words as they lie in memory. -/
def headerWords (b : List Byte) : List Word32 :=
  (List.range 1024).map fun i => BitVec.ofNat 32 (leVal (slice b (4 * i) 4))

/-- Every channel has its last block (R447, R451). -/
def captureComplete (t : Time) (n : Nat) (d0 : Dev) : Dev :=
  let d := catchUp t n d0
  let e := d.eng n
  if !posting d n || e.chans.any (fun c => decide (c.next < c.first + c.ntot)) then d
  else
    let d1 := partWrite partCapture (sliceWord d n) (headerWords (capHeader t n d)) d
    let d2 := ((d1.modEng n fun e => { e with
      seq := e.seq + 1, doneT := t.ns, len := 4096 + recordPayload e.chans, pos := 0 }).sat Reg.CAP_ENGn_CNT.N n).cause
        intCap 2 n 0
    if e.viol.isSome && d.onN Reg.CAP_ENGn_CFG.MASKSTOP n then setEng n 6 d2
    else if e.viol.isNone && d.onN Reg.CAP_ENGn_CFG.PASS_DROP n then
      engRelease t n true (d2.sat Reg.CAP_CNT_PASSDROP.N)
    else setEng n 5 d2

def execCaptureComplete (eng : Nat) (s : State) : Host.Outcome State Fault Refusal :=
  run s fun t d => if eng < 8 then captureComplete t eng d else d

/-! ## Delivery (R452, R453) -/

/-- The next bytes of a record go into the next posted buffer (R452). -/
def captureDeliver (n : Nat) (d : Dev) : Dev :=
  let e := d.eng n
  let r := d.getN Reg.CAP_ENGn_CFG.RING n
  if !((engState d n == 5 || engState d n == 6) && d.onN Reg.CAP_ENGn_CFG.DELIVER n && decide (e.pos < e.len) &&
      ringIs d r clsCapt && ringFree d r) then d
  else match (d.ring r).posted with
    | [] => d
    | b :: _ =>
      let k := min b.len (e.len - e.pos)
      let w0 := e.pos / 4
      let nw := (e.pos + k + 3) / 4 - w0
      let bad := (List.range nw).any fun i => hBad d (sliceWord d n + w0 + i)
      let down := (List.range nw).any fun i => !hUp d (sliceWord d n + w0 + i)
      let (ws, d1) := partRead partCapture (sliceWord d n + w0) nw d
      let bytes := slice ((ws.map fun w => le 4 w.toNat).flatten) (e.pos % 4) k
      let more := decide (e.pos + k < e.len)
      (deliverSt r bytes (List.replicate 16 0) more (if down then stAborted else if bad then stParity else stOk)
        d1).2.modEng n fun x =>
        { x with pos := x.pos + k }

def execCaptureDeliver (eng : Nat) (s : State) : Host.Outcome State Fault Refusal :=
  run s fun _ d => if eng < 8 then captureDeliver eng d else d

/-- The last byte has been delivered, or REL is written while DELIVER = 0 (R453). -/
def captureRelease (t : Time) (n : Nat) (d : Dev) : Dev :=
  let st := engState d n
  let e := d.eng n
  if (st = 5 ∨ st = 6) ∧ (if d.onN Reg.CAP_ENGn_CFG.DELIVER n then e.pos = e.len else True) then
    engRelease t n (st == 5) d
  else d

def execCaptureRelease (eng : Nat) (s : State) : Host.Outcome State Fault Refusal :=
  run s fun t d => if eng < 8 then onWrite 0xE0100 (captureRelease t eng) d else d

/-- DISARM is written with 1 (R442). -/
def captureDisarm (n : Nat) (d : Dev) : Dev := if engState d n = 5 then d else engIdle n d

def execCaptureDisarm (eng : Nat) (s : State) : Host.Outcome State Fault Refusal :=
  run s fun _ d => if eng < 8 then onWrite 0xE0100 (captureDisarm eng) d else d

end Sys2Proof.Machine
end

