-- ==== Sys2Proof/Machine/Trig.lean ====
section
/-!
DEFINITION. Sine, cosine and arc tangent: worked out in fixed point with 128 fraction bits and rounded once, and the wrap of
angles in degrees into (−180, 180] (R339, R344, R345, R393).
-/

namespace Sys2Proof.Machine

open Sys2Proof

/-- 2^128, the unit of the fixed-point numbers of this file. -/
def fxOne : Nat := 2 ^ 128

/-- π × 2^130. -/
def fxPi4 : Nat := 4276114336259866991438721492647483133202

/-- The product of two fixed-point numbers. -/
def fxMul (a b : Nat) : Nat := a * b / fxOne

/-- 1 − x²/(k(k+1)) (1 − x²/((k+2)(k+3)) (…)), x² given: the bracket of the sine (k = 2) or cosine (k = 1) series. -/
def fxSeries (x2 : Nat) : Nat → Nat → Nat
  | 0, _ => fxOne
  | n + 1, k => fxOne - fxMul (x2 / (k * (k + 1))) (fxSeries x2 n (k + 2))

/-- Cosine and sine of num ÷ den turns, in units of 2^-128. -/
def fxCosSin (num den : Nat) : Int × Int :=
  let q := 4 * num / max 1 den % 4
  let r := 4 * num % max 1 den
  let th := fxPi4 * r / (8 * max 1 den)
  let x2 := fxMul th th
  let s : Int := (fxMul th (fxSeries x2 24 2) : Nat)
  let c : Int := (fxSeries x2 24 1 : Nat)
  match q with
  | 0 => (c, s)
  | 1 => (-s, c)
  | 2 => (-c, -s)
  | _ => (s, -c)

/-- A fixed-point number as an exact value. -/
def fxNum (x : Int) : Num := .fin (decide (x < 0)) x.natAbs (-128)

/-- Cosine and sine of a signed number of turns, each rounded to binary64. -/
def cosSinTurns (num : Int) (den : Nat) : Num × Num :=
  let m := (num % (den : Int)).toNat
  let (c, s) := fxCosSin m den
  (rnd64 (fxNum c), rnd64 (fxNum s))

/-- x − x³/3 + x⁵/5 − … from the term of index k on, divided by x: n terms. -/
def fxAtanSeries (x2 : Nat) : Nat → Nat → Nat
  | 0, k => fxOne / k
  | n + 1, k => fxOne / k - fxMul x2 (fxAtanSeries x2 n (k + 2))

/-- The arc tangent of y ÷ x, 0 ≤ y ≤ x, x > 0, in units of 2^-128. -/
def fxAtan (y x : Nat) : Nat :=
  let small (t : Nat) : Nat := fxMul t (fxAtanSeries (fxMul t t) 52 1)
  if y * 1000 ≤ x * 414 then small (y * fxOne / x)
  else fxPi4 / 16 - small ((x - y) * fxOne / (x + y))

/-- The angle of (re, im), not both 0, in degrees in units of 2^-128. -/
def fxAtan2Deg (im re : Int) : Int :=
  let y := im.natAbs
  let x := re.natAbs
  let a := if y ≤ x then fxAtan y x else fxPi4 / 8 - fxAtan x y
  let deg : Int := (a * 180 * 4 * fxOne / fxPi4 : Nat)
  let d1 := if re < 0 then 180 * (fxOne : Int) - deg else deg
  if im < 0 then -d1 else d1

/-- The angle of (re, im), not both 0, in radians in units of 2^-128. -/
def fxAtan2 (im re : Int) : Int :=
  let y := im.natAbs
  let x := re.natAbs
  let a : Int := (if y ≤ x then fxAtan y x else fxPi4 / 8 - fxAtan x y : Nat)
  let d1 := if re < 0 then (fxPi4 / 4 : Nat) - a else a
  if im < 0 then -d1 else d1

/-- 2π × 2^400. -/
def twoPi400 : Nat :=
  0x6487ed5110b4611a62633145c06e0e68948127044533e63a0105df531d89cd9128a5043cc71a026ef7ca8cd9e69d218d98158

/-- π as a binary64. -/
def dPi : Num := num64 0x400921FB54442D18#64

/-- √2 as a binary64. -/
def dSqrt2 : Num := num64 0x3FF6A09E667F3BCD#64

/-- Cosine and sine of an angle in radians, each rounded to binary64. Below 2^-30 the nearest values are 1 and the angle. -/
def cosSinRad (x : Num) : Num × Num :=
  match x with
  | .fin _ _ _ =>
    let (n, den) := x.frac
    if n.natAbs * 2 ^ 30 < den then (.one, x)
    else
      let (c, s) := cosSinTurns (n * (2 ^ 400 : Nat)) (den * twoPi400)
      (c, s)
  | _ => (.nan, .nan)

/-- A quotient rounded to nearest, ties to even. -/
def divEven (a : Int) (n : Nat) : Int :=
  let m := max 1 n
  let q := a / (m : Int)
  let r := a % (m : Int)
  if (m : Int) < 2 * r ∨ (2 * r = (m : Int) ∧ q % 2 = 1) then q + 1 else q

/-- Is the value zero? -/
def Num.isZero : Num → Bool
  | .fin _ m _ => m == 0
  | _ => false

/-- An infinity beside finite parts decides the angle alone. -/
def numUnit (x : Num) (other : Num) : Num :=
  match x with
  | .inf s => .fin s 1 0
  | y => if other.isInf then .zero else y

/-- atan2(im, re) in degrees, in (−180, 180], rounded to binary64; 0 at the origin. -/
def atan2Deg (im re : Num) : Num :=
  if im.isNan || re.isNan then .nan
  else
    let i := numUnit im re
    let r := numUnit re im
    let (ni, di) := i.frac
    let (nr, dr) := r.frac
    if ni = 0 ∧ nr = 0 then .zero
    else if ni = 0 then if nr < 0 then Num.ofInt 180 else .zero
    else
      let x := rnd64 (fxNum (fxAtan2Deg (ni * dr) (nr * di)))
      if x = Num.ofInt (-180) ∨ Num.le x (Num.ofInt (-180)) then Num.ofInt 180 else x

/-- The argument of (re, im) in radians, in (−π, π], rounded to binary64; 0 at the origin. -/
def argRad (im re : Num) : Num :=
  if im.isNan || re.isNan then .nan
  else
    let (ni, di) := (numUnit im re).frac
    let (nr, dr) := (numUnit re im).frac
    if ni = 0 ∧ nr = 0 then .zero else rnd64 (fxNum (fxAtan2 (ni * dr) (nr * di)))

/-- x less the multiple of 360 that brings it into (−180, 180], rounded to binary64. -/
def wrap180 (x : Num) : Num :=
  match x with
  | .fin _ _ _ =>
    let (n, d) := x.frac
    let k := -((180 * (d : Int) - n) / (360 * (d : Int)))
    rnd64 (Num.add x (Num.ofInt (-360 * k)))
  | _ => .nan

end Sys2Proof.Machine
end

