-- ==== Sys2Proof/Machine/Operands.lean ====
section
/-!
DEFINITION. Spread regions in the ALIGN partition, and the values of operand words: what rules, pairs, detectors and modal
lanes read (R211 to R217, R339 to R341, Table RUL-2).
-/

namespace Sys2Proof.Machine

open Sys2Proof

/-! ## The spread grid (R211) -/

/-- The TK80 instant, as a count of nanoseconds, that lies k periods of rate R after the epoch, to the nearest
nanosecond. -/
def instNs (k r : Nat) : Nat := (2 * k * 1000000000 + r) / (2 * max 1 r)

/-- Frames per second of a source's entry. -/
def srcRate (d : Dev) (s : Nat) : Nat := rateOf (d.getN Reg.T_SRC.RATE s)

def srcType (d : Dev) (s : Nat) : Nat := d.getN Reg.T_SRC.TYPE s

/-- The source is valid, has a region and words, and its rate divides R (R212 to R214). -/
def srcAligned (d : Dev) (s : Nat) : Bool :=
  let r := srcRate d s
  let rsv := d.getN Reg.T_ATTR.RSV s
  let w := d.getN Reg.T_SRC.WORDS s
  d.onN Reg.T_SRC.VALID s && decide (1 ≤ srcType d s) && decide (srcType d s ≤ 5) && r != 0 && spreadRate d % r == 0 &&
    rsv != 0 && w != 0 && decide (w ≤ rsv)

/-- Is the source due k periods after the epoch? -/
def srcDue (d : Dev) (k s : Nat) : Bool := srcAligned d s && k % (spreadRate d / max 1 (srcRate d s)) == 0

/-! ## Regions in the Hamper (R213, R216, Tables ALN-2, ALN-3, HMP-5) -/

def flMissing : Nat := 1
def flLate : Nat := 2
def flFuture : Nat := 4
def flInvalid : Nat := 8
def flParity : Nat := 16
def flTq : Nat := 32

/-- First word of the region of source s in the spread k. -/
def regionWord (d : Dev) (k s : Nat) : Nat :=
  partWord d partAlign + (k % max 1 (d.get Reg.ALN_DEPTH.D)) * (d.get Reg.ALN_SIZE.S / 4) + d.getN Reg.T_ATTR.OFFSET s / 4

/-- Write a region: its header and its words. -/
def writeRegion (k : Nat) (r : Region) (d : Dev) : Dev :=
  partWrite partAlign (regionWord d k r.src)
    ([BitVec.ofNat 32 (r.src + r.stat % 2 ^ 16 * 2 ^ 16), BitVec.ofNat 32 r.arr,
      BitVec.ofNat 32 (r.flags % 2 ^ 16 + r.words.length * 2 ^ 16), 0] ++ r.words) d

/-- Read a region. A header word with a lasting fault spoils the whole region, a measurement word only itself
(Table HMP-5). A header that a quadrant in reset, or a partition moved since, keeps from the reader leaves the count of words to
the entry. -/
def readRegion (k s : Nat) (d : Dev) : Region × Dev :=
  let a := regionWord d k s
  let badHdr := (List.range 4).any fun i => hBad d (a + i)
  let here := (List.range 4).all fun i => hUp d (a + i) && inPart d partAlign (a + i)
  let (h, d1) := partRead partAlign a 4 d
  let w (i : Nat) : Nat := (h.getD i 0).toNat
  let n := min (d.getN Reg.T_SRC.WORDS s) (d.getN Reg.T_ATTR.RSV s)
  if !here then
    let (ws, d2) := partRead partAlign (a + 4) n d1
    (⟨s, w 0 / 2 ^ 16, w 1, w 2 % 2 ^ 16, ws⟩, d2)
  else if badHdr then
    (⟨s, (w 0 / 2 ^ 16) ||| 0xC000, w 1, flParity, List.replicate n wParity⟩, d1)
  else
    let n := w 2 / 2 ^ 16
    let badW := (List.range n).any fun i => hBad d (a + 4 + i)
    let (ws, d2) := partRead partAlign (a + 4) n d1
    let fl := w 2 % 2 ^ 16
    (⟨s, w 0 / 2 ^ 16, w 1, if badW then fl ||| flParity else fl, ws⟩, d2)

/-- Read the regions of several sources. -/
def readRegions (k : Nat) : List Nat → Dev → List Region × Dev
  | [], d => ([], d)
  | s :: ss, d =>
    let (r, d1) := readRegion k s d
    let (rs, d2) := readRegions k ss d1
    (r :: rs, d2)

/-- The bytes of a region (Table ALN-2). -/
def Region.bytes (r : Region) : List Byte :=
  le 2 r.src ++ le 2 r.stat ++ le 4 r.arr ++ le 2 r.flags ++ le 2 r.words.length ++ le 4 0 ++
    (r.words.map fun w => le 4 w.toNat).flatten

/-! ## Values -/

/-- A word as a value. -/
def wordVal (w : Word32) : RVal := if isNan32 w then .bad (codeOf w) else .num (to64 (num32 w))

/-- A binary64 result as a value. -/
def rval (x : Num) : RVal := if x.isNan then .bad wInvalid else .num (to64 x)

def lowCode (a b : Word32) : Word32 := if a.toNat ≤ b.toNat then a else b

/-- A function of two values; the lowest code wins (R10). -/
def RVal.map2 (f : Num → Num → Num) (a b : RVal) : RVal :=
  match a, b with
  | .num x, .num y => rval (f (num64 x) (num64 y))
  | .bad c, .num _ => .bad c
  | .num _, .bad c => .bad c
  | .bad c, .bad e => .bad (lowCode c e)

def RVal.map (f : Num → Num) : RVal → RVal
  | .num x => rval (f (num64 x))
  | .bad c => .bad c

def RVal.isNum : RVal → Bool
  | .num _ => true
  | .bad _ => false

/-- The value as a number; NaN where there is none. -/
def RVal.get : RVal → Num
  | .num x => num64 x
  | .bad _ => .nan

/-- The value rounded to binary32, or its code. -/
def RVal.w32 : RVal → Word32
  | .num x => to32 (num64 x)
  | .bad c => c

def rOne : RVal := .num (to64 .one)
def rZero : RVal := .num 0
def rBit (b : Bool) : RVal := if b then rOne else rZero

/-- Widen a binary32 field exactly. -/
def numF (v : Nat) : Num := b32.num v

/-! ## Operand words (R339) -/

def opKind (o : Nat) : Nat := bits o 0 4
def opIndex (o : Nat) : Nat := bits o 4 12
def opWord (o : Nat) : Nat := bits o 16 6

/-- What operands read beside region words. -/
structure OpEnv where
  region : Nat → Option Region
  areaF : Nat → RVal
  areaA : Nat → RVal
  pairDf : Nat → RVal
  pairDa : Nat → RVal
  nIsl : Nat
  isl : Nat → Nat
  refArea : Nat
  env : Nat → RVal
  det : Nat → RVal
  rule : Nat → Bool
  modal : Nat → RVal
  remote : Nat → Bool

/-- Word w of a region; a word beyond WCOUNT is missing. -/
def Region.word (r : Region) (w : Nat) : Word32 := r.words.getD w wMissing

/-- The words of an operand on a source, as a function of them (R340, R341). -/
def regionVal (rejTq : Bool) (r : Option Region) (ws : List Nat) (f : List Num → Num) : RVal :=
  match r with
  | none => .bad wMissing
  | some g =>
    if rejTq && g.flags.testBit 5 then .bad wInvalid
    else
      let xs := ws.map g.word
      match lowestCode (xs.map fun w => if isNan32 w then codeOf w else w) with
      | some c => .bad c
      | none => rval (f (xs.map num32))

/-- The magnitude of a phasor. -/
def magnitude (re im : Num) : Num := dSqrt (dAdd (dMul re re) (dMul im im))

/-- The value of an operand (Table RUL-2). -/
def opVal (e : OpEnv) (rejTq : Bool) (o : Nat) : RVal :=
  let i := opIndex o
  let w := opWord o
  let at_ (l : List Num) (k : Nat) : Num := l.getD k .nan
  match opKind o with
  | 0 => rZero
  | 1 => regionVal rejTq (e.region i) [w] fun l => at_ l 0
  | 2 => regionVal rejTq (e.region i) [w, w + 1] fun l => magnitude (at_ l 0) (at_ l 1)
  | 3 => regionVal rejTq (e.region i) [w, w + 1] fun l => atan2Deg (at_ l 1) (at_ l 0)
  | 4 => e.areaF i
  | 5 => e.areaA i
  | 6 => e.pairDf i
  | 7 => e.pairDa i
  | 8 => .num (to64 (Num.ofInt e.nIsl))
  | 9 => if e.isl i = 64 ∨ e.isl e.refArea = 64 then .bad wInvalid else rBit (e.isl i != e.isl e.refArea)
  | 10 => e.env i
  | 11 => e.det i
  | 12 => rBit (e.rule i)
  | 13 => e.modal i
  | 14 => rBit (e.remote i)
  | _ => .bad wInvalid

/-- Does the operand name a source, and which? -/
def opSource (o : Nat) : Option Nat := if 1 ≤ opKind o ∧ opKind o ≤ 3 then some (opIndex o) else none

/-- The operand's sources are all due. -/
def opsDue (due : List Nat) (os : List Nat) : Bool :=
  os.all fun o => match opSource o with
    | some s => due.contains s
    | none => true

/-- Is the operand inside the ranges of its kind (Table RUL-2)? -/
def opOk (o : Nat) : Bool :=
  let i := opIndex o
  bits o 22 10 == 0 &&
    (match opKind o with
     | 0 => true
     | 1 => decide (i < 512)
     | 2 => decide (i < 512) && decide (opWord o < 63)
     | 3 => decide (i < 512) && decide (opWord o < 63)
     | 4 => decide (i < 64)
     | 5 => decide (i < 64)
     | 6 => decide (i < 2016)
     | 7 => decide (i < 2016)
     | 8 => true
     | 9 => decide (i < 64)
     | 10 => decide (i < 1024)
     | 11 => decide (i < 1024)
     | 12 => true
     | 13 => decide (i < 64)
     | 14 => decide (i < 256)
     | _ => false)

/-- The value in a result slot as rules read it (R340, R414, R415). -/
def slotVal (d : Dev) (i : Nat) : RVal :=
  if d.get Reg.GLB_SPLIT.MODAL ≠ 1 ∨ !d.on Reg.MOD_STATUS.RUN then .bad wInvalid
  else wordVal (BitVec.ofNat 32 (d.getN Reg.T_MSLOTV.V i))

end Sys2Proof.Machine
end

