-- ==== Sys2Proof/Machine/Areas.lean ====
section
/-!
DEFINITION. The steps of a rule pass in one engine: area values, pairs, islands, quick detectors and rules (the chapter on
rules, R336 to R360). Each engine reads its own copy of the tables.
-/

namespace Sys2Proof.Machine

open Sys2Proof

/-! ## Table copies -/

/-- A table word as an engine's copy holds it. -/
def tblWord (d : Dev) (e1 : Bool) (a : Nat) : Word32 :=
  if e1 then (fmLook d.rul.copy1 a).getD (d.word a) else d.word a

/-- A field of a table entry in an engine's copy. -/
def eget (d : Dev) (e1 : Bool) (f : Field) (i : Nat) : Nat := f.ofWord (tblWord d e1 (f.reg.addr i))

def eon (d : Dev) (e1 : Bool) (f : Field) (i : Nat) : Bool := eget d e1 f i != 0

/-! ## What operands read (R340, R356) -/

/-- A value that only counts while its item is valid. -/
def badUnless (ok : Bool) (v : RVal) : RVal :=
  if ok then v else match v with
    | .bad c => .bad c
    | .num _ => .bad wInvalid

/-- Area i as operands read it; an area that is not in use has no values. -/
def areaRead (e : EngV) (i : Nat) (f : AreaV → RVal) : RVal := badUnless (tget e.areas i).valid (f (tget e.areas i))

def pairRead (d : Dev) (e1 : Bool) (e : EngV) (k : Nat) (f : PairV → RVal) : RVal :=
  if eon d e1 Reg.T_PAIR.EN k then badUnless ((tget e.pairs k).state != 0) (f (tget e.pairs k)) else .bad wInvalid

def detRead (d : Dev) (e1 : Bool) (e : EngV) (q : Nat) (f : DetV → RVal) : RVal :=
  if !eon d e1 Reg.T_QDET.VALID q then .bad wInvalid
  else if (tget e.dets q).settle != 0 then .bad wSettling
  else f (tget e.dets q)

/-- What operands read in one engine. -/
def engEnv (d : Dev) (e1 : Bool) (e : EngV) : OpEnv where
  region s := tget d.rul.latest s
  areaF i := areaRead e i fun v => v.f
  areaA i := areaRead e i fun v => v.a
  pairDf k := pairRead d e1 e k fun v => v.df
  pairDa k := pairRead d e1 e k fun v => v.da
  nIsl := e.nIsl
  isl i := e.isl.getD i 64
  refArea := d.get Reg.RUL_ISL.REF_AREA
  env q := detRead d e1 e q fun v => v.env
  det q := detRead d e1 e q fun v => rBit v.active
  rule r := (tget e.rules r).active
  modal i := slotVal d i
  remote k := d.onN Reg.T_RASTAT.STATE k

/-! ## Areas (R343, R344) -/

/-- The sums over the members of an area: valid members, Σw, Σwf, Σw·re÷|p|, Σw·im÷|p|, and the invalid codes met. -/
structure AreaSum where
  n : Nat
  w : Num
  wf : Num
  re : Num
  im : Num
  codes : List Word32
  deriving Repr

/-- One member joins the sums, or gives its invalid code. -/
def areaMember (d : Dev) (e1 rej : Bool) (m : Nat) (a : AreaSum) : AreaSum :=
  let p := eget d e1 Reg.T_MEMBER.PWORD m
  let spoiled (c : Word32) : AreaSum := { a with codes := a.codes ++ [c] }
  match tget d.rul.latest (eget d e1 Reg.T_MEMBER.SRC m) with
  | none => spoiled wMissing
  | some g =>
    if rej && g.flags.testBit 5 then spoiled wInvalid
    else
      let ws := [g.word p, g.word (p + 1), g.word (eget d e1 Reg.T_MEMBER.FWORD m)]
      match lowestCode (ws.map fun w => if isNan32 w then codeOf w else w) with
      | some c => spoiled c
      | none =>
        let re := num32 (ws.getD 0 0)
        let im := num32 (ws.getD 1 0)
        let mag := magnitude re im
        if mag.isZero then spoiled wInvalid
        else
          let w := numF (eget d e1 Reg.T_MEMBER.WEIGHT m)
          { a with
            n := a.n + 1, w := dAdd a.w w, wf := dAdd a.wf (dMul w (num32 (ws.getD 2 0)))
            re := dAdd a.re (dDiv (dMul w re) mag), im := dAdd a.im (dDiv (dMul w im) mag) }

/-- An area's values. -/
def areaStep (d : Dev) (e1 : Bool) (a : Nat) : AreaV :=
  if !eon d e1 Reg.T_AREA.VALID a then default
  else
    let first := eget d e1 Reg.T_AREA.FIRST a
    let s := (List.range (eget d e1 Reg.T_AREA.COUNT a)).foldl
      (fun x j => areaMember d e1 (eon d e1 Reg.T_AREA.REJ_TQ a) (first + j) x) ⟨0, .zero, .zero, .zero, .zero, []⟩
    if s.n < max 1 (eget d e1 Reg.T_AREA.MIN_VALID a) then
      let c := s.codes.foldl lowCode (s.codes.headD wInvalid)
      ⟨false, s.n, .bad c, .bad c⟩
    else ⟨true, s.n, rval (dDiv s.wf s.w), rval (atan2Deg s.im s.re)⟩

/-! ## Pairs (R345, R346, Table RUL-6) -/

/-- The areas of pair k. -/
def pairAreas (k : Nat) : Nat × Nat :=
  let a := ((List.range 63).filter fun a => decide (a * (127 - a) / 2 ≤ k)).length - 1
  (a, k - a * (127 - a) / 2 + a + 1)

/-- |x| ≥ y; false where x is not a number. -/
def absGe (x y : Num) : Bool := y.le x.abs

/-- R345: does the evaluation depart? -/
def pairDeparts (df da base dfThr daThr : Num) : Bool :=
  (!dfThr.isZero && absGe df dfThr) || (!daThr.isZero && absGe (wrap180 (dSub da base)) daThr)

/-- The state of a pair after an evaluation with both areas valid (Table RUL-6). -/
def pairNext (nSep nClr : Nat) (dfThr daThr : Num) (p : PairV) : PairV :=
  let df := p.df.get
  let dep := pairDeparts df p.da.get p.base.get dfThr daThr
  let neg := Num.lt df .zero
  match p.state with
  | 0 => if p.was then { p with state := 3, was := false } else { p with state := 1, base := p.da }
  | 1 =>
    if !dep then { p with base := p.da }
    else if nSep ≤ 1 then { p with state := 3, count := 0, neg := neg }
    else { p with state := 2, count := 1, neg := neg }
  | 2 =>
    if dep && !(absGe df dfThr && neg != p.neg) then
      if nSep ≤ p.count + 1 then { p with state := 3, count := 0 } else { p with count := p.count + 1 }
    else { p with state := 1, count := 0 }
  | _ =>
    if Num.lt df.abs (Num.mul dfThr (.fin false 1 (-1))) then
      if nClr ≠ 0 ∧ nClr ≤ p.count + 1 then { p with state := 1, count := 0, base := p.da }
      else { p with count := min 255 (p.count + 1) }
    else { p with count := 0 }

/-- A pair that gets an invalid input. -/
def pairInvalid (df da : RVal) (p : PairV) : PairV :=
  { p with state := 0, was := p.state == 3 || (p.state == 0 && p.was), count := 0, df := df, da := da }

/-- The step of pair k. -/
def pairStep (d : Dev) (e1 : Bool) (e : EngV) (k : Nat) : PairV :=
  if !eon d e1 Reg.T_PAIR.EN k then default
  else
    let (a, b) := pairAreas k
    let both := (tget e.areas a).valid && (tget e.areas b).valid
    let rd (i : Nat) (f : AreaV → RVal) : RVal := areaRead e i f
    let df := RVal.map2 dSub (rd a fun v => v.f) (rd b fun v => v.f)
    let da := RVal.map2 (fun x y => wrap180 (dSub x y)) (rd a fun v => v.a) (rd b fun v => v.a)
    let p := { tget e.pairs k with df := df, da := da }
    if !both then pairInvalid df da p
    else if eon d e1 Reg.T_PAIR.TIE_EN k && (tget e.rules (eget d e1 Reg.T_PAIR.TIE k)).active then
      { p with state := 3, was := false, count := 0 }
    else pairNext (eget d e1 Reg.T_PAIR.N_SEP k) (eget d e1 Reg.T_PAIR.N_CLR k) (numF (eget d e1 Reg.T_PAIR.DF_THR k))
      (numF (eget d e1 Reg.T_PAIR.DA_THR k)) p

/-! ## Islands (R347) -/

/-- Join two groups of areas: the higher number takes the lower. -/
def joinIsl (a b : Nat) (l : List Nat) : List Nat :=
  let x := l.getD a 64
  let y := l.getD b 64
  if x = 64 ∨ y = 64 ∨ x = y then l else l.map fun z => if z = max x y then min x y else z

/-- The island number of each area, 64 for none, and the number of islands. -/
def grouping (d : Dev) (e1 : Bool) (e : EngV) : List Nat × Nat :=
  let ks := (List.range 2016).filter fun k => eon d e1 Reg.T_PAIR.EN k
  let ps := ks.map fun k => (pairAreas k, (tget e.pairs k).state)
  let l0 := (List.range 64).map fun a =>
    if (tget e.areas a).valid && ps.any (fun p => p.1.1 == a || p.1.2 == a) then a else 64
  let l := (ps.filter fun p => p.2 == 1 || p.2 == 2).foldl (fun l p => joinIsl p.1.1 p.1.2 l) l0
  (l, ((List.range 64).filter fun a => l.getD a 64 == a).length)

/-! ## Quick detectors (R349 to R351) -/

def detSettle (d : Dev) (e1 : Bool) (q : Nat) : Nat := 2 ^ (eget d e1 Reg.T_QDET.KSH q + 2)

/-- A detector as it is after it becomes valid, and after a NaN input. -/
def detFresh (settle : Nat) : DetV := { (default : DetV) with settle := settle, env := .bad wSettling }

/-- One evaluation of detector q with the input x. -/
def detEval (d : Dev) (e1 : Bool) (q : Nat) (x : RVal) (v : DetV) : DetV :=
  match x with
  | .bad _ => detFresh (detSettle d e1 q)
  | .num xw =>
    let c (f : Field) : Num := numF (eget d e1 f q)
    let x := num64 xw
    let y := dSub (dSub (dSub (dMul (c Reg.T_QDET.B0) x) (dMul (c Reg.T_QDET.B0) (num64 v.x2)))
      (dMul (c Reg.T_QDET.A1) (num64 v.y1))) (dMul (c Reg.T_QDET.A2) (num64 v.y2))
    let e := num64 v.e2
    let e2 := dAdd e (dMul (.fin false 1 (-(eget d e1 Reg.T_QDET.KSH q : Int))) (dSub (dMul y y) e))
    let v1 := { v with x1 := xw, x2 := v.x1, y1 := to64 y, y2 := v.y1, e2 := to64 e2 }
    if v.settle ≠ 0 then { v1 with settle := v.settle - 1, hold := 0, active := false, env := .bad wSettling }
    else
      let env := dSqrt (dMul (Num.ofInt 2) e2)
      let thr := c Reg.T_QDET.THR
      let hold := if thr.le env then min 255 (v.hold + 1) else 0
      let act := if v.active then !Num.lt env (dMul thr (dSub .one (c Reg.T_QDET.HYST)))
        else decide (max 1 (eget d e1 Reg.T_QDET.HOLD q) ≤ hold)
      { v1 with hold := hold, active := act, env := rval env }

/-- The step of detector q. -/
def detStep (d : Dev) (e1 : Bool) (due : List Nat) (e : EngV) (q : Nat) : DetV :=
  let op := eget d e1 Reg.T_QDET.OP q
  let v := tget e.dets q
  if !eon d e1 Reg.T_QDET.VALID q then default
  else if opsDue due [op] then detEval d e1 q (opVal (engEnv d e1 e) false op) v
  else v

/-! ## Rules (R355 to R360) -/

/-- x of FUNC 4: the rate of change since the evaluation RATE_N evaluations earlier. -/
def rateX (r k n : Nat) (a : RVal) (hist : List (Nat × RVal)) : RVal :=
  match hist[n - 1]? with
  | none => .bad wSettling
  | some (k0, a0) =>
    RVal.map2 (fun x y => dDiv (dSub x y) (dDiv (Num.ofInt ((k : Int) - k0)) (Num.ofInt r))) a a0

/-- The quantity x of rule r (Table RUL-11). -/
def ruleX (d : Dev) (e1 : Bool) (e : EngV) (k r : Nat) : RVal :=
  let env := engEnv d e1 e
  let tq := eon d e1 Reg.T_RULE.REJ_TQ r
  let opa := eget d e1 Reg.T_RULE.OPA r
  let a := opVal env tq opa
  let b := opVal env tq (eget d e1 Reg.T_RULE.OPB r)
  match eget d e1 Reg.T_RULE.FUNC r with
  | 0 => a
  | 1 => RVal.map2 dSub a b
  | 2 => RVal.map2 (fun x y => wrap180 (dSub x y)) a b
  | 3 => a.map Num.abs
  | 4 => rateX (spreadRate d) k (eget d e1 Reg.T_RULE.RATE_N r) a (tget e.rules r).hist
  | _ =>
    match a with
    | .bad c => .bad c
    | .num _ =>
      let w := match env.region (opIndex opa) with
        | some g => g.word (opWord opa)
        | none => 0
      rBit ((w.toNat &&& eget d e1 Reg.T_RULE.LO r) % 2 ^ 16 != 0)

/-- Is the condition met (Table RUL-12)? -/
def condition (cmp : Nat) (hi lo hyst : Num) (active : Bool) (x : Num) : Bool :=
  let h := if active then hyst else .zero
  let up := dSub hi h
  let dn := dAdd lo h
  match cmp with
  | 0 => Num.lt up x
  | 1 => Num.lt x dn
  | 2 => Num.lt up x || Num.lt x dn
  | _ => (dSub lo h).le x && x.le (dAdd hi h)

/-- The gate of rule r is closed. -/
def gateClosed (d : Dev) (e1 : Bool) (e : EngV) (r : Nat) : Bool :=
  eon d e1 Reg.T_RULE.GATE_EN r &&
    ((tget e.rules (eget d e1 Reg.T_RULE.GATE r)).active == eon d e1 Reg.T_RULE.GATE_INV r)

/-- The outcome of an evaluation: met, not met, or neither (R358). -/
def ruleMet (d : Dev) (e1 : Bool) (e : EngV) (r : Nat) (x : RVal) (active : Bool) : Option Bool :=
  if gateClosed d e1 e r then some false
  else match x with
    | .num w => some (condition (eget d e1 Reg.T_RULE.CMP r) (numF (eget d e1 Reg.T_RULE.HI r))
        (numF (eget d e1 Reg.T_RULE.LO r)) (numF (eget d e1 Reg.T_RULE.HYST r)) active (num64 w))
    | .bad _ => match eget d e1 Reg.T_RULE.NANPOL r with
      | 0 => none
      | 1 => some false
      | _ => some true

/-- A rule's counters and state after an evaluation (R359). -/
def ruleCount (latch : Bool) (pickup dropout : Nat) (met : Bool) (v : RuleV) : RuleV :=
  if met then
    let pc := min 255 (v.pc + 1)
    { v with met := true, pc := pc, dc := 0, active := v.active || decide (max 1 pickup ≤ pc) }
  else
    let dc := if v.active then min 127 (v.dc + 1) else v.dc
    let off := v.active && (if latch then v.acked else decide (max 1 dropout ≤ dc))
    { v with met := false, pc := 0, dc := dc, active := v.active && !off, acked := v.acked && !off }

/-- The rate history takes a value (R357). -/
def pushHist (n k : Nat) (a : RVal) (v : RuleV) : RuleV := { v with hist := ((k, a) :: v.hist).take n }

/-- The step of rule r; a rule that is not evaluated holds (R355). -/
def ruleStep (d : Dev) (e1 : Bool) (k : Nat) (due : List Nat) (e : EngV) (r : Nat) : RuleV :=
  let v := tget e.rules r
  let opa := eget d e1 Reg.T_RULE.OPA r
  if !opsDue due [opa, eget d e1 Reg.T_RULE.OPB r] then { v with eval := false }
  else
    let x := ruleX d e1 e k r
    let v1 := { v with x := x, eval := true }
    let v2 := match ruleMet d e1 e r x v.active with
      | none => v1
      | some m => ruleCount (eon d e1 Reg.T_RULE.LATCH r) (eget d e1 Reg.T_RULE.PICKUP r)
          (eget d e1 Reg.T_RULE.DROPOUT r) m v1
    if eget d e1 Reg.T_RULE.FUNC r = 4 then
      pushHist (eget d e1 Reg.T_RULE.RATE_N r) k (opVal (engEnv d e1 e) (eon d e1 Reg.T_RULE.REJ_TQ r) opa) v2
    else v2

end Sys2Proof.Machine
end

