-- ==== Sys2Proof/Machine/Frames.lean ====
section
/-!
DEFINITION. Frames the device builds behind a header template: the IP and UDP fields it fills in, IP fragments and the
C37.118 check word (R247 to R249, R374).
-/

namespace Sys2Proof.Machine

open Sys2Proof

/-- Replace bytes at an offset. -/
def setBytes (bs : List Byte) (ofs : Nat) (v : List Byte) : List Byte := bs.take ofs ++ v ++ bs.drop (ofs + v.length)

/-- One bit-wise step of CRC-CCITT, most significant bit first. -/
def crcStep (crc : Nat) : Nat := if 0x8000 ≤ crc then (crc * 2 % 65536) ^^^ 0x1021 else crc * 2

/-- CRC-CCITT with start value 0xFFFF, the CHK of C37.118. -/
def crcCcitt (bs : List Byte) : Nat :=
  bs.foldl (fun c b => (List.range 8).foldl (fun x _ => crcStep x) (c ^^^ b.toNat * 256)) 0xFFFF

/-- The sum of big-endian 16-bit words. -/
def wordSum : List Byte → Nat
  | [] => 0
  | [a] => a.toNat * 256
  | a :: b :: r => a.toNat * 256 + b.toNat + wordSum r

/-- The internet checksum of a sum of words. -/
def inetSum (s : Nat) : Nat :=
  let x := s % 65535
  65535 - (if s ≠ 0 ∧ x = 0 then 65535 else x)

/-- Bytes of the Ethernet header: 18 with one VLAN tag, else 14. -/
def ethLen (hdr : List Byte) : Nat := if slice hdr 12 2 = [0x81, 0x00] then 18 else 14

/-- A header template cut into its Ethernet header, its IP header, its UDP header and the rest. -/
def cutHeader (v6 : Bool) (hdr : List Byte) : List Byte × List Byte × List Byte × List Byte :=
  let e := ethLen hdr
  let r := hdr.drop e
  let n := if v6 then 40 else 4 * ((r.headD 0).toNat % 16)
  (hdr.take e, slice r 0 n, slice (r.drop n) 0 8, (r.drop n).drop 8)

/-- A UDP datagram: the header's ports, the length and the checksum filled in. -/
def udpDatagram (v6 : Bool) (ip udp payload : List Byte) : List Byte :=
  let len := 8 + payload.length
  let pseudo := if v6 then slice ip 8 32 ++ be 4 len ++ be 4 17 else slice ip 12 8 ++ be 2 17 ++ be 2 len
  let head := slice udp 0 4 ++ be 2 len
  let c := inetSum (wordSum pseudo + wordSum head + wordSum payload)
  head ++ be 2 (if c = 0 then 65535 else c) ++ payload

/-- The IPv4 header of a packet or fragment: total length, identification, fragment field and checksum. -/
def ipv4Head (ip : List Byte) (id ofs : Nat) (more : Bool) (n : Nat) : List Byte :=
  let fl := byteOf ip 6
  let h0 := setBytes ip 2 (be 2 (ip.length + n) ++ be 2 id)
  let h1 := setBytes h0 6 (be 2 ((if more then 0x2000 else 0) + (fl / 64 % 2) * 0x4000 + ofs / 8))
  let h2 := setBytes h1 10 [0, 0]
  setBytes h2 10 (be 2 (inetSum (wordSum h2)))
where byteOf (bs : List Byte) (k : Nat) : Nat := (bs.getD k 0).toNat

/-- Cut a datagram into parts of at most `per` bytes: offset, last or not, bytes. -/
def cutParts (per : Nat) : Nat → Nat → List Byte → List (Nat × Bool × List Byte)
  | 0, _, _ => []
  | fuel + 1, ofs, b =>
    if b.length ≤ per then [(ofs, false, b)] else (ofs, true, b.take per) :: cutParts per fuel (ofs + per) (b.drop per)

/-- The IP packets of a datagram, each at most `room` bytes, and whether it was cut; `none` where it cannot be sent. -/
def ipPackets (v6 : Bool) (ip : List Byte) (id room : Nat) (dg : List Byte) : Option (Bool × List (List Byte)) :=
  if v6 then
    if 40 + dg.length ≤ room then some (false, [setBytes ip 4 (be 2 dg.length) ++ dg])
    else
      let per := (room - 48) / 8 * 8
      if per < 8 then none
      else some (true, (cutParts per dg.length 0 dg).map fun p =>
        setBytes (setBytes ip 4 (be 2 (8 + p.2.2.length))) 6 [44] ++ [17, 0] ++ be 2 (p.1 + b2n p.2.1) ++ be 4 id ++ p.2.2)
  else
    if ip.length + dg.length ≤ room then some (false, [ipv4Head ip id 0 false dg.length ++ dg])
    else
      let per := (room - ip.length) / 8 * 8
      if per < 8 ∨ ((ip.getD 6 0).toNat / 64) % 2 = 1 then none
      else some (true, (cutParts per dg.length 0 dg).map fun p => ipv4Head ip id p.1 p.2.1 p.2.2.length ++ p.2.2)

/-- The frames, without FCS, that carry a payload behind a header template on port n, and whether it was cut. -/
def udpFrames (d : Dev) (n : Nat) (v6 : Bool) (id : Nat) (eth ip udp payload : List Byte) :
    Option (Bool × List (List Byte)) :=
  (ipPackets v6 ip id (d.getN Reg.FP_FRAME.MAX_LEN n - eth.length - 4) (udpDatagram v6 ip udp payload)).map fun r =>
    (r.1, r.2.map fun p => eth ++ p)

/-- A port takes a frame in its queues (R21). -/
def portTakes (d : Dev) (n : Nat) : Bool :=
  if pairMode d n = 0 then d.up (islPrt n) else d.up (islPrt (n / 2 * 2)) || d.up (islPrt (n / 2 * 2 + 1))

/-- Queue the frames of one message in a class of port n. -/
def queueFrames (n tc : Nat) (o : TxOrigin) (fs : List (List Byte)) (d : Dev) : Dev :=
  fs.foldl (fun x b => sendTx n ⟨o, tc, b.length + 4, b, none, false, none, none⟩ x) d

end Sys2Proof.Machine
end

