-- ==== Sys2Proof/Machine/Modal.lean ====
section
/-!
DEFINITION. The modal engine: lanes and samples, segments, the cross-spectral store, epochs, peaks, result slots and
snapshots (the chapter on the modal engine).
-/

namespace Sys2Proof.Machine

open Sys2Proof

def Dev.modMdl (d : Dev) (f : Mod → Mod) : Dev := { d with mdl := f d.mdl }

def mdlRuns (d : Dev) : Bool := d.on Reg.MOD_STATUS.RUN
def mdlL (d : Dev) : Nat := d.get Reg.MOD_CTRL.LANES
def mdlB (d : Dev) : Nat := d.get Reg.MOD_CTRL.BINS
def mdlDec (d : Dev) : Nat := max 1 (d.get Reg.MOD_SAMP.DEC)
def mdlN (d : Dev) : Nat := 2 ^ d.get Reg.MOD_SEG.NSH

/-- Entries of one bin, L(L+1)/2, and of the store. -/
def mdlTri (d : Dev) : Nat := mdlL d * (mdlL d + 1) / 2
def mdlE (d : Dev) : Nat := mdlTri d * mdlB d

/-- First word of entry (i, j) of bin b, and of element l of vector k of bin b (Table MOD-3). -/
def entryWord (d : Dev) (b i j : Nat) : Nat :=
  partWord d partModal + 2 * (b * mdlTri d + i * mdlL d - i * (i - 1) / 2 + (j - i))
def vecWord (d : Dev) (b k l : Nat) : Nat :=
  partWord d partModal + 2 * mdlE d + 8 * mdlL d * b + 2 * mdlL d * k + 2 * l

def modRej (d : Dev) : Dev := d.cause intMod 0 0 0

/-! ## Starting and stopping (R418 to R420) -/

/-- Is an operand of a modal lane inside its ranges (R386)? -/
def mdlOpOk (o : Nat) : Bool := decide (1 ≤ opKind o) && decide (opKind o ≤ 7) && opOk o

/-- The lane check of Table MOD-8. -/
def mdlLaneBad (d : Dev) (l : Nat) : Bool :=
  let a := d.getN Reg.T_MLANE.OPA l
  let b := d.getN Reg.T_MLANE.OPB l
  let f := d.getN Reg.T_MLANE.FUNC l
  !mdlOpOk a || (opKind b != 0 && !mdlOpOk b) || ((f == 1 || f == 3) && opKind b == 0)

/-- The source check of Table MOD-8. -/
def mdlSrcBad (d : Dev) (o : Nat) : Bool :=
  match opSource o with
  | none => false
  | some s =>
    let rsv := d.getN Reg.T_ATTR.RSV s
    srcRate d s * mdlDec d % max 1 (spreadRate d) != 0 || rsv == 0 || decide (rsv < d.getN Reg.T_SRC.WORDS s)

/-- A bin frequency is finite, above 0 and below f_m ÷ 2. -/
def mdlBinBad (d : Dev) (b : Nat) : Bool :=
  let f := numF (d.getN Reg.T_MBIN.F b)
  !numFinite f || !Num.lt .zero f ||
    !Num.lt (Num.mul f (Num.ofInt (2 * mdlDec d))) (Num.ofInt (spreadRate d))

/-- Bytes the MODAL partition needs (Table HMP-4). -/
def mdlNeed (d : Dev) : Nat := 8 * mdlE d + 32 * mdlL d * mdlB d + 2 ^ 20

/-- The start checks of Table MOD-8. -/
def mdlCheck (d : Dev) : Nat :=
  let l := mdlL d
  let b := mdlB d
  let f (k : Nat) : Num := numF (d.getN Reg.T_MBIN.F k)
  if l = 0 ∨ b = 0 then stSkipped
  else if l < 4 ∨ 512 < l ∨ b < 3 ∨ 128 < b ∨ spreadRate d % mdlDec d ≠ 0 then stRejected
  else if (List.range b).any (mdlBinBad d) ∨ (List.range (b - 1)).any (fun k => !Num.lt (f k) (f (k + 1))) then stRejected
  else if (List.range l).any (mdlLaneBad d) then stRejected
  else if (List.range l).any (fun k => mdlSrcBad d (d.getN Reg.T_MLANE.OPA k) || mdlSrcBad d (d.getN Reg.T_MLANE.OPB k)) then
    stRejected
  else if l ≤ d.get Reg.MOD_REF.REF_LANE then stRejected
  else if 4194304 < mdlE d then stLimit
  else if partBytes d partModal < mdlNeed d then stNoSpace
  else stOk

/-- Every slot takes one value, an unused one 0x7FC0_0001. -/
def slotsAll (w : Word32) (d : Dev) : Dev :=
  (List.range 64).foldl (fun x s =>
    x.setN Reg.T_MSLOTV.V s (if x.onN Reg.T_MSLOT.EN s then w.toNat else wMissing.toNat)) d

/-- Quadrants a partition touches. -/
def mdlQuads (d : Dev) : Nat :=
  let b := d.getN Reg.HMP_PARTn.BASE partModal
  let z := d.getN Reg.HMP_PARTn.SIZE partModal
  if z = 0 then 0 else (b + z - 1) / 16 - b / 16 + 1

/-- The engine starts, or is refused (R418, R419). -/
def modalStart (t : Time) (d : Dev) : Dev :=
  let st := mdlCheck d
  let d0 := d.set Reg.MOD_STATUS.FAIL st
  if st = stSkipped then d0.set Reg.MOD_CTRL.EN 1
  else if st ≠ stOk then (d0.set Reg.MOD_CTRL.EN 0).cause intMod 0 0 st
  else
    let d1 := d0.modMdl fun _ => { (default : Mod) with
      t0 := (t.ns + 2000000000 - 1) / 1000000000, track := 1, hw := d.get Reg.GLB_SPLIT.MODAL == 1, m := [], epoch := 0 }
    let d2 := (((d1.set Reg.MOD_CTRL.EN 1).set Reg.MOD_STATUS.RUN 1).set Reg.MOD_STATUS.STATE 1).set
      Reg.MOD_STATUS.QUADS (mdlQuads d)
    let d3 := (List.range 512).foldl (fun x l => x.setN Reg.T_MLSTAT.STATE l (if l < mdlL d then 1 else 0)) d2
    slotsAll wSettling d3

/-- EN is written with 1 (R418). While an earlier stop waits for the running processing, the start follows it. -/
def modalEnable (t : Time) (d : Dev) : Dev :=
  if d.on Reg.MOD_CTRL.EN then d
  else if mdlRuns d then d.set Reg.MOD_CTRL.EN 1
  else if d.get Reg.GLB_SPLIT.MODAL = 1 ∨ d.get Reg.GLB_SPLIT.MODAL = 2 then modalStart t d
  else d.set Reg.MOD_CTRL.EN 1

def execModalStart (s : State) : Host.Outcome State Fault Refusal :=
  run s fun t d => onWrite 0xD0000 (modalEnable t) d

/-- The engine is stopped (R420). -/
def modalHalt (d : Dev) : Dev :=
  let d1 := ((d.modMdl fun m => { m with proc := none, ready := [], stopDue := false, lanes := [] }).set Reg.MOD_STATUS.RUN
    0).set Reg.MOD_STATUS.STATE 0
  (List.range 512).foldl (fun x l => x.setN Reg.T_MLSTAT.STATE l 0) d1

/-- The engine is to stop: at once, or when the running processing ends (R420). -/
def modalStop (d : Dev) : Dev :=
  if !mdlRuns d then d
  else if d.mdl.proc.isSome then d.modMdl fun m => { m with stopDue := true }
  else modalHalt d

def execModalStop (s : State) : Host.Outcome State Fault Refusal :=
  run s fun _ d => onWrite 0xD0000 (fun d => modalStop (d.set Reg.MOD_CTRL.EN 0)) d

/-! ## Lane values and samples (R387 to R391) -/

/-- The continuous output nearest to the previous one (R389). -/
def continuous (v : Num) (prev : Option Word64) : Num :=
  match prev, v with
  | some p, .fin _ _ _ =>
    let (n, dn) := (Num.add (num64 p) v.neg).frac
    let k := (n + 180 * (dn : Int)) / (360 * (dn : Int))
    rnd64 (Num.add v (Num.ofInt (360 * k)))
  | _, _ => v

/-- FUNC applied to a lane's operands. -/
def laneFunc (f : Nat) (a b : RVal) (prev : Option Word64) : RVal :=
  match f with
  | 0 => a
  | 1 => RVal.map2 dSub a b
  | 2 => a.map fun v => continuous v prev
  | _ => (RVal.map2 (fun x y => wrap180 (dSub x y)) a b).map fun v => continuous v prev

/-- A value joins the sample being formed (R389, R390). -/
def laneAdd (f : Nat) (v : RVal) (l : MLane) : MLane :=
  match v with
  | .num x => { l with
      sum := if l.nv = 0 then x else to64 (dAdd (num64 l.sum) (num64 x)), nv := l.nv + 1, nd := l.nd + 1
      uPrev := if 2 ≤ f then some x else l.uPrev }
  | .bad c => { l with nd := l.nd + 1, code := some (match l.code with
      | some e => lowCode c e
      | none => c) }

/-- The sample of lane l is formed (R390, R391). -/
def laneSample (i : Nat) (d : Dev) : Dev :=
  let l := tget d.mdl.lanes i
  let msh := d.get Reg.MOD_SAMP.MSH
  let fresh (x : Option Word64) (mu : Option Word64) : MLane :=
    { l with sum := 0, nv := 0, nd := 0, code := none, mu := mu, xs := l.xs ++ [x] }
  if l.nv = 0 ∨ l.nv < (l.nd + 1) / 2 then
    let d1 := d.modMdl fun m => { m with lanes := tset m.lanes i (fresh none l.mu) }
    (d1.setN Reg.T_MLSTAT.LAST i (l.code.getD wMissing).toNat).sat Reg.MOD_CNT_SAMP_INV.N
  else
    let s := dDiv (num64 l.sum) (Num.ofInt l.nv)
    let mu := match l.mu with
      | some w => num64 w
      | none => s
    let x := if msh = 0 then s else dSub s mu
    let mu1 := if msh = 0 then mu else dAdd mu (rnd64 (Num.mul (.fin false 1 (-(msh : Int))) (dSub s mu)))
    let d1 := d.modMdl fun m => { m with lanes := tset m.lanes i (fresh (some (to64 x)) (some (to64 mu1))) }
    ((d1.setN Reg.T_MLSTAT.STATE i 2).setN Reg.T_MLSTAT.MEAN i (to32 mu1).toNat).setN Reg.T_MLSTAT.LAST i (to32 s).toNat

/-- Has lane l an operand that a rule pass gives (KIND 4 to 7)? -/
def laneOfPass (d : Dev) (l : Nat) : Bool :=
  decide (4 ≤ opKind (d.getN Reg.T_MLANE.OPA l)) || decide (4 ≤ opKind (d.getN Reg.T_MLANE.OPB l))

/-- One spread reaches lane l: its value, and at a modal instant its sample. -/
def laneSpread (k : Nat) (due : List Nat) (v : RVal) (i : Nat) (d : Dev) : Dev :=
  let r := spreadRate d
  let dec := mdlDec d
  let start := d.mdl.t0 * r
  if k + dec ≤ start then d
  else
    let os := [d.getN Reg.T_MLANE.OPA i, d.getN Reg.T_MLANE.OPB i]
    let d1 := if opsDue due os then
        d.modMdl fun m => { m with lanes := tmod m.lanes i (laneAdd (d.getN Reg.T_MLANE.FUNC i) v) }
      else d
    if k % dec = 0 ∧ start ≤ k then laneSample i d1 else d1

/-- The lane's value with its operands read through `e`. -/
def laneValue (e : OpEnv) (d : Dev) (i : Nat) : RVal :=
  let tq := d.onN Reg.T_MLANE.REJ_TQ i
  laneFunc (d.getN Reg.T_MLANE.FUNC i) (opVal e tq (d.getN Reg.T_MLANE.OPA i)) (opVal e tq (d.getN Reg.T_MLANE.OPB i))
    (tget d.mdl.lanes i).uPrev

/-! ## The store (R393 to R398) -/

/-- A complex number of binary64 parts. -/
structure Cx where
  re : Num
  im : Num
  deriving DecidableEq, Repr

def cxZero : Cx := ⟨.zero, .zero⟩
def Cx.add (a b : Cx) : Cx := ⟨dAdd a.re b.re, dAdd a.im b.im⟩
def Cx.sub (a b : Cx) : Cx := ⟨dSub a.re b.re, dSub a.im b.im⟩
def Cx.mul (a b : Cx) : Cx := ⟨dSub (dMul a.re b.re) (dMul a.im b.im), dAdd (dMul a.re b.im) (dMul a.im b.re)⟩
def Cx.conj (a : Cx) : Cx := ⟨a.re, a.im.neg⟩
def Cx.scale (x : Num) (a : Cx) : Cx := ⟨dMul x a.re, dMul x a.im⟩
def Cx.byReal (a : Cx) (x : Num) : Cx := ⟨dDiv a.re x, dDiv a.im x⟩
def Cx.norm2 (a : Cx) : Num := dAdd (dMul a.re a.re) (dMul a.im a.im)

def nHalf : Num := .fin false 1 (-1)
def nTwo : Num := Num.ofInt 2

/-- The transform of one lane's samples at one bin (R393); an invalid sample enters as 0. -/
def laneDft (n dec r : Nat) (f : Num) (xs : List (Option Word64)) : Cx :=
  let (fn, fd) := f.frac
  ((List.range n).zip xs).foldl (fun acc e =>
    match e.2 with
    | none => acc
    | some x =>
      let w := dSub nHalf (dMul nHalf (cosSinTurns (e.1 : Nat) n).1)
      let cs := cosSinTurns (-(fn * (e.1 * dec : Nat))) (fd * r)
      let y := dMul w (num64 x)
      Cx.add acc ⟨dMul y cs.1, dMul y cs.2⟩) cxZero

/-- Read an entry of the store; `none` is a lasting fault, a quadrant in reset or a partition moved since (R398, R97). -/
def readEntry (b i j : Nat) (d : Dev) : Option (Word32 × Word32) × Dev :=
  let a := entryWord d b i j
  let bad := hBad d a || hBad d (a + 1) || !hUp d a || !inPart d partModal a || !inPart d partModal (a + 1)
  let (ws, d1) := partRead partModal a 2 d
  (if bad then none else some (ws.getD 0 0, ws.getD 1 0), d1)

/-- The pairs (i, j), i ≤ j, of the upper triangle in the order of Table MOD-3. -/
def triPairs (l : Nat) : List (Nat × Nat) :=
  ((List.range l).map fun i => (List.range (l - i)).map fun j => (i, i + j)).flatten

/-- Bin b is marked for restart (R398). -/
def markBin (b : Nat) (d : Dev) : Dev :=
  if d.mdl.marked.contains b then d
  else ((d.modMdl fun m => { m with marked := m.marked ++ [b] }).sat Reg.MOD_CNT_BINRST.N).cause intMod 5 0 0

/-- The update of bin b with the lanes' transforms (R396, R398). -/
def binUpdate (b : Nat) (xs : List Cx) (d : Dev) : Dev :=
  let l := mdlL d
  let m0 := tget d.mdl.m b
  let restart := d.mdl.marked.contains b || m0 == 0
  let m := if restart then 1 else m0 + 1
  let fsh := d.get Reg.MOD_SEG.FSH
  let den := dDiv (dMul (dMul (dDiv (Num.ofInt (spreadRate d)) (Num.ofInt (mdlDec d))) (Num.ofInt 3))
    (Num.ofInt (mdlN d))) (Num.ofInt 8)
  let p (i j : Nat) : Cx := Cx.byReal (Cx.scale nTwo (Cx.mul (xs.getD i cxZero) (xs.getD j cxZero).conj)) den
  let inv := dDiv .one (Num.ofInt m)
  let pw : Num := .fin false 1 (-(fsh : Int))
  let a := if Num.lt pw inv then inv else pw
  let pairs := triPairs l
  let put (d : Dev) (i j : Nat) (g : Cx) : Dev :=
    partWrite partModal (entryWord d b i j) [to32 g.re, if i = j then 0 else to32 g.im] d
  if restart then
    let d1 := pairs.foldl (fun x e => put x e.1 e.2 (p e.1 e.2)) d
    d1.modMdl fun q => { q with
      m := tset q.m b 1, marked := q.marked.filter fun y => y != b
      hasVec := if q.marked.contains b then q.hasVec.filter fun y => y != b else q.hasVec }
  else
    let rd := pairs.foldl (fun (acc : List (Option (Word32 × Word32)) × Dev) e =>
      let (g, x) := readEntry b e.1 e.2 acc.2
      (acc.1 ++ [g], x)) ([], d)
    if rd.1.any fun g => g.isNone then markBin b rd.2
    else
      let d1 := (pairs.zip rd.1).foldl (fun x e =>
        match e.2 with
        | some g =>
          let old : Cx := ⟨num32 g.1, num32 g.2⟩
          put x e.1.1 e.1.2 (Cx.add (Cx.scale (dSub .one a) old) (Cx.scale a (p e.1.1 e.1.2)))
        | none => x) rd.2
      d1.modMdl fun q => { q with m := tset q.m b m }

/-- A segment is applied, or discarded when every lane of it is zeroed (R394, R396). -/
def segmentApply (g : MSeg) (d : Dev) : Dev :=
  let gap := d.get Reg.MOD_SAMP.GAP_MAX
  let inv (xs : List (Option Word64)) : Nat := (xs.filter fun x => x.isNone).length
  let zeroed (xs : List (Option Word64)) : Bool := decide (gap < inv xs)
  let d1 := ((List.range g.xs.length).zip g.xs).foldl (fun x e =>
    let x1 := x.setN Reg.T_MLSTAT.INV e.1 (inv e.2)
    if zeroed e.2 then (x1.sat Reg.T_MLSTAT.ZEROED e.1).cause intMod 4 0 0 else x1) d
  if g.xs.all zeroed then d1.sat Reg.MOD_CNT_SEGDROP.N
  else
    let d2 := (List.range (mdlB d)).foldl (fun x b =>
      let f := numF (x.getN Reg.T_MBIN.F b)
      binUpdate b (g.xs.map fun xs => if zeroed xs then cxZero else laneDft (mdlN d) (mdlDec d) (spreadRate d) f xs) x) d1
    ((d2.modMdl fun m => { m with segs := m.segs + 1, lastSeg := g.last % 2 ^ 32 }).sat Reg.MOD_CNT_SEG.N).set
      Reg.MOD_STATUS.STATE (if d2.mdl.proc.isSome then 3 else 2)

/-- The oldest ready segment is applied. -/
def applyNext (d : Dev) : Dev :=
  match d.mdl.ready with
  | [] => d
  | g :: gs => segmentApply g (d.modMdl fun m => { m with ready := gs })

def execSegmentApply (s : State) : Host.Outcome State Fault Refusal :=
  run s fun _ d => if mdlRuns d && d.mdl.proc.isNone then applyNext d else d

/-! ## Records (R412, Tables MOD-4 and MOD-5) -/

def mdlFm (d : Dev) : Num := dDiv (Num.ofInt (spreadRate d)) (Num.ofInt (mdlDec d))
def mdlNeff (d : Dev) : Nat := 2 ^ (d.get Reg.MOD_SEG.FSH + 1) - 1

/-- The header of Table MOD-4. -/
def mdlHeader (d : Dev) (p : MProc) (npeak flags sweeps nconv tEnd : Nat) : List Byte :=
  tk80Bytes p.boundary ++ le 2 (mdlB d) ++ le 2 (mdlL d) ++ le 1 npeak ++ le 1 flags ++ le 4 p.epoch ++
    le 4 (min p.segs (2 ^ 32 - 1)) ++ le 4 p.lastSeg ++ le 2 sweeps ++ le 2 nconv ++ le 4 p.startSt ++ le 4 tEnd ++
    le 4 (to32 (mdlFm d)).toNat ++ le 4 (to32 (Num.ofInt (mdlNeff d))).toNat ++ List.replicate 16 0

/-- Bytes 0 to 31 of Table MOD-5. -/
def peakHead (p : MPeak) : List Byte :=
  le 4 p.freq.toNat ++ le 4 p.damp.toNat ++ le 4 p.amp.toNat ++ le 4 p.conf.toNat ++ le 4 p.sep.toNat ++
    le 4 p.half.toNat ++ le 2 p.bin ++ le 2 p.track ++ le 1 p.flags ++ le 1 0 ++ le 2 (min p.m 0xFFFF)

/-- An epoch record goes to the result ring (R412). -/
def mdlRecord (bytes : List Byte) (d : Dev) : Dev :=
  let r := d.get Reg.MOD_HOST.RES_RING
  if !(d.on Reg.MOD_HOST.RES_EN && d.mdl.hw) then d
  else
    let lost (d : Dev) : Dev := (d.sat Reg.MOD_CNT_RES_DROP.N).cause intMod 7 0 0
    if ringIs d r clsModl then
      match deliver r bytes [] d with
      | (.dropped, d1) => lost d1
      | (_, d1) => d1
    else lost d

/-- Processing ends: a waiting stop follows (R420), and then a start that was asked for meanwhile (R418); else the engine
accumulates. -/
def procEnd (t : Time) (d : Dev) : Dev :=
  let d1 := (d.modMdl fun m => { m with proc := none }).set Reg.MOD_STATUS.STATE (if d.mdl.segs = 0 then 1 else 2)
  if !d.mdl.stopDue then d1
  else if d.on Reg.MOD_CTRL.EN ∧ d.get Reg.GLB_SPLIT.MODAL ≠ 0 then modalStart t (modalHalt d1)
  else modalHalt d1

/-- GLB_SPLIT.MODAL has changed from `old` (R418, R420, R422). -/
def modalSplit (t : Time) (old : Nat) (d : Dev) : Dev :=
  let m := d.get Reg.GLB_SPLIT.MODAL
  if !d.up islAna ∨ !d.on Reg.MOD_CTRL.EN then d
  else if m = 0 then modalStop d
  else if old = 0 ∧ !mdlRuns d then modalStart t d
  else d

/-- Is this one of the registers or slot words whose writes take effect from the next epoch (R421)? -/
def epochCfg (a : Nat) : Bool :=
  a == 0xD0018 || (decide (0xD0020 ≤ a) && decide (a ≤ 0xD0034)) || (decide (0x363000 ≤ a) && decide (a < 0x363400))

/-- Those words become what a given register file holds. -/
def putCfg (cfg : RegFile) (d : Dev) : Dev :=
  let as := ((cfg ++ d.regs).map Prod.fst).filter epochCfg
  { d with regs := as.foldl (fun m a => rput m a (rword cfg a)) d.regs }

/-- Processing reads those words as they stood at its boundary (R421). -/
def withCfg (cfg : RegFile) (f : Dev → Dev) (d : Dev) : Dev :=
  putCfg d.regs (f (putCfg cfg d))

/-- The duration of the processing, as MOD_DECT shows it. -/
def procTime (t : Time) (p : MProc) (d : Dev) : Dev := d.set Reg.MOD_DECT.NS (min (t.loc - p.start) (2 ^ 32 - 1))

/-- A snapshot ends early (R417). -/
def snapFail (t : Time) (d : Dev) : Dev := procEnd t ((d.sat Reg.MOD_CNT_SNAP_FAIL.N).cause intMod 8 0 0)

/-- The epoch is abandoned and both ready segments are applied in order (R401). -/
def epochAbandon (t : Time) (p : MProc) (d : Dev) : Dev :=
  let d1 := (d.sat Reg.MOD_CNT_EPABANDON.N).cause intMod 3 0 0
  let d2 := if p.snap then snapFail t d1
    else
      let sig := List.replicate (mdlB d * 4) wParity
      (procEnd t (procTime t p (mdlRecord (mdlHeader d p 0 8 0 0 t.st32 ++ (sig.map fun w => le 4 w.toNat).flatten) d1))).cause
        intMod 1 0 0
  if mdlRuns d2 then applyNext (applyNext d2) else d2

/-- Every lane has the samples of the next segment: it is ready (R393, R401). -/
def segmentReady (t : Time) (d : Dev) : Dev :=
  let n := mdlN d
  let ls := (List.range (mdlL d)).map fun i => tget d.mdl.lanes i
  if ls.isEmpty || ls.any fun l => decide (l.xs.length < n) then d
  else
    let k := d.mdl.t0 * spreadRate d + (d.mdl.seg * (n / 2) + n - 1) * mdlDec d
    let g : MSeg := ⟨ls.map fun l => l.xs.take n, instNs k (spreadRate d)⟩
    let d1 := d.modMdl fun m => { m with
      seg := m.seg + 1, ready := m.ready ++ [g]
      lanes := (List.range (mdlL d)).foldl (fun q i => tmod q i fun l => { l with xs := l.xs.drop (n / 2) }) m.lanes }
    match d.mdl.proc with
    | some p => if d.mdl.ready.isEmpty then d1 else withCfg p.cfg (epochAbandon t p) d1
    | none => d1

/-- A spread closes, or its pass has ended (`pass`): the lanes that read only its words, or those that read the pass, take
it (R388, R390). -/
def modalSpread (t : Time) (k : Nat) (due : List Nat) (e : Option OpEnv) (pass : Bool) (d : Dev) : Dev :=
  if !mdlRuns d then d
  else
    let d1 := (List.range (mdlL d)).foldl (fun x i =>
      if laneOfPass x i == pass then
        laneSpread k due (match e with
          | some e => laneValue e x i
          | none => .bad wInvalid) i x
      else x) d
    segmentReady t d1

/-! ## Decomposition (R404 to R406) -/

/-- Complex vectors by columns: four lists of L. -/
abbrev Cols := List (List Cx)

def dot (a b : List Cx) : Cx := (a.zip b).foldl (fun s e => Cx.add s (Cx.mul e.1.conj e.2)) cxZero
def vnorm (a : List Cx) : Num := dSqrt (a.foldl (fun s x => dAdd s x.norm2) .zero)

/-- A matrix given by its upper triangle times a vector. -/
def hermMul (l : Nat) (g : Nat → Nat → Cx) (v : List Cx) : List Cx :=
  (List.range l).map fun i =>
    (List.range l).foldl (fun s j =>
      Cx.add s (Cx.mul (if i ≤ j then g i j else (g j i).conj) (v.getD j cxZero))) cxZero

/-- Columns times a 4 × 4 matrix in row order. -/
def colsMul (v : Cols) (u : List Cx) : Cols :=
  (List.range 4).map fun c =>
    (List.range ((v.getD 0 []).length)).map fun l =>
      (List.range 4).foldl (fun s k => Cx.add s (Cx.mul ((v.getD k []).getD l cxZero) (u.getD (4 * k + c) cxZero))) cxZero

/-- Modified Gram-Schmidt, columns 0 to 3. -/
def orthonormal : Cols → Cols → Cols
  | done, [] => done
  | done, w :: ws =>
    let x := done.foldl (fun x q => let c := dot q x; (x.zip q).map fun e => Cx.sub e.1 (Cx.mul c e.2)) w
    let n := vnorm x
    orthonormal (done ++ [x.map fun a => Cx.byReal a n]) ws

/-- The eigenvalues and eigenvectors of h, through the free function. -/
def eigOf (h : List Cx) : List Num × List Cx :=
  let o := Config.eig4 ((h.map fun c => [to64 c.re, to64 c.im]).flatten)
  let n (i : Nat) : Num := num64 (o.getD i 0)
  ((List.range 4).map n, (List.range 16).map fun i => ⟨n (4 + 2 * i), n (5 + 2 * i)⟩)

/-- The outcome of a bin: σ, vectors, iterations used and convergence. -/
structure BinRes where
  sigma : List Num
  vecs : Cols
  sweeps : Nat
  conv : Bool
  deriving Repr

/-- The iteration of R404. -/
def decompose (l tolSh : Nat) (g : Nat → Nat → Cx) (v0 : Cols) : Nat → Nat → Cols → List Num → BinRes
  | 0, it, v, th => ⟨th, v, it, tolSh == 0⟩
  | fuel + 1, it, v, _ =>
    let w := v.map (hermMul l g)
    let h := ((List.range 4).map fun a => (List.range 4).map fun b => dot (v.getD a []) (w.getD b [])).flatten
    let (th, u) := eigOf h
    if (th.getD 0 .zero).isZero then ⟨List.replicate 4 .zero, v0, it + 1, true⟩
    else
      let v1 := colsMul v u
      let w1 := colsMul w u
      let res := (List.range 4).foldl (fun m k =>
        let t := th.getD k .zero
        let r := dDiv (vnorm (((w1.getD k []).zip (v1.getD k [])).map fun e => Cx.sub e.1 (Cx.scale t e.2))) (th.getD 0 .one)
        if Num.lt m r then r else m) .zero
      if tolSh = 0 ∨ Num.lt res (.fin false 1 (-(tolSh : Int))) then ⟨th, v1, it + 1, true⟩
      else decompose l tolSh g v0 fuel (it + 1) (orthonormal [] w1) th

/-- The start vectors of a first decomposition (R404). -/
def startVecs (l : Nat) : Cols :=
  let s := dSqrt (Num.ofInt l)
  (List.range 4).map fun k => (List.range l).map fun i =>
    let cs := cosSinTurns (k * i : Nat) l
    ⟨dDiv cs.1 s, dDiv cs.2 s⟩

/-- The vectors a bin has in the partition. -/
def readVecs (b : Nat) (d : Dev) : Cols × Dev :=
  (List.range 4).foldl (fun (acc : Cols × Dev) k =>
    let (ws, x) := partRead partModal (vecWord d b k 0) (2 * mdlL d) acc.2
    (acc.1 ++ [(List.range (mdlL d)).map fun i => ⟨num32 (ws.getD (2 * i) 0), num32 (ws.getD (2 * i + 1) 0)⟩], x)) ([], d)

/-- Unit norm, and the phase that makes the reference element real and positive (R406). -/
def turnVec (refLane : Nat) (v : List Cx) : List Cx :=
  let n := vnorm v
  let u := v.map fun a => Cx.byReal a n
  let e0 := u.getD refLane cxZero
  let bad := e0.norm2.isNan || e0.norm2.isZero
  let e := if bad then u.foldl (fun m a => if Num.lt m.norm2 a.norm2 then a else m) cxZero else e0
  let m := dSqrt e.norm2
  if m.isZero || m.isNan then u else u.map fun a => Cx.mul a (Cx.byReal e.conj m)

/-- A decomposed bin: its σ words, its first vector, iterations, convergence. -/
structure BinOut where
  done : Bool
  sigma : List Word32
  shape : List Word32
  sweeps : Nat
  conv : Bool
  deriving Repr

def binSkipped : BinOut := ⟨false, List.replicate 4 wParity, [], 0, true⟩

def cxWords (v : List Cx) : List Word32 := (v.map fun a => [to32 a.re, to32 a.im]).flatten

/-- Decompose bin b, or mark it for restart (R398, R404 to R406). -/
def binDecompose (b : Nat) (d : Dev) : BinOut × Dev :=
  let l := mdlL d
  if d.mdl.marked.contains b || tget d.mdl.m b == 0 then (binSkipped, d)
  else
    let rd := (triPairs l).foldl (fun (acc : List (Option (Word32 × Word32)) × Dev) e =>
      let (g, x) := readEntry b e.1 e.2 acc.2
      (acc.1 ++ [g], x)) ([], d)
    if rd.1.any fun g => g.isNone then (binSkipped, markBin b rd.2)
    else
      let g (i j : Nat) : Cx :=
        match rd.1.getD (i * l - i * (i - 1) / 2 + (j - i)) none with
        | some w => ⟨num32 w.1, num32 w.2⟩
        | none => cxZero
      let (v0, d1) := if d.mdl.hasVec.contains b then readVecs b rd.2 else (startVecs l, rd.2)
      let tol := d.get Reg.MOD_DEC.TOL_SH
      let r := decompose l tol g v0 (if tol = 0 then 1 else d.get Reg.MOD_DEC.ITER) 0 v0 []
      let zero := (r.sigma.getD 0 .zero).isZero
      let sig := (List.range 4).map fun k =>
        let x := r.sigma.getD k .zero
        to32 (if Num.lt x .zero then .zero else x)
      let vs := if zero then v0 else r.vecs.map (turnVec (d.get Reg.MOD_REF.REF_LANE))
      let d2 := if zero then d1 else
        (List.range 4).foldl (fun x k => partWrite partModal (vecWord d b k 0) (cxWords (vs.getD k [])) x)
          (d1.modMdl fun m => { m with hasVec := if m.hasVec.contains b then m.hasVec else m.hasVec ++ [b] })
      (⟨true, sig, cxWords (vs.getD 0 []), r.sweeps, r.conv⟩, d2)

/-! ## Peaks (R407 to R411) -/

/-- σ1 of a bin as a value; NaN for a bin that was not decomposed. -/
def sig1 (o : List BinOut) (b : Nat) : Num := num32 ((o.getD b binSkipped).sigma.getD 0 wParity)

/-- The valley on one side of bin b: the bins of that side, nearest first. -/
def valley (o : List BinOut) (s : Num) : List Nat → Num → Num
  | [], m => m
  | c :: cs, m =>
    let x := sig1 o c
    if Num.lt s x then m else valley o s cs (if Num.lt x m then x else m)

/-- R407. -/
def peakAt (d : Dev) (o : List BinOut) (b : Nat) : Bool :=
  let n := o.length
  let s := sig1 o b
  let ok (c : Nat) : Bool := (o.getD c binSkipped).done
  let prom := numF (d.get Reg.MOD_PROM.P)
  let vl := valley o s ((List.range b).reverse) (.inf false)
  let vr := valley o s ((List.range (n - 1 - b)).map fun k => b + 1 + k) (.inf false)
  let v := if Num.lt vl vr then vr else vl
  decide (1 ≤ b) && decide (b + 2 ≤ n) && ok (b - 1) && ok b && ok (b + 1) && Num.lt (sig1 o (b - 1)) s &&
    (sig1 o (b + 1)).le s && (numF (d.get Reg.MOD_FLOOR.F)).le s && (prom.le .one || prom.le (dDiv s v))

/-- The fit and the figures of a peak (R408 to R410); its track comes later. -/
def peakFit (d : Dev) (o : List BinOut) (b : Nat) : MPeak × Dev :=
  let f (k : Nat) : Num := numF (d.getN Reg.T_MBIN.F k)
  let y (k : Nat) : Num := dDiv .one (sig1 o k)
  let d1 := dDiv (dSub (y b) (y (b - 1))) (dSub (f b) (f (b - 1)))
  let d2 := dDiv (dSub (y (b + 1)) (y b)) (dSub (f (b + 1)) (f b))
  let a := dDiv (dSub d2 d1) (dSub (f (b + 1)) (f (b - 1)))
  let fpk := dSub (dDiv (dAdd (f (b - 1)) (f b)) nTwo) (dDiv d1 (dMul nTwo a))
  let c := dAdd (dAdd (dMul (dMul a (dSub fpk (f (b - 1)))) (dSub fpk (f b))) (dMul d1 (dSub fpk (f (b - 1))))) (y (b - 1))
  let ok := Num.lt .zero a && Num.lt .zero c && (f (b - 1)).le fpk && fpk.le (f (b + 1))
  let bo (k : Nat) : BinOut := o.getD k binSkipped
  let noconv := !((bo (b - 1)).conv && (bo b).conv && (bo (b + 1)).conv)
  let sep := dDiv (num32 ((bo b).sigma.getD 1 wParity)) (sig1 o b)
  let m := tget d.mdl.m b
  let base : MPeak := { (default : MPeak) with
    sep := to32 sep, bin := b, m := m, shape := (bo b).shape, flags := 4 * b2n noconv }
  if ok then
    let h := dSqrt (dDiv c a)
    let hw := dDiv (dMul (b64.num (b64.round false 72 100 0)) (mdlFm d)) (Num.ofInt (mdlN d))
    let df := dSub (dMul h h) (dMul hw hw)
    let ht := dSqrt (if Num.lt df .zero then .zero else df)
    let bound := ht.le hw
    let damp := if bound then dDiv hw fpk else dDiv ht fpk
    let q := dDiv (dSub ht hw) hw
    let cres := if bound then .zero else if Num.lt q .one then q else .one
    let mr := dDiv (Num.ofInt m) (Num.ofInt (mdlNeff d))
    let conf := dMul (dMul (dSub .one sep) cres) (if Num.lt mr .one then mr else .one)
    ({ base with freq := to32 fpk, damp := to32 damp, amp := to32 (dDiv .one c), conf := to32 conf, half := to32 h
                 flags := base.flags + b2n bound }, d)
  else
    let (k1, x1) := d.draw
    let (k2, x2) := x1.draw
    ({ base with freq := BitVec.ofNat 32 (d.getN Reg.T_MBIN.F b), damp := wInvalid, conf := 0, amp := Config.freeWord k1
                 half := Config.freeWord k2, flags := base.flags + 2 }, x2)

def peakFits (o : List BinOut) : List Nat → Dev → List MPeak × Dev
  | [], d => ([], d)
  | b :: bs, d =>
    let (p, d1) := peakFit d o b
    let (ps, d2) := peakFits o bs d1
    (p :: ps, d2)

/-- The candidates kept, in ascending frequency (R407). -/
def peakBins (d : Dev) (o : List BinOut) : List Nat :=
  let cs := (List.range o.length).filter (peakAt d o)
  let above (b : Nat) : Nat := (cs.filter fun c => Num.lt (sig1 o b) (sig1 o c) ||
    ((sig1 o b).le (sig1 o c) && (sig1 o c).le (sig1 o b) && decide (c < b))).length
  cs.filter fun b => decide (above b < min 16 (d.get Reg.MOD_REF.NPEAK_MAX))

/-- The closest pair of an unpaired peak and an unused previous peak within DF, as indices. -/
def closest (df : Num) (ps : List (Nat × Num)) (qs : List (Nat × Num)) : Option (Nat × Nat) :=
  let all := (ps.map fun p => qs.map fun q => (p.1, q.1, (Num.add p.2 q.2.neg).abs)).flatten
  let ok := all.filter fun e => e.2.2.le df
  (ok.foldl (fun (m : Option (Nat × Nat × Num)) e =>
    match m with
    | none => some e
    | some x => if Num.lt e.2.2 x.2.2 then some e else some x) none).map fun e => (e.1, e.2.1)

/-- Pairs of peaks and previous peaks, closest first (R411). -/
def pairTracks (df : Num) : Nat → List (Nat × Num) → List (Nat × Num) → List (Nat × Nat)
  | 0, _, _ => []
  | fuel + 1, ps, qs =>
    match closest df ps qs with
    | none => []
    | some (i, j) => (i, j) :: pairTracks df fuel (ps.filter fun p => p.1 != i) (qs.filter fun q => q.1 != j)

/-- Give each peak its track (R411). -/
def giveTracks (pairs : List (Nat × Nat)) (prev : List (Word32 × Nat)) : Nat → Nat → List MPeak → List MPeak × Nat
  | _, cnt, [] => ([], cnt)
  | i, cnt, p :: ps =>
    match pairs.find? fun e => e.1 == i with
    | some e =>
      let (r, c) := giveTracks pairs prev (i + 1) cnt ps
      ({ p with track := ((prev.getD e.2 (0, 0)).2) } :: r, c)
    | none =>
      let (r, c) := giveTracks pairs prev (i + 1) (if cnt = 0xFFFF then 1 else cnt + 1) ps
      ({ p with track := cnt, flags := p.flags + 8 } :: r, c)

def tracked (d : Dev) (ps : List MPeak) : List MPeak × Nat :=
  let df := numF (d.get Reg.MOD_TRACK.DF)
  let num (l : List Word32) : List (Nat × Num) := (List.range l.length).zip (l.map num32)
  let pairs := if df.isZero then [] else pairTracks df 16 (num (ps.map fun p => p.freq)) (num (d.mdl.prev.map fun q => q.1))
  giveTracks pairs d.mdl.prev 0 d.mdl.track ps

/-! ## Slots (R414) and publication (R412, R413) -/

/-- The peak a slot takes: the largest AMP among those that qualify. -/
def slotPeak (d : Dev) (s : Nat) (ps : List MPeak) : Option MPeak :=
  let lo := numF (d.getN Reg.T_MSLOT.F_LO s)
  let hi := numF (d.getN Reg.T_MSLOT.F_HI s)
  let cm := numF (d.getN Reg.T_MSLOT.CONF_MIN s)
  let ok := ps.filter fun p => lo.le (num32 p.freq) && (num32 p.freq).le hi && cm.le (num32 p.conf) &&
    !p.flags.testBit 1 && !p.flags.testBit 2
  ok.foldl (fun (m : Option MPeak) p =>
    match m with
    | none => some p
    | some q => if Num.lt (num32 q.amp) (num32 p.amp) then some p else some q) none

/-- The value of slot s. -/
def slotNew (d : Dev) (o : List BinOut) (ps : List MPeak) (s : Nat) : Word32 :=
  let q := d.getN Reg.T_MSLOT.QTY s
  let l := d.getN Reg.T_MSLOT.LANE s
  let b := d.getN Reg.T_MSLOT.BIN s
  if !d.onN Reg.T_MSLOT.EN s then wMissing
  else if q = 7 ∨ ((q = 4 ∨ q = 5) ∧ mdlL d ≤ l) ∨ (q = 6 ∧ mdlB d ≤ b) then wInvalid
  else if q = 6 then (o.getD b binSkipped).sigma.getD 0 wParity
  else match slotPeak d s ps with
    | none => wMissing
    | some p =>
      let re := num32 (p.shape.getD (2 * l) 0)
      let im := num32 (p.shape.getD (2 * l + 1) 0)
      match q with
      | 0 => p.freq
      | 1 => p.damp
      | 2 => p.amp
      | 3 => p.conf
      | 4 => to32 (magnitude re im)
      | _ => to32 (atan2Deg im re)

/-- The two tables of the last epoch (R413). -/
def epochTables (o : List BinOut) (ps : List MPeak) (d : Dev) : Dev :=
  let d1 := (List.range 16).foldl (fun x i =>
    let b := match ps[i]? with
      | some p => peakHead p
      | none => []
    (List.range 8).foldl (fun y w => y.setN Reg.T_MPEAK.W (i * 8 + w) (leVal (slice b (4 * w) 4))) x) d
  (List.range o.length).foldl (fun x b => (List.range 4).foldl (fun y k =>
    y.setN Reg.T_MSV.S (b * 4 + k) ((o.getD b binSkipped).sigma.getD k 0).toNat) x) d1

/-- Decompose the bins of an epoch. -/
def decomposeAll (skip : Bool) : List Nat → Dev → List BinOut × Dev
  | [], d => ([], d)
  | b :: bs, d =>
    let (o, d1) := if skip then (binSkipped, d) else binDecompose b d
    let (os, d2) := decomposeAll skip bs d1
    (o :: os, d2)

/-- Decomposition completes: peaks, slots, tables and the record (R403 to R415). -/
def epochDone (t : Time) (p : MProc) (d : Dev) : Dev :=
  let noIter := d.get Reg.MOD_DEC.ITER == 0
  let (o, d1) := decomposeAll (noIter || p.segs == 0) (List.range (mdlB d)) d
  let bad := o.filter fun x => x.done && !x.conv
  let d2 := bad.foldl (fun x _ => (x.sat Reg.MOD_CNT_NOCONV.N).cause intMod 6 0 0) d1
  let (ps0, d3) := peakFits o (peakBins d2 o) d2
  let (ps, cnt) := tracked d3 ps0
  let flags := b2n (p.segs == 0) + 2 * b2n (p.segs != 0 && (List.range (mdlB d)).any fun b => d3.mdl.marked.contains b) +
    4 * b2n (!bad.isEmpty) + 32 * b2n noIter
  let slots := (List.range 64).map (slotNew d3 o ps)
  let d4 := if p.segs = 0 then d3
    else ((List.range 64).zip slots).foldl (fun x e => x.setN Reg.T_MSLOTV.V e.1 e.2.toNat) d3
  let d5 := epochTables o ps (d4.modMdl fun m => { m with
    prev := ps.map fun q => (q.freq, q.track), track := cnt, data := m.data || p.segs != 0 })
  let body := (o.map fun x => (x.sigma.map fun w => le 4 w.toNat).flatten).flatten
  let recs := (ps.map fun q => peakHead q ++ (q.shape.map fun w => le 4 w.toNat).flatten).flatten
  let hdr := mdlHeader d p ps.length flags ((o.map fun x => x.sweeps).sum) bad.length t.st32
  procEnd t ((procTime t p (mdlRecord (hdr ++ body ++ recs) (d5.sat Reg.MOD_CNT_EPOCH.N))).cause intMod 1 0 0)

def epochPublish (t : Time) (d : Dev) : Dev :=
  match d.mdl.proc with
  | some p => if p.snap then d else withCfg p.cfg (epochDone t p) d
  | none => d

def execEpochPublish (s : State) : Host.Outcome State Fault Refusal := run s fun t d => epochPublish t d

/-! ## Epoch boundaries (R399, R400, R402) -/

def epochInstant (d : Dev) (k : Nat) : Nat := d.mdl.t0 * 1000000000 + k * d.get Reg.MOD_EPOCH.EPOCH * 100000000

def epochBoundary (t : Time) (d : Dev) : Dev :=
  let k := d.mdl.epoch + 1
  let b := epochInstant d k
  if !mdlRuns d || decide (t.ns < b) then d
  else
    let d1 := ((((d.modMdl fun m => { m with epoch := k }).set Reg.MOD_EPNUM.N k).set Reg.MOD_LAST_NS.NS
      (b % 1000000000)).set Reg.MOD_LAST_SL.SEC (b / 1000000000)).set Reg.MOD_LAST_SH.SEC (b / 1000000000 / 2 ^ 32)
    if d.mdl.proc.isSome then (d1.sat Reg.MOD_CNT_EPSKIP.N).cause intMod 2 0 0
    else
      let hw := d.get Reg.GLB_SPLIT.MODAL == 1
      let p : MProc := ⟨k, b, d.mdl.segs, d.mdl.lastSeg, !hw, t.loc, t.st32, false, d.get Reg.MOD_SNAP.FIRST,
        d.regs.filter fun e => epochCfg e.1⟩
      (d1.modMdl fun m => { m with hw := hw, proc := some p }).set Reg.MOD_STATUS.STATE 3

def execEpochBoundary (s : State) : Host.Outcome State Fault Refusal := run s fun t d => epochBoundary t d

/-! ## Snapshots (R416, R417) -/

/-- One past the last bin of a snapshot. -/
def snapEnd (d : Dev) : Nat := min (d.get Reg.MOD_SNAP.FIRST + d.get Reg.MOD_SNAP.NBIN) (mdlB d)

/-- A bin's record (Table MOD-7 and its entries). -/
def snapBin (b : Nat) (d : Dev) : List Byte × Dev :=
  let rd := (triPairs (mdlL d)).foldl (fun (acc : List (Option (Word32 × Word32)) × Dev) e =>
    let (g, x) := readEntry b e.1 e.2 acc.2
    (acc.1 ++ [g], x)) ([], d)
  let bad := rd.1.any fun g => g.isNone
  let d1 := if bad then markBin b rd.2 else rd.2
  let flags := b2n (d1.mdl.marked.contains b) + 2 * b2n bad
  let hdr := le 2 b ++ le 2 (mdlL d) ++ le 4 (d.getN Reg.T_MBIN.F b) ++ le 4 (tget d.mdl.m b) ++ le 1 flags ++ le 3 0
  (hdr ++ (rd.1.map fun g => match g with
    | some w => le 4 w.1.toNat ++ le 4 w.2.toNat
    | none => le 4 wParity.toNat ++ le 4 wParity.toNat).flatten, d1)

/-- The snapshot ends once its last bin is written. -/
def snapDone (t : Time) (p : MProc) (d : Dev) : Dev :=
  if p.hdr && decide (snapEnd d ≤ p.next) then procEnd t ((procTime t p d).cause intMod 1 0 0)
  else d.modMdl fun m => { m with proc := some p }

/-- The header or the next bin of a snapshot goes into a free descriptor (R416, R417). -/
def snapWrite (t : Time) (p : MProc) (d : Dev) : Dev :=
  let r := d.get Reg.MOD_HOST.SNAP_RING
  if !(ringIs d r clsModl && ringFree d r) then d
  else if !p.hdr then
    let (k, d1) := d.draw
    let nb := d.get Reg.MOD_SNAP.NBIN
    let d2 := (deliverSt r (mdlHeader d p 0 16 0 0 (Config.freeWord k).toNat) [] false
      (if nb = 0 then stSkipped else stOk) d1).2
    snapDone t { p with hdr := true } d2
  else
    let (bytes, d1) := snapBin p.next d
    snapDone t { p with next := p.next + 1 } (deliver r bytes [] d1).2

def snapshotBinWrite (t : Time) (d : Dev) : Dev :=
  match d.mdl.proc with
  | some p => if p.snap then withCfg p.cfg (snapWrite t p) d else d
  | none => d

def execSnapshotBinWrite (s : State) : Host.Outcome State Fault Refusal := run s fun t d => snapshotBinWrite t d

/-- The snapshot has run longer than SNAP_TMO (R417). -/
def snapshotTimeout (t : Time) (d : Dev) : Dev :=
  match d.mdl.proc with
  | none => d
  | some p =>
    let tmo := (putCfg p.cfg d).get Reg.MOD_HOST.SNAP_TMO
    if p.snap && tmo != 0 && decide (tmo * 10000000 < t.loc - p.start) then snapFail t d else d

def execSnapshotTimeout (s : State) : Host.Outcome State Fault Refusal := run s fun t d => snapshotTimeout t d

end Sys2Proof.Machine
end

