-- ==== Sys2Proof/Machine/Scheduler.lean ====
section
/-!
DEFINITION. Dispatch: threads, ready lists, delays, waits and timers, the tick, TAKE and spilling (the chapter on
Dispatch).
-/

namespace Sys2Proof.Machine

open Sys2Proof

def Dev.modDsp (d : Dev) (f : Dsp → Dsp) : Dev := { d with dsp := f d.dsp }

/-! ## Threads -/

def thState (d : Dev) (th : Nat) : Nat := d.getN Reg.T_THSTAT.STATE th
def thCpu (d : Dev) (th : Nat) : Nat := d.getN Reg.T_THREAD.CPU th
def thPrio (d : Dev) (th : Nat) : Nat := d.getN Reg.T_THREAD.PRIO th

/-- Dispatch accepts operations: on, and GLB_SPLIT.DSPT is not 0 (R514). -/
def dspOn (d : Dev) : Bool := d.up islMgt && d.on Reg.DSP_CTRL.EN && d.get Reg.GLB_SPLIT.DSPT != 0

/-! ## NEXT and its message (R501, R502) -/

/-- The head of the highest list of processor c that holds an entry on chip. -/
def nextThread (d : Dev) (c : Nat) : Option Nat :=
  ((List.range 64).reverse.filterMap fun p =>
    (tget d.dsp.ready (c * 64 + p)).find? fun th => th ∉ d.dsp.spilledReady).head?

/-- Ask processor c to look: a message on its vector, or Xaorn's internal interrupt (R502). -/
def dspMessage (c : Nat) (d : Dev) : Dev :=
  if c < 16 then d.request (d.getN Reg.DSP_CPUc_CFG.VEC c)
  else d.modDsp fun x => { x with xaornIrq := tset x.xaornIrq c (tget x.xaornIrq c + 1) }

/-- NEXT of processor c follows its lists, and a change that outranks CUR requests a message. -/
def nextRefresh (c : Nat) (d : Dev) : Dev :=
  let was := d.word (Reg.DSP_CPUc_NEXT.VALID.reg.addr c)
  let d1 := match (if dspOn d then nextThread d c else none) with
    | some th => ((d.setN Reg.DSP_CPUc_NEXT.THREAD c th).setN Reg.DSP_CPUc_NEXT.PRIO c (thPrio d th)).setN
        Reg.DSP_CPUc_NEXT.VALID c 1
    | none => ((d.setN Reg.DSP_CPUc_NEXT.THREAD c 0).setN Reg.DSP_CPUc_NEXT.PRIO c 0).setN Reg.DSP_CPUc_NEXT.VALID c 0
  let idle := !d1.onN Reg.DSP_CPUc_CUR.VALID c
  let outranks := d1.onN Reg.DSP_CPUc_CFG.PREEMPT c &&
    decide (thPrio d1 (d1.getN Reg.DSP_CPUc_CUR.THREAD c) < d1.getN Reg.DSP_CPUc_NEXT.PRIO c)
  if d1.word (Reg.DSP_CPUc_NEXT.VALID.reg.addr c) != was && d1.onN Reg.DSP_CPUc_NEXT.VALID c &&
      d1.onN Reg.DSP_CPUc_CFG.EN c && (idle || outranks)
  then dspMessage c d1 else d1

/-- NEXT of every processor is formed again, and DSP_STATUS.RUN shows whether Dispatch runs. -/
def nextAll (d : Dev) : Dev := (List.range 18).foldl (fun d c => nextRefresh c d) (d.setB Reg.DSP_STATUS.RUN 0 (dspOn d))

/-! ## What the chip holds (R505, R510 to R512) -/

/-- Threads READY, in lists by processor and priority. -/
def readyThreads (d : Dev) : List Nat := (d.dsp.ready.map fun e => e.2).flatten

/-- DSP_STATUS and DSP_SPILL_CFG.USED follow what Dispatch holds. -/
def dspCounts (d : Dev) : Dev :=
  let sp := (d.dsp.timed.filter fun e => e.spilled).length + d.dsp.spilledReady.length
  ((d.set Reg.DSP_STATUS.READY (readyThreads d).length).set Reg.DSP_STATUS.TIMED
    (d.dsp.timed.filter fun e => !e.spilled).length).set Reg.DSP_SPILL_CFG.USED (min sp 0xFFFF)

/-- DSP_INT.SPILL is set at the first spill after each return to zero spilled entries (R510). -/
def spillNote (d : Dev) : Dev :=
  if d.dsp.spilledReady.isEmpty && !d.dsp.timed.any (fun e => e.spilled) then d.cause intDsp 2 0 0 else d

/-- Nanoseconds from now to a target under TKP_CTRL.STMODE. -/
def dspDist (t : Time) (d : Dev) (target epoch : Nat) : Int :=
  if d.tkp.extend then sdiff (2 ^ 48) (epoch * 2 ^ 32 + target) t.ns else sdiff (2 ^ 32) target t.ns

/-- The first tick boundary at or after a target, in nanoseconds from now. -/
def dspDue (t : Time) (d : Dev) (target epoch : Nat) : Int :=
  let tick : Int := (max 1 (d.get Reg.DSP_TICK.US) * 1000 : Nat)
  let x := (t.ns : Int) + dspDist t d target epoch
  (x + tick - 1) / tick * tick - t.ns

/-- Priority of a READY thread's entry for spilling: entries of every processor compared by priority alone. -/
def lowestReady (d : Dev) : Option Nat :=
  ((List.range 64).filterMap fun p =>
    ((List.range 18).filterMap fun c =>
      ((tget d.dsp.ready (c * 64 + p)).filter fun th => th ∉ d.dsp.spilledReady).getLast?).getLast?).head?

/-- A thread's entry goes to the spill area. -/
def spillReady (th : Nat) (d : Dev) : Dev :=
  (spillNote d).modDsp (fun x => { x with spilledReady := x.spilledReady ++ [th] })
    |>.setN Reg.T_THSTAT.SPILLED th 1

/-- Does a spilled entry rank at or above this priority? A spilled entry never ranks above one kept on chip (R510). -/
def spilledAbove (d : Dev) (prio : Nat) : Bool := d.dsp.spilledReady.any fun u => decide (prio ≤ thPrio d u)

/-- A READY thread joins its list, at the tail or at the head (R500); a full on-chip store spills the newest entry
of the lowest priority (R510). -/
def joinReady (th : Nat) (atHead : Bool) (d : Dev) : Dev :=
  let k := thCpu d th * 64 + thPrio d th
  let l := tget d.dsp.ready k
  let d1 := (d.modDsp fun x => { x with ready := tset x.ready k (if atHead then th :: l else l ++ [th]) }).setN
    Reg.T_THSTAT.STATE th 2
  let d2 :=
    if spilledAbove d (thPrio d th) && !atHead then spillReady th d1
    else if 512 < (readyThreads d1).length - d1.dsp.spilledReady.length then
      match lowestReady d1 with
      | some u => spillReady u d1
      | none => d1
    else d1
  dspCounts d2

/-- A thread leaves its ready list. -/
def leaveReady (th : Nat) (d : Dev) : Dev :=
  let k := thCpu d th * 64 + thPrio d th
  dspCounts ((d.modDsp fun x => { x with
    ready := tset x.ready k ((tget x.ready k).erase th), spilledReady := x.spilledReady.erase th }).setN
      Reg.T_THSTAT.SPILLED th 0)

/-- A thread becomes READY (R500): it joins the tail of its list and is counted. -/
def makeReady (th : Nat) (d : Dev) : Dev :=
  nextRefresh (thCpu d th) (joinReady th false ((d.wrapInc Reg.T_THSTAT.WAKES th).sat Reg.DSP_CNT_WAKE.N))

/-! ## Ending a wait -/

/-- The class-specific bytes of a DSPT completion (Table DSP-6). -/
def dspExt (th wake flags wt earg : Nat) : List Byte := le 2 th ++ le 1 wake ++ le 1 flags ++ le 4 wt ++ le 4 earg

/-- A completion whose thread did not become READY and whose timer did not fire: WT is not stated, a free value. -/
def dspExtFree (th wake flags : Nat) (d : Dev) : List Byte × Dev :=
  let (k, d1) := d.draw
  (dspExt th wake flags (Config.freeWord k).toNat 0, d1)

/-- The wait of a thread is over: its pending target and its wait fields are gone. Whether its target had been
spilled. -/
def clearWait (th : Nat) (d : Dev) : Bool × Dev :=
  let was := d.dsp.timed.any fun e => e.own == .thread th && e.wasSpilled
  let d1 := d.modDsp fun x => { x with
    waits := tset x.waits th none, timed := x.timed.filter fun e => e.own != .thread th }
  (was, dspCounts (((((d1.setN Reg.T_THSTAT.WAIT th 0).setN Reg.T_THSTAT.TMO th 0).setN Reg.T_THSTAT.SPILLED th 0).setN
    Reg.T_THSTAT.TARGET th 0).setN Reg.T_THSTAT.ARG th 0))

/-- The pending DELAY or WAIT of a thread ends and the thread becomes READY (Table DSP-6). -/
def wakeThread (t : Time) (th wake status earg : Nat) (d : Dev) : Dev :=
  match tget d.dsp.waits th with
  | none => d
  | some w =>
    let (sp, d1) := clearWait th d
    makeReady th (endStarted w.ring w.idx status 0 (dspExt th wake (2 * b2n sp) t.st32 earg) none d1)

/-- The pending DELAY or WAIT of a thread ends and the thread is BLOCKED. -/
def blockThread (th wake status : Nat) (d : Dev) : Dev :=
  match tget d.dsp.waits th with
  | none => d
  | some w =>
    let (sp, d1) := clearWait th d
    let (x, d2) := dspExtFree th wake (2 * b2n sp) d1
    endStarted w.ring w.idx status 0 x none (d2.setN Reg.T_THSTAT.STATE th 1)

/-! ## Timed targets (R504, R505, R510, R512) -/

/-- A target has come or has passed by the instant at which it is taken up, `late` ns after its tick boundary (R504). -/
def timedFire (t : Time) (late : Nat) (e : TimedEnt) (d : Dev) : Dev :=
  let d0 := dspCounts (d.modDsp fun x => { x with timed := x.timed.erase e })
  let expired := decide (e.tol * 1000 < late)
  let status := if expired then stExpired else if 0 < late then stLate else stOk
  let d1 := if expired then (d0.sat Reg.DSP_CNT_EXPIRED.N).cause intDsp 1 0 stExpired
    else if 0 < late then (d0.sat Reg.DSP_CNT_LATE.N).cause intDsp 1 0 stLate else d0
  match e.own with
  | .thread th => if expired then blockThread th 1 status d1 else wakeThread t th 1 status 0 d1
  | .timer ring idx tok =>
    if expired then
      let (x, d2) := dspExtFree 0 0 (2 * b2n e.wasSpilled) d1
      endStarted ring idx status 0 x none d2
    else
      endStarted ring idx status 0 (dspExt 0 0 (2 * b2n e.wasSpilled) t.st32 0) none
        (d1.setN Reg.HIF_TOKk.VAL tok (d1.getN Reg.HIF_TOKk.VAL tok + 1))

/-- The latest target held on chip. -/
def latestTimed (t : Time) (d : Dev) : Option TimedEnt :=
  (d.dsp.timed.filter fun e => !e.spilled).foldl (fun m e =>
    match m with
    | none => some e
    | some x => if dspDist t d x.target x.epoch ≤ dspDist t d e.target e.epoch then some e else some x) none

/-- Timed targets the spill area may still take (R512). -/
def spillRoom (d : Dev) : Nat :=
  let n := d.get Reg.DSP_SPILL_CFG.LOG2
  (if n = 0 then 0 else 2 ^ n - 1536) - (d.dsp.timed.filter fun e => e.spilled).length

/-- A target is to be held. `none`: it must spill and cannot (R512). -/
def holdTimed (t : Time) (e : TimedEnt) (d : Dev) : Option Dev :=
  let add (x : TimedEnt) (d : Dev) : Dev := d.modDsp fun s => { s with timed := s.timed ++ [x] }
  let mark (d : Dev) (own : TimedOwner) : Dev := match own with
    | .thread th => d.setN Reg.T_THSTAT.SPILLED th 1
    | .timer _ _ _ => d
  if (d.dsp.timed.filter fun x => !x.spilled).length < 2048 then some (dspCounts (add e d))
  else if spillRoom d = 0 then none
  else match latestTimed t d with
    | none => some (dspCounts (add e d))
    | some l =>
      if dspDist t d l.target l.epoch < dspDist t d e.target e.epoch then
        some (dspCounts (mark (add { e with spilled := true, wasSpilled := true } (spillNote d)) e.own))
      else
        some (dspCounts (mark (add e ((spillNote d).modDsp fun s => { s with timed := s.timed.map fun x =>
          if x == l then { x with spilled := true, wasSpilled := true } else x })) l.own))

/-! ## Operations (Tables DSP-4 and DSP-5) -/

def dpThread (ws : DescWords) : Nat := bits (dBytes ws 24 2) 0 11
def dpEvent (ws : DescWords) : Nat := bits (dByte ws 26) 0 2
def dpTmo (ws : DescWords) : Bool := (dByte ws 26).testBit 2
def dpEdge (ws : DescWords) : Nat := bits (dByte ws 26) 3 2
def dpPrio (ws : DescWords) : Nat := bits (dByte ws 27) 0 6
def dpTime (ws : DescWords) : Nat := dBytes ws 28 4
def dpEpoch (ws : DescWords) : Nat := dBytes ws 32 2
def dpTol (ws : DescWords) : Nat := dBytes ws 34 2
def dpArg (ws : DescWords) : Nat := dBytes ws 36 4

/-- A DSPT descriptor completes at once; `ready` is whether its thread became READY with it. -/
def dspDone (t : Time) (n : Nat) (h : Taken) (status wake earg : Nat) (ready : Bool) (d : Dev) : Dev :=
  if ready then completeHead t n h status 0 (dspExt (dpThread h.words) wake 0 t.st32 earg) d
  else
    let (x, d1) := dspExtFree (dpThread h.words) wake 0 d
    completeHead t n h status 0 x d1

/-- The head descriptor of ring n with this opcode, if Dispatch can take it: one that cannot be served completes at
once (R21, R514). -/
def dspOp (t : Time) (n op : Nat) (f : Taken → Dev → Dev) (d : Dev) : Dev :=
  match startable d n clsDspt op with
  | none => d
  | some h =>
    if !d.up islMgt then dspDone t n h stAborted 0 0 false d
    else if !dspOn d then dspDone t n h stRejected 0 0 false d
    else f h d

/-- A thread that runs leaves its processor (R499). -/
def leaveCur (th : Nat) (d : Dev) : Dev :=
  let c := thCpu d th
  if thState d th = 3 then (d.setN Reg.DSP_CPUc_CUR.VALID c 0).setN Reg.DSP_CPUc_CUR.THREAD c 0 else d

def dspReady (t : Time) (n : Nat) : Dev → Dev :=
  dspOp t n 0x10 fun h d =>
    let th := dpThread h.words
    let st := thState d th
    if st = 1 then dspDone t n h stOk 0 0 true (makeReady th d)
    else if st = 4 ∨ st = 5 then dspDone t n h stOk 0 0 true (wakeThread t th 2 stOk 0 d)
    else dspDone t n h stRejected 0 0 false d

def execDspReady (n : Nat) (s : State) : Host.Outcome State Fault Refusal := run s fun t d => dspReady t n d

/-- A thread leaves READY or RUNNING, if it is in one, to wait. -/
def leaveRun (th : Nat) (d : Dev) : Dev :=
  if thState d th = 2 then leaveReady th d else leaveCur th d

/-- A thread begins its wait. -/
def beginWait (t : Time) (n : Nat) (h : Taken) (kind state : Nat) (d : Dev) : Dev :=
  let ws := h.words
  let th := dpThread ws
  let d1 := leaveRun th (startHead t n h d)
  let d2 := d1.modDsp fun x => { x with waits := tset x.waits th (some ⟨n, h.idx, kind, dpArg ws, dpEpoch ws, dpEdge ws⟩) }
  nextRefresh (thCpu d th) ((d2.setN Reg.T_THSTAT.STATE th state).setN Reg.T_THSTAT.WAIT th kind)

/-- The timed part of a DELAY or WAIT when its descriptor is taken (R504): held, or taken up at once. -/
def waitTimed (t : Time) (n : Nat) (h : Taken) (begin_ : Dev → Dev) (d : Dev) : Dev :=
  let ws := h.words
  let th := dpThread ws
  let e : TimedEnt := ⟨.thread th, dpTime ws, dpEpoch ws, dpTol ws, false, false⟩
  let due := dspDue t d e.target e.epoch
  if due ≤ 0 then timedFire t (-due).toNat e (begin_ d)
  else match holdTimed t e d with
    | none => dspDone t n h stNoSpace 0 0 false ((d.sat Reg.DSP_CNT_NOSPACE.N).cause intDsp 3 0 stNoSpace)
    | some d1 => (begin_ d1).setN Reg.T_THSTAT.TARGET th (dpTime ws)

/-- May the thread take a DELAY or a WAIT (Table DSP-5)? -/
def mayWait (d : Dev) (th : Nat) : Bool := let s := thState d th; s == 1 || s == 2 || s == 3

def dspDelay (t : Time) (n : Nat) : Dev → Dev :=
  dspOp t n 0x11 fun h d =>
    if mayWait d (dpThread h.words) then waitTimed t n h (beginWait t n h 1 4) d
    else dspDone t n h stRejected 0 0 false d

def execDspDelay (n : Nat) (s : State) : Host.Outcome State Fault Refusal := run s fun t d => dspDelay t n d

/-- Is an instant at or after ARG under TKP_CTRL.STMODE (R506)? -/
def closeReached (d : Dev) (inst arg epoch : Nat) : Bool :=
  if d.tkp.extend then decide (0 ≤ sdiff (2 ^ 48) inst (epoch * 2 ^ 32 + arg)) else decide (0 ≤ sdiff (2 ^ 32) inst arg)

/-- Has a spread at or after ARG already closed (R506)? -/
def alreadyClosed (d : Dev) (ws : DescWords) : Option Nat :=
  if dpEvent ws = 0 then
    match d.aln.last with
    | some i => if closeReached d i (dpArg ws) (dpEpoch ws) then some i else none
    | none => none
  else none

def dspWait (t : Time) (n : Nat) : Dev → Dev :=
  dspOp t n 0x12 fun h d =>
    let ws := h.words
    let th := dpThread ws
    let b (d : Dev) : Dev := (beginWait t n h (dpEvent ws + 2) 5 d).setN Reg.T_THSTAT.ARG th (dpArg ws)
    if !mayWait d th then dspDone t n h stRejected 0 0 false d
    else match alreadyClosed d ws with
      | some i => wakeThread t th 0 stOk (i % 2 ^ 32) (b d)
      | none => if dpTmo ws then waitTimed t n h (fun d => (b d).setN Reg.T_THSTAT.TMO th 1) d else b d

def execDspWait (n : Nat) (s : State) : Host.Outcome State Fault Refusal := run s fun t d => dspWait t n d

def dspCancel (t : Time) (n : Nat) : Dev → Dev :=
  dspOp t n 0x13 fun h d =>
    let th := dpThread h.words
    let st := thState d th
    if st = 0 then dspDone t n h stRejected 0 0 false d
    else
      let d1 := if st = 4 ∨ st = 5 then blockThread th 3 stOk d else (leaveRun th d).setN Reg.T_THSTAT.STATE th 1
      dspDone t n h stOk 0 0 false (nextRefresh (thCpu d th) d1)

def execDspCancel (n : Nat) (s : State) : Host.Outcome State Fault Refusal := run s fun t d => dspCancel t n d

def dspSetPrio (t : Time) (n : Nat) : Dev → Dev :=
  dspOp t n 0x14 fun h d =>
    let th := dpThread h.words
    let p := dpPrio h.words
    if thState d th = 0 then dspDone t n h stRejected 0 0 false d
    else
      let d1 := if thState d th = 2 then joinReady th false ((leaveReady th d).setN Reg.T_THREAD.PRIO th p)
        else d.setN Reg.T_THREAD.PRIO th p
      dspDone t n h stOk 0 0 false (nextRefresh (thCpu d th) d1)

def execDspSetPrio (n : Nat) (s : State) : Host.Outcome State Fault Refusal := run s fun t d => dspSetPrio t n d

def dspTimer (t : Time) (n : Nat) : Dev → Dev :=
  dspOp t n 0x15 fun h d =>
    let ws := h.words
    let e : TimedEnt := ⟨.timer n h.idx (bits (dpArg ws) 0 6), dpTime ws, dpEpoch ws, dpTol ws, false, false⟩
    let due := dspDue t d e.target e.epoch
    if due ≤ 0 then timedFire t (-due).toNat e (startHead t n h d)
    else match holdTimed t e d with
      | none => dspDone t n h stNoSpace 0 0 false ((d.sat Reg.DSP_CNT_NOSPACE.N).cause intDsp 3 0 stNoSpace)
      | some d1 => startHead t n h d1

def execDspTimer (n : Nat) (s : State) : Host.Outcome State Fault Refusal := run s fun t d => dspTimer t n d

/-! ## The tick (R504, R514, R516) -/

/-- Every target whose tick boundary has come is taken up, in the order in which they were posted. -/
def dispatchTick (t : Time) (d : Dev) : Dev :=
  let tick := max 1 (d.get Reg.DSP_TICK.US) * 1000
  let k := t.ns / tick
  if !dspOn d ∨ k = d.dsp.lastTick then d
  else
    let back := t.ns - k * tick
    let due := d.dsp.timed.filter fun e => decide (dspDue t d e.target e.epoch + back ≤ 0)
    due.foldl (fun x e => timedFire t (-(dspDue t x e.target e.epoch + back)).toNat e x)
      (d.modDsp fun x => { x with lastTick := k })

def execDispatchTick (s : State) : Host.Outcome State Fault Refusal := run s fun t d => dispatchTick t d

/-! ## Events (R506, R507) -/

/-- A spread has closed: the threads waiting for it wake (R506). -/
def dspClose (t : Time) (inst : Nat) (d : Dev) : Dev :=
  if !dspOn d then d
  else d.dsp.waits.foldl (fun x e =>
    match e.2 with
    | some w => if w.kind = 2 ∧ closeReached d inst w.arg w.epoch then wakeThread t e.1 0 stOk (inst % 2 ^ 32) x else x
    | none => x) d

/-- An edge of a rule has been posted: the threads waiting for it wake (R507). -/
def dspAlarm (t : Time) (rule : Nat) (rising : Bool) (d : Dev) : Dev :=
  if !dspOn d then d
  else d.dsp.waits.foldl (fun x e =>
    match e.2 with
    | some w =>
      if w.kind = 3 ∧ bits w.arg 0 12 = rule ∧ (w.edge = 0 ∨ (w.edge = 1 ∧ rising) ∨ (w.edge = 2 ∧ !rising)) then
        wakeThread t e.1 0 stOk (rule + 2 ^ 16 * b2n rising) x
      else x
    | none => x) d

/-! ## TAKE (R503) -/

/-- A read of DSP_CPUc_TAKE. -/
def dspTake (p : Path) (c : Nat) (d : Dev) : Dev :=
  if !d.onN Reg.DSP_CPUc_NEXT.VALID c then d.answer p 0
  else
    let th := d.getN Reg.DSP_CPUc_NEXT.THREAD c
    let cur := d.getN Reg.DSP_CPUc_CUR.THREAD c
    let w := th + 2 ^ 11 * d.getN Reg.DSP_CPUc_NEXT.PRIO c + 2 ^ 31
    let d1 := (leaveReady th d).setN Reg.T_THSTAT.STATE th 3
    let d2 := if d.onN Reg.DSP_CPUc_CUR.VALID c then (joinReady cur true d1).sat Reg.DSP_CNT_PREEMPT.N else d1
    let d3 := ((d2.setN Reg.DSP_CPUc_CUR.THREAD c th).setN Reg.DSP_CPUc_CUR.VALID c 1).setN Reg.DSP_CPUc_USER.USER c
      (d.getN Reg.T_THREAD.USER th)
    (nextRefresh c d3).answer p (BitVec.ofNat 32 w)

/-- May this read take a thread? Processors 16 and 17 take nothing while Xaorn does not run (R515). -/
def mayTake (p : Path) (c : Nat) (d : Dev) : Bool :=
  decide (c < 18) && d.up islMgt && (p != .xaorn || d.pwr.xaornRuns)

def execDspTake (p : Path) (cpu : Nat) (s : State) : Host.Outcome State Fault Refusal :=
  run s fun _ d => if mayTake p cpu d then dspTake p cpu d else d

/-! ## Spilled entries (R511, R513) -/

/-- The earliest spilled target. -/
def earliestSpilled (t : Time) (d : Dev) : Option TimedEnt :=
  (d.dsp.timed.filter fun e => e.spilled).foldl (fun m e =>
    match m with
    | none => some e
    | some x => if dspDist t d e.target e.epoch < dspDist t d x.target x.epoch then some e else some x) none

/-- The spilled READY thread of the highest priority, the oldest of them. -/
def highestSpilled (d : Dev) : Option Nat :=
  d.dsp.spilledReady.foldl (fun m th =>
    match m with
    | none => some th
    | some u => if thPrio d u < thPrio d th then some th else some u) none

/-- A spilled target has been read back, or its entry is lost (R513). -/
def fetchTimed (e : TimedEnt) (ok : Bool) (d : Dev) : Dev :=
  if ok then
    let d1 := d.modDsp fun x => { x with timed := x.timed.map fun y => if y == e then { e with spilled := false } else y }
    match e.own with
    | .thread th => d1.setN Reg.T_THSTAT.SPILLED th 0
    | .timer _ _ _ => d1
  else
    let d1 := (d.modDsp fun x => { x with timed := x.timed.erase e }).cause intDsp 4 0 0
    match e.own with
    | .thread th => blockThread th 0 stRejected d1
    | .timer ring idx _ =>
      let (x, d2) := dspExtFree 0 0 2 d1
      endStarted ring idx stRejected 0 x none d2

/-- A spilled READY entry has been read back, or is lost (R513). -/
def fetchReady (th : Nat) (ok : Bool) (d : Dev) : Dev :=
  if ok then
    nextRefresh (thCpu d th) ((d.modDsp fun x => { x with spilledReady := x.spilledReady.erase th }).setN
      Reg.T_THSTAT.SPILLED th 0)
  else ((leaveReady th d).setN Reg.T_THSTAT.STATE th 1).cause intDsp 4 0 0

/-- One spilled entry is fetched back once a store is below seven eighths of its capacity (R511). -/
def spillFetch (t : Time) (ok : Bool) (d : Dev) : Dev :=
  if !d.up islMgt then d
  else
    let low := decide ((d.dsp.timed.filter fun e => !e.spilled).length < 1792)
    match (if low then earliestSpilled t d else none) with
    | some e => dspCounts (fetchTimed e ok d)
    | none =>
      if (readyThreads d).length - d.dsp.spilledReady.length < 448 then
        match highestSpilled d with
        | some th => dspCounts (fetchReady th ok d)
        | none => d
      else d

def execSpillFetch (ok : Bool) (s : State) : Host.Outcome State Fault Refusal := run s fun t d => spillFetch t ok d

/-! ## The thread table (R496, R497) -/

def dspRej (d : Dev) : Dev := d.cause intDsp 0 0 0

/-- A write to word 0 of thread entry th (R496, R497). A write of VALID = 1 while the thread is valid changes nothing. -/
def threadValidate (th : Nat) (v : Word32) (d : Dev) : Dev :=
  let cpu := bits v.toNat 1 5
  let valid := d.onN Reg.T_THREAD.VALID th
  if bitOf v 0 then
    if valid then dspRej d
    else if 18 ≤ cpu ∨ (512 ≤ th ∧ d.get Reg.DSP_SPILL_CFG.LOG2 = 0) then
      dspRej ((d.setN Reg.T_THREAD.CPU th cpu).setN Reg.T_THREAD.PRIO th (bits v.toNat 6 6))
    else (((d.setN Reg.T_THREAD.VALID th 1).setN Reg.T_THREAD.CPU th cpu).setN Reg.T_THREAD.PRIO th
      (bits v.toNat 6 6)).setN Reg.T_THSTAT.STATE th 1
  else if !valid then (d.setN Reg.T_THREAD.CPU th cpu).setN Reg.T_THREAD.PRIO th (bits v.toNat 6 6)
  else if thState d th = 1 then
    (((d.setN Reg.T_THREAD.VALID th 0).setN Reg.T_THREAD.CPU th cpu).setN Reg.T_THREAD.PRIO th (bits v.toNat 6 6)).setN
      Reg.T_THSTAT.STATE th 0
  else dspRej d

def execThreadValidate (th : Nat) (v : Word32) (s : State) : Host.Outcome State Fault Refusal :=
  run s fun _ d => if th < 2048 then onWrite 0x380000 (threadValidate th v) d else d

/-! ## Modes, disables and resets -/

/-- The waits and timers of the rings chosen end with ABORTED_RESET. -/
def dspAbort (which : Nat → Bool) (d : Dev) : Dev :=
  let d1 := d.dsp.waits.foldl (fun x e =>
    match e.2 with
    | some w => if which w.ring then blockThread e.1 3 stAborted x else x
    | none => x) d
  let d2 := d1.dsp.timed.foldl (fun x e =>
    match e.own with
    | .timer r idx _ =>
      if which r then
        let (b, x1) := dspExtFree 0 0 (2 * b2n e.wasSpilled) x
        endStarted r idx stAborted 0 b none (x1.modDsp fun s => { s with timed := s.timed.erase e })
      else x
    | .thread _ => x) d1
  dspCounts d2

/-- Disabling ring n ends every wait and timer outstanding on it (R463). -/
def dspRingEnd (n : Nat) (d : Dev) : Dev := dspAbort (fun r => r == n) d

/-- An HRST, an IRST of MGT or an SRST frees every thread and empties every list and timer (R515). -/
def dspFree (d : Dev) : Dev :=
  let d1 := (List.range 2048).foldl (fun x th =>
    if x.onN Reg.T_THREAD.VALID th || thState x th != 0 then
      ((((((x.setN Reg.T_THREAD.VALID th 0).setN Reg.T_THSTAT.STATE th 0).setN Reg.T_THSTAT.SPILLED th 0).setN
        Reg.T_THSTAT.WAIT th 0).setN Reg.T_THSTAT.TMO th 0).setN Reg.T_THSTAT.TARGET th 0).setN Reg.T_THSTAT.ARG th 0
    else x) d
  let d2 := (List.range 18).foldl (fun x c =>
    ((((x.setN Reg.DSP_CPUc_CUR.VALID c 0).setN Reg.DSP_CPUc_CUR.THREAD c 0).setN Reg.DSP_CPUc_NEXT.VALID c 0).setN
      Reg.DSP_CPUc_NEXT.THREAD c 0).setN Reg.DSP_CPUc_NEXT.PRIO c 0)
    { d1 with dsp := { (default : Dsp) with lastTick := d1.dsp.lastTick } }
  dspCounts (d2.set Reg.DSP_SPILL_CFG.LOG2 0)

end Sys2Proof.Machine
end

