-- ==== Sys2Proof/Machine/Rules.lean ====
section
/-!
DEFINITION. The rule pass with its two engines, INTEGRITY, the rule, area and detector entries, and the alarm actions: pins,
GOOSE templates, tokens, records (the chapter on rules, R336 to R385).
-/

namespace Sys2Proof.Machine

open Sys2Proof

def Dev.modRul (d : Dev) (f : Rul → Rul) : Dev := { d with rul := f d.rul }

/-- Closes wait for their evaluation, or edges for their actions. -/
def rulBusy (d : Dev) : Bool := !d.rul.evalQ.isEmpty || !d.rul.actQ.isEmpty

/-- GLB_SPLIT.RULES as it stands in effect: a change takes effect at the next close, and at once while nothing closes; the
evaluation of spreads already closed completes in the old mode (Table ARC-6). -/
def rulMode (d : Dev) : Nat := if d.on Reg.ALN_STATUS.RUN || rulBusy d then d.rul.mode else d.get Reg.GLB_SPLIT.RULES

/-- INTEGRITY drives outputs: in host mode outputs move on host command alone (R28, R381). -/
def integDrives (d : Dev) : Bool := d.rul.integ && rulMode d != 2

def rulRej (d : Dev) : Dev := d.cause intRul 0 0 0

/-- A rule's ACTIVE as the actions take it (R376, R381, R382). -/
def ruleActive (d : Dev) (r : Nat) : Bool :=
  d.onN Reg.T_RULE.VALID r &&
    (match rulMode d with
     | 0 => false
     | 2 => (d.getN Reg.RUL_HSTATEj.ACT (r / 32)).testBit (r % 32)
     | _ => d.onN Reg.T_RSTATE.ACTIVE r)

/-! ## STAT bits of outputs (R375) -/

/-- Does the rule mark a block of source s on output n? -/
def statMarks (d : Dev) (n r s : Nat) : Bool :=
  ruleActive d r && (d.getN Reg.T_RULE.STAT_OUT r).testBit n &&
    (d.onN Reg.T_RULE.STAT_ALL r || match opSource (d.getN Reg.T_RULE.OPA r) with
      | some x => x == s || rulMode d == 2
      | none => true)

/-- Bit 11 and the trigger reason of a block's STAT on output n. -/
def alarmBits (d : Dev) (n s : Nat) : Nat :=
  if rulMode d = 0 then 0
  else match (List.range 4096).find? fun r => statMarks d n r s with
    | some r => 2 ^ 11 + d.getN Reg.T_RULE.STAT_REASON r
    | none => if integDrives d && (d.get Reg.RUL_INTEG_OUT.MASK).testBit n then
        2 ^ 11 + d.get Reg.RUL_INTEG_CFG.STAT_REASON
      else 0

/-! ## INTEGRITY (R361 to R366) -/

/-- An item on which the engines differ: the first one since RUL_INTEG_STAT.COUNT was read is recorded. -/
def noteDiff (kind idx : Nat) (d : Dev) : Dev :=
  let d1 := d.modRul fun x => { x with diff := x.diff ++ [(kind, idx)] }
  if d.rul.integSeen then d1
  else ((d1.modRul fun x => { x with integSeen := true }).set Reg.RUL_INTEG_STAT.KIND kind).set Reg.RUL_INTEG_STAT.INDEX idx

/-- An edge joins the action queue. -/
def pushEdge (e : Edge) (d : Dev) : Dev := d.modRul fun x => { x with actQ := x.actQ ++ [e] }

/-- An edge of the spread of the last pass. -/
def edgeOf (t : Time) (d : Dev) (rule : Option Nat) (kind : Nat) (x : Word32) (dis latched : Bool) : Edge :=
  ⟨rule, kind, d.rul.lastInst, d.rul.lastSeq, x, d.rul.e0.nIsl, dis, latched, t.st32, d.rul.passes⟩

/-- INTEGRITY is raised: the alarm is set with a rising edge, and the Logbook record carries engine 1's values in a layout the
spec does not give. -/
def integRaise (t : Time) (d : Dev) : Dev :=
  let (a, d1) := d.draw
  let (b, d2) := d1.draw
  let d3 := ((d2.raise intRul 1).event (9 * 32 + 1) 0 (Config.freeWord a).toNat (Config.freeWord b).toNat)
  let d4 := (d3.modRul fun x => { x with integ := true, integAck := false }).set Reg.RUL_STATUS.INTEG 1
  if d.rul.integ then d4 else pushEdge (edgeOf t d none 1 wInvalid true false) d4

/-- The flips of a pass that strike one item of one engine. -/
def flipOf (ups : List Upset) (e1 : Bool) (kind idx : Nat) : Nat :=
  ups.foldl (fun a u => if u.eng1 == e1 && u.kind == kind && u.index == idx then a ^^^ u.flip else a) 0

/-- Is the address a word of a table the engines hold in two copies (Table RUL-1)? -/
def copiedTable (a : Nat) : Bool :=
  a % 4 == 0 && ((decide (0x300000 ≤ a) && decide (a < 0x320000)) || (decide (0x330000 ≤ a) && decide (a < 0x330400)) ||
    (decide (0x330800 ≤ a) && decide (a < 0x332800)) || (decide (0x334000 ≤ a) && decide (a < 0x33BE00)) ||
    (decide (0x344000 ≤ a) && decide (a < 0x34C000)))

/-- Engine 1's word at an address becomes w. -/
def setCopy1 (a : Nat) (w : Word32) (d : Dev) : Dev :=
  d.modRul fun x => { x with copy1 := if w = d.word a then fmErase x.copy1 a else fmInsert x.copy1 a w }

/-- A fault strikes a table word of one engine. -/
def tableUpset (u : Upset) (d : Dev) : Dev :=
  if u.kind ≠ 5 ∨ !copiedTable u.index then d
  else
    let a := u.index
    let f : Word32 := BitVec.ofNat 32 u.flip
    let w1 := tblWord d true a
    let d1 := if u.eng1 then setCopy1 a (w1 ^^^ f) d
      else setCopy1 a w1 { d with regs := rput d.regs a (d.word a ^^^ f) }
    if u.flip.testBit 32 then
      d1.modRul fun x => { x with badPar := tmod x.badPar a fun b => b ||| (if u.eng1 then 2 else 1) }
    else d1

/-- A write through the window reaches both copies. -/
def bothCopies (a : Nat) (d : Dev) : Dev :=
  d.modRul fun x => { x with copy1 := fmErase x.copy1 a, badPar := fmErase x.badPar a }

/-- One table word on which the copies differ: the copy with bad parity is rewritten from the other (R366). -/
def repairWord (a : Nat) (w1 : Word32) (d : Dev) : Dev :=
  match tget d.rul.badPar a with
  | 1 => bothCopies a { d with regs := rput d.regs a w1 }
  | 2 => bothCopies a d
  | _ => d

/-- The table copies are compared (R366). -/
def tableCopyCheck (t : Time) (ups : List Upset) (d : Dev) : Dev :=
  let d0 := ups.foldl (fun x u => tableUpset u x) d
  if !d0.on Reg.RUL_CTRL.COPY_CHK || d0.rul.copy1.isEmpty then d0
  else
    let d1 := d0.rul.copy1.foldl (fun x e => repairWord e.1 e.2 x) d0
    if rulMode d1 = 2 then d1
    else
      let (k, d2) := d1.draw
      integRaise t ((noteDiff 5 (Config.freeWord k).toNat d2).modRul fun x => { x with diff := [] })

def execTableCopyCheck (ups : List Upset) (s : State) : Host.Outcome State Fault Refusal :=
  run s fun t d => if d.up islAna then tableCopyCheck t ups d else d

/-- The alarm record of an edge or an acknowledgement (R378, R379, Table RUL-15). -/
def alarmRecord (e : Edge) (d : Dev) : Dev :=
  if !d.on Reg.RUL_HOST.HOST_EN then d
  else
    let n := d.get Reg.RUL_HOST.ALRM_RING
    let rec_ := tk80Bytes e.inst ++ le 2 (e.rule.getD 0xFFFF) ++ le 1 e.kind ++ le 1 (b2n e.dis + 2 * b2n e.latched) ++
      le 2 e.islands ++ le 4 e.x.toNat ++ le 4 e.seq ++ le 4 e.dec ++ le 4 d.rul.dropped
    let lost (d : Dev) : Dev :=
      ((d.sat Reg.RUL_CNT_ALRM_DROP.N).cause intRul 5 0 0).modRul fun x => { x with dropped := min (2 ^ 32 - 1) (x.dropped + 1) }
    if !ringIs d n clsAlrm then lost d
    else match deliver n rec_ [] d with
      | (.sent, d1) => d1.modRul fun x => { x with dropped := 0 }
      | (.noSpace, d1) => d1
      | (.dropped, d1) => lost d1

/-- INTEGRITY is acknowledged (R365, R378). -/
def integAck (t : Time) (d : Dev) : Dev :=
  if !d.rul.integ then d
  else alarmRecord (edgeOf t d none 2 wInvalid false false) (d.modRul fun x => { x with integAck := true })

def execIntegAck (s : State) : Host.Outcome State Fault Refusal :=
  run s fun t d => onWrite 0xC0014 (integAck t) d

/-- Software names a rule in RUL_ACK (R359, R378): a latched ACTIVE rule is acknowledged. -/
def ruleAck (t : Time) (r : Nat) (d : Dev) : Dev :=
  if !(d.onN Reg.T_RULE.VALID r && d.onN Reg.T_RULE.LATCH r && d.onN Reg.T_RSTATE.ACTIVE r) then d
  else
    let ack (e : EngV) : EngV := { e with rules := tmod e.rules r fun v => { v with acked := true } }
    let d1 := (d.modRul fun x => { x with e0 := ack x.e0, e1 := ack x.e1 }).setN Reg.T_RSTATE.ACKED r 1
    alarmRecord (edgeOf t d (some r) 2 (BitVec.ofNat 32 (d.getN Reg.T_RSTATE.X r)) false true) d1

def execRuleAck (rule : Nat) (s : State) : Host.Outcome State Fault Refusal :=
  run s fun t d => onWrite 0xC0014 (ruleAck t (rule % 4096)) d

/-! ## The pass (R336 to R364) -/

/-- One item of a step in both engines: each engine's result, a fault that strikes it, and the comparison. -/
def stepItem {α : Type} [Inhabited α] [DecidableEq α] (get : EngV → FMap α) (put : EngV → FMap α → EngV)
    (f : Bool → EngV → Nat → α) (hit : Nat → α → α) (same : α → α → Bool) (kind : Nat) (ups : List Upset) (i : Nat)
    (d : Dev) : Dev :=
  let strike (e1 : Bool) (v : α) : α := let x := flipOf ups e1 kind i; if x = 0 then v else hit x v
  let v0 := strike false (f false d.rul.e0 i)
  let v1 := strike true (f true d.rul.e1 i)
  let d1 := d.modRul fun x => { x with e0 := put x.e0 (tset (get x.e0) i v0), e1 := put x.e1 (tset (get x.e1) i v1) }
  if same v0 v1 then d1 else noteDiff kind i d1

/-- Bits flipped in a value: those of a binary64, or of an invalid code. -/
def flipVal (x : Nat) : RVal → RVal
  | .num w => .num (w ^^^ BitVec.ofNat 64 x)
  | .bad c => .bad (c ^^^ BitVec.ofNat 32 x)

def stepArea (ups : List Upset) (i : Nat) (d : Dev) : Dev :=
  stepItem (fun e => e.areas) (fun e m => { e with areas := m }) (fun e1 _ a => areaStep d e1 a)
    (fun x v => { v with f := flipVal x v.f }) (fun a b => decide (a.f = b.f) && decide (a.a = b.a) && a.valid == b.valid)
    0 ups i d

def stepPair (ups : List Upset) (i : Nat) (d : Dev) : Dev :=
  stepItem (fun e => e.pairs) (fun e m => { e with pairs := m }) (fun e1 e k => pairStep d e1 e k)
    (fun x v => { v with state := (v.state ^^^ x) % 4, count := (v.count ^^^ x / 4) % 256 })
    (fun a b => decide (a.state = b.state) && decide (a.count = b.count) && decide (a.base = b.base)) 1 ups i d

/-- Island grouping in both engines. -/
def stepIslands (ups : List Upset) (d : Dev) : Dev :=
  let one (e1 : Bool) (e : EngV) : EngV :=
    let (l, n) := grouping d e1 e
    { e with isl := (List.range 64).map fun a => (l.getD a 64 ^^^ flipOf ups e1 2 a) % 128, nIsl := n }
  let d1 := d.modRul fun x => { x with e0 := one false x.e0, e1 := one true x.e1 }
  (List.range 64).foldl (fun x a =>
    if d1.rul.e0.isl.getD a 64 = d1.rul.e1.isl.getD a 64 then x else noteDiff 2 a x) d1

def stepDet (ups : List Upset) (due : List Nat) (i : Nat) (d : Dev) : Dev :=
  stepItem (fun e => e.dets) (fun e m => { e with dets := m }) (fun e1 e q => detStep d e1 due e q)
    (fun x v => { v with active := v.active != x.testBit 0, env := flipVal (x / 2) v.env })
    (fun a b => decide (a.env = b.env) && a.active == b.active && (a.settle == 0) == (b.settle == 0)) 3 ups i d

def stepRule (ups : List Upset) (k : Nat) (due : List Nat) (i : Nat) (d : Dev) : Dev :=
  stepItem (fun e => e.rules) (fun e m => { e with rules := m }) (fun e1 e r => ruleStep d e1 k due e r)
    (fun x v => { v with
      active := v.active != x.testBit 0, pc := (v.pc ^^^ x / 2) % 256, dc := (v.dc ^^^ x / 512) % 128
      x := flipVal (x / 65536) v.x })
    (fun a b => a.active == b.active && decide (a.pc = b.pc) && decide (a.dc = b.dc) && decide (a.x = b.x)) 4 ups i d

/-- The state acted on for rule r (R363). -/
def acted (d : Dev) (r : Nat) : Bool :=
  let a := (tget d.rul.e0.rules r).active
  let b := (tget d.rul.e1.rules r).active
  if d.on Reg.RUL_CTRL.DIS_POL then a || b else a && b

/-- Rule r is decided by both engines: an edge if the state acted on differs from the one before (R360, R363). -/
def decideRule (t : Time) (was : Bool) (r : Nat) (d : Dev) : Dev :=
  let now := acted d r
  if now == was then d
  else
    let v0 := tget d.rul.e0.rules r
    let v := if v0.active == now then v0 else tget d.rul.e1.rules r
    pushEdge (edgeOf t d (some r) (b2n now) v.x.w32 false (d.onN Reg.T_RULE.LATCH r)) d

/-- Rule r in a pass: the falling edge of a rule whose VALID was cleared (R354), then its evaluation. -/
def passRule (t : Time) (ups : List Upset) (k : Nat) (due : List Nat) (r : Nat) (d : Dev) : Dev :=
  let d1 := match d.rul.falling.find? fun e => e.1 == r with
    | some e => pushEdge (edgeOf t d (some r) 0 e.2 false (d.onN Reg.T_RULE.LATCH r)) d
    | none => d
  if eon d1 false Reg.T_RULE.VALID r || eon d1 true Reg.T_RULE.VALID r then
    decideRule t (tget d1.rul.e0.rules r).active r (stepRule ups k due r d1)
  else d1

/-- The differing items take one engine's state (R364). -/
def copyBack (d : Dev) : Dev :=
  d.rul.diff.foldl (fun x e =>
    let i := e.2
    let from1 : Bool := e.1 == 4 && (tget x.rul.e0.rules i).active != acted d i
    let m {α : Type} [Inhabited α] [DecidableEq α] (a b : FMap α) : FMap α × FMap α :=
      if from1 then (tset a i (tget b i), b) else (a, tset b i (tget a i))
    x.modRul fun q =>
      match e.1 with
      | 0 => let p := m q.e0.areas q.e1.areas
             { q with e0 := { q.e0 with areas := p.1 }, e1 := { q.e1 with areas := p.2 } }
      | 1 => let p := m q.e0.pairs q.e1.pairs
             { q with e0 := { q.e0 with pairs := p.1 }, e1 := { q.e1 with pairs := p.2 } }
      | 2 => { q with e1 := { q.e1 with isl := q.e0.isl, nIsl := q.e0.nIsl } }
      | 3 => let p := m q.e0.dets q.e1.dets
             { q with e0 := { q.e0 with dets := p.1 }, e1 := { q.e1 with dets := p.2 } }
      | _ => let p := m q.e0.rules q.e1.rules
             { q with e0 := { q.e0 with rules := p.1 }, e1 := { q.e1 with rules := p.2 } }) d

/-! ## Status tables (Tables RUL-9, RUL-13, RUL-23): engine 0's values -/

def showArea (a : Nat) (d : Dev) : Dev :=
  let v := tget d.rul.e0.areas a
  let f (v : AreaV) : Nat := (badUnless v.valid v.f).w32.toNat
  let g (v : AreaV) : Nat := (badUnless v.valid v.a).w32.toNat
  ((((d.setB Reg.T_AREASTAT.VALID a v.valid).setN Reg.T_AREASTAT.NVALID a v.nvalid).setN Reg.T_AREASTAT.ISL a
    (d.rul.e0.isl.getD a 64)).setN Reg.T_AREASTAT.F a (f v)).setN Reg.T_AREASTAT.A a (g v)

def showPair (k : Nat) (d : Dev) : Dev :=
  let v := tget d.rul.e0.pairs k
  let w (x : RVal) : Nat := (pairRead d false d.rul.e0 k fun _ => x).w32.toNat
  (((((d.setN Reg.T_PAIRSTAT.STATE k v.state).setB Reg.T_PAIRSTAT.SIGN k v.neg).setN Reg.T_PAIRSTAT.COUNT k v.count).setN
    Reg.T_PAIRSTAT.BASE k v.base.w32.toNat).setN Reg.T_PAIRSTAT.DF k (w v.df)).setN Reg.T_PAIRSTAT.DA k (w v.da)

def showDet (q : Nat) (d : Dev) : Dev :=
  let v := tget d.rul.e0.dets q
  let st := if !d.onN Reg.T_QDET.VALID q then 0 else if v.settle ≠ 0 then 1 else 2
  (((((d.setN Reg.T_QDSTAT.STATE q st).setB Reg.T_QDSTAT.ACTIVE q v.active).setN Reg.T_QDSTAT.HCOUNT q v.hold).setN
    Reg.T_QDSTAT.SETTLE q (min v.settle 65535)).setN Reg.T_QDSTAT.ENV q
      (if st = 0 then 0 else v.env.w32.toNat)).setN Reg.T_QDSTAT.Y q (to32 (num64 v.y1)).toNat

def showRule (r : Nat) (d : Dev) : Dev :=
  let v := tget d.rul.e0.rules r
  ((((((d.setB Reg.T_RSTATE.ACTIVE r v.active).setB Reg.T_RSTATE.ACKED r v.acked).setB Reg.T_RSTATE.MET r v.met).setN
    Reg.T_RSTATE.PCOUNT r v.pc).setN Reg.T_RSTATE.DCOUNT r v.dc).setB Reg.T_RSTATE.EVAL r v.eval).setN Reg.T_RSTATE.X r
      v.x.w32.toNat

/-- Entries that are in use, or still hold a state. -/
def pairsUsed (d : Dev) : List Nat :=
  (List.range 2016).filter fun k => eon d false Reg.T_PAIR.EN k || eon d true Reg.T_PAIR.EN k ||
    (fmLook d.rul.e0.pairs k).isSome || (fmLook d.rul.e1.pairs k).isSome

def detsUsed (d : Dev) : List Nat :=
  (List.range 1024).filter fun q => eon d false Reg.T_QDET.VALID q || eon d true Reg.T_QDET.VALID q ||
    (fmLook d.rul.e0.dets q).isSome || (fmLook d.rul.e1.dets q).isSome

def rulesUsed (d : Dev) : List Nat :=
  (List.range 4096).filter fun r => eon d false Reg.T_RULE.VALID r || eon d true Reg.T_RULE.VALID r ||
    d.rul.falling.any fun e => e.1 == r

def overList (l : List Nat) (f : Nat → Dev → Dev) (d : Dev) : Dev := l.foldl (fun x i => f i x) d

def overAll (n : Nat) (f : Nat → Dev → Dev) (d : Dev) : Dev := (List.range n).foldl (fun x i => f i x) d

/-- The edges a pass put on the queue reach the counters and the state table. -/
def countEdges (from_ : Nat) (d : Dev) : Dev :=
  (d.rul.actQ.drop from_).foldl (fun x e =>
    match e.rule with
    | some r => (((x.sat Reg.RUL_CNT_EDGE.N).cause intRul 2 0 0).setN Reg.T_RSTATE.EDGE_T r (e.inst % 2 ^ 32)).wrapInc
        Reg.T_RSTATE.EDGES r
    | none => x) d

/-- A spread that was not evaluated reaches the histories, pairs, detectors and modal lanes (R337). -/
def skipSpread (t : Time) (k : Nat) (due : List Nat) (d : Dev) : Dev :=
  let one (d : Dev) (e1 : Bool) (e : EngV) : EngV := { e with
    rules := (List.range 4096).foldl (fun m r =>
      if eon d e1 Reg.T_RULE.VALID r && eget d e1 Reg.T_RULE.FUNC r == 4 then
        tmod m r (pushHist (eget d e1 Reg.T_RULE.RATE_N r) k (.bad wMissing)) else m) e.rules
    pairs := (List.range 2016).foldl (fun m i =>
      if eon d e1 Reg.T_PAIR.EN i && d.on Reg.RUL_CTRL.AREA_EN then
        tmod m i (pairInvalid (.bad wMissing) (.bad wMissing)) else m) e.pairs
    dets := (List.range 1024).foldl (fun m q =>
      if eon d e1 Reg.T_QDET.VALID q && d.on Reg.RUL_CTRL.QD_EN then tset m q (detFresh (detSettle d e1 q)) else m) e.dets }
  let d1 := d.modRul fun x => { x with e0 := one d false x.e0, e1 := one d true x.e1 }
  modalSpread t k due none true (overList (detsUsed d) showDet (overList (pairsUsed d) showPair d1))

/-- The regions of the due sources, as the pass reads them. -/
def takeRegions (k : Nat) (due : List Nat) (d : Dev) : Dev :=
  let (rs, d1) := readRegions k due d
  d1.modRul fun x => { x with latest := rs.foldl (fun m g => tset m g.src (some g)) x.latest }

/-- The five steps of a pass. -/
def passSteps (t : Time) (ups : List Upset) (k : Nat) (due : List Nat) (d : Dev) : Dev :=
  let d1 := if d.on Reg.RUL_CTRL.AREA_EN then
      stepIslands ups (overList (pairsUsed d) (stepPair ups) (overAll 64 (stepArea ups) d))
    else d
  let d2 := if d.on Reg.RUL_CTRL.QD_EN then overList (detsUsed d1) (stepDet ups due) d1 else d1
  (overList (rulesUsed d2) (passRule t ups k due) d2).modRul fun x => { x with falling := [] }

/-- The end of a pass for INTEGRITY: a disagreement raises it, its rising edge goes first, and the states are copied; without
one an acknowledged INTEGRITY clears (R362 to R365, R367). -/
def passInteg (t : Time) (q0 : List Edge) (d : Dev) : Dev :=
  if d.rul.diff.isEmpty then
    if d.rul.integ && d.rul.integAck then
      pushEdge (edgeOf t d none 0 wInvalid false false)
        ((d.modRul fun x => { x with integ := false, integAck := false }).set Reg.RUL_STATUS.INTEG 0)
    else d
  else
    let mine := (d.rul.actQ.drop q0.length).map fun e => { e with dis := true }
    let d1 := integRaise t (d.modRul fun x => { x with actQ := q0 })
    let d2 := copyBack (d1.modRul fun x => { x with actQ := x.actQ ++ mine })
    ((d2.modRul fun x => { x with diff := [] }).sat Reg.RUL_CNT_INTEG.N).sat Reg.RUL_INTEG_STAT.COUNT

/-- The grouping has changed (R348); the layout of its record is not given. -/
def groupingChange (before : List Nat) (d : Dev) : Dev :=
  if before = d.rul.e0.isl then d
  else
    let (a, d1) := d.draw
    let (b, d2) := d1.draw
    (d2.raise intRul 3).event (9 * 32 + 3) 0 (Config.freeWord a).toNat (Config.freeWord b).toNat

/-- One pass over the spread at the head of the evaluation queue. -/
def rulePass (t : Time) (ups : List Upset) (d : Dev) : Dev :=
  match d.rul.evalQ with
  | [] => d
  | it :: rest =>
    let d0 := ups.foldl (fun x u => tableUpset u x) (d.modRul fun x => { x with
      evalQ := rest, lastInst := it.inst, lastSeq := it.seq, passes := x.passes + 1, diff := [] })
    let before := if d.rul.e0.isl.isEmpty then List.replicate 64 64 else d.rul.e0.isl
    let d1 := passSteps t ups it.k it.due (takeRegions it.k it.due d0)
    let d2 := passInteg t d.rul.actQ d1
    let nIsl := d2.rul.e0.nIsl
    let fixed := d2.modRul fun x => { x with
      actQ := x.actQ.take d.rul.actQ.length ++ (x.actQ.drop d.rul.actQ.length).map fun e => { e with islands := nIsl } }
    let d3 := countEdges d.rul.actQ.length fixed
    let d4 := overList (rulesUsed d0) showRule (overList (detsUsed d0) showDet (overList (pairsUsed d0) showPair
      (overAll 64 showArea d3)))
    let d5 := if d.on Reg.RUL_CTRL.AREA_EN then groupingChange before d4 else d4
    let d6 := ((d5.sat Reg.RUL_CNT_PASS.N).set Reg.RUL_STATUS.ISLANDS nIsl).set Reg.RUL_STATUS.QDEPTH rest.length
    let env := if d.on Reg.RUL_CTRL.AREA_EN then some (engEnv d6 false d6.rul.e0) else none
    let d7 := modalSpread t it.k it.due env true d6
    it.skipped.foldl (fun x e => skipSpread t e.1 e.2 x) d7

/-! ## Entries (R342, R352 to R354) -/

/-- Word 0 of an entry is stored with VALID as given. -/
def putValid (a : Nat) (w : Word32) (v : Bool) (d : Dev) : Dev :=
  bothCopies a (d.putWord a (if v then w ||| 1 else w &&& ~~~1))

/-- A write of word 0 of a checked entry: `ok` judges the entry with the new word; a refused write that would set VALID
stores the other fields with VALID 0, or nothing when the entry was valid. -/
def writeValid (a : Nat) (v : Word32) (ok : Dev → Bool) (made dropped : Dev → Dev) (d : Dev) : Dev :=
  let was := bitOf (d.word a) 0
  if !bitOf v 0 then (if was then dropped (putValid a v false d) else putValid a v false d)
  else
    let d1 := putValid a v true d
    if ok d1 then (if was then d1 else made d1)
    else if was then rulRej d
    else rulRej (putValid a v false d)

/-- The checks of R353. -/
def ruleOk (r : Nat) (d : Dev) : Bool :=
  let g (f : Field) : Nat := d.getN f r
  let fn := g Reg.T_RULE.FUNC
  let cmp := g Reg.T_RULE.CMP
  let opa := g Reg.T_RULE.OPA
  let opb := g Reg.T_RULE.OPB
  let hyst := numF (g Reg.T_RULE.HYST)
  let self (o : Nat) : Bool := opKind o == 12 && opIndex o == r
  decide (fn < 6) && decide (cmp < 4) && g Reg.T_RULE.NANPOL != 3 && opOk opa && opOk opb &&
    !(fn == 4 && g Reg.T_RULE.RATE_N == 0) && !(fn == 5 && (opKind opa != 1 || cmp != 0)) &&
    !((fn == 1 || fn == 2) && opKind opb == 0) &&
    !(2 ≤ cmp && !(numF (g Reg.T_RULE.LO)).le (numF (g Reg.T_RULE.HI))) && numFinite hyst && Num.le .zero hyst &&
    !(g Reg.T_RULE.GATE_EN == 1 && g Reg.T_RULE.GATE == r) && !self opa && !self opb

/-- Both engines' state of rule r, and its state entry. -/
def setRule (r : Nat) (v : RuleV) (d : Dev) : Dev :=
  showRule r (d.modRul fun x => { x with
    e0 := { x.e0 with rules := tset x.e0.rules r v }, e1 := { x.e1 with rules := tset x.e1.rules r v } })

/-- Word 0 of rule r is written (R353, R354). -/
def ruleValidate (r : Nat) (v : Word32) (d : Dev) : Dev :=
  writeValid (Reg.T_RULE.VALID.reg.addr r) v (ruleOk r)
    (fun x => ((setRule r default x).setN Reg.T_RSTATE.EDGES r 0).setN Reg.T_RSTATE.EDGE_T r 0)
    (fun x => setRule r default
      (if d.onN Reg.T_RSTATE.ACTIVE r then
        x.modRul fun q => { q with falling := q.falling ++ [(r, BitVec.ofNat 32 (d.getN Reg.T_RSTATE.X r))] }
      else x)) d

def execRuleValidate (r : Nat) (v : Word32) (s : State) : Host.Outcome State Fault Refusal :=
  run s fun _ d => onWrite 0x300000 (fun d => if r < 4096 then ruleValidate r v d else d) d

/-- The member entries of area a. -/
def areaMembers (d : Dev) (a : Nat) : List Nat :=
  (List.range (d.getN Reg.T_AREA.COUNT a)).map fun j => d.getN Reg.T_AREA.FIRST a + j

/-- A valid area has this member entry. -/
def memberUsed (d : Dev) (m : Nat) (but : Option Nat) : Bool :=
  (List.range 64).any fun a => decide (some a ≠ but) && d.onN Reg.T_AREA.VALID a &&
    decide (d.getN Reg.T_AREA.FIRST a ≤ m) && decide (m < d.getN Reg.T_AREA.FIRST a + d.getN Reg.T_AREA.COUNT a)

def memberOk (d : Dev) (a m : Nat) : Bool :=
  let w := numF (d.getN Reg.T_MEMBER.WEIGHT m)
  let words := d.getN Reg.T_SRC.WORDS (d.getN Reg.T_MEMBER.SRC m)
  !memberUsed d m (some a) && numFinite w && Num.lt .zero w && decide (d.getN Reg.T_MEMBER.PWORD m + 1 < words) &&
    decide (d.getN Reg.T_MEMBER.FWORD m < words)

/-- The checks of R342. -/
def areaOk (a : Nat) (d : Dev) : Bool :=
  decide (d.getN Reg.T_AREA.COUNT a ≤ 32) && decide (d.getN Reg.T_AREA.FIRST a + d.getN Reg.T_AREA.COUNT a ≤ 1024) &&
    (areaMembers d a).all (memberOk d a)

/-- Word 0 of area a is written (R342): while it is valid, only a write that clears VALID is taken. -/
def areaValidate (a : Nat) (v : Word32) (d : Dev) : Dev :=
  if d.onN Reg.T_AREA.VALID a && bitOf v 0 then rulRej d
  else writeValid (Reg.T_AREA.VALID.reg.addr a) v (areaOk a) id id d

def execAreaValidate (a : Nat) (v : Word32) (s : State) : Host.Outcome State Fault Refusal :=
  run s fun _ d => onWrite 0x330000 (fun d => if a < 64 then areaValidate a v d else d) d

/-- The checks of R352. -/
def detOk (q : Nat) (d : Dev) : Bool :=
  let f (f : Field) : Num := numF (d.getN f q)
  let k := opKind (d.getN Reg.T_QDET.OP q)
  decide (1 ≤ k) && decide (k ≤ 7) && Num.lt .zero (f Reg.T_QDET.THR) && Num.le .zero (f Reg.T_QDET.HYST) &&
    Num.lt (f Reg.T_QDET.HYST) .one && numFinite (f Reg.T_QDET.B0) && numFinite (f Reg.T_QDET.A1) &&
    numFinite (f Reg.T_QDET.A2)

def setDet (q : Nat) (v : DetV) (d : Dev) : Dev :=
  showDet q (d.modRul fun x => { x with
    e0 := { x.e0 with dets := tset x.e0.dets q v }, e1 := { x.e1 with dets := tset x.e1.dets q v } })

/-- Word 0 of detector q is written (R351, R352). -/
def detectorValidate (q : Nat) (v : Word32) (d : Dev) : Dev :=
  writeValid (Reg.T_QDET.VALID.reg.addr q) v (detOk q) (fun x => setDet q (detFresh (detSettle x false q)) x)
    (fun x => setDet q default x) d

def execDetectorValidate (q : Nat) (v : Word32) (s : State) : Host.Outcome State Fault Refusal :=
  run s fun _ d => onWrite 0x344000 (fun d => if q < 1024 then detectorValidate q v d else d) d

/-! ## Pins (R368 to R370) -/

def pinState (d : Dev) (n : Nat) : PinSt := tget d.rul.pins n

/-- A follow-mode pin is called for. -/
def pinCalled (d : Dev) (n : Nat) : Bool :=
  (integDrives d && d.onN Reg.RUL_PINn.INTEG n) ||
    (List.range 4096).any fun r => (d.getN Reg.T_RULE.PINS r).testBit n && ruleActive d r

/-- A pin's state follows its mode, its width and what calls for it. -/
def pinUpdate (t : Time) (n : Nat) (d : Dev) : Dev :=
  let p := pinState d n
  let w := d.getN Reg.RUL_PINn.MIN_WIDTH n * 1000000
  let p1 : PinSt :=
    match d.getN Reg.RUL_PINn.MODE n with
    | 0 => default
    | 1 =>
      if pinCalled d n then ⟨some (p.since.getD t.loc), none, false⟩
      else match p.since with
        | some s => ⟨if t.loc < s + w then some s else none, none, false⟩
        | none => default
    | 2 => ⟨none, p.pulseEnd.filter fun e => decide (t.loc < e), false⟩
    | _ => ⟨none, none, p.latched⟩
  let off := d.get Reg.GLB_SPLIT.RULES == 0 || !d.up islAna
  let p2 := if off then default else p1
  let low := !off && (d.onN Reg.RUL_PINn.TEST n || p2.since.isSome || p2.pulseEnd.isSome || p2.latched)
  (d.modRul fun x => { x with pins := tset x.pins n p2 }).setB Reg.RUL_PINn.STATE n low

def pinsUpdate (t : Time) (d : Dev) : Dev := overAll 4 (pinUpdate t) d

/-- A rising edge that drives pin n: a pulse starts or starts again, a latch closes. -/
def pinRise (t : Time) (n : Nat) (d : Dev) : Dev :=
  let w := d.getN Reg.RUL_PINn.MIN_WIDTH n * 1000000
  match d.getN Reg.RUL_PINn.MODE n with
  | 2 => if w = 0 then d else d.modRul fun x => { x with pins := tset x.pins n ⟨none, some (t.loc + w), false⟩ }
  | 3 => d.modRul fun x => { x with pins := tset x.pins n ⟨none, none, true⟩ }
  | _ => d

/-- The pins of an edge. -/
def pinsEdge (t : Time) (e : Edge) (d : Dev) : Dev :=
  let d1 := match e.rule with
    | some r => if e.kind = 1 then
        overAll 4 (fun n x => if (x.getN Reg.T_RULE.PINS r).testBit n then pinRise t n x else x) d
      else d
    | none => d
  pinsUpdate t d1

def execPinWidthExpire (pin : Nat) (s : State) : Host.Outcome State Fault Refusal :=
  run s fun t d => if pin < 4 ∧ d.up islAna then pinUpdate t pin d else d

/-- RUL_PINn.REL is written (R368). -/
def pinRelease (t : Time) (n : Nat) (d : Dev) : Dev :=
  pinUpdate t n (d.modRul fun x => { x with pins := tmod x.pins n fun p => { p with latched := false } })

def execPinRelease (pin : Nat) (s : State) : Host.Outcome State Fault Refusal :=
  run s fun t d => onWrite 0xC0030 (fun d => if pin < 4 then pinRelease t pin d else d) d

/-! ## GOOSE templates (R371 to R374) -/

/-- A template's image. -/
def tmplImage (d : Dev) (t : Nat) : List Byte :=
  (((List.range 112).map fun j => le 4 (d.getN Reg.T_GTMPLI.W (t * 112 + j))).flatten).take (d.getN Reg.T_GTMPL.LEN t)

/-- Member k of template t, if it is valid: `none` in it follows INTEGRITY. -/
def tmplMember (d : Dev) (t k : Nat) : Option (Option Nat) :=
  let m := d.getN (if k % 2 = 0 then Reg.T_GTMPLM.LOW else Reg.T_GTMPLM.HIGH) (t * 8 + k / 2)
  if !m.testBit 15 then none else if m.testBit 12 then some none else some (some (bits m 0 12))

/-- The members' states now. -/
def memberStates (d : Dev) (t : Nat) : List Bool :=
  (List.range 16).map fun k => match tmplMember d t k with
    | some (some r) => ruleActive d r
    | some none => integDrives d
    | none => false

/-- The offset of the next frame after the change, given the offset of the last one (R372). -/
def nextOfs (tMin tMax ofs : Nat) : Nat :=
  if ofs = 0 then tMin else if 2 * ofs < tMax then 2 * ofs else ofs + tMax

def tmplNext (d : Dev) (t : Nat) : Nat :=
  nextOfs (d.getN Reg.T_GTMPL.T_MIN t) (d.getN Reg.T_GTMPL.T_MAX t) (tget d.rul.tmpl t).off

/-- UtcTime of an instant, with the quality byte of R373. -/
def utcTime (t : Time) (d : Dev) (ns : Nat) : List Byte :=
  let q := 128 + 64 * b2n (svState d == svFreerun) + 32 * b2n (syncErrNow t d) + 10
  be 4 (unsig 32 (utcOf d (ns / 1000000000))) ++ be 3 (ns % 1000000000 * 2 ^ 24 / 1000000000) ++ le 1 q

/-- The image with its fields filled in. -/
def tmplFill (t : Time) (m : Nat) (d : Dev) : List Byte :=
  let x := tget d.rul.tmpl m
  let f (f : Field) : Nat := d.getN f m
  let b0 := setBytes (tmplImage d m) (f Reg.T_GTMPL.OFS_ST) (be 4 x.st)
  let b1 := setBytes b0 (f Reg.T_GTMPL.OFS_SQ) (be 4 x.sq)
  let b2 := setBytes b1 (f Reg.T_GTMPL.OFS_T) (utcTime t d x.tInst)
  let b3 := setBytes b2 (f Reg.T_GTMPL.OFS_TAL) (be 4 (2 * (tmplNext d m - x.off)))
  (List.range 16).foldl (fun b k =>
    if (tmplMember d m k).isSome then
      setBytes b (f Reg.T_GTMPL.OFS_DATA + 3 * k) (le 1 (if x.members.getD k false then 255 else 0))
    else b) b3

def gooseDrop (d : Dev) : Dev := (d.sat Reg.RUL_CNT_GOOSE_DROP.N).cause intRul 7 0 0

/-- Queue the frames of template m. -/
def tmplQueue (m : Nat) (fs : List (List Byte)) (d : Dev) : Dev :=
  let n := d.getN Reg.T_GTMPL.PORT m
  if portTakes d n then (queueFrames n (d.getN Reg.T_GTMPL.TC m) (.template m) fs d).sat Reg.RUL_CNT_GOOSE_TX.N
  else gooseDrop d

/-- An R-GOOSE frame behind the image, with its key's material (R248, R249, R374). -/
def tmplRouted (m : Nat) (b : List Byte) (auth : Nat) (key : Option Nat) (d : Dev) : Dev :=
  let x := tget d.rul.tmpl m
  let v6 := slice b (ethLen b - 2) 2 == [0x86, 0xDD]
  let (eth, ip, udp, rest) := cutHeader v6 b
  let p := Config.sessionFrame rest x.spdu 0 x.tInst (x.members.map fun v => (false, if v then 1 else 0)) auth key
  let d1 := d.modRul fun q => { q with tmpl := tmod q.tmpl m fun y => { y with spdu := (y.spdu + 1) % 2 ^ 32 } }
  match udpFrames d (d.getN Reg.T_GTMPL.PORT m) v6 x.spdu eth ip udp p with
  | some r => tmplQueue m r.2 d1
  | none => gooseDrop d1

/-- Template m sends a frame with its current stNum, sqNum and members (R374, R382). -/
def tmplSend (t : Time) (m : Nat) (d : Dev) : Dev :=
  if rulMode d = 0 ∨ d.getN Reg.T_GTMPL.LEN m = 0 then d
  else
    let b := tmplFill t m d
    let auth := d.getN Reg.T_GTMPL.AUTH m
    if !d.onN Reg.T_GTMPL.ROUTED m then tmplQueue m [b] d
    else if auth = 0 then tmplRouted m b auth none d
    else match keyUse engTemplate m (d.getN Reg.T_GTMPL.KEY_SLOT m) (authUsage auth) false d with
      | (some k, d1) => tmplRouted m b auth (some k.material) d1
      | (none, d1) => gooseDrop d1

def modTmpl (m : Nat) (f : TmplSt → TmplSt) (d : Dev) : Dev := d.modRul fun q => { q with tmpl := tmod q.tmpl m f }

/-- The members change: stNum rises and a new series of frames starts (R372). -/
def tmplChange (t : Time) (m inst : Nat) (members : List Bool) (d : Dev) : Dev :=
  tmplSend t m (modTmpl m (fun x => { x with
    st := if x.st = 0xFFFFFFFF then 1 else x.st + 1, sq := 0, tInst := inst, members := members, off := 0, since := t.loc }) d)

/-- The members of template m that the edges of one pass move (R372). -/
def membersAfter (d : Dev) (m : Nat) (es : List Edge) : List Bool :=
  (List.range 16).map fun k =>
    let old := (tget d.rul.tmpl m).members.getD k false
    match tmplMember d m k with
    | some r => es.foldl (fun v e => if e.rule = r then e.kind == 1 else v) old
    | none => old

/-- The templates of an edge: the edges of its pass that stand behind it in the queue move members with it. -/
def tmplEdge (t : Time) (e : Edge) (d : Dev) : Dev :=
  let es := e :: d.rul.actQ.takeWhile fun x => x.pass == e.pass
  overAll 64 (fun m x =>
    if !x.onN Reg.T_GTMPL.EN m then x
    else
      let ms := membersAfter x m es
      if ms = (tget x.rul.tmpl m).members then x else tmplChange t m e.inst ms x) d

/-- The checks of R371. -/
def tmplOk (m : Nat) (d : Dev) : Bool :=
  let f (f : Field) : Nat := d.getN f m
  let len := f Reg.T_GTMPL.LEN
  let fits (ofs n : Nat) : Bool := decide (ofs + n ≤ len)
  decide (1 ≤ f Reg.T_GTMPL.T_MIN) && decide (f Reg.T_GTMPL.T_MIN ≤ 1000) &&
    decide (f Reg.T_GTMPL.T_MIN ≤ f Reg.T_GTMPL.T_MAX) && decide (f Reg.T_GTMPL.T_MAX ≤ 60000) &&
    (len == 0 || (decide (60 ≤ len) && decide (len ≤ 448) && fits (f Reg.T_GTMPL.OFS_ST) 4 && fits (f Reg.T_GTMPL.OFS_SQ) 4 &&
      fits (f Reg.T_GTMPL.OFS_T) 8 && fits (f Reg.T_GTMPL.OFS_TAL) 4 &&
      (List.range 16).all fun k => (tmplMember d m k).isNone || fits (f Reg.T_GTMPL.OFS_DATA + 3 * k) 1))

/-- The first word of template m is written (R371). While EN is 1 only a write that clears it is taken. -/
def templateEnable (t : Time) (m : Nat) (v : Word32) (d : Dev) : Dev :=
  let a := Reg.T_GTMPL.EN.reg.addr m
  if d.onN Reg.T_GTMPL.EN m then (if bitOf v 0 then rulRej d else d.putWord a v)
  else if !bitOf v 0 then d.putWord a v
  else if !tmplOk m (d.putWord a v) then rulRej (d.putUnvalid a v)
  else
    let d1 := d.putWord a v
    tmplSend t m (modTmpl m (fun x => { x with
      st := d.getN Reg.T_GTMPL.ST_INIT m, sq := 0, tInst := t.ns, members := memberStates d1 m, off := 0, since := t.loc }) d1)

def execTemplateEnable (t : Nat) (v : Word32) (s : State) : Host.Outcome State Fault Refusal :=
  run s fun now d => onWrite 0x350000 (fun d => if t < 64 then templateEnable now t v d else d) d

/-- The next frame of template m is due (R372). -/
def gooseRetransmit (t : Time) (m : Nat) (d : Dev) : Dev :=
  let n := tmplNext d m
  if d.onN Reg.T_GTMPL.EN m && decide ((tget d.rul.tmpl m).since + n * 1000000 ≤ t.loc) then
    tmplSend t m (modTmpl m (fun x => { x with sq := (x.sq + 1) % 2 ^ 32, off := n }) d)
  else d

def execGooseRetransmit (t : Nat) (s : State) : Host.Outcome State Fault Refusal :=
  run s fun now d => if t < 64 ∧ d.up islAna then gooseRetransmit now t d else d

/-! ## Actions (R367, R377 to R381) -/

/-- A bit of word 6 of a rule, or its counterpart for INTEGRITY. -/
def edgeWants (d : Dev) (e : Edge) (f : Field) (integ : Bool) : Bool :=
  match e.rule with
  | some r => d.onN f r
  | none => integ

/-- The token of an edge (R377). -/
def edgeToken (e : Edge) (d : Dev) : Dev :=
  if !edgeWants d e Reg.T_RULE.TOKEN (d.on Reg.RUL_INTEG_CFG.TOKEN) then d
  else
    let d1 := tokenSend (e.rule.getD 0xFFFF) e.kind e.inst e.x.toNat e.islands e.seq d
    if (List.range 4).any fun l => linkIsUp d l then d1 else (d1.sat Reg.RUL_CNT_TOK_DROP.N).cause intRul 6 0 0

/-- The Logbook record of an edge: code 304 with the record of Table RUL-15 (R380). -/
def edgeLog (e : Edge) (d : Dev) : Dev :=
  match e.rule with
  | some r => if d.onN Reg.T_RULE.LOG r then
      { d with evs := d.evs ++ [⟨304, 0, 0, 0, packWords 8
        (tk80Bytes e.inst ++ le 2 r ++ le 1 e.kind ++ le 1 (b2n e.dis + 2 * b2n e.latched) ++ le 2 e.islands ++
          le 4 e.x.toNat ++ le 4 e.seq ++ le 4 e.dec ++ le 4 d.rul.dropped)⟩] }
    else d
  | none => d

/-- Dispatch and the capture engines (R380, R435). -/
def edgePost (t : Time) (e : Edge) (d : Dev) : Dev :=
  match e.rule with
  | some r =>
    let d1 := if d.onN Reg.T_RULE.DSP r then dspAlarm t r (e.kind == 1) d else d
    capRule r (e.kind == 1) ⟨e.inst, 1000000000⟩ d1
  | none => d

/-- The edge at the head of the action queue drives its actions. -/
def alarmAction (t : Time) (d : Dev) : Dev :=
  match d.rul.actQ with
  | [] => d
  | e :: rest =>
    let d1 := tmplEdge t e (pinsEdge t e (d.modRul fun x => { x with actQ := rest }))
    let d2 := edgeToken e d1
    let d3 := if edgeWants d2 e Reg.T_RULE.HOST (d2.on Reg.RUL_INTEG_CFG.HOST) then alarmRecord e d2 else d2
    edgePost t e (edgeLog e d3)

/-! ## The mode (R28, R381, R382, Table ARC-6) -/

/-- The mode asked for at the last close, or by GLB_SPLIT while nothing closes, takes effect once no evaluation of the old one is
left, and the pins follow it. -/
def rulTakeMode (t : Time) (d : Dev) : Dev :=
  let m := if d.on Reg.ALN_STATUS.RUN then d.rul.next else d.get Reg.GLB_SPLIT.RULES
  if rulBusy d ∨ m = d.rul.mode then d else pinsUpdate t (d.modRul fun x => { x with mode := m, next := m })

/-- A spread closes: it joins the evaluation queue, or is skipped when the queue is full (R337); a change of
GLB_SPLIT.RULES takes effect (Table ARC-6). -/
def rulClose (t : Time) (k inst seq : Nat) (due : List Nat) (d0 : Dev) : Dev :=
  if !d0.up islAna then d0
  else
    let m := d0.get Reg.GLB_SPLIT.RULES
    let on := m == 1 && d0.on Reg.RUL_CTRL.EN
    let d := rulTakeMode t ((d0.modRul fun x => { x with next := m }).setB Reg.RUL_STATUS.RUN 0 on)
    if !on then modalSpread t k due none true (d.modRul fun x => { x with lastInst := inst, lastSeq := seq })
    else if d.rul.evalQ.length < 64 then
      (d.modRul fun x => { x with evalQ := x.evalQ ++ [⟨k, inst, seq, due, []⟩] }).set Reg.RUL_STATUS.QDEPTH
        (d.rul.evalQ.length + 1)
    else
      let add (l : List EvalItem) : List EvalItem :=
        l.dropLast ++ (l.getLast?.toList.map fun e => { e with skipped := e.skipped ++ [(k, due)] })
      ((d.modRul fun x => { x with evalQ := add x.evalQ }).sat Reg.RUL_CNT_SKIP.N).cause intRul 4 0 0

def execRulePass (ups : List Upset) (s : State) : Host.Outcome State Fault Refusal :=
  run s fun t d => if d.up islAna ∧ d.rul.evalQ ≠ [] then rulTakeMode t (rulePass t ups d) else d

def execAlarmAction (s : State) : Host.Outcome State Fault Refusal :=
  run s fun t d => if d.up islAna ∧ d.rul.actQ ≠ [] then rulTakeMode t (alarmAction t d) else d

/-- RUL_HSTATEj is written (R381, R382): with RULES = 2 each changed bit of a valid rule is an edge,
whose x nothing gives. -/
def hstateWrite (t : Time) (j : Nat) (v : Word32) (d : Dev) : Dev :=
  match rulMode d with
  | 0 => d
  | 2 =>
    let old := d.getN Reg.RUL_HSTATEj.ACT j
    let d1 := (d.setN Reg.RUL_HSTATEj.ACT j v.toNat).modRul fun x => { x with passes := x.passes + 1 }
    (List.range 32).foldl (fun x k =>
      let r := 32 * j + k
      if bitOf v k == old.testBit k || !x.onN Reg.T_RULE.VALID r then x
      else
        let (w, x1) := x.draw
        ((pushEdge (edgeOf t x1 (some r) (b2n (bitOf v k)) (Config.freeWord w) false (x.onN Reg.T_RULE.LATCH r)) x1).sat
          Reg.RUL_CNT_EDGE.N).cause intRul 2 0 0) d1
  | _ => d.setN Reg.RUL_HSTATEj.ACT j v.toNat

def execHstateWrite (j : Nat) (v : Word32) (s : State) : Host.Outcome State Fault Refusal :=
  run s fun t d => onWrite 0xC0400 (fun d => if j < 128 then hstateWrite t j v d else d) d

/-! ## Resets and Doze (R370, R383 to R385) -/

/-- What the rules lose at an IRST of ANA, at SRST or on Doze entry; pins are released. -/
def rulReset (d : Dev) : Dev :=
  overAll 4 (fun n x => x.setN Reg.RUL_PINn.STATE n 0) (d.modRul fun x => { (default : Rul) with
    mode := x.mode, next := x.next, copy1 := x.copy1, badPar := x.badPar, tmpl := x.tmpl, passes := x.passes })

/-- ANA leaves reset or wakes: each enabled template sends one frame with its members released (R385). -/
def rulResume (t : Time) (d : Dev) : Dev :=
  let m := d.get Reg.GLB_SPLIT.RULES
  let d1 := (d.modRul fun x => { x with mode := m, next := m }).setB Reg.RUL_STATUS.RUN 0
    (d.get Reg.GLB_SPLIT.RULES == 1 && d.on Reg.RUL_CTRL.EN)
  pinsUpdate t (overAll 64 (fun m x =>
    if x.onN Reg.T_GTMPL.EN m then tmplChange t m t.ns (List.replicate 16 false) x else x) d1)

/-- Does the island feed an alarm output? DESIGN CHOICE: the spec lists none; the model takes the islands on the way of a
measurement to an alarm in Table ARC-2, which are the ports, the links, ingest, Roll Call, the raw lanes and the Hamper, and not
HST, CAP, CMP and MGT. -/
def feedsAlarm (isl : Nat) : Bool := (decide (1 ≤ isl) && decide (isl ≤ 23)) || decide (28 ≤ isl)

/-- An island that feeds alarms fails: INTEGRITY (R20), which host mode does not produce (R28, R381); ANA itself releases its
pins. -/
def clockInteg (t : Time) (isl : Nat) (d : Dev) : Dev :=
  if isl = islAna then pinsUpdate t d
  else if feedsAlarm isl && d.up islAna && rulMode d != 2 then integRaise t d else d

end Sys2Proof.Machine
end

