-- ==== Sys2Proof/Machine/Alignment.lean ====
section
/-!
DEFINITION. Roll Call: opening and closing of spreads, arrivals, dormancy, spread records and late patches, and the output
streams (the chapter on spreads and Roll Call).
-/

namespace Sys2Proof.Machine

open Sys2Proof

def Dev.modAln (d : Dev) (f : Aln → Aln) : Dev := { d with aln := f d.aln }

def alnRej (d : Dev) : Dev := d.cause intAln 0 0 0

/-- Roll Call opens spreads. -/
def alnOpens (d : Dev) : Bool :=
  alignTakes d && d.on Reg.ALN_CTRL.EN && d.on Reg.ALN_STATUS.RUN

/-- The wait time in nanoseconds. -/
def alnWait (d : Dev) : Nat := d.get Reg.ALN_WAIT.WAIT * 1000

def spreadNs (d : Dev) (k : Nat) : Nat := instNs k (spreadRate d)

/-- The slot of a spread. -/
def alnSlot (d : Dev) (k : Nat) : Nat := k % max 1 (d.get Reg.ALN_DEPTH.D)

def openCount (d : Dev) : Dev := d.set Reg.ALN_STATUS.OPEN d.aln.open_.length

/-! ## Attributes (R258) -/

/-- Word 0 of a source's attributes as it counts for the spread at an instant: a write takes effect from the first spread
whose instant lies after it. -/
def attrAt (d : Dev) (inst s : Nat) : Word32 :=
  match d.aln.attrLog.find? fun e => e.1 == s && decide (inst ≤ e.2.1) with
  | some e => e.2.2
  | none => d.word (Reg.T_ATTR.RSV.reg.addr s)

def attrGet (d : Dev) (f : Field) (inst s : Nat) : Nat := f.ofWord (attrAt d inst s)

/-- Word 0 of a source's attributes is written (R258, Table ALN-17). -/
def attrWrite (t : Time) (s : Nat) (v : Word32) (d : Dev) : Dev :=
  let a := Reg.T_ATTR.RSV.reg.addr s
  if 64 < Reg.T_ATTR.RSV.ofWord v ∨ Reg.T_ATTR.TQ_POLICY.ofWord v = 3 then alnRej d
  else if !d.on Reg.ALN_CTRL.EN then d.putWord a v
  else
    let old := d.word a
    let same := Reg.T_ATTR.RSV.ofWord v == Reg.T_ATTR.RSV.ofWord old
    let d1 := (d.putWord a (Reg.T_ATTR.RSV.inWord v (Reg.T_ATTR.RSV.ofWord old))).modAln fun x =>
      { x with attrLog := x.attrLog ++ [(s, t.ns, old)] }
    if same then d1 else alnRej d1

/-! ## Who is awaited (R218 to R221, R234) -/

def dormant (d : Dev) (s : Nat) : Bool := d.getN Reg.T_ATTR.STATE s == 2

/-- Source s is awaited in the spread k. -/
def awaited (d : Dev) (k s : Nat) : Bool :=
  let inst := spreadNs d k
  d.onN Reg.T_SRC.VALID s && decide (1 ≤ srcType d s) && decide (srcType d s ≤ 4) &&
    Reg.T_ATTR.AWAIT.ofWord (attrAt d inst s) == 1 && d.getN Reg.T_SRCSTAT.STATE s != 3 && !dormant d s &&
    decide (tget d.aln.awaitFrom s ≤ k) && decide (tget d.aln.validAt s < inst)

/-- The sources due in an open spread: those due at its instant, and until that comes those due as the entries stand, with
those present. -/
def spreadDue (d : Dev) (sp : Spread) : List Nat :=
  if d.aln.nextK ≤ sp.k then (List.range 512).filter fun s => sp.present.contains s || srcDue d sp.k s else sp.due

/-- Every source awaited in the spread is present (R218, R222). -/
def spreadComplete (d : Dev) (sp : Spread) : Bool :=
  (List.range 512).all fun s => !(awaited d sp.k s && srcDue d sp.k s) || sp.present.contains s

/-- The alignment state of a source: 0 not aligned, 1 aligned, 2 DORMANT. -/
def alnState (s : Nat) (d : Dev) : Dev :=
  if dormant d s ∧ srcAligned d s then d else d.setB Reg.T_ATTR.STATE s (srcAligned d s && d.on Reg.ALN_STATUS.RUN)

/-! ## Outputs: entries and lag (R240, R244) -/

def outFirst (d : Dev) (n : Nat) : Nat := d.getN Reg.ALN_OUTn_MAP.FIRST n
def outRate (d : Dev) (n : Nat) : Nat := rateOf (d.getN Reg.ALN_OUTn_CFG.RATE n)

/-- The pool entries of output n. -/
def outEntries (d : Dev) (n : Nat) : List Nat := (List.range (d.getN Reg.ALN_OUTn_MAP.COUNT n)).map fun j => outFirst d n + j

/-- Periods to each side of the centre of an entry's window. -/
def entryHalf (d : Dev) (e : Nat) : Nat := (d.getN Reg.ALN_COEFn.NTAPS (d.getN Reg.T_POOL.COEF e) - 1) / 2

def entryDecimates (d : Dev) (e : Nat) : Bool := d.onN Reg.T_POOL.METHOD e

/-- Does the spread instant k lie on the source's own rate grid? -/
def onGrid (d : Dev) (k s : Nat) : Bool := k * srcRate d s % max 1 (spreadRate d) == 0

/-- The lag of output n in spread periods (R244). DESIGN CHOICE: the lag of a source whose rate does not divide R, which Roll
Call does not align, is rounded up. -/
def outLag (d : Dev) (n : Nat) : Nat :=
  ((outEntries d n).map fun e =>
    let r := max 1 (srcRate d (d.getN Reg.T_POOL.SRC e))
    if entryDecimates d e then (entryHalf d e * spreadRate d + r - 1) / r else 0).foldl max 0

/-- Phasors, analog words and digital words of a source. Only a TYPE 1 entry states them; the words of another type are read
as phasor pairs, then FREQ and DFREQ. -/
def srcLayout (d : Dev) (s : Nat) : Nat × Nat × Nat :=
  if srcType d s = 1 then (d.getN Reg.T_SRC.PHNMR s, d.getN Reg.T_SRC.ANNMR s, d.getN Reg.T_SRC.DGNMR s)
  else ((d.getN Reg.T_SRC.WORDS s - 2) / 2, 0, 0)

/-- The mask of an entry; an empty mask of a C37.118 output stands for FREQ and DFREQ. -/
def entryMask (d : Dev) (c37 : Bool) (e : Nat) : Nat :=
  let m := d.getN Reg.T_POOL.MASK_LO e + 2 ^ 32 * d.getN Reg.T_POOL.MASK_HI e
  if m = 0 ∧ c37 then 3 * 2 ^ (2 * (srcLayout d (d.getN Reg.T_POOL.SRC e)).1) else m

def maskBits (m : Nat) : List Nat := (List.range 64).filter fun k => m.testBit k

def isDigital (d : Dev) (s w : Nat) : Bool :=
  let (p, a, g) := srcLayout d s
  decide (2 * p + 2 + a ≤ w) && decide (w < 2 * p + 2 + a + g)

/-- The check of one entry (R240). -/
def entryBad (d : Dev) (n e : Nat) : Bool :=
  let s := d.getN Reg.T_POOL.SRC e
  let ri := srcRate d s
  let ro := outRate d n
  let rsv := d.getN Reg.T_ATTR.RSV s
  let words := d.getN Reg.T_SRC.WORDS s
  let c37 := !d.onN Reg.ALN_OUTn_CFG.FMT n
  let m := entryMask d c37 e
  let p := (srcLayout d s).1
  let halves := (List.range p).any fun j => m.testBit (2 * j) != m.testBit (2 * j + 1)
  decide (4096 ≤ e) || ri == 0 || (ro % ri != 0 && ri % ro != 0) || rsv == 0 || decide (rsv < words) || m / 2 ^ words != 0 ||
    (c37 && (halves || !m.testBit (2 * p) || !m.testBit (2 * p + 1))) ||
    (entryDecimates d e && d.getN Reg.ALN_COEFn.NTAPS (d.getN Reg.T_POOL.COEF e) == 0)

/-- Bytes of an entry's block in a C37.118 frame. -/
def blockBytes (d : Dev) (e : Nat) : Nat :=
  let s := d.getN Reg.T_POOL.SRC e
  2 + ((maskBits (entryMask d true e)).map fun w => if isDigital d s w then 2 else 4).sum

def tmplLen (d : Dev) (n : Nat) : Nat := d.getN Reg.T_TMPL.W (n * 64) % 65536
def tmplV6 (d : Dev) (n : Nat) : Bool := d.getN Reg.T_TMPL.W (n * 64) / 65536 % 256 == 1

/-- The header bytes of output n. -/
def tmplHdr (d : Dev) (n : Nat) : List Byte :=
  (((List.range 60).map fun j => le 4 (d.getN Reg.T_TMPL.W (n * 64 + 4 + j))).flatten).take (tmplLen d n)

/-- Bytes of UDP payload of output n: of a C37.118 frame, or of the R-SV session header, SPDU, members and tag, as the frame
of these members has them. -/
def outBytes (d : Dev) (n : Nat) : Nat :=
  if d.onN Reg.ALN_OUTn_CFG.FMT n then
    let auth := d.getN Reg.ALN_OUTn_CFG.AUTH n
    let (_, _, _, rest) := cutHeader (tmplV6 d n) (tmplHdr d n)
    let ms := ((outEntries d n).map fun e =>
      (false, (0 : Word32)) :: (maskBits (entryMask d false e)).map fun _ => (true, (0 : Word32))).flatten
    (Config.sessionFrame rest 0 0 0 ms auth (if auth = 0 then none else some 0)).length
  else 16 + ((outEntries d n).map fun e => blockBytes d e).sum

/-- The checks of R240, with the reason. -/
def outCheck (d : Dev) (n : Nat) : Nat :=
  let g (f : Field) : Nat := d.getN f n
  let ro := outRate d n
  if ro = 0 ∨ spreadRate d % ro ≠ 0 ∨ 512 < g Reg.ALN_OUTn_MAP.COUNT ∨ 16 ≤ g Reg.ALN_OUTn_CFG.PORT ∨
      g Reg.ALN_OUTn_TB.TIME_BASE = 0 ∨ tmplLen d n < 42 ∨ 240 < tmplLen d n ∨ (outEntries d n).any (entryBad d n) then
    stRejected
  else if 65507 < outBytes d n then stLimit
  else if d.on Reg.ALN_STATUS.RUN ∧ d.aln.lag < outLag d n then stNoSpace
  else if g Reg.ALN_OUTn_MAP.COUNT = 0 then stSkipped
  else stOk

def outAccepted (st : Nat) : Bool := st == stOk || st == stSkipped

/-- An output is refused. -/
def outRefuse (n st : Nat) (d : Dev) : Dev :=
  ((((d.setN Reg.ALN_OUTn_CFG.EN n 0).setN Reg.ALN_OUTn_STAT.ON n 0).setN Reg.ALN_OUTn_STAT.REJ n 1).setN
    Reg.ALN_OUTn_STAT.REASON n st).cause intAln 6 0 st

/-- ALN_OUTn_CFG.EN is written with 1. -/
def outputEnable (t : Time) (n : Nat) (d : Dev) : Dev :=
  if d.onN Reg.ALN_OUTn_CFG.EN n then d
  else
    let st := outCheck d n
    if !outAccepted st then outRefuse n st d
    else
      ((((d.setN Reg.ALN_OUTn_CFG.EN n 1).setN Reg.ALN_OUTn_STAT.REASON n st).setN Reg.ALN_OUTn_LAG.LAG n (outLag d n)).setB
        Reg.ALN_OUTn_STAT.ON n (!d.onN Reg.ALN_OUTn_CFG.CMD_EN n)).modAln fun x =>
          { x with outs := tmod x.outs n fun o => { o with since := t.ns, lag := outLag d n } }

def execOutputEnable (n : Nat) (s : State) : Host.Outcome State Fault Refusal :=
  run s fun t d => onWrite 0x80100 (fun d => if n < 32 then outputEnable t n d else d) d

/-- An output is turned off. -/
def outputOff (n : Nat) (d : Dev) : Dev := (d.setN Reg.ALN_OUTn_CFG.EN n 0).setN Reg.ALN_OUTn_STAT.ON n 0

/-! ## Outputs: frames (R241 to R249) -/

/-- The region of source s in the spread k, as the outputs took it at the close. -/
def histRegion (d : Dev) (k s : Nat) : Option Region :=
  match d.aln.hist.find? fun e => e.1 == k with
  | some e => e.2.find? fun g => g.src == s
  | none => none

/-- A word of source s in the spread k. -/
def histWord (d : Dev) (k s w : Nat) : Word32 :=
  match histRegion d k s with
  | some g => g.word w
  | none => wMissing

/-- Word w of source s at the instant a ÷ (R × r_i), as a decimation window takes it: `since` is the instant at which the
output was enabled (R243). At an instant off the spread grid the source, which Roll Call does not align, is missing. -/
def tapWord (d : Dev) (since s w a : Nat) : Word32 :=
  let r := max 1 (srcRate d s)
  if instNs a (spreadRate d * r) < since then wSettling
  else if a % r = 0 then histWord d (a / r) s w
  else wMissing

/-- The filtered word (R242, R243): `since` is the instant at which the output was enabled. -/
def filterWord (d : Dev) (since e k w : Nat) : Word32 :=
  let s := d.getN Reg.T_POOL.SRC e
  let set := d.getN Reg.T_POOL.COEF e
  let n := d.getN Reg.ALN_COEFn.NTAPS set
  let h := entryHalf d e
  let r := max 1 (srcRate d s)
  let ws := (List.range n).map fun (j : Nat) =>
    if k * r + j * spreadRate d < h * spreadRate d then wSettling
    else tapWord d since s w (k * r + j * spreadRate d - h * spreadRate d)
  match lowestCode (ws.map fun w => if isNan32 w then codeOf w else w) with
  | some c => c
  | none =>
    let cs := (List.range n).map fun j => numF (d.getN Reg.T_DECIM.C (set * 64 + j))
    to32 ((cs.zip ws).foldl (fun a p => dAdd a (dMul p.1 (num32 p.2))) .zero)

/-- The block of entry e of output n for the instant k: its STAT and its words, each with whether it is digital. -/
def outBlock (d : Dev) (n e k : Nat) : Nat × List (Bool × Word32) :=
  let s := d.getN Reg.T_POOL.SRC e
  let c37 := !d.onN Reg.ALN_OUTn_CFG.FMT n
  let ws := maskBits (entryMask d c37 e)
  let alarm := alarmBits d n s
  let stat (x : Nat) : Nat := if alarm = 0 then x else (x ||| 15) - 15 ||| alarm
  if outRate d n ≤ srcRate d s ∨ onGrid d k s then
    let hdr := match histRegion d k s with
      | some g => g.stat
      | none => 0x8000
    let word (w : Nat) : Word32 :=
      if entryDecimates d e && !isDigital d s w then filterWord d (tget d.aln.outs n).since e k w else histWord d k s w
    (stat hdr, ws.map fun w => (isDigital d s w, word w))
  else
    let st := spreadRate d / max 1 (srcRate d s)
    let k0 := k / st * st
    let hdr := match histRegion d k0 s with
      | some g => g.stat
      | none => 0x8000
    let hold := d.onN Reg.ALN_OUTn_CFG.HOLD n
    let word (w : Nat) : Word32 :=
      let x := histWord d k0 s w
      if hold then x else if !isDigital d s w && isNan32 x then lowCode (codeOf x) wHeld else wHeld
    (stat (hdr ||| 2 ^ 9), ws.map fun w => (isDigital d s w, word w))

/-- The TIME_QUALITY byte of C37.118 (R87, R89). -/
def timeQuality (t : Time) (d : Dev) : Nat :=
  tqOutWord t d % 16 + 16 * d.get Reg.TKP_UTC.LEAP_PEND + 32 * d.get Reg.TKP_UTC.LEAP_OCC + 64 * d.get Reg.TKP_UTC.LEAP_DIR

/-- A C37.118 data frame (R247). -/
def c37Frame (t : Time) (d : Dev) (n k : Nat) : List Byte :=
  let inst := spreadNs d k
  let tb := d.getN Reg.ALN_OUTn_TB.TIME_BASE n
  let blocks := ((outEntries d n).map fun e =>
    let (st, ws) := outBlock d n e k
    be 2 st ++ (ws.map fun w => if w.1 then be 2 w.2.toNat else be 4 w.2.toNat).flatten).flatten
  let frac := (2 * (inst % 1000000000) * tb + 1000000000) / 2000000000
  let b := [0xAA, if d.onN Reg.ALN_OUTn_CFG.VER2 n then 0x02 else 0x01] ++ be 2 (16 + blocks.length) ++
    be 2 (d.getN Reg.ALN_OUTn_ID.IDCODE n) ++ be 4 (unsig 32 (utcOf d (inst / 1000000000))) ++
    le 1 (timeQuality t d) ++ be 3 frac ++ blocks
  b ++ be 2 (crcCcitt b)

/-- The members of an R-SV dataset (R248). -/
def svMembers (d : Dev) (n k : Nat) : List (Bool × Word32) :=
  ((outEntries d n).map fun e =>
    let (st, ws) := outBlock d n e k
    (false, BitVec.ofNat 32 st) :: ws.map fun w => (true, w.2)).flatten

def outDrop (n : Nat) (d : Dev) : Dev := d.sat Reg.ALN_OUTn_DROP.N n

def modOut (n : Nat) (f : OutSt → OutSt) (d : Dev) : Dev := d.modAln fun x => { x with outs := tmod x.outs n f }

/-- A payload leaves behind the header template of output n (R249, R250). -/
def outSend (n : Nat) (payload : List Byte → List Byte) (d : Dev) : Dev :=
  let v6 := tmplV6 d n
  let port := d.getN Reg.ALN_OUTn_CFG.PORT n
  let (eth, ip, udp, rest) := cutHeader v6 (tmplHdr d n)
  let id := (tget d.aln.outs n).ipId
  match udpFrames d port v6 id eth ip udp (payload rest) with
  | none => outDrop n d
  | some (cut, fs) =>
    let d1 := if v6 && !cut then d else modOut n (fun o => { o with ipId := (o.ipId + 1) % (if v6 then 2 ^ 32 else 2 ^ 16) }) d
    if portTakes d port then (queueFrames port (d.getN Reg.ALN_OUTn_CFG.TC n) (.output n) fs d1).sat Reg.ALN_OUTn_CNT.N n
    else outDrop n d1

/-- Output n builds its frame for the spread k. -/
def outBuild (t : Time) (n k : Nat) (d : Dev) : Dev :=
  if !d.onN Reg.ALN_OUTn_CFG.FMT n then outSend n (fun _ => c37Frame t d n k) d
  else
    let auth := d.getN Reg.ALN_OUTn_CFG.AUTH n
    let inst := spreadNs d k
    let cnt := k % spreadRate d / (spreadRate d / max 1 (outRate d n))
    let go (key : Option Nat) (d : Dev) : Dev :=
      let p := (tget d.aln.outs n).spdu
      outSend n (fun h => Config.sessionFrame h p cnt inst (svMembers d n k) auth key)
        (modOut n (fun o => { o with spdu := (o.spdu + 1) % 2 ^ 32 }) d)
    if auth = 0 then go none d
    else match keyUse engOutput n (d.getN Reg.ALN_OUTn_CFG.KEY_SLOT n) (authUsage auth) false d with
      | (some key, d1) => go (some key.material) d1
      | (none, d1) => outDrop n d1

/-- The spread k has closed: output n builds the frame whose window this completes (R244). -/
def outClose (t : Time) (k n : Nat) (d : Dev) : Dev :=
  let lag := (tget d.aln.outs n).lag
  let c := k - lag
  let known := d.aln.hist.any fun e => e.1 == c
  if d.onN Reg.ALN_OUTn_CFG.EN n && (!d.onN Reg.ALN_OUTn_CFG.CMD_EN n || d.onN Reg.ALN_OUTn_STAT.ON n) && d.getN Reg.ALN_OUTn_MAP.COUNT n != 0 && decide (lag ≤ k) &&
      c % (spreadRate d / max 1 (outRate d n)) == 0 && known && decide ((tget d.aln.outs n).since ≤ spreadNs d c) then
    outBuild t n c d
  else d

/-! ## Spread records and patches (R236 to R239) -/

/-- The header of Table ALN-6. -/
def recHeader (inst nreg close reason nmiss len seq : Nat) : List Byte :=
  tk80Bytes inst ++ le 2 nreg ++ le 4 close ++ le 1 reason ++ le 1 0 ++ le 2 nmiss ++ le 4 len ++ le 4 seq ++ le 4 0

/-- A record goes to an RXH ring; the one of spread k is in progress until its completion is written. -/
def alnRecord (k : Option Nat) (ring : Nat) (bytes : List Byte) (lost : Dev → Dev) (d : Dev) : Dev :=
  if !ringIs d ring clsRxh then lost d
  else
    let idx := d.getN Reg.HIF_RINGn_DCONS.N ring
    match deliver ring bytes (List.replicate 16 0) d with
    | (.dropped, d1) => lost d1
    | (.noSpace, d1) => d1
    | (.sent, d1) => d1.modAln fun x => { x with dlv := (x.dlv.filter fun e => owes d1 e.2.1 e.2.2) ++ [(k, ring, idx)] }

def sprdLost (d : Dev) : Dev := (d.sat Reg.ALN_CNT_SPRD_DROP.N).cause intAln 4 0 0
def patchLost (d : Dev) : Dev := (d.sat Reg.ALN_CNT_PATCH_DROP.N).cause intAln 4 0 0

/-- The spread record of a close. -/
def spreadRecord (t : Time) (k inst reason seq : Nat) (rs : List Region) (d : Dev) : Dev :=
  if !d.on Reg.ALN_HOST.SPRD_EN then d
  else
    let mine := rs.filter fun g => attrGet d Reg.T_ATTR.HOST inst g.src == 1
    let body := (mine.map Region.bytes).flatten
    let nmiss := (rs.filter fun g => g.flags.testBit 0).length
    alnRecord (some k) (d.get Reg.ALN_HOST.SPRD_RING)
      (recHeader inst mine.length t.st32 reason nmiss (32 + body.length) seq ++ body) sprdLost d

/-- The record of a late frame; nothing gives its CLOSE. -/
def latePatch (k : Nat) (g : Region) (d : Dev) : Dev :=
  if !d.on Reg.ALN_HOST.PATCH_EN then d
  else
    let (c, d1) := d.draw
    let seq := match d.aln.held.find? fun e => e.1 == k with
      | some e => e.2
      | none => 0xFFFFFFFF
    let body := g.bytes
    alnRecord none (d.get Reg.ALN_HOST.PATCH_RING)
      (recHeader (spreadNs d k) 1 (Config.freeWord c).toNat 2 0 (32 + body.length) seq ++ body) patchLost d1

/-! ## Closing (R216, R219, R222 to R227, R235) -/

/-- The words of a TYPE 5 source, and the ST32 of their last change. -/
def gooseRegion (d : Dev) (s : Nat) : Region :=
  let n := min (d.getN Reg.T_SRC.WORDS s) (d.getN Reg.T_ATTR.RSV s)
  ⟨s, 0, tget d.ing.changed s, 0, (List.range n).map fun w => fmAt (fun _ => wMissing) d.ing.words (s * 64 + w)⟩

/-- The region of a source that is due and not present, as it is filled at close. -/
def fillRegion (sp : Spread) (s : Nat) (d : Dev) : Dev :=
  if srcType d s = 5 ∧ d.onN Reg.T_SRC.VALID s then writeRegion sp.k (gooseRegion d s) d
  else if sp.present.contains s then d.setN Reg.T_ATTR.MISS_RUN s 0
  else
    let n := if d.onN Reg.T_SRC.VALID s then min (d.getN Reg.T_SRC.WORDS s) (d.getN Reg.T_ATTR.RSV s) else 0
    let fl := flMissing + (if sp.future.contains s then flFuture else 0) + (if sp.tqDrop.contains s then flTq else 0)
    (writeRegion sp.k ⟨s, 0x8000, 0, fl, List.replicate n wMissing⟩ d).sat Reg.T_ATTR.MISS_RUN s

/-- An awaited source that has been missing long enough becomes DORMANT (R219). -/
def dormancy (sp : Spread) (s : Nat) (d : Dev) : Dev :=
  let n := attrGet d Reg.T_ATTR.ABSENT_N (spreadNs d sp.k) s
  if n ≠ 0 ∧ awaited d sp.k s ∧ !sp.present.contains s ∧ n ≤ d.getN Reg.T_ATTR.MISS_RUN s then
    (d.setN Reg.T_ATTR.STATE s 2).cause intAln 2 s 0
  else d

/-- What modal lanes read of a spread before its pass. -/
def closeEnv (d : Dev) (rs : List Region) : OpEnv where
  region s := rs.find? fun g => g.src == s
  areaF _ := .bad wInvalid
  areaA _ := .bad wInvalid
  pairDf _ := .bad wInvalid
  pairDa _ := .bad wInvalid
  nIsl := 0
  isl _ := 64
  refArea := d.get Reg.RUL_ISL.REF_AREA
  env _ := .bad wInvalid
  det _ := .bad wInvalid
  rule _ := false
  modal _ := .bad wInvalid
  remote _ := false

/-- Each consumer gets the close (R235). -/
def deliverClose (t : Time) (sp : Spread) (reason seq : Nat) (rs : List Region) (d : Dev) : Dev :=
  let inst := spreadNs d sp.k
  let d1 := (List.range 32).foldl (fun x n => outClose t sp.k n x) d
  let d2 := rulClose t sp.k inst seq sp.due d1
  let d3 := modalSpread t sp.k sp.due (some (closeEnv d rs)) false d2
  let rd (s w : Nat) (d : Dev) : Word32 × Dev := (match rs.find? fun g => g.src == s with
    | some g => g.word w
    | none => wMissing, d)
  let d4 := capSpread sp.k (spreadRate d) (fun s => sp.due.contains s) rd d3
  let d5 := spreadRecord t sp.k inst reason seq rs d4
  let up := rs.filter fun g => attrGet d Reg.T_ATTR.RELAY inst g.src == 1
  let d6 := if up.isEmpty then d5 else relayBuild t inst seq (up.map Region.bytes) d5
  dspClose t inst d6

/-- The instant of the last closed spread, as ALN_LAST shows it. -/
def showLast (inst seq : Nat) (d : Dev) : Dev :=
  (((d.set Reg.ALN_LAST_NS.NS (inst % 1000000000)).set Reg.ALN_LAST_SL.SEC (inst / 1000000000)).set Reg.ALN_LAST_SH.SEC
    (inst / 1000000000 / 2 ^ 32)).set Reg.ALN_SEQ.SEQ seq

/-- The spread at the head of the open ones closes: 0 FULL, 1 DEADLINE, 3 FLUSH. -/
def closeSpread (t : Time) (sp0 : Spread) (reason : Nat) (d : Dev) : Dev :=
  let sp := { sp0 with due := spreadDue d sp0 }
  let seq := d.aln.seq
  let inst := spreadNs d sp.k
  let keep := 2 * d.aln.lag + spreadRate d
  let d1 := sp.due.foldl (fun x s => fillRegion sp s x) d
  let d2 := sp.due.foldl (fun x s => dormancy sp s x) d1
  let (rs, d3) := readRegions sp.k sp.due d2
  let d4 := d3.modAln fun x => { x with
    last := some inst, closedK := some sp.k, nextK := max x.nextK (sp.k + 1), seq := (seq + 1) % 2 ^ 32, held := x.held ++ [(sp.k, seq)]
    open_ := x.open_.filter fun o => o.k != sp.k
    hist := ((sp.k, rs) :: x.hist).filter fun e => decide (sp.k ≤ e.1 + keep)
    attrLog := x.attrLog.filter fun e => decide (inst ≤ e.2.1) }
  let d5 := if reason = 0 then d4.sat Reg.ALN_CNT_CLOSE_FULL.N
    else if reason = 1 then d4.sat Reg.ALN_CNT_CLOSE_DL.N else d4
  openCount (deliverClose t sp reason seq rs (showLast inst seq d5))

/-- ALIGN has left 1 and the last spread opened before has closed (R255). -/
def drainEnd (t : Time) (d : Dev) : Dev :=
  if d.aln.drain && d.aln.open_.isEmpty then
    rulTakeMode t ((d.modAln fun x => { x with drain := false }).set Reg.ALN_STATUS.RUN 0)
  else d

/-- A spread's deadline lies a whole tick or more before now: the timekeeper has stepped past it (R226). -/
def overdue (t : Time) (d : Dev) (sp : Spread) : Bool := decide (spreadNs d sp.k + alnWait d + 4 ≤ t.ns)

/-- Close the spreads whose deadlines a step has passed, in instant order (R226). -/
def closeOverdue (t : Time) : Nat → Dev → Dev
  | 0, d => d
  | fuel + 1, d =>
    match d.aln.open_ with
    | [] => d
    | sp :: _ => if overdue t d sp then closeOverdue t fuel (closeSpread t sp 1 d) else d

/-- Close every spread that may close, in instant order: past its deadline, or complete with nothing earlier open; a source
marked present as the deadline is reached counts (R222 to R224, R226). -/
def alnSettle (t : Time) : Nat → Dev → Dev
  | 0, d => d
  | fuel + 1, d =>
    match d.aln.open_ with
    | [] => drainEnd t d
    | sp :: _ =>
      if overdue t d sp then alnSettle t fuel (closeSpread t sp 1 d)
      else if decide (sp.k ≤ d.aln.nextK) && spreadComplete d sp then alnSettle t fuel (closeSpread t sp 0 d)
      else if decide (sp.k ≤ d.aln.nextK) && decide (spreadNs d sp.k + alnWait d ≤ t.ns) then
        alnSettle t fuel (closeSpread t sp 1 d)
      else d

/-- Close what may close now. -/
def settle (t : Time) (d : Dev) : Dev :=
  if d.up islAln && d.on Reg.ALN_STATUS.RUN then alnSettle t (d.aln.open_.length + 1) d else d

def execSpreadDeadline (s : State) : Host.Outcome State Fault Refusal := run s fun t d => settle t d

/-! ## Opening -/

/-- Sources due in the spread k. -/
def dueList (d : Dev) (k : Nat) : List Nat := (List.range 512).filter fun s => srcDue d k s

/-- Put a spread among the open ones, in instant order. -/
def insertSpread (sp : Spread) : List Spread → List Spread
  | [] => [sp]
  | x :: xs => if sp.k < x.k then sp :: x :: xs else x :: insertSpread sp xs

/-- Its slot is held by another spread (R232). -/
def slotTaken (d : Dev) (k : Nat) : Bool :=
  (d.aln.held.any fun e => e.1 != k && alnSlot d e.1 == alnSlot d k) ||
    d.aln.open_.any fun o => o.k != k && alnSlot d o.k == alnSlot d k

/-- A spread opens; one already open takes in the sources that have become due. -/
def openSpread (k : Nat) (d : Dev) : Dev :=
  if d.aln.open_.any fun o => o.k == k then
    let join (o : Spread) : Spread :=
      if o.k = k then { o with due := (List.range 512).filter fun s => o.present.contains s || srcDue d k s } else o
    d.modAln fun x => { x with open_ := x.open_.map join }
  else openCount (d.modAln fun x => { x with open_ := insertSpread ⟨k, dueList d k, [], [], []⟩ x.open_ })

/-- Grid time reaches the next spread instant. -/
def spreadOpen (t : Time) (d : Dev) : Dev :=
  let k := d.aln.nextK
  if alnOpens d && !d.aln.drain && decide (spreadNs d k ≤ t.ns) && !slotTaken d k then
    settle t ((openSpread k d).modAln fun x => { x with nextK := k + 1 })
  else d

def execSpreadOpen (s : State) : Host.Outcome State Fault Refusal := run s fun t d => spreadOpen t d

/-- The records chosen that are still in progress end (R252, R260). DESIGN CHOICE: a record that a slot's release ends completes
its descriptor with ABORTED_RESET, as R260 states for a reset. -/
def cutRecords (which : Option Nat → Bool) (after : Dev → Dev) (d : Dev) : Dev :=
  let d1 := d.aln.dlv.foldl (fun x e =>
    if which e.1 && owes x e.2.1 e.2.2 then after (cutEntry e.2.1 e.2.2 x) else x) d
  d1.modAln fun x => { x with dlv := x.dlv.filter fun e => !which e.1 }

/-- The oldest closed spread whose slot no consumer needs gives it back; its record ends if it is still being written
(R238, R252). -/
def slotRelease (d : Dev) : Dev :=
  match d.aln.held, d.aln.closedK with
  | (k, _) :: rest, some c =>
    if decide (k + d.aln.lag ≤ c) && !(d.rul.evalQ.any fun e => e.k == k) then
      (cutRecords (fun r => r == some k) sprdLost d).modAln fun x => { x with held := rest }
    else d
  | _, _ => d

def execSlotRelease (s : State) : Host.Outcome State Fault Refusal :=
  run s fun _ d => if d.up islAln then slotRelease d else d

/-! ## Arrivals (R228 to R234, Table ALN-5) -/

/-- The spread of a block, if its rate divides R and it lies on the source's grid. -/
def blockK (d : Dev) (b : AlnBlk) : Option Nat :=
  let r := spreadRate d
  if b.rate = 0 ∨ r % b.rate ≠ 0 then none else some (b.sec * r + b.idx * (r / b.rate))

/-- Ingest reports a future frame (R229). -/
def futureReport (s : Nat) (d : Dev) : Dev :=
  let d1 := d.sat Reg.ALN_CNT_FUTURE.N
  match d.aln.open_.find? fun o => (spreadDue d o).contains s && !o.present.contains s with
  | some sp =>
    let mark (o : Spread) : Spread :=
      if o.k = sp.k ∧ !o.future.contains s then { o with future := o.future ++ [s] } else o
    d1.modAln fun x => { x with open_ := x.open_.map mark }
  | none => d1

/-- A frame for a spread that has closed (R230). -/
def lateFrame (t : Time) (k : Nat) (b : AlnBlk) (d : Dev) : Dev :=
  let d1 := d.sat Reg.ALN_CNT_LATE.N
  let d2 := if d.aln.lateSec = some t.sec then d1
    else (d1.modAln fun x => { x with lateSec := some t.sec }).cause intAln 5 0 0
  latePatch k ⟨b.src, b.stat, b.arrNs % 2 ^ 32, b.flags ||| flLate, b.words⟩ d2

/-- A DORMANT source is heard in time (R221). -/
def revive (k : Nat) (b : AlnBlk) (d : Dev) : Dev :=
  if dormant d b.src && decide (b.arrNs ≤ spreadNs d k + alnWait d) then
    (d.setN Reg.T_ATTR.STATE b.src 1).modAln fun x => { x with awaitFrom := tset x.awaitFrom b.src (k + 1) }
  else d

/-- A frame takes its place in the open spread k. -/
def takeFrame (sp : Spread) (b : AlnBlk) (d : Dev) : Dev :=
  let inst := spreadNs d sp.k
  let pol := if b.flags.testBit 5 then attrGet d Reg.T_ATTR.TQ_POLICY inst b.src else 0
  let upd (f : Spread → Spread) (d : Dev) : Dev :=
    d.modAln fun x => { x with open_ := x.open_.map fun o => if o.k = sp.k then f o else o }
  if pol = 2 then
    (upd (fun o => { o with tqDrop := if o.tqDrop.contains b.src then o.tqDrop else o.tqDrop ++ [b.src] }) d).sat
      Reg.ALN_CNT_TQDROP.N
  else
    let mark := d.get Reg.ALN_LATE.LATE_MARK * 1000
    let fl := b.flags ||| (if mark ≠ 0 ∧ inst + mark < b.arrNs then flLate else 0) |||
      (if sp.future.contains b.src then flFuture else 0) ||| (if pol = 1 then flInvalid else 0)
    let ws := if pol = 1 then List.replicate b.words.length wInvalid else b.words
    let stat := if srcType d b.src = 3 ∧ b.flags.testBit 0 then 0x8000 else b.stat
    upd (fun o => { o with
      present := o.present ++ [b.src]
      due := if o.due.contains b.src then o.due else (List.range 512).filter fun s => o.due.contains s || s == b.src })
      (writeRegion sp.k ⟨b.src, stat, b.arrNs % 2 ^ 32, fl, ws⟩ d)

/-- The cases of Table ALN-5 for a block of an aligned source at the spread k. -/
def arrive (t : Time) (k : Nat) (b : AlnBlk) (d0 : Dev) : Dev :=
  let d := revive k b d0
  match d.aln.open_.find? fun o => o.k == k with
  | some sp => if sp.present.contains b.src then d.sat Reg.ALN_CNT_DUP.N else takeFrame sp b d
  | none =>
    if k < d.aln.nextK ∨ k < d.aln.firstK ∨ d.aln.drain then lateFrame t k b d
    else if slotTaken d k then (d.sat Reg.ALN_CNT_NOSLOT.N).cause intAln 3 0 0
    else
      let d1 := openSpread k d
      match d1.aln.open_.find? fun o => o.k == k with
      | some sp => takeFrame sp b d1
      | none => d1

/-- The oldest block that ingest or a local group has handed over reaches Roll Call; one parsed before ALIGN left 1 too
(Table ARC-6). -/
def alignFrame (t : Time) (d : Dev) : Dev :=
  match d.aln.inq with
  | [] => d
  | b :: rest =>
    let d0 := d.modAln fun x => { x with inq := rest }
    let d1 := closeOverdue t d0.aln.open_.length d0
    if !(d1.up islAln && d1.on Reg.ALN_CTRL.EN && d1.on Reg.ALN_STATUS.RUN) then d1
    else if b.future then futureReport b.src d1
    else
      match blockK d1 b with
      | some k =>
        if srcAligned d1 b.src ∧ b.words.length ≤ d1.getN Reg.T_ATTR.RSV b.src then settle t (arrive t k b d1)
        else d1.sat Reg.ALN_CNT_NOREGION.N
      | none => d1.sat Reg.ALN_CNT_NOREGION.N

def execAlignFrame (s : State) : Host.Outcome State Fault Refusal := run s fun t d => alignFrame t d

/-! ## Starting and stopping (R212, R213, R253 to R257) -/

/-- Bytes of a source's region. -/
def regionBytes (d : Dev) (s : Nat) : Nat :=
  let r := d.getN Reg.T_ATTR.RSV s
  if r = 0 then 0 else 16 + 4 * r

/-- Lay out the regions in slot order; the offset after the last one. -/
def layOut (d : Dev) : Nat × Dev :=
  (List.range 512).foldl (fun (a : Nat × Dev) s =>
    (a.1 + regionBytes d s, a.2.setN Reg.T_ATTR.OFFSET s (if regionBytes d s = 0 then 0 else a.1))) (0, d)

/-- The first spread instant at least one period after now. -/
def firstSpread (t : Time) (d : Dev) : Nat := (t.ns * spreadRate d + 999999999) / 1000000000 + 1

/-- An enabled output is checked again at the start (R256). -/
def outRecheck (t : Time) (n : Nat) (d : Dev) : Dev :=
  if !d.onN Reg.ALN_OUTn_CFG.EN n then d
  else
    let st := outCheck d n
    if !outAccepted st then outRefuse n st d
    else
      let d1 := (d.setN Reg.ALN_OUTn_STAT.REASON n st).setN Reg.ALN_OUTn_LAG.LAG n (outLag d n)
      let d2 := if d.onN Reg.ALN_OUTn_CFG.CMD_EN n then d1 else d1.setN Reg.ALN_OUTn_STAT.ON n 1
      modOut n (fun o => { o with since := max o.since t.ns, lag := outLag d n }) d2

/-- Roll Call starts, or is refused for want of space. -/
def alnStart (t : Time) (d : Dev) : Dev :=
  let r := spreadRate d
  let (sum, d1) := layOut d
  let s := (sum + 63) / 64 * 64
  let lag := ((List.range 32).map fun n => if d.onN Reg.ALN_OUTn_CFG.EN n then outLag d n else 0).foldl max
    (d.get Reg.ALN_CTRL.LAG_RSV)
  let depth := (r * d.get Reg.ALN_WAIT.WAIT + 999999) / 1000000 + lag + 1
  let need := s * depth
  let d2 := ((d1.set Reg.ALN_SIZE.S s).set Reg.ALN_DEPTH.D depth).set Reg.ALN_DEPTH.NEED ((need + 2 ^ 20 - 1) / 2 ^ 20)
  if partBytes d partAlign < need then
    ((d2.set Reg.ALN_CTRL.EN 0).set Reg.ALN_STATUS.FAIL stNoSpace).cause intAln 1 0 stNoSpace
  else
    let k := firstSpread t d
    let d3 := (d2.set Reg.ALN_STATUS.FAIL stOk).modAln fun x => { (default : Aln) with
      last := x.last, validAt := x.validAt, outs := x.outs, dlv := x.dlv, nextK := k, firstK := k, lag := lag }
    let d4 := (List.range 32).foldl (fun x n => outRecheck t n x) d3
    let d5 := rulTakeMode t ((d4.set Reg.ALN_STATUS.RUN 1).modRul fun x => { x with next := d.get Reg.GLB_SPLIT.RULES })
    let d6 := (List.range 512).foldl (fun x i =>
      alnState i ((x.setN Reg.T_ATTR.STATE i 0).setN Reg.T_ATTR.MISS_RUN i 0)) d5
    let bad := (List.range 512).any fun i => d.onN Reg.T_SRC.VALID i && (srcRate d i == 0 || r % srcRate d i != 0)
    openCount (if bad then alnRej d6 else d6)

/-- EN goes from 0 to 1 (R256). -/
def rollCallStart (t : Time) (d : Dev) : Dev :=
  if d.on Reg.ALN_CTRL.EN then d
  else
    let d1 := d.set Reg.ALN_CTRL.EN 1
    if d.get Reg.GLB_SPLIT.ALIGN = 1 then alnStart t d1 else d1

def execRollCallStart (s : State) : Host.Outcome State Fault Refusal :=
  run s fun t d => onWrite 0x80000 (rollCallStart t) d

/-- Every open spread closes at once (R257). -/
def flushAll (t : Time) : Nat → Dev → Dev
  | 0, d => d
  | fuel + 1, d => match d.aln.open_ with
    | [] => d
    | sp :: _ => flushAll t fuel (closeSpread t sp 3 d)

/-- EN goes from 1 to 0 (R257). -/
def rollCallStop (t : Time) (d : Dev) : Dev :=
  let d1 := if d.on Reg.ALN_STATUS.RUN then flushAll t d.aln.open_.length d else d
  rulTakeMode t (((d1.modAln fun x => { x with drain := false }).set Reg.ALN_CTRL.EN 0).set Reg.ALN_STATUS.RUN 0)

def execRollCallStop (s : State) : Host.Outcome State Fault Refusal :=
  run s fun t d => onWrite 0x80000 (rollCallStop t) d

/-- GLB_SPLIT.ALIGN has changed (R255, R256, Table ARC-6). -/
def alnSplit (t : Time) (d : Dev) : Dev :=
  if !d.up islAln || !d.on Reg.ALN_CTRL.EN then d
  else if d.get Reg.GLB_SPLIT.ALIGN = 1 then
    if !d.on Reg.ALN_STATUS.RUN then alnStart t d
    else if d.aln.drain then
      let k := max d.aln.nextK (firstSpread t d)
      d.modAln fun x => { x with drain := false, nextK := k }
    else d
  else if d.on Reg.ALN_STATUS.RUN ∧ !d.aln.drain then
    let top := (d.aln.open_.map fun o => o.k + 1).foldl max d.aln.nextK
    settle t (d.modAln fun x => { x with drain := true, nextK := top })
  else d

/-- A source's entry has been made valid or not valid (R212, R234); before Roll Call is enabled, the enable reports a rate that
does not divide R. -/
def alnSource (t : Time) (s : Nat) (d : Dev) : Dev :=
  let d1 := if d.onN Reg.T_SRC.VALID s then d.modAln fun x => { x with validAt := tset x.validAt s t.ns } else d
  let r := srcRate d s
  let d2 := if d.on Reg.ALN_CTRL.EN && d.onN Reg.T_SRC.VALID s && (r == 0 || spreadRate d % r != 0) then alnRej d1 else d1
  settle t (alnState s d2)

/-- An IRST of ALN or Doze entry: open spreads, output frames and DORMANT states go without a close (R260, R261). -/
def alnReset (d : Dev) : Dev :=
  let d1 := overAll 512 (fun s x =>
    if x.getN Reg.T_ATTR.STATE s = 0 ∧ x.getN Reg.T_ATTR.MISS_RUN s = 0 then x
    else (x.setN Reg.T_ATTR.STATE s 0).setN Reg.T_ATTR.MISS_RUN s 0) d
  (d1.set Reg.ALN_STATUS.RUN 0).modAln fun x => { (default : Aln) with validAt := x.validAt, outs := x.outs }

/-- An IRST of ALN ends the record deliveries in progress with ABORTED_RESET (R260). -/
def alnAbort (d : Dev) : Dev := alnReset (cutRecords (fun _ => true) id d)

/-- ALN leaves reset or wakes with EN kept at 1. -/
def alnResume (t : Time) (d : Dev) : Dev :=
  if d.on Reg.ALN_CTRL.EN && d.get Reg.GLB_SPLIT.ALIGN == 1 then alnStart t d else d

end Sys2Proof.Machine
end

