-- ==== Sys2Proof/Machine/Adc.lean ====
section
/-!
DEFINITION. The converters and the Itinerary: reference, walks, starts, slots, settling, samples and the diagnostic ring
(the chapter on local converters).
-/

namespace Sys2Proof.Machine

open Sys2Proof

def Dev.cv (d : Dev) (n : Nat) : Cv := tget d.adc.cv n
def Dev.modCv (d : Dev) (n : Nat) (f : Cv → Cv) : Dev := { d with adc := { d.adc with cv := tmod d.adc.cv n f } }

def adcRej (d : Dev) : Dev := d.cause intAdc 4 0 0

def fRun (n : Nat) : Field := if n = 0 then Reg.ADC_STATUS.RUN0 else Reg.ADC_STATUS.RUN1
def fArmed (n : Nat) : Field := if n = 0 then Reg.ADC_STATUS.ARMED0 else Reg.ADC_STATUS.ARMED1
def fPos (n : Nat) : Field := if n = 0 then Reg.ADC_STATUS.POS0 else Reg.ADC_STATUS.POS1
def cvRuns (d : Dev) (n : Nat) : Bool := d.on (fRun n)
def cvArmed (d : Dev) (n : Nat) : Bool := d.on (fArmed n)
def cvPos (d : Dev) (n : Nat) : Nat := d.get (fPos n)
def cvSlot (d : Dev) (n : Nat) : Nat := max 1 (d.getN Reg.ADC_CVn_SLOT.NS n)

/-! ## The reference (R265, R266) -/

/-- ADC_REF.EN goes from 0 to 1. -/
def refEnable (t : Time) (d : Dev) : Dev :=
  if d.on Reg.ADC_REF.EN then d
  else let d1 := d.set Reg.ADC_REF.EN 1; { d1 with adc := { d1.adc with refFrom := some t.loc } }

def execRefEnable (s : State) : Host.Outcome State Fault Refusal := run s fun t d => onWrite 0xA0004 (refEnable t) d

/-- EN goes to 0, or the buffer loses its power. -/
def refOff (d : Dev) : Dev := { d.set Reg.ADC_STATUS.REF_OK 0 with adc := { d.adc with refFrom := none } }

/-- The reference's start-up time has passed. -/
def refReady (t : Time) (d : Dev) : Dev :=
  match d.adc.refFrom with
  | some f =>
    if d.on Reg.ADC_REF.EN && decide (f + (if d.on Reg.ADC_REF.EXT then 100000 else 2000000) ≤ t.loc)
    then d.set Reg.ADC_STATUS.REF_OK 1 else d
  | none => d

def execRefReady (s : State) : Host.Outcome State Fault Refusal :=
  run s fun t d => if d.up islRaw then refReady t d else d

/-! ## The walk (R271, R272) -/

/-- An entry holds a reserved value. -/
def itinBad (d : Dev) (e : Nat) : Bool :=
  decide (24 ≤ d.getN Reg.T_ITIN.CHAN e) || decide (d.getN Reg.T_ITIN.OP e = 3) || decide (256 < d.getN Reg.T_ITIN.REPEAT e)

/-- Slots of an entry. -/
def itinSlots (d : Dev) (e : Nat) : Nat := d.getN Reg.T_ITIN.REPEAT e + d.getN Reg.T_ITIN.DELAY e

/-- The entries from e on, with the LOOP entry met, up to END, or up to the LOOP entry of an endless loop; `none` where the
walk is refused. -/
def itinWalk (d : Dev) (endless : Bool) : Nat → Nat → Option Nat → Option (List Nat × Option Nat)
  | 0, _, _ => none
  | fuel + 1, e, loop =>
    if 128 ≤ e ∨ itinBad d e then none
    else
      let op := d.getN Reg.T_ITIN.OP e
      let more (l : Option Nat) := (itinWalk d endless fuel (e + 1) l).map fun r => (e :: r.1, r.2)
      if op = 0 then more loop
      else if op = 2 then some ([e], loop)
      else if loop.isSome ∨ e < d.getN Reg.T_ITIN.LOOP_TO e then none
      else if endless then some ([e], some e)
      else more (some e)

/-- Lanes that the entries name with LANE_EN = 1. -/
def itinLanes (d : Dev) (es : List Nat) : List Nat :=
  (es.filter fun e => d.onN Reg.T_ITIN.LANE_EN e).map fun e => d.getN Reg.T_ITIN.LANE e

/-- The entries and the loop length of converter n's list, or `none` where the start is refused (R272). The body of a loop
whose LOOP_TO lies before START belongs to the list. -/
def cvWalk (d : Dev) (n : Nat) : Option (List Nat × Nat) :=
  let start := d.getN Reg.ADC_CVn_LIST.START n
  match itinWalk d (d.onN Reg.ADC_CVn_LOOPS.ENDLESS n) 129 start none with
  | none => none
  | some (es, loop) =>
    let body := match loop with
      | some l => (List.range 128).filter fun e => d.getN Reg.T_ITIN.LOOP_TO l ≤ e && e ≤ l
      | none => []
    let len := (body.map (itinSlots d)).sum * cvSlot d n
    let before := body.filter fun e => e < start
    let all := before ++ es
    let o := 1 - n
    let other := if cvRuns d o || cvArmed d o then (d.cv o).walked else []
    let lanes := itinLanes d all ++ itinLanes d other
    if before.any (fun e => itinBad d e || d.getN Reg.T_ITIN.OP e == 1) || (loop.isSome && (len == 0 || 1000000000 % len != 0)) ||
      all.any (fun e => other.contains e) || lanes.any (fun l => decide (1 < lanes.count l)) then none
    else some (all, len)

/-! ## Starting and stopping (R273, R275 to R277) -/

/-- An instant rounded up to a slot boundary. -/
def slotUp (slot : Nat) (x : Nat) : Nat := (x + slot - 1) / slot * slot

/-- Converter n's armed target as an instant on a slot boundary, under STMODE as it is now (R36, R37, R39, R275). -/
def cvTarget (t : Time) (n : Nat) (d : Dev) : Nat :=
  let c := d.cv n
  slotUp (cvSlot d n) ((t.ns : Int) + timeAhead d.tkp.extend t.ns (c.target % 2 ^ 32) (c.target / 2 ^ 32)).toNat

def startStatus (n st : Nat) (d : Dev) : Dev := d.setN Reg.ADC_CVn_STAT.START_STATUS n st

/-- Converter n is started for a target: its short time and epoch as one number (R275). -/
def cvArm (t : Time) (n target tol : Nat) (d : Dev) : Dev :=
  let start := d.getN Reg.ADC_CVn_LIST.START n
  match cvWalk d n with
  | none => adcRej (startStatus n stRejected d)
  | some (es, len) =>
    let d1 := d.setN Reg.ADC_CVn_LOOPLEN.NS n len
    if d.getN Reg.T_ITIN.REPEAT start = 0 ∧ d.getN Reg.T_ITIN.OP start = 2 then startStatus n stSkipped d1
    else (d1.set (fArmed n) 1).modCv n fun c => { (default : Cv) with
      target := target, tol := tol, armNs := t.ns, walked := es, due := c.due, tdcSeen := c.tdcSeen }

/-- GO is written (R275). -/
def adcGo (t : Time) (n : Nat) (d : Dev) : Dev :=
  if !d.onN Reg.ADC_CVn_CTRL.EN n || cvRuns d n || cvArmed d n then adcRej d
  else cvArm t n (d.getN Reg.ADC_CVn_TSTART.ST n + 2 ^ 32 * d.getN Reg.ADC_CVn_TEPOCH.EPOCH n) (d.getN Reg.ADC_CVn_TEPOCH.LATE_TOL n) d

def execAdcGo (cv : Nat) (s : State) : Host.Outcome State Fault Refusal :=
  run s fun t d => if cv < 2 then onWrite 0xA0040 (adcGo t cv) d else d

/-- Conversions of an entry that are invalid after a change (R278, R279, Table ADC-3). -/
def settleCount (slot gain avail : Nat) : Nat :=
  let ts := [250, 450, 900, 1800].getD gain 0
  if avail < ts then (ts - avail + slot - 1) / slot else 0

/-- Entry e becomes the running entry; `first` is the time from arming to the first hold edge for the first entry. -/
def enterEntry (n e : Nat) (first : Option Nat) (d : Dev) : Dev :=
  let slot := cvSlot d n
  let ch := d.getN Reg.T_ITIN.CHAN e
  let g := d.getN Reg.T_ITIN.GAIN e
  let k := match first, (d.cv n).prev with
    | some a, _ => settleCount slot g a
    | none, some (pc, pg, pd) => if pc = ch ∧ pg = g then 0 else settleCount slot g (slot - 200 + pd * slot)
    | none, none => 0
  ((d.set (fPos n) e).setN Reg.ADC_CVn_SETTLE.N n k).modCv n fun c => { c with
    reps := 0, idle := 0, sumCode := 0, sumQ := 0, valid := 0, last := none
    prev := some (ch, g, d.getN Reg.T_ITIN.DELAY e) }

/-- The armed target is taken up (R276, R40 to R42). -/
def adcStart (t : Time) (n : Nat) (d : Dev) : Dev :=
  if !cvArmed d n then d
  else
    let c := d.cv n
    let done (st : Nat) (d : Dev) : Dev := (startStatus n st d).cause intAdc n 0 st
    let go (st first : Nat) : Dev :=
      let d1 := (((d.set (fArmed n) 0).set (fRun n) 1).setN Reg.ADC_CVn_PASS.N n 0).modCv n fun x => { x with next := first }
      done st (enterEntry n (d.getN Reg.ADC_CVn_LIST.START n) (some (first - c.armNs)) d1)
    let g := cvTarget t n d
    match verdictOf ((g : Int) - t.ns) (tickSpan t d) c.tol with
    | .wait => d
    | .ok => go stOk g
    | .late => go stLate (slotUp (cvSlot d n) t.ns)
    | .expired => done stExpired (d.set (fArmed n) 0)

def execAdcStart (cv : Nat) (s : State) : Host.Outcome State Fault Refusal :=
  run s fun t d => if cv < 2 ∧ d.up islRaw then adcStart t cv d else d

/-- STOP is written, or EN goes to 0 (R277). -/
def adcStop (n : Nat) (d : Dev) : Dev :=
  if cvArmed d n then startStatus n stRejected (d.set (fArmed n) 0)
  else if cvRuns d n then d.modCv n fun c => { c with stopping := true }
  else d

def execAdcStop (cv : Nat) (s : State) : Host.Outcome State Fault Refusal :=
  run s fun _ d => if cv < 2 then onWrite 0xA0040 (adcStop cv) d else d

/-! ## Samples (R280 to R283, Tables ADC-5 and ADC-6) -/

/-- A code in the form of ADC_CTRL.FMT. -/
def adcForm (d : Dev) (code : Int) : Word32 :=
  BitVec.ofNat 32 (unsig 32 (match d.get Reg.ADC_CTRL.FMT with
    | 0 => code
    | 1 => code * 16384
    | _ => code + 131072))

/-- The sample of a finished entry, if it is delivered (R280). -/
def entrySample (d : Dev) (n e : Nat) : Option (Nat × Option Int × Word32 × Nat) :=
  let c := d.cv n
  if !d.onN Reg.T_ITIN.LANE_EN e then none
  else
    let lane := d.getN Reg.T_ITIN.LANE e
    let mk (code : Option Int) (q : Nat) := some (lane, code, (code.map (adcForm d)).getD wSettling, q)
    let lastQ := (c.last.map fun x => x.2).getD 0
    if d.onN Reg.T_ITIN.ACC e then
      if c.valid = 0 then mk none lastQ else mk (some (divEven c.sumCode c.valid)) ((2 * c.sumQ + c.valid) / (2 * c.valid))
    else mk (c.last.bind fun x => x.1) lastQ

def owedSample (n : Nat) (x : AdcDue) (d : Dev) : Dev :=
  if x = ⟨none, none⟩ then d else d.modCv n fun c => { c with due := c.due ++ [x] }

/-- The diagnostic record of a conversion (Table ADC-6). -/
def diagRecord (n e ch g : Nat) (w : Word32) (bad : Bool) (dev : Int) : List Byte :=
  le 4 w.toNat ++ le 1 (e + 128 * b2n bad) ++ le 1 (ch + 32 * g + 128 * n) ++ le 2 (unsig 16 dev)

def diagOn (d : Dev) (n : Nat) : Bool :=
  d.on Reg.ADC_CTRL.DIAG_EN && (d.get Reg.ADC_CTRL.DIAG_CV == n || d.get Reg.ADC_CTRL.DIAG_CV == 2)

/-- A hold edge is measured (R283). -/
def tdc (n : Nat) (dev : Int) (d : Dev) : Dev :=
  let seen := (d.cv n).tdcSeen
  let lo := if seen then min dev (sint 16 (d.getN Reg.ADC_CVn_TDC.MIN n)) else dev
  let hi := if seen then max dev (sint 16 (d.getN Reg.ADC_CVn_TDC.MAX n)) else dev
  let d1 := ((d.setN Reg.ADC_CVn_TDC.MIN n (unsig 16 lo)).setN Reg.ADC_CVn_TDC.MAX n (unsig 16 hi)).modCv n fun c =>
    { c with tdcSeen := true }
  let lim := d.get Reg.ADC_TDC_LIM.LIM
  if lim ≠ 0 ∧ lim < dev.natAbs then d1.cause intAdc 6 0 0 else d1

/-- A conversion of entry e at the slot boundary b (R264, R266, R279, R284). -/
def convert (n e b : Nat) (smp : AdcSample) (d : Dev) : Dev :=
  let c := d.cv n
  let ch := d.getN Reg.T_ITIN.CHAN e
  let clipped := decide (131071 < smp.code) || decide (smp.code < -131072)
  let code := max (-131072) (min smp.code 131071)
  let early := !d.on Reg.ADC_STATUS.REF_OK
  let bad := early || decide (c.reps < d.getN Reg.ADC_CVn_SETTLE.N n) || c.stepped
  let q := ((4 * b : Nat) + smp.dev).toNat
  let d1 := tdc n smp.dev d
  let d2 := if clipped then ((d1.sat Reg.ADC_CVn_CNT_CLIP.N n).set Reg.ADC_CLIPCH.CH
    (d1.get Reg.ADC_CLIPCH.CH ||| 2 ^ ch)).cause intAdc 7 0 0 else d1
  let d3 := if bad then d2.sat Reg.ADC_CVn_CNT_INV.N n else d2
  let d4 := if early then d3.cause intAdc 5 0 0 else d3
  let d5 := d4.modCv n fun x => { x with
    reps := x.reps + 1, stepped := false, last := some (if bad then none else some code, q)
    sumCode := if bad then x.sumCode else x.sumCode + code, sumQ := if bad then x.sumQ else x.sumQ + q
    valid := if bad then x.valid else x.valid + 1 }
  let last := c.reps + 1 == d.getN Reg.T_ITIN.REPEAT e
  owedSample n ⟨
    if diagOn d n then some (diagRecord n e ch (d.getN Reg.T_ITIN.GAIN e) (if bad then wSettling else adcForm d code) bad
      smp.dev) else none,
    if last then entrySample d5 n e else none⟩ d5

/-! ## Slots (R270, R271, R273) -/

def cvHalt (n : Nat) (d : Dev) : Dev := (d.set (fRun n) 0).modCv n fun c => { c with stopping := false, stepped := false }

/-- Entries that are complete act on their OP, up to the entry that takes the coming slot (R270, R271). -/
def itinAdvance (n : Nat) : Nat → Dev → Dev
  | 0, d => d
  | fuel + 1, d =>
    let c := d.cv n
    let e := cvPos d n
    if !cvRuns d n || c.reps < d.getN Reg.T_ITIN.REPEAT e || c.idle < d.getN Reg.T_ITIN.DELAY e then d
    else
      match d.getN Reg.T_ITIN.OP e with
      | 0 => itinAdvance n fuel (enterEntry n (e + 1) none d)
      | 1 =>
        let p := d.getN Reg.ADC_CVn_PASS.N n
        if d.onN Reg.ADC_CVn_LOOPS.ENDLESS n || decide (p < d.getN Reg.ADC_CVn_LOOPS.COUNT n) then
          itinAdvance n fuel (enterEntry n (d.getN Reg.T_ITIN.LOOP_TO e) none (d.wrapInc Reg.ADC_CVn_PASS.N n))
        else itinAdvance n fuel (enterEntry n (e + 1) none d)
      | _ => (cvHalt n d).cause intAdc (2 + n) 0 0

/-- A slot boundary of a running converter. -/
def adcSlot (t : Time) (n : Nat) (smp : AdcSample) (d : Dev) : Dev :=
  let c := d.cv n
  if !cvRuns d n || decide (t.ns < c.next) then d
  else if c.stopping then cvHalt n d
  else
    let d1 := itinAdvance n 256 d
    if !cvRuns d1 n then d1
    else
      let e := cvPos d1 n
      let b := c.next
      let d2 := d1.modCv n fun x => { x with next := b + cvSlot d n }
      if (d1.cv n).reps < d.getN Reg.T_ITIN.REPEAT e then convert n e b smp d2
      else d2.modCv n fun x => { x with idle := x.idle + 1, stepped := false }

def execAdcSlot (cv : Nat) (smp : AdcSample) (s : State) : Host.Outcome State Fault Refusal :=
  run s fun t d => if cv < 2 ∧ d.up islRaw then adcSlot t cv smp d else d

/-! ## Delivery (R280 to R282, R285) -/

/-- The diagnostic buffer goes to the host. -/
def diagSend (d : Dev) : Dev :=
  if d.adc.diag.isEmpty then d
  else
    let n := d.adc.diag.length
    let d1 := { d with adc := { d.adc with diag := [] } }
    match deliver (d.get Reg.ADC_CTRL.DIAG_RING) d.adc.diag.flatten [] d1 with
    | (.sent, d2) => d2
    | (_, d2) => d2.addSat Reg.ADC_CNT_DIAG.N 0 n

/-- A diagnostic record joins the buffer (R285). -/
def diagPut (t : Time) (r : List Byte) (d : Dev) : Dev :=
  let ring := d.get Reg.ADC_CTRL.DIAG_RING
  if !ringIs d ring clsRxh || !ringFree d ring then d.sat Reg.ADC_CNT_DIAG.N
  else
    let d1 := { d with adc := { d.adc with
      diag := d.adc.diag ++ [r], diagFrom := if d.adc.diag.isEmpty then t.loc else d.adc.diagFrom } }
    match (d.ring ring).posted with
    | b :: _ => if b.len < 8 * (d1.adc.diag.length + 1) then diagSend d1 else d1
    | [] => d1

/-- A sample goes to its lane, if the lane takes the converters; else it is counted on both sides (R281, R282, R289). -/
def laneOffer (t : Time) (n lane : Nat) (code : Option Int) (raw : Word32) (q : Nat) (d : Dev) : Dev :=
  if d.getN Reg.T_LANE.SRC_SEL lane ≠ 1 then (d.sat Reg.ADC_CVn_CNT_NOLANE.N n).sat Reg.FLT_CNT_NOLANE.N
  else
    let smp : LaneSmp := ⟨none, qInst q, (code.getD 0) * 16384, if code.isNone then some wSettling else none, false, raw⟩
    { d with flt := { d.flt with lanes := tmod d.flt.lanes lane fun l =>
      { l with inq := l.inq ++ [smp], lastLoc := t.loc } } }

/-- The oldest result of converter n is delivered. -/
def adcSampleDeliver (t : Time) (n : Nat) (d : Dev) : Dev :=
  match (d.cv n).due with
  | [] => d
  | x :: rest =>
    let d1 := d.modCv n fun c => { c with due := rest }
    let d2 := match x.sample with
      | some (lane, code, raw, q) => laneOffer t n lane code raw q d1
      | none => d1
    match x.diag with
    | some r => diagPut t r d2
    | none => d2

def execAdcSampleDeliver (cv : Nat) (s : State) : Host.Outcome State Fault Refusal :=
  run s fun t d => if cv < 2 ∧ d.up islRaw then adcSampleDeliver t cv d else d

/-- 100 µs have passed since the first record of the buffer. -/
def diagFlush (t : Time) (d : Dev) : Dev := if d.adc.diagFrom + 100000 ≤ t.loc then diagSend d else d

def execDiagFlush (s : State) : Host.Outcome State Fault Refusal :=
  run s fun t d => if d.up islRaw then diagFlush t d else d

/-! ## Resets and Doze (R287, R288) -/

/-- RAW enters reset or Doze: the converters stop and the reference loses its power. -/
def adcReset (d : Dev) : Dev :=
  let d1 := (List.range 2).foldl (fun x n => (x.set (fRun n) 0).set (fArmed n) 0) d
  { refOff d1 with adc := default }

/-- RAW leaves reset or wakes (R288). -/
def adcResume (t : Time) (d : Dev) : Dev :=
  let d1 := if d.on Reg.ADC_REF.EN then { d with adc := { d.adc with refFrom := some t.loc } } else d
  let target := (t.ns + 2000000 + 999999999) / 1000000000 * 1000000000
  (List.range 2).foldl (fun x n =>
    if x.onN Reg.ADC_CVn_CTRL.EN n && x.onN Reg.ADC_CVn_CTRL.AUTO n
    then cvArm t n target 0 x else x) d1

end Sys2Proof.Machine
end

