-- ==== Sys2Proof/Machine/Deflate.lean ====
section
/-!
DEFINITION. The DEFLATE streams of the compression engine: inflating with output limits (RFC 1951 as R601 and R602 use it),
the wrappers of R599 and R601, and the stream of a COMPRESS job (R598, R600).
-/

namespace Sys2Proof.Machine

open Sys2Proof

/-- Adler-32. -/
def adler32 (bs : List Byte) : Nat :=
  let r := bs.foldl (fun (s : Nat × Nat) b => let a := (s.1 + b.toNat) % 65521; (a, (s.2 + a) % 65521)) (1, 0)
  r.2 * 65536 + r.1

/-! ## Inflating -/

/-- The decoder: the bits not yet read, the output latest first with its length, the blocks read, the limits of R602 (of
MAX_RATIO or MAX_OUT, and OUT_LEN), and the failure that ended it: `some 0` for a source that ended too early, else a status
code. -/
structure Inf where
  bs : List Bool
  out : List Byte
  n : Nat
  blocks : Nat
  lim : Option Nat
  outLen : Nat
  err : Option Nat
  deriving Repr

def Inf.fail (s : Inf) (e : Nat) : Inf := { s with err := s.err.orElse fun _ => some e }

/-- Read k bits, least significant first. -/
def infBits : Nat → Inf → Nat × Inf
  | 0, s => (0, s)
  | k + 1, s =>
    match s.bs with
    | [] => (0, s.fail 0)
    | b :: rest => let r := infBits k { s with bs := rest }; (b2n b + 2 * r.1, r.2)

/-- One output byte, checked against the limits first (R602, R604). -/
def infEmit (b : Byte) (s : Inf) : Inf :=
  if s.err.isSome then s
  else if (match s.lim with | some l => decide (l ≤ s.n) | none => false) then s.fail stLimit
  else if s.outLen ≤ s.n then s.fail stOutFull
  else { s with out := b :: s.out, n := s.n + 1 }

/-- Copy so many bytes from a distance back. -/
def infCopy : Nat → Nat → Inf → Inf
  | 0, _, s => s
  | k + 1, dist, s => infCopy k dist (infEmit (s.out.getD (dist - 1) 0) s)

/-- Copy so many whole bytes of the source. -/
def infStored : Nat → Inf → Inf
  | 0, s => s
  | k + 1, s =>
    if s.err.isSome then s
    else let r := infBits 8 s; infStored k (infEmit (BitVec.ofNat 8 r.1) r.2)

/-- A canonical Huffman code: symbols per length 1 to 15, and the symbols in code order. -/
structure Huff where
  counts : List Nat
  syms : List Nat
  deriving Repr

/-- The code of a list of lengths. -/
def huffOf (lens : List Nat) : Huff where
  counts := (List.range 15).map fun l => lens.count (l + 1)
  syms := (List.range 15).flatMap fun l => (List.range lens.length).filter fun i => lens.getD i 0 == l + 1

/-- Code space left over: 0 for a complete code, negative for one with too many codes. -/
def huffLeft (h : Huff) : Int := h.counts.foldl (fun (l : Int) (c : Nat) => 2 * l - c) 1

/-- May the code be used: complete, or a single code of one bit? -/
def huffOk (h : Huff) : Bool :=
  huffLeft h == 0 || (decide (0 < huffLeft h) && (h.counts.sum == 1) && h.counts.headD 0 == 1)

/-- Read one symbol; `none` for a code that no symbol has. -/
def huffGo (syms : List Nat) : List Nat → Nat → Nat → Nat → Inf → Option Nat × Inf
  | [], _, _, _, s => (none, s)
  | c :: cs, code, first, index, s =>
    let r := infBits 1 s
    let code1 := code + r.1
    if r.2.err.isSome then (none, r.2)
    else if code1 < first + c then (some (syms.getD (index + (code1 - first)) 0), r.2)
    else huffGo syms cs (2 * code1) (2 * (first + c)) (index + c) r.2

def huffRead (h : Huff) (s : Inf) : Option Nat × Inf := huffGo h.syms h.counts 0 0 0 s

/-- Base and extra bits of the length codes 257 to 285 (RFC 1951). -/
def lenCodes : List (Nat × Nat) :=
  [(3, 0), (4, 0), (5, 0), (6, 0), (7, 0), (8, 0), (9, 0), (10, 0), (11, 1), (13, 1), (15, 1), (17, 1), (19, 2),
   (23, 2), (27, 2), (31, 2), (35, 3), (43, 3), (51, 3), (59, 3), (67, 4), (83, 4), (99, 4), (115, 4), (131, 5),
   (163, 5), (195, 5), (227, 5), (258, 0)]

/-- Base and extra bits of the distance codes 0 to 29 (RFC 1951). -/
def distCodes : List (Nat × Nat) :=
  [(1, 0), (2, 0), (3, 0), (4, 0), (5, 1), (7, 1), (9, 2), (13, 2), (17, 3), (25, 3), (33, 4), (49, 4), (65, 5),
   (97, 5), (129, 6), (193, 6), (257, 7), (385, 7), (513, 8), (769, 8), (1025, 9), (1537, 9), (2049, 10), (3073, 10),
   (4097, 11), (6145, 11), (8193, 12), (12289, 12), (16385, 13), (24577, 13)]

/-- The symbols of one block, up to its end-of-block code. -/
def infCodes (lh dh : Huff) : Nat → Inf → Inf
  | 0, s => s.fail 0
  | fuel + 1, s =>
    if s.err.isSome then s
    else match huffRead lh s with
      | (none, s1) => s1.fail stMalformed
      | (some sym, s1) =>
        if sym < 256 then infCodes lh dh fuel (infEmit (BitVec.ofNat 8 sym) s1)
        else if sym = 256 then s1
        else if 285 < sym then s1.fail stMalformed
        else
          let lc := lenCodes.getD (sym - 257) (0, 0)
          let (le, s2) := infBits lc.2 s1
          match huffRead dh s2 with
          | (none, s3) => s3.fail stMalformed
          | (some ds, s3) =>
            if 29 < ds then s3.fail stMalformed
            else
              let dc := distCodes.getD ds (0, 0)
              let (de, s4) := infBits dc.2 s3
              if s4.err.isSome then s4
              else if s4.n < dc.1 + de then s4.fail stMalformed
              else infCodes lh dh fuel (infCopy (lc.1 + le) (dc.1 + de) s4)

/-- The fixed codes of RFC 1951. -/
def fixedLens : List Nat :=
  List.replicate 144 8 ++ List.replicate 112 9 ++ List.replicate 24 7 ++ List.replicate 8 8

/-- Order of the code length codes. -/
def clOrder : List Nat := [16, 17, 18, 0, 8, 7, 9, 6, 10, 5, 11, 4, 12, 3, 13, 2, 14, 1, 15]

/-- Read k code lengths of three bits each. -/
def infClLens : Nat → Inf → List Nat × Inf
  | 0, s => ([], s)
  | k + 1, s => let r := infBits 3 s; let q := infClLens k r.2; (r.1 :: q.1, q.2)

/-- Read literal and distance code lengths until there are `want` of them; `acc` is latest first. -/
def infLens (h : Huff) (want : Nat) : Nat → List Nat → Inf → List Nat × Inf
  | 0, acc, s => (acc.reverse, s.fail 0)
  | fuel + 1, acc, s =>
    if s.err.isSome ∨ acc.length = want then (acc.reverse, s)
    else if want < acc.length then (acc.reverse, s.fail stMalformed)
    else match huffRead h s with
      | (none, s1) => (acc.reverse, s1.fail stMalformed)
      | (some sym, s1) =>
        if sym < 16 then infLens h want fuel (sym :: acc) s1
        else if sym = 16 then
          let (k, s2) := infBits 2 s1
          match acc with
          | [] => ([], s2.fail stMalformed)
          | x :: _ => infLens h want fuel (List.replicate (3 + k) x ++ acc) s2
        else if sym = 17 then
          let (k, s2) := infBits 3 s1
          infLens h want fuel (List.replicate (3 + k) 0 ++ acc) s2
        else
          let (k, s2) := infBits 7 s1
          infLens h want fuel (List.replicate (11 + k) 0 ++ acc) s2

/-- A block with dynamic codes. -/
def infDynamic (fuel : Nat) (s : Inf) : Inf :=
  let (hlit, s1) := infBits 5 s
  let (hdist, s2) := infBits 5 s1
  let (hclen, s3) := infBits 4 s2
  let (cl, s4) := infClLens (hclen + 4) s3
  if s4.err.isSome then s4
  else if 29 < hlit ∨ 29 < hdist then s4.fail stMalformed
  else
    let clh := huffOf ((List.range 19).map fun sym => match clOrder.idxOf? sym with | some i => cl.getD i 0 | none => 0)
    if huffLeft clh != 0 then s4.fail stMalformed
    else
      let (lens, s5) := infLens clh (hlit + 257 + hdist + 1) fuel [] s4
      if s5.err.isSome then s5
      else
        let lh := huffOf (lens.take (hlit + 257))
        let dh := huffOf (lens.drop (hlit + 257))
        if lens.getD 256 0 = 0 ∨ !huffOk lh ∨ !(huffOk dh || dh.counts.sum == 0) then s5.fail stMalformed
        else infCodes lh dh fuel s5

/-- A stored block. -/
def infStoredBlock (s : Inf) : Inf :=
  let s1 := { s with bs := s.bs.drop (s.bs.length % 8) }
  let (len, s2) := infBits 16 s1
  let (nlen, s3) := infBits 16 s2
  if s3.err.isSome then s3
  else if len + nlen ≠ 65535 then s3.fail stMalformed
  else infStored len s3

/-- Blocks up to the final one. -/
def infBlocks : Nat → Inf → Inf
  | 0, s => s.fail 0
  | fuel + 1, s =>
    let (final, s1) := infBits 1 s
    let (kind, s2) := infBits 2 s1
    if s2.err.isSome then s2
    else
      let f := s2.bs.length + 1
      let s3 := if kind = 0 then infStoredBlock s2
        else if kind = 1 then infCodes (huffOf fixedLens) (huffOf (List.replicate 30 5)) f s2
        else if kind = 2 then infDynamic f s2
        else s2.fail stMalformed
      if s3.err.isSome then s3
      else
        let s4 := { s3 with blocks := s3.blocks + 1 }
        if final = 1 then s4 else infBlocks fuel s4

/-- The bits of bytes, least significant first. -/
def bitsOfBytes (bs : List Byte) : List Bool := bs.flatMap fun b => (List.range 8).map fun i => b.getLsbD i

/-- The rest of the byte in hand is passed over. -/
def infAlign (s : Inf) : Inf := { s with bs := s.bs.drop (s.bs.length % 8) }

/-- Skip a zero-terminated string. -/
def infString : Nat → Inf → Inf
  | 0, s => s.fail 0
  | fuel + 1, s =>
    if s.err.isSome then s
    else let (b, s1) := infBits 8 s; if b = 0 then s1 else infString fuel s1

/-- Skip so many bytes. -/
def infSkip : Nat → Inf → Inf
  | 0, s => s
  | k + 1, s => infSkip k (infBits 8 s).2

/-- The header of the wrapper (R601); `src` is the whole source, for FHCRC. -/
def infHeader (wrap : Nat) (src : List Byte) (s : Inf) : Inf :=
  if wrap = 1 then
    let (cmf, s1) := infBits 8 s
    let (flg, s2) := infBits 8 s1
    if s2.err.isSome then s2
    else if cmf % 16 ≠ 8 ∨ 7 < cmf / 16 ∨ (cmf * 256 + flg) % 31 ≠ 0 ∨ flg.testBit 5 then s2.fail stMalformed
    else s2
  else if wrap = 2 then
    let (id, s1) := infBits 24 s
    let (flg, s2) := infBits 8 s1
    let s3 := infSkip 6 s2
    if s3.err.isSome then s3
    else if id ≠ 0x088B1F ∨ 32 ≤ flg then s3.fail stMalformed
    else
      let f := s3.bs.length + 1
      let s4 := if flg.testBit 2 then let (x, q) := infBits 16 s3; infSkip x q else s3
      let s5 := if flg.testBit 3 then infString f s4 else s4
      let s6 := if flg.testBit 4 then infString f s5 else s5
      if flg.testBit 1 then
        let used := src.length - s6.bs.length / 8
        let (c, s7) := infBits 16 s6
        if s7.err.isSome then s7
        else if c ≠ crc32 0 (src.take used) % 65536 then s7.fail stMalformed
        else s7
      else s6
  else s

/-- The big-endian reading of a little-endian 32-bit number. -/
def swap32 (v : Nat) : Nat := beVal (le 4 v)

/-- The trailer of the wrapper, the bytes left behind it, and EXPECT (R601, R604). -/
def infTrailer (wrap seed : Nat) (expect : Option Nat) (s : Inf) : Inf :=
  let s0 := infAlign s
  let data := s.out.reverse
  let (want1, s1) := if wrap = 1 then infBits 32 s0 else if wrap = 2 then infBits 32 s0 else (0, s0)
  let (want2, s2) := if wrap = 2 then infBits 32 s1 else (0, s1)
  if s2.err.isSome then s2
  else if s2.bs ≠ [] then s2.fail stMalformed
  else if wrap = 1 ∧ swap32 want1 ≠ adler32 data then s2.fail stBadCheck
  else if wrap = 2 ∧ (want1 ≠ crc32 0 data ∨ want2 ≠ data.length % 2 ^ 32) then s2.fail stBadCheck
  else match expect with
    | some e => if e ≠ crc32 seed data then s2.fail stBadCheck else s2
    | none => s2

/-- A DECOMPRESS job (R601, R602): `lim` is the limit of MAX_RATIO and MAX_OUT. -/
def inflate (wrap seed : Nat) (expect : Option Nat) (lim : Option Nat) (outLen : Nat) (src : List Byte) : Inf :=
  let s0 := infHeader wrap src ⟨bitsOfBytes src, [], 0, 0, lim, outLen, none⟩
  if s0.err.isSome then s0
  else
    let s1 := infBlocks (s0.bs.length + 1) s0
    if s1.err.isSome then s1 else infTrailer wrap seed expect s1

/-! ## Compressing -/

/-- One stored block on a byte boundary. -/
def storedBlock (final : Bool) (bs : List Byte) : List Byte :=
  le 1 (b2n final) ++ le 2 bs.length ++ le 2 (65535 - bs.length) ++ bs

/-- The source in stored blocks, a new one after every 64 KiB (R598). -/
def storedStream (notFinal : Bool) : Nat → List Byte → List Byte × Nat
  | 0, _ => ([], 0)
  | fuel + 1, src =>
    let piece := src.take 65536
    let rest := src.drop 65536
    let r := if rest.isEmpty then ([], 0) else storedStream notFinal fuel rest
    let last := rest.isEmpty && !notFinal
    if piece.length < 65536 then (storedBlock last piece ++ r.1, r.2 + 1)
    else
      let k := max 1 (min 65535 Config.storedCut)
      (storedBlock false (piece.take k) ++ storedBlock last (piece.drop k) ++ r.1, r.2 + 2)

/-- The raw stream of a COMPRESS job and its blocks (R598, R600). -/
def rawDeflate (effort table : Nat) (notFinal : Bool) (src : List Byte) : List Byte × Nat :=
  if effort = 0 then
    let r := storedStream notFinal (src.length / 65536 + 1) src
    if notFinal then (r.1 ++ storedBlock false [], r.2 + 1) else r
  else
    let r := Config.deflate effort table notFinal src
    if table = 2 then r else (r.1, (src.length + 65535) / 65536 + b2n notFinal)

/-- The FLG byte of a zlib header with CMF 0x78 and this FLEVEL. -/
def zlibFlg (level : Nat) : Nat := let f := level * 64; f + (31 - (0x7800 + f) % 31) % 31

/-- The whole output of a COMPRESS job (R599). -/
def deflateAll (wrap effort table : Nat) (notFinal : Bool) (seed : Nat) (src : List Byte) : List Byte × Nat :=
  let r := rawDeflate effort table notFinal src
  if wrap = 1 then (le 1 0x78 ++ le 1 (zlibFlg effort) ++ r.1 ++ be 4 (adler32 src), r.2)
  else if wrap = 2 then
    let xfl := if effort ≤ 1 then 4 else if effort = 2 then 0 else 2
    (le 4 0x00088B1F ++ le 4 0 ++ le 1 xfl ++ le 1 0xFF ++ r.1 ++ le 4 (crc32 seed src) ++ le 4 (src.length % 2 ^ 32), r.2)
  else r

end Sys2Proof.Machine
end

