-- ==== Sys2Proof/Machine/Compression.lean ====
section
/-!
DEFINITION. The jobs of the compression engine (R596 to R608).
-/

namespace Sys2Proof.Machine

open Sys2Proof

/-! ## Descriptors (Table CMP-1) -/

def cWrap (ws : DescWords) : Nat := bits (dByte ws 24) 0 2
def cEffort (ws : DescWords) : Nat := bits (dByte ws 24) 2 2
def cTable (ws : DescWords) : Nat := bits (dByte ws 24) 4 2
def cNotFinal (ws : DescWords) : Bool := bits (dByte ws 24) 6 1 != 0
def cChkEn (ws : DescWords) : Bool := bits (dByte ws 24) 7 1 != 0
def cSrcHmp (ws : DescWords) : Bool := bits (dByte ws 25) 0 1 != 0
def cSeed (ws : DescWords) : Nat := dBytes ws 28 4
def cOutAddr (ws : DescWords) : Nat := dBytes ws 32 8
def cOutLen (ws : DescWords) : Nat := dBytes ws 40 4
def cExpect (ws : DescWords) : Nat := dBytes ws 44 4
def cHmpOfs (ws : DescWords) : Nat := dBytes ws 48 4

/-! ## Lanes and slots -/

def cmpLanes : Nat := 4

/-- STAGE slots of 512 KiB (R596). -/
def stageSlots (d : Dev) : Nat := min 4 (2 * d.getN Reg.HMP_PARTn.SIZE partStage)

/-- The first free lane. -/
def freeLane (d : Dev) : Option Nat := (List.range cmpLanes).find? fun l => !(tget d.cmp l).busy

/-- The first free STAGE slot. -/
def freeSlot (d : Dev) : Option Nat :=
  (List.range (stageSlots d)).find? fun k => (List.range cmpLanes).all fun l =>
    !(tget d.cmp l).busy || (tget d.cmp l).slot != some k

/-- A lane's job, with CMP_STATUS.BUSY. -/
def setLane (l : Nat) (j : CmpJob) (d : Dev) : Dev :=
  let d1 := { d with cmp := tset d.cmp l j }
  d1.set Reg.CMP_STATUS.BUSY (((List.range cmpLanes).map fun k => if (tget d1.cmp k).busy then 2 ^ k else 0).sum)

/-- Counters and causes of a job that has completed (Tables CMP-5, CMP-6). -/
def cmpCount (status : Nat) (d : Dev) : Dev :=
  let d1 := d.sat Reg.CMP_CNT_JOBS.N
  if status = stOk ∨ status = stSkipped then d1
  else
    let d2 := (d1.sat Reg.CMP_CNT_FAIL.N).cause intCmp 0 0 status
    if status = stLimit then (d2.sat Reg.CMP_CNT_LIMIT.N).cause intCmp 1 0 status
    else if status = stOutFull then d2.sat Reg.CMP_CNT_OUTFULL.N
    else if status = stParity then d2.cause intCmp 2 0 status
    else d2

/-- The zeros of R605 over the start of the output buffer. -/
def cmpZero (ws : DescWords) (d : Dev) : Dev :=
  if cOutLen ws = 0 then d
  else hostWrite (.data (cOutAddr ws) (le (min 16 (cOutLen ws)) 0) (d.on Reg.HIF_CTRL.RO_EN)) d

/-- A job ends without having run (R597, R607, R8). -/
def cmpRefuse (t : Time) (n : Nat) (h : Taken) (status : Nat) (d : Dev) : Dev :=
  let d1 := if status = stSkipped then d else cmpZero h.words d
  completeHead t n h status 0 [] (cmpCount status d1)

/-! ## Starting -/

/-- Words that a range of bytes touches. -/
def wordSpan (byte len : Nat) : List Nat := (List.range ((byte % 4 + len + 3) / 4)).map (· + byte / 4)

/-- The source of a job: the bytes and where a lasting fault cuts them. -/
def cmpSource (ws : DescWords) (src : List Byte) (slot : Option Nat) (d : Dev) : List Byte × Option Nat × Dev :=
  match slot with
  | none => (slice src 0 (dLen ws), none, d)
  | some k =>
    let base := d.getN Reg.HMP_PARTn.BASE partCapture * 2 ^ 20 + cHmpOfs ws
    let stage := d.getN Reg.HMP_PARTn.BASE partStage * 2 ^ 20 + k * 2 ^ 19
    let span := wordSpan base (dLen ws)
    let (vs, d1) := hreadMany .engine (base / 4) span.length d
    let bad1 := (span.find? fun w => hBad d w).map fun w => 4 * w - base
    let bad2 := ((wordSpan stage (min (dLen ws) (2 ^ 19))).find? fun w => hFenced d w).map fun w => 4 * w - stage
    let cut := match bad1, bad2 with
      | some a, some b => some (min a b)
      | some a, none => some a
      | none, b => b
    ((vs.flatMap fun w => le 4 w.toNat).take (dLen ws), cut, d1)

/-- Does the job read or stage a word of quadrant q? -/
def cmpReads (d : Dev) (ws : DescWords) (slot : Option Nat) (q : Nat) : Bool :=
  match slot with
  | none => false
  | some k =>
    let base := d.getN Reg.HMP_PARTn.BASE partCapture * 2 ^ 20 + cHmpOfs ws
    let stage := d.getN Reg.HMP_PARTn.BASE partStage * 2 ^ 20 + k * 2 ^ 19
    (wordSpan base (dLen ws)).any (fun w => hQuad w == q) || hQuad (stage / 4) == q

/-- A quadrant's reset aborts the jobs that use it (R21). -/
def cmpQuadLost (q : Nat) (d : Dev) : Dev :=
  (List.range cmpLanes).foldl (fun d l =>
    let j := tget d.cmp l
    if j.busy && cmpReads d j.words j.slot q then setLane l { j with aborted := true } d else d) d

/-- A CMPJ descriptor is taken; one for CMP in reset completes with ABORTED_RESET (R21, R596, R597, R607). -/
def cmpStart (t : Time) (n op : Nat) (src : List Byte) (d : Dev) : Dev :=
  match startable d n clsCmpj op with
  | none => d
  | some h =>
    let ws := h.words
    if !d.up islCmp then (if d.inReset islCmp then completeHead t n h stAborted 0 [] d else d)
    else if d.get Reg.GLB_SPLIT.COMP = 0 ∨ !d.on Reg.CMP_CTRL.EN then cmpRefuse t n h stRejected d
    else if dLen ws = 0 ∨ cOutLen ws = 0 then cmpRefuse t n h stSkipped d
    else if cSrcHmp ws ∧ d.getN Reg.HMP_PARTn.SIZE partStage = 0 then cmpRefuse t n h stNoSpace d
    else if cSrcHmp ws ∧ (partBytes d partCapture < cHmpOfs ws + dLen ws ∨ cHmpOfs ws % 4 ≠ 0) then
      cmpRefuse t n h stRejected d
    else match freeLane d with
      | none => d
      | some l =>
        let slot := if cSrcHmp ws then freeSlot d else none
        if cSrcHmp ws ∧ slot = none then d
        else
          let (bytes, cut, d1) := cmpSource ws src slot d
          let lost := (List.range 8).any fun q => !d.up (islHmp q) && cmpReads d ws slot q
          setLane l ⟨true, n, h.idx, ws, slot, bytes, cut, lost⟩ (startHead t n h d1)

def execCmpCompress (n : Nat) (src : List Byte) (s : State) : Host.Outcome State Fault Refusal :=
  run s fun t d => cmpStart t n 0x10 src d

def execCmpDecompress (n : Nat) (src : List Byte) (s : State) : Host.Outcome State Fault Refusal :=
  run s fun t d => cmpStart t n 0x11 src d

/-! ## Ending -/

/-- What a job ends with: its status, the bytes that reach its buffer, LEN, CRC, ADLER, IN_USED and BLOCKS. -/
structure CmpResult where
  status : Nat
  bytes : List Byte
  len : Nat
  crc : Nat
  adler : Nat
  used : Nat
  blocks : Nat
  deriving Repr

/-- R598 to R600, R603, R606. -/
def compressResult (j : CmpJob) : CmpResult :=
  let ws := j.words
  match j.cut with
  | some k => ⟨stParity, [], 0, 0, 0, k, 0⟩
  | none =>
    let r := deflateAll (cWrap ws) (cEffort ws) (cTable ws) (cNotFinal ws) (cSeed ws) j.src
    let full := cOutLen ws < r.1.length
    ⟨if full then stOutFull else stOk, r.1.take (cOutLen ws), r.1.length, crc32 (cSeed ws) j.src,
      if cWrap ws = 1 then adler32 j.src else 0, j.src.length, r.2⟩

/-- The limit of MAX_RATIO and MAX_OUT (R602). -/
def cmpLimit (d : Dev) (len : Nat) : Option Nat :=
  let a := d.get Reg.CMP_DLIM.MAX_RATIO
  let b := d.get Reg.CMP_DMAX.MAX_OUT
  if a = 0 then (if b = 0 then none else some (b * 1024))
  else if b = 0 then some (a * len)
  else some (min (a * len) (b * 1024))

/-- R601, R602, R604, R606. A source that a lasting fault cuts ends where the decoder needs the faulty word. -/
def decompressResult (d : Dev) (j : CmpJob) : CmpResult :=
  let ws := j.words
  let src := match j.cut with | some k => j.src.take k | none => j.src
  let s := inflate (cWrap ws) (cSeed ws) (if cChkEn ws then some (cExpect ws) else none) (cmpLimit d (dLen ws)) (cOutLen ws) src
  let data := s.out.reverse
  let status := match s.err with
    | none => if j.cut.isSome then stParity else stOk
    | some 0 => if j.cut.isSome then stParity else stMalformed
    | some e => e
  ⟨status, data, data.length, crc32 (cSeed ws) data, if cWrap ws = 1 then adler32 data else 0,
    src.length - s.bs.length / 8, s.blocks⟩

/-- A job ends (R603, R605): a failed one with zeros over the start of its buffer. -/
def cmpJobComplete (l : Nat) (d : Dev) : Dev :=
  let j := tget d.cmp l
  if !j.busy ∨ (hifQuiet d ∧ d.up islHst) then d
  else
    let r := if j.aborted then ⟨stAborted, [], 0, 0, 0, 0, 0⟩ else if dOpcode j.words = 0x10 then compressResult j else decompressResult d j
    let out := if r.status = stOk then r.bytes
      else le (min 16 (cOutLen j.words)) 0 ++ r.bytes.drop 16
    let d1 := if d.up islHst then
        hostWrite (.data (cOutAddr j.words) out (d.on Reg.HIF_CTRL.RO_EN)) d
      else d
    endStarted j.ring j.idx r.status r.len (le 4 r.crc ++ le 4 r.adler ++ le 4 r.used ++ le 4 r.blocks) none
      (setLane l default (cmpCount r.status d1))

def execCmpJobComplete (lane : Nat) (s : State) : Host.Outcome State Fault Refusal :=
  run s fun _ d => cmpJobComplete lane d

/-! ## A failed DMA read -/

/-- A DMA read fails (R491, R492): of a descriptor, which stops the ring, or of the buffer of the descriptor at its head, which
is not performed. A job's failed source counts as a job that failed and has its buffer zeroed (R605, R606). -/
def dmaReadFail (t : Time) (n : Nat) (kind : DmaRead) (d : Dev) : Dev :=
  let r := d.ring n
  if 256 ≤ n ∨ ringState d n ≠ 1 then d
  else match kind with
    | .descriptor =>
      if nextDesc d n = r.prod then d
      else
        ringGone n ((((((abortTaken n d).setN Reg.HIF_RINGn_STAT.STATE n 3).setN Reg.HIF_RINGn_STAT.DMA_ERR n 1).set
          Reg.HIF_ERR_RING.RING n).set Reg.HIF_ERR_RING.STATUS stRejected).cause intHif 1 n stRejected
          |>.cause intHif 2 n stRejected)
    | .buffer =>
      match headReady d n with
      | some h =>
        if toHost r.cls ∨ dOpcode h.words ≤ 1 then d
        else if r.cls = clsCmpj then
          (if cSrcHmp h.words then d else (cmpRefuse t n h stRejected d).cause intHif 2 n stRejected)
        else (completeHead t n h stRejected 0 [] d).cause intHif 2 n stRejected
      | none => d

def execDmaReadFail (n : Nat) (kind : DmaRead) (s : State) : Host.Outcome State Fault Refusal :=
  run s fun t d => dmaReadFail t n kind d

/-! ## Resets -/

/-- An IRST of CMP or Doze ends every job with ABORTED_RESET and frees its slot (R608). The counters have been cleared by
then. -/
def cmpReset (d : Dev) : Dev :=
  (List.range cmpLanes).foldl (fun d l =>
    let j := tget d.cmp l
    if j.busy then endStarted j.ring j.idx stAborted 0 [] none (setLane l default d) else d) d

end Sys2Proof.Machine
end

