-- ==== Sys2Proof/Machine/KeyStore.lean ====
section
/-!
DEFINITION. The key commands (R553 to R569): IMPORT, DERIVE, UNWRAP, COMMIT, ERASE, INFO and ATTEST, the flash copies, and
the loading of the slots at start-up.
-/

namespace Sys2Proof.Machine

open Sys2Proof

def Dev.modKeys (d : Dev) (f : Keys → Keys) : Dev := { d with keys := f d.keys }

/-! ## The slot status table -/

/-- STATE of Table KEY-1. -/
def slotState (s : KeySlot) : Nat :=
  match s.active, s.pending with
  | none, none => 0
  | some _, none => 1
  | some _, some _ => 2
  | none, some _ => 3

/-- Slots that satisfy a test. -/
def slotCount (f : KeySlot → Bool) (d : Dev) : Nat := ((List.range 64).filter fun s => f (d.keySlot s)).length

/-- The status entry of a slot and the counts of KEY_STATUS follow the slots (Tables KEY-1, KEY-8). -/
def keyShow (s : Nat) (d : Dev) : Dev :=
  let k := d.keySlot s
  let shown := k.active.orElse fun _ => k.pending.map Prod.fst
  let d1 := d.setN Reg.T_KSLOT.STATE s (slotState k)
  let d2 := match shown with
    | none => (((d1.setN Reg.T_KSLOT.PERSIST s 0).setN Reg.T_KSLOT.LEN s 0).setN Reg.T_KSLOT.DEPTH s 0).setN
        Reg.T_KSLOT.PARENT s 0
    | some r => (((d1.setB Reg.T_KSLOT.PERSIST s r.persist).setB Reg.T_KSLOT.LEN s r.long).setN Reg.T_KSLOT.DEPTH s
        r.depth).setN Reg.T_KSLOT.PARENT s r.parent
  let d3 := match k.active with
    | none => ((d2.setN Reg.T_KSLOT.USAGE s 0).setN Reg.T_KSLOT.KEYID s 0).setN Reg.T_KSLOT.GEN s 0
    | some r => ((d2.setN Reg.T_KSLOT.USAGE s r.usage).setN Reg.T_KSLOT.KEYID s r.keyId).setN Reg.T_KSLOT.GEN s r.gen
  let d4 := match k.pending with
    | none => ((d3.setN Reg.T_KSLOT.P_VERIFIED s 0).setN Reg.T_KSLOT.PUSAGE s 0).setN Reg.T_KSLOT.PGEN s 0
    | some (r, v) => ((d3.setB Reg.T_KSLOT.P_VERIFIED s v).setN Reg.T_KSLOT.PUSAGE s r.usage).setN Reg.T_KSLOT.PGEN s
        r.gen
  (d4.set Reg.KEY_STATUS.ACTIVE (slotCount (fun k => k.active.isSome) d4)).set Reg.KEY_STATUS.PENDING
    (slotCount (fun k => k.pending.isSome) d4)

/-- Give a slot new contents. -/
def keyPut (s : Nat) (k : KeySlot) (d : Dev) : Dev :=
  keyShow s (d.modKeys fun x => { x with slots := tset x.slots s k })

/-! ## Descriptors of service 1 (Table KEY-3) -/

def kService (ws : DescWords) : Nat := dByte ws 24
def kCmd (ws : DescWords) : Nat := dByte ws 25
def kSlot (ws : DescWords) : Nat := dByte ws 26
def kParent (ws : DescWords) : Nat := dByte ws 27
def kRaddr (ws : DescWords) : Nat := dBytes ws 28 8
def kRlen (ws : DescWords) : Nat := dBytes ws 36 4

/-- The head of an MBOX ring asks Xaorn for this command of this service and Xaorn takes it: XFAIL ends it with
NOT_VERIFIED, a reset of MGT with ABORTED_RESET, and a halt or an update makes it wait (R21, R565, R626, R629). -/
def mbox (t : Time) (n service cmd : Nat) (f : Taken → Dev → Dev) (d : Dev) : Dev :=
  match startable d n clsMbox 0x10 with
  | none => d
  | some h =>
    if kService h.words = service ∧ kCmd h.words = cmd then
      if d.on Reg.GLB_STATUS.XFAIL || d.inReset islMgt then completeHead t n h (mboxStatus d) 0 [] d
      else if !xaornUp d then d
      else f h d
    else d

/-- The class-specific part of a key completion. -/
def keyExt (rbytes slot gen : Nat) : List Byte := le 4 rbytes ++ le 4 slot ++ le 4 gen

/-- GEN of a slot's active key; 0 for none. -/
def slotGen (s : Nat) (d : Dev) : Nat := match (d.keySlot s).active with | some k => k.gen | none => 0

/-- A key command ends at once. -/
def keyEnd (t : Time) (n : Nat) (h : Taken) (status gen : Nat) (d : Dev) : Dev :=
  completeHead t n h status 0 (keyExt 0 (kSlot h.words) gen) d

/-- A command ends with a reply; a reply buffer that is too small ends it with NO_SPACE and the needed length. -/
def mboxReply (t : Time) (n : Nat) (h : Taken) (bytes : List Byte) (slot gen : Nat) (d : Dev) : Dev :=
  if kRlen h.words < bytes.length then completeHead t n h stNoSpace 0 (keyExt bytes.length slot gen) d
  else
    completeHead t n h stOk bytes.length (keyExt bytes.length slot gen)
      (hostWrite (.data (kRaddr h.words) bytes (d.on Reg.HIF_CTRL.RO_EN)) d)

/-- Key commands run one at a time (R565); with bad fuses each completes NOT_VERIFIED (R555), and a slot outside 0 to 63
is refused. -/
def keyCmd (t : Time) (n cmd : Nat) (f : Taken → Dev → Dev) (d : Dev) : Dev :=
  mbox t n 1 cmd (fun h d =>
    if d.keys.cmd.isSome then d
    else if !d.on Reg.KEY_STATUS.FUSE_OK then keyEnd t n h stNotVerified 0 d
    else if 64 ≤ kSlot h.words then keyEnd t n h stRejected 0 d
    else f h d) d

/-! ## INFO and ATTEST -/

/-- The eight words of a slot's status entry. -/
def slotEntry (s : Nat) (d : Dev) : List Byte :=
  (List.range 8).flatMap fun w => le 4 (d.word (0x3B0000 + 32 * s + 4 * w)).toNat

def keyInfo (t : Time) (n : Nat) (d : Dev) : Dev :=
  keyCmd t n 1 (fun h d => mboxReply t n h (slotEntry (kSlot h.words) d) (kSlot h.words) (slotGen (kSlot h.words) d) d) d

def execKeyInfo (n : Nat) (s : State) : Host.Outcome State Fault Refusal := run s fun t d => keyInfo t n d

/-- Eight bytes of the statement per slot: STATE, USAGE, LEN ‖ DEPTH, reserved, KEYID (Table KEY-6). -/
def attestSlot (d : Dev) (s : Nat) : List Byte :=
  le 1 (d.getN Reg.T_KSLOT.STATE s) ++ le 1 (d.getN Reg.T_KSLOT.USAGE s) ++
    le 1 (d.getN Reg.T_KSLOT.LEN s * 16 + d.getN Reg.T_KSLOT.DEPTH s) ++ le 1 0 ++ le 4 (d.getN Reg.T_KSLOT.KEYID s)

/-- Bytes 0 to 727 of the statement (Table KEY-6). -/
def attestBody (t : Time) (nonce : List Byte) (d : Dev) : List Byte :=
  le 4 0x4B594154 ++ le 4 (d.get Reg.GLB_ID.ID) ++ le 8 Config.serial ++ slice nonce 0 32 ++
    be 48 (Config.imageSha (tget d.pwr.images (d.get Reg.GLB_STATUS.SLOT))) ++
    be 32 (Config.sha256 ((setUsed d.pwr).getD setDefault)) ++ le 6 t.sec ++ le 4 t.nsec ++
    le 1 (d.get Reg.TKP_STATUS.STATE) ++ le 1 (slotCount (fun k => slotState k != 0) d) ++
    le 2 (d.get Reg.DXL_NODE.BOOT) ++ le 2 (d.get Reg.DXL_NODE.ID) ++ be 65 Config.importKey ++ le 7 0 ++
    (List.range 64).flatMap (attestSlot d)

/-- The whole statement (R569). -/
def attestation (t : Time) (nonce : List Byte) (d : Dev) : List Byte :=
  let b := attestBody t nonce d
  b ++ be 64 (Config.attestSig b) ++ le 2 Config.certLen ++ (List.range (Config.certLen % 2 ^ 16)).map Config.certByte

def keyAttest (t : Time) (n : Nat) (nonce : List Byte) (d : Dev) : Dev :=
  keyCmd t n 7 (fun h d =>
    if dLen h.words = 0 then keyEnd t n h stSkipped 0 d
    else mboxReply t n h (attestation t nonce d) (kSlot h.words) (slotGen (kSlot h.words) d) d) d

def execKeyAttest (n : Nat) (nonce : List Byte) (s : State) : Host.Outcome State Fault Refusal :=
  run s fun t d => keyAttest t n nonce d

/-! ## New keys (R559 to R562, R566) -/

/-- Does another slot name this slot as PARENT, with its active or its pending key (R560, R564)? -/
def slotIsParent (s : Nat) (d : Dev) : Bool :=
  (List.range 64).any fun i =>
    i != s && (((d.keySlot i).active.toList ++ ((d.keySlot i).pending.map Prod.fst).toList).any fun k =>
      decide (1 ≤ k.depth) && k.parent == s)

/-- The refusals of R560 that do not depend on the parent. -/
def keyBodyRefused (s : Nat) (b : KeyBody) (d : Dev) : Bool :=
  b.usage == 0 || decide (255 < b.usage) || decide (1 < b.len) || decide (2 ^ 32 ≤ b.keyId) || slotIsParent s d

/-- The new key of a slot from its material. -/
def keyNew (b : KeyBody) (material depth parent gen : Nat) : KeyRec :=
  ⟨material, b.usage, b.len == 1, depth, parent, b.keyId, b.persist, gen⟩

/-- The new GEN of a slot. -/
def newGen (s : Nat) (d : Dev) : Nat := (slotGen s d + 1) % 2 ^ 32

/-- The copy of a new key is written with an erased commit record and is being read back (R566). -/
def keyCopyStart (t : Time) (n : Nat) (h : Taken) (k : KeyRec) (v : Bool) (d : Dev) : Dev :=
  let s := kSlot h.words
  ((startHead t n h d).set Reg.KEY_STATUS.BUSY 1).modKeys fun x =>
    { x with
      copies := tset x.copies (2 * s + k.gen % 2) (some ⟨k, true, false⟩)
      cmd := some ⟨n, h.idx, s, k, v⟩ }

/-- A key has been unwrapped or derived: its check value is judged (R559, R561) and it becomes the pending key, for a
persistent one after its flash copy (R566). While PFW_N is low no flash program starts (R568). -/
def keyArrive (t : Time) (n : Nat) (h : Taken) (b : KeyBody) (k : KeyRec) (d : Dev) : Dev :=
  let s := kSlot h.words
  match b.kcv with
  | some c =>
    if c ≠ k.material then keyEnd t n h stBadCheck k.gen d
    else if k.persist then
      if d.on Reg.GLB_STATUS.PFW then keyEnd t n h stAborted k.gen d
      else keyCopyStart t n h k true d
    else keyEnd t n h stOk k.gen (keyPut s { d.keySlot s with pending := some (k, true) } d)
  | none =>
    if k.persist then
      if d.on Reg.GLB_STATUS.PFW then keyEnd t n h stAborted k.gen d
      else keyCopyStart t n h k false d
    else keyEnd t n h stNotVerified k.gen (keyPut s { d.keySlot s with pending := some (k, false) } d)

def keyImport (t : Time) (n : Nat) (b : KeyBody) (d : Dev) : Dev :=
  keyCmd t n 2 (fun h d =>
    let s := kSlot h.words
    let g := newGen s d
    if dLen h.words = 0 then keyEnd t n h stSkipped 0 d
    else if keyBodyRefused s b d then keyEnd t n h stRejected 0 d
    else if b.wrapKey.isNone ∨ b.wrapSlot ≠ s ∨ b.wrapGen ≠ g then keyEnd t n h stAuthFail 0 d
    else keyArrive t n h b (keyNew b b.material 0 0 g) d) d

def execKeyImport (n : Nat) (b : KeyBody) (s : State) : Host.Outcome State Fault Refusal :=
  run s fun t d => keyImport t n b d

/-- The parent of a new key, when it is active, has this usage and leaves room for one more level (R560). -/
def parentOf (p usage : Nat) (d : Dev) : Option KeyRec :=
  match (d.keySlot p).active with
  | some k => if p < 64 ∧ k.usage.testBit usage ∧ k.depth < 4 then some k else none
  | none => none

def keyDerive (t : Time) (n : Nat) (b : KeyBody) (d : Dev) : Dev :=
  keyCmd t n 3 (fun h d =>
    let s := kSlot h.words
    if dLen h.words = 0 then keyEnd t n h stSkipped 0 d
    else match parentOf (kParent h.words) 6 d with
      | none => keyEnd t n h stRejected 0 d
      | some p =>
        if keyBodyRefused s b d ∨ 1 < b.kdf ∨ 64 < b.label.length ∨ 64 < b.context.length then
          keyEnd t n h stRejected 0 d
        else
          keyArrive t n h b (keyNew b (Config.derive p.material b.kdf b.label b.context) (p.depth + 1)
            (kParent h.words) (newGen s d)) d) d

def execKeyDerive (n : Nat) (b : KeyBody) (s : State) : Host.Outcome State Fault Refusal :=
  run s fun t d => keyDerive t n b d

def keyUnwrap (t : Time) (n : Nat) (b : KeyBody) (d : Dev) : Dev :=
  keyCmd t n 4 (fun h d =>
    let s := kSlot h.words
    if dLen h.words = 0 then keyEnd t n h stSkipped 0 d
    else match parentOf (kParent h.words) 5 d with
      | none => keyEnd t n h stRejected 0 d
      | some p =>
        if keyBodyRefused s b d then keyEnd t n h stRejected 0 d
        else if b.wrapKey ≠ some p.material then keyEnd t n h stAuthFail 0 d
        else keyArrive t n h b (keyNew b b.material (p.depth + 1) (kParent h.words) (newGen s d)) d) d

def execKeyUnwrap (n : Nat) (b : KeyBody) (s : State) : Host.Outcome State Fault Refusal :=
  run s fun t d => keyUnwrap t n b d

/-- The command that waits for its copy ends. -/
def keyCmdEnd (c : KeyCmd) (status : Nat) (d : Dev) : Dev :=
  let d1 := (d.set Reg.KEY_STATUS.BUSY 0).modKeys fun x => { x with cmd := none }
  endStarted c.ring c.idx status 0 (keyExt 0 c.slot c.key.gen) none d1

/-- The copy has been read back: the key becomes pending and the command completes; a bad read-back refuses the command and
leaves no pending key, whose copy is gone (R566, KEY_INT.FLASH_ERR). -/
def keyCopyWritten (good : Bool) (d : Dev) : Dev :=
  match d.keys.cmd with
  | none => d
  | some c =>
    if !xaornUp d then d
    else if good then
      keyCmdEnd c (if c.verified then stOk else stNotVerified)
        (keyPut c.slot { d.keySlot c.slot with pending := some (c.key, c.verified) } d)
    else
      let d1 := d.modKeys fun x =>
        { x with copies := tset x.copies (2 * c.slot + c.key.gen % 2) (some ⟨c.key, false, false⟩) }
      keyCmdEnd c stRejected ((keyPut c.slot { d1.keySlot c.slot with pending := none } d1).cause intKey 3 c.slot stRejected)

def execKeyCopyWritten (good : Bool) (s : State) : Host.Outcome State Fault Refusal :=
  run s fun _ d => keyCopyWritten good d

/-! ## COMMIT and ERASE -/

/-- The pending key becomes active, and the engines let go of the old one (R558, R563); USES counts anew. -/
def keyActivate (s : Nat) (k : KeyRec) (d : Dev) : Dev :=
  keyRelease s (keyPut s ⟨some k, none⟩ (d.setN Reg.T_KSLOT.USES s 0))

/-- COMMIT (R563, R566); `good` says whether the commit record of a persistent key reads back. -/
def keyCommit (t : Time) (n : Nat) (good : Bool) (d : Dev) : Dev :=
  keyCmd t n 5 (fun h d =>
    let s := kSlot h.words
    match (d.keySlot s).pending with
    | none => keyEnd t n h stRejected (slotGen s d) d
    | some (k, v) =>
      if !v then keyEnd t n h stNotVerified k.gen d
      else if !k.persist then keyEnd t n h stOk k.gen (keyActivate s k d)
      else if d.on Reg.GLB_STATUS.PFW then keyEnd t n h stAborted k.gen d
      else if good then
        keyEnd t n h stOk k.gen (keyActivate s k (d.modKeys fun x =>
          { x with copies := tset x.copies (2 * s + k.gen % 2) (some ⟨k, true, true⟩) }))
      else keyEnd t n h stRejected k.gen (d.cause intKey 3 s stRejected)) d

def execKeyCommit (n : Nat) (good : Bool) (s : State) : Host.Outcome State Fault Refusal :=
  run s fun t d => keyCommit t n good d

/-- ERASE (R564, R558). -/
def keyErase (t : Time) (n : Nat) (d : Dev) : Dev :=
  keyCmd t n 6 (fun h d =>
    let s := kSlot h.words
    let stored := (tget d.keys.copies (2 * s)).isSome || (tget d.keys.copies (2 * s + 1)).isSome
    if slotIsParent s d then keyEnd t n h stRejected (slotGen s d) d
    else if stored ∧ d.on Reg.GLB_STATUS.PFW then keyEnd t n h stAborted (slotGen s d) d
    else
      let d1 := d.modKeys fun x => { x with copies := tset (tset x.copies (2 * s) none) (2 * s + 1) none }
      keyEnd t n h stOk (slotGen s d) (keyRelease s (keyPut s ⟨none, none⟩ (d1.setN Reg.T_KSLOT.USES s 0)))) d

def execKeyErase (n : Nat) (s : State) : Host.Outcome State Fault Refusal := run s fun t d => keyErase t n d

/-! ## Power and start-up -/

/-- PFW_N falls (R568), or MGT is reset (R22): a key command that waits for its copy is cut short. -/
def keyPfw (d : Dev) : Dev :=
  match d.keys.cmd with
  | some c => keyCmdEnd c stAborted d
  | none => d

/-- May a copy be loaded? -/
def copyOk : Option KeyCopy → Bool
  | some c => c.tagOk && c.committed
  | none => false

/-- A copy's place in the order of GEN; an erased one comes first. -/
def copyGen : Option KeyCopy → Nat
  | some c => c.key.gen + 1
  | none => 0

/-- Load one slot from its copies (R567). A slot without a copy is not persistent and comes up empty. -/
def keyLoadSlot (d : Dev) (s : Nat) : Dev :=
  let a := tget d.keys.copies (2 * s)
  let b := tget d.keys.copies (2 * s + 1)
  let hi := if copyGen b < copyGen a then 2 * s else 2 * s + 1
  let drop := match tget d.keys.copies hi with | some c => !c.committed | none => false
  let d1 := if drop then
      (d.modKeys fun x => { x with copies := tset x.copies hi none }).cause intKey 2 s 0
    else d
  if a.isNone && b.isNone then keyPut s ⟨none, none⟩ d1
  else
    let best := match copyOk a, copyOk b with
      | true, true => if copyGen b < copyGen a then a else b
      | true, false => a
      | false, true => b
      | false, false => none
    match best with
    | some c => keyPut s ⟨some c.key, none⟩ d1
    | none => (keyPut s ⟨none, none⟩ d1).cause intKey 1 s 0

/-- The slots at start-up (R555, R567): with bad fuses every slot stays empty. -/
def keyLoad (d : Dev) : Dev :=
  let d0 := d.modKeys fun x => { x with slots := [], held := [], cmd := none }
  if d0.keys.fuseBad then
    ((d0.set Reg.KEY_STATUS.FUSE_OK 0).event 464 0 0 0).set Reg.KEY_STATUS.LOADED 1
  else ((List.range 64).foldl keyLoadSlot (d0.set Reg.KEY_STATUS.FUSE_OK 1)).set Reg.KEY_STATUS.LOADED 1

end Sys2Proof.Machine
end

