-- ==== Sys2Proof/Machine/Firmware.lean ====
section
/-!
DEFINITION. The firmware service of Xaorn and the life of its cores: STATUS, WRITE, CHECK, ACTIVATE and SETTINGS, the update
with its report and its time limit, and a lockstep mismatch (Table RST-6, R629 to R631).
-/

namespace Sys2Proof.Machine

open Sys2Proof

/-- The slot that is not running. -/
def idleSlot (d : Dev) : Nat := 1 - d.get Reg.GLB_STATUS.SLOT

/-- A byte of an image slot; an erased one reads 0xFF. -/
def imageByte (p : Pwr) (slot k : Nat) : Byte := (tget (tget p.images slot) k).getD 0xFF

/-- The reply to STATUS: the running slot, both headers of 512 bytes, and GLB_XAORN, each part of 4 bytes little-endian. -/
def fwStatusBytes (d : Dev) : List Byte :=
  le 4 (d.get Reg.GLB_STATUS.SLOT) ++ (List.range 512).map (imageByte d.pwr 0) ++
    (List.range 512).map (imageByte d.pwr 1) ++ le 4 (d.word 0x38).toNat

def fwStatus (t : Time) (n : Nat) (d : Dev) : Dev :=
  mbox t n 2 1 (fun h d => mboxReply t n h (fwStatusBytes d) 0 0 d) d

def execFwStatus (n : Nat) (s : State) : Host.Outcome State Fault Refusal := run s fun t d => fwStatus t n d

/-- WRITE into the slot that is not running; data that leaves the slot is refused. While PFW_N is low nothing is
programmed (R568). -/
def fwWrite (t : Time) (n ofs : Nat) (data : List Byte) (d : Dev) : Dev :=
  mbox t n 2 2 (fun h d =>
    if dLen h.words = 0 ∨ data.isEmpty then completeHead t n h stSkipped 0 (keyExt 0 0 0) d
    else if 0x10000 < data.length ∨ 0x800000 < ofs + data.length then completeHead t n h stRejected 0 (keyExt 0 0 0) d
    else if d.on Reg.GLB_STATUS.PFW then completeHead t n h stAborted 0 (keyExt 0 0 0) d
    else
      completeHead t n h stOk (dLen h.words) (keyExt 0 0 0) (d.modPwr fun p =>
        { p with checked := false, images := tmod p.images (idleSlot d) (flashFill data ofs) })) d

def execFwWrite (n ofs : Nat) (data : List Byte) (s : State) : Host.Outcome State Fault Refusal :=
  run s fun t d => fwWrite t n ofs data d

/-- CHECK of the slot that is not running; the reply is its SHA-384. -/
def fwCheck (t : Time) (n len : Nat) (d : Dev) : Dev :=
  mbox t n 2 3 (fun h d =>
    let img := tget d.pwr.images (idleSlot d)
    if dLen h.words = 0 ∨ len = 0 then completeHead t n h stSkipped 0 (keyExt 0 0 0) d
    else if Config.imageOk img (some len) then
      mboxReply t n h (be 48 (Config.imageSha img)) 0 0 (d.modPwr fun p => { p with checked := true })
    else completeHead t n h stNotVerified 0 (keyExt 0 0 0) d) d

def execFwCheck (n len : Nat) (s : State) : Host.Outcome State Fault Refusal := run s fun t d => fwCheck t n len d

/-- An update ends (R630): its status in GLB_XAORN.LAST, code 594, GLB_INT.XAORN. -/
def updateEnd (status : Nat) (d : Dev) : Dev :=
  (((d.set Reg.GLB_STATUS.UPDATING 0).set Reg.GLB_XAORN.LAST status).modPwr fun p => { p with update := false }).event 594 0
    status 0 |>.cause intGlb 4 0 status

/-- The new image failed: the cores restart from the previous slot, which the settings prefer again (R630). -/
def updateFail (t : Time) (slot : Nat) (d : Dev) : Dev :=
  updateEnd stRejected (xaornBoot t slot (d.modPwr (setFlip slot false)))

/-- ACTIVATE (R629). -/
def fwActivate (t : Time) (n : Nat) (d : Dev) : Dev :=
  mbox t n 2 4 (fun h d =>
    let old := d.get Reg.GLB_STATUS.SLOT
    let new := idleSlot d
    if !d.pwr.checked then completeHead t n h stRejected 0 (keyExt 0 0 0) d
    else if d.on Reg.GLB_STATUS.PFW then completeHead t n h stAborted 0 (keyExt 0 0 0) d
    else
      let d1 := (d.set Reg.GLB_STATUS.UPDATING 1).event 593 0 0 0
      let d2 := d1.modPwr fun p => { setFlip new true p with update := true }
      let d3 := completeHead t n h stOk 0 (keyExt 0 0 0) d2
      if imageGood new d3.pwr then xaornStart t new d3 else updateFail t old d3) d

def execFwActivate (n : Nat) (s : State) : Host.Outcome State Fault Refusal := run s fun t d => fwActivate t n d

/-- SETTINGS: a copy that would be invalid is refused; else it is written over the copy of lower SEQ. -/
def fwSettings (t : Time) (n : Nat) (body : List Byte) (d : Dev) : Dev :=
  mbox t n 2 5 (fun h d =>
    if dLen h.words = 0 then completeHead t n h stSkipped 0 (keyExt 0 0 0) d
    else if !settingsOk body then completeHead t n h stRejected 0 (keyExt 0 0 0) d
    else if d.on Reg.GLB_STATUS.PFW then completeHead t n h stAborted 0 (keyExt 0 0 0) d
    else completeHead t n h stOk (dLen h.words) (keyExt 0 0 0) (d.modPwr (setWrite body))) d

def execFwSettings (n : Nat) (body : List Byte) (s : State) : Host.Outcome State Fault Refusal :=
  run s fun t d => fwSettings t n body d

/-- Xaorn's services run: after a start XAORN_RUN rises; an update that waited for this report writes settings without
TRIAL and ends OK (R630); after a lockstep restart UPDATING clears (R631). -/
def xaornReport (d : Dev) : Dev :=
  if !d.pwr.xaornRuns ∨ !d.up islMgt ∨ d.on Reg.GLB_STATUS.XAORN_RUN then d
  else
    let d1 := d.set Reg.GLB_STATUS.XAORN_RUN 1
    if d.pwr.update then updateEnd stOk (d1.modPwr (setFlip (d.get Reg.GLB_STATUS.SLOT) false))
    else d1.set Reg.GLB_STATUS.UPDATING 0

def execXaornReport (s : State) : Host.Outcome State Fault Refusal := run s fun _ d => xaornReport d

/-- No report within 5 s of the new image's start (R630). -/
def updateTimeout (t : Time) (d : Dev) : Dev :=
  if d.pwr.update ∧ !d.on Reg.GLB_STATUS.XAORN_RUN ∧ 5000000000 ≤ t.loc - d.pwr.xaornFrom then
    updateFail t (idleSlot d) d
  else d

def execUpdateTimeout (s : State) : Host.Outcome State Fault Refusal := run s fun t d => updateTimeout t d

/-- A lockstep pair disagrees (R631): code 592 names the pair, and the cores restart from the running image with UPDATING
set. -/
def lockstepMismatch (t : Time) (pair : Nat) (d : Dev) : Dev :=
  if d.pwr.xaornRuns ∧ d.up islMgt ∧ pair < 2 then
    let d1 := (((d.event 592 pair pair 0).cause intGlb 4 0 0).sat Reg.GLB_XAORN.RESTARTS).set Reg.GLB_STATUS.UPDATING 1
    xaornRestart t d1
  else d

def execLockstepMismatch (pair : Nat) (s : State) : Host.Outcome State Fault Refusal :=
  run s fun t d => lockstepMismatch t pair d

end Sys2Proof.Machine
end

