-- ==== Sys2Proof/Machine/C37.lean ====
section
/-!
DEFINITION. C37.118 frames as ingest reads them: the header, the blocks of a data frame, the configuration frames, and the
conversion of a block to words (R178, R186 to R188, R196, R667).
-/

namespace Sys2Proof.Machine

open Sys2Proof

/-- Big-endian bytes at an offset. -/
def beAt (b : List Byte) (k n : Nat) : Nat := beVal (slice b k n)

/-! ## Header (R178, R179) -/

def cSync (b : List Byte) : Bool := beAt b 0 1 == 0xAA && decide (beAt b 1 1 < 128)
def cType (b : List Byte) : Nat := beAt b 1 1 / 16 % 8
def cVer (b : List Byte) : Nat := beAt b 1 1 % 16
def cIdcode (b : List Byte) : Nat := beAt b 4 2
def cSoc (b : List Byte) : Nat := beAt b 6 4
def cFrac (b : List Byte) : Nat := beAt b 11 3
def cTq (b : List Byte) : Nat := beAt b 10 1 % 16
def cCmd (b : List Byte) : Nat := beAt b 14 2

/-- SYNC, version, FRAMESIZE and structure. -/
def cFormed (b : List Byte) : Bool :=
  decide (16 ≤ b.length) && cSync b && (cVer b == 1 || cVer b == 2) && beAt b 2 2 == b.length && decide (cType b < 6) &&
    (cType b != 4 || decide (18 ≤ b.length))

/-- CHK holds. -/
def cChk (b : List Byte) : Bool := crcCcitt (b.take (b.length - 2)) == beAt b (b.length - 2) 2

/-- What lies between FRACSEC and CHK. -/
def cBody (b : List Byte) : List Byte := (b.drop 14).take (b.length - 16)

/-! ## Blocks of a data frame (R667) -/

/-- The layout of a block: FORMAT, phasors, analog values and digital words. -/
structure CLayout where
  format : Nat
  ph : Nat
  an : Nat
  dg : Nat
  deriving DecidableEq, Repr

def CLayout.pw (l : CLayout) : Nat := if l.format.testBit 1 then 4 else 2
def CLayout.aw (l : CLayout) : Nat := if l.format.testBit 2 then 4 else 2
def CLayout.fw (l : CLayout) : Nat := if l.format.testBit 3 then 4 else 2

/-- Bytes of a block. -/
def CLayout.bytes (l : CLayout) : Nat := 2 + 2 * l.ph * l.pw + 2 * l.fw + l.an * l.aw + 2 * l.dg

/-- The blocks of a body against the layouts in order, up to the first that would run past the end, and the bytes left. -/
def cBlocks : List CLayout → List Byte → List (List Byte) × List Byte
  | [], b => ([], b)
  | l :: ls, b =>
    if b.length < l.bytes then ([], b)
    else let (bs, r) := cBlocks ls (b.drop l.bytes); (b.take l.bytes :: bs, r)

/-! ## Conversion (R186, R187, Table ING-4) -/

/-- A binary32 field. -/
def cFloat (v : Nat) : Word32 :=
  let x := b32.num v
  if x.isNan then wMissing else if x.isInf then wInvalid else BitVec.ofNat 32 v

/-- A phasor's two words from its two fields; `s0` and `s1` are the scales of the pair. -/
def cPhasor (format a b : Nat) (s0 s1 : Num) : List Word32 :=
  let polar := format.testBit 0
  if format.testBit 1 then
    if polar then
      let m := b32.num a
      let g := b32.num b
      if m.isNan || g.isNan then [wMissing, wMissing]
      else if m.isInf || g.isInf then [wInvalid, wInvalid]
      else let (c, s) := cosSinRad g; [to32 (dMul m c), to32 (dMul m s)]
    else [cFloat a, cFloat b]
  else if a = 0x8000 ∨ b = 0x8000 then [wMissing, wMissing]
  else if polar then
    let ms := dMul (.ofInt a) s0
    let (c, s) := cosSinRad (dDiv (.ofInt (sint 16 b)) (.ofInt 10000))
    [to32 (dMul ms c), to32 (dMul ms s)]
  else [to32 (dMul (.ofInt (sint 16 a)) s0), to32 (dMul (.ofInt (sint 16 b)) s1)]

/-- An analog value. -/
def cAnalog (format v : Nat) (s : Num) : Word32 :=
  if format.testBit 2 then cFloat v
  else if v = 0x8000 then wMissing
  else to32 (dMul (.ofInt (sint 16 v)) s)

/-- The words of a block; `scale` gives SCALE[k] and `nominal` the nominal frequency. -/
def cConvert (l : CLayout) (nominal : Nat) (scale : Nat → Num) (b : List Byte) : List Word32 :=
  let o1 := 2 + 2 * l.ph * l.pw
  let o2 := o1 + 2 * l.fw
  let o3 := o2 + l.an * l.aw
  let ph := ((List.range l.ph).map fun i =>
    cPhasor l.format (beAt b (2 + 2 * i * l.pw) l.pw) (beAt b (2 + (2 * i + 1) * l.pw) l.pw) (scale (2 * i))
      (scale (2 * i + 1))).flatten
  let f := beAt b o1 l.fw
  let df := beAt b (o1 + l.fw) l.fw
  let fs := if l.format.testBit 3 then [cFloat f, cFloat df]
    else [to32 (dAdd (.ofInt nominal) (dDiv (.ofInt (sint 16 f)) (.ofInt 1000))),
      to32 (dDiv (.ofInt (sint 16 df)) (.ofInt 100))]
  let an := (List.range l.an).map fun i => cAnalog l.format (beAt b (o2 + i * l.aw) l.aw) (scale (2 * l.ph + 2 + i))
  let dg := (List.range l.dg).map fun i => BitVec.ofNat 32 (beAt b (o3 + 2 * i) 2)
  ph ++ fs ++ an ++ dg

/-! ## Configuration frames (R196) -/

/-- What a configuration frame says of a PMU. -/
structure CPmu where
  layout : CLayout
  fnom : Nat
  deriving DecidableEq, Repr

/-- The PMUs of a CFG-2 body from an offset on, and the offset after them. -/
def cfg2Pmus (b : List Byte) : Nat → Nat → List CPmu × Nat
  | 0, i => ([], i)
  | n + 1, i =>
    let l : CLayout := ⟨beAt b (i + 18) 2 % 16, beAt b (i + 20) 2, beAt b (i + 22) 2, beAt b (i + 24) 2⟩
    let j := i + 26 + 16 * (l.ph + l.an + 16 * l.dg) + 4 * (l.ph + l.an + l.dg)
    let (ps, e) := cfg2Pmus b n (j + 4)
    (⟨l, beAt b j 2 % 2⟩ :: ps, e)

/-- Skip names that carry a length byte. -/
def skipNames (b : List Byte) : Nat → Nat → Nat
  | 0, i => i
  | n + 1, i => skipNames b n (i + 1 + beAt b i 1)

def cfg3Pmus (b : List Byte) : Nat → Nat → List CPmu × Nat
  | 0, i => ([], i)
  | n + 1, i =>
    let i1 := i + 1 + beAt b i 1 + 18
    let l : CLayout := ⟨beAt b i1 2 % 16, beAt b (i1 + 2) 2, beAt b (i1 + 4) 2, beAt b (i1 + 6) 2⟩
    let j := skipNames b (l.ph + l.an + 16 * l.dg) (i1 + 8) + 12 * l.ph + 8 * l.an + 4 * l.dg + 21
    let (ps, e) := cfg3Pmus b n (j + 4)
    (⟨l, beAt b j 2 % 2⟩ :: ps, e)

/-- TIME_BASE, DATA_RATE and the PMUs of a CFG-2 (`three` = false) or CFG-3 body; `none` where its structure fails. -/
def cConfig (three : Bool) (b : List Byte) : Option (Nat × Nat × List CPmu) :=
  let o := if three then 2 else 0
  let tb := beAt b o 4 % 2 ^ 24
  let num := beAt b (o + 4) 2
  if b.length < 30 * num + o + 8 then none
  else
    let (ps, e) := if three then cfg3Pmus b num (o + 6) else cfg2Pmus b num (o + 6)
    if e + 2 = b.length then some (tb, beAt b e 2, ps) else none

end Sys2Proof.Machine
end

