-- ==== Sys2Proof/Machine/Lanes.lean ====
section
/-!
DEFINITION. Raw lanes: samples, mixing, moving averages, FIR, calibration, frequency, outputs, coefficient swaps, local
source groups and I/Q records (the chapter on raw lanes).
-/

namespace Sys2Proof.Machine

open Sys2Proof

def Dev.lane (d : Dev) (n : Nat) : LaneSt := tget d.flt.lanes n
def Dev.modLane (d : Dev) (n : Nat) (f : LaneSt → LaneSt) : Dev :=
  { d with flt := { d.flt with lanes := tmod d.flt.lanes n f } }
def Dev.modGroup (d : Dev) (n : Nat) (f : GroupSt → GroupSt) : Dev :=
  { d with flt := { d.flt with groups := tmod d.flt.groups n f } }

def fltRej (d : Dev) : Dev := d.cause intFlt 0 0 0

/-! ## Settings of a lane -/

def laneOn (d : Dev) (n : Nat) : Bool := d.onN Reg.T_LANE.EN n
def laneFs (d : Dev) (n : Nat) : Nat := d.getN Reg.T_LANE.FS n
def laneRate (d : Dev) (n : Nat) : Nat := rateOf (d.getN Reg.T_LANE.RATE n)
def laneF0 (d : Dev) (n : Nat) : Nat := if d.onN Reg.T_LANE.FNOM n then 50 else 60
def maM (d : Dev) (n k : Nat) : Nat := d.getN Reg.T_LANEMA.M (n * 3 + k)
def maS (d : Dev) (n k : Nat) : Nat := d.getN Reg.T_LANEMA.S (n * 3 + k)

/-- The decimation of moving average k, 0 to 2; a bypassed stage has none (R298, R299). -/
def maD (d : Dev) (n k : Nat) : Nat := if maM d n k = 0 then 1 else max 1 (d.getN Reg.T_LANEMA.D (n * 3 + k))

/-- The product of the decimations before moving average k; of all three for k = 3. -/
def maP (d : Dev) (n k : Nat) : Nat := ((List.range k).map (maD d n)).foldl (· * ·) 1

def firD (d : Dev) (n : Nat) : Nat := max 1 (d.getN Reg.T_LANE.D4 n)

/-- The coefficient set of a bank. -/
def bankSet (d : Dev) (n b : Nat) : Nat := d.getN (if b = 0 then Reg.T_LANE.SET0 else Reg.T_LANE.SET1) n

/-- The set of the active bank; a lane that is off has the bank its entry names. -/
def laneSet (d : Dev) (n : Nat) : Nat := bankSet d n (if laneOn d n then (d.lane n).active else d.getN Reg.T_LANE.BANK n)

def setTaps (d : Dev) (s : Nat) : Nat := d.getN Reg.T_FIR.NTAPS s
def setValid (d : Dev) (s : Nat) : Bool := d.onN Reg.T_FIR.VALID s
def tap (d : Dev) (s i : Nat) : Int := sint 32 (d.getN Reg.T_TAP.C (s * 255 + i))
def tapSum (d : Dev) (s : Nat) : Int := ((List.range (setTaps d s)).map (tap d s)).sum

/-- Window, group delay and half-span, in input positions (the chapter's formulas before R306). -/
def laneTe (d : Dev) (n : Nat) : Nat := maP d n 3 * firD d n
def laneRe (d : Dev) (n : Nat) : Nat := laneFs d n / laneTe d n
def laneRm (d : Dev) (n : Nat) : Nat := laneFs d n / maP d n 3
def maWindow (d : Dev) (n : Nat) : Nat := ((List.range 3).map fun k => maP d n k * (maM d n k - 1)).sum
def laneWph (d : Dev) (n : Nat) : Nat := 1 + maWindow d n + maP d n 3 * (setTaps d (laneSet d n) - 1)
def laneG (d : Dev) (n : Nat) : Nat := (laneWph d n - 1) / 2
def laneAvg (d : Dev) (n : Nat) : Nat := max 1 (d.getN Reg.T_LANE.RAVG n)

/-- Estimates from a centre to the newest value it needs. -/
def laneHalf (d : Dev) (n : Nat) : Nat := 1 + (laneAvg d n - 1) / 2
def laneHe (d : Dev) (n : Nat) : Nat := laneHalf d n * laneTe d n
def laneX (d : Dev) (n : Nat) : Nat := laneG d n + laneHe d n

/-- The grid of restart positions (R312). -/
def restartStep (d : Dev) (n : Nat) : Nat :=
  if laneFs d n % max 1 (laneRate d n) = 0 then laneFs d n / max 1 (laneRate d n) else laneTe d n

/-- The output instant, if any, that takes the estimate c (R308): its index on the RATE grid. -/
def outputAt (re r c : Nat) : Option Nat :=
  let m := (2 * c * r + r) / (2 * max 1 re)
  if 2 * c * r < 2 * m * re + r then some m else none

/-- Invalid outputs after a restart at p0 (R313, R314). -/
def settleOutputs (d : Dev) (n p0 : Nat) : Nat :=
  let x := laneX d n
  let r := max 1 (laneRate d n)
  let fs := laneFs d n
  if fs % r = 0 then
    let s := max 1 (fs / r)
    x / s + (x + s - 1) / s
  else
    let te := max 1 (laneTe d n)
    let c0 := (p0 - x + te - 1) / te
    ((List.range (2 * x / te + 2)).filter fun j =>
      decide ((c0 + j) * te < p0 + x) && decide (p0 ≤ (c0 + j) * te + x) && (outputAt (laneRe d n) r (c0 + j)).isSome).length

/-! ## Status and budgets -/

/-- A lane's STATE, with the number of lanes that deliver valid output. -/
def laneState (n st : Nat) (d : Dev) : Dev :=
  let was := d.getN Reg.T_LANESTAT.STATE n
  let run := d.get Reg.FLT_STAT.LANES_RUN
  (d.setN Reg.T_LANESTAT.STATE n st).set Reg.FLT_STAT.LANES_RUN (run + b2n (st == 2) - b2n (was == 2))

/-- The lanes that are on, with lane n counted as on. -/
def lanesWith (d : Dev) (n : Nat) : List Nat := (List.range 512).filter fun k => k == n || laneOn d k

def lanesOn (d : Dev) : List Nat := (List.range 512).filter fun k => laneOn d k

def useIn (d : Dev) (l : List Nat) : Nat := (l.map (laneFs d)).sum
def useMac (d : Dev) (l : List Nat) : Nat := (l.map fun n => setTaps d (laneSet d n) * laneRm d n * 2).sum
def useHist (d : Dev) (l : List Nat) : Nat :=
  (l.map fun n => ((List.range 3).map (maM d n)).sum + setTaps d (laneSet d n) + 2 * laneHalf d n + 1).sum

/-- FLT_BUDGET_IN, _MAC and _HIST show the budgets in use. -/
def showBudgets (d : Dev) : Dev :=
  let l := (lanesOn d).filter fun n => laneFs d n != 0
  ((d.set Reg.FLT_BUDGET_IN.KSPS ((useIn d l + 999) / 1000)).set Reg.FLT_BUDGET_MAC.MMAC
    ((useMac d l + 999999) / 1000000)).set Reg.FLT_BUDGET_HIST.WORDS (useHist d l)

/-! ## Synchronising reset (R311) -/

/-- The lane clears its history; a fade ends on its new bank and a pending swap is kept. Its invalid outputs are all still to come
(R314). DESIGN CHOICE: where FS is not a multiple of the rate, so that their number depends on where the lane restarts, they are
counted until then as for a restart at a whole second. -/
def laneSync (n : Nat) (d : Dev) : Dev :=
  let l := d.lane n
  let bank := match l.fade with
    | some (b, _, _) => b
    | none => l.active
  let d1 := d.modLane n fun x => { x with
    q := none, sync := true, p0 := none, ma := [], fir := [], xs := [], taints := [], offs := [], fade := none
    active := bank, satNow := false, iq := { (default : IqBuf) with lost := true } }
  laneState n 1 (((d1.setN Reg.T_LANESTAT.ACTIVE n bank).setN Reg.T_LANESTAT.FADING n 0).setN Reg.FLT_SETTLE_LANEn.REMAIN n
    (if laneFs d n = 0 then 0 else settleOutputs d n 0))

def laneSyncRequest (n : Nat) (d : Dev) : Dev := if laneOn d n then laneSync n d else d

def execLaneSyncRequest (lane : Nat) (s : State) : Host.Outcome State Fault Refusal :=
  run s fun _ d => if lane < 512 then onWrite 0x278000 (laneSyncRequest lane) d else d

/-! ## Swaps and fades (R317 to R322) -/

/-- The running fade has blended its last estimate: the new bank is active (R319). -/
def fadeEnd (n : Nat) (d : Dev) : Dev :=
  match (d.lane n).fade with
  | some (b, k, f) =>
    if k < f then d
    else (((d.modLane n fun x => { x with fade := none, active := b }).setN Reg.T_LANESTAT.ACTIVE n b).setN
      Reg.T_LANESTAT.FADING n 0).cause intFlt 4 0 0
  | none => d

def execFadeEnd (lane : Nat) (s : State) : Host.Outcome State Fault Refusal :=
  run s fun _ d => if lane < 512 ∧ d.up islRaw then fadeEnd lane d else d

/-- The pending slot is emptied with a status. -/
def swapDone (n st : Nat) (d : Dev) : Dev :=
  ((d.modLane n fun x => { x with pend := none }).setN Reg.T_LANESTAT.PENDING n 0).setN Reg.T_LANESTAT.SWAP_STATUS n st

/-- The pending swap at the estimate whose centre is c on the estimate grid: it is taken up when no fade runs and the
centre lies at or after the target (R318, R319, R322). Lateness counts from the target to the centre, where an earlier
centre had reached the target. -/
def swapStart (n c : Nat) (d : Dev) : Dev :=
  let l := d.lane n
  match l.pend with
  | none => d
  | some p =>
    let re := max 1 (laneRe d n)
    let late (k : Nat) : Int :=
      let ns := k * 1000000000 / re
      if d.tkp.extend then sdiff (2 ^ 48) ns (p.epoch * 2 ^ 32 + p.target) else sdiff (2 ^ 32) ns p.target
    if l.fade.isSome ∨ late c < 0 then d
    else
      let onTime := decide (late (c - 1) < 0)
      if !onTime && decide ((p.tol * 1000 : Nat) < late c) then (swapDone n stExpired d).cause intFlt 5 0 stExpired
      else if p.bank = l.active then swapDone n stOk d
      else
        let st := if onTime then stOk else stLate
        let f := d.getN Reg.T_LANE.FADE n
        let d1 := swapDone n st d
        let d2 := if f = 0 then (d1.modLane n fun x => { x with active := p.bank }).setN Reg.T_LANESTAT.ACTIVE n p.bank
          else (d1.modLane n fun x => { x with fade := some (p.bank, 0, f) }).setN Reg.T_LANESTAT.FADING n 1
        if onTime then d2 else d2.cause intFlt 5 0 stLate

/-- The centre of the next estimate value of a lane. -/
def nextCentre (d : Dev) (n : Nat) : Option Nat := ((d.lane n).xs.head?).map fun x => x.n + 1

def execSwapStart (lane : Nat) (s : State) : Host.Outcome State Fault Refusal :=
  run s fun _ d => match nextCentre d lane with
    | some c => if lane < 512 ∧ d.up islRaw then swapStart lane c (fadeEnd lane d) else d
    | none => d

/-- One lane takes or refuses a request (R317, R320). -/
def swapTake (n : Nat) (r : SwapReq) (d : Dev) : Bool × Dev :=
  let s := bankSet d n r.bank
  if !laneOn d n || !setValid d s || setTaps d s != setTaps d (laneSet d n) then
    (false, d.setN Reg.T_LANESTAT.SWAP_STATUS n stRejected)
  else
    let had := (d.lane n).pend.isSome
    let d1 := ((d.modLane n fun x => { x with pend := some r }).setN Reg.T_LANESTAT.PENDING n 1).setB
      Reg.T_LANESTAT.OVERWRITTEN n had
    (true, if had then d1.set Reg.FLT_STAT.SWAP_OVERWRITTEN 1 else d1)

/-- FLT_SWAP_CMD is written with GO (R317). -/
def swapGo (v : Word32) (d : Dev) : Dev :=
  let d0 := d.putWord 0xB0020 (v &&& 0x7FFFFFFF#32)
  let lane := d0.get Reg.FLT_SWAP_CMD.LANE
  let cnt := d0.get Reg.FLT_SWAP_CMD.NLANE
  if !bitOf v 31 then d0
  else if cnt = 0 then d0.set Reg.FLT_SWAP_RES.STATUS stSkipped
  else if 32 < cnt then d0.set Reg.FLT_SWAP_RES.STATUS stRejected
  else
    let r : SwapReq := ⟨d0.get Reg.FLT_SWAP_CMD.BANK, d0.get Reg.FLT_SWAP_T.ST, d0.get Reg.FLT_SWAP_TE.EPOCH,
      d0.get Reg.FLT_SWAP_TE.LATE_TOL⟩
    let (ok, d1) := (List.range cnt).foldl (fun (a : Bool × Dev) i =>
      if lane + i < 512 then let (o, x) := swapTake (lane + i) r a.2; (a.1 && o, x) else (false, a.2)) (true, d0)
    d1.set Reg.FLT_SWAP_RES.STATUS (if ok then stOk else stRejected)

def execSwapGo (v : Word32) (s : State) : Host.Outcome State Fault Refusal :=
  run s fun _ d => onWrite 0xB0020 (swapGo v) d

/-! ## Mixer, moving averages and FIR (R296 to R301, R307) -/

/-- Saturate to int32; the second part tells whether it did. -/
def sat32 (x : Int) : Int × Bool :=
  if 2 ^ 31 - 1 < x then (2 ^ 31 - 1, true) else if x < -(2 ^ 31) then (-(2 ^ 31), true) else (x, false)

/-- Saturations are counted (R296). -/
def countSat (n k : Nat) (d : Dev) : Dev :=
  if k = 0 then d
  else (((d.addSat Reg.FLT_CNT_SAT.N 0 k).addSat Reg.T_LANESTAT.SAT n k).modLane n fun l => { l with satNow := true }).cause
    intFlt 1 0 0

/-- Cosine and sine of the mixer in Q1.30, at a time within the second in quarter nanoseconds; their error stays below
2^-24 (R297). -/
def mixCs (f0 q : Nat) : Int × Int :=
  let (c, s) := fxCosSin (f0 * q) 4000000000
  let dev := Config.mixDev f0 q
  let near (x e : Int) : Int := divEven x (2 ^ 98) + max (-63) (min e 63)
  (near c dev.1, near s dev.2)

/-- A value of a moving average or of the FIR: the parts, saturated. -/
def satPair (i q : Int) : (Int × Int) × Nat :=
  let (a, sa) := sat32 i
  let (b, sb) := sat32 q
  ((a, b), b2n sa + b2n sb)

/-- One value enters moving average k of lane n at position p: what it passes on (R298, R299, R307). -/
def maStage (n k p : Nat) (x : Int × Int) (d : Dev) : Option (Int × Int) × Dev :=
  let m := maM d n k
  if m = 0 then (some x, d)
  else
    let h := (x :: tget (d.lane n).ma k).take m
    let d1 := d.modLane n fun l => { l with ma := tset l.ma k h }
    let sh := 2 ^ maS d n k
    let (y, c) := satPair (divEven (h.map Prod.fst).sum sh) (divEven (h.map Prod.snd).sum sh)
    let pk := maP d n (k + 1)
    (if p % pk = laneG d n % pk then some y else none, countSat n c d1)

/-- The moving averages in order. -/
def maChain (n p : Nat) (x : Int × Int) (d : Dev) : Option (Int × Int) × Dev :=
  (List.range 3).foldl (fun (a : Option (Int × Int) × Dev) k =>
    match a.1 with
    | some y => maStage n k p y a.2
    | none => a) (some x, d)

/-- The FIR of a set over the delay line, newest first (R300). -/
def firOut (d : Dev) (s : Nat) (line : List (Int × Int)) : (Int × Int) × Nat :=
  let cs := (List.range (setTaps d s)).map (tap d s)
  let dot (f : Int × Int → Int) : Int := ((cs.zip line).map fun e => e.1 * f e.2).sum
  satPair (divEven (dot Prod.fst) (2 ^ 30)) (divEven (dot Prod.snd) (2 ^ 30))

/-- The weight of the new filter at place k of a fade over f estimates (R319). -/
def fadeW (k f : Nat) : Num := dDiv (Num.ofInt k) (dAdd (Num.ofInt f) .one)

def blend (w a b : Num) : Num := dAdd (dMul (dSub .one w) a) (dMul w b)

/-- A value of MA3 enters the FIR at position p: the value X it passes on, blended while a fade runs. -/
def firStage (n p : Nat) (y : Int × Int) (d : Dev) : Option XVal × Dev :=
  let line := (y :: (d.lane n).fir).take 255
  let d1 := d.modLane n fun l => { l with fir := line }
  let te := max 1 (laneTe d n)
  let kept := p % te == laneG d n % te
  let c := (p - laneG d n) / te
  let d2 := if kept then swapStart n c (fadeEnd n d1) else d1
  let old := bankSet d2 n (d2.lane n).active
  let (xo, so) := firOut d2 old line
  match (d2.lane n).fade with
  | some (b, k, f) =>
    let new := bankSet d2 n b
    let (xn, sn) := firOut d2 new line
    let d3 := countSat n (so + sn) d2
    if !kept then (none, d3)
    else
      let w := fadeW (k + 1) f
      (some ⟨c, to64 (blend w (.ofInt xo.1) (.ofInt xn.1)), to64 (blend w (.ofInt xo.2) (.ofInt xn.2)), k + 1, f, old, new⟩,
        d3.modLane n fun l => { l with fade := some (b, k + 1, f) })
  | none =>
    let d3 := countSat n so d2
    (if kept then some ⟨c, to64 (.ofInt xo.1), to64 (.ofInt xo.2), 0, 0, old, old⟩ else none, d3)

/-! ## Frequency, calibration and droop (R302 to R305) -/

abbrev Cpx := Num × Num

def cMul (a b : Cpx) : Cpx := (dSub (dMul a.1 b.1) (dMul a.2 b.2), dAdd (dMul a.1 b.2) (dMul a.2 b.1))
def cConj (a : Cpx) : Cpx := (a.1, a.2.neg)
def cScale (a : Cpx) (k : Num) : Cpx := (dMul a.1 k, dMul a.2 k)
def cDivR (a : Cpx) (k : Num) : Cpx := (dDiv a.1 k, dDiv a.2 k)
def cArg (a : Cpx) : Num := argRad a.2 a.1
def cAbs (a : Cpx) : Num := dSqrt (dAdd (dMul a.1 a.1) (dMul a.2 a.2))

/-- Frequency and ROCOF at the middle of three values, earliest first (R304). -/
def freqRocof (f0 re : Nat) (a b c : Cpx) : Num × Num :=
  let te := dDiv .one (.ofInt re)
  let dp := cArg (cMul c (cConj b))
  let dm := cArg (cMul b (cConj a))
  (dAdd (.ofInt f0) (dDiv (dAdd dp dm) (dMul (dMul (.ofInt 4) dPi) te)),
   dDiv (dSub dp dm) (dMul (dMul (dMul (.ofInt 2) dPi) te) te))

/-- The mean over R centres of R + 2 values, earliest first. -/
def freqMean (f0 re r : Nat) (xs : List Cpx) : Num × Num :=
  let at_ (i : Nat) : Cpx := xs.getD i (.zero, .zero)
  let es := (List.range r).map fun i => freqRocof f0 re (at_ i) (at_ (i + 1)) (at_ (i + 2))
  let sum (f : Num × Num → Num) : Num := match es with
    | [] => .zero
    | e :: rest => rest.foldl (fun a x => dAdd a (f x)) (f e)
  if r = 1 then (sum Prod.fst, sum Prod.snd) else (dDiv (sum Prod.fst) (.ofInt r), dDiv (sum Prod.snd) (.ofInt r))

/-- The droop of a set at a frequency offset (R303). -/
def droopAt (d : Dev) (s : Nat) (df : Num) : Num :=
  let e (k : Nat) : Num := b32.num (d.getN Reg.T_DROOP.D (s * 33 + k))
  if df.le (.ofInt (-8)) then e 0
  else if Num.le (.ofInt 8) df then e 32
  else
    let u := dMul (dAdd df (.ofInt 8)) (.ofInt 2)
    let k := min 31 u.floor.toNat
    dAdd (e k) (dMul (dSub u (.ofInt k)) (dSub (e (k + 1)) (e k)))

/-- The droop of a value, blended in a fade (R319). -/
def droopOf (d : Dev) (x : XVal) (df : Num) : Num :=
  if x.k = 0 then droopAt d x.old df else blend (fadeW x.k x.f) (droopAt d x.old df) (droopAt d x.new df)

/-- The gain of the chain at d.c. (R302). -/
def laneGain (d : Dev) (n : Nat) : Num :=
  (List.range 3).foldl (fun a k =>
    if maM d n k = 0 then a else dMul a (dDiv (.ofInt (maM d n k)) (.ofInt (2 ^ maS d n k : Nat))))
    (.ofInt (2 ^ d.getN Reg.T_LANE.ISHIFT n : Nat))

def numDivNat (a : Int) (b : Nat) : Num := dDiv (.ofInt a) (.ofInt b)

/-- The phasor of a value (R302). -/
def laneCal (d : Dev) (n : Nat) (x : XVal) (f dbar : Num) : Cpx :=
  let f0 : Num := .ofInt (laneF0 d n)
  let gdc := dDiv (dMul (laneGain d n) (.ofInt (tapSum d x.old))) (.ofInt (2 ^ 30 : Nat))
  let twoPi := dMul (.ofInt 2) dPi
  let skew := numDivNat (sint 32 (d.getN Reg.T_LANE.CAL_SKEW n)) 4000000000
  let p1 := cDivR (cScale (cScale (num64 x.re, num64 x.im) dSqrt2) (numF (d.getN Reg.T_LANE.SCALE n))) gdc
  let p2 := cMul (cScale p1 (numF (d.getN Reg.T_LANE.CAL_GAIN n))) (cosSinRad (numF (d.getN Reg.T_LANE.CAL_PHASE n)))
  let p3 := cMul p2 (cosSinRad (dMul (dMul twoPi f) skew))
  let p4 := cMul p3 (cosSinRad (dMul (dMul twoPi (dSub f f0)) dbar).neg)
  if d.onN Reg.T_LANE.FCOMP n then cScale p4 (droopOf d x (dSub f f0)) else p4

/-! ## Estimates and outputs (R306 to R310, R313) -/

/-- The lowest of the codes. -/
def minCode (cs : List Word32) : Option Word32 :=
  cs.foldl (fun a c => some (match a with
    | some b => lowCode b c
    | none => c)) none

/-- The mean offset of the sample instants from their positions over the phasor window of the newest estimate, in seconds
(R302). -/
def dbarOf (d : Dev) (n : Nat) : Num :=
  let w := ((d.lane n).offs.drop (laneHe d n)).take (laneWph d n)
  if w.isEmpty ∨ w.sum = 0 then .zero else numDivNat w.sum (w.length * 4000000000 * laneFs d n)

def word64 (x : Num) : Word32 := if x.isNan then wInvalid else to32 x

/-- A group that a lane belongs to. -/
def groupHas (d : Dev) (g n : Nat) : Bool :=
  d.onN Reg.T_GROUP.VALID g && decide (d.getN Reg.T_GROUP.FIRST g ≤ n) &&
    decide (n < d.getN Reg.T_GROUP.FIRST g + d.getN Reg.T_GROUP.COUNT g)

def groupOf (d : Dev) (n : Nat) : Option Nat := (List.range 128).find? fun g => groupHas d g n

/-- The output for instant m of the estimate c: moved to its instant and rounded (R308, R309). -/
def moveOut (d : Dev) (n c m : Nat) (p : Cpx) (f df : Num) (noF : Bool) : List Word32 :=
  let re := laneRe d n
  let r := laneRate d n
  let off : Int := ((m * re : Nat) : Int) - (c * r : Nat)
  let dt := numDivNat off (r * re)
  let (q, f1) := if off = 0 then (p, f)
    else (cMul p (cosSinRad (dMul (dMul (dMul (.ofInt 2) dPi) (dSub f (.ofInt (laneF0 d n)))) dt)), dAdd f (dMul df dt))
  [word64 q.1, word64 q.2, if noF then wInvalid else word64 f1, if noF then wInvalid else word64 df]

/-- A valid output has come, or one invalid output of a settling lane. -/
def settleStep (n : Nat) (settling : Bool) (d : Dev) : Dev :=
  let rem := d.getN Reg.FLT_SETTLE_LANEn.REMAIN n
  if settling then
    let d1 := d.setN Reg.FLT_SETTLE_LANEn.REMAIN n (rem - 1)
    if rem ≤ 1 then laneState n 2 d1 else d1
  else laneState n 2 (d.setN Reg.FLT_SETTLE_LANEn.REMAIN n 0)

/-- The estimate whose newest value is x is complete. -/
def estimate (n : Nat) (x : XVal) (d : Dev) : Dev :=
  let half := laneHalf d n
  let r := laneAvg d n
  let te := laneTe d n
  let c := x.n - half
  let l := d.lane n
  let win := (l.xs.take (r + 2)).reverse
  let xs : List Cpx := List.replicate (r + 2 - win.length) (.zero, .zero) ++ win.map fun v => (num64 v.re, num64 v.im)
  let mid := l.xs.getD half ⟨c, 0, 0, 0, 0, laneSet d n, laneSet d n⟩
  let pos := c * te
  let span := laneX d n
  let settling := decide (pos < (l.p0.getD 0) + span)
  let tcodes := (l.taints.filter fun e => decide (pos ≤ e.1 + span) && decide (e.1 ≤ pos + span)).map Prod.snd
  let bad := minCode (if settling then wSettling :: tcodes else tcodes)
  let (f, df) := freqMean (laneF0 d n) (laneRe d n) r xs
  let p := laneCal d n mid f (dbarOf d n)
  let mag := d.getN Reg.T_LANE.MAG_MIN n
  let noF := mag != 0 && Num.lt (cAbs p) (numF mag)
  let d1 := d.setN Reg.T_LANESTAT.LAST_F n
    (match bad with
     | some w => w
     | none => if noF then wInvalid else word64 f).toNat
  match outputAt (laneRe d n) (laneRate d n) c with
  | none => d1
  | some m =>
    let ws := match bad with
      | some w => List.replicate 4 w
      | none => moveOut d n c m p f df noF
    let o : LaneOut := ⟨m, ws, c, xs.map fun v => (to64 v.1, to64 v.2), bad⟩
    let d2 := settleStep n settling d1
    if d2.get Reg.GLB_SPLIT.PHASOR ≠ 1 ∨ (groupOf d2 n).isNone then d2
    else d2.modLane n fun y => { y with outs := y.outs ++ [o] }

/-! ## I/Q records (R328, R329, Table FLT-6) -/

/-- The bytes of a record. -/
def iqRecord (d : Dev) (n : Nat) (b : IqBuf) : List Byte :=
  let any (f : Int × Int × Option Word32 → Bool) := b.pairs.any f
  let word (v : Int) (t : Option Word32) : List Byte := match t with
    | some w => le 4 w.toNat
    | none => le 4 (unsig 32 v)
  le 2 n ++ le 2 b.pairs.length ++ le 4 (laneRm d n) ++ le 6 (b.firstQ / 4 / 1000000000) ++
    le 4 (b.firstQ / 4 % 1000000000) ++ le 2 (b2n (any fun p => p.2.2.isSome) + 2 * b2n b.sat + 4 * b2n b.lost) ++
    le 4 (to32 (laneGain d n)).toNat ++ le 4 b.dbar.toNat ++ le 4 0 ++
    (b.pairs.map fun p => word p.1 p.2.2 ++ word p.2.1 p.2.2).flatten

/-- A full record goes to the host. -/
def iqSend (n : Nat) (d : Dev) : Dev :=
  let b := (d.lane n).iq
  let ring := d.get Reg.FLT_HOST.IQ_RING
  let clear (lost : Bool) (d : Dev) : Dev := d.modLane n fun l => { l with iq := { (default : IqBuf) with lost := lost } }
  let drop (d : Dev) : Dev := clear true ((d.sat Reg.FLT_CNT_IQ_DROP.N).cause intFlt 6 0 0)
  if !ringIs d ring clsRxh then drop d
  else match deliver ring (iqRecord d n b) [] d with
    | (.sent, d1) => clear false d1
    | (_, d1) => drop d1

/-- A pair of the third moving average joins the record. The mean offset of a converter lane is a free value: the spec does
not say over which samples it is taken. -/
def iqPair (n p q : Nat) (conv : Bool) (y : Int × Int) (d : Dev) : Dev :=
  let blk := d.get Reg.FLT_HOST.BLK
  if blk = 0 then d
  else
    let l := d.lane n
    let code := minCode ((l.taints.filter fun e => decide (p ≤ e.1 + maWindow d n)).map Prod.snd)
    let (k, d0) := if l.iq.pairs.isEmpty && conv then d.draw else (0, d)
    let b0 := if l.iq.pairs.isEmpty then
        { l.iq with firstQ := q, dbar := if conv then Config.freeWord k else 0 } else l.iq
    let b : IqBuf := { b0 with pairs := b0.pairs ++ [(y.1, y.2, code)], sat := b0.sat || l.satNow }
    let d1 := d0.modLane n fun x => { x with iq := b, satNow := false }
    if blk ≤ b.pairs.length then iqSend n d1 else d1

/-! ## Samples (R289 to R296, R311 to R314, R331) -/

/-- One position enters the chain: a sample with its instant, or a filled or tainted position. -/
def laneFeed (n p : Nat) (s : LaneSmp) (d : Dev) : Dev :=
  let fs := laneFs d n
  let (x, clip) := match s.taint with
    | some _ => (0, false)
    | none => sat32 (s.value * (2 ^ d.getN Reg.T_LANE.ISHIFT n : Nat))
  let q := s.inst.q
  let off : Int := if s.stream.isSome then 0 else ((q * fs : Nat) : Int) - (p * 4000000000 : Nat)
  let keep := laneX d n + laneG d n + 1
  let d1 := capRaw n p s.raw s.inst (rawWrite n p s.raw d)
  let d2 := d1.modLane n fun l => { l with
    q := some p
    offs := if s.stream.isSome then [] else (off :: l.offs).take keep
    taints := match s.taint with
      | some w => (l.taints.filter fun e => decide (p ≤ e.1 + 2 * laneX d n)) ++ [(p, w)]
      | none => l.taints }
  let d3 := countSat n (b2n clip) d2
  let (c, sn) := mixCs (laneF0 d n) (q % 4000000000)
  let i := divEven (x * c) (2 ^ 30)
  let qq := divEven (-(x * sn)) (2 ^ 30)
  match maChain n p (i, qq) d3 with
  | (none, d4) => d4
  | (some y, d4) =>
    if d4.get Reg.GLB_SPLIT.PHASOR = 2 then iqPair n p q s.stream.isNone y d4
    else match firStage n p y d4 with
      | (none, d5) => d5
      | (some v, d5) =>
        estimate n v (d5.modLane n fun l => { l with xs := (v :: l.xs).take 40 })

/-- The absolute position of an instant (R290). -/
def lanePos (fs : Nat) (i : Inst) : Nat :=
  let den := max 1 i.den
  i.num / den * fs + (2 * (i.num % den) * fs + den) / (2 * den)

/-- The first sample after a synchronising reset is looked for (R312). -/
def laneRestart (n p : Nat) (s : LaneSmp) (d : Dev) : Dev :=
  if p % max 1 (restartStep d n) ≠ 0 then d.sat Reg.FLT_CNT_SYNC.N
  else
    let k := settleOutputs d n p
    let d1 := rawRestart n p (d.modLane n fun l => { l with p0 := some p, sync := false })
    let d2 := (d1.setN Reg.FLT_SETTLE_LANEn.N n k).setN Reg.FLT_SETTLE_LANEn.REMAIN n k
    laneFeed n p s (if k = 0 then laneState n 2 d2 else d2)

/-- A sample that R294 to R312 judge. -/
def laneTake (n : Nat) (s : LaneSmp) (d0 : Dev) : Dev :=
  let p := lanePos (laneFs d0 n) s.inst
  let d := d0.modLane n fun l => { l with tq := s.tq }
  let resync (d : Dev) : Dev := laneRestart n p s ((laneSync n d).cause intFlt 3 0 0)
  if d.getN Reg.T_LANESTAT.STATE n = 3 then resync d
  else
    match (d.lane n).p0, (d.lane n).q with
    | some _, some q =>
      if p = q + 1 then laneFeed n p s d
      else if p = q then d.sat Reg.FLT_CNT_DUPSMP.N
      else if q + 2 ≤ p ∧ p ≤ q + 1 + d.get Reg.FLT_CTRL.GAP_MAX then
        let miss := p - q - 1
        let d1 := ((d.addSat Reg.FLT_CNT_GAP.N 0 miss).addSat Reg.T_LANESTAT.GAP n miss).cause intFlt 2 0 0
        let fs := max 1 (laneFs d n)
        let d2 := (List.range miss).foldl (fun x j =>
          let pj := q + 1 + j
          laneFeed n pj ⟨s.stream, ⟨pj, fs⟩, 0, some wMissing, s.tq, wMissing⟩ x) d1
        laneFeed n p s d2
      else resync d
    | _, _ => laneRestart n p s d

/-- The oldest sample at a lane's input (R289). -/
def laneInput (n : Nat) (d : Dev) : Dev :=
  match (d.lane n).inq with
  | [] => d
  | s :: rest =>
    let d1 := d.modLane n fun l => { l with inq := rest }
    let sel := d1.getN Reg.T_LANE.SRC_SEL n
    let right := match s.stream with
      | none => sel == 1
      | some v => sel == 2 && d1.getN Reg.T_LANE.SV_STREAM n == v
    if !right || !laneOn d1 n then d1.sat Reg.FLT_CNT_NOLANE.N
    else if !d1.on Reg.FLT_CTRL.EN || laneFs d1 n == 0 then d1
    else laneTake n s d1

def execLaneSample (lane : Nat) (s : State) : Host.Outcome State Fault Refusal :=
  run s fun _ d => if lane < 512 ∧ d.up islRaw then laneInput lane d else d

/-- No sample has reached the lane for IN_TMO (R295). -/
def laneInputTimeout (t : Time) (n : Nat) (d : Dev) : Dev :=
  if laneOn d n && laneFs d n != 0 && d.on Reg.FLT_CTRL.EN &&
      decide ((d.lane n).lastLoc + d.get Reg.FLT_CTRL.IN_TMO * 1000 ≤ t.loc) then laneState n 3 d else d

def execLaneInputTimeout (lane : Nat) (s : State) : Host.Outcome State Fault Refusal :=
  run s fun t d => if lane < 512 ∧ d.up islRaw then laneInputTimeout t lane d else d

/-! ## Enabling and changing a lane (R315, R316) -/

/-- The status of R315 for a lane, as if it were on. -/
def laneCheck (d : Dev) (n : Nat) : Nat :=
  let fs := laneFs d n
  let sel := d.getN Reg.T_LANE.SRC_SEL n
  let avg := d.getN Reg.T_LANE.RAVG n
  let set := bankSet d n (d.getN Reg.T_LANE.BANK n)
  let mas := List.range 3
  let all := (lanesWith d n).filter fun k => laneFs d k != 0
  if fs = 0 then stSkipped
  else if sel = 0 ∨ sel = 3 ∨ 11 < d.getN Reg.T_LANE.RATE n ∨ 16 < d.getN Reg.T_LANE.ISHIFT n ∨ 2000000 < fs ∨
      mas.any (fun k => decide (16 < maS d n k) || decide (4096 < maM d n k)) ∨ (avg ≠ 0 ∧ avg % 2 = 0) then stRejected
  else if mas.any (fun k => fs % maP d n (k + 1) != 0) ∨ fs % laneTe d n ≠ 0 then stRejected
  else if laneWph d n % 2 = 0 then stRejected
  else if laneRe d n < laneRate d n ∨ !setValid d set then stRejected
  else if (match groupOf d n with
      | some g => d.getN Reg.T_SRC.RATE (d.getN Reg.T_GROUP.SLOT g) != d.getN Reg.T_LANE.RATE n
      | none => false) then stRejected
  else if 32000000 < useIn d all ∨ 1024000000 < useMac d all ∨ 262144 < useHist d all then stLimit
  else stOk

/-- EN has changed: bit 10 of its group's STAT (R326). -/
def laneChanged (t : Time) (n : Nat) (d : Dev) : Dev := d.modLane n fun l => { l with enAt := some t.loc }

/-- A write of word 0 of a lane that is off, or that would switch it off. -/
def laneEnable (t : Time) (n : Nat) (v : Word32) (d : Dev) : Dev :=
  let a := Reg.T_LANE.EN.reg.addr n
  if laneOn d n then
    let d1 := if (v ||| 1) &&& maskOf (fieldsAt a) = d.word a && !bitOf v 0 then d else fltRej d
    if bitOf v 0 then d1
    else
      let d2 := (laneState n 0 (laneChanged t n (d1.setN Reg.T_LANE.EN n 0))).modLane n fun l =>
        { l with outs := [], iq := default }
      showBudgets (d2.setN Reg.FLT_SETTLE_LANEn.REMAIN n 0)
  else
    let d1 := d.putUnvalid a v
    if !bitOf v 0 then d1
    else
      let st := laneCheck d1 n
      let d2 := d1.setN Reg.T_LANESTAT.EN_STATUS n st
      if st ≠ stOk ∧ st ≠ stSkipped then fltRej d2
      else
        let bank := d2.getN Reg.T_LANE.BANK n
        let d3 := (laneChanged t n (d2.setN Reg.T_LANE.EN n 1)).modLane n fun l =>
          { l with active := bank, fade := none, lastLoc := t.loc }
        if st = stSkipped then d3.setN Reg.T_LANESTAT.ACTIVE n bank
        else
          let d4 := laneSync n (showBudgets d3)
          if laneFs d4 n % max 1 (laneRate d4 n) = 0 then
            d4.setN Reg.FLT_SETTLE_LANEn.N n (settleOutputs d4 n 0)
          else d4

def execLaneEnable (lane : Nat) (v : Word32) (s : State) : Host.Outcome State Fault Refusal :=
  run s fun t d => if lane < 512 then onWrite 0x270000 (laneEnable t lane v) d else d

/-- A write of another word of a lane's entry (R316). -/
def laneWrite (n w : Nat) (v : Word32) (d : Dev) : Dev :=
  let a := 0x270000 + n * 64 + w * 4
  if !laneOn d n then d.putWord a v
  else if 6 ≤ w ∧ w ≤ 11 then d.putWord a v
  else if w = 5 then
    let l := d.lane n
    let busy (b : Nat) : Bool := l.active == b || (l.fade.any fun f => f.1 == b)
    let new := v &&& maskOf (fieldsAt a)
    let f := if busy 0 then Reg.T_LANE.SET1 else Reg.T_LANE.SET0
    let ok := f.inWord (d.word a) (f.ofWord new)
    if busy 0 && busy 1 then fltRej d
    else if ok = new then d.putWord a new else fltRej (d.putWord a ok)
  else fltRej d

/-! ## Coefficient sets (R301) -/

/-- A set is named by the active bank of a lane that is on, or by a bank that is fading or pending (R301). -/
def setBusy (d : Dev) (s : Nat) : Bool :=
  (List.range 512).any fun n =>
    let l := d.lane n
    (laneOn d n && bankSet d n l.active == s) || (l.fade.any fun f => bankSet d n f.1 == s) ||
      (l.pend.any fun p => bankSet d n p.bank == s)

/-- A set may be made valid. -/
def setOk (d : Dev) (s : Nat) : Bool :=
  let k := setTaps d s
  k % 2 == 1 && (List.range k).all (fun i => tap d s i == tap d s (k - 1 - i)) && tapSum d s != 0

/-- Word 0 of a set is written. -/
def coefSetValidate (s : Nat) (v : Word32) (d : Dev) : Dev :=
  let a := Reg.T_FIR.VALID.reg.addr s
  if setBusy d s then fltRej d
  else if !bitOf v 0 then d.putWord a v
  else
    let d1 := d.putUnvalid a v
    if setOk d1 s then d.putWord a v else fltRej d1

def execCoefSetValidate (set : Nat) (v : Word32) (s : State) : Host.Outcome State Fault Refusal :=
  run s fun _ d => if set < 64 then onWrite 0x280000 (coefSetValidate set v) d else d

/-- Any other word of a set is written. -/
def coefWrite (a : Nat) (v : Word32) (d : Dev) : Dev := if setBusy d ((a - 0x280000) / 0x800) then fltRej d else d.putWord a v

/-! ## Groups (R323 to R326) -/

def groupLanes (d : Dev) (g : Nat) : List Nat :=
  (List.range (d.getN Reg.T_GROUP.COUNT g)).map fun i => d.getN Reg.T_GROUP.FIRST g + i

/-- A group may be made valid. -/
def groupOk (d : Dev) (g : Nat) : Bool :=
  let slot := d.getN Reg.T_GROUP.SLOT g
  let first := d.getN Reg.T_GROUP.FIRST g
  let cnt := d.getN Reg.T_GROUP.COUNT g
  let inside (f : Field) : Bool := decide (first ≤ d.getN f g) && decide (d.getN f g < first + cnt)
  cnt == 0 || (decide (cnt ≤ 32) && decide (first + cnt ≤ 512) &&
    d.onN Reg.T_SRC.VALID slot && srcType d slot == 4 &&
    d.getN Reg.T_SRC.WORDS slot == 2 * cnt + 2 * d.getN Reg.T_GROUP.FW g &&
    (groupLanes d g).all (fun n => (groupOf d n).isNone &&
      (!laneOn d n || d.getN Reg.T_LANE.RATE n == d.getN Reg.T_SRC.RATE slot)) &&
    inside Reg.T_GROUP.FLANE && inside Reg.T_GROUP.FLANE_B && inside Reg.T_GROUP.FLANE_C)

/-- Word 0 of a group is written. -/
def groupValidate (t : Time) (g : Nat) (v : Word32) (d : Dev) : Dev :=
  let a := Reg.T_GROUP.VALID.reg.addr g
  if d.onN Reg.T_GROUP.VALID g then
    let d1 := if (v ||| 1) &&& maskOf (fieldsAt a) = d.word a then d else fltRej d
    if bitOf v 0 then d1 else d1.setN Reg.T_GROUP.VALID g 0
  else
    let d1 := d.putUnvalid a v
    if !bitOf v 0 then d1
    else if !groupOk d1 g then fltRej d1
    else
      let d2 := (groupLanes d1 g).foldl (fun x n => x.modLane n fun l => { l with outs := [] }) d1
      (d2.setN Reg.T_GROUP.VALID g 1).modGroup g fun _ => ⟨none, t.loc⟩

def execGroupValidate (g : Nat) (v : Word32) (s : State) : Host.Outcome State Fault Refusal :=
  run s fun t d => if g < 128 then onWrite 0x27A000 (groupValidate t g v) d else d

/-- The output of a lane for instant m. -/
def outFor (d : Dev) (n m : Nat) : Option LaneOut := (d.lane n).outs.find? fun o => o.m == m

/-- The first output instant that some lane of the group has and the group has not written. -/
def groupNext (d : Dev) (g : Nat) : Option Nat :=
  ((groupLanes d g).flatMap fun n => (d.lane n).outs.map fun o => o.m).foldl (fun a m => some (match a with
    | some b => min b m
    | none => m)) none

/-- The positive sequence of three values: (a + e^{j2π/3} b + e^{−j2π/3} c) ÷ 3. -/
def posSeq (a b c : Cpx) : Cpx :=
  let w := cosSinTurns 1 3
  let w2 := cosSinTurns 2 3
  let x := cMul w b
  let y := cMul w2 c
  cDivR (dAdd (dAdd a.1 x.1) y.1, dAdd (dAdd a.2 x.2) y.2) (.ofInt 3)

/-- FREQ and ROCOF of a group's block (R324). -/
def groupFreq (d : Dev) (g m : Nat) : List Word32 :=
  let la := d.getN Reg.T_GROUP.FLANE g
  let lb := d.getN Reg.T_GROUP.FLANE_B g
  let lc := d.getN Reg.T_GROUP.FLANE_C g
  if !d.onN Reg.T_GROUP.FMODE g then
    match outFor d la m with
    | some o => [o.words.getD 2 wMissing, o.words.getD 3 wMissing]
    | none => [wMissing, wMissing]
  else
    let same (f : Dev → Nat → Nat) : Bool := f d la == f d lb && f d la == f d lc
    match outFor d la m, outFor d lb m, outFor d lc m with
    | some a, some b, some c =>
      match minCode ([a, b, c].filterMap fun o => o.bad) with
      | some w => [w, w]
      | none =>
        if !(same laneRe && same laneX && same laneAvg) || a.n != b.n || a.n != c.n then [wInvalid, wInvalid]
        else
          let n64 (p : Word64 × Word64) : Cpx := (num64 p.1, num64 p.2)
          let xs := (List.range (laneAvg d la + 2)).map fun i =>
            posSeq (n64 (a.xs.getD i (0, 0))) (n64 (b.xs.getD i (0, 0))) (n64 (c.xs.getD i (0, 0)))
          let (f, df) := freqMean (laneF0 d la) (laneRe d la) (laneAvg d la) xs
          (moveOut d la a.n m (.zero, .zero) f df false).drop 2
    | _, _, _ => [wMissing, wMissing]

/-- Nanoseconds from an output instant to the last of its samples, over the group's lanes (R325). -/
def groupXns (d : Dev) (g : Nat) : Nat :=
  ((groupLanes d g).map fun n => if laneOn d n && laneFs d n != 0 then
    (laneX d n * 1000000000 + laneFs d n - 1) / laneFs d n else 0).foldl max 0

/-- The block of a group for instant m is written (R324 to R326). -/
def groupBlock (t : Time) (g m : Nat) (d : Dev) : Dev :=
  let ls := groupLanes d g
  let r := srcRate d (d.getN Reg.T_GROUP.SLOT g)
  let ph := (ls.map fun n => match outFor d n m with
    | some o => o.words.take 2
    | none => [wMissing, wMissing]).flatten
  let ws := ph ++ if d.onN Reg.T_GROUP.FW g then groupFreq d g m else []
  let bad := ws.any fun w => w == wSettling || w == wInvalid
  let tq := ls.any fun n => (outFor d n m).isSome && (d.lane n).tq
  let recent (at_ : Nat) : Bool := decide (t.loc < at_ + 60000000000)
  let bit10 := recent (tget d.flt.groups g).validAt || ls.any fun n => ((d.lane n).enAt).any recent
  let stat := statTimeBits t d ||| (if tq then 0x2000 else 0) ||| (if bad then 0xC000 else 0) ||| (if bit10 then 0x400 else 0)
  let flags := (if bad then flInvalid else 0) ||| if tq then flTq else 0
  let d1 := ls.foldl (fun x n => x.modLane n fun l => { l with outs := l.outs.filter fun o => decide (m < o.m) }) d
  let d2 := d1.modGroup g fun x => { x with done := some m }
  let blk : AlnBlk := ⟨d.getN Reg.T_GROUP.SLOT g, m / max 1 r, m % max 1 r, r, t.ns, stat, flags, ws, false⟩
  if alignTakes d2 then d2.modAln fun x => { x with inq := x.inq ++ [blk] } else d2

/-- A group that produces blocks, with its next instant. -/
def groupDue (d : Dev) (g : Nat) : Option Nat :=
  if decide (g < 128) && d.up islRaw && d.onN Reg.T_GROUP.VALID g && d.get Reg.GLB_SPLIT.PHASOR == 1 then groupNext d g
  else none

/-- An output for an instant that the group has written is dropped. -/
def groupStale (g m : Nat) (d : Dev) : Dev :=
  (groupLanes d g).foldl (fun x n => x.modLane n fun l => { l with outs := l.outs.filter fun o => decide (m < o.m) }) d

def groupWrite (t : Time) (g : Nat) (ready : Nat → Dev → Bool) (d : Dev) : Dev :=
  match groupDue d g with
  | none => d
  | some m =>
    if (tget d.flt.groups g).done.any fun k => decide (m ≤ k) then groupStale g m d
    else if ready m d then groupBlock t g m d else d

def execGroupBlockWrite (g : Nat) (s : State) : Host.Outcome State Fault Refusal :=
  run s fun t d => groupWrite t g (fun m d => (groupLanes d g).all fun n => !laneOn d n || (outFor d n m).isSome) d

def execGroupBlockTimeout (g : Nat) (s : State) : Host.Outcome State Fault Refusal :=
  run s fun t d => groupWrite t g (fun m d =>
    let r := max 1 (srcRate d (d.getN Reg.T_GROUP.SLOT g))
    decide (instNs m r + groupXns d g + d.get Reg.FLT_CTRL.IN_TMO * 1000 ≤ t.ns)) d

/-! ## Modes, resets and Doze (R311, R332 to R334) -/

/-- GLB_SPLIT.PHASOR has changed from 2 to 1. -/
def fltSplit (d : Dev) : Dev := (lanesOn d).foldl (fun x n => laneSync n x) d

/-- RAW enters reset or Doze: `old` is the device before its status was reset. -/
def fltReset (old d : Dev) : Dev :=
  let d0 := { d with flt := default }
  let d1 := (List.range 512).foldl (fun x n =>
    let l := old.lane n
    let bank := match l.fade with
      | some (b, _, _) => b
      | none => l.active
    let y := (x.modLane n fun z => { z with active := bank }).setN Reg.T_LANESTAT.ACTIVE n bank
    if l.pend.isSome then y.setN Reg.T_LANESTAT.SWAP_STATUS n stAborted else y) d0
  (List.range 128).foldl (fun x g => if x.onN Reg.T_GROUP.VALID g then
    x.modGroup g fun _ => ⟨none, (tget old.flt.groups g).validAt⟩ else x) d1

/-- RAW leaves reset or wakes: lanes that are on wait for their first sample. -/
def fltResume (t : Time) (d : Dev) : Dev :=
  showBudgets ((lanesOn d).foldl (fun x n => laneSync n (x.modLane n fun l => { l with lastLoc := t.loc })) d)

end Sys2Proof.Machine
end

