-- ==== Sys2Proof/Machine/Ingest.lean ====
section
/-!
DEFINITION. Ingest: intake, classification, binding, conversion, frame time, configuration changes, sampled values, GOOSE
and the way of blocks to Roll Call or the host (the chapter on ingest).
-/

namespace Sys2Proof.Machine

open Sys2Proof

def Dev.modIng (d : Dev) (f : Ing → Ing) : Dev := { d with ing := f d.ing }
def Dev.modSrc (d : Dev) (s : Nat) (f : SrcSt → SrcSt) : Dev := d.modIng fun x => { x with src := tmod x.src s f }

/-! ## Intake (R171 to R174, R475) -/

/-- A whole TAI second has begun: the forwarding count restarts and FPS shows the last second (R177). -/
def secondRoll (t : Time) (d : Dev) : Dev :=
  if t.sec = d.ing.second then d
  else
    let n := if t.sec = d.ing.second + 1 then d.ing.fps else 0
    (d.set Reg.ING_STATUS.FPS n).modIng fun x => { x with second := t.sec, hostCnt := 0, fps := 0 }

def execHostlimSecond (s : State) : Host.Outcome State Fault Refusal :=
  run s fun t d => if d.up islIng then secondRoll t d else d

/-- Does input i hold a frame? Input 20 is injection. -/
def inputReady (d : Dev) (i : Nat) : Bool := if i = 20 then !d.ing.injq.isEmpty else !(tget d.ing.inq i).isEmpty

/-- The input served next, round-robin after the last one (R172). -/
def nextInput (d : Dev) : Option Nat :=
  ((List.range 21).map fun j => (d.ing.turn + 1 + j) % 21).find? fun i => inputReady d i

/-- Intake buffer fill in percent. -/
def showFill (d : Dev) : Dev := d.set Reg.ING_STATUS.FILL (d.ing.bytes * 100 / 2 ^ 20)

/-- A frame of this millisecond is counted against its input's limit: is it within the limit (R173)? -/
def portLimit (t : Time) (i : Nat) (d : Dev) : Bool × Dev :=
  let ms := t.ns / 1000000
  let d0 := if d.ing.ms = ms then d else d.modIng fun x => { x with ms := ms, msCnt := [], msSeen := false }
  let lim := d0.getN Reg.ING_PORTLIMn.LIMIT i
  let c := tget d0.ing.msCnt i + 1
  let d1 := d0.modIng fun x => { x with msCnt := tset x.msCnt i c }
  if lim = 0 ∨ c ≤ lim then (true, d1)
  else
    let d2 := d1.sat Reg.ING_CNT_PORTLIM.N
    (false, if d2.ing.msSeen then d2
      else (d2.modIng fun x => { x with msSeen := true }).cause intIng 7 i 0)

/-- A frame that is within its limit enters the buffer, or overflows it (R174). -/
def bufferTake (f : InFrame) (d : Dev) : Bool × Dev :=
  if 2 ^ 20 < d.ing.bytes + f.frame.len then (false, (d.sat Reg.ING_CNT_OVF.N).cause intIng 2 0 0)
  else (true, showFill (d.modIng fun x => { x with buf := x.buf ++ [f], bytes := x.bytes + f.frame.len }))

/-- An injected frame is taken up. -/
def injectTake (t : Time) (x : Inject) (d : Dev) : Dev :=
  let done (st : Nat) (d : Dev) : Dev := endStarted x.ring x.idx st (if st = stLimit then 0 else x.frame.len - 4) (txExt none 20) none d
  match portLimit t 20 d with
  | (false, d1) => done stLimit d1
  | (true, d1) => match bufferTake ⟨20, x.arrQ.getD t.qns, x.frame, false⟩ d1 with
    | (true, d2) => done stOk d2
    | (false, d2) => done stNoSpace d2

/-- Ingest serves its next input. -/
def ingestIntake (t : Time) (d : Dev) : Dev :=
  match nextInput d with
  | none => d
  | some i =>
    let d1 := d.modIng fun x => { x with turn := i }
    if i = 20 then
      match d1.ing.injq with
      | x :: rest => injectTake t x (d1.modIng fun y => { y with injq := rest })
      | [] => d1
    else
      match tget d1.ing.inq i with
      | f :: rest =>
        let d2 := (d1.modIng fun y => { y with inq := tset y.inq i rest }).modPort i fun p =>
          { p with rxFill := p.rxFill - f.frame.len }
        (match portLimit t i d2 with
         | (true, d3) => (bufferTake f d3).2
         | (false, d3) => d3)
      | [] => d1

def execIngestIntake (s : State) : Host.Outcome State Fault Refusal :=
  run s fun t d => if d.up islIng then ingestIntake t d else d

/-! ## Frames for the host (R177, R206, R207, R477) -/

def hostDrop (d : Dev) : Dev := d.sat Reg.ING_CNT_HOSTDROP.N

/-- A frame or record goes to an RXH ring, or is counted. -/
def ingDeliver (ring : Nat) (bytes ext : List Byte) (d : Dev) : Dev :=
  if !ringIs d ring clsRxh then hostDrop d
  else match deliver ring bytes ext d with
    | (.sent, d1) => d1
    | (_, d1) => hostDrop d1

/-- Bytes 16 to 31 of the completion of a forwarded frame (R477). -/
def rxExt (f : InFrame) (reason out : Nat) : List Byte :=
  le 6 (f.arrQ / 4 / 1000000000) ++ le 4 (f.arrQ / 4 % 1000000000) ++ le 1 (f.arrQ % 4) ++ le 1 f.input ++ le 2 reason ++
    le 1 out ++ le 1 0

/-- A frame goes to CFG_RING. -/
def toCfgRing (f : InFrame) (reason out : Nat) (d : Dev) : Dev :=
  ingDeliver (d.get Reg.ING_RXH.CFG_RING) f.frame.raw (rxExt f reason out) d

/-- A frame goes to HOST_RING, within the limit of this second (R177). -/
def toHostRing (f : InFrame) (reason : Nat) (d : Dev) : Dev :=
  if d.get Reg.ING_HOSTLIM.RATE ≤ d.ing.hostCnt then hostDrop d
  else ingDeliver (d.get Reg.ING_RXH.HOST_RING) f.frame.raw (rxExt f reason 0)
    (d.modIng fun x => { x with hostCnt := x.hostCnt + 1 })

def unsup (d : Dev) : Dev := d.sat Reg.ING_CNT_UNSUP.N

/-- A row of Table ING-2 that goes to the host when a field says so. -/
def rowOther (on : Field) (f : InFrame) (row : Nat) (d : Dev) : Dev := if d.on on then toHostRing f row d else unsup d

/-- No valid entry has the frame's key (R180). -/
def unknownFrame (f : InFrame) (d : Dev) : Dev :=
  let d1 := d.sat Reg.ING_CNT_UNKNOWN.N
  if d1.on Reg.ING_CTRL.UNK_HOST then toHostRing f 11 d1 else d1

/-! ## Sources: status, discards, binding (R181, R182, R197, R199, R210) -/

def srcState (d : Dev) (s : Nat) : Nat := d.getN Reg.T_SRCSTAT.STATE s

/-- A block of source s is discarded for a reason (Table ING-15). -/
def srcDrop (s reason : Nat) (d : Dev) : Dev := (d.sat Reg.T_SRCSTAT.DROP s).setN Reg.T_SRCSTAT.LAST_REASON s reason

/-- The source goes to QUARANTINE (R197). -/
def quarantine (t : Time) (s : Nat) (d : Dev) : Dev := settle t ((d.setN Reg.T_SRCSTAT.STATE s 3).cause intIng 1 s 0)

/-- A block does not fit its entry (R199). -/
def misfit (t : Time) (s : Nat) (d : Dev) : Dev :=
  quarantine t s (srcDrop s stMalformed (d.sat Reg.ING_CNT_MALFORMED.N))

/-- The first valid entry of a type with a key. -/
def findSource (d : Dev) (p : Nat → Bool) : Option Nat := (List.range 512).find? fun s => d.onN Reg.T_SRC.VALID s && p s

/-- The source of block i of an IDCODE. -/
def c37Source (d : Dev) (idcode i : Nat) : Option Nat :=
  findSource d fun s => srcType d s == 1 && d.getN Reg.T_SRC.IDCODE s == idcode && d.getN Reg.T_SRC.PMU_INDEX s == i

/-- The sources of an IDCODE, from block 0 on without a gap (R667). -/
def c37Sources (d : Dev) (idcode : Nat) : Nat → Nat → List Nat
  | 0, _ => []
  | fuel + 1, i => match c37Source d idcode i with
    | some s => s :: c37Sources d idcode fuel (i + 1)
    | none => []

/-- PORT of Table ING-3. -/
def portFits (p input : Nat) : Bool := p == 31 || p == input

/-- The sender of a frame: source IP address and UDP source port. -/
def senderOf (f : InFrame) : Nat × Nat := match f.frame.body with
  | .ip p => (p.src, p.sport)
  | _ => (0, 0)

/-- The checks of R181. -/
def bindOk (d : Dev) (s : Nat) (f : InFrame) : Bool :=
  let (ip, sport) := senderOf f
  let mac := d.getN Reg.T_SRC.MAC_HI s * 2 ^ 32 + d.getN Reg.T_SRC.MAC_LO s
  let addr := ((d.getN Reg.T_SRC.IP0 s * 2 ^ 32 + d.getN Reg.T_SRC.IP1 s) * 2 ^ 32 + d.getN Reg.T_SRC.IP2 s) * 2 ^ 32 +
    d.getN Reg.T_SRC.IP3 s
  let u := d.getN Reg.T_SRC.UDP_SRC s
  portFits (d.getN Reg.T_SRC.PORT s) f.input && (!d.onN Reg.T_SRC.MAC_CHK s || mac == f.frame.srcMac) &&
    (!d.onN Reg.T_SRC.IP_CHK s || addr == ip) && (u == 0 || u == sport)

/-- The rate limit of R182: may one more frame be accepted at this arrival? -/
def rateLimit (s arrQ : Nat) (d : Dev) : Bool × Dev :=
  let lim := d.getN Reg.T_SRC.RLIM s
  if lim = 0 then (true, d)
  else
    let w := (tget d.ing.src s).window.filter fun a => decide (arrQ < a + 400000000)
    if w.length < lim then (true, d.modSrc s fun x => { x with window := w ++ [arrQ] })
    else
      let d1 := srcDrop s stLimit ((d.modSrc s fun x => { x with window := w }).sat Reg.ING_CNT_RATE.N)
      let sec := arrQ / 4000000000 + 1
      (false, if (tget d1.ing.src s).rateLog = sec then d1
        else (d1.modSrc s fun x => { x with rateLog := sec }).event 178 s s 0)

/-! ## Accepting a block (R188, R193 to R195, R198, R205, R206) -/

/-- A block on its way to acceptance: its source, frame time in TAI nanoseconds (R190), instant (second and index on its rate grid),
STAT, FLAGS, message time quality and words. -/
structure Block where
  src : Nat
  time : Nat
  sec : Nat
  idx : Nat
  rate : Nat
  stat : Nat
  flags : Nat
  tq : Nat
  words : List Word32

/-- The instant of a block in TAI nanoseconds, to the nearest. -/
def Block.ns (b : Block) : Nat := instNs (b.sec * b.rate + b.idx) b.rate

/-- The flags that ingest sets itself (Tables ING-7 and ING-14). -/
def Block.ownFlags (b : Block) : Nat := b.flags &&& (flInvalid ||| flTq)

/-- The record on the decoded-field bus (R205, Table ING-7). -/
def blockRecord (t : Time) (f : InFrame) (b : Block) : BusRec :=
  let late : Int := ((f.arrQ : Int) - 4 * (b.time : Nat)) / 4000
  ⟨0, b.src, ⟨b.sec * b.rate + b.idx, b.rate⟩, t.ns,
   [(0, BitVec.ofNat 32 b.stat, false), (1, BitVec.ofNat 32 b.tq, false), (2, BitVec.ofNat 32 b.ownFlags, false),
    (3, BitVec.ofNat 32 (unsig 32 late), false)] ++ (b.words.zipIdx.map fun e => (4 + e.2, e.1, true))⟩

/-- The record of Table ING-14. -/
def alnRingRecord (f : InFrame) (b : Block) : List Byte :=
  let a := f.arrQ / 4
  le 2 b.src ++ le 2 b.stat ++ le 4 a ++ le 2 b.ownFlags ++ le 2 b.words.length ++
    le 4 (a % 1000000000) ++ le 6 (b.time / 1000000000) ++ le 4 (b.time % 1000000000) ++ le 6 (a / 1000000000) ++
    (b.words.map fun w => le 4 w.toNat).flatten

/-- An accepted block goes where GLB_SPLIT.ALIGN says. -/
def blockOut (f : InFrame) (b : Block) (d : Dev) : Dev :=
  match d.get Reg.GLB_SPLIT.ALIGN with
  | 1 => if alignTakes d then d.modAln fun x => { x with
      inq := x.inq ++ [⟨b.src, b.sec, b.idx, b.rate, f.arrQ / 4, b.stat, b.flags, b.words, false⟩] } else d
  | 2 => ingDeliver (d.get Reg.ING_RXH.ALN_RING) (alnRingRecord f b) [] d
  | _ => d

/-- STAT bit 10 of an accepted block (R198). -/
def statBit10 (t : Time) (s stat : Nat) (d : Dev) : Dev :=
  let was := (tget d.ing.src s).bit10
  if stat.testBit 10 then
    let d1 := d.modSrc s fun x => { x with bit10 := true }
    if was || srcState d s == 3 then d1 else (d1.setN Reg.T_SRCSTAT.STATE s 2).cause intIng 1 s 0
  else if was then d.modSrc s fun x => { x with bit10 := false, clearSince := t.loc }
  else d

/-- A block is accepted. -/
def blockAccept (t : Time) (f : InFrame) (b : Block) (d : Dev) : Dev :=
  let s := b.src
  let d1 := (((((d.sat Reg.ING_CNT_ACCEPT.N).wrapInc Reg.T_SRCSTAT.ACCEPT s).setN Reg.T_SRCSTAT.LAST_T s b.ns).setN
    Reg.T_SRCSTAT.LAST_ARR s (f.arrQ / 4)).setN Reg.T_SRCSTAT.LAST_STAT s b.stat)
  let d2 := statBit10 t s b.stat (if srcState d1 s = 0 then d1.setN Reg.T_SRCSTAT.STATE s 1 else d1)
  blockOut f b (capBus (blockRecord t f b) d2)

/-- The frame time is later than the arrival by more than FUT_TOL (R193). -/
def inFuture (d : Dev) (f : InFrame) (b : Block) : Bool :=
  decide ((f.arrQ + d.get Reg.ING_TIME.FUT_TOL * 40000) * max 1 b.rate < (b.sec * b.rate + b.idx) * 4000000000)

/-- A frame from the future is discarded and reported to Roll Call (R193). -/
def futureBlock (f : InFrame) (b : Block) (d : Dev) : Dev :=
  let d1 := (srcDrop b.src stRejected (d.sat Reg.ING_CNT_FUTURE.N)).cause intIng 5 b.src 0
  if alignTakes d1 then d1.modAln fun x => { x with
    inq := x.inq ++ [⟨b.src, b.sec, b.idx, b.rate, f.arrQ / 4, b.stat, b.flags, [], true⟩] } else d1

/-- A block that fits its entry and its grid: the future, the rate limit, acceptance. -/
def blockJudge (t : Time) (f : InFrame) (b : Block) (d : Dev) : Dev :=
  if inFuture d f b then futureBlock f b d
  else match rateLimit b.src f.arrQ d with
    | (true, d1) => blockAccept t f b d1
    | (false, d1) => d1

/-- What comes before a block is looked into: a WORDS of 0, the binding, QUARANTINE. -/
def srcGate (s : Nat) (f : InFrame) (d : Dev) : Bool × Dev :=
  if d.getN Reg.T_SRC.WORDS s = 0 then (false, srcDrop s stSkipped d)
  else if !bindOk d s f then (false, (srcDrop s stRejected (d.sat Reg.ING_CNT_BIND.N)).cause intIng 3 s 0)
  else if srcState d s = 3 then (false, srcDrop s stRejected (d.sat Reg.ING_CNT_CFGMIS.N))
  else (true, d)

/-- The nearest instant of a rate grid to num ÷ den seconds within its second: its index, and whether it lies within GRID_TOL
(R192). -/
def gridIndex (d : Dev) (r num den : Nat) : Nat × Bool :=
  let k := (divEven ((num * r : Nat) : Int) den).toNat
  let off : Int := ((num * r : Nat) : Int) - (k * den : Nat)
  (k, decide (off.natAbs * 1000000 ≤ d.get Reg.ING_TIME.GRID_TOL * r * max 1 den))

/-! ## C37.118 (R178, R179, R186 to R199, R667) -/

def layoutOfSrc (d : Dev) (s : Nat) : CLayout :=
  ⟨d.getN Reg.T_SRC.FORMAT s, d.getN Reg.T_SRC.PHNMR s, d.getN Reg.T_SRC.ANNMR s, d.getN Reg.T_SRC.DGNMR s⟩

def scaleOf (d : Dev) (s k : Nat) : Num := b32.num (d.getN Reg.T_SCALE.S (s * 64 + k))

/-- The TAI second of a SOC (R190, R191); `frac` ÷ `tb` is the fraction. -/
def socSecond (d : Dev) (soc frac tb arrQ : Nat) : Nat :=
  let tai := soc + d.get Reg.TKP_UTC.UTC_OFS
  match twinSecond d tai with
  | none => tai
  | some o =>
    let far (x : Nat) : Nat := (((x * tb + frac) * 4000000000 : Nat) - ((arrQ * tb : Nat) : Int)).natAbs
    if far o < far tai then o else tai

/-- One block of a data frame (R667 to R195). -/
def c37Block (t : Time) (f : InFrame) (b : List Byte) (s : Nat) (blk : List Byte) (d : Dev) : Dev :=
  match srcGate s f d with
  | (false, d1) => d1
  | (true, d1) =>
    let tb := max 1 (d1.getN Reg.T_SRC.TIME_BASE s)
    let r := srcRate d1 s
    let tai := socSecond d1 (cSoc b) (cFrac b) tb f.arrQ
    let (k, near) := gridIndex d1 r (cFrac b) tb
    if !near then srcDrop s stMalformed (d1.sat Reg.ING_CNT_OFFGRID.N)
    else
      let stat := beAt blk 0 2
      let val := stat / 2 ^ 14
      let bad := val == 1 || val == 3 || (val == 2 && d1.on Reg.ING_CTRL.TEST_INVALID)
      let degraded := decide (d1.getN Reg.T_SRC.TQ_MAX s < cTq b) || stat.testBit 13 ||
        decide (d1.getN Reg.T_SRC.UNLK_MAX s < stat / 16 % 4)
      let ws := cConvert (layoutOfSrc d1 s) (if d1.onN Reg.T_SRC.FNOM s then 50 else 60) (scaleOf d1 s) blk
      blockJudge t f ⟨s, tai * 1000000000 + (2 * cFrac b * 1000000000 + tb) / (2 * tb), tai + k / max 1 r, k % max 1 r, r, stat,
        (if bad then flInvalid else 0) ||| (if degraded then flTq else 0), cTq b,
        if bad then List.replicate ws.length wInvalid else ws⟩ d1

/-- A block that does not fit its entry, which is judged against it first as every block is (R181, R197, R199, R667). -/
def c37Short (t : Time) (f : InFrame) (s : Nat) (d : Dev) : Dev :=
  match srcGate s f d with
  | (false, d1) => d1
  | (true, d1) => misfit t s d1

/-- A data frame (R667). -/
def c37Data (t : Time) (f : InFrame) (b : List Byte) (d : Dev) : Dev :=
  let srcs := c37Sources d (cIdcode b) 257 0
  if srcs.isEmpty then unknownFrame f d
  else
    let (blks, rest) := cBlocks (srcs.map (layoutOfSrc d)) (cBody b)
    let d1 := (srcs.zip blks).foldl (fun x e => c37Block t f b e.1 e.2 x) d
    let bad := srcs.drop blks.length
    if !bad.isEmpty then bad.foldl (fun x s => c37Short t f s x) d1
    else if rest.isEmpty then d1 else d1.sat Reg.ING_CNT_UNKNOWN.N

/-- A configuration frame is compared with the entry of one source (R196 to R198). -/
def cfgCompare (t : Time) (tb rate s : Nat) (p : CPmu) (d : Dev) : Dev :=
  if p.layout = layoutOfSrc d s ∧ rate = srcRate d s ∧ tb = d.getN Reg.T_SRC.TIME_BASE s ∧
      p.fnom = d.getN Reg.T_SRC.FNOM s then
    if srcState d s = 2 then d.setN Reg.T_SRCSTAT.STATE s 1 else d
  else quarantine t s d

/-- A frame whose SYNC, version, FRAMESIZE, structure or CHK fails: its sources, where its IDCODE can be read and is bound, count it,
and the Logbook names the first of them (R179, R210, Table LOG-3). -/
def c37Bad (cnt : Field) (code reason : Nat) (b : List Byte) (d : Dev) : Dev :=
  let srcs := if b.length < 6 then [] else c37Sources d (cIdcode b) 257 0
  (srcs.foldl (fun x s => srcDrop s reason x) (d.sat cnt)).event code (srcs.headD 0) (srcs.headD 0xFFFF) 0

/-- The sources of an IDCODE. -/
def c37Bound (d : Dev) (idcode : Nat) : List Nat :=
  (List.range 512).filter fun s => d.onN Reg.T_SRC.VALID s && srcType d s == 1 && d.getN Reg.T_SRC.IDCODE s == idcode

/-- A CFG-3 that comes as several frames is put together: whole, it is `some`. PRESUMED from IEEE C37.118.2: CONT_IDX is 0 in a frame
of its own, counts from 1 in the others, and is 65,535 in the last (R196). -/
def cfgJoin (idcode : Nat) (b : List Byte) (d : Dev) : Option (List Byte) × Dev :=
  let i := beAt b 0 2
  let rest := b.drop 2
  let keep (x : Nat × List Byte) (d : Dev) : Dev := d.modIng fun y => { y with cfg3 := tset y.cfg3 idcode x }
  let (next, have_) := tget d.ing.cfg3 idcode
  if i = 0 then (some b, d)
  else if i = 1 then (none, keep (2, rest) d)
  else if next = 0 then (none, d)
  else if i = 65535 then (some (b.take 2 ++ have_ ++ rest), keep (0, []) d)
  else if i = next then (none, keep (next + 1, have_ ++ rest) d)
  else (none, keep (0, []) d)

/-- A CFG-2 or CFG-3 frame (R180, R181, R196, R197). DEDUCED: the binding is checked for each source of its IDCODE, as for the blocks
of a data frame, and the frame is discarded where none of them passes. -/
def c37Config (t : Time) (f : InFrame) (b : List Byte) (d : Dev) : Dev :=
  let three := cType b == 5
  let (whole, d0) := if three then cfgJoin (cIdcode b) (cBody b) d else (some (cBody b), d)
  let bound := c37Bound d0 (cIdcode b)
  match whole.map fun x => cConfig three x with
  | some none => c37Bad Reg.ING_CNT_MALFORMED.N 176 stMalformed b d0
  | parsed =>
    if bound.isEmpty then unknownFrame f d0
    else
      let d1 := bound.foldl (fun x s => if bindOk d0 s f then x
        else (srcDrop s stRejected (x.sat Reg.ING_CNT_BIND.N)).cause intIng 3 s 0) d0
      let ok := bound.filter fun s => bindOk d0 s f
      if ok.isEmpty then d1
      else toCfgRing f 12 0 (match parsed with
        | some (some (tb, rate, ps)) => ps.zipIdx.foldl (fun x e => match c37Source x (cIdcode b) e.2 with
          | some s => if ok.contains s then cfgCompare t tb rate s e.1 x else x
          | none => x) d1
        | _ => d1)

/-- The destination address of an output's header template. -/
def tmplDst (d : Dev) (n : Nat) : Nat :=
  let hdr := tmplHdr d n
  if tmplV6 d n then beVal (slice (hdr.drop (ethLen hdr)) 24 16)
  else 0xFFFF00000000 + beVal (slice (hdr.drop (ethLen hdr)) 16 4)

/-- A command frame for output n: the output that a CFG_RING record names, if one is due (R251). -/
def outCommand (src cmd n : Nat) (a : Option Nat × Dev) : Option Nat × Dev :=
  let (out, d) := a
  if !d.onN Reg.ALN_OUTn_CFG.CMD_EN n then (some (out.getD n), d)
  else if !d.onN Reg.ALN_OUTn_CFG.CMD_ANY n && src != tmplDst d n then (out, outDrop n d)
  else if cmd = 1 then (out, d.setN Reg.ALN_OUTn_STAT.ON n 0)
  else if cmd = 2 then (out, d.setN Reg.ALN_OUTn_STAT.ON n 1)
  else (some (out.getD n), d)

/-- A command frame (R178, R251). -/
def c37Command (f : InFrame) (b : List Byte) (d : Dev) : Dev :=
  let own := (List.range 32).filter fun n =>
    d.onN Reg.ALN_OUTn_CFG.EN n && d.getN Reg.ALN_OUTn_ID.IDCODE n == cIdcode b
  if own.isEmpty then toCfgRing f 12 0 d
  else match own.foldl (fun a n => outCommand (senderOf f).1 (cCmd b) n a) (none, d) with
    | (some n, d1) => toCfgRing f 13 n d1
    | (none, d1) => d1

/-- The C37.118 parser. -/
def c37Parse (t : Time) (f : InFrame) (b : List Byte) (d : Dev) : Dev :=
  if !cFormed b then c37Bad Reg.ING_CNT_MALFORMED.N 176 stMalformed b d
  else if !cChk b then c37Bad Reg.ING_CNT_BADCHK.N 177 stBadCheck b d
  else match cType b with
    | 0 => c37Data t f b d
    | 3 => c37Config t f b d
    | 5 => c37Config t f b d
    | 4 => c37Command f b d
    | _ => toCfgRing f 12 0 d

/-! ## 90-5: authentication and datasets (R189, R199, R204) -/

/-- Is an SPDU accepted under an entry's AUTH and key slots? `nums` holds the numbers accepted before this frame. -/
def spduCheck (nums : FMap Nat) (auth : Nat) (slots : List Nat) (p : Spdu) (d : Dev) : Bool × Dev :=
  if p.encrypted || p.alg != auth then (false, d)
  else if auth = 0 then (true, d)
  else
    match slots.find? fun s => (d.keySlot s).active.any fun k => k.keyId == p.keyId with
    | none => (false, d)
    | some s =>
      match keyUse engIngest 0 s (authUsage auth) false d with
      | (none, d1) => (false, d1)
      | (some k, d1) =>
        if p.tagKey = some k.material ∧ tget nums k.material < p.num + 1 then
          (true, d1.modIng fun x => { x with spduNum := tset x.spduNum k.material (p.num + 1) })
        else (false, d1)

/-- The check fails. -/
def authFail (inst : Nat) (d : Dev) : Dev := (d.sat Reg.ING_CNT_AUTH.N).cause intIng 4 inst 0

/-- The word of a dataset member (R189). -/
def svMember (d : Dev) (s k : Nat) : SvMember → Word32
  | .f32 v bad => if bad then wInvalid else v
  | .i32 v bad => if bad then wInvalid else to32 (dMul (.ofInt v) (scaleOf d s k))

/-- An R-SV phasor dataset. -/
def datasetParse (t : Time) (f : InFrame) (nums : FMap Nat) (p : Spdu) (appid crc synch ns : Nat) (ms : List SvMember)
    (d : Dev) : Dev :=
  match findSource d fun s => srcType d s == 2 && d.getN Reg.T_SRC.IDCODE s == appid with
  | none => unknownFrame f d
  | some s =>
    match srcGate s f d with
    | (false, d1) => d1
    | (true, d1) =>
      let want := d1.getN Reg.T_SRC.SVID_CRC s
      if want ≠ 0 ∧ want ≠ crc then (srcDrop s stRejected (d1.sat Reg.ING_CNT_BIND.N)).cause intIng 3 s 0
      else match spduCheck nums (d1.getN Reg.T_SRC.AUTH s) [d1.getN Reg.T_SRC.KEY_SLOT s, d1.getN Reg.T_SRC.KEY_SLOT2 s] p d1 with
        | (false, d2) => srcDrop s stAuthFail (authFail s d2)
        | (true, d2) =>
          if ms.length ≠ d2.getN Reg.T_SRC.WORDS s then misfit t s d2
          else
            let r := srcRate d2 s
            let (k, near) := gridIndex d2 r (ns % 1000000000) 1000000000
            if !near then srcDrop s stMalformed (d2.sat Reg.ING_CNT_OFFGRID.N)
            else blockJudge t f ⟨s, ns, ns / 1000000000 + k / max 1 r, k % max 1 r, r, 0, if synch = 0 then flTq else 0, 0,
              ms.zipIdx.map fun e => svMember d2 s e.2 e.1⟩ d2

/-! ## Relay frames (R217, R543) -/

/-- The source of a region's key. -/
def relaySource (d : Dev) (origin : Nat) (b : List Byte) : Option Nat :=
  findSource d fun s => srcType d s == 3 && d.getN Reg.T_SRC.IDCODE s % 512 == leVal (slice b 0 2) % 512 &&
    d.getN Reg.T_SRC.PMU_INDEX s == origin

/-- One region of a relay frame: whether its source is known. -/
def relayRegion (t : Time) (f : InFrame) (origin ns : Nat) (b : List Byte) (d : Dev) : Bool × Dev :=
  let n := leVal (slice b 10 2)
  match relaySource d origin b with
  | none => (false, d)
  | some s =>
    (true, match srcGate s f d with
     | (false, d1) => d1
     | (true, d1) =>
       if n ≠ d1.getN Reg.T_SRC.WORDS s then misfit t s d1
       else
         let r := srcRate d1 s
         let k := (divEven ((ns % 1000000000 * r : Nat) : Int) 1000000000).toNat
         let ws := (List.range n).map fun i => BitVec.ofNat 32 (leVal (slice b (16 + 4 * i) 4))
         blockJudge t f ⟨s, ns, ns / 1000000000 + k / max 1 r, k % max 1 r, r, leVal (slice b 2 2),
           leVal (slice b 8 2) &&& (flMissing ||| flInvalid ||| flParity ||| flTq), 0, ws⟩ d1)

/-- The regions of a relay payload, from its number of regions on, as far as the bytes reach, and whether they fill it exactly. -/
def relaySplit : Nat → List Byte → List (List Byte) × Bool
  | 0, b => ([], b.isEmpty)
  | n + 1, b =>
    let k := 16 + 4 * leVal (slice b 10 2)
    if b.length < k then (if b.length < 2 then [] else [b], false)
    else
      let (r, ok) := relaySplit n (b.drop k)
      (b.take k :: r, ok)

/-- A relay frame; one that its regions do not fill is discarded, and the sources of its regions count it (R210). -/
def relayParse (t : Time) (f : InFrame) (origin : Nat) (payload : List Byte) (d : Dev) : Dev :=
  let ns := leVal (slice payload 0 6) * 1000000000 + leVal (slice payload 6 4)
  if payload.length < 16 then d.sat Reg.ING_CNT_MALFORMED.N
  else
    let (rs, ok) := relaySplit (leVal (slice payload 10 2)) (payload.drop 16)
    if !ok then
      rs.foldl (fun x b => match relaySource x origin b with
        | some s => srcDrop s stMalformed x
        | none => x) (d.sat Reg.ING_CNT_MALFORMED.N)
    else
      let (known, d1) := rs.foldl (fun (a : Bool × Dev) b =>
        let (k, x) := relayRegion t f origin ns b a.2
        (a.1 && k, x)) (true, d)
      if known then d1 else unknownFrame f d1

/-! ## Sampled values (R289 to R293) -/

/-- Instant of an SV sample (R291). -/
def svInst (arrQ smp rate : Nat) : Inst :=
  let s : Int := (((arrQ * rate : Nat) : Int) - (smp * 4000000000 : Nat)) / ((max 1 rate * 4000000000 : Nat) : Int)
  ⟨(s * (rate : Nat) + (smp : Nat)).toNat, max 1 rate⟩

/-- The quality of a channel is invalid or test, so that its sample is tainted; a questionable one is valid (R293). PRESUMED: the
quality word is that of IEC 61850, with validity in bits 1:0, 1 invalid and 3 questionable, and test in bit 11. DESIGN CHOICE: a
validity of 2, which is reserved there, counts as invalid. -/
def svTainted (q : Nat) : Bool := q % 4 == 1 || q % 4 == 2 || q.testBit 11

/-- One ASDU feeds stream v: the bus record and the lanes. -/
def svFeed (t : Time) (f : InFrame) (v : Nat) (a : SvAsdu) (d : Dev) : Dev :=
  let n := d.getN Reg.T_SVSUB.CHANNELS v
  let rate := d.getN Reg.T_SVSUB.RATE v
  if n = 0 ∨ rate = 0 then d
  else
    let i := svInst f.arrQ a.smpCnt rate
    let ss := a.samples.take (min n 24)
    let word (x : SvSample) : Word32 := BitVec.ofNat 32 (unsig 32 x.value)
    let r : BusRec := ⟨1, v, i, t.ns, (70, BitVec.ofNat 32 a.smpCnt, false) :: (ss.zipIdx.flatMap fun e =>
      [(71 + e.2, word e.1, false), (95 + e.2, BitVec.ofNat 32 e.1.quality, false)])⟩
    let base := d.getN Reg.T_SVSUB.LANE_BASE v
    let put (d : Dev) (e : SvSample × Nat) : Dev :=
      if base + e.2 < 512 then
        let smp : LaneSmp := ⟨some v, i, if svTainted e.1.quality then 0 else e.1.value,
          if svTainted e.1.quality then some wInvalid else none, a.smpSynch == 0,
          if svTainted e.1.quality then wInvalid else word e.1⟩
        d.modLane (base + e.2) fun l => { l with inq := l.inq ++ [smp], lastLoc := t.loc }
      else d
    let d1 := capBus r d
    if d1.up islRaw then ss.zipIdx.foldl put d1 else d1

/-- Streams whose subscription names a frame's ASDU. -/
def svStreams (d : Dev) (f : InFrame) (appid : Nat) (a : SvAsdu) : List Nat :=
  (List.range 64).filter fun v =>
    let crc := d.getN Reg.T_SVSUB.SVID_CRC v
    d.onN Reg.T_SVSUB.VALID v && d.getN Reg.T_SVSUB.APPID v == appid && portFits (d.getN Reg.T_SVSUB.PORT v) f.input &&
      d.getN Reg.T_SVSUB.DST_HI v * 2 ^ 32 + d.getN Reg.T_SVSUB.DST_LO v == f.frame.dst && (crc == 0 || crc == a.svidCrc)

/-- An SV frame: each ASDU to its streams; `check` is the SPDU of R-SV. A frame that fails it for any of them is counted once
(R204). -/
def svParse (t : Time) (f : InFrame) (appid : Nat) (as : List SvAsdu) (check : Nat → Dev → Bool × Dev) (d : Dev) : Dev :=
  let jobs := as.flatMap fun a => (svStreams d f appid a).map fun v => (v, a)
  if jobs.isEmpty then d.sat Reg.ING_CNT_UNKNOWN.N
  else
    let (ok, d1) := jobs.foldl (fun (a : Bool × Dev) j => match check j.1 a.2 with
      | (true, y) => (a.1, svFeed t f j.1 j.2 y)
      | (false, y) => (false, y)) (true, d)
    if ok then d1 else authFail 0 d1

/-! ## GOOSE (R200 to R203) -/

/-- The members a subscription maps: member index, target bit, width. -/
def gooseMap (d : Dev) (g : Nat) : List (Nat × Nat × Bool) :=
  ((List.range 16).map fun j =>
    d.getN (if j % 2 = 0 then Reg.T_GSUBM.LOW else Reg.T_GSUBM.HIGH) (g * 8 + j / 2)).filterMap fun m =>
      if m.testBit 15 then some (m % 64, m / 64 % 16, m.testBit 10) else none

/-- A word with a field of w bits replaced. -/
def putBits (w : Nat) (lo n v : Nat) : Nat := w - (w / 2 ^ lo % 2 ^ n) * 2 ^ lo + (v % 2 ^ n) * 2 ^ lo

/-- The target word with the mapped members of a frame. -/
def gooseWord (d : Dev) (g : Nat) (data : List Nat) (w : Word32) : Word32 :=
  BitVec.ofNat 32 ((gooseMap d g).foldl (fun x m =>
    match data[m.1]? with
    | some v => if m.2.2 then putBits x m.2.1 2 v else putBits x m.2.1 1 (b2n (v != 0))
    | none => x) w.toNat)

/-- Write the target word of a subscription; a change is stamped. -/
def gooseTarget (t : Time) (g : Nat) (w : Word32) (d : Dev) : Dev :=
  let s := d.getN Reg.T_GSUB.SRC g
  let k := s * 64 + d.getN Reg.T_GSUB.WORD g
  if fmAt (fun _ => wMissing) d.ing.words k = w then d
  else d.modIng fun x => { x with words := fmPut (fun _ => wMissing) x.words k w, changed := tset x.changed s t.st32 }

def gooseSt (d : Dev) (g : Nat) : GooseSt := tget d.ing.goose g
def modGoose (g : Nat) (f : GooseSt → GooseSt) (d : Dev) : Dev := d.modIng fun x => { x with goose := tmod x.goose g f }

/-- A frame that subscription g accepts (R201, R203). -/
def gooseTake (t : Time) (f : InFrame) (g : Nat) (m : Goose) (d : Dev) : Dev :=
  let st := gooseSt d g
  let live (d : Dev) : Dev := modGoose g (fun x => { x with talEnd := t.loc + m.tal * 1000000, expired := false }) d
  let cur := fmAt (fun _ => wMissing) d.ing.words (d.getN Reg.T_GSUB.SRC g * 64 + d.getN Reg.T_GSUB.WORD g)
  if !st.heard || st.stNum != m.stNum then
    let w := gooseWord d g m.data (if cur = wMissing then st.state else cur)
    let d1 := live (modGoose g (fun x => { x with heard := true, stNum := m.stNum, sqNum := m.sqNum, state := w })
      (gooseTarget t g w d))
    capBus ⟨2, g, qInst f.arrQ, t.ns, [(68, BitVec.ofNat 32 m.stNum, false), (69, w, false)]⟩ d1
  else if m.sqNum ≤ st.sqNum then d
  else
    let d1 := live (modGoose g (fun x => { x with sqNum := m.sqNum }) d)
    if st.expired then gooseTarget t g st.state d1 else d1

/-- A GOOSE message; `check` is the SPDU of R-GOOSE (R200). A frame that fails it for any subscription is counted once, for the first
(R204). -/
def gooseParse (t : Time) (f : InFrame) (routed : Bool) (m : Goose) (check : Nat → Dev → Bool × Dev) (d : Dev) : Dev :=
  let subs := (List.range 128).filter fun g =>
    let crc := d.getN Reg.T_GSUB.GOCB_CRC g
    d.onN Reg.T_GSUB.VALID g && d.onN Reg.T_GSUB.ROUTED g == routed && d.getN Reg.T_GSUB.APPID g == m.appid &&
      portFits (d.getN Reg.T_GSUB.PORT g) f.input && (crc == 0 || crc == m.gocbCrc)
  if subs.isEmpty then d.sat Reg.ING_CNT_MALFORMED.N
  else
    let (bad, d1) := subs.foldl (fun (a : Option Nat × Dev) g =>
      let x := a.2
      if x.getN Reg.T_GSUB.CONFREV g ≠ m.confRev then (a.1, x.sat Reg.ING_CNT_CFGMIS.N)
      else if m.ndsCom || (m.sim && !x.on Reg.ING_CTRL.SIM_ACCEPT) then (a.1, x.sat Reg.ING_CNT_MALFORMED.N)
      else match check g x with
        | (true, y) => (a.1, gooseTake t f g m y)
        | (false, y) => (some (a.1.getD (y.getN Reg.T_GSUB.SRC g)), y)) (none, d)
    match bad with
    | some s => authFail s d1
    | none => d1

/-- timeAllowedToLive has passed (R203). -/
def gooseTalExpire (t : Time) (g : Nat) (d : Dev) : Dev :=
  let st := gooseSt d g
  if d.onN Reg.T_GSUB.VALID g && st.heard && !st.expired && decide (st.talEnd ≤ t.loc) then
    (gooseTarget t g wMissing (modGoose g (fun x => { x with expired := true }) d)).cause intIng 6
      (d.getN Reg.T_GSUB.SRC g) 0
  else d

def execGooseTalExpire (sub : Nat) (s : State) : Host.Outcome State Fault Refusal :=
  run s fun t d => if sub < 128 ∧ d.up islIng then gooseTalExpire t sub d else d

/-! ## Classification (R175, R176, Table ING-2) -/

/-- The body of an SPDU. -/
def spduParse (t : Time) (f : InFrame) (p : Spdu) (d : Dev) : Dev :=
  let nums := d.ing.spduNum
  match p.body with
  | .dataset appid crc synch ns ms => datasetParse t f nums p appid crc synch ns ms d
  | .sv appid as => svParse t f appid as (fun v x =>
      spduCheck nums (x.getN Reg.T_SVSUB.AUTH v) [x.getN Reg.T_SVSUB.KEY_SLOT v] p x) d
  | .goose g => gooseParse t f true g (fun k x =>
      spduCheck nums (x.getN Reg.T_GSUB.AUTH k) [x.getN Reg.T_GSUB.KEY_SLOT k] p x) d

def malformed (d : Dev) : Dev := d.sat Reg.ING_CNT_MALFORMED.N

/-- Rows 5 to 10 for an IP packet. -/
def ipParse (t : Time) (f : InFrame) (p : IpPacket) (d : Dev) : Dev :=
  let is (port : Nat) : Bool := p.proto == 17 && port != 0 && p.dport == port
  let sumOk := if p.sumZero then !p.v6 else p.sumOk
  if p.fragOrOpts then rowOther Reg.ING_CTRL.FRAG_HOST f 5 d
  else if p.proto = 6 then rowOther Reg.ING_CTRL.TCP_HOST f 6 d
  else if is (d.get Reg.ING_UDP.C37_PORT) then
    if !sumOk then malformed d
    else match p.body with
      | .bytes b => c37Parse t f b d
      | _ => malformed d
  else if is (d.get Reg.ING_UDP.R905_PORT) then
    if !sumOk then malformed d
    else match p.body with
      | .spdu s => spduParse t f s d
      | _ => malformed d
  else if is (d.get Reg.DXL_UDP.PORT) then
    if !sumOk then malformed d
    else match p.body with
      | .dax x => dxDatagram t f.input p.src f.arrQ x d
      | .bytes b => dxDatagram t f.input p.src f.arrQ ⟨b, none, true, 0⟩ d
      | .spdu _ => malformed d
  else rowOther Reg.ING_CTRL.UNK_HOST f 10 d

/-- A frame by the first matching row of Table ING-2. -/
def classify (t : Time) (f : InFrame) (d : Dev) : Dev :=
  if 2 ≤ f.frame.vlans.length then rowOther Reg.ING_CTRL.MULTITAG_HOST f 1 d
  else match f.frame.body with
    | .ptp _ => d
    | .sv appid as => svParse t f appid as (fun _ x => (true, x)) d
    | .goose g => gooseParse t f false g (fun _ x => (true, x)) d
    | .ip p => ipParse t f p d
    | .relay origin payload => relayParse t f origin payload d
    | _ => rowOther Reg.ING_CTRL.UNK_HOST f 10 d

/-- The frame that entered the buffer first is parsed. -/
def ingestParse (t : Time) (d0 : Dev) : Dev :=
  let d := secondRoll t d0
  match d.ing.buf with
  | [] => d
  | f :: rest =>
    let d1 := showFill (d.modIng fun x => { x with buf := rest, bytes := x.bytes - f.frame.len, fps := x.fps + 1 })
    if d1.on Reg.ING_CTRL.EN then classify t f d1 else unsup d1

def execIngestParse (s : State) : Host.Outcome State Fault Refusal :=
  run s fun t d => if d.up islIng then ingestParse t d else d

/-! ## CFG_PEND and the source table (R183 to R185, R198) -/

/-- STAT bit 10 has been clear for 60 s (R198). -/
def cfgPendTimeout (t : Time) (s : Nat) (d : Dev) : Dev :=
  let x := tget d.ing.src s
  if srcState d s = 2 ∧ !x.bit10 ∧ x.clearSince + 60000000000 ≤ t.loc then d.setN Reg.T_SRCSTAT.STATE s 1 else d

def execCfgPendTimeout (src : Nat) (s : State) : Host.Outcome State Fault Refusal :=
  run s fun t d => if src < 512 ∧ d.up islIng then cfgPendTimeout t src d else d

/-- The key of an entry; TYPE 4 and TYPE 5 have none. -/
def srcKey (d : Dev) (s : Nat) : Option (Nat × Nat × Nat) :=
  let id := d.getN Reg.T_SRC.IDCODE s
  match srcType d s with
  | 1 => some (1, id, d.getN Reg.T_SRC.PMU_INDEX s)
  | 2 => some (2, id, 0)
  | 3 => some (3, id % 512, d.getN Reg.T_SRC.PMU_INDEX s)
  | _ => none

/-- May the entry be made valid (R183)? -/
def srcOk (d : Dev) (s : Nat) : Bool :=
  let ty := srcType d s
  let port := d.getN Reg.T_SRC.PORT s
  let l := layoutOfSrc d s
  let words := d.getN Reg.T_SRC.WORDS s
  decide (1 ≤ ty) && decide (ty ≤ 5) && decide (d.getN Reg.T_SRC.RATE s ≤ 11) && decide (words ≤ 64) &&
    (decide (port ≤ 20) || port == 31) && decide (l.an ≤ 62) && decide (l.dg ≤ 62) &&
    (ty != 1 || (decide (d.getN Reg.T_SRC.PMU_INDEX s ≤ 255) && d.getN Reg.T_SRC.TIME_BASE s != 0 &&
      words == 2 * l.ph + 2 + l.an + l.dg)) &&
    (match srcKey d s with
     | some k => (findSource d fun o => o != s && srcKey d o == some k).isNone
     | none => true)

def ingRej (s : Nat) (d : Dev) : Dev := d.cause intIng 0 s 0

/-- The status of a source is cleared (R185). -/
def srcClear (s : Nat) (d : Dev) : Dev :=
  let d1 := (List.range 5).foldl (fun x w => x.putWord (0x208000 + s * 32 + w * 4) 0) d
  d1.modIng fun x => { x with src := tset x.src s default }

/-- A write to the source table (R183 to R185). -/
def writeSourceEntry (t : Time) (a : Nat) (v : Word32) (d : Dev) : Dev :=
  let s := (a - 0x200000) / 64
  let w := (a - 0x200000) / 4 % 16
  if d.onN Reg.T_SRC.VALID s then
    if w ≠ 0 ∨ bitOf v 0 then ingRej s d else alnSource t s (d.putWord a v)
  else if w ≠ 0 then d.putWord a v
  else
    let d1 := d.putUnvalid a v
    if !bitOf v 0 then d1
    else if !srcOk d1 s then ingRej s d1
    else alnSource t s (srcClear s (d1.setN Reg.T_SRC.VALID s 1))

def execWriteSourceEntry (addr : Nat) (v : Word32) (s : State) : Host.Outcome State Fault Refusal :=
  run s fun t d => if 0x200000 ≤ addr ∧ addr < 0x208000 then
    onWrite addr (writeSourceEntry t (addr / 4 * 4) v) d else d

/-! ## Resets and Doze (R208, R209) -/

/-- The blocks on their way to Roll Call whose source is local (TYPE 4), or those of ingest, are lost with their island
(R23). -/
def blocksLost (loc : Bool) (d : Dev) : Dev :=
  d.modAln fun x => { x with inq := x.inq.filter fun b => (srcType d b.src == 4) != loc }

/-- ING enters reset or Doze. -/
def ingReset (d0 : Dev) : Dev :=
  let d := blocksLost false d0
  let d1 := d.ing.injq.foldl (fun x j => endStarted j.ring j.idx stAborted 0 (txExt none 20) none x) d
  let d2 := (List.range 20).foldl (fun x i => x.modPort i fun p =>
    { p with rxFill := p.rxFill - ((tget d.ing.inq i).map fun f => f.frame.len).sum }) d1
  { d2 with ing := default }

end Sys2Proof.Machine
end

