-- ==== Sys2Proof/Machine/LogWriter.lean ====
section
/-!
DEFINITION. The Logbook: its writer, its scrub, its reader, the mirror and the flush on a power-fail warning (R570 to R589,
R660, R661).
-/

namespace Sys2Proof.Machine

open Sys2Proof

/-! ## Events and buckets -/

/-- An event that a condition outside the modelled blocks raises (R574). -/
def execLogEvent (code inst det det2 : Nat) (s : State) : Host.Outcome State Fault Refusal :=
  run s fun _ d => if d.pwr.released then d.event code inst det det2 else d

/-- A code's bucket is brought up to date (R574); judging an event does the same before it takes a token. With RATE 0 the
limit is bypassed and no token counts. -/
def logTokenRefill (t : Time) (code : Nat) (lb : Logbook) (d : Dev) : Logbook :=
  let rate := d.getN Reg.T_LIMIT.RATE code
  if rate = 0 then lb else { lb with buckets := tmod lb.buckets code (bucketRefill rate (burstOf code d) t.loc) }

def execLogTokenRefill (code : Nat) (s : State) : Host.Outcome State Fault Refusal :=
  runLog s fun t lb d => if code < 1024 then (logTokenRefill t code lb d, d) else (lb, d)

/-! ## Regions (R573, R578, R579) -/

def logRegions : Nat := 8192

/-- Bytes of an event's record (R571). -/
def logRecLen (e : LogEv) : Nat := if e.code = 304 then 48 else 32

/-- The payload words of a record (R571). -/
def logRecPayload (e : LogEv) : List Word32 :=
  if e.code = 304 then e.payload
  else [BitVec.ofNat 32 e.inst, BitVec.ofNat 32 e.det, BitVec.ofNat 32 e.det2, BitVec.ofNat 32 (e.det2 / 2 ^ 32)]

/-- The first region at or after r that is not fenced; the number of regions when there is none. -/
def nextRegion (fenced : List Nat) : Nat → Nat → Nat
  | 0, r => r
  | fuel + 1, r => if r < logRegions ∧ fenced.contains r then nextRegion fenced fuel (r + 1) else r

/-- The last region that is not fenced. -/
def lastRegion (fenced : List Nat) : Nat → Nat
  | 0 => 0
  | r + 1 => if fenced.contains r then lastRegion fenced r else r

/-- Where a record of this length goes: the region and offset (R573). -/
def logRecPlace (lb : Logbook) (len : Nat) : Nat × Nat :=
  if !lb.fenced.contains lb.region && decide (lb.ofs + len ≤ 256) then (lb.region, lb.ofs)
  else (nextRegion lb.fenced logRegions (if lb.fenced.contains lb.region then lb.region else lb.region + 1), 0)

/-- LOG_USED counts PAD and fenced regions. -/
def logUsed (lb : Logbook) (d : Dev) : Dev := d.set Reg.LOG_USED.BYTES (lb.region * 256 + lb.ofs)

/-- A region is fenced: it takes no further record, and LOG_HEALTH shows it (R579). -/
def fenceRegion (r : Nat) (lb : Logbook) (d : Dev) : Logbook × Dev :=
  if lb.fenced.contains r then (lb, d)
  else
    let n := lb.fenced.length + 1
    let first := if lb.fenced.isEmpty then r else min r (d.get Reg.LOG_HEALTH1.FIRST)
    let last := if lb.fenced.isEmpty then r else max r (d.get Reg.LOG_HEALTH1.LAST)
    ({ lb with fenced := r :: lb.fenced },
      (((d.set Reg.LOG_HEALTH0.FENCED n).set Reg.LOG_HEALTH1.FIRST first).set Reg.LOG_HEALTH1.LAST last).set
        Reg.LOG_HEALTH0.STATE (max 1 (d.get Reg.LOG_HEALTH0.STATE)))

/-! ## Writing -/

/-- A record that will never be written is dropped and counted (R578, R580). -/
def logLose (s : Logbook × Dev) (x : LogItem) : Logbook × Dev :=
  let r := logDrop x.ev.code s.1 s.2
  (r.1, r.2.sat Reg.LOG_CNT_FULL.N)

/-- No further record is written: what the intake holds is lost. -/
def logClose (lb : Logbook) (d : Dev) : Logbook × Dev :=
  lb.intake.foldl logLose ({ lb with intake := [] }, d)

/-- Append a record whose read-back has passed (R571, R572, R577). -/
def logAppend (x : LogItem) (p : Nat × Nat) (lb : Logbook) (d : Dev) : Logbook × Dev :=
  let seq := lb.seq + 1
  let rec' : LogRec :=
    ⟨seq, x.ev, min 0xFFFF (tget lb.pend x.ev.code), x.t, decide (0 < lb.attempts), p.1, p.2⟩
  let lb1 := { lb with
    records := lb.records ++ [rec'], seq := seq, attempts := 0, region := p.1, ofs := p.2 + logRecLen x.ev,
    pend := tset lb.pend x.ev.code 0 }
  (lb1, logUsed lb1 (d.set Reg.LOG_SEQ.SEQ seq))

/-- A write whose read-back fails (R579, R580). -/
def logWriteBad (r : Nat) (lb : Logbook) (d : Dev) : Logbook × Dev :=
  let (lb1, d1) := fenceRegion r lb (d.sat Reg.LOG_HEALTH2.WFAIL)
  let d2 := (d1.cause intLog 1 0 0).event 528 0 r 0
  if lb1.attempts + 1 < 4 then ({ lb1 with attempts := lb1.attempts + 1 }, d2)
  else logClose { lb1 with attempts := 0, failed := true } ((d2.set Reg.LOG_HEALTH0.STATE 2).cause intLog 2 0 0)

/-- The writer takes the event at the head of the intake; `good` says whether its record reads back (R571 to R573, R578 to
R580). The last free region is kept for the record of code 530; where fences leave it no room at all, the Logbook is full
without that record. -/
def logRecordWrite (t : Time) (good : Bool) (lb : Logbook) (d : Dev) : Logbook × Dev :=
  match lb.intake with
  | [] => (lb, d)
  | x :: rest =>
    if lb.full || lb.failed then (lb, d)
    else
      let p := logRecPlace lb (logRecLen x.ev)
      let lastFree := lastRegion lb.fenced logRegions
      if lastFree ≤ p.1 then
        let q := logRecPlace lb 32
        let full : LogItem := ⟨⟨530, 0, 0, 0, []⟩, t.ns⟩
        let (lb1, d1) :=
          if q.1 < lastFree then logAppend full (lastFree, 0) { lb with attempts := 0 } d
          else if q.1 = lastFree then logAppend full q { lb with attempts := 0 } d
          else ({ lb with attempts := 0 }, d)
        logClose { lb1 with full := true } ((d1.set Reg.LOG_STATUS.FULL 1).cause intLog 0 0 0)
      else if good then logAppend x p { lb with intake := rest } d
      else logWriteBad p.1 lb d

def execLogRecordWrite (good : Bool) (s : State) : Host.Outcome State Fault Refusal :=
  runLog s fun t lb d => logRecordWrite t good lb d

/-! ## Parity of the memory (R581, R582) -/

/-- Words of the Logbook memory. -/
def logWords : Nat := 524288

/-- A lasting fault is found: counted, event 528 of kind 1 raised (R581), and the region fenced (R582). -/
def logLasting (w : Nat) (lb : Logbook) (d : Dev) : Logbook × Dev :=
  let lb1 := if lb.lasting.contains w then lb else { lb with lasting := w :: lb.lasting }
  let d1 := ((d.sat Reg.LOG_HEALTH2.LASTING).cause intLog 1 0 0).event 528 0 (w / 64) 1
  fenceRegion (w / 64) lb1 d1

/-- The scrub reads its next word (R582); `bad` is a parity error, which is read again. -/
def logScrub (bad : Bool) (lb : Logbook) : Logbook :=
  { lb with
    scrub := (lb.scrub + 1) % logWords
    again := if bad && !lb.again.contains lb.scrub then lb.again ++ [lb.scrub] else lb.again }

def execLogScrub (bad : Bool) (s : State) : Host.Outcome State Fault Refusal :=
  runLog s fun _ lb d => if d.pwr.released then (logScrub bad lb, d) else (lb, d)

/-- The second read of the oldest word that failed parity: transient, or lasting (R581). -/
def logReread (bad : Bool) (lb : Logbook) (d : Dev) : Logbook × Dev :=
  match lb.again with
  | [] => (lb, d)
  | w :: rest =>
    let lb1 := { lb with again := rest }
    if bad then logLasting w lb1 d else (lb1, d.sat Reg.LOG_HEALTH0.TRANS)

def execLogReread (bad : Bool) (s : State) : Host.Outcome State Fault Refusal :=
  runLog s fun _ lb d => logReread bad lb d

/-! ## The reader (R583 to R587) -/

/-- The sixteen header bytes of a record (Table LOG-4). -/
def logRecHeader (r : LogRec) (parity : Bool) : List Byte :=
  le 4 r.seq ++ le 2 (r.ev.code + 1024 * (logRecLen r.ev / 16 - 1) + 16384 * b2n r.rewritten + 32768 * b2n parity) ++
    le 2 r.drops ++ le 8 r.t

/-- The words of a record's place with a lasting fault, counted from its first word. -/
def logRecFaults (lb : Logbook) (r : LogRec) : List Nat :=
  let w := (r.region * 256 + r.ofs) / 4
  (List.range (logRecLen r.ev / 4)).filter fun i => lb.lasting.contains (w + i)

/-- Is the record lost to a reader? A lasting fault in bytes 0 to 7 of its header or of an earlier one of its region hides
the rest of the region (R581). -/
def logRecHidden (lb : Logbook) (r : LogRec) : Bool :=
  lb.records.any fun x =>
    x.region == r.region && decide (x.ofs ≤ r.ofs) && (logRecFaults lb x).any fun i => decide (i < 2)

/-- A record as it is delivered: a word with a lasting fault reads 0x7FC0_0002, and PARITY says so (R581). -/
def logRecBytes (lb : Logbook) (r : LogRec) : List Byte :=
  let bad := logRecFaults lb r
  let raw := logRecHeader r (!bad.isEmpty) ++ (logRecPayload r.ev).flatMap fun w => le 4 w.toNat
  (List.range (logRecLen r.ev / 4)).flatMap fun i =>
    if bad.contains i then le 4 wParity.toNat else slice raw (4 * i) 4

/-- A faulty word that a delivery reads is counted and raises event 528 each time (R581). -/
def logRecReadFaults (lb : Logbook) (r : LogRec) (s : Logbook × Dev) : Logbook × Dev :=
  (logRecFaults lb r).foldl (fun s i => logLasting ((r.region * 256 + r.ofs) / 4 + i) s.1 s.2) s

def Dev.modRdr (d : Dev) (f : LogReader → LogReader) : Dev := { d with rdr := f d.rdr }

/-- The reader completes the buffer it has packed (R583): first and last SEQ in bytes 16 to 23. -/
def readerComplete (lb : Logbook) (d : Dev) : Dev :=
  match d.rdr.buf with
  | [] => d
  | r :: rest =>
    let last := (rest.getLast?.getD r).seq
    let bytes := (r :: rest).flatMap (logRecBytes lb)
    (deliver d.rdr.ring bytes (le 4 r.seq ++ le 4 last) (d.modRdr fun x => { x with buf := [] })).2

/-- A write of LOG_RD_CTRL with GO (R583, R586): END is latched and the reader starts, or STATUS reads REJECTED. -/
def logReadGo (lb : Logbook) (v : Word32) (d : Dev) : Dev :=
  let d0 := (d.set Reg.LOG_RD_CTRL.RING v.toNat).set Reg.LOG_RD_CTRL.FOLLOW (bits v.toNat 8 1)
  if !bitOf v 9 ∨ d0.on Reg.LOG_RD_STAT.RUN then d0
  else
    let start := d0.get Reg.LOG_RD_START.SEQ
    let ring := d0.get Reg.LOG_RD_CTRL.RING
    if start = 0 ∨ lb.seq + 1 < start ∨ !ringRuns d0 ring ∨ (d0.ring ring).cls ≠ clsLogs then
      d0.set Reg.LOG_RD_STAT.STATUS stRejected
    else
      let follow := d0.on Reg.LOG_RD_CTRL.FOLLOW
      let d1 := (((d0.set Reg.LOG_RD_STAT.STATUS stOk).setB Reg.LOG_RD_STAT.RUN 0 (follow || decide (start ≤ lb.seq))).set
        Reg.LOG_RD_NEXT.SEQ start)
      { d1 with rdr := ⟨start, lb.seq, follow, ring, false, [], 0⟩ }

def execLogReadGo (v : Word32) (s : State) : Host.Outcome State Fault Refusal :=
  runLog s fun _ lb d => (lb, if d.pwr.released then logReadGo lb v d else d)

/-- The next record the reader can deliver. -/
def readerNext (lb : Logbook) (r : LogReader) : Option LogRec :=
  lb.records.find? fun x => decide (r.next ≤ x.seq) && (r.follow || decide (x.seq ≤ r.stop)) && !logRecHidden lb x

/-- Pack records into the buffer at the head of the ring until it completes or no record is left (R583 to R585). -/
def readerPack (t : Time) : Nat → Logbook → Dev → Logbook × Dev
  | 0, lb, d => (lb, d)
  | fuel + 1, lb, d =>
    let r := d.rdr
    match readerNext lb r with
    | none =>
      -- the rest up to END is lost to a skipped region (R581): the buffer completes as if END had been delivered
      if r.follow then (lb, d)
      else (lb, readerStop (readerComplete lb d))
    | some x =>
      if !ringFree d r.ring then (lb, d)
      else
        let room := match (d.ring r.ring).posted with | b :: _ => b.len | [] => 0
        let used := (r.buf.map fun y => logRecLen y.ev).sum
        if room < used + logRecLen x.ev then
          if r.buf.isEmpty then
            -- the buffer is smaller than the record: it ends with NO_SPACE, and the record waits for the next
            (lb, (deliver r.ring (logRecBytes lb x) [] d).2)
          else (lb, readerComplete lb d)
        else
          let s1 := logRecReadFaults lb x (lb, d)
          let d1 := s1.2.modRdr fun y =>
            { y with
              next := x.seq + 1, buf := y.buf ++ [x], since := if y.buf.isEmpty then t.loc else y.since
              caught := y.caught || decide (x.seq = y.stop) }
          if x.seq = r.stop then
            let d2 := readerComplete s1.1 d1
            (s1.1, if r.follow then d2 else readerStop d2)
          else readerPack t fuel s1.1 d1

/-- The reader packs records into the next free buffer of its ring (R583 to R585). -/
def logReadDeliver (t : Time) (lb : Logbook) (d : Dev) : Logbook × Dev :=
  if d.on Reg.LOG_RD_STAT.RUN then readerPack t (lb.records.length + 1) lb d else (lb, d)

def execLogReadDeliver (s : State) : Host.Outcome State Fault Refusal := runLog s logReadDeliver

/-- A buffer completes 1 ms after its first record (R583, R584). -/
def logBufferTimeout (t : Time) (lb : Logbook) (d : Dev) : Dev :=
  if d.on Reg.LOG_RD_STAT.RUN ∧ !d.rdr.buf.isEmpty ∧ 1000000 ≤ t.loc - d.rdr.since then readerComplete lb d else d

def execLogBufferTimeout (s : State) : Host.Outcome State Fault Refusal :=
  runLog s fun t lb d => (lb, logBufferTimeout t lb d)

/-- A write of LOG_RD_CTRL with STOP: a partly filled buffer completes with the whole records it holds, and the reader stops
(R587). -/
def logReadStop (lb : Logbook) (v : Word32) (d : Dev) : Dev :=
  let d0 := (d.set Reg.LOG_RD_CTRL.RING v.toNat).set Reg.LOG_RD_CTRL.FOLLOW (bits v.toNat 8 1)
  if bitOf v 10 ∧ d0.on Reg.LOG_RD_STAT.RUN then readerStop (readerComplete lb d0) else d0

def execLogReadStop (v : Word32) (s : State) : Host.Outcome State Fault Refusal :=
  runLog s fun _ lb d => (lb, if d.pwr.released then logReadStop lb v d else d)

/-! ## Mirror and flush (R588, R589, R660, R661) -/

/-- The newest records that fit in so many bytes, in SEQ order. -/
def newestFit (bytes : Nat) (rs : List LogRec) : List LogRec :=
  (rs.reverse.foldl (fun (acc : List LogRec × Nat × Bool) r =>
    let n := acc.2.1 + logRecLen r.ev
    if acc.2.2 && decide (n ≤ bytes) then (r :: acc.1, n, true) else (acc.1, acc.2.1, false)) ([], 0, true)).1

/-- Length of the mirror area. -/
def mirrorBytes (d : Dev) : Nat := setAt ((setUsed d.pwr).getD setDefault) 44 4

/-- Append records to the circular mirror: the oldest make room. -/
def mirrorAppend (rs : List LogRec) (d : Dev) : Dev :=
  { d with flush := { d.flush with mirror := newestFit (mirrorBytes d) (d.flush.mirror ++ rs) } }

/-- Xaorn writes the next record to the mirror (R660). -/
def mirrorRecord (lb : Logbook) (d : Dev) : Dev :=
  if d.get Reg.GLB_SPLIT.LOGMIR = 0 ∨ !xaornUp d then d
  else
    match lb.records.find? fun x => decide (d.get Reg.LOG_MIR_SEQ.SEQ < x.seq) with
    | none => d
    | some x => (mirrorAppend [x] d).set Reg.LOG_MIR_SEQ.SEQ x.seq

def execMirrorRecord (s : State) : Host.Outcome State Fault Refusal := runLog s fun _ lb d => (lb, mirrorRecord lb d)

/-- PFW_N falls (R642, R568, R588, R589). -/
def powerFailWarning (t : Time) (lb : Logbook) (d : Dev) : Dev :=
  if !d.pwr.released ∨ d.pwr.pfwLow then d
  else
    let d1 := (((d.modPwr fun p => { p with pfwLow := true }).set Reg.GLB_STATUS.PFW 1).cause intGlb 3 0 0).event 20 0 0 0
    let d2 := keyPfw d1
    if d2.on Reg.LOG_STATUS.FLUSH_READY then
      let d3 := d2.set Reg.LOG_STATUS.FLUSH_READY 0
      { d3 with flush := { d3.flush with
        running := true, dirty := true, area := newestFit 65472 lb.records, header := none, tEdge := t.ns } }
    else (d2.event 529 0 1 0).cause intLog 5 0 0

def execPowerFailWarning (s : State) : Host.Outcome State Fault Refusal :=
  runLog s fun t lb d => (lb, powerFailWarning t lb d)

/-- PFW_N rises after a fall (R642). -/
def powerFailClear (d : Dev) : Dev :=
  if d.pwr.released ∧ d.pwr.pfwLow then
    ((d.modPwr fun p => { p with pfwLow := false }).set Reg.GLB_STATUS.PFW 0).event 20 0 1 0
  else d

def execPowerFailClear (s : State) : Host.Outcome State Fault Refusal := run s fun _ d => powerFailClear d

/-- The flush header is written (R588). -/
def logFlushDone (d : Dev) : Dev :=
  if d.flush.running then
    let first := match d.flush.area.head? with | some r => r.seq | none => 0
    let last := match d.flush.area.getLast? with | some r => r.seq | none => 0
    let h := some (first, last, d.flush.tEdge, d.get Reg.LOG_HEALTH0.STATE)
    let d1 := { d with flush := { d.flush with running := false, header := h } }
    (d1.event 529 0 0 last).cause intLog 4 0 0
  else d

def execLogFlushDone (s : State) : Host.Outcome State Fault Refusal := run s fun _ d => logFlushDone d

/-- Xaorn appends a valid flush to the mirror, erases the area and sets FLUSH_READY (R661). -/
def flushAreaErase (d : Dev) : Dev :=
  if !xaornUp d ∨ d.flush.running ∨ d.on Reg.LOG_STATUS.FLUSH_READY then d
  else
    let d1 := if d.flush.header.isSome then mirrorAppend d.flush.area d else d
    { d1 with flush := { d1.flush with area := [], header := none, dirty := false } }.set Reg.LOG_STATUS.FLUSH_READY 1

def execFlushAreaErase (s : State) : Host.Outcome State Fault Refusal := run s fun _ d => flushAreaErase d

end Sys2Proof.Machine
end

