-- ==== Sys2Proof/Machine/Lookout.lean ====
section
/-!
DEFINITION. The Lookout: its probes, their bins and limits, and the snapshots (R590 to R595).
-/

namespace Sys2Proof.Machine

open Sys2Proof

/-- Probes. -/
def lkoProbes : Nat := 64

/-- The upper bound of bin i in MODE 1, met by v: v lies below floor(BASE × 2^(i/4)). -/
def belowOctave (base : Nat) (i : Nat) (v : Int) : Bool :=
  decide (v < 0) || decide ((v.toNat + 1) ^ 4 ≤ base ^ 4 * 2 ^ i)

/-- The bin of a sample (R590). -/
def probeBin (mode : Bool) (base : Int) (width : Nat) (v : Int) : Nat :=
  if v < base then 0
  else if mode then
    match (List.range 62).find? fun i => belowOctave base.toNat (i + 1) v with
    | some i => i + 1
    | none => 63
  else min 63 (((v - base) / (max 1 width : Nat)).toNat + 1)

/-- A signed number held within 2^(w−1) on either side. -/
def satInt (w : Nat) (x : Int) : Int := max (-(2 ^ (w - 1) : Nat)) (min ((2 ^ (w - 1) : Nat) - 1) x)

/-- One sample enters the accumulators. -/
def probeAdd (bin : Nat) (v : Int) (p : Probe) : Probe where
  count := min (p.count + 1) (2 ^ 32 - 1)
  low := if p.count = 0 then v else min p.low v
  high := if p.count = 0 then v else max p.high v
  sum := satInt 64 (p.sum + v)
  bins := tset p.bins bin (min (tget p.bins bin + 1) (2 ^ 32 - 1))

/-- Does the Lookout sample this probe for this event (Table LKO-2)? Kinds without an instance ignore INDEX. -/
def probeHears (d : Dev) (kind index p : Nat) : Bool :=
  d.onN Reg.T_PROBE.EN p && d.getN Reg.T_PROBE.KIND p == kind &&
    (kind == 3 || kind == 4 || kind == 7 || kind == 8 || kind == 13 || kind == 15 || d.getN Reg.T_PROBE.INDEX p == index)

/-- A probe takes a sample into its bins and checks its limit (R590, R594); `lost` further samples arrived in the same
cycle (R592). -/
def probeTake (v : Int) (lost : Nat) (d : Dev) (p : Nat) : Dev :=
  let x := satInt 32 v
  let bin := probeBin (d.onN Reg.T_PROBE.MODE p) (sint 32 (d.getN Reg.T_PROBE.BASE p)) (d.getN Reg.T_PROBE.WIDTH p) x
  let d1 := { d with lko := tmod d.lko p (probeAdd bin x) }.addSat Reg.LKO_CNT_LOST.N 0 lost
  let lim := sint 32 (d.getN Reg.T_PROBE.LIMIT p)
  if lim ≠ 0 ∧ lim < x then
    let f := if p < 32 then Reg.LKO_OVER0.P else Reg.LKO_OVER1.P
    ((d1.set f (d1.get f ||| 2 ^ (p % 32))).cause intLko 0 0 0).event 560 0 p (unsig 64 x)
  else d1

def probeSample (kind index : Nat) (v : Int) (lost : Nat) (d : Dev) : Dev :=
  if d.up islMgt ∧ d.on Reg.LKO_CTRL.EN ∧ 1 ≤ kind ∧ kind ≤ 15 then
    ((List.range lkoProbes).filter (probeHears d kind index)).foldl (probeTake v lost) d
  else d

def execProbeSample (kind index : Nat) (v : Int) (lost : Nat) (s : State) : Host.Outcome State Fault Refusal :=
  run s fun _ d => probeSample kind index v lost d

/-- Is INDEX in range for a kind (Table LKO-2)? -/
def probeIndexOk (kind index : Nat) : Bool :=
  match kind with
  | 1 => decide (index < 16)
  | 2 => decide (index < 512)
  | 5 => decide (index < 4)
  | 6 => decide (index < 64)
  | 9 => decide (index < 256)
  | 10 => decide (index < 64)
  | 11 => decide (index < 18)
  | 12 => decide (index < 512)
  | 14 => decide (index < 3)
  | _ => true

def lkoRej (d : Dev) : Dev := d.cause intLko 1 0 0

def probeAddr (p : Nat) : Nat := 0x3C2000 + 16 * p

/-- A write of word 0 of a probe (R591): with EN the entry is checked and its accumulators cleared. While EN = 1 the other
fields do not change. -/
def probeWrite0 (p : Nat) (v : Word32) (d : Dev) : Dev :=
  let a := probeAddr p
  let old := d.word a
  let keep := maskOf (fieldsAt a) &&& ~~~1
  let changes := bitOf old 0 && (old ^^^ v) &&& keep != 0
  let d1 := if bitOf old 0 then (if changes then lkoRej d else d) else d.putUnvalid a v
  if !bitOf v 0 then d1.setN Reg.T_PROBE.EN p 0
  else
    let kind := d1.getN Reg.T_PROBE.KIND p
    let mode := d1.onN Reg.T_PROBE.MODE p
    if kind ≤ 15 ∧ probeIndexOk kind (d1.getN Reg.T_PROBE.INDEX p) ∧
        (if mode then 1 ≤ sint 32 (d1.getN Reg.T_PROBE.BASE p) else 1 ≤ (d1.getN Reg.T_PROBE.WIDTH p : Int)) then
      { d1.setN Reg.T_PROBE.EN p 1 with lko := tset d1.lko p default }
    else lkoRej d1

/-- A write of words 1 to 3 of a probe. -/
def probeWriteRest (a : Nat) (v : Word32) (d : Dev) : Dev :=
  if d.onN Reg.T_PROBE.EN ((a - 0x3C2000) / 16) then lkoRej d else d.putWord a v

def execProbeEnable (p : Nat) (v : Word32) (s : State) : Host.Outcome State Fault Refusal :=
  run s fun _ d => if p < lkoProbes then onWrite (probeAddr p) (probeWrite0 p v) d else d

/-- Word j of a snapshot (Table LKO-3). -/
def snapWord (t : Time) (a : Probe) (j : Nat) : Nat :=
  if j = 0 then (if a.count = 0 then 0x7FFFFFFF else unsig 32 a.low)
  else if j = 1 then (if a.count = 0 then 0x80000000 else unsig 32 a.high)
  else if j = 2 then a.count
  else if j = 3 then t.st32
  else if j = 4 then unsig 64 a.sum % 2 ^ 32
  else if j = 5 then unsig 64 a.sum / 2 ^ 32
  else if j < 64 then 0
  else tget a.bins (j - 64)

/-- Copy one probe into the snapshot table and clear it when asked (R593). -/
def snapProbe (t : Time) (clear : Bool) (d : Dev) (p : Nat) : Dev :=
  let a := tget d.lko p
  let d1 := (List.range 128).foldl (fun d j => d.setN Reg.T_PSNAP.W (p * 128 + j) (snapWord t a j)) d
  if clear then { d1 with lko := tset d1.lko p default } else d1

/-- A write of LKO_SNAP (R593). -/
def lkoSnapshot (t : Time) (v : Word32) (d : Dev) : Dev :=
  let d0 := ((d.set Reg.LKO_SNAP.PROBE v.toNat).set Reg.LKO_SNAP.ALL (bits v.toNat 8 1)).set Reg.LKO_SNAP.CLEAR
    (bits v.toNat 9 1)
  if !bitOf v 31 then d0
  else if bitOf v 8 then (List.range lkoProbes).foldl (snapProbe t (bitOf v 9)) d0
  else snapProbe t (bitOf v 9) d0 (v.toNat % 64)

def execLkoSnapshot (v : Word32) (s : State) : Host.Outcome State Fault Refusal :=
  run s fun t d => onWrite 0x128008 (lkoSnapshot t v) d

/-- A reset of MGT or Doze: the accumulators are cleared silently (R595). -/
def lkoReset (d : Dev) : Dev := { d with lko := [] }

end Sys2Proof.Machine
end

