-- ==== Sys2Proof/Machine/Resets.lean ====
section
/-!
DEFINITION. Resets: what each block loses and how it starts again, POR, HRST, SRST and IRST with their ends, start-up, and the
PCIe and MGT links (R19 to R24, R609 to R618, R625 to R628, R663).
-/

namespace Sys2Proof.Machine

open Sys2Proof

/-! ## Islands -/

/-- Islands other than AON (Table RST-2). -/
def islands : List Nat := List.range 36

def Dev.modIsl (d : Dev) (i : Nat) (f : IslSt → IslSt) : Dev := { d with isl := tmod d.isl i f }

def islMode (d : Dev) (i : Nat) : IslMode := (tget d.isl i).mode

/-- GLB_ISLRST shows the islands in reset (R612, Table RST-8). -/
def showResets (d : Dev) : Dev :=
  let bitsOf (from_ n : Nat) : Nat :=
    ((List.range n).map fun k => if islMode d (from_ + k) = .reset then 2 ^ k else 0).sum
  (d.set Reg.GLB_ISLRST_LO.ISL (bitsOf 0 32)).set Reg.GLB_ISLRST_HI.ISL (bitsOf 32 4)

/-- Registers of the addresses chosen take their Reset values or keep theirs (R4). -/
def Dev.resetWords (d : Dev) (k : ResetKind) (here : Nat → Bool) : Dev := { d with regs := resetRegs k here d.regs }

/-- HIF_STATUS goes on showing a link that a reset leaves up (R610, R663). -/
def keepLink (old d : Dev) : Dev :=
  ((d.set Reg.HIF_STATUS.LINK (old.get Reg.HIF_STATUS.LINK)).set Reg.HIF_STATUS.WIDTH
    (old.get Reg.HIF_STATUS.WIDTH)).set Reg.HIF_STATUS.SPEED (old.get Reg.HIF_STATUS.SPEED)

def TxOrigin.disown : TxOrigin → TxOrigin
  | .desc _ i => .desc noRing i
  | o => o

/-- The rings are gone while work fetched from them goes on: what it ends with reaches no ring, and no later descriptor of the
same index (R169, R493). -/
def disown (d : Dev) : Dev :=
  let fr (f : TxFrame) : TxFrame := { f with org := f.org.disown }
  let own (o : TxOrigin) : Bool := match o with
    | .desc _ _ => false
    | _ => true
  let d1 := { d with
    ports := d.ports.map fun e => (e.1, { e.2 with
      queues := e.2.queues.map fun q => (q.1, q.2.map fr)
      cur := e.2.cur.map fun c => { c with frame := fr c.frame }
      stamps := e.2.stamps.filter fun s => own s.1 })
    pairs := d.pairs.map fun e => (e.1, { e.2 with waits := e.2.waits.map fun w => { w with ring := noRing } })
    cmp := d.cmp.map fun e => (e.1, { e.2 with ring := noRing })
    keys := { d.keys with cmd := d.keys.cmd.map fun c => { c with ring := noRing } }
    aln := { d.aln with dlv := [] } }
  (List.range 16).foldl (fun x n =>
    let k := (x.port n).stamps.length
    if x.getN Reg.FP_TS_CNT.PENDING n = k then x else x.setN Reg.FP_TS_CNT.PENDING n k) d1

/-- HST is reset: rings, tokens, messages and the Logbook reader (R493, R587). The configuration space goes with `cfg`. -/
def hstLose (t : Time) (cfg : Bool) (d : Dev) : Dev :=
  let h := d.hif
  let d1 := disown (readerStop d)
  { d1 with hif := { (default : Hif) with
    sent := h.sent, lastHb := t.loc, msixEn := !cfg && h.msixEn, funcMask := !cfg && h.funcMask
    crs := h.crs, training := h.training } }

/-- Every remote alarm entry takes its FAILSAFE value until a token arrives (R552). -/
def ralmFailsafe (d : Dev) : Dev :=
  overAll 256 (fun k x =>
    if x.onN Reg.T_RASTAT.STATE k == x.onN Reg.T_RALARM.FAILSAFE k then x
    else x.setN Reg.T_RASTAT.STATE k (x.getN Reg.T_RALARM.FAILSAFE k)) d

/-- What an island loses when it enters reset, before its registers are reset. -/
def islandLose (t : Time) (i : Nat) (d : Dev) : Dev :=
  if i = islHst then hstLose t false d
  else if i ≤ 16 then portReset t (i - 1) d
  else if i = 17 then fabricStop d
  else if i ≤ 20 then linkReset (i - 17) d
  else if i = islIng then ingReset d
  else if i = islAln then rulTakeMode t (alnAbort d)
  else if i = islRaw then adcReset (blocksLost true d)
  else if i = islAna then (rulReset d).modMdl fun _ => default
  else if i = islCap then captureStop d
  else if i = islCmp then cmpReset d
  else if i = islMgt then lkoReset (dspFree (keyPfw (dspAbort (fun _ => true) d)))
  else
    let q := i - 28
    let d1 := cmpQuadLost q (d.modHmp fun h => { h with checks := h.checks.filter fun e => hQuad e.1 != q })
    if q = 0 then scrubStop d1 else d1

/-- What follows once the registers of an island have been reset; `old` is the device before. -/
def islandAfter (t : Time) (i : Nat) (old d : Dev) : Dev :=
  if i = islHst then keepLink old d
  else if i = 17 then ralmFailsafe d
  else if i = islRaw then fltReset old d
  else if i = islMgt then xaornRestart t d
  else d

/-- What an island does when it accepts requests again. -/
def islandResume (t : Time) (i : Nat) (d : Dev) : Dev :=
  if i = islHst then { d with hif := { d.hif with lastHb := t.loc } }
  else if i = 17 then (if d.on Reg.DXL_CTRL.EN then fabricStart t d else d)
  else if i = islAln then alnResume t d
  else if i = islRaw then fltResume t (adcResume t d)
  else if i = islAna then
    let d1 := rulResume t d
    if d1.on Reg.MOD_CTRL.EN ∧ (d1.get Reg.GLB_SPLIT.MODAL = 1 ∨ d1.get Reg.GLB_SPLIT.MODAL = 2) then modalStart t d1 else d1
  else if i = islCap then (if d.on Reg.CAP_CTRL.EN then captureStart d else d)
  else if i = islMgt then nextAll (dspCounts d)
  else if i = islHmp 0 then
    (if d.on Reg.HMP_CTRL.SCRUB_EN && d.on Reg.HMP_STATUS.SELFTEST_DONE then scrubStart t d else d)
  else d

/-! ## Ends of resets (R24, R617) -/

/-- A reset has ended: GLB_RSTCAUSE, code 17 and GLB_INT.RST (R617). -/
def resetEnded (kind isl : Nat) (d : Dev) : Dev :=
  let d1 := (d.set Reg.GLB_RSTCAUSE.KIND kind).set Reg.GLB_RSTCAUSE.ISLAND (if kind = 3 then isl else 0)
  (d1.event 17 (if kind = 3 then isl else 0) (if kind = 3 then kind + 256 * isl else kind) 0).cause intGlb 1 0 0

/-- May an island in reset leave it? Its clock runs, and PERST_N or a hot reset does not hold it (R19, R611, R663). -/
def mayLeave (d : Dev) (i : Nat) : Bool :=
  decide (islMode d i = .reset) && !(tget d.isl i).clkBad && !(tget d.isl i).held &&
    (i != 0 || !(d.pwr.perstLow || d.pwr.hstHold))

/-- Does the wide reset that runs reach the island? -/
def wideReaches (d : Dev) (i : Nat) : Bool :=
  match d.pwr.wide with
  | .srst => true
  | .hrst1 => true
  | .hrst0 => i == 0
  | _ => false

/-- The wide reset ends once every island it reaches accepts requests; one whose clock has failed, and HST that an SRST finds
held by PERST_N, are not waited for. -/
def wideEnd (d : Dev) : Dev :=
  let busy := islands.any fun i =>
    decide (islMode d i = .reset) && wideReaches d i && !(tget d.isl i).clkBad && !(tget d.isl i).held &&
      !(i == 0 && d.pwr.wide == .srst && d.pwr.perstLow)
  if busy then d
  else
    let d1 := d.modPwr fun p => { p with wide := .none }
    match d.pwr.wide with
    | .srst => resetEnded 2 0 d1
    | .hrst1 => resetEnded 4 0 d1
    | .hrst0 => resetEnded 1 0 d1
    | _ => d1

/-- An island accepts requests again. -/
def leaveReset (t : Time) (i : Nat) (d : Dev) : Dev :=
  islandResume t i (showResets (d.modIsl i fun x => { x with mode := .run }))

/-- An island leaves reset (R24, R617). -/
def islandExit (t : Time) (i : Nat) (d : Dev) : Dev :=
  if mayLeave d i then
    if wideReaches d i then wideEnd (leaveReset t i d) else resetEnded 3 i (leaveReset t i d)
  else d

def execIslandResetExit (island : Nat) (s : State) : Host.Outcome State Fault Refusal :=
  run s fun t d => islandExit t island d

/-! ## IRST, SRST, HRST -/

/-- One island is reset (R612, R21 to R23). -/
def doIrst (t : Time) (d : Dev) (i : Nat) : Dev :=
  let d1 := (islandLose t i d).resetWords .irst fun a => islandOf a == i
  let d2 := (islandAfter t i d d1).modIsl i fun x => { x with mode := .reset }
  showResets { d2 with keys := { d2.keys with held := d2.keys.held.filter fun h => keyIsland h.1 h.2.1 != i } }

/-- Every island except AON is reset, and every register field without S takes its Reset value (R610, R27). -/
def doSrst (t : Time) (wide : ResetReq) (cfg : Bool) (d : Dev) : Dev :=
  let d1 := hstLose t cfg (dspFree (keyPfw d))
  let d2 := { d1 with
    ports := d1.ports.map fun (e : Nat × Port) => (e.1, ({ (default : Port) with
      sent := e.2.sent ++ (e.2.cur.map fun (c : TxCur) => (c.frame, c.startQ, false)).toList, supIn := e.2.supIn } : Port))
    pairs := []
    ing := default
    aln := default
    adc := default
    flt := default
    dxl := { (default : Dxl) with sent := d1.dxl.sent, mgmtIn := d1.dxl.mgmtIn }
    cap := default
    rul := default
    mdl := default
    lko := []
    cmp := []
    hmp := { d1.hmp with checks := [], scrubLine := 0 }
    keys := { d1.keys with held := d1.keys.held.filter fun h => keyIsland h.1 h.2.1 == islAon } }
  let d3 := d2.resetWords .srst fun _ => true
  let d5 := islands.foldl (fun x i => x.modIsl i fun y => { y with mode := .reset }) d3
  let d6 := xaornAgain t d (d5.modPwr fun p => { p with wide := wide })
  showResets (keepLink d d6)

/-- An HRST of scope 0: HST, the rings and Dispatch (R493, R515). -/
def doHrst0 (t : Time) (d : Dev) : Dev :=
  let d1 := keepLink d ((hstLose t true (dspFree d)).resetWords .hrst fun _ => true)
  showResets ((d1.modIsl 0 fun x => { x with mode := .reset }).modPwr fun p => { p with wide := .hrst0 })

/-- Perform a reset, or do nothing where a running one covers it (R614). -/
def doReset (t : Time) (r : ResetReq) (d : Dev) : Dev :=
  let wideRuns := d.pwr.wide == .srst || d.pwr.wide == .hrst1
  match r with
  | .none => d
  | .irst is => (is.filter fun i => decide (islMode d i = .run)).foldl (doIrst t) d
  | .hrst0 => if wideRuns || d.pwr.wide == .hrst0 then d else doHrst0 t d
  | .hrst1 => if wideRuns then d else doSrst t .hrst1 true d
  | .srst => if wideRuns then d else doSrst t .srst false d

/-- Width of a reset (R614). -/
def resetWidth : ResetReq → Nat
  | .none => 0
  | .irst _ => 1
  | .hrst0 => 2
  | .hrst1 => 3
  | .srst => 3

/-- Of two resets, the wider one; island resets add up (R614). -/
def widerReset (a b : ResetReq) : ResetReq :=
  match a, b with
  | .irst x, .irst y => .irst (x ++ y.filter fun i => !x.contains i)
  | _, _ => if resetWidth a < resetWidth b then b else a

/-- A wake cause arrives (R621, R623): the wake starts, at once or when entry has completed. -/
def wakeCause (t : Time) (d : Dev) : Dev :=
  match d.pwr.doze with
  | .asleep => d.modPwr fun p => { p with doze := .waking, wakeFrom := t.loc, timed := none }
  | .entering => d.modPwr fun p => { p with wakeDue := true }
  | .waitKey => d.modPwr fun p => { p with wakeDue := true }
  | _ => d

/-- A reset is started: at once, or after the wake that it causes (R615). -/
def startReset (t : Time) (r : ResetReq) (d : Dev) : Dev :=
  if d.pwr.doze = .awake then doReset t r d
  else wakeCause t (d.modPwr fun p => { p with waiting := widerReset p.waiting r })

/-- A write to GLB_RST (R609, R610). -/
def softReset (t : Time) (v : Word32) (d : Dev) : Dev :=
  if !d.pwr.released then d
  else if bitOf v 0 ∧ v.toNat / 2 ^ 16 = 0x5352 then startReset t .srst d
  else d.cause intGlb 5 0 0

def execSoftReset (v : Word32) (s : State) : Host.Outcome State Fault Refusal := run s fun t d => softReset t v d

/-- A write to GLB_ISLRST_LO or GLB_ISLRST_HI (R612). -/
def islandReset (t : Time) (hi : Bool) (v : Word32) (d : Dev) : Dev :=
  let is := (if hi then (List.range 4).filterMap fun k => if bitOf v k then some (32 + k) else none
    else (List.range 32).filterMap fun k => if bitOf v k then some k else none)
  if !d.pwr.released ∨ is.isEmpty then d else startReset t (.irst is) d

def execIslandReset (hi : Bool) (v : Word32) (s : State) : Host.Outcome State Fault Refusal :=
  run s fun t d => islandReset t hi v d

/-- The HRST that GLB_CTRL.HRST_SCOPE selects (Table RST-1). -/
def hrstOf (d : Dev) : ResetReq := if d.on Reg.GLB_CTRL.HRST_SCOPE then .hrst1 else .hrst0

/-- The link goes down with its registers. -/
def linkGone (d : Dev) : Dev :=
  let d1 := ((d.set Reg.HIF_STATUS.LINK 0).set Reg.HIF_STATUS.WIDTH 0).set Reg.HIF_STATUS.SPEED 0
  { d1 with hif := { d1.hif with training := none } }

/-- An HRST starts (R458, R611, R615); with no effect on the islands while a wider reset runs, which still leaves HST held. -/
def startHrst (t : Time) (d : Dev) : Dev :=
  let d1 := startReset t (hrstOf d) d
  if d1.pwr.doze = .awake ∧ islMode d1 0 = .run then showResets (d1.modIsl 0 fun x => { x with mode := .reset }) else d1

/-- PERST_N falls (R611). -/
def perstAssert (t : Time) (d : Dev) : Dev :=
  if d.pwr.perstLow then d
  else
    let d1 := d.modPwr fun p => { p with perstLow := true, hstHold := false, hotReset := false }
    if !d.pwr.released then d1
    else
      let d2 := linkGone (startHrst t d1)
      { d2 with hif := { d2.hif with crs := false } }

def execPerstAssert (s : State) : Host.Outcome State Fault Refusal := run s fun t d => perstAssert t d

/-- PERST_N rises: the link trains (R611, R628). HST leaves the reset in which PERST_N alone held it since start-up or since
an SRST. -/
def perstRelease (t : Time) (d : Dev) : Dev :=
  if !d.pwr.perstLow then d
  else
    let d1 := d.modPwr fun p => { p with perstLow := false }
    if !d.pwr.released then d1
    else
      let d2 := { d1 with hif := { d1.hif with training := some t.loc } }
      if d2.pwr.wide = .none ∧ mayLeave d2 0 then leaveReset t 0 d2 else d2

def execPerstRelease (s : State) : Host.Outcome State Fault Refusal := run s fun t d => perstRelease t d

/-- A hot reset or an FLR: HST is held and answers configuration requests with CRS (R663). -/
def heldHrst (t : Time) (hot : Bool) (d : Dev) : Dev :=
  if !d.pwr.released ∨ d.pwr.perstLow then d
  else
    let d1 := startHrst t (d.modPwr fun p => { p with hstHold := true, hotReset := hot })
    let d2 := if hot then linkGone d1 else d1
    { d2 with hif := { d2.hif with crs := true } }

def execPcieHotReset (s : State) : Host.Outcome State Fault Refusal := run s fun t d => heldHrst t true d
def execFunctionLevelReset (s : State) : Host.Outcome State Fault Refusal := run s fun t d => heldHrst t false d

/-- HST leaves reset after an FLR or a hot reset and answers requests; after a hot reset the link trains (R663). -/
def hstRelease (t : Time) (d : Dev) : Dev :=
  if !d.pwr.hstHold ∨ d.pwr.doze ≠ .awake then d
  else
    let hot := d.pwr.hotReset
    let d1 := d.modPwr fun p => { p with hstHold := false, hotReset := false }
    let d2 := { d1 with hif := { d1.hif with crs := false, training := if hot then some t.loc else d1.hif.training } }
    if wideReaches d2 0 then islandExit t 0 d2
    else if mayLeave d2 0 then leaveReset t 0 d2 else d2

def execHstResetRelease (s : State) : Host.Outcome State Fault Refusal := run s fun t d => hstRelease t d

/-- The PCIe link comes up (R611, R663, R490). -/
def pcieLinkUp (width speed : Nat) (d : Dev) : Dev :=
  if d.up islHst ∧ !d.pwr.perstLow ∧ !d.on Reg.HIF_STATUS.LINK then
    let d1 := ((d.set Reg.HIF_STATUS.LINK 1).set Reg.HIF_STATUS.WIDTH width).set Reg.HIF_STATUS.SPEED speed
    { d1 with hif := { d1.hif with training := none } }
  else d

def execPcieLinkUp (width speed : Nat) (s : State) : Host.Outcome State Fault Refusal :=
  run s fun _ d => pcieLinkUp width speed d

/-- The SGMII link of the MGT port changes (Table MAP-3). -/
def mgtLinkChange (up : Bool) (speed : Nat) (d : Dev) : Dev :=
  if !d.up islMgt then d
  else
    let d1 := (d.setB Reg.MGT_STATUS.LINK 0 up).set Reg.MGT_STATUS.SPEED (if up then speed else 0)
    if d.on Reg.MGT_STATUS.LINK == up then d1 else d1.cause intMgt 0 0 0

def execMgtLinkChange (up : Bool) (speed : Nat) (s : State) : Host.Outcome State Fault Refusal :=
  run s fun _ d => mgtLinkChange up speed d

/-- READY rises once every start-up condition holds (R627). -/
def deviceReady (d : Dev) : Dev :=
  if d.pwr.released ∧ !d.on Reg.GLB_STATUS.READY ∧ d.on Reg.HMP_STATUS.SELFTEST_DONE ∧ d.on Reg.KEY_STATUS.LOADED ∧
      islands.all (fun i => d.up i) ∧ (d.on Reg.GLB_STATUS.XAORN_RUN ∨ d.on Reg.GLB_STATUS.XFAIL) then
    (d.set Reg.GLB_STATUS.READY 1).cause intGlb 0 0 0
  else d

def execDeviceReady (s : State) : Host.Outcome State Fault Refusal := run s fun _ d => deviceReady d

/-! ## POR -/

/-- The device enters POR: everything is lost but the flash, the fuses and the pins' levels (Table RST-3). -/
def porDev (d : Dev) : Dev :=
  { Dev.reset with
    free := d.free
    keys := { (default : Keys) with copies := d.keys.copies, fuseBad := d.keys.fuseBad }
    flush := { d.flush with running := false }
    pwr := { (default : Pwr) with
      sysRst := d.pwr.sysRst, testEn := d.pwr.testEn, hot := d.pwr.hot, perstLow := d.pwr.perstLow
      images := d.pwr.images, copyA := d.pwr.copyA, copyB := d.pwr.copyB } }

/-- A POR (R640): grid time and the Logbook are cleared. -/
def enterPor (d : Dev) : Time × Logbook × Dev := (⟨0, 0⟩, default, porDev d)

/-- A rail has stayed below its falling threshold, or TESTEN is high (R636, R640). -/
def execPowerOnReset (test : Bool) (s : State) : Host.Outcome State Fault Refusal :=
  runAll s fun _ _ d => enterPor (d.modPwr fun p => { p with testEn := test })

/-- SYS_RST_N is low (R643). -/
def execSysRstAssert (s : State) : Host.Outcome State Fault Refusal :=
  runAll s fun _ _ d => enterPor (d.modPwr fun p => { p with sysRst := true })

/-- The on-die sensor's reading (R652): at the trip level a POR that lasts to the release level. -/
def thermalTrip (tj : Int) (t : Time) (lb : Logbook) (d : Dev) : Time × Logbook × Dev :=
  if max 118 (min 122 Config.tripLevel) ≤ tj then enterPor (d.modPwr fun p => { p with hot := true })
  else if tj ≤ max 108 (min 112 Config.releaseLevel) then (t, lb, d.modPwr fun p => { p with hot := false })
  else (t, lb, d)

def execThermalTrip (tj : Int) (s : State) : Host.Outcome State Fault Refusal := runAll s (thermalTrip tj)

/-- The board has programmed the flash. -/
def flashLoad (f : Option FlashLoad) (p : Pwr) : Pwr :=
  match f with
  | none => p
  | some x => { p with
      copyA := x.copyA, copyB := x.copyB
      images := tset (tset p.images 0 (flashFill x.imgA 0 [])) 1 (flashFill x.imgB 0 []) }

/-- The boot settings are read (R625, R662). -/
def bootSettings (d : Dev) : Dev :=
  match setUsed d.pwr with
  | none => d.set Reg.GLB_STATUS.SET_DEF 1
  | some b =>
    (d.set Reg.GLB_CTRL.HRST_SCOPE (setFlags b % 2)).set Reg.TKP_CTRL.CLKSRC (setFlags b / 2 % 2)

/-- The slot start-up prefers (R626, R630): a POR that finds TRIAL set starts the slot that is not preferred. -/
def bootSlot (p : Pwr) : Nat :=
  let f := setFlags ((setUsed p).getD setDefault)
  let pref := f / 4 % 2
  if f / 8 % 2 = 1 then 1 - pref else pref

/-- POR is released and start-up runs (R617, R625 to R627, R643, R661). -/
def porRelease (t : Time) (b : BootInfo) (d : Dev) : Dev :=
  if d.pwr.released ∨ d.pwr.testEn ∨ d.pwr.hot then d
  else
    let ext := d.pwr.sysRst
    let d0 := d.modPwr fun p => { flashLoad b.flash p with
      released := true, sysRst := false, oscBad := !b.oscOk }
    let d1 := (resetEnded 0 0 d0).setB Reg.GLB_RSTCAUSE.EXT 0 ext
    let d2 := (bootSettings d1).setB Reg.TKP_STATUS.OSC10M_OK 0 b.oscOk
    let d3 := d2.setB Reg.LOG_STATUS.FLUSH_READY 0 (!d2.flush.dirty)
    let d4 := hamperSelfTest b.badWords d3
    let d5 := keyLoad (d4.modKeys fun k => { k with fuseBad := !b.fuseOk })
    let d6 := islands.foldl (fun x i => x.modIsl i fun y =>
      { y with mode := if i = 0 ∧ d.pwr.perstLow then .reset else .run }) d5
    let d7 := if d6.on Reg.HMP_CTRL.SCRUB_EN then scrubStart t d6 else d6
    let d8 := xaornBoot t (bootSlot d7.pwr) d7
    { d8 with hif := { d8.hif with lastHb := t.loc, training := if d.pwr.perstLow then none else some t.loc } }

def execPorRelease (b : BootInfo) (s : State) : Host.Outcome State Fault Refusal := run s fun t d => porRelease t b d

end Sys2Proof.Machine
end

