-- ==== Sys2Proof/Machine/Doze.lean ====
section
/-!
DEFINITION. Doze and the failures of clocks (R619 to R624, R19, R20, R648, R649).
-/

namespace Sys2Proof.Machine

open Sys2Proof

/-! ## Entry (R619, R620) -/

/-- Does a reset run (R619)? -/
def resetRuns (d : Dev) : Bool := d.pwr.wide != .none || islands.any fun i => decide (islMode d i = .reset)

/-- The data plane is gated: pins released, links down, converters stopped, work in flight gone, registers as the Keeps
column says (R618, R620). -/
def dozeGate (t : Time) (d : Dev) : Dev :=
  let d1 := (overAll 16 portDoze d)
  let d2 := fabricStop (cmpReset (captureStop (adcReset (alnReset (ingReset (rulReset d1))))))
  let d3 := (scrubStop { d2 with pairs := [], mdl := default, lko := [] }).resetWords .doze fun _ => true
  let d4 := fltReset d d3
  let d5 := islands.foldl (fun x i => if islMode x i = .run then x.modIsl i fun y => { y with mode := .gated } else x) d4
  { d5 with hif := { d5.hif with lastHb := t.loc } }

/-- A write of GLB_DOZE.ENTER (R619). -/
def dozeEnter (t : Time) (d : Dev) : Dev :=
  if !d.pwr.released then d
  else
    let refuse := (d.set Reg.GLB_DOZE.STATUS stRejected).cause intGlb 5 0 stRejected
    match d.pwr.doze with
    | .awake =>
      if resetRuns d ∨ d.on Reg.GLB_STATUS.UPDATING ∨ d.on Reg.GLB_STATUS.PFW then refuse
      else if d.keys.cmd.isSome then d.modPwr fun p => { p with doze := .waitKey }
      else (dozeGate t d).modPwr fun p => { p with doze := .entering }
    | .waking => refuse
    | _ => d

def execDozeEnter (s : State) : Host.Outcome State Fault Refusal := run s fun t d => dozeEnter t d

/-- The timed wake is taken up: target, epoch and LATE_TOL are held (R622). -/
def wakeTakeUp (d : Dev) : Dev :=
  let x := (d.get Reg.GLB_WAKE_ST.ST, d.get Reg.GLB_WAKE_TE.EPOCH, d.get Reg.GLB_WAKE_TE.LATE_TOL)
  d.modPwr fun p => { p with timed := if d.on Reg.GLB_WAKE.TIMED then some x else none }

/-- Entry completes (R620, R622); a cause that came during entry starts the wake at once (R623). -/
def dozeEntryDone (t : Time) (d : Dev) : Dev :=
  let go (d : Dev) : Dev :=
    let d1 := ((d.set Reg.GLB_STATUS.DOZE 1).set Reg.GLB_DOZE.STATUS stOk).event 18 0 0 0
    let d2 := wakeTakeUp (d1.modPwr fun p => { p with doze := .asleep, wakeDue := false })
    if d.pwr.wakeDue then wakeCause t d2 else d2
  match d.pwr.doze with
  | .entering => go d
  | .waitKey => if d.keys.cmd.isSome then d else go (dozeGate t d)
  | _ => d

def execDozeEntryDone (s : State) : Host.Outcome State Fault Refusal := run s fun t d => dozeEntryDone t d

/-! ## Waking (R621 to R623) -/

def execDozeWake (s : State) : Host.Outcome State Fault Refusal := run s fun t d => wakeCause t d

def execGpioWake (pin : Nat) (falling : Bool) (s : State) : Host.Outcome State Fault Refusal :=
  run s fun t d =>
    if pin < 16 ∧ (d.get Reg.GLB_WAKE.GPIO).testBit pin ∧ d.on Reg.GLB_WAKE.FALL == falling then wakeCause t d else d

/-- A write to GLB_WAKE: during Doze it arms and disarms the timed wake (R622). -/
def writeGlbWake (v : Word32) (d : Dev) : Dev :=
  let was := d.on Reg.GLB_WAKE.TIMED
  let d1 := d.putWord 0x2C v
  if d.pwr.doze = .asleep then
    if !d1.on Reg.GLB_WAKE.TIMED then d1.modPwr fun p => { p with timed := none }
    else if !was then wakeTakeUp d1 else d1
  else d1

def execWriteGlbWake (v : Word32) (s : State) : Host.Outcome State Fault Refusal :=
  run s fun _ d => if d.pwr.released then writeGlbWake v d else d

/-- The timed wake is judged (R622, R40 to R42). -/
def timedWake (t : Time) (d : Dev) : Dev :=
  match d.pwr.timed with
  | none => d
  | some (target, epoch, tol) =>
    if d.pwr.doze ≠ .asleep then d
    else
      let v := verdictNow t d target epoch tol
      match v with
      | .wait => d
      | .expired => (d.set Reg.GLB_DOZE.STATUS stExpired).modPwr fun p => { p with timed := none }
      | _ => wakeCause t (d.set Reg.GLB_DOZE.STATUS v.status)

def execTimedWake (s : State) : Host.Outcome State Fault Refusal := run s fun t d => timedWake t d

/-- The wake completes 1.2 ms after its cause: every island accepts requests and restarts, and a reset that waited runs
(R615, R623). -/
def wakeDone (t : Time) (d : Dev) : Dev :=
  if d.pwr.doze ≠ .waking ∨ t.loc - d.pwr.wakeFrom < 1200000 then d
  else
    let req := d.pwr.waiting
    let up := islands.filter fun i => decide (islMode d i = .gated) && !(tget d.isl i).clkBad && !(tget d.isl i).held
    let d1 := d.modPwr fun p => { p with doze := .awake, timed := none, waiting := .none }
    let d2 := islands.foldl (fun x i =>
      if islMode x i = .gated then x.modIsl i fun y => { y with mode := if up.contains i then .run else .reset } else x) d1
    let d3 := ((d2.set Reg.GLB_STATUS.DOZE 0).event 19 0 0 0).cause intGlb 2 0 0
    let d4 := ralmFailsafe (showResets d3)
    let d5 := up.foldl (fun x i => islandResume t i x) d4
    doReset t req d5

def execWakeDone (s : State) : Host.Outcome State Fault Refusal := run s fun t d => wakeDone t d

/-! ## Clock failures (R19, R20, R648, R649) -/

/-- The clock of an island fails (R19, R20). AON's own clock is the reference clock's matter (R648). -/
def islandClockFail (t : Time) (i : Nat) (d : Dev) : Dev :=
  if 36 ≤ i ∨ !d.pwr.released ∨ islMode d i = .gated ∨ islMode d i = .off ∨ (tget d.isl i).clkBad then d
  else
    let d1 := (d.event 16 i i 0).cause intGlb 6 i 0
    let d2 := if islMode d1 i = .run then doIrst t d1 i else d1
    clockInteg t i (d2.modIsl i fun x => { x with clkBad := true })

def execIslandClockFail (island : Nat) (s : State) : Host.Outcome State Fault Refusal :=
  run s fun t d => islandClockFail t island d

/-- The clock has been back within its window for 10 ms: the island leaves reset (R19). -/
def islandClockRecover (t : Time) (i : Nat) (d : Dev) : Dev :=
  if 36 ≤ i ∨ !(tget d.isl i).clkBad then d
  else islandExit t i (d.modIsl i fun x => { x with clkBad := false })

def execIslandClockRecover (island : Nat) (s : State) : Host.Outcome State Fault Refusal :=
  run s fun t d => islandClockRecover t island d

/-- The clock AON runs from has failed (R648, R649): with the other one good the PLLs move to it, and every island goes through
the reset of R19; else AON runs on its internal oscillator and every island is held. -/
def sourceFail (t : Time) (other : Bool) (src : Nat) (d : Dev) : Dev :=
  let d1 := (d.event 16 islAon islAon 0).cause intGlb 6 islAon 0
  let d2 := (islands.filter fun i => decide (islMode d1 i = .run)).foldl (doIrst t) d1
  let d3 := if other then d2.set Reg.TKP_CTRL.CLKSRC src
    else (islands.foldl (fun x i => x.modIsl i fun y => { y with held := true }) d2).modPwr
      fun p => { p with intOsc := true }
  clockInteg t islAna d3

/-- REFCLK leaves its window (R648). -/
def refclkFail (t : Time) (d : Dev) : Dev :=
  if !d.pwr.released ∨ d.pwr.refBad then d
  else
    let d1 := d.modPwr fun p => { p with refBad := true }
    if d.on Reg.TKP_CTRL.CLKSRC ∨ d.pwr.intOsc then d1 else sourceFail t (d.on Reg.TKP_STATUS.OSC10M_OK) 1 d1

def execRefclkFail (s : State) : Host.Outcome State Fault Refusal := run s fun t d => refclkFail t d

/-- OSC10M leaves its window (R649). -/
def osc10mFail (t : Time) (d : Dev) : Dev :=
  if !d.pwr.released ∨ d.pwr.oscBad then d
  else
    let d1 := (d.set Reg.TKP_STATUS.OSC10M_OK 0).modPwr fun p => { p with oscBad := true }
    if !d.on Reg.TKP_CTRL.CLKSRC ∨ d.pwr.intOsc then d1 else sourceFail t (!d.pwr.refBad) 0 d1

def execOsc10mFail (s : State) : Host.Outcome State Fault Refusal := run s fun t d => osc10mFail t d

/-- A failed reference clock (`osc`: OSC10M, else REFCLK) has been back within its window for 10 ms (R648, R649): islands
that were held restart, from that clock. -/
def refclkReturn (t : Time) (osc : Bool) (d : Dev) : Dev :=
  if !d.pwr.released ∨ !(if osc then d.pwr.oscBad else d.pwr.refBad) then d
  else
    let d1 := if osc then (d.set Reg.TKP_STATUS.OSC10M_OK 1).modPwr fun p => { p with oscBad := false }
      else d.modPwr fun p => { p with refBad := false }
    if !d.pwr.intOsc then d1
    else
      let d2 := (d1.set Reg.TKP_CTRL.CLKSRC (b2n osc)).modPwr fun p => { p with intOsc := false }
      let held := islands.filter fun i => (tget d2.isl i).held
      let d3 := held.foldl (fun x i => x.modIsl i fun y => { y with held := false }) d2
      held.foldl (fun x i => islandExit t i x) d3

def execRefclkReturn (osc : Bool) (s : State) : Host.Outcome State Fault Refusal := run s fun t d => refclkReturn t osc d

end Sys2Proof.Machine
end

