-- ==== Sys2Proof/Machine/Ptp.lean ====
section
/-!
DEFINITION. PTP on the field ports: reception, the messages the hardware sends and the transparent clock (R52 to R57).
-/

namespace Sys2Proof.Machine

open Sys2Proof

/-- With LOOP only the port's own messages are received, in the order they came back (R666): is this one of them, and does it
count as received? -/
def ptpLooped (n : Nat) (m : PtpMsg) (take : Bool) (d : Dev) : Bool × Dev :=
  if !d.onN Reg.FP_CTRL.LOOP n then (true, d)
  else if (d.port n).loopPtp.head? != some m.mtype then (false, d)
  else (true, if take then d.modPort n fun p => { p with loopPtp := p.loopPtp.tail } else d)

/-- Every stamp of a message type leaves the transmit timestamp queue. -/
def dropStamps (n : Nat) (m : PtpType) (d : Dev) : Dev :=
  (d.port n).stamps.foldl (fun x e => if e.1 = .ptp m then freeStamp n (.ptp m) x else x) d

/-- The exchange of a request is complete: the PTP engine has taken its stamp, which frees the entry. DEDUCED from R142, which names
the Follow_Up alone: the engine has no later use for the stamp of a Delay_Req or Pdelay_Req. -/
def requestDone (n : Nat) (m : PtpType) (d : Dev) : Dev :=
  match m with
  | .delayResp => dropStamps n .delayReq d
  | .pdelayResp => dropStamps n .pdelayReq d
  | _ => d

/-- A message of the clock's domain is used: an Announce gives its port's grandmaster, and the sample that it completes is its
reference's (R54, R81, R82). -/
def ptpUse (t : Time) (n : Nat) (m : PtpMsg) (d : Dev) : Dev :=
  let d1 := requestDone n m.mtype d
  let d2 := match m.gm with
    | some g => if m.mtype = .announce then d1.modPtp n fun p => { p with gm := some g } else d1
    | none => d1
  match m.sample, ptpSlot d2 n with
  | some x, some k => refSample t k (gmSample d2 n x) d2
  | _, _ => d2

/-- A PTP message at a PTP port whose link is up: limited, authenticated, and used where it is of the clock's domain (R56, R57,
R666). -/
def ptpReceive (t : Time) (n : Nat) (m : PtpMsg) (d : Dev) : Dev :=
  if !ptpOn d n || !portRuns d n || !linkUp d n then d
  else match ptpLooped n m true d with
    | (false, d1) => d1
    | (true, d1) =>
      match ptpJudge t n m d1 with
      | (false, d2) => d2
      | (true, d2) => if m.domain = d.get Reg.TKP_PTP.DOMAIN then ptpUse t n m d2 else d2

def execPtpMessageReceive (port : Nat) (m : PtpMsg) (s : State) : Host.Outcome State Fault Refusal :=
  run s fun t d => ptpReceive t port m d

/-- A message from Xaorn's template, with the instants that the hardware fills by now, is queued in class PTP_TC on its port,
without an RCT or HSR tag (R52, R154). With AUTH_EN its TLV needs the key; refused, it is not sent (R556). -/
def ptpQueue (n : Nat) (m : PtpType) (vs : List Int) (d : Dev) : Dev :=
  let b := Config.ptpTemplate (d.ptp n).tmpl m
  let f : TxFrame := ⟨.ptp m, d.getN Reg.FP_CTRL.PTP_TC n, b.length + 4, if vs.isEmpty then b else filled m b vs [], none, false,
    none, none⟩
  let (ok, d2) : Bool × Dev :=
    if d.on Reg.TKP_PTP.AUTH_EN then
      match keyUse engPtp 0 (d.get Reg.TKP_PTP.KEY_SLOT) 4 false d with
      | (some _, x) => (true, x)
      | (none, x) => (false, x)
    else (true, d)
  if ok then sendTx n f (d2.modPtp n fun p => { p with sent := tset p.sent (ptpCode m) (tget p.sent (ptpCode m) + 1) })
  else bcDrop n d2

/-- A follow-up carries the oldest stamp of its message, which frees its entry; without a stamp none is sent (R142, R143). -/
def followUp (n : Nat) (of m : PtpType) (d : Dev) : Dev :=
  match (d.port n).stamps.find? fun e => e.1 == .ptp of with
  | some e => ptpQueue n m [(e.2 : Int)] (freeStamp n (.ptp of) d)
  | none => d

/-- The hardware sends a message that the state of its port admits (R52). -/
def ptpTransmit (n : Nat) (m : PtpType) (d : Dev) : Dev :=
  if !ptpOn d n then d
  else
    let d1 := xaornPtp n d
    if !portSends d1 n m then d1
    else match m with
      | .followUp => followUp n .sync m d1
      | .pdelayRespFollowUp => followUp n .pdelayResp m d1
      | .announce => d1
      | .delayReq => ptpQueue n m [] (dropStamps n m d1)
      | .pdelayReq => ptpQueue n m [] (dropStamps n m d1)
      | _ => ptpQueue n m [] d1

def execPtpMessageTransmit (port : Nat) (m : PtpType) (s : State) : Host.Outcome State Fault Refusal :=
  run s fun _ d => ptpTransmit port m d

/-- An Announce is queued; its fields are filled as it leaves (R53, R54). -/
def announceTransmit (n : Nat) (d : Dev) : Dev :=
  if !ptpOn d n then d
  else
    let d1 := xaornPtp n d
    if portSends d1 n .announce then ptpQueue n .announce [] d1 else d1

def execPtpAnnounceTransmit (port : Nat) (s : State) : Host.Outcome State Fault Refusal :=
  run s fun _ d => announceTransmit port d

/-- The transparent clock forwards a message of any domain to the other port of its pair, in class PTP_TC, with its residence added
to its correction as it leaves (R55), once it has passed the limit and the authentication of its port (R56, R57). On a port that is a
PTP port too these have been judged by the clock. -/
def tcForward (t : Time) (n : Nat) (m : PtpMsg) (arrQ : Nat) (d : Dev) : Dev :=
  if !tcOn d n || !portRuns d n || !linkUp d n then d
  else match ptpLooped n m (!ptpOn d n) d with
    | (false, d1) => d1
    | (true, d1) =>
      match if ptpOn d1 n then ptpJudged t n m d1 else ptpJudge t n m d1 with
      | (false, d2) => d2
      | (true, d2) =>
        let out := twin n
        sendTx out ⟨.transparent m arrQ, d2.getN Reg.FP_CTRL.PTP_TC out, m.raw.length + 4, m.raw, none, false, none, none⟩ d2

def execTcForward (port : Nat) (m : PtpMsg) (ingressQ : Nat) (s : State) : Host.Outcome State Fault Refusal :=
  run s fun t d => tcForward t port m ingressQ d

end Sys2Proof.Machine
end

