-- ==== Sys2Proof/Machine/BusA.lean ====
section
/-!
DEFINITION. BAR0 writes, the common access rules of Table SCP-3 and the registers of GLB, TKP, HMP, the field ports and
the fabric.
-/

namespace Sys2Proof.Machine

open Sys2Proof

/-! ## Access rules (Table SCP-3, R30, R485) -/

/-- One field of a word under a write: its access code decides. -/
def accessWrite (lockd : Bool) (v w : Word32) (f : Field) : Word32 :=
  match f.acc with
  | .rw => f.inWord w (f.ofWord v)
  | .rwl => if lockd then w else f.inWord w (f.ofWord v)
  | .w1c => w &&& ~~~(v &&& f.mask)
  | .w1s => w ||| (v &&& f.mask)
  | .wo => w
  | .ro => w
  | .rc => w

/-- The word at an address after a write of `v` under the access codes of its fields. -/
def writtenWord (a : Nat) (v : Word32) (d : Dev) : Word32 :=
  (fieldsAt a).foldl (fun w f => accessWrite (locked d) v w f) (d.word a)

/-- An EN bit of an interrupt register rises while its cause is set: a message is requested (R485). -/
def enableRises (a : Nat) (old : Word32) (d : Dev) : Dev :=
  match intBlks.find? fun b => b.addr == a with
  | some b =>
    let w := d.word a
    if (List.range 16).any fun k => bitOf w k && bitOf w (16 + k) && !bitOf old (16 + k) then d.request b.vec else d
  | none => d

/-- A write to a register with no rule beyond its access codes. -/
def plainWrite (a : Nat) (v : Word32) (d : Dev) : Dev :=
  enableRises a (d.word a) { d with regs := rput d.regs a (writtenWord a v d) }

/-- A write in which some fields keep their old value. -/
def writeKeeping (fs : List Field) (a : Nat) (v : Word32) (d : Dev) : Dev :=
  let m := maskOf fs
  plainWrite a ((v &&& ~~~m) ||| (d.word a &&& m)) d

/-- A write that leaves a field unchanged and reports it where its value is not allowed. -/
def writeChecked (f : Field) (ok : Bool) (rej : Dev → Dev) (a : Nat) (v : Word32) (d : Dev) : Dev :=
  if ok then plainWrite a v d else rej (writeKeeping [f] a v d)

/-- Would a write change one of these fields? -/
def wouldChange (fs : List Field) (a : Nat) (v : Word32) (d : Dev) : Bool := (d.word a ^^^ v) &&& maskOf fs != 0

/-- Fields that a write cannot change now: it leaves them as they are and reports the attempt. -/
def writeHeld (fs : List Field) (rej : Dev → Dev) (a : Nat) (v : Word32) (d : Dev) : Dev :=
  let d1 := writeKeeping fs a v d
  if wouldChange fs a v d then rej d1 else d1

/-- An engine's field names a slot other than the ones it may still hold (R558). -/
def letGo (eng inst : Nat) (slots : List Nat) (d : Dev) : Dev :=
  { d with keys := { d.keys with held := d.keys.held.filter fun h =>
      !(h.1 == eng && h.2.1 == inst && !slots.contains h.2.2) } }

/-! ## GLB -/

/-- The fields of GLB_SPLIT in the order of their bits. -/
def splitFields : List Field :=
  [Reg.GLB_SPLIT.SERVO, Reg.GLB_SPLIT.ALIGN, Reg.GLB_SPLIT.PHASOR, Reg.GLB_SPLIT.RULES, Reg.GLB_SPLIT.MODAL,
    Reg.GLB_SPLIT.CAPTURE, Reg.GLB_SPLIT.COMP, Reg.GLB_SPLIT.DSPT, Reg.GLB_SPLIT.LOGMIR, Reg.GLB_SPLIT.KEY]

/-- Is a value rejected (R25)? -/
def splitBad (v : Word32) (f : Field) : Bool :=
  f.ofWord v == 3 || (f.ofWord v == 2 && decide (f = Reg.GLB_SPLIT.KEY))

/-- GLB_SPLIT as a write leaves it (R25, R26, R30). -/
def splitStored (v : Word32) (d : Dev) : Dev :=
  let d1 := writeKeeping (splitFields.filter (splitBad v)) 0x20 v d
  if !locked d && splitFields.any (splitBad v) then d1.set Reg.GLB_SPLIT.REJ 1 else d1

/-- CAPTURE goes to 0: engines that collect nothing become IDLE; a record in hand completes (Table ARC-6). -/
def captureSplit (d : Dev) : Dev :=
  (List.range 8).foldl (fun x n => if engState x n < 4 then engIdle n x else x) d

/-- RULES has changed: it takes effect at the next close, and at once while Roll Call does not run (Table ARC-6). -/
def rulesSplit (t : Time) (d : Dev) : Dev :=
  let d1 := if d.on Reg.ALN_STATUS.RUN then d
    else (rulTakeMode t d).setB Reg.RUL_STATUS.RUN 0
      (d.get Reg.GLB_SPLIT.RULES == 1 && d.on Reg.RUL_CTRL.EN && d.up islAna)
  if d.up islAna then pinsUpdate t d1 else d1

/-- What follows a change of GLB_SPLIT, each at its own boundary (Table ARC-6). -/
def splitEffects (t : Time) (old d : Dev) : Dev :=
  let was (f : Field) : Nat := old.get f
  let chg (f : Field) : Bool := was f != d.get f
  let d1 := if chg Reg.GLB_SPLIT.ALIGN then alnSplit t d else d
  let d2 := if was Reg.GLB_SPLIT.PHASOR = 2 ∧ d.get Reg.GLB_SPLIT.PHASOR = 1 ∧ d.up islRaw then fltSplit d1 else d1
  let d3 := if chg Reg.GLB_SPLIT.RULES then rulesSplit t d2 else d2
  let d4 := if chg Reg.GLB_SPLIT.MODAL then modalSplit t (was Reg.GLB_SPLIT.MODAL) d3 else d3
  let d5 := if chg Reg.GLB_SPLIT.CAPTURE ∧ d.get Reg.GLB_SPLIT.CAPTURE = 0 then captureSplit d4 else d4
  if chg Reg.GLB_SPLIT.DSPT then nextAll d5 else d5

def writeSplit (t : Time) (v : Word32) (d : Dev) : Dev := splitEffects t d (splitStored v d)

def execWriteGlbSplit (v : Word32) (s : State) : Host.Outcome State Fault Refusal :=
  run s fun t d => onWrite 0x20 (writeSplit t v) d

/-- GLB_LOCK is set (R30). -/
def glbLock (d : Dev) : Dev := d.set Reg.GLB_LOCK.LOCK 1

def execGlbLockSet (s : State) : Host.Outcome State Fault Refusal := run s fun _ d => onWrite 0x18 glbLock d

/-- GLB_DOZE: ENTER and WAKE (R619, R621). -/
def writeDoze (t : Time) (v : Word32) (d : Dev) : Dev :=
  let d1 := if bitOf v 0 then dozeEnter t d else d
  if bitOf v 1 then wakeCause t d1 else d1

def writeGlb (t : Time) (a : Nat) (v : Word32) (d : Dev) : Dev :=
  match a with
  | 0x0C => softReset t v d
  | 0x10 => islandReset t false v d
  | 0x14 => islandReset t true v d
  | 0x18 => if bitOf v 0 then glbLock d else d
  | 0x20 => writeSplit t v d
  | 0x28 => writeDoze t v d
  | 0x2C => writeGlbWake v d
  | _ => plainWrite a v d

/-! ## TKP -/

def tkpRej (d : Dev) : Dev := d.cause intTkp 10 0 0

/-- TKP_SERVO: a new INTERVAL sets new boundaries (R664). -/
def writeServo (t : Time) (v : Word32) (d : Dev) : Dev :=
  let d1 := plainWrite 0x10030 v d
  if d1.get Reg.TKP_SERVO.INTERVAL = d.get Reg.TKP_SERVO.INTERVAL then d1
  else d1.modTkp fun k => { k with lastUpd := servoIndex d1 t.ns }

/-- TKP_PTP: reserved values of ROLE and PROFILE are ignored and reported (Table TKP-17). -/
def writePtp (v : Word32) (d : Dev) : Dev :=
  if locked d then d
  else
    let bad := (if bits v.toNat 0 2 = 3 then [Reg.TKP_PTP.ROLE] else []) ++
      (if 4 ≤ bits v.toNat 16 3 then [Reg.TKP_PTP.PROFILE] else [])
    let d1 := writeKeeping bad 0x10054 v d
    let d2 := letGo engPtp 0 [d1.get Reg.TKP_PTP.KEY_SLOT] d1
    if bad.isEmpty then d2 else tkpRej d2

/-- TKP_REFn_CFG: another source is another reference, of which nothing has been heard (Table TKP-3, R46). -/
def writeRefCfg (n : Nat) (v : Word32) (d : Dev) : Dev :=
  let src := bits v.toNat 0 5
  if 22 ≤ src then tkpRej d
  else if src = d.getN Reg.TKP_REFn_CFG.SRC n then d
  else setSuspect n false (((cmpForget n d).setN Reg.TKP_REFn_CFG.SRC n src).setRef n default)

/-- TKP_REFn_STAT: writing 1 to SUSPECT re-admits the reference. -/
def writeRefStat (n : Nat) (v : Word32) (d : Dev) : Dev := if bitOf v 1 then setSuspect n false d else d

def writeTkp (t : Time) (a : Nat) (v : Word32) (d : Dev) : Dev :=
  match a with
  | 0x10020 => writeFreqLo v d
  | 0x10024 => writeFreqHi t v d
  | 0x10028 => writeAdj v d
  | 0x10030 => writeServo t v d
  | 0x10044 => utcWritten t d (plainWrite a v d)
  | 0x10048 => tinWritten d (plainWrite a v d)
  | 0x10054 => writePtp v d
  | 0x1006C => ppsRealign t (plainWrite a v d)
  | 0x10070 => if d.on Reg.TKP_ADJ_STAT.PEND then tkpRej d else plainWrite a v d
  | 0x10074 => if d.on Reg.TKP_ADJ_STAT.PEND then tkpRej d else plainWrite a v d
  | _ =>
    if 0x10100 ≤ a ∧ a < 0x10180 ∧ a % 0x20 = 0 then writeRefCfg ((a - 0x10100) / 0x20) v d
    else if 0x10100 ≤ a ∧ a < 0x10180 ∧ a % 0x20 = 0x10 then writeRefStat ((a - 0x10100) / 0x20) v d
    else plainWrite a v d

/-! ## HMP -/

def writeHmp (t : Time) (a : Nat) (v : Word32) (d : Dev) : Dev :=
  if a = 0x20000 then scrubEnable t (d.on Reg.HMP_CTRL.SCRUB_EN) (plainWrite a v d)
  else if 0x20010 ≤ a ∧ a < 0x20028 then writeHmpPart ((a - 0x20010) / 4) v d
  else plainWrite a v d

/-! ## Field ports -/

def fpRej (n : Nat) (d : Dev) : Dev := d.cause (intFp n) 4 n 0

/-- FP_PAIR (R153, Table FP-9). -/
def writePair (n : Nat) (v : Word32) (d : Dev) : Dev :=
  let a := 0x4002C + n * 0x2000
  let mode := bits v.toNat 0 2
  let differ := d.getN Reg.FP_CTRL.SPEED n != d.getN Reg.FP_CTRL.SPEED (n + 1) ||
    d.getN Reg.FP_CTRL.EN n != d.getN Reg.FP_CTRL.EN (n + 1)
  if n % 2 = 1 then d
  else writeChecked Reg.FP_PAIR.MODE (mode != 3 && !(mode != 0 && differ)) (fpRej n) a v d

/-- FP_TAS_CTRL (R133, R134). -/
def writeTasCtrl (t : Time) (n : Nat) (v : Word32) (d : Dev) : Dev :=
  let a := 0x40040 + n * 0x2000
  let vv := v &&& ~~~Reg.FP_TAS_CTRL.CONFIG_CHANGE.mask
  let pend := d.onN Reg.FP_TAS_STAT.PENDING n
  let len := bits v.toNat 0 8
  let bad := decide (128 < len) || (pend && len != d.getN Reg.FP_TAS_CTRL.ADMIN_LEN n)
  let d1 := if bad then fpRej n (writeKeeping [Reg.FP_TAS_CTRL.ADMIN_LEN] a vv d) else plainWrite a vv d
  if bitOf v 9 then configChange t n d1 else d1

/-- A gate control list entry (R134): neither the operational bank nor, while a change waits, the other is written. -/
def writeGate (n a : Nat) (v : Word32) (d : Dev) : Dev :=
  let bank := (a - (0x41000 + n * 0x2000)) / 0x400
  if d.onN Reg.FP_TAS_STAT.PENDING n ∨ bank = d.getN Reg.FP_TAS_STAT.OPER_BANK n then fpRej n d else plainWrite a v d

/-- FP_MSEC_TXSA: a newly installed association starts its packet numbers anew (R163). -/
def writeTxSa (n : Nat) (v : Word32) (d : Dev) : Dev :=
  let a := 0x40068 + n * 0x2000
  let d1 := letGo engMsecTx n [bits v.toNat 8 6] (plainWrite a v d)
  let new := bitOf v 16 && (!d.onN Reg.FP_MSEC_TXSA.VALID n || wouldChange [Reg.FP_MSEC_TXSA.AN, Reg.FP_MSEC_TXSA.KEY_SLOT] a v d)
  if new then d1.setN Reg.FP_MSEC_TXPN.PN n 1 else d1

/-- The selected receive association of a port. -/
def msecSel (d : Dev) (n : Nat) : Nat := saIdx (d.getN Reg.FP_MSEC_SEL.SC n) (d.getN Reg.FP_MSEC_SEL.AN n)

/-- FP_MSEC_SCI_LO and _HI: half of the selected channel's SCI. -/
def writeSci (n : Nat) (hi : Bool) (v : Word32) (d : Dev) : Dev :=
  d.modPort n fun p =>
    let k := d.getN Reg.FP_MSEC_SEL.SC n
    let s := tget p.sci k
    { p with sci := tset p.sci k (if hi then s % 2 ^ 32 + 2 ^ 32 * v.toNat else s / 2 ^ 32 * 2 ^ 32 + v.toNat) }

/-- FP_MSEC_RXSA: the selected association is installed, changed or removed. -/
def writeRxSa (n : Nat) (v : Word32) (d : Dev) : Dev :=
  let k := msecSel d n
  let o := tget (d.port n).rxSa k
  let slot := bits v.toNat 0 6
  let sa : RxSa := ⟨slot, bitOf v 8, if o.valid && bitOf v 8 && o.keySlot == slot then o.lowPn else 0⟩
  let d1 := d.modPort n fun p => { p with rxSa := tset p.rxSa k sa }
  letGo engMsecRx n ((d1.port n).rxSa.map fun e => e.2.keySlot) d1

def writeFp (t : Time) (a : Nat) (v : Word32) (d : Dev) : Dev :=
  let n := (a - 0x40000) / 0x2000
  let o := (a - 0x40000) % 0x2000
  let adm := if d.onN Reg.FP_TAS_STAT.PENDING n then fpRej n d else plainWrite a v d
  match o with
  | 0x000 => writeFpCtrl n v d
  | 0x014 =>
    let l := bits v.toNat 0 14
    writeChecked Reg.FP_FRAME.MAX_LEN (decide (64 ≤ l) && decide (l ≤ 9216)) (fpRej n) a v d
  | 0x018 => writeChecked Reg.FP_TXCFG.START_THR (decide (bits v.toNat 0 3 ≤ 4)) (fpRej n) a v d
  | 0x024 => writeChecked Reg.FP_PAUSE.MODE (decide (bits v.toNat 0 2 ≠ 3)) (fpRej n) a v d
  | 0x02C => writePair n v d
  | 0x040 => writeTasCtrl t n v d
  | 0x044 => adm
  | 0x048 => adm
  | 0x04C => adm
  | 0x050 => adm
  | 0x054 => adm
  | 0x060 => writeChecked Reg.FP_MSEC_CTRL.VALIDATE (decide (bits v.toNat 1 2 ≠ 3)) (fpRej n) a v d
  | 0x068 => writeTxSa n v d
  | 0x074 => writeSci n false v d
  | 0x078 => writeSci n true v d
  | 0x07C => writeRxSa n v d
  | _ => if 0x1000 ≤ o ∧ o < 0x1800 then writeGate n a v d else plainWrite a v d

/-! ## Fabric -/

def dxlRej (d : Dev) : Dev := d.cause intDxl 0 0 0

/-- DXL_CTRL.EN (R522, R551). -/
def writeDxlCtrl (t : Time) (v : Word32) (d : Dev) : Dev :=
  if bitOf v 0 then (if d.on Reg.DXL_CTRL.EN then d else fabricStart t d)
  else if d.on Reg.DXL_CTRL.EN then (fabricStop d).set Reg.DXL_CTRL.EN 0
  else d

/-- DXL_RELAY (R538, R539): PARENT is held while relay is on. -/
def writeRelay (v : Word32) (d : Dev) : Dev :=
  let on := d.on Reg.DXL_RELAY.EN
  let d1 := writeHeld (if on then [Reg.DXL_RELAY.PARENT] else []) dxlRej 0x60018
    ((v &&& ~~~1) ||| (if on then 1 else 0)) d
  if bitOf v 0 then relayEnable d1 else d1.set Reg.DXL_RELAY.EN 0

/-- DXL_LINKn_CFG (R517, R545). -/
def writeLinkCfg (l : Nat) (v : Word32) (d : Dev) : Dev :=
  let a := 0x60100 + l * 0x40
  let mode := bits v.toNat 1 2
  let on := d.onN Reg.DXL_LINKn_CFG.EN l
  let rest := [Reg.DXL_LINKn_CFG.MODE, Reg.DXL_LINKn_CFG.FEC, Reg.DXL_LINKn_CFG.FP, Reg.DXL_LINKn_CFG.TIME_EN,
    Reg.DXL_LINKn_CFG.KEY_SLOT, Reg.DXL_LINKn_CFG.AUTH]
  if 2 ≤ mode ∨ (mode = 1 ∧ (15 < bits v.toNat 4 5 ∨ bitOf v 3)) then dxlRej d
  else
    let vv := (v &&& ~~~1) ||| (if on then 1 else 0)
    let d1 := if on then writeHeld rest dxlRej a vv d else plainWrite a vv d
    let d2 := letGo engDaxide l [d1.getN Reg.DXL_LINKn_CFG.KEY_SLOT l] d1
    if bitOf v 0 != on || (bitOf v 0 && linkState d l == 3) then linkEnable l (bitOf v 0) d2 else d2

def writeDxl (t : Time) (a : Nat) (v : Word32) (d : Dev) : Dev :=
  match a with
  | 0x60000 => writeDxlCtrl t v d
  | 0x60008 =>
    let h := bits v.toNat 0 4
    writeChecked Reg.DXL_CFG.HOPS (decide (1 ≤ h) && decide (h ≤ 8)) dxlRej a v d
  | 0x60018 => writeRelay v d
  | 0x6001C =>
    let l := bits v.toNat 0 14
    if d.on Reg.DXL_RELAY.EN ∨ l < 512 ∨ 9000 < l then dxlRej d else plainWrite a v d
  | _ =>
    if 0x60100 ≤ a ∧ a < 0x60200 then
      let l := (a - 0x60100) / 0x40
      let o := (a - 0x60100) % 0x40
      if o = 0 then writeLinkCfg l v d
      else if o = 4 ∨ (0x20 ≤ o ∧ o < 0x30) then (if d.onN Reg.DXL_LINKn_CFG.EN l then dxlRej d else plainWrite a v d)
      else if o = 8 then
        let i := bits v.toNat 0 16
        writeChecked Reg.DXL_LINKn_KA.INT (decide (i = 0) || decide (100 ≤ i)) dxlRej a v d
      else plainWrite a v d
    else plainWrite a v d

end Sys2Proof.Machine
end

