-- ==== Sys2Proof/Machine/BusB.lean ====
section
/-!
DEFINITION. BAR0 writes to ingest, Roll Call, the converters, the lanes and the rules, with their table windows.
-/

namespace Sys2Proof.Machine

open Sys2Proof

/-- The entry and the word of an address in a table whose entries are `size` bytes. -/
def entryOf (base size a : Nat) : Nat × Nat := ((a - base) / size, (a - base) % size / 4)

/-- A write to a table word that the device may refuse as a whole. -/
def tableWrite (held : Bool) (rej : Dev → Dev) (a : Nat) (v : Word32) (d : Dev) : Dev := if held then rej d else d.putWord a v

/-! ## ING -/

/-- The key slots that ingest's entries name. -/
def ingestSlots (d : Dev) : List Nat :=
  ((List.range 512).map fun s => [d.getN Reg.T_SRC.KEY_SLOT s, d.getN Reg.T_SRC.KEY_SLOT2 s]).flatten ++
    ((List.range 64).map fun s => d.getN Reg.T_SVSUB.KEY_SLOT s) ++ (List.range 128).map fun g => d.getN Reg.T_GSUB.KEY_SLOT g

/-- After a write to an ingest table, the keys that no entry names any more are let go (R558). -/
def ingestKeys (d : Dev) : Dev :=
  if d.keys.held.any fun h => h.1 == engIngest then letGo engIngest 0 (ingestSlots d) d else d

/-- A subscription whose VALID rises starts with no state. -/
def writeGoose (a : Nat) (v : Word32) (d : Dev) : Dev :=
  let e := entryOf 0x20E000 64 a
  let d1 := d.putWord a v
  if e.2 = 0 ∧ bitOf v 0 ∧ !d.onN Reg.T_GSUB.VALID e.1 then modGoose e.1 (fun _ => default) d1 else d1

def writeIng (t : Time) (a : Nat) (v : Word32) (d : Dev) : Dev :=
  if a < 0x200000 then plainWrite a v d
  else if a < 0x208000 then ingestKeys (writeSourceEntry t a v d)
  else if 0x20E000 ≤ a ∧ a < 0x210000 then ingestKeys (writeGoose a v d)
  else if 0x20C000 ≤ a ∧ a < 0x20E000 then ingestKeys (d.putWord a v)
  else plainWrite a v d

/-! ## ALN -/

/-- ALN_CTRL (R256 to R258, Table ALN-10). -/
def writeAlnCtrl (t : Time) (v : Word32) (d : Dev) : Dev :=
  let on := d.on Reg.ALN_CTRL.EN
  let vv := (v &&& ~~~1) ||| (if on then 1 else 0)
  let d1 :=
    if on then writeHeld [Reg.ALN_CTRL.SPREAD_RATE, Reg.ALN_CTRL.LAG_RSV] alnRej 0x80000 vv d
    else writeChecked Reg.ALN_CTRL.SPREAD_RATE (decide (Reg.ALN_CTRL.SPREAD_RATE.ofWord v < 12)) alnRej 0x80000 vv d
  if bitOf v 0 then (if on then d1 else rollCallStart t d1) else if on then rollCallStop t d1 else d1

/-- ALN_WAIT (R258, Table ALN-12). -/
def writeAlnWait (v : Word32) (d : Dev) : Dev :=
  let w := Reg.ALN_WAIT.WAIT.ofWord v
  if d.on Reg.ALN_CTRL.EN ∨ w < 1000 ∨ 10000000 < w then alnRej d else plainWrite 0x8000C v d

/-- An enabled output reads pool entry e. -/
def poolUsed (d : Dev) (e : Nat) : Bool :=
  (List.range 32).any fun n => d.onN Reg.ALN_OUTn_CFG.EN n && decide (outFirst d n ≤ e) &&
    decide (e < outFirst d n + d.getN Reg.ALN_OUTn_MAP.COUNT n)

/-- An enabled output decimates with coefficient set k. -/
def coefUsed (d : Dev) (k : Nat) : Bool :=
  (List.range 32).any fun n => d.onN Reg.ALN_OUTn_CFG.EN n &&
    (outEntries d n).any fun e => entryDecimates d e && d.getN Reg.T_POOL.COEF e == k

/-- ALN_COEFn (Table ALN-15). -/
def writeCoef (k : Nat) (v : Word32) (d : Dev) : Dev :=
  let w := Reg.ALN_COEFn.NTAPS.ofWord v
  if (w ≠ 0 ∧ w % 2 = 0) ∨ coefUsed d k then alnRej d else plainWrite (0x80080 + 4 * k) v d

/-- ALN_OUTn_CFG: while EN = 1 only EN itself is written (R240, R241). -/
def writeOutCfg (t : Time) (n : Nat) (v : Word32) (d : Dev) : Dev :=
  let a := 0x80100 + 0x20 * n
  let all := (fieldsAt a).filter fun f => decide (f ≠ Reg.ALN_OUTn_CFG.EN)
  let d1 :=
    if d.onN Reg.ALN_OUTn_CFG.EN n then
      let x := writeHeld all alnRej a (v ||| 1) d
      if bitOf v 0 then x else outputOff n x
    else
      let x := plainWrite a (v &&& ~~~1) d
      if bitOf v 0 then outputEnable t n x else x
  letGo engOutput n [d1.getN Reg.ALN_OUTn_CFG.KEY_SLOT n] d1

def writeAln (t : Time) (a : Nat) (v : Word32) (d : Dev) : Dev :=
  if a = 0x80000 then writeAlnCtrl t v d
  else if a = 0x8000C then writeAlnWait v d
  else if 0x80080 ≤ a ∧ a < 0x800A0 then writeCoef ((a - 0x80080) / 4) v d
  else if 0x80100 ≤ a ∧ a < 0x80500 then
    let e := entryOf 0x80100 0x20 a
    if e.2 = 0 then writeOutCfg t e.1 v d
    else if 1 ≤ e.2 ∧ e.2 ≤ 7 ∧ d.onN Reg.ALN_OUTn_CFG.EN e.1 then alnRej d
    else plainWrite a v d
  else if a < 0x240000 then plainWrite a v d
  else if a < 0x242000 then
    let e := entryOf 0x240000 16 a
    if e.2 = 0 then attrWrite t e.1 v d else plainWrite a v d
  else if a < 0x244000 then tableWrite (d.onN Reg.ALN_OUTn_CFG.EN (entryOf 0x242000 256 a).1) alnRej a v d
  else if 0x248000 ≤ a ∧ a < 0x258000 then tableWrite (poolUsed d (entryOf 0x248000 16 a).1) alnRej a v d
  else plainWrite a v d

/-! ## ADC -/

/-- ADC_CTRL: the value 3 of FMT and of DIAG_CV is rejected (Tables ADC-5 and ADC-8). -/
def writeAdcCtrl (v : Word32) (d : Dev) : Dev :=
  let bad := [Reg.ADC_CTRL.FMT, Reg.ADC_CTRL.DIAG_CV].filter fun f => f.ofWord v == 3
  let d1 := writeKeeping bad 0xA0000 v d
  if bad.isEmpty then d1 else adcRej d1

/-- ADC_REF: EXT is held while EN = 1. -/
def writeAdcRef (t : Time) (v : Word32) (d : Dev) : Dev :=
  let on := d.on Reg.ADC_REF.EN
  let vv := (v &&& ~~~1) ||| (if on then 1 else 0)
  let d1 := if on then writeHeld [Reg.ADC_REF.EXT] adcRej 0xA0004 vv d else plainWrite 0xA0004 vv d
  if bitOf v 0 then refEnable t d1 else if on then refOff (d1.set Reg.ADC_REF.EN 0) else d1

/-- ADC_CVn_CTRL (R275, R277). -/
def writeCvCtrl (t : Time) (n : Nat) (v : Word32) (d : Dev) : Dev :=
  let d1 := plainWrite (0xA0040 + 0x40 * n) (v &&& 9) d
  let d2 := if d.onN Reg.ADC_CVn_CTRL.EN n && !bitOf v 0 then adcStop n d1 else d1
  let d3 := if bitOf v 1 then adcGo t n d2 else d2
  if bitOf v 2 then adcStop n d3 else d3

/-- A converter is armed or running. -/
def cvBusy (d : Dev) (n : Nat) : Bool := cvArmed d n || cvRuns d n

/-- An itinerary entry that the start of an armed or running converter walked. -/
def itinHeld (d : Dev) (e : Nat) : Bool := (List.range 2).any fun n => cvBusy d n && (d.cv n).walked.contains e

def writeAdc (t : Time) (a : Nat) (v : Word32) (d : Dev) : Dev :=
  if a = 0xA0000 then writeAdcCtrl v d
  else if a = 0xA0004 then writeAdcRef t v d
  else if 0xA0040 ≤ a ∧ a < 0xA00C0 then
    let e := entryOf 0xA0040 0x40 a
    let ns := Reg.ADC_CVn_SLOT.NS.ofWord v
    match e.2 with
    | 0 => writeCvCtrl t e.1 v d
    | 1 => if cvBusy d e.1 ∨ ns < 500 ∨ 1000000000 % ns ≠ 0 then adcRej d else plainWrite a v d
    | 2 => if cvBusy d e.1 then adcRej d else plainWrite a v d
    | 3 => if cvBusy d e.1 then adcRej d else plainWrite a v d
    | _ => plainWrite a v d
  else if 0x260000 ≤ a ∧ a < 0x260400 then tableWrite (itinHeld d (entryOf 0x260000 8 a).1) adcRej a v d
  else plainWrite a v d

/-! ## FLT -/

def writeFlt (t : Time) (a : Nat) (v : Word32) (d : Dev) : Dev :=
  if a = 0xB0020 then swapGo v d
  else if a < 0x270000 then plainWrite a v d
  else if a < 0x278000 then
    let e := entryOf 0x270000 64 a
    if e.2 = 0 then laneEnable t e.1 v d else laneWrite e.1 e.2 v d
  else if a < 0x27A000 then
    let e := entryOf 0x278000 16 a
    if e.2 = 0 ∧ bitOf v 31 then laneSyncRequest e.1 d else d
  else if a < 0x27A800 then
    let e := entryOf 0x27A000 16 a
    if e.2 = 0 then groupValidate t e.1 v d else tableWrite (d.onN Reg.T_GROUP.VALID e.1) fltRej a v d
  else if 0x280000 ≤ a ∧ a < 0x2A0000 then
    let e := entryOf 0x280000 0x800 a
    if e.2 = 0 then coefSetValidate e.1 v d else coefWrite a v d
  else plainWrite a v d

/-! ## RUL -/

/-- RUL_CTRL: what runs, and with DIS_POL which rules count as ACTIVE. -/
def writeRulCtrl (t : Time) (v : Word32) (d : Dev) : Dev :=
  let d1 := plainWrite 0xC0000 v d
  pinsUpdate t (d1.setB Reg.RUL_STATUS.RUN 0 (rulMode d1 == 1 && d1.on Reg.RUL_CTRL.EN))

/-- RUL_ACK (R359, R365). -/
def writeRulAck (t : Time) (v : Word32) (d : Dev) : Dev :=
  let d1 := if bitOf v 12 then ruleAck t (bits v.toNat 0 12) d else d
  if bitOf v 13 then integAck t d1 else d1

/-- RUL_PINn (R368, R369). -/
def writePin (t : Time) (n : Nat) (v : Word32) (d : Dev) : Dev :=
  let d1 := plainWrite (0xC0030 + 4 * n) (v &&& ~~~Reg.RUL_PINn.REL.mask) d
  if bitOf v 4 then pinRelease t n d1 else pinUpdate t n d1

/-- A word of a table that both engines hold. -/
def copiedWrite (held : Bool) (a : Nat) (v : Word32) (d : Dev) : Dev := if held then rulRej d else bothCopies a (d.putWord a v)

/-- A word of a GOOSE template (R371). -/
def writeTemplate (t : Time) (a : Nat) (v : Word32) (d : Dev) : Dev :=
  let e := entryOf 0x350000 512 a
  if e.2 = 0 then
    let d1 := templateEnable t e.1 v d
    letGo engTemplate e.1 [d1.getN Reg.T_GTMPL.KEY_SLOT e.1] d1
  else tableWrite (d.onN Reg.T_GTMPL.EN e.1) rulRej a v d

def writeRul (t : Time) (a : Nat) (v : Word32) (d : Dev) : Dev :=
  if a = 0xC0000 then writeRulCtrl t v d
  else if a = 0xC0014 then writeRulAck t v d
  else if 0xC0030 ≤ a ∧ a < 0xC0040 then writePin t ((a - 0xC0030) / 4) v d
  else if 0xC0400 ≤ a ∧ a < 0xC0600 then hstateWrite t ((a - 0xC0400) / 4) v d
  else if a < 0x300000 then plainWrite a v d
  else if a < 0x320000 then
    let e := entryOf 0x300000 32 a
    if e.2 = 0 then ruleValidate e.1 v d else copiedWrite (d.onN Reg.T_RULE.VALID e.1) a v d
  else if 0x330000 ≤ a ∧ a < 0x330400 then
    let e := entryOf 0x330000 16 a
    if e.2 = 0 then areaValidate e.1 v d else copiedWrite (d.onN Reg.T_AREA.VALID e.1) a v d
  else if 0x330800 ≤ a ∧ a < 0x332800 then copiedWrite (memberUsed d (entryOf 0x330800 8 a).1 none) a v d
  else if 0x334000 ≤ a ∧ a < 0x33BE00 then copiedWrite false a v d
  else if 0x344000 ≤ a ∧ a < 0x34C000 then
    let e := entryOf 0x344000 32 a
    if e.2 = 0 then detectorValidate e.1 v d else copiedWrite (d.onN Reg.T_QDET.VALID e.1) a v d
  else if 0x350000 ≤ a ∧ a < 0x358000 then writeTemplate t a v d
  else plainWrite a v d

end Sys2Proof.Machine
end

