-- ==== Sys2Proof/Machine/RingControl.lean ====
section
/-!
DEFINITION. Disabling a ring, which reaches into every engine that works for it (R463).
-/

namespace Sys2Proof.Machine

open Sys2Proof

/-- EN goes from 1 to 0 (R463): descriptors not started complete with ABORTED_RESET, Dispatch waits of the ring end, and
the ring stops once its started work is done. -/
def ringDisable (n : Nat) (d : Dev) : Dev :=
  let d0 := d.setN Reg.HIF_RINGn_CTRL.EN n 0
  if ringState d n = 0 ∨ ringState d n = 2 then d0
  else ringGone n ((dspRingEnd n (abortTaken n d0)).setN Reg.HIF_RINGn_STAT.STATE n 2)

def execRingDisable (n : Nat) (s : State) : Host.Outcome State Fault Refusal :=
  run s fun _ d => if n < 256 then onWrite 0xF2000 (ringDisable n) d else d

end Sys2Proof.Machine
end

