-- ==== Sys2Proof/Machine/BusC.lean ====
section
/-!
DEFINITION. BAR0 writes to the modal engine, capture, the host rings, Dispatch, the Logbook reader and Lookout, with their
table windows.
-/

namespace Sys2Proof.Machine

open Sys2Proof

/-- A write in which some fields carry a value that is rejected: they keep theirs, and the write is reported. -/
def writeRefusing (bad : List Field) (rej : Dev → Dev) (a : Nat) (v : Word32) (d : Dev) : Dev :=
  let d1 := writeKeeping bad a v d
  if bad.isEmpty then d1 else rej d1

/-! ## MOD -/

/-- LANES, BINS and what R421 names with them are held while EN = 1, and until the engine has stopped. -/
def mdlHeld (d : Dev) : Bool := d.on Reg.MOD_CTRL.EN || mdlRuns d

/-- MOD_CTRL (R418, R420, R421). -/
def writeModCtrl (t : Time) (v : Word32) (d : Dev) : Dev :=
  let on := d.on Reg.MOD_CTRL.EN
  let vv := (v &&& ~~~1) ||| (if on then 1 else 0)
  let d1 := writeHeld (if mdlHeld d then [Reg.MOD_CTRL.LANES, Reg.MOD_CTRL.BINS] else []) modRej 0xD0000 vv d
  if bitOf v 0 then modalEnable t d1 else if on then modalStop (d1.set Reg.MOD_CTRL.EN 0) else d1

/-- The fields of a modal register that carry a rejected value (Tables MOD-12 and MOD-13). -/
def modBad (a : Nat) (v : Word32) : List Field :=
  let n := v.toNat
  match a with
  | 0xD0010 => (if bits n 0 4 < 6 ∨ 12 < bits n 0 4 then [Reg.MOD_SEG.NSH] else []) ++
      (if 10 < bits n 4 4 then [Reg.MOD_SEG.FSH] else [])
  | 0xD0014 => if bits n 0 10 < 5 ∨ 600 < bits n 0 10 then [Reg.MOD_EPOCH.EPOCH] else []
  | 0xD0018 => if 16 < bits n 0 5 then [Reg.MOD_DEC.ITER] else []
  | 0xD002C => if 16 < bits n 16 5 then [Reg.MOD_REF.NPEAK_MAX] else []
  | _ => []

def writeMod (t : Time) (a : Nat) (v : Word32) (d : Dev) : Dev :=
  if a = 0xD0000 then writeModCtrl t v d
  else if 0xD000C ≤ a ∧ a ≤ 0xD0014 ∧ mdlHeld d then modRej d
  else if 0x360000 ≤ a ∧ a < 0x362200 then (if mdlHeld d then modRej d else d.putWord a v)
  else writeRefusing (modBad a v) modRej a v d

/-! ## CAP -/

/-- CAP_CTRL (R426, R456). -/
def writeCapCtrl (v : Word32) (d : Dev) : Dev :=
  if bitOf v 0 then (if d.on Reg.CAP_CTRL.EN then d else captureStart d)
  else if d.on Reg.CAP_CTRL.EN then captureStop (d.set Reg.CAP_CTRL.EN 0) else d

/-- CAP_ENGn_CTRL: TIMED, then ARM, DISARM and REL (R438, R439, R442, R453). -/
def writeEngCtrl (t : Time) (n : Nat) (v : Word32) (d : Dev) : Dev :=
  let d1 := d.setN Reg.CAP_ENGn_CTRL.TIMED n (bits v.toNat 1 1)
  let d2 := if bitOf v 0 then captureArm t n d1 else d1
  let d3 := if bitOf v 2 then captureDisarm n d2 else d2
  if bitOf v 3 then captureRelease t n d3 else d3

/-- A word of a trigger definition or of a mask. -/
def writeCapDef (a : Nat) (v : Word32) (d : Dev) : Dev :=
  if a < 0x373000 then
    let k := (a - 0x371000) / 0x20
    if (a - 0x371000) % 0x20 = 0 then triggerValidate k v d
    else if d.onN Reg.T_CTRIG.VALID k then capRej d else d.putWord a v
  else
    let k := (a - 0x373000) / 0x100
    if (a - 0x373000) % 0x100 = 0 then maskValidate k v d
    else if d.onN Reg.T_CMASK.VALID k then capRej d else d.putWord a v

def writeCap (t : Time) (a : Nat) (v : Word32) (d : Dev) : Dev :=
  if a = 0xE0000 then writeCapCtrl v d
  else if a = 0xE0010 then softwareTrigger t v d
  else if 0xE0100 ≤ a ∧ a < 0xE0300 then
    let n := (a - 0xE0100) / 0x40
    let o := (a - 0xE0100) % 0x40
    if o = 0 then writeEngCtrl t n v d
    else if 4 ≤ o ∧ o ≤ 0x14 ∧ engState d n ≠ 0 then capRej d
    else plainWrite a v d
  else if 0x370000 ≤ a ∧ a < 0x371000 then
    if engState d ((a - 0x370000) / 0x200) ≠ 0 then capRej d else d.putWord a v
  else if 0x371000 ≤ a ∧ a < 0x375000 then writeCapDef a v d
  else plainWrite a v d

/-! ## HIF -/

def hifRej (n : Nat) (d : Dev) : Dev := d.cause intHif 4 n 0

/-- A descriptor waits on token k (R481). -/
def tokenWaited (d : Dev) (k : Nat) : Bool :=
  d.hif.rings.any fun r => !toHost r.2.cls && r.2.taken.any fun h =>
    dWait h.words && dWaitTok h.words == k && !h.released && !tokenReached d k (dWaitVal h.words)

/-- A register of ring n. EN = 0 disables the ring (R463). EN = 1 makes the device read the control block; what that read
returns comes with the enable itself, so the write alone changes nothing. -/
def writeRing (n o a : Nat) (v : Word32) (d : Dev) : Dev :=
  if o = 0 then (if bitOf v 0 then d else if d.onN Reg.HIF_RINGn_CTRL.EN n then ringDisable n d else d)
  else if (o = 4 ∨ o = 8) ∧ d.onN Reg.HIF_RINGn_CTRL.EN n then hifRej n d
  else plainWrite a v d

def writeHif (t : Time) (a : Nat) (v : Word32) (d : Dev) : Dev :=
  if a = 0xF0000 then msiFlush (plainWrite a v d)
  else if a = 0xF0010 then heartbeat t v d
  else if 0xF0100 ≤ a ∧ a < 0xF0200 then (if tokenWaited d ((a - 0xF0100) / 4) then d else plainWrite a v d)
  else if 0xF2000 ≤ a ∧ a < 0xF4000 then writeRing ((a - 0xF2000) / 0x20) ((a - 0xF2000) % 0x20) a v d
  else if 0xF8000 ≤ a ∧ a < 0xF8400 then msiFlush (plainWrite a v d)
  else plainWrite a v d

/-! ## DSP -/

/-- DSP_TICK: held while EN = 1, and else 10 to 10,000 µs that divide a second. -/
def writeTick (v : Word32) (d : Dev) : Dev :=
  let u := Reg.DSP_TICK.US.ofWord v
  if d.on Reg.DSP_CTRL.EN then d
  else if u < 10 ∨ 10000 < u ∨ 1000000 % u ≠ 0 then dspRej d
  else plainWrite 0x100004 v d

/-- DSP_SPILL_CFG (Table DSP-11). -/
def writeSpillCfg (v : Word32) (d : Dev) : Dev :=
  let l := Reg.DSP_SPILL_CFG.LOG2.ofWord v
  if d.on Reg.DSP_CTRL.EN then d
  else if l ≠ 0 ∧ (l < 12 ∨ 16 < l) then dspRej d
  else plainWrite 0x100018 v d

def writeDsp (a : Nat) (v : Word32) (d : Dev) : Dev :=
  if a = 0x100000 then nextAll (plainWrite a v d)
  else if a = 0x100004 then writeTick v d
  else if a = 0x100010 ∨ a = 0x100014 then (if d.on Reg.DSP_CTRL.EN then d else plainWrite a v d)
  else if a = 0x100018 then writeSpillCfg v d
  else if 0x380000 ≤ a ∧ a < 0x388000 then
    let th := (a - 0x380000) / 16
    if (a - 0x380000) % 16 = 0 then threadValidate th v d
    else if d.onN Reg.T_THREAD.VALID th then dspRej d else d.putWord a v
  else plainWrite a v d

/-! ## The Logbook reader, Lookout and the code limits -/

/-- LOG_RD_CTRL: GO, then STOP (R583, R587). -/
def writeReader (lb : Logbook) (v : Word32) (d : Dev) : Dev := logReadStop lb v (logReadGo lb v d)

def writeLog (lb : Logbook) (a : Nat) (v : Word32) (d : Dev) : Dev :=
  if a = 0x120034 then writeReader lb v d else plainWrite a v d

def writeLko (t : Time) (a : Nat) (v : Word32) (d : Dev) : Dev :=
  if a = 0x128008 then lkoSnapshot t v d
  else if 0x3C2000 ≤ a ∧ a < 0x3C2400 then
    let p := (a - 0x3C2000) / 16
    if (a - 0x3C2000) % 16 = 0 then probeWrite0 p v d else probeWriteRest a v d
  else plainWrite a v d

end Sys2Proof.Machine
end

