-- ==== Sys2Proof/Machine/Bus.lean ====
section
/-!
DEFINITION. The BAR0 bus: where a write goes, what a read returns and does, the access paths, and the block commands of the
CMD rings (R5 to R7, R35, R459, R460, R473, R616, R632).
-/

namespace Sys2Proof.Machine

open Sys2Proof

/-- Bytes of BAR0 (Table HIF-1). -/
def bar0Bytes : Nat := 0x400000

/-! ## Writes -/

/-- A write that reaches its block, by the block or the table window its address lies in (Tables MAP-1 and MAP-2). -/
def blockWrite (t : Time) (lb : Logbook) (a : Nat) (v : Word32) (d : Dev) : Dev :=
  if a < 0x10000 then writeGlb t a v d
  else if a < 0x20000 then writeTkp t a v d
  else if a < 0x40000 then writeHmp t a v d
  else if a < 0x60000 then writeFp t a v d
  else if a < 0x70000 then writeDxl t a v d
  else if a < 0x80000 then writeIng t a v d
  else if a < 0xA0000 then writeAln t a v d
  else if a < 0xB0000 then writeAdc t a v d
  else if a < 0xC0000 then writeFlt t a v d
  else if a < 0xD0000 then writeRul t a v d
  else if a < 0xE0000 then writeMod t a v d
  else if a < 0xF0000 then writeCap t a v d
  else if a < 0x100000 then writeHif t a v d
  else if a < 0x110000 then writeDsp a v d
  else if a < 0x120000 then plainWrite a v d
  else if a < 0x128000 then writeLog lb a v d
  else if a < 0x130000 then writeLko t a v d
  else if a < 0x200000 then plainWrite a v d
  else if a < 0x240000 then writeIng t a v d
  else if a < 0x260000 then writeAln t a v d
  else if a < 0x270000 then writeAdc t a v d
  else if a < 0x300000 then writeFlt t a v d
  else if a < 0x360000 then writeRul t a v d
  else if a < 0x370000 then writeMod t a v d
  else if a < 0x380000 then writeCap t a v d
  else if a < 0x3A0000 then writeDsp a v d
  else if 0x3A0800 ≤ a ∧ a < 0x3A1000 then remoteEntryWrite t a v d
  else if a < 0x3C2000 then plainWrite a v d
  else writeLko t a v d

/-- A 4-byte write: an address that is not 4-byte aligned has byte enables that are not all set, and the write is
discarded (R632); so is one beyond BAR0 or to an offset that no block defines (R459). -/
def busWrite (t : Time) (lb : Logbook) (a : Nat) (v : Word32) (d : Dev) : Dev :=
  if a % 4 ≠ 0 ∨ bar0Bytes ≤ a ∨ (fieldsAt a).isEmpty then d else onWrite a (blockWrite t lb a v) d

def execWriteRegister (_p : Path) (addr : Nat) (v : Word32) (s : State) : Host.Outcome State Fault Refusal :=
  runLog s fun t lb d => (lb, busWrite t lb addr v d)

def execWriteIslandInReset (_p : Path) (addr : Nat) (v : Word32) (s : State) : Host.Outcome State Fault Refusal :=
  runLog s fun t lb d => (lb, busWrite t lb addr v d)

/-! ## What a word reads as -/

/-- The short-time count, the time estimates and the frequency word as they stand (R35, R66, Tables TKP-1 and TKP-13). -/
def liveTkp (t : Time) (a : Nat) (d : Dev) : Option Nat :=
  match a with
  | 0x10008 => some t.nsec
  | 0x10014 => some t.st32
  | 0x10020 => some (freqBits d)
  | 0x10064 => some (errWord t d)
  | 0x10068 => some (tqOutWord t d)
  | _ => none

/-- A port's registers that show what FP_MSEC_SEL selects; FP_PAIR and FP_PAIR_STAT of an odd port read 0. -/
def liveFp (a : Nat) (d : Dev) : Option Nat :=
  let n := (a - 0x40000) / 0x2000
  let sc := d.getN Reg.FP_MSEC_SEL.SC n
  let sa := tget (d.port n).rxSa (msecSel d n)
  match (a - 0x40000) % 0x2000 with
  | 0x02C => if n % 2 = 1 then some 0 else none
  | 0x030 => if n % 2 = 1 then some 0 else none
  | 0x074 => some (tget (d.port n).sci sc)
  | 0x078 => some (tget (d.port n).sci sc / 2 ^ 32)
  | 0x07C => some (sa.keySlot + 256 * b2n sa.valid)
  | 0x080 => some sa.lowPn
  | _ => none

/-- FLT_SETTLE_LANEn.N at the lane's current settings (R314). -/
def liveSettle (a : Nat) (d : Dev) : Option Nat :=
  let n := (a - 0xB1000) / 4
  if laneFs d n ≠ 0 ∧ laneRate d n ≠ 0 ∧ laneFs d n % laneRate d n = 0 then
    some (settleOutputs d n 0 % 2 ^ 16 + 2 ^ 16 * d.getN Reg.FLT_SETTLE_LANEn.REMAIN n)
  else none

/-- Every result slot reads 0x7FC0_0004 while the engine is stopped or GLB_SPLIT.MODAL ≠ 1; an unused one reads 0x7FC0_0001
(R415, Table MOD-6). -/
def liveSlot (a : Nat) (d : Dev) : Option Nat :=
  if d.get Reg.GLB_SPLIT.MODAL ≠ 1 ∨ !mdlRuns d then some wInvalid.toNat
  else if !d.onN Reg.T_MSLOT.EN ((a - 0x363400) / 4) then some wMissing.toNat
  else none

/-- The words that are formed when they are read. -/
def liveWord (t : Time) (a : Nat) (d : Dev) : Option Nat :=
  if a < 0x20000 then liveTkp t a d
  else if a = 0x2006C then some (mapDataWord d)
  else if 0x40000 ≤ a ∧ a < 0x60000 then liveFp a d
  else if 0xB1000 ≤ a ∧ a < 0xB1800 then liveSettle a d
  else if a = 0x130004 then some (d.word a &&& 0xF |>.toNat) |>.map (· + 256 * stageSlots d)
  else if 0x363400 ≤ a ∧ a < 0x363500 then liveSlot a d
  else none

/-- The word a read returns: WO fields read 0. -/
def readWord (t : Time) (a : Nat) (d : Dev) : Word32 :=
  match liveWord t a d with
  | some n => BitVec.ofNat 32 n
  | none => d.word a &&& ~~~maskOf ((fieldsAt a).filter fun f => decide (f.acc = .wo))

/-! ## Halves of 64-bit values (R5 to R7, R35) -/

/-- The high halves that a read of this low half latches, with their values. -/
def highHalves (t : Time) (a : Nat) (d : Dev) : List (Nat × Nat) :=
  let secs (lo ns_ : Nat) : List (Nat × Nat) := [(lo + 4, ns_ % 2 ^ 32), (lo + 8, ns_ / 2 ^ 32 % 2 ^ 16)]
  match a with
  | 0x10008 => secs a t.sec
  | 0x10014 => [(0x10018, t.epoch)]
  | 0x10020 => [(0x10024, freqBits d / 2 ^ 32)]
  | 0x20060 => [(0x20064, d.get Reg.HMP_MAPFULL_HI.BANK)]
  | 0x80020 => [(0x80024, d.get Reg.ALN_LAST_SL.SEC), (0x80028, d.get Reg.ALN_LAST_SH.SEC)]
  | 0xD0040 => [(0xD0044, d.get Reg.MOD_LAST_SL.SEC), (0xD0048, d.get Reg.MOD_LAST_SH.SEC)]
  | _ =>
    if 0x40000 ≤ a ∧ a < 0x60000 ∧ 0x800 ≤ a % 0x2000 ∧ a % 0x2000 < 0x900 ∧ a % 8 = 0 then
      [(a + 4, (d.word (a + 4)).toNat)]
    else []

/-- Is the word the high half of a value whose low half latches it? -/
def isHigh (a : Nat) : Bool :=
  [0x1000C, 0x10010, 0x10018, 0x10024, 0x20064, 0x80024, 0x80028, 0xD0044, 0xD0048].contains a ||
    (decide (0x40000 ≤ a) && decide (a < 0x60000) && decide (0x800 ≤ a % 0x2000) && decide (a % 0x2000 < 0x900) && a % 8 == 4)

/-! ## Reads -/

/-- What a read does beside returning the word: RC fields are cleared (Table SCP-3), and the registers whose clearing starts
something anew (Tables ADC-11 and RUL-19). -/
def readClears (a : Nat) (d : Dev) : Dev :=
  let m := maskOf ((fieldsAt a).filter fun f => decide (f.acc = .rc))
  let d1 : Dev := if m = 0 then d else { d with regs := rput d.regs a (d.word a &&& ~~~m) }
  if a = 0xC0020 then d1.modRul fun x => { x with integSeen := false }
  else if a = 0xA0068 ∨ a = 0xA00A8 then d1.modCv ((a - 0xA0068) / 0x40) fun c => { c with tdcSeen := false }
  else d1

/-- A read that reaches its block. -/
def blockRead (t : Time) (p : Path) (a : Nat) (d : Dev) : Dev :=
  if isHigh a then d.readShadow p a
  else if 0x100100 ≤ a ∧ a < 0x100220 ∧ a % 16 = 8 then
    (if mayTake p ((a - 0x100100) / 16) d then dspTake p ((a - 0x100100) / 16) d else d.answer p 0)
  else
    let hs := highHalves t a d
    readClears a (hs.foldl (fun x h => x.latch p h.1 h.2) (d.answer p (readWord t a d)))

/-- A 4-byte read: the whole word, whatever its byte enables (R632); an offset that no block defines reads 0 (R459), and an
island that does not accept requests answers 0 and sets ISL_RST_RD (R460). -/
def busRead (t : Time) (p : Path) (addr : Nat) (d : Dev) : Dev :=
  let a := addr / 4 * 4
  if bar0Bytes ≤ a ∨ (fieldsAt a).isEmpty then d.answer p 0
  else if d.up (islandOf a) then blockRead t p a d
  else if d.pwr.released then (d.set Reg.GLB_STATUS.ISL_RST_RD 1).answer p 0
  else d.answer p 0

def execReadClearOnRead (p : Path) (addr : Nat) (s : State) : Host.Outcome State Fault Refusal :=
  run s fun t d => busRead t p addr d

def execReadLowHalf (p : Path) (addr : Nat) (s : State) : Host.Outcome State Fault Refusal :=
  run s fun t d => busRead t p addr d

def execReadHighHalf (p : Path) (addr : Nat) (s : State) : Host.Outcome State Fault Refusal :=
  run s fun t d => busRead t p addr d

def execReadIslandInReset (p : Path) (addr : Nat) (s : State) : Host.Outcome State Fault Refusal :=
  run s fun t d => busRead t p addr d

def execReadTkpNowNs (p : Path) (s : State) : Host.Outcome State Fault Refusal := run s fun t d => busRead t p 0x10008 d

/-! ## Block commands of the CMD rings (R473) -/

/-- OFS of a block command. -/
def blkOfs (ws : DescWords) : Nat := dBytes ws 24 4

/-- A block command that does nothing: REJECTED. -/
def blkBad (ws : DescWords) : Bool :=
  dLen ws % 4 != 0 || decide (0x100000 < dLen ws) || blkOfs ws % 4 != 0 || decide (bar0Bytes < blkOfs ws + dLen ws)

/-- The head of a CMD ring runs: refused, skipped for LEN 0, or performed. -/
def cmdBlock (t : Time) (n op : Nat) (f : DescWords → Dev → Dev) (d : Dev) : Dev :=
  match startable d n clsCmd op with
  | none => d
  | some h =>
    if blkBad h.words then completeHead t n h stRejected 0 [] d
    else if dLen h.words = 0 then completeHead t n h stSkipped 0 [] d
    else endStarted n h.idx stOk (dLen h.words) [] none (f h.words (startHead t n h d))

/-- WRITE_BLOCK: the words read from host memory, in ascending address order, each under its register's rules. -/
def writeBlock (t : Time) (lb : Logbook) (src : List Word32) (ws : DescWords) (d : Dev) : Dev :=
  (List.range (dLen ws / 4)).foldl (fun x i => busWrite t lb (blkOfs ws + 4 * i) (src.getD i 0) x) d

def execCmdWriteBlock (n : Nat) (src : List Word32) (s : State) : Host.Outcome State Fault Refusal :=
  runLog s fun t lb d => (lb, cmdBlock t n 0x10 (writeBlock t lb src) d)

/-- The words of a READ_BLOCK, read one after another on the CMD engine's own path. -/
def readBlockWords (t : Time) (ofs : Nat) : Nat → Dev → List Word32 × Dev
  | 0, d => ([], d)
  | k + 1, d =>
    let d1 := busRead t .cmd ofs d
    let r := readBlockWords t (ofs + 4) k d1
    ((d1.path .cmd).rd :: r.1, r.2)

/-- READ_BLOCK: the words go to the host buffer. -/
def readBlock (t : Time) (ws : DescWords) (d : Dev) : Dev :=
  let r := readBlockWords t (blkOfs ws) (dLen ws / 4) d
  hostWrite (.data (dAddr ws) (r.1.flatMap fun w => le 4 w.toNat) (d.on Reg.HIF_CTRL.RO_EN)) r.2

def execCmdReadBlock (n : Nat) (s : State) : Host.Outcome State Fault Refusal :=
  run s fun t d => cmdBlock t n 0x11 (readBlock t) d

end Sys2Proof.Machine
end

