-- ==== Sys2Proof/Machine/Dispatch.lean ====
section
/-! DEFINITION. The dispatch: one arm per command. -/

namespace Sys2Proof.Machine

open Sys2Proof

def exec (i : Instr) (s : State) : Host.Outcome State Fault Refusal :=
  match i with
  | .writeRegister p addr v => Sys2Proof.Machine.execWriteRegister p addr v s
  | .readClearOnRead p addr => Sys2Proof.Machine.execReadClearOnRead p addr s
  | .readLowHalf p addr => Sys2Proof.Machine.execReadLowHalf p addr s
  | .readHighHalf p addr => Sys2Proof.Machine.execReadHighHalf p addr s
  | .readTkpNowNs p => Sys2Proof.Machine.execReadTkpNowNs p s
  | .readIslandInReset p addr => Sys2Proof.Machine.execReadIslandInReset p addr s
  | .writeIslandInReset p addr v => Sys2Proof.Machine.execWriteIslandInReset p addr v s
  | .writeGlbSplit v => Sys2Proof.Machine.execWriteGlbSplit v s
  | .glbLockSet => Sys2Proof.Machine.execGlbLockSet s
  | .islandClockFail island => Sys2Proof.Machine.execIslandClockFail island s
  | .islandClockRecover island => Sys2Proof.Machine.execIslandClockRecover island s
  | .refclkFail => Sys2Proof.Machine.execRefclkFail s
  | .osc10mFail => Sys2Proof.Machine.execOsc10mFail s
  | .islandResetExit island => Sys2Proof.Machine.execIslandResetExit island s
  | .timekeeperTick => Sys2Proof.Machine.execTimekeeperTick s
  | .referenceSample slot x => Sys2Proof.Machine.execReferenceSample slot x s
  | .servoUpdate => Sys2Proof.Machine.execServoUpdate s
  | .hostTmo => Sys2Proof.Machine.execHostTmo s
  | .writeTkpFreqLo v => Sys2Proof.Machine.execWriteTkpFreqLo v s
  | .writeTkpFreqHi v => Sys2Proof.Machine.execWriteTkpFreqHi v s
  | .readTkpFreqLo p => Sys2Proof.Machine.execReadTkpFreqLo p s
  | .writeTkpAdj v => Sys2Proof.Machine.execWriteTkpAdj v s
  | .timedAdjust => Sys2Proof.Machine.execTimedAdjust s
  | .ptpMessageReceive port m => Sys2Proof.Machine.execPtpMessageReceive port m s
  | .ptpMessageTransmit port m => Sys2Proof.Machine.execPtpMessageTransmit port m s
  | .ptpAnnounceTransmit port => Sys2Proof.Machine.execPtpAnnounceTransmit port s
  | .tcForward port m ingressQ => Sys2Proof.Machine.execTcForward port m ingressQ s
  | .tinPpsEdge falling q => Sys2Proof.Machine.execTinPpsEdge falling q s
  | .irigFrame f => Sys2Proof.Machine.execIrigFrame f s
  | .leapSecond => Sys2Proof.Machine.execLeapSecond s
  | .leapOccExpire => Sys2Proof.Machine.execLeapOccExpire s
  | .ppsOutput => Sys2Proof.Machine.execPpsOutput s
  | .ppsPulseEnd => Sys2Proof.Machine.execPpsPulseEnd s
  | .writeHmpPart n v => Sys2Proof.Machine.execWriteHmpPart n v s
  | .hamperReplay a cause again => Sys2Proof.Machine.execHamperReplay a cause again s
  | .fenceReleaseCheck a good => Sys2Proof.Machine.execFenceReleaseCheck a good s
  | .scrubRead => Sys2Proof.Machine.execScrubRead s
  | .scrubPassLate => Sys2Proof.Machine.execScrubPassLate s
  | .bar4Read p a => Sys2Proof.Machine.execBar4Read p a s
  | .bar4Write a v => Sys2Proof.Machine.execBar4Write a v s
  | .writeFpCtrl port v => Sys2Proof.Machine.execWriteFpCtrl port v s
  | .linkUp port => Sys2Proof.Machine.execLinkUp port s
  | .linkDown port => Sys2Proof.Machine.execLinkDown port s
  | .frameReceive port f => Sys2Proof.Machine.execFrameReceive port f s
  | .dupKeyForget pair => Sys2Proof.Machine.execDupKeyForget pair s
  | .txFrameStart port => Sys2Proof.Machine.execTxFrameStart port s
  | .txFrameEnd port => Sys2Proof.Machine.execTxFrameEnd port s
  | .txUnderrun port => Sys2Proof.Machine.execTxUnderrun port s
  | .timedLaunch port tc => Sys2Proof.Machine.execTimedLaunch port tc s
  | .guardTimeStart port => Sys2Proof.Machine.execGuardTimeStart port s
  | .pairCompletion pair => Sys2Proof.Machine.execPairCompletion pair s
  | .configChange port => Sys2Proof.Machine.execConfigChange port s
  | .gateConfigApply port => Sys2Proof.Machine.execGateConfigApply port s
  | .gateEntryAdvance port => Sys2Proof.Machine.execGateEntryAdvance port s
  | .pauseFrameReceive port f => Sys2Proof.Machine.execPauseFrameReceive port f s
  | .pauseExpire port tc => Sys2Proof.Machine.execPauseExpire port tc s
  | .pauseStorm port tc => Sys2Proof.Machine.execPauseStorm port tc s
  | .pauseStormClear port tc => Sys2Proof.Machine.execPauseStormClear port tc s
  | .pauseTransmit port => Sys2Proof.Machine.execPauseTransmit port s
  | .pauseResend port => Sys2Proof.Machine.execPauseResend port s
  | .pauseReleaseSend port => Sys2Proof.Machine.execPauseReleaseSend port s
  | .hsrSupervisionSend pair => Sys2Proof.Machine.execHsrSupervisionSend pair s
  | .ingestIntake => Sys2Proof.Machine.execIngestIntake s
  | .ingestParse => Sys2Proof.Machine.execIngestParse s
  | .hostlimSecond => Sys2Proof.Machine.execHostlimSecond s
  | .gooseTalExpire sub => Sys2Proof.Machine.execGooseTalExpire sub s
  | .cfgPendTimeout src => Sys2Proof.Machine.execCfgPendTimeout src s
  | .writeSourceEntry addr v => Sys2Proof.Machine.execWriteSourceEntry addr v s
  | .alignFrame => Sys2Proof.Machine.execAlignFrame s
  | .spreadOpen => Sys2Proof.Machine.execSpreadOpen s
  | .spreadDeadline => Sys2Proof.Machine.execSpreadDeadline s
  | .slotRelease => Sys2Proof.Machine.execSlotRelease s
  | .outputEnable n => Sys2Proof.Machine.execOutputEnable n s
  | .rollCallStart => Sys2Proof.Machine.execRollCallStart s
  | .rollCallStop => Sys2Proof.Machine.execRollCallStop s
  | .refEnable => Sys2Proof.Machine.execRefEnable s
  | .refReady => Sys2Proof.Machine.execRefReady s
  | .adcGo cv => Sys2Proof.Machine.execAdcGo cv s
  | .adcStart cv => Sys2Proof.Machine.execAdcStart cv s
  | .adcStop cv => Sys2Proof.Machine.execAdcStop cv s
  | .adcSlot cv smp => Sys2Proof.Machine.execAdcSlot cv smp s
  | .adcSampleDeliver cv => Sys2Proof.Machine.execAdcSampleDeliver cv s
  | .diagFlush => Sys2Proof.Machine.execDiagFlush s
  | .laneSample lane => Sys2Proof.Machine.execLaneSample lane s
  | .laneInputTimeout lane => Sys2Proof.Machine.execLaneInputTimeout lane s
  | .laneEnable lane v => Sys2Proof.Machine.execLaneEnable lane v s
  | .laneSyncRequest lane => Sys2Proof.Machine.execLaneSyncRequest lane s
  | .coefSetValidate set v => Sys2Proof.Machine.execCoefSetValidate set v s
  | .groupValidate g v => Sys2Proof.Machine.execGroupValidate g v s
  | .swapGo v => Sys2Proof.Machine.execSwapGo v s
  | .swapStart lane => Sys2Proof.Machine.execSwapStart lane s
  | .fadeEnd lane => Sys2Proof.Machine.execFadeEnd lane s
  | .groupBlockWrite g => Sys2Proof.Machine.execGroupBlockWrite g s
  | .groupBlockTimeout g => Sys2Proof.Machine.execGroupBlockTimeout g s
  | .rulePass ups => Sys2Proof.Machine.execRulePass ups s
  | .alarmAction => Sys2Proof.Machine.execAlarmAction s
  | .pinWidthExpire pin => Sys2Proof.Machine.execPinWidthExpire pin s
  | .pinRelease pin => Sys2Proof.Machine.execPinRelease pin s
  | .ruleAck rule => Sys2Proof.Machine.execRuleAck rule s
  | .integAck => Sys2Proof.Machine.execIntegAck s
  | .tableCopyCheck ups => Sys2Proof.Machine.execTableCopyCheck ups s
  | .ruleValidate r v => Sys2Proof.Machine.execRuleValidate r v s
  | .areaValidate a v => Sys2Proof.Machine.execAreaValidate a v s
  | .detectorValidate q v => Sys2Proof.Machine.execDetectorValidate q v s
  | .templateEnable t v => Sys2Proof.Machine.execTemplateEnable t v s
  | .gooseRetransmit t => Sys2Proof.Machine.execGooseRetransmit t s
  | .hstateWrite j v => Sys2Proof.Machine.execHstateWrite j v s
  | .segmentApply => Sys2Proof.Machine.execSegmentApply s
  | .epochBoundary => Sys2Proof.Machine.execEpochBoundary s
  | .epochPublish => Sys2Proof.Machine.execEpochPublish s
  | .snapshotBinWrite => Sys2Proof.Machine.execSnapshotBinWrite s
  | .snapshotTimeout => Sys2Proof.Machine.execSnapshotTimeout s
  | .modalStart => Sys2Proof.Machine.execModalStart s
  | .modalStop => Sys2Proof.Machine.execModalStop s
  | .captureEnable => Sys2Proof.Machine.execCaptureEnable s
  | .captureDisable => Sys2Proof.Machine.execCaptureDisable s
  | .triggerDefValidate d v => Sys2Proof.Machine.execTriggerDefValidate d v s
  | .maskValidate k v => Sys2Proof.Machine.execMaskValidate k v s
  | .softwareTrigger v => Sys2Proof.Machine.execSoftwareTrigger v s
  | .captureArm eng => Sys2Proof.Machine.execCaptureArm eng s
  | .captureTimedArm eng => Sys2Proof.Machine.execCaptureTimedArm eng s
  | .pretriggerFull eng => Sys2Proof.Machine.execPretriggerFull eng s
  | .captureTrigger eng => Sys2Proof.Machine.execCaptureTrigger eng s
  | .collectionClose eng => Sys2Proof.Machine.execCollectionClose eng s
  | .captureComplete eng => Sys2Proof.Machine.execCaptureComplete eng s
  | .captureDeliver eng => Sys2Proof.Machine.execCaptureDeliver eng s
  | .captureRelease eng => Sys2Proof.Machine.execCaptureRelease eng s
  | .captureDisarm eng => Sys2Proof.Machine.execCaptureDisarm eng s
  | .ringEnable n cb => Sys2Proof.Machine.execRingEnable n cb s
  | .ringDisable n => Sys2Proof.Machine.execRingDisable n s
  | .ringStopped n => Sys2Proof.Machine.execRingStopped n s
  | .doorbell ofs size v descs => Sys2Proof.Machine.execDoorbell ofs size v descs s
  | .ringPoll n prod ccons descs => Sys2Proof.Machine.execRingPoll n prod ccons descs s
  | .completionWrite n => Sys2Proof.Machine.execCompletionWrite n s
  | .descNop n => Sys2Proof.Machine.execDescNop n s
  | .descFence n => Sys2Proof.Machine.execDescFence n s
  | .tokenWaitStart n => Sys2Proof.Machine.execTokenWaitStart n s
  | .fenceTimeout n => Sys2Proof.Machine.execFenceTimeout n s
  | .cmdWriteBlock n ws => Sys2Proof.Machine.execCmdWriteBlock n ws s
  | .cmdReadBlock n => Sys2Proof.Machine.execCmdReadBlock n s
  | .txhSend n bytes => Sys2Proof.Machine.execTxhSend n bytes s
  | .txhInject n f => Sys2Proof.Machine.execTxhInject n f s
  | .bufPost n => Sys2Proof.Machine.execBufPost n s
  | .msixMessage vec => Sys2Proof.Machine.execMsixMessage vec s
  | .moderationTimer n => Sys2Proof.Machine.execModerationTimer n s
  | .msixUnmask c => Sys2Proof.Machine.execMsixUnmask c s
  | .hostStall => Sys2Proof.Machine.execHostStall s
  | .heartbeat v => Sys2Proof.Machine.execHeartbeat v s
  | .pcieLinkDown => Sys2Proof.Machine.execPcieLinkDown s
  | .dmaReadFail n kind => Sys2Proof.Machine.execDmaReadFail n kind s
  | .threadValidate th v => Sys2Proof.Machine.execThreadValidate th v s
  | .dspReady n => Sys2Proof.Machine.execDspReady n s
  | .dspDelay n => Sys2Proof.Machine.execDspDelay n s
  | .dspWait n => Sys2Proof.Machine.execDspWait n s
  | .dspCancel n => Sys2Proof.Machine.execDspCancel n s
  | .dspSetPrio n => Sys2Proof.Machine.execDspSetPrio n s
  | .dspTimer n => Sys2Proof.Machine.execDspTimer n s
  | .dispatchTick => Sys2Proof.Machine.execDispatchTick s
  | .dspTake p cpu => Sys2Proof.Machine.execDspTake p cpu s
  | .spillFetch ok => Sys2Proof.Machine.execSpillFetch ok s
  | .fabricStart => Sys2Proof.Machine.execFabricStart s
  | .daxideFrameReceive link f => Sys2Proof.Machine.execDaxideFrameReceive link f s
  | .beaconSend => Sys2Proof.Machine.execBeaconSend s
  | .remoteOriginLost node => Sys2Proof.Machine.execRemoteOriginLost node s
  | .remoteAlarmEntryWrite addr v => Sys2Proof.Machine.execRemoteAlarmEntryWrite addr v s
  | .relayEnable => Sys2Proof.Machine.execRelayEnable s
  | .relayRetransmit link => Sys2Proof.Machine.execRelayRetransmit link s
  | .relayExpire link => Sys2Proof.Machine.execRelayExpire link s
  | .keepaliveSend link => Sys2Proof.Machine.execKeepaliveSend link s
  | .keepaliveTimeout link => Sys2Proof.Machine.execKeepaliveTimeout link s
  | .dxlLockLoss link => Sys2Proof.Machine.execDxlLockLoss link s
  | .timeReqSend link => Sys2Proof.Machine.execTimeReqSend link s
  | .keyInfo n => Sys2Proof.Machine.execKeyInfo n s
  | .keyImport n b => Sys2Proof.Machine.execKeyImport n b s
  | .keyDerive n b => Sys2Proof.Machine.execKeyDerive n b s
  | .keyUnwrap n b => Sys2Proof.Machine.execKeyUnwrap n b s
  | .keyCopyWritten good => Sys2Proof.Machine.execKeyCopyWritten good s
  | .keyCommit n good => Sys2Proof.Machine.execKeyCommit n good s
  | .keyErase n => Sys2Proof.Machine.execKeyErase n s
  | .keyAttest n nonce => Sys2Proof.Machine.execKeyAttest n nonce s
  | .fwStatus n => Sys2Proof.Machine.execFwStatus n s
  | .fwWrite n ofs data => Sys2Proof.Machine.execFwWrite n ofs data s
  | .fwCheck n len => Sys2Proof.Machine.execFwCheck n len s
  | .fwActivate n => Sys2Proof.Machine.execFwActivate n s
  | .fwSettings n body => Sys2Proof.Machine.execFwSettings n body s
  | .xaornReport => Sys2Proof.Machine.execXaornReport s
  | .updateTimeout => Sys2Proof.Machine.execUpdateTimeout s
  | .lockstepMismatch pair => Sys2Proof.Machine.execLockstepMismatch pair s
  | .logEvent code inst det det2 => Sys2Proof.Machine.execLogEvent code inst det det2 s
  | .logTokenRefill code => Sys2Proof.Machine.execLogTokenRefill code s
  | .logRecordWrite good => Sys2Proof.Machine.execLogRecordWrite good s
  | .logScrub bad => Sys2Proof.Machine.execLogScrub bad s
  | .logReread bad => Sys2Proof.Machine.execLogReread bad s
  | .logReadGo v => Sys2Proof.Machine.execLogReadGo v s
  | .logReadDeliver => Sys2Proof.Machine.execLogReadDeliver s
  | .logBufferTimeout => Sys2Proof.Machine.execLogBufferTimeout s
  | .logReadStop v => Sys2Proof.Machine.execLogReadStop v s
  | .mirrorRecord => Sys2Proof.Machine.execMirrorRecord s
  | .powerFailWarning => Sys2Proof.Machine.execPowerFailWarning s
  | .powerFailClear => Sys2Proof.Machine.execPowerFailClear s
  | .logFlushDone => Sys2Proof.Machine.execLogFlushDone s
  | .probeSample kind index x lost => Sys2Proof.Machine.execProbeSample kind index x lost s
  | .probeEnable p v => Sys2Proof.Machine.execProbeEnable p v s
  | .lkoSnapshot v => Sys2Proof.Machine.execLkoSnapshot v s
  | .cmpCompress n src => Sys2Proof.Machine.execCmpCompress n src s
  | .cmpDecompress n src => Sys2Proof.Machine.execCmpDecompress n src s
  | .cmpJobComplete lane => Sys2Proof.Machine.execCmpJobComplete lane s
  | .powerOnReset test => Sys2Proof.Machine.execPowerOnReset test s
  | .sysRstAssert => Sys2Proof.Machine.execSysRstAssert s
  | .porRelease b => Sys2Proof.Machine.execPorRelease b s
  | .deviceReady => Sys2Proof.Machine.execDeviceReady s
  | .perstAssert => Sys2Proof.Machine.execPerstAssert s
  | .perstRelease => Sys2Proof.Machine.execPerstRelease s
  | .pcieHotReset => Sys2Proof.Machine.execPcieHotReset s
  | .functionLevelReset => Sys2Proof.Machine.execFunctionLevelReset s
  | .hstResetRelease => Sys2Proof.Machine.execHstResetRelease s
  | .softReset v => Sys2Proof.Machine.execSoftReset v s
  | .islandReset hi v => Sys2Proof.Machine.execIslandReset hi v s
  | .dozeEnter => Sys2Proof.Machine.execDozeEnter s
  | .dozeEntryDone => Sys2Proof.Machine.execDozeEntryDone s
  | .dozeWake => Sys2Proof.Machine.execDozeWake s
  | .gpioWake pin falling => Sys2Proof.Machine.execGpioWake pin falling s
  | .writeGlbWake v => Sys2Proof.Machine.execWriteGlbWake v s
  | .timedWake => Sys2Proof.Machine.execTimedWake s
  | .wakeDone => Sys2Proof.Machine.execWakeDone s
  | .thermalTrip tj => Sys2Proof.Machine.execThermalTrip tj s
  | .refclkReturn osc => Sys2Proof.Machine.execRefclkReturn osc s
  | .pcieLinkUp width speed => Sys2Proof.Machine.execPcieLinkUp width speed s
  | .mgtLinkChange up speed => Sys2Proof.Machine.execMgtLinkChange up speed s
  | .flushAreaErase => Sys2Proof.Machine.execFlushAreaErase s
  | .mgmtFrameSend dest bytes deflate => Sys2Proof.Machine.execMgmtFrameSend dest bytes deflate s

end Sys2Proof.Machine
end

