-- ==== Sys2Proof/Safety.lean ====
section
/-!
DEFINITION. What a safe run is, the terms in which claims speak of a command's outcome, and the invariants of the state: the
form of the register file, of the Hamper's memory and of the Logbook.
-/

namespace Sys2Proof.Machine

open Sys2Proof

/-- A step goes on: no fault, no refusal. -/
def goesOn (o : Host.Outcome State Fault Refusal) : Prop := ∃ t, o = .next t

/-- The state in which a command leaves `s` when it leaves the device as `d`: grid time, the queue and the Logbook's
memory stand, and the events `d` has raised have been judged into the Logbook's intake (R574 to R576). -/
def State.after (s : State) (d : Dev) : State := finish { s with dev := d }

/-- The same for a command that also leaves the Logbook as `lb`. -/
def State.afterLog (s : State) (lb : Logbook) (d : Dev) : State := finish { s with log := lb, dev := d }

/-- The words that the Logbook's intake may write at the end of a command: its status, its interrupt register, its counters
of lost events and the drop counters of the codes. -/
def intakeWord (a : Nat) : Prop :=
  a = 0x120000 ∨ a = 0x120004 ∨ a = 0x120010 ∨ a = 0x120014 ∨ ∃ code, code < 1024 ∧ a = 0x3C0004 + code * 8

/-- `d` differs from `e` at most in what the Logbook's intake may change: its words, the events in hand, and a message it has
requested. -/
structure IntakeOnly (e d : Dev) : Prop where
  rest : { d with regs := e.regs, evs := e.evs, hif := { d.hif with msgReq := e.hif.msgReq } } = e
  words : ∀ a, ¬ intakeWord a → d.word a = e.word a

/-- The register file stands in its canonical form: addresses rise and no word equals its reset word. -/
def State.regsWf (s : State) : Prop := fmWf resetWord s.dev.regs = true

/-- The Hamper's memory stands in its canonical form: word addresses rise, and no entry equals the word an unlisted address
reads as. -/
def Memory.wf (m : FMap HWord) : Bool := fmWf (fun _ => default) m

/-- The Logbook's intake holds at most 64 events (R575). -/
def State.intakeFits (s : State) : Prop := s.log.intake.length ≤ 64

/-- The records carry the sequence numbers 1, 2, 3 and so on, and the last is the number the Logbook counts on from (R571). -/
def State.seqRuns (s : State) : Prop :=
  s.log.records.map LogRec.seq = List.range' 1 s.log.records.length ∧ s.log.seq = s.log.records.length

/-- The head of MBOX ring n asks Xaorn for a command of a service, and Xaorn takes requests (R565, R626, R629). -/
def mboxReady (d : Dev) (n service cmd : Nat) (h : Taken) : Prop :=
  startable d n clsMbox 0x10 = some h ∧ kService h.words = service ∧ kCmd h.words = cmd ∧
    d.on Reg.GLB_STATUS.XFAIL = false ∧ xaornUp d = true

/-- The same for a key command, with no other in hand, good fuses and a slot that exists (R555, R565). -/
def keyReady (d : Dev) (n cmd : Nat) (h : Taken) : Prop :=
  mboxReady d n 1 cmd h ∧ d.keys.cmd = none ∧ d.on Reg.KEY_STATUS.FUSE_OK = true ∧ kSlot h.words < 64

end Sys2Proof.Machine
end

