-- ==== Sys2Proof/Footprint.lean ====
section
/-!
DEFINITION. What each command may change: the parts of the state, and the registers and table words, that the spec has it
write. Everything else stands. The statements about frames speak in these terms.
-/

namespace Sys2Proof.Machine

open Sys2Proof

/-- A part of the state beside grid time, the registers and the queue. -/
inductive StatePart where
  | log | paths | pwr | isl | tkp | hif | rdr | flush | lko | cmp | hmp | ports | pairs | keys | ing | aln | adc | flt | dsp
  | dxl | cap | rul | mdl | free
  deriving DecidableEq, Repr

/-- Which commands these are: those of the buses, grid time, the Hamper and resets; those of the ports, of the
measurements and of the engines behind them; those of the rings and of the blocks that serve the host. -/
inductive CommandSide where
  | core | field | host
  deriving DecidableEq, Repr

/-- What a command may change: parts of the state, and words of BAR0. -/
structure Footprint where
  side : CommandSide
  parts : List StatePart
  words : Nat → Prop

/-- Does a part of the state stand? Of the Logbook, its intake with the buckets and the counts of dropped events is
apart: the events of any command enter it (R574 to R577). Of the host island, the requested messages are apart: any
interrupt cause may request one (R485). -/
def partStands (s t : State) : StatePart → Prop
  | .log => { t.log with intake := [], buckets := [], pend := [] } = { s.log with intake := [], buckets := [], pend := [] }
  | .hif => { t.dev.hif with msgReq := [] } = { s.dev.hif with msgReq := [] }
  | .paths => t.dev.paths = s.dev.paths
  | .pwr => t.dev.pwr = s.dev.pwr
  | .isl => t.dev.isl = s.dev.isl
  | .tkp => t.dev.tkp = s.dev.tkp
  | .rdr => t.dev.rdr = s.dev.rdr
  | .flush => t.dev.flush = s.dev.flush
  | .lko => t.dev.lko = s.dev.lko
  | .cmp => t.dev.cmp = s.dev.cmp
  | .hmp => t.dev.hmp = s.dev.hmp
  | .ports => t.dev.ports = s.dev.ports
  | .pairs => t.dev.pairs = s.dev.pairs
  | .keys => t.dev.keys = s.dev.keys
  | .ing => t.dev.ing = s.dev.ing
  | .aln => t.dev.aln = s.dev.aln
  | .adc => t.dev.adc = s.dev.adc
  | .flt => t.dev.flt = s.dev.flt
  | .dsp => t.dev.dsp = s.dev.dsp
  | .dxl => t.dev.dxl = s.dev.dxl
  | .cap => t.dev.cap = s.dev.cap
  | .rul => t.dev.rul = s.dev.rul
  | .mdl => t.dev.mdl = s.dev.mdl
  | .free => t.dev.free = s.dev.free

/-- Outside a footprint nothing has changed, but for what the Logbook's intake writes. -/
def Footprint.holds (p : Footprint) (s t : State) : Prop :=
  (∀ x, x ∉ p.parts → partStands s t x) ∧ ∀ a, ¬ p.words a → ¬ intakeWord a → t.dev.word a = s.dev.word a

/-- Any word. -/
def anyWord (_ : Nat) : Prop := True

/-- The words of some registers, every instance of each. -/
def inRegs (rs : List RegAt) (a : Nat) : Prop := ∃ r ∈ rs, ∃ i, a = r.addr i

/-- One word, or others. -/
def orAt (b : Nat) (p : Nat → Prop) (a : Nat) : Prop := a = b ∨ p a

/-- A word of a table the rule engines hold twice, or others. -/
def orCopied (p : Nat → Prop) (a : Nat) : Prop := copiedTable a = true ∨ p a

def allParts : List StatePart :=
  [.log, .paths, .pwr, .isl, .tkp, .hif, .rdr, .flush, .lko, .cmp, .hmp, .ports, .pairs, .keys, .ing, .aln, .adc, .flt, .dsp,
   .dxl, .cap, .rul, .mdl, .free]

/-- Every part but these. -/
def allBut (ps : List StatePart) : List StatePart := allParts.filter fun x => !ps.contains x

/-- What any read of BAR0 may write: the status it sets, and what a TAKE does (R473, R506). -/
def readRegs : Nat → Prop :=
  inRegs [At.DSP_CNT_PREEMPT, At.DSP_CPUc_CUR, At.DSP_CPUc_NEXT, At.DSP_CPUc_USER, At.DSP_INT, At.DSP_SPILL_CFG,
    At.DSP_STATUS, At.GLB_STATUS, At.T_THSTAT_0]

/-- What the closing of a spread writes, with all that follows from it: passes, alarms, wakes, segments, records. -/
def spreadRegs : List RegAt :=
  [At.ALN_CNT_CLOSE_DL, At.ALN_CNT_CLOSE_FULL, At.ALN_CNT_SPRD_DROP, At.ALN_INT, At.ALN_LAST_NS, At.ALN_LAST_SH,
    At.ALN_LAST_SL, At.ALN_OUTn_CNT, At.ALN_OUTn_DROP, At.ALN_SEQ, At.ALN_STATUS, At.CAP_INT, At.DSP_CNT_WAKE,
    At.DSP_CPUc_NEXT, At.DSP_INT, At.DSP_SPILL_CFG, At.DSP_STATUS, At.DXL_CNT_RELAY_DROP, At.DXL_INT, At.DXL_LINKn_DROP,
    At.DXL_LINKn_TXF, At.HIF_RINGn_DCONS, At.HIF_RINGn_DROP, At.HMP_CNT_LAST, At.HMP_INT, At.HMP_MAPFULL_HI,
    At.HMP_MAPFULL_LO, At.HMP_QSTATq, At.HMP_STATUS, At.KEY_CNT_DENY, At.KEY_DENY, At.KEY_INT, At.MOD_CNT_BINRST,
    At.MOD_CNT_EPABANDON, At.MOD_CNT_RES_DROP, At.MOD_CNT_SAMP_INV, At.MOD_CNT_SEG, At.MOD_CNT_SEGDROP,
    At.MOD_CNT_SNAP_FAIL, At.MOD_CTRL, At.MOD_DECT, At.MOD_INT, At.MOD_STATUS, At.RUL_CNT_SKIP, At.RUL_INT, At.RUL_PINn,
    At.RUL_STATUS, At.T_ATTR_2, At.T_CTSTAT_0, At.T_CTSTAT_1, At.T_CTSTAT_2, At.T_KSLOT_5, At.T_KSLOT_6, At.T_MLSTAT_0,
    At.T_MLSTAT_1, At.T_MLSTAT_2, At.T_MLSTAT_3, At.T_MSLOTV, At.T_THSTAT_0, At.T_THSTAT_1, At.T_THSTAT_2, At.T_THSTAT_3]

/-- What an island that leaves reset writes. -/
def leaveRegs : List RegAt :=
  [At.ADC_CVn_LOOPLEN, At.ADC_CVn_STAT, At.ADC_INT, At.ADC_STATUS, At.ALN_CTRL, At.ALN_DEPTH, At.ALN_INT, At.ALN_OUTn_CFG,
    At.ALN_OUTn_LAG, At.ALN_OUTn_STAT, At.ALN_SIZE, At.ALN_STATUS, At.CAP_CTRL, At.CAP_INT, At.CAP_STATUS, At.DSP_CPUc_NEXT,
    At.DSP_SPILL_CFG, At.DSP_STATUS, At.DXL_CTRL, At.DXL_LINKn_STAT, At.DXL_NODE, At.DXL_STATUS, At.FLT_BUDGET_HIST,
    At.FLT_BUDGET_IN, At.FLT_BUDGET_MAC, At.FLT_SETTLE_LANEn, At.FLT_STAT, At.GLB_ISLRST_HI, At.GLB_ISLRST_LO, At.HMP_SCRUB,
    At.HMP_STATUS, At.KEY_CNT_DENY, At.KEY_DENY, At.KEY_INT, At.MOD_CTRL, At.MOD_INT, At.MOD_STATUS, At.RUL_CNT_GOOSE_DROP,
    At.RUL_CNT_GOOSE_TX, At.RUL_INT, At.RUL_PINn, At.RUL_STATUS, At.T_ATTR_1, At.T_ATTR_2, At.T_KSLOT_5, At.T_KSLOT_6,
    At.T_LANESTAT_0, At.T_MLSTAT_0, At.T_MSLOTV]

/-- The footprint of each command. -/
def footprint : Instr → Footprint
  | .writeRegister _ _ _ => ⟨.core, allBut [.log, .paths, .flush], anyWord⟩
  | .readClearOnRead _ a => ⟨.core, [.paths, .adc, .dsp, .rul], orAt (a / 4 * 4) readRegs⟩
  | .readLowHalf _ a => ⟨.core, [.paths, .adc, .dsp, .rul], orAt (a / 4 * 4) readRegs⟩
  | .readHighHalf _ a => ⟨.core, [.paths, .adc, .dsp, .rul], orAt (a / 4 * 4) readRegs⟩
  | .readTkpNowNs _ => ⟨.core, [.paths, .adc, .dsp, .rul], orAt 0x10008 readRegs⟩
  | .readIslandInReset _ a => ⟨.core, [.paths, .adc, .dsp, .rul], orAt (a / 4 * 4) readRegs⟩
  | .writeIslandInReset _ _ _ => ⟨.core, allBut [.log, .paths, .flush], anyWord⟩
  | .writeGlbSplit _ => ⟨.core, allBut [.log, .paths, .pwr, .isl, .tkp, .rdr, .flush, .lko, .cmp, .ing, .adc], inRegs
    (spreadRegs ++ [At.ALN_CTRL, At.ALN_DEPTH, At.ALN_OUTn_CFG, At.ALN_OUTn_LAG, At.ALN_OUTn_STAT, At.ALN_SIZE,
    At.CAP_ENGn_STAT, At.FLT_SETTLE_LANEn, At.FLT_STAT, At.GLB_SPLIT, At.GLB_STATUS, At.T_ATTR_1, At.T_LANESTAT_0])⟩
  | .glbLockSet => ⟨.core, [], inRegs [At.GLB_LOCK, At.GLB_STATUS]⟩
  | .islandClockFail _ => ⟨.core, allBut [.log, .paths, .tkp, .flush], anyWord⟩
  | .islandClockRecover _ => ⟨.core, allBut [.log, .paths, .tkp, .rdr, .flush, .lko, .cmp, .ing, .free], inRegs (leaveRegs
    ++ [At.GLB_INT, At.GLB_RSTCAUSE])⟩
  | .refclkFail => ⟨.core, allBut [.log, .paths, .tkp, .flush], anyWord⟩
  | .osc10mFail => ⟨.core, allBut [.log, .paths, .tkp, .flush], anyWord⟩
  | .islandResetExit _ => ⟨.core, allBut [.log, .paths, .tkp, .rdr, .flush, .lko, .cmp, .ing, .free], inRegs (leaveRegs ++
    [At.GLB_INT, At.GLB_RSTCAUSE])⟩
  | .timekeeperTick => ⟨.core, [.tkp, .adc], inRegs [At.TKP_ADJ_STAT, At.TKP_INT, At.TKP_STATUS]⟩
  | .referenceSample _ _ => ⟨.core, [.tkp], inRegs [At.TKP_REFn_OFS, At.TKP_REFn_RTD, At.TKP_REFn_STAT, At.TKP_UTC]⟩
  | .servoUpdate => ⟨.core, [.tkp, .free], inRegs [At.TKP_INT, At.TKP_REFn_ASYM, At.TKP_REFn_STAT, At.TKP_STATUS]⟩
  | .hostTmo => ⟨.core, [.tkp], inRegs [At.TKP_INT, At.TKP_STATUS]⟩
  | .writeTkpFreqLo _ => ⟨.core, [.tkp], inRegs []⟩
  | .writeTkpFreqHi _ => ⟨.core, [.tkp], inRegs [At.TKP_INT, At.TKP_STATUS]⟩
  | .readTkpFreqLo _ => ⟨.core, [.paths], inRegs []⟩
  | .writeTkpAdj _ => ⟨.core, [.tkp], inRegs [At.TKP_ADJ_STAT, At.TKP_INT, At.TKP_STATUS]⟩
  | .timedAdjust => ⟨.core, [.tkp, .adc], inRegs [At.TKP_ADJ_STAT, At.TKP_INT, At.TKP_STATUS]⟩
  | .ptpMessageReceive _ _ => ⟨.core, [.tkp, .ports, .keys], inRegs [At.FP_TS_CNT, At.KEY_CNT_DENY, At.KEY_DENY, At.KEY_INT,
    At.TKP_REFn_OFS, At.TKP_REFn_RTD, At.TKP_REFn_STAT, At.TKP_UTC, At.T_KSLOT_5, At.T_KSLOT_6]⟩
  | .ptpMessageTransmit _ _ => ⟨.core, [.tkp, .hif, .ports, .pairs, .keys, .free], inRegs [At.FP_BC_DROP, At.FP_TS_CNT,
    At.KEY_CNT_DENY, At.KEY_DENY, At.KEY_INT, At.T_KSLOT_5, At.T_KSLOT_6]⟩
  | .ptpAnnounceTransmit _ => ⟨.core, [.tkp, .hif, .ports, .pairs, .keys, .free], inRegs [At.FP_BC_DROP, At.KEY_CNT_DENY,
    At.KEY_DENY, At.KEY_INT, At.T_KSLOT_5, At.T_KSLOT_6]⟩
  | .tcForward _ _ _ => ⟨.core, [.tkp, .hif, .ports, .pairs, .keys], inRegs [At.KEY_CNT_DENY, At.KEY_DENY, At.KEY_INT,
    At.T_KSLOT_5, At.T_KSLOT_6]⟩
  | .tinPpsEdge _ _ => ⟨.core, [.tkp], inRegs [At.TKP_INT, At.TKP_REFn_OFS, At.TKP_REFn_RTD, At.TKP_REFn_STAT,
    At.TKP_TIN_CNT, At.TKP_UTC]⟩
  | .irigFrame _ => ⟨.core, [.tkp], inRegs [At.TKP_INT, At.TKP_REFn_OFS, At.TKP_REFn_RTD, At.TKP_REFn_STAT, At.TKP_STATUS,
    At.TKP_TIN_CNT, At.TKP_UTC]⟩
  | .leapSecond => ⟨.core, [.tkp], inRegs [At.TKP_INT, At.TKP_UTC]⟩
  | .leapOccExpire => ⟨.core, [.tkp], inRegs [At.TKP_UTC]⟩
  | .ppsOutput => ⟨.core, [.tkp], inRegs []⟩
  | .ppsPulseEnd => ⟨.core, [.tkp], inRegs []⟩
  | .writeHmpPart _ _ => ⟨.core, [], inRegs [At.GLB_STATUS, At.HMP_INT, At.HMP_PARTn]⟩
  | .hamperReplay _ _ _ => ⟨.core, [.hmp], inRegs [At.HMP_CNT_LAST, At.HMP_CNT_TRANS, At.HMP_INT, At.HMP_MAPFULL_HI,
    At.HMP_MAPFULL_LO, At.HMP_QSTATq, At.HMP_STATUS]⟩
  | .fenceReleaseCheck _ _ => ⟨.core, [.hmp], inRegs [At.HMP_CNT_REL, At.HMP_INT, At.HMP_QSTATq, At.HMP_STATUS]⟩
  | .scrubRead => ⟨.core, [.hmp, .free], inRegs [At.HMP_CNT_LAST, At.HMP_INT, At.HMP_MAPFULL_HI, At.HMP_MAPFULL_LO,
    At.HMP_QSTATq, At.HMP_SCRUB, At.HMP_STATUS]⟩
  | .scrubPassLate => ⟨.core, [.hmp], inRegs [At.HMP_INT]⟩
  | .bar4Read _ _ => ⟨.core, [.paths, .hmp, .free], inRegs [At.HMP_CNT_LAST, At.HMP_INT, At.HMP_MAPFULL_HI,
    At.HMP_MAPFULL_LO, At.HMP_QSTATq, At.HMP_STATUS]⟩
  | .bar4Write _ _ => ⟨.core, [], inRegs [At.HMP_CNT_BAR4WR]⟩
  | .writeFpCtrl _ _ => ⟨.field, [.ports], inRegs [At.FP_CTRL, At.FP_FULL_HI, At.FP_FULL_LO, At.FP_INT, At.FP_STATUS,
    At.FP_STAT_HALF, At.GLB_STATUS]⟩
  | .linkUp _ => ⟨.field, [], inRegs [At.FP_INT, At.FP_STATUS]⟩
  | .linkDown _ => ⟨.field, [], inRegs [At.FP_FULL_HI, At.FP_FULL_LO, At.FP_INT, At.FP_STATUS, At.FP_STAT_HALF]⟩
  | .frameReceive _ _ => ⟨.field, [.hif, .ports, .pairs, .keys, .ing], inRegs [At.FP_BC_DROP, At.FP_BC_RXERR, At.FP_BC_RXF,
    At.FP_FULL_HI, At.FP_FULL_LO, At.FP_INT, At.FP_PAIR_STAT, At.FP_STATUS, At.FP_STAT_HALF, At.KEY_CNT_DENY, At.KEY_DENY,
    At.KEY_INT, At.T_KSLOT_5, At.T_KSLOT_6]⟩
  | .dupKeyForget _ => ⟨.field, [.pairs], inRegs [At.FP_PAIR_STAT]⟩
  | .txFrameStart _ => ⟨.field, [.tkp, .hif, .ports, .pairs, .keys, .free], inRegs [At.FP_BC_DROP, At.FP_FULL_HI,
    At.FP_FULL_LO, At.FP_INT, At.FP_MSEC_TXPN, At.FP_STAT_HALF, At.KEY_CNT_DENY, At.KEY_DENY, At.KEY_INT, At.T_KSLOT_5,
    At.T_KSLOT_6]⟩
  | .txFrameEnd _ => ⟨.field, [.hif, .ports, .pairs], inRegs [At.FP_BC_TXF, At.FP_FULL_HI, At.FP_FULL_LO, At.FP_INT,
    At.FP_STAT_HALF, At.FP_TS_CNT]⟩
  | .txUnderrun _ => ⟨.field, [.hif, .ports, .pairs], inRegs [At.FP_FULL_HI, At.FP_FULL_LO, At.FP_INT, At.FP_STAT_HALF,
    At.FP_TXCFG]⟩
  | .timedLaunch _ _ => ⟨.field, [.tkp, .hif, .ports, .pairs, .keys, .free], inRegs [At.FP_BC_DROP, At.FP_FULL_HI,
    At.FP_FULL_LO, At.FP_INT, At.FP_MSEC_TXPN, At.FP_STAT_HALF, At.KEY_CNT_DENY, At.KEY_DENY, At.KEY_INT, At.T_KSLOT_5,
    At.T_KSLOT_6]⟩
  | .guardTimeStart _ => ⟨.field, [.ports], inRegs []⟩
  | .pairCompletion _ => ⟨.field, [.hif, .ports, .pairs], inRegs [At.FP_TS_CNT]⟩
  | .configChange _ => ⟨.field, [.ports], inRegs [At.FP_INT, At.FP_TAS_STAT, At.GLB_STATUS]⟩
  | .gateConfigApply _ => ⟨.field, [.ports], inRegs [At.FP_INT, At.FP_TAS_STAT]⟩
  | .gateEntryAdvance _ => ⟨.field, [.ports], inRegs [At.FP_INT, At.FP_TAS_STAT]⟩
  | .pauseFrameReceive _ _ => ⟨.field, [.hif, .ports, .pairs, .keys, .ing], inRegs [At.FP_BC_DROP, At.FP_BC_RXERR,
    At.FP_BC_RXF, At.FP_FULL_HI, At.FP_FULL_LO, At.FP_INT, At.FP_PAIR_STAT, At.FP_STATUS, At.FP_STAT_HALF, At.KEY_CNT_DENY,
    At.KEY_DENY, At.KEY_INT, At.T_KSLOT_5, At.T_KSLOT_6]⟩
  | .pauseExpire _ _ => ⟨.field, [.ports], inRegs [At.FP_STATUS]⟩
  | .pauseStorm _ _ => ⟨.field, [.ports], inRegs [At.FP_INT, At.FP_STATUS]⟩
  | .pauseStormClear _ _ => ⟨.field, [.ports], inRegs [At.FP_STATUS]⟩
  | .pauseTransmit _ => ⟨.field, [.ports], inRegs []⟩
  | .pauseResend _ => ⟨.field, [.ports], inRegs []⟩
  | .pauseReleaseSend _ => ⟨.field, [.ports], inRegs []⟩
  | .hsrSupervisionSend _ => ⟨.field, [.hif, .ports, .pairs, .free], inRegs []⟩
  | .ingestIntake => ⟨.field, [.hif, .ports, .ing], inRegs [At.ING_CNT_OVF, At.ING_CNT_PORTLIM, At.ING_INT, At.ING_STATUS]⟩
  | .ingestParse => ⟨.field, allBut [.log, .paths, .pwr, .isl, .rdr, .flush, .lko, .cmp, .adc], inRegs (spreadRegs ++
    [At.ALN_OUTn_STAT, At.DXL_CNT_AUTH, At.DXL_CNT_BIND, At.DXL_CNT_CLASH, At.DXL_CNT_DUP, At.DXL_CNT_HOPS,
    At.DXL_CNT_HOSTDROP, At.DXL_CNT_MALFORMED, At.DXL_CNT_OLD, At.DXL_CNT_RLIM, At.DXL_CNT_TOKEN, At.DXL_LINKn_RTD,
    At.DXL_LINKn_RXF, At.DXL_LINKn_STAT, At.DXL_LINKn_TOFS, At.DXL_STATUS, At.FP_BC_DROP, At.FP_FULL_HI, At.FP_FULL_LO,
    At.FP_INT, At.FP_STAT_HALF, At.ING_CNT_ACCEPT, At.ING_CNT_AUTH, At.ING_CNT_BADCHK, At.ING_CNT_BIND, At.ING_CNT_CFGMIS,
    At.ING_CNT_FUTURE, At.ING_CNT_HOSTDROP, At.ING_CNT_MALFORMED, At.ING_CNT_OFFGRID, At.ING_CNT_RATE, At.ING_CNT_UNKNOWN,
    At.ING_CNT_UNSUP, At.ING_INT, At.ING_STATUS, At.TKP_REFn_OFS, At.TKP_REFn_RTD, At.TKP_REFn_STAT, At.TKP_UTC,
    At.T_RASTAT_0, At.T_RASTAT_1, At.T_SRCSTAT_0, At.T_SRCSTAT_1, At.T_SRCSTAT_2, At.T_SRCSTAT_3, At.T_SRCSTAT_4])⟩
  | .hostlimSecond => ⟨.field, [.ing], inRegs [At.ING_STATUS]⟩
  | .gooseTalExpire _ => ⟨.field, [.ing], inRegs [At.ING_INT]⟩
  | .cfgPendTimeout _ => ⟨.field, [], inRegs [At.T_SRCSTAT_4]⟩
  | .writeSourceEntry a _ => ⟨.field, allBut [.log, .paths, .pwr, .isl, .tkp, .rdr, .flush, .lko, .cmp, .adc, .flt], orAt (a
    / 4 * 4) (inRegs (spreadRegs ++ [At.GLB_STATUS, At.ING_INT, At.T_SRCSTAT_0, At.T_SRCSTAT_1, At.T_SRCSTAT_2,
    At.T_SRCSTAT_3, At.T_SRCSTAT_4, At.T_SRC_0]))⟩
  | .alignFrame => ⟨.field, [.hif, .hmp, .ports, .pairs, .keys, .aln, .dsp, .dxl, .cap, .rul, .mdl, .free], inRegs
    (spreadRegs ++ [At.ALN_CNT_DUP, At.ALN_CNT_FUTURE, At.ALN_CNT_LATE, At.ALN_CNT_NOREGION, At.ALN_CNT_NOSLOT,
    At.ALN_CNT_PATCH_DROP, At.ALN_CNT_TQDROP])⟩
  | .spreadOpen => ⟨.field, [.hif, .hmp, .ports, .pairs, .keys, .aln, .dsp, .dxl, .cap, .rul, .mdl, .free], inRegs
    spreadRegs⟩
  | .spreadDeadline => ⟨.field, [.hif, .hmp, .ports, .pairs, .keys, .aln, .dsp, .dxl, .cap, .rul, .mdl, .free], inRegs
    spreadRegs⟩
  | .slotRelease => ⟨.field, [.hif, .aln], inRegs [At.ALN_CNT_SPRD_DROP, At.ALN_INT]⟩
  | .outputEnable _ => ⟨.field, [.aln], inRegs [At.ALN_INT, At.ALN_OUTn_CFG, At.ALN_OUTn_LAG, At.ALN_OUTn_STAT,
    At.GLB_STATUS]⟩
  | .rollCallStart => ⟨.field, [.aln, .rul], inRegs [At.ALN_CTRL, At.ALN_DEPTH, At.ALN_INT, At.ALN_OUTn_CFG,
    At.ALN_OUTn_LAG, At.ALN_OUTn_STAT, At.ALN_SIZE, At.ALN_STATUS, At.GLB_STATUS, At.RUL_PINn, At.T_ATTR_1, At.T_ATTR_2]⟩
  | .rollCallStop => ⟨.field, [.hif, .hmp, .ports, .pairs, .keys, .aln, .dsp, .dxl, .cap, .rul, .mdl, .free], inRegs
    (spreadRegs ++ [At.ALN_CTRL, At.GLB_STATUS])⟩
  | .refEnable => ⟨.field, [.adc], inRegs [At.ADC_REF, At.GLB_STATUS]⟩
  | .refReady => ⟨.field, [], inRegs [At.ADC_STATUS]⟩
  | .adcGo _ => ⟨.field, [.adc], inRegs [At.ADC_CVn_LOOPLEN, At.ADC_CVn_STAT, At.ADC_INT, At.ADC_STATUS, At.GLB_STATUS]⟩
  | .adcStart _ => ⟨.field, [.adc], inRegs [At.ADC_CVn_PASS, At.ADC_CVn_SETTLE, At.ADC_CVn_STAT, At.ADC_INT, At.ADC_STATUS]⟩
  | .adcStop _ => ⟨.field, [.adc], inRegs [At.ADC_CVn_STAT, At.ADC_STATUS, At.GLB_STATUS]⟩
  | .adcSlot _ _ => ⟨.field, [.adc], inRegs [At.ADC_CLIPCH, At.ADC_CVn_CNT_CLIP, At.ADC_CVn_CNT_INV, At.ADC_CVn_PASS,
    At.ADC_CVn_SETTLE, At.ADC_CVn_TDC, At.ADC_INT, At.ADC_STATUS]⟩
  | .adcSampleDeliver _ => ⟨.field, [.hif, .adc, .flt], inRegs [At.ADC_CNT_DIAG, At.ADC_CVn_CNT_NOLANE, At.FLT_CNT_NOLANE,
    At.HIF_RINGn_DCONS, At.HIF_RINGn_DROP]⟩
  | .diagFlush => ⟨.field, [.hif, .adc], inRegs [At.ADC_CNT_DIAG, At.HIF_RINGn_DCONS, At.HIF_RINGn_DROP]⟩
  | .laneSample _ => ⟨.field, [.hif, .hmp, .flt, .cap, .free], inRegs [At.CAP_CNT_RAWSKIP, At.CAP_INT, At.FLT_CNT_DUPSMP,
    At.FLT_CNT_GAP, At.FLT_CNT_IQ_DROP, At.FLT_CNT_NOLANE, At.FLT_CNT_SAT, At.FLT_CNT_SYNC, At.FLT_INT, At.FLT_SETTLE_LANEn,
    At.FLT_STAT, At.HIF_RINGn_DCONS, At.HIF_RINGn_DROP, At.HMP_CNT_LAST, At.HMP_INT, At.HMP_MAPFULL_HI, At.HMP_MAPFULL_LO,
    At.HMP_QSTATq, At.HMP_STATUS, At.T_CTSTAT_0, At.T_CTSTAT_1, At.T_CTSTAT_2, At.T_LANESTAT_0, At.T_LANESTAT_1,
    At.T_LANESTAT_2]⟩
  | .laneInputTimeout _ => ⟨.field, [], inRegs [At.FLT_STAT, At.T_LANESTAT_0]⟩
  | .laneEnable _ _ => ⟨.field, [.flt], inRegs [At.FLT_BUDGET_HIST, At.FLT_BUDGET_IN, At.FLT_BUDGET_MAC, At.FLT_INT,
    At.FLT_SETTLE_LANEn, At.FLT_STAT, At.GLB_STATUS, At.T_LANESTAT_0, At.T_LANE_0]⟩
  | .laneSyncRequest _ => ⟨.field, [.flt], inRegs [At.FLT_SETTLE_LANEn, At.FLT_STAT, At.GLB_STATUS, At.T_LANESTAT_0]⟩
  | .coefSetValidate _ _ => ⟨.field, [], inRegs [At.FLT_INT, At.GLB_STATUS, At.T_FIR]⟩
  | .groupValidate _ _ => ⟨.field, [.flt], inRegs [At.FLT_INT, At.GLB_STATUS, At.T_GROUP_0]⟩
  | .swapGo _ => ⟨.field, [.flt], inRegs [At.FLT_STAT, At.FLT_SWAP_CMD, At.FLT_SWAP_RES, At.GLB_STATUS, At.T_LANESTAT_0]⟩
  | .swapStart _ => ⟨.field, [.flt], inRegs [At.FLT_INT, At.T_LANESTAT_0]⟩
  | .fadeEnd _ => ⟨.field, [.flt], inRegs [At.FLT_INT, At.T_LANESTAT_0]⟩
  | .groupBlockWrite _ => ⟨.field, [.aln, .flt], inRegs []⟩
  | .groupBlockTimeout _ => ⟨.field, [.aln, .flt], inRegs []⟩
  | .rulePass _ => ⟨.field, [.hif, .hmp, .rul, .mdl, .free], orCopied (inRegs [At.HIF_RINGn_DCONS, At.HIF_RINGn_DROP,
    At.HMP_CNT_LAST, At.HMP_INT, At.HMP_MAPFULL_HI, At.HMP_MAPFULL_LO, At.HMP_QSTATq, At.HMP_STATUS, At.MOD_CNT_BINRST,
    At.MOD_CNT_EPABANDON, At.MOD_CNT_RES_DROP, At.MOD_CNT_SAMP_INV, At.MOD_CNT_SEG, At.MOD_CNT_SEGDROP,
    At.MOD_CNT_SNAP_FAIL, At.MOD_CTRL, At.MOD_DECT, At.MOD_INT, At.MOD_STATUS, At.RUL_CNT_EDGE, At.RUL_CNT_INTEG,
    At.RUL_CNT_PASS, At.RUL_INT, At.RUL_INTEG_STAT, At.RUL_PINn, At.RUL_STATUS, At.T_AREASTAT_0, At.T_AREASTAT_1,
    At.T_AREASTAT_2, At.T_MLSTAT_0, At.T_MLSTAT_1, At.T_MLSTAT_2, At.T_MLSTAT_3, At.T_MSLOTV, At.T_PAIRSTAT_0,
    At.T_PAIRSTAT_1, At.T_PAIRSTAT_2, At.T_PAIRSTAT_3, At.T_QDSTAT_0, At.T_QDSTAT_1, At.T_QDSTAT_2, At.T_RSTATE_0,
    At.T_RSTATE_1, At.T_RSTATE_2, At.T_RSTATE_3])⟩
  | .alarmAction => ⟨.field, [.hif, .ports, .pairs, .keys, .dsp, .dxl, .cap, .rul], inRegs [At.DSP_CNT_WAKE,
    At.DSP_CPUc_NEXT, At.DSP_INT, At.DSP_SPILL_CFG, At.DSP_STATUS, At.DXL_LINKn_DROP, At.DXL_LINKn_TXF, At.HIF_RINGn_DCONS,
    At.HIF_RINGn_DROP, At.KEY_CNT_DENY, At.KEY_DENY, At.KEY_INT, At.RUL_CNT_ALRM_DROP, At.RUL_CNT_GOOSE_DROP,
    At.RUL_CNT_GOOSE_TX, At.RUL_CNT_TOK_DROP, At.RUL_INT, At.RUL_PINn, At.T_CTSTAT_0, At.T_CTSTAT_1, At.T_KSLOT_5,
    At.T_KSLOT_6, At.T_THSTAT_0, At.T_THSTAT_1, At.T_THSTAT_2, At.T_THSTAT_3]⟩
  | .pinWidthExpire _ => ⟨.field, [.rul], inRegs [At.RUL_PINn]⟩
  | .pinRelease _ => ⟨.field, [.rul], inRegs [At.GLB_STATUS, At.RUL_PINn]⟩
  | .ruleAck _ => ⟨.field, [.hif, .rul], inRegs [At.GLB_STATUS, At.HIF_RINGn_DCONS, At.HIF_RINGn_DROP, At.RUL_CNT_ALRM_DROP,
    At.RUL_INT, At.T_RSTATE_0]⟩
  | .integAck => ⟨.field, [.hif, .rul], inRegs [At.GLB_STATUS, At.HIF_RINGn_DCONS, At.HIF_RINGn_DROP, At.RUL_CNT_ALRM_DROP,
    At.RUL_INT]⟩
  | .tableCopyCheck _ => ⟨.field, [.rul, .free], anyWord⟩
  | .ruleValidate _ _ => ⟨.field, [.rul], inRegs [At.GLB_STATUS, At.RUL_INT, At.T_RSTATE_0, At.T_RSTATE_1, At.T_RSTATE_2,
    At.T_RSTATE_3, At.T_RULE_0]⟩
  | .areaValidate _ _ => ⟨.field, [.rul], inRegs [At.GLB_STATUS, At.RUL_INT, At.T_AREA]⟩
  | .detectorValidate _ _ => ⟨.field, [.rul], inRegs [At.GLB_STATUS, At.RUL_INT, At.T_QDET_0, At.T_QDSTAT_0, At.T_QDSTAT_1,
    At.T_QDSTAT_2]⟩
  | .templateEnable _ _ => ⟨.field, [.hif, .ports, .pairs, .keys, .rul], inRegs [At.GLB_STATUS, At.KEY_CNT_DENY,
    At.KEY_DENY, At.KEY_INT, At.RUL_CNT_GOOSE_DROP, At.RUL_CNT_GOOSE_TX, At.RUL_INT, At.T_GTMPL_0, At.T_KSLOT_5,
    At.T_KSLOT_6]⟩
  | .gooseRetransmit _ => ⟨.field, [.hif, .ports, .pairs, .keys, .rul], inRegs [At.KEY_CNT_DENY, At.KEY_DENY, At.KEY_INT,
    At.RUL_CNT_GOOSE_DROP, At.RUL_CNT_GOOSE_TX, At.RUL_INT, At.T_KSLOT_5, At.T_KSLOT_6]⟩
  | .hstateWrite _ _ => ⟨.field, [.rul, .free], inRegs [At.GLB_STATUS, At.RUL_CNT_EDGE, At.RUL_HSTATEj, At.RUL_INT]⟩
  | .segmentApply => ⟨.field, [.hmp, .mdl, .free], inRegs [At.HMP_CNT_LAST, At.HMP_INT, At.HMP_MAPFULL_HI,
    At.HMP_MAPFULL_LO, At.HMP_QSTATq, At.HMP_STATUS, At.MOD_CNT_BINRST, At.MOD_CNT_SEG, At.MOD_CNT_SEGDROP, At.MOD_INT,
    At.MOD_STATUS, At.T_MLSTAT_0, At.T_MLSTAT_1]⟩
  | .epochBoundary => ⟨.field, [.mdl], inRegs [At.MOD_CNT_EPSKIP, At.MOD_EPNUM, At.MOD_INT, At.MOD_LAST_NS, At.MOD_LAST_SH,
    At.MOD_LAST_SL, At.MOD_STATUS]⟩
  | .epochPublish => ⟨.field, [.hif, .hmp, .mdl, .free], inRegs [At.HIF_RINGn_DCONS, At.HIF_RINGn_DROP, At.HMP_CNT_LAST,
    At.HMP_INT, At.HMP_MAPFULL_HI, At.HMP_MAPFULL_LO, At.HMP_QSTATq, At.HMP_STATUS, At.MOD_CNT_BINRST, At.MOD_CNT_EPOCH,
    At.MOD_CNT_NOCONV, At.MOD_CNT_RES_DROP, At.MOD_CTRL, At.MOD_DECT, At.MOD_INT, At.MOD_STATUS, At.T_MLSTAT_0, At.T_MPEAK,
    At.T_MSLOTV, At.T_MSV]⟩
  | .snapshotBinWrite => ⟨.field, [.hif, .hmp, .mdl, .free], inRegs [At.HIF_RINGn_DCONS, At.HIF_RINGn_DROP, At.HMP_CNT_LAST,
    At.HMP_INT, At.HMP_MAPFULL_HI, At.HMP_MAPFULL_LO, At.HMP_QSTATq, At.HMP_STATUS, At.MOD_CNT_BINRST, At.MOD_CTRL,
    At.MOD_DECT, At.MOD_INT, At.MOD_STATUS, At.T_MLSTAT_0, At.T_MSLOTV]⟩
  | .snapshotTimeout => ⟨.field, [.mdl], inRegs [At.MOD_CNT_SNAP_FAIL, At.MOD_CTRL, At.MOD_INT, At.MOD_STATUS,
    At.T_MLSTAT_0, At.T_MSLOTV]⟩
  | .modalStart => ⟨.field, [.mdl], inRegs [At.GLB_STATUS, At.MOD_CTRL, At.MOD_INT, At.MOD_STATUS, At.T_MLSTAT_0,
    At.T_MSLOTV]⟩
  | .modalStop => ⟨.field, [.mdl], inRegs [At.GLB_STATUS, At.MOD_CTRL, At.MOD_STATUS, At.T_MLSTAT_0]⟩
  | .captureEnable => ⟨.field, [.hmp, .cap], inRegs [At.CAP_CTRL, At.CAP_INT, At.CAP_STATUS, At.GLB_STATUS]⟩
  | .captureDisable => ⟨.field, [.cap], inRegs [At.CAP_CTRL, At.CAP_ENGn_STAT, At.CAP_STATUS, At.GLB_STATUS]⟩
  | .triggerDefValidate _ _ => ⟨.field, [.cap], inRegs [At.CAP_INT, At.GLB_STATUS, At.T_CTRIG_0]⟩
  | .maskValidate _ _ => ⟨.field, [], inRegs [At.CAP_INT, At.GLB_STATUS, At.T_CMASK]⟩
  | .softwareTrigger _ => ⟨.field, [.cap], inRegs [At.GLB_STATUS, At.T_CTSTAT_0, At.T_CTSTAT_1]⟩
  | .captureArm _ => ⟨.field, [.cap], inRegs [At.CAP_ENGn_STAT, At.CAP_INT, At.GLB_STATUS]⟩
  | .captureTimedArm _ => ⟨.field, [.cap], inRegs [At.CAP_ENGn_STAT, At.CAP_INT]⟩
  | .pretriggerFull _ => ⟨.field, [.hmp, .cap], inRegs [At.CAP_ENGn_STAT, At.CAP_INT]⟩
  | .captureTrigger _ => ⟨.field, [.cap], inRegs [At.CAP_ENGn_IGN, At.CAP_ENGn_STAT, At.CAP_INT]⟩
  | .collectionClose _ => ⟨.field, [.hmp, .cap, .free], inRegs [At.CAP_ENGn_STAT, At.CAP_INT, At.HMP_CNT_LAST, At.HMP_INT,
    At.HMP_MAPFULL_HI, At.HMP_MAPFULL_LO, At.HMP_QSTATq, At.HMP_STATUS]⟩
  | .captureComplete _ => ⟨.field, [.hmp, .cap], inRegs [At.CAP_CNT_PASSDROP, At.CAP_ENGn_CNT, At.CAP_ENGn_STAT,
    At.CAP_INT]⟩
  | .captureDeliver _ => ⟨.field, [.hif, .hmp, .cap, .free], inRegs [At.HIF_RINGn_DCONS, At.HIF_RINGn_DROP, At.HMP_CNT_LAST,
    At.HMP_INT, At.HMP_MAPFULL_HI, At.HMP_MAPFULL_LO, At.HMP_QSTATq, At.HMP_STATUS]⟩
  | .captureRelease _ => ⟨.field, [.cap], inRegs [At.CAP_ENGn_STAT, At.CAP_INT, At.GLB_STATUS]⟩
  | .captureDisarm _ => ⟨.field, [.cap], inRegs [At.CAP_ENGn_STAT, At.GLB_STATUS]⟩
  | .ringEnable _ _ => ⟨.host, [.hif], inRegs [At.GLB_STATUS, At.HIF_ERR_RING, At.HIF_INT, At.HIF_RINGn_CPROD,
    At.HIF_RINGn_CTRL, At.HIF_RINGn_DCONS, At.HIF_RINGn_STAT]⟩
  | .ringDisable _ => ⟨.host, [.hif, .rdr, .adc, .dsp, .free], inRegs [At.DSP_SPILL_CFG, At.DSP_STATUS, At.GLB_STATUS,
    At.HIF_RINGn_CTRL, At.HIF_RINGn_DCONS, At.HIF_RINGn_STAT, At.LOG_RD_STAT, At.T_THSTAT_0, At.T_THSTAT_1, At.T_THSTAT_2]⟩
  | .ringStopped _ => ⟨.host, [.hif], inRegs [At.HIF_RINGn_STAT]⟩
  | .doorbell _ _ _ _ => ⟨.host, [.hif], inRegs [At.HIF_CNT_DBX, At.HIF_INT, At.HIF_RINGn_DCONS, At.HIF_RINGn_STAT]⟩
  | .ringPoll _ _ _ _ => ⟨.host, [.hif], inRegs [At.HIF_CNT_DBX, At.HIF_INT, At.HIF_RINGn_DCONS, At.HIF_RINGn_STAT]⟩
  | .completionWrite _ => ⟨.host, [.hif, .ports], inRegs [At.FP_TS_CNT, At.HIF_RINGn_CPROD, At.HIF_TOKk, At.LOG_RD_NEXT]⟩
  | .descNop _ => ⟨.host, [.hif], inRegs []⟩
  | .descFence _ => ⟨.host, [.hif], inRegs []⟩
  | .tokenWaitStart _ => ⟨.host, [.hif], inRegs []⟩
  | .fenceTimeout _ => ⟨.host, [.hif], inRegs [At.HIF_INT]⟩
  | .cmdWriteBlock _ _ => ⟨.host, allBut [.log, .paths, .flush], anyWord⟩
  | .cmdReadBlock _ => ⟨.host, [.paths, .hif, .adc, .dsp, .rul], anyWord⟩
  | .txhSend _ _ => ⟨.host, [.hif, .ports, .pairs], inRegs []⟩
  | .txhInject _ _ => ⟨.host, [.hif, .ing], inRegs []⟩
  | .bufPost _ => ⟨.host, [.hif], inRegs [At.HIF_RINGn_DCONS]⟩
  | .msixMessage _ => ⟨.host, [.hif], inRegs [At.T_MSIXPBA]⟩
  | .moderationTimer _ => ⟨.host, [.hif], inRegs []⟩
  | .msixUnmask _ => ⟨.host, [.hif], inRegs [At.GLB_STATUS, At.T_MSIXPBA, At.T_MSIX_3]⟩
  | .hostStall => ⟨.host, [], inRegs [At.HIF_INT, At.HIF_STATUS]⟩
  | .heartbeat _ => ⟨.host, [.hif], inRegs [At.GLB_STATUS, At.HIF_HB, At.HIF_STATUS, At.T_MSIXPBA]⟩
  | .pcieLinkDown => ⟨.host, [.hif], inRegs [At.HIF_INT, At.HIF_STATUS]⟩
  | .dmaReadFail _ _ => ⟨.host, [.hif, .rdr, .adc], inRegs [At.CMP_CNT_FAIL, At.CMP_CNT_JOBS, At.CMP_CNT_LIMIT,
    At.CMP_CNT_OUTFULL, At.CMP_INT, At.HIF_ERR_RING, At.HIF_INT, At.HIF_RINGn_DCONS, At.HIF_RINGn_STAT, At.LOG_RD_STAT]⟩
  | .threadValidate _ _ => ⟨.host, [], inRegs [At.DSP_INT, At.GLB_STATUS, At.T_THREAD_0, At.T_THSTAT_0]⟩
  | .dspReady _ => ⟨.host, [.hif, .dsp, .free], inRegs [At.DSP_CNT_WAKE, At.DSP_CPUc_NEXT, At.DSP_INT, At.DSP_SPILL_CFG,
    At.DSP_STATUS, At.T_THSTAT_0, At.T_THSTAT_1, At.T_THSTAT_2, At.T_THSTAT_3]⟩
  | .dspDelay _ => ⟨.host, [.hif, .dsp, .free], inRegs [At.DSP_CNT_EXPIRED, At.DSP_CNT_LATE, At.DSP_CNT_NOSPACE,
    At.DSP_CNT_WAKE, At.DSP_CPUc_CUR, At.DSP_CPUc_NEXT, At.DSP_INT, At.DSP_SPILL_CFG, At.DSP_STATUS, At.HIF_TOKk,
    At.T_THSTAT_0, At.T_THSTAT_1, At.T_THSTAT_2, At.T_THSTAT_3]⟩
  | .dspWait _ => ⟨.host, [.hif, .dsp, .free], inRegs [At.DSP_CNT_EXPIRED, At.DSP_CNT_LATE, At.DSP_CNT_NOSPACE,
    At.DSP_CNT_WAKE, At.DSP_CPUc_CUR, At.DSP_CPUc_NEXT, At.DSP_INT, At.DSP_SPILL_CFG, At.DSP_STATUS, At.HIF_TOKk,
    At.T_THSTAT_0, At.T_THSTAT_1, At.T_THSTAT_2, At.T_THSTAT_3]⟩
  | .dspCancel _ => ⟨.host, [.hif, .dsp, .free], inRegs [At.DSP_CPUc_CUR, At.DSP_CPUc_NEXT, At.DSP_SPILL_CFG, At.DSP_STATUS,
    At.T_THSTAT_0, At.T_THSTAT_1, At.T_THSTAT_2]⟩
  | .dspSetPrio _ => ⟨.host, [.hif, .dsp, .free], inRegs [At.DSP_CPUc_NEXT, At.DSP_INT, At.DSP_SPILL_CFG, At.DSP_STATUS,
    At.T_THREAD_0, At.T_THSTAT_0]⟩
  | .dspTimer _ => ⟨.host, [.hif, .dsp, .free], inRegs [At.DSP_CNT_EXPIRED, At.DSP_CNT_LATE, At.DSP_CNT_NOSPACE,
    At.DSP_CNT_WAKE, At.DSP_CPUc_NEXT, At.DSP_INT, At.DSP_SPILL_CFG, At.DSP_STATUS, At.HIF_TOKk, At.T_THSTAT_0,
    At.T_THSTAT_1, At.T_THSTAT_2, At.T_THSTAT_3]⟩
  | .dispatchTick => ⟨.host, [.hif, .dsp, .free], inRegs [At.DSP_CNT_EXPIRED, At.DSP_CNT_LATE, At.DSP_CNT_WAKE,
    At.DSP_CPUc_NEXT, At.DSP_INT, At.DSP_SPILL_CFG, At.DSP_STATUS, At.HIF_TOKk, At.T_THSTAT_0, At.T_THSTAT_1, At.T_THSTAT_2,
    At.T_THSTAT_3]⟩
  | .dspTake _ _ => ⟨.host, [.paths, .dsp], inRegs [At.DSP_CNT_PREEMPT, At.DSP_CPUc_CUR, At.DSP_CPUc_NEXT, At.DSP_CPUc_USER,
    At.DSP_INT, At.DSP_SPILL_CFG, At.DSP_STATUS, At.T_THSTAT_0]⟩
  | .spillFetch _ => ⟨.host, [.hif, .dsp, .free], inRegs [At.DSP_CPUc_NEXT, At.DSP_INT, At.DSP_SPILL_CFG, At.DSP_STATUS,
    At.T_THSTAT_0, At.T_THSTAT_1, At.T_THSTAT_2]⟩
  | .fabricStart => ⟨.host, [.dxl], inRegs [At.DXL_CTRL, At.DXL_LINKn_STAT, At.DXL_NODE, At.DXL_STATUS, At.GLB_STATUS]⟩
  | .daxideFrameReceive _ _ => ⟨.host, [.tkp, .hif, .hmp, .ports, .pairs, .keys, .ing, .dxl, .free], inRegs
    [At.DXL_CNT_AUTH, At.DXL_CNT_BIND, At.DXL_CNT_CLASH, At.DXL_CNT_DUP, At.DXL_CNT_HOPS, At.DXL_CNT_HOSTDROP,
    At.DXL_CNT_MALFORMED, At.DXL_CNT_OLD, At.DXL_CNT_RELAY_DROP, At.DXL_CNT_RLIM, At.DXL_CNT_TOKEN, At.DXL_INT,
    At.DXL_LINKn_DROP, At.DXL_LINKn_RTD, At.DXL_LINKn_RXF, At.DXL_LINKn_STAT, At.DXL_LINKn_TOFS, At.DXL_LINKn_TXF,
    At.DXL_STATUS, At.FP_BC_DROP, At.FP_FULL_HI, At.FP_FULL_LO, At.FP_INT, At.FP_STAT_HALF, At.HIF_RINGn_DCONS,
    At.HIF_RINGn_DROP, At.HMP_CNT_LAST, At.HMP_INT, At.HMP_MAPFULL_HI, At.HMP_MAPFULL_LO, At.HMP_QSTATq, At.HMP_STATUS,
    At.KEY_CNT_DENY, At.KEY_DENY, At.KEY_INT, At.TKP_REFn_OFS, At.TKP_REFn_RTD, At.TKP_REFn_STAT, At.TKP_UTC, At.T_KSLOT_5,
    At.T_KSLOT_6, At.T_RASTAT_0, At.T_RASTAT_1]⟩
  | .beaconSend => ⟨.host, [.hif, .ports, .pairs, .keys, .dxl], inRegs [At.DXL_LINKn_DROP, At.DXL_LINKn_TXF,
    At.KEY_CNT_DENY, At.KEY_DENY, At.KEY_INT, At.T_KSLOT_5, At.T_KSLOT_6]⟩
  | .remoteOriginLost _ => ⟨.host, [.hif, .dxl, .free], inRegs [At.DXL_CNT_HOSTDROP, At.DXL_INT, At.HIF_RINGn_DCONS,
    At.HIF_RINGn_DROP, At.T_RASTAT_0, At.T_RASTAT_1]⟩
  | .remoteAlarmEntryWrite a _ => ⟨.host, [.dxl], orAt a (inRegs [At.DXL_INT, At.GLB_STATUS, At.T_RASTAT_0])⟩
  | .relayEnable => ⟨.host, [], inRegs [At.DXL_INT, At.DXL_RELAY, At.DXL_STATUS, At.GLB_STATUS]⟩
  | .relayRetransmit _ => ⟨.host, [.hif, .hmp, .ports, .pairs, .keys, .dxl, .free], inRegs [At.DXL_LINKn_DROP,
    At.DXL_LINKn_TXF, At.HMP_CNT_LAST, At.HMP_INT, At.HMP_MAPFULL_HI, At.HMP_MAPFULL_LO, At.HMP_QSTATq, At.HMP_STATUS,
    At.KEY_CNT_DENY, At.KEY_DENY, At.KEY_INT, At.T_KSLOT_5, At.T_KSLOT_6]⟩
  | .relayExpire _ => ⟨.host, [.dxl], inRegs [At.DXL_CNT_RELAY_EXP, At.DXL_INT]⟩
  | .keepaliveSend _ => ⟨.host, [.hif, .ports, .pairs, .keys, .dxl], inRegs [At.DXL_LINKn_DROP, At.DXL_LINKn_TXF,
    At.KEY_CNT_DENY, At.KEY_DENY, At.KEY_INT, At.T_KSLOT_5, At.T_KSLOT_6]⟩
  | .keepaliveTimeout _ => ⟨.host, [.dxl], inRegs [At.DXL_INT, At.DXL_LINKn_STAT, At.DXL_STATUS]⟩
  | .dxlLockLoss _ => ⟨.host, [.dxl], inRegs [At.DXL_INT, At.DXL_LINKn_STAT, At.DXL_STATUS]⟩
  | .timeReqSend _ => ⟨.host, [.hif, .ports, .pairs, .keys, .dxl], inRegs [At.DXL_LINKn_DROP, At.DXL_LINKn_TXF,
    At.KEY_CNT_DENY, At.KEY_DENY, At.KEY_INT, At.T_KSLOT_5, At.T_KSLOT_6]⟩
  | .keyInfo _ => ⟨.host, [.hif], inRegs []⟩
  | .keyImport _ _ => ⟨.host, [.hif, .keys], inRegs [At.KEY_STATUS, At.T_KSLOT_0, At.T_KSLOT_1, At.T_KSLOT_2, At.T_KSLOT_3,
    At.T_KSLOT_4]⟩
  | .keyDerive _ _ => ⟨.host, [.hif, .keys], inRegs [At.KEY_STATUS, At.T_KSLOT_0, At.T_KSLOT_1, At.T_KSLOT_2, At.T_KSLOT_3,
    At.T_KSLOT_4]⟩
  | .keyUnwrap _ _ => ⟨.host, [.hif, .keys], inRegs [At.KEY_STATUS, At.T_KSLOT_0, At.T_KSLOT_1, At.T_KSLOT_2, At.T_KSLOT_3,
    At.T_KSLOT_4]⟩
  | .keyCopyWritten _ => ⟨.host, [.hif, .keys], inRegs [At.KEY_INT, At.KEY_STATUS, At.T_KSLOT_0, At.T_KSLOT_1, At.T_KSLOT_2,
    At.T_KSLOT_3, At.T_KSLOT_4]⟩
  | .keyCommit _ _ => ⟨.host, [.hif, .keys], inRegs [At.KEY_INT, At.KEY_STATUS, At.T_KSLOT_0, At.T_KSLOT_1, At.T_KSLOT_2,
    At.T_KSLOT_3, At.T_KSLOT_4, At.T_KSLOT_5]⟩
  | .keyErase _ => ⟨.host, [.hif, .keys], inRegs [At.KEY_STATUS, At.T_KSLOT_0, At.T_KSLOT_1, At.T_KSLOT_2, At.T_KSLOT_3,
    At.T_KSLOT_4, At.T_KSLOT_5]⟩
  | .keyAttest _ _ => ⟨.host, [.hif], inRegs []⟩
  | .fwStatus _ => ⟨.host, [.hif], inRegs []⟩
  | .fwWrite _ _ _ => ⟨.host, [.pwr, .hif], inRegs []⟩
  | .fwCheck _ _ => ⟨.host, [.pwr, .hif], inRegs []⟩
  | .fwActivate _ => ⟨.host, [.pwr, .hif], inRegs [At.GLB_INT, At.GLB_STATUS, At.GLB_XAORN]⟩
  | .fwSettings _ _ => ⟨.host, [.pwr, .hif], inRegs []⟩
  | .xaornReport => ⟨.host, [.pwr], inRegs [At.GLB_INT, At.GLB_STATUS, At.GLB_XAORN]⟩
  | .updateTimeout => ⟨.host, [.pwr], inRegs [At.GLB_INT, At.GLB_STATUS, At.GLB_XAORN]⟩
  | .lockstepMismatch _ => ⟨.host, [.pwr], inRegs [At.GLB_INT, At.GLB_STATUS, At.GLB_XAORN]⟩
  | .logEvent _ _ _ _ => ⟨.host, [], inRegs []⟩
  | .logTokenRefill _ => ⟨.host, [.log], inRegs []⟩
  | .logRecordWrite _ => ⟨.host, [.log], inRegs [At.LOG_CNT_FULL, At.LOG_HEALTH0, At.LOG_HEALTH1, At.LOG_HEALTH2,
    At.LOG_INT, At.LOG_SEQ, At.LOG_STATUS, At.LOG_USED, At.T_LIMIT_1]⟩
  | .logScrub _ => ⟨.host, [.log], inRegs []⟩
  | .logReread _ => ⟨.host, [.log], inRegs [At.LOG_HEALTH0, At.LOG_HEALTH1, At.LOG_HEALTH2, At.LOG_INT]⟩
  | .logReadGo _ => ⟨.host, [.rdr], inRegs [At.LOG_RD_CTRL, At.LOG_RD_NEXT, At.LOG_RD_STAT]⟩
  | .logReadDeliver => ⟨.host, [.log, .hif, .rdr], inRegs [At.HIF_RINGn_DCONS, At.HIF_RINGn_DROP, At.LOG_HEALTH0,
    At.LOG_HEALTH1, At.LOG_HEALTH2, At.LOG_INT, At.LOG_RD_STAT]⟩
  | .logBufferTimeout => ⟨.host, [.hif, .rdr], inRegs [At.HIF_RINGn_DCONS, At.HIF_RINGn_DROP]⟩
  | .logReadStop _ => ⟨.host, [.hif, .rdr], inRegs [At.HIF_RINGn_DCONS, At.HIF_RINGn_DROP, At.LOG_RD_CTRL, At.LOG_RD_STAT]⟩
  | .mirrorRecord => ⟨.host, [.flush], inRegs [At.LOG_MIR_SEQ]⟩
  | .powerFailWarning => ⟨.host, [.pwr, .hif, .flush, .keys], inRegs [At.GLB_INT, At.GLB_STATUS, At.KEY_STATUS, At.LOG_INT,
    At.LOG_STATUS]⟩
  | .powerFailClear => ⟨.host, [.pwr], inRegs [At.GLB_STATUS]⟩
  | .logFlushDone => ⟨.host, [.flush], inRegs [At.LOG_INT]⟩
  | .probeSample _ _ _ _ => ⟨.host, [.lko], inRegs [At.LKO_CNT_LOST, At.LKO_INT, At.LKO_OVER0, At.LKO_OVER1]⟩
  | .probeEnable _ _ => ⟨.host, [.lko], inRegs [At.GLB_STATUS, At.LKO_INT, At.T_PROBE_0]⟩
  | .lkoSnapshot _ => ⟨.host, [.lko], inRegs [At.GLB_STATUS, At.LKO_SNAP, At.T_PSNAP]⟩
  | .cmpCompress _ _ => ⟨.host, [.hif, .cmp, .hmp, .free], inRegs [At.CMP_CNT_FAIL, At.CMP_CNT_JOBS, At.CMP_CNT_LIMIT,
    At.CMP_CNT_OUTFULL, At.CMP_INT, At.CMP_STATUS, At.HMP_CNT_LAST, At.HMP_INT, At.HMP_MAPFULL_HI, At.HMP_MAPFULL_LO,
    At.HMP_QSTATq, At.HMP_STATUS]⟩
  | .cmpDecompress _ _ => ⟨.host, [.hif, .cmp, .hmp, .free], inRegs [At.CMP_CNT_FAIL, At.CMP_CNT_JOBS, At.CMP_CNT_LIMIT,
    At.CMP_CNT_OUTFULL, At.CMP_INT, At.CMP_STATUS, At.HMP_CNT_LAST, At.HMP_INT, At.HMP_MAPFULL_HI, At.HMP_MAPFULL_LO,
    At.HMP_QSTATq, At.HMP_STATUS]⟩
  | .cmpJobComplete _ => ⟨.host, [.hif, .cmp], inRegs [At.CMP_CNT_FAIL, At.CMP_CNT_JOBS, At.CMP_CNT_LIMIT,
    At.CMP_CNT_OUTFULL, At.CMP_INT, At.CMP_STATUS]⟩
  | .powerOnReset _ => ⟨.core, allParts, anyWord⟩
  | .sysRstAssert => ⟨.core, allParts, anyWord⟩
  | .porRelease _ => ⟨.core, [.pwr, .isl, .hif, .hmp, .keys], inRegs [At.GLB_CTRL, At.GLB_INT, At.GLB_RSTCAUSE,
    At.GLB_STATUS, At.HMP_MAPFULL_HI, At.HMP_MAPFULL_LO, At.HMP_QSTATq, At.HMP_SCRUB, At.HMP_STATUS, At.KEY_INT,
    At.KEY_STATUS, At.LOG_STATUS, At.TKP_CTRL, At.TKP_STATUS, At.T_KSLOT_0, At.T_KSLOT_1, At.T_KSLOT_2, At.T_KSLOT_3,
    At.T_KSLOT_4]⟩
  | .deviceReady => ⟨.core, [], inRegs [At.GLB_INT, At.GLB_STATUS]⟩
  | .perstAssert => ⟨.core, allBut [.log, .paths, .tkp, .flush], anyWord⟩
  | .perstRelease => ⟨.core, allBut [.log, .paths, .tkp, .rdr, .flush, .lko, .cmp, .ing, .free], inRegs leaveRegs⟩
  | .pcieHotReset => ⟨.core, allBut [.log, .paths, .tkp, .flush], anyWord⟩
  | .functionLevelReset => ⟨.core, allBut [.log, .paths, .tkp, .flush], anyWord⟩
  | .hstResetRelease => ⟨.core, allBut [.log, .paths, .tkp, .rdr, .flush, .lko, .cmp, .ing, .free], inRegs (leaveRegs ++
    [At.GLB_INT, At.GLB_RSTCAUSE])⟩
  | .softReset _ => ⟨.core, allBut [.log, .paths, .tkp, .flush], anyWord⟩
  | .islandReset _ _ => ⟨.core, allBut [.log, .paths, .tkp, .flush], anyWord⟩
  | .dozeEnter => ⟨.core, allBut [.log, .paths, .tkp, .rdr, .flush, .hmp, .keys, .dsp, .free], anyWord⟩
  | .dozeEntryDone => ⟨.core, allBut [.log, .paths, .tkp, .rdr, .flush, .hmp, .keys, .dsp, .free], anyWord⟩
  | .dozeWake => ⟨.core, [.pwr], inRegs []⟩
  | .gpioWake _ _ => ⟨.core, [.pwr], inRegs []⟩
  | .writeGlbWake _ => ⟨.core, [.pwr], inRegs [At.GLB_WAKE]⟩
  | .timedWake => ⟨.core, [.pwr], inRegs [At.GLB_DOZE]⟩
  | .wakeDone => ⟨.core, allBut [.log, .paths, .tkp, .flush], anyWord⟩
  | .thermalTrip _ => ⟨.core, allParts, anyWord⟩
  | .refclkReturn _ => ⟨.core, allBut [.log, .paths, .tkp, .rdr, .flush, .lko, .cmp, .ing, .free], inRegs (leaveRegs ++
    [At.GLB_INT, At.GLB_RSTCAUSE, At.TKP_CTRL, At.TKP_STATUS])⟩
  | .pcieLinkUp _ _ => ⟨.core, [.hif], inRegs [At.HIF_STATUS]⟩
  | .mgtLinkChange _ _ => ⟨.core, [], inRegs [At.MGT_INT, At.MGT_STATUS]⟩
  | .flushAreaErase => ⟨.host, [.flush], inRegs [At.LOG_STATUS]⟩
  | .mgmtFrameSend _ _ _ => ⟨.host, [.hif, .hmp, .ports, .pairs, .keys, .dxl, .free], inRegs [At.DXL_CNT_RELAY_DROP,
    At.DXL_INT, At.DXL_LINKn_DROP, At.DXL_LINKn_TXF, At.HMP_CNT_LAST, At.HMP_INT, At.HMP_MAPFULL_HI, At.HMP_MAPFULL_LO,
    At.HMP_QSTATq, At.HMP_STATUS, At.KEY_CNT_DENY, At.KEY_DENY, At.KEY_INT, At.T_KSLOT_5, At.T_KSLOT_6]⟩

end Sys2Proof.Machine
end

