-- ==== Sys2Proof/Certificates/Slice0/Obligations.lean ====
section
/-!
DEFINITION. The statements for the provers. Each says what commands do from every state: the next state they answer, with what it
holds, or the state unchanged; and what every step keeps.
-/

open Sys2Proof Sys2Proof.Machine

/-- The model's frame, no rule of the spec: a step runs the command at the front of the queue on the state with the queue's
rest, and with nothing queued the block idles. Where it rests on the model's reading, log entry 2 says so. -/
def Obligations.StepRunsFront : Prop :=
  (∀ (s : State) (c : Instr) (rest : List Instr),
    step { s with pending := c :: rest } = exec c { s with pending := rest }) ∧
  (∀ (s : State), s.pending = [] → step s = .next s)

/-- R3: after a power-on reset every register field reads its Reset value. The model's reset state, held in POR, also has grid
time 0, an empty Logbook and an empty queue, and meets the invariants of the model. Where it rests on the model's reading,
log entries 6 and 7 say so. -/
def Obligations.ResetState : Prop :=
  (∀ f ∈ allFields, ∀ i, State.reset.dev.getN f i = f.ofWord (resetWord (f.reg.addr i))) ∧
  State.reset.time = ⟨0, 0⟩ ∧ State.reset.pending = [] ∧ State.reset.log.records = [] ∧
  State.reset.dev.pwr.released = false ∧ State.reset.dev.evs = [] ∧ (∀ i, i < 36 → State.reset.dev.up i = false) ∧
  State.reset.intakeFits ∧ State.reset.seqRuns ∧ State.reset.regsWf ∧
  Memory.wf State.reset.dev.hmp.mem = true

/-- Every command goes on from every state: none is refused, and the one fault is an access beyond the end of BAR4's window,
which log entry 10 of the model names. The queue is first in, first out, and no command changes it: after a step it is what
stood behind the front. The model's frame, no rule of the spec. Where it rests on the model's reading, log entry 2 says so. -/
def Obligations.EveryCommandGoesOn : Prop :=
  ((∀ (s : State) (c : Instr), (∀ p a, c = .bar4Read p a → a < 2 ^ 27) → (∀ a v, c = .bar4Write a v → a < 2 ^ 27) →
    goesOn (exec c s)) ∧
  (∀ (s : State) (p : Path) (a : Nat) (v : Word32), 2 ^ 27 ≤ a →
    exec (.bar4Read p a) s = .fault .outsideWindow ∧ exec (.bar4Write a v) s = .fault .outsideWindow)) ∧
  (∀ (s t : State) (c : Instr) (rest : List Instr), s.pending = c :: rest → step s = .next t → t.pending = rest)

/-- The frame of the commands of the buses, of grid time, of the Hamper and of the resets: outside a command's footprint every
part of the state and every word of BAR0 stands, and so does the queue. The footprint names the parts and registers that the
spec has the command write, with the words in which the Logbook's intake counts any event (R574 to R577). -/
def Obligations.FramesOfTimeAndResets : Prop :=
  ∀ (s t : State) (c : Instr), (footprint c).side = .core → exec c s = .next t →
    (footprint c).holds s t ∧ t.pending = s.pending

/-- The frame of the commands of the field ports, of ingest, Roll Call, converters and lanes, and of the rule, modal and capture
engines: outside a command's footprint every part of the state and every word of BAR0 stands, and so do grid time and the
queue. The footprint names the parts and registers that the spec has the command write, with the words in which the
Logbook's intake counts any event (R574 to R577). -/
def Obligations.FramesOfMeasurement : Prop :=
  ∀ (s t : State) (c : Instr), (footprint c).side = .field → exec c s = .next t →
    (footprint c).holds s t ∧ t.time = s.time ∧ t.pending = s.pending

/-- The frame of the commands of the rings, of Dispatch, of the fabric, of keys and firmware, of the Logbook, the Lookout and
compression: outside a command's footprint every part of the state and every word of BAR0 stands, and so do grid time and
the queue. The footprint names the parts and registers that the spec has the command write, with the words in which the
Logbook's intake counts any event (R574 to R577). -/
def Obligations.FramesOfHostBlocks : Prop :=
  ∀ (s t : State) (c : Instr), (footprint c).side = .host → exec c s = .next t →
    (footprint c).holds s t ∧ t.time = s.time ∧ t.pending = s.pending

/-- R34, R67, R68 and R640: grid time moves only with a tick, a timed adjustment that is applied, and a power-on reset in one of
its forms; every other command leaves it as it was. A tick is counted once. -/
def Obligations.OnlyTicksMoveTime : Prop :=
  (∀ (s t : State) (c : Instr) (rest : List Instr), s.pending = c :: rest → step s = .next t →
    c ≠ .timekeeperTick → c ≠ .timedAdjust → (∀ b, c ≠ .powerOnReset b) → c ≠ .sysRstAssert → (∀ x, c ≠ .thermalTrip x) →
    t.time = s.time) ∧
  (∀ (s t : State) (c : Instr) (rest : List Instr), s.pending = c :: rest → step s = .next t →
    t.time.ticks = s.time.ticks ∨ (c = .timekeeperTick ∧ t.time.ticks = s.time.ticks + 1) ∨ t.time.ticks = 0)

/-- R575: the Logbook's intake holds at most 64 events; every step keeps it so. -/
def Obligations.IntakeStaysBounded : Prop :=
  ∀ (s t : State), s.intakeFits → step s = .next t → t.intakeFits

/-- R572: the records of the Logbook carry the sequence numbers 1, 2, 3 and so on without gap or repeat, and LOG_SEQ counts
them; every step keeps it so. A step appends at most one record to the Logbook and changes none of those it holds, except a
power-on reset, which clears it (R570, R572). -/
def Obligations.RecordNumbersRun : Prop :=
  (∀ (s t : State), s.seqRuns → step s = .next t → t.seqRuns) ∧
  (∀ (s t : State) (c : Instr) (rest : List Instr), s.pending = c :: rest → step s = .next t →
    t.log.records = s.log.records ∨ (∃ r, t.log.records = s.log.records ++ [r] ∧ ∃ g, c = .logRecordWrite g) ∨
    t.log.records = [])

/-- The model's own form of a memory, no rule of the spec: addresses rise and no entry equals what an unlisted address reads as.
Every step keeps the register file and the Hamper's memory so. -/
def Obligations.TablesStayCanonical : Prop :=
  ∀ (s t : State), s.regsWf → Memory.wf s.dev.hmp.mem = true → step s = .next t →
    t.regsWf ∧ Memory.wf t.dev.hmp.mem = true

/-- R460 and R616: a write or a read that reaches an island not accepting requests. The write is discarded and shown in
GLB_STATUS.ISL_RST_WR; the read answers 0 and is shown in GLB_STATUS.ISL_RST_RD. Nothing else changes. R460 and R616 for the
commands that are writes of one register: while its island does not accept requests, the write is discarded and shown in
GLB_STATUS.ISL_RST_WR, which itself is not there before POR is released. -/
def Obligations.IslandInReset : Prop :=
  (∀ (s : State) (p : Path) (a : Nat) (v : Word32),
    a % 4 = 0 → a < bar0Bytes → (fieldsAt a).isEmpty = false → s.dev.pwr.released = true →
    s.dev.up (islandOf a) = false →
    exec (.writeIslandInReset p a v) s = .next (s.after (s.dev.set Reg.GLB_STATUS.ISL_RST_WR 1)) ∧
      exec (.writeRegister p a v) s = .next (s.after (s.dev.set Reg.GLB_STATUS.ISL_RST_WR 1)) ∧
      exec (.readIslandInReset p a) s = .next (s.after ((s.dev.set Reg.GLB_STATUS.ISL_RST_RD 1).answer p 0))) ∧
  (∀ (s : State) (i : Nat) (v : Word32) (d : Dev),
    d = (if s.dev.pwr.released then s.dev.set Reg.GLB_STATUS.ISL_RST_WR 1 else s.dev) →
    (s.dev.up (islandOf 0x20) = false →
      exec (.writeGlbSplit v) s = .next (s.after d) ∧
      exec .glbLockSet s = .next (s.after d)) ∧
    (s.dev.up (islandOf 0x20010) = false →
      exec (.writeHmpPart i v) s = .next (s.after d)) ∧
    (s.dev.up (islandOf 0x80000) = false →
      exec (.outputEnable i) s = .next (s.after d) ∧
      exec .rollCallStart s = .next (s.after d) ∧
      exec .rollCallStop s = .next (s.after d)) ∧
    (s.dev.up (islandOf 0xA0004) = false →
      exec .refEnable s = .next (s.after d) ∧
      (i < 2 → exec (.adcGo i) s = .next (s.after d)) ∧
      (i < 2 → exec (.adcStop i) s = .next (s.after d)) ∧
      (i < 512 → exec (.laneEnable i v) s = .next (s.after d)) ∧
      (i < 512 → exec (.laneSyncRequest i) s = .next (s.after d)) ∧
      (i < 64 → exec (.coefSetValidate i v) s = .next (s.after d)) ∧
      (i < 128 → exec (.groupValidate i v) s = .next (s.after d)) ∧
      exec (.swapGo v) s = .next (s.after d)) ∧
    (s.dev.up (islandOf 0xC0014) = false →
      exec (.pinRelease i) s = .next (s.after d) ∧
      exec (.ruleAck i) s = .next (s.after d) ∧
      exec .integAck s = .next (s.after d) ∧
      exec (.ruleValidate i v) s = .next (s.after d) ∧
      exec (.areaValidate i v) s = .next (s.after d) ∧
      exec (.detectorValidate i v) s = .next (s.after d) ∧
      exec (.templateEnable i v) s = .next (s.after d) ∧
      exec (.hstateWrite i v) s = .next (s.after d) ∧
      exec .modalStart s = .next (s.after d) ∧
      exec .modalStop s = .next (s.after d)) ∧
    (s.dev.up (islandOf 0xE0000) = false →
      exec .captureEnable s = .next (s.after d) ∧
      exec .captureDisable s = .next (s.after d) ∧
      (i < 256 → exec (.triggerDefValidate i v) s = .next (s.after d)) ∧
      (i < 32 → exec (.maskValidate i v) s = .next (s.after d)) ∧
      exec (.softwareTrigger v) s = .next (s.after d) ∧
      (i < 8 → exec (.captureArm i) s = .next (s.after d)) ∧
      (i < 8 → exec (.captureRelease i) s = .next (s.after d)) ∧
      (i < 8 → exec (.captureDisarm i) s = .next (s.after d))) ∧
    (s.dev.up (islandOf 0xF0010) = false →
      exec (.heartbeat v) s = .next (s.after d) ∧
      (i < 256 → exec (.ringDisable i) s = .next (s.after d))) ∧
    (s.dev.up (islandOf 0x380000) = false →
      (i < 2048 → exec (.threadValidate i v) s = .next (s.after d)) ∧
      exec (.lkoSnapshot v) s = .next (s.after d) ∧
      (i < lkoProbes → exec (.probeEnable i v) s = .next (s.after d))) ∧
    (s.dev.up (islandOf 0x60000) = false →
      exec .fabricStart s = .next (s.after d) ∧
      exec .relayEnable s = .next (s.after d)) ∧
    (s.dev.up islHst = false → i < 256 → ∀ cb, exec (.ringEnable i cb) s = .next (s.after d)) ∧
    (i < 16 → s.dev.up (islandOf (0x40000 + i * 0x2000)) = false →
      exec (.writeFpCtrl i v) s = .next (s.after d) ∧ exec (.configChange i) s = .next (s.after d)) ∧
    (0x200000 ≤ i → i < 0x208000 → s.dev.up (islandOf i) = false →
      exec (.writeSourceEntry i v) s = .next (s.after d)) ∧
    (0x3A0800 ≤ i → i < 0x3A1000 → i % 4 = 0 → s.dev.up (islandOf i) = false →
      exec (.remoteAlarmEntryWrite i v) s = .next (s.after d)))

/-- R632 and R459: a write that is not 4-byte aligned, lies outside BAR0 or names an offset no block defines changes nothing; a
write to a register of a block without rules beyond the access codes leaves each field as its access code says (the key
store, compression, the management port); a read of an undefined offset answers 0. Table SCP-3: what a write makes of one
field, by its access code. Where it rests on the model's reading, log entry 36 says so. -/
def Obligations.BusAccess : Prop :=
  ((∀ (s : State) (p : Path) (a : Nat) (v : Word32), a % 4 ≠ 0 ∨ bar0Bytes ≤ a ∨ (fieldsAt a).isEmpty = true →
    exec (.writeRegister p a v) s = .next (s.after s.dev)) ∧
  (∀ (s : State) (p : Path) (a : Nat) (v : Word32), a % 4 = 0 → (fieldsAt a).isEmpty = false →
    (0x110000 ≤ a ∧ a < 0x120000) ∨ (0x130000 ≤ a ∧ a < 0x200000) → s.dev.up (islandOf a) = true →
    exec (.writeRegister p a v) s = .next (s.after (plainWrite a v s.dev))) ∧
  (∀ (s : State) (p : Path) (a : Nat), (fieldsAt (a / 4 * 4)).isEmpty = true →
    exec (.readClearOnRead p a) s = .next (s.after (s.dev.answer p 0)))) ∧
  (∀ (lockd : Bool) (v w : Word32) (f : Field), f.fits = true →
    f.ofWord (accessWrite lockd v w f) =
      match f.acc with
      | .rw => f.ofWord v
      | .rwl => if lockd then f.ofWord w else f.ofWord v
      | .w1c => f.ofWord w &&& (2 ^ f.width - 1 - f.ofWord v)
      | .w1s => f.ofWord w ||| f.ofWord v
      | .ro => f.ofWord w
      | .wo => f.ofWord w
      | .rc => f.ofWord w)

/-- Reads that reach their block. R5: a low half is answered and every high half it belongs to is latched for the access path.
R6, R7: a high half is answered from the path's shadow. Table SCP-3: a read of a register with RC fields answers the word
and clears them. R35: a read of TKP_NOW_NS answers the nanoseconds of the TAI second and latches the seconds. R66: a read of
TKP_FREQ_LO latches the high bits of the frequency word. What an access path's shadow does (R5 to R7): a read of a high half
answers the latched word and uses the low half up; without a low half read since the last high half it sets GLB_STATUS.TORN;
the other paths keep theirs. Where it rests on the model's reading, log entry 35 says so. -/
def Obligations.ShadowReads : Prop :=
  ((∀ (s : State) (p : Path), s.dev.up (islandOf 0x10008) = true →
    exec (.readTkpNowNs p) s = .next (s.after (((s.dev.answer p (BitVec.ofNat 32 s.time.nsec)).latch p 0x1000C
      (s.time.sec % 2 ^ 32)).latch p 0x10010 (s.time.sec / 2 ^ 32 % 2 ^ 16)))) ∧
  (∀ (s : State) (p : Path), s.dev.up (islandOf 0x10014) = true →
    exec (.readLowHalf p 0x10014) s = .next (s.after ((s.dev.answer p (BitVec.ofNat 32 s.time.st32)).latch p 0x10018
      s.time.epoch))) ∧
  (∀ (s : State) (p : Path), s.dev.pwr.released = true → exec (.readTkpFreqLo p) s =
    .next (s.after ((s.dev.answer p (BitVec.ofNat 32 (unsig 40 s.dev.tkp.freq))).latch p 0x10024
      (unsig 40 s.dev.tkp.freq / 2 ^ 32)))) ∧
  (∀ (s : State) (p : Path) (a : Nat), isHigh a = true → a % 4 = 0 → a < bar0Bytes → (fieldsAt a).isEmpty = false →
    s.dev.up (islandOf a) = true → exec (.readHighHalf p a) s = .next (s.after (s.dev.readShadow p a))) ∧
  (∀ (s : State) (p : Path) (a : Nat), a ∈ [0x20030, 0x20034, 0x20038, 0x2003C] → s.dev.up (islandOf a) = true →
    exec (.readClearOnRead p a) s =
      .next (s.after { s.dev.answer p (s.dev.word a) with regs := rput s.dev.regs a 0 }))) ∧
  (∀ (d : Dev) (p q : Path) (hi v : Nat),
    (((d.latch p hi v).readShadow p hi).path p).rd = BitVec.ofNat 32 v ∧
      ((d.latch p hi v).readShadow p hi).regs = d.regs ∧
      (q ≠ p → (d.latch p hi v).path q = d.path q ∧ (d.readShadow p hi).path q = d.path q) ∧
      (tget (d.path p).fresh hi = 0 →
        (d.readShadow p hi).get Reg.GLB_STATUS.TORN = 1 ∧
        ((d.readShadow p hi).path p).rd = BitVec.ofNat 32 (tget (d.path p).shadow hi)) ∧
      tget ((d.readShadow p hi).path p).fresh hi = 0)

/-- R25 and R30: GLB_SPLIT. With GLB_LOCK open, a field that the write gives the value 3, or KEY the value 2, keeps its value
and REJ is set; the other fields take theirs, and what the change of each field asks for follows. With GLB_LOCK set no field
but REJ changes, and a write with bit 31 set clears REJ. GLB_LOCK latches at 1. -/
def Obligations.SplitAndLock : Prop :=
  (∀ (s : State), s.dev.pwr.released = true →
    exec .glbLockSet s = .next (s.after (s.dev.set Reg.GLB_LOCK.LOCK 1))) ∧
  (∀ (s : State) (v : Word32), s.dev.pwr.released = true → s.dev.on Reg.GLB_LOCK.LOCK = true →
    exec (.writeGlbSplit v) s = .next (s.after (splitStored v s.dev)) ∧
      (∀ f ∈ splitFields, (splitStored v s.dev).get f = s.dev.get f) ∧
      (splitStored v s.dev).get Reg.GLB_SPLIT.REJ = (if bitOf v 31 then 0 else s.dev.get Reg.GLB_SPLIT.REJ)) ∧
  (∀ (s : State) (v : Word32), s.dev.pwr.released = true → s.dev.on Reg.GLB_LOCK.LOCK = false →
    exec (.writeGlbSplit v) s = .next (s.after (splitEffects s.time s.dev (splitStored v s.dev))) ∧
    (∀ f ∈ splitFields, (splitStored v s.dev).get f =
      if f.ofWord v = 3 ∨ (f = Reg.GLB_SPLIT.KEY ∧ f.ofWord v = 2) then s.dev.get f else f.ofWord v) ∧
    (splitStored v s.dev).get Reg.GLB_SPLIT.REJ =
      if ∃ f ∈ splitFields, f.ofWord v = 3 ∨ (f = Reg.GLB_SPLIT.KEY ∧ f.ofWord v = 2) then 1
      else if bitOf v 31 then 0 else s.dev.get Reg.GLB_SPLIT.REJ)

/-- R640, R643 and R652: a power-on reset, SYS_RST_N and the trip level each clear grid time and the Logbook and leave every
register at its Reset value; the flash, the fuses and the levels of the pins stay, and the queue of waiting commands is not
touched. At the release level and below, the thermal hold ends; between the two levels nothing changes. R617, R626 and R627:
POR is released: the device accepts requests, every island with PERST_N high runs, RSTCAUSE shows a POR, and the self-test
and the key load are done; while TESTEN or the thermal hold lasts, or after release, the command changes nothing. READY
rises, with GLB_INT.READY, once every start-up condition holds, and not before. Where it rests on the model's reading, log
entries 6 and 31 say so. -/
def Obligations.PowerOn : Prop :=
  ((∀ (s : State) (test : Bool), ∃ t, exec (.powerOnReset test) s = .next t ∧ t.time = ⟨0, 0⟩ ∧ t.log = default ∧
    (∀ a, t.dev.word a = resetWord a) ∧ t.dev.pwr.released = false ∧ t.dev.pwr.testEn = test ∧
    t.dev.pwr.images = s.dev.pwr.images ∧ t.dev.pwr.copyA = s.dev.pwr.copyA ∧ t.dev.pwr.copyB = s.dev.pwr.copyB ∧
    t.dev.keys.copies = s.dev.keys.copies ∧ t.dev.keys.slots = [] ∧ t.dev.hif = default ∧ t.dev.ports = [] ∧
    t.dev.hmp = default ∧ t.pending = s.pending) ∧
  (∀ (s : State), ∃ t, exec .sysRstAssert s = .next t ∧ t.time = ⟨0, 0⟩ ∧ t.log = default ∧
    (∀ a, t.dev.word a = resetWord a) ∧ t.dev.pwr.released = false ∧ t.dev.pwr.sysRst = true ∧
    t.dev.keys.copies = s.dev.keys.copies ∧ t.pending = s.pending) ∧
  (∀ (s : State) (tj : Int), max 118 (min 122 Config.tripLevel) ≤ tj → ∃ t, exec (.thermalTrip tj) s = .next t ∧
    t.time = ⟨0, 0⟩ ∧ t.log = default ∧ (∀ a, t.dev.word a = resetWord a) ∧ t.dev.pwr.released = false ∧ t.dev.pwr.hot = true) ∧
  (∀ (s : State) (tj : Int), tj ≤ max 108 (min 112 Config.releaseLevel) →
    exec (.thermalTrip tj) s = .next (s.after (s.dev.modPwr fun p => { p with hot := false }))) ∧
  (∀ (s : State) (tj : Int), max 108 (min 112 Config.releaseLevel) < tj → tj < max 118 (min 122 Config.tripLevel) →
    exec (.thermalTrip tj) s = .next (s.after s.dev))) ∧
  ((∀ (s : State) (b : BootInfo), s.dev.pwr.released = false → s.dev.pwr.testEn = false → s.dev.pwr.hot = false →
    ∃ t, exec (.porRelease b) s = .next t ∧ t.dev.pwr.released = true ∧ t.time = s.time ∧ t.pending = s.pending ∧
      (∀ i, 0 < i → i < 36 → islMode t.dev i = .run) ∧
      islMode t.dev 0 = (if s.dev.pwr.perstLow then .reset else .run) ∧ t.dev.hif.lastHb = s.time.loc) ∧
  (∀ (s : State) (b : BootInfo), s.dev.pwr.released = true ∨ s.dev.pwr.testEn = true ∨ s.dev.pwr.hot = true →
    exec (.porRelease b) s = .next (s.after s.dev)) ∧
  (∀ (s : State), s.dev.pwr.released = true → s.dev.on Reg.GLB_STATUS.READY = false →
    s.dev.on Reg.HMP_STATUS.SELFTEST_DONE = true → s.dev.on Reg.KEY_STATUS.LOADED = true →
    (∀ i ∈ islands, s.dev.up i = true) → s.dev.on Reg.GLB_STATUS.XAORN_RUN = true ∨ s.dev.on Reg.GLB_STATUS.XFAIL = true →
    exec .deviceReady s = .next (s.after ((s.dev.set Reg.GLB_STATUS.READY 1).cause intGlb 0 0 0))) ∧
  (∀ (s : State), s.dev.pwr.released = false ∨ s.dev.on Reg.GLB_STATUS.READY = true ∨
      s.dev.on Reg.HMP_STATUS.SELFTEST_DONE = false ∨ s.dev.on Reg.KEY_STATUS.LOADED = false ∨
      (∃ i ∈ islands, s.dev.up i = false) ∨
      (s.dev.on Reg.GLB_STATUS.XAORN_RUN = false ∧ s.dev.on Reg.GLB_STATUS.XFAIL = false) →
    exec .deviceReady s = .next (s.after s.dev)))

/-- R19, R20 and R617: the clock of an island fails: code 16 is raised with GLB_INT.CLK, a running island is reset, and its
clock is marked failed; an island whose clock has failed already, or that is gated or not started, changes nothing. When its
clock is back, an island that nothing else holds leaves reset, with its own record unless it leaves with a wider reset that
still runs. R648 and R649: a clock that AON can run from fails. With the other clock good the PLLs move to it and every
running island is reset; with neither good AON runs on its internal oscillator and holds every island; a failure of the
clock not in use is only noted; OSC10M's failure clears TKP_STATUS.OSC10M_OK. When a failed clock is back and AON does not
run on its internal oscillator, only its own condition changes; when it does, it moves to that clock and holds no island any
more. Where it rests on the model's reading, log entry 33 says so. -/
def Obligations.Clocks : Prop :=
  ((∀ (s : State) (i : Nat) (d : Dev), i < 36 → s.dev.pwr.released = true → (tget s.dev.isl i).clkBad = false →
    d = (s.dev.event 16 i i 0).cause intGlb 6 i 0 →
    (islMode s.dev i = .run → exec (.islandClockFail i) s = .next (s.after (clockInteg s.time i
      ((doIrst s.time d i).modIsl i fun x => { x with clkBad := true })))) ∧
    (islMode s.dev i = .reset → exec (.islandClockFail i) s = .next (s.after (clockInteg s.time i
      (d.modIsl i fun x => { x with clkBad := true }))))) ∧
  (∀ (s : State) (i : Nat), 36 ≤ i ∨ s.dev.pwr.released = false ∨ islMode s.dev i = .gated ∨ islMode s.dev i = .off ∨
      (tget s.dev.isl i).clkBad = true →
    exec (.islandClockFail i) s = .next (s.after s.dev)) ∧
  (∀ (s : State) (i : Nat), 36 ≤ i ∨ (tget s.dev.isl i).clkBad = false →
    exec (.islandClockRecover i) s = .next (s.after s.dev)) ∧
  (∀ (s : State) (i : Nat) (d : Dev), i < 36 → (tget s.dev.isl i).clkBad = true →
    d = s.dev.modIsl i (fun x => { x with clkBad := false }) →
    (islMode s.dev i ≠ .reset ∨ (tget s.dev.isl i).held = true ∨
        (i = 0 ∧ (s.dev.pwr.perstLow = true ∨ s.dev.pwr.hstHold = true)) →
      exec (.islandClockRecover i) s = .next (s.after d)) ∧
    (islMode s.dev i = .reset → (tget s.dev.isl i).held = false →
      i ≠ 0 ∨ (s.dev.pwr.perstLow = false ∧ s.dev.pwr.hstHold = false) →
      (wideReaches s.dev i = false →
        exec (.islandClockRecover i) s = .next (s.after (resetEnded 3 i (leaveReset s.time i d)))) ∧
      (wideReaches s.dev i = true →
        exec (.islandClockRecover i) s = .next (s.after (wideEnd (leaveReset s.time i d)))))) ∧
  (∀ (s : State) (i : Nat), mayLeave s.dev i = true →
    (wideReaches s.dev i = false →
      exec (.islandResetExit i) s = .next (s.after (resetEnded 3 i (leaveReset s.time i s.dev)))) ∧
    (wideReaches s.dev i = true →
      exec (.islandResetExit i) s = .next (s.after (wideEnd (leaveReset s.time i s.dev)))) ∧
    islMode (leaveReset s.time i s.dev) i = .run ∧
    ∀ j, j ≠ i → islMode (leaveReset s.time i s.dev) j = islMode s.dev j) ∧
  (∀ (s : State) (i : Nat), mayLeave s.dev i = false → exec (.islandResetExit i) s = .next (s.after s.dev))) ∧
  ((∀ (s : State), s.dev.pwr.released = false ∨ s.dev.pwr.refBad = true →
    exec .refclkFail s = .next (s.after s.dev)) ∧
  (∀ (s : State), s.dev.pwr.released = false ∨ s.dev.pwr.refBad = false →
    exec (.refclkReturn false) s = .next (s.after s.dev)) ∧
  (∀ (s : State), s.dev.pwr.released = true → s.dev.pwr.refBad = false →
    (s.dev.on Reg.TKP_CTRL.CLKSRC = false → s.dev.pwr.intOsc = false →
      exec .refclkFail s = .next (s.after (sourceFail s.time (s.dev.on Reg.TKP_STATUS.OSC10M_OK) 1
        (s.dev.modPwr fun p => { p with refBad := true })))) ∧
    (s.dev.on Reg.TKP_CTRL.CLKSRC = true ∨ s.dev.pwr.intOsc = true →
      exec .refclkFail s = .next (s.after (s.dev.modPwr fun p => { p with refBad := true })))) ∧
  (∀ (s : State), s.dev.pwr.released = false ∨ s.dev.pwr.oscBad = true → exec .osc10mFail s = .next (s.after s.dev)) ∧
  (∀ (s : State), s.dev.pwr.released = false ∨ s.dev.pwr.oscBad = false →
    exec (.refclkReturn true) s = .next (s.after s.dev)) ∧
  (∀ (s : State) (d : Dev), s.dev.pwr.released = true → s.dev.pwr.oscBad = false →
    d = (s.dev.set Reg.TKP_STATUS.OSC10M_OK 0).modPwr (fun p => { p with oscBad := true }) →
    (s.dev.on Reg.TKP_CTRL.CLKSRC = false ∨ s.dev.pwr.intOsc = true → exec .osc10mFail s = .next (s.after d)) ∧
    (s.dev.on Reg.TKP_CTRL.CLKSRC = true → s.dev.pwr.intOsc = false →
      exec .osc10mFail s = .next (s.after (sourceFail s.time (!s.dev.pwr.refBad) 0 d)))) ∧
  (∀ (t : Time) (d : Dev) (src : Nat), src < 2 →
    ((sourceFail t true src d).get Reg.TKP_CTRL.CLKSRC = src ∧ (sourceFail t true src d).pwr.intOsc = d.pwr.intOsc) ∧
    ((sourceFail t false src d).pwr.intOsc = true ∧ ∀ i ∈ islands, (tget (sourceFail t false src d).isl i).held = true) ∧
    ∀ ok, ∀ i ∈ islands, islMode (sourceFail t ok src d) i = if islMode d i = .run then .reset else islMode d i) ∧
  (∀ (s : State), s.dev.pwr.released = true → s.dev.pwr.refBad = true → s.dev.pwr.intOsc = false →
    exec (.refclkReturn false) s = .next (s.after (s.dev.modPwr fun p => { p with refBad := false }))) ∧
  (∀ (s : State), s.dev.pwr.released = true → s.dev.pwr.oscBad = true → s.dev.pwr.intOsc = false →
    exec (.refclkReturn true) s = .next (s.after ((s.dev.set Reg.TKP_STATUS.OSC10M_OK 1).modPwr
      fun p => { p with oscBad := false }))) ∧
  (∀ (s : State) (osc : Bool), s.dev.pwr.released = true → s.dev.pwr.intOsc = true →
    (if osc then s.dev.pwr.oscBad else s.dev.pwr.refBad) = true →
    ∃ t, exec (.refclkReturn osc) s = .next t ∧ t.dev.pwr.intOsc = false ∧ t.dev.on Reg.TKP_CTRL.CLKSRC = osc ∧
      (if osc then t.dev.pwr.oscBad else t.dev.pwr.refBad) = false ∧ (∀ i ∈ islands, (tget t.dev.isl i).held = false) ∧
      t.time = s.time))

/-- R611, R615 and R663: PERST_N low and a hot reset take the link down, and with a function-level reset they hold HST in reset;
after a hot reset or a function-level reset HST answers configuration requests with CRS until it is released. In Doze the
reset waits for the wake that it causes. PERST_N high ends its hold: HST leaves a reset that nothing else holds, and the
link trains. R609, R610, R612 and R615: a write of GLB_RST with the key 0x5352 starts a soft reset, any other value is
refused with GLB_INT.CFG_REJ; a write of GLB_ISLRST resets the running islands whose bits it sets. In Doze either waits for
the wake it causes, and a soft reset is not started again while one runs. Where it rests on the model's reading, log entries
30 and 31 say so. -/
def Obligations.Resets : Prop :=
  ((∀ (s : State), s.dev.pwr.released = true → s.dev.pwr.perstLow = false →
    ∃ t, exec .perstAssert s = .next t ∧ t.dev.pwr.perstLow = true ∧ t.dev.pwr.hstHold = false ∧
      t.dev.get Reg.HIF_STATUS.LINK = 0 ∧ t.dev.hif.crs = false ∧ t.dev.hif.training = none ∧ t.time = s.time ∧
      (s.dev.pwr.doze = .awake → islMode t.dev 0 ≠ .run) ∧
      (s.dev.pwr.doze ≠ .awake → t.dev.pwr.waiting = widerReset s.dev.pwr.waiting (hrstOf s.dev) ∧ t.dev.isl = s.dev.isl)) ∧
  (∀ (s : State), s.dev.pwr.released = false → s.dev.pwr.perstLow = false →
    exec .perstAssert s = .next (s.after (s.dev.modPwr fun p =>
      { p with perstLow := true, hstHold := false, hotReset := false }))) ∧
  (∀ (s : State), s.dev.pwr.perstLow = true → exec .perstAssert s = .next (s.after s.dev)) ∧
  (∀ (s : State), s.dev.pwr.perstLow = false → exec .perstRelease s = .next (s.after s.dev)) ∧
  (∀ (s : State), s.dev.pwr.perstLow = true → s.dev.pwr.released = false →
    exec .perstRelease s = .next (s.after (s.dev.modPwr fun p => { p with perstLow := false }))) ∧
  (∀ (s : State), s.dev.pwr.perstLow = true → s.dev.pwr.released = true →
    ∃ t, exec .perstRelease s = .next t ∧ t.dev.pwr.perstLow = false ∧ t.dev.hif.training = some s.time.loc ∧
      t.dev.hmp = s.dev.hmp ∧ t.dev.keys = s.dev.keys ∧
      (s.dev.pwr.wide ≠ .none ∨ islMode s.dev 0 ≠ .reset ∨ (tget s.dev.isl 0).clkBad = true ∨
          (tget s.dev.isl 0).held = true ∨ s.dev.pwr.hstHold = true → t.dev.isl = s.dev.isl) ∧
      (s.dev.pwr.wide = .none → islMode s.dev 0 = .reset → (tget s.dev.isl 0).clkBad = false →
        (tget s.dev.isl 0).held = false → s.dev.pwr.hstHold = false →
        islMode t.dev 0 = .run ∧ t.dev.hif.lastHb = s.time.loc)) ∧
  (∀ (s : State), s.dev.pwr.released = false ∨ s.dev.pwr.perstLow = true →
    exec .pcieHotReset s = .next (s.after s.dev) ∧ exec .functionLevelReset s = .next (s.after s.dev)) ∧
  (∀ (s : State), s.dev.pwr.released = true → s.dev.pwr.perstLow = false →
    (∃ t, exec .pcieHotReset s = .next t ∧ t.dev.pwr.hstHold = true ∧ t.dev.pwr.hotReset = true ∧
      t.dev.get Reg.HIF_STATUS.LINK = 0 ∧ t.dev.hif.crs = true ∧ t.time = s.time ∧
      (s.dev.pwr.doze = .awake → islMode t.dev 0 ≠ .run) ∧
      (s.dev.pwr.doze ≠ .awake → t.dev.pwr.waiting = widerReset s.dev.pwr.waiting (hrstOf s.dev) ∧ t.dev.isl = s.dev.isl)) ∧
    (∃ t, exec .functionLevelReset s = .next t ∧ t.dev.pwr.hstHold = true ∧ t.dev.pwr.hotReset = false ∧
      t.dev.hif.crs = true ∧ t.time = s.time ∧ (s.dev.pwr.doze = .awake → islMode t.dev 0 ≠ .run) ∧
      (s.dev.pwr.doze ≠ .awake → t.dev.pwr.waiting = widerReset s.dev.pwr.waiting (hrstOf s.dev) ∧ t.dev.isl = s.dev.isl))) ∧
  (∀ (s : State), s.dev.pwr.hstHold = false ∨ s.dev.pwr.doze ≠ .awake →
    exec .hstResetRelease s = .next (s.after s.dev)) ∧
  (∀ (s : State), s.dev.pwr.hstHold = true → s.dev.pwr.doze = .awake →
    ∃ t, exec .hstResetRelease s = .next t ∧ t.dev.pwr.hstHold = false ∧ t.dev.hif.crs = false ∧
      t.dev.hif.training = (if s.dev.pwr.hotReset then some s.time.loc else s.dev.hif.training) ∧
      (islMode s.dev 0 = .reset → (tget s.dev.isl 0).clkBad = false → (tget s.dev.isl 0).held = false →
        s.dev.pwr.perstLow = false → islMode t.dev 0 = .run) ∧
      (islMode s.dev 0 ≠ .reset ∨ (tget s.dev.isl 0).clkBad = true ∨ (tget s.dev.isl 0).held = true ∨
        s.dev.pwr.perstLow = true → t.dev.isl = s.dev.isl))) ∧
  ((∀ (s : State) (v : Word32), s.dev.pwr.released = false → exec (.softReset v) s = .next (s.after s.dev)) ∧
  (∀ (s : State) (v : Word32), s.dev.pwr.released = true → ¬ (bitOf v 0 = true ∧ v.toNat / 2 ^ 16 = 0x5352) →
    exec (.softReset v) s = .next (s.after (s.dev.cause intGlb 5 0 0))) ∧
  (∀ (s : State) (v : Word32), s.dev.pwr.released = true → bitOf v 0 = true → v.toNat / 2 ^ 16 = 0x5352 →
    (s.dev.pwr.doze ≠ .awake → exec (.softReset v) s = .next (s.after (wakeCause s.time (s.dev.modPwr fun p =>
      { p with waiting := widerReset p.waiting .srst })))) ∧
    (s.dev.pwr.doze = .awake → s.dev.pwr.wide = .srst ∨ s.dev.pwr.wide = .hrst1 →
      exec (.softReset v) s = .next (s.after s.dev)) ∧
    (s.dev.pwr.doze = .awake → s.dev.pwr.wide ≠ .srst → s.dev.pwr.wide ≠ .hrst1 →
      ∃ t, exec (.softReset v) s = .next t ∧ t.dev.pwr.wide = .srst ∧ (∀ i ∈ islands, islMode t.dev i = .reset) ∧
        t.dev.aln = default ∧ t.dev.ing = default ∧ t.dev.rul = default ∧ t.dev.mdl = default ∧ t.dev.cap = default ∧
        t.dev.cmp = [] ∧ t.dev.lko = [] ∧ t.dev.tkp = s.dev.tkp ∧ t.dev.keys.slots = s.dev.keys.slots ∧ t.time = s.time)) ∧
  (∀ (s : State) (hi : Bool) (v : Word32) (is : List Nat),
    is = (if hi then (List.range 4).filterMap fun k => if bitOf v k then some (32 + k) else none
      else (List.range 32).filterMap fun k => if bitOf v k then some k else none) →
    (s.dev.pwr.released = false ∨ is = [] → exec (.islandReset hi v) s = .next (s.after s.dev)) ∧
    (s.dev.pwr.released = true → is ≠ [] → s.dev.pwr.doze ≠ .awake →
      exec (.islandReset hi v) s = .next (s.after (wakeCause s.time (s.dev.modPwr fun p =>
        { p with waiting := widerReset p.waiting (.irst is) })))) ∧
    (s.dev.pwr.released = true → is ≠ [] → s.dev.pwr.doze = .awake →
      ∃ t, exec (.islandReset hi v) s = .next t ∧ t.time = s.time ∧ t.dev.pwr.wide = s.dev.pwr.wide ∧
        ∀ i, islMode t.dev i = if is.contains i = true ∧ islMode s.dev i = .run then .reset else islMode s.dev i)) ∧
  (∀ (s : State) (v : Word32), s.dev.pwr.released = true → s.dev.pwr.doze = .awake →
    (∀ k ∈ [1, 2, 3], bitOf v k = false) → bitOf v 0 = true → islMode s.dev 32 = .run →
    ∃ t, exec (.islandReset true v) s = .next t ∧ islMode t.dev 32 = .reset ∧ t.dev.ports = s.dev.ports ∧
      t.dev.tkp = s.dev.tkp ∧ t.time = s.time))

/-- R611 and Table MAP-3: the PCIe link and the SGMII link change. R619 to R623: Doze from its request to the wake. A request
while a reset runs, while firmware is updated or while the device wakes is refused; a key command is waited for. A wake
cause that comes during entry starts the wake as soon as entry is complete. The wake ends 1.2 ms after its cause: every
gated island whose clock runs accepts requests, and a reset that waited follows. Where it rests on the model's reading, log
entry 32 says so. -/
def Obligations.LinksAndDoze : Prop :=
  ((∀ (s : State) (w sp : Nat), s.dev.up islHst = true → s.dev.pwr.perstLow = false → s.dev.on Reg.HIF_STATUS.LINK = false →
    ∃ t, exec (.pcieLinkUp w sp) s = .next t ∧ t.dev.get Reg.HIF_STATUS.LINK = 1 ∧
      t.dev.get Reg.HIF_STATUS.WIDTH = w % 2 ^ Reg.HIF_STATUS.WIDTH.width ∧
      t.dev.get Reg.HIF_STATUS.SPEED = sp % 2 ^ Reg.HIF_STATUS.SPEED.width ∧ t.dev.hif.training = none ∧
      t.dev.hif.rings = s.dev.hif.rings ∧ ∀ a, a ≠ At.HIF_STATUS.base → ¬ intakeWord a → t.dev.word a = s.dev.word a) ∧
  (∀ (s : State) (w sp : Nat), s.dev.up islHst = false ∨ s.dev.pwr.perstLow = true ∨ s.dev.on Reg.HIF_STATUS.LINK = true →
    exec (.pcieLinkUp w sp) s = .next (s.after s.dev)) ∧
  (∀ (s : State) (up : Bool) (sp : Nat), s.dev.up islMgt = true →
    ∃ t, exec (.mgtLinkChange up sp) s = .next t ∧ t.dev.on Reg.MGT_STATUS.LINK = up ∧
      t.dev.get Reg.MGT_STATUS.SPEED = (if up then sp % 2 ^ Reg.MGT_STATUS.SPEED.width else 0) ∧
      (s.dev.on Reg.MGT_STATUS.LINK ≠ up → bitOf (t.dev.word intMgt.addr) 0 = true) ∧
      (s.dev.on Reg.MGT_STATUS.LINK = up → t.dev.word intMgt.addr = s.dev.word intMgt.addr) ∧ t.dev.ports = s.dev.ports) ∧
  (∀ (s : State) (up : Bool) (sp : Nat), s.dev.up islMgt = false → exec (.mgtLinkChange up sp) s = .next (s.after s.dev))) ∧
  ((∀ (s : State), s.dev.pwr.released = false ∨ s.dev.pwr.doze = .entering ∨ s.dev.pwr.doze = .waitKey ∨
      s.dev.pwr.doze = .asleep → exec .dozeEnter s = .next (s.after s.dev)) ∧
  (∀ (s : State), s.dev.pwr.released = true →
    (s.dev.pwr.doze = .awake ∧ (resetRuns s.dev = true ∨ s.dev.on Reg.GLB_STATUS.UPDATING = true ∨
        s.dev.on Reg.GLB_STATUS.PFW = true)) ∨ s.dev.pwr.doze = .waking →
    exec .dozeEnter s = .next (s.after ((s.dev.set Reg.GLB_DOZE.STATUS stRejected).cause intGlb 5 0 stRejected))) ∧
  (∀ (s : State), s.dev.pwr.released = true → s.dev.pwr.doze = .awake → resetRuns s.dev = false →
    s.dev.on Reg.GLB_STATUS.UPDATING = false → s.dev.on Reg.GLB_STATUS.PFW = false →
    (s.dev.keys.cmd ≠ none → exec .dozeEnter s = .next (s.after (s.dev.modPwr fun p => { p with doze := .waitKey }))) ∧
    (s.dev.keys.cmd = none → exec .dozeEnter s =
      .next (s.after ((dozeGate s.time s.dev).modPwr fun p => { p with doze := .entering })))) ∧
  (∀ (t : Time) (d : Dev), (∀ i ∈ islands, islMode (dozeGate t d) i = if islMode d i = .run then .gated else islMode d i) ∧
    (dozeGate t d).pairs = [] ∧ (dozeGate t d).lko = [] ∧ (dozeGate t d).mdl = default ∧
    ∀ l < cmpLanes, (tget (dozeGate t d).cmp l).busy = false) ∧
  (∀ (s : State), s.dev.pwr.doze = .entering ∨ (s.dev.pwr.doze = .waitKey ∧ s.dev.keys.cmd = none) →
    ∃ t, exec .dozeEntryDone s = .next t ∧ t.dev.get Reg.GLB_STATUS.DOZE = 1 ∧ t.dev.get Reg.GLB_DOZE.STATUS = stOk ∧
      t.dev.pwr.doze = (if s.dev.pwr.wakeDue then .waking else .asleep) ∧ t.dev.pwr.wakeDue = false ∧
      t.dev.isl = (if s.dev.pwr.doze = .entering then s.dev else dozeGate s.time s.dev).isl ∧
      (s.dev.pwr.doze = .entering → s.dev.pwr.wakeDue = false → t.dev.pwr.timed = (if s.dev.on Reg.GLB_WAKE.TIMED
        then some (s.dev.get Reg.GLB_WAKE_ST.ST, s.dev.get Reg.GLB_WAKE_TE.EPOCH, s.dev.get Reg.GLB_WAKE_TE.LATE_TOL)
        else none))) ∧
  (∀ (s : State), s.dev.pwr.doze = .awake ∨ s.dev.pwr.doze = .asleep ∨ s.dev.pwr.doze = .waking ∨
      (s.dev.pwr.doze = .waitKey ∧ s.dev.keys.cmd ≠ none) → exec .dozeEntryDone s = .next (s.after s.dev)) ∧
  (∀ (s : State), exec .dozeWake s = .next (s.after (wakeCause s.time s.dev))) ∧
  (∀ (t : Time) (d : Dev),
    (d.pwr.doze = .asleep →
      wakeCause t d = d.modPwr fun p => { p with doze := .waking, wakeFrom := t.loc, timed := none }) ∧
    (d.pwr.doze = .entering ∨ d.pwr.doze = .waitKey → wakeCause t d = d.modPwr fun p => { p with wakeDue := true }) ∧
    (d.pwr.doze = .awake ∨ d.pwr.doze = .waking → wakeCause t d = d)) ∧
  (∀ (s : State) (pin : Nat) (falling : Bool), exec (.gpioWake pin falling) s = .next (s.after
      (if pin < 16 ∧ (s.dev.get Reg.GLB_WAKE.GPIO).testBit pin = true ∧ s.dev.on Reg.GLB_WAKE.FALL = falling then
        wakeCause s.time s.dev else s.dev))) ∧
  (∀ (s : State) (v : Word32), s.dev.pwr.released = false → exec (.writeGlbWake v) s = .next (s.after s.dev)) ∧
  (∀ (s : State) (v : Word32) (d : Dev), s.dev.pwr.released = true → d = s.dev.putWord 0x2C v →
    (s.dev.pwr.doze ≠ .asleep ∨ (d.on Reg.GLB_WAKE.TIMED = true ∧ s.dev.on Reg.GLB_WAKE.TIMED = true) →
      exec (.writeGlbWake v) s = .next (s.after d)) ∧
    (s.dev.pwr.doze = .asleep → d.on Reg.GLB_WAKE.TIMED = false →
      exec (.writeGlbWake v) s = .next (s.after (d.modPwr fun p => { p with timed := none }))) ∧
    (s.dev.pwr.doze = .asleep → d.on Reg.GLB_WAKE.TIMED = true → s.dev.on Reg.GLB_WAKE.TIMED = false →
      exec (.writeGlbWake v) s = .next (s.after (d.modPwr fun p => { p with timed := some (s.dev.get Reg.GLB_WAKE_ST.ST,
        s.dev.get Reg.GLB_WAKE_TE.EPOCH, s.dev.get Reg.GLB_WAKE_TE.LATE_TOL) })))) ∧
  (∀ (s : State), s.dev.pwr.timed = none ∨ s.dev.pwr.doze ≠ .asleep → exec .timedWake s = .next (s.after s.dev)) ∧
  (∀ (s : State) (ns ep tol : Nat), s.dev.pwr.doze = .asleep → s.dev.pwr.timed = some (ns, ep, tol) →
    exec .timedWake s = .next (s.after (match verdictNow s.time s.dev ns ep tol with
      | .wait => s.dev
      | .expired => (s.dev.set Reg.GLB_DOZE.STATUS stExpired).modPwr fun p => { p with timed := none }
      | v => (s.dev.set Reg.GLB_DOZE.STATUS v.status).modPwr fun p =>
          { p with doze := .waking, wakeFrom := s.time.loc, timed := none }))) ∧
  (∀ (s : State), s.dev.pwr.doze ≠ .waking ∨ s.time.loc < s.dev.pwr.wakeFrom + 1200000 →
    exec .wakeDone s = .next (s.after s.dev)) ∧
  (∀ (s : State), s.dev.pwr.doze = .waking → s.dev.pwr.wakeFrom + 1200000 ≤ s.time.loc →
    ∃ d, exec .wakeDone s = .next (s.after (doReset s.time s.dev.pwr.waiting d)) ∧ d.pwr.doze = .awake ∧
      d.pwr.waiting = .none ∧ d.pwr.timed = none ∧ d.get Reg.GLB_STATUS.DOZE = 0 ∧
      ∀ i ∈ islands, islMode d i = if islMode s.dev i ≠ .gated then islMode s.dev i
        else if (tget s.dev.isl i).clkBad || (tget s.dev.isl i).held then .reset else .run))

/-- R34, R45, R66 and R67: every 4 ns tick of a released device adds 4 ns, the frequency word (a newly written one first), the
slew of one tick and the phase step in hand, whatever is in hand; a step sets TKP_INT.STEP. The slew of a tick is what is
left of it, at most SLEW_MAX ppm of 4 ns. A timed adjustment that waits is judged in the new tick (R45); before release time
stands. R66 to R69: the host's words and adjustments. With SERVO 0 or 2 the low word is held and the high word applies the
40-bit word at the next tick; in host mode the write makes or keeps the state HOST and is the host's last write. With the
hardware servo the words change nothing. An adjustment is applied at once when it is not timed, as a slew or a step, waits
when it is, and is refused with TKP_INT.CFG_REJ while one waits; one of 0 does nothing. Where it rests on the model's
reading, log entries 13 and 15 say so. -/
def Obligations.GridTime : Prop :=
  ((∀ (s : State), s.dev.pwr.released = true → s.dev.on Reg.TKP_ADJ_STAT.PEND = false →
    ∃ t, exec .timekeeperTick s = .next t ∧
      t.time = ⟨((s.time.cnt : Int) + 4 * 2 ^ 46 + s.dev.tkp.freqNext.getD s.dev.tkp.freq +
        (slewTick (s.dev.get Reg.TKP_SERVO.SLEW_MAX) s.dev.tkp.slew s.dev.tkp.slewRem).1 + s.dev.tkp.stepNext).toNat,
        s.time.ticks + 1⟩ ∧
      t.dev.tkp.freq = s.dev.tkp.freqNext.getD s.dev.tkp.freq ∧ t.dev.tkp.freqNext = none ∧ t.dev.tkp.stepNext = 0 ∧
      t.dev.tkp.slew = (slewTick (s.dev.get Reg.TKP_SERVO.SLEW_MAX) s.dev.tkp.slew s.dev.tkp.slewRem).2.1 ∧
      t.dev.get Reg.TKP_STATUS.SLEWING = b2n (t.dev.tkp.slew != 0) ∧
      t.dev.tkp.extend = s.dev.on Reg.TKP_CTRL.STMODE ∧
      (s.dev.tkp.stepNext ≠ 0 → bitOf (t.dev.word intTkp.addr) 5 = true) ∧ t.dev.tkp.refs = s.dev.tkp.refs ∧
      t.dev.hmp = s.dev.hmp ∧ t.dev.ports = s.dev.ports ∧ t.pending = s.pending) ∧
  (∀ (s : State), s.dev.pwr.released = true → s.dev.on Reg.TKP_ADJ_STAT.PEND = true →
    exec .timekeeperTick s = exec .timedAdjust { s with time := (tick s.time s.dev).1, dev := (tick s.time s.dev).2 }) ∧
  (∀ (ppm rem : Nat) (slew : Int), (slewTick ppm slew rem).1 + (slewTick ppm slew rem).2.1 = slew ∧
    (rem < 1000000 → (slewTick ppm slew rem).1.natAbs ≤ 4 * 2 ^ 46 * (if ppm = 0 then 500 else ppm) / 1000000 + 1)) ∧
  (∀ (s : State), s.dev.pwr.released = false → exec .timekeeperTick s = .next s)) ∧
  ((∀ (s : State) (v : Word32), s.dev.pwr.released = true → s.dev.tkp.mode ≠ 1 →
    exec (.writeTkpFreqLo v) s = .next (s.after (s.dev.modTkp fun k => { k with freqHeld := v.toNat }))) ∧
  (∀ (s : State) (v : Word32), s.dev.pwr.released = true → s.dev.tkp.mode = 1 → exec (.writeTkpFreqLo v) s = .next (s.after s.dev) ∧
    exec (.writeTkpFreqHi v) s = .next (s.after s.dev)) ∧
  (∀ (s : State) (v : Word32), s.dev.pwr.released = true → s.dev.tkp.mode ≠ 1 →
    ∃ t, exec (.writeTkpFreqHi v) s = .next t ∧
      t.dev.tkp.freqNext = some (sint 40 (v.toNat % 256 * 2 ^ 32 + s.dev.tkp.freqHeld)) ∧
      t.dev.tkp.freqHeld = s.dev.tkp.freqHeld ∧
      (s.dev.tkp.mode = 2 → t.dev.get Reg.TKP_STATUS.STATE = svHost ∧ t.dev.tkp.hostLast = s.time.ns ∧
        (s.dev.get Reg.TKP_STATUS.STATE ≠ svHost → bitOf (t.dev.word intTkp.addr) 0 = true)) ∧
      (s.dev.tkp.mode ≠ 2 → t.dev.get Reg.TKP_STATUS.STATE = s.dev.get Reg.TKP_STATUS.STATE ∧
        t.dev.tkp.hostLast = s.dev.tkp.hostLast)) ∧
  (∀ (s : State) (v : Word32), s.dev.pwr.released = true → s.dev.on Reg.TKP_ADJ_STAT.PEND = true →
    exec (.writeTkpAdj v) s = .next (s.after (s.dev.cause intTkp 10 0 0))) ∧
  (∀ (s : State) (v : Word32), s.dev.pwr.released = true → s.dev.on Reg.TKP_ADJ_STAT.PEND = false →
    exec (.writeTkpAdj v) s = .next (s.after (
      if v = 0 then s.dev
      else if s.dev.on Reg.TKP_CTRL.ADJ_TIMED then
        (s.dev.modTkp fun k => { k with adjVal := v.toInt }).set Reg.TKP_ADJ_STAT.PEND 1
      else if s.dev.on Reg.TKP_CTRL.ADJ_MODE then
        (s.dev.modTkp fun k => { k with slew := k.slew + v.toInt * 2 ^ 46 }).set Reg.TKP_STATUS.SLEWING 1
      else s.dev.modTkp fun k => { k with stepNext := k.stepNext + v.toInt * 2 ^ 46 }))) ∧
  (∀ (s : State) (v : Word32), s.dev.pwr.released = false → exec (.writeTkpFreqLo v) s = .next (s.after s.dev) ∧
    exec (.writeTkpFreqHi v) s = .next (s.after s.dev) ∧ exec (.writeTkpAdj v) s = .next (s.after s.dev)))

/-- R36 to R42: the verdict on a timed action, whose tick makes `span` nanoseconds. With STMODE signed the 32-bit short times
are compared as a signed difference; a target in the future by a tick or more waits, one within the tick is on time, and a
past one is late within LATE_TOL µs and expired beyond; with STMODE extended the epoch takes part. R40 to R42 and R68: a
timed adjustment waits for its target; then it is over: STATUS shows how, PEND is 0 and TKP_INT.ADJ_DONE is set. On time or
late it is applied, as a step of grid time now or as a slew; expired it is discarded. With none waiting nothing changes.
Where it rests on the model's reading, log entries 14 and 15 say so. -/
def Obligations.TimedActions : Prop :=
  ((∀ (now d ep tol span : Nat), d < 2 ^ 31 →
    timedVerdict false span now (now + d) ep tol = if span ≤ d then .wait else .ok) ∧
  (∀ (now d ep tol span : Nat), 0 < d → d ≤ 2 ^ 31 → d ≤ now → 0 < span →
    timedVerdict false span now (now - d) ep tol = if d ≤ tol * 1000 then .late else .expired) ∧
  (∀ (now d tol span : Nat), d < 2 ^ 47 → now + d < 2 ^ 48 →
    timedVerdict true span now ((now + d) % 2 ^ 32) ((now + d) / 2 ^ 32) tol = if span ≤ d then .wait else .ok) ∧
  (∀ (now d tol span : Nat), 0 < d → d ≤ 2 ^ 47 → d ≤ now → now < 2 ^ 48 → 0 < span →
    timedVerdict true span now ((now - d) % 2 ^ 32) ((now - d) / 2 ^ 32) tol = if d ≤ tol * 1000 then .late else .expired)) ∧
  ((∀ (s : State), s.dev.on Reg.TKP_ADJ_STAT.PEND = false → exec .timedAdjust s = .next (s.after s.dev)) ∧
  (∀ (s : State), s.dev.on Reg.TKP_ADJ_STAT.PEND = true →
    verdictNow s.time s.dev (s.dev.get Reg.TKP_ADJ_T.ST) (s.dev.get Reg.TKP_ADJ_TE.EPOCH)
      (s.dev.get Reg.TKP_ADJ_TE.LATE_TOL) = .wait →
    exec .timedAdjust s = .next (s.after s.dev)) ∧
  (∀ (s : State) (v : Verdict), s.dev.on Reg.TKP_ADJ_STAT.PEND = true →
    verdictNow s.time s.dev (s.dev.get Reg.TKP_ADJ_T.ST) (s.dev.get Reg.TKP_ADJ_TE.EPOCH)
      (s.dev.get Reg.TKP_ADJ_TE.LATE_TOL) = v → v ≠ .wait →
    ∃ t, exec .timedAdjust s = .next t ∧ t.dev.get Reg.TKP_ADJ_STAT.STATUS = v.status ∧
      t.dev.get Reg.TKP_ADJ_STAT.PEND = 0 ∧ bitOf (t.dev.word intTkp.addr) 11 = true ∧ t.time.ticks = s.time.ticks ∧
      (v = .expired → t.time = s.time ∧ t.dev.tkp = s.dev.tkp) ∧
      (v ≠ .expired → s.dev.on Reg.TKP_CTRL.ADJ_MODE = true → t.time = s.time ∧
        t.dev.tkp.slew = s.dev.tkp.slew + s.dev.tkp.adjVal * 2 ^ 46 ∧ t.dev.get Reg.TKP_STATUS.SLEWING = 1) ∧
      (v ≠ .expired → s.dev.on Reg.TKP_CTRL.ADJ_MODE = false →
        t.time.cnt = ((s.time.cnt : Int) + s.dev.tkp.adjVal * 2 ^ 46).toNat ∧ t.dev.tkp.slew = s.dev.tkp.slew ∧
        bitOf (t.dev.word intTkp.addr) 5 = true)))

/-- R46, R50 and R73: samples of references. One that is no outlier counts for its reference: it is heard, joins the interval's
sum less CORR, and ACCEPT counts it. While LOCKED one beyond OUTLIER of the filtered offset, with no path step in it, is
heard, discarded and counted in DISCARD. A slot without a source takes none. No other reference changes. R47, R70 and R664:
at a servo interval boundary TKP_INT.UPDATE is set, the interval is counted once, SERVO takes effect and every slot with a
source begins a new interval; grid time stands and the frequency in use stays until the next tick. Before the boundary
nothing changes. Where it rests on the model's reading, log entries 16, 17 and 95 say so. -/
def Obligations.References : Prop :=
  ((∀ (s : State) (n : Nat) (x : TimeSample), s.dev.pwr.released = true → n < 4 → s.dev.getN Reg.TKP_REFn_CFG.SRC n ≠ 0 →
    (s.dev.get Reg.TKP_STATUS.STATE ≠ svLocked ∨ s.dev.get Reg.TKP_GATE.OUTLIER = 0 ∨
      (s.dev.on Reg.TKP_CTRL.ASYM_EN = true ∧ s.dev.get Reg.TKP_ASYM.THR ≠ 0 ∧ ∃ a b, x.rtd = some a ∧
        (s.dev.ref n).filtRtd = some b ∧ s.dev.get Reg.TKP_ASYM.THR * 100 ≤ ((a : Int) - (b : Int)).natAbs) ∨
      ∀ f, ((s.dev.ref n).jump.orElse fun _ => (s.dev.ref n).filt) = some f →
        (x.offset - sint 32 (s.dev.getN Reg.TKP_REFn_ASYM.CORR n) - f).natAbs ≤ s.dev.get Reg.TKP_GATE.OUTLIER * 4) →
    ∃ t, exec (.referenceSample n x) s = .next t ∧ (t.dev.ref n).heard = true ∧
      (t.dev.ref n).cnt = (s.dev.ref n).cnt + 1 ∧
      (t.dev.ref n).sumQ = (s.dev.ref n).sumQ + (x.offset - sint 32 (s.dev.getN Reg.TKP_REFn_ASYM.CORR n)) ∧
      (t.dev.ref n).err = x.err ∧ (t.dev.ref n).traceable = x.traceable ∧
      t.dev.getN Reg.TKP_REFn_STAT.ACCEPT n = (s.dev.getN Reg.TKP_REFn_STAT.ACCEPT n + 1) % 2 ^ 16 ∧
      (∀ k, k ≠ n → t.dev.ref k = s.dev.ref k) ∧ t.time = s.time) ∧
  (∀ (s : State) (n : Nat) (x : TimeSample) (f : Int), s.dev.pwr.released = true → n < 4 →
    s.dev.getN Reg.TKP_REFn_CFG.SRC n ≠ 0 → s.dev.get Reg.TKP_STATUS.STATE = svLocked → s.dev.get Reg.TKP_GATE.OUTLIER ≠ 0 →
    ((s.dev.ref n).jump.orElse fun _ => (s.dev.ref n).filt) = some f →
    s.dev.get Reg.TKP_GATE.OUTLIER * 4 < (x.offset - sint 32 (s.dev.getN Reg.TKP_REFn_ASYM.CORR n) - f).natAbs →
    (s.dev.on Reg.TKP_CTRL.ASYM_EN = false ∨ s.dev.get Reg.TKP_ASYM.THR = 0 ∨ x.rtd = none ∨ (s.dev.ref n).filtRtd = none ∨
      ∃ a b, x.rtd = some a ∧ (s.dev.ref n).filtRtd = some b ∧
        ((a : Int) - (b : Int)).natAbs < s.dev.get Reg.TKP_ASYM.THR * 100) →
    ∃ t, exec (.referenceSample n x) s = .next t ∧ (t.dev.ref n).heard = true ∧
      (t.dev.ref n).cnt = (s.dev.ref n).cnt ∧ (t.dev.ref n).sumQ = (s.dev.ref n).sumQ ∧
      (t.dev.ref n).discarded = (s.dev.ref n).discarded + 1 ∧
      t.dev.getN Reg.TKP_REFn_STAT.DISCARD n = min (s.dev.getN Reg.TKP_REFn_STAT.DISCARD n + 1) (2 ^ Reg.TKP_REFn_STAT.DISCARD.width - 1) ∧
      (∀ k, k ≠ n → t.dev.ref k = s.dev.ref k) ∧ t.time = s.time) ∧
  (∀ (s : State) (n : Nat) (x : TimeSample), s.dev.getN Reg.TKP_REFn_CFG.SRC n = 0 ∨ 4 ≤ n ∨ s.dev.pwr.released = false →
    exec (.referenceSample n x) s = .next (s.after s.dev))) ∧
  ((∀ (s : State), servoIndex s.dev s.time.ns ≤ s.dev.tkp.lastUpd ∨ s.dev.pwr.released = false →
    exec .servoUpdate s = .next (s.after s.dev)) ∧
  (∀ (s : State), s.dev.pwr.released = true → s.dev.tkp.lastUpd < servoIndex s.dev s.time.ns →
    ∃ t, exec .servoUpdate s = .next t ∧ t.dev.tkp.lastUpd = servoIndex s.dev s.time.ns ∧
      bitOf (t.dev.word intTkp.addr) 1 = true ∧ t.dev.tkp.mode = s.dev.get Reg.GLB_SPLIT.SERVO ∧ t.time = s.time ∧
      (∀ n, n < 4 → s.dev.getN Reg.TKP_REFn_CFG.SRC n ≠ 0 → (t.dev.ref n).cnt = 0 ∧ (t.dev.ref n).sumQ = 0 ∧
        (t.dev.ref n).heard = false ∧ (t.dev.ref n).discarded = 0) ∧
      t.dev.tkp.freq = s.dev.tkp.freq ∧ t.dev.hif.rings = s.dev.hif.rings ∧ t.dev.ports = s.dev.ports))

/-- R69: with SERVO = 2, HOST_TMO without a write to TKP_FREQ_HI puts the timekeeper into HOLDOVER, sets TKP_INT.HOST_TMO and
keeps the frequency word; before that nothing changes, and the next host write leaves HOLDOVER. After a change of SERVO from
0 to 2 the state itself waits for the first host write. -/
def Obligations.HostTimeout : Prop :=
  (∀ (s : State), s.dev.tkp.mode = 2 → s.dev.get Reg.TKP_HO.HOST_TMO ≠ 0 → s.dev.tkp.tmoSeen = false →
    s.dev.tkp.hostLast + s.dev.get Reg.TKP_HO.HOST_TMO * 125000000 ≤ s.time.ns →
    ∃ t, exec .hostTmo s = .next t ∧ bitOf (t.dev.word intTkp.addr) 7 = true ∧ t.dev.tkp.freq = s.dev.tkp.freq ∧
      t.dev.tkp.freqNext = s.dev.tkp.freqNext ∧ t.dev.tkp.tmoSeen = true ∧
      t.dev.get Reg.TKP_STATUS.STATE =
        (if s.dev.tkp.hostWait then s.dev.get Reg.TKP_STATUS.STATE else svHoldover) ∧
      (s.dev.tkp.hostWait = false → s.dev.get Reg.TKP_STATUS.STATE ≠ svHoldover → t.dev.tkp.hoFrom = s.time.loc)) ∧
  (∀ (s : State), s.dev.tkp.mode ≠ 2 ∨ s.dev.get Reg.TKP_HO.HOST_TMO = 0 ∨ s.dev.tkp.tmoSeen = true ∨
      s.time.ns < s.dev.tkp.hostLast + s.dev.get Reg.TKP_HO.HOST_TMO * 125000000 →
    exec .hostTmo s = .next (s.after s.dev)) ∧
  (∀ (s : State) (v : Word32), s.dev.pwr.released = true → s.dev.tkp.mode = 2 →
    ∃ t, exec (.writeTkpFreqHi v) s = .next t ∧ t.dev.get Reg.TKP_STATUS.STATE = svHost ∧ t.dev.tkp.hostLast = s.time.ns ∧
      t.dev.tkp.tmoSeen = false)

/-- R58 to R62: an edge of 1PPS that is the first one or follows the last one by a second within 10 µs becomes the last edge,
and one that does not is counted with TKP_INT.TIN_BAD; without IRIG-B it is labelled with the nearest second where
LABEL_NEAREST is set. An IRIG-B frame of bad parity, or one that does not follow the frame before it, is counted; a good one
labels the edge within 5 µs of its mark, one still to come, or without 1PPS its own mark. With the input off nothing
changes. R88 to R91: at the end of its UTC day a pending leap second, inserted or deleted, changes the UTC offset and is
over; LEAP_OCC clears a day later; the whole seconds of the 1PPS output pass one by one, and each starts a pulse of its
width where PPS_EN is set; the pulse ends. Before their instants these change nothing. Where it rests on the model's
reading, log entries 18 and 19 say so. -/
def Obligations.TimingSignals : Prop :=
  ((∀ (s : State) (fall : Bool) (q : Nat), s.dev.on Reg.TKP_TIN.PPS_EN = false ∨ s.dev.on Reg.TKP_TIN.PPS_FALL = !fall →
    exec (.tinPpsEdge fall q) s = .next (s.after s.dev)) ∧
  (∀ (s : State) (fall : Bool) (q e stamp : Nat), s.dev.on Reg.TKP_TIN.PPS_EN = true → s.dev.on Reg.TKP_TIN.PPS_FALL = fall →
    stamp = ((s.time.qns + q % 16 : Nat) - sint 16 (s.dev.get Reg.TKP_TIN.PPS_DLY) * 4).toNat →
    s.dev.tkp.tin.lastEdge = some e → 40000 < distQ stamp (e + 4000000000) →
    exec (.tinPpsEdge fall q) s = .next (s.after ((s.dev.sat Reg.TKP_TIN_CNT.BAD_PPS).cause intTkp 8 0 0))) ∧
  (∀ (s : State) (fall : Bool) (q stamp : Nat), s.dev.on Reg.TKP_TIN.PPS_EN = true → s.dev.on Reg.TKP_TIN.PPS_FALL = fall →
    stamp = ((s.time.qns + q % 16 : Nat) - sint 16 (s.dev.get Reg.TKP_TIN.PPS_DLY) * 4).toNat →
    (∀ e, s.dev.tkp.tin.lastEdge = some e → distQ stamp (e + 4000000000) ≤ 40000) →
    ∃ t, exec (.tinPpsEdge fall q) s = .next t ∧ t.dev.tkp.tin.lastEdge = some stamp ∧
      t.dev.get Reg.TKP_TIN_CNT.BAD_PPS = s.dev.get Reg.TKP_TIN_CNT.BAD_PPS ∧ t.time = s.time ∧
      (s.dev.on Reg.TKP_TIN.IRIG_EN = false → s.dev.on Reg.TKP_TIN.LABEL_NEAREST = false → t.dev.tkp.refs = s.dev.tkp.refs) ∧
      (s.dev.on Reg.TKP_TIN.IRIG_EN = false → s.dev.on Reg.TKP_TIN.LABEL_NEAREST = true →
        t = s.after (tinSample s.time stamp ((stamp + 2000000000) / 4000000000 : Nat) 0
          (s.dev.modTkp fun k => { k with tin := { k.tin with lastEdge := some stamp } }))) ∧
      (∀ sec mark, s.dev.on Reg.TKP_TIN.IRIG_EN = true → s.dev.tkp.tin.label = some (sec, mark) → distQ stamp mark ≤ 20000 →
        t.dev.tkp.tin.label = none)) ∧
  (∀ (s : State) (f : IrigFrame), s.dev.on Reg.TKP_TIN.IRIG_EN = false → exec (.irigFrame f) s = .next (s.after s.dev)) ∧
  (∀ (s : State) (f : IrigFrame), s.dev.on Reg.TKP_TIN.IRIG_EN = true → f.parityOk = false →
    exec (.irigFrame f) s = .next (s.after ((s.dev.sat Reg.TKP_TIN_CNT.BAD_IRIG).cause intTkp 8 0 0))) ∧
  (∀ (s : State) (f : IrigFrame), s.dev.on Reg.TKP_TIN.IRIG_EN = true → f.parityOk = true →
    ∃ t, exec (.irigFrame f) s = .next t ∧ t.dev.tkp.tin.lastLabel = some (irigLabel s.time s.dev f) ∧ t.time = s.time ∧
      (∀ l, s.dev.tkp.tin.lastLabel = some l → irigLabel s.time s.dev f ≠ l + 1 →
        t.dev.get Reg.TKP_TIN_CNT.BAD_IRIG =
          min (s.dev.get Reg.TKP_TIN_CNT.BAD_IRIG + 1) (2 ^ Reg.TKP_TIN_CNT.BAD_IRIG.width - 1) ∧
        bitOf (t.dev.word intTkp.addr) 8 = true ∧ t.dev.tkp.tin.extQ = s.dev.tkp.tin.extQ ∧
        t.dev.tkp.refs = s.dev.tkp.refs) ∧
      ((∀ l, s.dev.tkp.tin.lastLabel = some l → irigLabel s.time s.dev f = l + 1) →
        s.dev.on Reg.TKP_TIN.PPS_EN = true →
        (∀ e, s.dev.tkp.tin.lastEdge = some e → 20000 < distQ e (s.time.qns - f.agoQ)) →
        t.dev.tkp.tin.label = some ((irigLabel s.time s.dev f).toNat, s.time.qns - f.agoQ) ∧
        t.dev.tkp.refs = s.dev.tkp.refs ∧
        t.dev.get Reg.TKP_TIN_CNT.BAD_IRIG = s.dev.get Reg.TKP_TIN_CNT.BAD_IRIG))) ∧
  ((∀ (s : State), s.dev.on Reg.TKP_UTC.LEAP_PEND = true → leapDue s.dev ≤ s.time.sec →
    ∃ t, exec .leapSecond s = .next t ∧ t.dev.get Reg.TKP_UTC.UTC_OFS =
        (if s.dev.on Reg.TKP_UTC.LEAP_DIR then s.dev.get Reg.TKP_UTC.UTC_OFS + 2 ^ 16 - 1
         else s.dev.get Reg.TKP_UTC.UTC_OFS + 1) % 2 ^ 16 ∧
      t.dev.get Reg.TKP_UTC.LEAP_PEND = 0 ∧ t.dev.get Reg.TKP_UTC.LEAP_OCC = 1 ∧
      bitOf (t.dev.word intTkp.addr) 9 = true ∧ t.dev.tkp.leapAt = some s.time.ns ∧ t.time = s.time ∧
      ∀ a, a ∉ [Reg.TKP_UTC.UTC_OFS.reg.base, intTkp.addr] → ¬ intakeWord a → t.dev.word a = s.dev.word a) ∧
  (∀ (s : State), s.dev.on Reg.TKP_UTC.LEAP_PEND = false ∨ (s.time.sec : Int) < leapDue s.dev →
    exec .leapSecond s = .next (s.after s.dev)) ∧
  (∀ (s : State) (a : Nat), s.dev.tkp.leapAt = some a →
    exec .leapOccExpire s = .next (s.after (if a + 86400 * 1000000000 ≤ s.time.ns then
      (s.dev.set Reg.TKP_UTC.LEAP_OCC 0).modTkp fun k => { k with leapAt := none } else s.dev))) ∧
  (∀ (s : State), s.dev.tkp.leapAt = none → exec .leapOccExpire s = .next (s.after s.dev)) ∧
  (∀ (s : State), s.dev.tkp.ppsLast < (ppsTime s.time s.dev / 1000000000).toNat →
    exec .ppsOutput s = .next (s.after (s.dev.modTkp fun k =>
      { k with
        ppsLast := (ppsTime s.time s.dev / 1000000000).toNat
        ppsEnd := if s.dev.on Reg.TKP_TOUT.PPS_EN = true ∧ s.dev.get Reg.TKP_TOUT.PPS_WIDTH ≠ 0 then
          some (s.time.loc + min 50000 (s.dev.get Reg.TKP_TOUT.PPS_WIDTH) * 10000) else k.ppsEnd }))) ∧
  (∀ (s : State), (ppsTime s.time s.dev / 1000000000).toNat ≤ s.dev.tkp.ppsLast →
    exec .ppsOutput s = .next (s.after s.dev)) ∧
  (∀ (s : State) (e : Nat), s.dev.tkp.ppsEnd = some e →
    exec .ppsPulseEnd s = .next (s.after (if e ≤ s.time.loc then s.dev.modTkp fun k => { k with ppsEnd := none }
      else s.dev))) ∧
  (∀ (s : State), s.dev.tkp.ppsEnd = none → exec .ppsPulseEnd s = .next (s.after s.dev)))

/-- R52 to R57 and R666: PTP. At a PTP port that runs with its link up a message received within the flood limit counts in its
second and, authenticated where AUTH_EN asks, is used where it is of the clock's domain; elsewhere, and beyond the limit, it
is discarded. A message that the state of its port admits is queued in class PTP_TC from Xaorn's template; a follow-up with
its stamp, without one none. The transparent clock queues a message on the other port of its pair, its correction filled as
it leaves. Where it rests on the model's reading, log entries 19 and 20 say so. -/
def Obligations.PtpPorts : Prop :=
  (∀ (s : State) (n : Nat) (m : PtpMsg), ptpOn s.dev n = false ∨ portRuns s.dev n = false ∨ linkUp s.dev n = false →
    exec (.ptpMessageReceive n m) s = .next (s.after s.dev)) ∧
  (∀ (s : State) (n : Nat) (m : PtpMsg) (d : Dev), ptpOn s.dev n = true → portRuns s.dev n = true → linkUp s.dev n = true →
    ptpLooped n m true s.dev = (true, d) →
    exec (.ptpMessageReceive n m) s = .next (s.after (
      if (ptpJudge s.time n m d).1 = true ∧ m.domain = s.dev.get Reg.TKP_PTP.DOMAIN then
        ptpUse s.time n m (ptpJudge s.time n m d).2 else (ptpJudge s.time n m d).2))) ∧
  (∀ (s : State) (n : Nat) (m : PtpMsg), ptpOn s.dev n = true → portRuns s.dev n = true → linkUp s.dev n = true →
    s.dev.onN Reg.FP_CTRL.LOOP n = false → s.dev.on Reg.TKP_PTP.AUTH_EN = false →
    (s.dev.ptp n).second ≠ s.time.sec ∨ (s.dev.ptp n).count < 512 →
    m.domain ≠ s.dev.get Reg.TKP_PTP.DOMAIN ∨ m.sample = none →
    ∃ t, exec (.ptpMessageReceive n m) s = .next t ∧ (t.dev.ptp n).second = s.time.sec ∧
      (t.dev.ptp n).count = (if (s.dev.ptp n).second = s.time.sec then (s.dev.ptp n).count + 1 else 1) ∧
      (t.dev.ptp n).flooded = (s.dev.ptp n).flooded ∧ t.dev.tkp.refs = s.dev.tkp.refs ∧
      (m.mtype = .announce → m.domain = s.dev.get Reg.TKP_PTP.DOMAIN → ∀ g, m.gm = some g → (t.dev.ptp n).gm = some g)) ∧
  (∀ (s : State) (n : Nat) (m : PtpMsg), ptpOn s.dev n = true → portRuns s.dev n = true → linkUp s.dev n = true →
    s.dev.onN Reg.FP_CTRL.LOOP n = false → (s.dev.ptp n).second = s.time.sec → 512 ≤ (s.dev.ptp n).count →
    ∃ t, exec (.ptpMessageReceive n m) s = .next t ∧ (t.dev.ptp n).count = (s.dev.ptp n).count + 1 ∧
      (t.dev.ptp n).flooded = (s.dev.ptp n).flooded + 1 ∧ t.dev.tkp.refs = s.dev.tkp.refs ∧
      (t.dev.ptp n).gm = (s.dev.ptp n).gm) ∧
  (∀ (s : State) (n : Nat) (m : PtpType), ptpOn s.dev n = false →
    exec (.ptpMessageTransmit n m) s = .next (s.after s.dev) ∧
    exec (.ptpAnnounceTransmit n) s = .next (s.after s.dev)) ∧
  (∀ (s : State) (n : Nat) (m : PtpType), ptpOn s.dev n = true → portSends (xaornPtp n s.dev) n m = false →
    exec (.ptpMessageTransmit n m) s = .next (s.after (xaornPtp n s.dev)) ∧
    (m = .announce → exec (.ptpAnnounceTransmit n) s = .next (s.after (xaornPtp n s.dev)))) ∧
  (∀ (s : State) (n : Nat) (m : PtpType), ptpOn s.dev n = true → portSends (xaornPtp n s.dev) n m = true →
    m ∈ [PtpType.sync, .delayReq, .pdelayReq, .pdelayResp, .delayResp] → s.dev.on Reg.TKP_PTP.AUTH_EN = false →
    portRuns s.dev n = true →
    ∃ t f, exec (.ptpMessageTransmit n m) s = .next t ∧ f.org = .ptp m ∧
      f.bytes = Config.ptpTemplate ((xaornPtp n s.dev).ptp n).tmpl m ∧
      tget (t.dev.port n).queues (s.dev.getN Reg.FP_CTRL.PTP_TC n) =
        tget (s.dev.port n).queues (s.dev.getN Reg.FP_CTRL.PTP_TC n) ++ [f] ∧
      tget (t.dev.ptp n).sent (ptpCode m) = tget (s.dev.ptp n).sent (ptpCode m) + 1 ∧
      (∀ k, k ≠ n → t.dev.port k = s.dev.port k)) ∧
  (∀ (s : State) (n : Nat), ptpOn s.dev n = true → portSends (xaornPtp n s.dev) n .followUp = true →
    s.dev.on Reg.TKP_PTP.AUTH_EN = false → portRuns s.dev n = true →
    (((s.dev.port n).stamps.find? fun e => e.1 == .ptp .sync) = none →
      exec (.ptpMessageTransmit n .followUp) s = .next (s.after (xaornPtp n s.dev))) ∧
    (∀ o q, ((s.dev.port n).stamps.find? fun e => e.1 == .ptp .sync) = some (o, q) →
      ∃ t f, exec (.ptpMessageTransmit n .followUp) s = .next t ∧ f.org = .ptp .followUp ∧
        f.bytes = filled .followUp (Config.ptpTemplate ((xaornPtp n s.dev).ptp n).tmpl .followUp) [(q : Int)] [] ∧
        tget (t.dev.port n).queues (s.dev.getN Reg.FP_CTRL.PTP_TC n) =
          tget (s.dev.port n).queues (s.dev.getN Reg.FP_CTRL.PTP_TC n) ++ [f])) ∧
  (∀ (s : State) (n : Nat), ptpOn s.dev n = true → portSends (xaornPtp n s.dev) n .announce = true →
    s.dev.on Reg.TKP_PTP.AUTH_EN = false → portRuns s.dev n = true →
    ∃ t f, exec (.ptpAnnounceTransmit n) s = .next t ∧ f.org = .ptp .announce ∧
      tget (t.dev.port n).queues (s.dev.getN Reg.FP_CTRL.PTP_TC n) =
        tget (s.dev.port n).queues (s.dev.getN Reg.FP_CTRL.PTP_TC n) ++ [f] ∧
      tget (t.dev.ptp n).sent 11 = tget (s.dev.ptp n).sent 11 + 1) ∧
  (∀ (s : State) (n : Nat) (m : PtpMsg) (q : Nat), tcOn s.dev n = false ∨ portRuns s.dev n = false ∨ linkUp s.dev n = false →
    exec (.tcForward n m q) s = .next (s.after s.dev)) ∧
  (∀ (s : State) (n : Nat) (m : PtpMsg) (q : Nat), tcOn s.dev n = true → portRuns s.dev n = true → linkUp s.dev n = true →
    s.dev.onN Reg.FP_CTRL.LOOP n = false → s.dev.on Reg.TKP_PTP.AUTH_EN = false →
    (s.dev.ptp n).second ≠ s.time.sec ∨ (s.dev.ptp n).count < 512 → portRuns s.dev (twin n) = true →
    ∃ t f, exec (.tcForward n m q) s = .next t ∧ f.org = .transparent m q ∧ f.bytes = m.raw ∧
      tget (t.dev.port (twin n)).queues (s.dev.getN Reg.FP_CTRL.PTP_TC (twin n)) =
        tget (s.dev.port (twin n)).queues (s.dev.getN Reg.FP_CTRL.PTP_TC (twin n)) ++ [f] ∧ t.dev.port n = s.dev.port n) ∧
  (∀ (t : Time) (n a q : Nat) (m : PtpMsg) (f : TxFrame) (d : Dev), f.org = .transparent m a → isEvent m.mtype = true →
    twoStep d n = false →
    (fillTx t n q f d).1.bytes = filled m.mtype f.bytes [m.correction + ((q : Int) - a) * 2 ^ 14] [])

/-- R96 and R30: a partition whose new place overlaps another, leaves the memory, breaks the modal partition's limits or belongs
to an active owner is not written, with HMP_INT cause 2; an accepted write sets BASE and SIZE; a locked one changes nothing.
R109 and R112: patrol scrub checks its next line and moves on, and starts a new pass after the last one; a line of a
quadrant in reset is passed over. A pass that runs beyond 2.0 s is reported once. While scrub does not run nothing changes.
Where it rests on the model's reading, log entry 41 says so. -/
def Obligations.HamperPartitions : Prop :=
  ((∀ (s : State) (n : Nat) (v : Word32), n < 6 → s.dev.up (islandOf 0x20010) = true → s.dev.on Reg.GLB_LOCK.LOCK = false →
    partBad s.dev n (bits v.toNat 0 7) (bits v.toNat 8 8) = true →
    exec (.writeHmpPart n v) s = .next (s.after (s.dev.cause intHmp 2 n 0))) ∧
  (∀ (s : State) (n : Nat) (v : Word32), n < 6 → s.dev.up (islandOf 0x20010) = true → s.dev.on Reg.GLB_LOCK.LOCK = false →
    partBad s.dev n (bits v.toNat 0 7) (bits v.toNat 8 8) = false →
    ∃ t, exec (.writeHmpPart n v) s = .next t ∧ t.dev.getN Reg.HMP_PARTn.BASE n = bits v.toNat 0 7 ∧
      t.dev.getN Reg.HMP_PARTn.SIZE n = bits v.toNat 8 8 ∧
      (∀ m, m ≠ n → t.dev.getN Reg.HMP_PARTn.BASE m = s.dev.getN Reg.HMP_PARTn.BASE m ∧
        t.dev.getN Reg.HMP_PARTn.SIZE m = s.dev.getN Reg.HMP_PARTn.SIZE m) ∧ t.dev.hmp = s.dev.hmp) ∧
  (∀ (s : State) (n : Nat) (v : Word32), s.dev.up (islandOf 0x20010) = true → 6 ≤ n ∨ s.dev.on Reg.GLB_LOCK.LOCK = true →
    exec (.writeHmpPart n v) s = .next (s.after s.dev))) ∧
  ((∀ (s : State), s.dev.on Reg.HMP_STATUS.SCRUB_RUN = false → exec .scrubRead s = .next (s.after s.dev)) ∧
  (∀ (s : State) (l : Nat) (d : Dev), s.dev.on Reg.HMP_STATUS.SCRUB_RUN = true → l = s.dev.hmp.scrubLine →
    d = (if hUp s.dev (l * 16) then lineCheck .scrub (l * 16) s.dev else s.dev) →
    (l + 1 ≠ hLines → exec .scrubRead s = .next (s.after
      ((d.modHmp fun h => { h with scrubLine := l + 1 }).set Reg.HMP_SCRUB.UNIT ((l + 1) / 2 ^ 14)))) ∧
    (l + 1 = hLines → ∃ t, exec .scrubRead s = .next t ∧ t.dev.hmp.scrubLine = 0 ∧ t.dev.hmp.passStart = s.time.loc ∧
      t.dev.hmp.lateSeen = false ∧ t.dev.get Reg.HMP_SCRUB.UNIT = 0 ∧ t.dev.hmp.mem = s.dev.hmp.mem ∧
      t.dev.hmp.maps = d.hmp.maps ∧
      t.dev.get Reg.HMP_SCRUB.PASSES = (s.dev.get Reg.HMP_SCRUB.PASSES + 1) % 2 ^ Reg.HMP_SCRUB.PASSES.width)) ∧
  (∀ (d : Dev) (c : HCause) (w : Nat), badInLine d w = [] ∨ hUp d w = false → lineCheck c w d = d) ∧
  (∀ (d : Dev) (c : HCause) (w v : Nat), hUp d w = true → v ∈ badInLine d w →
    (hMap d (hBank w)).length + (badInLine d w).length ≤ 32 → hFenced (lineCheck c w d) v = true) ∧
  (∀ (s : State), s.dev.on Reg.HMP_STATUS.SCRUB_RUN = false ∨ s.dev.hmp.lateSeen = true ∨
      s.time.loc ≤ s.dev.hmp.passStart + 2000000000 → exec .scrubPassLate s = .next (s.after s.dev)) ∧
  (∀ (s : State), s.dev.on Reg.HMP_STATUS.SCRUB_RUN = true → s.dev.hmp.lateSeen = false →
    s.dev.hmp.passStart + 2000000000 < s.time.loc →
    exec .scrubPassLate s = .next (s.after ((s.dev.modHmp fun h => { h with lateSeen := true }).cause intHmp 4 0 0))))

/-- R102 to R104 and R106: the replay of a parity error. A word that reads well again is a transient error and is counted, in
its quadrant too; one that fails again is a lasting fault: it reads 0x7FC0_0002 from then on, HMP_INT cause 0 is set, and
the word is fenced while its bank's map has room, else the bank's HMP_MAPFULL bit and HMP_INT cause 1 are set. No other word
of memory changes. Outside the memory, in a quadrant in reset and on a fenced word nothing is replayed. R107: after a write
to a fenced word, two good check reads release it with the value written and count it; a bad one keeps it fenced. Where it
rests on the model's reading, log entry 9 says so. -/
def Obligations.HamperFaults : Prop :=
  ((∀ (s : State) (a : Nat) (c : HCause) (again : Bool),
    hWords ≤ a / 4 ∨ hUp s.dev (a / 4) = false ∨ hFenced s.dev (a / 4) = true →
    exec (.hamperReplay a c again) s = .next (s.after s.dev)) ∧
  (∀ (s : State) (a w : Nat) (c : HCause), w = a / 4 → w < hWords → hUp s.dev w = true → hFenced s.dev w = false →
    ∃ t, exec (.hamperReplay a c false) s = .next t ∧ t.dev.hmp = s.dev.hmp ∧
      t.dev.get Reg.HMP_CNT_TRANS.N = min (s.dev.get Reg.HMP_CNT_TRANS.N + 1) (2 ^ 32 - 1) ∧
      t.dev.getN Reg.HMP_QSTATq.TRANS (hQuad w) =
        min (s.dev.getN Reg.HMP_QSTATq.TRANS (hQuad w) + 1) (2 ^ Reg.HMP_QSTATq.TRANS.width - 1)) ∧
  (∀ (s : State) (a w : Nat) (c : HCause), w = a / 4 → w < hWords → hUp s.dev w = true → hFenced s.dev w = false →
    ∃ t, exec (.hamperReplay a c true) s = .next t ∧ (hread .engine w t.dev).1 = wParity ∧
      bitOf (t.dev.word intHmp.addr) 0 = true ∧
      t.dev.get Reg.HMP_CNT_LAST.N = min (s.dev.get Reg.HMP_CNT_LAST.N + 1) (2 ^ 32 - 1) ∧
      (∀ x, x ≠ w → tget t.dev.hmp.mem x = tget s.dev.hmp.mem x) ∧ (∀ b, b ≠ hBank w → hMap t.dev b = hMap s.dev b) ∧
      ((hMap s.dev (hBank w)).length < 32 → hFenced t.dev w = true) ∧
      (32 ≤ (hMap s.dev (hBank w)).length → t.dev.hmp.maps = s.dev.hmp.maps ∧ bitOf (t.dev.word intHmp.addr) 1 = true ∧
        (t.dev.get (if hBank w < 32 then Reg.HMP_MAPFULL_LO.BANK else Reg.HMP_MAPFULL_HI.BANK)).testBit (hBank w % 32) = true))) ∧
  ((∀ (s : State) (a w : Nat) (v : Word32), w = a / 4 → fmLook s.dev.hmp.checks w = some v →
    ∃ t, exec (.fenceReleaseCheck a true) s = .next t ∧ hFenced t.dev w = false ∧ tget t.dev.hmp.mem w = ⟨v, false⟩ ∧
      (hUp s.dev w = true → (hread .engine w t.dev).1 = v) ∧
      fmLook t.dev.hmp.checks w = none ∧ bitOf (t.dev.word intHmp.addr) 3 = true ∧
      t.dev.get Reg.HMP_CNT_REL.N = min (s.dev.get Reg.HMP_CNT_REL.N + 1) (2 ^ 32 - 1) ∧
      (∀ x, x ≠ w → tget t.dev.hmp.mem x = tget s.dev.hmp.mem x)) ∧
  (∀ (s : State) (a w : Nat) (v : Word32), w = a / 4 → fmLook s.dev.hmp.checks w = some v →
    ∃ t, exec (.fenceReleaseCheck a false) s = .next t ∧ t.dev.hmp.maps = s.dev.hmp.maps ∧
      t.dev.hmp.mem = s.dev.hmp.mem ∧ fmLook t.dev.hmp.checks w = none) ∧
  (∀ (s : State) (a : Nat) (good : Bool), fmLook s.dev.hmp.checks (a / 4) = none →
    exec (.fenceReleaseCheck a good) s = .next (s.after s.dev)))

/-- R100, R101 and R105: the Hamper as a memory. A fenced word reads 0x7FC0_0002, and with no other error in its line nothing is
counted. A write to a word that is neither fenced nor in a quadrant in reset is what the next read of it answers, and leaves
every other word as it was. Every command of the Hamper keeps the memory's canonical form. R101 and R118 to R121: a BAR4
read checks the word's line and answers the word while BAR4_EN is 1, and 0 while it is 0; a fenced word, or one with a
parity error, answers 0x7FC0_0002, and one of a quadrant in reset a free value; a write is discarded and counted; an access
beyond the window is no access of the device. Where it rests on the model's reading, log entry 10 says so. -/
def Obligations.HamperMemory : Prop :=
  ((∀ (d : Dev) (w : Nat) (v : Word32) (c : HCause), hUp d w = true → hFenced d w = false →
    (hread c w (hwrite w v d)).1 = v ∧ ∀ x, x ≠ w → tget (hwrite w v d).hmp.mem x = tget d.hmp.mem x) ∧
  (∀ (d : Dev) (w : Nat) (v : Word32), hUp d w = false → hwrite w v d = d) ∧
  (∀ (d : Dev) (w : Nat) (c : HCause), hUp d w = true → hFenced d w = true → (hread c w d).1 = 0x7FC00002 ∧
    (badInLine d w = [] → (hread c w d).2 = d)) ∧
  (∀ (s : State) (p : Path) (a n : Nat) (v : Word32) (x : HCause) (b : Bool) (c : Instr),
    c ∈ [Instr.writeHmpPart n v, .hamperReplay a x b, .fenceReleaseCheck a b, .scrubRead, .scrubPassLate, .bar4Read p a,
      .bar4Write a v] →
    Memory.wf s.dev.hmp.mem = true → ∀ t, exec c s = .next t → Memory.wf t.dev.hmp.mem = true)) ∧
  ((∀ (s : State) (p : Path) (a : Nat), a < 2 ^ 27 → s.dev.on Reg.HMP_CTRL.BAR4_EN = false →
    exec (.bar4Read p a) s = .next (s.after (s.dev.answer p 0))) ∧
  (∀ (s : State) (p : Path) (a : Nat), a < 2 ^ 27 → s.dev.on Reg.HMP_CTRL.BAR4_EN = true → hUp s.dev (a / 4) = true →
    exec (.bar4Read p a) s = .next (s.after ((lineCheck .bar4 (a / 4) s.dev).answer p
      (if hBad s.dev (a / 4) then 0x7FC00002 else (tget s.dev.hmp.mem (a / 4)).v)))) ∧
  (∀ (s : State) (p : Path) (a : Nat), a < 2 ^ 27 → s.dev.on Reg.HMP_CTRL.BAR4_EN = true → hUp s.dev (a / 4) = false →
    exec (.bar4Read p a) s = .next (s.after (s.dev.draw.2.answer p (Config.freeWord s.dev.draw.1)))) ∧
  (∀ (s : State) (a : Nat) (v : Word32), a < 2 ^ 27 → s.dev.pwr.released = true →
    ∃ t, exec (.bar4Write a v) s = .next t ∧ t.dev.hmp = s.dev.hmp ∧
      t.dev.get Reg.HMP_CNT_BAR4WR.N = min (s.dev.get Reg.HMP_CNT_BAR4WR.N + 1) (2 ^ 32 - 1)) ∧
  (∀ (s : State) (a : Nat) (v : Word32), a < 2 ^ 27 → s.dev.pwr.released = false →
    exec (.bar4Write a v) s = .next (s.after s.dev)) ∧
  (∀ (s : State) (p : Path) (a : Nat) (v : Word32), 2 ^ 27 ≤ a →
    exec (.bar4Read p a) s = .fault .outsideWindow ∧ exec (.bar4Write a v) s = .fault .outsideWindow))

/-- R122 to R124, R156 and R666: a running port's link comes up with FP_INT.LINK_CHG, and goes down with it; in a pair the path
loss is an event of its own. A write of FP_CTRL stores EN, LOOP and PTP_TC; while the port is off it stores an allowed speed
and FEC, and while it is on one that would change SPEED, FEC or AN_EN leaves them and sets CFG_REJ; a change of LOOP, and EN
from 1 to 0, take the link down. R126, R128, R144, R157, R162 and R666: reception on a port that runs with its link up. With
LOOP set only the oldest looped frame is received. A frame with a code error, too long, too short or of a bad FCS is
discarded and counted as a receive error. A good one that MACsec lets pass is counted; outside a pair, one that is not PTP,
supervision or flow control stands at the port's ingest input with its stamp while the receive buffer has room, and is
counted as dropped where it has none. A PAUSE or PFC frame pauses the classes that it names for its quanta where MODE takes
it. A frame on a port that does not run or whose link is down changes nothing. Where it rests on the model's reading, log
entries 8 and 53 say so. -/
def Obligations.PortReception : Prop :=
  ((∀ (s : State) (n : Nat), portRuns s.dev n = true → linkUp s.dev n = false →
    ∃ t, exec (.linkUp n) s = .next t ∧ linkUp t.dev n = true ∧ bitOf (t.dev.word (intFp n).addr) 0 = true ∧
      t.dev.ports = s.dev.ports ∧ t.time = s.time) ∧
  (∀ (s : State) (n : Nat), portRuns s.dev n = false ∨ linkUp s.dev n = true →
    exec (.linkUp n) s = .next (s.after s.dev)) ∧
  (∀ (s : State) (n : Nat), n < 16 → linkUp s.dev n = true →
    ∃ t, exec (.linkDown n) s = .next t ∧ linkUp t.dev n = false ∧ bitOf (t.dev.word (intFp n).addr) 0 = true ∧
      t.dev.ports = s.dev.ports) ∧
  (∀ (s : State) (n : Nat), 16 ≤ n ∨ linkUp s.dev n = false → exec (.linkDown n) s = .next (s.after s.dev)) ∧
  (∀ (s : State) (n : Nat) (v : Word32), n < 16 → s.dev.up (islPrt n) = true →
    ∃ t, exec (.writeFpCtrl n v) s = .next t ∧ t.dev.getN Reg.FP_CTRL.EN n = bits v.toNat 0 1 ∧
      t.dev.getN Reg.FP_CTRL.LOOP n = bits v.toNat 6 1 ∧ t.dev.getN Reg.FP_CTRL.PTP_TC n = bits v.toNat 8 3 ∧
      (s.dev.onN Reg.FP_CTRL.EN n = false → fecOk (bits v.toNat 1 2) (bits v.toNat 3 2) = true →
        t.dev.getN Reg.FP_CTRL.SPEED n = bits v.toNat 1 2 ∧ t.dev.getN Reg.FP_CTRL.FEC n = bits v.toNat 3 2 ∧
        t.dev.getN Reg.FP_CTRL.AN_EN n = bits v.toNat 5 1) ∧
      (s.dev.onN Reg.FP_CTRL.EN n = false → fecOk (bits v.toNat 1 2) (bits v.toNat 3 2) = false →
        t.dev.getN Reg.FP_CTRL.SPEED n = s.dev.getN Reg.FP_CTRL.SPEED n ∧
        t.dev.getN Reg.FP_CTRL.FEC n = s.dev.getN Reg.FP_CTRL.FEC n ∧ bitOf (t.dev.word (intFp n).addr) 4 = true) ∧
      (s.dev.onN Reg.FP_CTRL.EN n = true →
        t.dev.getN Reg.FP_CTRL.SPEED n = s.dev.getN Reg.FP_CTRL.SPEED n ∧
        t.dev.getN Reg.FP_CTRL.FEC n = s.dev.getN Reg.FP_CTRL.FEC n ∧
        t.dev.getN Reg.FP_CTRL.AN_EN n = s.dev.getN Reg.FP_CTRL.AN_EN n ∧
        ((bits v.toNat 1 2 ≠ s.dev.getN Reg.FP_CTRL.SPEED n ∨ bits v.toNat 3 2 ≠ s.dev.getN Reg.FP_CTRL.FEC n ∨
            bits v.toNat 5 1 ≠ s.dev.getN Reg.FP_CTRL.AN_EN n) → bitOf (t.dev.word (intFp n).addr) 4 = true)) ∧
      linkUp t.dev n = (linkUp s.dev n && (bits v.toNat 6 1 == s.dev.getN Reg.FP_CTRL.LOOP n) &&
        !(s.dev.onN Reg.FP_CTRL.EN n && bits v.toNat 0 1 == 0))) ∧
  (∀ (s : State) (n : Nat) (v : Word32), 16 ≤ n → exec (.writeFpCtrl n v) s = .next (s.after s.dev))) ∧
  ((∀ (s : State) (n : Nat) (f : RxFrame), portRuns s.dev n = false ∨ linkUp s.dev n = false ∨
      (s.dev.onN Reg.FP_CTRL.LOOP n = true ∧ loopFits s.dev n f = false) →
    exec (.frameReceive n f) s = .next (s.after s.dev)) ∧
  (∀ (s : State) (n : Nat) (f : RxFrame), portRuns s.dev n = true → linkUp s.dev n = true →
    s.dev.onN Reg.FP_CTRL.LOOP n = false ∨ loopFits s.dev n f = true →
    f.codeErr = true ∨ s.dev.getN Reg.FP_FRAME.MAX_LEN n < f.len ∨ f.len < 64 ∨ f.fcsOk = false →
    ∃ t, exec (.frameReceive n f) s = .next t ∧ t.dev.ing = s.dev.ing ∧
      t.dev.getN Reg.FP_BC_RXERR.N n = min (s.dev.getN Reg.FP_BC_RXERR.N n + 1) (2 ^ 32 - 1) ∧
      t.dev.getN Reg.FP_BC_RXF.N n = s.dev.getN Reg.FP_BC_RXF.N n) ∧
  (∀ (s : State) (n : Nat) (f g : RxFrame) (unv : Bool) (d d1 : Dev), portRuns s.dev n = true → linkUp s.dev n = true →
    s.dev.onN Reg.FP_CTRL.LOOP n = false ∨ loopFits s.dev n f = true →
    f.codeErr = false → f.fcsOk = true → 64 ≤ f.len → f.len ≤ s.dev.getN Reg.FP_FRAME.MAX_LEN n →
    d = (let x := if s.dev.onN Reg.FP_CTRL.LOOP n then s.dev.modPort n fun p => { p with looped := p.looped.tail } else s.dev
      if s.dev.getN Reg.FP_CTRL.FEC n = 0 then x else fullAdd n 22 f.fecUncorr (fullAdd n 21 f.fecCorr x)) →
    msecRx n f d = .pass unv g d1 →
    ∃ t, exec (.frameReceive n f) s = .next t ∧
      t.dev.getN Reg.FP_BC_RXF.N n = min (s.dev.getN Reg.FP_BC_RXF.N n + 1) (2 ^ 32 - 1) ∧
      ((∃ ty, g.body = .other ty) → pairMode s.dev n = 0 → s.dev.inReset islIng = false →
        ((s.dev.port n).rxFill + g.len ≤ Config.rxBufBytes →
          tget t.dev.ing.inq n = tget s.dev.ing.inq n ++
            [⟨n, ((s.time.qns + f.q % 16 : Nat) + sint 16 (s.dev.getN Reg.FP_TS_LAT.RX_TRIM n)).toNat, g, unv⟩] ∧
          (t.dev.port n).rxFill = (s.dev.port n).rxFill + g.len) ∧
        (Config.rxBufBytes < (s.dev.port n).rxFill + g.len → t.dev.ing.inq = s.dev.ing.inq ∧
          t.dev.getN Reg.FP_BC_DROP.N n = min (s.dev.getN Reg.FP_BC_DROP.N n + 1) (2 ^ 32 - 1))) ∧
      ((∃ ty, g.body = .other ty) → pairMode s.dev n = 0 → ∀ m, m ≠ n → t.dev.port m = s.dev.port m) ∧
      t.dev.hmp = s.dev.hmp) ∧
  (∀ (s : State) (n : Nat) (f : RxFrame) (q : Nat), portRuns s.dev n = true → linkUp s.dev n = true →
    s.dev.onN Reg.FP_CTRL.LOOP n = false → s.dev.onN Reg.FP_MSEC_CTRL.EN n = false → f.sec = none →
    f.codeErr = false → f.fcsOk = true → 64 ≤ f.len → f.len ≤ s.dev.getN Reg.FP_FRAME.MAX_LEN n → f.body = .pause q →
    exec (.pauseFrameReceive n f) s = exec (.frameReceive n f) s ∧
    ∃ t, exec (.pauseFrameReceive n f) s = .next t ∧ (t.dev.port n).queues = (s.dev.port n).queues ∧
      t.dev.ing.inq = s.dev.ing.inq ∧ fullVal t.dev n 4 = (fullVal s.dev n 4 + 1) % 2 ^ 48 ∧
      (s.dev.getN Reg.FP_PAUSE.MODE n ≠ 1 → t.dev.port n = s.dev.port n) ∧
      (∀ c, s.dev.getN Reg.FP_PAUSE.MODE n = 1 → c < 8 → c ∉ (s.dev.port n).storm → q < 2 ^ 16 →
        tget (t.dev.port n).pauseEnd c = (if q = 0 then 0 else
          s.time.loc + (q * 512 + lineRate s.dev n - 1) / lineRate s.dev n)) ∧
      (∀ c, c ∈ (s.dev.port n).storm → tget (t.dev.port n).pauseEnd c = tget (s.dev.port n).pauseEnd c)) ∧
  (∀ (s : State) (n : Nat) (f : RxFrame) (en : Nat) (qs : List Nat), portRuns s.dev n = true → linkUp s.dev n = true →
    s.dev.onN Reg.FP_CTRL.LOOP n = false → s.dev.onN Reg.FP_MSEC_CTRL.EN n = false → f.sec = none →
    f.codeErr = false → f.fcsOk = true → 64 ≤ f.len → f.len ≤ s.dev.getN Reg.FP_FRAME.MAX_LEN n → f.body = .pfc en qs →
    exec (.pauseFrameReceive n f) s = exec (.frameReceive n f) s ∧
    ∃ t, exec (.pauseFrameReceive n f) s = .next t ∧ fullVal t.dev n 5 = (fullVal s.dev n 5 + 1) % 2 ^ 48 ∧
      (∀ c, s.dev.getN Reg.FP_PAUSE.MODE n = 2 → c < 8 → en.testBit c = true →
        (s.dev.getN Reg.FP_PAUSE.PFC_EN n).testBit c = true → c ∉ (s.dev.port n).storm → qs.getD c 0 < 2 ^ 16 →
        tget (t.dev.port n).pauseEnd c = (if qs.getD c 0 = 0 then 0 else
          s.time.loc + (qs.getD c 0 * 512 + lineRate s.dev n - 1) / lineRate s.dev n)) ∧
      (∀ c, s.dev.getN Reg.FP_PAUSE.MODE n ≠ 2 ∨ en.testBit c = false ∨
        (s.dev.getN Reg.FP_PAUSE.PFC_EN n).testBit c = false ∨ c ∈ (s.dev.port n).storm →
        tget (t.dev.port n).pauseEnd c = tget (s.dev.port n).pauseEnd c)))

/-- R145, R148 and R149: a class's pause ends with its time; a class paused without a break beyond STORM ignores requests from
then on, with FP_INT cause 3, until no request has come for STORM; while its buffer is over three quarters full the port
queues a flow control frame, again while it stays over half and half of the pause has passed, and a release below half.
Outside these conditions the commands change nothing. Where it rests on the model's reading, log entries 3 and 8 say so. -/
def Obligations.FlowControl : Prop :=
  (∀ (s : State) (n tc : Nat), n < 16 → tc < 8 → tget (s.dev.port n).pauseEnd tc ≠ 0 →
    tget (s.dev.port n).pauseEnd tc ≤ s.time.loc →
    ∃ t, exec (.pauseExpire n tc) s = .next t ∧ tget (t.dev.port n).pauseEnd tc = 0 ∧
      (∀ c, c ≠ tc → tget (t.dev.port n).pauseEnd c = tget (s.dev.port n).pauseEnd c) ∧
      (∀ m, m ≠ n → t.dev.port m = s.dev.port m)) ∧
  (∀ (s : State) (n tc : Nat), s.time.loc < tget (s.dev.port n).pauseEnd tc ∨ tget (s.dev.port n).pauseEnd tc = 0 →
    exec (.pauseExpire n tc) s = .next (s.after s.dev)) ∧
  (∀ (s : State) (n tc : Nat), n < 16 → tc < 8 → tget (s.dev.port n).pauseEnd tc ≠ 0 →
    s.dev.getN Reg.FP_PAUSE.STORM n ≠ 0 → tc ∉ (s.dev.port n).storm →
    s.dev.getN Reg.FP_PAUSE.STORM n * 10000000 + tget (s.dev.port n).pauseSince tc < s.time.loc + 1 →
    ∃ t, exec (.pauseStorm n tc) s = .next t ∧ (t.dev.port n).storm = (s.dev.port n).storm ++ [tc] ∧
      t.dev.getN Reg.FP_STATUS.STORM n = 1 ∧ bitOf (t.dev.word (intFp n).addr) 3 = true) ∧
  (∀ (s : State) (n tc : Nat), tget (s.dev.port n).pauseEnd tc = 0 ∨ s.dev.getN Reg.FP_PAUSE.STORM n = 0 ∨
      tc ∈ (s.dev.port n).storm ∨ s.time.loc < s.dev.getN Reg.FP_PAUSE.STORM n * 10000000 + tget (s.dev.port n).pauseSince tc →
    exec (.pauseStorm n tc) s = .next (s.after s.dev)) ∧
  (∀ (s : State) (n tc : Nat), n < 16 → tc < 8 → tc ∈ (s.dev.port n).storm →
    s.dev.getN Reg.FP_PAUSE.STORM n * 10000000 + tget (s.dev.port n).lastReq tc ≤ s.time.loc + 1 →
    ∃ t, exec (.pauseStormClear n tc) s = .next t ∧ (t.dev.port n).storm = (s.dev.port n).storm.erase tc ∧
      t.dev.onN Reg.FP_STATUS.STORM n = !((s.dev.port n).storm.erase tc).isEmpty) ∧
  (∀ (s : State) (n tc : Nat), tc ∉ (s.dev.port n).storm →
    exec (.pauseStormClear n tc) s = .next (s.after s.dev)) ∧
  (∀ (s : State) (n : Nat), flowOn s.dev n = true → (s.dev.port n).pauseSent = none →
    3 * Config.rxBufBytes < 4 * (s.dev.port n).rxFill →
    ∃ t f, exec (.pauseTransmit n) s = .next t ∧ f.org = .flow ∧ f.len = 64 ∧
      f.bytes = flowBytes s.dev n (s.dev.getN Reg.FP_PAUSE_TX.QUANTA n) ∧
      (t.dev.port n).flowQ = (s.dev.port n).flowQ ++ [f] ∧ (t.dev.port n).pauseSent = some s.time.loc) ∧
  (∀ (s : State) (n a : Nat), flowOn s.dev n = true → (s.dev.port n).pauseSent = some a →
    Config.rxBufBytes < 2 * (s.dev.port n).rxFill →
    s.dev.getN Reg.FP_PAUSE_TX.QUANTA n * 256 / lineRate s.dev n ≤ s.time.loc - a →
    ∃ t f, exec (.pauseResend n) s = .next t ∧ f.org = .flow ∧ f.len = 64 ∧
      f.bytes = flowBytes s.dev n (s.dev.getN Reg.FP_PAUSE_TX.QUANTA n) ∧
      (t.dev.port n).flowQ = (s.dev.port n).flowQ ++ [f] ∧ (t.dev.port n).pauseSent = some s.time.loc) ∧
  (∀ (s : State) (n : Nat), flowOn s.dev n = true → (s.dev.port n).pauseSent ≠ none →
    2 * (s.dev.port n).rxFill < Config.rxBufBytes →
    ∃ t f, exec (.pauseReleaseSend n) s = .next t ∧ f.org = .flow ∧ f.len = 64 ∧ f.bytes = flowBytes s.dev n 0 ∧
      (t.dev.port n).flowQ = (s.dev.port n).flowQ ++ [f] ∧ (t.dev.port n).pauseSent = none) ∧
  (∀ (s : State) (n : Nat), flowOn s.dev n = false →
    exec (.pauseTransmit n) s = .next (s.after s.dev) ∧ exec (.pauseResend n) s = .next (s.after s.dev) ∧
      exec (.pauseReleaseSend n) s = .next (s.after s.dev))

/-- R125, R130, R131, R138, R139, R149 and R151: what starts at a frame boundary of a port that is free. A flow control frame
that may start goes first; then the heads of the classes are taken in order, a timed head whose target is now before every
other class. A head that can start goes onto the wire, its first bit now, or at its target where it is timed and on time. A
port that is not up, or sends a frame, starts none. R131, R142, R143, R152 and R666: a frame that ends with its FCS is among
those sent and counted; one that wants a stamp has it in the transmit timestamp queue, or with the queue full FP_INT cause 2
is set. A frame whose data does not arrive in time ends with a bad FCS and raises START_THR; one that has all its data does
not fail. R132 to R135 and R168: a gate configuration is taken with its change time, or refused while one waits; it applies
at its time and not before, a list that a reset stopped restarts at its own, and the earlier of the two counts first; the
list moves to its next entry when the running one ends. Where it rests on the model's reading, log entry 51 says so. -/
def Obligations.Transmission : Prop :=
  ((∀ (s : State) (n : Nat) (f : TxFrame), n < 16 → s.dev.up (islPrt n) = true → (s.dev.port n).cur = none →
    flowReady s.time n (fillHeads n (guardRefresh s.time n s.dev)) = some f →
    ∃ t, exec (.txFrameStart n) s = .next t ∧ (t.dev.port n).cur = some ⟨f, s.time.qns, stOk⟩ ∧
      (t.dev.port n).flowQ = (s.dev.port n).flowQ.tail ∧ (∀ m, m ≠ n → t.dev.port m = s.dev.port m)) ∧
  (∀ (s : State) (n : Nat) (d : Dev), n < 16 → s.dev.up (islPrt n) = true → (s.dev.port n).cur = none →
    d = fillHeads n (guardRefresh s.time n s.dev) → flowReady s.time n d = none →
    exec (.txFrameStart n) s = .next (s.after (pickFrame s.time n
      (([7, 6, 5, 4, 3, 2, 1, 0] : List Nat).filter (targetNow s.time n d) ++
        ([7, 6, 5, 4, 3, 2, 1, 0] : List Nat).filter fun tc => !targetNow s.time n d tc) (queued d n + 1) d))) ∧
  (∀ (s : State) (n : Nat), 16 ≤ n ∨ s.dev.up (islPrt n) = false ∨ (s.dev.port n).cur ≠ none →
    exec (.txFrameStart n) s = .next (s.after s.dev)) ∧
  (∀ (s : State) (n : Nat) (f : TxFrame), n < 16 → s.dev.up (islPrt n) = true → linkUp s.dev n = true →
    (s.dev.port n).cur = none → (s.dev.port n).queues = [(f.tc, [f])] → f.tc < 8 → f.launch = none →
    startReady s.dev n f = true → (s.dev.port n).flowQ = [] →
    s.dev.onN Reg.FP_TAS_CTRL.GATE_EN n = false → tget (s.dev.port n).pauseEnd f.tc = 0 →
    protects s.dev n = false →
    ∃ t, exec (.txFrameStart n) s = .next t ∧
      (t.dev.port n).cur = some ⟨(fillTx s.time n s.time.qns f s.dev).1, s.time.qns, stOk⟩ ∧
      (∀ m, m ≠ n → t.dev.port m = s.dev.port m)) ∧
  (∀ (s : State) (n tc : Nat) (f : TxFrame), (queueOf s.dev n tc).head? = some f → f.launch.isSome = true →
    exec (.timedLaunch n tc) s = .next (s.after (txFrameStart s.time n [tc] s.dev))) ∧
  (∀ (s : State) (n tc : Nat), (∀ f, (queueOf s.dev n tc).head? = some f → f.launch = none) →
    exec (.timedLaunch n tc) s = .next (s.after s.dev)) ∧
  (∀ (s : State) (n : Nat) (f : TxFrame) (l : Nat × Nat × Nat), n < 16 → s.dev.up (islPrt n) = true →
    linkUp s.dev n = true → (s.dev.port n).cur = none → (s.dev.port n).queues = [(f.tc, [f])] → f.tc < 8 →
    f.launch = some l → verdictNow s.time s.dev l.1 l.2.1 l.2.2 = .ok → startReady s.dev n f = true →
    s.dev.onN Reg.FP_TAS_CTRL.GATE_EN n = false → tget (s.dev.port n).pauseEnd f.tc = 0 →
    protects s.dev n = false →
    ∃ t g, exec (.timedLaunch n f.tc) s = .next t ∧
      (t.dev.port n).cur = some ⟨g, (s.time.ns + (launchDelta s.time s.dev l).toNat) * 4, stOk⟩ ∧
      g.org = f.org ∧ g.len = f.len) ∧
  (∀ (s : State) (n : Nat), portRuns s.dev n = true →
    ∃ t, exec (.guardTimeStart n) s = .next t ∧ (t.dev.port n).queues = (s.dev.port n).queues ∧
      (t.dev.port n).sent = (s.dev.port n).sent ∧ (∀ m, m ≠ n → t.dev.port m = s.dev.port m) ∧
      (∀ tc, tc ∈ (t.dev.port n).guard ↔ tc < 8 ∧ ∃ f l, (queueOf s.dev n tc).head? = some f ∧ f.launch = some l ∧
        (tickSpan s.time s.dev : Int) ≤ launchDelta s.time s.dev l ∧ launchDelta s.time s.dev l ≤ guardNs s.dev n))) ∧
  ((∀ (s : State) (n : Nat) (c : TxCur), n < 16 → (s.dev.port n).cur = some c →
    ∃ t, exec (.txFrameEnd n) s = .next t ∧ (t.dev.port n).cur = none ∧
      (t.dev.port n).sent = (s.dev.port n).sent ++ [(c.frame, c.startQ, true)] ∧
      (t.dev.port n).queues = (s.dev.port n).queues ∧
      (t.dev.port n).looped = (s.dev.port n).looped ++ (if s.dev.onN Reg.FP_CTRL.LOOP n then [(c.frame, true)] else []) ∧
      t.dev.getN Reg.FP_BC_TXF.N n = min (s.dev.getN Reg.FP_BC_TXF.N n + 1) (2 ^ 32 - 1) ∧
      (wantsStamp s.dev n c.frame = true → (s.dev.port n).stamps.length < 64 →
        (t.dev.port n).stamps = (s.dev.port n).stamps ++ [(c.frame.org, txStamp s.dev n c.startQ)]) ∧
      (wantsStamp s.dev n c.frame = true → 64 ≤ (s.dev.port n).stamps.length →
        (t.dev.port n).stamps = (s.dev.port n).stamps ∧ bitOf (t.dev.word (intFp n).addr) 2 = true) ∧
      (wantsStamp s.dev n c.frame = false → (t.dev.port n).stamps = (s.dev.port n).stamps)) ∧
  (∀ (s : State) (n : Nat), (s.dev.port n).cur = none →
    exec (.txFrameEnd n) s = .next (s.after s.dev) ∧ exec (.txUnderrun n) s = .next (s.after s.dev)) ∧
  (∀ (s : State) (n k : Nat) (c : TxCur), n < 16 → (s.dev.port n).cur = some c → c.frame.fetched = some k → k < c.frame.len →
    ∃ t, exec (.txUnderrun n) s = .next t ∧ (t.dev.port n).cur = none ∧
      (t.dev.port n).sent = (s.dev.port n).sent ++ [(c.frame, c.startQ, false)] ∧
      bitOf (t.dev.word (intFp n).addr) 1 = true ∧
      t.dev.getN Reg.FP_TXCFG.START_THR n = (if s.dev.getN Reg.FP_TXCFG.START_THR n < 4 then
        s.dev.getN Reg.FP_TXCFG.START_THR n + 1 else s.dev.getN Reg.FP_TXCFG.START_THR n)) ∧
  (∀ (s : State) (n : Nat) (c : TxCur), (s.dev.port n).cur = some c →
    (∀ k, c.frame.fetched = some k → c.frame.len ≤ k) → exec (.txUnderrun n) s = .next (s.after s.dev))) ∧
  ((∀ (s : State) (n : Nat), n < 16 → s.dev.up (islPrt n) = true → s.dev.onN Reg.FP_TAS_STAT.PENDING n = false →
    ∃ t c, exec (.configChange n) s = .next t ∧ c.len = s.dev.getN Reg.FP_TAS_CTRL.ADMIN_LEN n ∧
      c.cycle = s.dev.getN Reg.FP_TAS_CYCLE.NS n ∧ c.ext = s.dev.getN Reg.FP_TAS_EXT.NS n ∧ c.base = baseNs s.dev n ∧
      c.bank = 1 - s.dev.getN Reg.FP_TAS_STAT.OPER_BANK n ∧
      (t.dev.port n).gate.pend = some (c, changeTime s.time.ns c) ∧ t.dev.onN Reg.FP_TAS_STAT.PENDING n = true ∧
      (t.dev.port n).gate.oper = (s.dev.port n).gate.oper) ∧
  (∀ (s : State) (n : Nat), n < 16 → s.dev.up (islPrt n) = true → s.dev.onN Reg.FP_TAS_STAT.PENDING n = true →
    exec (.configChange n) s = .next (s.after (s.dev.cause (intFp n) 4 n 0))) ∧
  (∀ (s : State) (n at_ : Nat) (c : GateCfg), n < 16 → s.dev.up (islPrt n) = true →
    (s.dev.port n).gate.pend = some (c, at_) → at_ ≤ s.time.ns →
    (∀ r b, (s.dev.port n).gate.restart = some (r, b) → at_ ≤ b ∨ s.time.ns < b) →
    ∃ t, exec (.gateConfigApply n) s = .next t ∧ (t.dev.port n).gate.oper = some c ∧ (t.dev.port n).gate.pend = none ∧
      (t.dev.port n).gate = gateApply s.dev n c at_ (s.dev.port n).gate ∧
      t.dev.onN Reg.FP_TAS_STAT.PENDING n = false ∧ t.dev.getN Reg.FP_TAS_STAT.OPER_BANK n = c.bank % 2 ∧
      (t.dev.port n).queues = (s.dev.port n).queues) ∧
  (∀ (s : State) (n b : Nat) (r : GateCfg), n < 16 → s.dev.up (islPrt n) = true →
    (s.dev.port n).gate.restart = some (r, b) → b ≤ s.time.ns →
    (∀ c a, (s.dev.port n).gate.pend = some (c, a) → b < a) →
    ∃ t, exec (.gateConfigApply n) s = .next t ∧ (t.dev.port n).gate = gateRestart s.dev n r b (s.dev.port n).gate ∧
      (t.dev.port n).gate.pend = (s.dev.port n).gate.pend ∧ (t.dev.port n).queues = (s.dev.port n).queues) ∧
  (∀ (s : State) (n : Nat), (∀ c a, (s.dev.port n).gate.pend = some (c, a) → s.time.ns < a) →
    (∀ r b, (s.dev.port n).gate.restart = some (r, b) → s.time.ns < b) →
    exec (.gateConfigApply n) s = .next (s.after s.dev)) ∧
  (∀ (s : State) (n : Nat) (c : GateCfg), n < 16 → s.dev.up (islPrt n) = true → (s.dev.port n).gate.oper = some c →
    (gateList s.dev n c).isEmpty = false → (s.dev.port n).gate.entryEnd ≤ s.time.ns →
    ∃ t, exec (.gateEntryAdvance n) s = .next t ∧ (t.dev.port n).gate = gateAdvance s.dev n c (s.dev.port n).gate ∧
      (t.dev.port n).queues = (s.dev.port n).queues) ∧
  (∀ (s : State) (n : Nat), s.time.ns < (s.dev.port n).gate.entryEnd ∨ (s.dev.port n).gate.oper = none →
    exec (.gateEntryAdvance n) s = .next (s.after s.dev)))

/-- R155, R157 and R161: PRP and HSR pairs. Keys of the discard table that FORGET has passed leave it, and with FORGET 0 all
stay; when both copies of a frame have ended or been dropped its descriptor's completion becomes due; supervision frames
leave on both ports at their interval. Where it rests on the model's reading, log entries 20 and 55 say so. -/
def Obligations.Pairs : Prop :=
  (∀ (s : State) (p : Nat), p < 8 →
    ∃ t, exec (.dupKeyForget p) s = .next t ∧ (t.dev.pair p).keys = (s.dev.pair p).keys.filter (fun k =>
        s.dev.getN Reg.FP_PAIR.FORGET (p * 2) == 0 ||
        decide (s.time.loc - k.at_ < s.dev.getN Reg.FP_PAIR.FORGET (p * 2) * 10000000)) ∧
      (t.dev.pair p).waits = (s.dev.pair p).waits ∧ (∀ q, q ≠ p → t.dev.pair q = s.dev.pair q) ∧
      t.dev.ports = s.dev.ports) ∧
  (∀ (s : State) (p : Nat) (w : PairWait), p < 8 →
    ((s.dev.pair p).waits.find? fun w => w.even.isSome && w.odd.isSome) = some w →
    ∃ t, exec (.pairCompletion p) s = .next t ∧ (t.dev.pair p).waits = (s.dev.pair p).waits.erase w ∧
      (∀ q, q ≠ p → t.dev.pair q = s.dev.pair q) ∧ (t.dev.pair p).keys = (s.dev.pair p).keys) ∧
  (∀ (s : State) (p : Nat) (w : PairWait), p < 8 →
    ((s.dev.pair p).waits.find? fun w => w.even.isSome && w.odd.isSome) = some w →
    (∀ x, w.even.join = some x → x.stamp = none) → (∀ x, w.odd.join = some x → x.stamp = none) →
    exec (.pairCompletion p) s = .next (s.after (endStarted w.ring w.idx (pairStatus w.even.join w.odd.join).1 (dLen w.words)
      (txExt none (p * 2)) none (s.dev.setPair p { s.dev.pair p with waits := (s.dev.pair p).waits.erase w })))) ∧
  (∀ (a b : CopyFate), a.onTime = true ∨ b.onTime = true → (pairStatus (some a) (some b)).1 = stOk) ∧
  (∀ (a : CopyFate), a.onTime = false → (pairStatus (some a) none).1 = a.status ∧ (pairStatus none (some a)).1 = a.status) ∧
  (∀ (s : State) (p : Nat), (∀ w ∈ (s.dev.pair p).waits, w.even = none ∨ w.odd = none) →
    exec (.pairCompletion p) s = .next (s.after s.dev)) ∧
  (∀ (s : State) (p : Nat), p < 8 → pairMode s.dev (p * 2) = 1 ∨ pairMode s.dev (p * 2) = 2 →
    portRuns s.dev (p * 2) = true ∨ portRuns s.dev (p * 2 + 1) = true → s.dev.getN Reg.FP_PAIR.SUP_INT (p * 2) ≠ 0 →
    (s.dev.pair p).supLast + s.dev.getN Reg.FP_PAIR.SUP_INT (p * 2) * 100000000 ≤ s.time.loc →
    ∃ t, exec (.hsrSupervisionSend p) s = .next t ∧ (t.dev.pair p).supLast = s.time.loc ∧
      (∀ k, k < 2 → portRuns s.dev (p * 2 + k) = true → ∃ f, f.org = .supervision ∧
        f.bytes = Config.template (t.dev.pair p).supTmpl ∧
        tget (t.dev.port (p * 2 + k)).queues 0 = tget (s.dev.port (p * 2 + k)).queues 0 ++ [f])) ∧
  (∀ (s : State) (p : Nat), p < 8 → pairMode s.dev (p * 2) = 0 ∨ s.dev.getN Reg.FP_PAIR.SUP_INT (p * 2) = 0 ∨
      s.time.loc - (s.dev.pair p).supLast < s.dev.getN Reg.FP_PAIR.SUP_INT (p * 2) * 100000000 ∨
      (portRuns s.dev (p * 2) = false ∧ portRuns s.dev (p * 2 + 1) = false) →
    exec (.hsrSupervisionSend p) s = .next (s.after s.dev))

/-- R172 to R174 and R475: ingest serves its inputs round-robin and takes a waiting frame into the intake buffer when it is
within its port's limit and the buffer holds it; a frame over the limit is discarded and counted in PORTLIM, one that the
buffer cannot hold is discarded and counted in OVF; an injected frame alike. Without a frame at an input, or in reset,
nothing happens. R175 to R177 and Table ING-2: the oldest frame of the buffer is parsed; with ING_CTRL.EN = 0 every frame is
counted in UNSUP, with EN = 1 it goes by the first matching row, and a frame with two or more VLAN tags is row 1. A whole
second restarts the forwarding count. Where it rests on the model's reading, log entry 57 says so. -/
def Obligations.IngestFrames : Prop :=
  ((∀ (s : State), nextInput s.dev = none ∨ s.dev.up islIng = false → exec .ingestIntake s = .next (s.after s.dev)) ∧
  (∀ (s : State) (i c : Nat) (f : InFrame) (rest : List InFrame), s.dev.up islIng = true → nextInput s.dev = some i → i < 20 →
    tget s.dev.ing.inq i = f :: rest →
    c = (if s.dev.ing.ms = s.time.ns / 1000000 then tget s.dev.ing.msCnt i else 0) + 1 →
    ∃ t, exec .ingestIntake s = .next t ∧ tget t.dev.ing.inq i = rest ∧ t.dev.ing.turn = i ∧
      (∀ j, j ≠ i → tget t.dev.ing.inq j = tget s.dev.ing.inq j) ∧
      (s.dev.getN Reg.ING_PORTLIMn.LIMIT i = 0 ∨ c ≤ s.dev.getN Reg.ING_PORTLIMn.LIMIT i →
        (s.dev.ing.bytes + f.frame.len ≤ 2 ^ 20 →
          t.dev.ing.buf = s.dev.ing.buf ++ [f] ∧ t.dev.ing.bytes = s.dev.ing.bytes + f.frame.len) ∧
        (2 ^ 20 < s.dev.ing.bytes + f.frame.len →
          t.dev.ing.buf = s.dev.ing.buf ∧ t.dev.ing.bytes = s.dev.ing.bytes ∧
          t.dev.get Reg.ING_CNT_OVF.N = min (s.dev.get Reg.ING_CNT_OVF.N + 1) (2 ^ 32 - 1))) ∧
      (s.dev.getN Reg.ING_PORTLIMn.LIMIT i ≠ 0 → s.dev.getN Reg.ING_PORTLIMn.LIMIT i < c →
        t.dev.ing.buf = s.dev.ing.buf ∧ t.dev.ing.bytes = s.dev.ing.bytes ∧
        t.dev.get Reg.ING_CNT_PORTLIM.N = min (s.dev.get Reg.ING_CNT_PORTLIM.N + 1) (2 ^ 32 - 1))) ∧
  (∀ (s : State) (c : Nat) (x : Inject) (rest : List Inject), s.dev.up islIng = true → nextInput s.dev = some 20 →
    s.dev.ing.injq = x :: rest → c = (if s.dev.ing.ms = s.time.ns / 1000000 then tget s.dev.ing.msCnt 20 else 0) + 1 →
    ∃ t, exec .ingestIntake s = .next t ∧ t.dev.ing.injq = rest ∧ t.dev.ing.turn = 20 ∧
      (s.dev.getN Reg.ING_PORTLIMn.LIMIT 20 = 0 ∨ c ≤ s.dev.getN Reg.ING_PORTLIMn.LIMIT 20 →
        s.dev.ing.bytes + x.frame.len ≤ 2 ^ 20 →
        t.dev.ing.buf = s.dev.ing.buf ++ [⟨20, x.arrQ.getD s.time.qns, x.frame, false⟩]) ∧
      (s.dev.getN Reg.ING_PORTLIMn.LIMIT 20 ≠ 0 ∧ s.dev.getN Reg.ING_PORTLIMn.LIMIT 20 < c ∨
        2 ^ 20 < s.dev.ing.bytes + x.frame.len → t.dev.ing.buf = s.dev.ing.buf))) ∧
  ((∀ (s : State), s.dev.up islIng = true → exec .hostlimSecond s = .next (s.after (secondRoll s.time s.dev)) ∧
    (s.time.sec ≠ s.dev.ing.second → (secondRoll s.time s.dev).ing.hostCnt = 0 ∧
      (secondRoll s.time s.dev).ing.second = s.time.sec ∧ (secondRoll s.time s.dev).ing.fps = 0)) ∧
  (∀ (s : State), s.dev.up islIng = true → s.dev.ing.buf = [] →
    exec .ingestParse s = .next (s.after (secondRoll s.time s.dev))) ∧
  (∀ (s : State) (f : InFrame) (rest : List InFrame), s.dev.up islIng = true → s.dev.ing.buf = f :: rest →
    ∃ d, d.ing.buf = rest ∧ d.ing.bytes = s.dev.ing.bytes - f.frame.len ∧
      d.ing.fps = (if s.time.sec = s.dev.ing.second then s.dev.ing.fps else 0) + 1 ∧
      d.ing.hostCnt = (if s.time.sec = s.dev.ing.second then s.dev.ing.hostCnt else 0) ∧
      (∀ a, a ≠ 0x70004 → d.word a = s.dev.word a) ∧
      (s.dev.on Reg.ING_CTRL.EN = false → exec .ingestParse s = .next (s.after (d.sat Reg.ING_CNT_UNSUP.N))) ∧
      (s.dev.on Reg.ING_CTRL.EN = true → exec .ingestParse s = .next (s.after (classify s.time f d))) ∧
      (2 ≤ f.frame.vlans.length → classify s.time f d = rowOther Reg.ING_CTRL.MULTITAG_HOST f 1 d)) ∧
  (∀ (s : State), s.dev.up islIng = false → exec .hostlimSecond s = .next (s.after s.dev) ∧
    exec .ingestParse s = .next (s.after s.dev)))

/-- R193, R205 and Table SRC-STATUS: an accepted block counts in ING_CNT_ACCEPT and in its source, stores its instant, arrival
and STAT there, and takes a source that was INACTIVE to ACTIVE; a block from the future is discarded and counted; a source
in CFG_PEND returns to ACTIVE 60 s after STAT bit 10 was last set (R198). R183 to R185: a write to an entry that is valid is
ignored and reported, but for one that clears VALID; a word of an entry that is not valid is stored; VALID rises only when
the entry passes its checks, and clears the source's status. R201 and R203: when a subscription's time-allowed-to-live has
passed, its target word becomes the missing word 0x7FC0_0001 and ING_INT cause 6 is set, once; before that nothing happens.
Where it rests on the model's reading, log entries 39, 60 and 61 say so. -/
def Obligations.IngestSources : Prop :=
  ((∀ (t : Time) (f : InFrame) (b : Block) (d : Dev), inFuture d f b = true →
    ∃ e, blockJudge t f b d = e ∧ e.get Reg.ING_CNT_FUTURE.N = min (d.get Reg.ING_CNT_FUTURE.N + 1) (2 ^ 32 - 1) ∧
      e.get Reg.ING_CNT_ACCEPT.N = d.get Reg.ING_CNT_ACCEPT.N ∧
      (b.src < 512 → e.getN Reg.T_SRCSTAT.LAST_REASON b.src = stRejected ∧
        e.getN Reg.T_SRCSTAT.ACCEPT b.src = d.getN Reg.T_SRCSTAT.ACCEPT b.src)) ∧
  (∀ (t : Time) (f : InFrame) (b : Block) (d : Dev), inFuture d f b = false → d.getN Reg.T_SRC.RLIM b.src = 0 →
    blockJudge t f b d = blockAccept t f b d) ∧
  (∀ (s : State) (n : Nat), n < 512 → s.dev.up islIng = true → srcState s.dev n = 2 →
    (tget s.dev.ing.src n).bit10 = false → (tget s.dev.ing.src n).clearSince + 60000000000 ≤ s.time.loc →
    exec (.cfgPendTimeout n) s = .next (s.after (s.dev.setN Reg.T_SRCSTAT.STATE n 1))) ∧
  (∀ (s : State) (n : Nat), 512 ≤ n ∨ s.dev.up islIng = false ∨ srcState s.dev n ≠ 2 ∨ (tget s.dev.ing.src n).bit10 = true ∨
    s.time.loc < (tget s.dev.ing.src n).clearSince + 60000000000 →
    exec (.cfgPendTimeout n) s = .next (s.after s.dev))) ∧
  (∀ (s : State) (n w : Nat) (v : Word32), n < 512 → w < 16 → s.dev.up islIng = true →
    (s.dev.onN Reg.T_SRC.VALID n = true → w ≠ 0 ∨ bitOf v 0 = true →
      exec (.writeSourceEntry (0x200000 + n * 64 + w * 4) v) s = .next (s.after (s.dev.cause intIng 0 n 0))) ∧
    (s.dev.onN Reg.T_SRC.VALID n = true → bitOf v 0 = false →
      exec (.writeSourceEntry (0x200000 + n * 64) v) s =
        .next (s.after (alnSource s.time n (s.dev.putWord (0x200000 + n * 64) v)))) ∧
    (s.dev.onN Reg.T_SRC.VALID n = false → w ≠ 0 →
      exec (.writeSourceEntry (0x200000 + n * 64 + w * 4) v) s =
        .next (s.after (s.dev.putWord (0x200000 + n * 64 + w * 4) v))) ∧
    (s.dev.onN Reg.T_SRC.VALID n = false → bitOf v 0 = false →
      exec (.writeSourceEntry (0x200000 + n * 64) v) s = .next (s.after (s.dev.putUnvalid (0x200000 + n * 64) v))) ∧
    (s.dev.onN Reg.T_SRC.VALID n = false → bitOf v 0 = true →
      srcOk (s.dev.putUnvalid (0x200000 + n * 64) v) n = false →
      exec (.writeSourceEntry (0x200000 + n * 64) v) s =
        .next (s.after ((s.dev.putUnvalid (0x200000 + n * 64) v).cause intIng 0 n 0))) ∧
    (s.dev.onN Reg.T_SRC.VALID n = false → bitOf v 0 = true →
      srcOk (s.dev.putUnvalid (0x200000 + n * 64) v) n = true →
      exec (.writeSourceEntry (0x200000 + n * 64) v) s =
        .next (s.after (alnSource s.time n (srcClear n
          ((s.dev.putUnvalid (0x200000 + n * 64) v).setN Reg.T_SRC.VALID n 1)))))) ∧
  ((∀ (s : State) (g : Nat), g < 128 → s.dev.up islIng = true → s.dev.onN Reg.T_GSUB.VALID g = true →
    (gooseSt s.dev g).heard = true → (gooseSt s.dev g).expired = false → (gooseSt s.dev g).talEnd ≤ s.time.loc →
    ∃ t, exec (.gooseTalExpire g) s = .next t ∧ (gooseSt t.dev g).expired = true ∧
      fmAt (fun _ => wMissing) t.dev.ing.words (s.dev.getN Reg.T_GSUB.SRC g * 64 + s.dev.getN Reg.T_GSUB.WORD g) = 0x7FC00001 ∧
      bitOf (t.dev.word 0x70008) 6 = true ∧
      (∀ k, k ≠ s.dev.getN Reg.T_GSUB.SRC g * 64 + s.dev.getN Reg.T_GSUB.WORD g →
        fmAt (fun _ => wMissing) t.dev.ing.words k = fmAt (fun _ => wMissing) s.dev.ing.words k) ∧
      (∀ a, ¬ intakeWord a → a ≠ 0x70008 → t.dev.word a = s.dev.word a)) ∧
  (∀ (s : State) (g : Nat), 128 ≤ g ∨ s.dev.up islIng = false ∨ s.dev.onN Reg.T_GSUB.VALID g = false ∨ (gooseSt s.dev g).heard = false ∨
    (gooseSt s.dev g).expired = true ∨ s.time.loc < (gooseSt s.dev g).talEnd →
    exec (.gooseTalExpire g) s = .next (s.after s.dev)))

/-- R193, R228 to R232 and Table ALN-5: what a block that reaches Roll Call does, once the spreads whose deadlines a step has
passed are closed. While Roll Call does not run it goes without trace; a future report counts in FUTURE; a block of a source
without a region, or too long for it, counts in NOREGION; else it meets the cases of the table at its spread: a second frame
for a present source counts in DUP and changes nothing else, a frame for a spread that has closed is late, one for a slot
held by another spread counts in NOSLOT and sets ALN_INT cause 3, and any other takes its place, opening its spread where
that is not open. R216, R218, R222, R230 and R231: a frame that takes its place in an open spread makes its source present
there, writes the source's region in the Hamper with the frame's STAT, flags and words, and moves no other spread; it is
marked late beyond LATE_MARK and FUTURE after a future report; of a TYPE 3 source whose origin marked it MISSING the STAT is
0x8000. Of degraded time quality it has its words replaced under TQ_POLICY 1, and under TQ_POLICY 2 it is counted and not
written. Where it rests on the model's reading, log entries 63 and 65 say so. -/
def Obligations.RollCallFrames : Prop :=
  ((∀ (s : State), s.dev.aln.inq = [] → exec .alignFrame s = .next (s.after s.dev)) ∧
  (∀ (s : State) (b : AlnBlk) (rest : List AlnBlk) (d : Dev), s.dev.aln.inq = b :: rest →
    d = closeOverdue s.time s.dev.aln.open_.length (s.dev.modAln fun x => { x with inq := rest }) →
    (d.up islAln = false ∨ d.on Reg.ALN_CTRL.EN = false ∨ d.on Reg.ALN_STATUS.RUN = false →
      exec .alignFrame s = .next (s.after d)) ∧
    (d.up islAln = true → d.on Reg.ALN_CTRL.EN = true → d.on Reg.ALN_STATUS.RUN = true →
      (b.future = true → exec .alignFrame s = .next (s.after (futureReport b.src d)) ∧
        (futureReport b.src d).get Reg.ALN_CNT_FUTURE.N = min (d.get Reg.ALN_CNT_FUTURE.N + 1) (2 ^ 32 - 1)) ∧
      (b.future = false → blockK d b = none ∨ srcAligned d b.src = false ∨ d.getN Reg.T_ATTR.RSV b.src < b.words.length →
        exec .alignFrame s = .next (s.after (d.sat Reg.ALN_CNT_NOREGION.N))) ∧
      (∀ k, b.future = false → blockK d b = some k → srcAligned d b.src = true →
        b.words.length ≤ d.getN Reg.T_ATTR.RSV b.src →
        exec .alignFrame s = .next (s.after (settle s.time (arrive s.time k b d)))))) ∧
  (∀ (t : Time) (d : Dev), (∀ sp rest, d.aln.open_ = sp :: rest → overdue t d sp = false) → ∀ n, closeOverdue t n d = d) ∧
  (∀ (t : Time) (k : Nat) (b : AlnBlk) (d e : Dev) (sp : Spread), e = revive k b d →
    e.aln.open_.find? (fun o => o.k == k) = some sp →
    (b.src ∈ sp.present → arrive t k b d = e.sat Reg.ALN_CNT_DUP.N) ∧
    (b.src ∉ sp.present → arrive t k b d = takeFrame sp b e)) ∧
  (∀ (t : Time) (k : Nat) (b : AlnBlk) (d e : Dev), e = revive k b d → e.aln.open_.find? (fun o => o.k == k) = none →
    (k < e.aln.nextK ∨ k < e.aln.firstK ∨ e.aln.drain = true → arrive t k b d = lateFrame t k b e) ∧
    (e.aln.nextK ≤ k → e.aln.firstK ≤ k → e.aln.drain = false → slotTaken e k = true →
      arrive t k b d = (e.sat Reg.ALN_CNT_NOSLOT.N).cause intAln 3 0 0) ∧
    (e.aln.nextK ≤ k → e.aln.firstK ≤ k → e.aln.drain = false → slotTaken e k = false →
      arrive t k b d = takeFrame ⟨k, dueList e k, [], [], []⟩ b (openSpread k e)))) ∧
  (∀ (sp : Spread) (b : AlnBlk) (d : Dev) (pol : Nat), sp ∈ d.aln.open_ →
    pol = (if b.flags.testBit 5 then attrGet d Reg.T_ATTR.TQ_POLICY (spreadNs d sp.k) b.src else 0) →
    (pol ≠ 2 → ∃ e g, takeFrame sp b d = e ∧
        g = (⟨b.src, if srcType d b.src = 3 ∧ b.flags.testBit 0 = true then 0x8000 else b.stat, b.arrNs % 2 ^ 32,
          b.flags ||| (if d.get Reg.ALN_LATE.LATE_MARK ≠ 0 ∧
              spreadNs d sp.k + d.get Reg.ALN_LATE.LATE_MARK * 1000 < b.arrNs then 2 else 0) |||
            (if b.src ∈ sp.future then 4 else 0) ||| (if pol = 1 then 8 else 0),
          if pol = 1 then List.replicate b.words.length wInvalid else b.words⟩ : Region) ∧
        (∃ o ∈ e.aln.open_, o.k = sp.k ∧ b.src ∈ o.present) ∧
        (∀ o ∈ e.aln.open_, o.k ≠ sp.k → o ∈ d.aln.open_) ∧
        (∀ f i, e.getN f i = (writeRegion sp.k g d).getN f i) ∧ e.hmp = (writeRegion sp.k g d).hmp) ∧
    (pol = 2 → ∃ e, takeFrame sp b d = e ∧ e.hmp = d.hmp ∧
        e.get Reg.ALN_CNT_TQDROP.N = min (d.get Reg.ALN_CNT_TQDROP.N + 1) (2 ^ 32 - 1) ∧
        e.aln.open_.map Spread.present = d.aln.open_.map Spread.present))

/-- R211, R213, R222 to R227, R235, R238 and R252: when grid time reaches the next spread instant and its slot is free, the
spread opens with the sources due, in instant order; before that, or while Roll Call opens no spreads, nothing happens. What
may close is closed: an open spread past its deadline, or complete with nothing earlier open, is no longer open, takes the
next sequence number and its instant does not open again. The oldest closed spread gives its slot back when no output
filter, and no rule pass that still waits, needs it; its record ends if it is still being written. R212, R213, R253, R256
and R257: EN of Roll Call going to 1 starts it when GLB_SPLIT.ALIGN is 1; the start needs D slots of S bytes in the ALIGN
partition, and without them EN returns to 0 with FAIL NO_SPACE and ALN_INT cause 1; with them Roll Call runs, with no spread
open, from the first instant at least one period later. EN going to 0 closes every open spread at once and stops Roll Call.
R240 and R241: EN of an output rises only when its entries pass their checks; else EN stays 0, REJ and REASON show it, and
ALN_INT cause 6 is set. An output already enabled is not enabled again. Where it rests on the model's reading, log entries
64, 65 and 66 say so. -/
def Obligations.SpreadLife : Prop :=
  ((∀ (s : State), alnOpens s.dev = true → s.dev.aln.drain = false → spreadNs s.dev s.dev.aln.nextK ≤ s.time.ns →
    slotTaken s.dev s.dev.aln.nextK = false →
    exec .spreadOpen s = .next (s.after (settle s.time ((openSpread s.dev.aln.nextK s.dev).modAln
      fun x => { x with nextK := s.dev.aln.nextK + 1 })))) ∧
  (∀ (s : State), alnOpens s.dev = false ∨ s.dev.aln.drain = true ∨ s.time.ns < spreadNs s.dev s.dev.aln.nextK ∨
    slotTaken s.dev s.dev.aln.nextK = true → exec .spreadOpen s = .next (s.after s.dev)) ∧
  (∀ (d : Dev) (k : Nat), (∀ o ∈ d.aln.open_, o.k ≠ k) →
    ⟨k, dueList d k, [], [], []⟩ ∈ (openSpread k d).aln.open_ ∧ (∀ o ∈ d.aln.open_, o ∈ (openSpread k d).aln.open_) ∧
      (openSpread k d).aln.open_.length = d.aln.open_.length + 1 ∧
      ((d.aln.open_.map Spread.k).Pairwise (· < ·) → ((openSpread k d).aln.open_.map Spread.k).Pairwise (· < ·))) ∧
  (∀ (d : Dev) (k : Nat), (∃ o ∈ d.aln.open_, o.k = k) →
    (openSpread k d).aln.open_.map Spread.k = d.aln.open_.map Spread.k ∧
      (openSpread k d).aln.open_.map Spread.present = d.aln.open_.map Spread.present) ∧
  (∀ (s : State), exec .spreadDeadline s = .next (s.after (settle s.time s.dev)) ∧
    (s.dev.up islAln = false ∨ s.dev.on Reg.ALN_STATUS.RUN = false ∨ (s.dev.aln.open_ = [] ∧ s.dev.aln.drain = false) →
      settle s.time s.dev = s.dev)) ∧
  (∀ (s : State) (sp : Spread), s.dev.up islAln = true → s.dev.on Reg.ALN_STATUS.RUN = true → s.dev.aln.open_ = [sp] →
    s.dev.aln.drain = false →
    overdue s.time s.dev sp = true ∨ (sp.k ≤ s.dev.aln.nextK ∧
      (spreadComplete s.dev sp = true ∨ spreadNs s.dev sp.k + alnWait s.dev ≤ s.time.ns)) →
    ∃ t, exec .spreadDeadline s = .next t ∧ t.dev.aln.open_ = [] ∧ t.dev.aln.closedK = some sp.k ∧
      t.dev.aln.seq = (s.dev.aln.seq + 1) % 2 ^ 32 ∧ t.dev.aln.last = some (spreadNs s.dev sp.k) ∧
      sp.k < t.dev.aln.nextK ∧ (sp.k, s.dev.aln.seq) ∈ t.dev.aln.held) ∧
  (∀ (s : State) (sp : Spread), s.dev.aln.open_ = [sp] → overdue s.time s.dev sp = false →
    s.dev.aln.nextK < sp.k ∨ (spreadComplete s.dev sp = false ∧ s.time.ns < spreadNs s.dev sp.k + alnWait s.dev) →
    exec .spreadDeadline s = .next (s.after s.dev)) ∧
  (∀ (s : State) (k q c : Nat) (rest : List (Nat × Nat)), s.dev.up islAln = true → s.dev.aln.held = (k, q) :: rest →
    s.dev.aln.closedK = some c → k + s.dev.aln.lag ≤ c → (∀ e ∈ s.dev.rul.evalQ, e.k ≠ k) →
    ∃ t, exec .slotRelease s = .next t ∧ t.dev.aln.held = rest ∧ t.dev.aln.open_ = s.dev.aln.open_ ∧
      t.dev.aln.dlv = s.dev.aln.dlv.filter (fun e => e.1 != some k) ∧
      ((∀ e ∈ s.dev.aln.dlv, e.1 ≠ some k) → t = s.after (s.dev.modAln fun x => { x with held := rest }))) ∧
  (∀ (s : State), s.dev.up islAln = false ∨ s.dev.aln.held = [] ∨ s.dev.aln.closedK = none →
    exec .slotRelease s = .next (s.after s.dev)) ∧
  (∀ (s : State) (k q c : Nat) (rest : List (Nat × Nat)), s.dev.aln.held = (k, q) :: rest → s.dev.aln.closedK = some c →
    c < k + s.dev.aln.lag ∨ (∃ e ∈ s.dev.rul.evalQ, e.k = k) → exec .slotRelease s = .next (s.after s.dev))) ∧
  ((∀ (s : State), s.dev.up islAln = true → s.dev.on Reg.ALN_CTRL.EN = true →
    exec .rollCallStart s = .next (s.after s.dev)) ∧
  (∀ (s : State), s.dev.up islAln = true → s.dev.on Reg.ALN_CTRL.EN = false → s.dev.get Reg.GLB_SPLIT.ALIGN ≠ 1 →
    exec .rollCallStart s = .next (s.after (s.dev.set Reg.ALN_CTRL.EN 1))) ∧
  (∀ (s : State), s.dev.up islAln = true → s.dev.on Reg.ALN_CTRL.EN = false → s.dev.get Reg.GLB_SPLIT.ALIGN = 1 →
    exec .rollCallStart s = .next (s.after (alnStart s.time (s.dev.set Reg.ALN_CTRL.EN 1)))) ∧
  (∀ (t : Time) (d : Dev) (z n : Nat), z = ((layOut d).1 + 63) / 64 * 64 →
    n = (spreadRate d * d.get Reg.ALN_WAIT.WAIT + 999999) / 1000000 +
      ((List.range 32).map fun n => if d.onN Reg.ALN_OUTn_CFG.EN n then outLag d n else 0).foldl max
        (d.get Reg.ALN_CTRL.LAG_RSV) + 1 →
    (partBytes d partAlign < z * n → (alnStart t d).get Reg.ALN_CTRL.EN = 0 ∧ (alnStart t d).get Reg.ALN_STATUS.FAIL = stNoSpace ∧
      bitOf ((alnStart t d).word 0x80008) 1 = true ∧ (alnStart t d).aln = d.aln) ∧
    (z * n ≤ partBytes d partAlign → (alnStart t d).on Reg.ALN_STATUS.RUN = true ∧
      (alnStart t d).get Reg.ALN_STATUS.FAIL = stOk ∧ (alnStart t d).get Reg.ALN_CTRL.EN = d.get Reg.ALN_CTRL.EN ∧
      (alnStart t d).aln.open_ = [] ∧ (alnStart t d).aln.nextK = firstSpread t d ∧
      (alnStart t d).aln.firstK = firstSpread t d ∧ (alnStart t d).aln.held = [])) ∧
  (∀ (s : State), s.dev.up islAln = true → s.dev.aln.open_ = [] →
    exec .rollCallStop s = .next (s.after (rulTakeMode s.time (((s.dev.modAln fun x => { x with drain := false }).set
      Reg.ALN_CTRL.EN 0).set Reg.ALN_STATUS.RUN 0)))) ∧
  (∀ (s : State), s.dev.up islAln = true → ∃ t, exec .rollCallStop s = .next t ∧ t.dev.on Reg.ALN_CTRL.EN = false ∧
    t.dev.on Reg.ALN_STATUS.RUN = false ∧ t.dev.aln.drain = false)) ∧
  ((∀ (s : State) (n : Nat), 32 ≤ n → s.dev.up islAln = true → exec (.outputEnable n) s = .next (s.after s.dev)) ∧
  ∀ (s : State) (n : Nat), n < 32 → s.dev.up islAln = true →
    (s.dev.onN Reg.ALN_OUTn_CFG.EN n = true → exec (.outputEnable n) s = .next (s.after s.dev)) ∧
    (s.dev.onN Reg.ALN_OUTn_CFG.EN n = false → outAccepted (outCheck s.dev n) = false →
      exec (.outputEnable n) s = .next (s.after (outRefuse n (outCheck s.dev n) s.dev)) ∧
      (outRefuse n (outCheck s.dev n) s.dev).getN Reg.ALN_OUTn_CFG.EN n = 0 ∧
      (outRefuse n (outCheck s.dev n) s.dev).getN Reg.ALN_OUTn_STAT.REJ n = 1 ∧
      bitOf ((outRefuse n (outCheck s.dev n) s.dev).word 0x80008) 6 = true) ∧
    (s.dev.onN Reg.ALN_OUTn_CFG.EN n = false → outAccepted (outCheck s.dev n) = true →
      ∃ t, exec (.outputEnable n) s = .next t ∧ t.dev.onN Reg.ALN_OUTn_CFG.EN n = true ∧
        t.dev.getN Reg.ALN_OUTn_STAT.REASON n = outCheck s.dev n ∧
        t.dev.getN Reg.ALN_OUTn_LAG.LAG n = outLag s.dev n % 2 ^ Reg.ALN_OUTn_LAG.LAG.width ∧
        (tget t.dev.aln.outs n).lag = outLag s.dev n ∧ (tget t.dev.aln.outs n).since = s.time.ns ∧
        t.dev.onN Reg.ALN_OUTn_STAT.ON n = !s.dev.onN Reg.ALN_OUTn_CFG.CMD_EN n ∧
        (∀ m, m < 32 → m ≠ n → t.dev.getN Reg.ALN_OUTn_CFG.EN m = s.dev.getN Reg.ALN_OUTn_CFG.EN m)))

/-- R265 and R266: EN of the reference starts its start-up time; REF_OK rises 2 ms later, 100 µs later with an external
reference, and not before. EN written 1 again starts nothing anew, and a reference that is off is never ready. R272 and R275
to R277: GO of a converter that is not enabled, runs or is armed changes nothing but ADC_INT cause 4; GO with a list that
the walk refuses also shows REJECTED, and one of an END entry that asks for no conversion SKIPPED_ZERO; GO with any other
good list arms the converter for its target. An armed converter waits for its target, rounded up to its slot grid, starts on
it with OK, starts late at the next slot boundary within LATE_TOL, and else is EXPIRED. STOP disarms an armed converter with
REJECTED and ends a running one at its next slot boundary. R264, R270, R271, R277 and R279: a slot boundary of a converter
that does not run, or whose next boundary has not come, does nothing; a stopping converter halts there; else the Itinerary
advances and the slot converts, or idles in the entry's DELAY. A conversion that lies in the settling time, or comes before
the reference is ready, is invalid and counted. R280 to R282 and R285: the oldest result of a converter is delivered: to the
lane it names when that lane takes the converters, else it counts in NOLANE; a diagnostic record joins the diagnostic
buffer, or is counted when the ring has no free buffer. The buffer leaves 100 µs after its first record. Where it rests on
the model's reading, log entries 67 and 68 say so. -/
def Obligations.Converters : Prop :=
  ((∀ (s : State), s.dev.up islRaw = true → s.dev.on Reg.ADC_REF.EN = false →
    ∃ t, exec .refEnable s = .next t ∧ t.dev.on Reg.ADC_REF.EN = true ∧ t.dev.adc.refFrom = some s.time.loc ∧
      (∀ a, ¬ intakeWord a → a ≠ 0xA0004 → t.dev.word a = s.dev.word a)) ∧
  (∀ (s : State), s.dev.up islRaw = true → s.dev.on Reg.ADC_REF.EN = true → exec .refEnable s = .next (s.after s.dev)) ∧
  (∀ (s : State) (f : Nat), s.dev.up islRaw = true → s.dev.on Reg.ADC_REF.EN = true → s.dev.adc.refFrom = some f →
    ((if s.dev.on Reg.ADC_REF.EXT then f + 100000 else f + 2000000) ≤ s.time.loc →
      exec .refReady s = .next (s.after (s.dev.set Reg.ADC_STATUS.REF_OK 1))) ∧
    (s.time.loc < (if s.dev.on Reg.ADC_REF.EXT then f + 100000 else f + 2000000) →
      exec .refReady s = .next (s.after s.dev))) ∧
  (∀ (s : State), s.dev.up islRaw = false ∨ s.dev.on Reg.ADC_REF.EN = false ∨ s.dev.adc.refFrom = none →
    exec .refReady s = .next (s.after s.dev))) ∧
  ((∀ (s : State) (n : Nat), n < 2 → s.dev.up islRaw = true →
    (s.dev.onN Reg.ADC_CVn_CTRL.EN n = false ∨ cvRuns s.dev n = true ∨ cvArmed s.dev n = true →
      exec (.adcGo n) s = .next (s.after (s.dev.cause intAdc 4 0 0))) ∧
    (s.dev.onN Reg.ADC_CVn_CTRL.EN n = true → cvRuns s.dev n = false → cvArmed s.dev n = false →
      (cvWalk s.dev n = none → exec (.adcGo n) s =
        .next (s.after ((s.dev.setN Reg.ADC_CVn_STAT.START_STATUS n stRejected).cause intAdc 4 0 0))) ∧
      (∀ es len, cvWalk s.dev n = some (es, len) →
        (s.dev.getN Reg.T_ITIN.REPEAT (s.dev.getN Reg.ADC_CVn_LIST.START n) ≠ 0 ∨
            s.dev.getN Reg.T_ITIN.OP (s.dev.getN Reg.ADC_CVn_LIST.START n) ≠ 2 →
          ∃ t, exec (.adcGo n) s = .next t ∧ cvArmed t.dev n = true ∧ cvRuns t.dev n = false ∧
            (t.dev.cv n).walked = es ∧ (t.dev.cv n).armNs = s.time.ns ∧
            (t.dev.cv n).target = s.dev.getN Reg.ADC_CVn_TSTART.ST n + 2 ^ 32 * s.dev.getN Reg.ADC_CVn_TEPOCH.EPOCH n ∧
            t.dev.cv (1 - n) = s.dev.cv (1 - n)) ∧
        (s.dev.getN Reg.T_ITIN.REPEAT (s.dev.getN Reg.ADC_CVn_LIST.START n) = 0 →
            s.dev.getN Reg.T_ITIN.OP (s.dev.getN Reg.ADC_CVn_LIST.START n) = 2 →
          ∃ t, exec (.adcGo n) s = .next t ∧ cvArmed t.dev n = false ∧
            t.dev.getN Reg.ADC_CVn_STAT.START_STATUS n = stSkipped)))) ∧
  (∀ (s : State) (n : Nat), 2 ≤ n ∨ s.dev.up islRaw = false ∨ cvArmed s.dev n = false →
    exec (.adcStart n) s = .next (s.after s.dev)) ∧
  (∀ (s : State) (n : Nat), 2 ≤ n → exec (.adcGo n) s = .next (s.after s.dev) ∧ exec (.adcStop n) s = .next (s.after s.dev)) ∧
  (∀ (s : State) (n : Nat) (v : Verdict), n < 2 → s.dev.up islRaw = true → cvArmed s.dev n = true →
    verdictOf ((cvTarget s.time n s.dev : Int) - s.time.ns) (tickSpan s.time s.dev) (s.dev.cv n).tol = v →
    (v = .wait → exec (.adcStart n) s = .next (s.after s.dev)) ∧
    (v = .expired → exec (.adcStart n) s = .next (s.after (((s.dev.set (fArmed n) 0).setN Reg.ADC_CVn_STAT.START_STATUS n
      stExpired).cause intAdc n 0 stExpired))) ∧
    (v = .ok ∨ v = .late → ∃ t, exec (.adcStart n) s = .next t ∧ cvArmed t.dev n = false ∧ cvRuns t.dev n = true ∧
      t.dev.getN Reg.ADC_CVn_STAT.START_STATUS n = v.status ∧ t.dev.getN Reg.ADC_CVn_PASS.N n = 0 ∧
      (t.dev.cv n).next = (if v = .ok then cvTarget s.time n s.dev else slotUp (cvSlot s.dev n) s.time.ns) ∧
      bitOf (t.dev.word 0xA000C) n = true)) ∧
  (∀ (s : State) (n : Nat), n < 2 → s.dev.up islRaw = true →
    (cvArmed s.dev n = true → exec (.adcStop n) s =
      .next (s.after ((s.dev.set (fArmed n) 0).setN Reg.ADC_CVn_STAT.START_STATUS n stRejected))) ∧
    (cvArmed s.dev n = false → cvRuns s.dev n = true →
      exec (.adcStop n) s = .next (s.after (s.dev.modCv n fun c => { c with stopping := true }))) ∧
    (cvArmed s.dev n = false → cvRuns s.dev n = false → exec (.adcStop n) s = .next (s.after s.dev)))) ∧
  ((∀ (s : State) (n : Nat) (x : AdcSample), 2 ≤ n ∨ s.dev.up islRaw = false ∨ cvRuns s.dev n = false ∨ s.time.ns < (s.dev.cv n).next →
    exec (.adcSlot n x) s = .next (s.after s.dev)) ∧
  (∀ (s : State) (n : Nat) (x : AdcSample), n < 2 → s.dev.up islRaw = true → cvRuns s.dev n = true →
    (s.dev.cv n).next ≤ s.time.ns → (s.dev.cv n).stopping = true →
    exec (.adcSlot n x) s = .next (s.after (cvHalt n s.dev)) ∧ cvRuns (cvHalt n s.dev) n = false) ∧
  (∀ (s : State) (n : Nat) (x : AdcSample), n < 2 → s.dev.up islRaw = true → cvRuns s.dev n = true →
    (s.dev.cv n).next ≤ s.time.ns → (s.dev.cv n).stopping = false →
    let d := itinAdvance n 256 s.dev
    (cvRuns d n = false → exec (.adcSlot n x) s = .next (s.after d)) ∧
    (cvRuns d n = true → (d.cv n).reps < d.getN Reg.T_ITIN.REPEAT (cvPos d n) →
      exec (.adcSlot n x) s = .next (s.after (convert n (cvPos d n) (s.dev.cv n).next x
        (d.modCv n fun c => { c with next := (s.dev.cv n).next + cvSlot s.dev n })))) ∧
    (cvRuns d n = true → d.getN Reg.T_ITIN.REPEAT (cvPos d n) ≤ (d.cv n).reps →
      ∃ t, exec (.adcSlot n x) s = .next t ∧ (t.dev.cv n).idle = (d.cv n).idle + 1 ∧
        (t.dev.cv n).next = (s.dev.cv n).next + cvSlot s.dev n ∧ (t.dev.cv n).due = (d.cv n).due)) ∧
  (∀ (d : Dev) (n : Nat), (d.cv n).reps < d.getN Reg.T_ITIN.REPEAT (cvPos d n) ∨
    (d.cv n).idle < d.getN Reg.T_ITIN.DELAY (cvPos d n) → itinAdvance n 256 d = d) ∧
  (∀ (d : Dev) (n e b : Nat) (x : AdcSample), n < 2 →
    let bad := !d.on Reg.ADC_STATUS.REF_OK || decide ((d.cv n).reps < d.getN Reg.ADC_CVn_SETTLE.N n) || (d.cv n).stepped
    ((convert n e b x d).cv n).reps = (d.cv n).reps + 1 ∧ ((convert n e b x d).cv n).stepped = false ∧
      (bad = true → ((convert n e b x d).cv n).valid = (d.cv n).valid ∧
        ((convert n e b x d).cv n).sumCode = (d.cv n).sumCode ∧
        (convert n e b x d).getN Reg.ADC_CVn_CNT_INV.N n = min (d.getN Reg.ADC_CVn_CNT_INV.N n + 1) (2 ^ 32 - 1)) ∧
      (bad = false → ((convert n e b x d).cv n).valid = (d.cv n).valid + 1 ∧
        ((convert n e b x d).cv n).sumCode = (d.cv n).sumCode + max (-131072) (min x.code 131071) ∧
        (convert n e b x d).getN Reg.ADC_CVn_CNT_INV.N n = d.getN Reg.ADC_CVn_CNT_INV.N n))) ∧
  ((∀ (s : State) (n : Nat), 2 ≤ n ∨ s.dev.up islRaw = false ∨ (s.dev.cv n).due = [] →
    exec (.adcSampleDeliver n) s = .next (s.after s.dev)) ∧
  (∀ (s : State) (n : Nat) (x : AdcDue) (rest : List AdcDue), n < 2 → s.dev.up islRaw = true →
    (s.dev.cv n).due = x :: rest →
    ∃ t, exec (.adcSampleDeliver n) s = .next t ∧ (t.dev.cv n).due = rest ∧
      (∀ lane code raw q, x.sample = some (lane, code, raw, q) → s.dev.getN Reg.T_LANE.SRC_SEL lane ≠ 1 →
        t.dev.getN Reg.ADC_CVn_CNT_NOLANE.N n = min (s.dev.getN Reg.ADC_CVn_CNT_NOLANE.N n + 1) (2 ^ 32 - 1) ∧
        t.dev.get Reg.FLT_CNT_NOLANE.N = min (s.dev.get Reg.FLT_CNT_NOLANE.N + 1) (2 ^ 32 - 1) ∧
        t.dev.flt.lanes = s.dev.flt.lanes) ∧
      (∀ lane code raw q, x.sample = some (lane, code, raw, q) → s.dev.getN Reg.T_LANE.SRC_SEL lane = 1 →
        (tget t.dev.flt.lanes lane).inq = (tget s.dev.flt.lanes lane).inq ++
          [⟨none, qInst q, (code.getD 0) * 16384, if code.isNone then some wSettling else none, false, raw⟩] ∧
        (∀ m, m ≠ lane → tget t.dev.flt.lanes m = tget s.dev.flt.lanes m)) ∧
      (x.diag = none → t.dev.adc.diag = s.dev.adc.diag ∧ t.dev.hif.rings = s.dev.hif.rings) ∧
      (∀ r, x.diag = some r → x.sample = none →
        t = s.after (diagPut s.time r (s.dev.modCv n fun c => { c with due := rest })))) ∧
  (∀ (s : State), s.dev.up islRaw = true → (s.dev.adc.diagFrom + 100000 ≤ s.time.loc →
      exec .diagFlush s = .next (s.after (diagSend s.dev)) ∧ (diagSend s.dev).adc.diag = []) ∧
    (s.time.loc < s.dev.adc.diagFrom + 100000 → exec .diagFlush s = .next (s.after s.dev))) ∧
  (∀ (s : State), s.dev.up islRaw = false → exec .diagFlush s = .next (s.after s.dev)))

/-- R289, R290, R294, R295 and R312: a sample at a lane's input. A lane that is off, or does not take the sample's source,
counts it in NOLANE; a second sample for the position accepted last counts in DUPSMP and leaves the lane as it is; the
sample of the next position enters the chain; after a synchronising reset the lane restarts at a position of its grid and
counts the others in SYNC. A lane that hears nothing for IN_TMO goes to its timeout state. R311, R315 and R316: a lane's EN
rises only when the lane passes its checks; EN_STATUS shows the outcome, and a refused lane stays off with FLT_INT cause 0.
A lane that starts waits for its first sample, with the bank its entry names. EN written 0 turns the lane off; a lane with
FS 0 is on without a chain. A synchronising reset clears the lane's history and ends a fade on its new bank. R317 to R322:
GO gives every named lane the request or refuses it lane by lane; a bank whose set is not valid, or has another length, is
refused with REJECTED; a new request overwrites a pending one. A pending swap waits for its target, starts at the first
centre at or after it, and expires beyond its tolerance; a fade that has blended its last estimate leaves the new bank
active. Where it rests on the model's reading, log entries 69 and 71 say so. -/
def Obligations.RawLanes : Prop :=
  ((∀ (s : State) (n : Nat), 512 ≤ n ∨ s.dev.up islRaw = false ∨ (s.dev.lane n).inq = [] →
    exec (.laneSample n) s = .next (s.after s.dev)) ∧
  (∀ (s : State) (n : Nat) (x : LaneSmp) (rest : List LaneSmp), n < 512 → s.dev.up islRaw = true →
    (s.dev.lane n).inq = x :: rest →
    ∃ d, d = s.dev.modLane n (fun l => { l with inq := rest }) ∧
      (laneOn s.dev n = false → exec (.laneSample n) s = .next (s.after (d.sat Reg.FLT_CNT_NOLANE.N))) ∧
      (x.stream = none → s.dev.getN Reg.T_LANE.SRC_SEL n ≠ 1 →
        exec (.laneSample n) s = .next (s.after (d.sat Reg.FLT_CNT_NOLANE.N))) ∧
      (∀ v, x.stream = some v → s.dev.getN Reg.T_LANE.SRC_SEL n ≠ 2 ∨ s.dev.getN Reg.T_LANE.SV_STREAM n ≠ v →
        exec (.laneSample n) s = .next (s.after (d.sat Reg.FLT_CNT_NOLANE.N))) ∧
      ((x.stream = none ∧ s.dev.getN Reg.T_LANE.SRC_SEL n = 1) ∨
          (x.stream = some (s.dev.getN Reg.T_LANE.SV_STREAM n) ∧ s.dev.getN Reg.T_LANE.SRC_SEL n = 2) →
        laneOn s.dev n = true →
        (s.dev.on Reg.FLT_CTRL.EN = true → laneFs s.dev n ≠ 0 → exec (.laneSample n) s = .next (s.after (laneTake n x d))) ∧
        (s.dev.on Reg.FLT_CTRL.EN = false ∨ laneFs s.dev n = 0 → exec (.laneSample n) s = .next (s.after d)))) ∧
  (∀ (d : Dev) (n : Nat) (x : LaneSmp), d.getN Reg.T_LANESTAT.STATE n = 3 →
    laneTake n x d = laneRestart n (lanePos (laneFs d n) x.inst) x
      ((laneSync n (d.modLane n fun l => { l with tq := x.tq })).cause intFlt 3 0 0)) ∧
  (∀ (d : Dev) (n p q : Nat) (x : LaneSmp), d.getN Reg.T_LANESTAT.STATE n ≠ 3 → (d.lane n).p0 = some p →
    (d.lane n).q = some q →
    (lanePos (laneFs d n) x.inst = q → laneTake n x d = (d.modLane n fun l => { l with tq := x.tq }).sat Reg.FLT_CNT_DUPSMP.N) ∧
    (lanePos (laneFs d n) x.inst = q + 1 → laneTake n x d =
      laneFeed n (q + 1) x (d.modLane n fun l => { l with tq := x.tq }))) ∧
  (∀ (d : Dev) (n : Nat) (x : LaneSmp), d.getN Reg.T_LANESTAT.STATE n ≠ 3 → (d.lane n).p0 = none →
    lanePos (laneFs d n) x.inst % max 1 (restartStep d n) ≠ 0 →
    laneTake n x d = (d.modLane n fun l => { l with tq := x.tq }).sat Reg.FLT_CNT_SYNC.N) ∧
  (∀ (s : State) (n : Nat), n < 512 → s.dev.up islRaw = true → laneOn s.dev n = true → laneFs s.dev n ≠ 0 →
    s.dev.on Reg.FLT_CTRL.EN = true →
    ((s.dev.lane n).lastLoc + s.dev.get Reg.FLT_CTRL.IN_TMO * 1000 ≤ s.time.loc →
      exec (.laneInputTimeout n) s = .next (s.after (laneState n 3 s.dev)) ∧
        (laneState n 3 s.dev).getN Reg.T_LANESTAT.STATE n = 3) ∧
    (s.time.loc < (s.dev.lane n).lastLoc + s.dev.get Reg.FLT_CTRL.IN_TMO * 1000 →
      exec (.laneInputTimeout n) s = .next (s.after s.dev))) ∧
  (∀ (s : State) (n : Nat), 512 ≤ n ∨ s.dev.up islRaw = false ∨ laneOn s.dev n = false ∨ laneFs s.dev n = 0 ∨
    s.dev.on Reg.FLT_CTRL.EN = false → exec (.laneInputTimeout n) s = .next (s.after s.dev))) ∧
  ((∀ (s : State) (n : Nat) (v : Word32), n < 512 → s.dev.up islRaw = true → laneOn s.dev n = false → bitOf v 0 = true →
    ∃ d, d = s.dev.putUnvalid (0x270000 + n * 64) v ∧
      (laneCheck d n ≠ stOk → laneCheck d n ≠ stSkipped → exec (.laneEnable n v) s =
        .next (s.after ((d.setN Reg.T_LANESTAT.EN_STATUS n (laneCheck d n)).cause intFlt 0 0 0))) ∧
      (laneCheck d n = stOk → ∃ t, exec (.laneEnable n v) s = .next t ∧ laneOn t.dev n = true ∧
        t.dev.getN Reg.T_LANESTAT.EN_STATUS n = stOk ∧ t.dev.getN Reg.T_LANESTAT.STATE n = 1 ∧
        (t.dev.lane n).active = d.getN Reg.T_LANE.BANK n ∧ (t.dev.lane n).fade = none ∧ (t.dev.lane n).sync = true ∧
        (∀ m, m < 512 → m ≠ n → laneOn t.dev m = laneOn s.dev m ∧ t.dev.lane m = s.dev.lane m)) ∧
      (laneCheck d n = stSkipped → ∃ t, exec (.laneEnable n v) s = .next t ∧ laneOn t.dev n = true ∧
        t.dev.getN Reg.T_LANESTAT.EN_STATUS n = stSkipped ∧ (t.dev.lane n).active = d.getN Reg.T_LANE.BANK n)) ∧
  (∀ (s : State) (n : Nat) (v : Word32), n < 512 → s.dev.up islRaw = true → laneOn s.dev n = false → bitOf v 0 = false →
    exec (.laneEnable n v) s = .next (s.after (s.dev.putUnvalid (0x270000 + n * 64) v))) ∧
  (∀ (s : State) (n : Nat) (v : Word32), n < 512 → s.dev.up islRaw = true → laneOn s.dev n = true → bitOf v 0 = true →
    exec (.laneEnable n v) s = .next (s.after (s.dev.cause intFlt 0 0 0))) ∧
  (∀ (s : State) (n : Nat) (v : Word32), 512 ≤ n → exec (.laneEnable n v) s = .next (s.after s.dev) ∧
    exec (.laneSyncRequest n) s = .next (s.after s.dev)) ∧
  (∀ (s : State) (n : Nat) (v : Word32), n < 512 → s.dev.up islRaw = true → laneOn s.dev n = true → bitOf v 0 = false →
    ∃ t, exec (.laneEnable n v) s = .next t ∧ laneOn t.dev n = false ∧ t.dev.getN Reg.T_LANESTAT.STATE n = 0 ∧
      (t.dev.lane n).outs = [] ∧ (∀ m, m < 512 → m ≠ n → laneOn t.dev m = laneOn s.dev m)) ∧
  (∀ (s : State) (n : Nat), n < 512 → s.dev.up islRaw = true →
    (laneOn s.dev n = true → exec (.laneSyncRequest n) s = .next (s.after (laneSync n s.dev))) ∧
    (laneOn s.dev n = false → exec (.laneSyncRequest n) s = .next (s.after s.dev))) ∧
  (∀ (d : Dev) (n : Nat), n < 512 → ((laneSync n d).lane n).p0 = none ∧ ((laneSync n d).lane n).sync = true ∧
    ((laneSync n d).lane n).fir = [] ∧ ((laneSync n d).lane n).fade = none ∧
    ((laneSync n d).lane n).pend = (d.lane n).pend ∧ ((laneSync n d).lane n).outs = (d.lane n).outs ∧
    (laneSync n d).getN Reg.T_LANESTAT.STATE n = 1 ∧ (laneSync n d).getN Reg.T_LANESTAT.FADING n = 0)) ∧
  ((∀ (s : State) (v : Word32), s.dev.up islRaw = true →
    (bitOf v 31 = false → exec (.swapGo v) s = .next (s.after (s.dev.putWord 0xB0020 (v &&& 0x7FFFFFFF#32)))) ∧
    (bitOf v 31 = true → (s.dev.putWord 0xB0020 (v &&& 0x7FFFFFFF#32)).get Reg.FLT_SWAP_CMD.NLANE = 0 →
      exec (.swapGo v) s = .next (s.after ((s.dev.putWord 0xB0020 (v &&& 0x7FFFFFFF#32)).set Reg.FLT_SWAP_RES.STATUS
        stSkipped))) ∧
    (bitOf v 31 = true → 32 < (s.dev.putWord 0xB0020 (v &&& 0x7FFFFFFF#32)).get Reg.FLT_SWAP_CMD.NLANE →
      exec (.swapGo v) s = .next (s.after ((s.dev.putWord 0xB0020 (v &&& 0x7FFFFFFF#32)).set Reg.FLT_SWAP_RES.STATUS
        stRejected))) ∧
    (∀ (d : Dev) (r : SwapReq) (a : Bool × Dev), bitOf v 31 = true → d = s.dev.putWord 0xB0020 (v &&& 0x7FFFFFFF#32) →
      d.get Reg.FLT_SWAP_CMD.NLANE ≠ 0 → d.get Reg.FLT_SWAP_CMD.NLANE ≤ 32 →
      r = ⟨d.get Reg.FLT_SWAP_CMD.BANK, d.get Reg.FLT_SWAP_T.ST, d.get Reg.FLT_SWAP_TE.EPOCH,
        d.get Reg.FLT_SWAP_TE.LATE_TOL⟩ →
      a = (List.range (d.get Reg.FLT_SWAP_CMD.NLANE)).foldl (fun (a : Bool × Dev) i =>
        if d.get Reg.FLT_SWAP_CMD.LANE + i < 512 then
          (a.1 && (swapTake (d.get Reg.FLT_SWAP_CMD.LANE + i) r a.2).1, (swapTake (d.get Reg.FLT_SWAP_CMD.LANE + i) r a.2).2)
        else (false, a.2)) (true, d) →
      exec (.swapGo v) s = .next (s.after (a.2.set Reg.FLT_SWAP_RES.STATUS (if a.1 then stOk else stRejected))))) ∧
  (∀ (d : Dev) (n : Nat) (r : SwapReq), n < 512 →
    (laneOn d n = false ∨ setValid d (bankSet d n r.bank) = false ∨
        setTaps d (bankSet d n r.bank) ≠ setTaps d (laneSet d n) →
      swapTake n r d = (false, d.setN Reg.T_LANESTAT.SWAP_STATUS n stRejected)) ∧
    (laneOn d n = true → setValid d (bankSet d n r.bank) = true →
      setTaps d (bankSet d n r.bank) = setTaps d (laneSet d n) →
      (swapTake n r d).1 = true ∧ ((swapTake n r d).2.lane n).pend = some r ∧
        (swapTake n r d).2.getN Reg.T_LANESTAT.PENDING n = 1 ∧
        (swapTake n r d).2.onN Reg.T_LANESTAT.OVERWRITTEN n = (d.lane n).pend.isSome ∧
        (∀ m, m ≠ n → (swapTake n r d).2.lane m = d.lane m))) ∧
  (∀ (s : State) (n : Nat), 512 ≤ n ∨ s.dev.up islRaw = false ∨ (s.dev.lane n).fade = none →
    exec (.fadeEnd n) s = .next (s.after s.dev)) ∧
  (∀ (s : State) (n b k f : Nat), n < 512 → s.dev.up islRaw = true → (s.dev.lane n).fade = some (b, k, f) →
    (k < f → exec (.fadeEnd n) s = .next (s.after s.dev)) ∧
    (f ≤ k → ∃ t, exec (.fadeEnd n) s = .next t ∧ (t.dev.lane n).fade = none ∧ (t.dev.lane n).active = b ∧
      t.dev.getN Reg.T_LANESTAT.ACTIVE n = b % 2 ∧ t.dev.getN Reg.T_LANESTAT.FADING n = 0 ∧
      bitOf (t.dev.word 0xB0008) 4 = true)) ∧
  (∀ (s : State) (n c : Nat), n < 512 → s.dev.up islRaw = true → nextCentre s.dev n = some c →
    exec (.swapStart n) s = .next (s.after (swapStart n c (fadeEnd n s.dev))) ∧
    ((s.dev.lane n).pend = none → (s.dev.lane n).fade = none → swapStart n c (fadeEnd n s.dev) = s.dev)) ∧
  (∀ (s : State) (n : Nat), 512 ≤ n ∨ s.dev.up islRaw = false ∨ nextCentre s.dev n = none →
    exec (.swapStart n) s = .next (s.after s.dev)) ∧
  (∀ (d : Dev) (n c : Nat) (p : SwapReq) (late : Nat → Int), (d.lane n).pend = some p → (d.lane n).fade = none →
    (∀ k, late k = if d.tkp.extend then sdiff (2 ^ 48) (k * 1000000000 / max 1 (laneRe d n)) (p.epoch * 2 ^ 32 + p.target)
      else sdiff (2 ^ 32) (k * 1000000000 / max 1 (laneRe d n)) p.target) →
    (late c < 0 → swapStart n c d = d) ∧
    (0 ≤ late c → late (c - 1) < 0 → p.bank ≠ (d.lane n).active →
      ((swapStart n c d).lane n).pend = none ∧ (swapStart n c d).getN Reg.T_LANESTAT.SWAP_STATUS n = stOk ∧
      (d.getN Reg.T_LANE.FADE n = 0 → ((swapStart n c d).lane n).active = p.bank ∧ ((swapStart n c d).lane n).fade = none) ∧
      (d.getN Reg.T_LANE.FADE n ≠ 0 → ((swapStart n c d).lane n).active = (d.lane n).active ∧
        ((swapStart n c d).lane n).fade = some (p.bank, 0, d.getN Reg.T_LANE.FADE n))) ∧
    (0 ≤ late (c - 1) → (p.tol * 1000 : Nat) < late c →
      swapStart n c d = (swapDone n stExpired d).cause intFlt 5 0 stExpired)))

/-- R301 and R323: a coefficient set named by a lane in use is not written and FLT_INT cause 0 is set; VALID of a set or of a
group rises only when its checks pass; a group that becomes valid starts with no block written. A group that is valid takes
no write but one that clears VALID. R324 to R326: a group writes the block of its next instant when every lane that is on
has its output for it, or when IN_TMO has passed since the last sample that the instant needs; the block goes to Roll Call
while GLB_SPLIT.ALIGN is 1, its words two per lane and then FREQ and ROCOF, and the group's lanes give up their outputs up
to that instant; an output for an instant already written is dropped. Where it rests on the model's reading, log entries 39
and 72 say so. -/
def Obligations.LaneGroups : Prop :=
  ((∀ (s : State) (c : Nat) (v : Word32), c < 64 → s.dev.up islRaw = true →
    (setBusy s.dev c = true → exec (.coefSetValidate c v) s = .next (s.after (s.dev.cause intFlt 0 0 0))) ∧
    (setBusy s.dev c = false → bitOf v 0 = false →
      exec (.coefSetValidate c v) s = .next (s.after (s.dev.putWord (Reg.T_FIR.VALID.reg.addr c) v))) ∧
    (setBusy s.dev c = false → bitOf v 0 = true → setOk (s.dev.putUnvalid (Reg.T_FIR.VALID.reg.addr c) v) c = true →
      ∃ t, exec (.coefSetValidate c v) s = .next t ∧ setValid t.dev c = true ∧
        (∀ a, ¬ intakeWord a → a ≠ Reg.T_FIR.VALID.reg.addr c → t.dev.word a = s.dev.word a)) ∧
    (setBusy s.dev c = false → bitOf v 0 = true → setOk (s.dev.putUnvalid (Reg.T_FIR.VALID.reg.addr c) v) c = false →
      ∃ t, exec (.coefSetValidate c v) s = .next t ∧ setValid t.dev c = false)) ∧
  (∀ (s : State) (g : Nat) (v : Word32), g < 128 → s.dev.up islRaw = true → s.dev.onN Reg.T_GROUP.VALID g = false →
    bitOf v 0 = true →
    (groupOk (s.dev.putUnvalid (Reg.T_GROUP.VALID.reg.addr g) v) g = true →
      ∃ t, exec (.groupValidate g v) s = .next t ∧ t.dev.onN Reg.T_GROUP.VALID g = true ∧
        tget t.dev.flt.groups g = ⟨none, s.time.loc⟩) ∧
    (groupOk (s.dev.putUnvalid (Reg.T_GROUP.VALID.reg.addr g) v) g = false →
      ∃ t, exec (.groupValidate g v) s = .next t ∧ t.dev.onN Reg.T_GROUP.VALID g = false ∧
        bitOf (t.dev.word 0xB0008) 0 = true)) ∧
  (∀ (s : State) (g : Nat) (v : Word32), g < 128 → s.dev.up islRaw = true → s.dev.onN Reg.T_GROUP.VALID g = false →
    bitOf v 0 = false →
    exec (.groupValidate g v) s = .next (s.after (s.dev.putUnvalid (Reg.T_GROUP.VALID.reg.addr g) v))) ∧
  (∀ (s : State) (g : Nat) (v : Word32), g < 128 → s.dev.up islRaw = true → s.dev.onN Reg.T_GROUP.VALID g = true →
    ∃ t, exec (.groupValidate g v) s = .next t ∧ t.dev.onN Reg.T_GROUP.VALID g = bitOf v 0 ∧
      t.dev.getN Reg.T_GROUP.FIRST g = s.dev.getN Reg.T_GROUP.FIRST g ∧
      t.dev.getN Reg.T_GROUP.COUNT g = s.dev.getN Reg.T_GROUP.COUNT g ∧ t.dev.flt = s.dev.flt) ∧
  (∀ (s : State) (n : Nat) (v : Word32), (64 ≤ n → exec (.coefSetValidate n v) s = .next (s.after s.dev)) ∧
    (128 ≤ n → exec (.groupValidate n v) s = .next (s.after s.dev)))) ∧
  ((∀ (s : State) (g : Nat), groupDue s.dev g = none →
    exec (.groupBlockWrite g) s = .next (s.after s.dev) ∧ exec (.groupBlockTimeout g) s = .next (s.after s.dev)) ∧
  (∀ (s : State) (g m : Nat), groupDue s.dev g = some m → (∀ k, (tget s.dev.flt.groups g).done = some k → k < m) →
    ((∀ n ∈ groupLanes s.dev g, laneOn s.dev n = true → (outFor s.dev n m).isSome = true) →
      exec (.groupBlockWrite g) s = .next (s.after (groupBlock s.time g m s.dev))) ∧
    ((∃ n ∈ groupLanes s.dev g, laneOn s.dev n = true ∧ (outFor s.dev n m).isSome = false) →
      exec (.groupBlockWrite g) s = .next (s.after s.dev)) ∧
    (instNs m (max 1 (srcRate s.dev (s.dev.getN Reg.T_GROUP.SLOT g))) + groupXns s.dev g +
        s.dev.get Reg.FLT_CTRL.IN_TMO * 1000 ≤ s.time.ns →
      exec (.groupBlockTimeout g) s = .next (s.after (groupBlock s.time g m s.dev))) ∧
    (s.time.ns < instNs m (max 1 (srcRate s.dev (s.dev.getN Reg.T_GROUP.SLOT g))) + groupXns s.dev g +
        s.dev.get Reg.FLT_CTRL.IN_TMO * 1000 →
      exec (.groupBlockTimeout g) s = .next (s.after s.dev))) ∧
  (∀ (s : State) (g m k : Nat), groupDue s.dev g = some m → (tget s.dev.flt.groups g).done = some k → m ≤ k →
    exec (.groupBlockWrite g) s = .next (s.after (groupStale g m s.dev)) ∧
      exec (.groupBlockTimeout g) s = .next (s.after (groupStale g m s.dev))) ∧
  (∀ (t : Time) (g m : Nat) (d : Dev), alignTakes d = true →
    (groupBlock t g m d).regs = d.regs ∧ (tget (groupBlock t g m d).flt.groups g).done = some m ∧
      ∃ b, (groupBlock t g m d).aln.inq = d.aln.inq ++ [b] ∧ b.src = d.getN Reg.T_GROUP.SLOT g ∧ b.arrNs = t.ns ∧
        b.future = false ∧
        b.words = ((groupLanes d g).map fun n => match outFor d n m with
          | some o => o.words.take 2
          | none => [wMissing, wMissing]).flatten ++ (if d.onN Reg.T_GROUP.FW g then groupFreq d g m else [])))

/-- R355, R358 and R359: one evaluation of a rule. A rule with a source that is not due holds everything but EVAL; a NaN x under
HOLD leaves state and counters; a met evaluation counts PCOUNT up and clears DCOUNT, an unmet one clears PCOUNT and, while
ACTIVE, counts DCOUNT up; ACTIVE rises when PCOUNT reaches PICKUP, and falls when DCOUNT reaches DROPOUT, or, latched, at an
unmet evaluation after the acknowledgement. R336, R337, R360 and R363: a pass takes the spread at the head of the evaluation
queue; without one, or with ANA down, nothing happens. Each rule both engines have decided gives an edge exactly when the
state acted on changes, which is the AND of the engines' states, or the OR under RUL_CTRL.DIS_POL. R362, R364 and R365: a
pass in which the engines disagree raises INTEGRITY, its rising edge before the rule edges, counts it once in RUL_CNT_INTEG
and leaves no difference; without a disagreement an acknowledged INTEGRITY clears with a falling edge, and any other state
of it stays. The acknowledgement itself is taken only while INTEGRITY is set, and a rule's only while it is valid, latched
and ACTIVE. Where it rests on the model's reading, log entries 76, 77 and 78 say so. -/
def Obligations.RuleEvaluation : Prop :=
  ((∀ (v : RuleV) (latch : Bool) (pickup dropout : Nat),
    let m := ruleCount latch pickup dropout true v
    let u := ruleCount latch pickup dropout false v
    m.pc = min 255 (v.pc + 1) ∧ m.dc = 0 ∧ (v.active = true → m.active = true) ∧
      (v.active = false → (m.active = true ↔ max 1 pickup ≤ min 255 (v.pc + 1))) ∧
      u.pc = 0 ∧ (v.active = false → u.active = false ∧ u.dc = v.dc) ∧
      (v.active = true → u.dc = min 127 (v.dc + 1) ∧
        (latch = false → (u.active = false ↔ max 1 dropout ≤ min 127 (v.dc + 1))) ∧
        (latch = true → u.active = !v.acked))) ∧
  (∀ (d : Dev) (e1 : Bool) (k : Nat) (due : List Nat) (e : EngV) (r : Nat),
    opsDue due [eget d e1 Reg.T_RULE.OPA r, eget d e1 Reg.T_RULE.OPB r] = false →
    ruleStep d e1 k due e r = { tget e.rules r with eval := false }) ∧
  (∀ (d : Dev) (e1 : Bool) (k : Nat) (due : List Nat) (e : EngV) (r : Nat) (c : Word32),
    opsDue due [eget d e1 Reg.T_RULE.OPA r, eget d e1 Reg.T_RULE.OPB r] = true → ruleX d e1 e k r = .bad c →
    gateClosed d e1 e r = false → eget d e1 Reg.T_RULE.NANPOL r = 0 →
    (ruleStep d e1 k due e r).active = (tget e.rules r).active ∧ (ruleStep d e1 k due e r).pc = (tget e.rules r).pc ∧
      (ruleStep d e1 k due e r).dc = (tget e.rules r).dc ∧ (ruleStep d e1 k due e r).x = .bad c) ∧
  (∀ (d : Dev) (e1 : Bool) (e : EngV) (r : Nat) (x : RVal) (active : Bool), gateClosed d e1 e r = true →
    ruleMet d e1 e r x active = some false)) ∧
  ((∀ (s : State) (ups : List Upset), s.dev.rul.evalQ = [] ∨ s.dev.up islAna = false → exec (.rulePass ups) s = .next (s.after s.dev)) ∧
  (∀ (s : State) (ups : List Upset) (it : EvalItem) (rest : List EvalItem), s.dev.up islAna = true →
    s.dev.rul.evalQ = it :: rest →
    ∃ t, exec (.rulePass ups) s = .next t ∧ t = s.after (rulTakeMode s.time (rulePass s.time ups s.dev)) ∧ t.dev.rul.evalQ = rest ∧ t.dev.rul.lastInst = it.inst ∧
      t.dev.rul.lastSeq = it.seq ∧ t.dev.rul.passes = s.dev.rul.passes + 1) ∧
  (∀ (d : Dev) (r : Nat), acted d r = if d.on Reg.RUL_CTRL.DIS_POL
    then (tget d.rul.e0.rules r).active || (tget d.rul.e1.rules r).active
    else (tget d.rul.e0.rules r).active && (tget d.rul.e1.rules r).active) ∧
  (∀ (t : Time) (was : Bool) (r : Nat) (d : Dev),
    (acted d r = was → decideRule t was r d = d) ∧
    (acted d r ≠ was → ∃ e, (decideRule t was r d).rul.actQ = d.rul.actQ ++ [e] ∧ e.rule = some r ∧
      e.kind = b2n (acted d r) ∧ e.inst = d.rul.lastInst ∧ e.seq = d.rul.lastSeq ∧
      (decideRule t was r d).regs = d.regs ∧ (decideRule t was r d).evs = d.evs))) ∧
  ((∀ (t : Time) (q0 : List Edge) (d : Dev), d.rul.diff ≠ [] → d.rul.integ = false →
    (passInteg t q0 d).rul.integ = true ∧ (passInteg t q0 d).rul.diff = [] ∧
      (passInteg t q0 d).on Reg.RUL_STATUS.INTEG = true ∧
      (passInteg t q0 d).get Reg.RUL_CNT_INTEG.N = min (d.get Reg.RUL_CNT_INTEG.N + 1) (2 ^ 32 - 1) ∧
      ∃ e es, (passInteg t q0 d).rul.actQ = q0 ++ e :: es ∧ e.rule = none ∧ e.kind = 1 ∧
        es.map Edge.rule = (d.rul.actQ.drop q0.length).map Edge.rule ∧ (∀ x ∈ es, x.dis = true)) ∧
  (∀ (t : Time) (q0 : List Edge) (d : Dev), d.rul.diff = [] →
    (d.rul.integ = true → d.rul.integAck = true →
      (passInteg t q0 d).rul.integ = false ∧ (passInteg t q0 d).get Reg.RUL_STATUS.INTEG = 0 ∧
        ∃ e, (passInteg t q0 d).rul.actQ = d.rul.actQ ++ [e] ∧ e.rule = none ∧ e.kind = 0) ∧
    (d.rul.integ = false ∨ d.rul.integAck = false → passInteg t q0 d = d)) ∧
  (∀ (s : State), s.dev.up islAna = true →
    (s.dev.rul.integ = false → exec .integAck s = .next (s.after s.dev)) ∧
    (s.dev.rul.integ = true → ∃ t, exec .integAck s = .next t ∧ t.dev.rul.integAck = true ∧ t.dev.rul.integ = true)) ∧
  (∀ (s : State) (r : Nat), s.dev.up islAna = true → r < 4096 →
    (s.dev.onN Reg.T_RULE.VALID r = false ∨ s.dev.onN Reg.T_RULE.LATCH r = false ∨
        s.dev.onN Reg.T_RSTATE.ACTIVE r = false → exec (.ruleAck r) s = .next (s.after s.dev)) ∧
    (s.dev.onN Reg.T_RULE.VALID r = true → s.dev.onN Reg.T_RULE.LATCH r = true →
      s.dev.onN Reg.T_RSTATE.ACTIVE r = true → ∃ t, exec (.ruleAck r) s = .next t ∧
        (tget t.dev.rul.e0.rules r).acked = true ∧ (tget t.dev.rul.e1.rules r).acked = true ∧
        (tget t.dev.rul.e0.rules r).active = (tget s.dev.rul.e0.rules r).active ∧
        (∀ q, q ≠ r → tget t.dev.rul.e0.rules q = tget s.dev.rul.e0.rules q))))

/-- R342, R352 to R354 and R366: word 0 of a rule, an area or a detector. VALID rises only when the entry passes its checks, and
a write refused for that sets RUL_INT cause 0; a valid area takes only the write that clears VALID; a write of VALID 0
stores the word in both copies and drops the entry's state, an ACTIVE rule leaving a falling edge for the next pass. The
comparison of the table copies does nothing while they agree, or with COPY_CHK = 0; otherwise the words that differ are
repaired, and INTEGRITY is raised unless the host decides the rules. R381 and R382: a write of RUL_HSTATEj stands for the
ACTIVE states of 32 rules while GLB_SPLIT.RULES is 2, and each changed bit of a valid rule is one edge, in bit order; with
RULES = 0 it is ignored. Where it rests on the model's reading, log entries 39 and 77 say so. -/
def Obligations.RuleEntries : Prop :=
  ((∀ (s : State) (a : Nat) (v : Word32), a < 64 → s.dev.up islAna = true →
    (s.dev.onN Reg.T_AREA.VALID a = true → bitOf v 0 = true →
      exec (.areaValidate a v) s = .next (s.after (s.dev.cause intRul 0 0 0))) ∧
    (s.dev.onN Reg.T_AREA.VALID a = false → bitOf v 0 = true →
      (areaOk a (putValid (Reg.T_AREA.VALID.reg.addr a) v true s.dev) = true →
        exec (.areaValidate a v) s = .next (s.after (putValid (Reg.T_AREA.VALID.reg.addr a) v true s.dev))) ∧
      (areaOk a (putValid (Reg.T_AREA.VALID.reg.addr a) v true s.dev) = false →
        exec (.areaValidate a v) s =
          .next (s.after ((putValid (Reg.T_AREA.VALID.reg.addr a) v false s.dev).cause intRul 0 0 0)))) ∧
    (bitOf v 0 = false →
      exec (.areaValidate a v) s = .next (s.after (putValid (Reg.T_AREA.VALID.reg.addr a) v false s.dev)))) ∧
  (∀ (s : State) (r : Nat) (v : Word32), r < 4096 → s.dev.up islAna = true → s.dev.onN Reg.T_RULE.VALID r = false →
    bitOf v 0 = true →
    (ruleOk r (putValid (Reg.T_RULE.VALID.reg.addr r) v true s.dev) = true →
      ∃ t, exec (.ruleValidate r v) s = .next t ∧ t.dev.onN Reg.T_RULE.VALID r = true ∧
        tget t.dev.rul.e0.rules r = default ∧ tget t.dev.rul.e1.rules r = default ∧
        t.dev.getN Reg.T_RSTATE.EDGES r = 0) ∧
    (ruleOk r (putValid (Reg.T_RULE.VALID.reg.addr r) v true s.dev) = false →
      exec (.ruleValidate r v) s =
        .next (s.after ((putValid (Reg.T_RULE.VALID.reg.addr r) v false s.dev).cause intRul 0 0 0)))) ∧
  (∀ (s : State) (r : Nat) (v : Word32), r < 4096 → s.dev.up islAna = true → s.dev.onN Reg.T_RULE.VALID r = true →
    (bitOf v 0 = true → ruleOk r (putValid (Reg.T_RULE.VALID.reg.addr r) v true s.dev) = true →
      exec (.ruleValidate r v) s = .next (s.after (putValid (Reg.T_RULE.VALID.reg.addr r) v true s.dev))) ∧
    (bitOf v 0 = true → ruleOk r (putValid (Reg.T_RULE.VALID.reg.addr r) v true s.dev) = false →
      exec (.ruleValidate r v) s = .next (s.after (s.dev.cause intRul 0 0 0))) ∧
    (bitOf v 0 = false → ∃ t, exec (.ruleValidate r v) s = .next t ∧ t.dev.onN Reg.T_RULE.VALID r = false ∧
      tget t.dev.rul.e0.rules r = default ∧ tget t.dev.rul.e1.rules r = default ∧
      t.dev.rul.falling = s.dev.rul.falling ++ (if s.dev.onN Reg.T_RSTATE.ACTIVE r
        then [(r, BitVec.ofNat 32 (s.dev.getN Reg.T_RSTATE.X r))] else []))) ∧
  (∀ (s : State) (q : Nat) (v : Word32), q < 1024 → s.dev.up islAna = true → s.dev.onN Reg.T_QDET.VALID q = true →
    (bitOf v 0 = true → detOk q (putValid (Reg.T_QDET.VALID.reg.addr q) v true s.dev) = true →
      exec (.detectorValidate q v) s = .next (s.after (putValid (Reg.T_QDET.VALID.reg.addr q) v true s.dev))) ∧
    (bitOf v 0 = true → detOk q (putValid (Reg.T_QDET.VALID.reg.addr q) v true s.dev) = false →
      exec (.detectorValidate q v) s = .next (s.after (s.dev.cause intRul 0 0 0))) ∧
    (bitOf v 0 = false → ∃ t, exec (.detectorValidate q v) s = .next t ∧ t.dev.onN Reg.T_QDET.VALID q = false ∧
      tget t.dev.rul.e0.dets q = default ∧ tget t.dev.rul.e1.dets q = default)) ∧
  (∀ (s : State) (i : Nat) (v : Word32), s.dev.up islAna = true → bitOf v 0 = false →
    (i < 4096 → s.dev.onN Reg.T_RULE.VALID i = false →
      exec (.ruleValidate i v) s = .next (s.after (putValid (Reg.T_RULE.VALID.reg.addr i) v false s.dev))) ∧
    (i < 1024 → s.dev.onN Reg.T_QDET.VALID i = false →
      exec (.detectorValidate i v) s = .next (s.after (putValid (Reg.T_QDET.VALID.reg.addr i) v false s.dev)))) ∧
  (∀ (s : State) (i : Nat) (v : Word32), s.dev.up islAna = true →
    (4096 ≤ i → exec (.ruleValidate i v) s = .next (s.after s.dev)) ∧
    (1024 ≤ i → exec (.detectorValidate i v) s = .next (s.after s.dev)) ∧
    (64 ≤ i → exec (.areaValidate i v) s = .next (s.after s.dev))) ∧
  (∀ (s : State) (q : Nat) (v : Word32), q < 1024 → s.dev.up islAna = true → s.dev.onN Reg.T_QDET.VALID q = false →
    bitOf v 0 = true →
    (detOk q (putValid (Reg.T_QDET.VALID.reg.addr q) v true s.dev) = true →
      ∃ t, exec (.detectorValidate q v) s = .next t ∧ t.dev.onN Reg.T_QDET.VALID q = true ∧
        tget t.dev.rul.e0.dets q = detFresh (detSettle (putValid (Reg.T_QDET.VALID.reg.addr q) v true s.dev) false q)) ∧
    (detOk q (putValid (Reg.T_QDET.VALID.reg.addr q) v true s.dev) = false →
      exec (.detectorValidate q v) s =
        .next (s.after ((putValid (Reg.T_QDET.VALID.reg.addr q) v false s.dev).cause intRul 0 0 0)))) ∧
  (∀ (s : State) (ups : List Upset), s.dev.up islAna = false → exec (.tableCopyCheck ups) s = .next (s.after s.dev)) ∧
  (∀ (s : State) (ups : List Upset) (d e : Dev), s.dev.up islAna = true → d = ups.foldl (fun x u => tableUpset u x) s.dev →
    e = d.rul.copy1.foldl (fun x w => repairWord w.1 w.2 x) d →
    (d.on Reg.RUL_CTRL.COPY_CHK = false ∨ d.rul.copy1 = [] → exec (.tableCopyCheck ups) s = .next (s.after d)) ∧
    (d.on Reg.RUL_CTRL.COPY_CHK = true → d.rul.copy1 ≠ [] →
      (rulMode e = 2 → exec (.tableCopyCheck ups) s = .next (s.after e)) ∧
      (rulMode e ≠ 2 → ∃ t, exec (.tableCopyCheck ups) s = .next t ∧ t.dev.rul.integ = true ∧ t.dev.rul.integAck = false ∧
        t.dev.on Reg.RUL_STATUS.INTEG = true ∧ t.dev.rul.diff = [])))) ∧
  ((∀ (s : State) (j : Nat) (v : Word32), j < 128 → s.dev.up islAna = true → rulMode s.dev = 0 →
    exec (.hstateWrite j v) s = .next (s.after s.dev)) ∧
  (∀ (s : State) (j : Nat) (v : Word32), 128 ≤ j → s.dev.up islAna = true →
    exec (.hstateWrite j v) s = .next (s.after s.dev)) ∧
  (∀ (s : State) (j : Nat) (v : Word32), j < 128 → s.dev.up islAna = true → rulMode s.dev ≠ 0 → rulMode s.dev ≠ 2 →
    exec (.hstateWrite j v) s = .next (s.after (s.dev.setN Reg.RUL_HSTATEj.ACT j v.toNat))) ∧
  (∀ (s : State) (j : Nat) (v : Word32), j < 128 → s.dev.up islAna = true → rulMode s.dev = 2 →
    ∃ t es, exec (.hstateWrite j v) s = .next t ∧ t.dev.getN Reg.RUL_HSTATEj.ACT j = v.toNat ∧
      t.dev.rul.actQ = s.dev.rul.actQ ++ es ∧
      es.map (fun e => (e.rule, e.kind)) = ((List.range 32).filter fun k =>
        (bitOf v k != (s.dev.getN Reg.RUL_HSTATEj.ACT j).testBit k) && s.dev.onN Reg.T_RULE.VALID (32 * j + k)).map
          fun k => (some (32 * j + k), b2n (bitOf v k))))

/-- R368 and R369: an alarm pin by its mode. Mode 0 never asserts it; mode 1 while it is called for and for MIN_WIDTH after it
was asserted; mode 2 until its pulse ends; mode 3 until it is released; TEST asserts it in every mode; GLB_SPLIT.RULES = 0
releases it. RUL_PINn.REL opens the latch, whatever the mode. R367: the edge at the head of the action queue leaves it and
drives its actions, a rising edge among them the latching pins of its rule; with an empty queue, or with ANA down, nothing
happens. R371, R372: a template is enabled only when it passes its checks, an enabled one takes only the write that clears
EN, and the next frame of an enabled template leaves when its offset from the last change has come, with sqNum one higher.
Where it rests on the model's reading, log entries 28 and 79 say so. -/
def Obligations.Alarms : Prop :=
  ((∀ (s : State) (n : Nat),
    (n < 4 → s.dev.up islAna = true → exec (.pinWidthExpire n) s = .next (s.after (pinUpdate s.time n s.dev))) ∧
    (4 ≤ n ∨ s.dev.up islAna = false → exec (.pinWidthExpire n) s = .next (s.after s.dev)) ∧
    (4 ≤ n → s.dev.up islAna = true → exec (.pinRelease n) s = .next (s.after s.dev)) ∧
    (n < 4 → s.dev.up islAna = true → ∃ d, exec (.pinRelease n) s = .next (s.after (pinUpdate s.time n d)) ∧
      d.regs = s.dev.regs ∧ (pinState d n).latched = false ∧ (pinState d n).since = (pinState s.dev n).since ∧
      (pinState d n).pulseEnd = (pinState s.dev n).pulseEnd ∧ ∀ m, m ≠ n → pinState d m = pinState s.dev m)) ∧
  (∀ (t : Time) (n : Nat) (d : Dev), n < 4 → d.up islAna = true →
    (∀ a, a ≠ Reg.RUL_PINn.STATE.reg.addr n → (pinUpdate t n d).word a = d.word a) ∧
    (∀ m, m ≠ n → pinState (pinUpdate t n d) m = pinState d m) ∧
    (d.get Reg.GLB_SPLIT.RULES = 0 → (pinUpdate t n d).getN Reg.RUL_PINn.STATE n = 0) ∧
    (d.get Reg.GLB_SPLIT.RULES ≠ 0 → d.onN Reg.RUL_PINn.TEST n = true → (pinUpdate t n d).getN Reg.RUL_PINn.STATE n = 1) ∧
    (d.get Reg.GLB_SPLIT.RULES ≠ 0 → d.onN Reg.RUL_PINn.TEST n = false →
      (d.getN Reg.RUL_PINn.MODE n = 0 → (pinUpdate t n d).getN Reg.RUL_PINn.STATE n = 0) ∧
      (d.getN Reg.RUL_PINn.MODE n = 1 → ((pinUpdate t n d).getN Reg.RUL_PINn.STATE n = 1 ↔ pinCalled d n = true ∨
        ∃ f, (pinState d n).since = some f ∧ t.loc < f + d.getN Reg.RUL_PINn.MIN_WIDTH n * 1000000)) ∧
      (d.getN Reg.RUL_PINn.MODE n = 2 → ((pinUpdate t n d).getN Reg.RUL_PINn.STATE n = 1 ↔
        ∃ e, (pinState d n).pulseEnd = some e ∧ t.loc < e)) ∧
      (d.getN Reg.RUL_PINn.MODE n = 3 → ((pinUpdate t n d).getN Reg.RUL_PINn.STATE n = 1 ↔ (pinState d n).latched = true))))) ∧
  ((∀ (s : State), s.dev.rul.actQ = [] ∨ s.dev.up islAna = false → exec .alarmAction s = .next (s.after s.dev)) ∧
  (∀ (s : State) (e : Edge) (rest : List Edge), s.dev.up islAna = true → s.dev.rul.actQ = e :: rest →
    ∃ t, exec .alarmAction s = .next t ∧ t = s.after (rulTakeMode s.time (alarmAction s.time s.dev)) ∧ t.dev.rul.actQ = rest ∧
      ∀ r n, e.rule = some r → e.kind = 1 → n < 4 → (s.dev.getN Reg.T_RULE.PINS r).testBit n = true →
        s.dev.getN Reg.RUL_PINn.MODE n = 3 → s.dev.get Reg.GLB_SPLIT.RULES ≠ 0 →
        t.dev.getN Reg.RUL_PINn.STATE n = 1 ∧ (pinState t.dev n).latched = true) ∧
  (∀ (s : State) (m : Nat) (v : Word32), 64 ≤ m → s.dev.up islAna = true →
    exec (.templateEnable m v) s = .next (s.after s.dev)) ∧
  (∀ (s : State) (m : Nat) (v : Word32), m < 64 → s.dev.up islAna = true →
    (s.dev.onN Reg.T_GTMPL.EN m = true → bitOf v 0 = true →
      exec (.templateEnable m v) s = .next (s.after (s.dev.cause intRul 0 0 0))) ∧
    (bitOf v 0 = false → exec (.templateEnable m v) s =
      .next (s.after (s.dev.putWord (Reg.T_GTMPL.EN.reg.addr m) v))) ∧
    (s.dev.onN Reg.T_GTMPL.EN m = false → bitOf v 0 = true →
      tmplOk m (s.dev.putWord (Reg.T_GTMPL.EN.reg.addr m) v) = false →
      exec (.templateEnable m v) s =
        .next (s.after ((s.dev.putUnvalid (Reg.T_GTMPL.EN.reg.addr m) v).cause intRul 0 0 0))) ∧
    (s.dev.onN Reg.T_GTMPL.EN m = false → bitOf v 0 = true →
      tmplOk m (s.dev.putWord (Reg.T_GTMPL.EN.reg.addr m) v) = true →
      ∃ t, exec (.templateEnable m v) s = .next t ∧ t.dev.onN Reg.T_GTMPL.EN m = true ∧
        (tget t.dev.rul.tmpl m).st = s.dev.getN Reg.T_GTMPL.ST_INIT m ∧ (tget t.dev.rul.tmpl m).sq = 0 ∧
        (tget t.dev.rul.tmpl m).off = 0 ∧ (tget t.dev.rul.tmpl m).since = s.time.loc)) ∧
  (∀ (s : State) (m : Nat), s.dev.onN Reg.T_GTMPL.EN m = false ∨ 64 ≤ m ∨ s.dev.up islAna = false ∨
      s.time.loc < (tget s.dev.rul.tmpl m).since + tmplNext s.dev m * 1000000 →
    exec (.gooseRetransmit m) s = .next (s.after s.dev)) ∧
  (∀ (s : State) (m : Nat), m < 64 → s.dev.up islAna = true → s.dev.onN Reg.T_GTMPL.EN m = true →
    (tget s.dev.rul.tmpl m).since + tmplNext s.dev m * 1000000 ≤ s.time.loc →
    ∃ t, exec (.gooseRetransmit m) s = .next t ∧ (tget t.dev.rul.tmpl m).sq = ((tget s.dev.rul.tmpl m).sq + 1) % 2 ^ 32 ∧
      (tget t.dev.rul.tmpl m).off = tmplNext s.dev m ∧ (tget t.dev.rul.tmpl m).st = (tget s.dev.rul.tmpl m).st) ∧
  (∀ (ofs lo hi : Nat), (nextOfs lo hi 0 = lo) ∧ (0 < ofs → 2 * ofs < hi → nextOfs lo hi ofs = 2 * ofs) ∧
    (0 < ofs → hi ≤ 2 * ofs → nextOfs lo hi ofs = ofs + hi)))

/-- R418 to R420: EN starts the modal engine when GLB_SPLIT.MODAL is 1 or 2: with no lanes or no bins FAIL shows SKIPPED_ZERO
and the engine stays idle; a refused start returns EN to 0, shows the reason in FAIL and sets MOD_INT cause 0; an accepted
one begins at the next whole second but one after now, with no segment applied; while an earlier stop still waits, or with
GLB_SPLIT.MODAL 0, EN alone is set. Stopping is at once, or after the running processing. R393, R394, R399, R400 and R402:
the oldest ready segment is applied while no epoch is processed; a segment in which every lane has too many invalid samples
is discarded and counted; an applied one counts in MOD_CNT_SEG and keeps the instant of its last sample. At an epoch
boundary the epoch's number and instant are shown, and its processing begins, or the epoch is skipped and counted while
another is processed. Before the boundary nothing happens. R403 to R417 and R421: publishing an epoch runs on the registers
as they stood at its boundary and leaves those it holds now; with no epoch processed nothing happens. A snapshot writes its
header and then one bin at a time, waits while its ring has no free buffer, and ends early when it has run longer than
SNAP_TMO. Where it rests on the model's reading, log entries 74 and 75 say so. -/
def Obligations.ModalEngine : Prop :=
  ((∀ (s : State), s.dev.up islAna = true → s.dev.on Reg.MOD_CTRL.EN = true →
    exec .modalStart s = .next (s.after s.dev)) ∧
  (∀ (s : State), s.dev.up islAna = true → s.dev.on Reg.MOD_CTRL.EN = false →
    mdlRuns s.dev = true ∨ (s.dev.get Reg.GLB_SPLIT.MODAL ≠ 1 ∧ s.dev.get Reg.GLB_SPLIT.MODAL ≠ 2) →
    exec .modalStart s = .next (s.after (s.dev.set Reg.MOD_CTRL.EN 1))) ∧
  (∀ (s : State), s.dev.up islAna = true → s.dev.on Reg.MOD_CTRL.EN = false → mdlRuns s.dev = false →
    (s.dev.get Reg.GLB_SPLIT.MODAL = 1 ∨ s.dev.get Reg.GLB_SPLIT.MODAL = 2 →
      (mdlCheck s.dev = stSkipped → exec .modalStart s =
        .next (s.after ((s.dev.set Reg.MOD_STATUS.FAIL stSkipped).set Reg.MOD_CTRL.EN 1))) ∧
      (mdlCheck s.dev ≠ stSkipped → mdlCheck s.dev ≠ stOk → exec .modalStart s = .next (s.after
        (((s.dev.set Reg.MOD_STATUS.FAIL (mdlCheck s.dev)).set Reg.MOD_CTRL.EN 0).cause intMod 0 0 (mdlCheck s.dev)))) ∧
      (mdlCheck s.dev = stOk → ∃ t, exec .modalStart s = .next t ∧ mdlRuns t.dev = true ∧
        t.dev.on Reg.MOD_CTRL.EN = true ∧ t.dev.get Reg.MOD_STATUS.FAIL = stOk ∧ t.dev.mdl.segs = 0 ∧
        t.dev.mdl.epoch = 0 ∧ t.dev.mdl.t0 = (s.time.ns + 2000000000 - 1) / 1000000000 ∧ t.dev.mdl.proc = none ∧
        t.dev.mdl.m = []))) ∧
  (∀ (s : State), s.dev.up islAna = true →
    (mdlRuns s.dev = false → exec .modalStop s = .next (s.after (s.dev.set Reg.MOD_CTRL.EN 0))) ∧
    (mdlRuns s.dev = true → s.dev.mdl.proc.isSome = true → exec .modalStop s =
      .next (s.after ((s.dev.set Reg.MOD_CTRL.EN 0).modMdl fun m => { m with stopDue := true }))) ∧
    (mdlRuns s.dev = true → s.dev.mdl.proc = none → ∃ t, exec .modalStop s = .next t ∧ mdlRuns t.dev = false ∧
      t.dev.on Reg.MOD_CTRL.EN = false ∧ t.dev.mdl.ready = [] ∧ t.dev.mdl.stopDue = false))) ∧
  ((∀ (s : State), mdlRuns s.dev = false ∨ s.dev.mdl.proc.isSome = true ∨ s.dev.mdl.ready = [] →
    exec .segmentApply s = .next (s.after s.dev)) ∧
  (∀ (s : State) (g : MSeg) (gs : List MSeg), mdlRuns s.dev = true → s.dev.mdl.proc = none → s.dev.mdl.ready = g :: gs →
    ∃ t, exec .segmentApply s = .next t ∧ t.dev.mdl.ready = gs ∧ t.dev.mdl.epoch = s.dev.mdl.epoch ∧
      ((∀ xs ∈ g.xs, s.dev.get Reg.MOD_SAMP.GAP_MAX < (xs.filter fun x => x.isNone).length) →
        t.dev.mdl.segs = s.dev.mdl.segs ∧ t.dev.hmp = s.dev.hmp) ∧
      ((∃ xs ∈ g.xs, (xs.filter fun x => x.isNone).length ≤ s.dev.get Reg.MOD_SAMP.GAP_MAX) →
        t.dev.mdl.segs = s.dev.mdl.segs + 1 ∧ t.dev.mdl.lastSeg = g.last % 2 ^ 32)) ∧
  (∀ (s : State), mdlRuns s.dev = false ∨ s.time.ns < epochInstant s.dev (s.dev.mdl.epoch + 1) →
    exec .epochBoundary s = .next (s.after s.dev)) ∧
  (∀ (s : State), mdlRuns s.dev = true → epochInstant s.dev (s.dev.mdl.epoch + 1) ≤ s.time.ns →
    ∃ t, exec .epochBoundary s = .next t ∧ t.dev.mdl.epoch = s.dev.mdl.epoch + 1 ∧
      t.dev.get Reg.MOD_EPNUM.N = (s.dev.mdl.epoch + 1) % 2 ^ 32 ∧
      t.dev.get Reg.MOD_LAST_NS.NS = epochInstant s.dev (s.dev.mdl.epoch + 1) % 1000000000 ∧
      (s.dev.mdl.proc.isSome = true → t.dev.mdl.proc = s.dev.mdl.proc ∧
        t.dev.get Reg.MOD_CNT_EPSKIP.N = min (s.dev.get Reg.MOD_CNT_EPSKIP.N + 1) (2 ^ 32 - 1) ∧
        bitOf (t.dev.word 0xD0008) 2 = true) ∧
      (s.dev.mdl.proc = none → t.dev.get Reg.MOD_STATUS.STATE = 3 ∧
        ∃ p, t.dev.mdl.proc = some p ∧ p.epoch = s.dev.mdl.epoch + 1 ∧ p.segs = s.dev.mdl.segs ∧ p.snap = (s.dev.get Reg.GLB_SPLIT.MODAL != 1) ∧
          p.boundary = epochInstant s.dev (s.dev.mdl.epoch + 1) ∧ p.start = s.time.loc))) ∧
  ((∀ (s : State), s.dev.mdl.proc = none → exec .epochPublish s = .next (s.after s.dev) ∧
    exec .snapshotBinWrite s = .next (s.after s.dev) ∧ exec .snapshotTimeout s = .next (s.after s.dev)) ∧
  (∀ (s : State) (p : MProc), s.dev.mdl.proc = some p →
    (p.snap = false → exec .snapshotBinWrite s = .next (s.after s.dev) ∧
      exec .snapshotTimeout s = .next (s.after s.dev)) ∧
    (p.snap = false → ∃ t, exec .epochPublish s = .next t ∧
      t = s.after (withCfg p.cfg (epochDone s.time p) s.dev) ∧
      t.dev.get Reg.MOD_CNT_EPOCH.N = min (s.dev.get Reg.MOD_CNT_EPOCH.N + 1) (2 ^ 32 - 1) ∧
      (s.dev.mdl.stopDue = false → t.dev.mdl.proc = none ∧ bitOf (t.dev.word 0xD0008) 1 = true) ∧
      (∀ a, epochCfg a = true → t.dev.word a = s.dev.word a)) ∧
    (p.snap = true → exec .epochPublish s = .next (s.after s.dev)) ∧
    (p.snap = true → ∃ t, exec .snapshotBinWrite s = .next t ∧
      t = s.after (withCfg p.cfg (snapWrite s.time p) s.dev) ∧
      (∀ a, epochCfg a = true → t.dev.word a = s.dev.word a)) ∧
    (p.snap = true → (putCfg p.cfg s.dev).get Reg.MOD_HOST.SNAP_TMO ≠ 0 →
      p.start + (putCfg p.cfg s.dev).get Reg.MOD_HOST.SNAP_TMO * 10000000 < s.time.loc →
      exec .snapshotTimeout s = .next (s.after (snapFail s.time s.dev))) ∧
    ((putCfg p.cfg s.dev).get Reg.MOD_HOST.SNAP_TMO = 0 ∨
      s.time.loc ≤ p.start + (putCfg p.cfg s.dev).get Reg.MOD_HOST.SNAP_TMO * 10000000 →
      exec .snapshotTimeout s = .next (s.after s.dev))) ∧
  (∀ (t : Time) (d : Dev), d.mdl.stopDue = false → (procEnd t d).mdl.proc = none ∧
    (procEnd t d).get Reg.MOD_STATUS.STATE = (if d.mdl.segs = 0 then 1 else 2)) ∧
  (∀ (t : Time) (p : MProc) (d : Dev), (ringIs d (d.get Reg.MOD_HOST.SNAP_RING) clsModl &&
    ringFree d (d.get Reg.MOD_HOST.SNAP_RING)) = false → snapWrite t p d = d))

/-- R426, R427 and R456: EN of capture lays out the raw history and fills it with 0x7FC0_0001, or is refused with the reason in
CAP_STATUS.FAIL; EN written 0 returns every engine to IDLE and discards the layout. R434 to R436 and R448: a trigger
definition or a mask becomes valid only when its values are; a refused one stays not valid and sets CAP_INT cause 0; a mask
that is valid is not written. A software trigger fires the named valid definition of SRC 4, which counts, shows its instant
and goes to the engines it names; any other word fires nothing. R438 to R442: ARM of an idle engine is checked, ARM_STATUS
shows the outcome, and the engine arms at once, with CAP_INT cause 4, or waits for its timed arm; ARM of an engine that is
not idle is refused with CAP_INT cause 0. A timed arm waits, arms, arms late, or is EXPIRED. The pre-trigger time over, the
engine is ready for triggers. DISARM idles any engine but one whose record is complete. Where it rests on the model's
reading, log entries 39 and 81 say so. -/
def Obligations.CaptureSetUp : Prop :=
  ((∀ (s : State), s.dev.up islCap = true → s.dev.on Reg.CAP_CTRL.EN = true →
    exec .captureEnable s = .next (s.after s.dev)) ∧
  (∀ (s : State), s.dev.up islCap = true → s.dev.on Reg.CAP_CTRL.EN = false →
    exec .captureEnable s = .next (s.after (captureStart s.dev))) ∧
  (∀ (d : Dev), d.get Reg.CAP_HIST.H = 0 → (captureStart d).on Reg.CAP_CTRL.EN = true ∧
    (captureStart d).on Reg.CAP_STATUS.RUN = true ∧ (captureStart d).get Reg.CAP_STATUS.FAIL = stOk ∧
    (captureStart d).cap.layout = [] ∧ (captureStart d).hmp = d.hmp) ∧
  (∀ (d : Dev), d.get Reg.CAP_HIST.H ≠ 0 → (∃ n ∈ recLanes d, d.getN Reg.T_LANE.FS n * d.get Reg.CAP_HIST.H % 1000 ≠ 0) →
    (captureStart d).on Reg.CAP_CTRL.EN = false ∧ (captureStart d).on Reg.CAP_STATUS.RUN = false ∧
    (captureStart d).get Reg.CAP_STATUS.FAIL = stRejected ∧ (captureStart d).cap = d.cap) ∧
  (∀ (d : Dev) (words : Nat), d.get Reg.CAP_HIST.H ≠ 0 → (∀ n ∈ recLanes d, d.getN Reg.T_LANE.FS n * d.get Reg.CAP_HIST.H % 1000 = 0) →
    words = ((recLanes d).map fun n => d.getN Reg.T_LANE.FS n * d.get Reg.CAP_HIST.H / 1000).sum →
    (partBytes d partRaw ≠ 0 → partBytes d partRaw < words * 4 →
      (captureStart d).on Reg.CAP_CTRL.EN = false ∧ (captureStart d).on Reg.CAP_STATUS.RUN = false ∧
      (captureStart d).get Reg.CAP_STATUS.FAIL = stNoSpace ∧ (captureStart d).cap = d.cap) ∧
    (partBytes d partRaw = 0 ∨ words * 4 ≤ partBytes d partRaw →
      (captureStart d).on Reg.CAP_CTRL.EN = true ∧ (captureStart d).on Reg.CAP_STATUS.RUN = true ∧
      (captureStart d).get Reg.CAP_STATUS.FAIL = stOk ∧
      (captureStart d).cap.layout.map (fun r => r.lane) = recLanes d)) ∧
  (∀ (s : State), s.dev.up islCap = true → ∃ t, exec .captureDisable s = .next t ∧ t.dev.on Reg.CAP_CTRL.EN = false ∧
    t.dev.on Reg.CAP_STATUS.RUN = false ∧ t.dev.cap.layout = [] ∧ (∀ n, n < 8 → engState t.dev n = 0 ∧
      (t.dev.eng n).inbox = [] ∧ (t.dev.eng n).seq = (s.dev.eng n).seq))) ∧
  ((∀ (s : State) (k : Nat) (v : Word32), k < 256 → s.dev.up islCap = true →
    (bitOf v 0 = false → exec (.triggerDefValidate k v) s = .next (s.after (s.dev.putWord (0x371000 + k * 0x20) v))) ∧
    (bitOf v 0 = true → s.dev.onN Reg.T_CTRIG.VALID k = false →
      (defOk v.toNat (s.dev.word (0x371000 + k * 0x20 + 4)).toNat (s.dev.word (0x371000 + k * 0x20 + 20)).toNat = false →
        exec (.triggerDefValidate k v) s =
          .next (s.after ((s.dev.putUnvalid (0x371000 + k * 0x20) v).cause intCap 0 0 0))) ∧
      (defOk v.toNat (s.dev.word (0x371000 + k * 0x20 + 4)).toNat (s.dev.word (0x371000 + k * 0x20 + 20)).toNat = true →
        exec (.triggerDefValidate k v) s = .next (s.after ((s.dev.putWord (0x371000 + k * 0x20) v).modCap
          fun c => { c with prev := tset c.prev k none }))))) ∧
  (∀ (s : State) (k : Nat) (v : Word32), k < 256 → s.dev.up islCap = true → bitOf v 0 = true →
    s.dev.onN Reg.T_CTRIG.VALID k = true → exec (.triggerDefValidate k v) s = .next (s.after
      (if defOk v.toNat (s.dev.word (0x371000 + k * 0x20 + 4)).toNat (s.dev.word (0x371000 + k * 0x20 + 20)).toNat
        then s.dev.putWord (0x371000 + k * 0x20) v else s.dev.cause intCap 0 0 0))) ∧
  (∀ (s : State) (k : Nat) (v : Word32), (256 ≤ k → exec (.triggerDefValidate k v) s = .next (s.after s.dev)) ∧
    (32 ≤ k → exec (.maskValidate k v) s = .next (s.after s.dev))) ∧
  (∀ (s : State) (k : Nat) (v : Word32), k < 32 → s.dev.up islCap = true →
    (bitOf v 0 = false → exec (.maskValidate k v) s = .next (s.after (s.dev.putWord (0x373000 + k * 0x100) v))) ∧
    (bitOf v 0 = true → s.dev.onN Reg.T_CMASK.VALID k = true →
      exec (.maskValidate k v) s = .next (s.after (s.dev.cause intCap 0 0 0))) ∧
    (bitOf v 0 = true → s.dev.onN Reg.T_CMASK.VALID k = false →
      exec (.maskValidate k v) s = .next (s.after (if maskOk s.dev k (bits v.toNat 1 5)
        then s.dev.putWord (0x373000 + k * 0x100) v
        else (s.dev.putUnvalid (0x373000 + k * 0x100) v).cause intCap 0 0 0)))) ∧
  (∀ (s : State) (v : Word32), s.dev.up islCap = true →
    (bitOf v 31 = false ∨ s.dev.onN Reg.T_CTRIG.VALID (bits v.toNat 0 8) = false ∨
        s.dev.getN Reg.T_CTRIG.SRC (bits v.toNat 0 8) ≠ 4 →
      exec (.softwareTrigger v) s = .next (s.after s.dev)) ∧
    (bitOf v 31 = true → s.dev.onN Reg.T_CTRIG.VALID (bits v.toNat 0 8) = true →
      s.dev.getN Reg.T_CTRIG.SRC (bits v.toNat 0 8) = 4 →
      ∃ t, exec (.softwareTrigger v) s = .next t ∧
        t.dev.getN Reg.T_CTSTAT.FIRES (bits v.toNat 0 8) =
          (s.dev.getN Reg.T_CTSTAT.FIRES (bits v.toNat 0 8) + 1) % 2 ^ Reg.T_CTSTAT.FIRES.width ∧
        (∀ n, n < 8 → (t.dev.eng n).inbox =
          if (s.dev.getN Reg.T_CTRIG.ENG (bits v.toNat 0 8)).testBit n
          then (s.dev.eng n).inbox ++ [(bits v.toNat 0 8, qInst s.time.qns)] else (s.dev.eng n).inbox)))) ∧
  ((∀ (s : State) (n : Nat), n < 8 → s.dev.up islCap = true →
    (engState s.dev n ≠ 0 → exec (.captureArm n) s = .next (s.after (s.dev.cause intCap 0 0 0))) ∧
    (engState s.dev n = 0 → armCheck s.dev n = stSkipped → exec (.captureArm n) s =
      .next (s.after (s.dev.setN Reg.CAP_ENGn_STAT.ARM_STATUS n stSkipped))) ∧
    (engState s.dev n = 0 → armCheck s.dev n ≠ stOk → armCheck s.dev n ≠ stSkipped → exec (.captureArm n) s =
      .next (s.after ((s.dev.setN Reg.CAP_ENGn_STAT.ARM_STATUS n (armCheck s.dev n)).cause intCap 0 0 0))) ∧
    (engState s.dev n = 0 → armCheck s.dev n = stOk → s.dev.onN Reg.CAP_ENGn_CTRL.TIMED n = true →
      exec (.captureArm n) s =
        .next (s.after (setEng n 1 (s.dev.setN Reg.CAP_ENGn_STAT.ARM_STATUS n stOk)))) ∧
    (engState s.dev n = 0 → armCheck s.dev n = stOk → s.dev.onN Reg.CAP_ENGn_CTRL.TIMED n = false →
      ∃ t, exec (.captureArm n) s = .next t ∧ engState t.dev n = 2 ∧ (t.dev.eng n).chans = chansOf s.dev n ∧
        (t.dev.eng n).armT = s.time.ns ∧ (t.dev.eng n).inbox = [] ∧ (t.dev.eng n).seq = (s.dev.eng n).seq ∧
        t.dev.getN Reg.CAP_ENGn_STAT.ARM_STATUS n = stOk ∧ bitOf (t.dev.word 0xE000C) 4 = true ∧
        (∀ m, m < 8 → m ≠ n → t.dev.eng m = s.dev.eng m ∧ engState t.dev m = engState s.dev m))) ∧
  (∀ (s : State) (n : Nat) (v : Verdict), n < 8 → engState s.dev n = 1 →
    verdictNow s.time s.dev (s.dev.getN Reg.CAP_ENGn_TARM.ST n) (s.dev.getN Reg.CAP_ENGn_TEP.EPOCH n)
      (s.dev.getN Reg.CAP_ENGn_TEP.LATE_TOL n) = v →
    (v = .wait → exec (.captureTimedArm n) s = .next (s.after s.dev)) ∧
    (v = .expired → exec (.captureTimedArm n) s = .next (s.after
      ((setEng n 0 (s.dev.setN Reg.CAP_ENGn_STAT.ARM_STATUS n stExpired)).cause intCap 4 n stExpired))) ∧
    (v = .ok ∨ v = .late → ∃ t, exec (.captureTimedArm n) s = .next t ∧ engState t.dev n = 2 ∧
      t.dev.getN Reg.CAP_ENGn_STAT.ARM_STATUS n = v.status ∧ ((t.dev.eng n).late = true ↔ v = .late))) ∧
  (∀ (s : State) (n : Nat), 8 ≤ n ∨ engState s.dev n ≠ 1 → exec (.captureTimedArm n) s = .next (s.after s.dev)) ∧
  (∀ (s : State) (n : Nat), 8 ≤ n → exec (.captureArm n) s = .next (s.after s.dev) ∧
    exec (.pretriggerFull n) s = .next (s.after s.dev) ∧ exec (.captureDisarm n) s = .next (s.after s.dev) ∧
    exec (.captureTrigger n) s = .next (s.after s.dev) ∧ exec (.collectionClose n) s = .next (s.after s.dev) ∧
    exec (.captureComplete n) s = .next (s.after s.dev) ∧ exec (.captureDeliver n) s = .next (s.after s.dev) ∧
    exec (.captureRelease n) s = .next (s.after s.dev)) ∧
  (∀ (s : State) (n : Nat), n < 8 →
    (engState s.dev n = 2 → (s.dev.eng n).armT + s.dev.getN Reg.CAP_ENGn_PRE.MS n * 1000000 ≤ s.time.ns →
      ∃ t, exec (.pretriggerFull n) s = .next t ∧ engState t.dev n = 3) ∧
    (engState s.dev n ≠ 2 ∨ s.time.ns < (s.dev.eng n).armT + s.dev.getN Reg.CAP_ENGn_PRE.MS n * 1000000 →
      exec (.pretriggerFull n) s = .next (s.after s.dev))) ∧
  (∀ (s : State) (n : Nat), n < 8 → s.dev.up islCap = true →
    (engState s.dev n = 5 → exec (.captureDisarm n) s = .next (s.after s.dev)) ∧
    (engState s.dev n ≠ 5 → exec (.captureDisarm n) s = .next (s.after (engIdle n s.dev)) ∧
      engState (engIdle n s.dev) n = 0 ∧ ((engIdle n s.dev).eng n).seq = (s.dev.eng n).seq)))

/-- R441, R443 and R444: the first trigger that reaches a ready engine opens its collection, with CAP_INT cause 1; one of the
same block interval joins it, once per definition; any other is ignored and counted; an idle engine's go without trace. The
collection closes COLLECT µs later, and t_trig is the instant of the trigger of the lowest definition. R447, R451 to R453: a
record is complete when every channel has its last block; it gets its number and CAP_INT cause 2, and the engine holds it,
stops on a mask violation under MASKSTOP, or drops it under PASS_DROP. Delivery fills one posted buffer at a time, and waits
without one. The slice is released when the last byte has been delivered, or by REL while DELIVER is 0, and the engine is
idle or, under REARM, arms again. Where it rests on the model's reading, log entries 80 and 81 say so. -/
def Obligations.CaptureRecords : Prop :=
  ((∀ (s : State) (n : Nat), n < 8 → (s.dev.eng n).inbox = [] → exec (.captureTrigger n) s = .next (s.after s.dev)) ∧
  (∀ (s : State) (n k : Nat) (i : Inst) (rest : List (Nat × Inst)), n < 8 → (s.dev.eng n).inbox = (k, i) :: rest →
    ∃ t, exec (.captureTrigger n) s = .next t ∧ (t.dev.eng n).inbox = rest ∧
      (engState s.dev n = 3 → engState t.dev n = 4 ∧ (t.dev.eng n).collAt = some s.time.loc ∧
        (t.dev.eng n).defs = [(k, i)] ∧ bitOf (t.dev.word 0xE000C) 1 = true) ∧
      (∀ a, engState s.dev n = 4 → (s.dev.eng n).collAt = some a →
        s.time.loc ≤ a + s.dev.getN Reg.CAP_ENGn_CFG.COLLECT n * 1000 → i.slot (blockRate (s.dev.eng n)) = (s.dev.eng n).collK →
        engState t.dev n = 4 ∧ (t.dev.eng n).defs = (if (s.dev.eng n).defs.any (fun x => x.1 == k)
          then (s.dev.eng n).defs else (s.dev.eng n).defs ++ [(k, i)])) ∧
      (engState s.dev n = 4 → i.slot (blockRate (s.dev.eng n)) ≠ (s.dev.eng n).collK ∨ (s.dev.eng n).collAt = none ∨
          (∃ a, (s.dev.eng n).collAt = some a ∧ a + s.dev.getN Reg.CAP_ENGn_CFG.COLLECT n * 1000 < s.time.loc) →
        engState t.dev n = 4 ∧ (t.dev.eng n).defs = (s.dev.eng n).defs ∧
        (t.dev.eng n).tlater = min ((s.dev.eng n).tlater + 1) 0xFFFF ∧
        t.dev.getN Reg.CAP_ENGn_IGN.N n = min (s.dev.getN Reg.CAP_ENGn_IGN.N n + 1) (2 ^ Reg.CAP_ENGn_IGN.N.width - 1)) ∧
      (engState s.dev n ∉ [0, 3, 4] → engState t.dev n = engState s.dev n ∧ (t.dev.eng n).defs = (s.dev.eng n).defs ∧
        t.dev.getN Reg.CAP_ENGn_IGN.N n = min (s.dev.getN Reg.CAP_ENGn_IGN.N n + 1) (2 ^ Reg.CAP_ENGn_IGN.N.width - 1)) ∧
      (engState s.dev n = 0 → engState t.dev n = 0 ∧ t.dev.getN Reg.CAP_ENGn_IGN.N n = s.dev.getN Reg.CAP_ENGn_IGN.N n)) ∧
  (∀ (s : State) (n : Nat), n < 8 → (s.dev.eng n).collAt = none ∨ engState s.dev n ≠ 4 →
    exec (.collectionClose n) s = .next (s.after s.dev)) ∧
  (∀ (s : State) (n a : Nat), n < 8 → (s.dev.eng n).collAt = some a →
    (s.time.loc - a < s.dev.getN Reg.CAP_ENGn_CFG.COLLECT n * 1000 →
      exec (.collectionClose n) s = .next (s.after s.dev)) ∧
    (engState s.dev n = 4 → s.dev.getN Reg.CAP_ENGn_CFG.COLLECT n * 1000 ≤ s.time.loc - a → (s.dev.eng n).defs = [] →
      ∃ t, exec (.collectionClose n) s = .next t ∧ engState t.dev n = 0 ∧ (t.dev.eng n).collAt = none) ∧
    (engState s.dev n = 4 → s.dev.getN Reg.CAP_ENGn_CFG.COLLECT n * 1000 ≤ s.time.loc - a →
      ∀ p ps, (s.dev.eng n).defs = p :: ps →
      ∃ t q, exec (.collectionClose n) s = .next t ∧ engState t.dev n = 4 ∧ (t.dev.eng n).collAt = none ∧
        q ∈ p :: ps ∧ (t.dev.eng n).trig = some q.2 ∧ (∀ x ∈ p :: ps, q.1 ≤ x.1)))) ∧
  ((∀ (s : State) (n : Nat), n < 8 → engState s.dev n ∉ [2, 3, 4] →
    exec (.captureComplete n) s = .next (s.after s.dev)) ∧
  (∀ (d : Dev) (t : Time) (n : Nat), framing d n = false ∨ spreadsFlow d = true → catchUp t n d = d) ∧
  (∀ (s : State) (n : Nat) (d : Dev), n < 8 → d = catchUp s.time n s.dev →
    posting d n = false ∨ (∃ c ∈ (d.eng n).chans, c.next < c.first + c.ntot) →
    exec (.captureComplete n) s = .next (s.after d)) ∧
  (∀ (s : State) (n : Nat) (d : Dev), n < 8 → d = catchUp s.time n s.dev → posting d n = true →
    (∀ c ∈ (d.eng n).chans, c.first + c.ntot ≤ c.next) →
    ∃ t, exec (.captureComplete n) s = .next t ∧ (t.dev.eng n).seq = (d.eng n).seq + 1 ∧
      t.dev.getN Reg.CAP_ENGn_CNT.N n = min (d.getN Reg.CAP_ENGn_CNT.N n + 1) (2 ^ Reg.CAP_ENGn_CNT.N.width - 1) ∧
      bitOf (t.dev.word 0xE000C) 2 = true ∧
      ((d.eng n).viol.isSome = true ∨ d.onN Reg.CAP_ENGn_CFG.PASS_DROP n = false →
        engState t.dev n = (if (d.eng n).viol.isSome && d.onN Reg.CAP_ENGn_CFG.MASKSTOP n then 6 else 5) ∧
        (t.dev.eng n).pos = 0 ∧ (t.dev.eng n).len = 4096 + recordPayload (d.eng n).chans) ∧
      ((d.eng n).viol = none → d.onN Reg.CAP_ENGn_CFG.PASS_DROP n = true →
        t.dev.get Reg.CAP_CNT_PASSDROP.N =
          min (d.get Reg.CAP_CNT_PASSDROP.N + 1) (2 ^ Reg.CAP_CNT_PASSDROP.N.width - 1) ∧
        (d.onN Reg.CAP_ENGn_CFG.REARM n = false → engState t.dev n = 0))) ∧
  (∀ (s : State) (n : Nat), n < 8 → (engState s.dev n ≠ 5 ∧ engState s.dev n ≠ 6) ∨
      s.dev.onN Reg.CAP_ENGn_CFG.DELIVER n = false ∨ (s.dev.eng n).len ≤ (s.dev.eng n).pos ∨
      ringIs s.dev (s.dev.getN Reg.CAP_ENGn_CFG.RING n) clsCapt = false ∨
      ringFree s.dev (s.dev.getN Reg.CAP_ENGn_CFG.RING n) = false →
    exec (.captureDeliver n) s = .next (s.after s.dev)) ∧
  (∀ (s : State) (n : Nat) (b : Posted) (rest : List Posted), n < 8 → engState s.dev n = 5 ∨ engState s.dev n = 6 →
    s.dev.onN Reg.CAP_ENGn_CFG.DELIVER n = true → (s.dev.eng n).pos < (s.dev.eng n).len →
    ringIs s.dev (s.dev.getN Reg.CAP_ENGn_CFG.RING n) clsCapt = true →
    ringFree s.dev (s.dev.getN Reg.CAP_ENGn_CFG.RING n) = true →
    (s.dev.ring (s.dev.getN Reg.CAP_ENGn_CFG.RING n)).posted = b :: rest →
    ∃ t, exec (.captureDeliver n) s = .next t ∧
      (t.dev.eng n).pos = (s.dev.eng n).pos + min b.len ((s.dev.eng n).len - (s.dev.eng n).pos) ∧
      (t.dev.eng n).len = (s.dev.eng n).len ∧ engState t.dev n = engState s.dev n) ∧
  (∀ (s : State) (n : Nat), n < 8 → s.dev.up islCap = true →
    ((engState s.dev n ≠ 5 ∧ engState s.dev n ≠ 6) ∨
      (s.dev.onN Reg.CAP_ENGn_CFG.DELIVER n = true ∧ (s.dev.eng n).pos ≠ (s.dev.eng n).len) →
      exec (.captureRelease n) s = .next (s.after s.dev)) ∧
    (engState s.dev n = 5 ∨ engState s.dev n = 6 →
      s.dev.onN Reg.CAP_ENGn_CFG.DELIVER n = false ∨ (s.dev.eng n).pos = (s.dev.eng n).len →
      (engState s.dev n = 6 ∨ s.dev.onN Reg.CAP_ENGn_CFG.REARM n = false →
        exec (.captureRelease n) s = .next (s.after (engIdle n s.dev))) ∧
      (engState s.dev n = 5 → s.dev.onN Reg.CAP_ENGn_CFG.REARM n = true →
        exec (.captureRelease n) s = .next (s.after (engArmCheck s.time n false (engIdle n s.dev)))))))

/-- R462, R463 and R491: a control block with allowed fields starts its ring empty, a refused one leaves the ring off with
EN_STATUS REJECTED and HIF_INT cause 4, one that cannot be read shows DMA_ERR too, and a size of 0 is SKIPPED_ZERO; a ring
that is on takes no second enable. A running ring that is disabled stops: the descriptors of a host-to-device ring that had
not started complete with ABORTED_RESET, and the buffers of a device-to-host ring are given up; a stopping ring with nothing
left is off. R464 to R467, R471 and R634: a doorbell that names no running ring, or moves PROD or CCONS out of range, is
ignored, counted and reported; an accepted one stores PROD and CCONS and takes the descriptors read; a malformed descriptor
completes at once without being performed; polling does the same with the words the device reads. R467, R469, R478, R480,
R481, R483 and R486: the oldest completion that nothing holds back is written in the next slot with its phase, the control
block is written back, and its token advances; a fence it completes lets the rest of its ring start, and moderation requests
its message. Without a free slot, or while the host is quiet, it waits. R470, R480 to R483: the head of a host-to-device
ring. A NOP completes with OK; a FENCE does once everything before it is complete, and holds the rest; a head that waits on
a token starts when the token reaches its value, and completes with LIMIT_EXCEEDED when it has waited too long. A buffer
that is posted joins its ring's, and a descriptor without one completes in its turn. A command that does not fit the head
changes nothing. Where it rests on the model's reading, log entries 44 and 48 say so. -/
def Obligations.RingLifecycle : Prop :=
  ((∀ (s : State) (n : Nat) (cb : Option DescWords), 256 ≤ n ∨ (s.dev.up islHst = true ∧
      (ringState s.dev n ≠ 0 ∨ s.dev.onN Reg.HIF_RINGn_CTRL.EN n = true)) →
    exec (.ringEnable n cb) s = .next (s.after s.dev)) ∧
  (∀ (s : State) (n : Nat), n < 256 → s.dev.up islHst = true → ringState s.dev n = 0 →
    s.dev.onN Reg.HIF_RINGn_CTRL.EN n = false →
    ∃ t, exec (.ringEnable n none) s = .next t ∧ ringState t.dev n = 0 ∧ t.dev.onN Reg.HIF_RINGn_CTRL.EN n = false ∧
      t.dev.getN Reg.HIF_RINGn_STAT.EN_STATUS n = stRejected ∧ t.dev.getN Reg.HIF_RINGn_STAT.DMA_ERR n = 1 ∧
      bitOf (t.dev.word intHif.addr) 2 = true ∧ bitOf (t.dev.word intHif.addr) 4 = true ∧
      t.dev.get Reg.HIF_ERR_RING.RING = n ∧ t.dev.hif.rings = s.dev.hif.rings) ∧
  (∀ (s : State) (n : Nat) (cb : DescWords), n < 256 → s.dev.up islHst = true → ringState s.dev n = 0 →
    s.dev.onN Reg.HIF_RINGn_CTRL.EN n = false →
    (bits (dw cb 4) 0 8 ≠ 0 → ringRefused (ringOfBlock cb s.time.loc) = false →
      ∃ t, exec (.ringEnable n (some cb)) s = .next t ∧ ringState t.dev n = 1 ∧
        t.dev.onN Reg.HIF_RINGn_CTRL.EN n = true ∧ t.dev.getN Reg.HIF_RINGn_STAT.EN_STATUS n = stOk ∧
        t.dev.getN Reg.HIF_RINGn_DCONS.N n = 0 ∧ t.dev.getN Reg.HIF_RINGn_CPROD.N n = 0 ∧
        t.dev.ring n = ringOfBlock cb s.time.loc ∧ (∀ m, m ≠ n → t.dev.ring m = s.dev.ring m)) ∧
    (bits (dw cb 4) 0 8 ≠ 0 → ringRefused (ringOfBlock cb s.time.loc) = true →
      exec (.ringEnable n (some cb)) s =
        .next (s.after ((s.dev.setN Reg.HIF_RINGn_STAT.EN_STATUS n stRejected).cause intHif 4 n stRejected))) ∧
    (bits (dw cb 4) 0 8 = 0 →
      exec (.ringEnable n (some cb)) s = .next (s.after (s.dev.setN Reg.HIF_RINGn_STAT.EN_STATUS n stSkipped)))) ∧
  (∀ (s : State) (n : Nat), 256 ≤ n → exec (.ringDisable n) s = .next (s.after s.dev)) ∧
  (∀ (s : State) (n : Nat), n < 256 → s.dev.up islHst = true → ringState s.dev n = 0 ∨ ringState s.dev n = 2 →
    exec (.ringDisable n) s = .next (s.after (s.dev.setN Reg.HIF_RINGn_CTRL.EN n 0))) ∧
  (∀ (s : State) (n : Nat), n < 256 → s.dev.up islHst = true → ringState s.dev n ≠ 0 → ringState s.dev n ≠ 2 →
    ∃ t, exec (.ringDisable n) s = .next t ∧ ringState t.dev n = 2 ∧ t.dev.onN Reg.HIF_RINGn_CTRL.EN n = false ∧
      (t.dev.ring n).taken = [] ∧
      (toHost (s.dev.ring n).cls = false → s.dev.dsp.waits = [] → s.dev.dsp.timed = [] →
        (t.dev.ring n).started = (s.dev.ring n).started ∧
        (t.dev.ring n).owed = (s.dev.ring n).owed ++
          (s.dev.ring n).taken.map (fun h => owedOf (s.dev.ring n).cls h.idx h.words stAborted 0 [])) ∧
      (toHost (s.dev.ring n).cls = true → (t.dev.ring n).posted = [] ∧
        (s.dev.adc.diag = [] → s.dev.dsp.waits = [] → s.dev.dsp.timed = [] → (t.dev.ring n).owed = (s.dev.ring n).owed))) ∧
  (∀ (s : State) (n : Nat), ringState s.dev n = 2 → (s.dev.ring n).started = [] → (s.dev.ring n).owed = [] → n < 256 →
    ∃ t, exec (.ringStopped n) s = .next t ∧ ringState t.dev n = 0 ∧ t.dev.ring n = default ∧
      ∀ m, m ≠ n → t.dev.ring m = s.dev.ring m) ∧
  (∀ (s : State) (n : Nat), ringState s.dev n ≠ 2 ∨ (s.dev.ring n).started ≠ [] ∨ (s.dev.ring n).owed ≠ [] →
    exec (.ringStopped n) s = .next (s.after s.dev))) ∧
  ((∀ (s : State) (ofs size v : Nat) (ds : List DescWords), s.dev.up islHst = false →
    exec (.doorbell ofs size v ds) s = .next (s.after s.dev)) ∧
  (∀ (s : State) (ofs size v : Nat) (ds : List DescWords), s.dev.up islHst = true →
    (0x7FF < ofs ∨ ¬ ((size = 8 ∧ ofs % 8 = 0) ∨ (size = 4 ∧ ofs % 4 = 0)) →
      exec (.doorbell ofs size v ds) s = .next (s.after ((s.dev.sat Reg.HIF_CNT_DBX.N).cause intHif 0 0 0))) ∧
    (ofs ≤ 0x7FF → size = 8 → ofs % 8 = 0 → exec (.doorbell ofs size v ds) s =
      .next (s.after (doorbell s.time (ofs / 8) (some (v % 2 ^ 32)) (some (v / 2 ^ 32 % 2 ^ 32)) ds s.dev))) ∧
    (ofs ≤ 0x7FF → size = 4 → ofs % 8 = 0 → exec (.doorbell ofs size v ds) s =
      .next (s.after (doorbell s.time (ofs / 8) (some (v % 2 ^ 32)) none ds s.dev))) ∧
    (ofs ≤ 0x7FF → size = 4 → ofs % 8 = 4 → exec (.doorbell ofs size v ds) s =
      .next (s.after (doorbell s.time (ofs / 8) none (some (v % 2 ^ 32)) ds s.dev)))) ∧
  (∀ (t : Time) (d : Dev) (n p c : Nat) (ds : List DescWords), p < 2 ^ 32 → c < 2 ^ 32 →
    (ringState d n ≠ 1 ∨ sdiff (2 ^ 32) p (d.ring n).prod < 0 ∨
        ringSize (d.ring n) < (p + 2 ^ 32 - d.getN Reg.HIF_RINGn_DCONS.N n) % 2 ^ 32 ∨
        sdiff (2 ^ 32) c (d.ring n).ccons < 0 ∨ 0 < sdiff (2 ^ 32) c (d.getN Reg.HIF_RINGn_CPROD.N n) →
      doorbell t n (some p) (some c) ds d =
        ((d.sat Reg.HIF_CNT_DBX.N).cause intHif 0 n 0).setN Reg.HIF_RINGn_STAT.DB_BAD n 1) ∧
    (ringState d n = 1 → 0 ≤ sdiff (2 ^ 32) p (d.ring n).prod →
      (p + 2 ^ 32 - d.getN Reg.HIF_RINGn_DCONS.N n) % 2 ^ 32 ≤ ringSize (d.ring n) →
      0 ≤ sdiff (2 ^ 32) c (d.ring n).ccons → sdiff (2 ^ 32) c (d.getN Reg.HIF_RINGn_CPROD.N n) ≤ 0 →
      doorbell t n (some p) (some c) ds d = takeDescs t n ds (d.setRing n { d.ring n with prod := p, ccons := c }))) ∧
  (∀ (t : Time) (d : Dev) (n : Nat) (ws : DescWords) (rest : List DescWords),
    ringRuns d n = false ∨ hifQuiet d = true ∨ nextDesc d n = (d.ring n).prod → takeDescs t n (ws :: rest) d = d) ∧
  (∀ (s : State) (n v : Nat) (ws : DescWords), s.dev.up islHst = true → n < 256 → ringState s.dev n = 1 →
    hifQuiet s.dev = false → (s.dev.ring n).prod = 0 → s.dev.getN Reg.HIF_RINGn_DCONS.N n = 0 → v = 1 →
    toHost (s.dev.ring n).cls = false → (s.dev.ring n).taken = [] → (s.dev.ring n).ccons = 0 →
    s.dev.getN Reg.HIF_RINGn_CPROD.N n = 0 →
    ∃ t, exec (.doorbell (8 * n) 4 v [ws]) s = .next t ∧ (t.dev.ring n).prod = 1 ∧
      t.dev.getN Reg.HIF_RINGn_DCONS.N n = 1 ∧
      (descBad (s.dev.ring n).cls ws = true → (t.dev.ring n).taken = [] ∧
        (t.dev.ring n).owed = (s.dev.ring n).owed ++ [owedOf (s.dev.ring n).cls 0 ws stMalformed 0 []]) ∧
      (descBad (s.dev.ring n).cls ws = false → (s.dev.ring n).cls ≠ clsMbox →
        (t.dev.ring n).taken = [⟨0, ws, false⟩] ∧ (t.dev.ring n).owed = (s.dev.ring n).owed)) ∧
  (∀ (s : State) (n prod ccons : Nat) (ds : List DescWords), n < 256 → ringRuns s.dev n = true →
    (s.dev.ring n).poll = true → s.dev.get Reg.HIF_POLL_NS.NS ≠ 0 →
    max 250 (s.dev.get Reg.HIF_POLL_NS.NS) ≤ s.time.loc - (s.dev.ring n).lastPoll →
    exec (.ringPoll n prod ccons ds) s = .next (s.after (doorbell s.time n (some prod) (some ccons) ds
      (s.dev.setRing n { s.dev.ring n with lastPoll := s.time.loc })))) ∧
  (∀ (s : State) (n prod ccons : Nat) (ds : List DescWords), 256 ≤ n ∨ ringRuns s.dev n = false ∨
    (s.dev.ring n).poll = false ∨ s.dev.get Reg.HIF_POLL_NS.NS = 0 ∨
    s.time.loc < (s.dev.ring n).lastPoll + max 250 (s.dev.get Reg.HIF_POLL_NS.NS) →
    exec (.ringPoll n prod ccons ds) s = .next (s.after s.dev))) ∧
  ((∀ (s : State) (n : Nat) (o : Owed), n < 256 → hifQuiet s.dev = false → ringState s.dev n ≠ 0 →
    slotsUsed s.dev n < ringSize (s.dev.ring n) → nextOwed (s.dev.ring n) = some o →
    (∀ k, o.sig = some k → k < 64) → (∀ p, o.stampPort = some p → p < 16) →
    ∃ t c, exec (.completionWrite n) s = .next t ∧ (t.dev.ring n).owed = (s.dev.ring n).owed.erase o ∧
      c.tag = o.tag ∧ c.status = o.status ∧ c.len = o.len ∧ c.more = o.more ∧ c.ext = o.ext ∧ c.t = s.time.st32 ∧
      c.didx = o.idx % ringSize (s.dev.ring n) ∧
      c.phase = 1 - (s.dev.getN Reg.HIF_RINGn_CPROD.N n >>> (s.dev.ring n).log2) % 2 ∧
      t.dev.hif.sent = s.dev.hif.sent ++ [.completion ((s.dev.ring n).cbase +
        32 * (s.dev.getN Reg.HIF_RINGn_CPROD.N n % ringSize (s.dev.ring n))) c,
        .writeBack (s.dev.getN Reg.HIF_RINGn_CBA_LO.ADDR n * 64 + 2 ^ 32 * s.dev.getN Reg.HIF_RINGn_CBA_HI.ADDR n)
          (s.dev.getN Reg.HIF_RINGn_DCONS.N n) ((s.dev.getN Reg.HIF_RINGn_CPROD.N n + 1) % 2 ^ 32) (s.dev.ring n).drop] ∧
      t.dev.getN Reg.HIF_RINGn_CPROD.N n = (s.dev.getN Reg.HIF_RINGn_CPROD.N n + 1) % 2 ^ 32 ∧
      (t.dev.ring n).fence = (if (s.dev.ring n).fence = some o.idx then none else (s.dev.ring n).fence) ∧
      (∀ k, k < 64 → t.dev.getN Reg.HIF_TOKk.VAL k =
        if o.sig = some k then (s.dev.getN Reg.HIF_TOKk.VAL k + 1) % 2 ^ 16 else s.dev.getN Reg.HIF_TOKk.VAL k) ∧
      ((s.dev.ring n).irqEn = true → o.irq = true ∨ max 1 (s.dev.ring n).modCnt ≤ (s.dev.ring n).modCount + 1 →
        (s.dev.ring n).vec ∈ t.dev.hif.msgReq ∧ (t.dev.ring n).modCount = 0) ∧
      ((s.dev.ring n).irqEn = true → o.irq = false → (s.dev.ring n).modCount + 1 < (s.dev.ring n).modCnt →
        (t.dev.ring n).modCount = (s.dev.ring n).modCount + 1)) ∧
  (∀ (s : State) (n : Nat), hifQuiet s.dev = true ∨ ringSize (s.dev.ring n) ≤ slotsUsed s.dev n ∨ 256 ≤ n ∨
      ringState s.dev n = 0 ∨ nextOwed (s.dev.ring n) = none →
    exec (.completionWrite n) s = .next (s.after s.dev))) ∧
  ((∀ (s : State) (n : Nat) (h : Taken), n < 256 → headReady s.dev n = some h → toHost (s.dev.ring n).cls = false →
    dOpcode h.words = 0 →
    exec (.descNop n) s = .next (s.after (completeHead s.time n h stOk 0 [] s.dev))) ∧
  (∀ (s : State) (n : Nat), headReady s.dev n = none →
    exec (.descNop n) s = .next (s.after s.dev) ∧ exec (.descFence n) s = .next (s.after s.dev) ∧
      exec (.bufPost n) s = .next (s.after s.dev)) ∧
  (∀ (s : State) (n : Nat) (h : Taken), n < 256 → headReady s.dev n = some h → toHost (s.dev.ring n).cls = false →
    dOpcode h.words = 1 → (s.dev.ring n).started = [] → (s.dev.ring n).owed = [] →
    ∃ t, exec (.descFence n) s = .next t ∧ (t.dev.ring n).fence = some h.idx ∧
      (t.dev.ring n).owed = [owedOf (s.dev.ring n).cls h.idx h.words stOk 0 []] ∧ headReady t.dev n = none) ∧
  (∀ (s : State) (n : Nat) (h : Taken) (rest : List Taken), n < 256 → (s.dev.ring n).taken = h :: rest →
    ringRuns s.dev n = true → toHost (s.dev.ring n).cls = false → dWait h.words = true →
    exec (.tokenWaitStart n) s = .next (s.after (
      if tokenReached s.dev (dWaitTok h.words) (dWaitVal h.words) = true then
        s.dev.setRing n { s.dev.ring n with taken := { h with released := true } :: rest } else s.dev))) ∧
  (∀ (s : State) (n : Nat) (h : Taken), headReady s.dev n = some h →
    (256 ≤ n ∨ toHost (s.dev.ring n).cls = true ∨ dOpcode h.words ≠ 0 → exec (.descNop n) s = .next (s.after s.dev)) ∧
    (256 ≤ n ∨ toHost (s.dev.ring n).cls = true ∨ dOpcode h.words ≠ 1 ∨ (s.dev.ring n).started ≠ [] ∨
      (s.dev.ring n).owed ≠ [] → exec (.descFence n) s = .next (s.after s.dev)) ∧
    (256 ≤ n ∨ toHost (s.dev.ring n).cls = false → exec (.bufPost n) s = .next (s.after s.dev))) ∧
  (∀ (s : State) (n : Nat), 256 ≤ n ∨ ringRuns s.dev n = false ∨ toHost (s.dev.ring n).cls = true ∨
      (s.dev.ring n).taken.head?.map (fun h => dWait h.words) ≠ some true →
    exec (.tokenWaitStart n) s = .next (s.after s.dev) ∧ exec (.fenceTimeout n) s = .next (s.after s.dev)) ∧
  (∀ (s : State) (n : Nat) (h : Taken) (rest : List Taken), n < 256 → (s.dev.ring n).taken = h :: rest →
    ringRuns s.dev n = true → toHost (s.dev.ring n).cls = false → dWait h.words = true →
    (h.released = false → (s.dev.ring n).fence = none →
      tokenReached s.dev (dWaitTok h.words) (dWaitVal h.words) = false → s.dev.get Reg.HIF_FENCE.TMO ≠ 0 →
      (s.dev.ring n).headSince + s.dev.get Reg.HIF_FENCE.TMO * 1000000 < s.time.loc →
      exec (.fenceTimeout n) s = .next (s.after
        ((completeHead s.time n h stLimit 0 [] s.dev).cause intHif 1 n stLimit))) ∧
    (h.released = true ∨ (s.dev.ring n).fence ≠ none ∨ tokenReached s.dev (dWaitTok h.words) (dWaitVal h.words) = true ∨
      s.dev.get Reg.HIF_FENCE.TMO = 0 ∨
      s.time.loc ≤ (s.dev.ring n).headSince + s.dev.get Reg.HIF_FENCE.TMO * 1000000 →
      exec (.fenceTimeout n) s = .next (s.after s.dev))) ∧
  (∀ (s : State) (n : Nat) (h : Taken) (b : Posted), n < 256 → headReady s.dev n = some h → toHost (s.dev.ring n).cls = true →
    b = ⟨h.idx, dTag h.words, dIrq h.words, dAddr h.words, dLen h.words, bufStatus (s.dev.ring n).cls h.words⟩ →
    ∃ t, exec (.bufPost n) s = .next t ∧ (t.dev.ring n).taken = (s.dev.ring n).taken.tail ∧ t.dev.hif.sent = s.dev.hif.sent ∧
      (((s.dev.ring n).posted = [] → b.st = stOk) → (∀ x, (s.dev.ring n).posted.head? = some x → x.st = stOk) →
        (t.dev.ring n).posted = (s.dev.ring n).posted ++ [b] ∧ (t.dev.ring n).owed = (s.dev.ring n).owed) ∧
      ((s.dev.ring n).posted = [] → b.st ≠ stOk → (t.dev.ring n).posted = [] ∧
        (t.dev.ring n).owed = (s.dev.ring n).owed ++ [⟨b.idx, b.tag, b.st, false, 0, [], false, b.irq, none, none⟩])))

/-- R127, R155 and R473 to R475: the descriptors that carry data. A block command outside its limits is REJECTED, one of length
0 is skipped, and any other reads or writes its registers one after another in ascending order. A SEND to a field port is
started and its frame is sent, on both ports of a pair; one that is empty, too long, for the odd port of a pair or for a
port in reset completes without being started; an injected frame waits for ingest. A head that is none of these stays where
it is. R491, R492, R605 and R606: a descriptor read that fails puts a running ring into its error state, and the descriptors
of a host-to-device ring that had not started complete with ABORTED_RESET; a failed buffer read completes its descriptor
with REJECTED, a compression job's as a job that is refused. A read that the ring does not make fails nothing. Where it
rests on the model's reading, log entries 47 and 49 say so. -/
def Obligations.DataDescriptors : Prop :=
  ((∀ (s : State) (n : Nat) (ws : List Word32), startable s.dev n clsCmd 0x10 = none →
    exec (.cmdWriteBlock n ws) s = .next (s.after s.dev)) ∧
  (∀ (s : State) (n : Nat), startable s.dev n clsCmd 0x11 = none → exec (.cmdReadBlock n) s = .next (s.after s.dev)) ∧
  (∀ (s : State) (n : Nat) (h : Taken) (ws : List Word32), startable s.dev n clsCmd 0x10 = some h →
    (blkBad h.words = true →
      exec (.cmdWriteBlock n ws) s = .next (s.after (completeHead s.time n h stRejected 0 [] s.dev))) ∧
    (blkBad h.words = false → dLen h.words = 0 →
      exec (.cmdWriteBlock n ws) s = .next (s.after (completeHead s.time n h stSkipped 0 [] s.dev))) ∧
    (blkBad h.words = false → dLen h.words ≠ 0 →
      exec (.cmdWriteBlock n ws) s = .next (s.after (endStarted n h.idx stOk (dLen h.words) [] none
        ((List.range (dLen h.words / 4)).foldl (fun d i => busWrite s.time s.log (blkOfs h.words + 4 * i) (ws.getD i 0) d)
          (startHead s.time n h s.dev)))))) ∧
  (∀ (s : State) (n : Nat) (h : Taken), startable s.dev n clsCmd 0x11 = some h →
    (blkBad h.words = true →
      exec (.cmdReadBlock n) s = .next (s.after (completeHead s.time n h stRejected 0 [] s.dev))) ∧
    (blkBad h.words = false → dLen h.words = 0 →
      exec (.cmdReadBlock n) s = .next (s.after (completeHead s.time n h stSkipped 0 [] s.dev))) ∧
    (blkBad h.words = false → dLen h.words ≠ 0 → ∃ ws d, exec (.cmdReadBlock n) s = .next (s.after
      (endStarted n h.idx stOk (dLen h.words) [] none (hostWrite (.data (dAddr h.words) (ws.flatMap fun w => le 4 w.toNat)
        ((startHead s.time n h s.dev).on Reg.HIF_CTRL.RO_EN)) d))) ∧ ws.length = dLen h.words / 4 ∧
      (ws, d) = readBlockWords s.time (blkOfs h.words) (dLen h.words / 4) (startHead s.time n h s.dev)) ∧
    (blkBad h.words = false → dLen h.words = 4 → exec (.cmdReadBlock n) s = .next (s.after (
      let d := busRead s.time .cmd (blkOfs h.words) (startHead s.time n h s.dev)
      endStarted n h.idx stOk 4 [] none (hostWrite (.data (dAddr h.words) (le 4 ((d.path .cmd).rd).toNat)
        ((startHead s.time n h s.dev).on Reg.HIF_CTRL.RO_EN)) d))))) ∧
  (∀ (s : State) (n : Nat) (bytes : List Byte) (f : RxFrame), startable s.dev n clsTxh 0x10 = none →
    exec (.txhSend n bytes) s = .next (s.after s.dev) ∧ exec (.txhInject n f) s = .next (s.after s.dev)) ∧
  (∀ (s : State) (n p : Nat) (h : Taken) (bytes : List Byte) (f : RxFrame), startable s.dev n clsTxh 0x10 = some h →
    p = txhDest h.words → (16 ≤ p → exec (.txhSend n bytes) s = .next (s.after s.dev)) ∧
      (p ≠ 20 → exec (.txhInject n f) s = .next (s.after s.dev)) ∧
      (p = 20 → dLen h.words = 0 →
        exec (.txhInject n f) s = .next (s.after (completeHead s.time n h stSkipped 0 [] s.dev))) ∧
      (p = 20 → dLen h.words ≠ 0 → s.dev.up islIng = false →
        exec (.txhInject n f) s = .next (s.after (completeHead s.time n h stAborted 0 (txExt none 20) s.dev)))) ∧
  (∀ (s : State) (n p m : Nat) (h : Taken) (bytes : List Byte), startable s.dev n clsTxh 0x10 = some h →
    p = txhDest h.words → m = pairMode s.dev p → p < 16 →
    (dLen h.words = 0 →
      exec (.txhSend n bytes) s = .next (s.after (completeHead s.time n h stSkipped 0 [] s.dev))) ∧
    (dLen h.words ≠ 0 → m ≠ 0 → p % 2 = 1 → exec (.txhSend n bytes) s =
      .next (s.after (completeHead s.time n h stRejected 0 (txExt none p) s.dev))) ∧
    (dLen h.words ≠ 0 → m = 0 ∨ p % 2 = 0 →
      s.dev.getN Reg.FP_FRAME.MAX_LEN p < dLen h.words + 4 + (if m = 0 then 0 else 6) →
      exec (.txhSend n bytes) s = .next (s.after (completeHead s.time n h stMalformed 0 (txExt none p) s.dev))) ∧
    (dLen h.words ≠ 0 → m = 0 ∨ p % 2 = 0 →
      dLen h.words + 4 + (if m = 0 then 0 else 6) ≤ s.dev.getN Reg.FP_FRAME.MAX_LEN p → s.dev.up (islPrt p) = false →
      exec (.txhSend n bytes) s = .next (s.after (completeHead s.time n h stAborted 0 (txExt none p) s.dev))) ∧
    (dLen h.words ≠ 0 → m = 0 ∨ p % 2 = 0 →
      dLen h.words + 4 + (if m = 0 then 0 else 6) ≤ s.dev.getN Reg.FP_FRAME.MAX_LEN p → s.dev.up (islPrt p) = true →
      ∃ f d, exec (.txhSend n bytes) s = .next (s.after (sendTx p f d)) ∧ f.org = .desc n h.idx ∧
        f.len = dLen h.words + 4 ∧ f.bytes = slice bytes 0 (dLen h.words) ∧ f.tc = dByte h.words 25 % 8 ∧
        (d.ring n).started = (s.dev.ring n).started ++ [(h.idx, h.words)] ∧
        (d.ring n).taken = (s.dev.ring n).taken.tail ∧ d.ports = s.dev.ports ∧ d.regs = s.dev.regs ∧
        (m = 0 → d.pairs = s.dev.pairs) ∧
        (m ≠ 0 → (d.pair (p / 2)).waits = (s.dev.pair (p / 2)).waits ++ [⟨n, h.idx, h.words, none, none⟩]))) ∧
  (∀ (s : State) (n : Nat) (h : Taken) (bytes : List Byte), startable s.dev n clsTxh 0x10 = some h →
    txhDest h.words < 16 → dLen h.words ≠ 0 → pairMode s.dev (txhDest h.words) = 0 →
    dLen h.words + 4 ≤ s.dev.getN Reg.FP_FRAME.MAX_LEN (txhDest h.words) → s.dev.up (islPrt (txhDest h.words)) = true →
    ∃ t f, exec (.txhSend n bytes) s = .next t ∧ f.org = .desc n h.idx ∧ f.len = dLen h.words + 4 ∧
      f.bytes = slice bytes 0 (dLen h.words) ∧ f.tc = dByte h.words 25 % 8 ∧
      (t.dev.ring n).started = (s.dev.ring n).started ++ [(h.idx, h.words)] ∧
      tget (t.dev.port (txhDest h.words)).queues f.tc = tget (s.dev.port (txhDest h.words)).queues f.tc ++ [f] ∧
      ∀ m, m ≠ txhDest h.words → t.dev.port m = s.dev.port m) ∧
  (∀ (s : State) (n : Nat) (h : Taken) (f : RxFrame), startable s.dev n clsTxh 0x10 = some h →
    txhDest h.words = 20 → dLen h.words ≠ 0 → s.dev.up islIng = true →
    ∃ t x, exec (.txhInject n f) s = .next t ∧ x.ring = n ∧ x.idx = h.idx ∧ x.frame = { f with len := dLen h.words + 4 } ∧
      x.arrQ = (if (dByte h.words 25).testBit 5 then
        some ((dBytes h.words 34 6 * 1000000000 + dBytes h.words 40 4) * 4) else none) ∧
      t.dev.ing.injq = s.dev.ing.injq ++ [x] ∧ (t.dev.ring n).taken = (s.dev.ring n).taken.tail)) ∧
  ((∀ (s : State) (n : Nat), n < 256 → ringState s.dev n = 1 → nextDesc s.dev n ≠ (s.dev.ring n).prod →
    ∃ t, exec (.dmaReadFail n .descriptor) s = .next t ∧ ringState t.dev n = 3 ∧
      t.dev.getN Reg.HIF_RINGn_STAT.DMA_ERR n = 1 ∧ (t.dev.ring n).taken = [] ∧ t.dev.get Reg.HIF_ERR_RING.RING = n ∧
      (toHost (s.dev.ring n).cls = false → (t.dev.ring n).owed = (s.dev.ring n).owed ++
        (s.dev.ring n).taken.map (fun h => owedOf (s.dev.ring n).cls h.idx h.words stAborted 0 [])) ∧
      bitOf (t.dev.word intHif.addr) 2 = true) ∧
  (∀ (s : State) (n : Nat) (k : DmaRead), 256 ≤ n ∨ ringState s.dev n ≠ 1 →
    exec (.dmaReadFail n k) s = .next (s.after s.dev)) ∧
  (∀ (s : State) (n : Nat), nextDesc s.dev n = (s.dev.ring n).prod →
    exec (.dmaReadFail n .descriptor) s = .next (s.after s.dev)) ∧
  (∀ (s : State) (n : Nat), headReady s.dev n = none → exec (.dmaReadFail n .buffer) s = .next (s.after s.dev)) ∧
  (∀ (s : State) (n : Nat) (h : Taken), n < 256 → ringState s.dev n = 1 → headReady s.dev n = some h →
    (toHost (s.dev.ring n).cls = true ∨ dOpcode h.words ≤ 1 ∨
        ((s.dev.ring n).cls = clsCmpj ∧ cSrcHmp h.words = true) →
      exec (.dmaReadFail n .buffer) s = .next (s.after s.dev)) ∧
    (toHost (s.dev.ring n).cls = false → 1 < dOpcode h.words → (s.dev.ring n).cls ≠ clsCmpj →
      exec (.dmaReadFail n .buffer) s = .next (s.after
        ((completeHead s.time n h stRejected 0 [] s.dev).cause intHif 2 n stRejected))) ∧
    ((s.dev.ring n).cls = clsCmpj → 1 < dOpcode h.words → cSrcHmp h.words = false →
      exec (.dmaReadFail n .buffer) s = .next (s.after ((cmpRefuse s.time n h stRejected s.dev).cause intHif 2 n stRejected)) ∧
      ((cmpRefuse s.time n h stRejected s.dev).ring n).taken = (s.dev.ring n).taken.tail)))

/-- R485 to R490: messages and the host's presence. A requested message is sent while its vector is open, and pends while it is
masked; a mask that is lifted sends it. A host without heartbeat for TMO is stalled; a heartbeat ends that; a link that goes
down holds every host write. Where it rests on the model's reading, log entry 29 says so. -/
def Obligations.HostPresence : Prop :=
  (∀ (s : State) (v : Nat), v ∈ s.dev.hif.msgReq → msiOpen s.dev v = true →
    ∃ t, exec (.msixMessage v) s = .next t ∧ t.dev.hif.sent = s.dev.hif.sent ++ [.message v]) ∧
  (∀ (s : State) (v : Nat), v < 64 → v ∈ s.dev.hif.msgReq → msiOpen s.dev v = false →
    ∃ t, exec (.msixMessage v) s = .next t ∧ t.dev.hif.sent = s.dev.hif.sent ∧ pbaBit t.dev v = true) ∧
  (∀ (s : State) (v : Nat), v ∉ s.dev.hif.msgReq → exec (.msixMessage v) s = .next (s.after s.dev)) ∧
  (∀ (s : State) (n a : Nat), (s.dev.ring n).modSince = some a → (s.dev.ring n).irqEn = true → (s.dev.ring n).modTime ≠ 0 →
    a + (s.dev.ring n).modTime * 1000 ≤ s.time.loc →
    exec (.moderationTimer n) s = .next (s.after
      ((s.dev.setRing n { s.dev.ring n with modCount := 0, modSince := none }).request (s.dev.ring n).vec))) ∧
  (∀ (s : State) (n : Nat), (s.dev.ring n).modSince = none ∨ (s.dev.ring n).irqEn = false ∨ (s.dev.ring n).modTime = 0 ∨
      (∃ a, (s.dev.ring n).modSince = some a ∧ s.time.loc < a + (s.dev.ring n).modTime * 1000) →
    exec (.moderationTimer n) s = .next (s.after s.dev)) ∧
  (∀ (s : State) (c : MsixCtl), ∃ d, exec (.msixUnmask c) s = .next (s.after (msiFlush d)) ∧
    (∀ v, c = .vector v → v < 64 → s.dev.up islHst = true → d = s.dev.setN Reg.T_MSIX.MASK v 0) ∧
    (∀ v, c = .vector v → v < 64 → s.dev.up islHst = false →
      d = if s.dev.pwr.released then s.dev.set Reg.GLB_STATUS.ISL_RST_WR 1 else s.dev) ∧
    (∀ v, c = .vector v → 64 ≤ v → d = s.dev) ∧
    (∀ b, c = .funcMask b → d.hif = { s.dev.hif with funcMask := b } ∧ d.regs = s.dev.regs) ∧
    (∀ b, c = .enable b → d.hif = { s.dev.hif with msixEn := b } ∧ d.regs = s.dev.regs)) ∧
  (∀ (d : Dev), (d.hif.msixEn = false ∨ d.hif.funcMask = true ∨ hifQuiet d = true → msiFlush d = d) ∧
    ∀ v, v < 64 → (pbaBit d v = true → msiOpen d v = true →
        pbaBit (msiFlush d) v = false ∧ HostWrite.message v ∈ (msiFlush d).hif.sent) ∧
      (msiOpen d v = false → pbaBit (msiFlush d) v = pbaBit d v)) ∧
  (∀ (s : State), s.dev.up islHst = true → s.dev.get Reg.HIF_HB_CFG.TMO ≠ 0 → s.dev.on Reg.HIF_STATUS.STALL = false →
    s.dev.hif.lastHb + s.dev.get Reg.HIF_HB_CFG.TMO * 1000000 ≤ s.time.loc →
    ∃ t, exec .hostStall s = .next t ∧ t.dev.on Reg.HIF_STATUS.STALL = true ∧ bitOf (t.dev.word intHif.addr) 3 = true ∧
      t.dev.hif.rings = s.dev.hif.rings) ∧
  (∀ (s : State), s.dev.up islHst = false ∨ s.dev.get Reg.HIF_HB_CFG.TMO = 0 ∨ s.dev.on Reg.HIF_STATUS.STALL = true ∨
      s.time.loc < s.dev.hif.lastHb + s.dev.get Reg.HIF_HB_CFG.TMO * 1000000 →
    exec .hostStall s = .next (s.after s.dev)) ∧
  (∀ (s : State) (v : Word32), s.dev.up islHst = true →
    ∃ t, exec (.heartbeat v) s = .next t ∧ t.dev.on Reg.HIF_STATUS.STALL = false ∧ t.dev.hif.lastHb = s.time.loc ∧
      t.dev.get Reg.HIF_HB.CNT = v.toNat % 2 ^ Reg.HIF_HB.CNT.width ∧ t.dev.hif.rings = s.dev.hif.rings ∧
      (s.dev.on Reg.HIF_STATUS.LINK = true → t.dev.hif.linkHold = false) ∧
      (s.dev.on Reg.HIF_STATUS.LINK = false → t.dev.hif.linkHold = s.dev.hif.linkHold)) ∧
  (∀ (s : State), s.dev.on Reg.HIF_STATUS.LINK = true →
    ∃ t, exec .pcieLinkDown s = .next t ∧ t.dev.on Reg.HIF_STATUS.LINK = false ∧ t.dev.hif.linkHold = true ∧
      hifQuiet t.dev = true ∧ t.dev.on Reg.HIF_STATUS.STALL = true) ∧
  (∀ (s : State), s.dev.on Reg.HIF_STATUS.LINK = false → exec .pcieLinkDown s = .next (s.after s.dev))

/-- R21, R497, R498, R500, R514 and Table DSP-5: READY, CANCEL and SET_PRIO on the head of a DSPT ring. Without such a head
nothing happens; with MGT in reset the descriptor of any operation completes with ABORTED_RESET, and while Dispatch is off
with REJECTED. READY makes a BLOCKED thread READY at the tail of its list, ends the wait of one that waits, and refuses one
that is READY, RUNNING or FREE; CANCEL blocks a thread and SET_PRIO gives it its priority, and both refuse a FREE one. R496,
R497, R503 and R511: a thread entry. VALID makes a thread BLOCKED and is refused with DSP_INT cause 0 while the thread is
valid, for a processor that does not exist, or for a thread that needs a spill area and has none; VALID is cleared only on a
BLOCKED thread. TAKE with no NEXT answers 0; with one it makes that thread RUNNING on the processor and answers it, and the
thread that ran there goes to the head of its list. A spilled entry is read back while its store is below seven eighths, the
targets first, and one that cannot be read is lost; with nothing spilled there is nothing to fetch. Where it rests on the
model's reading, log entries 82 and 83 say so. -/
def Obligations.DispatchOperations : Prop :=
  ((∀ (s : State) (n : Nat),
    (startable s.dev n clsDspt 0x10 = none → exec (.dspReady n) s = .next (s.after s.dev)) ∧
    (startable s.dev n clsDspt 0x11 = none → exec (.dspDelay n) s = .next (s.after s.dev)) ∧
    (startable s.dev n clsDspt 0x12 = none → exec (.dspWait n) s = .next (s.after s.dev)) ∧
    (startable s.dev n clsDspt 0x13 = none → exec (.dspCancel n) s = .next (s.after s.dev)) ∧
    (startable s.dev n clsDspt 0x14 = none → exec (.dspSetPrio n) s = .next (s.after s.dev)) ∧
    (startable s.dev n clsDspt 0x15 = none → exec (.dspTimer n) s = .next (s.after s.dev))) ∧
  (∀ (s : State) (n : Nat) (h : Taken), s.dev.up islMgt = false →
    (startable s.dev n clsDspt 0x10 = some h → exec (.dspReady n) s = 
      .next (s.after (dspDone s.time n h stAborted 0 0 false s.dev))) ∧
    (startable s.dev n clsDspt 0x11 = some h → exec (.dspDelay n) s = 
      .next (s.after (dspDone s.time n h stAborted 0 0 false s.dev))) ∧
    (startable s.dev n clsDspt 0x12 = some h → exec (.dspWait n) s = 
      .next (s.after (dspDone s.time n h stAborted 0 0 false s.dev))) ∧
    (startable s.dev n clsDspt 0x13 = some h → exec (.dspCancel n) s = 
      .next (s.after (dspDone s.time n h stAborted 0 0 false s.dev))) ∧
    (startable s.dev n clsDspt 0x14 = some h → exec (.dspSetPrio n) s = 
      .next (s.after (dspDone s.time n h stAborted 0 0 false s.dev))) ∧
    (startable s.dev n clsDspt 0x15 = some h → exec (.dspTimer n) s = 
      .next (s.after (dspDone s.time n h stAborted 0 0 false s.dev)))) ∧
  (∀ (s : State) (n : Nat) (h : Taken), s.dev.up islMgt = true → dspOn s.dev = false →
    (startable s.dev n clsDspt 0x10 = some h → exec (.dspReady n) s = 
      .next (s.after (dspDone s.time n h stRejected 0 0 false s.dev))) ∧
    (startable s.dev n clsDspt 0x11 = some h → exec (.dspDelay n) s = 
      .next (s.after (dspDone s.time n h stRejected 0 0 false s.dev))) ∧
    (startable s.dev n clsDspt 0x12 = some h → exec (.dspWait n) s = 
      .next (s.after (dspDone s.time n h stRejected 0 0 false s.dev))) ∧
    (startable s.dev n clsDspt 0x13 = some h → exec (.dspCancel n) s = 
      .next (s.after (dspDone s.time n h stRejected 0 0 false s.dev))) ∧
    (startable s.dev n clsDspt 0x14 = some h → exec (.dspSetPrio n) s = 
      .next (s.after (dspDone s.time n h stRejected 0 0 false s.dev))) ∧
    (startable s.dev n clsDspt 0x15 = some h → exec (.dspTimer n) s = 
      .next (s.after (dspDone s.time n h stRejected 0 0 false s.dev)))) ∧
  (∀ (s : State) (n th : Nat) (h : Taken), dspOn s.dev = true → startable s.dev n clsDspt 0x10 = some h →
    th = dpThread h.words →
    (thState s.dev th = 1 → ∃ t, exec (.dspReady n) s = .next t ∧ thState t.dev th = 2 ∧
      th ∈ tget t.dev.dsp.ready (thCpu s.dev th * 64 + thPrio s.dev th) ∧
      (t.dev.ring n).taken = (s.dev.ring n).taken.tail ∧
      (t.dev.ring n).owed = (s.dev.ring n).owed ++ [owedOf clsDspt h.idx h.words stOk 0 (dspExt th 0 0 s.time.st32 0)]) ∧
    (∀ w, thState s.dev th = 4 ∨ thState s.dev th = 5 → tget s.dev.dsp.waits th = some w →
      ∃ t, exec (.dspReady n) s = .next t ∧ thState t.dev th = 2 ∧ tget t.dev.dsp.waits th = none ∧
        th ∈ tget t.dev.dsp.ready (thCpu s.dev th * 64 + thPrio s.dev th) ∧
        (t.dev.ring n).taken = (s.dev.ring n).taken.tail) ∧
    (thState s.dev th ∉ [1, 4, 5] →
      exec (.dspReady n) s = .next (s.after (dspDone s.time n h stRejected 0 0 false s.dev)))) ∧
  (∀ (s : State) (n th : Nat) (h : Taken), dspOn s.dev = true → startable s.dev n clsDspt 0x13 = some h →
    th = dpThread h.words →
    (thState s.dev th = 0 →
      exec (.dspCancel n) s = .next (s.after (dspDone s.time n h stRejected 0 0 false s.dev))) ∧
    (thState s.dev th ∉ [0, 4, 5] → ∃ t, exec (.dspCancel n) s = .next t ∧ thState t.dev th = 1 ∧
      (t.dev.ring n).taken = (s.dev.ring n).taken.tail) ∧
    (∀ w, thState s.dev th = 4 ∨ thState s.dev th = 5 → tget s.dev.dsp.waits th = some w →
      ∃ t, exec (.dspCancel n) s = .next t ∧ thState t.dev th = 1 ∧ tget t.dev.dsp.waits th = none)) ∧
  (∀ (s : State) (n th : Nat) (h : Taken), dspOn s.dev = true → startable s.dev n clsDspt 0x14 = some h →
    th = dpThread h.words →
    (thState s.dev th = 0 →
      exec (.dspSetPrio n) s = .next (s.after (dspDone s.time n h stRejected 0 0 false s.dev))) ∧
    (thState s.dev th ≠ 0 → ∃ t, exec (.dspSetPrio n) s = .next t ∧ thPrio t.dev th = dpPrio h.words ∧
      thState t.dev th = thState s.dev th ∧ (t.dev.ring n).taken = (s.dev.ring n).taken.tail))) ∧
  ((∀ (s : State) (th : Nat) (v : Word32), th < 2048 → s.dev.up islMgt = true →
    (bitOf v 0 = true → s.dev.onN Reg.T_THREAD.VALID th = true →
      exec (.threadValidate th v) s = .next (s.after (s.dev.cause intDsp 0 0 0))) ∧
    (bitOf v 0 = true → s.dev.onN Reg.T_THREAD.VALID th = false →
      18 ≤ bits v.toNat 1 5 ∨ (512 ≤ th ∧ s.dev.get Reg.DSP_SPILL_CFG.LOG2 = 0) →
      ∃ t, exec (.threadValidate th v) s = .next t ∧ t.dev.onN Reg.T_THREAD.VALID th = false ∧
        thState t.dev th = thState s.dev th ∧ bitOf (t.dev.word 0x10000C) 0 = true) ∧
    (bitOf v 0 = false → s.dev.onN Reg.T_THREAD.VALID th = false → exec (.threadValidate th v) s = .next (s.after
      ((s.dev.setN Reg.T_THREAD.CPU th (bits v.toNat 1 5)).setN Reg.T_THREAD.PRIO th (bits v.toNat 6 6)))) ∧
    (bitOf v 0 = true → s.dev.onN Reg.T_THREAD.VALID th = false → bits v.toNat 1 5 < 18 →
      th < 512 ∨ s.dev.get Reg.DSP_SPILL_CFG.LOG2 ≠ 0 →
      ∃ t, exec (.threadValidate th v) s = .next t ∧ t.dev.onN Reg.T_THREAD.VALID th = true ∧ thState t.dev th = 1 ∧
        thCpu t.dev th = bits v.toNat 1 5 ∧ thPrio t.dev th = bits v.toNat 6 6) ∧
    (bitOf v 0 = false → s.dev.onN Reg.T_THREAD.VALID th = true →
      (thState s.dev th = 1 → ∃ t, exec (.threadValidate th v) s = .next t ∧ t.dev.onN Reg.T_THREAD.VALID th = false ∧
        thState t.dev th = 0) ∧
      (thState s.dev th ≠ 1 → exec (.threadValidate th v) s = .next (s.after (s.dev.cause intDsp 0 0 0))))) ∧
  (∀ (s : State) (th : Nat) (v : Word32), 2048 ≤ th → exec (.threadValidate th v) s = .next (s.after s.dev)) ∧
  (∀ (s : State) (p : Path) (c th cur : Nat), mayTake p c s.dev = true → s.dev.onN Reg.DSP_CPUc_NEXT.VALID c = true →
    s.dev.onN Reg.DSP_CPUc_CUR.VALID c = true → th = s.dev.getN Reg.DSP_CPUc_NEXT.THREAD c →
    cur = s.dev.getN Reg.DSP_CPUc_CUR.THREAD c → th ≠ cur →
    ∃ t, exec (.dspTake p c) s = .next t ∧ thState t.dev th = 3 ∧ thState t.dev cur = 2 ∧
      t.dev.onN Reg.DSP_CPUc_CUR.VALID c = true ∧ t.dev.getN Reg.DSP_CPUc_CUR.THREAD c = th ∧
      cur ∈ tget t.dev.dsp.ready (thCpu s.dev cur * 64 + thPrio s.dev cur) ∧
      t.dev.get Reg.DSP_CNT_PREEMPT.N = min (s.dev.get Reg.DSP_CNT_PREEMPT.N + 1) (2 ^ 32 - 1) ∧
      (t.dev.path p).rd = BitVec.ofNat 32 (th + 2 ^ 11 * s.dev.getN Reg.DSP_CPUc_NEXT.PRIO c + 2 ^ 31)) ∧
  (∀ (s : State) (p : Path) (c : Nat),
    (mayTake p c s.dev = false → exec (.dspTake p c) s = .next (s.after s.dev)) ∧
    (mayTake p c s.dev = true → s.dev.onN Reg.DSP_CPUc_NEXT.VALID c = false →
      exec (.dspTake p c) s = .next (s.after (s.dev.answer p 0))) ∧
    (mayTake p c s.dev = true → s.dev.onN Reg.DSP_CPUc_NEXT.VALID c = true → s.dev.onN Reg.DSP_CPUc_CUR.VALID c = false →
      ∃ t, exec (.dspTake p c) s = .next t ∧ thState t.dev (s.dev.getN Reg.DSP_CPUc_NEXT.THREAD c) = 3 ∧
        t.dev.onN Reg.DSP_CPUc_CUR.VALID c = true ∧
        t.dev.getN Reg.DSP_CPUc_CUR.THREAD c = s.dev.getN Reg.DSP_CPUc_NEXT.THREAD c ∧
        t.dev.getN Reg.DSP_CPUc_USER.USER c = s.dev.getN Reg.T_THREAD.USER (s.dev.getN Reg.DSP_CPUc_NEXT.THREAD c) ∧
        (t.dev.path p).rd = BitVec.ofNat 32 (s.dev.getN Reg.DSP_CPUc_NEXT.THREAD c +
          2 ^ 11 * s.dev.getN Reg.DSP_CPUc_NEXT.PRIO c + 2 ^ 31))) ∧
  (∀ (s : State) (ok : Bool), s.dev.up islMgt = false ∨
      ((1792 ≤ (s.dev.dsp.timed.filter fun e => !e.spilled).length ∨ earliestSpilled s.time s.dev = none) ∧
        (448 ≤ (readyThreads s.dev).length - s.dev.dsp.spilledReady.length ∨ s.dev.dsp.spilledReady = [])) →
    exec (.spillFetch ok) s = .next (s.after s.dev)) ∧
  (∀ (s : State) (ok : Bool) (e : TimedEnt), s.dev.up islMgt = true →
    (s.dev.dsp.timed.filter fun e => !e.spilled).length < 1792 → earliestSpilled s.time s.dev = some e →
    exec (.spillFetch ok) s = .next (s.after (dspCounts (fetchTimed e ok s.dev))) ∧ e ∈ s.dev.dsp.timed ∧
      e.spilled = true ∧ { e with spilled := false } ∈ (fetchTimed e true s.dev).dsp.timed ∧
      bitOf ((fetchTimed e false s.dev).word 0x10000C) 4 = true ∧
      (∀ th w, e.own = .thread th → tget s.dev.dsp.waits th = some w →
        thState (fetchTimed e false s.dev) th = 1 ∧ tget (fetchTimed e false s.dev).dsp.waits th = none)) ∧
  (∀ (s : State) (ok : Bool) (th : Nat), s.dev.up islMgt = true →
    1792 ≤ (s.dev.dsp.timed.filter fun e => !e.spilled).length ∨ earliestSpilled s.time s.dev = none →
    (readyThreads s.dev).length - s.dev.dsp.spilledReady.length < 448 → highestSpilled s.dev = some th →
    exec (.spillFetch ok) s = .next (s.after (dspCounts (fetchReady th ok s.dev))) ∧ th ∈ s.dev.dsp.spilledReady ∧
      ∀ u ∈ s.dev.dsp.spilledReady, thPrio s.dev u ≤ thPrio s.dev th) ∧
  (∀ (s : State) (th : Nat), th < 2048 → s.dev.up islMgt = true → s.dev.dsp.spilledReady = [th] →
    (∀ e ∈ s.dev.dsp.timed, e.spilled = false) → (readyThreads s.dev).length < 449 →
    (∃ t, exec (.spillFetch true) s = .next t ∧ t.dev.dsp.spilledReady = [] ∧
      t.dev.getN Reg.T_THSTAT.SPILLED th = 0 ∧ t.dev.dsp.ready = s.dev.dsp.ready) ∧
    (∃ t, exec (.spillFetch false) s = .next t ∧ t.dev.dsp.spilledReady = [] ∧ thState t.dev th = 1 ∧
      bitOf (t.dev.word 0x10000C) 4 = true)))

/-- R503 to R506 and R510: DELAY and WAIT with their target still to come, and a WAIT without one, put the thread into DELAYED
or WAITING with its wait and its target held, while the store has room, and complete with NO_SPACE without it; TIMER holds
its target. A target that has come is taken up at once, and so is a WAIT for a spread that has closed. A tick acts once, on
every target whose tick boundary has come. R504: a timed target taken up within its tolerance makes its thread READY or
fires its timer, with OK or, after its tick boundary, with LATE; beyond its tolerance it completes with EXPIRED, the thread
stays BLOCKED and the timer's token stands. Where it rests on the model's reading, log entries 14 and 82 say so. -/
def Obligations.DispatchTime : Prop :=
  ((∀ (s : State) (n : Nat) (h : Taken), dspOn s.dev = true → startable s.dev n clsDspt 0x11 = some h →
    (mayWait s.dev (dpThread h.words) = false →
      exec (.dspDelay n) s = .next (s.after (dspDone s.time n h stRejected 0 0 false s.dev))) ∧
    (mayWait s.dev (dpThread h.words) = true → 0 < dspDue s.time s.dev (dpTime h.words) (dpEpoch h.words) →
      s.dev.dsp.timed.length < 2048 → ∃ t, exec (.dspDelay n) s = .next t ∧ thState t.dev (dpThread h.words) = 4 ∧
        tget t.dev.dsp.waits (dpThread h.words) = some ⟨n, h.idx, 1, dpArg h.words, dpEpoch h.words, dpEdge h.words⟩ ∧
        t.dev.dsp.timed = s.dev.dsp.timed ++
          [⟨.thread (dpThread h.words), dpTime h.words, dpEpoch h.words, dpTol h.words, false, false⟩] ∧
        t.dev.getN Reg.T_THSTAT.TARGET (dpThread h.words) = dpTime h.words % 2 ^ 32)) ∧
  (∀ (s : State) (n th : Nat) (h : Taken) (e : TimedEnt), dspOn s.dev = true → th = dpThread h.words →
    e = ⟨.thread th, dpTime h.words, dpEpoch h.words, dpTol h.words, false, false⟩ → mayWait s.dev th = true →
    (startable s.dev n clsDspt 0x11 = some h →
      (dspDue s.time s.dev e.target e.epoch ≤ 0 → exec (.dspDelay n) s = .next (s.after
        (timedFire s.time (-dspDue s.time s.dev e.target e.epoch).toNat e (beginWait s.time n h 1 4 s.dev)))) ∧
      (0 < dspDue s.time s.dev e.target e.epoch → holdTimed s.time e s.dev = none → exec (.dspDelay n) s = .next (s.after
        (dspDone s.time n h stNoSpace 0 0 false ((s.dev.sat Reg.DSP_CNT_NOSPACE.N).cause intDsp 3 0 stNoSpace)))) ∧
      (∀ d, 0 < dspDue s.time s.dev e.target e.epoch → holdTimed s.time e s.dev = some d → exec (.dspDelay n) s =
        .next (s.after ((beginWait s.time n h 1 4 d).setN Reg.T_THSTAT.TARGET th (dpTime h.words))))) ∧
    (startable s.dev n clsDspt 0x12 = some h →
      (∀ i, alreadyClosed s.dev h.words = some i → ∃ t, exec (.dspWait n) s = .next t ∧ thState t.dev th = 2 ∧
        tget t.dev.dsp.waits th = none) ∧
      (alreadyClosed s.dev h.words = none → dpTmo h.words = true → ∃ b, exec (.dspWait n) s = .next (s.after
          (waitTimed s.time n h b s.dev)) ∧ (∀ d, thState (b d) th = 5 ∧ (b d).onN Reg.T_THSTAT.TMO th = true) ∧
        (0 < dspDue s.time s.dev e.target e.epoch → holdTimed s.time e s.dev = none →
          waitTimed s.time n h b s.dev = dspDone s.time n h stNoSpace 0 0 false
            ((s.dev.sat Reg.DSP_CNT_NOSPACE.N).cause intDsp 3 0 stNoSpace)) ∧
        (∀ d, 0 < dspDue s.time s.dev e.target e.epoch → holdTimed s.time e s.dev = some d →
          waitTimed s.time n h b s.dev = (b d).setN Reg.T_THSTAT.TARGET th (dpTime h.words)) ∧
        (dspDue s.time s.dev e.target e.epoch ≤ 0 →
          waitTimed s.time n h b s.dev = timedFire s.time (-dspDue s.time s.dev e.target e.epoch).toNat e (b s.dev))))) ∧
  (∀ (s : State) (n : Nat) (h : Taken) (e : TimedEnt), dspOn s.dev = true → startable s.dev n clsDspt 0x15 = some h →
    e = ⟨.timer n h.idx (bits (dpArg h.words) 0 6), dpTime h.words, dpEpoch h.words, dpTol h.words, false, false⟩ →
    (dspDue s.time s.dev e.target e.epoch ≤ 0 → exec (.dspTimer n) s = .next (s.after
      (timedFire s.time (-dspDue s.time s.dev e.target e.epoch).toNat e (startHead s.time n h s.dev)))) ∧
    (0 < dspDue s.time s.dev e.target e.epoch → holdTimed s.time e s.dev = none → exec (.dspTimer n) s = .next (s.after
      (dspDone s.time n h stNoSpace 0 0 false ((s.dev.sat Reg.DSP_CNT_NOSPACE.N).cause intDsp 3 0 stNoSpace)))) ∧
    (∀ d, 0 < dspDue s.time s.dev e.target e.epoch → holdTimed s.time e s.dev = some d →
      exec (.dspTimer n) s = .next (s.after (startHead s.time n h d)))) ∧
  (∀ (s : State) (n : Nat) (h : Taken), dspOn s.dev = true → startable s.dev n clsDspt 0x12 = some h →
    (mayWait s.dev (dpThread h.words) = false →
      exec (.dspWait n) s = .next (s.after (dspDone s.time n h stRejected 0 0 false s.dev))) ∧
    (mayWait s.dev (dpThread h.words) = true → alreadyClosed s.dev h.words = none → dpTmo h.words = false →
      ∃ t, exec (.dspWait n) s = .next t ∧ thState t.dev (dpThread h.words) = 5 ∧
        t.dev.dsp.timed = s.dev.dsp.timed ∧ tget t.dev.dsp.waits (dpThread h.words) =
          some ⟨n, h.idx, dpEvent h.words + 2, dpArg h.words, dpEpoch h.words, dpEdge h.words⟩)) ∧
  (∀ (s : State) (n : Nat) (h : Taken), dspOn s.dev = true → startable s.dev n clsDspt 0x15 = some h →
    0 < dspDue s.time s.dev (dpTime h.words) (dpEpoch h.words) → s.dev.dsp.timed.length < 2048 →
    ∃ t, exec (.dspTimer n) s = .next t ∧ t.dev.dsp.timed = s.dev.dsp.timed ++ [⟨.timer n h.idx (bits (dpArg h.words) 0 6),
        dpTime h.words, dpEpoch h.words, dpTol h.words, false, false⟩] ∧
      (t.dev.ring n).taken = (s.dev.ring n).taken.tail ∧
      (t.dev.ring n).started = (s.dev.ring n).started ++ [(h.idx, h.words)]) ∧
  (∀ (s : State), dspOn s.dev = false ∨
      s.time.ns / (max 1 (s.dev.get Reg.DSP_TICK.US) * 1000) = s.dev.dsp.lastTick →
    exec .dispatchTick s = .next (s.after s.dev)) ∧
  (∀ (s : State) (k back : Nat), dspOn s.dev = true → k = s.time.ns / (max 1 (s.dev.get Reg.DSP_TICK.US) * 1000) →
    k ≠ s.dev.dsp.lastTick → back = s.time.ns - k * (max 1 (s.dev.get Reg.DSP_TICK.US) * 1000) →
    exec .dispatchTick s = .next (s.after
      ((s.dev.dsp.timed.filter fun e => decide (dspDue s.time s.dev e.target e.epoch + back ≤ 0)).foldl
        (fun x e => timedFire s.time (-(dspDue s.time x e.target e.epoch + back)).toNat e x)
        (s.dev.modDsp fun x => { x with lastTick := k }))))) ∧
  (∀ (t : Time) (late : Nat) (e : TimedEnt) (d : Dev),
    (∀ th w, e.own = .thread th → th < 2048 → tget d.dsp.waits th = some w →
      (e.tol * 1000 < late → thState (timedFire t late e d) th = 1 ∧
        (timedFire t late e d).get Reg.DSP_CNT_EXPIRED.N = min (d.get Reg.DSP_CNT_EXPIRED.N + 1) (2 ^ 32 - 1)) ∧
      (late ≤ e.tol * 1000 → thState (timedFire t late e d) th = 2 ∧
        (timedFire t late e d).get Reg.DSP_CNT_EXPIRED.N = d.get Reg.DSP_CNT_EXPIRED.N ∧
        (timedFire t late e d).get Reg.DSP_CNT_LATE.N =
          (if 0 < late then min (d.get Reg.DSP_CNT_LATE.N + 1) (2 ^ 32 - 1) else d.get Reg.DSP_CNT_LATE.N)) ∧
      tget (timedFire t late e d).dsp.waits th = none) ∧
    (∀ ring idx tok, e.own = .timer ring idx tok → tok < 64 →
      (e.tol * 1000 < late → (timedFire t late e d).getN Reg.HIF_TOKk.VAL tok = d.getN Reg.HIF_TOKk.VAL tok) ∧
      (late ≤ e.tol * 1000 → (timedFire t late e d).getN Reg.HIF_TOKk.VAL tok =
        (d.getN Reg.HIF_TOKk.VAL tok + 1) % 2 ^ Reg.HIF_TOKk.VAL.width)))

/-- R522, R528 and R534: the fabric starts: RUN and EN are set, BOOT is one higher, every link that is on trains and the others
are off, and nothing is held or remembered; a fabric that runs stays as it is. A beacon that is due goes out on every link
that is up with the next SEQ of its TYPE, which is remembered so that its return is a duplicate; one not due is not sent.
R544 and R545: a KEEPALIVE that is due on an unsigned DL link goes out with the link, whether the partner is heard, and INT;
with INT 0 or in a refused state none does. A link that has not heard its partner for MISS × INT, or a DL link whose lock is
lost, goes down with DXL_INT cause 1; a KEEPALIVE of the partner that hears this node brings the link up, and one of another
node refuses it. Where it rests on the model's reading, log entries 84 and 85 say so. -/
def Obligations.FabricLinks : Prop :=
  ((∀ (s : State), s.dev.up (islandOf 0x60000) = true → s.dev.on Reg.DXL_STATUS.RUN = true →
    exec .fabricStart s = .next (s.after s.dev)) ∧
  (∀ (s : State), s.dev.up (islandOf 0x60000) = true → s.dev.on Reg.DXL_STATUS.RUN = false →
    ∃ t, exec .fabricStart s = .next t ∧ t.dev.on Reg.DXL_STATUS.RUN = true ∧ t.dev.on Reg.DXL_CTRL.EN = true ∧
      selfBoot t.dev = (selfBoot s.dev + 1) % 2 ^ Reg.DXL_NODE.BOOT.width ∧ selfNode t.dev = selfNode s.dev ∧
      (∀ l, l < 4 → linkState t.dev l = if s.dev.onN Reg.DXL_LINKn_CFG.EN l then 1 else 0) ∧
      t.dev.get Reg.DXL_STATUS.UP = 0 ∧ t.dev.dxl.held = [] ∧ t.dev.dxl.wins = [] ∧ t.dev.dxl.seqs = [] ∧
      t.dev.dxl.sent = s.dev.dxl.sent ∧ t.dev.keys = s.dev.keys ∧ t.dev.ports = s.dev.ports) ∧
  (∀ (s : State), fabricRuns s.dev = false ∨ s.dev.get Reg.DXL_CFG.BEACON = 0 ∨
      s.time.loc - s.dev.dxl.beaconAt < s.dev.get Reg.DXL_CFG.BEACON * 10000000 →
    exec .beaconSend s = .next (s.after s.dev)) ∧
  (∀ (s : State), fabricRuns s.dev = true → s.dev.get Reg.DXL_CFG.BEACON ≠ 0 →
    s.dev.get Reg.DXL_CFG.BEACON * 10000000 ≤ s.time.loc - s.dev.dxl.beaconAt →
    ∃ t, exec .beaconSend s = .next t ∧ t.dev.dxl.beaconAt = s.time.loc ∧
      tget t.dev.dxl.seqs tyBeacon = (nextSeq tyBeacon s.dev).1 ∧ t.dev.dxl.held = s.dev.dxl.held ∧
      t.dev.dxl.links = s.dev.dxl.links) ∧
  (∀ (s : State), fabricRuns s.dev = true → s.dev.get Reg.DXL_CFG.BEACON ≠ 0 →
    s.dev.get Reg.DXL_CFG.BEACON * 10000000 ≤ s.time.loc - s.dev.dxl.beaconAt →
    (∀ l, l < 4 → linkIsUp s.dev l = true → isDl s.dev l = true ∧ s.dev.onN Reg.DXL_LINKn_CFG.AUTH l = false) →
    ∃ t n, exec .beaconSend s = .next t ∧ n = (nextSeq tyBeacon s.dev).1 ∧ t.dev.dxl.beaconAt = s.time.loc ∧
      tget t.dev.dxl.seqs tyBeacon = n ∧
      t.dev.dxl.sent = s.dev.dxl.sent ++ ((List.range 4).filter (linkIsUp s.dev)).map (fun l =>
        ⟨l, withTag (dxHeader tyBeacon (s.dev.get Reg.DXL_CFG.HOPS) (selfNode s.dev) 0 true 0 n (selfBoot s.dev) 0) false,
          none, true, dxPad 16⟩) ∧
      (winJudge (tget s.dev.dxl.wins (winKey (selfNode s.dev) tyBeacon)) n ≠ .old →
        winJudge (tget t.dev.dxl.wins (winKey (selfNode s.dev) tyBeacon)) n = .dup))) ∧
  ((∀ (s : State) (l : Nat), linkOn s.dev l = false ∨ linkState s.dev l = 3 ∨ s.dev.getN Reg.DXL_LINKn_KA.INT l = 0 ∨
      (∃ a ∈ (s.dev.dlink l).kaTx, s.time.loc - a < s.dev.getN Reg.DXL_LINKn_KA.INT l * 1000) →
    exec (.keepaliveSend l) s = .next (s.after s.dev)) ∧
  (∀ (s : State) (l : Nat), linkOn s.dev l = true → linkState s.dev l ≠ 3 → s.dev.getN Reg.DXL_LINKn_KA.INT l ≠ 0 →
    (∀ a ∈ (s.dev.dlink l).kaTx, s.dev.getN Reg.DXL_LINKn_KA.INT l * 1000 ≤ s.time.loc - a) →
    isDl s.dev l = true → s.dev.onN Reg.DXL_LINKn_CFG.AUTH l = false →
    ∃ t n, exec (.keepaliveSend l) s = .next t ∧ n = (nextSeq tyKeepalive s.dev).1 ∧
      (t.dev.dlink l).kaTx = some s.time.loc ∧ tget t.dev.dxl.seqs tyKeepalive = n ∧
      t.dev.dxl.sent = s.dev.dxl.sent ++ [⟨l, withTag (dxHeader tyKeepalive 1 (selfNode s.dev)
        (s.dev.getN Reg.DXL_LINKn_STAT.PARTNER l) false 16 n (selfBoot s.dev) 0 ++ (le 1 l ++
          le 1 (b2n (hears s.time s.dev l)) ++ le 2 (s.dev.getN Reg.DXL_LINKn_KA.INT l) ++ le 12 0)) false, none, true, dxPad 32⟩]) ∧
  (∀ (s : State) (l : Nat), linkOn s.dev l = true → linkState s.dev l ≠ 3 → s.dev.getN Reg.DXL_LINKn_KA.INT l ≠ 0 →
    (∀ a ∈ (s.dev.dlink l).kaTx, s.dev.getN Reg.DXL_LINKn_KA.INT l * 1000 ≤ s.time.loc - a) →
    ∃ t, exec (.keepaliveSend l) s = .next t ∧ (t.dev.dlink l).kaTx = some s.time.loc ∧
      tget t.dev.dxl.seqs tyKeepalive = (nextSeq tyKeepalive s.dev).1 ∧ t.dev.dxl.held = s.dev.dxl.held) ∧
  (∀ (s : State) (l : Nat), s.dev.getN Reg.DXL_LINKn_KA.MISS l = 0 →
    exec (.keepaliveTimeout l) s = .next (s.after s.dev)) ∧
  (∀ (s : State) (l : Nat), linkIsUp s.dev l = true → s.dev.getN Reg.DXL_LINKn_KA.MISS l ≠ 0 →
    (hears s.time s.dev l = true → exec (.keepaliveTimeout l) s = .next (s.after s.dev)) ∧
    (hears s.time s.dev l = false → ∃ t, exec (.keepaliveTimeout l) s = .next t ∧ linkState t.dev l = 1 ∧
      (t.dev.get Reg.DXL_STATUS.UP).testBit l = false ∧ bitOf (t.dev.word intDxl.addr) 1 = true ∧
      t.dev.dxl.held = s.dev.dxl.held)) ∧
  (∀ (s : State) (l : Nat), linkIsUp s.dev l = true →
    (isDl s.dev l = false → exec (.dxlLockLoss l) s = .next (s.after s.dev)) ∧
    (isDl s.dev l = true → ∃ t, exec (.dxlLockLoss l) s = .next t ∧ linkState t.dev l = 1 ∧
      bitOf (t.dev.word intDxl.addr) 1 = true)) ∧
  (∀ (s : State) (l : Nat), linkIsUp s.dev l = false →
    exec (.keepaliveTimeout l) s = .next (s.after s.dev) ∧ exec (.dxlLockLoss l) s = .next (s.after s.dev)) ∧
  (∀ (s : State) (l : Nat) (f : DxFrame), linkOn s.dev l = true → linkState s.dev l ≠ 3 → f.fcsOk = true →
    dxMalformed f.bytes = false → dxType f.bytes = tyKeepalive → s.dev.onN Reg.DXL_LINKn_CFG.AUTH l = false →
    dxOrigin f.bytes ≠ selfNode s.dev → tget s.dev.dxl.boots (dxOrigin f.bytes) = none →
    (s.dev.onN Reg.DXL_LINKn_PEER.ANY l = true → s.dev.getN Reg.DXL_LINKn_KA.INT l ≠ 0 →
      (byteAt (dxBody f.bytes) 1).testBit 0 = true →
      ∃ t, exec (.daxideFrameReceive l f) s = .next t ∧ linkState t.dev l = 2 ∧
        (linkState s.dev l ≠ 2 → (t.dev.get Reg.DXL_STATUS.UP).testBit l = true) ∧
        t.dev.getN Reg.DXL_LINKn_STAT.PARTNER l = dxOrigin f.bytes ∧ (t.dev.dlink l).kaRx = some s.time.loc) ∧
    (s.dev.onN Reg.DXL_LINKn_PEER.ANY l = false → s.dev.getN Reg.DXL_LINKn_PEER.NODE l ≠ dxOrigin f.bytes →
      ∃ t, exec (.daxideFrameReceive l f) s = .next t ∧ linkState t.dev l = 3 ∧
        (t.dev.get Reg.DXL_STATUS.UP).testBit l = false ∧ bitOf (t.dev.word intDxl.addr) 1 = true ∧
        t.dev.get Reg.DXL_CNT_BIND.N = min (s.dev.get Reg.DXL_CNT_BIND.N + 1) (2 ^ Reg.DXL_CNT_BIND.N.width - 1))))

/-- R518, R523 and R525 to R527: what a link does with a frame. A link that is off takes none; a bad FCS, and a malformed frame,
is counted and dropped; a frame whose tag fails is dropped, counted with DXL_INT cause 2, and shown in AUTH_OK; a TOKEN
already taken, or older than the window, is counted and dropped. R524, R527, R528, R535, R542 and R547: what a frame that is
well formed and within the limit meets. With AUTH its key must be usable and its tag match; a frame of this node with
another BOOT is a clash, one of an older BOOT is old, one of a newer BOOT restarts its origin; a link that is not up takes
only KEEPALIVEs; an ACK takes its frame out of the held ones; TIME is dropped unless TIME_EN is 1 on a DL link, and a REQ is
answered; a RELAY or MGMT frame for another node is held for its next hop with HOPS one lower and acknowledged, or counted
when HOPS is 1. R526: the de-duplication window. A SEQ above the highest taken is new, the highest is a duplicate, one more
than 64 below is old, and one that has been taken is a duplicate while it lies in the window. Where it rests on the model's
reading, log entry 84 says so. -/
def Obligations.FabricReception : Prop :=
  ((∀ (s : State) (l : Nat) (f : DxFrame), linkOn s.dev l = false →
    exec (.daxideFrameReceive l f) s = .next (s.after s.dev)) ∧
  (∀ (s : State) (l : Nat) (f : DxFrame), linkOn s.dev l = true →
    (f.fcsOk = false ∨ linkState s.dev l = 3 → exec (.daxideFrameReceive l f) s =
      .next (s.after ((s.dev.sat Reg.DXL_LINKn_RXF.N l).sat Reg.DXL_LINKn_DROP.N l))) ∧
    (f.fcsOk = true → linkState s.dev l ≠ 3 → dxMalformed f.bytes = false →
      (∃ d, dxLimit s.time l f.bytes (s.dev.sat Reg.DXL_LINKn_RXF.N l) = (false, d) ∧ exec (.daxideFrameReceive l f) s =
        .next (s.after ((d.sat Reg.DXL_CNT_RLIM.N).sat Reg.DXL_LINKn_DROP.N l))) ∨
      (∃ d, dxLimit s.time l f.bytes (s.dev.sat Reg.DXL_LINKn_RXF.N l) = (true, d) ∧ exec (.daxideFrameReceive l f) s =
        .next (s.after (dxAuth s.time l (s.time.qns + f.q % 16) f d)))) ∧
    (f.fcsOk = true → linkState s.dev l ≠ 3 → dxMalformed f.bytes = false → dxType f.bytes ≠ tyKeepalive →
      dxType f.bytes ≠ tyTime → s.dev.getN Reg.DXL_LINKn_RLIM.FRAMES l ≠ 0 → (s.dev.dlink l).ms = s.time.loc / 1000000 →
      s.dev.getN Reg.DXL_LINKn_RLIM.FRAMES l ≤ (s.dev.dlink l).msCnt →
      ∃ t, exec (.daxideFrameReceive l f) s = .next t ∧ (t.dev.dlink l).msCnt = (s.dev.dlink l).msCnt + 1 ∧
        t.dev.dxl.held = s.dev.dxl.held ∧ t.dev.dxl.wins = s.dev.dxl.wins ∧ t.dev.dxl.sent = s.dev.dxl.sent ∧
        t.dev.get Reg.DXL_CNT_RLIM.N = min (s.dev.get Reg.DXL_CNT_RLIM.N + 1) (2 ^ Reg.DXL_CNT_RLIM.N.width - 1)) ∧
    (f.fcsOk = true → linkState s.dev l ≠ 3 → dxMalformed f.bytes = true → exec (.daxideFrameReceive l f) s =
      .next (s.after (((s.dev.sat Reg.DXL_LINKn_RXF.N l).sat Reg.DXL_CNT_MALFORMED.N).sat Reg.DXL_LINKn_DROP.N l))) ∧
    (f.fcsOk = true → linkState s.dev l ≠ 3 → dxMalformed f.bytes = false → s.dev.getN Reg.DXL_LINKn_RLIM.FRAMES l = 0 →
      s.dev.onN Reg.DXL_LINKn_CFG.AUTH l = true → dxTag f.bytes = false → dxType f.bytes ≠ tyToken → dxType f.bytes ≠ tyBeacon →
      ∃ t, exec (.daxideFrameReceive l f) s = .next t ∧ t.dev.onN Reg.DXL_LINKn_STAT.AUTH_OK l = false ∧
        bitOf (t.dev.word intDxl.addr) 2 = true ∧ t.dev.dxl = s.dev.dxl ∧
        t.dev.get Reg.DXL_CNT_AUTH.N = min (s.dev.get Reg.DXL_CNT_AUTH.N + 1) (2 ^ Reg.DXL_CNT_AUTH.N.width - 1)) ∧
    (∀ k, f.fcsOk = true → linkState s.dev l = 2 → dxMalformed f.bytes = false →
      s.dev.getN Reg.DXL_LINKn_RLIM.FRAMES l = 0 → s.dev.onN Reg.DXL_LINKn_CFG.AUTH l = false →
      dxType f.bytes = tyToken → dxOrigin f.bytes ≠ selfNode s.dev →
      tget s.dev.dxl.boots (dxOrigin f.bytes) = some k → sdiff (2 ^ 16) (dxBoot f.bytes) k = 0 →
      (winJudge (tget s.dev.dxl.wins (winKey (dxOrigin f.bytes) tyToken)) (dxSeq f.bytes) = .dup →
        exec (.daxideFrameReceive l f) s = .next (s.after
          (((s.dev.sat Reg.DXL_LINKn_RXF.N l).sat Reg.DXL_CNT_DUP.N).sat Reg.DXL_LINKn_DROP.N l))) ∧
      (winJudge (tget s.dev.dxl.wins (winKey (dxOrigin f.bytes) tyToken)) (dxSeq f.bytes) = .old →
        exec (.daxideFrameReceive l f) s = .next (s.after
          (((s.dev.sat Reg.DXL_LINKn_RXF.N l).sat Reg.DXL_CNT_OLD.N).sat Reg.DXL_LINKn_DROP.N l)))))) ∧
  ((∀ (t : Time) (l q : Nat) (f : DxFrame) (d : Dev),
    (d.onN Reg.DXL_LINKn_CFG.AUTH l = false → dxAuth t l q f d = dxOriginCheck t l q f.bytes d) ∧
    (∀ k d1, d.onN Reg.DXL_LINKn_CFG.AUTH l = true →
      keyUse engDaxide l (d.getN Reg.DXL_LINKn_CFG.KEY_SLOT l) 3 true d = (some k, d1) →
      dxTag f.bytes = true → f.tagKey = some k.material →
      dxAuth t l q f d = dxOriginCheck t l q f.bytes (d1.setN Reg.DXL_LINKn_STAT.AUTH_OK l 1)) ∧
    (∀ r d1, d.onN Reg.DXL_LINKn_CFG.AUTH l = true →
      keyUse engDaxide l (d.getN Reg.DXL_LINKn_CFG.KEY_SLOT l) 3 true d = (r, d1) →
      r = none ∨ dxTag f.bytes = false ∨ f.tagKey ≠ r.map (·.material) →
      (dxAuth t l q f d).dxl.wins = d1.dxl.wins ∧ (dxAuth t l q f d).dxl.held = d1.dxl.held ∧
        (dxAuth t l q f d).onN Reg.DXL_LINKn_STAT.AUTH_OK l = false ∧
        bitOf ((dxAuth t l q f d).word intDxl.addr) 2 = true)) ∧
  (∀ (t : Time) (l q : Nat) (b : List Byte) (d : Dev),
    (dxOrigin b = selfNode d → dxBoot b ≠ selfBoot d →
      dxOriginCheck t l q b d = linkDrop l ((d.sat Reg.DXL_CNT_CLASH.N).cause intDxl 3 l 0)) ∧
    (dxOrigin b ≠ selfNode d ∨ dxBoot b = selfBoot d →
      (tget d.dxl.boots (dxOrigin b) = none → dxOriginCheck t l q b d =
        dxByType t l q b (d.modDxl fun x => { x with boots := tset x.boots (dxOrigin b) (some (dxBoot b)) })) ∧
      (∀ k, tget d.dxl.boots (dxOrigin b) = some k →
        (sdiff (2 ^ 16) (dxBoot b) k < 0 → dxOriginCheck t l q b d = linkDrop l (d.sat Reg.DXL_CNT_OLD.N)) ∧
        (sdiff (2 ^ 16) (dxBoot b) k = 0 → dxOriginCheck t l q b d = dxByType t l q b d) ∧
        (0 < sdiff (2 ^ 16) (dxBoot b) k → dxOriginCheck t l q b d = dxByType t l q b (originRestart t (dxOrigin b)
          (d.modDxl fun x => { x with
            boots := tset x.boots (dxOrigin b) (some (dxBoot b))
            wins := x.wins.filter fun e => e.1 / 8 != dxOrigin b }))))) ∧
    (∀ k, k ∈ entriesOf d (dxOrigin b) → k < 256 →
      (originRestart t (dxOrigin b) d).onN Reg.T_RASTAT.STATE k = false ∧
        (originRestart t (dxOrigin b) d).onN Reg.T_RASTAT.LOST k = false)) ∧
  (∀ (t : Time) (l q : Nat) (b : List Byte) (d : Dev), linkState d l ≠ 2 → dxType b ≠ tyKeepalive →
    dxByType t l q b d = linkDrop l d) ∧
  (∀ (t : Time) (l q : Nat) (b : List Byte) (d : Dev), linkState d l = 2 →
    (dxType b = tyAck → dxByType t l q b d = d.modDxl fun x => { x with held := x.held.filter fun h =>
      !(h.link == some l && h.seq == leAt (dxBody b) 0 4 && h.origin == leAt (dxBody b) 4 2 &&
        h.typ == byteAt (dxBody b) 6) }) ∧
    (dxType b = tyTime → isDl d l = false ∨ d.onN Reg.DXL_LINKn_CFG.TIME_EN l = false →
      dxByType t l q b d = linkDrop l d) ∧
    (dxType b = tyTime → isDl d l = true → d.onN Reg.DXL_LINKn_CFG.TIME_EN l = true → byteAt (dxBody b) 0 = 0 →
      ((dxByType t l q b d).dlink l).respT3 = some (dxSeq b, t.qns)) ∧
    (dxType b = tyRelay ∨ dxType b = tyMgmt →
      winJudge (tget d.dxl.wins (winKey (dxOrigin b) (dxType b))) (dxSeq b) = .fresh → dxDest b ≠ selfNode d →
      (dxHops b = 1 → dxByType t l q b d =
        linkDrop l ((takeSeq (dxOrigin b) (dxType b) (dxSeq b) d).sat Reg.DXL_CNT_HOPS.N)) ∧
      (dxHops b ≠ 1 → dxByType t l q b d =
        ackSend l b (holdFrame t (withHops b (dxHops b - 1)) (takeSeq (dxOrigin b) (dxType b) (dxSeq b) d)))) ∧
    (dxType b = tyMgmt → dxDest b = selfNode d →
      winJudge (tget d.dxl.wins (winKey (dxOrigin b) tyMgmt)) (dxSeq b) = .fresh →
      (d.pwr.xaornRuns = false → dxByType t l q b d = linkDrop l d) ∧
      (d.pwr.xaornRuns = true → (dxByType t l q b d).dxl.mgmtIn =
        d.dxl.mgmtIn ++ [(dxOrigin b, (dxFlags b).testBit 1, dxBody b)])))) ∧
  ((∀ (w : DxWin) (q : Nat), w.seen = true → 0 < sdiff (2 ^ 32) q w.high → winJudge w q = .fresh) ∧
  (∀ (w : DxWin) (q : Nat), w.seen = true → sdiff (2 ^ 32) q w.high < -64 → winJudge w q = .old) ∧
  (∀ (w : DxWin) (q : Nat), q < 2 ^ 32 → winJudge w q = .fresh → winJudge (winTake w q) q = .dup) ∧
  (∀ (w : DxWin) (q r : Nat), w.seen = true → w.high < 2 ^ 32 → q < 2 ^ 32 → r < 2 ^ 32 → winJudge w q = .fresh →
    winJudge w r = .dup → -64 ≤ sdiff (2 ^ 32) q r → sdiff (2 ^ 32) q r ≤ 64 → winJudge (winTake w q) r = .dup))

/-- R533, R534 and R537: the remote alarm table. Word 0 with VALID makes an entry valid with STATE, LOST and SET 0 and starts
its loss time; while the entry is valid such a write is refused with DXL_INT cause 0, and a word without VALID is taken. A
TOKEN of the entry's node and rule gives STATE its edge, sets SET and clears LOST; when LOSS_MS has passed without a TOKEN
or BEACON of the node, LOST is set with DXL_INT cause 4 and STATE takes FAILSAFE. Where it rests on the model's reading, log
entry 86 says so. -/
def Obligations.RemoteAlarms : Prop :=
  (∀ (s : State) (k : Nat) (v : Word32), k < 256 → s.dev.up (islandOf 0x3A0800) = true →
    (bitOf v 0 = true → s.dev.onN Reg.T_RALARM.VALID k = true →
      exec (.remoteAlarmEntryWrite (0x3A0800 + 8 * k) v) s = .next (s.after (s.dev.cause intDxl 0 0 0))) ∧
    (bitOf v 0 = true → s.dev.onN Reg.T_RALARM.VALID k = false →
      ∃ t, exec (.remoteAlarmEntryWrite (0x3A0800 + 8 * k) v) s = .next t ∧ t.dev.onN Reg.T_RALARM.VALID k = true ∧
        t.dev.onN Reg.T_RASTAT.STATE k = false ∧ t.dev.onN Reg.T_RASTAT.LOST k = false ∧
        t.dev.onN Reg.T_RASTAT.SET k = false ∧ tget t.dev.dxl.since k = s.time.loc) ∧
    (bitOf v 0 = false → ∃ t, exec (.remoteAlarmEntryWrite (0x3A0800 + 8 * k) v) s = .next t ∧
        t.dev.onN Reg.T_RALARM.VALID k = false ∧ t.dev.dxl = s.dev.dxl) ∧
    (s.dev.onN Reg.T_RALARM.VALID k = true →
      exec (.remoteAlarmEntryWrite (0x3A0804 + 8 * k) v) s = .next (s.after (s.dev.cause intDxl 0 0 0))) ∧
    (s.dev.onN Reg.T_RALARM.VALID k = false → ∃ t, exec (.remoteAlarmEntryWrite (0x3A0804 + 8 * k) v) s = .next t ∧
      t.dev.word (0x3A0804 + 8 * k) = v &&& maskOf (fieldsAt (0x3A0804 + 8 * k)) ∧ t.dev.dxl = s.dev.dxl)) ∧
  (∀ (s : State) (addr : Nat) (v : Word32), addr < 0x3A0800 ∨ 0x3A1000 ≤ addr ∨ addr % 4 ≠ 0 →
    exec (.remoteAlarmEntryWrite addr v) s = .next (s.after s.dev)) ∧
  (∀ (s : State) (l k b : Nat) (f : DxFrame), linkOn s.dev l = true → linkState s.dev l = 2 → f.fcsOk = true →
    dxMalformed f.bytes = false → s.dev.getN Reg.DXL_LINKn_RLIM.FRAMES l = 0 →
    s.dev.onN Reg.DXL_LINKn_CFG.AUTH l = false → dxType f.bytes = tyToken → dxHops f.bytes = 1 →
    dxOrigin f.bytes ≠ selfNode s.dev → tget s.dev.dxl.boots (dxOrigin f.bytes) = some b →
    sdiff (2 ^ 16) (dxBoot f.bytes) b = 0 →
    winJudge (tget s.dev.dxl.wins (winKey (dxOrigin f.bytes) tyToken)) (dxSeq f.bytes) = .fresh →
    entriesOf s.dev (dxOrigin f.bytes) = [k] → entryRule s.dev k = leAt (dxBody f.bytes) 0 2 →
    s.dev.onN Reg.T_RALARM.HOST k = false →
    ∃ t, exec (.daxideFrameReceive l f) s = .next t ∧
      t.dev.onN Reg.T_RASTAT.STATE k = (byteAt (dxBody f.bytes) 2 != 0) ∧ t.dev.onN Reg.T_RASTAT.SET k = true ∧
      t.dev.onN Reg.T_RASTAT.LOST k = false ∧ tget t.dev.dxl.heardAt (dxOrigin f.bytes) = s.time.loc ∧
      (∀ j, j < 256 → j ≠ k → t.dev.onN Reg.T_RASTAT.STATE j = s.dev.onN Reg.T_RASTAT.STATE j)) ∧
  (∀ (s : State) (node k : Nat), fabricRuns s.dev = true → entriesOf s.dev node = [k] →
    s.dev.onN Reg.T_RALARM.HOST k = false → s.dev.getN Reg.T_RALARM.LOSS_MS k ≠ 0 →
    s.dev.onN Reg.T_RASTAT.LOST k = false →
    (s.dev.getN Reg.T_RALARM.LOSS_MS k * 1000000 ≤
        s.time.loc - max (tget s.dev.dxl.heardAt node) (tget s.dev.dxl.since k) →
      ∃ t, exec (.remoteOriginLost node) s = .next t ∧ t.dev.onN Reg.T_RASTAT.LOST k = true ∧
        t.dev.onN Reg.T_RASTAT.STATE k = s.dev.onN Reg.T_RALARM.FAILSAFE k ∧
        bitOf (t.dev.word intDxl.addr) 4 = true) ∧
    (s.time.loc - max (tget s.dev.dxl.heardAt node) (tget s.dev.dxl.since k) <
        s.dev.getN Reg.T_RALARM.LOSS_MS k * 1000000 →
      exec (.remoteOriginLost node) s = .next (s.after s.dev))) ∧
  (∀ (s : State) (node : Nat), fabricRuns s.dev = false ∨ entriesOf s.dev node = [] →
    exec (.remoteOriginLost node) s = .next (s.after s.dev)) ∧
  (∀ (s : State) (node : Nat), fabricRuns s.dev = true → ∃ t, exec (.remoteOriginLost node) s = .next t ∧
    ∀ k, k ∈ entriesOf s.dev node →
      (s.dev.getN Reg.T_RALARM.LOSS_MS k ≠ 0 → s.dev.onN Reg.T_RASTAT.LOST k = false →
        s.dev.getN Reg.T_RALARM.LOSS_MS k * 1000000 ≤
          s.time.loc - max (tget s.dev.dxl.heardAt node) (tget s.dev.dxl.since k) →
        t.dev.onN Reg.T_RASTAT.LOST k = true ∧ t.dev.onN Reg.T_RASTAT.STATE k = s.dev.onN Reg.T_RALARM.FAILSAFE k) ∧
      (s.dev.getN Reg.T_RALARM.LOSS_MS k = 0 ∨ s.dev.onN Reg.T_RASTAT.LOST k = true ∨
        s.time.loc - max (tget s.dev.dxl.heardAt node) (tget s.dev.dxl.since k) <
          s.dev.getN Reg.T_RALARM.LOSS_MS k * 1000000 →
        t.dev.onN Reg.T_RASTAT.LOST k = s.dev.onN Reg.T_RASTAT.LOST k ∧
          t.dev.onN Reg.T_RASTAT.STATE k = s.dev.onN Reg.T_RASTAT.STATE k))

/-- R539 to R541: RELAY.EN is refused with NO_SPACE when the RELAY partition is smaller than the need, and taken otherwise. A
MGMT frame is held in the RELAY partition until its next hop acknowledges it, even with no route; a frame held RTO ms
without an ACK leaves again with RETX; one held 100 ms after it was first sent is dropped and counted. R547 and R548: a REQ
goes out on a DL link that is up with TIME_EN, at most 2^RATE times a second, and its departure is remembered under its SEQ.
A RESP with a time the link asked for gives the exchange that then waits for T3. Where it rests on the model's reading, log
entry 86 says so. -/
def Obligations.FabricTraffic : Prop :=
  ((∀ (s : State), s.dev.up (islandOf 0x60018) = true → s.dev.on Reg.DXL_RELAY.EN = true →
    exec .relayEnable s = .next (s.after s.dev)) ∧
  (∀ (s : State), s.dev.up (islandOf 0x60018) = true → s.dev.on Reg.DXL_RELAY.EN = false →
    (partBytes s.dev partRelay < relayNeed s.dev ∨ partBytes s.dev partRelay = 0 → exec .relayEnable s =
      .next (s.after ((s.dev.set Reg.DXL_STATUS.FAIL stNoSpace).cause intDxl 0 0 stNoSpace))) ∧
    (relayNeed s.dev ≤ partBytes s.dev partRelay → partBytes s.dev partRelay ≠ 0 →
      ∃ t, exec .relayEnable s = .next t ∧ t.dev.on Reg.DXL_RELAY.EN = true ∧ t.dev.get Reg.DXL_STATUS.FAIL = stOk ∧
        t.dev.get Reg.DXL_RELAY.PARENT = s.dev.get Reg.DXL_RELAY.PARENT)) ∧
  (∀ (s : State) (dest : Nat) (p : List Byte) (z : Bool), fabricRuns s.dev = false ∨ s.dev.pwr.xaornRuns = false ∨ p = [] ∨
      8192 < p.length ∨ 512 ≤ dest → exec (.mgmtFrameSend dest p z) s = .next (s.after s.dev)) ∧
  (∀ (s : State) (dest n : Nat) (d : Dev) (p : List Byte) (z : Bool), fabricRuns s.dev = true →
    s.dev.pwr.xaornRuns = true → p ≠ [] → p.length ≤ 8192 → dest < 512 → nextSeq tyMgmt s.dev = (n, d) →
    exec (.mgmtFrameSend dest p z) s = .next (s.after (holdFrame s.time (dxHeader tyMgmt (s.dev.get Reg.DXL_CFG.HOPS)
      (selfNode s.dev) dest false p.length n (selfBoot s.dev) (2 * b2n z) ++ p) d))) ∧
  (∀ (s : State) (dest : Nat) (p : List Byte) (z : Bool), fabricRuns s.dev = true → s.dev.pwr.xaornRuns = true → p ≠ [] →
    p.length ≤ 8192 → dest < 512 → s.dev.dxl.held = [] → (16 + p.length + 3) / 4 ≤ partBytes s.dev partRelay / 4 →
    routeLink s.dev dest = none →
    ∃ t, exec (.mgmtFrameSend dest p z) s = .next t ∧ t.dev.dxl.sent = s.dev.dxl.sent ∧
      (t.dev.dxl.held.map fun h => (h.dest, h.count, h.ofs, h.first, h.link)) =
        [(dest, 16 + p.length, 0, s.time.loc, none)]) ∧
  (∀ (s : State) (l : Nat) (h : DxHeld), s.dev.dxl.held = [h] → h.link = some l →
    (s.time.loc - h.first < 100000000 → exec (.relayExpire l) s = .next (s.after s.dev)) ∧
    (100000000 ≤ s.time.loc - h.first → ∃ t, exec (.relayExpire l) s = .next t ∧ t.dev.dxl.held = [] ∧
      t.dev.dxl.sent = s.dev.dxl.sent ∧ t.dev.get Reg.DXL_CNT_RELAY_EXP.N =
        min (s.dev.get Reg.DXL_CNT_RELAY_EXP.N + 1) (2 ^ Reg.DXL_CNT_RELAY_EXP.N.width - 1))) ∧
  (∀ (s : State) (l : Nat),
    ((∀ h ∈ s.dev.dxl.held, heldOn s.dev l h = true → s.time.loc - h.first < 100000000) →
      exec (.relayExpire l) s = .next (s.after s.dev)) ∧
    (∀ h, (s.dev.dxl.held.find? fun g => heldOn s.dev l g && decide (100000000 ≤ s.time.loc - g.first)) = some h →
      h ∈ s.dev.dxl.held ∧ ∃ t, exec (.relayExpire l) s = .next t ∧ bitOf (t.dev.word intDxl.addr) 5 = true ∧
        t.dev.dxl.held = s.dev.dxl.held.filter fun g => !heldSame g h)) ∧
  (∀ (s : State) (l : Nat), fabricRuns s.dev = false ∨
      (∀ h ∈ s.dev.dxl.held, heldOn s.dev l h = true → h.link ≠ none ∧
        (s.dev.get Reg.DXL_RELAY.RTO = 0 ∨ s.time.loc - h.last < s.dev.get Reg.DXL_RELAY.RTO * 1000000)) →
    exec (.relayRetransmit l) s = .next (s.after s.dev)) ∧
  (∀ (s : State) (l : Nat) (h : DxHeld), fabricRuns s.dev = true →
    (s.dev.dxl.held.find? fun g => heldOn s.dev l g && (g.link.isNone || (s.dev.get Reg.DXL_RELAY.RTO != 0 &&
      decide (s.dev.get Reg.DXL_RELAY.RTO * 1000000 ≤ s.time.loc - g.last)))) = some h →
    (routeLink s.dev h.dest = none → exec (.relayRetransmit l) s = .next (s.after s.dev)) ∧
    (∀ m, routeLink s.dev h.dest = some m →
      (∃ i, i < heldWords h ∧ (hBad s.dev (partWord s.dev partRelay + h.ofs + i) = true ∨
        hUp s.dev (partWord s.dev partRelay + h.ofs + i) = false ∨
        inPart s.dev partRelay (partWord s.dev partRelay + h.ofs + i) = false)) →
      ∃ t, exec (.relayRetransmit l) s = .next t ∧ t.dev.dxl.held = s.dev.dxl.held.filter (fun g => !heldSame g h) ∧
        t.dev.dxl.sent = s.dev.dxl.sent) ∧
    (∀ m, routeLink s.dev h.dest = some m →
      (∀ i, i < heldWords h → hBad s.dev (partWord s.dev partRelay + h.ofs + i) = false ∧
        hUp s.dev (partWord s.dev partRelay + h.ofs + i) = true ∧
        inPart s.dev partRelay (partWord s.dev partRelay + h.ofs + i) = true) →
      ∃ t, exec (.relayRetransmit l) s = .next t ∧
        t.dev.dxl.held = s.dev.dxl.held.map fun g => if heldSame g h then
          { g with last := s.time.loc, link := some m, left := true } else g)) ∧
  (∀ (s : State) (l m : Nat) (h : DxHeld), fabricRuns s.dev = true → s.dev.dxl.held = [h] → h.link = some l →
    h.left = true →
    (s.dev.get Reg.DXL_RELAY.RTO = 0 ∨ s.time.loc - h.last < s.dev.get Reg.DXL_RELAY.RTO * 1000000 →
      exec (.relayRetransmit l) s = .next (s.after s.dev)) ∧
    (s.dev.get Reg.DXL_RELAY.RTO ≠ 0 → s.dev.get Reg.DXL_RELAY.RTO * 1000000 ≤ s.time.loc - h.last →
      routeLink s.dev h.dest = some m → isDl s.dev m = true → s.dev.onN Reg.DXL_LINKn_CFG.AUTH m = false →
      (∀ i, i < heldWords h → hBad s.dev (partWord s.dev partRelay + h.ofs + i) = false ∧
        hUp s.dev (partWord s.dev partRelay + h.ofs + i) = true ∧
        inPart s.dev partRelay (partWord s.dev partRelay + h.ofs + i) = true) →
      ∃ t b, exec (.relayRetransmit l) s = .next t ∧
        b = withTag (withRetx ((wordsBytes (hreadMany .engine
          (partWord s.dev partRelay + h.ofs) (heldWords h) s.dev).1).take h.count)) false ∧
        t.dev.dxl.held = [{ h with last := s.time.loc, link := some m }] ∧
        t.dev.dxl.sent = s.dev.dxl.sent ++ [⟨m, b, none, true, dxPad b.length⟩]))) ∧
  ((∀ (s : State) (l : Nat), linkIsUp s.dev l = false ∨ isDl s.dev l = false ∨
      s.dev.onN Reg.DXL_LINKn_CFG.TIME_EN l = false ∨
      (∃ a ∈ (s.dev.dlink l).reqTx,
        (s.time.loc - a) * 2 ^ s.dev.getN Reg.DXL_LINKn_TIME.RATE l < 1000000000) →
    exec (.timeReqSend l) s = .next (s.after s.dev)) ∧
  (∀ (s : State) (l : Nat), linkIsUp s.dev l = true → isDl s.dev l = true →
    s.dev.onN Reg.DXL_LINKn_CFG.TIME_EN l = true → s.dev.onN Reg.DXL_LINKn_CFG.AUTH l = false →
    (s.dev.dlink l).reqTx = none →
    ∃ t n f, exec (.timeReqSend l) s = .next t ∧ n = (nextSeq tyTime s.dev).1 ∧ (t.dev.dlink l).reqTx = some s.time.loc ∧
      fmLook (t.dev.dlink l).reqs n = some s.time.qns ∧ t.dev.dxl.sent = s.dev.dxl.sent ++ [f] ∧ f.link = l ∧
      f.tagKey = none ∧ f.good = true) ∧
  (∀ (s : State) (l : Nat), linkIsUp s.dev l = true → isDl s.dev l = true →
    s.dev.onN Reg.DXL_LINKn_CFG.TIME_EN l = true →
    (∀ a ∈ (s.dev.dlink l).reqTx, 1000000000 ≤ (s.time.loc - a) * 2 ^ s.dev.getN Reg.DXL_LINKn_TIME.RATE l) →
    ∃ t, exec (.timeReqSend l) s = .next t ∧ (t.dev.dlink l).reqTx = some s.time.loc ∧
      fmLook (t.dev.dlink l).reqs (nextSeq tyTime s.dev).1 = some s.time.qns ∧
      tget t.dev.dxl.seqs tyTime = (nextSeq tyTime s.dev).1) ∧
  (∀ (s : State) (l b t1 : Nat) (f : DxFrame), linkIsUp s.dev l = true → isDl s.dev l = true →
    s.dev.onN Reg.DXL_LINKn_CFG.TIME_EN l = true → s.dev.onN Reg.DXL_LINKn_CFG.AUTH l = false → f.fcsOk = true →
    dxMalformed f.bytes = false → dxType f.bytes = tyTime → byteAt (dxBody f.bytes) 0 ≠ 0 →
    dxOrigin f.bytes ≠ selfNode s.dev → tget s.dev.dxl.boots (dxOrigin f.bytes) = some b →
    sdiff (2 ^ 16) (dxBoot f.bytes) b = 0 → (s.dev.dlink l).exchs = [] →
    fmLook (s.dev.dlink l).reqs (leAt (dxBody f.bytes) 12 4) = some t1 →
    ∃ t, exec (.daxideFrameReceive l f) s = .next t ∧ (t.dev.dlink l).exchs =
        [⟨leAt (dxBody f.bytes) 12 4, t1, qAt (dxBody f.bytes) 16 9, s.time.qns + f.q % 16⟩] ∧
      (t.dev.dlink l).gm = some (leAt (dxBody f.bytes) 2 2, byteAt (dxBody f.bytes) 1) ∧ t.dev.tkp = s.dev.tkp))

/-- R21, R565, R626 and R629: a command of the mailbox services starts only at the head of its ring; without Xaorn's images it
completes with NOT_VERIFIED, while MGT is in reset with ABORTED_RESET, and while Xaorn takes no requests for another reason
it waits. A key command waits while another is in hand, completes with NOT_VERIFIED when the fuses are bad and with REJECTED
for a slot above 63, and one of a body without length completes with SKIPPED_ZERO. R565 and R569: INFO and ATTEST reply with
the slot's entry and with the attestation statement, written where RADDR points; a buffer smaller than the reply gets none,
and the completion has NO_SPACE with the bytes the reply needs. Where it rests on the model's reading, log entries 87, 88
and 89 say so. -/
def Obligations.KeyCommands : Prop :=
  ((∀ (s : State) (n : Nat) (b : KeyBody) (bs : List Byte) (g : Bool) (k : Nat), startable s.dev n clsMbox 0x10 = none →
    ∀ c ∈ [Instr.keyInfo n, .keyImport n b, .keyDerive n b, .keyUnwrap n b, .keyCommit n g, .keyErase n, .keyAttest n bs,
      .fwStatus n, .fwWrite n k bs, .fwCheck n k, .fwActivate n, .fwSettings n bs], exec c s = .next (s.after s.dev)) ∧
  (∀ (s : State) (n : Nat) (b : KeyBody) (bs : List Byte) (g : Bool) (k : Nat) (h : Taken),
    startable s.dev n clsMbox 0x10 = some h →
    ∀ x ∈ [(Instr.keyInfo n, 1, 1), (.keyImport n b, 1, 2), (.keyDerive n b, 1, 3), (.keyUnwrap n b, 1, 4),
      (.keyCommit n g, 1, 5), (.keyErase n, 1, 6), (.keyAttest n bs, 1, 7), (.fwStatus n, 2, 1), (.fwWrite n k bs, 2, 2),
      (.fwCheck n k, 2, 3), (.fwActivate n, 2, 4), (.fwSettings n bs, 2, 5)],
    (kService h.words ≠ x.2.1 ∨ kCmd h.words ≠ x.2.2 → exec x.1 s = .next (s.after s.dev)) ∧
    (kService h.words = x.2.1 → kCmd h.words = x.2.2 →
      (s.dev.on Reg.GLB_STATUS.XFAIL = true →
        exec x.1 s = .next (s.after (completeHead s.time n h stNotVerified 0 [] s.dev))) ∧
      (s.dev.on Reg.GLB_STATUS.XFAIL = false → s.dev.inReset islMgt = true →
        exec x.1 s = .next (s.after (completeHead s.time n h stAborted 0 [] s.dev))) ∧
      (s.dev.on Reg.GLB_STATUS.XFAIL = false → s.dev.inReset islMgt = false → xaornUp s.dev = false →
        exec x.1 s = .next (s.after s.dev)))) ∧
  (∀ (s : State) (n : Nat) (b : KeyBody) (bs : List Byte) (g : Bool) (h : Taken),
    ∀ x ∈ [(Instr.keyInfo n, 1), (.keyImport n b, 2), (.keyDerive n b, 3), (.keyUnwrap n b, 4), (.keyCommit n g, 5),
      (.keyErase n, 6), (.keyAttest n bs, 7)], mboxReady s.dev n 1 x.2 h →
    (s.dev.keys.cmd.isSome = true → exec x.1 s = .next (s.after s.dev)) ∧
    (s.dev.keys.cmd = none → s.dev.on Reg.KEY_STATUS.FUSE_OK = false →
      exec x.1 s = .next (s.after (completeHead s.time n h stNotVerified 0 (keyExt 0 (kSlot h.words) 0) s.dev))) ∧
    (s.dev.keys.cmd = none → s.dev.on Reg.KEY_STATUS.FUSE_OK = true → 64 ≤ kSlot h.words →
      exec x.1 s = .next (s.after (completeHead s.time n h stRejected 0 (keyExt 0 (kSlot h.words) 0) s.dev)))) ∧
  (∀ (s : State) (n : Nat) (b : KeyBody) (bs : List Byte) (h : Taken), dLen h.words = 0 →
    ∀ x ∈ [(Instr.keyImport n b, 2), (.keyDerive n b, 3), (.keyUnwrap n b, 4), (.keyAttest n bs, 7)],
      keyReady s.dev n x.2 h →
      exec x.1 s = .next (s.after (completeHead s.time n h stSkipped 0 (keyExt 0 (kSlot h.words) 0) s.dev)))) ∧
  (∀ (s : State) (n : Nat) (nonce : List Byte) (h : Taken),
    (keyReady s.dev n 1 h →
      (kRlen h.words < 32 → exec (.keyInfo n) s = .next (s.after (completeHead s.time n h stNoSpace 0
        (keyExt 32 (kSlot h.words) (slotGen (kSlot h.words) s.dev)) s.dev))) ∧
      (32 ≤ kRlen h.words → ∃ t, exec (.keyInfo n) s = .next t ∧ t.dev.keys = s.dev.keys ∧
        t.dev.hif.sent = s.dev.hif.sent ++
          [.data (kRaddr h.words) (slotEntry (kSlot h.words) s.dev) (s.dev.on Reg.HIF_CTRL.RO_EN)] ∧
        (t.dev.ring n).owed = (s.dev.ring n).owed ++ [owedOf clsMbox h.idx h.words stOk 32
          (keyExt 32 (kSlot h.words) (slotGen (kSlot h.words) s.dev))])) ∧
    (keyReady s.dev n 7 h → dLen h.words ≠ 0 →
      (kRlen h.words < (attestation s.time nonce s.dev).length →
        exec (.keyAttest n nonce) s = .next (s.after (completeHead s.time n h stNoSpace 0
          (keyExt (attestation s.time nonce s.dev).length (kSlot h.words) (slotGen (kSlot h.words) s.dev)) s.dev))) ∧
      ((attestation s.time nonce s.dev).length ≤ kRlen h.words → ∃ t, exec (.keyAttest n nonce) s = .next t ∧
        t.dev.keys = s.dev.keys ∧ t.dev.hif.sent = s.dev.hif.sent ++
          [.data (kRaddr h.words) (attestation s.time nonce s.dev) (s.dev.on Reg.HIF_CTRL.RO_EN)])) ∧
    (attestation s.time nonce s.dev).length = 728 + 64 + 2 + Config.certLen % 2 ^ 16)

/-- R559 to R562 and R566: IMPORT, DERIVE and UNWRAP. A refused body completes with REJECTED, a wrap that does not authenticate
with AUTH_FAIL, a check value that does not match with BAD_CHECK, and none of them changes a slot. An accepted key that is
not persistent becomes the slot's pending key, verified when its check value matched; a persistent one is written to flash
with an erased commit record while the command waits. The active key stays in every case. R563, R564, R566 and R568: the end
of a flash copy, COMMIT and ERASE. A copy that reads back gives its slot the pending key, and one that does not leaves no
pending key, with KEY_INT cause 3. COMMIT makes a verified pending key the active one, with the commit record of a
persistent one written first, and refuses a slot without one; ERASE empties the slot and its copies and refuses a slot that
another names as its parent; with either the engines let go of the key. While PFW_N is low neither programs flash, and the
command ends with ABORTED_RESET. Where it rests on the model's reading, log entries 89 and 90 say so. -/
def Obligations.KeyLife : Prop :=
  ((∀ (s : State) (n : Nat) (b : KeyBody) (h : Taken), keyReady s.dev n 2 h → dLen h.words ≠ 0 →
    (keyBodyRefused (kSlot h.words) b s.dev = true →
      exec (.keyImport n b) s = .next (s.after (keyEnd s.time n h stRejected 0 s.dev))) ∧
    (keyBodyRefused (kSlot h.words) b s.dev = false →
      (b.wrapKey = none ∨ b.wrapSlot ≠ kSlot h.words ∨ b.wrapGen ≠ newGen (kSlot h.words) s.dev →
        exec (.keyImport n b) s = .next (s.after (keyEnd s.time n h stAuthFail 0 s.dev))) ∧
      (b.wrapKey ≠ none → b.wrapSlot = kSlot h.words → b.wrapGen = newGen (kSlot h.words) s.dev →
        exec (.keyImport n b) s = .next (s.after (keyArrive s.time n h b
          (keyNew b b.material 0 0 (newGen (kSlot h.words) s.dev)) s.dev))))) ∧
  (∀ (s : State) (n : Nat) (b : KeyBody) (h : Taken) (p : KeyRec), keyReady s.dev n 3 h → dLen h.words ≠ 0 →
    (parentOf (kParent h.words) 6 s.dev = none →
      exec (.keyDerive n b) s = .next (s.after (keyEnd s.time n h stRejected 0 s.dev))) ∧
    (parentOf (kParent h.words) 6 s.dev = some p → keyBodyRefused (kSlot h.words) b s.dev = true ∨ 1 < b.kdf ∨
        64 < b.label.length ∨ 64 < b.context.length →
      exec (.keyDerive n b) s = .next (s.after (keyEnd s.time n h stRejected 0 s.dev))) ∧
    (parentOf (kParent h.words) 6 s.dev = some p → keyBodyRefused (kSlot h.words) b s.dev = false → b.kdf ≤ 1 →
      b.label.length ≤ 64 → b.context.length ≤ 64 →
      exec (.keyDerive n b) s = .next (s.after (keyArrive s.time n h b
        (keyNew b (Config.derive p.material b.kdf b.label b.context) (p.depth + 1) (kParent h.words)
          (newGen (kSlot h.words) s.dev)) s.dev)))) ∧
  (∀ (s : State) (n : Nat) (b : KeyBody) (h : Taken) (p : KeyRec), keyReady s.dev n 4 h → dLen h.words ≠ 0 →
    (parentOf (kParent h.words) 5 s.dev = none →
      exec (.keyUnwrap n b) s = .next (s.after (keyEnd s.time n h stRejected 0 s.dev))) ∧
    (parentOf (kParent h.words) 5 s.dev = some p → keyBodyRefused (kSlot h.words) b s.dev = true →
      exec (.keyUnwrap n b) s = .next (s.after (keyEnd s.time n h stRejected 0 s.dev))) ∧
    (parentOf (kParent h.words) 5 s.dev = some p → keyBodyRefused (kSlot h.words) b s.dev = false →
      (b.wrapKey ≠ some p.material →
        exec (.keyUnwrap n b) s = .next (s.after (keyEnd s.time n h stAuthFail 0 s.dev))) ∧
      (b.wrapKey = some p.material → exec (.keyUnwrap n b) s = .next (s.after (keyArrive s.time n h b
        (keyNew b b.material (p.depth + 1) (kParent h.words) (newGen (kSlot h.words) s.dev)) s.dev))))) ∧
  (∀ (t : Time) (n : Nat) (h : Taken) (b : KeyBody) (k : KeyRec) (d : Dev), kSlot h.words < 64 →
    ((keyArrive t n h b k d).keySlot (kSlot h.words)).active = (d.keySlot (kSlot h.words)).active ∧
    (∀ c, b.kcv = some c → c ≠ k.material →
      (keyArrive t n h b k d).keys = d.keys ∧ ((keyArrive t n h b k d).ring n).owed = (d.ring n).owed ++
        [owedOf (d.ring n).cls h.idx h.words stBadCheck 0 (keyExt 0 (kSlot h.words) k.gen)]) ∧
    (k.persist = false → b.kcv = some k.material →
      ((keyArrive t n h b k d).keySlot (kSlot h.words)).pending = some (k, true) ∧
      (keyArrive t n h b k d).onN Reg.T_KSLOT.P_VERIFIED (kSlot h.words) = true ∧
      ((keyArrive t n h b k d).ring n).owed = (d.ring n).owed ++
        [owedOf (d.ring n).cls h.idx h.words stOk 0 (keyExt 0 (kSlot h.words) k.gen)]) ∧
    (k.persist = false → b.kcv = none →
      ((keyArrive t n h b k d).keySlot (kSlot h.words)).pending = some (k, false) ∧
      (keyArrive t n h b k d).onN Reg.T_KSLOT.P_VERIFIED (kSlot h.words) = false) ∧
    (k.persist = true → b.kcv = some k.material ∨ b.kcv = none → d.on Reg.GLB_STATUS.PFW = true →
      keyArrive t n h b k d = keyEnd t n h stAborted k.gen d) ∧
    (k.persist = true → b.kcv = some k.material ∨ b.kcv = none → d.on Reg.GLB_STATUS.PFW = false →
      (keyArrive t n h b k d).keys.cmd = some ⟨n, h.idx, kSlot h.words, k, b.kcv.isSome⟩ ∧
      tget (keyArrive t n h b k d).keys.copies (2 * kSlot h.words + k.gen % 2) = some ⟨k, true, false⟩ ∧
      (keyArrive t n h b k d).keys.slots = d.keys.slots ∧ (keyArrive t n h b k d).get Reg.KEY_STATUS.BUSY = 1))) ∧
  ((∀ (s : State) (g : Bool), s.dev.keys.cmd = none ∨ xaornUp s.dev = false → exec (.keyCopyWritten g) s = .next (s.after s.dev)) ∧
  (∀ (s : State) (c : KeyCmd), s.dev.keys.cmd = some c → xaornUp s.dev = true → c.slot < 64 →
    (∃ t, exec (.keyCopyWritten true) s = .next t ∧ t.dev.keys.cmd = none ∧ t.dev.get Reg.KEY_STATUS.BUSY = 0 ∧
      (t.dev.keySlot c.slot).pending = some (c.key, c.verified) ∧
      (t.dev.keySlot c.slot).active = (s.dev.keySlot c.slot).active ∧ t.dev.keys.copies = s.dev.keys.copies) ∧
    (∃ t, exec (.keyCopyWritten false) s = .next t ∧ t.dev.keys.cmd = none ∧ (t.dev.keySlot c.slot).pending = none ∧
      (t.dev.keySlot c.slot).active = (s.dev.keySlot c.slot).active ∧ bitOf (t.dev.word intKey.addr) 3 = true ∧
      tget t.dev.keys.copies (2 * c.slot + c.key.gen % 2) = some ⟨c.key, false, false⟩)) ∧
  (∀ (s : State) (n : Nat) (g : Bool) (h : Taken), keyReady s.dev n 5 h →
    ((s.dev.keySlot (kSlot h.words)).pending = none → exec (.keyCommit n g) s =
      .next (s.after (keyEnd s.time n h stRejected (slotGen (kSlot h.words) s.dev) s.dev))) ∧
    (∀ k, (s.dev.keySlot (kSlot h.words)).pending = some (k, false) →
      exec (.keyCommit n g) s = .next (s.after (keyEnd s.time n h stNotVerified k.gen s.dev))) ∧
    (∀ k, (s.dev.keySlot (kSlot h.words)).pending = some (k, true) → k.persist = true →
      (s.dev.on Reg.GLB_STATUS.PFW = true →
        exec (.keyCommit n g) s = .next (s.after (keyEnd s.time n h stAborted k.gen s.dev))) ∧
      (s.dev.on Reg.GLB_STATUS.PFW = false → g = false → exec (.keyCommit n g) s =
        .next (s.after (keyEnd s.time n h stRejected k.gen (s.dev.cause intKey 3 (kSlot h.words) stRejected))))) ∧
    (∀ k, (s.dev.keySlot (kSlot h.words)).pending = some (k, true) →
      k.persist = false ∨ (g = true ∧ s.dev.on Reg.GLB_STATUS.PFW = false) →
      ∃ t, exec (.keyCommit n g) s = .next t ∧ (t.dev.keySlot (kSlot h.words)).active = some k ∧
        (t.dev.keySlot (kSlot h.words)).pending = none ∧ t.dev.getN Reg.T_KSLOT.USES (kSlot h.words) = 0 ∧
        t.dev.getN Reg.T_KSLOT.STATE (kSlot h.words) = 1 ∧ (∀ x ∈ t.dev.keys.held, x.2.2 ≠ kSlot h.words) ∧
        (k.persist = true →
          tget t.dev.keys.copies (2 * kSlot h.words + k.gen % 2) = some ⟨k, true, true⟩) ∧
        (∀ m, m ≠ kSlot h.words → t.dev.keySlot m = s.dev.keySlot m))) ∧
  (∀ (s : State) (n : Nat) (h : Taken), keyReady s.dev n 6 h →
    (slotIsParent (kSlot h.words) s.dev = true → exec (.keyErase n) s =
      .next (s.after (keyEnd s.time n h stRejected (slotGen (kSlot h.words) s.dev) s.dev))) ∧
    (slotIsParent (kSlot h.words) s.dev = false → s.dev.on Reg.GLB_STATUS.PFW = true →
      (tget s.dev.keys.copies (2 * kSlot h.words)).isSome = true ∨
        (tget s.dev.keys.copies (2 * kSlot h.words + 1)).isSome = true →
      exec (.keyErase n) s = .next (s.after (keyEnd s.time n h stAborted (slotGen (kSlot h.words) s.dev) s.dev))) ∧
    (slotIsParent (kSlot h.words) s.dev = false → s.dev.on Reg.GLB_STATUS.PFW = false ∨
        (tget s.dev.keys.copies (2 * kSlot h.words) = none ∧ tget s.dev.keys.copies (2 * kSlot h.words + 1) = none) →
      ∃ t, exec (.keyErase n) s = .next t ∧ t.dev.keySlot (kSlot h.words) = ⟨none, none⟩ ∧
        tget t.dev.keys.copies (2 * kSlot h.words) = none ∧ tget t.dev.keys.copies (2 * kSlot h.words + 1) = none ∧
        t.dev.getN Reg.T_KSLOT.STATE (kSlot h.words) = 0 ∧ (∀ x ∈ t.dev.keys.held, x.2.2 ≠ kSlot h.words))))

/-- Table RST-6: the firmware service. STATUS replies; WRITE puts its bytes into the slot that does not run and undoes a CHECK,
and is refused beyond the slot; CHECK of a good image is noted and answers its SHA-384; ACTIVATE without a CHECK is refused,
and with one starts the new image under TRIAL, with UPDATING set, or ends the update where that image fails its check
(R630); SETTINGS is refused when it would be no valid copy. A body without length completes with SKIPPED_ZERO, and while
PFW_N is low nothing is programmed and the command ends with ABORTED_RESET (R568). R626, R630 and R631: the life of the
Xaorn cores. Their report sets XAORN_RUN and ends an update with OK in GLB_XAORN.LAST; without it for 5 s the update fails
with REJECTED and GLB_INT.XAORN; a lockstep mismatch counts a restart and starts the cores again from the image they ran,
with UPDATING set. Where it rests on the model's reading, log entry 91 says so. -/
def Obligations.Firmware : Prop :=
  ((∀ (s : State) (n : Nat) (h : Taken), mboxReady s.dev n 2 1 h → kRlen h.words < (fwStatusBytes s.dev).length →
    exec (.fwStatus n) s =
      .next (s.after (completeHead s.time n h stNoSpace 0 (keyExt (fwStatusBytes s.dev).length 0 0) s.dev))) ∧
  (∀ (s : State) (n k : Nat) (bs : List Byte) (h : Taken),
    (mboxReady s.dev n 2 2 h → dLen h.words = 0 ∨ bs = [] → exec (.fwWrite n k bs) s =
      .next (s.after (completeHead s.time n h stSkipped 0 (keyExt 0 0 0) s.dev))) ∧
    (mboxReady s.dev n 2 3 h → dLen h.words = 0 ∨ k = 0 → exec (.fwCheck n k) s =
      .next (s.after (completeHead s.time n h stSkipped 0 (keyExt 0 0 0) s.dev))) ∧
    (mboxReady s.dev n 2 5 h → dLen h.words = 0 → exec (.fwSettings n bs) s =
      .next (s.after (completeHead s.time n h stSkipped 0 (keyExt 0 0 0) s.dev))) ∧
    (s.dev.on Reg.GLB_STATUS.PFW = true →
      (mboxReady s.dev n 2 2 h → dLen h.words ≠ 0 → bs ≠ [] → bs.length ≤ 0x10000 → k + bs.length ≤ 0x800000 →
        exec (.fwWrite n k bs) s = .next (s.after (completeHead s.time n h stAborted 0 (keyExt 0 0 0) s.dev))) ∧
      (mboxReady s.dev n 2 4 h → s.dev.pwr.checked = true →
        exec (.fwActivate n) s = .next (s.after (completeHead s.time n h stAborted 0 (keyExt 0 0 0) s.dev))) ∧
      (mboxReady s.dev n 2 5 h → dLen h.words ≠ 0 → settingsOk bs = true →
        exec (.fwSettings n bs) s = .next (s.after (completeHead s.time n h stAborted 0 (keyExt 0 0 0) s.dev))))) ∧
  (∀ (s : State) (n : Nat) (h : Taken), mboxReady s.dev n 2 1 h → (fwStatusBytes s.dev).length ≤ kRlen h.words →
    ∃ t, exec (.fwStatus n) s = .next t ∧ t.dev.pwr = s.dev.pwr ∧ t.dev.hif.sent = s.dev.hif.sent ++
      [.data (kRaddr h.words) (fwStatusBytes s.dev) (s.dev.on Reg.HIF_CTRL.RO_EN)]) ∧
  (∀ (s : State) (n ofs : Nat) (bs : List Byte) (h : Taken), mboxReady s.dev n 2 2 h → dLen h.words ≠ 0 → bs ≠ [] →
    (0x10000 < bs.length ∨ 0x800000 < ofs + bs.length → exec (.fwWrite n ofs bs) s =
      .next (s.after (completeHead s.time n h stRejected 0 (keyExt 0 0 0) s.dev))) ∧
    (bs.length ≤ 0x10000 → ofs + bs.length ≤ 0x800000 → s.dev.on Reg.GLB_STATUS.PFW = false →
      ∃ t, exec (.fwWrite n ofs bs) s = .next t ∧ t.dev.pwr.checked = false ∧
        (∀ i, i < bs.length → imageByte t.dev.pwr (idleSlot s.dev) (ofs + i) = bs.getD i 0) ∧
        (∀ i, i < ofs ∨ ofs + bs.length ≤ i →
          imageByte t.dev.pwr (idleSlot s.dev) i = imageByte s.dev.pwr (idleSlot s.dev) i) ∧
        (∀ i k, k ≠ idleSlot s.dev → imageByte t.dev.pwr k i = imageByte s.dev.pwr k i))) ∧
  (∀ (s : State) (n len : Nat) (h : Taken), mboxReady s.dev n 2 3 h → dLen h.words ≠ 0 → len ≠ 0 →
    if Config.imageOk (tget s.dev.pwr.images (idleSlot s.dev)) (some len) = true then
      ∃ t, exec (.fwCheck n len) s = .next t ∧ t.dev.pwr.checked = true ∧ t.dev.pwr.images = s.dev.pwr.images
    else exec (.fwCheck n len) s = .next (s.after (completeHead s.time n h stNotVerified 0 (keyExt 0 0 0) s.dev))) ∧
  (∀ (s : State) (n : Nat) (h : Taken), mboxReady s.dev n 2 4 h →
    (s.dev.pwr.checked = false → exec (.fwActivate n) s =
      .next (s.after (completeHead s.time n h stRejected 0 (keyExt 0 0 0) s.dev))) ∧
    (s.dev.pwr.checked = true → s.dev.on Reg.GLB_STATUS.PFW = false →
      ∃ t, exec (.fwActivate n) s = .next t ∧ t.dev.pwr.images = s.dev.pwr.images ∧
        (t.dev.ring n).owed = (s.dev.ring n).owed ++ [owedOf clsMbox h.idx h.words stOk 0 (keyExt 0 0 0)] ∧
        if imageGood (idleSlot s.dev) s.dev.pwr = true then
          t.dev.on Reg.GLB_STATUS.UPDATING = true ∧ t.dev.get Reg.GLB_STATUS.SLOT = idleSlot s.dev ∧
          t.dev.on Reg.GLB_STATUS.XAORN_RUN = false ∧ t.dev.pwr.update = true ∧ t.dev.pwr.xaornFrom = s.time.loc
        else t.dev.on Reg.GLB_STATUS.UPDATING = false ∧ t.dev.pwr.update = false)) ∧
  (∀ (s : State) (n : Nat) (b : List Byte) (h : Taken), mboxReady s.dev n 2 5 h → dLen h.words ≠ 0 →
    (settingsOk b = false → exec (.fwSettings n b) s =
      .next (s.after (completeHead s.time n h stRejected 0 (keyExt 0 0 0) s.dev))) ∧
    (settingsOk b = true → s.dev.on Reg.GLB_STATUS.PFW = false →
      ∃ t, exec (.fwSettings n b) s = .next t ∧ t.dev.pwr.images = s.dev.pwr.images ∧
        (t.dev.pwr.copyA = s.dev.pwr.copyA ∨ t.dev.pwr.copyB = s.dev.pwr.copyB) ∧ t.dev.pwr = setWrite b s.dev.pwr))) ∧
  ((∀ (s : State), s.dev.pwr.xaornRuns = false ∨ s.dev.up islMgt = false ∨ s.dev.on Reg.GLB_STATUS.XAORN_RUN = true →
    exec .xaornReport s = .next (s.after s.dev)) ∧
  (∀ (s : State), s.dev.pwr.xaornRuns = true → s.dev.up islMgt = true → s.dev.on Reg.GLB_STATUS.XAORN_RUN = false →
    s.dev.pwr.update = false →
    ∃ t, exec .xaornReport s = .next t ∧ t.dev.on Reg.GLB_STATUS.XAORN_RUN = true ∧
      t.dev.on Reg.GLB_STATUS.UPDATING = false ∧ t.dev.pwr = s.dev.pwr ∧
      t.dev.get Reg.GLB_XAORN.LAST = s.dev.get Reg.GLB_XAORN.LAST) ∧
  (∀ (s : State), s.dev.pwr.xaornRuns = true → s.dev.up islMgt = true → s.dev.on Reg.GLB_STATUS.XAORN_RUN = false →
    s.dev.pwr.update = true → ∃ t, exec .xaornReport s = .next t ∧ t.dev.pwr.update = false ∧
      t.dev.on Reg.GLB_STATUS.XAORN_RUN = true ∧ t.dev.get Reg.GLB_XAORN.LAST = stOk ∧ t.dev.on Reg.GLB_STATUS.UPDATING = false ∧
      bitOf (t.dev.word intGlb.addr) 4 = true) ∧
  (∀ (s : State), s.dev.pwr.update = false ∨ s.dev.on Reg.GLB_STATUS.XAORN_RUN = true ∨
      s.time.loc - s.dev.pwr.xaornFrom < 5000000000 → exec .updateTimeout s = .next (s.after s.dev)) ∧
  (∀ (s : State), s.dev.pwr.update = true → s.dev.on Reg.GLB_STATUS.XAORN_RUN = false →
    5000000000 ≤ s.time.loc - s.dev.pwr.xaornFrom →
    ∃ t, exec .updateTimeout s = .next t ∧ t.dev.pwr.update = false ∧ t.dev.get Reg.GLB_XAORN.LAST = stRejected ∧
      t.dev.on Reg.GLB_STATUS.UPDATING = false ∧ bitOf (t.dev.word intGlb.addr) 4 = true) ∧
  (∀ (s : State) (p : Nat), s.dev.pwr.xaornRuns = false ∨ s.dev.up islMgt = false ∨ 2 ≤ p →
    exec (.lockstepMismatch p) s = .next (s.after s.dev)) ∧
  (∀ (s : State) (p : Nat), s.dev.pwr.xaornRuns = true → s.dev.up islMgt = true → p < 2 →
    s.dev.on Reg.GLB_STATUS.XFAIL = false →
    ∃ t, exec (.lockstepMismatch p) s = .next t ∧ t.dev.on Reg.GLB_STATUS.UPDATING = true ∧
      t.dev.on Reg.GLB_STATUS.XAORN_RUN = false ∧ t.dev.get Reg.GLB_STATUS.SLOT = s.dev.get Reg.GLB_STATUS.SLOT ∧
      t.dev.pwr.xaornFrom = s.time.loc ∧ t.dev.get Reg.GLB_XAORN.RESTARTS =
        min (s.dev.get Reg.GLB_XAORN.RESTARTS + 1) (2 ^ Reg.GLB_XAORN.RESTARTS.width - 1) ∧
      bitOf (t.dev.word intGlb.addr) 4 = true))

/-- R570, R574 to R578: the way of an event into the Logbook. An event of a code without limit enters the intake with the
instant at which it was raised; one of a code whose records are off, or whose bucket is empty, is dropped, counted in the
code's DROPS, and leaves a pending count; a full intake drops it with LOG_INT cause 3, and a Logbook that takes no more
records counts it in LOG_CNT_FULL. A code that no table defines is never written. A bucket gains what its RATE has given, up
to its BURST. R571 to R573 and R577 to R580: the writer. The record of the event at the head of the intake takes the next
SEQ, the code's pending count as DROPS and the event's instant, in a free region; one that does not read back is written
again elsewhere, its region is fenced and the fourth failure ends the Logbook; when only the last free region is left, a
record of code 530 ends it. R581 and R582: the scrub reads the memory word by word, and a word that fails parity is read
again; a good second read counts a transient, a bad one a lasting fault, which fences its region with LOG_INT cause 1. Where
it rests on the model's reading, log entries 21, 22 and 23 say so. -/
def Obligations.LogbookWriter : Prop :=
  ((∀ (s : State) (c i x y : Nat), s.dev.pwr.released = false → exec (.logEvent c i x y) s = .next (s.after s.dev)) ∧
  (∀ (s : State) (c i x y : Nat), s.dev.pwr.released = true → s.dev.evs = [] → codeDefined c = true →
    (s.dev.onN Reg.T_LIMIT.OFF c = false → s.dev.getN Reg.T_LIMIT.RATE c = 0 → s.log.full = false → s.log.failed = false →
      s.log.intake.length < 64 →
      ∃ t, exec (.logEvent c i x y) s = .next t ∧
        t.log = { s.log with intake := s.log.intake ++ [⟨⟨c, i, x, y, []⟩, s.time.ns⟩] } ∧
        t.dev.get Reg.LOG_STATUS.INTAKE = s.log.intake.length + 1 ∧ t.dev.hif = s.dev.hif ∧
        ∀ a, a ≠ 0x120000 → t.dev.word a = s.dev.word a) ∧
    (s.dev.onN Reg.T_LIMIT.OFF c = true ∨
        (s.dev.getN Reg.T_LIMIT.RATE c ≠ 0 ∧ (bucketRefill (s.dev.getN Reg.T_LIMIT.RATE c) (burstOf c s.dev) s.time.loc
          (tget s.log.buckets c)).held = 0) →
      ∃ t, exec (.logEvent c i x y) s = .next t ∧ t.log.intake = s.log.intake ∧ t.log.records = s.log.records ∧
        tget t.log.pend c = tget s.log.pend c + 1 ∧ t.dev.getN Reg.T_LIMIT.DROPS c =
          min (s.dev.getN Reg.T_LIMIT.DROPS c + 1) (2 ^ Reg.T_LIMIT.DROPS.width - 1)) ∧
    (∀ b, s.dev.onN Reg.T_LIMIT.OFF c = false → s.dev.getN Reg.T_LIMIT.RATE c ≠ 0 →
      b = bucketRefill (s.dev.getN Reg.T_LIMIT.RATE c) (burstOf c s.dev) s.time.loc (tget s.log.buckets c) → 0 < b.held →
      s.log.full = false → s.log.failed = false → s.log.intake.length < 64 →
      ∃ t, exec (.logEvent c i x y) s = .next t ∧ t.log = { s.log with
          intake := s.log.intake ++ [⟨⟨c, i, x, y, []⟩, s.time.ns⟩]
          buckets := tset s.log.buckets c (bucketTake (s.dev.getN Reg.T_LIMIT.RATE c) s.time.loc b) } ∧
        (tget t.log.buckets c).held = b.held - 1) ∧
    (s.dev.onN Reg.T_LIMIT.OFF c = false → s.dev.getN Reg.T_LIMIT.RATE c = 0 → s.log.full = true ∨ s.log.failed = true →
      ∃ t, exec (.logEvent c i x y) s = .next t ∧ t.log = { s.log with pend := tset s.log.pend c (tget s.log.pend c + 1) } ∧
        t.dev.get Reg.LOG_CNT_FULL.N = min (s.dev.get Reg.LOG_CNT_FULL.N + 1) (2 ^ Reg.LOG_CNT_FULL.N.width - 1)) ∧
    (s.dev.onN Reg.T_LIMIT.OFF c = false → s.dev.getN Reg.T_LIMIT.RATE c = 0 → s.log.full = false → s.log.failed = false →
      64 ≤ s.log.intake.length →
      ∃ t, exec (.logEvent c i x y) s = .next t ∧ t.log.intake = s.log.intake ∧
        tget s.log.pend c < tget t.log.pend c ∧ bitOf (t.dev.word intLog.addr) 3 = true)) ∧
  (∀ (s : State) (c i x y : Nat), s.dev.evs = [] → codeDefined c = false →
    exec (.logEvent c i x y) s = .next (s.after s.dev)) ∧
  (∀ (s : State) (c : Nat),
    (1024 ≤ c ∨ s.dev.getN Reg.T_LIMIT.RATE c = 0 → exec (.logTokenRefill c) s = .next (s.after s.dev)) ∧
    (c < 1024 → s.dev.getN Reg.T_LIMIT.RATE c ≠ 0 → exec (.logTokenRefill c) s = .next (s.afterLog { s.log with
      buckets := tset s.log.buckets c (bucketRefill (s.dev.getN Reg.T_LIMIT.RATE c) (burstOf c s.dev) s.time.loc
        (tget s.log.buckets c)) } s.dev))) ∧
  (∀ (rate burst now : Nat) (b : Bucket),
    (bucketRefill rate burst now b).held = min burst (b.held + bucketDue now b) ∧
    bucketDue now (bucketRefill rate burst now b) = 0 ∧
    (b.run = true → b.given = 0 → bucketDue now b = (now - b.start) * b.rate / 1000000000))) ∧
  ((∀ (s : State) (g : Bool), s.log.intake = [] ∨ s.log.full = true ∨ s.log.failed = true →
    exec (.logRecordWrite g) s = .next (s.after s.dev)) ∧
  (∀ (s : State) (x : LogItem) (rest : List LogItem) (p : Nat × Nat), s.log.intake = x :: rest → s.log.full = false →
    s.log.failed = false → s.dev.evs = [] → p = logRecPlace s.log (logRecLen x.ev) →
    (p.1 < lastRegion s.log.fenced logRegions →
      (∃ t, exec (.logRecordWrite true) s = .next t ∧ t.log.intake = rest ∧ t.log.seq = s.log.seq + 1 ∧
        t.log.records = s.log.records ++ [⟨s.log.seq + 1, x.ev, min 0xFFFF (tget s.log.pend x.ev.code), x.t,
          decide (0 < s.log.attempts), p.1, p.2⟩] ∧ tget t.log.pend x.ev.code = 0 ∧ t.log.attempts = 0 ∧
        t.dev.get Reg.LOG_SEQ.SEQ = (s.log.seq + 1) % 2 ^ 32 ∧ t.dev.hif = s.dev.hif ∧ t.time = s.time) ∧
      exec (.logRecordWrite false) s = .next (s.afterLog (logWriteBad p.1 s.log s.dev).1 (logWriteBad p.1 s.log s.dev).2)) ∧
    (lastRegion s.log.fenced logRegions ≤ p.1 → ∀ g, ∃ t, exec (.logRecordWrite g) s = .next t ∧ t.log.full = true ∧
      t.log.intake = [] ∧ ((logRecPlace s.log 32).1 ≤ lastRegion s.log.fenced logRegions →
        ∃ r, t.log.records = s.log.records ++ [r] ∧ r.ev.code = 530 ∧ r.seq = s.log.seq + 1 ∧ r.t = s.time.ns))) ∧
  (∀ (r : Nat) (lb : Logbook) (d : Dev), r ∈ (logWriteBad r lb d).1.fenced ∧
    (logWriteBad r lb d).1.records = lb.records ∧ bitOf ((logWriteBad r lb d).2.word intLog.addr) 1 = true ∧
    (logWriteBad r lb d).2.get Reg.LOG_HEALTH2.WFAIL =
      min (d.get Reg.LOG_HEALTH2.WFAIL + 1) (2 ^ Reg.LOG_HEALTH2.WFAIL.width - 1) ∧
    (lb.attempts < 3 → (logWriteBad r lb d).1.attempts = lb.attempts + 1 ∧ (logWriteBad r lb d).1.failed = lb.failed ∧
      (logWriteBad r lb d).1.intake = lb.intake) ∧
    (3 ≤ lb.attempts → (logWriteBad r lb d).1.failed = true ∧ (logWriteBad r lb d).1.intake = [] ∧
      (logWriteBad r lb d).2.get Reg.LOG_HEALTH0.STATE = 2 ∧ bitOf ((logWriteBad r lb d).2.word intLog.addr) 2 = true))) ∧
  ((∀ (s : State) (b : Bool), s.dev.pwr.released = true →
    exec (.logScrub b) s = .next (s.afterLog { s.log with
      scrub := (s.log.scrub + 1) % 524288,
      again := if b = true ∧ s.log.scrub ∉ s.log.again then s.log.again ++ [s.log.scrub] else s.log.again } s.dev)) ∧
  (∀ (s : State) (b : Bool), s.dev.pwr.released = false → exec (.logScrub b) s = .next (s.after s.dev)) ∧
  (∀ (s : State) (b : Bool), s.log.again = [] → exec (.logReread b) s = .next (s.after s.dev)) ∧
  (∀ (s : State) (w : Nat) (rest : List Nat), s.log.again = w :: rest →
    exec (.logReread false) s =
      .next (s.afterLog { s.log with again := rest } (s.dev.sat Reg.LOG_HEALTH0.TRANS)) ∧
    ∃ lb d, exec (.logReread true) s = .next (s.afterLog lb d) ∧ lb.again = rest ∧ w ∈ lb.lasting ∧ w / 64 ∈ lb.fenced ∧
      lb.records = s.log.records ∧ d.get Reg.LOG_HEALTH2.LASTING =
        min (s.dev.get Reg.LOG_HEALTH2.LASTING + 1) (2 ^ Reg.LOG_HEALTH2.LASTING.width - 1) ∧
      bitOf (d.word intLog.addr) 1 = true))

/-- R583 to R587: the reader. GO starts it at LOG_RD_START with END the last SEQ, or STATUS reads REJECTED for a start that is 0
or beyond the next SEQ or a ring that takes no records; it packs the records it can deliver into the posted buffer; the
buffer completes when END is in it, or 1 ms after its first record; STOP completes what it holds and stops it. R588, R589,
R642, R660 and R661: the flash copies of the Logbook. Xaorn mirrors the record after LOG_MIR_SEQ while LOGMIR is on. On the
fall of PFW_N, GLB_STATUS.PFW and GLB_INT.PFW are set and a ready flush area takes the newest records that fit; without one,
LOG_INT cause 5 says so. The flush ends with its header, and the area is erased into the mirror before it is ready again.
Where it rests on the model's reading, log entries 24 and 25 say so. -/
def Obligations.LogbookReader : Prop :=
  ((∀ (s : State) (v : Word32), s.dev.pwr.released = true → bitOf v 9 = true → s.dev.on Reg.LOG_RD_STAT.RUN = false →
    (s.dev.get Reg.LOG_RD_START.SEQ = 0 ∨ s.log.seq + 1 < s.dev.get Reg.LOG_RD_START.SEQ ∨
        ringRuns s.dev (v.toNat % 256) = false ∨ (s.dev.ring (v.toNat % 256)).cls ≠ clsLogs →
      ∃ t, exec (.logReadGo v) s = .next t ∧ t.dev.get Reg.LOG_RD_STAT.STATUS = stRejected ∧
        t.dev.on Reg.LOG_RD_STAT.RUN = false ∧ t.dev.rdr = s.dev.rdr) ∧
    (s.dev.get Reg.LOG_RD_START.SEQ ≠ 0 → s.dev.get Reg.LOG_RD_START.SEQ ≤ s.log.seq →
      ringRuns s.dev (v.toNat % 256) = true → (s.dev.ring (v.toNat % 256)).cls = clsLogs →
      ∃ t, exec (.logReadGo v) s = .next t ∧ t.dev.get Reg.LOG_RD_STAT.STATUS = stOk ∧
        t.dev.on Reg.LOG_RD_STAT.RUN = true ∧ t.dev.get Reg.LOG_RD_NEXT.SEQ = s.dev.get Reg.LOG_RD_START.SEQ ∧
        t.dev.rdr = ⟨s.dev.get Reg.LOG_RD_START.SEQ, s.log.seq, bitOf v 8, v.toNat % 256, false, [], 0⟩) ∧
    (s.dev.get Reg.LOG_RD_START.SEQ ≠ 0 → s.dev.get Reg.LOG_RD_START.SEQ = s.log.seq + 1 →
      ringRuns s.dev (v.toNat % 256) = true → (s.dev.ring (v.toNat % 256)).cls = clsLogs →
      ∃ t, exec (.logReadGo v) s = .next t ∧ t.dev.get Reg.LOG_RD_STAT.STATUS = stOk ∧
        t.dev.on Reg.LOG_RD_STAT.RUN = bitOf v 8 ∧ t.dev.get Reg.LOG_RD_NEXT.SEQ = s.dev.get Reg.LOG_RD_START.SEQ)) ∧
  (∀ (s : State) (v : Word32), s.dev.pwr.released = true →
    (bitOf v 9 = false ∨ s.dev.on Reg.LOG_RD_STAT.RUN = true → exec (.logReadGo v) s = .next (s.after
      ((s.dev.set Reg.LOG_RD_CTRL.RING v.toNat).set Reg.LOG_RD_CTRL.FOLLOW (bits v.toNat 8 1)))) ∧
    (bitOf v 10 = false ∨ s.dev.on Reg.LOG_RD_STAT.RUN = false → exec (.logReadStop v) s = .next (s.after
      ((s.dev.set Reg.LOG_RD_CTRL.RING v.toNat).set Reg.LOG_RD_CTRL.FOLLOW (bits v.toNat 8 1))))) ∧
  (∀ (s : State), s.dev.on Reg.LOG_RD_STAT.RUN = false ∨ (s.dev.rdr.follow = true ∧ readerNext s.log s.dev.rdr = none) →
    exec .logReadDeliver s = .next (s.after s.dev)) ∧
  (∀ (s : State), s.dev.on Reg.LOG_RD_STAT.RUN = true →
    exec .logReadDeliver s = .next (s.afterLog (readerPack s.time (s.log.records.length + 1) s.log s.dev).1
      (readerPack s.time (s.log.records.length + 1) s.log s.dev).2) ∧
    (s.dev.rdr.follow = false → readerNext s.log s.dev.rdr = none →
      ∃ t, exec .logReadDeliver s = .next t ∧ t.dev.on Reg.LOG_RD_STAT.RUN = false ∧ t.dev.rdr.buf = []) ∧
    (∀ x, readerNext s.log s.dev.rdr = some x → ringFree s.dev s.dev.rdr.ring = false →
      exec .logReadDeliver s = .next (s.after s.dev))) ∧
  (∀ (s : State) (x : LogRec) (b : Posted) (rest : List Posted), s.dev.on Reg.LOG_RD_STAT.RUN = true →
    s.dev.rdr.follow = false → readerNext s.log s.dev.rdr = some x → x.seq = s.dev.rdr.stop → s.dev.rdr.buf = [] →
    ringFree s.dev s.dev.rdr.ring = true → (s.dev.ring s.dev.rdr.ring).posted = b :: rest → logRecLen x.ev ≤ b.len →
    logRecFaults s.log x = [] →
    ∃ t, exec .logReadDeliver s = .next t ∧ t.dev.on Reg.LOG_RD_STAT.RUN = false ∧ t.dev.rdr.buf = [] ∧
      t.dev.hif.sent = s.dev.hif.sent ++ [.data b.addr (logRecBytes s.log x) (s.dev.on Reg.HIF_CTRL.RO_EN)]) ∧
  (∀ (s : State), s.dev.on Reg.LOG_RD_STAT.RUN = false ∨ s.dev.rdr.buf = [] ∨ s.time.loc - s.dev.rdr.since < 1000000 →
    exec .logBufferTimeout s = .next (s.after s.dev)) ∧
  (∀ (s : State), s.dev.on Reg.LOG_RD_STAT.RUN = true → s.dev.rdr.buf ≠ [] → s.dev.rdr.ring < 256 →
    1000000 ≤ s.time.loc - s.dev.rdr.since →
    ∃ t, exec .logBufferTimeout s = .next t ∧ t.dev.rdr = { s.dev.rdr with buf := [] } ∧
      t.dev.on Reg.LOG_RD_STAT.RUN = true) ∧
  (∀ (s : State) (v : Word32), s.dev.pwr.released = true → bitOf v 10 = true → s.dev.on Reg.LOG_RD_STAT.RUN = true →
    ∃ t, exec (.logReadStop v) s = .next t ∧ t.dev.on Reg.LOG_RD_STAT.RUN = false ∧ t.dev.rdr.buf = [] ∧
      t.log.records = s.log.records) ∧
  (∀ (s : State) (v : Word32), s.dev.pwr.released = false →
    exec (.logReadGo v) s = .next (s.after s.dev) ∧ exec (.logReadStop v) s = .next (s.after s.dev))) ∧
  ((∀ (s : State), s.dev.get Reg.GLB_SPLIT.LOGMIR = 0 ∨ xaornUp s.dev = false ∨
      (∀ r ∈ s.log.records, r.seq ≤ s.dev.get Reg.LOG_MIR_SEQ.SEQ) →
    exec .mirrorRecord s = .next (s.after s.dev)) ∧
  (∀ (s : State) (x : LogRec), s.dev.get Reg.GLB_SPLIT.LOGMIR ≠ 0 → xaornUp s.dev = true →
    s.log.records.find? (fun r => decide (s.dev.get Reg.LOG_MIR_SEQ.SEQ < r.seq)) = some x →
    ∃ t, exec .mirrorRecord s = .next t ∧ t.dev.get Reg.LOG_MIR_SEQ.SEQ = x.seq % 2 ^ 32 ∧
      t.dev.flush.mirror = newestFit (mirrorBytes s.dev) (s.dev.flush.mirror ++ [x]) ∧
      t.dev.flush.area = s.dev.flush.area) ∧
  (∀ (s : State), s.dev.pwr.released = false ∨ s.dev.pwr.pfwLow = true →
    exec .powerFailWarning s = .next (s.after s.dev)) ∧
  (∀ (s : State), s.dev.pwr.released = true → s.dev.pwr.pfwLow = false →
    ∃ t, exec .powerFailWarning s = .next t ∧ t.dev.pwr.pfwLow = true ∧ t.dev.on Reg.GLB_STATUS.PFW = true ∧
      bitOf (t.dev.word intGlb.addr) 3 = true ∧ t.dev.keys.cmd = none ∧ t.time = s.time ∧
      (s.dev.on Reg.LOG_STATUS.FLUSH_READY = true → t.dev.flush.running = true ∧ t.dev.flush.tEdge = s.time.ns ∧
        t.dev.flush.area = newestFit 65472 s.log.records ∧ t.dev.flush.header = none ∧
        t.dev.on Reg.LOG_STATUS.FLUSH_READY = false) ∧
      (s.dev.on Reg.LOG_STATUS.FLUSH_READY = false → t.dev.flush = s.dev.flush ∧
        bitOf (t.dev.word intLog.addr) 5 = true)) ∧
  (∀ (s : State), (s.dev.pwr.released = true ∧ s.dev.pwr.pfwLow = true →
      exec .powerFailClear s = .next (s.after (((s.dev.modPwr fun p => { p with pfwLow := false }).set
        Reg.GLB_STATUS.PFW 0).event 20 0 1 0))) ∧
    (s.dev.pwr.released = false ∨ s.dev.pwr.pfwLow = false → exec .powerFailClear s = .next (s.after s.dev))) ∧
  (∀ (s : State), s.dev.flush.running = false → exec .logFlushDone s = .next (s.after s.dev)) ∧
  (∀ (s : State), s.dev.flush.running = true →
    ∃ t a b, exec .logFlushDone s = .next t ∧ t.dev.flush.running = false ∧ t.dev.flush.area = s.dev.flush.area ∧
      t.dev.flush.header = some (a, b, s.dev.flush.tEdge, s.dev.get Reg.LOG_HEALTH0.STATE) ∧
      bitOf (t.dev.word intLog.addr) 4 = true ∧ (s.dev.flush.area = [] → a = 0 ∧ b = 0) ∧
      (∀ x m, s.dev.flush.area = x :: m → a = x.seq) ∧ (∀ x m, s.dev.flush.area = m ++ [x] → b = x.seq)) ∧
  (∀ (s : State), xaornUp s.dev = true → s.dev.flush.running = false → s.dev.on Reg.LOG_STATUS.FLUSH_READY = false →
    ∃ t, exec .flushAreaErase s = .next t ∧ t.dev.flush.area = [] ∧ t.dev.flush.header = none ∧
      t.dev.on Reg.LOG_STATUS.FLUSH_READY = true ∧ t.dev.flush.mirror = (if s.dev.flush.header.isSome then
        newestFit (mirrorBytes s.dev) (s.dev.flush.mirror ++ s.dev.flush.area) else s.dev.flush.mirror)) ∧
  (∀ (s : State), xaornUp s.dev = false ∨ s.dev.flush.running = true ∨ s.dev.on Reg.LOG_STATUS.FLUSH_READY = true →
    exec .flushAreaErase s = .next (s.after s.dev)))

/-- R590 to R594: the Lookout. A sample of a kind enters every enabled probe of that kind and index: its count, bounds, sum and
bin; beyond LIMIT it sets the probe's bit and LKO_INT cause 0. EN of a probe with a bad kind, index, BASE or WIDTH is
refused with cause 1, and an accepted one starts from nothing. LKO_SNAP copies the accumulators and clears them when asked.
Where it rests on the model's reading, log entry 26 says so. -/
def Obligations.Lookout : Prop :=
  (∀ (s : State) (k i : Nat) (v : Int) (n : Nat), s.dev.up islMgt = false ∨ s.dev.on Reg.LKO_CTRL.EN = false ∨ k = 0 ∨
      15 < k ∨ (∀ p, p < 64 → probeHears s.dev k i p = false) →
    exec (.probeSample k i v n) s = .next (s.after s.dev)) ∧
  (∀ (s : State) (k i p : Nat) (v : Int), s.dev.up islMgt = true → s.dev.on Reg.LKO_CTRL.EN = true → 1 ≤ k → k ≤ 15 →
    (List.range 64).filter (probeHears s.dev k i) = [p] → -2 ^ 31 ≤ v → v < 2 ^ 31 →
    ∃ t, exec (.probeSample k i v 0) s = .next t ∧ (tget t.dev.lko p).count = min ((tget s.dev.lko p).count + 1) (2 ^ 32 - 1) ∧
      (tget t.dev.lko p).low ≤ v ∧ v ≤ (tget t.dev.lko p).high ∧
      (tget t.dev.lko p).sum = satInt 64 ((tget s.dev.lko p).sum + v) ∧
      (∀ q, q ≠ p → tget t.dev.lko q = tget s.dev.lko q) ∧
      (sint 32 (s.dev.getN Reg.T_PROBE.LIMIT p) ≠ 0 → sint 32 (s.dev.getN Reg.T_PROBE.LIMIT p) < v →
        bitOf (t.dev.word intLko.addr) 0 = true ∧ (if p < 32 then (t.dev.get Reg.LKO_OVER0.P).testBit p
          else (t.dev.get Reg.LKO_OVER1.P).testBit (p - 32)) = true)) ∧
  (∀ (s : State) (k i n : Nat) (v : Int), s.dev.up islMgt = true → s.dev.on Reg.LKO_CTRL.EN = true → 1 ≤ k → k ≤ 15 →
    ∃ t, exec (.probeSample k i v n) s = .next t ∧
      (∀ p, p < 64 → probeHears s.dev k i p = true → tget t.dev.lko p = probeAdd (probeBin (s.dev.onN Reg.T_PROBE.MODE p)
        (sint 32 (s.dev.getN Reg.T_PROBE.BASE p)) (s.dev.getN Reg.T_PROBE.WIDTH p) (satInt 32 v)) (satInt 32 v)
        (tget s.dev.lko p)) ∧
      (∀ p, 64 ≤ p ∨ probeHears s.dev k i p = false → tget t.dev.lko p = tget s.dev.lko p) ∧
      t.dev.get Reg.LKO_CNT_LOST.N = min (s.dev.get Reg.LKO_CNT_LOST.N +
        n * ((List.range 64).filter (probeHears s.dev k i)).length) (2 ^ 32 - 1)) ∧
  (∀ (base : Int) (w : Nat) (v : Int), probeBin false base w v = if v < base then 0
    else min 63 (((v - base) / ((max 1 w : Nat) : Int)).toNat + 1)) ∧
  (∀ (base w i : Nat) (v : Int), 1 ≤ base → i < 62 → (base : Int) ≤ v →
    (probeBin true base w v = i + 1 ↔ base ^ 4 * 2 ^ i < (v.toNat + 1) ^ 4 ∧ (v.toNat + 1) ^ 4 ≤ base ^ 4 * 2 ^ (i + 1))) ∧
  (∀ (s : State) (p : Nat) (v : Word32), p < 64 → s.dev.up islMgt = true → s.dev.onN Reg.T_PROBE.EN p = false →
    (bitOf v 0 = false → ∃ t, exec (.probeEnable p v) s = .next t ∧ t.dev.onN Reg.T_PROBE.EN p = false ∧
      t.dev.lko = s.dev.lko) ∧
    (bitOf v 0 = true → bits v.toNat 1 5 ≤ 15 → probeIndexOk (bits v.toNat 1 5) (bits v.toNat 16 16) = true →
      (if bits v.toNat 6 1 = 1 then 1 ≤ sint 32 (s.dev.getN Reg.T_PROBE.BASE p)
        else 1 ≤ s.dev.getN Reg.T_PROBE.WIDTH p) →
      ∃ t, exec (.probeEnable p v) s = .next t ∧ t.dev.onN Reg.T_PROBE.EN p = true ∧ tget t.dev.lko p = default) ∧
    (bitOf v 0 = true → 15 < bits v.toNat 1 5 ∨ probeIndexOk (bits v.toNat 1 5) (bits v.toNat 16 16) = false ∨
        (if bits v.toNat 6 1 = 1 then sint 32 (s.dev.getN Reg.T_PROBE.BASE p) < 1
          else s.dev.getN Reg.T_PROBE.WIDTH p < 1) →
      ∃ t, exec (.probeEnable p v) s = .next t ∧ t.dev.onN Reg.T_PROBE.EN p = false ∧ t.dev.lko = s.dev.lko ∧
        bitOf (t.dev.word intLko.addr) 1 = true)) ∧
  (∀ (s : State) (p : Nat) (v : Word32), p < 64 → s.dev.up islMgt = true → s.dev.onN Reg.T_PROBE.EN p = true →
    bitOf v 0 = false → ∃ t, exec (.probeEnable p v) s = .next t ∧ t.dev.onN Reg.T_PROBE.EN p = false ∧
      t.dev.lko = s.dev.lko ∧ t.dev.getN Reg.T_PROBE.KIND p = s.dev.getN Reg.T_PROBE.KIND p ∧
      t.dev.getN Reg.T_PROBE.INDEX p = s.dev.getN Reg.T_PROBE.INDEX p) ∧
  (∀ (s : State) (p : Nat) (v : Word32), 64 ≤ p → exec (.probeEnable p v) s = .next (s.after s.dev)) ∧
  (∀ (s : State) (v : Word32), s.dev.up islMgt = true → bitOf v 31 = true → bitOf v 8 = true →
    ∃ t, exec (.lkoSnapshot v) s = .next t ∧
      (∀ p j, p < 64 → j < 128 → t.dev.getN Reg.T_PSNAP.W (p * 128 + j) =
        snapWord s.time (tget s.dev.lko p) j % 2 ^ 32) ∧
      (∀ p, p < 64 → tget t.dev.lko p = if bitOf v 9 then default else tget s.dev.lko p)) ∧
  (∀ (s : State) (v : Word32), s.dev.up islMgt = true → bitOf v 31 = true → bitOf v 8 = false →
    ∃ t, exec (.lkoSnapshot v) s = .next t ∧
      (∀ j, j < 128 → t.dev.getN Reg.T_PSNAP.W (v.toNat % 64 * 128 + j) =
        snapWord s.time (tget s.dev.lko (v.toNat % 64)) j % 2 ^ 32) ∧
      t.dev.lko = (if bitOf v 9 then tset s.dev.lko (v.toNat % 64) default else s.dev.lko)) ∧
  (∀ (s : State) (v : Word32), s.dev.up islMgt = true → bitOf v 31 = false →
    ∃ t, exec (.lkoSnapshot v) s = .next t ∧ t.dev.lko = s.dev.lko ∧
      ∀ i, i < 8192 → t.dev.getN Reg.T_PSNAP.W i = s.dev.getN Reg.T_PSNAP.W i)

/-- R21, R596, R597, R603, R605 and R607: the jobs of the compression engine. A descriptor whose engine is off ends with
REJECTED, one of an engine in reset with ABORTED_RESET, and one of length 0 with SKIPPED_ZERO; a job takes the first free
lane and shows in BUSY, and without a free lane the descriptor waits. A job from the Hamper also takes a STAGE slot, and is
refused without a STAGE partition and for a range outside CAPTURE. A finished job frees its lane and owes its completion
with the status, length, CRC, Adler sum, bytes used and blocks; one that failed writes zeros over the start of its buffer.
R598 and R603: what compression ends with. The CRC-32 of the source continues from the descriptor's seed; a result longer
than its buffer ends with OUTPUT_FULL, its bytes cut at the buffer and its length whole. Where it rests on the model's
reading, log entries 92 and 93 say so. -/
def Obligations.Compression : Prop :=
  ((∀ (s : State) (n : Nat) (src : List Byte), ∀ x ∈ [(Instr.cmpCompress n src, 0x10), (.cmpDecompress n src, 0x11)],
    (startable s.dev n clsCmpj x.2 = none ∨ (s.dev.up islCmp = false ∧ s.dev.inReset islCmp = false) →
      exec x.1 s = .next (s.after s.dev)) ∧
    (∀ h, startable s.dev n clsCmpj x.2 = some h → s.dev.inReset islCmp = true →
      exec x.1 s = .next (s.after (completeHead s.time n h stAborted 0 [] s.dev))) ∧
    (∀ h, startable s.dev n clsCmpj x.2 = some h → s.dev.up islCmp = true →
      (s.dev.get Reg.GLB_SPLIT.COMP = 0 ∨ s.dev.on Reg.CMP_CTRL.EN = false →
        ∃ t, exec x.1 s = .next t ∧ t.dev.cmp = s.dev.cmp ∧ (t.dev.ring n).taken = (s.dev.ring n).taken.tail ∧
          (t.dev.ring n).owed = (s.dev.ring n).owed ++ [owedOf clsCmpj h.idx h.words stRejected 0 []] ∧
          bitOf (t.dev.word intCmp.addr) 0 = true ∧ t.dev.get Reg.CMP_CNT_FAIL.N =
            min (s.dev.get Reg.CMP_CNT_FAIL.N + 1) (2 ^ Reg.CMP_CNT_FAIL.N.width - 1)) ∧
      (s.dev.get Reg.GLB_SPLIT.COMP ≠ 0 → s.dev.on Reg.CMP_CTRL.EN = true → dLen h.words = 0 ∨ cOutLen h.words = 0 →
        ∃ t, exec x.1 s = .next t ∧ t.dev.cmp = s.dev.cmp ∧ t.dev.hif.sent = s.dev.hif.sent ∧
          (t.dev.ring n).owed = (s.dev.ring n).owed ++ [owedOf clsCmpj h.idx h.words stSkipped 0 []] ∧
          t.dev.get Reg.CMP_CNT_FAIL.N = s.dev.get Reg.CMP_CNT_FAIL.N) ∧
      (s.dev.get Reg.GLB_SPLIT.COMP ≠ 0 → s.dev.on Reg.CMP_CTRL.EN = true → dLen h.words ≠ 0 → cOutLen h.words ≠ 0 →
        cSrcHmp h.words = true →
        (s.dev.getN Reg.HMP_PARTn.SIZE partStage = 0 →
          exec x.1 s = .next (s.after (cmpRefuse s.time n h stNoSpace s.dev))) ∧
        (s.dev.getN Reg.HMP_PARTn.SIZE partStage ≠ 0 →
          partBytes s.dev partCapture < cHmpOfs h.words + dLen h.words ∨ cHmpOfs h.words % 4 ≠ 0 →
          exec x.1 s = .next (s.after (cmpRefuse s.time n h stRejected s.dev))) ∧
        (s.dev.getN Reg.HMP_PARTn.SIZE partStage ≠ 0 → cHmpOfs h.words + dLen h.words ≤ partBytes s.dev partCapture →
          cHmpOfs h.words % 4 = 0 →
          (freeLane s.dev = none ∨ freeSlot s.dev = none → exec x.1 s = .next (s.after s.dev)) ∧
          (∀ l k, freeLane s.dev = some l → freeSlot s.dev = some k → ∃ t, exec x.1 s = .next t ∧
            (tget t.dev.cmp l).busy = true ∧ (tget t.dev.cmp l).ring = n ∧ (tget t.dev.cmp l).idx = h.idx ∧
            (tget t.dev.cmp l).slot = some k ∧ (tget t.dev.cmp l).src.length ≤ dLen h.words ∧
            (t.dev.get Reg.CMP_STATUS.BUSY).testBit l = true ∧ (t.dev.ring n).taken = (s.dev.ring n).taken.tail ∧
            (t.dev.ring n).started = (s.dev.ring n).started ++ [(h.idx, h.words)]))) ∧
      (s.dev.get Reg.GLB_SPLIT.COMP ≠ 0 → s.dev.on Reg.CMP_CTRL.EN = true → dLen h.words ≠ 0 → cOutLen h.words ≠ 0 →
        cSrcHmp h.words = false →
        (freeLane s.dev = none → exec x.1 s = .next (s.after s.dev)) ∧
        (∀ l, freeLane s.dev = some l → ∃ t, exec x.1 s = .next t ∧
          tget t.dev.cmp l = ⟨true, n, h.idx, h.words, none, slice src 0 (dLen h.words), none, false⟩ ∧
          (∀ k, k ≠ l → tget t.dev.cmp k = tget s.dev.cmp k) ∧ (t.dev.get Reg.CMP_STATUS.BUSY).testBit l = true ∧
          (t.dev.ring n).taken = (s.dev.ring n).taken.tail ∧
          (t.dev.ring n).started = (s.dev.ring n).started ++ [(h.idx, h.words)] ∧
          t.dev.hif.sent = s.dev.hif.sent)))) ∧
  (∀ (s : State) (l : Nat), (tget s.dev.cmp l).busy = false ∨ (hifQuiet s.dev = true ∧ s.dev.up islHst = true) →
    exec (.cmpJobComplete l) s = .next (s.after s.dev)) ∧
  (∀ (t : Time) (n : Nat) (h : Taken) (st : Nat) (d : Dev), cOutLen h.words ≠ 0 → st ≠ stSkipped →
    (cmpRefuse t n h st d).hif.sent = d.hif.sent ++
      [.data (cOutAddr h.words) (le (min 16 (cOutLen h.words)) 0) (d.on Reg.HIF_CTRL.RO_EN)] ∧
    (cmpRefuse t n h st d).cmp = d.cmp ∧
    (((cmpRefuse t n h st d).ring n).owed = (d.ring n).owed ++ [owedOf (d.ring n).cls h.idx h.words st 0 []])) ∧
  (∀ (s : State) (l : Nat) (j : CmpJob) (r : CmpResult), l < 4 → tget s.dev.cmp l = j → j.busy = true →
    s.dev.up islHst = false → r = (if j.aborted then ⟨stAborted, [], 0, 0, 0, 0, 0⟩
      else if dOpcode j.words = 0x10 then compressResult j else decompressResult s.dev j) →
    ∃ t, exec (.cmpJobComplete l) s = .next t ∧ tget t.dev.cmp l = default ∧
      (t.dev.get Reg.CMP_STATUS.BUSY).testBit l = false ∧ t.dev.hif.sent = s.dev.hif.sent ∧
      t.dev.get Reg.CMP_CNT_JOBS.N = min (s.dev.get Reg.CMP_CNT_JOBS.N + 1) (2 ^ Reg.CMP_CNT_JOBS.N.width - 1)) ∧
  (∀ (s : State) (l : Nat) (j : CmpJob) (r : CmpResult), l < 4 → tget s.dev.cmp l = j → j.busy = true →
    s.dev.up islHst = true → hifQuiet s.dev = false → r = (if j.aborted then ⟨stAborted, [], 0, 0, 0, 0, 0⟩
      else if dOpcode j.words = 0x10 then compressResult j else decompressResult s.dev j) →
    ∃ t, exec (.cmpJobComplete l) s = .next t ∧ tget t.dev.cmp l = default ∧
      (t.dev.get Reg.CMP_STATUS.BUSY).testBit l = false ∧
      t.dev.get Reg.CMP_CNT_JOBS.N = min (s.dev.get Reg.CMP_CNT_JOBS.N + 1) (2 ^ Reg.CMP_CNT_JOBS.N.width - 1) ∧
      (∀ e, (s.dev.ring j.ring).started.find? (fun e => e.1 == j.idx) = some e →
        (t.dev.ring j.ring).started = (s.dev.ring j.ring).started.filter (fun e => e.1 != j.idx) ∧
        (t.dev.ring j.ring).owed = (s.dev.ring j.ring).owed ++ [owedOf (s.dev.ring j.ring).cls j.idx e.2 r.status r.len
          (le 4 r.crc ++ le 4 r.adler ++ le 4 r.used ++ le 4 r.blocks)]) ∧
      t.dev.hif.sent = s.dev.hif.sent ++ [.data (cOutAddr j.words)
        (if r.status = stOk then r.bytes else le (min 16 (cOutLen j.words)) 0 ++ r.bytes.drop 16)
        (s.dev.on Reg.HIF_CTRL.RO_EN)])) ∧
  ((∀ (j : CmpJob), j.cut = none →
    (compressResult j).crc = crc32 (cSeed j.words) j.src ∧ (compressResult j).used = j.src.length ∧
    (compressResult j).bytes.length = min (cOutLen j.words) (compressResult j).len ∧
    ((compressResult j).status = stOk ↔ (compressResult j).len ≤ cOutLen j.words) ∧
    ((compressResult j).status = stOutFull ↔ cOutLen j.words < (compressResult j).len)) ∧
  (∀ (j : CmpJob) (k : Nat), j.cut = some k →
    (compressResult j).status = stParity ∧ (compressResult j).bytes = [] ∧ (compressResult j).used = k) ∧
  (∀ (seed : Nat) (a b : List Byte), seed < 2 ^ 32 → crc32 (crc32 seed a) b = crc32 seed (a ++ b)) ∧
  (∀ (seed : Nat) (a : List Byte), seed < 2 ^ 32 → crc32 seed a < 2 ^ 32))
end

