-- ==== Sys2Proof/Laws/FMap.lean ====
section
/-!
SUPPORT. Laws of the sparse tables: reading after writing, and that every operation keeps the canonical form.
-/

namespace Sys2Proof

variable {α : Type}

theorem fmLook_insert (m : FMap α) (a b : Nat) (x : α) :
    fmLook (fmInsert m a x) b = if b = a then some x else fmLook m b := by
  induction m with
  | nil => simp [fmInsert, fmLook]
  | cons e m ih =>
    obtain ⟨k, v⟩ := e
    simp only [fmInsert]
    split
    · simp [fmLook]
    · split
      · subst_vars
        by_cases h : b = k <;> simp [fmLook, h]
      · rename_i h1 h2
        simp only [fmLook, ih]
        by_cases hb : b = k
        · subst hb
          simp [Ne.symm h2]
        · simp [hb]

theorem fmLook_erase (m : FMap α) (a b : Nat) :
    fmLook (fmErase m a) b = if b = a then none else fmLook m b := by
  induction m with
  | nil => simp [fmErase, fmLook]
  | cons e m ih =>
    obtain ⟨k, v⟩ := e
    simp only [fmErase] at ih ⊢
    by_cases hk : k = a
    · subst hk
      simp only [List.filter_cons, bne_self_eq_false, Bool.false_eq_true, if_false, ih, fmLook]
      split <;> rfl
    · have hk' : (k != a) = true := by simpa using hk
      simp only [List.filter_cons, hk', if_true, fmLook, ih]
      by_cases hb : b = k
      · subst hb
        simp [hk]
      · simp [hb]

/-- Reading after a write: the written key reads the new value, every other key what it read before. -/
theorem fmAt_put [DecidableEq α] (dflt : Nat → α) (m : FMap α) (a b : Nat) (x : α) :
    fmAt dflt (fmPut dflt m a x) b = if b = a then x else fmAt dflt m b := by
  unfold fmAt fmPut
  by_cases hx : x = dflt a
  · rw [if_pos hx, fmLook_erase]
    by_cases hb : b = a
    · subst hb
      simp [hx]
    · simp [hb]
  · rw [if_neg hx, fmLook_insert]
    by_cases hb : b = a <;> simp [hb]

theorem tget_tset [Inhabited α] [DecidableEq α] (m : FMap α) (i j : Nat) (x : α) :
    tget (tset m i x) j = if j = i then x else tget m j := fmAt_put _ m i j x

@[simp] theorem tget_tset_same [Inhabited α] [DecidableEq α] (m : FMap α) (i : Nat) (x : α) :
    tget (tset m i x) i = x := by simp [tget_tset]

theorem tget_tset_other [Inhabited α] [DecidableEq α] (m : FMap α) {i j : Nat} (h : j ≠ i) (x : α) :
    tget (tset m i x) j = tget m j := by simp [tget_tset, h]

theorem tget_tmod [Inhabited α] [DecidableEq α] (m : FMap α) (i j : Nat) (f : α → α) :
    tget (tmod m i f) j = if j = i then f (tget m i) else tget m j := tget_tset m i j _

@[simp] theorem tget_tmod_same [Inhabited α] [DecidableEq α] (m : FMap α) (i : Nat) (f : α → α) :
    tget (tmod m i f) i = f (tget m i) := by simp [tget_tmod]

/-! ## The canonical form -/

theorem fmSorted_none (m : FMap α) {b : Nat} (h : fmSorted (some b) m = true) : fmSorted none m = true := by
  cases m with
  | nil => rfl
  | cons e m =>
    simp only [fmSorted, Bool.and_eq_true] at h
    exact h.2

theorem fmSorted_weaken (m : FMap α) {b c : Nat} (hbc : b ≤ c) (h : fmSorted (some c) m = true) :
    fmSorted (some b) m = true := by
  cases m with
  | nil => rfl
  | cons e m =>
    simp only [fmSorted, Bool.and_eq_true, decide_eq_true_eq] at h ⊢
    exact ⟨by omega, h.2⟩

theorem fmSorted_some_insert (m : FMap α) (b a : Nat) (x : α) (hb : b < a) (h : fmSorted (some b) m = true) :
    fmSorted (some b) (fmInsert m a x) = true := by
  induction m generalizing b with
  | nil => simp [fmInsert, fmSorted, hb]
  | cons e m ih =>
    obtain ⟨k, v⟩ := e
    simp only [fmSorted, Bool.and_eq_true, decide_eq_true_eq] at h
    simp only [fmInsert]
    split
    · rename_i hk
      simp [fmSorted, hb, hk, h.2]
    · split
      · rename_i hk
        subst hk
        simp [fmSorted, hb, h.2]
      · rename_i h1 h2
        simp only [fmSorted, Bool.and_eq_true, decide_eq_true_eq]
        exact ⟨h.1, ih k (by omega) h.2⟩

theorem fmSorted_insert (m : FMap α) (a : Nat) (x : α) (h : fmSorted none m = true) :
    fmSorted none (fmInsert m a x) = true := by
  cases m with
  | nil => rfl
  | cons e m =>
    obtain ⟨k, v⟩ := e
    have h' : fmSorted (some k) m = true := h
    simp only [fmInsert]
    split
    · rename_i hk
      simp [fmSorted, hk, h']
    · split
      · rename_i hk
        subst hk
        exact h'
      · rename_i h1 h2
        exact fmSorted_some_insert m k a x (by omega) h'

theorem fmSorted_some_filter (p : Nat × α → Bool) (m : FMap α) (b : Nat) (h : fmSorted (some b) m = true) :
    fmSorted (some b) (m.filter p) = true := by
  induction m generalizing b with
  | nil => rfl
  | cons e m ih =>
    obtain ⟨k, v⟩ := e
    simp only [fmSorted, Bool.and_eq_true, decide_eq_true_eq] at h
    simp only [List.filter_cons]
    split
    · simp only [fmSorted, Bool.and_eq_true, decide_eq_true_eq]
      exact ⟨h.1, ih k h.2⟩
    · exact fmSorted_weaken _ (Nat.le_of_lt h.1) (ih k h.2)

theorem fmSorted_filter (p : Nat × α → Bool) (m : FMap α) (h : fmSorted none m = true) :
    fmSorted none (m.filter p) = true := by
  induction m with
  | nil => rfl
  | cons e m ih =>
    obtain ⟨k, v⟩ := e
    have h' : fmSorted (some k) m = true := h
    simp only [List.filter_cons]
    split
    · exact fmSorted_some_filter p m k h'
    · exact fmSorted_none _ (fmSorted_some_filter p m k h')

theorem fmMem_insert (m : FMap α) (a : Nat) (x : α) (e : Nat × α) (h : e ∈ fmInsert m a x) : e = (a, x) ∨ e ∈ m := by
  induction m with
  | nil => simpa [fmInsert] using h
  | cons g m ih =>
    obtain ⟨k, v⟩ := g
    simp only [fmInsert] at h
    split at h
    · simpa using h
    · split at h
      · rcases List.mem_cons.mp h with h | h
        · exact .inl h
        · exact .inr (List.mem_cons_of_mem _ h)
      · rcases List.mem_cons.mp h with h | h
        · exact .inr (h ▸ List.mem_cons_self)
        · rcases ih h with h | h
          · exact .inl h
          · exact .inr (List.mem_cons_of_mem _ h)

/-- Dropping entries keeps the canonical form. -/
theorem fmWf_filter [DecidableEq α] (dflt : Nat → α) (p : Nat × α → Bool) (m : FMap α) (h : fmWf dflt m = true) :
    fmWf dflt (m.filter p) = true := by
  simp only [fmWf, Bool.and_eq_true, List.all_eq_true, decide_eq_true_eq] at h ⊢
  exact ⟨fmSorted_filter p m h.1, fun e he => h.2 e (List.mem_filter.mp he).1⟩

/-- Writing a key keeps the canonical form. -/
theorem fmWf_put [DecidableEq α] (dflt : Nat → α) (m : FMap α) (a : Nat) (x : α) (h : fmWf dflt m = true) :
    fmWf dflt (fmPut dflt m a x) = true := by
  unfold fmPut
  split
  · exact fmWf_filter dflt _ m h
  · rename_i hx
    simp only [fmWf, Bool.and_eq_true, List.all_eq_true, decide_eq_true_eq] at h ⊢
    refine ⟨fmSorted_insert m a x h.1, fun e he => ?_⟩
    rcases fmMem_insert m a x e he with rfl | he
    · exact hx
    · exact h.2 e he

theorem fmWf_tset [Inhabited α] [DecidableEq α] (m : FMap α) (i : Nat) (x : α)
    (h : fmWf (fun _ => default) m = true) : fmWf (fun _ => default) (tset m i x) = true := fmWf_put _ m i x h

theorem fmWf_tmod [Inhabited α] [DecidableEq α] (m : FMap α) (i : Nat) (f : α → α)
    (h : fmWf (fun _ => default) m = true) : fmWf (fun _ => default) (tmod m i f) = true := fmWf_put _ m i _ h

end Sys2Proof
end

