-- ==== Sys2Proof/Laws/Field.lean ====
section
/-!
SUPPORT. Laws of words and fields of the register file: a write is read back, and leaves every other word and every
field that shares no bit with it as it was.
-/

namespace Sys2Proof

theorem rword_rput (m : RegFile) (a b : Nat) (w : Word32) : rword (rput m a w) b = if b = a then w else rword m b :=
  fmAt_put resetWord m a b w

@[simp] theorem rword_rput_same (m : RegFile) (a : Nat) (w : Word32) : rword (rput m a w) a = w := by
  simp [rword_rput]

theorem rword_rput_other (m : RegFile) {a b : Nat} (h : b ≠ a) (w : Word32) : rword (rput m a w) b = rword m b := by
  simp [rword_rput, h]

theorem fmWf_rput (m : RegFile) (a : Nat) (w : Word32) (h : fmWf resetWord m = true) :
    fmWf resetWord (rput m a w) = true := fmWf_put resetWord m a w h

theorem fmWf_fput (m : RegFile) (f : Field) (i v : Nat) (h : fmWf resetWord m = true) :
    fmWf resetWord (fput m f i v) = true := fmWf_put resetWord m _ _ h

/-- Two fields share no bit. -/
def Field.apart (f g : Field) : Bool := decide (f.lo + f.width ≤ g.lo ∨ g.lo + g.width ≤ f.lo)

theorem Field.ofWord_testBit (f : Field) (w : Word32) (k : Nat) :
    (f.ofWord w).testBit k = (decide (k < f.width) && w.getLsbD (f.lo + k)) := by
  simp [Field.ofWord, Nat.testBit_mod_two_pow, Nat.testBit_shiftRight, BitVec.getLsbD]

theorem Field.mask_bit (f : Field) (hf : f.fits = true) (k : Nat) :
    f.mask.getLsbD k = (decide (f.lo ≤ k) && decide (k < f.lo + f.width)) := by
  simp only [Field.fits, decide_eq_true_eq] at hf
  simp only [Field.mask, BitVec.getLsbD_ofNat, Nat.testBit_mul_two_pow, Nat.testBit_two_pow_sub_one]
  by_cases h1 : f.lo ≤ k <;> by_cases h2 : k < f.lo + f.width <;> simp [h1, h2] <;> omega

theorem Field.inWord_bit (f : Field) (hf : f.fits = true) (w : Word32) (v k : Nat) (hk : k < 32) :
    (f.inWord w v).getLsbD k =
      if f.lo ≤ k ∧ k < f.lo + f.width then v.testBit (k - f.lo) else w.getLsbD k := by
  have hm := f.mask_bit hf k
  simp only [Field.fits, decide_eq_true_eq] at hf
  simp only [Field.inWord, BitVec.getLsbD_or, BitVec.getLsbD_and, BitVec.getLsbD_not, hm, BitVec.getLsbD_ofNat,
    Nat.testBit_mul_two_pow, Nat.testBit_mod_two_pow, hk]
  by_cases h1 : f.lo ≤ k <;> by_cases h2 : k < f.lo + f.width <;> simp [h1, h2] <;> omega

/-- A field just written reads the value written, cut to its width. -/
theorem Field.ofWord_inWord (f : Field) (hf : f.fits = true) (w : Word32) (v : Nat) :
    f.ofWord (f.inWord w v) = v % 2 ^ f.width := by
  apply Nat.eq_of_testBit_eq
  intro k
  rw [Field.ofWord_testBit, Nat.testBit_mod_two_pow]
  by_cases hk : k < f.width
  · have hf' := hf
    simp only [Field.fits, decide_eq_true_eq] at hf'
    rw [f.inWord_bit hf w v (f.lo + k) (by omega)]
    simp [hk]
  · simp [hk]

/-- A field that shares no bit with the one written reads what it read before. -/
theorem Field.ofWord_inWord_apart (f g : Field) (hf : f.fits = true) (hg : g.fits = true) (h : f.apart g = true)
    (w : Word32) (v : Nat) : g.ofWord (f.inWord w v) = g.ofWord w := by
  apply Nat.eq_of_testBit_eq
  intro k
  simp only [Field.apart, decide_eq_true_eq] at h
  simp only [Field.ofWord_testBit]
  by_cases hk : k < g.width
  · have hg' := hg
    simp only [Field.fits, decide_eq_true_eq] at hg'
    rw [f.inWord_bit hf w v (g.lo + k) (by omega), if_neg (by omega)]
  · simp [hk]

theorem fget_fput_same (m : RegFile) (f : Field) (i v : Nat) (hf : f.fits = true) :
    fget (fput m f i v) f i = v % 2 ^ f.width := by
  simp [fget, fput, Field.ofWord_inWord f hf]

theorem fget_fput_addr (m : RegFile) (f g : Field) (i j v : Nat) (h : g.reg.addr j ≠ f.reg.addr i) :
    fget (fput m f i v) g j = fget m g j := by
  simp [fget, fput, rword_rput, h]

theorem fget_fput_apart (m : RegFile) (f g : Field) (i j v : Nat) (hf : f.fits = true) (hg : g.fits = true)
    (h : f.apart g = true) : fget (fput m f i v) g j = fget m g j := by
  simp only [fget, fput, rword_rput]
  by_cases ha : g.reg.addr j = f.reg.addr i
  · simp [ha, Field.ofWord_inWord_apart f g hf hg h]
  · simp [ha]

namespace Machine

/-- A word that a field write does not address stays as it was. -/
theorem Dev.word_setN (d : Dev) (f : Field) (i v a : Nat) (h : a ≠ f.reg.addr i) : (d.setN f i v).word a = d.word a := by
  simp [Dev.word, Dev.setN, fput, rword_rput, h]

theorem Dev.getN_setN_same (d : Dev) (f : Field) (i v : Nat) (hf : f.fits = true) :
    (d.setN f i v).getN f i = v % 2 ^ f.width := fget_fput_same d.regs f i v hf

theorem Dev.getN_setN_addr (d : Dev) (f g : Field) (i j v : Nat) (h : g.reg.addr j ≠ f.reg.addr i) :
    (d.setN f i v).getN g j = d.getN g j := fget_fput_addr d.regs f g i j v h

theorem Dev.getN_setN_apart (d : Dev) (f g : Field) (i j v : Nat) (hf : f.fits = true) (hg : g.fits = true)
    (h : f.apart g = true) : (d.setN f i v).getN g j = d.getN g j := fget_fput_apart d.regs f g i j v hf hg h

theorem Dev.get_set_same (d : Dev) (f : Field) (v : Nat) (hf : f.fits = true) (hv : v < 2 ^ f.width) :
    (d.set f v).get f = v := by
  simp [Dev.get, Dev.set, Dev.getN_setN_same d f 0 v hf, Nat.mod_eq_of_lt hv]

/-- A field written elsewhere, or at other bits of the same word, leaves this one. -/
theorem Dev.get_set_other (d : Dev) (f g : Field) (v : Nat)
    (h : (f.reg.addr 0 != g.reg.addr 0 || (f.fits && g.fits && f.apart g)) = true) : (d.set f v).get g = d.get g := by
  simp only [Bool.or_eq_true, Bool.and_eq_true, bne_iff_ne, ne_eq] at h
  rcases h with h | ⟨⟨hf, hg⟩, h⟩
  · exact Dev.getN_setN_addr d f g 0 0 v (Ne.symm h)
  · exact Dev.getN_setN_apart d f g 0 0 v hf hg h

end Machine

end Sys2Proof
end

