-- ==== Sys2Proof/Laws/State.lean ====
section
/-!
SUPPORT. Laws of the state's updates: each named update leaves every component it does not name as it was, and what reaches
the Logbook at the end of a command leaves the rest of the device alone.
-/

namespace Sys2Proof.Machine

open Sys2Proof

/-! ## One lemma per component and update -/

@[simp] theorem Dev.setN_evs (d : Dev) (f : Field) (i v : Nat) : (d.setN f i v).evs = d.evs := rfl
@[simp] theorem Dev.set_evs (d : Dev) (f : Field) (v : Nat) : (d.set f v).evs = d.evs := rfl
@[simp] theorem Dev.setB_evs (d : Dev) (f : Field) (i : Nat) (b : Bool) : (d.setB f i b).evs = d.evs := rfl
@[simp] theorem Dev.sat_evs (d : Dev) (f : Field) (i : Nat) : (d.sat f i).evs = d.evs := rfl
@[simp] theorem Dev.setN_paths (d : Dev) (f : Field) (i v : Nat) : (d.setN f i v).paths = d.paths := rfl
@[simp] theorem Dev.set_paths (d : Dev) (f : Field) (v : Nat) : (d.set f v).paths = d.paths := rfl
@[simp] theorem Dev.setB_paths (d : Dev) (f : Field) (i : Nat) (b : Bool) : (d.setB f i b).paths = d.paths := rfl
@[simp] theorem Dev.sat_paths (d : Dev) (f : Field) (i : Nat) : (d.sat f i).paths = d.paths := rfl
@[simp] theorem Dev.setN_pwr (d : Dev) (f : Field) (i v : Nat) : (d.setN f i v).pwr = d.pwr := rfl
@[simp] theorem Dev.set_pwr (d : Dev) (f : Field) (v : Nat) : (d.set f v).pwr = d.pwr := rfl
@[simp] theorem Dev.setB_pwr (d : Dev) (f : Field) (i : Nat) (b : Bool) : (d.setB f i b).pwr = d.pwr := rfl
@[simp] theorem Dev.sat_pwr (d : Dev) (f : Field) (i : Nat) : (d.sat f i).pwr = d.pwr := rfl
@[simp] theorem Dev.setN_isl (d : Dev) (f : Field) (i v : Nat) : (d.setN f i v).isl = d.isl := rfl
@[simp] theorem Dev.set_isl (d : Dev) (f : Field) (v : Nat) : (d.set f v).isl = d.isl := rfl
@[simp] theorem Dev.setB_isl (d : Dev) (f : Field) (i : Nat) (b : Bool) : (d.setB f i b).isl = d.isl := rfl
@[simp] theorem Dev.sat_isl (d : Dev) (f : Field) (i : Nat) : (d.sat f i).isl = d.isl := rfl
@[simp] theorem Dev.setN_tkp (d : Dev) (f : Field) (i v : Nat) : (d.setN f i v).tkp = d.tkp := rfl
@[simp] theorem Dev.set_tkp (d : Dev) (f : Field) (v : Nat) : (d.set f v).tkp = d.tkp := rfl
@[simp] theorem Dev.setB_tkp (d : Dev) (f : Field) (i : Nat) (b : Bool) : (d.setB f i b).tkp = d.tkp := rfl
@[simp] theorem Dev.sat_tkp (d : Dev) (f : Field) (i : Nat) : (d.sat f i).tkp = d.tkp := rfl
@[simp] theorem Dev.setN_hif (d : Dev) (f : Field) (i v : Nat) : (d.setN f i v).hif = d.hif := rfl
@[simp] theorem Dev.set_hif (d : Dev) (f : Field) (v : Nat) : (d.set f v).hif = d.hif := rfl
@[simp] theorem Dev.setB_hif (d : Dev) (f : Field) (i : Nat) (b : Bool) : (d.setB f i b).hif = d.hif := rfl
@[simp] theorem Dev.sat_hif (d : Dev) (f : Field) (i : Nat) : (d.sat f i).hif = d.hif := rfl
@[simp] theorem Dev.setN_rdr (d : Dev) (f : Field) (i v : Nat) : (d.setN f i v).rdr = d.rdr := rfl
@[simp] theorem Dev.set_rdr (d : Dev) (f : Field) (v : Nat) : (d.set f v).rdr = d.rdr := rfl
@[simp] theorem Dev.setB_rdr (d : Dev) (f : Field) (i : Nat) (b : Bool) : (d.setB f i b).rdr = d.rdr := rfl
@[simp] theorem Dev.sat_rdr (d : Dev) (f : Field) (i : Nat) : (d.sat f i).rdr = d.rdr := rfl
@[simp] theorem Dev.setN_flush (d : Dev) (f : Field) (i v : Nat) : (d.setN f i v).flush = d.flush := rfl
@[simp] theorem Dev.set_flush (d : Dev) (f : Field) (v : Nat) : (d.set f v).flush = d.flush := rfl
@[simp] theorem Dev.setB_flush (d : Dev) (f : Field) (i : Nat) (b : Bool) : (d.setB f i b).flush = d.flush := rfl
@[simp] theorem Dev.sat_flush (d : Dev) (f : Field) (i : Nat) : (d.sat f i).flush = d.flush := rfl
@[simp] theorem Dev.setN_lko (d : Dev) (f : Field) (i v : Nat) : (d.setN f i v).lko = d.lko := rfl
@[simp] theorem Dev.set_lko (d : Dev) (f : Field) (v : Nat) : (d.set f v).lko = d.lko := rfl
@[simp] theorem Dev.setB_lko (d : Dev) (f : Field) (i : Nat) (b : Bool) : (d.setB f i b).lko = d.lko := rfl
@[simp] theorem Dev.sat_lko (d : Dev) (f : Field) (i : Nat) : (d.sat f i).lko = d.lko := rfl
@[simp] theorem Dev.setN_cmp (d : Dev) (f : Field) (i v : Nat) : (d.setN f i v).cmp = d.cmp := rfl
@[simp] theorem Dev.set_cmp (d : Dev) (f : Field) (v : Nat) : (d.set f v).cmp = d.cmp := rfl
@[simp] theorem Dev.setB_cmp (d : Dev) (f : Field) (i : Nat) (b : Bool) : (d.setB f i b).cmp = d.cmp := rfl
@[simp] theorem Dev.sat_cmp (d : Dev) (f : Field) (i : Nat) : (d.sat f i).cmp = d.cmp := rfl
@[simp] theorem Dev.setN_hmp (d : Dev) (f : Field) (i v : Nat) : (d.setN f i v).hmp = d.hmp := rfl
@[simp] theorem Dev.set_hmp (d : Dev) (f : Field) (v : Nat) : (d.set f v).hmp = d.hmp := rfl
@[simp] theorem Dev.setB_hmp (d : Dev) (f : Field) (i : Nat) (b : Bool) : (d.setB f i b).hmp = d.hmp := rfl
@[simp] theorem Dev.sat_hmp (d : Dev) (f : Field) (i : Nat) : (d.sat f i).hmp = d.hmp := rfl
@[simp] theorem Dev.setN_ports (d : Dev) (f : Field) (i v : Nat) : (d.setN f i v).ports = d.ports := rfl
@[simp] theorem Dev.set_ports (d : Dev) (f : Field) (v : Nat) : (d.set f v).ports = d.ports := rfl
@[simp] theorem Dev.setB_ports (d : Dev) (f : Field) (i : Nat) (b : Bool) : (d.setB f i b).ports = d.ports := rfl
@[simp] theorem Dev.sat_ports (d : Dev) (f : Field) (i : Nat) : (d.sat f i).ports = d.ports := rfl
@[simp] theorem Dev.setN_pairs (d : Dev) (f : Field) (i v : Nat) : (d.setN f i v).pairs = d.pairs := rfl
@[simp] theorem Dev.set_pairs (d : Dev) (f : Field) (v : Nat) : (d.set f v).pairs = d.pairs := rfl
@[simp] theorem Dev.setB_pairs (d : Dev) (f : Field) (i : Nat) (b : Bool) : (d.setB f i b).pairs = d.pairs := rfl
@[simp] theorem Dev.sat_pairs (d : Dev) (f : Field) (i : Nat) : (d.sat f i).pairs = d.pairs := rfl
@[simp] theorem Dev.setN_keys (d : Dev) (f : Field) (i v : Nat) : (d.setN f i v).keys = d.keys := rfl
@[simp] theorem Dev.set_keys (d : Dev) (f : Field) (v : Nat) : (d.set f v).keys = d.keys := rfl
@[simp] theorem Dev.setB_keys (d : Dev) (f : Field) (i : Nat) (b : Bool) : (d.setB f i b).keys = d.keys := rfl
@[simp] theorem Dev.sat_keys (d : Dev) (f : Field) (i : Nat) : (d.sat f i).keys = d.keys := rfl
@[simp] theorem Dev.setN_ing (d : Dev) (f : Field) (i v : Nat) : (d.setN f i v).ing = d.ing := rfl
@[simp] theorem Dev.set_ing (d : Dev) (f : Field) (v : Nat) : (d.set f v).ing = d.ing := rfl
@[simp] theorem Dev.setB_ing (d : Dev) (f : Field) (i : Nat) (b : Bool) : (d.setB f i b).ing = d.ing := rfl
@[simp] theorem Dev.sat_ing (d : Dev) (f : Field) (i : Nat) : (d.sat f i).ing = d.ing := rfl
@[simp] theorem Dev.setN_aln (d : Dev) (f : Field) (i v : Nat) : (d.setN f i v).aln = d.aln := rfl
@[simp] theorem Dev.set_aln (d : Dev) (f : Field) (v : Nat) : (d.set f v).aln = d.aln := rfl
@[simp] theorem Dev.setB_aln (d : Dev) (f : Field) (i : Nat) (b : Bool) : (d.setB f i b).aln = d.aln := rfl
@[simp] theorem Dev.sat_aln (d : Dev) (f : Field) (i : Nat) : (d.sat f i).aln = d.aln := rfl
@[simp] theorem Dev.setN_adc (d : Dev) (f : Field) (i v : Nat) : (d.setN f i v).adc = d.adc := rfl
@[simp] theorem Dev.set_adc (d : Dev) (f : Field) (v : Nat) : (d.set f v).adc = d.adc := rfl
@[simp] theorem Dev.setB_adc (d : Dev) (f : Field) (i : Nat) (b : Bool) : (d.setB f i b).adc = d.adc := rfl
@[simp] theorem Dev.sat_adc (d : Dev) (f : Field) (i : Nat) : (d.sat f i).adc = d.adc := rfl
@[simp] theorem Dev.setN_flt (d : Dev) (f : Field) (i v : Nat) : (d.setN f i v).flt = d.flt := rfl
@[simp] theorem Dev.set_flt (d : Dev) (f : Field) (v : Nat) : (d.set f v).flt = d.flt := rfl
@[simp] theorem Dev.setB_flt (d : Dev) (f : Field) (i : Nat) (b : Bool) : (d.setB f i b).flt = d.flt := rfl
@[simp] theorem Dev.sat_flt (d : Dev) (f : Field) (i : Nat) : (d.sat f i).flt = d.flt := rfl
@[simp] theorem Dev.setN_dsp (d : Dev) (f : Field) (i v : Nat) : (d.setN f i v).dsp = d.dsp := rfl
@[simp] theorem Dev.set_dsp (d : Dev) (f : Field) (v : Nat) : (d.set f v).dsp = d.dsp := rfl
@[simp] theorem Dev.setB_dsp (d : Dev) (f : Field) (i : Nat) (b : Bool) : (d.setB f i b).dsp = d.dsp := rfl
@[simp] theorem Dev.sat_dsp (d : Dev) (f : Field) (i : Nat) : (d.sat f i).dsp = d.dsp := rfl
@[simp] theorem Dev.setN_dxl (d : Dev) (f : Field) (i v : Nat) : (d.setN f i v).dxl = d.dxl := rfl
@[simp] theorem Dev.set_dxl (d : Dev) (f : Field) (v : Nat) : (d.set f v).dxl = d.dxl := rfl
@[simp] theorem Dev.setB_dxl (d : Dev) (f : Field) (i : Nat) (b : Bool) : (d.setB f i b).dxl = d.dxl := rfl
@[simp] theorem Dev.sat_dxl (d : Dev) (f : Field) (i : Nat) : (d.sat f i).dxl = d.dxl := rfl
@[simp] theorem Dev.setN_cap (d : Dev) (f : Field) (i v : Nat) : (d.setN f i v).cap = d.cap := rfl
@[simp] theorem Dev.set_cap (d : Dev) (f : Field) (v : Nat) : (d.set f v).cap = d.cap := rfl
@[simp] theorem Dev.setB_cap (d : Dev) (f : Field) (i : Nat) (b : Bool) : (d.setB f i b).cap = d.cap := rfl
@[simp] theorem Dev.sat_cap (d : Dev) (f : Field) (i : Nat) : (d.sat f i).cap = d.cap := rfl
@[simp] theorem Dev.setN_rul (d : Dev) (f : Field) (i v : Nat) : (d.setN f i v).rul = d.rul := rfl
@[simp] theorem Dev.set_rul (d : Dev) (f : Field) (v : Nat) : (d.set f v).rul = d.rul := rfl
@[simp] theorem Dev.setB_rul (d : Dev) (f : Field) (i : Nat) (b : Bool) : (d.setB f i b).rul = d.rul := rfl
@[simp] theorem Dev.sat_rul (d : Dev) (f : Field) (i : Nat) : (d.sat f i).rul = d.rul := rfl
@[simp] theorem Dev.setN_mdl (d : Dev) (f : Field) (i v : Nat) : (d.setN f i v).mdl = d.mdl := rfl
@[simp] theorem Dev.set_mdl (d : Dev) (f : Field) (v : Nat) : (d.set f v).mdl = d.mdl := rfl
@[simp] theorem Dev.setB_mdl (d : Dev) (f : Field) (i : Nat) (b : Bool) : (d.setB f i b).mdl = d.mdl := rfl
@[simp] theorem Dev.sat_mdl (d : Dev) (f : Field) (i : Nat) : (d.sat f i).mdl = d.mdl := rfl
@[simp] theorem Dev.setN_free (d : Dev) (f : Field) (i v : Nat) : (d.setN f i v).free = d.free := rfl
@[simp] theorem Dev.set_free (d : Dev) (f : Field) (v : Nat) : (d.set f v).free = d.free := rfl
@[simp] theorem Dev.setB_free (d : Dev) (f : Field) (i : Nat) (b : Bool) : (d.setB f i b).free = d.free := rfl
@[simp] theorem Dev.sat_free (d : Dev) (f : Field) (i : Nat) : (d.sat f i).free = d.free := rfl
@[simp] theorem Dev.event_regs (d : Dev) (k i x y : Nat) : (d.event k i x y).regs = d.regs := rfl
@[simp] theorem Dev.event_paths (d : Dev) (k i x y : Nat) : (d.event k i x y).paths = d.paths := rfl
@[simp] theorem Dev.event_pwr (d : Dev) (k i x y : Nat) : (d.event k i x y).pwr = d.pwr := rfl
@[simp] theorem Dev.event_isl (d : Dev) (k i x y : Nat) : (d.event k i x y).isl = d.isl := rfl
@[simp] theorem Dev.event_tkp (d : Dev) (k i x y : Nat) : (d.event k i x y).tkp = d.tkp := rfl
@[simp] theorem Dev.event_hif (d : Dev) (k i x y : Nat) : (d.event k i x y).hif = d.hif := rfl
@[simp] theorem Dev.event_rdr (d : Dev) (k i x y : Nat) : (d.event k i x y).rdr = d.rdr := rfl
@[simp] theorem Dev.event_flush (d : Dev) (k i x y : Nat) : (d.event k i x y).flush = d.flush := rfl
@[simp] theorem Dev.event_lko (d : Dev) (k i x y : Nat) : (d.event k i x y).lko = d.lko := rfl
@[simp] theorem Dev.event_cmp (d : Dev) (k i x y : Nat) : (d.event k i x y).cmp = d.cmp := rfl
@[simp] theorem Dev.event_hmp (d : Dev) (k i x y : Nat) : (d.event k i x y).hmp = d.hmp := rfl
@[simp] theorem Dev.event_ports (d : Dev) (k i x y : Nat) : (d.event k i x y).ports = d.ports := rfl
@[simp] theorem Dev.event_pairs (d : Dev) (k i x y : Nat) : (d.event k i x y).pairs = d.pairs := rfl
@[simp] theorem Dev.event_keys (d : Dev) (k i x y : Nat) : (d.event k i x y).keys = d.keys := rfl
@[simp] theorem Dev.event_ing (d : Dev) (k i x y : Nat) : (d.event k i x y).ing = d.ing := rfl
@[simp] theorem Dev.event_aln (d : Dev) (k i x y : Nat) : (d.event k i x y).aln = d.aln := rfl
@[simp] theorem Dev.event_adc (d : Dev) (k i x y : Nat) : (d.event k i x y).adc = d.adc := rfl
@[simp] theorem Dev.event_flt (d : Dev) (k i x y : Nat) : (d.event k i x y).flt = d.flt := rfl
@[simp] theorem Dev.event_dsp (d : Dev) (k i x y : Nat) : (d.event k i x y).dsp = d.dsp := rfl
@[simp] theorem Dev.event_dxl (d : Dev) (k i x y : Nat) : (d.event k i x y).dxl = d.dxl := rfl
@[simp] theorem Dev.event_cap (d : Dev) (k i x y : Nat) : (d.event k i x y).cap = d.cap := rfl
@[simp] theorem Dev.event_rul (d : Dev) (k i x y : Nat) : (d.event k i x y).rul = d.rul := rfl
@[simp] theorem Dev.event_mdl (d : Dev) (k i x y : Nat) : (d.event k i x y).mdl = d.mdl := rfl
@[simp] theorem Dev.event_free (d : Dev) (k i x y : Nat) : (d.event k i x y).free = d.free := rfl
@[simp] theorem Dev.request_regs (d : Dev) (v : Nat) : (d.request v).regs = d.regs := by unfold Dev.request; split <;> rfl
@[simp] theorem Dev.request_evs (d : Dev) (v : Nat) : (d.request v).evs = d.evs := by unfold Dev.request; split <;> rfl
@[simp] theorem Dev.request_paths (d : Dev) (v : Nat) : (d.request v).paths = d.paths := by unfold Dev.request; split <;> rfl
@[simp] theorem Dev.request_pwr (d : Dev) (v : Nat) : (d.request v).pwr = d.pwr := by unfold Dev.request; split <;> rfl
@[simp] theorem Dev.request_isl (d : Dev) (v : Nat) : (d.request v).isl = d.isl := by unfold Dev.request; split <;> rfl
@[simp] theorem Dev.request_tkp (d : Dev) (v : Nat) : (d.request v).tkp = d.tkp := by unfold Dev.request; split <;> rfl
@[simp] theorem Dev.request_rdr (d : Dev) (v : Nat) : (d.request v).rdr = d.rdr := by unfold Dev.request; split <;> rfl
@[simp] theorem Dev.request_flush (d : Dev) (v : Nat) : (d.request v).flush = d.flush := by unfold Dev.request; split <;> rfl
@[simp] theorem Dev.request_lko (d : Dev) (v : Nat) : (d.request v).lko = d.lko := by unfold Dev.request; split <;> rfl
@[simp] theorem Dev.request_cmp (d : Dev) (v : Nat) : (d.request v).cmp = d.cmp := by unfold Dev.request; split <;> rfl
@[simp] theorem Dev.request_hmp (d : Dev) (v : Nat) : (d.request v).hmp = d.hmp := by unfold Dev.request; split <;> rfl
@[simp] theorem Dev.request_ports (d : Dev) (v : Nat) : (d.request v).ports = d.ports := by unfold Dev.request; split <;> rfl
@[simp] theorem Dev.request_pairs (d : Dev) (v : Nat) : (d.request v).pairs = d.pairs := by unfold Dev.request; split <;> rfl
@[simp] theorem Dev.request_keys (d : Dev) (v : Nat) : (d.request v).keys = d.keys := by unfold Dev.request; split <;> rfl
@[simp] theorem Dev.request_ing (d : Dev) (v : Nat) : (d.request v).ing = d.ing := by unfold Dev.request; split <;> rfl
@[simp] theorem Dev.request_aln (d : Dev) (v : Nat) : (d.request v).aln = d.aln := by unfold Dev.request; split <;> rfl
@[simp] theorem Dev.request_adc (d : Dev) (v : Nat) : (d.request v).adc = d.adc := by unfold Dev.request; split <;> rfl
@[simp] theorem Dev.request_flt (d : Dev) (v : Nat) : (d.request v).flt = d.flt := by unfold Dev.request; split <;> rfl
@[simp] theorem Dev.request_dsp (d : Dev) (v : Nat) : (d.request v).dsp = d.dsp := by unfold Dev.request; split <;> rfl
@[simp] theorem Dev.request_dxl (d : Dev) (v : Nat) : (d.request v).dxl = d.dxl := by unfold Dev.request; split <;> rfl
@[simp] theorem Dev.request_cap (d : Dev) (v : Nat) : (d.request v).cap = d.cap := by unfold Dev.request; split <;> rfl
@[simp] theorem Dev.request_rul (d : Dev) (v : Nat) : (d.request v).rul = d.rul := by unfold Dev.request; split <;> rfl
@[simp] theorem Dev.request_mdl (d : Dev) (v : Nat) : (d.request v).mdl = d.mdl := by unfold Dev.request; split <;> rfl
@[simp] theorem Dev.request_free (d : Dev) (v : Nat) : (d.request v).free = d.free := by unfold Dev.request; split <;> rfl
@[simp] theorem Dev.raise_evs (d : Dev) (b : IntBlk) (k : Nat) : (d.raise b k).evs = d.evs := by
  unfold Dev.raise; dsimp only; split <;> simp
@[simp] theorem Dev.raise_paths (d : Dev) (b : IntBlk) (k : Nat) : (d.raise b k).paths = d.paths := by
  unfold Dev.raise; dsimp only; split <;> simp
@[simp] theorem Dev.raise_pwr (d : Dev) (b : IntBlk) (k : Nat) : (d.raise b k).pwr = d.pwr := by
  unfold Dev.raise; dsimp only; split <;> simp
@[simp] theorem Dev.raise_isl (d : Dev) (b : IntBlk) (k : Nat) : (d.raise b k).isl = d.isl := by
  unfold Dev.raise; dsimp only; split <;> simp
@[simp] theorem Dev.raise_tkp (d : Dev) (b : IntBlk) (k : Nat) : (d.raise b k).tkp = d.tkp := by
  unfold Dev.raise; dsimp only; split <;> simp
@[simp] theorem Dev.raise_rdr (d : Dev) (b : IntBlk) (k : Nat) : (d.raise b k).rdr = d.rdr := by
  unfold Dev.raise; dsimp only; split <;> simp
@[simp] theorem Dev.raise_flush (d : Dev) (b : IntBlk) (k : Nat) : (d.raise b k).flush = d.flush := by
  unfold Dev.raise; dsimp only; split <;> simp
@[simp] theorem Dev.raise_lko (d : Dev) (b : IntBlk) (k : Nat) : (d.raise b k).lko = d.lko := by
  unfold Dev.raise; dsimp only; split <;> simp
@[simp] theorem Dev.raise_cmp (d : Dev) (b : IntBlk) (k : Nat) : (d.raise b k).cmp = d.cmp := by
  unfold Dev.raise; dsimp only; split <;> simp
@[simp] theorem Dev.raise_hmp (d : Dev) (b : IntBlk) (k : Nat) : (d.raise b k).hmp = d.hmp := by
  unfold Dev.raise; dsimp only; split <;> simp
@[simp] theorem Dev.raise_ports (d : Dev) (b : IntBlk) (k : Nat) : (d.raise b k).ports = d.ports := by
  unfold Dev.raise; dsimp only; split <;> simp
@[simp] theorem Dev.raise_pairs (d : Dev) (b : IntBlk) (k : Nat) : (d.raise b k).pairs = d.pairs := by
  unfold Dev.raise; dsimp only; split <;> simp
@[simp] theorem Dev.raise_keys (d : Dev) (b : IntBlk) (k : Nat) : (d.raise b k).keys = d.keys := by
  unfold Dev.raise; dsimp only; split <;> simp
@[simp] theorem Dev.raise_ing (d : Dev) (b : IntBlk) (k : Nat) : (d.raise b k).ing = d.ing := by
  unfold Dev.raise; dsimp only; split <;> simp
@[simp] theorem Dev.raise_aln (d : Dev) (b : IntBlk) (k : Nat) : (d.raise b k).aln = d.aln := by
  unfold Dev.raise; dsimp only; split <;> simp
@[simp] theorem Dev.raise_adc (d : Dev) (b : IntBlk) (k : Nat) : (d.raise b k).adc = d.adc := by
  unfold Dev.raise; dsimp only; split <;> simp
@[simp] theorem Dev.raise_flt (d : Dev) (b : IntBlk) (k : Nat) : (d.raise b k).flt = d.flt := by
  unfold Dev.raise; dsimp only; split <;> simp
@[simp] theorem Dev.raise_dsp (d : Dev) (b : IntBlk) (k : Nat) : (d.raise b k).dsp = d.dsp := by
  unfold Dev.raise; dsimp only; split <;> simp
@[simp] theorem Dev.raise_dxl (d : Dev) (b : IntBlk) (k : Nat) : (d.raise b k).dxl = d.dxl := by
  unfold Dev.raise; dsimp only; split <;> simp
@[simp] theorem Dev.raise_cap (d : Dev) (b : IntBlk) (k : Nat) : (d.raise b k).cap = d.cap := by
  unfold Dev.raise; dsimp only; split <;> simp
@[simp] theorem Dev.raise_rul (d : Dev) (b : IntBlk) (k : Nat) : (d.raise b k).rul = d.rul := by
  unfold Dev.raise; dsimp only; split <;> simp
@[simp] theorem Dev.raise_mdl (d : Dev) (b : IntBlk) (k : Nat) : (d.raise b k).mdl = d.mdl := by
  unfold Dev.raise; dsimp only; split <;> simp
@[simp] theorem Dev.raise_free (d : Dev) (b : IntBlk) (k : Nat) : (d.raise b k).free = d.free := by
  unfold Dev.raise; dsimp only; split <;> simp
@[simp] theorem Dev.cause_paths (d : Dev) (b : IntBlk) (k i x : Nat) : (d.cause b k i x).paths = d.paths := by
  simp [Dev.cause]
@[simp] theorem Dev.cause_pwr (d : Dev) (b : IntBlk) (k i x : Nat) : (d.cause b k i x).pwr = d.pwr := by
  simp [Dev.cause]
@[simp] theorem Dev.cause_isl (d : Dev) (b : IntBlk) (k i x : Nat) : (d.cause b k i x).isl = d.isl := by
  simp [Dev.cause]
@[simp] theorem Dev.cause_tkp (d : Dev) (b : IntBlk) (k i x : Nat) : (d.cause b k i x).tkp = d.tkp := by
  simp [Dev.cause]
@[simp] theorem Dev.cause_rdr (d : Dev) (b : IntBlk) (k i x : Nat) : (d.cause b k i x).rdr = d.rdr := by
  simp [Dev.cause]
@[simp] theorem Dev.cause_flush (d : Dev) (b : IntBlk) (k i x : Nat) : (d.cause b k i x).flush = d.flush := by
  simp [Dev.cause]
@[simp] theorem Dev.cause_lko (d : Dev) (b : IntBlk) (k i x : Nat) : (d.cause b k i x).lko = d.lko := by
  simp [Dev.cause]
@[simp] theorem Dev.cause_cmp (d : Dev) (b : IntBlk) (k i x : Nat) : (d.cause b k i x).cmp = d.cmp := by
  simp [Dev.cause]
@[simp] theorem Dev.cause_hmp (d : Dev) (b : IntBlk) (k i x : Nat) : (d.cause b k i x).hmp = d.hmp := by
  simp [Dev.cause]
@[simp] theorem Dev.cause_ports (d : Dev) (b : IntBlk) (k i x : Nat) : (d.cause b k i x).ports = d.ports := by
  simp [Dev.cause]
@[simp] theorem Dev.cause_pairs (d : Dev) (b : IntBlk) (k i x : Nat) : (d.cause b k i x).pairs = d.pairs := by
  simp [Dev.cause]
@[simp] theorem Dev.cause_keys (d : Dev) (b : IntBlk) (k i x : Nat) : (d.cause b k i x).keys = d.keys := by
  simp [Dev.cause]
@[simp] theorem Dev.cause_ing (d : Dev) (b : IntBlk) (k i x : Nat) : (d.cause b k i x).ing = d.ing := by
  simp [Dev.cause]
@[simp] theorem Dev.cause_aln (d : Dev) (b : IntBlk) (k i x : Nat) : (d.cause b k i x).aln = d.aln := by
  simp [Dev.cause]
@[simp] theorem Dev.cause_adc (d : Dev) (b : IntBlk) (k i x : Nat) : (d.cause b k i x).adc = d.adc := by
  simp [Dev.cause]
@[simp] theorem Dev.cause_flt (d : Dev) (b : IntBlk) (k i x : Nat) : (d.cause b k i x).flt = d.flt := by
  simp [Dev.cause]
@[simp] theorem Dev.cause_dsp (d : Dev) (b : IntBlk) (k i x : Nat) : (d.cause b k i x).dsp = d.dsp := by
  simp [Dev.cause]
@[simp] theorem Dev.cause_dxl (d : Dev) (b : IntBlk) (k i x : Nat) : (d.cause b k i x).dxl = d.dxl := by
  simp [Dev.cause]
@[simp] theorem Dev.cause_cap (d : Dev) (b : IntBlk) (k i x : Nat) : (d.cause b k i x).cap = d.cap := by
  simp [Dev.cause]
@[simp] theorem Dev.cause_rul (d : Dev) (b : IntBlk) (k i x : Nat) : (d.cause b k i x).rul = d.rul := by
  simp [Dev.cause]
@[simp] theorem Dev.cause_mdl (d : Dev) (b : IntBlk) (k i x : Nat) : (d.cause b k i x).mdl = d.mdl := by
  simp [Dev.cause]
@[simp] theorem Dev.cause_free (d : Dev) (b : IntBlk) (k i x : Nat) : (d.cause b k i x).free = d.free := by
  simp [Dev.cause]

@[simp] theorem Dev.setN_regs (d : Dev) (f : Field) (i v : Nat) : (d.setN f i v).regs = fput d.regs f i v := rfl
@[simp] theorem Dev.event_evs (d : Dev) (k i x y : Nat) : (d.event k i x y).evs = d.evs ++ [⟨k, i, x, y, []⟩] := rfl
@[simp] theorem Dev.cause_evs (d : Dev) (b : IntBlk) (k i x : Nat) :
    (d.cause b k i x).evs = d.evs ++ [⟨b.blk * 32 + k, i, x, 0, []⟩] := by simp [Dev.cause]

/-! ## Interrupt causes -/

theorem Dev.raise_word (d : Dev) (b : IntBlk) (k a : Nat) :
    (d.raise b k).word a = if a = b.addr then d.word a ||| BitVec.ofNat 32 (2 ^ k) else d.word a := by
  have h : (d.raise b k).regs = rput d.regs b.addr (d.word b.addr ||| BitVec.ofNat 32 (2 ^ k)) := by
    unfold Dev.raise
    dsimp only
    split <;> simp
  simp only [Dev.word, h, rword_rput]
  split
  · rename_i ha
    rw [ha]
  · rfl

theorem Dev.cause_word (d : Dev) (b : IntBlk) (k i x a : Nat) :
    (d.cause b k i x).word a = if a = b.addr then d.word a ||| BitVec.ofNat 32 (2 ^ k) else d.word a :=
  Dev.raise_word d b k a

/-- The cause bit is set once its condition has occurred (R485). -/
theorem Dev.cause_sets (d : Dev) (b : IntBlk) (k i x : Nat) (hk : k < 32) :
    bitOf ((d.cause b k i x).word b.addr) k = true := by
  rw [Dev.cause_word, if_pos rfl, bitOf, BitVec.getLsbD_or, BitVec.getLsbD_ofNat, Nat.testBit_two_pow_self]
  simp [hk]

/-- A cause changes no word but its block's interrupt register. -/
theorem Dev.cause_word_other (d : Dev) (b : IntBlk) (k i x : Nat) {a : Nat} (h : a ≠ b.addr) :
    (d.cause b k i x).word a = d.word a := by simp [Dev.cause_word, h]

/-- A cause leaves the fields of every other word as they were. -/
theorem Dev.cause_getN (d : Dev) (b : IntBlk) (k i x : Nat) (f : Field) (j : Nat) (h : f.reg.addr j ≠ b.addr) :
    (d.cause b k i x).getN f j = d.getN f j := by
  have := Dev.cause_word_other d b k i x h
  simp only [Dev.word] at this
  simp [Dev.getN, fget, this]

/-- What a request for a message can change: the list of requested vectors. -/
theorem Dev.request_hif (d : Dev) (v : Nat) :
    (d.request v).hif = d.hif ∨ (d.request v).hif = { d.hif with msgReq := d.hif.msgReq ++ [v] } := by
  unfold Dev.request
  split
  · exact .inl rfl
  · exact .inr rfl

theorem Dev.raise_hif (d : Dev) (b : IntBlk) (k : Nat) :
    (d.raise b k).hif = d.hif ∨ (d.raise b k).hif = { d.hif with msgReq := d.hif.msgReq ++ [b.vec] } := by
  unfold Dev.raise
  dsimp only
  split
  · exact Dev.request_hif { d with regs := _ } b.vec
  · exact .inl rfl

/-! ## The end of a command -/

theorem IntakeOnly.refl (d : Dev) : IntakeOnly d d := ⟨rfl, fun _ _ => rfl⟩

theorem IntakeOnly.trans {a b c : Dev} (h : IntakeOnly a b) (k : IntakeOnly b c) : IntakeOnly a c := by
  refine ⟨?_, fun x hx => (k.words x hx).trans (h.words x hx)⟩
  have h1 := h.rest
  have k1 := k.rest
  rw [← h1]
  conv_rhs => rw [← k1]

theorem IntakeOnly.setN (d : Dev) (f : Field) (i v : Nat) (h : intakeWord (f.reg.addr i)) :
    IntakeOnly d (d.setN f i v) :=
  ⟨rfl, fun a ha => Dev.word_setN d f i v a fun e => ha (e ▸ h)⟩

theorem drops_word (code : Nat) (h : code < 1024) : intakeWord (Reg.T_LIMIT.DROPS.reg.addr code) := by
  refine .inr (.inr (.inr (.inr ⟨code, h, ?_⟩)))
  simp [Reg.T_LIMIT.DROPS, RegAt.addr, At.T_LIMIT_1, Nat.mod_one]

theorem IntakeOnly.raiseLog (d : Dev) : IntakeOnly d (d.raise intLog 3) := by
  refine ⟨?_, fun a ha => ?_⟩
  · have e : { d.raise intLog 3 with hif := d.hif, regs := d.regs, evs := d.evs } = d := by
      unfold Dev.raise Dev.request
      dsimp only
      split <;> (try split) <;> rfl
    rcases Dev.raise_hif d intLog 3 with h | h <;> · rw [h]; exact e
  · rw [Dev.raise_word, if_neg]
    intro h
    exact ha (.inr (.inl h))

theorem codeDefined_lt (code : Nat) (h : codeDefined code = true) : code < 1024 := by
  unfold codeDefined at h
  split at h
  · rw [decide_eq_true_eq] at h
    by_contra hc
    rw [List.getD_eq_default _ _ (by simp [causeCounts]; omega)] at h
    omega
  · simp only [extraCodes, List.contains_eq_mem, List.mem_cons, List.not_mem_nil, or_false, decide_eq_true_eq] at h
    omega

theorem logDrop_only (code : Nat) (h : code < 1024) (lb : Logbook) (d : Dev) : IntakeOnly d (logDrop code lb d).2 :=
  IntakeOnly.setN d _ code _ (drops_word code h)

theorem logEnter_only (t : Time) (e : LogEv) (h : e.code < 1024) (lb : Logbook) (d : Dev) :
    IntakeOnly d (logEnter t e lb d).2.1 := by
  unfold logEnter
  split
  · exact (logDrop_only e.code h lb d).trans (IntakeOnly.setN _ _ 0 _ (.inr (.inr (.inr (.inl rfl)))))
  · split
    · exact ((logDrop_only e.code h lb d).trans (IntakeOnly.setN _ _ 0 _ (.inr (.inr (.inl rfl))))).trans
        (IntakeOnly.raiseLog _)
    · exact IntakeOnly.refl d

theorem logJudge1_only (t : Time) (e : LogEv) (lb : Logbook) (d : Dev) : IntakeOnly d (logJudge1 t e lb d).2.1 := by
  unfold logJudge1
  split
  · exact IntakeOnly.refl d
  · rename_i hc
    have h := codeDefined_lt e.code (by simpa using hc)
    split
    · exact logEnter_only t e h _ d
    · rename_i lb1 _
      exact logDrop_only e.code h lb1 d

theorem logJudge_only (t : Time) (s : Logbook × Dev) (e : LogEv) : IntakeOnly s.2 (logJudge t s e).2 := by
  have h := logJudge1_only t e s.1 s.2
  unfold logJudge
  split
  · rename_i lb d hh
    rw [hh] at h
    exact h
  · rename_i lb d hh
    rw [hh] at h
    exact h.trans (logJudge1_only t _ lb d)

theorem logJudges_only (t : Time) (es : List LogEv) (s : Logbook × Dev) :
    IntakeOnly s.2 (es.foldl (logJudge t) s).2 := by
  induction es generalizing s with
  | nil => exact IntakeOnly.refl s.2
  | cons e es ih => exact (logJudge_only t s e).trans (ih _)

/-- The end of a command changes of the device only what the Logbook's intake may change. -/
theorem finish_only (s : State) : IntakeOnly { s.dev with evs := [] } (finish s).dev :=
  (logJudges_only s.time _ (s.log, { s.dev with evs := [] })).trans (IntakeOnly.setN _ _ 0 _ (.inl rfl))

@[simp] theorem finish_time (s : State) : (finish s).time = s.time := rfl
@[simp] theorem finish_pending (s : State) : (finish s).pending = s.pending := rfl

/-- A word outside the Logbook's own is not changed by the end of a command. -/
theorem finish_word (s : State) (a : Nat) (h : ¬ intakeWord a) : (finish s).dev.word a = s.dev.word a :=
  (finish_only s).words a h

@[simp] theorem finish_paths (s : State) : (finish s).dev.paths = s.dev.paths := by
  have h := congrArg Dev.paths (finish_only s).rest
  exact h
@[simp] theorem finish_pwr (s : State) : (finish s).dev.pwr = s.dev.pwr := by
  have h := congrArg Dev.pwr (finish_only s).rest
  exact h
@[simp] theorem finish_isl (s : State) : (finish s).dev.isl = s.dev.isl := by
  have h := congrArg Dev.isl (finish_only s).rest
  exact h
@[simp] theorem finish_tkp (s : State) : (finish s).dev.tkp = s.dev.tkp := by
  have h := congrArg Dev.tkp (finish_only s).rest
  exact h
@[simp] theorem finish_rdr (s : State) : (finish s).dev.rdr = s.dev.rdr := by
  have h := congrArg Dev.rdr (finish_only s).rest
  exact h
@[simp] theorem finish_flush (s : State) : (finish s).dev.flush = s.dev.flush := by
  have h := congrArg Dev.flush (finish_only s).rest
  exact h
@[simp] theorem finish_lko (s : State) : (finish s).dev.lko = s.dev.lko := by
  have h := congrArg Dev.lko (finish_only s).rest
  exact h
@[simp] theorem finish_cmp (s : State) : (finish s).dev.cmp = s.dev.cmp := by
  have h := congrArg Dev.cmp (finish_only s).rest
  exact h
@[simp] theorem finish_hmp (s : State) : (finish s).dev.hmp = s.dev.hmp := by
  have h := congrArg Dev.hmp (finish_only s).rest
  exact h
@[simp] theorem finish_ports (s : State) : (finish s).dev.ports = s.dev.ports := by
  have h := congrArg Dev.ports (finish_only s).rest
  exact h
@[simp] theorem finish_pairs (s : State) : (finish s).dev.pairs = s.dev.pairs := by
  have h := congrArg Dev.pairs (finish_only s).rest
  exact h
@[simp] theorem finish_keys (s : State) : (finish s).dev.keys = s.dev.keys := by
  have h := congrArg Dev.keys (finish_only s).rest
  exact h
@[simp] theorem finish_ing (s : State) : (finish s).dev.ing = s.dev.ing := by
  have h := congrArg Dev.ing (finish_only s).rest
  exact h
@[simp] theorem finish_aln (s : State) : (finish s).dev.aln = s.dev.aln := by
  have h := congrArg Dev.aln (finish_only s).rest
  exact h
@[simp] theorem finish_adc (s : State) : (finish s).dev.adc = s.dev.adc := by
  have h := congrArg Dev.adc (finish_only s).rest
  exact h
@[simp] theorem finish_flt (s : State) : (finish s).dev.flt = s.dev.flt := by
  have h := congrArg Dev.flt (finish_only s).rest
  exact h
@[simp] theorem finish_dsp (s : State) : (finish s).dev.dsp = s.dev.dsp := by
  have h := congrArg Dev.dsp (finish_only s).rest
  exact h
@[simp] theorem finish_dxl (s : State) : (finish s).dev.dxl = s.dev.dxl := by
  have h := congrArg Dev.dxl (finish_only s).rest
  exact h
@[simp] theorem finish_cap (s : State) : (finish s).dev.cap = s.dev.cap := by
  have h := congrArg Dev.cap (finish_only s).rest
  exact h
@[simp] theorem finish_rul (s : State) : (finish s).dev.rul = s.dev.rul := by
  have h := congrArg Dev.rul (finish_only s).rest
  exact h
@[simp] theorem finish_mdl (s : State) : (finish s).dev.mdl = s.dev.mdl := by
  have h := congrArg Dev.mdl (finish_only s).rest
  exact h
@[simp] theorem finish_free (s : State) : (finish s).dev.free = s.dev.free := by
  have h := congrArg Dev.free (finish_only s).rest
  exact h
@[simp] theorem finish_hif_rings (s : State) : (finish s).dev.hif.rings = s.dev.hif.rings := by
  have h := congrArg (fun d : Dev => d.hif.rings) (finish_only s).rest
  exact h
@[simp] theorem finish_hif_sent (s : State) : (finish s).dev.hif.sent = s.dev.hif.sent := by
  have h := congrArg (fun d : Dev => d.hif.sent) (finish_only s).rest
  exact h
@[simp] theorem finish_hif_msixEn (s : State) : (finish s).dev.hif.msixEn = s.dev.hif.msixEn := by
  have h := congrArg (fun d : Dev => d.hif.msixEn) (finish_only s).rest
  exact h
@[simp] theorem finish_hif_funcMask (s : State) : (finish s).dev.hif.funcMask = s.dev.hif.funcMask := by
  have h := congrArg (fun d : Dev => d.hif.funcMask) (finish_only s).rest
  exact h
@[simp] theorem finish_hif_linkHold (s : State) : (finish s).dev.hif.linkHold = s.dev.hif.linkHold := by
  have h := congrArg (fun d : Dev => d.hif.linkHold) (finish_only s).rest
  exact h
@[simp] theorem finish_hif_lastHb (s : State) : (finish s).dev.hif.lastHb = s.dev.hif.lastHb := by
  have h := congrArg (fun d : Dev => d.hif.lastHb) (finish_only s).rest
  exact h
@[simp] theorem finish_hif_crs (s : State) : (finish s).dev.hif.crs = s.dev.hif.crs := by
  have h := congrArg (fun d : Dev => d.hif.crs) (finish_only s).rest
  exact h
@[simp] theorem finish_hif_training (s : State) : (finish s).dev.hif.training = s.dev.hif.training := by
  have h := congrArg (fun d : Dev => d.hif.training) (finish_only s).rest
  exact h

theorem finish_getN (s : State) (f : Field) (i : Nat) (h : ¬ intakeWord (f.reg.addr i)) :
    (finish s).dev.getN f i = s.dev.getN f i := by
  have := finish_word s _ h
  simp only [Dev.word] at this
  simp [Dev.getN, fget, this]

end Sys2Proof.Machine
end

