-- ==== Sys2Proof/Laws/Ops.lean ====
section
/-!
SUPPORT. Laws of the shared operations: what a command's end leaves as the command left it, the lengths and values of the byte
strings, and the rings: what owing, sending and completing do.
-/

namespace Sys2Proof.Machine

open Sys2Proof

/-! ## The end of a command -/

@[simp] theorem after_time (s : State) (d : Dev) : (s.after d).time = s.time := rfl
@[simp] theorem after_pending (s : State) (d : Dev) : (s.after d).pending = s.pending := rfl
@[simp] theorem after_paths (s : State) (d : Dev) : (s.after d).dev.paths = d.paths := finish_paths _
@[simp] theorem after_hmp (s : State) (d : Dev) : (s.after d).dev.hmp = d.hmp := finish_hmp _
@[simp] theorem after_pwr (s : State) (d : Dev) : (s.after d).dev.pwr = d.pwr := finish_pwr _
@[simp] theorem after_rings (s : State) (d : Dev) : (s.after d).dev.hif.rings = d.hif.rings := finish_hif_rings _
@[simp] theorem after_sent (s : State) (d : Dev) : (s.after d).dev.hif.sent = d.hif.sent := finish_hif_sent _

theorem run_after (s : State) (f : Time → Dev → Dev) : run s f = .next (s.after (f s.time s.dev)) := rfl

/-- A word that the Logbook's intake does not write stands as the command left it. -/
theorem after_word (s : State) (d : Dev) (a : Nat) (h : ¬ intakeWord a) : (s.after d).dev.word a = d.word a :=
  finish_word _ a h

theorem after_getN (s : State) (d : Dev) (f : Field) (i : Nat) (h : ¬ intakeWord (f.reg.addr i)) :
    (s.after d).dev.getN f i = d.getN f i := finish_getN _ f i h

theorem after_get (s : State) (d : Dev) (f : Field) (h : ¬ intakeWord (f.reg.addr 0)) :
    (s.after d).dev.get f = d.get f := finish_getN _ f 0 h

/-- A test that a numeral address is none of the intake's words. -/
theorem not_intakeWord {a : Nat}
    (h : (a != 0x120000 && a != 0x120004 && a != 0x120010 && a != 0x120014 && (decide (a < 0x3C0000) || decide (0x3C2004 ≤ a))) = true) :
    ¬ intakeWord a := by
  simp only [Bool.and_eq_true, Bool.or_eq_true, bne_iff_ne, decide_eq_true_eq] at h
  rintro (h1 | h1 | h1 | h1 | ⟨c, hc, h1⟩) <;> omega

/-! ## Bytes -/

@[simp] theorem le_length (n v : Nat) : (le n v).length = n := by
  induction n generalizing v with
  | zero => rfl
  | succ n ih => simp [le, ih]

@[simp] theorem be_length (n v : Nat) : (be n v).length = n := by simp [be]

@[simp] theorem slice_length (bs : List Byte) (o n : Nat) : (slice bs o n).length = n := by
  simp only [slice, List.length_append, List.length_replicate, List.length_take]
  omega

theorem leVal_lt (bs : List Byte) : leVal bs < 256 ^ bs.length := by
  induction bs with
  | nil => simp [leVal]
  | cons b bs ih =>
    have := b.isLt
    simp only [leVal, List.length_cons, Nat.pow_succ]
    omega

/-- A number of at most n bytes is read back from its n bytes. -/
theorem leVal_le (n v : Nat) (h : v < 256 ^ n) : leVal (le n v) = v := by
  induction n generalizing v with
  | zero => simp [le, leVal] at *; omega
  | succ n ih =>
    have := ih (v / 256) (by rw [Nat.pow_succ] at h; omega)
    simp only [le, leVal, this, BitVec.toNat_ofNat]
    omega

theorem beVal_be (n v : Nat) (h : v < 256 ^ n) : beVal (be n v) = v := by simp [beVal, be, leVal_le n v h]

theorem crc32Bit_lt {c : Nat} (h : c < 2 ^ 32) : crc32Bit c < 2 ^ 32 := by
  unfold crc32Bit
  split
  · exact Nat.xor_lt_two_pow (by omega) (by decide)
  · omega

theorem foldl_lt {α : Type} (f : Nat → α → Nat) (n : Nat) (h : ∀ c x, c < n → f c x < n) (l : List α) (c : Nat) (hc : c < n) :
    l.foldl f c < n := by
  induction l generalizing c with
  | nil => exact hc
  | cons x xs ih => exact ih _ (h c x hc)

/-- A CRC-32 is a word. -/
theorem crc32_lt (bs : List Byte) : crc32 0 bs < 2 ^ 32 := by
  refine Nat.xor_lt_two_pow (foldl_lt _ _ (fun c b hc => ?_) _ _ (by decide)) (by decide)
  exact foldl_lt _ _ (fun _ _ => crc32Bit_lt) _ _ (Nat.xor_lt_two_pow hc (by have := b.isLt; omega))

/-! ## Rings -/

@[simp] theorem ring_setRing (d : Dev) (n : Nat) (r : Ring) : (d.setRing n r).ring n = r := by
  simp [Dev.ring, Dev.setRing]

theorem ring_setRing_other (d : Dev) {n m : Nat} (h : m ≠ n) (r : Ring) : (d.setRing n r).ring m = d.ring m := by
  simp [Dev.ring, Dev.setRing, tget_tset_other _ h]

@[simp] theorem setRing_regs (d : Dev) (n : Nat) (r : Ring) : (d.setRing n r).regs = d.regs := rfl

/-- A completion owed stands behind those owed before, and nothing else of the ring changes. -/
theorem owe_ring (d : Dev) (n : Nat) (o : Owed) : (owe n o d).ring n = { d.ring n with owed := (d.ring n).owed ++ [o] } := by
  simp [owe]

theorem owe_ring_other (d : Dev) {n m : Nat} (h : m ≠ n) (o : Owed) : (owe n o d).ring m = d.ring m := by
  simp [owe, ring_setRing_other _ h]

@[simp] theorem owe_regs (d : Dev) (n : Nat) (o : Owed) : (owe n o d).regs = d.regs := rfl
@[simp] theorem owe_sent (d : Dev) (n : Nat) (o : Owed) : (owe n o d).hif.sent = d.hif.sent := rfl

/-- A write to host memory goes behind those before it and changes no ring. -/
@[simp] theorem hostWrite_sent (w : HostWrite) (d : Dev) : (hostWrite w d).hif.sent = d.hif.sent ++ [w] := rfl
@[simp] theorem hostWrite_ring (w : HostWrite) (d : Dev) (n : Nat) : (hostWrite w d).ring n = d.ring n := rfl
@[simp] theorem hostWrite_regs (w : HostWrite) (d : Dev) : (hostWrite w d).regs = d.regs := rfl

end Sys2Proof.Machine
end

