-- ==== Sys2Proof/Laws/Footprint.lean ====
section
/-!
SUPPORT. Laws of footprints: what a change of the device leaves alone composes, each shared operation moves only what it names,
and a command whose meaning moves only its footprint holds it.
-/

namespace Sys2Proof.Machine

open Sys2Proof

/-- Does a part of the device stand? -/
def devStands (d e : Dev) : StatePart → Prop
  | .log => True
  | .hif => { e.hif with msgReq := [] } = { d.hif with msgReq := [] }
  | .paths => e.paths = d.paths
  | .pwr => e.pwr = d.pwr
  | .isl => e.isl = d.isl
  | .tkp => e.tkp = d.tkp
  | .rdr => e.rdr = d.rdr
  | .flush => e.flush = d.flush
  | .lko => e.lko = d.lko
  | .cmp => e.cmp = d.cmp
  | .hmp => e.hmp = d.hmp
  | .ports => e.ports = d.ports
  | .pairs => e.pairs = d.pairs
  | .keys => e.keys = d.keys
  | .ing => e.ing = d.ing
  | .aln => e.aln = d.aln
  | .adc => e.adc = d.adc
  | .flt => e.flt = d.flt
  | .dsp => e.dsp = d.dsp
  | .dxl => e.dxl = d.dxl
  | .cap => e.cap = d.cap
  | .rul => e.rul = d.rul
  | .mdl => e.mdl = d.mdl
  | .free => e.free = d.free

theorem devStands_refl (d : Dev) (x : StatePart) : devStands d d x := by cases x <;> first | rfl | exact trivial

theorem devStands_trans {a b c : Dev} {x : StatePart} (h : devStands a b x) (k : devStands b c x) : devStands a c x := by
  cases x <;> first | exact trivial | exact Eq.trans k h

/-- From `d` to `e` nothing has changed but the parts `ps` and the words `w`. -/
def Moves (ps : List StatePart) (w : Nat → Prop) (d e : Dev) : Prop :=
  (∀ x, x ∉ ps → devStands d e x) ∧ ∀ a, ¬ w a → e.word a = d.word a

theorem Moves.refl (ps : List StatePart) (w : Nat → Prop) (d : Dev) : Moves ps w d d :=
  ⟨fun x _ => devStands_refl d x, fun _ _ => rfl⟩

theorem Moves.trans {ps : List StatePart} {w : Nat → Prop} {a b c : Dev} (h : Moves ps w a b) (k : Moves ps w b c) :
    Moves ps w a c :=
  ⟨fun x hx => devStands_trans (h.1 x hx) (k.1 x hx), fun x hx => (k.2 x hx).trans (h.2 x hx)⟩

theorem Moves.mono {ps qs : List StatePart} {w u : Nat → Prop} {a b : Dev} (h : Moves ps w a b) (hp : ∀ x, x ∈ ps → x ∈ qs)
    (hw : ∀ x, w x → u x) : Moves qs u a b :=
  ⟨fun x hx => h.1 x fun k => hx (hp x k), fun x hx => h.2 x fun k => hx (hw x k)⟩

/-- Choosing between two changes moves what either does. -/
theorem Moves.ite {ps : List StatePart} {w : Nat → Prop} {d a b : Dev} {c : Prop} [Decidable c] (ha : Moves ps w d a)
    (hb : Moves ps w d b) : Moves ps w d (if c then a else b) := by
  split
  · exact ha
  · exact hb

/-- A change repeated over a list moves what one of them does. -/
theorem Moves.foldl {α : Type} {ps : List StatePart} {w : Nat → Prop} (f : Dev → α → Dev) (h : ∀ d x, Moves ps w d (f d x))
    (xs : List α) (d : Dev) : Moves ps w d (xs.foldl f d) := by
  induction xs generalizing d with
  | nil => exact Moves.refl ps w d
  | cons x xs ih => exact (h d x).trans (ih _)

/-! ## The shared operations -/

theorem Moves.setN {ps : List StatePart} {w : Nat → Prop} (d : Dev) (f : Field) (i v : Nat) (h : w (f.reg.addr i)) :
    Moves ps w d (d.setN f i v) :=
  ⟨fun x _ => by cases x <;> first | rfl | exact trivial,
    fun a ha => Dev.word_setN d f i v a fun e => ha (e ▸ h)⟩

theorem Moves.set {ps : List StatePart} {w : Nat → Prop} (d : Dev) (f : Field) (v : Nat) (h : w (f.reg.addr 0)) :
    Moves ps w d (d.set f v) := Moves.setN d f 0 v h

theorem Moves.sat {ps : List StatePart} {w : Nat → Prop} (d : Dev) (f : Field) (i : Nat) (h : w (f.reg.addr i)) :
    Moves ps w d (d.sat f i) := Moves.setN d f i _ h

theorem Moves.putWord {ps : List StatePart} {w : Nat → Prop} (d : Dev) (a : Nat) (v : Word32) (h : w a) :
    Moves ps w d (d.putWord a v) :=
  ⟨fun x _ => by cases x <;> first | rfl | exact trivial,
    fun b hb => rword_rput_other _ (fun e : b = a => hb (e ▸ h)) _⟩

theorem Moves.event {ps : List StatePart} {w : Nat → Prop} (d : Dev) (k i x y : Nat) : Moves ps w d (d.event k i x y) :=
  ⟨fun p _ => by cases p <;> first | rfl | exact trivial, fun _ _ => rfl⟩

theorem Moves.request {ps : List StatePart} {w : Nat → Prop} (d : Dev) (v : Nat) : Moves ps w d (d.request v) := by
  unfold Dev.request
  split
  · exact Moves.refl ps w d
  · exact ⟨fun p _ => by cases p <;> first | rfl | exact trivial, fun _ _ => rfl⟩

theorem Moves.raise {ps : List StatePart} {w : Nat → Prop} (d : Dev) (b : IntBlk) (k : Nat) (h : w b.addr) :
    Moves ps w d (d.raise b k) := by
  have h1 : Moves ps w d { d with regs := rput d.regs b.addr (d.word b.addr ||| BitVec.ofNat 32 (2 ^ k)) } :=
    ⟨fun x _ => by cases x <;> first | rfl | exact trivial, fun a ha => rword_rput_other _ (fun e : a = b.addr => ha (e ▸ h)) _⟩
  unfold Dev.raise
  dsimp only
  split
  · exact h1.trans (Moves.request _ _)
  · exact h1

/-- A cause moves its interrupt register alone; the message it may request and its event are apart. -/
theorem Moves.cause {ps : List StatePart} {w : Nat → Prop} (d : Dev) (b : IntBlk) (k i x : Nat) (h : w b.addr) :
    Moves ps w d (d.cause b k i x) := (Moves.raise d b k h).trans (Moves.event _ _ _ _ _)

theorem Moves.answer {w : Nat → Prop} (d : Dev) (p : Path) (v : Word32) : Moves [.paths] w d (d.answer p v) :=
  ⟨fun x hx => by cases x <;> first | rfl | exact trivial | exact absurd (List.mem_singleton.2 rfl) hx, fun _ _ => rfl⟩

/-! ## Commands -/

theorem finish_moves (s : State) (x : StatePart) (hx : x ≠ .log) : devStands s.dev (finish s).dev x := by
  cases x
  case log => exact absurd rfl hx
  case hif =>
    have h := congrArg (fun d : Dev => { d.hif with msgReq := [] }) (finish_only s).rest
    exact h
  case free =>
    have h := congrArg Dev.free (finish_only s).rest
    exact h
  all_goals simp [devStands]

/-- The Logbook beside its intake, its buckets and its counts of dropped events. -/
def Logbook.still (lb : Logbook) : Logbook := { lb with intake := [], buckets := [], pend := [] }

theorem logLimit_still (now code : Nat) (lb : Logbook) (d : Dev) : (logLimit now code lb d).2.still = lb.still := by
  unfold logLimit
  dsimp only
  split
  · rfl
  · split
    · rfl
    · split <;> rfl

theorem logEnter_still (t : Time) (e : LogEv) (lb : Logbook) (d : Dev) : (logEnter t e lb d).1.still = lb.still := by
  unfold logEnter
  split
  · rfl
  · split <;> rfl

theorem logJudge1_still (t : Time) (e : LogEv) (lb : Logbook) (d : Dev) : (logJudge1 t e lb d).1.still = lb.still := by
  unfold logJudge1
  split
  · rfl
  · have h := logLimit_still t.loc e.code lb d
    split
    · rename_i lb1 hh
      rw [hh] at h
      exact (logEnter_still t e lb1 d).trans h
    · rename_i lb1 hh
      rw [hh] at h
      exact h

theorem logJudge_still (t : Time) (s : Logbook × Dev) (e : LogEv) : (logJudge t s e).1.still = s.1.still := by
  have h := logJudge1_still t e s.1 s.2
  unfold logJudge
  split
  · rename_i lb d hh
    rw [hh] at h
    exact h
  · rename_i lb d hh
    rw [hh] at h
    exact (logJudge1_still t _ lb d).trans h

/-- The end of a command changes of the Logbook only its intake, its buckets and its counts of dropped events. -/
theorem finish_still (s : State) : (finish s).log.still = s.log.still := by
  have h : ∀ (es : List LogEv) (x : Logbook × Dev), (es.foldl (logJudge s.time) x).1.still = x.1.still := by
    intro es
    induction es with
    | nil => intro x; rfl
    | cons e es ih => intro x; exact (ih _).trans (logJudge_still s.time x e)
  exact h _ (s.log, { s.dev with evs := [] })

/-- A command whose meaning moves only its footprint holds it. -/
theorem holds_after {p : Footprint} {s : State} {d : Dev} (h : Moves p.parts p.words s.dev d) : p.holds s (s.after d) := by
  refine ⟨fun x hx => ?_, fun a ha hi => (after_word s d a hi).trans (h.2 a ha)⟩
  by_cases hl : x = .log
  · subst hl
    exact finish_still { s with dev := d }
  · have hf := finish_moves { s with dev := d } x hl
    have k := devStands_trans (h.1 x hx) hf
    cases x <;> first | exact k | exact absurd rfl hl

/-- The same for a command that runs on the device alone. -/
theorem holds_run {p : Footprint} {s t : State} {f : Time → Dev → Dev} (h : Moves p.parts p.words s.dev (f s.time s.dev))
    (e : run s f = .next t) : p.holds s t ∧ t.time = s.time ∧ t.pending = s.pending := by
  cases e
  exact ⟨holds_after h, rfl, rfl⟩

end Sys2Proof.Machine
end

