-- ==== Sys2Proof/Laws/Hamper.lean ====
section
/-!
SUPPORT. Laws of the Hamper's memory: every operation over it keeps its canonical form, and a read changes no word.
-/

namespace Sys2Proof.Machine

open Sys2Proof

@[simp] theorem modHmp_hmp (d : Dev) (f : Hmp → Hmp) : (d.modHmp f).hmp = f d.hmp := rfl

/-- A word written keeps the form. -/
theorem memoryWf_tset (m : FMap HWord) (w : Nat) (x : HWord) (h : Memory.wf m = true) : Memory.wf (tset m w x) = true :=
  fmWf_tset m w x h

@[simp] theorem hCounts_hmp (w : Nat) (d : Dev) : (hCounts w d).hmp = d.hmp := rfl

@[simp] theorem setMapFull_hmp (b : Nat) (d : Dev) : (setMapFull b d).hmp = d.hmp := by
  simp only [setMapFull]
  split <;> split <;> rfl

@[simp] theorem fence_mem (w : Nat) (c : HCause) (d : Dev) : (fence w c d).hmp.mem = d.hmp.mem := rfl

@[simp] theorem lasting_mem (w : Nat) (c : HCause) (d : Dev) : (lasting w c d).hmp.mem = d.hmp.mem := by
  simp only [lasting]
  split <;> simp

@[simp] theorem lineCheck_mem (c : HCause) (w : Nat) (d : Dev) : (lineCheck c w d).hmp.mem = d.hmp.mem := by
  have h : ∀ (l : List Nat) (d : Dev), (l.foldl (fun x v => lasting v c x) d).hmp.mem = d.hmp.mem := by
    intro l
    induction l with
    | nil => exact fun _ => rfl
    | cons v vs ih => intro d; simp [ih]
  simp only [lineCheck]
  split
  · exact h _ _
  · rfl

@[simp] theorem hval_mem (w : Nat) (d : Dev) : (hval w d).2.hmp.mem = d.hmp.mem := by
  simp only [hval]
  split
  · rfl
  · split <;> rfl

/-- A read changes no word (R101, R105). -/
@[simp] theorem hread_mem (c : HCause) (w : Nat) (d : Dev) : (hread c w d).2.hmp.mem = d.hmp.mem := by simp [hread]

@[simp] theorem hreadLines_mem (c : HCause) (n : Nat) (fresh : Bool) (w : Nat) (d : Dev) :
    (hreadLines c n fresh w d).2.hmp.mem = d.hmp.mem := by
  induction n generalizing fresh w d with
  | zero => rfl
  | succ n ih => cases fresh <;> simp [hreadLines, ih]

@[simp] theorem hreadMany_mem (c : HCause) (w n : Nat) (d : Dev) : (hreadMany c w n d).2.hmp.mem = d.hmp.mem := by
  simp [hreadMany]

/-- A line without a bad unfenced word is read without effect. -/
theorem lineCheck_clean (c : HCause) (w : Nat) (d : Dev) (h : badInLine d w = []) : lineCheck c w d = d := by
  simp [lineCheck, h]

theorem hwrite_wf (w : Nat) (v : Word32) (d : Dev) (h : Memory.wf d.hmp.mem = true) : Memory.wf (hwrite w v d).hmp.mem = true := by
  unfold hwrite
  split
  · exact h
  · split
    · exact h
    · exact memoryWf_tset _ _ _ h

theorem hwriteMany_wf (w : Nat) (vs : List Word32) (d : Dev) (h : Memory.wf d.hmp.mem = true) :
    Memory.wf (hwriteMany w vs d).hmp.mem = true := by
  induction vs generalizing w d with
  | nil => exact h
  | cons v vs ih => exact ih _ _ (hwrite_wf w v d h)

theorem partWrite_wf (n w : Nat) (vs : List Word32) (d : Dev) (h : Memory.wf d.hmp.mem = true) :
    Memory.wf (partWrite n w vs d).hmp.mem = true := by
  induction vs generalizing w d with
  | nil => exact h
  | cons v vs ih =>
    refine ih _ _ ?_
    split
    · exact hwrite_wf w v d h
    · exact h

theorem selfTestWord_wf (w : Nat) (d : Dev) (h : Memory.wf d.hmp.mem = true) : Memory.wf (selfTestWord w d).hmp.mem = true := by
  simp only [selfTestWord]
  split
  · exact h
  · split <;> simpa using memoryWf_tset _ _ _ h

theorem hamperSelfTest_wf (bad : List Nat) (d : Dev) : Memory.wf (hamperSelfTest bad d).hmp.mem = true := by
  have h1 : ∀ (d : Dev), Memory.wf d.hmp.mem = true → Memory.wf (bad.foldl (fun d w => selfTestWord w d) d).hmp.mem = true := by
    induction bad with
    | nil => exact fun _ h => h
    | cons w ws ih => exact fun d h => ih _ (selfTestWord_wf w d h)
  have h2 : ∀ (l : List Nat) (g : Nat → Nat) (d : Dev),
      (l.foldl (fun d b => if 32 < g b then d.event 81 b b (g b) else d) d).hmp = d.hmp := by
    intro l g
    induction l with
    | nil => exact fun _ => rfl
    | cons b bs ih => intro d; simp only [List.foldl_cons, ih]; split <;> rfl
  simp only [hamperSelfTest, Dev.set_hmp]
  rw [h2 _ fun b => (bad.eraseDups.filter fun w => decide (w < hWords) && hBank w == b).length]
  exact h1 _ rfl

end Sys2Proof.Machine
end

