-- ==== Sys2Proof/Laws/Updates.lean ====
section
/-!
SUPPORT. Laws of the updates of one component of the device: the component is as the update says, and no other has changed.
No proof need unfold a record update.
-/

namespace Sys2Proof.Machine

open Sys2Proof

/-! ### setPort -/

@[simp] theorem Dev.setPort_regs (d : Dev) (n : Nat) (p : Port) : (d.setPort n p).regs = d.regs := rfl
@[simp] theorem Dev.setPort_evs (d : Dev) (n : Nat) (p : Port) : (d.setPort n p).evs = d.evs := rfl
@[simp] theorem Dev.setPort_paths (d : Dev) (n : Nat) (p : Port) : (d.setPort n p).paths = d.paths := rfl
@[simp] theorem Dev.setPort_pwr (d : Dev) (n : Nat) (p : Port) : (d.setPort n p).pwr = d.pwr := rfl
@[simp] theorem Dev.setPort_isl (d : Dev) (n : Nat) (p : Port) : (d.setPort n p).isl = d.isl := rfl
@[simp] theorem Dev.setPort_tkp (d : Dev) (n : Nat) (p : Port) : (d.setPort n p).tkp = d.tkp := rfl
@[simp] theorem Dev.setPort_hif (d : Dev) (n : Nat) (p : Port) : (d.setPort n p).hif = d.hif := rfl
@[simp] theorem Dev.setPort_rdr (d : Dev) (n : Nat) (p : Port) : (d.setPort n p).rdr = d.rdr := rfl
@[simp] theorem Dev.setPort_flush (d : Dev) (n : Nat) (p : Port) : (d.setPort n p).flush = d.flush := rfl
@[simp] theorem Dev.setPort_lko (d : Dev) (n : Nat) (p : Port) : (d.setPort n p).lko = d.lko := rfl
@[simp] theorem Dev.setPort_cmp (d : Dev) (n : Nat) (p : Port) : (d.setPort n p).cmp = d.cmp := rfl
@[simp] theorem Dev.setPort_hmp (d : Dev) (n : Nat) (p : Port) : (d.setPort n p).hmp = d.hmp := rfl
@[simp] theorem Dev.setPort_pairs (d : Dev) (n : Nat) (p : Port) : (d.setPort n p).pairs = d.pairs := rfl
@[simp] theorem Dev.setPort_keys (d : Dev) (n : Nat) (p : Port) : (d.setPort n p).keys = d.keys := rfl
@[simp] theorem Dev.setPort_ing (d : Dev) (n : Nat) (p : Port) : (d.setPort n p).ing = d.ing := rfl
@[simp] theorem Dev.setPort_aln (d : Dev) (n : Nat) (p : Port) : (d.setPort n p).aln = d.aln := rfl
@[simp] theorem Dev.setPort_adc (d : Dev) (n : Nat) (p : Port) : (d.setPort n p).adc = d.adc := rfl
@[simp] theorem Dev.setPort_flt (d : Dev) (n : Nat) (p : Port) : (d.setPort n p).flt = d.flt := rfl
@[simp] theorem Dev.setPort_dsp (d : Dev) (n : Nat) (p : Port) : (d.setPort n p).dsp = d.dsp := rfl
@[simp] theorem Dev.setPort_dxl (d : Dev) (n : Nat) (p : Port) : (d.setPort n p).dxl = d.dxl := rfl
@[simp] theorem Dev.setPort_cap (d : Dev) (n : Nat) (p : Port) : (d.setPort n p).cap = d.cap := rfl
@[simp] theorem Dev.setPort_rul (d : Dev) (n : Nat) (p : Port) : (d.setPort n p).rul = d.rul := rfl
@[simp] theorem Dev.setPort_mdl (d : Dev) (n : Nat) (p : Port) : (d.setPort n p).mdl = d.mdl := rfl
@[simp] theorem Dev.setPort_free (d : Dev) (n : Nat) (p : Port) : (d.setPort n p).free = d.free := rfl
@[simp] theorem Dev.setPort_getN (d : Dev) (n : Nat) (p : Port) (g : Field) (k : Nat) :
    (d.setPort n p).getN g k = d.getN g k := rfl
@[simp] theorem Dev.setPort_onN (d : Dev) (n : Nat) (p : Port) (g : Field) (k : Nat) :
    (d.setPort n p).onN g k = d.onN g k := rfl
@[simp] theorem Dev.setPort_get (d : Dev) (n : Nat) (p : Port) (g : Field) : (d.setPort n p).get g = d.get g := rfl
@[simp] theorem Dev.setPort_on (d : Dev) (n : Nat) (p : Port) (g : Field) : (d.setPort n p).on g = d.on g := rfl
@[simp] theorem Dev.setPort_word (d : Dev) (n : Nat) (p : Port) (k : Nat) : (d.setPort n p).word k = d.word k := rfl
@[simp] theorem Dev.setPort_port (d : Dev) (n : Nat) (p : Port) : (d.setPort n p).port n = p := by simp [Dev.port, Dev.setPort]
theorem Dev.setPort_port_other (d : Dev) (n : Nat) (p : Port) {m : Nat} (h : m ≠ n) : (d.setPort n p).port m = d.port m := by
  simp [Dev.port, Dev.setPort, tget_tset, h]

/-! ### setPair -/

@[simp] theorem Dev.setPair_regs (d : Dev) (n : Nat) (p : PairSt) : (d.setPair n p).regs = d.regs := rfl
@[simp] theorem Dev.setPair_evs (d : Dev) (n : Nat) (p : PairSt) : (d.setPair n p).evs = d.evs := rfl
@[simp] theorem Dev.setPair_paths (d : Dev) (n : Nat) (p : PairSt) : (d.setPair n p).paths = d.paths := rfl
@[simp] theorem Dev.setPair_pwr (d : Dev) (n : Nat) (p : PairSt) : (d.setPair n p).pwr = d.pwr := rfl
@[simp] theorem Dev.setPair_isl (d : Dev) (n : Nat) (p : PairSt) : (d.setPair n p).isl = d.isl := rfl
@[simp] theorem Dev.setPair_tkp (d : Dev) (n : Nat) (p : PairSt) : (d.setPair n p).tkp = d.tkp := rfl
@[simp] theorem Dev.setPair_hif (d : Dev) (n : Nat) (p : PairSt) : (d.setPair n p).hif = d.hif := rfl
@[simp] theorem Dev.setPair_rdr (d : Dev) (n : Nat) (p : PairSt) : (d.setPair n p).rdr = d.rdr := rfl
@[simp] theorem Dev.setPair_flush (d : Dev) (n : Nat) (p : PairSt) : (d.setPair n p).flush = d.flush := rfl
@[simp] theorem Dev.setPair_lko (d : Dev) (n : Nat) (p : PairSt) : (d.setPair n p).lko = d.lko := rfl
@[simp] theorem Dev.setPair_cmp (d : Dev) (n : Nat) (p : PairSt) : (d.setPair n p).cmp = d.cmp := rfl
@[simp] theorem Dev.setPair_hmp (d : Dev) (n : Nat) (p : PairSt) : (d.setPair n p).hmp = d.hmp := rfl
@[simp] theorem Dev.setPair_ports (d : Dev) (n : Nat) (p : PairSt) : (d.setPair n p).ports = d.ports := rfl
@[simp] theorem Dev.setPair_keys (d : Dev) (n : Nat) (p : PairSt) : (d.setPair n p).keys = d.keys := rfl
@[simp] theorem Dev.setPair_ing (d : Dev) (n : Nat) (p : PairSt) : (d.setPair n p).ing = d.ing := rfl
@[simp] theorem Dev.setPair_aln (d : Dev) (n : Nat) (p : PairSt) : (d.setPair n p).aln = d.aln := rfl
@[simp] theorem Dev.setPair_adc (d : Dev) (n : Nat) (p : PairSt) : (d.setPair n p).adc = d.adc := rfl
@[simp] theorem Dev.setPair_flt (d : Dev) (n : Nat) (p : PairSt) : (d.setPair n p).flt = d.flt := rfl
@[simp] theorem Dev.setPair_dsp (d : Dev) (n : Nat) (p : PairSt) : (d.setPair n p).dsp = d.dsp := rfl
@[simp] theorem Dev.setPair_dxl (d : Dev) (n : Nat) (p : PairSt) : (d.setPair n p).dxl = d.dxl := rfl
@[simp] theorem Dev.setPair_cap (d : Dev) (n : Nat) (p : PairSt) : (d.setPair n p).cap = d.cap := rfl
@[simp] theorem Dev.setPair_rul (d : Dev) (n : Nat) (p : PairSt) : (d.setPair n p).rul = d.rul := rfl
@[simp] theorem Dev.setPair_mdl (d : Dev) (n : Nat) (p : PairSt) : (d.setPair n p).mdl = d.mdl := rfl
@[simp] theorem Dev.setPair_free (d : Dev) (n : Nat) (p : PairSt) : (d.setPair n p).free = d.free := rfl
@[simp] theorem Dev.setPair_getN (d : Dev) (n : Nat) (p : PairSt) (g : Field) (k : Nat) :
    (d.setPair n p).getN g k = d.getN g k := rfl
@[simp] theorem Dev.setPair_onN (d : Dev) (n : Nat) (p : PairSt) (g : Field) (k : Nat) :
    (d.setPair n p).onN g k = d.onN g k := rfl
@[simp] theorem Dev.setPair_get (d : Dev) (n : Nat) (p : PairSt) (g : Field) : (d.setPair n p).get g = d.get g := rfl
@[simp] theorem Dev.setPair_on (d : Dev) (n : Nat) (p : PairSt) (g : Field) : (d.setPair n p).on g = d.on g := rfl
@[simp] theorem Dev.setPair_word (d : Dev) (n : Nat) (p : PairSt) (k : Nat) : (d.setPair n p).word k = d.word k := rfl
@[simp] theorem Dev.setPair_pair (d : Dev) (n : Nat) (p : PairSt) :
    (d.setPair n p).pair n = p := by simp [Dev.pair, Dev.setPair]
theorem Dev.setPair_pair_other (d : Dev) (n : Nat) (p : PairSt) {m : Nat} (h : m ≠ n) : (d.setPair n p).pair m = d.pair m := by
  simp [Dev.pair, Dev.setPair, tget_tset, h]

/-! ### setRing -/

@[simp] theorem Dev.setRing_regs (d : Dev) (n : Nat) (r : Ring) : (d.setRing n r).regs = d.regs := rfl
@[simp] theorem Dev.setRing_evs (d : Dev) (n : Nat) (r : Ring) : (d.setRing n r).evs = d.evs := rfl
@[simp] theorem Dev.setRing_paths (d : Dev) (n : Nat) (r : Ring) : (d.setRing n r).paths = d.paths := rfl
@[simp] theorem Dev.setRing_pwr (d : Dev) (n : Nat) (r : Ring) : (d.setRing n r).pwr = d.pwr := rfl
@[simp] theorem Dev.setRing_isl (d : Dev) (n : Nat) (r : Ring) : (d.setRing n r).isl = d.isl := rfl
@[simp] theorem Dev.setRing_tkp (d : Dev) (n : Nat) (r : Ring) : (d.setRing n r).tkp = d.tkp := rfl
@[simp] theorem Dev.setRing_rdr (d : Dev) (n : Nat) (r : Ring) : (d.setRing n r).rdr = d.rdr := rfl
@[simp] theorem Dev.setRing_flush (d : Dev) (n : Nat) (r : Ring) : (d.setRing n r).flush = d.flush := rfl
@[simp] theorem Dev.setRing_lko (d : Dev) (n : Nat) (r : Ring) : (d.setRing n r).lko = d.lko := rfl
@[simp] theorem Dev.setRing_cmp (d : Dev) (n : Nat) (r : Ring) : (d.setRing n r).cmp = d.cmp := rfl
@[simp] theorem Dev.setRing_hmp (d : Dev) (n : Nat) (r : Ring) : (d.setRing n r).hmp = d.hmp := rfl
@[simp] theorem Dev.setRing_ports (d : Dev) (n : Nat) (r : Ring) : (d.setRing n r).ports = d.ports := rfl
@[simp] theorem Dev.setRing_pairs (d : Dev) (n : Nat) (r : Ring) : (d.setRing n r).pairs = d.pairs := rfl
@[simp] theorem Dev.setRing_keys (d : Dev) (n : Nat) (r : Ring) : (d.setRing n r).keys = d.keys := rfl
@[simp] theorem Dev.setRing_ing (d : Dev) (n : Nat) (r : Ring) : (d.setRing n r).ing = d.ing := rfl
@[simp] theorem Dev.setRing_aln (d : Dev) (n : Nat) (r : Ring) : (d.setRing n r).aln = d.aln := rfl
@[simp] theorem Dev.setRing_adc (d : Dev) (n : Nat) (r : Ring) : (d.setRing n r).adc = d.adc := rfl
@[simp] theorem Dev.setRing_flt (d : Dev) (n : Nat) (r : Ring) : (d.setRing n r).flt = d.flt := rfl
@[simp] theorem Dev.setRing_dsp (d : Dev) (n : Nat) (r : Ring) : (d.setRing n r).dsp = d.dsp := rfl
@[simp] theorem Dev.setRing_dxl (d : Dev) (n : Nat) (r : Ring) : (d.setRing n r).dxl = d.dxl := rfl
@[simp] theorem Dev.setRing_cap (d : Dev) (n : Nat) (r : Ring) : (d.setRing n r).cap = d.cap := rfl
@[simp] theorem Dev.setRing_rul (d : Dev) (n : Nat) (r : Ring) : (d.setRing n r).rul = d.rul := rfl
@[simp] theorem Dev.setRing_mdl (d : Dev) (n : Nat) (r : Ring) : (d.setRing n r).mdl = d.mdl := rfl
@[simp] theorem Dev.setRing_free (d : Dev) (n : Nat) (r : Ring) : (d.setRing n r).free = d.free := rfl
@[simp] theorem Dev.setRing_getN (d : Dev) (n : Nat) (r : Ring) (g : Field) (k : Nat) :
    (d.setRing n r).getN g k = d.getN g k := rfl
@[simp] theorem Dev.setRing_onN (d : Dev) (n : Nat) (r : Ring) (g : Field) (k : Nat) :
    (d.setRing n r).onN g k = d.onN g k := rfl
@[simp] theorem Dev.setRing_get (d : Dev) (n : Nat) (r : Ring) (g : Field) : (d.setRing n r).get g = d.get g := rfl
@[simp] theorem Dev.setRing_on (d : Dev) (n : Nat) (r : Ring) (g : Field) : (d.setRing n r).on g = d.on g := rfl
@[simp] theorem Dev.setRing_word (d : Dev) (n : Nat) (r : Ring) (k : Nat) : (d.setRing n r).word k = d.word k := rfl

/-! ### setRef -/

@[simp] theorem Dev.setRef_regs (d : Dev) (n : Nat) (r : RefSt) : (d.setRef n r).regs = d.regs := rfl
@[simp] theorem Dev.setRef_evs (d : Dev) (n : Nat) (r : RefSt) : (d.setRef n r).evs = d.evs := rfl
@[simp] theorem Dev.setRef_paths (d : Dev) (n : Nat) (r : RefSt) : (d.setRef n r).paths = d.paths := rfl
@[simp] theorem Dev.setRef_pwr (d : Dev) (n : Nat) (r : RefSt) : (d.setRef n r).pwr = d.pwr := rfl
@[simp] theorem Dev.setRef_isl (d : Dev) (n : Nat) (r : RefSt) : (d.setRef n r).isl = d.isl := rfl
@[simp] theorem Dev.setRef_hif (d : Dev) (n : Nat) (r : RefSt) : (d.setRef n r).hif = d.hif := rfl
@[simp] theorem Dev.setRef_rdr (d : Dev) (n : Nat) (r : RefSt) : (d.setRef n r).rdr = d.rdr := rfl
@[simp] theorem Dev.setRef_flush (d : Dev) (n : Nat) (r : RefSt) : (d.setRef n r).flush = d.flush := rfl
@[simp] theorem Dev.setRef_lko (d : Dev) (n : Nat) (r : RefSt) : (d.setRef n r).lko = d.lko := rfl
@[simp] theorem Dev.setRef_cmp (d : Dev) (n : Nat) (r : RefSt) : (d.setRef n r).cmp = d.cmp := rfl
@[simp] theorem Dev.setRef_hmp (d : Dev) (n : Nat) (r : RefSt) : (d.setRef n r).hmp = d.hmp := rfl
@[simp] theorem Dev.setRef_ports (d : Dev) (n : Nat) (r : RefSt) : (d.setRef n r).ports = d.ports := rfl
@[simp] theorem Dev.setRef_pairs (d : Dev) (n : Nat) (r : RefSt) : (d.setRef n r).pairs = d.pairs := rfl
@[simp] theorem Dev.setRef_keys (d : Dev) (n : Nat) (r : RefSt) : (d.setRef n r).keys = d.keys := rfl
@[simp] theorem Dev.setRef_ing (d : Dev) (n : Nat) (r : RefSt) : (d.setRef n r).ing = d.ing := rfl
@[simp] theorem Dev.setRef_aln (d : Dev) (n : Nat) (r : RefSt) : (d.setRef n r).aln = d.aln := rfl
@[simp] theorem Dev.setRef_adc (d : Dev) (n : Nat) (r : RefSt) : (d.setRef n r).adc = d.adc := rfl
@[simp] theorem Dev.setRef_flt (d : Dev) (n : Nat) (r : RefSt) : (d.setRef n r).flt = d.flt := rfl
@[simp] theorem Dev.setRef_dsp (d : Dev) (n : Nat) (r : RefSt) : (d.setRef n r).dsp = d.dsp := rfl
@[simp] theorem Dev.setRef_dxl (d : Dev) (n : Nat) (r : RefSt) : (d.setRef n r).dxl = d.dxl := rfl
@[simp] theorem Dev.setRef_cap (d : Dev) (n : Nat) (r : RefSt) : (d.setRef n r).cap = d.cap := rfl
@[simp] theorem Dev.setRef_rul (d : Dev) (n : Nat) (r : RefSt) : (d.setRef n r).rul = d.rul := rfl
@[simp] theorem Dev.setRef_mdl (d : Dev) (n : Nat) (r : RefSt) : (d.setRef n r).mdl = d.mdl := rfl
@[simp] theorem Dev.setRef_free (d : Dev) (n : Nat) (r : RefSt) : (d.setRef n r).free = d.free := rfl
@[simp] theorem Dev.setRef_getN (d : Dev) (n : Nat) (r : RefSt) (g : Field) (k : Nat) :
    (d.setRef n r).getN g k = d.getN g k := rfl
@[simp] theorem Dev.setRef_onN (d : Dev) (n : Nat) (r : RefSt) (g : Field) (k : Nat) : (d.setRef n r).onN g k = d.onN g k := rfl
@[simp] theorem Dev.setRef_get (d : Dev) (n : Nat) (r : RefSt) (g : Field) : (d.setRef n r).get g = d.get g := rfl
@[simp] theorem Dev.setRef_on (d : Dev) (n : Nat) (r : RefSt) (g : Field) : (d.setRef n r).on g = d.on g := rfl
@[simp] theorem Dev.setRef_word (d : Dev) (n : Nat) (r : RefSt) (k : Nat) : (d.setRef n r).word k = d.word k := rfl
@[simp] theorem Dev.setRef_ref (d : Dev) (n : Nat) (r : RefSt) : (d.setRef n r).ref n = r := by simp [Dev.ref, Dev.setRef]
theorem Dev.setRef_ref_other (d : Dev) (n : Nat) (r : RefSt) {m : Nat} (h : m ≠ n) : (d.setRef n r).ref m = d.ref m := by
  simp [Dev.ref, Dev.setRef, tget_tset, h]

/-! ### setPath -/

@[simp] theorem Dev.setPath_regs (d : Dev) (p : Path) (x : PathSt) : (d.setPath p x).regs = d.regs := rfl
@[simp] theorem Dev.setPath_evs (d : Dev) (p : Path) (x : PathSt) : (d.setPath p x).evs = d.evs := rfl
@[simp] theorem Dev.setPath_pwr (d : Dev) (p : Path) (x : PathSt) : (d.setPath p x).pwr = d.pwr := rfl
@[simp] theorem Dev.setPath_isl (d : Dev) (p : Path) (x : PathSt) : (d.setPath p x).isl = d.isl := rfl
@[simp] theorem Dev.setPath_tkp (d : Dev) (p : Path) (x : PathSt) : (d.setPath p x).tkp = d.tkp := rfl
@[simp] theorem Dev.setPath_hif (d : Dev) (p : Path) (x : PathSt) : (d.setPath p x).hif = d.hif := rfl
@[simp] theorem Dev.setPath_rdr (d : Dev) (p : Path) (x : PathSt) : (d.setPath p x).rdr = d.rdr := rfl
@[simp] theorem Dev.setPath_flush (d : Dev) (p : Path) (x : PathSt) : (d.setPath p x).flush = d.flush := rfl
@[simp] theorem Dev.setPath_lko (d : Dev) (p : Path) (x : PathSt) : (d.setPath p x).lko = d.lko := rfl
@[simp] theorem Dev.setPath_cmp (d : Dev) (p : Path) (x : PathSt) : (d.setPath p x).cmp = d.cmp := rfl
@[simp] theorem Dev.setPath_hmp (d : Dev) (p : Path) (x : PathSt) : (d.setPath p x).hmp = d.hmp := rfl
@[simp] theorem Dev.setPath_ports (d : Dev) (p : Path) (x : PathSt) : (d.setPath p x).ports = d.ports := rfl
@[simp] theorem Dev.setPath_pairs (d : Dev) (p : Path) (x : PathSt) : (d.setPath p x).pairs = d.pairs := rfl
@[simp] theorem Dev.setPath_keys (d : Dev) (p : Path) (x : PathSt) : (d.setPath p x).keys = d.keys := rfl
@[simp] theorem Dev.setPath_ing (d : Dev) (p : Path) (x : PathSt) : (d.setPath p x).ing = d.ing := rfl
@[simp] theorem Dev.setPath_aln (d : Dev) (p : Path) (x : PathSt) : (d.setPath p x).aln = d.aln := rfl
@[simp] theorem Dev.setPath_adc (d : Dev) (p : Path) (x : PathSt) : (d.setPath p x).adc = d.adc := rfl
@[simp] theorem Dev.setPath_flt (d : Dev) (p : Path) (x : PathSt) : (d.setPath p x).flt = d.flt := rfl
@[simp] theorem Dev.setPath_dsp (d : Dev) (p : Path) (x : PathSt) : (d.setPath p x).dsp = d.dsp := rfl
@[simp] theorem Dev.setPath_dxl (d : Dev) (p : Path) (x : PathSt) : (d.setPath p x).dxl = d.dxl := rfl
@[simp] theorem Dev.setPath_cap (d : Dev) (p : Path) (x : PathSt) : (d.setPath p x).cap = d.cap := rfl
@[simp] theorem Dev.setPath_rul (d : Dev) (p : Path) (x : PathSt) : (d.setPath p x).rul = d.rul := rfl
@[simp] theorem Dev.setPath_mdl (d : Dev) (p : Path) (x : PathSt) : (d.setPath p x).mdl = d.mdl := rfl
@[simp] theorem Dev.setPath_free (d : Dev) (p : Path) (x : PathSt) : (d.setPath p x).free = d.free := rfl
@[simp] theorem Dev.setPath_getN (d : Dev) (p : Path) (x : PathSt) (g : Field) (k : Nat) :
    (d.setPath p x).getN g k = d.getN g k := rfl
@[simp] theorem Dev.setPath_onN (d : Dev) (p : Path) (x : PathSt) (g : Field) (k : Nat) :
    (d.setPath p x).onN g k = d.onN g k := rfl
@[simp] theorem Dev.setPath_get (d : Dev) (p : Path) (x : PathSt) (g : Field) : (d.setPath p x).get g = d.get g := rfl
@[simp] theorem Dev.setPath_on (d : Dev) (p : Path) (x : PathSt) (g : Field) : (d.setPath p x).on g = d.on g := rfl
@[simp] theorem Dev.setPath_word (d : Dev) (p : Path) (x : PathSt) (k : Nat) : (d.setPath p x).word k = d.word k := rfl

/-! ### modPort -/

@[simp] theorem Dev.modPort_regs (d : Dev) (n : Nat) (f : Port → Port) : (d.modPort n f).regs = d.regs := rfl
@[simp] theorem Dev.modPort_evs (d : Dev) (n : Nat) (f : Port → Port) : (d.modPort n f).evs = d.evs := rfl
@[simp] theorem Dev.modPort_paths (d : Dev) (n : Nat) (f : Port → Port) : (d.modPort n f).paths = d.paths := rfl
@[simp] theorem Dev.modPort_pwr (d : Dev) (n : Nat) (f : Port → Port) : (d.modPort n f).pwr = d.pwr := rfl
@[simp] theorem Dev.modPort_isl (d : Dev) (n : Nat) (f : Port → Port) : (d.modPort n f).isl = d.isl := rfl
@[simp] theorem Dev.modPort_tkp (d : Dev) (n : Nat) (f : Port → Port) : (d.modPort n f).tkp = d.tkp := rfl
@[simp] theorem Dev.modPort_hif (d : Dev) (n : Nat) (f : Port → Port) : (d.modPort n f).hif = d.hif := rfl
@[simp] theorem Dev.modPort_rdr (d : Dev) (n : Nat) (f : Port → Port) : (d.modPort n f).rdr = d.rdr := rfl
@[simp] theorem Dev.modPort_flush (d : Dev) (n : Nat) (f : Port → Port) : (d.modPort n f).flush = d.flush := rfl
@[simp] theorem Dev.modPort_lko (d : Dev) (n : Nat) (f : Port → Port) : (d.modPort n f).lko = d.lko := rfl
@[simp] theorem Dev.modPort_cmp (d : Dev) (n : Nat) (f : Port → Port) : (d.modPort n f).cmp = d.cmp := rfl
@[simp] theorem Dev.modPort_hmp (d : Dev) (n : Nat) (f : Port → Port) : (d.modPort n f).hmp = d.hmp := rfl
@[simp] theorem Dev.modPort_pairs (d : Dev) (n : Nat) (f : Port → Port) : (d.modPort n f).pairs = d.pairs := rfl
@[simp] theorem Dev.modPort_keys (d : Dev) (n : Nat) (f : Port → Port) : (d.modPort n f).keys = d.keys := rfl
@[simp] theorem Dev.modPort_ing (d : Dev) (n : Nat) (f : Port → Port) : (d.modPort n f).ing = d.ing := rfl
@[simp] theorem Dev.modPort_aln (d : Dev) (n : Nat) (f : Port → Port) : (d.modPort n f).aln = d.aln := rfl
@[simp] theorem Dev.modPort_adc (d : Dev) (n : Nat) (f : Port → Port) : (d.modPort n f).adc = d.adc := rfl
@[simp] theorem Dev.modPort_flt (d : Dev) (n : Nat) (f : Port → Port) : (d.modPort n f).flt = d.flt := rfl
@[simp] theorem Dev.modPort_dsp (d : Dev) (n : Nat) (f : Port → Port) : (d.modPort n f).dsp = d.dsp := rfl
@[simp] theorem Dev.modPort_dxl (d : Dev) (n : Nat) (f : Port → Port) : (d.modPort n f).dxl = d.dxl := rfl
@[simp] theorem Dev.modPort_cap (d : Dev) (n : Nat) (f : Port → Port) : (d.modPort n f).cap = d.cap := rfl
@[simp] theorem Dev.modPort_rul (d : Dev) (n : Nat) (f : Port → Port) : (d.modPort n f).rul = d.rul := rfl
@[simp] theorem Dev.modPort_mdl (d : Dev) (n : Nat) (f : Port → Port) : (d.modPort n f).mdl = d.mdl := rfl
@[simp] theorem Dev.modPort_free (d : Dev) (n : Nat) (f : Port → Port) : (d.modPort n f).free = d.free := rfl
@[simp] theorem Dev.modPort_getN (d : Dev) (n : Nat) (f : Port → Port) (g : Field) (k : Nat) :
    (d.modPort n f).getN g k = d.getN g k := rfl
@[simp] theorem Dev.modPort_onN (d : Dev) (n : Nat) (f : Port → Port) (g : Field) (k : Nat) :
    (d.modPort n f).onN g k = d.onN g k := rfl
@[simp] theorem Dev.modPort_get (d : Dev) (n : Nat) (f : Port → Port) (g : Field) : (d.modPort n f).get g = d.get g := rfl
@[simp] theorem Dev.modPort_on (d : Dev) (n : Nat) (f : Port → Port) (g : Field) : (d.modPort n f).on g = d.on g := rfl
@[simp] theorem Dev.modPort_word (d : Dev) (n : Nat) (f : Port → Port) (k : Nat) : (d.modPort n f).word k = d.word k := rfl
@[simp] theorem Dev.modPort_port (d : Dev) (n : Nat) (f : Port → Port) :
    (d.modPort n f).port n = f (d.port n) := by simp [Dev.port, Dev.setPort, Dev.modPort]
theorem Dev.modPort_port_other (d : Dev) (n : Nat) (f : Port → Port) {m : Nat} (h : m ≠ n) :
    (d.modPort n f).port m = d.port m := by
  simp [Dev.port, Dev.setPort, Dev.modPort, tget_tset, h]

/-! ### modPtp -/

@[simp] theorem Dev.modPtp_regs (d : Dev) (n : Nat) (f : PtpPort → PtpPort) : (d.modPtp n f).regs = d.regs := rfl
@[simp] theorem Dev.modPtp_evs (d : Dev) (n : Nat) (f : PtpPort → PtpPort) : (d.modPtp n f).evs = d.evs := rfl
@[simp] theorem Dev.modPtp_paths (d : Dev) (n : Nat) (f : PtpPort → PtpPort) : (d.modPtp n f).paths = d.paths := rfl
@[simp] theorem Dev.modPtp_pwr (d : Dev) (n : Nat) (f : PtpPort → PtpPort) : (d.modPtp n f).pwr = d.pwr := rfl
@[simp] theorem Dev.modPtp_isl (d : Dev) (n : Nat) (f : PtpPort → PtpPort) : (d.modPtp n f).isl = d.isl := rfl
@[simp] theorem Dev.modPtp_hif (d : Dev) (n : Nat) (f : PtpPort → PtpPort) : (d.modPtp n f).hif = d.hif := rfl
@[simp] theorem Dev.modPtp_rdr (d : Dev) (n : Nat) (f : PtpPort → PtpPort) : (d.modPtp n f).rdr = d.rdr := rfl
@[simp] theorem Dev.modPtp_flush (d : Dev) (n : Nat) (f : PtpPort → PtpPort) : (d.modPtp n f).flush = d.flush := rfl
@[simp] theorem Dev.modPtp_lko (d : Dev) (n : Nat) (f : PtpPort → PtpPort) : (d.modPtp n f).lko = d.lko := rfl
@[simp] theorem Dev.modPtp_cmp (d : Dev) (n : Nat) (f : PtpPort → PtpPort) : (d.modPtp n f).cmp = d.cmp := rfl
@[simp] theorem Dev.modPtp_hmp (d : Dev) (n : Nat) (f : PtpPort → PtpPort) : (d.modPtp n f).hmp = d.hmp := rfl
@[simp] theorem Dev.modPtp_ports (d : Dev) (n : Nat) (f : PtpPort → PtpPort) : (d.modPtp n f).ports = d.ports := rfl
@[simp] theorem Dev.modPtp_pairs (d : Dev) (n : Nat) (f : PtpPort → PtpPort) : (d.modPtp n f).pairs = d.pairs := rfl
@[simp] theorem Dev.modPtp_keys (d : Dev) (n : Nat) (f : PtpPort → PtpPort) : (d.modPtp n f).keys = d.keys := rfl
@[simp] theorem Dev.modPtp_ing (d : Dev) (n : Nat) (f : PtpPort → PtpPort) : (d.modPtp n f).ing = d.ing := rfl
@[simp] theorem Dev.modPtp_aln (d : Dev) (n : Nat) (f : PtpPort → PtpPort) : (d.modPtp n f).aln = d.aln := rfl
@[simp] theorem Dev.modPtp_adc (d : Dev) (n : Nat) (f : PtpPort → PtpPort) : (d.modPtp n f).adc = d.adc := rfl
@[simp] theorem Dev.modPtp_flt (d : Dev) (n : Nat) (f : PtpPort → PtpPort) : (d.modPtp n f).flt = d.flt := rfl
@[simp] theorem Dev.modPtp_dsp (d : Dev) (n : Nat) (f : PtpPort → PtpPort) : (d.modPtp n f).dsp = d.dsp := rfl
@[simp] theorem Dev.modPtp_dxl (d : Dev) (n : Nat) (f : PtpPort → PtpPort) : (d.modPtp n f).dxl = d.dxl := rfl
@[simp] theorem Dev.modPtp_cap (d : Dev) (n : Nat) (f : PtpPort → PtpPort) : (d.modPtp n f).cap = d.cap := rfl
@[simp] theorem Dev.modPtp_rul (d : Dev) (n : Nat) (f : PtpPort → PtpPort) : (d.modPtp n f).rul = d.rul := rfl
@[simp] theorem Dev.modPtp_mdl (d : Dev) (n : Nat) (f : PtpPort → PtpPort) : (d.modPtp n f).mdl = d.mdl := rfl
@[simp] theorem Dev.modPtp_free (d : Dev) (n : Nat) (f : PtpPort → PtpPort) : (d.modPtp n f).free = d.free := rfl
@[simp] theorem Dev.modPtp_getN (d : Dev) (n : Nat) (f : PtpPort → PtpPort) (g : Field) (k : Nat) :
    (d.modPtp n f).getN g k = d.getN g k := rfl
@[simp] theorem Dev.modPtp_onN (d : Dev) (n : Nat) (f : PtpPort → PtpPort) (g : Field) (k : Nat) :
    (d.modPtp n f).onN g k = d.onN g k := rfl
@[simp] theorem Dev.modPtp_get (d : Dev) (n : Nat) (f : PtpPort → PtpPort) (g : Field) : (d.modPtp n f).get g = d.get g := rfl
@[simp] theorem Dev.modPtp_on (d : Dev) (n : Nat) (f : PtpPort → PtpPort) (g : Field) : (d.modPtp n f).on g = d.on g := rfl
@[simp] theorem Dev.modPtp_word (d : Dev) (n : Nat) (f : PtpPort → PtpPort) (k : Nat) : (d.modPtp n f).word k = d.word k := rfl
@[simp] theorem Dev.modPtp_ptp (d : Dev) (n : Nat) (f : PtpPort → PtpPort) :
    (d.modPtp n f).ptp n = f (d.ptp n) := by simp [Dev.ptp, Dev.modPtp]
theorem Dev.modPtp_ptp_other (d : Dev) (n : Nat) (f : PtpPort → PtpPort) {m : Nat} (h : m ≠ n) :
    (d.modPtp n f).ptp m = d.ptp m := by
  simp [Dev.ptp, Dev.modPtp, tget_tmod, h]

/-! ### modIsl -/

@[simp] theorem Dev.modIsl_regs (d : Dev) (i : Nat) (f : IslSt → IslSt) : (d.modIsl i f).regs = d.regs := rfl
@[simp] theorem Dev.modIsl_evs (d : Dev) (i : Nat) (f : IslSt → IslSt) : (d.modIsl i f).evs = d.evs := rfl
@[simp] theorem Dev.modIsl_paths (d : Dev) (i : Nat) (f : IslSt → IslSt) : (d.modIsl i f).paths = d.paths := rfl
@[simp] theorem Dev.modIsl_pwr (d : Dev) (i : Nat) (f : IslSt → IslSt) : (d.modIsl i f).pwr = d.pwr := rfl
@[simp] theorem Dev.modIsl_tkp (d : Dev) (i : Nat) (f : IslSt → IslSt) : (d.modIsl i f).tkp = d.tkp := rfl
@[simp] theorem Dev.modIsl_hif (d : Dev) (i : Nat) (f : IslSt → IslSt) : (d.modIsl i f).hif = d.hif := rfl
@[simp] theorem Dev.modIsl_rdr (d : Dev) (i : Nat) (f : IslSt → IslSt) : (d.modIsl i f).rdr = d.rdr := rfl
@[simp] theorem Dev.modIsl_flush (d : Dev) (i : Nat) (f : IslSt → IslSt) : (d.modIsl i f).flush = d.flush := rfl
@[simp] theorem Dev.modIsl_lko (d : Dev) (i : Nat) (f : IslSt → IslSt) : (d.modIsl i f).lko = d.lko := rfl
@[simp] theorem Dev.modIsl_cmp (d : Dev) (i : Nat) (f : IslSt → IslSt) : (d.modIsl i f).cmp = d.cmp := rfl
@[simp] theorem Dev.modIsl_hmp (d : Dev) (i : Nat) (f : IslSt → IslSt) : (d.modIsl i f).hmp = d.hmp := rfl
@[simp] theorem Dev.modIsl_ports (d : Dev) (i : Nat) (f : IslSt → IslSt) : (d.modIsl i f).ports = d.ports := rfl
@[simp] theorem Dev.modIsl_pairs (d : Dev) (i : Nat) (f : IslSt → IslSt) : (d.modIsl i f).pairs = d.pairs := rfl
@[simp] theorem Dev.modIsl_keys (d : Dev) (i : Nat) (f : IslSt → IslSt) : (d.modIsl i f).keys = d.keys := rfl
@[simp] theorem Dev.modIsl_ing (d : Dev) (i : Nat) (f : IslSt → IslSt) : (d.modIsl i f).ing = d.ing := rfl
@[simp] theorem Dev.modIsl_aln (d : Dev) (i : Nat) (f : IslSt → IslSt) : (d.modIsl i f).aln = d.aln := rfl
@[simp] theorem Dev.modIsl_adc (d : Dev) (i : Nat) (f : IslSt → IslSt) : (d.modIsl i f).adc = d.adc := rfl
@[simp] theorem Dev.modIsl_flt (d : Dev) (i : Nat) (f : IslSt → IslSt) : (d.modIsl i f).flt = d.flt := rfl
@[simp] theorem Dev.modIsl_dsp (d : Dev) (i : Nat) (f : IslSt → IslSt) : (d.modIsl i f).dsp = d.dsp := rfl
@[simp] theorem Dev.modIsl_dxl (d : Dev) (i : Nat) (f : IslSt → IslSt) : (d.modIsl i f).dxl = d.dxl := rfl
@[simp] theorem Dev.modIsl_cap (d : Dev) (i : Nat) (f : IslSt → IslSt) : (d.modIsl i f).cap = d.cap := rfl
@[simp] theorem Dev.modIsl_rul (d : Dev) (i : Nat) (f : IslSt → IslSt) : (d.modIsl i f).rul = d.rul := rfl
@[simp] theorem Dev.modIsl_mdl (d : Dev) (i : Nat) (f : IslSt → IslSt) : (d.modIsl i f).mdl = d.mdl := rfl
@[simp] theorem Dev.modIsl_free (d : Dev) (i : Nat) (f : IslSt → IslSt) : (d.modIsl i f).free = d.free := rfl
@[simp] theorem Dev.modIsl_getN (d : Dev) (i : Nat) (f : IslSt → IslSt) (g : Field) (k : Nat) :
    (d.modIsl i f).getN g k = d.getN g k := rfl
@[simp] theorem Dev.modIsl_onN (d : Dev) (i : Nat) (f : IslSt → IslSt) (g : Field) (k : Nat) :
    (d.modIsl i f).onN g k = d.onN g k := rfl
@[simp] theorem Dev.modIsl_get (d : Dev) (i : Nat) (f : IslSt → IslSt) (g : Field) : (d.modIsl i f).get g = d.get g := rfl
@[simp] theorem Dev.modIsl_on (d : Dev) (i : Nat) (f : IslSt → IslSt) (g : Field) : (d.modIsl i f).on g = d.on g := rfl
@[simp] theorem Dev.modIsl_word (d : Dev) (i : Nat) (f : IslSt → IslSt) (k : Nat) : (d.modIsl i f).word k = d.word k := rfl

/-! ### modPwr -/

@[simp] theorem Dev.modPwr_regs (d : Dev) (f : Pwr → Pwr) : (d.modPwr f).regs = d.regs := rfl
@[simp] theorem Dev.modPwr_evs (d : Dev) (f : Pwr → Pwr) : (d.modPwr f).evs = d.evs := rfl
@[simp] theorem Dev.modPwr_paths (d : Dev) (f : Pwr → Pwr) : (d.modPwr f).paths = d.paths := rfl
@[simp] theorem Dev.modPwr_pwr (d : Dev) (f : Pwr → Pwr) : (d.modPwr f).pwr = f d.pwr := rfl
@[simp] theorem Dev.modPwr_isl (d : Dev) (f : Pwr → Pwr) : (d.modPwr f).isl = d.isl := rfl
@[simp] theorem Dev.modPwr_tkp (d : Dev) (f : Pwr → Pwr) : (d.modPwr f).tkp = d.tkp := rfl
@[simp] theorem Dev.modPwr_hif (d : Dev) (f : Pwr → Pwr) : (d.modPwr f).hif = d.hif := rfl
@[simp] theorem Dev.modPwr_rdr (d : Dev) (f : Pwr → Pwr) : (d.modPwr f).rdr = d.rdr := rfl
@[simp] theorem Dev.modPwr_flush (d : Dev) (f : Pwr → Pwr) : (d.modPwr f).flush = d.flush := rfl
@[simp] theorem Dev.modPwr_lko (d : Dev) (f : Pwr → Pwr) : (d.modPwr f).lko = d.lko := rfl
@[simp] theorem Dev.modPwr_cmp (d : Dev) (f : Pwr → Pwr) : (d.modPwr f).cmp = d.cmp := rfl
@[simp] theorem Dev.modPwr_hmp (d : Dev) (f : Pwr → Pwr) : (d.modPwr f).hmp = d.hmp := rfl
@[simp] theorem Dev.modPwr_ports (d : Dev) (f : Pwr → Pwr) : (d.modPwr f).ports = d.ports := rfl
@[simp] theorem Dev.modPwr_pairs (d : Dev) (f : Pwr → Pwr) : (d.modPwr f).pairs = d.pairs := rfl
@[simp] theorem Dev.modPwr_keys (d : Dev) (f : Pwr → Pwr) : (d.modPwr f).keys = d.keys := rfl
@[simp] theorem Dev.modPwr_ing (d : Dev) (f : Pwr → Pwr) : (d.modPwr f).ing = d.ing := rfl
@[simp] theorem Dev.modPwr_aln (d : Dev) (f : Pwr → Pwr) : (d.modPwr f).aln = d.aln := rfl
@[simp] theorem Dev.modPwr_adc (d : Dev) (f : Pwr → Pwr) : (d.modPwr f).adc = d.adc := rfl
@[simp] theorem Dev.modPwr_flt (d : Dev) (f : Pwr → Pwr) : (d.modPwr f).flt = d.flt := rfl
@[simp] theorem Dev.modPwr_dsp (d : Dev) (f : Pwr → Pwr) : (d.modPwr f).dsp = d.dsp := rfl
@[simp] theorem Dev.modPwr_dxl (d : Dev) (f : Pwr → Pwr) : (d.modPwr f).dxl = d.dxl := rfl
@[simp] theorem Dev.modPwr_cap (d : Dev) (f : Pwr → Pwr) : (d.modPwr f).cap = d.cap := rfl
@[simp] theorem Dev.modPwr_rul (d : Dev) (f : Pwr → Pwr) : (d.modPwr f).rul = d.rul := rfl
@[simp] theorem Dev.modPwr_mdl (d : Dev) (f : Pwr → Pwr) : (d.modPwr f).mdl = d.mdl := rfl
@[simp] theorem Dev.modPwr_free (d : Dev) (f : Pwr → Pwr) : (d.modPwr f).free = d.free := rfl
@[simp] theorem Dev.modPwr_getN (d : Dev) (f : Pwr → Pwr) (g : Field) (k : Nat) : (d.modPwr f).getN g k = d.getN g k := rfl
@[simp] theorem Dev.modPwr_onN (d : Dev) (f : Pwr → Pwr) (g : Field) (k : Nat) : (d.modPwr f).onN g k = d.onN g k := rfl
@[simp] theorem Dev.modPwr_get (d : Dev) (f : Pwr → Pwr) (g : Field) : (d.modPwr f).get g = d.get g := rfl
@[simp] theorem Dev.modPwr_on (d : Dev) (f : Pwr → Pwr) (g : Field) : (d.modPwr f).on g = d.on g := rfl
@[simp] theorem Dev.modPwr_word (d : Dev) (f : Pwr → Pwr) (k : Nat) : (d.modPwr f).word k = d.word k := rfl

/-! ### modTkp -/

@[simp] theorem Dev.modTkp_regs (d : Dev) (f : Tkp → Tkp) : (d.modTkp f).regs = d.regs := rfl
@[simp] theorem Dev.modTkp_evs (d : Dev) (f : Tkp → Tkp) : (d.modTkp f).evs = d.evs := rfl
@[simp] theorem Dev.modTkp_paths (d : Dev) (f : Tkp → Tkp) : (d.modTkp f).paths = d.paths := rfl
@[simp] theorem Dev.modTkp_pwr (d : Dev) (f : Tkp → Tkp) : (d.modTkp f).pwr = d.pwr := rfl
@[simp] theorem Dev.modTkp_isl (d : Dev) (f : Tkp → Tkp) : (d.modTkp f).isl = d.isl := rfl
@[simp] theorem Dev.modTkp_tkp (d : Dev) (f : Tkp → Tkp) : (d.modTkp f).tkp = f d.tkp := rfl
@[simp] theorem Dev.modTkp_hif (d : Dev) (f : Tkp → Tkp) : (d.modTkp f).hif = d.hif := rfl
@[simp] theorem Dev.modTkp_rdr (d : Dev) (f : Tkp → Tkp) : (d.modTkp f).rdr = d.rdr := rfl
@[simp] theorem Dev.modTkp_flush (d : Dev) (f : Tkp → Tkp) : (d.modTkp f).flush = d.flush := rfl
@[simp] theorem Dev.modTkp_lko (d : Dev) (f : Tkp → Tkp) : (d.modTkp f).lko = d.lko := rfl
@[simp] theorem Dev.modTkp_cmp (d : Dev) (f : Tkp → Tkp) : (d.modTkp f).cmp = d.cmp := rfl
@[simp] theorem Dev.modTkp_hmp (d : Dev) (f : Tkp → Tkp) : (d.modTkp f).hmp = d.hmp := rfl
@[simp] theorem Dev.modTkp_ports (d : Dev) (f : Tkp → Tkp) : (d.modTkp f).ports = d.ports := rfl
@[simp] theorem Dev.modTkp_pairs (d : Dev) (f : Tkp → Tkp) : (d.modTkp f).pairs = d.pairs := rfl
@[simp] theorem Dev.modTkp_keys (d : Dev) (f : Tkp → Tkp) : (d.modTkp f).keys = d.keys := rfl
@[simp] theorem Dev.modTkp_ing (d : Dev) (f : Tkp → Tkp) : (d.modTkp f).ing = d.ing := rfl
@[simp] theorem Dev.modTkp_aln (d : Dev) (f : Tkp → Tkp) : (d.modTkp f).aln = d.aln := rfl
@[simp] theorem Dev.modTkp_adc (d : Dev) (f : Tkp → Tkp) : (d.modTkp f).adc = d.adc := rfl
@[simp] theorem Dev.modTkp_flt (d : Dev) (f : Tkp → Tkp) : (d.modTkp f).flt = d.flt := rfl
@[simp] theorem Dev.modTkp_dsp (d : Dev) (f : Tkp → Tkp) : (d.modTkp f).dsp = d.dsp := rfl
@[simp] theorem Dev.modTkp_dxl (d : Dev) (f : Tkp → Tkp) : (d.modTkp f).dxl = d.dxl := rfl
@[simp] theorem Dev.modTkp_cap (d : Dev) (f : Tkp → Tkp) : (d.modTkp f).cap = d.cap := rfl
@[simp] theorem Dev.modTkp_rul (d : Dev) (f : Tkp → Tkp) : (d.modTkp f).rul = d.rul := rfl
@[simp] theorem Dev.modTkp_mdl (d : Dev) (f : Tkp → Tkp) : (d.modTkp f).mdl = d.mdl := rfl
@[simp] theorem Dev.modTkp_free (d : Dev) (f : Tkp → Tkp) : (d.modTkp f).free = d.free := rfl
@[simp] theorem Dev.modTkp_getN (d : Dev) (f : Tkp → Tkp) (g : Field) (k : Nat) : (d.modTkp f).getN g k = d.getN g k := rfl
@[simp] theorem Dev.modTkp_onN (d : Dev) (f : Tkp → Tkp) (g : Field) (k : Nat) : (d.modTkp f).onN g k = d.onN g k := rfl
@[simp] theorem Dev.modTkp_get (d : Dev) (f : Tkp → Tkp) (g : Field) : (d.modTkp f).get g = d.get g := rfl
@[simp] theorem Dev.modTkp_on (d : Dev) (f : Tkp → Tkp) (g : Field) : (d.modTkp f).on g = d.on g := rfl
@[simp] theorem Dev.modTkp_word (d : Dev) (f : Tkp → Tkp) (k : Nat) : (d.modTkp f).word k = d.word k := rfl

/-! ### modHmp -/

@[simp] theorem Dev.modHmp_regs (d : Dev) (f : Hmp → Hmp) : (d.modHmp f).regs = d.regs := rfl
@[simp] theorem Dev.modHmp_evs (d : Dev) (f : Hmp → Hmp) : (d.modHmp f).evs = d.evs := rfl
@[simp] theorem Dev.modHmp_paths (d : Dev) (f : Hmp → Hmp) : (d.modHmp f).paths = d.paths := rfl
@[simp] theorem Dev.modHmp_pwr (d : Dev) (f : Hmp → Hmp) : (d.modHmp f).pwr = d.pwr := rfl
@[simp] theorem Dev.modHmp_isl (d : Dev) (f : Hmp → Hmp) : (d.modHmp f).isl = d.isl := rfl
@[simp] theorem Dev.modHmp_tkp (d : Dev) (f : Hmp → Hmp) : (d.modHmp f).tkp = d.tkp := rfl
@[simp] theorem Dev.modHmp_hif (d : Dev) (f : Hmp → Hmp) : (d.modHmp f).hif = d.hif := rfl
@[simp] theorem Dev.modHmp_rdr (d : Dev) (f : Hmp → Hmp) : (d.modHmp f).rdr = d.rdr := rfl
@[simp] theorem Dev.modHmp_flush (d : Dev) (f : Hmp → Hmp) : (d.modHmp f).flush = d.flush := rfl
@[simp] theorem Dev.modHmp_lko (d : Dev) (f : Hmp → Hmp) : (d.modHmp f).lko = d.lko := rfl
@[simp] theorem Dev.modHmp_cmp (d : Dev) (f : Hmp → Hmp) : (d.modHmp f).cmp = d.cmp := rfl
@[simp] theorem Dev.modHmp_ports (d : Dev) (f : Hmp → Hmp) : (d.modHmp f).ports = d.ports := rfl
@[simp] theorem Dev.modHmp_pairs (d : Dev) (f : Hmp → Hmp) : (d.modHmp f).pairs = d.pairs := rfl
@[simp] theorem Dev.modHmp_keys (d : Dev) (f : Hmp → Hmp) : (d.modHmp f).keys = d.keys := rfl
@[simp] theorem Dev.modHmp_ing (d : Dev) (f : Hmp → Hmp) : (d.modHmp f).ing = d.ing := rfl
@[simp] theorem Dev.modHmp_aln (d : Dev) (f : Hmp → Hmp) : (d.modHmp f).aln = d.aln := rfl
@[simp] theorem Dev.modHmp_adc (d : Dev) (f : Hmp → Hmp) : (d.modHmp f).adc = d.adc := rfl
@[simp] theorem Dev.modHmp_flt (d : Dev) (f : Hmp → Hmp) : (d.modHmp f).flt = d.flt := rfl
@[simp] theorem Dev.modHmp_dsp (d : Dev) (f : Hmp → Hmp) : (d.modHmp f).dsp = d.dsp := rfl
@[simp] theorem Dev.modHmp_dxl (d : Dev) (f : Hmp → Hmp) : (d.modHmp f).dxl = d.dxl := rfl
@[simp] theorem Dev.modHmp_cap (d : Dev) (f : Hmp → Hmp) : (d.modHmp f).cap = d.cap := rfl
@[simp] theorem Dev.modHmp_rul (d : Dev) (f : Hmp → Hmp) : (d.modHmp f).rul = d.rul := rfl
@[simp] theorem Dev.modHmp_mdl (d : Dev) (f : Hmp → Hmp) : (d.modHmp f).mdl = d.mdl := rfl
@[simp] theorem Dev.modHmp_free (d : Dev) (f : Hmp → Hmp) : (d.modHmp f).free = d.free := rfl
@[simp] theorem Dev.modHmp_getN (d : Dev) (f : Hmp → Hmp) (g : Field) (k : Nat) : (d.modHmp f).getN g k = d.getN g k := rfl
@[simp] theorem Dev.modHmp_onN (d : Dev) (f : Hmp → Hmp) (g : Field) (k : Nat) : (d.modHmp f).onN g k = d.onN g k := rfl
@[simp] theorem Dev.modHmp_get (d : Dev) (f : Hmp → Hmp) (g : Field) : (d.modHmp f).get g = d.get g := rfl
@[simp] theorem Dev.modHmp_on (d : Dev) (f : Hmp → Hmp) (g : Field) : (d.modHmp f).on g = d.on g := rfl
@[simp] theorem Dev.modHmp_word (d : Dev) (f : Hmp → Hmp) (k : Nat) : (d.modHmp f).word k = d.word k := rfl

/-! ### modKeys -/

@[simp] theorem Dev.modKeys_regs (d : Dev) (f : Keys → Keys) : (d.modKeys f).regs = d.regs := rfl
@[simp] theorem Dev.modKeys_evs (d : Dev) (f : Keys → Keys) : (d.modKeys f).evs = d.evs := rfl
@[simp] theorem Dev.modKeys_paths (d : Dev) (f : Keys → Keys) : (d.modKeys f).paths = d.paths := rfl
@[simp] theorem Dev.modKeys_pwr (d : Dev) (f : Keys → Keys) : (d.modKeys f).pwr = d.pwr := rfl
@[simp] theorem Dev.modKeys_isl (d : Dev) (f : Keys → Keys) : (d.modKeys f).isl = d.isl := rfl
@[simp] theorem Dev.modKeys_tkp (d : Dev) (f : Keys → Keys) : (d.modKeys f).tkp = d.tkp := rfl
@[simp] theorem Dev.modKeys_hif (d : Dev) (f : Keys → Keys) : (d.modKeys f).hif = d.hif := rfl
@[simp] theorem Dev.modKeys_rdr (d : Dev) (f : Keys → Keys) : (d.modKeys f).rdr = d.rdr := rfl
@[simp] theorem Dev.modKeys_flush (d : Dev) (f : Keys → Keys) : (d.modKeys f).flush = d.flush := rfl
@[simp] theorem Dev.modKeys_lko (d : Dev) (f : Keys → Keys) : (d.modKeys f).lko = d.lko := rfl
@[simp] theorem Dev.modKeys_cmp (d : Dev) (f : Keys → Keys) : (d.modKeys f).cmp = d.cmp := rfl
@[simp] theorem Dev.modKeys_hmp (d : Dev) (f : Keys → Keys) : (d.modKeys f).hmp = d.hmp := rfl
@[simp] theorem Dev.modKeys_ports (d : Dev) (f : Keys → Keys) : (d.modKeys f).ports = d.ports := rfl
@[simp] theorem Dev.modKeys_pairs (d : Dev) (f : Keys → Keys) : (d.modKeys f).pairs = d.pairs := rfl
@[simp] theorem Dev.modKeys_keys (d : Dev) (f : Keys → Keys) : (d.modKeys f).keys = f d.keys := rfl
@[simp] theorem Dev.modKeys_ing (d : Dev) (f : Keys → Keys) : (d.modKeys f).ing = d.ing := rfl
@[simp] theorem Dev.modKeys_aln (d : Dev) (f : Keys → Keys) : (d.modKeys f).aln = d.aln := rfl
@[simp] theorem Dev.modKeys_adc (d : Dev) (f : Keys → Keys) : (d.modKeys f).adc = d.adc := rfl
@[simp] theorem Dev.modKeys_flt (d : Dev) (f : Keys → Keys) : (d.modKeys f).flt = d.flt := rfl
@[simp] theorem Dev.modKeys_dsp (d : Dev) (f : Keys → Keys) : (d.modKeys f).dsp = d.dsp := rfl
@[simp] theorem Dev.modKeys_dxl (d : Dev) (f : Keys → Keys) : (d.modKeys f).dxl = d.dxl := rfl
@[simp] theorem Dev.modKeys_cap (d : Dev) (f : Keys → Keys) : (d.modKeys f).cap = d.cap := rfl
@[simp] theorem Dev.modKeys_rul (d : Dev) (f : Keys → Keys) : (d.modKeys f).rul = d.rul := rfl
@[simp] theorem Dev.modKeys_mdl (d : Dev) (f : Keys → Keys) : (d.modKeys f).mdl = d.mdl := rfl
@[simp] theorem Dev.modKeys_free (d : Dev) (f : Keys → Keys) : (d.modKeys f).free = d.free := rfl
@[simp] theorem Dev.modKeys_getN (d : Dev) (f : Keys → Keys) (g : Field) (k : Nat) : (d.modKeys f).getN g k = d.getN g k := rfl
@[simp] theorem Dev.modKeys_onN (d : Dev) (f : Keys → Keys) (g : Field) (k : Nat) : (d.modKeys f).onN g k = d.onN g k := rfl
@[simp] theorem Dev.modKeys_get (d : Dev) (f : Keys → Keys) (g : Field) : (d.modKeys f).get g = d.get g := rfl
@[simp] theorem Dev.modKeys_on (d : Dev) (f : Keys → Keys) (g : Field) : (d.modKeys f).on g = d.on g := rfl
@[simp] theorem Dev.modKeys_word (d : Dev) (f : Keys → Keys) (k : Nat) : (d.modKeys f).word k = d.word k := rfl

/-! ### modRdr -/

@[simp] theorem Dev.modRdr_regs (d : Dev) (f : LogReader → LogReader) : (d.modRdr f).regs = d.regs := rfl
@[simp] theorem Dev.modRdr_evs (d : Dev) (f : LogReader → LogReader) : (d.modRdr f).evs = d.evs := rfl
@[simp] theorem Dev.modRdr_paths (d : Dev) (f : LogReader → LogReader) : (d.modRdr f).paths = d.paths := rfl
@[simp] theorem Dev.modRdr_pwr (d : Dev) (f : LogReader → LogReader) : (d.modRdr f).pwr = d.pwr := rfl
@[simp] theorem Dev.modRdr_isl (d : Dev) (f : LogReader → LogReader) : (d.modRdr f).isl = d.isl := rfl
@[simp] theorem Dev.modRdr_tkp (d : Dev) (f : LogReader → LogReader) : (d.modRdr f).tkp = d.tkp := rfl
@[simp] theorem Dev.modRdr_hif (d : Dev) (f : LogReader → LogReader) : (d.modRdr f).hif = d.hif := rfl
@[simp] theorem Dev.modRdr_rdr (d : Dev) (f : LogReader → LogReader) : (d.modRdr f).rdr = f d.rdr := rfl
@[simp] theorem Dev.modRdr_flush (d : Dev) (f : LogReader → LogReader) : (d.modRdr f).flush = d.flush := rfl
@[simp] theorem Dev.modRdr_lko (d : Dev) (f : LogReader → LogReader) : (d.modRdr f).lko = d.lko := rfl
@[simp] theorem Dev.modRdr_cmp (d : Dev) (f : LogReader → LogReader) : (d.modRdr f).cmp = d.cmp := rfl
@[simp] theorem Dev.modRdr_hmp (d : Dev) (f : LogReader → LogReader) : (d.modRdr f).hmp = d.hmp := rfl
@[simp] theorem Dev.modRdr_ports (d : Dev) (f : LogReader → LogReader) : (d.modRdr f).ports = d.ports := rfl
@[simp] theorem Dev.modRdr_pairs (d : Dev) (f : LogReader → LogReader) : (d.modRdr f).pairs = d.pairs := rfl
@[simp] theorem Dev.modRdr_keys (d : Dev) (f : LogReader → LogReader) : (d.modRdr f).keys = d.keys := rfl
@[simp] theorem Dev.modRdr_ing (d : Dev) (f : LogReader → LogReader) : (d.modRdr f).ing = d.ing := rfl
@[simp] theorem Dev.modRdr_aln (d : Dev) (f : LogReader → LogReader) : (d.modRdr f).aln = d.aln := rfl
@[simp] theorem Dev.modRdr_adc (d : Dev) (f : LogReader → LogReader) : (d.modRdr f).adc = d.adc := rfl
@[simp] theorem Dev.modRdr_flt (d : Dev) (f : LogReader → LogReader) : (d.modRdr f).flt = d.flt := rfl
@[simp] theorem Dev.modRdr_dsp (d : Dev) (f : LogReader → LogReader) : (d.modRdr f).dsp = d.dsp := rfl
@[simp] theorem Dev.modRdr_dxl (d : Dev) (f : LogReader → LogReader) : (d.modRdr f).dxl = d.dxl := rfl
@[simp] theorem Dev.modRdr_cap (d : Dev) (f : LogReader → LogReader) : (d.modRdr f).cap = d.cap := rfl
@[simp] theorem Dev.modRdr_rul (d : Dev) (f : LogReader → LogReader) : (d.modRdr f).rul = d.rul := rfl
@[simp] theorem Dev.modRdr_mdl (d : Dev) (f : LogReader → LogReader) : (d.modRdr f).mdl = d.mdl := rfl
@[simp] theorem Dev.modRdr_free (d : Dev) (f : LogReader → LogReader) : (d.modRdr f).free = d.free := rfl
@[simp] theorem Dev.modRdr_getN (d : Dev) (f : LogReader → LogReader) (g : Field) (k : Nat) :
    (d.modRdr f).getN g k = d.getN g k := rfl
@[simp] theorem Dev.modRdr_onN (d : Dev) (f : LogReader → LogReader) (g : Field) (k : Nat) :
    (d.modRdr f).onN g k = d.onN g k := rfl
@[simp] theorem Dev.modRdr_get (d : Dev) (f : LogReader → LogReader) (g : Field) : (d.modRdr f).get g = d.get g := rfl
@[simp] theorem Dev.modRdr_on (d : Dev) (f : LogReader → LogReader) (g : Field) : (d.modRdr f).on g = d.on g := rfl
@[simp] theorem Dev.modRdr_word (d : Dev) (f : LogReader → LogReader) (k : Nat) : (d.modRdr f).word k = d.word k := rfl

/-! ### modIng -/

@[simp] theorem Dev.modIng_regs (d : Dev) (f : Ing → Ing) : (d.modIng f).regs = d.regs := rfl
@[simp] theorem Dev.modIng_evs (d : Dev) (f : Ing → Ing) : (d.modIng f).evs = d.evs := rfl
@[simp] theorem Dev.modIng_paths (d : Dev) (f : Ing → Ing) : (d.modIng f).paths = d.paths := rfl
@[simp] theorem Dev.modIng_pwr (d : Dev) (f : Ing → Ing) : (d.modIng f).pwr = d.pwr := rfl
@[simp] theorem Dev.modIng_isl (d : Dev) (f : Ing → Ing) : (d.modIng f).isl = d.isl := rfl
@[simp] theorem Dev.modIng_tkp (d : Dev) (f : Ing → Ing) : (d.modIng f).tkp = d.tkp := rfl
@[simp] theorem Dev.modIng_hif (d : Dev) (f : Ing → Ing) : (d.modIng f).hif = d.hif := rfl
@[simp] theorem Dev.modIng_rdr (d : Dev) (f : Ing → Ing) : (d.modIng f).rdr = d.rdr := rfl
@[simp] theorem Dev.modIng_flush (d : Dev) (f : Ing → Ing) : (d.modIng f).flush = d.flush := rfl
@[simp] theorem Dev.modIng_lko (d : Dev) (f : Ing → Ing) : (d.modIng f).lko = d.lko := rfl
@[simp] theorem Dev.modIng_cmp (d : Dev) (f : Ing → Ing) : (d.modIng f).cmp = d.cmp := rfl
@[simp] theorem Dev.modIng_hmp (d : Dev) (f : Ing → Ing) : (d.modIng f).hmp = d.hmp := rfl
@[simp] theorem Dev.modIng_ports (d : Dev) (f : Ing → Ing) : (d.modIng f).ports = d.ports := rfl
@[simp] theorem Dev.modIng_pairs (d : Dev) (f : Ing → Ing) : (d.modIng f).pairs = d.pairs := rfl
@[simp] theorem Dev.modIng_keys (d : Dev) (f : Ing → Ing) : (d.modIng f).keys = d.keys := rfl
@[simp] theorem Dev.modIng_ing (d : Dev) (f : Ing → Ing) : (d.modIng f).ing = f d.ing := rfl
@[simp] theorem Dev.modIng_aln (d : Dev) (f : Ing → Ing) : (d.modIng f).aln = d.aln := rfl
@[simp] theorem Dev.modIng_adc (d : Dev) (f : Ing → Ing) : (d.modIng f).adc = d.adc := rfl
@[simp] theorem Dev.modIng_flt (d : Dev) (f : Ing → Ing) : (d.modIng f).flt = d.flt := rfl
@[simp] theorem Dev.modIng_dsp (d : Dev) (f : Ing → Ing) : (d.modIng f).dsp = d.dsp := rfl
@[simp] theorem Dev.modIng_dxl (d : Dev) (f : Ing → Ing) : (d.modIng f).dxl = d.dxl := rfl
@[simp] theorem Dev.modIng_cap (d : Dev) (f : Ing → Ing) : (d.modIng f).cap = d.cap := rfl
@[simp] theorem Dev.modIng_rul (d : Dev) (f : Ing → Ing) : (d.modIng f).rul = d.rul := rfl
@[simp] theorem Dev.modIng_mdl (d : Dev) (f : Ing → Ing) : (d.modIng f).mdl = d.mdl := rfl
@[simp] theorem Dev.modIng_free (d : Dev) (f : Ing → Ing) : (d.modIng f).free = d.free := rfl
@[simp] theorem Dev.modIng_getN (d : Dev) (f : Ing → Ing) (g : Field) (k : Nat) : (d.modIng f).getN g k = d.getN g k := rfl
@[simp] theorem Dev.modIng_onN (d : Dev) (f : Ing → Ing) (g : Field) (k : Nat) : (d.modIng f).onN g k = d.onN g k := rfl
@[simp] theorem Dev.modIng_get (d : Dev) (f : Ing → Ing) (g : Field) : (d.modIng f).get g = d.get g := rfl
@[simp] theorem Dev.modIng_on (d : Dev) (f : Ing → Ing) (g : Field) : (d.modIng f).on g = d.on g := rfl
@[simp] theorem Dev.modIng_word (d : Dev) (f : Ing → Ing) (k : Nat) : (d.modIng f).word k = d.word k := rfl

/-! ### modSrc -/

@[simp] theorem Dev.modSrc_regs (d : Dev) (n : Nat) (f : SrcSt → SrcSt) : (d.modSrc n f).regs = d.regs := rfl
@[simp] theorem Dev.modSrc_evs (d : Dev) (n : Nat) (f : SrcSt → SrcSt) : (d.modSrc n f).evs = d.evs := rfl
@[simp] theorem Dev.modSrc_paths (d : Dev) (n : Nat) (f : SrcSt → SrcSt) : (d.modSrc n f).paths = d.paths := rfl
@[simp] theorem Dev.modSrc_pwr (d : Dev) (n : Nat) (f : SrcSt → SrcSt) : (d.modSrc n f).pwr = d.pwr := rfl
@[simp] theorem Dev.modSrc_isl (d : Dev) (n : Nat) (f : SrcSt → SrcSt) : (d.modSrc n f).isl = d.isl := rfl
@[simp] theorem Dev.modSrc_tkp (d : Dev) (n : Nat) (f : SrcSt → SrcSt) : (d.modSrc n f).tkp = d.tkp := rfl
@[simp] theorem Dev.modSrc_hif (d : Dev) (n : Nat) (f : SrcSt → SrcSt) : (d.modSrc n f).hif = d.hif := rfl
@[simp] theorem Dev.modSrc_rdr (d : Dev) (n : Nat) (f : SrcSt → SrcSt) : (d.modSrc n f).rdr = d.rdr := rfl
@[simp] theorem Dev.modSrc_flush (d : Dev) (n : Nat) (f : SrcSt → SrcSt) : (d.modSrc n f).flush = d.flush := rfl
@[simp] theorem Dev.modSrc_lko (d : Dev) (n : Nat) (f : SrcSt → SrcSt) : (d.modSrc n f).lko = d.lko := rfl
@[simp] theorem Dev.modSrc_cmp (d : Dev) (n : Nat) (f : SrcSt → SrcSt) : (d.modSrc n f).cmp = d.cmp := rfl
@[simp] theorem Dev.modSrc_hmp (d : Dev) (n : Nat) (f : SrcSt → SrcSt) : (d.modSrc n f).hmp = d.hmp := rfl
@[simp] theorem Dev.modSrc_ports (d : Dev) (n : Nat) (f : SrcSt → SrcSt) : (d.modSrc n f).ports = d.ports := rfl
@[simp] theorem Dev.modSrc_pairs (d : Dev) (n : Nat) (f : SrcSt → SrcSt) : (d.modSrc n f).pairs = d.pairs := rfl
@[simp] theorem Dev.modSrc_keys (d : Dev) (n : Nat) (f : SrcSt → SrcSt) : (d.modSrc n f).keys = d.keys := rfl
@[simp] theorem Dev.modSrc_aln (d : Dev) (n : Nat) (f : SrcSt → SrcSt) : (d.modSrc n f).aln = d.aln := rfl
@[simp] theorem Dev.modSrc_adc (d : Dev) (n : Nat) (f : SrcSt → SrcSt) : (d.modSrc n f).adc = d.adc := rfl
@[simp] theorem Dev.modSrc_flt (d : Dev) (n : Nat) (f : SrcSt → SrcSt) : (d.modSrc n f).flt = d.flt := rfl
@[simp] theorem Dev.modSrc_dsp (d : Dev) (n : Nat) (f : SrcSt → SrcSt) : (d.modSrc n f).dsp = d.dsp := rfl
@[simp] theorem Dev.modSrc_dxl (d : Dev) (n : Nat) (f : SrcSt → SrcSt) : (d.modSrc n f).dxl = d.dxl := rfl
@[simp] theorem Dev.modSrc_cap (d : Dev) (n : Nat) (f : SrcSt → SrcSt) : (d.modSrc n f).cap = d.cap := rfl
@[simp] theorem Dev.modSrc_rul (d : Dev) (n : Nat) (f : SrcSt → SrcSt) : (d.modSrc n f).rul = d.rul := rfl
@[simp] theorem Dev.modSrc_mdl (d : Dev) (n : Nat) (f : SrcSt → SrcSt) : (d.modSrc n f).mdl = d.mdl := rfl
@[simp] theorem Dev.modSrc_free (d : Dev) (n : Nat) (f : SrcSt → SrcSt) : (d.modSrc n f).free = d.free := rfl
@[simp] theorem Dev.modSrc_getN (d : Dev) (n : Nat) (f : SrcSt → SrcSt) (g : Field) (k : Nat) :
    (d.modSrc n f).getN g k = d.getN g k := rfl
@[simp] theorem Dev.modSrc_onN (d : Dev) (n : Nat) (f : SrcSt → SrcSt) (g : Field) (k : Nat) :
    (d.modSrc n f).onN g k = d.onN g k := rfl
@[simp] theorem Dev.modSrc_get (d : Dev) (n : Nat) (f : SrcSt → SrcSt) (g : Field) : (d.modSrc n f).get g = d.get g := rfl
@[simp] theorem Dev.modSrc_on (d : Dev) (n : Nat) (f : SrcSt → SrcSt) (g : Field) : (d.modSrc n f).on g = d.on g := rfl
@[simp] theorem Dev.modSrc_word (d : Dev) (n : Nat) (f : SrcSt → SrcSt) (k : Nat) : (d.modSrc n f).word k = d.word k := rfl

/-! ### modAln -/

@[simp] theorem Dev.modAln_regs (d : Dev) (f : Aln → Aln) : (d.modAln f).regs = d.regs := rfl
@[simp] theorem Dev.modAln_evs (d : Dev) (f : Aln → Aln) : (d.modAln f).evs = d.evs := rfl
@[simp] theorem Dev.modAln_paths (d : Dev) (f : Aln → Aln) : (d.modAln f).paths = d.paths := rfl
@[simp] theorem Dev.modAln_pwr (d : Dev) (f : Aln → Aln) : (d.modAln f).pwr = d.pwr := rfl
@[simp] theorem Dev.modAln_isl (d : Dev) (f : Aln → Aln) : (d.modAln f).isl = d.isl := rfl
@[simp] theorem Dev.modAln_tkp (d : Dev) (f : Aln → Aln) : (d.modAln f).tkp = d.tkp := rfl
@[simp] theorem Dev.modAln_hif (d : Dev) (f : Aln → Aln) : (d.modAln f).hif = d.hif := rfl
@[simp] theorem Dev.modAln_rdr (d : Dev) (f : Aln → Aln) : (d.modAln f).rdr = d.rdr := rfl
@[simp] theorem Dev.modAln_flush (d : Dev) (f : Aln → Aln) : (d.modAln f).flush = d.flush := rfl
@[simp] theorem Dev.modAln_lko (d : Dev) (f : Aln → Aln) : (d.modAln f).lko = d.lko := rfl
@[simp] theorem Dev.modAln_cmp (d : Dev) (f : Aln → Aln) : (d.modAln f).cmp = d.cmp := rfl
@[simp] theorem Dev.modAln_hmp (d : Dev) (f : Aln → Aln) : (d.modAln f).hmp = d.hmp := rfl
@[simp] theorem Dev.modAln_ports (d : Dev) (f : Aln → Aln) : (d.modAln f).ports = d.ports := rfl
@[simp] theorem Dev.modAln_pairs (d : Dev) (f : Aln → Aln) : (d.modAln f).pairs = d.pairs := rfl
@[simp] theorem Dev.modAln_keys (d : Dev) (f : Aln → Aln) : (d.modAln f).keys = d.keys := rfl
@[simp] theorem Dev.modAln_ing (d : Dev) (f : Aln → Aln) : (d.modAln f).ing = d.ing := rfl
@[simp] theorem Dev.modAln_aln (d : Dev) (f : Aln → Aln) : (d.modAln f).aln = f d.aln := rfl
@[simp] theorem Dev.modAln_adc (d : Dev) (f : Aln → Aln) : (d.modAln f).adc = d.adc := rfl
@[simp] theorem Dev.modAln_flt (d : Dev) (f : Aln → Aln) : (d.modAln f).flt = d.flt := rfl
@[simp] theorem Dev.modAln_dsp (d : Dev) (f : Aln → Aln) : (d.modAln f).dsp = d.dsp := rfl
@[simp] theorem Dev.modAln_dxl (d : Dev) (f : Aln → Aln) : (d.modAln f).dxl = d.dxl := rfl
@[simp] theorem Dev.modAln_cap (d : Dev) (f : Aln → Aln) : (d.modAln f).cap = d.cap := rfl
@[simp] theorem Dev.modAln_rul (d : Dev) (f : Aln → Aln) : (d.modAln f).rul = d.rul := rfl
@[simp] theorem Dev.modAln_mdl (d : Dev) (f : Aln → Aln) : (d.modAln f).mdl = d.mdl := rfl
@[simp] theorem Dev.modAln_free (d : Dev) (f : Aln → Aln) : (d.modAln f).free = d.free := rfl
@[simp] theorem Dev.modAln_getN (d : Dev) (f : Aln → Aln) (g : Field) (k : Nat) : (d.modAln f).getN g k = d.getN g k := rfl
@[simp] theorem Dev.modAln_onN (d : Dev) (f : Aln → Aln) (g : Field) (k : Nat) : (d.modAln f).onN g k = d.onN g k := rfl
@[simp] theorem Dev.modAln_get (d : Dev) (f : Aln → Aln) (g : Field) : (d.modAln f).get g = d.get g := rfl
@[simp] theorem Dev.modAln_on (d : Dev) (f : Aln → Aln) (g : Field) : (d.modAln f).on g = d.on g := rfl
@[simp] theorem Dev.modAln_word (d : Dev) (f : Aln → Aln) (k : Nat) : (d.modAln f).word k = d.word k := rfl

/-! ### modCv -/

@[simp] theorem Dev.modCv_regs (d : Dev) (n : Nat) (f : Cv → Cv) : (d.modCv n f).regs = d.regs := rfl
@[simp] theorem Dev.modCv_evs (d : Dev) (n : Nat) (f : Cv → Cv) : (d.modCv n f).evs = d.evs := rfl
@[simp] theorem Dev.modCv_paths (d : Dev) (n : Nat) (f : Cv → Cv) : (d.modCv n f).paths = d.paths := rfl
@[simp] theorem Dev.modCv_pwr (d : Dev) (n : Nat) (f : Cv → Cv) : (d.modCv n f).pwr = d.pwr := rfl
@[simp] theorem Dev.modCv_isl (d : Dev) (n : Nat) (f : Cv → Cv) : (d.modCv n f).isl = d.isl := rfl
@[simp] theorem Dev.modCv_tkp (d : Dev) (n : Nat) (f : Cv → Cv) : (d.modCv n f).tkp = d.tkp := rfl
@[simp] theorem Dev.modCv_hif (d : Dev) (n : Nat) (f : Cv → Cv) : (d.modCv n f).hif = d.hif := rfl
@[simp] theorem Dev.modCv_rdr (d : Dev) (n : Nat) (f : Cv → Cv) : (d.modCv n f).rdr = d.rdr := rfl
@[simp] theorem Dev.modCv_flush (d : Dev) (n : Nat) (f : Cv → Cv) : (d.modCv n f).flush = d.flush := rfl
@[simp] theorem Dev.modCv_lko (d : Dev) (n : Nat) (f : Cv → Cv) : (d.modCv n f).lko = d.lko := rfl
@[simp] theorem Dev.modCv_cmp (d : Dev) (n : Nat) (f : Cv → Cv) : (d.modCv n f).cmp = d.cmp := rfl
@[simp] theorem Dev.modCv_hmp (d : Dev) (n : Nat) (f : Cv → Cv) : (d.modCv n f).hmp = d.hmp := rfl
@[simp] theorem Dev.modCv_ports (d : Dev) (n : Nat) (f : Cv → Cv) : (d.modCv n f).ports = d.ports := rfl
@[simp] theorem Dev.modCv_pairs (d : Dev) (n : Nat) (f : Cv → Cv) : (d.modCv n f).pairs = d.pairs := rfl
@[simp] theorem Dev.modCv_keys (d : Dev) (n : Nat) (f : Cv → Cv) : (d.modCv n f).keys = d.keys := rfl
@[simp] theorem Dev.modCv_ing (d : Dev) (n : Nat) (f : Cv → Cv) : (d.modCv n f).ing = d.ing := rfl
@[simp] theorem Dev.modCv_aln (d : Dev) (n : Nat) (f : Cv → Cv) : (d.modCv n f).aln = d.aln := rfl
@[simp] theorem Dev.modCv_flt (d : Dev) (n : Nat) (f : Cv → Cv) : (d.modCv n f).flt = d.flt := rfl
@[simp] theorem Dev.modCv_dsp (d : Dev) (n : Nat) (f : Cv → Cv) : (d.modCv n f).dsp = d.dsp := rfl
@[simp] theorem Dev.modCv_dxl (d : Dev) (n : Nat) (f : Cv → Cv) : (d.modCv n f).dxl = d.dxl := rfl
@[simp] theorem Dev.modCv_cap (d : Dev) (n : Nat) (f : Cv → Cv) : (d.modCv n f).cap = d.cap := rfl
@[simp] theorem Dev.modCv_rul (d : Dev) (n : Nat) (f : Cv → Cv) : (d.modCv n f).rul = d.rul := rfl
@[simp] theorem Dev.modCv_mdl (d : Dev) (n : Nat) (f : Cv → Cv) : (d.modCv n f).mdl = d.mdl := rfl
@[simp] theorem Dev.modCv_free (d : Dev) (n : Nat) (f : Cv → Cv) : (d.modCv n f).free = d.free := rfl
@[simp] theorem Dev.modCv_getN (d : Dev) (n : Nat) (f : Cv → Cv) (g : Field) (k : Nat) :
    (d.modCv n f).getN g k = d.getN g k := rfl
@[simp] theorem Dev.modCv_onN (d : Dev) (n : Nat) (f : Cv → Cv) (g : Field) (k : Nat) : (d.modCv n f).onN g k = d.onN g k := rfl
@[simp] theorem Dev.modCv_get (d : Dev) (n : Nat) (f : Cv → Cv) (g : Field) : (d.modCv n f).get g = d.get g := rfl
@[simp] theorem Dev.modCv_on (d : Dev) (n : Nat) (f : Cv → Cv) (g : Field) : (d.modCv n f).on g = d.on g := rfl
@[simp] theorem Dev.modCv_word (d : Dev) (n : Nat) (f : Cv → Cv) (k : Nat) : (d.modCv n f).word k = d.word k := rfl
@[simp] theorem Dev.modCv_cv (d : Dev) (n : Nat) (f : Cv → Cv) : (d.modCv n f).cv n = f (d.cv n) := by simp [Dev.cv, Dev.modCv]
theorem Dev.modCv_cv_other (d : Dev) (n : Nat) (f : Cv → Cv) {m : Nat} (h : m ≠ n) : (d.modCv n f).cv m = d.cv m := by
  simp [Dev.cv, Dev.modCv, tget_tmod, h]

/-! ### modLane -/

@[simp] theorem Dev.modLane_regs (d : Dev) (n : Nat) (f : LaneSt → LaneSt) : (d.modLane n f).regs = d.regs := rfl
@[simp] theorem Dev.modLane_evs (d : Dev) (n : Nat) (f : LaneSt → LaneSt) : (d.modLane n f).evs = d.evs := rfl
@[simp] theorem Dev.modLane_paths (d : Dev) (n : Nat) (f : LaneSt → LaneSt) : (d.modLane n f).paths = d.paths := rfl
@[simp] theorem Dev.modLane_pwr (d : Dev) (n : Nat) (f : LaneSt → LaneSt) : (d.modLane n f).pwr = d.pwr := rfl
@[simp] theorem Dev.modLane_isl (d : Dev) (n : Nat) (f : LaneSt → LaneSt) : (d.modLane n f).isl = d.isl := rfl
@[simp] theorem Dev.modLane_tkp (d : Dev) (n : Nat) (f : LaneSt → LaneSt) : (d.modLane n f).tkp = d.tkp := rfl
@[simp] theorem Dev.modLane_hif (d : Dev) (n : Nat) (f : LaneSt → LaneSt) : (d.modLane n f).hif = d.hif := rfl
@[simp] theorem Dev.modLane_rdr (d : Dev) (n : Nat) (f : LaneSt → LaneSt) : (d.modLane n f).rdr = d.rdr := rfl
@[simp] theorem Dev.modLane_flush (d : Dev) (n : Nat) (f : LaneSt → LaneSt) : (d.modLane n f).flush = d.flush := rfl
@[simp] theorem Dev.modLane_lko (d : Dev) (n : Nat) (f : LaneSt → LaneSt) : (d.modLane n f).lko = d.lko := rfl
@[simp] theorem Dev.modLane_cmp (d : Dev) (n : Nat) (f : LaneSt → LaneSt) : (d.modLane n f).cmp = d.cmp := rfl
@[simp] theorem Dev.modLane_hmp (d : Dev) (n : Nat) (f : LaneSt → LaneSt) : (d.modLane n f).hmp = d.hmp := rfl
@[simp] theorem Dev.modLane_ports (d : Dev) (n : Nat) (f : LaneSt → LaneSt) : (d.modLane n f).ports = d.ports := rfl
@[simp] theorem Dev.modLane_pairs (d : Dev) (n : Nat) (f : LaneSt → LaneSt) : (d.modLane n f).pairs = d.pairs := rfl
@[simp] theorem Dev.modLane_keys (d : Dev) (n : Nat) (f : LaneSt → LaneSt) : (d.modLane n f).keys = d.keys := rfl
@[simp] theorem Dev.modLane_ing (d : Dev) (n : Nat) (f : LaneSt → LaneSt) : (d.modLane n f).ing = d.ing := rfl
@[simp] theorem Dev.modLane_aln (d : Dev) (n : Nat) (f : LaneSt → LaneSt) : (d.modLane n f).aln = d.aln := rfl
@[simp] theorem Dev.modLane_adc (d : Dev) (n : Nat) (f : LaneSt → LaneSt) : (d.modLane n f).adc = d.adc := rfl
@[simp] theorem Dev.modLane_dsp (d : Dev) (n : Nat) (f : LaneSt → LaneSt) : (d.modLane n f).dsp = d.dsp := rfl
@[simp] theorem Dev.modLane_dxl (d : Dev) (n : Nat) (f : LaneSt → LaneSt) : (d.modLane n f).dxl = d.dxl := rfl
@[simp] theorem Dev.modLane_cap (d : Dev) (n : Nat) (f : LaneSt → LaneSt) : (d.modLane n f).cap = d.cap := rfl
@[simp] theorem Dev.modLane_rul (d : Dev) (n : Nat) (f : LaneSt → LaneSt) : (d.modLane n f).rul = d.rul := rfl
@[simp] theorem Dev.modLane_mdl (d : Dev) (n : Nat) (f : LaneSt → LaneSt) : (d.modLane n f).mdl = d.mdl := rfl
@[simp] theorem Dev.modLane_free (d : Dev) (n : Nat) (f : LaneSt → LaneSt) : (d.modLane n f).free = d.free := rfl
@[simp] theorem Dev.modLane_getN (d : Dev) (n : Nat) (f : LaneSt → LaneSt) (g : Field) (k : Nat) :
    (d.modLane n f).getN g k = d.getN g k := rfl
@[simp] theorem Dev.modLane_onN (d : Dev) (n : Nat) (f : LaneSt → LaneSt) (g : Field) (k : Nat) :
    (d.modLane n f).onN g k = d.onN g k := rfl
@[simp] theorem Dev.modLane_get (d : Dev) (n : Nat) (f : LaneSt → LaneSt) (g : Field) : (d.modLane n f).get g = d.get g := rfl
@[simp] theorem Dev.modLane_on (d : Dev) (n : Nat) (f : LaneSt → LaneSt) (g : Field) : (d.modLane n f).on g = d.on g := rfl
@[simp] theorem Dev.modLane_word (d : Dev) (n : Nat) (f : LaneSt → LaneSt) (k : Nat) : (d.modLane n f).word k = d.word k := rfl
@[simp] theorem Dev.modLane_lane (d : Dev) (n : Nat) (f : LaneSt → LaneSt) :
    (d.modLane n f).lane n = f (d.lane n) := by simp [Dev.lane, Dev.modLane]
theorem Dev.modLane_lane_other (d : Dev) (n : Nat) (f : LaneSt → LaneSt) {m : Nat} (h : m ≠ n) :
    (d.modLane n f).lane m = d.lane m := by
  simp [Dev.lane, Dev.modLane, tget_tmod, h]

/-! ### modGroup -/

@[simp] theorem Dev.modGroup_regs (d : Dev) (n : Nat) (f : GroupSt → GroupSt) : (d.modGroup n f).regs = d.regs := rfl
@[simp] theorem Dev.modGroup_evs (d : Dev) (n : Nat) (f : GroupSt → GroupSt) : (d.modGroup n f).evs = d.evs := rfl
@[simp] theorem Dev.modGroup_paths (d : Dev) (n : Nat) (f : GroupSt → GroupSt) : (d.modGroup n f).paths = d.paths := rfl
@[simp] theorem Dev.modGroup_pwr (d : Dev) (n : Nat) (f : GroupSt → GroupSt) : (d.modGroup n f).pwr = d.pwr := rfl
@[simp] theorem Dev.modGroup_isl (d : Dev) (n : Nat) (f : GroupSt → GroupSt) : (d.modGroup n f).isl = d.isl := rfl
@[simp] theorem Dev.modGroup_tkp (d : Dev) (n : Nat) (f : GroupSt → GroupSt) : (d.modGroup n f).tkp = d.tkp := rfl
@[simp] theorem Dev.modGroup_hif (d : Dev) (n : Nat) (f : GroupSt → GroupSt) : (d.modGroup n f).hif = d.hif := rfl
@[simp] theorem Dev.modGroup_rdr (d : Dev) (n : Nat) (f : GroupSt → GroupSt) : (d.modGroup n f).rdr = d.rdr := rfl
@[simp] theorem Dev.modGroup_flush (d : Dev) (n : Nat) (f : GroupSt → GroupSt) : (d.modGroup n f).flush = d.flush := rfl
@[simp] theorem Dev.modGroup_lko (d : Dev) (n : Nat) (f : GroupSt → GroupSt) : (d.modGroup n f).lko = d.lko := rfl
@[simp] theorem Dev.modGroup_cmp (d : Dev) (n : Nat) (f : GroupSt → GroupSt) : (d.modGroup n f).cmp = d.cmp := rfl
@[simp] theorem Dev.modGroup_hmp (d : Dev) (n : Nat) (f : GroupSt → GroupSt) : (d.modGroup n f).hmp = d.hmp := rfl
@[simp] theorem Dev.modGroup_ports (d : Dev) (n : Nat) (f : GroupSt → GroupSt) : (d.modGroup n f).ports = d.ports := rfl
@[simp] theorem Dev.modGroup_pairs (d : Dev) (n : Nat) (f : GroupSt → GroupSt) : (d.modGroup n f).pairs = d.pairs := rfl
@[simp] theorem Dev.modGroup_keys (d : Dev) (n : Nat) (f : GroupSt → GroupSt) : (d.modGroup n f).keys = d.keys := rfl
@[simp] theorem Dev.modGroup_ing (d : Dev) (n : Nat) (f : GroupSt → GroupSt) : (d.modGroup n f).ing = d.ing := rfl
@[simp] theorem Dev.modGroup_aln (d : Dev) (n : Nat) (f : GroupSt → GroupSt) : (d.modGroup n f).aln = d.aln := rfl
@[simp] theorem Dev.modGroup_adc (d : Dev) (n : Nat) (f : GroupSt → GroupSt) : (d.modGroup n f).adc = d.adc := rfl
@[simp] theorem Dev.modGroup_dsp (d : Dev) (n : Nat) (f : GroupSt → GroupSt) : (d.modGroup n f).dsp = d.dsp := rfl
@[simp] theorem Dev.modGroup_dxl (d : Dev) (n : Nat) (f : GroupSt → GroupSt) : (d.modGroup n f).dxl = d.dxl := rfl
@[simp] theorem Dev.modGroup_cap (d : Dev) (n : Nat) (f : GroupSt → GroupSt) : (d.modGroup n f).cap = d.cap := rfl
@[simp] theorem Dev.modGroup_rul (d : Dev) (n : Nat) (f : GroupSt → GroupSt) : (d.modGroup n f).rul = d.rul := rfl
@[simp] theorem Dev.modGroup_mdl (d : Dev) (n : Nat) (f : GroupSt → GroupSt) : (d.modGroup n f).mdl = d.mdl := rfl
@[simp] theorem Dev.modGroup_free (d : Dev) (n : Nat) (f : GroupSt → GroupSt) : (d.modGroup n f).free = d.free := rfl
@[simp] theorem Dev.modGroup_getN (d : Dev) (n : Nat) (f : GroupSt → GroupSt) (g : Field) (k : Nat) :
    (d.modGroup n f).getN g k = d.getN g k := rfl
@[simp] theorem Dev.modGroup_onN (d : Dev) (n : Nat) (f : GroupSt → GroupSt) (g : Field) (k : Nat) :
    (d.modGroup n f).onN g k = d.onN g k := rfl
@[simp] theorem Dev.modGroup_get (d : Dev) (n : Nat) (f : GroupSt → GroupSt) (g : Field) :
    (d.modGroup n f).get g = d.get g := rfl
@[simp] theorem Dev.modGroup_on (d : Dev) (n : Nat) (f : GroupSt → GroupSt) (g : Field) : (d.modGroup n f).on g = d.on g := rfl
@[simp] theorem Dev.modGroup_word (d : Dev) (n : Nat) (f : GroupSt → GroupSt) (k : Nat) :
    (d.modGroup n f).word k = d.word k := rfl

/-! ### modDsp -/

@[simp] theorem Dev.modDsp_regs (d : Dev) (f : Dsp → Dsp) : (d.modDsp f).regs = d.regs := rfl
@[simp] theorem Dev.modDsp_evs (d : Dev) (f : Dsp → Dsp) : (d.modDsp f).evs = d.evs := rfl
@[simp] theorem Dev.modDsp_paths (d : Dev) (f : Dsp → Dsp) : (d.modDsp f).paths = d.paths := rfl
@[simp] theorem Dev.modDsp_pwr (d : Dev) (f : Dsp → Dsp) : (d.modDsp f).pwr = d.pwr := rfl
@[simp] theorem Dev.modDsp_isl (d : Dev) (f : Dsp → Dsp) : (d.modDsp f).isl = d.isl := rfl
@[simp] theorem Dev.modDsp_tkp (d : Dev) (f : Dsp → Dsp) : (d.modDsp f).tkp = d.tkp := rfl
@[simp] theorem Dev.modDsp_hif (d : Dev) (f : Dsp → Dsp) : (d.modDsp f).hif = d.hif := rfl
@[simp] theorem Dev.modDsp_rdr (d : Dev) (f : Dsp → Dsp) : (d.modDsp f).rdr = d.rdr := rfl
@[simp] theorem Dev.modDsp_flush (d : Dev) (f : Dsp → Dsp) : (d.modDsp f).flush = d.flush := rfl
@[simp] theorem Dev.modDsp_lko (d : Dev) (f : Dsp → Dsp) : (d.modDsp f).lko = d.lko := rfl
@[simp] theorem Dev.modDsp_cmp (d : Dev) (f : Dsp → Dsp) : (d.modDsp f).cmp = d.cmp := rfl
@[simp] theorem Dev.modDsp_hmp (d : Dev) (f : Dsp → Dsp) : (d.modDsp f).hmp = d.hmp := rfl
@[simp] theorem Dev.modDsp_ports (d : Dev) (f : Dsp → Dsp) : (d.modDsp f).ports = d.ports := rfl
@[simp] theorem Dev.modDsp_pairs (d : Dev) (f : Dsp → Dsp) : (d.modDsp f).pairs = d.pairs := rfl
@[simp] theorem Dev.modDsp_keys (d : Dev) (f : Dsp → Dsp) : (d.modDsp f).keys = d.keys := rfl
@[simp] theorem Dev.modDsp_ing (d : Dev) (f : Dsp → Dsp) : (d.modDsp f).ing = d.ing := rfl
@[simp] theorem Dev.modDsp_aln (d : Dev) (f : Dsp → Dsp) : (d.modDsp f).aln = d.aln := rfl
@[simp] theorem Dev.modDsp_adc (d : Dev) (f : Dsp → Dsp) : (d.modDsp f).adc = d.adc := rfl
@[simp] theorem Dev.modDsp_flt (d : Dev) (f : Dsp → Dsp) : (d.modDsp f).flt = d.flt := rfl
@[simp] theorem Dev.modDsp_dsp (d : Dev) (f : Dsp → Dsp) : (d.modDsp f).dsp = f d.dsp := rfl
@[simp] theorem Dev.modDsp_dxl (d : Dev) (f : Dsp → Dsp) : (d.modDsp f).dxl = d.dxl := rfl
@[simp] theorem Dev.modDsp_cap (d : Dev) (f : Dsp → Dsp) : (d.modDsp f).cap = d.cap := rfl
@[simp] theorem Dev.modDsp_rul (d : Dev) (f : Dsp → Dsp) : (d.modDsp f).rul = d.rul := rfl
@[simp] theorem Dev.modDsp_mdl (d : Dev) (f : Dsp → Dsp) : (d.modDsp f).mdl = d.mdl := rfl
@[simp] theorem Dev.modDsp_free (d : Dev) (f : Dsp → Dsp) : (d.modDsp f).free = d.free := rfl
@[simp] theorem Dev.modDsp_getN (d : Dev) (f : Dsp → Dsp) (g : Field) (k : Nat) : (d.modDsp f).getN g k = d.getN g k := rfl
@[simp] theorem Dev.modDsp_onN (d : Dev) (f : Dsp → Dsp) (g : Field) (k : Nat) : (d.modDsp f).onN g k = d.onN g k := rfl
@[simp] theorem Dev.modDsp_get (d : Dev) (f : Dsp → Dsp) (g : Field) : (d.modDsp f).get g = d.get g := rfl
@[simp] theorem Dev.modDsp_on (d : Dev) (f : Dsp → Dsp) (g : Field) : (d.modDsp f).on g = d.on g := rfl
@[simp] theorem Dev.modDsp_word (d : Dev) (f : Dsp → Dsp) (k : Nat) : (d.modDsp f).word k = d.word k := rfl

/-! ### modDxl -/

@[simp] theorem Dev.modDxl_regs (d : Dev) (f : Dxl → Dxl) : (d.modDxl f).regs = d.regs := rfl
@[simp] theorem Dev.modDxl_evs (d : Dev) (f : Dxl → Dxl) : (d.modDxl f).evs = d.evs := rfl
@[simp] theorem Dev.modDxl_paths (d : Dev) (f : Dxl → Dxl) : (d.modDxl f).paths = d.paths := rfl
@[simp] theorem Dev.modDxl_pwr (d : Dev) (f : Dxl → Dxl) : (d.modDxl f).pwr = d.pwr := rfl
@[simp] theorem Dev.modDxl_isl (d : Dev) (f : Dxl → Dxl) : (d.modDxl f).isl = d.isl := rfl
@[simp] theorem Dev.modDxl_tkp (d : Dev) (f : Dxl → Dxl) : (d.modDxl f).tkp = d.tkp := rfl
@[simp] theorem Dev.modDxl_hif (d : Dev) (f : Dxl → Dxl) : (d.modDxl f).hif = d.hif := rfl
@[simp] theorem Dev.modDxl_rdr (d : Dev) (f : Dxl → Dxl) : (d.modDxl f).rdr = d.rdr := rfl
@[simp] theorem Dev.modDxl_flush (d : Dev) (f : Dxl → Dxl) : (d.modDxl f).flush = d.flush := rfl
@[simp] theorem Dev.modDxl_lko (d : Dev) (f : Dxl → Dxl) : (d.modDxl f).lko = d.lko := rfl
@[simp] theorem Dev.modDxl_cmp (d : Dev) (f : Dxl → Dxl) : (d.modDxl f).cmp = d.cmp := rfl
@[simp] theorem Dev.modDxl_hmp (d : Dev) (f : Dxl → Dxl) : (d.modDxl f).hmp = d.hmp := rfl
@[simp] theorem Dev.modDxl_ports (d : Dev) (f : Dxl → Dxl) : (d.modDxl f).ports = d.ports := rfl
@[simp] theorem Dev.modDxl_pairs (d : Dev) (f : Dxl → Dxl) : (d.modDxl f).pairs = d.pairs := rfl
@[simp] theorem Dev.modDxl_keys (d : Dev) (f : Dxl → Dxl) : (d.modDxl f).keys = d.keys := rfl
@[simp] theorem Dev.modDxl_ing (d : Dev) (f : Dxl → Dxl) : (d.modDxl f).ing = d.ing := rfl
@[simp] theorem Dev.modDxl_aln (d : Dev) (f : Dxl → Dxl) : (d.modDxl f).aln = d.aln := rfl
@[simp] theorem Dev.modDxl_adc (d : Dev) (f : Dxl → Dxl) : (d.modDxl f).adc = d.adc := rfl
@[simp] theorem Dev.modDxl_flt (d : Dev) (f : Dxl → Dxl) : (d.modDxl f).flt = d.flt := rfl
@[simp] theorem Dev.modDxl_dsp (d : Dev) (f : Dxl → Dxl) : (d.modDxl f).dsp = d.dsp := rfl
@[simp] theorem Dev.modDxl_dxl (d : Dev) (f : Dxl → Dxl) : (d.modDxl f).dxl = f d.dxl := rfl
@[simp] theorem Dev.modDxl_cap (d : Dev) (f : Dxl → Dxl) : (d.modDxl f).cap = d.cap := rfl
@[simp] theorem Dev.modDxl_rul (d : Dev) (f : Dxl → Dxl) : (d.modDxl f).rul = d.rul := rfl
@[simp] theorem Dev.modDxl_mdl (d : Dev) (f : Dxl → Dxl) : (d.modDxl f).mdl = d.mdl := rfl
@[simp] theorem Dev.modDxl_free (d : Dev) (f : Dxl → Dxl) : (d.modDxl f).free = d.free := rfl
@[simp] theorem Dev.modDxl_getN (d : Dev) (f : Dxl → Dxl) (g : Field) (k : Nat) : (d.modDxl f).getN g k = d.getN g k := rfl
@[simp] theorem Dev.modDxl_onN (d : Dev) (f : Dxl → Dxl) (g : Field) (k : Nat) : (d.modDxl f).onN g k = d.onN g k := rfl
@[simp] theorem Dev.modDxl_get (d : Dev) (f : Dxl → Dxl) (g : Field) : (d.modDxl f).get g = d.get g := rfl
@[simp] theorem Dev.modDxl_on (d : Dev) (f : Dxl → Dxl) (g : Field) : (d.modDxl f).on g = d.on g := rfl
@[simp] theorem Dev.modDxl_word (d : Dev) (f : Dxl → Dxl) (k : Nat) : (d.modDxl f).word k = d.word k := rfl

/-! ### modLink -/

@[simp] theorem Dev.modLink_regs (d : Dev) (n : Nat) (f : DxLink → DxLink) : (d.modLink n f).regs = d.regs := rfl
@[simp] theorem Dev.modLink_evs (d : Dev) (n : Nat) (f : DxLink → DxLink) : (d.modLink n f).evs = d.evs := rfl
@[simp] theorem Dev.modLink_paths (d : Dev) (n : Nat) (f : DxLink → DxLink) : (d.modLink n f).paths = d.paths := rfl
@[simp] theorem Dev.modLink_pwr (d : Dev) (n : Nat) (f : DxLink → DxLink) : (d.modLink n f).pwr = d.pwr := rfl
@[simp] theorem Dev.modLink_isl (d : Dev) (n : Nat) (f : DxLink → DxLink) : (d.modLink n f).isl = d.isl := rfl
@[simp] theorem Dev.modLink_tkp (d : Dev) (n : Nat) (f : DxLink → DxLink) : (d.modLink n f).tkp = d.tkp := rfl
@[simp] theorem Dev.modLink_hif (d : Dev) (n : Nat) (f : DxLink → DxLink) : (d.modLink n f).hif = d.hif := rfl
@[simp] theorem Dev.modLink_rdr (d : Dev) (n : Nat) (f : DxLink → DxLink) : (d.modLink n f).rdr = d.rdr := rfl
@[simp] theorem Dev.modLink_flush (d : Dev) (n : Nat) (f : DxLink → DxLink) : (d.modLink n f).flush = d.flush := rfl
@[simp] theorem Dev.modLink_lko (d : Dev) (n : Nat) (f : DxLink → DxLink) : (d.modLink n f).lko = d.lko := rfl
@[simp] theorem Dev.modLink_cmp (d : Dev) (n : Nat) (f : DxLink → DxLink) : (d.modLink n f).cmp = d.cmp := rfl
@[simp] theorem Dev.modLink_hmp (d : Dev) (n : Nat) (f : DxLink → DxLink) : (d.modLink n f).hmp = d.hmp := rfl
@[simp] theorem Dev.modLink_ports (d : Dev) (n : Nat) (f : DxLink → DxLink) : (d.modLink n f).ports = d.ports := rfl
@[simp] theorem Dev.modLink_pairs (d : Dev) (n : Nat) (f : DxLink → DxLink) : (d.modLink n f).pairs = d.pairs := rfl
@[simp] theorem Dev.modLink_keys (d : Dev) (n : Nat) (f : DxLink → DxLink) : (d.modLink n f).keys = d.keys := rfl
@[simp] theorem Dev.modLink_ing (d : Dev) (n : Nat) (f : DxLink → DxLink) : (d.modLink n f).ing = d.ing := rfl
@[simp] theorem Dev.modLink_aln (d : Dev) (n : Nat) (f : DxLink → DxLink) : (d.modLink n f).aln = d.aln := rfl
@[simp] theorem Dev.modLink_adc (d : Dev) (n : Nat) (f : DxLink → DxLink) : (d.modLink n f).adc = d.adc := rfl
@[simp] theorem Dev.modLink_flt (d : Dev) (n : Nat) (f : DxLink → DxLink) : (d.modLink n f).flt = d.flt := rfl
@[simp] theorem Dev.modLink_dsp (d : Dev) (n : Nat) (f : DxLink → DxLink) : (d.modLink n f).dsp = d.dsp := rfl
@[simp] theorem Dev.modLink_cap (d : Dev) (n : Nat) (f : DxLink → DxLink) : (d.modLink n f).cap = d.cap := rfl
@[simp] theorem Dev.modLink_rul (d : Dev) (n : Nat) (f : DxLink → DxLink) : (d.modLink n f).rul = d.rul := rfl
@[simp] theorem Dev.modLink_mdl (d : Dev) (n : Nat) (f : DxLink → DxLink) : (d.modLink n f).mdl = d.mdl := rfl
@[simp] theorem Dev.modLink_free (d : Dev) (n : Nat) (f : DxLink → DxLink) : (d.modLink n f).free = d.free := rfl
@[simp] theorem Dev.modLink_getN (d : Dev) (n : Nat) (f : DxLink → DxLink) (g : Field) (k : Nat) :
    (d.modLink n f).getN g k = d.getN g k := rfl
@[simp] theorem Dev.modLink_onN (d : Dev) (n : Nat) (f : DxLink → DxLink) (g : Field) (k : Nat) :
    (d.modLink n f).onN g k = d.onN g k := rfl
@[simp] theorem Dev.modLink_get (d : Dev) (n : Nat) (f : DxLink → DxLink) (g : Field) : (d.modLink n f).get g = d.get g := rfl
@[simp] theorem Dev.modLink_on (d : Dev) (n : Nat) (f : DxLink → DxLink) (g : Field) : (d.modLink n f).on g = d.on g := rfl
@[simp] theorem Dev.modLink_word (d : Dev) (n : Nat) (f : DxLink → DxLink) (k : Nat) : (d.modLink n f).word k = d.word k := rfl
@[simp] theorem Dev.modLink_dlink (d : Dev) (n : Nat) (f : DxLink → DxLink) :
    (d.modLink n f).dlink n = f (d.dlink n) := by simp [Dev.dlink, Dev.modLink, Dev.modDxl]
theorem Dev.modLink_dlink_other (d : Dev) (n : Nat) (f : DxLink → DxLink) {m : Nat} (h : m ≠ n) :
    (d.modLink n f).dlink m = d.dlink m := by
  simp [Dev.dlink, Dev.modLink, Dev.modDxl, tget_tset, h]

/-! ### modCap -/

@[simp] theorem Dev.modCap_regs (d : Dev) (f : Cap → Cap) : (d.modCap f).regs = d.regs := rfl
@[simp] theorem Dev.modCap_evs (d : Dev) (f : Cap → Cap) : (d.modCap f).evs = d.evs := rfl
@[simp] theorem Dev.modCap_paths (d : Dev) (f : Cap → Cap) : (d.modCap f).paths = d.paths := rfl
@[simp] theorem Dev.modCap_pwr (d : Dev) (f : Cap → Cap) : (d.modCap f).pwr = d.pwr := rfl
@[simp] theorem Dev.modCap_isl (d : Dev) (f : Cap → Cap) : (d.modCap f).isl = d.isl := rfl
@[simp] theorem Dev.modCap_tkp (d : Dev) (f : Cap → Cap) : (d.modCap f).tkp = d.tkp := rfl
@[simp] theorem Dev.modCap_hif (d : Dev) (f : Cap → Cap) : (d.modCap f).hif = d.hif := rfl
@[simp] theorem Dev.modCap_rdr (d : Dev) (f : Cap → Cap) : (d.modCap f).rdr = d.rdr := rfl
@[simp] theorem Dev.modCap_flush (d : Dev) (f : Cap → Cap) : (d.modCap f).flush = d.flush := rfl
@[simp] theorem Dev.modCap_lko (d : Dev) (f : Cap → Cap) : (d.modCap f).lko = d.lko := rfl
@[simp] theorem Dev.modCap_cmp (d : Dev) (f : Cap → Cap) : (d.modCap f).cmp = d.cmp := rfl
@[simp] theorem Dev.modCap_hmp (d : Dev) (f : Cap → Cap) : (d.modCap f).hmp = d.hmp := rfl
@[simp] theorem Dev.modCap_ports (d : Dev) (f : Cap → Cap) : (d.modCap f).ports = d.ports := rfl
@[simp] theorem Dev.modCap_pairs (d : Dev) (f : Cap → Cap) : (d.modCap f).pairs = d.pairs := rfl
@[simp] theorem Dev.modCap_keys (d : Dev) (f : Cap → Cap) : (d.modCap f).keys = d.keys := rfl
@[simp] theorem Dev.modCap_ing (d : Dev) (f : Cap → Cap) : (d.modCap f).ing = d.ing := rfl
@[simp] theorem Dev.modCap_aln (d : Dev) (f : Cap → Cap) : (d.modCap f).aln = d.aln := rfl
@[simp] theorem Dev.modCap_adc (d : Dev) (f : Cap → Cap) : (d.modCap f).adc = d.adc := rfl
@[simp] theorem Dev.modCap_flt (d : Dev) (f : Cap → Cap) : (d.modCap f).flt = d.flt := rfl
@[simp] theorem Dev.modCap_dsp (d : Dev) (f : Cap → Cap) : (d.modCap f).dsp = d.dsp := rfl
@[simp] theorem Dev.modCap_dxl (d : Dev) (f : Cap → Cap) : (d.modCap f).dxl = d.dxl := rfl
@[simp] theorem Dev.modCap_cap (d : Dev) (f : Cap → Cap) : (d.modCap f).cap = f d.cap := rfl
@[simp] theorem Dev.modCap_rul (d : Dev) (f : Cap → Cap) : (d.modCap f).rul = d.rul := rfl
@[simp] theorem Dev.modCap_mdl (d : Dev) (f : Cap → Cap) : (d.modCap f).mdl = d.mdl := rfl
@[simp] theorem Dev.modCap_free (d : Dev) (f : Cap → Cap) : (d.modCap f).free = d.free := rfl
@[simp] theorem Dev.modCap_getN (d : Dev) (f : Cap → Cap) (g : Field) (k : Nat) : (d.modCap f).getN g k = d.getN g k := rfl
@[simp] theorem Dev.modCap_onN (d : Dev) (f : Cap → Cap) (g : Field) (k : Nat) : (d.modCap f).onN g k = d.onN g k := rfl
@[simp] theorem Dev.modCap_get (d : Dev) (f : Cap → Cap) (g : Field) : (d.modCap f).get g = d.get g := rfl
@[simp] theorem Dev.modCap_on (d : Dev) (f : Cap → Cap) (g : Field) : (d.modCap f).on g = d.on g := rfl
@[simp] theorem Dev.modCap_word (d : Dev) (f : Cap → Cap) (k : Nat) : (d.modCap f).word k = d.word k := rfl

/-! ### modEng -/

@[simp] theorem Dev.modEng_regs (d : Dev) (n : Nat) (f : CapEng → CapEng) : (d.modEng n f).regs = d.regs := rfl
@[simp] theorem Dev.modEng_evs (d : Dev) (n : Nat) (f : CapEng → CapEng) : (d.modEng n f).evs = d.evs := rfl
@[simp] theorem Dev.modEng_paths (d : Dev) (n : Nat) (f : CapEng → CapEng) : (d.modEng n f).paths = d.paths := rfl
@[simp] theorem Dev.modEng_pwr (d : Dev) (n : Nat) (f : CapEng → CapEng) : (d.modEng n f).pwr = d.pwr := rfl
@[simp] theorem Dev.modEng_isl (d : Dev) (n : Nat) (f : CapEng → CapEng) : (d.modEng n f).isl = d.isl := rfl
@[simp] theorem Dev.modEng_tkp (d : Dev) (n : Nat) (f : CapEng → CapEng) : (d.modEng n f).tkp = d.tkp := rfl
@[simp] theorem Dev.modEng_hif (d : Dev) (n : Nat) (f : CapEng → CapEng) : (d.modEng n f).hif = d.hif := rfl
@[simp] theorem Dev.modEng_rdr (d : Dev) (n : Nat) (f : CapEng → CapEng) : (d.modEng n f).rdr = d.rdr := rfl
@[simp] theorem Dev.modEng_flush (d : Dev) (n : Nat) (f : CapEng → CapEng) : (d.modEng n f).flush = d.flush := rfl
@[simp] theorem Dev.modEng_lko (d : Dev) (n : Nat) (f : CapEng → CapEng) : (d.modEng n f).lko = d.lko := rfl
@[simp] theorem Dev.modEng_cmp (d : Dev) (n : Nat) (f : CapEng → CapEng) : (d.modEng n f).cmp = d.cmp := rfl
@[simp] theorem Dev.modEng_hmp (d : Dev) (n : Nat) (f : CapEng → CapEng) : (d.modEng n f).hmp = d.hmp := rfl
@[simp] theorem Dev.modEng_ports (d : Dev) (n : Nat) (f : CapEng → CapEng) : (d.modEng n f).ports = d.ports := rfl
@[simp] theorem Dev.modEng_pairs (d : Dev) (n : Nat) (f : CapEng → CapEng) : (d.modEng n f).pairs = d.pairs := rfl
@[simp] theorem Dev.modEng_keys (d : Dev) (n : Nat) (f : CapEng → CapEng) : (d.modEng n f).keys = d.keys := rfl
@[simp] theorem Dev.modEng_ing (d : Dev) (n : Nat) (f : CapEng → CapEng) : (d.modEng n f).ing = d.ing := rfl
@[simp] theorem Dev.modEng_aln (d : Dev) (n : Nat) (f : CapEng → CapEng) : (d.modEng n f).aln = d.aln := rfl
@[simp] theorem Dev.modEng_adc (d : Dev) (n : Nat) (f : CapEng → CapEng) : (d.modEng n f).adc = d.adc := rfl
@[simp] theorem Dev.modEng_flt (d : Dev) (n : Nat) (f : CapEng → CapEng) : (d.modEng n f).flt = d.flt := rfl
@[simp] theorem Dev.modEng_dsp (d : Dev) (n : Nat) (f : CapEng → CapEng) : (d.modEng n f).dsp = d.dsp := rfl
@[simp] theorem Dev.modEng_dxl (d : Dev) (n : Nat) (f : CapEng → CapEng) : (d.modEng n f).dxl = d.dxl := rfl
@[simp] theorem Dev.modEng_rul (d : Dev) (n : Nat) (f : CapEng → CapEng) : (d.modEng n f).rul = d.rul := rfl
@[simp] theorem Dev.modEng_mdl (d : Dev) (n : Nat) (f : CapEng → CapEng) : (d.modEng n f).mdl = d.mdl := rfl
@[simp] theorem Dev.modEng_free (d : Dev) (n : Nat) (f : CapEng → CapEng) : (d.modEng n f).free = d.free := rfl
@[simp] theorem Dev.modEng_getN (d : Dev) (n : Nat) (f : CapEng → CapEng) (g : Field) (k : Nat) :
    (d.modEng n f).getN g k = d.getN g k := rfl
@[simp] theorem Dev.modEng_onN (d : Dev) (n : Nat) (f : CapEng → CapEng) (g : Field) (k : Nat) :
    (d.modEng n f).onN g k = d.onN g k := rfl
@[simp] theorem Dev.modEng_get (d : Dev) (n : Nat) (f : CapEng → CapEng) (g : Field) : (d.modEng n f).get g = d.get g := rfl
@[simp] theorem Dev.modEng_on (d : Dev) (n : Nat) (f : CapEng → CapEng) (g : Field) : (d.modEng n f).on g = d.on g := rfl
@[simp] theorem Dev.modEng_word (d : Dev) (n : Nat) (f : CapEng → CapEng) (k : Nat) : (d.modEng n f).word k = d.word k := rfl
@[simp] theorem Dev.modEng_eng (d : Dev) (n : Nat) (f : CapEng → CapEng) :
    (d.modEng n f).eng n = f (d.eng n) := by simp [Dev.eng, Dev.modEng, Dev.modCap]
theorem Dev.modEng_eng_other (d : Dev) (n : Nat) (f : CapEng → CapEng) {m : Nat} (h : m ≠ n) :
    (d.modEng n f).eng m = d.eng m := by
  simp [Dev.eng, Dev.modEng, Dev.modCap, tget_tset, h]

/-! ### modRul -/

@[simp] theorem Dev.modRul_regs (d : Dev) (f : Rul → Rul) : (d.modRul f).regs = d.regs := rfl
@[simp] theorem Dev.modRul_evs (d : Dev) (f : Rul → Rul) : (d.modRul f).evs = d.evs := rfl
@[simp] theorem Dev.modRul_paths (d : Dev) (f : Rul → Rul) : (d.modRul f).paths = d.paths := rfl
@[simp] theorem Dev.modRul_pwr (d : Dev) (f : Rul → Rul) : (d.modRul f).pwr = d.pwr := rfl
@[simp] theorem Dev.modRul_isl (d : Dev) (f : Rul → Rul) : (d.modRul f).isl = d.isl := rfl
@[simp] theorem Dev.modRul_tkp (d : Dev) (f : Rul → Rul) : (d.modRul f).tkp = d.tkp := rfl
@[simp] theorem Dev.modRul_hif (d : Dev) (f : Rul → Rul) : (d.modRul f).hif = d.hif := rfl
@[simp] theorem Dev.modRul_rdr (d : Dev) (f : Rul → Rul) : (d.modRul f).rdr = d.rdr := rfl
@[simp] theorem Dev.modRul_flush (d : Dev) (f : Rul → Rul) : (d.modRul f).flush = d.flush := rfl
@[simp] theorem Dev.modRul_lko (d : Dev) (f : Rul → Rul) : (d.modRul f).lko = d.lko := rfl
@[simp] theorem Dev.modRul_cmp (d : Dev) (f : Rul → Rul) : (d.modRul f).cmp = d.cmp := rfl
@[simp] theorem Dev.modRul_hmp (d : Dev) (f : Rul → Rul) : (d.modRul f).hmp = d.hmp := rfl
@[simp] theorem Dev.modRul_ports (d : Dev) (f : Rul → Rul) : (d.modRul f).ports = d.ports := rfl
@[simp] theorem Dev.modRul_pairs (d : Dev) (f : Rul → Rul) : (d.modRul f).pairs = d.pairs := rfl
@[simp] theorem Dev.modRul_keys (d : Dev) (f : Rul → Rul) : (d.modRul f).keys = d.keys := rfl
@[simp] theorem Dev.modRul_ing (d : Dev) (f : Rul → Rul) : (d.modRul f).ing = d.ing := rfl
@[simp] theorem Dev.modRul_aln (d : Dev) (f : Rul → Rul) : (d.modRul f).aln = d.aln := rfl
@[simp] theorem Dev.modRul_adc (d : Dev) (f : Rul → Rul) : (d.modRul f).adc = d.adc := rfl
@[simp] theorem Dev.modRul_flt (d : Dev) (f : Rul → Rul) : (d.modRul f).flt = d.flt := rfl
@[simp] theorem Dev.modRul_dsp (d : Dev) (f : Rul → Rul) : (d.modRul f).dsp = d.dsp := rfl
@[simp] theorem Dev.modRul_dxl (d : Dev) (f : Rul → Rul) : (d.modRul f).dxl = d.dxl := rfl
@[simp] theorem Dev.modRul_cap (d : Dev) (f : Rul → Rul) : (d.modRul f).cap = d.cap := rfl
@[simp] theorem Dev.modRul_rul (d : Dev) (f : Rul → Rul) : (d.modRul f).rul = f d.rul := rfl
@[simp] theorem Dev.modRul_mdl (d : Dev) (f : Rul → Rul) : (d.modRul f).mdl = d.mdl := rfl
@[simp] theorem Dev.modRul_free (d : Dev) (f : Rul → Rul) : (d.modRul f).free = d.free := rfl
@[simp] theorem Dev.modRul_getN (d : Dev) (f : Rul → Rul) (g : Field) (k : Nat) : (d.modRul f).getN g k = d.getN g k := rfl
@[simp] theorem Dev.modRul_onN (d : Dev) (f : Rul → Rul) (g : Field) (k : Nat) : (d.modRul f).onN g k = d.onN g k := rfl
@[simp] theorem Dev.modRul_get (d : Dev) (f : Rul → Rul) (g : Field) : (d.modRul f).get g = d.get g := rfl
@[simp] theorem Dev.modRul_on (d : Dev) (f : Rul → Rul) (g : Field) : (d.modRul f).on g = d.on g := rfl
@[simp] theorem Dev.modRul_word (d : Dev) (f : Rul → Rul) (k : Nat) : (d.modRul f).word k = d.word k := rfl

/-! ### modMdl -/

@[simp] theorem Dev.modMdl_regs (d : Dev) (f : Mod → Mod) : (d.modMdl f).regs = d.regs := rfl
@[simp] theorem Dev.modMdl_evs (d : Dev) (f : Mod → Mod) : (d.modMdl f).evs = d.evs := rfl
@[simp] theorem Dev.modMdl_paths (d : Dev) (f : Mod → Mod) : (d.modMdl f).paths = d.paths := rfl
@[simp] theorem Dev.modMdl_pwr (d : Dev) (f : Mod → Mod) : (d.modMdl f).pwr = d.pwr := rfl
@[simp] theorem Dev.modMdl_isl (d : Dev) (f : Mod → Mod) : (d.modMdl f).isl = d.isl := rfl
@[simp] theorem Dev.modMdl_tkp (d : Dev) (f : Mod → Mod) : (d.modMdl f).tkp = d.tkp := rfl
@[simp] theorem Dev.modMdl_hif (d : Dev) (f : Mod → Mod) : (d.modMdl f).hif = d.hif := rfl
@[simp] theorem Dev.modMdl_rdr (d : Dev) (f : Mod → Mod) : (d.modMdl f).rdr = d.rdr := rfl
@[simp] theorem Dev.modMdl_flush (d : Dev) (f : Mod → Mod) : (d.modMdl f).flush = d.flush := rfl
@[simp] theorem Dev.modMdl_lko (d : Dev) (f : Mod → Mod) : (d.modMdl f).lko = d.lko := rfl
@[simp] theorem Dev.modMdl_cmp (d : Dev) (f : Mod → Mod) : (d.modMdl f).cmp = d.cmp := rfl
@[simp] theorem Dev.modMdl_hmp (d : Dev) (f : Mod → Mod) : (d.modMdl f).hmp = d.hmp := rfl
@[simp] theorem Dev.modMdl_ports (d : Dev) (f : Mod → Mod) : (d.modMdl f).ports = d.ports := rfl
@[simp] theorem Dev.modMdl_pairs (d : Dev) (f : Mod → Mod) : (d.modMdl f).pairs = d.pairs := rfl
@[simp] theorem Dev.modMdl_keys (d : Dev) (f : Mod → Mod) : (d.modMdl f).keys = d.keys := rfl
@[simp] theorem Dev.modMdl_ing (d : Dev) (f : Mod → Mod) : (d.modMdl f).ing = d.ing := rfl
@[simp] theorem Dev.modMdl_aln (d : Dev) (f : Mod → Mod) : (d.modMdl f).aln = d.aln := rfl
@[simp] theorem Dev.modMdl_adc (d : Dev) (f : Mod → Mod) : (d.modMdl f).adc = d.adc := rfl
@[simp] theorem Dev.modMdl_flt (d : Dev) (f : Mod → Mod) : (d.modMdl f).flt = d.flt := rfl
@[simp] theorem Dev.modMdl_dsp (d : Dev) (f : Mod → Mod) : (d.modMdl f).dsp = d.dsp := rfl
@[simp] theorem Dev.modMdl_dxl (d : Dev) (f : Mod → Mod) : (d.modMdl f).dxl = d.dxl := rfl
@[simp] theorem Dev.modMdl_cap (d : Dev) (f : Mod → Mod) : (d.modMdl f).cap = d.cap := rfl
@[simp] theorem Dev.modMdl_rul (d : Dev) (f : Mod → Mod) : (d.modMdl f).rul = d.rul := rfl
@[simp] theorem Dev.modMdl_mdl (d : Dev) (f : Mod → Mod) : (d.modMdl f).mdl = f d.mdl := rfl
@[simp] theorem Dev.modMdl_free (d : Dev) (f : Mod → Mod) : (d.modMdl f).free = d.free := rfl
@[simp] theorem Dev.modMdl_getN (d : Dev) (f : Mod → Mod) (g : Field) (k : Nat) : (d.modMdl f).getN g k = d.getN g k := rfl
@[simp] theorem Dev.modMdl_onN (d : Dev) (f : Mod → Mod) (g : Field) (k : Nat) : (d.modMdl f).onN g k = d.onN g k := rfl
@[simp] theorem Dev.modMdl_get (d : Dev) (f : Mod → Mod) (g : Field) : (d.modMdl f).get g = d.get g := rfl
@[simp] theorem Dev.modMdl_on (d : Dev) (f : Mod → Mod) (g : Field) : (d.modMdl f).on g = d.on g := rfl
@[simp] theorem Dev.modMdl_word (d : Dev) (f : Mod → Mod) (k : Nat) : (d.modMdl f).word k = d.word k := rfl

end Sys2Proof.Machine
end

