-- ==== Sys2Proof/WellFormed.lean ====
section
/-!
DEFINITION. Which commands the outside world can send: every operand within the range the spec gives it. A command is
checked here once; a meaning is total and does not rely on it.
-/

namespace Sys2Proof

/-- A register address: a word of BAR0, which is 4 MiB (R1, Table MAP-1). -/
def regAddrOk (a : Nat) : Bool := decide (a < 0x400000)

/-- An address of the Hamper window BAR4, which is 128 MiB (R118). -/
def bar4AddrOk (a : Nat) : Bool := decide (a < 2 ^ 27)

/-- A field port: sixteen of them. -/
def portOk (n : Nat) : Bool := decide (n < 16)

/-- A port pair: ports 2k and 2k + 1. -/
def pairOk (k : Nat) : Bool := decide (k < 8)

/-- A traffic class. -/
def tcOk (c : Nat) : Bool := decide (c < 8)

/-- A Daxide link. -/
def linkOk (l : Nat) : Bool := decide (l < 4)

/-- An island that can be reset, numbered as Table RST-2. -/
def islandOk (i : Nat) : Bool := decide (i < 36)

/-- A ring. -/
def ringOk (n : Nat) : Bool := decide (n < 256)

/-- A converter. -/
def cvOk (c : Nat) : Bool := decide (c < 2)

/-- The word of a number in one register. -/
def u32Ok (v : Nat) : Bool := decide (v < 2 ^ 32)

/-- A place inside a 4 ns tick, in quarter nanoseconds (R128). -/
def quarterOk (q : Nat) : Bool := decide (q < 16)

/-- A descriptor or control block: sixteen words (Table HIF-4). -/
def descOk (d : DescWords) : Bool := decide (d.length = 16) && d.all u32Ok

/-- A 48-bit MAC address. -/
def macOk (a : Nat) : Bool := decide (a < 2 ^ 48)

/-- A MAC secure tag: a two-bit association and a 32-bit packet number. -/
def SecTag.wf (t : SecTag) : Bool := decide (t.sci < 2 ^ 64) && decide (t.an < 4) && decide (t.pn < 2 ^ 32)

/-- A PRP trailer or HSR tag: a 16-bit sequence number. -/
def RedTag.wf (t : RedTag) : Bool := decide (t.seq < 2 ^ 16)

/-- A Daxide frame: at least a header, at most 64 KiB. -/
def DxFrame.wf (f : DxFrame) : Bool := decide (f.bytes.length < 2 ^ 16) && quarterOk f.q

/-- What an Ethernet frame can be on the wire: 48-bit addresses, at most two VLAN tags' worth of 16-bit tags, a length the
length counter holds. -/
def RxFrame.wf (f : RxFrame) : Bool :=
  macOk f.dst && macOk f.srcMac && f.vlans.all (fun v => decide (v < 2 ^ 16)) && decide (f.len < 2 ^ 16) &&
    quarterOk f.q && f.sec.all SecTag.wf && f.red.all RedTag.wf

/-- The grandmaster's fields of an Announce: an 8-bit class and accuracy and a 32-bit inaccuracy. -/
def PtpGm.wf (g : PtpGm) : Bool := decide (g.cls < 2 ^ 8) && decide (g.acc < 2 ^ 8) && u32Ok g.inacc

/-- A PTP message: an 8-bit domain, and a frame that an Ethernet frame's length admits. -/
def PtpMsg.wf (m : PtpMsg) : Bool := decide (m.domain < 2 ^ 8) && m.gm.all PtpGm.wf && decide (m.raw.length < 2 ^ 14)

/-- A BCD field of an IRIG-B frame: decimal digits, within its range. -/
def bcdOk (lo hi v : Nat) : Bool := decide (lo ≤ v) && decide (v ≤ hi) && decide (v % 16 < 10) && decide (v / 16 % 16 < 10)

/-- The extension of an IRIG-B frame: a 4-bit time quality, and at most sixteen hours of local offset. -/
def IrigExt.wf (x : IrigExt) : Bool := bcdOk 0 0x99 x.year && decide (x.ofsHalf < 32) && decide (x.tq < 16)

/-- An IRIG-B frame: one of the codes B000 to B007, its fields within their ranges, a 60th second among them, and an on-time mark
that lies less than two frames back. -/
def IrigFrame.wf (f : IrigFrame) : Bool :=
  decide (f.code < 8) && bcdOk 0 0x60 f.secB && bcdOk 0 0x59 f.minB && bcdOk 0 0x23 f.hourB && bcdOk 1 0x366 f.dayB &&
    bcdOk 0 0x99 f.yearB && f.ext.all IrigExt.wf && decide (f.agoQ < 8000000000)

/-- A fault of one engine: an item kind of RUL_INTEG_STAT.KIND, and bits of one result or of one word with its parity. -/
def Upset.wf (u : Upset) : Bool := decide (u.kind < 8) && decide (u.flip < 2 ^ 33)

/-- What start-up meets: failing self-test words lie in the Hamper. -/
def BootInfo.wf (b : BootInfo) : Bool := b.badWords.all bar4AddrOk

/-- The well-formed commands, constructor by constructor. -/
def Instr.wf : Instr → Bool
  | .writeRegister _ addr _ => regAddrOk addr
  | .readClearOnRead _ addr => regAddrOk addr
  | .readLowHalf _ addr => regAddrOk addr
  | .readHighHalf _ addr => regAddrOk addr
  | .readTkpNowNs _ => true
  | .readIslandInReset _ addr => regAddrOk addr
  | .writeIslandInReset _ addr _ => regAddrOk addr
  | .writeGlbSplit _ => true
  | .glbLockSet => true
  | .islandClockFail island => islandOk island
  | .islandClockRecover island => islandOk island
  | .refclkFail => true
  | .osc10mFail => true
  | .islandResetExit island => islandOk island
  | .timekeeperTick => true
  | .referenceSample slot _ => decide (slot < 4)
  | .servoUpdate => true
  | .hostTmo => true
  | .writeTkpFreqLo _ => true
  | .writeTkpFreqHi _ => true
  | .readTkpFreqLo _ => true
  | .writeTkpAdj _ => true
  | .timedAdjust => true
  | .ptpMessageReceive port m => portOk port && m.wf
  | .ptpMessageTransmit port _ => portOk port
  | .ptpAnnounceTransmit port => portOk port
  | .tcForward port m _ => portOk port && m.wf
  | .tinPpsEdge _ q => quarterOk q
  | .irigFrame f => f.wf
  | .leapSecond => true
  | .leapOccExpire => true
  | .ppsOutput => true
  | .ppsPulseEnd => true
  | .writeHmpPart n _ => decide (n < 6)
  | .hamperReplay a _ _ => bar4AddrOk a
  | .fenceReleaseCheck a _ => bar4AddrOk a
  | .scrubRead => true
  | .scrubPassLate => true
  | .bar4Read _ a => bar4AddrOk a
  | .bar4Write a _ => bar4AddrOk a
  | .writeFpCtrl port _ => portOk port
  | .linkUp port => portOk port
  | .linkDown port => portOk port
  | .frameReceive port f => portOk port && f.wf
  | .dupKeyForget pair => pairOk pair
  | .txFrameStart port => portOk port
  | .txFrameEnd port => portOk port
  | .txUnderrun port => portOk port
  | .timedLaunch port tc => portOk port && tcOk tc
  | .guardTimeStart port => portOk port
  | .pairCompletion pair => pairOk pair
  | .configChange port => portOk port
  | .gateConfigApply port => portOk port
  | .gateEntryAdvance port => portOk port
  | .pauseFrameReceive port f => portOk port && f.wf
  | .pauseExpire port tc => portOk port && tcOk tc
  | .pauseStorm port tc => portOk port && tcOk tc
  | .pauseStormClear port tc => portOk port && tcOk tc
  | .pauseTransmit port => portOk port
  | .pauseResend port => portOk port
  | .pauseReleaseSend port => portOk port
  | .hsrSupervisionSend pair => pairOk pair
  | .ingestIntake => true
  | .ingestParse => true
  | .hostlimSecond => true
  | .gooseTalExpire sub => decide (sub < 128)
  | .cfgPendTimeout src => decide (src < 512)
  | .writeSourceEntry addr _ => regAddrOk addr
  | .alignFrame => true
  | .spreadOpen => true
  | .spreadDeadline => true
  | .slotRelease => true
  | .outputEnable n => decide (n < 32)
  | .rollCallStart => true
  | .rollCallStop => true
  | .refEnable => true
  | .refReady => true
  | .adcGo cv => cvOk cv
  | .adcStart cv => cvOk cv
  | .adcStop cv => cvOk cv
  | .adcSlot cv _ => cvOk cv
  | .adcSampleDeliver cv => cvOk cv
  | .diagFlush => true
  | .laneSample lane => decide (lane < 512)
  | .laneInputTimeout lane => decide (lane < 512)
  | .laneEnable lane _ => decide (lane < 512)
  | .laneSyncRequest lane => decide (lane < 512)
  | .coefSetValidate set _ => decide (set < 64)
  | .groupValidate g _ => decide (g < 128)
  | .swapGo _ => true
  | .swapStart lane => decide (lane < 512)
  | .fadeEnd lane => decide (lane < 512)
  | .groupBlockWrite g => decide (g < 128)
  | .groupBlockTimeout g => decide (g < 128)
  | .rulePass ups => ups.all Upset.wf
  | .alarmAction => true
  | .pinWidthExpire pin => decide (pin < 4)
  | .pinRelease pin => decide (pin < 4)
  | .ruleAck rule => decide (rule < 4096)
  | .integAck => true
  | .tableCopyCheck ups => ups.all Upset.wf
  | .ruleValidate r _ => decide (r < 4096)
  | .areaValidate a _ => decide (a < 64)
  | .detectorValidate q _ => decide (q < 1024)
  | .templateEnable t _ => decide (t < 64)
  | .gooseRetransmit t => decide (t < 64)
  | .hstateWrite j _ => decide (j < 128)
  | .segmentApply => true
  | .epochBoundary => true
  | .epochPublish => true
  | .snapshotBinWrite => true
  | .snapshotTimeout => true
  | .modalStart => true
  | .modalStop => true
  | .captureEnable => true
  | .captureDisable => true
  | .triggerDefValidate d _ => decide (d < 256)
  | .maskValidate k _ => decide (k < 32)
  | .softwareTrigger _ => true
  | .captureArm eng => decide (eng < 8)
  | .captureTimedArm eng => decide (eng < 8)
  | .pretriggerFull eng => decide (eng < 8)
  | .captureTrigger eng => decide (eng < 8)
  | .collectionClose eng => decide (eng < 8)
  | .captureComplete eng => decide (eng < 8)
  | .captureDeliver eng => decide (eng < 8)
  | .captureRelease eng => decide (eng < 8)
  | .captureDisarm eng => decide (eng < 8)
  | .ringEnable n cb => ringOk n && cb.all descOk
  | .ringDisable n => ringOk n
  | .ringStopped n => ringOk n
  | .doorbell ofs size v descs => decide (ofs < 2 ^ 20) && decide (size = 4 ∨ size = 8) && decide (v < 2 ^ 64) && descs.all descOk
  | .ringPoll n prod ccons descs => ringOk n && u32Ok prod && u32Ok ccons && descs.all descOk
  | .completionWrite n => ringOk n
  | .descNop n => ringOk n
  | .descFence n => ringOk n
  | .tokenWaitStart n => ringOk n
  | .fenceTimeout n => ringOk n
  | .cmdWriteBlock n _ => ringOk n
  | .cmdReadBlock n => ringOk n
  | .txhSend n _ => ringOk n
  | .txhInject n f => ringOk n && f.wf
  | .bufPost n => ringOk n
  | .msixMessage vec => decide (vec < 64)
  | .moderationTimer n => ringOk n
  | .msixUnmask c =>
    match c with
    | .vector v => decide (v < 64)
    | .funcMask _ => true
    | .enable _ => true
  | .hostStall => true
  | .heartbeat _ => true
  | .pcieLinkDown => true
  | .dmaReadFail n _ => ringOk n
  | .threadValidate th _ => decide (th < 2048)
  | .dspReady n => ringOk n
  | .dspDelay n => ringOk n
  | .dspWait n => ringOk n
  | .dspCancel n => ringOk n
  | .dspSetPrio n => ringOk n
  | .dspTimer n => ringOk n
  | .dispatchTick => true
  | .dspTake _ cpu => decide (cpu < 18)
  | .spillFetch _ => true
  | .fabricStart => true
  | .daxideFrameReceive link f => linkOk link && f.wf
  | .beaconSend => true
  | .remoteOriginLost node => decide (node < 512)
  | .remoteAlarmEntryWrite addr _ => regAddrOk addr
  | .relayEnable => true
  | .relayRetransmit link => linkOk link
  | .relayExpire link => linkOk link
  | .keepaliveSend link => linkOk link
  | .keepaliveTimeout link => linkOk link
  | .dxlLockLoss link => linkOk link
  | .timeReqSend link => linkOk link
  | .keyInfo n => ringOk n
  | .keyImport n _ => ringOk n
  | .keyDerive n _ => ringOk n
  | .keyUnwrap n _ => ringOk n
  | .keyCopyWritten _ => true
  | .keyCommit n _ => ringOk n
  | .keyErase n => ringOk n
  | .keyAttest n nonce => ringOk n && decide (nonce.length = 32)
  | .fwStatus n => ringOk n
  | .fwWrite n ofs data => ringOk n && decide (ofs + data.length ≤ 2 ^ 32)
  | .fwCheck n len => ringOk n && u32Ok len
  | .fwActivate n => ringOk n
  | .fwSettings n body => ringOk n && decide (body.length ≤ 4096)
  | .xaornReport => true
  | .updateTimeout => true
  | .lockstepMismatch pair => decide (pair < 2)
  | .logEvent code inst det det2 => decide (code < 1024) && decide (inst < 2 ^ 16) && u32Ok det && u32Ok det2
  | .logTokenRefill code => decide (code < 1024)
  | .logRecordWrite _ => true
  | .logScrub _ => true
  | .logReread _ => true
  | .logReadGo _ => true
  | .logReadDeliver => true
  | .logBufferTimeout => true
  | .logReadStop _ => true
  | .mirrorRecord => true
  | .powerFailWarning => true
  | .powerFailClear => true
  | .logFlushDone => true
  | .probeSample kind index _ _ => decide (kind < 64) && decide (index < 2 ^ 12)
  | .probeEnable p _ => decide (p < 64)
  | .lkoSnapshot _ => true
  | .cmpCompress n src => ringOk n && decide (src.length < 2 ^ 32)
  | .cmpDecompress n src => ringOk n && decide (src.length < 2 ^ 32)
  | .cmpJobComplete lane => decide (lane < 4)
  | .powerOnReset _ => true
  | .sysRstAssert => true
  | .porRelease b => b.wf
  | .deviceReady => true
  | .perstAssert => true
  | .perstRelease => true
  | .pcieHotReset => true
  | .functionLevelReset => true
  | .hstResetRelease => true
  | .softReset _ => true
  | .islandReset _ _ => true
  | .dozeEnter => true
  | .dozeEntryDone => true
  | .dozeWake => true
  | .gpioWake pin _ => decide (pin < 16)
  | .writeGlbWake _ => true
  | .timedWake => true
  | .wakeDone => true
  | .thermalTrip _ => true
  | .refclkReturn _ => true
  | .pcieLinkUp width speed => decide (width < 32) && decide (speed < 16)
  | .mgtLinkChange _ speed => decide (speed < 4)
  | .flushAreaErase => true
  | .mgmtFrameSend dest bytes _ => decide (dest < 512) && decide (bytes.length < 2 ^ 16)

end Sys2Proof
end

