-- ==== Sys2Proof/Tests/Slice0.lean ====
section
/-!
SUPPORT. Tests: a term that each check of WellFormed refuses; figures and examples of the spec; and for every statement with
hypotheses, states and operands that meet them, clause by clause.
-/

set_option Elab.async false

namespace Sys2Proof.Tests

open Sys2Proof Sys2Proof.Machine

/-- Every island runs, POR is over and Xaorn runs. -/
def tDev : Dev :=
  { Dev.reset with
    isl := (List.range 36).map fun i => (i, ⟨.run, false, false⟩), pwr := { (default : Pwr) with released := true, xaornRuns := true } }

/-- A device that runs, 100 seconds into grid time. -/
def tSt : State := { State.reset with dev := tDev, time := ⟨2 ^ 46 * 10 ^ 11, 25 * 10 ^ 9⟩ }

def dev (f : Dev → Dev) (s : State) : State := { s with dev := f s.dev }
def lgb (f : Logbook → Logbook) (s : State) : State := { s with log := f s.log }
def put (f : Field) (v : Nat) : State → State := dev fun d => d.set f v
def putN (f : Field) (i v : Nat) : State → State := dev fun d => d.setN f i v

/-- The running device with changes, made one after the other. -/
def tWith (fs : List (State → State)) : State := fs.foldl (fun s f => f s) tSt

/-- The receive buffer holds a frame of the greatest MAX_LEN. -/
theorem rxBuf_ge : 9216 ≤ Config.rxBufBytes := Nat.le_add_left _ _

/-- The attestation is as long as the certificate makes it. -/
theorem attestation_length (t : Time) (nonce : List Byte) (d : Dev) :
    (attestation t nonce d).length = 794 + Config.certLen % 2 ^ 16 := by
  have h : ((List.range 64).flatMap (attestSlot d)).length = 512 := by simp [List.length_flatMap, attestSlot]
  simp only [attestation, attestBody, List.length_append, le_length, be_length, slice_length, h, List.length_map, List.length_range]

/-- A valid settings copy but for its CRC: one MiB of GKEY area above the others. -/
def tSettings0 : List Byte :=
  le 4 0x4B594253 ++ le 4 1 ++ le 8 0 ++ le 4 0x10000 ++ le 4 0x20000 ++ le 4 0x30000 ++ le 4 0x40000 ++ le 4 0x100000 ++
    le 4 0x900000 ++ le 4 0x1100000 ++ le 4 0x10000 ++ List.replicate 4044 0

def tSettings : List Byte := tSettings0 ++ le 4 (crc32 0 tSettings0)

theorem tSettings0_length : tSettings0.length = 4092 := by decide +kernel

theorem tSettings_ok : settingsOk tSettings = true := by
  have h1 : setAt tSettings 4092 4 = crc32 0 tSettings0 := by
    simp only [setAt, slice, tSettings]
    rw [List.drop_append_of_le_length (by rw [tSettings0_length]), List.drop_of_length_le (by rw [tSettings0_length])]
    simp only [List.nil_append, List.take_of_length_le (le_length _ _).le, le_length, Nat.sub_self, List.replicate_zero,
      List.append_nil]
    exact leVal_le _ _ (crc32_lt _)
  have h2 : tSettings.take 4092 = tSettings0 := by rw [tSettings, ← tSettings0_length, List.take_left]
  have h3 : setAreas tSettings = [(0x10000, 0x10000), (0x20000, 0x10000), (0x30000, 0x10000), (0x40000, 0x40000),
      (0x100000, 0x800000), (0x900000, 0x800000), (0x1100000, 0x10000)] := by decide +kernel
  have h4 : tSettings.length = 4096 := by simp [tSettings, tSettings0_length]
  simp [settingsOk, h1, h2, h3, h4]
  refine ⟨⟨by decide +kernel, ?_⟩, by decide +kernel⟩
  omega

/-! ## Ill-formed commands -/

theorem test_wf_accepts : (Instr.writeRegister .host 0x3FFFFC 5).wf = true ∧ (Instr.bar4Read .host 0x7FFFFFC).wf = true ∧
    (Instr.linkUp 15).wf = true ∧ (Instr.probeEnable 63 1).wf = true := by decide

theorem test_wf_refuses_addresses : [Instr.writeRegister .host 0x400000 0, .readClearOnRead .host 0x400000,
    .readLowHalf .host 0x400000, .readHighHalf .host 0x400000, .readIslandInReset .host 0x400000,
    .writeIslandInReset .host 0x400000 0, .writeSourceEntry 0x400000 0, .remoteAlarmEntryWrite 0x400000 0,
    .hamperReplay 0x8000000 .engine true, .fenceReleaseCheck 0x8000000 true, .bar4Read .host 0x8000000,
    .bar4Write 0x8000000 0].all (fun c => !c.wf) = true := by decide

theorem test_wf_refuses_islands : [Instr.islandClockFail 36, .islandClockRecover 36, .islandResetExit 36, .writeHmpPart 6 0,
    .porRelease ⟨none, true, [0x8000000], true⟩].all (fun c => !c.wf) = true := by decide

theorem test_wf_refuses_time : [Instr.referenceSample 4 ⟨0, none, none, true, none⟩,
    .ptpMessageReceive 16 ⟨.sync, 0, false, none, 0, none, none, []⟩, .ptpMessageReceive 0 ⟨.sync, 256, false, none, 0, none, none, []⟩,
    .ptpMessageTransmit 16 .sync, .ptpAnnounceTransmit 16, .tcForward 16 ⟨.sync, 0, false, none, 0, none, none, []⟩ 0,
    .tcForward 0 ⟨.sync, 256, false, none, 0, none, none, []⟩ 0, .tinPpsEdge true 16, .irigFrame ⟨true, 8, 0, 0, 0, 1, 0, none, 0⟩].all
    (fun c => !c.wf) = true := by decide

/-- A frame on the wire. -/
def tFrame : RxFrame := ⟨5, 9, [], 100, true, false, none, none, 3, .other 0x88AA, [], 0, 0⟩

theorem test_wf_refuses_frames : (Instr.frameReceive 15 tFrame).wf = true ∧
    [Instr.frameReceive 16 tFrame, .frameReceive 0 { tFrame with dst := 2 ^ 48 }, .frameReceive 0 { tFrame with srcMac := 2 ^ 48 },
      .frameReceive 0 { tFrame with vlans := [2 ^ 16] }, .frameReceive 0 { tFrame with len := 2 ^ 16 },
      .frameReceive 0 { tFrame with q := 16 }, .frameReceive 0 { tFrame with sec := some ⟨2 ^ 64, 0, 0, none⟩ },
      .frameReceive 0 { tFrame with sec := some ⟨0, 4, 0, none⟩ }, .frameReceive 0 { tFrame with sec := some ⟨0, 0, 2 ^ 32, none⟩ },
      .frameReceive 0 { tFrame with red := some ⟨true, 2 ^ 16, true⟩ }, .pauseFrameReceive 16 tFrame,
      .pauseFrameReceive 0 { tFrame with len := 2 ^ 16 }, .txhInject 256 tFrame, .txhInject 0 { tFrame with q := 16 },
      .daxideFrameReceive 4 ⟨[], none, true, 0⟩, .daxideFrameReceive 0 ⟨[], none, true, 16⟩].all (fun c => !c.wf) = true := by decide

theorem test_wf_refuses_ports : [Instr.writeFpCtrl 16 0, .linkUp 16, .linkDown 16, .dupKeyForget 8, .txFrameStart 16,
    .txFrameEnd 16, .txUnderrun 16, .timedLaunch 16 0, .timedLaunch 0 8, .guardTimeStart 16, .pairCompletion 8, .configChange 16,
    .gateConfigApply 16, .gateEntryAdvance 16, .pauseExpire 16 0, .pauseExpire 0 8, .pauseStorm 16 0, .pauseStorm 0 8,
    .pauseStormClear 16 0, .pauseStormClear 0 8, .pauseTransmit 16, .pauseResend 16, .pauseReleaseSend 16,
    .hsrSupervisionSend 8].all (fun c => !c.wf) = true := by decide

theorem test_wf_refuses_measurement : [Instr.gooseTalExpire 128, .cfgPendTimeout 512, .outputEnable 32, .adcGo 2, .adcStart 2,
    .adcStop 2, .adcSlot 2 ⟨0, 0⟩, .adcSampleDeliver 2, .laneSample 512, .laneInputTimeout 512, .laneEnable 512 0,
    .laneSyncRequest 512, .coefSetValidate 64 0, .groupValidate 128 0, .swapStart 512, .fadeEnd 512, .groupBlockWrite 128,
    .groupBlockTimeout 128].all (fun c => !c.wf) = true := by decide

theorem test_wf_refuses_rules : [Instr.rulePass [⟨true, 8, 0, 0⟩], .rulePass [⟨true, 0, 0, 2 ^ 33⟩], .tableCopyCheck [⟨true, 8, 0, 0⟩],
    .pinWidthExpire 4, .pinRelease 4, .ruleAck 4096, .ruleValidate 4096 0, .areaValidate 64 0, .detectorValidate 1024 0,
    .templateEnable 64 0, .gooseRetransmit 64, .hstateWrite 128 0].all (fun c => !c.wf) = true := by decide

theorem test_wf_refuses_capture : [Instr.triggerDefValidate 256 0, .maskValidate 32 0, .captureArm 8, .captureTimedArm 8,
    .pretriggerFull 8, .captureTrigger 8, .collectionClose 8, .captureComplete 8, .captureDeliver 8, .captureRelease 8,
    .captureDisarm 8].all (fun c => !c.wf) = true := by decide

theorem test_wf_refuses_rings : [Instr.ringEnable 256 none, .ringEnable 0 (some [0]), .ringDisable 256, .ringStopped 256,
    .doorbell 0x100000 4 0 [], .doorbell 0 2 0 [], .doorbell 0 8 (2 ^ 64) [], .doorbell 0 4 0 [[0]], .ringPoll 256 0 0 [],
    .ringPoll 0 (2 ^ 32) 0 [], .ringPoll 0 0 (2 ^ 32) [], .ringPoll 0 0 0 [List.replicate 16 (2 ^ 32)], .completionWrite 256,
    .descNop 256, .descFence 256, .tokenWaitStart 256, .fenceTimeout 256, .cmdWriteBlock 256 [], .cmdReadBlock 256,
    .txhSend 256 [], .bufPost 256, .msixMessage 64, .moderationTimer 256, .msixUnmask (.vector 64),
    .dmaReadFail 256 .buffer].all (fun c => !c.wf) = true := by decide

theorem test_wf_refuses_dispatch : [Instr.threadValidate 2048 0, .dspReady 256, .dspDelay 256, .dspWait 256, .dspCancel 256,
    .dspSetPrio 256, .dspTimer 256, .dspTake .host 18].all (fun c => !c.wf) = true := by decide

theorem test_wf_refuses_fabric : [Instr.remoteOriginLost 512, .relayRetransmit 4, .relayExpire 4, .keepaliveSend 4,
    .keepaliveTimeout 4, .dxlLockLoss 4, .timeReqSend 4, .mgmtFrameSend 512 [] true].all (fun c => !c.wf) = true := by decide

theorem test_wf_refuses_services : [Instr.keyInfo 256, .keyImport 256 ⟨0, 0, 0, true, none, 0, 0, 0, none, 0, [], []⟩,
    .keyDerive 256 ⟨0, 0, 0, true, none, 0, 0, 0, none, 0, [], []⟩, .keyUnwrap 256 ⟨0, 0, 0, true, none, 0, 0, 0, none, 0, [], []⟩,
    .keyCommit 256 true, .keyErase 256, .keyAttest 256 (List.replicate 32 0), .keyAttest 0 [], .fwStatus 256, .fwWrite 256 0 [],
    .fwWrite 0 (2 ^ 32) [0], .fwCheck 256 0, .fwCheck 0 (2 ^ 32), .fwActivate 256, .fwSettings 256 [], .lockstepMismatch 2,
    .cmpCompress 256 [], .cmpDecompress 256 [], .cmpJobComplete 4].all (fun c => !c.wf) = true := by decide

theorem test_wf_refuses_long_settings : (Instr.fwSettings 0 (List.replicate 4097 0)).wf = false := by decide +kernel

theorem test_wf_refuses_log : [Instr.logEvent 1024 0 0 0, .logEvent 0 (2 ^ 16) 0 0, .logEvent 0 0 (2 ^ 32) 0, .logEvent 0 0 0 (2 ^ 32),
    .logTokenRefill 1024, .probeSample 64 0 0 0, .probeSample 0 (2 ^ 12) 0 0, .probeEnable 64 0, .gpioWake 16 true,
    .pcieLinkUp 32 0, .pcieLinkUp 0 16, .mgtLinkChange true 4].all (fun c => !c.wf) = true := by decide

/-! ## Figures and examples of the spec -/

/-- The device after a command. -/
def tAfter (c : Instr) (s : State) : Dev := match exec c s with
  | .next t => t.dev
  | _ => Dev.reset

/-- The three addresses of the example under Table MAP-3. -/
theorem test_addresses : At.FP_TAS_STAT.addr 5 = 0x4A058 ∧ At.FP_FULL_HI.addr (5 * 32 + 29) = 0x4A8EC ∧
    At.HIF_RINGn_DROP.addr 17 = 0xF2238 := by decide

/-- The example of R570: ING_INT.BIND_FAIL is event code 163. -/
theorem test_event_code : ((tDev.cause intIng 3 0 0).evs.map LogEv.code) = [163] := by decide +kernel

/-- The example of R189, but for FREQ: 59.977 Hz is 0x426F_E873. -/
theorem test_c37_words : cConvert ⟨1, 1, 0, 1⟩ 60 (fun _ => .ofInt 5)
    [0, 0, 0x67, 0xBB, 0xD7, 0x18, 0xFF, 0xE9, 0, 4, 0x01, 0x03] =
    [0x4781A99C, 0xC7E09558, 0x426FE873, 0x3D23D70A, 0x103] := by decide +kernel

/-- The example of R10. -/
theorem test_lowest_code : lowestCode [0x7FC00005, 0x7FC00001] = some 0x7FC00001 := by decide +kernel

/-- The MODAL partition of Table HMP-4 is taken, and one that overlaps it is refused with HMP_INT cause 2 (R96). -/
theorem test_partition : (tAfter (.writeHmpPart 3 0x1200) tSt).getN Reg.HMP_PARTn.SIZE 3 = 18 := by decide +kernel

theorem test_partition_overlap :
    let d := tAfter (.writeHmpPart 0 0x0311) { tSt with dev := tAfter (.writeHmpPart 3 0x1200) tSt }
    d.getN Reg.HMP_PARTn.SIZE 0 = 0 ∧ bitOf (d.word intHmp.addr) 2 = true := by decide +kernel

/-- A tick at the nominal frequency moves grid time by 4 ns (R34). -/
theorem test_tick : (match exec .timekeeperTick tSt with
    | .next t => (t.time.ns, t.time.ticks)
    | _ => (0, 0)) = (tSt.time.ns + 4, tSt.time.ticks + 1) := by decide +kernel

/-- GLB_SPLIT refuses a field that holds 3 and takes the others (R25). -/
theorem test_split : (tAfter (.writeGlbSplit 0x3) tSt).on Reg.GLB_SPLIT.REJ = true := by decide +kernel

theorem test_idle : step tSt = .next tSt := rfl

theorem test_fault : exec (.bar4Read .host 0x8000000) tSt = .fault .outsideWindow := rfl

/-! ## Witnesses of what every step keeps -/

theorem witness_EveryCommandGoesOn :
    (∃ c : Instr, (∀ p a, c = .bar4Read p a → a < 2 ^ 27) ∧ (∀ a v, c = .bar4Write a v → a < 2 ^ 27)) ∧
    (∃ a : Nat, 2 ^ 27 ≤ a) ∧
    (∃ (s t : State) (c : Instr) (rest : List Instr), s.pending = c :: rest ∧ step s = .next t) :=
  ⟨⟨.bar4Read .host (2 ^ 27 - 1), by rintro _ _ ⟨⟩; decide, by rintro _ _ ⟨⟩⟩, ⟨2 ^ 27, le_refl _⟩,
   ⟨{ tSt with pending := [.timekeeperTick] }, _, .timekeeperTick, [], rfl, rfl⟩⟩

theorem witness_OnlyTicksMoveTime : ∃ (s t : State) (c : Instr) (rest : List Instr), s.pending = c :: rest ∧ step s = .next t ∧
    c ≠ .timekeeperTick ∧ c ≠ .timedAdjust ∧ (∀ b, c ≠ .powerOnReset b) ∧ c ≠ .sysRstAssert ∧ (∀ x, c ≠ .thermalTrip x) :=
  ⟨{ tSt with pending := [.servoUpdate] }, _, .servoUpdate, [], rfl, rfl, by simp, by simp, by simp, by simp, by simp⟩

theorem witness_IntakeStaysBounded : ∃ (s t : State), s.intakeFits ∧ step s = .next t :=
  ⟨{ tSt with pending := [.logEvent 163 0 0 0] }, _, by unfold State.intakeFits; decide +kernel, rfl⟩

theorem witness_RecordNumbersRun :
    (∃ (s t : State), s.seqRuns ∧ step s = .next t) ∧
    (∃ (s t : State) (c : Instr) (rest : List Instr), s.pending = c :: rest ∧ step s = .next t) :=
  ⟨⟨{ tSt with pending := [.logRecordWrite true] }, _, by unfold State.seqRuns; decide +kernel, rfl⟩,
   ⟨{ tSt with pending := [.logRecordWrite true] }, _, .logRecordWrite true, [], rfl, rfl⟩⟩

theorem witness_FramesOfTimeAndResets : ∃ (s t : State) (c : Instr), (footprint c).side = .core ∧ exec c s = .next t :=
  ⟨tSt, _, .glbLockSet, rfl, rfl⟩

theorem witness_FramesOfMeasurement : ∃ (s t : State) (c : Instr), (footprint c).side = .field ∧ exec c s = .next t :=
  ⟨tSt, _, .linkUp 3, rfl, rfl⟩

theorem witness_FramesOfHostBlocks : ∃ (s t : State) (c : Instr), (footprint c).side = .host ∧ exec c s = .next t :=
  ⟨tSt, _, .hostStall, rfl, rfl⟩

/-- The hypotheses of TablesStayCanonical. -/
theorem witness_TablesStayCanonical :
    ∃ (s t : State), s.regsWf ∧ Memory.wf s.dev.hmp.mem = true ∧ step s = .next t :=
  ⟨tSt, _, by unfold State.regsWf; decide +kernel, by decide +kernel, rfl⟩

/-! ## Witnesses of the statements -/

/-- The hypotheses of StepRunsFront, clause by clause, at states and operands that meet them. -/
theorem witness_StepRunsFront :
(∃ (s : State), s.pending = []) :=
  ⟨tSt, by decide +kernel⟩

/-- The hypotheses of ResetState, clause by clause, at states and operands that meet them. -/
theorem witness_ResetState :
(∃ (f : Field), f ∈ allFields) ∧
(∃ (i : Nat), i < 36) :=
  ⟨⟨{ reg := { base := 0, stride := 0, count := 1, sub := 1, substride := 0 },   lo := 0,   width := 32,   acc := Sys2Proof.Access.ro,   reset := 85065904,   keeps := { h := true, s := true, i := true, d := true } },
     by decide +kernel⟩,
   ⟨0, by decide +kernel⟩⟩

/-- The hypotheses of IslandInReset, clause by clause, at states and operands that meet them. -/
theorem witness_IslandInReset :
(∃ (s : State) (a : Nat), a % 4 = 0 ∧ a < bar0Bytes ∧ (fieldsAt a).isEmpty = false ∧ s.dev.pwr.released = true ∧ s.dev.up
      (islandOf a) = false) ∧
(∃ (s : State) (d : Dev), (d = if s.dev.pwr.released = true then s.dev.set Reg.GLB_STATUS.ISL_RST_WR 1 else s.dev) ∧
      s.dev.up (islandOf 32) = false) ∧
(∃ (s : State) (d : Dev), (d = if s.dev.pwr.released = true then s.dev.set Reg.GLB_STATUS.ISL_RST_WR 1 else s.dev) ∧
      s.dev.up (islandOf 131088) = false) ∧
(∃ (s : State) (d : Dev), (d = if s.dev.pwr.released = true then s.dev.set Reg.GLB_STATUS.ISL_RST_WR 1 else s.dev) ∧
      s.dev.up (islandOf 524288) = false) ∧
(∃ (s : State) (d : Dev), (d = if s.dev.pwr.released = true then s.dev.set Reg.GLB_STATUS.ISL_RST_WR 1 else s.dev) ∧
      s.dev.up (islandOf 655364) = false) ∧
(∃ (s : State) (i : Nat) (d : Dev), (d = if s.dev.pwr.released = true then s.dev.set Reg.GLB_STATUS.ISL_RST_WR 1 else s.dev)
      ∧ s.dev.up (islandOf 655364) = false ∧ i < 2) ∧
(∃ (s : State) (i : Nat) (d : Dev), (d = if s.dev.pwr.released = true then s.dev.set Reg.GLB_STATUS.ISL_RST_WR 1 else s.dev)
      ∧ s.dev.up (islandOf 655364) = false ∧ i < 512) ∧
(∃ (s : State) (i : Nat) (d : Dev), (d = if s.dev.pwr.released = true then s.dev.set Reg.GLB_STATUS.ISL_RST_WR 1 else s.dev)
      ∧ s.dev.up (islandOf 655364) = false ∧ i < 64) ∧
(∃ (s : State) (i : Nat) (d : Dev), (d = if s.dev.pwr.released = true then s.dev.set Reg.GLB_STATUS.ISL_RST_WR 1 else s.dev)
      ∧ s.dev.up (islandOf 655364) = false ∧ i < 128) ∧
(∃ (s : State) (d : Dev), (d = if s.dev.pwr.released = true then s.dev.set Reg.GLB_STATUS.ISL_RST_WR 1 else s.dev) ∧
      s.dev.up (islandOf 786452) = false) ∧
(∃ (s : State) (d : Dev), (d = if s.dev.pwr.released = true then s.dev.set Reg.GLB_STATUS.ISL_RST_WR 1 else s.dev) ∧
      s.dev.up (islandOf 917504) = false) ∧
(∃ (s : State) (i : Nat) (d : Dev), (d = if s.dev.pwr.released = true then s.dev.set Reg.GLB_STATUS.ISL_RST_WR 1 else s.dev)
      ∧ s.dev.up (islandOf 917504) = false ∧ i < 256) ∧
(∃ (s : State) (i : Nat) (d : Dev), (d = if s.dev.pwr.released = true then s.dev.set Reg.GLB_STATUS.ISL_RST_WR 1 else s.dev)
      ∧ s.dev.up (islandOf 917504) = false ∧ i < 32) ∧
(∃ (s : State) (i : Nat) (d : Dev), (d = if s.dev.pwr.released = true then s.dev.set Reg.GLB_STATUS.ISL_RST_WR 1 else s.dev)
      ∧ s.dev.up (islandOf 917504) = false ∧ i < 8) ∧
(∃ (s : State) (d : Dev), (d = if s.dev.pwr.released = true then s.dev.set Reg.GLB_STATUS.ISL_RST_WR 1 else s.dev) ∧
      s.dev.up (islandOf 983056) = false) ∧
(∃ (s : State) (i : Nat) (d : Dev), (d = if s.dev.pwr.released = true then s.dev.set Reg.GLB_STATUS.ISL_RST_WR 1 else s.dev)
      ∧ s.dev.up (islandOf 983056) = false ∧ i < 256) ∧
(∃ (s : State) (i : Nat) (d : Dev), (d = if s.dev.pwr.released = true then s.dev.set Reg.GLB_STATUS.ISL_RST_WR 1 else s.dev)
      ∧ s.dev.up (islandOf 3670016) = false ∧ i < 2048) ∧
(∃ (s : State) (d : Dev), (d = if s.dev.pwr.released = true then s.dev.set Reg.GLB_STATUS.ISL_RST_WR 1 else s.dev) ∧
      s.dev.up (islandOf 3670016) = false) ∧
(∃ (s : State) (i : Nat) (d : Dev), (d = if s.dev.pwr.released = true then s.dev.set Reg.GLB_STATUS.ISL_RST_WR 1 else s.dev)
      ∧ s.dev.up (islandOf 3670016) = false ∧ i < lkoProbes) ∧
(∃ (s : State) (d : Dev), (d = if s.dev.pwr.released = true then s.dev.set Reg.GLB_STATUS.ISL_RST_WR 1 else s.dev) ∧
      s.dev.up (islandOf 393216) = false) ∧
(∃ (s : State) (i : Nat) (d : Dev), (d = if s.dev.pwr.released = true then s.dev.set Reg.GLB_STATUS.ISL_RST_WR 1 else s.dev)
      ∧ s.dev.up islHst = false ∧ i < 256) ∧
(∃ (s : State) (i : Nat) (d : Dev), (d = if s.dev.pwr.released = true then s.dev.set Reg.GLB_STATUS.ISL_RST_WR 1 else s.dev)
      ∧ i < 16 ∧ s.dev.up (islandOf (262144 + i * 8192)) = false) ∧
(∃ (s : State) (i : Nat) (d : Dev), (d = if s.dev.pwr.released = true then s.dev.set Reg.GLB_STATUS.ISL_RST_WR 1 else s.dev)
      ∧ 2097152 ≤ i ∧ i < 2129920 ∧ s.dev.up (islandOf i) = false) ∧
(∃ (s : State) (i : Nat) (d : Dev), (d = if s.dev.pwr.released = true then s.dev.set Reg.GLB_STATUS.ISL_RST_WR 1 else s.dev)
      ∧ 3803136 ≤ i ∧ i < 3805184 ∧ i % 4 = 0 ∧ s.dev.up (islandOf i) = false) :=
  ⟨⟨tWith [fun s => { s with dev.pwr.released := true }, dev fun d =>
     { d with isl := tset d.isl (islandOf 983040) ⟨.reset, false, false⟩ }], 983040, by decide +kernel⟩,
   ⟨State.reset, if (State.reset).dev.pwr.released = true then (State.reset).dev.set Reg.GLB_STATUS.ISL_RST_WR 1 else
     (State.reset).dev, rfl, by decide +kernel⟩,
   ⟨tWith [dev fun d => { d with isl := tset d.isl (islandOf 131088) ⟨.reset, false, false⟩ }], if (tWith [dev fun d =>
     { d with isl := tset d.isl (islandOf 131088) ⟨.reset, false, false⟩ }]).dev.pwr.released = true then (tWith [dev fun d
     => { d with isl := tset d.isl (islandOf 131088) ⟨.reset, false, false⟩ }]).dev.set Reg.GLB_STATUS.ISL_RST_WR 1 else
     (tWith [dev fun d => { d with isl := tset d.isl (islandOf 131088) ⟨.reset, false, false⟩ }]).dev, rfl,
     by decide +kernel⟩,
   ⟨tWith [dev fun d => { d with isl := tset d.isl (islandOf 524288) ⟨.reset, false, false⟩ }], if (tWith [dev fun d =>
     { d with isl := tset d.isl (islandOf 524288) ⟨.reset, false, false⟩ }]).dev.pwr.released = true then (tWith [dev fun d
     => { d with isl := tset d.isl (islandOf 524288) ⟨.reset, false, false⟩ }]).dev.set Reg.GLB_STATUS.ISL_RST_WR 1 else
     (tWith [dev fun d => { d with isl := tset d.isl (islandOf 524288) ⟨.reset, false, false⟩ }]).dev, rfl,
     by decide +kernel⟩,
   ⟨tWith [dev fun d => { d with isl := tset d.isl (islandOf 655364) ⟨.reset, false, false⟩ }], if (tWith [dev fun d =>
     { d with isl := tset d.isl (islandOf 655364) ⟨.reset, false, false⟩ }]).dev.pwr.released = true then (tWith [dev fun d
     => { d with isl := tset d.isl (islandOf 655364) ⟨.reset, false, false⟩ }]).dev.set Reg.GLB_STATUS.ISL_RST_WR 1 else
     (tWith [dev fun d => { d with isl := tset d.isl (islandOf 655364) ⟨.reset, false, false⟩ }]).dev, rfl,
     by decide +kernel⟩,
   ⟨tWith [dev fun d => { d with isl := tset d.isl (islandOf 655364) ⟨.reset, false, false⟩ }], 0, if (tWith [dev fun d =>
     { d with isl := tset d.isl (islandOf 655364) ⟨.reset, false, false⟩ }]).dev.pwr.released = true then (tWith [dev fun d
     => { d with isl := tset d.isl (islandOf 655364) ⟨.reset, false, false⟩ }]).dev.set Reg.GLB_STATUS.ISL_RST_WR 1 else
     (tWith [dev fun d => { d with isl := tset d.isl (islandOf 655364) ⟨.reset, false, false⟩ }]).dev, rfl,
     by decide +kernel⟩,
   ⟨tWith [dev fun d => { d with isl := tset d.isl (islandOf 655364) ⟨.reset, false, false⟩ }], 0, if (tWith [dev fun d =>
     { d with isl := tset d.isl (islandOf 655364) ⟨.reset, false, false⟩ }]).dev.pwr.released = true then (tWith [dev fun d
     => { d with isl := tset d.isl (islandOf 655364) ⟨.reset, false, false⟩ }]).dev.set Reg.GLB_STATUS.ISL_RST_WR 1 else
     (tWith [dev fun d => { d with isl := tset d.isl (islandOf 655364) ⟨.reset, false, false⟩ }]).dev, rfl,
     by decide +kernel⟩,
   ⟨tWith [dev fun d => { d with isl := tset d.isl (islandOf 655364) ⟨.reset, false, false⟩ }], 0, if (tWith [dev fun d =>
     { d with isl := tset d.isl (islandOf 655364) ⟨.reset, false, false⟩ }]).dev.pwr.released = true then (tWith [dev fun d
     => { d with isl := tset d.isl (islandOf 655364) ⟨.reset, false, false⟩ }]).dev.set Reg.GLB_STATUS.ISL_RST_WR 1 else
     (tWith [dev fun d => { d with isl := tset d.isl (islandOf 655364) ⟨.reset, false, false⟩ }]).dev, rfl,
     by decide +kernel⟩,
   ⟨tWith [dev fun d => { d with isl := tset d.isl (islandOf 655364) ⟨.reset, false, false⟩ }], 0, if (tWith [dev fun d =>
     { d with isl := tset d.isl (islandOf 655364) ⟨.reset, false, false⟩ }]).dev.pwr.released = true then (tWith [dev fun d
     => { d with isl := tset d.isl (islandOf 655364) ⟨.reset, false, false⟩ }]).dev.set Reg.GLB_STATUS.ISL_RST_WR 1 else
     (tWith [dev fun d => { d with isl := tset d.isl (islandOf 655364) ⟨.reset, false, false⟩ }]).dev, rfl,
     by decide +kernel⟩,
   ⟨tWith [dev fun d => { d with isl := tset d.isl (islandOf 786452) ⟨.reset, false, false⟩ }], if (tWith [dev fun d =>
     { d with isl := tset d.isl (islandOf 786452) ⟨.reset, false, false⟩ }]).dev.pwr.released = true then (tWith [dev fun d
     => { d with isl := tset d.isl (islandOf 786452) ⟨.reset, false, false⟩ }]).dev.set Reg.GLB_STATUS.ISL_RST_WR 1 else
     (tWith [dev fun d => { d with isl := tset d.isl (islandOf 786452) ⟨.reset, false, false⟩ }]).dev, rfl,
     by decide +kernel⟩,
   ⟨tWith [dev fun d => { d with isl := tset d.isl (islandOf 917504) ⟨.reset, false, false⟩ }], if (tWith [dev fun d =>
     { d with isl := tset d.isl (islandOf 917504) ⟨.reset, false, false⟩ }]).dev.pwr.released = true then (tWith [dev fun d
     => { d with isl := tset d.isl (islandOf 917504) ⟨.reset, false, false⟩ }]).dev.set Reg.GLB_STATUS.ISL_RST_WR 1 else
     (tWith [dev fun d => { d with isl := tset d.isl (islandOf 917504) ⟨.reset, false, false⟩ }]).dev, rfl,
     by decide +kernel⟩,
   ⟨tWith [dev fun d => { d with isl := tset d.isl (islandOf 917504) ⟨.reset, false, false⟩ }], 0, if (tWith [dev fun d =>
     { d with isl := tset d.isl (islandOf 917504) ⟨.reset, false, false⟩ }]).dev.pwr.released = true then (tWith [dev fun d
     => { d with isl := tset d.isl (islandOf 917504) ⟨.reset, false, false⟩ }]).dev.set Reg.GLB_STATUS.ISL_RST_WR 1 else
     (tWith [dev fun d => { d with isl := tset d.isl (islandOf 917504) ⟨.reset, false, false⟩ }]).dev, rfl,
     by decide +kernel⟩,
   ⟨tWith [dev fun d => { d with isl := tset d.isl (islandOf 917504) ⟨.reset, false, false⟩ }], 0, if (tWith [dev fun d =>
     { d with isl := tset d.isl (islandOf 917504) ⟨.reset, false, false⟩ }]).dev.pwr.released = true then (tWith [dev fun d
     => { d with isl := tset d.isl (islandOf 917504) ⟨.reset, false, false⟩ }]).dev.set Reg.GLB_STATUS.ISL_RST_WR 1 else
     (tWith [dev fun d => { d with isl := tset d.isl (islandOf 917504) ⟨.reset, false, false⟩ }]).dev, rfl,
     by decide +kernel⟩,
   ⟨tWith [dev fun d => { d with isl := tset d.isl (islandOf 917504) ⟨.reset, false, false⟩ }], 0, if (tWith [dev fun d =>
     { d with isl := tset d.isl (islandOf 917504) ⟨.reset, false, false⟩ }]).dev.pwr.released = true then (tWith [dev fun d
     => { d with isl := tset d.isl (islandOf 917504) ⟨.reset, false, false⟩ }]).dev.set Reg.GLB_STATUS.ISL_RST_WR 1 else
     (tWith [dev fun d => { d with isl := tset d.isl (islandOf 917504) ⟨.reset, false, false⟩ }]).dev, rfl,
     by decide +kernel⟩,
   ⟨tWith [dev fun d => { d with isl := tset d.isl (islandOf 983056) ⟨.reset, false, false⟩ }], if (tWith [dev fun d =>
     { d with isl := tset d.isl (islandOf 983056) ⟨.reset, false, false⟩ }]).dev.pwr.released = true then (tWith [dev fun d
     => { d with isl := tset d.isl (islandOf 983056) ⟨.reset, false, false⟩ }]).dev.set Reg.GLB_STATUS.ISL_RST_WR 1 else
     (tWith [dev fun d => { d with isl := tset d.isl (islandOf 983056) ⟨.reset, false, false⟩ }]).dev, rfl,
     by decide +kernel⟩,
   ⟨tWith [dev fun d => { d with isl := tset d.isl (islandOf 983056) ⟨.reset, false, false⟩ }], 0, if (tWith [dev fun d =>
     { d with isl := tset d.isl (islandOf 983056) ⟨.reset, false, false⟩ }]).dev.pwr.released = true then (tWith [dev fun d
     => { d with isl := tset d.isl (islandOf 983056) ⟨.reset, false, false⟩ }]).dev.set Reg.GLB_STATUS.ISL_RST_WR 1 else
     (tWith [dev fun d => { d with isl := tset d.isl (islandOf 983056) ⟨.reset, false, false⟩ }]).dev, rfl,
     by decide +kernel⟩,
   ⟨tWith [dev fun d => { d with isl := tset d.isl (islandOf 3670016) ⟨.reset, false, false⟩ }], 0, if (tWith [dev fun d =>
     { d with isl := tset d.isl (islandOf 3670016) ⟨.reset, false, false⟩ }]).dev.pwr.released = true then (tWith [dev fun d
     => { d with isl := tset d.isl (islandOf 3670016) ⟨.reset, false, false⟩ }]).dev.set Reg.GLB_STATUS.ISL_RST_WR 1 else
     (tWith [dev fun d => { d with isl := tset d.isl (islandOf 3670016) ⟨.reset, false, false⟩ }]).dev, rfl,
     by decide +kernel⟩,
   ⟨tWith [dev fun d => { d with isl := tset d.isl (islandOf 3670016) ⟨.reset, false, false⟩ }], if (tWith [dev fun d =>
     { d with isl := tset d.isl (islandOf 3670016) ⟨.reset, false, false⟩ }]).dev.pwr.released = true then (tWith [dev fun d
     => { d with isl := tset d.isl (islandOf 3670016) ⟨.reset, false, false⟩ }]).dev.set Reg.GLB_STATUS.ISL_RST_WR 1 else
     (tWith [dev fun d => { d with isl := tset d.isl (islandOf 3670016) ⟨.reset, false, false⟩ }]).dev, rfl,
     by decide +kernel⟩,
   ⟨tWith [dev fun d => { d with isl := tset d.isl (islandOf 3670016) ⟨.reset, false, false⟩ }], 0, if (tWith [dev fun d =>
     { d with isl := tset d.isl (islandOf 3670016) ⟨.reset, false, false⟩ }]).dev.pwr.released = true then (tWith [dev fun d
     => { d with isl := tset d.isl (islandOf 3670016) ⟨.reset, false, false⟩ }]).dev.set Reg.GLB_STATUS.ISL_RST_WR 1 else
     (tWith [dev fun d => { d with isl := tset d.isl (islandOf 3670016) ⟨.reset, false, false⟩ }]).dev, rfl,
     by decide +kernel⟩,
   ⟨tWith [dev fun d => { d with isl := tset d.isl (islandOf 393216) ⟨.reset, false, false⟩ }], if (tWith [dev fun d =>
     { d with isl := tset d.isl (islandOf 393216) ⟨.reset, false, false⟩ }]).dev.pwr.released = true then (tWith [dev fun d
     => { d with isl := tset d.isl (islandOf 393216) ⟨.reset, false, false⟩ }]).dev.set Reg.GLB_STATUS.ISL_RST_WR 1 else
     (tWith [dev fun d => { d with isl := tset d.isl (islandOf 393216) ⟨.reset, false, false⟩ }]).dev, rfl,
     by decide +kernel⟩,
   ⟨tWith [dev fun d => { d with isl := tset d.isl islHst ⟨.reset, false, false⟩ }], 0, if (tWith [dev fun d =>
     { d with isl := tset d.isl islHst ⟨.reset, false, false⟩ }]).dev.pwr.released = true then (tWith [dev fun d =>
     { d with isl := tset d.isl islHst ⟨.reset, false, false⟩ }]).dev.set Reg.GLB_STATUS.ISL_RST_WR 1 else (tWith [dev fun d
     => { d with isl := tset d.isl islHst ⟨.reset, false, false⟩ }]).dev, rfl, by decide +kernel⟩,
   ⟨tWith [dev fun d => { d with isl := tset d.isl (islandOf (262144 + 0 * 8192)) ⟨.reset, false, false⟩ }], 0, if (tWith [dev
     fun d => { d with isl := tset d.isl (islandOf (262144 + 0 * 8192)) ⟨.reset, false, false⟩ }]).dev.pwr.released = true
     then (tWith [dev fun d => { d with isl := tset d.isl (islandOf (262144 + 0 * 8192)) ⟨.reset, false, false⟩ }]).dev.set
     Reg.GLB_STATUS.ISL_RST_WR 1 else (tWith [dev fun d =>
     { d with isl := tset d.isl (islandOf (262144 + 0 * 8192)) ⟨.reset, false, false⟩ }]).dev, rfl, by decide +kernel⟩,
   ⟨tWith [dev fun d => { d with isl := tset d.isl (islandOf 2097152) ⟨.reset, false, false⟩ }], 2097152, if (tWith [dev fun d
     => { d with isl := tset d.isl (islandOf 2097152) ⟨.reset, false, false⟩ }]).dev.pwr.released = true then (tWith [dev
     fun d => { d with isl := tset d.isl (islandOf 2097152) ⟨.reset, false, false⟩ }]).dev.set Reg.GLB_STATUS.ISL_RST_WR 1
     else (tWith [dev fun d => { d with isl := tset d.isl (islandOf 2097152) ⟨.reset, false, false⟩ }]).dev, rfl,
     by decide +kernel⟩,
   ⟨tWith [dev fun d => { d with isl := tset d.isl (islandOf 3803136) ⟨.reset, false, false⟩ }], 3803136, if (tWith [dev fun d
     => { d with isl := tset d.isl (islandOf 3803136) ⟨.reset, false, false⟩ }]).dev.pwr.released = true then (tWith [dev
     fun d => { d with isl := tset d.isl (islandOf 3803136) ⟨.reset, false, false⟩ }]).dev.set Reg.GLB_STATUS.ISL_RST_WR 1
     else (tWith [dev fun d => { d with isl := tset d.isl (islandOf 3803136) ⟨.reset, false, false⟩ }]).dev, rfl,
     by decide +kernel⟩⟩

/-- The hypotheses of BusAccess, clause by clause, at states and operands that meet them. -/
theorem witness_BusAccess :
(∃ (a : Nat), a % 4 ≠ 0 ∨ bar0Bytes ≤ a ∨ (fieldsAt a).isEmpty = true) ∧
(∃ (s : State) (a : Nat), a % 4 = 0 ∧ (fieldsAt a).isEmpty = false ∧ (1114112 ≤ a ∧ a < 1179648 ∨ 1245184 ≤ a ∧ a < 2097152)
      ∧ s.dev.up (islandOf a) = true) ∧
(∃ (a : Nat), (fieldsAt (a / 4 * 4)).isEmpty = true) ∧
(∃ (f : Field), f.fits = true) :=
  ⟨⟨1, by decide +kernel⟩,
   ⟨tSt, 1114112, by decide +kernel⟩,
   ⟨1048572, by decide +kernel⟩,
   ⟨Reg.GLB_SPLIT.REJ, by decide +kernel⟩⟩

/-- The hypotheses of ShadowReads, clause by clause, at states and operands that meet them. -/
theorem witness_ShadowReads :
(∃ (s : State), s.dev.up (islandOf 65544) = true) ∧
(∃ (s : State), s.dev.up (islandOf 65556) = true) ∧
(∃ (s : State), s.dev.pwr.released = true) ∧
(∃ (s : State) (a : Nat), isHigh a = true ∧ a % 4 = 0 ∧ a < bar0Bytes ∧ (fieldsAt a).isEmpty = false ∧ s.dev.up (islandOf a)
      = true) ∧
(∃ (s : State) (a : Nat), a ∈ [131120, 131124, 131128, 131132] ∧ s.dev.up (islandOf a) = true) ∧
(∃ (p : Path) (q : Path), q ≠ p) ∧
(∃ (d : Dev) (p : Path) (hi : Nat), tget (d.path p).fresh hi = 0) :=
  ⟨⟨tSt, by decide +kernel⟩,
   ⟨tSt, by decide +kernel⟩,
   ⟨tSt, by decide +kernel⟩,
   ⟨tSt, 65548, by decide +kernel⟩,
   ⟨tSt, 131120, by decide +kernel⟩,
   ⟨Path.host, Path.cmd, by decide +kernel⟩,
   ⟨tSt.dev, Path.host, 65548, by decide +kernel⟩⟩

/-- The hypotheses of SplitAndLock, clause by clause, at states and operands that meet them. -/
theorem witness_SplitAndLock :
(∃ (s : State), s.dev.pwr.released = true) ∧
(∃ (s : State), s.dev.pwr.released = true ∧ s.dev.on Reg.GLB_LOCK.LOCK = true) ∧
(∃ (s : State) (f : Field), s.dev.pwr.released = true ∧ s.dev.on Reg.GLB_LOCK.LOCK = true ∧ f ∈ splitFields) ∧
(∃ (s : State), s.dev.pwr.released = true ∧ s.dev.on Reg.GLB_LOCK.LOCK = false) ∧
(∃ (s : State) (f : Field), s.dev.pwr.released = true ∧ s.dev.on Reg.GLB_LOCK.LOCK = false ∧ f ∈ splitFields) :=
  ⟨⟨tSt, by decide +kernel⟩,
   ⟨tWith [fun s => { s with dev.pwr.released := true }, put Reg.GLB_LOCK.LOCK 1], by decide +kernel⟩,
   ⟨tWith [fun s => { s with dev.pwr.released := true }, put Reg.GLB_LOCK.LOCK 1],
     { reg := { base := 32, stride := 0, count := 1, sub := 1, substride := 0 },   lo := 0,   width := 2,   acc := Sys2Proof.Access.rwl,   reset := 1,   keeps := { h := true, s := true, i := true, d := true } },
     by decide +kernel⟩,
   ⟨tSt, by decide +kernel⟩,
   ⟨tSt,
     { reg := { base := 32, stride := 0, count := 1, sub := 1, substride := 0 },   lo := 0,   width := 2,   acc := Sys2Proof.Access.rwl,   reset := 1,   keeps := { h := true, s := true, i := true, d := true } },
     by decide +kernel⟩⟩

/-- The hypotheses of PowerOn, clause by clause, at states and operands that meet them. -/
theorem witness_PowerOn :
(∃ (tj : Int), max 118 (min 122 Config.tripLevel) ≤ tj) ∧
(∃ (tj : Int), tj ≤ max 108 (min 112 Config.releaseLevel)) ∧
(∃ (tj : Int), max 108 (min 112 Config.releaseLevel) < tj ∧ tj < max 118 (min 122 Config.tripLevel)) ∧
(∃ (s : State), s.dev.pwr.released = false ∧ s.dev.pwr.testEn = false ∧ s.dev.pwr.hot = false) ∧
(∃ (s : State), s.dev.pwr.released = true ∨ s.dev.pwr.testEn = true ∨ s.dev.pwr.hot = true) ∧
(∃ (s : State), s.dev.pwr.released = true ∧ s.dev.on Reg.GLB_STATUS.READY = false ∧ s.dev.on Reg.HMP_STATUS.SELFTEST_DONE =
      true ∧ s.dev.on Reg.KEY_STATUS.LOADED = true ∧ (∀ (i : ℕ), i ∈ islands → s.dev.up i = true) ∧ (s.dev.on
      Reg.GLB_STATUS.XAORN_RUN = true ∨ s.dev.on Reg.GLB_STATUS.XFAIL = true)) ∧
(∃ (s : State), s.dev.pwr.released = false ∨ s.dev.on Reg.GLB_STATUS.READY = true ∨ s.dev.on Reg.HMP_STATUS.SELFTEST_DONE =
      false ∨ s.dev.on Reg.KEY_STATUS.LOADED = false ∨ (∃ i, i ∈ islands ∧ s.dev.up i = false) ∨ s.dev.on
      Reg.GLB_STATUS.XAORN_RUN = false ∧ s.dev.on Reg.GLB_STATUS.XFAIL = false) :=
  ⟨⟨122, by omega⟩,
   ⟨108, by omega⟩,
   ⟨113, by omega, by omega⟩,
   ⟨tWith [fun s => { s with dev.pwr.released := false }, fun s => { s with dev.pwr.testEn := false }, fun s =>
     { s with dev.pwr.hot := false }], by decide +kernel⟩,
   ⟨tSt, by decide +kernel⟩,
   ⟨tWith [fun s => { s with dev.pwr.released := true }, put Reg.GLB_STATUS.READY 0, put Reg.HMP_STATUS.SELFTEST_DONE 1, put
     Reg.KEY_STATUS.LOADED 1, put Reg.GLB_STATUS.XAORN_RUN 1], by decide +kernel⟩,
   ⟨tSt, by decide +kernel⟩⟩

/-- The hypotheses of Clocks, clause by clause, at states and operands that meet them. -/
theorem witness_Clocks :
(∃ (s : State) (i : Nat) (d : Dev), i < 36 ∧ s.dev.pwr.released = true ∧ (tget s.dev.isl i).clkBad = false ∧ d =
      (s.dev.event 16 i i 0).cause intGlb 6 i 0 ∧ islMode s.dev i = IslMode.run) ∧
(∃ (s : State) (i : Nat) (d : Dev), i < 36 ∧ s.dev.pwr.released = true ∧ (tget s.dev.isl i).clkBad = false ∧ d =
      (s.dev.event 16 i i 0).cause intGlb 6 i 0 ∧ islMode s.dev i = IslMode.reset) ∧
(∃ (s : State) (i : Nat), 36 ≤ i ∨ s.dev.pwr.released = false ∨ islMode s.dev i = IslMode.gated ∨ islMode s.dev i =
      IslMode.off ∨ (tget s.dev.isl i).clkBad = true) ∧
(∃ (s : State) (i : Nat), 36 ≤ i ∨ (tget s.dev.isl i).clkBad = false) ∧
(∃ (s : State) (i : Nat) (d : Dev), i < 36 ∧ (tget s.dev.isl i).clkBad = true ∧ (d = s.dev.modIsl i fun x ↦
      { x with clkBad := false }) ∧ (islMode s.dev i ≠ IslMode.reset ∨ (tget s.dev.isl i).held = true ∨ i = 0 ∧
      (s.dev.pwr.perstLow = true ∨ s.dev.pwr.hstHold = true))) ∧
(∃ (s : State) (i : Nat) (d : Dev), i < 36 ∧ (tget s.dev.isl i).clkBad = true ∧ (d = s.dev.modIsl i fun x ↦
      { x with clkBad := false }) ∧ islMode s.dev i = IslMode.reset ∧ (tget s.dev.isl i).held = false ∧ (i ≠ 0 ∨
      s.dev.pwr.perstLow = false ∧ s.dev.pwr.hstHold = false) ∧ wideReaches s.dev i = false) ∧
(∃ (s : State) (i : Nat) (d : Dev), i < 36 ∧ (tget s.dev.isl i).clkBad = true ∧ (d = s.dev.modIsl i fun x ↦
      { x with clkBad := false }) ∧ islMode s.dev i = IslMode.reset ∧ (tget s.dev.isl i).held = false ∧ (i ≠ 0 ∨
      s.dev.pwr.perstLow = false ∧ s.dev.pwr.hstHold = false) ∧ wideReaches s.dev i = true) ∧
(∃ (s : State) (i : Nat), mayLeave s.dev i = true ∧ wideReaches s.dev i = false) ∧
(∃ (s : State) (i : Nat), mayLeave s.dev i = true ∧ wideReaches s.dev i = true) ∧
(∃ (s : State) (i : Nat), mayLeave s.dev i = true) ∧
(∃ (s : State) (i : Nat) (j : Nat), mayLeave s.dev i = true ∧ j ≠ i) ∧
(∃ (s : State) (i : Nat), mayLeave s.dev i = false) ∧
(∃ (s : State), s.dev.pwr.released = false ∨ s.dev.pwr.refBad = true) ∧
(∃ (s : State), s.dev.pwr.released = false ∨ s.dev.pwr.refBad = false) ∧
(∃ (s : State), s.dev.pwr.released = true ∧ s.dev.pwr.refBad = false ∧ s.dev.on Reg.TKP_CTRL.CLKSRC = false ∧
      s.dev.pwr.intOsc = false) ∧
(∃ (s : State), s.dev.pwr.released = true ∧ s.dev.pwr.refBad = false ∧ (s.dev.on Reg.TKP_CTRL.CLKSRC = true ∨
      s.dev.pwr.intOsc = true)) ∧
(∃ (s : State), s.dev.pwr.released = false ∨ s.dev.pwr.oscBad = true) ∧
(∃ (s : State), s.dev.pwr.released = false ∨ s.dev.pwr.oscBad = false) ∧
(∃ (s : State) (d : Dev), s.dev.pwr.released = true ∧ s.dev.pwr.oscBad = false ∧ (d = (s.dev.set Reg.TKP_STATUS.OSC10M_OK
      0).modPwr fun p ↦ { p with oscBad := true }) ∧ (s.dev.on Reg.TKP_CTRL.CLKSRC = false ∨ s.dev.pwr.intOsc = true)) ∧
(∃ (s : State) (d : Dev), s.dev.pwr.released = true ∧ s.dev.pwr.oscBad = false ∧ (d = (s.dev.set Reg.TKP_STATUS.OSC10M_OK
      0).modPwr fun p ↦ { p with oscBad := true }) ∧ s.dev.on Reg.TKP_CTRL.CLKSRC = true ∧ s.dev.pwr.intOsc = false) ∧
(∃ (src : Nat), src < 2) ∧
(∃ (src : Nat) (i : Nat), src < 2 ∧ i ∈ islands) ∧
(∃ (src : Nat) (i : Nat), src < 2 ∧ i ∈ islands) ∧
(∃ (s : State), s.dev.pwr.released = true ∧ s.dev.pwr.refBad = true ∧ s.dev.pwr.intOsc = false) ∧
(∃ (s : State), s.dev.pwr.released = true ∧ s.dev.pwr.oscBad = true ∧ s.dev.pwr.intOsc = false) ∧
(∃ (s : State) (osc : Bool), s.dev.pwr.released = true ∧ s.dev.pwr.intOsc = true ∧ (if osc = true then s.dev.pwr.oscBad else
      s.dev.pwr.refBad) = true) :=
  ⟨⟨tSt, 3, ((tSt).dev.event 16 3 3 0).cause intGlb 6 3 0, by decide +kernel, by decide +kernel, by decide +kernel, rfl,
     by decide +kernel⟩,
   ⟨tWith [dev fun d => { d with isl := tset d.isl 3 ⟨.reset, true, false⟩ }, fun s => { s with dev.pwr.released := true }, fun
     s => { s with dev.isl := tset s.dev.isl 3 { tget s.dev.isl 3 with clkBad := false } }], 3, ((tWith [dev fun d =>
     { d with isl := tset d.isl 3 ⟨.reset, true, false⟩ }, fun s => { s with dev.pwr.released := true }, fun s =>
     { s with dev.isl := tset s.dev.isl 3 { tget s.dev.isl 3 with clkBad := false } }]).dev.event 16 3 3 0).cause intGlb 6 3
     0, by decide +kernel, by decide +kernel, by decide +kernel, rfl, by decide +kernel⟩,
   ⟨tWith [fun s => { s with dev.pwr.released := false }], 3, by decide +kernel⟩,
   ⟨tSt, 3, by decide +kernel⟩,
   ⟨tWith [fun s => { s with dev.isl := tset s.dev.isl 3 { tget s.dev.isl 3 with clkBad := true } }], 3, (tWith [fun s =>
     { s with dev.isl := tset s.dev.isl 3 { tget s.dev.isl 3 with clkBad := true } }]).dev.modIsl 3 fun x ↦
     { x with clkBad := false }, by decide +kernel, by decide +kernel, rfl, by decide +kernel⟩,
   ⟨tWith [dev fun d => { d with isl := tset d.isl 3 ⟨.reset, true, false⟩ }], 3, (tWith [dev fun d =>
     { d with isl := tset d.isl 3 ⟨.reset, true, false⟩ }]).dev.modIsl 3 fun x ↦ { x with clkBad := false },
     by decide +kernel, by decide +kernel, rfl, by decide +kernel⟩,
   ⟨tWith [dev fun d => { d with isl := tset d.isl 3 ⟨.reset, true, false⟩ }, dev fun d => d.modPwr fun p =>
     { p with wide := .srst }], 3, (tWith [dev fun d => { d with isl := tset d.isl 3 ⟨.reset, true, false⟩ }, dev fun d =>
     d.modPwr fun p => { p with wide := .srst }]).dev.modIsl 3 fun x ↦ { x with clkBad := false }, by decide +kernel,
     by decide +kernel, rfl, by decide +kernel⟩,
   ⟨tWith [dev fun d => { d with isl := tset d.isl 3 ⟨.reset, false, false⟩ }], 3, by decide +kernel⟩,
   ⟨tWith [dev fun d => { d with isl := tset d.isl 3 ⟨.reset, false, false⟩ }, dev fun d => d.modPwr fun p =>
     { p with wide := .srst }], 3, by decide +kernel⟩,
   ⟨tWith [dev fun d => { d with isl := tset d.isl 3 ⟨.reset, false, false⟩ }], 3, by decide +kernel⟩,
   ⟨tWith [dev fun d => { d with isl := tset d.isl 3 ⟨.reset, false, false⟩ }], 3, 0, by decide +kernel⟩,
   ⟨tSt, 3, by decide +kernel⟩,
   ⟨tWith [fun s => { s with dev.pwr.released := false }], by decide +kernel⟩,
   ⟨tSt, by decide +kernel⟩,
   ⟨tSt, by decide +kernel⟩,
   ⟨tWith [fun s => { s with dev.pwr.released := true }, fun s => { s with dev.pwr.refBad := false }, put Reg.TKP_CTRL.CLKSRC
     1], by decide +kernel⟩,
   ⟨tWith [fun s => { s with dev.pwr.released := false }], by decide +kernel⟩,
   ⟨tSt, by decide +kernel⟩,
   ⟨tSt, ((tSt).dev.set Reg.TKP_STATUS.OSC10M_OK 0).modPwr fun p ↦ { p with oscBad := true }, by decide +kernel,
     by decide +kernel, rfl, by decide +kernel⟩,
   ⟨tWith [fun s => { s with dev.pwr.released := true }, fun s => { s with dev.pwr.oscBad := false }, put Reg.TKP_CTRL.CLKSRC
     1, fun s => { s with dev.pwr.intOsc := false }], ((tWith [fun s => { s with dev.pwr.released := true }, fun s =>
     { s with dev.pwr.oscBad := false }, put Reg.TKP_CTRL.CLKSRC 1, fun s => { s with dev.pwr.intOsc := false }]).dev.set
     Reg.TKP_STATUS.OSC10M_OK 0).modPwr fun p ↦ { p with oscBad := true }, by decide +kernel, by decide +kernel, rfl,
     by decide +kernel⟩,
   ⟨0, by decide +kernel⟩,
   ⟨0, 0, by decide +kernel⟩,
   ⟨0, 0, by decide +kernel⟩,
   ⟨tWith [fun s => { s with dev.pwr.released := true }, fun s => { s with dev.pwr.refBad := true }, fun s =>
     { s with dev.pwr.intOsc := false }], by decide +kernel⟩,
   ⟨tWith [fun s => { s with dev.pwr.released := true }, fun s => { s with dev.pwr.oscBad := true }, fun s =>
     { s with dev.pwr.intOsc := false }], by decide +kernel⟩,
   ⟨tWith [dev fun d => d.modPwr fun p => { p with refBad := true }, fun s => { s with dev.pwr.released := true }, fun s =>
     { s with dev.pwr.intOsc := true }], false, by decide +kernel⟩⟩

/-- The hypotheses of Resets, clause by clause, at states and operands that meet them. -/
theorem witness_Resets :
(∃ (s : State), s.dev.pwr.released = true ∧ s.dev.pwr.perstLow = false) ∧
(∃ (s : State), s.dev.pwr.released = false ∧ s.dev.pwr.perstLow = false) ∧
(∃ (s : State), s.dev.pwr.perstLow = true) ∧
(∃ (s : State), s.dev.pwr.perstLow = false) ∧
(∃ (s : State), s.dev.pwr.perstLow = true ∧ s.dev.pwr.released = false) ∧
(∃ (s : State), s.dev.pwr.perstLow = true ∧ s.dev.pwr.released = true) ∧
(∃ (s : State), s.dev.pwr.released = false ∨ s.dev.pwr.perstLow = true) ∧
(∃ (s : State), s.dev.pwr.hstHold = false ∨ s.dev.pwr.doze ≠ DozePhase.awake) ∧
(∃ (s : State), s.dev.pwr.hstHold = true ∧ s.dev.pwr.doze = DozePhase.awake) ∧
(∃ (s : State), s.dev.pwr.released = false) ∧
(∃ (s : State) (v : Word32), s.dev.pwr.released = true ∧ ¬(bitOf v 0 = true ∧ BitVec.toNat v / 2 ^ 16 = 21330)) ∧
(∃ (s : State) (v : Word32), s.dev.pwr.released = true ∧ bitOf v 0 = true ∧ BitVec.toNat v / 2 ^ 16 = 21330 ∧ s.dev.pwr.doze
      ≠ DozePhase.awake) ∧
(∃ (s : State) (v : Word32), s.dev.pwr.released = true ∧ bitOf v 0 = true ∧ BitVec.toNat v / 2 ^ 16 = 21330 ∧ s.dev.pwr.doze
      = DozePhase.awake ∧ (s.dev.pwr.wide = ResetReq.srst ∨ s.dev.pwr.wide = ResetReq.hrst1)) ∧
(∃ (s : State) (v : Word32), s.dev.pwr.released = true ∧ bitOf v 0 = true ∧ BitVec.toNat v / 2 ^ 16 = 21330 ∧ s.dev.pwr.doze
      = DozePhase.awake ∧ s.dev.pwr.wide ≠ ResetReq.srst ∧ s.dev.pwr.wide ≠ ResetReq.hrst1) ∧
(∃ (s : State) (hi : Bool) (v : Word32) (is : List Nat), (is = if hi = true then List.filterMap (fun k ↦ if bitOf v k = true
      then some (32 + k) else none) (List.range 4) else List.filterMap (fun k ↦ if bitOf v k = true then some k else none)
      (List.range 32)) ∧ (s.dev.pwr.released = false ∨ is = [])) ∧
(∃ (s : State) (hi : Bool) (v : Word32) (is : List Nat), (is = if hi = true then List.filterMap (fun k ↦ if bitOf v k = true
      then some (32 + k) else none) (List.range 4) else List.filterMap (fun k ↦ if bitOf v k = true then some k else none)
      (List.range 32)) ∧ s.dev.pwr.released = true ∧ is ≠ [] ∧ s.dev.pwr.doze ≠ DozePhase.awake) ∧
(∃ (s : State) (hi : Bool) (v : Word32) (is : List Nat), (is = if hi = true then List.filterMap (fun k ↦ if bitOf v k = true
      then some (32 + k) else none) (List.range 4) else List.filterMap (fun k ↦ if bitOf v k = true then some k else none)
      (List.range 32)) ∧ s.dev.pwr.released = true ∧ is ≠ [] ∧ s.dev.pwr.doze = DozePhase.awake) ∧
(∃ (s : State) (v : Word32), s.dev.pwr.released = true ∧ s.dev.pwr.doze = DozePhase.awake ∧ (∀ (k : ℕ), k ∈ ([1, 2, 3] :
      List Nat) → bitOf v k = false) ∧ bitOf v 0 = true ∧ islMode s.dev 32 = IslMode.run) :=
  ⟨⟨tSt, by decide +kernel⟩,
   ⟨tWith [fun s => { s with dev.pwr.released := false }, fun s => { s with dev.pwr.perstLow := false }], by decide +kernel⟩,
   ⟨tWith [fun s => { s with dev.pwr.perstLow := true }], by decide +kernel⟩,
   ⟨tSt, by decide +kernel⟩,
   ⟨tWith [fun s => { s with dev.pwr.perstLow := true }, fun s => { s with dev.pwr.released := false }], by decide +kernel⟩,
   ⟨tWith [fun s => { s with dev.pwr.perstLow := true }, fun s => { s with dev.pwr.released := true }], by decide +kernel⟩,
   ⟨tWith [fun s => { s with dev.pwr.released := false }], by decide +kernel⟩,
   ⟨tSt, by decide +kernel⟩,
   ⟨tWith [fun s => { s with dev.pwr.hstHold := true }, fun s => { s with dev.pwr.doze := DozePhase.awake }],
     by decide +kernel⟩,
   ⟨tWith [fun s => { s with dev.pwr.released := false }], by decide +kernel⟩,
   ⟨tSt, 1, by decide +kernel⟩,
   ⟨tWith [dev fun d => d.modPwr fun p => { p with doze := .asleep }], 1397882881, by decide +kernel⟩,
   ⟨tWith [fun s => { s with dev.pwr.released := true }, fun s => { s with dev.pwr.doze := DozePhase.awake }, fun s =>
     { s with dev.pwr.wide := ResetReq.srst }], 1397882881, by decide +kernel⟩,
   ⟨tSt, 1397882881, by decide +kernel⟩,
   ⟨tSt, false, 0, [], by decide +kernel⟩,
   ⟨tWith [dev fun d => d.modPwr fun p => { p with doze := .asleep }], false, 1397882881, [0, 17, 20, 22, 24, 25, 28, 30],
     by decide +kernel⟩,
   ⟨tSt, false, 1397882881, [0, 17, 20, 22, 24, 25, 28, 30], by decide +kernel⟩,
   ⟨tSt, 1, by decide +kernel⟩⟩

/-- The hypotheses of LinksAndDoze, clause by clause, at states and operands that meet them. -/
theorem witness_LinksAndDoze :
(∃ (s : State), s.dev.up islHst = true ∧ s.dev.pwr.perstLow = false ∧ s.dev.on Reg.HIF_STATUS.LINK = false) ∧
(∃ (s : State), s.dev.up islHst = false ∨ s.dev.pwr.perstLow = true ∨ s.dev.on Reg.HIF_STATUS.LINK = true) ∧
(∃ (s : State) (up : Bool), s.dev.up islMgt = true) ∧
(∃ (s : State) (up : Bool), s.dev.up islMgt = false) ∧
(∃ (s : State), s.dev.pwr.released = false ∨ s.dev.pwr.doze = DozePhase.entering ∨ s.dev.pwr.doze = DozePhase.waitKey ∨
      s.dev.pwr.doze = DozePhase.asleep) ∧
(∃ (s : State), s.dev.pwr.released = true ∧ (s.dev.pwr.doze = DozePhase.awake ∧ (resetRuns s.dev = true ∨ s.dev.on
      Reg.GLB_STATUS.UPDATING = true ∨ s.dev.on Reg.GLB_STATUS.PFW = true) ∨ s.dev.pwr.doze = DozePhase.waking)) ∧
(∃ (s : State), s.dev.pwr.released = true ∧ s.dev.pwr.doze = DozePhase.awake ∧ resetRuns s.dev = false ∧ s.dev.on
      Reg.GLB_STATUS.UPDATING = false ∧ s.dev.on Reg.GLB_STATUS.PFW = false ∧ s.dev.keys.cmd ≠ none) ∧
(∃ (s : State), s.dev.pwr.released = true ∧ s.dev.pwr.doze = DozePhase.awake ∧ resetRuns s.dev = false ∧ s.dev.on
      Reg.GLB_STATUS.UPDATING = false ∧ s.dev.on Reg.GLB_STATUS.PFW = false ∧ s.dev.keys.cmd = none) ∧
(∃ (i : Nat), i ∈ islands) ∧
(∃ (l : Nat), l < cmpLanes) ∧
(∃ (s : State), s.dev.pwr.doze = DozePhase.entering ∨ s.dev.pwr.doze = DozePhase.waitKey ∧ s.dev.keys.cmd = none) ∧
(∃ (s : State), s.dev.pwr.doze = DozePhase.awake ∨ s.dev.pwr.doze = DozePhase.asleep ∨ s.dev.pwr.doze = DozePhase.waking ∨
      s.dev.pwr.doze = DozePhase.waitKey ∧ s.dev.keys.cmd ≠ none) ∧
(∃ (d : Dev), d.pwr.doze = DozePhase.asleep) ∧
(∃ (d : Dev), d.pwr.doze = DozePhase.entering ∨ d.pwr.doze = DozePhase.waitKey) ∧
(∃ (d : Dev), d.pwr.doze = DozePhase.awake ∨ d.pwr.doze = DozePhase.waking) ∧
(∃ (s : State), s.dev.pwr.released = false) ∧
(∃ (s : State) (v : Word32) (d : Dev), s.dev.pwr.released = true ∧ d = s.dev.putWord 44 v ∧ (s.dev.pwr.doze ≠
      DozePhase.asleep ∨ d.on Reg.GLB_WAKE.TIMED = true ∧ s.dev.on Reg.GLB_WAKE.TIMED = true)) ∧
(∃ (s : State) (v : Word32) (d : Dev), s.dev.pwr.released = true ∧ d = s.dev.putWord 44 v ∧ s.dev.pwr.doze =
      DozePhase.asleep ∧ d.on Reg.GLB_WAKE.TIMED = false) ∧
(∃ (s : State) (v : Word32) (d : Dev), s.dev.pwr.released = true ∧ d = s.dev.putWord 44 v ∧ s.dev.pwr.doze =
      DozePhase.asleep ∧ d.on Reg.GLB_WAKE.TIMED = true ∧ s.dev.on Reg.GLB_WAKE.TIMED = false) ∧
(∃ (s : State), s.dev.pwr.timed = none ∨ s.dev.pwr.doze ≠ DozePhase.asleep) ∧
(∃ (s : State) (ns : Nat) (ep : Nat) (tol : Nat), s.dev.pwr.doze = DozePhase.asleep ∧ s.dev.pwr.timed = some (ns, ep, tol)) ∧
(∃ (s : State), s.dev.pwr.doze ≠ DozePhase.waking ∨ s.time.loc < s.dev.pwr.wakeFrom + 1200000) ∧
(∃ (s : State), s.dev.pwr.doze = DozePhase.waking ∧ s.dev.pwr.wakeFrom + 1200000 ≤ s.time.loc) :=
  ⟨⟨tSt, by decide +kernel⟩,
   ⟨tWith [dev fun d => { d with isl := tset d.isl islHst ⟨.reset, false, false⟩ }], by decide +kernel⟩,
   ⟨tSt, false, by decide +kernel⟩,
   ⟨tWith [dev fun d => { d with isl := tset d.isl islMgt ⟨.reset, false, false⟩ }], false, by decide +kernel⟩,
   ⟨tWith [fun s => { s with dev.pwr.released := false }], by decide +kernel⟩,
   ⟨tWith [fun s => { s with dev.pwr.released := true }, fun s => { s with dev.pwr.doze := DozePhase.awake }, put
     Reg.GLB_STATUS.UPDATING 1], by decide +kernel⟩,
   ⟨tWith [fun s => { s with dev.pwr.released := true }, fun s => { s with dev.pwr.doze := DozePhase.awake }, put
     Reg.GLB_STATUS.UPDATING 0, put Reg.GLB_STATUS.PFW 0, fun s => { s with dev.keys.cmd := some default }],
     by decide +kernel⟩,
   ⟨tSt, by decide +kernel⟩,
   ⟨0, by decide +kernel⟩,
   ⟨0, by decide +kernel⟩,
   ⟨tWith [fun s => { s with dev.pwr.doze := DozePhase.entering }, fun s => { s with dev.keys.cmd := none }],
     by decide +kernel⟩,
   ⟨tWith [fun s => { s with dev.pwr.doze := DozePhase.awake }, fun s => { s with dev.keys.cmd := some default }],
     by decide +kernel⟩,
   ⟨(tWith [fun s => { s with dev.pwr.doze := DozePhase.asleep }]).dev, by decide +kernel⟩,
   ⟨(tWith [fun s => { s with dev.pwr.doze := DozePhase.entering }]).dev, by decide +kernel⟩,
   ⟨tSt.dev, by decide +kernel⟩,
   ⟨tWith [fun s => { s with dev.pwr.released := false }], by decide +kernel⟩,
   ⟨tSt, 0, (tSt).dev.putWord 44 0, by decide +kernel, rfl, by decide +kernel⟩,
   ⟨tWith [fun s => { s with dev.pwr.released := true }, fun s => { s with dev.pwr.doze := DozePhase.asleep }], 0, (tWith [fun
     s => { s with dev.pwr.released := true }, fun s => { s with dev.pwr.doze := DozePhase.asleep }]).dev.putWord 44 0,
     by decide +kernel, rfl, by decide +kernel⟩,
   ⟨tWith [fun s => { s with dev.pwr.released := true }, fun s => { s with dev.pwr.doze := DozePhase.asleep }, put
     Reg.GLB_WAKE.TIMED 0], 4294967295, (tWith [fun s => { s with dev.pwr.released := true }, fun s =>
     { s with dev.pwr.doze := DozePhase.asleep }, put Reg.GLB_WAKE.TIMED 0]).dev.putWord 44 4294967295, by decide +kernel,
     rfl, by decide +kernel⟩,
   ⟨tSt, by decide +kernel⟩,
   ⟨tWith [fun s => { s with dev.pwr.doze := DozePhase.asleep }, fun s => { s with dev.pwr.timed := some (0, 0, 0) }], 0, 0, 0,
     by decide +kernel⟩,
   ⟨tSt, by decide +kernel⟩,
   ⟨tWith [fun s => { s with dev.pwr.doze := DozePhase.waking }], by decide +kernel⟩⟩

/-- The hypotheses of GridTime, clause by clause, at states and operands that meet them. -/
theorem witness_GridTime :
(∃ (s : State), s.dev.pwr.released = true ∧ s.dev.on Reg.TKP_ADJ_STAT.PEND = false) ∧
(∃ (s : State), s.dev.pwr.released = true ∧ s.dev.on Reg.TKP_ADJ_STAT.PEND = true) ∧
(∃ (rem : Nat), rem < 1000000) ∧
(∃ (s : State), s.dev.pwr.released = false) ∧
(∃ (s : State), s.dev.pwr.released = true ∧ s.dev.tkp.mode ≠ 1) ∧
(∃ (s : State), s.dev.pwr.released = true ∧ s.dev.tkp.mode = 1) ∧
(∃ (s : State), s.dev.pwr.released = true ∧ s.dev.on Reg.TKP_ADJ_STAT.PEND = true) ∧
(∃ (s : State), s.dev.pwr.released = true ∧ s.dev.on Reg.TKP_ADJ_STAT.PEND = false) ∧
(∃ (s : State), s.dev.pwr.released = false) :=
  ⟨⟨tSt, by decide +kernel⟩,
   ⟨tWith [fun s => { s with dev.pwr.released := true }, put Reg.TKP_ADJ_STAT.PEND 1], by decide +kernel⟩,
   ⟨0, by decide +kernel⟩,
   ⟨tWith [fun s => { s with dev.pwr.released := false }], by decide +kernel⟩,
   ⟨tWith [fun s => { s with dev.pwr.released := true }, fun s => { s with dev.tkp.mode := (1 + 1) }], by decide +kernel⟩,
   ⟨tSt, by decide +kernel⟩,
   ⟨tWith [fun s => { s with dev.pwr.released := true }, put Reg.TKP_ADJ_STAT.PEND 1], by decide +kernel⟩,
   ⟨tSt, by decide +kernel⟩,
   ⟨tWith [fun s => { s with dev.pwr.released := false }], by decide +kernel⟩⟩

/-- The hypotheses of TimedActions, clause by clause, at states and operands that meet them. -/
theorem witness_TimedActions :
(∃ (d : Nat), d < 2 ^ 31) ∧
(∃ (now : Nat) (d : Nat) (span : Nat), 0 < d ∧ d ≤ 2 ^ 31 ∧ d ≤ now ∧ 0 < span) ∧
(∃ (now : Nat) (d : Nat), d < 2 ^ 47 ∧ now + d < 2 ^ 48) ∧
(∃ (now : Nat) (d : Nat) (span : Nat), 0 < d ∧ d ≤ 2 ^ 47 ∧ d ≤ now ∧ now < 2 ^ 48 ∧ 0 < span) ∧
(∃ (s : State), s.dev.on Reg.TKP_ADJ_STAT.PEND = false) ∧
(∃ (s : State), s.dev.on Reg.TKP_ADJ_STAT.PEND = true ∧ verdictNow s.time s.dev (s.dev.get Reg.TKP_ADJ_T.ST) (s.dev.get
      Reg.TKP_ADJ_TE.EPOCH) (s.dev.get Reg.TKP_ADJ_TE.LATE_TOL) = Verdict.wait) ∧
(∃ (s : State) (v : Verdict), s.dev.on Reg.TKP_ADJ_STAT.PEND = true ∧ verdictNow s.time s.dev (s.dev.get Reg.TKP_ADJ_T.ST)
      (s.dev.get Reg.TKP_ADJ_TE.EPOCH) (s.dev.get Reg.TKP_ADJ_TE.LATE_TOL) = v ∧ v ≠ Verdict.wait) :=
  ⟨⟨0, by decide +kernel⟩,
   ⟨1, 1, 1, by decide +kernel⟩,
   ⟨0, 0, by decide +kernel⟩,
   ⟨1, 1, 1, by decide +kernel⟩,
   ⟨tSt, by decide +kernel⟩,
   ⟨tWith [put Reg.TKP_ADJ_T.ST (10^11 % 2^32 + 10), put Reg.TKP_ADJ_STAT.PEND 1], by decide +kernel⟩,
   ⟨tWith [put Reg.TKP_ADJ_STAT.PEND 1], Sys2Proof.Machine.Verdict.expired, by decide +kernel⟩⟩

/-- The hypotheses of References, clause by clause, at states and operands that meet them. -/
theorem witness_References :
(∃ (s : State) (n : Nat) (x : TimeSample), s.dev.pwr.released = true ∧ n < 4 ∧ s.dev.getN Reg.TKP_REFn_CFG.SRC n ≠ 0 ∧
      (s.dev.get Reg.TKP_STATUS.STATE ≠ svLocked ∨ s.dev.get Reg.TKP_GATE.OUTLIER = 0 ∨ (s.dev.on Reg.TKP_CTRL.ASYM_EN =
      true ∧ s.dev.get Reg.TKP_ASYM.THR ≠ 0 ∧ ∃ a b, x.rtd = some a ∧ (s.dev.ref n).filtRtd = some b ∧ s.dev.get
      Reg.TKP_ASYM.THR * 100 ≤ (((a : Nat) : Int) - ((b : Nat) : Int)).natAbs) ∨ ∀ (f : ℤ), ((s.dev.ref n).jump.orElse fun x
      ↦ (s.dev.ref n).filt) = some f → (x.offset - sint 32 (s.dev.getN Reg.TKP_REFn_ASYM.CORR n) - f).natAbs ≤ s.dev.get
      Reg.TKP_GATE.OUTLIER * 4)) ∧
(∃ (s : State) (n : Nat) (x : TimeSample) (f : Int), s.dev.pwr.released = true ∧ n < 4 ∧ s.dev.getN Reg.TKP_REFn_CFG.SRC n ≠
      0 ∧ s.dev.get Reg.TKP_STATUS.STATE = svLocked ∧ s.dev.get Reg.TKP_GATE.OUTLIER ≠ 0 ∧ ((s.dev.ref n).jump.orElse fun x
      ↦ (s.dev.ref n).filt) = some f ∧ s.dev.get Reg.TKP_GATE.OUTLIER * 4 < (x.offset - sint 32 (s.dev.getN
      Reg.TKP_REFn_ASYM.CORR n) - f).natAbs ∧ (s.dev.on Reg.TKP_CTRL.ASYM_EN = false ∨ s.dev.get Reg.TKP_ASYM.THR = 0 ∨
      x.rtd = none ∨ (s.dev.ref n).filtRtd = none ∨ ∃ a b, x.rtd = some a ∧ (s.dev.ref n).filtRtd = some b ∧ (((a : Nat) :
      Int) - ((b : Nat) : Int)).natAbs < s.dev.get Reg.TKP_ASYM.THR * 100)) ∧
(∃ (s : State) (n : Nat), s.dev.getN Reg.TKP_REFn_CFG.SRC n = 0 ∨ 4 ≤ n ∨ s.dev.pwr.released = false) ∧
(∃ (s : State), servoIndex s.dev s.time.ns ≤ s.dev.tkp.lastUpd ∨ s.dev.pwr.released = false) ∧
(∃ (s : State), s.dev.pwr.released = true ∧ s.dev.tkp.lastUpd < servoIndex s.dev s.time.ns) :=
  ⟨⟨tWith [fun s => { s with dev.pwr.released := true }, putN Reg.TKP_REFn_CFG.SRC 0 ((0 + 1))], 0, (⟨5, none, none, true,
     none⟩ : TimeSample), by decide +kernel, by decide +kernel, by decide +kernel, .inl (by decide +kernel)⟩,
   ⟨tWith [dev fun d => d.modTkp fun k => { k with refs := tset k.refs 1 { tget k.refs 1 with filt := some 0 } }, fun s =>
     { s with dev.pwr.released := true }, putN Reg.TKP_REFn_CFG.SRC 1 ((0 + 1)), put Reg.TKP_STATUS.STATE svLocked, put
     Reg.TKP_GATE.OUTLIER ((0 + 1)), put Reg.TKP_CTRL.ASYM_EN 0], 1, (⟨5, none, none, true, none⟩ : TimeSample), 0,
     by decide +kernel, by decide +kernel, by decide +kernel, by decide +kernel, by decide +kernel, by decide +kernel, by decide +kernel, .inl (by decide +kernel)⟩,
   ⟨tSt, 0, by decide +kernel⟩,
   ⟨tWith [fun s => { s with dev.tkp.lastUpd := servoIndex s.dev s.time.ns }], by decide +kernel⟩,
   ⟨tSt, by decide +kernel⟩⟩

/-- The hypotheses of HostTimeout, clause by clause, at states and operands that meet them. -/
theorem witness_HostTimeout :
(∃ (s : State), s.dev.tkp.mode = 2 ∧ s.dev.get Reg.TKP_HO.HOST_TMO ≠ 0 ∧ s.dev.tkp.tmoSeen = false ∧ s.dev.tkp.hostLast +
      s.dev.get Reg.TKP_HO.HOST_TMO * 125000000 ≤ s.time.ns) ∧
(∃ (s : State), s.dev.tkp.mode ≠ 2 ∨ s.dev.get Reg.TKP_HO.HOST_TMO = 0 ∨ s.dev.tkp.tmoSeen = true ∨ s.time.ns <
      s.dev.tkp.hostLast + s.dev.get Reg.TKP_HO.HOST_TMO * 125000000) ∧
(∃ (s : State), s.dev.pwr.released = true ∧ s.dev.tkp.mode = 2) :=
  ⟨⟨tWith [fun s => { s with dev.tkp.mode := 2 }, put Reg.TKP_HO.HOST_TMO ((0 + 1)), fun s =>
     { s with dev.tkp.tmoSeen := false }], by decide +kernel⟩,
   ⟨tSt, by decide +kernel⟩,
   ⟨tWith [fun s => { s with dev.pwr.released := true }, fun s => { s with dev.tkp.mode := 2 }], by decide +kernel⟩⟩

/-- The hypotheses of TimingSignals, clause by clause, at states and operands that meet them. -/
theorem witness_TimingSignals :
(∃ (s : State) (fall : Bool), s.dev.on Reg.TKP_TIN.PPS_EN = false ∨ s.dev.on Reg.TKP_TIN.PPS_FALL = !fall) ∧
(∃ (s : State) (fall : Bool) (q : Nat) (e : Nat) (stamp : Nat), s.dev.on Reg.TKP_TIN.PPS_EN = true ∧ s.dev.on
      Reg.TKP_TIN.PPS_FALL = fall ∧ stamp = ((((s.time.qns + q % 16) : Nat) : Int) - sint 16 (s.dev.get Reg.TKP_TIN.PPS_DLY)
      * 4).toNat ∧ s.dev.tkp.tin.lastEdge = some e ∧ 40000 < distQ stamp (e + 4000000000)) ∧
(∃ (s : State) (fall : Bool) (q : Nat) (stamp : Nat), s.dev.on Reg.TKP_TIN.PPS_EN = true ∧ s.dev.on Reg.TKP_TIN.PPS_FALL =
      fall ∧ stamp = ((((s.time.qns + q % 16) : Nat) : Int) - sint 16 (s.dev.get Reg.TKP_TIN.PPS_DLY) * 4).toNat ∧ ∀ (e :
      ℕ), s.dev.tkp.tin.lastEdge = some e → distQ stamp (e + 4000000000) ≤ 40000) ∧
(∃ (s : State), s.dev.on Reg.TKP_TIN.IRIG_EN = false) ∧
(∃ (s : State) (f : IrigFrame), s.dev.on Reg.TKP_TIN.IRIG_EN = true ∧ f.parityOk = false) ∧
(∃ (s : State) (f : IrigFrame), s.dev.on Reg.TKP_TIN.IRIG_EN = true ∧ f.parityOk = true) ∧
(∃ (s : State), s.dev.on Reg.TKP_UTC.LEAP_PEND = true ∧ leapDue s.dev ≤ ((s.time.sec : Nat) : Int)) ∧
(∃ (s : State), s.dev.on Reg.TKP_UTC.LEAP_PEND = false ∨ ((s.time.sec : Nat) : Int) < leapDue s.dev) ∧
(∃ (s : State) (a : Nat), s.dev.tkp.leapAt = some a) ∧
(∃ (s : State), s.dev.tkp.leapAt = none) ∧
(∃ (s : State), s.dev.tkp.ppsLast < (ppsTime s.time s.dev / 1000000000).toNat) ∧
(∃ (s : State), (ppsTime s.time s.dev / 1000000000).toNat ≤ s.dev.tkp.ppsLast) ∧
(∃ (s : State) (e : Nat), s.dev.tkp.ppsEnd = some e) ∧
(∃ (s : State), s.dev.tkp.ppsEnd = none) :=
  ⟨⟨tSt, false, by decide +kernel⟩,
   ⟨tWith [fun s => { s with time := ⟨100000 * 2 ^ 46 * 10 ^ 9, 100000 * 25 * 10 ^ 7⟩ }, put Reg.TKP_TIN.PPS_EN 1, fun s =>
     { s with dev.tkp.tin.lastEdge := some 396000000000 }], false, 0, 396000000000, 400000000000000, by decide +kernel⟩,
   ⟨tWith [put Reg.TKP_TIN.PPS_EN 1], false, 0, 400000000000, by decide +kernel⟩,
   ⟨tSt, by decide +kernel⟩,
   ⟨tWith [put Reg.TKP_TIN.IRIG_EN 1], (⟨false, 1, 0, 0, 0, 1, 0, none, 400⟩ : IrigFrame), by decide +kernel⟩,
   ⟨tWith [put Reg.TKP_TIN.IRIG_EN 1], (⟨true, 1, 0x59, 0x59, 0x23, 0x100, 0x24, none, 400⟩ : IrigFrame), by decide +kernel⟩,
   ⟨tWith [fun s => { s with time := ⟨100000 * 2 ^ 46 * 10 ^ 9, 100000 * 25 * 10 ^ 7⟩ }, put Reg.TKP_UTC.LEAP_PEND 1],
     by decide +kernel⟩,
   ⟨tSt, by decide +kernel⟩,
   ⟨tWith [fun s => { s with dev.tkp.leapAt := some 5 }], 5, by decide +kernel⟩,
   ⟨tSt, by decide +kernel⟩,
   ⟨tSt, by decide +kernel⟩,
   ⟨tWith [fun s => { s with dev.tkp.ppsLast := (ppsTime s.time s.dev / 1000000000).toNat }], by decide +kernel⟩,
   ⟨tWith [fun s => { s with dev.tkp.ppsEnd := some 396000000000 }], 396000000000, by decide +kernel⟩,
   ⟨tSt, by decide +kernel⟩⟩

/-- The hypotheses of PtpPorts, clause by clause, at states and operands that meet them. -/
theorem witness_PtpPorts :
(∃ (s : State) (n : Nat), ptpOn s.dev n = false ∨ portRuns s.dev n = false ∨ linkUp s.dev n = false) ∧
(∃ (s : State) (n : Nat) (m : PtpMsg) (d : Dev), ptpOn s.dev n = true ∧ portRuns s.dev n = true ∧ linkUp s.dev n = true ∧
      ptpLooped n m true s.dev = (true, d)) ∧
(∃ (s : State) (n : Nat) (m : PtpMsg), ptpOn s.dev n = true ∧ portRuns s.dev n = true ∧ linkUp s.dev n = true ∧ s.dev.onN
      Reg.FP_CTRL.LOOP n = false ∧ s.dev.on Reg.TKP_PTP.AUTH_EN = false ∧ ((s.dev.ptp n).second ≠ s.time.sec ∨ (s.dev.ptp
      n).count < 512) ∧ (m.domain ≠ s.dev.get Reg.TKP_PTP.DOMAIN ∨ m.sample = none)) ∧
(∃ (s : State) (n : Nat), ptpOn s.dev n = true ∧ portRuns s.dev n = true ∧ linkUp s.dev n = true ∧ s.dev.onN
      Reg.FP_CTRL.LOOP n = false ∧ (s.dev.ptp n).second = s.time.sec ∧ 512 ≤ (s.dev.ptp n).count) ∧
(∃ (s : State) (n : Nat), ptpOn s.dev n = false) ∧
(∃ (s : State) (n : Nat) (m : PtpType), ptpOn s.dev n = true ∧ portSends (xaornPtp n s.dev) n m = false) ∧
(∃ (s : State) (n : Nat) (m : PtpType), ptpOn s.dev n = true ∧ portSends (xaornPtp n s.dev) n m = false ∧ m =
      PtpType.announce) ∧
(∃ (s : State) (n : Nat) (m : PtpType), ptpOn s.dev n = true ∧ portSends (xaornPtp n s.dev) n m = true ∧ m ∈ [PtpType.sync,
      PtpType.delayReq, PtpType.pdelayReq, PtpType.pdelayResp, PtpType.delayResp] ∧ s.dev.on Reg.TKP_PTP.AUTH_EN = false ∧
      portRuns s.dev n = true) ∧
(∃ (s : State) (n : Nat), ptpOn s.dev n = true ∧ portSends (xaornPtp n s.dev) n PtpType.followUp = true ∧ s.dev.on
      Reg.TKP_PTP.AUTH_EN = false ∧ portRuns s.dev n = true ∧ List.find? (fun e ↦ e.1 == TxOrigin.ptp PtpType.sync)
      (s.dev.port n).stamps = none) ∧
(∃ (s : State) (n : Nat) (o : TxOrigin) (q : Nat), ptpOn s.dev n = true ∧ portSends (xaornPtp n s.dev) n PtpType.followUp =
      true ∧ s.dev.on Reg.TKP_PTP.AUTH_EN = false ∧ portRuns s.dev n = true ∧ List.find? (fun e ↦ e.1 == TxOrigin.ptp
      PtpType.sync) (s.dev.port n).stamps = some (o, q)) ∧
(∃ (s : State) (n : Nat), ptpOn s.dev n = true ∧ portSends (xaornPtp n s.dev) n PtpType.announce = true ∧ s.dev.on
      Reg.TKP_PTP.AUTH_EN = false ∧ portRuns s.dev n = true) ∧
(∃ (s : State) (n : Nat), tcOn s.dev n = false ∨ portRuns s.dev n = false ∨ linkUp s.dev n = false) ∧
(∃ (s : State) (n : Nat), tcOn s.dev n = true ∧ portRuns s.dev n = true ∧ linkUp s.dev n = true ∧ s.dev.onN Reg.FP_CTRL.LOOP
      n = false ∧ s.dev.on Reg.TKP_PTP.AUTH_EN = false ∧ ((s.dev.ptp n).second ≠ s.time.sec ∨ (s.dev.ptp n).count < 512) ∧
      portRuns s.dev (twin n) = true) ∧
(∃ (n : Nat) (a : Nat) (m : PtpMsg) (f : TxFrame) (d : Dev), f.org = TxOrigin.transparent m a ∧ isEvent m.mtype = true ∧
      twoStep d n = false) :=
  ⟨⟨tSt, 0, by decide +kernel⟩,
   ⟨tWith [put Reg.TKP_PTP.ROLE 1, put Reg.TKP_PTP_PORTS.PORT_EN 3, putN Reg.FP_CTRL.EN 0 1, putN Reg.FP_CTRL.EN 0 1, putN
     Reg.FP_STATUS.LINK 0 1], 0, (⟨.sync, 0, false, none, 0, none, none, []⟩ : PtpMsg), ((ptpLooped 0 (⟨.sync, 0, false,
     none, 0, none, none, []⟩ : PtpMsg) true (tWith [put Reg.TKP_PTP.ROLE 1, put Reg.TKP_PTP_PORTS.PORT_EN 3, putN
     Reg.FP_CTRL.EN 0 1, putN Reg.FP_CTRL.EN 0 1, putN Reg.FP_STATUS.LINK 0 1]).dev).2), by decide +kernel⟩,
   ⟨(tWith [put Reg.TKP_PTP.ROLE 1, put Reg.TKP_PTP_PORTS.PORT_EN 3, putN Reg.FP_CTRL.EN 0 1, putN Reg.FP_CTRL.EN 0 1, putN
     Reg.FP_STATUS.LINK 0 1, putN Reg.FP_CTRL.LOOP 0 0, put Reg.TKP_PTP.AUTH_EN 0, put Reg.TKP_PTP.DOMAIN ((⟨.sync, 0,
     false, none, 0, none, none, []⟩ : PtpMsg).domain + 1)]), 0, (⟨.sync, 0, false, none, 0, none, none, []⟩ : PtpMsg),
     by decide +kernel⟩,
   ⟨tWith [put Reg.TKP_PTP.ROLE 1, put Reg.TKP_PTP_PORTS.PORT_EN 3, dev fun d => d.modPtp 0 fun p =>
     { p with second := 100, count := 512 }, putN Reg.FP_CTRL.EN 0 1, putN Reg.FP_CTRL.EN 0 1, putN Reg.FP_STATUS.LINK 0 1,
     putN Reg.FP_CTRL.LOOP 0 0], 0, by decide +kernel⟩,
   ⟨tSt, 0, by decide +kernel⟩,
   ⟨tWith [put Reg.TKP_PTP.ROLE 1, put Reg.TKP_PTP_PORTS.PORT_EN 3], 0, .sync, by decide +kernel⟩,
   ⟨tWith [put Reg.TKP_PTP.ROLE 1, put Reg.TKP_PTP_PORTS.PORT_EN 3], 0, Sys2Proof.PtpType.announce, by decide +kernel⟩,
   ⟨tWith [putN Reg.FP_CTRL.EN 0 1, putN Reg.FP_STATUS.LINK 0 1, put Reg.TKP_PTP.ROLE 1, put Reg.TKP_PTP_PORTS.PORT_EN 3, dev
     fun d => d.modPtp 0 fun p => { p with state := .master }], 0, Sys2Proof.PtpType.sync, by decide +kernel⟩,
   ⟨tWith [putN Reg.FP_CTRL.EN 0 1, putN Reg.FP_STATUS.LINK 0 1, put Reg.TKP_PTP.ROLE 1, put Reg.TKP_PTP_PORTS.PORT_EN 3, dev
     fun d => d.modPtp 0 fun p => { p with state := .master }], 0, by decide +kernel⟩,
   ⟨tWith [putN Reg.FP_CTRL.EN 0 1, putN Reg.FP_STATUS.LINK 0 1, put Reg.TKP_PTP.ROLE 1, put Reg.TKP_PTP_PORTS.PORT_EN 3, dev
     fun d => d.modPtp 0 fun p => { p with state := .master }, dev fun d => d.modPort 0 fun p =>
     { p with stamps := [(.ptp .sync, 77)] }], 0, Sys2Proof.Machine.TxOrigin.ptp (Sys2Proof.PtpType.sync), 77,
     by decide +kernel⟩,
   ⟨tWith [putN Reg.FP_CTRL.EN 0 1, putN Reg.FP_STATUS.LINK 0 1, put Reg.TKP_PTP.ROLE 1, put Reg.TKP_PTP_PORTS.PORT_EN 3, dev
     fun d => d.modPtp 0 fun p => { p with state := .master }], 0, by decide +kernel⟩,
   ⟨tSt, 0, by decide +kernel⟩,
   ⟨tWith [put Reg.TKP_PTP.TC_EN 1, put Reg.TKP_PTP_PORTS.TC_PAIR 1, putN Reg.FP_CTRL.EN 0 1, putN Reg.FP_CTRL.EN 0 1, putN
     Reg.FP_STATUS.LINK 0 1, putN Reg.FP_CTRL.LOOP 0 0, put Reg.TKP_PTP.AUTH_EN 0, putN Reg.FP_CTRL.EN (twin 0) 1], 0,
     by decide +kernel⟩,
   ⟨0, 0, (⟨.sync, 0, false, none, 0, none, none, []⟩ : PtpMsg), (⟨.transparent (⟨.sync, 0, false, none, 0, none, none, []⟩ :
     PtpMsg) 0, 3, 80, [1,2], none, false, none, none⟩ : TxFrame), tSt.dev, by decide +kernel⟩⟩

/-- The hypotheses of HamperPartitions, clause by clause, at states and operands that meet them. -/
theorem witness_HamperPartitions :
(∃ (s : State) (n : Nat) (v : Word32), n < 6 ∧ s.dev.up (islandOf 131088) = true ∧ s.dev.on Reg.GLB_LOCK.LOCK = false ∧
      partBad s.dev n (bits (BitVec.toNat v) 0 7) (bits (BitVec.toNat v) 8 8) = true) ∧
(∃ (s : State) (n : Nat) (v : Word32), n < 6 ∧ s.dev.up (islandOf 131088) = true ∧ s.dev.on Reg.GLB_LOCK.LOCK = false ∧
      partBad s.dev n (bits (BitVec.toNat v) 0 7) (bits (BitVec.toNat v) 8 8) = false) ∧
(∃ (s : State) (n : Nat), s.dev.up (islandOf 131088) = true ∧ (6 ≤ n ∨ s.dev.on Reg.GLB_LOCK.LOCK = true)) ∧
(∃ (s : State), s.dev.on Reg.HMP_STATUS.SCRUB_RUN = false) ∧
(∃ (s : State) (l : Nat) (d : Dev), s.dev.on Reg.HMP_STATUS.SCRUB_RUN = true ∧ l = s.dev.hmp.scrubLine ∧ (d = if hUp s.dev
      (l * 16) = true then lineCheck HCause.scrub (l * 16) s.dev else s.dev) ∧ l + 1 ≠ hLines) ∧
(∃ (s : State) (l : Nat) (d : Dev), s.dev.on Reg.HMP_STATUS.SCRUB_RUN = true ∧ l = s.dev.hmp.scrubLine ∧ (d = if hUp s.dev
      (l * 16) = true then lineCheck HCause.scrub (l * 16) s.dev else s.dev) ∧ l + 1 = hLines) ∧
(∃ (d : Dev) (w : Nat), badInLine d w = [] ∨ hUp d w = false) ∧
(∃ (d : Dev) (w : Nat) (v : Nat), hUp d w = true ∧ v ∈ badInLine d w ∧ (hMap d (hBank w)).length + (badInLine d w).length ≤
      32) ∧
(∃ (s : State), s.dev.on Reg.HMP_STATUS.SCRUB_RUN = false ∨ s.dev.hmp.lateSeen = true ∨ s.time.loc ≤ s.dev.hmp.passStart +
      2000000000) ∧
(∃ (s : State), s.dev.on Reg.HMP_STATUS.SCRUB_RUN = true ∧ s.dev.hmp.lateSeen = false ∧ s.dev.hmp.passStart + 2000000000 <
      s.time.loc) :=
  ⟨⟨tSt, 0, 65535, by decide +kernel⟩,
   ⟨tSt, 0, 0, by decide +kernel⟩,
   ⟨tWith [put Reg.GLB_LOCK.LOCK 1], 0, by decide +kernel⟩,
   ⟨tSt, by decide +kernel⟩,
   ⟨tWith [put Reg.HMP_STATUS.SCRUB_RUN 1], 0, if hUp (tWith [put Reg.HMP_STATUS.SCRUB_RUN 1]).dev (0 * 16) = true then
     lineCheck HCause.scrub (0 * 16) (tWith [put Reg.HMP_STATUS.SCRUB_RUN 1]).dev else (tWith [put Reg.HMP_STATUS.SCRUB_RUN
     1]).dev, by decide +kernel, by decide +kernel, rfl, by decide +kernel⟩,
   ⟨tWith [dev fun d => d.modHmp fun h => { h with scrubLine := hLines - 1 }, dev fun d =>
     { d with isl := tset d.isl 35 ⟨.reset, false, false⟩ }, put Reg.HMP_STATUS.SCRUB_RUN 1], 2097151, if hUp (tWith [dev
     fun d => d.modHmp fun h => { h with scrubLine := hLines - 1 }, dev fun d =>
     { d with isl := tset d.isl 35 ⟨.reset, false, false⟩ }, put Reg.HMP_STATUS.SCRUB_RUN 1]).dev (2097151 * 16) = true then
     lineCheck HCause.scrub (2097151 * 16) (tWith [dev fun d => d.modHmp fun h => { h with scrubLine := hLines - 1 }, dev
     fun d => { d with isl := tset d.isl 35 ⟨.reset, false, false⟩ }, put Reg.HMP_STATUS.SCRUB_RUN 1]).dev else (tWith [dev
     fun d => d.modHmp fun h => { h with scrubLine := hLines - 1 }, dev fun d =>
     { d with isl := tset d.isl 35 ⟨.reset, false, false⟩ }, put Reg.HMP_STATUS.SCRUB_RUN 1]).dev, by decide +kernel,
     by decide +kernel, rfl, by decide +kernel⟩,
   ⟨tSt.dev, 5, by decide +kernel⟩,
   ⟨(tWith [dev fun d => d.modHmp fun h => { h with mem := tset h.mem 7 ⟨9, true⟩ }]).dev, 5, 7, by decide +kernel⟩,
   ⟨tSt, by decide +kernel⟩,
   ⟨tWith [put Reg.HMP_STATUS.SCRUB_RUN 1, fun s => { s with dev.hmp.lateSeen := false }], by decide +kernel⟩⟩

/-- The hypotheses of HamperFaults, clause by clause, at states and operands that meet them. -/
theorem witness_HamperFaults :
(∃ (s : State) (a : Nat), hWords ≤ a / 4 ∨ hUp s.dev (a / 4) = false ∨ hFenced s.dev (a / 4) = true) ∧
(∃ (s : State) (a : Nat) (w : Nat), w = a / 4 ∧ w < hWords ∧ hUp s.dev w = true ∧ hFenced s.dev w = false) ∧
(∃ (s : State) (a : Nat) (w : Nat) (v : Word32), w = a / 4 ∧ fmLook s.dev.hmp.checks w = some v) ∧
(∃ (s : State) (a : Nat), fmLook s.dev.hmp.checks (a / 4) = none) :=
  ⟨⟨tWith [dev fun d => d.modHmp fun h => { h with maps := tset h.maps (hBank 5) [⟨hWordIdx 5, .scrub⟩] }], 20,
     by decide +kernel⟩,
   ⟨tSt, 20, 5, by decide +kernel⟩,
   ⟨tWith [dev fun d => d.modHmp fun h => { h with checks := tset h.checks 5 77 }], 20, 5, 77, by decide +kernel⟩,
   ⟨tSt, 20, by decide +kernel⟩⟩

/-- The hypotheses of HamperMemory, clause by clause, at states and operands that meet them. -/
theorem witness_HamperMemory :
(∃ (d : Dev) (w : Nat), hUp d w = true ∧ hFenced d w = false) ∧
(∃ (d : Dev) (w : Nat) (x : Nat), hUp d w = true ∧ hFenced d w = false ∧ x ≠ w) ∧
(∃ (d : Dev) (w : Nat), hUp d w = false) ∧
(∃ (d : Dev) (w : Nat), hUp d w = true ∧ hFenced d w = true) ∧
(∃ (d : Dev) (w : Nat), hUp d w = true ∧ hFenced d w = true ∧ badInLine d w = []) ∧
(∃ (s : State) (p : Path) (a : Nat) (n : Nat) (v : Word32) (x : HCause) (b : Bool) (c : Instr) (t : State), c ∈
      [Instr.writeHmpPart n v, Instr.hamperReplay a x b, Instr.fenceReleaseCheck a b, Instr.scrubRead, Instr.scrubPassLate,
      Instr.bar4Read p a, Instr.bar4Write a v] ∧ Memory.wf s.dev.hmp.mem = true ∧ exec c s = Host.Outcome.next t) ∧
(∃ (s : State) (a : Nat), a < 2 ^ 27 ∧ s.dev.on Reg.HMP_CTRL.BAR4_EN = false) ∧
(∃ (s : State) (a : Nat), a < 2 ^ 27 ∧ s.dev.on Reg.HMP_CTRL.BAR4_EN = true ∧ hUp s.dev (a / 4) = true) ∧
(∃ (s : State) (a : Nat), a < 2 ^ 27 ∧ s.dev.on Reg.HMP_CTRL.BAR4_EN = true ∧ hUp s.dev (a / 4) = false) ∧
(∃ (s : State) (a : Nat), a < 2 ^ 27 ∧ s.dev.pwr.released = true) ∧
(∃ (s : State) (a : Nat), a < 2 ^ 27 ∧ s.dev.pwr.released = false) ∧
(∃ (a : Nat), 2 ^ 27 ≤ a) :=
  ⟨⟨tSt.dev, 0, by decide +kernel⟩,
   ⟨tSt.dev, 0, 4, by decide +kernel⟩,
   ⟨(State.reset).dev, 0, by decide +kernel⟩,
   ⟨(tWith [dev fun d => d.modHmp fun h => { h with maps := tset h.maps (hBank 5) [⟨hWordIdx 5, .scrub⟩] }]).dev, 5,
     by decide +kernel⟩,
   ⟨(tWith [dev fun d => d.modHmp fun h => { h with maps := tset h.maps (hBank 5) [⟨hWordIdx 5, .scrub⟩] }]).dev, 5,
     by decide +kernel⟩,
   ⟨tSt, .host, 0, 0, 0, .scrub, true, .hamperReplay 0 .scrub true, _, by decide, by decide +kernel, rfl⟩,
   ⟨tWith [put Reg.HMP_CTRL.BAR4_EN 0], 0, by decide +kernel⟩,
   ⟨tSt, 0, by decide +kernel⟩,
   ⟨State.reset, 0, by decide +kernel⟩,
   ⟨tSt, 0, by decide +kernel⟩,
   ⟨tWith [fun s => { s with dev.pwr.released := false }], 0, by decide +kernel⟩,
   ⟨134217728, by decide +kernel⟩⟩

/-- The hypotheses of PortReception, clause by clause, at states and operands that meet them. -/
theorem witness_PortReception :
(∃ (s : State) (n : Nat), portRuns s.dev n = true ∧ linkUp s.dev n = false) ∧
(∃ (s : State) (n : Nat), portRuns s.dev n = false ∨ linkUp s.dev n = true) ∧
(∃ (s : State) (n : Nat), n < 16 ∧ linkUp s.dev n = true) ∧
(∃ (s : State) (n : Nat), 16 ≤ n ∨ linkUp s.dev n = false) ∧
(∃ (s : State) (n : Nat), n < 16 ∧ s.dev.up (islPrt n) = true) ∧
(∃ (n : Nat), 16 ≤ n) ∧
(∃ (s : State) (n : Nat) (f : RxFrame), portRuns s.dev n = false ∨ linkUp s.dev n = false ∨ s.dev.onN Reg.FP_CTRL.LOOP n =
      true ∧ loopFits s.dev n f = false) ∧
(∃ (s : State) (n : Nat) (f : RxFrame), portRuns s.dev n = true ∧ linkUp s.dev n = true ∧ (s.dev.onN Reg.FP_CTRL.LOOP n =
      false ∨ loopFits s.dev n f = true) ∧ (f.codeErr = true ∨ s.dev.getN Reg.FP_FRAME.MAX_LEN n < f.len ∨ f.len < 64 ∨
      f.fcsOk = false)) ∧
(∃ (s : State) (n : Nat) (f : RxFrame) (g : RxFrame) (unv : Bool) (d : Dev) (d1 : Dev), portRuns s.dev n = true ∧ linkUp
      s.dev n = true ∧ (s.dev.onN Reg.FP_CTRL.LOOP n = false ∨ loopFits s.dev n f = true) ∧ f.codeErr = false ∧ f.fcsOk =
      true ∧ 64 ≤ f.len ∧ f.len ≤ s.dev.getN Reg.FP_FRAME.MAX_LEN n ∧ (d = if s.dev.getN Reg.FP_CTRL.FEC n = 0 then (if
      s.dev.onN Reg.FP_CTRL.LOOP n = true then s.dev.modPort n fun p ↦ { p with looped := p.looped.tail } else s.dev) else
      fullAdd n 22 f.fecUncorr (fullAdd n 21 f.fecCorr (if s.dev.onN Reg.FP_CTRL.LOOP n = true then s.dev.modPort n fun p ↦
      { p with looped := p.looped.tail } else s.dev))) ∧ msecRx n f d = RxCheck.pass unv g d1) ∧
(∃ (s : State) (n : Nat) (f : RxFrame) (q : Nat), portRuns s.dev n = true ∧ linkUp s.dev n = true ∧ s.dev.onN
      Reg.FP_CTRL.LOOP n = false ∧ s.dev.onN Reg.FP_MSEC_CTRL.EN n = false ∧ f.sec = none ∧ f.codeErr = false ∧ f.fcsOk =
      true ∧ 64 ≤ f.len ∧ f.len ≤ s.dev.getN Reg.FP_FRAME.MAX_LEN n ∧ f.body = FrameBody.pause q) ∧
(∃ (s : State) (n : Nat) (f : RxFrame) (en : Nat) (qs : List Nat), portRuns s.dev n = true ∧ linkUp s.dev n = true ∧
      s.dev.onN Reg.FP_CTRL.LOOP n = false ∧ s.dev.onN Reg.FP_MSEC_CTRL.EN n = false ∧ f.sec = none ∧ f.codeErr = false ∧
      f.fcsOk = true ∧ 64 ≤ f.len ∧ f.len ≤ s.dev.getN Reg.FP_FRAME.MAX_LEN n ∧ f.body = FrameBody.pfc en qs) :=
  ⟨⟨tWith [putN Reg.FP_CTRL.EN 0 1, putN Reg.FP_STATUS.LINK 0 0], 0, by decide +kernel⟩,
   ⟨tSt, 0, by decide +kernel⟩,
   ⟨tWith [putN Reg.FP_CTRL.EN 0 1, putN Reg.FP_STATUS.LINK 0 1], 0, by decide +kernel⟩,
   ⟨tSt, 0, by decide +kernel⟩,
   ⟨tSt, 0, by decide +kernel⟩,
   ⟨16, by decide +kernel⟩,
   ⟨tSt, 0, (⟨5,9,[],100,true,false,none,none,3,.other 0x88AA,[],0,0⟩ : RxFrame), by decide +kernel⟩,
   ⟨(tWith [putN Reg.FP_CTRL.EN 0 1, putN Reg.FP_CTRL.EN 0 1, putN Reg.FP_STATUS.LINK 0 1, putN Reg.FP_CTRL.LOOP 0 0, putN
     Reg.FP_FRAME.MAX_LEN 0 (((⟨5,9,[],100,true,false,none,none,3,.other 0x88AA,[],0,0⟩ : RxFrame).len - 1))]), 0,
     (⟨5,9,[],100,true,false,none,none,3,.other 0x88AA,[],0,0⟩ : RxFrame), by decide +kernel⟩,
   ⟨(tWith [putN Reg.FP_CTRL.EN 0 1, putN Reg.FP_CTRL.EN 0 1, putN Reg.FP_STATUS.LINK 0 1, putN Reg.FP_CTRL.LOOP 0 0, putN
     Reg.FP_FRAME.MAX_LEN 0 ((⟨5,9,[],100,true,false,none,none,3,.other 0x88AA,[],0,0⟩ : RxFrame).len)]), 0,
     (⟨5,9,[],100,true,false,none,none,3,.other 0x88AA,[],0,0⟩ : RxFrame),
     { dst := 5,   srcMac := 9,   vlans := [],   len := 100,   fcsOk := true,   codeErr := false,   sec := none,   red := none,   q := 3,   body := Sys2Proof.FrameBody.other 34986,   raw := [],   fecCorr := 0,   fecUncorr := 0 },
     false, (if (tWith [putN Reg.FP_CTRL.EN 0 1, putN Reg.FP_CTRL.EN 0 1, putN Reg.FP_STATUS.LINK 0 1, putN Reg.FP_CTRL.LOOP
     0 0, putN Reg.FP_FRAME.MAX_LEN 0 ((⟨5,9,[],100,true,false,none,none,3,.other 0x88AA,[],0,0⟩ : RxFrame).len)]).dev.getN
     Reg.FP_CTRL.FEC 0 = 0 then (if (tWith [putN Reg.FP_CTRL.EN 0 1, putN Reg.FP_CTRL.EN 0 1, putN Reg.FP_STATUS.LINK 0 1,
     putN Reg.FP_CTRL.LOOP 0 0, putN Reg.FP_FRAME.MAX_LEN 0 ((⟨5,9,[],100,true,false,none,none,3,.other 0x88AA,[],0,0⟩ :
     RxFrame).len)]).dev.onN Reg.FP_CTRL.LOOP 0 = true then (tWith [putN Reg.FP_CTRL.EN 0 1, putN Reg.FP_CTRL.EN 0 1, putN
     Reg.FP_STATUS.LINK 0 1, putN Reg.FP_CTRL.LOOP 0 0, putN Reg.FP_FRAME.MAX_LEN 0
     ((⟨5,9,[],100,true,false,none,none,3,.other 0x88AA,[],0,0⟩ : RxFrame).len)]).dev.modPort 0 fun p ↦
     { p with looped := p.looped.tail } else (tWith [putN Reg.FP_CTRL.EN 0 1, putN Reg.FP_CTRL.EN 0 1, putN
     Reg.FP_STATUS.LINK 0 1, putN Reg.FP_CTRL.LOOP 0 0, putN Reg.FP_FRAME.MAX_LEN 0
     ((⟨5,9,[],100,true,false,none,none,3,.other 0x88AA,[],0,0⟩ : RxFrame).len)]).dev) else fullAdd 0 22
     (⟨5,9,[],100,true,false,none,none,3,.other 0x88AA,[],0,0⟩ : RxFrame).fecUncorr (fullAdd 0 21
     (⟨5,9,[],100,true,false,none,none,3,.other 0x88AA,[],0,0⟩ : RxFrame).fecCorr (if (tWith [putN Reg.FP_CTRL.EN 0 1, putN
     Reg.FP_CTRL.EN 0 1, putN Reg.FP_STATUS.LINK 0 1, putN Reg.FP_CTRL.LOOP 0 0, putN Reg.FP_FRAME.MAX_LEN 0
     ((⟨5,9,[],100,true,false,none,none,3,.other 0x88AA,[],0,0⟩ : RxFrame).len)]).dev.onN Reg.FP_CTRL.LOOP 0 = true then
     (tWith [putN Reg.FP_CTRL.EN 0 1, putN Reg.FP_CTRL.EN 0 1, putN Reg.FP_STATUS.LINK 0 1, putN Reg.FP_CTRL.LOOP 0 0, putN
     Reg.FP_FRAME.MAX_LEN 0 ((⟨5,9,[],100,true,false,none,none,3,.other 0x88AA,[],0,0⟩ : RxFrame).len)]).dev.modPort 0 fun p
     ↦ { p with looped := p.looped.tail } else (tWith [putN Reg.FP_CTRL.EN 0 1, putN Reg.FP_CTRL.EN 0 1, putN
     Reg.FP_STATUS.LINK 0 1, putN Reg.FP_CTRL.LOOP 0 0, putN Reg.FP_FRAME.MAX_LEN 0
     ((⟨5,9,[],100,true,false,none,none,3,.other 0x88AA,[],0,0⟩ : RxFrame).len)]).dev))), ((((match msecRx 0
     (⟨5,9,[],100,true,false,none,none,3,.other 0x88AA,[],0,0⟩ : RxFrame) (if (tWith [putN Reg.FP_CTRL.EN 0 1, putN
     Reg.FP_CTRL.EN 0 1, putN Reg.FP_STATUS.LINK 0 1, putN Reg.FP_CTRL.LOOP 0 0, putN Reg.FP_FRAME.MAX_LEN 0
     ((⟨5,9,[],100,true,false,none,none,3,.other 0x88AA,[],0,0⟩ : RxFrame).len)]).dev.getN Reg.FP_CTRL.FEC 0 = 0 then (if
     (tWith [putN Reg.FP_CTRL.EN 0 1, putN Reg.FP_CTRL.EN 0 1, putN Reg.FP_STATUS.LINK 0 1, putN Reg.FP_CTRL.LOOP 0 0, putN
     Reg.FP_FRAME.MAX_LEN 0 ((⟨5,9,[],100,true,false,none,none,3,.other 0x88AA,[],0,0⟩ : RxFrame).len)]).dev.onN
     Reg.FP_CTRL.LOOP 0 = true then (tWith [putN Reg.FP_CTRL.EN 0 1, putN Reg.FP_CTRL.EN 0 1, putN Reg.FP_STATUS.LINK 0 1,
     putN Reg.FP_CTRL.LOOP 0 0, putN Reg.FP_FRAME.MAX_LEN 0 ((⟨5,9,[],100,true,false,none,none,3,.other 0x88AA,[],0,0⟩ :
     RxFrame).len)]).dev.modPort 0 fun p ↦ { p with looped := p.looped.tail } else (tWith [putN Reg.FP_CTRL.EN 0 1, putN
     Reg.FP_CTRL.EN 0 1, putN Reg.FP_STATUS.LINK 0 1, putN Reg.FP_CTRL.LOOP 0 0, putN Reg.FP_FRAME.MAX_LEN 0
     ((⟨5,9,[],100,true,false,none,none,3,.other 0x88AA,[],0,0⟩ : RxFrame).len)]).dev) else fullAdd 0 22
     (⟨5,9,[],100,true,false,none,none,3,.other 0x88AA,[],0,0⟩ : RxFrame).fecUncorr (fullAdd 0 21
     (⟨5,9,[],100,true,false,none,none,3,.other 0x88AA,[],0,0⟩ : RxFrame).fecCorr (if (tWith [putN Reg.FP_CTRL.EN 0 1, putN
     Reg.FP_CTRL.EN 0 1, putN Reg.FP_STATUS.LINK 0 1, putN Reg.FP_CTRL.LOOP 0 0, putN Reg.FP_FRAME.MAX_LEN 0
     ((⟨5,9,[],100,true,false,none,none,3,.other 0x88AA,[],0,0⟩ : RxFrame).len)]).dev.onN Reg.FP_CTRL.LOOP 0 = true then
     (tWith [putN Reg.FP_CTRL.EN 0 1, putN Reg.FP_CTRL.EN 0 1, putN Reg.FP_STATUS.LINK 0 1, putN Reg.FP_CTRL.LOOP 0 0, putN
     Reg.FP_FRAME.MAX_LEN 0 ((⟨5,9,[],100,true,false,none,none,3,.other 0x88AA,[],0,0⟩ : RxFrame).len)]).dev.modPort 0 fun p
     ↦ { p with looped := p.looped.tail } else (tWith [putN Reg.FP_CTRL.EN 0 1, putN Reg.FP_CTRL.EN 0 1, putN
     Reg.FP_STATUS.LINK 0 1, putN Reg.FP_CTRL.LOOP 0 0, putN Reg.FP_FRAME.MAX_LEN 0
     ((⟨5,9,[],100,true,false,none,none,3,.other 0x88AA,[],0,0⟩ : RxFrame).len)]).dev))) with
     | RxCheck.pass a_ b_ c_ => [c_] | _ => [])).headD default)), by decide +kernel, by decide +kernel, by decide +kernel,
     by decide +kernel, by decide +kernel, by decide +kernel, by decide +kernel, rfl, by decide +kernel⟩,
   ⟨(tWith [putN Reg.FP_CTRL.EN 0 1, putN Reg.FP_CTRL.EN 0 1, putN Reg.FP_STATUS.LINK 0 1, putN Reg.FP_CTRL.LOOP 0 0, putN
     Reg.FP_MSEC_CTRL.EN 0 0, putN Reg.FP_FRAME.MAX_LEN 0 ((⟨5,9,[],100,true,false,none,none,3,.pause 7,[],0,0⟩ :
     RxFrame).len)]), 0, (⟨5,9,[],100,true,false,none,none,3,.pause 7,[],0,0⟩ : RxFrame), 7, by decide +kernel⟩,
   ⟨(tWith [putN Reg.FP_CTRL.EN 0 1, putN Reg.FP_CTRL.EN 0 1, putN Reg.FP_STATUS.LINK 0 1, putN Reg.FP_CTRL.LOOP 0 0, putN
     Reg.FP_MSEC_CTRL.EN 0 0, putN Reg.FP_FRAME.MAX_LEN 0 ((⟨5,9,[],100,true,false,none,none,3,.pfc 1 [7],[],0,0⟩ :
     RxFrame).len)]), 0, (⟨5,9,[],100,true,false,none,none,3,.pfc 1 [7],[],0,0⟩ : RxFrame), 1, [7], by decide +kernel⟩⟩

/-- The hypotheses of FlowControl, clause by clause, at states and operands that meet them. -/
theorem witness_FlowControl :
(∃ (s : State) (n : Nat) (tc : Nat), n < 16 ∧ tc < 8 ∧ tget (s.dev.port n).pauseEnd tc ≠ 0 ∧ tget (s.dev.port n).pauseEnd tc
      ≤ s.time.loc) ∧
(∃ (s : State) (n : Nat) (tc : Nat), s.time.loc < tget (s.dev.port n).pauseEnd tc ∨ tget (s.dev.port n).pauseEnd tc = 0) ∧
(∃ (s : State) (n : Nat) (tc : Nat), n < 16 ∧ tc < 8 ∧ tget (s.dev.port n).pauseEnd tc ≠ 0 ∧ s.dev.getN Reg.FP_PAUSE.STORM n
      ≠ 0 ∧ tc ∉ (s.dev.port n).storm ∧ s.dev.getN Reg.FP_PAUSE.STORM n * 10000000 + tget (s.dev.port n).pauseSince tc <
      s.time.loc + 1) ∧
(∃ (s : State) (n : Nat) (tc : Nat), tget (s.dev.port n).pauseEnd tc = 0 ∨ s.dev.getN Reg.FP_PAUSE.STORM n = 0 ∨ tc ∈
      (s.dev.port n).storm ∨ s.time.loc < s.dev.getN Reg.FP_PAUSE.STORM n * 10000000 + tget (s.dev.port n).pauseSince tc) ∧
(∃ (s : State) (n : Nat) (tc : Nat), n < 16 ∧ tc < 8 ∧ tc ∈ (s.dev.port n).storm ∧ s.dev.getN Reg.FP_PAUSE.STORM n *
      10000000 + tget (s.dev.port n).lastReq tc ≤ s.time.loc + 1) ∧
(∃ (s : State) (n : Nat) (tc : Nat), tc ∉ (s.dev.port n).storm) ∧
(∃ (s : State) (n : Nat), flowOn s.dev n = true ∧ (s.dev.port n).pauseSent = none ∧ 3 * Config.rxBufBytes < 4 * (s.dev.port
      n).rxFill) ∧
(∃ (s : State) (n : Nat) (a : Nat), flowOn s.dev n = true ∧ (s.dev.port n).pauseSent = some a ∧ Config.rxBufBytes < 2 *
      (s.dev.port n).rxFill ∧ s.dev.getN Reg.FP_PAUSE_TX.QUANTA n * 256 / lineRate s.dev n ≤ s.time.loc - a) ∧
(∃ (s : State) (n : Nat), flowOn s.dev n = true ∧ (s.dev.port n).pauseSent ≠ none ∧ 2 * (s.dev.port n).rxFill <
      Config.rxBufBytes) ∧
(∃ (s : State) (n : Nat), flowOn s.dev n = false) :=
  ⟨⟨tWith [dev fun d => d.modPort 0 fun p => { p with pauseEnd := tset p.pauseEnd 2 (10^11) }], 0, 2, by decide +kernel⟩,
   ⟨tSt, 0, 2, by decide +kernel⟩,
   ⟨tWith [dev fun d => d.modPort 0 fun p => { p with pauseEnd := tset p.pauseEnd 2 (10^11) }], 0, 2, by decide +kernel⟩,
   ⟨tSt, 0, 2, by decide +kernel⟩,
   ⟨tWith [dev fun d => d.modPort 0 fun p => { p with storm := [2] }], 0, 2, by decide +kernel⟩,
   ⟨tSt, 0, 2, by decide +kernel⟩,
   ⟨tWith [putN Reg.FP_CTRL.EN 0 1, putN Reg.FP_STATUS.LINK 0 1, putN Reg.FP_PAUSE.MODE 0 1, putN Reg.FP_PAUSE.TX_EN 0 1, dev
     fun d => d.modPort 0 fun p => { p with rxFill := Config.rxBufBytes }], 0,
     by decide +kernel, by decide +kernel, by have := rxBuf_ge; simp [tWith, put, putN, dev, Dev.modPort, Dev.port, Dev.setPort]; omega⟩,
   ⟨tWith [putN Reg.FP_CTRL.EN 0 1, putN Reg.FP_STATUS.LINK 0 1, putN Reg.FP_PAUSE.MODE 0 1, putN Reg.FP_PAUSE.TX_EN 0 1, dev
     fun d => d.modPort 0 fun p => { p with rxFill := Config.rxBufBytes }, dev fun d => d.modPort 0 fun x_ =>
     { x_ with pauseSent := some 5 }], 0, 5,
     by decide +kernel, by decide +kernel, by have := rxBuf_ge; simp [tWith, put, putN, dev, Dev.modPort, Dev.port, Dev.setPort]; omega, by decide +kernel⟩,
   ⟨tWith [putN Reg.FP_CTRL.EN 0 1, putN Reg.FP_STATUS.LINK 0 1, putN Reg.FP_PAUSE.MODE 0 1, putN Reg.FP_PAUSE.TX_EN 0 1, dev
     fun d => d.modPort 0 fun p => { p with pauseSent := some 5 }], 0, by decide +kernel⟩,
   ⟨tSt, 0, by decide +kernel⟩⟩

/-- The hypotheses of Transmission, clause by clause, at states and operands that meet them. -/
theorem witness_Transmission :
(∃ (s : State) (n : Nat) (f : TxFrame), n < 16 ∧ s.dev.up (islPrt n) = true ∧ (s.dev.port n).cur = none ∧ flowReady s.time n
      (fillHeads n (guardRefresh s.time n s.dev)) = some f) ∧
(∃ (s : State) (n : Nat) (d : Dev), n < 16 ∧ s.dev.up (islPrt n) = true ∧ (s.dev.port n).cur = none ∧ d = fillHeads n
      (guardRefresh s.time n s.dev) ∧ flowReady s.time n d = none) ∧
(∃ (s : State) (n : Nat), 16 ≤ n ∨ s.dev.up (islPrt n) = false ∨ (s.dev.port n).cur ≠ none) ∧
(∃ (s : State) (n : Nat) (f : TxFrame), n < 16 ∧ s.dev.up (islPrt n) = true ∧ linkUp s.dev n = true ∧ (s.dev.port n).cur =
      none ∧ (s.dev.port n).queues = [(f.tc, [f])] ∧ f.tc < 8 ∧ f.launch = none ∧ startReady s.dev n f = true ∧ (s.dev.port
      n).flowQ = [] ∧ s.dev.onN Reg.FP_TAS_CTRL.GATE_EN n = false ∧ tget (s.dev.port n).pauseEnd f.tc = 0 ∧ protects s.dev n
      = false) ∧
(∃ (s : State) (n : Nat) (tc : Nat) (f : TxFrame), (queueOf s.dev n tc).head? = some f ∧ f.launch.isSome = true) ∧
(∃ (s : State) (n : Nat) (tc : Nat), ∀ (f : TxFrame), (queueOf s.dev n tc).head? = some f → f.launch = none) ∧
(∃ (s : State) (n : Nat) (f : TxFrame) (l : Nat × Nat × Nat), n < 16 ∧ s.dev.up (islPrt n) = true ∧ linkUp s.dev n = true ∧
      (s.dev.port n).cur = none ∧ (s.dev.port n).queues = [(f.tc, [f])] ∧ f.tc < 8 ∧ f.launch = some l ∧ verdictNow s.time
      s.dev l.1 l.2.1 l.2.2 = Verdict.ok ∧ startReady s.dev n f = true ∧ s.dev.onN Reg.FP_TAS_CTRL.GATE_EN n = false ∧ tget
      (s.dev.port n).pauseEnd f.tc = 0 ∧ protects s.dev n = false) ∧
(∃ (s : State) (n : Nat), portRuns s.dev n = true) ∧
(∃ (s : State) (n : Nat) (c : TxCur), n < 16 ∧ (s.dev.port n).cur = some c) ∧
(∃ (s : State) (n : Nat), (s.dev.port n).cur = none) ∧
(∃ (s : State) (n : Nat) (k : Nat) (c : TxCur), n < 16 ∧ (s.dev.port n).cur = some c ∧ c.frame.fetched = some k ∧ k <
      c.frame.len) ∧
(∃ (s : State) (n : Nat) (c : TxCur), (s.dev.port n).cur = some c ∧ ∀ (k : ℕ), c.frame.fetched = some k → c.frame.len ≤ k) ∧
(∃ (s : State) (n : Nat), n < 16 ∧ s.dev.up (islPrt n) = true ∧ s.dev.onN Reg.FP_TAS_STAT.PENDING n = false) ∧
(∃ (s : State) (n : Nat), n < 16 ∧ s.dev.up (islPrt n) = true ∧ s.dev.onN Reg.FP_TAS_STAT.PENDING n = true) ∧
(∃ (s : State) (n : Nat) (at_ : Nat) (c : GateCfg), n < 16 ∧ s.dev.up (islPrt n) = true ∧ (s.dev.port n).gate.pend = some
      (c, at_) ∧ at_ ≤ s.time.ns ∧ ∀ (r : GateCfg) (b : ℕ), (s.dev.port n).gate.restart = some (r, b) → at_ ≤ b ∨ s.time.ns
      < b) ∧
(∃ (s : State) (n : Nat) (b : Nat) (r : GateCfg), n < 16 ∧ s.dev.up (islPrt n) = true ∧ (s.dev.port n).gate.restart = some
      (r, b) ∧ b ≤ s.time.ns ∧ ∀ (c : GateCfg) (a : ℕ), (s.dev.port n).gate.pend = some (c, a) → b < a) ∧
(∃ (s : State) (n : Nat), (∀ (c : GateCfg) (a : ℕ), (s.dev.port n).gate.pend = some (c, a) → s.time.ns < a) ∧ ∀ (r :
      GateCfg) (b : ℕ), (s.dev.port n).gate.restart = some (r, b) → s.time.ns < b) ∧
(∃ (s : State) (n : Nat) (c : GateCfg), n < 16 ∧ s.dev.up (islPrt n) = true ∧ (s.dev.port n).gate.oper = some c ∧ (gateList
      s.dev n c).isEmpty = false ∧ (s.dev.port n).gate.entryEnd ≤ s.time.ns) ∧
(∃ (s : State) (n : Nat), s.time.ns < (s.dev.port n).gate.entryEnd ∨ (s.dev.port n).gate.oper = none) :=
  ⟨⟨tWith [putN Reg.FP_STATUS.LINK 0 1, dev fun d => d.modPort 0 fun p =>
     { p with flowQ := [(⟨.supervision, 3, 80, [1,2], none, false, none, none⟩ : TxFrame)] }], 0,
     { org := Sys2Proof.Machine.TxOrigin.supervision,   tc := 3,   len := 80,   bytes := [0x01#8, 0x02#8],   launch := none,   tsReq := false,   fetched := none,   red := none },
     by decide +kernel⟩,
   ⟨tSt, 0, fillHeads 0 (guardRefresh (tSt).time 0 (tSt).dev), by decide +kernel, by decide +kernel, by decide +kernel, rfl,
     by decide +kernel⟩,
   ⟨tWith [dev fun d => { d with isl := tset d.isl (islPrt 0) ⟨.reset, false, false⟩ }], 0, by decide +kernel⟩,
   ⟨tWith [putN Reg.FP_CTRL.EN 0 1, putN Reg.FP_STATUS.LINK 0 1, dev fun d => d.modPort 0 fun x_ => { x_ with cur := none },
     dev fun d => d.modPort 0 fun x_ =>
     { x_ with queues := [((⟨.supervision, 3, 80, [1,2], none, false, none, none⟩ : TxFrame).tc, [(⟨.supervision, 3, 80, [1,2], none, false, none, none⟩ : TxFrame)])] },
     dev fun d => d.modPort 0 fun x_ => { x_ with flowQ := [] }, putN Reg.FP_TAS_CTRL.GATE_EN 0 0], 0, (⟨.supervision, 3,
     80, [1,2], none, false, none, none⟩ : TxFrame), by decide +kernel⟩,
   ⟨tWith [dev fun d => d.modPort 0 fun p =>
     { p with queues := [(3,[(⟨.supervision, 3, 80, [1,2], some (10^11 % 2^32, 10^11/2^32, 0), false, none, none⟩ : TxFrame)])] }],
     0, 3,
     { org := Sys2Proof.Machine.TxOrigin.supervision,   tc := 3,   len := 80,   bytes := [0x01#8, 0x02#8],   launch := some (1215752192, 23, 0),   tsReq := false,   fetched := none,   red := none },
     by decide +kernel⟩,
   ⟨tSt, 0, 0, by decide +kernel⟩,
   ⟨tWith [putN Reg.FP_CTRL.EN 0 1, putN Reg.FP_STATUS.LINK 0 1, dev fun d => d.modPort 0 fun x_ => { x_ with cur := none },
     dev fun d => d.modPort 0 fun x_ =>
     { x_ with queues := [((⟨.supervision, 3, 80, [1,2], some (10^11 % 2^32, 10^11/2^32, 0), false, none, none⟩ : TxFrame).tc, [(⟨.supervision, 3, 80, [1,2], some (10^11 % 2^32, 10^11/2^32, 0), false, none, none⟩ : TxFrame)])] },
     putN Reg.FP_TAS_CTRL.GATE_EN 0 0], 0, (⟨.supervision, 3, 80, [1,2], some (10^11 % 2^32, 10^11/2^32, 0), false, none,
     none⟩ : TxFrame), (1215752192, 23, 0), by decide +kernel⟩,
   ⟨tWith [putN Reg.FP_CTRL.EN 0 1], 0, by decide +kernel⟩,
   ⟨tWith [dev fun d => d.modPort 0 fun p =>
     { p with cur := some ⟨(⟨.supervision, 3, 80, [1,2], none, false, none, none⟩ : TxFrame),4*10^11-9,0⟩ }], 0,
     { frame := { org := Sys2Proof.Machine.TxOrigin.supervision,              tc := 3,              len := 80,              bytes := [0x01#8, 0x02#8],              launch := none,              tsReq := false,              fetched := none,              red := none },   startQ := 399999999991,   status := 0 },
     by decide +kernel⟩,
   ⟨tSt, 0, by decide +kernel⟩,
   ⟨tWith [dev fun d => d.modPort 0 fun p =>
     { p with cur := some ⟨(⟨.supervision, 3, 80, [1,2], none, false, some 20, none⟩ : TxFrame),4*10^11-9,0⟩ }], 0, 20,
     { frame := { org := Sys2Proof.Machine.TxOrigin.supervision,              tc := 3,              len := 80,              bytes := [0x01#8, 0x02#8],              launch := none,              tsReq := false,              fetched := some 20,              red := none },   startQ := 399999999991,   status := 0 },
     by decide +kernel⟩,
   ⟨tWith [dev fun d => d.modPort 0 fun p =>
     { p with cur := some ⟨(⟨.supervision, 3, 80, [1,2], none, false, none, none⟩ : TxFrame),4*10^11-9,0⟩ }], 0,
     { frame := { org := Sys2Proof.Machine.TxOrigin.supervision,              tc := 3,              len := 80,              bytes := [0x01#8, 0x02#8],              launch := none,              tsReq := false,              fetched := none,              red := none },   startQ := 399999999991,   status := 0 },
     by decide +kernel⟩,
   ⟨tSt, 0, by decide +kernel⟩,
   ⟨tWith [putN Reg.FP_TAS_STAT.PENDING 0 1], 0, by decide +kernel⟩,
   ⟨tWith [dev fun d => d.modPort 0 fun x_ => { x_ with gate.pend := some ((⟨0, 2, 0, 0, 0⟩ : GateCfg), 5) }], 0, 5, (⟨0, 2, 0,
     0, 0⟩ : GateCfg), by decide +kernel, by decide +kernel, by decide +kernel, by decide +kernel, by rintro _ _ ⟨⟩⟩,
   ⟨tWith [dev fun d => d.modPort 0 fun x_ => { x_ with gate.restart := some ((⟨0, 2, 0, 0, 0⟩ : GateCfg), 0) }], 0, 0, (⟨0, 2,
     0, 0, 0⟩ : GateCfg), by decide +kernel, by decide +kernel, by decide +kernel, by decide +kernel, by rintro _ _ ⟨⟩⟩,
   ⟨tSt, 0, by rintro _ _ ⟨⟩, by rintro _ _ ⟨⟩⟩,
   ⟨tWith [putN Reg.T_GATEI.INTERVAL 0 500, dev fun d => d.modPort 0 fun x_ =>
     { x_ with gate.oper := some (⟨0, 2, 1000, 0, 0⟩ : GateCfg) }], 0, (⟨0, 2, 1000, 0, 0⟩ : GateCfg), by decide +kernel⟩,
   ⟨tSt, 0, by decide +kernel⟩⟩

/-- The hypotheses of Pairs, clause by clause, at states and operands that meet them. -/
theorem witness_Pairs :
(∃ (p : Nat), p < 8) ∧
(∃ (s : State) (p : Nat) (w : PairWait), p < 8 ∧ List.find? (fun w ↦ w.even.isSome && w.odd.isSome) (s.dev.pair p).waits =
      some w) ∧
(∃ (s : State) (p : Nat) (w : PairWait), p < 8 ∧ List.find? (fun w ↦ w.even.isSome && w.odd.isSome) (s.dev.pair p).waits =
      some w ∧ (∀ (x : CopyFate), w.even.join = some x → x.stamp = none) ∧ ∀ (x : CopyFate), w.odd.join = some x → x.stamp =
      none) ∧
(∃ (a : CopyFate) (b : CopyFate), a.onTime = true ∨ b.onTime = true) ∧
(∃ (a : CopyFate), a.onTime = false) ∧
(∃ (s : State) (p : Nat), ∀ (w : PairWait), w ∈ (s.dev.pair p).waits → w.even = none ∨ w.odd = none) ∧
(∃ (s : State) (p : Nat), p < 8 ∧ (pairMode s.dev (p * 2) = 1 ∨ pairMode s.dev (p * 2) = 2) ∧ (portRuns s.dev (p * 2) = true
      ∨ portRuns s.dev (p * 2 + 1) = true) ∧ s.dev.getN Reg.FP_PAIR.SUP_INT (p * 2) ≠ 0 ∧ (s.dev.pair p).supLast +
      s.dev.getN Reg.FP_PAIR.SUP_INT (p * 2) * 100000000 ≤ s.time.loc) ∧
(∃ (s : State) (p : Nat), p < 8 ∧ (pairMode s.dev (p * 2) = 0 ∨ s.dev.getN Reg.FP_PAIR.SUP_INT (p * 2) = 0 ∨ s.time.loc -
      (s.dev.pair p).supLast < s.dev.getN Reg.FP_PAIR.SUP_INT (p * 2) * 100000000 ∨ portRuns s.dev (p * 2) = false ∧
      portRuns s.dev (p * 2 + 1) = false)) :=
  ⟨⟨0, by decide +kernel⟩,
   ⟨tWith [dev fun d => d.setPair 0 { d.pair 0 with waits := [⟨40,3,[],some (some ⟨4, false, none⟩), some none⟩] }], 0,
     { ring := 40,   idx := 3,   words := [],   even := some (some { status := 4, onTime := false, stamp := none }),   odd := some none },
     by decide +kernel⟩,
   ⟨tWith [dev fun d => d.setPair 0 { d.pair 0 with waits := [⟨40,3,[],some (some ⟨4, false, none⟩), some none⟩] }], 0,
     { ring := 40,   idx := 3,   words := [],   even := some (some { status := 4, onTime := false, stamp := none }),   odd := some none },
     by decide +kernel⟩,
   ⟨(⟨4,false,none⟩ : CopyFate), (⟨0,true,some 5⟩ : CopyFate), by decide +kernel⟩,
   ⟨(⟨4,false,none⟩ : CopyFate), by decide +kernel⟩,
   ⟨tSt, 0, by decide +kernel⟩,
   ⟨tWith [putN Reg.FP_PAIR.MODE 0 1, putN Reg.FP_CTRL.EN (0 * 2) 1, putN Reg.FP_PAIR.SUP_INT (0 * 2) ((0 + 1))], 0,
     by decide +kernel⟩,
   ⟨tSt, 0, by decide +kernel⟩⟩

/-- The hypotheses of IngestFrames, clause by clause, at states and operands that meet them. -/
theorem witness_IngestFrames :
(∃ (s : State), nextInput s.dev = none ∨ s.dev.up islIng = false) ∧
(∃ (s : State) (i : Nat) (c : Nat) (f : InFrame) (rest : List InFrame), s.dev.up islIng = true ∧ nextInput s.dev = some i ∧
      i < 20 ∧ tget s.dev.ing.inq i = f :: rest ∧ c = (if s.dev.ing.ms = s.time.ns / 1000000 then tget s.dev.ing.msCnt i
      else 0) + 1) ∧
(∃ (s : State) (c : Nat) (x : Inject) (rest : List Inject), s.dev.up islIng = true ∧ nextInput s.dev = some 20 ∧
      s.dev.ing.injq = x :: rest ∧ c = (if s.dev.ing.ms = s.time.ns / 1000000 then tget s.dev.ing.msCnt 20 else 0) + 1) ∧
(∃ (s : State), s.dev.up islIng = true) ∧
(∃ (s : State), s.dev.up islIng = true ∧ s.time.sec ≠ s.dev.ing.second) ∧
(∃ (s : State), s.dev.up islIng = true ∧ s.dev.ing.buf = []) ∧
(∃ (s : State) (f : InFrame) (rest : List InFrame), s.dev.up islIng = true ∧ s.dev.ing.buf = f :: rest) ∧
(∃ (s : State), s.dev.up islIng = false) :=
  ⟨⟨tSt, by decide +kernel⟩,
   ⟨tWith [fun s =>
     { s with dev.ing.inq := tset s.dev.ing.inq 0 ((⟨2,0,(⟨5,9,[],100,true,false,none,none,3,.other 0x88AA,[],0,0⟩ : RxFrame),false⟩ : InFrame) :: []) }],
     0, 1, (⟨2,0,(⟨5,9,[],100,true,false,none,none,3,.other 0x88AA,[],0,0⟩ : RxFrame),false⟩ : InFrame), [],
     by decide +kernel⟩,
   ⟨tWith [fun s =>
     { s with dev.ing.injq := (⟨0,0,none,(⟨5,9,[],100,true,false,none,none,3,.other 0x88AA,[],0,0⟩ : RxFrame)⟩ : Inject) :: [] }],
     1, (⟨0,0,none,(⟨5,9,[],100,true,false,none,none,3,.other 0x88AA,[],0,0⟩ : RxFrame)⟩ : Inject), [], by decide +kernel⟩,
   ⟨tSt, by decide +kernel⟩,
   ⟨tSt, by decide +kernel⟩,
   ⟨tSt, by decide +kernel⟩,
   ⟨tWith [fun s =>
     { s with dev.ing.buf := (⟨2,0,(⟨5,9,[],100,true,false,none,none,3,.other 0x88AA,[],0,0⟩ : RxFrame),false⟩ : InFrame) :: [] }],
     (⟨2,0,(⟨5,9,[],100,true,false,none,none,3,.other 0x88AA,[],0,0⟩ : RxFrame),false⟩ : InFrame), [], by decide +kernel⟩,
   ⟨tWith [dev fun d => { d with isl := tset d.isl islIng ⟨.reset, false, false⟩ }], by decide +kernel⟩⟩

/-- The hypotheses of IngestSources, clause by clause, at states and operands that meet them. -/
theorem witness_IngestSources :
(∃ (f : InFrame) (b : Block) (d : Dev), inFuture d f b = true) ∧
(∃ (f : InFrame) (b : Block) (d : Dev), inFuture d f b = false ∧ d.getN Reg.T_SRC.RLIM b.src = 0) ∧
(∃ (s : State) (n : Nat), n < 512 ∧ s.dev.up islIng = true ∧ srcState s.dev n = 2 ∧ (tget s.dev.ing.src n).bit10 = false ∧
      (tget s.dev.ing.src n).clearSince + 60000000000 ≤ s.time.loc) ∧
(∃ (s : State) (n : Nat), 512 ≤ n ∨ s.dev.up islIng = false ∨ srcState s.dev n ≠ 2 ∨ (tget s.dev.ing.src n).bit10 = true ∨
      s.time.loc < (tget s.dev.ing.src n).clearSince + 60000000000) ∧
(∃ (s : State) (n : Nat) (w : Nat) (v : Word32), n < 512 ∧ w < 16 ∧ s.dev.up islIng = true ∧ s.dev.onN Reg.T_SRC.VALID n =
      true ∧ (w ≠ 0 ∨ bitOf v 0 = true)) ∧
(∃ (s : State) (n : Nat) (w : Nat) (v : Word32), n < 512 ∧ w < 16 ∧ s.dev.up islIng = true ∧ s.dev.onN Reg.T_SRC.VALID n =
      true ∧ bitOf v 0 = false) ∧
(∃ (s : State) (n : Nat) (w : Nat), n < 512 ∧ w < 16 ∧ s.dev.up islIng = true ∧ s.dev.onN Reg.T_SRC.VALID n = false ∧ w ≠ 0) ∧
(∃ (s : State) (n : Nat) (w : Nat) (v : Word32), n < 512 ∧ w < 16 ∧ s.dev.up islIng = true ∧ s.dev.onN Reg.T_SRC.VALID n =
      false ∧ bitOf v 0 = false) ∧
(∃ (s : State) (n : Nat) (w : Nat) (v : Word32), n < 512 ∧ w < 16 ∧ s.dev.up islIng = true ∧ s.dev.onN Reg.T_SRC.VALID n =
      false ∧ bitOf v 0 = true ∧ srcOk (s.dev.putUnvalid (2097152 + n * 64) v) n = false) ∧
(∃ (s : State) (n : Nat) (w : Nat) (v : Word32), n < 512 ∧ w < 16 ∧ s.dev.up islIng = true ∧ s.dev.onN Reg.T_SRC.VALID n =
      false ∧ bitOf v 0 = true ∧ srcOk (s.dev.putUnvalid (2097152 + n * 64) v) n = true) ∧
(∃ (s : State) (g : Nat), g < 128 ∧ s.dev.up islIng = true ∧ s.dev.onN Reg.T_GSUB.VALID g = true ∧ (gooseSt s.dev g).heard =
      true ∧ (gooseSt s.dev g).expired = false ∧ (gooseSt s.dev g).talEnd ≤ s.time.loc) ∧
(∃ (s : State) (g : Nat), 128 ≤ g ∨ s.dev.up islIng = false ∨ s.dev.onN Reg.T_GSUB.VALID g = false ∨ (gooseSt s.dev g).heard
      = false ∨ (gooseSt s.dev g).expired = true ∨ s.time.loc < (gooseSt s.dev g).talEnd) :=
  ⟨⟨(⟨0, 4*10^11-40, (⟨5,9,[],100,true,false,none,none,3,.other 0x88AA,[],0,0⟩ : RxFrame), false⟩ : InFrame), (⟨3, 105, 105, 5,
     50, 0, 0, 0, [1,2]⟩ : Block), tSt.dev, by decide +kernel⟩,
   ⟨(⟨0, 4*10^11-40, (⟨5,9,[],100,true,false,none,none,3,.other 0x88AA,[],0,0⟩ : RxFrame), false⟩ : InFrame), (⟨3, 99, 99, 5,
     50, 0, 0, 0, [1,2]⟩ : Block), tSt.dev, by decide +kernel⟩,
   ⟨tWith [putN Reg.T_SRCSTAT.STATE 3 2], 3, by decide +kernel⟩,
   ⟨tSt, 3, by decide +kernel⟩,
   ⟨tWith [putN Reg.T_SRC.VALID 3 1], 3, 0, 1, by decide +kernel⟩,
   ⟨tWith [putN Reg.T_SRC.VALID 3 1], 3, 0, 0, by decide +kernel⟩,
   ⟨tSt, 3, 1, by decide +kernel⟩,
   ⟨tSt, 3, 0, 0, by decide +kernel⟩,
   ⟨tSt, 3, 0, 1, by decide +kernel⟩,
   ⟨tSt, 3, 0, 13321, by decide +kernel⟩,
   ⟨tWith [dev fun d => d.modIng fun k =>
     { k with goose := tmod k.goose 3 fun x => { x with heard := true, talEnd := 10^11-5 } }, putN Reg.T_GSUB.VALID 3 1], 3,
     by decide +kernel⟩,
   ⟨tSt, 3, by decide +kernel⟩⟩

/-- The hypotheses of RollCallFrames, clause by clause, at states and operands that meet them. -/
theorem witness_RollCallFrames :
(∃ (s : State), s.dev.aln.inq = []) ∧
(∃ (s : State) (b : AlnBlk) (rest : List AlnBlk) (d : Dev), s.dev.aln.inq = b :: rest ∧ d = closeOverdue s.time
      s.dev.aln.open_.length (s.dev.modAln fun x ↦ { x with inq := rest }) ∧ (d.up islAln = false ∨ d.on Reg.ALN_CTRL.EN =
      false ∨ d.on Reg.ALN_STATUS.RUN = false)) ∧
(∃ (s : State) (b : AlnBlk) (rest : List AlnBlk) (d : Dev), s.dev.aln.inq = b :: rest ∧ d = closeOverdue s.time
      s.dev.aln.open_.length (s.dev.modAln fun x ↦ { x with inq := rest }) ∧ d.up islAln = true ∧ d.on Reg.ALN_CTRL.EN =
      true ∧ d.on Reg.ALN_STATUS.RUN = true ∧ b.future = true) ∧
(∃ (s : State) (b : AlnBlk) (rest : List AlnBlk) (d : Dev), s.dev.aln.inq = b :: rest ∧ d = closeOverdue s.time
      s.dev.aln.open_.length (s.dev.modAln fun x ↦ { x with inq := rest }) ∧ d.up islAln = true ∧ d.on Reg.ALN_CTRL.EN =
      true ∧ d.on Reg.ALN_STATUS.RUN = true ∧ b.future = false ∧ (blockK d b = none ∨ srcAligned d b.src = false ∨ d.getN
      Reg.T_ATTR.RSV b.src < b.words.length)) ∧
(∃ (s : State) (b : AlnBlk) (rest : List AlnBlk) (d : Dev) (k : Nat), s.dev.aln.inq = b :: rest ∧ d = closeOverdue s.time
      s.dev.aln.open_.length (s.dev.modAln fun x ↦ { x with inq := rest }) ∧ d.up islAln = true ∧ d.on Reg.ALN_CTRL.EN =
      true ∧ d.on Reg.ALN_STATUS.RUN = true ∧ b.future = false ∧ blockK d b = some k ∧ srcAligned d b.src = true ∧
      b.words.length ≤ d.getN Reg.T_ATTR.RSV b.src) ∧
(∃ (t : Time) (d : Dev), ∀ (sp : Spread) (rest : List Spread), d.aln.open_ = sp :: rest → overdue t d sp = false) ∧
(∃ (k : Nat) (b : AlnBlk) (d : Dev) (e : Dev) (sp : Spread), e = revive k b d ∧ List.find? (fun o ↦ o.k == k) e.aln.open_ =
      some sp ∧ b.src ∈ sp.present) ∧
(∃ (k : Nat) (b : AlnBlk) (d : Dev) (e : Dev) (sp : Spread), e = revive k b d ∧ List.find? (fun o ↦ o.k == k) e.aln.open_ =
      some sp ∧ b.src ∉ sp.present) ∧
(∃ (k : Nat) (b : AlnBlk) (d : Dev) (e : Dev), e = revive k b d ∧ List.find? (fun o ↦ o.k == k) e.aln.open_ = none ∧ (k <
      e.aln.nextK ∨ k < e.aln.firstK ∨ e.aln.drain = true)) ∧
(∃ (k : Nat) (b : AlnBlk) (d : Dev) (e : Dev), e = revive k b d ∧ List.find? (fun o ↦ o.k == k) e.aln.open_ = none ∧
      e.aln.nextK ≤ k ∧ e.aln.firstK ≤ k ∧ e.aln.drain = false ∧ slotTaken e k = true) ∧
(∃ (k : Nat) (b : AlnBlk) (d : Dev) (e : Dev), e = revive k b d ∧ List.find? (fun o ↦ o.k == k) e.aln.open_ = none ∧
      e.aln.nextK ≤ k ∧ e.aln.firstK ≤ k ∧ e.aln.drain = false ∧ slotTaken e k = false) ∧
(∃ (sp : Spread) (b : AlnBlk) (d : Dev) (pol : Nat), sp ∈ d.aln.open_ ∧ (pol = if b.flags.testBit 5 = true then attrGet d
      Reg.T_ATTR.TQ_POLICY (spreadNs d sp.k) b.src else 0) ∧ pol ≠ 2) ∧
(∃ (sp : Spread) (b : AlnBlk) (d : Dev) (pol : Nat), sp ∈ d.aln.open_ ∧ (pol = if b.flags.testBit 5 = true then attrGet d
      Reg.T_ATTR.TQ_POLICY (spreadNs d sp.k) b.src else 0) ∧ pol = 2) :=
  ⟨⟨tSt, by decide +kernel⟩,
   ⟨tWith [fun s => { s with dev.aln.inq := (⟨3, 99, 5, 50, 4*10^11-40, 0, 0, [1,2], false⟩ : AlnBlk) :: [] }], (⟨3, 99, 5, 50,
     4*10^11-40, 0, 0, [1,2], false⟩ : AlnBlk), [], closeOverdue (tWith [fun s =>
     { s with dev.aln.inq := (⟨3, 99, 5, 50, 4*10^11-40, 0, 0, [1,2], false⟩ : AlnBlk) :: [] }]).time (tWith [fun s =>
     { s with dev.aln.inq := (⟨3, 99, 5, 50, 4*10^11-40, 0, 0, [1,2], false⟩ : AlnBlk) :: [] }]).dev.aln.open_.length
     ((tWith [fun s =>
     { s with dev.aln.inq := (⟨3, 99, 5, 50, 4*10^11-40, 0, 0, [1,2], false⟩ : AlnBlk) :: [] }]).dev.modAln fun x ↦
     { x with inq := [] }), by decide +kernel, rfl, by decide +kernel⟩,
   ⟨tWith [put Reg.ALN_CTRL.SPREAD_RATE 3, put Reg.ALN_STATUS.RUN 1, put Reg.ALN_CTRL.EN 1, put Reg.GLB_SPLIT.ALIGN 1, put
     Reg.ALN_DEPTH.D 16, fun s => { s with dev.aln.inq := (⟨3, 99, 5, 50, 4*10^11-40, 0, 0, [1,2], true⟩ : AlnBlk) :: [] }],
     (⟨3, 99, 5, 50, 4*10^11-40, 0, 0, [1,2], true⟩ : AlnBlk), [], closeOverdue (tWith [put Reg.ALN_CTRL.SPREAD_RATE 3, put
     Reg.ALN_STATUS.RUN 1, put Reg.ALN_CTRL.EN 1, put Reg.GLB_SPLIT.ALIGN 1, put Reg.ALN_DEPTH.D 16, fun s =>
     { s with dev.aln.inq := (⟨3, 99, 5, 50, 4*10^11-40, 0, 0, [1,2], true⟩ : AlnBlk) :: [] }]).time (tWith [put
     Reg.ALN_CTRL.SPREAD_RATE 3, put Reg.ALN_STATUS.RUN 1, put Reg.ALN_CTRL.EN 1, put Reg.GLB_SPLIT.ALIGN 1, put
     Reg.ALN_DEPTH.D 16, fun s =>
     { s with dev.aln.inq := (⟨3, 99, 5, 50, 4*10^11-40, 0, 0, [1,2], true⟩ : AlnBlk) :: [] }]).dev.aln.open_.length ((tWith
     [put Reg.ALN_CTRL.SPREAD_RATE 3, put Reg.ALN_STATUS.RUN 1, put Reg.ALN_CTRL.EN 1, put Reg.GLB_SPLIT.ALIGN 1, put
     Reg.ALN_DEPTH.D 16, fun s =>
     { s with dev.aln.inq := (⟨3, 99, 5, 50, 4*10^11-40, 0, 0, [1,2], true⟩ : AlnBlk) :: [] }]).dev.modAln fun x ↦
     { x with inq := [] }), by decide +kernel, rfl, by decide +kernel⟩,
   ⟨tWith [put Reg.ALN_CTRL.SPREAD_RATE 3, put Reg.ALN_STATUS.RUN 1, put Reg.ALN_CTRL.EN 1, put Reg.GLB_SPLIT.ALIGN 1, put
     Reg.ALN_DEPTH.D 16, fun s =>
     { s with dev.aln.inq := (⟨3, 99, 5, 50, 4*10^11-40, 0, 0, [1,2], false⟩ : AlnBlk) :: [] }], (⟨3, 99, 5, 50, 4*10^11-40,
     0, 0, [1,2], false⟩ : AlnBlk), [], closeOverdue (tWith [put Reg.ALN_CTRL.SPREAD_RATE 3, put Reg.ALN_STATUS.RUN 1, put
     Reg.ALN_CTRL.EN 1, put Reg.GLB_SPLIT.ALIGN 1, put Reg.ALN_DEPTH.D 16, fun s =>
     { s with dev.aln.inq := (⟨3, 99, 5, 50, 4*10^11-40, 0, 0, [1,2], false⟩ : AlnBlk) :: [] }]).time (tWith [put
     Reg.ALN_CTRL.SPREAD_RATE 3, put Reg.ALN_STATUS.RUN 1, put Reg.ALN_CTRL.EN 1, put Reg.GLB_SPLIT.ALIGN 1, put
     Reg.ALN_DEPTH.D 16, fun s =>
     { s with dev.aln.inq := (⟨3, 99, 5, 50, 4*10^11-40, 0, 0, [1,2], false⟩ : AlnBlk) :: [] }]).dev.aln.open_.length
     ((tWith [put Reg.ALN_CTRL.SPREAD_RATE 3, put Reg.ALN_STATUS.RUN 1, put Reg.ALN_CTRL.EN 1, put Reg.GLB_SPLIT.ALIGN 1,
     put Reg.ALN_DEPTH.D 16, fun s =>
     { s with dev.aln.inq := (⟨3, 99, 5, 50, 4*10^11-40, 0, 0, [1,2], false⟩ : AlnBlk) :: [] }]).dev.modAln fun x ↦
     { x with inq := [] }), by decide +kernel, rfl, by decide +kernel⟩,
   ⟨tWith [put Reg.ALN_CTRL.SPREAD_RATE 3, put Reg.ALN_STATUS.RUN 1, put Reg.ALN_CTRL.EN 1, put Reg.GLB_SPLIT.ALIGN 1, put
     Reg.ALN_DEPTH.D 16, putN Reg.T_SRC.VALID 3 1, putN Reg.T_SRC.TYPE 3 4, putN Reg.T_SRC.WORDS 3 2, putN Reg.T_ATTR.RSV 3
     8, putN Reg.T_SRC.RATE 3 3, dev fun d => d.modAln fun k =>
     { k with inq := [(⟨3, 99, 5, 50, 4*10^11-40, 0, 0, [1,2], false⟩ : AlnBlk)] }, fun s =>
     { s with dev.aln.inq := (⟨3, 99, 5, 10, 4*10^11-40, 0, 0, [1,2], false⟩ : AlnBlk) :: [] }], (⟨3, 99, 5, 10, 4*10^11-40,
     0, 0, [1,2], false⟩ : AlnBlk), [], closeOverdue (tWith [put Reg.ALN_CTRL.SPREAD_RATE 3, put Reg.ALN_STATUS.RUN 1, put
     Reg.ALN_CTRL.EN 1, put Reg.GLB_SPLIT.ALIGN 1, put Reg.ALN_DEPTH.D 16, putN Reg.T_SRC.VALID 3 1, putN Reg.T_SRC.TYPE 3
     4, putN Reg.T_SRC.WORDS 3 2, putN Reg.T_ATTR.RSV 3 8, putN Reg.T_SRC.RATE 3 3, dev fun d => d.modAln fun k =>
     { k with inq := [(⟨3, 99, 5, 50, 4*10^11-40, 0, 0, [1,2], false⟩ : AlnBlk)] }, fun s =>
     { s with dev.aln.inq := (⟨3, 99, 5, 10, 4*10^11-40, 0, 0, [1,2], false⟩ : AlnBlk) :: [] }]).time (tWith [put
     Reg.ALN_CTRL.SPREAD_RATE 3, put Reg.ALN_STATUS.RUN 1, put Reg.ALN_CTRL.EN 1, put Reg.GLB_SPLIT.ALIGN 1, put
     Reg.ALN_DEPTH.D 16, putN Reg.T_SRC.VALID 3 1, putN Reg.T_SRC.TYPE 3 4, putN Reg.T_SRC.WORDS 3 2, putN Reg.T_ATTR.RSV 3
     8, putN Reg.T_SRC.RATE 3 3, dev fun d => d.modAln fun k =>
     { k with inq := [(⟨3, 99, 5, 50, 4*10^11-40, 0, 0, [1,2], false⟩ : AlnBlk)] }, fun s =>
     { s with dev.aln.inq := (⟨3, 99, 5, 10, 4*10^11-40, 0, 0, [1,2], false⟩ : AlnBlk) :: [] }]).dev.aln.open_.length
     ((tWith [put Reg.ALN_CTRL.SPREAD_RATE 3, put Reg.ALN_STATUS.RUN 1, put Reg.ALN_CTRL.EN 1, put Reg.GLB_SPLIT.ALIGN 1,
     put Reg.ALN_DEPTH.D 16, putN Reg.T_SRC.VALID 3 1, putN Reg.T_SRC.TYPE 3 4, putN Reg.T_SRC.WORDS 3 2, putN
     Reg.T_ATTR.RSV 3 8, putN Reg.T_SRC.RATE 3 3, dev fun d => d.modAln fun k =>
     { k with inq := [(⟨3, 99, 5, 50, 4*10^11-40, 0, 0, [1,2], false⟩ : AlnBlk)] }, fun s =>
     { s with dev.aln.inq := (⟨3, 99, 5, 10, 4*10^11-40, 0, 0, [1,2], false⟩ : AlnBlk) :: [] }]).dev.modAln fun x ↦
     { x with inq := [] }), 1990, by decide +kernel, rfl, by decide +kernel⟩,
   ⟨(⟨2^46*10^11,25*10^9⟩ : Time), tSt.dev, by rintro _ _ ⟨⟩⟩,
   ⟨4955, (⟨3, 99, 5, 50, 4*10^11-40, 0, 0, [1,2], false⟩ : AlnBlk), (tWith [dev fun d => d.modAln fun k =>
     { k with open_ := [(⟨4955, [3,4], [3], [], []⟩ : Spread)] }]).dev, (revive 4955 (⟨3, 99, 5, 50, 4*10^11-40, 0, 0,
     [1,2], false⟩ : AlnBlk) (tWith [dev fun d => d.modAln fun k =>
     { k with open_ := [(⟨4955, [3,4], [3], [], []⟩ : Spread)] }]).dev),
     { k := 4955, due := [3, 4], present := [3], future := [], tqDrop := [] }, rfl, by decide +kernel⟩,
   ⟨4955, (⟨3, 99, 5, 50, 4*10^11-40, 0, 0, [1,2], false⟩ : AlnBlk), (tWith [dev fun d => d.modAln fun k =>
     { k with open_ := [(⟨4955, [3,4], [4], [], []⟩ : Spread)] }]).dev, (revive 4955 (⟨3, 99, 5, 50, 4*10^11-40, 0, 0,
     [1,2], false⟩ : AlnBlk) (tWith [dev fun d => d.modAln fun k =>
     { k with open_ := [(⟨4955, [3,4], [4], [], []⟩ : Spread)] }]).dev),
     { k := 4955, due := [3, 4], present := [4], future := [], tqDrop := [] }, rfl, by decide +kernel⟩,
   ⟨4955, (⟨3, 99, 5, 50, 4*10^11-40, 0, 0, [1,2], false⟩ : AlnBlk), (tWith [dev fun d => d.modAln fun k =>
     { k with nextK := 4960 }]).dev, (revive 4955 (⟨3, 99, 5, 50, 4*10^11-40, 0, 0, [1,2], false⟩ : AlnBlk) (tWith [dev fun
     d => d.modAln fun k => { k with nextK := 4960 }]).dev), rfl, by decide +kernel⟩,
   ⟨4971, (⟨3, 99, 5, 50, 4*10^11-40, 0, 0, [1,2], false⟩ : AlnBlk), (tWith [dev fun d => d.modAln fun k =>
     { k with open_ := [(⟨4955, [3,4], [4], [], []⟩ : Spread)] }]).dev, (revive 4971 (⟨3, 99, 5, 50, 4*10^11-40, 0, 0,
     [1,2], false⟩ : AlnBlk) (tWith [dev fun d => d.modAln fun k =>
     { k with open_ := [(⟨4955, [3,4], [4], [], []⟩ : Spread)] }]).dev), rfl, by decide +kernel⟩,
   ⟨4955, (⟨3, 99, 5, 50, 4*10^11-40, 0, 0, [1,2], false⟩ : AlnBlk), tSt.dev, (revive 4955 (⟨3, 99, 5, 50, 4*10^11-40, 0, 0,
     [1,2], false⟩ : AlnBlk) tSt.dev), rfl, by decide +kernel⟩,
   ⟨{ k := 4955, due := [3, 4], present := [4], future := [], tqDrop := [] }, (⟨3, 99, 5, 50, 4*10^11-40, 0, 0, [1,2], false⟩ :
     AlnBlk), (tWith [dev fun d => d.modAln fun k => { k with open_ := [(⟨4955, [3,4], [4], [], []⟩ : Spread)] }]).dev, 0,
     by decide +kernel⟩,
   ⟨{ k := 4955, due := [3, 4], present := [4], future := [], tqDrop := [] }, (⟨3, 99, 5, 50, 4*10^11-40, 0, 32, [1,2], false⟩
     : AlnBlk), (tWith [dev fun d => d.modAln fun k => { k with open_ := [(⟨4955, [3,4], [4], [], []⟩ : Spread)] }, putN
     Reg.T_ATTR.TQ_POLICY 3 2]).dev, 2, by decide +kernel⟩⟩

/-- The hypotheses of SpreadLife, clause by clause, at states and operands that meet them. -/
theorem witness_SpreadLife :
(∃ (s : State), alnOpens s.dev = true ∧ s.dev.aln.drain = false ∧ spreadNs s.dev s.dev.aln.nextK ≤ s.time.ns ∧ slotTaken
      s.dev s.dev.aln.nextK = false) ∧
(∃ (s : State), alnOpens s.dev = false ∨ s.dev.aln.drain = true ∨ s.time.ns < spreadNs s.dev s.dev.aln.nextK ∨ slotTaken
      s.dev s.dev.aln.nextK = true) ∧
(∃ (d : Dev) (k : Nat), ∀ (o : Spread), o ∈ d.aln.open_ → o.k ≠ k) ∧
(∃ (d : Dev) (k : Nat) (o : Spread), (∀ (o : Spread), o ∈ d.aln.open_ → o.k ≠ k) ∧ o ∈ d.aln.open_) ∧
(∃ (d : Dev) (k : Nat), (∀ (o : Spread), o ∈ d.aln.open_ → o.k ≠ k) ∧ List.Pairwise (fun x1 x2 ↦ x1 < x2) (List.map Spread.k
      d.aln.open_)) ∧
(∃ (d : Dev) (k : Nat), ∃ o, o ∈ d.aln.open_ ∧ o.k = k) ∧
(∃ (s : State), s.dev.up islAln = false ∨ s.dev.on Reg.ALN_STATUS.RUN = false ∨ s.dev.aln.open_ = [] ∧ s.dev.aln.drain =
      false) ∧
(∃ (s : State) (sp : Spread), s.dev.up islAln = true ∧ s.dev.on Reg.ALN_STATUS.RUN = true ∧ s.dev.aln.open_ = [sp] ∧
      s.dev.aln.drain = false ∧ (overdue s.time s.dev sp = true ∨ sp.k ≤ s.dev.aln.nextK ∧ (spreadComplete s.dev sp = true ∨
      spreadNs s.dev sp.k + alnWait s.dev ≤ s.time.ns))) ∧
(∃ (s : State) (sp : Spread), s.dev.aln.open_ = [sp] ∧ overdue s.time s.dev sp = false ∧ (s.dev.aln.nextK < sp.k ∨
      spreadComplete s.dev sp = false ∧ s.time.ns < spreadNs s.dev sp.k + alnWait s.dev)) ∧
(∃ (s : State) (k : Nat) (q : Nat) (c : Nat) (rest : List (Nat × Nat)), s.dev.up islAln = true ∧ s.dev.aln.held = (k, q) ::
      rest ∧ s.dev.aln.closedK = some c ∧ k + s.dev.aln.lag ≤ c ∧ ∀ (e : EvalItem), e ∈ s.dev.rul.evalQ → e.k ≠ k) ∧
(∃ (s : State), s.dev.up islAln = false ∨ s.dev.aln.held = [] ∨ s.dev.aln.closedK = none) ∧
(∃ (s : State) (k : Nat) (q : Nat) (c : Nat) (rest : List (Nat × Nat)), s.dev.aln.held = (k, q) :: rest ∧ s.dev.aln.closedK
      = some c ∧ (c < k + s.dev.aln.lag ∨ ∃ e, e ∈ s.dev.rul.evalQ ∧ e.k = k)) ∧
(∃ (s : State), s.dev.up islAln = true ∧ s.dev.on Reg.ALN_CTRL.EN = true) ∧
(∃ (s : State), s.dev.up islAln = true ∧ s.dev.on Reg.ALN_CTRL.EN = false ∧ s.dev.get Reg.GLB_SPLIT.ALIGN ≠ 1) ∧
(∃ (s : State), s.dev.up islAln = true ∧ s.dev.on Reg.ALN_CTRL.EN = false ∧ s.dev.get Reg.GLB_SPLIT.ALIGN = 1) ∧
(∃ (d : Dev) (z : Nat) (n : Nat), z = ((layOut d).1 + 63) / 64 * 64 ∧ n = (spreadRate d * d.get Reg.ALN_WAIT.WAIT + 999999)
      / 1000000 + List.foldl max (d.get Reg.ALN_CTRL.LAG_RSV) (List.map (fun n ↦ if d.onN Reg.ALN_OUTn_CFG.EN n = true then
      outLag d n else 0) (List.range 32)) + 1 ∧ partBytes d partAlign < z * n) ∧
(∃ (d : Dev) (z : Nat) (n : Nat), z = ((layOut d).1 + 63) / 64 * 64 ∧ n = (spreadRate d * d.get Reg.ALN_WAIT.WAIT + 999999)
      / 1000000 + List.foldl max (d.get Reg.ALN_CTRL.LAG_RSV) (List.map (fun n ↦ if d.onN Reg.ALN_OUTn_CFG.EN n = true then
      outLag d n else 0) (List.range 32)) + 1 ∧ z * n ≤ partBytes d partAlign) ∧
(∃ (s : State), s.dev.up islAln = true ∧ s.dev.aln.open_ = []) ∧
(∃ (s : State), s.dev.up islAln = true) ∧
(∃ (s : State) (n : Nat), 32 ≤ n ∧ s.dev.up islAln = true) ∧
(∃ (s : State) (n : Nat), n < 32 ∧ s.dev.up islAln = true ∧ s.dev.onN Reg.ALN_OUTn_CFG.EN n = true) ∧
(∃ (s : State) (n : Nat), n < 32 ∧ s.dev.up islAln = true ∧ s.dev.onN Reg.ALN_OUTn_CFG.EN n = false ∧ outAccepted (outCheck
      s.dev n) = false) ∧
(∃ (s : State) (n : Nat), n < 32 ∧ s.dev.up islAln = true ∧ s.dev.onN Reg.ALN_OUTn_CFG.EN n = false ∧ outAccepted (outCheck
      s.dev n) = true) :=
  ⟨⟨tWith [put Reg.ALN_CTRL.SPREAD_RATE 3, put Reg.ALN_STATUS.RUN 1, put Reg.ALN_CTRL.EN 1, put Reg.GLB_SPLIT.ALIGN 1, put
     Reg.ALN_DEPTH.D 16, putN Reg.HMP_PARTn.SIZE 0 4], by decide +kernel⟩,
   ⟨tSt, by decide +kernel⟩,
   ⟨tSt.dev, 4955, by decide +kernel⟩,
   ⟨(tWith [dev fun d => d.modAln fun k => { k with open_ := [(⟨4955, [3,4], [4], [], []⟩ : Spread)] }]).dev, 4971,
     { k := 4955, due := [3, 4], present := [4], future := [], tqDrop := [] }, by decide +kernel⟩,
   ⟨tSt.dev, 4955, by decide +kernel⟩,
   ⟨(tWith [dev fun d => d.modAln fun k => { k with open_ := [(⟨4955, [3,4], [4], [], []⟩ : Spread)] }]).dev, 4955,
     by decide +kernel⟩,
   ⟨tSt, by decide +kernel⟩,
   ⟨tWith [dev fun d => d.modAln fun k => { k with open_ := [(⟨4955, [3,4], [4], [], []⟩ : Spread)] }, put Reg.ALN_STATUS.RUN
     1, fun s => { s with dev.aln.drain := false }],
     { k := 4955, due := [3, 4], present := [4], future := [], tqDrop := [] }, by decide +kernel⟩,
   ⟨tWith [put Reg.ALN_CTRL.SPREAD_RATE 3, put Reg.ALN_STATUS.RUN 1, put Reg.ALN_CTRL.EN 1, put Reg.GLB_SPLIT.ALIGN 1, put
     Reg.ALN_DEPTH.D 16, dev fun d => d.modAln fun k => { k with open_ := [(⟨4955, [3,4], [4], [], []⟩ : Spread)] }],
     { k := 4955, due := [3, 4], present := [4], future := [], tqDrop := [] }, by decide +kernel⟩,
   ⟨tWith [fun s => { s with dev.aln.held := (4955, 7) :: [] }, fun s => { s with dev.aln.closedK := some 4960 }], 4955, 7,
     4960, [], by decide +kernel⟩,
   ⟨tSt, by decide +kernel⟩,
   ⟨tWith [dev fun d => d.modAln fun k => { k with lag := 9 }, fun s => { s with dev.aln.held := (4955, 7) :: [] }, fun s =>
     { s with dev.aln.closedK := some 4960 }], 4955, 7, 4960, [], by decide +kernel⟩,
   ⟨tWith [put Reg.ALN_CTRL.EN 1], by decide +kernel⟩,
   ⟨tSt, by decide +kernel⟩,
   ⟨tWith [put Reg.ALN_CTRL.EN 0, put Reg.GLB_SPLIT.ALIGN 1], by decide +kernel⟩,
   ⟨(tWith [putN Reg.T_ATTR.RSV 3 4]).dev, 64, 61, by decide +kernel⟩,
   ⟨tSt.dev, 0, 61, by decide +kernel⟩,
   ⟨tSt, by decide +kernel⟩,
   ⟨tSt, by decide +kernel⟩,
   ⟨tSt, 32, by decide +kernel⟩,
   ⟨tWith [putN Reg.ALN_OUTn_CFG.EN 2 1], 2, by decide +kernel⟩,
   ⟨tSt, 2, by decide +kernel⟩,
   ⟨tWith [put Reg.ALN_CTRL.SPREAD_RATE 3, put Reg.ALN_STATUS.RUN 1, put Reg.ALN_CTRL.EN 1, put Reg.GLB_SPLIT.ALIGN 1, put
     Reg.ALN_DEPTH.D 16, putN Reg.ALN_OUTn_CFG.RATE 2 3, putN Reg.ALN_OUTn_TB.TIME_BASE 2 1000, putN Reg.T_TMPL.W 128 42,
     put Reg.ALN_STATUS.RUN 0], 2, by decide +kernel⟩⟩

/-- The hypotheses of Converters, clause by clause, at states and operands that meet them. -/
theorem witness_Converters :
(∃ (s : State), s.dev.up islRaw = true ∧ s.dev.on Reg.ADC_REF.EN = false) ∧
(∃ (s : State), s.dev.up islRaw = true ∧ s.dev.on Reg.ADC_REF.EN = true) ∧
(∃ (s : State) (f : Nat), s.dev.up islRaw = true ∧ s.dev.on Reg.ADC_REF.EN = true ∧ s.dev.adc.refFrom = some f ∧ (if
      s.dev.on Reg.ADC_REF.EXT = true then f + 100000 else f + 2000000) ≤ s.time.loc) ∧
(∃ (s : State) (f : Nat), s.dev.up islRaw = true ∧ s.dev.on Reg.ADC_REF.EN = true ∧ s.dev.adc.refFrom = some f ∧ s.time.loc
      < if s.dev.on Reg.ADC_REF.EXT = true then f + 100000 else f + 2000000) ∧
(∃ (s : State), s.dev.up islRaw = false ∨ s.dev.on Reg.ADC_REF.EN = false ∨ s.dev.adc.refFrom = none) ∧
(∃ (s : State) (n : Nat), n < 2 ∧ s.dev.up islRaw = true ∧ (s.dev.onN Reg.ADC_CVn_CTRL.EN n = false ∨ cvRuns s.dev n = true
      ∨ cvArmed s.dev n = true)) ∧
(∃ (s : State) (n : Nat), n < 2 ∧ s.dev.up islRaw = true ∧ s.dev.onN Reg.ADC_CVn_CTRL.EN n = true ∧ cvRuns s.dev n = false ∧
      cvArmed s.dev n = false ∧ cvWalk s.dev n = none) ∧
(∃ (s : State) (n : Nat) (es : List Nat) (len : Nat), n < 2 ∧ s.dev.up islRaw = true ∧ s.dev.onN Reg.ADC_CVn_CTRL.EN n =
      true ∧ cvRuns s.dev n = false ∧ cvArmed s.dev n = false ∧ cvWalk s.dev n = some (es, len) ∧ (s.dev.getN
      Reg.T_ITIN.REPEAT (s.dev.getN Reg.ADC_CVn_LIST.START n) ≠ 0 ∨ s.dev.getN Reg.T_ITIN.OP (s.dev.getN
      Reg.ADC_CVn_LIST.START n) ≠ 2)) ∧
(∃ (s : State) (n : Nat) (es : List Nat) (len : Nat), n < 2 ∧ s.dev.up islRaw = true ∧ s.dev.onN Reg.ADC_CVn_CTRL.EN n =
      true ∧ cvRuns s.dev n = false ∧ cvArmed s.dev n = false ∧ cvWalk s.dev n = some (es, len) ∧ s.dev.getN
      Reg.T_ITIN.REPEAT (s.dev.getN Reg.ADC_CVn_LIST.START n) = 0 ∧ s.dev.getN Reg.T_ITIN.OP (s.dev.getN
      Reg.ADC_CVn_LIST.START n) = 2) ∧
(∃ (s : State) (n : Nat), 2 ≤ n ∨ s.dev.up islRaw = false ∨ cvArmed s.dev n = false) ∧
(∃ (n : Nat), 2 ≤ n) ∧
(∃ (s : State) (n : Nat) (v : Verdict), n < 2 ∧ s.dev.up islRaw = true ∧ cvArmed s.dev n = true ∧ verdictOf ((((cvTarget
      s.time n s.dev) : Nat) : Int) - ((s.time.ns : Nat) : Int)) (tickSpan s.time s.dev) (s.dev.cv n).tol = v ∧ v =
      Verdict.wait) ∧
(∃ (s : State) (n : Nat) (v : Verdict), n < 2 ∧ s.dev.up islRaw = true ∧ cvArmed s.dev n = true ∧ verdictOf ((((cvTarget
      s.time n s.dev) : Nat) : Int) - ((s.time.ns : Nat) : Int)) (tickSpan s.time s.dev) (s.dev.cv n).tol = v ∧ v =
      Verdict.expired) ∧
(∃ (s : State) (n : Nat) (v : Verdict), n < 2 ∧ s.dev.up islRaw = true ∧ cvArmed s.dev n = true ∧ verdictOf ((((cvTarget
      s.time n s.dev) : Nat) : Int) - ((s.time.ns : Nat) : Int)) (tickSpan s.time s.dev) (s.dev.cv n).tol = v ∧ (v =
      Verdict.ok ∨ v = Verdict.late)) ∧
(∃ (s : State) (n : Nat), n < 2 ∧ s.dev.up islRaw = true ∧ cvArmed s.dev n = true) ∧
(∃ (s : State) (n : Nat), n < 2 ∧ s.dev.up islRaw = true ∧ cvArmed s.dev n = false ∧ cvRuns s.dev n = true) ∧
(∃ (s : State) (n : Nat), n < 2 ∧ s.dev.up islRaw = true ∧ cvArmed s.dev n = false ∧ cvRuns s.dev n = false) ∧
(∃ (s : State) (n : Nat), 2 ≤ n ∨ s.dev.up islRaw = false ∨ cvRuns s.dev n = false ∨ s.time.ns < (s.dev.cv n).next) ∧
(∃ (s : State) (n : Nat), n < 2 ∧ s.dev.up islRaw = true ∧ cvRuns s.dev n = true ∧ (s.dev.cv n).next ≤ s.time.ns ∧ (s.dev.cv
      n).stopping = true) ∧
(∃ (s : State) (n : Nat), n < 2 ∧ s.dev.up islRaw = true ∧ cvRuns s.dev n = true ∧ (s.dev.cv n).next ≤ s.time.ns ∧ (s.dev.cv
      n).stopping = false) ∧
(∃ (d : Dev) (n : Nat), (d.cv n).reps < d.getN Reg.T_ITIN.REPEAT (cvPos d n) ∨ (d.cv n).idle < d.getN Reg.T_ITIN.DELAY
      (cvPos d n)) ∧
(∃ (n : Nat), n < 2) ∧
(∃ (s : State) (n : Nat), 2 ≤ n ∨ s.dev.up islRaw = false ∨ (s.dev.cv n).due = []) ∧
(∃ (s : State) (n : Nat) (x : AdcDue) (rest : List AdcDue), n < 2 ∧ s.dev.up islRaw = true ∧ (s.dev.cv n).due = x :: rest) ∧
(∃ (s : State), s.dev.up islRaw = true ∧ s.dev.adc.diagFrom + 100000 ≤ s.time.loc) ∧
(∃ (s : State), s.dev.up islRaw = true ∧ s.time.loc < s.dev.adc.diagFrom + 100000) ∧
(∃ (s : State), s.dev.up islRaw = false) :=
  ⟨⟨tSt, by decide +kernel⟩,
   ⟨tWith [put Reg.ADC_REF.EN 1], by decide +kernel⟩,
   ⟨tWith [put Reg.ADC_REF.EN 1, fun s => { s with dev.adc.refFrom := some 5 }], 5, by decide +kernel⟩,
   ⟨tWith [put Reg.ADC_REF.EN 1, fun s => { s with dev.adc.refFrom := some 99999800000 }], 99999800000, by decide +kernel⟩,
   ⟨tSt, by decide +kernel⟩,
   ⟨tSt, 0, by decide +kernel⟩,
   ⟨tWith [putN Reg.ADC_CVn_CTRL.EN 0 1], 0, by decide +kernel⟩,
   ⟨tWith [putN Reg.ADC_CVn_CTRL.EN 0 1, putN Reg.ADC_CVn_SLOT.NS 0 1000, putN Reg.T_ITIN.REPEAT 0 5, putN Reg.T_ITIN.OP 0 2,
     put Reg.ADC_STATUS.REF_OK 1], 0, [0], 0, by decide +kernel⟩,
   ⟨tWith [putN Reg.ADC_CVn_CTRL.EN 0 1, dev fun d => d.setN Reg.T_ITIN.REPEAT (d.getN Reg.ADC_CVn_LIST.START 0) 0, dev fun d
     => d.setN Reg.T_ITIN.OP (d.getN Reg.ADC_CVn_LIST.START 0) 2], 0, [0], 0, by decide +kernel⟩,
   ⟨tSt, 0, by decide +kernel⟩,
   ⟨2, by decide +kernel⟩,
   ⟨tWith [put Reg.ADC_STATUS.ARMED0 1, dev fun d => d.modCv 0 fun k => { k with target := 10^11 + 2 }], 0,
     Sys2Proof.Machine.Verdict.wait, by decide +kernel⟩,
   ⟨tWith [put Reg.ADC_STATUS.ARMED0 1], 0, Sys2Proof.Machine.Verdict.expired, by decide +kernel⟩,
   ⟨tWith [put Reg.ADC_STATUS.ARMED0 1, dev fun d => d.modCv 0 fun k => { k with target := 10^11 - 2000, tol := 3 }], 0,
     Sys2Proof.Machine.Verdict.late, by decide +kernel⟩,
   ⟨tWith [put Reg.ADC_STATUS.ARMED0 1], 0, by decide +kernel⟩,
   ⟨tWith [put Reg.ADC_STATUS.RUN0 1], 0, by decide +kernel⟩,
   ⟨tSt, 0, by decide +kernel⟩,
   ⟨tSt, 0, by decide +kernel⟩,
   ⟨tWith [put Reg.ADC_STATUS.RUN0 1, dev fun d => d.modCv 0 fun x_ => { x_ with stopping := true }], 0, by decide +kernel⟩,
   ⟨tWith [put Reg.ADC_STATUS.RUN0 1], 0, by decide +kernel⟩,
   ⟨(tWith [dev fun d => d.setN Reg.T_ITIN.REPEAT (cvPos d 0) ((d.cv 0).reps + 1)]).dev, 0, by decide +kernel⟩,
   ⟨0, by decide +kernel⟩,
   ⟨tSt, 0, by decide +kernel⟩,
   ⟨tWith [dev fun d => d.modCv 0 fun k => { k with due := [{ diag := none, sample := some (3, some 77, 5, 4*10^11-9) }] }], 0,
     { diag := none, sample := some (3, some 77, 0x00000005#32, 399999999991) }, [], by decide +kernel⟩,
   ⟨tSt, by decide +kernel⟩,
   ⟨tWith [dev fun d => { d with adc := { d.adc with diagFrom := 10^11-5, diag := [[1,2]] } }], by decide +kernel⟩,
   ⟨tWith [dev fun d => { d with isl := tset d.isl islRaw ⟨.reset, false, false⟩ }], by decide +kernel⟩⟩

/-- The hypotheses of RawLanes, clause by clause, at states and operands that meet them. -/
theorem witness_RawLanes :
(∃ (s : State) (n : Nat), 512 ≤ n ∨ s.dev.up islRaw = false ∨ (s.dev.lane n).inq = []) ∧
(∃ (s : State) (n : Nat) (x : LaneSmp) (rest : List LaneSmp), n < 512 ∧ s.dev.up islRaw = true ∧ (s.dev.lane n).inq = x ::
      rest) ∧
(∃ (d : Dev) (n : Nat), d.getN Reg.T_LANESTAT.STATE n = 3) ∧
(∃ (d : Dev) (n : Nat) (p : Nat) (q : Nat) (x : LaneSmp), d.getN Reg.T_LANESTAT.STATE n ≠ 3 ∧ (d.lane n).p0 = some p ∧
      (d.lane n).q = some q ∧ lanePos (laneFs d n) x.inst = q) ∧
(∃ (d : Dev) (n : Nat) (p : Nat) (q : Nat) (x : LaneSmp), d.getN Reg.T_LANESTAT.STATE n ≠ 3 ∧ (d.lane n).p0 = some p ∧
      (d.lane n).q = some q ∧ lanePos (laneFs d n) x.inst = q + 1) ∧
(∃ (d : Dev) (n : Nat) (x : LaneSmp), d.getN Reg.T_LANESTAT.STATE n ≠ 3 ∧ (d.lane n).p0 = none ∧ lanePos (laneFs d n) x.inst
      % max 1 (restartStep d n) ≠ 0) ∧
(∃ (s : State) (n : Nat), n < 512 ∧ s.dev.up islRaw = true ∧ laneOn s.dev n = true ∧ laneFs s.dev n ≠ 0 ∧ s.dev.on
      Reg.FLT_CTRL.EN = true ∧ (s.dev.lane n).lastLoc + s.dev.get Reg.FLT_CTRL.IN_TMO * 1000 ≤ s.time.loc) ∧
(∃ (s : State) (n : Nat), n < 512 ∧ s.dev.up islRaw = true ∧ laneOn s.dev n = true ∧ laneFs s.dev n ≠ 0 ∧ s.dev.on
      Reg.FLT_CTRL.EN = true ∧ s.time.loc < (s.dev.lane n).lastLoc + s.dev.get Reg.FLT_CTRL.IN_TMO * 1000) ∧
(∃ (s : State) (n : Nat), 512 ≤ n ∨ s.dev.up islRaw = false ∨ laneOn s.dev n = false ∨ laneFs s.dev n = 0 ∨ s.dev.on
      Reg.FLT_CTRL.EN = false) ∧
(∃ (s : State) (n : Nat) (v : Word32), n < 512 ∧ s.dev.up islRaw = true ∧ laneOn s.dev n = false ∧ bitOf v 0 = true) ∧
(∃ (s : State) (n : Nat) (v : Word32), n < 512 ∧ s.dev.up islRaw = true ∧ laneOn s.dev n = false ∧ bitOf v 0 = false) ∧
(∃ (s : State) (n : Nat) (v : Word32), n < 512 ∧ s.dev.up islRaw = true ∧ laneOn s.dev n = true ∧ bitOf v 0 = true) ∧
(∃ (n : Nat), 512 ≤ n) ∧
(∃ (s : State) (n : Nat) (v : Word32), n < 512 ∧ s.dev.up islRaw = true ∧ laneOn s.dev n = true ∧ bitOf v 0 = false) ∧
(∃ (s : State) (n : Nat), n < 512 ∧ s.dev.up islRaw = true ∧ laneOn s.dev n = true) ∧
(∃ (s : State) (n : Nat), n < 512 ∧ s.dev.up islRaw = true ∧ laneOn s.dev n = false) ∧
(∃ (n : Nat), n < 512) ∧
(∃ (s : State) (v : Word32), s.dev.up islRaw = true ∧ bitOf v 31 = false) ∧
(∃ (s : State) (v : Word32), s.dev.up islRaw = true ∧ bitOf v 31 = true ∧ (s.dev.putWord 720928 (v &&& 2147483647#32)).get
      Reg.FLT_SWAP_CMD.NLANE = 0) ∧
(∃ (s : State) (v : Word32), s.dev.up islRaw = true ∧ bitOf v 31 = true ∧ 32 < (s.dev.putWord 720928 (v &&&
      2147483647#32)).get Reg.FLT_SWAP_CMD.NLANE) ∧
(∃ (s : State) (v : Word32) (d : Dev) (r : SwapReq) (a : Bool × Dev), s.dev.up islRaw = true ∧ bitOf v 31 = true ∧ d =
      s.dev.putWord 720928 (v &&& 2147483647#32) ∧ d.get Reg.FLT_SWAP_CMD.NLANE ≠ 0 ∧ d.get Reg.FLT_SWAP_CMD.NLANE ≤ 32 ∧ r
      =
      { bank := d.get Reg.FLT_SWAP_CMD.BANK, target := d.get Reg.FLT_SWAP_T.ST, epoch := d.get Reg.FLT_SWAP_TE.EPOCH, tol := d.get Reg.FLT_SWAP_TE.LATE_TOL : SwapReq }
      ∧ a = List.foldl (fun a i ↦ if d.get Reg.FLT_SWAP_CMD.LANE + i < 512 then (a.1 && (swapTake (d.get
      Reg.FLT_SWAP_CMD.LANE + i) r a.2).1, (swapTake (d.get Reg.FLT_SWAP_CMD.LANE + i) r a.2).2) else (false, a.2)) (true,
      d) (List.range (d.get Reg.FLT_SWAP_CMD.NLANE))) ∧
(∃ (d : Dev) (n : Nat) (r : SwapReq), n < 512 ∧ (laneOn d n = false ∨ setValid d (bankSet d n r.bank) = false ∨ setTaps d
      (bankSet d n r.bank) ≠ setTaps d (laneSet d n))) ∧
(∃ (d : Dev) (n : Nat) (r : SwapReq), n < 512 ∧ laneOn d n = true ∧ setValid d (bankSet d n r.bank) = true ∧ setTaps d
      (bankSet d n r.bank) = setTaps d (laneSet d n)) ∧
(∃ (d : Dev) (n : Nat) (r : SwapReq) (m : Nat), n < 512 ∧ laneOn d n = true ∧ setValid d (bankSet d n r.bank) = true ∧
      setTaps d (bankSet d n r.bank) = setTaps d (laneSet d n) ∧ m ≠ n) ∧
(∃ (s : State) (n : Nat), 512 ≤ n ∨ s.dev.up islRaw = false ∨ (s.dev.lane n).fade = none) ∧
(∃ (s : State) (n : Nat) (b : Nat) (k : Nat) (f : Nat), n < 512 ∧ s.dev.up islRaw = true ∧ (s.dev.lane n).fade = some (b, k,
      f) ∧ k < f) ∧
(∃ (s : State) (n : Nat) (b : Nat) (k : Nat) (f : Nat), n < 512 ∧ s.dev.up islRaw = true ∧ (s.dev.lane n).fade = some (b, k,
      f) ∧ f ≤ k) ∧
(∃ (s : State) (n : Nat) (c : Nat), n < 512 ∧ s.dev.up islRaw = true ∧ nextCentre s.dev n = some c) ∧
(∃ (s : State) (n : Nat) (c : Nat), n < 512 ∧ s.dev.up islRaw = true ∧ nextCentre s.dev n = some c ∧ (s.dev.lane n).pend =
      none ∧ (s.dev.lane n).fade = none) ∧
(∃ (s : State) (n : Nat), 512 ≤ n ∨ s.dev.up islRaw = false ∨ nextCentre s.dev n = none) ∧
(∃ (d : Dev) (n : Nat) (c : Nat) (p : SwapReq) (late : Nat → Int), (d.lane n).pend = some p ∧ (d.lane n).fade = none ∧ (∀ (k
      : ℕ), late k = if d.tkp.extend = true then sdiff (2 ^ 48) (k * 1000000000 / max 1 (laneRe d n)) (p.epoch * 2 ^ 32 +
      p.target) else sdiff (2 ^ 32) (k * 1000000000 / max 1 (laneRe d n)) p.target) ∧ late c < 0) ∧
(∃ (d : Dev) (n : Nat) (c : Nat) (p : SwapReq) (late : Nat → Int), (d.lane n).pend = some p ∧ (d.lane n).fade = none ∧ (∀ (k
      : ℕ), late k = if d.tkp.extend = true then sdiff (2 ^ 48) (k * 1000000000 / max 1 (laneRe d n)) (p.epoch * 2 ^ 32 +
      p.target) else sdiff (2 ^ 32) (k * 1000000000 / max 1 (laneRe d n)) p.target) ∧ 0 ≤ late c ∧ late (c - 1) < 0 ∧ p.bank
      ≠ (d.lane n).active) ∧
(∃ (d : Dev) (n : Nat) (c : Nat) (p : SwapReq) (late : Nat → Int), (d.lane n).pend = some p ∧ (d.lane n).fade = none ∧ (∀ (k
      : ℕ), late k = if d.tkp.extend = true then sdiff (2 ^ 48) (k * 1000000000 / max 1 (laneRe d n)) (p.epoch * 2 ^ 32 +
      p.target) else sdiff (2 ^ 32) (k * 1000000000 / max 1 (laneRe d n)) p.target) ∧ 0 ≤ late c ∧ late (c - 1) < 0 ∧ p.bank
      ≠ (d.lane n).active ∧ d.getN Reg.T_LANE.FADE n = 0) ∧
(∃ (d : Dev) (n : Nat) (c : Nat) (p : SwapReq) (late : Nat → Int), (d.lane n).pend = some p ∧ (d.lane n).fade = none ∧ (∀ (k
      : ℕ), late k = if d.tkp.extend = true then sdiff (2 ^ 48) (k * 1000000000 / max 1 (laneRe d n)) (p.epoch * 2 ^ 32 +
      p.target) else sdiff (2 ^ 32) (k * 1000000000 / max 1 (laneRe d n)) p.target) ∧ 0 ≤ late c ∧ late (c - 1) < 0 ∧ p.bank
      ≠ (d.lane n).active ∧ d.getN Reg.T_LANE.FADE n ≠ 0) ∧
(∃ (d : Dev) (n : Nat) (c : Nat) (p : SwapReq) (late : Nat → Int), (d.lane n).pend = some p ∧ (d.lane n).fade = none ∧ (∀ (k
      : ℕ), late k = if d.tkp.extend = true then sdiff (2 ^ 48) (k * 1000000000 / max 1 (laneRe d n)) (p.epoch * 2 ^ 32 +
      p.target) else sdiff (2 ^ 32) (k * 1000000000 / max 1 (laneRe d n)) p.target) ∧ 0 ≤ late (c - 1) ∧ (((p.tol * 1000) :
      Nat) : Int) < late c) :=
  ⟨⟨tSt, 3, by decide +kernel⟩,
   ⟨tWith [dev fun d => d.modLane 3 fun x_ => { x_ with inq := (⟨none, ⟨100,1⟩, 55, none, false, 5⟩ : LaneSmp) :: [] }], 3,
     (⟨none, ⟨100,1⟩, 55, none, false, 5⟩ : LaneSmp), [], by decide +kernel⟩,
   ⟨(tWith [putN Reg.T_LANESTAT.STATE 3 3]).dev, 3, by decide +kernel⟩,
   ⟨(tWith [putN Reg.T_LANE.EN 3 1, putN Reg.T_LANE.FS 3 4000, putN Reg.T_LANE.RATE 3 3, putN Reg.T_FIR.NTAPS 0 3, putN
     Reg.T_FIR.VALID 0 1, putN Reg.T_LANE.SET1 3 1, put Reg.FLT_CTRL.EN 1, putN Reg.T_LANESTAT.STATE 3 ((3 + 1)), dev fun d
     => d.modLane 3 fun x_ => { x_ with p0 := some 10 }, dev fun d => d.modLane 3 fun x_ =>
     { x_ with q := some 400000 }]).dev, 3, 10, 400000, (⟨none, ⟨100,1⟩, 55, none, false, 5⟩ : LaneSmp), by decide +kernel⟩,
   ⟨(tWith [putN Reg.T_LANE.EN 3 1, putN Reg.T_LANE.FS 3 4000, putN Reg.T_LANE.RATE 3 3, putN Reg.T_FIR.NTAPS 0 3, putN
     Reg.T_FIR.VALID 0 1, putN Reg.T_LANE.SET1 3 1, put Reg.FLT_CTRL.EN 1, putN Reg.T_LANESTAT.STATE 3 ((3 + 1)), dev fun d
     => d.modLane 3 fun x_ => { x_ with p0 := some 10 }, dev fun d => d.modLane 3 fun x_ =>
     { x_ with q := some 399999 }]).dev, 3, 10, 399999, (⟨none, ⟨100,1⟩, 55, none, false, 5⟩ : LaneSmp), by decide +kernel⟩,
   ⟨(tWith [putN Reg.T_LANE.EN 3 1, putN Reg.T_LANE.FS 3 4000, putN Reg.T_LANE.RATE 3 3, putN Reg.T_FIR.NTAPS 0 3, putN
     Reg.T_FIR.VALID 0 1, putN Reg.T_LANE.SET1 3 1, put Reg.FLT_CTRL.EN 1]).dev, 3, (⟨none, ⟨100001,1000⟩, 55, none, false,
     5⟩ : LaneSmp), by decide +kernel⟩,
   ⟨tWith [putN Reg.T_LANE.EN 3 1, putN Reg.T_LANE.FS 3 4000, putN Reg.T_LANE.RATE 3 3, putN Reg.T_FIR.NTAPS 0 3, putN
     Reg.T_FIR.VALID 0 1, putN Reg.T_LANE.SET1 3 1, put Reg.FLT_CTRL.EN 1], 3, by decide +kernel⟩,
   ⟨tWith [putN Reg.T_LANE.EN 3 1, putN Reg.T_LANE.FS 3 4000, putN Reg.T_LANE.RATE 3 3, putN Reg.T_FIR.NTAPS 0 3, putN
     Reg.T_FIR.VALID 0 1, putN Reg.T_LANE.SET1 3 1, put Reg.FLT_CTRL.EN 1, dev fun d => d.modLane 3 fun k =>
     { k with lastLoc := 10^11 }], 3, by decide +kernel⟩,
   ⟨tSt, 3, by decide +kernel⟩,
   ⟨tSt, 3, 1, by decide +kernel⟩,
   ⟨tSt, 3, 0, by decide +kernel⟩,
   ⟨tWith [putN Reg.T_LANE.EN 3 1, putN Reg.T_LANE.FS 3 4000, putN Reg.T_LANE.RATE 3 3, putN Reg.T_FIR.NTAPS 0 3, putN
     Reg.T_FIR.VALID 0 1, putN Reg.T_LANE.SET1 3 1, put Reg.FLT_CTRL.EN 1], 3, 1, by decide +kernel⟩,
   ⟨512, by decide +kernel⟩,
   ⟨tWith [putN Reg.T_LANE.EN 3 1, putN Reg.T_LANE.FS 3 4000, putN Reg.T_LANE.RATE 3 3, putN Reg.T_FIR.NTAPS 0 3, putN
     Reg.T_FIR.VALID 0 1, putN Reg.T_LANE.SET1 3 1, put Reg.FLT_CTRL.EN 1], 3, 0, by decide +kernel⟩,
   ⟨tWith [putN Reg.T_LANE.EN 3 1, putN Reg.T_LANE.FS 3 4000, putN Reg.T_LANE.RATE 3 3, putN Reg.T_FIR.NTAPS 0 3, putN
     Reg.T_FIR.VALID 0 1, putN Reg.T_LANE.SET1 3 1, put Reg.FLT_CTRL.EN 1], 3, by decide +kernel⟩,
   ⟨tSt, 3, by decide +kernel⟩,
   ⟨3, by decide +kernel⟩,
   ⟨tSt, 0, by decide +kernel⟩,
   ⟨tSt, 2147483648, by decide +kernel⟩,
   ⟨tSt, 2149646336, by decide +kernel⟩,
   ⟨tSt, 2147622912, (tSt).dev.putWord 720928 (2147622912 &&& 2147483647#32), { bank := 0, target := 0, epoch := 0, tol := 0 },
     List.foldl (fun a i ↦ if ((tSt).dev.putWord 720928 (2147622912 &&& 2147483647#32)).get Reg.FLT_SWAP_CMD.LANE + i < 512
     then (a.1 && (swapTake (((tSt).dev.putWord 720928 (2147622912 &&& 2147483647#32)).get Reg.FLT_SWAP_CMD.LANE + i)
     { bank := 0, target := 0, epoch := 0, tol := 0 } a.2).1, (swapTake (((tSt).dev.putWord 720928 (2147622912 &&&
     2147483647#32)).get Reg.FLT_SWAP_CMD.LANE + i) { bank := 0, target := 0, epoch := 0, tol := 0 } a.2).2) else (false,
     a.2)) (true, ((tSt).dev.putWord 720928 (2147622912 &&& 2147483647#32))) (List.range (((tSt).dev.putWord 720928
     (2147622912 &&& 2147483647#32)).get Reg.FLT_SWAP_CMD.NLANE)), by decide +kernel, by decide +kernel, rfl,
     by decide +kernel, by decide +kernel, by decide +kernel, rfl⟩,
   ⟨tSt.dev, 3, (⟨0,0,0,0⟩ : SwapReq), by decide +kernel⟩,
   ⟨(tWith [putN Reg.T_LANE.EN 3 1, putN Reg.T_LANE.FS 3 4000, putN Reg.T_LANE.RATE 3 3, putN Reg.T_FIR.NTAPS 0 3, putN
     Reg.T_FIR.VALID 0 1, putN Reg.T_LANE.SET1 3 1, put Reg.FLT_CTRL.EN 1]).dev, 3, (⟨0,0,0,0⟩ : SwapReq),
     by decide +kernel⟩,
   ⟨(tWith [putN Reg.T_LANE.EN 3 1, putN Reg.T_LANE.FS 3 4000, putN Reg.T_LANE.RATE 3 3, putN Reg.T_FIR.NTAPS 0 3, putN
     Reg.T_FIR.VALID 0 1, putN Reg.T_LANE.SET1 3 1, put Reg.FLT_CTRL.EN 1]).dev, 3, (⟨0,0,0,0⟩ : SwapReq), 4,
     by decide +kernel⟩,
   ⟨tSt, 3, by decide +kernel⟩,
   ⟨tWith [dev fun d => d.modLane 3 fun x_ => { x_ with fade := some (1, 2, 5) }], 3, 1, 2, 5, by decide +kernel⟩,
   ⟨tWith [dev fun d => d.modLane 3 fun x_ => { x_ with fade := some (1, 5, 5) }], 3, 1, 5, 5, by decide +kernel⟩,
   ⟨tWith [dev fun d => d.modLane 3 fun k => { k with xs := [⟨400,0,0,0,0,0,0⟩] }], 3, 401, by decide +kernel⟩,
   ⟨tWith [dev fun d => d.modLane 3 fun k => { k with xs := [⟨400,0,0,0,0,0,0⟩] }], 3, 401, by decide +kernel⟩,
   ⟨tSt, 3, by decide +kernel⟩,
   ⟨(tWith [dev fun d => d.modLane 3 fun x_ => { x_ with pend := some (⟨1, 400000, 0, 2⟩ : SwapReq) }, dev fun d => d.modLane 3
     fun x_ => { x_ with fade := none }]).dev, 3, 0, (⟨1, 400000, 0, 2⟩ : SwapReq), _, by decide +kernel, by decide +kernel,
     fun _ => rfl, by decide +kernel⟩,
   ⟨(tWith [dev fun d => d.modLane 3 fun x_ => { x_ with pend := some (⟨1, 400000, 0, 2⟩ : SwapReq) }, dev fun d => d.modLane 3
     fun x_ => { x_ with fade := none }]).dev, 3, 1, (⟨1, 400000, 0, 2⟩ : SwapReq), _, by decide +kernel, by decide +kernel,
     fun _ => rfl, by decide +kernel⟩,
   ⟨(tWith [dev fun d => d.modLane 3 fun x_ => { x_ with pend := some (⟨1, 400000, 0, 2⟩ : SwapReq) }, dev fun d => d.modLane 3
     fun x_ => { x_ with fade := none }, putN Reg.T_LANE.FADE 3 0]).dev, 3, 1, (⟨1, 400000, 0, 2⟩ : SwapReq), _,
     by decide +kernel, by decide +kernel, fun _ => rfl, by decide +kernel⟩,
   ⟨(tWith [dev fun d => d.modLane 3 fun x_ => { x_ with pend := some (⟨1, 400000, 0, 2⟩ : SwapReq) }, dev fun d => d.modLane 3
     fun x_ => { x_ with fade := none }, putN Reg.T_LANE.FADE 3 ((0 + 1))]).dev, 3, 1, (⟨1, 400000, 0, 2⟩ : SwapReq), _,
     by decide +kernel, by decide +kernel, fun _ => rfl, by decide +kernel⟩,
   ⟨(tWith [dev fun d => d.modLane 3 fun x_ => { x_ with pend := some (⟨1, 2^32-5000, 0, 2⟩ : SwapReq) }, dev fun d =>
     d.modLane 3 fun x_ => { x_ with fade := none }]).dev, 3, 0, (⟨1, 2^32-5000, 0, 2⟩ : SwapReq), _, by decide +kernel,
     by decide +kernel, fun _ => rfl, by decide +kernel⟩⟩

/-- The hypotheses of LaneGroups, clause by clause, at states and operands that meet them. -/
theorem witness_LaneGroups :
(∃ (s : State) (c : Nat), c < 64 ∧ s.dev.up islRaw = true ∧ setBusy s.dev c = true) ∧
(∃ (s : State) (c : Nat) (v : Word32), c < 64 ∧ s.dev.up islRaw = true ∧ setBusy s.dev c = false ∧ bitOf v 0 = false) ∧
(∃ (s : State) (c : Nat) (v : Word32), c < 64 ∧ s.dev.up islRaw = true ∧ setBusy s.dev c = false ∧ bitOf v 0 = true ∧ setOk
      (s.dev.putUnvalid (Reg.T_FIR.VALID.reg.addr c) v) c = true) ∧
(∃ (s : State) (c : Nat) (v : Word32), c < 64 ∧ s.dev.up islRaw = true ∧ setBusy s.dev c = false ∧ bitOf v 0 = true ∧ setOk
      (s.dev.putUnvalid (Reg.T_FIR.VALID.reg.addr c) v) c = false) ∧
(∃ (s : State) (g : Nat) (v : Word32), g < 128 ∧ s.dev.up islRaw = true ∧ s.dev.onN Reg.T_GROUP.VALID g = false ∧ bitOf v 0
      = true ∧ groupOk (s.dev.putUnvalid (Reg.T_GROUP.VALID.reg.addr g) v) g = true) ∧
(∃ (s : State) (g : Nat) (v : Word32), g < 128 ∧ s.dev.up islRaw = true ∧ s.dev.onN Reg.T_GROUP.VALID g = false ∧ bitOf v 0
      = true ∧ groupOk (s.dev.putUnvalid (Reg.T_GROUP.VALID.reg.addr g) v) g = false) ∧
(∃ (s : State) (g : Nat) (v : Word32), g < 128 ∧ s.dev.up islRaw = true ∧ s.dev.onN Reg.T_GROUP.VALID g = false ∧ bitOf v 0
      = false) ∧
(∃ (s : State) (g : Nat), g < 128 ∧ s.dev.up islRaw = true ∧ s.dev.onN Reg.T_GROUP.VALID g = true) ∧
(∃ (n : Nat), 64 ≤ n) ∧
(∃ (n : Nat), 128 ≤ n) ∧
(∃ (s : State) (g : Nat), groupDue s.dev g = none) ∧
(∃ (s : State) (g : Nat) (m : Nat), groupDue s.dev g = some m ∧ (∀ (k : ℕ), (tget s.dev.flt.groups g).done = some k → k < m)
      ∧ ∀ (n : ℕ), n ∈ groupLanes s.dev g → laneOn s.dev n = true → (outFor s.dev n m).isSome = true) ∧
(∃ (s : State) (g : Nat) (m : Nat), groupDue s.dev g = some m ∧ (∀ (k : ℕ), (tget s.dev.flt.groups g).done = some k → k < m)
      ∧ ∃ n, n ∈ groupLanes s.dev g ∧ laneOn s.dev n = true ∧ (outFor s.dev n m).isSome = false) ∧
(∃ (s : State) (g : Nat) (m : Nat), groupDue s.dev g = some m ∧ (∀ (k : ℕ), (tget s.dev.flt.groups g).done = some k → k < m)
      ∧ instNs m (max 1 (srcRate s.dev (s.dev.getN Reg.T_GROUP.SLOT g))) + groupXns s.dev g + s.dev.get Reg.FLT_CTRL.IN_TMO
      * 1000 ≤ s.time.ns) ∧
(∃ (s : State) (g : Nat) (m : Nat), groupDue s.dev g = some m ∧ (∀ (k : ℕ), (tget s.dev.flt.groups g).done = some k → k < m)
      ∧ s.time.ns < instNs m (max 1 (srcRate s.dev (s.dev.getN Reg.T_GROUP.SLOT g))) + groupXns s.dev g + s.dev.get
      Reg.FLT_CTRL.IN_TMO * 1000) ∧
(∃ (s : State) (g : Nat) (m : Nat) (k : Nat), groupDue s.dev g = some m ∧ (tget s.dev.flt.groups g).done = some k ∧ m ≤ k) ∧
(∃ (d : Dev), alignTakes d = true) :=
  ⟨⟨tWith [putN Reg.T_LANE.EN 3 1, putN Reg.T_LANE.FS 3 4000, putN Reg.T_LANE.RATE 3 3, putN Reg.T_FIR.NTAPS 0 3, putN
     Reg.T_FIR.VALID 0 1, putN Reg.T_LANE.SET1 3 1, put Reg.FLT_CTRL.EN 1, putN Reg.T_FIR.NTAPS 0 1], 0, by decide +kernel⟩,
   ⟨tSt, 0, 0, by decide +kernel⟩,
   ⟨tWith [putN Reg.T_TAP.C 0 5], 0, 3, by decide +kernel⟩,
   ⟨tSt, 0, 1, by decide +kernel⟩,
   ⟨tSt, 2, 1, by decide +kernel⟩,
   ⟨tSt, 2, 35130387, by decide +kernel⟩,
   ⟨tSt, 2, 0, by decide +kernel⟩,
   ⟨tWith [putN Reg.T_GROUP.VALID 2 1], 2, by decide +kernel⟩,
   ⟨64, by decide +kernel⟩,
   ⟨128, by decide +kernel⟩,
   ⟨tSt, 2, by decide +kernel⟩,
   ⟨tWith [putN Reg.T_GROUP.COUNT 2 3, putN Reg.T_GROUP.FIRST 2 3, putN Reg.T_GROUP.FLANE 2 3, putN Reg.T_GROUP.FLANE_B 2 4,
     putN Reg.T_GROUP.FLANE_C 2 5, putN Reg.T_SRC.VALID 9 1, putN Reg.T_SRC.TYPE 9 4, putN Reg.T_SRC.WORDS 9 8, putN
     Reg.T_SRC.RATE 9 3, putN Reg.T_GROUP.SLOT 2 9, putN Reg.T_GROUP.FW 2 1, putN Reg.T_GROUP.VALID 2 1, put
     Reg.GLB_SPLIT.PHASOR 1, dev fun d => d.modLane 3 fun k => { k with outs := [⟨500, [1,2,3,4], 7, [], none⟩] }, putN
     Reg.T_LANE.EN 3 1], 2, 500, by decide +kernel⟩,
   ⟨tWith [putN Reg.T_GROUP.COUNT 2 3, putN Reg.T_GROUP.FIRST 2 3, putN Reg.T_GROUP.FLANE 2 3, putN Reg.T_GROUP.FLANE_B 2 4,
     putN Reg.T_GROUP.FLANE_C 2 5, putN Reg.T_SRC.VALID 9 1, putN Reg.T_SRC.TYPE 9 4, putN Reg.T_SRC.WORDS 9 8, putN
     Reg.T_SRC.RATE 9 3, putN Reg.T_GROUP.SLOT 2 9, putN Reg.T_GROUP.FW 2 1, putN Reg.T_GROUP.VALID 2 1, put
     Reg.GLB_SPLIT.PHASOR 1, dev fun d => d.modLane 3 fun k => { k with outs := [⟨500, [1,2,3,4], 7, [], none⟩] }, putN
     Reg.T_LANE.EN 3 1, putN Reg.T_LANE.EN 4 1], 2, 500, by decide +kernel⟩,
   ⟨tWith [putN Reg.T_GROUP.COUNT 2 3, putN Reg.T_GROUP.FIRST 2 3, putN Reg.T_GROUP.FLANE 2 3, putN Reg.T_GROUP.FLANE_B 2 4,
     putN Reg.T_GROUP.FLANE_C 2 5, putN Reg.T_SRC.VALID 9 1, putN Reg.T_SRC.TYPE 9 4, putN Reg.T_SRC.WORDS 9 8, putN
     Reg.T_SRC.RATE 9 3, putN Reg.T_GROUP.SLOT 2 9, putN Reg.T_GROUP.FW 2 1, putN Reg.T_GROUP.VALID 2 1, put
     Reg.GLB_SPLIT.PHASOR 1, dev fun d => d.modLane 3 fun k => { k with outs := [⟨500, [1,2,3,4], 7, [], none⟩] }, putN
     Reg.T_LANE.EN 3 1], 2, 500, by decide +kernel⟩,
   ⟨tWith [putN Reg.T_GROUP.COUNT 2 3, putN Reg.T_GROUP.FIRST 2 3, putN Reg.T_GROUP.FLANE 2 3, putN Reg.T_GROUP.FLANE_B 2 4,
     putN Reg.T_GROUP.FLANE_C 2 5, putN Reg.T_SRC.VALID 9 1, putN Reg.T_SRC.TYPE 9 4, putN Reg.T_SRC.WORDS 9 8, putN
     Reg.T_SRC.RATE 9 3, putN Reg.T_GROUP.SLOT 2 9, putN Reg.T_GROUP.FW 2 1, putN Reg.T_GROUP.VALID 2 1, put
     Reg.GLB_SPLIT.PHASOR 1, dev fun d => d.modLane 3 fun k => { k with outs := [⟨500, [1,2,3,4], 7, [], none⟩] }, putN
     Reg.T_LANE.EN 3 1, dev fun d => d.modLane 3 fun k => { k with outs := [⟨5000-1, [1,2,3,4], 7, [], none⟩] }], 2, 4999,
     by decide +kernel⟩,
   ⟨tWith [putN Reg.T_GROUP.COUNT 2 3, putN Reg.T_GROUP.FIRST 2 3, putN Reg.T_GROUP.FLANE 2 3, putN Reg.T_GROUP.FLANE_B 2 4,
     putN Reg.T_GROUP.FLANE_C 2 5, putN Reg.T_SRC.VALID 9 1, putN Reg.T_SRC.TYPE 9 4, putN Reg.T_SRC.WORDS 9 8, putN
     Reg.T_SRC.RATE 9 3, putN Reg.T_GROUP.SLOT 2 9, putN Reg.T_GROUP.FW 2 1, putN Reg.T_GROUP.VALID 2 1, put
     Reg.GLB_SPLIT.PHASOR 1, dev fun d => d.modLane 3 fun k => { k with outs := [⟨500, [1,2,3,4], 7, [], none⟩] }, putN
     Reg.T_LANE.EN 3 1, fun s =>
     { s with dev.flt.groups := tset s.dev.flt.groups 2 { tget s.dev.flt.groups 2 with done := some 9000 } }], 2, 500, 9000,
     by decide +kernel⟩,
   ⟨(tWith [put Reg.GLB_SPLIT.ALIGN 1, putN Reg.HMP_PARTn.SIZE 0 4]).dev, by decide +kernel⟩⟩

/-- The hypotheses of RuleEvaluation, clause by clause, at states and operands that meet them. -/
theorem witness_RuleEvaluation :
(∃ (d : Dev) (e1 : Bool) (due : List Nat) (r : Nat), opsDue due [eget d e1 Reg.T_RULE.OPA r, eget d e1 Reg.T_RULE.OPB r] =
      false) ∧
(∃ (d : Dev) (e1 : Bool) (k : Nat) (due : List Nat) (e : EngV) (r : Nat) (c : Word32), opsDue due [eget d e1 Reg.T_RULE.OPA
      r, eget d e1 Reg.T_RULE.OPB r] = true ∧ ruleX d e1 e k r = RVal.bad c ∧ gateClosed d e1 e r = false ∧ eget d e1
      Reg.T_RULE.NANPOL r = 0) ∧
(∃ (d : Dev) (e1 : Bool) (e : EngV) (r : Nat), gateClosed d e1 e r = true) ∧
(∃ (s : State), s.dev.rul.evalQ = [] ∨ s.dev.up islAna = false) ∧
(∃ (s : State) (it : EvalItem) (rest : List EvalItem), s.dev.up islAna = true ∧ s.dev.rul.evalQ = it :: rest) ∧
(∃ (was : Bool) (r : Nat) (d : Dev), acted d r = was) ∧
(∃ (was : Bool) (r : Nat) (d : Dev), acted d r ≠ was) ∧
(∃ (d : Dev), d.rul.diff ≠ [] ∧ d.rul.integ = false) ∧
(∃ (d : Dev), d.rul.diff = [] ∧ d.rul.integ = true ∧ d.rul.integAck = true) ∧
(∃ (d : Dev), d.rul.diff = [] ∧ (d.rul.integ = false ∨ d.rul.integAck = false)) ∧
(∃ (s : State), s.dev.up islAna = true ∧ s.dev.rul.integ = false) ∧
(∃ (s : State), s.dev.up islAna = true ∧ s.dev.rul.integ = true) ∧
(∃ (s : State) (r : Nat), s.dev.up islAna = true ∧ r < 4096 ∧ (s.dev.onN Reg.T_RULE.VALID r = false ∨ s.dev.onN
      Reg.T_RULE.LATCH r = false ∨ s.dev.onN Reg.T_RSTATE.ACTIVE r = false)) ∧
(∃ (s : State) (r : Nat), s.dev.up islAna = true ∧ r < 4096 ∧ s.dev.onN Reg.T_RULE.VALID r = true ∧ s.dev.onN
      Reg.T_RULE.LATCH r = true ∧ s.dev.onN Reg.T_RSTATE.ACTIVE r = true) :=
  ⟨⟨(tWith [putN Reg.T_RULE.OPA 0 49]).dev, false, [], 0, by decide +kernel⟩,
   ⟨(tWith [putN Reg.T_RULE.OPA 0 49]).dev, false, 4955, [3], default, 0, 2143289345, by decide +kernel⟩,
   ⟨(tWith [putN Reg.T_RULE.GATE_EN 0 1, putN Reg.T_RULE.GATE_INV 0 0]).dev, false, default, 0, by decide +kernel⟩,
   ⟨tSt, by decide +kernel⟩,
   ⟨tWith [fun s => { s with dev.rul.evalQ := (⟨4955,99*10^9,7,[3],[]⟩ : EvalItem) :: [] }], (⟨4955,99*10^9,7,[3],[]⟩ :
     EvalItem), [], by decide +kernel⟩,
   ⟨false, 0, tSt.dev, by decide +kernel⟩,
   ⟨true, 0, tSt.dev, by decide +kernel⟩,
   ⟨(tWith [fun s => { s with dev.rul.diff := [default] }, fun s => { s with dev.rul.integ := false }]).dev, by decide +kernel⟩,
   ⟨(tWith [fun s => { s with dev.rul.diff := [] }, fun s => { s with dev.rul.integ := true }, fun s =>
     { s with dev.rul.integAck := true }]).dev, by decide +kernel⟩,
   ⟨tSt.dev, by decide +kernel⟩,
   ⟨tSt, by decide +kernel⟩,
   ⟨tWith [fun s => { s with dev.rul.integ := true }], by decide +kernel⟩,
   ⟨tSt, 0, by decide +kernel⟩,
   ⟨tWith [putN Reg.T_RULE.VALID 0 1, putN Reg.T_RULE.LATCH 0 1, putN Reg.T_RSTATE.ACTIVE 0 1], 0, by decide +kernel⟩⟩

/-- The hypotheses of RuleEntries, clause by clause, at states and operands that meet them. -/
theorem witness_RuleEntries :
(∃ (s : State) (a : Nat) (v : Word32), a < 64 ∧ s.dev.up islAna = true ∧ s.dev.onN Reg.T_AREA.VALID a = true ∧ bitOf v 0 =
      true) ∧
(∃ (s : State) (a : Nat) (v : Word32), a < 64 ∧ s.dev.up islAna = true ∧ s.dev.onN Reg.T_AREA.VALID a = false ∧ bitOf v 0 =
      true ∧ areaOk a (putValid (Reg.T_AREA.VALID.reg.addr a) v true s.dev) = true) ∧
(∃ (s : State) (a : Nat) (v : Word32), a < 64 ∧ s.dev.up islAna = true ∧ s.dev.onN Reg.T_AREA.VALID a = false ∧ bitOf v 0 =
      true ∧ areaOk a (putValid (Reg.T_AREA.VALID.reg.addr a) v true s.dev) = false) ∧
(∃ (s : State) (a : Nat) (v : Word32), a < 64 ∧ s.dev.up islAna = true ∧ bitOf v 0 = false) ∧
(∃ (s : State) (r : Nat) (v : Word32), r < 4096 ∧ s.dev.up islAna = true ∧ s.dev.onN Reg.T_RULE.VALID r = false ∧ bitOf v 0
      = true ∧ ruleOk r (putValid (Reg.T_RULE.VALID.reg.addr r) v true s.dev) = true) ∧
(∃ (s : State) (r : Nat) (v : Word32), r < 4096 ∧ s.dev.up islAna = true ∧ s.dev.onN Reg.T_RULE.VALID r = false ∧ bitOf v 0
      = true ∧ ruleOk r (putValid (Reg.T_RULE.VALID.reg.addr r) v true s.dev) = false) ∧
(∃ (s : State) (r : Nat) (v : Word32), r < 4096 ∧ s.dev.up islAna = true ∧ s.dev.onN Reg.T_RULE.VALID r = true ∧ bitOf v 0 =
      true ∧ ruleOk r (putValid (Reg.T_RULE.VALID.reg.addr r) v true s.dev) = true) ∧
(∃ (s : State) (r : Nat) (v : Word32), r < 4096 ∧ s.dev.up islAna = true ∧ s.dev.onN Reg.T_RULE.VALID r = true ∧ bitOf v 0 =
      true ∧ ruleOk r (putValid (Reg.T_RULE.VALID.reg.addr r) v true s.dev) = false) ∧
(∃ (s : State) (r : Nat) (v : Word32), r < 4096 ∧ s.dev.up islAna = true ∧ s.dev.onN Reg.T_RULE.VALID r = true ∧ bitOf v 0 =
      false) ∧
(∃ (s : State) (q : Nat) (v : Word32), q < 1024 ∧ s.dev.up islAna = true ∧ s.dev.onN Reg.T_QDET.VALID q = true ∧ bitOf v 0 =
      true ∧ detOk q (putValid (Reg.T_QDET.VALID.reg.addr q) v true s.dev) = true) ∧
(∃ (s : State) (q : Nat) (v : Word32), q < 1024 ∧ s.dev.up islAna = true ∧ s.dev.onN Reg.T_QDET.VALID q = true ∧ bitOf v 0 =
      true ∧ detOk q (putValid (Reg.T_QDET.VALID.reg.addr q) v true s.dev) = false) ∧
(∃ (s : State) (q : Nat) (v : Word32), q < 1024 ∧ s.dev.up islAna = true ∧ s.dev.onN Reg.T_QDET.VALID q = true ∧ bitOf v 0 =
      false) ∧
(∃ (s : State) (i : Nat) (v : Word32), s.dev.up islAna = true ∧ bitOf v 0 = false ∧ i < 4096 ∧ s.dev.onN Reg.T_RULE.VALID i
      = false) ∧
(∃ (s : State) (i : Nat) (v : Word32), s.dev.up islAna = true ∧ bitOf v 0 = false ∧ i < 1024 ∧ s.dev.onN Reg.T_QDET.VALID i
      = false) ∧
(∃ (s : State) (i : Nat), s.dev.up islAna = true ∧ 4096 ≤ i) ∧
(∃ (s : State) (i : Nat), s.dev.up islAna = true ∧ 1024 ≤ i) ∧
(∃ (s : State) (i : Nat), s.dev.up islAna = true ∧ 64 ≤ i) ∧
(∃ (s : State) (q : Nat) (v : Word32), q < 1024 ∧ s.dev.up islAna = true ∧ s.dev.onN Reg.T_QDET.VALID q = false ∧ bitOf v 0
      = true ∧ detOk q (putValid (Reg.T_QDET.VALID.reg.addr q) v true s.dev) = true) ∧
(∃ (s : State) (q : Nat) (v : Word32), q < 1024 ∧ s.dev.up islAna = true ∧ s.dev.onN Reg.T_QDET.VALID q = false ∧ bitOf v 0
      = true ∧ detOk q (putValid (Reg.T_QDET.VALID.reg.addr q) v true s.dev) = false) ∧
(∃ (s : State), s.dev.up islAna = false) ∧
(∃ (s : State) (ups : List Upset) (d : Dev) (e : Dev), s.dev.up islAna = true ∧ d = List.foldl (fun x u ↦ tableUpset u x)
      s.dev ups ∧ e = List.foldl (fun x w ↦ repairWord w.1 w.2 x) d d.rul.copy1 ∧ (d.on Reg.RUL_CTRL.COPY_CHK = false ∨
      d.rul.copy1 = [])) ∧
(∃ (s : State) (ups : List Upset) (d : Dev) (e : Dev), s.dev.up islAna = true ∧ d = List.foldl (fun x u ↦ tableUpset u x)
      s.dev ups ∧ e = List.foldl (fun x w ↦ repairWord w.1 w.2 x) d d.rul.copy1 ∧ d.on Reg.RUL_CTRL.COPY_CHK = true ∧
      d.rul.copy1 ≠ [] ∧ rulMode e = 2) ∧
(∃ (s : State) (ups : List Upset) (d : Dev) (e : Dev), s.dev.up islAna = true ∧ d = List.foldl (fun x u ↦ tableUpset u x)
      s.dev ups ∧ e = List.foldl (fun x w ↦ repairWord w.1 w.2 x) d d.rul.copy1 ∧ d.on Reg.RUL_CTRL.COPY_CHK = true ∧
      d.rul.copy1 ≠ [] ∧ rulMode e ≠ 2) ∧
(∃ (s : State) (j : Nat), j < 128 ∧ s.dev.up islAna = true ∧ rulMode s.dev = 0) ∧
(∃ (s : State) (j : Nat), 128 ≤ j ∧ s.dev.up islAna = true) ∧
(∃ (s : State) (j : Nat), j < 128 ∧ s.dev.up islAna = true ∧ rulMode s.dev ≠ 0 ∧ rulMode s.dev ≠ 2) ∧
(∃ (s : State) (j : Nat), j < 128 ∧ s.dev.up islAna = true ∧ rulMode s.dev = 2) :=
  ⟨⟨tWith [putN Reg.T_AREA.VALID 2 1], 2, 1, by decide +kernel⟩,
   ⟨tSt, 2, 1, by decide +kernel⟩,
   ⟨tSt, 2, 2049, by decide +kernel⟩,
   ⟨tSt, 2, 0, by decide +kernel⟩,
   ⟨tSt, 2, 1, by decide +kernel⟩,
   ⟨tSt, 2, 3, by decide +kernel⟩,
   ⟨tWith [putN Reg.T_RULE.VALID 2 1], 2, 1, by decide +kernel⟩,
   ⟨tWith [putN Reg.T_RULE.VALID 2 1], 2, 3, by decide +kernel⟩,
   ⟨tWith [putN Reg.T_RULE.VALID 2 1], 2, 0, by decide +kernel⟩,
   ⟨tWith [putN Reg.T_QDET.OP 2 49, putN Reg.T_QDET.THR 2 0x3F800000, putN Reg.T_QDET.HYST 2 0, putN Reg.T_QDET.VALID 2 1], 2,
     1, by decide +kernel⟩,
   ⟨tWith [putN Reg.T_QDET.VALID 2 1], 2, 1, by decide +kernel⟩,
   ⟨tWith [putN Reg.T_QDET.VALID 2 1], 2, 0, by decide +kernel⟩,
   ⟨tSt, 0, 0, by decide +kernel⟩,
   ⟨tSt, 0, 0, by decide +kernel⟩,
   ⟨tSt, 4096, by decide +kernel⟩,
   ⟨tSt, 1024, by decide +kernel⟩,
   ⟨tSt, 64, by decide +kernel⟩,
   ⟨tWith [putN Reg.T_QDET.OP 2 49, putN Reg.T_QDET.THR 2 0x3F800000, putN Reg.T_QDET.HYST 2 0], 2, 1, by decide +kernel⟩,
   ⟨tSt, 2, 1, by decide +kernel⟩,
   ⟨tWith [dev fun d => { d with isl := tset d.isl islAna ⟨.reset, false, false⟩ }], by decide +kernel⟩,
   ⟨tSt, [], List.foldl (fun x u ↦ tableUpset u x) (tSt).dev [], List.foldl (fun x w ↦ repairWord w.1 w.2 x) (List.foldl (fun x
     u ↦ tableUpset u x) (tSt).dev []) (List.foldl (fun x u ↦ tableUpset u x) (tSt).dev []).rul.copy1, by decide +kernel,
     rfl, rfl, by decide +kernel⟩,
   ⟨tWith [dev fun d => d.modRul fun k => { k with copy1 := tset k.copy1 0x300004 (7 : Word32) }, put Reg.GLB_SPLIT.RULES 2],
     [], List.foldl (fun x u ↦ tableUpset u x) (tWith [dev fun d => d.modRul fun k =>
     { k with copy1 := tset k.copy1 0x300004 (7 : Word32) }, put Reg.GLB_SPLIT.RULES 2]).dev [], List.foldl (fun x w ↦
     repairWord w.1 w.2 x) (List.foldl (fun x u ↦ tableUpset u x) (tWith [dev fun d => d.modRul fun k =>
     { k with copy1 := tset k.copy1 0x300004 (7 : Word32) }, put Reg.GLB_SPLIT.RULES 2]).dev []) (List.foldl (fun x u ↦
     tableUpset u x) (tWith [dev fun d => d.modRul fun k => { k with copy1 := tset k.copy1 0x300004 (7 : Word32) }, put
     Reg.GLB_SPLIT.RULES 2]).dev []).rul.copy1, by decide +kernel, rfl, rfl, by decide +kernel⟩,
   ⟨tWith [dev fun d => d.modRul fun k => { k with copy1 := tset k.copy1 0x300004 (7 : Word32) }], [], List.foldl (fun x u ↦
     tableUpset u x) (tWith [dev fun d => d.modRul fun k => { k with copy1 := tset k.copy1 0x300004 (7 : Word32) }]).dev [],
     List.foldl (fun x w ↦ repairWord w.1 w.2 x) (List.foldl (fun x u ↦ tableUpset u x) (tWith [dev fun d => d.modRul fun k
     => { k with copy1 := tset k.copy1 0x300004 (7 : Word32) }]).dev []) (List.foldl (fun x u ↦ tableUpset u x) (tWith [dev
     fun d => d.modRul fun k => { k with copy1 := tset k.copy1 0x300004 (7 : Word32) }]).dev []).rul.copy1,
     by decide +kernel, rfl, rfl, by decide +kernel⟩,
   ⟨tSt, 2, by decide +kernel⟩,
   ⟨tSt, 128, by decide +kernel⟩,
   ⟨tWith [put Reg.GLB_SPLIT.RULES 1], 2, by decide +kernel⟩,
   ⟨tWith [put Reg.GLB_SPLIT.RULES 2], 2, by decide +kernel⟩⟩

/-- The hypotheses of Alarms, clause by clause, at states and operands that meet them. -/
theorem witness_Alarms :
(∃ (s : State) (n : Nat), n < 4 ∧ s.dev.up islAna = true) ∧
(∃ (s : State) (n : Nat), 4 ≤ n ∨ s.dev.up islAna = false) ∧
(∃ (s : State) (n : Nat), 4 ≤ n ∧ s.dev.up islAna = true) ∧
(∃ (n : Nat) (d : Dev) (a : Nat), n < 4 ∧ d.up islAna = true ∧ a ≠ Reg.RUL_PINn.STATE.reg.addr n) ∧
(∃ (n : Nat) (d : Dev) (m : Nat), n < 4 ∧ d.up islAna = true ∧ m ≠ n) ∧
(∃ (n : Nat) (d : Dev), n < 4 ∧ d.up islAna = true ∧ d.get Reg.GLB_SPLIT.RULES = 0) ∧
(∃ (n : Nat) (d : Dev), n < 4 ∧ d.up islAna = true ∧ d.get Reg.GLB_SPLIT.RULES ≠ 0 ∧ d.onN Reg.RUL_PINn.TEST n = true) ∧
(∃ (n : Nat) (d : Dev), n < 4 ∧ d.up islAna = true ∧ d.get Reg.GLB_SPLIT.RULES ≠ 0 ∧ d.onN Reg.RUL_PINn.TEST n = false ∧
      d.getN Reg.RUL_PINn.MODE n = 0) ∧
(∃ (n : Nat) (d : Dev), n < 4 ∧ d.up islAna = true ∧ d.get Reg.GLB_SPLIT.RULES ≠ 0 ∧ d.onN Reg.RUL_PINn.TEST n = false ∧
      d.getN Reg.RUL_PINn.MODE n = 1) ∧
(∃ (n : Nat) (d : Dev), n < 4 ∧ d.up islAna = true ∧ d.get Reg.GLB_SPLIT.RULES ≠ 0 ∧ d.onN Reg.RUL_PINn.TEST n = false ∧
      d.getN Reg.RUL_PINn.MODE n = 2) ∧
(∃ (n : Nat) (d : Dev), n < 4 ∧ d.up islAna = true ∧ d.get Reg.GLB_SPLIT.RULES ≠ 0 ∧ d.onN Reg.RUL_PINn.TEST n = false ∧
      d.getN Reg.RUL_PINn.MODE n = 3) ∧
(∃ (s : State), s.dev.rul.actQ = [] ∨ s.dev.up islAna = false) ∧
(∃ (s : State) (e : Edge) (rest : List Edge), s.dev.up islAna = true ∧ s.dev.rul.actQ = e :: rest) ∧
(∃ (s : State) (m : Nat), 64 ≤ m ∧ s.dev.up islAna = true) ∧
(∃ (s : State) (m : Nat) (v : Word32), m < 64 ∧ s.dev.up islAna = true ∧ s.dev.onN Reg.T_GTMPL.EN m = true ∧ bitOf v 0 =
      true) ∧
(∃ (s : State) (m : Nat) (v : Word32), m < 64 ∧ s.dev.up islAna = true ∧ bitOf v 0 = false) ∧
(∃ (s : State) (m : Nat) (v : Word32), m < 64 ∧ s.dev.up islAna = true ∧ s.dev.onN Reg.T_GTMPL.EN m = false ∧ bitOf v 0 =
      true ∧ tmplOk m (s.dev.putWord (Reg.T_GTMPL.EN.reg.addr m) v) = false) ∧
(∃ (s : State) (m : Nat) (v : Word32), m < 64 ∧ s.dev.up islAna = true ∧ s.dev.onN Reg.T_GTMPL.EN m = false ∧ bitOf v 0 =
      true ∧ tmplOk m (s.dev.putWord (Reg.T_GTMPL.EN.reg.addr m) v) = true) ∧
(∃ (s : State) (m : Nat), s.dev.onN Reg.T_GTMPL.EN m = false ∨ 64 ≤ m ∨ s.dev.up islAna = false ∨ s.time.loc < (tget
      s.dev.rul.tmpl m).since + tmplNext s.dev m * 1000000) ∧
(∃ (s : State) (m : Nat), m < 64 ∧ s.dev.up islAna = true ∧ s.dev.onN Reg.T_GTMPL.EN m = true ∧ (tget s.dev.rul.tmpl
      m).since + tmplNext s.dev m * 1000000 ≤ s.time.loc) ∧
(∃ (ofs : Nat) (hi : Nat), 0 < ofs ∧ 2 * ofs < hi) ∧
(∃ (ofs : Nat) (hi : Nat), 0 < ofs ∧ hi ≤ 2 * ofs) :=
  ⟨⟨tSt, 1, by decide +kernel⟩,
   ⟨tWith [dev fun d => { d with isl := tset d.isl islAna ⟨.reset, false, false⟩ }], 1, by decide +kernel⟩,
   ⟨tSt, 4, by decide +kernel⟩,
   ⟨1, tSt.dev, 0, by decide +kernel⟩,
   ⟨1, tSt.dev, 2, by decide +kernel⟩,
   ⟨1, tSt.dev, by decide +kernel⟩,
   ⟨1, (tWith [put Reg.GLB_SPLIT.RULES ((0 + 1)), putN Reg.RUL_PINn.TEST 1 1]).dev, by decide +kernel⟩,
   ⟨1, (tWith [put Reg.GLB_SPLIT.RULES ((0 + 1)), putN Reg.RUL_PINn.TEST 1 0, putN Reg.RUL_PINn.MODE 1 0]).dev,
     by decide +kernel⟩,
   ⟨1, (tWith [put Reg.GLB_SPLIT.RULES ((0 + 1)), putN Reg.RUL_PINn.TEST 1 0, putN Reg.RUL_PINn.MODE 1 1]).dev,
     by decide +kernel⟩,
   ⟨1, (tWith [put Reg.GLB_SPLIT.RULES ((0 + 1)), putN Reg.RUL_PINn.TEST 1 0, putN Reg.RUL_PINn.MODE 1 2]).dev,
     by decide +kernel⟩,
   ⟨1, (tWith [put Reg.GLB_SPLIT.RULES ((0 + 1)), putN Reg.RUL_PINn.TEST 1 0, putN Reg.RUL_PINn.MODE 1 3]).dev,
     by decide +kernel⟩,
   ⟨tSt, by decide +kernel⟩,
   ⟨tWith [fun s => { s with dev.rul.actQ := (⟨some 5,0,99*10^9,7,0x3F800000,0,false,false,5,3⟩ : Edge) :: [] }], (⟨some
     5,0,99*10^9,7,0x3F800000,0,false,false,5,3⟩ : Edge), [], by decide +kernel⟩,
   ⟨tSt, 64, by decide +kernel⟩,
   ⟨tWith [putN Reg.T_GTMPL.EN 2 1], 2, 1, by decide +kernel⟩,
   ⟨tSt, 2, 0, by decide +kernel⟩,
   ⟨tSt, 2, 1, by decide +kernel⟩,
   ⟨tWith [putN Reg.T_GTMPL.T_MIN 2 4, putN Reg.T_GTMPL.T_MAX 2 1000], 2, 1, by decide +kernel⟩,
   ⟨tSt, 2, by decide +kernel⟩,
   ⟨tWith [putN Reg.T_GTMPL.EN 2 1], 2, by decide +kernel⟩,
   ⟨4, 20, by decide +kernel⟩,
   ⟨4, 5, by decide +kernel⟩⟩

/-- The hypotheses of ModalEngine, clause by clause, at states and operands that meet them. -/
theorem witness_ModalEngine :
(∃ (s : State), s.dev.up islAna = true ∧ s.dev.on Reg.MOD_CTRL.EN = true) ∧
(∃ (s : State), s.dev.up islAna = true ∧ s.dev.on Reg.MOD_CTRL.EN = false ∧ (mdlRuns s.dev = true ∨ s.dev.get
      Reg.GLB_SPLIT.MODAL ≠ 1 ∧ s.dev.get Reg.GLB_SPLIT.MODAL ≠ 2)) ∧
(∃ (s : State), s.dev.up islAna = true ∧ s.dev.on Reg.MOD_CTRL.EN = false ∧ mdlRuns s.dev = false ∧ (s.dev.get
      Reg.GLB_SPLIT.MODAL = 1 ∨ s.dev.get Reg.GLB_SPLIT.MODAL = 2) ∧ mdlCheck s.dev = stSkipped) ∧
(∃ (s : State), s.dev.up islAna = true ∧ s.dev.on Reg.MOD_CTRL.EN = false ∧ mdlRuns s.dev = false ∧ (s.dev.get
      Reg.GLB_SPLIT.MODAL = 1 ∨ s.dev.get Reg.GLB_SPLIT.MODAL = 2) ∧ mdlCheck s.dev ≠ stSkipped ∧ mdlCheck s.dev ≠ stOk) ∧
(∃ (s : State), s.dev.up islAna = true ∧ s.dev.on Reg.MOD_CTRL.EN = false ∧ mdlRuns s.dev = false ∧ (s.dev.get
      Reg.GLB_SPLIT.MODAL = 1 ∨ s.dev.get Reg.GLB_SPLIT.MODAL = 2) ∧ mdlCheck s.dev = stOk) ∧
(∃ (s : State), s.dev.up islAna = true ∧ mdlRuns s.dev = false) ∧
(∃ (s : State), s.dev.up islAna = true ∧ mdlRuns s.dev = true ∧ s.dev.mdl.proc.isSome = true) ∧
(∃ (s : State), s.dev.up islAna = true ∧ mdlRuns s.dev = true ∧ s.dev.mdl.proc = none) ∧
(∃ (s : State), mdlRuns s.dev = false ∨ s.dev.mdl.proc.isSome = true ∨ s.dev.mdl.ready = []) ∧
(∃ (s : State) (g : MSeg) (gs : List MSeg), mdlRuns s.dev = true ∧ s.dev.mdl.proc = none ∧ s.dev.mdl.ready = g :: gs) ∧
(∃ (s : State), mdlRuns s.dev = false ∨ s.time.ns < epochInstant s.dev (s.dev.mdl.epoch + 1)) ∧
(∃ (s : State), mdlRuns s.dev = true ∧ epochInstant s.dev (s.dev.mdl.epoch + 1) ≤ s.time.ns) ∧
(∃ (s : State), s.dev.mdl.proc = none) ∧
(∃ (s : State) (p : MProc), s.dev.mdl.proc = some p ∧ p.snap = false) ∧
(∃ (s : State) (p : MProc), s.dev.mdl.proc = some p ∧ p.snap = true) ∧
(∃ (s : State) (p : MProc), s.dev.mdl.proc = some p ∧ p.snap = true ∧ (putCfg p.cfg s.dev).get Reg.MOD_HOST.SNAP_TMO ≠ 0 ∧
      p.start + (putCfg p.cfg s.dev).get Reg.MOD_HOST.SNAP_TMO * 10000000 < s.time.loc) ∧
(∃ (s : State) (p : MProc), s.dev.mdl.proc = some p ∧ ((putCfg p.cfg s.dev).get Reg.MOD_HOST.SNAP_TMO = 0 ∨ s.time.loc ≤
      p.start + (putCfg p.cfg s.dev).get Reg.MOD_HOST.SNAP_TMO * 10000000)) ∧
(∃ (d : Dev), d.mdl.stopDue = false) ∧
(∃ (d : Dev), (ringIs d (d.get Reg.MOD_HOST.SNAP_RING) clsModl && ringFree d (d.get Reg.MOD_HOST.SNAP_RING)) = false) :=
  ⟨⟨tWith [put Reg.MOD_CTRL.EN 1], by decide +kernel⟩,
   ⟨tSt, by decide +kernel⟩,
   ⟨tWith [put Reg.MOD_CTRL.EN 0, put Reg.GLB_SPLIT.MODAL 1], by decide +kernel⟩,
   ⟨tWith [put Reg.MOD_CTRL.LANES 3, put Reg.MOD_CTRL.BINS 3, put Reg.MOD_CTRL.EN 0, put Reg.GLB_SPLIT.MODAL 1],
     by decide +kernel⟩,
   ⟨tWith [put Reg.MOD_CTRL.LANES 4, put Reg.MOD_CTRL.BINS 3, put Reg.ALN_CTRL.SPREAD_RATE 3, putN Reg.T_MBIN.F 0 0x3F000000,
     putN Reg.T_MBIN.F 1 0x3F800000, putN Reg.T_MBIN.F 2 0x40000000, putN Reg.T_MLANE.OPA 0 0x00000031, putN Reg.T_MLANE.OPA
     1 0x00000031, putN Reg.T_MLANE.OPA 2 0x00000031, putN Reg.T_MLANE.OPA 3 0x00000031, putN Reg.T_ATTR.RSV 3 8, putN
     Reg.T_SRC.RATE 3 3, putN Reg.HMP_PARTn.SIZE 3 4, put Reg.MOD_CTRL.EN 0, put Reg.GLB_SPLIT.MODAL 1], by decide +kernel⟩,
   ⟨tSt, by decide +kernel⟩,
   ⟨tWith [put Reg.MOD_STATUS.RUN 1, fun s => { s with dev.mdl.proc := some default }], by decide +kernel⟩,
   ⟨tWith [put Reg.MOD_STATUS.RUN 1], by decide +kernel⟩,
   ⟨tSt, by decide +kernel⟩,
   ⟨tWith [put Reg.MOD_STATUS.RUN 1, fun s => { s with dev.mdl.proc := none }, fun s =>
     { s with dev.mdl.ready := (⟨[[none]],3⟩ : MSeg) :: [] }], (⟨[[none]],3⟩ : MSeg), [], by decide +kernel⟩,
   ⟨tSt, by decide +kernel⟩,
   ⟨tWith [put Reg.MOD_STATUS.RUN 1], by decide +kernel⟩,
   ⟨tSt, by decide +kernel⟩,
   ⟨tWith [fun s => { s with dev.mdl.proc := some (⟨3, 90, 2, 80, false, 5, 6, false, 0, []⟩ : MProc) }], (⟨3, 90, 2, 80,
     false, 5, 6, false, 0, []⟩ : MProc), by decide +kernel⟩,
   ⟨tWith [fun s => { s with dev.mdl.proc := some (⟨3, 90, 2, 80, true, 5, 6, false, 0, []⟩ : MProc) }], (⟨3, 90, 2, 80, true,
     5, 6, false, 0, []⟩ : MProc), by decide +kernel⟩,
   ⟨tWith [fun s => { s with dev.mdl.proc := some (⟨3, 90, 2, 80, true, 5, 6, false, 0, []⟩ : MProc) }], (⟨3, 90, 2, 80, true,
     5, 6, false, 0, []⟩ : MProc), by decide +kernel⟩,
   ⟨List.foldl (fun s f => f s) State.reset [fun s =>
     { s with dev.mdl.proc := some (⟨3, 90, 2, 80, false, 5, 6, false, 0, []⟩ : MProc) }], (⟨3, 90, 2, 80, false, 5, 6,
     false, 0, []⟩ : MProc), by decide +kernel⟩,
   ⟨tSt.dev, by decide +kernel⟩,
   ⟨tSt.dev, by decide +kernel⟩⟩

/-- The hypotheses of CaptureSetUp, clause by clause, at states and operands that meet them. -/
theorem witness_CaptureSetUp :
(∃ (s : State), s.dev.up islCap = true ∧ s.dev.on Reg.CAP_CTRL.EN = true) ∧
(∃ (s : State), s.dev.up islCap = true ∧ s.dev.on Reg.CAP_CTRL.EN = false) ∧
(∃ (d : Dev), d.get Reg.CAP_HIST.H = 0) ∧
(∃ (d : Dev), d.get Reg.CAP_HIST.H ≠ 0 ∧ ∃ n, n ∈ recLanes d ∧ d.getN Reg.T_LANE.FS n * d.get Reg.CAP_HIST.H % 1000 ≠ 0) ∧
(∃ (d : Dev) (words : Nat), d.get Reg.CAP_HIST.H ≠ 0 ∧ (∀ (n : ℕ), n ∈ recLanes d → d.getN Reg.T_LANE.FS n * d.get
      Reg.CAP_HIST.H % 1000 = 0) ∧ words = (List.map (fun n ↦ d.getN Reg.T_LANE.FS n * d.get Reg.CAP_HIST.H / 1000)
      (recLanes d)).sum ∧ partBytes d partRaw ≠ 0 ∧ partBytes d partRaw < words * 4) ∧
(∃ (d : Dev) (words : Nat), d.get Reg.CAP_HIST.H ≠ 0 ∧ (∀ (n : ℕ), n ∈ recLanes d → d.getN Reg.T_LANE.FS n * d.get
      Reg.CAP_HIST.H % 1000 = 0) ∧ words = (List.map (fun n ↦ d.getN Reg.T_LANE.FS n * d.get Reg.CAP_HIST.H / 1000)
      (recLanes d)).sum ∧ (partBytes d partRaw = 0 ∨ words * 4 ≤ partBytes d partRaw)) ∧
(∃ (s : State), s.dev.up islCap = true) ∧
(∃ (s : State) (k : Nat) (v : Word32), k < 256 ∧ s.dev.up islCap = true ∧ bitOf v 0 = false) ∧
(∃ (s : State) (k : Nat) (v : Word32), k < 256 ∧ s.dev.up islCap = true ∧ bitOf v 0 = true ∧ s.dev.onN Reg.T_CTRIG.VALID k =
      false ∧ defOk (BitVec.toNat v) (BitVec.toNat (s.dev.word (3608576 + k * 32 + 4))) (BitVec.toNat (s.dev.word (3608576 +
      k * 32 + 20))) = false) ∧
(∃ (s : State) (k : Nat) (v : Word32), k < 256 ∧ s.dev.up islCap = true ∧ bitOf v 0 = true ∧ s.dev.onN Reg.T_CTRIG.VALID k =
      false ∧ defOk (BitVec.toNat v) (BitVec.toNat (s.dev.word (3608576 + k * 32 + 4))) (BitVec.toNat (s.dev.word (3608576 +
      k * 32 + 20))) = true) ∧
(∃ (s : State) (k : Nat) (v : Word32), k < 256 ∧ s.dev.up islCap = true ∧ bitOf v 0 = true ∧ s.dev.onN Reg.T_CTRIG.VALID k =
      true) ∧
(∃ (k : Nat), 256 ≤ k) ∧
(∃ (k : Nat), 32 ≤ k) ∧
(∃ (s : State) (k : Nat) (v : Word32), k < 32 ∧ s.dev.up islCap = true ∧ bitOf v 0 = false) ∧
(∃ (s : State) (k : Nat) (v : Word32), k < 32 ∧ s.dev.up islCap = true ∧ bitOf v 0 = true ∧ s.dev.onN Reg.T_CMASK.VALID k =
      true) ∧
(∃ (s : State) (k : Nat) (v : Word32), k < 32 ∧ s.dev.up islCap = true ∧ bitOf v 0 = true ∧ s.dev.onN Reg.T_CMASK.VALID k =
      false) ∧
(∃ (s : State) (v : Word32), s.dev.up islCap = true ∧ (bitOf v 31 = false ∨ s.dev.onN Reg.T_CTRIG.VALID (bits (BitVec.toNat
      v) 0 8) = false ∨ s.dev.getN Reg.T_CTRIG.SRC (bits (BitVec.toNat v) 0 8) ≠ 4)) ∧
(∃ (s : State) (v : Word32), s.dev.up islCap = true ∧ bitOf v 31 = true ∧ s.dev.onN Reg.T_CTRIG.VALID (bits (BitVec.toNat v)
      0 8) = true ∧ s.dev.getN Reg.T_CTRIG.SRC (bits (BitVec.toNat v) 0 8) = 4) ∧
(∃ (s : State) (n : Nat), n < 8 ∧ s.dev.up islCap = true ∧ engState s.dev n ≠ 0) ∧
(∃ (s : State) (n : Nat), n < 8 ∧ s.dev.up islCap = true ∧ engState s.dev n = 0 ∧ armCheck s.dev n = stSkipped) ∧
(∃ (s : State) (n : Nat), n < 8 ∧ s.dev.up islCap = true ∧ engState s.dev n = 0 ∧ armCheck s.dev n ≠ stOk ∧ armCheck s.dev n
      ≠ stSkipped) ∧
(∃ (s : State) (n : Nat), n < 8 ∧ s.dev.up islCap = true ∧ engState s.dev n = 0 ∧ armCheck s.dev n = stOk ∧ s.dev.onN
      Reg.CAP_ENGn_CTRL.TIMED n = true) ∧
(∃ (s : State) (n : Nat), n < 8 ∧ s.dev.up islCap = true ∧ engState s.dev n = 0 ∧ armCheck s.dev n = stOk ∧ s.dev.onN
      Reg.CAP_ENGn_CTRL.TIMED n = false) ∧
(∃ (s : State) (n : Nat) (v : Verdict), n < 8 ∧ engState s.dev n = 1 ∧ verdictNow s.time s.dev (s.dev.getN
      Reg.CAP_ENGn_TARM.ST n) (s.dev.getN Reg.CAP_ENGn_TEP.EPOCH n) (s.dev.getN Reg.CAP_ENGn_TEP.LATE_TOL n) = v ∧ v =
      Verdict.wait) ∧
(∃ (s : State) (n : Nat) (v : Verdict), n < 8 ∧ engState s.dev n = 1 ∧ verdictNow s.time s.dev (s.dev.getN
      Reg.CAP_ENGn_TARM.ST n) (s.dev.getN Reg.CAP_ENGn_TEP.EPOCH n) (s.dev.getN Reg.CAP_ENGn_TEP.LATE_TOL n) = v ∧ v =
      Verdict.expired) ∧
(∃ (s : State) (n : Nat) (v : Verdict), n < 8 ∧ engState s.dev n = 1 ∧ verdictNow s.time s.dev (s.dev.getN
      Reg.CAP_ENGn_TARM.ST n) (s.dev.getN Reg.CAP_ENGn_TEP.EPOCH n) (s.dev.getN Reg.CAP_ENGn_TEP.LATE_TOL n) = v ∧ (v =
      Verdict.ok ∨ v = Verdict.late)) ∧
(∃ (s : State) (n : Nat), 8 ≤ n ∨ engState s.dev n ≠ 1) ∧
(∃ (n : Nat), 8 ≤ n) ∧
(∃ (s : State) (n : Nat), n < 8 ∧ engState s.dev n = 2 ∧ (s.dev.eng n).armT + s.dev.getN Reg.CAP_ENGn_PRE.MS n * 1000000 ≤
      s.time.ns) ∧
(∃ (s : State) (n : Nat), n < 8 ∧ (engState s.dev n ≠ 2 ∨ s.time.ns < (s.dev.eng n).armT + s.dev.getN Reg.CAP_ENGn_PRE.MS n
      * 1000000)) ∧
(∃ (s : State) (n : Nat), n < 8 ∧ s.dev.up islCap = true ∧ engState s.dev n = 5) ∧
(∃ (s : State) (n : Nat), n < 8 ∧ s.dev.up islCap = true ∧ engState s.dev n ≠ 5) :=
  ⟨⟨tWith [put Reg.CAP_CTRL.EN 1], by decide +kernel⟩,
   ⟨tSt, by decide +kernel⟩,
   ⟨tSt.dev, by decide +kernel⟩,
   ⟨(tWith [putN Reg.T_LANE.REC 3 1, putN Reg.T_LANE.FS 3 4001, put Reg.CAP_HIST.H ((0 + 1))]).dev, by decide +kernel⟩,
   ⟨(tWith [put Reg.CAP_HIST.H 60000, putN Reg.T_LANE.REC 3 1, putN Reg.T_LANE.FS 3 48000, putN Reg.HMP_PARTn.SIZE 1 1]).dev,
     2880000, by decide +kernel⟩,
   ⟨(tWith [put Reg.CAP_HIST.H ((0 + 1))]).dev, 0, by decide +kernel⟩,
   ⟨tSt, by decide +kernel⟩,
   ⟨tSt, 2, 0, by decide +kernel⟩,
   ⟨tSt, 2, 113, by decide +kernel⟩,
   ⟨tSt, 2, 1, by decide +kernel⟩,
   ⟨tWith [putN Reg.T_CTRIG.VALID 2 1], 2, 1, by decide +kernel⟩,
   ⟨256, by decide +kernel⟩,
   ⟨32, by decide +kernel⟩,
   ⟨tSt, 2, 0, by decide +kernel⟩,
   ⟨tWith [putN Reg.T_CMASK.VALID 2 1], 2, 1, by decide +kernel⟩,
   ⟨tSt, 2, 1, by decide +kernel⟩,
   ⟨tSt, 0, by decide +kernel⟩,
   ⟨(tWith [putN Reg.T_CTRIG.VALID (bits (BitVec.toNat (2147483648 : Word32)) 0 8) 1, putN Reg.T_CTRIG.SRC (bits (BitVec.toNat
     (2147483648 : Word32)) 0 8) 4]), 2147483648, by decide +kernel⟩,
   ⟨tWith [putN Reg.CAP_ENGn_STAT.STATE 2 1], 2, by decide +kernel⟩,
   ⟨tWith [put Reg.CAP_STATUS.RUN 1, put Reg.GLB_SPLIT.CAPTURE 1], 2, by decide +kernel⟩,
   ⟨tSt, 2, by decide +kernel⟩,
   ⟨tWith [put Reg.CAP_STATUS.RUN 1, put Reg.GLB_SPLIT.CAPTURE 1, putN Reg.CAP_ENGn_CFG.NCH 2 1, putN Reg.T_CCHAN.KIND 128 2,
     putN Reg.T_CCHAN.INDEX 128 3, putN Reg.CAP_ENGn_PRE.MS 2 100, putN Reg.CAP_ENGn_POST.MS 2 100, putN
     Reg.CAP_ENGn_BUF.SIZE 2 10, putN Reg.HMP_PARTn.SIZE 2 4, put Reg.ALN_CTRL.SPREAD_RATE 3, putN Reg.CAP_ENGn_CTRL.TIMED 2
     1], 2, by decide +kernel⟩,
   ⟨tWith [put Reg.CAP_STATUS.RUN 1, put Reg.GLB_SPLIT.CAPTURE 1, putN Reg.CAP_ENGn_CFG.NCH 2 1, putN Reg.T_CCHAN.KIND 128 2,
     putN Reg.T_CCHAN.INDEX 128 3, putN Reg.CAP_ENGn_PRE.MS 2 100, putN Reg.CAP_ENGn_POST.MS 2 100, putN
     Reg.CAP_ENGn_BUF.SIZE 2 10, putN Reg.HMP_PARTn.SIZE 2 4, put Reg.ALN_CTRL.SPREAD_RATE 3], 2, by decide +kernel⟩,
   ⟨tWith [putN Reg.CAP_ENGn_STAT.STATE 2 1, putN Reg.CAP_ENGn_TARM.ST 2 (10^11 % 2^32 + 20)], 2,
     Sys2Proof.Machine.Verdict.wait, by decide +kernel⟩,
   ⟨tWith [putN Reg.CAP_ENGn_STAT.STATE 2 1], 2, Sys2Proof.Machine.Verdict.expired, by decide +kernel⟩,
   ⟨tWith [putN Reg.CAP_ENGn_STAT.STATE 2 1, putN Reg.CAP_ENGn_TARM.ST 2 (10^11 % 2^32)], 2, Sys2Proof.Machine.Verdict.ok,
     by decide +kernel⟩,
   ⟨tSt, 2, by decide +kernel⟩,
   ⟨8, by decide +kernel⟩,
   ⟨tWith [putN Reg.CAP_ENGn_STAT.STATE 2 2], 2, by decide +kernel⟩,
   ⟨tSt, 2, by decide +kernel⟩,
   ⟨tWith [putN Reg.CAP_ENGn_STAT.STATE 2 5], 2, by decide +kernel⟩,
   ⟨tSt, 2, by decide +kernel⟩⟩

/-- The hypotheses of CaptureRecords, clause by clause, at states and operands that meet them. -/
theorem witness_CaptureRecords :
(∃ (s : State) (n : Nat), n < 8 ∧ (s.dev.eng n).inbox = []) ∧
(∃ (s : State) (n : Nat) (k : Nat) (i : Inst) (rest : List (Nat × Inst)), n < 8 ∧ (s.dev.eng n).inbox = (k, i) :: rest) ∧
(∃ (s : State) (n : Nat), n < 8 ∧ ((s.dev.eng n).collAt = none ∨ engState s.dev n ≠ 4)) ∧
(∃ (s : State) (n : Nat) (a : Nat), n < 8 ∧ (s.dev.eng n).collAt = some a ∧ s.time.loc - a < s.dev.getN
      Reg.CAP_ENGn_CFG.COLLECT n * 1000) ∧
(∃ (s : State) (n : Nat) (a : Nat), n < 8 ∧ (s.dev.eng n).collAt = some a ∧ engState s.dev n = 4 ∧ s.dev.getN
      Reg.CAP_ENGn_CFG.COLLECT n * 1000 ≤ s.time.loc - a ∧ (s.dev.eng n).defs = []) ∧
(∃ (s : State) (n : Nat) (a : Nat) (p : Nat × Inst) (ps : List (Nat × Inst)), n < 8 ∧ (s.dev.eng n).collAt = some a ∧
      engState s.dev n = 4 ∧ s.dev.getN Reg.CAP_ENGn_CFG.COLLECT n * 1000 ≤ s.time.loc - a ∧ (s.dev.eng n).defs = p :: ps) ∧
(∃ (s : State) (n : Nat), n < 8 ∧ engState s.dev n ∉ [2, 3, 4]) ∧
(∃ (d : Dev) (n : Nat), framing d n = false ∨ spreadsFlow d = true) ∧
(∃ (s : State) (n : Nat) (d : Dev), n < 8 ∧ d = catchUp s.time n s.dev ∧ (posting d n = false ∨ ∃ c, c ∈ (d.eng n).chans ∧
      c.next < c.first + c.ntot)) ∧
(∃ (s : State) (n : Nat) (d : Dev), n < 8 ∧ d = catchUp s.time n s.dev ∧ posting d n = true ∧ ∀ (c : CapChan), c ∈ (d.eng
      n).chans → c.first + c.ntot ≤ c.next) ∧
(∃ (s : State) (n : Nat), n < 8 ∧ (engState s.dev n ≠ 5 ∧ engState s.dev n ≠ 6 ∨ s.dev.onN Reg.CAP_ENGn_CFG.DELIVER n =
      false ∨ (s.dev.eng n).len ≤ (s.dev.eng n).pos ∨ ringIs s.dev (s.dev.getN Reg.CAP_ENGn_CFG.RING n) clsCapt = false ∨
      ringFree s.dev (s.dev.getN Reg.CAP_ENGn_CFG.RING n) = false)) ∧
(∃ (s : State) (n : Nat) (b : Posted) (rest : List Posted), n < 8 ∧ (engState s.dev n = 5 ∨ engState s.dev n = 6) ∧
      s.dev.onN Reg.CAP_ENGn_CFG.DELIVER n = true ∧ (s.dev.eng n).pos < (s.dev.eng n).len ∧ ringIs s.dev (s.dev.getN
      Reg.CAP_ENGn_CFG.RING n) clsCapt = true ∧ ringFree s.dev (s.dev.getN Reg.CAP_ENGn_CFG.RING n) = true ∧ (s.dev.ring
      (s.dev.getN Reg.CAP_ENGn_CFG.RING n)).posted = b :: rest) ∧
(∃ (s : State) (n : Nat), n < 8 ∧ s.dev.up islCap = true ∧ (engState s.dev n ≠ 5 ∧ engState s.dev n ≠ 6 ∨ s.dev.onN
      Reg.CAP_ENGn_CFG.DELIVER n = true ∧ (s.dev.eng n).pos ≠ (s.dev.eng n).len)) ∧
(∃ (s : State) (n : Nat), n < 8 ∧ s.dev.up islCap = true ∧ (engState s.dev n = 5 ∨ engState s.dev n = 6) ∧ (s.dev.onN
      Reg.CAP_ENGn_CFG.DELIVER n = false ∨ (s.dev.eng n).pos = (s.dev.eng n).len) ∧ (engState s.dev n = 6 ∨ s.dev.onN
      Reg.CAP_ENGn_CFG.REARM n = false)) ∧
(∃ (s : State) (n : Nat), n < 8 ∧ s.dev.up islCap = true ∧ (engState s.dev n = 5 ∨ engState s.dev n = 6) ∧ (s.dev.onN
      Reg.CAP_ENGn_CFG.DELIVER n = false ∨ (s.dev.eng n).pos = (s.dev.eng n).len) ∧ engState s.dev n = 5 ∧ s.dev.onN
      Reg.CAP_ENGn_CFG.REARM n = true) :=
  ⟨⟨tSt, 2, by decide +kernel⟩,
   ⟨tWith [dev fun d => d.modEng 2 fun x_ => { x_ with inbox := (3, (⟨99,1⟩ : Inst)) :: [] }], 2, 3, (⟨99,1⟩ : Inst), [],
     by decide +kernel⟩,
   ⟨tSt, 2, by decide +kernel⟩,
   ⟨List.foldl (fun s f => f s) State.reset [dev fun d => d.modEng 2 fun x_ => { x_ with collAt := some 5 }], 2, 5,
     by decide +kernel⟩,
   ⟨tWith [putN Reg.CAP_ENGn_STAT.STATE 2 4, dev fun d => d.modEng 2 fun x_ => { x_ with collAt := some 5 }, dev fun d =>
     d.modEng 2 fun x_ => { x_ with defs := [] }], 2, 5, by decide +kernel⟩,
   ⟨tWith [putN Reg.CAP_ENGn_STAT.STATE 2 4, dev fun d => d.modEng 2 fun x_ => { x_ with collAt := some 5 }, dev fun d =>
     d.modEng 2 fun x_ => { x_ with defs := (3,⟨99,1⟩) :: [] }], 2, 5, (3,⟨99,1⟩), [], by decide +kernel⟩,
   ⟨tSt, 2, by decide +kernel⟩,
   ⟨tSt.dev, 2, by decide +kernel⟩,
   ⟨tSt, 2, catchUp (tSt).time 2 (tSt).dev, by decide +kernel, rfl, by decide +kernel⟩,
   ⟨tWith [putN Reg.CAP_ENGn_STAT.STATE 2 4, dev fun d => d.modEng 2 fun k => { k with trig := some ⟨99,1⟩ }, put
     Reg.ALN_CTRL.SPREAD_RATE 3, put Reg.ALN_STATUS.RUN 1, put Reg.ALN_CTRL.EN 1, put Reg.GLB_SPLIT.ALIGN 1, put
     Reg.ALN_DEPTH.D 16], 2, catchUp (tWith [putN Reg.CAP_ENGn_STAT.STATE 2 4, dev fun d => d.modEng 2 fun k =>
     { k with trig := some ⟨99,1⟩ }, put Reg.ALN_CTRL.SPREAD_RATE 3, put Reg.ALN_STATUS.RUN 1, put Reg.ALN_CTRL.EN 1, put
     Reg.GLB_SPLIT.ALIGN 1, put Reg.ALN_DEPTH.D 16]).time 2 (tWith [putN Reg.CAP_ENGn_STAT.STATE 2 4, dev fun d => d.modEng
     2 fun k => { k with trig := some ⟨99,1⟩ }, put Reg.ALN_CTRL.SPREAD_RATE 3, put Reg.ALN_STATUS.RUN 1, put
     Reg.ALN_CTRL.EN 1, put Reg.GLB_SPLIT.ALIGN 1, put Reg.ALN_DEPTH.D 16]).dev, by decide +kernel, rfl, by decide +kernel⟩,
   ⟨tSt, 2, by decide +kernel⟩,
   ⟨tWith [putN Reg.CAP_ENGn_STAT.STATE 2 5, putN Reg.HIF_RINGn_STAT.STATE 40 1, dev fun d => d.setRing 40
     { d.ring 40 with cls := clsCapt, log2 := 4, posted := [(⟨5,9,false,0x1000,65536,0⟩ : Posted)] }, putN
     Reg.CAP_ENGn_CFG.RING 2 40, dev fun d => d.modEng 2 fun k => { k with len := 2000 }], 2, (⟨5,9,false,0x1000,65536,0⟩ :
     Posted), [], by decide +kernel⟩,
   ⟨tSt, 2, by decide +kernel⟩,
   ⟨tWith [putN Reg.CAP_ENGn_STAT.STATE 2 5], 2, by decide +kernel⟩,
   ⟨tWith [putN Reg.CAP_ENGn_STAT.STATE 2 5, putN Reg.CAP_ENGn_CFG.DELIVER 2 0, putN Reg.CAP_ENGn_CFG.REARM 2 1], 2,
     by decide +kernel⟩⟩

/-- The hypotheses of RingLifecycle, clause by clause, at states and operands that meet them. -/
theorem witness_RingLifecycle :
(∃ (s : State) (n : Nat), 256 ≤ n ∨ s.dev.up islHst = true ∧ (ringState s.dev n ≠ 0 ∨ s.dev.onN Reg.HIF_RINGn_CTRL.EN n =
      true)) ∧
(∃ (s : State) (n : Nat), n < 256 ∧ s.dev.up islHst = true ∧ ringState s.dev n = 0 ∧ s.dev.onN Reg.HIF_RINGn_CTRL.EN n =
      false) ∧
(∃ (s : State) (n : Nat) (cb : DescWords), n < 256 ∧ s.dev.up islHst = true ∧ ringState s.dev n = 0 ∧ s.dev.onN
      Reg.HIF_RINGn_CTRL.EN n = false ∧ bits (dw cb 4) 0 8 ≠ 0 ∧ ringRefused (ringOfBlock cb s.time.loc) = false) ∧
(∃ (s : State) (n : Nat) (cb : DescWords), n < 256 ∧ s.dev.up islHst = true ∧ ringState s.dev n = 0 ∧ s.dev.onN
      Reg.HIF_RINGn_CTRL.EN n = false ∧ bits (dw cb 4) 0 8 ≠ 0 ∧ ringRefused (ringOfBlock cb s.time.loc) = true) ∧
(∃ (s : State) (n : Nat) (cb : DescWords), n < 256 ∧ s.dev.up islHst = true ∧ ringState s.dev n = 0 ∧ s.dev.onN
      Reg.HIF_RINGn_CTRL.EN n = false ∧ bits (dw cb 4) 0 8 = 0) ∧
(∃ (n : Nat), 256 ≤ n) ∧
(∃ (s : State) (n : Nat), n < 256 ∧ s.dev.up islHst = true ∧ (ringState s.dev n = 0 ∨ ringState s.dev n = 2)) ∧
(∃ (s : State) (n : Nat), n < 256 ∧ s.dev.up islHst = true ∧ ringState s.dev n ≠ 0 ∧ ringState s.dev n ≠ 2) ∧
(∃ (s : State) (n : Nat), ringState s.dev n = 2 ∧ (s.dev.ring n).started = [] ∧ (s.dev.ring n).owed = [] ∧ n < 256) ∧
(∃ (s : State) (n : Nat), ringState s.dev n ≠ 2 ∨ (s.dev.ring n).started ≠ [] ∨ (s.dev.ring n).owed ≠ []) ∧
(∃ (s : State), s.dev.up islHst = false) ∧
(∃ (s : State) (ofs : Nat) (size : Nat), s.dev.up islHst = true ∧ (2047 < ofs ∨ ¬(size = 8 ∧ ofs % 8 = 0 ∨ size = 4 ∧ ofs %
      4 = 0))) ∧
(∃ (s : State) (ofs : Nat) (size : Nat), s.dev.up islHst = true ∧ ofs ≤ 2047 ∧ size = 8 ∧ ofs % 8 = 0) ∧
(∃ (s : State) (ofs : Nat) (size : Nat), s.dev.up islHst = true ∧ ofs ≤ 2047 ∧ size = 4 ∧ ofs % 8 = 0) ∧
(∃ (s : State) (ofs : Nat) (size : Nat), s.dev.up islHst = true ∧ ofs ≤ 2047 ∧ size = 4 ∧ ofs % 8 = 4) ∧
(∃ (d : Dev) (n : Nat) (p : Nat) (c : Nat), p < 2 ^ 32 ∧ c < 2 ^ 32 ∧ (ringState d n ≠ 1 ∨ sdiff (2 ^ 32) p (d.ring n).prod
      < 0 ∨ ringSize (d.ring n) < (p + 2 ^ 32 - d.getN Reg.HIF_RINGn_DCONS.N n) % 2 ^ 32 ∨ sdiff (2 ^ 32) c (d.ring n).ccons
      < 0 ∨ 0 < sdiff (2 ^ 32) c (d.getN Reg.HIF_RINGn_CPROD.N n))) ∧
(∃ (d : Dev) (n : Nat) (p : Nat) (c : Nat), p < 2 ^ 32 ∧ c < 2 ^ 32 ∧ ringState d n = 1 ∧ 0 ≤ sdiff (2 ^ 32) p (d.ring
      n).prod ∧ (p + 2 ^ 32 - d.getN Reg.HIF_RINGn_DCONS.N n) % 2 ^ 32 ≤ ringSize (d.ring n) ∧ 0 ≤ sdiff (2 ^ 32) c (d.ring
      n).ccons ∧ sdiff (2 ^ 32) c (d.getN Reg.HIF_RINGn_CPROD.N n) ≤ 0) ∧
(∃ (d : Dev) (n : Nat), ringRuns d n = false ∨ hifQuiet d = true ∨ nextDesc d n = (d.ring n).prod) ∧
(∃ (s : State) (n : Nat) (v : Nat), s.dev.up islHst = true ∧ n < 256 ∧ ringState s.dev n = 1 ∧ hifQuiet s.dev = false ∧
      (s.dev.ring n).prod = 0 ∧ s.dev.getN Reg.HIF_RINGn_DCONS.N n = 0 ∧ v = 1 ∧ toHost (s.dev.ring n).cls = false ∧
      (s.dev.ring n).taken = [] ∧ (s.dev.ring n).ccons = 0 ∧ s.dev.getN Reg.HIF_RINGn_CPROD.N n = 0) ∧
(∃ (s : State) (n : Nat), n < 256 ∧ ringRuns s.dev n = true ∧ (s.dev.ring n).poll = true ∧ s.dev.get Reg.HIF_POLL_NS.NS ≠ 0
      ∧ max 250 (s.dev.get Reg.HIF_POLL_NS.NS) ≤ s.time.loc - (s.dev.ring n).lastPoll) ∧
(∃ (s : State) (n : Nat), 256 ≤ n ∨ ringRuns s.dev n = false ∨ (s.dev.ring n).poll = false ∨ s.dev.get Reg.HIF_POLL_NS.NS =
      0 ∨ s.time.loc < (s.dev.ring n).lastPoll + max 250 (s.dev.get Reg.HIF_POLL_NS.NS)) ∧
(∃ (s : State) (n : Nat) (o : Owed), n < 256 ∧ hifQuiet s.dev = false ∧ ringState s.dev n ≠ 0 ∧ slotsUsed s.dev n < ringSize
      (s.dev.ring n) ∧ nextOwed (s.dev.ring n) = some o ∧ (∀ (k : ℕ), o.sig = some k → k < 64) ∧ ∀ (p : ℕ), o.stampPort =
      some p → p < 16) ∧
(∃ (s : State) (n : Nat), hifQuiet s.dev = true ∨ ringSize (s.dev.ring n) ≤ slotsUsed s.dev n ∨ 256 ≤ n ∨ ringState s.dev n
      = 0 ∨ nextOwed (s.dev.ring n) = none) ∧
(∃ (s : State) (n : Nat) (h : Taken), n < 256 ∧ headReady s.dev n = some h ∧ toHost (s.dev.ring n).cls = false ∧ dOpcode
      h.words = 0) ∧
(∃ (s : State) (n : Nat), headReady s.dev n = none) ∧
(∃ (s : State) (n : Nat) (h : Taken), n < 256 ∧ headReady s.dev n = some h ∧ toHost (s.dev.ring n).cls = false ∧ dOpcode
      h.words = 1 ∧ (s.dev.ring n).started = [] ∧ (s.dev.ring n).owed = []) ∧
(∃ (s : State) (n : Nat) (h : Taken) (rest : List Taken), n < 256 ∧ (s.dev.ring n).taken = h :: rest ∧ ringRuns s.dev n =
      true ∧ toHost (s.dev.ring n).cls = false ∧ dWait h.words = true) ∧
(∃ (s : State) (n : Nat) (h : Taken), headReady s.dev n = some h ∧ (256 ≤ n ∨ toHost (s.dev.ring n).cls = true ∨ dOpcode
      h.words ≠ 0)) ∧
(∃ (s : State) (n : Nat) (h : Taken), headReady s.dev n = some h ∧ (256 ≤ n ∨ toHost (s.dev.ring n).cls = true ∨ dOpcode
      h.words ≠ 1 ∨ (s.dev.ring n).started ≠ [] ∨ (s.dev.ring n).owed ≠ [])) ∧
(∃ (s : State) (n : Nat) (h : Taken), headReady s.dev n = some h ∧ (256 ≤ n ∨ toHost (s.dev.ring n).cls = false)) ∧
(∃ (s : State) (n : Nat), 256 ≤ n ∨ ringRuns s.dev n = false ∨ toHost (s.dev.ring n).cls = true ∨ Option.map (fun h ↦ dWait
      h.words) (s.dev.ring n).taken.head? ≠ some true) ∧
(∃ (s : State) (n : Nat) (h : Taken) (rest : List Taken), n < 256 ∧ (s.dev.ring n).taken = h :: rest ∧ ringRuns s.dev n =
      true ∧ toHost (s.dev.ring n).cls = false ∧ dWait h.words = true ∧ h.released = false ∧ (s.dev.ring n).fence = none ∧
      tokenReached s.dev (dWaitTok h.words) (dWaitVal h.words) = false ∧ s.dev.get Reg.HIF_FENCE.TMO ≠ 0 ∧ (s.dev.ring
      n).headSince + s.dev.get Reg.HIF_FENCE.TMO * 1000000 < s.time.loc) ∧
(∃ (s : State) (n : Nat) (h : Taken) (rest : List Taken), n < 256 ∧ (s.dev.ring n).taken = h :: rest ∧ ringRuns s.dev n =
      true ∧ toHost (s.dev.ring n).cls = false ∧ dWait h.words = true ∧ (h.released = true ∨ (s.dev.ring n).fence ≠ none ∨
      tokenReached s.dev (dWaitTok h.words) (dWaitVal h.words) = true ∨ s.dev.get Reg.HIF_FENCE.TMO = 0 ∨ s.time.loc ≤
      (s.dev.ring n).headSince + s.dev.get Reg.HIF_FENCE.TMO * 1000000)) ∧
(∃ (s : State) (n : Nat) (h : Taken) (b : Posted), n < 256 ∧ headReady s.dev n = some h ∧ toHost (s.dev.ring n).cls = true ∧
      b =
      { idx := h.idx, tag := dTag h.words, irq := dIrq h.words, addr := dAddr h.words, len := dLen h.words, st := bufStatus (s.dev.ring n).cls h.words : Posted }) :=
  ⟨⟨tWith [putN Reg.HIF_RINGn_CTRL.EN 40 1], 40, by decide +kernel⟩,
   ⟨tSt, 40, by decide +kernel⟩,
   ⟨tSt, 40, [0x1000,0,0x8000,0,0x02000304,0,0,0], by decide +kernel⟩,
   ⟨tSt, 40, [0x1000,0,0x8000,0,0x02000303,0,0,0], by decide +kernel⟩,
   ⟨tSt, 40, [0x1000,0,0x8000,0,0x03000300,0,0,0], by decide +kernel⟩,
   ⟨256, by decide +kernel⟩,
   ⟨tSt, 40, by decide +kernel⟩,
   ⟨tWith [putN Reg.HIF_RINGn_STAT.STATE 40 1, dev fun d => d.setRing 40 { d.ring 40 with cls := clsTxh, log2 := 4 }], 40,
     by decide +kernel⟩,
   ⟨tWith [putN Reg.HIF_RINGn_STAT.STATE 40 2, dev fun d => d.setRing 40 { d.ring 40 with started := [] }, dev fun d =>
     d.setRing 40 { d.ring 40 with owed := [] }], 40, by decide +kernel⟩,
   ⟨tSt, 40, by decide +kernel⟩,
   ⟨tWith [dev fun d => { d with isl := tset d.isl islHst ⟨.reset, false, false⟩ }], by decide +kernel⟩,
   ⟨tSt, 0, 5, by decide +kernel⟩,
   ⟨tSt, 0, 8, by decide +kernel⟩,
   ⟨tSt, 0, 4, by decide +kernel⟩,
   ⟨tSt, 4, 4, by decide +kernel⟩,
   ⟨tSt.dev, 40, 0, 0, by decide +kernel⟩,
   ⟨(tWith [putN Reg.HIF_RINGn_STAT.STATE 40 1]).dev, 40, 0, 0, by decide +kernel⟩,
   ⟨tSt.dev, 40, by decide +kernel⟩,
   ⟨tWith [putN Reg.HIF_RINGn_STAT.STATE 40 1, dev fun d => d.setRing 40 { d.ring 40 with prod := 0 }, putN
     Reg.HIF_RINGn_DCONS.N 40 0, dev fun d => d.setRing 40 { d.ring 40 with taken := [] }, dev fun d => d.setRing 40
     { d.ring 40 with ccons := 0 }, putN Reg.HIF_RINGn_CPROD.N 40 0], 40, 1, by decide +kernel⟩,
   ⟨tWith [putN Reg.HIF_RINGn_STAT.STATE 40 1, dev fun d => d.setRing 40 { d.ring 40 with poll := true }, put
     Reg.HIF_POLL_NS.NS ((0 + 1))], 40, by decide +kernel⟩,
   ⟨tSt, 40, by decide +kernel⟩,
   ⟨tWith [putN Reg.HIF_RINGn_STAT.STATE 40 1, dev fun d => d.setRing 40 { d.ring 40 with cls := clsTxh, log2 := 4 }, dev fun d
     => d.setRing 40 { d.ring 40 with owed := [(⟨3,7,0,false,0,[],false,false,none,none⟩ : Owed)] }], 40,
     { idx := 3,   tag := 7,   status := 0,   more := false,   len := 0,   ext := [],   ord := false,   irq := false,   sig := none,   stampPort := none },
     by decide +kernel⟩,
   ⟨tSt, 40, by decide +kernel⟩,
   ⟨tWith [putN Reg.HIF_RINGn_STAT.STATE 40 1, dev fun d => d.setRing 40 { d.ring 40 with cls := clsTxh, log2 := 4 }, dev fun d
     => d.setRing 40 { d.ring 40 with taken := [(⟨3, [458752,0,16384,0,0,0,0,0,0,0,0,0,0,0,0,0], false⟩ : Taken)] }], 40,
     { idx := 3, words := [458752, 0, 16384, 0, 0, 0, 0, 0, 0, 0, 0, 0, 0, 0, 0, 0], released := false }, by decide +kernel⟩,
   ⟨tSt, 40, by decide +kernel⟩,
   ⟨tWith [putN Reg.HIF_RINGn_STAT.STATE 40 1, dev fun d => d.setRing 40 { d.ring 40 with cls := clsTxh, log2 := 4 }, dev fun d
     => d.setRing 40 { d.ring 40 with taken := [(⟨3, [458753,0,16384,0,0,0,0,0,0,0,0,0,0,0,0,0], false⟩ : Taken)] }], 40,
     { idx := 3, words := [458753, 0, 16384, 0, 0, 0, 0, 0, 0, 0, 0, 0, 0, 0, 0, 0], released := false }, by decide +kernel⟩,
   ⟨tWith [dev fun d => d.setRing 40
     { d.ring 40 with taken := (⟨3, [460800,327936,16384,0,0,0,0,0,0,0,0,0,0,0,0,0], false⟩ : Taken) :: [] }, putN
     Reg.HIF_RINGn_STAT.STATE 40 1], 40, (⟨3, [460800,327936,16384,0,0,0,0,0,0,0,0,0,0,0,0,0], false⟩ : Taken), [],
     by decide +kernel⟩,
   ⟨tWith [putN Reg.HIF_RINGn_STAT.STATE 40 1, dev fun d => d.setRing 40 { d.ring 40 with cls := clsTxh, log2 := 4 }, dev fun d
     => d.setRing 40 { d.ring 40 with taken := [(⟨3, [458753,0,16384,0,0,0,0,0,0,0,0,0,0,0,0,0], false⟩ : Taken)] }], 40,
     { idx := 3, words := [458753, 0, 16384, 0, 0, 0, 0, 0, 0, 0, 0, 0, 0, 0, 0, 0], released := false }, by decide +kernel⟩,
   ⟨tWith [putN Reg.HIF_RINGn_STAT.STATE 40 1, dev fun d => d.setRing 40 { d.ring 40 with cls := clsTxh, log2 := 4 }, dev fun d
     => d.setRing 40 { d.ring 40 with taken := [(⟨3, [458752,0,16384,0,0,0,0,0,0,0,0,0,0,0,0,0], false⟩ : Taken)] }], 40,
     { idx := 3, words := [458752, 0, 16384, 0, 0, 0, 0, 0, 0, 0, 0, 0, 0, 0, 0, 0], released := false }, by decide +kernel⟩,
   ⟨tWith [putN Reg.HIF_RINGn_STAT.STATE 40 1, dev fun d => d.setRing 40 { d.ring 40 with cls := clsTxh, log2 := 4 }, dev fun d
     => d.setRing 40 { d.ring 40 with taken := [(⟨3, [458752,0,16384,0,0,0,0,0,0,0,0,0,0,0,0,0], false⟩ : Taken)] }], 40,
     { idx := 3, words := [458752, 0, 16384, 0, 0, 0, 0, 0, 0, 0, 0, 0, 0, 0, 0, 0], released := false }, by decide +kernel⟩,
   ⟨tSt, 40, by decide +kernel⟩,
   ⟨tWith [dev fun d => d.setRing 40
     { d.ring 40 with taken := (⟨3, [460800,327936,16384,0,0,0,0,0,0,0,0,0,0,0,0,0], false⟩ : Taken) :: [] }, putN
     Reg.HIF_RINGn_STAT.STATE 40 1, dev fun d => d.setRing 40 { d.ring 40 with fence := none }, put Reg.HIF_FENCE.TMO ((0 +
     1))], 40, (⟨3, [460800,327936,16384,0,0,0,0,0,0,0,0,0,0,0,0,0], false⟩ : Taken), [], by decide +kernel⟩,
   ⟨tWith [dev fun d => d.setRing 40
     { d.ring 40 with taken := (⟨3, [460800,327936,16384,0,0,0,0,0,0,0,0,0,0,0,0,0], false⟩ : Taken) :: [] }, putN
     Reg.HIF_RINGn_STAT.STATE 40 1, put Reg.HIF_FENCE.TMO 0], 40, (⟨3, [460800,327936,16384,0,0,0,0,0,0,0,0,0,0,0,0,0],
     false⟩ : Taken), [], by decide +kernel⟩,
   ⟨tWith [dev fun d => d.setRing 40
     { d.ring 40 with taken := [(⟨3, [458752,0,16384,0,0,0,0,0,0,0,0,0,0,0,0,0], false⟩ : Taken)] }, putN
     Reg.HIF_RINGn_STAT.STATE 40 1, dev fun d => d.setRing 40 { d.ring 40 with cls := clsCapt, log2 := 4 }], 40,
     { idx := 3, words := [458752, 0, 16384, 0, 0, 0, 0, 0, 0, 0, 0, 0, 0, 0, 0, 0], released := false },
     { idx := 3, tag := 7, irq := false, addr := 16384, len := 0, st := 15 }, by decide +kernel⟩⟩

/-- The hypotheses of DataDescriptors, clause by clause, at states and operands that meet them. -/
theorem witness_DataDescriptors :
(∃ (s : State) (n : Nat), startable s.dev n clsCmd 16 = none) ∧
(∃ (s : State) (n : Nat), startable s.dev n clsCmd 17 = none) ∧
(∃ (s : State) (n : Nat) (h : Taken), startable s.dev n clsCmd 16 = some h ∧ blkBad h.words = true) ∧
(∃ (s : State) (n : Nat) (h : Taken), startable s.dev n clsCmd 16 = some h ∧ blkBad h.words = false ∧ dLen h.words = 0) ∧
(∃ (s : State) (n : Nat) (h : Taken), startable s.dev n clsCmd 16 = some h ∧ blkBad h.words = false ∧ dLen h.words ≠ 0) ∧
(∃ (s : State) (n : Nat) (h : Taken), startable s.dev n clsCmd 17 = some h ∧ blkBad h.words = true) ∧
(∃ (s : State) (n : Nat) (h : Taken), startable s.dev n clsCmd 17 = some h ∧ blkBad h.words = false ∧ dLen h.words = 0) ∧
(∃ (s : State) (n : Nat) (h : Taken), startable s.dev n clsCmd 17 = some h ∧ blkBad h.words = false ∧ dLen h.words ≠ 0) ∧
(∃ (s : State) (n : Nat) (h : Taken), startable s.dev n clsCmd 17 = some h ∧ blkBad h.words = false ∧ dLen h.words = 4) ∧
(∃ (s : State) (n : Nat), startable s.dev n clsTxh 16 = none) ∧
(∃ (s : State) (n : Nat) (p : Nat) (h : Taken), startable s.dev n clsTxh 16 = some h ∧ p = txhDest h.words ∧ 16 ≤ p) ∧
(∃ (s : State) (n : Nat) (p : Nat) (h : Taken), startable s.dev n clsTxh 16 = some h ∧ p = txhDest h.words ∧ p ≠ 20) ∧
(∃ (s : State) (n : Nat) (p : Nat) (h : Taken), startable s.dev n clsTxh 16 = some h ∧ p = txhDest h.words ∧ p = 20 ∧ dLen
      h.words = 0) ∧
(∃ (s : State) (n : Nat) (p : Nat) (h : Taken), startable s.dev n clsTxh 16 = some h ∧ p = txhDest h.words ∧ p = 20 ∧ dLen
      h.words ≠ 0 ∧ s.dev.up islIng = false) ∧
(∃ (s : State) (n : Nat) (p : Nat) (m : Nat) (h : Taken), startable s.dev n clsTxh 16 = some h ∧ p = txhDest h.words ∧ m =
      pairMode s.dev p ∧ p < 16 ∧ dLen h.words = 0) ∧
(∃ (s : State) (n : Nat) (p : Nat) (m : Nat) (h : Taken), startable s.dev n clsTxh 16 = some h ∧ p = txhDest h.words ∧ m =
      pairMode s.dev p ∧ p < 16 ∧ dLen h.words ≠ 0 ∧ m ≠ 0 ∧ p % 2 = 1) ∧
(∃ (s : State) (n : Nat) (p : Nat) (m : Nat) (h : Taken), startable s.dev n clsTxh 16 = some h ∧ p = txhDest h.words ∧ m =
      pairMode s.dev p ∧ p < 16 ∧ dLen h.words ≠ 0 ∧ (m = 0 ∨ p % 2 = 0) ∧ s.dev.getN Reg.FP_FRAME.MAX_LEN p < dLen h.words
      + 4 + if m = 0 then 0 else 6) ∧
(∃ (s : State) (n : Nat) (p : Nat) (m : Nat) (h : Taken), startable s.dev n clsTxh 16 = some h ∧ p = txhDest h.words ∧ m =
      pairMode s.dev p ∧ p < 16 ∧ dLen h.words ≠ 0 ∧ (m = 0 ∨ p % 2 = 0) ∧ (dLen h.words + 4 + if m = 0 then 0 else 6) ≤
      s.dev.getN Reg.FP_FRAME.MAX_LEN p ∧ s.dev.up (islPrt p) = false) ∧
(∃ (s : State) (n : Nat) (p : Nat) (m : Nat) (h : Taken), startable s.dev n clsTxh 16 = some h ∧ p = txhDest h.words ∧ m =
      pairMode s.dev p ∧ p < 16 ∧ dLen h.words ≠ 0 ∧ (m = 0 ∨ p % 2 = 0) ∧ (dLen h.words + 4 + if m = 0 then 0 else 6) ≤
      s.dev.getN Reg.FP_FRAME.MAX_LEN p ∧ s.dev.up (islPrt p) = true) ∧
(∃ (s : State) (n : Nat) (h : Taken), startable s.dev n clsTxh 16 = some h ∧ txhDest h.words < 16 ∧ dLen h.words ≠ 0 ∧
      pairMode s.dev (txhDest h.words) = 0 ∧ dLen h.words + 4 ≤ s.dev.getN Reg.FP_FRAME.MAX_LEN (txhDest h.words) ∧ s.dev.up
      (islPrt (txhDest h.words)) = true) ∧
(∃ (s : State) (n : Nat) (h : Taken), startable s.dev n clsTxh 16 = some h ∧ txhDest h.words = 20 ∧ dLen h.words ≠ 0 ∧
      s.dev.up islIng = true) ∧
(∃ (s : State) (n : Nat), n < 256 ∧ ringState s.dev n = 1 ∧ nextDesc s.dev n ≠ (s.dev.ring n).prod) ∧
(∃ (s : State) (n : Nat), 256 ≤ n ∨ ringState s.dev n ≠ 1) ∧
(∃ (s : State) (n : Nat), nextDesc s.dev n = (s.dev.ring n).prod) ∧
(∃ (s : State) (n : Nat), headReady s.dev n = none) ∧
(∃ (s : State) (n : Nat) (h : Taken), n < 256 ∧ ringState s.dev n = 1 ∧ headReady s.dev n = some h ∧ (toHost (s.dev.ring
      n).cls = true ∨ dOpcode h.words ≤ 1 ∨ (s.dev.ring n).cls = clsCmpj ∧ cSrcHmp h.words = true)) ∧
(∃ (s : State) (n : Nat) (h : Taken), n < 256 ∧ ringState s.dev n = 1 ∧ headReady s.dev n = some h ∧ toHost (s.dev.ring
      n).cls = false ∧ 1 < dOpcode h.words ∧ (s.dev.ring n).cls ≠ clsCmpj) ∧
(∃ (s : State) (n : Nat) (h : Taken), n < 256 ∧ ringState s.dev n = 1 ∧ headReady s.dev n = some h ∧ (s.dev.ring n).cls =
      clsCmpj ∧ 1 < dOpcode h.words ∧ cSrcHmp h.words = false) :=
  ⟨⟨tSt, 40, by decide +kernel⟩,
   ⟨tSt, 40, by decide +kernel⟩,
   ⟨tWith [putN Reg.HIF_RINGn_STAT.STATE 40 1, dev fun d => d.setRing 40
     { d.ring 40 with cls := clsCmd, log2 := 4, taken := [(⟨3, [458768,0,16384,0,5,0,0,0,0,0,0,0,0,0,0,0], false⟩ : Taken)] }],
     40, { idx := 3, words := [458768, 0, 16384, 0, 5, 0, 0, 0, 0, 0, 0, 0, 0, 0, 0, 0], released := false },
     by decide +kernel⟩,
   ⟨tWith [putN Reg.HIF_RINGn_STAT.STATE 40 1, dev fun d => d.setRing 40
     { d.ring 40 with cls := clsCmd, log2 := 4, taken := [(⟨3, [458768,0,16384,0,0,0,256,0,0,0,0,0,0,0,0,0], false⟩ : Taken)] }],
     40, { idx := 3, words := [458768, 0, 16384, 0, 0, 0, 256, 0, 0, 0, 0, 0, 0, 0, 0, 0], released := false },
     by decide +kernel⟩,
   ⟨tWith [putN Reg.HIF_RINGn_STAT.STATE 40 1, dev fun d => d.setRing 40
     { d.ring 40 with cls := clsCmd, log2 := 4, taken := [(⟨3, [458768,0,16384,0,4,0,256,0,0,0,0,0,0,0,0,0], false⟩ : Taken)] }],
     40, { idx := 3, words := [458768, 0, 16384, 0, 4, 0, 256, 0, 0, 0, 0, 0, 0, 0, 0, 0], released := false },
     by decide +kernel⟩,
   ⟨tWith [putN Reg.HIF_RINGn_STAT.STATE 40 1, dev fun d => d.setRing 40
     { d.ring 40 with cls := clsCmd, log2 := 4, taken := [(⟨3, [458769,0,16384,0,5,0,0,0,0,0,0,0,0,0,0,0], false⟩ : Taken)] }],
     40, { idx := 3, words := [458769, 0, 16384, 0, 5, 0, 0, 0, 0, 0, 0, 0, 0, 0, 0, 0], released := false },
     by decide +kernel⟩,
   ⟨tWith [putN Reg.HIF_RINGn_STAT.STATE 40 1, dev fun d => d.setRing 40
     { d.ring 40 with cls := clsCmd, log2 := 4, taken := [(⟨3, [458769,0,16384,0,0,0,256,0,0,0,0,0,0,0,0,0], false⟩ : Taken)] }],
     40, { idx := 3, words := [458769, 0, 16384, 0, 0, 0, 256, 0, 0, 0, 0, 0, 0, 0, 0, 0], released := false },
     by decide +kernel⟩,
   ⟨tWith [putN Reg.HIF_RINGn_STAT.STATE 40 1, dev fun d => d.setRing 40
     { d.ring 40 with cls := clsCmd, log2 := 4, taken := [(⟨3, [458769,0,16384,0,4,0,256,0,0,0,0,0,0,0,0,0], false⟩ : Taken)] }],
     40, { idx := 3, words := [458769, 0, 16384, 0, 4, 0, 256, 0, 0, 0, 0, 0, 0, 0, 0, 0], released := false },
     by decide +kernel⟩,
   ⟨tWith [putN Reg.HIF_RINGn_STAT.STATE 40 1, dev fun d => d.setRing 40
     { d.ring 40 with cls := clsCmd, log2 := 4, taken := [(⟨3, [458769,0,16384,0,4,0,256,0,0,0,0,0,0,0,0,0], false⟩ : Taken)] }],
     40, { idx := 3, words := [458769, 0, 16384, 0, 4, 0, 256, 0, 0, 0, 0, 0, 0, 0, 0, 0], released := false },
     by decide +kernel⟩,
   ⟨tSt, 40, by decide +kernel⟩,
   ⟨tWith [putN Reg.HIF_RINGn_STAT.STATE 40 1, dev fun d => d.setRing 40
     { d.ring 40 with cls := clsTxh, log2 := 4, taken := [(⟨3, [458768,0,16384,0,100,0,20,0,0,0,0,0,0,0,0,0], false⟩ : Taken)] }],
     40, 20, { idx := 3, words := [458768, 0, 16384, 0, 100, 0, 20, 0, 0, 0, 0, 0, 0, 0, 0, 0], released := false },
     by decide +kernel⟩,
   ⟨tWith [putN Reg.HIF_RINGn_STAT.STATE 40 1, dev fun d => d.setRing 40
     { d.ring 40 with cls := clsTxh, log2 := 4, taken := [(⟨3, [458768,0,16384,0,100,0,3,0,0,0,0,0,0,0,0,0], false⟩ : Taken)] }],
     40, 3, { idx := 3, words := [458768, 0, 16384, 0, 100, 0, 3, 0, 0, 0, 0, 0, 0, 0, 0, 0], released := false },
     by decide +kernel⟩,
   ⟨tWith [putN Reg.HIF_RINGn_STAT.STATE 40 1, dev fun d => d.setRing 40
     { d.ring 40 with cls := clsTxh, log2 := 4, taken := [(⟨3, [458768,0,16384,0,0,0,20,0,0,0,0,0,0,0,0,0], false⟩ : Taken)] }],
     40, 20, { idx := 3, words := [458768, 0, 16384, 0, 0, 0, 20, 0, 0, 0, 0, 0, 0, 0, 0, 0], released := false },
     by decide +kernel⟩,
   ⟨tWith [putN Reg.HIF_RINGn_STAT.STATE 40 1, dev fun d => d.setRing 40
     { d.ring 40 with cls := clsTxh, log2 := 4, taken := [(⟨3, [458768,0,16384,0,100,0,20,0,0,0,0,0,0,0,0,0], false⟩ : Taken)] },
     dev fun d => { d with isl := tset d.isl islIng ⟨.reset, false, false⟩ }], 40, 20,
     { idx := 3, words := [458768, 0, 16384, 0, 100, 0, 20, 0, 0, 0, 0, 0, 0, 0, 0, 0], released := false },
     by decide +kernel⟩,
   ⟨tWith [putN Reg.HIF_RINGn_STAT.STATE 40 1, dev fun d => d.setRing 40
     { d.ring 40 with cls := clsTxh, log2 := 4, taken := [(⟨3, [458768,0,16384,0,0,0,3,0,0,0,0,0,0,0,0,0], false⟩ : Taken)] }],
     40, 3, 0, { idx := 3, words := [458768, 0, 16384, 0, 0, 0, 3, 0, 0, 0, 0, 0, 0, 0, 0, 0], released := false },
     by decide +kernel⟩,
   ⟨tWith [putN Reg.HIF_RINGn_STAT.STATE 40 1, dev fun d => d.setRing 40
     { d.ring 40 with cls := clsTxh, log2 := 4, taken := [(⟨3, [458768,0,16384,0,100,0,3,0,0,0,0,0,0,0,0,0], false⟩ : Taken)] },
     putN Reg.FP_PAIR.MODE 1 1, putN Reg.FP_PAIR.MODE 2 1, putN Reg.FP_PAIR.MODE 3 1], 40, 3, 1,
     { idx := 3, words := [458768, 0, 16384, 0, 100, 0, 3, 0, 0, 0, 0, 0, 0, 0, 0, 0], released := false },
     by decide +kernel⟩,
   ⟨tWith [putN Reg.HIF_RINGn_STAT.STATE 40 1, dev fun d => d.setRing 40
     { d.ring 40 with cls := clsTxh, log2 := 4, taken := [(⟨3, [458768,0,16384,0,9000,0,3,0,0,0,0,0,0,0,0,0], false⟩ : Taken)] }],
     40, 3, 0, (⟨3, [458768,0,16384,0,9000,0,3,0,0,0,0,0,0,0,0,0], false⟩ : Taken), by decide +kernel⟩,
   ⟨tWith [putN Reg.HIF_RINGn_STAT.STATE 40 1, dev fun d => d.setRing 40
     { d.ring 40 with cls := clsTxh, log2 := 4, taken := [(⟨3, [458768,0,16384,0,100,0,3,0,0,0,0,0,0,0,0,0], false⟩ : Taken)] },
     putN Reg.FP_FRAME.MAX_LEN 3 ((dLen (⟨3, [458768,0,16384,0,100,0,3,0,0,0,0,0,0,0,0,0], false⟩ : Taken).words + 4 + if 0
     = 0 then 0 else 6)), dev fun d => { d with isl := tset d.isl (islPrt 3) ⟨.reset, false, false⟩ }], 40, 3, 0, (⟨3,
     [458768,0,16384,0,100,0,3,0,0,0,0,0,0,0,0,0], false⟩ : Taken), by decide +kernel⟩,
   ⟨tWith [putN Reg.HIF_RINGn_STAT.STATE 40 1, dev fun d => d.setRing 40
     { d.ring 40 with cls := clsTxh, log2 := 4, taken := [(⟨3, [458768,0,16384,0,100,0,3,0,0,0,0,0,0,0,0,0], false⟩ : Taken)] }],
     40, 3, 0, (⟨3, [458768,0,16384,0,100,0,3,0,0,0,0,0,0,0,0,0], false⟩ : Taken), by decide +kernel⟩,
   ⟨tWith [putN Reg.HIF_RINGn_STAT.STATE 40 1, dev fun d => d.setRing 40
     { d.ring 40 with cls := clsTxh, log2 := 4, taken := [(⟨3, [458768,0,16384,0,100,0,3,0,0,0,0,0,0,0,0,0], false⟩ : Taken)] }],
     40, (⟨3, [458768,0,16384,0,100,0,3,0,0,0,0,0,0,0,0,0], false⟩ : Taken), by decide +kernel⟩,
   ⟨tWith [putN Reg.HIF_RINGn_STAT.STATE 40 1, dev fun d => d.setRing 40
     { d.ring 40 with cls := clsTxh, log2 := 4, taken := [(⟨3, [458768,0,16384,0,100,0,20,0,0,0,0,0,0,0,0,0], false⟩ : Taken)] }],
     40, { idx := 3, words := [458768, 0, 16384, 0, 100, 0, 20, 0, 0, 0, 0, 0, 0, 0, 0, 0], released := false },
     by decide +kernel⟩,
   ⟨tWith [dev fun d => d.setRing 40 { d.ring 40 with prod := 4 }, putN Reg.HIF_RINGn_STAT.STATE 40 1], 40, by decide +kernel⟩,
   ⟨tSt, 40, by decide +kernel⟩,
   ⟨tSt, 40, by decide +kernel⟩,
   ⟨tSt, 40, by decide +kernel⟩,
   ⟨tWith [putN Reg.HIF_RINGn_STAT.STATE 40 1, dev fun d => d.setRing 40
     { d.ring 40 with cls := clsCmd, log2 := 4, taken := [(⟨3, [458768,0,16384,0,4,0,256,0,0,0,0,0,0,0,0,0], false⟩ : Taken)] },
     putN Reg.HIF_RINGn_STAT.STATE 40 1, dev fun d => d.setRing 40 { d.ring 40 with cls := clsCmpj }], 40,
     { idx := 3, words := [458768, 0, 16384, 0, 4, 0, 256, 0, 0, 0, 0, 0, 0, 0, 0, 0], released := false },
     by decide +kernel⟩,
   ⟨tWith [putN Reg.HIF_RINGn_STAT.STATE 40 1, dev fun d => d.setRing 40
     { d.ring 40 with cls := clsCmd, log2 := 4, taken := [(⟨3, [458768,0,16384,0,4,0,256,0,0,0,0,0,0,0,0,0], false⟩ : Taken)] }],
     40, { idx := 3, words := [458768, 0, 16384, 0, 4, 0, 256, 0, 0, 0, 0, 0, 0, 0, 0, 0], released := false },
     by decide +kernel⟩,
   ⟨tWith [putN Reg.HIF_RINGn_STAT.STATE 40 1, dev fun d => d.setRing 40
     { d.ring 40 with cls := clsCmd, log2 := 4, taken := [(⟨3, [458768,0,16384,0,5,0,0,0,0,0,0,0,0,0,0,0], false⟩ : Taken)] },
     putN Reg.HIF_RINGn_STAT.STATE 40 1, dev fun d => d.setRing 40 { d.ring 40 with cls := clsCmpj }], 40,
     { idx := 3, words := [458768, 0, 16384, 0, 5, 0, 0, 0, 0, 0, 0, 0, 0, 0, 0, 0], released := false }, by decide +kernel⟩⟩

/-- The hypotheses of HostPresence, clause by clause, at states and operands that meet them. -/
theorem witness_HostPresence :
(∃ (s : State) (v : Nat), v ∈ s.dev.hif.msgReq ∧ msiOpen s.dev v = true) ∧
(∃ (s : State) (v : Nat), v < 64 ∧ v ∈ s.dev.hif.msgReq ∧ msiOpen s.dev v = false) ∧
(∃ (s : State) (v : Nat), v ∉ s.dev.hif.msgReq) ∧
(∃ (s : State) (n : Nat) (a : Nat), (s.dev.ring n).modSince = some a ∧ (s.dev.ring n).irqEn = true ∧ (s.dev.ring n).modTime
      ≠ 0 ∧ a + (s.dev.ring n).modTime * 1000 ≤ s.time.loc) ∧
(∃ (s : State) (n : Nat), (s.dev.ring n).modSince = none ∨ (s.dev.ring n).irqEn = false ∨ (s.dev.ring n).modTime = 0 ∨ ∃ a,
      (s.dev.ring n).modSince = some a ∧ s.time.loc < a + (s.dev.ring n).modTime * 1000) ∧
(∃ (d : Dev), d.hif.msixEn = false ∨ d.hif.funcMask = true ∨ hifQuiet d = true) ∧
(∃ (d : Dev) (v : Nat), v < 64 ∧ pbaBit d v = true ∧ msiOpen d v = true) ∧
(∃ (d : Dev) (v : Nat), v < 64 ∧ msiOpen d v = false) ∧
(∃ (s : State), s.dev.up islHst = true ∧ s.dev.get Reg.HIF_HB_CFG.TMO ≠ 0 ∧ s.dev.on Reg.HIF_STATUS.STALL = false ∧
      s.dev.hif.lastHb + s.dev.get Reg.HIF_HB_CFG.TMO * 1000000 ≤ s.time.loc) ∧
(∃ (s : State), s.dev.up islHst = false ∨ s.dev.get Reg.HIF_HB_CFG.TMO = 0 ∨ s.dev.on Reg.HIF_STATUS.STALL = true ∨
      s.time.loc < s.dev.hif.lastHb + s.dev.get Reg.HIF_HB_CFG.TMO * 1000000) ∧
(∃ (s : State), s.dev.up islHst = true) ∧
(∃ (s : State), s.dev.on Reg.HIF_STATUS.LINK = true) ∧
(∃ (s : State), s.dev.on Reg.HIF_STATUS.LINK = false) :=
  ⟨⟨tWith [dev fun d => { d with hif := { d.hif with msgReq := [5] } }, dev fun d =>
     { d with hif := { d.hif with msixEn := true } }, putN Reg.T_MSIX.MASK 5 0], 5, by decide +kernel⟩,
   ⟨tWith [dev fun d => { d with hif := { d.hif with msgReq := [5] } }], 5, by decide +kernel⟩,
   ⟨tSt, 5, by decide +kernel⟩,
   ⟨tWith [putN Reg.HIF_RINGn_STAT.STATE 40 1, dev fun d => d.setRing 40
     { d.ring 40 with cls := clsTxh, log2 := 4, irqEn := true, modTime := 5, modSince := some 7 }], 40, 7,
     by decide +kernel⟩,
   ⟨tSt, 40, by decide +kernel⟩,
   ⟨tSt.dev, by decide +kernel⟩,
   ⟨(tWith [dev fun d => { d with hif := { d.hif with msixEn := true } }, putN Reg.T_MSIX.MASK 5 0, putN Reg.T_MSIXPBA.P 0
     32]).dev, 5, by decide +kernel⟩,
   ⟨tSt.dev, 5, by decide +kernel⟩,
   ⟨tWith [put Reg.HIF_HB_CFG.TMO ((0 + 1)), put Reg.HIF_STATUS.STALL 0], by decide +kernel⟩,
   ⟨tSt, by decide +kernel⟩,
   ⟨tSt, by decide +kernel⟩,
   ⟨tWith [put Reg.HIF_STATUS.LINK 1], by decide +kernel⟩,
   ⟨tSt, by decide +kernel⟩⟩

/-- The hypotheses of DispatchOperations, clause by clause, at states and operands that meet them. -/
theorem witness_DispatchOperations :
(∃ (s : State) (n : Nat), startable s.dev n clsDspt 16 = none) ∧
(∃ (s : State) (n : Nat), startable s.dev n clsDspt 17 = none) ∧
(∃ (s : State) (n : Nat), startable s.dev n clsDspt 18 = none) ∧
(∃ (s : State) (n : Nat), startable s.dev n clsDspt 19 = none) ∧
(∃ (s : State) (n : Nat), startable s.dev n clsDspt 20 = none) ∧
(∃ (s : State) (n : Nat), startable s.dev n clsDspt 21 = none) ∧
(∃ (s : State) (n : Nat) (h : Taken), s.dev.up islMgt = false ∧ startable s.dev n clsDspt 16 = some h) ∧
(∃ (s : State) (n : Nat) (h : Taken), s.dev.up islMgt = false ∧ startable s.dev n clsDspt 17 = some h) ∧
(∃ (s : State) (n : Nat) (h : Taken), s.dev.up islMgt = false ∧ startable s.dev n clsDspt 18 = some h) ∧
(∃ (s : State) (n : Nat) (h : Taken), s.dev.up islMgt = false ∧ startable s.dev n clsDspt 19 = some h) ∧
(∃ (s : State) (n : Nat) (h : Taken), s.dev.up islMgt = false ∧ startable s.dev n clsDspt 20 = some h) ∧
(∃ (s : State) (n : Nat) (h : Taken), s.dev.up islMgt = false ∧ startable s.dev n clsDspt 21 = some h) ∧
(∃ (s : State) (n : Nat) (h : Taken), s.dev.up islMgt = true ∧ dspOn s.dev = false ∧ startable s.dev n clsDspt 16 = some h) ∧
(∃ (s : State) (n : Nat) (h : Taken), s.dev.up islMgt = true ∧ dspOn s.dev = false ∧ startable s.dev n clsDspt 17 = some h) ∧
(∃ (s : State) (n : Nat) (h : Taken), s.dev.up islMgt = true ∧ dspOn s.dev = false ∧ startable s.dev n clsDspt 18 = some h) ∧
(∃ (s : State) (n : Nat) (h : Taken), s.dev.up islMgt = true ∧ dspOn s.dev = false ∧ startable s.dev n clsDspt 19 = some h) ∧
(∃ (s : State) (n : Nat) (h : Taken), s.dev.up islMgt = true ∧ dspOn s.dev = false ∧ startable s.dev n clsDspt 20 = some h) ∧
(∃ (s : State) (n : Nat) (h : Taken), s.dev.up islMgt = true ∧ dspOn s.dev = false ∧ startable s.dev n clsDspt 21 = some h) ∧
(∃ (s : State) (n : Nat) (th : Nat) (h : Taken), dspOn s.dev = true ∧ startable s.dev n clsDspt 16 = some h ∧ th = dpThread
      h.words ∧ thState s.dev th = 1) ∧
(∃ (s : State) (n : Nat) (th : Nat) (h : Taken) (w : ThWait), dspOn s.dev = true ∧ startable s.dev n clsDspt 16 = some h ∧
      th = dpThread h.words ∧ (thState s.dev th = 4 ∨ thState s.dev th = 5) ∧ tget s.dev.dsp.waits th = some w) ∧
(∃ (s : State) (n : Nat) (th : Nat) (h : Taken), dspOn s.dev = true ∧ startable s.dev n clsDspt 16 = some h ∧ th = dpThread
      h.words ∧ thState s.dev th ∉ [1, 4, 5]) ∧
(∃ (s : State) (n : Nat) (th : Nat) (h : Taken), dspOn s.dev = true ∧ startable s.dev n clsDspt 19 = some h ∧ th = dpThread
      h.words ∧ thState s.dev th = 0) ∧
(∃ (s : State) (n : Nat) (th : Nat) (h : Taken), dspOn s.dev = true ∧ startable s.dev n clsDspt 19 = some h ∧ th = dpThread
      h.words ∧ thState s.dev th ∉ [0, 4, 5]) ∧
(∃ (s : State) (n : Nat) (th : Nat) (h : Taken) (w : ThWait), dspOn s.dev = true ∧ startable s.dev n clsDspt 19 = some h ∧
      th = dpThread h.words ∧ (thState s.dev th = 4 ∨ thState s.dev th = 5) ∧ tget s.dev.dsp.waits th = some w) ∧
(∃ (s : State) (n : Nat) (th : Nat) (h : Taken), dspOn s.dev = true ∧ startable s.dev n clsDspt 20 = some h ∧ th = dpThread
      h.words ∧ thState s.dev th = 0) ∧
(∃ (s : State) (n : Nat) (th : Nat) (h : Taken), dspOn s.dev = true ∧ startable s.dev n clsDspt 20 = some h ∧ th = dpThread
      h.words ∧ thState s.dev th ≠ 0) ∧
(∃ (s : State) (th : Nat) (v : Word32), th < 2048 ∧ s.dev.up islMgt = true ∧ bitOf v 0 = true ∧ s.dev.onN Reg.T_THREAD.VALID
      th = true) ∧
(∃ (s : State) (th : Nat) (v : Word32), th < 2048 ∧ s.dev.up islMgt = true ∧ bitOf v 0 = true ∧ s.dev.onN Reg.T_THREAD.VALID
      th = false ∧ (18 ≤ bits (BitVec.toNat v) 1 5 ∨ 512 ≤ th ∧ s.dev.get Reg.DSP_SPILL_CFG.LOG2 = 0)) ∧
(∃ (s : State) (th : Nat) (v : Word32), th < 2048 ∧ s.dev.up islMgt = true ∧ bitOf v 0 = false ∧ s.dev.onN
      Reg.T_THREAD.VALID th = false) ∧
(∃ (s : State) (th : Nat) (v : Word32), th < 2048 ∧ s.dev.up islMgt = true ∧ bitOf v 0 = true ∧ s.dev.onN Reg.T_THREAD.VALID
      th = false ∧ bits (BitVec.toNat v) 1 5 < 18 ∧ (th < 512 ∨ s.dev.get Reg.DSP_SPILL_CFG.LOG2 ≠ 0)) ∧
(∃ (s : State) (th : Nat) (v : Word32), th < 2048 ∧ s.dev.up islMgt = true ∧ bitOf v 0 = false ∧ s.dev.onN
      Reg.T_THREAD.VALID th = true ∧ thState s.dev th = 1) ∧
(∃ (s : State) (th : Nat) (v : Word32), th < 2048 ∧ s.dev.up islMgt = true ∧ bitOf v 0 = false ∧ s.dev.onN
      Reg.T_THREAD.VALID th = true ∧ thState s.dev th ≠ 1) ∧
(∃ (th : Nat), 2048 ≤ th) ∧
(∃ (s : State) (p : Path) (c : Nat) (th : Nat) (cur : Nat), mayTake p c s.dev = true ∧ s.dev.onN Reg.DSP_CPUc_NEXT.VALID c =
      true ∧ s.dev.onN Reg.DSP_CPUc_CUR.VALID c = true ∧ th = s.dev.getN Reg.DSP_CPUc_NEXT.THREAD c ∧ cur = s.dev.getN
      Reg.DSP_CPUc_CUR.THREAD c ∧ th ≠ cur) ∧
(∃ (s : State) (p : Path) (c : Nat), mayTake p c s.dev = false) ∧
(∃ (s : State) (p : Path) (c : Nat), mayTake p c s.dev = true ∧ s.dev.onN Reg.DSP_CPUc_NEXT.VALID c = false) ∧
(∃ (s : State) (p : Path) (c : Nat), mayTake p c s.dev = true ∧ s.dev.onN Reg.DSP_CPUc_NEXT.VALID c = true ∧ s.dev.onN
      Reg.DSP_CPUc_CUR.VALID c = false) ∧
(∃ (s : State), s.dev.up islMgt = false ∨ (1792 ≤ (List.filter (fun e ↦ !e.spilled) s.dev.dsp.timed).length ∨
      earliestSpilled s.time s.dev = none) ∧ (448 ≤ (readyThreads s.dev).length - s.dev.dsp.spilledReady.length ∨
      s.dev.dsp.spilledReady = [])) ∧
(∃ (s : State) (e : TimedEnt), s.dev.up islMgt = true ∧ (List.filter (fun e ↦ !e.spilled) s.dev.dsp.timed).length < 1792 ∧
      earliestSpilled s.time s.dev = some e) ∧
(∃ (s : State) (e : TimedEnt) (th : Nat) (w : ThWait), s.dev.up islMgt = true ∧ (List.filter (fun e ↦ !e.spilled)
      s.dev.dsp.timed).length < 1792 ∧ earliestSpilled s.time s.dev = some e ∧ e.own = TimedOwner.thread th ∧ tget
      s.dev.dsp.waits th = some w) ∧
(∃ (s : State) (th : Nat), s.dev.up islMgt = true ∧ (1792 ≤ (List.filter (fun e ↦ !e.spilled) s.dev.dsp.timed).length ∨
      earliestSpilled s.time s.dev = none) ∧ (readyThreads s.dev).length - s.dev.dsp.spilledReady.length < 448 ∧
      highestSpilled s.dev = some th) ∧
(∃ (s : State) (th : Nat) (u : Nat), s.dev.up islMgt = true ∧ (1792 ≤ (List.filter (fun e ↦ !e.spilled)
      s.dev.dsp.timed).length ∨ earliestSpilled s.time s.dev = none) ∧ (readyThreads s.dev).length -
      s.dev.dsp.spilledReady.length < 448 ∧ highestSpilled s.dev = some th ∧ u ∈ s.dev.dsp.spilledReady) ∧
(∃ (s : State) (th : Nat), th < 2048 ∧ s.dev.up islMgt = true ∧ s.dev.dsp.spilledReady = [th] ∧ (∀ (e : TimedEnt), e ∈
      s.dev.dsp.timed → e.spilled = false) ∧ (readyThreads s.dev).length < 449) :=
  ⟨⟨tSt, 40, by decide +kernel⟩,
   ⟨tSt, 40, by decide +kernel⟩,
   ⟨tSt, 40, by decide +kernel⟩,
   ⟨tSt, 40, by decide +kernel⟩,
   ⟨tSt, 40, by decide +kernel⟩,
   ⟨tSt, 40, by decide +kernel⟩,
   ⟨tWith [putN Reg.HIF_RINGn_STAT.STATE 40 1, dev fun d => d.setRing 40
     { d.ring 40 with cls := clsDspt, log2 := 4, taken := [(⟨3, [458768,0,16384,0,0,0,5,(10^11 % 2^32 + 10^7),(10^11 / 2^32),0,0,0,0,0,0,0], false⟩ : Taken)] },
     dev fun d => { d with isl := tset d.isl islMgt ⟨.reset, false, false⟩ }], 40,
     { idx := 3, words := [458768, 0, 16384, 0, 0, 0, 5, 1225752192, 23, 0, 0, 0, 0, 0, 0, 0], released := false },
     by decide +kernel⟩,
   ⟨tWith [putN Reg.HIF_RINGn_STAT.STATE 40 1, dev fun d => d.setRing 40
     { d.ring 40 with cls := clsDspt, log2 := 4, taken := [(⟨3, [458769,0,16384,0,0,0,5,(10^11 % 2^32 + 10^7),(10^11 / 2^32),0,0,0,0,0,0,0], false⟩ : Taken)] },
     dev fun d => { d with isl := tset d.isl islMgt ⟨.reset, false, false⟩ }], 40,
     { idx := 3, words := [458769, 0, 16384, 0, 0, 0, 5, 1225752192, 23, 0, 0, 0, 0, 0, 0, 0], released := false },
     by decide +kernel⟩,
   ⟨tWith [putN Reg.HIF_RINGn_STAT.STATE 40 1, dev fun d => d.setRing 40
     { d.ring 40 with cls := clsDspt, log2 := 4, taken := [(⟨3, [458770,0,16384,0,0,0,5,(10^11 % 2^32 + 10^7),(10^11 / 2^32),0,0,0,0,0,0,0], false⟩ : Taken)] },
     dev fun d => { d with isl := tset d.isl islMgt ⟨.reset, false, false⟩ }], 40,
     { idx := 3, words := [458770, 0, 16384, 0, 0, 0, 5, 1225752192, 23, 0, 0, 0, 0, 0, 0, 0], released := false },
     by decide +kernel⟩,
   ⟨tWith [putN Reg.HIF_RINGn_STAT.STATE 40 1, dev fun d => d.setRing 40
     { d.ring 40 with cls := clsDspt, log2 := 4, taken := [(⟨3, [458771,0,16384,0,0,0,5,(10^11 % 2^32 + 10^7),(10^11 / 2^32),0,0,0,0,0,0,0], false⟩ : Taken)] },
     dev fun d => { d with isl := tset d.isl islMgt ⟨.reset, false, false⟩ }], 40,
     { idx := 3, words := [458771, 0, 16384, 0, 0, 0, 5, 1225752192, 23, 0, 0, 0, 0, 0, 0, 0], released := false },
     by decide +kernel⟩,
   ⟨tWith [putN Reg.HIF_RINGn_STAT.STATE 40 1, dev fun d => d.setRing 40
     { d.ring 40 with cls := clsDspt, log2 := 4, taken := [(⟨3, [458772,0,16384,0,0,0,5,(10^11 % 2^32 + 10^7),(10^11 / 2^32),0,0,0,0,0,0,0], false⟩ : Taken)] },
     dev fun d => { d with isl := tset d.isl islMgt ⟨.reset, false, false⟩ }], 40,
     { idx := 3, words := [458772, 0, 16384, 0, 0, 0, 5, 1225752192, 23, 0, 0, 0, 0, 0, 0, 0], released := false },
     by decide +kernel⟩,
   ⟨tWith [putN Reg.HIF_RINGn_STAT.STATE 40 1, dev fun d => d.setRing 40
     { d.ring 40 with cls := clsDspt, log2 := 4, taken := [(⟨3, [458773,0,16384,0,0,0,5,(10^11 % 2^32 + 10^7),(10^11 / 2^32),0,0,0,0,0,0,0], false⟩ : Taken)] },
     dev fun d => { d with isl := tset d.isl islMgt ⟨.reset, false, false⟩ }], 40,
     { idx := 3, words := [458773, 0, 16384, 0, 0, 0, 5, 1225752192, 23, 0, 0, 0, 0, 0, 0, 0], released := false },
     by decide +kernel⟩,
   ⟨tWith [putN Reg.HIF_RINGn_STAT.STATE 40 1, dev fun d => d.setRing 40
     { d.ring 40 with cls := clsDspt, log2 := 4, taken := [(⟨3, [458768,0,16384,0,0,0,5,(10^11 % 2^32 + 10^7),(10^11 / 2^32),0,0,0,0,0,0,0], false⟩ : Taken)] }],
     40, { idx := 3, words := [458768, 0, 16384, 0, 0, 0, 5, 1225752192, 23, 0, 0, 0, 0, 0, 0, 0], released := false },
     by decide +kernel⟩,
   ⟨tWith [putN Reg.HIF_RINGn_STAT.STATE 40 1, dev fun d => d.setRing 40
     { d.ring 40 with cls := clsDspt, log2 := 4, taken := [(⟨3, [458769,0,16384,0,0,0,5,(10^11 % 2^32 + 10^7),(10^11 / 2^32),0,0,0,0,0,0,0], false⟩ : Taken)] }],
     40, { idx := 3, words := [458769, 0, 16384, 0, 0, 0, 5, 1225752192, 23, 0, 0, 0, 0, 0, 0, 0], released := false },
     by decide +kernel⟩,
   ⟨tWith [putN Reg.HIF_RINGn_STAT.STATE 40 1, dev fun d => d.setRing 40
     { d.ring 40 with cls := clsDspt, log2 := 4, taken := [(⟨3, [458770,0,16384,0,0,0,5,(10^11 % 2^32 + 10^7),(10^11 / 2^32),0,0,0,0,0,0,0], false⟩ : Taken)] }],
     40, { idx := 3, words := [458770, 0, 16384, 0, 0, 0, 5, 1225752192, 23, 0, 0, 0, 0, 0, 0, 0], released := false },
     by decide +kernel⟩,
   ⟨tWith [putN Reg.HIF_RINGn_STAT.STATE 40 1, dev fun d => d.setRing 40
     { d.ring 40 with cls := clsDspt, log2 := 4, taken := [(⟨3, [458771,0,16384,0,0,0,5,(10^11 % 2^32 + 10^7),(10^11 / 2^32),0,0,0,0,0,0,0], false⟩ : Taken)] }],
     40, { idx := 3, words := [458771, 0, 16384, 0, 0, 0, 5, 1225752192, 23, 0, 0, 0, 0, 0, 0, 0], released := false },
     by decide +kernel⟩,
   ⟨tWith [putN Reg.HIF_RINGn_STAT.STATE 40 1, dev fun d => d.setRing 40
     { d.ring 40 with cls := clsDspt, log2 := 4, taken := [(⟨3, [458772,0,16384,0,0,0,5,(10^11 % 2^32 + 10^7),(10^11 / 2^32),0,0,0,0,0,0,0], false⟩ : Taken)] }],
     40, { idx := 3, words := [458772, 0, 16384, 0, 0, 0, 5, 1225752192, 23, 0, 0, 0, 0, 0, 0, 0], released := false },
     by decide +kernel⟩,
   ⟨tWith [putN Reg.HIF_RINGn_STAT.STATE 40 1, dev fun d => d.setRing 40
     { d.ring 40 with cls := clsDspt, log2 := 4, taken := [(⟨3, [458773,0,16384,0,0,0,5,(10^11 % 2^32 + 10^7),(10^11 / 2^32),0,0,0,0,0,0,0], false⟩ : Taken)] }],
     40, { idx := 3, words := [458773, 0, 16384, 0, 0, 0, 5, 1225752192, 23, 0, 0, 0, 0, 0, 0, 0], released := false },
     by decide +kernel⟩,
   ⟨tWith [putN Reg.HIF_RINGn_STAT.STATE 40 1, dev fun d => d.setRing 40
     { d.ring 40 with cls := clsDspt, log2 := 4, taken := [(⟨3, [458768,0,16384,0,0,0,5,(10^11 % 2^32 + 10^7),(10^11 / 2^32),0,0,0,0,0,0,0], false⟩ : Taken)] },
     put Reg.DSP_CTRL.EN 1, put Reg.GLB_SPLIT.DSPT 1, putN Reg.T_THSTAT.STATE 5 1], 40, 5,
     { idx := 3, words := [458768, 0, 16384, 0, 0, 0, 5, 1225752192, 23, 0, 0, 0, 0, 0, 0, 0], released := false },
     by decide +kernel⟩,
   ⟨tWith [putN Reg.HIF_RINGn_STAT.STATE 40 1, dev fun d => d.setRing 40
     { d.ring 40 with cls := clsDspt, log2 := 4, taken := [(⟨3, [458768,0,16384,0,0,0,5,(10^11 % 2^32 + 10^7),(10^11 / 2^32),0,0,0,0,0,0,0], false⟩ : Taken)] },
     dev fun d => d.modDsp fun k => { k with waits := tset k.waits 5 (some (⟨40, 3, 0, 0, 0, 0⟩ : ThWait)) }, put
     Reg.DSP_CTRL.EN 1, put Reg.GLB_SPLIT.DSPT 1, putN Reg.T_THSTAT.STATE 5 4], 40, 5,
     { idx := 3, words := [458768, 0, 16384, 0, 0, 0, 5, 1225752192, 23, 0, 0, 0, 0, 0, 0, 0], released := false },
     { ring := 40, idx := 3, kind := 0, arg := 0, epoch := 0, edge := 0 }, by decide +kernel⟩,
   ⟨tWith [putN Reg.HIF_RINGn_STAT.STATE 40 1, dev fun d => d.setRing 40
     { d.ring 40 with cls := clsDspt, log2 := 4, taken := [(⟨3, [458768,0,16384,0,0,0,5,(10^11 % 2^32 + 10^7),(10^11 / 2^32),0,0,0,0,0,0,0], false⟩ : Taken)] },
     put Reg.DSP_CTRL.EN 1, put Reg.GLB_SPLIT.DSPT 1], 40, 5,
     { idx := 3, words := [458768, 0, 16384, 0, 0, 0, 5, 1225752192, 23, 0, 0, 0, 0, 0, 0, 0], released := false },
     by decide +kernel⟩,
   ⟨tWith [putN Reg.HIF_RINGn_STAT.STATE 40 1, dev fun d => d.setRing 40
     { d.ring 40 with cls := clsDspt, log2 := 4, taken := [(⟨3, [458771,0,16384,0,0,0,5,(10^11 % 2^32 + 10^7),(10^11 / 2^32),0,0,0,0,0,0,0], false⟩ : Taken)] },
     put Reg.DSP_CTRL.EN 1, put Reg.GLB_SPLIT.DSPT 1, putN Reg.T_THSTAT.STATE 5 0], 40, 5,
     { idx := 3, words := [458771, 0, 16384, 0, 0, 0, 5, 1225752192, 23, 0, 0, 0, 0, 0, 0, 0], released := false },
     by decide +kernel⟩,
   ⟨tWith [putN Reg.HIF_RINGn_STAT.STATE 40 1, dev fun d => d.setRing 40
     { d.ring 40 with cls := clsDspt, log2 := 4, taken := [(⟨3, [458771,0,16384,0,0,0,5,(10^11 % 2^32 + 10^7),(10^11 / 2^32),0,0,0,0,0,0,0], false⟩ : Taken)] },
     putN Reg.T_THSTAT.STATE 5 1, put Reg.DSP_CTRL.EN 1, put Reg.GLB_SPLIT.DSPT 1], 40, 5,
     { idx := 3, words := [458771, 0, 16384, 0, 0, 0, 5, 1225752192, 23, 0, 0, 0, 0, 0, 0, 0], released := false },
     by decide +kernel⟩,
   ⟨tWith [putN Reg.HIF_RINGn_STAT.STATE 40 1, dev fun d => d.setRing 40
     { d.ring 40 with cls := clsDspt, log2 := 4, taken := [(⟨3, [458771,0,16384,0,0,0,5,(10^11 % 2^32 + 10^7),(10^11 / 2^32),0,0,0,0,0,0,0], false⟩ : Taken)] },
     dev fun d => d.modDsp fun k => { k with waits := tset k.waits 5 (some (⟨40, 3, 0, 0, 0, 0⟩ : ThWait)) }, put
     Reg.DSP_CTRL.EN 1, put Reg.GLB_SPLIT.DSPT 1, putN Reg.T_THSTAT.STATE 5 4], 40, 5,
     { idx := 3, words := [458771, 0, 16384, 0, 0, 0, 5, 1225752192, 23, 0, 0, 0, 0, 0, 0, 0], released := false },
     { ring := 40, idx := 3, kind := 0, arg := 0, epoch := 0, edge := 0 }, by decide +kernel⟩,
   ⟨tWith [putN Reg.HIF_RINGn_STAT.STATE 40 1, dev fun d => d.setRing 40
     { d.ring 40 with cls := clsDspt, log2 := 4, taken := [(⟨3, [458772,0,16384,0,0,0,5,(10^11 % 2^32 + 10^7),(10^11 / 2^32),0,0,0,0,0,0,0], false⟩ : Taken)] },
     put Reg.DSP_CTRL.EN 1, put Reg.GLB_SPLIT.DSPT 1, putN Reg.T_THSTAT.STATE 5 0], 40, 5,
     { idx := 3, words := [458772, 0, 16384, 0, 0, 0, 5, 1225752192, 23, 0, 0, 0, 0, 0, 0, 0], released := false },
     by decide +kernel⟩,
   ⟨tWith [putN Reg.HIF_RINGn_STAT.STATE 40 1, dev fun d => d.setRing 40
     { d.ring 40 with cls := clsDspt, log2 := 4, taken := [(⟨3, [458772,0,16384,0,0,0,5,(10^11 % 2^32 + 10^7),(10^11 / 2^32),0,0,0,0,0,0,0], false⟩ : Taken)] },
     putN Reg.T_THSTAT.STATE 5 1, put Reg.DSP_CTRL.EN 1, put Reg.GLB_SPLIT.DSPT 1], 40, 5,
     { idx := 3, words := [458772, 0, 16384, 0, 0, 0, 5, 1225752192, 23, 0, 0, 0, 0, 0, 0, 0], released := false },
     by decide +kernel⟩,
   ⟨tWith [putN Reg.T_THREAD.VALID 5 1], 5, 1, by decide +kernel⟩,
   ⟨tSt, 5, 37, by decide +kernel⟩,
   ⟨tSt, 5, 0, by decide +kernel⟩,
   ⟨tSt, 5, 1, by decide +kernel⟩,
   ⟨tWith [putN Reg.T_THREAD.VALID 5 1, putN Reg.T_THSTAT.STATE 5 1], 5, 0, by decide +kernel⟩,
   ⟨tWith [putN Reg.T_THREAD.VALID 5 1], 5, 0, by decide +kernel⟩,
   ⟨2048, by decide +kernel⟩,
   ⟨tWith [putN Reg.DSP_CPUc_NEXT.VALID 3 1, putN Reg.DSP_CPUc_CUR.VALID 3 1, putN Reg.DSP_CPUc_NEXT.THREAD 3 (5), putN
     Reg.DSP_CPUc_CUR.THREAD 3 (0)], .host, 3, 5, 0, by decide +kernel⟩,
   ⟨State.reset, .host, 3, by decide +kernel⟩,
   ⟨tSt, .host, 3, by decide +kernel⟩,
   ⟨tWith [putN Reg.DSP_CPUc_NEXT.VALID 3 1, putN Reg.DSP_CPUc_CUR.VALID 3 0], .host, 3, by decide +kernel⟩,
   ⟨tSt, by decide +kernel⟩,
   ⟨tWith [dev fun d => d.modDsp fun k =>
     { k with timed := [(⟨.thread 5, 10^11 % 2^32 + 10^6, 10^11 / 2^32, 2, true, true⟩ : TimedEnt)] }],
     { own := Sys2Proof.Machine.TimedOwner.thread 5,   target := 1216752192,   epoch := 23,   tol := 2,   spilled := true,   wasSpilled := true },
     by decide +kernel⟩,
   ⟨tWith [dev fun d => d.modDsp fun k =>
     { k with timed := [(⟨.thread 5, 10^11 % 2^32 + 10^6, 10^11 / 2^32, 2, true, true⟩ : TimedEnt)] }, dev fun d => d.modDsp
     fun k => { k with waits := tset k.waits 5 (some (⟨40, 3, 0, 0, 0, 0⟩ : ThWait)) }],
     { own := Sys2Proof.Machine.TimedOwner.thread 5,   target := 1216752192,   epoch := 23,   tol := 2,   spilled := true,   wasSpilled := true },
     5, { ring := 40, idx := 3, kind := 0, arg := 0, epoch := 0, edge := 0 }, by decide +kernel⟩,
   ⟨tWith [dev fun d => d.modDsp fun k => { k with spilledReady := [5] }], 5, by decide +kernel⟩,
   ⟨tWith [dev fun d => d.modDsp fun k => { k with spilledReady := [5] }], 5, 5, by decide +kernel⟩,
   ⟨tWith [fun s => { s with dev.dsp.spilledReady := [5] }], 5, by decide +kernel⟩⟩

/-- The hypotheses of DispatchTime, clause by clause, at states and operands that meet them. -/
theorem witness_DispatchTime :
(∃ (s : State) (n : Nat) (h : Taken), dspOn s.dev = true ∧ startable s.dev n clsDspt 17 = some h ∧ mayWait s.dev (dpThread
      h.words) = false) ∧
(∃ (s : State) (n : Nat) (h : Taken), dspOn s.dev = true ∧ startable s.dev n clsDspt 17 = some h ∧ mayWait s.dev (dpThread
      h.words) = true ∧ 0 < dspDue s.time s.dev (dpTime h.words) (dpEpoch h.words) ∧ s.dev.dsp.timed.length < 2048) ∧
(∃ (s : State) (n : Nat) (th : Nat) (h : Taken) (e : TimedEnt), dspOn s.dev = true ∧ th = dpThread h.words ∧ e =
      { own := TimedOwner.thread th, target := dpTime h.words, epoch := dpEpoch h.words, tol := dpTol h.words, spilled := false, wasSpilled := false : TimedEnt }
      ∧ mayWait s.dev th = true ∧ startable s.dev n clsDspt 17 = some h ∧ dspDue s.time s.dev e.target e.epoch ≤ 0) ∧
(∃ (s : State) (n : Nat) (th : Nat) (h : Taken) (e : TimedEnt), dspOn s.dev = true ∧ th = dpThread h.words ∧ e =
      { own := TimedOwner.thread th, target := dpTime h.words, epoch := dpEpoch h.words, tol := dpTol h.words, spilled := false, wasSpilled := false : TimedEnt }
      ∧ mayWait s.dev th = true ∧ startable s.dev n clsDspt 17 = some h ∧ 0 < dspDue s.time s.dev e.target e.epoch ∧
      holdTimed s.time e s.dev = none) ∧
(∃ (s : State) (n : Nat) (th : Nat) (h : Taken) (e : TimedEnt) (d : Dev), dspOn s.dev = true ∧ th = dpThread h.words ∧ e =
      { own := TimedOwner.thread th, target := dpTime h.words, epoch := dpEpoch h.words, tol := dpTol h.words, spilled := false, wasSpilled := false : TimedEnt }
      ∧ mayWait s.dev th = true ∧ startable s.dev n clsDspt 17 = some h ∧ 0 < dspDue s.time s.dev e.target e.epoch ∧
      holdTimed s.time e s.dev = some d) ∧
(∃ (s : State) (n : Nat) (th : Nat) (h : Taken) (e : TimedEnt) (i : Nat), dspOn s.dev = true ∧ th = dpThread h.words ∧ e =
      { own := TimedOwner.thread th, target := dpTime h.words, epoch := dpEpoch h.words, tol := dpTol h.words, spilled := false, wasSpilled := false : TimedEnt }
      ∧ mayWait s.dev th = true ∧ startable s.dev n clsDspt 18 = some h ∧ alreadyClosed s.dev h.words = some i) ∧
(∃ (s : State) (n : Nat) (th : Nat) (h : Taken) (e : TimedEnt), dspOn s.dev = true ∧ th = dpThread h.words ∧ e =
      { own := TimedOwner.thread th, target := dpTime h.words, epoch := dpEpoch h.words, tol := dpTol h.words, spilled := false, wasSpilled := false : TimedEnt }
      ∧ mayWait s.dev th = true ∧ startable s.dev n clsDspt 18 = some h ∧ alreadyClosed s.dev h.words = none ∧ dpTmo h.words
      = true) ∧
(∃ (s : State) (n : Nat) (h : Taken) (e : TimedEnt), dspOn s.dev = true ∧ startable s.dev n clsDspt 21 = some h ∧ e =
      { own := TimedOwner.timer n h.idx (bits (dpArg h.words) 0 6), target := dpTime h.words, epoch := dpEpoch h.words, tol := dpTol h.words, spilled := false, wasSpilled := false : TimedEnt }
      ∧ dspDue s.time s.dev e.target e.epoch ≤ 0) ∧
(∃ (s : State) (n : Nat) (h : Taken) (e : TimedEnt), dspOn s.dev = true ∧ startable s.dev n clsDspt 21 = some h ∧ e =
      { own := TimedOwner.timer n h.idx (bits (dpArg h.words) 0 6), target := dpTime h.words, epoch := dpEpoch h.words, tol := dpTol h.words, spilled := false, wasSpilled := false : TimedEnt }
      ∧ 0 < dspDue s.time s.dev e.target e.epoch ∧ holdTimed s.time e s.dev = none) ∧
(∃ (s : State) (n : Nat) (h : Taken) (e : TimedEnt) (d : Dev), dspOn s.dev = true ∧ startable s.dev n clsDspt 21 = some h ∧
      e =
      { own := TimedOwner.timer n h.idx (bits (dpArg h.words) 0 6), target := dpTime h.words, epoch := dpEpoch h.words, tol := dpTol h.words, spilled := false, wasSpilled := false : TimedEnt }
      ∧ 0 < dspDue s.time s.dev e.target e.epoch ∧ holdTimed s.time e s.dev = some d) ∧
(∃ (s : State) (n : Nat) (h : Taken), dspOn s.dev = true ∧ startable s.dev n clsDspt 18 = some h ∧ mayWait s.dev (dpThread
      h.words) = false) ∧
(∃ (s : State) (n : Nat) (h : Taken), dspOn s.dev = true ∧ startable s.dev n clsDspt 18 = some h ∧ mayWait s.dev (dpThread
      h.words) = true ∧ alreadyClosed s.dev h.words = none ∧ dpTmo h.words = false) ∧
(∃ (s : State) (n : Nat) (h : Taken), dspOn s.dev = true ∧ startable s.dev n clsDspt 21 = some h ∧ 0 < dspDue s.time s.dev
      (dpTime h.words) (dpEpoch h.words) ∧ s.dev.dsp.timed.length < 2048) ∧
(∃ (s : State), dspOn s.dev = false ∨ s.time.ns / (max 1 (s.dev.get Reg.DSP_TICK.US) * 1000) = s.dev.dsp.lastTick) ∧
(∃ (s : State) (k : Nat) (back : Nat), dspOn s.dev = true ∧ k = s.time.ns / (max 1 (s.dev.get Reg.DSP_TICK.US) * 1000) ∧ k ≠
      s.dev.dsp.lastTick ∧ back = s.time.ns - k * (max 1 (s.dev.get Reg.DSP_TICK.US) * 1000)) ∧
(∃ (late : Nat) (e : TimedEnt) (d : Dev) (th : Nat) (w : ThWait), e.own = TimedOwner.thread th ∧ th < 2048 ∧ tget
      d.dsp.waits th = some w ∧ e.tol * 1000 < late) ∧
(∃ (late : Nat) (e : TimedEnt) (d : Dev) (th : Nat) (w : ThWait), e.own = TimedOwner.thread th ∧ th < 2048 ∧ tget
      d.dsp.waits th = some w ∧ late ≤ e.tol * 1000) ∧
(∃ (e : TimedEnt) (d : Dev) (th : Nat) (w : ThWait), e.own = TimedOwner.thread th ∧ th < 2048 ∧ tget d.dsp.waits th = some
      w) ∧
(∃ (late : Nat) (e : TimedEnt) (ring : Nat) (idx : Nat) (tok : Nat), e.own = TimedOwner.timer ring idx tok ∧ tok < 64 ∧
      e.tol * 1000 < late) ∧
(∃ (late : Nat) (e : TimedEnt) (ring : Nat) (idx : Nat) (tok : Nat), e.own = TimedOwner.timer ring idx tok ∧ tok < 64 ∧ late
      ≤ e.tol * 1000) :=
  ⟨⟨tWith [putN Reg.HIF_RINGn_STAT.STATE 40 1, dev fun d => d.setRing 40
     { d.ring 40 with cls := clsDspt, log2 := 4, taken := [(⟨3, [458769,0,16384,0,0,0,5,(10^11 % 2^32 + 10^7),(10^11 / 2^32),0,0,0,0,0,0,0], false⟩ : Taken)] },
     put Reg.DSP_CTRL.EN 1, put Reg.GLB_SPLIT.DSPT 1], 40,
     { idx := 3, words := [458769, 0, 16384, 0, 0, 0, 5, 1225752192, 23, 0, 0, 0, 0, 0, 0, 0], released := false },
     by decide +kernel⟩,
   ⟨tWith [putN Reg.HIF_RINGn_STAT.STATE 40 1, dev fun d => d.setRing 40
     { d.ring 40 with cls := clsDspt, log2 := 4, taken := [(⟨3, [458769,0,16384,0,0,0,5,(10^11 % 2^32 + 10^7),(10^11 / 2^32),0,0,0,0,0,0,0], false⟩ : Taken)] },
     putN Reg.T_THSTAT.STATE 5 1, put Reg.DSP_CTRL.EN 1, put Reg.GLB_SPLIT.DSPT 1], 40,
     { idx := 3, words := [458769, 0, 16384, 0, 0, 0, 5, 1225752192, 23, 0, 0, 0, 0, 0, 0, 0], released := false },
     by decide +kernel⟩,
   ⟨tWith [putN Reg.T_THSTAT.STATE 5 1, putN Reg.HIF_RINGn_STAT.STATE 40 1, dev fun d => d.setRing 40
     { d.ring 40 with cls := clsDspt, log2 := 4, taken := [(⟨3, [458769,0,16384,0,0,0,5,(10^11 % 2^32 - 10^6),(10^11 / 2^32),0,0,0,0,0,0,0], false⟩ : Taken)] },
     put Reg.DSP_CTRL.EN 1, put Reg.GLB_SPLIT.DSPT 1], 40, 5,
     { idx := 3, words := [458769, 0, 16384, 0, 0, 0, 5, 1214752192, 23, 0, 0, 0, 0, 0, 0, 0], released := false },
     { own := Sys2Proof.Machine.TimedOwner.thread 5,   target := 1214752192,   epoch := 23,   tol := 0,   spilled := false,   wasSpilled := false },
     by decide +kernel⟩,
   ⟨tWith [putN Reg.HIF_RINGn_STAT.STATE 40 1, dev fun d => d.setRing 40
     { d.ring 40 with cls := clsDspt, log2 := 4, taken := [(⟨3, [458769,0,16384,0,0,0,5,(10^11 % 2^32 + 10^7),(10^11 / 2^32),0,0,0,0,0,0,0], false⟩ : Taken)] },
     putN Reg.T_THSTAT.STATE 5 1, dev fun d => d.modDsp fun k =>
     { k with timed := List.replicate 2048 (⟨.thread 5, 10^11 % 2^32 + 10^6, 10^11 / 2^32, 2, false, false⟩ : TimedEnt) },
     put Reg.DSP_CTRL.EN 1, put Reg.GLB_SPLIT.DSPT 1], 40, 5,
     { idx := 3, words := [458769, 0, 16384, 0, 0, 0, 5, 1225752192, 23, 0, 0, 0, 0, 0, 0, 0], released := false },
     { own := Sys2Proof.Machine.TimedOwner.thread 5,   target := 1225752192,   epoch := 23,   tol := 0,   spilled := false,   wasSpilled := false },
     by decide +kernel⟩,
   ⟨tWith [putN Reg.HIF_RINGn_STAT.STATE 40 1, dev fun d => d.setRing 40
     { d.ring 40 with cls := clsDspt, log2 := 4, taken := [(⟨3, [458769,0,16384,0,0,0,5,(10^11 % 2^32 + 10^7),(10^11 / 2^32),0,0,0,0,0,0,0], false⟩ : Taken)] },
     putN Reg.T_THSTAT.STATE 5 1, put Reg.DSP_CTRL.EN 1, put Reg.GLB_SPLIT.DSPT 1], 40, 5,
     { idx := 3, words := [458769, 0, 16384, 0, 0, 0, 5, 1225752192, 23, 0, 0, 0, 0, 0, 0, 0], released := false },
     { own := Sys2Proof.Machine.TimedOwner.thread 5,   target := 1225752192,   epoch := 23,   tol := 0,   spilled := false,   wasSpilled := false },
     (holdTimed (tWith [putN Reg.HIF_RINGn_STAT.STATE 40 1, dev fun d => d.setRing 40
     { d.ring 40 with cls := clsDspt, log2 := 4, taken := [(⟨3, [458769,0,16384,0,0,0,5,(10^11 % 2^32 + 10^7),(10^11 / 2^32),0,0,0,0,0,0,0], false⟩ : Taken)] },
     putN Reg.T_THSTAT.STATE 5 1, put Reg.DSP_CTRL.EN 1, put Reg.GLB_SPLIT.DSPT 1]).time
     { own := Sys2Proof.Machine.TimedOwner.thread 5,   target := 1225752192,   epoch := 23,   tol := 0,   spilled := false,   wasSpilled := false }
     (tWith [putN Reg.HIF_RINGn_STAT.STATE 40 1, dev fun d => d.setRing 40
     { d.ring 40 with cls := clsDspt, log2 := 4, taken := [(⟨3, [458769,0,16384,0,0,0,5,(10^11 % 2^32 + 10^7),(10^11 / 2^32),0,0,0,0,0,0,0], false⟩ : Taken)] },
     putN Reg.T_THSTAT.STATE 5 1, put Reg.DSP_CTRL.EN 1, put Reg.GLB_SPLIT.DSPT 1]).dev).getD default, by decide +kernel⟩,
   ⟨tWith [putN Reg.HIF_RINGn_STAT.STATE 40 1, dev fun d => d.setRing 40
     { d.ring 40 with cls := clsDspt, log2 := 4, taken := [(⟨3, [458770,0,16384,0,0,0,5,(10^11 % 2^32 + 10^7),(10^11 / 2^32),0,0,0,0,0,0,0], false⟩ : Taken)] },
     putN Reg.T_THSTAT.STATE 5 1, dev fun d => d.modAln fun k => { k with last := some 10 }, put Reg.DSP_CTRL.EN 1, put
     Reg.GLB_SPLIT.DSPT 1], 40, 5,
     { idx := 3, words := [458770, 0, 16384, 0, 0, 0, 5, 1225752192, 23, 0, 0, 0, 0, 0, 0, 0], released := false },
     { own := Sys2Proof.Machine.TimedOwner.thread 5,   target := 1225752192,   epoch := 23,   tol := 0,   spilled := false,   wasSpilled := false },
     10, by decide +kernel⟩,
   ⟨tWith [putN Reg.T_THSTAT.STATE 5 1, putN Reg.HIF_RINGn_STAT.STATE 40 1, dev fun d => d.setRing 40
     { d.ring 40 with cls := clsDspt, log2 := 4, taken := [(⟨3, [458770,0,16384,0,0,0,262149,(10^11 % 2^32 + 10^7),(10^11 / 2^32),0,0,0,0,0,0,0], false⟩ : Taken)] },
     put Reg.DSP_CTRL.EN 1, put Reg.GLB_SPLIT.DSPT 1], 40, 5,
     { idx := 3, words := [458770, 0, 16384, 0, 0, 0, 262149, 1225752192, 23, 0, 0, 0, 0, 0, 0, 0], released := false },
     { own := Sys2Proof.Machine.TimedOwner.thread 5,   target := 1225752192,   epoch := 23,   tol := 0,   spilled := false,   wasSpilled := false },
     by decide +kernel⟩,
   ⟨tWith [putN Reg.HIF_RINGn_STAT.STATE 40 1, dev fun d => d.setRing 40
     { d.ring 40 with cls := clsDspt, log2 := 4, taken := [(⟨3, [458773,0,16384,0,0,0,5,(10^11 % 2^32 - 10^6),(10^11 / 2^32),0,0,0,0,0,0,0], false⟩ : Taken)] },
     put Reg.DSP_CTRL.EN 1, put Reg.GLB_SPLIT.DSPT 1], 40,
     { idx := 3, words := [458773, 0, 16384, 0, 0, 0, 5, 1214752192, 23, 0, 0, 0, 0, 0, 0, 0], released := false },
     { own := Sys2Proof.Machine.TimedOwner.timer 40 3 0,   target := 1214752192,   epoch := 23,   tol := 0,   spilled := false,   wasSpilled := false },
     by decide +kernel⟩,
   ⟨tWith [putN Reg.HIF_RINGn_STAT.STATE 40 1, dev fun d => d.setRing 40
     { d.ring 40 with cls := clsDspt, log2 := 4, taken := [(⟨3, [458773,0,16384,0,0,0,5,(10^11 % 2^32 + 10^7),(10^11 / 2^32),0,0,0,0,0,0,0], false⟩ : Taken)] },
     dev fun d => d.modDsp fun k =>
     { k with timed := List.replicate 2048 (⟨.thread 5, 10^11 % 2^32 + 10^6, 10^11 / 2^32, 2, false, false⟩ : TimedEnt) },
     put Reg.DSP_CTRL.EN 1, put Reg.GLB_SPLIT.DSPT 1], 40,
     { idx := 3, words := [458773, 0, 16384, 0, 0, 0, 5, 1225752192, 23, 0, 0, 0, 0, 0, 0, 0], released := false },
     { own := Sys2Proof.Machine.TimedOwner.timer 40 3 0,   target := 1225752192,   epoch := 23,   tol := 0,   spilled := false,   wasSpilled := false },
     by decide +kernel⟩,
   ⟨tWith [putN Reg.HIF_RINGn_STAT.STATE 40 1, dev fun d => d.setRing 40
     { d.ring 40 with cls := clsDspt, log2 := 4, taken := [(⟨3, [458773,0,16384,0,0,0,5,(10^11 % 2^32 + 10^7),(10^11 / 2^32),0,0,0,0,0,0,0], false⟩ : Taken)] },
     put Reg.DSP_CTRL.EN 1, put Reg.GLB_SPLIT.DSPT 1], 40,
     { idx := 3, words := [458773, 0, 16384, 0, 0, 0, 5, 1225752192, 23, 0, 0, 0, 0, 0, 0, 0], released := false },
     { own := Sys2Proof.Machine.TimedOwner.timer 40 3 0,   target := 1225752192,   epoch := 23,   tol := 0,   spilled := false,   wasSpilled := false },
     (holdTimed (tWith [putN Reg.HIF_RINGn_STAT.STATE 40 1, dev fun d => d.setRing 40
     { d.ring 40 with cls := clsDspt, log2 := 4, taken := [(⟨3, [458773,0,16384,0,0,0,5,(10^11 % 2^32 + 10^7),(10^11 / 2^32),0,0,0,0,0,0,0], false⟩ : Taken)] },
     put Reg.DSP_CTRL.EN 1, put Reg.GLB_SPLIT.DSPT 1]).time
     { own := Sys2Proof.Machine.TimedOwner.timer 40 3 0,   target := 1225752192,   epoch := 23,   tol := 0,   spilled := false,   wasSpilled := false }
     (tWith [putN Reg.HIF_RINGn_STAT.STATE 40 1, dev fun d => d.setRing 40
     { d.ring 40 with cls := clsDspt, log2 := 4, taken := [(⟨3, [458773,0,16384,0,0,0,5,(10^11 % 2^32 + 10^7),(10^11 / 2^32),0,0,0,0,0,0,0], false⟩ : Taken)] },
     put Reg.DSP_CTRL.EN 1, put Reg.GLB_SPLIT.DSPT 1]).dev).getD default, by decide +kernel⟩,
   ⟨tWith [putN Reg.HIF_RINGn_STAT.STATE 40 1, dev fun d => d.setRing 40
     { d.ring 40 with cls := clsDspt, log2 := 4, taken := [(⟨3, [458770,0,16384,0,0,0,5,(10^11 % 2^32 + 10^7),(10^11 / 2^32),0,0,0,0,0,0,0], false⟩ : Taken)] },
     put Reg.DSP_CTRL.EN 1, put Reg.GLB_SPLIT.DSPT 1], 40,
     { idx := 3, words := [458770, 0, 16384, 0, 0, 0, 5, 1225752192, 23, 0, 0, 0, 0, 0, 0, 0], released := false },
     by decide +kernel⟩,
   ⟨tWith [putN Reg.HIF_RINGn_STAT.STATE 40 1, dev fun d => d.setRing 40
     { d.ring 40 with cls := clsDspt, log2 := 4, taken := [(⟨3, [458770,0,16384,0,0,0,5,(10^11 % 2^32 + 10^7),(10^11 / 2^32),0,0,0,0,0,0,0], false⟩ : Taken)] },
     putN Reg.T_THSTAT.STATE 5 1, put Reg.DSP_CTRL.EN 1, put Reg.GLB_SPLIT.DSPT 1], 40,
     { idx := 3, words := [458770, 0, 16384, 0, 0, 0, 5, 1225752192, 23, 0, 0, 0, 0, 0, 0, 0], released := false },
     by decide +kernel⟩,
   ⟨tWith [putN Reg.HIF_RINGn_STAT.STATE 40 1, dev fun d => d.setRing 40
     { d.ring 40 with cls := clsDspt, log2 := 4, taken := [(⟨3, [458773,0,16384,0,0,0,5,(10^11 % 2^32 + 10^7),(10^11 / 2^32),0,0,0,0,0,0,0], false⟩ : Taken)] },
     put Reg.DSP_CTRL.EN 1, put Reg.GLB_SPLIT.DSPT 1], 40,
     { idx := 3, words := [458773, 0, 16384, 0, 0, 0, 5, 1225752192, 23, 0, 0, 0, 0, 0, 0, 0], released := false },
     by decide +kernel⟩,
   ⟨tSt, by decide +kernel⟩,
   ⟨tWith [put Reg.DSP_CTRL.EN 1, put Reg.GLB_SPLIT.DSPT 1], 1000000, 0, by decide +kernel⟩,
   ⟨2500, (⟨.thread 5, 10^11 % 2^32 + 10^6, 10^11 / 2^32, 2, false, false⟩ : TimedEnt), (tWith [fun s =>
     { s with dev.dsp.waits := tset s.dev.dsp.waits 5 (some (⟨40, 3, 0, 0, 0, 0⟩ : ThWait)) }]).dev, 5, (⟨40, 3, 0, 0, 0, 0⟩
     : ThWait), by decide +kernel⟩,
   ⟨0, (⟨.thread 5, 10^11 % 2^32 + 10^6, 10^11 / 2^32, 2, false, false⟩ : TimedEnt), (tWith [fun s =>
     { s with dev.dsp.waits := tset s.dev.dsp.waits 5 (some (⟨40, 3, 0, 0, 0, 0⟩ : ThWait)) }]).dev, 5, (⟨40, 3, 0, 0, 0, 0⟩
     : ThWait), by decide +kernel⟩,
   ⟨(⟨.thread 5, 10^11 % 2^32 + 10^6, 10^11 / 2^32, 2, false, false⟩ : TimedEnt), (tWith [fun s =>
     { s with dev.dsp.waits := tset s.dev.dsp.waits 5 (some (⟨40, 3, 0, 0, 0, 0⟩ : ThWait)) }]).dev, 5, (⟨40, 3, 0, 0, 0, 0⟩
     : ThWait), by decide +kernel⟩,
   ⟨2500, (⟨.timer 40 3 7, 10^11 % 2^32 + 10^6, 10^11 / 2^32, 2, false, false⟩ : TimedEnt), 40, 3, 7, by decide +kernel⟩,
   ⟨0, (⟨.timer 40 3 7, 10^11 % 2^32 + 10^6, 10^11 / 2^32, 2, false, false⟩ : TimedEnt), 40, 3, 7, by decide +kernel⟩⟩

/-- The hypotheses of FabricLinks, clause by clause, at states and operands that meet them. -/
theorem witness_FabricLinks :
(∃ (s : State), s.dev.up (islandOf 393216) = true ∧ s.dev.on Reg.DXL_STATUS.RUN = true) ∧
(∃ (s : State), s.dev.up (islandOf 393216) = true ∧ s.dev.on Reg.DXL_STATUS.RUN = false) ∧
(∃ (s : State), fabricRuns s.dev = false ∨ s.dev.get Reg.DXL_CFG.BEACON = 0 ∨ s.time.loc - s.dev.dxl.beaconAt < s.dev.get
      Reg.DXL_CFG.BEACON * 10000000) ∧
(∃ (s : State), fabricRuns s.dev = true ∧ s.dev.get Reg.DXL_CFG.BEACON ≠ 0 ∧ s.dev.get Reg.DXL_CFG.BEACON * 10000000 ≤
      s.time.loc - s.dev.dxl.beaconAt) ∧
(∃ (s : State), fabricRuns s.dev = true ∧ s.dev.get Reg.DXL_CFG.BEACON ≠ 0 ∧ s.dev.get Reg.DXL_CFG.BEACON * 10000000 ≤
      s.time.loc - s.dev.dxl.beaconAt ∧ ∀ (l : ℕ), l < 4 → linkIsUp s.dev l = true → isDl s.dev l = true ∧ s.dev.onN
      Reg.DXL_LINKn_CFG.AUTH l = false) ∧
(∃ (s : State) (l : Nat), linkOn s.dev l = false ∨ linkState s.dev l = 3 ∨ s.dev.getN Reg.DXL_LINKn_KA.INT l = 0 ∨ ∃ a, a ∈
      (s.dev.dlink l).kaTx ∧ s.time.loc - a < s.dev.getN Reg.DXL_LINKn_KA.INT l * 1000) ∧
(∃ (s : State) (l : Nat), linkOn s.dev l = true ∧ linkState s.dev l ≠ 3 ∧ s.dev.getN Reg.DXL_LINKn_KA.INT l ≠ 0 ∧ (∀ (a :
      ℕ), a ∈ (s.dev.dlink l).kaTx → s.dev.getN Reg.DXL_LINKn_KA.INT l * 1000 ≤ s.time.loc - a) ∧ isDl s.dev l = true ∧
      s.dev.onN Reg.DXL_LINKn_CFG.AUTH l = false) ∧
(∃ (s : State) (l : Nat), linkOn s.dev l = true ∧ linkState s.dev l ≠ 3 ∧ s.dev.getN Reg.DXL_LINKn_KA.INT l ≠ 0 ∧ ∀ (a : ℕ),
      a ∈ (s.dev.dlink l).kaTx → s.dev.getN Reg.DXL_LINKn_KA.INT l * 1000 ≤ s.time.loc - a) ∧
(∃ (s : State) (l : Nat), s.dev.getN Reg.DXL_LINKn_KA.MISS l = 0) ∧
(∃ (s : State) (l : Nat), linkIsUp s.dev l = true ∧ s.dev.getN Reg.DXL_LINKn_KA.MISS l ≠ 0 ∧ hears s.time s.dev l = true) ∧
(∃ (s : State) (l : Nat), linkIsUp s.dev l = true ∧ s.dev.getN Reg.DXL_LINKn_KA.MISS l ≠ 0 ∧ hears s.time s.dev l = false) ∧
(∃ (s : State) (l : Nat), linkIsUp s.dev l = true ∧ isDl s.dev l = false) ∧
(∃ (s : State) (l : Nat), linkIsUp s.dev l = true ∧ isDl s.dev l = true) ∧
(∃ (s : State) (l : Nat), linkIsUp s.dev l = false) ∧
(∃ (s : State) (l : Nat) (f : DxFrame), linkOn s.dev l = true ∧ linkState s.dev l ≠ 3 ∧ f.fcsOk = true ∧ dxMalformed f.bytes
      = false ∧ dxType f.bytes = tyKeepalive ∧ s.dev.onN Reg.DXL_LINKn_CFG.AUTH l = false ∧ dxOrigin f.bytes ≠ selfNode
      s.dev ∧ tget s.dev.dxl.boots (dxOrigin f.bytes) = none ∧ s.dev.onN Reg.DXL_LINKn_PEER.ANY l = true ∧ s.dev.getN
      Reg.DXL_LINKn_KA.INT l ≠ 0 ∧ (byteAt (dxBody f.bytes) 1).testBit 0 = true) ∧
(∃ (s : State) (l : Nat) (f : DxFrame), linkOn s.dev l = true ∧ linkState s.dev l ≠ 3 ∧ f.fcsOk = true ∧ dxMalformed f.bytes
      = false ∧ dxType f.bytes = tyKeepalive ∧ s.dev.onN Reg.DXL_LINKn_CFG.AUTH l = false ∧ dxOrigin f.bytes ≠ selfNode
      s.dev ∧ tget s.dev.dxl.boots (dxOrigin f.bytes) = none ∧ s.dev.onN Reg.DXL_LINKn_PEER.ANY l = false ∧ s.dev.getN
      Reg.DXL_LINKn_PEER.NODE l ≠ dxOrigin f.bytes) :=
  ⟨⟨tWith [put Reg.DXL_STATUS.RUN 1], by decide +kernel⟩,
   ⟨tSt, by decide +kernel⟩,
   ⟨tSt, by decide +kernel⟩,
   ⟨tWith [put Reg.DXL_STATUS.RUN 1, put Reg.DXL_CFG.BEACON ((0 + 1))], by decide +kernel⟩,
   ⟨tWith [put Reg.DXL_STATUS.RUN 1, put Reg.DXL_CFG.BEACON ((0 + 1))], by decide +kernel⟩,
   ⟨tSt, 0, by decide +kernel⟩,
   ⟨tWith [put Reg.DXL_STATUS.RUN 1, putN Reg.DXL_LINKn_CFG.EN 0 1, putN Reg.DXL_LINKn_KA.INT 0 ((0 + 1)), putN
     Reg.DXL_LINKn_CFG.AUTH 0 0], 0, by decide +kernel⟩,
   ⟨tWith [put Reg.DXL_STATUS.RUN 1, putN Reg.DXL_LINKn_CFG.EN 0 1, putN Reg.DXL_LINKn_KA.INT 0 ((0 + 1))], 0,
     by decide +kernel⟩,
   ⟨tWith [putN Reg.DXL_LINKn_KA.MISS 0 0], 0, by decide +kernel⟩,
   ⟨tWith [dev fun d => d.modLink 1 fun k => { k with kaRx := some (10^11 - 5) }, put Reg.DXL_STATUS.RUN 1, putN
     Reg.DXL_LINKn_CFG.EN 1 1, putN Reg.DXL_LINKn_STAT.STATE 1 2, putN Reg.DXL_LINKn_KA.MISS 1 ((0 + 1))], 1,
     by decide +kernel⟩,
   ⟨tWith [put Reg.DXL_STATUS.RUN 1, putN Reg.DXL_LINKn_CFG.EN 0 1, putN Reg.DXL_LINKn_STAT.STATE 0 2, putN
     Reg.DXL_LINKn_KA.MISS 0 ((0 + 1))], 0, by decide +kernel⟩,
   ⟨tWith [put Reg.DXL_STATUS.RUN 1, putN Reg.DXL_LINKn_CFG.EN 0 1, putN Reg.DXL_LINKn_STAT.STATE 0 2, putN
     Reg.DXL_LINKn_CFG.MODE 0 1], 0, by decide +kernel⟩,
   ⟨tWith [put Reg.DXL_STATUS.RUN 1, putN Reg.DXL_LINKn_CFG.EN 0 1, putN Reg.DXL_LINKn_STAT.STATE 0 2], 0, by decide +kernel⟩,
   ⟨tSt, 0, by decide +kernel⟩,
   ⟨tWith [put Reg.DXL_STATUS.RUN 1, putN Reg.DXL_LINKn_CFG.EN 0 1, putN Reg.DXL_LINKn_CFG.AUTH 0 0, fun s =>
     { s with dev.dxl.boots := tset s.dev.dxl.boots (dxOrigin (⟨dxHeader tyKeepalive 1 7 9 false (([1,1] ++ List.replicate 14 0 : List Byte)).length 100 3 0 ++ (([1,1] ++ List.replicate 14 0 : List Byte)), none, true, 2⟩ : DxFrame).bytes) (none) },
     putN Reg.DXL_LINKn_PEER.ANY 0 1, putN Reg.DXL_LINKn_KA.INT 0 ((0 + 1))], 0, (⟨dxHeader tyKeepalive 1 7 9 false (([1,1]
     ++ List.replicate 14 0 : List Byte)).length 100 3 0 ++ (([1,1] ++ List.replicate 14 0 : List Byte)), none, true, 2⟩ :
     DxFrame), by decide +kernel⟩,
   ⟨tWith [put Reg.DXL_STATUS.RUN 1, putN Reg.DXL_LINKn_CFG.EN 0 1, putN Reg.DXL_LINKn_CFG.AUTH 0 0, fun s =>
     { s with dev.dxl.boots := tset s.dev.dxl.boots (dxOrigin (⟨dxHeader tyKeepalive 1 7 9 false (([1,1] ++ List.replicate 14 0 : List Byte)).length 100 3 0 ++ (([1,1] ++ List.replicate 14 0 : List Byte)), none, true, 2⟩ : DxFrame).bytes) (none) },
     putN Reg.DXL_LINKn_PEER.ANY 0 0], 0, (⟨dxHeader tyKeepalive 1 7 9 false (([1,1] ++ List.replicate 14 0 : List
     Byte)).length 100 3 0 ++ (([1,1] ++ List.replicate 14 0 : List Byte)), none, true, 2⟩ : DxFrame), by decide +kernel⟩⟩

/-- The hypotheses of FabricReception, clause by clause, at states and operands that meet them. -/
theorem witness_FabricReception :
(∃ (s : State) (l : Nat), linkOn s.dev l = false) ∧
(∃ (s : State) (l : Nat) (f : DxFrame), linkOn s.dev l = true ∧ (f.fcsOk = false ∨ linkState s.dev l = 3)) ∧
(∃ (s : State) (l : Nat) (f : DxFrame), linkOn s.dev l = true ∧ f.fcsOk = true ∧ linkState s.dev l ≠ 3 ∧ dxMalformed f.bytes
      = false) ∧
(∃ (s : State) (l : Nat) (f : DxFrame), linkOn s.dev l = true ∧ f.fcsOk = true ∧ linkState s.dev l ≠ 3 ∧ dxMalformed f.bytes
      = false ∧ dxType f.bytes ≠ tyKeepalive ∧ dxType f.bytes ≠ tyTime ∧ s.dev.getN Reg.DXL_LINKn_RLIM.FRAMES l ≠ 0 ∧
      (s.dev.dlink l).ms = s.time.loc / 1000000 ∧ s.dev.getN Reg.DXL_LINKn_RLIM.FRAMES l ≤ (s.dev.dlink l).msCnt) ∧
(∃ (s : State) (l : Nat) (f : DxFrame), linkOn s.dev l = true ∧ f.fcsOk = true ∧ linkState s.dev l ≠ 3 ∧ dxMalformed f.bytes
      = true) ∧
(∃ (s : State) (l : Nat) (f : DxFrame), linkOn s.dev l = true ∧ f.fcsOk = true ∧ linkState s.dev l ≠ 3 ∧ dxMalformed f.bytes
      = false ∧ s.dev.getN Reg.DXL_LINKn_RLIM.FRAMES l = 0 ∧ s.dev.onN Reg.DXL_LINKn_CFG.AUTH l = true ∧ dxTag f.bytes =
      false ∧ dxType f.bytes ≠ tyToken ∧ dxType f.bytes ≠ tyBeacon) ∧
(∃ (s : State) (l : Nat) (f : DxFrame) (k : Nat), linkOn s.dev l = true ∧ f.fcsOk = true ∧ linkState s.dev l = 2 ∧
      dxMalformed f.bytes = false ∧ s.dev.getN Reg.DXL_LINKn_RLIM.FRAMES l = 0 ∧ s.dev.onN Reg.DXL_LINKn_CFG.AUTH l = false
      ∧ dxType f.bytes = tyToken ∧ dxOrigin f.bytes ≠ selfNode s.dev ∧ tget s.dev.dxl.boots (dxOrigin f.bytes) = some k ∧
      sdiff (2 ^ 16) (dxBoot f.bytes) k = 0 ∧ winJudge (tget s.dev.dxl.wins (winKey (dxOrigin f.bytes) tyToken)) (dxSeq
      f.bytes) = Fresh.dup) ∧
(∃ (s : State) (l : Nat) (f : DxFrame) (k : Nat), linkOn s.dev l = true ∧ f.fcsOk = true ∧ linkState s.dev l = 2 ∧
      dxMalformed f.bytes = false ∧ s.dev.getN Reg.DXL_LINKn_RLIM.FRAMES l = 0 ∧ s.dev.onN Reg.DXL_LINKn_CFG.AUTH l = false
      ∧ dxType f.bytes = tyToken ∧ dxOrigin f.bytes ≠ selfNode s.dev ∧ tget s.dev.dxl.boots (dxOrigin f.bytes) = some k ∧
      sdiff (2 ^ 16) (dxBoot f.bytes) k = 0 ∧ winJudge (tget s.dev.dxl.wins (winKey (dxOrigin f.bytes) tyToken)) (dxSeq
      f.bytes) = Fresh.old) ∧
(∃ (l : Nat) (d : Dev), d.onN Reg.DXL_LINKn_CFG.AUTH l = false) ∧
(∃ (l : Nat) (f : DxFrame) (d : Dev) (k : KeyRec) (d1 : Dev), d.onN Reg.DXL_LINKn_CFG.AUTH l = true ∧ keyUse engDaxide l
      (d.getN Reg.DXL_LINKn_CFG.KEY_SLOT l) 3 true d = (some k, d1) ∧ dxTag f.bytes = true ∧ f.tagKey = some k.material) ∧
(∃ (l : Nat) (f : DxFrame) (d : Dev) (r : Option KeyRec) (d1 : Dev), d.onN Reg.DXL_LINKn_CFG.AUTH l = true ∧ keyUse
      engDaxide l (d.getN Reg.DXL_LINKn_CFG.KEY_SLOT l) 3 true d = (r, d1) ∧ (r = none ∨ dxTag f.bytes = false ∨ f.tagKey ≠
      Option.map (fun x ↦ x.material) r)) ∧
(∃ (b : List Byte) (d : Dev), dxOrigin b = selfNode d ∧ dxBoot b ≠ selfBoot d) ∧
(∃ (b : List Byte) (d : Dev), (dxOrigin b ≠ selfNode d ∨ dxBoot b = selfBoot d) ∧ tget d.dxl.boots (dxOrigin b) = none) ∧
(∃ (b : List Byte) (d : Dev) (k : Nat), (dxOrigin b ≠ selfNode d ∨ dxBoot b = selfBoot d) ∧ tget d.dxl.boots (dxOrigin b) =
      some k ∧ sdiff (2 ^ 16) (dxBoot b) k < 0) ∧
(∃ (b : List Byte) (d : Dev) (k : Nat), (dxOrigin b ≠ selfNode d ∨ dxBoot b = selfBoot d) ∧ tget d.dxl.boots (dxOrigin b) =
      some k ∧ sdiff (2 ^ 16) (dxBoot b) k = 0) ∧
(∃ (b : List Byte) (d : Dev) (k : Nat), (dxOrigin b ≠ selfNode d ∨ dxBoot b = selfBoot d) ∧ tget d.dxl.boots (dxOrigin b) =
      some k ∧ 0 < sdiff (2 ^ 16) (dxBoot b) k) ∧
(∃ (b : List Byte) (d : Dev) (k : Nat), k ∈ entriesOf d (dxOrigin b) ∧ k < 256) ∧
(∃ (l : Nat) (b : List Byte) (d : Dev), linkState d l ≠ 2 ∧ dxType b ≠ tyKeepalive) ∧
(∃ (l : Nat) (b : List Byte) (d : Dev), linkState d l = 2 ∧ dxType b = tyAck) ∧
(∃ (l : Nat) (b : List Byte) (d : Dev), linkState d l = 2 ∧ dxType b = tyTime ∧ (isDl d l = false ∨ d.onN
      Reg.DXL_LINKn_CFG.TIME_EN l = false)) ∧
(∃ (l : Nat) (b : List Byte) (d : Dev), linkState d l = 2 ∧ dxType b = tyTime ∧ isDl d l = true ∧ d.onN
      Reg.DXL_LINKn_CFG.TIME_EN l = true ∧ byteAt (dxBody b) 0 = 0) ∧
(∃ (l : Nat) (b : List Byte) (d : Dev), linkState d l = 2 ∧ (dxType b = tyRelay ∨ dxType b = tyMgmt) ∧ winJudge (tget
      d.dxl.wins (winKey (dxOrigin b) (dxType b))) (dxSeq b) = Fresh.fresh ∧ dxDest b ≠ selfNode d ∧ dxHops b = 1) ∧
(∃ (l : Nat) (b : List Byte) (d : Dev), linkState d l = 2 ∧ (dxType b = tyRelay ∨ dxType b = tyMgmt) ∧ winJudge (tget
      d.dxl.wins (winKey (dxOrigin b) (dxType b))) (dxSeq b) = Fresh.fresh ∧ dxDest b ≠ selfNode d ∧ dxHops b ≠ 1) ∧
(∃ (l : Nat) (b : List Byte) (d : Dev), linkState d l = 2 ∧ dxType b = tyMgmt ∧ dxDest b = selfNode d ∧ winJudge (tget
      d.dxl.wins (winKey (dxOrigin b) tyMgmt)) (dxSeq b) = Fresh.fresh ∧ d.pwr.xaornRuns = false) ∧
(∃ (l : Nat) (b : List Byte) (d : Dev), linkState d l = 2 ∧ dxType b = tyMgmt ∧ dxDest b = selfNode d ∧ winJudge (tget
      d.dxl.wins (winKey (dxOrigin b) tyMgmt)) (dxSeq b) = Fresh.fresh ∧ d.pwr.xaornRuns = true) ∧
(∃ (w : DxWin) (q : Nat), w.seen = true ∧ 0 < sdiff (2 ^ 32) q w.high) ∧
(∃ (w : DxWin) (q : Nat), w.seen = true ∧ sdiff (2 ^ 32) q w.high < -64) ∧
(∃ (w : DxWin) (q : Nat), q < 2 ^ 32 ∧ winJudge w q = Fresh.fresh) ∧
(∃ (w : DxWin) (q : Nat) (r : Nat), w.seen = true ∧ w.high < 2 ^ 32 ∧ q < 2 ^ 32 ∧ r < 2 ^ 32 ∧ winJudge w q = Fresh.fresh ∧
      winJudge w r = Fresh.dup ∧ -64 ≤ sdiff (2 ^ 32) q r ∧ sdiff (2 ^ 32) q r ≤ 64) :=
  ⟨⟨tSt, 1, by decide +kernel⟩,
   ⟨tWith [put Reg.DXL_STATUS.RUN 1, putN Reg.DXL_LINKn_CFG.EN 1 1, putN Reg.DXL_LINKn_STAT.STATE 1 3], 1, (⟨dxHeader
     tyKeepalive 1 7 9 false (([1,1] ++ List.replicate 14 0 : List Byte)).length 100 3 0 ++ (([1,1] ++ List.replicate 14 0 :
     List Byte)), none, true, 2⟩ : DxFrame), by decide +kernel⟩,
   ⟨tWith [put Reg.DXL_STATUS.RUN 1, putN Reg.DXL_LINKn_CFG.EN 1 1], 1, (⟨dxHeader tyKeepalive 1 7 9 false (([1,1] ++
     List.replicate 14 0 : List Byte)).length 100 3 0 ++ (([1,1] ++ List.replicate 14 0 : List Byte)), none, true, 2⟩ :
     DxFrame), by decide +kernel⟩,
   ⟨tWith [dev fun d => d.modLink 1 fun k => { k with ms := 10^11/10^6, msCnt := 9 }, put Reg.DXL_STATUS.RUN 1, putN
     Reg.DXL_LINKn_CFG.EN 1 1, putN Reg.DXL_LINKn_RLIM.FRAMES 1 ((0 + 1)), fun s =>
     { s with dev := s.dev.modLink 1 fun x_ => { x_ with ms := s.time.loc / 1000000 } }, dev fun d => d.setN
     Reg.DXL_LINKn_RLIM.FRAMES 1 ((d.dlink 1).msCnt)], 1, (⟨dxHeader tyToken 1 7 0 true (([5,0,1] ++ List.replicate 29 0 :
     List Byte)).length 100 3 0 ++ (([5,0,1] ++ List.replicate 29 0 : List Byte)), none, true, 2⟩ : DxFrame),
     by decide +kernel⟩,
   ⟨tWith [put Reg.DXL_STATUS.RUN 1, putN Reg.DXL_LINKn_CFG.EN 1 1], 1, (⟨dxHeader tyToken 1 7 0 true (([5,0,1] ++
     List.replicate 28 0 : List Byte)).length 100 3 0 ++ (([5,0,1] ++ List.replicate 28 0 : List Byte)), none, true, 2⟩ :
     DxFrame), by decide +kernel⟩,
   ⟨tWith [put Reg.DXL_STATUS.RUN 1, putN Reg.DXL_LINKn_CFG.EN 1 1, putN Reg.DXL_LINKn_RLIM.FRAMES 1 0, putN
     Reg.DXL_LINKn_CFG.AUTH 1 1], 1, (⟨dxHeader tyKeepalive 1 7 9 false (([1,1] ++ List.replicate 14 0 : List Byte)).length
     100 3 0 ++ (([1,1] ++ List.replicate 14 0 : List Byte)), none, true, 2⟩ : DxFrame), by decide +kernel⟩,
   ⟨tWith [dev fun d => d.modDxl fun k => { k with wins := tset k.wins (winKey 7 tyToken) ⟨true, 100, 0⟩ }, put
     Reg.DXL_STATUS.RUN 1, putN Reg.DXL_LINKn_CFG.EN 1 1, putN Reg.DXL_LINKn_STAT.STATE 1 2, putN Reg.DXL_LINKn_RLIM.FRAMES
     1 0, putN Reg.DXL_LINKn_CFG.AUTH 1 0, fun s =>
     { s with dev.dxl.boots := tset s.dev.dxl.boots (dxOrigin (⟨dxHeader tyToken 1 7 0 true (([5,0,1] ++ List.replicate 29 0 : List Byte)).length 100 3 0 ++ (([5,0,1] ++ List.replicate 29 0 : List Byte)), none, true, 2⟩ : DxFrame).bytes) (some 3) }],
     1, (⟨dxHeader tyToken 1 7 0 true (([5,0,1] ++ List.replicate 29 0 : List Byte)).length 100 3 0 ++ (([5,0,1] ++
     List.replicate 29 0 : List Byte)), none, true, 2⟩ : DxFrame), 3, by decide +kernel⟩,
   ⟨tWith [dev fun d => d.modDxl fun k => { k with wins := tset k.wins (winKey 7 tyToken) ⟨true, 1000, 0⟩ }, put
     Reg.DXL_STATUS.RUN 1, putN Reg.DXL_LINKn_CFG.EN 1 1, putN Reg.DXL_LINKn_STAT.STATE 1 2, putN Reg.DXL_LINKn_RLIM.FRAMES
     1 0, putN Reg.DXL_LINKn_CFG.AUTH 1 0, fun s =>
     { s with dev.dxl.boots := tset s.dev.dxl.boots (dxOrigin (⟨dxHeader tyToken 1 7 0 true (([5,0,1] ++ List.replicate 29 0 : List Byte)).length 100 3 0 ++ (([5,0,1] ++ List.replicate 29 0 : List Byte)), none, true, 2⟩ : DxFrame).bytes) (some 3) }],
     1, (⟨dxHeader tyToken 1 7 0 true (([5,0,1] ++ List.replicate 29 0 : List Byte)).length 100 3 0 ++ (([5,0,1] ++
     List.replicate 29 0 : List Byte)), none, true, 2⟩ : DxFrame), 3, by decide +kernel⟩,
   ⟨1, tSt.dev, by decide +kernel⟩,
   ⟨1, (⟨dxHeader tyToken 1 7 0 true (([5,0,1] ++ List.replicate 29 0 : List Byte)).length 100 3 1 ++ (([5,0,1] ++
     List.replicate 29 0 : List Byte)), some 1234, true, 2⟩ : DxFrame), (tWith [putN Reg.DXL_LINKn_CFG.AUTH 1 1, dev fun d
     => d.modKeys fun k => { k with slots := tset k.slots 0 ⟨some (⟨1234,8,true,0,0,77,false,0⟩ : KeyRec), none⟩ }, put
     Reg.GLB_SPLIT.KEY 1]).dev,
     { material := 1234, usage := 8, long := true, depth := 0, parent := 0, keyId := 77, persist := false, gen := 0 },
     (keyUse engDaxide 1 ((tWith [putN Reg.DXL_LINKn_CFG.AUTH 1 1, dev fun d => d.modKeys fun k =>
     { k with slots := tset k.slots 0 ⟨some (⟨1234,8,true,0,0,77,false,0⟩ : KeyRec), none⟩ }, put Reg.GLB_SPLIT.KEY
     1]).dev.getN Reg.DXL_LINKn_CFG.KEY_SLOT 1) 3 true (tWith [putN Reg.DXL_LINKn_CFG.AUTH 1 1, dev fun d => d.modKeys fun k
     => { k with slots := tset k.slots 0 ⟨some (⟨1234,8,true,0,0,77,false,0⟩ : KeyRec), none⟩ }, put Reg.GLB_SPLIT.KEY
     1]).dev).2, by decide +kernel⟩,
   ⟨1, (⟨dxHeader tyKeepalive 1 7 9 false (([1,1] ++ List.replicate 14 0 : List Byte)).length 100 3 0 ++ (([1,1] ++
     List.replicate 14 0 : List Byte)), none, true, 2⟩ : DxFrame), (tWith [putN Reg.DXL_LINKn_CFG.AUTH 1 1]).dev, none,
     (keyUse engDaxide 1 ((tWith [putN Reg.DXL_LINKn_CFG.AUTH 1 1]).dev.getN Reg.DXL_LINKn_CFG.KEY_SLOT 1) 3 true (tWith
     [putN Reg.DXL_LINKn_CFG.AUTH 1 1]).dev).2, by decide +kernel⟩,
   ⟨(dxHeader tyToken 1 7 0 true ((List.replicate 32 0 : List Byte)).length 100 3 0 ++ ((List.replicate 32 0 : List Byte)) :
     List Byte), (tWith [put Reg.DXL_NODE.ID 7]).dev, by decide +kernel⟩,
   ⟨(dxHeader tyToken 1 7 0 true ((List.replicate 32 0 : List Byte)).length 100 3 0 ++ ((List.replicate 32 0 : List Byte)) :
     List Byte), tSt.dev, by decide +kernel⟩,
   ⟨(dxHeader tyToken 1 7 0 true ((List.replicate 32 0 : List Byte)).length 100 3 0 ++ ((List.replicate 32 0 : List Byte)) :
     List Byte), (tWith [fun s =>
     { s with dev.dxl.boots := tset s.dev.dxl.boots (dxOrigin (dxHeader tyToken 1 7 0 true ((List.replicate 32 0 : List Byte)).length 100 3 0 ++ ((List.replicate 32 0 : List Byte)) : List Byte)) (some 7) }]).dev,
     7, by decide +kernel⟩,
   ⟨(dxHeader tyToken 1 7 0 true ((List.replicate 32 0 : List Byte)).length 100 3 0 ++ ((List.replicate 32 0 : List Byte)) :
     List Byte), (tWith [fun s =>
     { s with dev.dxl.boots := tset s.dev.dxl.boots (dxOrigin (dxHeader tyToken 1 7 0 true ((List.replicate 32 0 : List Byte)).length 100 3 0 ++ ((List.replicate 32 0 : List Byte)) : List Byte)) (some 3) }]).dev,
     3, by decide +kernel⟩,
   ⟨(dxHeader tyToken 1 7 0 true ((List.replicate 32 0 : List Byte)).length 100 4 0 ++ ((List.replicate 32 0 : List Byte)) :
     List Byte), (tWith [fun s =>
     { s with dev.dxl.boots := tset s.dev.dxl.boots (dxOrigin (dxHeader tyToken 1 7 0 true ((List.replicate 32 0 : List Byte)).length 100 4 0 ++ ((List.replicate 32 0 : List Byte)) : List Byte)) (some 3) }]).dev,
     3, by decide +kernel⟩,
   ⟨(dxHeader tyToken 1 7 0 true ((List.replicate 32 0 : List Byte)).length 100 3 0 ++ ((List.replicate 32 0 : List Byte)) :
     List Byte), (tWith [putN Reg.T_RALARM.VALID 8 1, putN Reg.T_RALARM.NODE 8 7, putN Reg.T_RALARM.RULE 8 5]).dev, 8,
     by decide +kernel⟩,
   ⟨1, (dxHeader tyToken 1 7 0 true ((List.replicate 32 0 : List Byte)).length 100 3 0 ++ ((List.replicate 32 0 : List Byte)) :
     List Byte), tSt.dev, by decide +kernel⟩,
   ⟨1, (dxHeader tyAck 1 7 9 false ((List.replicate 8 0 : List Byte)).length 100 3 0 ++ ((List.replicate 8 0 : List Byte)) :
     List Byte), (tWith [putN Reg.DXL_LINKn_STAT.STATE 1 2]).dev, by decide +kernel⟩,
   ⟨1, (dxHeader tyTime 1 7 9 false ((List.replicate 48 0 : List Byte)).length 100 3 0 ++ ((List.replicate 48 0 : List Byte)) :
     List Byte), (tWith [putN Reg.DXL_LINKn_STAT.STATE 1 2, putN Reg.DXL_LINKn_CFG.MODE 1 1]).dev, by decide +kernel⟩,
   ⟨1, (dxHeader tyTime 1 7 9 false ((List.replicate 48 0 : List Byte)).length 100 3 0 ++ ((List.replicate 48 0 : List Byte)) :
     List Byte), (tWith [putN Reg.DXL_LINKn_STAT.STATE 1 2, putN Reg.DXL_LINKn_CFG.TIME_EN 1 1]).dev, by decide +kernel⟩,
   ⟨1, (dxHeader tyMgmt 1 7 9 false ((List.replicate 8 0 : List Byte)).length 100 3 0 ++ ((List.replicate 8 0 : List Byte)) :
     List Byte), (tWith [putN Reg.DXL_LINKn_STAT.STATE 1 2]).dev, by decide +kernel⟩,
   ⟨1, (dxHeader tyMgmt 2 7 9 false ((List.replicate 8 0 : List Byte)).length 100 3 0 ++ ((List.replicate 8 0 : List Byte)) :
     List Byte), (tWith [putN Reg.DXL_LINKn_STAT.STATE 1 2]).dev, by decide +kernel⟩,
   ⟨1, (dxHeader tyMgmt 1 7 0 false ((List.replicate 8 0 : List Byte)).length 100 3 0 ++ ((List.replicate 8 0 : List Byte)) :
     List Byte), (tWith [putN Reg.DXL_LINKn_STAT.STATE 1 2, fun s => { s with dev.pwr.xaornRuns := false }]).dev,
     by decide +kernel⟩,
   ⟨1, (dxHeader tyMgmt 1 7 0 false ((List.replicate 8 0 : List Byte)).length 100 3 0 ++ ((List.replicate 8 0 : List Byte)) :
     List Byte), (tWith [putN Reg.DXL_LINKn_STAT.STATE 1 2, fun s => { s with dev.pwr.xaornRuns := true }]).dev,
     by decide +kernel⟩,
   ⟨(⟨true,100,5⟩ : DxWin), 101, by decide +kernel⟩,
   ⟨(⟨true,100,5⟩ : DxWin), 0, by decide +kernel⟩,
   ⟨(⟨true,100,5⟩ : DxWin), 101, by decide +kernel⟩,
   ⟨(⟨true,100,5⟩ : DxWin), 101, 100, by decide +kernel⟩⟩

/-- The hypotheses of RemoteAlarms, clause by clause, at states and operands that meet them. -/
theorem witness_RemoteAlarms :
(∃ (s : State) (k : Nat) (v : Word32), k < 256 ∧ s.dev.up (islandOf 3803136) = true ∧ bitOf v 0 = true ∧ s.dev.onN
      Reg.T_RALARM.VALID k = true) ∧
(∃ (s : State) (k : Nat) (v : Word32), k < 256 ∧ s.dev.up (islandOf 3803136) = true ∧ bitOf v 0 = true ∧ s.dev.onN
      Reg.T_RALARM.VALID k = false) ∧
(∃ (s : State) (k : Nat) (v : Word32), k < 256 ∧ s.dev.up (islandOf 3803136) = true ∧ bitOf v 0 = false) ∧
(∃ (s : State) (k : Nat), k < 256 ∧ s.dev.up (islandOf 3803136) = true ∧ s.dev.onN Reg.T_RALARM.VALID k = true) ∧
(∃ (s : State) (k : Nat), k < 256 ∧ s.dev.up (islandOf 3803136) = true ∧ s.dev.onN Reg.T_RALARM.VALID k = false) ∧
(∃ (addr : Nat), addr < 3803136 ∨ 3805184 ≤ addr ∨ addr % 4 ≠ 0) ∧
(∃ (s : State) (l : Nat) (k : Nat) (b : Nat) (f : DxFrame), linkOn s.dev l = true ∧ linkState s.dev l = 2 ∧ f.fcsOk = true ∧
      dxMalformed f.bytes = false ∧ s.dev.getN Reg.DXL_LINKn_RLIM.FRAMES l = 0 ∧ s.dev.onN Reg.DXL_LINKn_CFG.AUTH l = false
      ∧ dxType f.bytes = tyToken ∧ dxHops f.bytes = 1 ∧ dxOrigin f.bytes ≠ selfNode s.dev ∧ tget s.dev.dxl.boots (dxOrigin
      f.bytes) = some b ∧ sdiff (2 ^ 16) (dxBoot f.bytes) b = 0 ∧ winJudge (tget s.dev.dxl.wins (winKey (dxOrigin f.bytes)
      tyToken)) (dxSeq f.bytes) = Fresh.fresh ∧ entriesOf s.dev (dxOrigin f.bytes) = [k] ∧ entryRule s.dev k = leAt (dxBody
      f.bytes) 0 2 ∧ s.dev.onN Reg.T_RALARM.HOST k = false) ∧
(∃ (s : State) (node : Nat) (k : Nat), fabricRuns s.dev = true ∧ entriesOf s.dev node = [k] ∧ s.dev.onN Reg.T_RALARM.HOST k
      = false ∧ s.dev.getN Reg.T_RALARM.LOSS_MS k ≠ 0 ∧ s.dev.onN Reg.T_RASTAT.LOST k = false ∧ s.dev.getN
      Reg.T_RALARM.LOSS_MS k * 1000000 ≤ s.time.loc - max (tget s.dev.dxl.heardAt node) (tget s.dev.dxl.since k)) ∧
(∃ (s : State) (node : Nat) (k : Nat), fabricRuns s.dev = true ∧ entriesOf s.dev node = [k] ∧ s.dev.onN Reg.T_RALARM.HOST k
      = false ∧ s.dev.getN Reg.T_RALARM.LOSS_MS k ≠ 0 ∧ s.dev.onN Reg.T_RASTAT.LOST k = false ∧ s.time.loc - max (tget
      s.dev.dxl.heardAt node) (tget s.dev.dxl.since k) < s.dev.getN Reg.T_RALARM.LOSS_MS k * 1000000) ∧
(∃ (s : State) (node : Nat), fabricRuns s.dev = false ∨ entriesOf s.dev node = []) ∧
(∃ (s : State), fabricRuns s.dev = true) :=
  ⟨⟨tWith [putN Reg.T_RALARM.VALID 8 1], 8, 1, by decide +kernel⟩,
   ⟨tSt, 8, 1, by decide +kernel⟩,
   ⟨tSt, 8, 0, by decide +kernel⟩,
   ⟨tWith [putN Reg.T_RALARM.VALID 8 1], 8, by decide +kernel⟩,
   ⟨tSt, 8, by decide +kernel⟩,
   ⟨0, by decide +kernel⟩,
   ⟨tWith [putN Reg.T_RALARM.VALID 8 1, putN Reg.T_RALARM.NODE 8 7, putN Reg.T_RALARM.RULE 8 5, put Reg.DXL_STATUS.RUN 1, putN
     Reg.DXL_LINKn_CFG.EN 1 1, putN Reg.DXL_LINKn_STAT.STATE 1 2, putN Reg.DXL_LINKn_RLIM.FRAMES 1 0, putN
     Reg.DXL_LINKn_CFG.AUTH 1 0, fun s =>
     { s with dev.dxl.boots := tset s.dev.dxl.boots (dxOrigin (⟨dxHeader tyToken 1 7 0 true (([5,0,1] ++ List.replicate 29 0 : List Byte)).length 100 3 0 ++ (([5,0,1] ++ List.replicate 29 0 : List Byte)), none, true, 2⟩ : DxFrame).bytes) (some 3) },
     putN Reg.T_RALARM.HOST 8 0], 1, 8, 3, (⟨dxHeader tyToken 1 7 0 true (([5,0,1] ++ List.replicate 29 0 : List
     Byte)).length 100 3 0 ++ (([5,0,1] ++ List.replicate 29 0 : List Byte)), none, true, 2⟩ : DxFrame), by decide +kernel⟩,
   ⟨tWith [putN Reg.T_RALARM.VALID 8 1, putN Reg.T_RALARM.NODE 8 7, putN Reg.T_RALARM.RULE 8 5, put Reg.DXL_STATUS.RUN 1, putN
     Reg.T_RALARM.HOST 8 0, putN Reg.T_RALARM.LOSS_MS 8 ((0 + 1)), putN Reg.T_RASTAT.LOST 8 0], 7, 8, by decide +kernel⟩,
   ⟨tWith [putN Reg.T_RALARM.VALID 8 1, putN Reg.T_RALARM.NODE 8 7, putN Reg.T_RALARM.RULE 8 5, dev fun d => d.modDxl fun k =>
     { k with heardAt := tset k.heardAt 7 (10^11-5) }, put Reg.DXL_STATUS.RUN 1, putN Reg.T_RALARM.HOST 8 0, putN
     Reg.T_RALARM.LOSS_MS 8 ((0 + 1)), putN Reg.T_RASTAT.LOST 8 0], 7, 8, by decide +kernel⟩,
   ⟨tSt, 7, by decide +kernel⟩,
   ⟨tWith [put Reg.DXL_STATUS.RUN 1], by decide +kernel⟩⟩

/-- The hypotheses of FabricTraffic, clause by clause, at states and operands that meet them. -/
theorem witness_FabricTraffic :
(∃ (s : State), s.dev.up (islandOf 393240) = true ∧ s.dev.on Reg.DXL_RELAY.EN = true) ∧
(∃ (s : State), s.dev.up (islandOf 393240) = true ∧ s.dev.on Reg.DXL_RELAY.EN = false ∧ (partBytes s.dev partRelay <
      relayNeed s.dev ∨ partBytes s.dev partRelay = 0)) ∧
(∃ (s : State), s.dev.up (islandOf 393240) = true ∧ s.dev.on Reg.DXL_RELAY.EN = false ∧ relayNeed s.dev ≤ partBytes s.dev
      partRelay ∧ partBytes s.dev partRelay ≠ 0) ∧
(∃ (s : State) (dest : Nat) (p : List Byte), fabricRuns s.dev = false ∨ s.dev.pwr.xaornRuns = false ∨ p = [] ∨ 8192 <
      p.length ∨ 512 ≤ dest) ∧
(∃ (s : State) (dest : Nat) (n : Nat) (d : Dev) (p : List Byte), fabricRuns s.dev = true ∧ s.dev.pwr.xaornRuns = true ∧ p ≠
      [] ∧ p.length ≤ 8192 ∧ dest < 512 ∧ nextSeq tyMgmt s.dev = (n, d)) ∧
(∃ (s : State) (dest : Nat) (p : List Byte), fabricRuns s.dev = true ∧ s.dev.pwr.xaornRuns = true ∧ p ≠ [] ∧ p.length ≤ 8192
      ∧ dest < 512 ∧ s.dev.dxl.held = [] ∧ (16 + p.length + 3) / 4 ≤ partBytes s.dev partRelay / 4 ∧ routeLink s.dev dest =
      none) ∧
(∃ (s : State) (l : Nat) (h : DxHeld), s.dev.dxl.held = [h] ∧ h.link = some l ∧ s.time.loc - h.first < 100000000) ∧
(∃ (s : State) (l : Nat) (h : DxHeld), s.dev.dxl.held = [h] ∧ h.link = some l ∧ 100000000 ≤ s.time.loc - h.first) ∧
(∃ (s : State) (l : Nat), ∀ (h : DxHeld), h ∈ s.dev.dxl.held → heldOn s.dev l h = true → s.time.loc - h.first < 100000000) ∧
(∃ (s : State) (l : Nat) (h : DxHeld), List.find? (fun g ↦ heldOn s.dev l g && decide (100000000 ≤ s.time.loc - g.first))
      s.dev.dxl.held = some h) ∧
(∃ (s : State) (l : Nat), fabricRuns s.dev = false ∨ ∀ (h : DxHeld), h ∈ s.dev.dxl.held → heldOn s.dev l h = true → h.link ≠
      none ∧ (s.dev.get Reg.DXL_RELAY.RTO = 0 ∨ s.time.loc - h.last < s.dev.get Reg.DXL_RELAY.RTO * 1000000)) ∧
(∃ (s : State) (l : Nat) (h : DxHeld), fabricRuns s.dev = true ∧ List.find? (fun g ↦ heldOn s.dev l g && (g.link.isNone ||
      s.dev.get Reg.DXL_RELAY.RTO != 0 && decide (s.dev.get Reg.DXL_RELAY.RTO * 1000000 ≤ s.time.loc - g.last)))
      s.dev.dxl.held = some h ∧ routeLink s.dev h.dest = none) ∧
(∃ (s : State) (l : Nat) (h : DxHeld) (m : Nat), fabricRuns s.dev = true ∧ List.find? (fun g ↦ heldOn s.dev l g &&
      (g.link.isNone || s.dev.get Reg.DXL_RELAY.RTO != 0 && decide (s.dev.get Reg.DXL_RELAY.RTO * 1000000 ≤ s.time.loc -
      g.last))) s.dev.dxl.held = some h ∧ routeLink s.dev h.dest = some m ∧ ∃ i, i < heldWords h ∧ (hBad s.dev (partWord
      s.dev partRelay + h.ofs + i) = true ∨ hUp s.dev (partWord s.dev partRelay + h.ofs + i) = false ∨ inPart s.dev
      partRelay (partWord s.dev partRelay + h.ofs + i) = false)) ∧
(∃ (s : State) (l : Nat) (h : DxHeld) (m : Nat), fabricRuns s.dev = true ∧ List.find? (fun g ↦ heldOn s.dev l g &&
      (g.link.isNone || s.dev.get Reg.DXL_RELAY.RTO != 0 && decide (s.dev.get Reg.DXL_RELAY.RTO * 1000000 ≤ s.time.loc -
      g.last))) s.dev.dxl.held = some h ∧ routeLink s.dev h.dest = some m ∧ ∀ (i : ℕ), i < heldWords h → hBad s.dev
      (partWord s.dev partRelay + h.ofs + i) = false ∧ hUp s.dev (partWord s.dev partRelay + h.ofs + i) = true ∧ inPart
      s.dev partRelay (partWord s.dev partRelay + h.ofs + i) = true) ∧
(∃ (s : State) (l : Nat) (h : DxHeld), fabricRuns s.dev = true ∧ s.dev.dxl.held = [h] ∧ h.link = some l ∧ h.left = true ∧
      (s.dev.get Reg.DXL_RELAY.RTO = 0 ∨ s.time.loc - h.last < s.dev.get Reg.DXL_RELAY.RTO * 1000000)) ∧
(∃ (s : State) (l : Nat) (m : Nat) (h : DxHeld), fabricRuns s.dev = true ∧ s.dev.dxl.held = [h] ∧ h.link = some l ∧ h.left =
      true ∧ s.dev.get Reg.DXL_RELAY.RTO ≠ 0 ∧ s.dev.get Reg.DXL_RELAY.RTO * 1000000 ≤ s.time.loc - h.last ∧ routeLink s.dev
      h.dest = some m ∧ isDl s.dev m = true ∧ s.dev.onN Reg.DXL_LINKn_CFG.AUTH m = false ∧ ∀ (i : ℕ), i < heldWords h → hBad
      s.dev (partWord s.dev partRelay + h.ofs + i) = false ∧ hUp s.dev (partWord s.dev partRelay + h.ofs + i) = true ∧
      inPart s.dev partRelay (partWord s.dev partRelay + h.ofs + i) = true) ∧
(∃ (s : State) (l : Nat), linkIsUp s.dev l = false ∨ isDl s.dev l = false ∨ s.dev.onN Reg.DXL_LINKn_CFG.TIME_EN l = false ∨
      ∃ a, a ∈ (s.dev.dlink l).reqTx ∧ (s.time.loc - a) * 2 ^ s.dev.getN Reg.DXL_LINKn_TIME.RATE l < 1000000000) ∧
(∃ (s : State) (l : Nat), linkIsUp s.dev l = true ∧ isDl s.dev l = true ∧ s.dev.onN Reg.DXL_LINKn_CFG.TIME_EN l = true ∧
      s.dev.onN Reg.DXL_LINKn_CFG.AUTH l = false ∧ (s.dev.dlink l).reqTx = none) ∧
(∃ (s : State) (l : Nat), linkIsUp s.dev l = true ∧ isDl s.dev l = true ∧ s.dev.onN Reg.DXL_LINKn_CFG.TIME_EN l = true ∧ ∀
      (a : ℕ), a ∈ (s.dev.dlink l).reqTx → 1000000000 ≤ (s.time.loc - a) * 2 ^ s.dev.getN Reg.DXL_LINKn_TIME.RATE l) ∧
(∃ (s : State) (l : Nat) (b : Nat) (t1 : Nat) (f : DxFrame), linkIsUp s.dev l = true ∧ isDl s.dev l = true ∧ s.dev.onN
      Reg.DXL_LINKn_CFG.TIME_EN l = true ∧ s.dev.onN Reg.DXL_LINKn_CFG.AUTH l = false ∧ f.fcsOk = true ∧ dxMalformed f.bytes
      = false ∧ dxType f.bytes = tyTime ∧ byteAt (dxBody f.bytes) 0 ≠ 0 ∧ dxOrigin f.bytes ≠ selfNode s.dev ∧ tget
      s.dev.dxl.boots (dxOrigin f.bytes) = some b ∧ sdiff (2 ^ 16) (dxBoot f.bytes) b = 0 ∧ (s.dev.dlink l).exchs = [] ∧
      fmLook (s.dev.dlink l).reqs (leAt (dxBody f.bytes) 12 4) = some t1) :=
  ⟨⟨tWith [put Reg.DXL_RELAY.EN 1], by decide +kernel⟩,
   ⟨tSt, by decide +kernel⟩,
   ⟨tWith [putN Reg.HMP_PARTn.SIZE 5 4], by decide +kernel⟩,
   ⟨tSt, 9, [], by decide +kernel⟩,
   ⟨tWith [put Reg.DXL_STATUS.RUN 1, fun s => { s with dev.pwr.xaornRuns := true }], 9, 1, (nextSeq tyMgmt (tWith [put
     Reg.DXL_STATUS.RUN 1, fun s => { s with dev.pwr.xaornRuns := true }]).dev).2, [1,2,3], by decide +kernel⟩,
   ⟨tWith [putN Reg.HMP_PARTn.SIZE 5 4, put Reg.DXL_STATUS.RUN 1, fun s => { s with dev.pwr.xaornRuns := true }, fun s =>
     { s with dev.dxl.held := [] }], 9, [1,2,3], by decide +kernel⟩,
   ⟨List.foldl (fun s f => f s) State.reset [fun s =>
     { s with dev.dxl.held := [(⟨tyRelay,7,100,9,40,0,5,10^11-5,some 1,true⟩ : DxHeld)] }], 1,
     (⟨tyRelay,7,100,9,40,0,5,10^11-5,some 1,true⟩ : DxHeld), by decide +kernel⟩,
   ⟨tWith [fun s => { s with dev.dxl.held := [(⟨tyRelay,7,100,9,40,0,5,10^11-5,some 1,true⟩ : DxHeld)] }], 1,
     (⟨tyRelay,7,100,9,40,0,5,10^11-5,some 1,true⟩ : DxHeld), by decide +kernel⟩,
   ⟨tSt, 1, by decide +kernel⟩,
   ⟨tWith [dev fun d => d.modDxl fun k => { k with held := [(⟨tyRelay,7,100,9,40,0,5,10^11-5,some 1,true⟩ : DxHeld)] }], 1,
     { typ := 2,   origin := 7,   seq := 100,   dest := 9,   count := 40,   ofs := 0,   first := 5,   last := 99999999995,   link := some 1,   left := true },
     by decide +kernel⟩,
   ⟨tSt, 1, by decide +kernel⟩,
   ⟨tWith [dev fun d => d.modDxl fun k => { k with held := [(⟨tyRelay,7,100,9,40,0,10^11-5,5,some 1,true⟩ : DxHeld)] }, put
     Reg.DXL_STATUS.RUN 1], 1,
     { typ := 2,   origin := 7,   seq := 100,   dest := 9,   count := 40,   ofs := 0,   first := 99999999995,   last := 5,   link := some 1,   left := true },
     by decide +kernel⟩,
   ⟨tWith [put Reg.DXL_STATUS.RUN 1, putN Reg.DXL_LINKn_CFG.EN 1 1, putN Reg.DXL_LINKn_STAT.STATE 1 2, dev fun d => d.modDxl
     fun k => { k with held := [(⟨tyRelay,7,100,9,40,0,10^11-5,5,some 1,true⟩ : DxHeld)] }, putN Reg.T_ROUTE.P_VALID 9 1,
     putN Reg.T_ROUTE.PRIMARY 9 1], 1,
     { typ := 2,   origin := 7,   seq := 100,   dest := 9,   count := 40,   ofs := 0,   first := 99999999995,   last := 5,   link := some 1,   left := true },
     1, by decide +kernel⟩,
   ⟨tWith [putN Reg.HMP_PARTn.SIZE 5 4, put Reg.DXL_STATUS.RUN 1, putN Reg.DXL_LINKn_CFG.EN 1 1, putN Reg.DXL_LINKn_STAT.STATE
     1 2, dev fun d => d.modDxl fun k => { k with held := [(⟨tyRelay,7,100,9,40,0,10^11-5,5,some 1,true⟩ : DxHeld)] }, putN
     Reg.T_ROUTE.P_VALID 9 1, putN Reg.T_ROUTE.PRIMARY 9 1], 1,
     { typ := 2,   origin := 7,   seq := 100,   dest := 9,   count := 40,   ofs := 0,   first := 99999999995,   last := 5,   link := some 1,   left := true },
     1, by decide +kernel⟩,
   ⟨tWith [put Reg.DXL_STATUS.RUN 1, fun s =>
     { s with dev.dxl.held := [(⟨tyRelay,7,100,9,40,0,5,10^11-5,some 1,true⟩ : DxHeld)] }, put Reg.DXL_RELAY.RTO 0], 1,
     (⟨tyRelay,7,100,9,40,0,5,10^11-5,some 1,true⟩ : DxHeld), by decide +kernel⟩,
   ⟨tWith [putN Reg.HMP_PARTn.SIZE 5 4, put Reg.DXL_STATUS.RUN 1, putN Reg.DXL_LINKn_CFG.EN 1 1, putN Reg.DXL_LINKn_STAT.STATE
     1 2, putN Reg.T_ROUTE.P_VALID 9 1, putN Reg.T_ROUTE.PRIMARY 9 1, put Reg.DXL_STATUS.RUN 1, fun s =>
     { s with dev.dxl.held := [(⟨tyRelay,7,100,9,40,0,10^11-5,5,some 1,true⟩ : DxHeld)] }, put Reg.DXL_RELAY.RTO ((0 + 1)),
     putN Reg.DXL_LINKn_CFG.AUTH 1 0], 1, 1, (⟨tyRelay,7,100,9,40,0,10^11-5,5,some 1,true⟩ : DxHeld), by decide +kernel⟩,
   ⟨tSt, 1, by decide +kernel⟩,
   ⟨tWith [put Reg.DXL_STATUS.RUN 1, putN Reg.DXL_LINKn_CFG.EN 1 1, putN Reg.DXL_LINKn_STAT.STATE 1 2, putN
     Reg.DXL_LINKn_CFG.TIME_EN 1 1, putN Reg.DXL_LINKn_CFG.AUTH 1 0, dev fun d => d.modLink 1 fun x_ =>
     { x_ with reqTx := none }], 1, by decide +kernel⟩,
   ⟨tWith [put Reg.DXL_STATUS.RUN 1, putN Reg.DXL_LINKn_CFG.EN 1 1, putN Reg.DXL_LINKn_STAT.STATE 1 2, putN
     Reg.DXL_LINKn_CFG.TIME_EN 1 1], 1, by decide +kernel⟩,
   ⟨tWith [dev fun d => d.modDxl fun k => { k with boots := tset k.boots 7 (some 3) }, put Reg.DXL_NODE.ID 3, dev fun d =>
     d.modLink 1 fun k => { k with reqs := tset k.reqs 200 77 }, put Reg.DXL_STATUS.RUN 1, putN Reg.DXL_LINKn_CFG.EN 1 1,
     putN Reg.DXL_LINKn_STAT.STATE 1 2, putN Reg.DXL_LINKn_CFG.TIME_EN 1 1, putN Reg.DXL_LINKn_CFG.AUTH 1 0, fun s =>
     { s with dev.dxl.boots := tset s.dev.dxl.boots (dxOrigin (⟨dxHeader tyTime 1 7 9 false (([1] ++ List.replicate 11 0 ++ [200,0,0,0] ++ List.replicate 32 0 : List Byte)).length 100 3 0 ++ (([1] ++ List.replicate 11 0 ++ [200,0,0,0] ++ List.replicate 32 0 : List Byte)), none, true, 2⟩ : DxFrame).bytes) (some 3) },
     dev fun d => d.modLink 1 fun x_ => { x_ with exchs := [] }], 1, 3, 77, (⟨dxHeader tyTime 1 7 9 false (([1] ++
     List.replicate 11 0 ++ [200,0,0,0] ++ List.replicate 32 0 : List Byte)).length 100 3 0 ++ (([1] ++ List.replicate 11 0
     ++ [200,0,0,0] ++ List.replicate 32 0 : List Byte)), none, true, 2⟩ : DxFrame), by decide +kernel⟩⟩

/-- The hypotheses of KeyCommands, clause by clause, at states and operands that meet them. -/
theorem witness_KeyCommands :
(∃ (s : State) (n : Nat) (b : KeyBody) (bs : List Byte) (g : Bool) (k : Nat) (c : Instr), startable s.dev n clsMbox 16 =
      none ∧ c ∈ [Instr.keyInfo n, Instr.keyImport n b, Instr.keyDerive n b, Instr.keyUnwrap n b, Instr.keyCommit n g,
      Instr.keyErase n, Instr.keyAttest n bs, Instr.fwStatus n, Instr.fwWrite n k bs, Instr.fwCheck n k, Instr.fwActivate n,
      Instr.fwSettings n bs]) ∧
(∃ (s : State) (n : Nat) (b : KeyBody) (bs : List Byte) (g : Bool) (k : Nat) (h : Taken) (x : Instr × Nat × Nat), startable
      s.dev n clsMbox 16 = some h ∧ x ∈ [(Instr.keyInfo n, 1, 1), (Instr.keyImport n b, 1, 2), (Instr.keyDerive n b, 1, 3),
      (Instr.keyUnwrap n b, 1, 4), (Instr.keyCommit n g, 1, 5), (Instr.keyErase n, 1, 6), (Instr.keyAttest n bs, 1, 7),
      (Instr.fwStatus n, 2, 1), (Instr.fwWrite n k bs, 2, 2), (Instr.fwCheck n k, 2, 3), (Instr.fwActivate n, 2, 4),
      (Instr.fwSettings n bs, 2, 5)] ∧ (kService h.words ≠ x.2.1 ∨ kCmd h.words ≠ x.2.2)) ∧
(∃ (s : State) (n : Nat) (b : KeyBody) (bs : List Byte) (g : Bool) (k : Nat) (h : Taken) (x : Instr × Nat × Nat), startable
      s.dev n clsMbox 16 = some h ∧ x ∈ [(Instr.keyInfo n, 1, 1), (Instr.keyImport n b, 1, 2), (Instr.keyDerive n b, 1, 3),
      (Instr.keyUnwrap n b, 1, 4), (Instr.keyCommit n g, 1, 5), (Instr.keyErase n, 1, 6), (Instr.keyAttest n bs, 1, 7),
      (Instr.fwStatus n, 2, 1), (Instr.fwWrite n k bs, 2, 2), (Instr.fwCheck n k, 2, 3), (Instr.fwActivate n, 2, 4),
      (Instr.fwSettings n bs, 2, 5)] ∧ kService h.words = x.2.1 ∧ kCmd h.words = x.2.2 ∧ s.dev.on Reg.GLB_STATUS.XFAIL =
      true) ∧
(∃ (s : State) (n : Nat) (b : KeyBody) (bs : List Byte) (g : Bool) (k : Nat) (h : Taken) (x : Instr × Nat × Nat), startable
      s.dev n clsMbox 16 = some h ∧ x ∈ [(Instr.keyInfo n, 1, 1), (Instr.keyImport n b, 1, 2), (Instr.keyDerive n b, 1, 3),
      (Instr.keyUnwrap n b, 1, 4), (Instr.keyCommit n g, 1, 5), (Instr.keyErase n, 1, 6), (Instr.keyAttest n bs, 1, 7),
      (Instr.fwStatus n, 2, 1), (Instr.fwWrite n k bs, 2, 2), (Instr.fwCheck n k, 2, 3), (Instr.fwActivate n, 2, 4),
      (Instr.fwSettings n bs, 2, 5)] ∧ kService h.words = x.2.1 ∧ kCmd h.words = x.2.2 ∧ s.dev.on Reg.GLB_STATUS.XFAIL =
      false ∧ s.dev.inReset islMgt = true) ∧
(∃ (s : State) (n : Nat) (b : KeyBody) (bs : List Byte) (g : Bool) (k : Nat) (h : Taken) (x : Instr × Nat × Nat), startable
      s.dev n clsMbox 16 = some h ∧ x ∈ [(Instr.keyInfo n, 1, 1), (Instr.keyImport n b, 1, 2), (Instr.keyDerive n b, 1, 3),
      (Instr.keyUnwrap n b, 1, 4), (Instr.keyCommit n g, 1, 5), (Instr.keyErase n, 1, 6), (Instr.keyAttest n bs, 1, 7),
      (Instr.fwStatus n, 2, 1), (Instr.fwWrite n k bs, 2, 2), (Instr.fwCheck n k, 2, 3), (Instr.fwActivate n, 2, 4),
      (Instr.fwSettings n bs, 2, 5)] ∧ kService h.words = x.2.1 ∧ kCmd h.words = x.2.2 ∧ s.dev.on Reg.GLB_STATUS.XFAIL =
      false ∧ s.dev.inReset islMgt = false ∧ xaornUp s.dev = false) ∧
(∃ (s : State) (n : Nat) (b : KeyBody) (bs : List Byte) (g : Bool) (h : Taken) (x : Instr × Nat), x ∈ [(Instr.keyInfo n, 1),
      (Instr.keyImport n b, 2), (Instr.keyDerive n b, 3), (Instr.keyUnwrap n b, 4), (Instr.keyCommit n g, 5),
      (Instr.keyErase n, 6), (Instr.keyAttest n bs, 7)] ∧ mboxReady s.dev n 1 x.2 h ∧ s.dev.keys.cmd.isSome = true) ∧
(∃ (s : State) (n : Nat) (b : KeyBody) (bs : List Byte) (g : Bool) (h : Taken) (x : Instr × Nat), x ∈ [(Instr.keyInfo n, 1),
      (Instr.keyImport n b, 2), (Instr.keyDerive n b, 3), (Instr.keyUnwrap n b, 4), (Instr.keyCommit n g, 5),
      (Instr.keyErase n, 6), (Instr.keyAttest n bs, 7)] ∧ mboxReady s.dev n 1 x.2 h ∧ s.dev.keys.cmd = none ∧ s.dev.on
      Reg.KEY_STATUS.FUSE_OK = false) ∧
(∃ (s : State) (n : Nat) (b : KeyBody) (bs : List Byte) (g : Bool) (h : Taken) (x : Instr × Nat), x ∈ [(Instr.keyInfo n, 1),
      (Instr.keyImport n b, 2), (Instr.keyDerive n b, 3), (Instr.keyUnwrap n b, 4), (Instr.keyCommit n g, 5),
      (Instr.keyErase n, 6), (Instr.keyAttest n bs, 7)] ∧ mboxReady s.dev n 1 x.2 h ∧ s.dev.keys.cmd = none ∧ s.dev.on
      Reg.KEY_STATUS.FUSE_OK = true ∧ 64 ≤ kSlot h.words) ∧
(∃ (s : State) (n : Nat) (b : KeyBody) (bs : List Byte) (h : Taken) (x : Instr × Nat), dLen h.words = 0 ∧ x ∈
      [(Instr.keyImport n b, 2), (Instr.keyDerive n b, 3), (Instr.keyUnwrap n b, 4), (Instr.keyAttest n bs, 7)] ∧ keyReady
      s.dev n x.2 h) ∧
(∃ (s : State) (n : Nat) (h : Taken), keyReady s.dev n 1 h ∧ kRlen h.words < 32) ∧
(∃ (s : State) (n : Nat) (h : Taken), keyReady s.dev n 1 h ∧ 32 ≤ kRlen h.words) ∧
(∃ (s : State) (n : Nat) (nonce : List Byte) (h : Taken), keyReady s.dev n 7 h ∧ dLen h.words ≠ 0 ∧ kRlen h.words <
      (attestation s.time nonce s.dev).length) ∧
(∃ (s : State) (n : Nat) (nonce : List Byte) (h : Taken), keyReady s.dev n 7 h ∧ dLen h.words ≠ 0 ∧ (attestation s.time
      nonce s.dev).length ≤ kRlen h.words) :=
  ⟨⟨tSt, 40, (⟨1,1,77,false,none,1234,3,1,some 55,0,[],[]⟩ : KeyBody), [1,2], true, 5, Sys2Proof.Instr.keyInfo 40,
     by decide +kernel⟩,
   ⟨tWith [putN Reg.HIF_RINGn_STAT.STATE 40 1, dev fun d => d.setRing 40
     { d.ring 40 with cls := clsMbox, log2 := 4, taken := [(⟨3, [458768,0,16384,0,64,0,67305985,36864,0,2000,0,0,0,0,0,0], false⟩ : Taken)], started := [] }],
     40, (⟨1,1,77,false,none,1234,3,1,some 55,0,[],[]⟩ : KeyBody), [1,2], true, 5,
     { idx := 3, words := [458768, 0, 16384, 0, 64, 0, 67305985, 36864, 0, 2000, 0, 0, 0, 0, 0, 0], released := false },
     (Sys2Proof.Instr.keyInfo 40, 1, 1), by decide +kernel⟩,
   ⟨tWith [putN Reg.HIF_RINGn_STAT.STATE 40 1, dev fun d => d.setRing 40
     { d.ring 40 with cls := clsMbox, log2 := 4, taken := [(⟨3, [458768,0,16384,0,64,0,67305729,36864,0,2000,0,0,0,0,0,0], false⟩ : Taken)], started := [] },
     put Reg.GLB_STATUS.XFAIL 1], 40, (⟨1,1,77,false,none,1234,3,1,some 55,0,[],[]⟩ : KeyBody), [1,2], true, 5,
     { idx := 3, words := [458768, 0, 16384, 0, 64, 0, 67305729, 36864, 0, 2000, 0, 0, 0, 0, 0, 0], released := false },
     (Sys2Proof.Instr.keyInfo 40, 1, 1), by decide +kernel⟩,
   ⟨tWith [putN Reg.HIF_RINGn_STAT.STATE 40 1, dev fun d => d.setRing 40
     { d.ring 40 with cls := clsMbox, log2 := 4, taken := [(⟨3, [458768,0,16384,0,64,0,67305729,36864,0,2000,0,0,0,0,0,0], false⟩ : Taken)], started := [] },
     put Reg.GLB_STATUS.XFAIL 0, dev fun d => { d with isl := tset d.isl islMgt ⟨.reset, false, false⟩ }], 40,
     (⟨1,1,77,false,none,1234,3,1,some 55,0,[],[]⟩ : KeyBody), [1,2], true, 5,
     { idx := 3, words := [458768, 0, 16384, 0, 64, 0, 67305729, 36864, 0, 2000, 0, 0, 0, 0, 0, 0], released := false },
     (Sys2Proof.Instr.keyInfo 40, 1, 1), by decide +kernel⟩,
   ⟨tWith [putN Reg.HIF_RINGn_STAT.STATE 40 1, dev fun d => d.setRing 40
     { d.ring 40 with cls := clsMbox, log2 := 4, taken := [(⟨3, [458768,0,16384,0,64,0,67305729,36864,0,2000,0,0,0,0,0,0], false⟩ : Taken)], started := [] }],
     40, (⟨1,1,77,false,none,1234,3,1,some 55,0,[],[]⟩ : KeyBody), [1,2], true, 5,
     { idx := 3, words := [458768, 0, 16384, 0, 64, 0, 67305729, 36864, 0, 2000, 0, 0, 0, 0, 0, 0], released := false },
     (Sys2Proof.Instr.keyInfo 40, 1, 1), by decide +kernel⟩,
   ⟨tWith [put Reg.GLB_STATUS.XAORN_RUN 1, put Reg.KEY_STATUS.FUSE_OK 1, putN Reg.HIF_RINGn_STAT.STATE 40 1, dev fun d =>
     d.setRing 40
     { d.ring 40 with cls := clsMbox, log2 := 4, taken := [(⟨3, [458768,0,16384,0,64,0,67305729,36864,0,2000,0,0,0,0,0,0], false⟩ : Taken)], started := [] },
     fun s => { s with dev.keys.cmd := some default }], 40, (⟨1,1,77,false,none,1234,3,1,some 55,0,[],[]⟩ : KeyBody), [1,2],
     true,
     { idx := 3, words := [458768, 0, 16384, 0, 64, 0, 67305729, 36864, 0, 2000, 0, 0, 0, 0, 0, 0], released := false },
     (Sys2Proof.Instr.keyInfo 40, 1), by decide +kernel, by unfold mboxReady; decide +kernel, by decide +kernel⟩,
   ⟨tWith [put Reg.GLB_STATUS.XAORN_RUN 1, put Reg.KEY_STATUS.FUSE_OK 1, putN Reg.HIF_RINGn_STAT.STATE 40 1, dev fun d =>
     d.setRing 40
     { d.ring 40 with cls := clsMbox, log2 := 4, taken := [(⟨3, [458768,0,16384,0,64,0,67305729,36864,0,2000,0,0,0,0,0,0], false⟩ : Taken)], started := [] },
     fun s => { s with dev.keys.cmd := none }, put Reg.KEY_STATUS.FUSE_OK 0], 40, (⟨1,1,77,false,none,1234,3,1,some
     55,0,[],[]⟩ : KeyBody), [1,2], true,
     { idx := 3, words := [458768, 0, 16384, 0, 64, 0, 67305729, 36864, 0, 2000, 0, 0, 0, 0, 0, 0], released := false },
     (Sys2Proof.Instr.keyInfo 40, 1), by decide +kernel, by unfold mboxReady; decide +kernel, by decide +kernel⟩,
   ⟨tWith [put Reg.GLB_STATUS.XAORN_RUN 1, put Reg.KEY_STATUS.FUSE_OK 1, putN Reg.HIF_RINGn_STAT.STATE 40 1, dev fun d =>
     d.setRing 40
     { d.ring 40 with cls := clsMbox, log2 := 4, taken := [(⟨3, [458768,0,16384,0,64,0,71303425,36864,0,2000,0,0,0,0,0,0], false⟩ : Taken)], started := [] }],
     40, (⟨1,1,77,false,none,1234,3,1,some 55,0,[],[]⟩ : KeyBody), [1,2], true,
     { idx := 3, words := [458768, 0, 16384, 0, 64, 0, 71303425, 36864, 0, 2000, 0, 0, 0, 0, 0, 0], released := false },
     (Sys2Proof.Instr.keyInfo 40, 1), by decide +kernel, by unfold mboxReady; decide +kernel, by decide +kernel⟩,
   ⟨tWith [put Reg.GLB_STATUS.XAORN_RUN 1, put Reg.KEY_STATUS.FUSE_OK 1, putN Reg.HIF_RINGn_STAT.STATE 40 1, dev fun d =>
     d.setRing 40
     { d.ring 40 with cls := clsMbox, log2 := 4, taken := [(⟨3, [458768,0,16384,0,0,0,67305985,36864,0,2000,0,0,0,0,0,0], false⟩ : Taken)], started := [] }],
     40, (⟨1,1,77,false,none,1234,3,1,some 55,0,[],[]⟩ : KeyBody), [1,2],
     { idx := 3, words := [458768, 0, 16384, 0, 0, 0, 67305985, 36864, 0, 2000, 0, 0, 0, 0, 0, 0], released := false },
     (Sys2Proof.Instr.keyImport    40   
     { usage := 1,      len := 1,      keyId := 77,      persist := false,      kcv := none,      material := 1234,      wrapSlot := 3,      wrapGen := 1,      wrapKey := some 55,      kdf := 0,      label := [],      context := [] },
      2), by decide +kernel, by decide +kernel, by unfold keyReady mboxReady; decide +kernel⟩,
   ⟨tWith [put Reg.GLB_STATUS.XAORN_RUN 1, put Reg.KEY_STATUS.FUSE_OK 1, putN Reg.HIF_RINGn_STAT.STATE 40 1, dev fun d =>
     d.setRing 40
     { d.ring 40 with cls := clsMbox, log2 := 4, taken := [(⟨3, [458768,0,16384,0,64,0,67305729,36864,0,20,0,0,0,0,0,0], false⟩ : Taken)], started := [] }],
     40, { idx := 3, words := [458768, 0, 16384, 0, 64, 0, 67305729, 36864, 0, 20, 0, 0, 0, 0, 0, 0], released := false },
     by unfold keyReady mboxReady; decide +kernel, by decide +kernel⟩,
   ⟨tWith [put Reg.GLB_STATUS.XAORN_RUN 1, put Reg.KEY_STATUS.FUSE_OK 1, putN Reg.HIF_RINGn_STAT.STATE 40 1, dev fun d =>
     d.setRing 40
     { d.ring 40 with cls := clsMbox, log2 := 4, taken := [(⟨3, [458768,0,16384,0,64,0,67305729,36864,0,2000,0,0,0,0,0,0], false⟩ : Taken)], started := [] }],
     40, { idx := 3, words := [458768, 0, 16384, 0, 64, 0, 67305729, 36864, 0, 2000, 0, 0, 0, 0, 0, 0], released := false },
     by unfold keyReady mboxReady; decide +kernel, by decide +kernel⟩,
   ⟨tWith [put Reg.GLB_STATUS.XAORN_RUN 1, put Reg.KEY_STATUS.FUSE_OK 1, putN Reg.HIF_RINGn_STAT.STATE 40 1, dev fun d =>
     d.setRing 40
     { d.ring 40 with cls := clsMbox, log2 := 4, taken := [(⟨3, [458768,0,16384,0,64,0,67307265,36864,0,20,0,0,0,0,0,0], false⟩ : Taken)], started := [] }],
     40, [1,2],
     { idx := 3, words := [458768, 0, 16384, 0, 64, 0, 67307265, 36864, 0, 20, 0, 0, 0, 0, 0, 0], released := false },
     by unfold keyReady mboxReady; decide +kernel, by decide +kernel⟩,
   ⟨tWith [put Reg.GLB_STATUS.XAORN_RUN 1, put Reg.KEY_STATUS.FUSE_OK 1, putN Reg.HIF_RINGn_STAT.STATE 40 1, dev fun d =>
     d.setRing 40
     { d.ring 40 with cls := clsMbox, log2 := 4, taken := [(⟨3, [458768,0,16384,0,64,0,67307265,36864,0,70000,0,0,0,0,0,0], false⟩ : Taken)], started := [] }],
     40, [1,2],
     { idx := 3, words := [458768, 0, 16384, 0, 64, 0, 67307265, 36864, 0, 70000, 0, 0, 0, 0, 0, 0], released := false },
     by unfold keyReady mboxReady; decide +kernel, by decide +kernel, by rw [attestation_length]; exact le_trans (Nat.add_le_add_left (Nat.mod_lt _ (by decide)).le _) (by decide +kernel)⟩⟩

/-- The hypotheses of KeyLife, clause by clause, at states and operands that meet them. -/
theorem witness_KeyLife :
(∃ (s : State) (n : Nat) (b : KeyBody) (h : Taken), keyReady s.dev n 2 h ∧ dLen h.words ≠ 0 ∧ keyBodyRefused (kSlot h.words)
      b s.dev = true) ∧
(∃ (s : State) (n : Nat) (b : KeyBody) (h : Taken), keyReady s.dev n 2 h ∧ dLen h.words ≠ 0 ∧ keyBodyRefused (kSlot h.words)
      b s.dev = false ∧ (b.wrapKey = none ∨ b.wrapSlot ≠ kSlot h.words ∨ b.wrapGen ≠ newGen (kSlot h.words) s.dev)) ∧
(∃ (s : State) (n : Nat) (b : KeyBody) (h : Taken), keyReady s.dev n 2 h ∧ dLen h.words ≠ 0 ∧ keyBodyRefused (kSlot h.words)
      b s.dev = false ∧ b.wrapKey ≠ none ∧ b.wrapSlot = kSlot h.words ∧ b.wrapGen = newGen (kSlot h.words) s.dev) ∧
(∃ (s : State) (n : Nat) (h : Taken), keyReady s.dev n 3 h ∧ dLen h.words ≠ 0 ∧ parentOf (kParent h.words) 6 s.dev = none) ∧
(∃ (s : State) (n : Nat) (b : KeyBody) (h : Taken) (p : KeyRec), keyReady s.dev n 3 h ∧ dLen h.words ≠ 0 ∧ parentOf (kParent
      h.words) 6 s.dev = some p ∧ (keyBodyRefused (kSlot h.words) b s.dev = true ∨ 1 < b.kdf ∨ 64 < b.label.length ∨ 64 <
      b.context.length)) ∧
(∃ (s : State) (n : Nat) (b : KeyBody) (h : Taken) (p : KeyRec), keyReady s.dev n 3 h ∧ dLen h.words ≠ 0 ∧ parentOf (kParent
      h.words) 6 s.dev = some p ∧ keyBodyRefused (kSlot h.words) b s.dev = false ∧ b.kdf ≤ 1 ∧ b.label.length ≤ 64 ∧
      b.context.length ≤ 64) ∧
(∃ (s : State) (n : Nat) (h : Taken), keyReady s.dev n 4 h ∧ dLen h.words ≠ 0 ∧ parentOf (kParent h.words) 5 s.dev = none) ∧
(∃ (s : State) (n : Nat) (b : KeyBody) (h : Taken) (p : KeyRec), keyReady s.dev n 4 h ∧ dLen h.words ≠ 0 ∧ parentOf (kParent
      h.words) 5 s.dev = some p ∧ keyBodyRefused (kSlot h.words) b s.dev = true) ∧
(∃ (s : State) (n : Nat) (b : KeyBody) (h : Taken) (p : KeyRec), keyReady s.dev n 4 h ∧ dLen h.words ≠ 0 ∧ parentOf (kParent
      h.words) 5 s.dev = some p ∧ keyBodyRefused (kSlot h.words) b s.dev = false ∧ b.wrapKey ≠ some p.material) ∧
(∃ (s : State) (n : Nat) (b : KeyBody) (h : Taken) (p : KeyRec), keyReady s.dev n 4 h ∧ dLen h.words ≠ 0 ∧ parentOf (kParent
      h.words) 5 s.dev = some p ∧ keyBodyRefused (kSlot h.words) b s.dev = false ∧ b.wrapKey = some p.material) ∧
(∃ (h : Taken), kSlot h.words < 64) ∧
(∃ (h : Taken) (b : KeyBody) (k : KeyRec) (c : Nat), kSlot h.words < 64 ∧ b.kcv = some c ∧ c ≠ k.material) ∧
(∃ (h : Taken) (b : KeyBody) (k : KeyRec), kSlot h.words < 64 ∧ k.persist = false ∧ b.kcv = some k.material) ∧
(∃ (h : Taken) (b : KeyBody) (k : KeyRec), kSlot h.words < 64 ∧ k.persist = false ∧ b.kcv = none) ∧
(∃ (h : Taken) (b : KeyBody) (k : KeyRec) (d : Dev), kSlot h.words < 64 ∧ k.persist = true ∧ (b.kcv = some k.material ∨
      b.kcv = none) ∧ d.on Reg.GLB_STATUS.PFW = true) ∧
(∃ (h : Taken) (b : KeyBody) (k : KeyRec) (d : Dev), kSlot h.words < 64 ∧ k.persist = true ∧ (b.kcv = some k.material ∨
      b.kcv = none) ∧ d.on Reg.GLB_STATUS.PFW = false) ∧
(∃ (s : State), s.dev.keys.cmd = none ∨ xaornUp s.dev = false) ∧
(∃ (s : State) (c : KeyCmd), s.dev.keys.cmd = some c ∧ xaornUp s.dev = true ∧ c.slot < 64) ∧
(∃ (s : State) (n : Nat) (h : Taken), keyReady s.dev n 5 h ∧ (s.dev.keySlot (kSlot h.words)).pending = none) ∧
(∃ (s : State) (n : Nat) (h : Taken) (k : KeyRec), keyReady s.dev n 5 h ∧ (s.dev.keySlot (kSlot h.words)).pending = some (k,
      false)) ∧
(∃ (s : State) (n : Nat) (h : Taken) (k : KeyRec), keyReady s.dev n 5 h ∧ (s.dev.keySlot (kSlot h.words)).pending = some (k,
      true) ∧ k.persist = true ∧ s.dev.on Reg.GLB_STATUS.PFW = true) ∧
(∃ (s : State) (n : Nat) (g : Bool) (h : Taken) (k : KeyRec), keyReady s.dev n 5 h ∧ (s.dev.keySlot (kSlot h.words)).pending
      = some (k, true) ∧ k.persist = true ∧ s.dev.on Reg.GLB_STATUS.PFW = false ∧ g = false) ∧
(∃ (s : State) (n : Nat) (g : Bool) (h : Taken) (k : KeyRec), keyReady s.dev n 5 h ∧ (s.dev.keySlot (kSlot h.words)).pending
      = some (k, true) ∧ (k.persist = false ∨ g = true ∧ s.dev.on Reg.GLB_STATUS.PFW = false)) ∧
(∃ (s : State) (n : Nat) (h : Taken), keyReady s.dev n 6 h ∧ slotIsParent (kSlot h.words) s.dev = true) ∧
(∃ (s : State) (n : Nat) (h : Taken), keyReady s.dev n 6 h ∧ slotIsParent (kSlot h.words) s.dev = false ∧ s.dev.on
      Reg.GLB_STATUS.PFW = true ∧ ((tget s.dev.keys.copies (2 * kSlot h.words)).isSome = true ∨ (tget s.dev.keys.copies (2 *
      kSlot h.words + 1)).isSome = true)) ∧
(∃ (s : State) (n : Nat) (h : Taken), keyReady s.dev n 6 h ∧ slotIsParent (kSlot h.words) s.dev = false ∧ (s.dev.on
      Reg.GLB_STATUS.PFW = false ∨ tget s.dev.keys.copies (2 * kSlot h.words) = none ∧ tget s.dev.keys.copies (2 * kSlot
      h.words + 1) = none)) :=
  ⟨⟨tWith [put Reg.GLB_STATUS.XAORN_RUN 1, put Reg.KEY_STATUS.FUSE_OK 1, putN Reg.HIF_RINGn_STAT.STATE 40 1, dev fun d =>
     d.setRing 40
     { d.ring 40 with cls := clsMbox, log2 := 4, taken := [(⟨3, [458768,0,16384,0,64,0,67305985,36864,0,2000,0,0,0,0,0,0], false⟩ : Taken)], started := [] },
     dev fun d => d.modKeys fun k =>
     { k with slots := tset k.slots 4 ⟨some (⟨55,0x60,true,1,3,77,false,0⟩ : KeyRec), none⟩ }], 40,
     (⟨1,1,77,false,none,1234,3,1,some 55,0,[],[]⟩ : KeyBody),
     { idx := 3, words := [458768, 0, 16384, 0, 64, 0, 67305985, 36864, 0, 2000, 0, 0, 0, 0, 0, 0], released := false },
     by unfold keyReady mboxReady; decide +kernel, by decide +kernel⟩,
   ⟨tWith [put Reg.GLB_STATUS.XAORN_RUN 1, put Reg.KEY_STATUS.FUSE_OK 1, putN Reg.HIF_RINGn_STAT.STATE 40 1, dev fun d =>
     d.setRing 40
     { d.ring 40 with cls := clsMbox, log2 := 4, taken := [(⟨3, [458768,0,16384,0,64,0,67305985,36864,0,2000,0,0,0,0,0,0], false⟩ : Taken)], started := [] }],
     40, (⟨1,1,77,false,none,1234,3,1,none,0,[],[]⟩ : KeyBody),
     { idx := 3, words := [458768, 0, 16384, 0, 64, 0, 67305985, 36864, 0, 2000, 0, 0, 0, 0, 0, 0], released := false },
     by unfold keyReady mboxReady; decide +kernel, by decide +kernel⟩,
   ⟨tWith [put Reg.GLB_STATUS.XAORN_RUN 1, put Reg.KEY_STATUS.FUSE_OK 1, putN Reg.HIF_RINGn_STAT.STATE 40 1, dev fun d =>
     d.setRing 40
     { d.ring 40 with cls := clsMbox, log2 := 4, taken := [(⟨3, [458768,0,16384,0,64,0,67305985,36864,0,2000,0,0,0,0,0,0], false⟩ : Taken)], started := [] }],
     40, (⟨1,1,77,false,none,1234,3,1,some 55,0,[],[]⟩ : KeyBody),
     { idx := 3, words := [458768, 0, 16384, 0, 64, 0, 67305985, 36864, 0, 2000, 0, 0, 0, 0, 0, 0], released := false },
     by unfold keyReady mboxReady; decide +kernel, by decide +kernel⟩,
   ⟨tWith [put Reg.GLB_STATUS.XAORN_RUN 1, put Reg.KEY_STATUS.FUSE_OK 1, putN Reg.HIF_RINGn_STAT.STATE 40 1, dev fun d =>
     d.setRing 40
     { d.ring 40 with cls := clsMbox, log2 := 4, taken := [(⟨3, [458768,0,16384,0,64,0,67306241,36864,0,2000,0,0,0,0,0,0], false⟩ : Taken)], started := [] }],
     40, { idx := 3, words := [458768, 0, 16384, 0, 64, 0, 67306241, 36864, 0, 2000, 0, 0, 0, 0, 0, 0], released := false },
     by unfold keyReady mboxReady; decide +kernel, by decide +kernel⟩,
   ⟨tWith [put Reg.GLB_STATUS.XAORN_RUN 1, put Reg.KEY_STATUS.FUSE_OK 1, putN Reg.HIF_RINGn_STAT.STATE 40 1, dev fun d =>
     d.setRing 40
     { d.ring 40 with cls := clsMbox, log2 := 4, taken := [(⟨3, [458768,0,16384,0,64,0,67306241,36864,0,2000,0,0,0,0,0,0], false⟩ : Taken)], started := [] },
     dev fun d => d.modKeys fun k =>
     { k with slots := tset k.slots 4 ⟨some (⟨55,0x60,true,1,3,77,false,0⟩ : KeyRec), none⟩ }], 40,
     (⟨1,1,77,false,none,1234,3,1,some 55,0,[],[]⟩ : KeyBody),
     { idx := 3, words := [458768, 0, 16384, 0, 64, 0, 67306241, 36864, 0, 2000, 0, 0, 0, 0, 0, 0], released := false },
     { material := 55, usage := 96, long := true, depth := 1, parent := 3, keyId := 77, persist := false, gen := 0 },
     by unfold keyReady mboxReady; decide +kernel, by decide +kernel⟩,
   ⟨tWith [put Reg.GLB_STATUS.XAORN_RUN 1, put Reg.KEY_STATUS.FUSE_OK 1, putN Reg.HIF_RINGn_STAT.STATE 40 1, dev fun d =>
     d.setRing 40
     { d.ring 40 with cls := clsMbox, log2 := 4, taken := [(⟨3, [458768,0,16384,0,64,0,67306241,36864,0,2000,0,0,0,0,0,0], false⟩ : Taken)], started := [] },
     dev fun d => d.modKeys fun k =>
     { k with slots := tset k.slots 4 ⟨some (⟨55,96,true,0,0,77,false,0⟩ : KeyRec), none⟩ }], 40,
     (⟨1,1,77,false,none,1234,3,1,some 55,0,[],[]⟩ : KeyBody),
     { idx := 3, words := [458768, 0, 16384, 0, 64, 0, 67306241, 36864, 0, 2000, 0, 0, 0, 0, 0, 0], released := false },
     { material := 55, usage := 96, long := true, depth := 0, parent := 0, keyId := 77, persist := false, gen := 0 },
     by unfold keyReady mboxReady; decide +kernel, by decide +kernel⟩,
   ⟨tWith [put Reg.GLB_STATUS.XAORN_RUN 1, put Reg.KEY_STATUS.FUSE_OK 1, putN Reg.HIF_RINGn_STAT.STATE 40 1, dev fun d =>
     d.setRing 40
     { d.ring 40 with cls := clsMbox, log2 := 4, taken := [(⟨3, [458768,0,16384,0,64,0,67306497,36864,0,2000,0,0,0,0,0,0], false⟩ : Taken)], started := [] }],
     40, { idx := 3, words := [458768, 0, 16384, 0, 64, 0, 67306497, 36864, 0, 2000, 0, 0, 0, 0, 0, 0], released := false },
     by unfold keyReady mboxReady; decide +kernel, by decide +kernel⟩,
   ⟨tWith [put Reg.GLB_STATUS.XAORN_RUN 1, put Reg.KEY_STATUS.FUSE_OK 1, putN Reg.HIF_RINGn_STAT.STATE 40 1, dev fun d =>
     d.setRing 40
     { d.ring 40 with cls := clsMbox, log2 := 4, taken := [(⟨3, [458768,0,16384,0,64,0,67306497,36864,0,2000,0,0,0,0,0,0], false⟩ : Taken)], started := [] },
     dev fun d => d.modKeys fun k =>
     { k with slots := tset k.slots 4 ⟨some (⟨55,0x60,true,1,3,77,false,0⟩ : KeyRec), none⟩ }], 40,
     (⟨1,1,77,false,none,1234,3,1,some 55,0,[],[]⟩ : KeyBody),
     { idx := 3, words := [458768, 0, 16384, 0, 64, 0, 67306497, 36864, 0, 2000, 0, 0, 0, 0, 0, 0], released := false },
     { material := 55, usage := 96, long := true, depth := 1, parent := 3, keyId := 77, persist := false, gen := 0 },
     by unfold keyReady mboxReady; decide +kernel, by decide +kernel⟩,
   ⟨tWith [put Reg.GLB_STATUS.XAORN_RUN 1, put Reg.KEY_STATUS.FUSE_OK 1, putN Reg.HIF_RINGn_STAT.STATE 40 1, dev fun d =>
     d.setRing 40
     { d.ring 40 with cls := clsMbox, log2 := 4, taken := [(⟨3, [458768,0,16384,0,64,0,67306497,36864,0,2000,0,0,0,0,0,0], false⟩ : Taken)], started := [] },
     dev fun d => d.modKeys fun k =>
     { k with slots := tset k.slots 4 ⟨some (⟨55,96,true,0,0,77,false,0⟩ : KeyRec), none⟩ }], 40,
     (⟨1,1,77,false,none,1234,3,1,none,0,[],[]⟩ : KeyBody),
     { idx := 3, words := [458768, 0, 16384, 0, 64, 0, 67306497, 36864, 0, 2000, 0, 0, 0, 0, 0, 0], released := false },
     { material := 55, usage := 96, long := true, depth := 0, parent := 0, keyId := 77, persist := false, gen := 0 },
     by unfold keyReady mboxReady; decide +kernel, by decide +kernel⟩,
   ⟨tWith [put Reg.GLB_STATUS.XAORN_RUN 1, put Reg.KEY_STATUS.FUSE_OK 1, putN Reg.HIF_RINGn_STAT.STATE 40 1, dev fun d =>
     d.setRing 40
     { d.ring 40 with cls := clsMbox, log2 := 4, taken := [(⟨3, [458768,0,16384,0,64,0,67306497,36864,0,2000,0,0,0,0,0,0], false⟩ : Taken)], started := [] },
     dev fun d => d.modKeys fun k =>
     { k with slots := tset k.slots 4 ⟨some (⟨55,96,true,0,0,77,false,0⟩ : KeyRec), none⟩ }], 40,
     (⟨1,1,77,false,none,1234,3,1,some 55,0,[],[]⟩ : KeyBody),
     { idx := 3, words := [458768, 0, 16384, 0, 64, 0, 67306497, 36864, 0, 2000, 0, 0, 0, 0, 0, 0], released := false },
     { material := 55, usage := 96, long := true, depth := 0, parent := 0, keyId := 77, persist := false, gen := 0 },
     by unfold keyReady mboxReady; decide +kernel, by decide +kernel⟩,
   ⟨(⟨3, [458768,0,16384,0,64,0,67305985,36864,0,2000,0,0,0,0,0,0], false⟩ : Taken), by decide +kernel⟩,
   ⟨(⟨3, [458768,0,16384,0,64,0,67305985,36864,0,2000,0,0,0,0,0,0], false⟩ : Taken), (⟨1,1,77,false,some 9,1234,3,1,some
     55,0,[],[]⟩ : KeyBody), (⟨55,96,true,0,0,77,false,0⟩ : KeyRec), 9, by decide +kernel⟩,
   ⟨(⟨3, [458768,0,16384,0,64,0,67305985,36864,0,2000,0,0,0,0,0,0], false⟩ : Taken), (⟨1,1,77,true,some 1234,1234,3,1,some
     55,0,[],[]⟩ : KeyBody), (⟨1234,1,true,0,0,77,false,0⟩ : KeyRec), by decide +kernel⟩,
   ⟨(⟨3, [458768,0,16384,0,64,0,67305985,36864,0,2000,0,0,0,0,0,0], false⟩ : Taken), (⟨1,1,77,false,none,1234,3,1,some
     55,0,[],[]⟩ : KeyBody), (⟨55,96,true,0,0,77,false,0⟩ : KeyRec), by decide +kernel⟩,
   ⟨(⟨3, [458768,0,16384,0,64,0,67305985,36864,0,2000,0,0,0,0,0,0], false⟩ : Taken), (⟨1,1,77,false,none,1234,3,1,some
     55,0,[],[]⟩ : KeyBody), (⟨1234,1,true,0,0,77,true,0⟩ : KeyRec), (tWith [put Reg.GLB_STATUS.PFW 1]).dev,
     by decide +kernel⟩,
   ⟨(⟨3, [458768,0,16384,0,64,0,67305985,36864,0,2000,0,0,0,0,0,0], false⟩ : Taken), (⟨1,1,77,false,none,1234,3,1,some
     55,0,[],[]⟩ : KeyBody), (⟨1234,1,true,0,0,77,true,0⟩ : KeyRec), tSt.dev, by decide +kernel⟩,
   ⟨tSt, by decide +kernel⟩,
   ⟨tWith [fun s => { s with dev.keys.cmd := some (⟨40,3,3,(⟨1234,1,true,0,0,77,false,0⟩ : KeyRec),false⟩ : KeyCmd) }, put
     Reg.GLB_STATUS.XAORN_RUN 1], (⟨40,3,3,(⟨1234,1,true,0,0,77,false,0⟩ : KeyRec),false⟩ : KeyCmd), by decide +kernel⟩,
   ⟨tWith [put Reg.GLB_STATUS.XAORN_RUN 1, put Reg.KEY_STATUS.FUSE_OK 1, putN Reg.HIF_RINGn_STAT.STATE 40 1, dev fun d =>
     d.setRing 40
     { d.ring 40 with cls := clsMbox, log2 := 4, taken := [(⟨3, [458768,0,16384,0,64,0,67306753,36864,0,2000,0,0,0,0,0,0], false⟩ : Taken)], started := [] }],
     40, (⟨3, [458768,0,16384,0,64,0,67306753,36864,0,2000,0,0,0,0,0,0], false⟩ : Taken),
     by unfold keyReady mboxReady; decide +kernel, by decide +kernel⟩,
   ⟨tWith [put Reg.GLB_STATUS.XAORN_RUN 1, put Reg.KEY_STATUS.FUSE_OK 1, putN Reg.HIF_RINGn_STAT.STATE 40 1, dev fun d =>
     d.setRing 40
     { d.ring 40 with cls := clsMbox, log2 := 4, taken := [(⟨3, [458768,0,16384,0,64,0,67306753,36864,0,2000,0,0,0,0,0,0], false⟩ : Taken)], started := [] },
     dev fun d =>
     { d with keys := { d.keys with slots := tset d.keys.slots (kSlot (⟨3, [458768,0,16384,0,64,0,67306753,36864,0,2000,0,0,0,0,0,0], false⟩ : Taken).words) { d.keySlot (kSlot (⟨3, [458768,0,16384,0,64,0,67306753,36864,0,2000,0,0,0,0,0,0], false⟩ : Taken).words) with pending := some ((⟨55,96,true,0,0,77,false,0⟩ : KeyRec), false) } } }],
     40, (⟨3, [458768,0,16384,0,64,0,67306753,36864,0,2000,0,0,0,0,0,0], false⟩ : Taken), (⟨55,96,true,0,0,77,false,0⟩ :
     KeyRec), by unfold keyReady mboxReady; decide +kernel, by decide +kernel⟩,
   ⟨tWith [put Reg.GLB_STATUS.XAORN_RUN 1, put Reg.KEY_STATUS.FUSE_OK 1, putN Reg.HIF_RINGn_STAT.STATE 40 1, dev fun d =>
     d.setRing 40
     { d.ring 40 with cls := clsMbox, log2 := 4, taken := [(⟨3, [458768,0,16384,0,64,0,67306753,36864,0,2000,0,0,0,0,0,0], false⟩ : Taken)], started := [] },
     dev fun d =>
     { d with keys := { d.keys with slots := tset d.keys.slots (kSlot (⟨3, [458768,0,16384,0,64,0,67306753,36864,0,2000,0,0,0,0,0,0], false⟩ : Taken).words) { d.keySlot (kSlot (⟨3, [458768,0,16384,0,64,0,67306753,36864,0,2000,0,0,0,0,0,0], false⟩ : Taken).words) with pending := some ((⟨1234,1,true,0,0,77,true,0⟩ : KeyRec), true) } } },
     put Reg.GLB_STATUS.PFW 1], 40, (⟨3, [458768,0,16384,0,64,0,67306753,36864,0,2000,0,0,0,0,0,0], false⟩ : Taken),
     (⟨1234,1,true,0,0,77,true,0⟩ : KeyRec), by unfold keyReady mboxReady; decide +kernel, by decide +kernel⟩,
   ⟨tWith [put Reg.GLB_STATUS.XAORN_RUN 1, put Reg.KEY_STATUS.FUSE_OK 1, putN Reg.HIF_RINGn_STAT.STATE 40 1, dev fun d =>
     d.setRing 40
     { d.ring 40 with cls := clsMbox, log2 := 4, taken := [(⟨3, [458768,0,16384,0,64,0,67306753,36864,0,2000,0,0,0,0,0,0], false⟩ : Taken)], started := [] },
     dev fun d =>
     { d with keys := { d.keys with slots := tset d.keys.slots (kSlot (⟨3, [458768,0,16384,0,64,0,67306753,36864,0,2000,0,0,0,0,0,0], false⟩ : Taken).words) { d.keySlot (kSlot (⟨3, [458768,0,16384,0,64,0,67306753,36864,0,2000,0,0,0,0,0,0], false⟩ : Taken).words) with pending := some ((⟨1234,1,true,0,0,77,true,0⟩ : KeyRec), true) } } },
     put Reg.GLB_STATUS.PFW 0], 40, false, (⟨3, [458768,0,16384,0,64,0,67306753,36864,0,2000,0,0,0,0,0,0], false⟩ : Taken),
     (⟨1234,1,true,0,0,77,true,0⟩ : KeyRec), by unfold keyReady mboxReady; decide +kernel, by decide +kernel⟩,
   ⟨tWith [put Reg.GLB_STATUS.XAORN_RUN 1, put Reg.KEY_STATUS.FUSE_OK 1, putN Reg.HIF_RINGn_STAT.STATE 40 1, dev fun d =>
     d.setRing 40
     { d.ring 40 with cls := clsMbox, log2 := 4, taken := [(⟨3, [458768,0,16384,0,64,0,67306753,36864,0,2000,0,0,0,0,0,0], false⟩ : Taken)], started := [] },
     dev fun d =>
     { d with keys := { d.keys with slots := tset d.keys.slots (kSlot (⟨3, [458768,0,16384,0,64,0,67306753,36864,0,2000,0,0,0,0,0,0], false⟩ : Taken).words) { d.keySlot (kSlot (⟨3, [458768,0,16384,0,64,0,67306753,36864,0,2000,0,0,0,0,0,0], false⟩ : Taken).words) with pending := some ((⟨55,96,true,0,0,77,false,0⟩ : KeyRec), true) } } }],
     40, true, (⟨3, [458768,0,16384,0,64,0,67306753,36864,0,2000,0,0,0,0,0,0], false⟩ : Taken), (⟨55,96,true,0,0,77,false,0⟩
     : KeyRec), by unfold keyReady mboxReady; decide +kernel, by decide +kernel⟩,
   ⟨tWith [put Reg.GLB_STATUS.XAORN_RUN 1, put Reg.KEY_STATUS.FUSE_OK 1, putN Reg.HIF_RINGn_STAT.STATE 40 1, dev fun d =>
     d.setRing 40
     { d.ring 40 with cls := clsMbox, log2 := 4, taken := [(⟨3, [458768,0,16384,0,64,0,67307009,36864,0,2000,0,0,0,0,0,0], false⟩ : Taken)], started := [] },
     dev fun d => d.modKeys fun k =>
     { k with slots := tset k.slots 4 ⟨some (⟨55,0x60,true,1,3,77,false,0⟩ : KeyRec), none⟩ }], 40,
     { idx := 3, words := [458768, 0, 16384, 0, 64, 0, 67307009, 36864, 0, 2000, 0, 0, 0, 0, 0, 0], released := false },
     by unfold keyReady mboxReady; decide +kernel, by decide +kernel⟩,
   ⟨tWith [put Reg.GLB_STATUS.XAORN_RUN 1, put Reg.KEY_STATUS.FUSE_OK 1, putN Reg.HIF_RINGn_STAT.STATE 40 1, dev fun d =>
     d.setRing 40
     { d.ring 40 with cls := clsMbox, log2 := 4, taken := [(⟨3, [458768,0,16384,0,64,0,67307009,36864,0,2000,0,0,0,0,0,0], false⟩ : Taken)], started := [] },
     dev fun d => d.modKeys fun k =>
     { k with copies := tset k.copies 6 (some ⟨(⟨55,96,true,0,0,77,true,0⟩ : KeyRec), true, true⟩) }, put Reg.GLB_STATUS.PFW
     1], 40, (⟨3, [458768,0,16384,0,64,0,67307009,36864,0,2000,0,0,0,0,0,0], false⟩ : Taken),
     by unfold keyReady mboxReady; decide +kernel, by decide +kernel⟩,
   ⟨tWith [put Reg.GLB_STATUS.XAORN_RUN 1, put Reg.KEY_STATUS.FUSE_OK 1, putN Reg.HIF_RINGn_STAT.STATE 40 1, dev fun d =>
     d.setRing 40
     { d.ring 40 with cls := clsMbox, log2 := 4, taken := [(⟨3, [458768,0,16384,0,64,0,67307009,36864,0,2000,0,0,0,0,0,0], false⟩ : Taken)], started := [] }],
     40, (⟨3, [458768,0,16384,0,64,0,67307009,36864,0,2000,0,0,0,0,0,0], false⟩ : Taken),
     by unfold keyReady mboxReady; decide +kernel, by decide +kernel⟩⟩

/-- The hypotheses of Firmware, clause by clause, at states and operands that meet them. -/
theorem witness_Firmware :
(∃ (s : State) (n : Nat) (h : Taken), mboxReady s.dev n 2 1 h ∧ kRlen h.words < (fwStatusBytes s.dev).length) ∧
(∃ (s : State) (n : Nat) (bs : List Byte) (h : Taken), mboxReady s.dev n 2 2 h ∧ (dLen h.words = 0 ∨ bs = [])) ∧
(∃ (s : State) (n : Nat) (k : Nat) (h : Taken), mboxReady s.dev n 2 3 h ∧ (dLen h.words = 0 ∨ k = 0)) ∧
(∃ (s : State) (n : Nat) (h : Taken), mboxReady s.dev n 2 5 h ∧ dLen h.words = 0) ∧
(∃ (s : State) (n : Nat) (k : Nat) (bs : List Byte) (h : Taken), s.dev.on Reg.GLB_STATUS.PFW = true ∧ mboxReady s.dev n 2 2
      h ∧ dLen h.words ≠ 0 ∧ bs ≠ [] ∧ bs.length ≤ 65536 ∧ k + bs.length ≤ 8388608) ∧
(∃ (s : State) (n : Nat) (h : Taken), s.dev.on Reg.GLB_STATUS.PFW = true ∧ mboxReady s.dev n 2 4 h ∧ s.dev.pwr.checked =
      true) ∧
(∃ (s : State) (n : Nat) (bs : List Byte) (h : Taken), s.dev.on Reg.GLB_STATUS.PFW = true ∧ mboxReady s.dev n 2 5 h ∧ dLen
      h.words ≠ 0 ∧ settingsOk bs = true) ∧
(∃ (s : State) (n : Nat) (h : Taken), mboxReady s.dev n 2 1 h ∧ (fwStatusBytes s.dev).length ≤ kRlen h.words) ∧
(∃ (s : State) (n : Nat) (ofs : Nat) (bs : List Byte) (h : Taken), mboxReady s.dev n 2 2 h ∧ dLen h.words ≠ 0 ∧ bs ≠ [] ∧
      (65536 < bs.length ∨ 8388608 < ofs + bs.length)) ∧
(∃ (s : State) (n : Nat) (ofs : Nat) (bs : List Byte) (h : Taken), mboxReady s.dev n 2 2 h ∧ dLen h.words ≠ 0 ∧ bs ≠ [] ∧
      bs.length ≤ 65536 ∧ ofs + bs.length ≤ 8388608 ∧ s.dev.on Reg.GLB_STATUS.PFW = false) ∧
(∃ (s : State) (n : Nat) (len : Nat) (h : Taken), mboxReady s.dev n 2 3 h ∧ dLen h.words ≠ 0 ∧ len ≠ 0) ∧
(∃ (s : State) (n : Nat) (h : Taken), mboxReady s.dev n 2 4 h ∧ s.dev.pwr.checked = false) ∧
(∃ (s : State) (n : Nat) (h : Taken), mboxReady s.dev n 2 4 h ∧ s.dev.pwr.checked = true ∧ s.dev.on Reg.GLB_STATUS.PFW =
      false) ∧
(∃ (s : State) (n : Nat) (b : List Byte) (h : Taken), mboxReady s.dev n 2 5 h ∧ dLen h.words ≠ 0 ∧ settingsOk b = false) ∧
(∃ (s : State) (n : Nat) (b : List Byte) (h : Taken), mboxReady s.dev n 2 5 h ∧ dLen h.words ≠ 0 ∧ settingsOk b = true ∧
      s.dev.on Reg.GLB_STATUS.PFW = false) ∧
(∃ (s : State), s.dev.pwr.xaornRuns = false ∨ s.dev.up islMgt = false ∨ s.dev.on Reg.GLB_STATUS.XAORN_RUN = true) ∧
(∃ (s : State), s.dev.pwr.xaornRuns = true ∧ s.dev.up islMgt = true ∧ s.dev.on Reg.GLB_STATUS.XAORN_RUN = false ∧
      s.dev.pwr.update = false) ∧
(∃ (s : State), s.dev.pwr.xaornRuns = true ∧ s.dev.up islMgt = true ∧ s.dev.on Reg.GLB_STATUS.XAORN_RUN = false ∧
      s.dev.pwr.update = true) ∧
(∃ (s : State), s.dev.pwr.update = false ∨ s.dev.on Reg.GLB_STATUS.XAORN_RUN = true ∨ s.time.loc - s.dev.pwr.xaornFrom <
      5000000000) ∧
(∃ (s : State), s.dev.pwr.update = true ∧ s.dev.on Reg.GLB_STATUS.XAORN_RUN = false ∧ 5000000000 ≤ s.time.loc -
      s.dev.pwr.xaornFrom) ∧
(∃ (s : State) (p : Nat), s.dev.pwr.xaornRuns = false ∨ s.dev.up islMgt = false ∨ 2 ≤ p) ∧
(∃ (s : State) (p : Nat), s.dev.pwr.xaornRuns = true ∧ s.dev.up islMgt = true ∧ p < 2 ∧ s.dev.on Reg.GLB_STATUS.XFAIL =
      false) :=
  ⟨⟨tWith [put Reg.GLB_STATUS.XAORN_RUN 1, put Reg.KEY_STATUS.FUSE_OK 1, putN Reg.HIF_RINGn_STAT.STATE 40 1, dev fun d =>
     d.setRing 40
     { d.ring 40 with cls := clsMbox, log2 := 4, taken := [(⟨3, [458768,0,16384,0,64,0,67305730,36864,0,20,0,0,0,0,0,0], false⟩ : Taken)], started := [] }],
     40, { idx := 3, words := [458768, 0, 16384, 0, 64, 0, 67305730, 36864, 0, 20, 0, 0, 0, 0, 0, 0], released := false },
     by unfold mboxReady; decide +kernel, by decide +kernel⟩,
   ⟨tWith [put Reg.GLB_STATUS.XAORN_RUN 1, put Reg.KEY_STATUS.FUSE_OK 1, putN Reg.HIF_RINGn_STAT.STATE 40 1, dev fun d =>
     d.setRing 40
     { d.ring 40 with cls := clsMbox, log2 := 4, taken := [(⟨3, [458768,0,16384,0,64,0,67305986,36864,0,2000,0,0,0,0,0,0], false⟩ : Taken)], started := [] }],
     40, [],
     { idx := 3, words := [458768, 0, 16384, 0, 64, 0, 67305986, 36864, 0, 2000, 0, 0, 0, 0, 0, 0], released := false },
     by unfold mboxReady; decide +kernel, by decide +kernel⟩,
   ⟨tWith [put Reg.GLB_STATUS.XAORN_RUN 1, put Reg.KEY_STATUS.FUSE_OK 1, putN Reg.HIF_RINGn_STAT.STATE 40 1, dev fun d =>
     d.setRing 40
     { d.ring 40 with cls := clsMbox, log2 := 4, taken := [(⟨3, [458768,0,16384,0,64,0,67306242,36864,0,2000,0,0,0,0,0,0], false⟩ : Taken)], started := [] }],
     40, 0,
     { idx := 3, words := [458768, 0, 16384, 0, 64, 0, 67306242, 36864, 0, 2000, 0, 0, 0, 0, 0, 0], released := false },
     by unfold mboxReady; decide +kernel, by decide +kernel⟩,
   ⟨tWith [put Reg.GLB_STATUS.XAORN_RUN 1, put Reg.KEY_STATUS.FUSE_OK 1, putN Reg.HIF_RINGn_STAT.STATE 40 1, dev fun d =>
     d.setRing 40
     { d.ring 40 with cls := clsMbox, log2 := 4, taken := [(⟨3, [458768,0,16384,0,0,0,67306754,36864,0,2000,0,0,0,0,0,0], false⟩ : Taken)], started := [] }],
     40, { idx := 3, words := [458768, 0, 16384, 0, 0, 0, 67306754, 36864, 0, 2000, 0, 0, 0, 0, 0, 0], released := false },
     by unfold mboxReady; decide +kernel, by decide +kernel⟩,
   ⟨tWith [put Reg.GLB_STATUS.XAORN_RUN 1, put Reg.KEY_STATUS.FUSE_OK 1, putN Reg.HIF_RINGn_STAT.STATE 40 1, dev fun d =>
     d.setRing 40
     { d.ring 40 with cls := clsMbox, log2 := 4, taken := [(⟨3, [458768,0,16384,0,64,0,67305986,36864,0,2000,0,0,0,0,0,0], false⟩ : Taken)], started := [] },
     put Reg.GLB_STATUS.PFW 1], 40, 0, [1,2],
     { idx := 3, words := [458768, 0, 16384, 0, 64, 0, 67305986, 36864, 0, 2000, 0, 0, 0, 0, 0, 0], released := false },
     by decide +kernel, by unfold mboxReady; decide +kernel, by decide +kernel⟩,
   ⟨tWith [put Reg.GLB_STATUS.XAORN_RUN 1, put Reg.KEY_STATUS.FUSE_OK 1, putN Reg.HIF_RINGn_STAT.STATE 40 1, dev fun d =>
     d.setRing 40
     { d.ring 40 with cls := clsMbox, log2 := 4, taken := [(⟨3, [458768,0,16384,0,64,0,67306498,36864,0,2000,0,0,0,0,0,0], false⟩ : Taken)], started := [] },
     put Reg.GLB_STATUS.PFW 1, fun s => { s with dev.pwr.checked := true }], 40,
     { idx := 3, words := [458768, 0, 16384, 0, 64, 0, 67306498, 36864, 0, 2000, 0, 0, 0, 0, 0, 0], released := false },
     by decide +kernel, by unfold mboxReady; decide +kernel, by decide +kernel⟩,
   ⟨tWith [put Reg.GLB_STATUS.XAORN_RUN 1, put Reg.KEY_STATUS.FUSE_OK 1, putN Reg.HIF_RINGn_STAT.STATE 40 1, dev fun d =>
     d.setRing 40
     { d.ring 40 with cls := clsMbox, log2 := 4, taken := [(⟨3, [458768,0,16384,0,64,0,67306754,36864,0,2000,0,0,0,0,0,0], false⟩ : Taken)], started := [] },
     put Reg.GLB_STATUS.PFW 1], 40, tSettings,
     { idx := 3, words := [458768, 0, 16384, 0, 64, 0, 67306754, 36864, 0, 2000, 0, 0, 0, 0, 0, 0], released := false },
     by decide +kernel, by unfold mboxReady; decide +kernel, by decide +kernel, tSettings_ok⟩,
   ⟨tWith [put Reg.GLB_STATUS.XAORN_RUN 1, put Reg.KEY_STATUS.FUSE_OK 1, putN Reg.HIF_RINGn_STAT.STATE 40 1, dev fun d =>
     d.setRing 40
     { d.ring 40 with cls := clsMbox, log2 := 4, taken := [(⟨3, [458768,0,16384,0,64,0,67305730,36864,0,2000,0,0,0,0,0,0], false⟩ : Taken)], started := [] }],
     40, { idx := 3, words := [458768, 0, 16384, 0, 64, 0, 67305730, 36864, 0, 2000, 0, 0, 0, 0, 0, 0], released := false },
     by unfold mboxReady; decide +kernel, by decide +kernel⟩,
   ⟨tWith [put Reg.GLB_STATUS.XAORN_RUN 1, put Reg.KEY_STATUS.FUSE_OK 1, putN Reg.HIF_RINGn_STAT.STATE 40 1, dev fun d =>
     d.setRing 40
     { d.ring 40 with cls := clsMbox, log2 := 4, taken := [(⟨3, [458768,0,16384,0,64,0,67305986,36864,0,2000,0,0,0,0,0,0], false⟩ : Taken)], started := [] }],
     40, 8388607, [1,2],
     { idx := 3, words := [458768, 0, 16384, 0, 64, 0, 67305986, 36864, 0, 2000, 0, 0, 0, 0, 0, 0], released := false },
     by unfold mboxReady; decide +kernel, by decide +kernel⟩,
   ⟨tWith [put Reg.GLB_STATUS.XAORN_RUN 1, put Reg.KEY_STATUS.FUSE_OK 1, putN Reg.HIF_RINGn_STAT.STATE 40 1, dev fun d =>
     d.setRing 40
     { d.ring 40 with cls := clsMbox, log2 := 4, taken := [(⟨3, [458768,0,16384,0,64,0,67305986,36864,0,2000,0,0,0,0,0,0], false⟩ : Taken)], started := [] }],
     40, 0, [1,2],
     { idx := 3, words := [458768, 0, 16384, 0, 64, 0, 67305986, 36864, 0, 2000, 0, 0, 0, 0, 0, 0], released := false },
     by unfold mboxReady; decide +kernel, by decide +kernel⟩,
   ⟨tWith [put Reg.GLB_STATUS.XAORN_RUN 1, put Reg.KEY_STATUS.FUSE_OK 1, putN Reg.HIF_RINGn_STAT.STATE 40 1, dev fun d =>
     d.setRing 40
     { d.ring 40 with cls := clsMbox, log2 := 4, taken := [(⟨3, [458768,0,16384,0,64,0,67306242,36864,0,2000,0,0,0,0,0,0], false⟩ : Taken)], started := [] }],
     40, 100,
     { idx := 3, words := [458768, 0, 16384, 0, 64, 0, 67306242, 36864, 0, 2000, 0, 0, 0, 0, 0, 0], released := false },
     by unfold mboxReady; decide +kernel, by decide +kernel⟩,
   ⟨tWith [put Reg.GLB_STATUS.XAORN_RUN 1, put Reg.KEY_STATUS.FUSE_OK 1, putN Reg.HIF_RINGn_STAT.STATE 40 1, dev fun d =>
     d.setRing 40
     { d.ring 40 with cls := clsMbox, log2 := 4, taken := [(⟨3, [458768,0,16384,0,64,0,67306498,36864,0,2000,0,0,0,0,0,0], false⟩ : Taken)], started := [] }],
     40, { idx := 3, words := [458768, 0, 16384, 0, 64, 0, 67306498, 36864, 0, 2000, 0, 0, 0, 0, 0, 0], released := false },
     by unfold mboxReady; decide +kernel, by decide +kernel⟩,
   ⟨tWith [put Reg.GLB_STATUS.XAORN_RUN 1, put Reg.KEY_STATUS.FUSE_OK 1, putN Reg.HIF_RINGn_STAT.STATE 40 1, dev fun d =>
     d.setRing 40
     { d.ring 40 with cls := clsMbox, log2 := 4, taken := [(⟨3, [458768,0,16384,0,64,0,67306498,36864,0,2000,0,0,0,0,0,0], false⟩ : Taken)], started := [] },
     fun s => { s with dev.pwr.checked := true }, put Reg.GLB_STATUS.PFW 0], 40,
     { idx := 3, words := [458768, 0, 16384, 0, 64, 0, 67306498, 36864, 0, 2000, 0, 0, 0, 0, 0, 0], released := false },
     by unfold mboxReady; decide +kernel, by decide +kernel⟩,
   ⟨tWith [put Reg.GLB_STATUS.XAORN_RUN 1, put Reg.KEY_STATUS.FUSE_OK 1, putN Reg.HIF_RINGn_STAT.STATE 40 1, dev fun d =>
     d.setRing 40
     { d.ring 40 with cls := clsMbox, log2 := 4, taken := [(⟨3, [458768,0,16384,0,64,0,67306754,36864,0,2000,0,0,0,0,0,0], false⟩ : Taken)], started := [] }],
     40, [],
     { idx := 3, words := [458768, 0, 16384, 0, 64, 0, 67306754, 36864, 0, 2000, 0, 0, 0, 0, 0, 0], released := false },
     by unfold mboxReady; decide +kernel, by decide +kernel⟩,
   ⟨tWith [put Reg.GLB_STATUS.XAORN_RUN 1, put Reg.KEY_STATUS.FUSE_OK 1, putN Reg.HIF_RINGn_STAT.STATE 40 1, dev fun d =>
     d.setRing 40
     { d.ring 40 with cls := clsMbox, log2 := 4, taken := [(⟨3, [458768,0,16384,0,64,0,67306754,36864,0,2000,0,0,0,0,0,0], false⟩ : Taken)], started := [] }],
     40, tSettings,
     { idx := 3, words := [458768, 0, 16384, 0, 64, 0, 67306754, 36864, 0, 2000, 0, 0, 0, 0, 0, 0], released := false },
     by unfold mboxReady; decide +kernel, by decide +kernel, tSettings_ok, by decide +kernel⟩,
   ⟨tWith [fun s => { s with dev.pwr.xaornRuns := false }], by decide +kernel⟩,
   ⟨tSt, by decide +kernel⟩,
   ⟨tWith [fun s => { s with dev.pwr.xaornRuns := true }, put Reg.GLB_STATUS.XAORN_RUN 0, fun s =>
     { s with dev.pwr.update := true }], by decide +kernel⟩,
   ⟨tSt, by decide +kernel⟩,
   ⟨tWith [fun s => { s with dev.pwr.update := true }, put Reg.GLB_STATUS.XAORN_RUN 0], by decide +kernel⟩,
   ⟨tWith [fun s => { s with dev.pwr.xaornRuns := false }], 0, by decide +kernel⟩,
   ⟨tSt, 0, by decide +kernel⟩⟩

/-- The hypotheses of LogbookWriter, clause by clause, at states and operands that meet them. -/
theorem witness_LogbookWriter :
(∃ (s : State), s.dev.pwr.released = false) ∧
(∃ (s : State) (c : Nat), s.dev.pwr.released = true ∧ s.dev.evs = [] ∧ codeDefined c = true ∧ s.dev.onN Reg.T_LIMIT.OFF c =
      false ∧ s.dev.getN Reg.T_LIMIT.RATE c = 0 ∧ s.log.full = false ∧ s.log.failed = false ∧ s.log.intake.length < 64) ∧
(∃ (s : State) (c : Nat), s.dev.pwr.released = true ∧ s.dev.evs = [] ∧ codeDefined c = true ∧ (s.dev.onN Reg.T_LIMIT.OFF c =
      true ∨ s.dev.getN Reg.T_LIMIT.RATE c ≠ 0 ∧ (bucketRefill (s.dev.getN Reg.T_LIMIT.RATE c) (burstOf c s.dev) s.time.loc
      (tget s.log.buckets c)).held = 0)) ∧
(∃ (s : State) (c : Nat) (b : Bucket), s.dev.pwr.released = true ∧ s.dev.evs = [] ∧ codeDefined c = true ∧ s.dev.onN
      Reg.T_LIMIT.OFF c = false ∧ s.dev.getN Reg.T_LIMIT.RATE c ≠ 0 ∧ b = bucketRefill (s.dev.getN Reg.T_LIMIT.RATE c)
      (burstOf c s.dev) s.time.loc (tget s.log.buckets c) ∧ 0 < b.held ∧ s.log.full = false ∧ s.log.failed = false ∧
      s.log.intake.length < 64) ∧
(∃ (s : State) (c : Nat), s.dev.pwr.released = true ∧ s.dev.evs = [] ∧ codeDefined c = true ∧ s.dev.onN Reg.T_LIMIT.OFF c =
      false ∧ s.dev.getN Reg.T_LIMIT.RATE c = 0 ∧ (s.log.full = true ∨ s.log.failed = true)) ∧
(∃ (s : State) (c : Nat), s.dev.pwr.released = true ∧ s.dev.evs = [] ∧ codeDefined c = true ∧ s.dev.onN Reg.T_LIMIT.OFF c =
      false ∧ s.dev.getN Reg.T_LIMIT.RATE c = 0 ∧ s.log.full = false ∧ s.log.failed = false ∧ 64 ≤ s.log.intake.length) ∧
(∃ (s : State) (c : Nat), s.dev.evs = [] ∧ codeDefined c = false) ∧
(∃ (s : State) (c : Nat), 1024 ≤ c ∨ s.dev.getN Reg.T_LIMIT.RATE c = 0) ∧
(∃ (s : State) (c : Nat), c < 1024 ∧ s.dev.getN Reg.T_LIMIT.RATE c ≠ 0) ∧
(∃ (b : Bucket), b.run = true ∧ b.given = 0) ∧
(∃ (s : State), s.log.intake = [] ∨ s.log.full = true ∨ s.log.failed = true) ∧
(∃ (s : State) (x : LogItem) (rest : List LogItem) (p : Nat × Nat), s.log.intake = x :: rest ∧ s.log.full = false ∧
      s.log.failed = false ∧ s.dev.evs = [] ∧ p = logRecPlace s.log (logRecLen x.ev) ∧ p.1 < lastRegion s.log.fenced
      logRegions) ∧
(∃ (s : State) (x : LogItem) (rest : List LogItem) (p : Nat × Nat), s.log.intake = x :: rest ∧ s.log.full = false ∧
      s.log.failed = false ∧ s.dev.evs = [] ∧ p = logRecPlace s.log (logRecLen x.ev) ∧ lastRegion s.log.fenced logRegions ≤
      p.1) ∧
(∃ (lb : Logbook), lb.attempts < 3) ∧
(∃ (lb : Logbook), 3 ≤ lb.attempts) ∧
(∃ (s : State), s.dev.pwr.released = true) ∧
(∃ (s : State), s.dev.pwr.released = false) ∧
(∃ (s : State), s.log.again = []) ∧
(∃ (s : State) (w : Nat) (rest : List Nat), s.log.again = w :: rest) :=
  ⟨⟨tWith [fun s => { s with dev.pwr.released := false }], by decide +kernel⟩,
   ⟨tWith [fun s => { s with dev.pwr.released := true }, fun s => { s with dev.evs := [] }, putN Reg.T_LIMIT.OFF 257 0, putN
     Reg.T_LIMIT.RATE 257 0, fun s => { s with log.full := false }, fun s => { s with log.failed := false }], 257,
     by decide +kernel⟩,
   ⟨tWith [fun s => { s with dev.pwr.released := true }, fun s => { s with dev.evs := [] }, putN Reg.T_LIMIT.OFF 257 1], 257,
     by decide +kernel⟩,
   ⟨tSt, 257, { tokens := some 32, start := 0, given := 0, rate := 0, run := false }, by decide +kernel⟩,
   ⟨tWith [fun s => { s with dev.pwr.released := true }, fun s => { s with dev.evs := [] }, putN Reg.T_LIMIT.OFF 257 0, putN
     Reg.T_LIMIT.RATE 257 0, fun s => { s with log.full := true }], 257, by decide +kernel⟩,
   ⟨tWith [fun s => { s with dev.pwr.released := true }, fun s => { s with dev.evs := [] }, putN Reg.T_LIMIT.OFF 257 0, putN
     Reg.T_LIMIT.RATE 257 0, fun s => { s with log.full := false }, fun s => { s with log.failed := false }, fun s =>
     { s with log.intake := List.replicate (64) default }], 257, by decide +kernel⟩,
   ⟨tSt, 1023, by decide +kernel⟩,
   ⟨tWith [putN Reg.T_LIMIT.RATE 257 0], 257, by decide +kernel⟩,
   ⟨tSt, 257, by decide +kernel⟩,
   ⟨(⟨some 5,0,0,5,true⟩ : Bucket), by decide +kernel⟩,
   ⟨tSt, by decide +kernel⟩,
   ⟨tWith [fun s => { s with log.intake := (⟨(⟨257,0,0,0,[]⟩ : LogEv),5⟩ : LogItem) :: [] }, fun s =>
     { s with log.full := false }, fun s => { s with log.failed := false }, fun s => { s with dev.evs := [] }],
     (⟨(⟨257,0,0,0,[]⟩ : LogEv),5⟩ : LogItem), [], (0, 0), by decide +kernel⟩,
   ⟨tWith [lgb fun l => { l with region := 8191 }, fun s =>
     { s with log.intake := (⟨(⟨257,0,0,0,[]⟩ : LogEv),5⟩ : LogItem) :: [] }, fun s => { s with log.full := false }, fun s
     => { s with log.failed := false }, fun s => { s with dev.evs := [] }], (⟨(⟨257,0,0,0,[]⟩ : LogEv),5⟩ : LogItem), [],
     (8191, 0), by decide +kernel⟩,
   ⟨default, by decide +kernel⟩,
   ⟨{ (default : Logbook) with attempts := 3 }, by decide +kernel⟩,
   ⟨tSt, by decide +kernel⟩,
   ⟨tWith [fun s => { s with dev.pwr.released := false }], by decide +kernel⟩,
   ⟨tSt, by decide +kernel⟩,
   ⟨tWith [fun s => { s with log.again := 7 :: [] }], 7, [], by decide +kernel⟩⟩

/-- The hypotheses of LogbookReader, clause by clause, at states and operands that meet them. -/
theorem witness_LogbookReader :
(∃ (s : State) (v : Word32), s.dev.pwr.released = true ∧ bitOf v 9 = true ∧ s.dev.on Reg.LOG_RD_STAT.RUN = false ∧
      (s.dev.get Reg.LOG_RD_START.SEQ = 0 ∨ s.log.seq + 1 < s.dev.get Reg.LOG_RD_START.SEQ ∨ ringRuns s.dev (BitVec.toNat v
      % 256) = false ∨ (s.dev.ring (BitVec.toNat v % 256)).cls ≠ clsLogs)) ∧
(∃ (s : State) (v : Word32), s.dev.pwr.released = true ∧ bitOf v 9 = true ∧ s.dev.on Reg.LOG_RD_STAT.RUN = false ∧ s.dev.get
      Reg.LOG_RD_START.SEQ ≠ 0 ∧ s.dev.get Reg.LOG_RD_START.SEQ ≤ s.log.seq ∧ ringRuns s.dev (BitVec.toNat v % 256) = true ∧
      (s.dev.ring (BitVec.toNat v % 256)).cls = clsLogs) ∧
(∃ (s : State) (v : Word32), s.dev.pwr.released = true ∧ bitOf v 9 = true ∧ s.dev.on Reg.LOG_RD_STAT.RUN = false ∧ s.dev.get
      Reg.LOG_RD_START.SEQ ≠ 0 ∧ s.dev.get Reg.LOG_RD_START.SEQ = s.log.seq + 1 ∧ ringRuns s.dev (BitVec.toNat v % 256) =
      true ∧ (s.dev.ring (BitVec.toNat v % 256)).cls = clsLogs) ∧
(∃ (s : State) (v : Word32), s.dev.pwr.released = true ∧ (bitOf v 9 = false ∨ s.dev.on Reg.LOG_RD_STAT.RUN = true)) ∧
(∃ (s : State) (v : Word32), s.dev.pwr.released = true ∧ (bitOf v 10 = false ∨ s.dev.on Reg.LOG_RD_STAT.RUN = false)) ∧
(∃ (s : State), s.dev.on Reg.LOG_RD_STAT.RUN = false ∨ s.dev.rdr.follow = true ∧ readerNext s.log s.dev.rdr = none) ∧
(∃ (s : State), s.dev.on Reg.LOG_RD_STAT.RUN = true) ∧
(∃ (s : State), s.dev.on Reg.LOG_RD_STAT.RUN = true ∧ s.dev.rdr.follow = false ∧ readerNext s.log s.dev.rdr = none) ∧
(∃ (s : State) (x : LogRec), s.dev.on Reg.LOG_RD_STAT.RUN = true ∧ readerNext s.log s.dev.rdr = some x ∧ ringFree s.dev
      s.dev.rdr.ring = false) ∧
(∃ (s : State) (x : LogRec) (b : Posted) (rest : List Posted), s.dev.on Reg.LOG_RD_STAT.RUN = true ∧ s.dev.rdr.follow =
      false ∧ readerNext s.log s.dev.rdr = some x ∧ x.seq = s.dev.rdr.stop ∧ s.dev.rdr.buf = [] ∧ ringFree s.dev
      s.dev.rdr.ring = true ∧ (s.dev.ring s.dev.rdr.ring).posted = b :: rest ∧ logRecLen x.ev ≤ b.len ∧ logRecFaults s.log x
      = []) ∧
(∃ (s : State), s.dev.on Reg.LOG_RD_STAT.RUN = false ∨ s.dev.rdr.buf = [] ∨ s.time.loc - s.dev.rdr.since < 1000000) ∧
(∃ (s : State), s.dev.on Reg.LOG_RD_STAT.RUN = true ∧ s.dev.rdr.buf ≠ [] ∧ s.dev.rdr.ring < 256 ∧ 1000000 ≤ s.time.loc -
      s.dev.rdr.since) ∧
(∃ (s : State) (v : Word32), s.dev.pwr.released = true ∧ bitOf v 10 = true ∧ s.dev.on Reg.LOG_RD_STAT.RUN = true) ∧
(∃ (s : State), s.dev.pwr.released = false) ∧
(∃ (s : State), s.dev.get Reg.GLB_SPLIT.LOGMIR = 0 ∨ xaornUp s.dev = false ∨ ∀ (r : LogRec), r ∈ s.log.records → r.seq ≤
      s.dev.get Reg.LOG_MIR_SEQ.SEQ) ∧
(∃ (s : State) (x : LogRec), s.dev.get Reg.GLB_SPLIT.LOGMIR ≠ 0 ∧ xaornUp s.dev = true ∧ List.find? (fun r ↦ decide
      (s.dev.get Reg.LOG_MIR_SEQ.SEQ < r.seq)) s.log.records = some x) ∧
(∃ (s : State), s.dev.pwr.released = false ∨ s.dev.pwr.pfwLow = true) ∧
(∃ (s : State), s.dev.pwr.released = true ∧ s.dev.pwr.pfwLow = false) ∧
(∃ (s : State), s.dev.pwr.released = true ∧ s.dev.pwr.pfwLow = true) ∧
(∃ (s : State), s.dev.pwr.released = false ∨ s.dev.pwr.pfwLow = false) ∧
(∃ (s : State), s.dev.flush.running = false) ∧
(∃ (s : State), s.dev.flush.running = true) ∧
(∃ (s : State), xaornUp s.dev = true ∧ s.dev.flush.running = false ∧ s.dev.on Reg.LOG_STATUS.FLUSH_READY = false) ∧
(∃ (s : State), xaornUp s.dev = false ∨ s.dev.flush.running = true ∨ s.dev.on Reg.LOG_STATUS.FLUSH_READY = true) :=
  ⟨⟨tSt, 512, by decide +kernel⟩,
   ⟨tWith [lgb fun l => { l with seq := 1, records := [(⟨1,(⟨257,0,0,0,[]⟩ : LogEv),0,5,false,0,0⟩ : LogRec)] }, fun s =>
     { s with dev.pwr.released := true }, put Reg.LOG_RD_STAT.RUN 0, put Reg.LOG_RD_START.SEQ ((0 + 1)), fun s =>
     { s with dev := s.dev.set Reg.LOG_RD_START.SEQ (s.log.seq) }, putN Reg.HIF_RINGn_STAT.STATE (BitVec.toNat (512 :
     Word32) % 256) 1, dev fun d => d.setRing (BitVec.toNat (512 : Word32) % 256)
     { d.ring (BitVec.toNat (512 : Word32) % 256) with cls := clsLogs }], 512, by decide +kernel⟩,
   ⟨tWith [fun s => { s with dev.pwr.released := true }, put Reg.LOG_RD_STAT.RUN 0, put Reg.LOG_RD_START.SEQ ((0 + 1)), fun s
     => { s with dev := s.dev.set Reg.LOG_RD_START.SEQ (s.log.seq + 1) }, putN Reg.HIF_RINGn_STAT.STATE (BitVec.toNat (512 :
     Word32) % 256) 1, dev fun d => d.setRing (BitVec.toNat (512 : Word32) % 256)
     { d.ring (BitVec.toNat (512 : Word32) % 256) with cls := clsLogs }], 512, by decide +kernel⟩,
   ⟨tSt, 0, by decide +kernel⟩,
   ⟨tSt, 0, by decide +kernel⟩,
   ⟨tSt, by decide +kernel⟩,
   ⟨tWith [put Reg.LOG_RD_STAT.RUN 1], by decide +kernel⟩,
   ⟨tWith [put Reg.LOG_RD_STAT.RUN 1, fun s => { s with dev.rdr.follow := false }], by decide +kernel⟩,
   ⟨tWith [lgb fun l => { l with seq := 1, records := [(⟨1,(⟨257,0,0,0,[]⟩ : LogEv),0,5,false,0,0⟩ : LogRec)] }, dev fun d =>
     d.modRdr fun k => { k with next := 1, stop := 1, ring := 40 }, put Reg.LOG_RD_STAT.RUN 1],
     { seq := 1,   ev := { code := 257, inst := 0, det := 0, det2 := 0, payload := [] },   drops := 0,   t := 5,   rewritten := false,   region := 0,   ofs := 0 },
     by decide +kernel⟩,
   ⟨tWith [putN Reg.HIF_RINGn_STAT.STATE 40 1, dev fun d => d.setRing 40
     { d.ring 40 with cls := clsLogs, log2 := 4, posted := [(⟨5,9,false,0x1000,65536,0⟩ : Posted)] }, lgb fun l =>
     { l with seq := 1, records := [(⟨1,(⟨257,0,0,0,[]⟩ : LogEv),0,5,false,0,0⟩ : LogRec)] }, dev fun d => d.modRdr fun k =>
     { k with next := 1, stop := 1, ring := 40 }, put Reg.LOG_RD_STAT.RUN 1, fun s => { s with dev.rdr.follow := false },
     fun s => { s with dev.rdr.buf := [] }],
     { seq := 1,   ev := { code := 257, inst := 0, det := 0, det2 := 0, payload := [] },   drops := 0,   t := 5,   rewritten := false,   region := 0,   ofs := 0 },
     { idx := 5, tag := 9, irq := false, addr := 4096, len := 65536, st := 0 }, [], by decide +kernel⟩,
   ⟨tSt, by decide +kernel⟩,
   ⟨tWith [put Reg.LOG_RD_STAT.RUN 1, fun s => { s with dev.rdr.buf := [default] }, fun s =>
     { s with dev.rdr.ring := 256 - 1 }], by decide +kernel⟩,
   ⟨tWith [fun s => { s with dev.pwr.released := true }, put Reg.LOG_RD_STAT.RUN 1], 1024, by decide +kernel⟩,
   ⟨tWith [fun s => { s with dev.pwr.released := false }], by decide +kernel⟩,
   ⟨tSt, by decide +kernel⟩,
   ⟨tWith [lgb fun l => { l with seq := 1, records := [(⟨1,(⟨257,0,0,0,[]⟩ : LogEv),0,5,false,0,0⟩ : LogRec)] }, put
     Reg.GLB_SPLIT.LOGMIR ((0 + 1)), put Reg.GLB_STATUS.XAORN_RUN 1],
     { seq := 1,   ev := { code := 257, inst := 0, det := 0, det2 := 0, payload := [] },   drops := 0,   t := 5,   rewritten := false,   region := 0,   ofs := 0 },
     by decide +kernel⟩,
   ⟨tWith [fun s => { s with dev.pwr.released := false }], by decide +kernel⟩,
   ⟨tSt, by decide +kernel⟩,
   ⟨tWith [fun s => { s with dev.pwr.released := true }, fun s => { s with dev.pwr.pfwLow := true }], by decide +kernel⟩,
   ⟨tSt, by decide +kernel⟩,
   ⟨tSt, by decide +kernel⟩,
   ⟨tWith [fun s => { s with dev.flush.running := true }], by decide +kernel⟩,
   ⟨tWith [put Reg.GLB_STATUS.XAORN_RUN 1, fun s => { s with dev.flush.running := false }, put Reg.LOG_STATUS.FLUSH_READY 0],
     by decide +kernel⟩,
   ⟨tSt, by decide +kernel⟩⟩

/-- The hypotheses of Lookout, clause by clause, at states and operands that meet them. -/
theorem witness_Lookout :
(∃ (s : State) (k : Nat) (i : Nat), s.dev.up islMgt = false ∨ s.dev.on Reg.LKO_CTRL.EN = false ∨ k = 0 ∨ 15 < k ∨ ∀ (p : ℕ),
      p < 64 → probeHears s.dev k i p = false) ∧
(∃ (s : State) (k : Nat) (i : Nat) (p : Nat) (v : Int), s.dev.up islMgt = true ∧ s.dev.on Reg.LKO_CTRL.EN = true ∧ 1 ≤ k ∧ k
      ≤ 15 ∧ List.filter (probeHears s.dev k i) (List.range 64) = [p] ∧ -2 ^ 31 ≤ v ∧ v < 2 ^ 31) ∧
(∃ (s : State) (k : Nat), s.dev.up islMgt = true ∧ s.dev.on Reg.LKO_CTRL.EN = true ∧ 1 ≤ k ∧ k ≤ 15) ∧
(∃ (base : Nat) (i : Nat) (v : Int), 1 ≤ base ∧ i < 62 ∧ ((base : Nat) : Int) ≤ v) ∧
(∃ (s : State) (p : Nat) (v : Word32), p < 64 ∧ s.dev.up islMgt = true ∧ s.dev.onN Reg.T_PROBE.EN p = false ∧ bitOf v 0 =
      false) ∧
(∃ (s : State) (p : Nat) (v : Word32), p < 64 ∧ s.dev.up islMgt = true ∧ s.dev.onN Reg.T_PROBE.EN p = false ∧ bitOf v 0 =
      true ∧ bits (BitVec.toNat v) 1 5 ≤ 15 ∧ probeIndexOk (bits (BitVec.toNat v) 1 5) (bits (BitVec.toNat v) 16 16) = true
      ∧ if bits (BitVec.toNat v) 6 1 = 1 then 1 ≤ sint 32 (s.dev.getN Reg.T_PROBE.BASE p) else 1 ≤ s.dev.getN
      Reg.T_PROBE.WIDTH p) ∧
(∃ (s : State) (p : Nat) (v : Word32), p < 64 ∧ s.dev.up islMgt = true ∧ s.dev.onN Reg.T_PROBE.EN p = false ∧ bitOf v 0 =
      true ∧ (15 < bits (BitVec.toNat v) 1 5 ∨ probeIndexOk (bits (BitVec.toNat v) 1 5) (bits (BitVec.toNat v) 16 16) =
      false ∨ if bits (BitVec.toNat v) 6 1 = 1 then sint 32 (s.dev.getN Reg.T_PROBE.BASE p) < 1 else s.dev.getN
      Reg.T_PROBE.WIDTH p < 1)) ∧
(∃ (s : State) (p : Nat) (v : Word32), p < 64 ∧ s.dev.up islMgt = true ∧ s.dev.onN Reg.T_PROBE.EN p = true ∧ bitOf v 0 =
      false) ∧
(∃ (p : Nat), 64 ≤ p) ∧
(∃ (s : State) (v : Word32), s.dev.up islMgt = true ∧ bitOf v 31 = true ∧ bitOf v 8 = true) ∧
(∃ (s : State) (v : Word32), s.dev.up islMgt = true ∧ bitOf v 31 = true ∧ bitOf v 8 = false) ∧
(∃ (s : State) (v : Word32), s.dev.up islMgt = true ∧ bitOf v 31 = false) :=
  ⟨⟨tSt, 0, 3, by decide +kernel⟩,
   ⟨tWith [putN Reg.T_PROBE.EN 5 1, putN Reg.T_PROBE.KIND 5 4, put Reg.LKO_CTRL.EN 1], 4, 3, 5, 5, by decide +kernel⟩,
   ⟨tWith [put Reg.LKO_CTRL.EN 1], 4, by decide +kernel⟩,
   ⟨1, 3, 5, by decide +kernel⟩,
   ⟨tSt, 5, 0, by decide +kernel⟩,
   ⟨tWith [putN Reg.T_PROBE.WIDTH 5 10], 5, 1, by decide +kernel⟩,
   ⟨tSt, 5, 1, by decide +kernel⟩,
   ⟨tWith [putN Reg.T_PROBE.EN 5 1], 5, 0, by decide +kernel⟩,
   ⟨64, by decide +kernel⟩,
   ⟨tSt, 2147483904, by decide +kernel⟩,
   ⟨tSt, 2147483648, by decide +kernel⟩,
   ⟨tSt, 0, by decide +kernel⟩⟩

/-- The hypotheses of Compression, clause by clause, at states and operands that meet them. -/
theorem witness_Compression :
(∃ (s : State) (n : Nat) (src : List Byte) (x : Instr × Nat), x ∈ [(Instr.cmpCompress n src, 16), (Instr.cmpDecompress n
      src, 17)] ∧ (startable s.dev n clsCmpj x.2 = none ∨ s.dev.up islCmp = false ∧ s.dev.inReset islCmp = false)) ∧
(∃ (s : State) (n : Nat) (src : List Byte) (x : Instr × Nat) (h : Taken), x ∈ [(Instr.cmpCompress n src, 16),
      (Instr.cmpDecompress n src, 17)] ∧ startable s.dev n clsCmpj x.2 = some h ∧ s.dev.inReset islCmp = true) ∧
(∃ (s : State) (n : Nat) (src : List Byte) (x : Instr × Nat) (h : Taken), x ∈ [(Instr.cmpCompress n src, 16),
      (Instr.cmpDecompress n src, 17)] ∧ startable s.dev n clsCmpj x.2 = some h ∧ s.dev.up islCmp = true ∧ (s.dev.get
      Reg.GLB_SPLIT.COMP = 0 ∨ s.dev.on Reg.CMP_CTRL.EN = false)) ∧
(∃ (s : State) (n : Nat) (src : List Byte) (x : Instr × Nat) (h : Taken), x ∈ [(Instr.cmpCompress n src, 16),
      (Instr.cmpDecompress n src, 17)] ∧ startable s.dev n clsCmpj x.2 = some h ∧ s.dev.up islCmp = true ∧ s.dev.get
      Reg.GLB_SPLIT.COMP ≠ 0 ∧ s.dev.on Reg.CMP_CTRL.EN = true ∧ (dLen h.words = 0 ∨ cOutLen h.words = 0)) ∧
(∃ (s : State) (n : Nat) (src : List Byte) (x : Instr × Nat) (h : Taken), x ∈ [(Instr.cmpCompress n src, 16),
      (Instr.cmpDecompress n src, 17)] ∧ startable s.dev n clsCmpj x.2 = some h ∧ s.dev.up islCmp = true ∧ s.dev.get
      Reg.GLB_SPLIT.COMP ≠ 0 ∧ s.dev.on Reg.CMP_CTRL.EN = true ∧ dLen h.words ≠ 0 ∧ cOutLen h.words ≠ 0 ∧ cSrcHmp h.words =
      true ∧ s.dev.getN Reg.HMP_PARTn.SIZE partStage = 0) ∧
(∃ (s : State) (n : Nat) (src : List Byte) (x : Instr × Nat) (h : Taken), x ∈ [(Instr.cmpCompress n src, 16),
      (Instr.cmpDecompress n src, 17)] ∧ startable s.dev n clsCmpj x.2 = some h ∧ s.dev.up islCmp = true ∧ s.dev.get
      Reg.GLB_SPLIT.COMP ≠ 0 ∧ s.dev.on Reg.CMP_CTRL.EN = true ∧ dLen h.words ≠ 0 ∧ cOutLen h.words ≠ 0 ∧ cSrcHmp h.words =
      true ∧ s.dev.getN Reg.HMP_PARTn.SIZE partStage ≠ 0 ∧ (partBytes s.dev partCapture < cHmpOfs h.words + dLen h.words ∨
      cHmpOfs h.words % 4 ≠ 0)) ∧
(∃ (s : State) (n : Nat) (src : List Byte) (x : Instr × Nat) (h : Taken), x ∈ [(Instr.cmpCompress n src, 16),
      (Instr.cmpDecompress n src, 17)] ∧ startable s.dev n clsCmpj x.2 = some h ∧ s.dev.up islCmp = true ∧ s.dev.get
      Reg.GLB_SPLIT.COMP ≠ 0 ∧ s.dev.on Reg.CMP_CTRL.EN = true ∧ dLen h.words ≠ 0 ∧ cOutLen h.words ≠ 0 ∧ cSrcHmp h.words =
      true ∧ s.dev.getN Reg.HMP_PARTn.SIZE partStage ≠ 0 ∧ cHmpOfs h.words + dLen h.words ≤ partBytes s.dev partCapture ∧
      cHmpOfs h.words % 4 = 0 ∧ (freeLane s.dev = none ∨ freeSlot s.dev = none)) ∧
(∃ (s : State) (n : Nat) (src : List Byte) (x : Instr × Nat) (h : Taken) (l : Nat) (k : Nat), x ∈ [(Instr.cmpCompress n src,
      16), (Instr.cmpDecompress n src, 17)] ∧ startable s.dev n clsCmpj x.2 = some h ∧ s.dev.up islCmp = true ∧ s.dev.get
      Reg.GLB_SPLIT.COMP ≠ 0 ∧ s.dev.on Reg.CMP_CTRL.EN = true ∧ dLen h.words ≠ 0 ∧ cOutLen h.words ≠ 0 ∧ cSrcHmp h.words =
      true ∧ s.dev.getN Reg.HMP_PARTn.SIZE partStage ≠ 0 ∧ cHmpOfs h.words + dLen h.words ≤ partBytes s.dev partCapture ∧
      cHmpOfs h.words % 4 = 0 ∧ freeLane s.dev = some l ∧ freeSlot s.dev = some k) ∧
(∃ (s : State) (n : Nat) (src : List Byte) (x : Instr × Nat) (h : Taken), x ∈ [(Instr.cmpCompress n src, 16),
      (Instr.cmpDecompress n src, 17)] ∧ startable s.dev n clsCmpj x.2 = some h ∧ s.dev.up islCmp = true ∧ s.dev.get
      Reg.GLB_SPLIT.COMP ≠ 0 ∧ s.dev.on Reg.CMP_CTRL.EN = true ∧ dLen h.words ≠ 0 ∧ cOutLen h.words ≠ 0 ∧ cSrcHmp h.words =
      false ∧ freeLane s.dev = none) ∧
(∃ (s : State) (n : Nat) (src : List Byte) (x : Instr × Nat) (h : Taken) (l : Nat), x ∈ [(Instr.cmpCompress n src, 16),
      (Instr.cmpDecompress n src, 17)] ∧ startable s.dev n clsCmpj x.2 = some h ∧ s.dev.up islCmp = true ∧ s.dev.get
      Reg.GLB_SPLIT.COMP ≠ 0 ∧ s.dev.on Reg.CMP_CTRL.EN = true ∧ dLen h.words ≠ 0 ∧ cOutLen h.words ≠ 0 ∧ cSrcHmp h.words =
      false ∧ freeLane s.dev = some l) ∧
(∃ (s : State) (l : Nat), (tget s.dev.cmp l).busy = false ∨ hifQuiet s.dev = true ∧ s.dev.up islHst = true) ∧
(∃ (h : Taken) (st : Nat), cOutLen h.words ≠ 0 ∧ st ≠ stSkipped) ∧
(∃ (s : State) (l : Nat) (j : CmpJob) (r : CmpResult), l < 4 ∧ tget s.dev.cmp l = j ∧ j.busy = true ∧ s.dev.up islHst =
      false ∧ r = if j.aborted = true then
      { status := stAborted, bytes := [], len := 0, crc := 0, adler := 0, used := 0, blocks := 0 : CmpResult } else if
      dOpcode j.words = 16 then compressResult j else decompressResult s.dev j) ∧
(∃ (s : State) (l : Nat) (j : CmpJob) (r : CmpResult), l < 4 ∧ tget s.dev.cmp l = j ∧ j.busy = true ∧ s.dev.up islHst = true
      ∧ hifQuiet s.dev = false ∧ r = if j.aborted = true then
      { status := stAborted, bytes := [], len := 0, crc := 0, adler := 0, used := 0, blocks := 0 : CmpResult } else if
      dOpcode j.words = 16 then compressResult j else decompressResult s.dev j) ∧
(∃ (j : CmpJob), j.cut = none) ∧
(∃ (j : CmpJob) (k : Nat), j.cut = some k) ∧
(∃ (seed : Nat), seed < 2 ^ 32) ∧
(∃ (seed : Nat), seed < 2 ^ 32) :=
  ⟨⟨tSt, 40, [1,2,3], (Sys2Proof.Instr.cmpCompress 40 [0x01#8, 0x02#8, 0x03#8], 16), by decide +kernel⟩,
   ⟨tWith [putN Reg.HIF_RINGn_STAT.STATE 40 1, dev fun d => d.setRing 40
     { d.ring 40 with cls := clsCmpj, log2 := 4, taken := [(⟨3, [458768,0,16384,0,10,0,0,0,36864,0,200,0,0,0,0,0], false⟩ : Taken)] },
     dev fun d => { d with isl := tset d.isl islCmp ⟨.reset, false, false⟩ }], 40, [1,2,3], (Sys2Proof.Instr.cmpCompress 40
     [0x01#8, 0x02#8, 0x03#8], 16),
     { idx := 3, words := [458768, 0, 16384, 0, 10, 0, 0, 0, 36864, 0, 200, 0, 0, 0, 0, 0], released := false },
     by decide +kernel⟩,
   ⟨tWith [putN Reg.HIF_RINGn_STAT.STATE 40 1, dev fun d => d.setRing 40
     { d.ring 40 with cls := clsCmpj, log2 := 4, taken := [(⟨3, [458768,0,16384,0,10,0,0,0,36864,0,200,0,0,0,0,0], false⟩ : Taken)] }],
     40, [1,2,3], (Sys2Proof.Instr.cmpCompress 40 [0x01#8, 0x02#8, 0x03#8], 16),
     { idx := 3, words := [458768, 0, 16384, 0, 10, 0, 0, 0, 36864, 0, 200, 0, 0, 0, 0, 0], released := false },
     by decide +kernel⟩,
   ⟨tWith [putN Reg.HIF_RINGn_STAT.STATE 40 1, dev fun d => d.setRing 40
     { d.ring 40 with cls := clsCmpj, log2 := 4, taken := [(⟨3, [458768,0,16384,0,0,0,0,0,0,0,200,0,0,0,0,0], false⟩ : Taken)] },
     put Reg.GLB_SPLIT.COMP ((0 + 1)), put Reg.CMP_CTRL.EN 1], 40, [1,2,3], (Sys2Proof.Instr.cmpCompress 40 [0x01#8, 0x02#8,
     0x03#8], 16), { idx := 3, words := [458768, 0, 16384, 0, 0, 0, 0, 0, 0, 0, 200, 0, 0, 0, 0, 0], released := false },
     by decide +kernel⟩,
   ⟨tWith [putN Reg.HIF_RINGn_STAT.STATE 40 1, dev fun d => d.setRing 40
     { d.ring 40 with cls := clsCmpj, log2 := 4, taken := [(⟨3, [458768,0,16384,0,10,0,256,0,36864,0,200,0,0,0,0,0], false⟩ : Taken)] },
     put Reg.GLB_SPLIT.COMP ((0 + 1)), put Reg.CMP_CTRL.EN 1, putN Reg.HMP_PARTn.SIZE partStage 0], 40, [1,2,3],
     (Sys2Proof.Instr.cmpCompress 40 [0x01#8, 0x02#8, 0x03#8], 16),
     { idx := 3, words := [458768, 0, 16384, 0, 10, 0, 256, 0, 36864, 0, 200, 0, 0, 0, 0, 0], released := false },
     by decide +kernel⟩,
   ⟨tWith [putN Reg.HIF_RINGn_STAT.STATE 40 1, dev fun d => d.setRing 40
     { d.ring 40 with cls := clsCmpj, log2 := 4, taken := [(⟨3, [458768,0,16384,0,10,0,256,0,36864,0,200,0,0,0,0,0], false⟩ : Taken)] },
     put Reg.GLB_SPLIT.COMP ((0 + 1)), put Reg.CMP_CTRL.EN 1, putN Reg.HMP_PARTn.SIZE partStage ((0 + 1))], 40, [1,2,3],
     (Sys2Proof.Instr.cmpCompress 40 [0x01#8, 0x02#8, 0x03#8], 16),
     { idx := 3, words := [458768, 0, 16384, 0, 10, 0, 256, 0, 36864, 0, 200, 0, 0, 0, 0, 0], released := false },
     by decide +kernel⟩,
   ⟨tWith [dev fun d =>
     { d with cmp := (List.range 4).foldl (fun m l => tset m l (⟨true,40,3,[458768,0,16384,0,10,0,0,0,36864,0,200,0,0,0,0,0],none,[1,2,3,4,5,6,7,8,9,10],none,false⟩ : CmpJob)) d.cmp },
     putN Reg.HIF_RINGn_STAT.STATE 40 1, dev fun d => d.setRing 40
     { d.ring 40 with cls := clsCmpj, log2 := 4, taken := [(⟨3, [458768,0,16384,0,10,0,256,0,36864,0,200,0,0,0,0,0], false⟩ : Taken)] },
     putN Reg.HMP_PARTn.SIZE 2 1, putN Reg.HMP_PARTn.BASE 2 4, putN Reg.HMP_PARTn.SIZE 4 2, put Reg.GLB_SPLIT.COMP ((0 +
     1)), put Reg.CMP_CTRL.EN 1, putN Reg.HMP_PARTn.SIZE partStage ((0 + 1))], 40, [1,2,3], (Sys2Proof.Instr.cmpCompress 40
     [0x01#8, 0x02#8, 0x03#8], 16),
     { idx := 3, words := [458768, 0, 16384, 0, 10, 0, 256, 0, 36864, 0, 200, 0, 0, 0, 0, 0], released := false },
     by decide +kernel⟩,
   ⟨tWith [putN Reg.HIF_RINGn_STAT.STATE 40 1, dev fun d => d.setRing 40
     { d.ring 40 with cls := clsCmpj, log2 := 4, taken := [(⟨3, [458768,0,16384,0,10,0,256,0,36864,0,200,0,0,0,0,0], false⟩ : Taken)] },
     putN Reg.HMP_PARTn.SIZE 2 1, putN Reg.HMP_PARTn.BASE 2 4, putN Reg.HMP_PARTn.SIZE 4 2, put Reg.GLB_SPLIT.COMP ((0 +
     1)), put Reg.CMP_CTRL.EN 1, putN Reg.HMP_PARTn.SIZE partStage ((0 + 1))], 40, [1,2,3], (Sys2Proof.Instr.cmpCompress 40
     [0x01#8, 0x02#8, 0x03#8], 16),
     { idx := 3, words := [458768, 0, 16384, 0, 10, 0, 256, 0, 36864, 0, 200, 0, 0, 0, 0, 0], released := false }, 0, 0,
     by decide +kernel⟩,
   ⟨tWith [putN Reg.HIF_RINGn_STAT.STATE 40 1, dev fun d => d.setRing 40
     { d.ring 40 with cls := clsCmpj, log2 := 4, taken := [(⟨3, [458768,0,16384,0,10,0,0,0,36864,0,200,0,0,0,0,0], false⟩ : Taken)] },
     dev fun d =>
     { d with cmp := (List.range 4).foldl (fun m l => tset m l (⟨true,40,3,[458768,0,16384,0,10,0,0,0,36864,0,200,0,0,0,0,0],none,[1,2,3,4,5,6,7,8,9,10],none,false⟩ : CmpJob)) d.cmp },
     put Reg.GLB_SPLIT.COMP ((0 + 1)), put Reg.CMP_CTRL.EN 1], 40, [1,2,3], (Sys2Proof.Instr.cmpCompress 40 [0x01#8, 0x02#8,
     0x03#8], 16),
     { idx := 3, words := [458768, 0, 16384, 0, 10, 0, 0, 0, 36864, 0, 200, 0, 0, 0, 0, 0], released := false },
     by decide +kernel⟩,
   ⟨tWith [putN Reg.HIF_RINGn_STAT.STATE 40 1, dev fun d => d.setRing 40
     { d.ring 40 with cls := clsCmpj, log2 := 4, taken := [(⟨3, [458768,0,16384,0,10,0,0,0,36864,0,200,0,0,0,0,0], false⟩ : Taken)] },
     put Reg.GLB_SPLIT.COMP ((0 + 1)), put Reg.CMP_CTRL.EN 1], 40, [1,2,3], (Sys2Proof.Instr.cmpCompress 40 [0x01#8, 0x02#8,
     0x03#8], 16),
     { idx := 3, words := [458768, 0, 16384, 0, 10, 0, 0, 0, 36864, 0, 200, 0, 0, 0, 0, 0], released := false }, 0,
     by decide +kernel⟩,
   ⟨tSt, 0, by decide +kernel⟩,
   ⟨(⟨3, [458768,0,16384,0,10,0,0,0,36864,0,200,0,0,0,0,0], false⟩ : Taken), 0, by decide +kernel⟩,
   ⟨tWith [fun s =>
     { s with dev.cmp := tset s.dev.cmp 0 ((⟨true,40,3,[458768,0,16384,0,10,0,0,0,36864,0,200,0,0,0,0,0],none,[1,2,3,4,5,6,7,8,9,10],none,false⟩ : CmpJob)) },
     dev fun d => { d with isl := tset d.isl islHst ⟨.reset, false, false⟩ }], 0,
     (⟨true,40,3,[458768,0,16384,0,10,0,0,0,36864,0,200,0,0,0,0,0],none,[1,2,3,4,5,6,7,8,9,10],none,false⟩ : CmpJob), (if
     (⟨true,40,3,[458768,0,16384,0,10,0,0,0,36864,0,200,0,0,0,0,0],none,[1,2,3,4,5,6,7,8,9,10],none,false⟩ : CmpJob).aborted
     = true then { status := stAborted, bytes := [], len := 0, crc := 0, adler := 0, used := 0, blocks := 0 : CmpResult }
     else if dOpcode (⟨true,40,3,[458768,0,16384,0,10,0,0,0,36864,0,200,0,0,0,0,0],none,[1,2,3,4,5,6,7,8,9,10],none,false⟩ :
     CmpJob).words = 16 then compressResult
     (⟨true,40,3,[458768,0,16384,0,10,0,0,0,36864,0,200,0,0,0,0,0],none,[1,2,3,4,5,6,7,8,9,10],none,false⟩ : CmpJob) else
     decompressResult (tWith [fun s =>
     { s with dev.cmp := tset s.dev.cmp 0 ((⟨true,40,3,[458768,0,16384,0,10,0,0,0,36864,0,200,0,0,0,0,0],none,[1,2,3,4,5,6,7,8,9,10],none,false⟩ : CmpJob)) },
     dev fun d => { d with isl := tset d.isl islHst ⟨.reset, false, false⟩ }]).dev
     (⟨true,40,3,[458768,0,16384,0,10,0,0,0,36864,0,200,0,0,0,0,0],none,[1,2,3,4,5,6,7,8,9,10],none,false⟩ : CmpJob)),
     by decide +kernel, by decide +kernel, by decide +kernel, by decide +kernel, rfl⟩,
   ⟨tWith [fun s =>
     { s with dev.cmp := tset s.dev.cmp 0 ((⟨true,40,3,[458768,0,16384,0,10,0,0,0,36864,0,200,0,0,0,0,0],none,[1,2,3,4,5,6,7,8,9,10],none,false⟩ : CmpJob)) }],
     0, (⟨true,40,3,[458768,0,16384,0,10,0,0,0,36864,0,200,0,0,0,0,0],none,[1,2,3,4,5,6,7,8,9,10],none,false⟩ : CmpJob), (if
     (⟨true,40,3,[458768,0,16384,0,10,0,0,0,36864,0,200,0,0,0,0,0],none,[1,2,3,4,5,6,7,8,9,10],none,false⟩ : CmpJob).aborted
     = true then { status := stAborted, bytes := [], len := 0, crc := 0, adler := 0, used := 0, blocks := 0 : CmpResult }
     else if dOpcode (⟨true,40,3,[458768,0,16384,0,10,0,0,0,36864,0,200,0,0,0,0,0],none,[1,2,3,4,5,6,7,8,9,10],none,false⟩ :
     CmpJob).words = 16 then compressResult
     (⟨true,40,3,[458768,0,16384,0,10,0,0,0,36864,0,200,0,0,0,0,0],none,[1,2,3,4,5,6,7,8,9,10],none,false⟩ : CmpJob) else
     decompressResult (tWith [fun s =>
     { s with dev.cmp := tset s.dev.cmp 0 ((⟨true,40,3,[458768,0,16384,0,10,0,0,0,36864,0,200,0,0,0,0,0],none,[1,2,3,4,5,6,7,8,9,10],none,false⟩ : CmpJob)) }]).dev
     (⟨true,40,3,[458768,0,16384,0,10,0,0,0,36864,0,200,0,0,0,0,0],none,[1,2,3,4,5,6,7,8,9,10],none,false⟩ : CmpJob)),
     by decide +kernel, by decide +kernel, by decide +kernel, by decide +kernel, by decide +kernel, rfl⟩,
   ⟨(⟨true,40,3,[458768,0,16384,0,10,0,0,0,36864,0,200,0,0,0,0,0],none,[1,2,3,4,5,6,7,8,9,10],none,false⟩ : CmpJob),
     by decide +kernel⟩,
   ⟨(⟨true,40,3,[458768,0,16384,0,10,0,0,0,36864,0,200,0,0,0,0,0],none,[1,2,3,4,5,6,7,8,9,10],some 4,false⟩ : CmpJob), 4,
     by decide +kernel⟩,
   ⟨0, by decide +kernel⟩,
   ⟨0, by decide +kernel⟩⟩

end Sys2Proof.Tests
end

/-!
PROOFS. The scope family: reads through the shadows of the access paths (R5 to R7, R35, R66), and power-on reset, the thermal
hold and start-up (R617, R626, R627, R640, R643, R652).
-/

namespace Sys2Proof.Machine

open Sys2Proof

/-! ## The shadow of an access path (R5 to R7) -/

@[simp] theorem path_setPath_same (d : Dev) (p : Path) (x : PathSt) : (d.setPath p x).path p = x := by
  simp [Dev.path, Dev.setPath]

theorem pathNum_injective {p q : Path} (h : pathNum p = pathNum q) : p = q := by
  cases p <;> cases q <;> simp [pathNum] at h ⊢

theorem path_setPath_other (d : Dev) {p q : Path} (h : q ≠ p) (x : PathSt) : (d.setPath p x).path q = d.path q := by
  have hn : pathNum q ≠ pathNum p := fun e => h (pathNum_injective e)
  simp [Dev.path, Dev.setPath, tget_tset_other _ hn]

@[simp] theorem path_set (d : Dev) (f : Field) (v : Nat) (p : Path) : (d.set f v).path p = d.path p := rfl

/-- R5: the high half stands in the path's shadow, and a read of it is due. -/
theorem path_latch_same (d : Dev) (p : Path) (hi v : Nat) :
    (d.latch p hi v).path p =
      { d.path p with shadow := tset (d.path p).shadow hi v, fresh := tset (d.path p).fresh hi 1 } :=
  path_setPath_same d p _

theorem path_latch_other (d : Dev) {p q : Path} (h : q ≠ p) (hi v : Nat) : (d.latch p hi v).path q = d.path q :=
  path_setPath_other d h _

/-- R6, R7: a read of the high half answers the shadow and uses the low half up. -/
theorem path_readShadow_same (d : Dev) (p : Path) (hi : Nat) :
    (d.readShadow p hi).path p =
      { d.path p with rd := BitVec.ofNat 32 (tget (d.path p).shadow hi), fresh := tset (d.path p).fresh hi 0 } := by
  unfold Dev.readShadow
  dsimp only
  split <;> simp

theorem path_readShadow_other (d : Dev) {p q : Path} (h : q ≠ p) (hi : Nat) : (d.readShadow p hi).path q = d.path q := by
  unfold Dev.readShadow
  dsimp only
  split <;> simp [path_setPath_other d h]

/-- R7: without a low half read since the last high half, the read sets TORN. -/
theorem get_torn_readShadow (d : Dev) (p : Path) (hi : Nat) (h : tget (d.path p).fresh hi = 0) :
    (d.readShadow p hi).get Reg.GLB_STATUS.TORN = 1 := by
  simp only [Dev.readShadow, h, if_true]
  exact Dev.get_set_same _ _ _ rfl (by decide)

theorem regs_readShadow_of_fresh (d : Dev) (p : Path) (hi : Nat) (h : tget (d.path p).fresh hi ≠ 0) :
    (d.readShadow p hi).regs = d.regs := by
  simp [Dev.readShadow, h]

/-- What a shadow does (R5 to R7), as ShadowReads puts it. -/
theorem shadow_laws (d : Dev) (p q : Path) (hi v : Nat) :
    (((d.latch p hi v).readShadow p hi).path p).rd = BitVec.ofNat 32 v ∧
      ((d.latch p hi v).readShadow p hi).regs = d.regs ∧
      (q ≠ p → (d.latch p hi v).path q = d.path q ∧ (d.readShadow p hi).path q = d.path q) ∧
      (tget (d.path p).fresh hi = 0 →
        (d.readShadow p hi).get Reg.GLB_STATUS.TORN = 1 ∧
        ((d.readShadow p hi).path p).rd = BitVec.ofNat 32 (tget (d.path p).shadow hi)) ∧
      tget ((d.readShadow p hi).path p).fresh hi = 0 := by
  have hfresh : tget ((d.latch p hi v).path p).fresh hi ≠ 0 := by simp [path_latch_same]
  refine ⟨?_, regs_readShadow_of_fresh _ p hi hfresh, fun h => ⟨?_, ?_⟩, fun h => ⟨?_, ?_⟩, ?_⟩
  · simp [path_readShadow_same, path_latch_same]
  · exact path_latch_other d h hi v
  · exact path_readShadow_other d h hi
  · exact get_torn_readShadow d p hi h
  · simp [path_readShadow_same]
  · simp [path_readShadow_same]

/-! ## Reads that reach their block (R632, Table SCP-3) -/

/-- A read of a defined, aligned address of an island that accepts requests reaches its block. -/
theorem busRead_reaches (t : Time) (p : Path) {a : Nat} {d : Dev} (h4 : a % 4 = 0) (hb : a < bar0Bytes)
    (hf : (fieldsAt a).isEmpty = false) (hu : d.up (islandOf a) = true) : busRead t p a d = blockRead t p a d := by
  have ha : a / 4 * 4 = a := by omega
  simp [busRead, ha, Nat.not_le.2 hb, hf, hu]

theorem blockRead_high (t : Time) (p : Path) {a : Nat} (d : Dev) (h : isHigh a = true) :
    blockRead t p a d = d.readShadow p a := by
  simp [blockRead, h]

/-- A read that is neither of a high half nor of a thread's hand-over answers the word, latches the high halves that belong
to it and clears RC fields. -/
theorem blockRead_plain (t : Time) (p : Path) {a : Nat} (d : Dev) (h : isHigh a = false)
    (hd : ¬ (0x100100 ≤ a ∧ a < 0x100220 ∧ a % 16 = 8)) :
    blockRead t p a d = readClears a
      ((highHalves t a d).foldl (fun x h => x.latch p h.1 h.2) (d.answer p (readWord t a d))) := by
  simp [blockRead, h, hd]

theorem readWord_live {t : Time} {a n : Nat} {d : Dev} (h : liveWord t a d = some n) :
    readWord t a d = BitVec.ofNat 32 n := by
  simp [readWord, h]

theorem readWord_stored {t : Time} {a : Nat} {d : Dev} (h : liveWord t a d = none)
    (hw : ((fieldsAt a).filter fun f => decide (f.acc = .wo)) = []) : readWord t a d = d.word a := by
  simp only [readWord, h, hw, maskOf, List.foldl_nil, BitVec.ofNat_eq_ofNat, BitVec.not_zero, BitVec.and_allOnes]

/-- A read of a register without RC fields clears nothing, unless its read starts something anew (Tables ADC-11 and RUL-19). -/
theorem readClears_none {a : Nat} (d : Dev) (hrc : ((fieldsAt a).filter fun f => decide (f.acc = .rc)) = [])
    (hr : a ≠ 0xC0020) (hc : ¬ (a = 0xA0068 ∨ a = 0xA00A8)) : readClears a d = d := by
  simp [readClears, hrc, hr, hc, maskOf]

/-- A read of a register that RC fields fill clears it. -/
theorem readClears_all {a : Nat} (d : Dev) (hrc : maskOf ((fieldsAt a).filter fun f => decide (f.acc = .rc)) = BitVec.allOnes 32)
    (hr : a ≠ 0xC0020) (hc : ¬ (a = 0xA0068 ∨ a = 0xA00A8)) : readClears a d = { d with regs := rput d.regs a 0 } := by
  simp [readClears, hrc, hr, hc]

/-! ## The timekeeper's halves (R35, R66) and the counters that a read clears (Table SCP-3) -/

theorem fieldsAt_nowNs : fieldsAt 0x10008 = [Reg.TKP_NOW_NS.NS] := by decide +kernel

theorem fieldsAt_st32 : fieldsAt 0x10014 = [Reg.TKP_ST32.ST] := by decide +kernel

theorem busRead_nowNs (t : Time) (p : Path) (d : Dev) (hu : d.up (islandOf 0x10008) = true) :
    busRead t p 0x10008 d = ((d.answer p (BitVec.ofNat 32 t.nsec)).latch p 0x1000C (t.sec % 2 ^ 32)).latch p 0x10010
      (t.sec / 2 ^ 32 % 2 ^ 16) := by
  have hlive : liveWord t 0x10008 d = some t.nsec := rfl
  rw [busRead_reaches t p (by decide) (by decide) (by rw [fieldsAt_nowNs]; rfl) hu,
    blockRead_plain t p d (by decide) (by decide), readWord_live hlive,
    readClears_none _ (by rw [fieldsAt_nowNs]; rfl) (by decide) (by decide)]
  rfl

theorem busRead_st32 (t : Time) (p : Path) (d : Dev) (hu : d.up (islandOf 0x10014) = true) :
    busRead t p 0x10014 d = (d.answer p (BitVec.ofNat 32 t.st32)).latch p 0x10018 t.epoch := by
  have hlive : liveWord t 0x10014 d = some t.st32 := rfl
  rw [busRead_reaches t p (by decide) (by decide) (by rw [fieldsAt_st32]; rfl) hu,
    blockRead_plain t p d (by decide) (by decide), readWord_live hlive,
    readClears_none _ (by rw [fieldsAt_st32]; rfl) (by decide) (by decide)]
  rfl

/-- The addresses of the four clearing counters of the Hamper. -/
def hamperCounters : List Nat := [0x20030, 0x20034, 0x20038, 0x2003C]

/-- Each of the Hamper's clearing counters is one RC field that fills its word. -/
theorem fieldsAt_hamperCounter {a : Nat} (h : a ∈ hamperCounters) :
    ∃ f : Field, fieldsAt a = [f] ∧ f.acc = .rc ∧ f.mask = BitVec.allOnes 32 := by
  have hfields : hamperCounters.map fieldsAt =
      [[Reg.HMP_CNT_TRANS.N], [Reg.HMP_CNT_LAST.N], [Reg.HMP_CNT_REL.N], [Reg.HMP_CNT_BAR4WR.N]] := by decide +kernel
  have hmem := List.mem_map_of_mem (f := fieldsAt) h
  rw [hfields] at hmem
  simp only [List.mem_cons, List.not_mem_nil, or_false] at hmem
  rcases hmem with h | h | h | h <;> exact ⟨_, h, rfl, by decide⟩

/-- No read of a Hamper counter is formed as it is read, of a high half, or starts anything anew. -/
theorem hamperCounter_plain {a : Nat} (h : a ∈ hamperCounters) (t : Time) (d : Dev) :
    a % 4 = 0 ∧ a < bar0Bytes ∧ a < 0x40000 ∧ isHigh a = false ∧ liveWord t a d = none ∧ highHalves t a d = [] := by
  simp only [hamperCounters, List.mem_cons, List.not_mem_nil, or_false] at h
  rcases h with rfl | rfl | rfl | rfl <;> exact ⟨rfl, by decide, by decide, by decide, rfl, rfl⟩

theorem busRead_hamperCounter (t : Time) (p : Path) {a : Nat} (d : Dev) (h : a ∈ hamperCounters)
    (hu : d.up (islandOf a) = true) :
    busRead t p a d = { d.answer p (d.word a) with regs := rput d.regs a 0 } := by
  obtain ⟨f, hf, hacc, hmask⟩ := fieldsAt_hamperCounter h
  obtain ⟨h4, hb, hlt, hhigh, hlive, hhalves⟩ := hamperCounter_plain h t d
  have hrc : maskOf ((fieldsAt a).filter fun f => decide (f.acc = .rc)) = BitVec.allOnes 32 := by
    simp [hf, hacc, maskOf, hmask]
  rw [busRead_reaches t p h4 hb (by rw [hf]; rfl) hu, blockRead_plain t p d hhigh (by omega), hhalves,
    readWord_stored hlive (by simp [hf, hacc]), readClears_all _ hrc (by omega) (by omega)]
  rfl

/-! ## The commands that read one address -/

theorem exec_readTkpNowNs (p : Path) (s : State) :
    exec (.readTkpNowNs p) s = .next (s.after (busRead s.time p 0x10008 s.dev)) := rfl

theorem exec_readLowHalf (p : Path) (a : Nat) (s : State) :
    exec (.readLowHalf p a) s = .next (s.after (busRead s.time p a s.dev)) := rfl

theorem exec_readHighHalf (p : Path) (a : Nat) (s : State) :
    exec (.readHighHalf p a) s = .next (s.after (busRead s.time p a s.dev)) := rfl

theorem exec_readClearOnRead (p : Path) (a : Nat) (s : State) :
    exec (.readClearOnRead p a) s = .next (s.after (busRead s.time p a s.dev)) := rfl

theorem exec_readTkpFreqLo (p : Path) (s : State) :
    exec (.readTkpFreqLo p) s =
      .next (s.after (if s.dev.pwr.released then readFreqLo p s.dev else s.dev.answer p 0)) := rfl

/-- Settles O13: each read goes through `busRead` to its block, and the shadow does what `shadow_laws` says. -/
theorem shadowReads : Obligations.ShadowReads := by
  unfold Obligations.ShadowReads
  refine ⟨⟨fun s p hu => ?_, fun s p hu => ?_, fun s p hr => ?_, fun s p a hh h4 hb hf hu => ?_, fun s p a ha hu => ?_⟩,
    shadow_laws⟩
  · rw [exec_readTkpNowNs, busRead_nowNs s.time p s.dev hu]
  · rw [exec_readLowHalf, busRead_st32 s.time p s.dev hu]
  · rw [exec_readTkpFreqLo, if_pos hr]
    rfl
  · rw [exec_readHighHalf, busRead_reaches s.time p h4 hb hf hu, blockRead_high s.time p s.dev hh]
  · rw [exec_readClearOnRead, busRead_hamperCounter s.time p s.dev ha hu]

/-! ## Power-on reset and the thermal hold (R640, R643, R652) -/

/-- With no event raised and an empty intake on a register file at its Reset values, the end of a command changes nothing. -/
theorem finish_of_reset {s : State} (he : s.dev.evs = []) (hi : s.log.intake = []) (hr : s.dev.regs = []) : finish s = s := by
  have hset : fput [] Reg.LOG_STATUS.INTAKE 0 0 = [] := by decide +kernel
  obtain ⟨t, lb, d, q⟩ := s
  cases d
  cases lb
  simp only at he hi hr
  subst he hi hr
  simp [finish, orderEvs, Dev.set, Dev.setN, hset]

/-- The block in a power-on reset entered from a device; the queue of waiting commands stays. -/
def porState (s : State) (d : Dev) : State := { s with time := ⟨0, 0⟩, log := default, dev := porDev d }

/-- Entering a power-on reset ends there: the reset raises no event and leaves the intake empty. -/
theorem finish_porState (s : State) (d : Dev) : finish (porState s d) = porState s d := finish_of_reset rfl rfl rfl

@[simp] theorem word_porState (s : State) (d : Dev) (a : Nat) : (porState s d).dev.word a = resetWord a := rfl

theorem exec_powerOnReset (test : Bool) (s : State) :
    exec (.powerOnReset test) s = .next (porState s (s.dev.modPwr fun p => { p with testEn := test })) :=
  congrArg Host.Outcome.next (finish_porState s _)

theorem exec_sysRstAssert (s : State) :
    exec .sysRstAssert s = .next (porState s (s.dev.modPwr fun p => { p with sysRst := true })) :=
  congrArg Host.Outcome.next (finish_porState s _)

theorem exec_thermalTrip (tj : Int) (s : State) : exec (.thermalTrip tj) s = runAll s (thermalTrip tj) := rfl

theorem exec_thermalTrip_trips {tj : Int} (s : State) (h : max 118 (min 122 Config.tripLevel) ≤ tj) :
    exec (.thermalTrip tj) s = .next (porState s (s.dev.modPwr fun p => { p with hot := true })) := by
  rw [exec_thermalTrip, runAll, thermalTrip, if_pos h]
  exact congrArg Host.Outcome.next (finish_porState s _)

theorem exec_thermalTrip_releases {tj : Int} (s : State) (h : tj ≤ max 108 (min 112 Config.releaseLevel)) :
    exec (.thermalTrip tj) s = .next (s.after (s.dev.modPwr fun p => { p with hot := false })) := by
  rw [exec_thermalTrip, runAll, thermalTrip, if_neg (by omega), if_pos h]
  rfl

theorem exec_thermalTrip_between {tj : Int} (s : State) (hr : max 108 (min 112 Config.releaseLevel) < tj)
    (ht : tj < max 118 (min 122 Config.tripLevel)) : exec (.thermalTrip tj) s = .next (s.after s.dev) := by
  rw [exec_thermalTrip, runAll, thermalTrip, if_neg (by omega), if_neg (by omega)]
  rfl

/-! ## Start-up (R617, R625 to R627) -/

/-- What a step of a fold leaves alone, the fold leaves alone. -/
theorem foldl_keeps {α β γ : Type} (g : α → γ) (f : α → β → α) (h : ∀ a b, g (f a b) = g a) (l : List β) (a : α) :
    g (l.foldl f a) = g a := by
  induction l generalizing a with
  | nil => rfl
  | cons b l ih => exact (ih _).trans (h a b)

@[simp] theorem resetEnded_pwr (k i : Nat) (d : Dev) : (resetEnded k i d).pwr = d.pwr := by simp [resetEnded]

@[simp] theorem bootSettings_pwr (d : Dev) : (bootSettings d).pwr = d.pwr := by
  unfold bootSettings
  split <;> rfl

@[simp] theorem setMapFull_pwr (b : Nat) (d : Dev) : (setMapFull b d).pwr = d.pwr := by
  simp only [setMapFull]
  split <;> split <;> rfl

@[simp] theorem fence_pwr (w : Nat) (c : HCause) (d : Dev) : (fence w c d).pwr = d.pwr := rfl

@[simp] theorem selfTestWord_pwr (w : Nat) (d : Dev) : (selfTestWord w d).pwr = d.pwr := by
  simp only [selfTestWord]
  split
  · rfl
  · split <;> simp

@[simp] theorem hamperSelfTest_pwr (bad : List Nat) (d : Dev) : (hamperSelfTest bad d).pwr = d.pwr := by
  simp only [hamperSelfTest, Dev.set_pwr]
  rw [foldl_keeps Dev.pwr _ (fun d b => by split <;> rfl), foldl_keeps Dev.pwr _ (fun d w => selfTestWord_pwr w d)]
  rfl

@[simp] theorem keyShow_pwr (s : Nat) (d : Dev) : (keyShow s d).pwr = d.pwr := by
  simp only [keyShow]
  split <;> split <;> split <;> rfl

@[simp] theorem keyPut_pwr (s : Nat) (k : KeySlot) (d : Dev) : (keyPut s k d).pwr = d.pwr := keyShow_pwr s _

@[simp] theorem keyLoadSlot_pwr (d : Dev) (s : Nat) : (keyLoadSlot d s).pwr = d.pwr := by
  simp only [keyLoadSlot]
  rw [apply_ite Dev.pwr]
  split
  · simp [apply_ite Dev.pwr]
  · split <;> simp [apply_ite Dev.pwr]

@[simp] theorem keyLoad_pwr (d : Dev) : (keyLoad d).pwr = d.pwr := by
  simp only [keyLoad]
  split
  · rfl
  · simp only [Dev.set_pwr]
    rw [foldl_keeps Dev.pwr _ keyLoadSlot_pwr]
    rfl

/-- Islands take up modes one after another. -/
def setModes (m : Nat → IslMode) (is : List Nat) (d : Dev) : Dev :=
  is.foldl (fun x i => x.modIsl i fun y => { y with mode := m i }) d

@[simp] theorem setModes_pwr (m : Nat → IslMode) (is : List Nat) (d : Dev) : (setModes m is d).pwr = d.pwr :=
  foldl_keeps Dev.pwr (fun x i => x.modIsl i fun y => { y with mode := m i }) (fun _ _ => rfl) is d

theorem islMode_modIsl (d : Dev) (i j : Nat) (f : IslSt → IslSt) :
    islMode (d.modIsl i f) j = if j = i then (f (tget d.isl i)).mode else islMode d j := by
  simp only [islMode, Dev.modIsl, tget_tmod]
  split <;> rfl

/-- Each island of the list has the mode given for it, every other its own. -/
theorem islMode_setModes (m : Nat → IslMode) (is : List Nat) (d : Dev) (j : Nat) :
    islMode (setModes m is d) j = if j ∈ is then m j else islMode d j := by
  induction is generalizing d with
  | nil => simp [setModes]
  | cons i is ih =>
    have hstep : setModes m (i :: is) d = setModes m is (d.modIsl i fun y => { y with mode := m i }) := rfl
    rw [hstep, ih, islMode_modIsl]
    by_cases hji : j = i
    · subst hji
      simp
    · simp [hji]

@[simp] theorem scrubStart_pwr (t : Time) (d : Dev) : (scrubStart t d).pwr = d.pwr := rfl
@[simp] theorem scrubStart_isl (t : Time) (d : Dev) : (scrubStart t d).isl = d.isl := rfl

@[simp] theorem xaornBoot_isl (t : Time) (k : Nat) (d : Dev) : (xaornBoot t k d).isl = d.isl := by
  unfold xaornBoot
  split
  · rfl
  · split
    · rfl
    · simp [xaornFail]

@[simp] theorem xaornBoot_released (t : Time) (k : Nat) (d : Dev) : (xaornBoot t k d).pwr.released = d.pwr.released := by
  unfold xaornBoot
  split
  · rfl
  · split
    · rfl
    · simp [xaornFail]

/-- HST waits for PERST_N; every other island runs from start-up on (R617, R628). -/
def startMode (perstLow : Bool) (i : Nat) : IslMode := if i = 0 ∧ perstLow then .reset else .run

/-- Start-up up to the islands: the causes of the reset, the boot settings, the self-test and the key load (R617, R625 to
R627). -/
def startChecks (b : BootInfo) (d : Dev) : Dev :=
  let d0 := d.modPwr fun p => { flashLoad b.flash p with released := true, sysRst := false, oscBad := !b.oscOk }
  let d1 := (resetEnded 0 0 d0).setB Reg.GLB_RSTCAUSE.EXT 0 d.pwr.sysRst
  let d2 := (bootSettings d1).setB Reg.TKP_STATUS.OSC10M_OK 0 b.oscOk
  let d3 := d2.setB Reg.LOG_STATUS.FLUSH_READY 0 (!d2.flush.dirty)
  keyLoad ((hamperSelfTest b.badWords d3).modKeys fun k => { k with fuseBad := !b.fuseOk })

/-- Start-up from the islands on: the scrub, Xaorn and the host interface (R626, R627). -/
def startServices (t : Time) (perstLow : Bool) (d : Dev) : Dev :=
  let d1 := if d.on Reg.HMP_CTRL.SCRUB_EN then scrubStart t d else d
  let d2 := xaornBoot t (bootSlot d1.pwr) d1
  { d2 with hif := { d2.hif with lastHb := t.loc, training := if perstLow then none else some t.loc } }

theorem porRelease_starts (t : Time) (b : BootInfo) {d : Dev} (hr : d.pwr.released = false) (ht : d.pwr.testEn = false)
    (hh : d.pwr.hot = false) :
    porRelease t b d =
      startServices t d.pwr.perstLow (setModes (startMode d.pwr.perstLow) islands (startChecks b d)) := by
  rw [porRelease, if_neg (by simp [hr, ht, hh])]
  rfl

theorem porRelease_held (t : Time) (b : BootInfo) {d : Dev}
    (h : d.pwr.released = true ∨ d.pwr.testEn = true ∨ d.pwr.hot = true) : porRelease t b d = d := if_pos h

@[simp] theorem startChecks_released (b : BootInfo) (d : Dev) : (startChecks b d).pwr.released = true := by
  simp [startChecks]

@[simp] theorem startServices_released (t : Time) (low : Bool) (d : Dev) :
    (startServices t low d).pwr.released = d.pwr.released := by
  simp only [startServices, xaornBoot_released]
  split <;> rfl

theorem islMode_startServices (t : Time) (low : Bool) (d : Dev) (i : Nat) :
    islMode (startServices t low d) i = islMode d i := by
  simp only [islMode, startServices, xaornBoot_isl]
  split <;> rfl

@[simp] theorem startServices_lastHb (t : Time) (low : Bool) (d : Dev) : (startServices t low d).hif.lastHb = t.loc := rfl

theorem exec_porRelease (b : BootInfo) (s : State) :
    exec (.porRelease b) s = .next (s.after (porRelease s.time b s.dev)) := rfl

theorem islMode_after (s : State) (d : Dev) (i : Nat) : islMode (s.after d).dev i = islMode d i := by
  simp [islMode, State.after]

@[simp] theorem after_lastHb (s : State) (d : Dev) : (s.after d).dev.hif.lastHb = d.hif.lastHb := finish_hif_lastHb _

/-- What a released POR leaves (R617, R627). -/
theorem porRelease_result (s : State) (b : BootInfo) (hr : s.dev.pwr.released = false) (ht : s.dev.pwr.testEn = false)
    (hh : s.dev.pwr.hot = false) :
    (s.after (porRelease s.time b s.dev)).dev.pwr.released = true ∧
      (∀ i, i < 36 → islMode (s.after (porRelease s.time b s.dev)).dev i = startMode s.dev.pwr.perstLow i) ∧
      (s.after (porRelease s.time b s.dev)).dev.hif.lastHb = s.time.loc := by
  rw [porRelease_starts s.time b hr ht hh]
  refine ⟨by simp, fun i hi => ?_, by simp⟩
  rw [islMode_after, islMode_startServices, islMode_setModes, if_pos (by simpa [islands] using hi)]

/-! ## READY (R627) -/

theorem exec_deviceReady (s : State) : exec .deviceReady s = .next (s.after (deviceReady s.dev)) := rfl

/-- The start-up conditions for READY. -/
def mayBeReady (d : Dev) : Prop :=
  d.pwr.released = true ∧ d.on Reg.GLB_STATUS.READY = false ∧ d.on Reg.HMP_STATUS.SELFTEST_DONE = true ∧
    d.on Reg.KEY_STATUS.LOADED = true ∧ (∀ i ∈ islands, d.up i = true) ∧
    (d.on Reg.GLB_STATUS.XAORN_RUN = true ∨ d.on Reg.GLB_STATUS.XFAIL = true)

theorem deviceReady_rises {d : Dev} (h : mayBeReady d) :
    deviceReady d = (d.set Reg.GLB_STATUS.READY 1).cause intGlb 0 0 0 := by
  obtain ⟨hrel, hready, htest, hkeys, hup, hx⟩ := h
  exact if_pos ⟨hrel, by simp [hready], htest, hkeys, List.all_eq_true.2 hup, hx⟩

theorem deviceReady_waits {d : Dev} (h : ¬ mayBeReady d) : deviceReady d = d := by
  refine if_neg fun ⟨hrel, hready, htest, hkeys, hup, hx⟩ => h ?_
  exact ⟨hrel, by simpa using hready, htest, hkeys, List.all_eq_true.1 hup, hx⟩

/-- Settles O15: the three causes of a POR end in `porState`, and `porRelease_starts` takes start-up apart. -/
theorem powerOn : Obligations.PowerOn := by
  unfold Obligations.PowerOn
  refine ⟨⟨fun s test => ?_, fun s => ?_, fun s tj h => ?_, fun s tj h => exec_thermalTrip_releases s h,
    fun s tj hr ht => exec_thermalTrip_between s hr ht⟩, fun s b hr ht hh => ?_, fun s b h => ?_,
    fun s hrel hready htest hkeys hup hx => ?_, fun s h => ?_⟩
  · exact ⟨_, exec_powerOnReset test s, rfl, rfl, word_porState s _, rfl, rfl, rfl, rfl, rfl, rfl, rfl, rfl, rfl, rfl, rfl⟩
  · exact ⟨_, exec_sysRstAssert s, rfl, rfl, word_porState s _, rfl, rfl, rfl, rfl⟩
  · exact ⟨_, exec_thermalTrip_trips s h, rfl, rfl, word_porState s _, rfl, rfl⟩
  · obtain ⟨hrel, hmode, hhb⟩ := porRelease_result s b hr ht hh
    refine ⟨_, exec_porRelease b s, hrel, after_time s _, after_pending s _, fun i h0 hi => ?_, ?_, hhb⟩
    · rw [hmode i hi, startMode, if_neg (by omega)]
    · rw [hmode 0 (by decide), startMode]
      simp
  · rw [exec_porRelease, porRelease_held s.time b h]
  · rw [exec_deviceReady, deviceReady_rises ⟨hrel, hready, htest, hkeys, hup, hx⟩]
  · rw [exec_deviceReady, deviceReady_waits]
    rintro ⟨hrel, hready, htest, hkeys, hup, hx⟩
    rcases h with h | h | h | h | ⟨i, hi, h⟩ | ⟨h1, h2⟩
    · simp [h] at hrel
    · simp [h] at hready
    · simp [h] at htest
    · simp [h] at hkeys
    · simp [hup i hi] at h
    · simp [h1, h2] at hx

end Sys2Proof.Machine

/-!
PROOFS. The scope family: GLB_SPLIT and GLB_LOCK (R25, R30), on laws of a write under the access codes of the fields of one word
(Table SCP-3).
-/

namespace Sys2Proof.Machine

open Sys2Proof

/-! ## A field reads its own bits -/

/-- Words that agree on the bits of a field agree on the field. -/
theorem ofWord_eq_of_bits (f : Field) {v w : Word32}
    (h : ∀ k < f.width, v.getLsbD (f.lo + k) = w.getLsbD (f.lo + k)) : f.ofWord v = f.ofWord w := by
  apply Nat.eq_of_testBit_eq
  intro k
  rw [Field.ofWord_testBit, Field.ofWord_testBit]
  by_cases hk : k < f.width
  · rw [h k hk]
  · simp [hk]

theorem ofWord_and (f : Field) (v w : Word32) : f.ofWord (v &&& w) = f.ofWord v &&& f.ofWord w := by
  apply Nat.eq_of_testBit_eq
  intro k
  simp only [Field.ofWord_testBit, Nat.testBit_and, BitVec.getLsbD_and]
  cases decide (k < f.width) <;> rfl

theorem ofWord_or (f : Field) (v w : Word32) : f.ofWord (v ||| w) = f.ofWord v ||| f.ofWord w := by
  apply Nat.eq_of_testBit_eq
  intro k
  simp only [Field.ofWord_testBit, Nat.testBit_or, BitVec.getLsbD_or]
  cases decide (k < f.width) <;> rfl

theorem ofWord_lt (f : Field) (w : Word32) : f.ofWord w < 2 ^ f.width := Nat.mod_lt _ (Nat.two_pow_pos _)

theorem ofWord_oneBit (f : Field) (hw : f.width = 1) (w : Word32) : f.ofWord w = (bitOf w f.lo).toNat := by
  apply Nat.eq_of_testBit_eq
  intro k
  rw [f.ofWord_testBit, hw, bitOf, Nat.testBit_bool_toNat]
  by_cases hk : k = 0 <;> simp [hk]

theorem apart_comm (f g : Field) : f.apart g = g.apart f := by
  simp only [Field.apart, or_comm]

/-- A bit of one field is no bit of a field apart from it. -/
theorem mask_bit_apart {f g : Field} (hg : g.fits = true) (h : g.apart f = true) {k : Nat} (hk : k < f.width) :
    g.mask.getLsbD (f.lo + k) = false := by
  simp only [Field.apart, decide_eq_true_eq] at h
  rw [g.mask_bit hg, Bool.and_eq_false_iff, decide_eq_false_iff_not, decide_eq_false_iff_not]
  omega

theorem maskOf_bit (fs : List Field) (k : Nat) : (maskOf fs).getLsbD k = fs.any fun f => f.mask.getLsbD k := by
  have hfold : ∀ m : Word32, (fs.foldl (fun m f => m ||| f.mask) m).getLsbD k =
      (m.getLsbD k || fs.any fun f => f.mask.getLsbD k) := by
    induction fs with
    | nil => simp
    | cons f fs ih =>
      intro m
      rw [List.foldl_cons, ih, List.any_cons, BitVec.getLsbD_or, Bool.or_assoc]
  simpa [maskOf] using hfold 0

/-! ## One field under a write (Table SCP-3) -/

/-- A write under a field's access code leaves the fields apart from it. -/
theorem ofWord_accessWrite_apart (lk : Bool) (v w : Word32) {f g : Field} (hf : f.fits = true) (hg : g.fits = true)
    (h : g.apart f = true) : f.ofWord (accessWrite lk v w g) = f.ofWord w := by
  have hin : f.ofWord (g.inWord w (g.ofWord v)) = f.ofWord w := g.ofWord_inWord_apart f hg hf h w _
  cases ha : g.acc with
  | rw => simpa only [accessWrite, ha] using hin
  | rwl => cases lk <;> simp [accessWrite, ha, hin]
  | w1c =>
    simp only [accessWrite, ha]
    refine ofWord_eq_of_bits f fun k hk => ?_
    simpa [mask_bit_apart hg h hk] using BitVec.lt_of_getLsbD
  | w1s =>
    simp only [accessWrite, ha]
    exact ofWord_eq_of_bits f fun k hk => by simp [mask_bit_apart hg h hk]
  | ro | wo | rc => simp only [accessWrite, ha]

/-- What a write makes of a field depends on that field of the old word alone. -/
theorem ofWord_accessWrite_congr (lk : Bool) (v : Word32) {w x : Word32} {f : Field} (hf : f.fits = true)
    (h : f.ofWord w = f.ofWord x) : f.ofWord (accessWrite lk v w f) = f.ofWord (accessWrite lk v x f) := by
  cases ha : f.acc with
  | rw => simp only [accessWrite, ha, f.ofWord_inWord hf]
  | rwl => cases lk <;> simp [accessWrite, ha, f.ofWord_inWord hf, h]
  | w1c => simp only [accessWrite, ha, ofWord_and, h]
  | w1s => simp only [accessWrite, ha, ofWord_or, h]
  | ro | wo | rc => simpa only [accessWrite, ha] using h

/-- A field under the lock keeps its value while the lock is set and takes the one written while it is open. -/
theorem ofWord_accessWrite_rwl (lk : Bool) (v w : Word32) {f : Field} (hf : f.fits = true) (ha : f.acc = .rwl) :
    f.ofWord (accessWrite lk v w f) = if lk then f.ofWord w else f.ofWord v := by
  cases lk with
  | true => simp [accessWrite, ha]
  | false => simp [accessWrite, ha, f.ofWord_inWord hf, Nat.mod_eq_of_lt (ofWord_lt f v)]

/-- A bit that is cleared by writing 1. -/
theorem ofWord_accessWrite_w1c (lk : Bool) (v w : Word32) {f : Field} (hf : f.fits = true) (hw : f.width = 1)
    (ha : f.acc = .w1c) : f.ofWord (accessWrite lk v w f) = if f.ofWord v = 1 then 0 else f.ofWord w := by
  have hm : f.mask.getLsbD f.lo = true := by simp [f.mask_bit hf, hw]
  have hbit : (w &&& ~~~(v &&& f.mask)).getLsbD f.lo = (w.getLsbD f.lo && !v.getLsbD f.lo) := by
    have hlt : f.lo < 32 := BitVec.lt_of_getLsbD hm
    simp only [BitVec.getLsbD_and, BitVec.getLsbD_not, hm, hlt, decide_true, Bool.and_true, Bool.true_and]
  simp only [accessWrite, ha, ofWord_oneBit f hw, bitOf, hbit]
  cases v.getLsbD f.lo <;> simp

/-! ## The fields of one word under a write -/

/-- Fields that fit their word and share no bit with one another. -/
def Tiled (fs : List Field) : Prop := (∀ f ∈ fs, f.fits = true) ∧ fs.Pairwise fun f g => f.apart g = true

theorem tiled_apart {fs : List Field} (ht : Tiled fs) {f g : Field} (hf : f ∈ fs) (hg : g ∈ fs) (h : f ≠ g) :
    f.apart g = true := by
  have hsymm : Std.Symm fun f g : Field => f.apart g = true := ⟨fun f g h => (apart_comm g f).trans h⟩
  exact ht.2.forall hf hg h

theorem ofWord_writeFold_apart (lk : Bool) (v : Word32) {f : Field} (hf : f.fits = true) {fs : List Field}
    (h : ∀ g ∈ fs, g.fits = true ∧ g.apart f = true) (w : Word32) :
    f.ofWord (fs.foldl (accessWrite lk v) w) = f.ofWord w := by
  induction fs generalizing w with
  | nil => rfl
  | cons g fs ih =>
    obtain ⟨⟨hg, hgf⟩, hfs⟩ := List.forall_mem_cons.1 h
    rw [List.foldl_cons, ih hfs, ofWord_accessWrite_apart lk v w hf hg hgf]

/-- Each field of a word becomes what its own access code makes of it, whatever the others are. -/
theorem ofWord_writeFold (lk : Bool) (v : Word32) {fs : List Field} (ht : Tiled fs) {f : Field} (hf : f ∈ fs) (w : Word32) :
    f.ofWord (fs.foldl (accessWrite lk v) w) = f.ofWord (accessWrite lk v w f) := by
  obtain ⟨hfits, hpair⟩ := ht
  induction fs generalizing w with
  | nil => cases hf
  | cons g fs ih =>
    obtain ⟨hg, hfs⟩ := List.forall_mem_cons.1 hfits
    obtain ⟨hgfs, hpair⟩ := List.pairwise_cons.1 hpair
    rw [List.foldl_cons]
    rcases List.mem_cons.1 hf with rfl | hmem
    · exact ofWord_writeFold_apart lk v hg (fun x hx => ⟨hfs x hx, (apart_comm x f).trans (hgfs x hx)⟩) _
    · rw [ih hmem _ hfs hpair]
      exact ofWord_accessWrite_congr lk v (hfs f hmem) (ofWord_accessWrite_apart lk v w (hfs f hmem) hg (hgfs f hmem))

@[simp] theorem enableRises_regs (a : Nat) (old : Word32) (d : Dev) : (enableRises a old d).regs = d.regs := by
  unfold enableRises
  split
  · dsimp only
    split <;> simp
  · rfl

theorem ofWord_word {f : Field} {a : Nat} (ha : f.reg.addr 0 = a) (d : Dev) : f.ofWord (d.word a) = d.get f := by
  rw [Dev.get, Dev.getN, fget, ha, Dev.word]

/-- A written register's field reads what its access code makes of the word written. -/
theorem get_plainWrite {a : Nat} (v : Word32) (d : Dev) (ht : Tiled (fieldsAt a)) {f : Field} (hf : f ∈ fieldsAt a)
    (ha : f.reg.addr 0 = a) : (plainWrite a v d).get f = f.ofWord (accessWrite (locked d) v (d.word a) f) := by
  rw [Dev.get, Dev.getN, fget, ha, plainWrite, enableRises_regs, rword_rput_same]
  exact ofWord_writeFold (locked d) v ht hf (d.word a)

/-! ## A write that keeps some fields -/

/-- The word a write stores into when it is to keep the fields `fs` of the word `w`. -/
def keptWord (fs : List Field) (v w : Word32) : Word32 := (v &&& ~~~maskOf fs) ||| (w &&& maskOf fs)

theorem writeKeeping_eq (fs : List Field) (a : Nat) (v : Word32) (d : Dev) :
    writeKeeping fs a v d = plainWrite a (keptWord fs v (d.word a)) d := rfl

/-- A field that is to be kept. -/
theorem ofWord_keptWord_mem {fs : List Field} {f : Field} (hf : f.fits = true) (h : f ∈ fs) (v w : Word32) :
    f.ofWord (keptWord fs v w) = f.ofWord w := by
  refine ofWord_eq_of_bits f fun k hk => ?_
  have hm : (maskOf fs).getLsbD (f.lo + k) = true := by
    rw [maskOf_bit, List.any_eq_true]
    exact ⟨f, h, by simp [f.mask_bit hf, hk]⟩
  simp [keptWord, hm]

/-- A field apart from those that are to be kept. -/
theorem ofWord_keptWord_apart {fs : List Field} {f : Field} (h : ∀ g ∈ fs, g.fits = true ∧ g.apart f = true)
    (v w : Word32) : f.ofWord (keptWord fs v w) = f.ofWord v := by
  refine ofWord_eq_of_bits f fun k hk => ?_
  have hm : (maskOf fs).getLsbD (f.lo + k) = false := by
    rw [maskOf_bit, List.any_eq_false]
    intro g hg
    simp [mask_bit_apart (h g hg).1 (h g hg).2 hk]
  simpa [keptWord, hm] using BitVec.lt_of_getLsbD

/-! ## GLB_SPLIT (R25, R30) -/

/-- The fields of GLB_SPLIT with REJ. -/
def splitRegister : List Field := splitFields ++ [Reg.GLB_SPLIT.REJ]

/-- The fields that a write of `v` is to keep (R25). -/
def splitKept (v : Word32) : List Field := splitFields.filter (splitBad v)

theorem splitBad_iff (v : Word32) (f : Field) :
    splitBad v f = true ↔ f.ofWord v = 3 ∨ (f = Reg.GLB_SPLIT.KEY ∧ f.ofWord v = 2) := by
  simp [splitBad, and_comm]

theorem mem_splitKept {v : Word32} {f : Field} : f ∈ splitKept v ↔ f ∈ splitFields ∧ splitBad v f = true :=
  List.mem_filter

theorem rej_notMem_splitKept (v : Word32) : Reg.GLB_SPLIT.REJ ∉ splitKept v := fun h =>
  absurd (mem_splitKept.1 h).1 (by decide)

theorem fieldsAt_glbSplit : fieldsAt 0x20 = splitRegister := by decide +kernel

theorem tiled_glbSplit : Tiled splitRegister := by
  unfold Tiled
  decide

/-- A field of GLB_SPLIT is under the lock and apart from REJ. -/
theorem splitField_spec {f : Field} (h : f ∈ splitFields) :
    f.acc = .rwl ∧ f.reg.addr 0 = 0x20 ∧ Reg.GLB_SPLIT.REJ.apart f = true := by
  revert f
  decide

theorem mem_splitRegister {f : Field} (h : f ∈ splitFields) : f ∈ splitRegister := List.mem_append_left _ h

theorem rej_mem_splitRegister : Reg.GLB_SPLIT.REJ ∈ splitRegister := List.mem_append_right _ List.mem_cons_self

/-- A field of the register that is not kept shares no bit with those that are. -/
theorem splitKept_apart (v : Word32) {f : Field} (hf : f ∈ splitRegister) (hn : f ∉ splitKept v) :
    ∀ g ∈ splitKept v, g.fits = true ∧ g.apart f = true := by
  intro g hg
  have hmem : g ∈ splitRegister := mem_splitRegister (mem_splitKept.1 hg).1
  exact ⟨tiled_glbSplit.1 g hmem, tiled_apart tiled_glbSplit hmem hf fun h => hn (h ▸ hg)⟩

/-- What the access code of a field of GLB_SPLIT makes of it when the rejected fields are kept. -/
theorem get_splitKeeping (v : Word32) (d : Dev) {f : Field} (hf : f ∈ splitRegister) (ha : f.reg.addr 0 = 0x20) :
    (writeKeeping (splitKept v) 0x20 v d).get f =
      f.ofWord (accessWrite (locked d) (keptWord (splitKept v) v (d.word 0x20)) (d.word 0x20) f) := by
  rw [writeKeeping_eq]
  exact get_plainWrite _ d (fieldsAt_glbSplit ▸ tiled_glbSplit) (fieldsAt_glbSplit ▸ hf) ha

theorem splitStored_eq (v : Word32) (d : Dev) :
    splitStored v d =
      if !locked d && splitFields.any (splitBad v) then (writeKeeping (splitKept v) 0x20 v d).set Reg.GLB_SPLIT.REJ 1
      else writeKeeping (splitKept v) 0x20 v d := rfl

/-- R25, R30: a field keeps its value under the lock and where the value written is rejected. -/
theorem get_splitStored (v : Word32) (d : Dev) {f : Field} (hf : f ∈ splitFields) :
    (splitStored v d).get f = if locked d = true ∨ splitBad v f = true then d.get f else f.ofWord v := by
  obtain ⟨hacc, haddr, hapart⟩ := splitField_spec hf
  have hmem : f ∈ splitRegister := mem_splitRegister hf
  have hfits := tiled_glbSplit.1 f hmem
  have hrej : (splitStored v d).get f = (writeKeeping (splitKept v) 0x20 v d).get f := by
    rw [splitStored_eq]
    split
    · exact Dev.getN_setN_apart _ _ f 0 0 1 rfl hfits hapart
    · rfl
  rw [hrej, get_splitKeeping v d hmem haddr, ofWord_accessWrite_rwl _ _ _ hfits hacc, ofWord_word haddr]
  by_cases hl : locked d = true
  · simp [hl]
  by_cases hb : splitBad v f = true
  · simp [hl, hb, ofWord_keptWord_mem hfits (mem_splitKept.2 ⟨hf, hb⟩), ofWord_word haddr]
  · have hn : f ∉ splitKept v := fun h => hb (mem_splitKept.1 h).2
    simp [hl, hb, ofWord_keptWord_apart (splitKept_apart v hmem hn)]

/-- R25: REJ is set by a rejected value, and otherwise cleared by writing 1. -/
theorem get_rej_splitStored (v : Word32) (d : Dev) :
    (splitStored v d).get Reg.GLB_SPLIT.REJ =
      if locked d = false ∧ ∃ f ∈ splitFields, splitBad v f = true then 1
      else if bitOf v 31 then 0 else d.get Reg.GLB_SPLIT.REJ := by
  have hclear : (writeKeeping (splitKept v) 0x20 v d).get Reg.GLB_SPLIT.REJ =
      if bitOf v 31 then 0 else d.get Reg.GLB_SPLIT.REJ := by
    have hbit : Reg.GLB_SPLIT.REJ.ofWord v = (bitOf v 31).toNat := ofWord_oneBit _ rfl v
    rw [get_splitKeeping v d rej_mem_splitRegister rfl, ofWord_accessWrite_w1c _ _ _ rfl rfl rfl,
      ofWord_keptWord_apart (splitKept_apart v rej_mem_splitRegister (rej_notMem_splitKept v)), hbit,
      ofWord_word (a := 0x20) rfl]
    cases bitOf v 31 <;> rfl
  rw [splitStored_eq]
  by_cases hl : locked d = true
  · simp [hl, hclear]
  by_cases hb : ∃ f ∈ splitFields, splitBad v f = true
  · have hset : ∀ x : Dev, (x.set Reg.GLB_SPLIT.REJ 1).get Reg.GLB_SPLIT.REJ = 1 := fun x =>
      Dev.get_set_same x _ 1 rfl (by decide)
    simp [hl, hb, hset]
  · simp [hl, hb, hclear]

/-- A change of no field asks for nothing (Table ARC-6). -/
theorem splitEffects_of_same (t : Time) {old d : Dev} (h : ∀ f ∈ splitFields, d.get f = old.get f) :
    splitEffects t old d = d := by
  have hAlign := h Reg.GLB_SPLIT.ALIGN (by decide)
  have hPhasor := h Reg.GLB_SPLIT.PHASOR (by decide)
  have hRules := h Reg.GLB_SPLIT.RULES (by decide)
  have hModal := h Reg.GLB_SPLIT.MODAL (by decide)
  have hCapture := h Reg.GLB_SPLIT.CAPTURE (by decide)
  have hDspt := h Reg.GLB_SPLIT.DSPT (by decide)
  have hp : ¬ (old.get Reg.GLB_SPLIT.PHASOR = 2 ∧ old.get Reg.GLB_SPLIT.PHASOR = 1 ∧ d.up islRaw = true) := by omega
  simp [splitEffects, hAlign, hPhasor, hRules, hModal, hCapture, hDspt, hp]

/-! ## The two commands -/

theorem onWrite_up {a : Nat} {d : Dev} (f : Dev → Dev) (h : d.up (islandOf a) = true) : onWrite a f d = f d := if_pos h

theorem exec_glbLockSet {s : State} (h : s.dev.pwr.released = true) :
    exec .glbLockSet s = .next (s.after (s.dev.set Reg.GLB_LOCK.LOCK 1)) :=
  congrArg (fun d => Host.Outcome.next (s.after d)) (onWrite_up (a := 0x18) glbLock h)

theorem exec_writeGlbSplit {s : State} (v : Word32) (h : s.dev.pwr.released = true) :
    exec (.writeGlbSplit v) s = .next (s.after (splitEffects s.time s.dev (splitStored v s.dev))) :=
  congrArg (fun d => Host.Outcome.next (s.after d)) (onWrite_up (a := 0x20) (writeSplit s.time v) h)

/-- Settles O14: what GLB_SPLIT stores is read field by field (`get_splitStored`, `get_rej_splitStored`), and under the lock
no field has changed, so that nothing follows. -/
theorem splitAndLock : Obligations.SplitAndLock := by
  unfold Obligations.SplitAndLock
  refine ⟨fun s hr => exec_glbLockSet hr, fun s v hr hl => ?_, fun s v hr hl => ?_⟩
  · have hlock : locked s.dev = true := hl
    have hsame : ∀ f ∈ splitFields, (splitStored v s.dev).get f = s.dev.get f := fun f hf => by
      simp [get_splitStored v s.dev hf, hlock]
    refine ⟨?_, hsame, ?_⟩
    · rw [exec_writeGlbSplit v hr, splitEffects_of_same s.time hsame]
    · simp [get_rej_splitStored, hlock]
  · have hlock : locked s.dev = false := hl
    refine ⟨exec_writeGlbSplit v hr, fun f hf => ?_, ?_⟩
    · simp [get_splitStored v s.dev hf, hlock, splitBad_iff]
    · simp [get_rej_splitStored, hlock, splitBad_iff]

end Sys2Proof.Machine

/-!
PROOFS. The timekeeper family: the host watchdog (R69, R665), on laws of the servo state's changes (Table TKP-5).
-/

namespace Sys2Proof.Machine

open Sys2Proof

/-! ## Changes of the servo state (Table TKP-5) -/

/-- A change of state forgets the counts toward lock, and notes where LOCKED or HOST is left and LOCKED entered (R64, R83). -/
theorem setSvState_tkp (t : Time) {x : Nat} {d : Dev} (h : svState d ≠ x) :
    (setSvState t x d).tkp =
      { d.tkp with
        leftLock := if (svState d = 2 ∨ svState d = 4) ∧ x ≠ 2 ∧ x ≠ 4 then some t.loc else d.tkp.leftLock
        lockCnt := 0, unlockCnt := 0, wasLocked := d.tkp.wasLocked || x == 2 } := by
  simp only [setSvState, if_neg h, Dev.cause_tkp]
  split <;> rfl

theorem setSvState_same (t : Time) {x : Nat} {d : Dev} (h : svState d = x) : setSvState t x d = d := if_pos h

/-- A change of the servo state keeps whatever of the timekeeper is none of what it notes. -/
theorem setSvState_keeps {α : Type} (g : Tkp → α)
    (hg : ∀ k left n m was, g { k with leftLock := left, lockCnt := n, unlockCnt := m, wasLocked := was } = g k)
    (t : Time) (x : Nat) (d : Dev) : g (setSvState t x d).tkp = g d.tkp := by
  by_cases h : svState d = x
  · rw [setSvState_same t h]
  · rw [setSvState_tkp t h, hg]

@[simp] theorem setSvState_freq (t : Time) (x : Nat) (d : Dev) : (setSvState t x d).tkp.freq = d.tkp.freq :=
  setSvState_keeps Tkp.freq (fun _ _ _ _ _ => rfl) t x d

@[simp] theorem setSvState_freqNext (t : Time) (x : Nat) (d : Dev) : (setSvState t x d).tkp.freqNext = d.tkp.freqNext :=
  setSvState_keeps Tkp.freqNext (fun _ _ _ _ _ => rfl) t x d

@[simp] theorem setSvState_hoFrom (t : Time) (x : Nat) (d : Dev) : (setSvState t x d).tkp.hoFrom = d.tkp.hoFrom :=
  setSvState_keeps Tkp.hoFrom (fun _ _ _ _ _ => rfl) t x d

@[simp] theorem setSvState_hostLast (t : Time) (x : Nat) (d : Dev) : (setSvState t x d).tkp.hostLast = d.tkp.hostLast :=
  setSvState_keeps Tkp.hostLast (fun _ _ _ _ _ => rfl) t x d

@[simp] theorem setSvState_tmoSeen (t : Time) (x : Nat) (d : Dev) : (setSvState t x d).tkp.tmoSeen = d.tkp.tmoSeen :=
  setSvState_keeps Tkp.tmoSeen (fun _ _ _ _ _ => rfl) t x d

@[simp] theorem svState_modTkp (d : Dev) (f : Tkp → Tkp) : svState (d.modTkp f) = svState d := rfl

/-- TKP_STATUS.STATE lies apart from the causes of the timekeeper. -/
@[simp] theorem svState_cause (d : Dev) (k i x : Nat) : svState (d.cause intTkp k i x) = svState d :=
  Dev.cause_getN d intTkp k i x Reg.TKP_STATUS.STATE 0 (by decide)

/-- EVER_LOCKED shares no bit with STATE. -/
theorem svState_everLocked (d : Dev) (v : Nat) : svState (d.set Reg.TKP_STATUS.EVER_LOCKED v) = svState d :=
  Dev.get_set_other d _ _ v (by decide)

theorem svState_setSvState (t : Time) {x : Nat} (d : Dev) (hx : x < 2 ^ Reg.TKP_STATUS.STATE.width) :
    svState (setSvState t x d) = x := by
  by_cases h : svState d = x
  · rw [setSvState_same t h, h]
  · have hset : svState (d.set Reg.TKP_STATUS.STATE x) = x := Dev.get_set_same d _ x rfl hx
    simp only [setSvState, if_neg h, svState_cause]
    split
    · rw [svState_everLocked, svState_modTkp, hset]
    · rw [svState_modTkp, hset]

@[simp] theorem after_tkp (s : State) (d : Dev) : (s.after d).dev.tkp = d.tkp := finish_tkp _

theorem svState_after (s : State) (d : Dev) : svState (s.after d).dev = svState d :=
  after_get s d Reg.TKP_STATUS.STATE (not_intakeWord (by decide))

/-! ## HOLDOVER (R71, R72) -/

theorem svState_enterHoldover (t : Time) (avg : Bool) (e : Option Nat) (d : Dev) :
    svState (enterHoldover t avg e d) = svHoldover := by
  unfold enterHoldover
  split
  case isTrue h => exact h
  case isFalse => exact svState_setSvState t _ (by decide)

@[simp] theorem enterHoldover_freq (t : Time) (avg : Bool) (e : Option Nat) (d : Dev) :
    (enterHoldover t avg e d).tkp.freq = d.tkp.freq := by
  unfold enterHoldover
  split <;> simp

/-- Without the averaged word of the hardware servo the word to come stays (R69, R71). -/
@[simp] theorem enterHoldover_freqNext (t : Time) (e : Option Nat) (d : Dev) :
    (enterHoldover t false e d).tkp.freqNext = d.tkp.freqNext := by
  unfold enterHoldover
  split <;> simp

theorem enterHoldover_hoFrom (t : Time) (avg : Bool) (e : Option Nat) {d : Dev} (h : svState d ≠ svHoldover) :
    (enterHoldover t avg e d).tkp.hoFrom = t.loc := by
  simp [enterHoldover, h]

/-! ## The host watchdog (R69, R665) -/

/-- HOST_TMO has passed since the last host write, and the watchdog has not expired since then. -/
def hostLate (t : Time) (d : Dev) : Prop :=
  d.tkp.mode = 2 ∧ d.get Reg.TKP_HO.HOST_TMO ≠ 0 ∧ d.tkp.tmoSeen = false ∧
    d.tkp.hostLast + d.get Reg.TKP_HO.HOST_TMO * 125000000 ≤ t.ns

/-- The servo state upon an expiry: HOLDOVER, or as it was while the first host write after SERVO = 0 is awaited. -/
def hostMissed (t : Time) (d : Dev) : Dev := if d.tkp.hostWait then d else enterHoldover t false (errEst t d) d

theorem hostTmo_late {t : Time} {d : Dev} (h : hostLate t d) :
    hostTmo t d = ((hostMissed t d).modTkp fun k => { k with tmoSeen := true }).cause intTkp 7 0 0 := if_pos h

theorem hostTmo_inTime {t : Time} {d : Dev} (h : ¬ hostLate t d) : hostTmo t d = d := if_neg h

theorem svState_hostMissed (t : Time) (d : Dev) :
    svState (hostMissed t d) = if d.tkp.hostWait then svState d else svHoldover := by
  unfold hostMissed
  split
  · rfl
  · exact svState_enterHoldover t _ _ d

@[simp] theorem hostMissed_freq (t : Time) (d : Dev) : (hostMissed t d).tkp.freq = d.tkp.freq := by
  unfold hostMissed
  split <;> simp

@[simp] theorem hostMissed_freqNext (t : Time) (d : Dev) : (hostMissed t d).tkp.freqNext = d.tkp.freqNext := by
  unfold hostMissed
  split <;> simp

theorem hostMissed_hoFrom (t : Time) {d : Dev} (hw : d.tkp.hostWait = false) (h : svState d ≠ svHoldover) :
    (hostMissed t d).tkp.hoFrom = t.loc := by
  simp [hostMissed, hw, enterHoldover_hoFrom t _ _ h]

theorem exec_hostTmo (s : State) : exec .hostTmo s = .next (s.after (hostTmo s.time s.dev)) := rfl

/-- An expiry sets TKP_INT.HOST_TMO, keeps both frequency words and counts HOLDOVER from its instant. -/
theorem hostTmo_result (s : State) (h : hostLate s.time s.dev) :
    ∃ t, exec .hostTmo s = .next t ∧ bitOf (t.dev.word intTkp.addr) 7 = true ∧ t.dev.tkp.freq = s.dev.tkp.freq ∧
      t.dev.tkp.freqNext = s.dev.tkp.freqNext ∧ t.dev.tkp.tmoSeen = true ∧
      svState t.dev = (if s.dev.tkp.hostWait then svState s.dev else svHoldover) ∧
      (s.dev.tkp.hostWait = false → svState s.dev ≠ svHoldover → t.dev.tkp.hoFrom = s.time.loc) := by
  refine ⟨_, exec_hostTmo s, ?_, ?_, ?_, ?_, ?_, fun hw ho => ?_⟩ <;> rw [hostTmo_late h]
  · rw [after_word s _ _ (not_intakeWord (by decide)), Dev.cause_sets _ _ _ _ _ (by decide)]
  · simp
  · simp
  · simp
  · rw [svState_after, svState_cause, svState_modTkp, svState_hostMissed]
  · simp [hostMissed_hoFrom s.time hw ho]

/-! ## A host write (R66, R69) -/

/-- With host assistance a write of the high word is a host write: it starts the watchdog anew and enters HOST. -/
theorem writeFreqHi_host (t : Time) (v : Word32) {d : Dev} (h : d.tkp.mode = 2) :
    writeFreqHi t v d =
      setSvState t svHost (d.modTkp fun k => { k with
        freqNext := some (sint 40 (v.toNat % 256 * 2 ^ 32 + k.freqHeld))
        hostLast := t.ns, hostWait := false, tmoSeen := false }) := by
  rw [writeFreqHi, if_neg (by omega), if_pos h]
  rfl

theorem exec_writeTkpFreqHi {s : State} (v : Word32) (h : s.dev.pwr.released = true) :
    exec (.writeTkpFreqHi v) s = .next (s.after (writeFreqHi s.time v s.dev)) :=
  congrArg (fun d => Host.Outcome.next (s.after d)) (if_pos h)

/-- Settles O22: an expiry of the watchdog does what `hostTmo_result` says, and every host write ends in HOST. -/
theorem hostTimeout : Obligations.HostTimeout := by
  unfold Obligations.HostTimeout
  refine ⟨fun s hmode htmo hseen hlate => hostTmo_result s ⟨hmode, htmo, hseen, hlate⟩, fun s h => ?_, fun s v hr hmode => ?_⟩
  · rw [exec_hostTmo, hostTmo_inTime]
    rintro ⟨hmode, htmo, hseen, hlate⟩
    rcases h with h | h | h | h
    · exact h hmode
    · exact htmo h
    · simp [hseen] at h
    · omega
  · refine ⟨_, exec_writeTkpFreqHi v hr, ?_, ?_, ?_⟩ <;> rw [writeFreqHi_host s.time v hmode]
    · exact (svState_after s _).trans (svState_setSvState s.time _ (by decide))
    · simp
    · simp

end Sys2Proof.Machine

/-!
PROOFS. The Hamper family: what a word answers to a read (R100, R101, R104, R105), what the BAR4 window does (R118 to R121), and
where HamperMemory fails: it takes in memories that list a word twice, which no command of the Hamper makes of a canonical one.
-/

namespace Sys2Proof.Machine

open Sys2Proof

/-! ## Fences (R104 to R106) -/

theorem hUp_eq (d : Dev) (w : Nat) : hUp d w = decide ((tget d.isl (islHmp (hQuad w))).mode = .run) := by
  have hne : islHmp (hQuad w) ≠ 63 := by
    unfold islHmp hQuad
    omega
  rw [hUp, Dev.up, if_neg hne]

@[simp] theorem setMapFull_isl (b : Nat) (d : Dev) : (setMapFull b d).isl = d.isl := by
  simp only [setMapFull]
  split <;> split <;> rfl

@[simp] theorem fence_isl (w : Nat) (c : HCause) (d : Dev) : (fence w c d).isl = d.isl := rfl

@[simp] theorem lasting_isl (w : Nat) (c : HCause) (d : Dev) : (lasting w c d).isl = d.isl := by
  simp only [lasting]
  split <;> simp

@[simp] theorem lineCheck_isl (c : HCause) (w : Nat) (d : Dev) : (lineCheck c w d).isl = d.isl := by
  unfold lineCheck
  split
  · exact foldl_keeps Dev.isl _ (fun x v => lasting_isl v c x) _ d
  · rfl

/-- A checked line leaves its quadrant as it was. -/
@[simp] theorem hUp_lineCheck (c : HCause) (w v : Nat) (d : Dev) : hUp (lineCheck c w d) v = hUp d v := by
  simp only [hUp_eq, lineCheck_isl]

/-- A lasting fault enters its word in its bank's map where that has room, and in no other (R104, R106). -/
theorem hMap_lasting (v : Nat) (c : HCause) (d : Dev) (b : Nat) :
    hMap (lasting v c d) b =
      if (hMap d (hBank v)).length < 32 ∧ b = hBank v then hMap d b ++ [⟨hWordIdx v, c⟩] else hMap d b := by
  by_cases hroom : (hMap d (hBank v)).length < 32
  · have hmap : hMap (lasting v c d) b = tget (tset d.hmp.maps (hBank v) (hMap d (hBank v) ++ [⟨hWordIdx v, c⟩])) b := by
      rw [lasting, if_pos hroom]
      simp [fence, hMap]
    by_cases hb : b = hBank v
    · subst hb
      rw [hmap, tget_tset_same, if_pos ⟨hroom, rfl⟩]
    · rw [hmap, tget_tset_other _ hb, if_neg fun h => hb h.2]
      rfl
  · have hhmp : (lasting v c d).hmp = d.hmp := by simp [lasting, if_neg hroom]
    rw [hMap, hhmp, if_neg fun h => hroom h.1]
    rfl

theorem hFenced_lasting_of_fenced (v : Nat) (c : HCause) {w : Nat} {d : Dev} (h : hFenced d w = true) :
    hFenced (lasting v c d) w = true := by
  rw [hFenced, hMap_lasting]
  split
  · exact List.any_append.trans (Bool.or_eq_true_iff.2 (.inl h))
  · exact h

/-- Two words of one line share no entry of a map. -/
theorem hFenced_lasting_line {v w : Nat} (c : HCause) (d : Dev) (hline : v / 16 = w / 16) (hne : v ≠ w) :
    hFenced (lasting v c d) w = hFenced d w := by
  have hidx : hWordIdx v ≠ hWordIdx w := by
    unfold hWordIdx
    omega
  rw [hFenced, hMap_lasting]
  split
  · simp [hidx, hFenced]
  · rfl

theorem hFenced_lineCheck_of_fenced (c : HCause) (w : Nat) {v : Nat} {d : Dev} (h : hFenced d v = true) :
    hFenced (lineCheck c w d) v = true := by
  unfold lineCheck
  split
  · refine List.foldlRecOn (motive := fun x => hFenced x v = true) _ _ h fun x hx u _ => ?_
    exact hFenced_lasting_of_fenced u c hx
  · exact h

/-- A check that finds a word good sets no fence on it. -/
theorem hFenced_lineCheck_of_notMem (c : HCause) {w : Nat} {d : Dev} (h : w ∉ badInLine d w) :
    hFenced (lineCheck c w d) w = hFenced d w := by
  unfold lineCheck
  split
  · refine List.foldlRecOn (motive := fun x => hFenced x w = hFenced d w) _ _ rfl fun x hx v hv => ?_
    have hline : v / 16 = w / 16 := by
      obtain ⟨e, he, rfl⟩ := List.mem_map.1 hv
      simp only [List.mem_filter, Bool.and_eq_true, beq_iff_eq] at he
      exact he.2.1.1
    rw [hFenced_lasting_line c x hline fun e => h (e ▸ hv), hx]
  · rfl

/-! ## A read in a canonical memory (R101, R105) -/

theorem fmSorted_lt {α : Type} {m : FMap α} {b : Nat} (h : fmSorted (some b) m = true) {e : Nat × α} (he : e ∈ m) :
    b < e.1 := by
  induction m generalizing b with
  | nil => cases he
  | cons x m ih =>
    simp only [fmSorted, Bool.and_eq_true, decide_eq_true_eq] at h
    rcases List.mem_cons.1 he with rfl | he
    · exact h.1
    · exact h.1.trans (ih h.2 he)

/-- A table whose keys rise reads each entry that it lists. -/
theorem fmLook_of_mem {α : Type} {m : FMap α} (h : fmSorted none m = true) {e : Nat × α} (he : e ∈ m) :
    fmLook m e.1 = some e.2 := by
  induction m with
  | nil => cases he
  | cons x m ih =>
    have hm : fmSorted (some x.1) m = true := h
    rcases List.mem_cons.1 he with rfl | he
    · simp [fmLook]
    · have hne : e.1 ≠ x.1 := (fmSorted_lt hm he).ne'
      simpa [fmLook, hne] using ih (fmSorted_none m hm) he

/-- A word that a check finds bad is one that reads as bad. -/
theorem bad_of_mem_badInLine {d : Dev} (hwf : Memory.wf d.hmp.mem = true) {w v : Nat} (h : v ∈ badInLine d w) :
    (tget d.hmp.mem v).bad = true := by
  obtain ⟨e, he, rfl⟩ := List.mem_map.1 h
  simp only [List.mem_filter, Bool.and_eq_true] at he
  obtain ⟨hmem, ⟨-, hbad⟩, -⟩ := he
  have hsorted : fmSorted none d.hmp.mem = true := (Bool.and_eq_true_iff.1 hwf).1
  simp [tget, fmAt, fmLook_of_mem hsorted hmem, hbad]

theorem hval_up {w : Nat} {d : Dev} (h : hUp d w = true) :
    hval w d = (if hBad d w then wParity else (tget d.hmp.mem w).v, d) := by
  rw [hval, if_neg (by simp [h])]
  exact (apply_ite (·, d) (hBad d w = true) _ _).symm

/-- R105: a fenced word reads 0x7FC0_0002 whatever else its line holds. -/
theorem hread_fenced (c : HCause) {w : Nat} {d : Dev} (hup : hUp d w = true) (hf : hFenced d w = true) :
    hread c w d = (wParity, lineCheck c w d) := by
  rw [hread, hval_up (by simpa using hup), hBad, hFenced_lineCheck_of_fenced c w hf]
  rfl

/-- R101, R104, R105: a canonical memory answers the word, or 0x7FC0_0002 for a fenced one and one with a parity error. -/
theorem hread_up (c : HCause) {w : Nat} {d : Dev} (hwf : Memory.wf d.hmp.mem = true) (hup : hUp d w = true) :
    hread c w d = (if hBad d w then wParity else (tget d.hmp.mem w).v, lineCheck c w d) := by
  have hbad : hBad (lineCheck c w d) w = hBad d w := by
    by_cases hmem : w ∈ badInLine d w
    · simp [hBad, bad_of_mem_badInLine hwf hmem]
    · simp [hBad, hFenced_lineCheck_of_notMem c hmem]
  rw [hread, hval_up (by simpa using hup), hbad, lineCheck_mem]

/-! ## A write and the read after it (R100) -/

theorem hwrite_unfenced {w : Nat} (v : Word32) {d : Dev} (hup : hUp d w = true) (hf : hFenced d w = false) :
    hwrite w v d = d.modHmp fun h => { h with mem := tset h.mem w ⟨v, false⟩ } := by
  simp [hwrite, hup, hf]

theorem hwrite_reset {w : Nat} (v : Word32) {d : Dev} (hup : hUp d w = false) : hwrite w v d = d := by
  simp [hwrite, hup]

theorem tget_hwrite_other {w x : Nat} (v : Word32) {d : Dev} (hup : hUp d w = true) (hf : hFenced d w = false)
    (hne : x ≠ w) : tget (hwrite w v d).hmp.mem x = tget d.hmp.mem x := by
  rw [hwrite_unfenced v hup hf]
  exact tget_tset_other _ hne _

/-- R100: in a canonical memory the next read answers what was written. -/
theorem hread_hwrite (c : HCause) {w : Nat} (v : Word32) {d : Dev} (hwf : Memory.wf d.hmp.mem = true)
    (hup : hUp d w = true) (hf : hFenced d w = false) : (hread c w (hwrite w v d)).1 = v := by
  have hnext : hUp (hwrite w v d) w = true := by rwa [hwrite_unfenced v hup hf]
  have hgood : hBad (hwrite w v d) w = false := by
    rw [hwrite_unfenced v hup hf]
    have hsame : hFenced (d.modHmp fun h => { h with mem := tset h.mem w ⟨v, false⟩ }) w = false := hf
    simp [hBad, hsame]
  rw [hread_up c (hwrite_wf w v d hwf) hnext, hgood, hwrite_unfenced v hup hf]
  simp

/-! ## BAR4 (R118, R120) -/

theorem exec_bar4Read (p : Path) {a : Nat} (s : State) (h : a < 2 ^ 27) :
    exec (.bar4Read p a) s = .next (s.after (bar4Read p (a / 4) s.dev)) := if_neg (Nat.not_le.2 h)

/-- R118, R120: a read through the open window checks the line and answers as the memory does. -/
theorem exec_bar4Read_up (p : Path) {a : Nat} {s : State} (hwf : Memory.wf s.dev.hmp.mem = true) (h : a < 2 ^ 27)
    (hen : s.dev.on Reg.HMP_CTRL.BAR4_EN = true) (hup : hUp s.dev (a / 4) = true) :
    exec (.bar4Read p a) s = .next (s.after ((lineCheck .bar4 (a / 4) s.dev).answer p
      (if hBad s.dev (a / 4) then wParity else (tget s.dev.hmp.mem (a / 4)).v))) := by
  rw [exec_bar4Read p s h]
  simp only [bar4Read, hen, hup, hread_up .bar4 hwf hup]
  rfl

theorem exec_bar4Read_off (p : Path) {a : Nat} {s : State} (h : a < 2 ^ 27)
    (hen : s.dev.on Reg.HMP_CTRL.BAR4_EN = false) :
    exec (.bar4Read p a) s = .next (s.after (s.dev.answer p 0)) := by
  rw [exec_bar4Read p s h, bar4Read, hen]
  rfl

theorem exec_bar4Read_reset (p : Path) {a : Nat} {s : State} (h : a < 2 ^ 27)
    (hen : s.dev.on Reg.HMP_CTRL.BAR4_EN = true) (hup : hUp s.dev (a / 4) = false) :
    exec (.bar4Read p a) s = .next (s.after (s.dev.draw.2.answer p (Config.freeWord s.dev.draw.1))) := by
  rw [exec_bar4Read p s h, bar4Read, hen, hup]
  rfl

theorem exec_bar4Write {a : Nat} (v : Word32) (s : State) (h : a < 2 ^ 27) :
    exec (.bar4Write a v) s =
      .next (s.after (if s.dev.pwr.released then s.dev.sat Reg.HMP_CNT_BAR4WR.N else s.dev)) := if_neg (Nat.not_le.2 h)

/-- R119: the count of discarded writes stops at its largest value. -/
theorem get_after_bar4Write (s : State) :
    (s.after (s.dev.sat Reg.HMP_CNT_BAR4WR.N)).dev.get Reg.HMP_CNT_BAR4WR.N =
      min (s.dev.get Reg.HMP_CNT_BAR4WR.N + 1) (2 ^ 32 - 1) := by
  have hlt : min (s.dev.get Reg.HMP_CNT_BAR4WR.N + 1) (2 ^ 32 - 1) < 2 ^ 32 := by omega
  rw [after_get s _ _ (not_intakeWord (by decide))]
  exact Dev.get_set_same s.dev Reg.HMP_CNT_BAR4WR.N _ rfl hlt

theorem exec_bar4_beyond (p : Path) {a : Nat} (v : Word32) (s : State) (h : 2 ^ 27 ≤ a) :
    exec (.bar4Read p a) s = .fault .outsideWindow ∧ exec (.bar4Write a v) s = .fault .outsideWindow :=
  ⟨if_pos h, if_pos h⟩

/-! ## The commands of the Hamper keep the canonical form -/

@[simp] theorem writeHmpPart_hmp (n : Nat) (v : Word32) (d : Dev) : (writeHmpPart n v d).hmp = d.hmp := by
  simp only [writeHmpPart]
  split
  · rfl
  · split <;> simp

/-- A write through the bus moves what its block's write moves, or GLB_STATUS alone. -/
theorem onWrite_hmp (a : Nat) {f : Dev → Dev} {d : Dev} (h : (f d).hmp = d.hmp) : (onWrite a f d).hmp = d.hmp := by
  unfold onWrite
  split
  · exact h
  · split <;> rfl

theorem hamperReplay_wf (w : Nat) (c : HCause) (again : Bool) {d : Dev} (h : Memory.wf d.hmp.mem = true) :
    Memory.wf (hamperReplay w c again d).hmp.mem = true := by
  unfold hamperReplay
  split
  · exact h
  · split
    · simpa using memoryWf_tset _ _ _ h
    · exact h

theorem fenceReleaseCheck_wf (w : Nat) (good : Bool) {d : Dev} (h : Memory.wf d.hmp.mem = true) :
    Memory.wf (fenceReleaseCheck w good d).hmp.mem = true := by
  unfold fenceReleaseCheck
  split
  · exact h
  · dsimp only
    split
    · simpa using memoryWf_tset _ _ _ h
    · exact h

@[simp] theorem scrubRead_mem (t : Time) (d : Dev) : (scrubRead t d).hmp.mem = d.hmp.mem := by
  have hline : ∀ l, (if hUp d l then (hreadMany .scrub l 16 d).2 else d).hmp.mem = d.hmp.mem := fun l => by
    split <;> simp
  simp only [scrubRead]
  split
  · rfl
  · split <;> exact hline _

@[simp] theorem scrubPassLate_mem (t : Time) (d : Dev) : (scrubPassLate t d).hmp.mem = d.hmp.mem := by
  unfold scrubPassLate
  split <;> simp

@[simp] theorem bar4Read_mem (p : Path) (w : Nat) (d : Dev) : (bar4Read p w d).hmp.mem = d.hmp.mem := by
  unfold bar4Read
  split
  · rfl
  · split
    · exact hread_mem .bar4 w d
    · rfl

theorem wf_of_run {s t : State} {f : Time → Dev → Dev} (h : Memory.wf (f s.time s.dev).hmp.mem = true)
    (e : run s f = .next t) : Memory.wf t.dev.hmp.mem = true := by
  cases e
  rwa [finish_hmp]

/-- An access of BAR4 that ends in a state lies inside the window (R118). -/
theorem wf_of_window {s t : State} {a : Nat} {f : Time → Dev → Dev} (h : Memory.wf (f s.time s.dev).hmp.mem = true)
    (e : (if 2 ^ 27 ≤ a then .fault .outsideWindow else run s f) = .next t) : Memory.wf t.dev.hmp.mem = true := by
  split at e
  · cases e
  · exact wf_of_run h e

/-- The commands of the Hamper, over their operands. -/
def hamperCommands (p : Path) (a n : Nat) (v : Word32) (x : HCause) (b : Bool) : List Instr :=
  [.writeHmpPart n v, .hamperReplay a x b, .fenceReleaseCheck a b, .scrubRead, .scrubPassLate, .bar4Read p a, .bar4Write a v]

theorem exec_hamper_wf {s t : State} {p : Path} {a n : Nat} {v : Word32} {x : HCause} {b : Bool} {c : Instr}
    (hc : c ∈ hamperCommands p a n v x b) (h : Memory.wf s.dev.hmp.mem = true) (e : exec c s = .next t) :
    Memory.wf t.dev.hmp.mem = true := by
  simp only [hamperCommands, List.mem_cons, List.not_mem_nil, or_false] at hc
  rcases hc with rfl | rfl | rfl | rfl | rfl | rfl | rfl
  · refine wf_of_run (f := fun _ d => onWrite 0x20010 (writeHmpPart n v) d) ?_ e
    rwa [onWrite_hmp 0x20010 (writeHmpPart_hmp n v s.dev)]
  · exact wf_of_run (f := fun _ d => hamperReplay (a / 4) x b d) (hamperReplay_wf _ x b h) e
  · exact wf_of_run (f := fun _ d => fenceReleaseCheck (a / 4) b d) (fenceReleaseCheck_wf _ b h) e
  · exact wf_of_run (by simpa using h) e
  · exact wf_of_run (by simpa using h) e
  · exact wf_of_window (by simpa using h) e
  · refine wf_of_window ?_ e
    split <;> simpa using h

/-! ## What HamperMemory says, in a canonical memory -/

/-- HamperMemory with a canonical memory asked for in two of its clauses: a read after a write, and a BAR4 read of a word. -/
theorem hamperMemory_of_wf :
    ((∀ (d : Dev) (w : Nat) (v : Word32) (c : HCause), Memory.wf d.hmp.mem = true → hUp d w = true → hFenced d w = false →
      (hread c w (hwrite w v d)).1 = v ∧ ∀ x, x ≠ w → tget (hwrite w v d).hmp.mem x = tget d.hmp.mem x) ∧
    (∀ (d : Dev) (w : Nat) (v : Word32), hUp d w = false → hwrite w v d = d) ∧
    (∀ (d : Dev) (w : Nat) (c : HCause), hUp d w = true → hFenced d w = true → (hread c w d).1 = wParity ∧
      (badInLine d w = [] → (hread c w d).2 = d)) ∧
    (∀ (s t : State) (p : Path) (a n : Nat) (v : Word32) (x : HCause) (b : Bool), ∀ c ∈ hamperCommands p a n v x b,
      Memory.wf s.dev.hmp.mem = true → exec c s = .next t → Memory.wf t.dev.hmp.mem = true)) ∧
    (∀ (s : State) (p : Path) (a : Nat), a < 2 ^ 27 →
      (s.dev.on Reg.HMP_CTRL.BAR4_EN = false → exec (.bar4Read p a) s = .next (s.after (s.dev.answer p 0))) ∧
      (Memory.wf s.dev.hmp.mem = true → s.dev.on Reg.HMP_CTRL.BAR4_EN = true → hUp s.dev (a / 4) = true →
        exec (.bar4Read p a) s = .next (s.after ((lineCheck .bar4 (a / 4) s.dev).answer p
          (if hBad s.dev (a / 4) then wParity else (tget s.dev.hmp.mem (a / 4)).v)))) ∧
      (s.dev.on Reg.HMP_CTRL.BAR4_EN = true → hUp s.dev (a / 4) = false →
        exec (.bar4Read p a) s = .next (s.after (s.dev.draw.2.answer p (Config.freeWord s.dev.draw.1))))) ∧
    (∀ (s : State) (a : Nat) (v : Word32), a < 2 ^ 27 →
      (s.dev.pwr.released = true → ∃ t, exec (.bar4Write a v) s = .next t ∧ t.dev.hmp = s.dev.hmp ∧
        t.dev.get Reg.HMP_CNT_BAR4WR.N = min (s.dev.get Reg.HMP_CNT_BAR4WR.N + 1) (2 ^ 32 - 1)) ∧
      (s.dev.pwr.released = false → exec (.bar4Write a v) s = .next (s.after s.dev))) ∧
    (∀ (s : State) (p : Path) (a : Nat) (v : Word32), 2 ^ 27 ≤ a →
      exec (.bar4Read p a) s = .fault .outsideWindow ∧ exec (.bar4Write a v) s = .fault .outsideWindow) := by
  refine ⟨⟨fun d w v c hwf hup hf => ?_, fun d w v hup => hwrite_reset v hup, fun d w c hup hf => ?_,
    fun s t p a n v x b c hc => exec_hamper_wf hc⟩, fun s p a h => ?_, fun s a v h => ?_,
    fun s p a v h => exec_bar4_beyond p v s h⟩
  · exact ⟨hread_hwrite c v hwf hup hf, fun x hne => tget_hwrite_other v hup hf hne⟩
  · rw [hread_fenced c hup hf]
    exact ⟨rfl, lineCheck_clean c w d⟩
  · exact ⟨exec_bar4Read_off p h, fun hwf => exec_bar4Read_up p hwf h, exec_bar4Read_reset p h⟩
  · rw [exec_bar4Write v s h]
    refine ⟨fun hr => ?_, fun hr => by simp [hr]⟩
    rw [if_pos hr]
    exact ⟨_, rfl, by simp, get_after_bar4Write s⟩

/-! ## A memory that lists a word twice -/

/-- A device whose memory lists word 0 twice, both times with bad parity; quadrant 0 accepts requests and no word is fenced. -/
def twiceListed : Dev :=
  { (default : Dev) with
    isl := [(islHmp 0, ⟨.run, false, false⟩)]
    hmp := { (default : Hmp) with mem := [(0, ⟨0, true⟩), (0, ⟨0, true⟩)] } }

theorem twiceListed_not_wf : Memory.wf twiceListed.hmp.mem = false := by decide

theorem twiceListed_open : hUp twiceListed 0 = true ∧ hFenced twiceListed 0 = false := by decide

/-- The write mends the first entry alone. -/
theorem badInLine_hwrite_twiceListed : badInLine (hwrite 0 1 twiceListed) 0 = [0] := by decide

/-- The check of the next read finds the second entry and fences the word. -/
theorem hFenced_lineCheck_twiceListed : hFenced (lineCheck .engine 0 (hwrite 0 1 twiceListed)) 0 = true := by
  have hup : hUp (hwrite 0 1 twiceListed) 0 = true := by decide
  have hroom : (hMap (hwrite 0 1 twiceListed) (hBank 0)).length < 32 := by decide
  rw [lineCheck, if_pos hup, badInLine_hwrite_twiceListed, List.foldl_cons, List.foldl_nil, hFenced, hMap_lasting,
    if_pos ⟨hroom, rfl⟩]
  simp

theorem hread_hwrite_twiceListed : (hread .engine 0 (hwrite 0 1 twiceListed)).1 = wParity := by
  have hup : hUp (lineCheck .engine 0 (hwrite 0 1 twiceListed)) 0 = true := by
    rw [hUp_lineCheck]
    decide
  rw [hread, hval_up hup, hBad, hFenced_lineCheck_twiceListed]
  rfl

/-- Refutes O27: the statement lets the memory be any list, and where it lists a word twice (`twiceListed`, not canonical by
`twiceListed_not_wf`) the read after a write finds the entry that the write left bad, fences the word and answers 0x7FC0_0002
in place of the value written. Asked of canonical memories, which the Hamper's commands keep, it holds (`hamperMemory_of_wf`). -/
theorem not_hamperMemory : ¬ Obligations.HamperMemory := by
  unfold Obligations.HamperMemory
  rintro ⟨⟨hwritten, -⟩, -⟩
  have hread : (hread .engine 0 (hwrite 0 1 twiceListed)).1 = 1 :=
    (hwritten twiceListed 0 1 .engine twiceListed_open.1 twiceListed_open.2).1
  rw [hread_hwrite_twiceListed] at hread
  exact absurd hread (by decide)

end Sys2Proof.Machine

/-!
PROOFS. The scope family: accesses to an island that does not accept requests (R460, R616, log 11). Every command that is a
write of one register goes through `onWrite`, which for such an island does what `Dev.discardWrite` says.
-/

namespace Sys2Proof.Machine

open Sys2Proof

/-! ## The islands of the blocks that repeat (Tables MAP-1 and MAP-2) -/

theorem islandOf_port {i a : Nat} (hi : i < 16) (hlo : 0x40000 + i * 0x2000 ≤ a) (hhi : a < 0x42000 + i * 0x2000) :
    islandOf a = islPrt i := by
  unfold islandOf islPrt
  rw [if_neg (by omega), if_neg (by omega), if_pos (by omega)]
  omega

theorem islandOf_probeAddr (p : Nat) : islandOf (probeAddr p) = islMgt := by
  have habove {n : Nat} (hn : n ≤ 0x3C2000) : ¬ probeAddr p < n := by
    unfold probeAddr
    omega
  simp [islandOf, habove, islMgt]

/-! ## An access that does not reach its block -/

/-- A discarded write (R616): GLB_STATUS shows it, which before POR release is not there (log 11). -/
def Dev.discardWrite (d : Dev) : Dev := if d.pwr.released then d.set Reg.GLB_STATUS.ISL_RST_WR 1 else d

theorem onWrite_discards {a : Nat} {d : Dev} (f : Dev → Dev) (h : d.up (islandOf a) = false) :
    onWrite a f d = d.discardWrite := by
  simp [onWrite, h, Dev.discardWrite]

theorem busWrite_discards (t : Time) (lb : Logbook) {a : Nat} (v : Word32) {d : Dev} (h4 : a % 4 = 0) (hb : a < bar0Bytes)
    (hf : (fieldsAt a).isEmpty = false) (h : d.up (islandOf a) = false) : busWrite t lb a v d = d.discardWrite := by
  rw [busWrite, if_neg (by simp [h4, hf, hb]), onWrite_discards _ h]

/-- R460: the read answers 0, and GLB_STATUS shows it. -/
theorem busRead_inReset (t : Time) (p : Path) {a : Nat} {d : Dev} (h4 : a % 4 = 0) (hb : a < bar0Bytes)
    (hf : (fieldsAt a).isEmpty = false) (hr : d.pwr.released = true) (h : d.up (islandOf a) = false) :
    busRead t p a d = (d.set Reg.GLB_STATUS.ISL_RST_RD 1).answer p 0 := by
  have ha : a / 4 * 4 = a := by omega
  simp [busRead, ha, Nat.not_le.2 hb, hf, h, hr]

/-! ## The commands that read or write a register they name -/

theorem exec_writeRegister (p : Path) (a : Nat) (v : Word32) (s : State) :
    exec (.writeRegister p a v) s = .next (s.after (busWrite s.time s.log a v s.dev)) := rfl

theorem exec_writeIslandInReset (p : Path) (a : Nat) (v : Word32) (s : State) :
    exec (.writeIslandInReset p a v) s = .next (s.after (busWrite s.time s.log a v s.dev)) := rfl

theorem exec_readIslandInReset (p : Path) (a : Nat) (s : State) :
    exec (.readIslandInReset p a) s = .next (s.after (busRead s.time p a s.dev)) := rfl

/-! ## The commands that are writes of one register -/

/-- A command that writes at `a`, in the island of `b`, which does not accept requests. For a command in hand `hc` is `rfl`:
it checks that the command writes at `a`; where `a` and `b` are numerals `hab` computes their islands. -/
theorem exec_discards {s : State} {c : Instr} (a : Nat) {b : Nat} {f : Dev → Dev}
    (hc : exec c s = .next (s.after (onWrite a f s.dev))) (hab : islandOf a = islandOf b)
    (h : s.dev.up (islandOf b) = false) : exec c s = .next (s.after s.dev.discardWrite) := by
  rw [hc, onWrite_discards _ (hab ▸ h)]

/-- The same for a command whose operands must meet a bound `P` to name a register. -/
theorem exec_discards_of_bound {s : State} {c : Instr} {P : Prop} [Decidable P] (a : Nat) {b : Nat} {f : Dev → Dev}
    (hc : exec c s = .next (s.after (if P then onWrite a f s.dev else s.dev))) (hP : P)
    (hab : islandOf a = islandOf b) (h : s.dev.up (islandOf b) = false) :
    exec c s = .next (s.after s.dev.discardWrite) :=
  exec_discards a (by rw [hc, if_pos hP]) hab h

theorem exec_configChange_discards {s : State} {i : Nat} (hi : i < 16)
    (h : s.dev.up (islandOf (0x40000 + i * 0x2000)) = false) :
    exec (.configChange i) s = .next (s.after s.dev.discardWrite) := by
  have hport : islandOf (0x40040 + i * 0x2000) = islandOf (0x40000 + i * 0x2000) := by
    rw [islandOf_port hi (by omega) (by omega), islandOf_port hi (by omega) (by omega)]
  exact exec_discards_of_bound _ rfl hi hport h

theorem exec_probeEnable_discards {s : State} {i : Nat} (v : Word32) (hi : i < lkoProbes) (h : s.dev.up islMgt = false) :
    exec (.probeEnable i v) s = .next (s.after s.dev.discardWrite) :=
  exec_discards_of_bound (b := 0x380000) _ rfl hi (islandOf_probeAddr i) h

/-- Settles O11: the bus discards the write and answers the read (`busWrite_discards`, `busRead_inReset`), and each command that
is a write of one register goes through `onWrite` at an address of the island named (`exec_discards`). -/
theorem islandInReset : Obligations.IslandInReset := by
  unfold Obligations.IslandInReset
  refine ⟨fun s p a v h4 hb hf hr h => ?_, fun s i v d hd => ?_⟩
  · have hdisc : s.dev.discardWrite = s.dev.set Reg.GLB_STATUS.ISL_RST_WR 1 := if_pos hr
    rw [exec_writeIslandInReset, exec_writeRegister, exec_readIslandInReset, busWrite_discards _ _ v h4 hb hf h,
      busRead_inReset _ p h4 hb hf hr h, hdisc]
    exact ⟨rfl, rfl, rfl⟩
  · obtain rfl : d = s.dev.discardWrite := hd
    refine ⟨fun hGlb => ?_, fun hHmp => ?_, fun hAln => ?_, fun hRaw => ?_, fun hAna => ?_, fun hCap => ?_, fun hHst => ?_,
      fun hMgt => ?_, fun hDxl => ?_, fun hHst hi cb => ?_, fun hi hPrt => ?_, fun hlo hhi hIng => ?_,
      fun hlo hhi h4 hDxl => ?_⟩
    · exact ⟨exec_discards 0x20 rfl rfl hGlb, exec_discards 0x18 rfl rfl hGlb⟩
    · exact exec_discards 0x20010 rfl rfl hHmp
    · exact ⟨exec_discards 0x80100 rfl rfl hAln, exec_discards 0x80000 rfl rfl hAln, exec_discards 0x80000 rfl rfl hAln⟩
    · exact ⟨exec_discards 0xA0004 rfl rfl hRaw,
        (exec_discards_of_bound 0xA0040 rfl · rfl hRaw), (exec_discards_of_bound 0xA0040 rfl · rfl hRaw),
        (exec_discards_of_bound 0x270000 rfl · rfl hRaw), (exec_discards_of_bound 0x278000 rfl · rfl hRaw),
        (exec_discards_of_bound 0x280000 rfl · rfl hRaw), (exec_discards_of_bound 0x27A000 rfl · rfl hRaw),
        exec_discards 0xB0020 rfl rfl hRaw⟩
    · exact ⟨exec_discards 0xC0030 rfl rfl hAna, exec_discards 0xC0014 rfl rfl hAna, exec_discards 0xC0014 rfl rfl hAna,
        exec_discards 0x300000 rfl rfl hAna, exec_discards 0x330000 rfl rfl hAna, exec_discards 0x344000 rfl rfl hAna,
        exec_discards 0x350000 rfl rfl hAna, exec_discards 0xC0400 rfl rfl hAna, exec_discards 0xD0000 rfl rfl hAna,
        exec_discards 0xD0000 rfl rfl hAna⟩
    · exact ⟨exec_discards 0xE0000 rfl rfl hCap, exec_discards 0xE0000 rfl rfl hCap,
        (exec_discards_of_bound 0x371000 rfl · rfl hCap), (exec_discards_of_bound 0x373000 rfl · rfl hCap),
        exec_discards 0xE0010 rfl rfl hCap,
        (exec_discards_of_bound 0xE0100 rfl · rfl hCap), (exec_discards_of_bound 0xE0100 rfl · rfl hCap),
        (exec_discards_of_bound 0xE0100 rfl · rfl hCap)⟩
    · exact ⟨exec_discards 0xF0010 rfl rfl hHst, (exec_discards_of_bound 0xF2000 rfl · rfl hHst)⟩
    · exact ⟨(exec_discards_of_bound 0x380000 rfl · rfl hMgt), exec_discards 0x128008 rfl rfl hMgt,
        (exec_probeEnable_discards v · hMgt)⟩
    · exact ⟨exec_discards 0x60000 rfl rfl hDxl, exec_discards 0x60018 rfl rfl hDxl⟩
    · exact exec_discards_of_bound (b := 0xF2000) 0xF2000 rfl hi rfl hHst
    · exact ⟨exec_discards_of_bound (0x40000 + i * 0x2000) rfl hi rfl hPrt, exec_configChange_discards hi hPrt⟩
    · exact exec_discards_of_bound i rfl ⟨hlo, hhi⟩ rfl hIng
    · exact exec_discards_of_bound i rfl ⟨hlo, hhi, h4⟩ rfl hDxl

end Sys2Proof.Machine

/-!
PROOFS. What every command answers (O1, O3, O7, O8): but for an access beyond the BAR4 window a command goes on, and only the
commands of grid time and of power-on reset move grid time; the Logbook's writer only takes events from the intake (R575).
-/

namespace Sys2Proof.Machine
open Sys2Proof

/-! ## What a command can answer -/

/-- The commands that enter a power-on reset (R640, R643, R652). -/
def EntersPor : Instr → Prop
  | .powerOnReset _ | .sysRstAssert | .thermalTrip _ => True
  | _ => False

/-- What a command can answer from a state: but for an access beyond the BAR4 window it goes on. The commands of grid time and of
power-on reset apart, it leaves grid time and the queue, and no more events in the Logbook's intake before its own are judged. -/
inductive Answers (s : State) : Instr → Host.Outcome State Fault Refusal → Prop
  | works (c : Instr) (lb : Logbook) (d : Dev) (h : lb.intake.length ≤ s.log.intake.length) :
      Answers s c (.next (s.afterLog lb d))
  | readsOutside (p : Path) (a : Nat) (h : 2 ^ 27 ≤ a) : Answers s (.bar4Read p a) (.fault .outsideWindow)
  | writesOutside (a : Nat) (v : Word32) (h : 2 ^ 27 ≤ a) : Answers s (.bar4Write a v) (.fault .outsideWindow)
  | stands : Answers s .timekeeperTick (.next s)
  | ticks (t : Time) (d : Dev) (h : t.ticks = s.time.ticks + 1) :
      Answers s .timekeeperTick (.next (finish { s with time := t, dev := d }))
  | adjusts (t : Time) (d : Dev) (h : t.ticks = s.time.ticks) :
      Answers s .timedAdjust (.next (finish { s with time := t, dev := d }))
  | resets (c : Instr) (d : Dev) (h : EntersPor c) : Answers s c (.next (porState s d))

/-- A command that changes the device alone. -/
theorem Answers.run (s : State) (c : Instr) (d : Dev) : Answers s c (.next (s.after d)) := .works c s.log d le_rfl

/-! ### The Logbook under the commands that write it -/

theorem logLose_intake (x : Logbook × Dev) (e : LogItem) : (logLose x e).1.intake = x.1.intake := rfl

/-- A Logbook that closes holds no event (R578, R580). -/
theorem logClose_intake (lb : Logbook) (d : Dev) : (logClose lb d).1.intake = [] :=
  foldl_keeps (fun x : Logbook × Dev => x.1.intake) logLose logLose_intake lb.intake ({ lb with intake := [] }, d)

theorem fenceRegion_intake (r : Nat) (lb : Logbook) (d : Dev) : (fenceRegion r lb d).1.intake = lb.intake := by
  unfold fenceRegion
  split <;> rfl

theorem logWriteBad_intake (r : Nat) (lb : Logbook) (d : Dev) :
    (logWriteBad r lb d).1.intake.length ≤ lb.intake.length := by
  unfold logWriteBad
  dsimp only
  split
  · exact (congrArg List.length (fenceRegion_intake r lb _)).le
  · simp [logClose_intake]

/-- The writer takes at most events from the intake. -/
theorem logRecordWrite_intake (t : Time) (good : Bool) (lb : Logbook) (d : Dev) :
    (logRecordWrite t good lb d).1.intake.length ≤ lb.intake.length := by
  unfold logRecordWrite
  split
  · exact le_rfl
  · rename_i x rest hx
    dsimp only
    split
    · exact le_rfl
    · split
      · simp [logClose_intake]
      · split
        · simp [logAppend, hx]
        · exact logWriteBad_intake _ lb d

theorem logTokenRefill_intake (t : Time) (code : Nat) (lb : Logbook) (d : Dev) :
    (logTokenRefill t code lb d).intake = lb.intake := by
  unfold logTokenRefill
  dsimp only
  split <;> rfl

theorem logLasting_intake (w : Nat) (lb : Logbook) (d : Dev) : (logLasting w lb d).1.intake = lb.intake := by
  unfold logLasting
  dsimp only
  rw [fenceRegion_intake]
  split <;> rfl

theorem logReread_intake (bad : Bool) (lb : Logbook) (d : Dev) : (logReread bad lb d).1.intake = lb.intake := by
  unfold logReread
  split
  · rfl
  · dsimp only
    split
    · exact logLasting_intake _ _ d
    · rfl

theorem logRecReadFaults_intake (lb : Logbook) (r : LogRec) (x : Logbook × Dev) :
    (logRecReadFaults lb r x).1.intake = x.1.intake :=
  foldl_keeps (fun x : Logbook × Dev => x.1.intake) _ (fun x _ => logLasting_intake _ x.1 x.2) _ x

theorem readerPack_intake (t : Time) (fuel : Nat) (lb : Logbook) (d : Dev) :
    (readerPack t fuel lb d).1.intake = lb.intake := by
  induction fuel generalizing lb d with
  | zero => rfl
  | succ fuel ih =>
    have hfaults (x : LogRec) := logRecReadFaults_intake lb x (lb, d)
    unfold readerPack
    dsimp only
    cases readerNext lb d.rdr with
    | none =>
      dsimp only
      split <;> rfl
    | some x =>
      dsimp only
      split_ifs <;> simp only [ih, hfaults]

theorem logReadDeliver_intake (t : Time) (lb : Logbook) (d : Dev) : (logReadDeliver t lb d).1.intake = lb.intake := by
  unfold logReadDeliver
  split
  · exact readerPack_intake t _ lb d
  · rfl

/-! ### Grid time under the tick and the timed adjustment -/

theorem timedAdjust_ticks (t : Time) (d : Dev) : (timedAdjust t d).1.ticks = t.ticks := by
  unfold timedAdjust
  dsimp only
  repeat' split
  all_goals rfl

/-- What every command answers. -/
theorem exec_answers (c : Instr) (s : State) : Answers s c (exec c s) := by
  cases c
  case bar4Read p a =>
    rcases Nat.lt_or_ge a (2 ^ 27) with h | h
    · exact exec_bar4Read p s h ▸ .run s _ _
    · exact (exec_bar4_beyond p 0 s h).1 ▸ .readsOutside p a h
  case bar4Write a v =>
    rcases Nat.lt_or_ge a (2 ^ 27) with h | h
    · exact exec_bar4Write v s h ▸ .run s _ _
    · exact (exec_bar4_beyond .host v s h).2 ▸ .writesOutside a v h
  case timekeeperTick =>
    show Answers s _ (execTimekeeperTick s)
    unfold execTimekeeperTick
    split
    · exact .ticks _ _ (timedAdjust_ticks _ _)
    · exact .stands
  case timedAdjust => exact .adjusts _ _ (timedAdjust_ticks _ _)
  case powerOnReset test => exact exec_powerOnReset test s ▸ .resets _ _ trivial
  case sysRstAssert => exact exec_sysRstAssert s ▸ .resets _ _ trivial
  case thermalTrip tj =>
    by_cases htrip : max 118 (min 122 Config.tripLevel) ≤ tj
    · exact exec_thermalTrip_trips s htrip ▸ .resets _ _ trivial
    · by_cases hrel : tj ≤ max 108 (min 112 Config.releaseLevel)
      · exact exec_thermalTrip_releases s hrel ▸ .run s _ _
      · exact exec_thermalTrip_between s (not_le.1 hrel) (not_le.1 htrip) ▸ .run s _ _
  case logTokenRefill code =>
    refine .works _ _ _ ?_
    dsimp only
    split
    · exact (congrArg List.length (logTokenRefill_intake _ code s.log s.dev)).le
    · exact le_rfl
  case logRecordWrite good => exact .works _ _ _ (logRecordWrite_intake s.time good s.log s.dev)
  case logScrub bad =>
    refine .works _ _ _ ?_
    dsimp only
    split <;> exact le_rfl
  case logReread bad => exact .works _ _ _ (congrArg List.length (logReread_intake bad s.log s.dev)).le
  case logReadDeliver => exact .works _ _ _ (congrArg List.length (logReadDeliver_intake s.time s.log s.dev)).le
  all_goals exact .works _ s.log _ le_rfl

/-! ## The Logbook's intake (R575) -/

theorem logEnter_fits (t : Time) (e : LogEv) {lb : Logbook} (d : Dev) (h : lb.intake.length ≤ 64) :
    (logEnter t e lb d).1.intake.length ≤ 64 := by
  unfold logEnter
  split
  · exact h
  · split
    · exact h
    · rename_i hroom
      simp only [List.length_append, List.length_singleton]
      omega

theorem logLimit_intake (now code : Nat) (lb : Logbook) (d : Dev) : (logLimit now code lb d).2.intake = lb.intake := by
  unfold logLimit
  dsimp only
  repeat' split
  all_goals rfl

theorem logJudge1_fits (t : Time) (e : LogEv) {lb : Logbook} (d : Dev) (h : lb.intake.length ≤ 64) :
    (logJudge1 t e lb d).1.intake.length ≤ 64 := by
  have hlimit := logLimit_intake t.loc e.code lb d
  unfold logJudge1
  split
  · exact h
  · split
    · rename_i lb1 hl
      rw [hl] at hlimit
      exact logEnter_fits t e d (hlimit ▸ h)
    · rename_i lb1 hl
      rw [hl] at hlimit
      exact (congrArg List.length hlimit).trans_le h

theorem logJudge_fits (t : Time) {x : Logbook × Dev} (e : LogEv) (h : x.1.intake.length ≤ 64) :
    (logJudge t x e).1.intake.length ≤ 64 := by
  have hjudged := logJudge1_fits t e x.2 h
  unfold logJudge
  split
  · rename_i lb d hj
    rw [hj] at hjudged
    exact hjudged
  · rename_i lb d hj
    rw [hj] at hjudged
    exact logJudge1_fits t _ d hjudged

/-- The end of a command keeps the intake within its 64 events. -/
theorem finish_fits {s : State} (h : s.intakeFits) : (finish s).intakeFits := by
  have hall (es : List LogEv) (x : Logbook × Dev) (hx : x.1.intake.length ≤ 64) :
      (es.foldl (logJudge s.time) x).1.intake.length ≤ 64 := by
    induction es generalizing x with
    | nil => exact hx
    | cons e es ih => exact ih _ (logJudge_fits s.time e hx)
  exact hall _ (s.log, { s.dev with evs := [] }) h

theorem exec_fits {s t : State} {c : Instr} (h : s.intakeFits) (e : exec c s = .next t) : t.intakeFits := by
  have ha := exec_answers c s
  rw [e] at ha
  cases ha with
  | works _ lb d hlb => exact finish_fits (hlb.trans h)
  | stands => exact h
  | ticks t' d _ => exact finish_fits (s := { s with time := t', dev := d }) h
  | adjusts t' d _ => exact finish_fits (s := { s with time := t', dev := d }) h
  | resets _ d _ => exact Nat.zero_le 64

/-- A step that goes on idles, or runs the command at the front. -/
theorem step_next {s t : State} (e : step s = .next t) :
    t = s ∨ ∃ c rest, s.pending = c :: rest ∧ exec c { s with pending := rest } = .next t := by
  unfold step at e
  split at e
  · cases e
    exact .inl rfl
  · rename_i c rest hp
    exact .inr ⟨c, rest, hp, e⟩

theorem step_cons {s : State} {c : Instr} {rest : List Instr} (h : s.pending = c :: rest) :
    step s = exec c { s with pending := rest } := by
  unfold step
  rw [h]

/-- Settles O8: the writer only takes events from the intake, and an event enters it only below 64. -/
theorem intakeStaysBounded : Obligations.IntakeStaysBounded := by
  intro s t h e
  rcases step_next e with rfl | ⟨c, rest, _, hc⟩
  · exact h
  · exact exec_fits (s := { s with pending := rest }) h hc

/-- Settles O1: `step` is `exec` at the head of the queue. -/
theorem stepRunsFront : Obligations.StepRunsFront :=
  ⟨fun _ _ _ => rfl, fun s h => by unfold step; rw [h]⟩

theorem exec_pending {s t : State} {c : Instr} (e : exec c s = .next t) : t.pending = s.pending := by
  have ha := exec_answers c s
  rw [e] at ha
  cases ha <;> rfl

/-- Settles O3: by what every command answers. -/
theorem everyCommandGoesOn : Obligations.EveryCommandGoesOn := by
  refine ⟨⟨fun s c hr hw => ?_, fun s p a v ha => exec_bar4_beyond p v s ha⟩, fun s t c rest hp e => ?_⟩
  · have ha := exec_answers c s
    generalize exec c s = o at ha ⊢
    cases ha with
    | readsOutside p a h => exact absurd (hr p a rfl) (Nat.not_lt.2 h)
    | writesOutside a v h => exact absurd (hw a v rfl) (Nat.not_lt.2 h)
    | works | stands | ticks | adjusts | resets => exact ⟨_, rfl⟩
  · rw [step_cons hp] at e
    exact exec_pending e

/-- Settles O7: by what every command answers. -/
theorem onlyTicksMoveTime : Obligations.OnlyTicksMoveTime := by
  refine ⟨fun s t c rest hp e htick hadj hpor hsys htrip => ?_, fun s t c rest hp e => ?_⟩
  · rw [step_cons hp] at e
    have ha := exec_answers c { s with pending := rest }
    rw [e] at ha
    cases ha with
    | works | stands => rfl
    | ticks => exact absurd rfl htick
    | adjusts => exact absurd rfl hadj
    | resets _ d h =>
      cases c with
      | powerOnReset b => exact absurd rfl (hpor b)
      | sysRstAssert => exact absurd rfl hsys
      | thermalTrip x => exact absurd rfl (htrip x)
      | _ => exact h.elim
  · rw [step_cons hp] at e
    have ha := exec_answers c { s with pending := rest }
    rw [e] at ha
    cases ha with
    | works | stands => exact .inl rfl
    | ticks t' d h => exact .inr (.inl ⟨rfl, h⟩)
    | adjusts t' d h => exact .inl h
    | resets => exact .inr (.inr rfl)

end Sys2Proof.Machine

/-!
PROOFS. The scope family: where a write to BAR0 goes and what it makes of one field (R459, R632, Table SCP-3).
-/

namespace Sys2Proof.Machine

open Sys2Proof

/-! ## Accesses outside what the blocks define (R459, R632) -/

theorem busWrite_outside (t : Time) (lb : Logbook) {a : Nat} (v : Word32) (d : Dev)
    (h : a % 4 ≠ 0 ∨ bar0Bytes ≤ a ∨ (fieldsAt a).isEmpty = true) : busWrite t lb a v d = d := if_pos h

theorem busWrite_reaches (t : Time) (lb : Logbook) {a : Nat} (v : Word32) {d : Dev} (h4 : a % 4 = 0) (hb : a < bar0Bytes)
    (hf : (fieldsAt a).isEmpty = false) (hu : d.up (islandOf a) = true) :
    busWrite t lb a v d = blockWrite t lb a v d := by
  rw [busWrite, if_neg (by simp [h4, hf, hb]), onWrite_up _ hu]

theorem busRead_undefined (t : Time) (p : Path) {a : Nat} (d : Dev) (h : (fieldsAt (a / 4 * 4)).isEmpty = true) :
    busRead t p a d = d.answer p 0 := if_pos (.inr h)

/-- The key store, compression and the management port have no rule beyond the access codes (Table MAP-1). -/
theorem blockWrite_plain (t : Time) (lb : Logbook) {a : Nat} (v : Word32) (d : Dev)
    (h : (0x110000 ≤ a ∧ a < 0x120000) ∨ (0x130000 ≤ a ∧ a < 0x200000)) : blockWrite t lb a v d = plainWrite a v d := by
  have hbelow {n : Nat} (hn : n ≤ 0x110000) : ¬ a < n := by omega
  unfold blockWrite
  simp only [hbelow, Nat.reduceLeDiff, if_false]
  rcases h with ⟨_, h⟩ | ⟨hlo, hhi⟩
  · rw [if_pos h]
  · rw [if_neg (by omega), if_neg (by omega), if_neg (by omega), if_pos hhi]

/-! ## One field under a write (Table SCP-3) -/

/-- The bits that writing ones clears leave the others. -/
theorem ofWord_not_and_mask {f : Field} (hf : f.fits = true) (v : Word32) :
    f.ofWord (~~~(v &&& f.mask)) = 2 ^ f.width - 1 - f.ofWord v := by
  apply Nat.eq_of_testBit_eq
  intro k
  rw [Field.ofWord_testBit, show 2 ^ f.width - 1 - f.ofWord v = 2 ^ f.width - (f.ofWord v + 1) by omega,
    Nat.testBit_two_pow_sub_succ (ofWord_lt f v), Field.ofWord_testBit]
  by_cases hk : k < f.width
  · have hmask := f.mask_bit hf (f.lo + k)
    have h32 : f.lo + k < 32 := by
      simp only [Field.fits, decide_eq_true_eq] at hf
      omega
    simp [hk, h32, hmask]
  · simp [hk]

/-- The bits that writing ones sets are those of the word written. -/
theorem ofWord_and_mask {f : Field} (hf : f.fits = true) (v : Word32) : f.ofWord (v &&& f.mask) = f.ofWord v :=
  ofWord_eq_of_bits f fun k hk => by simp [f.mask_bit hf, hk]

/-- What a write makes of one field, by its access code. -/
theorem ofWord_accessWrite (lk : Bool) (v w : Word32) {f : Field} (hf : f.fits = true) :
    f.ofWord (accessWrite lk v w f) =
      match f.acc with
      | .rw => f.ofWord v
      | .rwl => if lk then f.ofWord w else f.ofWord v
      | .w1c => f.ofWord w &&& (2 ^ f.width - 1 - f.ofWord v)
      | .w1s => f.ofWord w ||| f.ofWord v
      | .ro => f.ofWord w
      | .wo => f.ofWord w
      | .rc => f.ofWord w := by
  have hstored : f.ofWord (f.inWord w (f.ofWord v)) = f.ofWord v := by
    rw [f.ofWord_inWord hf, Nat.mod_eq_of_lt (ofWord_lt f v)]
  unfold accessWrite
  cases f.acc with
  | rw => exact hstored
  | rwl => cases lk with
    | true => rfl
    | false => exact hstored
  | w1c => exact (ofWord_and f w _).trans (by rw [ofWord_not_and_mask hf])
  | w1s => exact (ofWord_or f w _).trans (by rw [ofWord_and_mask hf])
  | ro | wo | rc => rfl

/-- Settles O12: the bus sends a write to its block (`busWrite_reaches`) or nowhere (`busWrite_outside`), and the access code
decides what it makes of a field (`ofWord_accessWrite`). -/
theorem busAccess : Obligations.BusAccess := by
  refine ⟨⟨fun s p a v h => ?_, fun s p a v h4 hf ha hu => ?_, fun s p a h => ?_⟩,
    fun lk v w f hf => ofWord_accessWrite lk v w hf⟩
  · rw [exec_writeRegister, busWrite_outside _ _ v _ h]
  · have hb : a < bar0Bytes := by
      unfold bar0Bytes
      omega
    rw [exec_writeRegister, busWrite_reaches _ _ v h4 hb hf hu, blockWrite_plain _ _ v _ ha]
  · rw [exec_readClearOnRead, busRead_undefined _ p _ h]

end Sys2Proof.Machine

/-!
PROOFS. What a meaning may touch: the parts of the device that it names, and the tables only through their own operations, so
that the register file and the Hamper's memory keep their canonical form.
-/

namespace Sys2Proof.Machine

open Sys2Proof

/-- From `d` to `e` no part has changed but `ps`, and the register file and the Hamper's memory have kept their canonical
form. -/
structure Tame (ps : List StatePart) (d e : Dev) : Prop where
  stands : ∀ x, x ∉ ps → devStands d e x
  regs : fmWf resetWord d.regs = true → fmWf resetWord e.regs = true
  mem : Memory.wf d.hmp.mem = true → Memory.wf e.hmp.mem = true

variable {ps : List StatePart} {e d : Dev}

theorem Tame.refl (ps : List StatePart) (d : Dev) : Tame ps d d := ⟨fun x _ => devStands_refl d x, id, id⟩

theorem Tame.trans {a b c : Dev} (h : Tame ps a b) (k : Tame ps b c) : Tame ps a c :=
  ⟨fun x hx => devStands_trans (h.stands x hx) (k.stands x hx), fun hr => k.regs (h.regs hr), fun hm => k.mem (h.mem hm)⟩

/-! ## Updates of one component -/

/-- The register file after writes through its own operations. -/
theorem Tame.withRegs (h : Tame ps e d) {m : RegFile}
    (hm : fmWf resetWord d.regs = true → fmWf resetWord m = true) : Tame ps e { d with regs := m } :=
  ⟨h.stands, fun hr => hm (h.regs hr), h.mem⟩

theorem Tame.rput (h : Tame ps e d) {a : Nat} {w : Word32} : Tame ps e { d with regs := rput d.regs a w } :=
  h.withRegs (fmWf_rput _ a w)

theorem Tame.withEvs (h : Tame ps e d) {x : List LogEv} : Tame ps e { d with evs := x } := ⟨h.stands, h.regs, h.mem⟩

/-- A part that stands in neither may take any value. -/
theorem tame_of_part {f : Dev} (p : StatePart) (h : Tame ps e d) (hp : p ∈ ps) (hs : ∀ x, x ≠ p → devStands d f x)
    (hr : f.regs = d.regs) (hm : f.hmp.mem = d.hmp.mem) : Tame ps e f :=
  ⟨fun x hx => devStands_trans (h.stands x hx) (hs x fun k => hx (k ▸ hp)), fun w => hr ▸ h.regs w, fun w => hm ▸ h.mem w⟩

theorem Tame.paths (h : Tame ps e d) {x : FMap PathSt} [hp : Fact (.paths ∈ ps)] : Tame ps e { d with paths := x } :=
  tame_of_part .paths h hp.out (fun y hy => by cases y <;> first | rfl | exact trivial | exact absurd rfl hy) rfl rfl

theorem Tame.pwr (h : Tame ps e d) {x : Pwr} [hp : Fact (.pwr ∈ ps)] : Tame ps e { d with pwr := x } :=
  tame_of_part .pwr h hp.out (fun y hy => by cases y <;> first | rfl | exact trivial | exact absurd rfl hy) rfl rfl

theorem Tame.isl (h : Tame ps e d) {x : FMap IslSt} [hp : Fact (.isl ∈ ps)] : Tame ps e { d with isl := x } :=
  tame_of_part .isl h hp.out (fun y hy => by cases y <;> first | rfl | exact trivial | exact absurd rfl hy) rfl rfl

theorem Tame.tkp (h : Tame ps e d) {x : Tkp} [hp : Fact (.tkp ∈ ps)] : Tame ps e { d with tkp := x } :=
  tame_of_part .tkp h hp.out (fun y hy => by cases y <;> first | rfl | exact trivial | exact absurd rfl hy) rfl rfl

theorem Tame.rdr (h : Tame ps e d) {x : LogReader} [hp : Fact (.rdr ∈ ps)] : Tame ps e { d with rdr := x } :=
  tame_of_part .rdr h hp.out (fun y hy => by cases y <;> first | rfl | exact trivial | exact absurd rfl hy) rfl rfl

theorem Tame.flush (h : Tame ps e d) {x : Flush} [hp : Fact (.flush ∈ ps)] : Tame ps e { d with flush := x } :=
  tame_of_part .flush h hp.out (fun y hy => by cases y <;> first | rfl | exact trivial | exact absurd rfl hy) rfl rfl

theorem Tame.lko (h : Tame ps e d) {x : FMap Probe} [hp : Fact (.lko ∈ ps)] : Tame ps e { d with lko := x } :=
  tame_of_part .lko h hp.out (fun y hy => by cases y <;> first | rfl | exact trivial | exact absurd rfl hy) rfl rfl

theorem Tame.cmp (h : Tame ps e d) {x : FMap CmpJob} [hp : Fact (.cmp ∈ ps)] : Tame ps e { d with cmp := x } :=
  tame_of_part .cmp h hp.out (fun y hy => by cases y <;> first | rfl | exact trivial | exact absurd rfl hy) rfl rfl

theorem Tame.ports (h : Tame ps e d) {x : FMap Port} [hp : Fact (.ports ∈ ps)] : Tame ps e { d with ports := x } :=
  tame_of_part .ports h hp.out (fun y hy => by cases y <;> first | rfl | exact trivial | exact absurd rfl hy) rfl rfl

theorem Tame.pairs (h : Tame ps e d) {x : FMap PairSt} [hp : Fact (.pairs ∈ ps)] : Tame ps e { d with pairs := x } :=
  tame_of_part .pairs h hp.out (fun y hy => by cases y <;> first | rfl | exact trivial | exact absurd rfl hy) rfl rfl

theorem Tame.keys (h : Tame ps e d) {x : Keys} [hp : Fact (.keys ∈ ps)] : Tame ps e { d with keys := x } :=
  tame_of_part .keys h hp.out (fun y hy => by cases y <;> first | rfl | exact trivial | exact absurd rfl hy) rfl rfl

theorem Tame.ing (h : Tame ps e d) {x : Ing} [hp : Fact (.ing ∈ ps)] : Tame ps e { d with ing := x } :=
  tame_of_part .ing h hp.out (fun y hy => by cases y <;> first | rfl | exact trivial | exact absurd rfl hy) rfl rfl

theorem Tame.aln (h : Tame ps e d) {x : Aln} [hp : Fact (.aln ∈ ps)] : Tame ps e { d with aln := x } :=
  tame_of_part .aln h hp.out (fun y hy => by cases y <;> first | rfl | exact trivial | exact absurd rfl hy) rfl rfl

theorem Tame.adc (h : Tame ps e d) {x : Adc} [hp : Fact (.adc ∈ ps)] : Tame ps e { d with adc := x } :=
  tame_of_part .adc h hp.out (fun y hy => by cases y <;> first | rfl | exact trivial | exact absurd rfl hy) rfl rfl

theorem Tame.flt (h : Tame ps e d) {x : Flt} [hp : Fact (.flt ∈ ps)] : Tame ps e { d with flt := x } :=
  tame_of_part .flt h hp.out (fun y hy => by cases y <;> first | rfl | exact trivial | exact absurd rfl hy) rfl rfl

theorem Tame.dsp (h : Tame ps e d) {x : Dsp} [hp : Fact (.dsp ∈ ps)] : Tame ps e { d with dsp := x } :=
  tame_of_part .dsp h hp.out (fun y hy => by cases y <;> first | rfl | exact trivial | exact absurd rfl hy) rfl rfl

theorem Tame.dxl (h : Tame ps e d) {x : Dxl} [hp : Fact (.dxl ∈ ps)] : Tame ps e { d with dxl := x } :=
  tame_of_part .dxl h hp.out (fun y hy => by cases y <;> first | rfl | exact trivial | exact absurd rfl hy) rfl rfl

theorem Tame.cap (h : Tame ps e d) {x : Cap} [hp : Fact (.cap ∈ ps)] : Tame ps e { d with cap := x } :=
  tame_of_part .cap h hp.out (fun y hy => by cases y <;> first | rfl | exact trivial | exact absurd rfl hy) rfl rfl

theorem Tame.rul (h : Tame ps e d) {x : Rul} [hp : Fact (.rul ∈ ps)] : Tame ps e { d with rul := x } :=
  tame_of_part .rul h hp.out (fun y hy => by cases y <;> first | rfl | exact trivial | exact absurd rfl hy) rfl rfl

theorem Tame.mdl (h : Tame ps e d) {x : Mod} [hp : Fact (.mdl ∈ ps)] : Tame ps e { d with mdl := x } :=
  tame_of_part .mdl h hp.out (fun y hy => by cases y <;> first | rfl | exact trivial | exact absurd rfl hy) rfl rfl

theorem Tame.free (h : Tame ps e d) {x : Nat} [hp : Fact (.free ∈ ps)] : Tame ps e { d with free := x } :=
  tame_of_part .free h hp.out (fun y hy => by cases y <;> first | rfl | exact trivial | exact absurd rfl hy) rfl rfl

theorem Tame.hif (h : Tame ps e d) {x : Hif} [hp : Fact (.hif ∈ ps)] : Tame ps e { d with hif := x } :=
  tame_of_part .hif h hp.out (fun y hy => by cases y <;> first | rfl | exact trivial | exact absurd rfl hy) rfl rfl

/-- A change of the Hamper that keeps its memory. -/
theorem Tame.hmp (h : Tame ps e d) {x : Hmp} (hm : Memory.wf d.hmp.mem = true → Memory.wf x.mem = true)
    [hp : Fact (.hmp ∈ ps)] :
    Tame ps e { d with hmp := x } :=
  ⟨fun y hy => devStands_trans (h.stands y hy)
    (by cases y <;> first | rfl | exact trivial | exact absurd hp.out hy), h.regs, fun w => hm (h.mem w)⟩

/-! ## Choices and repetitions -/

theorem Tame.ite {c : Prop} [Decidable c] {a b : Dev} (ha : Tame ps e a) (hb : Tame ps e b) :
    Tame ps e (if c then a else b) := by
  split
  · exact ha
  · exact hb

theorem Tame.iteSnd {α : Type} {c : Prop} [Decidable c] {a b : α × Dev} (ha : Tame ps e a.2) (hb : Tame ps e b.2) :
    Tame ps e (if c then a else b).2 := by
  split
  · exact ha
  · exact hb

theorem Tame.iteMid {α β : Type} {c : Prop} [Decidable c] {a b : α × Dev × β} (ha : Tame ps e a.2.1)
    (hb : Tame ps e b.2.1) : Tame ps e (if c then a else b).2.1 := by
  split
  · exact ha
  · exact hb

theorem Tame.iteLast {α β : Type} {c : Prop} [Decidable c] {a b : α × β × Dev} (ha : Tame ps e a.2.2)
    (hb : Tame ps e b.2.2) : Tame ps e (if c then a else b).2.2 := by
  split
  · exact ha
  · exact hb

/-- The device of a pair, as the `ite`s over pairs ask for it. -/
theorem Tame.snd {α : Type} {a : α} (h : Tame ps e d) : Tame ps e (a, d).2 := h

theorem Tame.ofPair {α : Type} {x : α × Dev} {a : α} (h : Tame ps e x.2) (hx : x = (a, d)) :
    Tame ps e d := by
  rw [hx] at h
  exact h

theorem Tame.ofMid {α β : Type} {x : α × Dev × β} {a : α} {b : β} (h : Tame ps e x.2.1)
    (hx : x = (a, d, b)) : Tame ps e d := by
  rw [hx] at h
  exact h

theorem Tame.ofTriple {α β : Type} {x : α × β × Dev} {a : α} {b : β} (h : Tame ps e x.2.2)
    (hx : x = (a, b, d)) : Tame ps e d := by
  rw [hx] at h
  exact h

theorem Tame.foldl {α : Type} {f : Dev → α → Dev} {xs : List α} (h : Tame ps e d)
    (hf : ∀ d x, Tame ps e d → Tame ps e (f d x)) : Tame ps e (xs.foldl f d) := by
  induction xs generalizing d with
  | nil => exact h
  | cons x xs ih => exact ih (hf d x h)

theorem Tame.foldlSnd {α β : Type} {f : β × Dev → α → β × Dev} {xs : List α} {a : β × Dev} (h : Tame ps e a.2)
    (hf : ∀ a x, Tame ps e a.2 → Tame ps e (f a x).2) : Tame ps e (xs.foldl f a).2 := by
  induction xs generalizing a with
  | nil => exact h
  | cons x xs ih => exact ih (hf a x h)

theorem Tame.foldlLast {α β γ : Type} {f : β × γ × Dev → α → β × γ × Dev} {xs : List α} {a : β × γ × Dev}
    (h : Tame ps e a.2.2) (hf : ∀ a x, Tame ps e a.2.2 → Tame ps e (f a x).2.2) : Tame ps e (xs.foldl f a).2.2 := by
  induction xs generalizing a with
  | nil => exact h
  | cons x xs ih => exact ih (hf a x h)

/-- `Tame` of the device that a pair holds, as a predicate of the pair. -/
def TamePair {α : Type} (ps : List StatePart) (e : Dev) (x : α × Dev) : Prop := Tame ps e x.2

/-- A predicate of a function, named: where it stands before a function, the function unfolds as a whole, and the kernel does
not compute what its body matches on. -/
def Holds {α : Sort _} (P : α → Prop) (a : α) : Prop := P a

/-- A name for a term that the kernel would otherwise compute: the place of a partition is a product with 2 ^ 18, which it
multiplies out one by one. -/
theorem exists_eq_of {α : Sort _} (a : α) : ∃ x, x = a := ⟨a, rfl⟩

end Sys2Proof.Machine

/-!
PROOFS. What the meanings of the shared operations, the rings, the Hamper and the keys may touch.
-/

namespace Sys2Proof.Machine

open Sys2Proof

variable {ps : List StatePart} {e d : Dev}

/-! ## The shared operations -/

theorem Tame.setN {f : Field} {i v : Nat} (h : Tame ps e d) : Tame ps e (d.setN f i v) := h.withRegs (fmWf_fput _ f i v)

theorem Tame.set {f : Field} {v : Nat} (h : Tame ps e d) :
    Tame ps e (Dev.set d f v) := h.setN

theorem Tame.setB {f : Field} {i : Nat} {b : Bool} (h : Tame ps e d) :
    Tame ps e (Dev.setB d f i b) := h.setN

theorem Tame.addSat {f : Field} {i n : Nat} (h : Tame ps e d) :
    Tame ps e (Dev.addSat d f i n) := h.setN

theorem Tame.sat {f : Field} {i : Nat} (h : Tame ps e d) :
    Tame ps e (Dev.sat d f i) := h.addSat

theorem Tame.wrapInc {f : Field} {i : Nat} (h : Tame ps e d) :
    Tame ps e (Dev.wrapInc d f i) := h.setN

theorem Tame.putWord {a : Nat} {w : Word32} (h : Tame ps e d) :
    Tame ps e (Dev.putWord d a w) := h.rput

theorem Tame.putUnvalid {a : Nat} {w : Word32} (h : Tame ps e d) :
    Tame ps e (Dev.putUnvalid d a w) := h.putWord

theorem Tame.draw (h : Tame ps e d) [Fact (.free ∈ ps)] :
    Tame ps e (Dev.draw d).2 := by
  unfold Machine.Dev.draw
  exact Tame.snd h.free

theorem Tame.event {code inst det det2 : Nat} (h : Tame ps e d) :
    Tame ps e (Dev.event d code inst det det2) := h.withEvs

theorem Tame.request {vec : Nat} (h : Tame ps e d) : Tame ps e (d.request vec) := by
  unfold Dev.request
  split
  · exact h
  · exact ⟨fun x hx => devStands_trans (h.stands x hx) (by cases x <;> first | rfl | exact trivial), h.regs, h.mem⟩

theorem Tame.raise {b : IntBlk} {k : Nat} (h : Tame ps e d) :
    Tame ps e (Dev.raise d b k) := Tame.ite h.rput.request h.rput

theorem Tame.cause {b : IntBlk} {k inst det : Nat} (h : Tame ps e d) :
    Tame ps e (Dev.cause d b k inst det) := h.raise.event

theorem Tame.setPort {n : Nat} {p : Port} (h : Tame ps e d) [Fact (.ports ∈ ps)] :
    Tame ps e (Dev.setPort d n p) := h.ports

theorem Tame.setPair {n : Nat} {p : PairSt} (h : Tame ps e d) [Fact (.pairs ∈ ps)] :
    Tame ps e (Dev.setPair d n p) := h.pairs

theorem Tame.setRing {n : Nat} {r : Ring} (h : Tame ps e d) [Fact (.hif ∈ ps)] :
    Tame ps e (Dev.setRing d n r) := h.hif

theorem Tame.setRef {n : Nat} {r : RefSt} (h : Tame ps e d) [Fact (.tkp ∈ ps)] :
    Tame ps e (Dev.setRef d n r) := h.tkp

theorem Tame.setPath {p : Path} {x : PathSt} (h : Tame ps e d) [Fact (.paths ∈ ps)] :
    Tame ps e (Dev.setPath d p x) := h.paths

theorem Tame.answer {p : Path} {w : Word32} (h : Tame ps e d) [Fact (.paths ∈ ps)] :
    Tame ps e (Dev.answer d p w) := h.setPath

theorem Tame.latch {p : Path} {hi v : Nat} (h : Tame ps e d) [Fact (.paths ∈ ps)] :
    Tame ps e (Dev.latch d p hi v) := h.setPath

theorem Tame.readShadow {p : Path} {hi : Nat} (h : Tame ps e d) [Fact (.paths ∈ ps)] :
    Tame ps e (Dev.readShadow d p hi) := Tame.ite h.setPath.set h.setPath

/-! ## The Logbook's intake -/

theorem Tame.logDrop {code : Nat} {lb : Logbook} (h : Tame ps e d) :
    Tame ps e (logDrop code lb d).2 := by
  unfold Machine.logDrop
  exact Tame.snd h.sat

theorem Tame.logEnter {e₀ : Dev} {t : Time} {e : LogEv} {lb : Logbook} (h : Tame ps e₀ d) :
    Tame ps e₀ (logEnter t e lb d).2.1 := by
  unfold Machine.logEnter
  exact Tame.iteMid h.logDrop.sat (Tame.iteMid h.logDrop.sat.raise h)

theorem Tame.logJudge1 {t : Time} {ev : LogEv} {lb : Logbook} (h : Tame ps e d) :
    Tame ps e (logJudge1 t ev lb d).2.1 := by
  refine Tame.iteMid h ?_
  split
  · exact h.logEnter
  · exact h.logDrop (lb := lb)

theorem Tame.logJudge {t : Time} {s : Logbook × Dev} {ev : LogEv} (h : Tame ps e s.2) :
    Tame ps e (logJudge t s ev).2 := by
  unfold Machine.logJudge
  split
  · exact .ofMid h.logJudge1 ‹_›
  · exact (Tame.ofMid h.logJudge1 ‹_›).logJudge1

/-! ## The flash -/

theorem Tame.modPwr {f : Pwr → Pwr} (h : Tame ps e d) [Fact (.pwr ∈ ps)] :
    Tame ps e (Dev.modPwr d f) := h.pwr

theorem Tame.xaornStart {t : Time} {slot : Nat} (h : Tame ps e d) [Fact (.pwr ∈ ps)] :
    Tame ps e (xaornStart t slot d) := by
  unfold Machine.xaornStart
  exact h.set.set.set.modPwr

theorem Tame.xaornFail (h : Tame ps e d) [Fact (.pwr ∈ ps)] :
    Tame ps e (xaornFail d) := by
  unfold Machine.xaornFail
  exact h.set.set.cause.modPwr

theorem Tame.xaornBoot {t : Time} {slot : Nat} (h : Tame ps e d) [Fact (.pwr ∈ ps)] :
    Tame ps e (xaornBoot t slot d) := Tame.ite h.xaornStart (Tame.ite h.xaornStart h.xaornFail)

theorem Tame.xaornRestart {t : Time} (h : Tame ps e d) [Fact (.pwr ∈ ps)] :
    Tame ps e (xaornRestart t d) := Tame.ite h h.xaornStart

theorem Tame.xaornAgain {t : Time} {old : Dev} (h : Tame ps e d) [Fact (.pwr ∈ ps)] :
    Tame ps e (xaornAgain t old d) := Tame.ite h.set.xaornBoot h.xaornStart

/-! ## Rings -/

theorem Tame.ringDrop {n : Nat} (h : Tame ps e d) [Fact (.hif ∈ ps)] :
    Tame ps e (ringDrop n d) := h.setRing.sat

theorem Tame.hostWrite {w : HostWrite} (h : Tame ps e d) [Fact (.hif ∈ ps)] :
    Tame ps e (hostWrite w d) := h.hif

theorem Tame.owe {n : Nat} {o : Owed} (h : Tame ps e d) [Fact (.hif ∈ ps)] :
    Tame ps e (owe n o d) := h.setRing

theorem Tame.useBuffer {n : Nat} {b : Posted} {status : Nat} {more : Bool} {len : Nat} {ext : List Byte} (h : Tame ps e d)
    [Fact (.hif ∈ ps)] :
    Tame ps e (useBuffer n b status more len ext d) := h.setRing.setN.owe

theorem Tame.skipBad {n k : Nat} (h : Tame ps e d) [Fact (.hif ∈ ps)] : Tame ps e (skipBad n k d) := by
  induction k generalizing d with
  | zero => exact h
  | succ k ih =>
    unfold Machine.skipBad
    split
    · exact .ite h (ih h.useBuffer)
    · exact h

theorem Tame.deliverSt {n : Nat} {bytes ext : List Byte} {more : Bool} {status : Nat} (h : Tame ps e d) [Fact (.hif ∈ ps)] :
    Tame ps e (deliverSt n bytes ext more status d).2 := by
  unfold Machine.deliverSt
  dsimp only
  split
  · exact Tame.iteSnd (Tame.iteSnd (Tame.snd h.useBuffer.skipBad) (Tame.snd h.hostWrite.useBuffer.skipBad))
      (Tame.snd h.ringDrop)
  · exact Tame.snd h.ringDrop

theorem Tame.deliver {n : Nat} {bytes ext : List Byte} (h : Tame ps e d) [Fact (.hif ∈ ps)] :
    Tame ps e (deliver n bytes ext d).2 := by
  unfold Machine.deliver
  exact h.deliverSt

theorem Tame.takeDescs {t : Time} {n : Nat} {xs : List DescWords} (h : Tame ps e d) [Fact (.hif ∈ ps)] :
    Tame ps e (takeDescs t n xs d) := by
  induction xs generalizing d with
  | nil => exact h
  | cons ws rest ih => exact .ite h (.ite (ih h.setRing) (ih (.ite h.setN.owe (.ite h.setN.owe h.setN.setRing))))

theorem Tame.popHead {t : Time} {n : Nat} (h : Tame ps e d) [Fact (.hif ∈ ps)] :
    Tame ps e (popHead t n d) := h.setRing

theorem Tame.startHead {t : Time} {n : Nat} {h : Taken} (ht : Tame ps e d) [Fact (.hif ∈ ps)] :
    Tame ps e (startHead t n h d) := ht.popHead.setRing

theorem Tame.completeHead {t : Time} {n : Nat} {h : Taken} {status len : Nat} {ext : List Byte} (ht : Tame ps e d)
    [Fact (.hif ∈ ps)] :
    Tame ps e (completeHead t n h status len ext d) := ht.popHead.owe

theorem Tame.endStarted {n idx status len : Nat} {ext : List Byte} {stampPort : Option Nat} (h : Tame ps e d)
    [Fact (.hif ∈ ps)] :
    Tame ps e (endStarted n idx status len ext stampPort d) := by
  unfold Machine.endStarted
  dsimp only
  split
  · exact h
  · exact h.setRing.owe

theorem Tame.cutEntry {n idx : Nat} (h : Tame ps e d) [Fact (.hif ∈ ps)] :
    Tame ps e (cutEntry n idx d) := h.setRing

theorem Tame.entryAborted {n : Nat} (h : Tame ps e d) [Fact (.hif ∈ ps)] [Fact (.adc ∈ ps)] :
    Tame ps e (entryAborted n d) := by
  unfold Machine.entryAborted
  exact Tame.ite h (by
    split
    · exact h.adc.useBuffer
    · exact h.adc)

theorem Tame.abortTaken {n : Nat} (h : Tame ps e d) [Fact (.hif ∈ ps)] [Fact (.adc ∈ ps)] :
    Tame ps e (abortTaken n d) := Tame.ite h.entryAborted.setRing h.setRing

theorem Tame.readerStop (h : Tame ps e d) [Fact (.rdr ∈ ps)] :
    Tame ps e (readerStop d) := h.set.rdr

theorem Tame.ringGone {n : Nat} (h : Tame ps e d) [Fact (.rdr ∈ ps)] :
    Tame ps e (ringGone n d) := Tame.ite h.readerStop h

theorem Tame.setPba {vec : Nat} {b : Bool} (h : Tame ps e d) :
    Tame ps e (setPba vec b d) := Tame.ite h h.setN

theorem Tame.sendMessage {vec : Nat} (h : Tame ps e d) [Fact (.hif ∈ ps)] :
    Tame ps e (sendMessage vec d) := Tame.ite h.hostWrite h.setPba

theorem Tame.msiFlush (h : Tame ps e d) [Fact (.hif ∈ ps)] :
    Tame ps e (msiFlush d) := h.foldl fun _ _ h0 => Tame.ite h0.setPba.hostWrite h0

theorem Tame.moderate {t : Time} {n : Nat} {irq : Bool} (h : Tame ps e d) [Fact (.hif ∈ ps)] :
    Tame ps e (moderate t n irq d) := Tame.ite h (Tame.ite h.setRing.request h.setRing)

theorem Tame.freeStamp {port : Nat} {o : TxOrigin} (h : Tame ps e d) [Fact (.ports ∈ ps)] :
    Tame ps e (freeStamp port o d) := h.setPort.setN

theorem Tame.completionWrite {t : Time} {n : Nat} (h : Tame ps e d) [Fact (.hif ∈ ps)] [Fact (.hmp ∈ ps)]
    [Fact (.ports ∈ ps)] :
    Tame ps e (completionWrite t n d) := by
  unfold Machine.completionWrite
  exact Tame.ite h (by
    split
    · exact h
    · exact Tame.moderate (Tame.ite (Tame.set (by
      split
      · exact Tame.freeStamp (by
        split
        · exact h.setRing.setN.hostWrite.hostWrite.setN
        · exact h.setRing.setN.hostWrite.hostWrite)
      · split
        · exact h.setRing.setN.hostWrite.hostWrite.setN
        · exact h.setRing.setN.hostWrite.hostWrite)) (by
      split
      · exact Tame.freeStamp (by
        split
        · exact h.setRing.setN.hostWrite.hostWrite.setN
        · exact h.setRing.setN.hostWrite.hostWrite)
      · split
        · exact h.setRing.setN.hostWrite.hostWrite.setN
        · exact h.setRing.setN.hostWrite.hostWrite)))

theorem Tame.onWrite {addr : Nat} {f : Dev → Dev} (h : Tame ps e d) (hf : ∀ x, Tame ps e x → Tame ps e (f x)) :
    Tame ps e (onWrite addr f d) := Tame.ite (hf _ h) (Tame.ite h.set h)

theorem Tame.ringEnable {t : Time} {n : Nat} {cb : Option DescWords} (h : Tame ps e d) [Fact (.hif ∈ ps)] :
    Tame ps e (ringEnable t n cb d) := by
  unfold Machine.ringEnable
  exact Tame.ite h (by
    split
    · exact h.setN.setN.cause.cause.set.set
    · exact Tame.ite h.setN (Tame.ite h.setN.cause h.setRing.setN.setN.setN.setN.setN))

theorem Tame.ringStopped {n : Nat} (h : Tame ps e d) [Fact (.hif ∈ ps)] :
    Tame ps e (ringStopped n d) := Tame.ite h.setRing.setN h

theorem Tame.doorbellBad {n : Option Nat} (h : Tame ps e d) :
    Tame ps e (doorbellBad n d) := by
  unfold Machine.doorbellBad
  split
  · exact h.sat.cause.setN
  · exact h.sat.cause

theorem Tame.doorbell {t : Time} {n : Nat} {prod ccons : Option Nat} {descs : List DescWords} (h : Tame ps e d)
    [Fact (.hif ∈ ps)] :
    Tame ps e (doorbell t n prod ccons descs d) := Tame.ite h.doorbellBad h.setRing.takeDescs

theorem Tame.bar2Write {t : Time} {ofs size v : Nat} {descs : List DescWords} (h : Tame ps e d) [Fact (.hif ∈ ps)] :
    Tame ps e (bar2Write t ofs size v descs d) :=
  Tame.ite h.doorbellBad (Tame.ite h.doorbell (Tame.ite h.doorbell (Tame.ite h.doorbell h.doorbellBad)))

theorem Tame.descNop {t : Time} {n : Nat} (h : Tame ps e d) [Fact (.hif ∈ ps)] :
    Tame ps e (descNop t n d) := by
  unfold Machine.descNop
  split
  · exact Tame.ite h.completeHead h
  · exact h

theorem Tame.descFence {t : Time} {n : Nat} (h : Tame ps e d) [Fact (.hif ∈ ps)] [Fact (.hmp ∈ ps)] :
    Tame ps e (descFence t n d) := by
  unfold Machine.descFence
  split
  · exact Tame.ite h.completeHead.setRing h
  · exact h

theorem Tame.tokenWaitStart {n : Nat} (h : Tame ps e d) [Fact (.hif ∈ ps)] :
    Tame ps e (tokenWaitStart n d) := by
  unfold Machine.tokenWaitStart
  dsimp only
  split
  · exact Tame.ite h.setRing h
  · exact h

theorem Tame.fenceTimeout {t : Time} {n : Nat} (h : Tame ps e d) [Fact (.hif ∈ ps)] :
    Tame ps e (fenceTimeout t n d) := by
  unfold Machine.fenceTimeout
  dsimp only
  split
  · exact Tame.ite h.completeHead.cause h
  · exact h

theorem Tame.bufPost {t : Time} {n : Nat} (h : Tame ps e d) [Fact (.hif ∈ ps)] :
    Tame ps e (bufPost t n d) := by
  unfold Machine.bufPost
  split
  · exact Tame.ite h.popHead.setRing.skipBad h
  · exact h

theorem Tame.msixMessage {vec : Nat} (h : Tame ps e d) [Fact (.hif ∈ ps)] :
    Tame ps e (msixMessage vec d) := Tame.ite h.hif.sendMessage h

theorem Tame.moderationTimer {t : Time} {n : Nat} (h : Tame ps e d) [Fact (.hif ∈ ps)] :
    Tame ps e (moderationTimer t n d) := by
  unfold Machine.moderationTimer
  dsimp only
  split
  · exact Tame.ite h.setRing.request h
  · exact h

theorem Tame.msixControl {c : MsixCtl} (h : Tame ps e d) [Fact (.hif ∈ ps)] :
    Tame ps e (msixControl c d) := by
  unfold Machine.msixControl
  exact Tame.msiFlush (by
    split
    · exact Tame.ite (h.onWrite (fun _ h3 => h3.setN)) h
    · exact h.hif
    · exact h.hif)

theorem Tame.declareStall (h : Tame ps e d) :
    Tame ps e (declareStall d) := h.set.cause

theorem Tame.hostStall {t : Time} (h : Tame ps e d) :
    Tame ps e (hostStall t d) := Tame.ite h.declareStall h

theorem Tame.heartbeat {t : Time} {v : Word32} (h : Tame ps e d) [Fact (.hif ∈ ps)] :
    Tame ps e (heartbeat t v d) := h.set.set.hif.msiFlush

theorem Tame.pcieLinkDown (h : Tame ps e d) [Fact (.hif ∈ ps)] :
    Tame ps e (pcieLinkDown d) := Tame.ite h.set.set.set.hif.declareStall h

/-! ## The Hamper -/

theorem Tame.modHmp {f : Hmp → Hmp} (h : Tame ps e d)
    (hm : Memory.wf d.hmp.mem = true → Memory.wf (f d.hmp).mem = true)
    [Fact (.hmp ∈ ps)] : Tame ps e (d.modHmp f) := h.hmp hm

theorem Tame.hCounts {w : Nat} (h : Tame ps e d) :
    Tame ps e (hCounts w d) := h.set.setN

theorem Tame.setMapFull {b : Nat} (h : Tame ps e d) :
    Tame ps e (setMapFull b d) := Tame.ite h h.set

theorem Tame.fence {w : Nat} {c : HCause} (h : Tame ps e d) [Fact (.hmp ∈ ps)] :
    Tame ps e (fence w c d) := ((h.modHmp (by exact id))).hCounts

theorem Tame.lasting {w : Nat} {c : HCause} (h : Tame ps e d) [Fact (.hmp ∈ ps)] :
    Tame ps e (lasting w c d) := Tame.ite h.sat.cause.fence h.sat.cause.setMapFull.cause

theorem Tame.lineCheck {c : HCause} {w : Nat} (h : Tame ps e d) [Fact (.hmp ∈ ps)] :
    Tame ps e (lineCheck c w d) := Tame.ite (h.foldl fun _ _ h1 => h1.lasting) h

theorem Tame.hval {w : Nat} (h : Tame ps e d) [Fact (.free ∈ ps)] :
    Tame ps e (hval w d).2 := by
  unfold Machine.hval
  exact Tame.iteSnd (Tame.snd h.draw) (Tame.iteSnd h h)

theorem Tame.hread {c : HCause} {w : Nat} (h : Tame ps e d) [Fact (.hmp ∈ ps)] [Fact (.free ∈ ps)] :
    Tame ps e (hread c w d).2 := by
  unfold Machine.hread
  exact h.lineCheck.hval

theorem Tame.hreadLines {c : HCause} {k : Nat} {fresh : Bool} {w : Nat} (h : Tame ps e d)
    [Fact (.hmp ∈ ps)] [Fact (.free ∈ ps)] : Tame ps e (hreadLines c k fresh w d).2 := by
  induction k generalizing fresh w d with
  | zero => exact h
  | succ k ih =>
    unfold Machine.hreadLines
    exact ih (.iteSnd h.hread h.hval)

theorem Tame.hreadMany {c : HCause} {w n : Nat} (h : Tame ps e d) [Fact (.hmp ∈ ps)] [Fact (.free ∈ ps)] :
    Tame ps e (hreadMany c w n d).2 := by
  unfold Machine.hreadMany
  exact h.hreadLines

theorem Tame.hwrite {w : Nat} {v : Word32} (h : Tame ps e d) [Fact (.hmp ∈ ps)] :
    Tame ps e (hwrite w v d) := .ite h (.ite (h.modHmp (by exact id)) (h.modHmp (memoryWf_tset _ w _)))

theorem Tame.hamperReplay {w : Nat} {c : HCause} {again : Bool} (h : Tame ps e d) [Fact (.hmp ∈ ps)] :
    Tame ps e (hamperReplay w c again d) :=
  .ite h (.ite (h.modHmp (memoryWf_tset _ w _)).lasting h.sat.sat)

theorem Tame.fenceReleaseCheck {w : Nat} {good : Bool} (h : Tame ps e d) [Fact (.hmp ∈ ps)] :
    Tame ps e (fenceReleaseCheck w good d) := by
  unfold Machine.fenceReleaseCheck
  split
  · exact h
  · exact .ite ((h.modHmp (by exact id)).modHmp (memoryWf_tset _ w _)).hCounts.sat.cause (h.modHmp (by exact id)).event

theorem Tame.partWrite {n w : Nat} {vs : List Word32} (h : Tame ps e d) [Fact (.hmp ∈ ps)] :
    Tame ps e (partWrite n w vs d) := by
  induction vs generalizing w d with
  | nil => exact h
  | cons v vs ih =>
    unfold Machine.partWrite
    exact ih (.ite h.hwrite h)

theorem Tame.partRead {n w k : Nat} (h : Tame ps e d) [Fact (.hmp ∈ ps)] [Fact (.free ∈ ps)] :
    Tame ps e (partRead n w k d).2 := by
  have key : Holds (fun f => ∀ n w k d, Tame ps e d → TamePair ps e (f n w k d)) Machine.partRead := by
    delta Machine.partRead
    delta Holds
    beta_reduce
    intro n w k d h
    obtain ⟨f, hf⟩ := exists_eq_of inPart
    rw [← hf]
    exact Tame.iteSnd h.hreadMany (Tame.foldlSnd h fun _ _ hx => .snd (.iteSnd hx.hread hx.draw.snd))
  exact key n w k d h

theorem Tame.writeHmpPart {n : Nat} {v : Word32} (h : Tame ps e d) :
    Tame ps e (writeHmpPart n v d) := Tame.ite h (Tame.ite h.cause h.setN.setN)

theorem Tame.scrubStart {t : Time} (h : Tame ps e d) [Fact (.hmp ∈ ps)] :
    Tame ps e (scrubStart t d) := Tame.set (((h.modHmp (by exact id))).set)

theorem Tame.scrubStop (h : Tame ps e d) :
    Tame ps e (scrubStop d) := h.set

theorem Tame.scrubEnable {t : Time} {was : Bool} (h : Tame ps e d) [Fact (.hmp ∈ ps)] :
    Tame ps e (scrubEnable t was d) := Tame.ite (Tame.ite h h.scrubStart) h.scrubStop

theorem Tame.scrubRead {t : Time} (h : Tame ps e d) [Fact (.hmp ∈ ps)] [Fact (.free ∈ ps)] :
    Tame ps e (scrubRead t d) :=
  Tame.ite h (Tame.ite (Tame.scrubStart (Tame.wrapInc (Tame.ite h.hreadMany h))) (Tame.set ((Tame.modHmp
    (Tame.ite h.hreadMany h) (by exact id)))))

theorem Tame.scrubPassLate {t : Time} (h : Tame ps e d) [Fact (.hmp ∈ ps)] :
    Tame ps e (scrubPassLate t d) := Tame.ite (((h.modHmp (by exact id))).cause) h

theorem Tame.selfTestWord {w : Nat} (h : Tame ps e d) [Fact (.hmp ∈ ps)] :
    Tame ps e (selfTestWord w d) :=
  have hset := h.modHmp (memoryWf_tset _ w ⟨0, true⟩)
  .ite h (.ite hset.fence hset.set.setMapFull)

theorem Tame.hamperSelfTest {bad : List Nat} (h : Tame ps e d) [Fact (.hmp ∈ ps)] :
    Tame ps e (hamperSelfTest bad d) :=
  (((h.modHmp fun _ => rfl).foldl fun _ _ h => h.selfTestWord).foldl fun _ _ h => .ite h.event h).set

theorem Tame.bar4Read {p : Path} {w : Nat} (h : Tame ps e d) [Fact (.paths ∈ ps)] [Fact (.hmp ∈ ps)] [Fact (.free ∈ ps)] :
    Tame ps e (bar4Read p w d) := Tame.ite h.answer (Tame.ite h.hread.answer h.draw.answer)

/-! ## Keys in use -/

theorem Tame.keyDeny {eng slot reason : Nat} (h : Tame ps e d) :
    Tame ps e (keyDeny eng slot reason d) := h.sat.sat.set.set.set.cause

theorem Tame.keyUse {eng inst slot usage : Nat} {long : Bool} (h : Tame ps e d) [Fact (.keys ∈ ps)] :
    Tame ps e (keyUse eng inst slot usage long d).2 := by
  unfold Machine.keyUse
  split
  · exact Tame.snd h.keyDeny
  · exact Tame.iteSnd (Tame.snd h.keyDeny) (Tame.iteSnd (Tame.snd h.keyDeny) (Tame.iteSnd (Tame.snd h.keyDeny) (Tame.snd
      (Tame.ite h.wrapInc h.wrapInc.keys))))

theorem Tame.keyRelease {slot : Nat} (h : Tame ps e d) [Fact (.keys ∈ ps)] :
    Tame ps e (keyRelease slot d) := h.keys

end Sys2Proof.Machine

/-!
PROOFS. What the meanings of the timekeeper may touch.
-/

namespace Sys2Proof.Machine

open Sys2Proof

variable {ps : List StatePart} {e d : Dev}

/-! ## The PTP clock -/

theorem Tame.modPtp {n : Nat} {f : PtpPort → PtpPort} (h : Tame ps e d) [Fact (.tkp ∈ ps)] :
    Tame ps e (Dev.modPtp d n f) := h.tkp

theorem Tame.xaornPtp {n : Nat} (h : Tame ps e d) [Fact (.tkp ∈ ps)] [Fact (.free ∈ ps)] :
    Tame ps e (xaornPtp n d) := Tame.ite h.draw.modPtp h

theorem Tame.ptpFlood {t : Time} {n : Nat} (h : Tame ps e d) [Fact (.tkp ∈ ps)] :
    Tame ps e (ptpFlood t n d).2 := by
  unfold Machine.ptpFlood
  exact Tame.iteSnd (Tame.snd h.modPtp) (Tame.snd (Tame.ite h.modPtp.modPtp.event h.modPtp.modPtp))

theorem Tame.ptpAuthOk {m : PtpMsg} (h : Tame ps e d) [Fact (.keys ∈ ps)] :
    Tame ps e (ptpAuthOk m d).2 := by
  unfold Machine.ptpAuthOk
  exact Tame.iteSnd h (by
    split
    · exact h
    · split
      · exact (Tame.ofPair h.keyUse ‹_›)
      · exact (Tame.ofPair h.keyUse ‹_›))

theorem Tame.ptpAuth {n : Nat} {m : PtpMsg} (h : Tame ps e d) [Fact (.tkp ∈ ps)] [Fact (.keys ∈ ps)] :
    Tame ps e (ptpAuth n m d).2 := by
  unfold Machine.ptpAuth
  split
  · exact (Tame.ofPair h.ptpAuthOk ‹_›)
  · exact Tame.snd (Tame.event (Tame.modPtp ((Tame.ofPair h.ptpAuthOk ‹_›))))

theorem Tame.ptpJudge {t : Time} {n : Nat} {m : PtpMsg} (h : Tame ps e d) [Fact (.tkp ∈ ps)] [Fact (.keys ∈ ps)] :
    Tame ps e (ptpJudge t n m d).2 := by
  unfold Machine.ptpJudge
  split
  · exact (Tame.ofPair h.ptpFlood ‹_›)
  · exact Tame.ptpAuth ((Tame.ofPair h.ptpFlood ‹_›))

theorem Tame.ptpJudged {t : Time} {n : Nat} {m : PtpMsg} (h : Tame ps e d) [Fact (.keys ∈ ps)] :
    Tame ps e (ptpJudged t n m d).2 := by
  unfold Machine.ptpJudged
  exact Tame.iteSnd h h.ptpAuthOk

theorem Tame.fillTx {t : Time} {n q : Nat} {f : TxFrame} (h : Tame ps e d) [Fact (.tkp ∈ ps)] :
    Tame ps e (fillTx t n q f d).2 := by
  unfold Machine.fillTx
  split
  · exact Tame.snd h.modPtp
  · exact Tame.iteSnd h h
  · exact Tame.iteSnd (Tame.iteSnd (Tame.snd h.modPtp) (Tame.snd h.modPtp)) h
  · exact h

/-! ## The timekeeper -/

theorem Tame.modTkp {f : Tkp → Tkp} (h : Tame ps e d) [Fact (.tkp ∈ ps)] :
    Tame ps e (Dev.modTkp d f) := h.tkp

theorem Tame.adcStep {step : Int} (h : Tame ps e d) [Fact (.adc ∈ ps)] :
    Tame ps e (adcStep step d) := h.foldl fun _ _ h0 => Tame.ite h0.adc h0

theorem Tame.ppsRealign {t : Time} (h : Tame ps e d) [Fact (.tkp ∈ ps)] :
    Tame ps e (ppsRealign t d) := by
  unfold Machine.ppsRealign
  exact h.modTkp

theorem Tame.phaseStepped {t : Time} {step : Int} (h : Tame ps e d) [Fact (.tkp ∈ ps)] [Fact (.adc ∈ ps)] :
    Tame ps e (phaseStepped t step d) := h.modTkp.cause.ppsRealign.adcStep

theorem Tame.tick {t : Time} (h : Tame ps e d) [Fact (.tkp ∈ ps)] [Fact (.adc ∈ ps)] :
    Tame ps e (tick t d).2 := by
  unfold Machine.tick
  exact Tame.snd (Tame.ite h.tkp.set h.tkp.set.phaseStepped)

theorem Tame.writeFreqLo {v : Word32} (h : Tame ps e d) [Fact (.tkp ∈ ps)] :
    Tame ps e (writeFreqLo v d) := Tame.ite h h.modTkp

theorem Tame.setSvState {t : Time} {x : Nat} (h : Tame ps e d) [Fact (.tkp ∈ ps)] :
    Tame ps e (setSvState t x d) := Tame.ite h (Tame.cause (Tame.ite h.set.modTkp.set h.set.modTkp))

theorem Tame.writeFreqHi {t : Time} {v : Word32} (h : Tame ps e d) [Fact (.tkp ∈ ps)] :
    Tame ps e (writeFreqHi t v d) := Tame.ite h (Tame.ite h.modTkp.modTkp.setSvState h.modTkp)

theorem Tame.readFreqLo {p : Path} (h : Tame ps e d) [Fact (.paths ∈ ps)] :
    Tame ps e (readFreqLo p d) := h.answer.latch

theorem Tame.applyAdj {v : Int} (h : Tame ps e d) [Fact (.tkp ∈ ps)] :
    Tame ps e (applyAdj v d) := Tame.ite h.modTkp.set h.modTkp

theorem Tame.writeAdj {v : Word32} (h : Tame ps e d) [Fact (.tkp ∈ ps)] :
    Tame ps e (writeAdj v d) := Tame.ite h.cause (Tame.ite h (Tame.ite h.modTkp.set h.applyAdj))

theorem Tame.timedAdjust {t : Time} (h : Tame ps e d) [Fact (.tkp ∈ ps)] [Fact (.adc ∈ ps)] :
    Tame ps e (timedAdjust t d).2 := by
  unfold Machine.timedAdjust
  exact Tame.iteSnd (by
    split
    · exact h
    · exact Tame.snd h.set.set.cause
    · exact Tame.iteSnd (Tame.snd h.applyAdj.set.set.cause) (Tame.snd h.phaseStepped.set.set.cause)) h

theorem Tame.utcWritten {t : Time} {old : Dev} (h : Tame ps e d) [Fact (.tkp ∈ ps)] :
    Tame ps e (utcWritten t old d) := Tame.ite (Tame.ite h.modTkp h) (Tame.modTkp (Tame.ite h.modTkp h))

theorem Tame.takeUtc {t : Time} {slot : Nat} {u : Option UtcInfo} (h : Tame ps e d) [Fact (.tkp ∈ ps)] :
    Tame ps e (takeUtc t slot u d) := by
  unfold Machine.takeUtc
  split
  · exact Tame.ite h h.set.set.set.utcWritten
  · exact h

theorem Tame.refSample {t : Time} {slot : Nat} {x : TimeSample} (h : Tame ps e d) [Fact (.tkp ∈ ps)] :
    Tame ps e (refSample t slot x d) := Tame.ite h (Tame.ite h.setRef.sat h.setRef.setN.setN.wrapInc.takeUtc)

theorem Tame.enterHoldover {e₀ : Dev} {t : Time} {avg : Bool} {e : Option Nat} (h : Tame ps e₀ d) [Fact (.tkp ∈ ps)] :
    Tame ps e₀ (enterHoldover t avg e d) := Tame.ite h h.modTkp.setSvState

theorem Tame.showRefs (h : Tame ps e d) :
    Tame ps e (showRefs d) := (h.foldl fun _ _ h1 => h1.setB).set

theorem Tame.setActive {n : Option Nat} (h : Tame ps e d) [Fact (.tkp ∈ ps)] :
    Tame ps e (setActive n d) := by
  unfold Machine.setActive
  split
  · exact h.set
  · exact Tame.set (Tame.set (by
    split
    · exact Tame.ite h h.modTkp
    · exact h))

theorem Tame.setSuspect {n : Nat} {b : Bool} (h : Tame ps e d) :
    Tame ps e (setSuspect n b d) := h.setB.set.showRefs

theorem Tame.closeSlot {n : Nat} (h : Tame ps e d) [Fact (.tkp ∈ ps)] :
    Tame ps e (closeSlot d n) := Tame.ite h (Tame.ite h.setRef.cause h.setRef)

theorem Tame.setCmps {l : List AsymCmp} (h : Tame ps e d) [Fact (.tkp ∈ ps)] :
    Tame ps e (setCmps l d) := h.modTkp.set

theorem Tame.decideCmp {c : AsymCmp} (h : Tame ps e d) [Fact (.tkp ∈ ps)] [Fact (.free ∈ ps)] :
    Tame ps e (decideCmp c d) :=
  Tame.ite (Tame.ite h.modTkp.setCmps.event.setActive h.modTkp.setCmps.event) (Tame.ite
    (Tame.ite h.modTkp.setCmps.event.setActive h.modTkp.setCmps.event) (Tame.ite (Tame.ite (Tame.modTkp (Tame.setN
    (Tame.setRef (Tame.iteSnd (Tame.snd (Tame.draw
    (Tame.ite h.modTkp.setCmps.event.setSuspect.setActive h.modTkp.setCmps.event.setSuspect))) (Tame.snd
    (Tame.ite h.modTkp.setCmps.event.setSuspect.setActive h.modTkp.setCmps.event.setSuspect))))))
    (Tame.ite h.modTkp.setCmps.event.setSuspect.setActive h.modTkp.setCmps.event.setSuspect)) h.modTkp.setCmps.event))

theorem Tame.startCmp {t : Time} {stepped second : Nat} {ok : Bool} {dO : Int} (h : Tame ps e d) [Fact (.tkp ∈ ps)]
    [Fact (.free ∈ ps)] :
    Tame ps e (startCmp t stepped second ok dO d) := Tame.ite h.decideCmp (Tame.setCmps (Tame.ite h.enterHoldover.modTkp h))

theorem Tame.rePick {n : Nat} (h : Tame ps e d) [Fact (.tkp ∈ ps)] :
    Tame ps e (rePick n d) := h.setCmps

theorem Tame.beginCmp {t : Time} {n : Nat} {dO : Int} {x : Dev} (h : Tame ps e d) (hx : beginCmp t n dO d = some x)
    [Fact (.tkp ∈ ps)] [Fact (.free ∈ ps)] : Tame ps e x := by
  have hpick : Tame ps e (if d.tkp.cmp.any fun c => c.second == n then Machine.rePick n d else d) := .ite h.rePick h
  unfold Machine.beginCmp at hx
  dsimp only at hx
  split at hx
  · cases hx
    exact hpick
  · split at hx
    · cases hx
      exact hpick.startCmp
    · split at hx
      · cases hx
        exact hpick.startCmp
      · cases hx

theorem Tame.suspectStep {t : Time} {n : Nat} {dO : Int} (h : Tame ps e d) [Fact (.tkp ∈ ps)] [Fact (.free ∈ ps)] :
    Tame ps e (suspectStep t n dO d) := by
  unfold Machine.suspectStep
  dsimp only
  split
  · exact h.cause.beginCmp ‹_›
  · exact .ite h.cause.cause h.cause

theorem Tame.discardStep {t : Time} {n : Nat} (h : Tame ps e d) [Fact (.tkp ∈ ps)] [Fact (.free ∈ ps)] :
    Tame ps e (discardStep t n d) := by
  refine .ite h ?_
  dsimp only
  split
  · exact h.setRef.beginCmp ‹_›
  · exact .ite h.setRef.setSvState h.setRef

theorem Tame.stepCmp {c : AsymCmp} (h : Tame ps e d) [Fact (.tkp ∈ ps)] [Fact (.free ∈ ps)] :
    Tame ps e (stepCmp d c) := Tame.ite h.decideCmp h.setCmps

theorem Tame.asymUpdate {t : Time} (h : Tame ps e d) [Fact (.tkp ∈ ps)] [Fact (.free ∈ ps)] :
    Tame ps e (asymUpdate t d) :=
  Tame.foldl ((h.modTkp.foldl fun _ _ h4 => h4.setSuspect).foldl fun _ _ h3 => Tame.ite
    ((h3.setRef.foldl fun _ _ h9 => Tame.ite h9.suspectStep h9).discardStep)
    (h3.setRef.foldl fun _ _ h8 => Tame.ite h8.suspectStep h8)) fun _ _ h2 => h2.stepCmp

theorem Tame.cmpForget {n : Nat} (h : Tame ps e d) [Fact (.tkp ∈ ps)] :
    Tame ps e (cmpForget n d) := Tame.ite h.modTkp.setCmps h

theorem Tame.servoMode {t : Time} (h : Tame ps e d) [Fact (.tkp ∈ ps)] :
    Tame ps e (servoMode t d) :=
  Tame.ite h (Tame.modTkp (Tame.ite (Tame.ite (Tame.setSvState (Tame.ite h.enterHoldover h)) (Tame.enterHoldover
    (Tame.ite h.enterHoldover h))) (Tame.ite h.enterHoldover h)))

theorem Tame.servoFollow {t : Time} (h : Tame ps e d) [Fact (.tkp ∈ ps)] :
    Tame ps e (servoFollow t d) := by
  unfold Machine.servoFollow
  exact Tame.ite h (Tame.ite (Tame.ite h h.setActive) (by
    split
    · exact Tame.ite (Tame.enterHoldover (Tame.ite h h.setActive)) (Tame.setSvState (Tame.ite h h.setActive))
    · exact Tame.ite (Tame.setSvState (Tame.ite h h.setActive)) (Tame.ite (Tame.ite (Tame.setSvState
        (Tame.ite h h.setActive)) (Tame.setSvState (Tame.ite h h.setActive))) (Tame.ite h h.setActive))))

theorem Tame.lockCount {t : Time} {o : Int} (h : Tame ps e d) [Fact (.tkp ∈ ps)] :
    Tame ps e (lockCount t o d) := Tame.ite (Tame.ite h.setSvState h.modTkp) (Tame.ite (Tame.ite h.setSvState h.modTkp) h)

theorem Tame.servoSteer {n : Nat} {o : Int} (h : Tame ps e d) [Fact (.tkp ∈ ps)] :
    Tame ps e (servoSteer n o d) := Tame.ite h.modTkp.setRef (Tame.ite h.modTkp.cause h.modTkp)

theorem Tame.servoLoop {t : Time} {n : Nat} {o : Int} (h : Tame ps e d) [Fact (.tkp ∈ ps)] :
    Tame ps e (servoLoop t n o d) := h.servoSteer.lockCount

theorem Tame.servoUpdate {t : Time} (h : Tame ps e d) [Fact (.tkp ∈ ps)] [Fact (.free ∈ ps)] :
    Tame ps e (servoUpdate t d) := by
  unfold Machine.servoUpdate
  dsimp only
  exact Tame.ite h (by
    split
    · split
      · exact Tame.ite (Tame.servoLoop (Tame.servoFollow (Tame.asymUpdate
          (((h.modTkp.cause.foldl fun _ _ h13 => h13.closeSlot).showRefs).servoMode)))) (Tame.servoFollow (Tame.asymUpdate
          (((h.modTkp.cause.foldl fun _ _ h12 => h12.closeSlot).showRefs).servoMode)))
      · exact Tame.servoFollow (Tame.asymUpdate (((h.modTkp.cause.foldl fun _ _ h11 => h11.closeSlot).showRefs).servoMode))
    · exact Tame.servoFollow (Tame.asymUpdate (((h.modTkp.cause.foldl fun _ _ h10 => h10.closeSlot).showRefs).servoMode)))

theorem Tame.hostTmo {t : Time} (h : Tame ps e d) [Fact (.tkp ∈ ps)] :
    Tame ps e (hostTmo t d) := Tame.ite (Tame.cause (Tame.modTkp (Tame.ite h h.enterHoldover))) h

theorem Tame.tinSample {t : Time} {stampQ : Nat} {sec : Int} {extra : Nat} (h : Tame ps e d) [Fact (.tkp ∈ ps)] :
    Tame ps e (tinSample t stampQ sec extra d) := by
  unfold Machine.tinSample
  split
  · exact h
  · exact Tame.ite h h.refSample

theorem Tame.tinBad {f : Field} (h : Tame ps e d) :
    Tame ps e (tinBad f d) := h.sat.cause

theorem Tame.tinEdge {t : Time} {falling : Bool} {q : Nat} (h : Tame ps e d) [Fact (.tkp ∈ ps)] :
    Tame ps e (tinEdge t falling q d) := by
  unfold Machine.tinEdge
  exact Tame.ite h (Tame.ite h.tinBad (Tame.ite (by
    split
    · exact Tame.ite h.modTkp.modTkp.tinSample h.modTkp
    · exact h.modTkp) (Tame.ite h.modTkp.tinSample h.modTkp)))

theorem Tame.tinWritten {old : Dev} (h : Tame ps e d) [Fact (.tkp ∈ ps)] :
    Tame ps e (tinWritten old d) := Tame.showRefs (Tame.ite h.modTkp h)

theorem Tame.irigFrame {t : Time} {f : IrigFrame} (h : Tame ps e d) [Fact (.tkp ∈ ps)] :
    Tame ps e (irigFrame t f d) := by
  unfold Machine.irigFrame
  exact Tame.ite h (Tame.ite h.tinBad (Tame.ite h.modTkp.tinBad (Tame.ite h.modTkp.modTkp.showRefs.tinSample (by
    split
    · exact Tame.ite h.modTkp.modTkp.showRefs.tinSample h.modTkp.modTkp.showRefs.modTkp
    · exact h.modTkp.modTkp.showRefs.modTkp))))

theorem Tame.leapSecond {t : Time} (h : Tame ps e d) [Fact (.tkp ∈ ps)] :
    Tame ps e (leapSecond t d) := Tame.ite h.set.set.set.cause.modTkp h

theorem Tame.leapOccExpire {t : Time} (h : Tame ps e d) [Fact (.tkp ∈ ps)] :
    Tame ps e (leapOccExpire t d) := by
  unfold Machine.leapOccExpire
  split
  · exact Tame.ite h.set.modTkp h
  · exact h

theorem Tame.ppsOutput {t : Time} (h : Tame ps e d) [Fact (.tkp ∈ ps)] :
    Tame ps e (ppsOutput t d) := Tame.ite h h.modTkp

theorem Tame.ppsPulseEnd {t : Time} (h : Tame ps e d) [Fact (.tkp ∈ ps)] :
    Tame ps e (ppsPulseEnd t d) := by
  unfold Machine.ppsPulseEnd
  split
  · exact Tame.ite h.modTkp h
  · exact h

end Sys2Proof.Machine

/-!
PROOFS. What the meanings of the field ports and the fabric may touch.
-/

namespace Sys2Proof.Machine

open Sys2Proof

variable {ps : List StatePart} {e d : Dev}

/-! ## Field ports -/

theorem Tame.modPort {n : Nat} {f : Port → Port} (h : Tame ps e d) [Fact (.ports ∈ ps)] :
    Tame ps e (Dev.modPort d n f) := h.setPort

theorem Tame.fullAdd {n k m : Nat} (h : Tame ps e d) :
    Tame ps e (fullAdd n k m d) := Tame.ite h.setN.setN.setN.cause h.setN.setN

theorem Tame.bcDrop {n : Nat} (h : Tame ps e d) :
    Tame ps e (bcDrop n d) := h.sat

theorem Tame.setFate {n ring idx : Nat} {fate : Option CopyFate} (h : Tame ps e d) [Fact (.pairs ∈ ps)] :
    Tame ps e (setFate n ring idx fate d) := h.setPair

theorem Tame.txDone {n : Nat} {f : TxFrame} {fate : Option CopyFate} (h : Tame ps e d) [Fact (.hif ∈ ps)]
    [Fact (.pairs ∈ ps)] :
    Tame ps e (txDone n f fate d) := by
  unfold Machine.txDone
  split
  · exact Tame.ite h.setFate h.endStarted
  · exact h

theorem Tame.txFail {n : Nat} {f : TxFrame} {status : Nat} (h : Tame ps e d) [Fact (.hif ∈ ps)] [Fact (.pairs ∈ ps)] :
    Tame ps e (txFail n f status d) := h.txDone

theorem Tame.configChange {t : Time} {n : Nat} (h : Tame ps e d) [Fact (.ports ∈ ps)] :
    Tame ps e (configChange t n d) := Tame.ite h.cause h.modPort.setN

theorem Tame.gateOpCheck {n : Nat} (h : Tame ps e d) :
    Tame ps e (gateOpCheck n d) := by
  unfold Machine.gateOpCheck
  dsimp only
  split
  · exact Tame.ite h.cause h
  · exact h

theorem Tame.gateConfigApply {t : Time} {n : Nat} (h : Tame ps e d) [Fact (.ports ∈ ps)] :
    Tame ps e (gateConfigApply t n d) := by
  unfold Machine.gateConfigApply
  dsimp only
  split
  · exact Tame.ite h.modPort.setN.setN.setN.setN.gateOpCheck h.modPort.setN.gateOpCheck
  · exact h.modPort.setN.setN.setN.setN.gateOpCheck
  · exact h.modPort.setN.gateOpCheck
  · exact h

theorem Tame.gateEntryAdvance {t : Time} {n : Nat} (h : Tame ps e d) [Fact (.ports ∈ ps)] :
    Tame ps e (gateEntryAdvance t n d) := by
  unfold Machine.gateEntryAdvance
  dsimp only
  split
  · exact Tame.ite h.modPort.setN.gateOpCheck h
  · exact h

theorem Tame.pushTx {n : Nat} {f : TxFrame} (h : Tame ps e d) [Fact (.ports ∈ ps)] :
    Tame ps e (pushTx n f d) := h.modPort

theorem Tame.popTx {n tc : Nat} (h : Tame ps e d) [Fact (.ports ∈ ps)] :
    Tame ps e (popTx n tc d) := h.modPort

theorem Tame.sendTx {n : Nat} {f : TxFrame} (h : Tame ps e d) [Fact (.hif ∈ ps)] [Fact (.ports ∈ ps)] [Fact (.pairs ∈ ps)] :
    Tame ps e (sendTx n f d) :=
  Tame.ite (Tame.ite h.pushTx h) (Tame.ite (Tame.pushTx (Tame.ite h.setPair.pushTx h.setPair.txFail)) (Tame.txFail
    (Tame.ite h.setPair.pushTx h.setPair.txFail)))

theorem Tame.guardRefresh {t : Time} {n : Nat} (h : Tame ps e d) [Fact (.ports ∈ ps)] :
    Tame ps e (guardRefresh t n d) := by
  unfold Machine.guardRefresh
  exact h.modPort

theorem Tame.discardHead {n tc : Nat} {f : TxFrame} {status : Option Nat} (h : Tame ps e d) [Fact (.hif ∈ ps)]
    [Fact (.ports ∈ ps)] [Fact (.pairs ∈ ps)] :
    Tame ps e (discardHead n tc f status d) := h.popTx.txDone

theorem Tame.fillHeads {n : Nat} (h : Tame ps e d) [Fact (.ports ∈ ps)] [Fact (.free ∈ ps)] :
    Tame ps e (fillHeads n d) := by
  unfold Machine.fillHeads
  exact h.foldl fun _ _ h0 => by
    split
    · exact Tame.ite h0 h0.draw.modPort
    · exact h0

theorem Tame.msecTx {n : Nat} (h : Tame ps e d) [Fact (.keys ∈ ps)] :
    Tame ps e (msecTx n d).2 := by
  unfold Machine.msecTx
  exact Tame.iteSnd h (Tame.iteSnd h (by
    split
    · exact (Tame.ofPair h.keyUse ‹_›)
    · exact Tame.snd (Tame.ite (Tame.cause (Tame.setN ((Tame.ofPair h.keyUse ‹_›)))) (Tame.setN
        ((Tame.ofPair h.keyUse ‹_›))))))

/-- The device that a pick leaves. -/
def Pick.dev (d : Dev) : Pick → Dev
  | .nothing => d
  | .discarded d1 => d1
  | .started d1 => d1

theorem Tame.startTx {t : Time} {n tc : Nat} {f : TxFrame} {status startQ : Nat} {d0 : Dev} (h : Tame ps e d)
    [Fact (.tkp ∈ ps)] [Fact (.hif ∈ ps)] [Fact (.ports ∈ ps)] [Fact (.pairs ∈ ps)] [Fact (.keys ∈ ps)] :
    Tame ps e ((startTx t n tc f status startQ d).dev d0) := by
  have hm := h.msecTx (n := n)
  unfold Machine.startTx
  split
  · next hd => exact (Tame.ofPair hm hd).discardHead.bcDrop
  · next d1 hd =>
    have h2 : Tame ps e (Machine.popTx n tc d1) := (Tame.ofPair hm hd).popTx
    dsimp only [Pick.dev]
    split
    · exact h2.pushTx.fillTx.modPort
    · exact h2.fillTx.modPort

theorem Tame.itePick {c : Prop} [Decidable c] {a b : Pick} (ha : Tame ps e (a.dev d)) (hb : Tame ps e (b.dev d)) :
    Tame ps e ((if c then a else b).dev d) := by
  split
  · exact ha
  · exact hb

theorem Tame.tryClass {t : Time} {n tc : Nat} (h : Tame ps e d)
    [Fact (.tkp ∈ ps)] [Fact (.hif ∈ ps)] [Fact (.ports ∈ ps)] [Fact (.pairs ∈ ps)] [Fact (.keys ∈ ps)] :
    Tame ps e ((tryClass t n tc d).dev d) := by
  unfold Machine.tryClass
  split
  · exact h
  · refine .itePick h.discardHead.bcDrop (.itePick h.discardHead.bcDrop.fullAdd (.itePick h ?_))
    split
    · exact h.startTx
    · split
      · exact h
      · exact h.startTx
      · exact h.fullAdd.startTx
      · exact h.discardHead.bcDrop.fullAdd

theorem Tame.pickClass {t : Time} {n : Nat} {classes : List Nat} (h : Tame ps e d)
    [Fact (.tkp ∈ ps)] [Fact (.hif ∈ ps)] [Fact (.ports ∈ ps)] [Fact (.pairs ∈ ps)] [Fact (.keys ∈ ps)] :
    Tame ps e ((pickClass t n d classes).dev d) := by
  induction classes with
  | nil => exact h
  | cons tc rest ih =>
    unfold Machine.pickClass
    split
    · exact ih
    · exact h.tryClass

theorem Tame.pickFrame {t : Time} {n : Nat} {classes : List Nat} {k : Nat} (h : Tame ps e d)
    [Fact (.tkp ∈ ps)] [Fact (.hif ∈ ps)] [Fact (.ports ∈ ps)] [Fact (.pairs ∈ ps)] [Fact (.keys ∈ ps)] :
    Tame ps e (pickFrame t n classes k d) := by
  induction k generalizing d with
  | zero => exact h
  | succ k ih =>
    have hp := h.pickClass (t := t) (n := n) (classes := classes)
    unfold Machine.pickFrame
    split
    · exact h
    · next hd =>
      rw [hd] at hp
      exact hp
    · next hd =>
      rw [hd] at hp
      exact ih hp

theorem Tame.txFrameStart {t : Time} {n : Nat} {classes : List Nat} (h : Tame ps e d) [Fact (.tkp ∈ ps)] [Fact (.hif ∈ ps)]
    [Fact (.ports ∈ ps)] [Fact (.pairs ∈ ps)] [Fact (.keys ∈ ps)] [Fact (.free ∈ ps)] :
    Tame ps e (txFrameStart t n classes d) := by
  unfold Machine.txFrameStart
  dsimp only
  exact Tame.ite (by
    split
    · exact h.guardRefresh.fillHeads.modPort
    · exact h.guardRefresh.fillHeads.pickFrame) h

theorem Tame.pushStamp {n : Nat} {o : TxOrigin} {q : Nat} (h : Tame ps e d) [Fact (.ports ∈ ps)] :
    Tame ps e (pushStamp n o q d) := h.modPort.setN.setN

theorem Tame.offWire {n : Nat} {c : TxCur} {good : Bool} (h : Tame ps e d) [Fact (.ports ∈ ps)] :
    Tame ps e (offWire n c good d) := h.modPort

theorem Tame.txFrameEnd {n : Nat} (h : Tame ps e d) [Fact (.hif ∈ ps)] [Fact (.ports ∈ ps)] [Fact (.pairs ∈ ps)] :
    Tame ps e (txFrameEnd n d) := by
  unfold Machine.txFrameEnd
  split
  · exact h
  · exact Tame.ite (Tame.ite (Tame.txDone (Tame.cause (Tame.fullAdd
      (Tame.ite h.offWire.fullAdd.fullAdd.sat.fullAdd h.offWire.fullAdd.fullAdd.sat)))) (Tame.txDone (Tame.pushStamp
      (Tame.ite h.offWire.fullAdd.fullAdd.sat.fullAdd h.offWire.fullAdd.fullAdd.sat)))) (Tame.txDone
      (Tame.ite h.offWire.fullAdd.fullAdd.sat.fullAdd h.offWire.fullAdd.fullAdd.sat))

theorem Tame.txUnderrun {n : Nat} (h : Tame ps e d) [Fact (.hif ∈ ps)] [Fact (.ports ∈ ps)] [Fact (.pairs ∈ ps)] :
    Tame ps e (txUnderrun n d) := by
  unfold Machine.txUnderrun
  split
  · exact h
  · exact Tame.ite h (Tame.txFail (Tame.ite h.offWire.fullAdd.cause.setN h.offWire.fullAdd.cause))

theorem Tame.pairCompletion {pr : Nat} (h : Tame ps e d) [Fact (.hif ∈ ps)] [Fact (.ports ∈ ps)] [Fact (.pairs ∈ ps)] :
    Tame ps e (pairCompletion pr d) := by
  unfold Machine.pairCompletion
  dsimp only
  split
  · exact h
  · exact Tame.endStarted (Tame.ite h.setPair.freeStamp h.setPair)

theorem Tame.txhSend {t : Time} {n : Nat} {bytes : List Byte} (h : Tame ps e d) [Fact (.hif ∈ ps)] [Fact (.ports ∈ ps)]
    [Fact (.pairs ∈ ps)] :
    Tame ps e (txhSend t n bytes d) := by
  unfold Machine.txhSend
  split
  · exact h
  · exact Tame.ite h (Tame.ite h.completeHead (Tame.ite h.completeHead (Tame.ite h.completeHead (Tame.ite h.completeHead
      (Tame.sendTx (Tame.ite h.startHead h.startHead.setPair))))))

theorem Tame.txhInject {t : Time} {n : Nat} {f : RxFrame} (h : Tame ps e d) [Fact (.hif ∈ ps)] [Fact (.ing ∈ ps)] :
    Tame ps e (txhInject t n f d) := by
  unfold Machine.txhInject
  split
  · exact h
  · exact Tame.ite h (Tame.ite h.completeHead (Tame.ite h.completeHead h.startHead.ing))

theorem Tame.linkGoUp {n : Nat} (h : Tame ps e d) :
    Tame ps e (linkGoUp n d) := Tame.ite h h.setN.setB.setB.cause

theorem Tame.linkGoDown {n : Nat} (h : Tame ps e d) :
    Tame ps e (linkGoDown n d) := Tame.ite h (Tame.ite h.setN.setN.setN.cause.fullAdd.event h.setN.setN.setN.cause.fullAdd)

theorem Tame.writeFpCtrl {n : Nat} {v : Word32} (h : Tame ps e d) [Fact (.ports ∈ ps)] :
    Tame ps e (writeFpCtrl n v d) :=
  Tame.ite (Tame.linkGoDown (Tame.ite (Tame.modPort (Tame.ite (Tame.ite h.setN.setN.setN.cause h.setN.setN.setN)
    (Tame.ite h.setN.setN.setN.setN.setN.setN h.setN.setN.setN.setN.cause))) (Tame.ite
    (Tame.ite h.setN.setN.setN.cause h.setN.setN.setN)
    (Tame.ite h.setN.setN.setN.setN.setN.setN h.setN.setN.setN.setN.cause)))) (Tame.ite (Tame.modPort (Tame.ite
    (Tame.ite h.setN.setN.setN.cause h.setN.setN.setN)
    (Tame.ite h.setN.setN.setN.setN.setN.setN h.setN.setN.setN.setN.cause))) (Tame.ite
    (Tame.ite h.setN.setN.setN.cause h.setN.setN.setN)
    (Tame.ite h.setN.setN.setN.setN.setN.setN h.setN.setN.setN.setN.cause)))

theorem Tame.pauseBits {n : Nat} (h : Tame ps e d) :
    Tame ps e (pauseBits n d) := h.setN.setB

theorem Tame.pauseReceive {t : Time} {n : Nat} {b : FrameBody} (h : Tame ps e d) [Fact (.ports ∈ ps)] :
    Tame ps e (pauseReceive t n b d) := by
  unfold Machine.pauseReceive
  split
  · exact Tame.ite h.fullAdd.modPort.pauseBits h.fullAdd
  · exact Tame.ite h.fullAdd.modPort.pauseBits h.fullAdd
  · exact h

theorem Tame.pauseExpire {t : Time} {n tc : Nat} (h : Tame ps e d) [Fact (.ports ∈ ps)] :
    Tame ps e (pauseExpire t n tc d) := Tame.ite h.modPort.pauseBits h

theorem Tame.pauseStorm {t : Time} {n tc : Nat} (h : Tame ps e d) [Fact (.ports ∈ ps)] :
    Tame ps e (pauseStorm t n tc d) := Tame.ite h.setPort.pauseBits.cause h

theorem Tame.pauseStormClear {t : Time} {n tc : Nat} (h : Tame ps e d) [Fact (.ports ∈ ps)] :
    Tame ps e (pauseStormClear t n tc d) := Tame.ite h.setPort.pauseBits h

theorem Tame.sendFlow {n q : Nat} {since : Option Nat} (h : Tame ps e d) [Fact (.ports ∈ ps)] :
    Tame ps e (sendFlow n q since d) := by
  unfold Machine.sendFlow
  exact h.modPort

theorem Tame.pauseTransmit {t : Time} {n : Nat} (h : Tame ps e d) [Fact (.ports ∈ ps)] :
    Tame ps e (pauseTransmit t n d) := Tame.ite h.sendFlow h

theorem Tame.pauseResend {t : Time} {n : Nat} (h : Tame ps e d) [Fact (.ports ∈ ps)] :
    Tame ps e (pauseResend t n d) := by
  unfold Machine.pauseResend
  dsimp only
  split
  · exact Tame.ite h.sendFlow h
  · exact h

theorem Tame.pauseReleaseSend {n : Nat} (h : Tame ps e d) [Fact (.ports ∈ ps)] :
    Tame ps e (pauseReleaseSend n d) := Tame.ite h.sendFlow h

theorem Tame.rxError {n k : Nat} (h : Tame ps e d) :
    Tame ps e (rxError n k d) := h.fullAdd.sat

theorem Tame.rxGood {n : Nat} {f : RxFrame} (h : Tame ps e d) :
    Tame ps e (rxGood n f d) :=
  Tame.ite h.sat.fullAdd.fullAdd.fullAdd.fullAdd
    (Tame.ite h.sat.fullAdd.fullAdd.fullAdd.fullAdd h.sat.fullAdd.fullAdd.fullAdd)

theorem Tame.msecVerify {n : Nat} {s : SecTag} (h : Tame ps e d) [Fact (.ports ∈ ps)] [Fact (.keys ∈ ps)] :
    Tame ps e (msecVerify n s d).2 := by
  unfold Machine.msecVerify
  dsimp only
  split
  · exact h
  · split
    · exact (Tame.ofPair h.keyUse ‹_›)
    · exact Tame.iteSnd (Tame.snd (Tame.modPort ((Tame.ofPair h.keyUse ‹_›)))) ((Tame.ofPair h.keyUse ‹_›))

theorem Tame.setKeys {pr : Nat} {ks : List DupKey} (h : Tame ps e d) [Fact (.pairs ∈ ps)] :
    Tame ps e (setKeys pr ks d) := h.setPair.setN

theorem Tame.dupKeyForget {t : Time} {pr : Nat} (h : Tame ps e d) [Fact (.pairs ∈ ps)] :
    Tame ps e (dupKeyForget t pr d) := h.setKeys

theorem Tame.addKey {t : Time} {pr : Nat} {mac seq : Nat} (h : Tame ps e d) [Fact (.pairs ∈ ps)] :
    Tame ps e (addKey t pr mac seq d) := Tame.ite h.sat.setKeys h.setKeys

theorem Tame.hsrForward {n : Nat} {f : RxFrame} (h : Tame ps e d) [Fact (.hif ∈ ps)] [Fact (.ports ∈ ps)]
    [Fact (.pairs ∈ ps)] :
    Tame ps e (hsrForward n f d) := Tame.ite h h.sendTx

theorem Tame.toIngest {n arrQ : Nat} {unv : Bool} {f : RxFrame} (h : Tame ps e d) [Fact (.ports ∈ ps)] [Fact (.ing ∈ ps)] :
    Tame ps e (toIngest n arrQ unv f d) := Tame.ite h (Tame.ite h.fullAdd.bcDrop h.setPort.ing)

theorem Tame.handUp {n arrQ : Nat} {unv : Bool} {f : RxFrame} (h : Tame ps e d) [Fact (.ports ∈ ps)] [Fact (.ing ∈ ps)] :
    Tame ps e (handUp n arrQ unv f d) := by
  unfold Machine.handUp
  split
  · exact Tame.ite h.toIngest (Tame.ite h.modPort h)
  · exact h.modPort
  · exact h.toIngest

theorem Tame.rxPair {t : Time} {n arrQ : Nat} {unv : Bool} {f : RxFrame} (h : Tame ps e d) [Fact (.hif ∈ ps)]
    [Fact (.ports ∈ ps)] [Fact (.pairs ∈ ps)] [Fact (.ing ∈ ps)] :
    Tame ps e (rxPair t n arrQ unv f d) := by
  unfold Machine.rxPair
  exact Tame.ite h.handUp (Tame.ite h (by
    split
    · exact Tame.handUp (Tame.ite h.hsrForward h)
    · exact Tame.ite (Tame.fullAdd (Tame.ite h.fullAdd h)) (Tame.ite (Tame.handUp (Tame.ite h.fullAdd h)) (Tame.handUp
        (Tame.ite (Tame.hsrForward (Tame.addKey (Tame.dupKeyForget (Tame.ite h.fullAdd h)))) (Tame.addKey (Tame.dupKeyForget
        (Tame.ite h.fullAdd h))))))))

/-- The device that a port's checks leave. -/
def RxCheck.dev : RxCheck → Dev
  | .discard d => d
  | .pass _ _ d => d

theorem Tame.msecRx {n : Nat} {f : RxFrame} (h : Tame ps e d)
    [Fact (.ports ∈ ps)] [Fact (.keys ∈ ps)] : Tame ps e (msecRx n f d).dev := by
  have hv := fun s => h.msecVerify (n := n) (s := s)
  unfold Machine.msecRx
  dsimp only
  split
  · exact h
  · split
    · split
      · exact h
      · exact h
    · split
      · exact h
      · split
        · next hd => exact Tame.ofPair (hv _) hd
        · next hd =>
          have h2 := (Tame.ofPair (hv _) hd).rxError (n := n) (k := 18)
          split
          · exact h2.event
          · exact h2.event

theorem Tame.rxMac {n : Nat} {f : RxFrame} (h : Tame ps e d)
    [Fact (.ports ∈ ps)] [Fact (.keys ∈ ps)] : Tame ps e (rxMac n f d).dev := by
  unfold Machine.rxMac
  split_ifs
  · exact h.rxError
  · exact h.rxError
  · exact h.rxError
  · exact h.rxError
  · exact h.msecRx

theorem Tame.ofCheck {x : RxCheck} (h : Tame ps e x.dev) {y : RxCheck} (hx : x = y) : Tame ps e y.dev := hx ▸ h

theorem Tame.frameReceive {t : Time} {n : Nat} {f : RxFrame} (h : Tame ps e d)
    [Fact (.hif ∈ ps)] [Fact (.ports ∈ ps)] [Fact (.pairs ∈ ps)] [Fact (.keys ∈ ps)] [Fact (.ing ∈ ps)] :
    Tame ps e (frameReceive t n f d) := by
  unfold Machine.frameReceive
  refine .ite h ?_
  dsimp only
  refine .ite h ?_
  split
  · next hd =>
    refine Tame.ofCheck (Tame.rxMac ?_) hd
    exact .ite (.ite h.modPort h) (Tame.fullAdd (Tame.fullAdd (.ite h.modPort h)))
  · next g d1 hd =>
    have h1 : Tame ps e d1 := by
      refine Tame.ofCheck (Tame.rxMac ?_) hd
      exact .ite (.ite h.modPort h) (Tame.fullAdd (Tame.fullAdd (.ite h.modPort h)))
    split
    · exact h1.rxGood.pauseReceive
    · exact h1.rxGood.pauseReceive
    · exact h1.rxGood.rxPair

theorem Tame.xaornSup {pr : Nat} (h : Tame ps e d) [Fact (.pairs ∈ ps)] [Fact (.free ∈ ps)] :
    Tame ps e (xaornSup pr d) := Tame.ite h.draw.setPair h

theorem Tame.supervisionSend {t : Time} {pr : Nat} (h : Tame ps e d) [Fact (.hif ∈ ps)] [Fact (.ports ∈ ps)]
    [Fact (.pairs ∈ ps)] [Fact (.free ∈ ps)] :
    Tame ps e (supervisionSend t pr d) :=
  Tame.ite (Tame.ite h.xaornSup.setPair.sendTx (h.xaornSup.setPair.foldl fun _ _ h9 => Tame.ite h9.setPair.sendTx h9)) h

theorem Tame.portReset {t : Time} {n : Nat} (h : Tame ps e d) [Fact (.hif ∈ ps)] [Fact (.ports ∈ ps)] [Fact (.pairs ∈ ps)]
    [Fact (.ing ∈ ps)] :
    Tame ps e (portReset t n d) := by
  unfold Machine.portReset
  exact Tame.linkGoDown (Tame.setKeys (Tame.setN (Tame.ing (Tame.setPort (Tame.foldl (by
    split
    · exact h.offWire.txFail
    · exact h) fun _ _ h11 => h11.txFail)))))

theorem Tame.portDoze {n : Nat} (h : Tame ps e d) [Fact (.hif ∈ ps)] [Fact (.ports ∈ ps)] [Fact (.pairs ∈ ps)] :
    Tame ps e (portDoze n d) := h.txFrameEnd.modPort.linkGoDown

/-! ## The fabric -/

theorem Tame.modDxl {f : Dxl → Dxl} (h : Tame ps e d) [Fact (.dxl ∈ ps)] :
    Tame ps e (Dev.modDxl d f) := h.dxl

theorem Tame.modLink {l : Nat} {f : DxLink → DxLink} (h : Tame ps e d) [Fact (.dxl ∈ ps)] :
    Tame ps e (Dev.modLink d l f) := h.modDxl

theorem Tame.setLinkState {l st : Nat} (h : Tame ps e d) :
    Tame ps e (setLinkState l st d) := h.setN.set

theorem Tame.linkDrop {l : Nat} (h : Tame ps e d) :
    Tame ps e (linkDrop l d) := h.sat

theorem Tame.linkFalls {l : Nat} (h : Tame ps e d) [Fact (.dxl ∈ ps)] :
    Tame ps e (linkFalls l d) := h.setLinkState.modLink.cause

theorem Tame.dxEmit {l : Nat} {b : List Byte} {good mem : Bool} (h : Tame ps e d)
    [Fact (.hif ∈ ps)] [Fact (.ports ∈ ps)] [Fact (.pairs ∈ ps)] [Fact (.keys ∈ ps)] [Fact (.dxl ∈ ps)] :
    Tame ps e (dxEmit l b good mem d) := by
  unfold Machine.dxEmit
  dsimp only
  split
  · refine Tame.linkDrop (Tame.ofPair (.iteSnd ?_ h) ‹_›)
    split
    · exact Tame.ofPair h.keyUse ‹_›
    · exact Tame.ofPair h.keyUse ‹_›
  · next d1 hd =>
    have h1 : Tame ps e d1 := by
      refine Tame.ofPair (.iteSnd ?_ h) hd
      split
      · exact Tame.ofPair h.keyUse ‹_›
      · exact Tame.ofPair h.keyUse ‹_›
    exact .ite h1.sat.modDxl (.ite h1 h1.sat.sendTx)

theorem Tame.dxFlood {b : List Byte} {from_ : Option Nat} {good : Bool} (h : Tame ps e d) [Fact (.hif ∈ ps)]
    [Fact (.ports ∈ ps)] [Fact (.pairs ∈ ps)] [Fact (.keys ∈ ps)] [Fact (.dxl ∈ ps)] :
    Tame ps e (dxFlood b from_ good d) := h.foldl fun _ _ h0 => Tame.ite h0.dxEmit h0

theorem Tame.nextSeq {typ : Nat} (h : Tame ps e d) [Fact (.dxl ∈ ps)] :
    Tame ps e (nextSeq typ d).2 := by
  unfold Machine.nextSeq
  exact Tame.snd h.modDxl

theorem Tame.dxOwn {l typ : Nat} {payload : List Byte} (h : Tame ps e d) [Fact (.hif ∈ ps)] [Fact (.ports ∈ ps)]
    [Fact (.pairs ∈ ps)] [Fact (.keys ∈ ps)] [Fact (.dxl ∈ ps)] :
    Tame ps e (dxOwn l typ payload d).2 := by
  unfold Machine.dxOwn
  exact Tame.snd h.nextSeq.dxEmit

theorem Tame.takeSeq {origin typ seq : Nat} (h : Tame ps e d) [Fact (.dxl ∈ ps)] :
    Tame ps e (takeSeq origin typ seq d) := h.modDxl

theorem Tame.ownFlood {typ : Nat} {payload : List Byte} (h : Tame ps e d) [Fact (.hif ∈ ps)] [Fact (.ports ∈ ps)]
    [Fact (.pairs ∈ ps)] [Fact (.keys ∈ ps)] [Fact (.dxl ∈ ps)] :
    Tame ps e (ownFlood typ payload d).2 := by
  unfold Machine.ownFlood
  exact Tame.snd h.nextSeq.takeSeq.modDxl.dxFlood

theorem Tame.remoteRecord {sec10 : List Byte} {rule edge origin x seq k : Nat} (h : Tame ps e d) [Fact (.hif ∈ ps)]
    [Fact (.dxl ∈ ps)] :
    Tame ps e (remoteRecord sec10 rule edge origin x seq k d) := by
  unfold Machine.remoteRecord
  exact Tame.ite h (Tame.ite h.sat.modDxl (by
    split
    · exact Tame.modDxl ((Tame.ofPair h.deliver ‹_›))
    · exact Tame.modDxl (Tame.sat ((Tame.ofPair h.deliver ‹_›)))))

theorem Tame.remoteSet {t : Time} {k : Nat} {v : Bool} {record : Dev → Dev} (h : Tame ps e d)
    (hf : ∀ x, Tame ps e x → Tame ps e (record x)) :
    Tame ps e (remoteSet t k v record d) := Tame.ite h (Tame.ite (hf _ h.setB.setN) h.setB.setN)

theorem Tame.tokenApply {t : Time} {origin seq : Nat} {p : List Byte} (h : Tame ps e d) [Fact (.hif ∈ ps)]
    [Fact (.dxl ∈ ps)] :
    Tame ps e (tokenApply t origin seq p d) :=
  h.foldl fun _ _ h2 => Tame.ite (((h2.remoteSet (fun _ h7 => h7.remoteRecord)).setN).setN) h2

theorem Tame.remoteOther {edge k : Nat} {loss : Bool} (h : Tame ps e d) [Fact (.hif ∈ ps)] [Fact (.dxl ∈ ps)]
    [Fact (.free ∈ ps)] :
    Tame ps e (remoteOther edge k loss d) := h.draw.draw.draw.remoteRecord

theorem Tame.originRestart {t : Time} {node : Nat} (h : Tame ps e d) [Fact (.hif ∈ ps)] [Fact (.dxl ∈ ps)]
    [Fact (.free ∈ ps)] :
    Tame ps e (originRestart t node d) := h.foldl fun _ _ h0 => (h0.remoteSet (fun _ h2 => h2.remoteOther)).setN

theorem Tame.originLost {t : Time} {node : Nat} (h : Tame ps e d) [Fact (.hif ∈ ps)] [Fact (.dxl ∈ ps)] [Fact
    (.free ∈ ps)] :
    Tame ps e (originLost t node d) :=
  Tame.ite h (h.foldl fun _ _ h1 => Tame.ite ((h1.setN.remoteSet (fun _ h6 => h6.remoteOther)).cause) h1)

theorem Tame.remoteEntryWrite {t : Time} {addr : Nat} {v : Word32} (h : Tame ps e d) [Fact (.dxl ∈ ps)] :
    Tame ps e (remoteEntryWrite t addr v d) :=
  Tame.ite (Tame.ite h.cause (Tame.ite h.rput.setN.setN.setN.modDxl h.rput)) (Tame.ite h.cause h.rput)

theorem Tame.heldRoom {fuel n : Nat} (h : Tame ps e d) [Fact (.dxl ∈ ps)] :
    Tame ps e (heldRoom fuel n d).2 := by
  induction fuel generalizing d with
  | zero =>
    unfold Machine.heldRoom
    split
    · exact h
    · exact h
    · contradiction
  | succ k ih =>
    unfold Machine.heldRoom
    split
    · exact h
    · contradiction
    · next hk =>
      cases hk
      exact .iteSnd h (ih h.modDxl.sat.cause)

theorem Tame.dropHeld {h : DxHeld} (ht : Tame ps e d) [Fact (.dxl ∈ ps)] :
    Tame ps e (dropHeld h d) := ht.modDxl

theorem Tame.sendHeld {t : Time} {retx : Bool} {h : DxHeld} (ht : Tame ps e d) [Fact (.hif ∈ ps)] [Fact (.hmp ∈ ps)]
    [Fact (.ports ∈ ps)] [Fact (.pairs ∈ ps)] [Fact (.keys ∈ ps)] [Fact (.dxl ∈ ps)] [Fact (.free ∈ ps)] :
    Tame ps e (sendHeld t retx h d) := by
  unfold Machine.sendHeld
  split
  · exact ht
  · exact Tame.ite ht.partRead.dropHeld.linkDrop ht.partRead.modDxl.dxEmit

theorem Tame.holdFrame {t : Time} {b : List Byte} (h : Tame ps e d) [Fact (.hif ∈ ps)] [Fact (.hmp ∈ ps)]
    [Fact (.ports ∈ ps)] [Fact (.pairs ∈ ps)] [Fact (.keys ∈ ps)] [Fact (.dxl ∈ ps)] [Fact (.free ∈ ps)] :
    Tame ps e (holdFrame t b d) := by
  unfold Machine.holdFrame
  dsimp only
  split
  · exact Tame.cause (Tame.sat ((Tame.ofPair h.heldRoom ‹_›)))
  · exact Tame.sendHeld (Tame.partWrite (Tame.modDxl ((Tame.ofPair h.heldRoom ‹_›))))

theorem Tame.relayRetransmit {t : Time} {l : Nat} (h : Tame ps e d) [Fact (.hif ∈ ps)] [Fact (.hmp ∈ ps)]
    [Fact (.ports ∈ ps)] [Fact (.pairs ∈ ps)] [Fact (.keys ∈ ps)] [Fact (.dxl ∈ ps)] [Fact (.free ∈ ps)] :
    Tame ps e (relayRetransmit t l d) := by
  unfold Machine.relayRetransmit
  exact Tame.ite h (by
    split
    · exact h.sendHeld
    · exact h)

theorem Tame.relayExpire {t : Time} {l : Nat} (h : Tame ps e d) [Fact (.dxl ∈ ps)] :
    Tame ps e (relayExpire t l d) := by
  unfold Machine.relayExpire
  split
  · exact h.dropHeld.sat.cause
  · exact h

theorem Tame.relayEnable (h : Tame ps e d) :
    Tame ps e (relayEnable d) := Tame.ite h (Tame.ite h.set.cause h.set.set)

theorem Tame.relayBuild {t : Time} {inst spseq : Nat} {regions : List (List Byte)} (h : Tame ps e d) [Fact (.hif ∈ ps)]
    [Fact (.hmp ∈ ps)] [Fact (.ports ∈ ps)] [Fact (.pairs ∈ ps)] [Fact (.keys ∈ ps)] [Fact (.dxl ∈ ps)] [Fact
      (.free ∈ ps)] :
    Tame ps e (relayBuild t inst spseq regions d) := Tame.ite h (h.foldl fun _ _ h1 => h1.nextSeq.holdFrame)

theorem Tame.mgmtSend {t : Time} {dest : Nat} {payload : List Byte} {deflate : Bool} (h : Tame ps e d) [Fact (.hif ∈ ps)]
    [Fact (.hmp ∈ ps)] [Fact (.ports ∈ ps)] [Fact (.pairs ∈ ps)] [Fact (.keys ∈ ps)] [Fact (.dxl ∈ ps)] [Fact
      (.free ∈ ps)] :
    Tame ps e (mgmtSend t dest payload deflate d) := Tame.ite h h.nextSeq.holdFrame

theorem Tame.tokenSend {rule edge inst x islands spseq : Nat} (h : Tame ps e d) [Fact (.hif ∈ ps)] [Fact (.ports ∈ ps)]
    [Fact (.pairs ∈ ps)] [Fact (.keys ∈ ps)] [Fact (.dxl ∈ ps)] :
    Tame ps e (tokenSend rule edge inst x islands spseq d) := Tame.ite h.ownFlood h

theorem Tame.beaconSend {t : Time} (h : Tame ps e d) [Fact (.hif ∈ ps)] [Fact (.ports ∈ ps)] [Fact (.pairs ∈ ps)]
    [Fact (.keys ∈ ps)] [Fact (.dxl ∈ ps)] :
    Tame ps e (beaconSend t d) := Tame.ite h.modDxl.ownFlood h

theorem Tame.fabricStart {t : Time} (h : Tame ps e d) [Fact (.dxl ∈ ps)] :
    Tame ps e (fabricStart t d) := h.set.set.set.modDxl.foldl fun _ _ h1 => h1.setLinkState

theorem Tame.fabricStop (h : Tame ps e d) [Fact (.dxl ∈ ps)] :
    Tame ps e (fabricStop d) := h.set.modDxl.foldl fun _ _ h0 => h0.setLinkState

theorem Tame.linkReset {l : Nat} (h : Tame ps e d) [Fact (.dxl ∈ ps)] :
    Tame ps e (linkReset l d) := h.setLinkState.modDxl

theorem Tame.linkEnable {l : Nat} {on : Bool} (h : Tame ps e d) [Fact (.dxl ∈ ps)] :
    Tame ps e (linkEnable l on d) := h.setB.modLink.setLinkState

theorem Tame.keepaliveSend {t : Time} {l : Nat} (h : Tame ps e d) [Fact (.hif ∈ ps)] [Fact (.ports ∈ ps)]
    [Fact (.pairs ∈ ps)] [Fact (.keys ∈ ps)] [Fact (.dxl ∈ ps)] :
    Tame ps e (keepaliveSend t l d) := Tame.ite h.modLink.dxOwn h

theorem Tame.keepaliveTimeout {t : Time} {l : Nat} (h : Tame ps e d) [Fact (.dxl ∈ ps)] :
    Tame ps e (keepaliveTimeout t l d) := Tame.ite h.linkFalls h

theorem Tame.keepaliveTake {t : Time} {l : Nat} {b : List Byte} (h : Tame ps e d) [Fact (.dxl ∈ ps)] :
    Tame ps e (keepaliveTake t l b d) :=
  Tame.ite h.setN.setLinkState.sat.cause.event (Tame.ite h.setN.modLink (Tame.ite h.setN.modLink.setLinkState.cause
    (Tame.ite h.setN.modLink.setLinkState.cause h.setN.modLink)))

theorem Tame.timeReqSend {t : Time} {l : Nat} (h : Tame ps e d) [Fact (.hif ∈ ps)] [Fact (.ports ∈ ps)] [Fact (.pairs ∈ ps)]
    [Fact (.keys ∈ ps)] [Fact (.dxl ∈ ps)] :
    Tame ps e (timeReqSend t l d) := Tame.ite h.dxOwn.modLink h

theorem Tame.timeAnswer {t : Time} {l arrQ : Nat} {b : List Byte} (h : Tame ps e d) [Fact (.hif ∈ ps)] [Fact (.ports ∈ ps)]
    [Fact (.pairs ∈ ps)] [Fact (.keys ∈ ps)] [Fact (.dxl ∈ ps)] :
    Tame ps e (timeAnswer t l arrQ b d) := by
  unfold Machine.timeAnswer
  exact h.dxOwn.modLink

theorem Tame.timeSample {t : Time} {l : Nat} {x : DxExch} {t3 : Nat} {b : List Byte} (h : Tame ps e d) [Fact (.tkp ∈ ps)]
    [Fact (.dxl ∈ ps)] :
    Tame ps e (timeSample t l x t3 b d) :=
  Tame.ite h.modLink.setN.setN (h.modLink.setN.setN.foldl fun _ _ h8 => Tame.ite h8.refSample h8)

theorem Tame.timeTake {t : Time} {l arrQ : Nat} {b : List Byte} (h : Tame ps e d) [Fact (.tkp ∈ ps)] [Fact (.dxl ∈ ps)] :
    Tame ps e (timeTake t l arrQ b d) := by
  unfold Machine.timeTake
  dsimp only
  split
  · exact Tame.modLink (by
    split
    · exact h.modLink.modLink.timeSample
    · exact h.modLink)
  · split
    · exact h.modLink.modLink.timeSample
    · exact h.modLink

theorem Tame.ackSend {l : Nat} {b : List Byte} (h : Tame ps e d) [Fact (.hif ∈ ps)] [Fact (.ports ∈ ps)]
    [Fact (.pairs ∈ ps)] [Fact (.keys ∈ ps)] [Fact (.dxl ∈ ps)] :
    Tame ps e (ackSend l b d) := h.dxOwn

theorem Tame.floodTake {t : Time} {l : Nat} {b : List Byte} (h : Tame ps e d) [Fact (.hif ∈ ps)] [Fact (.ports ∈ ps)]
    [Fact (.pairs ∈ ps)] [Fact (.keys ∈ ps)] [Fact (.dxl ∈ ps)] :
    Tame ps e (floodTake t l b d) :=
  Tame.ite (Tame.tokenApply (Tame.sat (Tame.modDxl (Tame.ite h.dxFlood h)))) (Tame.modDxl (Tame.ite h.dxFlood h))

theorem Tame.hopTake {t : Time} {l arrQ : Nat} {b : List Byte} (h : Tame ps e d) [Fact (.hif ∈ ps)] [Fact (.hmp ∈ ps)]
    [Fact (.ports ∈ ps)] [Fact (.pairs ∈ ps)] [Fact (.keys ∈ ps)] [Fact (.ing ∈ ps)] [Fact (.dxl ∈ ps)] [Fact
      (.free ∈ ps)] :
    Tame ps e (hopTake t l arrQ b d) :=
  Tame.ite (Tame.ite h.sat.linkDrop h.holdFrame.ackSend) (Tame.ite h.toIngest.ackSend (Tame.ite h.modDxl.ackSend h))

theorem Tame.dxNew {t : Time} {l arrQ : Nat} {b : List Byte} (h : Tame ps e d) [Fact (.hif ∈ ps)] [Fact (.hmp ∈ ps)]
    [Fact (.ports ∈ ps)] [Fact (.pairs ∈ ps)] [Fact (.keys ∈ ps)] [Fact (.ing ∈ ps)] [Fact (.dxl ∈ ps)] [Fact
      (.free ∈ ps)] :
    Tame ps e (dxNew t l arrQ b d) := by
  unfold Machine.dxNew
  dsimp only
  split
  · exact Tame.ite h.sat.linkDrop.ackSend h.sat.linkDrop
  · exact h.sat.linkDrop
  · exact Tame.ite h.linkDrop (Tame.ite h.takeSeq.floodTake h.takeSeq.hopTake)

theorem Tame.dxByType {t : Time} {l arrQ : Nat} {b : List Byte} (h : Tame ps e d) [Fact (.tkp ∈ ps)] [Fact (.hif ∈ ps)]
    [Fact (.hmp ∈ ps)] [Fact (.ports ∈ ps)] [Fact (.pairs ∈ ps)] [Fact (.keys ∈ ps)] [Fact (.ing ∈ ps)] [Fact (.dxl ∈ ps)]
    [Fact (.free ∈ ps)] :
    Tame ps e (dxByType t l arrQ b d) :=
  Tame.ite h.keepaliveTake (Tame.ite h.linkDrop (Tame.ite (Tame.ite h.linkDrop (Tame.ite h.timeAnswer h.timeTake))
    (Tame.ite h.modDxl h.dxNew)))

theorem Tame.dxOriginCheck {t : Time} {l arrQ : Nat} {b : List Byte} (h : Tame ps e d) [Fact (.tkp ∈ ps)] [Fact (.hif ∈ ps)]
    [Fact (.hmp ∈ ps)] [Fact (.ports ∈ ps)] [Fact (.pairs ∈ ps)] [Fact (.keys ∈ ps)] [Fact (.ing ∈ ps)] [Fact (.dxl ∈ ps)]
    [Fact (.free ∈ ps)] :
    Tame ps e (dxOriginCheck t l arrQ b d) := by
  unfold Machine.dxOriginCheck
  exact Tame.ite h.sat.cause.linkDrop (by
    split
    · exact h.modDxl.dxByType
    · exact Tame.ite h.sat.linkDrop (Tame.ite h.dxByType h.modDxl.originRestart.dxByType))

theorem Tame.dxAuthFail {l : Nat} {b : List Byte} (h : Tame ps e d) [Fact (.hif ∈ ps)] [Fact (.ports ∈ ps)]
    [Fact (.pairs ∈ ps)] [Fact (.keys ∈ ps)] [Fact (.dxl ∈ ps)] :
    Tame ps e (dxAuthFail l b d) := Tame.linkDrop (Tame.setN (Tame.cause (Tame.sat (Tame.ite h.dxFlood h))))

theorem Tame.dxAuth {t : Time} {l arrQ : Nat} {f : DxFrame} (h : Tame ps e d) [Fact (.tkp ∈ ps)] [Fact (.hif ∈ ps)]
    [Fact (.hmp ∈ ps)] [Fact (.ports ∈ ps)] [Fact (.pairs ∈ ps)] [Fact (.keys ∈ ps)] [Fact (.ing ∈ ps)] [Fact (.dxl ∈ ps)]
    [Fact (.free ∈ ps)] :
    Tame ps e (dxAuth t l arrQ f d) := by
  unfold Machine.dxAuth
  exact Tame.ite h.dxOriginCheck (by
    split
    · exact Tame.dxAuthFail ((Tame.ofPair h.keyUse ‹_›))
    · exact Tame.ite (Tame.dxOriginCheck (Tame.setN ((Tame.ofPair h.keyUse ‹_›)))) (Tame.dxAuthFail
        ((Tame.ofPair h.keyUse ‹_›))))

theorem Tame.dxLimit {t : Time} {l : Nat} {b : List Byte} (h : Tame ps e d) [Fact (.dxl ∈ ps)] :
    Tame ps e (dxLimit t l b d).2 := by
  unfold Machine.dxLimit
  exact Tame.iteSnd h (Tame.snd h.modLink)

theorem Tame.dxReceive {d0 : Dev} {t : Time} {l arrQ : Nat} {f : DxFrame} (h : Tame ps e d0) [Fact (.tkp ∈ ps)]
    [Fact (.hif ∈ ps)] [Fact (.hmp ∈ ps)] [Fact (.ports ∈ ps)] [Fact (.pairs ∈ ps)] [Fact (.keys ∈ ps)] [Fact (.ing ∈ ps)]
    [Fact (.dxl ∈ ps)] [Fact (.free ∈ ps)] :
    Tame ps e (dxReceive t l arrQ f d0) := by
  unfold Machine.dxReceive
  exact Tame.ite h.sat.linkDrop (Tame.ite h.sat.sat.linkDrop (by
    split
    · exact Tame.linkDrop (Tame.sat ((Tame.ofPair h.sat.dxLimit ‹_›)))
    · exact Tame.dxAuth ((Tame.ofPair h.sat.dxLimit ‹_›))))

theorem Tame.dxDatagram {t : Time} {port ip : Nat} {arrQ : Nat} {f : DxFrame} (h : Tame ps e d) [Fact (.tkp ∈ ps)]
    [Fact (.hif ∈ ps)] [Fact (.hmp ∈ ps)] [Fact (.ports ∈ ps)] [Fact (.pairs ∈ ps)] [Fact (.keys ∈ ps)] [Fact (.ing ∈ ps)]
    [Fact (.dxl ∈ ps)] [Fact (.free ∈ ps)] :
    Tame ps e (dxDatagram t port ip arrQ f d) := by
  unfold Machine.dxDatagram
  split
  · exact h.dxReceive
  · exact h.sat

end Sys2Proof.Machine

/-!
PROOFS. What the meanings of capture and the modal monitor may touch.
-/

namespace Sys2Proof.Machine

open Sys2Proof

variable {ps : List StatePart} {e d : Dev}

/-! ## Capture -/

theorem Tame.modCap {f : Cap → Cap} (h : Tame ps e d) [Fact (.cap ∈ ps)] :
    Tame ps e (Dev.modCap d f) := h.cap

theorem Tame.modEng {n : Nat} {f : CapEng → CapEng} (h : Tame ps e d) [Fact (.cap ∈ ps)] :
    Tame ps e (Dev.modEng d n f) := h.modCap

theorem Tame.capRej (h : Tame ps e d) :
    Tame ps e (capRej d) := h.cause

theorem Tame.captureStart (h : Tame ps e d) [Fact (.hmp ∈ ps)] [Fact (.cap ∈ ps)] :
    Tame ps e (captureStart d) :=
  Tame.ite h.set.set.set.set.capRej (Tame.ite h.set.set.set.set.capRej (Tame.set (Tame.set (Tame.set (Tame.modCap
    (Tame.ite h.set h.set.partWrite))))))

theorem Tame.setEng {n st : Nat} (h : Tame ps e d) :
    Tame ps e (setEng n st d) := h.setN

theorem Tame.engIdle {n : Nat} (h : Tame ps e d) [Fact (.cap ∈ ps)] :
    Tame ps e (engIdle n d) := h.modEng.setEng

theorem Tame.captureStop (h : Tame ps e d) [Fact (.cap ∈ ps)] :
    Tame ps e (captureStop d) := ((h.foldl fun _ _ h2 => h2.engIdle).modCap).set

theorem Tame.modRegion {lane : Nat} {f : CapRegion → CapRegion} (h : Tame ps e d) [Fact (.cap ∈ ps)] :
    Tame ps e (modRegion lane f d) := h.modCap

theorem Tame.rawRestart {lane p : Nat} (h : Tame ps e d) [Fact (.cap ∈ ps)] :
    Tame ps e (rawRestart lane p d) := h.modRegion

theorem Tame.rawWrite {lane p : Nat} {w : Word32} (h : Tame ps e d) [Fact (.hmp ∈ ps)] [Fact (.cap ∈ ps)] :
    Tame ps e (rawWrite lane p w d) := by
  unfold Machine.rawWrite
  exact Tame.ite h (by
    split
    · exact Tame.ite (Tame.ite h.modRegion h.partWrite.modRegion) h.sat
    · exact Tame.ite h.sat h)

theorem Tame.rawRead {lane p : Nat} (h : Tame ps e d) [Fact (.hmp ∈ ps)] [Fact (.free ∈ ps)] :
    Tame ps e (rawRead lane p d).2.2 := by
  unfold Machine.rawRead
  split
  · exact h
  · refine .iteLast h ?_
    split
    · refine .iteLast h (.iteLast h ?_)
      split
      next hd => exact Tame.ofPair h.partRead hd
    · exact h

theorem Tame.engArm {t : Time} {n status : Nat} (h : Tame ps e d) [Fact (.cap ∈ ps)] :
    Tame ps e (engArm t n status d) := h.modEng.setN.setEng.cause

theorem Tame.engArmCheck {t : Time} {n : Nat} {timed : Bool} (h : Tame ps e d) [Fact (.cap ∈ ps)] :
    Tame ps e (engArmCheck t n timed d) := Tame.ite h.setN (Tame.ite h.setN.capRej (Tame.ite h.setN.setEng h.engArm))

theorem Tame.captureArm {t : Time} {n : Nat} (h : Tame ps e d) [Fact (.cap ∈ ps)] :
    Tame ps e (captureArm t n d) := Tame.ite h.engArmCheck h.capRej

theorem Tame.captureTimedArm {t : Time} {n : Nat} (h : Tame ps e d) [Fact (.cap ∈ ps)] :
    Tame ps e (captureTimedArm t n d) := by
  unfold Machine.captureTimedArm
  dsimp only
  exact Tame.ite h (by
    split
    · exact h
    · exact h.setN.setEng.cause
    · exact h.engArm
    · exact h.engArm)

theorem Tame.maskValidate {k : Nat} {v : Word32} (h : Tame ps e d) :
    Tame ps e (maskValidate k v d) := Tame.ite (Tame.ite h.capRej (Tame.ite h.putWord h.putUnvalid.capRej)) h.putWord

theorem Tame.modChan {n c : Nat} {f : CapChan → CapChan} (h : Tame ps e d) [Fact (.cap ∈ ps)] :
    Tame ps e (modChan n c f d) := h.modEng

theorem Tame.recordBlock {n c b : Nat} {w : Word32} (h : Tame ps e d) [Fact (.hmp ∈ ps)] [Fact (.cap ∈ ps)] :
    Tame ps e (recordBlock n c b w d) := by
  unfold Machine.recordBlock
  split
  · exact h
  · exact Tame.ite h.partWrite.modChan.modEng.cause h.partWrite.modChan

theorem Tame.rawBlock {lane avg b : Nat} {digital : Bool} (h : Tame ps e d) [Fact (.hmp ∈ ps)] [Fact (.free ∈ ps)] :
    Tame ps e (rawBlock lane avg b digital d).2.2 := by
  unfold Machine.rawBlock
  exact Tame.snd (Tame.foldlLast h fun _ _ h5 => Tame.snd h5.rawRead)

theorem Tame.rawAdvance {fuel n c p : Nat} (h : Tame ps e d) [Fact (.hmp ∈ ps)] [Fact (.cap ∈ ps)] [Fact (.free ∈ ps)] :
    Tame ps e (rawAdvance fuel n c p d) := by
  induction fuel generalizing d with
  | zero =>
    unfold Machine.rawAdvance
    exact h
  | succ k ih =>
    unfold Machine.rawAdvance
    split
    · next hk _ =>
      cases hk
      refine .ite ?_ h
      split
      next hd =>
        have h1 := Tame.ofTriple h.rawBlock hd
        exact ih (Tame.recordBlock (.ite h1.modEng h1))
    · exact h

theorem Tame.rawSample {lane p : Nat} (h : Tame ps e d) [Fact (.hmp ∈ ps)] [Fact (.cap ∈ ps)] [Fact (.free ∈ ps)] :
    Tame ps e (rawSample lane p d) := by
  unfold Machine.rawSample
  exact h.foldl fun _ _ h0 => Tame.ite (h0.foldl fun _ _ h2 => by
    split
    · exact Tame.ite h2.rawAdvance h2
    · exact h2) h0

theorem Tame.frameSample {n c k : Nat} {w : Word32} (h : Tame ps e d) [Fact (.hmp ∈ ps)] [Fact (.cap ∈ ps)] :
    Tame ps e (frameSample n c k w d) := by
  unfold Machine.frameSample
  split
  · exact h
  · exact Tame.ite h.modChan (Tame.ite (Tame.ite h.modChan.recordBlock h.modChan)
      (Tame.ite h.modChan h.modChan.partWrite.modChan))

theorem Tame.frameInstant {n k : Nat} {rd : Option (Nat → Nat → Dev → Word32 × Dev)} (h : Tame ps e d)
    (hf : ∀ f ∈ rd, ∀ a b x, Tame ps e x → Tame ps e (f a b x).2) [Fact (.hmp ∈ ps)] [Fact (.cap ∈ ps)] :
    Tame ps e (frameInstant n k rd d) := by
  unfold Machine.frameInstant
  refine Tame.modEng (Tame.foldl h fun x c hx => ?_)
  split
  · exact hx
  · split
    · exact (hf _ rfl _ _ _ hx).frameSample
    · exact hx.modEng.frameSample
    · exact hx.modChan.frameSample
    · exact hx

theorem Tame.frameCatchUp {fuel n now : Nat} (h : Tame ps e d) [Fact (.hmp ∈ ps)] [Fact (.cap ∈ ps)] :
    Tame ps e (frameCatchUp fuel n now d) := by
  induction fuel generalizing d with
  | zero => exact h
  | succ k ih =>
    unfold Machine.frameCatchUp
    exact .ite (ih (h.frameInstant (by simp))) h

theorem Tame.frameGap {n m : Nat} (h : Tame ps e d) [Fact (.hmp ∈ ps)] [Fact (.cap ∈ ps)] :
    Tame ps e (frameGap n m d) := by
  induction m generalizing d with
  | zero => exact h
  | succ k ih =>
    unfold Machine.frameGap
    exact ih (h.frameInstant (by simp))

theorem Tame.catchUp {t : Time} {n : Nat} (h : Tame ps e d) [Fact (.hmp ∈ ps)] [Fact (.cap ∈ ps)] :
    Tame ps e (catchUp t n d) := h.frameCatchUp

theorem Tame.triggerValidate {k : Nat} {v : Word32} (h : Tame ps e d) [Fact (.cap ∈ ps)] :
    Tame ps e (triggerValidate k v d) :=
  Tame.ite (Tame.ite h.putWord.modCap (Tame.ite h.capRej h.putUnvalid.capRej)) h.putWord

theorem Tame.defFire {k : Nat} {i : Inst} (h : Tame ps e d) [Fact (.cap ∈ ps)] :
    Tame ps e (defFire k i d) := h.wrapInc.setN.foldl fun _ _ h2 => Tame.ite h2.modEng h2

theorem Tame.defValue {k : Nat} {w : Word32} {isFloat : Bool} {i : Inst} {skew : Int} (h : Tame ps e d) [Fact (.cap ∈ ps)] :
    Tame ps e (defValue k w isFloat i skew d) := Tame.ite h (Tame.setN (Tame.modCap (Tame.ite h.defFire h)))

theorem Tame.capBus {r : BusRec} (h : Tame ps e d) [Fact (.cap ∈ ps)] :
    Tame ps e (capBus r d) := by
  unfold Machine.capBus
  exact Tame.ite h ((h.foldl fun _ _ h3 => Tame.ite (by
    split
    · exact h3.defValue
    · exact h3) h3).foldl fun _ _ h2 => Tame.ite (h2.foldl fun _ _ h4 => by
    split
    · exact Tame.ite (by
      split
      · exact h4.modChan
      · exact h4) h4
    · exact h4) h2)

theorem Tame.capSpread {k rate : Nat} {due : Nat → Bool} {rd : Nat → Nat → Dev → Word32 × Dev} (h : Tame ps e d)
    (hf : ∀ k l x, Tame ps e x → Tame ps e (rd k l x).2)
    [Fact (.hmp ∈ ps)] [Fact (.cap ∈ ps)] : Tame ps e (capSpread k rate due rd d) := by
  have h1 : ∀ {x : Dev} {j : Nat} {c : Bool} {a b : Nat}, Tame ps e x → Tame ps e (if c = true then
      Machine.defValue j (rd a b x).1 (decide (b < 64)) ⟨k, rate⟩ 0 (rd a b x).2 else x) :=
    fun hx => .ite (hf _ _ _ hx).defValue hx
  refine .ite h (.ite (h.foldl fun _ _ hx => h1 hx) ((h.foldl fun _ _ hx => h1 hx).foldl fun _ _ hx =>
    .ite (hx.frameGap.frameInstant fun f hfm a b x hx => ?_) hx))
  cases hfm
  exact .iteSnd (hf _ _ _ hx) hx

theorem Tame.capRaw {lane p : Nat} {w : Word32} {i : Inst} (h : Tame ps e d) [Fact (.hmp ∈ ps)] [Fact (.cap ∈ ps)]
    [Fact (.free ∈ ps)] :
    Tame ps e (capRaw lane p w i d) := Tame.ite h ((h.foldl fun _ _ h3 => Tame.ite h3.defValue h3).rawSample)

theorem Tame.capRule {rule : Nat} {rising : Bool} {i : Inst} (h : Tame ps e d) [Fact (.cap ∈ ps)] :
    Tame ps e (capRule rule rising i d) := Tame.ite h (h.foldl fun _ _ h1 => Tame.ite h1.defFire h1)

theorem Tame.softwareTrigger {t : Time} {v : Word32} (h : Tame ps e d) [Fact (.cap ∈ ps)] :
    Tame ps e (softwareTrigger t v d) := Tame.ite h.defFire h

theorem Tame.pretriggerFull {t : Time} {n : Nat} (h : Tame ps e d) [Fact (.hmp ∈ ps)] [Fact (.cap ∈ ps)] :
    Tame ps e (pretriggerFull t n d) := Tame.ite h.catchUp.setEng h

theorem Tame.captureTrigger {t : Time} {n : Nat} (h : Tame ps e d) [Fact (.cap ∈ ps)] :
    Tame ps e (captureTrigger t n d) := by
  unfold Machine.captureTrigger
  split
  · exact h
  · exact Tame.ite h.modEng.modEng.setEng.cause (Tame.ite h.modEng.modEng (Tame.ite h.modEng
      (Tame.ite h.modEng.sat.modEng h.modEng.sat)))

theorem Tame.framePre {n c : Nat} (h : Tame ps e d) [Fact (.hmp ∈ ps)] [Fact (.cap ∈ ps)] [Fact (.free ∈ ps)] :
    Tame ps e (framePre n c d) := by
  have hr : ∀ {w x}, Tame ps e x → Tame ps e (Machine.partRead partCapture w 1 x).2 := fun hx => hx.partRead
  unfold Machine.framePre
  obtain ⟨f, hf⟩ := exists_eq_of Machine.partRead
  rw [← hf] at hr ⊢
  split
  · exact h
  · split
    · exact h
    · refine Tame.foldl (.ite (Tame.modEng (h.foldlSnd fun _ _ ha => ?_))
        (h.foldlSnd fun _ _ ha => ?_)) fun _ _ hx => hx.recordBlock
      all_goals exact .iteSnd ha (hr ha)

theorem Tame.collectionClose {t : Time} {n : Nat} (h : Tame ps e d)
    [Fact (.hmp ∈ ps)] [Fact (.cap ∈ ps)] [Fact (.free ∈ ps)] : Tame ps e (collectionClose t n d) := by
  unfold Machine.collectionClose
  split
  · exact h
  · refine .ite h ?_
    dsimp only
    split
    · exact h.catchUp.engIdle
    · refine Tame.foldl h.catchUp.modEng fun x c hx => ?_
      split
      · exact hx
      · refine .ite ?_ hx.framePre
        split
        · exact hx.rawAdvance
        · exact hx

theorem Tame.engRelease {t : Time} {n : Nat} {rearm : Bool} (h : Tame ps e d) [Fact (.cap ∈ ps)] :
    Tame ps e (engRelease t n rearm d) := Tame.ite h.engIdle.engArmCheck h.engIdle

theorem Tame.captureComplete {d0 : Dev} {t : Time} {n : Nat} (h : Tame ps e d0) [Fact (.hmp ∈ ps)] [Fact (.cap ∈ ps)] :
    Tame ps e (captureComplete t n d0) :=
  Tame.ite h.catchUp (Tame.ite h.catchUp.partWrite.modEng.sat.cause.setEng
    (Tame.ite h.catchUp.partWrite.modEng.sat.cause.sat.engRelease h.catchUp.partWrite.modEng.sat.cause.setEng))

theorem Tame.captureDeliver {n : Nat} (h : Tame ps e d) [Fact (.hif ∈ ps)] [Fact (.hmp ∈ ps)] [Fact (.cap ∈ ps)]
    [Fact (.free ∈ ps)] :
    Tame ps e (captureDeliver n d) := by
  unfold Machine.captureDeliver
  exact Tame.ite h (by
    split
    · exact h
    · exact h.partRead.deliverSt.modEng)

theorem Tame.captureRelease {t : Time} {n : Nat} (h : Tame ps e d) [Fact (.cap ∈ ps)] :
    Tame ps e (captureRelease t n d) := Tame.ite h.engRelease h

theorem Tame.captureDisarm {n : Nat} (h : Tame ps e d) [Fact (.cap ∈ ps)] :
    Tame ps e (captureDisarm n d) := Tame.ite h h.engIdle

/-! ## Operands of rules -/

theorem Tame.writeRegion {k : Nat} {r : Region} (h : Tame ps e d) [Fact (.hmp ∈ ps)] :
    Tame ps e (writeRegion k r d) := h.partWrite

theorem Tame.readRegion {k s : Nat} (h : Tame ps e d) [Fact (.hmp ∈ ps)] [Fact (.free ∈ ps)] :
    Tame ps e (readRegion k s d).2 := by
  have key : Holds (fun f => ∀ k s d, Tame ps e d → TamePair ps e (f k s d)) Machine.readRegion := by
    have hr : ∀ {w n x}, Tame ps e x → Tame ps e (Machine.partRead partAlign w n x).2 := fun hx => hx.partRead
    delta Machine.readRegion
    delta Holds
    beta_reduce
    intro k s d h
    obtain ⟨f, hf⟩ := exists_eq_of Machine.partRead
    rw [← hf] at hr ⊢
    obtain ⟨g, hg⟩ := exists_eq_of regionWord
    rw [← hg]
    exact .iteSnd (.snd (hr (hr h))) (.iteSnd (.snd (hr h)) (.snd (hr (hr h))))
  exact key k s d h

theorem Tame.readRegions {k : Nat} {xs : List Nat} (h : Tame ps e d)
    [Fact (.hmp ∈ ps)] [Fact (.free ∈ ps)] : Tame ps e (readRegions k xs d).2 := by
  have key : Holds (fun f => ∀ xs d, Tame ps e d → TamePair ps e (f k xs d)) Machine.readRegions := by
    have hr : ∀ {j x}, Tame ps e x → Tame ps e (Machine.readRegion k j x).2 := fun hx => hx.readRegion
    delta Machine.readRegions Machine.readRegions._f
    delta Holds
    beta_reduce
    obtain ⟨g, hg⟩ := exists_eq_of Machine.readRegion
    rw [← hg] at hr ⊢
    intro xs
    induction xs with
    | nil => exact fun d h => h
    | cons x xs ih => exact fun d h => ih _ (hr h)
  exact key xs d h

/-! ## Frames of Roll Call -/

theorem Tame.queueFrames {n tc : Nat} {o : TxOrigin} {fs : List (List Byte)} (h : Tame ps e d) [Fact (.hif ∈ ps)]
    [Fact (.ports ∈ ps)] [Fact (.pairs ∈ ps)] :
    Tame ps e (queueFrames n tc o fs d) := h.foldl fun _ _ h0 => h0.sendTx

/-! ## The modal monitor -/

theorem Tame.modMdl {f : Mod → Mod} (h : Tame ps e d) [Fact (.mdl ∈ ps)] :
    Tame ps e (Dev.modMdl d f) := h.mdl

theorem Tame.modRej (h : Tame ps e d) :
    Tame ps e (modRej d) := h.cause

theorem Tame.slotsAll {w : Word32} (h : Tame ps e d) :
    Tame ps e (slotsAll w d) := h.foldl fun _ _ h0 => h0.setN

theorem Tame.modalStart {t : Time} (h : Tame ps e d) [Fact (.mdl ∈ ps)] :
    Tame ps e (modalStart t d) :=
  Tame.ite h.set.set (Tame.ite h.set.set.cause ((h.set.modMdl.set.set.set.set.foldl fun _ _ h8 => h8.setN).slotsAll))

theorem Tame.modalEnable {t : Time} (h : Tame ps e d) [Fact (.mdl ∈ ps)] :
    Tame ps e (modalEnable t d) := Tame.ite h (Tame.ite h.set (Tame.ite h.modalStart h.set))

theorem Tame.modalHalt (h : Tame ps e d) [Fact (.mdl ∈ ps)] :
    Tame ps e (modalHalt d) := h.modMdl.set.set.foldl fun _ _ h1 => h1.setN

theorem Tame.modalStop (h : Tame ps e d) [Fact (.mdl ∈ ps)] :
    Tame ps e (modalStop d) := Tame.ite h (Tame.ite h.modMdl h.modalHalt)

theorem Tame.laneSample {i : Nat} (h : Tame ps e d) [Fact (.mdl ∈ ps)] :
    Tame ps e (laneSample i d) := Tame.ite h.modMdl.setN.sat h.modMdl.setN.setN.setN

theorem Tame.laneSpread {k : Nat} {due : List Nat} {v : RVal} {i : Nat} (h : Tame ps e d) [Fact (.mdl ∈ ps)] :
    Tame ps e (laneSpread k due v i d) := Tame.ite h (Tame.ite (Tame.laneSample (Tame.ite h.modMdl h))
      (Tame.ite h.modMdl h))

theorem Tame.readEntry {b i j : Nat} (h : Tame ps e d) [Fact (.hmp ∈ ps)] [Fact (.free ∈ ps)] :
    Tame ps e (readEntry b i j d).2 := by
  have key : Holds (fun f => ∀ b i j d, Tame ps e d → TamePair ps e (f b i j d)) Machine.readEntry := by
    have hr : ∀ {w x}, Tame ps e x → Tame ps e (Machine.partRead partModal w 2 x).2 := fun hx => hx.partRead
    delta Machine.readEntry
    delta Holds
    beta_reduce
    intro b i j d h
    obtain ⟨f, hf⟩ := exists_eq_of Machine.partRead
    rw [← hf] at hr ⊢
    obtain ⟨g, hg⟩ := exists_eq_of inPart
    rw [← hg]
    exact hr h
  exact key b i j d h

theorem Tame.markBin {b : Nat} (h : Tame ps e d) [Fact (.mdl ∈ ps)] :
    Tame ps e (markBin b d) := Tame.ite h h.modMdl.sat.cause

theorem Tame.binUpdate {b : Nat} {xs : List Cx} (h : Tame ps e d) [Fact (.hmp ∈ ps)] [Fact (.mdl ∈ ps)] [Fact
    (.free ∈ ps)] :
    Tame ps e (binUpdate b xs d) := by
  have hr : ∀ {i j x}, Tame ps e x → Tame ps e (Machine.readEntry b i j x).2 := fun hx => hx.readEntry
  unfold Machine.binUpdate
  obtain ⟨f, hf⟩ := exists_eq_of (Machine.readEntry b)
  rw [← hf] at hr ⊢
  exact Tame.ite ((h.foldl fun _ _ h15 => h15.partWrite).modMdl) (Tame.ite (Tame.markBin (Tame.foldlSnd h fun _ _ h17 =>
    (hr h17).snd)) (Tame.modMdl (Tame.foldl (Tame.foldlSnd h fun _ _ h19 => (hr h19).snd) fun _ _ h17 => by
    split
    · exact h17.partWrite
    · exact h17)))

theorem Tame.segmentApply {g : MSeg} (h : Tame ps e d) [Fact (.hmp ∈ ps)] [Fact (.mdl ∈ ps)] [Fact (.free ∈ ps)] :
    Tame ps e (segmentApply g d) :=
  Tame.ite ((h.foldl fun _ _ h6 => Tame.ite h6.setN.sat.cause h6.setN).sat) (Tame.set (Tame.sat
    (((h.foldl fun _ _ h10 => Tame.ite h10.setN.sat.cause h10.setN).foldl fun _ _ h9 => h9.binUpdate).modMdl)))

theorem Tame.applyNext (h : Tame ps e d) [Fact (.hmp ∈ ps)] [Fact (.mdl ∈ ps)] [Fact (.free ∈ ps)] :
    Tame ps e (applyNext d) := by
  unfold Machine.applyNext
  split
  · exact h
  · exact h.modMdl.segmentApply

theorem Tame.mdlRecord {bytes : List Byte} (h : Tame ps e d) [Fact (.hif ∈ ps)] :
    Tame ps e (mdlRecord bytes d) := by
  unfold Machine.mdlRecord
  exact Tame.ite h (Tame.ite (by
    split
    · exact Tame.cause (Tame.sat ((Tame.ofPair h.deliver ‹_›)))
    · exact (Tame.ofPair h.deliver ‹_›)) h.sat.cause)

theorem Tame.procEnd {t : Time} (h : Tame ps e d) [Fact (.mdl ∈ ps)] :
    Tame ps e (procEnd t d) := Tame.ite h.modMdl.set (Tame.ite h.modMdl.set.modalHalt.modalStart h.modMdl.set.modalHalt)

theorem Tame.modalSplit {t : Time} {old : Nat} (h : Tame ps e d) [Fact (.mdl ∈ ps)] :
    Tame ps e (modalSplit t old d) := Tame.ite h (Tame.ite h.modalStop (Tame.ite h.modalStart h))

theorem Tame.putCfg {cfg : RegFile} (h : Tame ps e d) : Tame ps e (putCfg cfg d) :=
  h.withRegs fun hr => by
    exact List.foldlRecOn (motive := fun m => fmWf resetWord m = true) _ _ hr fun m hm a _ => fmWf_rput m a _ hm

theorem Tame.withCfg {cfg : RegFile} {f : Dev → Dev} (h : Tame ps e d) (hf : ∀ x, Tame ps e x → Tame ps e (f x)) :
    Tame ps e (withCfg cfg f d) := (hf _ h.putCfg).putCfg

theorem Tame.procTime {t : Time} {p : MProc} (h : Tame ps e d) :
    Tame ps e (procTime t p d) := h.set

theorem Tame.snapFail {t : Time} (h : Tame ps e d) [Fact (.mdl ∈ ps)] :
    Tame ps e (snapFail t d) := h.sat.cause.procEnd

theorem Tame.epochAbandon {t : Time} {p : MProc} (h : Tame ps e d) [Fact (.hif ∈ ps)] [Fact (.hmp ∈ ps)] [Fact (.mdl ∈ ps)]
    [Fact (.free ∈ ps)] :
    Tame ps e (epochAbandon t p d) :=
  Tame.ite (Tame.applyNext (Tame.applyNext (Tame.ite h.sat.cause.snapFail h.sat.cause.mdlRecord.procTime.procEnd.cause)))
    (Tame.ite h.sat.cause.snapFail h.sat.cause.mdlRecord.procTime.procEnd.cause)

theorem Tame.segmentReady {t : Time} (h : Tame ps e d) [Fact (.hif ∈ ps)] [Fact (.hmp ∈ ps)] [Fact (.mdl ∈ ps)]
    [Fact (.free ∈ ps)] :
    Tame ps e (segmentReady t d) := by
  unfold Machine.segmentReady
  exact Tame.ite h (by
    split
    · exact Tame.ite h.modMdl (h.modMdl.withCfg (fun _ h8 => h8.epochAbandon))
    · exact h.modMdl)

theorem Tame.modalSpread {e₀ : Dev} {t : Time} {k : Nat} {due : List Nat} {e : Option OpEnv} {pass : Bool}
    (h : Tame ps e₀ d) [Fact (.hif ∈ ps)] [Fact (.hmp ∈ ps)] [Fact (.mdl ∈ ps)] [Fact (.free ∈ ps)] :
    Tame ps e₀ (modalSpread t k due e pass d) := Tame.ite h ((h.foldl fun _ _ h3 => Tame.ite h3.laneSpread h3).segmentReady)

theorem Tame.readVecs {b : Nat} (h : Tame ps e d) [Fact (.hmp ∈ ps)] [Fact (.free ∈ ps)] :
    Tame ps e (readVecs b d).2 := by
  unfold Machine.readVecs
  exact Tame.foldlSnd h fun _ _ h0 => Tame.snd h0.partRead

theorem Tame.binDecompose {b : Nat} (h : Tame ps e d) [Fact (.hmp ∈ ps)] [Fact (.mdl ∈ ps)] [Fact (.free ∈ ps)] :
    Tame ps e (binDecompose b d).2 := by
  have hr : ∀ {i j x}, Tame ps e x → Tame ps e (Machine.readEntry b i j x).2 := fun hx => hx.readEntry
  unfold Machine.binDecompose
  obtain ⟨f, hf⟩ := exists_eq_of (Machine.readEntry b)
  rw [← hf] at hr ⊢
  exact Tame.iteSnd h (Tame.iteSnd (Tame.snd (Tame.markBin (Tame.foldlSnd h fun _ _ h7 => (hr h7).snd))) (Tame.snd (Tame.ite
    (Tame.iteSnd (Tame.readVecs (Tame.foldlSnd h fun _ _ h18 => (hr h18).snd)) (Tame.snd (Tame.foldlSnd h fun _ _ h18 =>
    (hr h18).snd))) (Tame.foldl (Tame.modMdl (Tame.iteSnd (Tame.readVecs (Tame.foldlSnd h fun _ _ h20 => (hr h20).snd))
    (Tame.snd (Tame.foldlSnd h fun _ _ h20 => (hr h20).snd)))) fun _ _ h14 => h14.partWrite))))

theorem Tame.peakFit {o : List BinOut} {b : Nat} (h : Tame ps e d) [Fact (.free ∈ ps)] :
    Tame ps e (peakFit d o b).2 := by
  unfold Machine.peakFit
  exact Tame.iteSnd h (Tame.snd h.draw.draw)

theorem Tame.peakFits {o : List BinOut} {xs : List Nat} (h : Tame ps e d) [Fact (.free ∈ ps)] :
    Tame ps e (peakFits o xs d).2 := by
  induction xs generalizing d with
  | nil => exact h
  | cons x xs ih =>
    unfold Machine.peakFits
    exact ih h.peakFit

theorem Tame.epochTables {qs : List StatePart} {e d : Dev} {o : List BinOut} {ps : List MPeak} (h : Tame qs e d) :
    Tame qs e (epochTables o ps d) :=
  (h.foldl fun _ _ h2 => h2.foldl fun _ _ h4 => h4.setN).foldl fun _ _ h1 => h1.foldl fun _ _ h2 => h2.setN

theorem Tame.decomposeAll {skip : Bool} {xs : List Nat} (h : Tame ps e d)
    [Fact (.hmp ∈ ps)] [Fact (.mdl ∈ ps)] [Fact (.free ∈ ps)] : Tame ps e (decomposeAll skip xs d).2 := by
  induction xs generalizing d with
  | nil => exact h
  | cons x xs ih =>
    unfold Machine.decomposeAll
    exact ih (.iteSnd h h.binDecompose)

theorem Tame.epochDone {t : Time} {p : MProc} (h : Tame ps e d) [Fact (.hif ∈ ps)] [Fact (.hmp ∈ ps)] [Fact (.mdl ∈ ps)]
    [Fact (.free ∈ ps)] :
    Tame ps e (epochDone t p d) :=
  Tame.procEnd (Tame.cause (Tame.procTime (Tame.mdlRecord (Tame.sat (Tame.epochTables (Tame.modMdl (Tame.ite
    ((h.decomposeAll.foldl fun _ _ h23 => h23.sat.cause).peakFits) (Tame.foldl
    ((h.decomposeAll.foldl fun _ _ h24 => h24.sat.cause).peakFits) fun _ _ h21 => h21.setN))))))))

theorem Tame.epochPublish {t : Time} (h : Tame ps e d) [Fact (.hif ∈ ps)] [Fact (.hmp ∈ ps)] [Fact (.mdl ∈ ps)]
    [Fact (.free ∈ ps)] :
    Tame ps e (epochPublish t d) := by
  unfold Machine.epochPublish
  split
  · exact Tame.ite h (h.withCfg (fun _ h2 => h2.epochDone))
  · exact h

theorem Tame.epochBoundary {t : Time} (h : Tame ps e d) [Fact (.mdl ∈ ps)] :
    Tame ps e (epochBoundary t d) :=
  Tame.ite h (Tame.ite h.modMdl.set.set.set.set.sat.cause h.modMdl.set.set.set.set.modMdl.set)

theorem Tame.snapBin {b : Nat} (h : Tame ps e d) [Fact (.hmp ∈ ps)] [Fact (.mdl ∈ ps)] [Fact (.free ∈ ps)] :
    Tame ps e (snapBin b d).2 := by
  have hr : ∀ {i j x}, Tame ps e x → Tame ps e (Machine.readEntry b i j x).2 := fun hx => hx.readEntry
  unfold Machine.snapBin
  obtain ⟨f, hf⟩ := exists_eq_of (Machine.readEntry b)
  rw [← hf] at hr ⊢
  exact Tame.snd (Tame.ite (Tame.markBin (Tame.foldlSnd h fun _ _ h9 => (hr h9).snd)) (Tame.foldlSnd h fun _ _ h8 =>
    (hr h8).snd))

theorem Tame.snapDone {t : Time} {p : MProc} (h : Tame ps e d) [Fact (.mdl ∈ ps)] :
    Tame ps e (snapDone t p d) := Tame.ite h.procTime.cause.procEnd h.modMdl

theorem Tame.snapWrite {t : Time} {p : MProc} (h : Tame ps e d) [Fact (.hif ∈ ps)] [Fact (.hmp ∈ ps)] [Fact (.mdl ∈ ps)]
    [Fact (.free ∈ ps)] :
    Tame ps e (snapWrite t p d) := Tame.ite h (Tame.ite h.draw.deliverSt.snapDone h.snapBin.deliver.snapDone)

theorem Tame.snapshotBinWrite {t : Time} (h : Tame ps e d) [Fact (.hif ∈ ps)] [Fact (.hmp ∈ ps)] [Fact (.mdl ∈ ps)]
    [Fact (.free ∈ ps)] :
    Tame ps e (snapshotBinWrite t d) := by
  unfold Machine.snapshotBinWrite
  split
  · exact Tame.ite (h.withCfg (fun _ h2 => h2.snapWrite)) h
  · exact h

theorem Tame.snapshotTimeout {t : Time} (h : Tame ps e d) [Fact (.mdl ∈ ps)] :
    Tame ps e (snapshotTimeout t d) := by
  unfold Machine.snapshotTimeout
  split
  · exact h
  · exact Tame.ite h.snapFail h

end Sys2Proof.Machine

/-!
PROOFS. What the meanings of dispatch, the rules and Roll Call may touch.
-/

namespace Sys2Proof.Machine

open Sys2Proof

variable {ps : List StatePart} {e d : Dev}

/-! ## Dispatch -/

theorem Tame.modDsp {f : Dsp → Dsp} (h : Tame ps e d) [Fact (.dsp ∈ ps)] :
    Tame ps e (Dev.modDsp d f) := h.dsp

theorem Tame.dspMessage {c : Nat} (h : Tame ps e d) [Fact (.dsp ∈ ps)] :
    Tame ps e (dspMessage c d) := Tame.ite h.request h.modDsp

theorem Tame.nextRefresh {c : Nat} (h : Tame ps e d) [Fact (.dsp ∈ ps)] :
    Tame ps e (nextRefresh c d) := by
  unfold Machine.nextRefresh
  exact Tame.ite (Tame.dspMessage (by
    split
    · exact h.setN.setN.setN
    · exact h.setN.setN.setN)) (by
    split
    · exact h.setN.setN.setN
    · exact h.setN.setN.setN)

theorem Tame.nextAll (h : Tame ps e d) [Fact (.dsp ∈ ps)] :
    Tame ps e (nextAll d) := h.setB.foldl fun _ _ h0 => h0.nextRefresh

theorem Tame.dspCounts (h : Tame ps e d) :
    Tame ps e (dspCounts d) := h.set.set.set

theorem Tame.spillNote (h : Tame ps e d) :
    Tame ps e (spillNote d) := Tame.ite h.cause h

theorem Tame.spillReady {th : Nat} (h : Tame ps e d) [Fact (.dsp ∈ ps)] :
    Tame ps e (spillReady th d) := h.spillNote.modDsp.setN

theorem Tame.joinReady {th : Nat} {atHead : Bool} (h : Tame ps e d) [Fact (.dsp ∈ ps)] :
    Tame ps e (joinReady th atHead d) := by
  unfold Machine.joinReady
  exact Tame.dspCounts (Tame.ite h.modDsp.setN.spillReady (Tame.ite (by
    split
    · exact h.modDsp.setN.spillReady
    · exact h.modDsp.setN) h.modDsp.setN))

theorem Tame.leaveReady {th : Nat} (h : Tame ps e d) [Fact (.dsp ∈ ps)] :
    Tame ps e (leaveReady th d) := h.modDsp.setN.dspCounts

theorem Tame.makeReady {th : Nat} (h : Tame ps e d) [Fact (.dsp ∈ ps)] :
    Tame ps e (makeReady th d) := h.wrapInc.sat.joinReady.nextRefresh

theorem Tame.dspExtFree {th wake flags : Nat} (h : Tame ps e d) [Fact (.free ∈ ps)] :
    Tame ps e (dspExtFree th wake flags d).2 := by
  unfold Machine.dspExtFree
  exact Tame.snd h.draw

theorem Tame.clearWait {th : Nat} (h : Tame ps e d) [Fact (.dsp ∈ ps)] :
    Tame ps e (clearWait th d).2 := by
  unfold Machine.clearWait
  exact Tame.snd h.modDsp.setN.setN.setN.setN.setN.dspCounts

theorem Tame.wakeThread {t : Time} {th wake status earg : Nat} (h : Tame ps e d) [Fact (.hif ∈ ps)] [Fact (.dsp ∈ ps)] :
    Tame ps e (wakeThread t th wake status earg d) := by
  unfold Machine.wakeThread
  split
  · exact h
  · exact h.clearWait.endStarted.makeReady

theorem Tame.blockThread {th wake status : Nat} (h : Tame ps e d) [Fact (.hif ∈ ps)] [Fact (.dsp ∈ ps)] [Fact
    (.free ∈ ps)] :
    Tame ps e (blockThread th wake status d) := by
  unfold Machine.blockThread
  dsimp only
  split
  · exact h
  · exact h.clearWait.dspExtFree.setN.endStarted

theorem Tame.timedFire {e₀ : Dev} {t : Time} {late : Nat} {e : TimedEnt} (h : Tame ps e₀ d) [Fact (.hif ∈ ps)]
    [Fact (.dsp ∈ ps)] [Fact (.free ∈ ps)] :
    Tame ps e₀ (timedFire t late e d) := by
  unfold Machine.timedFire
  dsimp only
  split
  · exact Tame.ite (Tame.blockThread (Tame.ite h.modDsp.dspCounts.sat.cause
      (Tame.ite h.modDsp.dspCounts.sat.cause h.modDsp.dspCounts))) (Tame.wakeThread (Tame.ite h.modDsp.dspCounts.sat.cause
      (Tame.ite h.modDsp.dspCounts.sat.cause h.modDsp.dspCounts)))
  · exact Tame.ite (Tame.endStarted (Tame.dspExtFree (Tame.ite h.modDsp.dspCounts.sat.cause
      (Tame.ite h.modDsp.dspCounts.sat.cause h.modDsp.dspCounts)))) (Tame.endStarted (Tame.setN
      (Tame.ite h.modDsp.dspCounts.sat.cause (Tame.ite h.modDsp.dspCounts.sat.cause h.modDsp.dspCounts))))

theorem Tame.holdTimed {e₀ x : Dev} {t : Time} {e : TimedEnt} (h : Tame ps e₀ d) (hx : holdTimed t e d = some x)
    [Fact (.dsp ∈ ps)] : Tame ps e₀ x := by
  have hmark : ∀ {y own}, Tame ps e₀ y → Tame ps e₀ (match own with
      | TimedOwner.thread th => y.setN Reg.T_THSTAT.SPILLED th 1
      | TimedOwner.timer _ _ _ => y) := by
    intro y own hy
    split
    · exact hy.setN
    · exact hy
  unfold Machine.holdTimed at hx
  dsimp only at hx
  split at hx
  · cases hx
    exact h.modDsp.dspCounts
  · split at hx
    · cases hx
    · split at hx
      · cases hx
        exact h.modDsp.dspCounts
      · split at hx
        · cases hx
          exact (hmark (h.spillNote.modDsp)).dspCounts
        · cases hx
          exact (hmark (h.spillNote.modDsp.modDsp)).dspCounts

theorem Tame.dspDone {t : Time} {n : Nat} {h : Taken} {status wake earg : Nat} {ready : Bool} (ht : Tame ps e d)
    [Fact (.hif ∈ ps)] [Fact (.free ∈ ps)] :
    Tame ps e (dspDone t n h status wake earg ready d) := by
  unfold Machine.dspDone
  dsimp only
  exact Tame.ite ht.completeHead ht.dspExtFree.completeHead

theorem Tame.dspOp {t : Time} {n op : Nat} {f : Taken → Dev → Dev} (h : Tame ps e d)
    (hf : ∀ k x, Tame ps e x → Tame ps e (f k x)) [Fact (.hif ∈ ps)] [Fact (.free ∈ ps)] :
    Tame ps e (dspOp t n op f d) := by
  unfold Machine.dspOp
  split
  · exact h
  · exact Tame.ite h.dspDone (Tame.ite h.dspDone (hf _ _ h))

theorem Tame.leaveCur {th : Nat} (h : Tame ps e d) :
    Tame ps e (leaveCur th d) := Tame.ite h.setN.setN h

theorem Tame.dspReady {t : Time} {n : Nat} (h : Tame ps e d) [Fact (.hif ∈ ps)] [Fact (.dsp ∈ ps)] [Fact (.free ∈ ps)] :
    Tame ps e (dspReady t n d) :=
  h.dspOp (fun _ _ h0 => Tame.ite h0.makeReady.dspDone (Tame.ite h0.wakeThread.dspDone h0.dspDone))

theorem Tame.leaveRun {th : Nat} (h : Tame ps e d) [Fact (.dsp ∈ ps)] :
    Tame ps e (leaveRun th d) := Tame.ite h.leaveReady h.leaveCur

theorem Tame.beginWait {t : Time} {n : Nat} {h : Taken} {kind state : Nat} (ht : Tame ps e d) [Fact (.hif ∈ ps)]
    [Fact (.dsp ∈ ps)] :
    Tame ps e (beginWait t n h kind state d) := by
  unfold Machine.beginWait
  exact ht.startHead.leaveRun.modDsp.setN.setN.nextRefresh

theorem Tame.waitTimed {t : Time} {n : Nat} {k : Taken} {begin_ : Dev → Dev} (h : Tame ps e d)
    (hf : ∀ x, Tame ps e x → Tame ps e (begin_ x)) [Fact (.hif ∈ ps)] [Fact (.dsp ∈ ps)] [Fact (.free ∈ ps)] :
    Tame ps e (waitTimed t n k begin_ d) := by
  unfold Machine.waitTimed
  refine .ite (hf _ h).timedFire ?_
  split
  · exact h.sat.cause.dspDone
  · next hx => exact (hf _ (h.holdTimed hx)).setN

theorem Tame.dspDelay {t : Time} {n : Nat} (h : Tame ps e d) [Fact (.hif ∈ ps)] [Fact (.dsp ∈ ps)] [Fact (.free ∈ ps)] :
    Tame ps e (dspDelay t n d) := h.dspOp (fun _ _ h0 => Tame.ite (h0.waitTimed (fun _ h2 => h2.beginWait)) h0.dspDone)

theorem Tame.dspWait {t : Time} {n : Nat} (h : Tame ps e d) [Fact (.hif ∈ ps)] [Fact (.dsp ∈ ps)] [Fact (.free ∈ ps)] :
    Tame ps e (dspWait t n d) := by
  unfold Machine.dspWait
  exact h.dspOp (fun _ _ h0 => Tame.ite h0.dspDone (by
    split
    · exact h0.beginWait.setN.wakeThread
    · exact Tame.ite (h0.waitTimed (fun _ h7 => h7.beginWait.setN.setN)) h0.beginWait.setN))

theorem Tame.dspCancel {t : Time} {n : Nat} (h : Tame ps e d) [Fact (.hif ∈ ps)] [Fact (.dsp ∈ ps)] [Fact (.free ∈ ps)] :
    Tame ps e (dspCancel t n d) :=
  h.dspOp (fun _ _ h0 => Tame.ite h0.dspDone (Tame.dspDone (Tame.nextRefresh (Tame.ite h0.blockThread h0.leaveRun.setN))))

theorem Tame.dspSetPrio {t : Time} {n : Nat} (h : Tame ps e d) [Fact (.hif ∈ ps)] [Fact (.dsp ∈ ps)] [Fact (.free ∈ ps)] :
    Tame ps e (dspSetPrio t n d) :=
  h.dspOp (fun _ _ h0 => Tame.ite h0.dspDone (Tame.dspDone (Tame.nextRefresh
    (Tame.ite h0.leaveReady.setN.joinReady h0.setN))))

theorem Tame.dspTimer {t : Time} {n : Nat} (h : Tame ps e d) [Fact (.hif ∈ ps)] [Fact (.dsp ∈ ps)] [Fact (.free ∈ ps)] :
    Tame ps e (dspTimer t n d) := by
  refine h.dspOp fun k x hx => .ite hx.startHead.timedFire ?_
  split
  · exact hx.sat.cause.dspDone
  · next hs => exact (hx.holdTimed hs).startHead

theorem Tame.dispatchTick {t : Time} (h : Tame ps e d) [Fact (.tkp ∈ ps)] [Fact (.hif ∈ ps)] [Fact (.adc ∈ ps)]
    [Fact (.dsp ∈ ps)] [Fact (.free ∈ ps)] :
    Tame ps e (dispatchTick t d) := Tame.ite h (h.modDsp.foldl fun _ _ h5 => h5.timedFire)

theorem Tame.dspClose {t : Time} {inst : Nat} (h : Tame ps e d) [Fact (.hif ∈ ps)] [Fact (.dsp ∈ ps)] :
    Tame ps e (dspClose t inst d) := by
  unfold Machine.dspClose
  exact Tame.ite h (h.foldl fun _ _ h1 => by
    split
    · exact Tame.ite h1.wakeThread h1
    · exact h1)

theorem Tame.dspAlarm {t : Time} {rule : Nat} {rising : Bool} (h : Tame ps e d) [Fact (.hif ∈ ps)] [Fact (.dsp ∈ ps)] :
    Tame ps e (dspAlarm t rule rising d) := by
  unfold Machine.dspAlarm
  exact Tame.ite h (h.foldl fun _ _ h1 => by
    split
    · exact Tame.ite h1.wakeThread h1
    · exact h1)

theorem Tame.dspTake {p : Path} {c : Nat} (h : Tame ps e d) [Fact (.paths ∈ ps)] [Fact (.dsp ∈ ps)] :
    Tame ps e (dspTake p c d) :=
  Tame.ite h.answer (Tame.answer (Tame.nextRefresh (Tame.setN (Tame.setN (Tame.setN
    (Tame.ite h.leaveReady.setN.joinReady.sat h.leaveReady.setN))))))

theorem Tame.fetchTimed {e₀ : Dev} {e : TimedEnt} {ok : Bool} (h : Tame ps e₀ d) [Fact (.hif ∈ ps)] [Fact (.dsp ∈ ps)]
    [Fact (.free ∈ ps)] :
    Tame ps e₀ (fetchTimed e ok d) := by
  unfold Machine.fetchTimed
  dsimp only
  exact Tame.ite (by
    split
    · exact h.modDsp.setN
    · exact h.modDsp) (by
    split
    · exact h.modDsp.cause.blockThread
    · exact h.modDsp.cause.dspExtFree.endStarted)

theorem Tame.fetchReady {th : Nat} {ok : Bool} (h : Tame ps e d) [Fact (.dsp ∈ ps)] :
    Tame ps e (fetchReady th ok d) := Tame.ite h.modDsp.setN.nextRefresh h.leaveReady.setN.cause

theorem Tame.spillFetch {t : Time} {ok : Bool} (h : Tame ps e d) [Fact (.hif ∈ ps)] [Fact (.dsp ∈ ps)] [Fact (.free ∈ ps)] :
    Tame ps e (spillFetch t ok d) := by
  unfold Machine.spillFetch
  dsimp only
  exact Tame.ite h (by
    split
    · exact h.fetchTimed.dspCounts
    · exact Tame.ite (by
      split
      · exact h.fetchReady.dspCounts
      · exact h) h)

theorem Tame.dspRej (h : Tame ps e d) :
    Tame ps e (dspRej d) := h.cause

theorem Tame.threadValidate {th : Nat} {v : Word32} (h : Tame ps e d) :
    Tame ps e (threadValidate th v d) :=
  Tame.ite (Tame.ite h.dspRej (Tame.ite h.setN.setN.dspRej h.setN.setN.setN.setN)) (Tame.ite h.setN.setN
    (Tame.ite h.setN.setN.setN.setN h.dspRej))

theorem Tame.dspAbort {which : Nat → Bool} (h : Tame ps e d) [Fact (.hif ∈ ps)] [Fact (.dsp ∈ ps)] [Fact (.free ∈ ps)] :
    Tame ps e (dspAbort which d) := by
  unfold Machine.dspAbort
  dsimp only
  exact ((h.foldl fun _ _ h4 => by
    split
    · exact Tame.ite h4.blockThread h4
    · exact h4).foldl fun _ _ h3 => by
    split
    · exact Tame.ite h3.dspExtFree.modDsp.endStarted h3
    · exact h3).dspCounts

theorem Tame.dspRingEnd {n : Nat} (h : Tame ps e d) [Fact (.hif ∈ ps)] [Fact (.dsp ∈ ps)] [Fact (.free ∈ ps)] :
    Tame ps e (dspRingEnd n d) := h.dspAbort

theorem Tame.dspFree (h : Tame ps e d) [Fact (.dsp ∈ ps)] :
    Tame ps e (dspFree d) :=
  Tame.dspCounts (Tame.set (Tame.foldl
    ((h.foldl fun _ _ h6 => Tame.ite h6.setN.setN.setN.setN.setN.setN.setN h6).dsp)
    fun _ _ h4 => h4.setN.setN.setN.setN.setN))

/-! ## Rules -/

theorem Tame.modRul {f : Rul → Rul} (h : Tame ps e d) [Fact (.rul ∈ ps)] :
    Tame ps e (Dev.modRul d f) := h.rul

theorem Tame.rulRej (h : Tame ps e d) :
    Tame ps e (rulRej d) := h.cause

theorem Tame.noteDiff {kind idx : Nat} (h : Tame ps e d) [Fact (.rul ∈ ps)] :
    Tame ps e (noteDiff kind idx d) := Tame.ite h.modRul h.modRul.modRul.set.set

theorem Tame.pushEdge {e₀ : Dev} {e : Edge} (h : Tame ps e₀ d) [Fact (.rul ∈ ps)] :
    Tame ps e₀ (pushEdge e d) := h.modRul

theorem Tame.integRaise {t : Time} (h : Tame ps e d) [Fact (.hif ∈ ps)] [Fact (.rul ∈ ps)] [Fact (.free ∈ ps)] :
    Tame ps e (integRaise t d) := Tame.ite h.draw.draw.raise.event.modRul.set h.draw.draw.raise.event.modRul.set.pushEdge

theorem Tame.setCopy1 {a : Nat} {w : Word32} (h : Tame ps e d) [Fact (.rul ∈ ps)] :
    Tame ps e (setCopy1 a w d) := h.modRul

theorem Tame.tableUpset {u : Upset} (h : Tame ps e d) [Fact (.rul ∈ ps)] :
    Tame ps e (tableUpset u d) :=
  Tame.ite h (Tame.ite (Tame.modRul (Tame.ite h.setCopy1 h.rput.setCopy1)) (Tame.ite h.setCopy1 h.rput.setCopy1))

theorem Tame.bothCopies {a : Nat} (h : Tame ps e d) [Fact (.rul ∈ ps)] :
    Tame ps e (bothCopies a d) := h.modRul

theorem Tame.repairWord {a : Nat} {w1 : Word32} (h : Tame ps e d) [Fact (.rul ∈ ps)] :
    Tame ps e (repairWord a w1 d) := by
  unfold Machine.repairWord
  split
  · exact h.rput.bothCopies
  · exact h.bothCopies
  · exact h

theorem Tame.tableCopyCheck {t : Time} {ups : List Upset} (h : Tame ps e d) [Fact (.hif ∈ ps)] [Fact (.rul ∈ ps)]
    [Fact (.free ∈ ps)] :
    Tame ps e (tableCopyCheck t ups d) :=
  Tame.ite (h.foldl fun _ _ h2 => h2.tableUpset) (Tame.ite
    ((h.foldl fun _ _ h5 => h5.tableUpset).foldl fun _ _ h4 => h4.repairWord) (Tame.integRaise (Tame.modRul (Tame.noteDiff
    (((h.foldl fun _ _ h11 => h11.tableUpset).foldl fun _ _ h10 => h10.repairWord).draw)))))

theorem Tame.alarmRecord {e₀ : Dev} {e : Edge} (h : Tame ps e₀ d) [Fact (.hif ∈ ps)] [Fact (.rul ∈ ps)] :
    Tame ps e₀ (alarmRecord e d) := by
  unfold Machine.alarmRecord
  exact Tame.ite h (Tame.ite h.sat.cause.modRul (by
    split
    · exact Tame.modRul ((Tame.ofPair h.deliver ‹_›))
    · exact (Tame.ofPair h.deliver ‹_›)
    · exact Tame.modRul (Tame.cause (Tame.sat ((Tame.ofPair h.deliver ‹_›))))))

theorem Tame.integAck {t : Time} (h : Tame ps e d) [Fact (.hif ∈ ps)] [Fact (.rul ∈ ps)] :
    Tame ps e (integAck t d) := Tame.ite h h.modRul.alarmRecord

theorem Tame.ruleAck {t : Time} {r : Nat} (h : Tame ps e d) [Fact (.hif ∈ ps)] [Fact (.rul ∈ ps)] :
    Tame ps e (ruleAck t r d) := Tame.ite h h.modRul.setN.alarmRecord

theorem Tame.stepItem {α : Type} [Inhabited α] [DecidableEq α] {get : EngV → FMap α} {put : EngV → FMap α → EngV}
    {f : Bool → EngV → Nat → α} {hit : Nat → α → α} {same : α → α → Bool} {kind : Nat} {ups : List Upset} {i : Nat}
    (h : Tame ps e d) [Fact (.rul ∈ ps)] :
    Tame ps e (stepItem get put f hit same kind ups i d) := Tame.ite h.modRul h.modRul.noteDiff

theorem Tame.stepArea {ups : List Upset} {i : Nat} (h : Tame ps e d) [Fact (.rul ∈ ps)] :
    Tame ps e (stepArea ups i d) := h.stepItem

theorem Tame.stepPair {ups : List Upset} {i : Nat} (h : Tame ps e d) [Fact (.rul ∈ ps)] :
    Tame ps e (stepPair ups i d) := h.stepItem

theorem Tame.stepIslands {ups : List Upset} (h : Tame ps e d) [Fact (.rul ∈ ps)] :
    Tame ps e (stepIslands ups d) := h.modRul.foldl fun _ _ h2 => Tame.ite h2 h2.noteDiff

theorem Tame.stepDet {ups : List Upset} {due : List Nat} {i : Nat} (h : Tame ps e d) [Fact (.rul ∈ ps)] :
    Tame ps e (stepDet ups due i d) := h.stepItem

theorem Tame.stepRule {ups : List Upset} {k : Nat} {due : List Nat} {i : Nat} (h : Tame ps e d) [Fact (.rul ∈ ps)] :
    Tame ps e (stepRule ups k due i d) := h.stepItem

theorem Tame.decideRule {t : Time} {was : Bool} {r : Nat} (h : Tame ps e d) [Fact (.rul ∈ ps)] :
    Tame ps e (decideRule t was r d) := Tame.ite h h.pushEdge

theorem Tame.passRule {t : Time} {ups : List Upset} {k : Nat} {due : List Nat} {r : Nat} (h : Tame ps e d)
    [Fact (.rul ∈ ps)] :
    Tame ps e (passRule t ups k due r d) := by
  unfold Machine.passRule
  exact Tame.ite (Tame.decideRule (Tame.stepRule (by
    split
    · exact h.pushEdge
    · exact h))) (by
    split
    · exact h.pushEdge
    · exact h)

theorem Tame.copyBack (h : Tame ps e d) [Fact (.rul ∈ ps)] :
    Tame ps e (copyBack d) := h.foldl fun _ _ h0 => h0.modRul

theorem Tame.showArea {a : Nat} (h : Tame ps e d) :
    Tame ps e (showArea a d) := h.setB.setN.setN.setN.setN

theorem Tame.showPair {k : Nat} (h : Tame ps e d) :
    Tame ps e (showPair k d) := h.setN.setB.setN.setN.setN.setN

theorem Tame.showDet {q : Nat} (h : Tame ps e d) :
    Tame ps e (showDet q d) := h.setN.setB.setN.setN.setN.setN

theorem Tame.showRule {r : Nat} (h : Tame ps e d) :
    Tame ps e (showRule r d) := h.setB.setB.setB.setN.setN.setB.setN

theorem Tame.overList {l : List Nat} {f : Nat → Dev → Dev} (h : Tame ps e d) (hf : ∀ k x, Tame ps e x → Tame ps e (f k x)) :
    Tame ps e (overList l f d) := h.foldl fun _ _ h0 => hf _ _ h0

theorem Tame.overAll {n : Nat} {f : Nat → Dev → Dev} (h : Tame ps e d) (hf : ∀ k x, Tame ps e x → Tame ps e (f k x)) :
    Tame ps e (overAll n f d) := h.foldl fun _ _ h0 => hf _ _ h0

theorem Tame.countEdges {from_ : Nat} (h : Tame ps e d) :
    Tame ps e (countEdges from_ d) := by
  unfold Machine.countEdges
  exact h.foldl fun _ _ h0 => by
    split
    · exact h0.sat.cause.setN.wrapInc
    · exact h0

theorem Tame.skipSpread {t : Time} {k : Nat} {due : List Nat} (h : Tame ps e d) [Fact (.hif ∈ ps)] [Fact (.hmp ∈ ps)]
    [Fact (.rul ∈ ps)] [Fact (.mdl ∈ ps)] [Fact (.free ∈ ps)] :
    Tame ps e (skipSpread t k due d) := by
  unfold Machine.skipSpread
  exact ((h.modRul.overList (fun _ _ h4 => h4.showPair)).overList (fun _ _ h3 => h3.showDet)).modalSpread

theorem Tame.takeRegions {k : Nat} {due : List Nat} (h : Tame ps e d) [Fact (.hmp ∈ ps)] [Fact (.rul ∈ ps)]
    [Fact (.free ∈ ps)] :
    Tame ps e (takeRegions k due d) := by
  unfold Machine.takeRegions
  exact h.readRegions.modRul

theorem Tame.passSteps {t : Time} {ups : List Upset} {k : Nat} {due : List Nat} (h : Tame ps e d) [Fact (.rul ∈ ps)] :
    Tame ps e (passSteps t ups k due d) := by
  unfold Machine.passSteps
  exact Tame.modRul (Tame.overList (Tame.ite (Tame.overList (Tame.ite (((h.overAll (fun _ _ h9 => h9.stepArea)).overList
    (fun _ _ h8 => h8.stepPair)).stepIslands) h) (fun _ _ h5 => h5.stepDet)) (Tame.ite (((h.overAll
    (fun _ _ h8 => h8.stepArea)).overList (fun _ _ h7 => h7.stepPair)).stepIslands) h)) (fun _ _ h3 => h3.passRule))

theorem Tame.passInteg {t : Time} {q0 : List Edge} (h : Tame ps e d) [Fact (.hif ∈ ps)] [Fact (.rul ∈ ps)]
    [Fact (.free ∈ ps)] :
    Tame ps e (passInteg t q0 d) :=
  Tame.ite (Tame.ite h.modRul.set.pushEdge h) h.modRul.integRaise.modRul.copyBack.modRul.sat.sat

theorem Tame.groupingChange {before : List Nat} (h : Tame ps e d) [Fact (.free ∈ ps)] :
    Tame ps e (groupingChange before d) := Tame.ite h h.draw.draw.raise.event

theorem Tame.rulePass {t : Time} {ups : List Upset} (h : Tame ps e d) [Fact (.hif ∈ ps)] [Fact (.hmp ∈ ps)]
    [Fact (.rul ∈ ps)] [Fact (.mdl ∈ ps)] [Fact (.free ∈ ps)] :
    Tame ps e (rulePass t ups d) := by
  unfold Machine.rulePass
  dsimp only
  split
  · exact h
  · exact Tame.foldl (Tame.modalSpread (Tame.set (Tame.set (Tame.sat (Tame.ite (Tame.groupingChange (Tame.overList
      (Tame.overList (Tame.overList (Tame.overAll (Tame.countEdges (Tame.modRul (Tame.passInteg
      (((h.modRul.foldl fun _ _ h29 => h29.tableUpset).takeRegions).passSteps)))) (fun _ _ h23 => h23.showArea))
      (fun _ _ h22 => h22.showPair)) (fun _ _ h21 => h21.showDet)) (fun _ _ h20 => h20.showRule))) (Tame.overList
      (Tame.overList (Tame.overList (Tame.overAll (Tame.countEdges (Tame.modRul (Tame.passInteg
      (((h.modRul.foldl fun _ _ h28 => h28.tableUpset).takeRegions).passSteps)))) (fun _ _ h22 => h22.showArea))
      (fun _ _ h21 => h21.showPair)) (fun _ _ h20 => h20.showDet))
      (fun _ _ h19 => h19.showRule))))))) fun _ _ h13 => h13.skipSpread

theorem Tame.putValid {a : Nat} {w : Word32} {v : Bool} (h : Tame ps e d) [Fact (.rul ∈ ps)] :
    Tame ps e (putValid a w v d) := h.putWord.bothCopies

theorem Tame.writeValid {a : Nat} {v : Word32} {ok : Dev → Bool} {made dropped : Dev → Dev} (h : Tame ps e d)
    (hf : ∀ x, Tame ps e x → Tame ps e (made x)) (hf2 : ∀ x, Tame ps e x → Tame ps e (dropped x)) [Fact (.rul ∈ ps)] :
    Tame ps e (writeValid a v ok made dropped d) :=
  Tame.ite (Tame.ite (hf2 _ h.putValid) h.putValid) (Tame.ite (Tame.ite h.putValid (hf _ h.putValid))
    (Tame.ite h.rulRej h.putValid.rulRej))

theorem Tame.setRule {r : Nat} {v : RuleV} (h : Tame ps e d) [Fact (.rul ∈ ps)] :
    Tame ps e (setRule r v d) := h.modRul.showRule

theorem Tame.ruleValidate {r : Nat} {v : Word32} (h : Tame ps e d) [Fact (.rul ∈ ps)] :
    Tame ps e (ruleValidate r v d) :=
  h.writeValid (fun _ h0 => h0.setRule.setN.setN) (fun _ h0 => Tame.setRule (Tame.ite h0.modRul h0))

theorem Tame.areaValidate {a : Nat} {v : Word32} (h : Tame ps e d) [Fact (.rul ∈ ps)] :
    Tame ps e (areaValidate a v d) := Tame.ite h.rulRej (h.writeValid (fun _ h1 => h1) (fun _ h1 => h1))

theorem Tame.setDet {q : Nat} {v : DetV} (h : Tame ps e d) [Fact (.rul ∈ ps)] :
    Tame ps e (setDet q v d) := h.modRul.showDet

theorem Tame.detectorValidate {q : Nat} {v : Word32} (h : Tame ps e d) [Fact (.rul ∈ ps)] :
    Tame ps e (detectorValidate q v d) := h.writeValid (fun _ h0 => h0.setDet) (fun _ h0 => h0.setDet)

theorem Tame.pinUpdate {t : Time} {n : Nat} (h : Tame ps e d) [Fact (.rul ∈ ps)] :
    Tame ps e (pinUpdate t n d) := h.modRul.setB

theorem Tame.pinsUpdate {t : Time} (h : Tame ps e d) [Fact (.rul ∈ ps)] :
    Tame ps e (pinsUpdate t d) := h.overAll (fun _ _ h0 => h0.pinUpdate)

theorem Tame.pinRise {t : Time} {n : Nat} (h : Tame ps e d) [Fact (.rul ∈ ps)] :
    Tame ps e (pinRise t n d) := by
  unfold Machine.pinRise
  split
  · exact Tame.ite h h.modRul
  · exact h.modRul
  · exact h

theorem Tame.pinsEdge {e₀ : Dev} {t : Time} {e : Edge} (h : Tame ps e₀ d) [Fact (.rul ∈ ps)] :
    Tame ps e₀ (pinsEdge t e d) := by
  unfold Machine.pinsEdge
  exact Tame.pinsUpdate (by
    split
    · exact Tame.ite (h.overAll (fun _ _ h4 => Tame.ite h4.pinRise h4)) h
    · exact h)

theorem Tame.pinRelease {t : Time} {n : Nat} (h : Tame ps e d) [Fact (.rul ∈ ps)] :
    Tame ps e (pinRelease t n d) := h.modRul.pinUpdate

theorem Tame.gooseDrop (h : Tame ps e d) :
    Tame ps e (gooseDrop d) := h.sat.cause

theorem Tame.tmplQueue {m : Nat} {fs : List (List Byte)} (h : Tame ps e d) [Fact (.hif ∈ ps)] [Fact (.ports ∈ ps)]
    [Fact (.pairs ∈ ps)] :
    Tame ps e (tmplQueue m fs d) := Tame.ite h.queueFrames.sat h.gooseDrop

theorem Tame.tmplRouted {m : Nat} {b : List Byte} {auth : Nat} {key : Option Nat} (h : Tame ps e d) [Fact (.hif ∈ ps)]
    [Fact (.ports ∈ ps)] [Fact (.pairs ∈ ps)] [Fact (.rul ∈ ps)] :
    Tame ps e (tmplRouted m b auth key d) := by
  unfold Machine.tmplRouted
  dsimp only
  split
  · exact h.modRul.tmplQueue
  · exact h.modRul.gooseDrop

theorem Tame.tmplSend {t : Time} {m : Nat} (h : Tame ps e d) [Fact (.hif ∈ ps)] [Fact (.ports ∈ ps)] [Fact (.pairs ∈ ps)]
    [Fact (.keys ∈ ps)] [Fact (.rul ∈ ps)] :
    Tame ps e (tmplSend t m d) := by
  unfold Machine.tmplSend
  exact Tame.ite h (Tame.ite h.tmplQueue (Tame.ite h.tmplRouted (by
    split
    · exact Tame.tmplRouted ((Tame.ofPair h.keyUse ‹_›))
    · exact Tame.gooseDrop ((Tame.ofPair h.keyUse ‹_›)))))

theorem Tame.modTmpl {m : Nat} {f : TmplSt → TmplSt} (h : Tame ps e d) [Fact (.rul ∈ ps)] :
    Tame ps e (modTmpl m f d) := h.modRul

theorem Tame.tmplChange {t : Time} {m inst : Nat} {members : List Bool} (h : Tame ps e d) [Fact (.hif ∈ ps)]
    [Fact (.ports ∈ ps)] [Fact (.pairs ∈ ps)] [Fact (.keys ∈ ps)] [Fact (.rul ∈ ps)] :
    Tame ps e (tmplChange t m inst members d) := h.modTmpl.tmplSend

theorem Tame.tmplEdge {e₀ : Dev} {t : Time} {e : Edge} (h : Tame ps e₀ d) [Fact (.hif ∈ ps)] [Fact (.ports ∈ ps)]
    [Fact (.pairs ∈ ps)] [Fact (.keys ∈ ps)] [Fact (.rul ∈ ps)] :
    Tame ps e₀ (tmplEdge t e d) := h.overAll (fun _ _ h1 => Tame.ite h1 (Tame.ite h1 h1.tmplChange))

theorem Tame.templateEnable {t : Time} {m : Nat} {v : Word32} (h : Tame ps e d) [Fact (.hif ∈ ps)] [Fact (.ports ∈ ps)]
    [Fact (.pairs ∈ ps)] [Fact (.keys ∈ ps)] [Fact (.rul ∈ ps)] :
    Tame ps e (templateEnable t m v d) :=
  Tame.ite (Tame.ite h.rulRej h.putWord) (Tame.ite h.putWord (Tame.ite h.putUnvalid.rulRej h.putWord.modTmpl.tmplSend))

theorem Tame.gooseRetransmit {t : Time} {m : Nat} (h : Tame ps e d) [Fact (.hif ∈ ps)] [Fact (.ports ∈ ps)]
    [Fact (.pairs ∈ ps)] [Fact (.keys ∈ ps)] [Fact (.rul ∈ ps)] :
    Tame ps e (gooseRetransmit t m d) := Tame.ite h.modTmpl.tmplSend h

theorem Tame.edgeToken {e₀ : Dev} {e : Edge} (h : Tame ps e₀ d) [Fact (.hif ∈ ps)] [Fact (.ports ∈ ps)] [Fact (.pairs ∈ ps)]
    [Fact (.keys ∈ ps)] [Fact (.dxl ∈ ps)] :
    Tame ps e₀ (edgeToken e d) := Tame.ite h (Tame.ite h.tokenSend h.tokenSend.sat.cause)

theorem Tame.edgeLog {e₀ : Dev} {e : Edge} (h : Tame ps e₀ d) :
    Tame ps e₀ (edgeLog e d) := by
  unfold Machine.edgeLog
  split
  · exact Tame.ite h.withEvs h
  · exact h

theorem Tame.edgePost {e₀ : Dev} {t : Time} {e : Edge} (h : Tame ps e₀ d) [Fact (.hif ∈ ps)] [Fact (.dsp ∈ ps)]
    [Fact (.cap ∈ ps)] :
    Tame ps e₀ (edgePost t e d) := by
  unfold Machine.edgePost
  split
  · exact Tame.capRule (Tame.ite h.dspAlarm h)
  · exact h

theorem Tame.alarmAction {t : Time} (h : Tame ps e d) [Fact (.hif ∈ ps)] [Fact (.ports ∈ ps)] [Fact (.pairs ∈ ps)]
    [Fact (.keys ∈ ps)] [Fact (.dsp ∈ ps)] [Fact (.dxl ∈ ps)] [Fact (.cap ∈ ps)] [Fact (.rul ∈ ps)] :
    Tame ps e (alarmAction t d) := by
  unfold Machine.alarmAction
  split
  · exact h
  · exact Tame.edgePost (Tame.edgeLog
      (Tame.ite h.modRul.pinsEdge.tmplEdge.edgeToken.alarmRecord h.modRul.pinsEdge.tmplEdge.edgeToken))

theorem Tame.rulTakeMode {t : Time} (h : Tame ps e d) [Fact (.rul ∈ ps)] :
    Tame ps e (rulTakeMode t d) := Tame.ite h h.modRul.pinsUpdate

theorem Tame.rulClose {d0 : Dev} {t : Time} {k inst seq : Nat} {due : List Nat} (h : Tame ps e d0) [Fact (.hif ∈ ps)]
    [Fact (.hmp ∈ ps)] [Fact (.rul ∈ ps)] [Fact (.mdl ∈ ps)] [Fact (.free ∈ ps)] :
    Tame ps e (rulClose t k inst seq due d0) :=
  Tame.ite h (Tame.ite h.modRul.setB.rulTakeMode.modRul.modalSpread
    (Tame.ite h.modRul.setB.rulTakeMode.modRul.set h.modRul.setB.rulTakeMode.modRul.sat.cause))

theorem Tame.hstateWrite {t : Time} {j : Nat} {v : Word32} (h : Tame ps e d) [Fact (.rul ∈ ps)] [Fact (.free ∈ ps)] :
    Tame ps e (hstateWrite t j v d) := by
  unfold Machine.hstateWrite
  split
  · exact h
  · exact h.setN.modRul.foldl fun _ _ h3 => Tame.ite h3 h3.draw.pushEdge.sat.cause
  · exact h.setN

theorem Tame.rulReset (h : Tame ps e d) [Fact (.rul ∈ ps)] :
    Tame ps e (rulReset d) := h.modRul.overAll (fun _ _ h0 => h0.setN)

theorem Tame.rulResume {t : Time} (h : Tame ps e d) [Fact (.hif ∈ ps)] [Fact (.ports ∈ ps)] [Fact (.pairs ∈ ps)]
    [Fact (.keys ∈ ps)] [Fact (.rul ∈ ps)] :
    Tame ps e (rulResume t d) := (h.modRul.setB.overAll (fun _ _ h3 => Tame.ite h3.tmplChange h3)).pinsUpdate

theorem Tame.clockInteg {t : Time} {isl : Nat} (h : Tame ps e d) [Fact (.hif ∈ ps)] [Fact (.rul ∈ ps)] [Fact (.free ∈ ps)] :
    Tame ps e (clockInteg t isl d) := Tame.ite h.pinsUpdate (Tame.ite h.integRaise h)

/-! ## Roll Call -/

theorem Tame.modAln {f : Aln → Aln} (h : Tame ps e d) [Fact (.aln ∈ ps)] :
    Tame ps e (Dev.modAln d f) := h.aln

theorem Tame.alnRej (h : Tame ps e d) :
    Tame ps e (alnRej d) := h.cause

theorem Tame.openCount (h : Tame ps e d) :
    Tame ps e (openCount d) := h.set

theorem Tame.attrWrite {t : Time} {s : Nat} {v : Word32} (h : Tame ps e d) [Fact (.aln ∈ ps)] :
    Tame ps e (attrWrite t s v d) :=
  Tame.ite h.alnRej (Tame.ite h.putWord (Tame.ite h.putWord.modAln h.putWord.modAln.alnRej))

theorem Tame.alnState {s : Nat} (h : Tame ps e d) :
    Tame ps e (alnState s d) := Tame.ite h h.setB

theorem Tame.outRefuse {n st : Nat} (h : Tame ps e d) :
    Tame ps e (outRefuse n st d) := h.setN.setN.setN.setN.cause

theorem Tame.outputEnable {t : Time} {n : Nat} (h : Tame ps e d) [Fact (.aln ∈ ps)] :
    Tame ps e (outputEnable t n d) := Tame.ite h (Tame.ite h.outRefuse h.setN.setN.setN.setB.modAln)

theorem Tame.outputOff {n : Nat} (h : Tame ps e d) :
    Tame ps e (outputOff n d) := h.setN.setN

theorem Tame.outDrop {n : Nat} (h : Tame ps e d) :
    Tame ps e (outDrop n d) := h.sat

theorem Tame.modOut {n : Nat} {f : OutSt → OutSt} (h : Tame ps e d) [Fact (.aln ∈ ps)] :
    Tame ps e (modOut n f d) := h.modAln

theorem Tame.outSend {n : Nat} {payload : List Byte → List Byte} (h : Tame ps e d) [Fact (.hif ∈ ps)] [Fact (.ports ∈ ps)]
    [Fact (.pairs ∈ ps)] [Fact (.aln ∈ ps)] :
    Tame ps e (outSend n payload d) := by
  unfold Machine.outSend
  dsimp only
  split
  · exact h.outDrop
  · exact Tame.ite (Tame.sat (Tame.queueFrames (Tame.ite h h.modOut))) (Tame.outDrop (Tame.ite h h.modOut))

theorem Tame.outBuild {t : Time} {n k : Nat} (h : Tame ps e d) [Fact (.hif ∈ ps)] [Fact (.ports ∈ ps)] [Fact (.pairs ∈ ps)]
    [Fact (.keys ∈ ps)] [Fact (.aln ∈ ps)] :
    Tame ps e (outBuild t n k d) := by
  unfold Machine.outBuild
  exact Tame.ite h.outSend (Tame.ite h.modOut.outSend (by
    split
    · exact Tame.outSend (Tame.modOut ((Tame.ofPair h.keyUse ‹_›)))
    · exact Tame.outDrop ((Tame.ofPair h.keyUse ‹_›))))

theorem Tame.outClose {t : Time} {k n : Nat} (h : Tame ps e d) [Fact (.hif ∈ ps)] [Fact (.ports ∈ ps)] [Fact (.pairs ∈ ps)]
    [Fact (.keys ∈ ps)] [Fact (.aln ∈ ps)] :
    Tame ps e (outClose t k n d) := Tame.ite h.outBuild h

theorem Tame.alnRecord {k : Option Nat} {ring : Nat} {bytes : List Byte} {lost : Dev → Dev} (h : Tame ps e d)
    (hf : ∀ x, Tame ps e x → Tame ps e (lost x)) [Fact (.hif ∈ ps)] [Fact (.aln ∈ ps)] :
    Tame ps e (alnRecord k ring bytes lost d) := by
  unfold Machine.alnRecord
  exact Tame.ite (hf _ h) (by
    split
    · exact hf _ ((Tame.ofPair h.deliver ‹_›))
    · exact (Tame.ofPair h.deliver ‹_›)
    · exact Tame.modAln ((Tame.ofPair h.deliver ‹_›)))

theorem Tame.sprdLost (h : Tame ps e d) :
    Tame ps e (sprdLost d) := h.sat.cause

theorem Tame.patchLost (h : Tame ps e d) :
    Tame ps e (patchLost d) := h.sat.cause

theorem Tame.spreadRecord {t : Time} {k inst reason seq : Nat} {rs : List Region} (h : Tame ps e d) [Fact (.hif ∈ ps)]
    [Fact (.aln ∈ ps)] :
    Tame ps e (spreadRecord t k inst reason seq rs d) := Tame.ite h (h.alnRecord (fun _ h4 => h4.sprdLost))

theorem Tame.latePatch {k : Nat} {g : Region} (h : Tame ps e d) [Fact (.hif ∈ ps)] [Fact (.aln ∈ ps)] [Fact (.free ∈ ps)] :
    Tame ps e (latePatch k g d) := Tame.ite h (h.draw.alnRecord (fun _ h4 => h4.patchLost))

theorem Tame.fillRegion {sp : Spread} {s : Nat} (h : Tame ps e d) [Fact (.hmp ∈ ps)] :
    Tame ps e (fillRegion sp s d) := Tame.ite h.writeRegion (Tame.ite h.setN h.writeRegion.sat)

theorem Tame.dormancy {sp : Spread} {s : Nat} (h : Tame ps e d) :
    Tame ps e (dormancy sp s d) := Tame.ite h.setN.cause h

theorem Tame.deliverClose {t : Time} {sp : Spread} {reason seq : Nat} {rs : List Region} (h : Tame ps e d)
    [Fact (.hif ∈ ps)] [Fact (.hmp ∈ ps)] [Fact (.ports ∈ ps)] [Fact (.pairs ∈ ps)] [Fact (.keys ∈ ps)] [Fact (.aln ∈ ps)]
    [Fact (.dsp ∈ ps)] [Fact (.dxl ∈ ps)] [Fact (.cap ∈ ps)] [Fact (.rul ∈ ps)] [Fact (.mdl ∈ ps)] [Fact (.free ∈ ps)] :
    Tame ps e (deliverClose t sp reason seq rs d) :=
  Tame.dspClose (Tame.ite (Tame.spreadRecord (Tame.capSpread (((h.foldl fun _ _ h15 => h15.outClose).rulClose).modalSpread)
    (fun _ _ _ h12 => Tame.snd h12))) (Tame.relayBuild (Tame.spreadRecord (Tame.capSpread
    (((h.foldl fun _ _ h16 => h16.outClose).rulClose).modalSpread) (fun _ _ _ h13 => Tame.snd h13)))))

theorem Tame.showLast {inst seq : Nat} (h : Tame ps e d) :
    Tame ps e (showLast inst seq d) := h.set.set.set.set

theorem Tame.closeSpread {t : Time} {sp0 : Spread} {reason : Nat} (h : Tame ps e d) [Fact (.hif ∈ ps)] [Fact (.hmp ∈ ps)]
    [Fact (.ports ∈ ps)] [Fact (.pairs ∈ ps)] [Fact (.keys ∈ ps)] [Fact (.aln ∈ ps)] [Fact (.dsp ∈ ps)] [Fact (.dxl ∈ ps)]
    [Fact (.cap ∈ ps)] [Fact (.rul ∈ ps)] [Fact (.mdl ∈ ps)] [Fact (.free ∈ ps)] :
    Tame ps e (closeSpread t sp0 reason d) :=
  Tame.openCount (Tame.deliverClose (Tame.showLast (Tame.ite (Tame.sat (Tame.modAln
    (((h.foldl fun _ _ h18 => h18.fillRegion).foldl fun _ _ h17 => h17.dormancy).readRegions))) (Tame.ite (Tame.sat
    (Tame.modAln (((h.foldl fun _ _ h19 => h19.fillRegion).foldl fun _ _ h18 => h18.dormancy).readRegions))) (Tame.modAln
    (((h.foldl fun _ _ h18 => h18.fillRegion).foldl fun _ _ h17 => h17.dormancy).readRegions))))))

theorem Tame.drainEnd {t : Time} (h : Tame ps e d) [Fact (.aln ∈ ps)] [Fact (.rul ∈ ps)] :
    Tame ps e (drainEnd t d) := Tame.ite h.modAln.set.rulTakeMode h

theorem Tame.closeOverdue {t : Time} {k : Nat} (h : Tame ps e d) [Fact (.hif ∈ ps)] [Fact (.hmp ∈ ps)] [Fact
    (.ports ∈ ps)] [Fact (.pairs ∈ ps)] [Fact (.keys ∈ ps)] [Fact (.aln ∈ ps)] [Fact (.dsp ∈ ps)] [Fact (.dxl ∈ ps)] [Fact
    (.cap ∈ ps)] [Fact (.rul ∈ ps)] [Fact (.mdl ∈ ps)] [Fact (.free ∈ ps)] :
    Tame ps e (closeOverdue t k d) := by
  induction k generalizing d with
  | zero => exact h
  | succ k ih =>
    unfold Machine.closeOverdue
    split
    · exact h
    · exact .ite (ih h.closeSpread) h

theorem Tame.alnSettle {t : Time} {k : Nat} (h : Tame ps e d) [Fact (.hif ∈ ps)] [Fact (.hmp ∈ ps)] [Fact
    (.ports ∈ ps)] [Fact (.pairs ∈ ps)] [Fact (.keys ∈ ps)] [Fact (.aln ∈ ps)] [Fact (.dsp ∈ ps)] [Fact (.dxl ∈ ps)] [Fact
    (.cap ∈ ps)] [Fact (.rul ∈ ps)] [Fact (.mdl ∈ ps)] [Fact (.free ∈ ps)] :
    Tame ps e (alnSettle t k d) := by
  induction k generalizing d with
  | zero => exact h
  | succ k ih =>
    unfold Machine.alnSettle
    split
    · exact h.drainEnd
    · exact .ite (ih h.closeSpread) (.ite (ih h.closeSpread) (.ite (ih h.closeSpread) h))

theorem Tame.settle {t : Time} (h : Tame ps e d) [Fact (.hif ∈ ps)] [Fact (.hmp ∈ ps)] [Fact (.ports ∈ ps)]
    [Fact (.pairs ∈ ps)] [Fact (.keys ∈ ps)] [Fact (.aln ∈ ps)] [Fact (.dsp ∈ ps)] [Fact (.dxl ∈ ps)] [Fact (.cap ∈ ps)]
    [Fact (.rul ∈ ps)] [Fact (.mdl ∈ ps)] [Fact (.free ∈ ps)] :
    Tame ps e (settle t d) := Tame.ite h.alnSettle h

theorem Tame.openSpread {k : Nat} (h : Tame ps e d) [Fact (.aln ∈ ps)] :
    Tame ps e (openSpread k d) := Tame.ite h.modAln h.modAln.openCount

theorem Tame.spreadOpen {t : Time} (h : Tame ps e d) [Fact (.hif ∈ ps)] [Fact (.hmp ∈ ps)] [Fact (.ports ∈ ps)]
    [Fact (.pairs ∈ ps)] [Fact (.keys ∈ ps)] [Fact (.aln ∈ ps)] [Fact (.dsp ∈ ps)] [Fact (.dxl ∈ ps)] [Fact (.cap ∈ ps)]
    [Fact (.rul ∈ ps)] [Fact (.mdl ∈ ps)] [Fact (.free ∈ ps)] :
    Tame ps e (spreadOpen t d) := Tame.ite h.openSpread.modAln.settle h

theorem Tame.cutRecords {which : Option Nat → Bool} {after : Dev → Dev} (h : Tame ps e d)
    (hf : ∀ x, Tame ps e x → Tame ps e (after x)) [Fact (.hif ∈ ps)] [Fact (.aln ∈ ps)] :
    Tame ps e (cutRecords which after d) := by
  unfold Machine.cutRecords
  exact (h.foldl fun _ _ h2 => Tame.ite (hf _ h2.cutEntry) h2).modAln

theorem Tame.slotRelease (h : Tame ps e d) [Fact (.hif ∈ ps)] [Fact (.aln ∈ ps)] :
    Tame ps e (slotRelease d) := by
  unfold Machine.slotRelease
  split
  · exact Tame.ite ((h.cutRecords (fun _ h3 => h3.sprdLost)).modAln) h
  · exact h

theorem Tame.futureReport {s : Nat} (h : Tame ps e d) [Fact (.aln ∈ ps)] :
    Tame ps e (futureReport s d) := by
  unfold Machine.futureReport
  split
  · exact h.sat.modAln
  · exact h.sat

theorem Tame.lateFrame {t : Time} {k : Nat} {b : AlnBlk} (h : Tame ps e d) [Fact (.hif ∈ ps)] [Fact (.aln ∈ ps)]
    [Fact (.free ∈ ps)] :
    Tame ps e (lateFrame t k b d) := Tame.latePatch (Tame.ite h.sat h.sat.modAln.cause)

theorem Tame.revive {k : Nat} {b : AlnBlk} (h : Tame ps e d) [Fact (.aln ∈ ps)] :
    Tame ps e (revive k b d) := Tame.ite h.setN.modAln h

theorem Tame.takeFrame {sp : Spread} {b : AlnBlk} (h : Tame ps e d) [Fact (.hmp ∈ ps)] [Fact (.aln ∈ ps)] :
    Tame ps e (takeFrame sp b d) := Tame.ite h.modAln.sat h.writeRegion.modAln

theorem Tame.arrive {d0 : Dev} {t : Time} {k : Nat} {b : AlnBlk} (h : Tame ps e d0) [Fact (.hif ∈ ps)] [Fact (.hmp ∈ ps)]
    [Fact (.aln ∈ ps)] [Fact (.free ∈ ps)] :
    Tame ps e (arrive t k b d0) := by
  unfold Machine.arrive
  dsimp only
  split
  · exact Tame.ite h.revive.sat h.revive.takeFrame
  · exact Tame.ite h.revive.lateFrame (Tame.ite h.revive.sat.cause (by
    split
    · exact h.revive.openSpread.takeFrame
    · exact h.revive.openSpread))

theorem Tame.alignFrame {t : Time} (h : Tame ps e d) [Fact (.hif ∈ ps)] [Fact (.hmp ∈ ps)] [Fact (.ports ∈ ps)]
    [Fact (.pairs ∈ ps)] [Fact (.keys ∈ ps)] [Fact (.aln ∈ ps)] [Fact (.dsp ∈ ps)] [Fact (.dxl ∈ ps)] [Fact (.cap ∈ ps)]
    [Fact (.rul ∈ ps)] [Fact (.mdl ∈ ps)] [Fact (.free ∈ ps)] :
    Tame ps e (alignFrame t d) := by
  unfold Machine.alignFrame
  split
  · exact h
  · exact Tame.ite h.modAln.closeOverdue (Tame.ite h.modAln.closeOverdue.futureReport (by
    split
    · exact Tame.ite h.modAln.closeOverdue.arrive.settle h.modAln.closeOverdue.sat
    · exact h.modAln.closeOverdue.sat))

theorem Tame.layOut (h : Tame ps e d) :
    Tame ps e (layOut d).2 := by
  unfold Machine.layOut
  exact Tame.foldlSnd h fun _ _ h0 => Tame.snd h0.setN

theorem Tame.outRecheck {t : Time} {n : Nat} (h : Tame ps e d) [Fact (.aln ∈ ps)] :
    Tame ps e (outRecheck t n d) := Tame.ite h (Tame.ite h.outRefuse (Tame.modOut (Tame.ite h.setN.setN h.setN.setN.setN)))

theorem Tame.alnStart {t : Time} (h : Tame ps e d) [Fact (.aln ∈ ps)] [Fact (.rul ∈ ps)] :
    Tame ps e (alnStart t d) := by
  unfold Machine.alnStart
  dsimp only
  exact Tame.ite h.layOut.set.set.set.set.set.cause (Tame.openCount (Tame.ite (Tame.alnRej (Tame.foldl (Tame.rulTakeMode
    (((h.layOut.set.set.set.set.modAln.foldl fun _ _ h21 => h21.outRecheck).set).modRul))
    fun _ _ h17 => h17.setN.setN.alnState)) (Tame.foldl (Tame.rulTakeMode
    (((h.layOut.set.set.set.set.modAln.foldl fun _ _ h20 => h20.outRecheck).set).modRul))
    fun _ _ h16 => h16.setN.setN.alnState)))

theorem Tame.rollCallStart {t : Time} (h : Tame ps e d) [Fact (.aln ∈ ps)] [Fact (.rul ∈ ps)] :
    Tame ps e (rollCallStart t d) := by
  unfold Machine.rollCallStart
  exact Tame.ite h (Tame.ite h.set.alnStart h.set)

theorem Tame.flushAll {t : Time} {k : Nat} (h : Tame ps e d) [Fact (.hif ∈ ps)] [Fact (.hmp ∈ ps)] [Fact
    (.ports ∈ ps)] [Fact (.pairs ∈ ps)] [Fact (.keys ∈ ps)] [Fact (.aln ∈ ps)] [Fact (.dsp ∈ ps)] [Fact (.dxl ∈ ps)] [Fact
    (.cap ∈ ps)] [Fact (.rul ∈ ps)] [Fact (.mdl ∈ ps)] [Fact (.free ∈ ps)] :
    Tame ps e (flushAll t k d) := by
  induction k generalizing d with
  | zero => exact h
  | succ k ih =>
    unfold Machine.flushAll
    split
    · exact h
    · exact ih h.closeSpread

theorem Tame.rollCallStop {t : Time} (h : Tame ps e d) [Fact (.hif ∈ ps)] [Fact (.hmp ∈ ps)] [Fact (.ports ∈ ps)]
    [Fact (.pairs ∈ ps)] [Fact (.keys ∈ ps)] [Fact (.aln ∈ ps)] [Fact (.dsp ∈ ps)] [Fact (.dxl ∈ ps)] [Fact (.cap ∈ ps)]
    [Fact (.rul ∈ ps)] [Fact (.mdl ∈ ps)] [Fact (.free ∈ ps)] :
    Tame ps e (rollCallStop t d) := Tame.rulTakeMode (Tame.set (Tame.set (Tame.modAln (Tame.ite h.flushAll h))))

theorem Tame.alnSplit {t : Time} (h : Tame ps e d) [Fact (.hif ∈ ps)] [Fact (.hmp ∈ ps)] [Fact (.ports ∈ ps)]
    [Fact (.pairs ∈ ps)] [Fact (.keys ∈ ps)] [Fact (.aln ∈ ps)] [Fact (.dsp ∈ ps)] [Fact (.dxl ∈ ps)] [Fact (.cap ∈ ps)]
    [Fact (.rul ∈ ps)] [Fact (.mdl ∈ ps)] [Fact (.free ∈ ps)] :
    Tame ps e (alnSplit t d) := by
  unfold Machine.alnSplit
  exact Tame.ite h (Tame.ite (Tame.ite h.alnStart (Tame.ite h.modAln h)) (Tame.ite h.modAln.settle h))

theorem Tame.alnSource {t : Time} {s : Nat} (h : Tame ps e d) [Fact (.hif ∈ ps)] [Fact (.hmp ∈ ps)] [Fact (.ports ∈ ps)]
    [Fact (.pairs ∈ ps)] [Fact (.keys ∈ ps)] [Fact (.aln ∈ ps)] [Fact (.dsp ∈ ps)] [Fact (.dxl ∈ ps)] [Fact (.cap ∈ ps)]
    [Fact (.rul ∈ ps)] [Fact (.mdl ∈ ps)] [Fact (.free ∈ ps)] :
    Tame ps e (alnSource t s d) :=
  Tame.settle (Tame.alnState (Tame.ite (Tame.alnRej (Tame.ite h.modAln h)) (Tame.ite h.modAln h)))

theorem Tame.alnReset (h : Tame ps e d) [Fact (.aln ∈ ps)] :
    Tame ps e (alnReset d) := by
  unfold Machine.alnReset
  exact ((h.overAll (fun _ _ h3 => Tame.ite h3 h3.setN.setN)).set).modAln

theorem Tame.alnAbort (h : Tame ps e d) [Fact (.hif ∈ ps)] [Fact (.aln ∈ ps)] :
    Tame ps e (alnAbort d) := by
  unfold Machine.alnAbort
  exact (h.cutRecords (fun _ h1 => h1)).alnReset

theorem Tame.alnResume {t : Time} (h : Tame ps e d) [Fact (.aln ∈ ps)] [Fact (.rul ∈ ps)] :
    Tame ps e (alnResume t d) := by
  unfold Machine.alnResume
  exact Tame.ite h.alnStart h

end Sys2Proof.Machine

/-!
PROOFS. What the meanings of the converters, compression and the mailbox services may touch.
-/

namespace Sys2Proof.Machine

open Sys2Proof

variable {ps : List StatePart} {e d : Dev}

/-! ## Converters -/

theorem Tame.modCv {n : Nat} {f : Cv → Cv} (h : Tame ps e d) [Fact (.adc ∈ ps)] :
    Tame ps e (Dev.modCv d n f) := h.adc

theorem Tame.adcRej (h : Tame ps e d) :
    Tame ps e (adcRej d) := h.cause

theorem Tame.refEnable {t : Time} (h : Tame ps e d) [Fact (.adc ∈ ps)] :
    Tame ps e (refEnable t d) := Tame.ite h h.set.adc

theorem Tame.refOff (h : Tame ps e d) [Fact (.adc ∈ ps)] :
    Tame ps e (refOff d) := h.set.adc

theorem Tame.refReady {t : Time} (h : Tame ps e d) :
    Tame ps e (refReady t d) := by
  unfold Machine.refReady
  split
  · exact Tame.ite h.set h
  · exact h

theorem Tame.startStatus {n st : Nat} (h : Tame ps e d) :
    Tame ps e (startStatus n st d) := h.setN

theorem Tame.cvArm {t : Time} {n target tol : Nat} (h : Tame ps e d) [Fact (.adc ∈ ps)] :
    Tame ps e (cvArm t n target tol d) := by
  unfold Machine.cvArm
  split
  · exact h.startStatus.adcRej
  · exact Tame.ite h.setN.startStatus h.setN.set.modCv

theorem Tame.adcGo {t : Time} {n : Nat} (h : Tame ps e d) [Fact (.adc ∈ ps)] :
    Tame ps e (adcGo t n d) := Tame.ite h.adcRej h.cvArm

theorem Tame.enterEntry {e₀ : Dev} {n e : Nat} {first : Option Nat} (h : Tame ps e₀ d) [Fact (.adc ∈ ps)] :
    Tame ps e₀ (enterEntry n e first d) := h.set.setN.modCv

theorem Tame.adcStart {t : Time} {n : Nat} (h : Tame ps e d) [Fact (.adc ∈ ps)] :
    Tame ps e (adcStart t n d) := by
  unfold Machine.adcStart
  dsimp only
  exact Tame.ite h (by
    split
    · exact h
    · exact h.set.set.setN.modCv.enterEntry.startStatus.cause
    · exact h.set.set.setN.modCv.enterEntry.startStatus.cause
    · exact h.set.startStatus.cause)

theorem Tame.adcStop {n : Nat} (h : Tame ps e d) [Fact (.adc ∈ ps)] :
    Tame ps e (adcStop n d) := Tame.ite h.set.startStatus (Tame.ite h.modCv h)

theorem Tame.owedSample {n : Nat} {x : AdcDue} (h : Tame ps e d) [Fact (.adc ∈ ps)] :
    Tame ps e (owedSample n x d) := Tame.ite h h.modCv

theorem Tame.tdc {n : Nat} {dev : Int} (h : Tame ps e d) [Fact (.adc ∈ ps)] :
    Tame ps e (tdc n dev d) := Tame.ite h.setN.setN.modCv.cause h.setN.setN.modCv

theorem Tame.convert {e₀ : Dev} {n e b : Nat} {smp : AdcSample} (h : Tame ps e₀ d) [Fact (.adc ∈ ps)] :
    Tame ps e₀ (convert n e b smp d) :=
  Tame.owedSample (Tame.modCv (Tame.ite (Tame.cause (Tame.ite (Tame.sat (Tame.ite h.tdc.sat.set.cause h.tdc))
    (Tame.ite h.tdc.sat.set.cause h.tdc))) (Tame.ite (Tame.sat (Tame.ite h.tdc.sat.set.cause h.tdc))
    (Tame.ite h.tdc.sat.set.cause h.tdc))))

theorem Tame.cvHalt {n : Nat} (h : Tame ps e d) [Fact (.adc ∈ ps)] :
    Tame ps e (cvHalt n d) := h.set.modCv

theorem Tame.itinAdvance {n k : Nat} (h : Tame ps e d) [Fact (.adc ∈ ps)] :
    Tame ps e (itinAdvance n k d) := by
  induction k generalizing d with
  | zero => exact h
  | succ k ih =>
    unfold Machine.itinAdvance
    refine .ite h ?_
    split
    · exact ih h.enterEntry
    · exact .ite (ih h.wrapInc.enterEntry) (ih h.enterEntry)
    · exact h.cvHalt.cause

theorem Tame.adcSlot {t : Time} {n : Nat} {smp : AdcSample} (h : Tame ps e d) [Fact (.adc ∈ ps)] :
    Tame ps e (adcSlot t n smp d) :=
  Tame.ite h (Tame.ite h.cvHalt (Tame.ite h.itinAdvance (Tame.ite h.itinAdvance.modCv.convert h.itinAdvance.modCv.modCv)))

theorem Tame.diagSend (h : Tame ps e d) [Fact (.hif ∈ ps)] [Fact (.adc ∈ ps)] :
    Tame ps e (diagSend d) := by
  unfold Machine.diagSend
  dsimp only
  exact Tame.ite h (by
    split
    · exact (Tame.ofPair h.adc.deliver ‹_›)
    · exact Tame.addSat ((Tame.ofPair h.adc.deliver ‹_›)))

theorem Tame.diagPut {t : Time} {r : List Byte} (h : Tame ps e d) [Fact (.hif ∈ ps)] [Fact (.adc ∈ ps)] :
    Tame ps e (diagPut t r d) := by
  unfold Machine.diagPut
  dsimp only
  exact Tame.ite h.sat (by
    split
    · exact Tame.ite h.adc.diagSend h.adc
    · exact h.adc)

theorem Tame.laneOffer {t : Time} {n lane : Nat} {code : Option Int} {raw : Word32} {q : Nat} (h : Tame ps e d)
    [Fact (.flt ∈ ps)] :
    Tame ps e (laneOffer t n lane code raw q d) := Tame.ite h.sat.sat h.flt

theorem Tame.adcSampleDeliver {t : Time} {n : Nat} (h : Tame ps e d) [Fact (.hif ∈ ps)] [Fact (.adc ∈ ps)]
    [Fact (.flt ∈ ps)] :
    Tame ps e (adcSampleDeliver t n d) := by
  unfold Machine.adcSampleDeliver
  dsimp only
  split
  · exact h
  · split
    · exact Tame.diagPut (by
      split
      · exact h.modCv.laneOffer
      · exact h.modCv)
    · split
      · exact h.modCv.laneOffer
      · exact h.modCv

theorem Tame.diagFlush {t : Time} (h : Tame ps e d) [Fact (.hif ∈ ps)] [Fact (.adc ∈ ps)] :
    Tame ps e (diagFlush t d) := Tame.ite h.diagSend h

theorem Tame.adcReset (h : Tame ps e d) [Fact (.adc ∈ ps)] :
    Tame ps e (adcReset d) := ((h.foldl fun _ _ h4 => h4.set.set).refOff).adc

theorem Tame.adcResume {t : Time} (h : Tame ps e d) [Fact (.adc ∈ ps)] :
    Tame ps e (adcResume t d) := Tame.foldl (Tame.ite h.adc h) fun _ _ h2 => Tame.ite h2.cvArm h2

/-! ## Compression -/

theorem Tame.setLane {l : Nat} {j : CmpJob} (h : Tame ps e d) [Fact (.cmp ∈ ps)] :
    Tame ps e (setLane l j d) := h.cmp.set

theorem Tame.cmpCount {status : Nat} (h : Tame ps e d) :
    Tame ps e (cmpCount status d) :=
  Tame.ite h.sat (Tame.ite h.sat.sat.cause.sat.cause (Tame.ite h.sat.sat.cause.sat
    (Tame.ite h.sat.sat.cause.cause h.sat.sat.cause)))

theorem Tame.cmpZero {ws : DescWords} (h : Tame ps e d) [Fact (.hif ∈ ps)] :
    Tame ps e (cmpZero ws d) := Tame.ite h h.hostWrite

theorem Tame.cmpRefuse {t : Time} {n : Nat} {h : Taken} {status : Nat} (ht : Tame ps e d) [Fact (.hif ∈ ps)] :
    Tame ps e (cmpRefuse t n h status d) := Tame.completeHead (Tame.cmpCount (Tame.ite ht ht.cmpZero))

theorem Tame.cmpSource {ws : DescWords} {src : List Byte} {slot : Option Nat} (h : Tame ps e d)
    [Fact (.hmp ∈ ps)] [Fact (.free ∈ ps)] : Tame ps e (cmpSource ws src slot d).2.2 := by
  have key : Holds (fun f => ∀ ws src slot d, Tame ps e d → TamePair ps e (f ws src slot d).2) Machine.cmpSource := by
    delta Machine.cmpSource
    delta Holds
    beta_reduce
    intro ws src slot d h
    have hr : ∀ w k, Tame ps e (Machine.hreadMany .engine w k d).2 := fun _ _ => h.hreadMany
    obtain ⟨f, hf⟩ := exists_eq_of Machine.hreadMany
    rw [← hf] at hr ⊢
    cases slot with
    | none => exact h
    | some k => exact hr _ _
  exact key ws src slot d h

theorem Tame.cmpQuadLost {q : Nat} (h : Tame ps e d) [Fact (.cmp ∈ ps)] :
    Tame ps e (cmpQuadLost q d) := h.foldl fun _ _ h0 => Tame.ite h0.setLane h0

theorem Tame.cmpStart {t : Time} {n op : Nat} {src : List Byte} (h : Tame ps e d) [Fact (.hif ∈ ps)] [Fact (.cmp ∈ ps)]
    [Fact (.hmp ∈ ps)] [Fact (.free ∈ ps)] :
    Tame ps e (cmpStart t n op src d) := by
  unfold Machine.cmpStart
  split
  · exact h
  · exact Tame.ite (Tame.ite h.completeHead h) (Tame.ite h.cmpRefuse (Tame.ite h.cmpRefuse (Tame.ite h.cmpRefuse
      (Tame.ite h.cmpRefuse (by
    split
    · exact h
    · exact Tame.ite h h.cmpSource.startHead.setLane)))))

theorem Tame.cmpJobComplete {l : Nat} (h : Tame ps e d) [Fact (.hif ∈ ps)] [Fact (.cmp ∈ ps)] :
    Tame ps e (cmpJobComplete l d) := Tame.ite h (Tame.endStarted (Tame.setLane (Tame.cmpCount (Tame.ite h.hostWrite h))))

theorem Tame.dmaReadFail {t : Time} {n : Nat} {kind : DmaRead} (h : Tame ps e d) [Fact (.hif ∈ ps)] [Fact (.rdr ∈ ps)]
    [Fact (.adc ∈ ps)] :
    Tame ps e (dmaReadFail t n kind d) := by
  unfold Machine.dmaReadFail
  exact Tame.ite h (by
    split
    · exact Tame.ite h h.abortTaken.setN.setN.set.set.cause.cause.ringGone
    · split
      · exact Tame.ite h (Tame.ite (Tame.ite h h.cmpRefuse.cause) h.completeHead.cause)
      · exact h)

theorem Tame.cmpReset (h : Tame ps e d) [Fact (.hif ∈ ps)] [Fact (.cmp ∈ ps)] :
    Tame ps e (cmpReset d) := h.foldl fun _ _ h0 => Tame.ite h0.setLane.endStarted h0

/-! ## The key store -/

theorem Tame.modKeys {f : Keys → Keys} (h : Tame ps e d) [Fact (.keys ∈ ps)] :
    Tame ps e (Dev.modKeys d f) := h.keys

theorem Tame.keyShow {s : Nat} (h : Tame ps e d) :
    Tame ps e (keyShow s d) := by
  unfold Machine.keyShow
  exact Tame.set (Tame.set (by
    split
    · exact Tame.setN (Tame.setN (Tame.setN (by
      split
      · exact Tame.setN (Tame.setN (Tame.setN (by
        split
        · exact h.setN.setN.setN.setN.setN
        · exact h.setN.setB.setB.setN.setN)))
      · exact Tame.setN (Tame.setN (Tame.setN (by
        split
        · exact h.setN.setN.setN.setN.setN
        · exact h.setN.setB.setB.setN.setN))))))
    · exact Tame.setN (Tame.setN (Tame.setB (by
      split
      · exact Tame.setN (Tame.setN (Tame.setN (by
        split
        · exact h.setN.setN.setN.setN.setN
        · exact h.setN.setB.setB.setN.setN)))
      · exact Tame.setN (Tame.setN (Tame.setN (by
        split
        · exact h.setN.setN.setN.setN.setN
        · exact h.setN.setB.setB.setN.setN))))))))

theorem Tame.keyPut {s : Nat} {k : KeySlot} (h : Tame ps e d) [Fact (.keys ∈ ps)] :
    Tame ps e (keyPut s k d) := h.modKeys.keyShow

theorem Tame.mbox {t : Time} {n service cmd : Nat} {f : Taken → Dev → Dev} (h : Tame ps e d)
    (hf : ∀ k x, Tame ps e x → Tame ps e (f k x)) [Fact (.hif ∈ ps)] :
    Tame ps e (mbox t n service cmd f d) := by
  unfold Machine.mbox
  split
  · exact h
  · exact Tame.ite (Tame.ite h.completeHead (Tame.ite h (hf _ _ h))) h

theorem Tame.keyEnd {t : Time} {n : Nat} {h : Taken} {status gen : Nat} (ht : Tame ps e d) [Fact (.hif ∈ ps)] :
    Tame ps e (keyEnd t n h status gen d) := ht.completeHead

theorem Tame.mboxReply {t : Time} {n : Nat} {h : Taken} {bytes : List Byte} {slot gen : Nat} (ht : Tame ps e d)
    [Fact (.hif ∈ ps)] :
    Tame ps e (mboxReply t n h bytes slot gen d) := Tame.ite ht.completeHead ht.hostWrite.completeHead

theorem Tame.keyCmd {t : Time} {n cmd : Nat} {f : Taken → Dev → Dev} (h : Tame ps e d)
    (hf : ∀ k x, Tame ps e x → Tame ps e (f k x)) [Fact (.hif ∈ ps)] :
    Tame ps e (keyCmd t n cmd f d) :=
  h.mbox (fun _ _ h0 => Tame.ite h0 (Tame.ite h0.keyEnd (Tame.ite h0.keyEnd (hf _ _ h0))))

theorem Tame.keyInfo {t : Time} {n : Nat} (h : Tame ps e d) [Fact (.hif ∈ ps)] :
    Tame ps e (keyInfo t n d) := h.keyCmd (fun _ _ h0 => h0.mboxReply)

theorem Tame.keyAttest {t : Time} {n : Nat} {nonce : List Byte} (h : Tame ps e d) [Fact (.hif ∈ ps)] :
    Tame ps e (keyAttest t n nonce d) := h.keyCmd (fun _ _ h0 => Tame.ite h0.keyEnd h0.mboxReply)

theorem Tame.keyCopyStart {t : Time} {n : Nat} {h : Taken} {k : KeyRec} {v : Bool} (ht : Tame ps e d) [Fact (.hif ∈ ps)]
    [Fact (.keys ∈ ps)] :
    Tame ps e (keyCopyStart t n h k v d) := by
  unfold Machine.keyCopyStart
  exact ht.startHead.set.modKeys

theorem Tame.keyArrive {t : Time} {n : Nat} {h : Taken} {b : KeyBody} {k : KeyRec} (ht : Tame ps e d) [Fact (.hif ∈ ps)]
    [Fact (.keys ∈ ps)] :
    Tame ps e (keyArrive t n h b k d) := by
  unfold Machine.keyArrive
  split
  · exact Tame.ite ht.keyEnd (Tame.ite (Tame.ite ht.keyEnd ht.keyCopyStart) ht.keyPut.keyEnd)
  · exact Tame.ite (Tame.ite ht.keyEnd ht.keyCopyStart) ht.keyPut.keyEnd

theorem Tame.keyImport {t : Time} {n : Nat} {b : KeyBody} (h : Tame ps e d) [Fact (.hif ∈ ps)] [Fact (.keys ∈ ps)] :
    Tame ps e (keyImport t n b d) :=
  h.keyCmd (fun _ _ h0 => Tame.ite h0.keyEnd (Tame.ite h0.keyEnd (Tame.ite h0.keyEnd h0.keyArrive)))

theorem Tame.keyDerive {t : Time} {n : Nat} {b : KeyBody} (h : Tame ps e d) [Fact (.hif ∈ ps)] [Fact (.keys ∈ ps)] :
    Tame ps e (keyDerive t n b d) := by
  unfold Machine.keyDerive
  exact h.keyCmd (fun _ _ h0 => Tame.ite h0.keyEnd (by
    split
    · exact h0.keyEnd
    · exact Tame.ite h0.keyEnd h0.keyArrive))

theorem Tame.keyUnwrap {t : Time} {n : Nat} {b : KeyBody} (h : Tame ps e d) [Fact (.hif ∈ ps)] [Fact (.keys ∈ ps)] :
    Tame ps e (keyUnwrap t n b d) := by
  unfold Machine.keyUnwrap
  exact h.keyCmd (fun _ _ h0 => Tame.ite h0.keyEnd (by
    split
    · exact h0.keyEnd
    · exact Tame.ite h0.keyEnd (Tame.ite h0.keyEnd h0.keyArrive)))

theorem Tame.keyCmdEnd {c : KeyCmd} {status : Nat} (h : Tame ps e d) [Fact (.hif ∈ ps)] [Fact (.keys ∈ ps)] :
    Tame ps e (keyCmdEnd c status d) := h.set.modKeys.endStarted

theorem Tame.keyCopyWritten {good : Bool} (h : Tame ps e d) [Fact (.hif ∈ ps)] [Fact (.keys ∈ ps)] :
    Tame ps e (keyCopyWritten good d) := by
  unfold Machine.keyCopyWritten
  split
  · exact h
  · exact Tame.ite h (Tame.ite h.keyPut.keyCmdEnd h.modKeys.keyPut.cause.keyCmdEnd)

theorem Tame.keyActivate {s : Nat} {k : KeyRec} (h : Tame ps e d) [Fact (.keys ∈ ps)] :
    Tame ps e (keyActivate s k d) := h.setN.keyPut.keyRelease

theorem Tame.keyCommit {t : Time} {n : Nat} {good : Bool} (h : Tame ps e d) [Fact (.hif ∈ ps)] [Fact (.keys ∈ ps)] :
    Tame ps e (keyCommit t n good d) := by
  unfold Machine.keyCommit
  dsimp only
  exact h.keyCmd (fun _ _ h0 => by
    split
    · exact h0.keyEnd
    · exact Tame.ite h0.keyEnd (Tame.ite h0.keyActivate.keyEnd (Tame.ite h0.keyEnd
        (Tame.ite h0.modKeys.keyActivate.keyEnd h0.cause.keyEnd))))

theorem Tame.keyErase {t : Time} {n : Nat} (h : Tame ps e d) [Fact (.hif ∈ ps)] [Fact (.keys ∈ ps)] :
    Tame ps e (keyErase t n d) :=
  h.keyCmd (fun _ _ h0 => Tame.ite h0.keyEnd (Tame.ite h0.keyEnd h0.modKeys.setN.keyPut.keyRelease.keyEnd))

theorem Tame.keyPfw (h : Tame ps e d) [Fact (.hif ∈ ps)] [Fact (.keys ∈ ps)] :
    Tame ps e (keyPfw d) := by
  unfold Machine.keyPfw
  split
  · exact h.keyCmdEnd
  · exact h

theorem Tame.keyLoadSlot {s : Nat} (h : Tame ps e d) [Fact (.keys ∈ ps)] :
    Tame ps e (keyLoadSlot d s) := by
  unfold Machine.keyLoadSlot
  dsimp only
  exact Tame.ite (Tame.keyPut (Tame.ite h.modKeys.cause h)) (by
    split
    · exact Tame.keyPut (Tame.ite h.modKeys.cause h)
    · exact Tame.cause (Tame.keyPut (Tame.ite h.modKeys.cause h)))

theorem Tame.keyLoad (h : Tame ps e d) [Fact (.keys ∈ ps)] :
    Tame ps e (keyLoad d) := Tame.ite h.modKeys.set.event.set ((h.modKeys.set.foldl fun _ _ h3 => h3.keyLoadSlot).set)

/-! ## The firmware service -/

theorem Tame.fwStatus {t : Time} {n : Nat} (h : Tame ps e d) [Fact (.hif ∈ ps)] :
    Tame ps e (fwStatus t n d) := h.mbox (fun _ _ h0 => h0.mboxReply)

theorem Tame.fwWrite {t : Time} {n ofs : Nat} {data : List Byte} (h : Tame ps e d) [Fact (.pwr ∈ ps)] [Fact (.hif ∈ ps)] :
    Tame ps e (fwWrite t n ofs data d) :=
  h.mbox (fun _ _ h0 => Tame.ite h0.completeHead (Tame.ite h0.completeHead
    (Tame.ite h0.completeHead h0.modPwr.completeHead)))

theorem Tame.fwCheck {t : Time} {n len : Nat} (h : Tame ps e d) [Fact (.pwr ∈ ps)] [Fact (.hif ∈ ps)] :
    Tame ps e (fwCheck t n len d) :=
  h.mbox (fun _ _ h0 => Tame.ite h0.completeHead (Tame.ite h0.modPwr.mboxReply h0.completeHead))

theorem Tame.updateEnd {status : Nat} (h : Tame ps e d) [Fact (.pwr ∈ ps)] :
    Tame ps e (updateEnd status d) := h.set.set.modPwr.event.cause

theorem Tame.updateFail {t : Time} {slot : Nat} (h : Tame ps e d) [Fact (.pwr ∈ ps)] :
    Tame ps e (updateFail t slot d) := h.modPwr.xaornBoot.updateEnd

theorem Tame.fwActivate {t : Time} {n : Nat} (h : Tame ps e d) [Fact (.pwr ∈ ps)] [Fact (.hif ∈ ps)] :
    Tame ps e (fwActivate t n d) :=
  h.mbox (fun _ _ h0 => Tame.ite h0.completeHead (Tame.ite h0.completeHead
    (Tame.ite h0.set.event.modPwr.completeHead.xaornStart h0.set.event.modPwr.completeHead.updateFail)))

theorem Tame.fwSettings {t : Time} {n : Nat} {body : List Byte} (h : Tame ps e d) [Fact (.pwr ∈ ps)] [Fact (.hif ∈ ps)] :
    Tame ps e (fwSettings t n body d) :=
  h.mbox (fun _ _ h0 => Tame.ite h0.completeHead (Tame.ite h0.completeHead
    (Tame.ite h0.completeHead h0.modPwr.completeHead)))

theorem Tame.xaornReport (h : Tame ps e d) [Fact (.pwr ∈ ps)] :
    Tame ps e (xaornReport d) := Tame.ite h (Tame.ite h.set.modPwr.updateEnd h.set.set)

theorem Tame.updateTimeout {t : Time} (h : Tame ps e d) [Fact (.pwr ∈ ps)] :
    Tame ps e (updateTimeout t d) := Tame.ite h.updateFail h

theorem Tame.lockstepMismatch {t : Time} {pair : Nat} (h : Tame ps e d) [Fact (.pwr ∈ ps)] :
    Tame ps e (lockstepMismatch t pair d) := Tame.ite h.event.cause.sat.set.xaornRestart h

end Sys2Proof.Machine

/-!
PROOFS. What the meanings of the lanes and ingest may touch.
-/

namespace Sys2Proof.Machine

open Sys2Proof

variable {ps : List StatePart} {e d : Dev}

/-! ## Lanes -/

theorem Tame.modLane {n : Nat} {f : LaneSt → LaneSt} (h : Tame ps e d) [Fact (.flt ∈ ps)] :
    Tame ps e (Dev.modLane d n f) := h.flt

theorem Tame.modGroup {n : Nat} {f : GroupSt → GroupSt} (h : Tame ps e d) [Fact (.flt ∈ ps)] :
    Tame ps e (Dev.modGroup d n f) := h.flt

theorem Tame.fltRej (h : Tame ps e d) :
    Tame ps e (fltRej d) := h.cause

theorem Tame.laneState {n st : Nat} (h : Tame ps e d) :
    Tame ps e (laneState n st d) := h.setN.set

theorem Tame.showBudgets (h : Tame ps e d) :
    Tame ps e (showBudgets d) := h.set.set.set

theorem Tame.laneSync {n : Nat} (h : Tame ps e d) [Fact (.flt ∈ ps)] :
    Tame ps e (laneSync n d) := h.modLane.setN.setN.setN.laneState

theorem Tame.laneSyncRequest {n : Nat} (h : Tame ps e d) [Fact (.flt ∈ ps)] :
    Tame ps e (laneSyncRequest n d) := Tame.ite h.laneSync h

theorem Tame.fadeEnd {n : Nat} (h : Tame ps e d) [Fact (.flt ∈ ps)] :
    Tame ps e (fadeEnd n d) := by
  unfold Machine.fadeEnd
  split
  · exact Tame.ite h h.modLane.setN.setN.cause
  · exact h

theorem Tame.swapDone {n st : Nat} (h : Tame ps e d) [Fact (.flt ∈ ps)] :
    Tame ps e (swapDone n st d) := h.modLane.setN.setN

theorem Tame.swapStart {n c : Nat} (h : Tame ps e d) [Fact (.flt ∈ ps)] :
    Tame ps e (swapStart n c d) := by
  unfold Machine.swapStart
  dsimp only
  split
  · exact h
  · exact Tame.ite h (Tame.ite h.swapDone.cause (Tame.ite h.swapDone (Tame.ite
      (Tame.ite h.swapDone.modLane.setN h.swapDone.modLane.setN) (Tame.cause
      (Tame.ite h.swapDone.modLane.setN h.swapDone.modLane.setN)))))

theorem Tame.swapTake {n : Nat} {r : SwapReq} (h : Tame ps e d) [Fact (.flt ∈ ps)] :
    Tame ps e (swapTake n r d).2 := by
  unfold Machine.swapTake
  exact Tame.iteSnd (Tame.snd h.setN) (Tame.snd (Tame.ite h.modLane.setN.setB.set h.modLane.setN.setB))

theorem Tame.swapGo {v : Word32} (h : Tame ps e d) [Fact (.flt ∈ ps)] :
    Tame ps e (swapGo v d) :=
  Tame.ite h.putWord (Tame.ite h.putWord.set (Tame.ite h.putWord.set (Tame.set (Tame.foldlSnd
    (Tame.snd h.putWord) fun _ _ h10 => Tame.iteSnd (Tame.snd h10.swapTake) (Tame.snd h10)))))

theorem Tame.countSat {n k : Nat} (h : Tame ps e d) [Fact (.flt ∈ ps)] :
    Tame ps e (countSat n k d) := Tame.ite h h.addSat.addSat.modLane.cause

theorem Tame.maStage {n k p : Nat} {x : Int × Int} (h : Tame ps e d) [Fact (.flt ∈ ps)] :
    Tame ps e (maStage n k p x d).2 := .iteSnd h h.modLane.countSat

theorem Tame.maChain {n p : Nat} {x : Int × Int} (h : Tame ps e d) [Fact (.flt ∈ ps)] :
    Tame ps e (maChain n p x d).2 := by
  refine Tame.foldlSnd h fun a k ha => ?_
  split
  · exact ha.maStage
  · exact ha

theorem Tame.firStage {n p : Nat} {y : Int × Int} (h : Tame ps e d) [Fact (.flt ∈ ps)] :
    Tame ps e (firStage n p y d).2 := by
  unfold Machine.firStage
  dsimp only
  split
  · exact Tame.iteSnd (Tame.snd (Tame.countSat (Tame.ite h.modLane.fadeEnd.swapStart h.modLane))) (Tame.snd (Tame.modLane
      (Tame.countSat (Tame.ite h.modLane.fadeEnd.swapStart h.modLane))))
  · exact Tame.snd (Tame.countSat (Tame.ite h.modLane.fadeEnd.swapStart h.modLane))

theorem Tame.settleStep {n : Nat} {settling : Bool} (h : Tame ps e d) :
    Tame ps e (settleStep n settling d) := Tame.ite (Tame.ite h.setN.laneState h.setN) h.setN.laneState

theorem Tame.estimate {n : Nat} {x : XVal} (h : Tame ps e d) [Fact (.flt ∈ ps)] :
    Tame ps e (estimate n x d) := by
  unfold Machine.estimate
  dsimp only
  split
  · exact h.setN
  · exact Tame.ite h.setN.settleStep h.setN.settleStep.modLane

theorem Tame.iqSend {n : Nat} (h : Tame ps e d) [Fact (.hif ∈ ps)] [Fact (.flt ∈ ps)] :
    Tame ps e (iqSend n d) := by
  unfold Machine.iqSend
  exact Tame.ite h.sat.cause.modLane (by
    split
    · exact Tame.modLane ((Tame.ofPair h.deliver ‹_›))
    · exact Tame.modLane (Tame.cause (Tame.sat ((Tame.ofPair h.deliver ‹_›)))))

theorem Tame.iqPair {n p q : Nat} {conv : Bool} {y : Int × Int} (h : Tame ps e d) [Fact (.hif ∈ ps)] [Fact (.flt ∈ ps)]
    [Fact (.free ∈ ps)] :
    Tame ps e (iqPair n p q conv y d) :=
  Tame.ite h (Tame.ite (Tame.iqSend (Tame.modLane (Tame.iteSnd h.draw h))) (Tame.modLane (Tame.iteSnd h.draw h)))

theorem Tame.laneFeed {n p : Nat} {s : LaneSmp} (h : Tame ps e d)
    [Fact (.hif ∈ ps)] [Fact (.hmp ∈ ps)] [Fact (.flt ∈ ps)] [Fact (.cap ∈ ps)] [Fact (.free ∈ ps)] :
    Tame ps e (laneFeed n p s d) := by
  have key : Holds (fun f => ∀ n p s d, Tame ps e d → Tame ps e (f n p s d)) Machine.laneFeed := by
    delta Machine.laneFeed
    delta Holds
    beta_reduce
    intro n p s d h
    have hr : ∀ {x d}, Tame ps e d → Tame ps e (Machine.maChain n p x d).2 := fun h => h.maChain
    obtain ⟨f, hf⟩ := exists_eq_of Machine.maChain
    obtain ⟨g, hg⟩ := exists_eq_of mixCs
    rw [← hf] at hr ⊢
    rw [← hg]
    clear hf hg
    extract_lets fs
    split
    extract_lets
    split
    extract_lets
    split
    · next hd => exact Tame.ofPair (hr h.rawWrite.capRaw.modLane.countSat) hd
    · next d4 hd =>
      have h4 : Tame ps e d4 := Tame.ofPair (hr h.rawWrite.capRaw.modLane.countSat) hd
      refine .ite h4.iqPair ?_
      split
      · next hd => exact Tame.ofPair h4.firStage hd
      · next hd => exact (Tame.ofPair h4.firStage hd).modLane.estimate
  exact key n p s d h

theorem Tame.laneRestart {n p : Nat} {s : LaneSmp} (h : Tame ps e d) [Fact (.hif ∈ ps)] [Fact (.hmp ∈ ps)]
    [Fact (.flt ∈ ps)] [Fact (.cap ∈ ps)] [Fact (.free ∈ ps)] :
    Tame ps e (laneRestart n p s d) :=
  Tame.ite h.sat (Tame.laneFeed (Tame.ite h.modLane.rawRestart.setN.setN.laneState h.modLane.rawRestart.setN.setN))

theorem Tame.laneTake {d0 : Dev} {n : Nat} {s : LaneSmp} (h : Tame ps e d0) [Fact (.hif ∈ ps)] [Fact (.hmp ∈ ps)]
    [Fact (.flt ∈ ps)] [Fact (.cap ∈ ps)] [Fact (.free ∈ ps)] :
    Tame ps e (laneTake n s d0) := by
  unfold Machine.laneTake
  exact Tame.ite h.modLane.laneSync.cause.laneRestart (by
    split
    · exact Tame.ite h.modLane.laneFeed (Tame.ite h.modLane.sat (Tame.ite
        ((h.modLane.addSat.addSat.cause.foldl fun _ _ h13 => h13.laneFeed).laneFeed) h.modLane.laneSync.cause.laneRestart))
    · exact h.modLane.laneRestart)

theorem Tame.laneInput {n : Nat} (h : Tame ps e d) [Fact (.hif ∈ ps)] [Fact (.hmp ∈ ps)] [Fact (.flt ∈ ps)]
    [Fact (.cap ∈ ps)] [Fact (.free ∈ ps)] :
    Tame ps e (laneInput n d) := by
  unfold Machine.laneInput
  split
  · exact h
  · exact Tame.ite h.modLane.sat (Tame.ite h.modLane h.modLane.laneTake)

theorem Tame.laneInputTimeout {t : Time} {n : Nat} (h : Tame ps e d) :
    Tame ps e (laneInputTimeout t n d) := Tame.ite h.laneState h

theorem Tame.laneChanged {t : Time} {n : Nat} (h : Tame ps e d) [Fact (.flt ∈ ps)] :
    Tame ps e (laneChanged t n d) := h.modLane

theorem Tame.laneEnable {t : Time} {n : Nat} {v : Word32} (h : Tame ps e d) [Fact (.flt ∈ ps)] :
    Tame ps e (laneEnable t n v d) :=
  Tame.ite (Tame.ite (Tame.ite h h.fltRej) (Tame.showBudgets (Tame.setN (Tame.modLane (Tame.laneState (Tame.laneChanged
    (Tame.setN (Tame.ite h h.fltRej)))))))) (Tame.ite h.putUnvalid (Tame.ite h.putUnvalid.setN.fltRej
    (Tame.ite h.putUnvalid.setN.setN.laneChanged.modLane.setN
    (Tame.ite h.putUnvalid.setN.setN.laneChanged.modLane.showBudgets.laneSync.setN h.putUnvalid.setN.setN.laneChanged.modLane.showBudgets.laneSync))))

theorem Tame.laneWrite {n w : Nat} {v : Word32} (h : Tame ps e d) :
    Tame ps e (laneWrite n w v d) :=
  Tame.ite h.putWord (Tame.ite h.putWord (Tame.ite (Tame.ite h.fltRej (Tame.ite h.putWord h.putWord.fltRej)) h.fltRej))

theorem Tame.coefSetValidate {s : Nat} {v : Word32} (h : Tame ps e d) :
    Tame ps e (coefSetValidate s v d) := by
  unfold Machine.coefSetValidate
  exact Tame.ite h.fltRej (Tame.ite h.putWord (Tame.ite h.putWord h.putUnvalid.fltRej))

theorem Tame.coefWrite {a : Nat} {v : Word32} (h : Tame ps e d) :
    Tame ps e (coefWrite a v d) := Tame.ite h.fltRej h.putWord

theorem Tame.groupValidate {t : Time} {g : Nat} {v : Word32} (h : Tame ps e d) [Fact (.flt ∈ ps)] :
    Tame ps e (groupValidate t g v d) :=
  Tame.ite (Tame.ite (Tame.ite h h.fltRej) (Tame.setN (Tame.ite h h.fltRej))) (Tame.ite h.putUnvalid
    (Tame.ite h.putUnvalid.fltRej (((h.putUnvalid.foldl fun _ _ h8 => h8.modLane).setN).modGroup)))

theorem Tame.groupBlock {t : Time} {g m : Nat} (h : Tame ps e d) [Fact (.aln ∈ ps)] [Fact (.flt ∈ ps)] :
    Tame ps e (groupBlock t g m d) :=
  Tame.ite (((h.foldl fun _ _ h16 => h16.modLane).modGroup).modAln) ((h.foldl fun _ _ h15 => h15.modLane).modGroup)

theorem Tame.groupStale {g m : Nat} (h : Tame ps e d) [Fact (.flt ∈ ps)] :
    Tame ps e (groupStale g m d) := h.foldl fun _ _ h0 => h0.modLane

theorem Tame.groupWrite {t : Time} {g : Nat} {ready : Nat → Dev → Bool} (h : Tame ps e d) [Fact (.aln ∈ ps)]
    [Fact (.flt ∈ ps)] :
    Tame ps e (groupWrite t g ready d) := by
  unfold Machine.groupWrite
  split
  · exact h
  · exact Tame.ite h.groupStale (Tame.ite h.groupBlock h)

theorem Tame.fltSplit (h : Tame ps e d) [Fact (.flt ∈ ps)] :
    Tame ps e (fltSplit d) := h.foldl fun _ _ h0 => h0.laneSync

theorem Tame.fltReset {old : Dev} (h : Tame ps e d) [Fact (.flt ∈ ps)] :
    Tame ps e (fltReset old d) :=
  (h.flt.foldl fun _ _ h3 => Tame.ite h3.modLane.setN.setN h3.modLane.setN).foldl fun _ _ h2 => Tame.ite h2.modGroup h2

theorem Tame.fltResume {t : Time} (h : Tame ps e d) [Fact (.flt ∈ ps)] :
    Tame ps e (fltResume t d) := (h.foldl fun _ _ h1 => h1.modLane.laneSync).showBudgets

/-! ## Ingest -/

theorem Tame.modIng {f : Ing → Ing} (h : Tame ps e d) [Fact (.ing ∈ ps)] :
    Tame ps e (Dev.modIng d f) := h.ing

theorem Tame.modSrc {s : Nat} {f : SrcSt → SrcSt} (h : Tame ps e d) [Fact (.ing ∈ ps)] :
    Tame ps e (Dev.modSrc d s f) := h.modIng

theorem Tame.secondRoll {t : Time} (h : Tame ps e d) [Fact (.ing ∈ ps)] :
    Tame ps e (secondRoll t d) := Tame.ite h h.set.modIng

theorem Tame.showFill (h : Tame ps e d) :
    Tame ps e (showFill d) := h.set

theorem Tame.portLimit {t : Time} {i : Nat} (h : Tame ps e d) [Fact (.ing ∈ ps)] :
    Tame ps e (portLimit t i d).2 := by
  unfold Machine.portLimit
  exact Tame.iteSnd (Tame.snd (Tame.modIng (Tame.ite h h.modIng))) (Tame.snd (Tame.ite (Tame.sat (Tame.modIng
    (Tame.ite h h.modIng))) (Tame.cause (Tame.modIng (Tame.sat (Tame.modIng (Tame.ite h h.modIng)))))))

theorem Tame.bufferTake {f : InFrame} (h : Tame ps e d) [Fact (.ing ∈ ps)] :
    Tame ps e (bufferTake f d).2 := by
  unfold Machine.bufferTake
  exact Tame.iteSnd (Tame.snd h.sat.cause) (Tame.snd h.modIng.showFill)

theorem Tame.injectTake {t : Time} {x : Inject} (h : Tame ps e d) [Fact (.hif ∈ ps)] [Fact (.ing ∈ ps)] :
    Tame ps e (injectTake t x d) := by
  unfold Machine.injectTake
  split
  · exact Tame.endStarted ((Tame.ofPair h.portLimit ‹_›))
  · split
    · exact Tame.endStarted ((Tame.ofPair (Tame.bufferTake ((Tame.ofPair h.portLimit ‹_›))) ‹_›))
    · exact Tame.endStarted ((Tame.ofPair (Tame.bufferTake ((Tame.ofPair h.portLimit ‹_›))) ‹_›))

theorem Tame.ingestIntake {t : Time} (h : Tame ps e d) [Fact (.hif ∈ ps)] [Fact (.ports ∈ ps)] [Fact (.ing ∈ ps)] :
    Tame ps e (ingestIntake t d) := by
  unfold Machine.ingestIntake
  dsimp only
  split
  · exact h
  · exact Tame.ite (by
    split
    · exact h.modIng.modIng.injectTake
    · exact h.modIng) (by
    split
    · split
      · exact Tame.bufferTake ((Tame.ofPair h.modIng.modIng.modPort.portLimit ‹_›))
      · exact (Tame.ofPair h.modIng.modIng.modPort.portLimit ‹_›)
    · exact h.modIng)

theorem Tame.hostDrop (h : Tame ps e d) :
    Tame ps e (hostDrop d) := h.sat

theorem Tame.ingDeliver {ring : Nat} {bytes ext : List Byte} (h : Tame ps e d) [Fact (.hif ∈ ps)] :
    Tame ps e (ingDeliver ring bytes ext d) := by
  unfold Machine.ingDeliver
  exact Tame.ite h.hostDrop (by
    split
    · exact (Tame.ofPair h.deliver ‹_›)
    · exact Tame.hostDrop ((Tame.ofPair h.deliver ‹_›)))

theorem Tame.toCfgRing {f : InFrame} {reason out : Nat} (h : Tame ps e d) [Fact (.hif ∈ ps)] :
    Tame ps e (toCfgRing f reason out d) := h.ingDeliver

theorem Tame.toHostRing {f : InFrame} {reason : Nat} (h : Tame ps e d) [Fact (.hif ∈ ps)] [Fact (.ing ∈ ps)] :
    Tame ps e (toHostRing f reason d) := Tame.ite h.hostDrop h.modIng.ingDeliver

theorem Tame.unsup (h : Tame ps e d) :
    Tame ps e (unsup d) := h.sat

theorem Tame.rowOther {on : Field} {f : InFrame} {row : Nat} (h : Tame ps e d) [Fact (.hif ∈ ps)] [Fact (.ing ∈ ps)] :
    Tame ps e (rowOther on f row d) := Tame.ite h.toHostRing h.unsup

theorem Tame.unknownFrame {f : InFrame} (h : Tame ps e d) [Fact (.hif ∈ ps)] [Fact (.ing ∈ ps)] :
    Tame ps e (unknownFrame f d) := Tame.ite h.sat.toHostRing h.sat

theorem Tame.srcDrop {s reason : Nat} (h : Tame ps e d) :
    Tame ps e (srcDrop s reason d) := h.sat.setN

theorem Tame.quarantine {t : Time} {s : Nat} (h : Tame ps e d) [Fact (.hif ∈ ps)] [Fact (.hmp ∈ ps)] [Fact (.ports ∈ ps)]
    [Fact (.pairs ∈ ps)] [Fact (.keys ∈ ps)] [Fact (.aln ∈ ps)] [Fact (.dsp ∈ ps)] [Fact (.dxl ∈ ps)] [Fact (.cap ∈ ps)]
    [Fact (.rul ∈ ps)] [Fact (.mdl ∈ ps)] [Fact (.free ∈ ps)] :
    Tame ps e (quarantine t s d) := h.setN.cause.settle

theorem Tame.misfit {t : Time} {s : Nat} (h : Tame ps e d) [Fact (.hif ∈ ps)] [Fact (.hmp ∈ ps)] [Fact (.ports ∈ ps)]
    [Fact (.pairs ∈ ps)] [Fact (.keys ∈ ps)] [Fact (.aln ∈ ps)] [Fact (.dsp ∈ ps)] [Fact (.dxl ∈ ps)] [Fact (.cap ∈ ps)]
    [Fact (.rul ∈ ps)] [Fact (.mdl ∈ ps)] [Fact (.free ∈ ps)] :
    Tame ps e (misfit t s d) := h.sat.srcDrop.quarantine

theorem Tame.rateLimit {s arrQ : Nat} (h : Tame ps e d) [Fact (.ing ∈ ps)] :
    Tame ps e (rateLimit s arrQ d).2 := by
  unfold Machine.rateLimit
  exact Tame.iteSnd h (Tame.iteSnd (Tame.snd h.modSrc) (Tame.snd
    (Tame.ite h.modSrc.sat.srcDrop h.modSrc.sat.srcDrop.modSrc.event)))

theorem Tame.blockOut {f : InFrame} {b : Block} (h : Tame ps e d) [Fact (.hif ∈ ps)] [Fact (.aln ∈ ps)] :
    Tame ps e (blockOut f b d) := by
  unfold Machine.blockOut
  split
  · exact Tame.ite h.modAln h
  · exact h.ingDeliver
  · exact h

theorem Tame.statBit10 {t : Time} {s stat : Nat} (h : Tame ps e d) [Fact (.ing ∈ ps)] :
    Tame ps e (statBit10 t s stat d) := Tame.ite (Tame.ite h.modSrc h.modSrc.setN.cause) (Tame.ite h.modSrc h)

theorem Tame.blockAccept {t : Time} {f : InFrame} {b : Block} (h : Tame ps e d) [Fact (.hif ∈ ps)] [Fact (.ing ∈ ps)]
    [Fact (.aln ∈ ps)] [Fact (.cap ∈ ps)] :
    Tame ps e (blockAccept t f b d) :=
  Tame.blockOut (Tame.capBus (Tame.statBit10 (Tame.ite h.sat.wrapInc.setN.setN.setN.setN h.sat.wrapInc.setN.setN.setN)))

theorem Tame.futureBlock {f : InFrame} {b : Block} (h : Tame ps e d) [Fact (.aln ∈ ps)] :
    Tame ps e (futureBlock f b d) := Tame.ite h.sat.srcDrop.cause.modAln h.sat.srcDrop.cause

theorem Tame.blockJudge {t : Time} {f : InFrame} {b : Block} (h : Tame ps e d) [Fact (.hif ∈ ps)] [Fact (.ing ∈ ps)]
    [Fact (.aln ∈ ps)] [Fact (.cap ∈ ps)] :
    Tame ps e (blockJudge t f b d) := by
  unfold Machine.blockJudge
  exact Tame.ite h.futureBlock (by
    split
    · exact Tame.blockAccept ((Tame.ofPair h.rateLimit ‹_›))
    · exact (Tame.ofPair h.rateLimit ‹_›))

theorem Tame.srcGate {s : Nat} {f : InFrame} (h : Tame ps e d) :
    Tame ps e (srcGate s f d).2 := by
  unfold Machine.srcGate
  exact Tame.iteSnd (Tame.snd h.srcDrop) (Tame.iteSnd (Tame.snd h.sat.srcDrop.cause) (Tame.iteSnd
    (Tame.snd h.sat.srcDrop) h))

theorem Tame.c37Block {t : Time} {f : InFrame} {b : List Byte} {s : Nat} {blk : List Byte} (h : Tame ps e d)
    [Fact (.hif ∈ ps)] [Fact (.ing ∈ ps)] [Fact (.aln ∈ ps)] [Fact (.cap ∈ ps)] :
    Tame ps e (c37Block t f b s blk d) := by
  unfold Machine.c37Block
  split
  · exact (Tame.ofPair h.srcGate ‹_›)
  · exact Tame.ite (Tame.srcDrop (Tame.sat ((Tame.ofPair h.srcGate ‹_›)))) (Tame.blockJudge ((Tame.ofPair h.srcGate ‹_›)))

theorem Tame.c37Short {t : Time} {f : InFrame} {s : Nat} (h : Tame ps e d) [Fact (.hif ∈ ps)] [Fact (.hmp ∈ ps)]
    [Fact (.ports ∈ ps)] [Fact (.pairs ∈ ps)] [Fact (.keys ∈ ps)] [Fact (.aln ∈ ps)] [Fact (.dsp ∈ ps)] [Fact (.dxl ∈ ps)]
    [Fact (.cap ∈ ps)] [Fact (.rul ∈ ps)] [Fact (.mdl ∈ ps)] [Fact (.free ∈ ps)] :
    Tame ps e (c37Short t f s d) := by
  unfold Machine.c37Short
  split
  · exact (Tame.ofPair h.srcGate ‹_›)
  · exact Tame.misfit ((Tame.ofPair h.srcGate ‹_›))

theorem Tame.c37Data {t : Time} {f : InFrame} {b : List Byte} (h : Tame ps e d) [Fact (.hif ∈ ps)] [Fact (.hmp ∈ ps)]
    [Fact (.ports ∈ ps)] [Fact (.pairs ∈ ps)] [Fact (.keys ∈ ps)] [Fact (.ing ∈ ps)] [Fact (.aln ∈ ps)] [Fact (.dsp ∈ ps)]
    [Fact (.dxl ∈ ps)] [Fact (.cap ∈ ps)] [Fact (.rul ∈ ps)] [Fact (.mdl ∈ ps)] [Fact (.free ∈ ps)] :
    Tame ps e (c37Data t f b d) := by
  unfold Machine.c37Data
  dsimp only
  exact Tame.ite h.unknownFrame (Tame.ite ((h.foldl fun _ _ h7 => h7.c37Block).foldl fun _ _ h6 => h6.c37Short) (Tame.ite
    (h.foldl fun _ _ h7 => h7.c37Block) ((h.foldl fun _ _ h8 => h8.c37Block).sat)))

theorem Tame.cfgCompare {t : Time} {tb rate s : Nat} {p : CPmu} (h : Tame ps e d) [Fact (.hif ∈ ps)] [Fact (.hmp ∈ ps)]
    [Fact (.ports ∈ ps)] [Fact (.pairs ∈ ps)] [Fact (.keys ∈ ps)] [Fact (.aln ∈ ps)] [Fact (.dsp ∈ ps)] [Fact (.dxl ∈ ps)]
    [Fact (.cap ∈ ps)] [Fact (.rul ∈ ps)] [Fact (.mdl ∈ ps)] [Fact (.free ∈ ps)] :
    Tame ps e (cfgCompare t tb rate s p d) := Tame.ite (Tame.ite h.setN h) h.quarantine

theorem Tame.c37Bad {cnt : Field} {code reason : Nat} {b : List Byte} (h : Tame ps e d) :
    Tame ps e (c37Bad cnt code reason b d) := (h.sat.foldl fun _ _ h2 => h2.srcDrop).event

theorem Tame.cfgJoin {idcode : Nat} {b : List Byte} (h : Tame ps e d) [Fact (.ing ∈ ps)] :
    Tame ps e (cfgJoin idcode b d).2 := by
  unfold Machine.cfgJoin
  exact Tame.iteSnd h (Tame.iteSnd (Tame.snd h.modIng) (Tame.iteSnd h (Tame.iteSnd (Tame.snd h.modIng) (Tame.iteSnd
    (Tame.snd h.modIng) (Tame.snd h.modIng)))))

theorem Tame.c37Config {t : Time} {f : InFrame} {b : List Byte} (h : Tame ps e d) [Fact (.hif ∈ ps)] [Fact
    (.hmp ∈ ps)] [Fact (.ports ∈ ps)] [Fact (.pairs ∈ ps)] [Fact (.keys ∈ ps)] [Fact (.ing ∈ ps)] [Fact (.aln ∈ ps)] [Fact
    (.dsp ∈ ps)] [Fact (.dxl ∈ ps)] [Fact (.cap ∈ ps)] [Fact (.rul ∈ ps)] [Fact (.mdl ∈ ps)] [Fact (.free ∈ ps)] :
    Tame ps e (c37Config t f b d) := by
  unfold Machine.c37Config
  have h0 := Tame.iteSnd (c := (cType b == 5) = true) (h.cfgJoin (idcode := cIdcode b) (b := cBody b))
    (Tame.snd (a := some (cBody b)) h)
  dsimp only
  revert h0
  generalize (if cType b == 5 then Machine.cfgJoin (cIdcode b) (cBody b) d else (some (cBody b), d)).2 = d0
  intro h0
  have h1 := fun (s : List Nat) => h0.foldl (xs := s) (f := fun x s => if bindOk d0 s f then x
    else (Machine.srcDrop s stRejected (x.sat Reg.ING_CNT_BIND.N)).cause intIng 3 s 0)
    fun _ _ hx => .ite hx hx.sat.srcDrop.cause
  split
  · exact h0.c37Bad
  · refine .ite h0.unknownFrame (.ite (h1 _) (Tame.toCfgRing ?_))
    split
    · refine (h1 _).foldl fun x c hx => ?_
      split
      · exact .ite hx.cfgCompare hx
      · exact hx
    · exact h1 _

theorem Tame.outCommand {src cmd n : Nat} {a : Option Nat × Dev} (h : Tame ps e a.2) :
    Tame ps e (outCommand src cmd n a).2 :=
  .iteSnd h (.iteSnd h.outDrop (.iteSnd h.setN (.iteSnd h.setN h)))

theorem Tame.c37Command {f : InFrame} {b : List Byte} (h : Tame ps e d) [Fact (.hif ∈ ps)] :
    Tame ps e (c37Command f b d) := by
  have ho : ∀ own, Tame ps e (List.foldl (fun a n => Machine.outCommand (senderOf f).1 (cCmd b) n a) (none, d) own).2 :=
    fun _ => Tame.foldlSnd h fun _ _ ha => ha.outCommand
  refine .ite h.toCfgRing ?_
  split
  · next hd => exact (Tame.ofPair (ho _) hd).toCfgRing
  · next hd => exact Tame.ofPair (ho _) hd

theorem Tame.c37Parse {t : Time} {f : InFrame} {b : List Byte} (h : Tame ps e d) [Fact (.hif ∈ ps)] [Fact (.hmp ∈ ps)]
    [Fact (.ports ∈ ps)] [Fact (.pairs ∈ ps)] [Fact (.keys ∈ ps)] [Fact (.ing ∈ ps)] [Fact (.aln ∈ ps)] [Fact (.dsp ∈ ps)]
    [Fact (.dxl ∈ ps)] [Fact (.cap ∈ ps)] [Fact (.rul ∈ ps)] [Fact (.mdl ∈ ps)] [Fact (.free ∈ ps)] :
    Tame ps e (c37Parse t f b d) := by
  unfold Machine.c37Parse
  exact Tame.ite h.c37Bad (Tame.ite h.c37Bad (by
    split
    · exact h.c37Data
    · exact h.c37Config
    · exact h.c37Config
    · exact h.c37Command
    · exact h.toCfgRing))

theorem Tame.spduCheck {nums : FMap Nat} {auth : Nat} {slots : List Nat} {p : Spdu} (h : Tame ps e d) [Fact (.keys ∈ ps)]
    [Fact (.ing ∈ ps)] :
    Tame ps e (spduCheck nums auth slots p d).2 := by
  unfold Machine.spduCheck
  exact Tame.iteSnd h (Tame.iteSnd h (by
    split
    · exact h
    · split
      · exact (Tame.ofPair h.keyUse ‹_›)
      · exact Tame.iteSnd (Tame.snd (Tame.modIng ((Tame.ofPair h.keyUse ‹_›)))) ((Tame.ofPair h.keyUse ‹_›))))

theorem Tame.authFail {inst : Nat} (h : Tame ps e d) :
    Tame ps e (authFail inst d) := h.sat.cause

theorem Tame.datasetParse {t : Time} {f : InFrame} {nums : FMap Nat} {p : Spdu} {appid crc synch ns : Nat}
    {ms : List SvMember} (h : Tame ps e d) [Fact (.hif ∈ ps)] [Fact (.hmp ∈ ps)] [Fact (.ports ∈ ps)] [Fact (.pairs ∈ ps)]
    [Fact (.keys ∈ ps)] [Fact (.ing ∈ ps)] [Fact (.aln ∈ ps)] [Fact (.dsp ∈ ps)] [Fact (.dxl ∈ ps)] [Fact (.cap ∈ ps)]
    [Fact (.rul ∈ ps)] [Fact (.mdl ∈ ps)] [Fact (.free ∈ ps)] :
    Tame ps e (datasetParse t f nums p appid crc synch ns ms d) := by
  unfold Machine.datasetParse
  split
  · exact h.unknownFrame
  · split
    · exact (Tame.ofPair h.srcGate ‹_›)
    · exact Tame.ite (Tame.cause (Tame.srcDrop (Tame.sat ((Tame.ofPair h.srcGate ‹_›))))) (by
      split
      · exact Tame.srcDrop (Tame.authFail ((Tame.ofPair (Tame.spduCheck ((Tame.ofPair h.srcGate ‹_›))) ‹_›)))
      · exact Tame.ite (Tame.misfit ((Tame.ofPair (Tame.spduCheck ((Tame.ofPair h.srcGate ‹_›))) ‹_›))) (Tame.ite
          (Tame.srcDrop (Tame.sat ((Tame.ofPair (Tame.spduCheck ((Tame.ofPair h.srcGate ‹_›))) ‹_›)))) (Tame.blockJudge
          ((Tame.ofPair (Tame.spduCheck ((Tame.ofPair h.srcGate ‹_›))) ‹_›)))))

theorem Tame.relayRegion {t : Time} {f : InFrame} {origin ns : Nat} {b : List Byte} (h : Tame ps e d) [Fact (.hif ∈ ps)]
    [Fact (.hmp ∈ ps)] [Fact (.ports ∈ ps)] [Fact (.pairs ∈ ps)] [Fact (.keys ∈ ps)] [Fact (.ing ∈ ps)] [Fact (.aln ∈ ps)]
    [Fact (.dsp ∈ ps)] [Fact (.dxl ∈ ps)] [Fact (.cap ∈ ps)] [Fact (.rul ∈ ps)] [Fact (.mdl ∈ ps)] [Fact (.free ∈ ps)] :
    Tame ps e (relayRegion t f origin ns b d).2 := by
  unfold Machine.relayRegion
  split
  · exact h
  · exact Tame.snd (by
    split
    · exact (Tame.ofPair h.srcGate ‹_›)
    · exact Tame.ite (Tame.misfit ((Tame.ofPair h.srcGate ‹_›))) (Tame.blockJudge ((Tame.ofPair h.srcGate ‹_›))))

theorem Tame.relayParse {t : Time} {f : InFrame} {origin : Nat} {payload : List Byte} (h : Tame ps e d) [Fact (.hif ∈ ps)]
    [Fact (.hmp ∈ ps)] [Fact (.ports ∈ ps)] [Fact (.pairs ∈ ps)] [Fact (.keys ∈ ps)] [Fact (.ing ∈ ps)] [Fact (.aln ∈ ps)]
    [Fact (.dsp ∈ ps)] [Fact (.dxl ∈ ps)] [Fact (.cap ∈ ps)] [Fact (.rul ∈ ps)] [Fact (.mdl ∈ ps)] [Fact (.free ∈ ps)] :
    Tame ps e (relayParse t f origin payload d) := by
  unfold Machine.relayParse
  dsimp only
  exact Tame.ite h.sat (Tame.ite (h.sat.foldl fun _ _ h4 => by
    split
    · exact h4.srcDrop
    · exact h4) (Tame.ite (Tame.foldlSnd h fun _ _ h7 => Tame.snd h7.relayRegion) (Tame.unknownFrame
        (Tame.foldlSnd h fun _ _ h8 => Tame.snd h8.relayRegion))))

theorem Tame.svFeed {t : Time} {f : InFrame} {v : Nat} {a : SvAsdu} (h : Tame ps e d) [Fact (.flt ∈ ps)] [Fact
    (.cap ∈ ps)] :
    Tame ps e (svFeed t f v a d) := Tame.ite h (Tame.ite (h.capBus.foldl fun _ _ h11 => Tame.ite h11.modLane h11) h.capBus)

theorem Tame.svParse {t : Time} {f : InFrame} {appid : Nat} {as : List SvAsdu} {check : Nat → Dev → Bool × Dev}
    (h : Tame ps e d) (hf : ∀ k x, Tame ps e x → Tame ps e (check k x).2) [Fact (.flt ∈ ps)] [Fact (.cap ∈ ps)] :
    Tame ps e (svParse t f appid as check d) := by
  unfold Machine.svParse
  exact Tame.ite h.sat (Tame.ite (Tame.foldlSnd h fun _ _ h5 => by
    split
    · exact Tame.snd (Tame.svFeed ((Tame.ofPair (hf _ _ h5) ‹_›)))
    · exact (Tame.ofPair (hf _ _ h5) ‹_›)) (Tame.authFail (Tame.foldlSnd h fun _ _ h6 => by
    split
    · exact Tame.snd (Tame.svFeed ((Tame.ofPair (hf _ _ h6) ‹_›)))
    · exact (Tame.ofPair (hf _ _ h6) ‹_›))))

theorem Tame.gooseTarget {t : Time} {g : Nat} {w : Word32} (h : Tame ps e d) [Fact (.ing ∈ ps)] :
    Tame ps e (gooseTarget t g w d) := Tame.ite h h.modIng

theorem Tame.modGoose {g : Nat} {f : GooseSt → GooseSt} (h : Tame ps e d) [Fact (.ing ∈ ps)] :
    Tame ps e (modGoose g f d) := h.modIng

theorem Tame.gooseTake {t : Time} {f : InFrame} {g : Nat} {m : Goose} (h : Tame ps e d) [Fact (.ing ∈ ps)]
    [Fact (.cap ∈ ps)] :
    Tame ps e (gooseTake t f g m d) :=
  Tame.ite h.gooseTarget.modGoose.modGoose.capBus (Tame.ite h
    (Tame.ite h.modGoose.modGoose.gooseTarget h.modGoose.modGoose))

theorem Tame.gooseParse {t : Time} {f : InFrame} {routed : Bool} {m : Goose} {check : Nat → Dev → Bool × Dev}
    (h : Tame ps e d) (hf : ∀ k x, Tame ps e x → Tame ps e (check k x).2) [Fact (.ing ∈ ps)] [Fact (.cap ∈ ps)] :
    Tame ps e (gooseParse t f routed m check d) := by
  unfold Machine.gooseParse
  dsimp only
  exact Tame.ite h.sat (by
    split
    · exact Tame.authFail (Tame.foldlSnd h fun _ _ h6 => Tame.iteSnd (Tame.snd h6.sat) (Tame.iteSnd (Tame.snd h6.sat) (by
      split
      · exact Tame.snd (Tame.gooseTake ((Tame.ofPair (hf _ _ h6) ‹_›)))
      · exact (Tame.ofPair (hf _ _ h6) ‹_›))))
    · exact Tame.foldlSnd h fun _ _ h5 => Tame.iteSnd (Tame.snd h5.sat) (Tame.iteSnd (Tame.snd h5.sat) (by
      split
      · exact Tame.snd (Tame.gooseTake ((Tame.ofPair (hf _ _ h5) ‹_›)))
      · exact (Tame.ofPair (hf _ _ h5) ‹_›))))

theorem Tame.gooseTalExpire {t : Time} {g : Nat} (h : Tame ps e d) [Fact (.ing ∈ ps)] :
    Tame ps e (gooseTalExpire t g d) := Tame.ite h.modGoose.gooseTarget.cause h

theorem Tame.spduParse {t : Time} {f : InFrame} {p : Spdu} (h : Tame ps e d) [Fact (.hif ∈ ps)] [Fact (.hmp ∈ ps)]
    [Fact (.ports ∈ ps)] [Fact (.pairs ∈ ps)] [Fact (.keys ∈ ps)] [Fact (.ing ∈ ps)] [Fact (.aln ∈ ps)] [Fact (.flt ∈ ps)]
    [Fact (.dsp ∈ ps)] [Fact (.dxl ∈ ps)] [Fact (.cap ∈ ps)] [Fact (.rul ∈ ps)] [Fact (.mdl ∈ ps)] [Fact (.free ∈ ps)] :
    Tame ps e (spduParse t f p d) := by
  unfold Machine.spduParse
  split
  · exact h.datasetParse
  · exact h.svParse (fun _ _ h2 => h2.spduCheck)
  · exact h.gooseParse (fun _ _ h2 => h2.spduCheck)

theorem Tame.malformed (h : Tame ps e d) :
    Tame ps e (malformed d) := h.sat

theorem Tame.ipParse {t : Time} {f : InFrame} {p : IpPacket} (h : Tame ps e d) [Fact (.tkp ∈ ps)] [Fact (.hif ∈ ps)]
    [Fact (.hmp ∈ ps)] [Fact (.ports ∈ ps)] [Fact (.pairs ∈ ps)] [Fact (.keys ∈ ps)] [Fact (.ing ∈ ps)] [Fact (.aln ∈ ps)]
    [Fact (.flt ∈ ps)] [Fact (.dsp ∈ ps)] [Fact (.dxl ∈ ps)] [Fact (.cap ∈ ps)] [Fact (.rul ∈ ps)] [Fact (.mdl ∈ ps)]
    [Fact (.free ∈ ps)] :
    Tame ps e (ipParse t f p d) := by
  unfold Machine.ipParse
  exact Tame.ite h.rowOther (Tame.ite h.rowOther (Tame.ite (Tame.ite h.malformed (by
    split
    · exact h.c37Parse
    · exact h.malformed)) (Tame.ite (Tame.ite h.malformed (by
    split
    · exact h.spduParse
    · exact h.malformed)) (Tame.ite (Tame.ite h.malformed (by
    split
    · exact h.dxDatagram
    · exact h.dxDatagram
    · exact h.malformed)) h.rowOther))))

theorem Tame.classify {t : Time} {f : InFrame} (h : Tame ps e d) [Fact (.tkp ∈ ps)] [Fact (.hif ∈ ps)] [Fact (.hmp ∈ ps)]
    [Fact (.ports ∈ ps)] [Fact (.pairs ∈ ps)] [Fact (.keys ∈ ps)] [Fact (.ing ∈ ps)] [Fact (.aln ∈ ps)] [Fact (.flt ∈ ps)]
    [Fact (.dsp ∈ ps)] [Fact (.dxl ∈ ps)] [Fact (.cap ∈ ps)] [Fact (.rul ∈ ps)] [Fact (.mdl ∈ ps)] [Fact (.free ∈ ps)] :
    Tame ps e (classify t f d) := by
  unfold Machine.classify
  exact Tame.ite h.rowOther (by
    split
    · exact h
    · exact h.svParse (fun _ _ h2 => Tame.snd h2)
    · exact h.gooseParse (fun _ _ h2 => Tame.snd h2)
    · exact h.ipParse
    · exact h.relayParse
    · exact h.rowOther)

theorem Tame.ingestParse {d0 : Dev} {t : Time} (h : Tame ps e d0) [Fact (.tkp ∈ ps)] [Fact (.hif ∈ ps)] [Fact (.hmp ∈ ps)]
    [Fact (.ports ∈ ps)] [Fact (.pairs ∈ ps)] [Fact (.keys ∈ ps)] [Fact (.ing ∈ ps)] [Fact (.aln ∈ ps)] [Fact (.flt ∈ ps)]
    [Fact (.dsp ∈ ps)] [Fact (.dxl ∈ ps)] [Fact (.cap ∈ ps)] [Fact (.rul ∈ ps)] [Fact (.mdl ∈ ps)] [Fact (.free ∈ ps)] :
    Tame ps e (ingestParse t d0) := by
  unfold Machine.ingestParse
  dsimp only
  split
  · exact h.secondRoll
  · exact Tame.ite h.secondRoll.modIng.showFill.classify h.secondRoll.modIng.showFill.unsup

theorem Tame.cfgPendTimeout {t : Time} {s : Nat} (h : Tame ps e d) :
    Tame ps e (cfgPendTimeout t s d) := Tame.ite h.setN h

theorem Tame.ingRej {s : Nat} (h : Tame ps e d) :
    Tame ps e (ingRej s d) := h.cause

theorem Tame.srcClear {s : Nat} (h : Tame ps e d) [Fact (.ing ∈ ps)] :
    Tame ps e (srcClear s d) := by
  unfold Machine.srcClear
  exact (h.foldl fun _ _ h2 => h2.putWord).modIng

theorem Tame.writeSourceEntry {t : Time} {a : Nat} {v : Word32} (h : Tame ps e d) [Fact (.hif ∈ ps)] [Fact (.hmp ∈ ps)]
    [Fact (.ports ∈ ps)] [Fact (.pairs ∈ ps)] [Fact (.keys ∈ ps)] [Fact (.ing ∈ ps)] [Fact (.aln ∈ ps)] [Fact (.dsp ∈ ps)]
    [Fact (.dxl ∈ ps)] [Fact (.cap ∈ ps)] [Fact (.rul ∈ ps)] [Fact (.mdl ∈ ps)] [Fact (.free ∈ ps)] :
    Tame ps e (writeSourceEntry t a v d) :=
  Tame.ite (Tame.ite h.ingRej h.putWord.alnSource) (Tame.ite h.putWord (Tame.ite h.putUnvalid
    (Tame.ite h.putUnvalid.ingRej h.putUnvalid.setN.srcClear.alnSource)))

theorem Tame.blocksLost {loc : Bool} (h : Tame ps e d) [Fact (.aln ∈ ps)] :
    Tame ps e (blocksLost loc d) := h.modAln

theorem Tame.ingReset {d0 : Dev} (h : Tame ps e d0) [Fact (.hif ∈ ps)] [Fact (.ports ∈ ps)] [Fact (.ing ∈ ps)]
    [Fact (.aln ∈ ps)] :
    Tame ps e (ingReset d0) := ((h.blocksLost.foldl fun _ _ h5 => h5.endStarted).foldl fun _ _ h4 => h4.modPort).ing

end Sys2Proof.Machine

/-!
PROOFS. What the meanings of the Logbook, the Lookout, resets and Doze may touch.
-/

namespace Sys2Proof.Machine

open Sys2Proof

variable {ps : List StatePart} {e d : Dev}

/-! ## The Logbook's writer and reader -/

theorem Tame.logUsed {lb : Logbook} (h : Tame ps e d) :
    Tame ps e (logUsed lb d) := h.set

theorem Tame.fenceRegion {r : Nat} {lb : Logbook} (h : Tame ps e d) :
    Tame ps e (fenceRegion r lb d).2 := by
  unfold Machine.fenceRegion
  exact Tame.iteSnd h (Tame.snd h.set.set.set.set)

theorem Tame.logLose {s : Logbook × Dev} {x : LogItem} (h : Tame ps e s.2) : Tame ps e (logLose s x).2 := h.logDrop.sat

theorem Tame.logClose {lb : Logbook} (h : Tame ps e d) : Tame ps e (logClose lb d).2 :=
  Tame.foldlSnd h fun _ _ hs => hs.logLose

theorem Tame.logAppend {x : LogItem} {p : Nat × Nat} {lb : Logbook} (h : Tame ps e d) :
    Tame ps e (logAppend x p lb d).2 := by
  unfold Machine.logAppend
  exact Tame.snd h.set.logUsed

theorem Tame.logWriteBad {r : Nat} {lb : Logbook} (h : Tame ps e d) :
    Tame ps e (logWriteBad r lb d).2 := by
  unfold Machine.logWriteBad
  exact Tame.iteSnd (Tame.snd h.sat.fenceRegion.cause.event) h.sat.fenceRegion.cause.event.set.cause.logClose

theorem Tame.logRecordWrite {t : Time} {good : Bool} {lb : Logbook} (h : Tame ps e d) :
    Tame ps e (logRecordWrite t good lb d).2 := by
  unfold Machine.logRecordWrite
  split
  · exact h
  · exact Tame.iteSnd h (Tame.iteSnd (Tame.logClose (Tame.cause (Tame.set (Tame.iteSnd h.logAppend
      (Tame.iteSnd h.logAppend h))))) (Tame.iteSnd h.logAppend h.logWriteBad))

theorem Tame.logLasting {w : Nat} {lb : Logbook} (h : Tame ps e d) [Fact (.hmp ∈ ps)] :
    Tame ps e (logLasting w lb d).2 := by
  unfold Machine.logLasting
  exact h.sat.cause.event.fenceRegion

theorem Tame.logReread {bad : Bool} {lb : Logbook} (h : Tame ps e d) [Fact (.hmp ∈ ps)] :
    Tame ps e (logReread bad lb d).2 := by
  unfold Machine.logReread
  split
  · exact h
  · exact Tame.iteSnd h.logLasting (Tame.snd h.sat)

theorem Tame.logRecReadFaults {lb : Logbook} {r : LogRec} {s : Logbook × Dev} (h : Tame ps e s.2)
    [Fact (.hmp ∈ ps)] : Tame ps e (logRecReadFaults lb r s).2 :=
  Tame.foldlSnd h fun _ _ hs => hs.logLasting

theorem Tame.modRdr {f : LogReader → LogReader} (h : Tame ps e d) [Fact (.rdr ∈ ps)] :
    Tame ps e (Dev.modRdr d f) := h.rdr

theorem Tame.readerComplete {lb : Logbook} (h : Tame ps e d) [Fact (.hif ∈ ps)] [Fact (.rdr ∈ ps)] :
    Tame ps e (readerComplete lb d) := by
  unfold Machine.readerComplete
  split
  · exact h
  · exact h.modRdr.deliver

theorem Tame.logReadGo {lb : Logbook} {v : Word32} (h : Tame ps e d) [Fact (.rdr ∈ ps)] :
    Tame ps e (logReadGo lb v d) := Tame.ite h.set.set (Tame.ite h.set.set.set h.set.set.set.setB.set.rdr)

theorem Tame.readerPack {t : Time} {k : Nat} {lb : Logbook} (h : Tame ps e d)
    [Fact (.hif ∈ ps)] [Fact (.rdr ∈ ps)] [Fact (.hmp ∈ ps)] : Tame ps e (readerPack t k lb d).2 := by
  induction k generalizing lb d with
  | zero => exact h
  | succ k ih =>
    unfold Machine.readerPack
    dsimp only
    split
    · exact .iteSnd h h.readerComplete.readerStop
    · have hr := fun r => Tame.logRecReadFaults (lb := lb) (r := r) (s := (lb, d)) h
      exact .iteSnd h (.iteSnd (.iteSnd h.deliver h.readerComplete)
        (.iteSnd (.ite (hr _).modRdr.readerComplete (hr _).modRdr.readerComplete.readerStop) (ih (hr _).modRdr)))

theorem Tame.logReadDeliver {t : Time} {lb : Logbook} (h : Tame ps e d) [Fact (.hif ∈ ps)] [Fact (.rdr ∈ ps)]
    [Fact (.hmp ∈ ps)] :
    Tame ps e (logReadDeliver t lb d).2 := by
  unfold Machine.logReadDeliver
  exact Tame.iteSnd h.readerPack h

theorem Tame.logBufferTimeout {t : Time} {lb : Logbook} (h : Tame ps e d) [Fact (.hif ∈ ps)] [Fact (.rdr ∈ ps)] :
    Tame ps e (logBufferTimeout t lb d) := Tame.ite h.readerComplete h

theorem Tame.logReadStop {lb : Logbook} {v : Word32} (h : Tame ps e d) [Fact (.hif ∈ ps)] [Fact (.rdr ∈ ps)] :
    Tame ps e (logReadStop lb v d) := Tame.ite h.set.set.readerComplete.readerStop h.set.set

theorem Tame.mirrorAppend {rs : List LogRec} (h : Tame ps e d) [Fact (.flush ∈ ps)] :
    Tame ps e (mirrorAppend rs d) := h.flush

theorem Tame.mirrorRecord {lb : Logbook} (h : Tame ps e d) [Fact (.flush ∈ ps)] :
    Tame ps e (mirrorRecord lb d) := by
  unfold Machine.mirrorRecord
  exact Tame.ite h (by
    split
    · exact h
    · exact h.mirrorAppend.set)

theorem Tame.powerFailWarning {t : Time} {lb : Logbook} (h : Tame ps e d) [Fact (.pwr ∈ ps)] [Fact (.hif ∈ ps)]
    [Fact (.flush ∈ ps)] [Fact (.keys ∈ ps)] :
    Tame ps e (powerFailWarning t lb d) :=
  Tame.ite h (Tame.ite h.modPwr.set.cause.event.keyPfw.set.flush h.modPwr.set.cause.event.keyPfw.event.cause)

theorem Tame.powerFailClear (h : Tame ps e d) [Fact (.pwr ∈ ps)] :
    Tame ps e (powerFailClear d) := Tame.ite h.modPwr.set.event h

theorem Tame.logFlushDone (h : Tame ps e d) [Fact (.flush ∈ ps)] :
    Tame ps e (logFlushDone d) := Tame.ite h.flush.event.cause h

theorem Tame.flushAreaErase (h : Tame ps e d) [Fact (.flush ∈ ps)] :
    Tame ps e (flushAreaErase d) := Tame.ite h (Tame.set (Tame.flush (Tame.ite h.mirrorAppend h)))

/-! ## The Lookout -/

theorem Tame.probeTake {v : Int} {lost : Nat} {p : Nat} (h : Tame ps e d) [Fact (.lko ∈ ps)] :
    Tame ps e (probeTake v lost d p) := Tame.ite h.lko.addSat.set.cause.event h.lko.addSat

theorem Tame.probeSample {kind index : Nat} {v : Int} {lost : Nat} (h : Tame ps e d) [Fact (.lko ∈ ps)] :
    Tame ps e (probeSample kind index v lost d) := Tame.ite (h.foldl fun _ _ h1 => h1.probeTake) h

theorem Tame.lkoRej (h : Tame ps e d) :
    Tame ps e (lkoRej d) := h.cause

theorem Tame.probeWrite0 {p : Nat} {v : Word32} (h : Tame ps e d) [Fact (.lko ∈ ps)] :
    Tame ps e (probeWrite0 p v d) :=
  Tame.ite (Tame.setN (Tame.ite (Tame.ite h.lkoRej h) h.putUnvalid)) (Tame.ite (Tame.lko (Tame.setN (Tame.ite
    (Tame.ite h.lkoRej h) h.putUnvalid))) (Tame.lkoRej (Tame.ite (Tame.ite h.lkoRej h) h.putUnvalid)))

theorem Tame.probeWriteRest {a : Nat} {v : Word32} (h : Tame ps e d) :
    Tame ps e (probeWriteRest a v d) := Tame.ite h.lkoRej h.putWord

theorem Tame.snapProbe {t : Time} {clear : Bool} {p : Nat} (h : Tame ps e d) [Fact (.lko ∈ ps)] :
    Tame ps e (snapProbe t clear d p) := Tame.ite ((h.foldl fun _ _ h4 => h4.setN).lko) (h.foldl fun _ _ h3 => h3.setN)

theorem Tame.lkoSnapshot {t : Time} {v : Word32} (h : Tame ps e d) [Fact (.lko ∈ ps)] :
    Tame ps e (lkoSnapshot t v d) :=
  Tame.ite h.set.set.set (Tame.ite (h.set.set.set.foldl fun _ _ h3 => h3.snapProbe) h.set.set.set.snapProbe)

theorem Tame.lkoReset (h : Tame ps e d) [Fact (.lko ∈ ps)] :
    Tame ps e (lkoReset d) := h.lko

/-! ## Resets -/

theorem Tame.modIsl {i : Nat} {f : IslSt → IslSt} (h : Tame ps e d) [Fact (.isl ∈ ps)] :
    Tame ps e (Dev.modIsl d i f) := h.isl

theorem Tame.showResets (h : Tame ps e d) [Fact (.pwr ∈ ps)] [Fact (.tkp ∈ ps)] :
    Tame ps e (showResets d) := h.set.set

theorem fmSorted_map {α : Type} (f : Nat × α → Nat × α) (hf : ∀ e, (f e).1 = e.1) (m : FMap α) (l : Option Nat) :
    fmSorted l (m.map f) = fmSorted l m := by
  induction m generalizing l with
  | nil => rfl
  | cons e m ih =>
    obtain ⟨k, v⟩ := e
    have hk := hf (k, v)
    rcases hv : f (k, v) with ⟨k', v'⟩
    rw [hv] at hk
    obtain rfl : k' = k := hk
    cases l <;> simp [fmSorted, hv, ih]

theorem fmWf_resetRegs (k : ResetKind) (here : Nat → Bool) (m : RegFile) (h : fmWf resetWord m = true) :
    fmWf resetWord (resetRegs k here m) = true := by
  simp only [fmWf, Bool.and_eq_true, List.all_eq_true, decide_eq_true_eq] at h ⊢
  refine ⟨fmSorted_filter _ _ ?_, fun e he => ?_⟩
  · rw [fmSorted_map _ fun e => by split <;> rfl]
    exact h.1
  · simpa using (List.mem_filter.mp he).2

theorem Tame.resetWords {k : ResetKind} {here : Nat → Bool} (h : Tame ps e d) : Tame ps e (d.resetWords k here) :=
  h.withRegs (fmWf_resetRegs k here _)

theorem Tame.keepLink {old : Dev} (h : Tame ps e d) :
    Tame ps e (keepLink old d) := h.set.set.set

theorem Tame.disown (h : Tame ps e d) [Fact (.cmp ∈ ps)] [Fact (.ports ∈ ps)] [Fact (.pairs ∈ ps)] [Fact (.keys ∈ ps)] [Fact
    (.aln ∈ ps)] :
    Tame ps e (disown d) := by
  refine Tame.foldl (h.trans ⟨fun y hy => ?_, id, id⟩) fun _ _ hx => .ite hx hx.setN
  cases y <;> first | rfl | exact trivial | exact absurd Fact.out hy

theorem Tame.hstLose {t : Time} {cfg : Bool} (h : Tame ps e d) [Fact (.hif ∈ ps)] [Fact (.rdr ∈ ps)] [Fact (.cmp ∈ ps)]
    [Fact (.ports ∈ ps)] [Fact (.pairs ∈ ps)] [Fact (.keys ∈ ps)] [Fact (.aln ∈ ps)] :
    Tame ps e (hstLose t cfg d) := by
  unfold Machine.hstLose
  exact h.readerStop.disown.hif

theorem Tame.ralmFailsafe (h : Tame ps e d) :
    Tame ps e (ralmFailsafe d) := h.overAll (fun _ _ h0 => Tame.ite h0 h0.setN)

theorem Tame.islandLose {t : Time} {i : Nat} (h : Tame ps e d) [Fact (.hif ∈ ps)] [Fact (.rdr ∈ ps)] [Fact (.lko ∈ ps)]
    [Fact (.cmp ∈ ps)] [Fact (.hmp ∈ ps)] [Fact (.ports ∈ ps)] [Fact (.pairs ∈ ps)] [Fact (.keys ∈ ps)] [Fact (.ing ∈ ps)]
    [Fact (.aln ∈ ps)] [Fact (.adc ∈ ps)] [Fact (.dsp ∈ ps)] [Fact (.dxl ∈ ps)] [Fact (.cap ∈ ps)] [Fact (.rul ∈ ps)]
    [Fact (.mdl ∈ ps)] [Fact (.free ∈ ps)] :
    Tame ps e (islandLose t i d) :=
  Tame.ite h.hstLose (Tame.ite h.portReset (Tame.ite h.fabricStop (Tame.ite h.linkReset (Tame.ite h.ingReset
    (Tame.ite h.alnAbort.rulTakeMode (Tame.ite h.blocksLost.adcReset (Tame.ite h.rulReset.modMdl (Tame.ite h.captureStop
    (Tame.ite h.cmpReset (Tame.ite h.dspAbort.keyPfw.dspFree.lkoReset (Tame.ite (Tame.scrubStop (((h.modHmp
    (by exact id))).cmpQuadLost)) (((h.modHmp (by exact id))).cmpQuadLost))))))))))))

theorem Tame.islandAfter {t : Time} {i : Nat} {old : Dev} (h : Tame ps e d) [Fact (.pwr ∈ ps)] [Fact (.flt ∈ ps)] :
    Tame ps e (islandAfter t i old d) :=
  Tame.ite h.keepLink (Tame.ite h.ralmFailsafe (Tame.ite h.fltReset (Tame.ite h.xaornRestart h)))

theorem Tame.islandResume {t : Time} {i : Nat} (h : Tame ps e d) [Fact (.hif ∈ ps)] [Fact (.hmp ∈ ps)] [Fact (.ports ∈ ps)]
    [Fact (.pairs ∈ ps)] [Fact (.keys ∈ ps)] [Fact (.aln ∈ ps)] [Fact (.adc ∈ ps)] [Fact (.flt ∈ ps)] [Fact (.dsp ∈ ps)]
    [Fact (.dxl ∈ ps)] [Fact (.cap ∈ ps)] [Fact (.rul ∈ ps)] [Fact (.mdl ∈ ps)] :
    Tame ps e (islandResume t i d) :=
  Tame.ite h.hif (Tame.ite (Tame.ite h.fabricStart h) (Tame.ite h.alnResume (Tame.ite h.adcResume.fltResume (Tame.ite
    (Tame.ite h.rulResume.modalStart h.rulResume) (Tame.ite (Tame.ite h.captureStart h) (Tame.ite h.dspCounts.nextAll
    (Tame.ite (Tame.ite h.scrubStart h) h)))))))

theorem Tame.resetEnded {kind isl : Nat} (h : Tame ps e d) :
    Tame ps e (resetEnded kind isl d) := h.set.set.event.cause

theorem Tame.wideEnd (h : Tame ps e d) [Fact (.pwr ∈ ps)] [Fact (.tkp ∈ ps)] :
    Tame ps e (wideEnd d) := by
  unfold Machine.wideEnd
  exact Tame.ite h (by
    split
    · exact h.modPwr.resetEnded
    · exact h.modPwr.resetEnded
    · exact h.modPwr.resetEnded
    · exact h.modPwr)

theorem Tame.leaveReset {t : Time} {i : Nat} (h : Tame ps e d) [∀ x, Fact (x ∈ ps)] :
    Tame ps e (leaveReset t i d) := h.modIsl.showResets.islandResume

theorem Tame.islandExit {t : Time} {i : Nat} (h : Tame ps e d) [∀ x, Fact (x ∈ ps)] :
    Tame ps e (islandExit t i d) := Tame.ite (Tame.ite h.leaveReset.wideEnd h.leaveReset.resetEnded) h

theorem Tame.doIrst {t : Time} {i : Nat} (h : Tame ps e d) [∀ x, Fact (x ∈ ps)] :
    Tame ps e (doIrst t d i) := h.islandLose.resetWords.islandAfter.modIsl.keys.showResets

/-- Where every part may change, the canonical tables are all that is asked. -/
theorem Tame.ofAll (h : Tame ps e d) [hall : ∀ x, Fact (x ∈ ps)] {f : Dev} (hr : f.regs = d.regs)
    (hm : f.hmp.mem = d.hmp.mem) :
    Tame ps e f :=
  ⟨fun x hx => absurd (hall x).out hx, fun w => hr ▸ h.regs w, fun w => hm ▸ h.mem w⟩

theorem Tame.doSrst {t : Time} {wide : ResetReq} {cfg : Bool} (h : Tame ps e d) [∀ x, Fact (x ∈ ps)] :
    Tame ps e (doSrst t wide cfg d) := by
  unfold Machine.doSrst
  have h1 := h.keyPfw.dspFree.hstLose (t := t) (cfg := cfg)
  obtain ⟨d1, hd⟩ := exists_eq_of (Machine.hstLose t cfg (Machine.dspFree (Machine.keyPfw d)))
  rw [← hd] at h1 ⊢
  clear hd
  refine Tame.showResets (Tame.keepLink (Tame.xaornAgain (Tame.modPwr (Tame.foldl
    (Tame.resetWords ?_) fun _ _ hx => hx.modIsl))))
  exact h1.ofAll rfl rfl

theorem Tame.doHrst0 {t : Time} (h : Tame ps e d) [Fact (.pwr ∈ ps)] [Fact (.isl ∈ ps)] [Fact (.tkp ∈ ps)]
    [Fact (.hif ∈ ps)] [Fact (.rdr ∈ ps)] [Fact (.cmp ∈ ps)] [Fact (.ports ∈ ps)] [Fact (.pairs ∈ ps)] [Fact (.keys ∈ ps)]
    [Fact (.aln ∈ ps)] [Fact (.dsp ∈ ps)] :
    Tame ps e (doHrst0 t d) := h.dspFree.hstLose.resetWords.keepLink.modIsl.modPwr.showResets

theorem Tame.doReset {t : Time} {r : ResetReq} (h : Tame ps e d) [∀ x, Fact (x ∈ ps)] :
    Tame ps e (doReset t r d) := by
  unfold Machine.doReset
  dsimp only
  split
  · exact h
  · exact h.foldl fun _ _ h2 => h2.doIrst
  · exact Tame.ite h h.doHrst0
  · exact Tame.ite h h.doSrst
  · exact Tame.ite h h.doSrst

theorem Tame.wakeCause {t : Time} (h : Tame ps e d) [Fact (.pwr ∈ ps)] :
    Tame ps e (wakeCause t d) := by
  unfold Machine.wakeCause
  split
  · exact h.modPwr
  · exact h.modPwr
  · exact h.modPwr
  · exact h

theorem Tame.startReset {t : Time} {r : ResetReq} (h : Tame ps e d) [∀ x, Fact (x ∈ ps)] :
    Tame ps e (startReset t r d) := Tame.ite h.doReset h.modPwr.wakeCause

theorem Tame.softReset {t : Time} {v : Word32} (h : Tame ps e d) [∀ x, Fact (x ∈ ps)] :
    Tame ps e (softReset t v d) := Tame.ite h (Tame.ite h.startReset h.cause)

theorem Tame.islandReset {t : Time} {hi : Bool} {v : Word32} (h : Tame ps e d) [∀ x, Fact (x ∈ ps)] :
    Tame ps e (islandReset t hi v d) := Tame.ite h h.startReset

theorem Tame.linkGone (h : Tame ps e d) [Fact (.hif ∈ ps)] :
    Tame ps e (linkGone d) := h.set.set.set.hif

theorem Tame.startHrst {t : Time} (h : Tame ps e d) [∀ x, Fact (x ∈ ps)] :
    Tame ps e (startHrst t d) := Tame.ite h.startReset.modIsl.showResets h.startReset

theorem Tame.perstAssert {t : Time} (h : Tame ps e d) [∀ x, Fact (x ∈ ps)] :
    Tame ps e (perstAssert t d) := Tame.ite h (Tame.ite h.modPwr h.modPwr.startHrst.linkGone.hif)

theorem Tame.perstRelease {t : Time} (h : Tame ps e d) [∀ x, Fact (x ∈ ps)] :
    Tame ps e (perstRelease t d) := Tame.ite h (Tame.ite h.modPwr (Tame.ite h.modPwr.hif.leaveReset h.modPwr.hif))

theorem Tame.heldHrst {t : Time} {hot : Bool} (h : Tame ps e d) [∀ x, Fact (x ∈ ps)] :
    Tame ps e (heldHrst t hot d) := Tame.ite h (Tame.hif (Tame.ite h.modPwr.startHrst.linkGone h.modPwr.startHrst))

theorem Tame.hstRelease {t : Time} (h : Tame ps e d) [∀ x, Fact (x ∈ ps)] :
    Tame ps e (hstRelease t d) :=
  Tame.ite h (Tame.ite h.modPwr.hif.islandExit (Tame.ite h.modPwr.hif.leaveReset h.modPwr.hif))

theorem Tame.pcieLinkUp {width speed : Nat} (h : Tame ps e d) [Fact (.hif ∈ ps)] :
    Tame ps e (pcieLinkUp width speed d) := Tame.ite h.set.set.set.hif h

theorem Tame.mgtLinkChange {up : Bool} {speed : Nat} (h : Tame ps e d) :
    Tame ps e (mgtLinkChange up speed d) := Tame.ite h (Tame.ite h.setB.set h.setB.set.cause)

theorem Tame.deviceReady (h : Tame ps e d) :
    Tame ps e (deviceReady d) := Tame.ite h.set.cause h

theorem Tame.porDev [hall : ∀ x, Fact (x ∈ ps)] : Tame ps e (porDev d) :=
  ⟨fun x hx => absurd (hall x).out hx, fun _ => rfl, fun _ => rfl⟩

theorem Tame.enterPor [hall : ∀ x, Fact (x ∈ ps)] : Tame ps e (enterPor d).2.2 := Tame.porDev

theorem Tame.thermalTrip {tj : Int} {t : Time} {lb : Logbook} (h : Tame ps e d) [∀ x, Fact (x ∈ ps)] :
    Tame ps e (thermalTrip tj t lb d).2.2 := .iteLast Tame.enterPor (.iteLast h.pwr h)

theorem Tame.bootSettings (h : Tame ps e d) :
    Tame ps e (bootSettings d) := by
  unfold Machine.bootSettings
  split
  · exact h.set
  · exact h.set.set

theorem Tame.porRelease {t : Time} {b : BootInfo} (h : Tame ps e d) [Fact (.pwr ∈ ps)] [Fact (.isl ∈ ps)] [Fact (.tkp ∈ ps)]
    [Fact (.hif ∈ ps)] [Fact (.hmp ∈ ps)] [Fact (.keys ∈ ps)] :
    Tame ps e (porRelease t b d) :=
  Tame.ite h (Tame.hif (Tame.xaornBoot (Tame.ite
    ((h.modPwr.resetEnded.setB.bootSettings.setB.setB.hamperSelfTest.modKeys.keyLoad.foldl
    fun _ _ h15 => h15.modIsl).scrubStart)
    (h.modPwr.resetEnded.setB.bootSettings.setB.setB.hamperSelfTest.modKeys.keyLoad.foldl fun _ _ h14 => h14.modIsl))))

/-! ## Doze -/

/-- Doze loses what the pairs, the modal monitor and the probes hold. -/
theorem Tame.dozeLost (h : Tame ps e d) [hall : ∀ x, Fact (x ∈ ps)] :
    Tame ps e { d with pairs := [], mdl := default, lko := [] } := h.ofAll rfl rfl

theorem Tame.dozeGate {t : Time} (h : Tame ps e d) [∀ x, Fact (x ∈ ps)] :
    Tame ps e (dozeGate t d) := by
  have h2 := (h.overAll (n := 16) (f := Machine.portDoze) fun _ _ hx => hx.portDoze)
    |>.rulReset.ingReset.alnReset.adcReset.captureStop.cmpReset.fabricStop
  exact Tame.hif (Tame.foldl (h2.dozeLost).scrubStop.resetWords.fltReset fun _ _ hx => .ite hx.modIsl hx)

theorem Tame.dozeEnter {t : Time} (h : Tame ps e d) [∀ x, Fact (x ∈ ps)] :
    Tame ps e (dozeEnter t d) := by
  unfold Machine.dozeEnter
  dsimp only
  exact Tame.ite h (by
    split
    · exact Tame.ite h.set.cause (Tame.ite h.modPwr h.dozeGate.modPwr)
    · exact h.set.cause
    · exact h)

theorem Tame.wakeTakeUp (h : Tame ps e d) [Fact (.pwr ∈ ps)] :
    Tame ps e (wakeTakeUp d) := by
  unfold Machine.wakeTakeUp
  exact h.modPwr

theorem Tame.dozeEntryDone {t : Time} (h : Tame ps e d) [∀ x, Fact (x ∈ ps)] :
    Tame ps e (dozeEntryDone t d) := by
  unfold Machine.dozeEntryDone
  dsimp only
  split
  · exact Tame.ite h.set.set.event.modPwr.wakeTakeUp.wakeCause h.set.set.event.modPwr.wakeTakeUp
  · exact Tame.ite h
      (Tame.ite h.dozeGate.set.set.event.modPwr.wakeTakeUp.wakeCause h.dozeGate.set.set.event.modPwr.wakeTakeUp)
  · exact h

theorem Tame.writeGlbWake {v : Word32} (h : Tame ps e d) [Fact (.pwr ∈ ps)] :
    Tame ps e (writeGlbWake v d) := Tame.ite (Tame.ite h.putWord.modPwr (Tame.ite h.putWord.wakeTakeUp h.putWord)) h.putWord

theorem Tame.timedWake {t : Time} (h : Tame ps e d) [Fact (.pwr ∈ ps)] :
    Tame ps e (timedWake t d) := by
  unfold Machine.timedWake
  dsimp only
  split
  · exact h
  · exact Tame.ite h (by
    split
    · exact h
    · exact h.set.modPwr
    · exact h.set.wakeCause)

theorem Tame.wakeDone {t : Time} (h : Tame ps e d) [∀ x, Fact (x ∈ ps)] :
    Tame ps e (wakeDone t d) :=
  Tame.ite h (Tame.doReset (Tame.foldl (Tame.ralmFailsafe (Tame.showResets (Tame.cause
    (((h.modPwr.foldl fun _ _ h15 => Tame.ite h15.modIsl h15).set).event)))) fun _ _ h9 => h9.islandResume))

theorem Tame.islandClockFail {t : Time} {i : Nat} (h : Tame ps e d) [∀ x, Fact (x ∈ ps)] :
    Tame ps e (islandClockFail t i d) :=
  Tame.ite h (Tame.clockInteg (Tame.modIsl (Tame.ite h.event.cause.doIrst h.event.cause)))

theorem Tame.islandClockRecover {t : Time} {i : Nat} (h : Tame ps e d) [∀ x, Fact (x ∈ ps)] :
    Tame ps e (islandClockRecover t i d) := Tame.ite h h.modIsl.islandExit

theorem Tame.sourceFail {t : Time} {other : Bool} {src : Nat} (h : Tame ps e d) [∀ x, Fact (x ∈ ps)] :
    Tame ps e (sourceFail t other src d) :=
  Tame.clockInteg (Tame.ite ((h.event.cause.foldl fun _ _ h6 => h6.doIrst).set)
    (((h.event.cause.foldl fun _ _ h7 => h7.doIrst).foldl fun _ _ h6 => h6.modIsl).modPwr))

theorem Tame.refclkFail {t : Time} (h : Tame ps e d) [∀ x, Fact (x ∈ ps)] :
    Tame ps e (refclkFail t d) := Tame.ite h (Tame.ite h.modPwr h.modPwr.sourceFail)

theorem Tame.osc10mFail {t : Time} (h : Tame ps e d) [∀ x, Fact (x ∈ ps)] :
    Tame ps e (osc10mFail t d) := Tame.ite h (Tame.ite h.set.modPwr h.set.modPwr.sourceFail)

theorem Tame.refclkReturn {t : Time} {osc : Bool} (h : Tame ps e d) [∀ x, Fact (x ∈ ps)] :
    Tame ps e (refclkReturn t osc d) :=
  Tame.ite h (Tame.ite (Tame.ite h.set.modPwr h.modPwr) (Tame.foldl (Tame.foldl (Tame.modPwr (Tame.set
    (Tame.ite h.set.modPwr h.modPwr))) fun _ _ h7 => h7.modIsl) fun _ _ h6 => h6.islandExit))

/-! ## PTP messages -/

theorem Tame.ptpLooped {n : Nat} {m : PtpMsg} {take : Bool} (h : Tame ps e d) [Fact (.ports ∈ ps)] :
    Tame ps e (ptpLooped n m take d).2 := by
  unfold Machine.ptpLooped
  exact Tame.iteSnd h (Tame.iteSnd h (Tame.snd (Tame.ite h.modPort h)))

theorem Tame.dropStamps {n : Nat} {m : PtpType} (h : Tame ps e d) [Fact (.ports ∈ ps)] :
    Tame ps e (dropStamps n m d) := h.foldl fun _ _ h0 => Tame.ite h0.freeStamp h0

theorem Tame.requestDone {n : Nat} {m : PtpType} (h : Tame ps e d) [Fact (.ports ∈ ps)] :
    Tame ps e (requestDone n m d) := by
  unfold Machine.requestDone
  split
  · exact h.dropStamps
  · exact h.dropStamps
  · exact h

theorem Tame.ptpUse {t : Time} {n : Nat} {m : PtpMsg} (h : Tame ps e d) [Fact (.tkp ∈ ps)] [Fact (.ports ∈ ps)] :
    Tame ps e (ptpUse t n m d) := by
  unfold Machine.ptpUse
  dsimp only
  split
  · exact Tame.refSample (by
    split
    · exact Tame.ite h.requestDone.modPtp h.requestDone
    · exact h.requestDone)
  · split
    · exact Tame.ite h.requestDone.modPtp h.requestDone
    · exact h.requestDone

theorem Tame.ptpReceive {t : Time} {n : Nat} {m : PtpMsg} (h : Tame ps e d) [Fact (.tkp ∈ ps)] [Fact (.ports ∈ ps)]
    [Fact (.keys ∈ ps)] :
    Tame ps e (ptpReceive t n m d) := by
  unfold Machine.ptpReceive
  exact Tame.ite h (by
    split
    · exact (Tame.ofPair h.ptpLooped ‹_›)
    · split
      · exact (Tame.ofPair (Tame.ptpJudge ((Tame.ofPair h.ptpLooped ‹_›))) ‹_›)
      · exact Tame.ite (Tame.ptpUse ((Tame.ofPair (Tame.ptpJudge ((Tame.ofPair h.ptpLooped ‹_›))) ‹_›))) ((Tame.ofPair
          (Tame.ptpJudge ((Tame.ofPair h.ptpLooped ‹_›))) ‹_›)))

theorem Tame.ptpQueue {n : Nat} {m : PtpType} {vs : List Int} (h : Tame ps e d) [Fact (.tkp ∈ ps)] [Fact (.hif ∈ ps)]
    [Fact (.ports ∈ ps)] [Fact (.pairs ∈ ps)] [Fact (.keys ∈ ps)] :
    Tame ps e (ptpQueue n m vs d) := by
  unfold Machine.ptpQueue
  exact Tame.ite (Tame.sendTx (Tame.modPtp (Tame.iteSnd (by
    split
    · exact (Tame.ofPair h.keyUse ‹_›)
    · exact (Tame.ofPair h.keyUse ‹_›)) h))) (Tame.bcDrop (Tame.iteSnd (by
    split
    · exact (Tame.ofPair h.keyUse ‹_›)
    · exact (Tame.ofPair h.keyUse ‹_›)) h))

theorem Tame.followUp {n : Nat} {of m : PtpType} (h : Tame ps e d) [Fact (.tkp ∈ ps)] [Fact (.hif ∈ ps)]
    [Fact (.ports ∈ ps)] [Fact (.pairs ∈ ps)] [Fact (.keys ∈ ps)] :
    Tame ps e (followUp n of m d) := by
  unfold Machine.followUp
  split
  · exact h.freeStamp.ptpQueue
  · exact h

theorem Tame.ptpTransmit {n : Nat} {m : PtpType} (h : Tame ps e d) [Fact (.tkp ∈ ps)] [Fact (.hif ∈ ps)]
    [Fact (.ports ∈ ps)] [Fact (.pairs ∈ ps)] [Fact (.keys ∈ ps)] [Fact (.free ∈ ps)] :
    Tame ps e (ptpTransmit n m d) := by
  unfold Machine.ptpTransmit
  exact Tame.ite h (Tame.ite h.xaornPtp (by
    split
    · exact h.xaornPtp.followUp
    · exact h.xaornPtp.followUp
    · exact h.xaornPtp
    · exact h.xaornPtp.dropStamps.ptpQueue
    · exact h.xaornPtp.dropStamps.ptpQueue
    · exact h.xaornPtp.ptpQueue))

theorem Tame.announceTransmit {n : Nat} (h : Tame ps e d) [Fact (.tkp ∈ ps)] [Fact (.hif ∈ ps)] [Fact (.ports ∈ ps)]
    [Fact (.pairs ∈ ps)] [Fact (.keys ∈ ps)] [Fact (.free ∈ ps)] :
    Tame ps e (announceTransmit n d) := Tame.ite h (Tame.ite h.xaornPtp.ptpQueue h.xaornPtp)

theorem Tame.tcForward {t : Time} {n : Nat} {m : PtpMsg} {arrQ : Nat} (h : Tame ps e d) [Fact (.tkp ∈ ps)]
    [Fact (.hif ∈ ps)] [Fact (.ports ∈ ps)] [Fact (.pairs ∈ ps)] [Fact (.keys ∈ ps)] :
    Tame ps e (tcForward t n m arrQ d) := by
  unfold Machine.tcForward
  exact Tame.ite h (by
    split
    · exact (Tame.ofPair h.ptpLooped ‹_›)
    · split
      · exact (Tame.ofPair (Tame.iteSnd (Tame.ptpJudged ((Tame.ofPair h.ptpLooped ‹_›))) (Tame.ptpJudge
          ((Tame.ofPair h.ptpLooped ‹_›)))) ‹_›)
      · exact Tame.sendTx ((Tame.ofPair (Tame.iteSnd (Tame.ptpJudged ((Tame.ofPair h.ptpLooped ‹_›))) (Tame.ptpJudge
          ((Tame.ofPair h.ptpLooped ‹_›)))) ‹_›)))

end Sys2Proof.Machine

/-!
PROOFS. What the meanings of the accesses of the bus may touch.
-/

namespace Sys2Proof.Machine

open Sys2Proof

variable {ps : List StatePart} {e d : Dev}

/-! ## Writes of registers: AON, timekeeper, Hamper, ports -/

theorem Tame.enableRises {a : Nat} {old : Word32} (h : Tame ps e d) :
    Tame ps e (enableRises a old d) := by
  unfold Machine.enableRises
  split
  · exact Tame.ite h.request h
  · exact h

theorem Tame.plainWrite {a : Nat} {v : Word32} (h : Tame ps e d) :
    Tame ps e (plainWrite a v d) := h.rput.enableRises

theorem Tame.writeKeeping {fs : List Field} {a : Nat} {v : Word32} (h : Tame ps e d) :
    Tame ps e (writeKeeping fs a v d) := h.plainWrite

theorem Tame.writeChecked {f : Field} {ok : Bool} {rej : Dev → Dev} {a : Nat} {v : Word32} (h : Tame ps e d)
    (hf : ∀ x, Tame ps e x → Tame ps e (rej x)) :
    Tame ps e (writeChecked f ok rej a v d) := Tame.ite h.plainWrite (hf _ h.writeKeeping)

theorem Tame.writeHeld {fs : List Field} {rej : Dev → Dev} {a : Nat} {v : Word32} (h : Tame ps e d)
    (hf : ∀ x, Tame ps e x → Tame ps e (rej x)) :
    Tame ps e (writeHeld fs rej a v d) := Tame.ite (hf _ h.writeKeeping) h.writeKeeping

theorem Tame.letGo {eng inst : Nat} {slots : List Nat} (h : Tame ps e d) [Fact (.keys ∈ ps)] :
    Tame ps e (letGo eng inst slots d) := h.keys

theorem Tame.splitStored {v : Word32} (h : Tame ps e d) :
    Tame ps e (splitStored v d) := Tame.ite h.writeKeeping.set h.writeKeeping

theorem Tame.captureSplit (h : Tame ps e d) [Fact (.cap ∈ ps)] :
    Tame ps e (captureSplit d) := h.foldl fun _ _ h0 => Tame.ite h0.engIdle h0

theorem Tame.rulesSplit {t : Time} (h : Tame ps e d) [Fact (.rul ∈ ps)] :
    Tame ps e (rulesSplit t d) := Tame.ite (Tame.pinsUpdate (Tame.ite h h.rulTakeMode.setB)) (Tame.ite h h.rulTakeMode.setB)

theorem Tame.splitEffects {t : Time} {old : Dev} (h : Tame ps e d) [Fact (.hif ∈ ps)] [Fact (.hmp ∈ ps)]
    [Fact (.ports ∈ ps)] [Fact (.pairs ∈ ps)] [Fact (.keys ∈ ps)] [Fact (.aln ∈ ps)] [Fact (.flt ∈ ps)] [Fact (.dsp ∈ ps)]
    [Fact (.dxl ∈ ps)] [Fact (.cap ∈ ps)] [Fact (.rul ∈ ps)] [Fact (.mdl ∈ ps)] [Fact (.free ∈ ps)] :
    Tame ps e (splitEffects t old d) :=
  Tame.ite (Tame.nextAll (Tame.ite (Tame.captureSplit (Tame.ite (Tame.modalSplit (Tame.ite (Tame.rulesSplit (Tame.ite
    (Tame.fltSplit (Tame.ite h.alnSplit h)) (Tame.ite h.alnSplit h))) (Tame.ite (Tame.fltSplit (Tame.ite h.alnSplit h))
    (Tame.ite h.alnSplit h)))) (Tame.ite (Tame.rulesSplit (Tame.ite (Tame.fltSplit (Tame.ite h.alnSplit h))
    (Tame.ite h.alnSplit h))) (Tame.ite (Tame.fltSplit (Tame.ite h.alnSplit h)) (Tame.ite h.alnSplit h))))) (Tame.ite
    (Tame.modalSplit (Tame.ite (Tame.rulesSplit (Tame.ite (Tame.fltSplit (Tame.ite h.alnSplit h)) (Tame.ite h.alnSplit h)))
    (Tame.ite (Tame.fltSplit (Tame.ite h.alnSplit h)) (Tame.ite h.alnSplit h)))) (Tame.ite (Tame.rulesSplit (Tame.ite
    (Tame.fltSplit (Tame.ite h.alnSplit h)) (Tame.ite h.alnSplit h))) (Tame.ite (Tame.fltSplit (Tame.ite h.alnSplit h))
    (Tame.ite h.alnSplit h)))))) (Tame.ite (Tame.captureSplit (Tame.ite (Tame.modalSplit (Tame.ite (Tame.rulesSplit
    (Tame.ite (Tame.fltSplit (Tame.ite h.alnSplit h)) (Tame.ite h.alnSplit h))) (Tame.ite (Tame.fltSplit
    (Tame.ite h.alnSplit h)) (Tame.ite h.alnSplit h)))) (Tame.ite (Tame.rulesSplit (Tame.ite (Tame.fltSplit
    (Tame.ite h.alnSplit h)) (Tame.ite h.alnSplit h))) (Tame.ite (Tame.fltSplit (Tame.ite h.alnSplit h))
    (Tame.ite h.alnSplit h))))) (Tame.ite (Tame.modalSplit (Tame.ite (Tame.rulesSplit (Tame.ite (Tame.fltSplit
    (Tame.ite h.alnSplit h)) (Tame.ite h.alnSplit h))) (Tame.ite (Tame.fltSplit (Tame.ite h.alnSplit h))
    (Tame.ite h.alnSplit h)))) (Tame.ite (Tame.rulesSplit (Tame.ite (Tame.fltSplit (Tame.ite h.alnSplit h))
    (Tame.ite h.alnSplit h))) (Tame.ite (Tame.fltSplit (Tame.ite h.alnSplit h)) (Tame.ite h.alnSplit h)))))

theorem Tame.writeSplit {t : Time} {v : Word32} (h : Tame ps e d) [Fact (.hif ∈ ps)] [Fact (.hmp ∈ ps)] [Fact (.ports ∈ ps)]
    [Fact (.pairs ∈ ps)] [Fact (.keys ∈ ps)] [Fact (.aln ∈ ps)] [Fact (.flt ∈ ps)] [Fact (.dsp ∈ ps)] [Fact (.dxl ∈ ps)]
    [Fact (.cap ∈ ps)] [Fact (.rul ∈ ps)] [Fact (.mdl ∈ ps)] [Fact (.free ∈ ps)] :
    Tame ps e (writeSplit t v d) := h.splitStored.splitEffects

theorem Tame.glbLock (h : Tame ps e d) :
    Tame ps e (glbLock d) := h.set

theorem Tame.writeDoze {t : Time} {v : Word32} (h : Tame ps e d) [∀ x, Fact (x ∈ ps)] :
    Tame ps e (writeDoze t v d) := Tame.ite (Tame.wakeCause (Tame.ite h.dozeEnter h)) (Tame.ite h.dozeEnter h)

theorem Tame.writeGlb {t : Time} {a : Nat} {v : Word32} (h : Tame ps e d) [∀ x, Fact (x ∈ ps)] :
    Tame ps e (writeGlb t a v d) := by
  unfold Machine.writeGlb
  split
  · exact h.softReset
  · exact h.islandReset
  · exact h.islandReset
  · exact Tame.ite h.glbLock h
  · exact h.writeSplit
  · exact h.writeDoze
  · exact h.writeGlbWake
  · exact h.plainWrite

theorem Tame.tkpRej (h : Tame ps e d) :
    Tame ps e (tkpRej d) := h.cause

theorem Tame.writeServo {t : Time} {v : Word32} (h : Tame ps e d) [Fact (.tkp ∈ ps)] :
    Tame ps e (writeServo t v d) := by
  unfold Machine.writeServo
  exact Tame.ite h.plainWrite h.plainWrite.modTkp

theorem Tame.writePtp {v : Word32} (h : Tame ps e d) [Fact (.keys ∈ ps)] :
    Tame ps e (writePtp v d) := Tame.ite h (Tame.ite h.writeKeeping.letGo h.writeKeeping.letGo.tkpRej)

theorem Tame.writeRefCfg {n : Nat} {v : Word32} (h : Tame ps e d) [Fact (.tkp ∈ ps)] :
    Tame ps e (writeRefCfg n v d) := Tame.ite h.tkpRej (Tame.ite h h.cmpForget.setN.setRef.setSuspect)

theorem Tame.writeRefStat {n : Nat} {v : Word32} (h : Tame ps e d) :
    Tame ps e (writeRefStat n v d) := Tame.ite h.setSuspect h

theorem Tame.writeTkp {t : Time} {a : Nat} {v : Word32} (h : Tame ps e d) [Fact (.tkp ∈ ps)] [Fact (.keys ∈ ps)] :
    Tame ps e (writeTkp t a v d) := by
  unfold Machine.writeTkp
  split
  · exact h.writeFreqLo
  · exact h.writeFreqHi
  · exact h.writeAdj
  · exact h.writeServo
  · exact h.plainWrite.utcWritten
  · exact h.plainWrite.tinWritten
  · exact h.writePtp
  · exact h.plainWrite.ppsRealign
  · exact Tame.ite h.tkpRej h.plainWrite
  · exact Tame.ite h.tkpRej h.plainWrite
  · exact Tame.ite h.writeRefCfg (Tame.ite h.writeRefStat h.plainWrite)

theorem Tame.writeHmp {t : Time} {a : Nat} {v : Word32} (h : Tame ps e d) [Fact (.hmp ∈ ps)] :
    Tame ps e (writeHmp t a v d) := Tame.ite h.plainWrite.scrubEnable (Tame.ite h.writeHmpPart h.plainWrite)

theorem Tame.fpRej {n : Nat} (h : Tame ps e d) :
    Tame ps e (fpRej n d) := h.cause

theorem Tame.writePair {n : Nat} {v : Word32} (h : Tame ps e d) :
    Tame ps e (writePair n v d) := Tame.ite h (h.writeChecked (fun _ h4 => h4.fpRej))

theorem Tame.writeTasCtrl {t : Time} {n : Nat} {v : Word32} (h : Tame ps e d) [Fact (.ports ∈ ps)] :
    Tame ps e (writeTasCtrl t n v d) :=
  Tame.ite (Tame.configChange (Tame.ite h.writeKeeping.fpRej h.plainWrite)) (Tame.ite h.writeKeeping.fpRej h.plainWrite)

theorem Tame.writeGate {n a : Nat} {v : Word32} (h : Tame ps e d) :
    Tame ps e (writeGate n a v d) := Tame.ite h.fpRej h.plainWrite

theorem Tame.writeTxSa {n : Nat} {v : Word32} (h : Tame ps e d) [Fact (.keys ∈ ps)] :
    Tame ps e (writeTxSa n v d) := Tame.ite h.plainWrite.letGo.setN h.plainWrite.letGo

theorem Tame.writeSci {n : Nat} {hi : Bool} {v : Word32} (h : Tame ps e d) [Fact (.ports ∈ ps)] :
    Tame ps e (writeSci n hi v d) := h.modPort

theorem Tame.writeRxSa {n : Nat} {v : Word32} (h : Tame ps e d) [Fact (.ports ∈ ps)] [Fact (.keys ∈ ps)] :
    Tame ps e (writeRxSa n v d) := h.modPort.letGo

theorem Tame.writeFp {t : Time} {a : Nat} {v : Word32} (h : Tame ps e d) [Fact (.ports ∈ ps)] [Fact (.keys ∈ ps)] :
    Tame ps e (Machine.writeFp t a v d) := by
  have key : Holds (fun f => ∀ t a v d, Tame ps e d → Tame ps e (f t a v d)) Machine.writeFp := by
    delta Machine.writeFp
    delta Holds
    beta_reduce
    intro t a v d h
    obtain ⟨n, hn⟩ := exists_eq_of ((a - 0x40000) / 0x2000)
    obtain ⟨o, ho⟩ := exists_eq_of ((a - 0x40000) % 0x2000)
    rw [← hn, ← ho]
    clear hn ho
    have hadm : Tame ps e
      (if d.onN Reg.FP_TAS_STAT.PENDING n = true then Machine.fpRej n d else Machine.plainWrite a v d) :=
      .ite h.fpRej h.plainWrite
    dsimp only

    split
    · exact h.writeFpCtrl
    · exact h.writeChecked (fun _ h5 => h5.fpRej)
    · exact h.writeChecked (fun _ h4 => h4.fpRej)
    · exact h.writeChecked (fun _ h4 => h4.fpRej)
    · exact h.writePair
    · exact h.writeTasCtrl
    · exact hadm
    · exact hadm
    · exact hadm
    · exact hadm
    · exact hadm
    · exact h.writeChecked (fun _ h4 => h4.fpRej)
    · exact h.writeTxSa
    · exact h.writeSci
    · exact h.writeSci
    · exact h.writeRxSa
    · exact Tame.ite h.writeGate h.plainWrite
  exact key t a v d h

theorem Tame.dxlRej (h : Tame ps e d) :
    Tame ps e (dxlRej d) := h.cause

theorem Tame.writeDxlCtrl {t : Time} {v : Word32} (h : Tame ps e d) [Fact (.dxl ∈ ps)] :
    Tame ps e (writeDxlCtrl t v d) := Tame.ite (Tame.ite h h.fabricStart) (Tame.ite h.fabricStop.set h)

theorem Tame.writeRelay {v : Word32} (h : Tame ps e d) :
    Tame ps e (writeRelay v d) :=
  Tame.ite ((h.writeHeld (fun _ h4 => h4.dxlRej)).relayEnable) ((h.writeHeld (fun _ h4 => h4.dxlRej)).set)

theorem Tame.writeLinkCfg {l : Nat} {v : Word32} (h : Tame ps e d) [Fact (.keys ∈ ps)] [Fact (.dxl ∈ ps)] :
    Tame ps e (writeLinkCfg l v d) :=
  Tame.ite h.dxlRej (Tame.ite (Tame.linkEnable (Tame.letGo (Tame.ite (h.writeHeld (fun _ h12 => h12.dxlRej)) h.plainWrite)))
    (Tame.letGo (Tame.ite (h.writeHeld (fun _ h11 => h11.dxlRej)) h.plainWrite)))

theorem Tame.writeDxl {t : Time} {a : Nat} {v : Word32} (h : Tame ps e d) [Fact (.keys ∈ ps)] [Fact (.dxl ∈ ps)] :
    Tame ps e (writeDxl t a v d) := by
  unfold Machine.writeDxl
  split
  · exact h.writeDxlCtrl
  · exact h.writeChecked (fun _ h2 => h2.dxlRej)
  · exact h.writeRelay
  · exact Tame.ite h.dxlRej h.plainWrite
  · exact Tame.ite (Tame.ite h.writeLinkCfg (Tame.ite (Tame.ite h.dxlRej h.plainWrite) (Tame.ite (h.writeChecked
      (fun _ h8 => h8.dxlRej)) h.plainWrite))) h.plainWrite

/-! ## Writes of registers: fabric, ingest, Roll Call, filters, rules -/

theorem Tame.tableWrite {held : Bool} {rej : Dev → Dev} {a : Nat} {v : Word32} (h : Tame ps e d)
    (hf : ∀ x, Tame ps e x → Tame ps e (rej x)) :
    Tame ps e (tableWrite held rej a v d) := Tame.ite (hf _ h) h.putWord

theorem Tame.ingestKeys (h : Tame ps e d) [Fact (.keys ∈ ps)] :
    Tame ps e (ingestKeys d) := Tame.ite h.letGo h

theorem Tame.writeGoose {a : Nat} {v : Word32} (h : Tame ps e d) [Fact (.ing ∈ ps)] :
    Tame ps e (writeGoose a v d) := Tame.ite h.putWord.modGoose h.putWord

theorem Tame.writeIng {t : Time} {a : Nat} {v : Word32} (h : Tame ps e d) [Fact (.hif ∈ ps)] [Fact (.hmp ∈ ps)]
    [Fact (.ports ∈ ps)] [Fact (.pairs ∈ ps)] [Fact (.keys ∈ ps)] [Fact (.ing ∈ ps)] [Fact (.aln ∈ ps)] [Fact (.dsp ∈ ps)]
    [Fact (.dxl ∈ ps)] [Fact (.cap ∈ ps)] [Fact (.rul ∈ ps)] [Fact (.mdl ∈ ps)] [Fact (.free ∈ ps)] :
    Tame ps e (writeIng t a v d) :=
  Tame.ite h.plainWrite (Tame.ite h.writeSourceEntry.ingestKeys (Tame.ite h.writeGoose.ingestKeys
    (Tame.ite h.putWord.ingestKeys h.plainWrite)))

theorem Tame.writeAlnCtrl {t : Time} {v : Word32} (h : Tame ps e d) [Fact (.hif ∈ ps)] [Fact (.hmp ∈ ps)]
    [Fact (.ports ∈ ps)] [Fact (.pairs ∈ ps)] [Fact (.keys ∈ ps)] [Fact (.aln ∈ ps)] [Fact (.dsp ∈ ps)] [Fact (.dxl ∈ ps)]
    [Fact (.cap ∈ ps)] [Fact (.rul ∈ ps)] [Fact (.mdl ∈ ps)] [Fact (.free ∈ ps)] :
    Tame ps e (writeAlnCtrl t v d) :=
  Tame.ite (Tame.ite (Tame.ite (h.writeHeld (fun _ h6 => h6.alnRej)) (h.writeChecked (fun _ h6 => h6.alnRej)))
    (Tame.rollCallStart (Tame.ite (h.writeHeld (fun _ h7 => h7.alnRej)) (h.writeChecked (fun _ h7 => h7.alnRej)))))
    (Tame.ite (Tame.rollCallStop (Tame.ite (h.writeHeld (fun _ h7 => h7.alnRej)) (h.writeChecked (fun _ h7 => h7.alnRej))))
    (Tame.ite (h.writeHeld (fun _ h6 => h6.alnRej)) (h.writeChecked (fun _ h6 => h6.alnRej))))

theorem Tame.writeAlnWait {v : Word32} (h : Tame ps e d) :
    Tame ps e (writeAlnWait v d) := Tame.ite h.alnRej h.plainWrite

theorem Tame.writeCoef {k : Nat} {v : Word32} (h : Tame ps e d) :
    Tame ps e (writeCoef k v d) := Tame.ite h.alnRej h.plainWrite

theorem Tame.writeOutCfg {t : Time} {n : Nat} {v : Word32} (h : Tame ps e d) [Fact (.keys ∈ ps)] [Fact (.aln ∈ ps)] :
    Tame ps e (writeOutCfg t n v d) :=
  Tame.letGo (Tame.ite (Tame.ite (h.writeHeld (fun _ h7 => h7.alnRej)) ((h.writeHeld (fun _ h8 => h8.alnRej)).outputOff))
    (Tame.ite h.plainWrite.outputEnable h.plainWrite))

theorem Tame.writeAln {t : Time} {a : Nat} {v : Word32} (h : Tame ps e d) [Fact (.hif ∈ ps)] [Fact (.hmp ∈ ps)]
    [Fact (.ports ∈ ps)] [Fact (.pairs ∈ ps)] [Fact (.keys ∈ ps)] [Fact (.aln ∈ ps)] [Fact (.dsp ∈ ps)] [Fact (.dxl ∈ ps)]
    [Fact (.cap ∈ ps)] [Fact (.rul ∈ ps)] [Fact (.mdl ∈ ps)] [Fact (.free ∈ ps)] :
    Tame ps e (writeAln t a v d) :=
  Tame.ite h.writeAlnCtrl (Tame.ite h.writeAlnWait (Tame.ite h.writeCoef (Tame.ite (Tame.ite h.writeOutCfg
    (Tame.ite h.alnRej h.plainWrite)) (Tame.ite h.plainWrite (Tame.ite (Tame.ite h.attrWrite h.plainWrite) (Tame.ite
    (h.tableWrite (fun _ h7 => h7.alnRej)) (Tame.ite (h.tableWrite (fun _ h8 => h8.alnRej)) h.plainWrite)))))))

theorem Tame.writeAdcCtrl {v : Word32} (h : Tame ps e d) :
    Tame ps e (writeAdcCtrl v d) := Tame.ite h.writeKeeping h.writeKeeping.adcRej

theorem Tame.writeAdcRef {t : Time} {v : Word32} (h : Tame ps e d) [Fact (.adc ∈ ps)] :
    Tame ps e (writeAdcRef t v d) :=
  Tame.ite (Tame.refEnable (Tame.ite (h.writeHeld (fun _ h6 => h6.adcRej)) h.plainWrite)) (Tame.ite (Tame.refOff (Tame.set
    (Tame.ite (h.writeHeld (fun _ h8 => h8.adcRej)) h.plainWrite))) (Tame.ite (h.writeHeld
    (fun _ h6 => h6.adcRej)) h.plainWrite))

theorem Tame.writeCvCtrl {t : Time} {n : Nat} {v : Word32} (h : Tame ps e d) [Fact (.adc ∈ ps)] :
    Tame ps e (writeCvCtrl t n v d) :=
  Tame.ite (Tame.adcStop (Tame.ite (Tame.adcGo (Tame.ite h.plainWrite.adcStop h.plainWrite))
    (Tame.ite h.plainWrite.adcStop h.plainWrite))) (Tame.ite (Tame.adcGo (Tame.ite h.plainWrite.adcStop h.plainWrite))
    (Tame.ite h.plainWrite.adcStop h.plainWrite))

theorem Tame.writeAdc {t : Time} {a : Nat} {v : Word32} (h : Tame ps e d) [Fact (.adc ∈ ps)] :
    Tame ps e (writeAdc t a v d) := by
  unfold Machine.writeAdc
  dsimp only
  exact Tame.ite h.writeAdcCtrl (Tame.ite h.writeAdcRef (Tame.ite (by
    split
    · exact h.writeCvCtrl
    · exact Tame.ite h.adcRej h.plainWrite
    · exact Tame.ite h.adcRej h.plainWrite
    · exact Tame.ite h.adcRej h.plainWrite
    · exact h.plainWrite) (Tame.ite (h.tableWrite (fun _ h4 => h4.adcRej)) h.plainWrite)))

theorem Tame.writeFlt {t : Time} {a : Nat} {v : Word32} (h : Tame ps e d) [Fact (.flt ∈ ps)] :
    Tame ps e (writeFlt t a v d) :=
  Tame.ite h.swapGo (Tame.ite h.plainWrite (Tame.ite (Tame.ite h.laneEnable h.laneWrite) (Tame.ite
    (Tame.ite h.laneSyncRequest h) (Tame.ite (Tame.ite h.groupValidate (h.tableWrite (fun _ h7 => h7.fltRej))) (Tame.ite
    (Tame.ite h.coefSetValidate h.coefWrite) h.plainWrite)))))

theorem Tame.writeRulCtrl {t : Time} {v : Word32} (h : Tame ps e d) [Fact (.rul ∈ ps)] :
    Tame ps e (writeRulCtrl t v d) := h.plainWrite.setB.pinsUpdate

theorem Tame.writeRulAck {t : Time} {v : Word32} (h : Tame ps e d) [Fact (.hif ∈ ps)] [Fact (.rul ∈ ps)] :
    Tame ps e (writeRulAck t v d) := Tame.ite (Tame.integAck (Tame.ite h.ruleAck h)) (Tame.ite h.ruleAck h)

theorem Tame.writePin {t : Time} {n : Nat} {v : Word32} (h : Tame ps e d) [Fact (.rul ∈ ps)] :
    Tame ps e (writePin t n v d) := Tame.ite h.plainWrite.pinRelease h.plainWrite.pinUpdate

theorem Tame.copiedWrite {held : Bool} {a : Nat} {v : Word32} (h : Tame ps e d) [Fact (.rul ∈ ps)] :
    Tame ps e (copiedWrite held a v d) := Tame.ite h.rulRej h.putWord.bothCopies

theorem Tame.writeTemplate {t : Time} {a : Nat} {v : Word32} (h : Tame ps e d) [Fact (.hif ∈ ps)] [Fact (.ports ∈ ps)]
    [Fact (.pairs ∈ ps)] [Fact (.keys ∈ ps)] [Fact (.rul ∈ ps)] :
    Tame ps e (writeTemplate t a v d) := Tame.ite h.templateEnable.letGo (h.tableWrite (fun _ h2 => h2.rulRej))

theorem Tame.writeRul {t : Time} {a : Nat} {v : Word32} (h : Tame ps e d) [Fact (.hif ∈ ps)] [Fact (.ports ∈ ps)]
    [Fact (.pairs ∈ ps)] [Fact (.keys ∈ ps)] [Fact (.rul ∈ ps)] [Fact (.free ∈ ps)] :
    Tame ps e (writeRul t a v d) :=
  Tame.ite h.writeRulCtrl (Tame.ite h.writeRulAck (Tame.ite h.writePin (Tame.ite h.hstateWrite (Tame.ite h.plainWrite
    (Tame.ite (Tame.ite h.ruleValidate h.copiedWrite) (Tame.ite (Tame.ite h.areaValidate h.copiedWrite)
    (Tame.ite h.copiedWrite (Tame.ite h.copiedWrite (Tame.ite (Tame.ite h.detectorValidate h.copiedWrite)
    (Tame.ite h.writeTemplate h.plainWrite))))))))))

/-! ## Control of rings -/

theorem Tame.ringDisable {n : Nat} (h : Tame ps e d) [Fact (.hif ∈ ps)] [Fact (.rdr ∈ ps)] [Fact (.adc ∈ ps)]
    [Fact (.dsp ∈ ps)] [Fact (.free ∈ ps)] :
    Tame ps e (ringDisable n d) := Tame.ite h.setN h.setN.abortTaken.dspRingEnd.setN.ringGone

/-! ## Writes of registers: capture, host, dispatch, logs -/

theorem Tame.writeRefusing {bad : List Field} {rej : Dev → Dev} {a : Nat} {v : Word32} (h : Tame ps e d)
    (hf : ∀ x, Tame ps e x → Tame ps e (rej x)) :
    Tame ps e (writeRefusing bad rej a v d) := Tame.ite h.writeKeeping (hf _ h.writeKeeping)

theorem Tame.writeModCtrl {t : Time} {v : Word32} (h : Tame ps e d) [Fact (.mdl ∈ ps)] :
    Tame ps e (writeModCtrl t v d) :=
  Tame.ite ((h.writeHeld (fun _ h5 => h5.modRej)).modalEnable) (Tame.ite (((h.writeHeld
    (fun _ h7 => h7.modRej)).set).modalStop) (h.writeHeld (fun _ h5 => h5.modRej)))

theorem Tame.writeMod {t : Time} {a : Nat} {v : Word32} (h : Tame ps e d) [Fact (.mdl ∈ ps)] :
    Tame ps e (writeMod t a v d) :=
  Tame.ite h.writeModCtrl (Tame.ite h.modRej (Tame.ite (Tame.ite h.modRej h.putWord) (h.writeRefusing
    (fun _ h3 => h3.modRej))))

theorem Tame.writeCapCtrl {v : Word32} (h : Tame ps e d) [Fact (.hmp ∈ ps)] [Fact (.cap ∈ ps)] :
    Tame ps e (writeCapCtrl v d) := Tame.ite (Tame.ite h h.captureStart) (Tame.ite h.set.captureStop h)

theorem Tame.writeEngCtrl {t : Time} {n : Nat} {v : Word32} (h : Tame ps e d) [Fact (.cap ∈ ps)] :
    Tame ps e (writeEngCtrl t n v d) :=
  Tame.ite (Tame.captureRelease (Tame.ite (Tame.captureDisarm (Tame.ite h.setN.captureArm h.setN))
    (Tame.ite h.setN.captureArm h.setN))) (Tame.ite (Tame.captureDisarm (Tame.ite h.setN.captureArm h.setN))
    (Tame.ite h.setN.captureArm h.setN))

theorem Tame.writeCapDef {a : Nat} {v : Word32} (h : Tame ps e d) [Fact (.cap ∈ ps)] :
    Tame ps e (writeCapDef a v d) :=
  Tame.ite (Tame.ite h.triggerValidate (Tame.ite h.capRej h.putWord)) (Tame.ite h.maskValidate
    (Tame.ite h.capRej h.putWord))

theorem Tame.writeCap {t : Time} {a : Nat} {v : Word32} (h : Tame ps e d) [Fact (.hmp ∈ ps)] [Fact (.cap ∈ ps)] :
    Tame ps e (writeCap t a v d) :=
  Tame.ite h.writeCapCtrl (Tame.ite h.softwareTrigger (Tame.ite (Tame.ite h.writeEngCtrl (Tame.ite h.capRej h.plainWrite))
    (Tame.ite (Tame.ite h.capRej h.putWord) (Tame.ite h.writeCapDef h.plainWrite))))

theorem Tame.hifRej {n : Nat} (h : Tame ps e d) :
    Tame ps e (hifRej n d) := h.cause

theorem Tame.writeRing {n o a : Nat} {v : Word32} (h : Tame ps e d) [Fact (.hif ∈ ps)] [Fact (.rdr ∈ ps)] [Fact (.adc ∈ ps)]
    [Fact (.dsp ∈ ps)] [Fact (.free ∈ ps)] :
    Tame ps e (writeRing n o a v d) := Tame.ite (Tame.ite h (Tame.ite h.ringDisable h)) (Tame.ite h.hifRej h.plainWrite)

theorem Tame.writeHif {t : Time} {a : Nat} {v : Word32} (h : Tame ps e d) [Fact (.hif ∈ ps)] [Fact (.rdr ∈ ps)]
    [Fact (.adc ∈ ps)] [Fact (.dsp ∈ ps)] [Fact (.free ∈ ps)] :
    Tame ps e (writeHif t a v d) :=
  Tame.ite h.plainWrite.msiFlush (Tame.ite h.heartbeat (Tame.ite (Tame.ite h h.plainWrite) (Tame.ite h.writeRing
    (Tame.ite h.plainWrite.msiFlush h.plainWrite))))

theorem Tame.writeTick {v : Word32} (h : Tame ps e d) :
    Tame ps e (writeTick v d) := Tame.ite h (Tame.ite h.dspRej h.plainWrite)

theorem Tame.writeSpillCfg {v : Word32} (h : Tame ps e d) :
    Tame ps e (writeSpillCfg v d) := Tame.ite h (Tame.ite h.dspRej h.plainWrite)

theorem Tame.writeDsp {a : Nat} {v : Word32} (h : Tame ps e d) [Fact (.dsp ∈ ps)] :
    Tame ps e (writeDsp a v d) :=
  Tame.ite h.plainWrite.nextAll (Tame.ite h.writeTick (Tame.ite (Tame.ite h h.plainWrite) (Tame.ite h.writeSpillCfg
    (Tame.ite (Tame.ite h.threadValidate (Tame.ite h.dspRej h.putWord)) h.plainWrite))))

theorem Tame.writeReader {lb : Logbook} {v : Word32} (h : Tame ps e d) [Fact (.hif ∈ ps)] [Fact (.rdr ∈ ps)] :
    Tame ps e (writeReader lb v d) := h.logReadGo.logReadStop

theorem Tame.writeLog {lb : Logbook} {a : Nat} {v : Word32} (h : Tame ps e d) [Fact (.hif ∈ ps)] [Fact (.rdr ∈ ps)] :
    Tame ps e (writeLog lb a v d) := Tame.ite h.writeReader h.plainWrite

theorem Tame.writeLko {t : Time} {a : Nat} {v : Word32} (h : Tame ps e d) [Fact (.lko ∈ ps)] :
    Tame ps e (writeLko t a v d) := Tame.ite h.lkoSnapshot (Tame.ite (Tame.ite h.probeWrite0 h.probeWriteRest) h.plainWrite)

/-! ## Accesses of the bus -/

theorem Tame.blockWrite {t : Time} {lb : Logbook} {a : Nat} {v : Word32} (h : Tame ps e d) [∀ x, Fact (x ∈ ps)] :
    Tame ps e (blockWrite t lb a v d) :=
  Tame.ite h.writeGlb (Tame.ite h.writeTkp (Tame.ite h.writeHmp (Tame.ite h.writeFp (Tame.ite h.writeDxl
    (Tame.ite h.writeIng (Tame.ite h.writeAln (Tame.ite h.writeAdc (Tame.ite h.writeFlt (Tame.ite h.writeRul
    (Tame.ite h.writeMod (Tame.ite h.writeCap (Tame.ite h.writeHif (Tame.ite h.writeDsp (Tame.ite h.plainWrite
    (Tame.ite h.writeLog (Tame.ite h.writeLko (Tame.ite h.plainWrite (Tame.ite h.writeIng (Tame.ite h.writeAln
    (Tame.ite h.writeAdc (Tame.ite h.writeFlt (Tame.ite h.writeRul (Tame.ite h.writeMod (Tame.ite h.writeCap
    (Tame.ite h.writeDsp (Tame.ite h.remoteEntryWrite (Tame.ite h.plainWrite h.writeLko)))))))))))))))))))))))))))

theorem Tame.busWrite {t : Time} {lb : Logbook} {a : Nat} {v : Word32} (h : Tame ps e d) [∀ x, Fact (x ∈ ps)] :
    Tame ps e (busWrite t lb a v d) := Tame.ite h (h.onWrite (fun _ h1 => h1.blockWrite))

theorem Tame.readClears {a : Nat} (h : Tame ps e d) [Fact (.adc ∈ ps)] [Fact (.rul ∈ ps)] :
    Tame ps e (readClears a d) :=
  Tame.ite (Tame.modRul (Tame.ite h h.rput)) (Tame.ite (Tame.modCv (Tame.ite h h.rput)) (Tame.ite h h.rput))

theorem Tame.blockRead {t : Time} {p : Path} {a : Nat} (h : Tame ps e d) [Fact (.paths ∈ ps)] [Fact (.adc ∈ ps)]
    [Fact (.dsp ∈ ps)] [Fact (.rul ∈ ps)] :
    Tame ps e (blockRead t p a d) :=
  Tame.ite h.readShadow (Tame.ite (Tame.ite h.dspTake h.answer) ((h.answer.foldl fun _ _ h4 => h4.latch).readClears))

theorem Tame.busRead {t : Time} {p : Path} {addr : Nat} (h : Tame ps e d) [Fact (.paths ∈ ps)] [Fact (.adc ∈ ps)]
    [Fact (.dsp ∈ ps)] [Fact (.rul ∈ ps)] :
    Tame ps e (busRead t p addr d) := Tame.ite h.answer (Tame.ite h.blockRead (Tame.ite h.set.answer h.answer))

theorem Tame.cmdBlock {t : Time} {n op : Nat} {f : DescWords → Dev → Dev} (h : Tame ps e d)
    (hf : ∀ k x, Tame ps e x → Tame ps e (f k x)) [Fact (.hif ∈ ps)] :
    Tame ps e (cmdBlock t n op f d) := by
  unfold Machine.cmdBlock
  split
  · exact h
  · exact Tame.ite h.completeHead (Tame.ite h.completeHead ((hf _ _ h.startHead).endStarted))

theorem Tame.writeBlock {t : Time} {lb : Logbook} {src : List Word32} {ws : DescWords} (h : Tame ps e d)
    [∀ x, Fact (x ∈ ps)] :
    Tame ps e (writeBlock t lb src ws d) := h.foldl fun _ _ h0 => h0.busWrite

theorem Tame.readBlockWords {t : Time} {ofs k : Nat} (h : Tame ps e d)
    [Fact (.paths ∈ ps)] [Fact (.adc ∈ ps)] [Fact (.dsp ∈ ps)] [Fact (.rul ∈ ps)] :
    Tame ps e (readBlockWords t ofs k d).2 := by
  induction k generalizing ofs d with
  | zero => exact h
  | succ k ih =>
    unfold Machine.readBlockWords
    exact ih h.busRead

theorem Tame.readBlock {t : Time} {ws : DescWords} (h : Tame ps e d) [Fact (.paths ∈ ps)] [Fact (.hif ∈ ps)]
    [Fact (.adc ∈ ps)] [Fact (.dsp ∈ ps)] [Fact (.rul ∈ ps)] :
    Tame ps e (readBlock t ws d) := h.readBlockWords.hostWrite

end Sys2Proof.Machine

/-!
PROOFS. Every command keeps the register file and the Hamper's memory in canonical form (O10).
-/

namespace Sys2Proof.Machine

open Sys2Proof

variable {ps : List StatePart} {e : Dev}

/-- The end of a command judges its events and counts the intake. -/
theorem tame_finish {s : State} (h : Tame ps e s.dev) : Tame ps e (finish s).dev :=
  Tame.set (Tame.foldlSnd (Tame.withEvs h) fun _ _ hs => hs.logJudge)

/-- Where a command goes on, the device is tame. -/
def OutcomeTame (ps : List StatePart) (e : Dev) : Host.Outcome State Fault Refusal → Prop
  | .next t => Tame ps e t.dev
  | _ => True

theorem tame_run {s : State} {f : Time → Dev → Dev} (h : Tame ps e (f s.time s.dev)) : OutcomeTame ps e (run s f) :=
  tame_finish h

theorem tame_runLog {s : State} {f : Time → Logbook → Dev → Logbook × Dev} (h : Tame ps e (f s.time s.log s.dev).2) :
    OutcomeTame ps e (runLog s f) := tame_finish h

theorem tame_runAll {s : State} {f : Time → Logbook → Dev → Time × Logbook × Dev}
    (h : Tame ps e (f s.time s.log s.dev).2.2) : OutcomeTame ps e (runAll s f) := tame_finish h

/-- Each command through the operations that it is made of. -/
theorem exec_tame [∀ x, Fact (x ∈ ps)] (c : Instr) (s : State) : OutcomeTame ps s.dev (exec c s) := by
  have h := Tame.refl ps s.dev
  cases c with
  | writeRegister p addr v =>
    exact show OutcomeTame _ _ (execWriteRegister p addr v s) from tame_runLog (Tame.snd h.busWrite)
  | readClearOnRead p addr => exact show OutcomeTame _ _ (execReadClearOnRead p addr s) from tame_run h.busRead
  | readLowHalf p addr => exact show OutcomeTame _ _ (execReadLowHalf p addr s) from tame_run h.busRead
  | readHighHalf p addr => exact show OutcomeTame _ _ (execReadHighHalf p addr s) from tame_run h.busRead
  | readTkpNowNs p => exact show OutcomeTame _ _ (execReadTkpNowNs p s) from tame_run h.busRead
  | readIslandInReset p addr => exact show OutcomeTame _ _ (execReadIslandInReset p addr s) from tame_run h.busRead
  | writeIslandInReset p addr v =>
    exact show OutcomeTame _ _ (execWriteIslandInReset p addr v s) from tame_runLog (Tame.snd h.busWrite)
  | writeGlbSplit v =>
    exact show OutcomeTame _ _ (execWriteGlbSplit v s) from tame_run (h.onWrite (fun _ h0 => h0.writeSplit))
  | glbLockSet => exact show OutcomeTame _ _ (execGlbLockSet s) from tame_run (h.onWrite (fun _ h0 => h0.glbLock))
  | islandClockFail island => exact show OutcomeTame _ _ (execIslandClockFail island s) from tame_run h.islandClockFail
  | islandClockRecover island =>
    exact show OutcomeTame _ _ (execIslandClockRecover island s) from tame_run h.islandClockRecover
  | refclkFail => exact show OutcomeTame _ _ (execRefclkFail s) from tame_run h.refclkFail
  | osc10mFail => exact show OutcomeTame _ _ (execOsc10mFail s) from tame_run h.osc10mFail
  | islandResetExit island => exact show OutcomeTame _ _ (execIslandResetExit island s) from tame_run h.islandExit
  | timekeeperTick =>
    change OutcomeTame ps s.dev (execTimekeeperTick s)
    unfold execTimekeeperTick
    split
    · exact tame_finish h.tick.timedAdjust
    · exact h
  | referenceSample slot x =>
    exact show OutcomeTame _ _ (execReferenceSample slot x s) from tame_run (Tame.ite h.refSample h)
  | servoUpdate => exact show OutcomeTame _ _ (execServoUpdate s) from tame_run (Tame.ite h.servoUpdate h)
  | hostTmo => exact show OutcomeTame _ _ (execHostTmo s) from tame_run h.hostTmo
  | writeTkpFreqLo v => exact show OutcomeTame _ _ (execWriteTkpFreqLo v s) from tame_run (Tame.ite h.writeFreqLo h)
  | writeTkpFreqHi v => exact show OutcomeTame _ _ (execWriteTkpFreqHi v s) from tame_run (Tame.ite h.writeFreqHi h)
  | readTkpFreqLo p => exact show OutcomeTame _ _ (execReadTkpFreqLo p s) from tame_run (Tame.ite h.readFreqLo h.answer)
  | writeTkpAdj v => exact show OutcomeTame _ _ (execWriteTkpAdj v s) from tame_run (Tame.ite h.writeAdj h)
  | timedAdjust => exact tame_finish h.timedAdjust
  | ptpMessageReceive port m => exact show OutcomeTame _ _ (execPtpMessageReceive port m s) from tame_run h.ptpReceive
  | ptpMessageTransmit port m => exact show OutcomeTame _ _ (execPtpMessageTransmit port m s) from tame_run h.ptpTransmit
  | ptpAnnounceTransmit port => exact show OutcomeTame _ _ (execPtpAnnounceTransmit port s) from tame_run h.announceTransmit
  | tcForward port m ingressQ => exact show OutcomeTame _ _ (execTcForward port m ingressQ s) from tame_run h.tcForward
  | tinPpsEdge falling q => exact show OutcomeTame _ _ (execTinPpsEdge falling q s) from tame_run h.tinEdge
  | irigFrame f => exact show OutcomeTame _ _ (execIrigFrame f s) from tame_run h.irigFrame
  | leapSecond => exact show OutcomeTame _ _ (execLeapSecond s) from tame_run h.leapSecond
  | leapOccExpire => exact show OutcomeTame _ _ (execLeapOccExpire s) from tame_run h.leapOccExpire
  | ppsOutput => exact show OutcomeTame _ _ (execPpsOutput s) from tame_run h.ppsOutput
  | ppsPulseEnd => exact show OutcomeTame _ _ (execPpsPulseEnd s) from tame_run h.ppsPulseEnd
  | writeHmpPart n v =>
    exact show OutcomeTame _ _ (execWriteHmpPart n v s) from tame_run (h.onWrite (fun _ h0 => h0.writeHmpPart))
  | hamperReplay a cause again => exact show OutcomeTame _ _ (execHamperReplay a cause again s) from tame_run h.hamperReplay
  | fenceReleaseCheck a good =>
    exact show OutcomeTame _ _ (execFenceReleaseCheck a good s) from tame_run h.fenceReleaseCheck
  | scrubRead => exact show OutcomeTame _ _ (execScrubRead s) from tame_run h.scrubRead
  | scrubPassLate => exact show OutcomeTame _ _ (execScrubPassLate s) from tame_run h.scrubPassLate
  | bar4Read p a =>
    rcases Nat.lt_or_ge a (2 ^ 27) with ha | ha
    · exact exec_bar4Read p s ha ▸ tame_finish h.bar4Read
    · exact (exec_bar4_beyond p 0 s ha).1 ▸ trivial
  | bar4Write a v =>
    rcases Nat.lt_or_ge a (2 ^ 27) with ha | ha
    · exact exec_bar4Write v s ha ▸ tame_finish (.ite h.sat h)
    · exact (exec_bar4_beyond .host v s ha).2 ▸ trivial
  | writeFpCtrl port v =>
    exact show OutcomeTame _ _ (execWriteFpCtrl port v s) from
      tame_run (Tame.ite (h.onWrite (fun _ h1 => h1.writeFpCtrl)) h)
  | linkUp port => exact show OutcomeTame _ _ (execLinkUp port s) from tame_run h.linkGoUp
  | linkDown port => exact show OutcomeTame _ _ (execLinkDown port s) from tame_run (Tame.ite h.linkGoDown h)
  | frameReceive port f => exact show OutcomeTame _ _ (execFrameReceive port f s) from tame_run h.frameReceive
  | dupKeyForget pair => exact show OutcomeTame _ _ (execDupKeyForget pair s) from tame_run (Tame.ite h.dupKeyForget h)
  | txFrameStart port => exact show OutcomeTame _ _ (execTxFrameStart port s) from tame_run h.txFrameStart
  | txFrameEnd port => exact show OutcomeTame _ _ (execTxFrameEnd port s) from tame_run (Tame.ite h.txFrameEnd h)
  | txUnderrun port => exact show OutcomeTame _ _ (execTxUnderrun port s) from tame_run (Tame.ite h.txUnderrun h)
  | timedLaunch port tc =>
    change OutcomeTame ps s.dev (execTimedLaunch port tc s)
    refine tame_run ?_
    split
    · exact Tame.ite h.txFrameStart h
    · exact h
  | guardTimeStart port => exact show OutcomeTame _ _ (execGuardTimeStart port s) from tame_run (Tame.ite h.guardRefresh h)
  | pairCompletion pair =>
    exact show OutcomeTame _ _ (execPairCompletion pair s) from tame_run (Tame.ite h.pairCompletion h)
  | configChange port =>
    exact show OutcomeTame _ _ (execConfigChange port s) from
      tame_run (Tame.ite (h.onWrite (fun _ h1 => h1.configChange)) h)
  | gateConfigApply port =>
    exact show OutcomeTame _ _ (execGateConfigApply port s) from tame_run (Tame.ite h.gateConfigApply h)
  | gateEntryAdvance port =>
    exact show OutcomeTame _ _ (execGateEntryAdvance port s) from tame_run (Tame.ite h.gateEntryAdvance h)
  | pauseFrameReceive port f =>
    change OutcomeTame ps s.dev (execPauseFrameReceive port f s)
    refine tame_run ?_
    split
    · exact h.frameReceive
    · exact h.frameReceive
    · exact h
  | pauseExpire port tc => exact show OutcomeTame _ _ (execPauseExpire port tc s) from tame_run (Tame.ite h.pauseExpire h)
  | pauseStorm port tc => exact show OutcomeTame _ _ (execPauseStorm port tc s) from tame_run (Tame.ite h.pauseStorm h)
  | pauseStormClear port tc =>
    exact show OutcomeTame _ _ (execPauseStormClear port tc s) from tame_run (Tame.ite h.pauseStormClear h)
  | pauseTransmit port => exact show OutcomeTame _ _ (execPauseTransmit port s) from tame_run h.pauseTransmit
  | pauseResend port => exact show OutcomeTame _ _ (execPauseResend port s) from tame_run h.pauseResend
  | pauseReleaseSend port => exact show OutcomeTame _ _ (execPauseReleaseSend port s) from tame_run h.pauseReleaseSend
  | hsrSupervisionSend pair =>
    exact show OutcomeTame _ _ (execHsrSupervisionSend pair s) from tame_run (Tame.ite h.supervisionSend h)
  | ingestIntake => exact show OutcomeTame _ _ (execIngestIntake s) from tame_run (Tame.ite h.ingestIntake h)
  | ingestParse => exact show OutcomeTame _ _ (execIngestParse s) from tame_run (Tame.ite h.ingestParse h)
  | hostlimSecond => exact show OutcomeTame _ _ (execHostlimSecond s) from tame_run (Tame.ite h.secondRoll h)
  | gooseTalExpire sub => exact show OutcomeTame _ _ (execGooseTalExpire sub s) from tame_run (Tame.ite h.gooseTalExpire h)
  | cfgPendTimeout src => exact show OutcomeTame _ _ (execCfgPendTimeout src s) from tame_run (Tame.ite h.cfgPendTimeout h)
  | writeSourceEntry addr v =>
    exact show OutcomeTame _ _ (execWriteSourceEntry addr v s) from
      tame_run (Tame.ite (h.onWrite (fun _ h1 => h1.writeSourceEntry)) h)
  | alignFrame => exact show OutcomeTame _ _ (execAlignFrame s) from tame_run h.alignFrame
  | spreadOpen => exact show OutcomeTame _ _ (execSpreadOpen s) from tame_run h.spreadOpen
  | spreadDeadline => exact show OutcomeTame _ _ (execSpreadDeadline s) from tame_run h.settle
  | slotRelease => exact show OutcomeTame _ _ (execSlotRelease s) from tame_run (Tame.ite h.slotRelease h)
  | outputEnable n =>
    exact show OutcomeTame _ _ (execOutputEnable n s) from tame_run (h.onWrite (fun _ h0 => Tame.ite h0.outputEnable h0))
  | rollCallStart =>
    exact show OutcomeTame _ _ (execRollCallStart s) from tame_run (h.onWrite (fun _ h0 => h0.rollCallStart))
  | rollCallStop => exact show OutcomeTame _ _ (execRollCallStop s) from tame_run (h.onWrite (fun _ h0 => h0.rollCallStop))
  | refEnable => exact show OutcomeTame _ _ (execRefEnable s) from tame_run (h.onWrite (fun _ h0 => h0.refEnable))
  | refReady => exact show OutcomeTame _ _ (execRefReady s) from tame_run (Tame.ite h.refReady h)
  | adcGo cv => exact show OutcomeTame _ _ (execAdcGo cv s) from tame_run (Tame.ite (h.onWrite (fun _ h1 => h1.adcGo)) h)
  | adcStart cv => exact show OutcomeTame _ _ (execAdcStart cv s) from tame_run (Tame.ite h.adcStart h)
  | adcStop cv =>
    exact show OutcomeTame _ _ (execAdcStop cv s) from tame_run (Tame.ite (h.onWrite (fun _ h1 => h1.adcStop)) h)
  | adcSlot cv smp => exact show OutcomeTame _ _ (execAdcSlot cv smp s) from tame_run (Tame.ite h.adcSlot h)
  | adcSampleDeliver cv =>
    exact show OutcomeTame _ _ (execAdcSampleDeliver cv s) from tame_run (Tame.ite h.adcSampleDeliver h)
  | diagFlush => exact show OutcomeTame _ _ (execDiagFlush s) from tame_run (Tame.ite h.diagFlush h)
  | laneSample lane => exact show OutcomeTame _ _ (execLaneSample lane s) from tame_run (Tame.ite h.laneInput h)
  | laneInputTimeout lane =>
    exact show OutcomeTame _ _ (execLaneInputTimeout lane s) from tame_run (Tame.ite h.laneInputTimeout h)
  | laneEnable lane v =>
    exact show OutcomeTame _ _ (execLaneEnable lane v s) from tame_run (Tame.ite (h.onWrite (fun _ h1 => h1.laneEnable)) h)
  | laneSyncRequest lane =>
    exact show OutcomeTame _ _ (execLaneSyncRequest lane s) from
      tame_run (Tame.ite (h.onWrite (fun _ h1 => h1.laneSyncRequest)) h)
  | coefSetValidate set v =>
    exact show OutcomeTame _ _ (execCoefSetValidate set v s) from
      tame_run (Tame.ite (h.onWrite (fun _ h1 => h1.coefSetValidate)) h)
  | groupValidate g v =>
    exact show OutcomeTame _ _ (execGroupValidate g v s) from
      tame_run (Tame.ite (h.onWrite (fun _ h1 => h1.groupValidate)) h)
  | swapGo v => exact show OutcomeTame _ _ (execSwapGo v s) from tame_run (h.onWrite (fun _ h0 => h0.swapGo))
  | swapStart lane =>
    change OutcomeTame ps s.dev (execSwapStart lane s)
    refine tame_run ?_
    split
    · exact Tame.ite h.fadeEnd.swapStart h
    · exact h
  | fadeEnd lane => exact show OutcomeTame _ _ (execFadeEnd lane s) from tame_run (Tame.ite h.fadeEnd h)
  | groupBlockWrite g => exact show OutcomeTame _ _ (execGroupBlockWrite g s) from tame_run h.groupWrite
  | groupBlockTimeout g => exact show OutcomeTame _ _ (execGroupBlockTimeout g s) from tame_run h.groupWrite
  | rulePass ups => exact show OutcomeTame _ _ (execRulePass ups s) from tame_run (Tame.ite h.rulePass.rulTakeMode h)
  | alarmAction => exact show OutcomeTame _ _ (execAlarmAction s) from tame_run (Tame.ite h.alarmAction.rulTakeMode h)
  | pinWidthExpire pin => exact show OutcomeTame _ _ (execPinWidthExpire pin s) from tame_run (Tame.ite h.pinUpdate h)
  | pinRelease pin =>
    exact show OutcomeTame _ _ (execPinRelease pin s) from tame_run (h.onWrite (fun _ h0 => Tame.ite h0.pinRelease h0))
  | ruleAck rule => exact show OutcomeTame _ _ (execRuleAck rule s) from tame_run (h.onWrite (fun _ h0 => h0.ruleAck))
  | integAck => exact show OutcomeTame _ _ (execIntegAck s) from tame_run (h.onWrite (fun _ h0 => h0.integAck))
  | tableCopyCheck ups => exact show OutcomeTame _ _ (execTableCopyCheck ups s) from tame_run (Tame.ite h.tableCopyCheck h)
  | ruleValidate r v =>
    exact show OutcomeTame _ _ (execRuleValidate r v s) from tame_run (h.onWrite (fun _ h0 => Tame.ite h0.ruleValidate h0))
  | areaValidate a v =>
    exact show OutcomeTame _ _ (execAreaValidate a v s) from tame_run (h.onWrite (fun _ h0 => Tame.ite h0.areaValidate h0))
  | detectorValidate q v =>
    exact show OutcomeTame _ _ (execDetectorValidate q v s) from
      tame_run (h.onWrite (fun _ h0 => Tame.ite h0.detectorValidate h0))
  | templateEnable t v =>
    exact show OutcomeTame _ _ (execTemplateEnable t v s) from
      tame_run (h.onWrite (fun _ h0 => Tame.ite h0.templateEnable h0))
  | gooseRetransmit t => exact show OutcomeTame _ _ (execGooseRetransmit t s) from tame_run (Tame.ite h.gooseRetransmit h)
  | hstateWrite j v =>
    exact show OutcomeTame _ _ (execHstateWrite j v s) from tame_run (h.onWrite (fun _ h0 => Tame.ite h0.hstateWrite h0))
  | segmentApply => exact show OutcomeTame _ _ (execSegmentApply s) from tame_run (Tame.ite h.applyNext h)
  | epochBoundary => exact show OutcomeTame _ _ (execEpochBoundary s) from tame_run h.epochBoundary
  | epochPublish => exact show OutcomeTame _ _ (execEpochPublish s) from tame_run h.epochPublish
  | snapshotBinWrite => exact show OutcomeTame _ _ (execSnapshotBinWrite s) from tame_run h.snapshotBinWrite
  | snapshotTimeout => exact show OutcomeTame _ _ (execSnapshotTimeout s) from tame_run h.snapshotTimeout
  | modalStart => exact show OutcomeTame _ _ (execModalStart s) from tame_run (h.onWrite (fun _ h0 => h0.modalEnable))
  | modalStop => exact show OutcomeTame _ _ (execModalStop s) from tame_run (h.onWrite (fun _ h0 => h0.set.modalStop))
  | captureEnable =>
    exact show OutcomeTame _ _ (execCaptureEnable s) from tame_run (h.onWrite (fun _ h0 => Tame.ite h0 h0.captureStart))
  | captureDisable =>
    exact show OutcomeTame _ _ (execCaptureDisable s) from tame_run (h.onWrite (fun _ h0 => h0.set.captureStop))
  | triggerDefValidate d v =>
    exact show OutcomeTame _ _ (execTriggerDefValidate d v s) from
      tame_run (Tame.ite (h.onWrite (fun _ h1 => h1.triggerValidate)) h)
  | maskValidate k v =>
    exact show OutcomeTame _ _ (execMaskValidate k v s) from tame_run (Tame.ite (h.onWrite (fun _ h1 => h1.maskValidate)) h)
  | softwareTrigger v =>
    exact show OutcomeTame _ _ (execSoftwareTrigger v s) from tame_run (h.onWrite (fun _ h0 => h0.softwareTrigger))
  | captureArm eng =>
    exact show OutcomeTame _ _ (execCaptureArm eng s) from tame_run (Tame.ite (h.onWrite (fun _ h1 => h1.captureArm)) h)
  | captureTimedArm eng => exact show OutcomeTame _ _ (execCaptureTimedArm eng s) from tame_run h.captureTimedArm
  | pretriggerFull eng => exact show OutcomeTame _ _ (execPretriggerFull eng s) from tame_run h.pretriggerFull
  | captureTrigger eng => exact show OutcomeTame _ _ (execCaptureTrigger eng s) from tame_run (Tame.ite h.captureTrigger h)
  | collectionClose eng =>
    exact show OutcomeTame _ _ (execCollectionClose eng s) from tame_run (Tame.ite h.collectionClose h)
  | captureComplete eng =>
    exact show OutcomeTame _ _ (execCaptureComplete eng s) from tame_run (Tame.ite h.captureComplete h)
  | captureDeliver eng => exact show OutcomeTame _ _ (execCaptureDeliver eng s) from tame_run (Tame.ite h.captureDeliver h)
  | captureRelease eng =>
    exact show OutcomeTame _ _ (execCaptureRelease eng s) from
      tame_run (Tame.ite (h.onWrite (fun _ h1 => h1.captureRelease)) h)
  | captureDisarm eng =>
    exact show OutcomeTame _ _ (execCaptureDisarm eng s) from
      tame_run (Tame.ite (h.onWrite (fun _ h1 => h1.captureDisarm)) h)
  | ringEnable n cb =>
    exact show OutcomeTame _ _ (execRingEnable n cb s) from tame_run (Tame.ite (h.onWrite (fun _ h1 => h1.ringEnable)) h)
  | ringDisable n =>
    exact show OutcomeTame _ _ (execRingDisable n s) from tame_run (Tame.ite (h.onWrite (fun _ h1 => h1.ringDisable)) h)
  | ringStopped n => exact show OutcomeTame _ _ (execRingStopped n s) from tame_run h.ringStopped
  | doorbell ofs size v descs =>
    exact show OutcomeTame _ _ (execDoorbell ofs size v descs s) from tame_run (Tame.ite h.bar2Write h)
  | ringPoll n prod ccons descs =>
    exact show OutcomeTame _ _ (execRingPoll n prod ccons descs s) from tame_run (Tame.ite h.setRing.doorbell h)
  | completionWrite n => exact show OutcomeTame _ _ (execCompletionWrite n s) from tame_run (Tame.ite h.completionWrite h)
  | descNop n => exact show OutcomeTame _ _ (execDescNop n s) from tame_run h.descNop
  | descFence n => exact show OutcomeTame _ _ (execDescFence n s) from tame_run h.descFence
  | tokenWaitStart n => exact show OutcomeTame _ _ (execTokenWaitStart n s) from tame_run h.tokenWaitStart
  | fenceTimeout n => exact show OutcomeTame _ _ (execFenceTimeout n s) from tame_run h.fenceTimeout
  | cmdWriteBlock n ws =>
    exact show OutcomeTame _ _ (execCmdWriteBlock n ws s) from
      tame_runLog (Tame.snd (h.cmdBlock (fun _ _ h1 => h1.writeBlock)))
  | cmdReadBlock n =>
    exact show OutcomeTame _ _ (execCmdReadBlock n s) from tame_run (h.cmdBlock (fun _ _ h0 => h0.readBlock))
  | txhSend n bytes => exact show OutcomeTame _ _ (execTxhSend n bytes s) from tame_run h.txhSend
  | txhInject n f => exact show OutcomeTame _ _ (execTxhInject n f s) from tame_run h.txhInject
  | bufPost n => exact show OutcomeTame _ _ (execBufPost n s) from tame_run h.bufPost
  | msixMessage vec => exact show OutcomeTame _ _ (execMsixMessage vec s) from tame_run h.msixMessage
  | moderationTimer n => exact show OutcomeTame _ _ (execModerationTimer n s) from tame_run h.moderationTimer
  | msixUnmask c => exact show OutcomeTame _ _ (execMsixUnmask c s) from tame_run h.msixControl
  | hostStall => exact show OutcomeTame _ _ (execHostStall s) from tame_run h.hostStall
  | heartbeat v => exact show OutcomeTame _ _ (execHeartbeat v s) from tame_run (h.onWrite (fun _ h0 => h0.heartbeat))
  | pcieLinkDown => exact show OutcomeTame _ _ (execPcieLinkDown s) from tame_run h.pcieLinkDown
  | dmaReadFail n kind => exact show OutcomeTame _ _ (execDmaReadFail n kind s) from tame_run h.dmaReadFail
  | threadValidate th v =>
    exact show OutcomeTame _ _ (execThreadValidate th v s) from
      tame_run (Tame.ite (h.onWrite (fun _ h1 => h1.threadValidate)) h)
  | dspReady n => exact show OutcomeTame _ _ (execDspReady n s) from tame_run h.dspReady
  | dspDelay n => exact show OutcomeTame _ _ (execDspDelay n s) from tame_run h.dspDelay
  | dspWait n => exact show OutcomeTame _ _ (execDspWait n s) from tame_run h.dspWait
  | dspCancel n => exact show OutcomeTame _ _ (execDspCancel n s) from tame_run h.dspCancel
  | dspSetPrio n => exact show OutcomeTame _ _ (execDspSetPrio n s) from tame_run h.dspSetPrio
  | dspTimer n => exact show OutcomeTame _ _ (execDspTimer n s) from tame_run h.dspTimer
  | dispatchTick => exact show OutcomeTame _ _ (execDispatchTick s) from tame_run h.dispatchTick
  | dspTake p cpu => exact show OutcomeTame _ _ (execDspTake p cpu s) from tame_run (Tame.ite h.dspTake h)
  | spillFetch ok => exact show OutcomeTame _ _ (execSpillFetch ok s) from tame_run h.spillFetch
  | fabricStart =>
    exact show OutcomeTame _ _ (execFabricStart s) from tame_run (h.onWrite (fun _ h0 => Tame.ite h0 h0.fabricStart))
  | daxideFrameReceive link f =>
    exact show OutcomeTame _ _ (execDaxideFrameReceive link f s) from tame_run (Tame.ite h.dxReceive h)
  | beaconSend => exact show OutcomeTame _ _ (execBeaconSend s) from tame_run h.beaconSend
  | remoteOriginLost node => exact show OutcomeTame _ _ (execRemoteOriginLost node s) from tame_run h.originLost
  | remoteAlarmEntryWrite addr v =>
    exact show OutcomeTame _ _ (execRemoteAlarmEntryWrite addr v s) from
      tame_run (Tame.ite (h.onWrite (fun _ h1 => h1.remoteEntryWrite)) h)
  | relayEnable => exact show OutcomeTame _ _ (execRelayEnable s) from tame_run (h.onWrite (fun _ h0 => h0.relayEnable))
  | relayRetransmit link => exact show OutcomeTame _ _ (execRelayRetransmit link s) from tame_run h.relayRetransmit
  | relayExpire link => exact show OutcomeTame _ _ (execRelayExpire link s) from tame_run h.relayExpire
  | keepaliveSend link => exact show OutcomeTame _ _ (execKeepaliveSend link s) from tame_run h.keepaliveSend
  | keepaliveTimeout link => exact show OutcomeTame _ _ (execKeepaliveTimeout link s) from tame_run h.keepaliveTimeout
  | dxlLockLoss link => exact show OutcomeTame _ _ (execDxlLockLoss link s) from tame_run (Tame.ite h.linkFalls h)
  | timeReqSend link => exact show OutcomeTame _ _ (execTimeReqSend link s) from tame_run h.timeReqSend
  | keyInfo n => exact show OutcomeTame _ _ (execKeyInfo n s) from tame_run h.keyInfo
  | keyImport n b => exact show OutcomeTame _ _ (execKeyImport n b s) from tame_run h.keyImport
  | keyDerive n b => exact show OutcomeTame _ _ (execKeyDerive n b s) from tame_run h.keyDerive
  | keyUnwrap n b => exact show OutcomeTame _ _ (execKeyUnwrap n b s) from tame_run h.keyUnwrap
  | keyCopyWritten good => exact show OutcomeTame _ _ (execKeyCopyWritten good s) from tame_run h.keyCopyWritten
  | keyCommit n good => exact show OutcomeTame _ _ (execKeyCommit n good s) from tame_run h.keyCommit
  | keyErase n => exact show OutcomeTame _ _ (execKeyErase n s) from tame_run h.keyErase
  | keyAttest n nonce => exact show OutcomeTame _ _ (execKeyAttest n nonce s) from tame_run h.keyAttest
  | fwStatus n => exact show OutcomeTame _ _ (execFwStatus n s) from tame_run h.fwStatus
  | fwWrite n ofs data => exact show OutcomeTame _ _ (execFwWrite n ofs data s) from tame_run h.fwWrite
  | fwCheck n len => exact show OutcomeTame _ _ (execFwCheck n len s) from tame_run h.fwCheck
  | fwActivate n => exact show OutcomeTame _ _ (execFwActivate n s) from tame_run h.fwActivate
  | fwSettings n body => exact show OutcomeTame _ _ (execFwSettings n body s) from tame_run h.fwSettings
  | xaornReport => exact show OutcomeTame _ _ (execXaornReport s) from tame_run h.xaornReport
  | updateTimeout => exact show OutcomeTame _ _ (execUpdateTimeout s) from tame_run h.updateTimeout
  | lockstepMismatch pair => exact show OutcomeTame _ _ (execLockstepMismatch pair s) from tame_run h.lockstepMismatch
  | logEvent code inst det det2 =>
    exact show OutcomeTame _ _ (execLogEvent code inst det det2 s) from tame_run (Tame.ite h.event h)
  | logTokenRefill code => exact show OutcomeTame _ _ (execLogTokenRefill code s) from tame_runLog (Tame.iteSnd h h)
  | logRecordWrite good => exact show OutcomeTame _ _ (execLogRecordWrite good s) from tame_runLog h.logRecordWrite
  | logScrub bad => exact show OutcomeTame _ _ (execLogScrub bad s) from tame_runLog (Tame.iteSnd h h)
  | logReread bad => exact show OutcomeTame _ _ (execLogReread bad s) from tame_runLog h.logReread
  | logReadGo v => exact show OutcomeTame _ _ (execLogReadGo v s) from tame_runLog (Tame.snd (Tame.ite h.logReadGo h))
  | logReadDeliver => exact show OutcomeTame _ _ (execLogReadDeliver s) from tame_runLog h.logReadDeliver
  | logBufferTimeout => exact show OutcomeTame _ _ (execLogBufferTimeout s) from tame_runLog (Tame.snd h.logBufferTimeout)
  | logReadStop v => exact show OutcomeTame _ _ (execLogReadStop v s) from tame_runLog (Tame.snd (Tame.ite h.logReadStop h))
  | mirrorRecord => exact show OutcomeTame _ _ (execMirrorRecord s) from tame_runLog (Tame.snd h.mirrorRecord)
  | powerFailWarning => exact show OutcomeTame _ _ (execPowerFailWarning s) from tame_runLog (Tame.snd h.powerFailWarning)
  | powerFailClear => exact show OutcomeTame _ _ (execPowerFailClear s) from tame_run h.powerFailClear
  | logFlushDone => exact show OutcomeTame _ _ (execLogFlushDone s) from tame_run h.logFlushDone
  | probeSample kind index x lost =>
    exact show OutcomeTame _ _ (execProbeSample kind index x lost s) from tame_run h.probeSample
  | probeEnable p v =>
    exact show OutcomeTame _ _ (execProbeEnable p v s) from tame_run (Tame.ite (h.onWrite (fun _ h1 => h1.probeWrite0)) h)
  | lkoSnapshot v => exact show OutcomeTame _ _ (execLkoSnapshot v s) from tame_run (h.onWrite (fun _ h0 => h0.lkoSnapshot))
  | cmpCompress n src => exact show OutcomeTame _ _ (execCmpCompress n src s) from tame_run h.cmpStart
  | cmpDecompress n src => exact show OutcomeTame _ _ (execCmpDecompress n src s) from tame_run h.cmpStart
  | cmpJobComplete lane => exact show OutcomeTame _ _ (execCmpJobComplete lane s) from tame_run h.cmpJobComplete
  | powerOnReset test => exact show OutcomeTame _ _ (execPowerOnReset test s) from tame_runAll .enterPor
  | sysRstAssert => exact show OutcomeTame _ _ (execSysRstAssert s) from tame_runAll .enterPor
  | porRelease b => exact show OutcomeTame _ _ (execPorRelease b s) from tame_run h.porRelease
  | deviceReady => exact show OutcomeTame _ _ (execDeviceReady s) from tame_run h.deviceReady
  | perstAssert => exact show OutcomeTame _ _ (execPerstAssert s) from tame_run h.perstAssert
  | perstRelease => exact show OutcomeTame _ _ (execPerstRelease s) from tame_run h.perstRelease
  | pcieHotReset => exact show OutcomeTame _ _ (execPcieHotReset s) from tame_run h.heldHrst
  | functionLevelReset => exact show OutcomeTame _ _ (execFunctionLevelReset s) from tame_run h.heldHrst
  | hstResetRelease => exact show OutcomeTame _ _ (execHstResetRelease s) from tame_run h.hstRelease
  | softReset v => exact show OutcomeTame _ _ (execSoftReset v s) from tame_run h.softReset
  | islandReset hi v => exact show OutcomeTame _ _ (execIslandReset hi v s) from tame_run h.islandReset
  | dozeEnter => exact show OutcomeTame _ _ (execDozeEnter s) from tame_run h.dozeEnter
  | dozeEntryDone => exact show OutcomeTame _ _ (execDozeEntryDone s) from tame_run h.dozeEntryDone
  | dozeWake => exact show OutcomeTame _ _ (execDozeWake s) from tame_run h.wakeCause
  | gpioWake pin falling => exact show OutcomeTame _ _ (execGpioWake pin falling s) from tame_run (Tame.ite h.wakeCause h)
  | writeGlbWake v => exact show OutcomeTame _ _ (execWriteGlbWake v s) from tame_run (Tame.ite h.writeGlbWake h)
  | timedWake => exact show OutcomeTame _ _ (execTimedWake s) from tame_run h.timedWake
  | wakeDone => exact show OutcomeTame _ _ (execWakeDone s) from tame_run h.wakeDone
  | thermalTrip tj => exact show OutcomeTame _ _ (execThermalTrip tj s) from tame_runAll h.thermalTrip
  | refclkReturn osc => exact show OutcomeTame _ _ (execRefclkReturn osc s) from tame_run h.refclkReturn
  | pcieLinkUp width speed => exact show OutcomeTame _ _ (execPcieLinkUp width speed s) from tame_run h.pcieLinkUp
  | mgtLinkChange up speed => exact show OutcomeTame _ _ (execMgtLinkChange up speed s) from tame_run h.mgtLinkChange
  | flushAreaErase => exact show OutcomeTame _ _ (execFlushAreaErase s) from tame_run h.flushAreaErase
  | mgmtFrameSend dest bytes deflate =>
    exact show OutcomeTame _ _ (execMgmtFrameSend dest bytes deflate s) from tame_run h.mgmtSend

theorem step_tame [∀ x, Fact (x ∈ ps)] {s t : State} (e : step s = .next t) : Tame ps s.dev t.dev := by
  rcases step_next e with rfl | ⟨c, rest, _, hc⟩
  · exact .refl _ _
  · have h := exec_tame (ps := ps) c { s with pending := rest }
    rw [hc] at h
    exact h

/-- Every part of the state. -/
def StatePart.all : List StatePart :=
  [.log, .paths, .pwr, .isl, .tkp, .hif, .rdr, .flush, .lko, .cmp, .hmp, .ports, .pairs, .keys, .ing, .aln, .adc, .flt, .dsp, .dxl,
    .cap, .rul, .mdl, .free]

/-- Settles O10: a step changes the tables only through their own operations. -/
theorem tablesStayCanonical : Obligations.TablesStayCanonical := by
  intro s t hregs hmem e
  have hall : ∀ x, Fact (x ∈ StatePart.all) := fun x => ⟨by cases x <;> decide⟩
  have h := step_tame (ps := StatePart.all) e
  exact ⟨h.regs hregs, h.mem hmem⟩

end Sys2Proof.Machine

/-!
PROOFS. Which words a meaning leaves alone: none of its registers lies below a bound, so the words below it stand.
-/

namespace Sys2Proof.Machine

open Sys2Proof

/-- From `e` to `d` no word below `lo` has changed. -/
def Low (lo : Nat) (e d : Dev) : Prop := ∀ a < lo, d.word a = e.word a

variable {lo : Nat} {e d : Dev}

theorem Low.refl (lo : Nat) (d : Dev) : Low lo d d := fun _ _ => rfl

theorem Low.trans {a b c : Dev} (h : Low lo a b) (k : Low lo b c) : Low lo a c := fun x hx => (k x hx).trans (h x hx)

/-- A register below the bound reads what it read before. -/
theorem Low.getN (h : Low lo e d) {f : Field} {i : Nat} (hf : f.reg.addr i < lo) : d.getN f i = e.getN f i := by
  have hw := h _ hf
  simp only [Dev.word] at hw
  simp [Dev.getN, fget, hw]

theorem Low.get (h : Low lo e d) {f : Field} (hf : f.reg.addr 0 < lo) : d.get f = e.get f := h.getN hf

theorem Low.on (h : Low lo e d) {f : Field} (hf : f.reg.addr 0 < lo) : d.on f = e.on f := by
  unfold Dev.on Dev.onN
  rw [h.getN hf]

/-! ## Updates of one component -/

theorem Low.setN {f : Field} {i v : Nat} (h : Low lo e d) (hb : lo ≤ f.reg.base) : Low lo e (d.setN f i v) := fun a ha => by
  rw [Dev.word_setN _ _ _ _ _ (by unfold RegAt.addr; omega)]
  exact h a ha

theorem Low.set {f : Field} {v : Nat} (h : Low lo e d) (hb : lo ≤ f.reg.base) : Low lo e (d.set f v) := h.setN hb

theorem Low.setB {f : Field} {i : Nat} {v : Bool} (h : Low lo e d) (hb : lo ≤ f.reg.base) : Low lo e (d.setB f i v) :=
  h.setN hb

theorem Low.addSat {f : Field} {i n : Nat} (h : Low lo e d) (hb : lo ≤ f.reg.base) : Low lo e (d.addSat f i n) := h.setN hb

theorem Low.sat {f : Field} {i : Nat} (h : Low lo e d) (hb : lo ≤ f.reg.base) : Low lo e (d.sat f i) := h.setN hb

theorem Low.wrapInc {f : Field} {i : Nat} (h : Low lo e d) (hb : lo ≤ f.reg.base) : Low lo e (d.wrapInc f i) := h.setN hb

theorem Low.event {k i x y : Nat} (h : Low lo e d) : Low lo e (d.event k i x y) := h

theorem Low.request {v : Nat} (h : Low lo e d) : Low lo e (d.request v) := fun a ha => by
  simpa [Dev.word] using h a ha

theorem Low.raise {b : IntBlk} {k : Nat} (h : Low lo e d) (hb : lo ≤ b.addr) : Low lo e (d.raise b k) := fun a ha => by
  rw [Dev.raise_word, if_neg (by omega)]
  exact h a ha

theorem Low.cause {b : IntBlk} {k i x : Nat} (h : Low lo e d) (hb : lo ≤ b.addr) : Low lo e (d.cause b k i x) :=
  (h.raise hb).event

theorem Low.paths (h : Low lo e d) {x : FMap PathSt} : Low lo e { d with paths := x } := h
theorem Low.pwr (h : Low lo e d) {x : Pwr} : Low lo e { d with pwr := x } := h
theorem Low.isl (h : Low lo e d) {x : FMap IslSt} : Low lo e { d with isl := x } := h
theorem Low.tkp (h : Low lo e d) {x : Tkp} : Low lo e { d with tkp := x } := h
theorem Low.rdr (h : Low lo e d) {x : LogReader} : Low lo e { d with rdr := x } := h
theorem Low.flush (h : Low lo e d) {x : Flush} : Low lo e { d with flush := x } := h
theorem Low.lko (h : Low lo e d) {x : FMap Probe} : Low lo e { d with lko := x } := h
theorem Low.cmp (h : Low lo e d) {x : FMap CmpJob} : Low lo e { d with cmp := x } := h
theorem Low.ports (h : Low lo e d) {x : FMap Port} : Low lo e { d with ports := x } := h
theorem Low.pairs (h : Low lo e d) {x : FMap PairSt} : Low lo e { d with pairs := x } := h
theorem Low.keys (h : Low lo e d) {x : Keys} : Low lo e { d with keys := x } := h
theorem Low.ing (h : Low lo e d) {x : Ing} : Low lo e { d with ing := x } := h
theorem Low.aln (h : Low lo e d) {x : Aln} : Low lo e { d with aln := x } := h
theorem Low.adc (h : Low lo e d) {x : Adc} : Low lo e { d with adc := x } := h
theorem Low.flt (h : Low lo e d) {x : Flt} : Low lo e { d with flt := x } := h
theorem Low.dsp (h : Low lo e d) {x : Dsp} : Low lo e { d with dsp := x } := h
theorem Low.dxl (h : Low lo e d) {x : Dxl} : Low lo e { d with dxl := x } := h
theorem Low.cap (h : Low lo e d) {x : Cap} : Low lo e { d with cap := x } := h
theorem Low.rul (h : Low lo e d) {x : Rul} : Low lo e { d with rul := x } := h
theorem Low.mdl (h : Low lo e d) {x : Mod} : Low lo e { d with mdl := x } := h
theorem Low.free (h : Low lo e d) {x : Nat} : Low lo e { d with free := x } := h
theorem Low.hif (h : Low lo e d) {x : Hif} : Low lo e { d with hif := x } := h
theorem Low.hmp (h : Low lo e d) {x : Hmp} : Low lo e { d with hmp := x } := h
theorem Low.withEvs (h : Low lo e d) {x : List LogEv} : Low lo e { d with evs := x } := h

/-! ## Choices and repetitions -/

theorem Low.ite {c : Prop} [Decidable c] {a b : Dev} (ha : Low lo e a) (hb : Low lo e b) :
    Low lo e (if c then a else b) := by
  split
  · exact ha
  · exact hb

theorem Low.iteSnd {α : Type} {c : Prop} [Decidable c] {a b : α × Dev} (ha : Low lo e a.2) (hb : Low lo e b.2) :
    Low lo e (if c then a else b).2 := by
  split
  · exact ha
  · exact hb

theorem Low.iteMid {α β : Type} {c : Prop} [Decidable c] {a b : α × Dev × β} (ha : Low lo e a.2.1)
    (hb : Low lo e b.2.1) : Low lo e (if c then a else b).2.1 := by
  split
  · exact ha
  · exact hb

theorem Low.iteLast {α β : Type} {c : Prop} [Decidable c] {a b : α × β × Dev} (ha : Low lo e a.2.2)
    (hb : Low lo e b.2.2) : Low lo e (if c then a else b).2.2 := by
  split
  · exact ha
  · exact hb

/-- The device of a pair, as the `ite`s over pairs ask for it. -/
theorem Low.snd {α : Type} {a : α} (h : Low lo e d) : Low lo e (a, d).2 := h

theorem Low.ofPair {α : Type} {x : α × Dev} {a : α} (h : Low lo e x.2) (hx : x = (a, d)) :
    Low lo e d := by
  rw [hx] at h
  exact h

theorem Low.ofMid {α β : Type} {x : α × Dev × β} {a : α} {b : β} (h : Low lo e x.2.1)
    (hx : x = (a, d, b)) : Low lo e d := by
  rw [hx] at h
  exact h

theorem Low.ofTriple {α β : Type} {x : α × β × Dev} {a : α} {b : β} (h : Low lo e x.2.2)
    (hx : x = (a, b, d)) : Low lo e d := by
  rw [hx] at h
  exact h

theorem Low.foldl {α : Type} {f : Dev → α → Dev} {xs : List α} (h : Low lo e d)
    (hf : ∀ d x, Low lo e d → Low lo e (f d x)) : Low lo e (xs.foldl f d) := by
  induction xs generalizing d with
  | nil => exact h
  | cons x xs ih => exact ih (hf d x h)

theorem Low.foldlSnd {α β : Type} {f : β × Dev → α → β × Dev} {xs : List α} {a : β × Dev} (h : Low lo e a.2)
    (hf : ∀ a x, Low lo e a.2 → Low lo e (f a x).2) : Low lo e (xs.foldl f a).2 := by
  induction xs generalizing a with
  | nil => exact h
  | cons x xs ih => exact ih (hf a x h)

theorem Low.foldlLast {α β γ : Type} {f : β × γ × Dev → α → β × γ × Dev} {xs : List α} {a : β × γ × Dev}
    (h : Low lo e a.2.2) (hf : ∀ a x, Low lo e a.2.2 → Low lo e (f a x).2.2) : Low lo e (xs.foldl f a).2.2 := by
  induction xs generalizing a with
  | nil => exact h
  | cons x xs ih => exact ih (hf a x h)

/-! ## The functions of the model -/

theorem Low.setPort {n : Nat} {p : Port} (h : Low lo e d) :
    Low lo e (Dev.setPort d n p) := h.ports

theorem Low.setPair {n : Nat} {p : PairSt} (h : Low lo e d) :
    Low lo e (Dev.setPair d n p) := h.pairs

theorem Low.setRing {n : Nat} {r : Ring} (h : Low lo e d) :
    Low lo e (Dev.setRing d n r) := h.hif

theorem Low.owe {n : Nat} {o : Owed} (h : Low lo e d) :
    Low lo e (owe n o d) := h.setRing

theorem Low.endStarted {n idx status len : Nat} {ext : List Byte} {stampPort : Option Nat} (h : Low lo e d) :
    Low lo e (endStarted n idx status len ext stampPort d) := by
  unfold Machine.endStarted
  dsimp only
  split
  · exact h
  · exact h.setRing.owe

theorem Low.modHmp {f : Hmp → Hmp} (h : Low lo e d) :
    Low lo e (Dev.modHmp d f) := h.hmp

theorem Low.hwrite {w : Nat} {v : Word32} (h : Low lo e d) :
    Low lo e (hwrite w v d) := Low.ite h (Low.ite h.modHmp h.modHmp)

theorem Low.partWrite {n w : Nat} {vs : List Word32} (h : Low lo e d) : Low lo e (partWrite n w vs d) := by
  induction vs generalizing w d with
  | nil => exact h
  | cons v vs ih => exact ih (.ite h.hwrite h)

theorem Low.scrubStart {t : Time} (h : Low lo e d) (hb : lo ≤ 0x20004) :
    Low lo e (scrubStart t d) := ((h.modHmp.set (hb.trans (by decide))).set (hb.trans (by decide)))

theorem Low.keyDeny {eng slot reason : Nat} (h : Low lo e d) (hb : lo ≤ 0x110004) :
    Low lo e (keyDeny eng slot reason d) :=
  (Low.cause (Low.set (Low.set (Low.set ((h.sat (hb.trans (by decide))).sat (hb.trans (by decide))) (hb.trans (by decide)))
    (hb.trans (by decide))) (hb.trans (by decide))) (hb.trans (by decide)))

theorem Low.keyUse {eng inst slot usage : Nat} {long : Bool} (h : Low lo e d) (hb : lo ≤ 0x110004) :
    Low lo e (keyUse eng inst slot usage long d).2 := by
  unfold Machine.keyUse
  split
  · exact Low.snd (h.keyDeny (hb.trans (by decide)))
  · exact Low.iteSnd (Low.snd (h.keyDeny (hb.trans (by decide)))) (Low.iteSnd (Low.snd (h.keyDeny (hb.trans (by decide))))
    (Low.iteSnd (Low.snd (h.keyDeny (hb.trans (by decide)))) (Low.snd (Low.ite (h.wrapInc (hb.trans (by decide)))
    ((h.wrapInc (hb.trans (by decide))).keys)))))

theorem Low.modPort {n : Nat} {f : Port → Port} (h : Low lo e d) :
    Low lo e (Dev.modPort d n f) := h.setPort

theorem Low.setFate {n ring idx : Nat} {fate : Option CopyFate} (h : Low lo e d) :
    Low lo e (setFate n ring idx fate d) := h.setPair

theorem Low.txDone {n : Nat} {f : TxFrame} {fate : Option CopyFate} (h : Low lo e d) :
    Low lo e (txDone n f fate d) := by
  unfold Machine.txDone
  split
  · exact Low.ite h.setFate h.endStarted
  · exact h

theorem Low.txFail {n : Nat} {f : TxFrame} {status : Nat} (h : Low lo e d) :
    Low lo e (txFail n f status d) := h.txDone

theorem Low.pushTx {n : Nat} {f : TxFrame} (h : Low lo e d) :
    Low lo e (pushTx n f d) := h.modPort

theorem Low.sendTx {n : Nat} {f : TxFrame} (h : Low lo e d) :
    Low lo e (sendTx n f d) :=
  Low.ite (Low.ite h.pushTx h) (Low.ite (Low.pushTx (Low.ite h.setPair.pushTx h.setPair.txFail)) (Low.txFail (Low.ite
    h.setPair.pushTx h.setPair.txFail)))

theorem Low.modDxl {f : Dxl → Dxl} (h : Low lo e d) :
    Low lo e (Dev.modDxl d f) := h.dxl

theorem Low.setLinkState {l st : Nat} (h : Low lo e d) (hb : lo ≤ 0x6000C) :
    Low lo e (setLinkState l st d) := ((h.setN (hb.trans (by decide))).set (hb.trans (by decide)))

theorem Low.fabricStart {t : Time} (h : Low lo e d) (hb : lo ≤ 0x60000) :
    Low lo e (fabricStart t d) :=
  Low.foldl (Low.modDxl (Low.set ((h.set (hb.trans (by decide))).set (hb.trans (by decide))) (hb.trans (by decide)))) fun _
    _ h1 => (h1.setLinkState (hb.trans (by decide)))

theorem Low.modCap {f : Cap → Cap} (h : Low lo e d) :
    Low lo e (Dev.modCap d f) := h.cap

theorem Low.capRej (h : Low lo e d) (hb : lo ≤ 0xE000C) :
    Low lo e (capRej d) := (h.cause (hb.trans (by decide)))

theorem Low.captureStart (h : Low lo e d) (hb : lo ≤ 0xE0000) :
    Low lo e (captureStart d) :=
  Low.ite (Low.capRej (Low.set (Low.set ((h.set (hb.trans (by decide))).set (hb.trans (by decide))) (hb.trans (by decide)))
    (hb.trans (by decide))) (hb.trans (by decide))) (Low.ite (Low.capRej (Low.set (Low.set ((h.set
    (hb.trans (by decide))).set (hb.trans (by decide))) (hb.trans (by decide))) (hb.trans (by decide)))
    (hb.trans (by decide))) (Low.set (Low.set (Low.set (Low.modCap (Low.ite (h.set (hb.trans (by decide))) ((h.set
    (hb.trans (by decide))).partWrite))) (hb.trans (by decide))) (hb.trans (by decide))) (hb.trans (by decide))))

theorem Low.queueFrames {n tc : Nat} {o : TxOrigin} {fs : List (List Byte)} (h : Low lo e d) :
    Low lo e (queueFrames n tc o fs d) := h.foldl fun _ _ h0 => h0.sendTx

theorem Low.modMdl {f : Mod → Mod} (h : Low lo e d) :
    Low lo e (Dev.modMdl d f) := h.mdl

theorem Low.slotsAll {w : Word32} (h : Low lo e d) (hb : lo ≤ 0x363400) :
    Low lo e (slotsAll w d) := h.foldl fun _ _ h0 => (h0.setN (hb.trans (by decide)))

theorem Low.modalStart {t : Time} (h : Low lo e d) (hb : lo ≤ 0xD0000) :
    Low lo e (modalStart t d) :=
  Low.ite ((h.set (hb.trans (by decide))).set (hb.trans (by decide))) (Low.ite (Low.cause ((h.set
    (hb.trans (by decide))).set (hb.trans (by decide))) (hb.trans (by decide))) (Low.slotsAll (Low.foldl (Low.set (Low.set
    (Low.set (Low.set ((h.set (hb.trans (by decide))).modMdl) (hb.trans (by decide))) (hb.trans (by decide)))
    (hb.trans (by decide))) (hb.trans (by decide))) fun _ _ h8 => (h8.setN (hb.trans (by decide)))) (hb.trans (by decide))))

theorem Low.modDsp {f : Dsp → Dsp} (h : Low lo e d) :
    Low lo e (Dev.modDsp d f) := h.dsp

theorem Low.dspMessage {c : Nat} (h : Low lo e d) :
    Low lo e (dspMessage c d) := Low.ite h.request h.modDsp

theorem Low.nextRefresh {c : Nat} (h : Low lo e d) (hb : lo ≤ 0x100104) :
    Low lo e (nextRefresh c d) := by
  unfold Machine.nextRefresh
  exact Low.ite (Low.dspMessage (by
    split
    · exact (Low.setN ((h.setN (hb.trans (by decide))).setN (hb.trans (by decide))) (hb.trans (by decide)))
    · exact (Low.setN ((h.setN (hb.trans (by decide))).setN (hb.trans (by decide))) (hb.trans (by decide))))) (by
    split
    · exact (Low.setN ((h.setN (hb.trans (by decide))).setN (hb.trans (by decide))) (hb.trans (by decide)))
    · exact (Low.setN ((h.setN (hb.trans (by decide))).setN (hb.trans (by decide))) (hb.trans (by decide))))

theorem Low.nextAll (h : Low lo e d) (hb : lo ≤ 0x100008) :
    Low lo e (nextAll d) :=
  Low.foldl (h.setB (hb.trans (by decide))) fun _ _ h0 => (h0.nextRefresh (hb.trans (by decide)))

theorem Low.dspCounts (h : Low lo e d) (hb : lo ≤ 0x100008) :
    Low lo e (dspCounts d) :=
  (Low.set ((h.set (hb.trans (by decide))).set (hb.trans (by decide))) (hb.trans (by decide)))

theorem Low.modRul {f : Rul → Rul} (h : Low lo e d) :
    Low lo e (Dev.modRul d f) := h.rul

theorem Low.overAll {n : Nat} {f : Nat → Dev → Dev} (h : Low lo e d) (hf : ∀ k x, Low lo e x → Low lo e (f k x)) :
    Low lo e (overAll n f d) := h.foldl fun _ _ h0 => hf _ _ h0

theorem Low.pinUpdate {t : Time} {n : Nat} (h : Low lo e d) (hb : lo ≤ 0xC0030) :
    Low lo e (pinUpdate t n d) := (h.modRul.setB (hb.trans (by decide)))

theorem Low.pinsUpdate {t : Time} (h : Low lo e d) (hb : lo ≤ 0xC0030) :
    Low lo e (pinsUpdate t d) := h.overAll (fun _ _ h0 => (h0.pinUpdate (hb.trans (by decide))))

theorem Low.gooseDrop (h : Low lo e d) (hb : lo ≤ 0xC0008) :
    Low lo e (gooseDrop d) := ((h.sat (hb.trans (by decide))).cause (hb.trans (by decide)))

theorem Low.tmplQueue {m : Nat} {fs : List (List Byte)} (h : Low lo e d) (hb : lo ≤ 0xC0008) :
    Low lo e (tmplQueue m fs d) :=
  Low.ite (h.queueFrames.sat (hb.trans (by decide))) (h.gooseDrop (hb.trans (by decide)))

theorem Low.tmplRouted {m : Nat} {b : List Byte} {auth : Nat} {key : Option Nat} (h : Low lo e d) (hb : lo ≤ 0xC0008) :
    Low lo e (tmplRouted m b auth key d) := by
  unfold Machine.tmplRouted
  dsimp only
  split
  · exact (h.modRul.tmplQueue (hb.trans (by decide)))
  · exact (h.modRul.gooseDrop (hb.trans (by decide)))

theorem Low.tmplSend {t : Time} {m : Nat} (h : Low lo e d) (hb : lo ≤ 0xC0008) :
    Low lo e (tmplSend t m d) := by
  unfold Machine.tmplSend
  exact Low.ite h (Low.ite (h.tmplQueue (hb.trans (by decide))) (Low.ite (h.tmplRouted (hb.trans (by decide))) (by
    split
    · exact (Low.tmplRouted (Low.ofPair (h.keyUse (hb.trans (by decide))) ‹_›) (hb.trans (by decide)))
    · exact (Low.gooseDrop (Low.ofPair (h.keyUse (hb.trans (by decide))) ‹_›) (hb.trans (by decide))))))

theorem Low.modTmpl {m : Nat} {f : TmplSt → TmplSt} (h : Low lo e d) :
    Low lo e (modTmpl m f d) := h.modRul

theorem Low.tmplChange {t : Time} {m inst : Nat} {members : List Bool} (h : Low lo e d) (hb : lo ≤ 0xC0008) :
    Low lo e (tmplChange t m inst members d) := (h.modTmpl.tmplSend (hb.trans (by decide)))

theorem Low.rulTakeMode {t : Time} (h : Low lo e d) (hb : lo ≤ 0xC0030) :
    Low lo e (rulTakeMode t d) := Low.ite h (h.modRul.pinsUpdate (hb.trans (by decide)))

theorem Low.rulResume {t : Time} (h : Low lo e d) (hb : lo ≤ 0xC0004) :
    Low lo e (rulResume t d) :=
  (Low.pinsUpdate ((h.modRul.setB (hb.trans (by decide))).overAll (fun _ _ h3 => Low.ite (h3.tmplChange
    (hb.trans (by decide))) h3)) (hb.trans (by decide)))

theorem Low.modAln {f : Aln → Aln} (h : Low lo e d) :
    Low lo e (Dev.modAln d f) := h.aln

theorem Low.alnRej (h : Low lo e d) (hb : lo ≤ 0x80008) :
    Low lo e (alnRej d) := (h.cause (hb.trans (by decide)))

theorem Low.openCount (h : Low lo e d) (hb : lo ≤ 0x80004) :
    Low lo e (openCount d) := (h.set (hb.trans (by decide)))

theorem Low.alnState {s : Nat} (h : Low lo e d) (hb : lo ≤ 0x240008) :
    Low lo e (alnState s d) := Low.ite h (h.setB (hb.trans (by decide)))

theorem Low.outRefuse {n st : Nat} (h : Low lo e d) (hb : lo ≤ 0x80008) :
    Low lo e (outRefuse n st d) :=
  (Low.cause (Low.setN (Low.setN ((h.setN (hb.trans (by decide))).setN (hb.trans (by decide))) (hb.trans (by decide)))
    (hb.trans (by decide))) (hb.trans (by decide)))

theorem Low.modOut {n : Nat} {f : OutSt → OutSt} (h : Low lo e d) :
    Low lo e (modOut n f d) := h.modAln

theorem Low.layOut (h : Low lo e d) (hb : lo ≤ 0x240004) :
    Low lo e (layOut d).2 := by
  unfold Machine.layOut
  exact Low.foldlSnd h fun _ _ h0 => Low.snd (h0.setN (hb.trans (by decide)))

theorem Low.outRecheck {t : Time} {n : Nat} (h : Low lo e d) (hb : lo ≤ 0x80008) :
    Low lo e (outRecheck t n d) :=
  Low.ite h (Low.ite (h.outRefuse (hb.trans (by decide))) (Low.modOut (Low.ite ((h.setN (hb.trans (by decide))).setN
    (hb.trans (by decide))) (Low.setN ((h.setN (hb.trans (by decide))).setN (hb.trans (by decide))) (hb.trans (by decide))))))

theorem Low.alnStart {t : Time} (h : Low lo e d) (hb : lo ≤ 0x80000) :
    Low lo e (alnStart t d) := by
  unfold Machine.alnStart
  dsimp only
  exact Low.ite (Low.cause (Low.set (Low.set (Low.set (Low.set ((h.layOut (hb.trans (by decide))).set
    (hb.trans (by decide))) (hb.trans (by decide))) (hb.trans (by decide))) (hb.trans (by decide))) (hb.trans (by decide)))
    (hb.trans (by decide))) (Low.openCount (Low.ite (Low.alnRej (Low.foldl (Low.rulTakeMode (Low.modRul (Low.set (Low.foldl
    (Low.modAln (Low.set (Low.set (Low.set ((h.layOut (hb.trans (by decide))).set (hb.trans (by decide)))
    (hb.trans (by decide))) (hb.trans (by decide))) (hb.trans (by decide)))) fun _ _ h21 => (h21.outRecheck
    (hb.trans (by decide)))) (hb.trans (by decide)))) (hb.trans (by decide))) fun _ _ h17 => (Low.alnState ((h17.setN
    (hb.trans (by decide))).setN (hb.trans (by decide))) (hb.trans (by decide)))) (hb.trans (by decide))) (Low.foldl
    (Low.rulTakeMode (Low.modRul (Low.set (Low.foldl (Low.modAln (Low.set (Low.set (Low.set ((h.layOut
    (hb.trans (by decide))).set (hb.trans (by decide))) (hb.trans (by decide))) (hb.trans (by decide)))
    (hb.trans (by decide)))) fun _ _ h20 => (h20.outRecheck (hb.trans (by decide)))) (hb.trans (by decide))))
    (hb.trans (by decide))) fun _ _ h16 => (Low.alnState ((h16.setN (hb.trans (by decide))).setN (hb.trans (by decide)))
    (hb.trans (by decide))))) (hb.trans (by decide)))

theorem Low.alnResume {t : Time} (h : Low lo e d) (hb : lo ≤ 0x80000) :
    Low lo e (alnResume t d) := by
  unfold Machine.alnResume
  exact Low.ite (h.alnStart (hb.trans (by decide))) h

theorem Low.modCv {n : Nat} {f : Cv → Cv} (h : Low lo e d) :
    Low lo e (Dev.modCv d n f) := h.adc

theorem Low.adcRej (h : Low lo e d) (hb : lo ≤ 0xA000C) :
    Low lo e (adcRej d) := (h.cause (hb.trans (by decide)))

theorem Low.startStatus {n st : Nat} (h : Low lo e d) (hb : lo ≤ 0xA0058) :
    Low lo e (startStatus n st d) := (h.setN (hb.trans (by decide)))

theorem base_fArmed (n : Nat) : (fArmed n).reg.base = 0xA0008 := by
  unfold fArmed
  split <;> rfl

theorem Low.cvArm {t : Time} {n target tol : Nat} (h : Low lo e d) (hb : lo ≤ 0xA0008) :
    Low lo e (cvArm t n target tol d) := by
  unfold Machine.cvArm
  dsimp only
  split
  · exact (h.startStatus (hb.trans (by decide))).adcRej (hb.trans (by decide))
  · exact .ite ((h.setN (hb.trans (by decide))).startStatus (hb.trans (by decide)))
      (((h.setN (hb.trans (by decide))).set (hb.trans (base_fArmed n).ge)).modCv)

theorem Low.adcResume {t : Time} (h : Low lo e d) (hb : lo ≤ 0xA0008) :
    Low lo e (adcResume t d) := Low.foldl (Low.ite h.adc h) fun _ _ h2 => Low.ite (h2.cvArm (hb.trans (by decide))) h2

theorem Low.modLane {n : Nat} {f : LaneSt → LaneSt} (h : Low lo e d) :
    Low lo e (Dev.modLane d n f) := h.flt

theorem Low.laneState {n st : Nat} (h : Low lo e d) (hb : lo ≤ 0xB0004) :
    Low lo e (laneState n st d) := ((h.setN (hb.trans (by decide))).set (hb.trans (by decide)))

theorem Low.showBudgets (h : Low lo e d) (hb : lo ≤ 0xB0010) :
    Low lo e (showBudgets d) :=
  (Low.set ((h.set (hb.trans (by decide))).set (hb.trans (by decide))) (hb.trans (by decide)))

theorem Low.laneSync {n : Nat} (h : Low lo e d) (hb : lo ≤ 0xB0004) :
    Low lo e (laneSync n d) :=
  (Low.laneState (Low.setN ((h.modLane.setN (hb.trans (by decide))).setN (hb.trans (by decide))) (hb.trans (by decide)))
    (hb.trans (by decide)))

theorem Low.fltResume {t : Time} (h : Low lo e d) (hb : lo ≤ 0xB0004) :
    Low lo e (fltResume t d) :=
  ((h.foldl fun _ _ h1 => (h1.modLane.laneSync (hb.trans (by decide)))).showBudgets (hb.trans (by decide)))

theorem Low.islandResume {t : Time} {i : Nat} (h : Low lo e d) (hb : lo ≤ 0x20004) :
    Low lo e (islandResume t i d) :=
  Low.ite h.hif (Low.ite (Low.ite (h.fabricStart (hb.trans (by decide))) h) (Low.ite (h.alnResume (hb.trans (by decide)))
    (Low.ite ((h.adcResume (hb.trans (by decide))).fltResume (hb.trans (by decide))) (Low.ite (Low.ite ((h.rulResume
    (hb.trans (by decide))).modalStart (hb.trans (by decide))) (h.rulResume (hb.trans (by decide)))) (Low.ite (Low.ite
    (h.captureStart (hb.trans (by decide))) h) (Low.ite ((h.dspCounts (hb.trans (by decide))).nextAll
    (hb.trans (by decide))) (Low.ite (Low.ite (h.scrubStart (hb.trans (by decide))) h) h)))))))

end Sys2Proof.Machine

/-!
PROOFS. What the end of a command leaves of the device that its meaning gives: everything but the words of the Logbook's intake,
the events in hand and a message requested.
-/

namespace Sys2Proof.Machine

open Sys2Proof

@[simp] theorem after_isl (s : State) (d : Dev) : (s.after d).dev.isl = d.isl := finish_isl _
@[simp] theorem after_rdr (s : State) (d : Dev) : (s.after d).dev.rdr = d.rdr := finish_rdr _
@[simp] theorem after_flush (s : State) (d : Dev) : (s.after d).dev.flush = d.flush := finish_flush _
@[simp] theorem after_lko (s : State) (d : Dev) : (s.after d).dev.lko = d.lko := finish_lko _
@[simp] theorem after_cmp (s : State) (d : Dev) : (s.after d).dev.cmp = d.cmp := finish_cmp _
@[simp] theorem after_ports (s : State) (d : Dev) : (s.after d).dev.ports = d.ports := finish_ports _
@[simp] theorem after_pairs (s : State) (d : Dev) : (s.after d).dev.pairs = d.pairs := finish_pairs _
@[simp] theorem after_keys (s : State) (d : Dev) : (s.after d).dev.keys = d.keys := finish_keys _
@[simp] theorem after_ing (s : State) (d : Dev) : (s.after d).dev.ing = d.ing := finish_ing _
@[simp] theorem after_aln (s : State) (d : Dev) : (s.after d).dev.aln = d.aln := finish_aln _
@[simp] theorem after_adc (s : State) (d : Dev) : (s.after d).dev.adc = d.adc := finish_adc _
@[simp] theorem after_flt (s : State) (d : Dev) : (s.after d).dev.flt = d.flt := finish_flt _
@[simp] theorem after_dsp (s : State) (d : Dev) : (s.after d).dev.dsp = d.dsp := finish_dsp _
@[simp] theorem after_dxl (s : State) (d : Dev) : (s.after d).dev.dxl = d.dxl := finish_dxl _
@[simp] theorem after_cap (s : State) (d : Dev) : (s.after d).dev.cap = d.cap := finish_cap _
@[simp] theorem after_rul (s : State) (d : Dev) : (s.after d).dev.rul = d.rul := finish_rul _
@[simp] theorem after_mdl (s : State) (d : Dev) : (s.after d).dev.mdl = d.mdl := finish_mdl _
@[simp] theorem after_free (s : State) (d : Dev) : (s.after d).dev.free = d.free := finish_free _
@[simp] theorem after_msixEn (s : State) (d : Dev) : (s.after d).dev.hif.msixEn = d.hif.msixEn := finish_hif_msixEn _
@[simp] theorem after_funcMask (s : State) (d : Dev) : (s.after d).dev.hif.funcMask = d.hif.funcMask := finish_hif_funcMask _
@[simp] theorem after_linkHold (s : State) (d : Dev) : (s.after d).dev.hif.linkHold = d.hif.linkHold := finish_hif_linkHold _
@[simp] theorem after_crs (s : State) (d : Dev) : (s.after d).dev.hif.crs = d.hif.crs := finish_hif_crs _
@[simp] theorem after_training (s : State) (d : Dev) : (s.after d).dev.hif.training = d.hif.training := finish_hif_training _

theorem after_onN (s : State) (d : Dev) (f : Field) (i : Nat) (h : ¬ intakeWord (f.reg.addr i)) :
    (s.after d).dev.onN f i = d.onN f i := by
  simp [Dev.onN, after_getN s d f i h]

theorem after_on (s : State) (d : Dev) (f : Field) (h : ¬ intakeWord (f.reg.addr 0)) : (s.after d).dev.on f = d.on f :=
  after_onN s d f 0 h

/-- An island is up after a command exactly if the device it left has it up. -/
@[simp] theorem after_up (s : State) (d : Dev) (i : Nat) : (s.after d).dev.up i = d.up i := by
  simp [Dev.up]

theorem mem_islands {i : Nat} : i ∈ islands ↔ i < 36 := List.mem_range

/-! ## A field through the updates of others -/

@[simp] theorem Dev.event_getN (d : Dev) (k i x y : Nat) (f : Field) (j : Nat) : (d.event k i x y).getN f j = d.getN f j :=
  rfl
@[simp] theorem Dev.event_get (d : Dev) (k i x y : Nat) (f : Field) : (d.event k i x y).get f = d.get f := rfl
@[simp] theorem Dev.event_on (d : Dev) (k i x y : Nat) (f : Field) : (d.event k i x y).on f = d.on f := rfl
@[simp] theorem Dev.event_onN (d : Dev) (k i x y : Nat) (f : Field) (j : Nat) : (d.event k i x y).onN f j = d.onN f j := rfl
@[simp] theorem Dev.event_word (d : Dev) (k i x y a : Nat) : (d.event k i x y).word a = d.word a := rfl

theorem Dev.cause_get (d : Dev) (b : IntBlk) (k i x : Nat) (f : Field) (h : f.reg.addr 0 ≠ b.addr) :
    (d.cause b k i x).get f = d.get f := Dev.cause_getN d b k i x f 0 h

theorem Dev.cause_onN (d : Dev) (b : IntBlk) (k i x : Nat) (f : Field) (j : Nat) (h : f.reg.addr j ≠ b.addr) :
    (d.cause b k i x).onN f j = d.onN f j := by
  simp [Dev.onN, Dev.cause_getN d b k i x f j h]

theorem Dev.cause_on (d : Dev) (b : IntBlk) (k i x : Nat) (f : Field) (h : f.reg.addr 0 ≠ b.addr) :
    (d.cause b k i x).on f = d.on f := Dev.cause_onN d b k i x f 0 h

theorem Dev.onN_setN_same (d : Dev) (f : Field) (i v : Nat) (hf : f.fits = true) :
    (d.setN f i v).onN f i = (v % 2 ^ f.width != 0) := by
  simp [Dev.onN, Dev.getN_setN_same d f i v hf]

theorem Dev.onN_setN_addr (d : Dev) (f g : Field) (i j v : Nat) (h : g.reg.addr j ≠ f.reg.addr i) :
    (d.setN f i v).onN g j = d.onN g j := by
  simp [Dev.onN, Dev.getN_setN_addr d f g i j v h]

theorem Dev.onN_setN_apart (d : Dev) (f g : Field) (i j v : Nat) (hf : f.fits = true) (hg : g.fits = true)
    (h : f.apart g = true) : (d.setN f i v).onN g j = d.onN g j := by
  simp [Dev.onN, Dev.getN_setN_apart d f g i j v hf hg h]

theorem Dev.get_set_mod (d : Dev) (f : Field) (v : Nat) (hf : f.fits = true) : (d.set f v).get f = v % 2 ^ f.width :=
  Dev.getN_setN_same d f 0 v hf

theorem Dev.on_set_same (d : Dev) (f : Field) (v : Nat) (hf : f.fits = true) :
    (d.set f v).on f = (v % 2 ^ f.width != 0) := Dev.onN_setN_same d f 0 v hf

theorem Dev.on_set_other (d : Dev) (f g : Field) (v : Nat)
    (h : (f.reg.addr 0 != g.reg.addr 0 || (f.fits && g.fits && f.apart g)) = true) : (d.set f v).on g = d.on g := by
  have hg := Dev.get_set_other d f g v h
  unfold Dev.on Dev.onN
  rw [show (d.set f v).getN g 0 = d.getN g 0 from hg]

theorem Dev.word_set (d : Dev) (f : Field) (v a : Nat) (h : a ≠ f.reg.addr 0) : (d.set f v).word a = d.word a :=
  Dev.word_setN d f 0 v a h

end Sys2Proof.Machine

/-!
PROOFS. The clocks of the islands and of AON: failing, returning, and the resets that go with them (R19, R20, R617, R648, R649).
-/

namespace Sys2Proof.Machine

open Sys2Proof

/-! ## What the commands mean -/

theorem exec_islandClockFail (island : Nat) (s : State) :
    exec (.islandClockFail island) s = .next (s.after (islandClockFail s.time island s.dev)) := rfl

theorem exec_islandClockRecover (island : Nat) (s : State) :
    exec (.islandClockRecover island) s = .next (s.after (islandClockRecover s.time island s.dev)) := rfl

theorem exec_islandResetExit (island : Nat) (s : State) :
    exec (.islandResetExit island) s = .next (s.after (islandExit s.time island s.dev)) := rfl

theorem exec_osc10mFail (s : State) : exec .osc10mFail s = .next (s.after (osc10mFail s.time s.dev)) := rfl

theorem exec_refclkFail (s : State) : exec .refclkFail s = .next (s.after (refclkFail s.time s.dev)) := rfl

theorem exec_refclkReturn (osc : Bool) (s : State) :
    exec (.refclkReturn osc) s = .next (s.after (refclkReturn s.time osc s.dev)) := rfl

/-! ## The islands through a reset and its end -/

theorem isl_islandResume (t : Time) (i : Nat) (d : Dev) : (islandResume t i d).isl = d.isl :=
  (@Tame.islandResume [.hif, .hmp, .ports, .pairs, .keys, .aln, .adc, .flt, .dsp, .dxl, .cap, .rul, .mdl] d d t i
    (.refl _ _) ⟨by decide⟩ ⟨by decide⟩ ⟨by decide⟩ ⟨by decide⟩ ⟨by decide⟩ ⟨by decide⟩ ⟨by decide⟩ ⟨by decide⟩ ⟨by decide⟩
    ⟨by decide⟩ ⟨by decide⟩ ⟨by decide⟩ ⟨by decide⟩).stands .isl (by decide)

theorem isl_clockInteg (t : Time) (i : Nat) (d : Dev) : (clockInteg t i d).isl = d.isl :=
  (@Tame.clockInteg [.hif, .rul, .free] d d t i (.refl _ _) ⟨by decide⟩ ⟨by decide⟩ ⟨by decide⟩).stands .isl (by decide)

theorem pwr_clockInteg (t : Time) (i : Nat) (d : Dev) : (clockInteg t i d).pwr = d.pwr :=
  (@Tame.clockInteg [.hif, .rul, .free] d d t i (.refl _ _) ⟨by decide⟩ ⟨by decide⟩ ⟨by decide⟩).stands .pwr (by decide)

theorem pwr_islandResume (t : Time) (i : Nat) (d : Dev) : (islandResume t i d).pwr = d.pwr :=
  (@Tame.islandResume [.hif, .hmp, .ports, .pairs, .keys, .aln, .adc, .flt, .dsp, .dxl, .cap, .rul, .mdl] d d t i
    (.refl _ _) ⟨by decide⟩ ⟨by decide⟩ ⟨by decide⟩ ⟨by decide⟩ ⟨by decide⟩ ⟨by decide⟩ ⟨by decide⟩ ⟨by decide⟩ ⟨by decide⟩
    ⟨by decide⟩ ⟨by decide⟩ ⟨by decide⟩ ⟨by decide⟩).stands .pwr (by decide)

/-- What an island loses: neither an island's state nor the state of AON. -/
theorem tame_islandLose (t : Time) (i : Nat) (d : Dev) :
    Tame [.hif, .rdr, .lko, .cmp, .hmp, .ports, .pairs, .keys, .ing, .aln, .adc, .dsp, .dxl, .cap, .rul, .mdl, .free] d
      (islandLose t i d) :=
  @Tame.islandLose _ d d t i (.refl _ _) ⟨by decide⟩ ⟨by decide⟩ ⟨by decide⟩ ⟨by decide⟩ ⟨by decide⟩ ⟨by decide⟩ ⟨by decide⟩
    ⟨by decide⟩ ⟨by decide⟩ ⟨by decide⟩ ⟨by decide⟩ ⟨by decide⟩ ⟨by decide⟩ ⟨by decide⟩ ⟨by decide⟩ ⟨by decide⟩ ⟨by decide⟩

theorem isl_islandAfter (t : Time) (i : Nat) (old d : Dev) : (islandAfter t i old d).isl = d.isl :=
  (@Tame.islandAfter [.pwr, .flt] d d t i old (.refl _ _) ⟨by decide⟩ ⟨by decide⟩).stands .isl (by decide)

/-- An island in reset is marked so; every other island stands. -/
theorem isl_doIrst (t : Time) (d : Dev) (i : Nat) :
    (doIrst t d i).isl = tmod d.isl i fun x => { x with mode := .reset } := by
  have hlose : (islandLose t i d).isl = d.isl := (tame_islandLose t i d).stands .isl (by decide)
  show (tmod (islandAfter t i d ((islandLose t i d).resetWords .irst fun a => islandOf a == i)).isl i
    fun x => { x with mode := .reset }) = _
  rw [isl_islandAfter]
  exact congrArg (fun m => tmod m i fun x => { x with mode := .reset }) hlose

/-- AON's state but for what Xaorn's cores execute. -/
def withoutXaorn (p : Pwr) : Pwr := { p with xaornRuns := false, xaornFrom := 0 }

theorem aon_xaornRestart (t : Time) (d : Dev) : withoutXaorn (xaornRestart t d).pwr = withoutXaorn d.pwr := by
  unfold xaornRestart
  split <;> rfl

theorem pwr_ralmFailsafe (d : Dev) : (ralmFailsafe d).pwr = d.pwr :=
  (Tame.ralmFailsafe (ps := []) (.refl _ d)).stands .pwr (by decide)

theorem pwr_fltReset (old d : Dev) : (fltReset old d).pwr = d.pwr :=
  (@Tame.fltReset [.flt] d d old (.refl _ _) ⟨by decide⟩).stands .pwr (by decide)

theorem aon_islandAfter (t : Time) (i : Nat) (old d : Dev) :
    withoutXaorn (islandAfter t i old d).pwr = withoutXaorn d.pwr := by
  unfold islandAfter
  split
  · rfl
  split
  · rw [pwr_ralmFailsafe]
  split
  · rw [pwr_fltReset]
  split
  · exact aon_xaornRestart t d
  · rfl

/-- An island's reset leaves AON's state; only MGT's restarts Xaorn's cores. -/
theorem aon_doIrst (t : Time) (d : Dev) (i : Nat) : withoutXaorn (doIrst t d i).pwr = withoutXaorn d.pwr := by
  have hlose : (islandLose t i d).pwr = d.pwr := (tame_islandLose t i d).stands .pwr (by decide)
  show withoutXaorn (islandAfter t i d ((islandLose t i d).resetWords .irst fun a => islandOf a == i)).pwr = _
  rw [aon_islandAfter]
  exact congrArg withoutXaorn hlose

/-! ## Island clocks (R19, R20, R617) -/

theorem islandClockFail_stands {t : Time} {i : Nat} {d : Dev}
    (h : 36 ≤ i ∨ d.pwr.released = false ∨ islMode d i = .gated ∨ islMode d i = .off ∨ (tget d.isl i).clkBad = true) :
    islandClockFail t i d = d := if_pos (by simpa using h)

theorem islandClockFail_fails {t : Time} {i : Nat} {d : Dev} (hi : i < 36) (hr : d.pwr.released = true)
    (hm : islMode d i = .run ∨ islMode d i = .reset) (hc : (tget d.isl i).clkBad = false) :
    islandClockFail t i d =
      clockInteg t i ((if islMode d i = .run then doIrst t ((d.event 16 i i 0).cause intGlb 6 i 0) i
        else (d.event 16 i i 0).cause intGlb 6 i 0).modIsl i fun x => { x with clkBad := true }) := by
  have hmode : islMode ((d.event 16 i i 0).cause intGlb 6 i 0) i = islMode d i := by simp [islMode]
  unfold islandClockFail
  rw [if_neg (by rcases hm with hm | hm <;> simp [hm, hr, hc, hi])]
  simp only [hmode]

theorem islandClockRecover_stands {t : Time} {i : Nat} {d : Dev} (h : 36 ≤ i ∨ (tget d.isl i).clkBad = false) :
    islandClockRecover t i d = d := if_pos (by simpa using h)

theorem islandClockRecover_recovers {t : Time} {i : Nat} {d : Dev} (hi : i < 36) (hc : (tget d.isl i).clkBad = true) :
    islandClockRecover t i d = islandExit t i (d.modIsl i fun x => { x with clkBad := false }) :=
  if_neg (by simp [hi, hc])

theorem islandExit_held {t : Time} {i : Nat} {d : Dev} (h : mayLeave d i = false) : islandExit t i d = d := by
  simp [islandExit, h]

theorem islandExit_own {t : Time} {i : Nat} {d : Dev} (h : mayLeave d i = true) (hw : wideReaches d i = false) :
    islandExit t i d = resetEnded 3 i (leaveReset t i d) := by
  simp [islandExit, h, hw]

theorem islandExit_wide {t : Time} {i : Nat} {d : Dev} (h : mayLeave d i = true) (hw : wideReaches d i = true) :
    islandExit t i d = wideEnd (leaveReset t i d) := by
  simp [islandExit, h, hw]

/-- May an island leave its reset, once its clock is back? -/
theorem mayLeave_clockBack (d : Dev) (i : Nat) :
    mayLeave (d.modIsl i fun x => { x with clkBad := false }) i = true ↔
      islMode d i = .reset ∧ (tget d.isl i).held = false ∧
        (i ≠ 0 ∨ (d.pwr.perstLow = false ∧ d.pwr.hstHold = false)) := by
  simp [mayLeave, islMode, Dev.modIsl]
  tauto

theorem isl_leaveReset (t : Time) (i : Nat) (d : Dev) :
    (leaveReset t i d).isl = tmod d.isl i fun x => { x with mode := .run } := by
  unfold leaveReset
  rw [isl_islandResume]
  rfl

theorem islMode_leaveReset_same (t : Time) (i : Nat) (d : Dev) : islMode (leaveReset t i d) i = .run := by
  simp [islMode, isl_leaveReset]

theorem islMode_leaveReset_other (t : Time) {i j : Nat} (d : Dev) (h : j ≠ i) :
    islMode (leaveReset t i d) j = islMode d j := by
  simp [islMode, isl_leaveReset, tget_tmod, h]

/-! ## AON's clocks (R648, R649) -/

/-- Island resets one after another: those of the list are in reset, and every other island is in the state it was in. -/
theorem islMode_doIrsts (t : Time) (is : List Nat) (d : Dev) (j : Nat) :
    islMode (is.foldl (doIrst t) d) j = if j ∈ is then .reset else islMode d j := by
  induction is generalizing d with
  | nil => simp
  | cons i is ih =>
    rw [List.foldl_cons, ih]
    simp only [List.mem_cons, islMode, isl_doIrst, tget_tmod]
    by_cases hj : j = i
    · simp [hj]
    · simp [hj]

theorem aon_doIrsts (t : Time) (is : List Nat) (d : Dev) : withoutXaorn (is.foldl (doIrst t) d).pwr = withoutXaorn d.pwr :=
  foldl_keeps (fun d => withoutXaorn d.pwr) (doIrst t) (fun d i => aon_doIrst t d i) is d

/-- Holding islands: those of the list are held, each in the state it was in. -/
theorem tget_holdIslands (b : Bool) (is : List Nat) (d : Dev) (j : Nat) :
    tget (is.foldl (fun x i => x.modIsl i fun y => { y with held := b }) d).isl j =
      if j ∈ is then { tget d.isl j with held := b } else tget d.isl j := by
  induction is generalizing d with
  | nil => simp
  | cons i is ih =>
    rw [List.foldl_cons, ih]
    simp only [List.mem_cons, Dev.modIsl, tget_tmod]
    by_cases hj : j = i
    · simp [hj]
    · simp [hj]

theorem pwr_holdIslands (b : Bool) (is : List Nat) (d : Dev) :
    (is.foldl (fun x i => x.modIsl i fun y => { y with held := b }) d).pwr = d.pwr :=
  foldl_keeps Dev.pwr (fun x i => x.modIsl i fun y => { y with held := b }) (fun _ _ => rfl) is d

/-- Only a clock of the converters and the alarms can raise INTEGRITY: with ANA's the pins follow. -/
theorem clockInteg_ana (t : Time) (d : Dev) : clockInteg t islAna d = pinsUpdate t d := if_pos rfl

theorem get_clkSrc_pinsUpdate (t : Time) (d : Dev) :
    (pinsUpdate t d).get Reg.TKP_CTRL.CLKSRC = d.get Reg.TKP_CTRL.CLKSRC :=
  (Low.pinsUpdate (lo := 0x20000) (.refl _ d) (by decide)).get (by decide)

/-- The other clock of AON is good: the PLLs move to it. -/
theorem sourceFail_moves (t : Time) (d : Dev) {src : Nat} (hs : src < 2) :
    (sourceFail t true src d).get Reg.TKP_CTRL.CLKSRC = src ∧ (sourceFail t true src d).pwr.intOsc = d.pwr.intOsc := by
  unfold sourceFail
  constructor
  · rw [clockInteg_ana, get_clkSrc_pinsUpdate]
    exact Dev.get_set_same _ _ _ (by decide) hs
  · rw [pwr_clockInteg]
    simp only [if_true, Dev.set_pwr]
    exact (congrArg Pwr.intOsc (aon_doIrsts t _ _)).trans (by simp [withoutXaorn])

/-- Neither clock is good: AON runs on its own oscillator, and every island is held. -/
theorem sourceFail_holds (t : Time) (d : Dev) (src : Nat) :
    (sourceFail t false src d).pwr.intOsc = true ∧ ∀ i ∈ islands, (tget (sourceFail t false src d).isl i).held = true := by
  unfold sourceFail
  constructor
  · rw [pwr_clockInteg]
    rfl
  · intro i hi
    rw [isl_clockInteg]
    simp [Dev.modPwr, tget_holdIslands, hi]

theorem islMode_sourceFail (t : Time) (ok : Bool) (src : Nat) (d : Dev) {i : Nat} (hi : i ∈ islands) :
    islMode (sourceFail t ok src d) i = if islMode d i = .run then .reset else islMode d i := by
  have hrun (j : Nat) : islMode ((d.event 16 islAon islAon 0).cause intGlb 6 islAon 0) j = islMode d j := by simp [islMode]
  unfold sourceFail
  rw [islMode, isl_clockInteg, ← islMode]
  cases ok
  · simp only [Bool.false_eq_true, if_false]
    rw [islMode, Dev.modPwr, tget_holdIslands, if_pos hi, ← islMode, islMode_doIrsts]
    simp [hrun, hi]
  · simp only [if_true]
    rw [islMode, Dev.set_isl, ← islMode, islMode_doIrsts]
    simp [hrun, hi]

theorem refclkFail_stands {t : Time} {d : Dev} (h : d.pwr.released = false ∨ d.pwr.refBad = true) : refclkFail t d = d :=
  if_pos (by simpa using h)

theorem refclkFail_fails {t : Time} {d : Dev} (hr : d.pwr.released = true) (hb : d.pwr.refBad = false) :
    refclkFail t d =
      if d.on Reg.TKP_CTRL.CLKSRC ∨ d.pwr.intOsc then d.modPwr fun p => { p with refBad := true }
      else sourceFail t (d.on Reg.TKP_STATUS.OSC10M_OK) 1 (d.modPwr fun p => { p with refBad := true }) :=
  if_neg (by simp [hr, hb])

theorem osc10mFail_stands {t : Time} {d : Dev} (h : d.pwr.released = false ∨ d.pwr.oscBad = true) : osc10mFail t d = d :=
  if_pos (by simpa using h)

theorem osc10mFail_fails {t : Time} {d : Dev} (hr : d.pwr.released = true) (hb : d.pwr.oscBad = false) :
    osc10mFail t d =
      if !d.on Reg.TKP_CTRL.CLKSRC ∨ d.pwr.intOsc then
        (d.set Reg.TKP_STATUS.OSC10M_OK 0).modPwr fun p => { p with oscBad := true }
      else sourceFail t (!d.pwr.refBad) 0 ((d.set Reg.TKP_STATUS.OSC10M_OK 0).modPwr fun p => { p with oscBad := true }) :=
  if_neg (by simp [hr, hb])

theorem refclkReturn_stands {t : Time} {osc : Bool} {d : Dev}
    (h : d.pwr.released = false ∨ (if osc then d.pwr.oscBad else d.pwr.refBad) = false) : refclkReturn t osc d = d :=
  if_pos (by simpa using h)

/-! ## The end of a reset leaves the clocks alone -/

/-- From `e` to `d` the islands are held as they were, and AON's clocks are in the condition they were in. -/
structure SameClocks (e d : Dev) : Prop where
  held : ∀ i, (tget d.isl i).held = (tget e.isl i).held
  intOsc : d.pwr.intOsc = e.pwr.intOsc
  oscBad : d.pwr.oscBad = e.pwr.oscBad
  refBad : d.pwr.refBad = e.pwr.refBad
  clkSrc : d.on Reg.TKP_CTRL.CLKSRC = e.on Reg.TKP_CTRL.CLKSRC

theorem SameClocks.refl (d : Dev) : SameClocks d d := ⟨fun _ => rfl, rfl, rfl, rfl, rfl⟩

theorem SameClocks.trans {a b c : Dev} (h : SameClocks a b) (k : SameClocks b c) : SameClocks a c :=
  ⟨fun i => (k.held i).trans (h.held i), k.intOsc.trans h.intOsc, k.oscBad.trans h.oscBad, k.refBad.trans h.refBad,
    k.clkSrc.trans h.clkSrc⟩

theorem on_clkSrc_showResets (d : Dev) : (showResets d).on Reg.TKP_CTRL.CLKSRC = d.on Reg.TKP_CTRL.CLKSRC := by
  simp (disch := decide) only [showResets, Dev.on_set_other]

theorem sameClocks_leaveReset (t : Time) (i : Nat) (d : Dev) : SameClocks d (leaveReset t i d) where
  held j := by
    rw [isl_leaveReset, tget_tmod]
    split <;> simp_all
  intOsc := by rw [leaveReset, pwr_islandResume]; rfl
  oscBad := by rw [leaveReset, pwr_islandResume]; rfl
  refBad := by rw [leaveReset, pwr_islandResume]; rfl
  clkSrc := by
    rw [leaveReset, (Low.islandResume (lo := 0x20000) (.refl _ _) (by decide)).on (by decide), on_clkSrc_showResets]
    rfl

theorem sameClocks_resetEnded (kind i : Nat) (d : Dev) : SameClocks d (resetEnded kind i d) where
  held _ := by simp [resetEnded]
  intOsc := by simp [resetEnded]
  oscBad := by simp [resetEnded]
  refBad := by simp [resetEnded]
  clkSrc := by
    simp (disch := decide) only [resetEnded, Dev.cause_on, Dev.event_on, Dev.on_set_other]

theorem sameClocks_wideEnd (d : Dev) : SameClocks d (wideEnd d) := by
  have hdone : SameClocks d (d.modPwr fun p => { p with wide := .none }) := ⟨fun _ => rfl, rfl, rfl, rfl, rfl⟩
  unfold wideEnd
  dsimp only
  split
  · exact .refl d
  split
  · exact hdone.trans (sameClocks_resetEnded 2 0 _)
  · exact hdone.trans (sameClocks_resetEnded 4 0 _)
  · exact hdone.trans (sameClocks_resetEnded 1 0 _)
  · exact hdone

theorem sameClocks_islandExit (t : Time) (i : Nat) (d : Dev) : SameClocks d (islandExit t i d) := by
  unfold islandExit
  split
  · split
    · exact (sameClocks_leaveReset t i d).trans (sameClocks_wideEnd _)
    · exact (sameClocks_leaveReset t i d).trans (sameClocks_resetEnded 3 i _)
  · exact .refl d

theorem sameClocks_islandExits (t : Time) (is : List Nat) (d : Dev) :
    SameClocks d (is.foldl (fun x i => islandExit t i x) d) := by
  induction is generalizing d with
  | nil => exact .refl d
  | cons i is ih => exact (sameClocks_islandExit t i d).trans (ih _)

/-- A failed clock is back while AON runs on another one: only its own condition changes. -/
theorem refclkReturn_spare {t : Time} {osc : Bool} {d : Dev} (hr : d.pwr.released = true)
    (hb : (if osc then d.pwr.oscBad else d.pwr.refBad) = true) (hi : d.pwr.intOsc = false) :
    refclkReturn t osc d = if osc then (d.set Reg.TKP_STATUS.OSC10M_OK 1).modPwr fun p => { p with oscBad := false }
      else d.modPwr fun p => { p with refBad := false } := by
  unfold refclkReturn
  rw [if_neg (by simp [hr, hb])]
  simp [hi]

/-- AON has run on its internal oscillator: it moves to the clock that is back, and holds no island any more. -/
theorem refclkReturn_moves {t : Time} {osc : Bool} {d : Dev} (hr : d.pwr.released = true) (hi : d.pwr.intOsc = true)
    (hb : (if osc then d.pwr.oscBad else d.pwr.refBad) = true) :
    (refclkReturn t osc d).pwr.intOsc = false ∧ (refclkReturn t osc d).on Reg.TKP_CTRL.CLKSRC = osc ∧
      (if osc then (refclkReturn t osc d).pwr.oscBad else (refclkReturn t osc d).pwr.refBad) = false ∧
      ∀ i ∈ islands, (tget (refclkReturn t osc d).isl i).held = false := by
  unfold refclkReturn
  rw [if_neg (by simp [hr, hb])]
  simp only [hi, Bool.not_true, Bool.false_eq_true, if_false]
  generalize hd : (((if osc then (d.set Reg.TKP_STATUS.OSC10M_OK 1).modPwr fun p => { p with oscBad := false }
    else d.modPwr fun p => { p with refBad := false }).set Reg.TKP_CTRL.CLKSRC (b2n osc)).modPwr
      fun p => { p with intOsc := false }) = e
  generalize hl : (islands.filter fun i => (tget e.isl i).held) = l
  have hkeep := sameClocks_islandExits t l (l.foldl (fun x i => x.modIsl i fun y => { y with held := false }) e)
  have hsrc : e.on Reg.TKP_CTRL.CLKSRC = osc := by
    subst hd
    exact (Dev.on_set_same _ _ _ (by decide)).trans (by cases osc <;> rfl)
  have hfold : (l.foldl (fun x i => x.modIsl i fun y => { y with held := false }) e).on Reg.TKP_CTRL.CLKSRC =
      e.on Reg.TKP_CTRL.CLKSRC :=
    foldl_keeps (fun d => d.on Reg.TKP_CTRL.CLKSRC) (fun x i => x.modIsl i fun y => { y with held := false })
      (fun _ _ => rfl) l e
  refine ⟨?_, ?_, ?_, fun i hi => ?_⟩
  · rw [hkeep.intOsc, pwr_holdIslands, ← hd]
    rfl
  · rw [hkeep.clkSrc, hfold, hsrc]
  · rw [hkeep.oscBad, hkeep.refBad, pwr_holdIslands, ← hd]
    cases osc <;> rfl
  · rw [hkeep.held, tget_holdIslands, ← hl]
    by_cases hh : (tget e.isl i).held = true
    · simp [List.mem_filter, hi, hh]
    · simp [List.mem_filter, hi, hh]

/-- Settles O16: the islands' clocks and their resets by the tests of each function, AON's clocks by what `sourceFail` does to
the clock in use and to the islands, and the return of a clock because no island's restart touches the clocks again. -/
theorem clocks : Obligations.Clocks := by
  unfold Obligations.Clocks
  refine ⟨⟨?_, ?_, ?_, ?_, ?_, ?_⟩, ?_, ?_, ?_, ?_, ?_, ?_, ?_, ?_, ?_, ?_⟩
  · rintro s i d hi hr hc rfl
    constructor <;> intro hm
    · rw [exec_islandClockFail, islandClockFail_fails hi hr (.inl hm) hc, if_pos hm]
    · rw [exec_islandClockFail, islandClockFail_fails hi hr (.inr hm) hc, if_neg (by simp [hm])]
  · intro s i h
    rw [exec_islandClockFail, islandClockFail_stands h]
  · intro s i h
    rw [exec_islandClockRecover, islandClockRecover_stands h]
  · rintro s i d hi hc rfl
    rw [exec_islandClockRecover, islandClockRecover_recovers hi hc]
    constructor
    · intro h
      rw [islandExit_held (Bool.eq_false_iff.mpr fun hl => ?_)]
      obtain ⟨hm, hh, h0⟩ := (mayLeave_clockBack s.dev i).mp hl
      simp_all
    · intro hm hh h0
      have hl := (mayLeave_clockBack s.dev i).mpr ⟨hm, hh, h0⟩
      constructor <;> intro hw
      · rw [islandExit_own hl hw]
      · rw [islandExit_wide hl hw]
  · intro s i hl
    refine ⟨fun hw => ?_, fun hw => ?_, islMode_leaveReset_same s.time i s.dev, fun j hj => islMode_leaveReset_other s.time s.dev hj⟩
    · rw [exec_islandResetExit, islandExit_own hl hw]
    · rw [exec_islandResetExit, islandExit_wide hl hw]
  · intro s i hl
    rw [exec_islandResetExit, islandExit_held hl]
  · intro s h
    rw [exec_refclkFail, refclkFail_stands h]
  · intro s h
    rw [exec_refclkReturn, refclkReturn_stands (by simpa using h)]
  · intro s hr hb
    rw [exec_refclkFail, refclkFail_fails hr hb]
    constructor
    · intro hc hi
      rw [if_neg (by simp [hc, hi])]
    · intro h
      rw [if_pos h]
  · intro s h
    rw [exec_osc10mFail, osc10mFail_stands h]
  · intro s h
    rw [exec_refclkReturn, refclkReturn_stands (by simpa using h)]
  · rintro s d hr hb rfl
    rw [exec_osc10mFail, osc10mFail_fails hr hb]
    constructor
    · intro h
      rw [if_pos (by simpa using h)]
    · intro hc hi
      rw [if_neg (by simp [hc, hi])]
  · intro t d src hs
    exact ⟨sourceFail_moves t d hs, sourceFail_holds t d src, fun ok i hi => islMode_sourceFail t ok src d hi⟩
  · intro s hr hb hi
    rw [exec_refclkReturn, refclkReturn_spare (osc := false) hr hb hi]
    rfl
  · intro s hr hb hi
    rw [exec_refclkReturn, refclkReturn_spare (osc := true) hr hb hi]
    rfl
  · intro s osc hr hi hb
    obtain ⟨hosc, hsrc, hbad, hheld⟩ := refclkReturn_moves (t := s.time) hr hi hb
    refine ⟨_, exec_refclkReturn osc s, ?_, ?_, ?_, ?_, rfl⟩
    · rw [after_pwr, hosc]
    · rw [after_on _ _ _ (not_intakeWord (by decide)), hsrc]
    · rw [after_pwr, hbad]
    · simpa using hheld

end Sys2Proof.Machine

/-!
PROOFS. Resets: PERST_N, hot reset, function-level reset, soft reset and island reset (R609 to R615, R663).
-/

namespace Sys2Proof.Machine

open Sys2Proof

/-! ## What the commands mean -/

theorem exec_functionLevelReset (s : State) :
    exec .functionLevelReset s = .next (s.after (heldHrst s.time false s.dev)) := rfl

theorem exec_hstResetRelease (s : State) : exec .hstResetRelease s = .next (s.after (hstRelease s.time s.dev)) := rfl

theorem exec_islandReset (hi : Bool) (v : Word32) (s : State) :
    exec (.islandReset hi v) s = .next (s.after (islandReset s.time hi v s.dev)) := rfl

theorem exec_pcieHotReset (s : State) : exec .pcieHotReset s = .next (s.after (heldHrst s.time true s.dev)) := rfl

theorem exec_perstAssert (s : State) : exec .perstAssert s = .next (s.after (perstAssert s.time s.dev)) := rfl

theorem exec_perstRelease (s : State) : exec .perstRelease s = .next (s.after (perstRelease s.time s.dev)) := rfl

theorem exec_softReset (v : Word32) (s : State) :
    exec (.softReset v) s = .next (s.after (softReset s.time v s.dev)) := rfl

/-! ## What the wide resets leave -/

/-- AON's state but for what Xaorn's cores execute and the wide reset that runs. -/
def withoutWide (p : Pwr) : Pwr := { withoutXaorn p with wide := .none }

theorem hif_endStarted_only (n idx status len : Nat) (ext : List Byte) (p : Option Nat) (d : Dev) :
    Tame [.hif] d (endStarted n idx status len ext p d) :=
  @Tame.endStarted [.hif] d d n idx status len ext p (.refl _ _) ⟨by decide⟩

/-- A key command cut short leaves the slots. -/
theorem slots_keyPfw (d : Dev) : (keyPfw d).keys.slots = d.keys.slots := by
  unfold keyPfw
  split
  · next c _ =>
    exact (congrArg Keys.slots ((hif_endStarted_only c.ring c.idx stAborted 0 (keyExt 0 c.slot c.key.gen) none
      ((d.set Reg.KEY_STATUS.BUSY 0).modKeys fun x => { x with cmd := none })).stands .keys (by decide))).trans rfl
  · rfl

theorem tame_keyPfw (d : Dev) : Tame [.hif, .keys] d (keyPfw d) := @Tame.keyPfw _ d d (.refl _ _) ⟨by decide⟩ ⟨by decide⟩

theorem tame_dspFree (d : Dev) : Tame [.dsp] d (dspFree d) := @Tame.dspFree _ d d (.refl _ _) ⟨by decide⟩

theorem tame_hstLose (t : Time) (cfg : Bool) (d : Dev) :
    Tame [.hif, .rdr, .cmp, .ports, .pairs, .keys, .aln] d (hstLose t cfg d) :=
  @Tame.hstLose _ d d t cfg (.refl _ _) ⟨by decide⟩ ⟨by decide⟩ ⟨by decide⟩ ⟨by decide⟩ ⟨by decide⟩ ⟨by decide⟩ ⟨by decide⟩

theorem slots_hstLose (t : Time) (cfg : Bool) (d : Dev) : (hstLose t cfg d).keys.slots = d.keys.slots := by
  have hfold := foldl_keeps Dev.keys (fun x n =>
    let k := (x.port n).stamps.length
    if x.getN Reg.FP_TS_CNT.PENDING n = k then x else x.setN Reg.FP_TS_CNT.PENDING n k)
    (fun d n => by dsimp only; split <;> rfl) (List.range 16)
  unfold hstLose disown
  dsimp only
  rw [hfold]
  rfl

theorem aon_xaornAgain (t : Time) (old d : Dev) : withoutXaorn (xaornAgain t old d).pwr = withoutXaorn d.pwr := by
  have hboot (slot : Nat) (x : Dev) : withoutXaorn (xaornBoot t slot x).pwr = withoutXaorn x.pwr := by
    unfold xaornBoot
    split
    · rfl
    · split
      · rfl
      · simp [xaornFail, Dev.modPwr, withoutXaorn]
  unfold xaornAgain
  dsimp only
  split
  · exact hboot _ _
  · rfl

theorem tame_xaornAgain (t : Time) (old d : Dev) : Tame [.pwr] d (xaornAgain t old d) :=
  @Tame.xaornAgain _ d d t old (.refl _ _) ⟨by decide⟩

@[simp] theorem showResets_isl (d : Dev) : (showResets d).isl = d.isl := rfl
@[simp] theorem showResets_pwr (d : Dev) : (showResets d).pwr = d.pwr := rfl
@[simp] theorem keepLink_isl (old d : Dev) : (keepLink old d).isl = d.isl := rfl
@[simp] theorem keepLink_pwr (old d : Dev) : (keepLink old d).pwr = d.pwr := rfl
@[simp] theorem modPwr_isl (d : Dev) (f : Pwr → Pwr) : (d.modPwr f).isl = d.isl := rfl
@[simp] theorem modPwr_pwr (d : Dev) (f : Pwr → Pwr) : (d.modPwr f).pwr = f d.pwr := rfl
@[simp] theorem resetWords_pwr (d : Dev) (k : ResetKind) (p : Nat → Bool) : (d.resetWords k p).pwr = d.pwr := rfl
@[simp] theorem modIsl_pwr (d : Dev) (i : Nat) (f : IslSt → IslSt) : (d.modIsl i f).pwr = d.pwr := rfl

@[simp] theorem xaornAgain_isl (t : Time) (old d : Dev) : (xaornAgain t old d).isl = d.isl :=
  (tame_xaornAgain t old d).stands .isl (by decide)

/-- Every island enters reset, Xaorn's cores start again, and AON notes the reset that runs. -/
def resetAll (t : Time) (wide : ResetReq) (old d : Dev) : Dev :=
  showResets (keepLink old (xaornAgain t old
    ((setModes (fun _ => .reset) islands d).modPwr fun p => { p with wide := wide })))

theorem tame_resetAll (t : Time) (wide : ResetReq) (old d : Dev) : Tame [.pwr, .isl] d (resetAll t wide old d) := by
  have hp : Fact (StatePart.pwr ∈ [StatePart.pwr, .isl]) := ⟨by decide⟩
  have hi : Fact (StatePart.isl ∈ [StatePart.pwr, .isl]) := ⟨by decide⟩
  have hmodes : Tame [.pwr, .isl] d (setModes (fun _ => .reset) islands d) := (Tame.refl _ d).foldl fun _ _ h => h.modIsl
  exact Tame.set (Tame.set hmodes.modPwr.xaornAgain.keepLink)

theorem isl_resetAll (t : Time) (wide : ResetReq) (old d : Dev) :
    (resetAll t wide old d).isl = (setModes (fun _ => .reset) islands d).isl := by
  simp [resetAll]

theorem islMode_resetAll (t : Time) (wide : ResetReq) (old d : Dev) {i : Nat} (hi : i ∈ islands) :
    islMode (resetAll t wide old d) i = .reset := by
  rw [islMode, isl_resetAll, ← islMode, islMode_setModes, if_pos hi]

theorem aon_resetAll (t : Time) (wide : ResetReq) (old d : Dev) :
    withoutXaorn (resetAll t wide old d).pwr = withoutXaorn { d.pwr with wide := wide } := by
  simp only [resetAll, showResets_pwr, keepLink_pwr, aon_xaornAgain, modPwr_pwr, setModes_pwr]

/-- What a reset of every island leaves before the islands are marked: the engines are empty, AON, the timekeeper and the
keys stand (R610). -/
theorem doSrst_eq (t : Time) (wide : ResetReq) (cfg : Bool) (d : Dev) :
    ∃ x, doSrst t wide cfg d = resetAll t wide d x ∧ x.aln = default ∧ x.ing = default ∧ x.rul = default ∧
      x.mdl = default ∧ x.cap = default ∧ x.cmp = [] ∧ x.lko = [] ∧ x.tkp = d.tkp ∧ x.keys.slots = d.keys.slots ∧
      x.pwr = d.pwr := by
  have hkey := tame_keyPfw d
  have hdsp := tame_dspFree (keyPfw d)
  have hhst := tame_hstLose t cfg (dspFree (keyPfw d))
  have htkp : (hstLose t cfg (dspFree (keyPfw d))).tkp = d.tkp :=
    (hhst.stands .tkp (by decide)).trans ((hdsp.stands .tkp (by decide)).trans (hkey.stands .tkp (by decide)))
  have hpwr : (hstLose t cfg (dspFree (keyPfw d))).pwr = d.pwr :=
    (hhst.stands .pwr (by decide)).trans ((hdsp.stands .pwr (by decide)).trans (hkey.stands .pwr (by decide)))
  have hslots : (hstLose t cfg (dspFree (keyPfw d))).keys.slots = d.keys.slots :=
    (slots_hstLose t cfg _).trans ((congrArg Keys.slots (hdsp.stands .keys (by decide))).trans (slots_keyPfw d))
  unfold doSrst
  obtain ⟨d1, hd⟩ := exists_eq_of (hstLose t cfg (dspFree (keyPfw d)))
  rw [← hd] at htkp hpwr hslots ⊢
  clear hd hkey hdsp hhst
  refine ⟨_, Eq.refl (resetAll t wide d _), ?_⟩
  exact ⟨rfl, rfl, rfl, rfl, rfl, rfl, rfl, htkp, hslots, hpwr⟩

/-- A reset of every island: each is in reset and the engines are empty; AON notes the reset, the timekeeper and the keys
stand. -/
theorem doSrst_leaves (t : Time) (wide : ResetReq) (cfg : Bool) (d : Dev) :
    (∀ i ∈ islands, islMode (doSrst t wide cfg d) i = .reset) ∧
      withoutXaorn (doSrst t wide cfg d).pwr = withoutXaorn { d.pwr with wide := wide } := by
  obtain ⟨x, hx, -, -, -, -, -, -, -, -, -, hpwr⟩ := doSrst_eq t wide cfg d
  rw [hx]
  exact ⟨fun i hi => islMode_resetAll t wide d x hi, hpwr ▸ aon_resetAll t wide d x⟩

theorem doHrst0_leaves (t : Time) (d : Dev) :
    islMode (doHrst0 t d) 0 = .reset ∧ (doHrst0 t d).pwr = { d.pwr with wide := .hrst0 } := by
  have hpwr : (hstLose t true (dspFree d)).pwr = d.pwr :=
    ((tame_hstLose t true _).stands .pwr (by decide)).trans ((tame_dspFree d).stands .pwr (by decide))
  unfold doHrst0
  obtain ⟨x, hx⟩ := exists_eq_of (hstLose t true (dspFree d))
  rw [← hx] at hpwr ⊢
  constructor
  · simp [islMode, Dev.modIsl]
  · simp only [showResets_pwr, modPwr_pwr, modIsl_pwr, keepLink_pwr, resetWords_pwr, hpwr]

theorem wideRuns_iff (d : Dev) :
    (d.pwr.wide == .srst || d.pwr.wide == .hrst1) = true ↔ d.pwr.wide = .srst ∨ d.pwr.wide = .hrst1 := by
  simp

/-- A reset leaves AON's state but for the reset that runs and Xaorn's cores. -/
theorem aon_doReset (t : Time) (r : ResetReq) (d : Dev) : withoutWide (doReset t r d).pwr = withoutWide d.pwr := by
  have hwide {p q : Pwr} {w : ResetReq} (h : withoutXaorn p = withoutXaorn { q with wide := w }) :
      withoutWide p = withoutWide q := congrArg (fun x : Pwr => { x with wide := .none }) h
  unfold doReset
  cases r with
  | none => rfl
  | irst is => exact congrArg (fun x : Pwr => { x with wide := .none }) (aon_doIrsts t _ d)
  | hrst0 =>
    dsimp only
    split
    · rfl
    · rw [(doHrst0_leaves t d).2]
      rfl
  | hrst1 =>
    dsimp only
    split
    · rfl
    · exact hwide (doSrst_leaves t _ _ d).2
  | srst =>
    dsimp only
    split
    · rfl
    · exact hwide (doSrst_leaves t _ _ d).2

/-! ## Starting a reset (R614, R615) -/

theorem startReset_awake {t : Time} {r : ResetReq} {d : Dev} (h : d.pwr.doze = .awake) :
    startReset t r d = doReset t r d := if_pos h

theorem startReset_doze {t : Time} {r : ResetReq} {d : Dev} (h : d.pwr.doze ≠ .awake) :
    startReset t r d = wakeCause t (d.modPwr fun p => { p with waiting := widerReset p.waiting r }) := if_neg h

/-- What a cause of a wake leaves: AON's state but for Doze. -/
theorem wakeCause_leaves (t : Time) (d : Dev) :
    (wakeCause t d).isl = d.isl ∧ (wakeCause t d).pwr.waiting = d.pwr.waiting ∧
      (wakeCause t d).pwr.perstLow = d.pwr.perstLow ∧ (wakeCause t d).pwr.hstHold = d.pwr.hstHold ∧
      (wakeCause t d).pwr.hotReset = d.pwr.hotReset ∧ (wakeCause t d).regs = d.regs ∧
      (d.pwr.doze ≠ .awake → (wakeCause t d).pwr.doze ≠ .awake) := by
  unfold wakeCause
  split <;> simp_all

/-- What a reset of HST leaves of PERST_N and the hold. -/
theorem startHrst_leaves (t : Time) (d : Dev) :
    (startHrst t d).pwr.perstLow = d.pwr.perstLow ∧ (startHrst t d).pwr.hstHold = d.pwr.hstHold ∧
      (startHrst t d).pwr.hotReset = d.pwr.hotReset ∧
      (d.pwr.doze = .awake → islMode (startHrst t d) 0 ≠ .run) ∧
      (d.pwr.doze ≠ .awake → (startHrst t d).pwr.waiting = widerReset d.pwr.waiting (hrstOf d) ∧
        (startHrst t d).isl = d.isl) := by
  have hshow (x : Dev) : (showResets (x.modIsl 0 fun y => { y with mode := .reset })).pwr = x.pwr := rfl
  by_cases hd : d.pwr.doze = .awake
  · have haon := aon_doReset t (hrstOf d) d
    have hdoze : (doReset t (hrstOf d) d).pwr.doze = .awake := (congrArg Pwr.doze haon).trans hd
    have hp : (startHrst t d).pwr = (doReset t (hrstOf d) d).pwr := by
      simp only [startHrst, startReset_awake hd, hdoze, true_and]
      split <;> rfl
    refine ⟨?_, ?_, ?_, fun _ => ?_, fun h => absurd hd h⟩
    · rw [hp]; exact (congrArg Pwr.perstLow haon :)
    · rw [hp]; exact (congrArg Pwr.hstHold haon :)
    · rw [hp]; exact (congrArg Pwr.hotReset haon :)
    · simp only [startHrst, startReset_awake hd, hdoze, true_and]
      split
      · simp [islMode, Dev.modIsl]
      · assumption
  · obtain ⟨hisl, hwait, hperst, hhold, hhot, -, hdoze⟩ :=
      wakeCause_leaves t (d.modPwr fun p => { p with waiting := widerReset p.waiting (hrstOf d) })
    have hs : startHrst t d = wakeCause t (d.modPwr fun p => { p with waiting := widerReset p.waiting (hrstOf d) }) := by
      simp only [startHrst, startReset_doze hd]
      rw [if_neg fun h => hdoze hd h.1]
    rw [hs]
    exact ⟨hperst, hhold, hhot, fun h => absurd h hd, fun _ => ⟨hwait, hisl⟩⟩

/-! ## PERST_N, hot reset and function-level reset (R611, R663) -/

@[simp] theorem linkGone_isl (d : Dev) : (linkGone d).isl = d.isl := rfl
@[simp] theorem linkGone_pwr (d : Dev) : (linkGone d).pwr = d.pwr := rfl
@[simp] theorem linkGone_crs (d : Dev) : (linkGone d).hif.crs = d.hif.crs := rfl
@[simp] theorem linkGone_training (d : Dev) : (linkGone d).hif.training = none := rfl

theorem get_link_linkGone (d : Dev) : (linkGone d).get Reg.HIF_STATUS.LINK = 0 := by
  show ((((d.set Reg.HIF_STATUS.LINK 0).set Reg.HIF_STATUS.WIDTH 0).set Reg.HIF_STATUS.SPEED 0).get Reg.HIF_STATUS.LINK) = 0
  rw [Dev.get_set_other _ _ _ _ (by decide), Dev.get_set_other _ _ _ _ (by decide),
    Dev.get_set_same _ _ _ (by decide) (by decide)]

theorem perstAssert_again {t : Time} {d : Dev} (h : d.pwr.perstLow = true) : perstAssert t d = d := if_pos h

theorem perstAssert_early {t : Time} {d : Dev} (hp : d.pwr.perstLow = false) (hr : d.pwr.released = false) :
    perstAssert t d = d.modPwr fun p => { p with perstLow := true, hstHold := false, hotReset := false } := by
  simp [perstAssert, hp, hr]

/-- The device with the link down and CRS off or on. -/
def withCrs (crs : Bool) (d : Dev) : Dev := { d with hif := { d.hif with crs := crs } }

theorem perstAssert_falls {t : Time} {d : Dev} (hp : d.pwr.perstLow = false) (hr : d.pwr.released = true) :
    perstAssert t d = withCrs false (linkGone (startHrst t (d.modPwr fun p =>
      { p with perstLow := true, hstHold := false, hotReset := false }))) := by
  simp [perstAssert, hp, hr, withCrs]

theorem perstRelease_again {t : Time} {d : Dev} (h : d.pwr.perstLow = false) : perstRelease t d = d := by
  simp [perstRelease, h]

theorem perstRelease_early {t : Time} {d : Dev} (hp : d.pwr.perstLow = true) (hr : d.pwr.released = false) :
    perstRelease t d = d.modPwr fun p => { p with perstLow := false } := by
  simp [perstRelease, hp, hr]

/-- PERST_N rises: the link trains. -/
def linkTrains (t : Time) (d : Dev) : Dev :=
  let d1 := d.modPwr fun p => { p with perstLow := false }
  { d1 with hif := { d1.hif with training := some t.loc } }

theorem perstRelease_rises {t : Time} {d : Dev} (hp : d.pwr.perstLow = true) (hr : d.pwr.released = true) :
    perstRelease t d =
      if d.pwr.wide = .none ∧ mayLeave (linkTrains t d) 0 then leaveReset t 0 (linkTrains t d) else linkTrains t d := by
  simp [perstRelease, hp, hr, linkTrains]

theorem mayLeave_linkTrains (t : Time) (d : Dev) :
    mayLeave (linkTrains t d) 0 = true ↔ islMode d 0 = .reset ∧ (tget d.isl 0).clkBad = false ∧
      (tget d.isl 0).held = false ∧ d.pwr.hstHold = false := by
  have hmode : islMode (linkTrains t d) 0 = islMode d 0 := rfl
  have hisl : (linkTrains t d).isl = d.isl := rfl
  have hpwr : (linkTrains t d).pwr = { d.pwr with perstLow := false } := rfl
  simp [mayLeave, hmode, hisl, hpwr, and_assoc]

/-- HST accepts requests again: its host's heartbeat begins anew. -/
theorem leaveReset_hst (t : Time) (d : Dev) :
    leaveReset t 0 d = { showResets (d.modIsl 0 fun x => { x with mode := .run }) with
      hif := { d.hif with lastHb := t.loc } } := rfl

theorem heldHrst_stands {t : Time} {hot : Bool} {d : Dev} (h : d.pwr.released = false ∨ d.pwr.perstLow = true) :
    heldHrst t hot d = d := if_pos (by simpa using h)

theorem heldHrst_holds {t : Time} {hot : Bool} {d : Dev} (hr : d.pwr.released = true) (hp : d.pwr.perstLow = false) :
    heldHrst t hot d = withCrs true ((if hot then linkGone else id)
      (startHrst t (d.modPwr fun p => { p with hstHold := true, hotReset := hot }))) := by
  unfold heldHrst
  rw [if_neg (by simp [hr, hp])]
  cases hot <;> rfl

theorem hstRelease_stands {t : Time} {d : Dev} (h : d.pwr.hstHold = false ∨ d.pwr.doze ≠ .awake) : hstRelease t d = d :=
  if_pos (by simpa using h)

/-- HST is held no longer: CRS is off, and after a hot reset the link trains. -/
def holdEnds (t : Time) (d : Dev) : Dev :=
  let d1 := d.modPwr fun p => { p with hstHold := false, hotReset := false }
  { d1 with hif := { d1.hif with crs := false, training := if d.pwr.hotReset then some t.loc else d1.hif.training } }

theorem hstRelease_releases {t : Time} {d : Dev} (hh : d.pwr.hstHold = true) (hd : d.pwr.doze = .awake) :
    hstRelease t d = if mayLeave (holdEnds t d) 0 then
        (if wideReaches (holdEnds t d) 0 then wideEnd (leaveReset t 0 (holdEnds t d)) else leaveReset t 0 (holdEnds t d))
      else holdEnds t d := by
  unfold hstRelease
  rw [if_neg (by simp [hh, hd])]
  show (if wideReaches (holdEnds t d) 0 = true then islandExit t 0 (holdEnds t d)
    else if mayLeave (holdEnds t d) 0 = true then leaveReset t 0 (holdEnds t d) else holdEnds t d) = _
  unfold islandExit
  by_cases hm : mayLeave (holdEnds t d) 0 = true <;> by_cases hw : wideReaches (holdEnds t d) 0 = true <;> simp [hm, hw]

theorem mayLeave_holdEnds (t : Time) (d : Dev) :
    mayLeave (holdEnds t d) 0 = true ↔ islMode d 0 = .reset ∧ (tget d.isl 0).clkBad = false ∧
      (tget d.isl 0).held = false ∧ d.pwr.perstLow = false := by
  have hmode : islMode (holdEnds t d) 0 = islMode d 0 := rfl
  have hisl : (holdEnds t d).isl = d.isl := rfl
  have hpwr : (holdEnds t d).pwr = { d.pwr with hstHold := false, hotReset := false } := rfl
  simp [mayLeave, hmode, hisl, hpwr, and_assoc]

/-- What the end of a wide reset leaves: the islands, the hold of HST, and the link's state. -/
theorem wideEnd_leaves (d : Dev) :
    (wideEnd d).isl = d.isl ∧ (wideEnd d).pwr.hstHold = d.pwr.hstHold ∧ (wideEnd d).hif.crs = d.hif.crs ∧
      (wideEnd d).hif.training = d.hif.training := by
  have hend (k : Nat) (x : Dev) : (resetEnded k 0 x).isl = x.isl ∧ (resetEnded k 0 x).pwr.hstHold = x.pwr.hstHold ∧
      (resetEnded k 0 x).hif.crs = x.hif.crs ∧ (resetEnded k 0 x).hif.training = x.hif.training := by
    have h := Tame.resetEnded (ps := []) (kind := k) (isl := 0) (.refl _ x)
    have hhif := h.stands .hif (by decide)
    exact ⟨h.stands .isl (by decide), by simp, (congrArg Hif.crs hhif :), (congrArg Hif.training hhif :)⟩
  unfold wideEnd
  dsimp only
  split
  · exact ⟨rfl, rfl, rfl, rfl⟩
  split
  · exact hend _ _
  · exact hend _ _
  · exact hend _ _
  · exact ⟨rfl, rfl, rfl, rfl⟩

/-! ## Soft reset and island reset (R609, R610, R612) -/

theorem softReset_early {t : Time} {v : Word32} {d : Dev} (h : d.pwr.released = false) : softReset t v d = d := by
  simp [softReset, h]

theorem softReset_refused {t : Time} {v : Word32} {d : Dev} (hr : d.pwr.released = true)
    (hv : ¬ (bitOf v 0 = true ∧ v.toNat / 2 ^ 16 = 0x5352)) : softReset t v d = d.cause intGlb 5 0 0 := by
  unfold softReset
  rw [if_neg (by simp [hr]), if_neg hv]

theorem softReset_starts {t : Time} {v : Word32} {d : Dev} (hr : d.pwr.released = true) (hv : bitOf v 0 = true)
    (hk : v.toNat / 2 ^ 16 = 0x5352) : softReset t v d = startReset t .srst d := by
  unfold softReset
  rw [if_neg (by simp [hr]), if_pos ⟨hv, hk⟩]

theorem islandReset_stands {t : Time} {hi : Bool} {v : Word32} {d : Dev} {is : List Nat}
    (his : is = (if hi then (List.range 4).filterMap fun k => if bitOf v k then some (32 + k) else none
      else (List.range 32).filterMap fun k => if bitOf v k then some k else none))
    (h : d.pwr.released = false ∨ is = []) : islandReset t hi v d = d := by
  subst his
  exact if_pos (by simpa using h)

theorem islandReset_starts {t : Time} {hi : Bool} {v : Word32} {d : Dev} {is : List Nat}
    (his : is = (if hi then (List.range 4).filterMap fun k => if bitOf v k then some (32 + k) else none
      else (List.range 32).filterMap fun k => if bitOf v k then some k else none))
    (hr : d.pwr.released = true) (hn : is ≠ []) : islandReset t hi v d = startReset t (.irst is) d := by
  subst his
  exact if_neg (by simpa [hr] using hn)

theorem islMode_resetIslands (t : Time) (is : List Nat) (d : Dev) (i : Nat) :
    islMode (doReset t (.irst is) d) i = if is.contains i = true ∧ islMode d i = .run then .reset else islMode d i := by
  show islMode ((is.filter fun i => decide (islMode d i = .run)).foldl (doIrst t) d) i = _
  rw [islMode_doIrsts]
  simp

/-- A reset of a Hamper quadrant leaves the ports and the timekeeper. -/
theorem doIrst_quadrant (t : Time) (d : Dev) : (doIrst t d 32).ports = d.ports ∧ (doIrst t d 32).tkp = d.tkp := by
  have h : Tame [.cmp] (d.modHmp fun h => { h with checks := h.checks.filter fun e => hQuad e.1 != 4 })
      (cmpQuadLost 4 (d.modHmp fun h => { h with checks := h.checks.filter fun e => hQuad e.1 != 4 })) :=
    @Tame.cmpQuadLost _ _ _ 4 (.refl _ _) ⟨by decide⟩
  exact ⟨h.stands .ports (by decide), h.stands .tkp (by decide)⟩

/-- Settles O17: each reset by the tests of its function; what the wide resets leave of AON's state carries the hold of HST and
the waiting reset through them. -/
theorem resets : Obligations.Resets := by
  unfold Obligations.Resets
  refine ⟨⟨?_, ?_, ?_, ?_, ?_, ?_, ?_, ?_, ?_, ?_⟩, ?_, ?_, ?_, ?_, ?_⟩
  · intro s hr hp
    obtain ⟨hperst, hhold, -, hrun, hdoze⟩ := startHrst_leaves s.time (s.dev.modPwr fun p =>
      { p with perstLow := true, hstHold := false, hotReset := false })
    rw [exec_perstAssert, perstAssert_falls hp hr]
    refine ⟨_, rfl, ?_, ?_, ?_, ?_, ?_, rfl, ?_, ?_⟩
    · rw [after_pwr]; exact hperst
    · rw [after_pwr]; exact hhold
    · rw [after_get _ _ _ (not_intakeWord (by decide))]; exact get_link_linkGone _
    · rw [after_crs]; rfl
    · rw [after_training]; rfl
    · intro hd
      rw [islMode_after]; exact hrun hd
    · intro hd
      rw [after_pwr, after_isl]; exact hdoze hd
  · intro s hr hp
    rw [exec_perstAssert, perstAssert_early hp hr]
  · intro s hp
    rw [exec_perstAssert, perstAssert_again hp]
  · intro s hp
    rw [exec_perstRelease, perstRelease_again hp]
  · intro s hp hr
    rw [exec_perstRelease, perstRelease_early hp hr]
  · intro s hp hr
    rw [exec_perstRelease, perstRelease_rises hp hr]
    refine ⟨_, rfl, ?_⟩
    by_cases hl : s.dev.pwr.wide = .none ∧ mayLeave (linkTrains s.time s.dev) 0 = true
    · obtain ⟨hw, hm⟩ := hl
      obtain ⟨hmode, hclk, hheld, hhst⟩ := (mayLeave_linkTrains s.time s.dev).mp hm
      rw [if_pos ⟨hw, hm⟩, leaveReset_hst]
      refine ⟨by rw [after_pwr]; rfl, by rw [after_training]; rfl, by rw [after_hmp]; rfl, by rw [after_keys]; rfl, ?_, ?_⟩
      · intro h
        simp_all
      · intro _ _ _ _ _
        rw [islMode_after, after_lastHb]
        exact ⟨by simp [islMode, Dev.modIsl], rfl⟩
    · rw [if_neg hl]
      refine ⟨by rw [after_pwr]; rfl, by rw [after_training]; rfl, by rw [after_hmp]; rfl, by rw [after_keys]; rfl, ?_, ?_⟩
      · intro _
        rw [after_isl]; rfl
      · intro hw hmode hclk hheld hhst
        exact absurd ⟨hw, (mayLeave_linkTrains s.time s.dev).mpr ⟨hmode, hclk, hheld, hhst⟩⟩ hl
  · intro s h
    rw [exec_pcieHotReset, exec_functionLevelReset, heldHrst_stands h, heldHrst_stands h]
    exact ⟨rfl, rfl⟩
  · intro s hr hp
    have hleaves (hot : Bool) := startHrst_leaves s.time (s.dev.modPwr fun p => { p with hstHold := true, hotReset := hot })
    constructor
    · obtain ⟨-, hhold, hhot, hrun, hdoze⟩ := hleaves true
      rw [exec_pcieHotReset, heldHrst_holds hr hp]
      refine ⟨_, rfl, ?_, ?_, ?_, ?_, rfl, ?_, ?_⟩
      · rw [after_pwr]; exact hhold
      · rw [after_pwr]; exact hhot
      · rw [after_get _ _ _ (not_intakeWord (by decide))]; exact get_link_linkGone _
      · rw [after_crs]; rfl
      · intro hd
        rw [islMode_after]; exact hrun hd
      · intro hd
        rw [after_pwr, after_isl]; exact hdoze hd
    · obtain ⟨-, hhold, hhot, hrun, hdoze⟩ := hleaves false
      rw [exec_functionLevelReset, heldHrst_holds hr hp]
      refine ⟨_, rfl, ?_, ?_, ?_, rfl, ?_, ?_⟩
      · rw [after_pwr]; exact hhold
      · rw [after_pwr]; exact hhot
      · rw [after_crs]; rfl
      · intro hd
        rw [islMode_after]; exact hrun hd
      · intro hd
        rw [after_pwr, after_isl]; exact hdoze hd
  · intro s h
    rw [exec_hstResetRelease, hstRelease_stands h]
  · intro s hh hd
    rw [exec_hstResetRelease, hstRelease_releases hh hd]
    refine ⟨_, rfl, ?_⟩
    rw [after_pwr, after_crs, after_training, islMode_after, after_isl]
    obtain ⟨hisl, hhold, hcrs, htrain⟩ := wideEnd_leaves (leaveReset s.time 0 (holdEnds s.time s.dev))
    by_cases hm : mayLeave (holdEnds s.time s.dev) 0 = true
    · obtain ⟨hmode, hclk, hheld, hperst⟩ := (mayLeave_holdEnds s.time s.dev).mp hm
      have hrun := islMode_leaveReset_same s.time 0 (holdEnds s.time s.dev)
      rw [if_pos hm]
      split
      · have hend : islMode (wideEnd (leaveReset s.time 0 (holdEnds s.time s.dev))) 0 = .run := by
          rw [islMode, hisl]
          exact hrun
        rw [hhold, hcrs, htrain]
        exact ⟨rfl, rfl, rfl, fun _ _ _ _ => hend, fun h => by simp_all⟩
      · exact ⟨rfl, rfl, rfl, fun _ _ _ _ => hrun, fun h => by simp_all⟩
    · rw [if_neg hm]
      exact ⟨rfl, rfl, rfl, fun h1 h2 h3 h4 => absurd ((mayLeave_holdEnds s.time s.dev).mpr ⟨h1, h2, h3, h4⟩) hm,
        fun _ => rfl⟩
  · intro s v hr
    rw [exec_softReset, softReset_early hr]
  · intro s v hr hv
    rw [exec_softReset, softReset_refused hr hv]
  · intro s v hr hv hk
    rw [exec_softReset, softReset_starts hr hv hk]
    refine ⟨fun hd => ?_, fun hd hw => ?_, fun hd h1 h2 => ?_⟩
    · rw [startReset_doze hd]
    · rw [startReset_awake hd]
      exact congrArg (fun d => Host.Outcome.next (s.after d)) (if_pos ((wideRuns_iff s.dev).mpr hw))
    · have hs : startReset s.time .srst s.dev = doSrst s.time .srst false s.dev := by
        rw [startReset_awake hd]
        exact if_neg fun h => ((wideRuns_iff s.dev).mp h).elim h1 h2
      obtain ⟨hmode, haon⟩ := doSrst_leaves s.time .srst false s.dev
      obtain ⟨x, hx, haln, hing, hrul, hmdl, hcap, hcmp, hlko, htkp, hslots, -⟩ := doSrst_eq s.time .srst false s.dev
      have htame := tame_resetAll s.time .srst s.dev x
      rw [hs]
      refine ⟨_, rfl, ?_, fun i hi => by rw [islMode_after]; exact hmode i hi, ?_⟩
      · rw [after_pwr]
        exact (congrArg Pwr.wide haon :)
      · simp only [after_aln, after_ing, after_rul, after_mdl, after_cap, after_cmp, after_lko, after_tkp, after_keys,
          after_time, hx]
        exact ⟨(htame.stands .aln (by decide)).trans haln, (htame.stands .ing (by decide)).trans hing,
          (htame.stands .rul (by decide)).trans hrul, (htame.stands .mdl (by decide)).trans hmdl,
          (htame.stands .cap (by decide)).trans hcap, (htame.stands .cmp (by decide)).trans hcmp,
          (htame.stands .lko (by decide)).trans hlko, (htame.stands .tkp (by decide)).trans htkp,
          (congrArg Keys.slots (htame.stands .keys (by decide))).trans hslots, trivial⟩
  · intro s hi v is his
    refine ⟨fun h => ?_, fun hr hn hd => ?_, fun hr hn hd => ?_⟩
    · rw [exec_islandReset, islandReset_stands his h]
    · rw [exec_islandReset, islandReset_starts his hr hn, startReset_doze hd]
    · rw [exec_islandReset, islandReset_starts his hr hn, startReset_awake hd]
      refine ⟨_, rfl, rfl, ?_, fun i => ?_⟩
      · rw [after_pwr]
        exact (congrArg Pwr.wide (aon_doIrsts s.time _ s.dev) :)
      · rw [islMode_after, islMode_resetIslands]
  · intro s v hr hd hk h0 hrun
    have his : [32] = (if true then (List.range 4).filterMap fun k => if bitOf v k then some (32 + k) else none
        else (List.range 32).filterMap fun k => if bitOf v k then some k else none) := by
      simp [List.range_succ, h0, hk]
    have hone : doReset s.time (.irst [32]) s.dev = doIrst s.time s.dev 32 := by
      simp [doReset, hrun]
    rw [exec_islandReset, islandReset_starts his hr (by simp), startReset_awake hd, hone]
    refine ⟨_, rfl, ?_, ?_, ?_, rfl⟩
    · rw [islMode_after, islMode, isl_doIrst, tget_tmod_same]
    · rw [after_ports]; exact (doIrst_quadrant s.time s.dev).1
    · rw [after_tkp]; exact (doIrst_quadrant s.time s.dev).2

end Sys2Proof.Machine

/-!
PROOFS. The PCIe and SGMII links, and Doze from its request to the end of the wake (R611, R615, R618 to R623, Table MAP-3).
-/

namespace Sys2Proof.Machine

open Sys2Proof

/-! ## What the commands mean -/

theorem exec_dozeEnter (s : State) : exec .dozeEnter s = .next (s.after (dozeEnter s.time s.dev)) := rfl

theorem exec_dozeEntryDone (s : State) : exec .dozeEntryDone s = .next (s.after (dozeEntryDone s.time s.dev)) := rfl

theorem exec_dozeWake (s : State) : exec .dozeWake s = .next (s.after (wakeCause s.time s.dev)) := rfl

theorem exec_gpioWake (pin : Nat) (falling : Bool) (s : State) :
    exec (.gpioWake pin falling) s =
      .next (s.after (if pin < 16 ∧ (s.dev.get Reg.GLB_WAKE.GPIO).testBit pin ∧ s.dev.on Reg.GLB_WAKE.FALL == falling then
        wakeCause s.time s.dev else s.dev)) := rfl

theorem exec_mgtLinkChange (up : Bool) (speed : Nat) (s : State) :
    exec (.mgtLinkChange up speed) s = .next (s.after (mgtLinkChange up speed s.dev)) := rfl

theorem exec_pcieLinkUp (width speed : Nat) (s : State) :
    exec (.pcieLinkUp width speed) s = .next (s.after (pcieLinkUp width speed s.dev)) := rfl

theorem exec_timedWake (s : State) : exec .timedWake s = .next (s.after (timedWake s.time s.dev)) := rfl

theorem exec_wakeDone (s : State) : exec .wakeDone s = .next (s.after (wakeDone s.time s.dev)) := rfl

theorem exec_writeGlbWake (v : Word32) (s : State) :
    exec (.writeGlbWake v) s = .next (s.after (if s.dev.pwr.released then writeGlbWake v s.dev else s.dev)) := rfl

/-! ## The links -/

theorem pcieLinkUp_rises {w sp : Nat} {d : Dev} (hu : d.up islHst = true) (hp : d.pwr.perstLow = false)
    (hl : d.on Reg.HIF_STATUS.LINK = false) :
    pcieLinkUp w sp d = { (((d.set Reg.HIF_STATUS.LINK 1).set Reg.HIF_STATUS.WIDTH w).set Reg.HIF_STATUS.SPEED sp) with
      hif := { d.hif with training := none } } := if_pos (by simp [hu, hp, hl])

theorem pcieLinkUp_stands {w sp : Nat} {d : Dev}
    (h : d.up islHst = false ∨ d.pwr.perstLow = true ∨ d.on Reg.HIF_STATUS.LINK = true) : pcieLinkUp w sp d = d :=
  if_neg (by rintro ⟨h1, h2, h3⟩; simp_all)

theorem mgtLinkChange_changes {up : Bool} {sp : Nat} {d : Dev} (hu : d.up islMgt = true) :
    mgtLinkChange up sp d =
      if d.on Reg.MGT_STATUS.LINK = up then
        (d.setB Reg.MGT_STATUS.LINK 0 up).set Reg.MGT_STATUS.SPEED (if up then sp else 0)
      else ((d.setB Reg.MGT_STATUS.LINK 0 up).set Reg.MGT_STATUS.SPEED (if up then sp else 0)).cause intMgt 0 0 0 := by
  simp [mgtLinkChange, hu]

/-! ## Entry into Doze (R618 to R620) -/

/-- What runs is stopped. -/
def dozeStop (d : Dev) : Dev :=
  fabricStop (cmpReset (captureStop (adcReset (alnReset (ingReset (rulReset (overAll 16 portDoze d)))))))

/-- Every running island is gated. -/
def gateIslands (is : List Nat) (d : Dev) : Dev :=
  is.foldl (fun x i => if islMode x i = .run then x.modIsl i fun y => { y with mode := .gated } else x) d

theorem tame_dozeStop (d : Dev) :
    Tame [.hif, .ports, .pairs, .rul, .ing, .aln, .adc, .cap, .cmp, .dxl] d (dozeStop d) := by
  have fact {x : StatePart} (h : x ∈ [.hif, .ports, .pairs, .rul, .ing, .aln, .adc, .cap, .cmp, .dxl]) :
      Fact (x ∈ [StatePart.hif, .ports, .pairs, .rul, .ing, .aln, .adc, .cap, .cmp, .dxl]) := ⟨h⟩
  have hhif := fact (x := .hif) (by decide)
  have hports := fact (x := .ports) (by decide)
  have hpairs := fact (x := .pairs) (by decide)
  have hrul := fact (x := .rul) (by decide)
  have hing := fact (x := .ing) (by decide)
  have haln := fact (x := .aln) (by decide)
  have hadc := fact (x := .adc) (by decide)
  have hcap := fact (x := .cap) (by decide)
  have hcmp := fact (x := .cmp) (by decide)
  have hdxl := fact (x := .dxl) (by decide)
  exact (((Tame.refl _ d).overAll (n := 16) (f := portDoze) fun _ _ hx => hx.portDoze)).rulReset.ingReset.alnReset.adcReset
    |>.captureStop.cmpReset.fabricStop

theorem islMode_gateIslands (is : List Nat) (d : Dev) (j : Nat) :
    islMode (gateIslands is d) j = if j ∈ is ∧ islMode d j = .run then .gated else islMode d j := by
  induction is generalizing d with
  | nil => simp [gateIslands]
  | cons i is ih =>
    have hstep : gateIslands (i :: is) d =
        gateIslands is (if islMode d i = .run then d.modIsl i fun y => { y with mode := .gated } else d) := rfl
    rw [hstep, ih]
    by_cases hi : islMode d i = .run
    · rw [if_pos hi, islMode_modIsl]
      by_cases hj : j = i
      · simp [hj, hi]
      · simp [hj]
    · rw [if_neg hi]
      by_cases hj : j = i
      · simp [hj, hi]
      · simp [hj]

theorem tame_gateIslands (is : List Nat) (d : Dev) : Tame [.isl] d (gateIslands is d) := by
  have hisl : Fact (StatePart.isl ∈ [StatePart.isl]) := ⟨by decide⟩
  exact (Tame.refl _ d).foldl fun _ _ hx => .ite hx.modIsl hx

/-- The pairs, modal analysis and the probes are gone. -/
def emptied (d : Dev) : Dev := { d with pairs := [], mdl := default, lko := [] }

/-- The data plane is lost before the islands are gated. -/
def dozeLosses (d : Dev) : Dev := fltReset d ((scrubStop (emptied (dozeStop d))).resetWords .doze fun _ => true)

/-- The host's heartbeat begins anew. -/
def heardNow (t : Time) (d : Dev) : Dev := { d with hif := { d.hif with lastHb := t.loc } }

theorem dozeGate_eq (t : Time) (d : Dev) : dozeGate t d = heardNow t (gateIslands islands (dozeLosses d)) := by
  unfold dozeGate dozeLosses heardNow gateIslands emptied
  obtain ⟨x, hx⟩ := exists_eq_of (dozeStop d)
  rw [← hx]
  unfold dozeStop at hx
  dsimp only
  rw [← hx]

theorem heardNow_leaves (t : Time) (d : Dev) : Tame [.hif] d (heardNow t d) :=
  @Tame.hif _ d d (.refl _ _) _ ⟨by decide⟩

/-- The words of the data plane take their Reset values, and the scrub stops. -/
def dozeWords (d : Dev) : Dev := (scrubStop (emptied d)).resetWords .doze fun _ => true

theorem dozeWords_leaves (d : Dev) : (dozeWords d).pairs = [] ∧ (dozeWords d).lko = [] ∧ (dozeWords d).mdl = default ∧
    (dozeWords d).cmp = d.cmp ∧ (dozeWords d).isl = d.isl ∧ (dozeWords d).pwr = d.pwr := ⟨rfl, rfl, rfl, rfl, rfl, rfl⟩

theorem tame_fltReset (old d : Dev) : Tame [.flt] d (fltReset old d) := @Tame.fltReset _ d d old (.refl _ _) ⟨by decide⟩

/-- From the losses on nothing but the filter chain, the islands and the heartbeat changes. -/
theorem tame_dozeGate (t : Time) (d : Dev) : Tame [.flt, .isl, .hif] (dozeWords (dozeStop d)) (dozeGate t d) := by
  have hflt : Fact (StatePart.flt ∈ [StatePart.flt, .isl, .hif]) := ⟨by decide⟩
  have hisl : Fact (StatePart.isl ∈ [StatePart.flt, .isl, .hif]) := ⟨by decide⟩
  have hhif : Fact (StatePart.hif ∈ [StatePart.flt, .isl, .hif]) := ⟨by decide⟩
  rw [dozeGate_eq]
  exact Tame.hif (Tame.foldl (Tame.fltReset (.refl _ _)) fun _ _ hx => .ite hx.modIsl hx)

/-- A compression lane that a reset has freed is idle, and stays so. -/
theorem cmpReset_idle (d : Dev) {l : Nat} (hl : l < cmpLanes) : (tget (cmpReset d).cmp l).busy = false := by
  have hstep (d : Dev) (k : Nat) :
      let x := (let j := tget d.cmp k
        if j.busy then endStarted j.ring j.idx stAborted 0 [] none (setLane k default d) else d)
      ∀ l, (tget x.cmp l).busy = if l = k then false else (tget d.cmp l).busy := by
    intro x l
    by_cases hb : (tget d.cmp k).busy = true
    · have hx : x.cmp = tset d.cmp k default := by
        simp only [x, hb, if_true]
        exact (hif_endStarted_only ..).stands .cmp (by decide)
      rw [hx, tget_tset]
      split <;> rfl
    · have hx : x = d := by simp [x, hb]
      rw [hx]
      split <;> simp_all
  have hfold (ls : List Nat) (d : Dev) (h : l ∈ ls ∨ (tget d.cmp l).busy = false) :
      (tget (ls.foldl (fun d l =>
        let j := tget d.cmp l
        if j.busy then endStarted j.ring j.idx stAborted 0 [] none (setLane l default d) else d) d).cmp l).busy = false := by
    induction ls generalizing d with
    | nil => simpa using h
    | cons k ls ih =>
      refine ih _ ?_
      have hk := hstep d k l
      rcases h with h | h
      · rcases List.mem_cons.mp h with rfl | h
        · exact .inr (by simpa using hk)
        · exact .inl h
      · refine .inr (hk.trans ?_)
        simp [h]
  exact hfold _ d (.inl (List.mem_range.mpr hl))

/-- What Doze leaves of the islands and of the engines (R618, R620). -/
theorem dozeGate_leaves (t : Time) (d : Dev) :
    (∀ i ∈ islands, islMode (dozeGate t d) i = if islMode d i = .run then .gated else islMode d i) ∧
      (dozeGate t d).pairs = [] ∧ (dozeGate t d).lko = [] ∧ (dozeGate t d).mdl = default ∧
      ∀ l < cmpLanes, (tget (dozeGate t d).cmp l).busy = false := by
  have hgate := tame_dozeGate t d
  obtain ⟨hpairs, hlko, hmdl, hcmp, hisl, -⟩ := dozeWords_leaves (dozeStop d)
  have hfab (x : Dev) : (fabricStop x).cmp = x.cmp :=
    (@Tame.fabricStop [.dxl] x x (.refl _ _) ⟨by decide⟩).stands .cmp (by decide)
  refine ⟨fun i hi => ?_, (hgate.stands .pairs (by decide)).trans hpairs, (hgate.stands .lko (by decide)).trans hlko,
    (hgate.stands .mdl (by decide)).trans hmdl, fun l hl => ?_⟩
  · have hlost : (dozeLosses d).isl = d.isl :=
      ((tame_fltReset d (dozeWords (dozeStop d))).stands .isl (by decide)).trans
        (hisl.trans ((tame_dozeStop d).stands .isl (by decide)))
    have hheard : (dozeGate t d).isl = (gateIslands islands (dozeLosses d)).isl := by
      rw [dozeGate_eq]
      exact (heardNow_leaves t _).stands .isl (by decide)
    rw [islMode, hheard, ← islMode, islMode_gateIslands, islMode, hlost, ← islMode]
    simp [hi]
  · have hstop : (dozeGate t d).cmp = (dozeStop d).cmp := (hgate.stands .cmp (by decide)).trans hcmp
    rw [hstop, dozeStop, hfab]
    exact cmpReset_idle _ hl

theorem pwr_dozeGate (t : Time) (d : Dev) : (dozeGate t d).pwr = d.pwr :=
  ((tame_dozeGate t d).stands .pwr (by decide)).trans
    ((dozeWords_leaves (dozeStop d)).2.2.2.2.2.trans ((tame_dozeStop d).stands .pwr (by decide)))

theorem dozeEnter_stands {t : Time} {d : Dev}
    (h : d.pwr.released = false ∨ d.pwr.doze = .entering ∨ d.pwr.doze = .waitKey ∨ d.pwr.doze = .asleep) :
    dozeEnter t d = d := by
  unfold dozeEnter
  rcases h with h | h | h | h <;> simp [h]

theorem dozeEnter_refused {t : Time} {d : Dev} (hr : d.pwr.released = true)
    (h : (d.pwr.doze = .awake ∧ (resetRuns d = true ∨ d.on Reg.GLB_STATUS.UPDATING = true ∨ d.on Reg.GLB_STATUS.PFW = true)) ∨
      d.pwr.doze = .waking) :
    dozeEnter t d = (d.set Reg.GLB_DOZE.STATUS stRejected).cause intGlb 5 0 stRejected := by
  unfold dozeEnter
  rw [if_neg (by simp [hr])]
  rcases h with ⟨h, hc⟩ | h
  · simp only [h, if_pos hc]
  · simp only [h]

theorem dozeEnter_starts {t : Time} {d : Dev} (hr : d.pwr.released = true) (ha : d.pwr.doze = .awake)
    (hrun : resetRuns d = false) (hu : d.on Reg.GLB_STATUS.UPDATING = false) (hp : d.on Reg.GLB_STATUS.PFW = false) :
    dozeEnter t d = if d.keys.cmd.isSome then d.modPwr fun p => { p with doze := .waitKey }
      else (dozeGate t d).modPwr fun p => { p with doze := .entering } := by
  unfold dozeEnter
  rw [if_neg (by simp [hr])]
  simp only [ha, hrun, hu, hp, Bool.false_eq_true, or_self, if_false]

/-! ## The end of entry (R620, R622, R623) -/

/-- Entry has completed: the device sleeps, or wakes at once. -/
def entryEnds (t : Time) (d : Dev) : Dev :=
  let d1 := ((d.set Reg.GLB_STATUS.DOZE 1).set Reg.GLB_DOZE.STATUS stOk).event 18 0 0 0
  let d2 := wakeTakeUp (d1.modPwr fun p => { p with doze := .asleep, wakeDue := false })
  if d.pwr.wakeDue then wakeCause t d2 else d2

theorem dozeEntryDone_entering {t : Time} {d : Dev} (h : d.pwr.doze = .entering) : dozeEntryDone t d = entryEnds t d := by
  unfold dozeEntryDone
  simp only [h]
  rfl

theorem dozeEntryDone_waited {t : Time} {d : Dev} (h : d.pwr.doze = .waitKey) (hk : d.keys.cmd = none) :
    dozeEntryDone t d = entryEnds t (dozeGate t d) := by
  unfold dozeEntryDone
  simp only [h, hk, Option.isSome_none, Bool.false_eq_true, if_false]
  rfl

theorem dozeEntryDone_stands {t : Time} {d : Dev}
    (h : d.pwr.doze = .awake ∨ d.pwr.doze = .asleep ∨ d.pwr.doze = .waking ∨ (d.pwr.doze = .waitKey ∧ d.keys.cmd ≠ none)) :
    dozeEntryDone t d = d := by
  unfold dozeEntryDone
  rcases h with h | h | h | ⟨h, hk⟩
  · simp [h]
  · simp [h]
  · simp [h]
  · simp [h, Option.isSome_iff_ne_none, hk]

/-- The device at the end of entry, before a wake cause that came during it. -/
def asleepDev (d : Dev) : Dev :=
  wakeTakeUp ((((d.set Reg.GLB_STATUS.DOZE 1).set Reg.GLB_DOZE.STATUS stOk).event 18 0 0 0).modPwr
    fun p => { p with doze := .asleep, wakeDue := false })

theorem asleepDev_regs (d : Dev) :
    (asleepDev d).regs = ((d.set Reg.GLB_STATUS.DOZE 1).set Reg.GLB_DOZE.STATUS stOk).regs := rfl

theorem entryEnds_leaves (t : Time) (d : Dev) :
    (entryEnds t d).get Reg.GLB_STATUS.DOZE = 1 ∧ (entryEnds t d).get Reg.GLB_DOZE.STATUS = stOk ∧
      (entryEnds t d).pwr.doze = (if d.pwr.wakeDue then .waking else .asleep) ∧ (entryEnds t d).pwr.wakeDue = false ∧
      (entryEnds t d).isl = d.isl ∧
      (d.pwr.wakeDue = false → (entryEnds t d).pwr.timed = if d.on Reg.GLB_WAKE.TIMED then
        some (d.get Reg.GLB_WAKE_ST.ST, d.get Reg.GLB_WAKE_TE.EPOCH, d.get Reg.GLB_WAKE_TE.LATE_TOL) else none) := by
  have hregs : (entryEnds t d).regs = ((d.set Reg.GLB_STATUS.DOZE 1).set Reg.GLB_DOZE.STATUS stOk).regs := by
    unfold entryEnds
    dsimp only
    split
    · exact (wakeCause_leaves t (asleepDev d)).2.2.2.2.2.1
    · rfl
  have hget (f : Field) : (entryEnds t d).get f = ((d.set Reg.GLB_STATUS.DOZE 1).set Reg.GLB_DOZE.STATUS stOk).get f := by
    simp [Dev.get, Dev.getN, hregs]
  refine ⟨?_, ?_, ?_, ?_, ?_, fun hw => ?_⟩
  · rw [hget, Dev.get_set_other _ _ _ _ (by decide), Dev.get_set_same _ _ _ (by decide) (by decide)]
  · rw [hget, Dev.get_set_same _ _ _ (by decide) (by decide)]
  · unfold entryEnds
    dsimp only
    split <;> rfl
  · unfold entryEnds
    dsimp only
    split <;> rfl
  · unfold entryEnds
    dsimp only
    split <;> rfl
  · have hsame : entryEnds t d = asleepDev d := by
      unfold entryEnds
      simp [hw, asleepDev]
    rw [hsame]
    have htimed : (asleepDev d).pwr.timed = (fun x : Dev => if x.on Reg.GLB_WAKE.TIMED then
        some (x.get Reg.GLB_WAKE_ST.ST, x.get Reg.GLB_WAKE_TE.EPOCH, x.get Reg.GLB_WAKE_TE.LATE_TOL) else none)
        ((d.set Reg.GLB_STATUS.DOZE 1).set Reg.GLB_DOZE.STATUS stOk) := rfl
    rw [htimed]
    simp (disch := decide) only [Dev.on_set_other, Dev.get_set_other]

/-! ## Waking (R621 to R623) -/

theorem writeGlbWake_plain {v : Word32} {d : Dev}
    (h : d.pwr.doze ≠ .asleep ∨ ((d.putWord 0x2C v).on Reg.GLB_WAKE.TIMED = true ∧ d.on Reg.GLB_WAKE.TIMED = true)) :
    writeGlbWake v d = d.putWord 0x2C v := by
  unfold writeGlbWake
  dsimp only
  by_cases ha : d.pwr.doze = .asleep
  · obtain ⟨h1, h2⟩ := h.resolve_left (by simp [ha])
    simp [ha, h1, h2]
  · rw [if_neg ha]

theorem writeGlbWake_disarms {v : Word32} {d : Dev} (ha : d.pwr.doze = .asleep)
    (ht : (d.putWord 0x2C v).on Reg.GLB_WAKE.TIMED = false) :
    writeGlbWake v d = (d.putWord 0x2C v).modPwr fun p => { p with timed := none } := by
  simp [writeGlbWake, ha, ht]

/-- A write of GLB_WAKE leaves the other words. -/
theorem get_putWord_other {d : Dev} {a : Nat} {v : Word32} {f : Field} (h : f.reg.addr 0 ≠ a) :
    (d.putWord a v).get f = d.get f := by
  simp [Dev.get, Dev.getN, Dev.putWord, fget, rword_rput, h]

theorem writeGlbWake_arms {v : Word32} {d : Dev} (ha : d.pwr.doze = .asleep)
    (ht : (d.putWord 0x2C v).on Reg.GLB_WAKE.TIMED = true) (hw : d.on Reg.GLB_WAKE.TIMED = false) :
    writeGlbWake v d = (d.putWord 0x2C v).modPwr fun p => { p with timed := some (d.get Reg.GLB_WAKE_ST.ST,
      d.get Reg.GLB_WAKE_TE.EPOCH, d.get Reg.GLB_WAKE_TE.LATE_TOL) } := by
  simp (disch := decide) only [writeGlbWake, ha, ht, hw, wakeTakeUp, get_putWord_other, Bool.not_true, Bool.not_false,
    Bool.false_eq_true, if_true, if_false]

theorem timedWake_stands {t : Time} {d : Dev} (h : d.pwr.timed = none ∨ d.pwr.doze ≠ .asleep) : timedWake t d = d := by
  unfold timedWake
  split
  · rfl
  · rw [if_pos (h.resolve_left (by simp_all))]

theorem timedWake_judges {t : Time} {d : Dev} {ns ep tol : Nat} (ha : d.pwr.doze = .asleep)
    (ht : d.pwr.timed = some (ns, ep, tol)) :
    timedWake t d = match verdictNow t d ns ep tol with
      | .wait => d
      | .expired => (d.set Reg.GLB_DOZE.STATUS stExpired).modPwr fun p => { p with timed := none }
      | v => (d.set Reg.GLB_DOZE.STATUS v.status).modPwr fun p =>
          { p with doze := .waking, wakeFrom := t.loc, timed := none } := by
  have hwake (x : Nat) : wakeCause t (d.set Reg.GLB_DOZE.STATUS x) = (d.set Reg.GLB_DOZE.STATUS x).modPwr fun p =>
      { p with doze := .waking, wakeFrom := t.loc, timed := none } := by
    simp [wakeCause, ha]
  unfold timedWake
  simp only [ht, ha, ne_eq, not_true_eq_false, if_false]
  cases verdictNow t d ns ep tol
  all_goals first | rfl | exact hwake _

theorem wakeDone_stands {t : Time} {d : Dev} (h : d.pwr.doze ≠ .waking ∨ t.loc < d.pwr.wakeFrom + 1200000) :
    wakeDone t d = d := if_pos (h.imp id fun h => by omega)

/-- The islands that accept requests once the wake is over. -/
def wokenIslands (d : Dev) : List Nat :=
  islands.filter fun i => decide (islMode d i = .gated) && !(tget d.isl i).clkBad && !(tget d.isl i).held

/-- Every gated island of a list leaves its gate: into reset, or to accept requests. -/
def ungate (up is : List Nat) (d : Dev) : Dev :=
  is.foldl (fun x i =>
    if islMode x i = .gated then x.modIsl i fun y => { y with mode := if up.contains i then .run else .reset } else x) d

theorem islMode_ungate (up is : List Nat) (d : Dev) (j : Nat) :
    islMode (ungate up is d) j =
      if j ∈ is ∧ islMode d j = .gated then (if up.contains j then .run else .reset) else islMode d j := by
  induction is generalizing d with
  | nil => simp [ungate]
  | cons i is ih =>
    have hstep : ungate up (i :: is) d = ungate up is
        (if islMode d i = .gated then d.modIsl i fun y => { y with mode := if up.contains i then .run else .reset } else d) := rfl
    rw [hstep, ih]
    by_cases hi : islMode d i = .gated
    · rw [if_pos hi, islMode_modIsl]
      by_cases hj : j = i
      · subst hj
        simp [hi]
      · simp [hj]
    · rw [if_neg hi]
      by_cases hj : j = i
      · subst hj
        simp [hi]
      · simp [hj]

theorem tame_ungate (up is : List Nat) (d : Dev) : Tame [.isl] d (ungate up is d) := by
  have hisl : Fact (StatePart.isl ∈ [StatePart.isl]) := ⟨by decide⟩
  exact (Tame.refl _ d).foldl fun _ _ hx => .ite hx.modIsl hx

/-- The device wakes: no reset waits any more, and its islands are ungated. -/
def wokenDev (d : Dev) : Dev :=
  ralmFailsafe (showResets ((((ungate (wokenIslands d) islands
    (d.modPwr fun p => { p with doze := .awake, timed := none, waiting := .none })).set Reg.GLB_STATUS.DOZE 0).event
      19 0 0 0).cause intGlb 2 0 0))

/-- The islands that accept requests take up their work again. -/
def resumeAll (t : Time) (is : List Nat) (d : Dev) : Dev := is.foldl (fun x i => islandResume t i x) d

theorem wakeDone_wakes {t : Time} {d : Dev} (hw : d.pwr.doze = .waking) (h : d.pwr.wakeFrom + 1200000 ≤ t.loc) :
    wakeDone t d = doReset t d.pwr.waiting (resumeAll t (wokenIslands d) (wokenDev d)) :=
  if_neg (by simp [hw]; omega)

theorem isl_resumeAll (t : Time) (is : List Nat) (d : Dev) : (resumeAll t is d).isl = d.isl :=
  foldl_keeps Dev.isl (fun x i => islandResume t i x) (fun d i => isl_islandResume t i d) is d

theorem pwr_resumeAll (t : Time) (is : List Nat) (d : Dev) : (resumeAll t is d).pwr = d.pwr :=
  foldl_keeps Dev.pwr (fun x i => islandResume t i x) (fun d i => pwr_islandResume t i d) is d

theorem low_resumeAll (t : Time) (is : List Nat) (d : Dev) : Low 0x20000 d (resumeAll t is d) :=
  (Low.refl _ d).foldl fun _ _ h => h.islandResume (by decide)

theorem low_ralmFailsafe (d : Dev) : Low 0x20000 d (ralmFailsafe d) :=
  (Low.refl _ d).foldl fun _ _ h => .ite h (h.setN (by decide))

theorem isl_ralmFailsafe (d : Dev) : (ralmFailsafe d).isl = d.isl :=
  (Tame.ralmFailsafe (ps := []) (.refl _ d)).stands .isl (by decide)

theorem wokenDev_leaves (d : Dev) :
    (wokenDev d).pwr = { d.pwr with doze := .awake, timed := none, waiting := .none } ∧
      (wokenDev d).get Reg.GLB_STATUS.DOZE = 0 ∧
      ∀ i ∈ islands, islMode (wokenDev d) i = if islMode d i ≠ .gated then islMode d i
        else if (tget d.isl i).clkBad || (tget d.isl i).held then .reset else .run := by
  have hgate := tame_ungate (wokenIslands d) islands
    (d.modPwr fun p => { p with doze := .awake, timed := none, waiting := .none })
  unfold wokenDev
  refine ⟨?_, ?_, fun i hi => ?_⟩
  · rw [pwr_ralmFailsafe]
    simp only [showResets_pwr, Dev.cause_pwr, Dev.event_pwr, Dev.set_pwr]
    exact hgate.stands .pwr (by decide)
  · rw [(low_ralmFailsafe _).get (by decide)]
    simp (disch := decide) only [showResets, Dev.get_set_other, Dev.cause_get, Dev.event_get]
    exact Dev.get_set_same _ _ _ (by decide) (by decide)
  · rw [islMode, isl_ralmFailsafe]
    simp only [showResets_isl, Dev.cause_isl, Dev.event_isl, Dev.set_isl]
    rw [← islMode, islMode_ungate]
    have hmode (x : Pwr → Pwr) : islMode (d.modPwr x) i = islMode d i := rfl
    rw [hmode]
    by_cases hg : islMode d i = .gated
    · simp only [hi, hg, and_self, if_true, ne_eq, not_true_eq_false, if_false]
      cases hc : (tget d.isl i).clkBad <;> cases hh : (tget d.isl i).held <;> simp [wokenIslands, hi, hg, hc, hh]
    · simp [hg]

/-- Settles O18: the links by their registers, each phase of Doze by the equations of its function, and the wake's end by what
ungating and restarting the islands leave. -/
theorem linksAndDoze : Obligations.LinksAndDoze := by
  unfold Obligations.LinksAndDoze
  refine ⟨⟨?_, ?_, ?_, ?_⟩, ?_, ?_, ?_, dozeGate_leaves, ?_, ?_, fun s => exec_dozeWake s, ?_, ?_, ?_, ?_, ?_, ?_, ?_, ?_⟩
  · intro s w sp hu hp hl
    rw [exec_pcieLinkUp, pcieLinkUp_rises hu hp hl]
    refine ⟨_, rfl, ?_, ?_, ?_, ?_, ?_, fun a ha hi => ?_⟩
    · rw [after_get _ _ _ (not_intakeWord (by decide))]
      show (((s.dev.set Reg.HIF_STATUS.LINK 1).set Reg.HIF_STATUS.WIDTH w).set Reg.HIF_STATUS.SPEED sp).get _ = _
      rw [Dev.get_set_other _ _ _ _ (by decide), Dev.get_set_other _ _ _ _ (by decide),
        Dev.get_set_same _ _ _ (by decide) (by decide)]
    · rw [after_get _ _ _ (not_intakeWord (by decide))]
      show (((s.dev.set Reg.HIF_STATUS.LINK 1).set Reg.HIF_STATUS.WIDTH w).set Reg.HIF_STATUS.SPEED sp).get _ = _
      rw [Dev.get_set_other _ _ _ _ (by decide), Dev.get_set_mod _ _ _ (by decide)]
    · rw [after_get _ _ _ (not_intakeWord (by decide))]
      exact Dev.get_set_mod _ _ _ (by decide)
    · rw [after_training]
    · rw [after_rings]
    · rw [after_word _ _ _ hi]
      show (((s.dev.set Reg.HIF_STATUS.LINK 1).set Reg.HIF_STATUS.WIDTH w).set Reg.HIF_STATUS.SPEED sp).word a = _
      rw [Dev.word_set _ _ _ _ ha, Dev.word_set _ _ _ _ ha, Dev.word_set _ _ _ _ ha]
  · intro s w sp h
    rw [exec_pcieLinkUp, pcieLinkUp_stands h]
  · intro s up sp hu
    rw [exec_mgtLinkChange, mgtLinkChange_changes hu]
    refine ⟨_, rfl, ?_, ?_, fun h => ?_, fun h => ?_, ?_⟩
    · rw [after_on _ _ _ (not_intakeWord (by decide)), apply_ite (fun d => Dev.on d Reg.MGT_STATUS.LINK),
        Dev.cause_on _ _ _ _ _ _ (by decide), ite_self, Dev.on_set_other _ _ _ _ (by decide)]
      exact (Dev.onN_setN_same _ _ _ _ (by decide)).trans (by cases up <;> rfl)
    · rw [after_get _ _ _ (not_intakeWord (by decide)), apply_ite (fun d => Dev.get d Reg.MGT_STATUS.SPEED),
        Dev.cause_get _ _ _ _ _ _ (by decide), ite_self, Dev.get_set_mod _ _ _ (by decide)]
      cases up <;> rfl
    · rw [after_word _ _ _ (not_intakeWord (by decide)), if_neg h]
      exact Dev.cause_sets _ _ _ _ _ (by decide)
    · rw [after_word _ _ _ (not_intakeWord (by decide)), if_pos h, Dev.word_set _ _ _ _ (by decide)]
      exact Dev.word_setN _ _ _ _ _ (by decide)
    · rw [after_ports]
      split <;> simp
  · intro s up sp hu
    rw [exec_mgtLinkChange, mgtLinkChange, if_pos (by simp [hu])]
  · intro s h
    rw [exec_dozeEnter, dozeEnter_stands h]
  · intro s hr h
    rw [exec_dozeEnter, dozeEnter_refused hr h]
  · intro s hr ha hrun hu hp
    rw [exec_dozeEnter, dozeEnter_starts hr ha hrun hu hp]
    constructor <;> intro hk
    · rw [if_pos (Option.isSome_iff_ne_none.mpr hk)]
    · rw [if_neg (by simp [hk])]
  · intro s h
    rw [exec_dozeEntryDone]
    have hw : ¬ (s.dev.pwr.doze = .waitKey ∧ s.dev.keys.cmd = none) → s.dev.pwr.doze = .entering := fun hn => h.resolve_right hn
    rcases h with h | ⟨h, hk⟩
    · rw [dozeEntryDone_entering h]
      obtain ⟨h1, h2, h3, h4, h5, h6⟩ := entryEnds_leaves s.time s.dev
      refine ⟨_, rfl, ?_, ?_, ?_, ?_, ?_, fun _ hd => ?_⟩
      · rw [after_get _ _ _ (not_intakeWord (by decide)), h1]
      · rw [after_get _ _ _ (not_intakeWord (by decide)), h2]
      · rw [after_pwr, h3]
      · rw [after_pwr, h4]
      · rw [after_isl, h5, if_pos h]
      · rw [after_pwr, h6 hd]
    · rw [dozeEntryDone_waited h hk]
      obtain ⟨h1, h2, h3, h4, h5, -⟩ := entryEnds_leaves s.time (dozeGate s.time s.dev)
      refine ⟨_, rfl, ?_, ?_, ?_, ?_, ?_, fun he => absurd (he.symm.trans h) (by decide)⟩
      · rw [after_get _ _ _ (not_intakeWord (by decide)), h1]
      · rw [after_get _ _ _ (not_intakeWord (by decide)), h2]
      · rw [after_pwr, h3, pwr_dozeGate]
      · rw [after_pwr, h4]
      · rw [after_isl, h5, if_neg (by rw [h]; decide)]
  · intro s h
    rw [exec_dozeEntryDone, dozeEntryDone_stands h]
  · intro t d
    unfold wakeCause
    refine ⟨fun h => ?_, fun h => ?_, fun h => ?_⟩
    · simp [h]
    · rcases h with h | h <;> simp [h]
    · rcases h with h | h <;> simp [h]
  · intro s pin falling
    simp only [exec_gpioWake, beq_iff_eq]
  · intro s v hr
    rw [exec_writeGlbWake, if_neg (by simp [hr])]
  · rintro s v d hr rfl
    rw [exec_writeGlbWake, if_pos hr]
    refine ⟨fun h => ?_, fun ha ht => ?_, fun ha ht hw => ?_⟩
    · rw [writeGlbWake_plain h]
    · rw [writeGlbWake_disarms ha ht]
    · rw [writeGlbWake_arms ha ht hw]
  · intro s h
    rw [exec_timedWake, timedWake_stands h]
  · intro s ns ep tol ha ht
    exact congrArg (fun d => Host.Outcome.next (s.after d)) (timedWake_judges ha ht)
  · intro s h
    rw [exec_wakeDone, wakeDone_stands h]
  · intro s hw h
    rw [exec_wakeDone, wakeDone_wakes hw h]
    obtain ⟨hpwr, hget, hmode⟩ := wokenDev_leaves s.dev
    have hp := (pwr_resumeAll s.time (wokenIslands s.dev) (wokenDev s.dev)).trans hpwr
    refine ⟨_, rfl, by rw [hp], by rw [hp], by rw [hp], ?_, fun i hi => ?_⟩
    · rw [(low_resumeAll _ _ _).get (by decide), hget]
    · rw [islMode, isl_resumeAll, ← islMode, hmode i hi]

end Sys2Proof.Machine

/-!
PROOFS. Grid time: its ticks, the host's frequency words and adjustments, and the verdict on timed actions (R34 to R45, R66 to
R69).
-/

namespace Sys2Proof.Machine

open Sys2Proof

/-! ## What the commands mean -/

theorem exec_timedAdjust (s : State) :
    exec .timedAdjust s =
      .next (State.after { s with time := (timedAdjust s.time s.dev).1 } (timedAdjust s.time s.dev).2) := rfl

theorem exec_timekeeperTick_released {s : State} (h : s.dev.pwr.released = true) :
    exec .timekeeperTick s = exec .timedAdjust { s with time := (tick s.time s.dev).1, dev := (tick s.time s.dev).2 } :=
  if_pos h

theorem exec_timekeeperTick_early {s : State} (h : s.dev.pwr.released = false) : exec .timekeeperTick s = .next s :=
  if_neg (by simp [h])

theorem exec_writeTkpAdj (v : Word32) (s : State) :
    exec (.writeTkpAdj v) s = .next (s.after (if s.dev.pwr.released then writeAdj v s.dev else s.dev)) := rfl

theorem exec_writeTkpFreqLo (v : Word32) (s : State) :
    exec (.writeTkpFreqLo v) s = .next (s.after (if s.dev.pwr.released then writeFreqLo v s.dev else s.dev)) := rfl

/-! ## A step of grid time (R44, R91) -/

theorem adcStep_regs (step : Int) (d : Dev) : (adcStep step d).regs = d.regs :=
  foldl_keeps Dev.regs _ (fun d n => by dsimp only; split <;> split <;> rfl) _ d

theorem adcStep_tkp (step : Int) (d : Dev) : (adcStep step d).tkp = d.tkp :=
  foldl_keeps Dev.tkp _ (fun d n => by dsimp only; split <;> split <;> rfl) _ d

/-- The timekeeper but for the marks of what is counted from grid time. -/
def withoutMarks (k : Tkp) : Tkp := { k with lastUpd := 0, ppsLast := 0 }

theorem phaseStepped_tkp (t : Time) (step : Int) (d : Dev) :
    withoutMarks (phaseStepped t step d).tkp = withoutMarks d.tkp := by
  unfold phaseStepped
  rw [adcStep_tkp]
  simp only [ppsRealign, Dev.modTkp, Dev.cause_tkp, withoutMarks]

/-- A step is shown by TKP_INT.STEP, and writes no other word. -/
theorem phaseStepped_word (t : Time) (step : Int) (d : Dev) (a : Nat) :
    (phaseStepped t step d).word a = (d.cause intTkp 5 0 0).word a := by
  have hregs : (phaseStepped t step d).word a = Dev.word (Dev.cause (d.modTkp fun k => { k with
      lastUpd := if step < 0 then min k.lastUpd (servoIndex d t.ns) else k.lastUpd }) intTkp 5 0 0) a := by
    unfold phaseStepped
    rw [Dev.word, adcStep_regs]
    rfl
  rw [hregs, Dev.cause_word, Dev.cause_word]
  rfl

theorem phaseStepped_get (t : Time) (step : Int) (d : Dev) (f : Field) (h : f.reg.addr 0 ≠ intTkp.addr) :
    (phaseStepped t step d).get f = d.get f := by
  have hw := (phaseStepped_word t step d (f.reg.addr 0)).trans (Dev.cause_word_other d intTkp 5 0 0 h)
  simp only [Dev.word] at hw
  simp [Dev.get, Dev.getN, fget, hw]

theorem phaseStepped_shows (t : Time) (step : Int) (d : Dev) :
    bitOf ((phaseStepped t step d).word intTkp.addr) 5 = true := by
  rw [phaseStepped_word]
  exact Dev.cause_sets d intTkp 5 0 0 (by decide)

theorem on_eq_get (d : Dev) (f : Field) : d.on f = (d.get f != 0) := rfl

/-! ## Ticks (R34, R45, R67) -/

/-- The device after a tick, but for a step of grid time. -/
def tickDev (d : Dev) : Dev :=
  ({ d with tkp := { d.tkp with
      freq := d.tkp.freqNext.getD d.tkp.freq, freqNext := none
      slew := (slewTick (d.get Reg.TKP_SERVO.SLEW_MAX) d.tkp.slew d.tkp.slewRem).2.1
      slewRem := (slewTick (d.get Reg.TKP_SERVO.SLEW_MAX) d.tkp.slew d.tkp.slewRem).2.2
      stepNext := 0, extend := d.on Reg.TKP_CTRL.STMODE } } : Dev).set Reg.TKP_STATUS.SLEWING
    (b2n ((slewTick (d.get Reg.TKP_SERVO.SLEW_MAX) d.tkp.slew d.tkp.slewRem).2.1 != 0))

theorem tick_dev (t : Time) (d : Dev) :
    (tick t d).2 = if d.tkp.stepNext = 0 then tickDev d else phaseStepped (tick t d).1 d.tkp.stepNext (tickDev d) := rfl

theorem tick_time (t : Time) (d : Dev) :
    (tick t d).1 = ⟨((t.cnt : Int) + 4 * 2 ^ 46 + d.tkp.freqNext.getD d.tkp.freq +
      (slewTick (d.get Reg.TKP_SERVO.SLEW_MAX) d.tkp.slew d.tkp.slewRem).1 + d.tkp.stepNext).toNat, t.ticks + 1⟩ := by
  simp [tick, nsUnit]

theorem tick_tkp (t : Time) (d : Dev) : withoutMarks (tick t d).2.tkp = withoutMarks (tickDev d).tkp := by
  rw [tick_dev]
  split
  · rfl
  · exact phaseStepped_tkp _ _ _

theorem tick_get (t : Time) (d : Dev) (f : Field) (h : f.reg.addr 0 ≠ intTkp.addr) :
    (tick t d).2.get f = (tickDev d).get f := by
  rw [tick_dev]
  split
  · rfl
  · exact phaseStepped_get _ _ _ f h

theorem tick_shows (t : Time) {d : Dev} (h : d.tkp.stepNext ≠ 0) : bitOf ((tick t d).2.word intTkp.addr) 5 = true := by
  rw [tick_dev, if_neg h]
  exact phaseStepped_shows _ _ _

theorem tame_tick (t : Time) (d : Dev) : Tame [.tkp, .adc] d (tick t d).2 :=
  @Tame.tick _ d d t (.refl _ _) ⟨by decide⟩ ⟨by decide⟩

/-- The slew of a tick and what is left of it make up the slew that was left before. -/
theorem slewTick_sum (ppm : Nat) (slew : Int) (rem : Nat) : (slewTick ppm slew rem).1 + (slewTick ppm slew rem).2.1 = slew := by
  unfold slewTick
  dsimp only
  split_ifs <;> simp_all

/-- A tick's slew stays within SLEW_MAX. -/
theorem slewTick_bound {ppm rem : Nat} (slew : Int) (h : rem < 1000000) :
    (slewTick ppm slew rem).1.natAbs ≤ 4 * 2 ^ 46 * (if ppm = 0 then 500 else ppm) / 1000000 + 1 := by
  have hle : (slewTick ppm slew rem).1.natAbs ≤ (rem + 4 * nsUnit * (if ppm = 0 then 500 else ppm)) / 1000000 := by
    unfold slewTick
    generalize (rem + 4 * nsUnit * (if ppm = 0 then 500 else ppm)) = acc
    dsimp only
    split_ifs with h0 h1 h2
    · simp
    · exact h1
    · exact le_rfl
    · exact (Int.natAbs_neg _).le
  have hunit : nsUnit = 2 ^ 46 := rfl
  rw [hunit] at hle
  omega

/-! ## Timed adjustments (R40 to R42, R68) -/

theorem timedAdjust_none {t : Time} {d : Dev} (h : d.on Reg.TKP_ADJ_STAT.PEND = false) : timedAdjust t d = (t, d) :=
  if_neg (by simp [h])

/-- The verdict on the adjustment that waits. -/
def adjVerdict (t : Time) (d : Dev) : Verdict :=
  verdictNow t d (d.get Reg.TKP_ADJ_T.ST) (d.get Reg.TKP_ADJ_TE.EPOCH) (d.get Reg.TKP_ADJ_TE.LATE_TOL)

/-- The adjustment is over: its verdict is shown. -/
def adjDone (v : Verdict) (d : Dev) : Dev :=
  ((d.set Reg.TKP_ADJ_STAT.STATUS v.status).set Reg.TKP_ADJ_STAT.PEND 0).cause intTkp 11 0 v.status

/-- Grid time once the adjustment has been applied as a step. -/
def adjTime (t : Time) (d : Dev) : Time := ⟨((t.cnt : Int) + d.tkp.adjVal * 2 ^ 46).toNat, t.ticks⟩

theorem timedAdjust_waits {t : Time} {d : Dev} (h : d.on Reg.TKP_ADJ_STAT.PEND = true) (hv : adjVerdict t d = .wait) :
    timedAdjust t d = (t, d) := by
  unfold adjVerdict at hv
  simp [timedAdjust, h, hv]

theorem timedAdjust_expires {t : Time} {d : Dev} (h : d.on Reg.TKP_ADJ_STAT.PEND = true) (hv : adjVerdict t d = .expired) :
    timedAdjust t d = (t, adjDone .expired d) := by
  unfold adjVerdict at hv
  simp [timedAdjust, h, hv, adjDone]

/-- On time or late, the adjustment is applied as a slew or as a step of grid time. -/
theorem timedAdjust_applies {t : Time} {d : Dev} {v : Verdict} (h : d.on Reg.TKP_ADJ_STAT.PEND = true)
    (hv : adjVerdict t d = v) (hw : v ≠ .wait) (he : v ≠ .expired) :
    timedAdjust t d = if d.on Reg.TKP_CTRL.ADJ_MODE then (t, adjDone v (applyAdj d.tkp.adjVal d))
      else (adjTime t d, adjDone v (phaseStepped (adjTime t d) (d.tkp.adjVal * 2 ^ 46) d)) := by
  unfold adjVerdict at hv
  unfold timedAdjust
  rw [if_pos h]
  cases v with
  | wait => exact absurd rfl hw
  | ok => simp only [hv]; rfl
  | late => simp only [hv]; rfl
  | expired => exact absurd rfl he

theorem adjDone_leaves (v : Verdict) (d : Dev) :
    (adjDone v d).get Reg.TKP_ADJ_STAT.STATUS = v.status ∧ (adjDone v d).get Reg.TKP_ADJ_STAT.PEND = 0 ∧
      bitOf ((adjDone v d).word intTkp.addr) 11 = true ∧ (adjDone v d).tkp = d.tkp ∧
      (adjDone v d).get Reg.TKP_STATUS.SLEWING = d.get Reg.TKP_STATUS.SLEWING ∧
      (bitOf (d.word intTkp.addr) 5 = true → bitOf ((adjDone v d).word intTkp.addr) 5 = true) := by
  unfold adjDone
  refine ⟨?_, ?_, ?_, ?_, ?_, fun h => ?_⟩
  · rw [Dev.cause_get _ _ _ _ _ _ (by decide), Dev.get_set_other _ _ _ _ (by decide),
      Dev.get_set_same _ _ _ (by decide) (by cases v <;> decide)]
  · rw [Dev.cause_get _ _ _ _ _ _ (by decide), Dev.get_set_same _ _ _ (by decide) (by decide)]
  · exact Dev.cause_sets _ _ _ _ _ (by decide)
  · simp
  · simp (disch := decide) only [Dev.cause_get, Dev.get_set_other]
  · rw [Dev.cause_word, if_pos rfl, Dev.word_set _ _ _ _ (by decide), Dev.word_set _ _ _ _ (by decide)]
    simp only [bitOf, BitVec.getLsbD_or] at h ⊢
    simp [h]

/-! ## The policy of R36 to R42 -/

/-- A target ahead of now by less than half the range of short times lies that far ahead. -/
theorem sdiff_ahead {m d : Nat} (now : Nat) (hm : m = 2 ^ 32 ∨ m = 2 ^ 48) (hd : d < m / 2) : sdiff m (now + d) now = d := by
  have hr : ((now + d) % m + m - now % m) % m = d := by rcases hm with rfl | rfl <;> omega
  simp [sdiff, hr, hd]

/-- A target behind now by at most half the range lies that far behind. -/
theorem sdiff_behind {m d now : Nat} (hm : m = 2 ^ 32 ∨ m = 2 ^ 48) (h0 : 0 < d) (hd : d ≤ m / 2) (hn : d ≤ now) :
    sdiff m (now - d) now = -d := by
  have hr : ((now - d) % m + m - now % m) % m = m - d := by rcases hm with rfl | rfl <;> omega
  simp only [sdiff, hr]
  rw [if_neg (by omega)]
  omega

theorem verdictOf_ahead (d span tol : Nat) : verdictOf d span tol = if span ≤ d then .wait else .ok := by
  simp [verdictOf]

theorem verdictOf_behind {d span : Nat} (tol : Nat) (h0 : 0 < d) (hs : 0 < span) :
    verdictOf (-(d : Int)) span tol = if d ≤ tol * 1000 then .late else .expired := by
  unfold verdictOf
  rw [if_neg (by omega), if_neg (by omega), neg_neg]
  simp only [Nat.cast_le]

/-- An extended short time is put together again. -/
theorem epoch_word (n : Nat) : n / 2 ^ 32 * 2 ^ 32 + n % 2 ^ 32 = n := Nat.div_add_mod' n (2 ^ 32)

/-! ## The host's words and adjustments (R66 to R69) -/

theorem writeAdj_pending {v : Word32} {d : Dev} (h : d.on Reg.TKP_ADJ_STAT.PEND = true) :
    writeAdj v d = d.cause intTkp 10 0 0 := if_pos h

theorem writeAdj_free {v : Word32} {d : Dev} (h : d.on Reg.TKP_ADJ_STAT.PEND = false) :
    writeAdj v d = if v = 0 then d
      else if d.on Reg.TKP_CTRL.ADJ_TIMED then (d.modTkp fun k => { k with adjVal := v.toInt }).set Reg.TKP_ADJ_STAT.PEND 1
      else if d.on Reg.TKP_CTRL.ADJ_MODE then
        (d.modTkp fun k => { k with slew := k.slew + v.toInt * 2 ^ 46 }).set Reg.TKP_STATUS.SLEWING 1
      else d.modTkp fun k => { k with stepNext := k.stepNext + v.toInt * 2 ^ 46 } :=
  if_neg (by simp [h])

theorem writeFreqHi_hardware {t : Time} {v : Word32} {d : Dev} (h : d.tkp.mode = 1) : writeFreqHi t v d = d := if_pos h

theorem writeFreqHi_off {t : Time} {v : Word32} {d : Dev} (h1 : d.tkp.mode ≠ 1) (h2 : d.tkp.mode ≠ 2) :
    writeFreqHi t v d = d.modTkp fun k => { k with freqNext := some (sint 40 (v.toNat % 256 * 2 ^ 32 + k.freqHeld)) } := by
  rw [writeFreqHi, if_neg h1]
  exact if_neg h2

theorem setSvState_changes {t : Time} {x : Nat} {d : Dev} (h : svState d ≠ x) :
    bitOf ((setSvState t x d).word intTkp.addr) 0 = true := by
  simp only [setSvState, if_neg h]
  exact Dev.cause_sets _ _ _ _ _ (by decide)

theorem setSvState_freqHeld (t : Time) (x : Nat) (d : Dev) : (setSvState t x d).tkp.freqHeld = d.tkp.freqHeld :=
  setSvState_keeps Tkp.freqHeld (fun _ _ _ _ _ => rfl) t x d

/-- Settles O19: a tick by its own equation and what a step of grid time leaves, the host's words and adjustments by the
equations of their functions. -/
theorem gridTime : Obligations.GridTime := by
  unfold Obligations.GridTime
  refine ⟨⟨?_, ?_, fun ppm rem slew => ⟨slewTick_sum ppm slew rem, slewTick_bound slew⟩, ?_⟩, ?_, ?_, ?_, ?_, ?_, ?_⟩
  · intro s hr hp
    have hpend : (tick s.time s.dev).2.on Reg.TKP_ADJ_STAT.PEND = false := by
      rw [on_eq_get, tick_get _ _ _ (by decide), ← on_eq_get]
      exact (Dev.on_set_other _ _ _ _ (by decide)).trans hp
    have htkp := tick_tkp s.time s.dev
    have htame := tame_tick s.time s.dev
    rw [exec_timekeeperTick_released hr, exec_timedAdjust]
    simp only [timedAdjust_none hpend]
    refine ⟨_, rfl, tick_time s.time s.dev, ?_, ?_, ?_, ?_, ?_, ?_, fun hs => ?_, ?_, ?_, ?_, rfl⟩
    · rw [after_tkp]; exact (congrArg Tkp.freq htkp :)
    · rw [after_tkp]; exact (congrArg Tkp.freqNext htkp :)
    · rw [after_tkp]; exact (congrArg Tkp.stepNext htkp :)
    · rw [after_tkp]; exact (congrArg Tkp.slew htkp :)
    · rw [after_get _ _ _ (not_intakeWord (by decide)), after_tkp, tick_get _ _ _ (by decide),
        show (tick s.time s.dev).2.tkp.slew = (tickDev s.dev).tkp.slew from (congrArg Tkp.slew htkp :)]
      refine Dev.get_set_same _ _ _ (by decide) ?_
      unfold b2n
      split <;> decide
    · rw [after_tkp]; exact (congrArg Tkp.extend htkp :)
    · rw [after_word _ _ _ (not_intakeWord (by decide))]; exact tick_shows s.time hs
    · rw [after_tkp]; exact (congrArg Tkp.refs htkp :)
    · rw [after_hmp]; exact htame.stands .hmp (by decide)
    · rw [after_ports]; exact htame.stands .ports (by decide)
  · intro s hr _
    exact exec_timekeeperTick_released hr
  · intro s hr
    exact exec_timekeeperTick_early hr
  · intro s v hr hm
    rw [exec_writeTkpFreqLo, if_pos hr, writeFreqLo, if_neg hm]
  · intro s v hr hm
    rw [exec_writeTkpFreqLo, exec_writeTkpFreqHi v hr, if_pos hr, writeFreqLo, if_pos hm, writeFreqHi_hardware hm]
    exact ⟨rfl, rfl⟩
  · intro s v hr hm
    rw [exec_writeTkpFreqHi v hr]
    by_cases h2 : s.dev.tkp.mode = 2
    · rw [writeFreqHi_host s.time v h2]
      refine ⟨_, rfl, ?_, ?_, fun _ => ⟨?_, ?_, fun hs => ?_⟩, fun hn => absurd h2 hn⟩
      · rw [after_tkp, setSvState_freqNext]; rfl
      · rw [after_tkp, setSvState_freqHeld]; rfl
      · exact (svState_after s _).trans (svState_setSvState s.time _ (by decide))
      · rw [after_tkp, setSvState_hostLast]; rfl
      · rw [after_word _ _ _ (not_intakeWord (by decide))]
        exact setSvState_changes hs
    · rw [writeFreqHi_off hm h2]
      refine ⟨_, rfl, ?_, ?_, fun h => absurd h h2, fun _ => ⟨?_, ?_⟩⟩
      · rw [after_tkp]; rfl
      · rw [after_tkp]; rfl
      · rw [after_get _ _ _ (not_intakeWord (by decide))]; rfl
      · rw [after_tkp]; rfl
  · intro s v hr hp
    rw [exec_writeTkpAdj, if_pos hr, writeAdj_pending hp]
  · intro s v hr hp
    rw [exec_writeTkpAdj, if_pos hr, writeAdj_free hp]
  · intro s v hr
    have hoff : ¬ s.dev.pwr.released = true := by simp [hr]
    refine ⟨?_, ?_, ?_⟩
    · rw [exec_writeTkpFreqLo, if_neg hoff]
    · exact congrArg (fun d => Host.Outcome.next (s.after d)) (if_neg hoff)
    · rw [exec_writeTkpAdj, if_neg hoff]

/-- Settles O20: the policy by the signed distance of a short time, the timed adjustment by its verdict. -/
theorem timedActions : Obligations.TimedActions := by
  unfold Obligations.TimedActions
  refine ⟨⟨?_, ?_, ?_, ?_⟩, ?_, ?_, ?_⟩
  · intro now d ep tol span hd
    rw [timedVerdict, timeAhead, if_neg (by decide), sdiff_ahead now (.inl rfl) hd, verdictOf_ahead]
  · intro now d ep tol span h0 hd hn hs
    rw [timedVerdict, timeAhead, if_neg (by decide), sdiff_behind (.inl rfl) h0 hd hn, verdictOf_behind tol h0 hs]
  · intro now d tol span hd hn
    rw [timedVerdict, timeAhead, if_pos rfl, epoch_word, sdiff_ahead now (.inr rfl) hd, verdictOf_ahead]
  · intro now d tol span h0 hd hn hb hs
    rw [timedVerdict, timeAhead, if_pos rfl, epoch_word, sdiff_behind (.inr rfl) h0 hd hn, verdictOf_behind tol h0 hs]
  · intro s hp
    rw [exec_timedAdjust, timedAdjust_none hp]
  · intro s hp hv
    have hadj : adjVerdict s.time s.dev = .wait := hv
    rw [exec_timedAdjust, timedAdjust_waits hp hadj]
  · intro s v hp hv hw
    have hadj : adjVerdict s.time s.dev = v := hv
    have hleaves (x : Dev) := adjDone_leaves v x
    rw [exec_timedAdjust]
    by_cases he : v = .expired
    · subst he
      obtain ⟨h1, h2, h3, h4, -, -⟩ := hleaves s.dev
      rw [timedAdjust_expires hp hadj]
      refine ⟨_, rfl, ?_, ?_, ?_, rfl, fun _ => ⟨rfl, ?_⟩, fun h => absurd rfl h, fun h => absurd rfl h⟩
      · rw [after_get _ _ _ (not_intakeWord (by decide)), h1]
      · rw [after_get _ _ _ (not_intakeWord (by decide)), h2]
      · rw [after_word _ _ _ (not_intakeWord (by decide)), h3]
      · rw [after_tkp, h4]
    · rw [timedAdjust_applies hp hadj hw he]
      by_cases hm : s.dev.on Reg.TKP_CTRL.ADJ_MODE = true
      · have happly : applyAdj s.dev.tkp.adjVal s.dev = (s.dev.modTkp fun k =>
            { k with slew := k.slew + s.dev.tkp.adjVal * 2 ^ 46 }).set Reg.TKP_STATUS.SLEWING 1 := if_pos hm
        obtain ⟨h1, h2, h3, h4, h5, -⟩ := hleaves (applyAdj s.dev.tkp.adjVal s.dev)
        rw [if_pos hm]
        refine ⟨_, rfl, ?_, ?_, ?_, rfl, fun h => absurd h he, fun _ _ => ⟨rfl, ?_, ?_⟩, fun _ h => absurd (hm.symm.trans h) (by decide)⟩
        · rw [after_get _ _ _ (not_intakeWord (by decide)), h1]
        · rw [after_get _ _ _ (not_intakeWord (by decide)), h2]
        · rw [after_word _ _ _ (not_intakeWord (by decide)), h3]
        · rw [after_tkp, h4, happly]; rfl
        · rw [after_get _ _ _ (not_intakeWord (by decide)), h5, happly, Dev.get_set_same _ _ _ (by decide) (by decide)]
      · obtain ⟨h1, h2, h3, h4, -, h6⟩ :=
          hleaves (phaseStepped (adjTime s.time s.dev) (s.dev.tkp.adjVal * 2 ^ 46) s.dev)
        rw [if_neg hm]
        refine ⟨_, rfl, ?_, ?_, ?_, rfl, fun h => absurd h he, fun _ h => absurd h hm, fun _ _ => ⟨rfl, ?_, ?_⟩⟩
        · rw [after_get _ _ _ (not_intakeWord (by decide)), h1]
        · rw [after_get _ _ _ (not_intakeWord (by decide)), h2]
        · rw [after_word _ _ _ (not_intakeWord (by decide)), h3]
        · rw [after_tkp, h4]
          exact (congrArg Tkp.slew (phaseStepped_tkp _ _ s.dev) :)
        · rw [after_word _ _ _ (not_intakeWord (by decide))]
          exact h6 (phaseStepped_shows _ _ s.dev)

end Sys2Proof.Machine

/-!
PROOFS. References of the timekeeper: their samples and the servo's interval boundaries (R46 to R51, R70 to R80, R664).
-/

namespace Sys2Proof.Machine

open Sys2Proof

/-! ## What the commands mean -/

theorem exec_referenceSample (slot : Nat) (x : TimeSample) (s : State) :
    exec (.referenceSample slot x) s =
      .next (s.after (if s.dev.pwr.released then refSample s.time slot x s.dev else s.dev)) := rfl

theorem exec_servoUpdate (s : State) :
    exec .servoUpdate s = .next (s.after (if s.dev.pwr.released then servoUpdate s.time s.dev else s.dev)) := rfl

/-! ## The reference slots through the updates of others -/

@[simp] theorem Dev.setN_ref (d : Dev) (f : Field) (i v n : Nat) : (d.setN f i v).ref n = d.ref n := rfl
@[simp] theorem Dev.set_ref (d : Dev) (f : Field) (v n : Nat) : (d.set f v).ref n = d.ref n := rfl
@[simp] theorem Dev.setB_ref (d : Dev) (f : Field) (i : Nat) (b : Bool) (n : Nat) : (d.setB f i b).ref n = d.ref n := rfl
@[simp] theorem Dev.cause_ref (d : Dev) (b : IntBlk) (k i x n : Nat) : (d.cause b k i x).ref n = d.ref n := by
  simp [Dev.ref]
@[simp] theorem Dev.setRef_same (d : Dev) (n : Nat) (r : RefSt) : (d.setRef n r).ref n = r := tget_tset_same _ _ _
theorem Dev.setRef_other (d : Dev) {n k : Nat} (h : k ≠ n) (r : RefSt) : (d.setRef n r).ref k = d.ref k :=
  tget_tset_other _ h _

/-! ## Samples of references (R50, R73, R74) -/

/-- A sample's offset, less the correction of its slot. -/
def refOffset (n : Nat) (x : TimeSample) (d : Dev) : Int := x.offset - sint 32 (d.getN Reg.TKP_REFn_ASYM.CORR n)

/-- What a sample is compared with: the offset a path step led to, or else the filtered one. -/
def refBase (n : Nat) (d : Dev) : Option Int := (d.ref n).jump.orElse fun _ => (d.ref n).filt

/-- The path step a sample shows, if any. -/
def pathStep (n : Nat) (x : TimeSample) (d : Dev) : Option Int :=
  match x.rtd, (d.ref n).filtRtd with
  | some a, some b =>
    if d.on Reg.TKP_CTRL.ASYM_EN && d.get Reg.TKP_ASYM.THR * 100 != 0 &&
        decide (d.get Reg.TKP_ASYM.THR * 100 ≤ ((a : Int) - (b : Int)).natAbs)
    then some ((a : Int) - (b : Int)) else none
  | _, _ => none

/-- An outlier is one of a LOCKED servo beyond OUTLIER with no path step in it. -/
def refOutlier (n : Nat) (x : TimeSample) (d : Dev) : Bool :=
  svState d == svLocked && d.get Reg.TKP_GATE.OUTLIER * 4 != 0 && (pathStep n x d).isNone &&
    (match refBase n d with | some f => decide (d.get Reg.TKP_GATE.OUTLIER * 4 < (refOffset n x d - f).natAbs) | none => false)

/-- A slot that has discarded a sample. -/
def refDiscarded (n : Nat) (x : TimeSample) (d : Dev) : RefSt :=
  { d.ref n with
    heard := true, discarded := (d.ref n).discarded + 1, discSum := (d.ref n).discSum + refOffset n x d }

/-- A slot that has accepted a sample. -/
def refAccepted (n : Nat) (x : TimeSample) (d : Dev) : RefSt :=
  { d.ref n with
    heard := true, sumQ := (d.ref n).sumQ + refOffset n x d, cnt := (d.ref n).cnt + 1, err := x.err, traceable := x.traceable
    filtRtd := match x.rtd, (d.ref n).filtRtd with
      | some a, some b => some (if (pathStep n x d).isSome then a else Config.rtdFilter b a)
      | some a, none => some a
      | none, f => f
    jump := if (pathStep n x d).isSome then some (refOffset n x d) else (d.ref n).jump
    pathSteps := match pathStep n x d with
      | some s => (d.ref n).pathSteps ++ [(s * 4, refOffset n x d - (refBase n d).getD (refOffset n x d))]
      | none => (d.ref n).pathSteps }

/-- The registers that show an accepted sample. -/
def refShown (n : Nat) (x : TimeSample) (d : Dev) : Dev :=
  (((d.setRef n (refAccepted n x d)).setN Reg.TKP_REFn_OFS.NS n (satS32 (refOffset n x d / 4))).setN Reg.TKP_REFn_RTD.NS n
    (min (x.rtd.getD 0) (2 ^ 32 - 1))).wrapInc Reg.TKP_REFn_STAT.ACCEPT n

/-- The cases of a sample. -/
theorem refSample_cases (t : Time) (n : Nat) (x : TimeSample) (d : Dev) :
    refSample t n x d =
      if 4 ≤ n ∨ d.getN Reg.TKP_REFn_CFG.SRC n = 0 then d
      else if refOutlier n x d then (d.setRef n (refDiscarded n x d)).sat Reg.TKP_REFn_STAT.DISCARD n
      else takeUtc t n x.utc (refShown n x d) := rfl

theorem utcWritten_refs (t : Time) (old d : Dev) : (utcWritten t old d).tkp.refs = d.tkp.refs := by
  unfold utcWritten
  dsimp only
  split <;> split <;> rfl

theorem utcWritten_regs (t : Time) (old d : Dev) : (utcWritten t old d).regs = d.regs := by
  unfold utcWritten
  dsimp only
  split <;> split <;> rfl

/-- UTC information changes no reference slot. -/
theorem takeUtc_ref (t : Time) (n : Nat) (u : Option UtcInfo) (d : Dev) (k : Nat) : (takeUtc t n u d).ref k = d.ref k := by
  have hrefs : (takeUtc t n u d).tkp.refs = d.tkp.refs := by
    unfold takeUtc
    cases u with
    | none => rfl
    | some x =>
      dsimp only
      split
      · rfl
      · exact utcWritten_refs t _ _
  simp only [Dev.ref, hrefs]

/-- UTC information changes no word but TKP_UTC. -/
theorem takeUtc_getN (t : Time) (n : Nat) (u : Option UtcInfo) (d : Dev) (f : Field) (i : Nat)
    (h : f.reg.addr i ≠ At.TKP_UTC.addr 0) : (takeUtc t n u d).getN f i = d.getN f i := by
  cases u with
  | none => rfl
  | some x =>
    unfold takeUtc
    dsimp only
    split
    · rfl
    · have hw (e : Dev) (g : Field) (hg : g.reg = At.TKP_UTC) (v : Nat) : (e.set g v).getN f i = e.getN f i :=
        Dev.getN_setN_addr e g f 0 i v (by rw [hg]; exact h)
      rw [Dev.getN, utcWritten_regs, ← Dev.getN, hw _ _ rfl, hw _ _ rfl, hw _ _ rfl]

theorem refShown_ref (n : Nat) (x : TimeSample) (d : Dev) (k : Nat) :
    (refShown n x d).ref k = if k = n then refAccepted n x d else d.ref k := tget_tset _ _ _ _

theorem refStat_addr (n : Nat) : At.TKP_REFn_STAT.addr n = 0x10110 + 0x20 * n := by
  simp [At.TKP_REFn_STAT, RegAt.addr, Nat.mod_one, Nat.mul_comm]

/-- The status of a slot is no word of the Logbook's intake. -/
theorem refStat_notIntake {n : Nat} (hn : n < 4) {f : Field} (hf : f.reg = At.TKP_REFn_STAT) :
    ¬ intakeWord (f.reg.addr n) := by
  rw [hf]
  interval_cases n <;> exact not_intakeWord (by decide)

theorem refShown_accept (n : Nat) (x : TimeSample) (d : Dev) :
    (refShown n x d).getN Reg.TKP_REFn_STAT.ACCEPT n = (d.getN Reg.TKP_REFn_STAT.ACCEPT n + 1) % 2 ^ 16 := by
  have haddr (r : RegAt) (b : Nat) (hr : r = ⟨b, 0x20, 4, 1, 0⟩) (hb : b ≠ 0x10110) :
      At.TKP_REFn_STAT.addr n ≠ r.addr n := by
    rw [refStat_addr, hr]
    simp only [RegAt.addr]
    omega
  unfold refShown Dev.wrapInc
  rw [Dev.getN_setN_same _ _ _ _ (by decide), Dev.getN_setN_addr _ _ _ _ _ _ (haddr _ 0x1010C rfl (by decide)),
    Dev.getN_setN_addr _ _ _ _ _ _ (haddr _ 0x10108 rfl (by decide)), Dev.setRef_getN]
  rfl

/-- Without a path step in it or a filtered figure beyond OUTLIER a sample is no outlier. -/
theorem refOutlier_false {n : Nat} {x : TimeSample} {d : Dev}
    (h : svState d ≠ svLocked ∨ d.get Reg.TKP_GATE.OUTLIER = 0 ∨ pathStep n x d ≠ none ∨
      ∀ f, refBase n d = some f → (refOffset n x d - f).natAbs ≤ d.get Reg.TKP_GATE.OUTLIER * 4) :
    refOutlier n x d = false := by
  unfold refOutlier
  rcases h with h | h | h | h
  · simp [h]
  · simp [h]
  · simp [Option.isNone_eq_false_iff.2 (Option.isSome_iff_ne_none.2 h)]
  · cases hb : refBase n d with
    | none => simp
    | some f => simp [Nat.not_lt.2 (h f hb)]

theorem refOutlier_true {n : Nat} {x : TimeSample} {d : Dev} {f : Int} (hl : svState d = svLocked)
    (ho : d.get Reg.TKP_GATE.OUTLIER ≠ 0) (hb : refBase n d = some f)
    (hf : d.get Reg.TKP_GATE.OUTLIER * 4 < (refOffset n x d - f).natAbs) (hp : pathStep n x d = none) :
    refOutlier n x d = true := by
  simp [refOutlier, hl, ho, hb, hf, hp]

theorem pathStep_some {n : Nat} {x : TimeSample} {d : Dev} {a b : Nat} (he : d.on Reg.TKP_CTRL.ASYM_EN = true)
    (ht : d.get Reg.TKP_ASYM.THR ≠ 0) (ha : x.rtd = some a) (hb : (d.ref n).filtRtd = some b)
    (hd : d.get Reg.TKP_ASYM.THR * 100 ≤ ((a : Int) - (b : Int)).natAbs) : pathStep n x d = some ((a : Int) - (b : Int)) := by
  simp [pathStep, ha, hb, he, ht, hd]

theorem pathStep_none {n : Nat} {x : TimeSample} {d : Dev}
    (h : d.on Reg.TKP_CTRL.ASYM_EN = false ∨ d.get Reg.TKP_ASYM.THR = 0 ∨ x.rtd = none ∨ (d.ref n).filtRtd = none ∨
      ∃ a b, x.rtd = some a ∧ (d.ref n).filtRtd = some b ∧
        ((a : Int) - (b : Int)).natAbs < d.get Reg.TKP_ASYM.THR * 100) : pathStep n x d = none := by
  unfold pathStep
  split
  case h_2 => rfl
  case h_1 a b ha hb =>
    refine if_neg fun hc => ?_
    simp only [Bool.and_eq_true, bne_iff_ne, ne_eq, decide_eq_true_eq] at hc
    obtain ⟨⟨he, ht⟩, hd⟩ := hc
    rcases h with h | h | h | h | ⟨a', b', ha', hb', hlt⟩
    · simp [h] at he
    · simp [h] at ht
    · simp [h] at ha
    · simp [h] at hb
    · rw [ha] at ha'
      rw [hb] at hb'
      cases ha'
      cases hb'
      omega

/-! ## What the servo's decisions keep (R46 to R51, R70 to R80, R664) -/

/-- The figures of a slot that an interval boundary clears. -/
def refSums (r : RefSt) : Nat × Int × Bool × Nat := (r.cnt, r.sumQ, r.heard, r.discarded)

/-- From `e` to `d` the servo keeps the frequency in use, its mode and interval and the sums of the slots, and clears no
cause. -/
structure Steered (e d : Dev) : Prop where
  freq : d.tkp.freq = e.tkp.freq
  mode : d.tkp.mode = e.tkp.mode
  lastUpd : d.tkp.lastUpd = e.tkp.lastUpd
  sums : ∀ n, refSums (d.ref n) = refSums (e.ref n)
  causes : ∀ k, bitOf (e.word intTkp.addr) k = true → bitOf (d.word intTkp.addr) k = true

variable {e d : Dev}

theorem Steered.refl (d : Dev) : Steered d d := ⟨rfl, rfl, rfl, fun _ => rfl, fun _ h => h⟩

theorem Steered.modTkp {g : Tkp → Tkp} (h : Steered e d)
    (hg : ∀ k, ((g k).freq, (g k).mode, (g k).lastUpd, (g k).refs) = (k.freq, k.mode, k.lastUpd, k.refs)) :
    Steered e (d.modTkp g) := by
  obtain ⟨hf, hm, hl, hr⟩ : _ ∧ _ ∧ _ ∧ _ := by simpa using hg d.tkp
  refine ⟨hf.trans h.freq, hm.trans h.mode, hl.trans h.lastUpd, fun n => ?_, h.causes⟩
  rw [← h.sums n]
  simp only [Dev.ref, Dev.modTkp_tkp, hr]

theorem Steered.setN {f : Field} {i v : Nat} (h : Steered e d) (hf : intTkp.addr ≠ f.reg.addr i) :
    Steered e (d.setN f i v) :=
  ⟨h.freq, h.mode, h.lastUpd, h.sums, fun k hk => by rw [Dev.word_setN _ _ _ _ _ hf]; exact h.causes k hk⟩

theorem Steered.set {f : Field} {v : Nat} (h : Steered e d) (hf : intTkp.addr ≠ f.reg.addr 0) : Steered e (d.set f v) :=
  h.setN hf

theorem Steered.setStat {f : Field} {n : Nat} {b : Bool} (h : Steered e d) (hf : f.reg = At.TKP_REFn_STAT) :
    Steered e (d.setB f n b) := h.setN (by
  rw [hf, refStat_addr, show intTkp.addr = 0x1005C from rfl]
  omega)

theorem Steered.cause {k i x : Nat} (h : Steered e d) : Steered e (d.cause intTkp k i x) := by
  refine ⟨?_, ?_, ?_, fun n => ?_, fun j hj => ?_⟩
  · rw [Dev.cause_tkp]; exact h.freq
  · rw [Dev.cause_tkp]; exact h.mode
  · rw [Dev.cause_tkp]; exact h.lastUpd
  · rw [Dev.cause_ref]; exact h.sums n
  · rw [Dev.cause_word, if_pos rfl]
    have hj' := h.causes j hj
    simp only [bitOf, BitVec.getLsbD_or] at hj' ⊢
    simp [hj']

theorem Steered.setRef {n : Nat} {r : RefSt} (h : Steered e d) (hr : refSums r = refSums (d.ref n)) :
    Steered e (d.setRef n r) := by
  refine ⟨h.freq, h.mode, h.lastUpd, fun k => ?_, h.causes⟩
  by_cases hk : k = n
  · rw [hk, Dev.setRef_same, hr, h.sums n]
  · rw [Dev.setRef_other _ hk]; exact h.sums k

theorem Steered.event {k i x y : Nat} (h : Steered e d) : Steered e (d.event k i x y) := ⟨h.freq, h.mode, h.lastUpd, h.sums, h.causes⟩

theorem Steered.draw (h : Steered e d) : Steered e d.draw.2 := ⟨h.freq, h.mode, h.lastUpd, h.sums, h.causes⟩

theorem Steered.foldl {β : Type} {f : Dev → β → Dev} (hf : ∀ b d, Steered e d → Steered e (f d b)) (l : List β)
    (h : Steered e d) : Steered e (l.foldl f d) := by
  induction l generalizing d with
  | nil => exact h
  | cons b l ih => exact ih (hf b d h)

theorem Steered.ite {c : Prop} [Decidable c] {a b : Dev} (ha : Steered e a) (hb : Steered e b) :
    Steered e (if c then a else b) := by
  split
  · exact ha
  · exact hb

theorem Steered.setSvState {t : Time} {x : Nat} (h : Steered e d) : Steered e (setSvState t x d) := by
  have h1 := h.set (f := Reg.TKP_STATUS.STATE) (v := x) (by decide)
  unfold Machine.setSvState
  exact .ite h (Steered.cause (.ite ((h1.modTkp (by intro; rfl)).set (by decide)) (h1.modTkp (by intro; rfl))))

theorem Steered.enterHoldover {t : Time} {avg : Bool} {x : Option Nat} (h : Steered e d) :
    Steered e (enterHoldover t avg x d) := by
  unfold Machine.enterHoldover
  exact .ite h (h.modTkp (by intro; rfl)).setSvState

theorem Steered.showRefs (h : Steered e d) : Steered e (showRefs d) :=
  (Steered.foldl (fun _ _ k => k.setStat rfl) _ h).set (by decide)

theorem Steered.setActive {n : Option Nat} (h : Steered e d) : Steered e (setActive n d) := by
  unfold Machine.setActive
  split
  · exact h.set (by decide)
  · refine Steered.set (Steered.set ?_ (by decide)) (by decide)
    split
    · exact .ite h (h.modTkp (by intro; rfl))
    · exact h

theorem Steered.setSuspect {n : Nat} {b : Bool} (h : Steered e d) : Steered e (setSuspect n b d) :=
  ((h.setStat rfl).set (by decide)).showRefs

theorem Steered.setCmps {l : List AsymCmp} (h : Steered e d) : Steered e (setCmps l d) :=
  (h.modTkp (by intro; rfl)).set (by decide)

theorem Steered.decideCmp {c : AsymCmp} (h : Steered e d) : Steered e (decideCmp c d) := by
  have hbase : Steered e (Machine.setCmps (d.tkp.cmp.filter fun x => x.stepped != c.stepped)
      (d.modTkp fun k => { k with asymErr := if c.onActive then 0 else k.asymErr })) :=
    Steered.setCmps (h.modTkp (by intro; rfl))
  have hact {x : Dev} (hx : Steered e x) : Steered e (if c.onActive then Machine.setActive (some c.second) x else x) :=
    .ite hx.setActive hx
  unfold Machine.decideCmp
  dsimp only
  refine .ite (.ite hbase.event.setActive hbase.event) (.ite (.ite hbase.event.setActive hbase.event)
    (.ite (.ite ?_ (hact hbase.event.setSuspect)) hbase.event))
  refine Steered.modTkp (Steered.setN (Steered.setRef ?_ rfl) ?_) (by intro; rfl)
  · split
    · exact (hact hbase.event.setSuspect).draw
    · exact hact hbase.event.setSuspect
  · simp only [At.TKP_REFn_ASYM, Reg.TKP_REFn_ASYM.CORR, RegAt.addr, intTkp]
    omega

theorem Steered.startCmp {t : Time} {n m : Nat} {ok : Bool} {dO : Int} (h : Steered e d) :
    Steered e (startCmp t n m ok dO d) := by
  unfold Machine.startCmp
  exact .ite h.decideCmp (Steered.setCmps (.ite (h.enterHoldover.modTkp (by intro; rfl)) h))

theorem Steered.rePick {n : Nat} (h : Steered e d) : Steered e (rePick n d) := h.setCmps

theorem Steered.beginCmp {t : Time} {n : Nat} {dO : Int} {x : Dev} (h : Steered e d) (hx : beginCmp t n dO d = some x) :
    Steered e x := by
  unfold Machine.beginCmp at hx
  dsimp only at hx
  have h1 : Steered e (if d.tkp.cmp.any fun c => c.second == n then Machine.rePick n d else d) := .ite h.rePick h
  split at hx
  · cases hx; exact h1
  · split at hx
    · cases hx; exact h1.startCmp
    · split at hx
      · cases hx; exact h1.startCmp
      · cases hx

theorem Steered.suspectStep {t : Time} {n : Nat} {dO : Int} (h : Steered e d) : Steered e (suspectStep t n dO d) := by
  unfold Machine.suspectStep
  dsimp only
  split
  case h_1 x hx => exact h.cause.beginCmp hx
  case h_2 => exact .ite h.cause.cause h.cause

theorem Steered.discardStep {t : Time} {n : Nat} (h : Steered e d) : Steered e (discardStep t n d) := by
  have h1 : Steered e (d.setRef n { d.ref n with filt := (d.ref n).mean, discRun := 0 }) := h.setRef rfl
  unfold Machine.discardStep
  dsimp only
  split
  · exact h
  · split
    case h_1 x hx => exact h1.beginCmp hx
    case h_2 => exact .ite h1.setSvState h1

theorem Steered.stepCmp {c : AsymCmp} (h : Steered e d) : Steered e (stepCmp d c) := by
  unfold Machine.stepCmp
  exact .ite h.decideCmp h.setCmps

theorem Steered.asymUpdate {t : Time} (h : Steered e d) : Steered e (asymUpdate t d) := by
  unfold Machine.asymUpdate
  refine Steered.foldl (fun c x hx => hx.stepCmp) _ (Steered.foldl (fun n x hx => ?_) _
    (Steered.foldl (fun n x hx => hx.setSuspect) _ (h.modTkp (by intro; rfl))))
  have hsteps : Steered e ((x.ref n).pathSteps.foldl (fun y p => if asymmetric p then Machine.suspectStep t n p.2 y else y)
      (x.setRef n { x.ref n with pathSteps := [] })) :=
    Steered.foldl (fun p y hy => .ite hy.suspectStep hy) _ (hx.setRef rfl)
  exact .ite hsteps.discardStep hsteps

/-- The servo's state upon a change of SERVO (Table ARC-6, R665). -/
def servoModeState (t : Time) (d : Dev) : Dev :=
  let d1 := if d.get Reg.GLB_SPLIT.SERVO = 0 ∧ svState d ≠ svFreerun then enterHoldover t false (errEst t d) d else d
  if d.tkp.mode = 2 ∧ d.get Reg.GLB_SPLIT.SERVO = 1 ∧ svState d1 = svHost then
    if (lowestValid d1 []).isSome then setSvState t svAcquire d1 else enterHoldover t true (errEst t d1) d1
  else d1

theorem servoMode_changed (t : Time) {d : Dev} (h : d.get Reg.GLB_SPLIT.SERVO ≠ d.tkp.mode) :
    servoMode t d = (servoModeState t d).modTkp fun k => { k with
      mode := d.get Reg.GLB_SPLIT.SERVO, hostLast := if d.get Reg.GLB_SPLIT.SERVO = 2 then t.ns else k.hostLast
      hostWait := d.get Reg.GLB_SPLIT.SERVO == 2 && d.tkp.mode == 0, tmoSeen := false
      integ := if d.get Reg.GLB_SPLIT.SERVO = 1 then -k.freq * 2 ^ 32 else k.integ } := if_neg h

theorem Steered.servoModeState {t : Time} (h : Steered e d) : Steered e (servoModeState t d) := by
  have h1 : Steered e (if d.get Reg.GLB_SPLIT.SERVO = 0 ∧ svState d ≠ svFreerun then
      Machine.enterHoldover t false (errEst t d) d else d) := .ite h.enterHoldover h
  unfold Machine.servoModeState
  exact .ite (.ite h1.setSvState h1.enterHoldover) h1

theorem Steered.servoFollow {t : Time} (h : Steered e d) : Steered e (servoFollow t d) := by
  have h1 (keep : Bool) : Steered e (if keep then d else Machine.setActive (lowestValid d []) d) := .ite h h.setActive
  unfold Machine.servoFollow
  refine .ite h (.ite (h1 _) ?_)
  split
  · exact .ite (h1 _).enterHoldover (h1 _).setSvState
  · exact .ite (h1 _).setSvState (.ite (.ite (h1 _).setSvState (h1 _).setSvState) (h1 _))

theorem Steered.lockCount {t : Time} {o : Int} (h : Steered e d) : Steered e (lockCount t o d) := by
  unfold Machine.lockCount
  dsimp only
  exact .ite (.ite h.setSvState (h.modTkp (by intro; rfl))) (.ite (.ite h.setSvState (h.modTkp (by intro; rfl))) h)

theorem Steered.servoSteer {n : Nat} {o : Int} (h : Steered e d) : Steered e (servoSteer n o d) := by
  unfold Machine.servoSteer
  exact .ite ((h.modTkp (by intro; rfl)).setRef rfl) (.ite (h.modTkp (by intro; rfl)).cause (h.modTkp (by intro; rfl)))

/-! ## The boundary of an interval (R47, R664) -/

/-- With the hardware servo in ACQUIRE or LOCKED the loop runs on the active reference. -/
def servoRegulate (t : Time) (d : Dev) : Dev :=
  match activeRef d with
  | some n =>
    match (d.ref n).mean with
    | some o => if d.tkp.mode = 1 ∧ (svState d = svAcquire ∨ svState d = svLocked) then servoLoop t n o d else d
    | none => d
  | none => d

theorem Steered.servoRegulate {t : Time} (h : Steered e d) : Steered e (servoRegulate t d) := by
  unfold Machine.servoRegulate
  split
  · split
    · exact .ite h.servoSteer.lockCount h
    · exact h
  · exact h

/-- The device with the interval of every slot closed. -/
def servoClosed (t : Time) (d : Dev) : Dev :=
  showRefs ((List.range 4).foldl closeSlot
    ((d.modTkp fun k => { k with lastUpd := servoIndex d t.ns }).cause intTkp 1 0 0))

theorem servoUpdate_due {t : Time} {d : Dev} (h : d.tkp.lastUpd < servoIndex d t.ns) :
    servoUpdate t d = servoRegulate t (servoFollow t (asymUpdate t (servoMode t (servoClosed t d)))) := by
  obtain ⟨x, hx⟩ : ∃ x, x = servoFollow t (asymUpdate t (servoMode t (servoClosed t d))) := ⟨_, rfl⟩
  have hx' := hx
  unfold servoClosed at hx'
  simp only [servoUpdate, if_neg (Nat.not_le.2 h), servoRegulate, ← hx, ← hx'] <;>
    (cases activeRef x with
      | none => rfl
      | some n => cases hm : (x.ref n).mean <;> simp only [hm])

theorem servoUpdate_early {t : Time} {d : Dev} (h : servoIndex d t.ns ≤ d.tkp.lastUpd) : servoUpdate t d = d := if_pos h
/-- A slot with a source is cleared, and its loss may be shown. -/
theorem closeSlot_sourced {d : Dev} {n : Nat} (hs : d.getN Reg.TKP_REFn_CFG.SRC n ≠ 0) :
    ∃ r, refSums r = (0, 0, false, 0) ∧
      (closeSlot d n = (d.setRef n r).cause intTkp 2 n 0 ∨ closeSlot d n = d.setRef n r) := by
  unfold closeSlot
  rw [if_neg hs]
  refine ⟨_, ?_, ite_eq_or_eq _ _ _⟩
  rfl

theorem closeSlot_empty {d : Dev} {n : Nat} (hs : d.getN Reg.TKP_REFn_CFG.SRC n = 0) : closeSlot d n = d := if_pos hs

/-- Closing a slot clears the sums of a slot with a source, and of no other. -/
theorem closeSlot_sums (d : Dev) (n k : Nat) :
    refSums ((closeSlot d n).ref k) =
      if k = n ∧ d.getN Reg.TKP_REFn_CFG.SRC n ≠ 0 then (0, 0, false, 0) else refSums (d.ref k) := by
  by_cases hs : d.getN Reg.TKP_REFn_CFG.SRC n = 0
  · simp [closeSlot_empty hs, hs]
  · obtain ⟨r, hr, hc⟩ := closeSlot_sourced hs
    have href : (closeSlot d n).ref k = (d.setRef n r).ref k := by
      rcases hc with hc | hc
      · rw [hc, Dev.cause_ref]
      · rw [hc]
    rw [href]
    by_cases hk : k = n
    · simp [hk, hs, hr]
    · simp [hk, Dev.setRef_other]

theorem closeSlot_word (d : Dev) (n a : Nat) (ha : a ≠ intTkp.addr) : (closeSlot d n).word a = d.word a := by
  by_cases hs : d.getN Reg.TKP_REFn_CFG.SRC n = 0
  · rw [closeSlot_empty hs]
  · obtain ⟨r, -, hc | hc⟩ := closeSlot_sourced hs
    · rw [hc, Dev.cause_word_other _ _ _ _ _ ha]; rfl
    · rw [hc]; rfl

/-- What closing a slot keeps beside the sums. -/
theorem closeSlot_keeps (d : Dev) (n : Nat) :
    (closeSlot d n).tkp.freq = d.tkp.freq ∧ (closeSlot d n).tkp.lastUpd = d.tkp.lastUpd ∧
      ∀ k, bitOf (d.word intTkp.addr) k = true → bitOf ((closeSlot d n).word intTkp.addr) k = true := by
  by_cases hs : d.getN Reg.TKP_REFn_CFG.SRC n = 0
  · rw [closeSlot_empty hs]
    exact ⟨rfl, rfl, fun _ h => h⟩
  · obtain ⟨r, -, hc | hc⟩ := closeSlot_sourced hs
    · rw [hc, Dev.cause_tkp]
      exact ⟨rfl, rfl, fun k h => (Steered.refl (d.setRef n r)).cause.causes k h⟩
    · rw [hc]
      exact ⟨rfl, rfl, fun _ h => h⟩

theorem getN_of_word {d e : Dev} {f : Field} {i : Nat} (h : d.word (f.reg.addr i) = e.word (f.reg.addr i)) :
    d.getN f i = e.getN f i := by
  simp only [Dev.word] at h
  simp [Dev.getN, fget, h]

theorem refSrc_addr (n : Nat) : Reg.TKP_REFn_CFG.SRC.reg.addr n ≠ intTkp.addr := by
  simp only [Reg.TKP_REFn_CFG.SRC, At.TKP_REFn_CFG, RegAt.addr, intTkp]
  omega

theorem closeSlots_sums (l : List Nat) (d : Dev) {n : Nat} (hs : d.getN Reg.TKP_REFn_CFG.SRC n ≠ 0)
    (h : n ∈ l ∨ refSums (d.ref n) = (0, 0, false, 0)) : refSums ((l.foldl closeSlot d).ref n) = (0, 0, false, 0) := by
  induction l generalizing d with
  | nil => simpa using h
  | cons m l ih =>
    refine ih _ ?_ ?_
    · rwa [getN_of_word (closeSlot_word d m _ (refSrc_addr n))]
    · by_cases hm : n = m
      · exact .inr (by rw [closeSlot_sums, if_pos ⟨hm, hm ▸ hs⟩])
      · rw [closeSlot_sums, if_neg fun hc => hm hc.1]
        rcases h with h | h
        · exact .inl ((List.mem_cons.1 h).resolve_left hm)
        · exact .inr h

theorem showRefs_word (d : Dev) {a : Nat} (ha : a < 0x10100) (hs : a ≠ At.TKP_STATUS.addr 0) :
    (showRefs d).word a = d.word a := by
  have hfold : Dev.word ((List.range 4).foldl (fun x n => x.setB Reg.TKP_REFn_STAT.VALID n (refValid d n)) d) a = d.word a :=
    foldl_keeps (fun x => x.word a) _ (fun x n => Dev.word_setN _ _ _ _ _ (by
      rw [show Reg.TKP_REFn_STAT.VALID.reg = At.TKP_REFn_STAT from rfl, refStat_addr]
      omega)) _ d
  unfold showRefs
  rw [Dev.word_set _ _ _ _ hs, hfold]

/-- With every interval closed the update is counted and shown, and the sums of the slots are clear. -/
theorem servoClosed_leaves (t : Time) (d : Dev) :
    (servoClosed t d).tkp.freq = d.tkp.freq ∧ (servoClosed t d).tkp.lastUpd = servoIndex d t.ns ∧
      bitOf ((servoClosed t d).word intTkp.addr) 1 = true ∧
      (servoClosed t d).get Reg.GLB_SPLIT.SERVO = d.get Reg.GLB_SPLIT.SERVO ∧
      ∀ n < 4, d.getN Reg.TKP_REFn_CFG.SRC n ≠ 0 → refSums ((servoClosed t d).ref n) = (0, 0, false, 0) := by
  obtain ⟨x, hx⟩ : ∃ x, x = (d.modTkp fun k => { k with lastUpd := servoIndex d t.ns }).cause intTkp 1 0 0 := ⟨_, rfl⟩
  obtain ⟨y, hy⟩ : ∃ y, y = (List.range 4).foldl closeSlot x := ⟨_, rfl⟩
  have hz : servoClosed t d = showRefs y := by rw [hy, hx]; rfl
  have hword (a : Nat) (ha : a ≠ intTkp.addr) : y.word a = d.word a := by
    rw [hy, foldl_keeps (fun x => x.word a) _ (fun x n => closeSlot_word x n a ha), hx, Dev.cause_word_other _ _ _ _ _ ha]
    rfl
  have hshow := (Steered.refl y).showRefs
  rw [hz]
  refine ⟨?_, ?_, ?_, ?_, fun n hn hs => ?_⟩
  · rw [hshow.freq, hy, foldl_keeps (fun x => x.tkp.freq) _ (fun x n => (closeSlot_keeps x n).1), hx, Dev.cause_tkp]
    rfl
  · rw [hshow.lastUpd, hy, foldl_keeps (fun x => x.tkp.lastUpd) _ (fun x n => (closeSlot_keeps x n).2.1), hx, Dev.cause_tkp]
    rfl
  · refine hshow.causes 1 ?_
    have hbit (l : List Nat) (z : Dev) (h : bitOf (z.word intTkp.addr) 1 = true) :
        bitOf ((l.foldl closeSlot z).word intTkp.addr) 1 = true := by
      induction l generalizing z with
      | nil => exact h
      | cons n l ih => exact ih _ ((closeSlot_keeps z n).2.2 1 h)
    rw [hy]
    exact hbit _ _ (hx ▸ Dev.cause_sets _ _ _ _ _ (by decide))
  · exact getN_of_word ((showRefs_word y (by decide) (by decide)).trans (hword _ (by decide)))
  · rw [hshow.sums, hy]
    refine closeSlots_sums _ _ ?_ (.inl (List.mem_range.2 hn))
    rw [hx, Dev.cause_getN _ _ _ _ _ _ _ (refSrc_addr n)]
    exact hs

/-- The change of mode keeps the rest, and the mode follows GLB_SPLIT.SERVO. -/
theorem servoMode_leaves (t : Time) (d : Dev) :
    (servoMode t d).tkp.freq = d.tkp.freq ∧ (servoMode t d).tkp.lastUpd = d.tkp.lastUpd ∧
      (servoMode t d).tkp.mode = d.get Reg.GLB_SPLIT.SERVO ∧ (∀ n, refSums ((servoMode t d).ref n) = refSums (d.ref n)) ∧
      ∀ k, bitOf (d.word intTkp.addr) k = true → bitOf ((servoMode t d).word intTkp.addr) k = true := by
  by_cases h : d.get Reg.GLB_SPLIT.SERVO = d.tkp.mode
  · rw [show servoMode t d = d from if_pos h]
    exact ⟨rfl, rfl, h.symm, fun _ => rfl, fun _ h => h⟩
  · obtain ⟨hfreq, -, hupd, hsums, hcauses⟩ := (Steered.refl d).servoModeState (t := t)
    rw [servoMode_changed t h]
    exact ⟨hfreq, hupd, rfl, hsums, hcauses⟩

theorem tame_servoUpdate (t : Time) (d : Dev) : Tame [.tkp, .free] d (servoUpdate t d) :=
  @Tame.servoUpdate _ d d t (.refl _ _) ⟨by decide⟩ ⟨by decide⟩

/-- Settles O21: a sample by the cases of the outlier test, a boundary by what its steps keep. -/
theorem references : Obligations.References := by
  unfold Obligations.References
  refine ⟨⟨?_, ?_, ?_⟩, ?_, ?_⟩
  · intro s n x hr hn hs hout
    have hno : refOutlier n x s.dev = false := by
      refine refOutlier_false ?_
      rcases hout with h | h | ⟨he, ht, a, b, ha, hb, hd⟩ | h
      · exact .inl h
      · exact .inr (.inl h)
      · exact .inr (.inr (.inl (by rw [pathStep_some he ht ha hb hd]; exact Option.some_ne_none _)))
      · exact .inr (.inr (.inr h))
    have hsample : refSample s.time n x s.dev = takeUtc s.time n x.utc (refShown n x s.dev) := by
      rw [refSample_cases, if_neg (by omega), if_neg (by simp [hno])]
    have href (k : Nat) : Dev.ref (s.after (takeUtc s.time n x.utc (refShown n x s.dev))).dev k =
        if k = n then refAccepted n x s.dev else s.dev.ref k := by
      rw [Dev.ref, after_tkp, ← Dev.ref, takeUtc_ref, refShown_ref]
    rw [exec_referenceSample, if_pos hr, hsample]
    refine ⟨_, rfl, ?_, ?_, ?_, ?_, ?_, ?_, fun k hk => ?_, rfl⟩
    · rw [href, if_pos rfl]; rfl
    · rw [href, if_pos rfl]; rfl
    · rw [href, if_pos rfl]; rfl
    · rw [href, if_pos rfl]; rfl
    · rw [href, if_pos rfl]; rfl
    · have ha : Reg.TKP_REFn_STAT.ACCEPT.reg.addr n ≠ At.TKP_UTC.addr 0 := by
        rw [show Reg.TKP_REFn_STAT.ACCEPT.reg = At.TKP_REFn_STAT from rfl, refStat_addr]
        simp only [At.TKP_UTC, RegAt.addr]
        omega
      rw [after_getN _ _ _ _ (refStat_notIntake hn rfl), takeUtc_getN _ _ _ _ _ _ ha,
        refShown_accept]
    · rw [href, if_neg hk]
  · intro s n x f hr hn hs hl ho hb hf hp
    have hyes : refOutlier n x s.dev = true := refOutlier_true hl ho hb hf (pathStep_none hp)
    have hsample : refSample s.time n x s.dev =
        (s.dev.setRef n (refDiscarded n x s.dev)).sat Reg.TKP_REFn_STAT.DISCARD n := by
      rw [refSample_cases, if_neg (by omega), if_pos hyes]
    have href (k : Nat) : Dev.ref (s.after ((s.dev.setRef n (refDiscarded n x s.dev)).sat Reg.TKP_REFn_STAT.DISCARD n)).dev k =
        if k = n then refDiscarded n x s.dev else s.dev.ref k := by
      rw [Dev.ref, after_tkp]
      exact tget_tset _ _ _ _
    rw [exec_referenceSample, if_pos hr, hsample]
    refine ⟨_, rfl, ?_, ?_, ?_, ?_, ?_, fun k hk => ?_, rfl⟩
    · rw [href, if_pos rfl]; rfl
    · rw [href, if_pos rfl]; rfl
    · rw [href, if_pos rfl]; rfl
    · rw [href, if_pos rfl]; rfl
    · rw [after_getN _ _ _ _ (refStat_notIntake hn rfl), Dev.sat, Dev.addSat,
        Dev.getN_setN_same _ _ _ _ (by decide), Dev.setRef_getN]
      exact Nat.mod_eq_of_lt (Nat.lt_of_le_of_lt (Nat.min_le_right _ _) (by decide))
    · rw [href, if_neg hk]
  · intro s n x h
    by_cases hr : s.dev.pwr.released = true
    · rw [exec_referenceSample, if_pos hr, refSample_cases, if_pos]
      rcases h with h | h | h
      · exact .inr h
      · exact .inl h
      · simp [hr] at h
    · rw [exec_referenceSample, if_neg hr]
  · intro s h
    by_cases hr : s.dev.pwr.released = true
    · rw [exec_servoUpdate, if_pos hr, servoUpdate_early (h.resolve_right (by simp [hr]))]
    · rw [exec_servoUpdate, if_neg hr]
  · intro s hr hdue
    have htame := tame_servoUpdate s.time s.dev
    obtain ⟨hcf, hcu, hcb, hcs, hcr⟩ := servoClosed_leaves s.time s.dev
    obtain ⟨hmf, hmu, hmm, hmr, hmb⟩ := servoMode_leaves s.time (servoClosed s.time s.dev)
    have hst : Steered (servoMode s.time (servoClosed s.time s.dev)) (servoUpdate s.time s.dev) := by
      rw [servoUpdate_due hdue]
      exact (Steered.refl _).asymUpdate.servoFollow.servoRegulate
    rw [exec_servoUpdate, if_pos hr]
    refine ⟨_, rfl, ?_, ?_, ?_, rfl, fun n hn hs => ?_, ?_, ?_, ?_⟩
    · rw [after_tkp, hst.lastUpd, hmu, hcu]
    · rw [after_word _ _ _ (not_intakeWord (by decide))]
      exact hst.causes _ (hmb _ hcb)
    · rw [after_tkp, hst.mode, hmm, hcs]
    · have hsums : refSums (Dev.ref (s.after (servoUpdate s.time s.dev)).dev n) = (0, 0, false, 0) := by
        rw [Dev.ref, after_tkp, ← Dev.ref, hst.sums, hmr, hcr n hn hs]
      simpa [refSums] using hsums
    · rw [after_tkp, hst.freq, hmf, hcf]
    · rw [after_rings]
      exact (congrArg Hif.rings (htame.stands .hif (by decide)) :)
    · rw [after_ports]
      exact htame.stands .ports (by decide)

end Sys2Proof.Machine

/-!
PROOFS. Timing signals: 1PPS and IRIG-B in, leap seconds, 1PPS out (R58 to R62, R88 to R91).
-/

namespace Sys2Proof.Machine

open Sys2Proof

/-! ## What the commands mean -/

theorem exec_irigFrame (f : IrigFrame) (s : State) :
    exec (.irigFrame f) s = .next (s.after (irigFrame s.time f s.dev)) := rfl

theorem exec_leapOccExpire (s : State) : exec .leapOccExpire s = .next (s.after (leapOccExpire s.time s.dev)) := rfl

theorem exec_leapSecond (s : State) : exec .leapSecond s = .next (s.after (leapSecond s.time s.dev)) := rfl

theorem exec_ppsOutput (s : State) : exec .ppsOutput s = .next (s.after (ppsOutput s.time s.dev)) := rfl

theorem exec_ppsPulseEnd (s : State) : exec .ppsPulseEnd s = .next (s.after (ppsPulseEnd s.time s.dev)) := rfl

theorem exec_tinPpsEdge (falling : Bool) (q : Nat) (s : State) :
    exec (.tinPpsEdge falling q) s = .next (s.after (tinEdge s.time falling q s.dev)) := rfl

/-! ## What a sample leaves alone -/

theorem utcWritten_tin (t : Time) (old d : Dev) : (utcWritten t old d).tkp.tin = d.tkp.tin := by
  unfold utcWritten
  dsimp only
  split <;> split <;> rfl

theorem takeUtc_tin (t : Time) (n : Nat) (u : Option UtcInfo) (d : Dev) : (takeUtc t n u d).tkp.tin = d.tkp.tin := by
  unfold takeUtc
  cases u with
  | none => rfl
  | some x =>
    dsimp only
    split
    · rfl
    · exact utcWritten_tin t _ _

/-- A sample of a reference changes nothing of the TIN inputs. -/
theorem refSample_tin (t : Time) (n : Nat) (x : TimeSample) (d : Dev) : (refSample t n x d).tkp.tin = d.tkp.tin := by
  rw [refSample_cases]
  split_ifs
  · rfl
  · rfl
  · exact takeUtc_tin _ _ _ _

/-- A sample of a reference writes its slot's words and TKP_UTC alone. -/
theorem refSample_getN (t : Time) (n : Nat) (x : TimeSample) (d : Dev) (f : Field) (i : Nat) (hb : f.reg.addr i < 0x10100)
    (hu : f.reg.addr i ≠ At.TKP_UTC.addr 0) : (refSample t n x d).getN f i = d.getN f i := by
  have hslot (r : RegAt) (b : Nat) (hr : r = ⟨b, 0x20, 4, 1, 0⟩) (hb' : 0x10100 ≤ b) : f.reg.addr i ≠ r.addr n := by
    have hge : b ≤ r.addr n := by
      rw [hr]
      simp only [RegAt.addr]
      omega
    omega
  rw [refSample_cases]
  split_ifs
  · rfl
  · unfold Dev.sat Dev.addSat
    rw [Dev.getN_setN_addr _ _ _ _ _ _ (hslot _ 0x10110 rfl (by decide)), Dev.setRef_getN]
  · rw [takeUtc_getN _ _ _ _ _ _ hu]
    unfold refShown Dev.wrapInc
    rw [Dev.getN_setN_addr _ _ _ _ _ _ (hslot _ 0x10110 rfl (by decide)),
      Dev.getN_setN_addr _ _ _ _ _ _ (hslot _ 0x1010C rfl (by decide)),
      Dev.getN_setN_addr _ _ _ _ _ _ (hslot _ 0x10108 rfl (by decide)), Dev.setRef_getN]

/-- A labelled edge is a sample of the TIN reference, or nothing. -/
theorem tinSample_cases (t : Time) (stamp : Nat) (sec : Int) (extra : Nat) (d : Dev) :
    tinSample t stamp sec extra d = d ∨ ∃ n x, tinSample t stamp sec extra d = refSample t n x d := by
  unfold tinSample
  split
  · exact .inl rfl
  · dsimp only
    split
    · exact .inl rfl
    · exact .inr ⟨_, _, rfl⟩

theorem tinSample_tin (t : Time) (stamp : Nat) (sec : Int) (extra : Nat) (d : Dev) :
    (tinSample t stamp sec extra d).tkp.tin = d.tkp.tin := by
  obtain h | ⟨n, x, h⟩ := tinSample_cases t stamp sec extra d
  · rw [h]
  · rw [h, refSample_tin]

theorem tinSample_getN (t : Time) (stamp : Nat) (sec : Int) (extra : Nat) (d : Dev) (f : Field) (i : Nat)
    (hb : f.reg.addr i < 0x10100) (hu : f.reg.addr i ≠ At.TKP_UTC.addr 0) :
    (tinSample t stamp sec extra d).getN f i = d.getN f i := by
  obtain h | ⟨n, x, h⟩ := tinSample_cases t stamp sec extra d
  · rw [h]
  · rw [h, refSample_getN t n x d f i hb hu]

theorem showRefs_tkp (d : Dev) : (showRefs d).tkp = d.tkp := by
  have h : ((List.range 4).foldl (fun x n => x.setB Reg.TKP_REFn_STAT.VALID n (refValid d n)) d).tkp = d.tkp :=
    foldl_keeps Dev.tkp (fun (x : Dev) n => x.setB Reg.TKP_REFn_STAT.VALID n (refValid d n)) (fun _ _ => rfl) _ d
  rw [← h]
  rfl

/-! ## Edges of 1PPS (R58, R60, R63) -/

/-- The instant of an edge, less the delay of the input. -/
def edgeStamp (t : Time) (q : Nat) (d : Dev) : Nat :=
  ((t.qns + q % 16 : Nat) - sint 16 (d.get Reg.TKP_TIN.PPS_DLY) * 4).toNat

/-- The device with the last edge noted. -/
def edgeNoted (stamp : Nat) (d : Dev) : Dev := d.modTkp fun k => { k with tin := { k.tin with lastEdge := some stamp } }

/-- An edge on which no frame waits that it fits is noted; without IRIG-B it may be labelled with the nearest second. -/
def edgeTaken (t : Time) (stamp : Nat) (d : Dev) : Dev :=
  if d.on Reg.TKP_TIN.IRIG_EN then
    match d.tkp.tin.label with
    | some (sec, mark) =>
      if distQ stamp mark ≤ 20000 then
        tinSample t stamp sec 0 ((edgeNoted stamp d).modTkp fun k => { k with tin := { k.tin with label := none } })
      else edgeNoted stamp d
    | none => edgeNoted stamp d
  else if d.on Reg.TKP_TIN.LABEL_NEAREST then
    tinSample t stamp ((stamp + 2000000000) / 4000000000 : Nat) 0 (edgeNoted stamp d)
  else edgeNoted stamp d

theorem tinEdge_off {t : Time} {fall : Bool} {q : Nat} {d : Dev}
    (h : d.on Reg.TKP_TIN.PPS_EN = false ∨ d.on Reg.TKP_TIN.PPS_FALL = !fall) : tinEdge t fall q d = d := by
  refine if_pos ?_
  rcases h with h | h
  · simp [h]
  · cases fall <;> simp [h]

/-- An edge is good if it is the first one or follows the last one by a second within 10 µs. -/
def edgeGood (stamp : Nat) (d : Dev) : Bool :=
  match d.tkp.tin.lastEdge with
  | none => true
  | some e => decide (distQ stamp (e + 4000000000) ≤ 40000)

theorem tinEdge_on {t : Time} {fall : Bool} {q : Nat} {d : Dev} (he : d.on Reg.TKP_TIN.PPS_EN = true)
    (hf : d.on Reg.TKP_TIN.PPS_FALL = fall) :
    tinEdge t fall q d =
      if edgeGood (edgeStamp t q d) d then edgeTaken t (edgeStamp t q d) d else tinBad Reg.TKP_TIN_CNT.BAD_PPS d := by
  unfold tinEdge
  rw [if_neg (by simp [he, hf])]
  cases hg : edgeGood (edgeStamp t q d) d with
  | false => exact if_pos (congrArg not hg)
  | true => exact if_neg (Bool.eq_false_iff.1 (show (!edgeGood (edgeStamp t q d) d) = false from congrArg not hg))

theorem tinEdge_bad {t : Time} {fall : Bool} {q e : Nat} {d : Dev} (he : d.on Reg.TKP_TIN.PPS_EN = true)
    (hf : d.on Reg.TKP_TIN.PPS_FALL = fall) (hl : d.tkp.tin.lastEdge = some e)
    (hd : 40000 < distQ (edgeStamp t q d) (e + 4000000000)) :
    tinEdge t fall q d = tinBad Reg.TKP_TIN_CNT.BAD_PPS d := by
  rw [tinEdge_on he hf, if_neg]
  simp [edgeGood, hl, hd]

theorem tinEdge_good {t : Time} {fall : Bool} {q : Nat} {d : Dev} (he : d.on Reg.TKP_TIN.PPS_EN = true)
    (hf : d.on Reg.TKP_TIN.PPS_FALL = fall)
    (hg : ∀ e, d.tkp.tin.lastEdge = some e → distQ (edgeStamp t q d) (e + 4000000000) ≤ 40000) :
    tinEdge t fall q d = edgeTaken t (edgeStamp t q d) d := by
  rw [tinEdge_on he hf, if_pos]
  unfold edgeGood
  cases hl : d.tkp.tin.lastEdge with
  | none => rfl
  | some e => exact decide_eq_true (hg e hl)

/-- A good edge becomes the last one, and counts as no bad one. -/
theorem edgeTaken_leaves (t : Time) (stamp : Nat) (d : Dev) :
    (edgeTaken t stamp d).tkp.tin.lastEdge = some stamp ∧
      (edgeTaken t stamp d).get Reg.TKP_TIN_CNT.BAD_PPS = d.get Reg.TKP_TIN_CNT.BAD_PPS := by
  have hcnt (sec : Int) (x : Dev) : (tinSample t stamp sec 0 x).get Reg.TKP_TIN_CNT.BAD_PPS =
      x.get Reg.TKP_TIN_CNT.BAD_PPS := tinSample_getN _ _ _ _ _ _ _ (by decide) (by decide)
  unfold edgeTaken
  split
  · split
    · split
      · rw [tinSample_tin, hcnt]; exact ⟨rfl, rfl⟩
      · exact ⟨rfl, rfl⟩
    · exact ⟨rfl, rfl⟩
  · split
    · rw [tinSample_tin, hcnt]; exact ⟨rfl, rfl⟩
    · exact ⟨rfl, rfl⟩

/-! ## IRIG-B frames (R60 to R62) -/

/-- The device with a frame's label noted. -/
def labelNoted (l : Int) (d : Dev) : Dev := d.modTkp fun k => { k with tin := { k.tin with lastLabel := some l } }

/-- The device with the extension of a good frame taken. -/
def irigTaken (t : Time) (f : IrigFrame) (d : Dev) : Dev :=
  showRefs ((labelNoted (irigLabel t d f) d).modTkp fun k => { k with tin := { k.tin with
    extQ := (if d.on Reg.TKP_TIN.IRIG_EXT then f.ext else none).map (·.tq)
    utc := (if d.on Reg.TKP_TIN.IRIG_EXT then f.ext else none).map (irigInfo d) } })

/-- The device with a label that waits for its edge. -/
def irigHeld (t : Time) (f : IrigFrame) (d : Dev) : Dev :=
  (irigTaken t f d).modTkp fun k => { k with tin := { k.tin with label := some ((irigLabel t d f).toNat, t.qns - f.agoQ) } }

theorem irigFrame_off {t : Time} {f : IrigFrame} {d : Dev} (h : d.on Reg.TKP_TIN.IRIG_EN = false) : irigFrame t f d = d :=
  if_pos (by simp [h])

theorem irigFrame_parity {t : Time} {f : IrigFrame} {d : Dev} (h : d.on Reg.TKP_TIN.IRIG_EN = true)
    (hp : f.parityOk = false) : irigFrame t f d = tinBad Reg.TKP_TIN_CNT.BAD_IRIG d := by
  simp [irigFrame, h, hp]

theorem irigFrame_jump {t : Time} {f : IrigFrame} {d : Dev} {l : Int} (h : d.on Reg.TKP_TIN.IRIG_EN = true)
    (hp : f.parityOk = true) (hl : d.tkp.tin.lastLabel = some l) (hs : irigLabel t d f ≠ l + 1) :
    irigFrame t f d = tinBad Reg.TKP_TIN_CNT.BAD_IRIG (labelNoted (irigLabel t d f) d) := by
  simp [irigFrame, h, hp, hl, hs, labelNoted]

/-- A frame follows the frame before it, if there is one. -/
def irigFollows (t : Time) (f : IrigFrame) (d : Dev) : Bool :=
  match d.tkp.tin.lastLabel with
  | none => true
  | some l => irigLabel t d f == l + 1

/-- A good frame labels its own mark, the edge close to it, or an edge to come. -/
theorem irigFrame_good {t : Time} {f : IrigFrame} {d : Dev} (h : d.on Reg.TKP_TIN.IRIG_EN = true) (hp : f.parityOk = true)
    (hl : ∀ l, d.tkp.tin.lastLabel = some l → irigLabel t d f = l + 1) :
    irigFrame t f d =
      if d.on Reg.TKP_TIN.PPS_EN = false then tinSample t (t.qns - f.agoQ) (irigLabel t d f) 100 (irigTaken t f d)
      else match d.tkp.tin.lastEdge with
        | some e => if distQ e (t.qns - f.agoQ) ≤ 20000 then tinSample t e (irigLabel t d f) 0 (irigTaken t f d)
          else irigHeld t f d
        | none => irigHeld t f d := by
  have hseq : irigFollows t f d = true := by
    unfold irigFollows
    cases hx : d.tkp.tin.lastLabel with
    | none => rfl
    | some l => exact beq_iff_eq.2 (hl l hx)
  unfold irigFrame
  rw [if_neg (by simp [h]), if_neg (by simp [hp])]
  refine (if_neg (Bool.eq_false_iff.1 (show (!irigFollows t f d) = false from congrArg not hseq))).trans ?_
  cases d.on Reg.TKP_TIN.PPS_EN with
  | false => rfl
  | true => cases d.tkp.tin.lastEdge <;> rfl

theorem irigTaken_tkp (t : Time) (f : IrigFrame) (d : Dev) :
    (irigTaken t f d).tkp.tin.lastLabel = some (irigLabel t d f) ∧ (irigTaken t f d).tkp.refs = d.tkp.refs := by
  rw [irigTaken, showRefs_tkp]
  exact ⟨rfl, rfl⟩

theorem irigFrame_lastLabel {t : Time} {f : IrigFrame} {d : Dev} (h : d.on Reg.TKP_TIN.IRIG_EN = true)
    (hp : f.parityOk = true) : (irigFrame t f d).tkp.tin.lastLabel = some (irigLabel t d f) := by
  by_cases hl : ∀ l, d.tkp.tin.lastLabel = some l → irigLabel t d f = l + 1
  · have htaken := (irigTaken_tkp t f d).1
    rw [irigFrame_good h hp hl]
    split
    · rw [tinSample_tin, htaken]
    · split
      · split
        · rw [tinSample_tin, htaken]
        · exact htaken
      · exact htaken
  · push Not at hl
    obtain ⟨l, hl, hne⟩ := hl
    rw [irigFrame_jump h hp hl hne, tinBad, Dev.cause_tkp]
    rfl

/-! ## Leap seconds and 1PPS out (R88 to R91) -/

/-- The device after a leap (R89). -/
def leapTaken (t : Time) (d : Dev) : Dev :=
  ((((d.set Reg.TKP_UTC.UTC_OFS (if d.on Reg.TKP_UTC.LEAP_DIR then d.get Reg.TKP_UTC.UTC_OFS + 2 ^ 16 - 1
      else d.get Reg.TKP_UTC.UTC_OFS + 1)).set Reg.TKP_UTC.LEAP_PEND 0).set Reg.TKP_UTC.LEAP_OCC 1).cause intTkp 9 0 0).modTkp
    fun k => { k with
      leapAt := some t.ns, twin := if d.on Reg.TKP_UTC.LEAP_DIR then k.twin else some (leapDue d).toNat
      lastLeap := some ((leapDue d).toNat, if d.on Reg.TKP_UTC.LEAP_DIR then -1 else 1) }

theorem leapSecond_due {t : Time} {d : Dev} (hp : d.on Reg.TKP_UTC.LEAP_PEND = true) (hd : leapDue d ≤ t.sec) :
    leapSecond t d = leapTaken t d := if_pos ⟨hp, hd⟩

theorem leapSecond_idle {t : Time} {d : Dev} (h : d.on Reg.TKP_UTC.LEAP_PEND = false ∨ (t.sec : Int) < leapDue d) :
    leapSecond t d = d := by
  refine if_neg fun ⟨hp, hd⟩ => ?_
  rcases h with h | h
  · simp [h] at hp
  · omega

/-- Settles O23: edges, frames, leaps and pulses by the equations of their cases. -/
theorem timingSignals : Obligations.TimingSignals := by
  unfold Obligations.TimingSignals
  refine ⟨⟨?_, ?_, ?_, ?_, ?_, ?_⟩, ?_, ?_, ?_, ?_, ?_, ?_, ?_, ?_⟩
  · intro s fall q h
    rw [exec_tinPpsEdge, tinEdge_off h]
  · intro s fall q e stamp he hf hst hl hd
    subst hst
    rw [exec_tinPpsEdge, tinEdge_bad he hf hl hd, tinBad]
  · intro s fall q stamp he hf hst hg
    subst hst
    obtain ⟨hedge, hcnt⟩ := edgeTaken_leaves s.time (edgeStamp s.time q s.dev) s.dev
    rw [exec_tinPpsEdge, tinEdge_good he hf hg]
    refine ⟨_, rfl, ?_, ?_, rfl, fun hi hn => ?_, fun hi hn => ?_, fun sec mark hi hl hd => ?_⟩
    · rw [after_tkp]; exact hedge
    · rw [after_get _ _ _ (not_intakeWord (by decide))]; exact hcnt
    · rw [after_tkp, edgeTaken, if_neg (by simp [hi]), if_neg (by simp [hn])]; rfl
    · rw [edgeTaken, if_neg (by simp [hi]), if_pos hn]; rfl
    · have hd' : distQ (edgeStamp s.time q s.dev) mark ≤ 20000 := hd
      rw [after_tkp, edgeTaken, if_pos hi]
      simp only [hl, if_pos hd']
      rw [tinSample_tin]
      rfl
  · intro s f h
    rw [exec_irigFrame, irigFrame_off h]
  · intro s f h hp
    rw [exec_irigFrame, irigFrame_parity h hp, tinBad]
  · intro s f h hp
    rw [exec_irigFrame]
    refine ⟨_, rfl, ?_, rfl, fun l hl hne => ?_, fun hseq hpps hfar => ?_⟩
    · rw [after_tkp, irigFrame_lastLabel h hp]
    · rw [irigFrame_jump h hp hl hne]
      refine ⟨?_, ?_, ?_, ?_⟩
      · rw [after_get _ _ _ (not_intakeWord (by decide)), tinBad, Dev.cause_get _ _ _ _ _ _ (by decide)]
        exact Dev.get_set_same _ _ _ (by decide) (Nat.lt_of_le_of_lt (Nat.min_le_right _ _) (by decide))
      · rw [after_word _ _ _ (not_intakeWord (by decide))]
        exact Dev.cause_sets _ _ _ _ _ (by decide)
      · rw [after_tkp, tinBad, Dev.cause_tkp]; rfl
      · rw [after_tkp, tinBad, Dev.cause_tkp]; rfl
    · have hheld : irigFrame s.time f s.dev = irigHeld s.time f s.dev := by
        rw [irigFrame_good h hp hseq, if_neg (by simp [hpps])]
        cases he : s.dev.tkp.tin.lastEdge with
        | none => rfl
        | some e => exact if_neg (Nat.not_le.2 (hfar e he))
      rw [hheld]
      refine ⟨?_, ?_, ?_⟩
      · rw [after_tkp]; rfl
      · rw [after_tkp]; exact (irigTaken_tkp s.time f s.dev).2
      · rw [after_get _ _ _ (not_intakeWord (by decide)), irigHeld, Dev.modTkp_get]
        exact getN_of_word (showRefs_word _ (by decide) (by decide))
  · intro s hp hd
    rw [exec_leapSecond, leapSecond_due hp hd]
    refine ⟨_, rfl, ?_, ?_, ?_, ?_, ?_, rfl, fun a ha hi => ?_⟩
    · rw [after_get _ _ _ (not_intakeWord (by decide)), leapTaken, Dev.modTkp_get]
      simp (disch := decide) only [Dev.cause_get, Dev.get_set_other]
      exact Dev.get_set_mod _ _ _ (by decide)
    · rw [after_get _ _ _ (not_intakeWord (by decide)), leapTaken, Dev.modTkp_get]
      simp (disch := decide) only [Dev.cause_get, Dev.get_set_other]
      exact Dev.get_set_same _ _ _ (by decide) (by decide)
    · rw [after_get _ _ _ (not_intakeWord (by decide)), leapTaken, Dev.modTkp_get, Dev.cause_get _ _ _ _ _ _ (by decide)]
      exact Dev.get_set_same _ _ _ (by decide) (by decide)
    · rw [after_word _ _ _ (not_intakeWord (by decide)), leapTaken, Dev.modTkp_word]
      exact Dev.cause_sets _ _ _ _ _ (by decide)
    · rw [after_tkp]; rfl
    · simp only [List.mem_cons, List.not_mem_nil, or_false, not_or] at ha
      obtain ⟨hofs, hint⟩ := ha
      rw [after_word _ _ _ hi, leapTaken, Dev.modTkp_word, Dev.cause_word_other _ _ _ _ _ hint, Dev.word_set _ _ _ _ hofs,
        Dev.word_set _ _ _ _ hofs, Dev.word_set _ _ _ _ hofs]
  · intro s h
    rw [exec_leapSecond, leapSecond_idle h]
  · intro s a h
    rw [exec_leapOccExpire, leapOccExpire]
    simp only [h]
  · intro s h
    rw [exec_leapOccExpire, leapOccExpire]
    simp only [h]
  · intro s h
    have hw : (min 50000 (s.dev.get Reg.TKP_TOUT.PPS_WIDTH) != 0) = (s.dev.get Reg.TKP_TOUT.PPS_WIDTH != 0) := by
      rw [Bool.eq_iff_iff, bne_iff_ne, bne_iff_ne]
      omega
    rw [exec_ppsOutput, ppsOutput]
    simp only [if_neg (Nat.not_le.2 h), hw, Bool.and_eq_true, bne_iff_ne]
  · intro s h
    rw [exec_ppsOutput, show ppsOutput s.time s.dev = s.dev from if_pos h]
  · intro s e h
    rw [exec_ppsPulseEnd, ppsPulseEnd]
    simp only [h]
  · intro s h
    rw [exec_ppsPulseEnd, ppsPulseEnd]
    simp only [h]

end Sys2Proof.Machine

/-!
PROOFS. PTP messages received, sent and forwarded (R52 to R57, R142, R164, R666).
-/

namespace Sys2Proof.Machine

open Sys2Proof

/-! ## What the commands mean -/

theorem exec_ptpAnnounceTransmit (port : Nat) (s : State) :
    exec (.ptpAnnounceTransmit port) s = .next (s.after (announceTransmit port s.dev)) := rfl

theorem exec_ptpMessageReceive (port : Nat) (m : PtpMsg) (s : State) :
    exec (.ptpMessageReceive port m) s = .next (s.after (ptpReceive s.time port m s.dev)) := rfl

theorem exec_ptpMessageTransmit (port : Nat) (m : PtpType) (s : State) :
    exec (.ptpMessageTransmit port m) s = .next (s.after (ptpTransmit port m s.dev)) := rfl

theorem exec_tcForward (port : Nat) (m : PtpMsg) (ingressQ : Nat) (s : State) :
    exec (.tcForward port m ingressQ) s = .next (s.after (tcForward s.time port m ingressQ s.dev)) := rfl

/-! ## Reading ports and fields -/

theorem Dev.getN_lt (d : Dev) (f : Field) (i : Nat) : d.getN f i < 2 ^ f.width := Nat.mod_lt _ (by positivity)

theorem after_port (s : State) (d : Dev) (n : Nat) : (s.after d).dev.port n = d.port n := by
  simp only [Dev.port, after_ports]

theorem after_ptp (s : State) (d : Dev) (n : Nat) : (s.after d).dev.ptp n = d.ptp n := by
  simp only [Dev.ptp, after_tkp]

@[simp] theorem Dev.modPtp_port (d : Dev) (n : Nat) (f : PtpPort → PtpPort) (k : Nat) :
    (d.modPtp n f).port k = d.port k := rfl
@[simp] theorem Dev.modPort_ptp (d : Dev) (n : Nat) (f : Port → Port) (k : Nat) : (d.modPort n f).ptp k = d.ptp k := rfl
@[simp] theorem Dev.modPtp_ref (d : Dev) (n : Nat) (f : PtpPort → PtpPort) (k : Nat) : (d.modPtp n f).ref k = d.ref k := rfl
@[simp] theorem Dev.modPtp_refs (d : Dev) (n : Nat) (f : PtpPort → PtpPort) : (d.modPtp n f).tkp.refs = d.tkp.refs := rfl
@[simp] theorem Dev.event_ptp (d : Dev) (k i x y n : Nat) : (d.event k i x y).ptp n = d.ptp n := rfl

theorem portRuns_up {d : Dev} {n : Nat} (h : portRuns d n = true) : n < 16 ∧ d.up (islPrt n) = true := by
  simp only [portRuns, Bool.and_eq_true, decide_eq_true_eq] at h
  exact h.1

/-! ## Queues -/

/-- A frame that enters a queue stands behind what it holds. -/
theorem pushTx_queue (n : Nat) {f : TxFrame} (d : Dev) (h : f.tc < 8) :
    tget ((pushTx n f d).port n).queues f.tc = tget (d.port n).queues f.tc ++ [f] := by
  simp [pushTx, Nat.mod_eq_of_lt h]

theorem pushTx_other (n : Nat) (f : TxFrame) (d : Dev) {k : Nat} (h : k ≠ n) : (pushTx n f d).port k = d.port k :=
  Dev.modPort_port_other _ _ _ h

/-- A frame for its own port alone joins its queue there. -/
theorem sendTx_own {n : Nat} {f : TxFrame} {d : Dev} (ho : ∀ m, ownPortOnly m f.org = true) (hu : d.up (islPrt n) = true) :
    sendTx n f d = pushTx n f d := by
  unfold sendTx
  dsimp only
  rw [if_pos (.inr (ho _)), if_pos hu]

/-! ## Stamps that have been used (R142) -/

/-- From `d` to `x` stamps of port n have left its timestamp queue; its frames stand, and so does everything else. -/
structure Unstamped (n : Nat) (d x : Dev) : Prop where
  tkp : x.tkp = d.tkp
  up : ∀ i, x.up i = d.up i
  queues : (x.port n).queues = (d.port n).queues
  others : ∀ k, k ≠ n → x.port k = d.port k
  words : ∀ a, a ≠ At.FP_TS_CNT.addr n → x.word a = d.word a

theorem Unstamped.refl (n : Nat) (d : Dev) : Unstamped n d d := ⟨rfl, fun _ => rfl, rfl, fun _ _ => rfl, fun _ _ => rfl⟩

theorem Unstamped.freeStamp {n : Nat} {d x : Dev} (h : Unstamped n d x) (o : TxOrigin) : Unstamped n d (freeStamp n o x) := by
  refine ⟨h.tkp, h.up, ?_, fun k hk => ?_, fun a ha => ?_⟩
  · rw [← h.queues]
    simp [Machine.freeStamp, Dev.setPort, Dev.port]
  · rw [← h.others k hk]
    exact tget_tset_other _ hk _
  · rw [← h.words a ha]
    exact Dev.word_setN _ _ _ _ _ ha

theorem Unstamped.dropStamps {n : Nat} {d x : Dev} (h : Unstamped n d x) (m : PtpType) :
    Unstamped n d (dropStamps n m x) := by
  unfold Machine.dropStamps
  generalize (x.port n).stamps = l
  induction l generalizing x with
  | nil => exact h
  | cons e l ih =>
    refine ih ?_
    dsimp only
    split
    · exact h.freeStamp _
    · exact h

theorem Unstamped.requestDone {n : Nat} {d x : Dev} (h : Unstamped n d x) (m : PtpType) :
    Unstamped n d (requestDone n m x) := by
  unfold Machine.requestDone
  split
  · exact h.dropStamps _
  · exact h.dropStamps _
  · exact h

theorem Unstamped.getN {n : Nat} {d x : Dev} (h : Unstamped n d x) {f : Field} {i : Nat}
    (hf : f.reg.addr i ≠ At.FP_TS_CNT.addr n) : x.getN f i = d.getN f i := getN_of_word (h.words _ hf)

theorem fpTsCnt_addr (n : Nat) : At.FP_TS_CNT.addr n = 0x40020 + 0x2000 * n := by
  simp [At.FP_TS_CNT, RegAt.addr, Nat.mod_one, Nat.mul_comm]

theorem fpCtrl_addr (n : Nat) : At.FP_CTRL.addr n = 0x40000 + 0x2000 * n := by
  simp [At.FP_CTRL, RegAt.addr, Nat.mod_one, Nat.mul_comm]

/-! ## Reception (R56, R57) -/

/-- The messages received in the current second, with this one. -/
def ptpCounted (t : Time) (n : Nat) (d : Dev) : Nat := if (d.ptp n).second = t.sec then (d.ptp n).count + 1 else 1

/-- The device with a message counted in its second. -/
def ptpCount (t : Time) (n : Nat) (d : Dev) : Dev := d.modPtp n fun p => { p with second := t.sec, count := ptpCounted t n d }

theorem ptpFlood_within {t : Time} {n : Nat} {d : Dev} (h : ptpCounted t n d ≤ 512) :
    ptpFlood t n d = (false, ptpCount t n d) := if_pos h

theorem ptpFlood_beyond {t : Time} {n : Nat} {d : Dev} (h : 512 < ptpCounted t n d) :
    (ptpFlood t n d).1 = true ∧ (ptpFlood t n d).2.ptp n =
      { d.ptp n with second := t.sec, count := ptpCounted t n d, flooded := (d.ptp n).flooded + 1 } ∧
      (ptpFlood t n d).2.tkp.refs = d.tkp.refs := by
  obtain ⟨x, hx⟩ : ∃ x, x = (ptpCount t n d).modPtp n fun p => { p with flooded := p.flooded + 1 } := ⟨_, rfl⟩
  have hc : ptpFlood t n d = (true, if ptpCounted t n d = 513 then x.event 49 n n 0 else x) := by
    rw [hx]
    exact if_neg (Nat.not_le.2 h)
  have hp : x.ptp n = { d.ptp n with second := t.sec, count := ptpCounted t n d, flooded := (d.ptp n).flooded + 1 } := by
    simp [hx, ptpCount]
  rw [hc]
  dsimp only
  refine ⟨rfl, ?_, ?_⟩
  · split
    · exact hp
    · exact hp
  · split <;> rw [hx] <;> rfl

theorem ptpAuth_off {n : Nat} {m : PtpMsg} {d : Dev} (h : d.on Reg.TKP_PTP.AUTH_EN = false) : ptpAuth n m d = (true, d) := by
  have hok : ptpAuthOk m d = (true, d) := if_pos (by simp [h])
  simp [ptpAuth, hok]

theorem ptpJudge_within {t : Time} {n : Nat} {m : PtpMsg} {d : Dev} (hc : ptpCounted t n d ≤ 512)
    (h : d.on Reg.TKP_PTP.AUTH_EN = false) : ptpJudge t n m d = (true, ptpCount t n d) := by
  have ha : ptpAuth n m (ptpCount t n d) = (true, ptpCount t n d) := ptpAuth_off h
  simp [ptpJudge, ptpFlood_within hc, ha]

theorem ptpJudge_beyond {t : Time} {n : Nat} {m : PtpMsg} {d : Dev} (hc : 512 < ptpCounted t n d) :
    ptpJudge t n m d = (false, (ptpFlood t n d).2) := by
  have h1 : ptpFlood t n d = (true, (ptpFlood t n d).2) := Prod.ext (ptpFlood_beyond hc).1 rfl
  rw [ptpJudge, h1]

/-- Does the port take PTP messages now? -/
def ptpHears (d : Dev) (n : Nat) : Prop := ptpOn d n = true ∧ portRuns d n = true ∧ linkUp d n = true

theorem ptpReceive_off {t : Time} {n : Nat} {m : PtpMsg} {d : Dev}
    (h : ptpOn d n = false ∨ portRuns d n = false ∨ linkUp d n = false) : ptpReceive t n m d = d := by
  refine if_pos ?_
  rcases h with h | h | h <;> simp [h]

theorem ptpReceive_on {t : Time} {n : Nat} {m : PtpMsg} {d x : Dev} (h : ptpHears d n)
    (hl : ptpLooped n m true d = (true, x)) :
    ptpReceive t n m d = if (ptpJudge t n m x).1 = true ∧ m.domain = d.get Reg.TKP_PTP.DOMAIN then
        ptpUse t n m (ptpJudge t n m x).2 else (ptpJudge t n m x).2 := by
  obtain ⟨hp, hr, hk⟩ := h
  unfold ptpReceive
  rw [if_neg (by simp [hp, hr, hk]), hl]
  rcases hj : ptpJudge t n m x with ⟨b, y⟩
  cases b with
  | false => simp [hj]
  | true => simp [hj]

theorem ptpLooped_off {n : Nat} {m : PtpMsg} {b : Bool} {d : Dev} (h : d.onN Reg.FP_CTRL.LOOP n = false) :
    ptpLooped n m b d = (true, d) := if_pos (by simp [h])

/-- An Announce gives its port's grandmaster (R54). -/
def ptpHeard (n : Nat) (m : PtpMsg) (d : Dev) : Dev :=
  match m.gm with
  | some g => if m.mtype = .announce then d.modPtp n fun p => { p with gm := some g } else d
  | none => d

theorem ptpUse_noSample (t : Time) (n : Nat) {m : PtpMsg} (d : Dev) (h : m.sample = none) :
    ptpUse t n m d = ptpHeard n m (requestDone n m.mtype d) := by
  unfold ptpUse
  simp only [h]
  rfl

/-- What is heard changes the grandmaster of its port alone. -/
theorem ptpHeard_leaves (n : Nat) (m : PtpMsg) (d : Dev) :
    (ptpHeard n m d).tkp.refs = d.tkp.refs ∧ (∃ g, (ptpHeard n m d).ptp n = { d.ptp n with gm := g }) ∧
      (m.mtype = .announce → ∀ g, m.gm = some g → ((ptpHeard n m d).ptp n).gm = some g) := by
  unfold ptpHeard
  cases hg : m.gm with
  | none => exact ⟨rfl, ⟨_, rfl⟩, by simp⟩
  | some g =>
    by_cases ha : m.mtype = .announce
    · simp [ha]
    · simp only [ha]
      exact ⟨rfl, ⟨_, rfl⟩, by simp⟩

/-! ## Messages sent (R52, R142, R143) -/

/-- The frame of a message from Xaorn's template, with the instants that the hardware fills. -/
def ptpFrame (n : Nat) (m : PtpType) (vs : List Int) (d : Dev) : TxFrame :=
  ⟨.ptp m, d.getN Reg.FP_CTRL.PTP_TC n, (Config.ptpTemplate (d.ptp n).tmpl m).length + 4,
    if vs.isEmpty then Config.ptpTemplate (d.ptp n).tmpl m else filled m (Config.ptpTemplate (d.ptp n).tmpl m) vs [],
    none, false, none, none⟩

/-- The device with a message counted among those sent. -/
def ptpSentOne (n : Nat) (m : PtpType) (d : Dev) : Dev :=
  d.modPtp n fun p => { p with sent := tset p.sent (ptpCode m) (tget p.sent (ptpCode m) + 1) }

theorem ptpQueue_open {n : Nat} {m : PtpType} {vs : List Int} {d : Dev} (h : d.on Reg.TKP_PTP.AUTH_EN = false)
    (hu : d.up (islPrt n) = true) : ptpQueue n m vs d = pushTx n (ptpFrame n m vs d) (ptpSentOne n m d) := by
  unfold ptpQueue
  simp only [h, Bool.false_eq_true, if_false]
  exact sendTx_own (fun _ => rfl) hu

/-- A message that is queued joins its class on its port, and is counted there. -/
theorem ptpQueue_leaves {n : Nat} {m : PtpType} {vs : List Int} {d x : Dev} (hx : Unstamped n d x)
    (h : d.on Reg.TKP_PTP.AUTH_EN = false) (hu : d.up (islPrt n) = true) :
    tget ((ptpQueue n m vs x).port n).queues (d.getN Reg.FP_CTRL.PTP_TC n) =
        tget (d.port n).queues (d.getN Reg.FP_CTRL.PTP_TC n) ++ [ptpFrame n m vs d] ∧
      tget ((ptpQueue n m vs x).ptp n).sent (ptpCode m) = tget (d.ptp n).sent (ptpCode m) + 1 ∧
      ∀ k, k ≠ n → (ptpQueue n m vs x).port k = d.port k := by
  have hauth : x.on Reg.TKP_PTP.AUTH_EN = false := by
    rw [← h]
    unfold Dev.on Dev.onN
    rw [hx.getN (by rw [fpTsCnt_addr, show Reg.TKP_PTP.AUTH_EN.reg.addr 0 = 0x10054 from rfl]; omega)]
  have hup : x.up (islPrt n) = true := (hx.up _).trans hu
  have hframe : ptpFrame n m vs x = ptpFrame n m vs d := by
    have htc : x.getN Reg.FP_CTRL.PTP_TC n = d.getN Reg.FP_CTRL.PTP_TC n :=
      hx.getN (by rw [fpTsCnt_addr, show Reg.FP_CTRL.PTP_TC.reg = At.FP_CTRL from rfl, fpCtrl_addr]; omega)
    simp only [ptpFrame, htc, Dev.ptp, hx.tkp]
  have hlt : (ptpFrame n m vs d).tc < 8 := Dev.getN_lt d Reg.FP_CTRL.PTP_TC n
  rw [ptpQueue_open hauth hup, hframe]
  refine ⟨?_, ?_, fun k hk => ?_⟩
  · rw [show d.getN Reg.FP_CTRL.PTP_TC n = (ptpFrame n m vs d).tc from rfl, pushTx_queue n _ hlt, ← hx.queues]
    rfl
  · rw [← show x.ptp n = d.ptp n by rw [Dev.ptp, Dev.ptp, hx.tkp]]
    simp [pushTx, ptpSentOne]
  · rw [pushTx_other n _ _ hk, ← hx.others k hk]
    rfl

/-- Xaorn sets the state and the templates of the port, and nothing else of it (R52). -/
theorem xaornPtp_leaves (n : Nat) (d : Dev) :
    (xaornPtp n d).regs = d.regs ∧ (xaornPtp n d).ports = d.ports ∧ (∀ i, (xaornPtp n d).up i = d.up i) ∧
      ((xaornPtp n d).ptp n).sent = (d.ptp n).sent := by
  unfold xaornPtp
  split
  · simp only [Dev.draw]
    refine ⟨rfl, rfl, fun _ => rfl, ?_⟩
    rw [Dev.modPtp_ptp]
    rfl
  · exact ⟨rfl, rfl, fun _ => rfl, rfl⟩

/-- A message sent from Xaorn's template joins its class on its port, and is counted there (R52). -/
theorem ptpSent_leaves {n : Nat} {m : PtpType} {vs : List Int} {d x : Dev} (hx : Unstamped n (xaornPtp n d) x)
    (h : d.on Reg.TKP_PTP.AUTH_EN = false) (hu : d.up (islPrt n) = true) :
    tget ((ptpQueue n m vs x).port n).queues (d.getN Reg.FP_CTRL.PTP_TC n) =
        tget (d.port n).queues (d.getN Reg.FP_CTRL.PTP_TC n) ++ [ptpFrame n m vs (xaornPtp n d)] ∧
      tget ((ptpQueue n m vs x).ptp n).sent (ptpCode m) = tget (d.ptp n).sent (ptpCode m) + 1 ∧
      ∀ k, k ≠ n → (ptpQueue n m vs x).port k = d.port k := by
  obtain ⟨hregs, hports, hup, hsent⟩ := xaornPtp_leaves n d
  have hget (f : Field) (i : Nat) : (xaornPtp n d).getN f i = d.getN f i := by rw [Dev.getN, hregs, Dev.getN]
  have hport (k : Nat) : (xaornPtp n d).port k = d.port k := by rw [Dev.port, hports, Dev.port]
  have hauth : (xaornPtp n d).on Reg.TKP_PTP.AUTH_EN = false := by
    rw [← h]
    unfold Dev.on Dev.onN
    rw [hget]
  obtain ⟨h1, h2, h3⟩ := ptpQueue_leaves (m := m) (vs := vs) hx hauth ((hup _).trans hu)
  rw [hget, hport] at h1
  rw [hsent] at h2
  exact ⟨h1, h2, fun k hk => (h3 k hk).trans (hport k)⟩

theorem ptpTransmit_off {n : Nat} {m : PtpType} {d : Dev} (h : ptpOn d n = false) : ptpTransmit n m d = d :=
  if_pos (by simp [h])

theorem ptpTransmit_denied {n : Nat} {m : PtpType} {d : Dev} (h : ptpOn d n = true)
    (hs : portSends (xaornPtp n d) n m = false) : ptpTransmit n m d = xaornPtp n d :=
  (if_neg (by simp [h])).trans (if_pos (by simp [hs]))

theorem ptpTransmit_sends {n : Nat} {m : PtpType} {d : Dev} (h : ptpOn d n = true)
    (hs : portSends (xaornPtp n d) n m = true) :
    ptpTransmit n m d = match (generalizing := false) m with
      | .followUp => followUp n .sync m (xaornPtp n d)
      | .pdelayRespFollowUp => followUp n .pdelayResp m (xaornPtp n d)
      | .announce => xaornPtp n d
      | .delayReq => ptpQueue n m [] (dropStamps n m (xaornPtp n d))
      | .pdelayReq => ptpQueue n m [] (dropStamps n m (xaornPtp n d))
      | _ => ptpQueue n m [] (xaornPtp n d) := by
  have hsends : ¬ (!portSends (xaornPtp n d) n m) = true := by simp [hs]
  exact (if_neg (by simp [h])).trans (if_neg hsends)

/-- The messages that carry no stamp of another are queued, requests once their old stamps are gone. -/
theorem ptpTransmit_plain {n : Nat} {m : PtpType} {d : Dev} (h : ptpOn d n = true)
    (hs : portSends (xaornPtp n d) n m = true)
    (hm : m ∈ [PtpType.sync, .delayReq, .pdelayReq, .pdelayResp, .delayResp]) :
    ∃ x, Unstamped n (xaornPtp n d) x ∧ ptpTransmit n m d = ptpQueue n m [] x := by
  have hid := Unstamped.refl n (xaornPtp n d)
  rw [ptpTransmit_sends h hs]
  simp only [List.mem_cons, List.not_mem_nil, or_false] at hm
  rcases hm with rfl | rfl | rfl | rfl | rfl
  · exact ⟨_, hid, rfl⟩
  · exact ⟨_, hid.dropStamps _, rfl⟩
  · exact ⟨_, hid.dropStamps _, rfl⟩
  · exact ⟨_, hid, rfl⟩
  · exact ⟨_, hid, rfl⟩

theorem announceTransmit_on {n : Nat} {d : Dev} (h : ptpOn d n = true) :
    announceTransmit n d =
      if portSends (xaornPtp n d) n .announce then ptpQueue n .announce [] (xaornPtp n d) else xaornPtp n d :=
  if_neg (by simp [h])

/-! ## The transparent clock (R55) -/

theorem twin_ne (n : Nat) : twin n ≠ n := by
  unfold twin
  omega

theorem tcForward_off {t : Time} {n q : Nat} {m : PtpMsg} {d : Dev}
    (h : tcOn d n = false ∨ portRuns d n = false ∨ linkUp d n = false) : tcForward t n m q d = d := by
  refine if_pos ?_
  rcases h with h | h | h <;> simp [h]

/-- The frame of a message that is forwarded. -/
def tcFrame (n q : Nat) (m : PtpMsg) (d : Dev) : TxFrame :=
  ⟨.transparent m q, d.getN Reg.FP_CTRL.PTP_TC (twin n), m.raw.length + 4, m.raw, none, false, none, none⟩

/-- A message within the limit is forwarded, whether the clock has judged it already or not. -/
theorem tcForward_on {t : Time} {n q : Nat} {m : PtpMsg} {d : Dev} (h : tcOn d n = true) (hr : portRuns d n = true)
    (hk : linkUp d n = true) (hl : d.onN Reg.FP_CTRL.LOOP n = false) (ha : d.on Reg.TKP_PTP.AUTH_EN = false)
    (hc : (d.ptp n).second ≠ t.sec ∨ (d.ptp n).count < 512) :
    ∃ x, (x = d ∨ x = ptpCount t n d) ∧ tcForward t n m q d = sendTx (twin n) (tcFrame n q m x) x := by
  have hcount : ptpCounted t n d ≤ 512 := by
    unfold ptpCounted
    split
    · rcases hc with hc | hc
      · contradiction
      · omega
    · decide
  have hjudged : ptpJudged t n m d = (true, d) := by
    have hok : ptpAuthOk m d = (true, d) := if_pos (by simp [ha])
    refine (if_neg fun ⟨h1, h2⟩ => ?_).trans hok
    rcases hc with hc | hc
    · exact hc h1
    · omega
  unfold tcForward
  rw [if_neg (by simp [h, hr, hk]), ptpLooped_off hl]
  by_cases hp : ptpOn d n = true
  · refine ⟨d, .inl rfl, ?_⟩
    simp only [hp, if_true, hjudged]
    rfl
  · refine ⟨ptpCount t n d, .inr rfl, ?_⟩
    simp only [hp, Bool.false_eq_true, if_false, ptpJudge_within hcount ha]
    rfl

/-- Settles O24: reception by the judgement on a message, transmission by what a queued message leaves. -/
theorem ptpPorts : Obligations.PtpPorts := by
  unfold Obligations.PtpPorts
  refine ⟨?_, ?_, ?_, ?_, ?_, ?_, ?_, ?_, ?_, ?_, ?_, ?_⟩
  · intro s n m h
    rw [exec_ptpMessageReceive, ptpReceive_off h]
  · intro s n m d hp hr hk hl
    rw [exec_ptpMessageReceive, ptpReceive_on ⟨hp, hr, hk⟩ hl]
  · intro s n m hp hr hk hl ha hc hm
    have hcount : ptpCounted s.time n s.dev ≤ 512 := by
      unfold ptpCounted
      split
      · rcases hc with hc | hc
        · contradiction
        · omega
      · decide
    have hptp : (ptpCount s.time n s.dev).ptp n =
        { s.dev.ptp n with second := s.time.sec, count := ptpCounted s.time n s.dev } := Dev.modPtp_ptp _ _ _
    rw [exec_ptpMessageReceive, ptpReceive_on ⟨hp, hr, hk⟩ (ptpLooped_off hl), ptpJudge_within hcount ha]
    simp only [true_and]
    refine ⟨_, rfl, ?_⟩
    simp only [after_ptp, after_tkp]
    by_cases hd : m.domain = s.dev.get Reg.TKP_PTP.DOMAIN
    · have hx := (Unstamped.refl n (ptpCount s.time n s.dev)).requestDone m.mtype
      obtain ⟨hrefs, ⟨g, hg⟩, hann⟩ := ptpHeard_leaves n m (requestDone n m.mtype (ptpCount s.time n s.dev))
      have hdone : (requestDone n m.mtype (ptpCount s.time n s.dev)).ptp n = (ptpCount s.time n s.dev).ptp n := by
        rw [Dev.ptp, hx.tkp, Dev.ptp]
      rw [if_pos hd, ptpUse_noSample _ _ _ (hm.resolve_left (not_not_intro hd)), hg, hdone, hptp, hrefs, hx.tkp]
      refine ⟨rfl, rfl, rfl, rfl, fun h _ k hk => ?_⟩
      rw [← hann h k hk, hg]
    · rw [if_neg hd, hptp]
      exact ⟨rfl, rfl, rfl, rfl, fun _ h => absurd h hd⟩
  · intro s n m hp hr hk hl hs hc
    have hcount : ptpCounted s.time n s.dev = (s.dev.ptp n).count + 1 := if_pos hs
    obtain ⟨-, hptp, hrefs⟩ := ptpFlood_beyond (t := s.time) (n := n) (d := s.dev) (by omega)
    rw [exec_ptpMessageReceive, ptpReceive_on ⟨hp, hr, hk⟩ (ptpLooped_off hl), ptpJudge_beyond (by omega)]
    simp only [Bool.false_eq_true, false_and, if_false]
    refine ⟨_, rfl, ?_, ?_, ?_, ?_⟩
    · rw [after_ptp, hptp, hcount]
    · rw [after_ptp, hptp]
    · rw [after_tkp, hrefs]
    · rw [after_ptp, hptp]
  · intro s n m h
    rw [exec_ptpMessageTransmit, exec_ptpAnnounceTransmit, ptpTransmit_off h]
    exact ⟨rfl, congrArg (fun d => Host.Outcome.next (s.after d)) (if_pos (by simp [h]))⟩
  · intro s n m h hs
    rw [exec_ptpMessageTransmit, exec_ptpAnnounceTransmit, ptpTransmit_denied h hs]
    refine ⟨rfl, fun hm => ?_⟩
    rw [announceTransmit_on h, if_neg (by simp [← hm, hs])]
  · intro s n m h hs hm ha hr
    obtain ⟨x, hx, hout⟩ := ptpTransmit_plain h hs hm
    obtain ⟨h1, h2, h3⟩ := ptpSent_leaves (m := m) (vs := []) hx ha (portRuns_up hr).2
    rw [exec_ptpMessageTransmit, hout]
    refine ⟨_, ptpFrame n m [] (xaornPtp n s.dev), rfl, rfl, rfl, ?_⟩
    simp only [after_port, after_ptp]
    exact ⟨h1, h2, h3⟩
  · intro s n h hs ha hr
    have hport : (xaornPtp n s.dev).port n = s.dev.port n := by
      rw [Dev.port, (xaornPtp_leaves n s.dev).2.1, Dev.port]
    rw [exec_ptpMessageTransmit, ptpTransmit_sends h hs]
    simp only [followUp, hport]
    refine ⟨fun hno => ?_, fun o q hst => ?_⟩
    · simp only [hno]
    · obtain ⟨h1, -, -⟩ := ptpSent_leaves (m := .followUp) (vs := [(q : Int)])
        ((Unstamped.refl n (xaornPtp n s.dev)).freeStamp (.ptp .sync)) ha (portRuns_up hr).2
      simp only [hst]
      refine ⟨_, ptpFrame n .followUp [(q : Int)] (xaornPtp n s.dev), rfl, rfl, rfl, ?_⟩
      rw [after_port, h1]
  · intro s n h hs ha hr
    obtain ⟨h1, h2, -⟩ := ptpSent_leaves (m := .announce) (vs := []) (Unstamped.refl n (xaornPtp n s.dev)) ha
      (portRuns_up hr).2
    rw [exec_ptpAnnounceTransmit, announceTransmit_on h, if_pos hs]
    refine ⟨_, ptpFrame n .announce [] (xaornPtp n s.dev), rfl, rfl, ?_⟩
    simp only [after_port, after_ptp]
    exact ⟨h1, h2⟩
  · intro s n m q h
    rw [exec_tcForward, tcForward_off h]
  · intro s n m q h hr hk hl ha hc ht
    obtain ⟨x, hx, hout⟩ := tcForward_on (q := q) (m := m) h hr hk hl ha hc
    have hframe : tcFrame n q m x = tcFrame n q m s.dev := by rcases hx with rfl | rfl <;> rfl
    have hports : x.ports = s.dev.ports := by rcases hx with rfl | rfl <;> rfl
    have hport (k : Nat) : x.port k = s.dev.port k := by rw [Dev.port, hports, Dev.port]
    have hup : x.up (islPrt (twin n)) = true := by rcases hx with rfl | rfl <;> exact (portRuns_up ht).2
    have hlt : (tcFrame n q m s.dev).tc < 8 := Dev.getN_lt s.dev Reg.FP_CTRL.PTP_TC (twin n)
    rw [exec_tcForward, hout, hframe, sendTx_own (fun _ => rfl) hup]
    refine ⟨_, tcFrame n q m s.dev, rfl, rfl, rfl, ?_, ?_⟩
    · rw [after_port, show s.dev.getN Reg.FP_CTRL.PTP_TC (twin n) = (tcFrame n q m s.dev).tc from rfl, pushTx_queue _ _ hlt,
        hport]
    · rw [after_port, pushTx_other _ _ _ (twin_ne n).symm, hport]
  · intro t n a q m f d ho he h2
    simp [fillTx, ho, he, h2]

end Sys2Proof.Machine

/-!
PROOFS. The Hamper's partitions, its patrol scrub and the release of fences (R96, R107, R109, R112).
-/

namespace Sys2Proof.Machine

open Sys2Proof

/-! ## What the commands mean -/

theorem exec_scrubPassLate (s : State) : exec .scrubPassLate s = .next (s.after (scrubPassLate s.time s.dev)) := rfl

theorem exec_scrubRead (s : State) : exec .scrubRead s = .next (s.after (scrubRead s.time s.dev)) := rfl

theorem exec_writeHmpPart (n : Nat) (v : Word32) (s : State) :
    exec (.writeHmpPart n v) s = .next (s.after (onWrite 0x20010 (writeHmpPart n v) s.dev)) := rfl

theorem exec_fenceReleaseCheck (a : Nat) (good : Bool) (s : State) :
    exec (.fenceReleaseCheck a good) s = .next (s.after (fenceReleaseCheck (a / 4) good s.dev)) := rfl

/-! ## Partitions (R96) -/

theorem writeHmpPart_ignored {n : Nat} {v : Word32} {d : Dev} (h : 6 ≤ n ∨ d.on Reg.GLB_LOCK.LOCK = true) :
    writeHmpPart n v d = d := if_pos h

theorem writeHmpPart_refused {n : Nat} {v : Word32} {d : Dev} (hn : n < 6) (hl : d.on Reg.GLB_LOCK.LOCK = false)
    (hb : partBad d n (bits v.toNat 0 7) (bits v.toNat 8 8) = true) : writeHmpPart n v d = d.cause intHmp 2 n 0 :=
  (if_neg (by simp [locked, hl, hn])).trans (if_pos hb)

theorem writeHmpPart_accepted {n : Nat} {v : Word32} {d : Dev} (hn : n < 6) (hl : d.on Reg.GLB_LOCK.LOCK = false)
    (hb : partBad d n (bits v.toNat 0 7) (bits v.toNat 8 8) = false) :
    writeHmpPart n v d =
      (d.setN Reg.HMP_PARTn.BASE n (bits v.toNat 0 7)).setN Reg.HMP_PARTn.SIZE n (bits v.toNat 8 8) :=
  (if_neg (by simp [locked, hl, hn])).trans (if_neg (by simp [hb]))

theorem hmpPart_addr (n : Nat) : At.HMP_PARTn.addr n = 0x20010 + 4 * n := by
  simp [At.HMP_PARTn, RegAt.addr, Nat.mod_one, Nat.mul_comm]

/-- The six partitions lie apart from the Logbook's words. -/
theorem hmpPart_notIntake {m : Nat} (h : m < 6) : ¬ intakeWord (At.HMP_PARTn.addr m) := by
  interval_cases m <;> exact not_intakeWord (by decide)

/-- The fields of another partition stand. -/
theorem getN_hmpPart_other {f g : Field} (hf : f.reg = At.HMP_PARTn) (hg : g.reg = At.HMP_PARTn) {n m : Nat} (h : m ≠ n)
    (d : Dev) (v : Nat) : (d.setN f n v).getN g m = d.getN g m :=
  Dev.getN_setN_addr d f g n m v (by
    rw [hf, hg, hmpPart_addr, hmpPart_addr]
    omega)

/-! ## Patrol scrub (R109, R112) -/

theorem hUp_line {d : Dev} {l i : Nat} (hi : i < 16) : hUp d (l * 16 + i) = hUp d (l * 16) := by
  have hq : hQuad (l * 16 + i) = hQuad (l * 16) := by
    unfold hQuad
    omega
  rw [hUp, hUp, hq]

/-- The words of a line that has been checked are read without more. -/
theorem hreadLines_rest {c : HCause} {l : Nat} {d : Dev} (hup : hUp d (l * 16) = true) (n i : Nat) (h : i + n ≤ 16) :
    (hreadLines c n false (l * 16 + i) d).2 = d := by
  induction n generalizing i with
  | zero => rfl
  | succ n ih =>
    have hword : hval (l * 16 + i) d = ((hval (l * 16 + i) d).1, d) := by
      rw [hval_up (by rw [hUp_line (by omega), hup])]
    have hsame : ((l * 16 + i + 1) % 16 == 0) = true → n = 0 := fun hz => by
      have := beq_iff_eq.1 hz
      omega
    unfold hreadLines
    simp only [Bool.false_eq_true, if_false]
    rw [hword]
    dsimp only
    cases hz : ((l * 16 + i + 1) % 16 == 0) with
    | false => exact ih (i + 1) (by omega)
    | true =>
      rw [hsame hz]
      rfl

/-- Reading a line checks it once. -/
theorem hreadMany_line {c : HCause} {l : Nat} {d : Dev} (hup : hUp d (l * 16) = true) :
    (hreadMany c (l * 16) 16 d).2 = lineCheck c (l * 16) d := by
  have hword : hread c (l * 16) d = ((hread c (l * 16) d).1, lineCheck c (l * 16) d) := by
    rw [hread, hval_up (by simpa using hup)]
  have hnext : ((l * 16 + 1) % 16 == 0) = false := by
    rw [beq_eq_false_iff_ne]
    omega
  unfold hreadMany hreadLines
  simp only [if_true]
  rw [hword]
  dsimp only
  rw [hnext]
  exact hreadLines_rest (by simpa using hup) 15 1 (by omega)

/-- The device with a line checked. -/
def scrubbed (l : Nat) (d : Dev) : Dev := if hUp d (l * 16) then lineCheck .scrub (l * 16) d else d

theorem scrubRead_idle {t : Time} {d : Dev} (h : d.on Reg.HMP_STATUS.SCRUB_RUN = false) : scrubRead t d = d :=
  if_pos (by simp [h])

theorem scrubRead_line {t : Time} {d : Dev} (h : d.on Reg.HMP_STATUS.SCRUB_RUN = true) :
    scrubRead t d =
      if d.hmp.scrubLine + 1 = hLines then scrubStart t ((scrubbed d.hmp.scrubLine d).wrapInc Reg.HMP_SCRUB.PASSES)
      else ((scrubbed d.hmp.scrubLine d).modHmp fun x => { x with scrubLine := d.hmp.scrubLine + 1 }).set Reg.HMP_SCRUB.UNIT
        ((d.hmp.scrubLine + 1) / 2 ^ 14) := by
  have hline : (if hUp d (d.hmp.scrubLine * 16) then (hreadMany .scrub (d.hmp.scrubLine * 16) 16 d).2 else d) =
      scrubbed d.hmp.scrubLine d := by
    unfold scrubbed
    split
    case isTrue hup => rw [hreadMany_line hup]
    case isFalse => rfl
  unfold scrubRead
  rw [if_neg (by simp [h])]
  dsimp only
  rw [hline]

/-- A full map is shown in a word of its own. -/
theorem setMapFull_word (b : Nat) (d : Dev) {a : Nat} (ha : a < 0x20060) : (setMapFull b d).word a = d.word a := by
  have hset (f : Field) (hf : 0x20060 ≤ f.reg.addr 0) (v : Nat) : (d.set f v).word a = d.word a :=
    Dev.word_set _ _ _ _ (by omega)
  unfold setMapFull
  dsimp only
  by_cases hb : b < 32
  · simp only [hb, if_true]
    split
    · rfl
    · exact hset _ (by decide) _
  · simp only [hb, if_false]
    split
    · rfl
    · exact hset _ (by decide) _

/-- Lasting faults are counted in words of their own. -/
theorem lasting_scrubWord (w : Nat) (c : HCause) (d : Dev) :
    (lasting w c d).word (At.HMP_SCRUB.addr 0) = d.word (At.HMP_SCRUB.addr 0) := by
  have hcnt : ((d.sat Reg.HMP_CNT_LAST.N).cause intHmp 0 (hBank w) (hWordIdx w)).word (At.HMP_SCRUB.addr 0) =
      d.word (At.HMP_SCRUB.addr 0) := by
    rw [Dev.cause_word_other _ _ _ _ _ (by decide)]
    exact Dev.word_setN _ _ _ _ _ (by decide)
  unfold lasting
  dsimp only
  split
  · have hq : At.HMP_SCRUB.addr 0 ≠ Reg.HMP_QSTATq.FENCED.reg.addr (hQuad w) := by
      simp only [Reg.HMP_QSTATq.FENCED, At.HMP_QSTATq, At.HMP_SCRUB, RegAt.addr]
      omega
    unfold fence hCounts
    dsimp only
    rw [Dev.word_setN _ _ _ _ _ hq, Dev.word_set _ _ _ _ (by decide)]
    exact hcnt
  · rw [Dev.cause_word_other _ _ _ _ _ (by decide), setMapFull_word _ _ (by decide)]
    exact hcnt

theorem lineCheck_scrubWord (c : HCause) (w : Nat) (d : Dev) :
    (lineCheck c w d).word (At.HMP_SCRUB.addr 0) = d.word (At.HMP_SCRUB.addr 0) := by
  unfold lineCheck
  split
  · exact foldl_keeps (fun x => x.word (At.HMP_SCRUB.addr 0)) _ (fun x v => lasting_scrubWord v c x) _ d
  · rfl

theorem scrubbed_leaves (l : Nat) (d : Dev) :
    (scrubbed l d).hmp.mem = d.hmp.mem ∧ (scrubbed l d).get Reg.HMP_SCRUB.PASSES = d.get Reg.HMP_SCRUB.PASSES := by
  unfold scrubbed
  split
  · exact ⟨lineCheck_mem _ _ _, getN_of_word (lineCheck_scrubWord _ _ _)⟩
  · exact ⟨rfl, rfl⟩

/-! ## What a check fences (R104, R106) -/

theorem mem_badInLine {d : Dev} {w v : Nat} (h : v ∈ badInLine d w) : v / 16 = w / 16 := by
  obtain ⟨e, he, rfl⟩ := List.mem_map.1 h
  simp only [List.mem_filter, Bool.and_eq_true, beq_iff_eq] at he
  exact he.2.1.1

/-- The words of a line lie in one bank. -/
theorem hBank_line {v w : Nat} (h : v / 16 = w / 16) : hBank v = hBank w := by
  have hq : v / 2 ^ 22 = w / 2 ^ 22 := by omega
  unfold hBank hQuad
  rw [h, hq]

/-- While the map of their bank has room for all of them, the words of a list are fenced. -/
theorem hFenced_lastings {c : HCause} {b : Nat} (l : List Nat) {d : Dev} (hb : ∀ v ∈ l, hBank v = b)
    (hroom : (hMap d b).length + l.length ≤ 32) {v : Nat} (h : v ∈ l ∨ hFenced d v = true) :
    hFenced (l.foldl (fun x u => lasting u c x) d) v = true := by
  induction l generalizing d with
  | nil => simpa using h
  | cons u l ih =>
    have hu : hBank u = b := hb u (.head _)
    have hlen : (hMap d b).length < 32 := by
      simp only [List.length_cons] at hroom
      omega
    have hmap : hMap (lasting u c d) b = hMap d b ++ [⟨hWordIdx u, c⟩] := by
      rw [hMap_lasting, hu, if_pos ⟨hlen, rfl⟩]
    refine ih (fun x hx => hb x (.tail _ hx)) ?_ ?_
    · rw [hmap, List.length_append]
      simp only [List.length_cons, List.length_nil] at hroom ⊢
      omega
    · rcases h with h | h
      · rcases List.mem_cons.1 h with rfl | h
        · refine .inr ?_
          rw [hFenced, hu, hmap, List.any_append]
          simp
        · exact .inl h
      · exact .inr (hFenced_lasting_of_fenced u c h)

/-- Partitions and patrol scrub as R96, R109 and R112 have them, where the other partitions are the five of the table. -/
theorem hamperPartitions_inTable :
    ((∀ (s : State) (n : Nat) (v : Word32), n < 6 → s.dev.up (islandOf 0x20010) = true → s.dev.on Reg.GLB_LOCK.LOCK = false →
      partBad s.dev n (bits v.toNat 0 7) (bits v.toNat 8 8) = true →
      exec (.writeHmpPart n v) s = .next (s.after (s.dev.cause intHmp 2 n 0))) ∧
    (∀ (s : State) (n : Nat) (v : Word32), n < 6 → s.dev.up (islandOf 0x20010) = true → s.dev.on Reg.GLB_LOCK.LOCK = false →
      partBad s.dev n (bits v.toNat 0 7) (bits v.toNat 8 8) = false →
      ∃ t, exec (.writeHmpPart n v) s = .next t ∧ t.dev.getN Reg.HMP_PARTn.BASE n = bits v.toNat 0 7 ∧
        t.dev.getN Reg.HMP_PARTn.SIZE n = bits v.toNat 8 8 ∧
        (∀ m < 6, m ≠ n → t.dev.getN Reg.HMP_PARTn.BASE m = s.dev.getN Reg.HMP_PARTn.BASE m ∧
          t.dev.getN Reg.HMP_PARTn.SIZE m = s.dev.getN Reg.HMP_PARTn.SIZE m) ∧ t.dev.hmp = s.dev.hmp) ∧
    (∀ (s : State) (n : Nat) (v : Word32), s.dev.up (islandOf 0x20010) = true → 6 ≤ n ∨ s.dev.on Reg.GLB_LOCK.LOCK = true →
      exec (.writeHmpPart n v) s = .next (s.after s.dev))) ∧
    ((∀ (s : State), s.dev.on Reg.HMP_STATUS.SCRUB_RUN = false → exec .scrubRead s = .next (s.after s.dev)) ∧
    (∀ (s : State) (l : Nat) (d : Dev), s.dev.on Reg.HMP_STATUS.SCRUB_RUN = true → l = s.dev.hmp.scrubLine →
      d = (if hUp s.dev (l * 16) then lineCheck .scrub (l * 16) s.dev else s.dev) →
      (l + 1 ≠ hLines → exec .scrubRead s = .next (s.after
        ((d.modHmp fun h => { h with scrubLine := l + 1 }).set Reg.HMP_SCRUB.UNIT ((l + 1) / 2 ^ 14)))) ∧
      (l + 1 = hLines → ∃ t, exec .scrubRead s = .next t ∧ t.dev.hmp.scrubLine = 0 ∧ t.dev.hmp.passStart = s.time.loc ∧
        t.dev.hmp.lateSeen = false ∧ t.dev.get Reg.HMP_SCRUB.UNIT = 0 ∧ t.dev.hmp.mem = s.dev.hmp.mem ∧
        t.dev.hmp.maps = d.hmp.maps ∧
        t.dev.get Reg.HMP_SCRUB.PASSES = (s.dev.get Reg.HMP_SCRUB.PASSES + 1) % 2 ^ Reg.HMP_SCRUB.PASSES.width)) ∧
    (∀ (d : Dev) (c : HCause) (w : Nat), badInLine d w = [] ∨ hUp d w = false → lineCheck c w d = d) ∧
    (∀ (d : Dev) (c : HCause) (w v : Nat), hUp d w = true → v ∈ badInLine d w →
      (hMap d (hBank w)).length + (badInLine d w).length ≤ 32 → hFenced (lineCheck c w d) v = true) ∧
    (∀ (s : State), s.dev.on Reg.HMP_STATUS.SCRUB_RUN = false ∨ s.dev.hmp.lateSeen = true ∨
        s.time.loc ≤ s.dev.hmp.passStart + 2000000000 → exec .scrubPassLate s = .next (s.after s.dev)) ∧
    (∀ (s : State), s.dev.on Reg.HMP_STATUS.SCRUB_RUN = true → s.dev.hmp.lateSeen = false →
      s.dev.hmp.passStart + 2000000000 < s.time.loc →
      exec .scrubPassLate s = .next (s.after ((s.dev.modHmp fun h => { h with lateSeen := true }).cause intHmp 4 0 0)))) := by
  refine ⟨⟨?_, ?_, ?_⟩, ?_, ?_, ?_, ?_, ?_, ?_⟩
  · intro s n v hn hu hl hb
    rw [exec_writeHmpPart, onWrite_up _ hu, writeHmpPart_refused hn hl hb]
  · intro s n v hn hu hl hb
    have hi (m : Nat) (hm : m < 6) (f : Field) (d : Dev) (hf : f.reg = At.HMP_PARTn) :
        (s.after d).dev.getN f m = d.getN f m := after_getN _ _ _ _ (hf ▸ hmpPart_notIntake hm)
    rw [exec_writeHmpPart, onWrite_up _ hu, writeHmpPart_accepted hn hl hb]
    refine ⟨_, rfl, ?_, ?_, fun m hb hm => ⟨?_, ?_⟩, ?_⟩
    · rw [hi _ hn _ _ rfl, Dev.getN_setN_apart _ _ _ _ _ _ (by decide) (by decide) (by decide),
        Dev.getN_setN_same _ _ _ _ (by decide)]
      exact Nat.mod_eq_of_lt (Nat.mod_lt _ (by decide))
    · rw [hi _ hn _ _ rfl, Dev.getN_setN_same _ _ _ _ (by decide)]
      exact Nat.mod_eq_of_lt (Nat.mod_lt _ (by decide))
    · rw [hi _ hb _ _ rfl, getN_hmpPart_other rfl rfl hm, getN_hmpPart_other rfl rfl hm]
    · rw [hi _ hb _ _ rfl, getN_hmpPart_other rfl rfl hm, getN_hmpPart_other rfl rfl hm]
    · rw [after_hmp]; rfl
  · intro s n v hu h
    rw [exec_writeHmpPart, onWrite_up _ hu, writeHmpPart_ignored h]
  · intro s h
    rw [exec_scrubRead, scrubRead_idle h]
  · intro s l d h hl hd
    have hd' : d = scrubbed l s.dev := hd
    subst hl hd'
    obtain ⟨hmem, hpasses⟩ := scrubbed_leaves s.dev.hmp.scrubLine s.dev
    rw [exec_scrubRead, scrubRead_line h]
    refine ⟨fun hne => by rw [if_neg hne], fun heq => ?_⟩
    rw [if_pos heq]
    refine ⟨_, rfl, ?_, ?_, ?_, ?_, ?_, ?_, ?_⟩
    · rw [after_hmp]; rfl
    · rw [after_hmp]; rfl
    · rw [after_hmp]; rfl
    · rw [after_get _ _ _ (not_intakeWord (by decide))]
      exact Dev.get_set_same _ _ _ (by decide) (by decide)
    · rw [after_hmp]; exact hmem
    · rw [after_hmp]; rfl
    · rw [after_get _ _ _ (not_intakeWord (by decide)), scrubStart, Dev.get_set_other _ _ _ _ (by decide),
        Dev.get_set_other _ _ _ _ (by decide), ← hpasses]
      exact Dev.get_set_mod _ _ _ (by decide)
  · intro d c w h
    rcases h with h | h
    · exact lineCheck_clean c w d h
    · exact if_neg (by simp [h])
  · intro d c w v hu hv hroom
    unfold lineCheck
    rw [if_pos hu]
    exact hFenced_lastings _ (fun x hx => hBank_line (mem_badInLine hx)) hroom (.inl hv)
  · intro s h
    rw [exec_scrubPassLate, scrubPassLate, if_neg]
    rcases h with h | h | h
    · simp [h]
    · simp [h]
    · simp only [Bool.and_eq_true, decide_eq_true_eq, not_and]
      omega
  · intro s h hl hlate
    rw [exec_scrubPassLate, scrubPassLate, if_pos]
    simp only [h, hl, Bool.not_false, Bool.and_true, Bool.true_and, decide_eq_true_eq]
    omega

theorem Dev.getN_eq (d : Dev) (f : Field) (i : Nat) : d.getN f i = f.ofWord (d.word (f.reg.addr i)) := rfl

/-! ## A state whose LOG_STATUS lags behind its intake -/

/-- Without events in hand a command ends with LOG_STATUS.INTAKE showing the intake's fill (R575). -/
theorem after_statusWord (s : State) {d : Dev} (h : d.evs = []) :
    (s.after d).dev.word (At.LOG_STATUS.addr 0) =
      Reg.LOG_STATUS.INTAKE.inWord (d.word (At.LOG_STATUS.addr 0)) s.log.intake.length := by
  simp only [State.after, finish, h, orderEvs, List.foldl_nil]
  exact (rword_rput _ _ _ _).trans (if_pos rfl)

/-- One event stands in the intake and LOG_STATUS shows none; every island the tests below need is up. -/
def intakeUnshown : State :=
  { (default : State) with
    log := { (default : Logbook) with intake := [default] }
    dev := { (default : Dev) with
      regs := [(At.GLB_LOCK.addr 0, 0), (At.GLB_SPLIT.addr 0, 0), (At.LOG_STATUS.addr 0, 0)]
      isl := [(28, ⟨.run, false, false⟩)] } }

/-- Refutes O25: the statement lets the other partition's number m be any number, and the register 262140 of HMP_PARTn, which the
table does not have, lies on LOG_STATUS, which the end of the command sets. For the six partitions of the table it holds
(`hamperPartitions_inTable`). -/
theorem not_hamperPartitions : ¬ Obligations.HamperPartitions := by
  unfold Obligations.HamperPartitions
  rintro ⟨⟨-, hwrite, -⟩, -⟩
  have hup : intakeUnshown.dev.up (islandOf 0x20010) = true := by decide
  have hlock : intakeUnshown.dev.on Reg.GLB_LOCK.LOCK = false := by decide
  have hfree : partBad intakeUnshown.dev 0 (bits (0 : Word32).toNat 0 7) (bits (0 : Word32).toNat 8 8) = false := by decide
  obtain ⟨t, ht, -, -, hother, -⟩ := hwrite intakeUnshown 0 0 (by decide) hup hlock hfree
  rw [exec_writeHmpPart, onWrite_up _ hup, writeHmpPart_accepted (by decide) hlock hfree] at ht
  cases ht
  have hsize := (hother 262140 (by decide)).2
  have haddr : Reg.HMP_PARTn.SIZE.reg.addr 262140 = At.LOG_STATUS.addr 0 := by decide
  have hold : intakeUnshown.dev.word (At.LOG_STATUS.addr 0) = 0 := by decide
  rw [Dev.getN_eq, Dev.getN_eq, haddr] at hsize
  rw [after_statusWord _ rfl, Dev.word_setN _ _ _ _ _ (by decide), Dev.word_setN _ _ _ _ _ (by decide), hold] at hsize
  exact absurd hsize (by decide)

/-! ## A released word that the memory lists twice (R107) -/

/-- A word that its check finds bad reads 0x7FC0_0002 while its bank's map has room. -/
theorem hread_found {c : HCause} {w : Nat} {d : Dev} (hup : hUp d w = true) (hbad : w ∈ badInLine d w)
    (hroom : (hMap d (hBank w)).length + (badInLine d w).length ≤ 32) : (hread c w d).1 = wParity := by
  have hfenced : hFenced (lineCheck c w d) w = true := by
    unfold lineCheck
    rw [if_pos hup]
    exact hFenced_lastings _ (fun x hx => hBank_line (mem_badInLine hx)) hroom (.inl hbad)
  rw [hread, hval_up (by simpa using hup), hBad, hfenced]
  rfl

/-- `twiceListed` with a write to word 0 that waits for its check reads. -/
def twiceListedWaiting : State :=
  { (default : State) with dev := { twiceListed with hmp := { twiceListed.hmp with checks := [(0, 1)] } } }

/-- Refutes O26: the statement lets the memory be any list, and where it lists a word twice the release of the word mends the
first entry alone; the read after it finds the other, fences the word again and answers 0x7FC0_0002 in place of the value
written. -/
theorem not_hamperFaults : ¬ Obligations.HamperFaults := by
  unfold Obligations.HamperFaults
  rintro ⟨-, hrelease, -⟩
  obtain ⟨t, ht, -, -, hreads, -⟩ := hrelease twiceListedWaiting 0 0 1 rfl rfl
  rw [exec_fenceReleaseCheck] at ht
  cases ht
  obtain ⟨x, hx⟩ : ∃ x, x = fenceReleaseCheck (0 / 4) true twiceListedWaiting.dev := ⟨_, rfl⟩
  have hmaps : hMap x (hBank 0) = [] := by rw [hx]; decide
  have hbad : badInLine x 0 = [0] := by rw [hx]; decide
  have hup : hUp x 0 = true := by rw [hx]; decide
  rw [← hx] at hreads
  have hafterUp : hUp (twiceListedWaiting.after x).dev 0 = true := by rw [hUp, after_up, ← hUp, hup]
  have hafterMap : hMap (twiceListedWaiting.after x).dev (hBank 0) = [] := by rw [hMap, after_hmp, ← hMap, hmaps]
  have hafterBad : badInLine (twiceListedWaiting.after x).dev 0 = [0] := by
    rw [← hbad]
    simp only [badInLine, hFenced, hMap, after_hmp]
  have hread : (hread .engine 0 (twiceListedWaiting.after x).dev).1 = wParity :=
    hread_found hafterUp (by rw [hafterBad]; decide) (by rw [hafterMap, hafterBad]; decide)
  exact absurd (hread.symm.trans (hreads (by decide))) (by decide)

end Sys2Proof.Machine

/-!
PROOFS. Which of the words one watches a meaning leaves alone.
-/

namespace Sys2Proof.Machine

open Sys2Proof

/-- From `e` to `d` no word of `W` has changed. -/
def Apart (W : Nat → Prop) (e d : Dev) : Prop := ∀ a, W a → d.word a = e.word a

variable {W : Nat → Prop} {e d : Dev}

theorem Apart.refl (W : Nat → Prop) (d : Dev) : Apart W d d := fun _ _ => rfl

theorem Apart.trans {a b c : Dev} (h : Apart W a b) (k : Apart W b c) : Apart W a c := fun x hx => (k x hx).trans (h x hx)

/-- A register among the watched words reads what it read before. -/
theorem Apart.getN (h : Apart W e d) {f : Field} {i : Nat} (hf : W (f.reg.addr i)) : d.getN f i = e.getN f i :=
  getN_of_word (h _ hf)

theorem Apart.get (h : Apart W e d) {f : Field} (hf : W (f.reg.addr 0)) : d.get f = e.get f := h.getN hf

theorem Apart.onN (h : Apart W e d) {f : Field} {i : Nat} (hf : W (f.reg.addr i)) : d.onN f i = e.onN f i := by
  unfold Dev.onN
  rw [h.getN hf]

theorem Apart.ofRegs {x : Dev} (h : Apart W e d) (hx : x.regs = d.regs) : Apart W e x := fun a ha => by
  rw [Dev.word, hx, ← Dev.word]
  exact h a ha

theorem Apart.ofLow {x : Dev} {lo : Nat} (h : Apart W e d) (hx : Low lo d x) (hW : ∀ a, W a → a < lo) : Apart W e x :=
  h.trans fun a ha => hx a (hW a ha)

theorem Apart.setN {f : Field} {i v : Nat} (h : Apart W e d) (hf : ¬ W (f.reg.addr i)) : Apart W e (d.setN f i v) :=
  fun a ha => by
    rw [Dev.word_setN _ _ _ _ _ fun he => hf (he ▸ ha)]
    exact h a ha

theorem Apart.set {f : Field} {v : Nat} (h : Apart W e d) (hf : ¬ W (f.reg.addr 0)) : Apart W e (d.set f v) := h.setN hf

theorem Apart.setB {f : Field} {i : Nat} {v : Bool} (h : Apart W e d) (hf : ¬ W (f.reg.addr i)) :
    Apart W e (d.setB f i v) := h.setN hf

theorem Apart.sat {f : Field} {i : Nat} (h : Apart W e d) (hf : ¬ W (f.reg.addr i)) : Apart W e (d.sat f i) := h.setN hf

theorem Apart.addSat {f : Field} {i v : Nat} (h : Apart W e d) (hf : ¬ W (f.reg.addr i)) : Apart W e (d.addSat f i v) :=
  h.setN hf

theorem Apart.wrapInc {f : Field} {i : Nat} (h : Apart W e d) (hf : ¬ W (f.reg.addr i)) : Apart W e (d.wrapInc f i) :=
  h.setN hf

theorem Apart.cause {b : IntBlk} {k i x : Nat} (h : Apart W e d) (hb : ¬ W b.addr) : Apart W e (d.cause b k i x) :=
  fun a ha => by
    rw [Dev.cause_word_other _ _ _ _ _ fun he => hb (he ▸ ha)]
    exact h a ha

theorem Apart.event {k i x y : Nat} (h : Apart W e d) : Apart W e (d.event k i x y) := h

theorem Apart.ite {c : Prop} [Decidable c] {a b : Dev} (ha : Apart W e a) (hb : Apart W e b) :
    Apart W e (if c then a else b) := by
  split
  · exact ha
  · exact hb

theorem Apart.foldl {β : Type} {f : Dev → β → Dev} (hf : ∀ b d, Apart W e d → Apart W e (f d b)) (l : List β)
    (h : Apart W e d) : Apart W e (l.foldl f d) := by
  induction l generalizing d with
  | nil => exact h
  | cons b l ih => exact ih (hf b d h)

/-! ## Interrupt registers -/

/-- A cause clears no cause. -/
theorem Dev.cause_bit (d : Dev) (b : IntBlk) (k i x : Nat) {a j : Nat} (h : bitOf (d.word a) j = true) :
    bitOf ((d.cause b k i x).word a) j = true := by
  rw [Dev.cause_word]
  split
  · simp only [bitOf, BitVec.getLsbD_or] at h ⊢
    simp [h]
  · exact h

theorem Dev.bit_setN (d : Dev) (f : Field) (i v : Nat) {a j : Nat} (hf : a ≠ f.reg.addr i)
    (h : bitOf (d.word a) j = true) : bitOf ((d.setN f i v).word a) j = true := by
  rwa [Dev.word_setN _ _ _ _ _ hf]

/-! ## Words below the Logbook's -/

theorem notIntake_of_lt {a : Nat} (h : a < 0x120000) : ¬ intakeWord a := by
  rintro (h1 | h1 | h1 | h1 | ⟨c, -, h1⟩) <;> omega

/-- The place of a register of a block with one word for each. -/
theorem RegAt.addr_single {r : RegAt} {b s c : Nat} (h : r = ⟨b, s, c, 1, 0⟩) (n : Nat) : r.addr n = b + n * s := by
  simp [h, RegAt.addr, Nat.mod_one]

end Sys2Proof.Machine

/-!
PROOFS. Links of the field ports, their control register and what they receive (R122 to R126, R128, R144, R145, R157, R162,
R666).
-/

namespace Sys2Proof.Machine

open Sys2Proof

/-! ## What the commands mean -/

theorem exec_frameReceive (port : Nat) (f : RxFrame) (s : State) :
    exec (.frameReceive port f) s = .next (s.after (frameReceive s.time port f s.dev)) := rfl

theorem exec_linkDown (port : Nat) (s : State) :
    exec (.linkDown port) s = .next (s.after (if port < 16 then linkGoDown port s.dev else s.dev)) := rfl

theorem exec_linkUp (port : Nat) (s : State) : exec (.linkUp port) s = .next (s.after (linkGoUp port s.dev)) := rfl

theorem exec_pauseFrame {n q : Nat} {f : RxFrame} (h : f.body = .pause q) (s : State) :
    exec (.pauseFrameReceive n f) s = exec (.frameReceive n f) s := by
  have hrun : exec (.pauseFrameReceive n f) s = execPauseFrameReceive n f s := rfl
  rw [hrun, execPauseFrameReceive]
  simp only [h]
  rfl

theorem exec_pfcFrame {n en : Nat} {qs : List Nat} {f : RxFrame} (h : f.body = .pfc en qs) (s : State) :
    exec (.pauseFrameReceive n f) s = exec (.frameReceive n f) s := by
  have hrun : exec (.pauseFrameReceive n f) s = execPauseFrameReceive n f s := rfl
  rw [hrun, execPauseFrameReceive]
  simp only [h]
  rfl

theorem exec_writeFpCtrl (port : Nat) (v : Word32) (s : State) :
    exec (.writeFpCtrl port v) s =
      .next (s.after (if port < 16 then onWrite (0x40000 + port * 0x2000) (writeFpCtrl port v) s.dev else s.dev)) := rfl

/-! ## Words of the ports' blocks -/

/-- The words at some offsets in the blocks of the field ports. -/
def fpAt (l : List Nat) (a : Nat) : Prop := 0x40000 ≤ a ∧ a < 0x60000 ∧ a % 0x2000 ∈ l

theorem fpAt_reg {l : List Nat} {r : RegAt} {b n : Nat} (hr : r = ⟨0x40000 + b, 0x2000, 16, 1, 0⟩) (hn : n < 16)
    (hb : b < 0x2000) (h : b ∈ l) : fpAt l (r.addr n) := by
  have ha : r.addr n = 0x40000 + b + n * 0x2000 := RegAt.addr_single hr n
  have hmod : (0x40000 + b + n * 0x2000) % 0x2000 = b := by omega
  exact ⟨by omega, by omega, by rw [ha, hmod]; exact h⟩

theorem not_fpAt_reg {l : List Nat} {r : RegAt} {b n : Nat} (hr : r = ⟨0x40000 + b, 0x2000, 16, 1, 0⟩)
    (hb : b < 0x2000) (h : b ∉ l) : ¬ fpAt l (r.addr n) := by
  have ha : r.addr n = 0x40000 + b + n * 0x2000 := RegAt.addr_single hr n
  have hmod : (0x40000 + b + n * 0x2000) % 0x2000 = b := by omega
  rintro ⟨-, -, hm⟩
  rw [ha, hmod] at hm
  exact h hm

theorem fp_notIntake {n : Nat} (hn : n < 16) {r : RegAt} {b : Nat} (hr : r = ⟨0x40000 + b, 0x2000, 16, 1, 0⟩)
    (hb : b < 0x2000) : ¬ intakeWord (r.addr n) :=
  notIntake_of_lt (by rw [RegAt.addr_single hr n]; omega)

theorem intFp_addr (n : Nat) : (intFp n).addr = 0x40008 + n * 0x2000 := rfl

theorem intFp_notIntake {n : Nat} (hn : n < 16) : ¬ intakeWord (intFp n).addr :=
  notIntake_of_lt (by rw [intFp_addr]; omega)

/-- The field of a port's register after a command. -/
theorem after_fp (s : State) (d : Dev) {n : Nat} (hn : n < 16) {f : Field} {b : Nat}
    (hr : f.reg = ⟨0x40000 + b, 0x2000, 16, 1, 0⟩) (hb : b < 0x2000) : (s.after d).dev.getN f n = d.getN f n :=
  after_getN _ _ _ _ (fp_notIntake hn hr hb)

/-! ## The full counter set (R166, R167) -/

theorem fullLo_addr {k : Nat} (n : Nat) (hk : k < 32) :
    Reg.FP_FULL_LO.N.reg.addr (n * 32 + k) = 0x40800 + n * 0x2000 + k * 8 := by
  simp only [Reg.FP_FULL_LO.N, At.FP_FULL_LO, RegAt.addr]
  omega

theorem fullHi_addr {k : Nat} (n : Nat) (hk : k < 32) :
    Reg.FP_FULL_HI.N.reg.addr (n * 32 + k) = 0x40804 + n * 0x2000 + k * 8 := by
  simp only [Reg.FP_FULL_HI.N, At.FP_FULL_HI, RegAt.addr]
  omega

theorem statHalf_addr (n : Nat) : Reg.FP_STAT_HALF.K.reg.addr n = 0x400A0 + n * 0x2000 :=
  RegAt.addr_single (r := At.FP_STAT_HALF) rfl n

variable {e d : Dev}

/-- The counters of the full set lie apart from the registers below them. -/
theorem Apart.fullAdd {l : List Nat} {n k m : Nat} (h : Apart (fpAt l) e d) (hk : k < 32)
    (hl : ∀ x ∈ l, x < 0x800 ∧ x ≠ 8 ∧ x ≠ 0xA0) : Apart (fpAt l) e (fullAdd n k m d) := by
  have hlo : ¬ fpAt l (Reg.FP_FULL_LO.N.reg.addr (n * 32 + k)) := by
    rw [fullLo_addr n hk]
    rintro ⟨-, -, hm⟩
    have := (hl _ hm).1
    omega
  have hhi : ¬ fpAt l (Reg.FP_FULL_HI.N.reg.addr (n * 32 + k)) := by
    rw [fullHi_addr n hk]
    rintro ⟨-, -, hm⟩
    have := (hl _ hm).1
    omega
  have hhalf : ¬ fpAt l (Reg.FP_STAT_HALF.K.reg.addr n) :=
    not_fpAt_reg (b := 0xA0) rfl (by decide) fun hm => (hl _ hm).2.2 rfl
  have hint : ¬ fpAt l (intFp n).addr := by
    rw [intFp_addr]
    rintro ⟨-, -, hm⟩
    have := (hl _ hm).2.1
    omega
  unfold Machine.fullAdd
  exact .ite (((h.setN hlo).setN hhi).setN hhalf |>.cause hint) ((h.setN hlo).setN hhi)

theorem fullAdd_bit {n k m a j : Nat} (hk : k < 32) (ha : a % 0x2000 = 8) (h : bitOf (d.word a) j = true) :
    bitOf ((fullAdd n k m d).word a) j = true := by
  have hlo : a ≠ Reg.FP_FULL_LO.N.reg.addr (n * 32 + k) := by rw [fullLo_addr n hk]; omega
  have hhi : a ≠ Reg.FP_FULL_HI.N.reg.addr (n * 32 + k) := by rw [fullHi_addr n hk]; omega
  have hhalf : a ≠ Reg.FP_STAT_HALF.K.reg.addr n := by
    rw [statHalf_addr]
    omega
  have h1 := Dev.bit_setN _ Reg.FP_FULL_HI.N (n * 32 + k) ((fullVal d n k + m) % 2 ^ 48 / 2 ^ 32) hhi
    (Dev.bit_setN _ Reg.FP_FULL_LO.N (n * 32 + k) ((fullVal d n k + m) % 2 ^ 48) hlo h)
  unfold fullAdd
  dsimp only
  split
  · exact Dev.cause_bit _ _ _ _ _ (Dev.bit_setN _ _ _ _ hhalf h1)
  · exact h1

theorem intFp_mod (n : Nat) : (intFp n).addr % 0x2000 = 8 := by
  rw [intFp_addr]
  omega

/-- Counters of the full set count apart. -/
theorem fullVal_fullAdd {n k m j : Nat} (d : Dev) (hk : k < 32) (hj : j < 32) :
    fullVal (fullAdd n k m d) n j = if j = k then (fullVal d n k + m) % 2 ^ 48 else fullVal d n j := by
  have hsplit : fullVal (((d.setN Reg.FP_FULL_LO.N (n * 32 + k) ((fullVal d n k + m) % 2 ^ 48)).setN Reg.FP_FULL_HI.N
      (n * 32 + k) ((fullVal d n k + m) % 2 ^ 48 / 2 ^ 32))) n j =
      if j = k then (fullVal d n k + m) % 2 ^ 48 else fullVal d n j := by
    generalize hw : (fullVal d n k + m) % 2 ^ 48 = w
    have hlt : w < 2 ^ 48 := hw ▸ Nat.mod_lt _ (by decide)
    unfold fullVal
    rw [Dev.getN_setN_addr _ Reg.FP_FULL_HI.N Reg.FP_FULL_LO.N _ _ _ (by rw [fullLo_addr n hj, fullHi_addr n hk]; omega)]
    by_cases hjk : j = k
    · subst hjk
      rw [if_pos rfl, Dev.getN_setN_same _ _ _ _ (by decide), Dev.getN_setN_same _ _ _ _ (by decide)]
      simp only [Reg.FP_FULL_LO.N, Reg.FP_FULL_HI.N]
      omega
    · rw [if_neg hjk, Dev.getN_setN_addr _ Reg.FP_FULL_LO.N Reg.FP_FULL_LO.N _ _ _
          (by rw [fullLo_addr n hj, fullLo_addr n hk]; omega),
        Dev.getN_setN_addr _ Reg.FP_FULL_HI.N Reg.FP_FULL_HI.N _ _ _
          (by rw [fullHi_addr n hj, fullHi_addr n hk]; omega),
        Dev.getN_setN_addr _ Reg.FP_FULL_LO.N Reg.FP_FULL_HI.N _ _ _
          (by rw [fullHi_addr n hj, fullLo_addr n hk]; omega)]
  rw [← hsplit]
  have hhalf {f : Field} {i : Nat} (hf : f.reg.addr i % 0x2000 ≥ 0x800) (y : Dev) (v a b : Nat) :
      ((y.setN Reg.FP_STAT_HALF.K n v).cause (intFp n) 5 a b).getN f i = y.getN f i := by
    rw [Dev.cause_getN _ _ _ _ _ _ _ (by rw [intFp_addr]; omega), Dev.getN_setN_addr]
    rw [statHalf_addr]
    omega
  unfold fullAdd
  dsimp only
  split
  · unfold fullVal
    rw [hhalf (by rw [fullLo_addr n hj]; omega), hhalf (by rw [fullHi_addr n hj]; omega)]
  · rfl

theorem tame_fullAdd (n k m : Nat) (d : Dev) : Tame [] d (fullAdd n k m d) := (Tame.refl _ _).fullAdd

/-! ## Links (R124, R156) -/

theorem linkGoUp_idle {n : Nat} (h : portRuns d n = false ∨ linkUp d n = true) : linkGoUp n d = d := by
  refine if_pos ?_
  rcases h with h | h <;> simp [h]

theorem linkGoUp_rises {n : Nat} (h : portRuns d n = true) (hl : linkUp d n = false) :
    linkGoUp n d = (((d.setN Reg.FP_STATUS.LINK n 1).setB Reg.FP_STATUS.AN_DONE n
      (d.getN Reg.FP_CTRL.SPEED n == 0 && d.onN Reg.FP_CTRL.AN_EN n)).setB Reg.FP_STATUS.FEC_LOCK n
        (d.getN Reg.FP_CTRL.FEC n != 0)).cause (intFp n) 0 n 1 := if_neg (by simp [h, hl])

/-- The port's status with the link down, and the change shown. -/
def linkFallen (n : Nat) (d : Dev) : Dev :=
  (((d.setN Reg.FP_STATUS.LINK n 0).setN Reg.FP_STATUS.AN_DONE n 0).setN Reg.FP_STATUS.FEC_LOCK n 0).cause (intFp n) 0 n 0

theorem linkGoDown_idle {n : Nat} (h : linkUp d n = false) : linkGoDown n d = d := if_pos (by simp [h])

theorem linkGoDown_falls {n : Nat} (h : linkUp d n = true) :
    linkGoDown n d = if pairMode d n ≠ 0 then (fullAdd n 23 1 (linkFallen n d)).event 113 n n 0 else fullAdd n 23 1 (linkFallen n d) := by
  unfold linkGoDown
  rw [if_neg (by simp [h])]
  rfl

theorem linkGoDown_words {n : Nat} (h : linkUp d n = true) : (linkGoDown n d).regs = (fullAdd n 23 1 (linkFallen n d)).regs := by
  rw [linkGoDown_falls h]
  split <;> rfl

theorem fpStatus_addr (n : Nat) : At.FP_STATUS.addr n = 0x40004 + n * 0x2000 := RegAt.addr_single rfl n

theorem linkFallen_link (n : Nat) (d : Dev) : (linkFallen n d).getN Reg.FP_STATUS.LINK n = 0 := by
  unfold linkFallen
  rw [Dev.cause_getN _ _ _ _ _ _ _ (by rw [intFp_addr, show Reg.FP_STATUS.LINK.reg = At.FP_STATUS from rfl, fpStatus_addr]; omega),
    Dev.getN_setN_apart _ _ _ _ _ _ (by decide) (by decide) (by decide),
    Dev.getN_setN_apart _ _ _ _ _ _ (by decide) (by decide) (by decide), Dev.getN_setN_same _ _ _ _ (by decide)]
  rfl

/-- A link that goes down shows LINK = 0. -/
theorem linkGoDown_link {n : Nat} (hn : n < 16) (d : Dev) : linkUp (linkGoDown n d) n = false := by
  cases h : linkUp d n with
  | false => rw [linkGoDown_idle h, h]
  | true =>
    have hkeep : Apart (fpAt [4]) (linkFallen n d) (fullAdd n 23 1 (linkFallen n d)) :=
      (Apart.refl _ _).fullAdd (by decide) (by decide)
    have hlink : (linkGoDown n d).getN Reg.FP_STATUS.LINK n = 0 := by
      rw [Dev.getN, linkGoDown_words h, ← Dev.getN,
        hkeep.getN (fpAt_reg (b := 4) rfl hn (by decide) (by decide)), linkFallen_link]
    simp [linkUp, Dev.onN, hlink]

theorem linkFallen_bit {n a j : Nat} (ha : a = (intFp n).addr) (h : bitOf (d.word a) j = true) :
    bitOf ((linkFallen n d).word a) j = true := by
  have hst : a ≠ At.FP_STATUS.addr n := by
    rw [ha, intFp_addr, fpStatus_addr]
    omega
  exact Dev.cause_bit _ _ _ _ _ (Dev.bit_setN _ _ _ _ hst (Dev.bit_setN _ _ _ _ hst (Dev.bit_setN _ _ _ _ hst h)))

/-- A link that goes down clears no cause of its port. -/
theorem linkGoDown_bit {n j : Nat} (h : bitOf (d.word (intFp n).addr) j = true) :
    bitOf ((linkGoDown n d).word (intFp n).addr) j = true := by
  cases hl : linkUp d n with
  | false => rwa [linkGoDown_idle hl]
  | true =>
    rw [Dev.word, linkGoDown_words hl, ← Dev.word]
    exact fullAdd_bit (by decide) (intFp_mod n) (linkFallen_bit rfl h)

theorem linkGoDown_shows {n : Nat} (h : linkUp d n = true) : bitOf ((linkGoDown n d).word (intFp n).addr) 0 = true := by
  rw [Dev.word, linkGoDown_words h, ← Dev.word]
  exact fullAdd_bit (by decide) (intFp_mod n) (Dev.cause_sets _ _ _ _ _ (by decide))

theorem linkGoDown_ports (n : Nat) (d : Dev) : (linkGoDown n d).ports = d.ports :=
  ((Tame.refl [] d).linkGoDown (n := n)).stands .ports (by decide)

/-- A link that goes down leaves the control register. -/
theorem linkGoDown_ctrl {n : Nat} (hn : n < 16) {f : Field} (hf : f.reg = At.FP_CTRL) (d : Dev) :
    (linkGoDown n d).getN f n = d.getN f n := by
  cases hl : linkUp d n with
  | false => rw [linkGoDown_idle hl]
  | true =>
    have hst : ¬ fpAt [0] (At.FP_STATUS.addr n) := not_fpAt_reg (b := 4) rfl (by decide) (by decide)
    have hint : ¬ fpAt [0] (intFp n).addr := by
      rintro ⟨-, -, hm⟩
      rw [intFp_mod] at hm
      exact absurd hm (by decide)
    have hkeep : Apart (fpAt [0]) d (fullAdd n 23 1 (linkFallen n d)) := by
      refine Apart.fullAdd ?_ (by decide) (by decide)
      unfold linkFallen
      exact ((((Apart.refl _ d).setN hst).setN hst).setN hst).cause hint
    rw [Dev.getN, linkGoDown_words hl, ← Dev.getN]
    exact hkeep.getN (hf ▸ fpAt_reg (b := 0) rfl hn (by decide) (by decide))

/-! ## The control register (R122, R123, R666) -/

/-- A field of a port's control register that another field's write leaves. -/
theorem getN_fpCtrl_other {f g : Field} (h : (f.fits && g.fits && f.apart g) = true) (n v : Nat) (d : Dev) :
    (d.setN f n v).getN g n = d.getN g n := by
  simp only [Bool.and_eq_true] at h
  exact Dev.getN_setN_apart d f g n n v h.1.1 h.1.2 h.2

theorem getN_fpCtrl_cause {g : Field} (hg : g.reg = At.FP_CTRL) (n k i x : Nat) (d : Dev) :
    (d.cause (intFp n) k i x).getN g n = d.getN g n :=
  Dev.cause_getN _ _ _ _ _ _ _ (by
    rw [hg, intFp_addr, RegAt.addr_single (r := At.FP_CTRL) rfl n]
    omega)

/-- Does a write of FP_CTRL ask for another speed, FEC or auto-negotiation? -/
def ctrlDiffers (n : Nat) (v : Word32) (d : Dev) : Bool :=
  bits v.toNat 1 2 != d.getN Reg.FP_CTRL.SPEED n || bits v.toNat 3 2 != d.getN Reg.FP_CTRL.FEC n ||
    bits v.toNat 5 1 != d.getN Reg.FP_CTRL.AN_EN n

/-- EN, LOOP and PTP_TC as written. -/
def ctrlPlain (n : Nat) (v : Word32) (d : Dev) : Dev :=
  ((d.setN Reg.FP_CTRL.EN n (bits v.toNat 0 1)).setN Reg.FP_CTRL.LOOP n (bits v.toNat 6 1)).setN Reg.FP_CTRL.PTP_TC n
    (bits v.toNat 8 3)

/-- The control register as written, or the refusal of its speed shown. -/
def ctrlSet (n : Nat) (v : Word32) (d : Dev) : Dev :=
  if d.onN Reg.FP_CTRL.EN n then
    if ctrlDiffers n v d then (ctrlPlain n v d).cause (intFp n) 4 n 0 else ctrlPlain n v d
  else if fecOk (bits v.toNat 1 2) (bits v.toNat 3 2) then
    (((ctrlPlain n v d).setN Reg.FP_CTRL.SPEED n (bits v.toNat 1 2)).setN Reg.FP_CTRL.FEC n (bits v.toNat 3 2)).setN
      Reg.FP_CTRL.AN_EN n (bits v.toNat 5 1)
  else ((ctrlPlain n v d).setN Reg.FP_CTRL.AN_EN n (bits v.toNat 5 1)).cause (intFp n) 4 n 0

/-- Does the write change LOOP? -/
def ctrlLoops (n : Nat) (v : Word32) (d : Dev) : Bool := bits v.toNat 6 1 != d.getN Reg.FP_CTRL.LOOP n

/-- With another LOOP the frames on their way back are gone. -/
def ctrlLooped (n : Nat) (v : Word32) (d : Dev) : Dev :=
  if ctrlLoops n v d then (ctrlSet n v d).modPort n fun p => { p with looped := [], loopPtp := [] } else ctrlSet n v d

theorem writeFpCtrl_cases (n : Nat) (v : Word32) (d : Dev) :
    writeFpCtrl n v d =
      if ctrlLoops n v d || (d.onN Reg.FP_CTRL.EN n && bits v.toNat 0 1 == 0) then linkGoDown n (ctrlLooped n v d)
      else ctrlLooped n v d := rfl

theorem ctrlLooped_regs (n : Nat) (v : Word32) (d : Dev) : (ctrlLooped n v d).regs = (ctrlSet n v d).regs := by
  unfold ctrlLooped
  split <;> rfl

theorem ctrlPlain_fields (n : Nat) (v : Word32) (d : Dev) :
    (ctrlPlain n v d).getN Reg.FP_CTRL.EN n = bits v.toNat 0 1 ∧ (ctrlPlain n v d).getN Reg.FP_CTRL.LOOP n = bits v.toNat 6 1 ∧
      (ctrlPlain n v d).getN Reg.FP_CTRL.PTP_TC n = bits v.toNat 8 3 ∧
      (ctrlPlain n v d).getN Reg.FP_CTRL.SPEED n = d.getN Reg.FP_CTRL.SPEED n ∧
      (ctrlPlain n v d).getN Reg.FP_CTRL.FEC n = d.getN Reg.FP_CTRL.FEC n ∧
      (ctrlPlain n v d).getN Reg.FP_CTRL.AN_EN n = d.getN Reg.FP_CTRL.AN_EN n := by
  unfold ctrlPlain
  refine ⟨?_, ?_, ?_, ?_, ?_, ?_⟩
  · rw [getN_fpCtrl_other (by decide), getN_fpCtrl_other (by decide), Dev.getN_setN_same _ _ _ _ (by decide)]
    exact Nat.mod_eq_of_lt (Nat.mod_lt _ (by decide))
  · rw [getN_fpCtrl_other (by decide), Dev.getN_setN_same _ _ _ _ (by decide)]
    exact Nat.mod_eq_of_lt (Nat.mod_lt _ (by decide))
  · rw [Dev.getN_setN_same _ _ _ _ (by decide)]
    exact Nat.mod_eq_of_lt (Nat.mod_lt _ (by decide))
  all_goals rw [getN_fpCtrl_other (by decide), getN_fpCtrl_other (by decide),
    getN_fpCtrl_other (by decide)]

/-- EN, LOOP and PTP_TC are stored in every case. -/
theorem ctrlSet_plain (n : Nat) (v : Word32) (d : Dev) {f : Field} (hf : f.reg = At.FP_CTRL)
    (h : f ∈ [Reg.FP_CTRL.EN, Reg.FP_CTRL.LOOP, Reg.FP_CTRL.PTP_TC]) :
    (ctrlSet n v d).getN f n = (ctrlPlain n v d).getN f n := by
  have hother (g : Field) (hg : g ∈ [Reg.FP_CTRL.SPEED, Reg.FP_CTRL.FEC, Reg.FP_CTRL.AN_EN]) :
      (g.fits && f.fits && g.apart f) = true := by
    simp only [List.mem_cons, List.not_mem_nil, or_false] at h hg
    rcases h with rfl | rfl | rfl <;> rcases hg with rfl | rfl | rfl <;> decide
  have hset (g : Field) (hg : g ∈ [Reg.FP_CTRL.SPEED, Reg.FP_CTRL.FEC, Reg.FP_CTRL.AN_EN]) (x : Nat) (y : Dev) :
      (y.setN g n x).getN f n = y.getN f n := getN_fpCtrl_other (hother g hg) n x y
  unfold ctrlSet
  split
  · split
    · rw [getN_fpCtrl_cause hf]
    · rfl
  · split
    · rw [hset _ (by decide), hset _ (by decide), hset _ (by decide)]
    · rw [getN_fpCtrl_cause hf, hset _ (by decide)]

/-- While the port is off an allowed speed is stored. -/
theorem ctrlSet_allowed {n : Nat} {v : Word32} {d : Dev} (hoff : d.onN Reg.FP_CTRL.EN n = false)
    (hok : fecOk (bits v.toNat 1 2) (bits v.toNat 3 2) = true) :
    (ctrlSet n v d).getN Reg.FP_CTRL.SPEED n = bits v.toNat 1 2 ∧ (ctrlSet n v d).getN Reg.FP_CTRL.FEC n = bits v.toNat 3 2 ∧
      (ctrlSet n v d).getN Reg.FP_CTRL.AN_EN n = bits v.toNat 5 1 := by
  unfold ctrlSet
  rw [if_neg (by simp [hoff]), if_pos hok]
  refine ⟨?_, ?_, ?_⟩
  · rw [getN_fpCtrl_other (by decide), getN_fpCtrl_other (by decide), Dev.getN_setN_same _ _ _ _ (by decide)]
    exact Nat.mod_eq_of_lt (Nat.mod_lt _ (by decide))
  · rw [getN_fpCtrl_other (by decide), Dev.getN_setN_same _ _ _ _ (by decide)]
    exact Nat.mod_eq_of_lt (Nat.mod_lt _ (by decide))
  · rw [Dev.getN_setN_same _ _ _ _ (by decide)]
    exact Nat.mod_eq_of_lt (Nat.mod_lt _ (by decide))

/-- A speed that is not allowed is refused. -/
theorem ctrlSet_refused {n : Nat} {v : Word32} {d : Dev} (hoff : d.onN Reg.FP_CTRL.EN n = false)
    (hok : fecOk (bits v.toNat 1 2) (bits v.toNat 3 2) = false) :
    (ctrlSet n v d).getN Reg.FP_CTRL.SPEED n = d.getN Reg.FP_CTRL.SPEED n ∧
      (ctrlSet n v d).getN Reg.FP_CTRL.FEC n = d.getN Reg.FP_CTRL.FEC n ∧
      bitOf ((ctrlSet n v d).word (intFp n).addr) 4 = true := by
  obtain ⟨-, -, -, hspeed, hfec, -⟩ := ctrlPlain_fields n v d
  unfold ctrlSet
  rw [if_neg (by simp [hoff]), if_neg (by simp [hok])]
  refine ⟨?_, ?_, Dev.cause_sets _ _ _ _ _ (by decide)⟩
  · rw [getN_fpCtrl_cause rfl, getN_fpCtrl_other (by decide), hspeed]
  · rw [getN_fpCtrl_cause rfl, getN_fpCtrl_other (by decide), hfec]

/-- While the port is on its speed stands. -/
theorem ctrlSet_running {n : Nat} {v : Word32} {d : Dev} (hon : d.onN Reg.FP_CTRL.EN n = true) :
    (ctrlSet n v d).getN Reg.FP_CTRL.SPEED n = d.getN Reg.FP_CTRL.SPEED n ∧
      (ctrlSet n v d).getN Reg.FP_CTRL.FEC n = d.getN Reg.FP_CTRL.FEC n ∧
      (ctrlSet n v d).getN Reg.FP_CTRL.AN_EN n = d.getN Reg.FP_CTRL.AN_EN n ∧
      (ctrlDiffers n v d = true → bitOf ((ctrlSet n v d).word (intFp n).addr) 4 = true) := by
  obtain ⟨-, -, -, hspeed, hfec, han⟩ := ctrlPlain_fields n v d
  unfold ctrlSet
  rw [if_pos hon]
  cases hd : ctrlDiffers n v d with
  | false =>
    rw [if_neg (by decide)]
    exact ⟨hspeed, hfec, han, fun h => absurd h (by decide)⟩
  | true =>
    rw [if_pos rfl]
    refine ⟨?_, ?_, ?_, fun _ => Dev.cause_sets _ _ _ _ _ (by decide)⟩
    · rw [getN_fpCtrl_cause rfl, hspeed]
    · rw [getN_fpCtrl_cause rfl, hfec]
    · rw [getN_fpCtrl_cause rfl, han]

/-- The status of the link stands until it is taken down. -/
theorem ctrlSet_link {n : Nat} (v : Word32) (d : Dev) : linkUp (ctrlSet n v d) n = linkUp d n := by
  have hset (f : Field) (hf : f.reg = At.FP_CTRL) (x : Nat) (y : Dev) : linkUp (y.setN f n x) n = linkUp y n := by
    unfold linkUp Dev.onN
    rw [Dev.getN_setN_addr]
    rw [hf, show Reg.FP_STATUS.LINK.reg = At.FP_STATUS from rfl, fpStatus_addr, RegAt.addr_single (r := At.FP_CTRL) rfl n]
    omega
  have hcause (y : Dev) : linkUp (y.cause (intFp n) 4 n 0) n = linkUp y n := by
    unfold linkUp
    refine Dev.cause_onN _ _ _ _ _ _ _ ?_
    rw [intFp_addr, show Reg.FP_STATUS.LINK.reg = At.FP_STATUS from rfl, fpStatus_addr]
    omega
  have hplain : linkUp (ctrlPlain n v d) n = linkUp d n := by
    unfold ctrlPlain
    rw [hset _ rfl, hset _ rfl, hset _ rfl]
  unfold ctrlSet
  split
  · split
    · rw [hcause, hplain]
    · exact hplain
  · split
    · rw [hset _ rfl, hset _ rfl, hset _ rfl, hplain]
    · rw [hcause, hset _ rfl, hplain]

/-- What the write leaves is what the control register was set to, but for the link. -/
theorem writeFpCtrl_leaves {n : Nat} (hn : n < 16) (v : Word32) (d : Dev) :
    (∀ f : Field, f.reg = At.FP_CTRL → (writeFpCtrl n v d).getN f n = (ctrlSet n v d).getN f n) ∧
      (∀ j, bitOf ((ctrlSet n v d).word (intFp n).addr) j = true →
        bitOf ((writeFpCtrl n v d).word (intFp n).addr) j = true) ∧
      linkUp (writeFpCtrl n v d) n = (linkUp d n && (bits v.toNat 6 1 == d.getN Reg.FP_CTRL.LOOP n) &&
        !(d.onN Reg.FP_CTRL.EN n && bits v.toNat 0 1 == 0)) := by
  have hregs := ctrlLooped_regs n v d
  have hget (f : Field) : (ctrlLooped n v d).getN f n = (ctrlSet n v d).getN f n := by rw [Dev.getN, hregs, Dev.getN]
  have hword (a : Nat) : (ctrlLooped n v d).word a = (ctrlSet n v d).word a := by rw [Dev.word, hregs, Dev.word]
  have hlink : linkUp (ctrlLooped n v d) n = linkUp d n := by
    rw [← ctrlSet_link v d]
    unfold linkUp Dev.onN
    rw [hget]
  rw [writeFpCtrl_cases]
  unfold ctrlLoops
  split
  case isTrue h =>
    refine ⟨fun f hf => by rw [linkGoDown_ctrl hn hf, hget], fun j hj => linkGoDown_bit (by rwa [hword]), ?_⟩
    rw [linkGoDown_link hn]
    symm
    simp only [Bool.or_eq_true, bne_iff_ne] at h
    rcases h with h | h
    · simp [h]
    · rw [h]
      simp
  case isFalse h =>
    refine ⟨fun f _ => hget f, fun j hj => by rwa [hword], ?_⟩
    rw [hlink]
    simp only [Bool.or_eq_true, bne_iff_ne, not_or, not_not, Bool.not_eq_true] at h
    rw [h.2, beq_iff_eq.2 h.1]
    simp

/-! ## Reception (R126, R128, R144, R157, R162, R666) -/

/-- A looped frame that comes back leaves the loop. -/
def loopTaken (n : Nat) (d : Dev) : Dev :=
  if d.onN Reg.FP_CTRL.LOOP n then d.modPort n fun p => { p with looped := p.looped.tail } else d

/-- The frame's codewords are counted where the port has FEC. -/
def fecCounted (n : Nat) (f : RxFrame) (d : Dev) : Dev :=
  if d.getN Reg.FP_CTRL.FEC n = 0 then loopTaken n d
  else fullAdd n 22 f.fecUncorr (fullAdd n 21 f.fecCorr (loopTaken n d))

/-- The instant at which a frame arrived. -/
def arrival (t : Time) (n : Nat) (f : RxFrame) (d : Dev) : Nat :=
  ((t.qns + f.q % 16 : Nat) + sint 16 (d.getN Reg.FP_TS_LAT.RX_TRIM n)).toNat

/-- A good frame goes to flow control or on through the pair. -/
def rxTake (t : Time) (n arrQ : Nat) (unv : Bool) (g : RxFrame) (d : Dev) : Dev :=
  match g.body with
  | .pause _ => pauseReceive t n g.body d
  | .pfc _ _ => pauseReceive t n g.body d
  | _ => rxPair t n arrQ unv g d

/-- May the port receive this frame now? -/
def rxHears (d : Dev) (n : Nat) (f : RxFrame) : Prop :=
  portRuns d n = true ∧ linkUp d n = true ∧ (d.onN Reg.FP_CTRL.LOOP n = false ∨ loopFits d n f = true)

theorem frameReceive_deaf {t : Time} {n : Nat} {f : RxFrame} {d : Dev}
    (h : portRuns d n = false ∨ linkUp d n = false ∨ (d.onN Reg.FP_CTRL.LOOP n = true ∧ loopFits d n f = false)) :
    frameReceive t n f d = d := by
  unfold frameReceive
  split
  case isTrue => rfl
  case isFalse hc =>
    rcases h with h | h | ⟨h1, h2⟩
    · simp [h] at hc
    · simp [h] at hc
    · exact if_pos (by simp [h1, h2])

theorem frameReceive_hears {t : Time} {n : Nat} {f : RxFrame} {d : Dev} (h : rxHears d n f) :
    frameReceive t n f d = match rxMac n f (fecCounted n f d) with
      | .discard d1 => d1
      | .pass unv g d1 => rxTake t n (arrival t n f d) unv g (rxGood n g d1) := by
  obtain ⟨hr, hl, hloop⟩ := h
  have hfits : ¬ (d.onN Reg.FP_CTRL.LOOP n && !loopFits d n f) = true := by rcases hloop with h | h <;> simp [h]
  unfold frameReceive
  rw [if_neg (by simp [hr, hl])]
  refine (if_neg hfits).trans ?_
  show (match rxMac n f (fecCounted n f d) with | .discard d1 => d1 | .pass unv g d1 => _) = _
  cases rxMac n f (fecCounted n f d) <;> rfl

theorem rxMac_good {n : Nat} {f : RxFrame} {d : Dev} (hc : f.codeErr = false) (hf : f.fcsOk = true) (hlo : 64 ≤ f.len)
    (hhi : f.len ≤ d.getN Reg.FP_FRAME.MAX_LEN n) : rxMac n f d = msecRx n f d := by
  unfold rxMac
  rw [if_neg (by simp [hc]), if_neg (by omega), if_neg (by omega), if_neg (by simp [hf])]

/-- A frame that its length, its code or its FCS fails is discarded as a receive error. -/
theorem rxMac_bad {n : Nat} {f : RxFrame} {d : Dev}
    (h : f.codeErr = true ∨ d.getN Reg.FP_FRAME.MAX_LEN n < f.len ∨ f.len < 64 ∨ f.fcsOk = false) :
    ∃ k < 32, rxMac n f d = .discard (rxError n k d) := by
  unfold rxMac
  by_cases h1 : f.codeErr = true
  · exact ⟨16, by decide, if_pos h1⟩
  · rw [if_neg h1]
    by_cases h2 : d.getN Reg.FP_FRAME.MAX_LEN n < f.len
    · exact ⟨15, by decide, if_pos h2⟩
    · rw [if_neg h2]
      by_cases h3 : f.len < 64
      · exact ⟨14, by decide, if_pos h3⟩
      · rw [if_neg h3]
        refine ⟨13, by decide, if_pos ?_⟩
        rcases h with h | h | h | h
        · exact absurd h h1
        · exact absurd h h2
        · exact absurd h h3
        · simp [h]

theorem Apart.loopTaken {W : Nat → Prop} {n : Nat} (h : Apart W e d) : Apart W e (loopTaken n d) := by
  unfold Machine.loopTaken
  exact .ite (h.ofRegs rfl) h

/-- The registers below the counters stand as a frame's codewords are counted. -/
theorem Apart.fecCounted {l : List Nat} {n : Nat} {f : RxFrame} (h : Apart (fpAt l) e d)
    (hl : ∀ x ∈ l, x < 0x800 ∧ x ≠ 8 ∧ x ≠ 0xA0) : Apart (fpAt l) e (fecCounted n f d) := by
  unfold Machine.fecCounted
  exact .ite h.loopTaken ((h.loopTaken.fullAdd (by decide) hl).fullAdd (by decide) hl)

theorem Apart.rxError {l : List Nat} {n k : Nat} (h : Apart (fpAt l) e d) (hk : k < 32)
    (hl : ∀ x ∈ l, x < 0x800 ∧ x ≠ 8 ∧ x ≠ 0xA0) (h98 : 0x98 ∉ l) : Apart (fpAt l) e (rxError n k d) :=
  (h.fullAdd hk hl).sat (not_fpAt_reg (b := 0x98) rfl (by decide) h98)

theorem rxError_count {n k : Nat} (hn : n < 16) (hk : k < 32) (d : Dev) :
    (rxError n k d).getN Reg.FP_BC_RXERR.N n = min (d.getN Reg.FP_BC_RXERR.N n + 1) (2 ^ 32 - 1) := by
  have hkeep : Apart (fpAt [0x98]) d (fullAdd n k 1 d) := (Apart.refl _ d).fullAdd hk (by decide)
  unfold rxError Dev.sat Dev.addSat
  rw [Dev.getN_setN_same _ _ _ _ (by decide), hkeep.getN (fpAt_reg (b := 0x98) rfl hn (by decide) (by decide))]
  exact Nat.mod_eq_of_lt (Nat.lt_of_le_of_lt (Nat.min_le_right _ _) (by decide))

theorem Apart.rxGood {l : List Nat} {n : Nat} {f : RxFrame} (h : Apart (fpAt l) e d)
    (hl : ∀ x ∈ l, x < 0x800 ∧ x ≠ 8 ∧ x ≠ 0xA0) (h90 : 0x90 ∉ l) : Apart (fpAt l) e (rxGood n f d) := by
  have hbin : sizeBin f.len < 32 := by
    unfold sizeBin
    split_ifs <;> decide
  have h1 := (((h.sat (f := Reg.FP_BC_RXF.N) (i := n) (not_fpAt_reg (b := 0x90) rfl (by decide) h90)).fullAdd (n := n)
    (k := 0) (m := f.len) (by decide) hl).fullAdd (n := n) (k := 1) (m := 1) (by decide) hl).fullAdd (n := n) (m := 1) hbin hl
  unfold Machine.rxGood
  exact .ite (h1.fullAdd (by decide) hl) (.ite (h1.fullAdd (by decide) hl) h1)

/-- A good frame is counted once. -/
theorem rxGood_count {n : Nat} (hn : n < 16) (f : RxFrame) (d : Dev) :
    (rxGood n f d).getN Reg.FP_BC_RXF.N n = min (d.getN Reg.FP_BC_RXF.N n + 1) (2 ^ 32 - 1) := by
  have hbin : sizeBin f.len < 32 := by
    unfold sizeBin
    split_ifs <;> decide
  have hl : ∀ x ∈ [0x90], x < 0x800 ∧ x ≠ 8 ∧ x ≠ 0xA0 := by decide
  have h1 : Apart (fpAt [0x90]) (d.sat Reg.FP_BC_RXF.N n) (fullAdd n (sizeBin f.len) 1 (fullAdd n 1 1 (fullAdd n 0 f.len
      (d.sat Reg.FP_BC_RXF.N n)))) :=
    (((Apart.refl _ _).fullAdd (by decide) hl).fullAdd (by decide) hl).fullAdd hbin hl
  have hkeep : Apart (fpAt [0x90]) (d.sat Reg.FP_BC_RXF.N n) (rxGood n f d) :=
    .ite (h1.fullAdd (by decide) hl) (.ite (h1.fullAdd (by decide) hl) h1)
  rw [hkeep.getN (fpAt_reg (b := 0x90) rfl hn (by decide) (by decide)), Dev.sat, Dev.addSat,
    Dev.getN_setN_same _ _ _ _ (by decide)]
  exact Nat.mod_eq_of_lt (Nat.lt_of_le_of_lt (Nat.min_le_right _ _) (by decide))

/-- What MACsec's checks of a frame leave of its port and of the registers (R162). -/
structure Checked (n : Nat) (d x : Dev) : Prop where
  fill : (x.port n).rxFill = (d.port n).rxFill
  others : ∀ m, m ≠ n → x.port m = d.port m
  words : Apart (fpAt [0, 0x14, 0x2C, 0x30, 0x90, 0x9C]) d x

theorem Checked.refl (n : Nat) (d : Dev) : Checked n d d := ⟨rfl, fun _ _ => rfl, .refl _ _⟩

theorem Checked.ofPair {n : Nat} {d x : Dev} {α : Type} {p : α × Dev} {a : α} (h : Checked n d p.2) (hp : p = (a, x)) :
    Checked n d x := by
  rw [hp] at h
  exact h

theorem keyUse_ports (eng inst slot usage : Nat) (long : Bool) (d : Dev) :
    (keyUse eng inst slot usage long d).2.ports = d.ports :=
  (@Tame.keyUse [.keys] d d eng inst slot usage long (.refl _ _) ⟨by decide⟩).stands .ports (by decide)

theorem Checked.keyUse {n : Nat} {d x : Dev} (h : Checked n d x) (eng inst slot usage : Nat) (long : Bool) :
    Checked n d (keyUse eng inst slot usage long x).2 := by
  have hports := keyUse_ports eng inst slot usage long x
  have hport (k : Nat) : (Machine.keyUse eng inst slot usage long x).2.port k = x.port k := by
    rw [Dev.port, hports, Dev.port]
  exact ⟨by rw [hport, h.fill], fun m hm => by rw [hport, h.others m hm],
    h.words.ofLow ((Low.refl 0x60000 x).keyUse (by decide)) fun a ha => ha.2.1⟩

theorem Checked.rxError {n : Nat} {d x : Dev} (h : Checked n d x) : Checked n d (rxError n 18 x) := by
  have hports : (Machine.rxError n 18 x).ports = x.ports := (tame_fullAdd n 18 1 x).stands .ports (by decide)
  have hport (k : Nat) : (Machine.rxError n 18 x).port k = x.port k := by rw [Dev.port, hports, Dev.port]
  exact ⟨by rw [hport, h.fill], fun m hm => by rw [hport, h.others m hm], h.words.rxError (by decide) (by decide) (by decide)⟩

theorem Checked.msecVerify {n : Nat} {d : Dev} (s : SecTag) : Checked n d (msecVerify n s d).2 := by
  unfold Machine.msecVerify
  dsimp only
  split
  · exact .refl n d
  · split
    case h_1 x hx => exact ((Checked.refl n d).keyUse _ _ _ _ _).ofPair hx
    case h_2 key x hx =>
      have h : Checked n d x := ((Checked.refl n d).keyUse _ _ _ _ _).ofPair hx
      split
      · exact ⟨by rw [Dev.modPort_port]; exact h.fill, fun m hm => by rw [Dev.modPort_port_other _ _ _ hm]; exact h.others m hm,
          h.words.ofRegs rfl⟩
      · exact h

/-- A frame that passes MACsec has changed no more than a check may. -/
theorem msecRx_pass {n : Nat} {f g : RxFrame} {unv : Bool} {d x : Dev} (h : msecRx n f d = .pass unv g x) : Checked n d x := by
  unfold msecRx at h
  dsimp only at h
  split at h
  · cases h; exact .refl n d
  · split at h
    · split at h
      · cases h
      · cases h; exact .refl n d
    · split at h
      · cases h; exact .refl n d
      · split at h
        case h_1 y hy => cases h; exact (Checked.msecVerify _).ofPair hy
        case h_2 y hy =>
          have hv : Checked n d y := (Checked.msecVerify _).ofPair hy
          split at h
          · cases h
          · cases h
            exact ⟨hv.rxError.fill, hv.rxError.others, hv.rxError.words⟩

/-- The count of good frames of every port. -/
abbrev rxfWord : Nat → Prop := fpAt [0x90]

theorem rxfWord_fp {r : RegAt} {b : Nat} (hr : r = ⟨0x40000 + b, 0x2000, 16, 1, 0⟩) (hb : b < 0x2000) (h : b ≠ 0x90) (n : Nat) :
    ¬ rxfWord (r.addr n) := not_fpAt_reg hr hb (by simpa using h)

theorem Apart.rxfFull {n k m : Nat} (h : Apart rxfWord e d) (hk : k < 32) : Apart rxfWord e (Machine.fullAdd n k m d) :=
  h.fullAdd hk (by decide)

theorem Apart.toIngest {n arrQ : Nat} {unv : Bool} {g : RxFrame} (h : Apart rxfWord e d) :
    Apart rxfWord e (toIngest n arrQ unv g d) := by
  have hdrop : Apart rxfWord e (bcDrop n (Machine.fullAdd n 17 1 d)) :=
    (h.rxfFull (by decide)).sat (rxfWord_fp (r := At.FP_BC_DROP) (b := 0x9C) rfl (by decide) (by decide) n)
  unfold Machine.toIngest
  exact .ite h (.ite hdrop (h.ofRegs rfl))

theorem Apart.handUp {n arrQ : Nat} {unv : Bool} {g : RxFrame} (h : Apart rxfWord e d) :
    Apart rxfWord e (handUp n arrQ unv g d) := by
  unfold Machine.handUp
  split
  · exact .ite h.toIngest (.ite (h.ofRegs rfl) h)
  · exact h.ofRegs rfl
  · exact h.toIngest

theorem Apart.hsrForward {n : Nat} {g : RxFrame} (h : Apart rxfWord e d) : Apart rxfWord e (hsrForward n g d) := by
  unfold Machine.hsrForward
  exact .ite h (h.ofLow (Low.sendTx (Low.refl 0x60000 d)) fun a ha => ha.2.1)

theorem pairStat_rxf (n : Nat) : ¬ rxfWord (At.FP_PAIR_STAT.addr n) :=
  rxfWord_fp (r := At.FP_PAIR_STAT) (b := 0x30) rfl (by decide) (by decide) n

theorem Apart.setKeys {p : Nat} {ks : List DupKey} (h : Apart rxfWord e d) : Apart rxfWord e (setKeys p ks d) :=
  Apart.setN (h.ofRegs rfl) (pairStat_rxf _)

theorem Apart.addKey {t : Time} {p mac sq : Nat} (h : Apart rxfWord e d) : Apart rxfWord e (addKey t p mac sq d) := by
  unfold Machine.addKey
  exact .ite (h.sat (pairStat_rxf _)).setKeys h.setKeys

theorem Apart.rxPair {t : Time} {n arrQ : Nat} {unv : Bool} {g : RxFrame} (h : Apart rxfWord e d) :
    Apart rxfWord e (rxPair t n arrQ unv g d) := by
  have hlan (c : Prop) [Decidable c] : Apart rxfWord e (if c then Machine.fullAdd n 20 1 d else d) :=
    .ite (h.rxfFull (by decide)) h
  have hkey (mac sq : Nat) {x : Dev} (hx : Apart rxfWord e x) :
      Apart rxfWord e (Machine.addKey t (n / 2) mac sq (dupKeyForget t (n / 2) x)) := hx.setKeys.addKey
  unfold Machine.rxPair
  refine .ite h.handUp (.ite h ?_)
  split
  · exact Apart.handUp (.ite h.hsrForward h)
  · refine .ite ((hlan _).rxfFull (by decide)) (.ite (hlan _).handUp (Apart.handUp ?_))
    exact .ite (hkey _ _ (hlan _)).hsrForward (hkey _ _ (hlan _))

theorem Apart.pauseReceive {t : Time} {n : Nat} {b : FrameBody} (h : Apart rxfWord e d) :
    Apart rxfWord e (pauseReceive t n b d) := by
  have hst : ¬ rxfWord (At.FP_STATUS.addr n) := rxfWord_fp (r := At.FP_STATUS) (b := 4) rfl (by decide) (by decide) n
  have hbits (f : Port → Port) {x : Dev} (hx : Apart rxfWord e x) : Apart rxfWord e (pauseBits n (x.modPort n f)) :=
    Apart.setB (Apart.setN (hx.ofRegs rfl) hst) hst
  unfold Machine.pauseReceive
  split
  · exact .ite (hbits _ (h.rxfFull (by decide))) (h.rxfFull (by decide))
  · exact .ite (hbits _ (h.rxfFull (by decide))) (h.rxfFull (by decide))
  · exact h

/-- Where a frame that has been counted goes the count of good frames stands. -/
theorem Apart.rxTake {t : Time} {n arrQ : Nat} {unv : Bool} {g : RxFrame} (h : Apart rxfWord e d) :
    Apart rxfWord e (rxTake t n arrQ unv g d) := by
  unfold Machine.rxTake
  split
  · exact h.pauseReceive
  · exact h.pauseReceive
  · exact h.rxPair

/-! ## Pauses (R144, R145, R148) -/

/-- The end of a class's pause that a request of q quanta asks for. -/
def pauseUntil (t : Time) (rate q : Nat) : Nat := if q = 0 then 0 else t.loc + (q * 512 + rate - 1) / rate

theorem pauseClass_leaves (t : Time) (rate q : Nat) (p : Port) (tc : Nat) :
    (pauseClass t rate q p tc).storm = p.storm ∧ (pauseClass t rate q p tc).queues = p.queues ∧
      ∀ c, tget (pauseClass t rate q p tc).pauseEnd c =
        if c = tc ∧ tc ∉ p.storm then pauseUntil t rate q else tget p.pauseEnd c := by
  unfold pauseClass pauseUntil
  dsimp only
  by_cases hs : tc ∈ p.storm
  · rw [if_pos (by simpa using hs)]
    exact ⟨rfl, rfl, fun c => by simp [hs]⟩
  · rw [if_neg (by simpa using hs)]
    split
    · refine ⟨rfl, rfl, fun c => ?_⟩
      simp [tget_tset, hs]
    · refine ⟨rfl, rfl, fun c => ?_⟩
      simp [tget_tset, hs]

/-- Requests for some classes pause those of them that are not in a storm, and no other. -/
theorem pauseClasses_leaves (t : Time) (rate : Nat) (q : Nat → Nat) (l : List Nat) (p : Port) :
    (l.foldl (fun p c => pauseClass t rate (q c) p c) p).storm = p.storm ∧
      (l.foldl (fun p c => pauseClass t rate (q c) p c) p).queues = p.queues ∧
      ∀ c, tget (l.foldl (fun p c => pauseClass t rate (q c) p c) p).pauseEnd c =
        if c ∈ l ∧ c ∉ p.storm then pauseUntil t rate (q c) else tget p.pauseEnd c := by
  induction l generalizing p with
  | nil => exact ⟨rfl, rfl, fun c => by simp⟩
  | cons x l ih =>
    obtain ⟨hstorm, hqueues, hend⟩ := pauseClass_leaves t rate (q x) p x
    obtain ⟨ihs, ihq, ihe⟩ := ih (pauseClass t rate (q x) p x)
    refine ⟨ihs.trans hstorm, ihq.trans hqueues, fun c => ?_⟩
    rw [List.foldl_cons, ihe, hend, hstorm]
    by_cases hx : c = x
    · subst hx
      by_cases hc : c ∈ p.storm <;> simp [hc]
    · simp [hx]

theorem pauseBits_port (n k : Nat) (d : Dev) : (pauseBits n d).port k = d.port k := rfl

/-- A frame of flow control that has been counted. -/
def flowCounted (n : Nat) (f : RxFrame) (d : Dev) : Dev := rxGood n f (fecCounted n f d)

theorem tame_fecCounted {n : Nat} {f : RxFrame} {d : Dev} (h : d.onN Reg.FP_CTRL.LOOP n = false) :
    Tame [] d (fecCounted n f d) := by
  have hloop : loopTaken n d = d := if_neg (by simp [h])
  unfold fecCounted
  rw [hloop]
  split
  · exact .refl _ _
  · exact (tame_fullAdd _ _ _ _).fullAdd

theorem flowCounted_leaves {n : Nat} {f : RxFrame} {d : Dev} (h : d.onN Reg.FP_CTRL.LOOP n = false) :
    (flowCounted n f d).ports = d.ports ∧ (flowCounted n f d).ing = d.ing ∧
      Apart (fpAt [0, 0x24]) d (flowCounted n f d) := by
  have htame : Tame [] d (flowCounted n f d) := (tame_fecCounted h).rxGood
  exact ⟨htame.stands .ports (by decide), htame.stands .ing (by decide),
    ((Apart.refl _ d).fecCounted (by decide)).rxGood (by decide) (by decide)⟩

theorem fullVal_sat {n j : Nat} (hj : j < 32) (d : Dev) : fullVal (d.sat Reg.FP_BC_RXF.N n) n j = fullVal d n j := by
  have hrx : Reg.FP_BC_RXF.N.reg.addr n = 0x40090 + n * 0x2000 := RegAt.addr_single (r := At.FP_BC_RXF) rfl n
  unfold fullVal Dev.sat Dev.addSat
  rw [Dev.getN_setN_addr _ _ _ _ _ _ (by rw [fullLo_addr n hj, hrx]; omega),
    Dev.getN_setN_addr _ _ _ _ _ _ (by rw [fullHi_addr n hj, hrx]; omega)]

/-- The counters of flow control stand as a frame of it is counted. -/
theorem fullVal_flowCounted {n j : Nat} {f : RxFrame} {d : Dev} (h : d.onN Reg.FP_CTRL.LOOP n = false)
    (hj : j = 4 ∨ j = 5) : fullVal (flowCounted n f d) n j = fullVal d n j := by
  have hj32 : j < 32 := by omega
  have hadd {k : Nat} (m : Nat) (x : Dev) (hk : k < 32) (hne : j ≠ k) : fullVal (fullAdd n k m x) n j = fullVal x n j := by
    rw [fullVal_fullAdd x hk hj32, if_neg hne]
  have hbin : sizeBin f.len < 32 ∧ j ≠ sizeBin f.len := by
    unfold sizeBin
    split_ifs <;> omega
  have hfec : fullVal (fecCounted n f d) n j = fullVal d n j := by
    have hloop : loopTaken n d = d := if_neg (by simp [h])
    unfold fecCounted
    rw [hloop]
    split
    · rfl
    · rw [hadd _ _ (by decide) (by omega), hadd _ _ (by decide) (by omega)]
  have hbase (x : Dev) : fullVal (fullAdd n (sizeBin f.len) 1 (fullAdd n 1 1 (fullAdd n 0 f.len
      (x.sat Reg.FP_BC_RXF.N n)))) n j = fullVal x n j := by
    rw [hadd _ _ hbin.1 hbin.2, hadd _ _ (by decide) (by omega), hadd _ _ (by decide) (by omega), fullVal_sat hj32]
  rw [flowCounted, ← hfec]
  unfold rxGood
  dsimp only
  split
  · rw [hadd _ _ (by decide) (by omega), hbase]
  · split
    · rw [hadd _ _ (by decide) (by omega), hbase]
    · exact hbase _

/-- Without MACsec a good frame of flow control is counted and acted on. -/
theorem frameReceive_flow {t : Time} {n : Nat} {f : RxFrame} {d : Dev} (hh : rxHears d n f)
    (hm : d.onN Reg.FP_MSEC_CTRL.EN n = false) (hs : f.sec = none) (hn : n < 16) (hc : f.codeErr = false) (hf : f.fcsOk = true)
    (hlo : 64 ≤ f.len) (hhi : f.len ≤ d.getN Reg.FP_FRAME.MAX_LEN n) :
    frameReceive t n f d = rxTake t n (arrival t n f d) false f (flowCounted n f d) := by
  have hkeep : Apart (fpAt [0x14, 0x60]) d (fecCounted n f d) := (Apart.refl _ d).fecCounted (by decide)
  have hlen : f.len ≤ (fecCounted n f d).getN Reg.FP_FRAME.MAX_LEN n := by
    rwa [hkeep.getN (fpAt_reg (b := 0x14) rfl hn (by decide) (by decide))]
  have hoff : (fecCounted n f d).onN Reg.FP_MSEC_CTRL.EN n = false := by
    rwa [hkeep.onN (fpAt_reg (b := 0x60) rfl hn (by decide) (by decide))]
  have hpass : msecRx n f (fecCounted n f d) = .pass false f (fecCounted n f d) := by
    simp [msecRx, hoff, hs]
  rw [frameReceive_hears hh, rxMac_good hc hf hlo hlen, hpass]
  rfl

theorem fullVal_modPort (x : Dev) (n : Nat) (f : Port → Port) (m j : Nat) : fullVal (x.modPort n f) m j = fullVal x m j := rfl

/-- The status of pauses is no counter. -/
theorem fullVal_pauseBits {n j : Nat} (hj : j < 32) (x : Dev) : fullVal (pauseBits n x) n j = fullVal x n j := by
  have hst (f : Field) (hf : f.reg = At.FP_STATUS) (v : Nat) (y : Dev) : fullVal (y.setN f n v) n j = fullVal y n j := by
    unfold fullVal
    rw [Dev.getN_setN_addr _ _ _ _ _ _ (by rw [fullLo_addr n hj, hf, fpStatus_addr]; omega),
      Dev.getN_setN_addr _ _ _ _ _ _ (by rw [fullHi_addr n hj, hf, fpStatus_addr]; omega)]
  unfold pauseBits
  dsimp only [Dev.setB]
  rw [hst _ rfl, hst _ rfl]

theorem pauseBits_ing (n : Nat) (d : Dev) : (pauseBits n d).ing = d.ing := rfl

theorem fullAdd_port (n k m : Nat) (d : Dev) (i : Nat) : (fullAdd n k m d).port i = d.port i := by
  rw [Dev.port, (tame_fullAdd n k m d).stands .ports (by decide), Dev.port]

/-- What a PAUSE frame does to its port (R144, R145). -/
theorem pauseReceive_pause {t : Time} {n q : Nat} (d : Dev) :
    (pauseReceive t n (.pause q) d).port n =
        (if d.getN Reg.FP_PAUSE.MODE n = 1 then
          (List.range 8).foldl (fun p c => pauseClass t (lineRate d n) (q % 2 ^ 16) p c) (d.port n) else d.port n) ∧
      (pauseReceive t n (.pause q) d).ing = d.ing ∧
      fullVal (pauseReceive t n (.pause q) d) n 4 = (fullVal d n 4 + 1) % 2 ^ 48 := by
  have hing : (fullAdd n 4 1 d).ing = d.ing := (tame_fullAdd n 4 1 d).stands .ing (by decide)
  have hval : fullVal (fullAdd n 4 1 d) n 4 = (fullVal d n 4 + 1) % 2 ^ 48 := by
    rw [fullVal_fullAdd d (by decide) (by decide), if_pos rfl]
  by_cases hm : d.getN Reg.FP_PAUSE.MODE n = 1
  · have hact : pauseReceive t n (.pause q) d = pauseBits n ((fullAdd n 4 1 d).modPort n fun p =>
        (List.range 8).foldl (pauseClass t (lineRate d n) (q % 2 ^ 16)) p) := if_pos hm
    rw [hact, if_pos hm, pauseBits_port, Dev.modPort_port, fullAdd_port, pauseBits_ing, Dev.modPort_ing,
      fullVal_pauseBits (by decide), fullVal_modPort]
    exact ⟨rfl, hing, hval⟩
  · have hact : pauseReceive t n (.pause q) d = fullAdd n 4 1 d := if_neg hm
    rw [hact, if_neg hm]
    exact ⟨fullAdd_port _ _ _ _ _, hing, hval⟩

/-- The classes a PFC frame names that its port obeys. -/
def pfcClasses (n en : Nat) (d : Dev) : List Nat :=
  (List.range 8).filter fun c => en.testBit c && (d.getN Reg.FP_PAUSE.PFC_EN n).testBit c

/-- What a PFC frame does to its port (R144, R145). -/
theorem pauseReceive_pfc {t : Time} {n en : Nat} {qs : List Nat} (d : Dev) :
    (pauseReceive t n (.pfc en qs) d).port n =
        (if d.getN Reg.FP_PAUSE.MODE n = 2 then
          (pfcClasses n en d).foldl (fun p c => pauseClass t (lineRate d n) (qs.getD c 0 % 2 ^ 16) p c) (d.port n)
        else d.port n) ∧
      fullVal (pauseReceive t n (.pfc en qs) d) n 5 = (fullVal d n 5 + 1) % 2 ^ 48 := by
  have hval : fullVal (fullAdd n 5 1 d) n 5 = (fullVal d n 5 + 1) % 2 ^ 48 := by
    rw [fullVal_fullAdd d (by decide) (by decide), if_pos rfl]
  by_cases hm : d.getN Reg.FP_PAUSE.MODE n = 2
  · have hact : pauseReceive t n (.pfc en qs) d = pauseBits n ((fullAdd n 5 1 d).modPort n fun p =>
        (pfcClasses n en d).foldl (fun p c => pauseClass t (lineRate d n) (qs.getD c 0 % 2 ^ 16) p c) p) := if_pos hm
    rw [hact, if_pos hm, pauseBits_port, Dev.modPort_port, fullAdd_port, fullVal_pauseBits (by decide), fullVal_modPort]
    exact ⟨rfl, hval⟩
  · have hact : pauseReceive t n (.pfc en qs) d = fullAdd n 5 1 d := if_neg hm
    rw [hact, if_neg hm]
    exact ⟨fullAdd_port _ _ _ _ _, hval⟩

/-! ## The way to ingest (R128) -/

theorem toIngest_room {n arrQ : Nat} {unv : Bool} {g : RxFrame} {d : Dev} (hr : d.inReset islIng = false)
    (h : (d.port n).rxFill + g.len ≤ Config.rxBufBytes) :
    tget (toIngest n arrQ unv g d).ing.inq n = tget d.ing.inq n ++ [⟨n, arrQ, g, unv⟩] ∧
      ((toIngest n arrQ unv g d).port n).rxFill = (d.port n).rxFill + g.len := by
  unfold toIngest
  dsimp only
  rw [if_neg (by simp [hr]), if_neg (by omega)]
  refine ⟨?_, ?_⟩
  · exact tget_tset_same _ _ _
  · exact congrArg Port.rxFill (Dev.setPort_port d n _)

theorem toIngest_full {n arrQ : Nat} {unv : Bool} {g : RxFrame} {d : Dev} (hr : d.inReset islIng = false)
    (h : Config.rxBufBytes < (d.port n).rxFill + g.len) :
    toIngest n arrQ unv g d = bcDrop n (fullAdd n 17 1 d) := (if_neg (by simp [hr])).trans (if_pos h)

theorem toIngest_others {n arrQ : Nat} {unv : Bool} {g : RxFrame} {d : Dev} {m : Nat} (hm : m ≠ n) :
    (toIngest n arrQ unv g d).port m = d.port m := by
  unfold toIngest
  dsimp only
  split
  · rfl
  · split
    · exact fullAdd_port _ _ _ _ _
    · exact tget_tset_other _ hm _

theorem rxGood_port (n : Nat) (g : RxFrame) (d : Dev) (k : Nat) : (rxGood n g d).port k = d.port k := by
  rw [Dev.port, ((Tame.refl [] d).rxGood (n := n) (f := g)).stands .ports (by decide), Dev.port]

/-- What the checks and the counts of a frame that passes leave of the device. -/
structure RxReady (n : Nat) (d x : Dev) : Prop where
  fill : (x.port n).rxFill = (d.port n).rxFill
  others : ∀ m, m ≠ n → x.port m = d.port m
  ing : x.ing = d.ing
  isl : x.isl = d.isl
  words : Apart (fpAt [0x2C, 0x9C]) d x

theorem loopTaken_port (n : Nat) (d : Dev) :
    ((loopTaken n d).port n).rxFill = (d.port n).rxFill ∧ ∀ m, m ≠ n → (loopTaken n d).port m = d.port m := by
  unfold loopTaken
  split
  · exact ⟨by rw [Dev.modPort_port], fun m hm => Dev.modPort_port_other _ _ _ hm⟩
  · exact ⟨rfl, fun _ _ => rfl⟩

theorem fecCounted_port (n : Nat) (f : RxFrame) (d : Dev) (k : Nat) : (fecCounted n f d).port k = (loopTaken n d).port k := by
  unfold fecCounted
  split
  · rfl
  · rw [fullAdd_port, fullAdd_port]

theorem rxReady_of_pass {n : Nat} {f g : RxFrame} {unv : Bool} {d x : Dev}
    (h : msecRx n f (fecCounted n f d) = .pass unv g x) : RxReady n d (rxGood n g x) := by
  have hports : Fact (StatePart.ports ∈ [StatePart.ports, .keys]) := ⟨by decide⟩
  have hkeys : Fact (StatePart.keys ∈ [StatePart.ports, .keys]) := ⟨by decide⟩
  have hloop : Tame [.ports, .keys] d (loopTaken n d) := by
    unfold loopTaken
    exact .ite (Tame.modPort (.refl _ _)) (.refl _ _)
  have hfec : Tame [.ports, .keys] d (fecCounted n f d) := by
    unfold fecCounted
    split
    · exact hloop
    · exact hloop.fullAdd.fullAdd
  have htame : Tame [.ports, .keys] d (rxGood n g x) := by
    have hx := hfec.msecRx (n := n) (f := f)
    rw [h] at hx
    exact hx.rxGood
  have hcheck := msecRx_pass h
  refine ⟨?_, fun m hm => ?_, htame.stands .ing (by decide), htame.stands .isl (by decide), ?_⟩
  · rw [rxGood_port, hcheck.fill, fecCounted_port, (loopTaken_port n d).1]
  · rw [rxGood_port, hcheck.others m hm, fecCounted_port, (loopTaken_port n d).2 m hm]
  · have hfrom : Apart (fpAt [0x2C, 0x9C]) d (fecCounted n f d) := (Apart.refl _ d).fecCounted (by decide)
    have hmac : Apart (fpAt [0x2C, 0x9C]) (fecCounted n f d) x := fun a ha => hcheck.words a
      ⟨ha.1, ha.2.1, by
        have := ha.2.2
        simp only [List.mem_cons, List.not_mem_nil, or_false] at this ⊢
        omega⟩
    exact (hfrom.trans hmac).rxGood (by decide) (by decide)

/-- The count of good frames as a frame that passes has been counted. -/
theorem rxPassed_count {n : Nat} (hn : n < 16) {f g : RxFrame} {unv : Bool} {d x : Dev}
    (h : msecRx n f (fecCounted n f d) = .pass unv g x) :
    (rxGood n g x).getN Reg.FP_BC_RXF.N n = min (d.getN Reg.FP_BC_RXF.N n + 1) (2 ^ 32 - 1) := by
  have hfrom : Apart (fpAt [0x90]) d (fecCounted n f d) := (Apart.refl _ d).fecCounted (by decide)
  rw [rxGood_count hn, (msecRx_pass h).words.getN (fpAt_reg (b := 0x90) rfl hn (by decide) (by decide)),
    hfrom.getN (fpAt_reg (b := 0x90) rfl hn (by decide) (by decide))]

/-- Outside a pair a frame of another type goes to ingest. -/
theorem rxTake_other {t : Time} {n arrQ ty : Nat} {unv : Bool} {g : RxFrame} {d : Dev} (hb : g.body = .other ty)
    (hp : pairMode d n = 0) : rxTake t n arrQ unv g d = toIngest n arrQ unv g d := by
  unfold rxTake rxPair handUp
  simp only [hb, hp, if_true]

/-- What the end of a command leaves of a full counter of a port. -/
theorem fullVal_after (s : State) (d : Dev) {n j : Nat} (hn : n < 16) (hj : j < 32) :
    fullVal (s.after d).dev n j = fullVal d n j := by
  unfold fullVal
  rw [after_getN _ _ _ _ (notIntake_of_lt (by rw [fullLo_addr n hj]; omega)),
    after_getN _ _ _ _ (notIntake_of_lt (by rw [fullHi_addr n hj]; omega))]

/-- Settles O28: the link and the control register by their cases, a frame by what its checks leave and where it goes. -/
theorem portReception : Obligations.PortReception := by
  unfold Obligations.PortReception
  refine ⟨⟨?_, ?_, ?_, ?_, ?_, ?_⟩, ?_, ?_, ?_, ?_, ?_⟩
  · intro s n h hl
    have hn := (portRuns_up h).1
    rw [exec_linkUp, linkGoUp_rises h hl]
    refine ⟨_, rfl, ?_, ?_, ?_, rfl⟩
    · unfold linkUp Dev.onN
      rw [after_fp s _ hn (b := 4) rfl (by decide), Dev.cause_getN _ _ _ _ _ _ _ (by
          rw [intFp_addr, show Reg.FP_STATUS.LINK.reg = At.FP_STATUS from rfl, fpStatus_addr]; omega)]
      unfold Dev.setB
      rw [Dev.getN_setN_apart _ _ _ _ _ _ (by decide) (by decide) (by decide),
        Dev.getN_setN_apart _ _ _ _ _ _ (by decide) (by decide) (by decide), Dev.getN_setN_same _ _ _ _ (by decide)]
      decide
    · rw [after_word _ _ _ (intFp_notIntake hn)]
      exact Dev.cause_sets _ _ _ _ _ (by decide)
    · rw [after_ports, Dev.cause_ports]
      rfl
  · intro s n h
    rw [exec_linkUp, linkGoUp_idle h]
  · intro s n hn h
    rw [exec_linkDown, if_pos hn]
    refine ⟨_, rfl, ?_, ?_, ?_⟩
    · unfold linkUp
      rw [after_onN _ _ _ _ (fp_notIntake hn (b := 4) rfl (by decide))]
      exact linkGoDown_link hn _
    · rw [after_word _ _ _ (intFp_notIntake hn)]
      exact linkGoDown_shows h
    · rw [after_ports, linkGoDown_ports]
  · intro s n h
    rw [exec_linkDown]
    split
    case isTrue hn => rw [linkGoDown_idle (h.resolve_left (by omega))]
    case isFalse => rfl
  · intro s n v hn hu
    obtain ⟨hget, hbit, hlink⟩ := writeFpCtrl_leaves hn v s.dev
    obtain ⟨hen, hloop, htc, -, -, -⟩ := ctrlPlain_fields n v s.dev
    have hup : s.dev.up (islandOf (0x40000 + n * 0x2000)) = true := by
      rw [islandOf_port hn (by omega) (by omega), hu]
    have hfield (f : Field) (hf : f.reg = At.FP_CTRL) :
        (s.after (writeFpCtrl n v s.dev)).dev.getN f n = (ctrlSet n v s.dev).getN f n := by
      rw [after_fp s _ hn (b := 0) hf (by decide), hget f hf]
    have hcause (h : bitOf ((ctrlSet n v s.dev).word (intFp n).addr) 4 = true) :
        bitOf ((s.after (writeFpCtrl n v s.dev)).dev.word (intFp n).addr) 4 = true := by
      rw [after_word _ _ _ (intFp_notIntake hn)]
      exact hbit 4 h
    rw [exec_writeFpCtrl, if_pos hn, onWrite_up _ hup]
    refine ⟨_, rfl, ?_, ?_, ?_, fun hoff hok => ?_, fun hoff hok => ?_, fun hon => ?_, ?_⟩
    · rw [hfield _ rfl, ctrlSet_plain n v s.dev rfl (by decide), hen]
    · rw [hfield _ rfl, ctrlSet_plain n v s.dev rfl (by decide), hloop]
    · rw [hfield _ rfl, ctrlSet_plain n v s.dev rfl (by decide), htc]
    · rw [hfield _ rfl, hfield _ rfl, hfield _ rfl]
      exact ctrlSet_allowed hoff hok
    · obtain ⟨h1, h2, h3⟩ := ctrlSet_refused hoff hok
      rw [hfield _ rfl, hfield _ rfl]
      exact ⟨h1, h2, hcause h3⟩
    · obtain ⟨h1, h2, h3, h4⟩ := ctrlSet_running (v := v) hon
      rw [hfield _ rfl, hfield _ rfl, hfield _ rfl]
      refine ⟨h1, h2, h3, fun h => hcause (h4 ?_)⟩
      simp only [ctrlDiffers, Bool.or_eq_true, bne_iff_ne]
      tauto
    · unfold linkUp at hlink ⊢
      rw [after_onN _ _ _ _ (fp_notIntake hn (b := 4) rfl (by decide)), hlink]
  · intro s n v hn
    rw [exec_writeFpCtrl, if_neg (by omega)]
  · intro s n f h
    rw [exec_frameReceive, frameReceive_deaf h]
  · intro s n f hr hl hloop hbad
    have hn := (portRuns_up hr).1
    have hkeep : Apart (fpAt [0x14, 0x90, 0x98]) s.dev (fecCounted n f s.dev) := (Apart.refl _ _).fecCounted (by decide)
    obtain ⟨k, hk, hdis⟩ := rxMac_bad (n := n) (f := f) (d := fecCounted n f s.dev)
      (by rwa [hkeep.getN (fpAt_reg (b := 0x14) rfl hn (by decide) (by decide))])
    have hout : frameReceive s.time n f s.dev = rxError n k (fecCounted n f s.dev) := by
      rw [frameReceive_hears ⟨hr, hl, hloop⟩, hdis]
    have htame : Tame [.ports] s.dev (fecCounted n f s.dev) := by
      have hp : Fact (StatePart.ports ∈ [StatePart.ports]) := ⟨by decide⟩
      unfold fecCounted loopTaken
      exact .ite (.ite (Tame.modPort (.refl _ _)) (.refl _ _))
        (Tame.fullAdd (Tame.fullAdd (.ite (Tame.modPort (.refl _ _)) (.refl _ _))))
    have herr : Apart (fpAt [0x90]) s.dev (rxError n k (fecCounted n f s.dev)) :=
      ((Apart.refl _ _).fecCounted (by decide)).rxError hk (by decide) (by decide)
    rw [exec_frameReceive, hout]
    refine ⟨_, rfl, ?_, ?_, ?_⟩
    · rw [after_ing]
      exact (Tame.rxError htame).stands .ing (by decide)
    · rw [after_fp s _ hn (b := 0x98) rfl (by decide), rxError_count hn hk,
        hkeep.getN (fpAt_reg (b := 0x98) rfl hn (by decide) (by decide))]
    · rw [after_fp s _ hn (b := 0x90) rfl (by decide), herr.getN (fpAt_reg (b := 0x90) rfl hn (by decide) (by decide))]
  · intro s n f g unv d d1 hr hl hloop hc hf hlo hhi hd hpass
    have hn := (portRuns_up hr).1
    have hd' : d = fecCounted n f s.dev := hd
    subst hd'
    have hwords : Apart (fpAt [0x14, 0x2C, 0x90, 0x9C]) s.dev (fecCounted n f s.dev) := (Apart.refl _ _).fecCounted (by decide)
    have hlen : f.len ≤ (fecCounted n f s.dev).getN Reg.FP_FRAME.MAX_LEN n := by
      rwa [hwords.getN (fpAt_reg (b := 0x14) rfl hn (by decide) (by decide))]
    have hout : frameReceive s.time n f s.dev = rxTake s.time n (arrival s.time n f s.dev) unv g (rxGood n g d1) := by
      rw [frameReceive_hears ⟨hr, hl, hloop⟩, rxMac_good hc hf hlo hlen, hpass]
    have hready := rxReady_of_pass hpass
    have hpair (hp : pairMode s.dev n = 0) : pairMode (rxGood n g d1) n = 0 := by
      rw [← hp]
      exact hready.words.getN (fpAt_reg (b := 0x2C) rfl (by omega) (by decide) (by decide))
    rw [exec_frameReceive, hout]
    refine ⟨_, rfl, ?_, fun ⟨ty, hty⟩ hp hi => ?_, fun ⟨ty, hty⟩ hp m hm => ?_, ?_⟩
    · have hkeep := (Apart.refl rxfWord (rxGood n g d1)).rxTake (t := s.time) (n := n) (arrQ := arrival s.time n f s.dev)
        (unv := unv) (g := g)
      rw [after_fp s _ hn (b := 0x90) rfl (by decide), hkeep.getN (fpAt_reg (b := 0x90) rfl hn (by decide) (by decide)),
        rxPassed_count hn hpass]
    · have hreset : (rxGood n g d1).inReset islIng = false := by rw [Dev.inReset, hready.isl, ← Dev.inReset, hi]
      rw [rxTake_other hty (hpair hp)]
      refine ⟨fun hroom => ?_, fun hfull => ?_⟩
      · obtain ⟨h1, h2⟩ := toIngest_room (arrQ := arrival s.time n f s.dev) (unv := unv) hreset (by rwa [hready.fill])
        rw [after_ing, after_port, h1, h2, hready.fill, hready.ing]
        exact ⟨rfl, rfl⟩
      · have hdrop : Apart (fpAt [0x9C]) (rxGood n g d1) (fullAdd n 17 1 (rxGood n g d1)) :=
          (Apart.refl _ _).fullAdd (by decide) (by decide)
        rw [toIngest_full hreset (by rwa [hready.fill])]
        refine ⟨?_, ?_⟩
        · rw [after_ing, bcDrop, Dev.sat_ing, (tame_fullAdd _ _ _ _).stands .ing (by decide), hready.ing]
        · rw [after_fp s _ hn (b := 0x9C) rfl (by decide), bcDrop, Dev.sat, Dev.addSat,
            Dev.getN_setN_same _ _ _ _ (by decide), hdrop.getN (fpAt_reg (b := 0x9C) rfl hn (by decide) (by decide)),
            hready.words.getN (fpAt_reg (b := 0x9C) rfl hn (by decide) (by decide))]
          exact Nat.mod_eq_of_lt (Nat.lt_of_le_of_lt (Nat.min_le_right _ _) (by decide))
    · rw [after_port, rxTake_other hty (hpair hp), toIngest_others hm, hready.others m hm]
    · have htame := @Tame.frameReceive [.hif, .ports, .pairs, .keys, .ing] s.dev s.dev s.time n f (.refl _ _) ⟨by decide⟩
        ⟨by decide⟩ ⟨by decide⟩ ⟨by decide⟩ ⟨by decide⟩
      rw [after_hmp, ← hout]
      exact htame.stands .hmp (by decide)
  · intro s n f q hr hl hloop hm hs hc hf hlo hhi hb
    have hn := (portRuns_up hr).1
    obtain ⟨hports, hing, hwords⟩ := flowCounted_leaves (f := f) hloop
    have hport : (flowCounted n f s.dev).port n = s.dev.port n := by rw [Dev.port, hports, Dev.port]
    have hmode : (flowCounted n f s.dev).getN Reg.FP_PAUSE.MODE n = s.dev.getN Reg.FP_PAUSE.MODE n :=
      hwords.getN (fpAt_reg (b := 0x24) rfl hn (by decide) (by decide))
    have hrate : lineRate (flowCounted n f s.dev) n = lineRate s.dev n := by
      unfold lineRate
      rw [hwords.getN (f := Reg.FP_CTRL.SPEED) (fpAt_reg (b := 0) rfl hn (by decide) (by decide))]
    have hout : frameReceive s.time n f s.dev = pauseReceive s.time n (.pause q) (flowCounted n f s.dev) := by
      rw [frameReceive_flow ⟨hr, hl, .inl hloop⟩ hm hs hn hc hf hlo hhi, rxTake]
      simp only [hb]
    obtain ⟨h1, h2, h3⟩ := pauseReceive_pause (t := s.time) (n := n) (q := q) (flowCounted n f s.dev)
    obtain ⟨-, hq, hend⟩ := pauseClasses_leaves s.time (lineRate s.dev n) (fun _ => q % 2 ^ 16) (List.range 8) (s.dev.port n)
    rw [hport, hmode, hrate] at h1
    rw [exec_pauseFrame hb, exec_frameReceive, hout]
    refine ⟨rfl, _, rfl, ?_, ?_, ?_, fun hne => ?_, fun c h1m hc8 hcs hq16 => ?_, fun c hcs => ?_⟩
    · rw [after_port, h1]
      split
      · exact hq
      · rfl
    · rw [after_ing, h2, hing]
    · rw [fullVal_after _ _ hn (by decide), h3, fullVal_flowCounted hloop (.inl rfl)]
    · rw [after_port, h1, if_neg hne]
    · rw [after_port, h1, if_pos h1m, hend, if_pos ⟨List.mem_range.mpr hc8, hcs⟩, Nat.mod_eq_of_lt hq16, pauseUntil]
    · rw [after_port, h1]
      split
      · rw [hend, if_neg fun h => h.2 hcs]
      · rfl
  · intro s n f en qs hr hl hloop hm hs hc hf hlo hhi hb
    have hn := (portRuns_up hr).1
    obtain ⟨hports, -, hwords⟩ := flowCounted_leaves (f := f) hloop
    have hport : (flowCounted n f s.dev).port n = s.dev.port n := by rw [Dev.port, hports, Dev.port]
    have hmode : (flowCounted n f s.dev).getN Reg.FP_PAUSE.MODE n = s.dev.getN Reg.FP_PAUSE.MODE n :=
      hwords.getN (fpAt_reg (b := 0x24) rfl hn (by decide) (by decide))
    have hrate : lineRate (flowCounted n f s.dev) n = lineRate s.dev n := by
      unfold lineRate
      rw [hwords.getN (f := Reg.FP_CTRL.SPEED) (fpAt_reg (b := 0) rfl hn (by decide) (by decide))]
    have hclasses : pfcClasses n en (flowCounted n f s.dev) = pfcClasses n en s.dev := by
      unfold pfcClasses
      rw [hwords.getN (f := Reg.FP_PAUSE.PFC_EN) (fpAt_reg (b := 0x24) rfl hn (by decide) (by decide))]
    have hout : frameReceive s.time n f s.dev = pauseReceive s.time n (.pfc en qs) (flowCounted n f s.dev) := by
      rw [frameReceive_flow ⟨hr, hl, .inl hloop⟩ hm hs hn hc hf hlo hhi, rxTake]
      simp only [hb]
    obtain ⟨h1, h2⟩ := pauseReceive_pfc (t := s.time) (n := n) (en := en) (qs := qs) (flowCounted n f s.dev)
    obtain ⟨-, -, hend⟩ := pauseClasses_leaves s.time (lineRate s.dev n) (fun c => qs.getD c 0 % 2 ^ 16)
      (pfcClasses n en s.dev) (s.dev.port n)
    have hmem (c : Nat) : c ∈ pfcClasses n en s.dev ↔
        c < 8 ∧ en.testBit c = true ∧ (s.dev.getN Reg.FP_PAUSE.PFC_EN n).testBit c = true := by
      simp [pfcClasses, List.mem_filter]
    rw [hport, hmode, hrate, hclasses] at h1
    rw [exec_pfcFrame hb, exec_frameReceive, hout]
    refine ⟨rfl, _, rfl, ?_, fun c hm2 hc8 hen hpfc hcs hq16 => ?_, fun c hout => ?_⟩
    · rw [fullVal_after _ _ hn (by decide), h2, fullVal_flowCounted hloop (.inr rfl)]
    · rw [after_port, h1, if_pos hm2, hend, if_pos ⟨(hmem c).mpr ⟨hc8, hen, hpfc⟩, hcs⟩, Nat.mod_eq_of_lt hq16, pauseUntil]
    · rw [after_port, h1]
      split
      case isTrue hm2 =>
        rw [hend, if_neg]
        rintro ⟨hin, hcs⟩
        obtain ⟨-, hen, hpfc⟩ := (hmem c).mp hin
        rcases hout with h | h | h | h
        · exact h hm2
        · simp [h] at hen
        · simp [h] at hpfc
        · exact hcs h
      case isFalse => rfl

end Sys2Proof.Machine

/-!
PROOFS. The transmit scheduler, the end of a frame and the gate lists: what starts at a frame boundary, what a frame that
has ended leaves, and when a gate configuration counts (R125 to R143, R151, R152, R168).
-/

namespace Sys2Proof.Machine

open Sys2Proof

variable {d e : Dev}

theorem exec_configChange (port : Nat) (s : State) :
    exec (.configChange port) s =
      .next (s.after (if port < 16 then onWrite (0x40040 + port * 0x2000) (configChange s.time port) s.dev else s.dev)) := rfl

theorem exec_gateConfigApply (port : Nat) (s : State) :
    exec (.gateConfigApply port) s =
      .next (s.after (if port < 16 ∧ s.dev.up (islPrt port) then gateConfigApply s.time port s.dev else s.dev)) := rfl

theorem exec_gateEntryAdvance (port : Nat) (s : State) :
    exec (.gateEntryAdvance port) s =
      .next (s.after (if port < 16 ∧ s.dev.up (islPrt port) then gateEntryAdvance s.time port s.dev else s.dev)) := rfl

theorem exec_guardTimeStart (port : Nat) (s : State) :
    exec (.guardTimeStart port) s =
      .next (s.after (if portRuns s.dev port then guardRefresh s.time port s.dev else s.dev)) := rfl

theorem exec_txFrameEnd (port : Nat) (s : State) :
    exec (.txFrameEnd port) s = .next (s.after (if port < 16 then txFrameEnd port s.dev else s.dev)) := rfl

theorem exec_txFrameStart (port : Nat) (s : State) :
    exec (.txFrameStart port) s = .next (s.after (txFrameStart s.time port [7, 6, 5, 4, 3, 2, 1, 0] s.dev)) := rfl

theorem exec_txUnderrun (port : Nat) (s : State) :
    exec (.txUnderrun port) s = .next (s.after (if port < 16 then txUnderrun port s.dev else s.dev)) := rfl

/-- A timed launch at the head of its class. -/
def launchAt (t : Time) (n tc : Nat) (d : Dev) : Option TxFrame → Dev
  | some f => if f.launch.isSome then txFrameStart t n [tc] d else d
  | none => d

theorem exec_timedLaunch (n tc : Nat) (s : State) :
    exec (.timedLaunch n tc) s = .next (s.after (launchAt s.time n tc s.dev (queueOf s.dev n tc).head?)) := rfl

theorem exec_timedLaunch_timed {n tc : Nat} {s : State} {f : TxFrame} (hf : (queueOf s.dev n tc).head? = some f)
    (hl : f.launch.isSome = true) : exec (.timedLaunch n tc) s = .next (s.after (txFrameStart s.time n [tc] s.dev)) := by
  have hrun : launchAt s.time n tc s.dev (some f) = txFrameStart s.time n [tc] s.dev := if_pos hl
  rw [exec_timedLaunch, hf, hrun]

theorem exec_timedLaunch_untimed {n tc : Nat} {s : State}
    (h : ∀ f, (queueOf s.dev n tc).head? = some f → f.launch = none) :
    exec (.timedLaunch n tc) s = .next (s.after s.dev) := by
  have hrun (o : Option TxFrame) (ho : ∀ f, o = some f → f.launch = none) : launchAt s.time n tc s.dev o = s.dev := by
    cases o with
    | none => rfl
    | some f => exact if_neg (by simp [ho f rfl])
  rw [exec_timedLaunch, hrun _ h]

/-! ## The heads of the classes before a frame boundary -/

/-- Only queues of port n differ. -/
structure QueuesOnly (n : Nat) (d e : Dev) : Prop where
  flow : (e.port n).flowQ = (d.port n).flowQ
  others : ∀ m, m ≠ n → e.port m = d.port m

theorem QueuesOnly.fillHeads (n : Nat) (d : Dev) : QueuesOnly n d (fillHeads n d) := by
  have hstep (l : List Nat) (x : Dev) (hx : QueuesOnly n d x) : QueuesOnly n d (l.foldl (fun x tc =>
      match queueOf x n tc with
      | f :: rest =>
        if startReady x n f then x
        else
          let (k, x1) := x.draw
          x1.modPort n fun p => { p with queues := tset p.queues tc ({ f with
            fetched := f.fetched.map fun b => min f.len (b + (Config.freeWord k).toNat) } :: rest) }
      | [] => x) x) := by
    induction l generalizing x with
    | nil => exact hx
    | cons tc l ih =>
      refine ih _ ?_
      dsimp only
      split
      · split
        · exact hx
        · exact ⟨(congrArg Port.flowQ (Dev.modPort_port _ n _)).trans hx.flow,
            fun m hm => (Dev.modPort_port_other _ n _ hm).trans (hx.others m hm)⟩
      · exact hx
  exact hstep (List.range 8) d ⟨rfl, fun _ _ => rfl⟩

/-- Heads that are ready take no more data in. -/
theorem fillHeads_ready {n : Nat} (h : ∀ tc f rest, queueOf d n tc = f :: rest → startReady d n f = true) :
    fillHeads n d = d := by
  refine List.foldl_fixed' (fun tc => ?_) (List.range 8)
  split
  · next f rest hq => exact if_pos (h tc f rest hq)
  · rfl

theorem guardRefresh_others (t : Time) {n m : Nat} (h : m ≠ n) (d : Dev) : (guardRefresh t n d).port m = d.port m :=
  Dev.modPort_port_other d n _ h

/-- Is a head a timed frame inside its guard time (R139)? -/
def inGuard (t : Time) (d : Dev) (n : Nat) : Option TxFrame → Bool
  | some f => match f.launch with
    | some l => decide ((tickSpan t d : Int) ≤ launchDelta t d l) && decide (launchDelta t d l ≤ guardNs d n)
    | none => false
  | none => false

theorem inGuard_iff {t : Time} {n : Nat} {o : Option TxFrame} : inGuard t d n o = true ↔
    ∃ f l, o = some f ∧ f.launch = some l ∧ (tickSpan t d : Int) ≤ launchDelta t d l ∧ launchDelta t d l ≤ guardNs d n := by
  cases o with
  | none => exact ⟨nofun, fun ⟨_, _, h, _⟩ => nomatch h⟩
  | some f =>
    cases hl : f.launch with
    | none =>
      have hout : inGuard t d n (some f) = false := by simp only [inGuard, hl]
      rw [hout]
      refine ⟨nofun, fun ⟨g, l, hg, hgl, _⟩ => ?_⟩
      cases hg
      simp [hl] at hgl
    | some l =>
      have hin : inGuard t d n (some f) =
          (decide ((tickSpan t d : Int) ≤ launchDelta t d l) && decide (launchDelta t d l ≤ guardNs d n)) := by
        simp only [inGuard, hl]
      rw [hin, Bool.and_eq_true, decide_eq_true_iff, decide_eq_true_iff]
      refine ⟨fun h => ⟨f, l, rfl, hl, h.1, h.2⟩, fun ⟨g, k, hg, hgk, h1, h2⟩ => ?_⟩
      cases hg
      rw [hl] at hgk
      cases hgk
      exact ⟨h1, h2⟩

theorem guardRefresh_port (t : Time) (n : Nat) (d : Dev) : (guardRefresh t n d).port n =
    { d.port n with guard := (List.range 8).filter fun tc => inGuard t d n (queueOf d n tc).head? } :=
  Dev.modPort_port d n _

/-! ## What the hardware fills as a frame leaves (R53, R55) -/

/-- The queues of the ports do not matter to what is filled. -/
theorem fillTx_ports (t : Time) (n q : Nat) (f : TxFrame) (d : Dev) (ps : FMap Port) :
    (fillTx t n q f { d with ports := ps }).1 = (fillTx t n q f d).1 := by
  have htwo : twoStep { d with ports := ps } n = twoStep d n := rfl
  have hres (m : PtpType) : residenceOf n m { d with ports := ps } = residenceOf n m d := rfl
  unfold fillTx
  split
  · rfl
  · rw [htwo]
    split <;> rfl
  · dsimp only
    rw [htwo, hres]
    split
    · split <;> rfl
    · rfl
  · rfl

/-- Filling keeps what a frame is and how long it is. -/
theorem fillTx_keeps (t : Time) (n q : Nat) (f : TxFrame) (d : Dev) :
    (fillTx t n q f d).1.org = f.org ∧ (fillTx t n q f d).1.len = f.len := by
  unfold fillTx
  split
  · exact ⟨rfl, rfl⟩
  · split <;> exact ⟨rfl, rfl⟩
  · dsimp only
    split
    · split <;> exact ⟨rfl, rfl⟩
    · exact ⟨rfl, rfl⟩
  · exact ⟨rfl, rfl⟩

theorem fillTx_port (t : Time) (n q : Nat) (f : TxFrame) (d : Dev) (m : Nat) : (fillTx t n q f d).2.port m = d.port m := by
  unfold fillTx
  split
  · rfl
  · split <;> rfl
  · dsimp only
    split
    · split <;> rfl
    · rfl
  · rfl

/-! ## A frame that starts -/

/-- A head that leaves its queue, with the follow-up that it needs. -/
def headTaken (n tc : Nat) (f : TxFrame) (d : Dev) : Dev :=
  match ownFollow d n f with
  | some g => pushTx n g (popTx n tc d)
  | none => popTx n tc d

theorem headTaken_ports (n tc : Nat) (f : TxFrame) (d : Dev) :
    headTaken n tc f d = { d with ports := (headTaken n tc f d).ports } := by
  unfold headTaken
  split <;> rfl

theorem headTaken_others {n m : Nat} (h : m ≠ n) (tc : Nat) (f : TxFrame) (d : Dev) :
    (headTaken n tc f d).port m = d.port m := by
  unfold headTaken
  split
  · exact (Dev.modPort_port_other _ n _ h).trans (Dev.modPort_port_other d n _ h)
  · exact Dev.modPort_port_other d n _ h

/-- Without protection a frame starts. -/
theorem startTx_plain {n : Nat} (h : protects d n = false) (t : Time) (tc : Nat) (f : TxFrame) (st q : Nat) :
    startTx t n tc f st q d = .started ((fillTx t n q f (headTaken n tc f d)).2.modPort n fun p =>
      { p with cur := some ⟨(fillTx t n q f (headTaken n tc f d)).1, q, st⟩ }) := by
  have hmsec : msecTx n d = (true, d) := if_pos (by simp [h])
  unfold startTx headTaken
  cases ownFollow d n f <;> rw [hmsec] <;> rfl

/-- With the gates off no gate closes. -/
theorem gateClose_off {n tc : Nat} (h : d.onN Reg.FP_TAS_CTRL.GATE_EN n = false) (htc : tc < 8) (u now k : Nat) (g : GateSt) :
    gateClose d n tc u now k g = none := by
  have hopen (g : GateSt) : (gatesNow d n g).testBit tc = true := by
    unfold gatesNow
    rw [if_pos (by simp [h])]
    interval_cases tc <;> decide
  induction k generalizing now g with
  | zero => rfl
  | succ k ih =>
    unfold gateClose
    rw [if_neg (by simp [hopen])]
    split
    · rw [ih, ite_self]
    · rfl

/-- The class that alone has something to do is the one that is served. -/
theorem pickClass_alone {t : Time} {n c : Nat} {l : List Nat} (hc : c ∈ l) (hdo : tryClass t n c d ≠ .nothing)
    (hrest : ∀ x, x ≠ c → tryClass t n x d = .nothing) : pickClass t n d l = tryClass t n c d := by
  induction l with
  | nil => cases hc
  | cons x l ih =>
    unfold pickClass
    by_cases hx : x = c
    · subst hx
      split
      · next h => exact absurd h hdo
      · rfl
    · rw [hrest x hx]
      exact ih ((List.mem_cons.mp hc).resolve_left (Ne.symm hx))

/-- The instant at which a frame starts, in quarter nanoseconds: now, or the target of a timed one (R138). -/
def launchQ (t : Time) (d : Dev) (f : TxFrame) : Nat :=
  match f.launch with
  | none => t.qns
  | some l => (t.ns + (launchDelta t d l).toNat) * 4

/-- A port whose one queued frame may start. -/
structure LoneHead (n : Nat) (f : TxFrame) (d : Dev) : Prop where
  runs : n < 16 ∧ d.up (islPrt n) ∧ (d.port n).cur = none
  link : linkUp d n = true
  queue : (d.port n).queues = [(f.tc, [f])]
  cls : f.tc < 8
  ready : startReady d n f = true
  gates : d.onN Reg.FP_TAS_CTRL.GATE_EN n = false
  pause : tget (d.port n).pauseEnd f.tc = 0
  open_ : protects d n = false

namespace LoneHead

variable {n : Nat} {f : TxFrame}

theorem queueOf (h : LoneHead n f d) (tc : Nat) : queueOf d n tc = if tc = f.tc then [f] else [] := by
  unfold Machine.queueOf
  rw [h.queue]
  unfold tget fmAt fmLook fmLook
  split <;> rfl

/-- The heads before the frame boundary are those that wait. -/
theorem refreshed (h : LoneHead n f d) (t : Time) : LoneHead n f (guardRefresh t n d) where
  runs := ⟨h.runs.1, h.runs.2.1, (congrArg Port.cur (Dev.modPort_port d n _)).trans h.runs.2.2⟩
  link := h.link
  queue := (congrArg Port.queues (Dev.modPort_port d n _)).trans h.queue
  cls := h.cls
  ready := h.ready
  gates := h.gates
  pause := (congrArg (fun p => tget p.pauseEnd f.tc) (Dev.modPort_port d n _)).trans h.pause
  open_ := h.open_

theorem filled (h : LoneHead n f d) : fillHeads n d = d := by
  refine fillHeads_ready fun tc g rest hq => ?_
  rw [h.queueOf] at hq
  split at hq
  · cases hq
    exact h.ready
  · cases hq

theorem rest (h : LoneHead n f d) (t : Time) {x : Nat} (hx : x ≠ f.tc) : tryClass t n x d = .nothing := by
  unfold tryClass
  rw [h.queueOf, if_neg hx]
  rfl

theorem canStart (h : LoneHead n f d) (t : Time) (len : Nat) : canStart t d n f.tc len = true := by
  have hover : overlapsGuard t d n (some f.tc) len = false := by
    unfold overlapsGuard
    rw [List.any_eq_false]
    intro c _
    rw [h.queueOf]
    by_cases hc : c = f.tc
    · simp [hc]
    · simp [hc]
  have hgate : (gatesNow d n (d.port n).gate).testBit f.tc = true := by
    have hcls := h.cls
    unfold gatesNow
    rw [if_pos (by simp [h.gates])]
    interval_cases f.tc <;> decide
  unfold Machine.canStart
  simp only [hgate, h.pause, hover, gateClose_off h.gates h.cls]
  rfl

/-- The head of the one class starts, a timed one on time. -/
theorem tryClass (h : LoneHead n f d) {t : Time}
    (hv : ∀ l, f.launch = some l → verdictNow t d l.1 l.2.1 l.2.2 = .ok) :
    tryClass t n f.tc d = startTx t n f.tc f stOk (launchQ t d f) d := by
  have hopen : longestOpen d n f.tc (d.port n).gate = none := if_pos (by simp [h.gates])
  unfold Machine.tryClass
  rw [h.queueOf, if_pos rfl, List.head?_cons]
  dsimp only
  rw [if_neg (by simp [h.link]), hopen]
  dsimp only
  rw [if_neg (by decide), if_neg (by simp [h.canStart, h.ready])]
  unfold launchQ
  cases hl : f.launch with
  | none => rfl
  | some l =>
    dsimp only
    rw [hv l hl]

/-- The frame boundary starts the one frame. -/
theorem txFrameStart (h : LoneHead n f d) {t : Time} {classes : List Nat} (hc : f.tc ∈ classes)
    (hv : ∀ l, f.launch = some l → verdictNow t d l.1 l.2.1 l.2.2 = .ok)
    (hflow : (d.port n).flowQ = [] ∨ f.launch ≠ none) :
    ∃ x : Dev, x = { d with ports := x.ports } ∧ (∀ m, m ≠ n → x.port m = d.port m) ∧
      txFrameStart t n classes d = (fillTx t n (launchQ t d f) f x).2.modPort n fun p =>
        { p with cur := some ⟨(fillTx t n (launchQ t d f) f x).1, launchQ t d f, stOk⟩ } := by
  have hr := h.refreshed t
  have htry := hr.tryClass (t := t) hv
  rw [startTx_plain hr.open_] at htry
  have hnow (l : Nat × Nat × Nat) (hl : f.launch = some l) : targetNow t n (guardRefresh t n d) f.tc = true := by
    unfold targetNow
    rw [hr.queueOf, if_pos rfl, List.head?_cons]
    simp only [hl]
    exact decide_eq_true (hv l hl)
  have hready : flowReady t n (guardRefresh t n d) = none := by
    have hq : ((guardRefresh t n d).port n).flowQ = (d.port n).flowQ :=
      (congrArg Port.flowQ (Dev.modPort_port d n _)).trans rfl
    unfold flowReady
    rw [hq]
    rcases hflow with hflow | hflow
    · rw [hflow]
    · split
      · refine if_neg ?_
        obtain ⟨l, hl⟩ := Option.ne_none_iff_exists'.mp hflow
        have hany : (List.range 8).any (targetNow t n (guardRefresh t n d)) = true :=
          List.any_eq_true.mpr ⟨f.tc, List.mem_range.mpr h.cls, hnow l hl⟩
        simp [hany]
      · rfl
  have hmem : f.tc ∈ classes.filter (targetNow t n (guardRefresh t n d)) ++
      classes.filter fun tc => !targetNow t n (guardRefresh t n d) tc := by
    cases hx : targetNow t n (guardRefresh t n d) f.tc <;> simp [List.mem_filter, hc, hx]
  have hpick := pickClass_alone hmem (by rw [htry]; exact nofun) fun x hx => hr.rest t hx
  refine ⟨headTaken n f.tc f (guardRefresh t n d), ?_, fun m hm => ?_, ?_⟩
  · exact headTaken_ports _ _ _ _
  · rw [headTaken_others hm, guardRefresh_others t hm]
  · unfold Machine.txFrameStart
    rw [if_pos h.runs]
    dsimp only
    rw [hr.filled, hready]
    dsimp only
    unfold pickFrame
    rw [hpick, htry]
    rfl

end LoneHead

/-! ## A frame that ends (R131, R142, R143, R152) -/

theorem txDone_ports (n : Nat) (f : TxFrame) (fate : Option CopyFate) (d : Dev) : (txDone n f fate d).ports = d.ports :=
  (@Tame.txDone [.hif, .pairs] d d n f fate (.refl _ _) ⟨by decide⟩ ⟨by decide⟩).stands .ports (by decide)

/-- The end of a frame's way writes no word. -/
theorem txDone_word (n : Nat) (f : TxFrame) (fate : Option CopyFate) (d : Dev) (a : Nat) : (txDone n f fate d).word a = d.word a :=
  (Low.refl (a + 1) d).txDone (n := n) (f := f) (fate := fate) a (by omega)

theorem txDone_getN (n : Nat) (f : TxFrame) (fate : Option CopyFate) (d : Dev) (g : Field) (i : Nat) :
    (txDone n f fate d).getN g i = d.getN g i := getN_of_word (txDone_word n f fate d _)

theorem fullAdd_ports (n k m : Nat) (d : Dev) : (fullAdd n k m d).ports = d.ports :=
  (tame_fullAdd n k m d).stands .ports (by decide)

theorem Dev.sat_port (d : Dev) (f : Field) (n k : Nat) : (d.sat f n).port k = d.port k := rfl

theorem pushStamp_port (n : Nat) (o : TxOrigin) (q : Nat) (d : Dev) :
    (pushStamp n o q d).port n = { d.port n with stamps := (d.port n).stamps ++ [(o, q)] } :=
  Dev.modPort_port d n fun p => { p with stamps := p.stamps ++ [(o, q)] }

/-- A frame that has ended, counted. -/
def endCounted (n : Nat) (c : TxCur) (d : Dev) : Dev :=
  let d2 := (fullAdd n 25 1 (fullAdd n 24 c.frame.len (offWire n c true d))).sat Reg.FP_BC_TXF.N n
  if c.frame.org = .flow then fullAdd n 26 1 d2 else d2

theorem endCounted_port (n : Nat) (c : TxCur) (d : Dev) : (endCounted n c d).port n = { d.port n with
    cur := none, sent := (d.port n).sent ++ [(c.frame, c.startQ, true)]
    looped := if d.onN Reg.FP_CTRL.LOOP n then (d.port n).looped ++ [(c.frame, true)] else (d.port n).looped } := by
  unfold endCounted
  dsimp only
  split
  · rw [fullAdd_port, Dev.sat_port, fullAdd_port, fullAdd_port]
    exact Dev.modPort_port _ _ _
  · rw [Dev.sat_port, fullAdd_port, fullAdd_port]
    exact Dev.modPort_port _ _ _

theorem endCounted_txf {n : Nat} (hn : n < 16) (c : TxCur) (d : Dev) :
    (endCounted n c d).getN Reg.FP_BC_TXF.N n = min (d.getN Reg.FP_BC_TXF.N n + 1) (2 ^ 32 - 1) := by
  have hl : ∀ x ∈ [0x94], x < 0x800 ∧ x ≠ 8 ∧ x ≠ 0xA0 := by decide
  have hreg := fpAt_reg (l := [0x94]) (r := Reg.FP_BC_TXF.N.reg) (b := 0x94) rfl hn (by decide) (by decide)
  have hsat (x : Dev) : (x.sat Reg.FP_BC_TXF.N n).getN Reg.FP_BC_TXF.N n = min (x.getN Reg.FP_BC_TXF.N n + 1) (2 ^ 32 - 1) := by
    rw [Dev.sat, Dev.addSat, Dev.getN_setN_same _ _ _ _ (by decide)]
    exact Nat.mod_eq_of_lt (Nat.lt_of_le_of_lt (Nat.min_le_right _ _) (by decide))
  have hwire : Apart (fpAt [0x94]) d (offWire n c true d) := .refl _ d
  have hcount := ((hwire.fullAdd (n := n) (k := 24) (m := c.frame.len) (by decide) hl).fullAdd (n := n) (k := 25) (m := 1)
    (by decide) hl).getN hreg
  have hlast (x : Dev) : Apart (fpAt [0x94]) x (if c.frame.org = .flow then fullAdd n 26 1 x else x) :=
    .ite ((Apart.refl _ x).fullAdd (by decide) hl) (.refl _ x)
  unfold endCounted
  dsimp only
  rw [(hlast _).getN hreg, hsat, hcount]

/-- The stamp of a frame that wants none is not kept. -/
theorem txFrameEnd_unstamped {n : Nat} {c : TxCur} (h : (d.port n).cur = some c) (hw : wantsStamp d n c.frame = false) :
    txFrameEnd n d = txDone n c.frame (some ⟨c.status, c.status == stOk, none⟩) (endCounted n c d) := by
  unfold txFrameEnd
  rw [h]
  exact if_neg (by simp [hw])

theorem txFrameEnd_lost {n : Nat} {c : TxCur} (h : (d.port n).cur = some c) (hw : wantsStamp d n c.frame = true)
    (hf : 64 ≤ (d.port n).stamps.length) :
    txFrameEnd n d = txDone n c.frame (some ⟨stTsLost, c.status == stOk, none⟩)
      ((fullAdd n 31 1 (endCounted n c d)).cause (intFp n) 2 n stTsLost) := by
  unfold txFrameEnd
  rw [h]
  exact (if_pos hw).trans (if_pos hf)

theorem txFrameEnd_stamped {n : Nat} {c : TxCur} (h : (d.port n).cur = some c) (hw : wantsStamp d n c.frame = true)
    (hf : (d.port n).stamps.length < 64) :
    txFrameEnd n d = txDone n c.frame
      (some ⟨c.status, c.status == stOk, if c.frame.tsReq then some (txStamp d n c.startQ) else none⟩)
      (pushStamp n c.frame.org (txStamp d n c.startQ) (endCounted n c d)) := by
  unfold txFrameEnd
  rw [h]
  exact (if_pos hw).trans (if_neg (by omega))

/-- What a frame that ends leaves of its port and of the counter of frames sent. -/
structure FrameEnded (n : Nat) (c : TxCur) (d x : Dev) : Prop where
  cur : (x.port n).cur = none
  sent : (x.port n).sent = (d.port n).sent ++ [(c.frame, c.startQ, true)]
  queues : (x.port n).queues = (d.port n).queues
  looped : (x.port n).looped = (d.port n).looped ++ (if d.onN Reg.FP_CTRL.LOOP n then [(c.frame, true)] else [])
  count : x.getN Reg.FP_BC_TXF.N n = min (d.getN Reg.FP_BC_TXF.N n + 1) (2 ^ 32 - 1)

namespace FrameEnded

variable {n : Nat} {c : TxCur} {x : Dev}

theorem endCounted (hn : n < 16) (c : TxCur) (d : Dev) : FrameEnded n c d (endCounted n c d) := by
  have hp := endCounted_port n c d
  refine ⟨by rw [hp], by rw [hp], by rw [hp], ?_, endCounted_txf hn c d⟩
  rw [hp]
  dsimp only
  split
  · rfl
  · exact (List.append_nil _).symm

theorem stamped (h : FrameEnded n c d x) (hn : n < 16) (o : TxOrigin) (q : Nat) : FrameEnded n c d (pushStamp n o q x) := by
  have hp := pushStamp_port n o q x
  have hapart : Apart (fpAt [0x94]) x (pushStamp n o q x) :=
    Apart.setN (Apart.setN (Apart.refl _ x) (not_fpAt_reg (b := 0x20) rfl (by decide) (by decide)))
      (not_fpAt_reg (b := 0x20) rfl (by decide) (by decide))
  refine ⟨by rw [hp]; exact h.cur, by rw [hp]; exact h.sent, by rw [hp]; exact h.queues, by rw [hp]; exact h.looped, ?_⟩
  rw [hapart.getN (fpAt_reg (b := 0x94) rfl hn (by decide) (by decide)), h.count]

theorem lost (h : FrameEnded n c d x) (hn : n < 16) (y : Nat) :
    FrameEnded n c d ((fullAdd n 31 1 x).cause (intFp n) 2 n y) := by
  have hp : ((fullAdd n 31 1 x).cause (intFp n) 2 n y).port n = x.port n := by
    rw [Dev.port, Dev.cause_ports, fullAdd_ports, Dev.port]
  have hapart : Apart (fpAt [0x94]) x ((fullAdd n 31 1 x).cause (intFp n) 2 n y) := by
    refine ((Apart.refl _ x).fullAdd (by decide) (by decide)).cause ?_
    rw [intFp_addr]
    rintro ⟨-, -, hm⟩
    simp only [List.mem_cons, List.not_mem_nil, or_false] at hm
    omega
  refine ⟨by rw [hp]; exact h.cur, by rw [hp]; exact h.sent, by rw [hp]; exact h.queues, by rw [hp]; exact h.looped, ?_⟩
  rw [hapart.getN (fpAt_reg (b := 0x94) rfl hn (by decide) (by decide)), h.count]

theorem done (h : FrameEnded n c d x) (f : TxFrame) (fate : Option CopyFate) : FrameEnded n c d (txDone n f fate x) := by
  have hp : (txDone n f fate x).port n = x.port n := by rw [Dev.port, txDone_ports, Dev.port]
  refine ⟨by rw [hp]; exact h.cur, by rw [hp]; exact h.sent, by rw [hp]; exact h.queues, by rw [hp]; exact h.looped, ?_⟩
  rw [txDone_getN, h.count]

theorem after (h : FrameEnded n c d x) (hn : n < 16) (s : State) : FrameEnded n c d (s.after x).dev := by
  have hp : (s.after x).dev.port n = x.port n := after_port s x n
  refine ⟨by rw [hp]; exact h.cur, by rw [hp]; exact h.sent, by rw [hp]; exact h.queues, by rw [hp]; exact h.looped, ?_⟩
  rw [after_fp s x hn (b := 0x94) rfl (by decide), h.count]

theorem txFrameEnd (hn : n < 16) (h : (d.port n).cur = some c) : FrameEnded n c d (txFrameEnd n d) := by
  have hend := FrameEnded.endCounted hn c d
  by_cases hw : wantsStamp d n c.frame = true
  · rcases Nat.lt_or_ge (d.port n).stamps.length 64 with hf | hf
    · rw [txFrameEnd_stamped h hw hf]
      exact (hend.stamped hn _ _).done _ _
    · rw [txFrameEnd_lost h hw hf]
      exact (hend.lost hn _).done _ _
  · rw [txFrameEnd_unstamped h (by simpa using hw)]
    exact hend.done _ _

end FrameEnded

/-- A frame whose data does not arrive in time ends with a bad FCS (R152). -/
theorem txUnderrun_late {n k : Nat} {c : TxCur} (h : (d.port n).cur = some c) (hk : c.frame.fetched = some k)
    (hlt : k < c.frame.len) : ∃ x : Dev, txUnderrun n d = txFail n c.frame stMalformed
      (if d.getN Reg.FP_TXCFG.START_THR n < 4 then x.setN Reg.FP_TXCFG.START_THR n (d.getN Reg.FP_TXCFG.START_THR n + 1) else x) ∧
      x = (fullAdd n 27 1 (offWire n c false d)).cause (intFp n) 1 n stMalformed := by
  refine ⟨_, ?_, rfl⟩
  unfold txUnderrun
  rw [h]
  dsimp only
  rw [hk]
  exact if_neg (by simp only [Option.getD_some]; omega)

theorem txUnderrun_filled {n : Nat} {c : TxCur} (h : (d.port n).cur = some c)
    (hall : ∀ k, c.frame.fetched = some k → c.frame.len ≤ k) : txUnderrun n d = d := by
  have hfull : c.frame.fetched.getD c.frame.len ≥ c.frame.len := by
    cases hk : c.frame.fetched with
    | none => exact le_refl _
    | some k => exact hall k hk
  unfold txUnderrun
  rw [h]
  exact if_pos hfull

/-! ## Gate configurations (R132 to R135, R168) -/

theorem runEntry_keeps (l : List (Nat × Nat × Nat)) (start : Nat) (g : GateSt) :
    (runEntry l start g).pend = g.pend ∧ (runEntry l start g).oper = g.oper := by
  unfold runEntry
  split <;> exact ⟨rfl, rfl⟩

theorem newCycle_keeps (d : Dev) (n : Nat) (c : GateCfg) (start : Nat) (g : GateSt) :
    (newCycle d n c start g).pend = g.pend ∧ (newCycle d n c start g).oper = g.oper :=
  runEntry_keeps _ _ _

theorem gateExtend_keeps (d : Dev) (n : Nat) (g : GateSt) :
    (gateExtend d n g).pend = g.pend ∧ (gateExtend d n g).oper = g.oper := by
  unfold gateExtend
  split
  · split
    · exact ⟨rfl, rfl⟩
    · exact runEntry_keeps _ _ _
  · exact ⟨rfl, rfl⟩

/-- The check of the entry now running moves no port and no other register. -/
theorem gateOpCheck_ports (n : Nat) (d : Dev) : (gateOpCheck n d).ports = d.ports := by
  unfold gateOpCheck
  dsimp only
  split
  · split
    · exact Dev.cause_ports _ _ _ _ _
    · rfl
  · rfl

theorem gateOpCheck_port (n k : Nat) (d : Dev) : (gateOpCheck n d).port k = d.port k := by
  rw [Dev.port, gateOpCheck_ports, Dev.port]

theorem gateOpCheck_getN {n : Nat} {f : Field} {b : Nat} (hr : f.reg = ⟨0x40000 + b, 0x2000, 16, 1, 0⟩) (h8 : b ≠ 8)
    (d : Dev) : (gateOpCheck n d).getN f n = d.getN f n := by
  have hcause (k i x : Nat) : (d.cause (intFp n) k i x).getN f n = d.getN f n := by
    refine Dev.cause_getN _ _ _ _ _ _ _ ?_
    rw [intFp_addr, RegAt.addr_single hr n]
    omega
  unfold gateOpCheck
  dsimp only
  split
  · split
    · exact hcause _ _ _
    · rfl
  · rfl

theorem Dev.setN_port (d : Dev) (f : Field) (n v k : Nat) : (d.setN f n v).port k = d.port k := rfl

/-- The configuration in the administrative registers of a port, of the bank that does not run (R133). -/
def adminCfg (n : Nat) (d : Dev) : GateCfg :=
  ⟨1 - d.getN Reg.FP_TAS_STAT.OPER_BANK n, d.getN Reg.FP_TAS_CTRL.ADMIN_LEN n, d.getN Reg.FP_TAS_CYCLE.NS n,
    d.getN Reg.FP_TAS_EXT.NS n, baseNs d n⟩

/-- A change is taken while none waits (R133). -/
theorem configChange_taken {t : Time} {n : Nat} (h : d.onN Reg.FP_TAS_STAT.PENDING n = false) : configChange t n d =
    (d.modPort n fun p => { p with gate := gateExtend d n { (d.port n).gate with
      pend := some (adminCfg n d, changeTime t.ns (adminCfg n d)) } }).setN Reg.FP_TAS_STAT.PENDING n 1 :=
  if_neg (by simp [h])

/-- The operational configuration of a port from an instant on. -/
def gateChanged (n : Nat) (c : GateCfg) (at_ : Nat) (d : Dev) : Dev :=
  let d1 := d.modPort n fun p => { p with gate := gateApply d n c at_ (d.port n).gate }
  gateOpCheck n ((((d1.setN Reg.FP_TAS_STAT.OPER_BANK n c.bank).setN Reg.FP_TAS_STAT.OPER_LEN n c.len).setN
    Reg.FP_TAS_STAT.PENDING n 0).setN Reg.FP_TAS_STAT.ENTRY n (d1.port n).gate.entry)

/-- A list that starts again at an instant. -/
def gateRestarted (n : Nat) (c : GateCfg) (at_ : Nat) (d : Dev) : Dev :=
  let d1 := d.modPort n fun p => { p with gate := gateRestart d n c at_ (d.port n).gate }
  gateOpCheck n (d1.setN Reg.FP_TAS_STAT.ENTRY n (d1.port n).gate.entry)

/-- What is due of a pair of configurations. -/
theorem gateConfigApply_cases (t : Time) (n : Nat) (d : Dev) : gateConfigApply t n d =
    match dueAt (d.port n).gate.pend t.ns, dueAt (d.port n).gate.restart t.ns with
    | some (c, a), some (r, b) => if a ≤ b then gateChanged n c a d else gateRestarted n r b d
    | some (c, a), none => gateChanged n c a d
    | none, some (r, b) => gateRestarted n r b d
    | none, none => d := rfl

theorem dueAt_some {x : GateCfg × Nat} {now : Nat} (h : x.2 ≤ now) : dueAt (some x) now = some x := by
  simp [dueAt, h]

theorem dueAt_none {o : Option (GateCfg × Nat)} {now : Nat} (h : ∀ c a, o = some (c, a) → now < a) : dueAt o now = none := by
  cases o with
  | none => rfl
  | some x => simpa [dueAt] using h x.1 x.2 rfl

theorem dueAt_eq_some {o : Option (GateCfg × Nat)} {x : GateCfg × Nat} {now : Nat} (h : dueAt o now = some x) :
    o = some x ∧ x.2 ≤ now := by
  simpa [dueAt, Option.filter_eq_some_iff] using h

/-- A change that is due, and not after a restart that is due, counts. -/
theorem gateConfigApply_change {t : Time} {n at_ : Nat} {c : GateCfg} (h : (d.port n).gate.pend = some (c, at_))
    (hdue : at_ ≤ t.ns) (hr : ∀ r b, (d.port n).gate.restart = some (r, b) → at_ ≤ b ∨ t.ns < b) :
    gateConfigApply t n d = gateChanged n c at_ d := by
  rw [gateConfigApply_cases, h, dueAt_some hdue]
  cases hx : dueAt (d.port n).gate.restart t.ns with
  | none => rfl
  | some x =>
    obtain ⟨hx, hle⟩ := dueAt_eq_some hx
    exact if_pos ((hr x.1 x.2 hx).resolve_right (by omega))

/-- A restart that is due, and before a change that is due, counts. -/
theorem gateConfigApply_restart {t : Time} {n b : Nat} {r : GateCfg} (h : (d.port n).gate.restart = some (r, b))
    (hdue : b ≤ t.ns) (hp : ∀ c a, (d.port n).gate.pend = some (c, a) → b < a) :
    gateConfigApply t n d = gateRestarted n r b d := by
  rw [gateConfigApply_cases, h, dueAt_some hdue]
  cases hx : dueAt (d.port n).gate.pend t.ns with
  | none => rfl
  | some x =>
    have hlt := hp x.1 x.2 (dueAt_eq_some hx).1
    exact if_neg (by omega)

theorem gateConfigApply_idle {t : Time} {n : Nat} (hp : ∀ c a, (d.port n).gate.pend = some (c, a) → t.ns < a)
    (hr : ∀ r b, (d.port n).gate.restart = some (r, b) → t.ns < b) : gateConfigApply t n d = d := by
  rw [gateConfigApply_cases, dueAt_none hp, dueAt_none hr]

theorem withGate_port (n : Nat) (g : GateSt) (d : Dev) :
    (d.modPort n fun p => { p with gate := g }).port n = { d.port n with gate := g } := Dev.modPort_port d n _

theorem gateChanged_port (n : Nat) (c : GateCfg) (at_ : Nat) (d : Dev) :
    (gateChanged n c at_ d).port n = { d.port n with gate := gateApply d n c at_ (d.port n).gate } := by
  unfold gateChanged
  dsimp only
  rw [gateOpCheck_port]
  exact withGate_port n _ d

theorem gateRestarted_port (n : Nat) (c : GateCfg) (at_ : Nat) (d : Dev) :
    (gateRestarted n c at_ d).port n = { d.port n with gate := gateRestart d n c at_ (d.port n).gate } := by
  unfold gateRestarted
  dsimp only
  rw [gateOpCheck_port]
  exact withGate_port n _ d

theorem gateChanged_stat (n : Nat) (c : GateCfg) (at_ : Nat) (d : Dev) :
    (gateChanged n c at_ d).onN Reg.FP_TAS_STAT.PENDING n = false ∧
      (gateChanged n c at_ d).getN Reg.FP_TAS_STAT.OPER_BANK n = c.bank % 2 := by
  unfold gateChanged Dev.onN
  dsimp only
  rw [gateOpCheck_getN (b := 0x58) rfl (by decide), gateOpCheck_getN (b := 0x58) rfl (by decide),
    Dev.getN_setN_apart _ _ _ _ _ _ (by decide) (by decide) (by decide), Dev.getN_setN_same _ _ _ _ (by decide),
    Dev.getN_setN_apart _ _ _ _ _ _ (by decide) (by decide) (by decide),
    Dev.getN_setN_apart _ _ _ _ _ _ (by decide) (by decide) (by decide),
    Dev.getN_setN_apart _ _ _ _ _ _ (by decide) (by decide) (by decide), Dev.getN_setN_same _ _ _ _ (by decide)]
  exact ⟨rfl, rfl⟩

/-- A running entry that has ended gives way to the next. -/
theorem gateEntryAdvance_due {t : Time} {n : Nat} {c : GateCfg} (ho : (d.port n).gate.oper = some c)
    (hl : (gateList d n c).isEmpty = false) (he : (d.port n).gate.entryEnd ≤ t.ns) :
    (gateEntryAdvance t n d).port n = { d.port n with gate := gateAdvance d n c (d.port n).gate } := by
  have hstep : gateEntryAdvance t n d = gateOpCheck n ((d.modPort n fun p =>
      { p with gate := gateAdvance d n c (d.port n).gate }).setN Reg.FP_TAS_STAT.ENTRY n
      ((d.modPort n fun p => { p with gate := gateAdvance d n c (d.port n).gate }).port n).gate.entry) := by
    unfold gateEntryAdvance
    dsimp only
    rw [ho]
    exact if_pos (by simp [hl, he])
  rw [hstep, gateOpCheck_port]
  exact withGate_port n _ d

theorem gateEntryAdvance_idle {t : Time} {n : Nat} (h : t.ns < (d.port n).gate.entryEnd ∨ (d.port n).gate.oper = none) :
    gateEntryAdvance t n d = d := by
  unfold gateEntryAdvance
  dsimp only
  split
  · next c hc => exact if_neg (by simp [h.resolve_right (by simp [hc])])
  · rfl

/-- Without a flow control frame the classes are served in order, those with a target now first. -/
theorem txFrameStart_classes {t : Time} {n : Nat} {classes : List Nat} {x : Dev}
    (hr : n < 16 ∧ d.up (islPrt n) ∧ (d.port n).cur = none) (hx : x = fillHeads n (guardRefresh t n d))
    (hf : flowReady t n x = none) : txFrameStart t n classes d =
      pickFrame t n (classes.filter (targetNow t n x) ++ classes.filter fun tc => !targetNow t n x tc) (queued x n + 1) x := by
  unfold txFrameStart
  rw [if_pos hr]
  dsimp only
  rw [← hx, hf]

/-- Settles O30: a lone head by the class it stands in, a frame's end by its stamp, a gate configuration by what is due. -/
theorem transmission : Obligations.Transmission := by
  unfold Obligations.Transmission
  refine ⟨⟨?_, ?_, ?_, ?_, ?_, ?_, ?_, ?_⟩, ⟨?_, ?_, ?_, ?_⟩, ?_, ?_, ?_, ?_, ?_, ?_, ?_⟩
  · intro s n f hn hu hc hf
    have hstart : txFrameStart s.time n [7, 6, 5, 4, 3, 2, 1, 0] s.dev =
        (fillHeads n (guardRefresh s.time n s.dev)).modPort n fun p =>
          { p with flowQ := p.flowQ.tail, cur := some ⟨f, s.time.qns, stOk⟩ } := by
      unfold txFrameStart
      rw [if_pos ⟨hn, hu, hc⟩]
      dsimp only
      rw [hf]
    have hheads := QueuesOnly.fillHeads n (guardRefresh s.time n s.dev)
    rw [exec_txFrameStart, hstart]
    refine ⟨_, rfl, ?_, ?_, fun m hm => ?_⟩
    · rw [after_port, Dev.modPort_port]
    · rw [after_port, Dev.modPort_port, hheads.flow, guardRefresh_port]
    · rw [after_port, Dev.modPort_port_other _ _ _ hm, hheads.others m hm, guardRefresh_others _ hm]
  · intro s n d hn hu hc hd hf
    rw [exec_txFrameStart, txFrameStart_classes ⟨hn, hu, hc⟩ hd hf]
  · intro s n h
    have hidle : txFrameStart s.time n [7, 6, 5, 4, 3, 2, 1, 0] s.dev = s.dev := by
      refine if_neg ?_
      rintro ⟨hn, hu, hc⟩
      rcases h with h | h | h
      · omega
      · simp [h] at hu
      · exact h hc
    rw [exec_txFrameStart, hidle]
  · intro s n f hn hu hl hc hq hcls hlaunch hready hflow hgate hpause hprot
    have hlone : LoneHead n f s.dev := ⟨⟨hn, hu, hc⟩, hl, hq, hcls, hready, hgate, hpause, hprot⟩
    have hmem : f.tc ∈ ([7, 6, 5, 4, 3, 2, 1, 0] : List Nat) := by
      simp only [List.mem_cons, List.not_mem_nil, or_false]
      omega
    obtain ⟨x, hx, hother, hstart⟩ := hlone.txFrameStart (t := s.time) hmem (by simp [hlaunch]) (.inl hflow)
    have hq : launchQ s.time s.dev f = s.time.qns := by simp [launchQ, hlaunch]
    have hfill : (fillTx s.time n s.time.qns f x).1 = (fillTx s.time n s.time.qns f s.dev).1 := by
      rw [hx, fillTx_ports]
    rw [exec_txFrameStart, hstart, hq]
    refine ⟨_, rfl, ?_, fun m hm => ?_⟩
    · rw [after_port, Dev.modPort_port, hfill]
    · rw [after_port, Dev.modPort_port_other _ _ _ hm, fillTx_port, hother m hm]
  · intro s n tc f hf hl
    exact exec_timedLaunch_timed hf hl
  · intro s n tc h
    exact exec_timedLaunch_untimed h
  · intro s n f l hn hu hl hc hq hcls hlaunch hv hready hgate hpause hprot
    have hlone : LoneHead n f s.dev := ⟨⟨hn, hu, hc⟩, hl, hq, hcls, hready, hgate, hpause, hprot⟩
    have hhead : (queueOf s.dev n f.tc).head? = some f := by rw [hlone.queueOf, if_pos rfl, List.head?_cons]
    obtain ⟨x, -, -, hstart⟩ := hlone.txFrameStart (t := s.time) (List.mem_singleton_self f.tc)
      (fun l' hl' => by rw [hlaunch] at hl'; cases hl'; exact hv) (.inr (by simp [hlaunch]))
    have hqns : launchQ s.time s.dev f = (s.time.ns + (launchDelta s.time s.dev l).toNat) * 4 := by simp [launchQ, hlaunch]
    rw [exec_timedLaunch_timed hhead (by simp [hlaunch]), hstart, hqns]
    refine ⟨_, (fillTx s.time n ((s.time.ns + (launchDelta s.time s.dev l).toNat) * 4) f x).1, rfl, ?_, fillTx_keeps _ _ _ _ _⟩
    rw [after_port, Dev.modPort_port]
  · intro s n hr
    have hp := guardRefresh_port s.time n s.dev
    rw [exec_guardTimeStart, if_pos hr]
    refine ⟨_, rfl, ?_, ?_, fun m hm => ?_, fun tc => ?_⟩
    · rw [after_port, hp]
    · rw [after_port, hp]
    · rw [after_port, guardRefresh_others _ hm]
    · rw [after_port, hp]
      dsimp only
      rw [List.mem_filter, List.mem_range]
      exact and_congr_right fun _ => inGuard_iff
  · intro s n c hn hc
    have hend := (FrameEnded.txFrameEnd hn hc).after hn s
    rw [exec_txFrameEnd, if_pos hn]
    refine ⟨_, rfl, hend.cur, hend.sent, hend.queues, hend.looped, hend.count, fun hw hlt => ?_, fun hw hge => ?_, fun hw => ?_⟩
    · rw [txFrameEnd_stamped hc hw hlt, after_port, Dev.port, txDone_ports, ← Dev.port]
      rw [pushStamp_port, endCounted_port]
    · rw [txFrameEnd_lost hc hw hge]
      refine ⟨?_, ?_⟩
      · rw [after_port, Dev.port, txDone_ports, Dev.cause_ports, fullAdd_ports, ← Dev.port, endCounted_port]
      · rw [after_word _ _ _ (intFp_notIntake hn), txDone_word]
        exact Dev.cause_sets _ _ _ _ _ (by decide)
    · rw [txFrameEnd_unstamped hc hw, after_port, Dev.port, txDone_ports, ← Dev.port, endCounted_port]
  · intro s n hc
    have hend : txFrameEnd n s.dev = s.dev := by
      unfold txFrameEnd
      rw [hc]
    have hunder : txUnderrun n s.dev = s.dev := by
      unfold txUnderrun
      rw [hc]
    rw [exec_txFrameEnd, exec_txUnderrun, hend, hunder, ite_self]
    exact ⟨rfl, rfl⟩
  · intro s n k c hn hc hk hlt
    obtain ⟨x, hx, hxd⟩ := txUnderrun_late hc hk hlt
    have hkeep : Apart (fpAt [0x18]) s.dev x := by
      rw [hxd]
      refine Apart.cause (Apart.fullAdd (.refl _ _) (by decide) (by decide)) ?_
      rw [intFp_addr]
      rintro ⟨-, -, hm⟩
      simp only [List.mem_cons, List.not_mem_nil, or_false] at hm
      omega
    have hports : x.port n = (offWire n c false s.dev).port n := by
      rw [hxd, Dev.port, Dev.cause_ports, fullAdd_ports, Dev.port]
    have hraised : ∀ y, y = (if s.dev.getN Reg.FP_TXCFG.START_THR n < 4 then
        x.setN Reg.FP_TXCFG.START_THR n (s.dev.getN Reg.FP_TXCFG.START_THR n + 1) else x) → y.port n = x.port n ∧
        bitOf (y.word (intFp n).addr) 1 = true ∧ y.getN Reg.FP_TXCFG.START_THR n =
          (if s.dev.getN Reg.FP_TXCFG.START_THR n < 4 then s.dev.getN Reg.FP_TXCFG.START_THR n + 1
            else s.dev.getN Reg.FP_TXCFG.START_THR n) := by
      have hbit : bitOf (x.word (intFp n).addr) 1 = true := by
        rw [hxd]
        exact Dev.cause_sets _ _ _ _ _ (by decide)
      intro y hy
      split at hy
      · next hlt4 =>
        subst hy
        refine ⟨rfl, Dev.bit_setN _ _ _ _ ?_ hbit, ?_⟩
        · rw [intFp_addr, RegAt.addr_single (r := Reg.FP_TXCFG.START_THR.reg) rfl n]
          omega
        · rw [Dev.getN_setN_same _ _ _ _ (by decide), if_pos hlt4]
          exact Nat.mod_eq_of_lt (Nat.lt_of_lt_of_le (Nat.succ_lt_succ hlt4) (by decide))
      · next hge =>
        subst hy
        exact ⟨rfl, hbit, by rw [hkeep.getN (fpAt_reg (b := 0x18) rfl hn (by decide) (by decide)), if_neg hge]⟩
    obtain ⟨hyp, hybit, hythr⟩ := hraised _ rfl
    have hwire : (offWire n c false s.dev).port n = _ := Dev.modPort_port s.dev n _
    rw [exec_txUnderrun, if_pos hn, hx]
    unfold txFail
    refine ⟨_, rfl, ?_, ?_, ?_, ?_⟩
    · rw [after_port, Dev.port, txDone_ports, ← Dev.port, hyp, hports, hwire]
    · rw [after_port, Dev.port, txDone_ports, ← Dev.port, hyp, hports, hwire]
    · rw [after_word _ _ _ (intFp_notIntake hn), txDone_word, hybit]
    · rw [after_fp s _ hn (b := 0x18) rfl (by decide), txDone_getN, hythr]
  · intro s n c hc hall
    rw [exec_txUnderrun, txUnderrun_filled hc hall, ite_self]
  · intro s n hn hu hp
    have hup : s.dev.up (islandOf (0x40040 + n * 0x2000)) = true := by
      rw [islandOf_port hn (by omega) (by omega), hu]
    obtain ⟨hpend, hoper⟩ := gateExtend_keeps s.dev n
      { (s.dev.port n).gate with pend := some (adminCfg n s.dev, changeTime s.time.ns (adminCfg n s.dev)) }
    rw [exec_configChange, if_pos hn, onWrite_up _ hup, configChange_taken hp]
    refine ⟨_, adminCfg n s.dev, rfl, rfl, rfl, rfl, rfl, rfl, ?_, ?_, ?_⟩
    · rw [after_port, Dev.setN_port, withGate_port, hpend]
    · unfold Dev.onN
      rw [after_fp s _ hn (b := 0x58) rfl (by decide), Dev.getN_setN_same _ _ _ _ (by decide)]
      rfl
    · rw [after_port, Dev.setN_port, withGate_port, hoper]
  · intro s n hn hu hp
    have hup : s.dev.up (islandOf (0x40040 + n * 0x2000)) = true := by
      rw [islandOf_port hn (by omega) (by omega), hu]
    have hstep : configChange s.time n s.dev = _ := if_pos hp
    rw [exec_configChange, if_pos hn, onWrite_up _ hup, hstep]
  · intro s n at_ c hn hu hp hle hr
    have hport := gateChanged_port n c at_ s.dev
    obtain ⟨hpend, hbank⟩ := gateChanged_stat n c at_ s.dev
    obtain ⟨hkp, hko⟩ := newCycle_keeps s.dev n c at_
      { (s.dev.port n).gate with oper := some c, pend := none, restart := none }
    rw [exec_gateConfigApply, if_pos ⟨hn, hu⟩, gateConfigApply_change hp hle hr]
    refine ⟨_, rfl, ?_, ?_, ?_, ?_, ?_, ?_⟩
    · rw [after_port, hport]
      exact hko
    · rw [after_port, hport]
      exact hkp
    · rw [after_port, hport]
    · rw [after_onN _ _ _ _ (fp_notIntake hn (b := 0x58) rfl (by decide)), hpend]
    · rw [after_fp s _ hn (b := 0x58) rfl (by decide), hbank]
    · rw [after_port, hport]
  · intro s n b r hn hu hr hle hp
    have hport := gateRestarted_port n r b s.dev
    rw [exec_gateConfigApply, if_pos ⟨hn, hu⟩, gateConfigApply_restart hr hle hp]
    refine ⟨_, rfl, ?_, ?_, ?_⟩
    · rw [after_port, hport]
    · rw [after_port, hport]
      exact (newCycle_keeps _ _ _ _ _).1
    · rw [after_port, hport]
  · intro s n hp hr
    rw [exec_gateConfigApply, gateConfigApply_idle hp hr, ite_self]
  · intro s n c hn hu ho hl he
    rw [exec_gateEntryAdvance, if_pos ⟨hn, hu⟩]
    refine ⟨_, rfl, ?_, ?_⟩
    · rw [after_port, gateEntryAdvance_due ho hl he]
    · rw [after_port, gateEntryAdvance_due ho hl he]
  · intro s n h
    rw [exec_gateEntryAdvance, gateEntryAdvance_idle h, ite_self]

end Sys2Proof.Machine

/-!
PROOFS. PRP and HSR pairs: the keys of the discard table, the completion of a paired frame and supervision (R154 to R161).
-/

namespace Sys2Proof.Machine

open Sys2Proof

variable {d : Dev}

theorem exec_dupKeyForget (pair : Nat) (s : State) :
    exec (.dupKeyForget pair) s = .next (s.after (if pair < 8 then dupKeyForget s.time pair s.dev else s.dev)) := rfl

theorem exec_hsrSupervisionSend (pair : Nat) (s : State) :
    exec (.hsrSupervisionSend pair) s =
      .next (s.after (if pair < 8 then supervisionSend s.time pair s.dev else s.dev)) := rfl

theorem exec_pairCompletion (pair : Nat) (s : State) :
    exec (.pairCompletion pair) s = .next (s.after (if pair < 8 then pairCompletion pair s.dev else s.dev)) := rfl

theorem after_pair (s : State) (d : Dev) (k : Nat) : (s.after d).dev.pair k = d.pair k := by
  rw [Dev.pair, after_pairs, Dev.pair]

theorem pairMode_of_regs {e : Dev} (h : e.regs = d.regs) (n : Nat) : pairMode e n = pairMode d n := by
  unfold pairMode Dev.getN
  rw [h]

theorem portRuns_of_same {e : Dev} (h : e.regs = d.regs) (hi : e.isl = d.isl) (hp : e.pwr = d.pwr) (n : Nat) :
    portRuns e n = portRuns d n := by
  unfold portRuns Dev.up Dev.onN Dev.getN
  rw [h, hi, hp]

/-! ## The discard table and completions (R155, R157) -/

theorem setKeys_pair (p : Nat) (ks : List DupKey) (d : Dev) : (setKeys p ks d).pair p = { d.pair p with keys := ks } :=
  Dev.setPair_pair d p _

theorem setKeys_pair_other {p q : Nat} (h : q ≠ p) (ks : List DupKey) (d : Dev) : (setKeys p ks d).pair q = d.pair q :=
  Dev.setPair_pair_other d p _ h

/-- What the completion of a paired frame leaves of the pairs (R155). -/
theorem pairCompletion_pairs {p : Nat} {w : PairWait}
    (h : ((d.pair p).waits.find? fun w => w.even.isSome && w.odd.isSome) = some w) :
    (pairCompletion p d).pairs = (d.setPair p { d.pair p with waits := (d.pair p).waits.erase w }).pairs := by
  have hhif : Fact (StatePart.hif ∈ [StatePart.hif, .ports]) := ⟨by decide⟩
  have hports : Fact (StatePart.ports ∈ [StatePart.hif, .ports]) := ⟨by decide⟩
  have hsecond (c : Prop) [Decidable c] (m : Nat) (o : TxOrigin) (x : Dev) :
      Tame [.hif, .ports] x (if c then freeStamp m o x else x) := .ite (Tame.freeStamp (.refl _ x)) (.refl _ x)
  unfold pairCompletion
  dsimp only
  rw [h]
  exact (Tame.endStarted (hsecond _ _ _ _)).stands .pairs (by decide)

/-- Without stamps a paired frame's completion becomes due at once. -/
theorem pairCompletion_unstamped {p : Nat} {w : PairWait}
    (h : ((d.pair p).waits.find? fun w => w.even.isSome && w.odd.isSome) = some w)
    (he : ∀ x, w.even.join = some x → x.stamp = none) (ho : ∀ x, w.odd.join = some x → x.stamp = none) :
    pairCompletion p d = endStarted w.ring w.idx (pairStatus w.even.join w.odd.join).1 (dLen w.words)
      (txExt none (p * 2)) none (d.setPair p { d.pair p with waits := (d.pair p).waits.erase w }) := by
  have hstamp (o : Option CopyFate) (ho : ∀ x, o = some x → x.stamp = none) : o.bind (·.stamp) = none := by
    cases o with
    | none => rfl
    | some x => exact ho x rfl
  have hnone : (pairStatus w.even.join w.odd.join).2 = none := by
    unfold pairStatus
    dsimp only
    rw [hstamp _ he, hstamp _ ho]
  unfold pairCompletion
  dsimp only
  rw [h]
  dsimp only
  rw [hnone]
  exact congrArg (endStarted w.ring w.idx _ _ _ none) (if_neg (by simp))

theorem pairCompletion_waits {p : Nat} (h : ∀ w ∈ (d.pair p).waits, w.even = none ∨ w.odd = none) : pairCompletion p d = d := by
  have hnone : ((d.pair p).waits.find? fun w => w.even.isSome && w.odd.isSome) = none := by
    rw [List.find?_eq_none]
    intro w hw
    rcases h w hw with h | h <;> simp [h]
  unfold pairCompletion
  dsimp only
  rw [hnone]

/-! ## Supervision (R154, R161) -/

/-- The supervision frame of a pair as it is built. -/
def supFrame (p : Nat) (d : Dev) : TxFrame :=
  ⟨.supervision, 0, (Config.template (d.pair p).supTmpl).length + 4, Config.template (d.pair p).supTmpl, none, false, none, none⟩

/-- A pair whose supervision frames are about to leave. -/
def supStarted (t : Time) (p : Nat) (d : Dev) : Dev :=
  (xaornSup p d).setPair p { (xaornSup p d).pair p with supLast := t.loc }

/-- In HSR a port sends its own supervision frame, with a sequence number of its own. -/
def supOwn (p : Nat) (f : TxFrame) (x : Dev) (k : Nat) : Dev :=
  if portRuns x (p * 2 + k) then
    sendTx (p * 2 + k) { f with len := f.len + 6, red := some ⟨true, (x.pair p).seq, k == 1⟩ }
      (x.setPair p { x.pair p with seq := ((x.pair p).seq + 1) % 2 ^ 16 })
  else x

/-- Supervision is due where the pair has a mode and a running port and its interval has passed. -/
def supDue (t : Time) (p : Nat) (d : Dev) : Prop :=
  pairMode d (p * 2) ≠ 0 ∧ d.getN Reg.FP_PAIR.SUP_INT (p * 2) * 100000000 ≠ 0 ∧
    d.getN Reg.FP_PAIR.SUP_INT (p * 2) * 100000000 ≤ t.loc - (d.pair p).supLast ∧
    (portRuns d (p * 2) = true ∨ portRuns d (p * 2 + 1) = true)

theorem supervisionSend_prp {t : Time} {p : Nat} (h : supDue t p d) (hm : pairMode d (p * 2) = 1) :
    supervisionSend t p d = sendTx (p * 2) (supFrame p (supStarted t p d)) (supStarted t p d) :=
  (if_pos h).trans (if_pos hm)

theorem supervisionSend_hsr {t : Time} {p : Nat} (h : supDue t p d) (hm : pairMode d (p * 2) ≠ 1) :
    supervisionSend t p d = supOwn p (supFrame p (supStarted t p d)) (supOwn p (supFrame p (supStarted t p d))
      (supStarted t p d) 0) 1 :=
  (if_pos h).trans (if_neg hm)

theorem supervisionSend_idle {t : Time} {p : Nat} (h : ¬ supDue t p d) : supervisionSend t p d = d := if_neg h

/-- Xaorn's template changes the pair's template alone. -/
theorem supStarted_keeps (t : Time) (p : Nat) (d : Dev) : (supStarted t p d).regs = d.regs ∧ (supStarted t p d).ports = d.ports ∧
    (supStarted t p d).isl = d.isl ∧ (supStarted t p d).pwr = d.pwr := by
  unfold supStarted xaornSup
  split <;> exact ⟨rfl, rfl, rfl, rfl⟩

/-- One port's turn in sending a pair's supervision frames: a running port queues one, and nothing else of the ports changes. -/
structure SupStep (p n : Nat) (b : List Byte) (x y : Dev) : Prop where
  regs : y.regs = x.regs
  isl : y.isl = x.isl
  pwr : y.pwr = x.pwr
  tmpl : (y.pair p).supTmpl = (x.pair p).supTmpl
  last : (y.pair p).supLast = (x.pair p).supLast
  others : ∀ m, m ≠ n → y.port m = x.port m
  queued : portRuns x n = true → ∃ f, f.org = .supervision ∧ f.bytes = b ∧
    tget (y.port n).queues 0 = tget (x.port n).queues 0 ++ [f]

namespace SupStep

variable {p n : Nat} {b : List Byte} {x y : Dev}

theorem runs (h : SupStep p n b x y) (m : Nat) : portRuns y m = portRuns x m := portRuns_of_same h.regs h.isl h.pwr m

/-- A port that is up takes the frame. -/
theorem push (p : Nat) {f : TxFrame} {x : Dev} {c : Bool} (hc : x.up (islPrt n) = c) (ho : f.org = .supervision)
    (htc : f.tc = 0) (hb : f.bytes = b) : SupStep p n b x (if c then pushTx n f x else x) := by
  subst hc
  split
  · refine ⟨rfl, rfl, rfl, rfl, rfl, fun m hm => pushTx_other n f x hm, fun _ => ⟨f, ho, hb, ?_⟩⟩
    rw [← htc]
    exact pushTx_queue n x (by omega)
  · next hu =>
    refine ⟨rfl, rfl, rfl, rfl, rfl, fun _ _ => rfl, fun hr => ?_⟩
    exact absurd (portRuns_up hr).2 hu

/-- The sequence number of a pair has no part in it. -/
theorem ofSeq {q : Nat} (h : SupStep p n b (x.setPair p { x.pair p with seq := q }) y) : SupStep p n b x y := by
  have hp : (x.setPair p { x.pair p with seq := q }).pair p = _ := Dev.setPair_pair x p _
  exact ⟨h.regs, h.isl, h.pwr, by rw [h.tmpl, hp], by rw [h.last, hp], h.others, h.queued⟩

/-- Both ports' turns. -/
theorem both (h0 : SupStep p (p * 2) b x y) {z : Dev} (h1 : SupStep p (p * 2 + 1) b y z) {k : Nat} (hk : k < 2)
    (hr : portRuns x (p * 2 + k) = true) : ∃ f, f.org = .supervision ∧ f.bytes = b ∧
      tget (z.port (p * 2 + k)).queues 0 = tget (x.port (p * 2 + k)).queues 0 ++ [f] := by
  obtain rfl | rfl : k = 0 ∨ k = 1 := by omega
  · rw [h1.others (p * 2 + 0) (by omega)]
    exact h0.queued hr
  · rw [← h0.others (p * 2 + 1) (by omega)]
    exact h1.queued (by rw [h0.runs, hr])

end SupStep

/-- In PRP both ports take a copy of one frame. -/
theorem sendTx_prp {p : Nat} {f : TxFrame} {x : Dev} (hm : pairMode x (p * 2) = 1) (ho : f.org = .supervision)
    (htc : f.tc = 0) : ∃ y, SupStep p (p * 2) f.bytes x y ∧ SupStep p (p * 2 + 1) f.bytes y (sendTx (p * 2) f x) := by
  have hfail (n : Nat) (g : TxFrame) (hg : g.org = .supervision) (st : Nat) (z : Dev) : txFail n g st z = z := by
    unfold txFail txDone
    rw [hg]
  have hown : ¬ (pairMode x (p * 2) = 0 ∨ ownPortOnly (pairMode x (p * 2)) f.org = true) := by
    rw [hm, ho]
    decide
  have hdiv : p * 2 / 2 = p := Nat.mul_div_cancel p (by decide)
  refine ⟨_, SupStep.ofSeq (q := ((x.pair p).seq + 1) % 2 ^ 16) (SupStep.push p rfl (f := { f with
    len := f.len + 6, red := some ⟨pairMode x (p * 2) == 2, (x.pair p).seq, false⟩
    fetched := f.fetched.map fun k => if f.len ≤ k then k + 6 else k }) ho htc rfl), ?_⟩
  unfold sendTx
  dsimp only
  rw [if_neg hown, hdiv, hfail _ _ ho, hfail _ _ ho]
  exact SupStep.push p (n := p * 2 + 1) (b := f.bytes) (f := { f with
    len := f.len + 6, red := some ⟨pairMode x (p * 2) == 2, (x.pair p).seq, true⟩
    fetched := f.fetched.map fun k => if f.len ≤ k then k + 6 else k }) (by split <;> rfl) ho htc rfl

/-- In HSR each port takes a frame of its own. -/
theorem supOwn_step {p k : Nat} {f : TxFrame} {x : Dev} (hk : k < 2) (hm : pairMode x (p * 2) = 2) (ho : f.org = .supervision)
    (htc : f.tc = 0) : SupStep p (p * 2 + k) f.bytes x (supOwn p f x k) := by
  have hmode : pairMode x (p * 2 + k) = 2 := by
    have hdiv : (p * 2 + k) / 2 * 2 = p * 2 / 2 * 2 := by omega
    exact (congrArg (x.getN Reg.FP_PAIR.MODE) hdiv).trans hm
  unfold supOwn
  split
  · next hr =>
    refine SupStep.ofSeq (q := ((x.pair p).seq + 1) % 2 ^ 16) ?_
    have hown : ownPortOnly (pairMode (x.setPair p { x.pair p with seq := ((x.pair p).seq + 1) % 2 ^ 16 }) (p * 2 + k))
        f.org = true := by
      rw [pairMode_of_regs (d := x) (Dev.setPair_regs _ _ _), hmode, ho]
      rfl
    unfold sendTx
    dsimp only
    rw [if_pos (.inr hown)]
    exact SupStep.push p rfl (f := { f with len := f.len + 6, red := some ⟨true, (x.pair p).seq, k == 1⟩ }) ho htc rfl
  · next hr => exact ⟨rfl, rfl, rfl, rfl, rfl, fun _ _ => rfl, fun h => absurd h hr⟩

/-- Supervision that is due: each running port of the pair queues a frame of the pair's template. -/
theorem supervisionSend_due {t : Time} {p : Nat} (h : supDue t p d) (hm : pairMode d (p * 2) = 1 ∨ pairMode d (p * 2) = 2) :
    ((supervisionSend t p d).pair p).supLast = t.loc ∧ ∀ k, k < 2 → portRuns d (p * 2 + k) = true → ∃ f, f.org = .supervision ∧
      f.bytes = Config.template ((supervisionSend t p d).pair p).supTmpl ∧
      tget ((supervisionSend t p d).port (p * 2 + k)).queues 0 = tget (d.port (p * 2 + k)).queues 0 ++ [f] := by
  obtain ⟨hregs, hports, hisl, hpwr⟩ := supStarted_keeps t p d
  have hmode : pairMode (supStarted t p d) (p * 2) = pairMode d (p * 2) := pairMode_of_regs hregs _
  have hruns (m : Nat) : portRuns (supStarted t p d) m = portRuns d m := portRuns_of_same hregs hisl hpwr m
  have hlast : ((supStarted t p d).pair p).supLast = t.loc := congrArg PairSt.supLast (Dev.setPair_pair _ _ _)
  have hport (m : Nat) : (supStarted t p d).port m = d.port m := by rw [Dev.port, hports, Dev.port]
  have hsteps : ∃ y, SupStep p (p * 2) (supFrame p (supStarted t p d)).bytes (supStarted t p d) y ∧
      SupStep p (p * 2 + 1) (supFrame p (supStarted t p d)).bytes y (supervisionSend t p d) := by
    rcases hm with hm | hm
    · rw [supervisionSend_prp h hm]
      exact sendTx_prp (hmode.trans hm) rfl rfl
    · have h0 := supOwn_step (k := 0) (f := supFrame p (supStarted t p d)) (by decide) (hmode.trans hm) rfl rfl
      have hm0 : pairMode (supOwn p (supFrame p (supStarted t p d)) (supStarted t p d) 0) (p * 2) = 2 :=
        (pairMode_of_regs h0.regs _).trans (hmode.trans hm)
      rw [supervisionSend_hsr h (by omega)]
      exact ⟨_, h0, supOwn_step (k := 1) (by decide) hm0 rfl rfl⟩
  obtain ⟨y, h0, h1⟩ := hsteps
  have htmpl : ((supervisionSend t p d).pair p).supTmpl = ((supStarted t p d).pair p).supTmpl := h1.tmpl.trans h0.tmpl
  refine ⟨(h1.last.trans h0.last).trans hlast, fun k hk hr => ?_⟩
  rw [htmpl, ← hport]
  exact h0.both h1 hk (by rw [hruns, hr])

/-- Settles O31: the table by its live keys, a completion by the wait it ends, supervision by each port's turn. -/
theorem pairs : Obligations.Pairs := by
  unfold Obligations.Pairs
  refine ⟨?_, ?_, ?_, ?_, ?_, ?_, ?_, ?_⟩
  · intro s p hp
    have hpair : (dupKeyForget s.time p s.dev).pair p = _ := setKeys_pair p (liveKeys s.time s.dev p) s.dev
    rw [exec_dupKeyForget, if_pos hp]
    refine ⟨_, rfl, ?_, ?_, fun q hq => ?_, ?_⟩
    · rw [after_pair, hpair]
      rfl
    · rw [after_pair, hpair]
    · rw [after_pair]
      exact setKeys_pair_other hq _ _
    · rw [after_ports]
      rfl
  · intro s p w hp hw
    have hpairs := pairCompletion_pairs hw
    rw [exec_pairCompletion, if_pos hp]
    refine ⟨_, rfl, ?_, fun q hq => ?_, ?_⟩
    · rw [after_pair, Dev.pair, hpairs, ← Dev.pair, Dev.setPair_pair]
    · rw [after_pair, Dev.pair, hpairs, ← Dev.pair, Dev.setPair_pair_other _ _ _ hq]
    · rw [after_pair, Dev.pair, hpairs, ← Dev.pair, Dev.setPair_pair]
  · intro s p w hp hw he ho
    rw [exec_pairCompletion, if_pos hp, pairCompletion_unstamped hw he ho]
  · intro a b h
    unfold pairStatus
    exact if_pos (by simpa using h)
  · intro a h
    unfold pairStatus
    simp [h]
  · intro s p h
    rw [exec_pairCompletion, pairCompletion_waits h, ite_self]
  · intro s p hp hm hr hi hl
    have hdue : supDue s.time p s.dev := ⟨by omega, by omega, by omega, hr⟩
    obtain ⟨hlast, hsent⟩ := supervisionSend_due hdue hm
    rw [exec_hsrSupervisionSend, if_pos hp]
    refine ⟨_, rfl, by rw [after_pair, hlast], fun k hk hrun => ?_⟩
    rw [after_pair, after_port]
    exact hsent k hk hrun
  · intro s p hp h
    have hidle : ¬ supDue s.time p s.dev := by
      rintro ⟨hm, hi, hl, hr⟩
      rcases h with h | h | h | ⟨h, h'⟩
      · exact hm h
      · omega
      · omega
      · simp [h, h'] at hr
    rw [exec_hsrSupervisionSend, supervisionSend_idle hidle, ite_self]

end Sys2Proof.Machine

/-!
PROOFS. Ingest takes frames in and parses them: round-robin intake, the limits of its inputs and its buffer, and the first row
of the classification (R172 to R177, R475).
-/

namespace Sys2Proof.Machine

open Sys2Proof

variable {d : Dev}

theorem exec_hostlimSecond (s : State) :
    exec .hostlimSecond s = .next (s.after (if s.dev.up islIng then secondRoll s.time s.dev else s.dev)) := rfl

theorem exec_ingestIntake (s : State) :
    exec .ingestIntake s = .next (s.after (if s.dev.up islIng then ingestIntake s.time s.dev else s.dev)) := rfl

theorem exec_ingestParse (s : State) :
    exec .ingestParse s = .next (s.after (if s.dev.up islIng then ingestParse s.time s.dev else s.dev)) := rfl

/-! ## Saturating counters -/

theorem Dev.getN_sat_same (d : Dev) (f : Field) (i : Nat) (hf : f.fits = true) :
    (d.sat f i).getN f i = min (d.getN f i + 1) (2 ^ f.width - 1) := by
  have hpos : 0 < 2 ^ f.width := Nat.two_pow_pos _
  rw [Dev.sat, Dev.addSat, Dev.getN_setN_same _ _ _ _ hf]
  exact Nat.mod_eq_of_lt (by omega)

theorem Dev.get_sat_same (d : Dev) (f : Field) (hf : f.fits = true) :
    (d.sat f).get f = min (d.get f + 1) (2 ^ f.width - 1) := Dev.getN_sat_same d f 0 hf

/-! ## The limits of an input and of the buffer (R173, R174) -/

/-- Frames of this millisecond at an input, the one in hand included. -/
def limitCount (t : Time) (i : Nat) (d : Dev) : Nat := (if d.ing.ms = t.ns / 1000000 then tget d.ing.msCnt i else 0) + 1

/-- The count of an input's frames leaves the buffer and the inputs. -/
structure LimitLeaves (d x : Dev) : Prop where
  buf : x.ing.buf = d.ing.buf
  bytes : x.ing.bytes = d.ing.bytes
  inq : x.ing.inq = d.ing.inq
  injq : x.ing.injq = d.ing.injq
  turn : x.ing.turn = d.ing.turn

/-- The state in which a frame has been counted at its input. -/
def limitCounted (t : Time) (i : Nat) (d : Dev) : Dev :=
  let d0 := if d.ing.ms = t.ns / 1000000 then d else d.modIng fun x => { x with ms := t.ns / 1000000, msCnt := [], msSeen := false }
  d0.modIng fun x => { x with msCnt := tset x.msCnt i (tget d0.ing.msCnt i + 1) }

theorem limitCounted_leaves (t : Time) (i : Nat) (d : Dev) : LimitLeaves d (limitCounted t i d) ∧ (limitCounted t i d).regs = d.regs := by
  unfold limitCounted
  dsimp only
  split <;> exact ⟨⟨rfl, rfl, rfl, rfl, rfl⟩, rfl⟩

/-- The count that a frame meets. -/
theorem portLimit_cases (t : Time) (i : Nat) (d : Dev) : portLimit t i d =
    if d.getN Reg.ING_PORTLIMn.LIMIT i = 0 ∨ limitCount t i d ≤ d.getN Reg.ING_PORTLIMn.LIMIT i then (true, limitCounted t i d)
    else (false, if ((limitCounted t i d).sat Reg.ING_CNT_PORTLIM.N).ing.msSeen then (limitCounted t i d).sat Reg.ING_CNT_PORTLIM.N
      else (((limitCounted t i d).sat Reg.ING_CNT_PORTLIM.N).modIng fun x => { x with msSeen := true }).cause intIng 7 i 0) := by
  unfold portLimit limitCount limitCounted
  dsimp only
  by_cases h : d.ing.ms = t.ns / 1000000
  · rw [if_pos h, if_pos h]
  · rw [if_neg h, if_neg h]
    rfl

theorem portLimit_within {t : Time} {i : Nat}
    (h : d.getN Reg.ING_PORTLIMn.LIMIT i = 0 ∨ limitCount t i d ≤ d.getN Reg.ING_PORTLIMn.LIMIT i) :
    portLimit t i d = (true, limitCounted t i d) := by
  rw [portLimit_cases, if_pos h]

theorem portLimit_beyond {t : Time} {i : Nat} (h0 : d.getN Reg.ING_PORTLIMn.LIMIT i ≠ 0)
    (h : d.getN Reg.ING_PORTLIMn.LIMIT i < limitCount t i d) : ∃ x, portLimit t i d = (false, x) ∧ LimitLeaves d x ∧
      x.get Reg.ING_CNT_PORTLIM.N = min (d.get Reg.ING_CNT_PORTLIM.N + 1) (2 ^ 32 - 1) := by
  obtain ⟨⟨hb, hy, hq, hj, ht⟩, hregs⟩ := limitCounted_leaves t i d
  have hcount : ((limitCounted t i d).sat Reg.ING_CNT_PORTLIM.N).get Reg.ING_CNT_PORTLIM.N =
      min (d.get Reg.ING_CNT_PORTLIM.N + 1) (2 ^ 32 - 1) := by
    rw [Dev.get_sat_same _ _ (by decide), Dev.get, Dev.getN, hregs, ← Dev.getN, ← Dev.get]
    rfl
  rw [portLimit_cases, if_neg (by omega)]
  refine ⟨_, rfl, ?_, ?_⟩
  · split
    · exact ⟨hb, hy, hq, hj, ht⟩
    · refine ⟨?_, ?_, ?_, ?_, ?_⟩ <;> rw [Dev.cause_ing]
      exacts [hb, hy, hq, hj, ht]
  · split
    · exact hcount
    · rw [Dev.cause_get _ _ _ _ _ _ (by decide)]
      exact hcount

theorem bufferTake_holds {f : InFrame} (h : d.ing.bytes + f.frame.len ≤ 2 ^ 20) : bufferTake f d =
    (true, showFill (d.modIng fun x => { x with buf := x.buf ++ [f], bytes := x.bytes + f.frame.len })) :=
  if_neg (by omega)

theorem bufferTake_full {f : InFrame} (h : 2 ^ 20 < d.ing.bytes + f.frame.len) :
    bufferTake f d = (false, (d.sat Reg.ING_CNT_OVF.N).cause intIng 2 0 0) := if_pos h

theorem bufferTake_inputs (f : InFrame) (d : Dev) : (bufferTake f d).2.ing.inq = d.ing.inq ∧
    (bufferTake f d).2.ing.injq = d.ing.injq ∧ (bufferTake f d).2.ing.turn = d.ing.turn := by
  unfold bufferTake
  split
  · refine ⟨?_, ?_, ?_⟩ <;> rw [Dev.cause_ing] <;> rfl
  · exact ⟨rfl, rfl, rfl⟩

/-! ## An input is served (R172) -/

theorem ingestIntake_none (t : Time) (h : nextInput d = none) : ingestIntake t d = d := by
  unfold ingestIntake
  rw [h]

/-- A frame that waits at a port's input has left it. -/
def inputTaken (i : Nat) (f : InFrame) (rest : List InFrame) (d : Dev) : Dev :=
  ((d.modIng fun x => { x with turn := i }).modIng fun y => { y with inq := tset y.inq i rest }).modPort i fun p =>
    { p with rxFill := p.rxFill - f.frame.len }

theorem inputTaken_ing (i : Nat) (f : InFrame) (rest : List InFrame) (d : Dev) :
    (inputTaken i f rest d).ing = { d.ing with turn := i, inq := tset d.ing.inq i rest } := rfl

theorem inputTaken_regs (i : Nat) (f : InFrame) (rest : List InFrame) (d : Dev) : (inputTaken i f rest d).regs = d.regs := rfl

theorem ingestIntake_port {t : Time} {i : Nat} {f : InFrame} {rest : List InFrame} (hn : nextInput d = some i) (hi : i < 20)
    (hq : tget d.ing.inq i = f :: rest) : ingestIntake t d = (match portLimit t i (inputTaken i f rest d) with
      | (true, x) => (bufferTake f x).2
      | (false, x) => x) := by
  unfold ingestIntake
  rw [hn]
  dsimp only
  rw [if_neg (by omega)]
  have hq' : tget (d.modIng fun x => { x with turn := i }).ing.inq i = f :: rest := hq
  rw [hq']
  dsimp only
  unfold inputTaken
  generalize portLimit t i (((d.modIng fun x => { x with turn := i }).modIng fun y =>
    { y with inq := tset y.inq i rest }).modPort i fun p => { p with rxFill := p.rxFill - f.frame.len }) = r
  obtain ⟨b, x⟩ := r
  cases b <;> rfl

/-- A frame within its port's limit goes to the buffer. -/
theorem ingestIntake_within {t : Time} {i : Nat} {f : InFrame} {rest : List InFrame} (hn : nextInput d = some i) (hi : i < 20)
    (hq : tget d.ing.inq i = f :: rest)
    (h : d.getN Reg.ING_PORTLIMn.LIMIT i = 0 ∨ limitCount t i d ≤ d.getN Reg.ING_PORTLIMn.LIMIT i) :
    ingestIntake t d = (bufferTake f (limitCounted t i (inputTaken i f rest d))).2 := by
  have hlim : portLimit t i (inputTaken i f rest d) = (true, limitCounted t i (inputTaken i f rest d)) := portLimit_within h
  rw [ingestIntake_port hn hi hq, hlim]

/-- A frame beyond its port's limit is discarded. -/
theorem ingestIntake_beyond {t : Time} {i : Nat} {f : InFrame} {rest : List InFrame} (hn : nextInput d = some i) (hi : i < 20)
    (hq : tget d.ing.inq i = f :: rest) (h0 : d.getN Reg.ING_PORTLIMn.LIMIT i ≠ 0)
    (h : d.getN Reg.ING_PORTLIMn.LIMIT i < limitCount t i d) : LimitLeaves (inputTaken i f rest d) (ingestIntake t d) ∧
      (ingestIntake t d).get Reg.ING_CNT_PORTLIM.N = min (d.get Reg.ING_CNT_PORTLIM.N + 1) (2 ^ 32 - 1) := by
  obtain ⟨x, hx, hleaves, hcount⟩ := portLimit_beyond (d := inputTaken i f rest d) (t := t) (i := i) h0 h
  rw [ingestIntake_port hn hi hq, hx]
  exact ⟨hleaves, hcount⟩

/-! ## An injected frame is served (R475) -/

/-- An injected frame has left its input. -/
def injectTaken (rest : List Inject) (d : Dev) : Dev :=
  (d.modIng fun x => { x with turn := 20 }).modIng fun y => { y with injq := rest }

theorem ingestIntake_inject {t : Time} {x : Inject} {rest : List Inject} (hn : nextInput d = some 20) (hq : d.ing.injq = x :: rest) :
    ingestIntake t d = injectTake t x (injectTaken rest d) := by
  have hq' : (d.modIng fun x => { x with turn := 20 }).ing.injq = x :: rest := hq
  unfold ingestIntake
  rw [hn]
  dsimp only
  rw [if_pos rfl, hq']
  rfl

theorem endStarted_ing (n idx status len : Nat) (ext : List Byte) (p : Option Nat) (d : Dev) :
    (endStarted n idx status len ext p d).ing = d.ing :=
  (@Tame.endStarted [.hif] d d n idx status len ext p (.refl _ _) ⟨by decide⟩).stands .ing (by decide)

/-- An injected frame is taken up like any other; its descriptor completes. -/
theorem injectTake_ing (t : Time) (x : Inject) (d : Dev) : (injectTake t x d).ing =
    if d.getN Reg.ING_PORTLIMn.LIMIT 20 = 0 ∨ limitCount t 20 d ≤ d.getN Reg.ING_PORTLIMn.LIMIT 20 then
      (bufferTake ⟨20, x.arrQ.getD t.qns, x.frame, false⟩ (limitCounted t 20 d)).2.ing
    else (portLimit t 20 d).2.ing := by
  by_cases h : d.getN Reg.ING_PORTLIMn.LIMIT 20 = 0 ∨ limitCount t 20 d ≤ d.getN Reg.ING_PORTLIMn.LIMIT 20
  · rw [if_pos h, injectTake, portLimit_within h]
    dsimp only
    obtain ⟨b, y⟩ := bufferTake ⟨20, x.arrQ.getD t.qns, x.frame, false⟩ (limitCounted t 20 d)
    cases b <;> exact endStarted_ing _ _ _ _ _ _ _
  · obtain ⟨y, hy, -⟩ := portLimit_beyond (d := d) (t := t) (i := 20) (by omega) (by omega)
    rw [if_neg h, injectTake, hy]
    exact endStarted_ing _ _ _ _ _ _ _

/-! ## Parsing (R175 to R177) -/

theorem secondRoll_same {t : Time} (h : t.sec = d.ing.second) : secondRoll t d = d := if_pos h

/-- A whole second restarts the counts and leaves the buffer and every register but the status. -/
theorem secondRoll_ing (t : Time) (d : Dev) : (secondRoll t d).ing = { d.ing with
    second := t.sec, hostCnt := if t.sec = d.ing.second then d.ing.hostCnt else 0
    fps := if t.sec = d.ing.second then d.ing.fps else 0 } := by
  unfold secondRoll
  split
  · next h => rw [h]
  · rfl

theorem secondRoll_word (t : Time) (d : Dev) {a : Nat} (h : a ≠ 0x70004) : (secondRoll t d).word a = d.word a := by
  unfold secondRoll
  split
  · rfl
  · exact Dev.word_set d Reg.ING_STATUS.FPS _ a h

/-- The oldest frame of the buffer is taken out of it. -/
def frameOut (t : Time) (f : InFrame) (rest : List InFrame) (d : Dev) : Dev :=
  showFill ((secondRoll t d).modIng fun x => { x with buf := rest, bytes := x.bytes - f.frame.len, fps := x.fps + 1 })

theorem frameOut_ing (t : Time) (f : InFrame) (rest : List InFrame) (d : Dev) : (frameOut t f rest d).ing =
    { (secondRoll t d).ing with buf := rest, bytes := (secondRoll t d).ing.bytes - f.frame.len, fps := (secondRoll t d).ing.fps + 1 } :=
  rfl

theorem frameOut_word (t : Time) (f : InFrame) (rest : List InFrame) (d : Dev) {a : Nat} (h : a ≠ 0x70004) :
    (frameOut t f rest d).word a = d.word a :=
  (Dev.word_set _ Reg.ING_STATUS.FILL _ a h).trans (secondRoll_word t d h)

theorem secondRoll_buf (t : Time) (d : Dev) : (secondRoll t d).ing.buf = d.ing.buf := by rw [secondRoll_ing]

theorem ingestParse_empty (t : Time) (h : d.ing.buf = []) : ingestParse t d = secondRoll t d := by
  unfold ingestParse
  dsimp only
  rw [secondRoll_buf, h]

theorem ingestParse_frame {t : Time} {f : InFrame} {rest : List InFrame} (h : d.ing.buf = f :: rest) : ingestParse t d =
    if (frameOut t f rest d).on Reg.ING_CTRL.EN then classify t f (frameOut t f rest d) else unsup (frameOut t f rest d) := by
  unfold ingestParse
  dsimp only
  rw [secondRoll_buf, h]
  rfl

/-- Settles O32: an input by its limit and the buffer's room, a frame by the enable of ingest. -/
theorem ingestFrames : Obligations.IngestFrames := by
  unfold Obligations.IngestFrames
  refine ⟨⟨?_, ?_, ?_⟩, ?_, ?_, ?_, ?_⟩
  · intro s h
    rw [exec_ingestIntake]
    rcases h with h | h
    · rw [ingestIntake_none _ h, ite_self]
    · rw [if_neg (by simp [h])]
  · intro s i c f rest hu hn hi hq hc
    have hc' : c = limitCount s.time i s.dev := hc
    rw [exec_ingestIntake, if_pos hu]
    refine ⟨_, rfl, ?_⟩
    rw [after_ing]
    by_cases hw : s.dev.getN Reg.ING_PORTLIMn.LIMIT i = 0 ∨ c ≤ s.dev.getN Reg.ING_PORTLIMn.LIMIT i
    · obtain ⟨⟨hbuf, hbytes, hinq, -, hturn⟩, hregs⟩ := limitCounted_leaves s.time i (inputTaken i f rest s.dev)
      obtain ⟨hinq', -, hturn'⟩ := bufferTake_inputs f (limitCounted s.time i (inputTaken i f rest s.dev))
      rw [inputTaken_ing] at hbuf hbytes hinq hturn
      rw [ingestIntake_within hn hi hq (hc' ▸ hw), hinq', hturn', hinq, hturn]
      refine ⟨tget_tset_same _ _ _, rfl, fun j hj => tget_tset_other _ hj _, fun _ => ⟨fun hfit => ?_, fun hover => ?_⟩,
        fun h0 hlt => absurd hw (by omega)⟩
      · rw [bufferTake_holds (by rw [hbytes]; exact hfit)]
        exact ⟨congrArg (· ++ [f]) hbuf, congrArg (· + f.frame.len) hbytes⟩
      · rw [bufferTake_full (by rw [hbytes]; exact hover), Dev.cause_ing]
        refine ⟨hbuf, hbytes, ?_⟩
        rw [after_get _ _ _ (notIntake_of_lt (by decide)), Dev.cause_get _ _ _ _ _ _ (by decide), Dev.get_sat_same _ _ (by decide),
          Dev.get, Dev.getN, hregs, inputTaken_regs]
        rfl
    · have h0 : s.dev.getN Reg.ING_PORTLIMn.LIMIT i ≠ 0 := by omega
      have hlt : s.dev.getN Reg.ING_PORTLIMn.LIMIT i < c := by omega
      obtain ⟨⟨hbuf, hbytes, hinq, -, hturn⟩, hcount⟩ := ingestIntake_beyond (t := s.time) hn hi hq h0 (hc' ▸ hlt)
      rw [inputTaken_ing] at hbuf hbytes hinq hturn
      rw [hinq, hturn, hbuf, hbytes]
      refine ⟨tget_tset_same _ _ _, rfl, fun j hj => tget_tset_other _ hj _, fun h => absurd h hw, fun _ _ => ⟨rfl, rfl, ?_⟩⟩
      rw [after_get _ _ _ (notIntake_of_lt (by decide)), hcount]
  · intro s c x rest hu hn hq hc
    have hc' : c = limitCount s.time 20 s.dev := hc
    have hlim : limitCount s.time 20 (injectTaken rest s.dev) = limitCount s.time 20 s.dev := rfl
    have hreg : (injectTaken rest s.dev).getN Reg.ING_PORTLIMn.LIMIT 20 = s.dev.getN Reg.ING_PORTLIMn.LIMIT 20 := rfl
    rw [exec_ingestIntake, if_pos hu, ingestIntake_inject hn hq]
    refine ⟨_, rfl, ?_⟩
    rw [after_ing, injectTake_ing, hlim, hreg, ← hc']
    by_cases hw : s.dev.getN Reg.ING_PORTLIMn.LIMIT 20 = 0 ∨ c ≤ s.dev.getN Reg.ING_PORTLIMn.LIMIT 20
    · obtain ⟨⟨hbuf, hbytes, -, hinj, hturn⟩, -⟩ := limitCounted_leaves s.time 20 (injectTaken rest s.dev)
      obtain ⟨-, hinj', hturn'⟩ := bufferTake_inputs ⟨20, x.arrQ.getD s.time.qns, x.frame, false⟩
        (limitCounted s.time 20 (injectTaken rest s.dev))
      rw [if_pos hw, hinj', hinj, hturn', hturn]
      refine ⟨rfl, rfl, fun _ hfit => ?_, fun h => ?_⟩
      · rw [bufferTake_holds (by rw [hbytes]; exact hfit)]
        exact congrArg (· ++ [_]) hbuf
      · have hover := h.resolve_left (by omega)
        rw [bufferTake_full (by rw [hbytes]; exact hover), Dev.cause_ing]
        exact hbuf
    · obtain ⟨y, hy, ⟨hbuf, -, -, hinj, hturn⟩, -⟩ := portLimit_beyond (d := injectTaken rest s.dev) (t := s.time) (i := 20)
        (by omega) (by omega)
      rw [if_neg hw, hy]
      exact ⟨hinj, hturn, fun h => absurd h hw, fun _ => hbuf⟩
  · intro s hu
    rw [exec_hostlimSecond, if_pos hu]
    refine ⟨rfl, fun h => ?_⟩
    rw [secondRoll_ing]
    simp [h]
  · intro s hu hb
    rw [exec_ingestParse, if_pos hu, ingestParse_empty _ hb]
  · intro s f rest hu hb
    have hen : (frameOut s.time f rest s.dev).on Reg.ING_CTRL.EN = s.dev.on Reg.ING_CTRL.EN := by
      have hget : (frameOut s.time f rest s.dev).getN Reg.ING_CTRL.EN 0 = s.dev.getN Reg.ING_CTRL.EN 0 :=
        getN_of_word (frameOut_word _ _ _ _ (by decide))
      rw [Dev.on, Dev.onN, hget, ← Dev.onN, ← Dev.on]
    refine ⟨frameOut s.time f rest s.dev, rfl, ?_, ?_, ?_, fun a ha => frameOut_word _ _ _ _ ha, fun he => ?_, fun he => ?_,
      fun hv => if_pos hv⟩
    · rw [frameOut_ing, secondRoll_ing]
    · rw [frameOut_ing, secondRoll_ing]
    · rw [frameOut_ing, secondRoll_ing]
    · rw [exec_ingestParse, if_pos hu, ingestParse_frame hb, if_neg (by simp [hen, he])]
      rfl
    · rw [exec_ingestParse, if_pos hu, ingestParse_frame hb, if_pos (by rw [hen, he])]
  · intro s hu
    rw [exec_hostlimSecond, exec_ingestParse, if_neg (by simp [hu]), if_neg (by simp [hu])]
    exact ⟨rfl, rfl⟩

end Sys2Proof.Machine

/-!
PROOFS. Arrivals at Roll Call and the place of a frame: the cases of Table ALN-5 and what a frame that takes its place leaves
(R193, R216 to R222, R228 to R232).
-/

namespace Sys2Proof.Machine

open Sys2Proof

variable {d : Dev}

theorem exec_alignFrame (s : State) : exec .alignFrame s = .next (s.after (alignFrame s.time s.dev)) := rfl

/-! ## The oldest block (R228, R229) -/

theorem alignFrame_empty (t : Time) (h : d.aln.inq = []) : alignFrame t d = d := by
  unfold alignFrame
  rw [h]

/-- The device with the oldest block taken and the spreads closed whose deadlines a step has passed. -/
def blockTaken (t : Time) (rest : List AlnBlk) (d : Dev) : Dev :=
  closeOverdue t d.aln.open_.length (d.modAln fun x => { x with inq := rest })

theorem alignFrame_block {t : Time} {b : AlnBlk} {rest : List AlnBlk} (h : d.aln.inq = b :: rest) : alignFrame t d =
    if !((blockTaken t rest d).up islAln && (blockTaken t rest d).on Reg.ALN_CTRL.EN && (blockTaken t rest d).on Reg.ALN_STATUS.RUN)
    then blockTaken t rest d
    else if b.future then futureReport b.src (blockTaken t rest d)
    else match blockK (blockTaken t rest d) b with
      | some k =>
        if srcAligned (blockTaken t rest d) b.src ∧ b.words.length ≤ (blockTaken t rest d).getN Reg.T_ATTR.RSV b.src then
          settle t (arrive t k b (blockTaken t rest d))
        else (blockTaken t rest d).sat Reg.ALN_CNT_NOREGION.N
      | none => (blockTaken t rest d).sat Reg.ALN_CNT_NOREGION.N := by
  unfold alignFrame
  rw [h]
  rfl

section

variable {t : Time} {b : AlnBlk} {rest : List AlnBlk} {x : Dev} (hq : d.aln.inq = b :: rest) (hx : x = blockTaken t rest d)

include hq hx

theorem alignFrame_stopped (h : x.up islAln = false ∨ x.on Reg.ALN_CTRL.EN = false ∨ x.on Reg.ALN_STATUS.RUN = false) :
    alignFrame t d = x := by
  rw [alignFrame_block hq, ← hx]
  refine if_pos ?_
  rcases h with h | h | h <;> simp [h]

variable (hu : x.up islAln = true) (he : x.on Reg.ALN_CTRL.EN = true) (hr : x.on Reg.ALN_STATUS.RUN = true)

include hu he hr

theorem alignFrame_future (h : b.future = true) : alignFrame t d = futureReport b.src x := by
  rw [alignFrame_block hq, ← hx, if_neg (by simp [hu, he, hr]), if_pos h]

theorem alignFrame_noRegion (hf : b.future = false)
    (h : blockK x b = none ∨ srcAligned x b.src = false ∨ x.getN Reg.T_ATTR.RSV b.src < b.words.length) :
    alignFrame t d = x.sat Reg.ALN_CNT_NOREGION.N := by
  rw [alignFrame_block hq, ← hx, if_neg (by simp [hu, he, hr]), if_neg (by simp [hf])]
  cases hk : blockK x b with
  | none => rfl
  | some k =>
    refine if_neg ?_
    rintro ⟨ha, hl⟩
    rcases h with h | h | h
    · rw [hk] at h
      cases h
    · simp [h] at ha
    · omega

theorem alignFrame_arrives {k : Nat} (hf : b.future = false) (hk : blockK x b = some k) (ha : srcAligned x b.src = true)
    (hl : b.words.length ≤ x.getN Reg.T_ATTR.RSV b.src) : alignFrame t d = settle t (arrive t k b x) := by
  rw [alignFrame_block hq, ← hx, if_neg (by simp [hu, he, hr]), if_neg (by simp [hf]), hk]
  exact if_pos ⟨ha, hl⟩

end

theorem futureReport_count (n : Nat) (d : Dev) :
    (futureReport n d).get Reg.ALN_CNT_FUTURE.N = min (d.get Reg.ALN_CNT_FUTURE.N + 1) (2 ^ 32 - 1) := by
  have hcount := Dev.get_sat_same d Reg.ALN_CNT_FUTURE.N (by decide)
  unfold futureReport
  dsimp only
  split
  · exact hcount
  · exact hcount

theorem closeOverdue_timely {t : Time} (h : ∀ sp rest, d.aln.open_ = sp :: rest → overdue t d sp = false) (n : Nat) :
    closeOverdue t n d = d := by
  cases n with
  | zero => rfl
  | succ n =>
    unfold closeOverdue
    split
    · rfl
    · next sp rest ho => exact if_neg (by simp [h sp rest ho])

/-! ## Table ALN-5 (R230 to R232) -/

theorem arrive_open {t : Time} {k : Nat} {b : AlnBlk} {sp : Spread}
    (h : (revive k b d).aln.open_.find? (fun o => o.k == k) = some sp) : arrive t k b d =
      if sp.present.contains b.src then (revive k b d).sat Reg.ALN_CNT_DUP.N else takeFrame sp b (revive k b d) := by
  unfold arrive
  dsimp only
  rw [h]

theorem arrive_late {t : Time} {k : Nat} {b : AlnBlk} (h : (revive k b d).aln.open_.find? (fun o => o.k == k) = none)
    (hl : k < (revive k b d).aln.nextK ∨ k < (revive k b d).aln.firstK ∨ (revive k b d).aln.drain = true) :
    arrive t k b d = lateFrame t k b (revive k b d) := by
  unfold arrive
  dsimp only
  rw [h]
  exact if_pos hl

theorem arrive_new {t : Time} {k : Nat} {b : AlnBlk} (h : (revive k b d).aln.open_.find? (fun o => o.k == k) = none)
    (hl : ¬ (k < (revive k b d).aln.nextK ∨ k < (revive k b d).aln.firstK ∨ (revive k b d).aln.drain = true)) :
    arrive t k b d = if slotTaken (revive k b d) k then ((revive k b d).sat Reg.ALN_CNT_NOSLOT.N).cause intAln 3 0 0
      else match (openSpread k (revive k b d)).aln.open_.find? fun o => o.k == k with
        | some sp => takeFrame sp b (openSpread k (revive k b d))
        | none => openSpread k (revive k b d) := by
  unfold arrive
  dsimp only
  rw [h]
  exact if_neg hl

/-- A spread put among others of other instants is found there. -/
theorem find_insertSpread {sp : Spread} {l : List Spread} (h : l.find? (fun o => o.k == sp.k) = none) :
    (insertSpread sp l).find? (fun o => o.k == sp.k) = some sp := by
  induction l with
  | nil => simp [insertSpread]
  | cons x l ih =>
    rw [List.find?_cons] at h
    cases hx : x.k == sp.k with
    | true => simp [hx] at h
    | false =>
      rw [hx] at h
      unfold insertSpread
      split
      · simp
      · rw [List.find?_cons, hx]
        exact ih h

/-- A spread that opens stands among the open ones with the sources due. -/
theorem openSpread_finds {k : Nat} (h : d.aln.open_.find? (fun o => o.k == k) = none) :
    (openSpread k d).aln.open_.find? (fun o => o.k == k) = some ⟨k, dueList d k, [], [], []⟩ := by
  have hnot : ¬ (d.aln.open_.any fun o => o.k == k) = true := by
    rw [List.find?_eq_none] at h
    rw [List.any_eq_true]
    rintro ⟨o, ho, hk⟩
    exact h o ho hk
  unfold openSpread
  rw [if_neg hnot]
  exact find_insertSpread (sp := ⟨k, dueList d k, [], [], []⟩) h

/-! ## A frame takes its place (R216, R218, R222) -/

/-- The flags that a frame gets as it takes its place: late, after a future report, its words replaced. -/
def frameFlags (sp : Spread) (b : AlnBlk) (pol : Nat) (d : Dev) : Nat :=
  b.flags ||| (if d.get Reg.ALN_LATE.LATE_MARK * 1000 ≠ 0 ∧ spreadNs d sp.k + d.get Reg.ALN_LATE.LATE_MARK * 1000 < b.arrNs
    then flLate else 0) ||| (if sp.future.contains b.src then flFuture else 0) ||| (if pol = 1 then flInvalid else 0)

theorem frameFlags_eq (sp : Spread) (b : AlnBlk) (pol : Nat) (d : Dev) : frameFlags sp b pol d =
    b.flags ||| (if d.get Reg.ALN_LATE.LATE_MARK ≠ 0 ∧ spreadNs d sp.k + d.get Reg.ALN_LATE.LATE_MARK * 1000 < b.arrNs
      then 2 else 0) ||| (if b.src ∈ sp.future then 4 else 0) ||| (if pol = 1 then 8 else 0) := by
  have hmark : (d.get Reg.ALN_LATE.LATE_MARK * 1000 ≠ 0 ∧ spreadNs d sp.k + d.get Reg.ALN_LATE.LATE_MARK * 1000 < b.arrNs) ↔
      (d.get Reg.ALN_LATE.LATE_MARK ≠ 0 ∧ spreadNs d sp.k + d.get Reg.ALN_LATE.LATE_MARK * 1000 < b.arrNs) := by omega
  simp only [frameFlags, hmark, List.contains_eq_mem, decide_eq_true_eq, flLate, flFuture, flInvalid]

/-- The region that a frame writes for its source. -/
def frameRegion (sp : Spread) (b : AlnBlk) (pol : Nat) (d : Dev) : Region :=
  ⟨b.src, if srcType d b.src = 3 ∧ b.flags.testBit 0 = true then 0x8000 else b.stat, b.arrNs % 2 ^ 32, frameFlags sp b pol d,
    if pol = 1 then List.replicate b.words.length wInvalid else b.words⟩

/-- The policy that a frame meets: that of its source where its time quality is degraded (R231). -/
def framePolicy (sp : Spread) (b : AlnBlk) (d : Dev) : Nat :=
  if b.flags.testBit 5 then attrGet d Reg.T_ATTR.TQ_POLICY (spreadNs d sp.k) b.src else 0

/-- A source is present in a spread, and due there. -/
def joined (src : Nat) (o : Spread) : Spread :=
  { o with
    present := o.present ++ [src]
    due := if o.due.contains src then o.due else (List.range 512).filter fun s => o.due.contains s || s == src }

/-- A source's frame has been dropped for its time quality. -/
def tqDropped (src : Nat) (o : Spread) : Spread :=
  { o with tqDrop := if o.tqDrop.contains src then o.tqDrop else o.tqDrop ++ [src] }

theorem takeFrame_placed {sp : Spread} {b : AlnBlk} (h : framePolicy sp b d ≠ 2) : takeFrame sp b d =
    (writeRegion sp.k (frameRegion sp b (framePolicy sp b d) d) d).modAln fun x =>
      { x with open_ := x.open_.map fun o => if o.k = sp.k then joined b.src o else o } := if_neg h

theorem takeFrame_dropped {sp : Spread} {b : AlnBlk} (h : framePolicy sp b d = 2) : takeFrame sp b d =
    (d.modAln fun x => { x with open_ := x.open_.map fun o => if o.k = sp.k then tqDropped b.src o else o }).sat
      Reg.ALN_CNT_TQDROP.N := if_pos h

/-- Settles O34: a block by the cases of Table ALN-5, a frame by the policy it meets. -/
theorem rollCallFrames : Obligations.RollCallFrames := by
  unfold Obligations.RollCallFrames
  refine ⟨⟨?_, ?_, ?_, ?_, ?_⟩, ?_⟩
  · intro s h
    rw [exec_alignFrame, alignFrame_empty _ h]
  · intro s b rest d hq hd
    have hd' : d = blockTaken s.time rest s.dev := hd
    rw [exec_alignFrame]
    refine ⟨fun h => ?_, fun hu he hr => ⟨fun hf => ⟨?_, futureReport_count _ _⟩, fun hf h => ?_, fun k hf hk ha hl => ?_⟩⟩
    · rw [alignFrame_stopped hq hd' h]
    · rw [alignFrame_future hq hd' hu he hr hf]
    · rw [alignFrame_noRegion hq hd' hu he hr hf h]
    · rw [alignFrame_arrives hq hd' hu he hr hf hk ha hl]
  · intro t d h n
    exact closeOverdue_timely h n
  · intro t k b d e sp he hf
    subst he
    rw [arrive_open hf]
    exact ⟨fun hin => if_pos (by simpa using hin), fun hout => if_neg (by simpa using hout)⟩
  · intro t k b d e he hf
    subst he
    refine ⟨arrive_late hf, fun h1 h2 h3 hs => ?_, fun h1 h2 h3 hs => ?_⟩
    · rw [arrive_new hf (by simp [h3]; omega), if_pos hs]
    · rw [arrive_new hf (by simp [h3]; omega), if_neg (by simp [hs]), openSpread_finds hf]
  · intro sp b d pol hsp hpol
    have hpol' : pol = framePolicy sp b d := hpol
    refine ⟨fun hne => ?_, fun heq => ?_⟩
    · have hopen : (writeRegion sp.k (frameRegion sp b pol d) d).aln = d.aln :=
        (@Tame.writeRegion [.hmp] d d sp.k (frameRegion sp b pol d) (.refl _ _) ⟨by decide⟩).stands .aln (by decide)
      refine ⟨_, frameRegion sp b (framePolicy sp b d) d, takeFrame_placed (by rwa [← hpol']), ?_, ?_, ?_, fun f i => Dev.modAln_getN _ _ _ _, Dev.modAln_hmp _ _⟩
      · rw [← hpol', frameRegion, frameFlags_eq]
      · refine ⟨joined b.src sp, ?_, rfl, List.mem_append_right _ (List.mem_singleton_self _)⟩
        exact List.mem_map.mpr ⟨sp, by rw [← hpol', hopen]; exact hsp, if_pos rfl⟩
      · intro o ho hk
        obtain ⟨x, hx, hxo⟩ := List.mem_map.mp ho
        rw [← hpol', hopen] at hx
        split at hxo
        · next hxk => exact absurd (by rw [← hxo]; exact hxk) hk
        · rwa [← hxo]
    · rw [takeFrame_dropped (by rw [← hpol', heq])]
      refine ⟨_, rfl, rfl, ?_, ?_⟩
      · exact Dev.get_sat_same _ _ (by decide)
      · refine (List.map_map).trans (List.map_congr_left fun o _ => ?_)
        dsimp only [Function.comp]
        split <;> rfl

end Sys2Proof.Machine

/-!
PROOFS. The life of spreads, the start and stop of Roll Call and the enabling of output streams (R211 to R227, R235 to R257).
-/

namespace Sys2Proof.Machine

open Sys2Proof

variable {d : Dev}

theorem exec_outputEnable (n : Nat) (s : State) :
    exec (.outputEnable n) s =
      .next (s.after (onWrite 0x80100 (fun d => if n < 32 then outputEnable s.time n d else d) s.dev)) := rfl

theorem exec_rollCallStart (s : State) :
    exec .rollCallStart s = .next (s.after (onWrite 0x80000 (rollCallStart s.time) s.dev)) := rfl

theorem exec_rollCallStop (s : State) :
    exec .rollCallStop s = .next (s.after (onWrite 0x80000 (rollCallStop s.time) s.dev)) := rfl

theorem exec_slotRelease (s : State) :
    exec .slotRelease s = .next (s.after (if s.dev.up islAln then slotRelease s.dev else s.dev)) := rfl

theorem exec_spreadDeadline (s : State) : exec .spreadDeadline s = .next (s.after (settle s.time s.dev)) := rfl

theorem exec_spreadOpen (s : State) : exec .spreadOpen s = .next (s.after (spreadOpen s.time s.dev)) := rfl

/-! ## Opening (R211) -/

theorem spreadOpen_opens {t : Time} (ha : alnOpens d = true) (hd : d.aln.drain = false) (hk : spreadNs d d.aln.nextK ≤ t.ns)
    (hs : slotTaken d d.aln.nextK = false) : spreadOpen t d =
      settle t ((openSpread d.aln.nextK d).modAln fun x => { x with nextK := d.aln.nextK + 1 }) :=
  if_pos (by simp [ha, hd, hk, hs])

theorem spreadOpen_idle {t : Time} (h : alnOpens d = false ∨ d.aln.drain = true ∨ t.ns < spreadNs d d.aln.nextK ∨
    slotTaken d d.aln.nextK = true) : spreadOpen t d = d := by
  refine if_neg ?_
  rcases h with h | h | h | h
  · simp [h]
  · simp [h]
  · simp [Nat.not_le.mpr h]
  · simp [h]

theorem mem_insertSpread {sp o : Spread} {l : List Spread} : o ∈ insertSpread sp l ↔ o = sp ∨ o ∈ l := by
  induction l with
  | nil => simp [insertSpread]
  | cons x l ih =>
    unfold insertSpread
    split
    · exact List.mem_cons
    · rw [List.mem_cons, ih, List.mem_cons]
      tauto

theorem length_insertSpread (sp : Spread) (l : List Spread) : (insertSpread sp l).length = l.length + 1 := by
  induction l with
  | nil => rfl
  | cons x l ih =>
    unfold insertSpread
    split
    · rfl
    · exact congrArg (· + 1) ih

/-- The open spreads stay in instant order. -/
theorem pairwise_insertSpread {sp : Spread} {l : List Spread} (hne : ∀ o ∈ l, o.k ≠ sp.k)
    (h : (l.map Spread.k).Pairwise (· < ·)) : ((insertSpread sp l).map Spread.k).Pairwise (· < ·) := by
  induction l with
  | nil => exact List.pairwise_singleton _ _
  | cons x l ih =>
    obtain ⟨hx, hl⟩ := List.pairwise_cons.mp h
    unfold insertSpread
    split
    · next hlt =>
      refine List.pairwise_cons.mpr ⟨fun k hk => ?_, h⟩
      rcases List.mem_cons.mp hk with rfl | hk
      · exact hlt
      · exact hlt.trans (hx k hk)
    · next hge =>
      have hxk : x.k < sp.k := by
        have := hne x List.mem_cons_self
        omega
      refine List.pairwise_cons.mpr ⟨fun k hk => ?_, ih (fun o ho => hne o (List.mem_cons_of_mem x ho)) hl⟩
      obtain ⟨o, ho, rfl⟩ := List.mem_map.mp hk
      rcases mem_insertSpread.mp ho with rfl | ho
      · exact hxk
      · exact hx o.k (List.mem_map_of_mem ho)

theorem openSpread_new {k : Nat} (h : ∀ o ∈ d.aln.open_, o.k ≠ k) :
    (openSpread k d).aln.open_ = insertSpread ⟨k, dueList d k, [], [], []⟩ d.aln.open_ := by
  have hnot : ¬ (d.aln.open_.any fun o => o.k == k) = true := by
    rw [List.any_eq_true]
    rintro ⟨o, ho, hk⟩
    exact h o ho (by simpa using hk)
  unfold openSpread
  rw [if_neg hnot]
  rfl

/-- The sources that have become due join a spread that is open already. -/
def dueJoined (k : Nat) (d : Dev) (o : Spread) : Spread :=
  if o.k = k then { o with due := (List.range 512).filter fun s => o.present.contains s || srcDue d k s } else o

theorem openSpread_again {k : Nat} (h : ∃ o ∈ d.aln.open_, o.k = k) :
    (openSpread k d).aln.open_ = d.aln.open_.map (dueJoined k d) := by
  obtain ⟨o, ho, hk⟩ := h
  unfold openSpread
  rw [if_pos (List.any_eq_true.mpr ⟨o, ho, by simp [hk]⟩)]
  rfl

theorem dueJoined_keeps (k : Nat) (d : Dev) (o : Spread) : (dueJoined k d o).k = o.k ∧ (dueJoined k d o).present = o.present := by
  unfold dueJoined
  split <;> exact ⟨rfl, rfl⟩

/-! ## A close (R222 to R227, R235) -/

/-- Roll Call's state but for the outputs and the records on their way. -/
def withoutOutputs (a : Aln) : Aln := { a with outs := [], dlv := [] }

theorem aln_of_tame {ps : List StatePart} {e : Dev} (h : Tame ps d e) (hp : StatePart.aln ∉ ps) : e.aln = d.aln := h.stands .aln hp

theorem outSend_aln (n : Nat) (payload : List Byte → List Byte) (d : Dev) :
    withoutOutputs (outSend n payload d).aln = withoutOutputs d.aln := by
  have hqueue (p tc : Nat) (o : TxOrigin) (fs : List (List Byte)) (x : Dev) : (queueFrames p tc o fs x).aln = x.aln :=
    aln_of_tame (@Tame.queueFrames [.hif, .ports, .pairs] x x p tc o fs (.refl _ _) ⟨by decide⟩ ⟨by decide⟩ ⟨by decide⟩)
      (by decide)
  have hid (c : Bool) (f : OutSt → OutSt) : withoutOutputs (if c then d else modOut n f d).aln = withoutOutputs d.aln := by
    split <;> rfl
  unfold outSend
  dsimp only
  split
  · rfl
  · split
    · rw [Dev.sat_aln, hqueue]
      exact hid _ _
    · exact hid _ _

theorem outBuild_aln (t : Time) (n k : Nat) (d : Dev) : withoutOutputs (outBuild t n k d).aln = withoutOutputs d.aln := by
  have hgo (f : OutSt → OutSt) (p : List Byte → List Byte) (x : Dev) :
      withoutOutputs (outSend n p (modOut n f x)).aln = withoutOutputs x.aln := outSend_aln n p (modOut n f x)
  have hkey (slot usage : Nat) : (keyUse engOutput n slot usage false d).2.aln = d.aln :=
    aln_of_tame (@Tame.keyUse [.keys] d d engOutput n slot usage false (.refl _ _) ⟨by decide⟩) (by decide)
  unfold outBuild
  dsimp only
  split
  · exact outSend_aln _ _ _
  · split
    · exact hgo _ _ _
    · have hk := hkey (d.getN Reg.ALN_OUTn_CFG.KEY_SLOT n) (authUsage (d.getN Reg.ALN_OUTn_CFG.AUTH n))
      split
      · next key x hx =>
        rw [hx] at hk
        rw [hgo, hk]
      · next x hx =>
        rw [hx] at hk
        exact congrArg withoutOutputs hk

theorem outClose_aln (t : Time) (k n : Nat) (d : Dev) : withoutOutputs (outClose t k n d).aln = withoutOutputs d.aln := by
  unfold outClose
  dsimp only
  split
  · exact outBuild_aln _ _ _ _
  · rfl

theorem outCloses_aln (t : Time) (k : Nat) (l : List Nat) (d : Dev) :
    withoutOutputs (l.foldl (fun x n => outClose t k n x) d).aln = withoutOutputs d.aln := by
  induction l generalizing d with
  | nil => rfl
  | cons n l ih => exact (ih _).trans (outClose_aln t k n d)

theorem spreadRecord_aln (t : Time) (k inst reason seq : Nat) (rs : List Region) (d : Dev) :
    withoutOutputs (spreadRecord t k inst reason seq rs d).aln = withoutOutputs d.aln := by
  have hlost (x : Dev) : (sprdLost x).aln = x.aln := Dev.cause_aln _ _ _ _ _
  have hdeliver (r : Nat) (b e : List Byte) : (deliver r b e d).2.aln = d.aln :=
    aln_of_tame (@Tame.deliver [.hif] d d r b e (.refl _ _) ⟨by decide⟩) (by decide)
  have hrec (r : Nat) (b : List Byte) : withoutOutputs (alnRecord (some k) r b sprdLost d).aln = withoutOutputs d.aln := by
    have hd := hdeliver r b (List.replicate 16 0)
    unfold alnRecord
    split
    · rw [hlost]
    · dsimp only
      split
      · next x hx =>
        rw [hx] at hd
        exact congrArg withoutOutputs ((hlost x).trans hd)
      · next x hx =>
        rw [hx] at hd
        exact congrArg withoutOutputs hd
      · next x hx =>
        rw [hx] at hd
        exact (congrArg withoutOutputs hd :)
  unfold spreadRecord
  split
  · rfl
  · exact hrec _ _

/-- What takes a close moves nothing of Roll Call but its outputs and its records. -/
theorem deliverClose_aln (t : Time) (sp : Spread) (reason seq : Nat) (rs : List Region) (d : Dev) :
    withoutOutputs (deliverClose t sp reason seq rs d).aln = withoutOutputs d.aln := by
  have hrul (k inst seq : Nat) (due : List Nat) (x : Dev) : (rulClose t k inst seq due x).aln = x.aln :=
    aln_of_tame (@Tame.rulClose [.hif, .hmp, .rul, .mdl, .free] x x t k inst seq due (.refl _ _) ⟨by decide⟩ ⟨by decide⟩
      ⟨by decide⟩ ⟨by decide⟩ ⟨by decide⟩) (by decide)
  have hmodal (k : Nat) (due : List Nat) (e : Option OpEnv) (p : Bool) (x : Dev) : (modalSpread t k due e p x).aln = x.aln :=
    aln_of_tame (@Tame.modalSpread [.hif, .hmp, .mdl, .free] x x t k due e p (.refl _ _) ⟨by decide⟩ ⟨by decide⟩ ⟨by decide⟩
      ⟨by decide⟩) (by decide)
  have hcap (k rate : Nat) (due : Nat → Bool) (rd : Nat → Nat → Dev → Word32 × Dev) (hrd : ∀ s w y, (rd s w y).2 = y) (x : Dev) :
      (capSpread k rate due rd x).aln = x.aln :=
    aln_of_tame (@Tame.capSpread [.hmp, .cap] x x k rate due rd (.refl _ _) (fun s w y hy => by rw [hrd]; exact hy) ⟨by decide⟩
      ⟨by decide⟩) (by decide)
  have hrelay (inst q : Nat) (l : List (List Byte)) (x : Dev) : (relayBuild t inst q l x).aln = x.aln :=
    aln_of_tame (@Tame.relayBuild [.hif, .hmp, .ports, .pairs, .keys, .dxl, .free] x x t inst q l (.refl _ _) ⟨by decide⟩
      ⟨by decide⟩ ⟨by decide⟩ ⟨by decide⟩ ⟨by decide⟩ ⟨by decide⟩ ⟨by decide⟩) (by decide)
  have hdsp (inst : Nat) (x : Dev) : (dspClose t inst x).aln = x.aln :=
    aln_of_tame (@Tame.dspClose [.hif, .dsp] x x t inst (.refl _ _) ⟨by decide⟩ ⟨by decide⟩) (by decide)
  have hup (c : Bool) (inst q : Nat) (l : List (List Byte)) (x : Dev) : (if c then x else relayBuild t inst q l x).aln = x.aln := by
    split
    · rfl
    · exact hrelay _ _ _ _
  unfold deliverClose
  dsimp only
  rw [hdsp, hup, spreadRecord_aln, hcap _ _ _ _ (fun _ _ _ => rfl), hmodal, hrul, outCloses_aln]

/-- What a close leaves of Roll Call (R222, R225 to R227). -/
structure Closed (sp : Spread) (d x : Dev) : Prop where
  open_ : x.aln.open_ = d.aln.open_.filter fun o => o.k != sp.k
  closedK : x.aln.closedK = some sp.k
  seq : x.aln.seq = (d.aln.seq + 1) % 2 ^ 32
  last : x.aln.last = some (spreadNs d sp.k)
  nextK : x.aln.nextK = max d.aln.nextK (sp.k + 1)
  held : x.aln.held = d.aln.held ++ [(sp.k, d.aln.seq)]
  drain : x.aln.drain = d.aln.drain

/-- Roll Call's state but for the outputs, the records and the log that a close leaves. -/
def withoutLogs (a : Aln) : Aln := { withoutOutputs a with hist := [], attrLog := [] }

theorem closeSpread_aln (t : Time) (sp : Spread) (reason : Nat) (d : Dev) :
    withoutLogs (closeSpread t sp reason d).aln = withoutLogs { d.aln with
      last := some (spreadNs d sp.k), closedK := some sp.k, nextK := max d.aln.nextK (sp.k + 1)
      seq := (d.aln.seq + 1) % 2 ^ 32, held := d.aln.held ++ [(sp.k, d.aln.seq)]
      open_ := d.aln.open_.filter fun o => o.k != sp.k } := by
  have hfill (q : Spread) (l : List Nat) : (l.foldl (fun x s => fillRegion q s x) d).aln = d.aln :=
    aln_of_tame ((Tame.refl [.hmp] d).foldl fun _ _ h => @Tame.fillRegion [.hmp] _ _ _ _ h ⟨by decide⟩) (by decide)
  have hdorm (q : Spread) (l : List Nat) (x : Dev) : (l.foldl (fun x s => dormancy q s x) x).aln = x.aln :=
    aln_of_tame ((Tame.refl [] x).foldl fun _ _ h => h.dormancy) (by decide)
  have hread (k : Nat) (l : List Nat) (x : Dev) : (readRegions k l x).2.aln = x.aln :=
    aln_of_tame (@Tame.readRegions [.hmp, .free] x x k l (.refl _ _) ⟨by decide⟩ ⟨by decide⟩) (by decide)
  have hcount (f g : Field) (x : Dev) : (if reason = 0 then x.sat f else if reason = 1 then x.sat g else x).aln = x.aln := by
    split
    · rfl
    · split <;> rfl
  have hout (q : Spread) (sq i : Nat) (rs : List Region) (x : Dev) :
      withoutLogs (openCount (deliverClose t q reason sq rs (showLast i sq x))).aln = withoutLogs x.aln :=
    congrArg (fun a : Aln => { a with hist := [], attrLog := [] }) (deliverClose_aln t q reason sq rs (showLast i sq x))
  have hmod (x : Dev) (hx : x.aln = d.aln) (f : Aln → Aln) : (x.modAln f).aln = f d.aln := congrArg f hx
  unfold closeSpread
  dsimp only
  rw [hout, hcount, hmod]
  · rfl
  · rw [hread, hdorm, hfill]

theorem Closed.of {sp : Spread} {x : Dev} (hx : withoutLogs x.aln = withoutLogs { d.aln with
    last := some (spreadNs d sp.k), closedK := some sp.k, nextK := max d.aln.nextK (sp.k + 1)
    seq := (d.aln.seq + 1) % 2 ^ 32, held := d.aln.held ++ [(sp.k, d.aln.seq)]
    open_ := d.aln.open_.filter fun o => o.k != sp.k }) : Closed sp d x :=
  ⟨(congrArg Aln.open_ hx :), (congrArg Aln.closedK hx :), (congrArg Aln.seq hx :), (congrArg Aln.last hx :),
    (congrArg Aln.nextK hx :), (congrArg Aln.held hx :), (congrArg Aln.drain hx :)⟩

theorem closeSpread_closed (t : Time) (sp : Spread) (reason : Nat) (d : Dev) : Closed sp d (closeSpread t sp reason d) :=
  .of (closeSpread_aln t sp reason d)

/-! ## What may close (R222 to R224, R226) -/

theorem drainEnd_idle {t : Time} (h : d.aln.drain = false) : drainEnd t d = d := if_neg (by simp [h])

theorem settle_idle {t : Time} (h : d.up islAln = false ∨ d.on Reg.ALN_STATUS.RUN = false ∨ (d.aln.open_ = [] ∧ d.aln.drain = false)) :
    settle t d = d := by
  unfold settle
  split
  · next hr =>
    simp only [Bool.and_eq_true] at hr
    obtain ⟨ho, hd⟩ := (h.resolve_left (by simp [hr.1])).resolve_left (by simp [hr.2])
    unfold alnSettle
    rw [ho]
    exact drainEnd_idle hd
  · rfl

/-- One step of closing what may close. -/
theorem alnSettle_cons {t : Time} {n : Nat} {sp : Spread} {rest : List Spread} (h : d.aln.open_ = sp :: rest) :
    alnSettle t (n + 1) d =
      if overdue t d sp then alnSettle t n (closeSpread t sp 1 d)
      else if decide (sp.k ≤ d.aln.nextK) && spreadComplete d sp then alnSettle t n (closeSpread t sp 0 d)
      else if decide (sp.k ≤ d.aln.nextK) && decide (spreadNs d sp.k + alnWait d ≤ t.ns) then
        alnSettle t n (closeSpread t sp 1 d)
      else d := by
  rw [alnSettle, h]

/-- The one open spread closes once it may. -/
theorem settle_closes {t : Time} {sp : Spread} (hu : d.up islAln = true) (hr : d.on Reg.ALN_STATUS.RUN = true)
    (ho : d.aln.open_ = [sp]) (hd : d.aln.drain = false) (h : overdue t d sp = true ∨ (sp.k ≤ d.aln.nextK ∧
      (spreadComplete d sp = true ∨ spreadNs d sp.k + alnWait d ≤ t.ns))) :
    ∃ reason, settle t d = closeSpread t sp reason d := by
  have hlast (reason : Nat) : alnSettle t 1 (closeSpread t sp reason d) = closeSpread t sp reason d := by
    have hclosed := closeSpread_closed t sp reason d
    have hnone : (closeSpread t sp reason d).aln.open_ = [] := by
      rw [hclosed.open_, ho]
      simp
    unfold alnSettle
    rw [hnone]
    exact drainEnd_idle (hclosed.drain.trans hd)
  have hrun : settle t d = alnSettle t (1 + 1) d := by
    unfold settle
    rw [if_pos (by simp [hu, hr]), ho]
    rfl
  rw [hrun, alnSettle_cons ho]
  by_cases hover : overdue t d sp = true
  · exact ⟨1, by rw [if_pos hover, hlast]⟩
  · obtain ⟨hk, hc⟩ := h.resolve_left hover
    rw [if_neg hover]
    by_cases hcomp : spreadComplete d sp = true
    · exact ⟨0, by rw [if_pos (by simp [hk, hcomp]), hlast]⟩
    · have hdl := hc.resolve_left hcomp
      exact ⟨1, by rw [if_neg (by simp [hcomp]), if_pos (by simp [hk, hdl]), hlast]⟩

theorem settle_waits {t : Time} {sp : Spread} (ho : d.aln.open_ = [sp]) (hover : overdue t d sp = false)
    (h : d.aln.nextK < sp.k ∨ (spreadComplete d sp = false ∧ t.ns < spreadNs d sp.k + alnWait d)) : settle t d = d := by
  unfold settle
  split
  · rw [alnSettle_cons ho, if_neg (by simp [hover])]
    rcases h with h | ⟨hc, hn⟩
    · rw [if_neg (by simp [Nat.not_le.mpr h]), if_neg (by simp [Nat.not_le.mpr h])]
    · rw [if_neg (by simp [hc]), if_neg (by simp [Nat.not_le.mpr hn])]
  · rfl

/-! ## A slot is given back (R238, R252) -/

theorem slotRelease_due {k q c : Nat} {rest : List (Nat × Nat)} (hh : d.aln.held = (k, q) :: rest) (hc : d.aln.closedK = some c)
    (hk : k + d.aln.lag ≤ c) (he : ∀ e ∈ d.rul.evalQ, e.k ≠ k) : slotRelease d =
      (cutRecords (fun r => r == some k) sprdLost d).modAln fun x => { x with held := rest } := by
  have hq : (d.rul.evalQ.any fun e => e.k == k) = false := by
    rw [List.any_eq_false]
    intro e hin
    simpa using he e hin
  unfold slotRelease
  rw [hh, hc]
  exact if_pos (by simp [hk, hq])

theorem slotRelease_none (h : d.aln.held = [] ∨ d.aln.closedK = none) : slotRelease d = d := by
  unfold slotRelease
  rcases h with h | h
  · rw [h]
  · rw [h]
    cases d.aln.held <;> rfl

theorem slotRelease_needed {k q c : Nat} {rest : List (Nat × Nat)} (hh : d.aln.held = (k, q) :: rest) (hc : d.aln.closedK = some c)
    (h : c < k + d.aln.lag ∨ ∃ e ∈ d.rul.evalQ, e.k = k) : slotRelease d = d := by
  unfold slotRelease
  rw [hh, hc]
  refine if_neg ?_
  rcases h with h | ⟨e, he, hk⟩
  · simp [Nat.not_le.mpr h]
  · have hq : (d.rul.evalQ.any fun e => e.k == k) = true := List.any_eq_true.mpr ⟨e, he, by simp [hk]⟩
    simp [hq]

/-- The records of a slot that end move no other part of Roll Call. -/
theorem cutRecords_aln (k : Nat) (d : Dev) : (cutRecords (fun r => r == some k) sprdLost d).aln =
    { d.aln with dlv := d.aln.dlv.filter fun e => !(e.1 == some k) } := by
  have hcut (n i : Nat) (x : Dev) : (cutEntry n i x).aln = x.aln :=
    aln_of_tame (@Tame.cutEntry [.hif] x x n i (.refl _ _) ⟨by decide⟩) (by decide)
  have hfold (l : List (Option Nat × Nat × Nat)) (x : Dev) : (l.foldl (fun x e =>
      if e.1 == some k && owes x e.2.1 e.2.2 then sprdLost (cutEntry e.2.1 e.2.2 x) else x) x).aln = x.aln := by
    induction l generalizing x with
    | nil => rfl
    | cons e l ih =>
      refine (ih _).trans ?_
      dsimp only
      split
      · exact (Dev.cause_aln _ _ _ _ _).trans (hcut e.2.1 e.2.2 x)
      · rfl
  exact congrArg (fun a : Aln => { a with dlv := a.dlv.filter fun e => !(e.1 == some k) }) (hfold d.aln.dlv d)

/-- Without a record of its own on its way a slot goes as it is. -/
theorem cutRecords_none {k : Nat} (h : ∀ e ∈ d.aln.dlv, e.1 ≠ some k) : cutRecords (fun r => r == some k) sprdLost d = d := by
  have hfold (l : List (Option Nat × Nat × Nat)) (hl : ∀ e ∈ l, e.1 ≠ some k) : l.foldl (fun x e =>
      if e.1 == some k && owes x e.2.1 e.2.2 then sprdLost (cutEntry e.2.1 e.2.2 x) else x) d = d := by
    induction l with
    | nil => rfl
    | cons e l ih =>
      rw [List.foldl_cons, if_neg (by simp [hl e List.mem_cons_self])]
      exact ih fun e he => hl e (List.mem_cons_of_mem _ he)
  have hfilter : d.aln.dlv.filter (fun e => !(e.1 == some k)) = d.aln.dlv :=
    List.filter_eq_self.mpr fun e he => by simpa using h e he
  unfold cutRecords
  rw [hfold _ h]
  exact (congrArg (fun l => d.modAln fun x => { x with dlv := l }) hfilter :)

/-! ## The start of Roll Call (R212, R253, R256) -/

/-- The words of Roll Call's control and status. -/
def alnWord (a : Nat) : Prop := a = 0x80000 ∨ a = 0x80004

theorem not_alnWord {a : Nat} (h : (a == 0x80000 || a == 0x80004) = false) : ¬ alnWord a := by
  simpa [alnWord] using h

theorem Apart.ofLowAln {e x : Dev} {lo : Nat} (h : Apart alnWord e d) (hx : Low lo d x) (hlo : 0x80008 ≤ lo) : Apart alnWord e x :=
  h.ofLow hx fun a ha => by rcases ha with ha | ha <;> omega

/-- The slots that Roll Call needs: whole lines each. -/
def slotBytes (d : Dev) : Nat := ((layOut d).1 + 63) / 64 * 64

/-- The greatest lag of the enabled outputs, and at least the one reserved. -/
def lagNeed (d : Dev) : Nat :=
  ((List.range 32).map fun n => if d.onN Reg.ALN_OUTn_CFG.EN n then outLag d n else 0).foldl max (d.get Reg.ALN_CTRL.LAG_RSV)

def slotNeed (d : Dev) : Nat := (spreadRate d * d.get Reg.ALN_WAIT.WAIT + 999999) / 1000000 + lagNeed d + 1

/-- The memory that Roll Call needs, shown. -/
def sized (d : Dev) : Dev :=
  (((layOut d).2.set Reg.ALN_SIZE.S (slotBytes d)).set Reg.ALN_DEPTH.D (slotNeed d)).set Reg.ALN_DEPTH.NEED
    ((slotBytes d * slotNeed d + 2 ^ 20 - 1) / 2 ^ 20)

theorem alnStart_refused {t : Time} (h : partBytes d partAlign < slotBytes d * slotNeed d) : alnStart t d =
    (((sized d).set Reg.ALN_CTRL.EN 0).set Reg.ALN_STATUS.FAIL stNoSpace).cause intAln 1 0 stNoSpace := by
  unfold slotNeed slotBytes lagNeed at h
  unfold alnStart sized slotNeed slotBytes lagNeed
  generalize layOut d = p at h ⊢
  exact if_pos h

/-- Roll Call's state as it starts. -/
def startedAln (t : Time) (d : Dev) : Dev :=
  ((sized d).set Reg.ALN_STATUS.FAIL stOk).modAln fun x => { (default : Aln) with
    last := x.last, validAt := x.validAt, outs := x.outs, dlv := x.dlv, nextK := firstSpread t d, firstK := firstSpread t d
    lag := lagNeed d }

theorem startedAln_aln (t : Time) (d : Dev) : (startedAln t d).aln = { (default : Aln) with
    last := (sized d).aln.last, validAt := (sized d).aln.validAt, outs := (sized d).aln.outs, dlv := (sized d).aln.dlv
    nextK := firstSpread t d, firstK := firstSpread t d, lag := lagNeed d } := by
  unfold startedAln Dev.modAln
  rw [Dev.set_aln]

/-- Roll Call starts with its outputs checked again. -/
def startedRun (t : Time) (d : Dev) : Dev :=
  (((List.range 32).foldl (fun x n => outRecheck t n x) (startedAln t d)).set Reg.ALN_STATUS.RUN 1).modRul fun x =>
    { x with next := d.get Reg.GLB_SPLIT.RULES }

/-- The sources as Roll Call starts. -/
def startedSources (d : Dev) : Dev :=
  (List.range 512).foldl (fun x i => alnState i ((x.setN Reg.T_ATTR.STATE i 0).setN Reg.T_ATTR.MISS_RUN i 0)) d

theorem alnStart_taken {t : Time} (h : slotBytes d * slotNeed d ≤ partBytes d partAlign) : ∃ bad : Bool, alnStart t d =
    openCount (if bad then alnRej (startedSources (rulTakeMode t (startedRun t d)))
      else startedSources (rulTakeMode t (startedRun t d))) := by
  unfold slotNeed slotBytes lagNeed at h
  unfold alnStart startedRun startedAln sized slotNeed slotBytes lagNeed
  generalize layOut d = p at h ⊢
  exact ⟨_, if_neg (Nat.not_lt.mpr h)⟩

theorem sized_leaves (d : Dev) : Apart alnWord d (sized d) ∧ (sized d).aln = d.aln := by
  have hout : Apart alnWord d (layOut d).2 := (Apart.refl _ d).ofLowAln ((Low.refl 0x240004 d).layOut (by decide)) (by decide)
  have haln : (layOut d).2.aln = d.aln := aln_of_tame (Tame.refl [] d).layOut (by decide)
  unfold sized
  rw [Dev.set_aln, Dev.set_aln, Dev.set_aln]
  exact ⟨Apart.set (Apart.set (Apart.set hout (not_alnWord (by decide))) (not_alnWord (by decide))) (not_alnWord (by decide)), haln⟩

theorem outRefuse_apart (n st : Nat) (d : Dev) : Apart alnWord d (outRefuse n st d) := by
  have hcfg : ¬ alnWord (At.ALN_OUTn_CFG.addr n) := by
    rw [RegAt.addr_single (r := At.ALN_OUTn_CFG) rfl n, alnWord]
    omega
  have hstat : ¬ alnWord (At.ALN_OUTn_STAT.addr n) := by
    rw [RegAt.addr_single (r := At.ALN_OUTn_STAT) rfl n, alnWord]
    omega
  exact Apart.cause (Apart.setN (Apart.setN (Apart.setN (Apart.setN (.refl _ d) hcfg) hstat) hstat) hstat)
    (not_alnWord (by decide))

theorem outRecheck_leaves (t : Time) (n : Nat) (d : Dev) : Apart alnWord d (outRecheck t n d) ∧
    withoutOutputs (outRecheck t n d).aln = withoutOutputs d.aln := by
  have hstat : ¬ alnWord (At.ALN_OUTn_STAT.addr n) := by
    rw [RegAt.addr_single (r := At.ALN_OUTn_STAT) rfl n, alnWord]
    omega
  have hlag : ¬ alnWord (At.ALN_OUTn_LAG.addr n) := by
    rw [RegAt.addr_single (r := At.ALN_OUTn_LAG) rfl n, alnWord]
    omega
  unfold outRecheck
  split
  · exact ⟨.refl _ d, rfl⟩
  · dsimp only
    split
    · exact ⟨outRefuse_apart _ _ _, congrArg withoutOutputs (Dev.cause_aln _ _ _ _ _)⟩
    · split
      · exact ⟨Apart.setN (Apart.setN (.refl _ d) hstat) hlag, rfl⟩
      · exact ⟨Apart.setN (Apart.setN (Apart.setN (.refl _ d) hstat) hlag) hstat, rfl⟩

theorem outRechecks_leave (t : Time) (l : List Nat) (d : Dev) : Apart alnWord d (l.foldl (fun x n => outRecheck t n x) d) ∧
    withoutOutputs (l.foldl (fun x n => outRecheck t n x) d).aln = withoutOutputs d.aln := by
  induction l generalizing d with
  | nil => exact ⟨.refl _ d, rfl⟩
  | cons n l ih =>
    obtain ⟨hw, ha⟩ := outRecheck_leaves t n d
    obtain ⟨hw', ha'⟩ := ih (outRecheck t n d)
    exact ⟨hw.trans hw', ha'.trans ha⟩

theorem startedSources_leaves (d : Dev) : Apart alnWord d (startedSources d) ∧ (startedSources d).aln = d.aln := by
  refine ⟨?_, ?_⟩
  · refine (Apart.refl _ d).ofLowAln (lo := 0x240008) ?_ (by decide)
    exact (Low.refl _ d).foldl fun _ _ h => Low.alnState (Low.setN (Low.setN h (by decide)) (by decide)) (by decide)
  · exact aln_of_tame (ps := []) ((Tame.refl [] d).foldl fun _ _ h => h.setN.setN.alnState) (by decide)

/-- What the start of Roll Call leaves. -/
structure Started (t : Time) (d x : Dev) : Prop where
  run : x.on Reg.ALN_STATUS.RUN = true
  fail : x.get Reg.ALN_STATUS.FAIL = stOk
  en : x.get Reg.ALN_CTRL.EN = d.get Reg.ALN_CTRL.EN
  open_ : x.aln.open_ = []
  nextK : x.aln.nextK = firstSpread t d
  firstK : x.aln.firstK = firstSpread t d
  held : x.aln.held = []

theorem startedAln_words (t : Time) (d : Dev) : (startedAln t d).get Reg.ALN_CTRL.EN = d.get Reg.ALN_CTRL.EN ∧
    (startedAln t d).get Reg.ALN_STATUS.FAIL = stOk := by
  obtain ⟨hsized, -⟩ := sized_leaves d
  unfold startedAln
  rw [Dev.modAln_get, Dev.modAln_get, Dev.get_set_other _ _ _ _ (by decide), Dev.get_set_same _ _ _ (by decide) (by decide)]
  exact ⟨hsized.get (.inl rfl), rfl⟩

theorem Started.ofRun {t : Time} {x y z : Dev} (hen : z.get Reg.ALN_CTRL.EN = d.get Reg.ALN_CTRL.EN)
    (hfail : z.get Reg.ALN_STATUS.FAIL = stOk) (hz : z.aln.open_ = [] ∧ z.aln.nextK = firstSpread t d ∧
      z.aln.firstK = firstSpread t d ∧ z.aln.held = []) (hwords : Apart alnWord z y)
    (haln : withoutOutputs y.aln = withoutOutputs z.aln) (hx : x = y.set Reg.ALN_STATUS.RUN 1) : Started t d x := by
  subst hx
  obtain ⟨hopen, hnext, hfirst, hheld⟩ := hz
  refine ⟨Dev.on_set_same y Reg.ALN_STATUS.RUN 1 (by decide), ?_, ?_, (congrArg Aln.open_ haln).trans hopen,
    (congrArg Aln.nextK haln).trans hnext, (congrArg Aln.firstK haln).trans hfirst, (congrArg Aln.held haln).trans hheld⟩
  · exact (Dev.get_set_other _ Reg.ALN_STATUS.RUN Reg.ALN_STATUS.FAIL 1 (by decide)).trans ((hwords.get (.inr rfl)).trans hfail)
  · exact (Dev.get_set_other _ Reg.ALN_STATUS.RUN Reg.ALN_CTRL.EN 1 (by decide)).trans ((hwords.get (.inl rfl)).trans hen)

theorem Started.keep {t : Time} {e x y : Dev} (h : Started t e x) (hw : Apart alnWord x y) (ha : y.aln = x.aln) : Started t e y := by
  refine ⟨?_, ?_, ?_, by rw [ha, h.open_], by rw [ha, h.nextK], by rw [ha, h.firstK], by rw [ha, h.held]⟩
  · rw [Dev.on, hw.onN (.inr rfl), ← Dev.on, h.run]
  · rw [hw.get (.inr rfl), h.fail]
  · rw [hw.get (.inl rfl), h.en]

theorem startedAln_fresh (t : Time) (d : Dev) : (startedAln t d).aln.open_ = [] ∧ (startedAln t d).aln.nextK = firstSpread t d ∧
    (startedAln t d).aln.firstK = firstSpread t d ∧ (startedAln t d).aln.held = [] := by
  rw [startedAln_aln]
  exact ⟨rfl, rfl, rfl, rfl⟩

theorem startedRun_started (t : Time) (d : Dev) : Started t d (startedRun t d) := by
  obtain ⟨hwords, haln⟩ := outRechecks_leave t (List.range 32) (startedAln t d)
  obtain ⟨hen, hfail⟩ := startedAln_words t d
  have hrun := Started.ofRun hen hfail (startedAln_fresh t d) hwords haln rfl
  unfold startedRun
  exact hrun.keep ((Apart.refl _ _).ofRegs (Dev.modRul_regs _ _)) (Dev.modRul_aln _ _)

theorem Started.counted {t : Time} {e x : Dev} (h : Started t e x) : Started t e (openCount x) := by
  refine ⟨?_, ?_, ?_, h.open_, h.nextK, h.firstK, h.held⟩
  · exact (Dev.on_set_other x Reg.ALN_STATUS.OPEN Reg.ALN_STATUS.RUN _ (by decide)).trans h.run
  · exact (Dev.get_set_other x Reg.ALN_STATUS.OPEN Reg.ALN_STATUS.FAIL _ (by decide)).trans h.fail
  · exact (Dev.get_set_other x Reg.ALN_STATUS.OPEN Reg.ALN_CTRL.EN _ (by decide)).trans h.en

/-- A change of the rules' mode leaves Roll Call. -/
theorem rulTakeMode_aln (t : Time) (d : Dev) : Apart alnWord d (rulTakeMode t d) ∧ (rulTakeMode t d).aln = d.aln :=
  ⟨(Apart.refl _ d).ofLowAln ((Low.refl 0xC0030 d).rulTakeMode (by decide)) (by decide),
    aln_of_tame (@Tame.rulTakeMode [.rul] d d t (.refl _ _) ⟨by decide⟩) (by decide)⟩

theorem alnStart_started {t : Time} (h : slotBytes d * slotNeed d ≤ partBytes d partAlign) : Started t d (alnStart t d) := by
  obtain ⟨bad, hbad⟩ := alnStart_taken (t := t) h
  obtain ⟨hmode, hmodeAln⟩ := rulTakeMode_aln t (startedRun t d)
  obtain ⟨hsrc, hsrcAln⟩ := startedSources_leaves (rulTakeMode t (startedRun t d))
  have hran := ((startedRun_started t d).keep hmode hmodeAln).keep hsrc hsrcAln
  rw [hbad]
  refine Started.counted ?_
  cases bad
  · exact hran
  · exact hran.keep (Apart.cause (.refl _ _) (not_alnWord (by decide))) (Dev.cause_aln _ _ _ _ _)

/-- What a refused start leaves. -/
theorem alnStart_fails {t : Time} (h : partBytes d partAlign < slotBytes d * slotNeed d) :
    (alnStart t d).get Reg.ALN_CTRL.EN = 0 ∧ (alnStart t d).get Reg.ALN_STATUS.FAIL = stNoSpace ∧
      bitOf ((alnStart t d).word 0x80008) 1 = true ∧ (alnStart t d).aln = d.aln := by
  rw [alnStart_refused h]
  refine ⟨?_, ?_, Dev.cause_sets _ _ _ _ _ (by decide), ?_⟩
  · rw [Dev.cause_get _ _ _ _ _ _ (by decide), Dev.get_set_other _ _ _ _ (by decide), Dev.get_set_same _ _ _ (by decide) (by decide)]
  · rw [Dev.cause_get _ _ _ _ _ _ (by decide), Dev.get_set_same _ _ _ (by decide) (by decide)]
  · rw [Dev.cause_aln, Dev.set_aln, Dev.set_aln, (sized_leaves d).2]

theorem rollCallStart_off {t : Time} (he : d.on Reg.ALN_CTRL.EN = false) : rollCallStart t d =
    if d.get Reg.GLB_SPLIT.ALIGN = 1 then alnStart t (d.set Reg.ALN_CTRL.EN 1) else d.set Reg.ALN_CTRL.EN 1 :=
  if_neg (by simp [he])

/-! ## The stop of Roll Call (R257) -/

/-- Roll Call stopped. -/
def stopped (d : Dev) : Dev :=
  ((d.modAln fun x => { x with drain := false }).set Reg.ALN_CTRL.EN 0).set Reg.ALN_STATUS.RUN 0

theorem rollCallStop_cases (t : Time) (d : Dev) : ∃ x, rollCallStop t d = rulTakeMode t (stopped x) := ⟨_, rfl⟩

theorem rollCallStop_empty {t : Time} (h : d.aln.open_ = []) : rollCallStop t d = rulTakeMode t (stopped d) := by
  have hflush : (if d.on Reg.ALN_STATUS.RUN then flushAll t d.aln.open_.length d else d) = d := by
    rw [h]
    exact ite_self d
  unfold rollCallStop
  rw [hflush]
  rfl

theorem rollCallStop_stops (t : Time) (d : Dev) : (rollCallStop t d).on Reg.ALN_CTRL.EN = false ∧
    (rollCallStop t d).on Reg.ALN_STATUS.RUN = false ∧ (rollCallStop t d).aln.drain = false := by
  obtain ⟨x, hx⟩ := rollCallStop_cases t d
  obtain ⟨hw, ha⟩ := rulTakeMode_aln t (stopped x)
  have hen : (stopped x).on Reg.ALN_CTRL.EN = false :=
    (Dev.on_set_other _ Reg.ALN_STATUS.RUN Reg.ALN_CTRL.EN 0 (by decide)).trans (Dev.on_set_same _ _ _ (by decide))
  have hrun : (stopped x).on Reg.ALN_STATUS.RUN = false := Dev.on_set_same _ _ _ (by decide)
  rw [hx]
  refine ⟨?_, ?_, by rw [ha]; rfl⟩
  · rw [Dev.on, hw.onN (.inl rfl), ← Dev.on, hen]
  · rw [Dev.on, hw.onN (.inr rfl), ← Dev.on, hrun]

/-! ## Output streams (R240, R241) -/

theorem outCfg_addr (n : Nat) : At.ALN_OUTn_CFG.addr n = 0x80100 + n * 0x20 := RegAt.addr_single rfl n
theorem outLag_addr (n : Nat) : At.ALN_OUTn_LAG.addr n = 0x80110 + n * 0x20 := RegAt.addr_single rfl n
theorem outStat_addr (n : Nat) : At.ALN_OUTn_STAT.addr n = 0x80114 + n * 0x20 := RegAt.addr_single rfl n

/-- A refused output is off, and shows why. -/
theorem outRefuse_shows (n st : Nat) (d : Dev) : (outRefuse n st d).getN Reg.ALN_OUTn_CFG.EN n = 0 ∧
    (outRefuse n st d).getN Reg.ALN_OUTn_STAT.REJ n = 1 ∧ bitOf ((outRefuse n st d).word 0x80008) 6 = true := by
  have hcfg (v : Nat) (f : Field) (hf : f.reg = At.ALN_OUTn_STAT) (x : Dev) :
      (x.setN f n v).getN Reg.ALN_OUTn_CFG.EN n = x.getN Reg.ALN_OUTn_CFG.EN n := by
    refine Dev.getN_setN_addr _ _ _ _ _ _ ?_
    rw [hf, outStat_addr]
    exact ne_of_eq_of_ne (outCfg_addr n) (by omega)
  unfold outRefuse
  refine ⟨?_, ?_, Dev.cause_sets _ _ _ _ _ (by decide)⟩
  · rw [Dev.cause_getN _ _ _ _ _ _ _ (ne_of_eq_of_ne (outCfg_addr n) (by show _ ≠ 0x80008; omega)), hcfg _ _ rfl, hcfg _ _ rfl,
      hcfg _ _ rfl, Dev.getN_setN_same _ _ _ _ (by decide)]
    rfl
  · rw [Dev.cause_getN _ _ _ _ _ _ _ (ne_of_eq_of_ne (outStat_addr n) (by show _ ≠ 0x80008; omega)),
      Dev.getN_setN_apart _ _ _ _ _ _ (by decide) (by decide) (by decide), Dev.getN_setN_same _ _ _ _ (by decide)]
    rfl

theorem outputEnable_on {t : Time} {n : Nat} (h : d.onN Reg.ALN_OUTn_CFG.EN n = true) : outputEnable t n d = d := if_pos h

theorem outputEnable_refused {t : Time} {n : Nat} (h : d.onN Reg.ALN_OUTn_CFG.EN n = false)
    (hc : outAccepted (outCheck d n) = false) : outputEnable t n d = outRefuse n (outCheck d n) d :=
  (if_neg (by simp [h])).trans (if_pos (by simp [hc]))

/-- The registers of an output that has been enabled. -/
def outShown (n : Nat) (d : Dev) : Dev :=
  (((d.setN Reg.ALN_OUTn_CFG.EN n 1).setN Reg.ALN_OUTn_STAT.REASON n (outCheck d n)).setN Reg.ALN_OUTn_LAG.LAG n (outLag d n)).setB
    Reg.ALN_OUTn_STAT.ON n (!d.onN Reg.ALN_OUTn_CFG.CMD_EN n)

theorem outputEnable_taken {t : Time} {n : Nat} (h : d.onN Reg.ALN_OUTn_CFG.EN n = false)
    (hc : outAccepted (outCheck d n) = true) : outputEnable t n d = (outShown n d).modAln fun x =>
      { x with outs := tmod x.outs n fun o => { o with since := t.ns, lag := outLag d n } } :=
  (if_neg (by simp [h])).trans (if_neg (by simp [hc]))

theorem outputEnable_out {t : Time} {n : Nat} (h : d.onN Reg.ALN_OUTn_CFG.EN n = false)
    (hc : outAccepted (outCheck d n) = true) : (tget (outputEnable t n d).aln.outs n).lag = outLag d n ∧
      (tget (outputEnable t n d).aln.outs n).since = t.ns := by
  have hset : (outputEnable t n d).aln.outs = tmod (outShown n d).aln.outs n fun o =>
      { o with since := t.ns, lag := outLag d n } := congrArg (fun x => x.aln.outs) (outputEnable_taken h hc)
  rw [hset, tget_tmod_same]
  exact ⟨rfl, rfl⟩

theorem accepted_lt {st : Nat} (h : outAccepted st = true) : st < 2 ^ 8 := by
  simp only [outAccepted, Bool.or_eq_true, beq_iff_eq, stOk, stSkipped] at h
  omega

/-- An output that has been enabled shows its reason, its lag and whether it is on; no other output is enabled by it. -/
theorem outShown_fields (n : Nat) (d : Dev) (hst : outCheck d n < 2 ^ 8) : (outShown n d).onN Reg.ALN_OUTn_CFG.EN n = true ∧
    (outShown n d).getN Reg.ALN_OUTn_STAT.REASON n = outCheck d n ∧
    (outShown n d).getN Reg.ALN_OUTn_LAG.LAG n = outLag d n % 2 ^ Reg.ALN_OUTn_LAG.LAG.width ∧
    (outShown n d).onN Reg.ALN_OUTn_STAT.ON n = !d.onN Reg.ALN_OUTn_CFG.CMD_EN n ∧
    ∀ m, m ≠ n → (outShown n d).getN Reg.ALN_OUTn_CFG.EN m = d.getN Reg.ALN_OUTn_CFG.EN m := by
  have hne (f g : Field) (m a b : Nat) (hf : f.reg.addr m = a) (hg : g.reg.addr n = b) (h : a ≠ b) :
      f.reg.addr m ≠ g.reg.addr n := by
    rw [hf, hg]
    exact h
  have hlagcfg (m : Nat) := hne Reg.ALN_OUTn_CFG.EN Reg.ALN_OUTn_LAG.LAG m (0x80100 + m * 0x20) (0x80110 + n * 0x20)
    (outCfg_addr m) (outLag_addr n) (by omega)
  have hstatcfg (m : Nat) (f : Field) (hf : f.reg = At.ALN_OUTn_STAT) :=
    hne Reg.ALN_OUTn_CFG.EN f m (0x80100 + m * 0x20) (0x80114 + n * 0x20) (outCfg_addr m) (by rw [hf, outStat_addr]) (by omega)
  have hlagstat (f : Field) (hf : f.reg = At.ALN_OUTn_STAT) :=
    hne f Reg.ALN_OUTn_LAG.LAG n (0x80114 + n * 0x20) (0x80110 + n * 0x20) (by rw [hf, outStat_addr]) (outLag_addr n) (by omega)
  have hstatlag (f : Field) (hf : f.reg = At.ALN_OUTn_STAT) :=
    hne Reg.ALN_OUTn_LAG.LAG f n (0x80110 + n * 0x20) (0x80114 + n * 0x20) (outLag_addr n) (by rw [hf, outStat_addr]) (by omega)
  unfold outShown Dev.setB Dev.onN
  refine ⟨?_, ?_, ?_, ?_, fun m hm => ?_⟩
  · rw [Dev.getN_setN_addr _ _ _ _ _ _ (hstatcfg n _ rfl), Dev.getN_setN_addr _ _ _ _ _ _ (hlagcfg n),
      Dev.getN_setN_addr _ _ _ _ _ _ (hstatcfg n _ rfl), Dev.getN_setN_same _ _ _ _ (by decide)]
    rfl
  · rw [Dev.getN_setN_apart _ _ _ _ _ _ (by decide) (by decide) (by decide), Dev.getN_setN_addr _ _ _ _ _ _ (hlagstat _ rfl),
      Dev.getN_setN_same _ _ _ _ (by decide)]
    exact Nat.mod_eq_of_lt hst
  · rw [Dev.getN_setN_addr _ _ _ _ _ _ (hstatlag _ rfl), Dev.getN_setN_same _ _ _ _ (by decide)]
  · rw [Dev.getN_setN_same _ _ _ _ (by decide)]
    cases d.getN Reg.ALN_OUTn_CFG.CMD_EN n != 0 <;> rfl
  · have hcfg := hne Reg.ALN_OUTn_CFG.EN Reg.ALN_OUTn_CFG.EN m (0x80100 + m * 0x20) (0x80100 + n * 0x20) (outCfg_addr m) (outCfg_addr n) (by omega)
    rw [Dev.getN_setN_addr _ _ _ _ _ _ (hstatcfg m _ rfl), Dev.getN_setN_addr _ _ _ _ _ _ (hlagcfg m),
      Dev.getN_setN_addr _ _ _ _ _ _ (hstatcfg m _ rfl), Dev.getN_setN_addr _ _ _ _ _ _ hcfg]

/-- Settles O35: a spread by where it is put and what its close leaves, the start by the room for its slots, an output by its check. -/
theorem spreadLife : Obligations.SpreadLife := by
  unfold Obligations.SpreadLife
  refine ⟨⟨?_, ?_, ?_, ?_, ?_, ?_, ?_, ?_, ?_, ?_⟩, ⟨?_, ?_, ?_, ?_, ?_, ?_⟩, ?_, ?_⟩
  · intro s ha hd hk hs
    rw [exec_spreadOpen, spreadOpen_opens ha hd hk hs]
  · intro s h
    rw [exec_spreadOpen, spreadOpen_idle h]
  · intro d k h
    rw [openSpread_new h]
    exact ⟨mem_insertSpread.mpr (.inl rfl), fun o ho => mem_insertSpread.mpr (.inr ho), length_insertSpread _ _,
      pairwise_insertSpread h⟩
  · intro d k h
    rw [openSpread_again h, List.map_map, List.map_map]
    exact ⟨List.map_congr_left fun o _ => (dueJoined_keeps k d o).1, List.map_congr_left fun o _ => (dueJoined_keeps k d o).2⟩
  · intro s
    exact ⟨exec_spreadDeadline s, settle_idle⟩
  · intro s sp hu hr ho hd h
    obtain ⟨reason, hx⟩ := settle_closes hu hr ho hd h
    obtain ⟨hopen, hclosed, hseq, hlast, hnext, hheld, -⟩ := closeSpread_closed s.time sp reason s.dev
    rw [exec_spreadDeadline, hx]
    refine ⟨_, rfl, ?_⟩
    rw [after_aln, hopen, hclosed, hseq, hlast, hnext, hheld, ho]
    exact ⟨by simp, rfl, rfl, rfl, by omega, List.mem_append_right _ (List.mem_singleton_self _)⟩
  · intro s sp ho hover h
    rw [exec_spreadDeadline, settle_waits ho hover h]
  · intro s k q c rest hu hh hc hk he
    have hrelease := slotRelease_due hh hc hk he
    rw [exec_slotRelease, if_pos hu, hrelease]
    refine ⟨_, rfl, ?_, ?_, ?_, fun hnone => ?_⟩
    · rw [after_aln]
      rfl
    · rw [after_aln]
      exact (congrArg Aln.open_ (cutRecords_aln k s.dev) :)
    · rw [after_aln]
      exact (congrArg Aln.dlv (cutRecords_aln k s.dev) :)
    · rw [cutRecords_none hnone]
  · intro s h
    rw [exec_slotRelease]
    split
    · next hu => rw [slotRelease_none (h.resolve_left (by simp [hu]))]
    · rfl
  · intro s k q c rest hh hc h
    rw [exec_slotRelease, slotRelease_needed hh hc h, ite_self]
  · intro s hu he
    have hon : rollCallStart s.time s.dev = s.dev := if_pos he
    rw [exec_rollCallStart, onWrite_up _ hu, hon]
  · intro s hu he ha
    rw [exec_rollCallStart, onWrite_up _ hu, rollCallStart_off he, if_neg ha]
  · intro s hu he ha
    rw [exec_rollCallStart, onWrite_up _ hu, rollCallStart_off he, if_pos ha]
  · intro t d z n hz hn
    have hz' : z = slotBytes d := hz
    have hn' : n = slotNeed d := hn
    rw [hz', hn']
    refine ⟨alnStart_fails, fun h => ?_⟩
    obtain ⟨hrun, hfail, hen, hopen, hnext, hfirst, hheld⟩ := alnStart_started (t := t) h
    exact ⟨hrun, hfail, hen, hopen, hnext, hfirst, hheld⟩
  · intro s hu ho
    rw [exec_rollCallStop, onWrite_up _ hu, rollCallStop_empty ho]
    rfl
  · intro s hu
    obtain ⟨hen, hrun, hdrain⟩ := rollCallStop_stops s.time s.dev
    rw [exec_rollCallStop, onWrite_up _ hu]
    refine ⟨_, rfl, ?_, ?_, ?_⟩
    · rw [after_on _ _ _ (notIntake_of_lt (by decide)), hen]
    · rw [after_on _ _ _ (notIntake_of_lt (by decide)), hrun]
    · rw [after_aln, hdrain]
  · intro s n hn hu
    rw [exec_outputEnable, onWrite_up _ hu, if_neg (by omega)]
  · intro s n hn hu
    rw [exec_outputEnable, onWrite_up _ hu, if_pos hn]
    refine ⟨fun h => ?_, fun h hc => ⟨?_, outRefuse_shows _ _ _⟩, fun h hc => ?_⟩
    · rw [outputEnable_on h]
    · rw [outputEnable_refused h hc]
    · obtain ⟨hen, hreason, hlag, hon, hothers⟩ := outShown_fields n s.dev (accepted_lt hc)
      have hcfg (m : Nat) (hm : m < 32) : ¬ intakeWord (At.ALN_OUTn_CFG.addr m) :=
        notIntake_of_lt (by rw [outCfg_addr]; omega)
      have hstat : ¬ intakeWord (At.ALN_OUTn_STAT.addr n) := notIntake_of_lt (by rw [outStat_addr]; omega)
      obtain ⟨houtLag, houtSince⟩ := outputEnable_out (t := s.time) h hc
      refine ⟨_, rfl, ?_⟩
      rw [after_aln, houtLag, houtSince, outputEnable_taken h hc]
      refine ⟨?_, ?_, ?_, rfl, rfl, ?_, fun m hm hne => ?_⟩
      · rw [after_onN _ _ _ _ (hcfg n hn), Dev.modAln_onN, hen]
      · rw [after_getN _ _ _ _ hstat, Dev.modAln_getN, hreason]
      · rw [after_getN _ _ _ _ (notIntake_of_lt (by rw [show Reg.ALN_OUTn_LAG.LAG.reg = At.ALN_OUTn_LAG from rfl, outLag_addr]; omega)),
          Dev.modAln_getN, hlag]
      · rw [after_onN _ _ _ _ hstat, Dev.modAln_onN, hon]
      · rw [after_getN _ _ _ _ (hcfg m hm), Dev.modAln_getN, hothers m hne]

end Sys2Proof.Machine

/-!
PROOFS. The converters: the reference, GO and STOP, slots and conversions, and the delivery of results (R264 to R285).
-/

namespace Sys2Proof.Machine

open Sys2Proof

variable {d : Dev}

theorem exec_adcGo (cv : Nat) (s : State) :
    exec (.adcGo cv) s = .next (s.after (if cv < 2 then onWrite 0xA0040 (adcGo s.time cv) s.dev else s.dev)) := rfl

theorem exec_adcSampleDeliver (cv : Nat) (s : State) :
    exec (.adcSampleDeliver cv) s =
      .next (s.after (if cv < 2 ∧ s.dev.up islRaw then adcSampleDeliver s.time cv s.dev else s.dev)) := rfl

theorem exec_adcSlot (cv : Nat) (smp : AdcSample) (s : State) :
    exec (.adcSlot cv smp) s =
      .next (s.after (if cv < 2 ∧ s.dev.up islRaw then adcSlot s.time cv smp s.dev else s.dev)) := rfl

theorem exec_adcStart (cv : Nat) (s : State) :
    exec (.adcStart cv) s = .next (s.after (if cv < 2 ∧ s.dev.up islRaw then adcStart s.time cv s.dev else s.dev)) := rfl

theorem exec_adcStop (cv : Nat) (s : State) :
    exec (.adcStop cv) s = .next (s.after (if cv < 2 then onWrite 0xA0040 (adcStop cv) s.dev else s.dev)) := rfl

theorem exec_diagFlush (s : State) :
    exec .diagFlush s = .next (s.after (if s.dev.up islRaw then diagFlush s.time s.dev else s.dev)) := rfl

theorem exec_refEnable (s : State) : exec .refEnable s = .next (s.after (onWrite 0xA0004 (refEnable s.time) s.dev)) := rfl

theorem exec_refReady (s : State) :
    exec .refReady s = .next (s.after (if s.dev.up islRaw then refReady s.time s.dev else s.dev)) := rfl

/-! ## The state of a converter -/

theorem fArmed_addr (n : Nat) : (fArmed n).reg.addr 0 = 0xA0008 := by
  unfold fArmed
  split <;> rfl

theorem fRun_addr (n : Nat) : (fRun n).reg.addr 0 = 0xA0008 := by
  unfold fRun
  split <;> rfl

theorem fPos_addr (n : Nat) : (fPos n).reg.addr 0 = 0xA0008 := by
  unfold fPos
  split <;> rfl

@[simp] theorem Dev.setN_cv (d : Dev) (f : Field) (i v m : Nat) : (d.setN f i v).cv m = d.cv m := rfl
@[simp] theorem Dev.set_cv (d : Dev) (f : Field) (v m : Nat) : (d.set f v).cv m = d.cv m := rfl
@[simp] theorem Dev.sat_cv (d : Dev) (f : Field) (i m : Nat) : (d.sat f i).cv m = d.cv m := rfl

@[simp] theorem Dev.cause_cv (d : Dev) (b : IntBlk) (k i x m : Nat) : (d.cause b k i x).cv m = d.cv m := by
  simp [Dev.cv]

@[simp] theorem after_cv (s : State) (d : Dev) (m : Nat) : (s.after d).dev.cv m = d.cv m := by
  simp [Dev.cv]

theorem after_cvRuns (s : State) (d : Dev) (n : Nat) : cvRuns (s.after d).dev n = cvRuns d n :=
  after_on s d _ (by rw [fRun_addr]; exact notIntake_of_lt (by decide))

theorem after_cvArmed (s : State) (d : Dev) (n : Nat) : cvArmed (s.after d).dev n = cvArmed d n :=
  after_on s d _ (by rw [fArmed_addr]; exact notIntake_of_lt (by decide))

/-- The state bits of a converter stand while ADC_STATUS does. -/
theorem Apart.cvRuns {W : Nat → Prop} {e : Dev} (h : Apart W e d) (hW : W 0xA0008) (n : Nat) :
    cvRuns d n = Machine.cvRuns e n := h.onN (by rw [fRun_addr]; exact hW)

theorem Apart.cvArmed {W : Nat → Prop} {e : Dev} (h : Apart W e d) (hW : W 0xA0008) (n : Nat) :
    cvArmed d n = Machine.cvArmed e n := h.onN (by rw [fArmed_addr]; exact hW)

theorem cvRuns_setArmed (d : Dev) (n v : Nat) : cvRuns (d.set (fArmed n) v) n = cvRuns d n := by
  refine Dev.on_set_other d _ _ v ?_
  unfold fArmed fRun
  split <;> decide

theorem cvArmed_setRun (d : Dev) (n v : Nat) : cvArmed (d.set (fRun n) v) n = cvArmed d n := by
  refine Dev.on_set_other d _ _ v ?_
  unfold fArmed fRun
  split <;> decide

theorem cvRuns_setPos (d : Dev) (n v : Nat) : cvRuns (d.set (fPos n) v) n = cvRuns d n := by
  refine Dev.on_set_other d _ _ v ?_
  unfold fPos fRun
  split <;> decide

theorem cvArmed_setPos (d : Dev) (n v : Nat) : cvArmed (d.set (fPos n) v) n = cvArmed d n := by
  refine Dev.on_set_other d _ _ v ?_
  unfold fPos fArmed
  split <;> decide

theorem cvArmed_set (d : Dev) (n v : Nat) : cvArmed (d.set (fArmed n) v) n = (v % 2 != 0) := by
  have hf : (fArmed n).fits = true := by unfold fArmed; split <;> rfl
  have hw : (fArmed n).width = 1 := by unfold fArmed; split <;> rfl
  unfold cvArmed
  rw [Dev.on_set_same d _ v hf, hw, pow_one]

theorem cvRuns_set (d : Dev) (n v : Nat) : cvRuns (d.set (fRun n) v) n = (v % 2 != 0) := by
  have hf : (fRun n).fits = true := by unfold fRun; split <;> rfl
  have hw : (fRun n).width = 1 := by unfold fRun; split <;> rfl
  unfold cvRuns
  rw [Dev.on_set_same d _ v hf, hw, pow_one]

/-! ## The reference (R265, R266) -/

theorem refEnable_starts {t : Time} (h : d.on Reg.ADC_REF.EN = false) : refEnable t d =
    { d.set Reg.ADC_REF.EN 1 with adc := { (d.set Reg.ADC_REF.EN 1).adc with refFrom := some t.loc } } :=
  if_neg (by simp [h])

theorem refReady_rises {t : Time} {f : Nat} (he : d.on Reg.ADC_REF.EN = true) (hf : d.adc.refFrom = some f)
    (ht : (if d.on Reg.ADC_REF.EXT then f + 100000 else f + 2000000) ≤ t.loc) :
    refReady t d = d.set Reg.ADC_STATUS.REF_OK 1 := by
  unfold refReady
  rw [hf]
  exact if_pos (by rw [he]; split at ht <;> simp_all)

theorem refReady_waits {t : Time} (h : d.on Reg.ADC_REF.EN = false ∨ d.adc.refFrom = none ∨
    ∃ f, d.adc.refFrom = some f ∧ t.loc < if d.on Reg.ADC_REF.EXT then f + 100000 else f + 2000000) : refReady t d = d := by
  unfold refReady
  cases hf : d.adc.refFrom with
  | none => rfl
  | some f =>
    refine if_neg ?_
    rcases h with h | h | ⟨g, hg, h⟩
    · simp [h]
    · rw [hf] at h
      cases h
    · obtain rfl := Option.some.inj (hf.symm.trans hg)
      split at h <;> simp_all

theorem reference_commands : (∀ (s : State), s.dev.up islRaw = true → s.dev.on Reg.ADC_REF.EN = false →
    ∃ t, exec .refEnable s = .next t ∧ t.dev.on Reg.ADC_REF.EN = true ∧ t.dev.adc.refFrom = some s.time.loc ∧
      (∀ a, ¬ intakeWord a → a ≠ 0xA0004 → t.dev.word a = s.dev.word a)) ∧
  (∀ (s : State), s.dev.up islRaw = true → s.dev.on Reg.ADC_REF.EN = true → exec .refEnable s = .next (s.after s.dev)) ∧
  (∀ (s : State) (f : Nat), s.dev.up islRaw = true → s.dev.on Reg.ADC_REF.EN = true → s.dev.adc.refFrom = some f →
    ((if s.dev.on Reg.ADC_REF.EXT then f + 100000 else f + 2000000) ≤ s.time.loc →
      exec .refReady s = .next (s.after (s.dev.set Reg.ADC_STATUS.REF_OK 1))) ∧
    (s.time.loc < (if s.dev.on Reg.ADC_REF.EXT then f + 100000 else f + 2000000) →
      exec .refReady s = .next (s.after s.dev))) ∧
  (∀ (s : State), s.dev.up islRaw = false ∨ s.dev.on Reg.ADC_REF.EN = false ∨ s.dev.adc.refFrom = none →
    exec .refReady s = .next (s.after s.dev)) := by
  refine ⟨fun s hu he => ?_, fun s hu he => ?_, fun s f hu he hf => ⟨fun ht => ?_, fun ht => ?_⟩, fun s h => ?_⟩
  · rw [exec_refEnable, onWrite_up (refEnable s.time) hu, refEnable_starts he]
    refine ⟨_, rfl, ?_, ?_, fun a ha h4 => ?_⟩
    · rw [after_on _ _ _ (notIntake_of_lt (by decide))]
      exact Dev.on_set_same s.dev Reg.ADC_REF.EN 1 rfl
    · rw [after_adc]
    · rw [after_word _ _ _ ha]
      exact Dev.word_set s.dev Reg.ADC_REF.EN 1 a h4
  · rw [exec_refEnable, onWrite_up (refEnable s.time) hu]
    exact congrArg (fun d => Host.Outcome.next (s.after d)) (if_pos he)
  · rw [exec_refReady, if_pos hu, refReady_rises he hf ht]
  · rw [exec_refReady, if_pos hu, refReady_waits (.inr (.inr ⟨f, hf, ht⟩))]
  · rw [exec_refReady]
    split
    · next hu => rw [refReady_waits (h.resolve_left (by simp [hu]) |>.imp_right .inl)]
    · rfl

/-! ## GO (R272, R275) -/

theorem adcGo_rejected {t : Time} {n : Nat}
    (h : d.onN Reg.ADC_CVn_CTRL.EN n = false ∨ cvRuns d n = true ∨ cvArmed d n = true) :
    adcGo t n d = d.cause intAdc 4 0 0 := if_pos (by rcases h with h | h | h <;> simp [h])

theorem adcGo_taken {t : Time} {n : Nat} (he : d.onN Reg.ADC_CVn_CTRL.EN n = true) (hr : cvRuns d n = false)
    (ha : cvArmed d n = false) : adcGo t n d =
      cvArm t n (d.getN Reg.ADC_CVn_TSTART.ST n + 2 ^ 32 * d.getN Reg.ADC_CVn_TEPOCH.EPOCH n)
        (d.getN Reg.ADC_CVn_TEPOCH.LATE_TOL n) d := if_neg (by simp [he, hr, ha])

theorem cvArm_refused {t : Time} {n target tol : Nat} (h : cvWalk d n = none) : cvArm t n target tol d =
    (d.setN Reg.ADC_CVn_STAT.START_STATUS n stRejected).cause intAdc 4 0 0 := by
  unfold cvArm
  dsimp only
  rw [h]
  rfl

theorem cvArm_skipped {t : Time} {n target tol : Nat} {es : List Nat} {len : Nat} (h : cvWalk d n = some (es, len))
    (hk : d.getN Reg.T_ITIN.REPEAT (d.getN Reg.ADC_CVn_LIST.START n) = 0 ∧
      d.getN Reg.T_ITIN.OP (d.getN Reg.ADC_CVn_LIST.START n) = 2) : cvArm t n target tol d =
      (d.setN Reg.ADC_CVn_LOOPLEN.NS n len).setN Reg.ADC_CVn_STAT.START_STATUS n stSkipped := by
  unfold cvArm
  dsimp only
  rw [h]
  exact if_pos hk

theorem cvArm_arms {t : Time} {n target tol : Nat} {es : List Nat} {len : Nat} (h : cvWalk d n = some (es, len))
    (hk : ¬ (d.getN Reg.T_ITIN.REPEAT (d.getN Reg.ADC_CVn_LIST.START n) = 0 ∧
      d.getN Reg.T_ITIN.OP (d.getN Reg.ADC_CVn_LIST.START n) = 2)) : cvArm t n target tol d =
      ((d.setN Reg.ADC_CVn_LOOPLEN.NS n len).set (fArmed n) 1).modCv n fun c => { (default : Cv) with
        target := target, tol := tol, armNs := t.ns, walked := es, due := c.due, tdcSeen := c.tdcSeen } := by
  unfold cvArm
  dsimp only
  rw [h]
  exact if_neg hk

/-- The words of one converter's own registers, at its stride. -/
theorem cv_addr {r : RegAt} {b c : Nat} (h : r = ⟨b, 0x40, c, 1, 0⟩) (n : Nat) : r.addr n = b + n * 0x40 :=
  RegAt.addr_single h n

theorem cvArmed_cause (d : Dev) (b : IntBlk) (k i x n : Nat) (h : b.addr ≠ 0xA0008) :
    cvArmed (d.cause b k i x) n = cvArmed d n := Dev.cause_on d b k i x _ (by rw [fArmed_addr]; exact h.symm)

theorem cvRuns_cause (d : Dev) (b : IntBlk) (k i x n : Nat) (h : b.addr ≠ 0xA0008) :
    cvRuns (d.cause b k i x) n = cvRuns d n := Dev.cause_on d b k i x _ (by rw [fRun_addr]; exact h.symm)

theorem cvArmed_setN (d : Dev) (f : Field) (i v n : Nat) (h : f.reg.addr i ≠ 0xA0008) :
    cvArmed (d.setN f i v) n = cvArmed d n := Dev.onN_setN_addr d f _ i 0 v (by rw [fArmed_addr]; exact h.symm)

theorem cvRuns_setN (d : Dev) (f : Field) (i v n : Nat) (h : f.reg.addr i ≠ 0xA0008) :
    cvRuns (d.setN f i v) n = cvRuns d n := Dev.onN_setN_addr d f _ i 0 v (by rw [fRun_addr]; exact h.symm)

/-- The registers of a converter lie above ADC_INT. -/
theorem cv_ne {r : RegAt} {b c a : Nat} (h : r = ⟨b, 0x40, c, 1, 0⟩) (ha : a < b) (n : Nat) : r.addr n ≠ a := by
  rw [cv_addr h]
  omega

theorem go_commands (s : State) (n : Nat) (hn : n < 2) (hu : s.dev.up islRaw = true) :
    (s.dev.onN Reg.ADC_CVn_CTRL.EN n = false ∨ cvRuns s.dev n = true ∨ cvArmed s.dev n = true →
      exec (.adcGo n) s = .next (s.after (s.dev.cause intAdc 4 0 0))) ∧
    (s.dev.onN Reg.ADC_CVn_CTRL.EN n = true → cvRuns s.dev n = false → cvArmed s.dev n = false →
      (cvWalk s.dev n = none → exec (.adcGo n) s =
        .next (s.after ((s.dev.setN Reg.ADC_CVn_STAT.START_STATUS n stRejected).cause intAdc 4 0 0))) ∧
      (∀ es len, cvWalk s.dev n = some (es, len) →
        (s.dev.getN Reg.T_ITIN.REPEAT (s.dev.getN Reg.ADC_CVn_LIST.START n) ≠ 0 ∨
            s.dev.getN Reg.T_ITIN.OP (s.dev.getN Reg.ADC_CVn_LIST.START n) ≠ 2 →
          ∃ t, exec (.adcGo n) s = .next t ∧ cvArmed t.dev n = true ∧ cvRuns t.dev n = false ∧
            (t.dev.cv n).walked = es ∧ (t.dev.cv n).armNs = s.time.ns ∧
            (t.dev.cv n).target = s.dev.getN Reg.ADC_CVn_TSTART.ST n + 2 ^ 32 * s.dev.getN Reg.ADC_CVn_TEPOCH.EPOCH n ∧
            t.dev.cv (1 - n) = s.dev.cv (1 - n)) ∧
        (s.dev.getN Reg.T_ITIN.REPEAT (s.dev.getN Reg.ADC_CVn_LIST.START n) = 0 →
            s.dev.getN Reg.T_ITIN.OP (s.dev.getN Reg.ADC_CVn_LIST.START n) = 2 →
          ∃ t, exec (.adcGo n) s = .next t ∧ cvArmed t.dev n = false ∧
            t.dev.getN Reg.ADC_CVn_STAT.START_STATUS n = stSkipped))) := by
  have hx : exec (.adcGo n) s = .next (s.after (adcGo s.time n s.dev)) := by
    rw [exec_adcGo, if_pos hn, onWrite_up (adcGo s.time n) hu]
  have hs : Reg.ADC_CVn_STAT.START_STATUS.reg.addr n ≠ 0xA0008 := cv_ne rfl (by decide) n
  have hl : Reg.ADC_CVn_LOOPLEN.NS.reg.addr n ≠ 0xA0008 := cv_ne rfl (by decide) n
  rw [hx]
  refine ⟨fun h => by rw [adcGo_rejected h], fun he hr ha => ?_⟩
  rw [adcGo_taken he hr ha]
  refine ⟨fun h => by rw [cvArm_refused h], fun es len h => ⟨fun hk => ?_, fun h0 h2 => ?_⟩⟩
  · rw [cvArm_arms h (by tauto)]
    refine ⟨_, rfl, ?_, ?_, ?_, ?_, ?_, ?_⟩
    · rw [after_cvArmed]
      exact cvArmed_set _ n 1
    · rw [after_cvRuns]
      exact (cvRuns_setArmed _ n 1).trans ((cvRuns_setN _ _ _ _ _ hl).trans hr)
    · rw [after_cv, Dev.modCv_cv]
    · rw [after_cv, Dev.modCv_cv]
    · rw [after_cv, Dev.modCv_cv]
    · rw [after_cv, Dev.modCv_cv_other _ _ _ (by omega)]
      rfl
  · rw [cvArm_skipped h ⟨h0, h2⟩]
    refine ⟨_, rfl, ?_, ?_⟩
    · rw [after_cvArmed, cvArmed_setN _ _ _ _ _ hs, cvArmed_setN _ _ _ _ _ hl, ha]
    · rw [after_getN _ _ _ _ (notIntake_of_lt (by rw [cv_addr (r := Reg.ADC_CVn_STAT.START_STATUS.reg) rfl]; omega))]
      exact Dev.getN_setN_same _ _ _ _ rfl

/-! ## The armed target and STOP (R275 to R277) -/

/-- The converter leaves the armed state for its first slot. -/
def takenUp (n st first : Nat) (d : Dev) : Dev :=
  (startStatus n st (enterEntry n (d.getN Reg.ADC_CVn_LIST.START n) (some (first - (d.cv n).armNs))
    ((((d.set (fArmed n) 0).set (fRun n) 1).setN Reg.ADC_CVn_PASS.N n 0).modCv n fun x =>
      { x with next := first }))).cause intAdc n 0 st

theorem adcStart_verdict {t : Time} {n : Nat} (h : cvArmed d n = true) : adcStart t n d =
    match verdictOf ((cvTarget t n d : Int) - t.ns) (tickSpan t d) (d.cv n).tol with
    | .wait => d
    | .ok => takenUp n stOk (cvTarget t n d) d
    | .late => takenUp n stLate (slotUp (cvSlot d n) t.ns) d
    | .expired => (startStatus n stExpired (d.set (fArmed n) 0)).cause intAdc n 0 stExpired := by
  have h' : ¬ (!cvArmed d n) = true := by simp [h]
  unfold adcStart
  rw [if_neg h']
  rfl

theorem Apart.enterEntry {W : Nat → Prop} {e : Dev} {n k : Nat} {first : Option Nat} (h : Apart W e d)
    (hs : ¬ W (Reg.ADC_CVn_SETTLE.N.reg.addr n)) (hp : ¬ W 0xA0008) : Apart W e (enterEntry n k first d) :=
  (Apart.setN (f := Reg.ADC_CVn_SETTLE.N) (h.set (by rwa [fPos_addr])) hs).ofRegs (Dev.modCv_regs _ n _)

theorem cvArmed_enterEntry (d : Dev) (n e : Nat) (first : Option Nat) :
    cvArmed (enterEntry n e first d) n = cvArmed d n :=
  (cvArmed_setN _ _ _ _ _ (cv_ne (r := Reg.ADC_CVn_SETTLE.N.reg) rfl (by decide) n)).trans (cvArmed_setPos d n e)

theorem cvRuns_enterEntry (d : Dev) (n e : Nat) (first : Option Nat) : cvRuns (enterEntry n e first d) n = cvRuns d n :=
  (cvRuns_setN _ _ _ _ _ (cv_ne (r := Reg.ADC_CVn_SETTLE.N.reg) rfl (by decide) n)).trans (cvRuns_setPos d n e)

theorem enterEntry_next (d : Dev) (n e : Nat) (first : Option Nat) : ((enterEntry n e first d).cv n).next = (d.cv n).next := by
  unfold enterEntry
  dsimp only
  rw [Dev.modCv_cv]
  rfl

section
variable (d : Dev) (n st first : Nat)

theorem takenUp_armed : cvArmed (takenUp n st first d) n = false := by
  unfold takenUp startStatus
  rw [cvArmed_cause _ _ _ _ _ _ (by decide), cvArmed_setN _ _ _ _ _ (cv_ne rfl (by decide) n), cvArmed_enterEntry]
  exact (cvArmed_setN _ Reg.ADC_CVn_PASS.N _ _ _ (cv_ne rfl (by decide) n)).trans
    ((cvArmed_setRun _ n 1).trans (cvArmed_set d n 0))

theorem takenUp_runs : cvRuns (takenUp n st first d) n = true := by
  unfold takenUp startStatus
  rw [cvRuns_cause _ _ _ _ _ _ (by decide), cvRuns_setN _ _ _ _ _ (cv_ne rfl (by decide) n), cvRuns_enterEntry]
  exact (cvRuns_setN _ Reg.ADC_CVn_PASS.N _ _ _ (cv_ne rfl (by decide) n)).trans (cvRuns_set _ n 1)

theorem takenUp_next : ((takenUp n st first d).cv n).next = first := by
  unfold takenUp startStatus
  rw [Dev.cause_cv, Dev.setN_cv, enterEntry_next, Dev.modCv_cv]

theorem takenUp_status (h : st < 256) : (takenUp n st first d).getN Reg.ADC_CVn_STAT.START_STATUS n = st := by
  unfold takenUp startStatus
  rw [Dev.cause_getN _ _ _ _ _ _ _ (cv_ne rfl (by decide) n), Dev.getN_setN_same _ _ _ _ rfl]
  exact Nat.mod_eq_of_lt h

theorem takenUp_pass (hn : n < 2) : (takenUp n st first d).getN Reg.ADC_CVn_PASS.N n = 0 := by
  have hp : Reg.ADC_CVn_PASS.N.reg.addr n = 0xA0060 + n * 0x40 := cv_addr rfl n
  unfold takenUp startStatus
  rw [Dev.cause_getN _ _ _ _ _ _ _ (cv_ne rfl (by decide) n), Dev.getN_setN_addr _ _ _ _ _ _ (by
    rw [hp, cv_addr (r := Reg.ADC_CVn_STAT.START_STATUS.reg) rfl]; omega)]
  have he := ((Apart.refl (· = Reg.ADC_CVn_PASS.N.reg.addr n) _).enterEntry (n := n)
    (k := d.getN Reg.ADC_CVn_LIST.START n) (first := some (first - (d.cv n).armNs))
    (d := ((((d.set (fArmed n) 0).set (fRun n) 1).setN Reg.ADC_CVn_PASS.N n 0).modCv n fun x => { x with next := first }))
    (by rw [hp, cv_addr (r := Reg.ADC_CVn_SETTLE.N.reg) rfl]; omega) (by rw [hp]; omega)).getN
    (f := Reg.ADC_CVn_PASS.N) (i := n) rfl
  rw [he, Dev.modCv_getN]
  exact Dev.getN_setN_same _ Reg.ADC_CVn_PASS.N n 0 rfl

theorem takenUp_cause (hn : n < 32) : bitOf ((takenUp n st first d).word 0xA000C) n = true :=
  Dev.cause_sets _ intAdc n 0 st hn
end

/-- A start taken up, seen after its command. -/
theorem takenUp_shown (s : State) {n st first : Nat} (hn : n < 2) (hst : st < 256) :
    cvArmed (s.after (takenUp n st first s.dev)).dev n = false ∧ cvRuns (s.after (takenUp n st first s.dev)).dev n = true ∧
    (s.after (takenUp n st first s.dev)).dev.getN Reg.ADC_CVn_STAT.START_STATUS n = st ∧
    (s.after (takenUp n st first s.dev)).dev.getN Reg.ADC_CVn_PASS.N n = 0 ∧
    ((s.after (takenUp n st first s.dev)).dev.cv n).next = first ∧
    bitOf ((s.after (takenUp n st first s.dev)).dev.word 0xA000C) n = true := by
  refine ⟨?_, ?_, ?_, ?_, ?_, ?_⟩
  · rw [after_cvArmed, takenUp_armed]
  · rw [after_cvRuns, takenUp_runs]
  · rw [after_getN _ _ _ _ (notIntake_of_lt (by rw [cv_addr (r := Reg.ADC_CVn_STAT.START_STATUS.reg) rfl]; omega)),
      takenUp_status _ _ _ _ hst]
  · rw [after_getN _ _ _ _ (notIntake_of_lt (by rw [cv_addr (r := Reg.ADC_CVn_PASS.N.reg) rfl]; omega)),
      takenUp_pass _ _ _ _ hn]
  · rw [after_cv, takenUp_next]
  · rw [after_word _ _ _ (notIntake_of_lt (by decide))]
    exact takenUp_cause _ _ _ _ (by omega)

theorem start_commands : (∀ (s : State) (n : Nat), 2 ≤ n ∨ s.dev.up islRaw = false ∨ cvArmed s.dev n = false →
    exec (.adcStart n) s = .next (s.after s.dev)) ∧
  (∀ (s : State) (n : Nat), 2 ≤ n → exec (.adcGo n) s = .next (s.after s.dev) ∧ exec (.adcStop n) s = .next (s.after s.dev)) ∧
  (∀ (s : State) (n : Nat) (v : Verdict), n < 2 → s.dev.up islRaw = true → cvArmed s.dev n = true →
    verdictOf ((cvTarget s.time n s.dev : Int) - s.time.ns) (tickSpan s.time s.dev) (s.dev.cv n).tol = v →
    (v = .wait → exec (.adcStart n) s = .next (s.after s.dev)) ∧
    (v = .expired → exec (.adcStart n) s = .next (s.after (((s.dev.set (fArmed n) 0).setN Reg.ADC_CVn_STAT.START_STATUS n
      stExpired).cause intAdc n 0 stExpired))) ∧
    (v = .ok ∨ v = .late → ∃ t, exec (.adcStart n) s = .next t ∧ cvArmed t.dev n = false ∧ cvRuns t.dev n = true ∧
      t.dev.getN Reg.ADC_CVn_STAT.START_STATUS n = v.status ∧ t.dev.getN Reg.ADC_CVn_PASS.N n = 0 ∧
      (t.dev.cv n).next = (if v = .ok then cvTarget s.time n s.dev else slotUp (cvSlot s.dev n) s.time.ns) ∧
      bitOf (t.dev.word 0xA000C) n = true)) ∧
  (∀ (s : State) (n : Nat), n < 2 → s.dev.up islRaw = true →
    (cvArmed s.dev n = true → exec (.adcStop n) s =
      .next (s.after ((s.dev.set (fArmed n) 0).setN Reg.ADC_CVn_STAT.START_STATUS n stRejected))) ∧
    (cvArmed s.dev n = false → cvRuns s.dev n = true →
      exec (.adcStop n) s = .next (s.after (s.dev.modCv n fun c => { c with stopping := true }))) ∧
    (cvArmed s.dev n = false → cvRuns s.dev n = false → exec (.adcStop n) s = .next (s.after s.dev))) := by
  refine ⟨fun s n h => ?_, fun s n h => ⟨?_, ?_⟩, fun s n v hn hu ha hv => ?_, fun s n hn hu => ?_⟩
  · rw [exec_adcStart]
    split
    · next hc =>
      have hna : cvArmed s.dev n = false :=
        (h.resolve_left (by omega)).resolve_left (by simp [hc.2])
      exact congrArg (fun d => Host.Outcome.next (s.after d)) (if_pos (by simp [hna]))
    · rfl
  · rw [exec_adcGo, if_neg (by omega)]
  · rw [exec_adcStop, if_neg (by omega)]
  · rw [exec_adcStart, if_pos ⟨hn, hu⟩, adcStart_verdict ha, hv]
    refine ⟨fun h => by rw [h], fun h => ?_, fun h => ?_⟩
    · subst h
      rfl
    · rcases h with h | h <;> subst h
      · exact ⟨_, rfl, takenUp_shown s hn (by decide)⟩
      · exact ⟨_, rfl, takenUp_shown s hn (by decide)⟩
  · have hx : exec (.adcStop n) s = .next (s.after (adcStop n s.dev)) := by
      rw [exec_adcStop, if_pos hn, onWrite_up (adcStop n) hu]
    rw [hx]
    exact ⟨fun ha => congrArg (fun d => Host.Outcome.next (s.after d)) (if_pos ha),
      fun ha hr => congrArg (fun d => Host.Outcome.next (s.after d)) ((if_neg (by simp [ha])).trans (if_pos hr)),
      fun ha hr => congrArg (fun d => Host.Outcome.next (s.after d))
        ((if_neg (by simp [ha])).trans (if_neg (by simp [hr])))⟩

/-! ## Slots (R264, R270, R271, R277, R279) -/

theorem adcSlot_idle {t : Time} {n : Nat} {x : AdcSample} (h : cvRuns d n = false ∨ t.ns < (d.cv n).next) :
    adcSlot t n x d = d := if_pos (by rcases h with h | h <;> simp [h])

theorem adcSlot_halts {t : Time} {n : Nat} {x : AdcSample} (hr : cvRuns d n = true) (ht : (d.cv n).next ≤ t.ns)
    (hs : (d.cv n).stopping = true) : adcSlot t n x d = cvHalt n d :=
  (if_neg (by simp [hr, ht])).trans (if_pos hs)

/-- A boundary that the converter takes up: the Itinerary advances, then the slot converts or idles. -/
theorem adcSlot_advances {t : Time} {n : Nat} {x : AdcSample} (hr : cvRuns d n = true) (ht : (d.cv n).next ≤ t.ns)
    (hs : (d.cv n).stopping = false) : adcSlot t n x d =
      if !cvRuns (itinAdvance n 256 d) n then itinAdvance n 256 d
      else if ((itinAdvance n 256 d).cv n).reps < d.getN Reg.T_ITIN.REPEAT (cvPos (itinAdvance n 256 d) n) then
        convert n (cvPos (itinAdvance n 256 d) n) (d.cv n).next x
          ((itinAdvance n 256 d).modCv n fun x => { x with next := (d.cv n).next + cvSlot d n })
      else ((itinAdvance n 256 d).modCv n fun x => { x with next := (d.cv n).next + cvSlot d n }).modCv n fun x =>
        { x with idle := x.idle + 1, stepped := false } :=
  (if_neg (by simp [hr, ht])).trans (if_neg (by simp [hs]))

theorem cvHalt_runs (d : Dev) (n : Nat) : cvRuns (cvHalt n d) n = false := cvRuns_set d n 0

/-- The words of the tables, which stand above the register blocks. -/
def TableWord (a : Nat) : Prop := 0x200000 ≤ a

section
variable {e : Dev} {n : Nat}

theorem Apart.ownCv {r : RegAt} {b c : Nat} (h : r = ⟨b, 0x40, c, 1, 0⟩) (hb : b < 0x1FFF00) (hn : n < 2) :
    ¬ TableWord (r.addr n) := by
  rw [cv_addr h]
  unfold TableWord
  omega

theorem Apart.entered {k : Nat} {first : Option Nat} (h : Apart TableWord e d) (hn : n < 2) :
    Apart TableWord e (Machine.enterEntry n k first d) :=
  h.enterEntry (Apart.ownCv rfl (by decide) hn) (by unfold TableWord; omega)

theorem Apart.cvHalt (h : Apart TableWord e d) : Apart TableWord e (cvHalt n d) :=
  Apart.ofRegs (h.set (f := fRun n) (v := 0) (by rw [fRun_addr]; unfold TableWord; omega)) (Dev.modCv_regs _ n _)

/-- The advance leaves the Itinerary itself as it is. -/
theorem Apart.itinAdvance {fuel : Nat} (h : Apart TableWord e d) (hn : n < 2) :
    Apart TableWord e (itinAdvance n fuel d) := by
  induction fuel generalizing d with
  | zero => exact h
  | succ fuel ih =>
    unfold Machine.itinAdvance
    refine .ite h ?_
    split
    · exact ih (h.entered hn)
    · exact .ite (ih (Apart.entered (h.wrapInc (f := Reg.ADC_CVn_PASS.N) (Apart.ownCv rfl (by decide) hn)) hn))
        (ih (h.entered hn))
    · exact h.cvHalt.cause (by unfold TableWord; decide)
end

theorem itinAdvance_repeat (d : Dev) {n : Nat} (hn : n < 2) (fuel e : Nat) :
    (itinAdvance n fuel d).getN Reg.T_ITIN.REPEAT e = d.getN Reg.T_ITIN.REPEAT e := by
  refine ((Apart.refl TableWord d).itinAdvance hn).getN ?_
  unfold TableWord RegAt.addr
  exact le_trans (by decide) (Nat.le_add_right_of_le (Nat.le_add_right _ _))

theorem itinAdvance_stays {n : Nat} (h : (d.cv n).reps < d.getN Reg.T_ITIN.REPEAT (cvPos d n) ∨
    (d.cv n).idle < d.getN Reg.T_ITIN.DELAY (cvPos d n)) : itinAdvance n 256 d = d :=
  if_pos (by rcases h with h | h <;> simp [h])

theorem tdc_cv (d : Dev) (n : Nat) (dev : Int) : (tdc n dev d).cv n = { d.cv n with tdcSeen := true } := by
  have key : ∀ (c : Prop) [Decidable c] (x : Dev), (if c then x.cause intAdc 6 0 0 else x).cv n = x.cv n := by
    intro c _ x
    split
    · exact Dev.cause_cv _ _ _ _ _ _
    · rfl
  exact (key _ _).trans (Dev.modCv_cv _ n _)

theorem owedSample_cv (d : Dev) (n : Nat) (x : AdcDue) :
    (owedSample n x d).cv n = { d.cv n with due := ((owedSample n x d).cv n).due } := by
  unfold owedSample
  split
  · rfl
  · rw [Dev.modCv_cv]

theorem owedSample_regs (d : Dev) (n : Nat) (x : AdcDue) : (owedSample n x d).regs = d.regs := by
  unfold owedSample
  split
  · rfl
  · exact Dev.modCv_regs _ _ _

/-- The causes and counters that a conversion leaves. -/
def convMarks (n ch : Nat) (smp : AdcSample) (bad : Bool) (d : Dev) : Dev :=
  let d1 := tdc n smp.dev d
  let d2 := if decide (131071 < smp.code) || decide (smp.code < -131072) then
    ((d1.sat Reg.ADC_CVn_CNT_CLIP.N n).set Reg.ADC_CLIPCH.CH (d1.get Reg.ADC_CLIPCH.CH ||| 2 ^ ch)).cause intAdc 7 0 0 else d1
  let d3 := if bad then d2.sat Reg.ADC_CVn_CNT_INV.N n else d2
  if !d.on Reg.ADC_STATUS.REF_OK then d3.cause intAdc 5 0 0 else d3

/-- The converter's sums after a conversion. -/
def Cv.converted (c : Cv) (bad : Bool) (code : Int) (q : Nat) : Cv :=
  { c with
    reps := c.reps + 1, stepped := false, last := some (if bad then none else some code, q)
    sumCode := if bad then c.sumCode else c.sumCode + code, sumQ := if bad then c.sumQ else c.sumQ + q
    valid := if bad then c.valid else c.valid + 1 }

/-- A conversion that lies in the settling time, or before the reference is ready, or in a stepped slot. -/
def convBad (d : Dev) (n : Nat) : Bool :=
  !d.on Reg.ADC_STATUS.REF_OK || decide ((d.cv n).reps < d.getN Reg.ADC_CVn_SETTLE.N n) || (d.cv n).stepped

theorem convert_parts (n e b : Nat) (x : AdcSample) (d : Dev) : ∃ q o, convert n e b x d =
    owedSample n o ((convMarks n (d.getN Reg.T_ITIN.CHAN e) x (convBad d n) d).modCv n fun c =>
      c.converted (convBad d n) (max (-131072) (min x.code 131071)) q) := ⟨_, _, rfl⟩

theorem Dev.ite_cv {c : Prop} [Decidable c] {a b : Dev} {n : Nat} (h : a.cv n = b.cv n) :
    (if c then a else b).cv n = b.cv n := by
  split
  · exact h
  · rfl

theorem convMarks_cv (n ch : Nat) (x : AdcSample) (bad : Bool) (d : Dev) :
    (convMarks n ch x bad d).cv n = { d.cv n with tdcSeen := true } := by
  unfold convMarks
  dsimp only
  rw [Dev.ite_cv (Dev.cause_cv _ _ _ _ _ _), Dev.ite_cv (Dev.sat_cv _ _ _ _),
    Dev.ite_cv (by simp), tdc_cv]

theorem tdc_apart {W : Nat → Prop} (d : Dev) (n : Nat) (dev : Int) (h : ¬ W (At.ADC_CVn_TDC.addr n)) (hi : ¬ W 0xA000C) :
    Apart W d (tdc n dev d) :=
  have h1 : Apart W d ((d.setN Reg.ADC_CVn_TDC.MIN n _).setN Reg.ADC_CVn_TDC.MAX n _) :=
    ((Apart.refl W d).setN (f := Reg.ADC_CVn_TDC.MIN) h).setN (f := Reg.ADC_CVn_TDC.MAX) h
  have h2 := h1.ofRegs (Dev.modCv_regs _ n fun c => { c with tdcSeen := true })
  .ite (h2.cause (b := intAdc) hi) h2

theorem convMarks_invalid {n : Nat} (hn : n < 2) (ch : Nat) (x : AdcSample) (bad : Bool) (d : Dev) :
    (convMarks n ch x bad d).getN Reg.ADC_CVn_CNT_INV.N n =
      if bad then min (d.getN Reg.ADC_CVn_CNT_INV.N n + 1) (2 ^ 32 - 1) else d.getN Reg.ADC_CVn_CNT_INV.N n := by
  have ha : At.ADC_CVn_CNT_INV.addr n = 0xA006C + n * 0x40 := cv_addr rfl n
  have h1 : Apart (· = At.ADC_CVn_CNT_INV.addr n) d (tdc n x.dev d) :=
    tdc_apart d n x.dev (by rw [ha, cv_addr (r := At.ADC_CVn_TDC) rfl]; omega) (by rw [ha]; omega)
  have h2 := Apart.ite (c := (decide (131071 < x.code) || decide (x.code < -131072)) = true)
    (((h1.sat (f := Reg.ADC_CVn_CNT_CLIP.N) (i := n) (by
      show ¬ At.ADC_CVn_CNT_CLIP.addr n = _
      rw [ha, cv_addr (r := At.ADC_CVn_CNT_CLIP) rfl]; omega)).set (f := Reg.ADC_CLIPCH.CH)
      (v := (tdc n x.dev d).get Reg.ADC_CLIPCH.CH ||| 2 ^ ch) (by
        show ¬ 0xA0014 = _
        rw [ha]; omega)).cause (b := intAdc) (k := 7) (i := 0) (x := 0) (by
          show ¬ 0xA000C = _
          rw [ha]; omega)) h1
  unfold convMarks
  dsimp only
  generalize (if (decide (131071 < x.code) || decide (x.code < -131072)) = true then _ else _ : Dev) = d2 at h2 ⊢
  rw [← h2.getN (f := Reg.ADC_CVn_CNT_INV.N) (i := n) rfl]
  have h4 : ∀ (c : Prop) [Decidable c] (y : Dev),
      (if c then y.cause intAdc 5 0 0 else y).getN Reg.ADC_CVn_CNT_INV.N n = y.getN Reg.ADC_CVn_CNT_INV.N n := by
    intro c _ y
    split
    · exact Dev.cause_getN _ _ _ _ _ _ _ (cv_ne rfl (by decide) n)
    · rfl
  rw [h4]
  cases bad
  · rfl
  · exact Dev.getN_sat_same d2 _ n rfl

theorem convert_sums (d : Dev) (n e b : Nat) (x : AdcSample) (hn : n < 2) :
    let bad := !d.on Reg.ADC_STATUS.REF_OK || decide ((d.cv n).reps < d.getN Reg.ADC_CVn_SETTLE.N n) || (d.cv n).stepped
    ((convert n e b x d).cv n).reps = (d.cv n).reps + 1 ∧ ((convert n e b x d).cv n).stepped = false ∧
      (bad = true → ((convert n e b x d).cv n).valid = (d.cv n).valid ∧
        ((convert n e b x d).cv n).sumCode = (d.cv n).sumCode ∧
        (convert n e b x d).getN Reg.ADC_CVn_CNT_INV.N n = min (d.getN Reg.ADC_CVn_CNT_INV.N n + 1) (2 ^ 32 - 1)) ∧
      (bad = false → ((convert n e b x d).cv n).valid = (d.cv n).valid + 1 ∧
        ((convert n e b x d).cv n).sumCode = (d.cv n).sumCode + max (-131072) (min x.code 131071) ∧
        (convert n e b x d).getN Reg.ADC_CVn_CNT_INV.N n = d.getN Reg.ADC_CVn_CNT_INV.N n) := by
  dsimp only
  obtain ⟨q, o, hc⟩ := convert_parts n e b x d
  have hinv : (convert n e b x d).getN Reg.ADC_CVn_CNT_INV.N n =
      if convBad d n then min (d.getN Reg.ADC_CVn_CNT_INV.N n + 1) (2 ^ 32 - 1) else d.getN Reg.ADC_CVn_CNT_INV.N n := by
    rw [hc, ← convMarks_invalid hn (d.getN Reg.T_ITIN.CHAN e) x]
    exact ((Apart.refl (fun _ => True) _).ofRegs (owedSample_regs _ n o)).getN trivial
  rw [hinv, hc, owedSample_cv, Dev.modCv_cv, convMarks_cv]
  refine ⟨rfl, rfl, fun hb => ?_, fun hb => ?_⟩
  · rw [show convBad d n = true from hb]
    exact ⟨rfl, rfl, rfl⟩
  · rw [show convBad d n = false from hb]
    exact ⟨rfl, rfl, rfl⟩

theorem slot_commands : (∀ (s : State) (n : Nat) (x : AdcSample),
    2 ≤ n ∨ s.dev.up islRaw = false ∨ cvRuns s.dev n = false ∨ s.time.ns < (s.dev.cv n).next →
    exec (.adcSlot n x) s = .next (s.after s.dev)) ∧
  (∀ (s : State) (n : Nat) (x : AdcSample), n < 2 → s.dev.up islRaw = true → cvRuns s.dev n = true →
    (s.dev.cv n).next ≤ s.time.ns → (s.dev.cv n).stopping = true →
    exec (.adcSlot n x) s = .next (s.after (cvHalt n s.dev)) ∧ cvRuns (cvHalt n s.dev) n = false) ∧
  (∀ (s : State) (n : Nat) (x : AdcSample), n < 2 → s.dev.up islRaw = true → cvRuns s.dev n = true →
    (s.dev.cv n).next ≤ s.time.ns → (s.dev.cv n).stopping = false →
    let d := itinAdvance n 256 s.dev
    (cvRuns d n = false → exec (.adcSlot n x) s = .next (s.after d)) ∧
    (cvRuns d n = true → (d.cv n).reps < d.getN Reg.T_ITIN.REPEAT (cvPos d n) →
      exec (.adcSlot n x) s = .next (s.after (convert n (cvPos d n) (s.dev.cv n).next x
        (d.modCv n fun c => { c with next := (s.dev.cv n).next + cvSlot s.dev n })))) ∧
    (cvRuns d n = true → d.getN Reg.T_ITIN.REPEAT (cvPos d n) ≤ (d.cv n).reps →
      ∃ t, exec (.adcSlot n x) s = .next t ∧ (t.dev.cv n).idle = (d.cv n).idle + 1 ∧
        (t.dev.cv n).next = (s.dev.cv n).next + cvSlot s.dev n ∧ (t.dev.cv n).due = (d.cv n).due)) := by
  refine ⟨fun s n x h => ?_, fun s n x hn hu hr ht hs => ?_, fun s n x hn hu hr ht hs => ?_⟩
  · rw [exec_adcSlot]
    split
    · next hc => rw [adcSlot_idle ((h.resolve_left (by omega)).resolve_left (by simp [hc.2]))]
    · rfl
  · rw [exec_adcSlot, if_pos ⟨hn, hu⟩, adcSlot_halts hr ht hs]
    exact ⟨rfl, cvHalt_runs s.dev n⟩
  · dsimp only
    rw [exec_adcSlot, if_pos ⟨hn, hu⟩, adcSlot_advances hr ht hs, ← itinAdvance_repeat s.dev hn 256]
    generalize itinAdvance n 256 s.dev = d
    refine ⟨fun hd => by rw [if_pos (by simp [hd])], fun hd hlt => by rw [if_neg (by simp [hd]), if_pos hlt], fun hd hge => ?_⟩
    rw [if_neg (by simp [hd]), if_neg (by omega)]
    refine ⟨_, rfl, ?_, ?_, ?_⟩
    · rw [after_cv, Dev.modCv_cv, Dev.modCv_cv]
    · rw [after_cv, Dev.modCv_cv, Dev.modCv_cv]
    · rw [after_cv, Dev.modCv_cv, Dev.modCv_cv]

/-! ## Delivery (R280 to R282, R285) -/

section
variable {e : Dev} {lo : Nat}

theorem Low.ringDrop {n : Nat} (h : Low lo e d) (hb : lo ≤ 0xF2018) : Low lo e (ringDrop n d) :=
  h.setRing.sat (hb.trans (by decide))

theorem Low.useBuffer {n st len : Nat} {b : Posted} {more : Bool} {ext : List Byte} (h : Low lo e d) (hb : lo ≤ 0xF2010) :
    Low lo e (useBuffer n b st more len ext d) := (h.setRing.setN (hb.trans (by decide))).owe

theorem Low.skipBad {n fuel : Nat} (h : Low lo e d) (hb : lo ≤ 0xF2010) : Low lo e (skipBad n fuel d) := by
  induction fuel generalizing d with
  | zero => exact h
  | succ fuel ih =>
    unfold Machine.skipBad
    split
    · exact .ite h (ih (h.useBuffer hb))
    · exact h

/-- What is delivered to a ring touches the ring's own registers alone. -/
theorem Low.deliverSt {n st : Nat} {bytes ext : List Byte} {more : Bool} (h : Low lo e d) (hb : lo ≤ 0xF2010) :
    Low lo e (deliverSt n bytes ext more st d).2 := by
  have hd : Low lo e (Machine.ringDrop n d) := h.ringDrop (by omega)
  unfold Machine.deliverSt
  dsimp only
  split
  · split
    · split
      · exact (h.useBuffer hb).skipBad hb
      · exact (Low.useBuffer (d := hostWrite _ d) (fun a ha => h a ha) hb).skipBad hb
    · exact hd
  · exact hd

theorem Low.diagSend (h : Low lo e d) (hb : lo ≤ 0xA0018) : Low lo e (diagSend d) := by
  have hs : Low lo e (deliver (d.get Reg.ADC_CTRL.DIAG_RING) d.adc.diag.flatten []
      { d with adc := { d.adc with diag := [] } }).2 :=
    Low.deliverSt (d := { d with adc := { d.adc with diag := [] } }) (fun a ha => h a ha) (by omega)
  unfold Machine.diagSend
  refine .ite h ?_
  dsimp only
  split
  · next hd => rwa [hd] at hs
  · next hd =>
    rw [hd] at hs
    exact hs.addSat hb
end

/-- The registers above ADC_CNT_DIAG and below the rings', which a diagnostic record does not touch. -/
def BetweenWord (a : Nat) : Prop := 0xA0018 < a ∧ a < 0xF2010

theorem diagSend_between (d : Dev) : Apart BetweenWord d (diagSend d) := by
  have hs : Apart BetweenWord d (deliver (d.get Reg.ADC_CTRL.DIAG_RING) d.adc.diag.flatten []
      { d with adc := { d.adc with diag := [] } }).2 :=
    (Apart.refl _ d).ofLow (Low.deliverSt (d := { d with adc := { d.adc with diag := [] } }) (fun _ _ => rfl) le_rfl)
      fun _ ha => ha.2
  unfold diagSend
  refine .ite (.refl _ d) ?_
  dsimp only
  split
  · next hd => rwa [hd] at hs
  · next hd =>
    rw [hd] at hs
    exact hs.addSat (f := Reg.ADC_CNT_DIAG.N) (fun h => absurd h.1 (by decide))

theorem diagPut_between (t : Time) (r : List Byte) (d : Dev) : Apart BetweenWord d (diagPut t r d) := by
  have hk : ∀ x : Dev, x.regs = d.regs → Apart BetweenWord d x := fun x hx => (Apart.refl _ d).ofRegs hx
  unfold diagPut
  refine .ite ((Apart.refl _ d).sat (f := Reg.ADC_CNT_DIAG.N) (fun h => absurd h.1 (by decide))) ?_
  dsimp only
  split
  · exact .ite ((hk _ rfl).trans (diagSend_between _)) (hk _ rfl)
  · exact hk _ rfl

theorem diagPut_flt (t : Time) (r : List Byte) (d : Dev) : (diagPut t r d).flt = d.flt :=
  have : Fact (StatePart.hif ∈ [StatePart.hif, .adc]) := ⟨by decide⟩
  have : Fact (StatePart.adc ∈ [StatePart.hif, .adc]) := ⟨by decide⟩
  ((Tame.refl [StatePart.hif, .adc] d).diagPut (t := t) (r := r)).stands .flt (by decide)

theorem Dev.addSat_adc (d : Dev) (f : Field) (i k : Nat) : (d.addSat f i k).adc = d.adc := rfl

theorem diagSend_diag (d : Dev) : (diagSend d).adc.diag = [] := by
  have : Fact (StatePart.hif ∈ [StatePart.hif]) := ⟨by decide⟩
  have hs : ((deliver (d.get Reg.ADC_CTRL.DIAG_RING) d.adc.diag.flatten []
      { d with adc := { d.adc with diag := [] } }).2).adc = { d.adc with diag := [] } :=
    (Tame.deliver (.refl [StatePart.hif] _)).stands .adc (by decide)
  unfold diagSend
  dsimp only
  split
  · next he => exact List.isEmpty_iff.mp he
  · split
    · next hd =>
      rw [hd] at hs
      rw [hs]
    · next hd =>
      rw [hd] at hs
      rw [Dev.addSat_adc, hs]

/-- The lane's part of a result: its sample is offered to the lane it names. -/
def resultOffer (t : Time) (n : Nat) (x : AdcDue) (d : Dev) : Dev :=
  match x.sample with
  | some (lane, code, raw, q) => laneOffer t n lane code raw q d
  | none => d

/-- The ring's part of a result: its diagnostic record joins the buffer. -/
def resultDiag (t : Time) (x : AdcDue) (d : Dev) : Dev :=
  match x.diag with
  | some r => diagPut t r d
  | none => d

theorem adcSampleDeliver_some {t : Time} {n : Nat} {x : AdcDue} {rest : List AdcDue} (h : (d.cv n).due = x :: rest) :
    adcSampleDeliver t n d = resultDiag t x (resultOffer t n x (d.modCv n fun c => { c with due := rest })) := by
  unfold adcSampleDeliver
  rw [h]
  rfl

theorem laneOffer_adc (t : Time) (n lane : Nat) (code : Option Int) (raw : Word32) (q : Nat) (d : Dev) :
    (laneOffer t n lane code raw q d).adc = d.adc := by
  unfold laneOffer
  split <;> rfl

theorem laneOffer_hif (t : Time) (n lane : Nat) (code : Option Int) (raw : Word32) (q : Nat) (d : Dev) :
    (laneOffer t n lane code raw q d).hif = d.hif := by
  unfold laneOffer
  split <;> rfl

theorem resultOffer_adc (t : Time) (n : Nat) (x : AdcDue) (d : Dev) : (resultOffer t n x d).adc = d.adc := by
  unfold resultOffer
  split
  · exact laneOffer_adc _ _ _ _ _ _ _
  · rfl

theorem resultOffer_hif (t : Time) (n : Nat) (x : AdcDue) (d : Dev) : (resultOffer t n x d).hif = d.hif := by
  unfold resultOffer
  split
  · exact laneOffer_hif _ _ _ _ _ _ _
  · rfl

theorem diagSend_cv (d : Dev) (n : Nat) : (diagSend d).cv n = d.cv n := by
  have : Fact (StatePart.hif ∈ [StatePart.hif]) := ⟨by decide⟩
  have hs : ((deliver (d.get Reg.ADC_CTRL.DIAG_RING) d.adc.diag.flatten []
      { d with adc := { d.adc with diag := [] } }).2).adc = { d.adc with diag := [] } :=
    (Tame.deliver (.refl [StatePart.hif] _)).stands .adc (by decide)
  unfold diagSend
  dsimp only
  split
  · rfl
  · split
    · next hd =>
      rw [hd] at hs
      rw [Dev.cv, hs]
      rfl
    · next hd =>
      rw [hd] at hs
      rw [Dev.cv, Dev.addSat_adc, hs]
      rfl

theorem diagPut_cv (t : Time) (r : List Byte) (d : Dev) (n : Nat) : (diagPut t r d).cv n = d.cv n := by
  unfold diagPut
  dsimp only
  split
  · rfl
  · split
    · split
      · exact diagSend_cv _ _
      · rfl
    · rfl

theorem resultDiag_cv (t : Time) (x : AdcDue) (d : Dev) (n : Nat) : (resultDiag t x d).cv n = d.cv n := by
  unfold resultDiag
  split
  · exact diagPut_cv _ _ _ _
  · rfl

theorem resultDiag_flt (t : Time) (x : AdcDue) (d : Dev) : (resultDiag t x d).flt = d.flt := by
  unfold resultDiag
  split
  · exact diagPut_flt _ _ _
  · rfl

theorem resultDiag_between (t : Time) (x : AdcDue) (d : Dev) : Apart BetweenWord d (resultDiag t x d) := by
  unfold resultDiag
  split
  · exact diagPut_between _ _ _
  · exact .refl _ d

theorem laneOffer_refused {t : Time} {n lane q : Nat} {code : Option Int} {raw : Word32}
    (h : d.getN Reg.T_LANE.SRC_SEL lane ≠ 1) : laneOffer t n lane code raw q d =
      (d.sat Reg.ADC_CVn_CNT_NOLANE.N n).sat Reg.FLT_CNT_NOLANE.N := if_pos h

theorem laneOffer_taken {t : Time} {n lane q : Nat} {code : Option Int} {raw : Word32}
    (h : d.getN Reg.T_LANE.SRC_SEL lane = 1) : (laneOffer t n lane code raw q d).flt.lanes =
      tmod d.flt.lanes lane fun l => { l with
        inq := l.inq ++ [⟨none, qInst q, (code.getD 0) * 16384, if code.isNone then some wSettling else none, false, raw⟩]
        lastLoc := t.loc } := by
  unfold laneOffer
  rw [if_neg (fun hne => hne h)]

/-- What becomes of the oldest result of a converter. -/
theorem result_delivered (s : State) (n : Nat) (x : AdcDue) (rest : List AdcDue) (hn : n < 2) (hu : s.dev.up islRaw = true)
    (hd : (s.dev.cv n).due = x :: rest) :
    ∃ t, exec (.adcSampleDeliver n) s = .next t ∧ (t.dev.cv n).due = rest ∧
      (∀ lane code raw q, x.sample = some (lane, code, raw, q) → s.dev.getN Reg.T_LANE.SRC_SEL lane ≠ 1 →
        t.dev.getN Reg.ADC_CVn_CNT_NOLANE.N n = min (s.dev.getN Reg.ADC_CVn_CNT_NOLANE.N n + 1) (2 ^ 32 - 1) ∧
        t.dev.get Reg.FLT_CNT_NOLANE.N = min (s.dev.get Reg.FLT_CNT_NOLANE.N + 1) (2 ^ 32 - 1) ∧
        t.dev.flt.lanes = s.dev.flt.lanes) ∧
      (∀ lane code raw q, x.sample = some (lane, code, raw, q) → s.dev.getN Reg.T_LANE.SRC_SEL lane = 1 →
        (tget t.dev.flt.lanes lane).inq = (tget s.dev.flt.lanes lane).inq ++
          [⟨none, qInst q, (code.getD 0) * 16384, if code.isNone then some wSettling else none, false, raw⟩] ∧
        (∀ m, m ≠ lane → tget t.dev.flt.lanes m = tget s.dev.flt.lanes m)) ∧
      (x.diag = none → t.dev.adc.diag = s.dev.adc.diag ∧ t.dev.hif.rings = s.dev.hif.rings) ∧
      (∀ r, x.diag = some r → x.sample = none →
        t = s.after (diagPut s.time r (s.dev.modCv n fun c => { c with due := rest }))) := by
  have hcv : Reg.ADC_CVn_CNT_NOLANE.N.reg.addr n = 0xA0074 + n * 0x40 := cv_addr rfl n
  rw [exec_adcSampleDeliver, if_pos ⟨hn, hu⟩, adcSampleDeliver_some hd]
  generalize hm : (s.dev.modCv n fun c => { c with due := rest }) = d0
  have hsel : ∀ lane, d0.getN Reg.T_LANE.SRC_SEL lane = s.dev.getN Reg.T_LANE.SRC_SEL lane := fun lane => by rw [← hm]; rfl
  refine ⟨_, rfl, ?_, fun lane code raw q hx hne => ?_, fun lane code raw q hx he => ?_, fun hx => ?_, fun r hr hx => ?_⟩
  · rw [after_cv, resultDiag_cv, Dev.cv, resultOffer_adc, ← hm]
    exact congrArg Cv.due (Dev.modCv_cv s.dev n _)
  · have ho : resultOffer s.time n x d0 = (d0.sat Reg.ADC_CVn_CNT_NOLANE.N n).sat Reg.FLT_CNT_NOLANE.N := by
      unfold resultOffer
      rw [hx]
      exact laneOffer_refused (by rwa [hsel])
    have hb := resultDiag_between s.time x (resultOffer s.time n x d0)
    refine ⟨?_, ?_, ?_⟩
    · rw [after_getN _ _ _ _ (notIntake_of_lt (by rw [hcv]; omega)), hb.getN (by rw [hcv]; unfold BetweenWord; omega), ho]
      refine (Dev.getN_setN_addr _ Reg.FLT_CNT_NOLANE.N _ 0 n _ (by rw [hcv]; show _ ≠ 0xB0040; omega)).trans ?_
      rw [← hm]
      exact Dev.getN_sat_same _ _ n rfl
    · rw [after_get _ _ _ (notIntake_of_lt (by decide)), hb.get (by unfold BetweenWord; decide), ho]
      refine (Dev.get_sat_same _ _ rfl).trans ?_
      rw [← hm]
      exact congrArg (fun k => min (k + 1) (2 ^ 32 - 1))
        (Dev.getN_setN_addr _ Reg.ADC_CVn_CNT_NOLANE.N Reg.FLT_CNT_NOLANE.N n 0 _ (by rw [hcv]; show 0xB0040 ≠ _; omega))
    · rw [after_flt, resultDiag_flt, ho, ← hm]
      rfl
  · have ho : (resultOffer s.time n x d0).flt.lanes = tmod s.dev.flt.lanes lane fun l => { l with
        inq := l.inq ++ [⟨none, qInst q, (code.getD 0) * 16384, if code.isNone then some wSettling else none, false, raw⟩]
        lastLoc := s.time.loc } := by
      unfold resultOffer
      rw [hx]
      refine (laneOffer_taken (by rw [hsel, he])).trans ?_
      rw [← hm]
      rfl
    rw [after_flt, resultDiag_flt, ho]
    refine ⟨by rw [tget_tmod_same], fun m hne => ?_⟩
    rw [tget_tmod, if_neg hne]
  · have hr : resultDiag s.time x (resultOffer s.time n x d0) = resultOffer s.time n x d0 := by
      unfold resultDiag
      rw [hx]
    rw [hr, after_adc, after_rings, resultOffer_adc, resultOffer_hif, ← hm]
    exact ⟨rfl, rfl⟩
  · unfold resultDiag resultOffer
    rw [hr, hx]

theorem diagFlush_commands : (∀ (s : State), s.dev.up islRaw = true → (s.dev.adc.diagFrom + 100000 ≤ s.time.loc →
      exec .diagFlush s = .next (s.after (diagSend s.dev)) ∧ (diagSend s.dev).adc.diag = []) ∧
    (s.time.loc < s.dev.adc.diagFrom + 100000 → exec .diagFlush s = .next (s.after s.dev))) ∧
  (∀ (s : State), s.dev.up islRaw = false → exec .diagFlush s = .next (s.after s.dev)) := by
  refine ⟨fun s hu => ⟨fun ht => ⟨?_, diagSend_diag s.dev⟩, fun ht => ?_⟩, fun s hu => ?_⟩
  · rw [exec_diagFlush, if_pos hu, diagFlush, if_pos ht]
  · rw [exec_diagFlush, if_pos hu, diagFlush, if_neg (by omega)]
  · rw [exec_diagFlush, if_neg (by simp [hu])]

/-- Settles O36: the reference, the starts, the slots and the delivery, each by the cases of its command. -/
theorem converters : Obligations.Converters := by
  refine ⟨reference_commands, ⟨go_commands, start_commands⟩, ?_, ?_⟩
  · obtain ⟨h1, h2, h3⟩ := slot_commands
    exact ⟨h1, h2, h3, fun d n h => itinAdvance_stays h, convert_sums⟩
  · refine ⟨fun s n h => ?_, result_delivered, diagFlush_commands⟩
    rw [exec_adcSampleDeliver]
    split
    · next hc =>
      have hd := (h.resolve_left (by omega)).resolve_left (by simp [hc.2])
      unfold adcSampleDeliver
      rw [hd]
    · rfl

end Sys2Proof.Machine

/-!
PROOFS. Raw lanes: samples, enabling, synchronising resets, and coefficient swaps (R289 to R322).
-/

namespace Sys2Proof.Machine

open Sys2Proof

variable {d : Dev}

theorem exec_fadeEnd (lane : Nat) (s : State) :
    exec (.fadeEnd lane) s = .next (s.after (if lane < 512 ∧ s.dev.up islRaw then fadeEnd lane s.dev else s.dev)) := rfl

theorem exec_laneEnable (lane : Nat) (v : Word32) (s : State) :
    exec (.laneEnable lane v) s =
      .next (s.after (if lane < 512 then onWrite 0x270000 (laneEnable s.time lane v) s.dev else s.dev)) := rfl

theorem exec_laneInputTimeout (lane : Nat) (s : State) :
    exec (.laneInputTimeout lane) s =
      .next (s.after (if lane < 512 ∧ s.dev.up islRaw then laneInputTimeout s.time lane s.dev else s.dev)) := rfl

theorem exec_laneSample (lane : Nat) (s : State) :
    exec (.laneSample lane) s =
      .next (s.after (if lane < 512 ∧ s.dev.up islRaw then laneInput lane s.dev else s.dev)) := rfl

theorem exec_laneSyncRequest (lane : Nat) (s : State) :
    exec (.laneSyncRequest lane) s =
      .next (s.after (if lane < 512 then onWrite 0x278000 (laneSyncRequest lane) s.dev else s.dev)) := rfl

theorem exec_swapGo (v : Word32) (s : State) :
    exec (.swapGo v) s = .next (s.after (onWrite 0xB0020 (swapGo v) s.dev)) := rfl

/-- A lane at the centre of its next estimate. -/
def swapAt (n : Nat) (d : Dev) : Option Nat → Dev
  | some c => if n < 512 ∧ d.up islRaw then swapStart n c (fadeEnd n d) else d
  | none => d

theorem exec_swapStart (lane : Nat) (s : State) :
    exec (.swapStart lane) s = .next (s.after (swapAt lane s.dev (nextCentre s.dev lane))) := by
  have h : exec (.swapStart lane) s = .next (s.after (match nextCentre s.dev lane with
    | some c => if lane < 512 ∧ s.dev.up islRaw then swapStart lane c (fadeEnd lane s.dev) else s.dev
    | none => s.dev)) := rfl
  rw [h]
  cases nextCentre s.dev lane <;> rfl

/-! ## The words of a lane -/

theorem notIntake_between {a : Nat} (h : 0x120018 ≤ a) (h' : a < 0x3C0004) : ¬ intakeWord a := by
  rintro (h1 | h1 | h1 | h1 | ⟨c, -, h1⟩) <;> omega

theorem Apart.putWord {W : Nat → Prop} {e : Dev} {a : Nat} {v : Word32} (h : Apart W e d) (ha : ¬ W a) :
    Apart W e (d.putWord a v) := fun b hb => by
  rw [← h b hb]
  simp [Dev.word, Dev.putWord, rword_rput, show b ≠ a from fun he => ha (he ▸ hb)]

theorem laneOn_addr (n : Nat) : Reg.T_LANE.EN.reg.addr n = 0x270000 + n * 0x40 := RegAt.addr_single rfl n
theorem laneStat_addr (n : Nat) : At.T_LANESTAT_0.addr n = 0x278000 + n * 0x10 := RegAt.addr_single rfl n
theorem laneSettle_addr (n : Nat) : At.FLT_SETTLE_LANEn.addr n = 0xB1000 + n * 4 := RegAt.addr_single rfl n

theorem laneOn_notIntake {n : Nat} (hn : n < 512) : ¬ intakeWord (Reg.T_LANE.EN.reg.addr n) := by
  rw [laneOn_addr]
  exact notIntake_between (by omega) (by omega)

theorem laneStat_notIntake {n : Nat} (hn : n < 512) : ¬ intakeWord (At.T_LANESTAT_0.addr n) := by
  rw [laneStat_addr]
  exact notIntake_between (by omega) (by omega)

theorem after_laneOn (s : State) (d : Dev) {n : Nat} (hn : n < 512) : laneOn (s.after d).dev n = laneOn d n :=
  after_onN s d _ _ (laneOn_notIntake hn)

@[simp] theorem after_lane (s : State) (d : Dev) (n : Nat) : (s.after d).dev.lane n = d.lane n := by
  simp [Dev.lane]

@[simp] theorem Dev.setN_lane (d : Dev) (f : Field) (i v m : Nat) : (d.setN f i v).lane m = d.lane m := rfl
@[simp] theorem Dev.set_lane (d : Dev) (f : Field) (v m : Nat) : (d.set f v).lane m = d.lane m := rfl
@[simp] theorem Dev.putWord_lane (d : Dev) (a : Nat) (v : Word32) (m : Nat) : (d.putWord a v).lane m = d.lane m := rfl

@[simp] theorem Dev.cause_lane (d : Dev) (b : IntBlk) (k i x m : Nat) : (d.cause b k i x).lane m = d.lane m := by
  simp [Dev.lane]

/-! ## STATE and a synchronising reset (R311) -/

@[simp] theorem laneState_lane (n st : Nat) (d : Dev) (m : Nat) : (laneState n st d).lane m = d.lane m := rfl

theorem laneState_state {n : Nat} (hn : n < 512) (st : Nat) (d : Dev) :
    (laneState n st d).getN Reg.T_LANESTAT.STATE n = st % 4 := by
  unfold laneState
  refine (Dev.getN_setN_addr _ Reg.FLT_STAT.LANES_RUN _ 0 n _ ?_).trans (Dev.getN_setN_same _ _ _ _ rfl)
  show At.T_LANESTAT_0.addr n ≠ 0xB0004
  rw [laneStat_addr]
  omega

/-- The other fields of a lane's status word stand while STATE moves. -/
theorem laneState_stat {n : Nat} (hn : n < 512) (st : Nat) (d : Dev) {f : Field} (hr : f.reg = At.T_LANESTAT_0)
    (hf : f.fits = true) (h : Reg.T_LANESTAT.STATE.apart f = true) : (laneState n st d).getN f n = d.getN f n := by
  unfold laneState
  refine (Dev.getN_setN_addr _ Reg.FLT_STAT.LANES_RUN _ 0 n _ ?_).trans (Dev.getN_setN_apart _ _ _ _ _ _ rfl hf h)
  show f.reg.addr n ≠ 0xB0004
  rw [hr, laneStat_addr]
  omega

/-- A lane after a synchronising reset. -/
def LaneSt.synced (x : LaneSt) : LaneSt :=
  { x with
    q := none, sync := true, p0 := none, ma := [], fir := [], xs := [], taints := [], offs := [], fade := none
    active := (match x.fade with
      | some (b, _, _) => b
      | none => x.active)
    satNow := false, iq := { (default : IqBuf) with lost := true } }

theorem laneSync_lane (n : Nat) (d : Dev) : (laneSync n d).lane n = (d.lane n).synced := by
  unfold laneSync
  dsimp only
  rw [laneState_lane, Dev.setN_lane, Dev.setN_lane, Dev.setN_lane, Dev.modLane_lane]
  rfl

theorem laneSync_lane_other (n : Nat) (d : Dev) {m : Nat} (h : m ≠ n) : (laneSync n d).lane m = d.lane m := by
  unfold laneSync
  dsimp only
  rw [laneState_lane, Dev.setN_lane, Dev.setN_lane, Dev.setN_lane, Dev.modLane_lane_other _ _ _ h]

theorem laneSync_state {n : Nat} (hn : n < 512) (d : Dev) : (laneSync n d).getN Reg.T_LANESTAT.STATE n = 1 :=
  laneState_state hn 1 _

theorem laneStat_ne_settle {n m : Nat} (hm : m < 512) : At.T_LANESTAT_0.addr n ≠ At.FLT_SETTLE_LANEn.addr m := by
  rw [laneStat_addr, laneSettle_addr]
  omega

theorem laneSync_fading {n : Nat} (hn : n < 512) (d : Dev) : (laneSync n d).getN Reg.T_LANESTAT.FADING n = 0 := by
  unfold laneSync
  dsimp only
  rw [laneState_stat hn _ _ rfl rfl rfl,
    Dev.getN_setN_addr _ Reg.FLT_SETTLE_LANEn.REMAIN _ _ _ _ (laneStat_ne_settle hn)]
  exact Dev.getN_setN_same _ _ _ _ rfl

/-- EN_STATUS stands through a synchronising reset. -/
theorem laneSync_enStatus {n : Nat} (hn : n < 512) (d : Dev) :
    (laneSync n d).getN Reg.T_LANESTAT.EN_STATUS n = d.getN Reg.T_LANESTAT.EN_STATUS n := by
  unfold laneSync
  dsimp only
  rw [laneState_stat hn _ _ rfl rfl rfl,
    Dev.getN_setN_addr _ Reg.FLT_SETTLE_LANEn.REMAIN _ _ _ _ (laneStat_ne_settle hn),
    Dev.getN_setN_apart _ Reg.T_LANESTAT.FADING _ _ _ _ rfl rfl rfl,
    Dev.getN_setN_apart _ Reg.T_LANESTAT.ACTIVE _ _ _ _ rfl rfl rfl, Dev.modLane_getN]

/-- The entries of the lanes, but word 0 of lane n. -/
def LaneEntry (n : Nat) (a : Nat) : Prop := 0x270000 ≤ a ∧ a < 0x278000 ∧ a ≠ 0x270000 + n * 0x40

/-- The entries of the lanes. -/
def LaneTable (a : Nat) : Prop := 0x270000 ≤ a ∧ a < 0x278000

section
variable {W : Nat → Prop} {e : Dev} {n : Nat}

theorem Apart.laneState {st : Nat} (h : Apart W e d) (hs : ¬ W (At.T_LANESTAT_0.addr n)) (hr : ¬ W 0xB0004) :
    Apart W e (laneState n st d) := (h.setN (f := Reg.T_LANESTAT.STATE) hs).set (f := Reg.FLT_STAT.LANES_RUN) hr

theorem Apart.laneSync (h : Apart W e d) (hs : ¬ W (At.T_LANESTAT_0.addr n)) (hr : ¬ W 0xB0004)
    (hl : ¬ W (At.FLT_SETTLE_LANEn.addr n)) : Apart W e (laneSync n d) := by
  unfold Machine.laneSync
  exact (Apart.setN (f := Reg.FLT_SETTLE_LANEn.REMAIN) (Apart.setN (f := Reg.T_LANESTAT.FADING)
    (Apart.setN (f := Reg.T_LANESTAT.ACTIVE) (h.ofRegs (Dev.modLane_regs d n _)) hs) hs) hl).laneState hs hr

theorem Apart.showBudgets (h : Apart W e d) (hi : ¬ W 0xB0010) (hm : ¬ W 0xB0014) (hh : ¬ W 0xB0018) :
    Apart W e (showBudgets d) :=
  ((h.set (f := Reg.FLT_BUDGET_IN.KSPS) hi).set (f := Reg.FLT_BUDGET_MAC.MMAC) hm).set (f := Reg.FLT_BUDGET_HIST.WORDS) hh
end

@[simp] theorem showBudgets_lane (d : Dev) (m : Nat) : (showBudgets d).lane m = d.lane m := rfl

theorem laneSync_shows (d : Dev) (n : Nat) (hn : n < 512) : ((laneSync n d).lane n).p0 = none ∧
    ((laneSync n d).lane n).sync = true ∧ ((laneSync n d).lane n).fir = [] ∧ ((laneSync n d).lane n).fade = none ∧
    ((laneSync n d).lane n).pend = (d.lane n).pend ∧ ((laneSync n d).lane n).outs = (d.lane n).outs ∧
    (laneSync n d).getN Reg.T_LANESTAT.STATE n = 1 ∧ (laneSync n d).getN Reg.T_LANESTAT.FADING n = 0 := by
  rw [laneSync_lane, laneSync_state hn, laneSync_fading hn]
  exact ⟨rfl, rfl, rfl, rfl, rfl, rfl, rfl, rfl⟩

/-! ## Samples (R289, R290, R294, R295, R312) -/

/-- Does the lane take the sample's source? -/
def laneRight (d : Dev) (n : Nat) (x : LaneSmp) : Bool :=
  match x.stream with
  | none => d.getN Reg.T_LANE.SRC_SEL n == 1
  | some v => d.getN Reg.T_LANE.SRC_SEL n == 2 && d.getN Reg.T_LANE.SV_STREAM n == v

theorem laneInput_some {n : Nat} {x : LaneSmp} {rest : List LaneSmp} (h : (d.lane n).inq = x :: rest) : laneInput n d =
    if !laneRight d n x || !laneOn d n then (d.modLane n fun l => { l with inq := rest }).sat Reg.FLT_CNT_NOLANE.N
    else if !d.on Reg.FLT_CTRL.EN || laneFs d n == 0 then d.modLane n fun l => { l with inq := rest }
    else laneTake n x (d.modLane n fun l => { l with inq := rest }) := by
  unfold laneInput
  rw [h]
  rfl

theorem sample_commands (s : State) (n : Nat) (x : LaneSmp) (rest : List LaneSmp) (hn : n < 512)
    (hu : s.dev.up islRaw = true) (hx : (s.dev.lane n).inq = x :: rest) :
    ∃ d, d = s.dev.modLane n (fun l => { l with inq := rest }) ∧
      (laneOn s.dev n = false → exec (.laneSample n) s = .next (s.after (d.sat Reg.FLT_CNT_NOLANE.N))) ∧
      (x.stream = none → s.dev.getN Reg.T_LANE.SRC_SEL n ≠ 1 →
        exec (.laneSample n) s = .next (s.after (d.sat Reg.FLT_CNT_NOLANE.N))) ∧
      (∀ v, x.stream = some v → s.dev.getN Reg.T_LANE.SRC_SEL n ≠ 2 ∨ s.dev.getN Reg.T_LANE.SV_STREAM n ≠ v →
        exec (.laneSample n) s = .next (s.after (d.sat Reg.FLT_CNT_NOLANE.N))) ∧
      ((x.stream = none ∧ s.dev.getN Reg.T_LANE.SRC_SEL n = 1) ∨
          (x.stream = some (s.dev.getN Reg.T_LANE.SV_STREAM n) ∧ s.dev.getN Reg.T_LANE.SRC_SEL n = 2) →
        laneOn s.dev n = true →
        (s.dev.on Reg.FLT_CTRL.EN = true → laneFs s.dev n ≠ 0 → exec (.laneSample n) s = .next (s.after (laneTake n x d))) ∧
        (s.dev.on Reg.FLT_CTRL.EN = false ∨ laneFs s.dev n = 0 → exec (.laneSample n) s = .next (s.after d))) := by
  rw [exec_laneSample, if_pos ⟨hn, hu⟩, laneInput_some hx]
  have hno : (laneRight s.dev n x = false ∨ laneOn s.dev n = false) →
      (!laneRight s.dev n x || !laneOn s.dev n) = true := fun h => by
    rcases h with h | h <;> simp [h]
  refine ⟨_, rfl, fun h => ?_, fun hs h => ?_, fun v hs h => ?_, fun h ho => ?_⟩
  · rw [if_pos (hno (.inr h))]
  · rw [if_pos (hno (.inl (by simp [laneRight, hs, h])))]
  · rw [if_pos (hno (.inl (by rcases h with h | h <;> simp [laneRight, hs, h])))]
  · have hr : laneRight s.dev n x = true := by
      rcases h with ⟨hs, h⟩ | ⟨hs, h⟩ <;> simp [laneRight, hs, h]
    rw [if_neg (by simp [hr, ho])]
    exact ⟨fun he hf => by rw [if_neg (by simp [he, hf])], fun h => by rw [if_pos (by rcases h with h | h <;> simp [h])]⟩

theorem laneTake_resync {n : Nat} {x : LaneSmp} (h : d.getN Reg.T_LANESTAT.STATE n = 3) :
    laneTake n x d = laneRestart n (lanePos (laneFs d n) x.inst) x
      ((laneSync n (d.modLane n fun l => { l with tq := x.tq })).cause intFlt 3 0 0) := if_pos h

/-- A sample between a first and a last position of the lane. -/
theorem laneTake_placed {n p q : Nat} {x : LaneSmp} (h : d.getN Reg.T_LANESTAT.STATE n ≠ 3) (hp : (d.lane n).p0 = some p)
    (hq : (d.lane n).q = some q) :
    (lanePos (laneFs d n) x.inst = q → laneTake n x d = (d.modLane n fun l => { l with tq := x.tq }).sat Reg.FLT_CNT_DUPSMP.N) ∧
    (lanePos (laneFs d n) x.inst = q + 1 → laneTake n x d =
      laneFeed n (q + 1) x (d.modLane n fun l => { l with tq := x.tq })) := by
  have hp' : ((d.modLane n fun l => { l with tq := x.tq }).lane n).p0 = some p := by rw [Dev.modLane_lane]; exact hp
  have hq' : ((d.modLane n fun l => { l with tq := x.tq }).lane n).q = some q := by rw [Dev.modLane_lane]; exact hq
  unfold laneTake
  dsimp only
  rw [if_neg (by exact h), hp', hq']
  dsimp only
  exact ⟨fun he => by rw [if_neg (by omega), if_pos he], fun he => by rw [if_pos he, he]⟩

theorem laneTake_waiting {n : Nat} {x : LaneSmp} (h : d.getN Reg.T_LANESTAT.STATE n ≠ 3) (hp : (d.lane n).p0 = none)
    (hg : lanePos (laneFs d n) x.inst % max 1 (restartStep d n) ≠ 0) :
    laneTake n x d = (d.modLane n fun l => { l with tq := x.tq }).sat Reg.FLT_CNT_SYNC.N := by
  have hp' : ((d.modLane n fun l => { l with tq := x.tq }).lane n).p0 = none := by rw [Dev.modLane_lane]; exact hp
  unfold laneTake
  dsimp only
  rw [if_neg (by exact h), hp']
  exact if_pos hg

theorem timeout_commands : (∀ (s : State) (n : Nat), n < 512 → s.dev.up islRaw = true → laneOn s.dev n = true →
    laneFs s.dev n ≠ 0 → s.dev.on Reg.FLT_CTRL.EN = true →
    ((s.dev.lane n).lastLoc + s.dev.get Reg.FLT_CTRL.IN_TMO * 1000 ≤ s.time.loc →
      exec (.laneInputTimeout n) s = .next (s.after (laneState n 3 s.dev)) ∧
        (laneState n 3 s.dev).getN Reg.T_LANESTAT.STATE n = 3) ∧
    (s.time.loc < (s.dev.lane n).lastLoc + s.dev.get Reg.FLT_CTRL.IN_TMO * 1000 →
      exec (.laneInputTimeout n) s = .next (s.after s.dev))) ∧
  (∀ (s : State) (n : Nat), 512 ≤ n ∨ s.dev.up islRaw = false ∨ laneOn s.dev n = false ∨ laneFs s.dev n = 0 ∨
    s.dev.on Reg.FLT_CTRL.EN = false → exec (.laneInputTimeout n) s = .next (s.after s.dev)) := by
  refine ⟨fun s n hn hu ho hf he => ?_, fun s n h => ?_⟩
  · rw [exec_laneInputTimeout, if_pos ⟨hn, hu⟩]
    refine ⟨fun ht => ⟨?_, laneState_state hn 3 s.dev⟩, fun ht => ?_⟩
    · rw [laneInputTimeout, if_pos (by simp [ho, hf, he, ht])]
    · rw [laneInputTimeout, if_neg (by simp [ho, hf, he, ht])]
  · rw [exec_laneInputTimeout]
    split
    · next hc =>
      have h' := (h.resolve_left (by omega)).resolve_left (by simp [hc.2])
      rw [laneInputTimeout, if_neg (by rcases h' with h' | h' | h' <;> simp [h'])]
    · rfl

/-! ## Enabling (R315, R316) -/

/-- A lane that has been switched on, before its chain is reset. -/
def laneStarted (t : Time) (n st : Nat) (d : Dev) : Dev :=
  (laneChanged t n ((d.setN Reg.T_LANESTAT.EN_STATUS n st).setN Reg.T_LANE.EN n 1)).modLane n fun l =>
    { l with active := (d.setN Reg.T_LANESTAT.EN_STATUS n st).getN Reg.T_LANE.BANK n, fade := none, lastLoc := t.loc }

/-- A lane that starts: it waits for its first sample, and its settling outputs are shown where the grid fixes them. -/
def laneWaits (n : Nat) (d : Dev) : Dev :=
  if laneFs (laneSync n (showBudgets d)) n % max 1 (laneRate (laneSync n (showBudgets d)) n) = 0 then
    (laneSync n (showBudgets d)).setN Reg.FLT_SETTLE_LANEn.N n (settleOutputs (laneSync n (showBudgets d)) n 0)
  else laneSync n (showBudgets d)

/-- A lane that is switched off. -/
def laneStopped (t : Time) (n : Nat) (d : Dev) : Dev :=
  showBudgets (((laneState n 0 (laneChanged t n (d.setN Reg.T_LANE.EN n 0))).modLane n fun l =>
    { l with outs := [], iq := default }).setN Reg.FLT_SETTLE_LANEn.REMAIN n 0)

theorem laneEnable_off {t : Time} {n : Nat} {v : Word32} (h : laneOn d n = false) : laneEnable t n v d =
    if !bitOf v 0 then d.putUnvalid (Reg.T_LANE.EN.reg.addr n) v
    else if laneCheck (d.putUnvalid (Reg.T_LANE.EN.reg.addr n) v) n ≠ stOk ∧
        laneCheck (d.putUnvalid (Reg.T_LANE.EN.reg.addr n) v) n ≠ stSkipped then
      ((d.putUnvalid (Reg.T_LANE.EN.reg.addr n) v).setN Reg.T_LANESTAT.EN_STATUS n
        (laneCheck (d.putUnvalid (Reg.T_LANE.EN.reg.addr n) v) n)).cause intFlt 0 0 0
    else if laneCheck (d.putUnvalid (Reg.T_LANE.EN.reg.addr n) v) n = stSkipped then
      (laneStarted t n (laneCheck (d.putUnvalid (Reg.T_LANE.EN.reg.addr n) v) n)
        (d.putUnvalid (Reg.T_LANE.EN.reg.addr n) v)).setN Reg.T_LANESTAT.ACTIVE n
          (((d.putUnvalid (Reg.T_LANE.EN.reg.addr n) v).setN Reg.T_LANESTAT.EN_STATUS n
            (laneCheck (d.putUnvalid (Reg.T_LANE.EN.reg.addr n) v) n)).getN Reg.T_LANE.BANK n)
    else laneWaits n (laneStarted t n (laneCheck (d.putUnvalid (Reg.T_LANE.EN.reg.addr n) v) n)
      (d.putUnvalid (Reg.T_LANE.EN.reg.addr n) v)) := if_neg (by simp [h])

theorem laneEnable_on_kept {t : Time} {n : Nat} {v : Word32} (h : laneOn d n = true) (hv : bitOf v 0 = true) :
    laneEnable t n v d = d.cause intFlt 0 0 0 := by
  unfold laneEnable
  rw [if_pos h]
  dsimp only
  rw [if_pos hv, if_neg (by simp [hv])]
  rfl

theorem laneEnable_on_stops {t : Time} {n : Nat} {v : Word32} (h : laneOn d n = true) (hv : bitOf v 0 = false) :
    ∃ d1, (d1 = d ∨ d1 = d.cause intFlt 0 0 0) ∧ laneEnable t n v d = laneStopped t n d1 := by
  unfold laneEnable
  rw [if_pos h]
  dsimp only
  rw [if_neg (by simp [hv])]
  refine ⟨_, ?_, rfl⟩
  split
  · exact .inl rfl
  · exact .inr rfl

theorem laneStarted_lane (t : Time) (n st : Nat) (d : Dev) : ((laneStarted t n st d).lane n).active =
      (d.setN Reg.T_LANESTAT.EN_STATUS n st).getN Reg.T_LANE.BANK n ∧ ((laneStarted t n st d).lane n).fade = none := by
  unfold laneStarted
  rw [Dev.modLane_lane]
  exact ⟨rfl, rfl⟩

theorem laneStarted_lane_other (t : Time) (n st : Nat) (d : Dev) {m : Nat} (h : m ≠ n) :
    (laneStarted t n st d).lane m = d.lane m := by
  unfold laneStarted laneChanged
  rw [Dev.modLane_lane_other _ _ _ h, Dev.modLane_lane_other _ _ _ h]
  rfl

theorem laneStarted_on (t : Time) (n st : Nat) (d : Dev) : laneOn (laneStarted t n st d) n = true :=
  Dev.onN_setN_same (d.setN Reg.T_LANESTAT.EN_STATUS n st) Reg.T_LANE.EN n 1 rfl

theorem laneStarted_enStatus (t : Time) {n st : Nat} (hn : n < 512) (hs : st < 256) (d : Dev) :
    (laneStarted t n st d).getN Reg.T_LANESTAT.EN_STATUS n = st := by
  refine (Dev.getN_setN_addr _ Reg.T_LANE.EN Reg.T_LANESTAT.EN_STATUS n n 1 ?_).trans
    ((Dev.getN_setN_same _ _ _ _ rfl).trans (Nat.mod_eq_of_lt hs))
  show At.T_LANESTAT_0.addr n ≠ _
  rw [laneStat_addr, laneOn_addr]
  omega

section
variable {n : Nat} (hn : n < 512)
include hn

theorem bank_setEnStatus (d : Dev) (st : Nat) :
    (d.setN Reg.T_LANESTAT.EN_STATUS n st).getN Reg.T_LANE.BANK n = d.getN Reg.T_LANE.BANK n := by
  refine Dev.getN_setN_addr _ _ _ _ _ _ ?_
  show At.T_LANE_5.addr n ≠ At.T_LANESTAT_0.addr n
  rw [laneStat_addr, RegAt.addr_single (r := At.T_LANE_5) rfl]
  omega

theorem laneStarted_entries (t : Time) (st : Nat) (d : Dev) : Apart (LaneEntry n) d (laneStarted t n st d) := by
  refine (Apart.setN (f := Reg.T_LANE.EN) (Apart.setN (f := Reg.T_LANESTAT.EN_STATUS) (.refl _ d) ?_) ?_).ofRegs rfl
  · show ¬ LaneEntry n (At.T_LANESTAT_0.addr n)
    rw [laneStat_addr]
    unfold LaneEntry
    omega
  · rw [laneOn_addr]
    unfold LaneEntry
    omega

theorem laneWaits_table (d : Dev) : Apart LaneTable d (laneWaits n d) := by
  have hs : ¬ LaneTable (At.T_LANESTAT_0.addr n) := by rw [laneStat_addr]; unfold LaneTable; omega
  have hl : ¬ LaneTable (At.FLT_SETTLE_LANEn.addr n) := by rw [laneSettle_addr]; unfold LaneTable; omega
  have h0 : ¬ LaneTable 0xB0004 := by unfold LaneTable; omega
  have h1 : ¬ LaneTable 0xB0010 := by unfold LaneTable; omega
  have h2 : ¬ LaneTable 0xB0014 := by unfold LaneTable; omega
  have h3 : ¬ LaneTable 0xB0018 := by unfold LaneTable; omega
  have hb : Apart LaneTable d (showBudgets d) := (Apart.refl LaneTable d).showBudgets h1 h2 h3
  unfold laneWaits
  generalize showBudgets d = x at hb ⊢
  have h : Apart LaneTable d (laneSync n x) := hb.laneSync hs h0 hl
  split
  · exact h.setN (f := Reg.FLT_SETTLE_LANEn.N) hl
  · exact h

omit hn in
theorem laneWaits_lane (d : Dev) : (laneWaits n d).lane n = (d.lane n).synced := by
  unfold laneWaits
  split
  · rw [Dev.setN_lane, laneSync_lane, showBudgets_lane]
  · rw [laneSync_lane, showBudgets_lane]

omit hn in
theorem laneWaits_lane_other (d : Dev) {m : Nat} (h : m ≠ n) : (laneWaits n d).lane m = d.lane m := by
  unfold laneWaits
  split
  · rw [Dev.setN_lane, laneSync_lane_other _ _ h, showBudgets_lane]
  · rw [laneSync_lane_other _ _ h, showBudgets_lane]

theorem laneWaits_stat (d : Dev) {f : Field} (hf : f.reg = At.T_LANESTAT_0) :
    (laneWaits n d).getN f n = (laneSync n (showBudgets d)).getN f n := by
  unfold laneWaits
  split
  · refine Dev.getN_setN_addr _ Reg.FLT_SETTLE_LANEn.N _ _ _ _ ?_
    rw [hf]
    exact laneStat_ne_settle hn
  · rfl

theorem showBudgets_enStatus (d : Dev) :
    (showBudgets d).getN Reg.T_LANESTAT.EN_STATUS n = d.getN Reg.T_LANESTAT.EN_STATUS n := by
  have ha : At.T_LANESTAT_0.addr n = 0x278000 + n * 0x10 := laneStat_addr n
  refine ((Apart.refl (· = At.T_LANESTAT_0.addr n) d).showBudgets ?_ ?_ ?_).getN rfl
  all_goals rw [ha]; omega

end

/-- Word 0 of a lane's entry, written while the lane is off, leaves the other entries. -/
theorem putUnvalid_entries (d : Dev) (n : Nat) (v : Word32) :
    Apart (LaneEntry n) d (d.putUnvalid (0x270000 + n * 64) v) :=
  Apart.putWord (.refl _ d) fun h => h.2.2 rfl

theorem Apart.laneOn {e : Dev} {n m : Nat} (h : Apart (LaneEntry n) e d) (hm : m < 512) (hne : m ≠ n) :
    laneOn d m = Machine.laneOn e m := h.onN (by rw [laneOn_addr]; unfold LaneEntry; omega)

theorem enabled_commands (s : State) (n : Nat) (v : Word32) (hn : n < 512) (hu : s.dev.up islRaw = true)
    (ho : laneOn s.dev n = false) (hv : bitOf v 0 = true) :
    ∃ d, d = s.dev.putUnvalid (0x270000 + n * 64) v ∧
      (laneCheck d n ≠ stOk → laneCheck d n ≠ stSkipped → exec (.laneEnable n v) s =
        .next (s.after ((d.setN Reg.T_LANESTAT.EN_STATUS n (laneCheck d n)).cause intFlt 0 0 0))) ∧
      (laneCheck d n = stOk → ∃ t, exec (.laneEnable n v) s = .next t ∧ laneOn t.dev n = true ∧
        t.dev.getN Reg.T_LANESTAT.EN_STATUS n = stOk ∧ t.dev.getN Reg.T_LANESTAT.STATE n = 1 ∧
        (t.dev.lane n).active = d.getN Reg.T_LANE.BANK n ∧ (t.dev.lane n).fade = none ∧ (t.dev.lane n).sync = true ∧
        (∀ m, m < 512 → m ≠ n → laneOn t.dev m = laneOn s.dev m ∧ t.dev.lane m = s.dev.lane m)) ∧
      (laneCheck d n = stSkipped → ∃ t, exec (.laneEnable n v) s = .next t ∧ laneOn t.dev n = true ∧
        t.dev.getN Reg.T_LANESTAT.EN_STATUS n = stSkipped ∧ (t.dev.lane n).active = d.getN Reg.T_LANE.BANK n) := by
  have hu' : s.dev.up (islandOf 0x270000) = true := hu
  rw [exec_laneEnable, if_pos hn, onWrite_up (laneEnable s.time n v) hu', laneEnable_off ho, if_neg (by simp [hv]), laneOn_addr]
  have hd := putUnvalid_entries s.dev n v
  have hl : ∀ m, (s.dev.putUnvalid (0x270000 + n * 64) v).lane m = s.dev.lane m := fun _ => rfl
  generalize s.dev.putUnvalid (0x270000 + n * 64) v = d at hd hl
  refine ⟨d, rfl, fun h1 h2 => by rw [if_pos ⟨h1, h2⟩], fun h => ?_, fun h => ?_⟩
  · rw [h, if_neg (by decide), if_neg (by decide)]
    have hst := laneStarted_entries hn s.time stOk d
    have hon := laneStarted_on s.time n stOk d
    have hen := laneStarted_enStatus s.time hn (by decide : stOk < 256) d
    have hla := laneStarted_lane s.time n stOk d
    have hlo := fun m => laneStarted_lane_other s.time n stOk d (m := m)
    rw [bank_setEnStatus hn] at hla
    generalize laneStarted s.time n stOk d = x at hst hon hen hla hlo ⊢
    have hw := laneWaits_table hn x
    refine ⟨_, rfl, ?_, ?_, ?_, ?_, ?_, ?_, fun m hm hne => ⟨?_, ?_⟩⟩
    · rw [after_laneOn _ _ hn]
      exact (hw.onN (by rw [laneOn_addr]; unfold LaneTable; omega)).trans hon
    · rw [after_getN _ _ _ _ (laneStat_notIntake hn), laneWaits_stat hn x rfl, laneSync_enStatus hn,
        showBudgets_enStatus hn, hen]
    · rw [after_getN _ _ _ _ (laneStat_notIntake hn), laneWaits_stat hn x rfl, laneSync_state hn]
    · rw [after_lane, laneWaits_lane, LaneSt.synced, hla.2, ← hla.1]
    · rw [after_lane, laneWaits_lane]
      rfl
    · rw [after_lane, laneWaits_lane]
      rfl
    · rw [after_laneOn _ _ hm]
      refine (hw.onN (by rw [laneOn_addr]; unfold LaneTable; omega)).trans ?_
      exact (hd.trans hst).laneOn hm hne
    · rw [after_lane, laneWaits_lane_other _ hne, hlo m hne, hl]
  · rw [h, if_neg (by decide), if_pos rfl, bank_setEnStatus hn]
    refine ⟨_, rfl, ?_, ?_, ?_⟩
    · rw [after_laneOn _ _ hn]
      refine (Dev.onN_setN_addr _ Reg.T_LANESTAT.ACTIVE _ _ _ _ ?_).trans (laneStarted_on s.time n stSkipped d)
      show _ ≠ At.T_LANESTAT_0.addr n
      rw [laneOn_addr, laneStat_addr]
      omega
    · rw [after_getN _ _ _ _ (laneStat_notIntake hn), Dev.getN_setN_apart _ _ _ _ _ _ rfl rfl rfl]
      exact laneStarted_enStatus s.time hn (by decide) d
    · rw [after_lane, Dev.setN_lane, (laneStarted_lane s.time n stSkipped d).1, bank_setEnStatus hn]

theorem laneStopped_lane (t : Time) (n : Nat) (d : Dev) : ((laneStopped t n d).lane n).outs = [] := by
  unfold laneStopped
  rw [showBudgets_lane, Dev.setN_lane, Dev.modLane_lane]

theorem laneStopped_shows (t : Time) {n : Nat} (hn : n < 512) (d : Dev) : laneOn (laneStopped t n d) n = false ∧
    (laneStopped t n d).getN Reg.T_LANESTAT.STATE n = 0 ∧ Apart (LaneEntry n) d (laneStopped t n d) := by
  have h0 : ¬ LaneTable 0xB0004 := by unfold LaneTable; omega
  have h1 : ¬ LaneTable 0xB0010 := by unfold LaneTable; omega
  have h2 : ¬ LaneTable 0xB0014 := by unfold LaneTable; omega
  have h3 : ¬ LaneTable 0xB0018 := by unfold LaneTable; omega
  have hs : ¬ LaneTable (At.T_LANESTAT_0.addr n) := by rw [laneStat_addr]; unfold LaneTable; omega
  have hl : ¬ LaneTable (At.FLT_SETTLE_LANEn.addr n) := by rw [laneSettle_addr]; unfold LaneTable; omega
  have ha : At.T_LANESTAT_0.addr n = 0x278000 + n * 0x10 := laneStat_addr n
  have hc : laneChanged t n (d.setN Reg.T_LANE.EN n 0) = (d.setN Reg.T_LANE.EN n 0).modLane n fun l =>
    { l with enAt := some t.loc } := rfl
  unfold laneStopped
  have hx : Apart LaneTable (d.setN Reg.T_LANE.EN n 0) (laneChanged t n (d.setN Reg.T_LANE.EN n 0)) :=
    (Apart.refl _ _).ofRegs (by rw [hc, Dev.modLane_regs])
  generalize laneChanged t n (d.setN Reg.T_LANE.EN n 0) = x at hx ⊢
  have hst := laneState_state hn 0 x
  have hy : Apart LaneTable x (laneState n 0 x) := (Apart.refl _ x).laneState hs h0
  generalize laneState n 0 x = y at hst hy ⊢
  have hz : Apart LaneTable y ((y.modLane n fun l => { l with outs := [], iq := default }).setN
      Reg.FLT_SETTLE_LANEn.REMAIN n 0) :=
    ((Apart.refl _ y).ofRegs (Dev.modLane_regs y n _)).setN (f := Reg.FLT_SETTLE_LANEn.REMAIN) hl
  have hzs : ((y.modLane n fun l => { l with outs := [], iq := default }).setN
      Reg.FLT_SETTLE_LANEn.REMAIN n 0).getN Reg.T_LANESTAT.STATE n = 0 :=
    (Dev.getN_setN_addr _ Reg.FLT_SETTLE_LANEn.REMAIN _ _ _ _ (laneStat_ne_settle hn)).trans hst
  generalize (y.modLane n fun l => { l with outs := [], iq := default }).setN Reg.FLT_SETTLE_LANEn.REMAIN n 0 = z at hz hzs ⊢
  have hb : Apart LaneTable z (showBudgets z) := (Apart.refl _ z).showBudgets h1 h2 h3
  have hstat : (showBudgets z).getN Reg.T_LANESTAT.STATE n = z.getN Reg.T_LANESTAT.STATE n :=
    ((Apart.refl (· = At.T_LANESTAT_0.addr n) z).showBudgets (by rw [ha]; omega) (by rw [ha]; omega)
      (by rw [ha]; omega)).getN rfl
  have hall := ((hx.trans hy).trans hz).trans hb
  refine ⟨?_, hstat.trans hzs, ?_⟩
  · exact (hall.onN (by rw [laneOn_addr]; unfold LaneTable; omega)).trans (Dev.onN_setN_same d Reg.T_LANE.EN n 0 rfl)
  · refine Apart.trans ((Apart.refl (LaneEntry n) d).setN (f := Reg.T_LANE.EN) (i := n) (v := 0) ?_)
      fun a ha => hall a ⟨ha.1, ha.2.1⟩
    rw [laneOn_addr]
    exact fun h => h.2.2 rfl

theorem disabled_commands (s : State) (n : Nat) (v : Word32) (hn : n < 512) (hu : s.dev.up islRaw = true)
    (ho : laneOn s.dev n = true) (hv : bitOf v 0 = false) :
    ∃ t, exec (.laneEnable n v) s = .next t ∧ laneOn t.dev n = false ∧ t.dev.getN Reg.T_LANESTAT.STATE n = 0 ∧
      (t.dev.lane n).outs = [] ∧ (∀ m, m < 512 → m ≠ n → laneOn t.dev m = laneOn s.dev m) := by
  have hu' : s.dev.up (islandOf 0x270000) = true := hu
  obtain ⟨d1, hd1, he⟩ := laneEnable_on_stops (t := s.time) ho hv
  have h1 : Apart (LaneEntry n) s.dev d1 := by
    rcases hd1 with rfl | rfl
    · exact .refl _ _
    · exact (Apart.refl _ _).cause fun h => absurd h.1 (by decide)
  rw [exec_laneEnable, if_pos hn, onWrite_up (laneEnable s.time n v) hu', he]
  obtain ⟨hoff, hst, ha⟩ := laneStopped_shows s.time hn d1
  have hout := laneStopped_lane s.time n d1
  generalize laneStopped s.time n d1 = x at hoff hst ha hout ⊢
  refine ⟨_, rfl, ?_, ?_, ?_, fun m hm hne => ?_⟩
  · rw [after_laneOn _ _ hn, hoff]
  · rw [after_getN _ _ _ _ (laneStat_notIntake hn), hst]
  · rw [after_lane, hout]
  · rw [after_laneOn _ _ hm]
    exact (h1.trans ha).laneOn hm hne

theorem enable_commands : (∀ (s : State) (n : Nat) (v : Word32), n < 512 → s.dev.up islRaw = true →
    laneOn s.dev n = false → bitOf v 0 = false →
    exec (.laneEnable n v) s = .next (s.after (s.dev.putUnvalid (0x270000 + n * 64) v))) ∧
  (∀ (s : State) (n : Nat) (v : Word32), n < 512 → s.dev.up islRaw = true → laneOn s.dev n = true → bitOf v 0 = true →
    exec (.laneEnable n v) s = .next (s.after (s.dev.cause intFlt 0 0 0))) ∧
  (∀ (s : State) (n : Nat) (v : Word32), 512 ≤ n → exec (.laneEnable n v) s = .next (s.after s.dev) ∧
    exec (.laneSyncRequest n) s = .next (s.after s.dev)) ∧
  (∀ (s : State) (n : Nat) (v : Word32), n < 512 → s.dev.up islRaw = true → laneOn s.dev n = true → bitOf v 0 = false →
    ∃ t, exec (.laneEnable n v) s = .next t ∧ laneOn t.dev n = false ∧ t.dev.getN Reg.T_LANESTAT.STATE n = 0 ∧
      (t.dev.lane n).outs = [] ∧ (∀ m, m < 512 → m ≠ n → laneOn t.dev m = laneOn s.dev m)) ∧
  (∀ (s : State) (n : Nat), n < 512 → s.dev.up islRaw = true →
    (laneOn s.dev n = true → exec (.laneSyncRequest n) s = .next (s.after (laneSync n s.dev))) ∧
    (laneOn s.dev n = false → exec (.laneSyncRequest n) s = .next (s.after s.dev))) := by
  refine ⟨fun s n v hn hu ho hv => ?_, fun s n v hn hu ho hv => ?_, fun s n v hn => ⟨?_, ?_⟩, disabled_commands,
    fun s n hn hu => ?_⟩
  · have hu' : s.dev.up (islandOf 0x270000) = true := hu
    rw [exec_laneEnable, if_pos hn, onWrite_up (laneEnable s.time n v) hu', laneEnable_off ho, if_pos (by simp [hv]), laneOn_addr]
  · have hu' : s.dev.up (islandOf 0x270000) = true := hu
    rw [exec_laneEnable, if_pos hn, onWrite_up (laneEnable s.time n v) hu', laneEnable_on_kept ho hv]
  · rw [exec_laneEnable, if_neg (by omega)]
  · rw [exec_laneSyncRequest, if_neg (by omega)]
  · have hu' : s.dev.up (islandOf 0x278000) = true := hu
    rw [exec_laneSyncRequest, if_pos hn, onWrite_up (laneSyncRequest n) hu', laneSyncRequest]
    exact ⟨fun h => by rw [if_pos h], fun h => by rw [if_neg (by simp [h])]⟩

/-! ## Swaps (R317 to R322) -/

theorem swapGo_commands (s : State) (v : Word32) (hu : s.dev.up islRaw = true) :
    (bitOf v 31 = false → exec (.swapGo v) s = .next (s.after (s.dev.putWord 0xB0020 (v &&& 0x7FFFFFFF#32)))) ∧
    (bitOf v 31 = true → (s.dev.putWord 0xB0020 (v &&& 0x7FFFFFFF#32)).get Reg.FLT_SWAP_CMD.NLANE = 0 →
      exec (.swapGo v) s = .next (s.after ((s.dev.putWord 0xB0020 (v &&& 0x7FFFFFFF#32)).set Reg.FLT_SWAP_RES.STATUS
        stSkipped))) ∧
    (bitOf v 31 = true → 32 < (s.dev.putWord 0xB0020 (v &&& 0x7FFFFFFF#32)).get Reg.FLT_SWAP_CMD.NLANE →
      exec (.swapGo v) s = .next (s.after ((s.dev.putWord 0xB0020 (v &&& 0x7FFFFFFF#32)).set Reg.FLT_SWAP_RES.STATUS
        stRejected))) ∧
    (∀ (d : Dev) (r : SwapReq) (a : Bool × Dev), bitOf v 31 = true → d = s.dev.putWord 0xB0020 (v &&& 0x7FFFFFFF#32) →
      d.get Reg.FLT_SWAP_CMD.NLANE ≠ 0 → d.get Reg.FLT_SWAP_CMD.NLANE ≤ 32 →
      r = ⟨d.get Reg.FLT_SWAP_CMD.BANK, d.get Reg.FLT_SWAP_T.ST, d.get Reg.FLT_SWAP_TE.EPOCH,
        d.get Reg.FLT_SWAP_TE.LATE_TOL⟩ →
      a = (List.range (d.get Reg.FLT_SWAP_CMD.NLANE)).foldl (fun (a : Bool × Dev) i =>
        if d.get Reg.FLT_SWAP_CMD.LANE + i < 512 then
          (a.1 && (swapTake (d.get Reg.FLT_SWAP_CMD.LANE + i) r a.2).1, (swapTake (d.get Reg.FLT_SWAP_CMD.LANE + i) r a.2).2)
        else (false, a.2)) (true, d) →
      exec (.swapGo v) s = .next (s.after (a.2.set Reg.FLT_SWAP_RES.STATUS (if a.1 then stOk else stRejected)))) := by
  have hu' : s.dev.up (islandOf 0xB0020) = true := hu
  rw [exec_swapGo, onWrite_up (swapGo v) hu', swapGo]
  generalize s.dev.putWord 0xB0020 (v &&& 0x7FFFFFFF#32) = d0
  dsimp only
  refine ⟨fun h => by rw [if_pos (by simp [h])], fun h h0 => by rw [if_neg (by simp [h]), if_pos h0],
    fun h h32 => by rw [if_neg (by simp [h]), if_neg (by omega), if_pos h32], fun d r a h hd h0 h32 hr ha => ?_⟩
  rw [hd] at h0 h32 hr ha
  rw [if_neg (by simp [h]), if_neg h0, if_neg (by omega), ha, hr]

/-- A lane that takes a swap request. -/
def swapTaken (n : Nat) (r : SwapReq) (d : Dev) : Dev :=
  ((d.modLane n fun x => { x with pend := some r }).setN Reg.T_LANESTAT.PENDING n 1).setB
    Reg.T_LANESTAT.OVERWRITTEN n (d.lane n).pend.isSome

theorem swapTake_taken {n : Nat} {r : SwapReq} (ho : laneOn d n = true) (hv : setValid d (bankSet d n r.bank) = true)
    (ht : setTaps d (bankSet d n r.bank) = setTaps d (laneSet d n)) : swapTake n r d =
      (true, if (d.lane n).pend.isSome then (swapTaken n r d).set Reg.FLT_STAT.SWAP_OVERWRITTEN 1 else swapTaken n r d) :=
  if_neg (by simp [ho, hv, ht])

theorem swapTake_commands (d : Dev) (n : Nat) (r : SwapReq) (hn : n < 512) :
    (laneOn d n = false ∨ setValid d (bankSet d n r.bank) = false ∨
        setTaps d (bankSet d n r.bank) ≠ setTaps d (laneSet d n) →
      swapTake n r d = (false, d.setN Reg.T_LANESTAT.SWAP_STATUS n stRejected)) ∧
    (laneOn d n = true → setValid d (bankSet d n r.bank) = true →
      setTaps d (bankSet d n r.bank) = setTaps d (laneSet d n) →
      (swapTake n r d).1 = true ∧ ((swapTake n r d).2.lane n).pend = some r ∧
        (swapTake n r d).2.getN Reg.T_LANESTAT.PENDING n = 1 ∧
        (swapTake n r d).2.onN Reg.T_LANESTAT.OVERWRITTEN n = (d.lane n).pend.isSome ∧
        (∀ m, m ≠ n → (swapTake n r d).2.lane m = d.lane m)) := by
  refine ⟨fun h => if_pos (by rcases h with h | h | h <;> simp [h]), fun ho hv ht => ?_⟩
  rw [swapTake_taken ho hv ht]
  have hword : ∀ {f : Field}, f.reg = At.T_LANESTAT_0 → (if (d.lane n).pend.isSome then
      (swapTaken n r d).set Reg.FLT_STAT.SWAP_OVERWRITTEN 1 else swapTaken n r d).getN f n = (swapTaken n r d).getN f n := by
    intro f hf
    split
    · refine Dev.getN_setN_addr _ Reg.FLT_STAT.SWAP_OVERWRITTEN _ 0 n _ ?_
      show f.reg.addr n ≠ 0xB0004
      rw [hf, laneStat_addr]
      omega
    · rfl
  have hlane : ∀ m, (if (d.lane n).pend.isSome then (swapTaken n r d).set Reg.FLT_STAT.SWAP_OVERWRITTEN 1
      else swapTaken n r d).lane m = (d.modLane n fun x => { x with pend := some r }).lane m := by
    intro m
    split <;> rfl
  refine ⟨rfl, ?_, ?_, ?_, fun m hm => ?_⟩
  · rw [hlane, Dev.modLane_lane]
  · rw [hword rfl]
    exact (Dev.getN_setN_apart _ Reg.T_LANESTAT.OVERWRITTEN _ _ _ _ rfl rfl rfl).trans (Dev.getN_setN_same _ _ _ _ rfl)
  · unfold Dev.onN
    rw [hword rfl]
    refine (Dev.onN_setN_same _ Reg.T_LANESTAT.OVERWRITTEN n _ rfl).trans ?_
    cases (d.lane n).pend.isSome <;> rfl
  · rw [hlane, Dev.modLane_lane_other _ _ _ hm]

theorem fadeEnd_none {n : Nat} (h : (d.lane n).fade = none) : fadeEnd n d = d := by
  unfold fadeEnd
  rw [h]

theorem fadeEnd_some {n b k f : Nat} (h : (d.lane n).fade = some (b, k, f)) : fadeEnd n d =
    if k < f then d
    else (((d.modLane n fun x => { x with fade := none, active := b }).setN Reg.T_LANESTAT.ACTIVE n b).setN
      Reg.T_LANESTAT.FADING n 0).cause intFlt 4 0 0 := by
  unfold fadeEnd
  rw [h]

theorem laneStat_ne_int (n : Nat) : At.T_LANESTAT_0.addr n ≠ 0xB0008 := by
  rw [laneStat_addr]
  omega

theorem fadeEnd_commands : (∀ (s : State) (n : Nat), 512 ≤ n ∨ s.dev.up islRaw = false ∨ (s.dev.lane n).fade = none →
    exec (.fadeEnd n) s = .next (s.after s.dev)) ∧
  (∀ (s : State) (n b k f : Nat), n < 512 → s.dev.up islRaw = true → (s.dev.lane n).fade = some (b, k, f) →
    (k < f → exec (.fadeEnd n) s = .next (s.after s.dev)) ∧
    (f ≤ k → ∃ t, exec (.fadeEnd n) s = .next t ∧ (t.dev.lane n).fade = none ∧ (t.dev.lane n).active = b ∧
      t.dev.getN Reg.T_LANESTAT.ACTIVE n = b % 2 ∧ t.dev.getN Reg.T_LANESTAT.FADING n = 0 ∧
      bitOf (t.dev.word 0xB0008) 4 = true)) := by
  refine ⟨fun s n h => ?_, fun s n b k f hn hu h => ?_⟩
  · rw [exec_fadeEnd]
    split
    · next hc => rw [fadeEnd_none ((h.resolve_left (by omega)).resolve_left (by simp [hc.2]))]
    · rfl
  · rw [exec_fadeEnd, if_pos ⟨hn, hu⟩, fadeEnd_some h]
    refine ⟨fun hk => by rw [if_pos hk], fun hk => ?_⟩
    rw [if_neg (by omega)]
    refine ⟨_, rfl, ?_, ?_, ?_, ?_, ?_⟩
    · rw [after_lane, Dev.cause_lane, Dev.setN_lane, Dev.setN_lane, Dev.modLane_lane]
    · rw [after_lane, Dev.cause_lane, Dev.setN_lane, Dev.setN_lane, Dev.modLane_lane]
    · rw [after_getN _ _ _ _ (laneStat_notIntake hn), Dev.cause_getN _ _ _ _ _ _ _ (laneStat_ne_int n),
        Dev.getN_setN_apart _ _ _ _ _ _ rfl rfl rfl]
      exact Dev.getN_setN_same _ _ _ _ rfl
    · rw [after_getN _ _ _ _ (laneStat_notIntake hn), Dev.cause_getN _ _ _ _ _ _ _ (laneStat_ne_int n)]
      exact Dev.getN_setN_same _ _ _ _ rfl
    · rw [after_word _ _ _ (notIntake_of_lt (by decide))]
      exact Dev.cause_sets _ intFlt 4 0 0 (by decide)

theorem swapStart_none {n c : Nat} (h : (d.lane n).pend = none) : swapStart n c d = d := by
  unfold swapStart
  dsimp only
  rw [h]

/-- How far a centre lies behind the target of a request. -/
def swapLate (d : Dev) (n : Nat) (p : SwapReq) (k : Nat) : Int :=
  if d.tkp.extend then sdiff (2 ^ 48) (k * 1000000000 / max 1 (laneRe d n)) (p.epoch * 2 ^ 32 + p.target)
  else sdiff (2 ^ 32) (k * 1000000000 / max 1 (laneRe d n)) p.target

/-- The bank that a request takes up: at once, or with a fade. -/
def swapTurn (n : Nat) (p : SwapReq) (f : Nat) (d : Dev) : Dev :=
  if f = 0 then (d.modLane n fun x => { x with active := p.bank }).setN Reg.T_LANESTAT.ACTIVE n p.bank
  else (d.modLane n fun x => { x with fade := some (p.bank, 0, f) }).setN Reg.T_LANESTAT.FADING n 1

theorem swapStart_some {n c : Nat} {p : SwapReq} (hp : (d.lane n).pend = some p) : swapStart n c d =
    if (d.lane n).fade.isSome ∨ swapLate d n p c < 0 then d
    else if !decide (swapLate d n p (c - 1) < 0) && decide ((p.tol * 1000 : Nat) < swapLate d n p c) then
      (swapDone n stExpired d).cause intFlt 5 0 stExpired
    else if p.bank = (d.lane n).active then swapDone n stOk d
    else if decide (swapLate d n p (c - 1) < 0) then
      swapTurn n p (d.getN Reg.T_LANE.FADE n)
        (swapDone n (if decide (swapLate d n p (c - 1) < 0) then stOk else stLate) d)
    else (swapTurn n p (d.getN Reg.T_LANE.FADE n)
      (swapDone n (if decide (swapLate d n p (c - 1) < 0) then stOk else stLate) d)).cause intFlt 5 0 stLate := by
  unfold swapStart
  dsimp only
  rw [hp]
  rfl

theorem swapDone_lane (n st : Nat) (d : Dev) : (swapDone n st d).lane n = { d.lane n with pend := none } := by
  unfold swapDone
  rw [Dev.setN_lane, Dev.setN_lane, Dev.modLane_lane]

theorem swapDone_status (n st : Nat) (d : Dev) : (swapDone n st d).getN Reg.T_LANESTAT.SWAP_STATUS n = st % 256 :=
  Dev.getN_setN_same _ _ _ _ rfl

theorem swapTurn_status (n : Nat) (p : SwapReq) (f : Nat) (d : Dev) :
    (swapTurn n p f d).getN Reg.T_LANESTAT.SWAP_STATUS n = d.getN Reg.T_LANESTAT.SWAP_STATUS n := by
  unfold swapTurn
  split
  · exact Dev.getN_setN_apart _ Reg.T_LANESTAT.ACTIVE _ _ _ _ rfl rfl rfl
  · exact Dev.getN_setN_apart _ Reg.T_LANESTAT.FADING _ _ _ _ rfl rfl rfl

theorem swapTurn_lane (n : Nat) (p : SwapReq) (f : Nat) (d : Dev) : (swapTurn n p f d).lane n =
    if f = 0 then { d.lane n with active := p.bank } else { d.lane n with fade := some (p.bank, 0, f) } := by
  unfold swapTurn
  split
  · rw [Dev.setN_lane, Dev.modLane_lane]
  · rw [Dev.setN_lane, Dev.modLane_lane]

/-- A pending swap at a centre: it waits, starts on time, or expires. -/
theorem swapStart_times (d : Dev) (n c : Nat) (p : SwapReq) (late : Nat → Int) (hp : (d.lane n).pend = some p)
    (hf : (d.lane n).fade = none)
    (hl : ∀ k, late k = if d.tkp.extend then
      sdiff (2 ^ 48) (k * 1000000000 / max 1 (laneRe d n)) (p.epoch * 2 ^ 32 + p.target)
      else sdiff (2 ^ 32) (k * 1000000000 / max 1 (laneRe d n)) p.target) :
    (late c < 0 → swapStart n c d = d) ∧
    (0 ≤ late c → late (c - 1) < 0 → p.bank ≠ (d.lane n).active →
      ((swapStart n c d).lane n).pend = none ∧ (swapStart n c d).getN Reg.T_LANESTAT.SWAP_STATUS n = stOk ∧
      (d.getN Reg.T_LANE.FADE n = 0 → ((swapStart n c d).lane n).active = p.bank ∧ ((swapStart n c d).lane n).fade = none) ∧
      (d.getN Reg.T_LANE.FADE n ≠ 0 → ((swapStart n c d).lane n).active = (d.lane n).active ∧
        ((swapStart n c d).lane n).fade = some (p.bank, 0, d.getN Reg.T_LANE.FADE n))) ∧
    (0 ≤ late (c - 1) → (p.tol * 1000 : Nat) < late c →
      swapStart n c d = (swapDone n stExpired d).cause intFlt 5 0 stExpired) := by
  obtain rfl : late = swapLate d n p := funext hl
  have hgo : 0 ≤ swapLate d n p c → ¬ ((d.lane n).fade.isSome ∨ swapLate d n p c < 0) := by
    simp [hf]
  rw [swapStart_some hp]
  refine ⟨fun h => by rw [if_pos (.inr h)], fun h0 h1 hb => ?_, fun h1 h2 => ?_⟩
  · rw [if_neg (hgo h0), if_neg (by simp [h1]), if_neg hb, if_pos (by simp [h1]), if_pos (by simp [h1])]
    rw [swapTurn_lane, swapTurn_status, swapDone_status, swapDone_lane]
    refine ⟨?_, rfl, fun h => ?_, fun h => ?_⟩
    · split <;> rfl
    · rw [if_pos h]
      exact ⟨rfl, hf⟩
    · rw [if_neg h]
      exact ⟨rfl, rfl⟩
  · rw [if_neg (hgo (by omega)), if_pos (by rw [decide_eq_true h2, decide_eq_false (by omega)]; rfl)]

theorem swapStart_commands : (∀ (s : State) (n c : Nat), n < 512 → s.dev.up islRaw = true → nextCentre s.dev n = some c →
    exec (.swapStart n) s = .next (s.after (swapStart n c (fadeEnd n s.dev))) ∧
    ((s.dev.lane n).pend = none → (s.dev.lane n).fade = none → swapStart n c (fadeEnd n s.dev) = s.dev)) ∧
  (∀ (s : State) (n : Nat), 512 ≤ n ∨ s.dev.up islRaw = false ∨ nextCentre s.dev n = none →
    exec (.swapStart n) s = .next (s.after s.dev)) := by
  refine ⟨fun s n c hn hu hc => ⟨?_, fun hp hf => ?_⟩, fun s n h => ?_⟩
  · rw [exec_swapStart, hc, swapAt, if_pos ⟨hn, hu⟩]
  · rw [fadeEnd_none hf, swapStart_none hp]
  · rw [exec_swapStart]
    cases hc : nextCentre s.dev n with
    | none => rfl
    | some c =>
      rw [swapAt, if_neg fun hh => ?_]
      rcases h with h | h | h
      · omega
      · exact absurd hh.2 (by simp [h])
      · rw [hc] at h
        cases h

/-- Settles O37: the samples, the enabling and the swaps of a lane, each by the cases of its command. -/
theorem rawLanes : Obligations.RawLanes := by
  refine ⟨⟨fun s n h => ?_, sample_commands, fun d n x h => laneTake_resync h, fun d n p q x h hp hq => laneTake_placed h hp hq,
    fun d n x h hp hg => laneTake_waiting h hp hg, timeout_commands⟩, ⟨enabled_commands, ?_⟩, ?_⟩
  · rw [exec_laneSample]
    split
    · next hc =>
      have hi := (h.resolve_left (by omega)).resolve_left (by simp [hc.2])
      unfold laneInput
      rw [hi]
    · rfl
  · obtain ⟨h1, h2, h3, h4, h5⟩ := enable_commands
    exact ⟨h1, h2, h3, h4, h5, laneSync_shows⟩
  · obtain ⟨h1, h2⟩ := fadeEnd_commands
    obtain ⟨h3, h4⟩ := swapStart_commands
    exact ⟨swapGo_commands, swapTake_commands, h1, h2, h3, h4, swapStart_times⟩

end Sys2Proof.Machine

/-!
PROOFS. Coefficient sets, lane groups and the blocks a group writes (R301, R323 to R326).
-/

namespace Sys2Proof.Machine

open Sys2Proof

variable {d : Dev}

theorem exec_coefSetValidate (set : Nat) (v : Word32) (s : State) :
    exec (.coefSetValidate set v) s =
      .next (s.after (if set < 64 then onWrite 0x280000 (coefSetValidate set v) s.dev else s.dev)) := rfl

/-- Has every lane of the group that is on its output for the instant? -/
def groupComplete (g m : Nat) (d : Dev) : Bool := (groupLanes d g).all fun n => !laneOn d n || (outFor d n m).isSome

/-- Has IN_TMO passed since the last sample that the instant needs? -/
def groupLate (t : Time) (g m : Nat) (d : Dev) : Bool :=
  decide (instNs m (max 1 (srcRate d (d.getN Reg.T_GROUP.SLOT g))) + groupXns d g + d.get Reg.FLT_CTRL.IN_TMO * 1000 ≤ t.ns)

theorem exec_groupBlockWrite (g : Nat) (s : State) :
    exec (.groupBlockWrite g) s = .next (s.after (groupWrite s.time g (groupComplete g) s.dev)) := rfl

theorem exec_groupBlockTimeout (g : Nat) (s : State) :
    exec (.groupBlockTimeout g) s = .next (s.after (groupWrite s.time g (groupLate s.time g) s.dev)) := rfl

theorem exec_groupValidate (g : Nat) (v : Word32) (s : State) :
    exec (.groupValidate g v) s =
      .next (s.after (if g < 128 then onWrite 0x27A000 (groupValidate s.time g v) s.dev else s.dev)) := rfl

/-! ## A word of a table, written whole -/

/-- A field of one bit is that bit of its word. -/
theorem Dev.onN_bit (d : Dev) {f : Field} {i : Nat} (hw : f.width = 1) : d.onN f i = bitOf (d.word (f.reg.addr i)) f.lo := by
  unfold Dev.onN Dev.getN fget Field.ofWord bitOf
  rw [hw, ← Dev.word, BitVec.getLsbD, Nat.testBit, Nat.one_and_eq_mod_two]
  rfl

theorem Dev.word_putWord (d : Dev) (a : Nat) (v : Word32) : (d.putWord a v).word a = v &&& maskOf (fieldsAt a) := by
  simp [Dev.word, Dev.putWord]

theorem Dev.word_putWord_other (d : Dev) {a b : Nat} (v : Word32) (h : b ≠ a) : (d.putWord a v).word b = d.word b := by
  simp [Dev.word, Dev.putWord, rword_rput, h]

/-- VALID, bit 0 of a table word, stays 0 in a word written without it. -/
theorem putUnvalid_invalid (d : Dev) (v : Word32) {f : Field} {i : Nat} (hw : f.width = 1) (hl : f.lo = 0) :
    (d.putUnvalid (f.reg.addr i) v).onN f i = false := by
  rw [Dev.onN_bit _ hw, hl, Dev.putUnvalid, Dev.word_putWord, bitOf]
  simp

/-- VALID is 1 in a word written with it. -/
theorem putWord_valid (d : Dev) {v : Word32} {f : Field} {i : Nat} (hw : f.width = 1) (hl : f.lo = 0)
    (hf : f ∈ fieldsAt (f.reg.addr i)) (hv : bitOf v 0 = true) : (d.putWord (f.reg.addr i) v).onN f i = true := by
  have hm : f.mask.getLsbD 0 = true := by
    rw [Field.mask_bit f (by rw [Field.fits, hw, hl]; rfl)]
    simp [hw, hl]
  rw [Dev.onN_bit _ hw, hl, Dev.word_putWord, bitOf, BitVec.getLsbD_and, maskOf_bit]
  exact Bool.and_eq_true_iff.mpr ⟨hv, List.any_eq_true.mpr ⟨f, hf, hm⟩⟩

/-! ## Coefficient sets (R301) -/

theorem coefSet_addr (c : Nat) : Reg.T_FIR.VALID.reg.addr c = 0x280000 + c * 0x800 := RegAt.addr_single rfl c

theorem coefSet_notIntake {c : Nat} (hc : c < 64) : ¬ intakeWord (Reg.T_FIR.VALID.reg.addr c) := by
  rw [coefSet_addr]
  exact notIntake_between (by omega) (by omega)

/-- The word of a register is found at its address. -/
theorem index?_single {r : RegAt} {b s c n : Nat} (h : r = ⟨b, s, c, 1, 0⟩) (hs : 0 < s) (hn : n < c) :
    (r.index? (r.addr n)).isSome = true := by
  have ha := RegAt.addr_single h n
  subst h
  rw [ha]
  simp [RegAt.index?, Nat.not_lt.mpr (Nat.le_add_right b _), hs.ne', Nat.min_eq_left (Nat.le_sub_one_of_lt hn), hn, ha]

theorem coefSet_field {c : Nat} (hc : c < 64) : Reg.T_FIR.VALID ∈ fieldsAt (Reg.T_FIR.VALID.reg.addr c) :=
  List.mem_filter.mpr ⟨by decide +kernel, index?_single rfl (by decide) hc⟩

theorem coefSetValidate_busy {c : Nat} {v : Word32} (h : setBusy d c = true) :
    coefSetValidate c v d = d.cause intFlt 0 0 0 := by
  unfold coefSetValidate
  dsimp only
  rw [h]
  rfl

theorem coefSetValidate_clears {c : Nat} {v : Word32} (h : setBusy d c = false) (hv : bitOf v 0 = false) :
    coefSetValidate c v d = d.putWord (Reg.T_FIR.VALID.reg.addr c) v := by
  unfold coefSetValidate
  dsimp only
  rw [h, hv]
  rfl

theorem coefSetValidate_checks {c : Nat} {v : Word32} (h : setBusy d c = false) (hv : bitOf v 0 = true) :
    coefSetValidate c v d = if setOk (d.putUnvalid (Reg.T_FIR.VALID.reg.addr c) v) c then
      d.putWord (Reg.T_FIR.VALID.reg.addr c) v
      else (d.putUnvalid (Reg.T_FIR.VALID.reg.addr c) v).cause intFlt 0 0 0 := by
  unfold coefSetValidate
  dsimp only
  rw [h, hv]
  rfl

theorem coefSet_commands (s : State) (c : Nat) (v : Word32) (hc : c < 64) (hu : s.dev.up islRaw = true) :
    (setBusy s.dev c = true → exec (.coefSetValidate c v) s = .next (s.after (s.dev.cause intFlt 0 0 0))) ∧
    (setBusy s.dev c = false → bitOf v 0 = false →
      exec (.coefSetValidate c v) s = .next (s.after (s.dev.putWord (Reg.T_FIR.VALID.reg.addr c) v))) ∧
    (setBusy s.dev c = false → bitOf v 0 = true → setOk (s.dev.putUnvalid (Reg.T_FIR.VALID.reg.addr c) v) c = true →
      ∃ t, exec (.coefSetValidate c v) s = .next t ∧ setValid t.dev c = true ∧
        (∀ a, ¬ intakeWord a → a ≠ Reg.T_FIR.VALID.reg.addr c → t.dev.word a = s.dev.word a)) ∧
    (setBusy s.dev c = false → bitOf v 0 = true → setOk (s.dev.putUnvalid (Reg.T_FIR.VALID.reg.addr c) v) c = false →
      ∃ t, exec (.coefSetValidate c v) s = .next t ∧ setValid t.dev c = false) := by
  have hu' : s.dev.up (islandOf 0x280000) = true := hu
  rw [exec_coefSetValidate, if_pos hc, onWrite_up (coefSetValidate c v) hu']
  refine ⟨fun h => by rw [coefSetValidate_busy h], fun h hv => by rw [coefSetValidate_clears h hv], fun h hv hk => ?_,
    fun h hv hk => ?_⟩
  · rw [coefSetValidate_checks h hv, if_pos hk]
    refine ⟨_, rfl, ?_, fun a ha hne => ?_⟩
    · exact (after_onN _ _ _ _ (coefSet_notIntake hc)).trans (putWord_valid s.dev rfl rfl (coefSet_field hc) hv)
    · rw [after_word _ _ _ ha, Dev.word_putWord_other _ _ hne]
  · rw [coefSetValidate_checks h hv, if_neg (by simp [hk])]
    refine ⟨_, rfl, ?_⟩
    refine (after_onN _ _ _ _ (coefSet_notIntake hc)).trans ?_
    refine (Dev.cause_onN _ intFlt _ _ _ _ _ (by rw [coefSet_addr]; show _ ≠ 0xB0008; omega)).trans ?_
    exact putUnvalid_invalid s.dev v rfl rfl

/-! ## Groups (R323) -/

theorem group_addr (g : Nat) : At.T_GROUP_0.addr g = 0x27A000 + g * 0x10 := RegAt.addr_single rfl g

theorem group_notIntake {g : Nat} (hg : g < 128) : ¬ intakeWord (At.T_GROUP_0.addr g) := by
  rw [group_addr]
  exact notIntake_between (by omega) (by omega)

theorem group_ne_int (g : Nat) : At.T_GROUP_0.addr g ≠ 0xB0008 := by
  rw [group_addr]
  omega

/-- The lanes of a group, without their outputs. -/
def groupEmptied (g : Nat) (d : Dev) : Dev :=
  (groupLanes d g).foldl (fun x n => x.modLane n fun l => { l with outs := [] }) d

theorem groupValidate_invalid {t : Time} {g : Nat} {v : Word32} (h : d.onN Reg.T_GROUP.VALID g = false) :
    groupValidate t g v d =
      if !bitOf v 0 then d.putUnvalid (Reg.T_GROUP.VALID.reg.addr g) v
      else if !groupOk (d.putUnvalid (Reg.T_GROUP.VALID.reg.addr g) v) g then
        (d.putUnvalid (Reg.T_GROUP.VALID.reg.addr g) v).cause intFlt 0 0 0
      else ((groupEmptied g (d.putUnvalid (Reg.T_GROUP.VALID.reg.addr g) v)).setN Reg.T_GROUP.VALID g 1).modGroup g
        fun _ => ⟨none, t.loc⟩ := if_neg (by simp [h])

theorem groupValidate_valid {t : Time} {g : Nat} {v : Word32} (h : d.onN Reg.T_GROUP.VALID g = true) :
    ∃ d1, (d1 = d ∨ d1 = d.cause intFlt 0 0 0) ∧
      groupValidate t g v d = if bitOf v 0 then d1 else d1.setN Reg.T_GROUP.VALID g 0 := by
  unfold groupValidate
  rw [if_pos h]
  dsimp only
  refine ⟨_, ?_, rfl⟩
  split
  · exact .inl rfl
  · exact .inr rfl

theorem group_valid_kept (s : State) (g : Nat) (v : Word32) (hg : g < 128) (hu : s.dev.up islRaw = true)
    (h : s.dev.onN Reg.T_GROUP.VALID g = true) :
    ∃ t, exec (.groupValidate g v) s = .next t ∧ t.dev.onN Reg.T_GROUP.VALID g = bitOf v 0 ∧
      t.dev.getN Reg.T_GROUP.FIRST g = s.dev.getN Reg.T_GROUP.FIRST g ∧
      t.dev.getN Reg.T_GROUP.COUNT g = s.dev.getN Reg.T_GROUP.COUNT g ∧ t.dev.flt = s.dev.flt := by
  have hu' : s.dev.up (islandOf 0x27A000) = true := hu
  obtain ⟨d1, hd, he⟩ := groupValidate_valid (t := s.time) (v := v) h
  have hget : ∀ f : Field, f.reg = At.T_GROUP_0 → d1.getN f g = s.dev.getN f g := by
    intro f hf
    rcases hd with rfl | rfl
    · rfl
    · exact Dev.cause_getN _ intFlt _ _ _ _ _ (by rw [hf]; exact group_ne_int g)
  have hflt : d1.flt = s.dev.flt := by
    rcases hd with rfl | rfl
    · rfl
    · exact Dev.cause_flt _ _ _ _ _
  rw [exec_groupValidate, if_pos hg, onWrite_up (groupValidate s.time g v) hu', he]
  refine ⟨_, rfl, ?_, ?_, ?_, ?_⟩
  · rw [after_onN _ _ _ _ (group_notIntake hg)]
    cases hv : bitOf v 0
    · exact Dev.onN_setN_same d1 Reg.T_GROUP.VALID g 0 rfl
    · refine Eq.trans ?_ h
      simp [Dev.onN, hget Reg.T_GROUP.VALID rfl]
  · rw [after_getN _ _ _ _ (group_notIntake hg), ← hget Reg.T_GROUP.FIRST rfl]
    split
    · rfl
    · exact Dev.getN_setN_apart _ _ _ _ _ _ rfl rfl rfl
  · rw [after_getN _ _ _ _ (group_notIntake hg), ← hget Reg.T_GROUP.COUNT rfl]
    split
    · rfl
    · exact Dev.getN_setN_apart _ _ _ _ _ _ rfl rfl rfl
  · rw [after_flt, ← hflt]
    split <;> rfl

theorem group_checked (s : State) (g : Nat) (v : Word32) (hg : g < 128) (hu : s.dev.up islRaw = true)
    (h : s.dev.onN Reg.T_GROUP.VALID g = false) (hv : bitOf v 0 = true) :
    (groupOk (s.dev.putUnvalid (Reg.T_GROUP.VALID.reg.addr g) v) g = true →
      ∃ t, exec (.groupValidate g v) s = .next t ∧ t.dev.onN Reg.T_GROUP.VALID g = true ∧
        tget t.dev.flt.groups g = ⟨none, s.time.loc⟩) ∧
    (groupOk (s.dev.putUnvalid (Reg.T_GROUP.VALID.reg.addr g) v) g = false →
      ∃ t, exec (.groupValidate g v) s = .next t ∧ t.dev.onN Reg.T_GROUP.VALID g = false ∧
        bitOf (t.dev.word 0xB0008) 0 = true) := by
  have hu' : s.dev.up (islandOf 0x27A000) = true := hu
  rw [exec_groupValidate, if_pos hg, onWrite_up (groupValidate s.time g v) hu', groupValidate_invalid h,
    if_neg (by simp [hv])]
  refine ⟨fun hk => ?_, fun hk => ?_⟩
  · rw [if_neg (by simp [hk])]
    refine ⟨_, rfl, ?_, ?_⟩
    · rw [after_onN _ _ _ _ (group_notIntake hg)]
      exact Dev.onN_setN_same _ Reg.T_GROUP.VALID g 1 rfl
    · rw [after_flt]
      exact tget_tmod_same (groupEmptied g (s.dev.putUnvalid (Reg.T_GROUP.VALID.reg.addr g) v)).flt.groups g
        fun _ => ⟨none, s.time.loc⟩
  · rw [if_pos (by simp [hk])]
    refine ⟨_, rfl, ?_, ?_⟩
    · rw [after_onN _ _ _ _ (group_notIntake hg), Dev.cause_onN _ intFlt _ _ _ _ _ (group_ne_int g)]
      exact putUnvalid_invalid s.dev v rfl rfl
    · rw [after_word _ _ _ (notIntake_of_lt (by decide))]
      exact Dev.cause_sets _ intFlt 0 0 0 (by decide)

/-! ## Blocks (R324 to R326) -/

theorem groupWrite_idle {t : Time} {g : Nat} {r : Nat → Dev → Bool} (h : groupDue d g = none) :
    groupWrite t g r d = d := by
  unfold groupWrite
  rw [h]

theorem groupWrite_stale {t : Time} {g m k : Nat} {r : Nat → Dev → Bool} (h : groupDue d g = some m)
    (hk : (tget d.flt.groups g).done = some k) (hm : m ≤ k) : groupWrite t g r d = groupStale g m d := by
  unfold groupWrite
  rw [h]
  exact if_pos (by rw [hk]; exact decide_eq_true hm)

theorem groupWrite_due {t : Time} {g m : Nat} {r : Nat → Dev → Bool} (h : groupDue d g = some m)
    (hk : ∀ k, (tget d.flt.groups g).done = some k → k < m) :
    groupWrite t g r d = if r m d then groupBlock t g m d else d := by
  unfold groupWrite
  rw [h]
  refine if_neg ?_
  cases hd : (tget d.flt.groups g).done with
  | none => simp
  | some k => simpa using hk k hd

theorem foldl_modLane_keeps (f : LaneSt → LaneSt) (ls : List Nat) (d : Dev) :
    ∃ x, ls.foldl (fun x n => x.modLane n f) d = { d with flt := { d.flt with lanes := x } } := by
  induction ls generalizing d with
  | nil => exact ⟨_, rfl⟩
  | cons n ls ih =>
    obtain ⟨x, hx⟩ := ih (d.modLane n f)
    exact ⟨x, hx⟩

theorem groupBlock_taken (t : Time) (g m : Nat) (d : Dev) (h : alignTakes d = true) :
    (groupBlock t g m d).regs = d.regs ∧ (tget (groupBlock t g m d).flt.groups g).done = some m ∧
      ∃ b, (groupBlock t g m d).aln.inq = d.aln.inq ++ [b] ∧ b.src = d.getN Reg.T_GROUP.SLOT g ∧ b.arrNs = t.ns ∧
        b.future = false ∧
        b.words = ((groupLanes d g).map fun n => match outFor d n m with
          | some o => o.words.take 2
          | none => [wMissing, wMissing]).flatten ++ (if d.onN Reg.T_GROUP.FW g then groupFreq d g m else []) := by
  obtain ⟨x, hx⟩ := foldl_modLane_keeps (fun l => { l with outs := l.outs.filter fun o => decide (m < o.m) })
    (groupLanes d g) d
  unfold groupBlock
  dsimp only
  rw [hx]
  split
  · exact ⟨rfl, congrArg GroupSt.done (tget_tmod_same d.flt.groups g fun x => { x with done := some m }), _, rfl, rfl, rfl,
      rfl, rfl⟩
  · next hn => exact absurd h hn

/-- Settles O38: the words of sets and groups by their checks, a group's blocks by its next instant. -/
theorem laneGroups : Obligations.LaneGroups := by
  refine ⟨⟨coefSet_commands, group_checked, fun s g v hg hu h hv => ?_, group_valid_kept,
    fun s n v => ⟨fun h => ?_, fun h => ?_⟩⟩, fun s g h => ⟨?_, ?_⟩, fun s g m h hk => ⟨fun ha => ?_, fun ha => ?_, fun ht => ?_,
    fun ht => ?_⟩, fun s g m k h hk hm => ⟨?_, ?_⟩, groupBlock_taken⟩
  · have hu' : s.dev.up (islandOf 0x27A000) = true := hu
    rw [exec_groupValidate, if_pos hg, onWrite_up (groupValidate s.time g v) hu', groupValidate_invalid h,
      if_pos (by simp [hv])]
  · rw [exec_coefSetValidate, if_neg (by omega)]
  · rw [exec_groupValidate, if_neg (by omega)]
  · rw [exec_groupBlockWrite, groupWrite_idle h]
  · rw [exec_groupBlockTimeout, groupWrite_idle h]
  · rw [exec_groupBlockWrite, groupWrite_due h hk, if_pos]
    refine List.all_eq_true.mpr fun n hn => ?_
    cases ho : laneOn s.dev n
    · rfl
    · simpa using ha n hn ho
  · rw [exec_groupBlockWrite, groupWrite_due h hk, if_neg]
    obtain ⟨n, hn, ho, hf⟩ := ha
    exact fun hall => by simpa [ho, hf] using List.all_eq_true.mp hall n hn
  · rw [exec_groupBlockTimeout, groupWrite_due h hk, if_pos (show groupLate s.time g m s.dev = true from decide_eq_true ht)]
  · rw [exec_groupBlockTimeout, groupWrite_due h hk, if_neg (by rw [groupLate, decide_eq_true_eq]; omega)]
  · rw [exec_groupBlockWrite, groupWrite_stale h hk hm]
  · rw [exec_groupBlockTimeout, groupWrite_stale h hk hm]

end Sys2Proof.Machine

/-!
PROOFS. The evaluation of rules, the pass, INTEGRITY and the acknowledgements (R336, R337, R355 to R365).
-/

namespace Sys2Proof.Machine

open Sys2Proof

variable {d : Dev}

theorem exec_integAck (s : State) : exec .integAck s = .next (s.after (onWrite 0xC0014 (integAck s.time) s.dev)) := rfl

theorem exec_ruleAck (rule : Nat) (s : State) :
    exec (.ruleAck rule) s = .next (s.after (onWrite 0xC0014 (ruleAck s.time (rule % 4096)) s.dev)) := rfl

theorem exec_rulePass (ups : List Upset) (s : State) :
    exec (.rulePass ups) s = .next (s.after (if s.dev.up islAna ∧ s.dev.rul.evalQ ≠ [] then
      rulTakeMode s.time (rulePass s.time ups s.dev) else s.dev)) := rfl

/-! ## One evaluation (R355, R358, R359) -/

theorem ruleCount_met (v : RuleV) (latch : Bool) (pickup dropout : Nat) : ruleCount latch pickup dropout true v =
    { v with met := true, pc := min 255 (v.pc + 1), dc := 0
             active := v.active || decide (max 1 pickup ≤ min 255 (v.pc + 1)) } := rfl

theorem ruleCount_unmet (v : RuleV) (latch : Bool) (pickup dropout : Nat) : ruleCount latch pickup dropout false v =
    { v with
      met := false, pc := 0, dc := if v.active then min 127 (v.dc + 1) else v.dc
      active := v.active && !(v.active && if latch then v.acked
        else decide (max 1 dropout ≤ if v.active then min 127 (v.dc + 1) else v.dc))
      acked := v.acked && !(v.active && if latch then v.acked
        else decide (max 1 dropout ≤ if v.active then min 127 (v.dc + 1) else v.dc)) } := rfl

theorem ruleCount_counts (v : RuleV) (latch : Bool) (pickup dropout : Nat) :
    let m := ruleCount latch pickup dropout true v
    let u := ruleCount latch pickup dropout false v
    m.pc = min 255 (v.pc + 1) ∧ m.dc = 0 ∧ (v.active = true → m.active = true) ∧
      (v.active = false → (m.active = true ↔ max 1 pickup ≤ min 255 (v.pc + 1))) ∧
      u.pc = 0 ∧ (v.active = false → u.active = false ∧ u.dc = v.dc) ∧
      (v.active = true → u.dc = min 127 (v.dc + 1) ∧
        (latch = false → (u.active = false ↔ max 1 dropout ≤ min 127 (v.dc + 1))) ∧
        (latch = true → u.active = !v.acked)) := by
  dsimp only
  rw [ruleCount_met, ruleCount_unmet]
  refine ⟨rfl, rfl, fun h => by simp [h], fun h => ?_, rfl, fun h => by simp [h], fun h => ⟨by simp [h], fun hl => ?_, fun hl => ?_⟩⟩
  · dsimp only
    rw [h, Bool.false_or, decide_eq_true_eq]
  · dsimp only
    rw [h, hl]
    simp only [Bool.true_and, if_true, Bool.not_eq_false', Bool.false_eq_true, if_false, decide_eq_true_eq]
  · dsimp only
    rw [h, hl]
    simp only [Bool.true_and, if_true]

theorem ruleStep_holds {e1 : Bool} {k : Nat} {due : List Nat} {e : EngV} {r : Nat}
    (h : opsDue due [eget d e1 Reg.T_RULE.OPA r, eget d e1 Reg.T_RULE.OPB r] = false) :
    ruleStep d e1 k due e r = { tget e.rules r with eval := false } := if_pos (by simp [h])

theorem ruleMet_gated {e1 : Bool} {e : EngV} {r : Nat} (x : RVal) (active : Bool) (h : gateClosed d e1 e r = true) :
    ruleMet d e1 e r x active = some false := if_pos h

theorem ruleMet_hold {e1 : Bool} {e : EngV} {r : Nat} {c : Word32} (active : Bool) (h : gateClosed d e1 e r = false)
    (hp : eget d e1 Reg.T_RULE.NANPOL r = 0) : ruleMet d e1 e r (.bad c) active = none := by
  unfold ruleMet
  rw [if_neg (by simp [h])]
  dsimp only
  rw [hp]
  rfl

/-- A NaN x under HOLD leaves the state and the counters (R358). -/
theorem ruleStep_nan {e1 : Bool} {k : Nat} {due : List Nat} {e : EngV} {r : Nat} {c : Word32}
    (hd : opsDue due [eget d e1 Reg.T_RULE.OPA r, eget d e1 Reg.T_RULE.OPB r] = true) (hx : ruleX d e1 e k r = .bad c)
    (hg : gateClosed d e1 e r = false) (hp : eget d e1 Reg.T_RULE.NANPOL r = 0) :
    (ruleStep d e1 k due e r).active = (tget e.rules r).active ∧ (ruleStep d e1 k due e r).pc = (tget e.rules r).pc ∧
      (ruleStep d e1 k due e r).dc = (tget e.rules r).dc ∧ (ruleStep d e1 k due e r).x = .bad c := by
  unfold ruleStep
  dsimp only
  rw [if_neg (by simp [hd]), hx, ruleMet_hold _ hg hp]
  dsimp only
  split
  · exact ⟨rfl, rfl, rfl, rfl⟩
  · exact ⟨rfl, rfl, rfl, rfl⟩

/-! ## What a pass keeps of the head of the queue (R336, R337) -/

/-- The evaluation queue, the spread of the last pass and the count of passes. -/
def passHead (r : Rul) : List EvalItem × Nat × Nat × Nat := (r.evalQ, r.lastInst, r.lastSeq, r.passes)

/-- From `e` to `d` the queue, the last spread and the count of passes stand. -/
def Heads (e d : Dev) : Prop := passHead d.rul = passHead e.rul

section
variable {e : Dev}

theorem Heads.refl (d : Dev) : Heads d d := rfl

theorem Heads.trans {x : Dev} (h : Heads e d) (k : Heads d x) : Heads e x := Eq.trans k h

theorem Heads.modRul {f : Rul → Rul} (h : Heads e d) (hf : ∀ x, passHead (f x) = passHead x := by intro _; unfold passHead; rfl) :
    Heads e (d.modRul f) :=
  (hf d.rul).trans h

/-- A step that leaves the rules' state. -/
theorem Heads.ofTame {ps : List StatePart} {x : Dev} (h : Heads e d) (ht : Tame ps d x) (hp : StatePart.rul ∉ ps) : Heads e x :=
  (congrArg passHead (ht.stands .rul hp)).trans h

theorem Heads.ite {c : Prop} [Decidable c] {a b : Dev} (ha : Heads e a) (hb : Heads e b) : Heads e (if c then a else b) := by
  split
  · exact ha
  · exact hb

theorem Heads.foldl {β : Type} {f : Dev → β → Dev} (h : Heads e d) (hf : ∀ b x, Heads e x → Heads e (f x b)) {l : List β} :
    Heads e (l.foldl f d) := by
  induction l generalizing d with
  | nil => exact h
  | cons b l ih => exact ih (hf b d h)

theorem Heads.overList {l : List Nat} {f : Nat → Dev → Dev} (h : Heads e d) (hf : ∀ k x, Heads e x → Heads e (f k x)) :
    Heads e (overList l f d) := h.foldl hf

theorem Heads.overAll {n : Nat} {f : Nat → Dev → Dev} (h : Heads e d) (hf : ∀ k x, Heads e x → Heads e (f k x)) :
    Heads e (overAll n f d) := h.foldl hf

/-- Writes of registers leave the rules' state. -/
theorem Heads.ofRul {x : Dev} (h : Heads e d) (hx : x.rul = d.rul) : Heads e x := (congrArg passHead hx).trans h

theorem Heads.set {f : Field} {v : Nat} (h : Heads e d) : Heads e (d.set f v) := h
theorem Heads.sat {f : Field} {i : Nat} (h : Heads e d) : Heads e (d.sat f i) := h
theorem Heads.draw (h : Heads e d) : Heads e d.draw.2 := h
theorem Heads.event {c i x y : Nat} (h : Heads e d) : Heads e (d.event c i x y) := h
theorem Heads.raise {b : IntBlk} {k : Nat} (h : Heads e d) : Heads e (d.raise b k) := h.ofRul (by simp)

theorem Heads.noteDiff {kind idx : Nat} (h : Heads e d) : Heads e (noteDiff kind idx d) := .ite h.modRul h.modRul.modRul.set.set

theorem Heads.pushEdge {x : Edge} (h : Heads e d) : Heads e (pushEdge x d) := h.modRul

theorem Heads.setCopy1 {a : Nat} {w : Word32} (h : Heads e d) : Heads e (setCopy1 a w d) := h.modRul

theorem Heads.tableUpset {u : Upset} (h : Heads e d) : Heads e (tableUpset u d) := by
  unfold Machine.tableUpset
  have hr : ∀ w, Heads e { d with regs := rput d.regs u.index w } := fun _ => h
  exact .ite h (.ite (Heads.modRul (.ite h.setCopy1 (hr _).setCopy1)) (.ite h.setCopy1 (hr _).setCopy1))

theorem Heads.stepItem {α : Type} [Inhabited α] [DecidableEq α] {get : EngV → FMap α} {put : EngV → FMap α → EngV}
    {f : Bool → EngV → Nat → α} {hit : Nat → α → α} {same : α → α → Bool} {kind : Nat} {ups : List Upset} {i : Nat}
    (h : Heads e d) : Heads e (stepItem get put f hit same kind ups i d) := .ite h.modRul h.modRul.noteDiff

theorem Heads.stepArea {ups : List Upset} {i : Nat} (h : Heads e d) : Heads e (stepArea ups i d) := h.stepItem

theorem Heads.stepPair {ups : List Upset} {i : Nat} (h : Heads e d) : Heads e (stepPair ups i d) := h.stepItem

theorem Heads.stepIslands {ups : List Upset} (h : Heads e d) : Heads e (stepIslands ups d) := by
  unfold Machine.stepIslands
  exact h.modRul.foldl fun _ _ h2 => .ite h2 h2.noteDiff

theorem Heads.stepDet {ups : List Upset} {due : List Nat} {i : Nat} (h : Heads e d) : Heads e (stepDet ups due i d) := h.stepItem

theorem Heads.stepRule {ups : List Upset} {k : Nat} {due : List Nat} {i : Nat} (h : Heads e d) :
    Heads e (stepRule ups k due i d) := h.stepItem

theorem Heads.decideRule {t : Time} {was : Bool} {r : Nat} (h : Heads e d) : Heads e (decideRule t was r d) :=
  .ite h h.pushEdge

theorem Heads.passRule {t : Time} {ups : List Upset} {k : Nat} {due : List Nat} {r : Nat} (h : Heads e d) :
    Heads e (passRule t ups k due r d) := by
  unfold Machine.passRule
  dsimp only
  split
  · exact .ite h.pushEdge.stepRule.decideRule h.pushEdge
  · exact .ite h.stepRule.decideRule h

theorem Heads.takeRegions {k : Nat} {due : List Nat} (h : Heads e d) : Heads e (takeRegions k due d) := by
  have : Fact (StatePart.hmp ∈ [StatePart.hmp, .free]) := ⟨by decide⟩
  have : Fact (StatePart.free ∈ [StatePart.hmp, .free]) := ⟨by decide⟩
  have hr : Heads e (readRegions k due d).2 :=
    h.ofTame (Tame.readRegions (.refl [StatePart.hmp, .free] d)) (by decide)
  unfold Machine.takeRegions
  exact hr.modRul

/-- The areas, pairs and islands of a pass. -/
theorem Heads.areaSteps {ups : List Upset} {l : List Nat} (h : Heads e d) :
    Heads e (Machine.stepIslands ups (Machine.overList l (Machine.stepPair ups) (Machine.overAll 64 (Machine.stepArea ups) d))) :=
  ((h.overAll fun _ _ h9 => h9.stepArea).overList fun _ _ h8 => h8.stepPair).stepIslands

theorem Heads.passSteps {t : Time} {ups : List Upset} {k : Nat} {due : List Nat} (h : Heads e d) :
    Heads e (passSteps t ups k due d) := by
  unfold Machine.passSteps
  exact Heads.modRul (Heads.overList (.ite (Heads.overList (.ite h.areaSteps h) fun _ _ h5 => h5.stepDet)
    (.ite h.areaSteps h)) fun _ _ h3 => h3.passRule)

theorem Heads.showArea {a : Nat} (h : Heads e d) : Heads e (showArea a d) := h
theorem Heads.showPair {k : Nat} (h : Heads e d) : Heads e (showPair k d) := h
theorem Heads.showDet {q : Nat} (h : Heads e d) : Heads e (showDet q d) := h
theorem Heads.showRule {r : Nat} (h : Heads e d) : Heads e (showRule r d) := h

theorem Heads.countEdges {n : Nat} (h : Heads e d) : Heads e (countEdges n d) :=
  h.ofTame (Tame.countEdges (.refl [] d)) (by decide)

theorem Heads.copyBack (h : Heads e d) : Heads e (copyBack d) := by
  unfold Machine.copyBack
  refine h.foldl fun b x hx => hx.modRul fun q => ?_
  dsimp only
  split <;> rfl

theorem Heads.integRaise {t : Time} (h : Heads e d) : Heads e (integRaise t d) := by
  unfold Machine.integRaise
  exact .ite h.draw.draw.raise.event.modRul.set h.draw.draw.raise.event.modRul.set.pushEdge

theorem Heads.passInteg {t : Time} {q0 : List Edge} (h : Heads e d) : Heads e (passInteg t q0 d) := by
  unfold Machine.passInteg
  exact .ite (.ite h.modRul.set.pushEdge h) h.modRul.integRaise.modRul.copyBack.modRul.sat.sat

theorem Heads.modalSpread {t : Time} {k : Nat} {due : List Nat} {o : Option OpEnv} {p : Bool} (h : Heads e d) :
    Heads e (modalSpread t k due o p d) := by
  have : Fact (StatePart.hif ∈ [StatePart.hif, .hmp, .mdl, .free]) := ⟨by decide⟩
  have : Fact (StatePart.hmp ∈ [StatePart.hif, .hmp, .mdl, .free]) := ⟨by decide⟩
  have : Fact (StatePart.mdl ∈ [StatePart.hif, .hmp, .mdl, .free]) := ⟨by decide⟩
  have : Fact (StatePart.free ∈ [StatePart.hif, .hmp, .mdl, .free]) := ⟨by decide⟩
  exact h.ofTame (Tame.modalSpread (.refl [StatePart.hif, .hmp, .mdl, .free] d)) (by decide)

theorem Heads.skipSpread {t : Time} {k : Nat} {due : List Nat} (h : Heads e d) : Heads e (skipSpread t k due d) := by
  unfold Machine.skipSpread
  exact ((h.modRul.overList fun _ _ h4 => h4.showPair).overList fun _ _ h3 => h3.showDet).modalSpread

theorem Heads.groupingChange {b : List Nat} (h : Heads e d) : Heads e (groupingChange b d) := by
  unfold Machine.groupingChange
  exact .ite h h.draw.draw.raise.event

theorem Heads.regroup {b : List Nat} {c : Prop} [Decidable c] (h : Heads e d) :
    Heads e (if c then Machine.groupingChange b d else d) := .ite h.groupingChange h

theorem Heads.rulTakeMode {t : Time} (h : Heads e d) : Heads e (rulTakeMode t d) := by
  unfold Machine.rulTakeMode
  refine .ite h ?_
  unfold pinsUpdate
  refine Heads.overAll h.modRul fun n x hx => ?_
  unfold pinUpdate
  exact hx.modRul

end

/-- A pass takes the spread at the head of the queue. -/
theorem rulePass_head (t : Time) (ups : List Upset) {it : EvalItem} {rest : List EvalItem} (h : d.rul.evalQ = it :: rest) :
    passHead (rulePass t ups d).rul = (rest, it.inst, it.seq, d.rul.passes + 1) := by
  have h0 : Heads (d.modRul fun x => { x with
      evalQ := rest, lastInst := it.inst, lastSeq := it.seq, passes := x.passes + 1, diff := [] }) (rulePass t ups d) := by
    unfold rulePass
    rw [h]
    dsimp only
    refine Heads.foldl (Heads.modalSpread (Heads.set (Heads.set (Heads.sat (Heads.regroup ?_))))) fun _ _ hx => hx.skipSpread
    refine ((Heads.overAll (Heads.countEdges (Heads.modRul (Heads.passInteg ?_))) fun _ _ hx => hx.showArea).overList
      fun _ _ hx => hx.showPair).overList (fun _ _ hx => hx.showDet) |>.overList fun _ _ hx => hx.showRule
    exact (Heads.foldl (.refl _) fun _ _ hx => hx.tableUpset).takeRegions.passSteps
  exact h0

theorem pass_commands : (∀ (s : State) (ups : List Upset), s.dev.rul.evalQ = [] ∨ s.dev.up islAna = false →
    exec (.rulePass ups) s = .next (s.after s.dev)) ∧
  (∀ (s : State) (ups : List Upset) (it : EvalItem) (rest : List EvalItem), s.dev.up islAna = true →
    s.dev.rul.evalQ = it :: rest →
    ∃ t, exec (.rulePass ups) s = .next t ∧ t = s.after (rulTakeMode s.time (rulePass s.time ups s.dev)) ∧
      t.dev.rul.evalQ = rest ∧ t.dev.rul.lastInst = it.inst ∧
      t.dev.rul.lastSeq = it.seq ∧ t.dev.rul.passes = s.dev.rul.passes + 1) := by
  refine ⟨fun s ups h => ?_, fun s ups it rest hu hq => ?_⟩
  · rw [exec_rulePass, if_neg fun hc => ?_]
    rcases h with h | h
    · exact hc.2 h
    · exact absurd hc.1 (by simp [h])
  · rw [exec_rulePass, if_pos ⟨hu, by simp [hq]⟩]
    have hh : passHead (rulTakeMode s.time (rulePass s.time ups s.dev)).rul = (rest, it.inst, it.seq, s.dev.rul.passes + 1) :=
      Eq.trans (Heads.rulTakeMode (.refl (rulePass s.time ups s.dev))) (rulePass_head s.time ups hq)
    simp only [passHead, Prod.mk.injEq] at hh
    obtain ⟨h1, h2, h3, h4⟩ := hh
    refine ⟨_, rfl, rfl, ?_, ?_, ?_, ?_⟩
    · rw [after_rul, h1]
    · rw [after_rul, h2]
    · rw [after_rul, h3]
    · rw [after_rul, h4]

/-! ## Edges (R360, R363) -/

theorem decideRule_edge (t : Time) (was : Bool) (r : Nat) (d : Dev) :
    (acted d r = was → decideRule t was r d = d) ∧
    (acted d r ≠ was → ∃ e, (decideRule t was r d).rul.actQ = d.rul.actQ ++ [e] ∧ e.rule = some r ∧
      e.kind = b2n (acted d r) ∧ e.inst = d.rul.lastInst ∧ e.seq = d.rul.lastSeq ∧
      (decideRule t was r d).regs = d.regs ∧ (decideRule t was r d).evs = d.evs) := by
  unfold decideRule
  dsimp only
  refine ⟨fun h => by rw [if_pos (by simp [h])], fun h => ?_⟩
  rw [if_neg (by simpa using h)]
  exact ⟨_, rfl, rfl, rfl, rfl, rfl, rfl, rfl⟩

/-! ## INTEGRITY (R362, R364, R365) -/

/-- INTEGRITY is raised where it was not: its rising edge joins the queue. -/
theorem integRaise_rises (t : Time) (h : d.rul.integ = false) : ∃ e, (integRaise t d).rul =
      { d.rul with integ := true, integAck := false, actQ := d.rul.actQ ++ [e] } ∧ e.rule = none ∧ e.kind = 1 := by
  unfold integRaise
  dsimp only
  rw [if_neg (by simp [h])]
  refine ⟨edgeOf t d none 1 wInvalid true false, ?_, rfl, rfl⟩
  simp [pushEdge, Dev.modRul, Dev.draw]

theorem integRaise_status (t : Time) (d : Dev) : (integRaise t d).on Reg.RUL_STATUS.INTEG = true ∧
    (integRaise t d).get Reg.RUL_CNT_INTEG.N = d.get Reg.RUL_CNT_INTEG.N := by
  have hdraw : ∀ x : Dev, x.draw.2.get Reg.RUL_CNT_INTEG.N = x.get Reg.RUL_CNT_INTEG.N := fun _ => rfl
  have hr : ∀ x : Dev, (x.raise intRul 1).get Reg.RUL_CNT_INTEG.N = x.get Reg.RUL_CNT_INTEG.N := fun x => by
    have hw := Dev.raise_word x intRul 1 (Reg.RUL_CNT_INTEG.N.reg.addr 0)
    rw [if_neg (by decide)] at hw
    exact getN_of_word hw
  have key : ∀ y : Dev, (y.set Reg.RUL_STATUS.INTEG 1).on Reg.RUL_STATUS.INTEG = true ∧
      (y.set Reg.RUL_STATUS.INTEG 1).get Reg.RUL_CNT_INTEG.N = y.get Reg.RUL_CNT_INTEG.N := fun y =>
    ⟨Dev.on_set_same y _ 1 rfl, Dev.get_set_other y _ _ 1 (by decide)⟩
  unfold integRaise
  dsimp only
  split
  · refine ⟨(key _).1, (key _).2.trans ?_⟩
    rw [Dev.modRul_get, Dev.event_get, hr, hdraw, hdraw]
  · refine ⟨(key _).1, (key _).2.trans ?_⟩
    rw [Dev.modRul_get, Dev.event_get, hr, hdraw, hdraw]

/-- Copying the states back changes nothing but the engines' states. -/
theorem copyBack_engines (d : Dev) : ∃ a b, copyBack d = d.modRul fun x => { x with e0 := a, e1 := b } := by
  unfold copyBack
  generalize hl : d.rul.diff = l
  clear hl
  have key : ∀ (l : List (Nat × Nat)) (f : Dev → Nat × Nat → Dev)
      (_ : ∀ x p, ∃ a b, f x p = x.modRul fun q => { q with e0 := a, e1 := b }) (x : Dev),
      ∃ a b, l.foldl f x = x.modRul fun q => { q with e0 := a, e1 := b } := by
    intro l f hf
    induction l with
    | nil => exact fun x => ⟨x.rul.e0, x.rul.e1, rfl⟩
    | cons p l ih =>
      intro x
      obtain ⟨a, b, hab⟩ := hf x p
      obtain ⟨a', b', hab'⟩ := ih (f x p)
      exact ⟨a', b', by rw [List.foldl_cons, hab', hab]; rfl⟩
  refine key l _ (fun x p => ?_) d
  dsimp only
  split <;> exact ⟨_, _, rfl⟩

theorem passInteg_raises (t : Time) (q0 : List Edge) (d : Dev) (hd : d.rul.diff ≠ []) (hi : d.rul.integ = false) :
    (passInteg t q0 d).rul.integ = true ∧ (passInteg t q0 d).rul.diff = [] ∧
      (passInteg t q0 d).on Reg.RUL_STATUS.INTEG = true ∧
      (passInteg t q0 d).get Reg.RUL_CNT_INTEG.N = min (d.get Reg.RUL_CNT_INTEG.N + 1) (2 ^ 32 - 1) ∧
      ∃ e es, (passInteg t q0 d).rul.actQ = q0 ++ e :: es ∧ e.rule = none ∧ e.kind = 1 ∧
        es.map Edge.rule = (d.rul.actQ.drop q0.length).map Edge.rule ∧ (∀ x ∈ es, x.dis = true) := by
  have hne : ¬ d.rul.diff.isEmpty = true := by simpa using hd
  obtain ⟨e, hr, he, hk⟩ := integRaise_rises (d := d.modRul fun x => { x with actQ := q0 }) t hi
  obtain ⟨hs, hc⟩ := integRaise_status t (d.modRul fun x => { x with actQ := q0 })
  unfold passInteg
  rw [if_neg hne]
  dsimp only
  generalize integRaise t (d.modRul fun x => { x with actQ := q0 }) = y at hr hs hc ⊢
  obtain ⟨a, b, hab⟩ := copyBack_engines (y.modRul fun x => { x with
    actQ := x.actQ ++ (d.rul.actQ.drop q0.length).map fun e => { e with dis := true } })
  rw [hab]
  refine ⟨?_, rfl, ?_, ?_, e, (d.rul.actQ.drop q0.length).map fun e => { e with dis := true }, ?_, he, hk, ?_, ?_⟩
  · show y.rul.integ = true
    rw [hr]
  · refine Eq.trans ?_ hs
    exact (Dev.onN_setN_addr _ Reg.RUL_INTEG_STAT.COUNT _ 0 0 _ (by decide)).trans
      (Dev.onN_setN_addr _ Reg.RUL_CNT_INTEG.N _ 0 0 _ (by decide))
  · refine (Dev.getN_setN_addr _ Reg.RUL_INTEG_STAT.COUNT Reg.RUL_CNT_INTEG.N 0 0 _ (by decide)).trans ?_
    refine (Dev.get_sat_same _ Reg.RUL_CNT_INTEG.N rfl).trans ?_
    exact congrArg (fun k => min (k + 1) (2 ^ 32 - 1)) hc
  · show y.rul.actQ ++ _ = _
    rw [hr]
    simp [Dev.modRul]
  · rw [List.map_map]
    rfl
  · intro x hx
    obtain ⟨z, -, rfl⟩ := List.mem_map.mp hx
    rfl

theorem passInteg_clears (t : Time) (q0 : List Edge) (d : Dev) (hd : d.rul.diff = []) :
    (d.rul.integ = true → d.rul.integAck = true →
      (passInteg t q0 d).rul.integ = false ∧ (passInteg t q0 d).get Reg.RUL_STATUS.INTEG = 0 ∧
        ∃ e, (passInteg t q0 d).rul.actQ = d.rul.actQ ++ [e] ∧ e.rule = none ∧ e.kind = 0) ∧
    (d.rul.integ = false ∨ d.rul.integAck = false → passInteg t q0 d = d) := by
  have he : d.rul.diff.isEmpty = true := by simp [hd]
  unfold passInteg
  rw [if_pos he]
  refine ⟨fun hi ha => ?_, fun h => if_neg (by rcases h with h | h <;> simp [h])⟩
  rw [if_pos (by simp [hi, ha])]
  exact ⟨rfl, Dev.get_set_same _ _ _ rfl (by decide), _, rfl, rfl, rfl⟩

/-- An alarm record leaves the rules' state but the count of dropped records. -/
theorem alarmRecord_rul (e : Edge) (d : Dev) : ∃ n, (alarmRecord e d).rul = { d.rul with dropped := n } := by
  have hdel : ∀ {k : Nat} {bs : List Byte} {r : Delivery × Dev}, deliver k bs [] d = r → r.2.rul = d.rul := by
    rintro k bs _ rfl
    have : Fact (StatePart.hif ∈ [StatePart.hif]) := ⟨by decide⟩
    exact (Tame.deliver (.refl [StatePart.hif] d)).stands .rul (by decide)
  have hlost : ∀ x : Dev, x.rul = d.rul → ∃ n, (((x.sat Reg.RUL_CNT_ALRM_DROP.N).cause intRul 5 0 0).modRul fun x =>
      { x with dropped := min (2 ^ 32 - 1) (x.dropped + 1) }).rul = { d.rul with dropped := n } := fun x hx =>
    ⟨min (2 ^ 32 - 1) (d.rul.dropped + 1), by simp [Dev.modRul, hx]⟩
  unfold alarmRecord
  split
  · exact ⟨d.rul.dropped, rfl⟩
  · dsimp only
    split
    · exact hlost d rfl
    · split
      · next x hx => exact ⟨0, congrArg (fun r : Rul => { r with dropped := 0 }) (hdel hx)⟩
      · next x hx => exact ⟨d.rul.dropped, hdel hx⟩
      · next x hx => exact hlost x (hdel hx)

theorem integAck_commands (s : State) (hu : s.dev.up islAna = true) :
    (s.dev.rul.integ = false → exec .integAck s = .next (s.after s.dev)) ∧
    (s.dev.rul.integ = true → ∃ t, exec .integAck s = .next t ∧ t.dev.rul.integAck = true ∧ t.dev.rul.integ = true) := by
  have hu' : s.dev.up (islandOf 0xC0014) = true := hu
  rw [exec_integAck, onWrite_up (integAck s.time) hu', integAck]
  refine ⟨fun h => by rw [if_pos (by simp [h])], fun h => ?_⟩
  rw [if_neg (by simp [h])]
  obtain ⟨n, hn⟩ := alarmRecord_rul (edgeOf s.time s.dev none 2 wInvalid false false)
    (s.dev.modRul fun x => { x with integAck := true })
  refine ⟨_, rfl, ?_, ?_⟩
  · rw [after_rul, hn]
    rfl
  · rw [after_rul, hn]
    exact h

/-- An engine in which a rule is acknowledged. -/
def EngV.acknowledged (e : EngV) (r : Nat) : EngV := { e with rules := tmod e.rules r fun v => { v with acked := true } }

theorem ruleAck_takes {t : Time} {r : Nat} (hv : d.onN Reg.T_RULE.VALID r = true) (hl : d.onN Reg.T_RULE.LATCH r = true)
    (ha : d.onN Reg.T_RSTATE.ACTIVE r = true) : ∃ n, (ruleAck t r d).rul =
      { d.rul with e0 := d.rul.e0.acknowledged r, e1 := d.rul.e1.acknowledged r, dropped := n } := by
  unfold ruleAck
  rw [if_neg (by simp [hv, hl, ha])]
  exact alarmRecord_rul _ _

theorem ruleAck_commands (s : State) (r : Nat) (hu : s.dev.up islAna = true) (hr : r < 4096) :
    (s.dev.onN Reg.T_RULE.VALID r = false ∨ s.dev.onN Reg.T_RULE.LATCH r = false ∨
        s.dev.onN Reg.T_RSTATE.ACTIVE r = false → exec (.ruleAck r) s = .next (s.after s.dev)) ∧
    (s.dev.onN Reg.T_RULE.VALID r = true → s.dev.onN Reg.T_RULE.LATCH r = true →
      s.dev.onN Reg.T_RSTATE.ACTIVE r = true → ∃ t, exec (.ruleAck r) s = .next t ∧
        (tget t.dev.rul.e0.rules r).acked = true ∧ (tget t.dev.rul.e1.rules r).acked = true ∧
        (tget t.dev.rul.e0.rules r).active = (tget s.dev.rul.e0.rules r).active ∧
        (∀ q, q ≠ r → tget t.dev.rul.e0.rules q = tget s.dev.rul.e0.rules q)) := by
  have hu' : s.dev.up (islandOf 0xC0014) = true := hu
  rw [exec_ruleAck, Nat.mod_eq_of_lt hr, onWrite_up (ruleAck s.time r) hu']
  refine ⟨fun h => ?_, fun hv hl ha => ?_⟩
  · rw [ruleAck, if_pos (by rcases h with h | h | h <;> simp [h])]
  · obtain ⟨n, hn⟩ := ruleAck_takes (t := s.time) hv hl ha
    refine ⟨_, rfl, ?_, ?_, ?_, fun q hq => ?_⟩
    · rw [after_rul, hn]
      exact congrArg RuleV.acked (tget_tmod_same s.dev.rul.e0.rules r fun v => { v with acked := true })
    · rw [after_rul, hn]
      exact congrArg RuleV.acked (tget_tmod_same s.dev.rul.e1.rules r fun v => { v with acked := true })
    · rw [after_rul, hn]
      exact (congrArg RuleV.active (tget_tmod_same s.dev.rul.e0.rules r fun v => { v with acked := true })).trans rfl
    · rw [after_rul, hn]
      exact (tget_tmod s.dev.rul.e0.rules r q fun v => { v with acked := true }).trans (if_neg hq)

/-- Settles O39: one evaluation by its cases; a pass by what it keeps of the queue's head; INTEGRITY by its edges. -/
theorem ruleEvaluation : Obligations.RuleEvaluation := by
  obtain ⟨h1, h2⟩ := pass_commands
  exact ⟨⟨ruleCount_counts, fun d e1 k due e r h => ruleStep_holds h, fun d e1 k due e r c hd hx hg hp =>
    ruleStep_nan hd hx hg hp, fun d e1 e r x active h => ruleMet_gated x active h⟩,
    ⟨h1, h2, fun d r => rfl, decideRule_edge⟩, passInteg_raises, passInteg_clears, integAck_commands, ruleAck_commands⟩

end Sys2Proof.Machine

/-!
PROOFS. The entries of rules, areas and detectors, the comparison of the table copies, and host rule states (R342, R352 to
R354, R366, R381, R382).
-/

namespace Sys2Proof.Machine

open Sys2Proof

variable {d : Dev}

theorem exec_areaValidate (a : Nat) (v : Word32) (s : State) :
    exec (.areaValidate a v) s =
      .next (s.after (onWrite 0x330000 (fun d => if a < 64 then areaValidate a v d else d) s.dev)) := rfl

theorem exec_detectorValidate (q : Nat) (v : Word32) (s : State) :
    exec (.detectorValidate q v) s =
      .next (s.after (onWrite 0x344000 (fun d => if q < 1024 then detectorValidate q v d else d) s.dev)) := rfl

theorem exec_hstateWrite (j : Nat) (v : Word32) (s : State) :
    exec (.hstateWrite j v) s =
      .next (s.after (onWrite 0xC0400 (fun d => if j < 128 then hstateWrite s.time j v d else d) s.dev)) := rfl

theorem exec_ruleValidate (r : Nat) (v : Word32) (s : State) :
    exec (.ruleValidate r v) s =
      .next (s.after (onWrite 0x300000 (fun d => if r < 4096 then ruleValidate r v d else d) s.dev)) := rfl

theorem exec_tableCopyCheck (ups : List Upset) (s : State) :
    exec (.tableCopyCheck ups) s =
      .next (s.after (if s.dev.up islAna then tableCopyCheck s.time ups s.dev else s.dev)) := rfl

/-! ## A checked word 0 (R342, R352 to R354) -/

section
variable {f : Field} {i : Nat} {v : Word32} {ok : Dev → Bool} {made dropped : Dev → Dev}

/-- VALID of a checked entry is bit 0 of its word. -/
theorem valid_bit (hw : f.width = 1) (hl : f.lo = 0) : bitOf (d.word (f.reg.addr i)) 0 = d.onN f i := by
  rw [Dev.onN_bit _ hw, hl]

theorem writeValid_clears (hw : f.width = 1) (hl : f.lo = 0) (hv : bitOf v 0 = false) :
    writeValid (f.reg.addr i) v ok made dropped d =
      if d.onN f i then dropped (putValid (f.reg.addr i) v false d) else putValid (f.reg.addr i) v false d := by
  rw [← valid_bit hw hl]
  exact if_pos (by simp [hv])

theorem writeValid_checks (hw : f.width = 1) (hl : f.lo = 0) (hv : bitOf v 0 = true) :
    writeValid (f.reg.addr i) v ok made dropped d =
      if ok (putValid (f.reg.addr i) v true d) then
        if d.onN f i then putValid (f.reg.addr i) v true d else made (putValid (f.reg.addr i) v true d)
      else if d.onN f i then d.cause intRul 0 0 0 else (putValid (f.reg.addr i) v false d).cause intRul 0 0 0 := by
  rw [← valid_bit hw hl]
  exact if_neg (by simp [hv])

theorem putValid_unset (hw : f.width = 1) (hl : f.lo = 0) : (putValid (f.reg.addr i) v false d).onN f i = false :=
  putUnvalid_invalid d v hw hl

theorem putValid_set (hw : f.width = 1) (hl : f.lo = 0) (hf : f ∈ fieldsAt (f.reg.addr i)) :
    (putValid (f.reg.addr i) v true d).onN f i = true :=
  putWord_valid d hw hl hf (by simp [bitOf])
end

theorem area_commands (s : State) (a : Nat) (v : Word32) (ha : a < 64) (hu : s.dev.up islAna = true) :
    (s.dev.onN Reg.T_AREA.VALID a = true → bitOf v 0 = true →
      exec (.areaValidate a v) s = .next (s.after (s.dev.cause intRul 0 0 0))) ∧
    (s.dev.onN Reg.T_AREA.VALID a = false → bitOf v 0 = true →
      (areaOk a (putValid (Reg.T_AREA.VALID.reg.addr a) v true s.dev) = true →
        exec (.areaValidate a v) s = .next (s.after (putValid (Reg.T_AREA.VALID.reg.addr a) v true s.dev))) ∧
      (areaOk a (putValid (Reg.T_AREA.VALID.reg.addr a) v true s.dev) = false →
        exec (.areaValidate a v) s =
          .next (s.after ((putValid (Reg.T_AREA.VALID.reg.addr a) v false s.dev).cause intRul 0 0 0)))) ∧
    (bitOf v 0 = false →
      exec (.areaValidate a v) s = .next (s.after (putValid (Reg.T_AREA.VALID.reg.addr a) v false s.dev))) := by
  have hu' : s.dev.up (islandOf 0x330000) = true := hu
  have hx : exec (.areaValidate a v) s = .next (s.after (areaValidate a v s.dev)) := by
    rw [exec_areaValidate, onWrite_up _ hu', if_pos ha]
  rw [hx, areaValidate]
  refine ⟨fun hv h0 => by rw [if_pos (by simp [hv, h0])]; rfl, fun hv h0 => ?_, fun h0 => ?_⟩
  · rw [if_neg (by simp [hv]), writeValid_checks rfl rfl h0, hv]
    exact ⟨fun hk => by rw [hk]; rfl, fun hk => by rw [hk]; rfl⟩
  · rw [if_neg (by simp [h0]), writeValid_clears rfl rfl h0]
    split <;> rfl

theorem rule_addr (r : Nat) : Reg.T_RULE.VALID.reg.addr r = 0x300000 + r * 0x20 := RegAt.addr_single rfl r
theorem det_addr (q : Nat) : Reg.T_QDET.VALID.reg.addr q = 0x344000 + q * 0x20 := RegAt.addr_single rfl q
theorem ruleState_addr (r : Nat) : At.T_RSTATE_0.addr r = 0x320000 + r * 0x10 := RegAt.addr_single rfl r
theorem detState_addr (q : Nat) : At.T_QDSTAT_0.addr q = 0x34C000 + q * 0x10 := RegAt.addr_single rfl q

theorem rule_field {r : Nat} (hr : r < 4096) : Reg.T_RULE.VALID ∈ fieldsAt (Reg.T_RULE.VALID.reg.addr r) :=
  List.mem_filter.mpr ⟨by decide +kernel, index?_single rfl (by decide) hr⟩

theorem det_field {q : Nat} (hq : q < 1024) : Reg.T_QDET.VALID ∈ fieldsAt (Reg.T_QDET.VALID.reg.addr q) :=
  List.mem_filter.mpr ⟨by decide +kernel, index?_single rfl (by decide) hq⟩

theorem rule_notIntake {r : Nat} (hr : r < 4096) : ¬ intakeWord (Reg.T_RULE.VALID.reg.addr r) := by
  rw [rule_addr]
  exact notIntake_between (by omega) (by omega)

theorem det_notIntake {q : Nat} (hq : q < 1024) : ¬ intakeWord (Reg.T_QDET.VALID.reg.addr q) := by
  rw [det_addr]
  exact notIntake_between (by omega) (by omega)

section
variable {W : Nat → Prop} {e : Dev} {r : Nat}

theorem Apart.showRule (h : Apart W e d) (h0 : ¬ W (At.T_RSTATE_0.addr r)) (h1 : ¬ W (At.T_RSTATE_1.addr r)) :
    Apart W e (showRule r d) :=
  Apart.setN (f := Reg.T_RSTATE.X) (Apart.setB (f := Reg.T_RSTATE.EVAL) (Apart.setN (f := Reg.T_RSTATE.DCOUNT)
    (Apart.setN (f := Reg.T_RSTATE.PCOUNT) (Apart.setB (f := Reg.T_RSTATE.MET) (Apart.setB (f := Reg.T_RSTATE.ACKED)
      (h.setB (f := Reg.T_RSTATE.ACTIVE) h0) h0) h0) h0) h0) h0) h1

theorem Apart.setRule {v : RuleV} (h : Apart W e d) (h0 : ¬ W (At.T_RSTATE_0.addr r)) (h1 : ¬ W (At.T_RSTATE_1.addr r)) :
    Apart W e (setRule r v d) := Apart.showRule (h.ofRegs (Dev.modRul_regs d _)) h0 h1

theorem Apart.setDet {q : Nat} {v : DetV} (h : Apart W e d) (h0 : ¬ W (At.T_QDSTAT_0.addr q))
    (h1 : ¬ W (At.T_QDSTAT_1.addr q)) (h2 : ¬ W (At.T_QDSTAT_2.addr q)) : Apart W e (setDet q v d) := by
  unfold Machine.setDet Machine.showDet
  exact Apart.setN (f := Reg.T_QDSTAT.Y) (Apart.setN (f := Reg.T_QDSTAT.ENV) (Apart.setN (f := Reg.T_QDSTAT.SETTLE)
    (Apart.setN (f := Reg.T_QDSTAT.HCOUNT) (Apart.setB (f := Reg.T_QDSTAT.ACTIVE) (Apart.setN (f := Reg.T_QDSTAT.STATE)
      (h.ofRegs (Dev.modRul_regs d _)) h0) h0) h0) h0) h1) h2
end

/-- The rule's own word stands through a change of its state. -/
theorem setRule_valid (r : Nat) (v : RuleV) (d : Dev) (hr : r < 4096) :
    (setRule r v d).onN Reg.T_RULE.VALID r = d.onN Reg.T_RULE.VALID r := by
  refine ((Apart.refl (· = Reg.T_RULE.VALID.reg.addr r) d).setRule ?_ ?_).onN rfl
  · rw [ruleState_addr, rule_addr]
    omega
  · rw [RegAt.addr_single (r := At.T_RSTATE_1) rfl, rule_addr]
    omega

theorem setDet_valid (q : Nat) (v : DetV) (d : Dev) (hq : q < 1024) :
    (setDet q v d).onN Reg.T_QDET.VALID q = d.onN Reg.T_QDET.VALID q := by
  refine ((Apart.refl (· = Reg.T_QDET.VALID.reg.addr q) d).setDet ?_ ?_ ?_).onN rfl
  · rw [detState_addr, det_addr]
    omega
  · rw [RegAt.addr_single (r := At.T_QDSTAT_1) rfl, det_addr]
    omega
  · rw [RegAt.addr_single (r := At.T_QDSTAT_2) rfl, det_addr]
    omega

section
variable (r : Nat) (d : Dev)

theorem setRule_e0 (v : RuleV) : tget (setRule r v d).rul.e0.rules r = v := tget_tset_same d.rul.e0.rules r v
theorem setRule_e1 (v : RuleV) : tget (setRule r v d).rul.e1.rules r = v := tget_tset_same d.rul.e1.rules r v
theorem setRule_falling (v : RuleV) : (setRule r v d).rul.falling = d.rul.falling := rfl
theorem setDet_e0 (v : DetV) : tget (setDet r v d).rul.e0.dets r = v := tget_tset_same d.rul.e0.dets r v
theorem setDet_e1 (v : DetV) : tget (setDet r v d).rul.e1.dets r = v := tget_tset_same d.rul.e1.dets r v
end

theorem exec_ruleValidate_up {s : State} {r : Nat} (v : Word32) (hr : r < 4096) (hu : s.dev.up islAna = true) :
    exec (.ruleValidate r v) s = .next (s.after (ruleValidate r v s.dev)) := by
  have hu' : s.dev.up (islandOf 0x300000) = true := hu
  rw [exec_ruleValidate, onWrite_up _ hu', if_pos hr]

theorem exec_detectorValidate_up {s : State} {q : Nat} (v : Word32) (hq : q < 1024) (hu : s.dev.up islAna = true) :
    exec (.detectorValidate q v) s = .next (s.after (detectorValidate q v s.dev)) := by
  have hu' : s.dev.up (islandOf 0x344000) = true := hu
  rw [exec_detectorValidate, onWrite_up _ hu', if_pos hq]

theorem rule_made (s : State) (r : Nat) (v : Word32) (hr : r < 4096) (hu : s.dev.up islAna = true)
    (hv : s.dev.onN Reg.T_RULE.VALID r = false) (h0 : bitOf v 0 = true) :
    (ruleOk r (putValid (Reg.T_RULE.VALID.reg.addr r) v true s.dev) = true →
      ∃ t, exec (.ruleValidate r v) s = .next t ∧ t.dev.onN Reg.T_RULE.VALID r = true ∧
        tget t.dev.rul.e0.rules r = default ∧ tget t.dev.rul.e1.rules r = default ∧
        t.dev.getN Reg.T_RSTATE.EDGES r = 0) ∧
    (ruleOk r (putValid (Reg.T_RULE.VALID.reg.addr r) v true s.dev) = false →
      exec (.ruleValidate r v) s =
        .next (s.after ((putValid (Reg.T_RULE.VALID.reg.addr r) v false s.dev).cause intRul 0 0 0))) := by
  have ha : At.T_RSTATE_3.addr r = 0x32000C + r * 0x10 := RegAt.addr_single rfl r
  have ht : At.T_RSTATE_2.addr r = 0x320008 + r * 0x10 := RegAt.addr_single rfl r
  rw [exec_ruleValidate_up v hr hu, ruleValidate, writeValid_checks rfl rfl h0, hv]
  refine ⟨fun hk => ?_, fun hk => by rw [hk]; rfl⟩
  rw [if_pos hk, if_neg (by decide)]
  refine ⟨_, rfl, ?_, ?_, ?_, ?_⟩
  · rw [after_onN _ _ _ _ (rule_notIntake hr)]
    refine (Dev.onN_setN_addr _ Reg.T_RSTATE.EDGE_T _ _ _ _ (by rw [rule_addr]; show _ ≠ At.T_RSTATE_2.addr r; omega)).trans ?_
    refine (Dev.onN_setN_addr _ Reg.T_RSTATE.EDGES _ _ _ _ (by rw [rule_addr]; show _ ≠ At.T_RSTATE_3.addr r; omega)).trans ?_
    rw [setRule_valid _ _ _ hr]
    exact putValid_set rfl rfl (rule_field hr)
  · rw [after_rul, Dev.setN_rul, Dev.setN_rul, setRule_e0]
  · rw [after_rul, Dev.setN_rul, Dev.setN_rul, setRule_e1]
  · rw [after_getN _ _ _ _ (notIntake_between (by show _ ≤ At.T_RSTATE_3.addr r; omega)
      (by show At.T_RSTATE_3.addr r < _; omega))]
    refine (Dev.getN_setN_addr _ Reg.T_RSTATE.EDGE_T _ _ _ _ ?_).trans (Dev.getN_setN_same _ _ _ _ rfl)
    show At.T_RSTATE_3.addr r ≠ At.T_RSTATE_2.addr r
    omega

theorem rule_changed (s : State) (r : Nat) (v : Word32) (hr : r < 4096) (hu : s.dev.up islAna = true)
    (hv : s.dev.onN Reg.T_RULE.VALID r = true) :
    (bitOf v 0 = true → ruleOk r (putValid (Reg.T_RULE.VALID.reg.addr r) v true s.dev) = true →
      exec (.ruleValidate r v) s = .next (s.after (putValid (Reg.T_RULE.VALID.reg.addr r) v true s.dev))) ∧
    (bitOf v 0 = true → ruleOk r (putValid (Reg.T_RULE.VALID.reg.addr r) v true s.dev) = false →
      exec (.ruleValidate r v) s = .next (s.after (s.dev.cause intRul 0 0 0))) ∧
    (bitOf v 0 = false → ∃ t, exec (.ruleValidate r v) s = .next t ∧ t.dev.onN Reg.T_RULE.VALID r = false ∧
      tget t.dev.rul.e0.rules r = default ∧ tget t.dev.rul.e1.rules r = default ∧
      t.dev.rul.falling = s.dev.rul.falling ++ (if s.dev.onN Reg.T_RSTATE.ACTIVE r
        then [(r, BitVec.ofNat 32 (s.dev.getN Reg.T_RSTATE.X r))] else [])) := by
  rw [exec_ruleValidate_up v hr hu, ruleValidate]
  refine ⟨fun h0 hk => ?_, fun h0 hk => ?_, fun h0 => ?_⟩
  · rw [writeValid_checks rfl rfl h0, hv, hk]
    rfl
  · rw [writeValid_checks rfl rfl h0, hv, hk]
    rfl
  · rw [writeValid_clears rfl rfl h0, hv, if_pos rfl]
    refine ⟨_, rfl, ?_, ?_, ?_, ?_⟩
    · rw [after_onN _ _ _ _ (rule_notIntake hr), setRule_valid _ _ _ hr]
      refine Eq.trans ?_ (putValid_unset (d := s.dev) (v := v) (f := Reg.T_RULE.VALID) (i := r) rfl rfl)
      split <;> rfl
    · rw [after_rul, setRule_e0]
    · rw [after_rul, setRule_e1]
    · rw [after_rul, setRule_falling]
      split
      · rfl
      · exact (List.append_nil _).symm

theorem det_changed (s : State) (q : Nat) (v : Word32) (hq : q < 1024) (hu : s.dev.up islAna = true)
    (hv : s.dev.onN Reg.T_QDET.VALID q = true) :
    (bitOf v 0 = true → detOk q (putValid (Reg.T_QDET.VALID.reg.addr q) v true s.dev) = true →
      exec (.detectorValidate q v) s = .next (s.after (putValid (Reg.T_QDET.VALID.reg.addr q) v true s.dev))) ∧
    (bitOf v 0 = true → detOk q (putValid (Reg.T_QDET.VALID.reg.addr q) v true s.dev) = false →
      exec (.detectorValidate q v) s = .next (s.after (s.dev.cause intRul 0 0 0))) ∧
    (bitOf v 0 = false → ∃ t, exec (.detectorValidate q v) s = .next t ∧ t.dev.onN Reg.T_QDET.VALID q = false ∧
      tget t.dev.rul.e0.dets q = default ∧ tget t.dev.rul.e1.dets q = default) := by
  rw [exec_detectorValidate_up v hq hu, detectorValidate]
  refine ⟨fun h0 hk => ?_, fun h0 hk => ?_, fun h0 => ?_⟩
  · rw [writeValid_checks rfl rfl h0, hv, hk]
    rfl
  · rw [writeValid_checks rfl rfl h0, hv, hk]
    rfl
  · rw [writeValid_clears rfl rfl h0, hv, if_pos rfl]
    refine ⟨_, rfl, ?_, ?_, ?_⟩
    · rw [after_onN _ _ _ _ (det_notIntake hq), setDet_valid _ _ _ hq]
      exact putValid_unset rfl rfl
    · rw [after_rul, setDet_e0]
    · rw [after_rul, setDet_e1]

theorem det_made (s : State) (q : Nat) (v : Word32) (hq : q < 1024) (hu : s.dev.up islAna = true)
    (hv : s.dev.onN Reg.T_QDET.VALID q = false) (h0 : bitOf v 0 = true) :
    (detOk q (putValid (Reg.T_QDET.VALID.reg.addr q) v true s.dev) = true →
      ∃ t, exec (.detectorValidate q v) s = .next t ∧ t.dev.onN Reg.T_QDET.VALID q = true ∧
        tget t.dev.rul.e0.dets q = detFresh (detSettle (putValid (Reg.T_QDET.VALID.reg.addr q) v true s.dev) false q)) ∧
    (detOk q (putValid (Reg.T_QDET.VALID.reg.addr q) v true s.dev) = false →
      exec (.detectorValidate q v) s =
        .next (s.after ((putValid (Reg.T_QDET.VALID.reg.addr q) v false s.dev).cause intRul 0 0 0))) := by
  rw [exec_detectorValidate_up v hq hu, detectorValidate, writeValid_checks rfl rfl h0, hv]
  refine ⟨fun hk => ?_, fun hk => by rw [hk]; rfl⟩
  rw [if_pos hk, if_neg (by decide)]
  refine ⟨_, rfl, ?_, ?_⟩
  · rw [after_onN _ _ _ _ (det_notIntake hq), setDet_valid _ _ _ hq]
    exact putValid_set rfl rfl (det_field hq)
  · rw [after_rul, setDet_e0]

theorem cleared_commands (s : State) (i : Nat) (v : Word32) (hu : s.dev.up islAna = true) (h0 : bitOf v 0 = false) :
    (i < 4096 → s.dev.onN Reg.T_RULE.VALID i = false →
      exec (.ruleValidate i v) s = .next (s.after (putValid (Reg.T_RULE.VALID.reg.addr i) v false s.dev))) ∧
    (i < 1024 → s.dev.onN Reg.T_QDET.VALID i = false →
      exec (.detectorValidate i v) s = .next (s.after (putValid (Reg.T_QDET.VALID.reg.addr i) v false s.dev))) := by
  refine ⟨fun hi hv => ?_, fun hi hv => ?_⟩
  · rw [exec_ruleValidate_up v hi hu, ruleValidate, writeValid_clears rfl rfl h0, hv]
    rfl
  · rw [exec_detectorValidate_up v hi hu, detectorValidate, writeValid_clears rfl rfl h0, hv]
    rfl

theorem beyond_commands (s : State) (i : Nat) (v : Word32) (hu : s.dev.up islAna = true) :
    (4096 ≤ i → exec (.ruleValidate i v) s = .next (s.after s.dev)) ∧
    (1024 ≤ i → exec (.detectorValidate i v) s = .next (s.after s.dev)) ∧
    (64 ≤ i → exec (.areaValidate i v) s = .next (s.after s.dev)) := by
  have h1 : s.dev.up (islandOf 0x300000) = true := hu
  have h2 : s.dev.up (islandOf 0x344000) = true := hu
  have h3 : s.dev.up (islandOf 0x330000) = true := hu
  refine ⟨fun h => ?_, fun h => ?_, fun h => ?_⟩
  · rw [exec_ruleValidate, onWrite_up _ h1, if_neg (by omega)]
  · rw [exec_detectorValidate, onWrite_up _ h2, if_neg (by omega)]
  · rw [exec_areaValidate, onWrite_up _ h3, if_neg (by omega)]

/-! ## The comparison of the table copies (R366) -/

/-- The device after the copies have been struck. -/
def struck (ups : List Upset) (d : Dev) : Dev := ups.foldl (fun x u => tableUpset u x) d

/-- The device after the differing words have been repaired. -/
def repaired (d : Dev) : Dev := d.rul.copy1.foldl (fun x w => repairWord w.1 w.2 x) d

theorem tableCopyCheck_agrees {t : Time} {ups : List Upset}
    (h : (struck ups d).on Reg.RUL_CTRL.COPY_CHK = false ∨ (struck ups d).rul.copy1 = []) :
    tableCopyCheck t ups d = struck ups d := if_pos (by
  show (!(struck ups d).on Reg.RUL_CTRL.COPY_CHK || (struck ups d).rul.copy1.isEmpty) = true
  rcases h with h | h <;> simp [h])

theorem tableCopyCheck_differs {t : Time} {ups : List Upset} (hc : (struck ups d).on Reg.RUL_CTRL.COPY_CHK = true)
    (hn : (struck ups d).rul.copy1 ≠ []) : tableCopyCheck t ups d =
      if rulMode (repaired (struck ups d)) = 2 then repaired (struck ups d)
      else integRaise t ((noteDiff 5 (Config.freeWord (repaired (struck ups d)).draw.1).toNat
        (repaired (struck ups d)).draw.2).modRul fun x => { x with diff := [] }) := if_neg (by
  show ¬ (!(struck ups d).on Reg.RUL_CTRL.COPY_CHK || (struck ups d).rul.copy1.isEmpty) = true
  simp [hc, hn])

/-- INTEGRITY raised: the state it leaves, whether it was raised before or not. -/
theorem integRaise_state (t : Time) (d : Dev) : (integRaise t d).rul.integ = true ∧ (integRaise t d).rul.integAck = false ∧
    (integRaise t d).rul.diff = d.rul.diff := by
  unfold integRaise
  dsimp only
  split
  · simp [Dev.modRul, Dev.draw]
  · simp [pushEdge, Dev.modRul, Dev.draw]

theorem copyCheck_commands (s : State) (ups : List Upset) (d e : Dev) (hu : s.dev.up islAna = true)
    (hd : d = ups.foldl (fun x u => tableUpset u x) s.dev)
    (he : e = d.rul.copy1.foldl (fun x w => repairWord w.1 w.2 x) d) :
    (d.on Reg.RUL_CTRL.COPY_CHK = false ∨ d.rul.copy1 = [] → exec (.tableCopyCheck ups) s = .next (s.after d)) ∧
    (d.on Reg.RUL_CTRL.COPY_CHK = true → d.rul.copy1 ≠ [] →
      (rulMode e = 2 → exec (.tableCopyCheck ups) s = .next (s.after e)) ∧
      (rulMode e ≠ 2 → ∃ t, exec (.tableCopyCheck ups) s = .next t ∧ t.dev.rul.integ = true ∧ t.dev.rul.integAck = false ∧
        t.dev.on Reg.RUL_STATUS.INTEG = true ∧ t.dev.rul.diff = [])) := by
  replace hd : d = struck ups s.dev := hd
  replace he : e = repaired d := he
  rw [exec_tableCopyCheck, if_pos hu]
  rw [hd] at he ⊢
  refine ⟨fun h => by rw [tableCopyCheck_agrees h], fun hc hn => ?_⟩
  rw [tableCopyCheck_differs hc hn, ← he]
  refine ⟨fun hm => by rw [if_pos hm], fun hm => ?_⟩
  rw [if_neg hm]
  obtain ⟨h1, h2, h3⟩ := integRaise_state s.time ((noteDiff 5 (Config.freeWord e.draw.1).toNat e.draw.2).modRul fun x =>
    { x with diff := [] })
  obtain ⟨h4, -⟩ := integRaise_status s.time ((noteDiff 5 (Config.freeWord e.draw.1).toNat e.draw.2).modRul fun x =>
    { x with diff := [] })
  refine ⟨_, rfl, ?_, ?_, ?_, ?_⟩
  · rw [after_rul, h1]
  · rw [after_rul, h2]
  · rw [after_on _ _ _ (notIntake_of_lt (by decide)), h4]
  · rw [after_rul, h3]
    rfl

/-! ## Host rule states (R381, R382) -/

theorem hstate_addr (j : Nat) : Reg.RUL_HSTATEj.ACT.reg.addr j = 0xC0400 + j * 4 := RegAt.addr_single rfl j

/-- One bit of a host state: a changed bit of a valid rule is an edge. -/
def hstateBit (t : Time) (j : Nat) (v : Word32) (old : Nat) (x : Dev) (k : Nat) : Dev :=
  if bitOf v k == old.testBit k || !x.onN Reg.T_RULE.VALID (32 * j + k) then x
  else ((pushEdge (edgeOf t x.draw.2 (some (32 * j + k)) (b2n (bitOf v k)) (Config.freeWord x.draw.1) false
    (x.onN Reg.T_RULE.LATCH (32 * j + k))) x.draw.2).sat Reg.RUL_CNT_EDGE.N).cause intRul 2 0 0

theorem hstateWrite_host {t : Time} {j : Nat} {v : Word32} (h : rulMode d = 2) : hstateWrite t j v d =
    (List.range 32).foldl (hstateBit t j v (d.getN Reg.RUL_HSTATEj.ACT j))
      ((d.setN Reg.RUL_HSTATEj.ACT j v.toNat).modRul fun x => { x with passes := x.passes + 1 }) := by
  unfold hstateWrite
  rw [h]
  rfl

theorem hstateWrite_off {t : Time} {j : Nat} {v : Word32} (h : rulMode d = 0) : hstateWrite t j v d = d := by
  unfold hstateWrite
  split
  · rfl
  · next h2 => exact absurd (h.symm.trans h2) (by decide)
  · next h0 _ => exact absurd h h0

theorem hstateWrite_stored {t : Time} {j : Nat} {v : Word32} (h0 : rulMode d ≠ 0) (h2 : rulMode d ≠ 2) :
    hstateWrite t j v d = d.setN Reg.RUL_HSTATEj.ACT j v.toNat := by
  unfold hstateWrite
  split
  · next h => exact absurd h h0
  · next h => exact absurd h h2
  · rfl

/-- An edge counts and raises its cause; no other word moves. -/
def EdgeWord (a : Nat) : Prop := a ≠ 0xC0084 ∧ a ≠ 0xC0008

theorem hstateBit_words (t : Time) (j : Nat) (v : Word32) (old : Nat) (x : Dev) (k : Nat) :
    Apart EdgeWord x (hstateBit t j v old x k) := by
  unfold hstateBit
  refine .ite (.refl _ x) (Apart.cause (Apart.sat ((Apart.refl _ x).ofRegs rfl) ?_) ?_)
  · exact fun h => h.1 rfl
  · exact fun h => h.2 rfl

theorem hstateBit_edge (t : Time) (j : Nat) (v : Word32) (old : Nat) (x : Dev) (k : Nat) :
    ∃ es, (hstateBit t j v old x k).rul.actQ = x.rul.actQ ++ es ∧ es.map (fun e => (e.rule, e.kind)) =
      ([k].filter fun k => (bitOf v k != old.testBit k) && x.onN Reg.T_RULE.VALID (32 * j + k)).map
        fun k => (some (32 * j + k), b2n (bitOf v k)) := by
  unfold hstateBit
  split
  · next h =>
    refine ⟨[], (List.append_nil _).symm, ?_⟩
    rw [List.filter_cons_of_neg (by rcases Bool.or_eq_true_iff.mp h with h | h <;> simp_all)]
    rfl
  · next h =>
    refine ⟨[_], by rw [Dev.cause_rul]; rfl, ?_⟩
    rw [List.filter_cons_of_pos (by rw [Bool.or_eq_true_iff, not_or] at h; simpa using h)]
    rfl

/-- The bits of a host state give their edges in bit order. -/
theorem hstate_edges (t : Time) (j : Nat) (v : Word32) (old : Nat) (l : List Nat) (x : Dev) :
    Apart EdgeWord x (l.foldl (hstateBit t j v old) x) ∧
    ∃ es, (l.foldl (hstateBit t j v old) x).rul.actQ = x.rul.actQ ++ es ∧ es.map (fun e => (e.rule, e.kind)) =
      (l.filter fun k => (bitOf v k != old.testBit k) && x.onN Reg.T_RULE.VALID (32 * j + k)).map
        fun k => (some (32 * j + k), b2n (bitOf v k)) := by
  induction l generalizing x with
  | nil => exact ⟨.refl _ x, [], (List.append_nil _).symm, rfl⟩
  | cons k l ih =>
    have hw := hstateBit_words t j v old x k
    obtain ⟨es, he, hm⟩ := hstateBit_edge t j v old x k
    obtain ⟨hw', es', he', hm'⟩ := ih (hstateBit t j v old x k)
    have hv : ∀ i, (hstateBit t j v old x k).onN Reg.T_RULE.VALID (32 * j + i) = x.onN Reg.T_RULE.VALID (32 * j + i) :=
      fun i => hw.onN (by rw [rule_addr]; unfold EdgeWord; omega)
    refine ⟨hw.trans hw', es ++ es', by rw [List.foldl_cons, he', he, List.append_assoc], ?_⟩
    simp only [hv] at hm'
    rw [List.map_append, hm, hm', ← List.map_append, ← List.filter_append, List.singleton_append]

theorem hstate_commands : (∀ (s : State) (j : Nat) (v : Word32), j < 128 → s.dev.up islAna = true → rulMode s.dev = 0 →
    exec (.hstateWrite j v) s = .next (s.after s.dev)) ∧
  (∀ (s : State) (j : Nat) (v : Word32), 128 ≤ j → s.dev.up islAna = true →
    exec (.hstateWrite j v) s = .next (s.after s.dev)) ∧
  (∀ (s : State) (j : Nat) (v : Word32), j < 128 → s.dev.up islAna = true → rulMode s.dev ≠ 0 → rulMode s.dev ≠ 2 →
    exec (.hstateWrite j v) s = .next (s.after (s.dev.setN Reg.RUL_HSTATEj.ACT j v.toNat))) ∧
  (∀ (s : State) (j : Nat) (v : Word32), j < 128 → s.dev.up islAna = true → rulMode s.dev = 2 →
    ∃ t es, exec (.hstateWrite j v) s = .next t ∧ t.dev.getN Reg.RUL_HSTATEj.ACT j = v.toNat ∧
      t.dev.rul.actQ = s.dev.rul.actQ ++ es ∧
      es.map (fun e => (e.rule, e.kind)) = ((List.range 32).filter fun k =>
        (bitOf v k != (s.dev.getN Reg.RUL_HSTATEj.ACT j).testBit k) && s.dev.onN Reg.T_RULE.VALID (32 * j + k)).map
          fun k => (some (32 * j + k), b2n (bitOf v k))) := by
  have hx : ∀ (s : State) (j : Nat) (v : Word32), j < 128 → s.dev.up islAna = true →
      exec (.hstateWrite j v) s = .next (s.after (hstateWrite s.time j v s.dev)) := by
    intro s j v hj hu
    have hu' : s.dev.up (islandOf 0xC0400) = true := hu
    rw [exec_hstateWrite, onWrite_up _ hu', if_pos hj]
  refine ⟨fun s j v hj hu h => by rw [hx s j v hj hu, hstateWrite_off h], fun s j v hj hu => ?_,
    fun s j v hj hu h0 h2 => by rw [hx s j v hj hu, hstateWrite_stored h0 h2], fun s j v hj hu h => ?_⟩
  · have hu' : s.dev.up (islandOf 0xC0400) = true := hu
    rw [exec_hstateWrite, onWrite_up _ hu', if_neg (by omega)]
  · rw [hx s j v hj hu, hstateWrite_host h]
    obtain ⟨hw, es, he, hm⟩ := hstate_edges s.time j v (s.dev.getN Reg.RUL_HSTATEj.ACT j) (List.range 32)
      ((s.dev.setN Reg.RUL_HSTATEj.ACT j v.toNat).modRul fun x => { x with passes := x.passes + 1 })
    refine ⟨_, es, rfl, ?_, ?_, ?_⟩
    · rw [after_getN _ _ _ _ (notIntake_of_lt (by rw [hstate_addr]; omega)),
        hw.getN (by rw [hstate_addr]; unfold EdgeWord; omega), Dev.modRul_getN, Dev.getN_setN_same _ _ _ _ rfl]
      exact Nat.mod_eq_of_lt v.isLt
    · rw [after_rul, he]
      rfl
    · rw [hm]
      refine congrArg (List.map _) (List.filter_congr fun k _ => ?_)
      rw [Dev.modRul_onN, Dev.onN_setN_addr _ _ _ _ _ _ (by rw [rule_addr, hstate_addr]; omega)]

/-- Settles O40: word 0 of an entry by its checks, the copies by whether they differ, a host state bit by bit. -/
theorem ruleEntries : Obligations.RuleEntries := by
  refine ⟨⟨area_commands, rule_made, rule_changed, det_changed, cleared_commands, beyond_commands, det_made,
    fun s ups hu => ?_, copyCheck_commands⟩, hstate_commands⟩
  rw [exec_tableCopyCheck, if_neg (by simp [hu])]

end Sys2Proof.Machine

/-!
PROOFS. Alarm pins, the actions of an edge, and the GOOSE templates (R367 to R374).
-/

namespace Sys2Proof.Machine

open Sys2Proof

variable {d e : Dev} {t : Time} {n m : Nat}

theorem exec_alarmAction (s : State) :
    exec .alarmAction s =
      .next (s.after (if s.dev.up islAna ∧ s.dev.rul.actQ ≠ [] then rulTakeMode s.time (alarmAction s.time s.dev)
        else s.dev)) := rfl

theorem exec_gooseRetransmit (t : Nat) (s : State) :
    exec (.gooseRetransmit t) s =
      .next (s.after (if t < 64 ∧ s.dev.up islAna then gooseRetransmit s.time t s.dev else s.dev)) := rfl

theorem exec_pinRelease (pin : Nat) (s : State) :
    exec (.pinRelease pin) s =
      .next (s.after (onWrite 0xC0030 (fun d => if pin < 4 then pinRelease s.time pin d else d) s.dev)) := rfl

theorem exec_pinWidthExpire (pin : Nat) (s : State) :
    exec (.pinWidthExpire pin) s =
      .next (s.after (if pin < 4 ∧ s.dev.up islAna then pinUpdate s.time pin s.dev else s.dev)) := rfl

theorem exec_templateEnable (t : Nat) (v : Word32) (s : State) :
    exec (.templateEnable t v) s =
      .next (s.after (onWrite 0x350000 (fun d => if t < 64 then templateEnable s.time t v d else d) s.dev)) := rfl

/-! ## One pin (R368) -/

/-- What a pin holds under its mode while the rules drive it. -/
def pinFollows (t : Time) (n : Nat) (d : Dev) : PinSt :=
  match d.getN Reg.RUL_PINn.MODE n with
  | 0 => default
  | 1 =>
    if pinCalled d n then ⟨some ((pinState d n).since.getD t.loc), none, false⟩
    else match (pinState d n).since with
      | some s => ⟨if t.loc < s + d.getN Reg.RUL_PINn.MIN_WIDTH n * 1000000 then some s else none, none, false⟩
      | none => default
  | 2 => ⟨none, (pinState d n).pulseEnd.filter fun e => decide (t.loc < e), false⟩
  | _ => ⟨none, none, (pinState d n).latched⟩

/-- Does what a pin holds assert it? -/
def PinSt.asserts (p : PinSt) : Bool := p.since.isSome || p.pulseEnd.isSome || p.latched

theorem pinUpdate_off (h : d.get Reg.GLB_SPLIT.RULES = 0) : pinUpdate t n d =
    (d.modRul fun x => { x with pins := tset x.pins n default }).setB Reg.RUL_PINn.STATE n false := by
  have ho : (d.get Reg.GLB_SPLIT.RULES == 0 || !d.up islAna) = true := by simp [h]
  unfold pinUpdate
  rw [ho]
  rfl

theorem pinUpdate_on (h : d.get Reg.GLB_SPLIT.RULES ≠ 0) (hu : d.up islAna = true) : pinUpdate t n d =
    (d.modRul fun x => { x with pins := tset x.pins n (pinFollows t n d) }).setB Reg.RUL_PINn.STATE n
      (d.onN Reg.RUL_PINn.TEST n || (pinFollows t n d).asserts) := by
  have ho : (d.get Reg.GLB_SPLIT.RULES == 0 || !d.up islAna) = false := by simp [h, hu]
  unfold pinUpdate
  rw [ho]
  simp only [Bool.false_eq_true, if_false, Bool.not_false, Bool.true_and, PinSt.asserts, Bool.or_assoc]
  rfl

theorem Dev.getN_setB_same (d : Dev) (f : Field) (i : Nat) (v : Bool) (hf : f.fits = true) (hw : 0 < f.width) :
    (d.setB f i v).getN f i = b2n v := by
  refine (Dev.getN_setN_same _ _ _ _ hf).trans (Nat.mod_eq_of_lt ?_)
  exact Nat.lt_of_le_of_lt (show b2n v ≤ 1 by cases v <;> decide) (Nat.one_lt_two_pow (Nat.ne_of_gt hw))

theorem pinUpdate_state_off (h : d.get Reg.GLB_SPLIT.RULES = 0) : (pinUpdate t n d).getN Reg.RUL_PINn.STATE n = 0 := by
  rw [pinUpdate_off h]
  exact Dev.getN_setB_same _ _ _ _ rfl (by decide)

theorem pinUpdate_state (h : d.get Reg.GLB_SPLIT.RULES ≠ 0) (hu : d.up islAna = true) :
    (pinUpdate t n d).getN Reg.RUL_PINn.STATE n = b2n (d.onN Reg.RUL_PINn.TEST n || (pinFollows t n d).asserts) := by
  rw [pinUpdate_on h hu]
  exact Dev.getN_setB_same _ _ _ _ rfl (by decide)

/-- Without TEST a pin that the rules drive stands as what it holds says. -/
theorem pinUpdate_asserts (h : d.get Reg.GLB_SPLIT.RULES ≠ 0) (hu : d.up islAna = true)
    (ht : d.onN Reg.RUL_PINn.TEST n = false) :
    (pinUpdate t n d).getN Reg.RUL_PINn.STATE n = 1 ↔ (pinFollows t n d).asserts = true := by
  rw [pinUpdate_state h hu, ht]
  cases (pinFollows t n d).asserts <;> simp [b2n]

theorem pinFollows_off (h : d.getN Reg.RUL_PINn.MODE n = 0) : pinFollows t n d = default := by
  unfold pinFollows
  rw [h]
  rfl

theorem pinFollows_follow (h : d.getN Reg.RUL_PINn.MODE n = 1) : (pinFollows t n d).asserts = true ↔
    pinCalled d n = true ∨
      ∃ f, (pinState d n).since = some f ∧ t.loc < f + d.getN Reg.RUL_PINn.MIN_WIDTH n * 1000000 := by
  have hf : pinFollows t n d = if pinCalled d n then ⟨some ((pinState d n).since.getD t.loc), none, false⟩
      else match (pinState d n).since with
        | some s => ⟨if t.loc < s + d.getN Reg.RUL_PINn.MIN_WIDTH n * 1000000 then some s else none, none, false⟩
        | none => default := by
    unfold pinFollows
    rw [h]
    rfl
  rw [hf]
  cases hc : pinCalled d n with
  | true => simp [PinSt.asserts]
  | false =>
    cases hs : (pinState d n).since with
    | none => simp [PinSt.asserts]; decide
    | some s =>
      by_cases hl : t.loc < s + d.getN Reg.RUL_PINn.MIN_WIDTH n * 1000000
      · simp [PinSt.asserts, hl]
      · simp [PinSt.asserts, hl]

theorem pinFollows_pulse (h : d.getN Reg.RUL_PINn.MODE n = 2) : (pinFollows t n d).asserts = true ↔
    ∃ e, (pinState d n).pulseEnd = some e ∧ t.loc < e := by
  have hf : pinFollows t n d = ⟨none, (pinState d n).pulseEnd.filter fun e => decide (t.loc < e), false⟩ := by
    unfold pinFollows
    rw [h]
    rfl
  rw [hf]
  cases hp : (pinState d n).pulseEnd with
  | none => simp [PinSt.asserts]
  | some x => by_cases hl : t.loc < x <;> simp [PinSt.asserts, Option.filter, hl]

theorem pinFollows_latch (h : d.getN Reg.RUL_PINn.MODE n = 3) :
    pinFollows t n d = ⟨none, none, (pinState d n).latched⟩ := by
  unfold pinFollows
  rw [h]
  rfl

theorem pinUpdate_word (a : Nat) (ha : a ≠ Reg.RUL_PINn.STATE.reg.addr n) : (pinUpdate t n d).word a = d.word a :=
  Dev.word_setN _ _ _ _ _ ha

theorem pinUpdate_other (hm : m ≠ n) : pinState (pinUpdate t n d) m = pinState d m :=
  tget_tset_other d.rul.pins hm _

theorem pin_rules (t : Time) (n : Nat) (d : Dev) (hu : d.up islAna = true) :
    (∀ a, a ≠ Reg.RUL_PINn.STATE.reg.addr n → (pinUpdate t n d).word a = d.word a) ∧
    (∀ m, m ≠ n → pinState (pinUpdate t n d) m = pinState d m) ∧
    (d.get Reg.GLB_SPLIT.RULES = 0 → (pinUpdate t n d).getN Reg.RUL_PINn.STATE n = 0) ∧
    (d.get Reg.GLB_SPLIT.RULES ≠ 0 → d.onN Reg.RUL_PINn.TEST n = true → (pinUpdate t n d).getN Reg.RUL_PINn.STATE n = 1) ∧
    (d.get Reg.GLB_SPLIT.RULES ≠ 0 → d.onN Reg.RUL_PINn.TEST n = false →
      (d.getN Reg.RUL_PINn.MODE n = 0 → (pinUpdate t n d).getN Reg.RUL_PINn.STATE n = 0) ∧
      (d.getN Reg.RUL_PINn.MODE n = 1 → ((pinUpdate t n d).getN Reg.RUL_PINn.STATE n = 1 ↔ pinCalled d n = true ∨
        ∃ f, (pinState d n).since = some f ∧ t.loc < f + d.getN Reg.RUL_PINn.MIN_WIDTH n * 1000000)) ∧
      (d.getN Reg.RUL_PINn.MODE n = 2 → ((pinUpdate t n d).getN Reg.RUL_PINn.STATE n = 1 ↔
        ∃ e, (pinState d n).pulseEnd = some e ∧ t.loc < e)) ∧
      (d.getN Reg.RUL_PINn.MODE n = 3 → ((pinUpdate t n d).getN Reg.RUL_PINn.STATE n = 1 ↔ (pinState d n).latched = true))) := by
  refine ⟨fun a => pinUpdate_word a, fun m => pinUpdate_other, pinUpdate_state_off, fun h ht => ?_,
    fun h ht => ⟨fun hm => ?_, fun hm => ?_, fun hm => ?_, fun hm => ?_⟩⟩
  · rw [pinUpdate_state h hu, ht]
    rfl
  · rw [pinUpdate_state h hu, ht, pinFollows_off hm]
    rfl
  · rw [pinUpdate_asserts h hu ht, pinFollows_follow hm]
  · rw [pinUpdate_asserts h hu ht, pinFollows_pulse hm]
  · rw [pinUpdate_asserts h hu ht, pinFollows_latch hm]
    simp [PinSt.asserts]

/-- The latch of pin n open. -/
def pinOpened (n : Nat) (d : Dev) : Dev :=
  d.modRul fun x => { x with pins := tmod x.pins n fun p => { p with latched := false } }

theorem pin_commands (s : State) (n : Nat) :
    (n < 4 → s.dev.up islAna = true → exec (.pinWidthExpire n) s = .next (s.after (pinUpdate s.time n s.dev))) ∧
    (4 ≤ n ∨ s.dev.up islAna = false → exec (.pinWidthExpire n) s = .next (s.after s.dev)) ∧
    (4 ≤ n → s.dev.up islAna = true → exec (.pinRelease n) s = .next (s.after s.dev)) ∧
    (n < 4 → s.dev.up islAna = true → ∃ d, exec (.pinRelease n) s = .next (s.after (pinUpdate s.time n d)) ∧
      d.regs = s.dev.regs ∧ (pinState d n).latched = false ∧ (pinState d n).since = (pinState s.dev n).since ∧
      (pinState d n).pulseEnd = (pinState s.dev n).pulseEnd ∧ ∀ m, m ≠ n → pinState d m = pinState s.dev m) := by
  have hw (hu : s.dev.up islAna = true) (f : Dev → Dev) : onWrite 0xC0030 f s.dev = f s.dev :=
    onWrite_up f (show s.dev.up (islandOf 0xC0030) = true from hu)
  refine ⟨fun hn hu => ?_, fun h => ?_, fun hn hu => ?_, fun hn hu => ?_⟩
  · rw [exec_pinWidthExpire, if_pos ⟨hn, hu⟩]
  · rw [exec_pinWidthExpire, if_neg]
    rcases h with h | h
    · omega
    · simp [h]
  · rw [exec_pinRelease, hw hu, if_neg (by omega)]
  · have hp : pinState (pinOpened n s.dev) n = PinSt.mk (pinState s.dev n).since (pinState s.dev n).pulseEnd false :=
      tget_tmod_same s.dev.rul.pins n fun p => { p with latched := false }
    refine ⟨pinOpened n s.dev, by rw [exec_pinRelease, hw hu, if_pos hn]; rfl, rfl, by rw [hp], by rw [hp], by rw [hp],
      fun m hm => ?_⟩
    exact (tget_tmod s.dev.rul.pins n m fun p => { p with latched := false }).trans (if_neg hm)

/-! ## A template's frame (R374) -/

/-- GLB_SPLIT, the pins' words and the templates' entries. -/
def AlarmWord (a : Nat) : Prop := a = 0x20 ∨ 0xC0030 ≤ a ∧ a < 0xC0040 ∨ 0x350000 ≤ a ∧ a < 0x358000

theorem AlarmWord.off {r : RegAt} {b s c : Nat} (h : r = ⟨b, s, c, 1, 0⟩) (hb : 0x358000 ≤ b) (n : Nat) :
    ¬ AlarmWord (r.addr n) := by
  rw [RegAt.addr_single h]
  unfold AlarmWord
  omega

theorem notAlarm {a : Nat} (h : 0xC0040 ≤ a) (hb : a < 0x350000) : ¬ AlarmWord a := by
  unfold AlarmWord
  omega

theorem Apart.keyDeny {eng slot reason : Nat} (h : Apart AlarmWord e d) :
    Apart AlarmWord e (keyDeny eng slot reason d) :=
  (((((h.sat (AlarmWord.off rfl (by decide) slot)).sat (notAlarm (by decide) (by decide))).set
    (notAlarm (by decide) (by decide))).set (notAlarm (by decide) (by decide))).set
      (notAlarm (by decide) (by decide))).cause (notAlarm (by decide) (by decide))

theorem Apart.keyUse {eng inst slot usage : Nat} {long : Bool} (h : Apart AlarmWord e d) :
    Apart AlarmWord e (keyUse eng inst slot usage long d).2 := by
  have hw : Apart AlarmWord e (d.wrapInc Reg.T_KSLOT.USES slot) := h.wrapInc (AlarmWord.off rfl (by decide) slot)
  unfold Machine.keyUse
  split
  · exact h.keyDeny
  · dsimp only
    split
    · exact h.keyDeny
    · split
      · exact h.keyDeny
      · split
        · exact h.keyDeny
        · exact Apart.ite hw hw

theorem Apart.gooseDrop (h : Apart AlarmWord e d) : Apart AlarmWord e (gooseDrop d) :=
  (h.sat (notAlarm (by decide) (by decide))).cause (by unfold AlarmWord; decide)

theorem Apart.tmplQueue {fs : List (List Byte)} (h : Apart AlarmWord e d) : Apart AlarmWord e (tmplQueue m fs d) := by
  have hq : Apart AlarmWord e (queueFrames (d.getN Reg.T_GTMPL.PORT m) (d.getN Reg.T_GTMPL.TC m) (.template m) fs d) :=
    h.ofLow (Low.queueFrames (lo := 0x358000) (fun _ _ => rfl)) (by unfold AlarmWord; omega)
  exact .ite (hq.sat (notAlarm (by decide) (by decide))) h.gooseDrop

theorem Apart.tmplRouted {b : List Byte} {auth : Nat} {key : Option Nat} (h : Apart AlarmWord e d) :
    Apart AlarmWord e (tmplRouted m b auth key d) := by
  unfold Machine.tmplRouted
  dsimp only
  split
  · exact Apart.tmplQueue (d := Dev.modRul d _) h
  · exact Apart.gooseDrop (d := Dev.modRul d _) h

theorem Apart.tmplSend (h : Apart AlarmWord e d) : Apart AlarmWord e (tmplSend t m d) := by
  unfold Machine.tmplSend
  refine .ite h (.ite h.tmplQueue (.ite h.tmplRouted ?_))
  have hk := h.keyUse (eng := engTemplate) (inst := m) (slot := d.getN Reg.T_GTMPL.KEY_SLOT m)
    (usage := authUsage (d.getN Reg.T_GTMPL.AUTH m)) (long := false)
  split
  · next hx =>
    rw [hx] at hk
    exact hk.tmplRouted
  · next hx =>
    rw [hx] at hk
    exact hk.gooseDrop

/-- What frames do not move of the rules' state: the pins, the queue of actions, and a template's series. -/
structure SeriesStand (e d : Dev) : Prop where
  pins : d.rul.pins = e.rul.pins
  queue : d.rul.actQ = e.rul.actQ
  st : ∀ k, (tget d.rul.tmpl k).st = (tget e.rul.tmpl k).st
  sq : ∀ k, (tget d.rul.tmpl k).sq = (tget e.rul.tmpl k).sq
  off : ∀ k, (tget d.rul.tmpl k).off = (tget e.rul.tmpl k).off
  since : ∀ k, (tget d.rul.tmpl k).since = (tget e.rul.tmpl k).since

theorem SeriesStand.refl (d : Dev) : SeriesStand d d := ⟨rfl, rfl, fun _ => rfl, fun _ => rfl, fun _ => rfl, fun _ => rfl⟩

theorem SeriesStand.trans {a b c : Dev} (h : SeriesStand a b) (k : SeriesStand b c) : SeriesStand a c :=
  ⟨k.pins.trans h.pins, k.queue.trans h.queue, fun i => (k.st i).trans (h.st i), fun i => (k.sq i).trans (h.sq i),
    fun i => (k.off i).trans (h.off i), fun i => (k.since i).trans (h.since i)⟩

theorem SeriesStand.ofRul {x : Dev} (h : SeriesStand e d) (hx : x.rul = d.rul) : SeriesStand e x :=
  h.trans ⟨by rw [hx], by rw [hx], fun _ => by rw [hx], fun _ => by rw [hx], fun _ => by rw [hx], fun _ => by rw [hx]⟩

theorem SeriesStand.gooseDrop (h : SeriesStand e d) : SeriesStand e (gooseDrop d) :=
  h.ofRul ((Tame.gooseDrop (.refl [] d)).stands .rul (by decide))

theorem SeriesStand.tmplQueue {fs : List (List Byte)} (h : SeriesStand e d) : SeriesStand e (tmplQueue m fs d) :=
  h.ofRul ((@Tame.tmplQueue [.hif, .ports, .pairs] d d m fs (.refl _ d) ⟨by decide⟩ ⟨by decide⟩ ⟨by decide⟩).stands
    .rul (by decide))

/-- The next frame of a session takes its number. -/
def spduTaken (m : Nat) (d : Dev) : Dev :=
  d.modRul fun q => { q with tmpl := tmod q.tmpl m fun y => { y with spdu := (y.spdu + 1) % 2 ^ 32 } }

theorem spduTaken_tmpl (k : Nat) : tget (spduTaken m d).rul.tmpl k =
    if k = m then { tget d.rul.tmpl m with spdu := ((tget d.rul.tmpl m).spdu + 1) % 2 ^ 32 } else tget d.rul.tmpl k :=
  tget_tmod d.rul.tmpl m k fun y => { y with spdu := (y.spdu + 1) % 2 ^ 32 }

theorem SeriesStand.spduTaken (h : SeriesStand e d) : SeriesStand e (spduTaken m d) := by
  refine h.trans ⟨rfl, rfl, fun k => ?_, fun k => ?_, fun k => ?_, fun k => ?_⟩ <;> rw [spduTaken_tmpl] <;> split <;>
    simp_all

theorem SeriesStand.tmplRouted {b : List Byte} {auth : Nat} {key : Option Nat} (h : SeriesStand e d) :
    SeriesStand e (tmplRouted m b auth key d) := by
  unfold Machine.tmplRouted
  dsimp only
  split
  · exact (h.spduTaken (m := m)).tmplQueue
  · exact (h.spduTaken (m := m)).gooseDrop

theorem SeriesStand.tmplSend (h : SeriesStand e d) : SeriesStand e (tmplSend t m d) := by
  have hk (i s u : Nat) : SeriesStand e (keyUse engTemplate i s u false d).2 :=
    h.ofRul ((@Tame.keyUse [.keys] d d engTemplate i s u false (.refl _ d) ⟨by decide⟩).stands .rul (by decide))
  unfold Machine.tmplSend
  dsimp only
  split
  · exact h
  · split
    · exact h.tmplQueue
    · split
      · exact h.tmplRouted
      · have hk := hk m (d.getN Reg.T_GTMPL.KEY_SLOT m) (authUsage (d.getN Reg.T_GTMPL.AUTH m))
        split
        · next hx =>
          rw [hx] at hk
          exact hk.tmplRouted
        · next hx =>
          rw [hx] at hk
          exact hk.gooseDrop

/-! ## Templates (R371, R372) -/

theorem modTmpl_tmpl (f : TmplSt → TmplSt) (d : Dev) : tget (modTmpl m f d).rul.tmpl m = f (tget d.rul.tmpl m) :=
  tget_tmod_same d.rul.tmpl m f

theorem tmpl_addr (m : Nat) : Reg.T_GTMPL.EN.reg.addr m = 0x350000 + m * 0x200 := RegAt.addr_single rfl m

theorem tmpl_field (hm : m < 64) : Reg.T_GTMPL.EN ∈ fieldsAt (Reg.T_GTMPL.EN.reg.addr m) :=
  List.mem_filter.mpr ⟨by decide +kernel, index?_single rfl (by decide) hm⟩

theorem exec_templateEnable_up {s : State} (v : Word32) (hm : m < 64) (hu : s.dev.up islAna = true) :
    exec (.templateEnable m v) s = .next (s.after (templateEnable s.time m v s.dev)) := by
  have hu' : s.dev.up (islandOf 0x350000) = true := hu
  rw [exec_templateEnable, onWrite_up _ hu', if_pos hm]

/-- A template begins a series of frames with its members' states. -/
def seriesBegun (t : Time) (m : Nat) (d d1 : Dev) : Dev :=
  modTmpl m (fun x => { x with
    st := d.getN Reg.T_GTMPL.ST_INIT m, sq := 0, tInst := t.ns, members := memberStates d1 m, off := 0, since := t.loc }) d1

theorem seriesBegun_tmpl (d d1 : Dev) :
    (tget (seriesBegun t m d d1).rul.tmpl m).st = d.getN Reg.T_GTMPL.ST_INIT m ∧
    (tget (seriesBegun t m d d1).rul.tmpl m).sq = 0 ∧ (tget (seriesBegun t m d d1).rul.tmpl m).off = 0 ∧
    (tget (seriesBegun t m d d1).rul.tmpl m).since = t.loc := by
  rw [seriesBegun, modTmpl_tmpl]
  exact ⟨rfl, rfl, rfl, rfl⟩

theorem templateEnable_begins {v : Word32} (hn : d.onN Reg.T_GTMPL.EN m = false) (hv : bitOf v 0 = true)
    (hk : tmplOk m (d.putWord (Reg.T_GTMPL.EN.reg.addr m) v) = true) :
    templateEnable t m v d = tmplSend t m (seriesBegun t m d (d.putWord (Reg.T_GTMPL.EN.reg.addr m) v)) := by
  unfold templateEnable
  rw [hn, hv]
  dsimp only
  rw [hk]
  rfl

theorem template_commands (s : State) (m : Nat) (v : Word32) (hm : m < 64) (hu : s.dev.up islAna = true) :
    (s.dev.onN Reg.T_GTMPL.EN m = true → bitOf v 0 = true →
      exec (.templateEnable m v) s = .next (s.after (s.dev.cause intRul 0 0 0))) ∧
    (bitOf v 0 = false → exec (.templateEnable m v) s =
      .next (s.after (s.dev.putWord (Reg.T_GTMPL.EN.reg.addr m) v))) ∧
    (s.dev.onN Reg.T_GTMPL.EN m = false → bitOf v 0 = true →
      tmplOk m (s.dev.putWord (Reg.T_GTMPL.EN.reg.addr m) v) = false →
      exec (.templateEnable m v) s =
        .next (s.after ((s.dev.putUnvalid (Reg.T_GTMPL.EN.reg.addr m) v).cause intRul 0 0 0))) ∧
    (s.dev.onN Reg.T_GTMPL.EN m = false → bitOf v 0 = true →
      tmplOk m (s.dev.putWord (Reg.T_GTMPL.EN.reg.addr m) v) = true →
      ∃ t, exec (.templateEnable m v) s = .next t ∧ t.dev.onN Reg.T_GTMPL.EN m = true ∧
        (tget t.dev.rul.tmpl m).st = s.dev.getN Reg.T_GTMPL.ST_INIT m ∧ (tget t.dev.rul.tmpl m).sq = 0 ∧
        (tget t.dev.rul.tmpl m).off = 0 ∧ (tget t.dev.rul.tmpl m).since = s.time.loc) := by
  have ha := tmpl_addr m
  rw [exec_templateEnable_up v hm hu]
  refine ⟨fun hn hv => ?_, fun hv => ?_, fun hn hv hk => ?_, fun hn hv hk => ?_⟩
  · rw [templateEnable, if_pos hn, if_pos hv]
    rfl
  · rw [templateEnable, if_neg (by simp [hv] : ¬ bitOf v 0 = true), if_pos (by simp [hv] : (!bitOf v 0) = true), ite_self]
  · rw [templateEnable, if_neg (by simp [hn]), if_neg (by simp [hv]), if_pos (by simp [hk])]
    rfl
  · rw [templateEnable_begins hn hv hk]
    have hb := SeriesStand.tmplSend (t := s.time) (m := m)
      (.refl (seriesBegun s.time m s.dev (s.dev.putWord (Reg.T_GTMPL.EN.reg.addr m) v)))
    obtain ⟨h1, h2, h3, h4⟩ := seriesBegun_tmpl (t := s.time) (m := m) s.dev (s.dev.putWord (Reg.T_GTMPL.EN.reg.addr m) v)
    have hen : (s.dev.putWord (Reg.T_GTMPL.EN.reg.addr m) v).onN Reg.T_GTMPL.EN m = true :=
      putWord_valid s.dev rfl rfl (tmpl_field hm) hv
    have hw : Apart AlarmWord (seriesBegun s.time m s.dev (s.dev.putWord (Reg.T_GTMPL.EN.reg.addr m) v)) _ :=
      Apart.tmplSend (t := s.time) (m := m) (.refl AlarmWord _)
    refine ⟨_, rfl, ?_, ?_, ?_, ?_, ?_⟩
    · unfold Dev.onN
      rw [after_getN _ _ _ _ (notIntake_between (by omega) (by omega)), hw.getN (by rw [ha]; unfold AlarmWord; omega)]
      exact hen
    · rw [after_rul, hb.st, h1]
    · rw [after_rul, hb.sq, h2]
    · rw [after_rul, hb.off, h3]
    · rw [after_rul, hb.since, h4]

theorem gooseRetransmit_waits (h : d.onN Reg.T_GTMPL.EN m = false ∨
    t.loc < (tget d.rul.tmpl m).since + tmplNext d m * 1000000) : gooseRetransmit t m d = d := by
  refine if_neg fun hc => ?_
  rw [Bool.and_eq_true, decide_eq_true_eq] at hc
  rcases h with h | h
  · exact absurd hc.1 (by simp [h])
  · exact absurd hc.2 (by omega)

/-- The next frame of a series is counted. -/
def seriesNext (m : Nat) (d : Dev) : Dev :=
  modTmpl m (fun x => { x with sq := (x.sq + 1) % 2 ^ 32, off := tmplNext d m }) d

theorem gooseRetransmit_sends (hn : d.onN Reg.T_GTMPL.EN m = true)
    (h : (tget d.rul.tmpl m).since + tmplNext d m * 1000000 ≤ t.loc) :
    gooseRetransmit t m d = tmplSend t m (seriesNext m d) :=
  if_pos (by rw [Bool.and_eq_true, decide_eq_true_eq]; exact ⟨hn, h⟩)

theorem goose_commands :
    (∀ (s : State) (m : Nat), s.dev.onN Reg.T_GTMPL.EN m = false ∨ 64 ≤ m ∨ s.dev.up islAna = false ∨
      s.time.loc < (tget s.dev.rul.tmpl m).since + tmplNext s.dev m * 1000000 →
      exec (.gooseRetransmit m) s = .next (s.after s.dev)) ∧
    (∀ (s : State) (m : Nat), m < 64 → s.dev.up islAna = true → s.dev.onN Reg.T_GTMPL.EN m = true →
      (tget s.dev.rul.tmpl m).since + tmplNext s.dev m * 1000000 ≤ s.time.loc →
      ∃ t, exec (.gooseRetransmit m) s = .next t ∧ (tget t.dev.rul.tmpl m).sq = ((tget s.dev.rul.tmpl m).sq + 1) % 2 ^ 32 ∧
        (tget t.dev.rul.tmpl m).off = tmplNext s.dev m ∧ (tget t.dev.rul.tmpl m).st = (tget s.dev.rul.tmpl m).st) := by
  refine ⟨fun s m h => ?_, fun s m hm hu hn hl => ?_⟩
  · rw [exec_gooseRetransmit]
    split
    · next hc =>
      rw [gooseRetransmit_waits]
      rcases h with h | h | h | h
      · exact .inl h
      · exact absurd hc.1 (by omega)
      · exact absurd hc.2 (by simp [h])
      · exact .inr h
    · rfl
  · have hb := SeriesStand.tmplSend (t := s.time) (m := m) (.refl (seriesNext m s.dev))
    rw [exec_gooseRetransmit, if_pos ⟨hm, hu⟩, gooseRetransmit_sends hn hl]
    refine ⟨_, rfl, ?_, ?_, ?_⟩
    · rw [after_rul, hb.sq, seriesNext, modTmpl_tmpl]
    · rw [after_rul, hb.off, seriesNext, modTmpl_tmpl]
    · rw [after_rul, hb.st, seriesNext, modTmpl_tmpl]

theorem nextOfs_doubles (ofs lo hi : Nat) : (nextOfs lo hi 0 = lo) ∧
    (0 < ofs → 2 * ofs < hi → nextOfs lo hi ofs = 2 * ofs) ∧ (0 < ofs → hi ≤ 2 * ofs → nextOfs lo hi ofs = ofs + hi) := by
  refine ⟨if_pos rfl, fun h0 h1 => ?_, fun h0 h1 => ?_⟩
  · rw [nextOfs, if_neg (by omega), if_pos h1]
  · rw [nextOfs, if_neg (by omega), if_neg (by omega)]

/-! ## What an edge's actions leave alone -/

/-- GLB_SPLIT and the pins' words. -/
def PinWord (a : Nat) : Prop := a = 0x20 ∨ 0xC0030 ≤ a ∧ a < 0xC0040

/-- Nothing that a pin rests on has changed, and the queue of actions stands. -/
structure PinsStand (e d : Dev) : Prop where
  words : Apart PinWord e d
  pins : d.rul.pins = e.rul.pins
  queue : d.rul.actQ = e.rul.actQ

theorem PinsStand.refl (d : Dev) : PinsStand d d := ⟨.refl _ d, rfl, rfl⟩

theorem PinsStand.trans {a b c : Dev} (h : PinsStand a b) (k : PinsStand b c) : PinsStand a c :=
  ⟨h.words.trans k.words, k.pins.trans h.pins, k.queue.trans h.queue⟩

theorem PinsStand.ite {c : Prop} [Decidable c] {a b : Dev} (ha : PinsStand e a) (hb : PinsStand e b) :
    PinsStand e (if c then a else b) := by
  split
  · exact ha
  · exact hb

theorem PinsStand.foldl {β : Type} {f : Dev → β → Dev} (hf : ∀ b d, PinsStand e d → PinsStand e (f d b)) (l : List β)
    (h : PinsStand e d) : PinsStand e (l.foldl f d) := by
  induction l generalizing d with
  | nil => exact h
  | cons b l ih => exact ih (hf b d h)

/-- What stays out of the rules' state and above the pins' words. -/
theorem PinsStand.ofLow {x : Dev} {lo : Nat} {ps : List StatePart} (h : PinsStand e d) (hx : Low lo d x) (hlo : 0xC0040 ≤ lo)
    (ht : Tame ps d x) (hp : StatePart.rul ∉ ps) : PinsStand e x :=
  have hr : x.rul = d.rul := ht.stands .rul hp
  h.trans ⟨(Apart.refl _ d).ofLow hx (by unfold PinWord; omega), by rw [hr], by rw [hr]⟩

theorem PinsStand.tmplChange {inst : Nat} {ms : List Bool} (h : PinsStand e d) :
    PinsStand e (tmplChange t m inst ms d) := by
  refine h.trans ⟨fun a ha => ?_, ?_, ?_⟩
  · refine Apart.tmplSend (t := t) (m := m) (.refl AlarmWord (modTmpl m _ d)) a ?_
    unfold AlarmWord
    exact Or.imp_right .inl ha
  · exact (SeriesStand.tmplSend (t := t) (m := m) (.refl (modTmpl m _ d))).pins
  · exact (SeriesStand.tmplSend (t := t) (m := m) (.refl (modTmpl m _ d))).queue

theorem PinsStand.tmplEdge {ed : Edge} (h : PinsStand e d) : PinsStand e (tmplEdge t ed d) :=
  PinsStand.foldl (fun _ _ h => .ite h (.ite h h.tmplChange)) _ h

/-! The token: its counters lie below the pins' words. -/

theorem PinWord.off {a : Nat} (h : 0x20 < a) (hb : a < 0xC0030) : ¬ PinWord a := by
  unfold PinWord
  omega

theorem notPin {a : Nat} (h : 0xC0040 ≤ a) : ¬ PinWord a := by
  unfold PinWord
  omega

theorem link_notPin {r : RegAt} {b c : Nat} (h : r = ⟨b, 0x40, c, 1, 0⟩) (hb : 0x60100 ≤ b ∧ b < 0x60140) {l : Nat}
    (hl : l < 4) : ¬ PinWord (r.addr l) := by
  rw [RegAt.addr_single h]
  exact PinWord.off (by omega) (by omega)

theorem linkIsUp_lt {l : Nat} (h : linkIsUp d l = true) : l < 4 := by
  simp only [linkIsUp, linkOn, Bool.and_eq_true, decide_eq_true_eq] at h
  exact h.1.1.1.1

theorem Apart.linkDrop {l : Nat} (h : Apart PinWord e d) (hl : l < 4) : Apart PinWord e (linkDrop l d) :=
  h.sat (link_notPin rfl (by decide) hl)

theorem Apart.dxEmit {l : Nat} {b : List Byte} {good mem : Bool} (h : Apart PinWord e d) (hl : l < 4) :
    Apart PinWord e (dxEmit l b good mem d) := by
  have hk (i s u : Nat) : Apart PinWord e (Machine.keyUse engDaxide i s u true d).2 :=
    h.ofLow (Low.keyUse (lo := 0x110004) (fun _ _ => rfl) (by decide)) (by unfold PinWord; omega)
  have htx {x : Dev} (hx : Apart PinWord e x) : Apart PinWord e (x.sat Reg.DXL_LINKn_TXF.N l) :=
    hx.sat (link_notPin rfl (by decide) hl)
  have hsend {x : Dev} (hx : Apart PinWord e x) (p : Nat) (f : TxFrame) :
      Apart PinWord e (sendTx p f (x.sat Reg.DXL_LINKn_TXF.N l)) :=
    (htx hx).ofLow (Low.sendTx (lo := 0xC0040) (fun _ _ => rfl)) (by unfold PinWord; omega)
  unfold Machine.dxEmit
  dsimp only
  split
  · next hr =>
    split at hr
    · split at hr
      · cases hr
      · next hx =>
        cases hr
        exact Apart.linkDrop (by have := hk l (d.getN Reg.DXL_LINKn_CFG.KEY_SLOT l) 3; rwa [hx] at this) hl
    · cases hr
  · next key x hr =>
    have hx : Apart PinWord e x := by
      split at hr
      · split at hr
        · next hx =>
          cases hr
          have := hk l (d.getN Reg.DXL_LINKn_CFG.KEY_SLOT l) 3
          rwa [hx] at this
        · cases hr
      · cases hr
        exact h
    exact .ite (htx hx) (.ite hx (hsend hx _ _))

theorem Apart.tokenSend {rule edge inst x islands spseq : Nat} (h : Apart PinWord e d) :
    Apart PinWord e (tokenSend rule edge inst x islands spseq d) := by
  unfold Machine.tokenSend
  refine .ite ?_ h
  unfold ownFlood
  dsimp only
  refine Apart.foldl (fun l x hx => ?_) _ (show Apart PinWord e _ from h)
  split
  · next hc => exact hx.dxEmit (linkIsUp_lt (Bool.and_eq_true_iff.mp hc).1)
  · exact hx

theorem PinsStand.edgeToken {ed : Edge} (h : PinsStand e d) : PinsStand e (edgeToken ed d) := by
  have hr : (Machine.edgeToken ed d).rul = d.rul := (@Tame.edgeToken [.hif, .ports, .pairs, .keys, .dxl] d d ed (.refl _ d)
    ⟨by decide⟩ ⟨by decide⟩ ⟨by decide⟩ ⟨by decide⟩ ⟨by decide⟩).stands .rul (by decide)
  refine h.trans ⟨?_, by rw [hr], by rw [hr]⟩
  have hs := Apart.tokenSend (rule := ed.rule.getD 0xFFFF) (edge := ed.kind) (inst := ed.inst) (x := ed.x.toNat)
    (islands := ed.islands) (spseq := ed.seq) (.refl PinWord d)
  exact .ite (.refl _ d) (.ite hs ((hs.sat (notPin (by decide))).cause (PinWord.off (by decide) (by decide))))

/-! Records, threads and capture: their registers lie above the pins' words. -/

theorem PinsStand.alarmRecord {ed : Edge} (h : PinsStand e d) : PinsStand e (alarmRecord ed d) := by
  obtain ⟨k, hk⟩ := alarmRecord_rul ed d
  refine h.trans ⟨?_, by rw [hk], by rw [hk]⟩
  have hd (n : Nat) (bs : List Byte) {st : Delivery} {x : Dev} (hx : deliver n bs [] d = (st, x)) : Apart PinWord d x := by
    refine (Apart.refl _ d).ofLow (lo := 0xF2010) ?_ (by unfold PinWord; omega)
    exact Low.ofPair (Low.deliverSt (fun _ _ => rfl) (by decide)) hx
  have hlost {x : Dev} (hx : Apart PinWord d x) : Apart PinWord d ((x.sat Reg.RUL_CNT_ALRM_DROP.N).cause intRul 5 0 0) :=
    (hx.sat (notPin (by decide))).cause (PinWord.off (by decide) (by decide))
  unfold Machine.alarmRecord
  split
  · exact .refl _ d
  · dsimp only
    split
    · exact hlost (.refl _ d)
    · split
      · next x hx =>
        have hx := hd _ _ hx
        exact hx
      · next hx => exact hd _ _ hx
      · next hx => exact hlost (hd _ _ hx)

theorem PinsStand.edgeLog {ed : Edge} (h : PinsStand e d) : PinsStand e (edgeLog ed d) := by
  unfold Machine.edgeLog
  split
  · exact .ite ⟨h.words, h.pins, h.queue⟩ h
  · exact h

section
variable {lo : Nat}

theorem Low.clearWait {th : Nat} (h : Low lo e d) (hb : lo ≤ 0x100000) : Low lo e (clearWait th d).2 :=
  Low.snd (Low.dspCounts (Low.setN (Low.setN (Low.setN (Low.setN (Low.setN (Low.modDsp h) (hb.trans (by decide)))
    (hb.trans (by decide))) (hb.trans (by decide))) (hb.trans (by decide))) (hb.trans (by decide))) (by omega))

theorem Low.spillReady {th : Nat} (h : Low lo e d) (hb : lo ≤ 0x100000) : Low lo e (spillReady th d) :=
  Low.setN (Low.modDsp (.ite (h.cause (hb.trans (by decide))) h)) (hb.trans (by decide))

theorem Low.joinReady {th : Nat} {atHead : Bool} (h : Low lo e d) (hb : lo ≤ 0x100000) :
    Low lo e (joinReady th atHead d) := by
  have h1 {x : Dev} (hx : Low lo e x) : Low lo e (x.setN Reg.T_THSTAT.STATE th 2) := hx.setN (hb.trans (by decide))
  refine Low.dspCounts (.ite ((h1 h.modDsp).spillReady hb) (.ite ?_ (h1 h.modDsp))) (by omega)
  split
  · exact (h1 h.modDsp).spillReady hb
  · exact h1 h.modDsp

theorem Low.makeReady {th : Nat} (h : Low lo e d) (hb : lo ≤ 0x100000) : Low lo e (makeReady th d) :=
  Low.nextRefresh (Low.joinReady ((h.wrapInc (hb.trans (by decide))).sat (hb.trans (by decide))) hb) (by omega)

theorem Low.wakeThread {th wake st earg : Nat} (h : Low lo e d) (hb : lo ≤ 0x100000) :
    Low lo e (wakeThread t th wake st earg d) := by
  unfold Machine.wakeThread
  split
  · exact h
  · exact Low.makeReady (Low.endStarted (h.clearWait hb)) hb

theorem Low.dspAlarm {r : Nat} {up : Bool} (h : Low lo e d) (hb : lo ≤ 0x100000) : Low lo e (dspAlarm t r up d) := by
  refine .ite h (h.foldl fun x _ hx => ?_)
  split
  · exact .ite (hx.wakeThread hb) hx
  · exact hx

theorem Low.modEng {n : Nat} {f : CapEng → CapEng} (h : Low lo e d) : Low lo e (Dev.modEng d n f) := h.modCap

theorem Low.defFire {k : Nat} {i : Inst} (h : Low lo e d) (hb : lo ≤ 0x100000) : Low lo e (defFire k i d) :=
  ((h.wrapInc (hb.trans (by decide))).setN (hb.trans (by decide))).foldl fun _ _ hx => .ite hx.modEng hx

theorem Low.capRule {r : Nat} {up : Bool} {i : Inst} (h : Low lo e d) (hb : lo ≤ 0x100000) :
    Low lo e (capRule r up i d) := .ite h (h.foldl fun _ _ hx => .ite (hx.defFire hb) hx)
end

theorem PinsStand.edgePost {ed : Edge} (h : PinsStand e d) : PinsStand e (edgePost t ed d) := by
  have hr : (Machine.edgePost t ed d).rul = d.rul := (@Tame.edgePost [.hif, .dsp, .cap] d d t ed (.refl _ d)
    ⟨by decide⟩ ⟨by decide⟩ ⟨by decide⟩).stands .rul (by decide)
  refine h.trans ⟨(Apart.refl _ d).ofLow (lo := 0xF2010) ?_ (by unfold PinWord; omega), by rw [hr], by rw [hr]⟩
  have h0 : Low 0xF2010 d d := fun _ _ => rfl
  unfold Machine.edgePost
  split
  · exact Low.capRule (.ite (h0.dspAlarm (by decide)) h0) (by decide)
  · exact h0

/-! ## The actions of an edge (R367) -/

/-- The state with the edge at the head of the queue gone. -/
def actionTaken (rest : List Edge) (d : Dev) : Dev := d.modRul fun x => { x with actQ := rest }

theorem alarmAction_pins {ed : Edge} {rest : List Edge} (h : d.rul.actQ = ed :: rest) :
    PinsStand (pinsEdge t ed (actionTaken rest d)) (alarmAction t d) := by
  unfold alarmAction
  rw [h]
  have h0 : PinsStand (pinsEdge t ed (actionTaken rest d))
      (edgeToken ed (tmplEdge t ed (pinsEdge t ed (actionTaken rest d)))) := ((PinsStand.refl _).tmplEdge).edgeToken
  exact (PinsStand.edgeLog (.ite h0.alarmRecord h0)).edgePost

/-- Pin n is in the latch mode, its latch is closed, and the rules drive it. -/
structure Latched (n : Nat) (d : Dev) : Prop where
  up : d.up islAna = true
  rules : d.get Reg.GLB_SPLIT.RULES ≠ 0
  mode : d.getN Reg.RUL_PINn.MODE n = 3
  closed : (pinState d n).latched = true

theorem pin_addr (n : Nat) : Reg.RUL_PINn.STATE.reg.addr n = 0xC0030 + n * 4 := RegAt.addr_single rfl n

theorem Latched.stands (h : Latched n e) (hn : n < 4) (hp : PinsStand e d) (hu : d.up islAna = e.up islAna) : Latched n d where
  up := hu.trans h.up
  rules := by
    rw [hp.words.get (.inl rfl)]
    exact h.rules
  mode := by
    rw [hp.words.getN (f := Reg.RUL_PINn.MODE) (show PinWord (Reg.RUL_PINn.STATE.reg.addr n) from .inr (by rw [pin_addr]; omega))]
    exact h.mode
  closed := by
    rw [pinState, hp.pins]
    exact h.closed

theorem Latched.follows (h : Latched n d) : pinFollows t n d = ⟨none, none, true⟩ := by
  rw [pinFollows_latch h.mode, h.closed]

/-- Its state shows it, whatever pin is formed again. -/
theorem Latched.pinUpdate (h : Latched n d) (hm : m < 4) : Latched n (pinUpdate t m d) where
  up := h.up
  rules := by
    rw [Dev.get, getN_of_word (pinUpdate_word _ (by rw [pin_addr]; exact Nat.ne_of_lt (by show 0x20 < _; omega)))]
    exact h.rules
  mode := by
    refine Eq.trans ?_ h.mode
    by_cases hn : n = m
    · subst hn
      exact Dev.getN_setN_apart _ Reg.RUL_PINn.STATE Reg.RUL_PINn.MODE n n _ rfl rfl rfl
    · exact getN_of_word (pinUpdate_word _ (by show Reg.RUL_PINn.STATE.reg.addr n ≠ _; rw [pin_addr, pin_addr]; omega))
  closed := by
    by_cases hn : n = m
    · subst hn
      rw [pinUpdate_on h.rules h.up, h.follows]
      exact congrArg PinSt.latched (tget_tset_same d.rul.pins n ⟨none, none, true⟩)
    · rw [pinUpdate_other hn]
      exact h.closed

theorem Latched.shows (h : Latched n d) : (Machine.pinUpdate t n d).getN Reg.RUL_PINn.STATE n = 1 := by
  rw [pinUpdate_state h.rules h.up, h.follows]
  simp [PinSt.asserts, b2n]

/-- A closed latch stays closed when the pins are formed again, and stands. -/
theorem Latched.foldl (h : Latched n d) (l : List Nat) (hl : ∀ k ∈ l, k < 4)
    (hn : n ∈ l ∨ d.getN Reg.RUL_PINn.STATE n = 1) :
    Latched n (l.foldl (fun x k => Machine.pinUpdate t k x) d) ∧
    (l.foldl (fun x k => Machine.pinUpdate t k x) d).getN Reg.RUL_PINn.STATE n = 1 := by
  induction l generalizing d with
  | nil => exact ⟨h, hn.resolve_left (by simp)⟩
  | cons k l ih =>
    refine ih (h.pinUpdate (hl k (by simp))) (fun j hj => hl j (by simp [hj])) ?_
    by_cases hk : n = k
    · subst hk
      exact .inr h.shows
    · refine hn.imp (fun hn => (List.mem_cons.mp hn).resolve_left hk) fun hn => ?_
      rw [getN_of_word (pinUpdate_word _ (by rw [pin_addr, pin_addr]; omega))]
      exact hn

theorem Latched.pinsUpdate (h : Latched n d) (hn : n < 4) :
    Latched n (pinsUpdate t d) ∧ (Machine.pinsUpdate t d).getN Reg.RUL_PINn.STATE n = 1 :=
  h.foldl _ (fun _ => List.mem_range.mp) (.inl (List.mem_range.mpr hn))

theorem pinRise_regs : (pinRise t n d).regs = d.regs := by
  unfold pinRise
  dsimp only
  split
  · split <;> rfl
  · rfl
  · rfl

theorem pinRise_latches (h : d.getN Reg.RUL_PINn.MODE n = 3) :
    pinRise t n d = d.modRul fun x => { x with pins := tset x.pins n ⟨none, none, true⟩ } := by
  unfold pinRise
  dsimp only
  rw [h]
  rfl

theorem pinRise_other (hm : m ≠ n) : pinState (pinRise t n d) m = pinState d m := by
  unfold pinRise
  dsimp only
  split
  · split
    · rfl
    · exact tget_tset_other d.rul.pins hm ⟨none, some (t.loc + d.getN Reg.RUL_PINn.MIN_WIDTH n * 1000000), false⟩
  · exact tget_tset_other d.rul.pins hm ⟨none, none, true⟩
  · rfl

/-- A pin that an edge of rule r drives rises. -/
def pinDriven (t : Time) (r : Nat) (x : Dev) (n : Nat) : Dev :=
  if (x.getN Reg.T_RULE.PINS r).testBit n then pinRise t n x else x

/-- The pins that an edge of rule r drives rise. -/
def pinsRise (t : Time) (r : Nat) (l : List Nat) (d : Dev) : Dev := l.foldl (pinDriven t r) d

theorem pinDriven_regs (r k : Nat) (d : Dev) : (pinDriven t r d k).regs = d.regs := by
  unfold pinDriven
  split
  exacts [pinRise_regs, rfl]

theorem pinDriven_other {r k : Nat} (hk : n ≠ k) : pinState (pinDriven t r d k) n = pinState d n := by
  unfold pinDriven
  split
  exacts [pinRise_other hk, rfl]

theorem pinsRise_regs (r : Nat) (l : List Nat) (d : Dev) : (pinsRise t r l d).regs = d.regs :=
  foldl_keeps Dev.regs _ (fun x k => pinDriven_regs r k x) l d

theorem pinsRise_other (r : Nat) (l : List Nat) (hl : n ∉ l) : pinState (pinsRise t r l d) n = pinState d n := by
  induction l generalizing d with
  | nil => rfl
  | cons k l ih =>
    obtain ⟨hk, hl⟩ := not_or.mp (fun h => hl (List.mem_cons.mpr h))
    exact (ih hl).trans (pinDriven_other hk)

theorem getN_of_regs {x : Dev} (h : x.regs = d.regs) (f : Field) (i : Nat) : x.getN f i = d.getN f i :=
  getN_of_word (by rw [Dev.word, h, ← Dev.word])

/-- A latching pin that the edge drives is latched. -/
theorem pinsRise_latched {r : Nat} {l : List Nat} (hnd : l.Nodup) (hl : n ∈ l)
    (hp : (d.getN Reg.T_RULE.PINS r).testBit n = true) (hm : d.getN Reg.RUL_PINn.MODE n = 3) :
    (pinState (pinsRise t r l d) n).latched = true := by
  induction l generalizing d with
  | nil => simp at hl
  | cons k l ih =>
    obtain ⟨hk, hnd⟩ := List.nodup_cons.mp hnd
    have hr := pinDriven_regs (t := t) r k d
    rcases List.mem_cons.mp hl with h | h
    · subst h
      have hs : pinState (pinsRise t r (n :: l) d) n = pinState (pinDriven t r d n) n := pinsRise_other (t := t) r l hk
      rw [hs, pinDriven, if_pos hp, pinRise_latches hm]
      exact congrArg PinSt.latched (tget_tset_same d.rul.pins n ⟨none, none, true⟩)
    · refine ih hnd h ?_ ?_
      · rwa [getN_of_regs hr]
      · rwa [getN_of_regs hr]

theorem pinsEdge_rising {ed : Edge} {r : Nat} (hr : ed.rule = some r) (hk : ed.kind = 1) :
    pinsEdge t ed d = pinsUpdate t (pinsRise t r (List.range 4) d) := by
  unfold pinsEdge
  dsimp only
  rw [hr]
  exact congrArg (pinsUpdate t) (if_pos hk)

theorem pinsEdge_latches {ed : Edge} {r : Nat} (hr : ed.rule = some r) (hk : ed.kind = 1) (hn : n < 4)
    (hu : d.up islAna = true) (hp : (d.getN Reg.T_RULE.PINS r).testBit n = true) (hm : d.getN Reg.RUL_PINn.MODE n = 3)
    (hs : d.get Reg.GLB_SPLIT.RULES ≠ 0) :
    Latched n (pinsEdge t ed d) ∧ (pinsEdge t ed d).getN Reg.RUL_PINn.STATE n = 1 := by
  rw [pinsEdge_rising hr hk]
  have hg := pinsRise_regs (t := t) r (List.range 4) d
  refine Latched.pinsUpdate ⟨?_, ?_, ?_, ?_⟩ hn
  · have hi : (pinsRise t r (List.range 4) d).isl = d.isl :=
      foldl_keeps Dev.isl _ (fun x k => by
        unfold pinDriven
        split
        · exact (@Tame.pinRise [.rul] x x t k (.refl _ x) ⟨by decide⟩).stands .isl (by decide)
        · rfl) _ d
    rw [Dev.up, hi]
    exact hu
  · rw [Dev.get, getN_of_regs hg]
    exact hs
  · rw [getN_of_regs hg]
    exact hm
  · exact pinsRise_latched List.nodup_range (List.mem_range.mpr hn) hp hm

theorem pinsUpdate_queue (d : Dev) : (pinsUpdate t d).rul.actQ = d.rul.actQ :=
  foldl_keeps (fun y => y.rul.actQ) (fun x k => pinUpdate t k x) (fun _ _ => rfl) _ d

theorem pinsEdge_queue (ed : Edge) : (pinsEdge t ed d).rul.actQ = d.rul.actQ := by
  have hr (r k : Nat) (x : Dev) : (pinDriven t r x k).rul.actQ = x.rul.actQ := by
    unfold pinDriven pinRise
    dsimp only
    split
    · split
      · split <;> rfl
      · rfl
      · rfl
    · rfl
  unfold pinsEdge
  dsimp only
  rw [pinsUpdate_queue]
  split
  · next r _ =>
    split
    · exact foldl_keeps (fun y => y.rul.actQ) (pinDriven t r) (fun x k => hr r k x) _ d
    · rfl
  · rfl

/-- A new mode is taken, and the pins follow it. -/
def modeTaken (t : Time) (m : Nat) (d : Dev) : Dev := pinsUpdate t (d.modRul fun x => { x with mode := m, next := m })

theorem rulTakeMode_cases (t : Time) (d : Dev) : rulTakeMode t d = d ∨ ∃ m, rulTakeMode t d = modeTaken t m d := by
  unfold rulTakeMode
  dsimp only
  generalize (if d.on Reg.ALN_STATUS.RUN = true then d.rul.next else d.get Reg.GLB_SPLIT.RULES) = m
  split
  · exact .inl rfl
  · exact .inr ⟨m, rfl⟩

theorem rulTakeMode_queue : (rulTakeMode t d).rul.actQ = d.rul.actQ := by
  rcases rulTakeMode_cases t d with h | ⟨m, h⟩
  · rw [h]
  · rw [h, modeTaken, pinsUpdate_queue]
    rfl

theorem rulTakeMode_latched (h : Latched n d) (hn : n < 4) (hs : d.getN Reg.RUL_PINn.STATE n = 1) :
    Latched n (rulTakeMode t d) ∧ (rulTakeMode t d).getN Reg.RUL_PINn.STATE n = 1 := by
  rcases rulTakeMode_cases t d with h1 | ⟨m, h1⟩
  · rw [h1]
    exact ⟨h, hs⟩
  · rw [h1]
    exact Latched.pinsUpdate ⟨h.up, h.rules, h.mode, h.closed⟩ hn

theorem action_commands : (∀ (s : State), s.dev.rul.actQ = [] ∨ s.dev.up islAna = false →
      exec .alarmAction s = .next (s.after s.dev)) ∧
    (∀ (s : State) (e : Edge) (rest : List Edge), s.dev.up islAna = true → s.dev.rul.actQ = e :: rest →
      ∃ t, exec .alarmAction s = .next t ∧ t = s.after (rulTakeMode s.time (alarmAction s.time s.dev)) ∧ t.dev.rul.actQ = rest ∧
        ∀ r n, e.rule = some r → e.kind = 1 → n < 4 → (s.dev.getN Reg.T_RULE.PINS r).testBit n = true →
          s.dev.getN Reg.RUL_PINn.MODE n = 3 → s.dev.get Reg.GLB_SPLIT.RULES ≠ 0 →
          t.dev.getN Reg.RUL_PINn.STATE n = 1 ∧ (pinState t.dev n).latched = true) := by
  refine ⟨fun s h => ?_, fun s e rest hu hq => ?_⟩
  · rw [exec_alarmAction, if_neg]
    rcases h with h | h
    · simp [h]
    · simp [h]
  · have hp := alarmAction_pins (t := s.time) hq
    rw [exec_alarmAction, if_pos ⟨hu, by simp [hq]⟩]
    refine ⟨_, rfl, rfl, ?_, fun r n hr hk hn hpin hm hs => ?_⟩
    · rw [after_rul, rulTakeMode_queue, hp.queue, pinsEdge_queue]
      rfl
    · obtain ⟨hl, hst⟩ := pinsEdge_latches (t := s.time) (d := actionTaken rest s.dev) hr hk hn hu hpin hm hs
      have hi : (alarmAction s.time s.dev).up islAna = (pinsEdge s.time e (actionTaken rest s.dev)).up islAna := by
        have h1 : (alarmAction s.time s.dev).isl = s.dev.isl := (@Tame.alarmAction
          [.hif, .ports, .pairs, .keys, .dsp, .dxl, .cap, .rul] s.dev s.dev s.time (.refl _ _) ⟨by decide⟩ ⟨by decide⟩
          ⟨by decide⟩ ⟨by decide⟩ ⟨by decide⟩ ⟨by decide⟩ ⟨by decide⟩ ⟨by decide⟩).stands .isl (by decide)
        rw [hl.up, Dev.up, h1]
        exact hu
      have hw : PinWord (Reg.RUL_PINn.STATE.reg.addr n) := .inr (by rw [pin_addr]; omega)
      obtain ⟨hl', hst'⟩ := rulTakeMode_latched (t := s.time) (hl.stands hn hp hi) hn ((hp.words.getN hw).trans hst)
      refine ⟨?_, ?_⟩
      · rw [after_getN _ _ _ _ (notIntake_of_lt (by rw [pin_addr]; omega))]
        exact hst'
      · rw [pinState, after_rul]
        exact hl'.closed

/-- Settles O41: each pin by its mode; an edge's actions and what they leave alone; a template's series. -/
theorem alarms : Obligations.Alarms := by
  unfold Obligations.Alarms
  refine ⟨⟨pin_commands, fun t n d _ hu => pin_rules t n d hu⟩, action_commands.1, action_commands.2,
    fun s m v hm hu => ?_, fun s m v hm hu => template_commands s m v hm hu, goose_commands.1, goose_commands.2,
    nextOfs_doubles⟩
  have hu' : s.dev.up (islandOf 0x350000) = true := hu
  rw [exec_templateEnable, onWrite_up _ hu', if_neg (by omega)]

end Sys2Proof.Machine

/-!
PROOFS. Capture is enabled, its triggers and masks are set, and its engines armed (R426 to R442, R448, R456).
-/

namespace Sys2Proof.Machine

open Sys2Proof

variable {d : Dev} {t : Time} {n m k : Nat}

theorem exec_captureArm (eng : Nat) (s : State) :
    exec (.captureArm eng) s =
      .next (s.after (if eng < 8 then onWrite 0xE0100 (captureArm s.time eng) s.dev else s.dev)) := rfl

theorem exec_captureComplete (eng : Nat) (s : State) :
    exec (.captureComplete eng) s = .next (s.after (if eng < 8 then captureComplete s.time eng s.dev else s.dev)) := rfl

theorem exec_captureDeliver (eng : Nat) (s : State) :
    exec (.captureDeliver eng) s = .next (s.after (if eng < 8 then captureDeliver eng s.dev else s.dev)) := rfl

theorem exec_captureDisable (s : State) :
    exec .captureDisable s = .next (s.after (onWrite 0xE0000 (fun d => captureStop (d.set Reg.CAP_CTRL.EN 0)) s.dev)) := rfl

theorem exec_captureDisarm (eng : Nat) (s : State) :
    exec (.captureDisarm eng) s =
      .next (s.after (if eng < 8 then onWrite 0xE0100 (captureDisarm eng) s.dev else s.dev)) := rfl

theorem exec_captureEnable (s : State) :
    exec .captureEnable s =
      .next (s.after (onWrite 0xE0000 (fun d => if d.on Reg.CAP_CTRL.EN then d else captureStart d) s.dev)) := rfl

theorem exec_captureRelease (eng : Nat) (s : State) :
    exec (.captureRelease eng) s =
      .next (s.after (if eng < 8 then onWrite 0xE0100 (captureRelease s.time eng) s.dev else s.dev)) := rfl

theorem exec_captureTimedArm (eng : Nat) (s : State) :
    exec (.captureTimedArm eng) s = .next (s.after (captureTimedArm s.time eng s.dev)) := rfl

theorem exec_captureTrigger (eng : Nat) (s : State) :
    exec (.captureTrigger eng) s = .next (s.after (if eng < 8 then captureTrigger s.time eng s.dev else s.dev)) := rfl

theorem exec_collectionClose (eng : Nat) (s : State) :
    exec (.collectionClose eng) s = .next (s.after (if eng < 8 then collectionClose s.time eng s.dev else s.dev)) := rfl

theorem exec_maskValidate (k : Nat) (v : Word32) (s : State) :
    exec (.maskValidate k v) s =
      .next (s.after (if k < 32 then onWrite 0x373000 (maskValidate k v) s.dev else s.dev)) := rfl

theorem exec_pretriggerFull (eng : Nat) (s : State) :
    exec (.pretriggerFull eng) s = .next (s.after (pretriggerFull s.time eng s.dev)) := rfl

theorem exec_softwareTrigger (v : Word32) (s : State) :
    exec (.softwareTrigger v) s = .next (s.after (onWrite 0xE0010 (softwareTrigger s.time v) s.dev)) := rfl

theorem exec_triggerDefValidate (d : Nat) (v : Word32) (s : State) :
    exec (.triggerDefValidate d v) s =
      .next (s.after (if d < 256 then onWrite 0x371000 (triggerValidate d v) s.dev else s.dev)) := rfl

/-! ## An engine and its state -/

@[simp] theorem Dev.setN_eng (d : Dev) (f : Field) (i v : Nat) : (d.setN f i v).eng m = d.eng m := rfl
@[simp] theorem Dev.set_eng (d : Dev) (f : Field) (v : Nat) : (d.set f v).eng m = d.eng m := rfl
@[simp] theorem Dev.sat_eng (d : Dev) (f : Field) (i : Nat) : (d.sat f i).eng m = d.eng m := rfl
@[simp] theorem setEng_eng (st : Nat) (d : Dev) : (setEng n st d).eng m = d.eng m := rfl
@[simp] theorem Dev.cause_eng (d : Dev) (b : IntBlk) (c i x : Nat) : (d.cause b c i x).eng m = d.eng m := by
  rw [Dev.eng, Dev.cause_cap, Dev.eng]
theorem after_eng (s : State) (d : Dev) (m : Nat) : (s.after d).dev.eng m = d.eng m := by
  rw [Dev.eng, after_cap, Dev.eng]

theorem eng_addr {r : RegAt} {b : Nat} (h : r = ⟨b, 0x40, 8, 1, 0⟩) (n : Nat) : r.addr n = b + n * 0x40 :=
  RegAt.addr_single h n

theorem after_engN (s : State) (d : Dev) (f : Field) {b : Nat} (h : f.reg = ⟨b, 0x40, 8, 1, 0⟩) (hb : b < 0xF0000)
    (hn : n < 8) : (s.after d).dev.getN f n = d.getN f n :=
  after_getN _ _ _ _ (notIntake_of_lt (by rw [eng_addr h]; omega))

theorem state_addr (n : Nat) : Reg.CAP_ENGn_STAT.STATE.reg.addr n = 0xE0120 + n * 0x40 := eng_addr rfl n

theorem after_engState (s : State) (d : Dev) (hn : n < 8) : engState (s.after d).dev n = engState d n :=
  after_engN s d Reg.CAP_ENGn_STAT.STATE rfl (by decide) hn

theorem setEng_state {st : Nat} (h : st < 8) (d : Dev) : engState (setEng n st d) n = st :=
  (Dev.getN_setN_same _ _ _ _ rfl).trans (Nat.mod_eq_of_lt h)

theorem setEng_other {st : Nat} (hm : m ≠ n) (d : Dev) : engState (setEng n st d) m = engState d m :=
  Dev.getN_setN_addr _ _ _ _ _ _ (by rw [state_addr, state_addr]; omega)

theorem cause_engState (c i x : Nat) (d : Dev) : engState (d.cause intCap c i x) m = engState d m :=
  Dev.cause_getN _ _ _ _ _ _ _ (by rw [state_addr]; show 0xE0120 + _ ≠ 0xE000C; omega)

theorem setEng_armStatus (st : Nat) (d : Dev) :
    (setEng n st d).getN Reg.CAP_ENGn_STAT.ARM_STATUS m = d.getN Reg.CAP_ENGn_STAT.ARM_STATUS m :=
  Dev.getN_setN_apart _ _ _ _ _ _ rfl rfl rfl

theorem armStatus_state (st : Nat) (d : Dev) :
    engState (d.setN Reg.CAP_ENGn_STAT.ARM_STATUS n st) m = engState d m :=
  Dev.getN_setN_apart _ _ _ _ _ _ rfl rfl rfl

/-- An engine without a record. -/
def CapEng.idle (e : CapEng) : CapEng := { (default : CapEng) with seq := e.seq }

theorem engIdle_eng : (engIdle n d).eng n = (d.eng n).idle := Dev.modEng_eng d n CapEng.idle

theorem engIdle_eng_other (hm : m ≠ n) : (engIdle n d).eng m = d.eng m := Dev.modEng_eng_other d n CapEng.idle hm

theorem engIdle_state : engState (engIdle n d) n = 0 := setEng_state (by decide) _

theorem engIdle_state_other (hm : m ≠ n) : engState (engIdle n d) m = engState d m := setEng_other hm _

/-! ## Enabling (R426, R427, R456) -/

/-- The lanes whose history is laid out. -/
def histLanes (d : Dev) : List Nat := if d.get Reg.CAP_HIST.H = 0 then [] else recLanes d

def histWords (d : Dev) : Nat := ((layoutOf (d.get Reg.CAP_HIST.H) d (histLanes d) 0).map fun r => r.size).sum

/-- NEED shows the history's size. -/
def captureNeeds (d : Dev) : Dev := d.set Reg.CAP_STATUS.NEED (min 255 ((histWords d * 4 + 2 ^ 20 - 1) / 2 ^ 20))

/-- The enable is refused. -/
def captureRefused (st : Nat) (d : Dev) : Dev :=
  capRej (((d.set Reg.CAP_CTRL.EN 0).set Reg.CAP_STATUS.FAIL st).set Reg.CAP_STATUS.RUN 0)

/-- The regions, each empty where the partition is absent. -/
def captureLayout (d : Dev) : List CapRegion :=
  if partBytes d partRaw == 0 then
    (layoutOf (d.get Reg.CAP_HIST.H) d (histLanes d) 0).map fun r => { r with base := 0, size := 0 }
  else layoutOf (d.get Reg.CAP_HIST.H) d (histLanes d) 0

/-- The history is filled. -/
def captureFilled (d : Dev) : Dev :=
  if partBytes d partRaw == 0 then captureNeeds d
  else partWrite partRaw (partWord d partRaw) (List.replicate (histWords d) wMissing) (captureNeeds d)

/-- Capture runs with a layout. -/
def captureRuns (l : List CapRegion) (d : Dev) : Dev :=
  (((d.modCap fun c => { c with layout := l }).set Reg.CAP_CTRL.EN 1).set Reg.CAP_STATUS.FAIL stOk).set Reg.CAP_STATUS.RUN 1

/-- Capture runs with its layout. -/
def captureLaid (d : Dev) : Dev := captureRuns (captureLayout d) (captureFilled d)

theorem captureStart_cases (d : Dev) : captureStart d =
    if (histLanes d).any fun n => d.getN Reg.T_LANE.FS n * d.get Reg.CAP_HIST.H % 1000 != 0 then
      captureRefused stRejected (captureNeeds d)
    else if !(partBytes d partRaw == 0) && decide (partBytes d partRaw < histWords d * 4) then
      captureRefused stNoSpace (captureNeeds d)
    else captureLaid d := rfl

theorem captureRefused_shows {st : Nat} (hs : st < 256) (d : Dev) :
    (captureRefused st d).on Reg.CAP_CTRL.EN = false ∧ (captureRefused st d).on Reg.CAP_STATUS.RUN = false ∧
    (captureRefused st d).get Reg.CAP_STATUS.FAIL = st ∧ (captureRefused st d).cap = d.cap := by
  have hc (f : Field) (x : Dev) (h : f.reg.addr 0 ≠ intCap.addr) : (capRej x).get f = x.get f :=
    Dev.cause_getN _ _ _ _ _ _ _ h
  have ho (f : Field) (x : Dev) (h : f.reg.addr 0 ≠ intCap.addr) : (capRej x).on f = x.on f :=
    congrArg (· != 0) (hc f x h)
  unfold captureRefused
  refine ⟨?_, ?_, ?_, Dev.cause_cap _ _ _ _ _⟩
  · rw [ho _ _ (by decide), Dev.on_set_other _ _ _ _ rfl, Dev.on_set_other _ _ _ _ rfl, Dev.on_set_same _ _ _ rfl]
    rfl
  · rw [ho _ _ (by decide), Dev.on_set_same _ _ _ rfl]
    rfl
  · rw [hc _ _ (by decide), Dev.get_set_other _ _ _ _ rfl, Dev.get_set_same _ _ _ rfl hs]

theorem captureRuns_shows (l : List CapRegion) (d : Dev) :
    (captureRuns l d).on Reg.CAP_CTRL.EN = true ∧ (captureRuns l d).on Reg.CAP_STATUS.RUN = true ∧
    (captureRuns l d).get Reg.CAP_STATUS.FAIL = stOk := by
  unfold captureRuns
  refine ⟨?_, ?_, ?_⟩
  · rw [Dev.on_set_other _ _ _ _ rfl, Dev.on_set_other _ _ _ _ rfl, Dev.on_set_same _ _ _ rfl]
    rfl
  · rw [Dev.on_set_same _ _ _ rfl]
    rfl
  · rw [Dev.get_set_other _ _ _ _ rfl, Dev.get_set_same _ _ _ rfl (by decide)]

theorem captureRuns_layout (l : List CapRegion) (d : Dev) : (captureRuns l d).cap.layout = l := rfl

theorem captureRuns_hmp (l : List CapRegion) (d : Dev) : (captureRuns l d).hmp = d.hmp := rfl

theorem captureLaid_shows (d : Dev) :
    (captureLaid d).on Reg.CAP_CTRL.EN = true ∧ (captureLaid d).on Reg.CAP_STATUS.RUN = true ∧
    (captureLaid d).get Reg.CAP_STATUS.FAIL = stOk ∧ (captureLaid d).cap.layout = captureLayout d ∧
    (captureLaid d).hmp = (captureFilled d).hmp :=
  have ⟨h1, h2, h3⟩ := captureRuns_shows (captureLayout d) (captureFilled d)
  ⟨h1, h2, h3, captureRuns_layout _ _, captureRuns_hmp _ _⟩

theorem layoutOf_lanes (h : Nat) (l : List Nat) (a : Nat) : (layoutOf h d l a).map (fun r => r.lane) = l := by
  induction l generalizing a with
  | nil => rfl
  | cons n l ih => exact congrArg (n :: ·) (ih _)

theorem layoutOf_sizes (h : Nat) (l : List Nat) (a : Nat) :
    (layoutOf h d l a).map (fun r => r.size) = l.map fun n => d.getN Reg.T_LANE.FS n * h / 1000 := by
  induction l generalizing a with
  | nil => rfl
  | cons n l ih => exact congrArg (_ :: ·) (ih _)

theorem captureLayout_lanes (d : Dev) : (captureLayout d).map (fun r => r.lane) = histLanes d := by
  unfold captureLayout
  split
  · rw [List.map_map]
    exact layoutOf_lanes _ _ _
  · exact layoutOf_lanes _ _ _

theorem histWords_eq (d : Dev) :
    histWords d = ((histLanes d).map fun n => d.getN Reg.T_LANE.FS n * d.get Reg.CAP_HIST.H / 1000).sum :=
  congrArg List.sum (layoutOf_sizes _ _ _)

theorem histLanes_none (h : d.get Reg.CAP_HIST.H = 0) : histLanes d = [] := if_pos h

theorem histLanes_all (h : d.get Reg.CAP_HIST.H ≠ 0) : histLanes d = recLanes d := if_neg h

theorem captureStart_empty (h : d.get Reg.CAP_HIST.H = 0) : captureStart d = captureLaid d := by
  have hw : histWords d = 0 := by rw [histWords_eq, histLanes_none h]; rfl
  rw [captureStart_cases, histLanes_none h, hw, if_neg (by simp), if_neg (by simp)]

theorem captureStart_rules (d : Dev) :
    (d.get Reg.CAP_HIST.H = 0 → (captureStart d).on Reg.CAP_CTRL.EN = true ∧
      (captureStart d).on Reg.CAP_STATUS.RUN = true ∧ (captureStart d).get Reg.CAP_STATUS.FAIL = stOk ∧
      (captureStart d).cap.layout = [] ∧ (captureStart d).hmp = d.hmp) ∧
    (d.get Reg.CAP_HIST.H ≠ 0 → (∃ n ∈ recLanes d, d.getN Reg.T_LANE.FS n * d.get Reg.CAP_HIST.H % 1000 ≠ 0) →
      (captureStart d).on Reg.CAP_CTRL.EN = false ∧ (captureStart d).on Reg.CAP_STATUS.RUN = false ∧
      (captureStart d).get Reg.CAP_STATUS.FAIL = stRejected ∧ (captureStart d).cap = d.cap) ∧
    (∀ words : Nat, d.get Reg.CAP_HIST.H ≠ 0 → (∀ n ∈ recLanes d, d.getN Reg.T_LANE.FS n * d.get Reg.CAP_HIST.H % 1000 = 0) →
      words = ((recLanes d).map fun n => d.getN Reg.T_LANE.FS n * d.get Reg.CAP_HIST.H / 1000).sum →
      (partBytes d partRaw ≠ 0 → partBytes d partRaw < words * 4 →
        (captureStart d).on Reg.CAP_CTRL.EN = false ∧ (captureStart d).on Reg.CAP_STATUS.RUN = false ∧
        (captureStart d).get Reg.CAP_STATUS.FAIL = stNoSpace ∧ (captureStart d).cap = d.cap) ∧
      (partBytes d partRaw = 0 ∨ words * 4 ≤ partBytes d partRaw →
        (captureStart d).on Reg.CAP_CTRL.EN = true ∧ (captureStart d).on Reg.CAP_STATUS.RUN = true ∧
        (captureStart d).get Reg.CAP_STATUS.FAIL = stOk ∧
        (captureStart d).cap.layout.map (fun r => r.lane) = recLanes d)) := by
  refine ⟨fun h => ?_, fun h hx => ?_, fun words h hx hw => ?_⟩
  · rw [captureStart_empty h]
    obtain ⟨h1, h2, h3, h4, h5⟩ := captureLaid_shows d
    refine ⟨h1, h2, h3, ?_, ?_⟩
    · rw [h4, captureLayout, histLanes_none h]
      exact ite_self _
    · have hw : histWords d = 0 := by rw [histWords_eq, histLanes_none h]; rfl
      rw [h5, captureFilled, hw]
      split <;> rfl
  · rw [captureStart_cases, histLanes_all h, if_pos]
    · exact captureRefused_shows (by decide) _
    · simpa using hx
  · have hws : histWords d = words := by rw [histWords_eq, histLanes_all h, hw]
    have hn : ¬ ((recLanes d).any fun n => d.getN Reg.T_LANE.FS n * d.get Reg.CAP_HIST.H % 1000 != 0) = true := by
      simpa using hx
    rw [captureStart_cases, histLanes_all h, if_neg hn, hws]
    refine ⟨fun h0 hlt => ?_, fun hfit => ?_⟩
    · rw [if_pos (by simp [h0, hlt])]
      exact captureRefused_shows (by decide) _
    · rw [if_neg (by simpa [or_iff_not_imp_left] using hfit)]
      obtain ⟨h1, h2, h3, h4, -⟩ := captureLaid_shows d
      refine ⟨h1, h2, h3, ?_⟩
      rw [h4, captureLayout_lanes, histLanes_all h]

/-- Engines return to IDLE one after another. -/
def enginesIdle (l : List Nat) (d : Dev) : Dev := l.foldl (fun x n => engIdle n x) d

theorem enginesIdle_eng (l : List Nat) (d : Dev) (n : Nat) :
    (enginesIdle l d).eng n = if n ∈ l then (d.eng n).idle else d.eng n := by
  induction l generalizing d with
  | nil => simp [enginesIdle]
  | cons k l ih =>
    refine (ih (engIdle k d)).trans ?_
    by_cases hk : n = k
    · subst hk
      rw [engIdle_eng]
      simp [CapEng.idle]
    · rw [engIdle_eng_other hk]
      simp [hk]

theorem enginesIdle_state (l : List Nat) (d : Dev) (n : Nat) :
    engState (enginesIdle l d) n = if n ∈ l then 0 else engState d n := by
  induction l generalizing d with
  | nil => simp [enginesIdle]
  | cons k l ih =>
    refine (ih (engIdle k d)).trans ?_
    by_cases hk : n = k
    · subst hk
      rw [engIdle_state]
      simp
    · rw [engIdle_state_other hk]
      simp [hk]

theorem enginesIdle_on (l : List Nat) (d : Dev) : (enginesIdle l d).on Reg.CAP_CTRL.EN = d.on Reg.CAP_CTRL.EN :=
  foldl_keeps (fun x => x.on Reg.CAP_CTRL.EN) _ (fun x n => by
    refine congrArg (· != 0) (Dev.getN_setN_addr _ _ _ _ _ _ ?_)
    rw [state_addr]
    show 0xE0000 ≠ _
    omega) l d

/-- The layout is discarded and capture stands. -/
def layoutGone (d : Dev) : Dev := (d.modCap fun c => { c with layout := [] }).set Reg.CAP_STATUS.RUN 0

theorem captureStop_eq (d : Dev) : captureStop d = layoutGone (enginesIdle (List.range 8) d) := rfl

theorem layoutGone_eng (d : Dev) (n : Nat) : (layoutGone d).eng n = d.eng n := rfl

theorem layoutGone_state (d : Dev) (n : Nat) : engState (layoutGone d) n = engState d n :=
  Dev.getN_setN_addr _ _ _ _ _ _ (by rw [state_addr]; show _ ≠ 0xE0008; omega)

theorem layoutGone_shows (d : Dev) : (layoutGone d).on Reg.CAP_CTRL.EN = d.on Reg.CAP_CTRL.EN ∧
    (layoutGone d).on Reg.CAP_STATUS.RUN = false ∧ (layoutGone d).cap.layout = [] :=
  ⟨Dev.on_set_other _ _ _ _ rfl, Dev.on_set_same _ _ _ rfl, rfl⟩

theorem captureEnable_commands (s : State) (hu : s.dev.up islCap = true) :
    (s.dev.on Reg.CAP_CTRL.EN = true → exec .captureEnable s = .next (s.after s.dev)) ∧
    (s.dev.on Reg.CAP_CTRL.EN = false → exec .captureEnable s = .next (s.after (captureStart s.dev))) := by
  have hu' : s.dev.up (islandOf 0xE0000) = true := hu
  rw [exec_captureEnable, onWrite_up _ hu']
  exact ⟨fun h => by rw [if_pos h], fun h => by rw [if_neg (by simp [h])]⟩

theorem captureDisable_command (s : State) (hu : s.dev.up islCap = true) : ∃ t, exec .captureDisable s = .next t ∧
    t.dev.on Reg.CAP_CTRL.EN = false ∧ t.dev.on Reg.CAP_STATUS.RUN = false ∧ t.dev.cap.layout = [] ∧
    (∀ n, n < 8 → engState t.dev n = 0 ∧ (t.dev.eng n).inbox = [] ∧ (t.dev.eng n).seq = (s.dev.eng n).seq) := by
  have hu' : s.dev.up (islandOf 0xE0000) = true := hu
  obtain ⟨h1, h2, h3⟩ := layoutGone_shows (enginesIdle (List.range 8) (s.dev.set Reg.CAP_CTRL.EN 0))
  rw [exec_captureDisable, onWrite_up _ hu', captureStop_eq]
  refine ⟨_, rfl, ?_, ?_, ?_, fun n hn => ?_⟩
  · rw [after_on _ _ _ (notIntake_of_lt (by decide)), h1, enginesIdle_on, Dev.on_set_same _ _ _ rfl]
    rfl
  · rw [after_on _ _ _ (notIntake_of_lt (by decide)), h2]
  · rw [after_cap, h3]
  · rw [after_engState _ _ hn, after_eng, layoutGone_state, layoutGone_eng, enginesIdle_state, enginesIdle_eng,
      if_pos (List.mem_range.mpr hn), if_pos (List.mem_range.mpr hn)]
    exact ⟨rfl, rfl, rfl⟩

/-! ## Trigger definitions and masks (R434 to R436, R448) -/

theorem exec_triggerDefValidate_up {s : State} (v : Word32) (hk : k < 256) (hu : s.dev.up islCap = true) :
    exec (.triggerDefValidate k v) s = .next (s.after (triggerValidate k v s.dev)) := by
  have hu' : s.dev.up (islandOf 0x371000) = true := hu
  rw [exec_triggerDefValidate, if_pos hk, onWrite_up _ hu']

theorem exec_maskValidate_up {s : State} (v : Word32) (hk : k < 32) (hu : s.dev.up islCap = true) :
    exec (.maskValidate k v) s = .next (s.after (maskValidate k v s.dev)) := by
  have hu' : s.dev.up (islandOf 0x373000) = true := hu
  rw [exec_maskValidate, if_pos hk, onWrite_up _ hu']

theorem trigger_commands (s : State) (k : Nat) (v : Word32) (hk : k < 256) (hu : s.dev.up islCap = true) :
    (bitOf v 0 = false → exec (.triggerDefValidate k v) s = .next (s.after (s.dev.putWord (0x371000 + k * 0x20) v))) ∧
    (bitOf v 0 = true → s.dev.onN Reg.T_CTRIG.VALID k = false →
      (defOk v.toNat (s.dev.word (0x371000 + k * 0x20 + 4)).toNat (s.dev.word (0x371000 + k * 0x20 + 20)).toNat = false →
        exec (.triggerDefValidate k v) s =
          .next (s.after ((s.dev.putUnvalid (0x371000 + k * 0x20) v).cause intCap 0 0 0))) ∧
      (defOk v.toNat (s.dev.word (0x371000 + k * 0x20 + 4)).toNat (s.dev.word (0x371000 + k * 0x20 + 20)).toNat = true →
        exec (.triggerDefValidate k v) s = .next (s.after ((s.dev.putWord (0x371000 + k * 0x20) v).modCap
          fun c => { c with prev := tset c.prev k none })))) := by
  rw [exec_triggerDefValidate_up v hk hu, triggerValidate]
  refine ⟨fun h => by rw [if_neg (by simp [h])], fun h hv => ⟨fun ho => ?_, fun ho => ?_⟩⟩
  · rw [if_pos h, if_neg (by simp [ho]), if_neg (by simp [hv])]
    rfl
  · rw [if_pos h, if_pos ho, hv]
    rfl

theorem trigger_rewritten (s : State) (k : Nat) (v : Word32) (hk : k < 256) (hu : s.dev.up islCap = true)
    (h : bitOf v 0 = true) (hv : s.dev.onN Reg.T_CTRIG.VALID k = true) :
    exec (.triggerDefValidate k v) s = .next (s.after
      (if defOk v.toNat (s.dev.word (0x371000 + k * 0x20 + 4)).toNat (s.dev.word (0x371000 + k * 0x20 + 20)).toNat
        then s.dev.putWord (0x371000 + k * 0x20) v else s.dev.cause intCap 0 0 0)) := by
  rw [exec_triggerDefValidate_up v hk hu, triggerValidate, if_pos h, hv]
  rfl

theorem mask_commands (s : State) (k : Nat) (v : Word32) (hk : k < 32) (hu : s.dev.up islCap = true) :
    (bitOf v 0 = false → exec (.maskValidate k v) s = .next (s.after (s.dev.putWord (0x373000 + k * 0x100) v))) ∧
    (bitOf v 0 = true → s.dev.onN Reg.T_CMASK.VALID k = true →
      exec (.maskValidate k v) s = .next (s.after (s.dev.cause intCap 0 0 0))) ∧
    (bitOf v 0 = true → s.dev.onN Reg.T_CMASK.VALID k = false →
      exec (.maskValidate k v) s = .next (s.after (if maskOk s.dev k (bits v.toNat 1 5)
        then s.dev.putWord (0x373000 + k * 0x100) v
        else (s.dev.putUnvalid (0x373000 + k * 0x100) v).cause intCap 0 0 0))) := by
  rw [exec_maskValidate_up v hk hu, maskValidate]
  refine ⟨fun h => by rw [if_neg (by simp [h])], fun h hv => ?_, fun h hv => ?_⟩
  · rw [if_pos h, if_pos hv]
    rfl
  · rw [if_pos h, if_neg (by simp [hv])]
    rfl

/-! ## A definition fires (R435, R436) -/

/-- A firing reaches the engines that the definition names. -/
def inboxes (m : Nat) (x : Nat × Inst) (l : List Nat) (d : Dev) : Dev :=
  l.foldl (fun y n => if m.testBit n then y.modEng n fun e => { e with inbox := e.inbox ++ [x] } else y) d

theorem inboxes_inbox (w : Nat) (x : Nat × Inst) {l : List Nat} (hl : l.Nodup) (d : Dev) (n : Nat) :
    ((inboxes w x l d).eng n).inbox =
      if n ∈ l ∧ w.testBit n = true then (d.eng n).inbox ++ [x] else (d.eng n).inbox := by
  induction l generalizing d with
  | nil => simp [inboxes]
  | cons k l ih =>
    obtain ⟨hk, hl⟩ := List.nodup_cons.mp hl
    refine (ih hl _).trans ?_
    by_cases hn : n = k
    · subst hn
      by_cases hw : w.testBit n = true <;> simp [hk, hw]
    · have he : ((if w.testBit k = true then d.modEng k fun e => { e with inbox := e.inbox ++ [x] } else d).eng n) = d.eng n := by
        split
        · exact Dev.modEng_eng_other d k _ hn
        · rfl
      rw [he]
      simp [hn]

theorem inboxes_regs (w : Nat) (x : Nat × Inst) (l : List Nat) (d : Dev) : (inboxes w x l d).regs = d.regs :=
  foldl_keeps Dev.regs _ (fun y n => by split <;> rfl) l d

/-- A definition's firing is counted and its instant shown. -/
def firingShown (k : Nat) (i : Inst) (d : Dev) : Dev :=
  (d.wrapInc Reg.T_CTSTAT.FIRES k).setN Reg.T_CTSTAT.LAST k i.st32

theorem defFire_eq (i : Inst) : defFire k i d =
    inboxes (d.getN Reg.T_CTRIG.ENG k) (k, i) (List.range 8) (firingShown k i d) := rfl

theorem firingShown_fires (i : Inst) : (firingShown k i d).getN Reg.T_CTSTAT.FIRES k =
    (d.getN Reg.T_CTSTAT.FIRES k + 1) % 2 ^ Reg.T_CTSTAT.FIRES.width := by
  refine (Dev.getN_setN_addr _ _ _ _ _ _ ?_).trans (Dev.getN_setN_same _ _ _ _ rfl)
  rw [RegAt.addr_single (r := Reg.T_CTSTAT.FIRES.reg) rfl, RegAt.addr_single (r := Reg.T_CTSTAT.LAST.reg) rfl]
  omega

theorem fires_notIntake (hk : k < 256) : ¬ intakeWord (Reg.T_CTSTAT.FIRES.reg.addr k) := by
  refine notIntake_between ?_ ?_ <;> rw [RegAt.addr_single (r := Reg.T_CTSTAT.FIRES.reg) rfl] <;> omega

theorem software_commands (s : State) (v : Word32) (hu : s.dev.up islCap = true) :
    (bitOf v 31 = false ∨ s.dev.onN Reg.T_CTRIG.VALID (bits v.toNat 0 8) = false ∨
        s.dev.getN Reg.T_CTRIG.SRC (bits v.toNat 0 8) ≠ 4 →
      exec (.softwareTrigger v) s = .next (s.after s.dev)) ∧
    (bitOf v 31 = true → s.dev.onN Reg.T_CTRIG.VALID (bits v.toNat 0 8) = true →
      s.dev.getN Reg.T_CTRIG.SRC (bits v.toNat 0 8) = 4 →
      ∃ t, exec (.softwareTrigger v) s = .next t ∧
        t.dev.getN Reg.T_CTSTAT.FIRES (bits v.toNat 0 8) =
          (s.dev.getN Reg.T_CTSTAT.FIRES (bits v.toNat 0 8) + 1) % 2 ^ Reg.T_CTSTAT.FIRES.width ∧
        (∀ n, n < 8 → (t.dev.eng n).inbox =
          if (s.dev.getN Reg.T_CTRIG.ENG (bits v.toNat 0 8)).testBit n
          then (s.dev.eng n).inbox ++ [(bits v.toNat 0 8, qInst s.time.qns)] else (s.dev.eng n).inbox)) := by
  have hu' : s.dev.up (islandOf 0xE0010) = true := hu
  have hk : bits v.toNat 0 8 < 256 := Nat.mod_lt _ (by decide)
  rw [exec_softwareTrigger, onWrite_up _ hu', softwareTrigger]
  refine ⟨fun h => ?_, fun h1 h2 h3 => ?_⟩
  · rw [if_neg]
    rcases h with h | h | h <;> simp [h]
  · rw [if_pos (by simp [h1, h2, h3]), defFire_eq]
    refine ⟨_, rfl, ?_, fun n hn => ?_⟩
    · rw [after_getN _ _ _ _ (fires_notIntake hk), getN_of_regs (inboxes_regs _ _ _ _), firingShown_fires]
    · rw [after_eng, inboxes_inbox _ _ List.nodup_range]
      simp only [List.mem_range, hn, true_and]
      rfl

/-! ## Arming (R438 to R442) -/

/-- An engine as it is armed. -/
def CapEng.armed (t : Time) (status frm : Nat) (cs : List CapChan) (e : CapEng) : CapEng :=
  { (default : CapEng) with chans := cs, armT := t.ns, late := status == stLate, seq := e.seq, frmK := frm }

theorem engArm_eng (st : Nat) : (engArm t n st d).eng n =
    (d.eng n).armed t st (t.ns * spreadRate d / 1000000000 + 1) (chansOf d n) :=
  (Dev.cause_eng _ _ _ _ _).trans
    (Dev.modEng_eng d n (CapEng.armed t st (t.ns * spreadRate d / 1000000000 + 1) (chansOf d n)))

theorem engArm_eng_other (st : Nat) (hm : m ≠ n) : (engArm t n st d).eng m = d.eng m :=
  (Dev.cause_eng _ _ _ _ _).trans
    (Dev.modEng_eng_other d n (CapEng.armed t st (t.ns * spreadRate d / 1000000000 + 1) (chansOf d n)) hm)

theorem engArm_state (st : Nat) : engState (engArm t n st d) n = 2 :=
  (cause_engState _ _ _ _).trans (setEng_state (by decide) _)

theorem engArm_state_other (st : Nat) (hm : m ≠ n) : engState (engArm t n st d) m = engState d m :=
  (cause_engState _ _ _ _).trans ((setEng_other hm _).trans (armStatus_state _ _))

theorem engArm_armStatus {st : Nat} (hs : st < 256) : (engArm t n st d).getN Reg.CAP_ENGn_STAT.ARM_STATUS n = st := by
  refine (Dev.cause_getN _ _ _ _ _ _ _ ?_).trans ((setEng_armStatus _ _).trans
    ((Dev.getN_setN_same _ _ _ _ rfl).trans (Nat.mod_eq_of_lt hs)))
  show Reg.CAP_ENGn_STAT.STATE.reg.addr n ≠ 0xE000C
  rw [state_addr]
  omega

theorem engArm_cause (st : Nat) : bitOf ((engArm t n st d).word 0xE000C) 4 = true :=
  Dev.cause_sets _ intCap 4 n st (by decide)

theorem exec_captureArm_up {s : State} (hn : n < 8) (hu : s.dev.up islCap = true) :
    exec (.captureArm n) s = .next (s.after (captureArm s.time n s.dev)) := by
  have hu' : s.dev.up (islandOf 0xE0100) = true := hu
  rw [exec_captureArm, if_pos hn, onWrite_up _ hu']

theorem captureArm_idle (h : engState d n = 0) :
    captureArm t n d = engArmCheck t n (d.onN Reg.CAP_ENGn_CTRL.TIMED n) d := if_pos h

theorem engArmCheck_ok (timed : Bool) (h : armCheck d n = stOk) : engArmCheck t n timed d =
    if timed then setEng n 1 (d.setN Reg.CAP_ENGn_STAT.ARM_STATUS n stOk) else engArm t n stOk d := by
  unfold engArmCheck
  rw [h]
  rfl

theorem arm_commands (s : State) (n : Nat) (hn : n < 8) (hu : s.dev.up islCap = true) :
    (engState s.dev n ≠ 0 → exec (.captureArm n) s = .next (s.after (s.dev.cause intCap 0 0 0))) ∧
    (engState s.dev n = 0 → armCheck s.dev n = stSkipped → exec (.captureArm n) s =
      .next (s.after (s.dev.setN Reg.CAP_ENGn_STAT.ARM_STATUS n stSkipped))) ∧
    (engState s.dev n = 0 → armCheck s.dev n ≠ stOk → armCheck s.dev n ≠ stSkipped → exec (.captureArm n) s =
      .next (s.after ((s.dev.setN Reg.CAP_ENGn_STAT.ARM_STATUS n (armCheck s.dev n)).cause intCap 0 0 0))) ∧
    (engState s.dev n = 0 → armCheck s.dev n = stOk → s.dev.onN Reg.CAP_ENGn_CTRL.TIMED n = true →
      exec (.captureArm n) s =
        .next (s.after (setEng n 1 (s.dev.setN Reg.CAP_ENGn_STAT.ARM_STATUS n stOk)))) ∧
    (engState s.dev n = 0 → armCheck s.dev n = stOk → s.dev.onN Reg.CAP_ENGn_CTRL.TIMED n = false →
      ∃ t, exec (.captureArm n) s = .next t ∧ engState t.dev n = 2 ∧ (t.dev.eng n).chans = chansOf s.dev n ∧
        (t.dev.eng n).armT = s.time.ns ∧ (t.dev.eng n).inbox = [] ∧ (t.dev.eng n).seq = (s.dev.eng n).seq ∧
        t.dev.getN Reg.CAP_ENGn_STAT.ARM_STATUS n = stOk ∧ bitOf (t.dev.word 0xE000C) 4 = true ∧
        (∀ m, m < 8 → m ≠ n → t.dev.eng m = s.dev.eng m ∧ engState t.dev m = engState s.dev m)) := by
  rw [exec_captureArm_up hn hu]
  refine ⟨fun h => ?_, fun h hc => ?_, fun h hc hk => ?_, fun h hc ht => ?_, fun h hc ht => ?_⟩
  · rw [captureArm, if_neg h]
    rfl
  · rw [captureArm_idle h, engArmCheck, hc]
    rfl
  · rw [captureArm_idle h, engArmCheck, if_neg hk, if_pos hc]
    rfl
  · rw [captureArm_idle h, engArmCheck_ok _ hc, if_pos ht]
  · rw [captureArm_idle h, engArmCheck_ok _ hc, if_neg (by simp [ht])]
    refine ⟨_, rfl, ?_, ?_, ?_, ?_, ?_, ?_, ?_, fun m hm hne => ⟨?_, ?_⟩⟩
    · rw [after_engState _ _ hn, engArm_state]
    · rw [after_eng, engArm_eng]
      rfl
    · rw [after_eng, engArm_eng]
      rfl
    · rw [after_eng, engArm_eng]
      rfl
    · rw [after_eng, engArm_eng]
      rfl
    · rw [after_engN _ _ _ rfl (by decide) hn, engArm_armStatus (by decide)]
    · rw [after_word _ _ _ (notIntake_of_lt (by decide)), engArm_cause]
    · rw [after_eng, engArm_eng_other _ hne]
    · rw [after_engState _ _ hm, engArm_state_other _ hne]

/-- What the verdict on a timed arm does. -/
def timedArmed (t : Time) (n : Nat) (d : Dev) : Verdict → Dev
  | .wait => d
  | .expired => (setEng n 0 (d.setN Reg.CAP_ENGn_STAT.ARM_STATUS n stExpired)).cause intCap 4 n stExpired
  | .ok => engArm t n stOk d
  | .late => engArm t n stLate d

theorem captureTimedArm_verdict {v : Verdict} (hn : n < 8) (hs : engState d n = 1)
    (hv : verdictNow t d (d.getN Reg.CAP_ENGn_TARM.ST n) (d.getN Reg.CAP_ENGn_TEP.EPOCH n)
      (d.getN Reg.CAP_ENGn_TEP.LATE_TOL n) = v) : captureTimedArm t n d = timedArmed t n d v := by
  rw [captureTimedArm, if_neg (by simp [hs, hn]), hv]
  cases v <;> rfl

theorem timedArm_commands (s : State) (n : Nat) (v : Verdict) (hn : n < 8) (hs : engState s.dev n = 1)
    (hv : verdictNow s.time s.dev (s.dev.getN Reg.CAP_ENGn_TARM.ST n) (s.dev.getN Reg.CAP_ENGn_TEP.EPOCH n)
      (s.dev.getN Reg.CAP_ENGn_TEP.LATE_TOL n) = v) :
    (v = .wait → exec (.captureTimedArm n) s = .next (s.after s.dev)) ∧
    (v = .expired → exec (.captureTimedArm n) s = .next (s.after
      ((setEng n 0 (s.dev.setN Reg.CAP_ENGn_STAT.ARM_STATUS n stExpired)).cause intCap 4 n stExpired))) ∧
    (v = .ok ∨ v = .late → ∃ t, exec (.captureTimedArm n) s = .next t ∧ engState t.dev n = 2 ∧
      t.dev.getN Reg.CAP_ENGn_STAT.ARM_STATUS n = v.status ∧ ((t.dev.eng n).late = true ↔ v = .late)) := by
  have harm (st : Nat) (hst : st < 256) : engState (s.after (engArm s.time n st s.dev)).dev n = 2 ∧
      (s.after (engArm s.time n st s.dev)).dev.getN Reg.CAP_ENGn_STAT.ARM_STATUS n = st ∧
      ((s.after (engArm s.time n st s.dev)).dev.eng n).late = (st == stLate) := by
    refine ⟨?_, ?_, ?_⟩
    · rw [after_engState _ _ hn, engArm_state]
    · rw [after_engN _ _ _ rfl (by decide) hn, engArm_armStatus hst]
    · rw [after_eng, engArm_eng]
      rfl
  rw [exec_captureTimedArm, captureTimedArm_verdict hn hs hv]
  refine ⟨fun h => by subst h; rfl, fun h => by subst h; rfl, fun h => ?_⟩
  rcases h with rfl | rfl
  · obtain ⟨h1, h2, h3⟩ := harm stOk (by decide)
    exact ⟨_, rfl, h1, h2, (congrArg (· = true) h3).to_iff.trans (by decide)⟩
  · obtain ⟨h1, h2, h3⟩ := harm stLate (by decide)
    exact ⟨_, rfl, h1, h2, (congrArg (· = true) h3).to_iff.trans (by decide)⟩

theorem beyond_engines (s : State) (n : Nat) (hn : 8 ≤ n) : exec (.captureArm n) s = .next (s.after s.dev) ∧
    exec (.pretriggerFull n) s = .next (s.after s.dev) ∧ exec (.captureDisarm n) s = .next (s.after s.dev) ∧
    exec (.captureTrigger n) s = .next (s.after s.dev) ∧ exec (.collectionClose n) s = .next (s.after s.dev) ∧
    exec (.captureComplete n) s = .next (s.after s.dev) ∧ exec (.captureDeliver n) s = .next (s.after s.dev) ∧
    exec (.captureRelease n) s = .next (s.after s.dev) := by
  have h : ¬ n < 8 := by omega
  refine ⟨?_, ?_, ?_, ?_, ?_, ?_, ?_, ?_⟩
  · rw [exec_captureArm, if_neg h]
  · rw [exec_pretriggerFull, pretriggerFull, if_neg fun hc => h hc.1]
  · rw [exec_captureDisarm, if_neg h]
  · rw [exec_captureTrigger, if_neg h]
  · rw [exec_collectionClose, if_neg h]
  · rw [exec_captureComplete, if_neg h]
  · rw [exec_captureDeliver, if_neg h]
  · rw [exec_captureRelease, if_neg h]

theorem pretrigger_commands (s : State) (n : Nat) (hn : n < 8) :
    (engState s.dev n = 2 → (s.dev.eng n).armT + s.dev.getN Reg.CAP_ENGn_PRE.MS n * 1000000 ≤ s.time.ns →
      ∃ t, exec (.pretriggerFull n) s = .next t ∧ engState t.dev n = 3) ∧
    (engState s.dev n ≠ 2 ∨ s.time.ns < (s.dev.eng n).armT + s.dev.getN Reg.CAP_ENGn_PRE.MS n * 1000000 →
      exec (.pretriggerFull n) s = .next (s.after s.dev)) := by
  rw [exec_pretriggerFull, pretriggerFull]
  refine ⟨fun hs hl => ?_, fun h => ?_⟩
  · rw [if_pos ⟨hn, hs, hl⟩]
    exact ⟨_, rfl, (after_engState _ _ hn).trans (setEng_state (by decide) _)⟩
  · rw [if_neg]
    rintro ⟨-, hs, hl⟩
    rcases h with h | h
    · exact h hs
    · omega

theorem disarm_commands (s : State) (n : Nat) (hn : n < 8) (hu : s.dev.up islCap = true) :
    (engState s.dev n = 5 → exec (.captureDisarm n) s = .next (s.after s.dev)) ∧
    (engState s.dev n ≠ 5 → exec (.captureDisarm n) s = .next (s.after (engIdle n s.dev)) ∧
      engState (engIdle n s.dev) n = 0 ∧ ((engIdle n s.dev).eng n).seq = (s.dev.eng n).seq) := by
  have hu' : s.dev.up (islandOf 0xE0100) = true := hu
  rw [exec_captureDisarm, if_pos hn, onWrite_up _ hu', captureDisarm]
  refine ⟨fun h => by rw [if_pos h], fun h => ⟨by rw [if_neg h], engIdle_state, ?_⟩⟩
  rw [engIdle_eng]
  rfl

/-- Settles O43: capture's layout, its triggers and masks, and the life of an engine up to the trigger. -/
theorem captureSetUp : Obligations.CaptureSetUp := by
  unfold Obligations.CaptureSetUp
  refine ⟨⟨fun s hu => (captureEnable_commands s hu).1, fun s hu => (captureEnable_commands s hu).2,
      fun d => (captureStart_rules d).1, fun d => (captureStart_rules d).2.1, fun d => (captureStart_rules d).2.2,
      captureDisable_command⟩,
    ⟨trigger_commands, trigger_rewritten, fun s k v => ⟨fun hk => ?_, fun hk => ?_⟩, mask_commands, software_commands⟩,
    arm_commands, timedArm_commands, fun s n h => ?_, beyond_engines, pretrigger_commands, disarm_commands⟩
  · rw [exec_triggerDefValidate, if_neg (by omega)]
  · rw [exec_maskValidate, if_neg (by omega)]
  · rw [exec_captureTimedArm, captureTimedArm, if_pos h]

end Sys2Proof.Machine

/-!
PROOFS. Triggers are collected, and a record is completed, delivered and released (R441 to R453).
-/

namespace Sys2Proof.Machine

open Sys2Proof

variable {d e : Dev} {t : Time} {n m k w : Nat}

/-! ## Words that reading and writing the Hamper leaves alone -/

section
variable {W : Nat → Prop} {c : HCause}

/-- The Hamper's own registers are not watched. -/
def OffHamper (W : Nat → Prop) : Prop := ∀ a, W a → a < 0x20000 ∨ 0x20080 ≤ a

theorem OffHamper.off (hW : OffHamper W) {a : Nat} (h : 0x20000 ≤ a) (hb : a < 0x20080) : ¬ W a := fun hw => by
  have := hW a hw
  omega

theorem Apart.fence (h : Apart W e d) (hW : OffHamper W) : Apart W e (fence w c d) := by
  refine Apart.setN (Apart.set (d := Dev.modHmp d _) h (hW.off (by decide) (by decide))) (hW.off ?_ ?_) <;>
    rw [RegAt.addr_single (r := Reg.HMP_QSTATq.FENCED.reg) rfl]
  · omega
  · have : hQuad w < 8 := Nat.mod_lt _ (by decide)
    omega

theorem Apart.setMapFull {b : Nat} (h : Apart W e d) (hW : OffHamper W) : Apart W e (setMapFull b d) := by
  unfold Machine.setMapFull
  dsimp only
  split
  · exact .ite h (h.set (hW.off (by decide) (by decide)))
  · exact .ite h (h.set (hW.off (by decide) (by decide)))

theorem Apart.lasting (h : Apart W e d) (hW : OffHamper W) : Apart W e (lasting w c d) := by
  have h1 := (h.sat (f := Reg.HMP_CNT_LAST.N) (i := 0) (hW.off (by decide) (by decide))).cause (b := intHmp) (k := 0)
    (i := hBank w) (x := hWordIdx w) (hW.off (by decide) (by decide))
  exact .ite (h1.fence hW) ((h1.setMapFull hW).cause (hW.off (by decide) (by decide)))

theorem Apart.lineCheck (h : Apart W e d) (hW : OffHamper W) : Apart W e (lineCheck c w d) :=
  .ite (.foldl (fun _ _ hx => hx.lasting hW) _ h) h

theorem Apart.hval (h : Apart W e d) : Apart W e (hval w d).2 := by
  unfold Machine.hval
  split
  · exact h
  · split <;> exact h

theorem Apart.hread (h : Apart W e d) (hW : OffHamper W) : Apart W e (hread c w d).2 := (h.lineCheck hW).hval

theorem Apart.hreadLines {fresh : Bool} (h : Apart W e d) (hW : OffHamper W) : Apart W e (hreadLines c k fresh w d).2 := by
  induction k generalizing fresh w d with
  | zero => exact h
  | succ k ih =>
    unfold Machine.hreadLines
    refine ih ?_
    split
    · exact h.hread hW
    · exact h.hval

theorem Apart.foldlSnd {α β : Type} {f : β × Dev → α → β × Dev} {xs : List α} {a : β × Dev} (h : Apart W e a.2)
    (hf : ∀ a x, Apart W e a.2 → Apart W e (f a x).2) : Apart W e (xs.foldl f a).2 := by
  induction xs generalizing a with
  | nil => exact h
  | cons x xs ih => exact ih (hf a x h)

theorem Apart.iteSnd {α : Type} {c : Prop} [Decidable c] {a b : α × Dev} (ha : Apart W e a.2) (hb : Apart W e b.2) :
    Apart W e (if c then a else b).2 := by
  split
  · exact ha
  · exact hb

theorem Apart.partRead (h : Apart W e d) (hW : OffHamper W) : Apart W e (partRead n w k d).2 := by
  have key : Holds (fun f => ∀ n w k d, Apart W e d → Apart W e (f n w k d).2) Machine.partRead := by
    delta Machine.partRead
    delta Holds
    beta_reduce
    intro n w k d h
    obtain ⟨f, hf⟩ := exists_eq_of inPart
    rw [← hf]
    split
    · exact h.hreadLines hW
    · exact Apart.foldlSnd h fun _ _ hx => Apart.iteSnd (hx.hread hW) hx
  exact key n w k d h

theorem hwrite_regs (v : Word32) : (hwrite w v d).regs = d.regs := by
  unfold hwrite
  split
  · rfl
  · split <;> rfl

theorem partWrite_regs (vs : List Word32) : (partWrite n w vs d).regs = d.regs := by
  induction vs generalizing w d with
  | nil => rfl
  | cons v vs ih =>
    unfold partWrite
    refine ih.trans ?_
    split
    · exact hwrite_regs v
    · rfl

theorem Apart.partWrite {vs : List Word32} (h : Apart W e d) : Apart W e (partWrite n w vs d) :=
  h.ofRegs (partWrite_regs vs)
end

/-! ## What recording leaves alone -/

/-- The registers outside the Hamper's but CAP_INT. -/
def CapWord (a : Nat) : Prop := 0x20080 ≤ a ∧ a ≠ 0xE000C

theorem capWord_offHamper : OffHamper CapWord := fun _ h => .inr h.1

/-- The collection of an engine, and its trigger. -/
def CapEng.kept (x : CapEng) : Option Nat × List (Nat × Inst) × Option Inst := (x.collAt, x.defs, x.trig)

/-- Engine n records: its collection and the registers stand. -/
structure Recording (n : Nat) (e d : Dev) : Prop where
  words : Apart CapWord e d
  kept : (d.eng n).kept = (e.eng n).kept

theorem Recording.refl (n : Nat) (d : Dev) : Recording n d d := ⟨.refl _ d, rfl⟩

theorem Recording.collAt (h : Recording n e d) : (d.eng n).collAt = (e.eng n).collAt := congrArg Prod.fst h.kept

theorem Recording.defs (h : Recording n e d) : (d.eng n).defs = (e.eng n).defs := congrArg (fun x => x.2.1) h.kept

theorem Recording.trig (h : Recording n e d) : (d.eng n).trig = (e.eng n).trig := congrArg (fun x => x.2.2) h.kept

theorem Recording.state (h : Recording n e d) : engState d m = engState e m :=
  h.words.getN ⟨by rw [state_addr]; omega, by rw [state_addr]; omega⟩

theorem Recording.ite {c : Prop} [Decidable c] {a b : Dev} (ha : Recording n e a) (hb : Recording n e b) :
    Recording n e (if c then a else b) := by
  split
  · exact ha
  · exact hb

theorem Recording.foldl {β : Type} {f : Dev → β → Dev} (h : Recording n e d)
    (hf : ∀ x b, Recording n e x → Recording n e (f x b)) {l : List β} : Recording n e (l.foldl f d) := by
  induction l generalizing d with
  | nil => exact h
  | cons b l ih => exact ih (hf d b h)

theorem Recording.modEng {f : CapEng → CapEng} (h : Recording n e d) (hf : ∀ x, (f x).kept = x.kept) :
    Recording n e (d.modEng n f) :=
  ⟨h.words, by rw [Dev.modEng_eng, hf]; exact h.kept⟩

theorem Recording.modChan {c : Nat} {f : CapChan → CapChan} (h : Recording n e d) : Recording n e (modChan n c f d) :=
  h.modEng fun _ => rfl

theorem Recording.cause {c i x : Nat} (h : Recording n e d) : Recording n e (d.cause intCap c i x) :=
  ⟨h.words.cause fun hc => hc.2 rfl, by rw [Dev.cause_eng]; exact h.kept⟩

theorem Recording.ofCap {x : Dev} (h : Recording n e d) (hw : Apart CapWord d x) (hc : x.cap = d.cap) : Recording n e x :=
  ⟨h.words.trans hw, by rw [Dev.eng, hc]; exact h.kept⟩

theorem Recording.partWrite {p : Nat} {vs : List Word32} (h : Recording n e d) : Recording n e (partWrite p w vs d) :=
  h.ofCap (.partWrite (.refl _ d)) ((@Tame.partWrite [.hmp] d d p w vs (.refl _ d) ⟨by decide⟩).stands .cap (by decide))

theorem Recording.partRead {p : Nat} (h : Recording n e d) : Recording n e (partRead p w k d).2 :=
  h.ofCap ((Apart.refl _ d).partRead capWord_offHamper)
    ((@Tame.partRead [.hmp, .free] d d p w k (.refl _ d) ⟨by decide⟩ ⟨by decide⟩).stands .cap (by decide))

/-- A block is in its channel's area. -/
def blockWritten (n c b : Nat) (v : Word32) (ch : CapChan) (d : Dev) : Dev :=
  modChan n c (fun h => { h with next := b + 1 })
    (partWrite partCapture (sliceWord d n + ch.base + (b - ch.first)) [v] d)

theorem Recording.recordBlock {c b : Nat} {v : Word32} (h : Recording n e d) : Recording n e (recordBlock n c b v d) := by
  unfold Machine.recordBlock
  split
  · exact h
  · next ch _ =>
    have h1 : Recording n e (blockWritten n c b v ch d) := Recording.modChan (Recording.partWrite h)
    refine Recording.ite (Recording.cause (Recording.modEng h1 ?_)) h1
    exact fun _ => rfl

theorem Recording.ofRead {α : Type} {x : α × Dev} {a : α} (h : Recording n e x.2) (hx : x = (a, d)) : Recording n e d := by
  rw [hx] at h
  exact h

theorem Recording.rawRead {lane p : Nat} (h : Recording n e d) : Recording n e (rawRead lane p d).2.2 := by
  unfold Machine.rawRead
  split
  · exact h
  · split
    · exact h
    · split
      · split
        · exact h
        · split
          · exact h
          · split
            next hd => exact Recording.ofRead h.partRead hd
      · exact h

theorem Recording.ofPair {α β : Type} {x : α × β × Dev} {a : α} {b : β} (h : Recording n e x.2.2) (hx : x = (a, b, d)) :
    Recording n e d := by
  rw [hx] at h
  exact h

theorem Recording.foldlLast {α β γ : Type} {f : β × γ × Dev → α → β × γ × Dev} {xs : List α} {a : β × γ × Dev}
    (h : Recording n e a.2.2) (hf : ∀ a x, Recording n e a.2.2 → Recording n e (f a x).2.2) :
    Recording n e (xs.foldl f a).2.2 := by
  induction xs generalizing a with
  | nil => exact h
  | cons x xs ih => exact ih (hf a x h)

theorem Recording.rawBlock {lane avg b : Nat} {dig : Bool} (h : Recording n e d) :
    Recording n e (rawBlock lane avg b dig d).2.2 := by
  unfold Machine.rawBlock
  refine Recording.foldlLast h fun a i ha => ?_
  split
  next hd => exact Recording.ofPair ha.rawRead hd

theorem Recording.rawAdvance {fuel c p : Nat} (h : Recording n e d) : Recording n e (rawAdvance fuel n c p d) := by
  induction fuel generalizing d with
  | zero =>
    unfold Machine.rawAdvance
    exact h
  | succ k ih =>
    unfold Machine.rawAdvance
    split
    · next hk _ =>
      cases hk
      refine .ite ?_ h
      split
      next hd =>
        have h1 := Recording.ofPair h.rawBlock hd
        refine ih (Recording.recordBlock (.ite (h1.modEng ?_) h1))
        exact fun _ => rfl
    · exact h

theorem Recording.frameSample {c : Nat} {v : Word32} (h : Recording n e d) : Recording n e (frameSample n c k v d) := by
  unfold Machine.frameSample
  split
  · exact h
  · refine .ite h.modChan (.ite (.ite h.modChan.recordBlock h.modChan) (.ite h.modChan ?_))
    exact Recording.modChan (Recording.partWrite h.modChan)

theorem Recording.frameInstant (h : Recording n e d) : Recording n e (frameInstant n k none d) := by
  unfold Machine.frameInstant
  refine Recording.modEng (Recording.foldl h fun x c hx => ?_) fun _ => rfl
  split
  · exact hx
  · split
    · contradiction
    · refine Recording.frameSample (Recording.modEng hx ?_)
      exact fun _ => rfl
    · exact hx.modChan.frameSample
    · exact hx

theorem Recording.frameCatchUp {fuel now : Nat} (h : Recording n e d) : Recording n e (frameCatchUp fuel n now d) := by
  induction fuel generalizing d with
  | zero => exact h
  | succ k ih =>
    unfold Machine.frameCatchUp
    exact .ite (ih h.frameInstant) h

theorem Recording.catchUp (h : Recording n e d) : Recording n e (catchUp t n d) := h.frameCatchUp

/-- The blocks of a circular area, read in time order. -/
def preRead (ch : CapChan) (base lo hi : Nat) (d : Dev) : List (Word32 × Bool) × Dev :=
  (List.range (hi + 1 - ch.first)).foldl (fun (acc : List (Word32 × Bool) × Dev) i =>
    let b := ch.first + i
    if b < lo ∨ b + ch.ntot ≤ hi then (acc.1 ++ [(wMissing, true)], acc.2)
    else
      let (ws, x) := partRead partCapture (base + b % max 1 ch.ntot) 1 acc.2
      (acc.1 ++ [(ws.getD 0 wMissing, false)], x)) ([], d)

theorem Recording.foldlSnd {α β : Type} {f : β × Dev → α → β × Dev} {xs : List α} {a : β × Dev} (h : Recording n e a.2)
    (hf : ∀ a x, Recording n e a.2 → Recording n e (f a x).2) : Recording n e (xs.foldl f a).2 := by
  induction xs generalizing a with
  | nil => exact h
  | cons x xs ih => exact ih (hf a x h)

theorem Recording.iteSnd {α : Type} {c : Prop} [Decidable c] {a b : α × Dev} (ha : Recording n e a.2)
    (hb : Recording n e b.2) : Recording n e (if c then a else b).2 := by
  split
  · exact ha
  · exact hb

theorem Recording.preRead (h : Recording n e d) (ch : CapChan) (base lo hi : Nat) :
    Recording n e (preRead ch base lo hi d).2 := by
  unfold Machine.preRead
  refine Recording.foldlSnd h fun a i ha => ?_
  refine Recording.iteSnd ha ?_
  split
  next hd => exact Recording.ofRead ha.partRead hd

theorem Recording.framePre {c : Nat} (h : Recording n e d) : Recording n e (framePre n c d) := by
  unfold Machine.framePre
  split
  · exact h
  · next ch _ =>
    split
    · exact h
    · next lo hi _ =>
      have h1 := Recording.preRead h ch (sliceWord d n + ch.base) lo hi
      refine Recording.foldl (Recording.ite (Recording.modEng h1 ?_) h1) fun _ _ hx => hx.recordBlock
      exact fun _ => rfl

/-! ## Triggers (R441, R443) -/

section
variable {i : Inst} {rest : List (Nat × Inst)}

/-- The trigger leaves the inbox. -/
def inboxTaken (n : Nat) (rest : List (Nat × Inst)) (d : Dev) : Dev := d.modEng n fun e => { e with inbox := rest }

/-- The first trigger opens the collection. -/
def collectionOpened (t : Time) (n slot : Nat) (x : Nat × Inst) (d : Dev) : Dev :=
  (setEng n 4 (d.modEng n fun e => { e with collAt := some t.loc, collK := slot, defs := [x] })).cause intCap 1 n 0

/-- A trigger of the same interval joins it. -/
def triggerJoined (n : Nat) (x : Nat × Inst) (d : Dev) : Dev :=
  d.modEng n fun e => { e with defs := if e.defs.any (fun y => y.1 == x.1) then e.defs else e.defs ++ [x] }

/-- A trigger that comes too late is counted. -/
def triggerLater (n : Nat) (d : Dev) : Dev :=
  (d.sat Reg.CAP_ENGn_IGN.N n).modEng n fun e => { e with tlater := min (e.tlater + 1) 0xFFFF }

/-- Does a trigger come while engine n collects? -/
def collects (t : Time) (n : Nat) (d : Dev) : Bool :=
  (d.eng n).collAt.any fun a => decide (t.loc ≤ a + d.getN Reg.CAP_ENGn_CFG.COLLECT n * 1000)

theorem captureTrigger_empty (h : (d.eng n).inbox = []) : captureTrigger t n d = d := by
  unfold captureTrigger
  rw [h]

theorem captureTrigger_head (h : (d.eng n).inbox = (k, i) :: rest) : captureTrigger t n d =
    if engState d n = 3 then collectionOpened t n (i.slot (blockRate (d.eng n))) (k, i) (inboxTaken n rest d)
    else if engState d n = 4 ∧ i.slot (blockRate (d.eng n)) = (d.eng n).collK ∧ collects t n d then
      triggerJoined n (k, i) (inboxTaken n rest d)
    else if engState d n = 0 then inboxTaken n rest d
    else if engState d n = 4 then triggerLater n (inboxTaken n rest d)
    else (inboxTaken n rest d).sat Reg.CAP_ENGn_IGN.N n := by
  unfold captureTrigger
  rw [h]
  rfl

theorem inboxTaken_eng (rest : List (Nat × Inst)) (d : Dev) :
    (inboxTaken n rest d).eng n = { d.eng n with inbox := rest } := Dev.modEng_eng d n fun e => { e with inbox := rest }

theorem ign_addr (n : Nat) : Reg.CAP_ENGn_IGN.N.reg.addr n = 0xE0124 + n * 0x40 := eng_addr rfl n

theorem sat_state {f : Field} {b : Nat} (h : f.reg = ⟨b, 0x40, 8, 1, 0⟩) (hb : 0xE0120 < b ∧ b < 0xE0140) :
    engState (d.sat f n) m = engState d m := by
  refine Dev.getN_setN_addr _ _ _ _ _ _ ?_
  rw [state_addr, eng_addr h]
  omega

theorem opened_eng (slot : Nat) (x : Nat × Inst) : (collectionOpened t n slot x d).eng n =
    { d.eng n with collAt := some t.loc, collK := slot, defs := [x] } :=
  (Dev.cause_eng _ _ _ _ _).trans (Dev.modEng_eng d n fun e => { e with collAt := some t.loc, collK := slot, defs := [x] })

theorem opened_state (slot : Nat) (x : Nat × Inst) : engState (collectionOpened t n slot x d) n = 4 :=
  (cause_engState _ _ _ _).trans (setEng_state (by decide) _)

theorem joined_eng (x : Nat × Inst) : (triggerJoined n x d).eng n =
    { d.eng n with defs := if (d.eng n).defs.any (fun y => y.1 == x.1) then (d.eng n).defs else (d.eng n).defs ++ [x] } :=
  Dev.modEng_eng d n fun e => { e with defs := if e.defs.any (fun y => y.1 == x.1) then e.defs else e.defs ++ [x] }

theorem later_eng : (triggerLater n d).eng n = { d.eng n with tlater := min ((d.eng n).tlater + 1) 0xFFFF } :=
  Dev.modEng_eng (d.sat Reg.CAP_ENGn_IGN.N n) n fun e => { e with tlater := min (e.tlater + 1) 0xFFFF }

theorem triggered_inbox (h : (d.eng n).inbox = (k, i) :: rest) : ((captureTrigger t n d).eng n).inbox = rest := by
  rw [captureTrigger_head h]
  split
  · rw [opened_eng, inboxTaken_eng]
  · split
    · rw [joined_eng, inboxTaken_eng]
    · split
      · rw [inboxTaken_eng]
      · split
        · rw [later_eng, inboxTaken_eng]
        · rw [Dev.sat_eng, inboxTaken_eng]

theorem trigger_command (s : State) (n k : Nat) (i : Inst) (rest : List (Nat × Inst)) (hn : n < 8)
    (h : (s.dev.eng n).inbox = (k, i) :: rest) :
    ∃ t, exec (.captureTrigger n) s = .next t ∧ (t.dev.eng n).inbox = rest ∧
      (engState s.dev n = 3 → engState t.dev n = 4 ∧ (t.dev.eng n).collAt = some s.time.loc ∧
        (t.dev.eng n).defs = [(k, i)] ∧ bitOf (t.dev.word 0xE000C) 1 = true) ∧
      (∀ a, engState s.dev n = 4 → (s.dev.eng n).collAt = some a →
        s.time.loc ≤ a + s.dev.getN Reg.CAP_ENGn_CFG.COLLECT n * 1000 → i.slot (blockRate (s.dev.eng n)) = (s.dev.eng n).collK →
        engState t.dev n = 4 ∧ (t.dev.eng n).defs = (if (s.dev.eng n).defs.any (fun x => x.1 == k)
          then (s.dev.eng n).defs else (s.dev.eng n).defs ++ [(k, i)])) ∧
      (engState s.dev n = 4 → i.slot (blockRate (s.dev.eng n)) ≠ (s.dev.eng n).collK ∨ (s.dev.eng n).collAt = none ∨
          (∃ a, (s.dev.eng n).collAt = some a ∧ a + s.dev.getN Reg.CAP_ENGn_CFG.COLLECT n * 1000 < s.time.loc) →
        engState t.dev n = 4 ∧ (t.dev.eng n).defs = (s.dev.eng n).defs ∧
        (t.dev.eng n).tlater = min ((s.dev.eng n).tlater + 1) 0xFFFF ∧
        t.dev.getN Reg.CAP_ENGn_IGN.N n = min (s.dev.getN Reg.CAP_ENGn_IGN.N n + 1) (2 ^ Reg.CAP_ENGn_IGN.N.width - 1)) ∧
      (engState s.dev n ∉ [0, 3, 4] → engState t.dev n = engState s.dev n ∧ (t.dev.eng n).defs = (s.dev.eng n).defs ∧
        t.dev.getN Reg.CAP_ENGn_IGN.N n = min (s.dev.getN Reg.CAP_ENGn_IGN.N n + 1) (2 ^ Reg.CAP_ENGn_IGN.N.width - 1)) ∧
      (engState s.dev n = 0 → engState t.dev n = 0 ∧ t.dev.getN Reg.CAP_ENGn_IGN.N n = s.dev.getN Reg.CAP_ENGn_IGN.N n) := by
  have hs (d : Dev) := after_engState s d hn
  have hg (d : Dev) := after_engN s d Reg.CAP_ENGn_IGN.N rfl (by decide) hn
  rw [exec_captureTrigger, if_pos hn]
  refine ⟨_, rfl, by rw [after_eng, triggered_inbox h], fun h3 => ?_, fun a h4 hc hl hk => ?_, fun h4 hno => ?_,
    fun hst => ?_, fun h0 => ?_⟩
  · rw [hs, after_eng, after_word _ _ _ (notIntake_of_lt (by decide)), captureTrigger_head h, if_pos h3]
    exact ⟨opened_state _ _, by rw [opened_eng], by rw [opened_eng], Dev.cause_sets _ intCap 1 n 0 (by decide)⟩
  · rw [hs, after_eng, captureTrigger_head h, if_neg (by omega), if_pos ⟨h4, hk, by rw [collects, hc]; simpa using hl⟩]
    exact ⟨h4, by rw [joined_eng, inboxTaken_eng]⟩
  · have hno' : ¬ (engState s.dev n = 4 ∧ i.slot (blockRate (s.dev.eng n)) = (s.dev.eng n).collK ∧
        collects s.time n s.dev = true) := by
      rintro ⟨-, hk, hc⟩
      rcases hno with h1 | h1 | ⟨a, h1, h2⟩
      · exact h1 hk
      · simp [collects, h1] at hc
      · rw [collects, h1] at hc
        have : s.time.loc ≤ a + s.dev.getN Reg.CAP_ENGn_CFG.COLLECT n * 1000 := by simpa using hc
        omega
    rw [hs, after_eng, hg, captureTrigger_head h, if_neg (by omega), if_neg hno', if_neg (by omega), if_pos h4]
    refine ⟨(sat_state rfl (by decide)).trans h4, ?_, ?_, Dev.getN_sat_same _ _ _ rfl⟩
    · rw [later_eng, inboxTaken_eng]
    · rw [later_eng, inboxTaken_eng]
  · simp only [List.mem_cons, List.not_mem_nil, or_false, not_or] at hst
    obtain ⟨h0, h3, h4⟩ := hst
    rw [hs, after_eng, hg, captureTrigger_head h, if_neg h3, if_neg fun hc => h4 hc.1, if_neg h0, if_neg h4]
    exact ⟨sat_state rfl (by decide), by rw [Dev.sat_eng, inboxTaken_eng], Dev.getN_sat_same _ _ _ rfl⟩
  · rw [hs, hg, captureTrigger_head h, if_neg (by omega), if_neg (by omega), if_pos h0]
    exact ⟨h0, rfl⟩
end

/-! ## The collection closes (R443 to R446) -/

/-- The trigger of the lowest definition. -/
def primary (p : Nat × Inst) (ps : List (Nat × Inst)) : Nat × Inst := ps.foldl (fun m e => if e.1 < m.1 then e else m) p

theorem primary_least (p : Nat × Inst) (ps : List (Nat × Inst)) :
    primary p ps ∈ p :: ps ∧ ∀ x ∈ p :: ps, (primary p ps).1 ≤ x.1 := by
  induction ps generalizing p with
  | nil => simp [primary]
  | cons q ps ih =>
    obtain ⟨hm, hl⟩ := ih (if q.1 < p.1 then q else p)
    refine ⟨?_, fun x hx => ?_⟩
    · rcases List.mem_cons.mp hm with h | h
      · refine (congrArg (· ∈ p :: q :: ps) h).mpr ?_
        split <;> simp
      · exact List.mem_cons_of_mem _ (List.mem_cons_of_mem _ h)
    · have hq : (primary (if q.1 < p.1 then q else p) ps).1 ≤ q.1 ∧ (primary (if q.1 < p.1 then q else p) ps).1 ≤ p.1 := by
        have := hl _ List.mem_cons_self
        split at this <;> constructor <;> split <;> omega
      rcases List.mem_cons.mp hx with rfl | hx
      · exact hq.2
      · rcases List.mem_cons.mp hx with rfl | hx
        · exact hq.1
        · exact hl x (List.mem_cons_of_mem _ hx)

/-- A channel begins at the trigger's block. -/
def chanFixed (i : Inst) (ch : CapChan) : CapChan :=
  { ch with first := i.slotUp (ch.rate / max 1 ch.avg) - ch.npre, next := i.slotUp (ch.rate / max 1 ch.avg) - ch.npre }

/-- The collection is over and t_trig fixed. -/
def triggerFixed (n : Nat) (i : Inst) (d : Dev) : Dev :=
  d.modEng n fun e => { e with collAt := none, trig := some i, chans := e.chans.map (chanFixed i) }

/-- What a channel has at hand is recorded. -/
def chanAtHand (n : Nat) (x : Dev) (c : Nat) : Dev :=
  match (x.eng n).chans[c]? with
  | none => x
  | some ch =>
    if ceKind ch.entry = 1 then
      match (regionOf x (ceIndex ch.entry)).bind CapRegion.head with
      | some p => rawAdvance (ch.ntot + 1) n c p x
      | none => x
    else framePre n c x

theorem Recording.chanAtHand {c : Nat} (h : Recording n e d) : Recording n e (chanAtHand n d c) := by
  unfold Machine.chanAtHand
  split
  · exact h
  · split
    · split
      · exact h.rawAdvance
      · exact h
    · exact h.framePre

theorem collectionClose_none (h : (d.eng n).collAt = none) : collectionClose t n d = d := by
  unfold collectionClose
  rw [h]

theorem collectionClose_waits {a : Nat} (h : (d.eng n).collAt = some a)
    (hw : engState d n ≠ 4 ∨ t.loc - a < d.getN Reg.CAP_ENGn_CFG.COLLECT n * 1000) : collectionClose t n d = d := by
  unfold collectionClose
  rw [h]
  exact if_pos hw

theorem collectionClose_nothing {a : Nat} (h : (d.eng n).collAt = some a) (h4 : engState d n = 4)
    (hl : d.getN Reg.CAP_ENGn_CFG.COLLECT n * 1000 ≤ t.loc - a) (hd : (d.eng n).defs = []) :
    collectionClose t n d = engIdle n (catchUp t n d) := by
  unfold collectionClose
  rw [h]
  refine (if_neg (by omega)).trans ?_
  dsimp only
  rw [(Recording.catchUp (.refl n d)).defs, hd]

theorem collectionClose_fixes {a : Nat} {p : Nat × Inst} {ps : List (Nat × Inst)} (h : (d.eng n).collAt = some a)
    (h4 : engState d n = 4) (hl : d.getN Reg.CAP_ENGn_CFG.COLLECT n * 1000 ≤ t.loc - a) (hd : (d.eng n).defs = p :: ps) :
    collectionClose t n d =
      (List.range ((triggerFixed n (primary p ps).2 (catchUp t n d)).eng n).chans.length).foldl (chanAtHand n)
        (triggerFixed n (primary p ps).2 (catchUp t n d)) := by
  unfold collectionClose
  rw [h]
  refine (if_neg (by omega)).trans ?_
  dsimp only
  rw [(Recording.catchUp (.refl n d)).defs, hd]
  rfl

theorem close_commands (s : State) (n a : Nat) (hn : n < 8) (hc : (s.dev.eng n).collAt = some a) :
    (s.time.loc - a < s.dev.getN Reg.CAP_ENGn_CFG.COLLECT n * 1000 →
      exec (.collectionClose n) s = .next (s.after s.dev)) ∧
    (engState s.dev n = 4 → s.dev.getN Reg.CAP_ENGn_CFG.COLLECT n * 1000 ≤ s.time.loc - a → (s.dev.eng n).defs = [] →
      ∃ t, exec (.collectionClose n) s = .next t ∧ engState t.dev n = 0 ∧ (t.dev.eng n).collAt = none) ∧
    (engState s.dev n = 4 → s.dev.getN Reg.CAP_ENGn_CFG.COLLECT n * 1000 ≤ s.time.loc - a →
      ∀ p ps, (s.dev.eng n).defs = p :: ps →
      ∃ t q, exec (.collectionClose n) s = .next t ∧ engState t.dev n = 4 ∧ (t.dev.eng n).collAt = none ∧
        q ∈ p :: ps ∧ (t.dev.eng n).trig = some q.2 ∧ (∀ x ∈ p :: ps, q.1 ≤ x.1)) := by
  rw [exec_collectionClose, if_pos hn]
  refine ⟨fun hl => by rw [collectionClose_waits hc (.inr hl)], fun h4 hl hd => ?_, fun h4 hl p ps hd => ?_⟩
  · rw [collectionClose_nothing hc h4 hl hd]
    refine ⟨_, rfl, ?_, ?_⟩
    · rw [after_engState _ _ hn, engIdle_state]
    · rw [after_eng, engIdle_eng]
      rfl
  · have hr : Recording n (triggerFixed n (primary p ps).2 (catchUp s.time n s.dev)) (collectionClose s.time n s.dev) := by
      rw [collectionClose_fixes hc h4 hl hd]
      exact Recording.foldl (.refl n _) fun _ _ hx => hx.chanAtHand
    have hf : (triggerFixed n (primary p ps).2 (catchUp s.time n s.dev)).eng n = _ :=
      Dev.modEng_eng (catchUp s.time n s.dev) n
        fun e => { e with collAt := none, trig := some (primary p ps).2, chans := e.chans.map (chanFixed (primary p ps).2) }
    obtain ⟨hm, hmin⟩ := primary_least p ps
    refine ⟨_, primary p ps, rfl, ?_, ?_, hm, ?_, hmin⟩
    · rw [after_engState _ _ hn, hr.state]
      exact (Recording.catchUp (.refl n s.dev)).state.trans h4
    · rw [after_eng, hr.collAt, hf]
    · rw [after_eng, hr.trig, hf]

/-! ## A record is complete (R447, R451) -/

theorem catchUp_idle (h : framing d n = false ∨ spreadsFlow d = true) : catchUp t n d = d := by
  unfold catchUp
  generalize t.ns * spreadRate d / 1000000000 + 1 - (d.eng n).frmK = fuel
  cases fuel with
  | zero => rfl
  | succ k =>
    refine if_neg fun hc => ?_
    simp only [Bool.and_eq_true, Bool.not_eq_true'] at hc
    rcases h with h | h
    · simp [h] at hc
    · simp [h] at hc

/-- An engine whose record is complete. -/
def CapEng.done (t : Time) (e : CapEng) : CapEng :=
  { e with seq := e.seq + 1, doneT := t.ns, len := 4096 + recordPayload e.chans, pos := 0 }

/-- The record is numbered and counted. -/
def recordCounted (t : Time) (n : Nat) (d : Dev) : Dev :=
  ((d.modEng n (CapEng.done t)).sat Reg.CAP_ENGn_CNT.N n).cause intCap 2 n 0

/-- The record's header is written. -/
def headerWritten (t : Time) (n : Nat) (d : Dev) : Dev :=
  partWrite partCapture (sliceWord d n) (headerWords (capHeader t n d)) d

def recordDone (t : Time) (n : Nat) (d : Dev) : Dev := recordCounted t n (headerWritten t n d)

/-- What becomes of a record that is complete. -/
def captureEnds (t : Time) (n : Nat) (d : Dev) : Dev :=
  if !posting d n || (d.eng n).chans.any (fun c => decide (c.next < c.first + c.ntot)) then d
  else if (d.eng n).viol.isSome && d.onN Reg.CAP_ENGn_CFG.MASKSTOP n then setEng n 6 (recordDone t n d)
  else if (d.eng n).viol.isNone && d.onN Reg.CAP_ENGn_CFG.PASS_DROP n then
    engRelease t n true ((recordDone t n d).sat Reg.CAP_CNT_PASSDROP.N)
  else setEng n 5 (recordDone t n d)

theorem captureComplete_eq (t : Time) (n : Nat) (d : Dev) : captureComplete t n d = captureEnds t n (catchUp t n d) := rfl

theorem captureEnds_waits (h : posting d n = false ∨ ∃ c ∈ (d.eng n).chans, c.next < c.first + c.ntot) :
    captureEnds t n d = d := by
  refine if_pos ?_
  rcases h with h | h
  · simp [h]
  · simp only [Bool.or_eq_true]
    exact .inr (by simpa using h)

theorem captureEnds_done (hp : posting d n = true) (hc : ∀ c ∈ (d.eng n).chans, c.first + c.ntot ≤ c.next) :
    captureEnds t n d =
      if (d.eng n).viol.isSome && d.onN Reg.CAP_ENGn_CFG.MASKSTOP n then setEng n 6 (recordDone t n d)
      else if (d.eng n).viol.isNone && d.onN Reg.CAP_ENGn_CFG.PASS_DROP n then
        engRelease t n true ((recordDone t n d).sat Reg.CAP_CNT_PASSDROP.N)
      else setEng n 5 (recordDone t n d) :=
  if_neg (by simpa [hp] using hc)

theorem headerWritten_regs (t : Time) (n : Nat) (d : Dev) : (headerWritten t n d).regs = d.regs := partWrite_regs _

theorem headerWritten_cap (t : Time) (n : Nat) (d : Dev) : (headerWritten t n d).cap = d.cap :=
  (@Tame.partWrite [.hmp] d d partCapture (sliceWord d n) (headerWords (capHeader t n d)) (.refl _ d) ⟨by decide⟩).stands
    .cap (by decide)

theorem recordCounted_eng : (recordCounted t n d).eng n = (d.eng n).done t :=
  (Dev.cause_eng _ _ _ _ _).trans (Dev.modEng_eng d n (CapEng.done t))

theorem recordDone_eng : (recordDone t n d).eng n = (d.eng n).done t := by
  rw [recordDone, recordCounted_eng, Dev.eng, headerWritten_cap, ← Dev.eng]

theorem cnt_addr (n : Nat) : Reg.CAP_ENGn_CNT.N.reg.addr n = 0xE0128 + n * 0x40 := eng_addr rfl n

theorem recordCounted_word {a : Nat} (ha : a ≠ 0xE0128 + n * 0x40) (hi : a ≠ 0xE000C) :
    (recordCounted t n d).word a = d.word a :=
  (Dev.cause_word_other _ _ _ _ _ hi).trans (Dev.word_setN _ _ _ _ _ (by rw [cnt_addr]; exact ha))

theorem recordDone_word {a : Nat} (ha : a ≠ 0xE0128 + n * 0x40) (hi : a ≠ 0xE000C) : (recordDone t n d).word a = d.word a := by
  rw [recordDone, recordCounted_word ha hi, Dev.word, headerWritten_regs, ← Dev.word]

theorem recordCounted_count : (recordCounted t n d).getN Reg.CAP_ENGn_CNT.N n =
    min (d.getN Reg.CAP_ENGn_CNT.N n + 1) (2 ^ Reg.CAP_ENGn_CNT.N.width - 1) :=
  (Dev.cause_getN _ _ _ _ _ _ _ (by rw [cnt_addr]; show _ ≠ 0xE000C; omega)).trans (Dev.getN_sat_same _ _ _ rfl)

theorem recordDone_count : (recordDone t n d).getN Reg.CAP_ENGn_CNT.N n =
    min (d.getN Reg.CAP_ENGn_CNT.N n + 1) (2 ^ Reg.CAP_ENGn_CNT.N.width - 1) := by
  rw [recordDone, recordCounted_count, getN_of_regs (headerWritten_regs t n d)]

theorem recordDone_cause : bitOf ((recordDone t n d).word 0xE000C) 2 = true := Dev.cause_sets _ intCap 2 n 0 (by decide)

/-! ## A slice is released (R453) -/

/-- From `e` to `d` the slice of engine n may have been released, and nothing else. -/
structure Released (n : Nat) (e d : Dev) : Prop where
  words : Apart (fun a => a ≠ 0xE0120 + n * 0x40 ∧ a ≠ 0xE000C) e d
  seq : (d.eng n).seq = (e.eng n).seq
  causes : ∀ j, bitOf (e.word 0xE000C) j = true → bitOf (d.word 0xE000C) j = true

theorem Released.refl (n : Nat) (d : Dev) : Released n d d := ⟨.refl _ _, rfl, fun _ h => h⟩

theorem Released.ite {c : Prop} [Decidable c] {a b : Dev} (ha : Released n e a) (hb : Released n e b) :
    Released n e (if c then a else b) := by
  split
  · exact ha
  · exact hb

theorem Released.setN {f : Field} {v : Nat} (h : Released n e d) (hf : f.reg.addr n = 0xE0120 + n * 0x40) :
    Released n e (d.setN f n v) where
  words := h.words.setN fun hw => hw.1 hf
  seq := h.seq
  causes j hj := Dev.bit_setN _ _ _ _ (by rw [hf]; omega) (h.causes j hj)

theorem Released.cause {c i x : Nat} (h : Released n e d) : Released n e (d.cause intCap c i x) where
  words := h.words.cause fun hw => hw.2 rfl
  seq := by
    rw [Dev.cause_eng]
    exact h.seq
  causes j hj := Dev.cause_bit _ _ _ _ _ (h.causes j hj)

theorem Released.setEng {st : Nat} (h : Released n e d) : Released n e (setEng n st d) := h.setN (state_addr n)

theorem Released.modEng {f : CapEng → CapEng} (h : Released n e d) (hf : ∀ x, (f x).seq = x.seq) :
    Released n e (d.modEng n f) :=
  ⟨h.words, by rw [Dev.modEng_eng, hf]; exact h.seq, h.causes⟩

theorem Released.engIdle (h : Released n e d) : Released n e (engIdle n d) :=
  Released.setEng (h.modEng fun _ => rfl)

theorem Released.engArm {st : Nat} (h : Released n e d) : Released n e (engArm t n st d) := by
  refine Released.cause (Released.setEng (Released.setN (Released.modEng h ?_) (state_addr n)))
  exact fun _ => rfl

theorem Released.engArmCheck {timed : Bool} (h : Released n e d) : Released n e (engArmCheck t n timed d) := by
  have hs (st : Nat) : Released n e (d.setN Reg.CAP_ENGn_STAT.ARM_STATUS n st) := h.setN (state_addr n)
  unfold Machine.engArmCheck
  dsimp only
  generalize armCheck d n = st
  split
  · exact hs _
  · split
    · exact (hs _).cause
    · exact .ite (hs _).setEng h.engArm

theorem Released.engRelease {rearm : Bool} (h : Released n e d) : Released n e (engRelease t n rearm d) :=
  .ite h.engIdle.engArmCheck h.engIdle

theorem engRelease_idle {rearm : Bool} (h : rearm = false ∨ d.onN Reg.CAP_ENGn_CFG.REARM n = false) :
    engRelease t n rearm d = engIdle n d := by
  refine if_neg ?_
  rcases h with h | h <;> simp [h]

theorem engRelease_rearms (h : d.onN Reg.CAP_ENGn_CFG.REARM n = true) :
    engRelease t n true d = engArmCheck t n false (engIdle n d) := if_pos (by simp [h])

theorem cfg_addr (n : Nat) : Reg.CAP_ENGn_CFG.REARM.reg.addr n = 0xE0104 + n * 0x40 := eng_addr rfl n

theorem sat_released (f : Field) (hf : f.reg.addr 0 = 0xE0024) (x : Dev) :
    (x.sat f).getN Reg.CAP_ENGn_CNT.N n = x.getN Reg.CAP_ENGn_CNT.N n :=
  Dev.getN_setN_addr _ _ _ _ _ _ (by rw [cnt_addr, hf]; omega)

theorem captureEnds_keeps (hp : posting d n = true) (hc : ∀ c ∈ (d.eng n).chans, c.first + c.ntot ≤ c.next) :
    (captureEnds t n d).getN Reg.CAP_ENGn_CNT.N n = (recordDone t n d).getN Reg.CAP_ENGn_CNT.N n ∧
    ((captureEnds t n d).eng n).seq = ((recordDone t n d).eng n).seq ∧ bitOf ((captureEnds t n d).word 0xE000C) 2 = true := by
  have hb : bitOf ((recordDone t n d).word 0xE000C) 2 = true := recordDone_cause
  rw [captureEnds_done hp hc]
  have hcnt : Reg.CAP_ENGn_CNT.N.reg.addr n ≠ 0xE0120 + n * 0x40 ∧ Reg.CAP_ENGn_CNT.N.reg.addr n ≠ 0xE000C := by
    rw [cnt_addr]
    omega
  have hset (st : Nat) : Released n (recordDone t n d) (setEng n st (recordDone t n d)) := (Released.refl n _).setEng
  by_cases hm : ((d.eng n).viol.isSome && d.onN Reg.CAP_ENGn_CFG.MASKSTOP n) = true
  · rw [if_pos hm]
    exact ⟨(hset 6).words.getN hcnt, (hset 6).seq, (hset 6).causes 2 hb⟩
  · rw [if_neg hm]
    split
    · have hs := (Released.refl n ((recordDone t n d).sat Reg.CAP_CNT_PASSDROP.N)).engRelease (t := t) (rearm := true)
      exact ⟨(hs.words.getN hcnt).trans (sat_released _ rfl _), hs.seq.trans (by rw [Dev.sat_eng]), hs.causes 2 (Dev.bit_setN _ _ _ _ (by decide) hb)⟩
    · exact ⟨(hset 5).words.getN hcnt, (hset 5).seq, (hset 5).causes 2 hb⟩

theorem captureEnds_holds (hp : posting d n = true) (hc : ∀ c ∈ (d.eng n).chans, c.first + c.ntot ≤ c.next)
    (hv : (d.eng n).viol.isSome = true ∨ d.onN Reg.CAP_ENGn_CFG.PASS_DROP n = false) :
    engState (captureEnds t n d) n = (if (d.eng n).viol.isSome && d.onN Reg.CAP_ENGn_CFG.MASKSTOP n then 6 else 5) ∧
    (captureEnds t n d).eng n = (d.eng n).done t := by
  have he := recordDone_eng (t := t) (n := n) (d := d)
  rw [captureEnds_done hp hc]
  by_cases hm : ((d.eng n).viol.isSome && d.onN Reg.CAP_ENGn_CFG.MASKSTOP n) = true
  · rw [if_pos hm, if_pos hm, setEng_eng]
    exact ⟨setEng_state (by decide) _, he⟩
  · rw [if_neg hm, if_neg hm, if_neg, setEng_eng]
    · exact ⟨setEng_state (by decide) _, he⟩
    · rcases hv with hv | hv
      · simp [Option.isSome_iff_ne_none.mp hv]
      · simp [hv]

theorem captureEnds_drops (hp : posting d n = true) (hc : ∀ c ∈ (d.eng n).chans, c.first + c.ntot ≤ c.next)
    (hv : (d.eng n).viol = none) (hpass : d.onN Reg.CAP_ENGn_CFG.PASS_DROP n = true) :
    (captureEnds t n d).get Reg.CAP_CNT_PASSDROP.N =
      min (d.get Reg.CAP_CNT_PASSDROP.N + 1) (2 ^ Reg.CAP_CNT_PASSDROP.N.width - 1) ∧
    (d.onN Reg.CAP_ENGn_CFG.REARM n = false → engState (captureEnds t n d) n = 0) := by
  have hpd : (recordDone t n d).get Reg.CAP_CNT_PASSDROP.N = d.get Reg.CAP_CNT_PASSDROP.N :=
    getN_of_word (recordDone_word (by show 0xE0024 ≠ _; omega) (by decide))
  have hre : (recordDone t n d).onN Reg.CAP_ENGn_CFG.REARM n = d.onN Reg.CAP_ENGn_CFG.REARM n :=
    congrArg (· != 0) (getN_of_word (recordDone_word (by rw [cfg_addr]; omega) (by rw [cfg_addr]; omega)))
  rw [captureEnds_done hp hc, if_neg (by simp [hv]), if_pos (by simp [hv, hpass])]
  generalize recordDone t n d = x at hpd hre ⊢
  have hs := (Released.refl n (x.sat Reg.CAP_CNT_PASSDROP.N)).engRelease (t := t) (rearm := true)
  refine ⟨?_, fun h => ?_⟩
  · rw [hs.words.get ⟨by show 0xE0024 ≠ _; omega, by decide⟩, Dev.get_sat_same _ _ rfl, hpd]
  · rw [engRelease_idle (.inr ?_)]
    · exact engIdle_state
    · refine Eq.trans (congrArg (· != 0) (Dev.getN_setN_addr _ _ _ _ _ _ ?_)) (hre.trans h)
      rw [cfg_addr]
      show _ ≠ 0xE0024
      omega

theorem complete_command (s : State) (n : Nat) (d : Dev) (hn : n < 8) (hd : d = catchUp s.time n s.dev)
    (hp : posting d n = true) (hc : ∀ c ∈ (d.eng n).chans, c.first + c.ntot ≤ c.next) :
    ∃ t, exec (.captureComplete n) s = .next t ∧ (t.dev.eng n).seq = (d.eng n).seq + 1 ∧
      t.dev.getN Reg.CAP_ENGn_CNT.N n = min (d.getN Reg.CAP_ENGn_CNT.N n + 1) (2 ^ Reg.CAP_ENGn_CNT.N.width - 1) ∧
      bitOf (t.dev.word 0xE000C) 2 = true ∧
      ((d.eng n).viol.isSome = true ∨ d.onN Reg.CAP_ENGn_CFG.PASS_DROP n = false →
        engState t.dev n = (if (d.eng n).viol.isSome && d.onN Reg.CAP_ENGn_CFG.MASKSTOP n then 6 else 5) ∧
        (t.dev.eng n).pos = 0 ∧ (t.dev.eng n).len = 4096 + recordPayload (d.eng n).chans) ∧
      ((d.eng n).viol = none → d.onN Reg.CAP_ENGn_CFG.PASS_DROP n = true →
        t.dev.get Reg.CAP_CNT_PASSDROP.N =
          min (d.get Reg.CAP_CNT_PASSDROP.N + 1) (2 ^ Reg.CAP_CNT_PASSDROP.N.width - 1) ∧
        (d.onN Reg.CAP_ENGn_CFG.REARM n = false → engState t.dev n = 0)) := by
  obtain ⟨hk1, hk2, hk3⟩ := captureEnds_keeps (t := s.time) hp hc
  rw [exec_captureComplete, if_pos hn, captureComplete_eq, ← hd]
  refine ⟨_, rfl, ?_, ?_, ?_, fun hv => ?_, fun hv hpass => ?_⟩
  · rw [after_eng, hk2, recordDone_eng]
    rfl
  · rw [after_engN _ _ _ rfl (by decide) hn, hk1, recordDone_count]
  · rw [after_word _ _ _ (notIntake_of_lt (by decide)), hk3]
  · obtain ⟨hst, he⟩ := captureEnds_holds (t := s.time) hp hc hv
    rw [after_engState _ _ hn, after_eng, hst, he]
    exact ⟨rfl, rfl, rfl⟩
  · rw [after_get _ _ _ (notIntake_of_lt (by decide)), after_engState _ _ hn]
    exact captureEnds_drops hp hc hv hpass

/-! ## Delivery and release (R452, R453) -/

theorem captureDeliver_waits (h : (engState d n ≠ 5 ∧ engState d n ≠ 6) ∨ d.onN Reg.CAP_ENGn_CFG.DELIVER n = false ∨
    (d.eng n).len ≤ (d.eng n).pos ∨ ringIs d (d.getN Reg.CAP_ENGn_CFG.RING n) clsCapt = false ∨
    ringFree d (d.getN Reg.CAP_ENGn_CFG.RING n) = false) : captureDeliver n d = d := by
  refine if_pos ?_
  rcases h with ⟨h5, h6⟩ | h | h | h | h
  · simp [h5, h6]
  · simp [h]
  · simp [Nat.not_lt.mpr h]
  · simp [h]
  · simp [h]

/-- The bytes delivered are counted. -/
def bytesDelivered (n k : Nat) (d : Dev) : Dev := d.modEng n fun x => { x with pos := x.pos + k }

theorem captureDeliver_sends {b : Posted} {rest : List Posted} (hs : engState d n = 5 ∨ engState d n = 6)
    (hd : d.onN Reg.CAP_ENGn_CFG.DELIVER n = true) (hl : (d.eng n).pos < (d.eng n).len)
    (hr : ringIs d (d.getN Reg.CAP_ENGn_CFG.RING n) clsCapt = true)
    (hf : ringFree d (d.getN Reg.CAP_ENGn_CFG.RING n) = true)
    (hp : (d.ring (d.getN Reg.CAP_ENGn_CFG.RING n)).posted = b :: rest) :
    ∃ w nw bytes ext more st, captureDeliver n d = bytesDelivered n (min b.len ((d.eng n).len - (d.eng n).pos))
      (deliverSt (d.getN Reg.CAP_ENGn_CFG.RING n) bytes ext more st (partRead partCapture w nw d).2).2 := by
  have hc : ¬ ((!((engState d n == 5 || engState d n == 6) && d.onN Reg.CAP_ENGn_CFG.DELIVER n &&
      decide ((d.eng n).pos < (d.eng n).len) && ringIs d (d.getN Reg.CAP_ENGn_CFG.RING n) clsCapt &&
      ringFree d (d.getN Reg.CAP_ENGn_CFG.RING n))) = true) := by
    rcases hs with hs | hs <;> simp [hs, hd, hl, hr, hf]
  unfold captureDeliver
  dsimp only
  rw [if_neg hc, hp]
  exact ⟨_, _, _, _, _, _, rfl⟩

theorem deliverSt_cap (r : Nat) (bytes ext : List Byte) (more : Bool) (st : Nat) (d : Dev) :
    (deliverSt r bytes ext more st d).2.cap = d.cap :=
  (@Tame.deliverSt [.hif] d d r bytes ext more st (.refl _ d) ⟨by decide⟩).stands .cap (by decide)

theorem partRead_cap (p w k : Nat) (d : Dev) : (partRead p w k d).2.cap = d.cap :=
  (@Tame.partRead [.hmp, .free] d d p w k (.refl _ d) ⟨by decide⟩ ⟨by decide⟩).stands .cap (by decide)

theorem deliver_command (s : State) (n : Nat) (b : Posted) (rest : List Posted) (hn : n < 8)
    (hs : engState s.dev n = 5 ∨ engState s.dev n = 6)
    (hd : s.dev.onN Reg.CAP_ENGn_CFG.DELIVER n = true) (hl : (s.dev.eng n).pos < (s.dev.eng n).len)
    (hr : ringIs s.dev (s.dev.getN Reg.CAP_ENGn_CFG.RING n) clsCapt = true)
    (hf : ringFree s.dev (s.dev.getN Reg.CAP_ENGn_CFG.RING n) = true)
    (hp : (s.dev.ring (s.dev.getN Reg.CAP_ENGn_CFG.RING n)).posted = b :: rest) :
    ∃ t, exec (.captureDeliver n) s = .next t ∧
      (t.dev.eng n).pos = (s.dev.eng n).pos + min b.len ((s.dev.eng n).len - (s.dev.eng n).pos) ∧
      (t.dev.eng n).len = (s.dev.eng n).len ∧ engState t.dev n = engState s.dev n := by
  obtain ⟨w, nw, bytes, ext, more, st, he⟩ := captureDeliver_sends hs hd hl hr hf hp
  rw [exec_captureDeliver, if_pos hn, he]
  generalize min b.len ((s.dev.eng n).len - (s.dev.eng n).pos) = k
  have hcap : (deliverSt (s.dev.getN Reg.CAP_ENGn_CFG.RING n) bytes ext more st (partRead partCapture w nw s.dev).2).2.cap =
      s.dev.cap := (deliverSt_cap _ _ _ _ _ _).trans (partRead_cap _ _ _ _)
  have hstate : engState (deliverSt (s.dev.getN Reg.CAP_ENGn_CFG.RING n) bytes ext more st
      (partRead partCapture w nw s.dev).2).2 n = engState s.dev n := by
    refine (getN_of_word ?_).trans (Recording.state (n := n)
      (Recording.partRead (p := partCapture) (w := w) (k := nw) (.refl n s.dev)))
    exact Low.deliverSt (lo := 0xF2010) (fun _ _ => rfl) (by decide) _ (by rw [state_addr]; omega)
  generalize (deliverSt _ bytes ext more st (partRead partCapture w nw s.dev).2).2 = x at hcap hstate
  have hb : (bytesDelivered n k x).eng n = { s.dev.eng n with pos := (s.dev.eng n).pos + k } := by
    refine (Dev.modEng_eng x n fun y => { y with pos := y.pos + k }).trans ?_
    rw [Dev.eng, hcap, ← Dev.eng]
  refine ⟨_, rfl, ?_, ?_, ?_⟩
  · rw [after_eng, hb]
  · rw [after_eng, hb]
  · exact (after_engState _ _ hn).trans hstate

theorem release_commands (s : State) (n : Nat) (hn : n < 8) (hu : s.dev.up islCap = true) :
    ((engState s.dev n ≠ 5 ∧ engState s.dev n ≠ 6) ∨
      (s.dev.onN Reg.CAP_ENGn_CFG.DELIVER n = true ∧ (s.dev.eng n).pos ≠ (s.dev.eng n).len) →
      exec (.captureRelease n) s = .next (s.after s.dev)) ∧
    (engState s.dev n = 5 ∨ engState s.dev n = 6 →
      s.dev.onN Reg.CAP_ENGn_CFG.DELIVER n = false ∨ (s.dev.eng n).pos = (s.dev.eng n).len →
      (engState s.dev n = 6 ∨ s.dev.onN Reg.CAP_ENGn_CFG.REARM n = false →
        exec (.captureRelease n) s = .next (s.after (engIdle n s.dev))) ∧
      (engState s.dev n = 5 → s.dev.onN Reg.CAP_ENGn_CFG.REARM n = true →
        exec (.captureRelease n) s = .next (s.after (engArmCheck s.time n false (engIdle n s.dev))))) := by
  have hu' : s.dev.up (islandOf 0xE0100) = true := hu
  rw [exec_captureRelease, if_pos hn, onWrite_up _ hu', captureRelease]
  refine ⟨fun h => ?_, fun hs hd => ⟨fun h => ?_, fun h5 h => ?_⟩⟩
  · rw [if_neg]
    rcases h with h | ⟨h1, h2⟩
    · exact fun hc => hc.1.elim h.1 h.2
    · rw [if_pos h1]
      exact fun hc => h2 hc.2
  · rw [if_pos ⟨hs, by split <;> simp_all⟩, engRelease_idle]
    rcases h with h | h
    · exact .inl (by simp [h])
    · exact .inr h
  · rw [if_pos ⟨hs, by split <;> simp_all⟩, h5]
    exact congrArg (fun x => Host.Outcome.next (s.after x)) (engRelease_rearms h)

theorem closed_commands (s : State) (n : Nat) (hn : n < 8) (h : (s.dev.eng n).collAt = none ∨ engState s.dev n ≠ 4) :
    exec (.collectionClose n) s = .next (s.after s.dev) := by
  rw [exec_collectionClose, if_pos hn]
  cases hc : (s.dev.eng n).collAt with
  | none => rw [collectionClose_none hc]
  | some a => rw [collectionClose_waits hc (.inl (h.resolve_left (by simp [hc])))]

/-- Settles O44: a trigger's collection, the record it makes, its delivery and its release. -/
theorem captureRecords : Obligations.CaptureRecords := by
  unfold Obligations.CaptureRecords
  refine ⟨⟨fun s n hn h => ?_, trigger_command, closed_commands, close_commands⟩, fun s n hn h => ?_,
    fun d t n => catchUp_idle, fun s n d hn hd h => ?_, complete_command, fun s n hn h => ?_, deliver_command,
    release_commands⟩
  · rw [exec_captureTrigger, if_pos hn, captureTrigger_empty h]
  · have hf : framing s.dev n = false := by
      simp only [List.mem_cons, List.not_mem_nil, or_false, not_or] at h
      simp [framing, h]
    have hp : posting s.dev n = false := by
      simp only [List.mem_cons, List.not_mem_nil, or_false, not_or] at h
      simp [posting, h]
    rw [exec_captureComplete, if_pos hn, captureComplete_eq, catchUp_idle (.inl hf), captureEnds_waits (.inl hp)]
  · rw [exec_captureComplete, if_pos hn, captureComplete_eq, ← hd, captureEnds_waits h]
  · rw [exec_captureDeliver, if_pos hn, captureDeliver_waits h]

end Sys2Proof.Machine

/-!
PROOFS. The rings: they are enabled and disabled, doorbells move their counters, completions are written, and the heads of
descriptor rings that need no engine (R462 to R472, R478 to R486).
-/

namespace Sys2Proof.Machine

open Sys2Proof

variable {d e : Dev} {s : State} {t : Time} {n : Nat}

theorem exec_bufPost (n : Nat) (s : State) : exec (.bufPost n) s = .next (s.after (bufPost s.time n s.dev)) := rfl

theorem exec_completionWrite (n : Nat) (s : State) :
    exec (.completionWrite n) s = .next (s.after (if n < 256 then completionWrite s.time n s.dev else s.dev)) := rfl

theorem exec_descFence (n : Nat) (s : State) : exec (.descFence n) s = .next (s.after (descFence s.time n s.dev)) := rfl

theorem exec_descNop (n : Nat) (s : State) : exec (.descNop n) s = .next (s.after (descNop s.time n s.dev)) := rfl

theorem exec_doorbell (ofs size v : Nat) (descs : List DescWords) (s : State) :
    exec (.doorbell ofs size v descs) s =
      .next (s.after (if s.dev.up islHst then bar2Write s.time ofs size v descs s.dev else s.dev)) := rfl

theorem exec_fenceTimeout (n : Nat) (s : State) :
    exec (.fenceTimeout n) s = .next (s.after (fenceTimeout s.time n s.dev)) := rfl

theorem exec_ringDisable (n : Nat) (s : State) :
    exec (.ringDisable n) s = .next (s.after (if n < 256 then onWrite 0xF2000 (ringDisable n) s.dev else s.dev)) := rfl

theorem exec_ringEnable (n : Nat) (cb : Option DescWords) (s : State) :
    exec (.ringEnable n cb) s =
      .next (s.after (if n < 256 then onWrite 0xF2000 (ringEnable s.time n cb) s.dev else s.dev)) := rfl

/-- Is a polled ring due to be read (R466)? -/
def PollDue (s : State) (n : Nat) : Prop :=
  n < 256 ∧ ringRuns s.dev n = true ∧ (s.dev.ring n).poll = true ∧ s.dev.get Reg.HIF_POLL_NS.NS ≠ 0 ∧
    max 250 (s.dev.get Reg.HIF_POLL_NS.NS) ≤ s.time.loc - (s.dev.ring n).lastPoll

theorem exec_ringPoll_due {prod ccons : Nat} {descs : List DescWords} (h : PollDue s n) :
    exec (.ringPoll n prod ccons descs) s = .next (s.after (doorbell s.time n (some prod) (some ccons) descs
      (s.dev.setRing n { s.dev.ring n with lastPoll := s.time.loc }))) :=
  congrArg (fun d => Host.Outcome.next (s.after d)) (if_pos h)

theorem exec_ringPoll_early {prod ccons : Nat} {descs : List DescWords} (h : ¬ PollDue s n) :
    exec (.ringPoll n prod ccons descs) s = .next (s.after s.dev) :=
  congrArg (fun d => Host.Outcome.next (s.after d)) (if_neg h)

theorem exec_ringStopped (n : Nat) (s : State) : exec (.ringStopped n) s = .next (s.after (ringStopped n s.dev)) := rfl

theorem exec_tokenWaitStart (n : Nat) (s : State) :
    exec (.tokenWaitStart n) s = .next (s.after (tokenWaitStart n s.dev)) := rfl

/-! ## The registers of a ring -/

/-- A field of the registers of a ring, in the word at this offset among them. -/
def RingReg (f : Field) (b : Nat) : Prop := f.reg = ⟨0xF2000 + b, 0x20, 256, 1, 0⟩ ∧ b < 0x20

theorem RingReg.addr {f : Field} {b : Nat} (h : RingReg f b) (n : Nat) : f.reg.addr n = 0xF2000 + b + n * 0x20 :=
  RegAt.addr_single h.1 n

theorem RingReg.after {f : Field} {b : Nat} (h : RingReg f b) (s : State) (d : Dev) (hn : n < 256) :
    (s.after d).dev.getN f n = d.getN f n :=
  after_getN _ _ _ _ (notIntake_of_lt (by have := h.2; rw [h.addr]; omega))

/-- A write to another register of a ring, of this ring or another, leaves a field. -/
theorem RingReg.setN_other {f g : Field} {b c : Nat} (hg : RingReg g c) (hf : RingReg f b) (hbc : c ≠ b) (d : Dev)
    (n v m : Nat) : (d.setN f n v).getN g m = d.getN g m :=
  Dev.getN_setN_addr _ _ _ _ _ _ (by have := hf.2; have := hg.2; rw [hg.addr, hf.addr]; omega)

/-- A field of a ring is apart from every word outside the rings' registers. -/
theorem RingReg.cause {g : Field} {c : Nat} (hg : RingReg g c) (d : Dev) (k i x m : Nat) :
    (d.cause intHif k i x).getN g m = d.getN g m :=
  Dev.cause_getN _ _ _ _ _ _ _ (by rw [hg.addr]; show _ ≠ 0xF0008; omega)

theorem RingReg.setN_low {f g : Field} {c i : Nat} (hg : RingReg g c) (hf : f.reg.addr i < 0xF2000) (d : Dev) (v m : Nat) :
    (d.setN f i v).getN g m = d.getN g m :=
  Dev.getN_setN_addr _ _ _ _ _ _ (by rw [hg.addr]; omega)

theorem ringCtrl_reg : RingReg Reg.HIF_RINGn_CTRL.EN 0 := ⟨rfl, by decide⟩
theorem ringState_reg : RingReg Reg.HIF_RINGn_STAT.STATE 0xC := ⟨rfl, by decide⟩
theorem ringEnStatus_reg : RingReg Reg.HIF_RINGn_STAT.EN_STATUS 0xC := ⟨rfl, by decide⟩
theorem ringDmaErr_reg : RingReg Reg.HIF_RINGn_STAT.DMA_ERR 0xC := ⟨rfl, by decide⟩
theorem ringDcons_reg : RingReg Reg.HIF_RINGn_DCONS.N 0x10 := ⟨rfl, by decide⟩
theorem ringCprod_reg : RingReg Reg.HIF_RINGn_CPROD.N 0x14 := ⟨rfl, by decide⟩

theorem ringState_after (s : State) (d : Dev) (hn : n < 256) : ringState (s.after d).dev n = ringState d n :=
  ringState_reg.after s d hn

theorem ringEn_after (s : State) (d : Dev) (hn : n < 256) :
    (s.after d).dev.onN Reg.HIF_RINGn_CTRL.EN n = d.onN Reg.HIF_RINGn_CTRL.EN n :=
  congrArg (· != 0) (ringCtrl_reg.after s d hn)

@[simp] theorem after_ring (s : State) (d : Dev) (n : Nat) : (s.after d).dev.ring n = d.ring n := by simp [Dev.ring]

/-! ## Messages requested and the rings -/

theorem Dev.request_rings (d : Dev) (v : Nat) : (d.request v).hif.rings = d.hif.rings := by
  rcases Dev.request_hif d v with h | h <;> rw [h]

theorem Dev.request_sent (d : Dev) (v : Nat) : (d.request v).hif.sent = d.hif.sent := by
  rcases Dev.request_hif d v with h | h <;> rw [h]

theorem Dev.cause_rings (d : Dev) (b : IntBlk) (k i x : Nat) : (d.cause b k i x).hif.rings = d.hif.rings := by
  have hc : (d.cause b k i x).hif = (d.raise b k).hif := rfl
  rcases Dev.raise_hif d b k with h | h <;> rw [hc, h]

theorem Dev.request_mem (d : Dev) (v : Nat) : v ∈ (d.request v).hif.msgReq := by
  unfold Dev.request
  split
  · assumption
  · exact List.mem_append_right _ (List.mem_singleton.mpr rfl)

theorem Dev.raise_msgReq {v : Nat} (b : IntBlk) (k : Nat) (h : v ∈ d.hif.msgReq) : v ∈ (d.raise b k).hif.msgReq := by
  rcases Dev.raise_hif d b k with hr | hr <;> rw [hr]
  · exact h
  · exact List.mem_append_left _ h

theorem logJudge1_msgReq {v : Nat} (t : Time) (ev : LogEv) (lb : Logbook) (h : v ∈ d.hif.msgReq) :
    v ∈ (logJudge1 t ev lb d).2.1.hif.msgReq := by
  unfold logJudge1
  split
  · exact h
  · split
    · unfold logEnter
      split
      · exact h
      · split
        · exact Dev.raise_msgReq _ _ h
        · exact h
    · exact h

theorem logJudge_msgReq {v : Nat} (t : Time) (ev : LogEv) {x : Logbook × Dev} (h : v ∈ x.2.hif.msgReq) :
    v ∈ (logJudge t x ev).2.hif.msgReq := by
  have h1 := logJudge1_msgReq t ev x.1 h
  unfold logJudge
  split
  · next hj => rw [hj] at h1; exact h1
  · next hj =>
    rw [hj] at h1
    exact logJudge1_msgReq t _ _ h1

/-- A message requested is still requested once the events of the command are in the Logbook. -/
theorem after_msgReq {v : Nat} (h : v ∈ d.hif.msgReq) : v ∈ (s.after d).dev.hif.msgReq := by
  have hf (es : List LogEv) (x : Logbook × Dev) (hx : v ∈ x.2.hif.msgReq) :
      v ∈ (es.foldl (logJudge s.time) x).2.hif.msgReq := by
    induction es generalizing x with
    | nil => exact hx
    | cons ev es ih => exact ih _ (logJudge_msgReq s.time ev hx)
  exact hf _ (s.log, { d with evs := [] }) h

/-! ## A ring is enabled (R462) -/

theorem exec_ringEnable_up {cb : Option DescWords} (hn : n < 256) (hu : s.dev.up islHst = true) :
    exec (.ringEnable n cb) s = .next (s.after (ringEnable s.time n cb s.dev)) := by
  have hu' : s.dev.up (islandOf 0xF2000) = true := hu
  rw [exec_ringEnable, if_pos hn, onWrite_up _ hu']

theorem ringEnable_taken {cb : Option DescWords} (h : ringState d n ≠ 0 ∨ d.onN Reg.HIF_RINGn_CTRL.EN n = true) :
    ringEnable t n cb d = d := if_pos h

theorem ringEnable_idle {cb : DescWords} (h : ringState d n = 0) (he : d.onN Reg.HIF_RINGn_CTRL.EN n = false) :
    ringEnable t n (some cb) d = if bits (dw cb 4) 0 8 = 0 then d.setN Reg.HIF_RINGn_STAT.EN_STATUS n stSkipped
      else if ringRefused (ringOfBlock cb t.loc) then
        (d.setN Reg.HIF_RINGn_STAT.EN_STATUS n stRejected).cause intHif 4 n stRejected
      else (((((d.setRing n (ringOfBlock cb t.loc)).setN Reg.HIF_RINGn_CTRL.EN n 1).setN Reg.HIF_RINGn_STAT.STATE n 1).setN
        Reg.HIF_RINGn_STAT.EN_STATUS n stOk).setN Reg.HIF_RINGn_DCONS.N n 0).setN Reg.HIF_RINGn_CPROD.N n 0 :=
  if_neg (by simp [h, he])

/-- The device once a control block could not be read. -/
def enableFailed (n : Nat) (d : Dev) : Dev :=
  (((((d.setN Reg.HIF_RINGn_STAT.EN_STATUS n stRejected).setN Reg.HIF_RINGn_STAT.DMA_ERR n 1).cause intHif 4 n
    stRejected).cause intHif 2 n stRejected).set Reg.HIF_ERR_RING.RING n).set Reg.HIF_ERR_RING.STATUS stRejected

theorem ringEnable_failed (h : ringState d n = 0) (he : d.onN Reg.HIF_RINGn_CTRL.EN n = false) :
    ringEnable t n none d = enableFailed n d := if_neg (by simp [h, he])

/-- A field of the ring's registers through the report of a failed read. -/
theorem enableFailed_ringReg {f : Field} {b : Nat} (hf : RingReg f b) (d : Dev) (n m : Nat) :
    (enableFailed n d).getN f m =
      ((d.setN Reg.HIF_RINGn_STAT.EN_STATUS n stRejected).setN Reg.HIF_RINGn_STAT.DMA_ERR n 1).getN f m := by
  unfold enableFailed
  rw [Dev.set, Dev.set, hf.setN_low (by decide), hf.setN_low (by decide), hf.cause, hf.cause]

theorem enableFailed_rings (n : Nat) (d : Dev) : (enableFailed n d).hif.rings = d.hif.rings := by
  unfold enableFailed
  rw [Dev.set, Dev.setN_hif, Dev.set, Dev.setN_hif, Dev.cause_rings, Dev.cause_rings, Dev.setN_hif, Dev.setN_hif]

theorem enableFailed_bit (d : Dev) (n : Nat) :
    bitOf ((enableFailed n d).word intHif.addr) 2 = true ∧ bitOf ((enableFailed n d).word intHif.addr) 4 = true := by
  unfold enableFailed
  rw [Dev.set, Dev.set, Dev.word_setN _ _ _ _ _ (by decide), Dev.word_setN _ _ _ _ _ (by decide)]
  exact ⟨Dev.cause_sets _ _ _ _ _ (by decide), Dev.cause_bit _ _ _ _ _ (Dev.cause_sets _ _ _ _ _ (by decide))⟩

theorem enableFailed_ring (d : Dev) (hn : n < 256) : (enableFailed n d).get Reg.HIF_ERR_RING.RING = n := by
  unfold enableFailed
  rw [Dev.get_set_other _ _ _ _ (by decide), Dev.get_set_same _ _ _ rfl (by simpa [Reg.HIF_ERR_RING.RING] using hn)]

/-- The device once a control block with allowed fields has been read. -/
def ringStarted (n : Nat) (r : Ring) (d : Dev) : Dev :=
  (((((d.setRing n r).setN Reg.HIF_RINGn_CTRL.EN n 1).setN Reg.HIF_RINGn_STAT.STATE n 1).setN
    Reg.HIF_RINGn_STAT.EN_STATUS n stOk).setN Reg.HIF_RINGn_DCONS.N n 0).setN Reg.HIF_RINGn_CPROD.N n 0

theorem ringStarted_state (n : Nat) (r : Ring) (d : Dev) : ringState (ringStarted n r d) n = 1 := by
  unfold ringStarted ringState
  rw [ringState_reg.setN_other ringCprod_reg (by decide), ringState_reg.setN_other ringDcons_reg (by decide),
    Dev.getN_setN_apart _ _ _ _ _ _ rfl rfl rfl, Dev.getN_setN_same _ _ _ _ rfl]
  rfl

theorem ringStarted_en (n : Nat) (r : Ring) (d : Dev) : (ringStarted n r d).onN Reg.HIF_RINGn_CTRL.EN n = true := by
  unfold ringStarted Dev.onN
  rw [ringCtrl_reg.setN_other ringCprod_reg (by decide), ringCtrl_reg.setN_other ringDcons_reg (by decide),
    ringCtrl_reg.setN_other ringEnStatus_reg (by decide), ringCtrl_reg.setN_other ringState_reg (by decide),
    Dev.getN_setN_same _ _ _ _ rfl]
  rfl

theorem ringStarted_status (n : Nat) (r : Ring) (d : Dev) :
    (ringStarted n r d).getN Reg.HIF_RINGn_STAT.EN_STATUS n = stOk := by
  unfold ringStarted
  rw [ringEnStatus_reg.setN_other ringCprod_reg (by decide), ringEnStatus_reg.setN_other ringDcons_reg (by decide),
    Dev.getN_setN_same _ _ _ _ rfl]
  rfl

theorem ringStarted_dcons (n : Nat) (r : Ring) (d : Dev) : (ringStarted n r d).getN Reg.HIF_RINGn_DCONS.N n = 0 := by
  unfold ringStarted
  rw [ringDcons_reg.setN_other ringCprod_reg (by decide), Dev.getN_setN_same _ _ _ _ rfl]
  rfl

theorem ringStarted_cprod (n : Nat) (r : Ring) (d : Dev) : (ringStarted n r d).getN Reg.HIF_RINGn_CPROD.N n = 0 :=
  Dev.getN_setN_same _ _ _ _ rfl

theorem ringStarted_ring (n : Nat) (r : Ring) (d : Dev) : (ringStarted n r d).ring n = r := ring_setRing d n r

theorem ringStarted_ring_other {m : Nat} (h : m ≠ n) (r : Ring) (d : Dev) : (ringStarted n r d).ring m = d.ring m :=
  ring_setRing_other d h r

theorem enable_rings :
    (∀ (s : State) (n : Nat) (cb : Option DescWords), 256 ≤ n ∨ (s.dev.up islHst = true ∧
      (ringState s.dev n ≠ 0 ∨ s.dev.onN Reg.HIF_RINGn_CTRL.EN n = true)) →
    exec (.ringEnable n cb) s = .next (s.after s.dev)) ∧
  (∀ (s : State) (n : Nat), n < 256 → s.dev.up islHst = true → ringState s.dev n = 0 →
    s.dev.onN Reg.HIF_RINGn_CTRL.EN n = false →
    ∃ t, exec (.ringEnable n none) s = .next t ∧ ringState t.dev n = 0 ∧ t.dev.onN Reg.HIF_RINGn_CTRL.EN n = false ∧
      t.dev.getN Reg.HIF_RINGn_STAT.EN_STATUS n = stRejected ∧ t.dev.getN Reg.HIF_RINGn_STAT.DMA_ERR n = 1 ∧
      bitOf (t.dev.word intHif.addr) 2 = true ∧ bitOf (t.dev.word intHif.addr) 4 = true ∧
      t.dev.get Reg.HIF_ERR_RING.RING = n ∧ t.dev.hif.rings = s.dev.hif.rings) ∧
  (∀ (s : State) (n : Nat) (cb : DescWords), n < 256 → s.dev.up islHst = true → ringState s.dev n = 0 →
    s.dev.onN Reg.HIF_RINGn_CTRL.EN n = false →
    (bits (dw cb 4) 0 8 ≠ 0 → ringRefused (ringOfBlock cb s.time.loc) = false →
      ∃ t, exec (.ringEnable n (some cb)) s = .next t ∧ ringState t.dev n = 1 ∧
        t.dev.onN Reg.HIF_RINGn_CTRL.EN n = true ∧ t.dev.getN Reg.HIF_RINGn_STAT.EN_STATUS n = stOk ∧
        t.dev.getN Reg.HIF_RINGn_DCONS.N n = 0 ∧ t.dev.getN Reg.HIF_RINGn_CPROD.N n = 0 ∧
        t.dev.ring n = ringOfBlock cb s.time.loc ∧ (∀ m, m ≠ n → t.dev.ring m = s.dev.ring m)) ∧
    (bits (dw cb 4) 0 8 ≠ 0 → ringRefused (ringOfBlock cb s.time.loc) = true →
      exec (.ringEnable n (some cb)) s =
        .next (s.after ((s.dev.setN Reg.HIF_RINGn_STAT.EN_STATUS n stRejected).cause intHif 4 n stRejected))) ∧
    (bits (dw cb 4) 0 8 = 0 →
      exec (.ringEnable n (some cb)) s = .next (s.after (s.dev.setN Reg.HIF_RINGn_STAT.EN_STATUS n stSkipped)))) := by
  refine ⟨fun s n cb h => ?_, fun s n hn hu h0 he => ?_, fun s n cb hn hu h0 he => ⟨fun hz hr => ?_, fun hz hr => ?_,
    fun hz => ?_⟩⟩
  · by_cases hn : n < 256
    · obtain h | ⟨hu, h⟩ := h
      · omega
      · rw [exec_ringEnable_up hn hu, ringEnable_taken h]
    · rw [exec_ringEnable, if_neg hn]
  · rw [exec_ringEnable_up hn hu, ringEnable_failed h0 he]
    refine ⟨_, rfl, ?_, ?_, ?_, ?_, ?_, ?_, ?_, by rw [after_rings, enableFailed_rings]⟩
    · rw [ringState_after _ _ hn, ringState, enableFailed_ringReg ringState_reg, Dev.getN_setN_apart _ _ _ _ _ _ rfl rfl rfl,
        Dev.getN_setN_apart _ _ _ _ _ _ rfl rfl rfl]
      exact h0
    · rw [ringEn_after _ _ hn, Dev.onN, enableFailed_ringReg ringCtrl_reg, ringCtrl_reg.setN_other ringDmaErr_reg (by decide),
        ringCtrl_reg.setN_other ringEnStatus_reg (by decide)]
      exact he
    · rw [ringEnStatus_reg.after _ _ hn, enableFailed_ringReg ringEnStatus_reg, Dev.getN_setN_apart _ _ _ _ _ _ rfl rfl rfl,
        Dev.getN_setN_same _ _ _ _ rfl]
      rfl
    · rw [ringDmaErr_reg.after _ _ hn, enableFailed_ringReg ringDmaErr_reg, Dev.getN_setN_same _ _ _ _ rfl]
      rfl
    · rw [after_word _ _ _ (notIntake_of_lt (by decide))]
      exact (enableFailed_bit _ _).1
    · rw [after_word _ _ _ (notIntake_of_lt (by decide))]
      exact (enableFailed_bit _ _).2
    · rw [after_get _ _ _ (notIntake_of_lt (by decide))]
      exact enableFailed_ring _ hn
  · have hs : ringEnable s.time n (some cb) s.dev = ringStarted n (ringOfBlock cb s.time.loc) s.dev := by
      rw [ringEnable_idle h0 he, if_neg hz, if_neg (by simp [hr])]
      rfl
    rw [exec_ringEnable_up hn hu, hs]
    refine ⟨_, rfl, ?_, ?_, ?_, ?_, ?_, ?_, fun m hm => ?_⟩
    · rw [ringState_after _ _ hn, ringStarted_state]
    · rw [ringEn_after _ _ hn, ringStarted_en]
    · rw [ringEnStatus_reg.after _ _ hn, ringStarted_status]
    · rw [ringDcons_reg.after _ _ hn, ringStarted_dcons]
    · rw [ringCprod_reg.after _ _ hn, ringStarted_cprod]
    · rw [after_ring, ringStarted_ring]
    · rw [after_ring, ringStarted_ring_other hm]
  · rw [exec_ringEnable_up hn hu, ringEnable_idle h0 he, if_neg hz, if_pos hr]
  · rw [exec_ringEnable_up hn hu, ringEnable_idle h0 he, if_pos hz]

/-! ## A ring is disabled (R463) -/

theorem exec_ringDisable_up (hn : n < 256) (hu : s.dev.up islHst = true) :
    exec (.ringDisable n) s = .next (s.after (ringDisable n s.dev)) := by
  have hu' : s.dev.up (islandOf 0xF2000) = true := hu
  rw [exec_ringDisable, if_pos hn, onWrite_up _ hu']

theorem ringDisable_off (h : ringState d n = 0 ∨ ringState d n = 2) :
    ringDisable n d = d.setN Reg.HIF_RINGn_CTRL.EN n 0 := if_pos h

theorem ringDisable_stops (h0 : ringState d n ≠ 0) (h2 : ringState d n ≠ 2) :
    ringDisable n d = ringGone n ((dspRingEnd n (abortTaken n (d.setN Reg.HIF_RINGn_CTRL.EN n 0))).setN
      Reg.HIF_RINGn_STAT.STATE n 2) := if_neg (by simp [h0, h2])

/-- The descriptors and buffers of a ring that wait stand as they did. -/
structure WaitingStands (n : Nat) (e d : Dev) : Prop where
  taken : (d.ring n).taken = (e.ring n).taken
  posted : (d.ring n).posted = (e.ring n).posted

theorem WaitingStands.refl (n : Nat) (d : Dev) : WaitingStands n d d := ⟨rfl, rfl⟩

theorem WaitingStands.ofHif {x : Dev} (h : WaitingStands n e d) (hx : x.hif.rings = d.hif.rings) : WaitingStands n e x := by
  have hr : x.ring n = d.ring n := by rw [Dev.ring, hx, ← Dev.ring]
  exact ⟨by rw [hr]; exact h.taken, by rw [hr]; exact h.posted⟩

theorem WaitingStands.setRing {k : Nat} {r : Ring} (h : WaitingStands n e d) (ht : r.taken = (d.ring k).taken)
    (hp : r.posted = (d.ring k).posted) : WaitingStands n e (d.setRing k r) := by
  by_cases hk : n = k
  · subst hk
    exact ⟨by rw [ring_setRing, ht]; exact h.taken, by rw [ring_setRing, hp]; exact h.posted⟩
  · exact ⟨by rw [ring_setRing_other _ hk]; exact h.taken, by rw [ring_setRing_other _ hk]; exact h.posted⟩

theorem WaitingStands.owe {k : Nat} {o : Owed} (h : WaitingStands n e d) : WaitingStands n e (owe k o d) :=
  h.setRing rfl rfl

theorem WaitingStands.endStarted {k idx status len : Nat} {ext : List Byte} {p : Option Nat} (h : WaitingStands n e d) :
    WaitingStands n e (endStarted k idx status len ext p d) := by
  unfold Machine.endStarted
  dsimp only
  split
  · exact h
  · refine WaitingStands.owe (WaitingStands.setRing h ?_ ?_) <;> rfl

theorem clearWait_hif (th : Nat) (d : Dev) : (clearWait th d).2.hif = d.hif := rfl

theorem WaitingStands.blockThread {th wake st : Nat} (h : WaitingStands n e d) :
    WaitingStands n e (blockThread th wake st d) := by
  unfold Machine.blockThread
  split
  · exact h
  · exact WaitingStands.endStarted (h.ofHif (x := ((clearWait th d).2.draw).2.setN Reg.T_THSTAT.STATE th 1) rfl)

theorem WaitingStands.foldl {β : Type} {f : Dev → β → Dev} (hf : ∀ b d, WaitingStands n e d → WaitingStands n e (f d b))
    (l : List β) (h : WaitingStands n e d) : WaitingStands n e (l.foldl f d) := by
  induction l generalizing d with
  | nil => exact h
  | cons b l ih => exact ih (hf b d h)

theorem WaitingStands.ite {c : Prop} [Decidable c] {a b : Dev} (ha : WaitingStands n e a) (hb : WaitingStands n e b) :
    WaitingStands n e (if c then a else b) := by
  split
  · exact ha
  · exact hb

/-- The waits of Dispatch that end are none of a ring's descriptors that wait. -/
theorem WaitingStands.dspAbort {which : Nat → Bool} (h : WaitingStands n e d) : WaitingStands n e (dspAbort which d) := by
  unfold Machine.dspAbort
  dsimp only
  refine WaitingStands.ofHif (WaitingStands.foldl (fun ev x hx => ?_) _ (WaitingStands.foldl (fun ev x hx => ?_) _ h)) rfl
  · split
    · exact .ite (WaitingStands.endStarted (hx.ofHif rfl)) hx
    · exact hx
  · split
    · exact .ite hx.blockThread hx
    · exact hx

theorem Low.blockThread {lo th wake st : Nat} (h : Low lo e d) (hb : lo ≤ 0x100000) : Low lo e (blockThread th wake st d) := by
  unfold Machine.blockThread
  split
  · exact h
  · exact Low.endStarted (Low.setN (h.clearWait hb) (hb.trans (by decide)))

theorem Low.dspAbort {lo : Nat} {which : Nat → Bool} (h : Low lo e d) (hb : lo ≤ 0x100000) :
    Low lo e (dspAbort which d) := by
  unfold Machine.dspAbort
  dsimp only
  refine Low.dspCounts (Low.foldl (Low.foldl h fun x ev hx => ?_) fun x ev hx => ?_) (hb.trans (by decide))
  · split
    · exact .ite (hx.blockThread hb) hx
    · exact hx
  · split
    · exact .ite (Low.endStarted hx) hx
    · exact hx

/-- Without a wait or a timer in hand nothing of Dispatch ends. -/
theorem dspAbort_idle {which : Nat → Bool} (hw : d.dsp.waits = []) (ht : d.dsp.timed = []) :
    dspAbort which d = dspCounts d := by
  unfold dspAbort
  rw [hw, List.foldl_nil]
  dsimp only
  rw [ht, List.foldl_nil]

theorem ringGone_rings (n : Nat) (d : Dev) : (ringGone n d).hif = d.hif := by
  unfold ringGone
  split <;> rfl

theorem Low.ringGone {lo : Nat} (h : Low lo e d) (hb : lo ≤ 0x120000) : Low lo e (ringGone n d) :=
  .ite (Low.rdr (h.set (hb.trans (by decide)))) h

theorem abortTaken_fromHost (h : toHost (d.ring n).cls = false) :
    abortTaken n d = d.setRing n { d.ring n with
      taken := [], owed := (d.ring n).owed ++
        (d.ring n).taken.map fun h => owedOf (d.ring n).cls h.idx h.words stAborted 0 [] } := if_neg (by simp [h])

theorem abortTaken_toHost (h : toHost (d.ring n).cls = true) :
    abortTaken n d = (entryAborted n d).setRing n { (entryAborted n d).ring n with taken := [], posted := [] } := if_pos h

theorem abortTaken_taken (n : Nat) (d : Dev) : ((abortTaken n d).ring n).taken = [] := by
  cases h : toHost (d.ring n).cls
  · rw [abortTaken_fromHost h, ring_setRing]
  · rw [abortTaken_toHost h, ring_setRing]

theorem abortTaken_posted (h : toHost (d.ring n).cls = true) : ((abortTaken n d).ring n).posted = [] := by
  rw [abortTaken_toHost h, ring_setRing]

theorem entryAborted_idle (h : d.adc.diag = []) : entryAborted n d = d := if_pos (by simp [h])

theorem entryAborted_dsp (n : Nat) (d : Dev) : (entryAborted n d).dsp = d.dsp := by
  unfold entryAborted
  split
  · rfl
  · dsimp only
    split <;> rfl

theorem abortTaken_dsp (n : Nat) (d : Dev) : (abortTaken n d).dsp = d.dsp := by
  cases h : toHost (d.ring n).cls
  · rw [abortTaken_fromHost h, Dev.setRing_dsp]
  · rw [abortTaken_toHost h, Dev.setRing_dsp, entryAborted_dsp]

/-- An aborted entry of a ring moves, of the registers of rings, DCONS alone. -/
theorem RingReg.entryAborted {f : Field} {b : Nat} (hf : RingReg f b) (hb : b ≠ 0x10) (n m : Nat) (d : Dev) :
    (entryAborted n d).getN f m = d.getN f m := by
  unfold Machine.entryAborted
  split
  · rfl
  · dsimp only
    split
    · exact hf.setN_other ringDcons_reg hb _ _ _ _
    · rfl

theorem RingReg.abortTaken {f : Field} {b : Nat} (hf : RingReg f b) (hb : b ≠ 0x10) (n m : Nat) (d : Dev) :
    (abortTaken n d).getN f m = d.getN f m := by
  cases h : toHost (d.ring n).cls
  · rw [abortTaken_fromHost h, Dev.setRing_getN]
  · rw [abortTaken_toHost h, Dev.setRing_getN, hf.entryAborted hb]

section
variable (h0 : ringState d n ≠ 0) (h2 : ringState d n ≠ 2)
include h0 h2

/-- The ring of the device after the waits of Dispatch on it have ended. -/
theorem ringDisable_ring :
    (ringDisable n d).ring n = (dspRingEnd n (abortTaken n (d.setN Reg.HIF_RINGn_CTRL.EN n 0))).ring n := by
  rw [ringDisable_stops h0 h2, Dev.ring, ringGone_rings, Dev.setN_hif, ← Dev.ring]

theorem ringDisable_state (hn : n < 256) : ringState (ringDisable n d) n = 2 := by
  rw [ringDisable_stops h0 h2, ringState,
    (Low.ringGone (lo := 0x100000) (.refl _ _) (by decide)).getN (by rw [ringState_reg.addr]; omega),
    Dev.getN_setN_same _ _ _ _ rfl]
  rfl

theorem ringDisable_en (hn : n < 256) : (ringDisable n d).onN Reg.HIF_RINGn_CTRL.EN n = false := by
  have hl : Low 0x100000 (abortTaken n (d.setN Reg.HIF_RINGn_CTRL.EN n 0))
    (dspRingEnd n (abortTaken n (d.setN Reg.HIF_RINGn_CTRL.EN n 0))) := Low.dspAbort (.refl _ _) (by decide)
  have ha : Reg.HIF_RINGn_CTRL.EN.reg.addr n < 0x100000 := by rw [ringCtrl_reg.addr]; omega
  rw [ringDisable_stops h0 h2, Dev.onN, (Low.ringGone (lo := 0x100000) (.refl _ _) (by decide)).getN ha,
    ringCtrl_reg.setN_other ringState_reg (by decide), hl.getN ha, ringCtrl_reg.abortTaken (by decide),
    Dev.getN_setN_same _ _ _ _ rfl]
  rfl

theorem ringDisable_taken : ((ringDisable n d).ring n).taken = [] := by
  rw [ringDisable_ring h0 h2]
  exact (WaitingStands.refl n _).dspAbort.taken.trans (abortTaken_taken n _)

theorem ringDisable_posted (h : toHost (d.ring n).cls = true) : ((ringDisable n d).ring n).posted = [] := by
  rw [ringDisable_ring h0 h2]
  exact (WaitingStands.refl n _).dspAbort.posted.trans (abortTaken_posted h)

/-- Without a wait or a timer of Dispatch the ring is the one whose descriptors were aborted. -/
theorem ringDisable_ring_idle (hw : d.dsp.waits = []) (ht : d.dsp.timed = []) :
    (ringDisable n d).ring n = (abortTaken n (d.setN Reg.HIF_RINGn_CTRL.EN n 0)).ring n := by
  rw [ringDisable_ring h0 h2, dspRingEnd, dspAbort_idle (by rw [abortTaken_dsp]; exact hw) (by rw [abortTaken_dsp]; exact ht)]
  rfl
end

theorem ringStopped_done (h : ringState d n = 2) (hs : (d.ring n).started = []) (ho : (d.ring n).owed = []) :
    ringStopped n d = (d.setRing n default).setN Reg.HIF_RINGn_STAT.STATE n 0 := if_pos (by simp [h, hs, ho])

theorem ringStopped_busy (h : ringState d n ≠ 2 ∨ (d.ring n).started ≠ [] ∨ (d.ring n).owed ≠ []) : ringStopped n d = d :=
  if_neg (by
    simp only [List.isEmpty_iff]
    rintro ⟨h1, h2, h3⟩
    rcases h with h | h | h
    · exact h h1
    · exact h h2
    · exact h h3)

theorem disable_rings :
    (∀ (s : State) (n : Nat), 256 ≤ n → exec (.ringDisable n) s = .next (s.after s.dev)) ∧
  (∀ (s : State) (n : Nat), n < 256 → s.dev.up islHst = true → ringState s.dev n = 0 ∨ ringState s.dev n = 2 →
    exec (.ringDisable n) s = .next (s.after (s.dev.setN Reg.HIF_RINGn_CTRL.EN n 0))) ∧
  (∀ (s : State) (n : Nat), n < 256 → s.dev.up islHst = true → ringState s.dev n ≠ 0 → ringState s.dev n ≠ 2 →
    ∃ t, exec (.ringDisable n) s = .next t ∧ ringState t.dev n = 2 ∧ t.dev.onN Reg.HIF_RINGn_CTRL.EN n = false ∧
      (t.dev.ring n).taken = [] ∧
      (toHost (s.dev.ring n).cls = false → s.dev.dsp.waits = [] → s.dev.dsp.timed = [] →
        (t.dev.ring n).started = (s.dev.ring n).started ∧
        (t.dev.ring n).owed = (s.dev.ring n).owed ++
          (s.dev.ring n).taken.map (fun h => owedOf (s.dev.ring n).cls h.idx h.words stAborted 0 [])) ∧
      (toHost (s.dev.ring n).cls = true → (t.dev.ring n).posted = [] ∧
        (s.dev.adc.diag = [] → s.dev.dsp.waits = [] → s.dev.dsp.timed = [] → (t.dev.ring n).owed = (s.dev.ring n).owed))) ∧
  (∀ (s : State) (n : Nat), ringState s.dev n = 2 → (s.dev.ring n).started = [] → (s.dev.ring n).owed = [] → n < 256 →
    ∃ t, exec (.ringStopped n) s = .next t ∧ ringState t.dev n = 0 ∧ t.dev.ring n = default ∧
      ∀ m, m ≠ n → t.dev.ring m = s.dev.ring m) ∧
  (∀ (s : State) (n : Nat), ringState s.dev n ≠ 2 ∨ (s.dev.ring n).started ≠ [] ∨ (s.dev.ring n).owed ≠ [] →
    exec (.ringStopped n) s = .next (s.after s.dev)) := by
  refine ⟨fun s n hn => ?_, fun s n hn hu h => ?_, fun s n hn hu h0 h2 => ?_, fun s n h2 hs ho hn => ?_, fun s n h => ?_⟩
  · rw [exec_ringDisable, if_neg (by omega)]
  · rw [exec_ringDisable_up hn hu, ringDisable_off h]
  · rw [exec_ringDisable_up hn hu]
    refine ⟨_, rfl, ?_, ?_, ?_, fun hc hw ht => ?_, fun hc => ⟨?_, fun hd hw ht => ?_⟩⟩
    · rw [ringState_after _ _ hn, ringDisable_state h0 h2 hn]
    · rw [ringEn_after _ _ hn, ringDisable_en h0 h2 hn]
    · rw [after_ring, ringDisable_taken h0 h2]
    · have hc' : toHost ((s.dev.setN Reg.HIF_RINGn_CTRL.EN n 0).ring n).cls = false := hc
      rw [after_ring, ringDisable_ring_idle h0 h2 hw ht, abortTaken_fromHost hc', ring_setRing]
      exact ⟨rfl, rfl⟩
    · rw [after_ring, ringDisable_posted h0 h2 hc]
    · have hc' : toHost ((s.dev.setN Reg.HIF_RINGn_CTRL.EN n 0).ring n).cls = true := hc
      have hd' : (s.dev.setN Reg.HIF_RINGn_CTRL.EN n 0).adc.diag = [] := hd
      rw [after_ring, ringDisable_ring_idle h0 h2 hw ht, abortTaken_toHost hc', ring_setRing, entryAborted_idle hd']
      rfl
  · rw [exec_ringStopped, ringStopped_done h2 hs ho]
    refine ⟨_, rfl, ?_, ?_, fun m hm => ?_⟩
    · rw [ringState_after _ _ hn, ringState, Dev.getN_setN_same _ _ _ _ rfl]
      rfl
    · rw [after_ring]
      exact ring_setRing _ _ _
    · rw [after_ring]
      exact ring_setRing_other _ hm _
  · rw [exec_ringStopped, ringStopped_busy h]

/-! ## Doorbells (R464 to R467, R634) -/

theorem exec_doorbell_up {ofs size v : Nat} {ds : List DescWords} (h : s.dev.up islHst = true) :
    exec (.doorbell ofs size v ds) s = .next (s.after (bar2Write s.time ofs size v ds s.dev)) := by
  rw [exec_doorbell, if_pos h]

theorem bar2Write_bad {ofs size v : Nat} {ds : List DescWords}
    (h : 0x7FF < ofs ∨ ¬ ((size = 8 ∧ ofs % 8 = 0) ∨ (size = 4 ∧ ofs % 4 = 0))) :
    bar2Write t ofs size v ds d = (d.sat Reg.HIF_CNT_DBX.N).cause intHif 0 0 0 := by
  unfold bar2Write
  dsimp only
  split
  · rfl
  · rw [if_neg (by omega), if_neg (by omega), if_neg (by omega)]
    rfl

section
variable {ofs v : Nat} {ds : List DescWords} (ho : ofs ≤ 0x7FF)
include ho

theorem bar2Write_both (h8 : ofs % 8 = 0) :
    bar2Write t ofs 8 v ds d = doorbell t (ofs / 8) (some (v % 2 ^ 32)) (some (v / 2 ^ 32 % 2 ^ 32)) ds d := by
  unfold bar2Write
  dsimp only
  rw [if_neg (by omega), if_pos ⟨rfl, h8⟩]

theorem bar2Write_prod (h8 : ofs % 8 = 0) :
    bar2Write t ofs 4 v ds d = doorbell t (ofs / 8) (some (v % 2 ^ 32)) none ds d := by
  unfold bar2Write
  dsimp only
  rw [if_neg (by omega), if_neg (by omega), if_pos ⟨rfl, h8⟩]

theorem bar2Write_ccons (h8 : ofs % 8 = 4) :
    bar2Write t ofs 4 v ds d = doorbell t (ofs / 8) none (some (v % 2 ^ 32)) ds d := by
  unfold bar2Write
  dsimp only
  rw [if_neg (by omega), if_neg (by omega), if_neg (by omega), if_pos ⟨rfl, h8⟩]
end

/-- May PROD and CCONS move to these values (R464)? -/
def RingMoves (d : Dev) (n p c : Nat) : Prop :=
  ringState d n = 1 ∧ 0 ≤ sdiff (2 ^ 32) p (d.ring n).prod ∧
    (p + 2 ^ 32 - d.getN Reg.HIF_RINGn_DCONS.N n) % 2 ^ 32 ≤ ringSize (d.ring n) ∧
    0 ≤ sdiff (2 ^ 32) c (d.ring n).ccons ∧ sdiff (2 ^ 32) c (d.getN Reg.HIF_RINGn_CPROD.N n) ≤ 0

section
variable {prod ccons : Option Nat} {p c : Nat} {ds : List DescWords} (hp : prod.getD (d.ring n).prod % 2 ^ 32 = p)
  (hc : ccons.getD (d.ring n).ccons % 2 ^ 32 = c)
include hp hc

theorem doorbell_taken (h : RingMoves d n p c) :
    doorbell t n prod ccons ds d = takeDescs t n ds (d.setRing n { d.ring n with prod := p, ccons := c }) := by
  subst hp hc
  obtain ⟨h1, h2, h3, h4, h5⟩ := h
  refine if_neg ?_
  rintro (h | h | h | h | h)
  · exact h h1
  · exact absurd h2 (Int.not_le.mpr h)
  · exact absurd h3 (Nat.not_le.mpr h)
  · exact absurd h4 (Int.not_le.mpr h)
  · exact absurd h5 (Int.not_le.mpr h)

theorem doorbell_ignored (h : ringState d n ≠ 1 ∨ sdiff (2 ^ 32) p (d.ring n).prod < 0 ∨
      ringSize (d.ring n) < (p + 2 ^ 32 - d.getN Reg.HIF_RINGn_DCONS.N n) % 2 ^ 32 ∨
      sdiff (2 ^ 32) c (d.ring n).ccons < 0 ∨ 0 < sdiff (2 ^ 32) c (d.getN Reg.HIF_RINGn_CPROD.N n)) :
    doorbell t n prod ccons ds d =
      ((d.sat Reg.HIF_CNT_DBX.N).cause intHif 0 n 0).setN Reg.HIF_RINGn_STAT.DB_BAD n 1 := by
  subst hp hc
  exact if_pos h
end

theorem takeDescs_stops {ws : DescWords} {rest : List DescWords}
    (h : ringRuns d n = false ∨ hifQuiet d = true ∨ nextDesc d n = (d.ring n).prod) : takeDescs t n (ws :: rest) d = d := by
  unfold takeDescs
  refine if_pos ?_
  rcases h with h | h | h <;> simp [h]

/-- A descriptor that the device reads on a host-to-device ring: DCONS passes it. -/
theorem takeDescs_cons {ws : DescWords} {rest : List DescWords} (hr : ringRuns d n = true) (hq : hifQuiet d = false)
    (hk : nextDesc d n ≠ (d.ring n).prod) (hc : toHost (d.ring n).cls = false) :
    takeDescs t n (ws :: rest) d = takeDescs t n rest (
      if descBad (d.ring n).cls ws then
        owe n (owedOf (d.ring n).cls (nextDesc d n) ws stMalformed 0 []) (d.setN Reg.HIF_RINGn_DCONS.N n (nextDesc d n + 1))
      else if (d.ring n).cls = clsMbox ∧ 0x10 ≤ dOpcode ws ∧ !xaornUp d then
        owe n (owedOf (d.ring n).cls (nextDesc d n) ws (mboxStatus d) 0 [])
          (d.setN Reg.HIF_RINGn_DCONS.N n (nextDesc d n + 1))
      else (d.setN Reg.HIF_RINGn_DCONS.N n (nextDesc d n + 1)).setRing n { d.ring n with
        taken := (d.ring n).taken ++ [⟨nextDesc d n, ws, false⟩],
        headSince := if (d.ring n).taken.isEmpty then t.loc else (d.ring n).headSince }) := by
  rw [takeDescs]
  dsimp only
  rw [if_neg (by simp [hr, hq, hk]), if_neg (by simp [hc])]

theorem ringRuns_iff : ringRuns d n = true ↔ ringState d n = 1 := beq_iff_eq

/-- The device after the first descriptor of a ring has been read. -/
def firstTaken (t : Time) (n : Nat) (ws : DescWords) (d : Dev) : Dev :=
  takeDescs t n [ws] (d.setRing n { d.ring n with prod := 1, ccons := 0 })

theorem firstTaken_nextDesc (hd : d.getN Reg.HIF_RINGn_DCONS.N n = 0) (hc : toHost (d.ring n).cls = false) (r : Ring)
     (hr : r.cls = (d.ring n).cls) : nextDesc (d.setRing n r) n = 0 := by
  unfold nextDesc
  dsimp only
  rw [ring_setRing, hr, if_neg (by simp [hc]), Dev.setRing_getN, hd]

section
variable {ws : DescWords} (hs : ringState d n = 1) (hq : hifQuiet d = false) (hd : d.getN Reg.HIF_RINGn_DCONS.N n = 0)
  (hc : toHost (d.ring n).cls = false)
include hs hq hd hc

theorem firstTaken_eq :
    firstTaken t n ws d =
      if descBad (d.ring n).cls ws then
        owe n (owedOf (d.ring n).cls 0 ws stMalformed 0 [])
          ((d.setRing n { d.ring n with prod := 1, ccons := 0 }).setN Reg.HIF_RINGn_DCONS.N n 1)
      else if (d.ring n).cls = clsMbox ∧ 0x10 ≤ dOpcode ws ∧ !xaornUp (d.setRing n { d.ring n with prod := 1, ccons := 0 }) then
        owe n (owedOf (d.ring n).cls 0 ws (mboxStatus (d.setRing n { d.ring n with prod := 1, ccons := 0 })) 0 [])
          ((d.setRing n { d.ring n with prod := 1, ccons := 0 }).setN Reg.HIF_RINGn_DCONS.N n 1)
      else ((d.setRing n { d.ring n with prod := 1, ccons := 0 }).setN Reg.HIF_RINGn_DCONS.N n 1).setRing n { d.ring n with
        prod := 1, ccons := 0, taken := (d.ring n).taken ++ [⟨0, ws, false⟩],
        headSince := if (d.ring n).taken.isEmpty then t.loc else (d.ring n).headSince } := by
  have hk := firstTaken_nextDesc hd hc { d.ring n with prod := 1, ccons := 0 } rfl
  have hr : ringRuns (d.setRing n { d.ring n with prod := 1, ccons := 0 }) n = true := ringRuns_iff.mpr hs
  have hq' : hifQuiet (d.setRing n { d.ring n with prod := 1, ccons := 0 }) = false := hq
  rw [firstTaken, takeDescs_cons hr hq' (by rw [hk, ring_setRing]; exact Nat.zero_ne_one) (by rw [ring_setRing]; exact hc), hk, ring_setRing]
  rfl

theorem firstTaken_dcons : (firstTaken t n ws d).getN Reg.HIF_RINGn_DCONS.N n = 1 := by
  rw [firstTaken_eq hs hq hd hc]
  split
  · exact Dev.getN_setN_same _ _ _ _ rfl
  · split <;> exact Dev.getN_setN_same _ _ _ _ rfl

theorem firstTaken_prod : ((firstTaken t n ws d).ring n).prod = 1 := by
  rw [firstTaken_eq hs hq hd hc]
  split
  · rw [owe_ring]
    exact congrArg Ring.prod (ring_setRing d n _)
  · split
    · rw [owe_ring]
      exact congrArg Ring.prod (ring_setRing d n _)
    · rw [ring_setRing]

theorem firstTaken_bad (hb : descBad (d.ring n).cls ws = true) (ht : (d.ring n).taken = []) :
    ((firstTaken t n ws d).ring n).taken = [] ∧ ((firstTaken t n ws d).ring n).owed =
      (d.ring n).owed ++ [owedOf (d.ring n).cls 0 ws stMalformed 0 []] := by
  have h1 : ((d.setRing n { d.ring n with prod := 1, ccons := 0 }).setN Reg.HIF_RINGn_DCONS.N n 1).ring n =
    { d.ring n with prod := 1, ccons := 0 } := ring_setRing d n _
  rw [firstTaken_eq hs hq hd hc, if_pos hb, owe_ring, h1]
  exact ⟨ht, rfl⟩

theorem firstTaken_good (hb : descBad (d.ring n).cls ws = false) (hm : (d.ring n).cls ≠ clsMbox) (ht : (d.ring n).taken = []) :
    ((firstTaken t n ws d).ring n).taken = [⟨0, ws, false⟩] ∧ ((firstTaken t n ws d).ring n).owed = (d.ring n).owed := by
  rw [firstTaken_eq hs hq hd hc, if_neg (by simp [hb]), if_neg (fun h => hm h.1), ring_setRing, ht]
  exact ⟨rfl, rfl⟩
end

theorem ring_doorbells :
    (∀ (s : State) (ofs size v : Nat) (ds : List DescWords), s.dev.up islHst = false →
    exec (.doorbell ofs size v ds) s = .next (s.after s.dev)) ∧
  (∀ (s : State) (ofs size v : Nat) (ds : List DescWords), s.dev.up islHst = true →
    (0x7FF < ofs ∨ ¬ ((size = 8 ∧ ofs % 8 = 0) ∨ (size = 4 ∧ ofs % 4 = 0)) →
      exec (.doorbell ofs size v ds) s = .next (s.after ((s.dev.sat Reg.HIF_CNT_DBX.N).cause intHif 0 0 0))) ∧
    (ofs ≤ 0x7FF → size = 8 → ofs % 8 = 0 → exec (.doorbell ofs size v ds) s =
      .next (s.after (doorbell s.time (ofs / 8) (some (v % 2 ^ 32)) (some (v / 2 ^ 32 % 2 ^ 32)) ds s.dev))) ∧
    (ofs ≤ 0x7FF → size = 4 → ofs % 8 = 0 → exec (.doorbell ofs size v ds) s =
      .next (s.after (doorbell s.time (ofs / 8) (some (v % 2 ^ 32)) none ds s.dev))) ∧
    (ofs ≤ 0x7FF → size = 4 → ofs % 8 = 4 → exec (.doorbell ofs size v ds) s =
      .next (s.after (doorbell s.time (ofs / 8) none (some (v % 2 ^ 32)) ds s.dev)))) ∧
  (∀ (t : Time) (d : Dev) (n p c : Nat) (ds : List DescWords), p < 2 ^ 32 → c < 2 ^ 32 →
    (ringState d n ≠ 1 ∨ sdiff (2 ^ 32) p (d.ring n).prod < 0 ∨
        ringSize (d.ring n) < (p + 2 ^ 32 - d.getN Reg.HIF_RINGn_DCONS.N n) % 2 ^ 32 ∨
        sdiff (2 ^ 32) c (d.ring n).ccons < 0 ∨ 0 < sdiff (2 ^ 32) c (d.getN Reg.HIF_RINGn_CPROD.N n) →
      doorbell t n (some p) (some c) ds d =
        ((d.sat Reg.HIF_CNT_DBX.N).cause intHif 0 n 0).setN Reg.HIF_RINGn_STAT.DB_BAD n 1) ∧
    (ringState d n = 1 → 0 ≤ sdiff (2 ^ 32) p (d.ring n).prod →
      (p + 2 ^ 32 - d.getN Reg.HIF_RINGn_DCONS.N n) % 2 ^ 32 ≤ ringSize (d.ring n) →
      0 ≤ sdiff (2 ^ 32) c (d.ring n).ccons → sdiff (2 ^ 32) c (d.getN Reg.HIF_RINGn_CPROD.N n) ≤ 0 →
      doorbell t n (some p) (some c) ds d = takeDescs t n ds (d.setRing n { d.ring n with prod := p, ccons := c }))) ∧
  (∀ (t : Time) (d : Dev) (n : Nat) (ws : DescWords) (rest : List DescWords),
    ringRuns d n = false ∨ hifQuiet d = true ∨ nextDesc d n = (d.ring n).prod → takeDescs t n (ws :: rest) d = d) ∧
  (∀ (s : State) (n v : Nat) (ws : DescWords), s.dev.up islHst = true → n < 256 → ringState s.dev n = 1 →
    hifQuiet s.dev = false → (s.dev.ring n).prod = 0 → s.dev.getN Reg.HIF_RINGn_DCONS.N n = 0 → v = 1 →
    toHost (s.dev.ring n).cls = false → (s.dev.ring n).taken = [] → (s.dev.ring n).ccons = 0 →
    s.dev.getN Reg.HIF_RINGn_CPROD.N n = 0 →
    ∃ t, exec (.doorbell (8 * n) 4 v [ws]) s = .next t ∧ (t.dev.ring n).prod = 1 ∧
      t.dev.getN Reg.HIF_RINGn_DCONS.N n = 1 ∧
      (descBad (s.dev.ring n).cls ws = true → (t.dev.ring n).taken = [] ∧
        (t.dev.ring n).owed = (s.dev.ring n).owed ++ [owedOf (s.dev.ring n).cls 0 ws stMalformed 0 []]) ∧
      (descBad (s.dev.ring n).cls ws = false → (s.dev.ring n).cls ≠ clsMbox →
        (t.dev.ring n).taken = [⟨0, ws, false⟩] ∧ (t.dev.ring n).owed = (s.dev.ring n).owed)) ∧
  (∀ (s : State) (n prod ccons : Nat) (ds : List DescWords), n < 256 → ringRuns s.dev n = true →
    (s.dev.ring n).poll = true → s.dev.get Reg.HIF_POLL_NS.NS ≠ 0 →
    max 250 (s.dev.get Reg.HIF_POLL_NS.NS) ≤ s.time.loc - (s.dev.ring n).lastPoll →
    exec (.ringPoll n prod ccons ds) s = .next (s.after (doorbell s.time n (some prod) (some ccons) ds
      (s.dev.setRing n { s.dev.ring n with lastPoll := s.time.loc })))) ∧
  (∀ (s : State) (n prod ccons : Nat) (ds : List DescWords), 256 ≤ n ∨ ringRuns s.dev n = false ∨
    (s.dev.ring n).poll = false ∨ s.dev.get Reg.HIF_POLL_NS.NS = 0 ∨
    s.time.loc < (s.dev.ring n).lastPoll + max 250 (s.dev.get Reg.HIF_POLL_NS.NS) →
    exec (.ringPoll n prod ccons ds) s = .next (s.after s.dev)) := by
  refine ⟨fun s ofs size v ds h => ?_, fun s ofs size v ds hu => ⟨fun h => ?_, fun h h4 h8 => ?_, fun h h4 h8 => ?_,
    fun h h4 h8 => ?_⟩, fun t d n p c ds hp hc => ⟨fun h => ?_, fun h1 h2 h3 h4 h5 => ?_⟩, fun t d n ws rest h =>
    takeDescs_stops h, fun s n v ws hu hn hs hq hp hd hv hc ht hcc hcp => ?_, fun s n prod ccons ds hn hr hp hz hl =>
    exec_ringPoll_due ⟨hn, hr, hp, hz, hl⟩, fun s n prod ccons ds h => exec_ringPoll_early ?_⟩
  · rw [exec_doorbell, if_neg (by simp [h])]
  · rw [exec_doorbell_up hu, bar2Write_bad h]
  · rw [exec_doorbell_up hu, h4, bar2Write_both h h8]
  · rw [exec_doorbell_up hu, h4, bar2Write_prod h h8]
  · rw [exec_doorbell_up hu, h4, bar2Write_ccons h h8]
  · exact doorbell_ignored (Nat.mod_eq_of_lt hp) (Nat.mod_eq_of_lt hc) h
  · exact doorbell_taken (Nat.mod_eq_of_lt hp) (Nat.mod_eq_of_lt hc) ⟨h1, h2, h3, h4, h5⟩
  · have hone : 1 ≤ ringSize (s.dev.ring n) := Nat.one_le_two_pow
    have hm : RingMoves s.dev n 1 0 := ⟨hs, by rw [hp]; decide, by rw [hd]; simpa using hone, by rw [hcc]; decide,
      by rw [hcp]; decide⟩
    have he : bar2Write s.time (8 * n) 4 v [ws] s.dev = firstTaken s.time n ws s.dev := by
      rw [bar2Write_prod (by omega) (by omega), Nat.mul_div_cancel_left n (by decide : 0 < 8),
        doorbell_taken (p := 1) (c := 0) (by rw [hv]; rfl) (by rw [hcc]; rfl) hm]
      rfl
    rw [exec_doorbell_up hu, he]
    refine ⟨_, rfl, ?_, ?_, fun hb => ?_, fun hb hm => ?_⟩
    · rw [after_ring, firstTaken_prod hs hq hd hc]
    · rw [ringDcons_reg.after _ _ hn, firstTaken_dcons hs hq hd hc]
    · rw [after_ring]
      exact firstTaken_bad hs hq hd hc hb ht
    · rw [after_ring]
      exact firstTaken_good hs hq hd hc hb hm ht
  · rintro ⟨h1, h2, h3, h4, h5⟩
    rcases h with h | h | h | h | h
    · omega
    · simp [h] at h2
    · simp [h] at h3
    · exact h4 h
    · omega

/-! ## Completions (R467 to R469, R478, R481, R483, R486) -/

/-- The completion of an owed descriptor in the ring's next slot. -/
def complOf (t : Time) (n : Nat) (o : Owed) (d : Dev) : Compl :=
  ⟨o.tag, o.status, 1 - (d.getN Reg.HIF_RINGn_CPROD.N n >>> (d.ring n).log2) % 2, o.more, o.idx % ringSize (d.ring n), o.len,
    t.st32, o.ext⟩

/-- The ring once an owed completion is written. -/
def ringPaid (t : Time) (o : Owed) (r : Ring) : Ring :=
  { r with
    owed := r.owed.erase o, fence := (if r.fence == some o.idx then none else r.fence),
    headSince := (if r.fence == some o.idx then t.loc else r.headSince) }

/-- The ring and its CPROD once the completion is written. -/
def complSlot (t : Time) (n : Nat) (o : Owed) (d : Dev) : Dev :=
  (d.setRing n (ringPaid t o (d.ring n))).setN Reg.HIF_RINGn_CPROD.N n (d.getN Reg.HIF_RINGn_CPROD.N n + 1)

/-- The completion and the control block stand in host memory. -/
def complSent (t : Time) (n : Nat) (o : Owed) (d : Dev) : Dev :=
  hostWrite (.writeBack
    (d.getN Reg.HIF_RINGn_CBA_LO.ADDR n * 64 + 2 ^ 32 * d.getN Reg.HIF_RINGn_CBA_HI.ADDR n)
    ((complSlot t n o d).getN Reg.HIF_RINGn_DCONS.N n) ((complSlot t n o d).getN Reg.HIF_RINGn_CPROD.N n) (d.ring n).drop)
    (hostWrite (.completion ((d.ring n).cbase + 32 * (d.getN Reg.HIF_RINGn_CPROD.N n % ringSize (d.ring n)))
      (complOf t n o d)) (complSlot t n o d))

/-- The completion's token advances (R481). -/
def tokenRaised (o : Owed) (d : Dev) : Dev :=
  match o.sig with
  | some tok => d.setN Reg.HIF_TOKk.VAL tok (d.getN Reg.HIF_TOKk.VAL tok + 1)
  | none => d

/-- The stamp that a completion carried leaves its queue (R142). -/
def stampFreed (n : Nat) (o : Owed) (d : Dev) : Dev :=
  match o.stampPort with
  | some p => freeStamp p (.desc n o.idx) d
  | none => d

/-- The reader's next record, once a buffer of it is completed. -/
def readerMoved (cls : Nat) (o : Owed) (d : Dev) : Dev :=
  if cls = clsLogs ∧ o.status = stOk then d.set Reg.LOG_RD_NEXT.SEQ (leVal (slice o.ext 4 4) + 1) else d

/-- The device before moderation. -/
def complWritten (t : Time) (n : Nat) (o : Owed) (d : Dev) : Dev :=
  readerMoved (d.ring n).cls o (stampFreed n o (tokenRaised o (complSent t n o d)))

theorem completionWrite_writes {o : Owed} (hq : hifQuiet d = false) (h0 : ringState d n ≠ 0)
    (hs : slotsUsed d n < ringSize (d.ring n)) (ho : nextOwed (d.ring n) = some o) :
    completionWrite t n d = moderate t n o.irq (complWritten t n o d) := by
  unfold completionWrite
  dsimp only
  rw [if_neg (by simp [hq, h0, hs]), ho]
  rfl

theorem completionWrite_waits (h : hifQuiet d = true ∨ ringSize (d.ring n) ≤ slotsUsed d n ∨ ringState d n = 0 ∨
    nextOwed (d.ring n) = none) : completionWrite t n d = d := by
  unfold completionWrite
  dsimp only
  split
  · rfl
  · next hc =>
    rcases h with h | h | h | h
    · exact absurd (by simp [h]) hc
    · exact absurd (by simp [h]) hc
    · exact absurd (by simp [h]) hc
    · rw [h]

/-! ### The rings and the writes through the stages -/

theorem tokenRaised_hif (o : Owed) (d : Dev) : (tokenRaised o d).hif = d.hif := by
  unfold tokenRaised
  split <;> rfl

theorem stampFreed_hif (n : Nat) (o : Owed) (d : Dev) : (stampFreed n o d).hif = d.hif := by
  unfold stampFreed
  split <;> rfl

theorem readerMoved_hif (c : Nat) (o : Owed) (d : Dev) : (readerMoved c o d).hif = d.hif := by
  unfold readerMoved
  split <;> rfl

theorem complWritten_hif (t : Time) (n : Nat) (o : Owed) (d : Dev) : (complWritten t n o d).hif = (complSent t n o d).hif := by
  rw [complWritten, readerMoved_hif, stampFreed_hif, tokenRaised_hif]

theorem complWritten_ring (t : Time) (n : Nat) (o : Owed) (d : Dev) :
    (complWritten t n o d).ring n = ringPaid t o (d.ring n) := by
  rw [Dev.ring, complWritten_hif]
  exact ring_setRing d n _

theorem complSlot_cprod (t : Time) (n : Nat) (o : Owed) (d : Dev) :
    (complSlot t n o d).getN Reg.HIF_RINGn_CPROD.N n = (d.getN Reg.HIF_RINGn_CPROD.N n + 1) % 2 ^ 32 :=
  Dev.getN_setN_same _ _ _ _ rfl

theorem complWritten_sent (t : Time) (n : Nat) (o : Owed) (d : Dev) :
    (complWritten t n o d).hif.sent = d.hif.sent ++
      [.completion ((d.ring n).cbase + 32 * (d.getN Reg.HIF_RINGn_CPROD.N n % ringSize (d.ring n))) (complOf t n o d),
        .writeBack (d.getN Reg.HIF_RINGn_CBA_LO.ADDR n * 64 + 2 ^ 32 * d.getN Reg.HIF_RINGn_CBA_HI.ADDR n)
          (d.getN Reg.HIF_RINGn_DCONS.N n) ((d.getN Reg.HIF_RINGn_CPROD.N n + 1) % 2 ^ 32) (d.ring n).drop] := by
  have hd : (complSlot t n o d).getN Reg.HIF_RINGn_DCONS.N n = d.getN Reg.HIF_RINGn_DCONS.N n :=
    ringDcons_reg.setN_other ringCprod_reg (by decide) _ _ _ _
  rw [complWritten_hif, complSent, hostWrite_sent, hostWrite_sent, hd, complSlot_cprod, List.append_assoc]
  rfl

/-- A register of the host interface through the freed stamp and the reader's next record. -/
theorem readerMoved_stampFreed_getN {f : Field} {m c : Nat} {o : Owed} (hp : ∀ p, o.stampPort = some p → p < 16)
    (hl : 0x60000 ≤ f.reg.addr m) (hh : f.reg.addr m < 0x120000) (n : Nat) (d : Dev) :
    (readerMoved c o (stampFreed n o d)).getN f m = d.getN f m := by
  have hs : (stampFreed n o d).getN f m = d.getN f m := by
    unfold stampFreed
    split
    · next p h =>
      have hp' := hp p h
      refine Dev.getN_setN_addr _ _ _ _ _ _ ?_
      rw [show Reg.FP_TS_CNT.PENDING.reg.addr p = _ from RegAt.addr_single rfl p]
      omega
    · rfl
  unfold readerMoved
  split
  · rw [Dev.set, Dev.getN_setN_addr _ _ _ _ _ _ ?_, hs]
    show _ ≠ 0x12003C
    omega
  · exact hs

theorem token_addr (k : Nat) : Reg.HIF_TOKk.VAL.reg.addr k = 0xF0100 + k * 4 := RegAt.addr_single rfl k

theorem complWritten_cprod {o : Owed} (hn : n < 256) (hk : ∀ k, o.sig = some k → k < 64)
    (hp : ∀ p, o.stampPort = some p → p < 16) :
    (complWritten t n o d).getN Reg.HIF_RINGn_CPROD.N n = (d.getN Reg.HIF_RINGn_CPROD.N n + 1) % 2 ^ 32 := by
  have ht : (tokenRaised o (complSent t n o d)).getN Reg.HIF_RINGn_CPROD.N n =
      (complSent t n o d).getN Reg.HIF_RINGn_CPROD.N n := by
    unfold tokenRaised
    split
    · next k h =>
      have := hk k h
      exact ringCprod_reg.setN_low (by rw [token_addr]; omega) _ _ _
    · rfl
  rw [complWritten, readerMoved_stampFreed_getN hp (by rw [ringCprod_reg.addr]; omega) (by rw [ringCprod_reg.addr]; omega), ht]
  exact complSlot_cprod t n o d

theorem complWritten_token {o : Owed} {k : Nat} (hk : k < 64) (hp : ∀ p, o.stampPort = some p → p < 16) :
    (complWritten t n o d).getN Reg.HIF_TOKk.VAL k =
      if o.sig = some k then (d.getN Reg.HIF_TOKk.VAL k + 1) % 2 ^ 16 else d.getN Reg.HIF_TOKk.VAL k := by
  have hs (j : Nat) (hj : j < 64) : (complSent t n o d).getN Reg.HIF_TOKk.VAL j = d.getN Reg.HIF_TOKk.VAL j :=
    Dev.getN_setN_addr _ _ _ _ _ _ (by rw [token_addr, ringCprod_reg.addr]; omega)
  rw [complWritten, readerMoved_stampFreed_getN hp (by rw [token_addr]; omega) (by rw [token_addr]; omega)]
  unfold tokenRaised
  split
  · next tok h =>
    by_cases hj : tok = k
    · subst hj
      rw [if_pos h, Dev.getN_setN_same _ _ _ _ rfl, hs tok hk]
      rfl
    · rw [if_neg (by rw [h]; simpa using hj), Dev.getN_setN_addr _ _ _ _ _ _ (by rw [token_addr, token_addr]; omega), hs k hk]
  · next h => rw [if_neg (by rw [h]; simp), hs k hk]

/-! ### Moderation (R486) -/

theorem moderate_off {irq : Bool} (h : (d.ring n).irqEn = false) : moderate t n irq d = d := by
  unfold moderate
  dsimp only
  rw [if_pos (by simp [h])]

theorem moderate_now {irq : Bool} (h : (d.ring n).irqEn = true)
    (hi : irq = true ∨ max 1 (d.ring n).modCnt ≤ (d.ring n).modCount + 1) :
    moderate t n irq d = (d.setRing n { d.ring n with modCount := 0, modSince := none }).request (d.ring n).vec := by
  unfold moderate
  dsimp only
  rw [if_neg (by simp [h]), if_pos (by simpa using hi)]

theorem moderate_later {irq : Bool} (h : (d.ring n).irqEn = true)
    (hi : ¬ (irq = true ∨ max 1 (d.ring n).modCnt ≤ (d.ring n).modCount + 1)) :
    moderate t n irq d = d.setRing n { d.ring n with
      modCount := (d.ring n).modCount + 1, modSince := some ((d.ring n).modSince.getD t.loc) } := by
  unfold moderate
  dsimp only
  rw [if_neg (by simp [h]), if_neg (by simpa using hi)]

theorem Dev.request_ring (d : Dev) (v n : Nat) : (d.request v).ring n = d.ring n := by
  rw [Dev.ring, Dev.request_rings, ← Dev.ring]

theorem Dev.request_getN (d : Dev) (v : Nat) (f : Field) (i : Nat) : (d.request v).getN f i = d.getN f i := by
  unfold Dev.request
  split <;> rfl

theorem moderate_getN (irq : Bool) (f : Field) (i : Nat) : (moderate t n irq d).getN f i = d.getN f i := by
  unfold moderate
  dsimp only
  split
  · rfl
  · split
    · rw [Dev.request_getN, Dev.setRing_getN]
    · rw [Dev.setRing_getN]

theorem moderate_sent (irq : Bool) : (moderate t n irq d).hif.sent = d.hif.sent := by
  unfold moderate
  dsimp only
  split
  · rfl
  · split
    · rw [Dev.request_sent]
      rfl
    · rfl

/-- Moderation changes of a ring its counts alone. -/
theorem moderate_ring (irq : Bool) : ∃ c f, (moderate t n irq d).ring n = { d.ring n with modCount := c, modSince := f } := by
  unfold moderate
  dsimp only
  split
  · exact ⟨_, _, rfl⟩
  · split
    · exact ⟨_, _, by rw [Dev.request_ring, ring_setRing]⟩
    · exact ⟨_, _, by rw [ring_setRing]⟩

theorem write_completions :
    (∀ (s : State) (n : Nat) (o : Owed), n < 256 → hifQuiet s.dev = false → ringState s.dev n ≠ 0 →
    slotsUsed s.dev n < ringSize (s.dev.ring n) → nextOwed (s.dev.ring n) = some o →
    (∀ k, o.sig = some k → k < 64) → (∀ p, o.stampPort = some p → p < 16) →
    ∃ t c, exec (.completionWrite n) s = .next t ∧ (t.dev.ring n).owed = (s.dev.ring n).owed.erase o ∧
      c.tag = o.tag ∧ c.status = o.status ∧ c.len = o.len ∧ c.more = o.more ∧ c.ext = o.ext ∧ c.t = s.time.st32 ∧
      c.didx = o.idx % ringSize (s.dev.ring n) ∧
      c.phase = 1 - (s.dev.getN Reg.HIF_RINGn_CPROD.N n >>> (s.dev.ring n).log2) % 2 ∧
      t.dev.hif.sent = s.dev.hif.sent ++ [.completion ((s.dev.ring n).cbase +
        32 * (s.dev.getN Reg.HIF_RINGn_CPROD.N n % ringSize (s.dev.ring n))) c,
        .writeBack (s.dev.getN Reg.HIF_RINGn_CBA_LO.ADDR n * 64 + 2 ^ 32 * s.dev.getN Reg.HIF_RINGn_CBA_HI.ADDR n)
          (s.dev.getN Reg.HIF_RINGn_DCONS.N n) ((s.dev.getN Reg.HIF_RINGn_CPROD.N n + 1) % 2 ^ 32) (s.dev.ring n).drop] ∧
      t.dev.getN Reg.HIF_RINGn_CPROD.N n = (s.dev.getN Reg.HIF_RINGn_CPROD.N n + 1) % 2 ^ 32 ∧
      (t.dev.ring n).fence = (if (s.dev.ring n).fence = some o.idx then none else (s.dev.ring n).fence) ∧
      (∀ k, k < 64 → t.dev.getN Reg.HIF_TOKk.VAL k =
        if o.sig = some k then (s.dev.getN Reg.HIF_TOKk.VAL k + 1) % 2 ^ 16 else s.dev.getN Reg.HIF_TOKk.VAL k) ∧
      ((s.dev.ring n).irqEn = true → o.irq = true ∨ max 1 (s.dev.ring n).modCnt ≤ (s.dev.ring n).modCount + 1 →
        (s.dev.ring n).vec ∈ t.dev.hif.msgReq ∧ (t.dev.ring n).modCount = 0) ∧
      ((s.dev.ring n).irqEn = true → o.irq = false → (s.dev.ring n).modCount + 1 < (s.dev.ring n).modCnt →
        (t.dev.ring n).modCount = (s.dev.ring n).modCount + 1)) ∧
  (∀ (s : State) (n : Nat), hifQuiet s.dev = true ∨ ringSize (s.dev.ring n) ≤ slotsUsed s.dev n ∨ 256 ≤ n ∨
      ringState s.dev n = 0 ∨ nextOwed (s.dev.ring n) = none →
    exec (.completionWrite n) s = .next (s.after s.dev)) := by
  refine ⟨fun s n o hn hq h0 hs ho hk hp => ?_, fun s n h => ?_⟩
  · have hr := complWritten_ring s.time n o s.dev
    obtain ⟨c, f, hm⟩ := moderate_ring (d := complWritten s.time n o s.dev) (t := s.time) (n := n) o.irq
    rw [exec_completionWrite, if_pos hn, completionWrite_writes hq h0 hs ho]
    refine ⟨_, complOf s.time n o s.dev, rfl, ?_, rfl, rfl, rfl, rfl, rfl, rfl, rfl, rfl, ?_, ?_, ?_, fun k hk' => ?_,
      fun hi hnow => ⟨after_msgReq ?_, ?_⟩, fun hi hirq hl => ?_⟩
    · rw [after_ring, hm, hr]
      rfl
    · rw [after_sent, moderate_sent, complWritten_sent]
    · rw [ringCprod_reg.after _ _ hn, moderate_getN, complWritten_cprod hn hk hp]
    · rw [after_ring, hm, hr]
      simp only [ringPaid, beq_iff_eq]
    · rw [after_getN _ _ _ _ (notIntake_of_lt (by rw [token_addr]; omega)), moderate_getN, complWritten_token hk' hp]
    · rw [moderate_now (by rw [hr]; exact hi) (by rw [hr]; exact hnow), hr]
      exact Dev.request_mem _ _
    · rw [after_ring, moderate_now (by rw [hr]; exact hi) (by rw [hr]; exact hnow), Dev.request_ring, ring_setRing]
    · have hl' : ¬ (o.irq = true ∨ max 1 (s.dev.ring n).modCnt ≤ (s.dev.ring n).modCount + 1) := by
        rw [hirq]
        simp only [Bool.false_eq_true, false_or]
        omega
      rw [after_ring, moderate_later (by rw [hr]; exact hi) (by rw [hr]; exact hl'), ring_setRing, hr]
      rfl
  · rw [exec_completionWrite]
    split
    · next hn => rw [completionWrite_waits (by
        rcases h with h | h | h | h | h
        · exact .inl h
        · exact .inr (.inl h)
        · omega
        · exact .inr (.inr (.inl h))
        · exact .inr (.inr (.inr h)))]
    · rfl

/-! ## The heads of rings that need no engine (R470 to R472, R480 to R483) -/

theorem headReady_fenced (h : (d.ring n).fence.isSome = true) : headReady d n = none := by
  unfold headReady
  rw [if_pos (by simp [h])]

theorem descNop_head {h : Taken} (hh : headReady d n = some h) :
    descNop t n d = if n < 256 ∧ (!toHost (d.ring n).cls) = true ∧ dOpcode h.words = 0 then completeHead t n h stOk 0 [] d
      else d := by
  unfold descNop
  rw [hh]

theorem descNop_none (hh : headReady d n = none) : descNop t n d = d := by
  unfold descNop
  rw [hh]

/-- The fence at the head has completed and holds the descriptors behind it. -/
def fenceSet (t : Time) (n : Nat) (h : Taken) (d : Dev) : Dev :=
  (completeHead t n h stOk 0 [] d).setRing n { (completeHead t n h stOk 0 [] d).ring n with fence := some h.idx }

theorem descFence_head {h : Taken} (hh : headReady d n = some h) :
    descFence t n d = if n < 256 ∧ (!toHost (d.ring n).cls) = true ∧ dOpcode h.words = 1 ∧ (d.ring n).started.isEmpty ∧
      (d.ring n).owed.isEmpty then fenceSet t n h d else d := by
  unfold descFence
  dsimp only
  rw [hh]
  rfl

theorem descFence_none (hh : headReady d n = none) : descFence t n d = d := by
  unfold descFence
  dsimp only
  rw [hh]

theorem completeHead_ring (h : Taken) (st len : Nat) (ext : List Byte) :
    (completeHead t n h st len ext d).ring n = { d.ring n with
      taken := (d.ring n).taken.tail, headSince := t.loc,
      owed := (d.ring n).owed ++ [owedOf (d.ring n).cls h.idx h.words st len ext] } := by
  unfold completeHead popHead
  dsimp only
  rw [owe_ring, ring_setRing]

theorem tokenWaitStart_head {h : Taken} {rest : List Taken} (hh : (d.ring n).taken = h :: rest) :
    tokenWaitStart n d = if n < 256 ∧ ringRuns d n = true ∧ (!toHost (d.ring n).cls) = true ∧ dWait h.words = true ∧
      tokenReached d (dWaitTok h.words) (dWaitVal h.words) = true then
      d.setRing n { d.ring n with taken := { h with released := true } :: rest } else d := by
  unfold tokenWaitStart
  dsimp only
  rw [hh]

theorem tokenWaitStart_empty (hh : (d.ring n).taken = []) : tokenWaitStart n d = d := by
  unfold tokenWaitStart
  dsimp only
  rw [hh]

/-- The head of a running ring waits on a token. -/
def TokenHead (d : Dev) (n : Nat) (h : Taken) : Prop :=
  n < 256 ∧ ringRuns d n = true ∧ toHost (d.ring n).cls = false ∧ dWait h.words = true

/-- The wait of the head on its token is too long (R482). -/
def WaitsTooLong (t : Time) (d : Dev) (n : Nat) (h : Taken) : Prop :=
  h.released = false ∧ (d.ring n).fence = none ∧ tokenReached d (dWaitTok h.words) (dWaitVal h.words) = false ∧
    d.get Reg.HIF_FENCE.TMO ≠ 0 ∧ (d.ring n).headSince + d.get Reg.HIF_FENCE.TMO * 1000000 < t.loc

theorem fenceTimeout_head {h : Taken} {rest : List Taken} (hh : (d.ring n).taken = h :: rest) :
    fenceTimeout t n d = if n < 256 ∧ ringRuns d n ∧ !toHost (d.ring n).cls ∧ dWait h.words ∧ !h.released ∧
      (d.ring n).fence.isNone ∧ !tokenReached d (dWaitTok h.words) (dWaitVal h.words) ∧ d.get Reg.HIF_FENCE.TMO ≠ 0 ∧
      d.get Reg.HIF_FENCE.TMO * 1000000 < t.loc - (d.ring n).headSince then
      (completeHead t n h stLimit 0 [] d).cause intHif 1 n stLimit else d := by
  unfold fenceTimeout
  dsimp only
  rw [hh]

theorem fenceTimeout_over {h : Taken} {rest : List Taken} (hh : (d.ring n).taken = h :: rest) (hk : TokenHead d n h)
    (hw : WaitsTooLong t d n h) : fenceTimeout t n d = (completeHead t n h stLimit 0 [] d).cause intHif 1 n stLimit := by
  obtain ⟨hn, hr, hc, hd⟩ := hk
  obtain ⟨h1, h2, h3, h4, h5⟩ := hw
  rw [fenceTimeout_head hh, if_pos ⟨hn, hr, by simp [hc], hd, by simp [h1], by simp [h2], by simp [h3], h4, by omega⟩]

theorem fenceTimeout_within {h : Taken} {rest : List Taken} (hh : (d.ring n).taken = h :: rest)
    (hw : ¬ (TokenHead d n h ∧ WaitsTooLong t d n h)) : fenceTimeout t n d = d := by
  rw [fenceTimeout_head hh, if_neg]
  rintro ⟨hn, hr, hc, hd, h1, h2, h3, h4, h5⟩
  simp only [Bool.not_eq_true', Option.isNone_iff_eq_none] at hc h1 h2 h3
  exact hw ⟨⟨hn, hr, hc, hd⟩, h1, h2, h3, h4, by omega⟩

theorem fenceTimeout_empty (hh : (d.ring n).taken = []) : fenceTimeout t n d = d := by
  unfold fenceTimeout
  dsimp only
  rw [hh]

/-- The buffer of a BUF descriptor. -/
def bufOf (cls : Nat) (h : Taken) : Posted :=
  ⟨h.idx, dTag h.words, dIrq h.words, dAddr h.words, dLen h.words, bufStatus cls h.words⟩

/-- The head's buffer stands behind those posted. -/
def posted (t : Time) (n : Nat) (h : Taken) (d : Dev) : Dev :=
  (popHead t n d).setRing n { (popHead t n d).ring n with
    posted := ((popHead t n d).ring n).posted ++ [bufOf ((popHead t n d).ring n).cls h] }

theorem posted_ring (h : Taken) : (posted t n h d).ring n = { d.ring n with
    taken := (d.ring n).taken.tail, headSince := t.loc, posted := (d.ring n).posted ++ [bufOf (d.ring n).cls h] } := by
  unfold posted popHead
  dsimp only
  rw [ring_setRing, ring_setRing]

theorem bufPost_head {h : Taken} (hh : headReady d n = some h) :
    bufPost t n d = if n < 256 ∧ toHost (d.ring n).cls = true then skipBad n 1 (posted t n h d) else d := by
  unfold bufPost
  rw [hh]
  rfl

theorem bufPost_none (hh : headReady d n = none) : bufPost t n d = d := by
  unfold bufPost
  rw [hh]

theorem useBuffer_ring (b : Posted) (st : Nat) (more : Bool) (len : Nat) (ext : List Byte) :
    (useBuffer n b st more len ext d).ring n = { d.ring n with
      posted := (d.ring n).posted.tail,
      owed := (d.ring n).owed ++ [⟨b.idx, b.tag, st, more, len, ext, false, b.irq, none, none⟩] } := by
  have h1 : ((d.setRing n { d.ring n with posted := (d.ring n).posted.tail }).setN Reg.HIF_RINGn_DCONS.N n (b.idx + 1)).ring n =
    { d.ring n with posted := (d.ring n).posted.tail } := ring_setRing d n _
  unfold useBuffer
  dsimp only
  rw [owe_ring, h1]

theorem skipBad_cons {k : Nat} {b : Posted} {bs : List Posted} (h : (d.ring n).posted = b :: bs) :
    skipBad n (k + 1) d = if b.st = stOk then d else skipBad n k (useBuffer n b b.st false 0 [] d) := by
  rw [skipBad]
  rw [h]

theorem skipBad_taken (k : Nat) : ((skipBad n k d).ring n).taken = (d.ring n).taken := by
  induction k generalizing d with
  | zero => rfl
  | succ k ih =>
    unfold skipBad
    split
    · split
      · rfl
      · rw [ih, useBuffer_ring]
    · rfl

theorem skipBad_sent (k : Nat) : (skipBad n k d).hif.sent = d.hif.sent := by
  induction k generalizing d with
  | zero => rfl
  | succ k ih =>
    unfold skipBad
    split
    · split
      · rfl
      · rw [ih]
        rfl
    · rfl

theorem ring_heads :
    (∀ (s : State) (n : Nat) (h : Taken), n < 256 → headReady s.dev n = some h → toHost (s.dev.ring n).cls = false →
    dOpcode h.words = 0 →
    exec (.descNop n) s = .next (s.after (completeHead s.time n h stOk 0 [] s.dev))) ∧
  (∀ (s : State) (n : Nat), headReady s.dev n = none →
    exec (.descNop n) s = .next (s.after s.dev) ∧ exec (.descFence n) s = .next (s.after s.dev) ∧
      exec (.bufPost n) s = .next (s.after s.dev)) ∧
  (∀ (s : State) (n : Nat) (h : Taken), n < 256 → headReady s.dev n = some h → toHost (s.dev.ring n).cls = false →
    dOpcode h.words = 1 → (s.dev.ring n).started = [] → (s.dev.ring n).owed = [] →
    ∃ t, exec (.descFence n) s = .next t ∧ (t.dev.ring n).fence = some h.idx ∧
      (t.dev.ring n).owed = [owedOf (s.dev.ring n).cls h.idx h.words stOk 0 []] ∧ headReady t.dev n = none) ∧
  (∀ (s : State) (n : Nat) (h : Taken) (rest : List Taken), n < 256 → (s.dev.ring n).taken = h :: rest →
    ringRuns s.dev n = true → toHost (s.dev.ring n).cls = false → dWait h.words = true →
    exec (.tokenWaitStart n) s = .next (s.after (
      if tokenReached s.dev (dWaitTok h.words) (dWaitVal h.words) = true then
        s.dev.setRing n { s.dev.ring n with taken := { h with released := true } :: rest } else s.dev))) ∧
  (∀ (s : State) (n : Nat) (h : Taken), headReady s.dev n = some h →
    (256 ≤ n ∨ toHost (s.dev.ring n).cls = true ∨ dOpcode h.words ≠ 0 → exec (.descNop n) s = .next (s.after s.dev)) ∧
    (256 ≤ n ∨ toHost (s.dev.ring n).cls = true ∨ dOpcode h.words ≠ 1 ∨ (s.dev.ring n).started ≠ [] ∨
      (s.dev.ring n).owed ≠ [] → exec (.descFence n) s = .next (s.after s.dev)) ∧
    (256 ≤ n ∨ toHost (s.dev.ring n).cls = false → exec (.bufPost n) s = .next (s.after s.dev))) ∧
  (∀ (s : State) (n : Nat), 256 ≤ n ∨ ringRuns s.dev n = false ∨ toHost (s.dev.ring n).cls = true ∨
      (s.dev.ring n).taken.head?.map (fun h => dWait h.words) ≠ some true →
    exec (.tokenWaitStart n) s = .next (s.after s.dev) ∧ exec (.fenceTimeout n) s = .next (s.after s.dev)) ∧
  (∀ (s : State) (n : Nat) (h : Taken) (rest : List Taken), n < 256 → (s.dev.ring n).taken = h :: rest →
    ringRuns s.dev n = true → toHost (s.dev.ring n).cls = false → dWait h.words = true →
    (h.released = false → (s.dev.ring n).fence = none →
      tokenReached s.dev (dWaitTok h.words) (dWaitVal h.words) = false → s.dev.get Reg.HIF_FENCE.TMO ≠ 0 →
      (s.dev.ring n).headSince + s.dev.get Reg.HIF_FENCE.TMO * 1000000 < s.time.loc →
      exec (.fenceTimeout n) s = .next (s.after
        ((completeHead s.time n h stLimit 0 [] s.dev).cause intHif 1 n stLimit))) ∧
    (h.released = true ∨ (s.dev.ring n).fence ≠ none ∨ tokenReached s.dev (dWaitTok h.words) (dWaitVal h.words) = true ∨
      s.dev.get Reg.HIF_FENCE.TMO = 0 ∨
      s.time.loc ≤ (s.dev.ring n).headSince + s.dev.get Reg.HIF_FENCE.TMO * 1000000 →
      exec (.fenceTimeout n) s = .next (s.after s.dev))) ∧
  (∀ (s : State) (n : Nat) (h : Taken) (b : Posted), n < 256 → headReady s.dev n = some h → toHost (s.dev.ring n).cls = true →
    b = ⟨h.idx, dTag h.words, dIrq h.words, dAddr h.words, dLen h.words, bufStatus (s.dev.ring n).cls h.words⟩ →
    ∃ t, exec (.bufPost n) s = .next t ∧ (t.dev.ring n).taken = (s.dev.ring n).taken.tail ∧ t.dev.hif.sent = s.dev.hif.sent ∧
      (((s.dev.ring n).posted = [] → b.st = stOk) → (∀ x, (s.dev.ring n).posted.head? = some x → x.st = stOk) →
        (t.dev.ring n).posted = (s.dev.ring n).posted ++ [b] ∧ (t.dev.ring n).owed = (s.dev.ring n).owed) ∧
      ((s.dev.ring n).posted = [] → b.st ≠ stOk → (t.dev.ring n).posted = [] ∧
        (t.dev.ring n).owed = (s.dev.ring n).owed ++ [⟨b.idx, b.tag, b.st, false, 0, [], false, b.irq, none, none⟩])) := by
  refine ⟨fun s n h hn hh hc ho => ?_, fun s n hh => ⟨?_, ?_, ?_⟩, fun s n h hn hh hc ho hs hw => ?_,
    fun s n h rest hn ht hr hc hd => ?_, fun s n h hh => ⟨fun hx => ?_, fun hx => ?_, fun hx => ?_⟩, fun s n hx => ?_,
    fun s n h rest hn ht hr hc hd => ⟨fun h1 h2 h3 h4 h5 => ?_, fun hx => ?_⟩, fun s n h b hn hh hc hb => ?_⟩
  · rw [exec_descNop, descNop_head hh, if_pos ⟨hn, by simp [hc], ho⟩]
  · rw [exec_descNop, descNop_none hh]
  · rw [exec_descFence, descFence_none hh]
  · rw [exec_bufPost, bufPost_none hh]
  · rw [exec_descFence, descFence_head hh, if_pos ⟨hn, by simp [hc], ho, by simp [hs], by simp [hw]⟩]
    have hf : (fenceSet s.time n h s.dev).ring n =
      { (completeHead s.time n h stOk 0 [] s.dev).ring n with fence := some h.idx } := ring_setRing _ _ _
    refine ⟨_, rfl, ?_, ?_, headReady_fenced ?_⟩
    · rw [after_ring, hf]
    · rw [after_ring, hf, completeHead_ring, hw]
      rfl
    · rw [after_ring, hf]
      rfl
  · rw [exec_tokenWaitStart, tokenWaitStart_head ht]
    cases hk : tokenReached s.dev (dWaitTok h.words) (dWaitVal h.words)
    · rw [if_neg (by simp), if_neg (by simp)]
    · rw [if_pos ⟨hn, hr, by simp [hc], hd, rfl⟩, if_pos rfl]
  · rw [exec_descNop, descNop_head hh, if_neg]
    rintro ⟨h1, h2, h3⟩
    rcases hx with hx | hx | hx
    · omega
    · simp [hx] at h2
    · exact hx h3
  · rw [exec_descFence, descFence_head hh, if_neg]
    rintro ⟨h1, h2, h3, h4, h5⟩
    simp only [List.isEmpty_iff] at h4 h5
    rcases hx with hx | hx | hx | hx | hx
    · omega
    · simp [hx] at h2
    · exact hx h3
    · exact hx h4
    · exact hx h5
  · rw [exec_bufPost, bufPost_head hh, if_neg]
    rintro ⟨h1, h2⟩
    rcases hx with hx | hx
    · omega
    · simp [hx] at h2
  · have hno (h : Taken) (rest : List Taken) (ht : (s.dev.ring n).taken = h :: rest) : ¬ TokenHead s.dev n h := by
      rintro ⟨h1, h2, h3, h4⟩
      rcases hx with hx | hx | hx | hx
      · omega
      · simp [hx] at h2
      · simp [hx] at h3
      · exact hx (by rw [ht]; exact congrArg some h4)
    rw [exec_tokenWaitStart, exec_fenceTimeout]
    cases ht : (s.dev.ring n).taken with
    | nil => rw [tokenWaitStart_empty ht, fenceTimeout_empty ht]; exact ⟨rfl, rfl⟩
    | cons h rest =>
      rw [fenceTimeout_within ht (fun hw => hno h rest ht hw.1), tokenWaitStart_head ht, if_neg]
      · exact ⟨rfl, rfl⟩
      · rintro ⟨h1, h2, h3, h4, -⟩
        exact hno h rest ht ⟨h1, h2, by simpa using h3, h4⟩
  · rw [exec_fenceTimeout, fenceTimeout_over ht ⟨hn, hr, hc, hd⟩ ⟨h1, h2, h3, h4, h5⟩]
  · rw [exec_fenceTimeout, fenceTimeout_within ht]
    rintro ⟨-, h1, h2, h3, h4, h5⟩
    rcases hx with hx | hx | hx | hx | hx
    · simp [hx] at h1
    · exact hx h2
    · simp [hx] at h3
    · exact h4 hx
    · omega
  · have hb' : bufOf (s.dev.ring n).cls h = b := hb.symm
    have hr := posted_ring (t := s.time) (n := n) (d := s.dev) h
    rw [exec_bufPost, bufPost_head hh, if_pos ⟨hn, hc⟩]
    rw [hb'] at hr
    refine ⟨_, rfl, ?_, ?_, fun hg hx => ?_, fun hg hx => ?_⟩
    · rw [after_ring, skipBad_taken, hr]
    · rw [after_sent, skipBad_sent]
      rfl
    · have hk : skipBad n 1 (posted s.time n h s.dev) = posted s.time n h s.dev := by
        cases hp : (s.dev.ring n).posted with
        | nil => rw [skipBad_cons (b := b) (bs := []) (by rw [hr]; simp [hp]), if_pos (hg hp)]
        | cons x xs => rw [skipBad_cons (b := x) (bs := xs ++ [b]) (by rw [hr]; simp [hp]), if_pos (hx x (by simp [hp]))]
      rw [hk, after_ring, hr]
      exact ⟨rfl, rfl⟩
    · have hp : ((posted s.time n h s.dev).ring n).posted = [b] := by rw [hr]; simp [hg]
      rw [skipBad_cons hp, if_neg hx, skipBad, after_ring, useBuffer_ring, hp, hr]
      exact ⟨rfl, rfl⟩

/-- Settles O45: enabling and disabling, doorbells, completions and heads, each by the branches of its command. -/
theorem ringLifecycle : Obligations.RingLifecycle :=
  ⟨⟨enable_rings.1, enable_rings.2.1, enable_rings.2.2, disable_rings⟩, ring_doorbells, write_completions, ring_heads⟩

end Sys2Proof.Machine

/-!
PROOFS. Descriptors that carry data: block commands, frames sent and injected, and reads of host memory that fail (R127, R155,
R473 to R475, R491, R492, R605, R606).
-/

namespace Sys2Proof.Machine

open Sys2Proof

variable {d : Dev} {s : State} {t : Time} {n : Nat} {h : Taken}

theorem exec_cmdReadBlock (n : Nat) (s : State) :
    exec (.cmdReadBlock n) s = .next (s.after (cmdBlock s.time n 0x11 (readBlock s.time) s.dev)) := rfl

theorem exec_cmdWriteBlock (n : Nat) (src : List Word32) (s : State) :
    exec (.cmdWriteBlock n src) s = .next (s.after (cmdBlock s.time n 0x10 (writeBlock s.time s.log src) s.dev)) := rfl

theorem exec_dmaReadFail (n : Nat) (kind : DmaRead) (s : State) :
    exec (.dmaReadFail n kind) s = .next (s.after (dmaReadFail s.time n kind s.dev)) := rfl

theorem exec_txhInject (n : Nat) (f : RxFrame) (s : State) :
    exec (.txhInject n f) s = .next (s.after (txhInject s.time n f s.dev)) := rfl

theorem exec_txhSend (n : Nat) (bytes : List Byte) (s : State) :
    exec (.txhSend n bytes) s = .next (s.after (txhSend s.time n bytes s.dev)) := rfl

/-! ## Block commands (R473) -/

section
variable {op : Nat} {f : DescWords → Dev → Dev}

theorem cmdBlock_none (hh : startable d n clsCmd op = none) : cmdBlock t n op f d = d := by
  unfold cmdBlock
  rw [hh]

theorem cmdBlock_head (hh : startable d n clsCmd op = some h) :
    cmdBlock t n op f d = if blkBad h.words then completeHead t n h stRejected 0 [] d
      else if dLen h.words = 0 then completeHead t n h stSkipped 0 [] d
      else endStarted n h.idx stOk (dLen h.words) [] none (f h.words (startHead t n h d)) := by
  unfold cmdBlock
  rw [hh]

theorem cmdBlock_bad (hh : startable d n clsCmd op = some h) (hb : blkBad h.words = true) :
    cmdBlock t n op f d = completeHead t n h stRejected 0 [] d := by rw [cmdBlock_head hh, if_pos hb]

theorem cmdBlock_empty (hh : startable d n clsCmd op = some h) (hb : blkBad h.words = false) (hl : dLen h.words = 0) :
    cmdBlock t n op f d = completeHead t n h stSkipped 0 [] d := by
  rw [cmdBlock_head hh, if_neg (by simp [hb]), if_pos hl]

theorem cmdBlock_runs (hh : startable d n clsCmd op = some h) (hb : blkBad h.words = false) (hl : dLen h.words ≠ 0) :
    cmdBlock t n op f d = endStarted n h.idx stOk (dLen h.words) [] none (f h.words (startHead t n h d)) := by
  rw [cmdBlock_head hh, if_neg (by simp [hb]), if_neg hl]
end

theorem readBlockWords_length (t : Time) (ofs k : Nat) (d : Dev) : (readBlockWords t ofs k d).1.length = k := by
  induction k generalizing ofs d with
  | zero => rfl
  | succ k ih => rw [readBlockWords, List.length_cons, ih]

/-- A READ_BLOCK of one word is one read. -/
theorem readBlock_word (t : Time) {ws : DescWords} (hl : dLen ws = 4) (d : Dev) :
    readBlock t ws d = hostWrite (.data (dAddr ws) (le 4 (((busRead t .cmd (blkOfs ws) d).path .cmd).rd).toNat)
      (d.on Reg.HIF_CTRL.RO_EN)) (busRead t .cmd (blkOfs ws) d) := by
  unfold readBlock
  rw [hl]
  simp only [readBlockWords, List.flatMap_cons, List.flatMap_nil, List.append_nil]

theorem block_commands :
    (∀ (s : State) (n : Nat) (ws : List Word32), startable s.dev n clsCmd 0x10 = none →
    exec (.cmdWriteBlock n ws) s = .next (s.after s.dev)) ∧
  (∀ (s : State) (n : Nat), startable s.dev n clsCmd 0x11 = none → exec (.cmdReadBlock n) s = .next (s.after s.dev)) ∧
  (∀ (s : State) (n : Nat) (h : Taken) (ws : List Word32), startable s.dev n clsCmd 0x10 = some h →
    (blkBad h.words = true →
      exec (.cmdWriteBlock n ws) s = .next (s.after (completeHead s.time n h stRejected 0 [] s.dev))) ∧
    (blkBad h.words = false → dLen h.words = 0 →
      exec (.cmdWriteBlock n ws) s = .next (s.after (completeHead s.time n h stSkipped 0 [] s.dev))) ∧
    (blkBad h.words = false → dLen h.words ≠ 0 →
      exec (.cmdWriteBlock n ws) s = .next (s.after (endStarted n h.idx stOk (dLen h.words) [] none
        ((List.range (dLen h.words / 4)).foldl (fun d i => busWrite s.time s.log (blkOfs h.words + 4 * i) (ws.getD i 0) d)
          (startHead s.time n h s.dev)))))) ∧
  (∀ (s : State) (n : Nat) (h : Taken), startable s.dev n clsCmd 0x11 = some h →
    (blkBad h.words = true →
      exec (.cmdReadBlock n) s = .next (s.after (completeHead s.time n h stRejected 0 [] s.dev))) ∧
    (blkBad h.words = false → dLen h.words = 0 →
      exec (.cmdReadBlock n) s = .next (s.after (completeHead s.time n h stSkipped 0 [] s.dev))) ∧
    (blkBad h.words = false → dLen h.words ≠ 0 → ∃ ws d, exec (.cmdReadBlock n) s = .next (s.after
      (endStarted n h.idx stOk (dLen h.words) [] none (hostWrite (.data (dAddr h.words) (ws.flatMap fun w => le 4 w.toNat)
        ((startHead s.time n h s.dev).on Reg.HIF_CTRL.RO_EN)) d))) ∧ ws.length = dLen h.words / 4 ∧
      (ws, d) = readBlockWords s.time (blkOfs h.words) (dLen h.words / 4) (startHead s.time n h s.dev)) ∧
    (blkBad h.words = false → dLen h.words = 4 → exec (.cmdReadBlock n) s = .next (s.after (
      let d := busRead s.time .cmd (blkOfs h.words) (startHead s.time n h s.dev)
      endStarted n h.idx stOk 4 [] none (hostWrite (.data (dAddr h.words) (le 4 ((d.path .cmd).rd).toNat)
        ((startHead s.time n h s.dev).on Reg.HIF_CTRL.RO_EN)) d))))) := by
  refine ⟨fun s n ws hh => ?_, fun s n hh => ?_, fun s n h ws hh => ⟨fun hb => ?_, fun hb hl => ?_, fun hb hl => ?_⟩,
    fun s n h hh => ⟨fun hb => ?_, fun hb hl => ?_, fun hb hl => ?_, fun hb hl => ?_⟩⟩
  · rw [exec_cmdWriteBlock, cmdBlock_none hh]
  · rw [exec_cmdReadBlock, cmdBlock_none hh]
  · rw [exec_cmdWriteBlock, cmdBlock_bad hh hb]
  · rw [exec_cmdWriteBlock, cmdBlock_empty hh hb hl]
  · rw [exec_cmdWriteBlock, cmdBlock_runs hh hb hl]
    rfl
  · rw [exec_cmdReadBlock, cmdBlock_bad hh hb]
  · rw [exec_cmdReadBlock, cmdBlock_empty hh hb hl]
  · rw [exec_cmdReadBlock, cmdBlock_runs hh hb hl]
    exact ⟨_, _, rfl, readBlockWords_length _ _ _ _, rfl⟩
  · rw [exec_cmdReadBlock, cmdBlock_runs hh hb (by omega), readBlock_word _ hl, hl]

/-! ## Frames sent and injected (R127, R155, R474, R475) -/

theorem txhSend_none {bytes : List Byte} (hh : startable d n clsTxh 0x10 = none) : txhSend t n bytes d = d := by
  unfold txhSend
  rw [hh]

theorem txhInject_none {f : RxFrame} (hh : startable d n clsTxh 0x10 = none) : txhInject t n f d = d := by
  unfold txhInject
  rw [hh]

/-- The frame of a SEND descriptor. -/
def sendFrame (n p : Nat) (h : Taken) (bytes : List Byte) (d : Dev) : TxFrame :=
  ⟨.desc n h.idx, dByte h.words 25 % 8, dLen h.words + 4, slice bytes 0 (dLen h.words),
    if (dByte h.words 25).testBit 3 then some (dw h.words 7, dBytes h.words 32 2, dBytes h.words 26 2) else none,
    (dByte h.words 25).testBit 4,
    if (dByte h.words 25).testBit 3 then none else some (startBytes d p (dLen h.words + 4)), none⟩

/-- The descriptor has started; on a pair both copies are waited for. -/
def sendStarted (t : Time) (n p : Nat) (h : Taken) (d : Dev) : Dev :=
  if pairMode d p = 0 then startHead t n h d else
    (startHead t n h d).setPair (p / 2) { (startHead t n h d).pair (p / 2) with
      waits := ((startHead t n h d).pair (p / 2)).waits ++ [⟨n, h.idx, h.words, none, none⟩] }

/-- The bytes that a frame of a SEND takes on the wire. -/
def sendLen (d : Dev) (p : Nat) (h : Taken) : Nat := dLen h.words + 4 + (if pairMode d p = 0 then 0 else 6)

theorem txhSend_head {bytes : List Byte} (hh : startable d n clsTxh 0x10 = some h) :
    txhSend t n bytes d =
      if 16 ≤ txhDest h.words then d
      else if dLen h.words = 0 then completeHead t n h stSkipped 0 [] d
      else if pairMode d (txhDest h.words) ≠ 0 ∧ txhDest h.words % 2 = 1 then
        completeHead t n h stRejected 0 (txExt none (txhDest h.words)) d
      else if d.getN Reg.FP_FRAME.MAX_LEN (txhDest h.words) < sendLen d (txhDest h.words) h then
        completeHead t n h stMalformed 0 (txExt none (txhDest h.words)) d
      else if !d.up (islPrt (txhDest h.words)) then completeHead t n h stAborted 0 (txExt none (txhDest h.words)) d
      else sendTx (txhDest h.words) (sendFrame n (txhDest h.words) h bytes d) (sendStarted t n (txhDest h.words) h d) := by
  unfold txhSend
  rw [hh]
  rfl

theorem txhInject_head {f : RxFrame} (hh : startable d n clsTxh 0x10 = some h) :
    txhInject t n f d =
      if txhDest h.words ≠ 20 then d
      else if dLen h.words = 0 then completeHead t n h stSkipped 0 [] d
      else if !d.up islIng then completeHead t n h stAborted 0 (txExt none 20) d
      else { startHead t n h d with ing := { (startHead t n h d).ing with injq := (startHead t n h d).ing.injq ++ [⟨n, h.idx,
        if (dByte h.words 25).testBit 5 then
          some ((dBytes h.words 34 6 * 1000000000 + dBytes h.words 40 4) * 4) else none,
        { f with len := dLen h.words + 4 }⟩] } } := by
  unfold txhInject
  rw [hh]

theorem startHead_ring (t : Time) (n : Nat) (h : Taken) (d : Dev) :
    (startHead t n h d).ring n = { d.ring n with
      taken := (d.ring n).taken.tail, headSince := t.loc, started := (d.ring n).started ++ [(h.idx, h.words)] } := by
  unfold startHead popHead
  dsimp only
  rw [ring_setRing, ring_setRing]

theorem sendStarted_hif (t : Time) (n p : Nat) (h : Taken) (d : Dev) :
    (sendStarted t n p h d).hif = (startHead t n h d).hif := by
  unfold sendStarted
  split <;> rfl

theorem sendStarted_ring (t : Time) (n p : Nat) (h : Taken) (d : Dev) :
    (sendStarted t n p h d).ring n = (startHead t n h d).ring n := by
  rw [Dev.ring, sendStarted_hif, ← Dev.ring]

theorem sendStarted_ports (t : Time) (n p : Nat) (h : Taken) (d : Dev) : (sendStarted t n p h d).ports = d.ports := by
  unfold sendStarted
  split <;> rfl

theorem sendStarted_regs (t : Time) (n p : Nat) (h : Taken) (d : Dev) : (sendStarted t n p h d).regs = d.regs := by
  unfold sendStarted
  split <;> rfl

theorem sendStarted_alone {p : Nat} (hm : pairMode d p = 0) : sendStarted t n p h d = startHead t n h d := if_pos hm

theorem sendStarted_pair {p : Nat} (hm : pairMode d p ≠ 0) :
    ((sendStarted t n p h d).pair (p / 2)).waits = (d.pair (p / 2)).waits ++ [⟨n, h.idx, h.words, none, none⟩] := by
  unfold sendStarted
  rw [if_neg hm]
  exact congrArg PairSt.waits (tget_tset_same (startHead t n h d).pairs (p / 2) _)

section
variable {bytes : List Byte} (hh : startable d n clsTxh 0x10 = some h) (hp : txhDest h.words < 16)
include hh hp

theorem txhSend_empty (hl : dLen h.words = 0) : txhSend t n bytes d = completeHead t n h stSkipped 0 [] d := by
  rw [txhSend_head hh, if_neg (by omega), if_pos hl]

theorem txhSend_odd (hl : dLen h.words ≠ 0) (hm : pairMode d (txhDest h.words) ≠ 0) (ho : txhDest h.words % 2 = 1) :
    txhSend t n bytes d = completeHead t n h stRejected 0 (txExt none (txhDest h.words)) d := by
  rw [txhSend_head hh, if_neg (by omega), if_neg hl, if_pos ⟨hm, ho⟩]

variable (hl : dLen h.words ≠ 0) (hm : pairMode d (txhDest h.words) = 0 ∨ txhDest h.words % 2 = 0)
include hl hm

theorem txhSend_even :
    txhSend t n bytes d = if d.getN Reg.FP_FRAME.MAX_LEN (txhDest h.words) < sendLen d (txhDest h.words) h then
        completeHead t n h stMalformed 0 (txExt none (txhDest h.words)) d
      else if !d.up (islPrt (txhDest h.words)) then completeHead t n h stAborted 0 (txExt none (txhDest h.words)) d
      else sendTx (txhDest h.words) (sendFrame n (txhDest h.words) h bytes d) (sendStarted t n (txhDest h.words) h d) := by
  rw [txhSend_head hh, if_neg (by omega), if_neg hl, if_neg]
  rintro ⟨h1, h2⟩
  rcases hm with hm | hm
  · exact h1 hm
  · omega

theorem txhSend_long (hs : d.getN Reg.FP_FRAME.MAX_LEN (txhDest h.words) < sendLen d (txhDest h.words) h) :
    txhSend t n bytes d = completeHead t n h stMalformed 0 (txExt none (txhDest h.words)) d := by
  rw [txhSend_even hh hp hl hm, if_pos hs]

theorem txhSend_down (hs : sendLen d (txhDest h.words) h ≤ d.getN Reg.FP_FRAME.MAX_LEN (txhDest h.words))
    (hu : d.up (islPrt (txhDest h.words)) = false) :
    txhSend t n bytes d = completeHead t n h stAborted 0 (txExt none (txhDest h.words)) d := by
  rw [txhSend_even hh hp hl hm, if_neg (Nat.not_lt.mpr hs), if_pos (by simp [hu])]

theorem txhSend_sends (hs : sendLen d (txhDest h.words) h ≤ d.getN Reg.FP_FRAME.MAX_LEN (txhDest h.words))
    (hu : d.up (islPrt (txhDest h.words)) = true) :
    txhSend t n bytes d = sendTx (txhDest h.words) (sendFrame n (txhDest h.words) h bytes d)
      (sendStarted t n (txhDest h.words) h d) := by
  rw [txhSend_even hh hp hl hm, if_neg (Nat.not_lt.mpr hs), if_neg (by simp [hu])]
end

/-- A frame for a port that is in no pair joins its queue there. -/
theorem sendTx_alone {p : Nat} {f : TxFrame} (hm : pairMode d p = 0) (hu : d.up (islPrt p) = true) :
    sendTx p f d = pushTx p f d := by
  unfold sendTx
  dsimp only
  rw [if_pos (.inl hm), if_pos hu]

theorem frames_sent :
    (∀ (s : State) (n : Nat) (bytes : List Byte) (f : RxFrame), startable s.dev n clsTxh 0x10 = none →
    exec (.txhSend n bytes) s = .next (s.after s.dev) ∧ exec (.txhInject n f) s = .next (s.after s.dev)) ∧
  (∀ (s : State) (n p : Nat) (h : Taken) (bytes : List Byte) (f : RxFrame), startable s.dev n clsTxh 0x10 = some h →
    p = txhDest h.words → (16 ≤ p → exec (.txhSend n bytes) s = .next (s.after s.dev)) ∧
      (p ≠ 20 → exec (.txhInject n f) s = .next (s.after s.dev)) ∧
      (p = 20 → dLen h.words = 0 →
        exec (.txhInject n f) s = .next (s.after (completeHead s.time n h stSkipped 0 [] s.dev))) ∧
      (p = 20 → dLen h.words ≠ 0 → s.dev.up islIng = false →
        exec (.txhInject n f) s = .next (s.after (completeHead s.time n h stAborted 0 (txExt none 20) s.dev)))) ∧
  (∀ (s : State) (n p m : Nat) (h : Taken) (bytes : List Byte), startable s.dev n clsTxh 0x10 = some h →
    p = txhDest h.words → m = pairMode s.dev p → p < 16 →
    (dLen h.words = 0 →
      exec (.txhSend n bytes) s = .next (s.after (completeHead s.time n h stSkipped 0 [] s.dev))) ∧
    (dLen h.words ≠ 0 → m ≠ 0 → p % 2 = 1 → exec (.txhSend n bytes) s =
      .next (s.after (completeHead s.time n h stRejected 0 (txExt none p) s.dev))) ∧
    (dLen h.words ≠ 0 → m = 0 ∨ p % 2 = 0 →
      s.dev.getN Reg.FP_FRAME.MAX_LEN p < dLen h.words + 4 + (if m = 0 then 0 else 6) →
      exec (.txhSend n bytes) s = .next (s.after (completeHead s.time n h stMalformed 0 (txExt none p) s.dev))) ∧
    (dLen h.words ≠ 0 → m = 0 ∨ p % 2 = 0 →
      dLen h.words + 4 + (if m = 0 then 0 else 6) ≤ s.dev.getN Reg.FP_FRAME.MAX_LEN p → s.dev.up (islPrt p) = false →
      exec (.txhSend n bytes) s = .next (s.after (completeHead s.time n h stAborted 0 (txExt none p) s.dev))) ∧
    (dLen h.words ≠ 0 → m = 0 ∨ p % 2 = 0 →
      dLen h.words + 4 + (if m = 0 then 0 else 6) ≤ s.dev.getN Reg.FP_FRAME.MAX_LEN p → s.dev.up (islPrt p) = true →
      ∃ f d, exec (.txhSend n bytes) s = .next (s.after (sendTx p f d)) ∧ f.org = .desc n h.idx ∧
        f.len = dLen h.words + 4 ∧ f.bytes = slice bytes 0 (dLen h.words) ∧ f.tc = dByte h.words 25 % 8 ∧
        (d.ring n).started = (s.dev.ring n).started ++ [(h.idx, h.words)] ∧
        (d.ring n).taken = (s.dev.ring n).taken.tail ∧ d.ports = s.dev.ports ∧ d.regs = s.dev.regs ∧
        (m = 0 → d.pairs = s.dev.pairs) ∧
        (m ≠ 0 → (d.pair (p / 2)).waits = (s.dev.pair (p / 2)).waits ++ [⟨n, h.idx, h.words, none, none⟩]))) ∧
  (∀ (s : State) (n : Nat) (h : Taken) (bytes : List Byte), startable s.dev n clsTxh 0x10 = some h →
    txhDest h.words < 16 → dLen h.words ≠ 0 → pairMode s.dev (txhDest h.words) = 0 →
    dLen h.words + 4 ≤ s.dev.getN Reg.FP_FRAME.MAX_LEN (txhDest h.words) → s.dev.up (islPrt (txhDest h.words)) = true →
    ∃ t f, exec (.txhSend n bytes) s = .next t ∧ f.org = .desc n h.idx ∧ f.len = dLen h.words + 4 ∧
      f.bytes = slice bytes 0 (dLen h.words) ∧ f.tc = dByte h.words 25 % 8 ∧
      (t.dev.ring n).started = (s.dev.ring n).started ++ [(h.idx, h.words)] ∧
      tget (t.dev.port (txhDest h.words)).queues f.tc = tget (s.dev.port (txhDest h.words)).queues f.tc ++ [f] ∧
      ∀ m, m ≠ txhDest h.words → t.dev.port m = s.dev.port m) ∧
  (∀ (s : State) (n : Nat) (h : Taken) (f : RxFrame), startable s.dev n clsTxh 0x10 = some h →
    txhDest h.words = 20 → dLen h.words ≠ 0 → s.dev.up islIng = true →
    ∃ t x, exec (.txhInject n f) s = .next t ∧ x.ring = n ∧ x.idx = h.idx ∧ x.frame = { f with len := dLen h.words + 4 } ∧
      x.arrQ = (if (dByte h.words 25).testBit 5 then
        some ((dBytes h.words 34 6 * 1000000000 + dBytes h.words 40 4) * 4) else none) ∧
      t.dev.ing.injq = s.dev.ing.injq ++ [x] ∧ (t.dev.ring n).taken = (s.dev.ring n).taken.tail) := by
  refine ⟨fun s n bytes f hh => ⟨?_, ?_⟩, fun s n p h bytes f hh hp => ⟨fun h1 => ?_, fun h1 => ?_, fun h1 hl => ?_,
    fun h1 hl hu => ?_⟩, fun s n p m h bytes hh hp hm h16 => ?_, fun s n h bytes hh hp hl hm hs hu => ?_,
    fun s n h f hh hp hl hu => ?_⟩
  · rw [exec_txhSend, txhSend_none hh]
  · rw [exec_txhInject, txhInject_none hh]
  · rw [exec_txhSend, txhSend_head hh, if_pos (hp ▸ h1)]
  · rw [exec_txhInject, txhInject_head hh, if_pos (hp ▸ h1)]
  · rw [exec_txhInject, txhInject_head hh, if_neg (by omega), if_pos hl]
  · rw [exec_txhInject, txhInject_head hh, if_neg (by omega), if_neg hl, if_pos (by simp [hu])]
  · subst hp hm
    refine ⟨fun hl => ?_, fun hl hm ho => ?_, fun hl hm hs => ?_, fun hl hm hs hu => ?_, fun hl hm hs hu => ?_⟩
    · rw [exec_txhSend, txhSend_empty hh h16 hl]
    · rw [exec_txhSend, txhSend_odd hh h16 hl hm ho]
    · rw [exec_txhSend, txhSend_long hh h16 hl hm hs]
    · rw [exec_txhSend, txhSend_down hh h16 hl hm hs hu]
    · rw [exec_txhSend, txhSend_sends hh h16 hl hm hs hu]
      refine ⟨_, _, rfl, rfl, rfl, rfl, rfl, ?_, ?_, sendStarted_ports _ _ _ _ _, sendStarted_regs _ _ _ _ _, fun h0 => ?_,
        sendStarted_pair⟩
      · rw [sendStarted_ring, startHead_ring]
      · rw [sendStarted_ring, startHead_ring]
      · rw [sendStarted_alone h0]
        rfl
  · have hs' : sendLen s.dev (txhDest h.words) h ≤ s.dev.getN Reg.FP_FRAME.MAX_LEN (txhDest h.words) := by
      rw [sendLen, if_pos hm]
      exact hs
    rw [exec_txhSend, txhSend_sends hh hp hl (.inl hm) hs' hu, sendStarted_alone hm,
      sendTx_alone (d := startHead s.time n h s.dev) hm hu]
    refine ⟨_, sendFrame n (txhDest h.words) h bytes s.dev, rfl, rfl, rfl, rfl, rfl, ?_, ?_, fun m hm' => ?_⟩
    · rw [after_ring]
      exact congrArg Ring.started (startHead_ring s.time n h s.dev)
    · rw [after_port, pushTx_queue _ _ (Nat.mod_lt _ (by decide))]
      rfl
    · rw [after_port, pushTx_other _ _ _ hm']
      rfl
  · rw [exec_txhInject, txhInject_head hh, if_neg (by omega), if_neg hl, if_neg (by simp [hu])]
    refine ⟨_, ⟨n, h.idx, _, { f with len := dLen h.words + 4 }⟩, rfl, rfl, rfl, rfl, rfl, ?_, ?_⟩
    · rw [after_ing]
      rfl
    · rw [after_ring]
      exact congrArg Ring.taken (startHead_ring s.time n h s.dev)

/-! ## Reads of host memory that fail (R491, R492, R605, R606) -/

/-- The ring is in its error state, and the host is told (R491). -/
def descriptorFailed (n : Nat) (d : Dev) : Dev :=
  ((((((abortTaken n d).setN Reg.HIF_RINGn_STAT.STATE n 3).setN Reg.HIF_RINGn_STAT.DMA_ERR n 1).set
    Reg.HIF_ERR_RING.RING n).set Reg.HIF_ERR_RING.STATUS stRejected).cause intHif 1 n stRejected).cause intHif 2 n stRejected

theorem dmaReadFail_stopped {k : DmaRead} (h : 256 ≤ n ∨ ringState d n ≠ 1) : dmaReadFail t n k d = d := if_pos h

theorem dmaReadFail_descriptor (hn : n < 256) (hs : ringState d n = 1) :
    dmaReadFail t n .descriptor d = if nextDesc d n = (d.ring n).prod then d else ringGone n (descriptorFailed n d) :=
  if_neg (by simp [hs, Nat.not_le.mpr hn])

theorem dmaReadFail_unread (h : nextDesc d n = (d.ring n).prod) : dmaReadFail t n .descriptor d = d := by
  by_cases hs : 256 ≤ n ∨ ringState d n ≠ 1
  · exact dmaReadFail_stopped hs
  · rw [dmaReadFail_descriptor (by omega) (by omega), if_pos h]

theorem dmaReadFail_idle (hh : headReady d n = none) : dmaReadFail t n .buffer d = d := by
  unfold dmaReadFail
  dsimp only
  split
  · rfl
  · rw [hh]

theorem dmaReadFail_buffer (hn : n < 256) (hs : ringState d n = 1) (hh : headReady d n = some h) :
    dmaReadFail t n .buffer d = if toHost (d.ring n).cls = true ∨ dOpcode h.words ≤ 1 then d
      else if (d.ring n).cls = clsCmpj then
        (if cSrcHmp h.words then d else (cmpRefuse t n h stRejected d).cause intHif 2 n stRejected)
      else (completeHead t n h stRejected 0 [] d).cause intHif 2 n stRejected := by
  unfold dmaReadFail
  dsimp only
  rw [if_neg (by simp [hs, Nat.not_le.mpr hn]), hh]

theorem descriptorFailed_ring (n : Nat) (d : Dev) :
    (ringGone n (descriptorFailed n d)).ring n = (abortTaken n d).ring n := by
  rw [Dev.ring, ringGone_rings, descriptorFailed, Dev.cause_rings, Dev.cause_rings]
  rfl

/-- A word of the host interface is left by the end of the reader. -/
theorem ringGone_getN {f : Field} {i : Nat} (hf : f.reg.addr i < 0x120000) : (ringGone n d).getN f i = d.getN f i :=
  (Low.ringGone (lo := 0x120000) (.refl _ _) (by decide)).getN hf

/-- A field of the ring's registers through the report of a failed descriptor read. -/
theorem descriptorFailed_ringReg {f : Field} {b : Nat} (hf : RingReg f b) (hn : n < 256) :
    (ringGone n (descriptorFailed n d)).getN f n =
      (((abortTaken n d).setN Reg.HIF_RINGn_STAT.STATE n 3).setN Reg.HIF_RINGn_STAT.DMA_ERR n 1).getN f n := by
  rw [ringGone_getN (by have := hf.2; rw [hf.addr]; omega), descriptorFailed, hf.cause, hf.cause, Dev.set, Dev.set,
    hf.setN_low (by decide), hf.setN_low (by decide)]

theorem descriptorFailed_errRing (hn : n < 256) :
    (ringGone n (descriptorFailed n d)).get Reg.HIF_ERR_RING.RING = n := by
  rw [Dev.get, ringGone_getN (by decide), ← Dev.get, descriptorFailed, Dev.cause_get _ _ _ _ _ _ (by decide),
    Dev.cause_get _ _ _ _ _ _ (by decide), Dev.get_set_other _ _ _ _ (by decide),
    Dev.get_set_same _ _ _ rfl (by simpa [Reg.HIF_ERR_RING.RING] using hn)]

theorem descriptorFailed_bit (n : Nat) (d : Dev) :
    bitOf ((ringGone n (descriptorFailed n d)).word intHif.addr) 2 = true := by
  rw [Low.ringGone (lo := 0x120000) (.refl _ _) (by decide) _ (by decide)]
  exact Dev.cause_sets _ _ _ _ _ (by decide)

theorem cmpZero_rings (ws : DescWords) (d : Dev) : (cmpZero ws d).hif.rings = d.hif.rings := by
  unfold cmpZero
  split <;> rfl

theorem cmpCount_rings (st : Nat) (d : Dev) : (cmpCount st d).hif.rings = d.hif.rings := by
  have hs (x : Dev) (f : Field) : (x.sat f).hif.rings = x.hif.rings := congrArg Hif.rings (Dev.setN_hif _ _ _ _)
  unfold cmpCount
  dsimp only
  split
  · exact hs _ _
  · split
    · rw [Dev.cause_rings, hs, Dev.cause_rings, hs, hs]
    · split
      · rw [hs, Dev.cause_rings, hs, hs]
      · split
        · rw [Dev.cause_rings, Dev.cause_rings, hs, hs]
        · rw [Dev.cause_rings, hs, hs]

/-- A job that is refused leaves the descriptors that wait. -/
theorem cmpRefuse_taken (t : Time) (n : Nat) (h : Taken) (d : Dev) :
    ((cmpRefuse t n h stRejected d).ring n).taken = (d.ring n).taken.tail := by
  have hr : (cmpCount stRejected (cmpZero h.words d)).ring n = d.ring n := by
    rw [Dev.ring, cmpCount_rings, cmpZero_rings, ← Dev.ring]
  rw [cmpRefuse, if_neg (by decide), completeHead_ring, hr]

theorem failed_reads :
    (∀ (s : State) (n : Nat), n < 256 → ringState s.dev n = 1 → nextDesc s.dev n ≠ (s.dev.ring n).prod →
    ∃ t, exec (.dmaReadFail n .descriptor) s = .next t ∧ ringState t.dev n = 3 ∧
      t.dev.getN Reg.HIF_RINGn_STAT.DMA_ERR n = 1 ∧ (t.dev.ring n).taken = [] ∧ t.dev.get Reg.HIF_ERR_RING.RING = n ∧
      (toHost (s.dev.ring n).cls = false → (t.dev.ring n).owed = (s.dev.ring n).owed ++
        (s.dev.ring n).taken.map (fun h => owedOf (s.dev.ring n).cls h.idx h.words stAborted 0 [])) ∧
      bitOf (t.dev.word intHif.addr) 2 = true) ∧
  (∀ (s : State) (n : Nat) (k : DmaRead), 256 ≤ n ∨ ringState s.dev n ≠ 1 →
    exec (.dmaReadFail n k) s = .next (s.after s.dev)) ∧
  (∀ (s : State) (n : Nat), nextDesc s.dev n = (s.dev.ring n).prod →
    exec (.dmaReadFail n .descriptor) s = .next (s.after s.dev)) ∧
  (∀ (s : State) (n : Nat), headReady s.dev n = none → exec (.dmaReadFail n .buffer) s = .next (s.after s.dev)) ∧
  (∀ (s : State) (n : Nat) (h : Taken), n < 256 → ringState s.dev n = 1 → headReady s.dev n = some h →
    (toHost (s.dev.ring n).cls = true ∨ dOpcode h.words ≤ 1 ∨
        ((s.dev.ring n).cls = clsCmpj ∧ cSrcHmp h.words = true) →
      exec (.dmaReadFail n .buffer) s = .next (s.after s.dev)) ∧
    (toHost (s.dev.ring n).cls = false → 1 < dOpcode h.words → (s.dev.ring n).cls ≠ clsCmpj →
      exec (.dmaReadFail n .buffer) s = .next (s.after
        ((completeHead s.time n h stRejected 0 [] s.dev).cause intHif 2 n stRejected))) ∧
    ((s.dev.ring n).cls = clsCmpj → 1 < dOpcode h.words → cSrcHmp h.words = false →
      exec (.dmaReadFail n .buffer) s = .next (s.after ((cmpRefuse s.time n h stRejected s.dev).cause intHif 2 n stRejected)) ∧
      ((cmpRefuse s.time n h stRejected s.dev).ring n).taken = (s.dev.ring n).taken.tail)) := by
  refine ⟨fun s n hn hs hk => ?_, fun s n k hx => ?_, fun s n hk => ?_, fun s n hh => ?_,
    fun s n h hn hs hh => ⟨fun hx => ?_, fun hc ho hj => ?_, fun hc ho hj => ⟨?_, cmpRefuse_taken _ _ _ _⟩⟩⟩
  · rw [exec_dmaReadFail, dmaReadFail_descriptor hn hs, if_neg hk]
    refine ⟨_, rfl, ?_, ?_, ?_, ?_, fun hc => ?_, ?_⟩
    · rw [ringState_after _ _ hn, ringState, descriptorFailed_ringReg ringState_reg hn,
        Dev.getN_setN_apart _ _ _ _ _ _ rfl rfl rfl, Dev.getN_setN_same _ _ _ _ rfl]
      rfl
    · rw [ringDmaErr_reg.after _ _ hn, descriptorFailed_ringReg ringDmaErr_reg hn, Dev.getN_setN_same _ _ _ _ rfl]
      rfl
    · rw [after_ring, descriptorFailed_ring, abortTaken_taken]
    · rw [after_get _ _ _ (notIntake_of_lt (by decide)), descriptorFailed_errRing hn]
    · rw [after_ring, descriptorFailed_ring, abortTaken_fromHost hc, ring_setRing]
    · rw [after_word _ _ _ (notIntake_of_lt (by decide)), descriptorFailed_bit]
  · rw [exec_dmaReadFail, dmaReadFail_stopped hx]
  · rw [exec_dmaReadFail, dmaReadFail_unread hk]
  · rw [exec_dmaReadFail, dmaReadFail_idle hh]
  · rw [exec_dmaReadFail, dmaReadFail_buffer hn hs hh]
    by_cases h1 : toHost (s.dev.ring n).cls = true ∨ dOpcode h.words ≤ 1
    · rw [if_pos h1]
    · obtain hx | hx | ⟨hc, hj⟩ := hx
      · exact absurd (.inl hx) h1
      · exact absurd (.inr hx) h1
      · rw [if_neg h1, if_pos hc, if_pos hj]
  · rw [exec_dmaReadFail, dmaReadFail_buffer hn hs hh, if_neg (by simp [hc, ho]), if_neg hj]
  · rw [exec_dmaReadFail, dmaReadFail_buffer hn hs hh, if_neg (by simp [hc, toHost, clsCmpj, ho]), if_pos hc, if_neg (by simp [hj])]

/-- Settles O46: each descriptor that carries data, and each failed read, by the branches of its command. -/
theorem dataDescriptors : Obligations.DataDescriptors :=
  ⟨⟨block_commands.1, block_commands.2.1, block_commands.2.2.1, block_commands.2.2.2, frames_sent⟩, failed_reads⟩

end Sys2Proof.Machine

/-!
PROOFS. Messages and the presence of the host (R485 to R490).
-/

namespace Sys2Proof.Machine

open Sys2Proof

variable {d e : Dev} {s : State} {t : Time} {v : Nat}

theorem exec_heartbeat (v : Word32) (s : State) :
    exec (.heartbeat v) s = .next (s.after (onWrite 0xF0010 (heartbeat s.time v) s.dev)) := rfl

theorem exec_hostStall (s : State) : exec .hostStall s = .next (s.after (hostStall s.time s.dev)) := rfl

theorem exec_moderationTimer (n : Nat) (s : State) :
    exec (.moderationTimer n) s = .next (s.after (moderationTimer s.time n s.dev)) := rfl

theorem exec_msixMessage (vec : Nat) (s : State) :
    exec (.msixMessage vec) s = .next (s.after (msixMessage vec s.dev)) := rfl

theorem exec_msixUnmask (c : MsixCtl) (s : State) : exec (.msixUnmask c) s = .next (s.after (msixControl c s.dev)) := rfl

theorem exec_pcieLinkDown (s : State) : exec .pcieLinkDown s = .next (s.after (pcieLinkDown s.dev)) := rfl

/-! ## The pending bits (R487) -/

theorem pba_addr (k : Nat) : Reg.T_MSIXPBA.P.reg.addr k = 0xF9000 + k * 4 := RegAt.addr_single rfl k

/-- A word that holds no pending bit. -/
def NotPending (a : Nat) : Prop := a ≠ 0xF9000 ∧ a ≠ 0xF9004

/-- From `e` to `d` pending bits alone have moved, and messages have gone out. -/
structure MsiStands (e d : Dev) : Prop where
  words : Apart NotPending e d
  hif : { e.hif with sent := d.hif.sent } = d.hif
  up : ∀ i, d.up i = e.up i

theorem MsiStands.refl (d : Dev) : MsiStands d d := ⟨.refl _ d, rfl, fun _ => rfl⟩

theorem MsiStands.hostWrite {w : HostWrite} (h : MsiStands e d) : MsiStands e (hostWrite w d) := by
  refine ⟨h.words.ofRegs rfl, ?_, h.up⟩
  unfold Machine.hostWrite
  rw [← h.hif]

theorem MsiStands.setPba {b : Bool} (h : MsiStands e d) (hv : v < 64) : MsiStands e (setPba v b d) := by
  unfold Machine.setPba
  dsimp only
  split
  · exact h
  · exact ⟨h.words.setN fun hw => by have h1 := hw.1; have h2 := hw.2; rw [pba_addr] at h1 h2; omega, h.hif, h.up⟩

theorem MsiStands.msixEn (h : MsiStands e d) : d.hif.msixEn = e.hif.msixEn := by rw [← h.hif]
theorem MsiStands.funcMask (h : MsiStands e d) : d.hif.funcMask = e.hif.funcMask := by rw [← h.hif]
theorem MsiStands.linkHold (h : MsiStands e d) : d.hif.linkHold = e.hif.linkHold := by rw [← h.hif]
theorem MsiStands.lastHb (h : MsiStands e d) : d.hif.lastHb = e.hif.lastHb := by rw [← h.hif]
theorem MsiStands.rings (h : MsiStands e d) : d.hif.rings = e.hif.rings := by rw [← h.hif]

theorem MsiStands.on {f : Field} (h : MsiStands e d) (hf : NotPending (f.reg.addr 0)) : d.on f = e.on f := h.words.onN hf

theorem MsiStands.quiet (h : MsiStands e d) : hifQuiet d = hifQuiet e := by
  unfold hifQuiet
  rw [h.linkHold, h.on ⟨by decide, by decide⟩, h.on ⟨by decide, by decide⟩, h.up]

theorem MsiStands.opened (h : MsiStands e d) (u : Nat) : msiOpen d u = msiOpen e u := by
  have ha : NotPending (Reg.T_MSIX.MASK.reg.addr u) := by
    rw [show Reg.T_MSIX.MASK.reg.addr u = 0xF800C + u * 0x10 from RegAt.addr_single rfl u]
    exact ⟨by omega, by omega⟩
  unfold msiOpen
  rw [h.msixEn, h.funcMask, h.words.onN ha, h.quiet]

/-- A pending bit is set or cleared, and no other moves. -/
theorem pbaBit_setPba (d : Dev) (v u : Nat) (b : Bool) : pbaBit (setPba v b d) u = if u = v then b else pbaBit d u := by
  unfold setPba
  dsimp only
  split
  · next hb =>
    split
    · next hu =>
      subst hu
      exact beq_iff_eq.mp hb
    · rfl
  · next hb =>
    by_cases hw : u / 32 = v / 32
    · have hlt : u % 32 < 32 := Nat.mod_lt _ (by decide)
      have hg : ∀ w, ((d.setN Reg.T_MSIXPBA.P (v / 32) w).getN Reg.T_MSIXPBA.P (u / 32)).testBit (u % 32) =
          w.testBit (u % 32) := fun w => by
        rw [hw, Dev.getN_setN_same _ _ _ _ rfl]
        exact (Nat.testBit_mod_two_pow w 32 (u % 32)).trans (by simp [hlt])
      unfold pbaBit
      rw [hg, Nat.testBit_xor, Nat.testBit_two_pow, hw]
      by_cases hu : u = v
      · subst hu
        rw [if_pos rfl]
        simp only [decide_true, Bool.xor_true]
        cases b <;> simpa using hb
      · rw [if_neg hu, decide_eq_false (by omega), Bool.xor_false]
    · rw [if_neg (by rintro rfl; exact hw rfl)]
      unfold pbaBit
      rw [Dev.getN_setN_addr _ _ _ _ _ _ (by rw [pba_addr, pba_addr]; omega)]

/-! ## Pending messages go out (R487, R489) -/

/-- One vector's pending message goes out where it may. -/
def flushStep (d : Dev) (v : Nat) : Dev :=
  if pbaBit d v && msiOpen d v then hostWrite (.message v) (setPba v false d) else d

theorem msiFlush_eq (d : Dev) : msiFlush d = (List.range 64).foldl flushStep d := rfl

theorem MsiStands.flushStep (h : MsiStands e d) (hv : v < 64) : MsiStands e (flushStep d v) := by
  unfold Machine.flushStep
  split
  · exact (h.setPba hv).hostWrite
  · exact h

theorem flushStep_bit (d : Dev) (v u : Nat) :
    pbaBit (flushStep d v) u = if u = v then pbaBit d u && !msiOpen d u else pbaBit d u := by
  unfold flushStep
  by_cases h : (pbaBit d v && msiOpen d v) = true
  · have hb : pbaBit (hostWrite (.message v) (setPba v false d)) u = pbaBit (setPba v false d) u := rfl
    rw [if_pos h, hb, pbaBit_setPba]
    by_cases hu : u = v
    · subst hu
      rw [Bool.and_eq_true] at h
      simp [h.1, h.2]
    · rw [if_neg hu, if_neg hu]
  · rw [if_neg h]
    by_cases hu : u = v
    · subst hu
      rw [if_pos rfl]
      cases h1 : pbaBit d u
      · rfl
      · rw [h1] at h
        simpa using h
    · rw [if_neg hu]

/-- What has gone out stays among what has gone out. -/
theorem flushStep_sent {w : HostWrite} (h : w ∈ d.hif.sent) (v : Nat) : w ∈ (flushStep d v).hif.sent := by
  unfold flushStep
  split
  · have hs : (setPba v false d).hif = d.hif := by unfold setPba; dsimp only; split <;> rfl
    rw [hostWrite_sent, hs]
    exact List.mem_append_left _ h
  · exact h

theorem flushStep_sends (h1 : pbaBit d v = true) (h2 : msiOpen d v = true) : HostWrite.message v ∈ (flushStep d v).hif.sent := by
  unfold flushStep
  rw [if_pos (by simp [h1, h2]), hostWrite_sent]
  exact List.mem_append_right _ (List.mem_singleton.mpr rfl)

theorem MsiStands.flushAll {l : List Nat} (hl : ∀ v ∈ l, v < 64) (h : MsiStands e d) : MsiStands e (l.foldl Machine.flushStep d) := by
  induction l generalizing d with
  | nil => exact h
  | cons v l ih => exact ih (fun u hu => hl u (List.mem_cons_of_mem _ hu)) (h.flushStep (hl v (List.mem_cons_self ..)))

theorem flushAll_sent {w : HostWrite} (l : List Nat) (h : w ∈ d.hif.sent) : w ∈ (l.foldl flushStep d).hif.sent := by
  induction l generalizing d with
  | nil => exact h
  | cons v l ih => exact ih (flushStep_sent h v)

/-- A vector that is not open keeps its pending bit. -/
theorem flushAll_closed {l : List Nat} (hl : ∀ u ∈ l, u < 64) (h : msiOpen d v = false) :
    pbaBit (l.foldl flushStep d) v = pbaBit d v := by
  induction l generalizing d with
  | nil => rfl
  | cons u l ih =>
    have hu := hl u (List.mem_cons_self ..)
    have ho : msiOpen (flushStep d u) v = false := by rw [(MsiStands.flushStep (.refl d) hu).opened]; exact h
    have hb : pbaBit (flushStep d u) v = pbaBit d v := by
      rw [flushStep_bit, h]
      simp
    rw [List.foldl_cons, ih (fun x hx => hl x (List.mem_cons_of_mem _ hx)) ho, hb]

/-- A bit that is clear stays clear. -/
theorem flushAll_clear (l : List Nat) (h : pbaBit d v = false) : pbaBit (l.foldl flushStep d) v = false := by
  induction l generalizing d with
  | nil => exact h
  | cons u l ih =>
    refine ih ?_
    rw [flushStep_bit, h]
    simp

/-- An open vector that pends is no longer pending, and its message is out. -/
theorem flushAll_opened {l : List Nat} (hl : ∀ u ∈ l, u < 64) (hv : v ∈ l) (h1 : pbaBit d v = true) (h2 : msiOpen d v = true) :
    pbaBit (l.foldl flushStep d) v = false ∧ HostWrite.message v ∈ (l.foldl flushStep d).hif.sent := by
  induction l generalizing d with
  | nil => exact absurd hv List.not_mem_nil
  | cons u l ih =>
    by_cases hu : v = u
    · subst hu
      refine ⟨flushAll_clear l ?_, flushAll_sent l (flushStep_sends h1 h2)⟩
      rw [flushStep_bit, if_pos rfl, h2]
      simp
    · refine ih (fun x hx => hl x (List.mem_cons_of_mem _ hx)) ((List.mem_cons.mp hv).resolve_left hu) ?_ ?_
      · rw [flushStep_bit, if_neg hu, h1]
      · rw [(MsiStands.flushStep (.refl d) (hl u (List.mem_cons_self ..))).opened, h2]

theorem msiFlush_stands (d : Dev) : MsiStands d (msiFlush d) :=
  (MsiStands.refl d).flushAll fun _ h => List.mem_range.mp h

/-- While no vector is open nothing goes out. -/
theorem msiFlush_closed (h : ∀ v, msiOpen d v = false) : msiFlush d = d := by
  have hf (l : List Nat) : l.foldl flushStep d = d := by
    induction l with
    | nil => rfl
    | cons v l ih =>
      have hs : flushStep d v = d := if_neg (by simp [h v])
      rw [List.foldl_cons, hs, ih]
  exact hf _

theorem msi_flush :
    ∀ (d : Dev), (d.hif.msixEn = false ∨ d.hif.funcMask = true ∨ hifQuiet d = true → msiFlush d = d) ∧
    ∀ v, v < 64 → (pbaBit d v = true → msiOpen d v = true →
        pbaBit (msiFlush d) v = false ∧ HostWrite.message v ∈ (msiFlush d).hif.sent) ∧
      (msiOpen d v = false → pbaBit (msiFlush d) v = pbaBit d v) := by
  have hl : ∀ u ∈ List.range 64, u < 64 := fun _ h => List.mem_range.mp h
  refine fun d => ⟨fun h => msiFlush_closed fun v => ?_, fun v hv => ⟨fun h1 h2 => ?_, fun h => ?_⟩⟩
  · unfold msiOpen
    rcases h with h | h | h <;> simp [h]
  · exact flushAll_opened hl (List.mem_range.mpr hv) h1 h2
  · exact flushAll_closed hl h

/-! ## One message, and moderation's time (R485 to R487) -/

theorem msixMessage_idle (h : v ∉ d.hif.msgReq) : msixMessage v d = d := if_neg h

theorem msixMessage_open (h : v ∈ d.hif.msgReq) (ho : msiOpen d v = true) :
    msixMessage v d = hostWrite (.message v) { d with hif := { d.hif with msgReq := d.hif.msgReq.erase v } } :=
  (if_pos h).trans (if_pos ho)

theorem msixMessage_masked (h : v ∈ d.hif.msgReq) (ho : msiOpen d v = false) :
    msixMessage v d = setPba v true { d with hif := { d.hif with msgReq := d.hif.msgReq.erase v } } :=
  (if_pos h).trans (if_neg (by rw [show msiOpen { d with hif := { d.hif with msgReq := d.hif.msgReq.erase v } } v =
    msiOpen d v from rfl, ho]; decide))

theorem setPba_hif (v : Nat) (b : Bool) (d : Dev) : (setPba v b d).hif = d.hif := by
  unfold setPba
  dsimp only
  split <;> rfl

theorem pbaBit_after (hv : v < 64) (s : State) (d : Dev) : pbaBit (s.after d).dev v = pbaBit d v := by
  unfold pbaBit
  rw [after_getN _ _ _ _ (notIntake_of_lt (by rw [pba_addr]; omega))]

theorem one_message :
    (∀ (s : State) (v : Nat), v ∈ s.dev.hif.msgReq → msiOpen s.dev v = true →
    ∃ t, exec (.msixMessage v) s = .next t ∧ t.dev.hif.sent = s.dev.hif.sent ++ [.message v]) ∧
  (∀ (s : State) (v : Nat), v < 64 → v ∈ s.dev.hif.msgReq → msiOpen s.dev v = false →
    ∃ t, exec (.msixMessage v) s = .next t ∧ t.dev.hif.sent = s.dev.hif.sent ∧ pbaBit t.dev v = true) ∧
  (∀ (s : State) (v : Nat), v ∉ s.dev.hif.msgReq → exec (.msixMessage v) s = .next (s.after s.dev)) := by
  refine ⟨fun s v h ho => ?_, fun s v hv h ho => ?_, fun s v h => ?_⟩
  · rw [exec_msixMessage, msixMessage_open h ho]
    exact ⟨_, rfl, by rw [after_sent, hostWrite_sent]⟩
  · rw [exec_msixMessage, msixMessage_masked h ho]
    refine ⟨_, rfl, by rw [after_sent, setPba_hif], ?_⟩
    rw [pbaBit_after hv, pbaBit_setPba, if_pos rfl]
  · rw [exec_msixMessage, msixMessage_idle h]

theorem moderationTimer_since {n a : Nat} (h : (d.ring n).modSince = some a) :
    moderationTimer t n d = if (d.ring n).irqEn = true ∧ (d.ring n).modTime ≠ 0 ∧ (d.ring n).modTime * 1000 ≤ t.loc - a then
      (d.setRing n { d.ring n with modCount := 0, modSince := none }).request (d.ring n).vec else d := by
  unfold moderationTimer
  dsimp only
  rw [h]

theorem moderationTimer_none {n : Nat} (h : (d.ring n).modSince = none) : moderationTimer t n d = d := by
  unfold moderationTimer
  dsimp only
  rw [h]

theorem moderation_timer :
    (∀ (s : State) (n a : Nat), (s.dev.ring n).modSince = some a → (s.dev.ring n).irqEn = true → (s.dev.ring n).modTime ≠ 0 →
    a + (s.dev.ring n).modTime * 1000 ≤ s.time.loc →
    exec (.moderationTimer n) s = .next (s.after
      ((s.dev.setRing n { s.dev.ring n with modCount := 0, modSince := none }).request (s.dev.ring n).vec))) ∧
  (∀ (s : State) (n : Nat), (s.dev.ring n).modSince = none ∨ (s.dev.ring n).irqEn = false ∨ (s.dev.ring n).modTime = 0 ∨
      (∃ a, (s.dev.ring n).modSince = some a ∧ s.time.loc < a + (s.dev.ring n).modTime * 1000) →
    exec (.moderationTimer n) s = .next (s.after s.dev)) := by
  refine ⟨fun s n a hs hi ht hl => ?_, fun s n h => ?_⟩
  · rw [exec_moderationTimer, moderationTimer_since hs, if_pos ⟨hi, ht, by omega⟩]
  · rw [exec_moderationTimer]
    cases hs : (s.dev.ring n).modSince with
    | none => rw [moderationTimer_none hs]
    | some a =>
      rw [moderationTimer_since hs, if_neg]
      rintro ⟨h1, h2, h3⟩
      rw [hs] at h
      rcases h with h | h | h | ⟨b, h, hb⟩
      · exact absurd h (by simp)
      · simp [h] at h1
      · exact h2 h
      · cases h
        omega

/-! ## Masks are written (R487) -/

/-- What a write to the masks makes of the device before pending messages go out. -/
def maskWritten : MsixCtl → Dev → Dev
  | .vector v, d => if v < 64 then onWrite 0xF8000 (fun d => d.setN Reg.T_MSIX.MASK v 0) d else d
  | .funcMask b, d => { d with hif := { d.hif with funcMask := b } }
  | .enable b, d => { d with hif := { d.hif with msixEn := b } }

theorem msixControl_eq (c : MsixCtl) (d : Dev) : msixControl c d = msiFlush (maskWritten c d) := by cases c <;> rfl

theorem mask_writes :
    ∀ (s : State) (c : MsixCtl), ∃ d, exec (.msixUnmask c) s = .next (s.after (msiFlush d)) ∧
    (∀ v, c = .vector v → v < 64 → s.dev.up islHst = true → d = s.dev.setN Reg.T_MSIX.MASK v 0) ∧
    (∀ v, c = .vector v → v < 64 → s.dev.up islHst = false →
      d = if s.dev.pwr.released then s.dev.set Reg.GLB_STATUS.ISL_RST_WR 1 else s.dev) ∧
    (∀ v, c = .vector v → 64 ≤ v → d = s.dev) ∧
    (∀ b, c = .funcMask b → d.hif = { s.dev.hif with funcMask := b } ∧ d.regs = s.dev.regs) ∧
    (∀ b, c = .enable b → d.hif = { s.dev.hif with msixEn := b } ∧ d.regs = s.dev.regs) := by
  refine fun s c => ⟨maskWritten c s.dev, by rw [exec_msixUnmask, msixControl_eq], ?_, ?_, ?_, ?_, ?_⟩
  · rintro v rfl hv hu
    have hu' : s.dev.up (islandOf 0xF8000) = true := hu
    rw [maskWritten, if_pos hv, onWrite_up _ hu']
  · rintro v rfl hv hu
    have hu' : ¬ s.dev.up (islandOf 0xF8000) = true := by
      rw [show islandOf 0xF8000 = islHst from rfl, hu]
      decide
    rw [maskWritten, if_pos hv, onWrite, if_neg hu']
  · rintro v rfl hv
    rw [maskWritten, if_neg (by omega)]
  · rintro b rfl
    exact ⟨rfl, rfl⟩
  · rintro b rfl
    exact ⟨rfl, rfl⟩

/-! ## The host's presence (R488 to R490) -/

/-- The host has been silent too long (R488). -/
def HostSilent (s : State) : Prop :=
  s.dev.up islHst = true ∧ s.dev.get Reg.HIF_HB_CFG.TMO ≠ 0 ∧ s.dev.on Reg.HIF_STATUS.STALL = false ∧
    s.dev.hif.lastHb + s.dev.get Reg.HIF_HB_CFG.TMO * 1000000 ≤ s.time.loc

theorem hostStall_silent (h : HostSilent s) : hostStall s.time s.dev = declareStall s.dev := by
  obtain ⟨h1, h2, h3, h4⟩ := h
  exact if_pos ⟨h1, h2, by simp [h3], by omega⟩

theorem hostStall_heard (h : ¬ HostSilent s) : hostStall s.time s.dev = s.dev := by
  refine if_neg ?_
  rintro ⟨h1, h2, h3, h4⟩
  exact h ⟨h1, h2, by simpa using h3, by omega⟩

theorem declareStall_stall (d : Dev) : (declareStall d).on Reg.HIF_STATUS.STALL = true := by
  unfold declareStall
  rw [Dev.on, Dev.cause_onN _ _ _ _ _ _ _ (by decide), ← Dev.on, Dev.on_set_same _ _ _ rfl]
  rfl

theorem declareStall_bit (d : Dev) : bitOf ((declareStall d).word intHif.addr) 3 = true :=
  Dev.cause_sets _ _ _ _ _ (by decide)

theorem declareStall_rings (d : Dev) : (declareStall d).hif.rings = d.hif.rings := by
  unfold declareStall
  rw [Dev.cause_rings]
  rfl

theorem declareStall_linkHold (d : Dev) : (declareStall d).hif.linkHold = d.hif.linkHold := by
  have hc : (declareStall d).hif = ((d.set Reg.HIF_STATUS.STALL 1).raise intHif 3).hif := rfl
  rcases Dev.raise_hif (d.set Reg.HIF_STATUS.STALL 1) intHif 3 with h | h <;> rw [hc, h] <;> rfl

theorem declareStall_link (d : Dev) : (declareStall d).on Reg.HIF_STATUS.LINK = d.on Reg.HIF_STATUS.LINK := by
  unfold declareStall
  rw [Dev.on, Dev.cause_onN _ _ _ _ _ _ _ (by decide), ← Dev.on, Dev.on_set_other _ _ _ _ (by decide)]

/-- The device once a heartbeat is written, before held messages go out. -/
def heartbeatSeen (t : Time) (v : Word32) (d : Dev) : Dev :=
  { (d.set Reg.HIF_HB.CNT v.toNat).set Reg.HIF_STATUS.STALL 0 with
    hif := { d.hif with
      lastHb := t.loc
      linkHold := d.hif.linkHold && !((d.set Reg.HIF_HB.CNT v.toNat).set Reg.HIF_STATUS.STALL 0).on Reg.HIF_STATUS.LINK } }

theorem heartbeat_eq (t : Time) (v : Word32) (d : Dev) : heartbeat t v d = msiFlush (heartbeatSeen t v d) := rfl

theorem heartbeatSeen_linkHold (t : Time) (v : Word32) (d : Dev) :
    (heartbeatSeen t v d).hif.linkHold = (d.hif.linkHold && !d.on Reg.HIF_STATUS.LINK) := by
  show (d.hif.linkHold && !((d.set Reg.HIF_HB.CNT v.toNat).set Reg.HIF_STATUS.STALL 0).on Reg.HIF_STATUS.LINK) = _
  rw [Dev.on_set_other _ _ _ _ (by decide), Dev.on_set_other _ _ _ _ (by decide)]

theorem heartbeatSeen_stall (t : Time) (v : Word32) (d : Dev) : (heartbeatSeen t v d).on Reg.HIF_STATUS.STALL = false :=
  Dev.on_set_same (d.set Reg.HIF_HB.CNT v.toNat) Reg.HIF_STATUS.STALL 0 rfl

theorem heartbeatSeen_cnt (t : Time) (v : Word32) (d : Dev) :
    (heartbeatSeen t v d).get Reg.HIF_HB.CNT = v.toNat % 2 ^ Reg.HIF_HB.CNT.width := by
  show ((d.set Reg.HIF_HB.CNT v.toNat).set Reg.HIF_STATUS.STALL 0).get Reg.HIF_HB.CNT = _
  rw [Dev.get_set_other _ _ _ _ (by decide), Dev.get_set_mod _ _ _ rfl]

/-- The link is lost: its fields are 0, and nothing more is written to the host (R490). -/
def linkLost (d : Dev) : Dev :=
  { ((d.set Reg.HIF_STATUS.LINK 0).set Reg.HIF_STATUS.WIDTH 0).set Reg.HIF_STATUS.SPEED 0 with
    hif := { d.hif with linkHold := true } }

theorem pcieLinkDown_up (h : d.on Reg.HIF_STATUS.LINK = true) : pcieLinkDown d = declareStall (linkLost d) := if_pos h

theorem pcieLinkDown_down (h : d.on Reg.HIF_STATUS.LINK = false) : pcieLinkDown d = d := if_neg (by simp [h])

theorem linkLost_link (d : Dev) : (linkLost d).on Reg.HIF_STATUS.LINK = false := by
  show (((d.set Reg.HIF_STATUS.LINK 0).set Reg.HIF_STATUS.WIDTH 0).set Reg.HIF_STATUS.SPEED 0).on Reg.HIF_STATUS.LINK = _
  rw [Dev.on_set_other _ _ _ _ (by decide), Dev.on_set_other _ _ _ _ (by decide), Dev.on_set_same _ _ _ rfl]
  rfl

theorem exec_heartbeat_up {v : Word32} (h : s.dev.up islHst = true) :
    exec (.heartbeat v) s = .next (s.after (msiFlush (heartbeatSeen s.time v s.dev))) := by
  have h' : s.dev.up (islandOf 0xF0010) = true := h
  rw [exec_heartbeat, onWrite_up _ h', heartbeat_eq]

theorem after_status (s : State) (d : Dev) (f : Field) (hf : f.reg.addr 0 < 0x120000) : (s.after d).dev.on f = d.on f :=
  after_on _ _ _ (notIntake_of_lt hf)

theorem host_presence :
    (∀ (s : State), s.dev.up islHst = true → s.dev.get Reg.HIF_HB_CFG.TMO ≠ 0 → s.dev.on Reg.HIF_STATUS.STALL = false →
    s.dev.hif.lastHb + s.dev.get Reg.HIF_HB_CFG.TMO * 1000000 ≤ s.time.loc →
    ∃ t, exec .hostStall s = .next t ∧ t.dev.on Reg.HIF_STATUS.STALL = true ∧ bitOf (t.dev.word intHif.addr) 3 = true ∧
      t.dev.hif.rings = s.dev.hif.rings) ∧
  (∀ (s : State), s.dev.up islHst = false ∨ s.dev.get Reg.HIF_HB_CFG.TMO = 0 ∨ s.dev.on Reg.HIF_STATUS.STALL = true ∨
      s.time.loc < s.dev.hif.lastHb + s.dev.get Reg.HIF_HB_CFG.TMO * 1000000 →
    exec .hostStall s = .next (s.after s.dev)) ∧
  (∀ (s : State) (v : Word32), s.dev.up islHst = true →
    ∃ t, exec (.heartbeat v) s = .next t ∧ t.dev.on Reg.HIF_STATUS.STALL = false ∧ t.dev.hif.lastHb = s.time.loc ∧
      t.dev.get Reg.HIF_HB.CNT = v.toNat % 2 ^ Reg.HIF_HB.CNT.width ∧ t.dev.hif.rings = s.dev.hif.rings ∧
      (s.dev.on Reg.HIF_STATUS.LINK = true → t.dev.hif.linkHold = false) ∧
      (s.dev.on Reg.HIF_STATUS.LINK = false → t.dev.hif.linkHold = s.dev.hif.linkHold)) ∧
  (∀ (s : State), s.dev.on Reg.HIF_STATUS.LINK = true →
    ∃ t, exec .pcieLinkDown s = .next t ∧ t.dev.on Reg.HIF_STATUS.LINK = false ∧ t.dev.hif.linkHold = true ∧
      hifQuiet t.dev = true ∧ t.dev.on Reg.HIF_STATUS.STALL = true) ∧
  (∀ (s : State), s.dev.on Reg.HIF_STATUS.LINK = false → exec .pcieLinkDown s = .next (s.after s.dev)) := by
  refine ⟨fun s h1 h2 h3 h4 => ?_, fun s h => ?_, fun s v hu => ?_, fun s h => ?_, fun s h => ?_⟩
  · rw [exec_hostStall, hostStall_silent ⟨h1, h2, h3, h4⟩]
    refine ⟨_, rfl, ?_, ?_, ?_⟩
    · rw [after_status _ _ _ (by decide), declareStall_stall]
    · rw [after_word _ _ _ (notIntake_of_lt (by decide)), declareStall_bit]
    · rw [after_rings, declareStall_rings]
  · rw [exec_hostStall, hostStall_heard]
    rintro ⟨h1, h2, h3, h4⟩
    rcases h with h | h | h | h
    · simp [h] at h1
    · exact h2 h
    · simp [h] at h3
    · omega
  · have hs := msiFlush_stands (heartbeatSeen s.time v s.dev)
    have hw (f : Field) (hf : NotPending (f.reg.addr 0)) :
        (msiFlush (heartbeatSeen s.time v s.dev)).get f = (heartbeatSeen s.time v s.dev).get f := hs.words.get hf
    rw [exec_heartbeat_up hu]
    refine ⟨_, rfl, ?_, ?_, ?_, ?_, fun h => ?_, fun h => ?_⟩
    · rw [after_status _ _ _ (by decide), hs.on ⟨by decide, by decide⟩, heartbeatSeen_stall]
    · rw [after_lastHb, hs.lastHb]
      rfl
    · rw [after_get _ _ _ (notIntake_of_lt (by decide)), hw _ ⟨by decide, by decide⟩, heartbeatSeen_cnt]
    · rw [after_rings, hs.rings]
      rfl
    · rw [after_linkHold, hs.linkHold, heartbeatSeen_linkHold, h]
      simp
    · rw [after_linkHold, hs.linkHold, heartbeatSeen_linkHold, h]
      simp
  · have hl : (s.after (declareStall (linkLost s.dev))).dev.hif.linkHold = true := by
      rw [after_linkHold, declareStall_linkHold]
      rfl
    rw [exec_pcieLinkDown, pcieLinkDown_up h]
    refine ⟨_, rfl, ?_, hl, ?_, ?_⟩
    · rw [after_status _ _ _ (by decide), declareStall_link, linkLost_link]
    · unfold hifQuiet
      rw [hl]
      rfl
    · rw [after_status _ _ _ (by decide), declareStall_stall]
  · rw [exec_pcieLinkDown, pcieLinkDown_down h]

/-- Settles O47: messages by whether their vector is open, and the host's presence by the branches of each command. -/
theorem hostPresence : Obligations.HostPresence :=
  ⟨one_message.1, one_message.2.1, one_message.2.2, moderation_timer.1, moderation_timer.2, mask_writes, msi_flush, host_presence⟩

end Sys2Proof.Machine

/-!
PROOFS. Threads of Dispatch: what joining and leaving a list, the choice of NEXT, and the end of a wait leave alone (R497 to
R502, R510).
-/

namespace Sys2Proof.Machine

open Sys2Proof

variable {d e : Dev} {t : Time} {th c n : Nat}

/-- A word of the thread table, of a processor's CUR and USER, or a count of late or expired targets or of preemptions. -/
def ThreadWord (a : Nat) : Prop :=
  (0x100044 ≤ a ∧ a ≤ 0x10004C) ∨ (0x10010C ≤ a ∧ a < 0x10030C ∧ a % 16 = 0xC) ∨ (0x100300 ≤ a ∧ a < 0x100348) ∨ (0x380000 ≤ a ∧ a < 0x390000)

theorem thstat_addr (th : Nat) : Reg.T_THSTAT.STATE.reg.addr th = 0x390000 + th * 0x10 := RegAt.addr_single rfl th

/-- A register of a thread's status is none of those words. -/
theorem not_threadWord {f : Field} (hf : 0x390000 ≤ f.reg.base) (i : Nat) : ¬ ThreadWord (f.reg.addr i) := by
  have h : 0x390000 ≤ f.reg.addr i := by unfold RegAt.addr; omega
  rintro (h1 | h1 | h1 | h1) <;> omega

theorem thread_addr (th : Nat) : Reg.T_THREAD.CPU.reg.addr th = 0x380000 + th * 0x10 := RegAt.addr_single rfl th

theorem thread_word (h : th < 2048) : ThreadWord (Reg.T_THREAD.CPU.reg.addr th) := by
  rw [thread_addr]
  exact .inr (.inr (.inr ⟨by omega, by omega⟩))

theorem thCpu_lt (d : Dev) (th : Nat) : thCpu d th < 32 := Dev.getN_lt d Reg.T_THREAD.CPU th

theorem setState (d : Dev) (th st u : Nat) (hs : st < 8) :
    thState (d.setN Reg.T_THSTAT.STATE th st) u = if u = th then st else thState d u := by
  unfold thState
  by_cases hu : u = th
  · subst hu
    rw [if_pos rfl, Dev.getN_setN_same _ _ _ _ rfl]
    exact Nat.mod_eq_of_lt hs
  · rw [if_neg hu, Dev.getN_setN_addr _ _ _ _ _ _ (by rw [thstat_addr, thstat_addr]; omega)]

/-! ## Counts, spill marks and NEXT -/

/-- From `e` to `d` only counts, spill marks, NEXT and messages have moved. -/
structure SpillOnly (e d : Dev) : Prop where
  words : Apart ThreadWord e d
  state : ∀ u, thState d u = thState e u
  waits : d.dsp.waits = e.dsp.waits
  ready : d.dsp.ready = e.dsp.ready
  rings : d.hif.rings = e.hif.rings
  paths : d.paths = e.paths

theorem SpillOnly.refl (d : Dev) : SpillOnly d d := ⟨.refl _ d, fun _ => rfl, rfl, rfl, rfl, rfl⟩

theorem SpillOnly.trans {a b x : Dev} (h : SpillOnly a b) (k : SpillOnly b x) : SpillOnly a x :=
  ⟨h.words.trans k.words, fun u => (k.state u).trans (h.state u), k.waits.trans h.waits, k.ready.trans h.ready,
    k.rings.trans h.rings, k.paths.trans h.paths⟩

theorem SpillOnly.cpu (h : SpillOnly e d) (hth : th < 2048) : thCpu d th = thCpu e th := h.words.getN (thread_word hth)

theorem SpillOnly.prio (h : SpillOnly e d) (hth : th < 2048) : thPrio d th = thPrio e th := h.words.getN (thread_word hth)

/-- A write to a word that is neither a watched one nor a thread's state. -/
theorem SpillOnly.setN {f : Field} {i v : Nat} (h : SpillOnly e d) (hw : ¬ ThreadWord (f.reg.addr i))
    (hs : ∀ u, (d.setN f i v).getN Reg.T_THSTAT.STATE u = d.getN Reg.T_THSTAT.STATE u) : SpillOnly e (d.setN f i v) :=
  ⟨h.words.setN hw, fun u => (hs u).trans (h.state u), h.waits, h.ready, h.rings, h.paths⟩

/-- A write below the thread tables. -/
theorem SpillOnly.setN_low {f : Field} {i v : Nat} (h : SpillOnly e d) (hw : ¬ ThreadWord (f.reg.addr i))
    (hl : f.reg.addr i < 0x390000) : SpillOnly e (d.setN f i v) :=
  h.setN hw fun _ => Dev.getN_setN_addr _ _ _ _ _ _ (by rw [thstat_addr]; omega)

/-- A write to another field of a thread's status. -/
theorem SpillOnly.setN_stat {f : Field} {i v : Nat} (h : SpillOnly e d) (hb : 0x390000 ≤ f.reg.base) (hf : f.fits = true)
    (ha : f.apart Reg.T_THSTAT.STATE = true) : SpillOnly e (d.setN f i v) :=
  h.setN (not_threadWord hb i) fun _ => Dev.getN_setN_apart _ _ _ _ _ _ hf rfl ha

/-- A write to another word of a thread's status. -/
theorem SpillOnly.setN_word {f : Field} {i v k : Nat} (h : SpillOnly e d) (hf : f.reg = ⟨0x390000 + k, 0x10, 2048, 1, 0⟩)
    (hk : 0 < k ∧ k < 16) : SpillOnly e (d.setN f i v) := by
  have ha : f.reg.addr i = 0x390000 + k + i * 0x10 := RegAt.addr_single hf i
  exact h.setN (by rw [ha]; unfold ThreadWord; omega) fun u => Dev.getN_setN_addr _ _ _ _ _ _ (by
    rw [thstat_addr, ha]
    omega)

theorem SpillOnly.ite {p : Prop} [Decidable p] {a b : Dev} (ha : SpillOnly e a) (hb : SpillOnly e b) :
    SpillOnly e (if p then a else b) := by
  split
  · exact ha
  · exact hb

theorem SpillOnly.modDsp {f : Dsp → Dsp} (h : SpillOnly e d) (hw : (f d.dsp).waits = d.dsp.waits)
    (hr : (f d.dsp).ready = d.dsp.ready) : SpillOnly e (d.modDsp f) :=
  ⟨h.words.ofRegs rfl, h.state, hw.trans h.waits, hr.trans h.ready, h.rings, h.paths⟩

theorem SpillOnly.dspCounts (h : SpillOnly e d) : SpillOnly e (dspCounts d) := by
  have h1 : ¬ ThreadWord 0x100008 := by unfold ThreadWord; omega
  have h2 : ¬ ThreadWord 0x100018 := by unfold ThreadWord; omega
  unfold Machine.dspCounts
  exact SpillOnly.setN_low (SpillOnly.setN_low (SpillOnly.setN_low h h1 (by decide)) h1 (by decide)) h2 (by decide)

theorem SpillOnly.cause {k i x : Nat} (h : SpillOnly e d) : SpillOnly e (d.cause intDsp k i x) :=
  ⟨h.words.cause (by show ¬ ThreadWord 0x10000C; unfold ThreadWord; omega),
    fun u => (Dev.cause_getN _ _ _ _ _ _ _ (by rw [thstat_addr]; show _ ≠ 0x10000C; omega)).trans (h.state u),
    (congrArg Dsp.waits (Dev.cause_dsp ..)).trans h.waits, (congrArg Dsp.ready (Dev.cause_dsp ..)).trans h.ready,
    (Dev.cause_rings ..).trans h.rings, (Dev.cause_paths ..).trans h.paths⟩

theorem SpillOnly.request {v : Nat} (h : SpillOnly e d) : SpillOnly e (d.request v) := by
  have hd : (d.request v).dsp = d.dsp ∧ (d.request v).paths = d.paths ∧ (d.request v).regs = d.regs := by
    unfold Dev.request
    split <;> exact ⟨rfl, rfl, rfl⟩
  exact ⟨h.words.ofRegs hd.2.2, fun u => (Dev.request_getN ..).trans (h.state u), (congrArg Dsp.waits hd.1).trans h.waits,
    (congrArg Dsp.ready hd.1).trans h.ready, (Dev.request_rings ..).trans h.rings, hd.2.1.trans h.paths⟩

theorem SpillOnly.dspMessage (h : SpillOnly e d) : SpillOnly e (dspMessage c d) := by
  unfold Machine.dspMessage
  exact .ite h.request (h.modDsp rfl rfl)

theorem next_addr (c : Nat) : Reg.DSP_CPUc_NEXT.VALID.reg.addr c = 0x100104 + c * 0x10 := RegAt.addr_single rfl c

theorem SpillOnly.setNext {f : Field} {v : Nat} (h : SpillOnly e d) (hf : f.reg = At.DSP_CPUc_NEXT) (hc : c < 32) :
    SpillOnly e (d.setN f c v) := by
  have ha : f.reg.addr c = 0x100104 + c * 0x10 := by rw [hf]; exact RegAt.addr_single rfl c
  exact h.setN_low (by rw [ha]; unfold ThreadWord; omega) (by rw [ha]; omega)

/-- NEXT of a processor with these values. -/
def nextSet (c th prio valid : Nat) (d : Dev) : Dev :=
  ((d.setN Reg.DSP_CPUc_NEXT.THREAD c th).setN Reg.DSP_CPUc_NEXT.PRIO c prio).setN Reg.DSP_CPUc_NEXT.VALID c valid

/-- NEXT of a processor as its lists have it. -/
def nextShown (c : Nat) (d : Dev) : Dev :=
  match (if dspOn d then nextThread d c else none) with
  | some th => nextSet c th (thPrio d th) 1 d
  | none => nextSet c 0 0 0 d

theorem nextShown_sets (c : Nat) (d : Dev) : ∃ a b v, nextShown c d = nextSet c a b v d := by
  unfold nextShown
  split
  · exact ⟨_, _, _, rfl⟩
  · exact ⟨_, _, _, rfl⟩

/-- NEXT is formed again, and a message may go to the processor. -/
theorem nextRefresh_or (c : Nat) (d : Dev) :
    ∃ a b v, nextRefresh c d = dspMessage c (nextSet c a b v d) ∨ nextRefresh c d = nextSet c a b v d := by
  obtain ⟨a, b, v, h⟩ := nextShown_sets c d
  have ho : nextRefresh c d = dspMessage c (nextShown c d) ∨ nextRefresh c d = nextShown c d := ite_eq_or_eq _ _ _
  rw [h] at ho
  exact ⟨a, b, v, ho⟩

theorem SpillOnly.nextRefresh (h : SpillOnly e d) (hc : c < 32) : SpillOnly e (nextRefresh c d) := by
  obtain ⟨a, b, v, ho⟩ := nextRefresh_or c d
  have h1 : SpillOnly e (nextSet c a b v d) := ((h.setNext rfl hc).setNext rfl hc).setNext rfl hc
  rcases ho with ho | ho <;> rw [ho]
  · exact h1.dspMessage
  · exact h1

theorem SpillOnly.spillReady (h : SpillOnly e d) : SpillOnly e (spillReady th d) := by
  unfold Machine.spillReady spillNote
  exact SpillOnly.setN_stat (SpillOnly.modDsp (.ite h.cause h) rfl rfl) (by decide) rfl rfl

/-! ## Lists (R500) -/

/-- The thread stands in its list and is READY. -/
def listed (th : Nat) (atHead : Bool) (d : Dev) : Dev :=
  (d.modDsp fun x => { x with
    ready := tset x.ready (thCpu d th * 64 + thPrio d th)
      (if atHead then th :: tget d.dsp.ready (thCpu d th * 64 + thPrio d th)
        else tget d.dsp.ready (thCpu d th * 64 + thPrio d th) ++ [th]) }).setN Reg.T_THSTAT.STATE th 2

/-- The thread no longer stands in its list. -/
def unlisted (th : Nat) (d : Dev) : Dev :=
  d.modDsp fun x => { x with
    ready := tset x.ready (thCpu d th * 64 + thPrio d th) ((tget x.ready (thCpu d th * 64 + thPrio d th)).erase th)
    spilledReady := x.spilledReady.erase th }

theorem joinReady_only (th : Nat) (atHead : Bool) (d : Dev) : SpillOnly (listed th atHead d) (joinReady th atHead d) := by
  have h0 := SpillOnly.refl (listed th atHead d)
  unfold Machine.joinReady
  dsimp only
  refine SpillOnly.dspCounts (.ite h0.spillReady (.ite ?_ h0))
  split
  · exact h0.spillReady
  · exact h0

theorem leaveReady_only (th : Nat) (d : Dev) : SpillOnly (unlisted th d) (leaveReady th d) := by
  unfold Machine.leaveReady
  exact SpillOnly.dspCounts (SpillOnly.setN_stat (SpillOnly.refl (unlisted th d)) (by decide) rfl rfl)

theorem listed_state (th : Nat) (atHead : Bool) (d : Dev) (u : Nat) :
    thState (listed th atHead d) u = if u = th then 2 else thState d u := by
  exact setState _ th 2 u (by decide)

theorem listed_words (th : Nat) (atHead : Bool) (d : Dev) : Apart ThreadWord d (listed th atHead d) := by
  unfold listed
  exact Apart.setN (f := Reg.T_THSTAT.STATE) (Apart.ofRegs (.refl _ d) rfl) (not_threadWord (by decide) th)

theorem listed_mem (th : Nat) (atHead : Bool) (d : Dev) :
    th ∈ tget (listed th atHead d).dsp.ready (thCpu d th * 64 + thPrio d th) := by
  show th ∈ tget (tset d.dsp.ready (thCpu d th * 64 + thPrio d th) _) (thCpu d th * 64 + thPrio d th)
  rw [tget_tset_same]
  cases atHead
  · exact List.mem_append_right _ (List.mem_singleton.mpr rfl)
  · exact List.mem_cons_self ..

/-- What a thread's entry into its list leaves of the device. -/
structure Joined (th : Nat) (e d : Dev) : Prop where
  words : Apart ThreadWord e d
  state : ∀ u, thState d u = if u = th then 2 else thState e u
  mem : th ∈ tget d.dsp.ready (thCpu e th * 64 + thPrio e th)
  waits : d.dsp.waits = e.dsp.waits
  rings : d.hif.rings = e.hif.rings
  paths : d.paths = e.paths

theorem joinReady_joined (th : Nat) (atHead : Bool) (d : Dev) : Joined th d (joinReady th atHead d) := by
  have h := joinReady_only th atHead d
  exact ⟨(listed_words th atHead d).trans h.words, fun u => (h.state u).trans (listed_state th atHead d u),
    by rw [h.ready]; exact listed_mem th atHead d, h.waits, h.rings, h.paths⟩

theorem Joined.next {th : Nat} (h : Joined th e d) (hc : c < 32) : Joined th e (nextRefresh c d) := by
  have h1 := (SpillOnly.refl d).nextRefresh hc
  exact ⟨h.words.trans h1.words, fun u => (h1.state u).trans (h.state u), by rw [h1.ready]; exact h.mem,
    h1.waits.trans h.waits, h1.rings.trans h.rings, h1.paths.trans h.paths⟩

/-- Counts and marks that move before a thread joins its list. -/
theorem Joined.after {th : Nat} {x : Dev} (h : SpillOnly e x) (hth : th < 2048) (hj : Joined th x d) : Joined th e d :=
  ⟨h.words.trans hj.words, fun u => by rw [hj.state, h.state], by rw [← h.cpu hth, ← h.prio hth]; exact hj.mem,
    hj.waits.trans h.waits, hj.rings.trans h.rings, hj.paths.trans h.paths⟩

theorem makeReady_joined (hth : th < 2048) (d : Dev) : Joined th d (makeReady th d) := by
  have h1 : SpillOnly d ((d.wrapInc Reg.T_THSTAT.WAKES th).sat Reg.DSP_CNT_WAKE.N) :=
    SpillOnly.setN_low (SpillOnly.setN_word (k := 0xC) (.refl d) rfl (by decide))
      (by show ¬ ThreadWord 0x100040; unfold ThreadWord; omega) (by decide)
  unfold makeReady
  exact ((joinReady_joined th false _).after h1 hth).next (thCpu_lt d th)

/-! ## The end of a wait (Table DSP-6) -/

/-- What the end of a wait leaves, before its thread goes on. -/
structure WaitCleared (th : Nat) (e d : Dev) : Prop where
  words : Apart ThreadWord e d
  state : ∀ u, thState d u = thState e u
  ended : tget d.dsp.waits th = none
  ready : d.dsp.ready = e.dsp.ready
  rings : d.hif.rings = e.hif.rings

theorem clearWait_cleared (th : Nat) (d : Dev) : WaitCleared th d (clearWait th d).2 := by
  have h : SpillOnly (d.modDsp fun x => { x with
      waits := tset x.waits th none, timed := x.timed.filter fun e => e.own != .thread th }) (clearWait th d).2 := by
    unfold clearWait
    exact SpillOnly.dspCounts (SpillOnly.setN_word (k := 8) (SpillOnly.setN_word (k := 4) (SpillOnly.setN_stat
      (SpillOnly.setN_stat (SpillOnly.setN_stat (.refl _) (by decide) rfl rfl) (by decide) rfl rfl) (by decide) rfl rfl)
      rfl (by decide)) rfl (by decide))
  exact ⟨(Apart.ofRegs (.refl _ d) rfl).trans h.words, h.state, by rw [h.waits]; exact tget_tset_same d.dsp.waits th none, h.ready, h.rings⟩

theorem endStarted_regs (n idx st len : Nat) (ext : List Byte) (p : Option Nat) (d : Dev) :
    (endStarted n idx st len ext p d).regs = d.regs := by
  unfold endStarted
  dsimp only
  split <;> rfl

theorem endStarted_dsp (n idx st len : Nat) (ext : List Byte) (p : Option Nat) (d : Dev) :
    (endStarted n idx st len ext p d).dsp = d.dsp := by
  unfold endStarted
  dsimp only
  split <;> rfl

theorem thState_of_regs {x : Dev} (h : x.regs = d.regs) (u : Nat) : thState x u = thState d u := by
  unfold thState Dev.getN
  rw [h]

theorem getN_ofRegs {x : Dev} (h : x.regs = d.regs) (f : Field) (i : Nat) : x.getN f i = d.getN f i := by
  unfold Dev.getN
  rw [h]

theorem WaitCleared.endStarted {idx st len : Nat} {ext : List Byte} {p : Option Nat} (h : WaitCleared th e d) :
    Apart ThreadWord e (endStarted n idx st len ext p d) ∧
      (∀ u, thState (endStarted n idx st len ext p d) u = thState e u) ∧
      tget (endStarted n idx st len ext p d).dsp.waits th = none ∧ (endStarted n idx st len ext p d).dsp.ready = e.dsp.ready :=
  ⟨h.words.ofRegs (endStarted_regs ..), fun u => (thState_of_regs (endStarted_regs ..) u).trans (h.state u),
    by rw [endStarted_dsp]; exact h.ended, by rw [endStarted_dsp]; exact h.ready⟩

theorem wakeThread_waits {w : ThWait} {wake st earg : Nat} (hw : tget d.dsp.waits th = some w) :
    wakeThread t th wake st earg d = makeReady th (endStarted w.ring w.idx st 0
      (dspExt th wake (2 * b2n (clearWait th d).1) t.st32 earg) none (clearWait th d).2) := by
  unfold wakeThread
  rw [hw]

theorem blockThread_waits {w : ThWait} {wake st : Nat} (hw : tget d.dsp.waits th = some w) :
    blockThread th wake st d = endStarted w.ring w.idx st 0
      (dspExtFree th wake (2 * b2n (clearWait th d).1) (clearWait th d).2).1 none
      ((dspExtFree th wake (2 * b2n (clearWait th d).1) (clearWait th d).2).2.setN Reg.T_THSTAT.STATE th 1) := by
  unfold blockThread
  rw [hw]

/-- A thread whose wait has ended and that is READY in its list. -/
structure Woken (th : Nat) (e d : Dev) : Prop where
  words : Apart ThreadWord e d
  state : ∀ u, thState d u = if u = th then 2 else thState e u
  mem : th ∈ tget d.dsp.ready (thCpu e th * 64 + thPrio e th)
  ended : tget d.dsp.waits th = none
  queues : ∀ n, WaitingStands n e d

theorem wakeThread_woken {w : ThWait} {wake st earg : Nat} (hth : th < 2048) (hw : tget d.dsp.waits th = some w) :
    Woken th d (wakeThread t th wake st earg d) := by
  obtain ⟨h1, h2, h3, h4⟩ := (clearWait_cleared th d).endStarted (n := w.ring) (idx := w.idx) (st := st) (len := 0)
    (ext := dspExt th wake (2 * b2n (clearWait th d).1) t.st32 earg) (p := none)
  have hj := makeReady_joined hth (endStarted w.ring w.idx st 0
    (dspExt th wake (2 * b2n (clearWait th d).1) t.st32 earg) none (clearWait th d).2)
  rw [wakeThread_waits hw]
  refine ⟨h1.trans hj.words, fun u => by rw [hj.state, h2], ?_, by rw [hj.waits]; exact h3, fun n => ?_⟩
  · have hm := hj.mem
    rwa [thCpu, thPrio, h1.getN (f := Reg.T_THREAD.CPU) (thread_word hth), h1.getN (f := Reg.T_THREAD.PRIO) (thread_word hth),
      ← thCpu, ← thPrio] at hm
  · exact ((WaitingStands.refl n d).ofHif (clearWait_cleared th d).rings).endStarted.ofHif hj.rings

/-- A thread whose wait has ended and that is BLOCKED. -/
structure BlockedNow (th : Nat) (e d : Dev) : Prop where
  words : Apart ThreadWord e d
  state : ∀ u, thState d u = if u = th then 1 else thState e u
  ended : tget d.dsp.waits th = none
  queues : ∀ n, WaitingStands n e d

theorem blockThread_blocked {w : ThWait} {wake st : Nat} (hw : tget d.dsp.waits th = some w) :
    BlockedNow th d (blockThread th wake st d) := by
  have h := clearWait_cleared th d
  have hd (fl : Nat) (x : Dev) : (dspExtFree th wake fl x).2.regs = x.regs ∧ (dspExtFree th wake fl x).2.dsp = x.dsp ∧
    (dspExtFree th wake fl x).2.hif = x.hif := ⟨rfl, rfl, rfl⟩
  obtain ⟨h1, h2, h3⟩ := hd (2 * b2n (clearWait th d).1) (clearWait th d).2
  rw [blockThread_waits hw]
  refine ⟨Apart.ofRegs (Apart.setN (h.words.ofRegs h1) (not_threadWord (by decide) th)) (endStarted_regs ..), fun u => ?_, ?_,
    fun n => WaitingStands.endStarted (WaitingStands.ofHif (.refl n d) ((congrArg Hif.rings h3).trans h.rings))⟩
  · rw [thState_of_regs (endStarted_regs ..), setState _ _ _ _ (by decide), thState_of_regs h1, h.state]
  · rw [endStarted_dsp, Dev.setN_dsp, h2]
    exact h.ended

end Sys2Proof.Machine

/-!
PROOFS. Dispatch: operations on threads, entries of the thread table, TAKE, and entries that come back from the spill area (R21,
R496 to R503, R511, R514).
-/

namespace Sys2Proof.Machine

open Sys2Proof

variable {d e : Dev} {s : State} {t : Time} {th c n : Nat} {h : Taken}

theorem exec_dspCancel (n : Nat) (s : State) : exec (.dspCancel n) s = .next (s.after (dspCancel s.time n s.dev)) := rfl

theorem exec_dspDelay (n : Nat) (s : State) : exec (.dspDelay n) s = .next (s.after (dspDelay s.time n s.dev)) := rfl

theorem exec_dspReady (n : Nat) (s : State) : exec (.dspReady n) s = .next (s.after (dspReady s.time n s.dev)) := rfl

theorem exec_dspSetPrio (n : Nat) (s : State) :
    exec (.dspSetPrio n) s = .next (s.after (dspSetPrio s.time n s.dev)) := rfl

theorem exec_dspTake (p : Path) (cpu : Nat) (s : State) :
    exec (.dspTake p cpu) s = .next (s.after (if mayTake p cpu s.dev then dspTake p cpu s.dev else s.dev)) := rfl

theorem exec_dspTimer (n : Nat) (s : State) : exec (.dspTimer n) s = .next (s.after (dspTimer s.time n s.dev)) := rfl

theorem exec_dspWait (n : Nat) (s : State) : exec (.dspWait n) s = .next (s.after (dspWait s.time n s.dev)) := rfl

theorem exec_spillFetch (ok : Bool) (s : State) :
    exec (.spillFetch ok) s = .next (s.after (spillFetch s.time ok s.dev)) := rfl

theorem exec_threadValidate (th : Nat) (v : Word32) (s : State) :
    exec (.threadValidate th v) s =
      .next (s.after (if th < 2048 then onWrite 0x380000 (threadValidate th v) s.dev else s.dev)) := rfl

/-! ## The head of a DSPT ring (R21, R514) -/

theorem startable_ring {cls op : Nat} (hh : startable d n cls op = some h) : n < 256 ∧ (d.ring n).cls = cls := by
  unfold startable at hh
  split at hh
  · next hc => exact hc
  · cases hh

section
variable {op : Nat} {f : Taken → Dev → Dev}

theorem dspOp_none (hh : startable d n clsDspt op = none) : dspOp t n op f d = d := by
  unfold dspOp
  rw [hh]

theorem dspOp_reset (hh : startable d n clsDspt op = some h) (hu : d.up islMgt = false) :
    dspOp t n op f d = dspDone t n h stAborted 0 0 false d := by
  unfold dspOp
  rw [hh]
  dsimp only
  rw [if_pos (by simp [hu])]

theorem dspOp_off (hh : startable d n clsDspt op = some h) (hu : d.up islMgt = true) (ho : dspOn d = false) :
    dspOp t n op f d = dspDone t n h stRejected 0 0 false d := by
  unfold dspOp
  rw [hh]
  dsimp only
  rw [if_neg (by simp [hu]), if_pos (by simp [ho])]

theorem dspOn_up (ho : dspOn d = true) : d.up islMgt = true := by
  unfold dspOn at ho
  simp only [Bool.and_eq_true] at ho
  exact ho.1.1

theorem dspOp_on (hh : startable d n clsDspt op = some h) (ho : dspOn d = true) : dspOp t n op f d = f h d := by
  unfold dspOp
  rw [hh]
  dsimp only
  rw [if_neg (by simp [dspOn_up ho]), if_neg (by simp [ho])]
end

theorem dspDone_regs (st wake earg : Nat) (ready : Bool) : (dspDone t n h st wake earg ready d).regs = d.regs := by
  unfold dspDone
  split <;> rfl

theorem dspDone_dsp (st wake earg : Nat) (ready : Bool) : (dspDone t n h st wake earg ready d).dsp = d.dsp := by
  unfold dspDone
  split <;> rfl

theorem dspDone_taken (st wake earg : Nat) (ready : Bool) :
    ((dspDone t n h st wake earg ready d).ring n).taken = (d.ring n).taken.tail := by
  have hr (x : Dev) (hx : x.hif = d.hif) : x.ring n = d.ring n := by rw [Dev.ring, hx, ← Dev.ring]
  unfold dspDone
  split
  · rw [completeHead_ring]
  · dsimp only
    rw [completeHead_ring]
    exact congrArg (fun r : Ring => r.taken.tail) (hr _ rfl)

theorem dspDone_owed (st wake earg : Nat) :
    ((dspDone t n h st wake earg true d).ring n).owed = (d.ring n).owed ++
      [owedOf (d.ring n).cls h.idx h.words st 0 (dspExt (dpThread h.words) wake 0 t.st32 earg)] := by
  unfold dspDone
  rw [if_pos rfl, completeHead_ring]

theorem dspDone_state (st wake earg : Nat) (ready : Bool) (u : Nat) :
    thState (dspDone t n h st wake earg ready d) u = thState d u := thState_of_regs (dspDone_regs ..) u

theorem bits_lt_two_pow (v lo w : Nat) : bits v lo w < 2 ^ w := Nat.mod_lt _ (Nat.two_pow_pos w)

theorem dpThread_lt (ws : DescWords) : dpThread ws < 2048 := by
  unfold dpThread
  exact bits_lt_two_pow _ 0 11

theorem dpPrio_lt (ws : DescWords) : dpPrio ws < 64 := by
  unfold dpPrio
  exact bits_lt_two_pow _ 0 6

theorem thState_after (s : State) (d : Dev) (hth : th < 2048) : thState (s.after d).dev th = thState d th :=
  after_getN _ _ _ _ (by
    rw [thstat_addr]
    rintro (h1 | h1 | h1 | h1 | ⟨c, -, h1⟩) <;> omega)

theorem thField_after {f : Field} {k : Nat} (s : State) (d : Dev) (hf : f.reg = ⟨0x380000 + k, 0x10, 2048, 1, 0⟩) (hk : k < 16)
    (hth : th < 2048) : (s.after d).dev.getN f th = d.getN f th :=
  after_getN _ _ _ _ (by
    rw [RegAt.addr_single hf]
    rintro (h1 | h1 | h1 | h1 | ⟨c, -, h1⟩) <;> omega)

/-! ## READY, CANCEL and SET_PRIO (Table DSP-5) -/

theorem dspReady_on (hh : startable d n clsDspt 0x10 = some h) (ho : dspOn d = true) :
    dspReady t n d = if thState d (dpThread h.words) = 1 then
        dspDone t n h stOk 0 0 true (makeReady (dpThread h.words) d)
      else if thState d (dpThread h.words) = 4 ∨ thState d (dpThread h.words) = 5 then
        dspDone t n h stOk 0 0 true (wakeThread t (dpThread h.words) 2 stOk 0 d)
      else dspDone t n h stRejected 0 0 false d := dspOp_on hh ho

theorem dspCancel_on (hh : startable d n clsDspt 0x13 = some h) (ho : dspOn d = true) :
    dspCancel t n d = if thState d (dpThread h.words) = 0 then dspDone t n h stRejected 0 0 false d
      else dspDone t n h stOk 0 0 false (nextRefresh (thCpu d (dpThread h.words))
        (if thState d (dpThread h.words) = 4 ∨ thState d (dpThread h.words) = 5 then blockThread (dpThread h.words) 3 stOk d
          else (leaveRun (dpThread h.words) d).setN Reg.T_THSTAT.STATE (dpThread h.words) 1)) := dspOp_on hh ho

/-- The thread has its new priority, in its list's order if it is READY. -/
def prioSet (th p : Nat) (d : Dev) : Dev :=
  if thState d th = 2 then joinReady th false ((leaveReady th d).setN Reg.T_THREAD.PRIO th p)
  else d.setN Reg.T_THREAD.PRIO th p

theorem dspSetPrio_on (hh : startable d n clsDspt 0x14 = some h) (ho : dspOn d = true) :
    dspSetPrio t n d = if thState d (dpThread h.words) = 0 then dspDone t n h stRejected 0 0 false d
      else dspDone t n h stOk 0 0 false (nextRefresh (thCpu d (dpThread h.words))
        (prioSet (dpThread h.words) (dpPrio h.words) d)) := dspOp_on hh ho

theorem leaveCur_hif (th : Nat) (d : Dev) : (leaveCur th d).hif = d.hif := by
  unfold leaveCur
  dsimp only
  split <;> rfl

/-- A thread that leaves READY or RUNNING leaves the rings. -/
theorem leaveRun_rings (th : Nat) (d : Dev) : (leaveRun th d).hif.rings = d.hif.rings := by
  unfold leaveRun
  split
  · exact (leaveReady_only th d).rings
  · rw [leaveCur_hif]

theorem setPrio_prio (d : Dev) {p : Nat} (hp : p < 64) : thPrio (d.setN Reg.T_THREAD.PRIO th p) th = p :=
  (Dev.getN_setN_same _ _ _ _ rfl).trans (Nat.mod_eq_of_lt hp)

theorem setThread_state {f : Field} {v : Nat} (hf : f.reg = At.T_THREAD_0) (hth : th < 2048) (d : Dev) (u : Nat) :
    thState (d.setN f th v) u = thState d u :=
  Dev.getN_setN_addr _ _ _ _ _ _ (by
    rw [thstat_addr, hf, show At.T_THREAD_0.addr th = 0x380000 + th * 0x10 from RegAt.addr_single rfl th]
    omega)

theorem prioSet_prio {p : Nat} (hth : th < 2048) (hp : p < 64) : thPrio (prioSet th p d) th = p := by
  unfold prioSet
  split
  · rw [thPrio, (joinReady_joined th false _).words.getN (f := Reg.T_THREAD.PRIO) (thread_word hth), ← thPrio, setPrio_prio _ hp]
  · exact setPrio_prio _ hp

theorem prioSet_state {p : Nat} (hth : th < 2048) : thState (prioSet th p d) th = thState d th := by
  unfold prioSet
  split
  · next hs => rw [(joinReady_joined th false _).state, if_pos rfl, hs]
  · exact setThread_state rfl hth _ _

theorem prioSet_rings {p : Nat} : (prioSet th p d).hif.rings = d.hif.rings := by
  unfold prioSet
  split
  · exact (joinReady_joined th false _).rings.trans (leaveReady_only th d).rings
  · rfl

theorem taken_of_rings {x : Dev} (hx : x.hif.rings = d.hif.rings) : (x.ring n).taken = (d.ring n).taken := by
  rw [Dev.ring, hx, ← Dev.ring]

theorem no_dspt_head :
    ∀ (s : State) (n : Nat),
    (startable s.dev n clsDspt 0x10 = none → exec (.dspReady n) s = .next (s.after s.dev)) ∧
    (startable s.dev n clsDspt 0x11 = none → exec (.dspDelay n) s = .next (s.after s.dev)) ∧
    (startable s.dev n clsDspt 0x12 = none → exec (.dspWait n) s = .next (s.after s.dev)) ∧
    (startable s.dev n clsDspt 0x13 = none → exec (.dspCancel n) s = .next (s.after s.dev)) ∧
    (startable s.dev n clsDspt 0x14 = none → exec (.dspSetPrio n) s = .next (s.after s.dev)) ∧
    (startable s.dev n clsDspt 0x15 = none → exec (.dspTimer n) s = .next (s.after s.dev)) :=
  fun s n => ⟨fun hh => by rw [exec_dspReady, dspReady, dspOp_none hh], fun hh => by rw [exec_dspDelay, dspDelay, dspOp_none hh],
    fun hh => by rw [exec_dspWait, dspWait, dspOp_none hh], fun hh => by rw [exec_dspCancel, dspCancel, dspOp_none hh],
    fun hh => by rw [exec_dspSetPrio, dspSetPrio, dspOp_none hh], fun hh => by rw [exec_dspTimer, dspTimer, dspOp_none hh]⟩

theorem dspt_in_reset :
    ∀ (s : State) (n : Nat) (h : Taken), s.dev.up islMgt = false →
    (startable s.dev n clsDspt 0x10 = some h → exec (.dspReady n) s = 
      .next (s.after (dspDone s.time n h stAborted 0 0 false s.dev))) ∧
    (startable s.dev n clsDspt 0x11 = some h → exec (.dspDelay n) s = 
      .next (s.after (dspDone s.time n h stAborted 0 0 false s.dev))) ∧
    (startable s.dev n clsDspt 0x12 = some h → exec (.dspWait n) s = 
      .next (s.after (dspDone s.time n h stAborted 0 0 false s.dev))) ∧
    (startable s.dev n clsDspt 0x13 = some h → exec (.dspCancel n) s = 
      .next (s.after (dspDone s.time n h stAborted 0 0 false s.dev))) ∧
    (startable s.dev n clsDspt 0x14 = some h → exec (.dspSetPrio n) s = 
      .next (s.after (dspDone s.time n h stAborted 0 0 false s.dev))) ∧
    (startable s.dev n clsDspt 0x15 = some h → exec (.dspTimer n) s = 
      .next (s.after (dspDone s.time n h stAborted 0 0 false s.dev))) :=
  fun s n h hu => ⟨fun hh => by rw [exec_dspReady, dspReady, dspOp_reset hh hu],
    fun hh => by rw [exec_dspDelay, dspDelay, dspOp_reset hh hu], fun hh => by rw [exec_dspWait, dspWait, dspOp_reset hh hu],
    fun hh => by rw [exec_dspCancel, dspCancel, dspOp_reset hh hu],
    fun hh => by rw [exec_dspSetPrio, dspSetPrio, dspOp_reset hh hu],
    fun hh => by rw [exec_dspTimer, dspTimer, dspOp_reset hh hu]⟩

theorem dspt_while_off :
    ∀ (s : State) (n : Nat) (h : Taken), s.dev.up islMgt = true → dspOn s.dev = false →
    (startable s.dev n clsDspt 0x10 = some h → exec (.dspReady n) s = 
      .next (s.after (dspDone s.time n h stRejected 0 0 false s.dev))) ∧
    (startable s.dev n clsDspt 0x11 = some h → exec (.dspDelay n) s = 
      .next (s.after (dspDone s.time n h stRejected 0 0 false s.dev))) ∧
    (startable s.dev n clsDspt 0x12 = some h → exec (.dspWait n) s = 
      .next (s.after (dspDone s.time n h stRejected 0 0 false s.dev))) ∧
    (startable s.dev n clsDspt 0x13 = some h → exec (.dspCancel n) s = 
      .next (s.after (dspDone s.time n h stRejected 0 0 false s.dev))) ∧
    (startable s.dev n clsDspt 0x14 = some h → exec (.dspSetPrio n) s = 
      .next (s.after (dspDone s.time n h stRejected 0 0 false s.dev))) ∧
    (startable s.dev n clsDspt 0x15 = some h → exec (.dspTimer n) s = 
      .next (s.after (dspDone s.time n h stRejected 0 0 false s.dev))) :=
  fun s n h hu ho => ⟨fun hh => by rw [exec_dspReady, dspReady, dspOp_off hh hu ho],
    fun hh => by rw [exec_dspDelay, dspDelay, dspOp_off hh hu ho],
    fun hh => by rw [exec_dspWait, dspWait, dspOp_off hh hu ho],
    fun hh => by rw [exec_dspCancel, dspCancel, dspOp_off hh hu ho],
    fun hh => by rw [exec_dspSetPrio, dspSetPrio, dspOp_off hh hu ho],
    fun hh => by rw [exec_dspTimer, dspTimer, dspOp_off hh hu ho]⟩

theorem ready_operation :
    ∀ (s : State) (n th : Nat) (h : Taken), dspOn s.dev = true → startable s.dev n clsDspt 0x10 = some h →
    th = dpThread h.words →
    (thState s.dev th = 1 → ∃ t, exec (.dspReady n) s = .next t ∧ thState t.dev th = 2 ∧
      th ∈ tget t.dev.dsp.ready (thCpu s.dev th * 64 + thPrio s.dev th) ∧
      (t.dev.ring n).taken = (s.dev.ring n).taken.tail ∧
      (t.dev.ring n).owed = (s.dev.ring n).owed ++ [owedOf clsDspt h.idx h.words stOk 0 (dspExt th 0 0 s.time.st32 0)]) ∧
    (∀ w, thState s.dev th = 4 ∨ thState s.dev th = 5 → tget s.dev.dsp.waits th = some w →
      ∃ t, exec (.dspReady n) s = .next t ∧ thState t.dev th = 2 ∧ tget t.dev.dsp.waits th = none ∧
        th ∈ tget t.dev.dsp.ready (thCpu s.dev th * 64 + thPrio s.dev th) ∧
        (t.dev.ring n).taken = (s.dev.ring n).taken.tail) ∧
    (thState s.dev th ∉ [1, 4, 5] →
      exec (.dspReady n) s = .next (s.after (dspDone s.time n h stRejected 0 0 false s.dev))) := by
  intro s n th h ho hh hth
  have hlt : th < 2048 := hth ▸ dpThread_lt h.words
  subst hth
  refine ⟨fun hs => ?_, fun w hs hw => ?_, fun hs => ?_⟩
  · have hj := makeReady_joined hlt s.dev
    have hr : (makeReady (dpThread h.words) s.dev).ring n = s.dev.ring n := by rw [Dev.ring, hj.rings, ← Dev.ring]
    rw [exec_dspReady, dspReady_on hh ho, if_pos hs]
    refine ⟨_, rfl, ?_, ?_, ?_, ?_⟩
    · rw [thState_after _ _ hlt, dspDone_state, hj.state, if_pos rfl]
    · rw [after_dsp, dspDone_dsp]
      exact hj.mem
    · rw [after_ring, dspDone_taken, hr]
    · rw [after_ring, dspDone_owed, hr, (startable_ring hh).2]
  · have hk := wakeThread_woken (t := s.time) (wake := 2) (st := stOk) (earg := 0) hlt hw
    rw [exec_dspReady, dspReady_on hh ho, if_neg (by omega), if_pos hs]
    refine ⟨_, rfl, ?_, ?_, ?_, ?_⟩
    · rw [thState_after _ _ hlt, dspDone_state, hk.state, if_pos rfl]
    · rw [after_dsp, dspDone_dsp]
      exact hk.ended
    · rw [after_dsp, dspDone_dsp]
      exact hk.mem
    · rw [after_ring, dspDone_taken, (hk.queues n).taken]
  · simp only [List.mem_cons, List.not_mem_nil, or_false, not_or] at hs
    rw [exec_dspReady, dspReady_on hh ho, if_neg hs.1, if_neg (by omega)]

theorem cancel_operation :
    ∀ (s : State) (n th : Nat) (h : Taken), dspOn s.dev = true → startable s.dev n clsDspt 0x13 = some h →
    th = dpThread h.words →
    (thState s.dev th = 0 →
      exec (.dspCancel n) s = .next (s.after (dspDone s.time n h stRejected 0 0 false s.dev))) ∧
    (thState s.dev th ∉ [0, 4, 5] → ∃ t, exec (.dspCancel n) s = .next t ∧ thState t.dev th = 1 ∧
      (t.dev.ring n).taken = (s.dev.ring n).taken.tail) ∧
    (∀ w, thState s.dev th = 4 ∨ thState s.dev th = 5 → tget s.dev.dsp.waits th = some w →
      ∃ t, exec (.dspCancel n) s = .next t ∧ thState t.dev th = 1 ∧ tget t.dev.dsp.waits th = none) := by
  intro s n th h ho hh hth
  have hlt : th < 2048 := hth ▸ dpThread_lt h.words
  subst hth
  have hn (x : Dev) := (SpillOnly.refl x).nextRefresh (thCpu_lt s.dev (dpThread h.words))
  refine ⟨fun hs => ?_, fun hs => ?_, fun w hs hw => ?_⟩
  · rw [exec_dspCancel, dspCancel_on hh ho, if_pos hs]
  · simp only [List.mem_cons, List.not_mem_nil, or_false, not_or] at hs
    rw [exec_dspCancel, dspCancel_on hh ho, if_neg hs.1, if_neg (by omega)]
    refine ⟨_, rfl, ?_, ?_⟩
    · rw [thState_after _ _ hlt, dspDone_state, (hn _).state, setState _ _ _ _ (by decide), if_pos rfl]
    · rw [after_ring, dspDone_taken, taken_of_rings (d := s.dev)]
      exact (hn _).rings.trans (leaveRun_rings _ _)
  · have hb := blockThread_blocked (wake := 3) (st := stOk) hw
    rw [exec_dspCancel, dspCancel_on hh ho, if_neg (by omega), if_pos hs]
    refine ⟨_, rfl, ?_, ?_⟩
    · rw [thState_after _ _ hlt, dspDone_state, (hn _).state, hb.state, if_pos rfl]
    · rw [after_dsp, dspDone_dsp, (hn _).waits]
      exact hb.ended

theorem set_prio_operation :
    ∀ (s : State) (n th : Nat) (h : Taken), dspOn s.dev = true → startable s.dev n clsDspt 0x14 = some h →
    th = dpThread h.words →
    (thState s.dev th = 0 →
      exec (.dspSetPrio n) s = .next (s.after (dspDone s.time n h stRejected 0 0 false s.dev))) ∧
    (thState s.dev th ≠ 0 → ∃ t, exec (.dspSetPrio n) s = .next t ∧ thPrio t.dev th = dpPrio h.words ∧
      thState t.dev th = thState s.dev th ∧ (t.dev.ring n).taken = (s.dev.ring n).taken.tail) := by
  intro s n th h ho hh hth
  have hlt : th < 2048 := hth ▸ dpThread_lt h.words
  subst hth
  have hn (x : Dev) := (SpillOnly.refl x).nextRefresh (thCpu_lt s.dev (dpThread h.words))
  refine ⟨fun hs => ?_, fun hs => ?_⟩
  · rw [exec_dspSetPrio, dspSetPrio_on hh ho, if_pos hs]
  · rw [exec_dspSetPrio, dspSetPrio_on hh ho, if_neg hs]
    refine ⟨_, rfl, ?_, ?_, ?_⟩
    · rw [thPrio, thField_after (k := 0) _ _ rfl (by decide) hlt, getN_ofRegs (dspDone_regs ..), ← thPrio, (hn _).prio hlt,
        prioSet_prio hlt (dpPrio_lt _)]
    · rw [thState_after _ _ hlt, dspDone_state, (hn _).state, prioSet_state hlt]
    · rw [after_ring, dspDone_taken, taken_of_rings (d := s.dev)]
      exact (hn _).rings.trans prioSet_rings

/-! ## Entries of the thread table (R496, R497) -/

theorem exec_threadValidate_up {v : Word32} (hth : th < 2048) (hu : s.dev.up islMgt = true) :
    exec (.threadValidate th v) s = .next (s.after (threadValidate th v s.dev)) := by
  have hu' : s.dev.up (islandOf 0x380000) = true := hu
  rw [exec_threadValidate, if_pos hth, onWrite_up _ hu']

section
variable {v : Word32}

theorem threadValidate_again (hv : bitOf v 0 = true) (ho : d.onN Reg.T_THREAD.VALID th = true) :
    threadValidate th v d = dspRej d := by
  unfold threadValidate
  dsimp only
  rw [if_pos hv, if_pos ho]

/-- CPU and PRIO of a thread's entry. -/
def entrySet (th : Nat) (v : Word32) (d : Dev) : Dev :=
  (d.setN Reg.T_THREAD.CPU th (bits v.toNat 1 5)).setN Reg.T_THREAD.PRIO th (bits v.toNat 6 6)

theorem threadValidate_refused (hv : bitOf v 0 = true) (ho : d.onN Reg.T_THREAD.VALID th = false)
    (hc : 18 ≤ bits v.toNat 1 5 ∨ (512 ≤ th ∧ d.get Reg.DSP_SPILL_CFG.LOG2 = 0)) :
    threadValidate th v d = dspRej (entrySet th v d) := by
  unfold threadValidate
  dsimp only
  rw [if_pos hv, if_neg (by simp [ho]), if_pos hc]
  rfl

theorem threadValidate_valid (hv : bitOf v 0 = true) (ho : d.onN Reg.T_THREAD.VALID th = false)
    (hc : ¬ (18 ≤ bits v.toNat 1 5 ∨ (512 ≤ th ∧ d.get Reg.DSP_SPILL_CFG.LOG2 = 0))) :
    threadValidate th v d = (entrySet th v (d.setN Reg.T_THREAD.VALID th 1)).setN Reg.T_THSTAT.STATE th 1 := by
  unfold threadValidate
  dsimp only
  rw [if_pos hv, if_neg (by simp [ho]), if_neg hc]
  rfl

theorem threadValidate_plain (hv : bitOf v 0 = false) (ho : d.onN Reg.T_THREAD.VALID th = false) :
    threadValidate th v d = entrySet th v d := by
  unfold threadValidate
  dsimp only
  rw [if_neg (by simp [hv]), if_pos (by simp [ho])]
  rfl

theorem threadValidate_clear (hv : bitOf v 0 = false) (ho : d.onN Reg.T_THREAD.VALID th = true) :
    threadValidate th v d = if thState d th = 1 then
      (entrySet th v (d.setN Reg.T_THREAD.VALID th 0)).setN Reg.T_THSTAT.STATE th 0 else dspRej d := by
  unfold threadValidate
  dsimp only
  rw [if_neg (by simp [hv]), if_neg (by simp [ho])]
  rfl
end

theorem entrySet_valid (th : Nat) (v : Word32) (d : Dev) :
    (entrySet th v d).onN Reg.T_THREAD.VALID th = d.onN Reg.T_THREAD.VALID th := by
  unfold entrySet
  rw [Dev.onN_setN_apart _ _ _ _ _ _ rfl rfl rfl, Dev.onN_setN_apart _ _ _ _ _ _ rfl rfl rfl]

theorem entrySet_state (hth : th < 2048) (v : Word32) (d : Dev) (u : Nat) : thState (entrySet th v d) u = thState d u := by
  unfold entrySet
  rw [setThread_state rfl hth, setThread_state rfl hth]

theorem entrySet_cpu (th : Nat) (v : Word32) (d : Dev) : thCpu (entrySet th v d) th = bits v.toNat 1 5 := by
  unfold entrySet thCpu
  rw [Dev.getN_setN_apart _ _ _ _ _ _ rfl rfl rfl, Dev.getN_setN_same _ _ _ _ rfl]
  exact Nat.mod_eq_of_lt (bits_lt_two_pow _ 1 5)

theorem entrySet_prio (th : Nat) (v : Word32) (d : Dev) : thPrio (entrySet th v d) th = bits v.toNat 6 6 := by
  unfold entrySet thPrio
  rw [Dev.getN_setN_same _ _ _ _ rfl]
  exact Nat.mod_eq_of_lt (bits_lt_two_pow _ 6 6)

/-- A thread's state is none of its entry's fields. -/
theorem setState_entry {f : Field} (hf : f.reg = At.T_THREAD_0) (hth : th < 2048) (d : Dev) (v : Nat) :
    (d.setN Reg.T_THSTAT.STATE th v).getN f th = d.getN f th :=
  Dev.getN_setN_addr _ _ _ _ _ _ (by
    rw [thstat_addr, hf, show At.T_THREAD_0.addr th = 0x380000 + th * 0x10 from RegAt.addr_single rfl th]
    omega)

theorem dspRej_entry (hth : th < 2048) (d : Dev) : (dspRej d).onN Reg.T_THREAD.VALID th = d.onN Reg.T_THREAD.VALID th :=
  Dev.cause_onN _ _ _ _ _ _ _ (by
    rw [show Reg.T_THREAD.VALID.reg.addr th = 0x380000 + th * 0x10 from RegAt.addr_single rfl th]
    show _ ≠ 0x10000C
    omega)

theorem dspRej_state (d : Dev) (u : Nat) : thState (dspRej d) u = thState d u := (SpillOnly.refl d).cause.state u

theorem entries_validate :
    ∀ (s : State) (th : Nat) (v : Word32), th < 2048 → s.dev.up islMgt = true →
    (bitOf v 0 = true → s.dev.onN Reg.T_THREAD.VALID th = true →
      exec (.threadValidate th v) s = .next (s.after (s.dev.cause intDsp 0 0 0))) ∧
    (bitOf v 0 = true → s.dev.onN Reg.T_THREAD.VALID th = false →
      18 ≤ bits v.toNat 1 5 ∨ (512 ≤ th ∧ s.dev.get Reg.DSP_SPILL_CFG.LOG2 = 0) →
      ∃ t, exec (.threadValidate th v) s = .next t ∧ t.dev.onN Reg.T_THREAD.VALID th = false ∧
        thState t.dev th = thState s.dev th ∧ bitOf (t.dev.word 0x10000C) 0 = true) ∧
    (bitOf v 0 = false → s.dev.onN Reg.T_THREAD.VALID th = false → exec (.threadValidate th v) s = .next (s.after
      ((s.dev.setN Reg.T_THREAD.CPU th (bits v.toNat 1 5)).setN Reg.T_THREAD.PRIO th (bits v.toNat 6 6)))) ∧
    (bitOf v 0 = true → s.dev.onN Reg.T_THREAD.VALID th = false → bits v.toNat 1 5 < 18 →
      th < 512 ∨ s.dev.get Reg.DSP_SPILL_CFG.LOG2 ≠ 0 →
      ∃ t, exec (.threadValidate th v) s = .next t ∧ t.dev.onN Reg.T_THREAD.VALID th = true ∧ thState t.dev th = 1 ∧
        thCpu t.dev th = bits v.toNat 1 5 ∧ thPrio t.dev th = bits v.toNat 6 6) ∧
    (bitOf v 0 = false → s.dev.onN Reg.T_THREAD.VALID th = true →
      (thState s.dev th = 1 → ∃ t, exec (.threadValidate th v) s = .next t ∧ t.dev.onN Reg.T_THREAD.VALID th = false ∧
        thState t.dev th = 0) ∧
      (thState s.dev th ≠ 1 → exec (.threadValidate th v) s = .next (s.after (s.dev.cause intDsp 0 0 0)))) := by
  intro s th v hth hu
  have hon (d : Dev) : (s.after d).dev.onN Reg.T_THREAD.VALID th = d.onN Reg.T_THREAD.VALID th :=
    congrArg (· != 0) (thField_after (k := 0) s d rfl (by decide) hth)
  refine ⟨fun hv ho => ?_, fun hv ho hc => ?_, fun hv ho => ?_, fun hv ho hc hl => ?_, fun hv ho => ⟨fun hs => ?_, fun hs => ?_⟩⟩
  · rw [exec_threadValidate_up hth hu, threadValidate_again hv ho]
    rfl
  · rw [exec_threadValidate_up hth hu, threadValidate_refused hv ho hc]
    refine ⟨_, rfl, ?_, ?_, ?_⟩
    · rw [hon, dspRej_entry hth, entrySet_valid, ho]
    · rw [thState_after _ _ hth, dspRej_state, entrySet_state hth]
    · rw [after_word _ _ _ (notIntake_of_lt (by decide))]
      exact Dev.cause_sets _ intDsp _ _ _ (by decide)
  · rw [exec_threadValidate_up hth hu, threadValidate_plain hv ho]
    rfl
  · rw [exec_threadValidate_up hth hu, threadValidate_valid hv ho (by omega)]
    refine ⟨_, rfl, ?_, ?_, ?_, ?_⟩
    · rw [hon, Dev.onN, setState_entry rfl hth, ← Dev.onN, entrySet_valid, Dev.onN_setN_same _ _ _ _ rfl]
      rfl
    · rw [thState_after _ _ hth, setState _ _ _ _ (by decide), if_pos rfl]
    · rw [thCpu, thField_after (k := 0) _ _ rfl (by decide) hth, setState_entry rfl hth, ← thCpu, entrySet_cpu]
    · rw [thPrio, thField_after (k := 0) _ _ rfl (by decide) hth, setState_entry rfl hth, ← thPrio, entrySet_prio]
  · rw [exec_threadValidate_up hth hu, threadValidate_clear hv ho, if_pos hs]
    refine ⟨_, rfl, ?_, ?_⟩
    · rw [hon, Dev.onN, setState_entry rfl hth, ← Dev.onN, entrySet_valid, Dev.onN_setN_same _ _ _ _ rfl]
      rfl
    · rw [thState_after _ _ hth, setState _ _ _ _ (by decide), if_pos rfl]
  · rw [exec_threadValidate_up hth hu, threadValidate_clear hv ho, if_neg hs]
    rfl

/-! ## TAKE (R503) -/

/-- The thread of NEXT runs. -/
def nextRuns (th : Nat) (d : Dev) : Dev := (leaveReady th d).setN Reg.T_THSTAT.STATE th 3

/-- The thread that ran goes to the head of its list. -/
def curJoins (c th : Nat) (d : Dev) : Dev :=
  if d.onN Reg.DSP_CPUc_CUR.VALID c then
    (joinReady (d.getN Reg.DSP_CPUc_CUR.THREAD c) true (nextRuns th d)).sat Reg.DSP_CNT_PREEMPT.N
  else nextRuns th d

/-- CUR and USER of the processor show the thread. -/
def curShown (c th user : Nat) (d : Dev) : Dev :=
  ((d.setN Reg.DSP_CPUc_CUR.THREAD c th).setN Reg.DSP_CPUc_CUR.VALID c 1).setN Reg.DSP_CPUc_USER.USER c user

/-- The word that TAKE answers. -/
def takeWord (c : Nat) (d : Dev) : Word32 :=
  BitVec.ofNat 32 (d.getN Reg.DSP_CPUc_NEXT.THREAD c + 2 ^ 11 * d.getN Reg.DSP_CPUc_NEXT.PRIO c + 2 ^ 31)

/-- The device once the thread of NEXT is taken, before the answer. -/
def threadTaken (c : Nat) (d : Dev) : Dev :=
  nextRefresh c (curShown c (d.getN Reg.DSP_CPUc_NEXT.THREAD c)
    (d.getN Reg.T_THREAD.USER (d.getN Reg.DSP_CPUc_NEXT.THREAD c)) (curJoins c (d.getN Reg.DSP_CPUc_NEXT.THREAD c) d))

theorem dspTake_empty {p : Path} (h : d.onN Reg.DSP_CPUc_NEXT.VALID c = false) : dspTake p c d = d.answer p 0 :=
  if_pos (by simp [h])

theorem dspTake_takes {p : Path} (h : d.onN Reg.DSP_CPUc_NEXT.VALID c = true) :
    dspTake p c d = (threadTaken c d).answer p (takeWord c d) := if_neg (by simp [h])

theorem mayTake_lt {p : Path} (h : mayTake p c d = true) : c < 18 := by
  unfold mayTake at h
  simp only [Bool.and_eq_true, decide_eq_true_eq] at h
  exact h.1.1

theorem exec_dspTake_may {p : Path} (h : mayTake p c s.dev = true) :
    exec (.dspTake p c) s = .next (s.after (dspTake p c s.dev)) := by rw [exec_dspTake, if_pos h]

theorem answer_path (d : Dev) (p : Path) (w : Word32) : ((d.answer p w).path p).rd = w :=
  congrArg PathSt.rd (tget_tset_same d.paths (pathNum p) { d.path p with rd := w })

theorem answer_dsp (d : Dev) (p : Path) (w : Word32) : (d.answer p w).dsp = d.dsp := rfl

theorem answer_regs (d : Dev) (p : Path) (w : Word32) : (d.answer p w).regs = d.regs := rfl

theorem nextRuns_words (th : Nat) (d : Dev) : Apart ThreadWord d (nextRuns th d) :=
  Apart.setN (f := Reg.T_THSTAT.STATE) ((Apart.ofRegs (.refl _ d) rfl).trans (leaveReady_only th d).words)
    (not_threadWord (by decide) th)

theorem nextRuns_state (th : Nat) (d : Dev) (u : Nat) : thState (nextRuns th d) u = if u = th then 3 else thState d u := by
  rw [nextRuns, setState _ _ _ _ (by decide), (leaveReady_only th d).state]
  rfl

theorem cur_addr (c : Nat) : Reg.DSP_CPUc_CUR.THREAD.reg.addr c = 0x10010C + c * 0x10 := RegAt.addr_single rfl c

theorem user_addr (c : Nat) : Reg.DSP_CPUc_USER.USER.reg.addr c = 0x100300 + c * 4 := RegAt.addr_single rfl c

/-- A write below the thread tables leaves every thread's state. -/
theorem state_setN_low {f : Field} {i v : Nat} (hf : f.reg.addr i < 0x390000) (u : Nat) :
    thState (d.setN f i v) u = thState d u := Dev.getN_setN_addr _ _ _ _ _ _ (by rw [thstat_addr]; omega)

theorem curShown_state {user : Nat} (hc : c < 18) (u : Nat) : thState (curShown c th user d) u = thState d u := by
  unfold curShown
  rw [state_setN_low (by rw [user_addr]; omega), state_setN_low (by
    rw [show Reg.DSP_CPUc_CUR.VALID.reg.addr c = 0x10010C + c * 0x10 from RegAt.addr_single rfl c]
    omega), state_setN_low (by rw [cur_addr]; omega)]

section
variable (hc : c < 18)
include hc

theorem threadTaken_only : SpillOnly (curShown c (d.getN Reg.DSP_CPUc_NEXT.THREAD c)
    (d.getN Reg.T_THREAD.USER (d.getN Reg.DSP_CPUc_NEXT.THREAD c)) (curJoins c (d.getN Reg.DSP_CPUc_NEXT.THREAD c) d))
    (threadTaken c d) := (SpillOnly.refl _).nextRefresh (by omega)

theorem threadTaken_state (u : Nat) :
    thState (threadTaken c d) u = thState (curJoins c (d.getN Reg.DSP_CPUc_NEXT.THREAD c) d) u := by
  rw [(threadTaken_only hc).state, curShown_state hc]

theorem cur_word : ThreadWord (Reg.DSP_CPUc_CUR.THREAD.reg.addr c) := by
  rw [cur_addr]
  exact .inr (.inl ⟨by omega, by omega, by omega⟩)

theorem user_word : ThreadWord (Reg.DSP_CPUc_USER.USER.reg.addr c) := by
  rw [user_addr]
  exact .inr (.inr (.inl ⟨by omega, by omega⟩))

theorem cur_apart_user (d : Dev) (f : Field) (hf : f.reg = At.DSP_CPUc_CUR) (v : Nat) :
    (d.setN Reg.DSP_CPUc_USER.USER c v).getN f c = d.getN f c :=
  Dev.getN_setN_addr _ _ _ _ _ _ (by
    rw [user_addr, hf, show At.DSP_CPUc_CUR.addr c = 0x10010C + c * 0x10 from RegAt.addr_single rfl c]
    omega)

theorem threadTaken_valid : (threadTaken c d).onN Reg.DSP_CPUc_CUR.VALID c = true := by
  rw [(threadTaken_only hc).words.onN (f := Reg.DSP_CPUc_CUR.VALID) (cur_word hc), curShown, Dev.onN,
    cur_apart_user hc _ _ rfl, Dev.getN_setN_same _ _ _ _ rfl]
  rfl

theorem threadTaken_thread :
    (threadTaken c d).getN Reg.DSP_CPUc_CUR.THREAD c = d.getN Reg.DSP_CPUc_NEXT.THREAD c := by
  rw [(threadTaken_only hc).words.getN (f := Reg.DSP_CPUc_CUR.THREAD) (cur_word hc), curShown,
    cur_apart_user hc _ _ rfl, Dev.getN_setN_apart _ _ _ _ _ _ rfl rfl rfl, Dev.getN_setN_same _ _ _ _ rfl]
  exact Nat.mod_eq_of_lt (Dev.getN_lt d Reg.DSP_CPUc_NEXT.THREAD c)

theorem threadTaken_user : (threadTaken c d).getN Reg.DSP_CPUc_USER.USER c =
    d.getN Reg.T_THREAD.USER (d.getN Reg.DSP_CPUc_NEXT.THREAD c) := by
  rw [(threadTaken_only hc).words.getN (f := Reg.DSP_CPUc_USER.USER) (user_word hc), curShown,
    Dev.getN_setN_same _ _ _ _ rfl]
  exact Nat.mod_eq_of_lt (Dev.getN_lt d Reg.T_THREAD.USER _)

theorem threadTaken_preempt :
    (threadTaken c d).get Reg.DSP_CNT_PREEMPT.N = (curJoins c (d.getN Reg.DSP_CPUc_NEXT.THREAD c) d).get Reg.DSP_CNT_PREEMPT.N := by
  have hp : Reg.DSP_CNT_PREEMPT.N.reg.addr 0 = 0x10004C := by decide
  rw [(threadTaken_only hc).words.get (f := Reg.DSP_CNT_PREEMPT.N) (.inl (by rw [hp]; decide)), curShown, Dev.get,
    Dev.getN_setN_addr _ _ _ _ _ _ (by rw [hp, user_addr]; omega), Dev.getN_setN_addr _ _ _ _ _ _ (by
      rw [hp, show Reg.DSP_CPUc_CUR.VALID.reg.addr c = 0x10010C + c * 0x10 from RegAt.addr_single rfl c]
      omega), Dev.getN_setN_addr _ _ _ _ _ _ (by rw [hp, cur_addr]; omega)]
  rfl

theorem threadTaken_ready :
    (threadTaken c d).dsp.ready = (curJoins c (d.getN Reg.DSP_CPUc_NEXT.THREAD c) d).dsp.ready := (threadTaken_only hc).ready
end

theorem curJoins_none (h : d.onN Reg.DSP_CPUc_CUR.VALID c = false) : curJoins c th d = nextRuns th d := if_neg (by simp [h])

theorem curJoins_cur (h : d.onN Reg.DSP_CPUc_CUR.VALID c = true) : curJoins c th d =
    (joinReady (d.getN Reg.DSP_CPUc_CUR.THREAD c) true (nextRuns th d)).sat Reg.DSP_CNT_PREEMPT.N := if_pos h

theorem curThread_lt (d : Dev) (c : Nat) : d.getN Reg.DSP_CPUc_CUR.THREAD c < 2048 := Dev.getN_lt d Reg.DSP_CPUc_CUR.THREAD c

theorem nextThread_lt (d : Dev) (c : Nat) : d.getN Reg.DSP_CPUc_NEXT.THREAD c < 2048 := Dev.getN_lt d Reg.DSP_CPUc_NEXT.THREAD c

theorem preempt_low : Reg.DSP_CNT_PREEMPT.N.reg.addr 0 < 0x390000 := by decide

theorem cur_after (s : State) (d : Dev) {f : Field} (hf : f.reg.addr c < 0x120000) : (s.after d).dev.getN f c = d.getN f c :=
  after_getN _ _ _ _ (notIntake_of_lt hf)

/-- The state of every thread once one is taken while another runs. -/
theorem threadTaken_states {cur : Nat} (hc : c < 18) (hv : d.onN Reg.DSP_CPUc_CUR.VALID c = true)
    (hth : d.getN Reg.DSP_CPUc_NEXT.THREAD c = th) (hcur : d.getN Reg.DSP_CPUc_CUR.THREAD c = cur) (u : Nat) :
    thState (threadTaken c d) u = if u = cur then 2 else if u = th then 3 else thState d u := by
  have hj := joinReady_joined cur true (nextRuns th d)
  rw [threadTaken_state hc, curJoins_cur hv, hth, hcur, ← nextRuns_state, ← hj.state]
  exact state_setN_low preempt_low u

/-- The thread that ran stands in its list. -/
theorem threadTaken_mem {cur : Nat} (hc : c < 18) (hv : d.onN Reg.DSP_CPUc_CUR.VALID c = true)
    (hcur : d.getN Reg.DSP_CPUc_CUR.THREAD c = cur) (hlt : cur < 2048) :
    cur ∈ tget (threadTaken c d).dsp.ready (thCpu d cur * 64 + thPrio d cur) := by
  have hw := nextRuns_words (d.getN Reg.DSP_CPUc_NEXT.THREAD c) d
  have hm := (joinReady_joined cur true (nextRuns (d.getN Reg.DSP_CPUc_NEXT.THREAD c) d)).mem
  rw [thCpu, thPrio, hw.getN (f := Reg.T_THREAD.CPU) (thread_word hlt), hw.getN (f := Reg.T_THREAD.PRIO) (thread_word hlt)] at hm
  rw [threadTaken_ready hc, curJoins_cur hv, hcur, Dev.sat_dsp]
  exact hm

/-- The preemption is counted. -/
theorem threadTaken_count (hc : c < 18) (hv : d.onN Reg.DSP_CPUc_CUR.VALID c = true) :
    (threadTaken c d).get Reg.DSP_CNT_PREEMPT.N = min (d.get Reg.DSP_CNT_PREEMPT.N + 1) (2 ^ 32 - 1) := by
  have hp : ThreadWord (Reg.DSP_CNT_PREEMPT.N.reg.addr 0) := .inl (by decide)
  have hw : Reg.DSP_CNT_PREEMPT.N.width = 32 := rfl
  rw [threadTaken_preempt hc, curJoins_cur hv, Dev.get_sat_same _ _ rfl, (joinReady_joined _ true _).words.get hp,
    (nextRuns_words _ d).get hp, hw]

theorem take_preempts :
    ∀ (s : State) (p : Path) (c th cur : Nat), mayTake p c s.dev = true → s.dev.onN Reg.DSP_CPUc_NEXT.VALID c = true →
    s.dev.onN Reg.DSP_CPUc_CUR.VALID c = true → th = s.dev.getN Reg.DSP_CPUc_NEXT.THREAD c →
    cur = s.dev.getN Reg.DSP_CPUc_CUR.THREAD c → th ≠ cur →
    ∃ t, exec (.dspTake p c) s = .next t ∧ thState t.dev th = 3 ∧ thState t.dev cur = 2 ∧
      t.dev.onN Reg.DSP_CPUc_CUR.VALID c = true ∧ t.dev.getN Reg.DSP_CPUc_CUR.THREAD c = th ∧
      cur ∈ tget t.dev.dsp.ready (thCpu s.dev cur * 64 + thPrio s.dev cur) ∧
      t.dev.get Reg.DSP_CNT_PREEMPT.N = min (s.dev.get Reg.DSP_CNT_PREEMPT.N + 1) (2 ^ 32 - 1) ∧
      (t.dev.path p).rd = BitVec.ofNat 32 (th + 2 ^ 11 * s.dev.getN Reg.DSP_CPUc_NEXT.PRIO c + 2 ^ 31) := by
  intro s p c th cur hm hv hcv hth hcur hne
  have hc := mayTake_lt hm
  have hca : Reg.DSP_CPUc_CUR.THREAD.reg.addr c < 0x120000 := by rw [cur_addr]; omega
  have hlt : th < 2048 := hth ▸ nextThread_lt _ _
  have hclt : cur < 2048 := hcur ▸ curThread_lt _ _
  rw [exec_dspTake_may hm, dspTake_takes hv]
  refine ⟨_, rfl, ?_, ?_, ?_, ?_, ?_, ?_, ?_⟩
  · rw [thState_after _ _ hlt, thState_of_regs (answer_regs ..), threadTaken_states hc hcv hth.symm hcur.symm, if_neg hne,
      if_pos rfl]
  · rw [thState_after _ _ hclt, thState_of_regs (answer_regs ..), threadTaken_states hc hcv hth.symm hcur.symm, if_pos rfl]
  · rw [Dev.onN, cur_after (f := Reg.DSP_CPUc_CUR.VALID) _ _ hca, getN_ofRegs (answer_regs ..), ← Dev.onN,
      threadTaken_valid hc]
  · rw [cur_after _ _ hca, getN_ofRegs (answer_regs ..), threadTaken_thread hc, hth]
  · rw [after_dsp, answer_dsp]
    exact threadTaken_mem hc hcv hcur.symm hclt
  · rw [after_get _ _ _ (notIntake_of_lt (by decide)), Dev.get, getN_ofRegs (answer_regs ..), ← Dev.get, threadTaken_count hc hcv]
  · rw [Dev.path, after_paths, ← Dev.path, answer_path, takeWord, hth]

theorem take_alone :
    ∀ (s : State) (p : Path) (c : Nat),
    (mayTake p c s.dev = false → exec (.dspTake p c) s = .next (s.after s.dev)) ∧
    (mayTake p c s.dev = true → s.dev.onN Reg.DSP_CPUc_NEXT.VALID c = false →
      exec (.dspTake p c) s = .next (s.after (s.dev.answer p 0))) ∧
    (mayTake p c s.dev = true → s.dev.onN Reg.DSP_CPUc_NEXT.VALID c = true → s.dev.onN Reg.DSP_CPUc_CUR.VALID c = false →
      ∃ t, exec (.dspTake p c) s = .next t ∧ thState t.dev (s.dev.getN Reg.DSP_CPUc_NEXT.THREAD c) = 3 ∧
        t.dev.onN Reg.DSP_CPUc_CUR.VALID c = true ∧
        t.dev.getN Reg.DSP_CPUc_CUR.THREAD c = s.dev.getN Reg.DSP_CPUc_NEXT.THREAD c ∧
        t.dev.getN Reg.DSP_CPUc_USER.USER c = s.dev.getN Reg.T_THREAD.USER (s.dev.getN Reg.DSP_CPUc_NEXT.THREAD c) ∧
        (t.dev.path p).rd = BitVec.ofNat 32 (s.dev.getN Reg.DSP_CPUc_NEXT.THREAD c +
          2 ^ 11 * s.dev.getN Reg.DSP_CPUc_NEXT.PRIO c + 2 ^ 31)) := by
  refine fun s p c => ⟨fun hm => ?_, fun hm hv => ?_, fun hm hv hcv => ?_⟩
  · rw [exec_dspTake, if_neg (by simp [hm])]
  · rw [exec_dspTake_may hm, dspTake_empty hv]
  · have hc := mayTake_lt hm
    have hca : Reg.DSP_CPUc_CUR.THREAD.reg.addr c < 0x120000 := by rw [cur_addr]; omega
    have hua : Reg.DSP_CPUc_USER.USER.reg.addr c < 0x120000 := by rw [user_addr]; omega
    rw [exec_dspTake_may hm, dspTake_takes hv]
    refine ⟨_, rfl, ?_, ?_, ?_, ?_, ?_⟩
    · rw [thState_after _ _ (nextThread_lt _ _), thState_of_regs (answer_regs ..), threadTaken_state hc, curJoins_none hcv,
        nextRuns_state, if_pos rfl]
    · rw [Dev.onN, cur_after (f := Reg.DSP_CPUc_CUR.VALID) _ _ hca, getN_ofRegs (answer_regs ..), ← Dev.onN,
        threadTaken_valid hc]
    · rw [cur_after _ _ hca, getN_ofRegs (answer_regs ..), threadTaken_thread hc]
    · rw [cur_after _ _ hua, getN_ofRegs (answer_regs ..), threadTaken_user hc]
    · rw [Dev.path, after_paths, ← Dev.path, answer_path, takeWord]

/-! ## Entries come back from the spill area (R511, R513) -/

/-- A choice that keeps what it has or takes the next picks one of the list. -/
theorem pick_mem {α : Type} {f : Option α → α → Option α} (hf : ∀ m x, f m x = some x ∨ f m x = m) {l : List α} {m : Option α}
    {a : α} (h : l.foldl f m = some a) : a ∈ l ∨ m = some a := by
  induction l generalizing m with
  | nil => exact .inr h
  | cons x xs ih =>
    rcases ih h with hx | hx
    · exact .inl (List.mem_cons_of_mem _ hx)
    · rcases hf m x with hm | hm
      · rw [hm] at hx
        cases hx
        exact .inl (List.mem_cons_self ..)
      · exact .inr (hm ▸ hx)

theorem earliestSpilled_mem {x : TimedEnt} (h : earliestSpilled t d = some x) : x ∈ d.dsp.timed ∧ x.spilled = true := by
  unfold earliestSpilled at h
  have hm := pick_mem (fun m y => by
    cases m with
    | none => exact .inl rfl
    | some z =>
      dsimp only
      split
      · exact .inl rfl
      · exact .inr rfl) h
  rcases hm with hm | hm
  · exact List.mem_filter.mp hm
  · cases hm

theorem earliestSpilled_none (h : ∀ x ∈ d.dsp.timed, x.spilled = false) : earliestSpilled t d = none := by
  unfold earliestSpilled
  rw [List.filter_eq_nil_iff.mpr fun x hx => by simp [h x hx]]
  rfl

/-- The thread of the higher priority, the one found first among equals. -/
def keepHigher (d : Dev) (m : Option Nat) (th : Nat) : Option Nat :=
  match m with
  | none => some th
  | some u => if thPrio d u < thPrio d th then some th else some u

theorem highestSpilled_eq (d : Dev) : highestSpilled d = d.dsp.spilledReady.foldl (keepHigher d) none := rfl

theorem keepHigher_or (d : Dev) (m : Option Nat) (th : Nat) : keepHigher d m th = some th ∨ keepHigher d m th = m := by
  cases m with
  | none => exact .inl rfl
  | some u =>
    unfold keepHigher
    dsimp only
    split
    · exact .inl rfl
    · exact .inr rfl

/-- The choice ranks at least as high as what it had and as the next. -/
theorem keepHigher_le {m : Option Nat} {a : Nat} (h : keepHigher d m th = some a) :
    thPrio d th ≤ thPrio d a ∧ ∀ u, m = some u → thPrio d u ≤ thPrio d a := by
  cases m with
  | none =>
    cases h
    exact ⟨Nat.le_refl _, fun u hu => absurd hu (by simp)⟩
  | some x =>
    unfold keepHigher at h
    dsimp only at h
    split at h <;> cases h
    · exact ⟨Nat.le_refl _, fun u hu => by cases hu; omega⟩
    · exact ⟨by omega, fun u hu => by cases hu; exact Nat.le_refl _⟩

theorem keepHigher_some (d : Dev) (m : Option Nat) (th : Nat) : ∃ a, keepHigher d m th = some a := by
  cases m with
  | none => exact ⟨th, rfl⟩
  | some u =>
    unfold keepHigher
    dsimp only
    split
    · exact ⟨th, rfl⟩
    · exact ⟨u, rfl⟩

theorem foldHigher_le {l : List Nat} {m : Option Nat} {a : Nat} (h : l.foldl (keepHigher d) m = some a) :
    (∀ u ∈ l, thPrio d u ≤ thPrio d a) ∧ ∀ u, m = some u → thPrio d u ≤ thPrio d a := by
  induction l generalizing m with
  | nil => exact ⟨fun u hu => absurd hu List.not_mem_nil, fun u hu => by
    cases (show m = some a from h).symm.trans hu
    exact Nat.le_refl _⟩
  | cons x xs ih =>
    obtain ⟨y, hy⟩ := keepHigher_some d m x
    rw [List.foldl_cons, hy] at h
    obtain ⟨h1, h2⟩ := ih h
    obtain ⟨h3, h4⟩ := keepHigher_le hy
    refine ⟨fun u hu => ?_, fun u hu => (h4 u hu).trans (h2 y rfl)⟩
    rcases List.mem_cons.mp hu with rfl | hu
    · exact h3.trans (h2 y rfl)
    · exact h1 u hu

theorem highestSpilled_highest (h : highestSpilled d = some th) :
    th ∈ d.dsp.spilledReady ∧ ∀ u ∈ d.dsp.spilledReady, thPrio d u ≤ thPrio d th := by
  rw [highestSpilled_eq] at h
  refine ⟨(pick_mem (keepHigher_or d) h).resolve_right (by simp), (foldHigher_le h).1⟩

theorem spillFetch_down {ok : Bool} (h : d.up islMgt = false) : spillFetch t ok d = d := if_pos (by simp [h])

theorem spillFetch_timed {ok : Bool} {x : TimedEnt} (hu : d.up islMgt = true)
    (hl : (d.dsp.timed.filter fun e => !e.spilled).length < 1792) (he : earliestSpilled t d = some x) :
    spillFetch t ok d = dspCounts (fetchTimed x ok d) := by
  unfold spillFetch
  dsimp only
  rw [if_neg (by simp [hu]), if_pos (by simpa using hl), he]

theorem spillFetch_ready {ok : Bool} (hu : d.up islMgt = true)
    (hl : 1792 ≤ (d.dsp.timed.filter fun e => !e.spilled).length ∨ earliestSpilled t d = none) :
    spillFetch t ok d = if (readyThreads d).length - d.dsp.spilledReady.length < 448 then
        match highestSpilled d with
        | some th => dspCounts (fetchReady th ok d)
        | none => d
      else d := by
  have hn : (if (decide ((d.dsp.timed.filter fun e => !e.spilled).length < 1792)) = true then earliestSpilled t d else none) =
      none := by
    rcases hl with hl | hl
    · rw [if_neg (by simpa using hl)]
    · rw [hl, ite_self]
  unfold spillFetch
  dsimp only
  rw [if_neg (by simp [hu]), hn] <;> rfl

theorem fetch_idle :
    ∀ (s : State) (ok : Bool), s.dev.up islMgt = false ∨
      ((1792 ≤ (s.dev.dsp.timed.filter fun e => !e.spilled).length ∨ earliestSpilled s.time s.dev = none) ∧
        (448 ≤ (readyThreads s.dev).length - s.dev.dsp.spilledReady.length ∨ s.dev.dsp.spilledReady = [])) →
    exec (.spillFetch ok) s = .next (s.after s.dev) := by
  intro s ok h
  rw [exec_spillFetch]
  by_cases hu : s.dev.up islMgt = true
  · obtain h | ⟨hl, hr⟩ := h
    · simp [h] at hu
    · rw [spillFetch_ready hu hl]
      rcases hr with hr | hr
      · rw [if_neg (by omega)]
      · have hn : highestSpilled s.dev = none := by rw [highestSpilled_eq, hr]; rfl
        split
        · rw [hn]
        · rfl
  · rw [spillFetch_down (by simpa using hu)]

/-- An interrupt of Dispatch stands through the end of a wait. -/
theorem clearWait_bit {j : Nat} (th : Nat) (h : bitOf (d.word 0x10000C) j = true) :
    bitOf ((clearWait th d).2.word 0x10000C) j = true := by
  have hs (f : Field) (x : Dev) (v i : Nat) (hf : f.reg.addr i ≠ 0x10000C) : (x.setN f i v).word 0x10000C = x.word 0x10000C :=
    Dev.word_setN _ _ _ _ _ hf.symm
  have hb {b : Nat} (hb : 0x390000 ≤ b) (k : Nat) {f : Field} (hf : f.reg = ⟨b, 0x10, 2048, 1, 0⟩) : f.reg.addr k ≠ 0x10000C := by
    rw [RegAt.addr_single hf]
    omega
  unfold clearWait dspCounts
  dsimp only
  rw [Dev.set, Dev.set, Dev.set, hs _ _ _ _ (by decide), hs _ _ _ _ (by decide), hs _ _ _ _ (by decide),
    hs _ _ _ _ (hb (b := 0x390008) (by decide) th rfl), hs _ _ _ _ (hb (b := 0x390004) (by decide) th rfl),
    hs _ _ _ _ (hb (b := 0x390000) (by decide) th rfl), hs _ _ _ _ (hb (b := 0x390000) (by decide) th rfl),
    hs _ _ _ _ (hb (b := 0x390000) (by decide) th rfl)]
  exact h

theorem word_ofRegs {x : Dev} (h : x.regs = d.regs) (a : Nat) : x.word a = d.word a := by
  unfold Dev.word
  rw [h]

theorem blockThread_bit {j wake st : Nat} (th : Nat) (h : bitOf (d.word 0x10000C) j = true) :
    bitOf ((blockThread th wake st d).word 0x10000C) j = true := by
  cases hw : tget d.dsp.waits th with
  | none =>
    unfold blockThread
    rw [hw]
    exact h
  | some w =>
    rw [blockThread_waits hw, word_ofRegs (endStarted_regs ..), Dev.word_setN _ _ _ _ _ (by rw [thstat_addr]; omega)]
    exact clearWait_bit th h

/-- The device once a spilled target is lost, before its owner is told. -/
def targetLost (x : TimedEnt) (d : Dev) : Dev :=
  (d.modDsp fun y => { y with timed := y.timed.erase x }).cause intDsp 4 0 0

theorem fetchTimed_lost (x : TimedEnt) (d : Dev) : fetchTimed x false d = match x.own with
    | .thread th => blockThread th 0 stRejected (targetLost x d)
    | .timer ring idx _ =>
      endStarted ring idx stRejected 0 (dspExtFree 0 0 2 (targetLost x d)).1 none (dspExtFree 0 0 2 (targetLost x d)).2 := by
  unfold fetchTimed
  rw [if_neg (by simp)]
  rfl

theorem fetchTimed_lost_bit (x : TimedEnt) (d : Dev) : bitOf ((fetchTimed x false d).word 0x10000C) 4 = true := by
  have hb : bitOf ((targetLost x d).word 0x10000C) 4 = true := Dev.cause_sets _ intDsp 4 0 0 (by decide)
  rw [fetchTimed_lost]
  split
  · exact blockThread_bit _ hb
  · rw [word_ofRegs (endStarted_regs ..)]
    exact hb

theorem fetchTimed_kept (x : TimedEnt) (d : Dev) :
    (fetchTimed x true d).dsp.timed = d.dsp.timed.map fun y => if y == x then { x with spilled := false } else y := by
  unfold fetchTimed
  rw [if_pos rfl]
  dsimp only
  split <;> rfl

theorem fetch_timed :
    ∀ (s : State) (ok : Bool) (e : TimedEnt), s.dev.up islMgt = true →
    (s.dev.dsp.timed.filter fun e => !e.spilled).length < 1792 → earliestSpilled s.time s.dev = some e →
    exec (.spillFetch ok) s = .next (s.after (dspCounts (fetchTimed e ok s.dev))) ∧ e ∈ s.dev.dsp.timed ∧
      e.spilled = true ∧ { e with spilled := false } ∈ (fetchTimed e true s.dev).dsp.timed ∧
      bitOf ((fetchTimed e false s.dev).word 0x10000C) 4 = true ∧
      (∀ th w, e.own = .thread th → tget s.dev.dsp.waits th = some w →
        thState (fetchTimed e false s.dev) th = 1 ∧ tget (fetchTimed e false s.dev).dsp.waits th = none) := by
  intro s ok e hu hl he
  obtain ⟨hm, hs⟩ := earliestSpilled_mem he
  refine ⟨by rw [exec_spillFetch, spillFetch_timed hu hl he], hm, hs, ?_, fetchTimed_lost_bit e s.dev, fun th w hown hw => ?_⟩
  · rw [fetchTimed_kept]
    exact List.mem_map.mpr ⟨e, hm, if_pos (beq_self_eq_true e)⟩
  · have hw' : tget (targetLost e s.dev).dsp.waits th = some w := by
      rw [targetLost, Dev.cause_dsp]
      exact hw
    have hb := blockThread_blocked (wake := 0) (st := stRejected) hw'
    rw [fetchTimed_lost, hown]
    exact ⟨by rw [hb.state, if_pos rfl], hb.ended⟩

theorem fetch_ready :
    ∀ (s : State) (ok : Bool) (th : Nat), s.dev.up islMgt = true →
    1792 ≤ (s.dev.dsp.timed.filter fun e => !e.spilled).length ∨ earliestSpilled s.time s.dev = none →
    (readyThreads s.dev).length - s.dev.dsp.spilledReady.length < 448 → highestSpilled s.dev = some th →
    exec (.spillFetch ok) s = .next (s.after (dspCounts (fetchReady th ok s.dev))) ∧ th ∈ s.dev.dsp.spilledReady ∧
      ∀ u ∈ s.dev.dsp.spilledReady, thPrio s.dev u ≤ thPrio s.dev th := by
  intro s ok th hu hl hr hh
  exact ⟨by rw [exec_spillFetch, spillFetch_ready hu hl, if_pos hr, hh], highestSpilled_highest hh⟩

theorem dspMessage_regs (c : Nat) (d : Dev) : (dspMessage c d).regs = d.regs := by
  unfold dspMessage Dev.request
  split
  · split <;> rfl
  · rfl

theorem dspMessage_spilled (c : Nat) (d : Dev) : (dspMessage c d).dsp.spilledReady = d.dsp.spilledReady := by
  unfold dspMessage Dev.request
  split
  · split <;> rfl
  · rfl

theorem nextRefresh_spilled (c : Nat) (d : Dev) : (nextRefresh c d).dsp.spilledReady = d.dsp.spilledReady := by
  obtain ⟨a, b, v, h | h⟩ := nextRefresh_or c d <;> rw [h]
  · exact dspMessage_spilled c _
  · rfl

/-- NEXT is no thread's status. -/
theorem nextRefresh_stat (hc : c < 32) (f : Field) (i : Nat) (hf : 0x390000 ≤ f.reg.addr i) :
    (nextRefresh c d).getN f i = d.getN f i := by
  have hs (a b v : Nat) : (nextSet c a b v d).getN f i = d.getN f i := by
    have hn (g : Field) (hg : g.reg = At.DSP_CPUc_NEXT) (x : Dev) (w : Nat) : (x.setN g c w).getN f i = x.getN f i :=
      Dev.getN_setN_addr _ _ _ _ _ _ (by
        rw [hg, show At.DSP_CPUc_NEXT.addr c = 0x100104 + c * 0x10 from RegAt.addr_single rfl c]
        omega)
    rw [nextSet, hn _ rfl, hn _ rfl, hn _ rfl]
  obtain ⟨a, b, v, h | h⟩ := nextRefresh_or c d <;> rw [h]
  · rw [getN_ofRegs (dspMessage_regs ..), hs]
  · exact hs a b v

theorem dspCounts_stat (d : Dev) (f : Field) (i : Nat) (hf : 0x390000 ≤ f.reg.addr i) : (dspCounts d).getN f i = d.getN f i := by
  have hs (g : Field) (x : Dev) (v : Nat) (hg : g.reg.addr 0 < 0x390000) : (x.set g v).getN f i = x.getN f i :=
    Dev.getN_setN_addr _ _ _ _ _ _ (by omega)
  unfold dspCounts
  rw [hs _ _ _ (by decide), hs _ _ _ (by decide), hs _ _ _ (by decide)]

theorem spilled_addr (th : Nat) : Reg.T_THSTAT.SPILLED.reg.addr th = 0x390000 + th * 0x10 := RegAt.addr_single rfl th

/-- A READY entry that came back: it is marked no longer, and stands where it stood. -/
theorem fetchReady_back (d : Dev) :
    (fetchReady th true d).dsp.spilledReady = d.dsp.spilledReady.erase th ∧
      (fetchReady th true d).getN Reg.T_THSTAT.SPILLED th = 0 ∧ (fetchReady th true d).dsp.ready = d.dsp.ready := by
  have he : fetchReady th true d = nextRefresh (thCpu d th)
    ((d.modDsp fun x => { x with spilledReady := x.spilledReady.erase th }).setN Reg.T_THSTAT.SPILLED th 0) := if_pos rfl
  have hn := (SpillOnly.refl ((d.modDsp fun x => { x with spilledReady := x.spilledReady.erase th }).setN
    Reg.T_THSTAT.SPILLED th 0)).nextRefresh (thCpu_lt d th)
  rw [he]
  refine ⟨nextRefresh_spilled _ _, ?_, hn.ready⟩
  rw [nextRefresh_stat (thCpu_lt d th) _ _ (by rw [spilled_addr]; omega), Dev.getN_setN_same _ _ _ _ rfl]
  rfl

/-- A READY entry that is lost: its thread is BLOCKED, and DSP_INT tells. -/
theorem fetchReady_lost (d : Dev) :
    (fetchReady th false d).dsp.spilledReady = d.dsp.spilledReady.erase th ∧ thState (fetchReady th false d) th = 1 ∧
      bitOf ((fetchReady th false d).word 0x10000C) 4 = true := by
  have he : fetchReady th false d = ((leaveReady th d).setN Reg.T_THSTAT.STATE th 1).cause intDsp 4 0 0 := if_neg (by simp)
  rw [he]
  refine ⟨by rw [Dev.cause_dsp]; rfl, ?_, Dev.cause_sets _ intDsp 4 0 0 (by decide)⟩
  rw [(SpillOnly.refl _).cause.state, setState _ _ _ _ (by decide), if_pos rfl]

theorem dspCounts_only (d : Dev) : SpillOnly d (dspCounts d) := (SpillOnly.refl d).dspCounts

theorem dspCounts_bit {j : Nat} (h : bitOf (d.word 0x10000C) j = true) : bitOf ((dspCounts d).word 0x10000C) j = true := by
  unfold dspCounts
  rw [Dev.set, Dev.set, Dev.set, Dev.word_setN _ _ _ _ _ (by decide), Dev.word_setN _ _ _ _ _ (by decide),
    Dev.word_setN _ _ _ _ _ (by decide)]
  exact h

theorem fetch_last :
    ∀ (s : State) (th : Nat), th < 2048 → s.dev.up islMgt = true → s.dev.dsp.spilledReady = [th] →
    (∀ e ∈ s.dev.dsp.timed, e.spilled = false) → (readyThreads s.dev).length < 449 →
    (∃ t, exec (.spillFetch true) s = .next t ∧ t.dev.dsp.spilledReady = [] ∧
      t.dev.getN Reg.T_THSTAT.SPILLED th = 0 ∧ t.dev.dsp.ready = s.dev.dsp.ready) ∧
    (∃ t, exec (.spillFetch false) s = .next t ∧ t.dev.dsp.spilledReady = [] ∧ thState t.dev th = 1 ∧
      bitOf (t.dev.word 0x10000C) 4 = true) := by
  intro s th hth hu hr ht hl
  have hlen : (readyThreads s.dev).length - s.dev.dsp.spilledReady.length < 448 := by
    rw [hr, List.length_singleton]
    omega
  have he (ok : Bool) : spillFetch s.time ok s.dev = dspCounts (fetchReady th ok s.dev) := by
    rw [spillFetch_ready hu (.inr (earliestSpilled_none ht)), if_pos hlen, highestSpilled_eq, hr]
    rfl
  have hz : s.dev.dsp.spilledReady.erase th = [] := by
    rw [hr]
    exact List.erase_cons_head ..
  obtain ⟨hb1, hb2, hb3⟩ := fetchReady_back (th := th) s.dev
  obtain ⟨hl1, hl2, hl3⟩ := fetchReady_lost (th := th) s.dev
  refine ⟨⟨_, by rw [exec_spillFetch, he], ?_, ?_, ?_⟩, ⟨_, by rw [exec_spillFetch, he], ?_, ?_, ?_⟩⟩
  · rw [after_dsp]
    exact hb1.trans hz
  · rw [after_getN _ _ _ _ (notIntake_between (by rw [spilled_addr]; omega) (by rw [spilled_addr]; omega)),
      dspCounts_stat _ _ _ (by rw [spilled_addr]; omega), hb2]
  · rw [after_dsp, (dspCounts_only _).ready, hb3]
  · rw [after_dsp]
    exact hl1.trans hz
  · rw [thState_after _ _ hth, (dspCounts_only _).state, hl2]
  · rw [after_word _ _ _ (notIntake_of_lt (by decide))]
    exact dspCounts_bit hl3

/-- Settles O48: the operations by the state of their thread, the table's entries, TAKE, and the spill area by the branches of
their commands. -/
theorem dispatchOperations : Obligations.DispatchOperations :=
  ⟨⟨no_dspt_head, dspt_in_reset, dspt_while_off, ready_operation, cancel_operation, set_prio_operation⟩,
    entries_validate, fun s th v h => by rw [exec_threadValidate, if_neg (by omega)], take_preempts, take_alone, fetch_idle,
    fetch_timed, fetch_ready, fetch_last⟩

end Sys2Proof.Machine

/-!
PROOFS. Dispatch: delays, waits and timers, their targets, and the tick (R503 to R506, R510).
-/

namespace Sys2Proof.Machine

open Sys2Proof

variable {d : Dev} {s : State} {t : Time} {th c n : Nat} {h : Taken} {e : TimedEnt}

theorem exec_dispatchTick (s : State) : exec .dispatchTick s = .next (s.after (dispatchTick s.time s.dev)) := rfl

/-! ## A wait begins (R503) -/

theorem dspMessage_timed (c : Nat) (d : Dev) : (dspMessage c d).dsp.timed = d.dsp.timed := by
  unfold dspMessage Dev.request
  split
  · split <;> rfl
  · rfl

theorem nextRefresh_timed (c : Nat) (d : Dev) : (nextRefresh c d).dsp.timed = d.dsp.timed := by
  obtain ⟨a, b, v, h | h⟩ := nextRefresh_or c d <;> rw [h]
  · exact dspMessage_timed c _
  · rfl

theorem leaveRun_timed (th : Nat) (d : Dev) : (leaveRun th d).dsp.timed = d.dsp.timed := by
  unfold leaveRun leaveCur
  split
  · rfl
  · dsimp only
    split <;> rfl

/-- The thread's wait is noted. -/
def waitNoted (t : Time) (n : Nat) (h : Taken) (kind : Nat) (d : Dev) : Dev :=
  (leaveRun (dpThread h.words) (startHead t n h d)).modDsp fun x => { x with
    waits := tset x.waits (dpThread h.words)
      (some ⟨n, h.idx, kind, dpArg h.words, dpEpoch h.words, dpEdge h.words⟩) }

theorem beginWait_eq (t : Time) (n : Nat) (h : Taken) (kind st : Nat) (d : Dev) :
    beginWait t n h kind st d = nextRefresh (thCpu d (dpThread h.words))
      (((waitNoted t n h kind d).setN Reg.T_THSTAT.STATE (dpThread h.words) st).setN Reg.T_THSTAT.WAIT (dpThread h.words) kind) :=
  rfl

theorem beginWait_only (t : Time) (n : Nat) (h : Taken) (kind st : Nat) (d : Dev) :
    SpillOnly ((waitNoted t n h kind d).setN Reg.T_THSTAT.STATE (dpThread h.words) st) (beginWait t n h kind st d) := by
  rw [beginWait_eq]
  exact SpillOnly.nextRefresh (SpillOnly.setN_stat (.refl _) (by decide) rfl rfl) (thCpu_lt d _)

theorem beginWait_state (kind : Nat) {st : Nat} (hs : st < 8) : thState (beginWait t n h kind st d) (dpThread h.words) = st := by
  rw [(beginWait_only t n h kind st d).state, setState _ _ _ _ hs, if_pos rfl]

theorem beginWait_waits (kind st : Nat) : tget (beginWait t n h kind st d).dsp.waits (dpThread h.words) =
    some ⟨n, h.idx, kind, dpArg h.words, dpEpoch h.words, dpEdge h.words⟩ := by
  rw [(beginWait_only t n h kind st d).waits]
  exact tget_tset_same (leaveRun (dpThread h.words) (startHead t n h d)).dsp.waits (dpThread h.words)
    (some ⟨n, h.idx, kind, dpArg h.words, dpEpoch h.words, dpEdge h.words⟩)

theorem beginWait_timed (kind st : Nat) : (beginWait t n h kind st d).dsp.timed = d.dsp.timed := by
  rw [beginWait_eq, nextRefresh_timed]
  exact leaveRun_timed _ _

/-! ## A target is held (R510, R512) -/

/-- The target stands behind those held. -/
def targetHeld (e : TimedEnt) (d : Dev) : Dev := dspCounts (d.modDsp fun s => { s with timed := s.timed ++ [e] })

/-- On chip there is room. -/
theorem holdTimed_room (hl : d.dsp.timed.length < 2048) : holdTimed t e d = some (targetHeld e d) := by
  have hf : (d.dsp.timed.filter fun x => !x.spilled).length < 2048 := (List.length_filter_le _ _).trans_lt hl
  unfold holdTimed
  dsimp only
  rw [if_pos hf]
  rfl

theorem targetHeld_timed (e : TimedEnt) (d : Dev) : (targetHeld e d).dsp.timed = d.dsp.timed ++ [e] := rfl

theorem targetHeld_ring (e : TimedEnt) (d : Dev) (n : Nat) : (targetHeld e d).ring n = d.ring n := rfl

/-! ## DELAY, WAIT and TIMER -/

section
variable (ho : dspOn d = true)
include ho

theorem dspDelay_on (hh : startable d n clsDspt 0x11 = some h) :
    dspDelay t n d = if mayWait d (dpThread h.words) then waitTimed t n h (beginWait t n h 1 4) d
      else dspDone t n h stRejected 0 0 false d := dspOp_on hh ho

/-- The wait of a WAIT begins. -/
def waitBegins (t : Time) (n : Nat) (h : Taken) (d : Dev) : Dev :=
  (beginWait t n h (dpEvent h.words + 2) 5 d).setN Reg.T_THSTAT.ARG (dpThread h.words) (dpArg h.words)

/-- The wait of a WAIT with a time limit begins. -/
def limitBegins (t : Time) (n : Nat) (h : Taken) (d : Dev) : Dev :=
  (waitBegins t n h d).setN Reg.T_THSTAT.TMO (dpThread h.words) 1

theorem dspWait_on (hh : startable d n clsDspt 0x12 = some h) :
    dspWait t n d = if !mayWait d (dpThread h.words) then dspDone t n h stRejected 0 0 false d
      else match alreadyClosed d h.words with
        | some i => wakeThread t (dpThread h.words) 0 stOk (i % 2 ^ 32) (waitBegins t n h d)
        | none => if dpTmo h.words then waitTimed t n h (limitBegins t n h) d else waitBegins t n h d := dspOp_on hh ho

/-- The target of a TIMER. -/
def timerEnt (n : Nat) (h : Taken) : TimedEnt :=
  ⟨.timer n h.idx (bits (dpArg h.words) 0 6), dpTime h.words, dpEpoch h.words, dpTol h.words, false, false⟩

theorem dspTimer_on (hh : startable d n clsDspt 0x15 = some h) :
    dspTimer t n d = if dspDue t d (dpTime h.words) (dpEpoch h.words) ≤ 0 then
        timedFire t (-dspDue t d (dpTime h.words) (dpEpoch h.words)).toNat (timerEnt n h) (startHead t n h d)
      else match holdTimed t (timerEnt n h) d with
        | none => dspDone t n h stNoSpace 0 0 false ((d.sat Reg.DSP_CNT_NOSPACE.N).cause intDsp 3 0 stNoSpace)
        | some d1 => startHead t n h d1 := dspOp_on hh ho
end

/-- The target of a DELAY or of a WAIT with a time limit. -/
def waitEnt (h : Taken) : TimedEnt :=
  ⟨.thread (dpThread h.words), dpTime h.words, dpEpoch h.words, dpTol h.words, false, false⟩

section
variable {b : Dev → Dev}

theorem waitTimed_due (hd : dspDue t d (dpTime h.words) (dpEpoch h.words) ≤ 0) :
    waitTimed t n h b d = timedFire t (-dspDue t d (dpTime h.words) (dpEpoch h.words)).toNat (waitEnt h) (b d) := if_pos hd

theorem waitTimed_full (hd : 0 < dspDue t d (dpTime h.words) (dpEpoch h.words)) (hh : holdTimed t (waitEnt h) d = none) :
    waitTimed t n h b d = dspDone t n h stNoSpace 0 0 false ((d.sat Reg.DSP_CNT_NOSPACE.N).cause intDsp 3 0 stNoSpace) := by
  unfold waitTimed
  dsimp only
  rw [if_neg (by omega)]
  unfold waitEnt at hh
  rw [hh]

theorem waitTimed_held {x : Dev} (hd : 0 < dspDue t d (dpTime h.words) (dpEpoch h.words))
    (hh : holdTimed t (waitEnt h) d = some x) :
    waitTimed t n h b d = (b x).setN Reg.T_THSTAT.TARGET (dpThread h.words) (dpTime h.words) := by
  unfold waitTimed
  dsimp only
  rw [if_neg (by omega)]
  unfold waitEnt at hh
  rw [hh]
end

theorem target_addr (th : Nat) : Reg.T_THSTAT.TARGET.reg.addr th = 0x390004 + th * 0x10 := RegAt.addr_single rfl th

/-- The target that a thread shows is none of its state. -/
theorem setTarget_state (d : Dev) (th v u : Nat) : thState (d.setN Reg.T_THSTAT.TARGET th v) u = thState d u :=
  (SpillOnly.setN_word (k := 4) (.refl d) rfl (by decide)).state u

theorem waitBegins_state : thState (waitBegins t n h d) (dpThread h.words) = 5 :=
  ((SpillOnly.setN_word (k := 8) (.refl (beginWait t n h (dpEvent h.words + 2) 5 d)) rfl (by decide)).state _).trans
    (beginWait_state _ (by decide))

theorem limitBegins_state : thState (limitBegins t n h d) (dpThread h.words) = 5 :=
  ((SpillOnly.setN_stat (.refl (waitBegins t n h d)) (by decide) rfl rfl).state _).trans waitBegins_state

theorem limitBegins_tmo : (limitBegins t n h d).onN Reg.T_THSTAT.TMO (dpThread h.words) = true := by
  unfold limitBegins
  rw [Dev.onN_setN_same _ _ _ _ rfl]
  rfl

theorem delay_held :
    ∀ (s : State) (n : Nat) (h : Taken), dspOn s.dev = true → startable s.dev n clsDspt 0x11 = some h →
    (mayWait s.dev (dpThread h.words) = false →
      exec (.dspDelay n) s = .next (s.after (dspDone s.time n h stRejected 0 0 false s.dev))) ∧
    (mayWait s.dev (dpThread h.words) = true → 0 < dspDue s.time s.dev (dpTime h.words) (dpEpoch h.words) →
      s.dev.dsp.timed.length < 2048 → ∃ t, exec (.dspDelay n) s = .next t ∧ thState t.dev (dpThread h.words) = 4 ∧
        tget t.dev.dsp.waits (dpThread h.words) = some ⟨n, h.idx, 1, dpArg h.words, dpEpoch h.words, dpEdge h.words⟩ ∧
        t.dev.dsp.timed = s.dev.dsp.timed ++
          [⟨.thread (dpThread h.words), dpTime h.words, dpEpoch h.words, dpTol h.words, false, false⟩] ∧
        t.dev.getN Reg.T_THSTAT.TARGET (dpThread h.words) = dpTime h.words % 2 ^ 32) := by
  refine fun s n h ho hh => ⟨fun hm => ?_, fun hm hd hl => ?_⟩
  · rw [exec_dspDelay, dspDelay_on ho hh, if_neg (by simp [hm])]
  · have hlt := dpThread_lt h.words
    rw [exec_dspDelay, dspDelay_on ho hh, if_pos hm, waitTimed_held hd (holdTimed_room hl)]
    refine ⟨_, rfl, ?_, ?_, ?_, ?_⟩
    · rw [thState_after _ _ hlt, setTarget_state, beginWait_state _ (by decide)]
    · rw [after_dsp, Dev.setN_dsp, beginWait_waits]
    · rw [after_dsp, Dev.setN_dsp, beginWait_timed, targetHeld_timed]
      rfl
    · rw [after_getN _ _ _ _ (notIntake_between (by rw [target_addr]; omega) (by rw [target_addr]; omega)),
        Dev.getN_setN_same _ _ _ _ rfl]
      rfl

theorem delay_and_wait :
    ∀ (s : State) (n th : Nat) (h : Taken) (e : TimedEnt), dspOn s.dev = true → th = dpThread h.words →
    e = ⟨.thread th, dpTime h.words, dpEpoch h.words, dpTol h.words, false, false⟩ → mayWait s.dev th = true →
    (startable s.dev n clsDspt 0x11 = some h →
      (dspDue s.time s.dev e.target e.epoch ≤ 0 → exec (.dspDelay n) s = .next (s.after
        (timedFire s.time (-dspDue s.time s.dev e.target e.epoch).toNat e (beginWait s.time n h 1 4 s.dev)))) ∧
      (0 < dspDue s.time s.dev e.target e.epoch → holdTimed s.time e s.dev = none → exec (.dspDelay n) s = .next (s.after
        (dspDone s.time n h stNoSpace 0 0 false ((s.dev.sat Reg.DSP_CNT_NOSPACE.N).cause intDsp 3 0 stNoSpace)))) ∧
      (∀ d, 0 < dspDue s.time s.dev e.target e.epoch → holdTimed s.time e s.dev = some d → exec (.dspDelay n) s =
        .next (s.after ((beginWait s.time n h 1 4 d).setN Reg.T_THSTAT.TARGET th (dpTime h.words))))) ∧
    (startable s.dev n clsDspt 0x12 = some h →
      (∀ i, alreadyClosed s.dev h.words = some i → ∃ t, exec (.dspWait n) s = .next t ∧ thState t.dev th = 2 ∧
        tget t.dev.dsp.waits th = none) ∧
      (alreadyClosed s.dev h.words = none → dpTmo h.words = true → ∃ b, exec (.dspWait n) s = .next (s.after
          (waitTimed s.time n h b s.dev)) ∧ (∀ d, thState (b d) th = 5 ∧ (b d).onN Reg.T_THSTAT.TMO th = true) ∧
        (0 < dspDue s.time s.dev e.target e.epoch → holdTimed s.time e s.dev = none →
          waitTimed s.time n h b s.dev = dspDone s.time n h stNoSpace 0 0 false
            ((s.dev.sat Reg.DSP_CNT_NOSPACE.N).cause intDsp 3 0 stNoSpace)) ∧
        (∀ d, 0 < dspDue s.time s.dev e.target e.epoch → holdTimed s.time e s.dev = some d →
          waitTimed s.time n h b s.dev = (b d).setN Reg.T_THSTAT.TARGET th (dpTime h.words)) ∧
        (dspDue s.time s.dev e.target e.epoch ≤ 0 →
          waitTimed s.time n h b s.dev = timedFire s.time (-dspDue s.time s.dev e.target e.epoch).toNat e (b s.dev)))) := by
  rintro s n th h e ho rfl he hm
  have he' : e = waitEnt h := he
  subst he'
  refine ⟨fun hh => ⟨fun hd => ?_, fun hd hn => ?_, fun d hd hs => ?_⟩, fun hh => ⟨fun i hi => ?_, fun hi ht =>
    ⟨limitBegins s.time n h, ?_, fun d => ⟨limitBegins_state, limitBegins_tmo⟩, fun hd hn => waitTimed_full hd hn,
      fun d hd hs => waitTimed_held hd hs, fun hd => waitTimed_due hd⟩⟩⟩
  · rw [exec_dspDelay, dspDelay_on ho hh, if_pos hm, waitTimed_due hd]
    rfl
  · rw [exec_dspDelay, dspDelay_on ho hh, if_pos hm, waitTimed_full hd hn]
  · rw [exec_dspDelay, dspDelay_on ho hh, if_pos hm, waitTimed_held hd hs]
  · have hk := wakeThread_woken (t := s.time) (wake := 0) (st := stOk) (earg := i % 2 ^ 32) (dpThread_lt h.words)
      (show tget (waitBegins s.time n h s.dev).dsp.waits (dpThread h.words) = some _ from beginWait_waits _ _)
    rw [exec_dspWait, dspWait_on ho hh, if_neg (by simp [hm]), hi]
    refine ⟨_, rfl, ?_, ?_⟩
    · rw [thState_after _ _ (dpThread_lt _), hk.state, if_pos rfl]
    · rw [after_dsp]
      exact hk.ended
  · rw [exec_dspWait, dspWait_on ho hh, if_neg (by simp [hm]), hi]
    exact congrArg (fun x => Host.Outcome.next (s.after x)) (if_pos ht)

theorem timer_taken :
    ∀ (s : State) (n : Nat) (h : Taken) (e : TimedEnt), dspOn s.dev = true → startable s.dev n clsDspt 0x15 = some h →
    e = ⟨.timer n h.idx (bits (dpArg h.words) 0 6), dpTime h.words, dpEpoch h.words, dpTol h.words, false, false⟩ →
    (dspDue s.time s.dev e.target e.epoch ≤ 0 → exec (.dspTimer n) s = .next (s.after
      (timedFire s.time (-dspDue s.time s.dev e.target e.epoch).toNat e (startHead s.time n h s.dev)))) ∧
    (0 < dspDue s.time s.dev e.target e.epoch → holdTimed s.time e s.dev = none → exec (.dspTimer n) s = .next (s.after
      (dspDone s.time n h stNoSpace 0 0 false ((s.dev.sat Reg.DSP_CNT_NOSPACE.N).cause intDsp 3 0 stNoSpace)))) ∧
    (∀ d, 0 < dspDue s.time s.dev e.target e.epoch → holdTimed s.time e s.dev = some d →
      exec (.dspTimer n) s = .next (s.after (startHead s.time n h d))) := by
  rintro s n h e ho hh he
  have he' : e = timerEnt n h := he
  subst he'
  refine ⟨fun hd => ?_, fun hd hn => ?_, fun d hd hs => ?_⟩
  · rw [exec_dspTimer, dspTimer_on ho hh]
    exact congrArg (fun x => Host.Outcome.next (s.after x)) (if_pos hd)
  · have hd' : 0 < dspDue s.time s.dev (dpTime h.words) (dpEpoch h.words) := hd
    rw [exec_dspTimer, dspTimer_on ho hh, if_neg (Int.not_le.mpr hd'), hn]
  · have hd' : 0 < dspDue s.time s.dev (dpTime h.words) (dpEpoch h.words) := hd
    rw [exec_dspTimer, dspTimer_on ho hh, if_neg (Int.not_le.mpr hd'), hs]

theorem wait_unlimited :
    ∀ (s : State) (n : Nat) (h : Taken), dspOn s.dev = true → startable s.dev n clsDspt 0x12 = some h →
    (mayWait s.dev (dpThread h.words) = false →
      exec (.dspWait n) s = .next (s.after (dspDone s.time n h stRejected 0 0 false s.dev))) ∧
    (mayWait s.dev (dpThread h.words) = true → alreadyClosed s.dev h.words = none → dpTmo h.words = false →
      ∃ t, exec (.dspWait n) s = .next t ∧ thState t.dev (dpThread h.words) = 5 ∧
        t.dev.dsp.timed = s.dev.dsp.timed ∧ tget t.dev.dsp.waits (dpThread h.words) =
          some ⟨n, h.idx, dpEvent h.words + 2, dpArg h.words, dpEpoch h.words, dpEdge h.words⟩) := by
  refine fun s n h ho hh => ⟨fun hm => ?_, fun hm hi ht => ?_⟩
  · rw [exec_dspWait, dspWait_on ho hh, if_pos (by simp [hm])]
  · have hlt := dpThread_lt h.words
    have he : dspWait s.time n s.dev = waitBegins s.time n h s.dev := by
      rw [dspWait_on ho hh, if_neg (by simp [hm]), hi]
      exact if_neg (by simp [ht])
    rw [exec_dspWait, he]
    refine ⟨_, rfl, ?_, ?_, ?_⟩
    · rw [thState_after _ _ hlt, waitBegins_state]
    · rw [after_dsp]
      exact beginWait_timed _ _
    · rw [after_dsp]
      exact beginWait_waits _ _

theorem timer_held :
    ∀ (s : State) (n : Nat) (h : Taken), dspOn s.dev = true → startable s.dev n clsDspt 0x15 = some h →
    0 < dspDue s.time s.dev (dpTime h.words) (dpEpoch h.words) → s.dev.dsp.timed.length < 2048 →
    ∃ t, exec (.dspTimer n) s = .next t ∧ t.dev.dsp.timed = s.dev.dsp.timed ++ [⟨.timer n h.idx (bits (dpArg h.words) 0 6),
        dpTime h.words, dpEpoch h.words, dpTol h.words, false, false⟩] ∧
      (t.dev.ring n).taken = (s.dev.ring n).taken.tail ∧
      (t.dev.ring n).started = (s.dev.ring n).started ++ [(h.idx, h.words)] := by
  intro s n h ho hh hd hl
  have he : dspTimer s.time n s.dev = startHead s.time n h (targetHeld (timerEnt n h) s.dev) := by
    rw [dspTimer_on ho hh, if_neg (Int.not_le.mpr hd), holdTimed_room hl]
  rw [exec_dspTimer, he]
  refine ⟨_, rfl, ?_, ?_, ?_⟩
  · rw [after_dsp]
    rfl
  · rw [after_ring, startHead_ring, targetHeld_ring]
  · rw [after_ring, startHead_ring, targetHeld_ring]

/-! ## The tick (R504) -/

theorem tick_idle :
    ∀ (s : State), dspOn s.dev = false ∨
      s.time.ns / (max 1 (s.dev.get Reg.DSP_TICK.US) * 1000) = s.dev.dsp.lastTick →
    exec .dispatchTick s = .next (s.after s.dev) := by
  intro s hx
  have he : dispatchTick s.time s.dev = s.dev := if_pos (by
    rcases hx with hx | hx
    · exact .inl (by simp [hx])
    · exact .inr hx)
  rw [exec_dispatchTick, he]

theorem tick_acts :
    ∀ (s : State) (k back : Nat), dspOn s.dev = true → k = s.time.ns / (max 1 (s.dev.get Reg.DSP_TICK.US) * 1000) →
    k ≠ s.dev.dsp.lastTick → back = s.time.ns - k * (max 1 (s.dev.get Reg.DSP_TICK.US) * 1000) →
    exec .dispatchTick s = .next (s.after
      ((s.dev.dsp.timed.filter fun e => decide (dspDue s.time s.dev e.target e.epoch + back ≤ 0)).foldl
        (fun x e => timedFire s.time (-(dspDue s.time x e.target e.epoch + back)).toNat e x)
        (s.dev.modDsp fun x => { x with lastTick := k }))) := by
  rintro s k back ho rfl hk rfl
  have he : ¬ ((!dspOn s.dev) = true ∨ s.time.ns / (max 1 (s.dev.get Reg.DSP_TICK.US) * 1000) = s.dev.dsp.lastTick) := by
    simp only [ho, Bool.not_true, Bool.false_eq_true, false_or]
    exact hk
  exact congrArg (fun x => Host.Outcome.next (s.after x)) (if_neg he)

/-! ## A target is taken up (R504) -/

/-- The target is no longer held. -/
def targetGone (e : TimedEnt) (d : Dev) : Dev := dspCounts (d.modDsp fun x => { x with timed := x.timed.erase e })

/-- An expired target is counted and raised. -/
def targetExpired (e : TimedEnt) (d : Dev) : Dev :=
  ((targetGone e d).sat Reg.DSP_CNT_EXPIRED.N).cause intDsp 1 0 stExpired

/-- A target within its tolerance; a late one is counted and raised. -/
def targetMet (late : Nat) (e : TimedEnt) (d : Dev) : Dev :=
  if 0 < late then ((targetGone e d).sat Reg.DSP_CNT_LATE.N).cause intDsp 1 0 stLate else targetGone e d

section
variable {late : Nat}

theorem timedFire_blocks (ho : e.own = .thread th) (hl : e.tol * 1000 < late) :
    timedFire t late e d = blockThread th 1 stExpired (targetExpired e d) := by
  have hx : decide (e.tol * 1000 < late) = true := decide_eq_true hl
  unfold timedFire
  dsimp only
  rw [ho, hx]
  rfl

theorem timedFire_wakes (ho : e.own = .thread th) (hl : late ≤ e.tol * 1000) :
    timedFire t late e d = wakeThread t th 1 (if 0 < late then stLate else stOk) 0 (targetMet late e d) := by
  have hx : decide (e.tol * 1000 < late) = false := decide_eq_false (by omega)
  unfold timedFire
  dsimp only
  rw [ho, hx]
  rfl

theorem timedFire_lapses {ring idx tok : Nat} (ho : e.own = .timer ring idx tok) (hl : e.tol * 1000 < late) :
    timedFire t late e d = endStarted ring idx stExpired 0
      (dspExtFree 0 0 (2 * b2n e.wasSpilled) (targetExpired e d)).1 none
      (dspExtFree 0 0 (2 * b2n e.wasSpilled) (targetExpired e d)).2 := by
  have hx : decide (e.tol * 1000 < late) = true := decide_eq_true hl
  unfold timedFire
  dsimp only
  rw [ho, hx]
  rfl

theorem timedFire_fires {ring idx tok : Nat} (ho : e.own = .timer ring idx tok) (hl : late ≤ e.tol * 1000) :
    timedFire t late e d = endStarted ring idx (if 0 < late then stLate else stOk) 0
      (dspExt 0 0 (2 * b2n e.wasSpilled) t.st32 0) none
      ((targetMet late e d).setN Reg.HIF_TOKk.VAL tok ((targetMet late e d).getN Reg.HIF_TOKk.VAL tok + 1)) := by
  have hx : decide (e.tol * 1000 < late) = false := decide_eq_false (by omega)
  unfold timedFire
  dsimp only
  rw [ho, hx]
  rfl
end

theorem targetGone_only (e : TimedEnt) (d : Dev) :
    SpillOnly (d.modDsp fun x => { x with timed := x.timed.erase e }) (targetGone e d) := (SpillOnly.refl _).dspCounts

theorem targetGone_waits (e : TimedEnt) (d : Dev) : (targetGone e d).dsp.waits = d.dsp.waits := (targetGone_only e d).waits

theorem targetExpired_waits (e : TimedEnt) (d : Dev) : (targetExpired e d).dsp.waits = d.dsp.waits := by
  rw [targetExpired, Dev.cause_dsp, Dev.sat_dsp, targetGone_waits]

theorem targetMet_waits (late : Nat) (e : TimedEnt) (d : Dev) : (targetMet late e d).dsp.waits = d.dsp.waits := by
  unfold targetMet
  split
  · rw [Dev.cause_dsp, Dev.sat_dsp, targetGone_waits]
  · exact targetGone_waits e d

theorem targetGone_get {f : Field} (hf : ThreadWord (f.reg.addr 0)) (e : TimedEnt) (d : Dev) :
    (targetGone e d).get f = d.get f :=
  ((targetGone_only e d).words.get hf).trans rfl

theorem targetExpired_count (e : TimedEnt) (d : Dev) :
    (targetExpired e d).get Reg.DSP_CNT_EXPIRED.N = min (d.get Reg.DSP_CNT_EXPIRED.N + 1) (2 ^ 32 - 1) := by
  have hw : Reg.DSP_CNT_EXPIRED.N.width = 32 := rfl
  rw [targetExpired, Dev.cause_get _ _ _ _ _ _ (by decide), Dev.get_sat_same _ _ rfl, targetGone_get (.inl (by decide)), hw]

theorem Dev.get_sat_other (d : Dev) {f g : Field} (h : g.reg.addr 0 ≠ f.reg.addr 0) : (d.sat f).get g = d.get g :=
  Dev.getN_setN_addr _ _ _ _ _ _ h

theorem targetMet_expired (late : Nat) (e : TimedEnt) (d : Dev) :
    (targetMet late e d).get Reg.DSP_CNT_EXPIRED.N = d.get Reg.DSP_CNT_EXPIRED.N := by
  unfold targetMet
  split
  · rw [Dev.cause_get _ _ _ _ _ _ (by decide), Dev.get_sat_other _ (by decide), targetGone_get (.inl (by decide))]
  · exact targetGone_get (.inl (by decide)) e d

theorem targetMet_late (late : Nat) (e : TimedEnt) (d : Dev) : (targetMet late e d).get Reg.DSP_CNT_LATE.N =
    if 0 < late then min (d.get Reg.DSP_CNT_LATE.N + 1) (2 ^ 32 - 1) else d.get Reg.DSP_CNT_LATE.N := by
  have hw : Reg.DSP_CNT_LATE.N.width = 32 := rfl
  unfold targetMet
  split
  · rw [Dev.cause_get _ _ _ _ _ _ (by decide), Dev.get_sat_same _ _ rfl, targetGone_get (.inl (by decide)), hw]
  · exact targetGone_get (.inl (by decide)) e d

theorem Low.targetGone (e : TimedEnt) (d : Dev) : Low 0x100000 d (targetGone e d) :=
  Low.dspCounts (Low.modDsp (.refl _ d)) (by decide)

theorem Low.targetExpired (e : TimedEnt) (d : Dev) : Low 0x100000 d (targetExpired e d) :=
  Low.cause (Low.sat (Low.targetGone e d) (by decide)) (by decide)

theorem Low.targetMet (late : Nat) (e : TimedEnt) (d : Dev) : Low 0x100000 d (targetMet late e d) :=
  .ite (Low.cause (Low.sat (Low.targetGone e d) (by decide)) (by decide)) (Low.targetGone e d)

theorem target_taken_up :
    ∀ (t : Time) (late : Nat) (e : TimedEnt) (d : Dev),
    (∀ th w, e.own = .thread th → th < 2048 → tget d.dsp.waits th = some w →
      (e.tol * 1000 < late → thState (timedFire t late e d) th = 1 ∧
        (timedFire t late e d).get Reg.DSP_CNT_EXPIRED.N = min (d.get Reg.DSP_CNT_EXPIRED.N + 1) (2 ^ 32 - 1)) ∧
      (late ≤ e.tol * 1000 → thState (timedFire t late e d) th = 2 ∧
        (timedFire t late e d).get Reg.DSP_CNT_EXPIRED.N = d.get Reg.DSP_CNT_EXPIRED.N ∧
        (timedFire t late e d).get Reg.DSP_CNT_LATE.N =
          (if 0 < late then min (d.get Reg.DSP_CNT_LATE.N + 1) (2 ^ 32 - 1) else d.get Reg.DSP_CNT_LATE.N)) ∧
      tget (timedFire t late e d).dsp.waits th = none) ∧
    (∀ ring idx tok, e.own = .timer ring idx tok → tok < 64 →
      (e.tol * 1000 < late → (timedFire t late e d).getN Reg.HIF_TOKk.VAL tok = d.getN Reg.HIF_TOKk.VAL tok) ∧
      (late ≤ e.tol * 1000 → (timedFire t late e d).getN Reg.HIF_TOKk.VAL tok =
        (d.getN Reg.HIF_TOKk.VAL tok + 1) % 2 ^ Reg.HIF_TOKk.VAL.width)) := by
  refine fun t late e d => ⟨fun th w ho hth hw => ⟨fun hl => ⟨?_, ?_⟩, fun hl => ⟨?_, ?_, ?_⟩, ?_⟩,
    fun ring idx tok ho hk => ⟨fun hl => ?_, fun hl => ?_⟩⟩
  · rw [timedFire_blocks ho hl, (blockThread_blocked (by rw [targetExpired_waits]; exact hw)).state, if_pos rfl]
  · rw [timedFire_blocks ho hl, (blockThread_blocked (by rw [targetExpired_waits]; exact hw)).words.get (.inl (by decide)),
      targetExpired_count]
  · rw [timedFire_wakes ho hl, (wakeThread_woken hth (by rw [targetMet_waits]; exact hw)).state, if_pos rfl]
  · rw [timedFire_wakes ho hl, (wakeThread_woken hth (by rw [targetMet_waits]; exact hw)).words.get (.inl (by decide)),
      targetMet_expired]
  · rw [timedFire_wakes ho hl, (wakeThread_woken hth (by rw [targetMet_waits]; exact hw)).words.get (.inl (by decide)),
      targetMet_late]
  · by_cases hl : e.tol * 1000 < late
    · rw [timedFire_blocks ho hl]
      exact (blockThread_blocked (by rw [targetExpired_waits]; exact hw)).ended
    · rw [timedFire_wakes ho (by omega)]
      exact (wakeThread_woken hth (by rw [targetMet_waits]; exact hw)).ended
  · rw [timedFire_lapses ho hl, getN_ofRegs (endStarted_regs ..)]
    exact (Low.targetExpired e d).getN (by rw [token_addr]; omega)
  · rw [timedFire_fires ho hl, getN_ofRegs (endStarted_regs ..), Dev.getN_setN_same _ _ _ _ rfl,
      (Low.targetMet late e d).getN (by rw [token_addr]; omega)]

/-- Settles O49: delays, waits and timers by whether their target is still to come, the tick, and a target taken up by its
tolerance. -/
theorem dispatchTime : Obligations.DispatchTime :=
  ⟨⟨delay_held, delay_and_wait, timer_taken, wait_unlimited, timer_held, tick_idle, tick_acts⟩, target_taken_up⟩

end Sys2Proof.Machine

/-!
PROOFS. The operations of the Daxide fabric that its obligations share: a frame that leaves (R518, R520), the next SEQ of a TYPE, the
de-duplication window (R526), and the state of a link with its bit of DXL_STATUS.UP.
-/

namespace Sys2Proof.Machine

open Sys2Proof

variable {s : State} {e d x : Dev} {l k typ : Nat} {b : List Byte}

/-! ## A frame that leaves -/

/-- Of the fabric's own state only the frames sent grow. -/
def SendsOnly (e d : Dev) : Prop := ∃ fs, d.dxl = { e.dxl with sent := e.dxl.sent ++ fs }

theorem SendsOnly.ofDxl (h : d.dxl = e.dxl) : SendsOnly e d := ⟨[], by rw [h, List.append_nil]⟩

theorem SendsOnly.refl (d : Dev) : SendsOnly d d := .ofDxl rfl

theorem SendsOnly.trans (h : SendsOnly e d) (k : SendsOnly d x) : SendsOnly e x := by
  obtain ⟨fs, hf⟩ := h
  obtain ⟨gs, hg⟩ := k
  exact ⟨fs ++ gs, by rw [hg, hf, List.append_assoc]⟩

theorem SendsOnly.links (h : SendsOnly e d) : d.dxl.links = e.dxl.links := by
  obtain ⟨fs, hf⟩ := h
  rw [hf]

theorem SendsOnly.held (h : SendsOnly e d) : d.dxl.held = e.dxl.held := by
  obtain ⟨fs, hf⟩ := h
  rw [hf]

theorem SendsOnly.wins (h : SendsOnly e d) : d.dxl.wins = e.dxl.wins := by
  obtain ⟨fs, hf⟩ := h
  rw [hf]

theorem SendsOnly.seqs (h : SendsOnly e d) : d.dxl.seqs = e.dxl.seqs := by
  obtain ⟨fs, hf⟩ := h
  rw [hf]

theorem SendsOnly.beaconAt (h : SendsOnly e d) : d.dxl.beaconAt = e.dxl.beaconAt := by
  obtain ⟨fs, hf⟩ := h
  rw [hf]

theorem SendsOnly.mgmtIn (h : SendsOnly e d) : d.dxl.mgmtIn = e.dxl.mgmtIn := by
  obtain ⟨fs, hf⟩ := h
  rw [hf]

theorem SendsOnly.dlink (h : SendsOnly e d) (l : Nat) : d.dlink l = e.dlink l := by
  rw [Dev.dlink, h.links, ← Dev.dlink]

theorem keyUse_dxl (eng inst slot usage : Nat) (long : Bool) (d : Dev) :
    (keyUse eng inst slot usage long d).2.dxl = d.dxl :=
  (@Tame.keyUse [.keys] d d eng inst slot usage long (.refl _ d) ⟨by decide⟩).stands .dxl (by decide)

theorem sendTx_dxl (n : Nat) (f : TxFrame) (d : Dev) : (sendTx n f d).dxl = d.dxl :=
  (@Tame.sendTx [.hif, .ports, .pairs] d d n f (.refl _ d) ⟨by decide⟩ ⟨by decide⟩ ⟨by decide⟩).stands .dxl (by decide)

/-- All that a frame that is to leave can come to, after the use of the link's key. -/
theorem dxEmit_cases (l : Nat) (b : List Byte) (good mem : Bool) (d : Dev) :
    ∃ x, x.dxl = d.dxl ∧ (dxEmit l b good mem d = linkDrop l x ∨ dxEmit l b good mem d = x ∨
      (∃ fr, dxEmit l b good mem d = (x.sat Reg.DXL_LINKn_TXF.N l).modDxl fun s => { s with sent := s.sent ++ [fr] }) ∨
      ∃ p f, dxEmit l b good mem d = sendTx p f (x.sat Reg.DXL_LINKn_TXF.N l)) := by
  have hk := keyUse_dxl engDaxide l (d.getN Reg.DXL_LINKn_CFG.KEY_SLOT l) 3 true d
  unfold dxEmit
  cases d.onN Reg.DXL_LINKn_CFG.AUTH l with
  | false =>
    refine ⟨d, rfl, .inr ?_⟩
    dsimp only
    split
    · next h => cases h
    · next h =>
      cases h
      split
      · exact .inr (.inl ⟨_, rfl⟩)
      · split
        · exact .inl rfl
        · exact .inr (.inr ⟨_, _, rfl⟩)
  | true =>
    refine ⟨_, hk, ?_⟩
    dsimp only
    split
    · next h =>
      left
      rw [if_pos rfl] at h
      split at h
      · cases h
      · next hu =>
        cases h
        rw [hu]
    · next h =>
      right
      rw [if_pos rfl] at h
      split at h
      · next hu =>
        cases h
        rw [hu]
        split
        · exact .inr (.inl ⟨_, rfl⟩)
        · split
          · exact .inl rfl
          · exact .inr (.inr ⟨_, _, rfl⟩)
      · cases h

theorem dxEmit_sends (l : Nat) (b : List Byte) (good mem : Bool) (d : Dev) : SendsOnly d (dxEmit l b good mem d) := by
  obtain ⟨x, hx, h | h | ⟨fr, h⟩ | ⟨p, f, h⟩⟩ := dxEmit_cases l b good mem d
  · exact .ofDxl (by rw [h]; exact hx)
  · exact .ofDxl (by rw [h]; exact hx)
  · exact ⟨[fr], by rw [h, ← hx]; rfl⟩
  · exact .ofDxl (by rw [h, sendTx_dxl]; exact hx)

theorem dxFlood_sends (b : List Byte) (from_ : Option Nat) (good : Bool) (d : Dev) : SendsOnly d (dxFlood b from_ good d) := by
  unfold dxFlood
  have key (ls : List Nat) : ∀ x, SendsOnly d x → SendsOnly d (ls.foldl (fun x l =>
      if linkIsUp d l && from_ != some l then dxEmit l b good false x else x) x) := by
    induction ls with
    | nil => exact fun x h => h
    | cons l ls ih =>
      intro x h
      rw [List.foldl_cons]
      refine ih _ ?_
      split
      · exact h.trans (dxEmit_sends ..)
      · exact h
  exact key _ d (.refl d)

/-! ## A frame on an unsigned DL link -/

theorem le_one_byte (v : Nat) : (le 1 v).length = 1 := le_length 1 v

theorem withTag_length (on : Bool) (h : 16 ≤ b.length) : (withTag b on).length = b.length := by
  simp only [withTag, List.length_append, List.length_take, List.length_drop, le_length]
  omega

theorem dxHeader_length (typ hops origin dest : Nat) (all : Bool) (len seq boot flags : Nat) :
    (dxHeader typ hops origin dest all len seq boot flags).length = 16 := by
  simp [dxHeader]

/-- A frame as it stands among those sent on an unsigned DL link. -/
def plainSent (l : Nat) (b : List Byte) (good : Bool) : DxSent :=
  ⟨l, withTag b false, none, good, dxPad (withTag b false).length⟩

theorem dxEmit_plain {good mem : Bool} (hd : isDl d l = true) (ha : d.onN Reg.DXL_LINKn_CFG.AUTH l = false) :
    dxEmit l b good mem d = (d.sat Reg.DXL_LINKn_TXF.N l).modDxl fun s => { s with sent := s.sent ++ [plainSent l b good] } := by
  simp [dxEmit, ha, hd, plainSent, b2n]

theorem linkCfg_addr (k : Nat) : At.DXL_LINKn_CFG.addr k = 0x60100 + k * 0x40 := RegAt.addr_single rfl k

theorem linkTxf_addr (l : Nat) : At.DXL_LINKn_TXF.addr l = 0x60134 + l * 0x40 := RegAt.addr_single rfl l

/-- The words of the links' configurations. -/
def LinkCfg (a : Nat) : Prop := ∃ k, a = At.DXL_LINKn_CFG.addr k

theorem linkCfg_apart {r : RegAt} {c i n : Nat} (h : r = ⟨c, 0x40, n, 1, 0⟩) (hc : 0x60100 < c ∧ c < 0x60140) :
    ¬ LinkCfg (r.addr i) := by
  rintro ⟨k, hk⟩
  rw [linkCfg_addr, RegAt.addr_single h] at hk
  omega

theorem Apart.isDl (h : Apart LinkCfg e d) (k : Nat) : Machine.isDl d k = Machine.isDl e k := by
  unfold Machine.isDl
  rw [h.getN (f := Reg.DXL_LINKn_CFG.MODE) ⟨k, rfl⟩]

/-- A flood over unsigned DL links is sent on every link that is up, in the order of the links. -/
theorem dxFlood_plain {good : Bool}
    (h : ∀ l, l < 4 → linkIsUp d l = true → isDl d l = true ∧ d.onN Reg.DXL_LINKn_CFG.AUTH l = false) :
    (dxFlood b none good d).dxl = { d.dxl with sent :=
      d.dxl.sent ++ ((List.range 4).filter (linkIsUp d)).map fun l => plainSent l b good } := by
  have key (ls : List Nat) : (∀ l ∈ ls, l < 4) → ∀ x, Apart LinkCfg d x → (ls.foldl (fun x l =>
      if linkIsUp d l && (none : Option Nat) != some l then dxEmit l b good false x else x) x).dxl =
        { x.dxl with sent := x.dxl.sent ++ (ls.filter (linkIsUp d)).map fun l => plainSent l b good } := by
    induction ls with
    | nil => exact fun _ x _ => by simp
    | cons l ls ih =>
      intro hl x hx
      have hls : ∀ k ∈ ls, k < 4 := fun k hk => hl k (.tail _ hk)
      rw [List.foldl_cons]
      cases hu : linkIsUp d l with
      | false => simpa [hu] using ih hls x hx
      | true =>
        obtain ⟨hm, ha⟩ := h l (hl l (.head _)) hu
        have hn : ((true && (none : Option Nat) != some l) = true) := rfl
        rw [if_pos hn, dxEmit_plain (by rw [hx.isDl, hm]) (by rw [hx.onN ⟨l, rfl⟩, ha])]
        have hx1 : Apart LinkCfg d ((x.sat Reg.DXL_LINKn_TXF.N l).modDxl fun s =>
            { s with sent := s.sent ++ [plainSent l b good] }) :=
          (Apart.sat (f := Reg.DXL_LINKn_TXF.N) hx (linkCfg_apart rfl (by decide))).ofRegs rfl
        rw [ih hls _ hx1]
        simp [hu, Dev.modDxl]
  exact key _ (fun l hl => List.mem_range.mp hl) d (.refl _ d)

/-! ## SEQ and the window (R526) -/

theorem nextSeq_seqs (typ : Nat) (d : Dev) : tget (nextSeq typ d).2.dxl.seqs typ = (nextSeq typ d).1 :=
  tget_tset_same _ _ _

theorem sdiff_self (m a : Nat) (hm : 1 < m) : sdiff m a a = 0 := by
  have hr : (a % m + m - a % m) % m = 0 := by
    rw [Nat.add_sub_cancel_left, Nat.mod_self]
  unfold sdiff
  dsimp only
  rw [hr]
  split
  · rfl
  · omega

section
variable {w : DxWin} {q : Nat}

/-- A SEQ above the highest one is new. -/
theorem winJudge_above (hs : w.seen = true) (h : 0 < sdiff (2 ^ 32) q w.high) : winJudge w q = .fresh := by
  unfold winJudge
  rw [hs]
  dsimp only [Bool.not_true]
  rw [if_neg (by simp), if_pos h]

/-- The highest SEQ is a duplicate. -/
theorem winJudge_top (hs : w.seen = true) (h : sdiff (2 ^ 32) q w.high = 0) : winJudge w q = .dup := by
  unfold winJudge
  rw [hs]
  dsimp only [Bool.not_true]
  rw [if_neg (by simp), h, if_neg (by simp), if_pos rfl]

/-- A SEQ more than 64 below the highest one is old. -/
theorem winJudge_below (hs : w.seen = true) (h : sdiff (2 ^ 32) q w.high < -64) : winJudge w q = .old := by
  unfold winJudge
  rw [hs]
  dsimp only [Bool.not_true]
  rw [if_neg (by simp), if_neg (by omega), if_neg (by omega), if_pos h]

/-- Any other SEQ goes by its bit of the window. -/
theorem winJudge_bit (hs : w.seen = true) (h : sdiff (2 ^ 32) q w.high < 0) (hb : ¬ sdiff (2 ^ 32) q w.high < -64) :
    winJudge w q = if w.mask.testBit (-sdiff (2 ^ 32) q w.high - 1).toNat then .dup else .fresh := by
  unfold winJudge
  rw [hs]
  dsimp only [Bool.not_true]
  rw [if_neg (by simp), if_neg (by omega), if_neg (by omega), if_neg hb]

theorem winTake_first (hs : w.seen = false) : winTake w q = ⟨true, q, 0⟩ := by
  unfold winTake
  rw [hs]
  rfl

theorem winTake_above (hs : w.seen = true) (h : 0 < sdiff (2 ^ 32) q w.high) :
    winTake w q = if 64 < (sdiff (2 ^ 32) q w.high).toNat then ⟨true, q, 0⟩ else
      ⟨true, q, (w.mask * 2 ^ (sdiff (2 ^ 32) q w.high).toNat + 2 ^ ((sdiff (2 ^ 32) q w.high).toNat - 1)) % 2 ^ 64⟩ := by
  unfold winTake
  rw [hs]
  dsimp only [Bool.not_true]
  rw [if_neg (by simp), if_pos h]

theorem winTake_below (hs : w.seen = true) (h : ¬ 0 < sdiff (2 ^ 32) q w.high) :
    winTake w q = { w with mask := w.mask ||| 2 ^ (-sdiff (2 ^ 32) q w.high - 1).toNat } := by
  unfold winTake
  rw [hs]
  dsimp only [Bool.not_true]
  rw [if_neg (by simp), if_neg h]

/-- A SEQ that a window accepts, or held already, is a duplicate to it from then on. -/
theorem winJudge_winTake (h : winJudge w q ≠ .old) : winJudge (winTake w q) q = .dup := by
  have htop (m : Nat) : winJudge ⟨true, q, m⟩ q = .dup := winJudge_top rfl (sdiff_self _ _ (by norm_num))
  cases hs : w.seen with
  | false => rw [winTake_first hs, htop]
  | true =>
    by_cases hk : 0 < sdiff (2 ^ 32) q w.high
    · rw [winTake_above hs hk]
      split
      · exact htop _
      · exact htop _
    · rw [winTake_below hs hk]
      by_cases h0 : sdiff (2 ^ 32) q w.high = 0
      · exact winJudge_top hs h0
      · have hb : ¬ sdiff (2 ^ 32) q w.high < -64 := fun hb => h (winJudge_below hs hb)
        refine (winJudge_bit (w := ⟨w.seen, w.high, w.mask ||| 2 ^ (-sdiff (2 ^ 32) q w.high - 1).toNat⟩) hs
          (show sdiff (2 ^ 32) q w.high < 0 by omega) hb).trans (if_pos ?_)
        simp [Nat.testBit_or]
end

/-! ## The state of a link -/

theorem linkStat_addr (k : Nat) : At.DXL_LINKn_STAT.addr k = 0x60114 + k * 0x40 := RegAt.addr_single rfl k

/-- The bits of DXL_STATUS.UP that the links' states give. -/
def upBits (d : Dev) : Nat := ((List.range 4).map fun k => if linkState d k = 2 then 2 ^ k else 0).sum

theorem upBits_lt (d : Dev) : upBits d < 2 ^ Reg.DXL_STATUS.UP.width := by
  have hw : Reg.DXL_STATUS.UP.width = 4 := rfl
  rw [hw]
  simp only [upBits, List.range_succ, List.range_zero, List.nil_append, List.cons_append, List.map_cons, List.map_nil,
    List.sum_cons, List.sum_nil]
  split <;> split <;> split <;> split <;> decide

theorem upBits_testBit (d : Dev) (hl : l < 4) : (upBits d).testBit l = decide (linkState d l = 2) := by
  simp only [upBits, List.range_succ, List.range_zero, List.nil_append, List.cons_append, List.map_cons, List.map_nil,
    List.sum_cons, List.sum_nil]
  generalize linkState d = f
  have hl4 : l = 0 ∨ l = 1 ∨ l = 2 ∨ l = 3 := by omega
  by_cases h0 : f 0 = 2 <;> by_cases h1 : f 1 = 2 <;> by_cases h2 : f 2 = 2 <;> by_cases h3 : f 3 = 2 <;>
    rcases hl4 with rfl | rfl | rfl | rfl <;> simp only [h0, h1, h2, h3, if_true, if_false, decide_true, decide_false] <;> decide

theorem linkState_set_up (d : Dev) (v k : Nat) (hk : k < 4) : linkState (d.set Reg.DXL_STATUS.UP v) k = linkState d k :=
  Dev.getN_setN_addr _ _ _ _ _ _ (by
    rw [show Reg.DXL_LINKn_STAT.STATE.reg = At.DXL_LINKn_STAT from rfl, linkStat_addr]
    exact ne_of_gt (show 0x6000C < _ by omega))

theorem linkState_setLinkState_same {st : Nat} (d : Dev) (hl : l < 4) (hs : st < 4) : linkState (setLinkState l st d) l = st := by
  unfold setLinkState
  dsimp only
  rw [linkState_set_up _ _ _ hl, linkState, Dev.getN_setN_same _ _ _ _ rfl]
  exact Nat.mod_eq_of_lt hs

theorem linkState_setLinkState_other (st : Nat) (d : Dev) (hk : k < 4) (h : k ≠ l) :
    linkState (setLinkState l st d) k = linkState d k := by
  unfold setLinkState
  dsimp only
  rw [linkState_set_up _ _ _ hk]
  exact Dev.getN_setN_addr _ _ _ _ _ _ (by
    rw [show Reg.DXL_LINKn_STAT.STATE.reg = At.DXL_LINKn_STAT from rfl, linkStat_addr, linkStat_addr]
    omega)

theorem upBits_set_up (d : Dev) (v : Nat) : upBits (d.set Reg.DXL_STATUS.UP v) = upBits d := by
  unfold upBits
  refine congrArg List.sum (List.map_congr_left fun k hk => ?_)
  rw [linkState_set_up _ _ _ (List.mem_range.mp hk)]

/-- DXL_STATUS.UP agrees with the links' states once one of them is set. -/
theorem setLinkState_up (l st : Nat) (d : Dev) : (setLinkState l st d).get Reg.DXL_STATUS.UP = upBits (setLinkState l st d) := by
  have hd : setLinkState l st d = (d.setN Reg.DXL_LINKn_STAT.STATE l st).set Reg.DXL_STATUS.UP
    (upBits (d.setN Reg.DXL_LINKn_STAT.STATE l st)) := rfl
  rw [hd, upBits_set_up]
  exact Dev.get_set_same _ _ _ rfl (upBits_lt _)

theorem setLinkState_testBit {st : Nat} (d : Dev) (hl : l < 4) (hs : st < 4) :
    ((setLinkState l st d).get Reg.DXL_STATUS.UP).testBit l = decide (st = 2) := by
  rw [setLinkState_up, upBits_testBit _ hl, linkState_setLinkState_same d hl hs]

theorem setLinkState_dxl (l st : Nat) (d : Dev) : (setLinkState l st d).dxl = d.dxl := rfl

theorem Apart.setLinkState {W : Nat → Prop} {st : Nat} (h : Apart W e d) (hs : ¬ W (At.DXL_LINKn_STAT.addr l))
    (hu : ¬ W 0x6000C) : Apart W e (setLinkState l st d) :=
  Apart.set (f := Reg.DXL_STATUS.UP) (h.setN (f := Reg.DXL_LINKn_STAT.STATE) hs) hu

/-! ## A frame received up to its TYPE (R523 to R527, R546) -/

section
variable {t : Time} {q : Nat} {f : DxFrame}

theorem linkRxf_addr (l : Nat) : At.DXL_LINKn_RXF.addr l = 0x60130 + l * 0x40 := RegAt.addr_single rfl l

/-- Counting a frame received leaves every other register of the links. -/
theorem getN_rxf (d : Dev) (l : Nat) {g : Field} {c n : Nat} (h : g.reg = ⟨c, 0x40, n, 1, 0⟩)
    (hc : 0x60100 ≤ c ∧ c < 0x60140 ∧ c ≠ 0x60130) : (d.sat Reg.DXL_LINKn_RXF.N l).getN g l = d.getN g l :=
  Dev.getN_setN_addr _ _ _ _ _ _ (by
    rw [h, RegAt.addr_single rfl, show Reg.DXL_LINKn_RXF.N.reg = At.DXL_LINKn_RXF from rfl, linkRxf_addr]
    omega)

theorem onN_rxf (d : Dev) (l : Nat) {g : Field} {c n : Nat} (h : g.reg = ⟨c, 0x40, n, 1, 0⟩)
    (hc : 0x60100 ≤ c ∧ c < 0x60140 ∧ c ≠ 0x60130) : (d.sat Reg.DXL_LINKn_RXF.N l).onN g l = d.onN g l := by
  unfold Dev.onN
  rw [getN_rxf d l h hc]

theorem linkState_rxf (d : Dev) (l : Nat) : linkState (d.sat Reg.DXL_LINKn_RXF.N l) l = linkState d l :=
  getN_rxf d l rfl (by decide)

/-- R546 holds back no KEEPALIVE and no TIME frame, and nothing where FRAMES is 0. -/
theorem dxLimit_open (h : d.getN Reg.DXL_LINKn_RLIM.FRAMES l = 0 ∨ dxType b = tyKeepalive ∨ dxType b = tyTime) :
    dxLimit t l b d = (true, d) := if_pos h

/-- A well-formed frame on a link that is not refused goes by the limit of R546. -/
theorem dxReceive_passed (hf : f.fcsOk = true) (hs : linkState d l ≠ 3) (hm : dxMalformed f.bytes = false)
    (h : dxLimit t l f.bytes (d.sat Reg.DXL_LINKn_RXF.N l) = (true, x)) : dxReceive t l q f d = dxAuth t l q f x := by
  unfold dxReceive
  dsimp only
  rw [if_neg (by simp [hf, linkState_rxf, hs]), if_neg (by simp [hm]), h]

theorem dxReceive_limited (hf : f.fcsOk = true) (hs : linkState d l ≠ 3) (hm : dxMalformed f.bytes = false)
    (h : dxLimit t l f.bytes (d.sat Reg.DXL_LINKn_RXF.N l) = (false, x)) :
    dxReceive t l q f d = linkDrop l (x.sat Reg.DXL_CNT_RLIM.N) := by
  unfold dxReceive
  dsimp only
  rw [if_neg (by simp [hf, linkState_rxf, hs]), if_neg (by simp [hm]), h]

theorem dxReceive_admitted (hf : f.fcsOk = true) (hs : linkState d l ≠ 3) (hm : dxMalformed f.bytes = false)
    (hl : d.getN Reg.DXL_LINKn_RLIM.FRAMES l = 0 ∨ dxType f.bytes = tyKeepalive ∨ dxType f.bytes = tyTime) :
    dxReceive t l q f d = dxAuth t l q f (d.sat Reg.DXL_LINKn_RXF.N l) :=
  dxReceive_passed hf hs hm (dxLimit_open (by rwa [getN_rxf (g := Reg.DXL_LINKn_RLIM.FRAMES) d l rfl (by decide)]))

theorem dxAuth_unsigned (h : d.onN Reg.DXL_LINKn_CFG.AUTH l = false) :
    dxAuth t l q f d = dxOriginCheck t l q f.bytes d := if_pos (by simp [h])

/-- On a link without AUTH a well-formed frame within the limit goes by its origin. -/
theorem dxReceive_unsigned (hf : f.fcsOk = true) (hs : linkState d l ≠ 3) (hm : dxMalformed f.bytes = false)
    (hl : d.getN Reg.DXL_LINKn_RLIM.FRAMES l = 0 ∨ dxType f.bytes = tyKeepalive ∨ dxType f.bytes = tyTime)
    (ha : d.onN Reg.DXL_LINKn_CFG.AUTH l = false) :
    dxReceive t l q f d = dxOriginCheck t l q f.bytes (d.sat Reg.DXL_LINKn_RXF.N l) := by
  rw [dxReceive_admitted hf hs hm hl, dxAuth_unsigned (by rw [onN_rxf (g := Reg.DXL_LINKn_CFG.AUTH) d l rfl (by decide), ha])]

/-- The registers of this node and its BOOT stand while frames are counted. -/
theorem selfNode_rxf (d : Dev) (l : Nat) : selfNode (d.sat Reg.DXL_LINKn_RXF.N l) = selfNode d :=
  Dev.getN_setN_addr _ _ _ _ _ _ (by
    rw [show Reg.DXL_LINKn_RXF.N.reg = At.DXL_LINKn_RXF from rfl, linkRxf_addr]
    exact ne_of_lt (show 0x60004 < _ by omega))

theorem dxOriginCheck_first (h : dxOrigin b ≠ selfNode d ∨ dxBoot b = selfBoot d)
    (hb : tget d.dxl.boots (dxOrigin b) = none) : dxOriginCheck t l q b d =
      dxByType t l q b (d.modDxl fun x => { x with boots := tset x.boots (dxOrigin b) (some (dxBoot b)) }) := by
  unfold dxOriginCheck
  dsimp only
  rw [if_neg (by tauto), hb]

theorem dxOriginCheck_known (h : dxOrigin b ≠ selfNode d ∨ dxBoot b = selfBoot d)
    (hb : tget d.dxl.boots (dxOrigin b) = some k) (hk : sdiff (2 ^ 16) (dxBoot b) k = 0) :
    dxOriginCheck t l q b d = dxByType t l q b d := by
  unfold dxOriginCheck
  dsimp only
  rw [if_neg (by tauto), hb]
  dsimp only
  rw [hk, if_neg (by simp), if_pos rfl]

theorem dxByType_keepalive (h : dxType b = tyKeepalive) : dxByType t l q b d = keepaliveTake t l b d := if_pos h
end

theorem exec_daxideFrameReceive (link : Nat) (f : DxFrame) (s : State) :
    exec (.daxideFrameReceive link f) s =
      .next (s.after (if linkOn s.dev link then dxReceive s.time link (s.time.qns + f.q % 16) f s.dev else s.dev)) := rfl

theorem exec_daxideFrame_on (f : DxFrame) (h : linkOn s.dev l = true) : exec (.daxideFrameReceive l f) s =
    .next (s.after (dxReceive s.time l (s.time.qns + f.q % 16) f s.dev)) := by
  rw [exec_daxideFrameReceive, if_pos h]

theorem linkIsUp_congr (hr : x.regs = d.regs) (hi : x.isl = d.isl) (hp : x.pwr = d.pwr) (l : Nat) :
    linkIsUp x l = linkIsUp d l := by
  simp only [linkIsUp, linkOn, fabricRuns, linkState, Dev.up, Dev.on, Dev.onN, Dev.getN, hr, hi, hp]

theorem linkOn_lt (h : linkOn d l = true) : l < 4 := by
  simp only [linkOn, Bool.and_eq_true, decide_eq_true_eq] at h
  exact h.1.1.1

theorem linkIsUp_on (h : linkIsUp d l = true) : linkOn d l = true := (Bool.and_eq_true_iff.mp h).1

theorem linkIsUp_state (h : linkIsUp d l = true) : linkState d l = 2 := by
  simpa using (Bool.and_eq_true_iff.mp h).2

end Sys2Proof.Machine

/-!
PROOFS. O50: the Daxide fabric starts (R522, R528), its beacons (R534), and the life of its links (R544, R545).
-/

namespace Sys2Proof.Machine

open Sys2Proof

variable {s : State} {d x : Dev} {l k : Nat} {t : Time}

theorem exec_beaconSend (s : State) : exec .beaconSend s = .next (s.after (beaconSend s.time s.dev)) := rfl

theorem exec_dxlLockLoss (link : Nat) (s : State) :
    exec (.dxlLockLoss link) s =
      .next (s.after (if linkIsUp s.dev link && isDl s.dev link then linkFalls link s.dev else s.dev)) := rfl

theorem exec_fabricStart (s : State) :
    exec .fabricStart s =
      .next (s.after (onWrite 0x60000 (fun d => if d.on Reg.DXL_STATUS.RUN then d else fabricStart s.time d) s.dev)) := rfl

theorem exec_keepaliveSend (link : Nat) (s : State) :
    exec (.keepaliveSend link) s = .next (s.after (keepaliveSend s.time link s.dev)) := rfl

theorem exec_keepaliveTimeout (link : Nat) (s : State) :
    exec (.keepaliveTimeout link) s = .next (s.after (keepaliveTimeout s.time link s.dev)) := rfl

theorem linkState_after (s : State) (d : Dev) (hl : l < 4) : linkState (s.after d).dev l = linkState d l :=
  after_getN s d Reg.DXL_LINKn_STAT.STATE l (notIntake_of_lt (by
    rw [show Reg.DXL_LINKn_STAT.STATE.reg = At.DXL_LINKn_STAT from rfl, linkStat_addr]
    omega))

/-! ## The fabric starts -/

/-- The state in which a link starts. -/
def startState (d : Dev) (l : Nat) : Nat := if d.onN Reg.DXL_LINKn_CFG.EN l then 1 else 0

/-- The words that the start of the links leaves. -/
def StartWord (a : Nat) : Prop := a < 0x6000C ∨ LinkCfg a

/-- The first n links have started. -/
structure LinksStarted (n : Nat) (d x : Dev) : Prop where
  words : Apart StartWord d x
  run : x.on Reg.DXL_STATUS.RUN = d.on Reg.DXL_STATUS.RUN
  states : ∀ k, k < n → linkState x k = startState d k
  shown : 0 < n → x.get Reg.DXL_STATUS.UP = upBits x
  fabric : x.dxl = d.dxl

theorem startState_le (d : Dev) (l : Nat) : startState d l ≤ 1 := by
  unfold startState
  split <;> omega

theorem linkStat_notStart (l : Nat) : ¬ StartWord (At.DXL_LINKn_STAT.addr l) := by
  rintro (h | h)
  · rw [linkStat_addr] at h
    omega
  · exact linkCfg_apart rfl (by decide) h

theorem notLinkCfg {a : Nat} (h : a < 0x60100) : ¬ LinkCfg a := by
  rintro ⟨k, hk⟩
  rw [linkCfg_addr] at hk
  omega

theorem status_notStart : ¬ StartWord 0x6000C := by
  rintro (h | h)
  · omega
  · exact notLinkCfg (by omega) h

theorem setLinkState_run (l st : Nat) (d : Dev) : (setLinkState l st d).on Reg.DXL_STATUS.RUN = d.on Reg.DXL_STATUS.RUN := by
  unfold setLinkState
  dsimp only
  rw [Dev.on_set_other _ _ _ _ rfl]
  exact Dev.onN_setN_addr _ _ _ _ _ _ (by
    rw [show Reg.DXL_LINKn_STAT.STATE.reg = At.DXL_LINKn_STAT from rfl, linkStat_addr]
    exact ne_of_lt (show 0x6000C < _ by omega))

theorem LinksStarted.next {n : Nat} (h : LinksStarted n d x) (hn : n < 4) : LinksStarted (n + 1) d
    (setLinkState n (if x.onN Reg.DXL_LINKn_CFG.EN n then 1 else 0) x) where
  words := h.words.setLinkState (linkStat_notStart n) status_notStart
  run := (setLinkState_run ..).trans h.run
  states := fun k hk => by
    rw [h.words.onN (f := Reg.DXL_LINKn_CFG.EN) (.inr ⟨n, rfl⟩)]
    by_cases he : k = n
    · subst he
      exact linkState_setLinkState_same x hn (lt_of_le_of_lt (startState_le d k) (by omega))
    · rw [linkState_setLinkState_other _ _ (by omega) he, h.states k (by omega)]
  shown := fun _ => setLinkState_up ..
  fabric := h.fabric

theorem started_range (d : Dev) (n : Nat) (hn : n ≤ 4) : LinksStarted n d ((List.range n).foldl (fun x l =>
    setLinkState l (if x.onN Reg.DXL_LINKn_CFG.EN l then 1 else 0) x) d) := by
  induction n with
  | zero => exact ⟨.refl _ d, rfl, fun k hk => by omega, fun h => by omega, rfl⟩
  | succ n ih =>
    rw [List.range_succ, List.foldl_append]
    exact (ih (by omega)).next (by omega)

/-- The fabric as its start finds it: it runs under a new BOOT, and remembers nothing. -/
def fabricFresh (t : Time) (d : Dev) : Dev :=
  (((d.set Reg.DXL_CTRL.EN 1).set Reg.DXL_STATUS.RUN 1).set Reg.DXL_NODE.BOOT (selfBoot d + 1)).modDxl fun x => { x with
    links := [], boots := [], wins := [], seqs := [], held := [], beaconAt := t.loc }

theorem fabricStart_started (t : Time) (d : Dev) : LinksStarted 4 (fabricFresh t d) (fabricStart t d) :=
  started_range (fabricFresh t d) 4 le_rfl

theorem fabricFresh_run (t : Time) (d : Dev) : (fabricFresh t d).on Reg.DXL_STATUS.RUN = true :=
  (Dev.on_set_other _ _ _ _ rfl).trans (Dev.on_set_same _ _ _ rfl)

theorem fabricFresh_en (t : Time) (d : Dev) : (fabricFresh t d).on Reg.DXL_CTRL.EN = true :=
  (Dev.on_set_other _ _ _ _ rfl).trans ((Dev.on_set_other _ _ _ _ rfl).trans (Dev.on_set_same _ _ _ rfl))

theorem fabricFresh_boot (t : Time) (d : Dev) :
    selfBoot (fabricFresh t d) = (selfBoot d + 1) % 2 ^ Reg.DXL_NODE.BOOT.width :=
  Dev.get_set_mod _ _ _ rfl

theorem fabricFresh_node (t : Time) (d : Dev) : selfNode (fabricFresh t d) = selfNode d :=
  (Dev.get_set_other _ _ _ _ rfl).trans ((Dev.get_set_other _ _ _ _ rfl).trans (Dev.get_set_other _ _ _ _ rfl))

theorem fabricFresh_startState (t : Time) (d : Dev) (l : Nat) : startState (fabricFresh t d) l = startState d l := by
  have hw : Apart LinkCfg d (fabricFresh t d) :=
    Apart.ofRegs (Apart.set (f := Reg.DXL_NODE.BOOT) (Apart.set (f := Reg.DXL_STATUS.RUN)
      (Apart.set (f := Reg.DXL_CTRL.EN) (.refl _ d) (notLinkCfg (by decide))) (notLinkCfg (by decide)))
        (notLinkCfg (by decide))) rfl
  unfold startState
  rw [hw.onN (f := Reg.DXL_LINKn_CFG.EN) ⟨l, rfl⟩]

theorem fabricStart_runs :
    ∀ (s : State), s.dev.up (islandOf 0x60000) = true → s.dev.on Reg.DXL_STATUS.RUN = true →
    exec .fabricStart s = .next (s.after s.dev) := by
  intro s hu hr
  rw [exec_fabricStart, onWrite_up _ hu, if_pos hr]

theorem fabricStart_starts :
    ∀ (s : State), s.dev.up (islandOf 0x60000) = true → s.dev.on Reg.DXL_STATUS.RUN = false →
    ∃ t, exec .fabricStart s = .next t ∧ t.dev.on Reg.DXL_STATUS.RUN = true ∧ t.dev.on Reg.DXL_CTRL.EN = true ∧
      selfBoot t.dev = (selfBoot s.dev + 1) % 2 ^ Reg.DXL_NODE.BOOT.width ∧ selfNode t.dev = selfNode s.dev ∧
      (∀ l, l < 4 → linkState t.dev l = if s.dev.onN Reg.DXL_LINKn_CFG.EN l then 1 else 0) ∧
      t.dev.get Reg.DXL_STATUS.UP = 0 ∧ t.dev.dxl.held = [] ∧ t.dev.dxl.wins = [] ∧ t.dev.dxl.seqs = [] ∧
      t.dev.dxl.sent = s.dev.dxl.sent ∧ t.dev.keys = s.dev.keys ∧ t.dev.ports = s.dev.ports := by
  intro s hu hr
  have hs := fabricStart_started s.time s.dev
  have hp := (@Tame.fabricStart [.dxl] s.dev s.dev s.time (.refl _ _) ⟨by decide⟩)
  refine ⟨_, by rw [exec_fabricStart, onWrite_up _ hu, if_neg (by simp [hr])], ?_, ?_, ?_, ?_, fun l hl => ?_, ?_, ?_, ?_, ?_,
    ?_, ?_, ?_⟩
  · rw [after_on _ _ _ (notIntake_of_lt (by decide)), hs.run, fabricFresh_run]
  · rw [after_on _ _ _ (notIntake_of_lt (by decide)), Dev.on, hs.words.onN (.inl (by decide))]
    exact fabricFresh_en ..
  · rw [selfBoot, after_get _ _ _ (notIntake_of_lt (by decide)), hs.words.get (.inl (by decide))]
    exact fabricFresh_boot ..
  · rw [selfNode, after_get _ _ _ (notIntake_of_lt (by decide)), hs.words.get (.inl (by decide))]
    exact fabricFresh_node ..
  · rw [linkState_after _ _ hl, hs.states l hl, fabricFresh_startState]
    rfl
  · rw [after_get _ _ _ (notIntake_of_lt (by decide)), hs.shown (by omega)]
    have h0 : ∀ k ∈ List.range 4, (if linkState (fabricStart s.time s.dev) k = 2 then 2 ^ k else 0) = 0 := fun k hk => by
      have := startState_le (fabricFresh s.time s.dev) k
      rw [hs.states k (List.mem_range.mp hk), if_neg (by omega)]
    rw [upBits, List.map_congr_left h0]
    rfl
  · rw [after_dxl, hs.fabric]
    rfl
  · rw [after_dxl, hs.fabric]
    rfl
  · rw [after_dxl, hs.fabric]
    rfl
  · rw [after_dxl, hs.fabric]
    rfl
  · rw [after_keys, hp.stands .keys (by decide)]
  · rw [after_ports, hp.stands .ports (by decide)]

/-! ## Beacons -/

/-- This node with a frame to flood: its SEQ is taken, and its return will be a duplicate. -/
def ownTaken (typ : Nat) (d : Dev) : Dev :=
  (takeSeq (selfNode d) typ (nextSeq typ d).1 (nextSeq typ d).2).modDxl fun x =>
    { x with boots := tset x.boots (selfNode d) (some (selfBoot d)) }

/-- The frame that this node floods. -/
def ownFrame (typ : Nat) (payload : List Byte) (d : Dev) : List Byte :=
  dxHeader typ (d.get Reg.DXL_CFG.HOPS) (selfNode d) 0 true payload.length (nextSeq typ d).1 (selfBoot d) 0 ++ payload

theorem ownFlood_frame (typ : Nat) (p : List Byte) (d : Dev) :
    (ownFlood typ p d).2 = dxFlood (ownFrame typ p d) none true (ownTaken typ d) := rfl

theorem ownTaken_seqs (typ : Nat) (d : Dev) : tget (ownTaken typ d).dxl.seqs typ = (nextSeq typ d).1 := nextSeq_seqs typ d

theorem ownTaken_win (typ : Nat) (d : Dev) : tget (ownTaken typ d).dxl.wins (winKey (selfNode d) typ) =
    winTake (tget d.dxl.wins (winKey (selfNode d) typ)) (nextSeq typ d).1 := tget_tset_same _ _ _

/-- The fabric with the instant of its last beacon. -/
def beaconAt (t : Time) (d : Dev) : Dev := d.modDxl fun x => { x with beaconAt := t.loc }

theorem nextSeq_beaconAt (typ : Nat) (t : Time) (d : Dev) : (nextSeq typ (beaconAt t d)).1 = (nextSeq typ d).1 := rfl

theorem ownTaken_beaconAt (typ : Nat) (t : Time) (d : Dev) : (ownTaken typ (beaconAt t d)).dxl.beaconAt = t.loc := rfl

theorem beaconSend_due (hr : fabricRuns d = true) (hb : d.get Reg.DXL_CFG.BEACON ≠ 0)
    (hd : d.get Reg.DXL_CFG.BEACON * 10000000 ≤ t.loc - d.dxl.beaconAt) :
    beaconSend t d = (ownFlood tyBeacon [] (beaconAt t d)).2 :=
  if_pos (by simp [hr, hb, hd])

theorem beaconSend_idle :
    ∀ (s : State), fabricRuns s.dev = false ∨ s.dev.get Reg.DXL_CFG.BEACON = 0 ∨
      s.time.loc - s.dev.dxl.beaconAt < s.dev.get Reg.DXL_CFG.BEACON * 10000000 →
    exec .beaconSend s = .next (s.after s.dev) := by
  intro s h
  have hc : ¬ ((fabricRuns s.dev && s.dev.get Reg.DXL_CFG.BEACON != 0 &&
      decide (s.dev.get Reg.DXL_CFG.BEACON * 10000000 ≤ s.time.loc - s.dev.dxl.beaconAt)) = true) := by
    simp only [Bool.and_eq_true, bne_iff_ne, decide_eq_true_eq]
    rintro ⟨⟨h1, h2⟩, h3⟩
    rcases h with h | h | h
    · rw [h] at h1
      cases h1
    · exact h2 h
    · omega
  rw [exec_beaconSend, beaconSend, if_neg hc]

theorem ownTaken_regs (typ : Nat) (d : Dev) : (ownTaken typ d).regs = d.regs := rfl

theorem linkIsUp_ownTaken (typ : Nat) (d : Dev) : linkIsUp (ownTaken typ d) = linkIsUp d :=
  funext fun l => linkIsUp_congr (ownTaken_regs typ d) rfl rfl l

/-- Over unsigned DL links a frame of this node goes out on every link that is up. -/
theorem ownFlood_plain (typ : Nat) (p : List Byte) (d : Dev)
    (h : ∀ l, l < 4 → linkIsUp d l = true → isDl d l = true ∧ d.onN Reg.DXL_LINKn_CFG.AUTH l = false) :
    (ownFlood typ p d).2.dxl.sent =
      d.dxl.sent ++ ((List.range 4).filter (linkIsUp d)).map fun l => plainSent l (ownFrame typ p d) true := by
  have hf := dxFlood_plain (b := ownFrame typ p d) (d := ownTaken typ d) (good := true) fun l hl hu => by
    rw [linkIsUp_ownTaken] at hu
    rw [isDl, getN_ofRegs (ownTaken_regs typ d), Dev.onN, getN_ofRegs (ownTaken_regs typ d)]
    exact h l hl hu
  rw [ownFlood_frame, hf, linkIsUp_ownTaken]
  rfl

theorem ownFlood_sends (typ : Nat) (p : List Byte) (d : Dev) : SendsOnly (ownTaken typ d) (ownFlood typ p d).2 :=
  dxFlood_sends (ownFrame typ p d) none true (ownTaken typ d)

/-- A beacon among the frames sent. -/
theorem plainSent_beacon (l : Nat) (d : Dev) : plainSent l (ownFrame tyBeacon [] d) true = ⟨l, withTag (dxHeader tyBeacon
    (d.get Reg.DXL_CFG.HOPS) (selfNode d) 0 true 0 (nextSeq tyBeacon d).1 (selfBoot d) 0) false, none, true, dxPad 16⟩ := by
  have hl : (withTag (ownFrame tyBeacon [] d) false).length = 16 := by
    rw [withTag_length _ (by simp [ownFrame, dxHeader_length]), ownFrame, List.append_nil, dxHeader_length]
  rw [plainSent, hl, ownFrame, List.append_nil, List.length_nil]

theorem beaconSend_taken :
    ∀ (s : State), fabricRuns s.dev = true → s.dev.get Reg.DXL_CFG.BEACON ≠ 0 →
    s.dev.get Reg.DXL_CFG.BEACON * 10000000 ≤ s.time.loc - s.dev.dxl.beaconAt →
    ∃ t, exec .beaconSend s = .next t ∧ t.dev.dxl.beaconAt = s.time.loc ∧
      tget t.dev.dxl.seqs tyBeacon = (nextSeq tyBeacon s.dev).1 ∧ t.dev.dxl.held = s.dev.dxl.held ∧
      t.dev.dxl.links = s.dev.dxl.links := by
  intro s hr hb hd
  have ho := ownFlood_sends tyBeacon [] (beaconAt s.time s.dev)
  refine ⟨_, by rw [exec_beaconSend, beaconSend_due hr hb hd], ?_, ?_, ?_, ?_⟩
  · rw [after_dxl, ho.beaconAt, ownTaken_beaconAt]
  · rw [after_dxl, ho.seqs, ownTaken_seqs, nextSeq_beaconAt]
  · rw [after_dxl, ho.held]
    rfl
  · rw [after_dxl, ho.links]
    rfl

theorem beaconSend_plain :
    ∀ (s : State), fabricRuns s.dev = true → s.dev.get Reg.DXL_CFG.BEACON ≠ 0 →
    s.dev.get Reg.DXL_CFG.BEACON * 10000000 ≤ s.time.loc - s.dev.dxl.beaconAt →
    (∀ l, l < 4 → linkIsUp s.dev l = true → isDl s.dev l = true ∧ s.dev.onN Reg.DXL_LINKn_CFG.AUTH l = false) →
    ∃ t n, exec .beaconSend s = .next t ∧ n = (nextSeq tyBeacon s.dev).1 ∧ t.dev.dxl.beaconAt = s.time.loc ∧
      tget t.dev.dxl.seqs tyBeacon = n ∧
      t.dev.dxl.sent = s.dev.dxl.sent ++ ((List.range 4).filter (linkIsUp s.dev)).map (fun l =>
        ⟨l, withTag (dxHeader tyBeacon (s.dev.get Reg.DXL_CFG.HOPS) (selfNode s.dev) 0 true 0 n (selfBoot s.dev) 0) false,
          none, true, dxPad 16⟩) ∧
      (winJudge (tget s.dev.dxl.wins (winKey (selfNode s.dev) tyBeacon)) n ≠ .old →
        winJudge (tget t.dev.dxl.wins (winKey (selfNode s.dev) tyBeacon)) n = .dup) := by
  intro s hr hb hd hp
  have hs := ownFlood_plain tyBeacon [] (beaconAt s.time s.dev) hp
  have ho := ownFlood_sends tyBeacon [] (beaconAt s.time s.dev)
  refine ⟨_, _, by rw [exec_beaconSend, beaconSend_due hr hb hd], rfl, ?_, ?_, ?_, fun hw => ?_⟩
  · rw [after_dxl, ho.beaconAt, ownTaken_beaconAt]
  · rw [after_dxl, ho.seqs, ownTaken_seqs, nextSeq_beaconAt]
  · rw [after_dxl, hs]
    simp only [plainSent_beacon, nextSeq_beaconAt]
    rfl
  · have hwin := ownTaken_win tyBeacon (beaconAt s.time s.dev)
    rw [nextSeq_beaconAt] at hwin
    rw [after_dxl, ho.wins]
    exact (congrArg (winJudge · (nextSeq tyBeacon s.dev).1) hwin).trans (winJudge_winTake hw)

/-! ## Keep-alives -/

theorem dlink_modLink (d : Dev) (l : Nat) (f : DxLink → DxLink) : (d.modLink l f).dlink l = f (d.dlink l) :=
  tget_tset_same d.dxl.links l (f (tget d.dxl.links l))


/-- The payload of a KEEPALIVE (Table DXL-3). -/
def keepalivePayload (t : Time) (l : Nat) (d : Dev) : List Byte :=
  le 1 l ++ le 1 (b2n (hears t d l)) ++ le 2 (d.getN Reg.DXL_LINKn_KA.INT l) ++ le 12 0

/-- The frame of a KEEPALIVE. -/
def keepaliveFrame (t : Time) (l : Nat) (d : Dev) : List Byte :=
  dxHeader tyKeepalive 1 (selfNode d) (d.getN Reg.DXL_LINKn_STAT.PARTNER l) false (keepalivePayload t l d).length
    (nextSeq tyKeepalive d).1 (selfBoot d) 0 ++ keepalivePayload t l d

/-- The link has its KEEPALIVE in hand: the instant and the SEQ are taken. -/
def keepaliveTaken (t : Time) (l : Nat) (d : Dev) : Dev :=
  (nextSeq tyKeepalive (d.modLink l fun x => { x with kaTx := some t.loc })).2

/-- Is a KEEPALIVE due? -/
def keepaliveDue (t : Time) (l : Nat) (d : Dev) : Bool :=
  match (d.dlink l).kaTx with
  | none => true
  | some a => decide (d.getN Reg.DXL_LINKn_KA.INT l * 1000 ≤ t.loc - a)

theorem keepaliveSend_by (t : Time) (l : Nat) (d : Dev) : keepaliveSend t l d =
    if linkOn d l && linkState d l != 3 && d.getN Reg.DXL_LINKn_KA.INT l != 0 && keepaliveDue t l d then
      dxEmit l (keepaliveFrame t l d) true false (keepaliveTaken t l d) else d := rfl

theorem keepaliveDue_iff : keepaliveDue t l d = true ↔
    ∀ a ∈ (d.dlink l).kaTx, d.getN Reg.DXL_LINKn_KA.INT l * 1000 ≤ t.loc - a := by
  unfold keepaliveDue
  cases (d.dlink l).kaTx with
  | none => simp
  | some a => simp

theorem keepaliveSend_due (ho : linkOn d l = true) (hs : linkState d l ≠ 3) (hi : d.getN Reg.DXL_LINKn_KA.INT l ≠ 0)
    (hd : ∀ a ∈ (d.dlink l).kaTx, d.getN Reg.DXL_LINKn_KA.INT l * 1000 ≤ t.loc - a) :
    keepaliveSend t l d = dxEmit l (keepaliveFrame t l d) true false (keepaliveTaken t l d) := by
  rw [keepaliveSend_by, keepaliveDue_iff.mpr hd, if_pos (by simp [ho, hs, hi])]

theorem keepaliveTaken_kaTx (t : Time) (l : Nat) (d : Dev) : ((keepaliveTaken t l d).dlink l).kaTx = some t.loc := by
  have h : (keepaliveTaken t l d).dlink l = { tget d.dxl.links l with kaTx := some t.loc } := tget_tset_same _ _ _
  rw [h]

theorem keepaliveTaken_seqs (t : Time) (l : Nat) (d : Dev) :
    tget (keepaliveTaken t l d).dxl.seqs tyKeepalive = (nextSeq tyKeepalive d).1 := nextSeq_seqs _ _

theorem keepalive_idle :
    ∀ (s : State) (l : Nat), linkOn s.dev l = false ∨ linkState s.dev l = 3 ∨ s.dev.getN Reg.DXL_LINKn_KA.INT l = 0 ∨
      (∃ a ∈ (s.dev.dlink l).kaTx, s.time.loc - a < s.dev.getN Reg.DXL_LINKn_KA.INT l * 1000) →
    exec (.keepaliveSend l) s = .next (s.after s.dev) := by
  intro s l h
  rw [exec_keepaliveSend, keepaliveSend_by, if_neg]
  simp only [Bool.and_eq_true, bne_iff_ne]
  rintro ⟨⟨⟨h1, h2⟩, h3⟩, h4⟩
  rcases h with h | h | h | ⟨a, ha, h⟩
  · rw [h] at h1
    cases h1
  · exact h2 h
  · exact h3 h
  · have := keepaliveDue_iff.mp h4 a ha
    omega

theorem keepalive_plain :
    ∀ (s : State) (l : Nat), linkOn s.dev l = true → linkState s.dev l ≠ 3 → s.dev.getN Reg.DXL_LINKn_KA.INT l ≠ 0 →
    (∀ a ∈ (s.dev.dlink l).kaTx, s.dev.getN Reg.DXL_LINKn_KA.INT l * 1000 ≤ s.time.loc - a) →
    isDl s.dev l = true → s.dev.onN Reg.DXL_LINKn_CFG.AUTH l = false →
    ∃ t n, exec (.keepaliveSend l) s = .next t ∧ n = (nextSeq tyKeepalive s.dev).1 ∧
      (t.dev.dlink l).kaTx = some s.time.loc ∧ tget t.dev.dxl.seqs tyKeepalive = n ∧
      t.dev.dxl.sent = s.dev.dxl.sent ++ [⟨l, withTag (dxHeader tyKeepalive 1 (selfNode s.dev)
        (s.dev.getN Reg.DXL_LINKn_STAT.PARTNER l) false 16 n (selfBoot s.dev) 0 ++ (le 1 l ++
          le 1 (b2n (hears s.time s.dev l)) ++ le 2 (s.dev.getN Reg.DXL_LINKn_KA.INT l) ++ le 12 0)) false, none, true, dxPad 32⟩] := by
  intro s l ho hs hi hd hm ha
  have hl : (keepalivePayload s.time l s.dev).length = 16 := by simp [keepalivePayload]
  have hw : (withTag (keepaliveFrame s.time l s.dev) false).length = 32 := by
    rw [withTag_length _ (by simp [keepaliveFrame, dxHeader_length]), keepaliveFrame, List.length_append, hl, dxHeader_length]
  refine ⟨_, _, by rw [exec_keepaliveSend, keepaliveSend_due ho hs hi hd,
    dxEmit_plain (show isDl (keepaliveTaken s.time l s.dev) l = true from hm)
      (show (keepaliveTaken s.time l s.dev).onN Reg.DXL_LINKn_CFG.AUTH l = false from ha)], rfl, ?_, ?_, ?_⟩
  · rw [Dev.dlink, after_dxl]
    exact keepaliveTaken_kaTx ..
  · rw [after_dxl]
    exact keepaliveTaken_seqs ..
  · rw [after_dxl]
    have hp : plainSent l (keepaliveFrame s.time l s.dev) true =
        ⟨l, withTag (keepaliveFrame s.time l s.dev) false, none, true, dxPad 32⟩ := by rw [plainSent, hw]
    rw [hp, keepaliveFrame, hl]
    rfl

theorem keepalive_sent :
    ∀ (s : State) (l : Nat), linkOn s.dev l = true → linkState s.dev l ≠ 3 → s.dev.getN Reg.DXL_LINKn_KA.INT l ≠ 0 →
    (∀ a ∈ (s.dev.dlink l).kaTx, s.dev.getN Reg.DXL_LINKn_KA.INT l * 1000 ≤ s.time.loc - a) →
    ∃ t, exec (.keepaliveSend l) s = .next t ∧ (t.dev.dlink l).kaTx = some s.time.loc ∧
      tget t.dev.dxl.seqs tyKeepalive = (nextSeq tyKeepalive s.dev).1 ∧ t.dev.dxl.held = s.dev.dxl.held := by
  intro s l ho hs hi hd
  have he := dxEmit_sends l (keepaliveFrame s.time l s.dev) true false (keepaliveTaken s.time l s.dev)
  refine ⟨_, by rw [exec_keepaliveSend, keepaliveSend_due ho hs hi hd], ?_, ?_, ?_⟩
  · rw [Dev.dlink, after_dxl, ← Dev.dlink, he.dlink, keepaliveTaken_kaTx]
  · rw [after_dxl, he.seqs, keepaliveTaken_seqs]
  · rw [after_dxl, he.held]
    rfl

/-! ## A link goes down -/

theorem linkState_linkFalls (d : Dev) (hl : l < 4) : linkState (linkFalls l d) l = 1 := by
  rw [linkFalls, linkState, Dev.cause_getN _ _ _ _ _ _ _ (by
    rw [show Reg.DXL_LINKn_STAT.STATE.reg = At.DXL_LINKn_STAT from rfl, linkStat_addr]
    exact ne_of_gt (show 0x60010 < _ by omega))]
  exact linkState_setLinkState_same d hl (by omega)

theorem linkFalls_up (d : Dev) (hl : l < 4) : ((linkFalls l d).get Reg.DXL_STATUS.UP).testBit l = false := by
  rw [linkFalls, Dev.cause_get _ _ _ _ _ _ (by decide)]
  exact setLinkState_testBit d hl (by omega)

theorem linkFalls_bit (l : Nat) (d : Dev) : bitOf ((linkFalls l d).word intDxl.addr) 1 = true :=
  Dev.cause_sets _ _ _ _ _ (by omega)

theorem linkFalls_held (l : Nat) (d : Dev) : (linkFalls l d).dxl.held = d.dxl.held := by
  rw [linkFalls, Dev.cause_dxl]
  rfl

theorem keepalive_unlimited :
    ∀ (s : State) (l : Nat), s.dev.getN Reg.DXL_LINKn_KA.MISS l = 0 →
    exec (.keepaliveTimeout l) s = .next (s.after s.dev) := by
  intro s l h
  rw [exec_keepaliveTimeout, keepaliveTimeout, if_neg (by simp [h])]

theorem keepalive_timeout :
    ∀ (s : State) (l : Nat), linkIsUp s.dev l = true → s.dev.getN Reg.DXL_LINKn_KA.MISS l ≠ 0 →
    (hears s.time s.dev l = true → exec (.keepaliveTimeout l) s = .next (s.after s.dev)) ∧
    (hears s.time s.dev l = false → ∃ t, exec (.keepaliveTimeout l) s = .next t ∧ linkState t.dev l = 1 ∧
      (t.dev.get Reg.DXL_STATUS.UP).testBit l = false ∧ bitOf (t.dev.word intDxl.addr) 1 = true ∧
      t.dev.dxl.held = s.dev.dxl.held) := by
  intro s l hu hm
  have hl := linkIsUp_lt hu
  refine ⟨fun hh => ?_, fun hh => ?_⟩
  · rw [exec_keepaliveTimeout, keepaliveTimeout, if_neg (by simp [hh])]
  · refine ⟨_, by rw [exec_keepaliveTimeout, keepaliveTimeout, if_pos (by simp [hu, hm, hh])], ?_, ?_, ?_, ?_⟩
    · rw [linkState_after _ _ hl, linkState_linkFalls _ hl]
    · rw [after_get _ _ _ (notIntake_of_lt (by decide)), linkFalls_up _ hl]
    · rw [after_word _ _ _ (notIntake_of_lt (by decide)), linkFalls_bit]
    · rw [after_dxl, linkFalls_held]

theorem lockLoss_by_mode :
    ∀ (s : State) (l : Nat), linkIsUp s.dev l = true →
    (isDl s.dev l = false → exec (.dxlLockLoss l) s = .next (s.after s.dev)) ∧
    (isDl s.dev l = true → ∃ t, exec (.dxlLockLoss l) s = .next t ∧ linkState t.dev l = 1 ∧
      bitOf (t.dev.word intDxl.addr) 1 = true) := by
  intro s l hu
  refine ⟨fun hm => ?_, fun hm => ⟨_, by rw [exec_dxlLockLoss, if_pos (by simp [hu, hm])], ?_, ?_⟩⟩
  · rw [exec_dxlLockLoss, if_neg (by simp [hm])]
  · rw [linkState_after _ _ (linkIsUp_lt hu), linkState_linkFalls _ (linkIsUp_lt hu)]
  · rw [after_word _ _ _ (notIntake_of_lt (by decide)), linkFalls_bit]

theorem link_not_up :
    ∀ (s : State) (l : Nat), linkIsUp s.dev l = false →
    exec (.keepaliveTimeout l) s = .next (s.after s.dev) ∧ exec (.dxlLockLoss l) s = .next (s.after s.dev) := by
  intro s l h
  exact ⟨by rw [exec_keepaliveTimeout, keepaliveTimeout, if_neg (by simp [h])], by rw [exec_dxlLockLoss, if_neg (by simp [h])]⟩

/-! ## A KEEPALIVE received (R545) -/

/-- The link with a KEEPALIVE of its partner taken. -/
def heardFrom (t : Time) (l : Nat) (b : List Byte) (d : Dev) : Dev :=
  (d.setN Reg.DXL_LINKn_STAT.PARTNER l (dxOrigin b)).modLink l fun x =>
    { x with kaRx := some t.loc, heard := (byteAt (dxBody b) 1).testBit 0 }

/-- The link refuses a node that is not its partner. -/
def partnerRefused (l : Nat) (b : List Byte) (d : Dev) : Dev :=
  (((setLinkState l 3 (d.setN Reg.DXL_LINKn_STAT.PARTNER l (dxOrigin b))).sat Reg.DXL_CNT_BIND.N).cause intDxl 1 l 0).event
    144 l l (dxOrigin b)

variable {b : List Byte}

theorem keepaliveTake_refused (ha : d.onN Reg.DXL_LINKn_PEER.ANY l = false)
    (hn : d.getN Reg.DXL_LINKn_PEER.NODE l ≠ dxOrigin b) : keepaliveTake t l b d = partnerRefused l b d :=
  if_pos (by simp [ha, hn])

theorem keepaliveTake_up (ha : d.onN Reg.DXL_LINKn_PEER.ANY l = true) (hs : linkState d l = 2)
    (hh : (byteAt (dxBody b) 1).testBit 0 = true) : keepaliveTake t l b d = heardFrom t l b d := by
  unfold keepaliveTake
  dsimp only
  rw [if_neg (by simp [ha]), if_neg (c := _ ∧ linkState d l ≠ 2) (by simp [hs]), if_neg (c := _ ∧ linkState d l = 2)
    (by simp [hh]), ite_self]
  rfl

theorem keepaliveTake_comes (ha : d.onN Reg.DXL_LINKn_PEER.ANY l = true) (hi : d.getN Reg.DXL_LINKn_KA.INT l ≠ 0)
    (hs : linkState d l ≠ 2) (hh : (byteAt (dxBody b) 1).testBit 0 = true) :
    keepaliveTake t l b d = (setLinkState l 2 (heardFrom t l b d)).cause intDxl 1 l 0 := by
  unfold keepaliveTake
  dsimp only
  rw [if_neg (by simp [ha]), if_neg hi, if_pos ⟨hh, hs⟩]
  rfl

/-- What a KEEPALIVE that brings a link up, or keeps it up, leaves of it. -/
structure BroughtUp (t : Time) (l : Nat) (b : List Byte) (e d : Dev) : Prop where
  state : linkState d l = 2
  shown : linkState e l ≠ 2 → (d.get Reg.DXL_STATUS.UP).testBit l = true
  partner : d.getN Reg.DXL_LINKn_STAT.PARTNER l = dxOrigin b
  heard : (d.dlink l).kaRx = some t.loc

theorem stat_ne_status (l : Nat) : At.DXL_LINKn_STAT.addr l ≠ 0x6000C := by
  rw [linkStat_addr]
  omega

theorem stat_ne_int (l : Nat) : At.DXL_LINKn_STAT.addr l ≠ intDxl.addr := by
  rw [linkStat_addr]
  exact ne_of_gt (show 0x60010 < _ by omega)

theorem heardFrom_state (t : Time) (l : Nat) (b : List Byte) (d : Dev) : linkState (heardFrom t l b d) l = linkState d l :=
  Dev.getN_setN_apart _ _ _ _ _ _ rfl rfl rfl

theorem dxOrigin_lt (b : List Byte) : dxOrigin b < 512 := Nat.mod_lt _ (by omega)

theorem heardFrom_partner (t : Time) (l : Nat) (b : List Byte) (d : Dev) :
    (heardFrom t l b d).getN Reg.DXL_LINKn_STAT.PARTNER l = dxOrigin b :=
  (Dev.getN_setN_same _ _ _ _ rfl).trans (Nat.mod_eq_of_lt (dxOrigin_lt b))

theorem heardFrom_kaRx (t : Time) (l : Nat) (b : List Byte) (d : Dev) : ((heardFrom t l b d).dlink l).kaRx = some t.loc := by
  have h : (heardFrom t l b d).dlink l = { d.dlink l with
      kaRx := some t.loc, heard := (byteAt (dxBody b) 1).testBit 0 } :=
    dlink_modLink (d.setN Reg.DXL_LINKn_STAT.PARTNER l (dxOrigin b)) l _
  rw [h]

theorem setLinkState_partner (l st : Nat) (d : Dev) :
    (setLinkState l st d).getN Reg.DXL_LINKn_STAT.PARTNER l = d.getN Reg.DXL_LINKn_STAT.PARTNER l :=
  (Dev.getN_setN_addr _ _ _ _ _ _ (stat_ne_status l)).trans (Dev.getN_setN_apart _ _ _ _ _ _ rfl rfl rfl)

theorem keepaliveTake_broughtUp (hl : l < 4) (ha : d.onN Reg.DXL_LINKn_PEER.ANY l = true)
    (hi : d.getN Reg.DXL_LINKn_KA.INT l ≠ 0) (hh : (byteAt (dxBody b) 1).testBit 0 = true) :
    BroughtUp t l b d (keepaliveTake t l b d) := by
  by_cases hs : linkState d l = 2
  · rw [keepaliveTake_up ha hs hh]
    exact ⟨by rw [heardFrom_state, hs], fun h => absurd hs h, heardFrom_partner .., heardFrom_kaRx ..⟩
  · rw [keepaliveTake_comes ha hi hs hh]
    refine ⟨?_, fun _ => ?_, ?_, ?_⟩
    · rw [linkState, Dev.cause_getN _ _ _ _ _ _ _ (stat_ne_int l)]
      exact linkState_setLinkState_same _ hl (by omega)
    · rw [Dev.cause_get _ _ _ _ _ _ (by decide), setLinkState_testBit _ hl (by omega)]
      rfl
    · rw [Dev.cause_getN _ _ _ _ _ _ _ (stat_ne_int l), setLinkState_partner, heardFrom_partner]
    · rw [Dev.dlink, Dev.cause_dxl, setLinkState_dxl, ← Dev.dlink, heardFrom_kaRx]

/-- A device with a frame received at a link, its origin's BOOT taken for the first time. -/
def firstOf (l : Nat) (b : List Byte) (d : Dev) : Dev :=
  (d.sat Reg.DXL_LINKn_RXF.N l).modDxl fun x => { x with boots := tset x.boots (dxOrigin b) (some (dxBoot b)) }

theorem keepalive_received {f : DxFrame} (ho : linkOn s.dev l = true) (hs : linkState s.dev l ≠ 3) (hf : f.fcsOk = true)
    (hm : dxMalformed f.bytes = false) (hk : dxType f.bytes = tyKeepalive) (ha : s.dev.onN Reg.DXL_LINKn_CFG.AUTH l = false)
    (hn : dxOrigin f.bytes ≠ selfNode s.dev) (hb : tget s.dev.dxl.boots (dxOrigin f.bytes) = none) :
    exec (.daxideFrameReceive l f) s = .next (s.after (keepaliveTake s.time l f.bytes (firstOf l f.bytes s.dev))) := by
  rw [exec_daxideFrame_on f ho, dxReceive_unsigned hf hs hm (.inr (.inl hk)) ha,
    dxOriginCheck_first (d := s.dev.sat Reg.DXL_LINKn_RXF.N l) (.inl (by rwa [selfNode_rxf])) hb, dxByType_keepalive hk]
  rfl

theorem refused_state (hl : l < 4) (d : Dev) : linkState (partnerRefused l b d) l = 3 := by
  rw [linkState, partnerRefused, Dev.event_getN, Dev.cause_getN _ _ _ _ _ _ _ (stat_ne_int l)]
  have hc : At.DXL_LINKn_STAT.addr l ≠ 0x60054 := by
    rw [linkStat_addr]
    omega
  exact (Dev.getN_setN_addr _ _ _ _ _ _ hc).trans (linkState_setLinkState_same _ hl (by omega))

theorem refused_up (hl : l < 4) (d : Dev) : ((partnerRefused l b d).get Reg.DXL_STATUS.UP).testBit l = false := by
  rw [partnerRefused, Dev.event_get, Dev.cause_get _ _ _ _ _ _ (by decide), Dev.get_sat_other _ (by decide)]
  exact setLinkState_testBit _ hl (by omega)

theorem refused_count (l : Nat) (d : Dev) : (partnerRefused l b d).get Reg.DXL_CNT_BIND.N =
    min (d.get Reg.DXL_CNT_BIND.N + 1) (2 ^ Reg.DXL_CNT_BIND.N.width - 1) := by
  have hc : 0x60054 ≠ At.DXL_LINKn_STAT.addr l := by
    rw [linkStat_addr]
    omega
  rw [partnerRefused, Dev.event_get, Dev.cause_get _ _ _ _ _ _ (by decide), Dev.get_sat_same _ _ rfl]
  have hw : Apart (· = 0x60054) d (setLinkState l 3 (d.setN Reg.DXL_LINKn_STAT.PARTNER l (dxOrigin b))) :=
    (Apart.setN (f := Reg.DXL_LINKn_STAT.PARTNER) (.refl _ d) hc.symm).setLinkState hc.symm (by decide)
  rw [hw.get rfl]

theorem keepalive_taken :
    ∀ (s : State) (l : Nat) (f : DxFrame), linkOn s.dev l = true → linkState s.dev l ≠ 3 → f.fcsOk = true →
    dxMalformed f.bytes = false → dxType f.bytes = tyKeepalive → s.dev.onN Reg.DXL_LINKn_CFG.AUTH l = false →
    dxOrigin f.bytes ≠ selfNode s.dev → tget s.dev.dxl.boots (dxOrigin f.bytes) = none →
    (s.dev.onN Reg.DXL_LINKn_PEER.ANY l = true → s.dev.getN Reg.DXL_LINKn_KA.INT l ≠ 0 →
      (byteAt (dxBody f.bytes) 1).testBit 0 = true →
      ∃ t, exec (.daxideFrameReceive l f) s = .next t ∧ linkState t.dev l = 2 ∧
        (linkState s.dev l ≠ 2 → (t.dev.get Reg.DXL_STATUS.UP).testBit l = true) ∧
        t.dev.getN Reg.DXL_LINKn_STAT.PARTNER l = dxOrigin f.bytes ∧ (t.dev.dlink l).kaRx = some s.time.loc) ∧
    (s.dev.onN Reg.DXL_LINKn_PEER.ANY l = false → s.dev.getN Reg.DXL_LINKn_PEER.NODE l ≠ dxOrigin f.bytes →
      ∃ t, exec (.daxideFrameReceive l f) s = .next t ∧ linkState t.dev l = 3 ∧
        (t.dev.get Reg.DXL_STATUS.UP).testBit l = false ∧ bitOf (t.dev.word intDxl.addr) 1 = true ∧
        t.dev.get Reg.DXL_CNT_BIND.N = min (s.dev.get Reg.DXL_CNT_BIND.N + 1) (2 ^ Reg.DXL_CNT_BIND.N.width - 1)) := by
  intro s l f ho hs hf hm hk ha hn hb
  have hl := linkOn_lt ho
  have hx := keepalive_received ho hs hf hm hk ha hn hb
  refine ⟨fun hany hi hh => ?_, fun hany hp => ?_⟩
  · obtain ⟨h1, h2, h3, h4⟩ := keepaliveTake_broughtUp (t := s.time) (b := f.bytes) (d := firstOf l f.bytes s.dev) hl
      ((onN_rxf (g := Reg.DXL_LINKn_PEER.ANY) s.dev l rfl (by decide)).trans hany)
      (fun h => hi ((getN_rxf (g := Reg.DXL_LINKn_KA.INT) s.dev l rfl (by decide)).symm.trans h)) hh
    refine ⟨_, hx, ?_, fun h => ?_, ?_, ?_⟩
    · rw [linkState_after _ _ hl, h1]
    · rw [after_get _ _ _ (notIntake_of_lt (by decide))]
      exact h2 fun he => h ((linkState_rxf s.dev l).symm.trans he)
    · rw [after_getN _ _ _ _ (notIntake_of_lt (by
        rw [show Reg.DXL_LINKn_STAT.PARTNER.reg = At.DXL_LINKn_STAT from rfl, linkStat_addr]
        omega)), h3]
    · rw [Dev.dlink, after_dxl]
      exact h4
  · rw [keepaliveTake_refused (d := firstOf l f.bytes s.dev)
      ((onN_rxf (g := Reg.DXL_LINKn_PEER.ANY) s.dev l rfl (by decide)).trans hany)
      (fun h => hp ((getN_rxf (g := Reg.DXL_LINKn_PEER.NODE) s.dev l rfl (by decide)).symm.trans h))] at hx
    refine ⟨_, hx, ?_, ?_, ?_, ?_⟩
    · rw [linkState_after _ _ hl, refused_state hl]
    · rw [after_get _ _ _ (notIntake_of_lt (by decide)), refused_up hl]
    · rw [after_word _ _ _ (notIntake_of_lt (by decide)), partnerRefused, Dev.event_word]
      exact Dev.cause_sets _ _ _ _ _ (by omega)
    · rw [after_get _ _ _ (notIntake_of_lt (by decide)), refused_count]
      have hc : (firstOf l f.bytes s.dev).get Reg.DXL_CNT_BIND.N = s.dev.get Reg.DXL_CNT_BIND.N :=
        Dev.getN_setN_addr _ _ _ _ _ _ (by
          rw [show Reg.DXL_LINKn_RXF.N.reg = At.DXL_LINKn_RXF from rfl, linkRxf_addr]
          exact ne_of_lt (show 0x60054 < _ by omega))
      rw [hc]

/-- Settles O50: the fabric starts, beacons and KEEPALIVEs by whether they are due, and the life of a link. -/
theorem fabricLinks : Obligations.FabricLinks :=
  ⟨⟨fabricStart_runs, fabricStart_starts, beaconSend_idle, beaconSend_taken, beaconSend_plain⟩, keepalive_idle, keepalive_plain,
    keepalive_sent, keepalive_unlimited, keepalive_timeout, lockLoss_by_mode, link_not_up, keepalive_taken⟩

end Sys2Proof.Machine

/-!
PROOFS. O52: the remote alarm table (R533 to R537): an entry written, a TOKEN applied, and the loss of an origin.
-/

namespace Sys2Proof.Machine

open Sys2Proof

variable {s : State} {e d x : Dev} {k j n : Nat} {t : Time}

theorem exec_remoteAlarmEntryWrite (addr : Nat) (v : Word32) (s : State) :
    exec (.remoteAlarmEntryWrite addr v) s = .next (s.after (if 0x3A0800 ≤ addr ∧ addr < 0x3A1000 ∧ addr % 4 = 0 then
      onWrite addr (remoteEntryWrite s.time addr v) s.dev else s.dev)) := rfl

theorem exec_remoteOriginLost (node : Nat) (s : State) :
    exec (.remoteOriginLost node) s = .next (s.after (originLost s.time node s.dev)) := rfl

/-! ## The words of an entry -/

theorem alarmEntry_addr (k : Nat) : At.T_RALARM_0.addr k = 0x3A0800 + k * 8 := RegAt.addr_single rfl k
theorem alarmLoss_addr (k : Nat) : At.T_RALARM_1.addr k = 0x3A0804 + k * 8 := RegAt.addr_single rfl k
theorem alarmStat_addr (k : Nat) : At.T_RASTAT_0.addr k = 0x3A1000 + k * 8 := RegAt.addr_single rfl k
theorem alarmEdge_addr (k : Nat) : At.T_RASTAT_1.addr k = 0x3A1004 + k * 8 := RegAt.addr_single rfl k

/-- The words of the remote alarm table and of its states. -/
def RemoteWord (a : Nat) : Prop := 0x3A0800 ≤ a

theorem remote_off {a : Nat} (h : a < 0x3A0800) : ¬ RemoteWord a := Nat.not_le.mpr h

theorem alarmStat_after (s : State) (d : Dev) {f : Field} (hf : f.reg = At.T_RASTAT_0) (hk : k < 256) :
    (s.after d).dev.onN f k = d.onN f k :=
  after_onN s d f k (by
    rw [hf, alarmStat_addr]
    exact notIntake_between (by omega) (by omega))

theorem alarmEntry_after (s : State) (d : Dev) {f : Field} (hf : f.reg = At.T_RALARM_0) (hk : k < 256) :
    (s.after d).dev.onN f k = d.onN f k :=
  after_onN s d f k (by
    rw [hf, alarmEntry_addr]
    exact notIntake_between (by omega) (by omega))

/-! ## A record for the host -/

section
variable {W : Nat → Prop} (hW : ∀ a, W a → RemoteWord a)
include hW

theorem Apart.useBuffer {b : Posted} {st len : Nat} {more : Bool} {ext : List Byte} (h : Apart W e d) (hn : n < 256) :
    Apart W e (useBuffer n b st more len ext d) := by
  have hs : ¬ W (At.HIF_RINGn_DCONS.addr n) := fun hw => by
    have := hW _ hw
    unfold RemoteWord at this
    have ha : At.HIF_RINGn_DCONS.addr n = 0xF2010 + n * 0x20 := RegAt.addr_single rfl n
    omega
  exact Apart.setN (f := Reg.HIF_RINGn_DCONS.N) (d := d.setRing n { d.ring n with posted := (d.ring n).posted.tail }) h hs

theorem Apart.skipBad (hn : n < 256) (fuel : Nat) : ∀ {d}, Apart W e d → Apart W e (skipBad n fuel d) := by
  induction fuel with
  | zero => exact fun h => h
  | succ fuel ih =>
    intro d h
    unfold Machine.skipBad
    split
    · exact .ite h (ih (h.useBuffer hW hn))
    · exact h

theorem Apart.ringDrop (h : Apart W e d) (hn : n < 256) : Apart W e (ringDrop n d) := by
  have hs : ¬ W (At.HIF_RINGn_DROP.addr n) := fun hw => by
    have := hW _ hw
    unfold RemoteWord at this
    have ha : At.HIF_RINGn_DROP.addr n = 0xF2018 + n * 0x20 := RegAt.addr_single rfl n
    omega
  exact Apart.sat (f := Reg.HIF_RINGn_DROP.N) (d := d.setRing n { d.ring n with drop := ((d.ring n).drop + 1) % 2 ^ 32 }) h hs

theorem Apart.deliver {bytes ext : List Byte} (h : Apart W e d) (hn : n < 256) : Apart W e (deliver n bytes ext d).2 := by
  unfold Machine.deliver deliverSt
  dsimp only
  split
  · exact .iteSnd (.iteSnd (Apart.skipBad hW hn _ (h.useBuffer hW hn))
      (Apart.skipBad hW hn _ (Apart.useBuffer hW (d := hostWrite _ d) h hn))) (h.ringDrop hW hn)
  · exact h.ringDrop hW hn

/-- A record for the host leaves the remote alarm table. -/
theorem Apart.remoteRecord {sec10 : List Byte} {rule edge origin y seq k : Nat} (h : Apart W e d) :
    Apart W e (remoteRecord sec10 rule edge origin y seq k d) := by
  have hc {z : Dev} (hz : Apart W e z) : Apart W e (z.sat Reg.DXL_CNT_HOSTDROP.N) :=
    hz.sat fun hw => remote_off (show (0x6006C : Nat) < 0x3A0800 by decide) (hW _ hw)
  have hn : d.get Reg.DXL_HOST.ALRM_RING < 256 := Dev.getN_lt ..
  unfold Machine.remoteRecord
  refine .ite h (.ite (hc h) ?_)
  have hd (bs ext : List Byte) := Apart.deliver hW (bytes := bs) (ext := ext) h hn
  split
  · next hx => exact (congrArg (Apart W e) (congrArg Prod.snd hx)).mp (hd _ _)
  · next hx => exact hc ((congrArg (Apart W e) (congrArg Prod.snd hx)).mp (hd _ _))

theorem Apart.remoteOther {edge : Nat} {loss : Bool} (h : Apart W e d) : Apart W e (remoteOther edge k loss d) :=
  Apart.remoteRecord hW h
end

/-- A record for the host leaves when nodes were heard and entries made valid. -/
structure TimesStand (e d : Dev) : Prop where
  heard : d.dxl.heardAt = e.dxl.heardAt
  since : d.dxl.since = e.dxl.since

theorem TimesStand.refl (d : Dev) : TimesStand d d := ⟨rfl, rfl⟩

theorem TimesStand.trans (h : TimesStand e d) (g : TimesStand d x) : TimesStand e x :=
  ⟨g.heard.trans h.heard, g.since.trans h.since⟩

theorem TimesStand.ofDxl (h : d.dxl = e.dxl) : TimesStand e d := ⟨by rw [h], by rw [h]⟩

theorem deliver_dxl (n : Nat) (bytes ext : List Byte) (d : Dev) : (deliver n bytes ext d).2.dxl = d.dxl :=
  (@Tame.deliver [.hif] d d n bytes ext (.refl _ d) ⟨by decide⟩).stands .dxl (by decide)

theorem remoteRecord_times (sec10 : List Byte) (rule edge origin y seq k : Nat) (d : Dev) :
    TimesStand d (remoteRecord sec10 rule edge origin y seq k d) := by
  unfold remoteRecord
  split
  · exact .refl d
  · dsimp only
    split
    · exact ⟨rfl, rfl⟩
    · have hd (bs ext : List Byte) := deliver_dxl (d.get Reg.DXL_HOST.ALRM_RING) bs ext d
      split
      · next hx =>
        have hy := congrArg (Dev.dxl ·.2) hx.symm
        rw [hd] at hy
        exact .trans (.ofDxl hy) ⟨rfl, rfl⟩
      · next hx =>
        have hy := congrArg (Dev.dxl ·.2) hx.symm
        rw [hd] at hy
        exact .trans (.ofDxl hy) ⟨rfl, rfl⟩

theorem remoteOther_times (edge k : Nat) (loss : Bool) (d : Dev) : TimesStand d (remoteOther edge k loss d) := by
  unfold remoteOther
  refine .trans ?_ (remoteRecord_times ..)
  exact .ofDxl rfl

/-! ## The state of an entry -/

/-- What a record to the host may be: it leaves the table and the times. -/
structure RecordOnly (record : Dev → Dev) : Prop where
  words : ∀ d, Apart RemoteWord d (record d)
  times : ∀ d, TimesStand d (record d)

theorem recordOnly_token (sec10 : List Byte) (rule edge origin y seq k : Nat) :
    RecordOnly (remoteRecord sec10 rule edge origin y seq k) :=
  ⟨fun d => (Apart.refl _ d).remoteRecord fun _ h => h, fun _ => remoteRecord_times ..⟩

theorem recordOnly_other (edge k : Nat) (loss : Bool) : RecordOnly (remoteOther edge k loss) :=
  ⟨fun d => (Apart.refl _ d).remoteOther fun _ h => h, fun _ => remoteOther_times ..⟩

/-- The words of the table, and of the states of all entries but one. -/
def OtherEntry (k a : Nat) : Prop := RemoteWord a ∧ a ≠ At.T_RASTAT_0.addr k ∧ a ≠ At.T_RASTAT_1.addr k

theorem otherEntry_stat (h : j ≠ k) : OtherEntry k (At.T_RASTAT_0.addr j) := by
  unfold OtherEntry RemoteWord
  rw [alarmStat_addr, alarmStat_addr, alarmEdge_addr]
  omega

theorem otherEntry_table {a : Nat} (h : 0x3A0800 ≤ a) (h' : a < 0x3A1000) : OtherEntry k a := by
  unfold OtherEntry RemoteWord
  rw [alarmStat_addr, alarmEdge_addr]
  omega

theorem stat_ne_edge (k : Nat) : At.T_RASTAT_0.addr k ≠ At.T_RASTAT_1.addr k := by
  rw [alarmStat_addr, alarmEdge_addr]
  omega

/-- What is done to entry k leaves the other entries, and when nodes were heard and entries made valid. -/
structure EntryOnly (k : Nat) (e d : Dev) : Prop where
  words : Apart (OtherEntry k) e d
  times : TimesStand e d

theorem EntryOnly.refl (k : Nat) (d : Dev) : EntryOnly k d d := ⟨.refl _ d, .refl d⟩

theorem EntryOnly.trans (h : EntryOnly k e d) (g : EntryOnly k d x) : EntryOnly k e x :=
  ⟨h.words.trans g.words, h.times.trans g.times⟩

theorem EntryOnly.setN {f : Field} {v : Nat} (h : EntryOnly k e d)
    (hf : f.reg = At.T_RASTAT_0 ∨ f.reg = At.T_RASTAT_1) : EntryOnly k e (d.setN f k v) :=
  ⟨h.words.setN fun hw => by
    rcases hf with hf | hf
    · exact hw.2.1 (by rw [hf])
    · exact hw.2.2 (by rw [hf]), h.times.trans (.ofDxl rfl)⟩

theorem EntryOnly.cause {i y z : Nat} (h : EntryOnly k e d) : EntryOnly k e (d.cause intDxl i y z) :=
  ⟨h.words.cause fun hw => remote_off (show (0x60010 : Nat) < 0x3A0800 by decide) hw.1, h.times.trans (.ofDxl (by simp))⟩

theorem EntryOnly.record {record : Dev → Dev} (h : EntryOnly k e d) (hr : RecordOnly record) : EntryOnly k e (record d) :=
  ⟨h.words.trans fun a ha => hr.words d a ha.1, h.times.trans (hr.times d)⟩

theorem remoteSet_entry {v : Bool} {record : Dev → Dev} (hr : RecordOnly record) (d : Dev) :
    EntryOnly k d (remoteSet t k v record d) := by
  have h1 : EntryOnly k d ((d.setB Reg.T_RASTAT.STATE k v).setN Reg.T_RASTAT.EDGE_T k t.st32) :=
    (EntryOnly.setN (f := Reg.T_RASTAT.STATE) (.refl k d) (.inl rfl)).setN (.inr rfl)
  unfold remoteSet
  dsimp only
  split
  · exact .refl k d
  · split
    · exact h1.record hr
    · exact h1

/-- STATE takes the value it is given. -/
theorem remoteSet_state {v : Bool} {record : Dev → Dev} (hr : RecordOnly record) (d : Dev) :
    (remoteSet t k v record d).onN Reg.T_RASTAT.STATE k = v := by
  have h1 : ((d.setB Reg.T_RASTAT.STATE k v).setN Reg.T_RASTAT.EDGE_T k t.st32).onN Reg.T_RASTAT.STATE k = v := by
    rw [Dev.onN_setN_addr _ _ _ _ _ _ (stat_ne_edge k), Dev.setB, Dev.onN_setN_same _ _ _ _ rfl]
    cases v <;> rfl
  have hw : RemoteWord (Reg.T_RASTAT.STATE.reg.addr k) := by
    rw [show Reg.T_RASTAT.STATE.reg = At.T_RASTAT_0 from rfl, alarmStat_addr]
    unfold RemoteWord
    omega
  unfold remoteSet
  dsimp only
  split
  · next h => simpa using h
  · split
    · rw [(hr.words _).onN hw, h1]
    · exact h1

theorem setN_state_apart {f : Field} (hf : f.fits = true) (ha : f.apart Reg.T_RASTAT.STATE = true) (v : Nat) :
    (d.setN f k v).onN Reg.T_RASTAT.STATE k = d.onN Reg.T_RASTAT.STATE k :=
  Dev.onN_setN_apart _ _ _ _ _ _ hf rfl ha

/-! ## The entries of a node -/

theorem mem_entries {node : Nat} : k ∈ entriesOf d node ↔
    k < 256 ∧ d.onN Reg.T_RALARM.VALID k = true ∧ d.getN Reg.T_RALARM.NODE k = node := by
  simp [entriesOf]

theorem entries_nodup (d : Dev) (node : Nat) : (entriesOf d node).Nodup := List.nodup_range.filter _

theorem entry_table {f : Field} (hf : f.reg = At.T_RALARM_0 ∨ f.reg = At.T_RALARM_1) (hk : k < 256) :
    0x3A0800 ≤ f.reg.addr k ∧ f.reg.addr k < 0x3A1000 := by
  rcases hf with hf | hf
  · rw [hf, alarmEntry_addr]
    omega
  · rw [hf, alarmLoss_addr]
    omega

/-- What is said of an entry stands while other entries are changed. -/
structure EntryStands (k : Nat) (e d : Dev) : Prop where
  stat : d.word (At.T_RASTAT_0.addr k) = e.word (At.T_RASTAT_0.addr k)
  table : ∀ a, 0x3A0800 ≤ a → a < 0x3A1000 → d.word a = e.word a
  times : TimesStand e d

theorem EntryStands.refl (k : Nat) (d : Dev) : EntryStands k d d := ⟨rfl, fun _ _ _ => rfl, .refl d⟩

theorem EntryStands.trans (h : EntryStands k e d) (g : EntryStands k d x) : EntryStands k e x :=
  ⟨g.stat.trans h.stat, fun a h1 h2 => (g.table a h1 h2).trans (h.table a h1 h2), h.times.trans g.times⟩

theorem EntryOnly.stands (h : EntryOnly j e d) (hk : k ≠ j) : EntryStands k e d :=
  ⟨h.words _ (otherEntry_stat hk), fun _ h1 h2 => h.words _ (otherEntry_table h1 h2), h.times⟩

theorem EntryStands.onStat (h : EntryStands k e d) {f : Field} (hf : f.reg = At.T_RASTAT_0) : d.onN f k = e.onN f k := by
  unfold Dev.onN
  rw [getN_of_word (e := e) (by rw [hf]; exact h.stat)]

theorem EntryStands.getTable (h : EntryStands k e d) {f : Field} (hf : f.reg = At.T_RALARM_0 ∨ f.reg = At.T_RALARM_1)
    (hj : j < 256) : d.getN f j = e.getN f j :=
  getN_of_word (h.table _ (entry_table hf hj).1 (entry_table hf hj).2)

theorem EntryStands.onTable (h : EntryStands k e d) {f : Field} (hf : f.reg = At.T_RALARM_0 ∨ f.reg = At.T_RALARM_1)
    (hj : j < 256) : d.onN f j = e.onN f j := by
  unfold Dev.onN
  rw [h.getTable hf hj]

/-- Over the entries of a list, entry k is changed by its own step alone, and finds itself as it was at the start. -/
theorem entries_fold {F : Dev → Nat → Dev} (hF : ∀ d k, EntryOnly k d (F d k)) : ∀ (l : List Nat) (d : Dev), l.Nodup →
    (k ∉ l → EntryStands k d (l.foldl F d)) ∧
    (k ∈ l → ∃ x, EntryStands k d x ∧ (l.foldl F d).word (At.T_RASTAT_0.addr k) = (F x k).word (At.T_RASTAT_0.addr k))
  | [], d, _ => ⟨fun _ => .refl k d, fun h => absurd h List.not_mem_nil⟩
  | j :: l, d, hl => by
    obtain ⟨hj, hl⟩ := List.nodup_cons.mp hl
    obtain ⟨h1, h2⟩ := entries_fold hF l (F d j) hl
    refine ⟨fun hk => ?_, fun hk => ?_⟩
    · obtain ⟨hkj, hk⟩ := List.ne_and_not_mem_of_not_mem_cons hk
      exact ((hF d j).stands hkj).trans (h1 hk)
    · by_cases hkj : k = j
      · subst hkj
        exact ⟨d, .refl k d, (h1 hj).stat⟩
      · obtain ⟨x, hx, he⟩ := h2 ((List.mem_cons.mp hk).resolve_left hkj)
        exact ⟨x, ((hF d j).stands hkj).trans hx, he⟩

/-! ## The origin has restarted (R535) -/

/-- An entry of a node that has restarted. -/
def restartEntry (t : Time) (x : Dev) (k : Nat) : Dev :=
  (remoteSet t k false (remoteOther 4 k false) x).setN Reg.T_RASTAT.LOST k 0

theorem originRestart_fold (t : Time) (node : Nat) (d : Dev) :
    originRestart t node d = (entriesOf d node).foldl (restartEntry t) d := rfl

theorem restartEntry_only (t : Time) (d : Dev) (k : Nat) : EntryOnly k d (restartEntry t d k) :=
  (remoteSet_entry (recordOnly_other ..) d).setN (.inl rfl)

theorem restartEntry_state (t : Time) (d : Dev) (k : Nat) : (restartEntry t d k).onN Reg.T_RASTAT.STATE k = false := by
  rw [restartEntry, setN_state_apart rfl rfl, remoteSet_state (recordOnly_other ..)]

theorem restartEntry_lost (t : Time) (d : Dev) (k : Nat) : (restartEntry t d k).onN Reg.T_RASTAT.LOST k = false := by
  rw [restartEntry, Dev.onN_setN_same _ _ _ _ rfl]
  rfl

/-- An entry of a node that has restarted is not ACTIVE, and not lost. -/
theorem originRestart_entry {node : Nat} (t : Time) (d : Dev) (hk : k ∈ entriesOf d node) :
    (originRestart t node d).onN Reg.T_RASTAT.STATE k = false ∧ (originRestart t node d).onN Reg.T_RASTAT.LOST k = false := by
  obtain ⟨x, -, hx⟩ := (entries_fold (k := k) (restartEntry_only t) _ d (entries_nodup d node)).2 hk
  rw [originRestart_fold]
  constructor
  · rw [Dev.onN, getN_of_word hx]
    exact restartEntry_state t x k
  · rw [Dev.onN, getN_of_word hx]
    exact restartEntry_lost t x k

/-! ## An entry is written (R533) -/

theorem islandOf_alarms {a : Nat} (h : 0x3A0000 ≤ a) (h' : a < 0x3B0000) : islandOf a = 17 := by
  unfold islandOf
  iterate 21 rw [if_neg (by omega)]
  rw [if_pos (by omega)]

/-- An entry that becomes valid: its state is new, and its loss time starts. -/
def entryStart (t : Time) (k : Nat) (d : Dev) : Dev :=
  (((d.setN Reg.T_RASTAT.STATE k 0).setN Reg.T_RASTAT.LOST k 0).setN Reg.T_RASTAT.SET k 0).modDxl fun s =>
    { s with since := tset s.since k t.loc }

section
variable {v : Word32}

theorem word0_index (k : Nat) : (0x3A0800 + 8 * k) % 8 = 0 ∧ (0x3A0800 + 8 * k - 0x3A0800) / 8 = k := by omega

theorem word1_index (k : Nat) : ¬ (0x3A0804 + 8 * k) % 8 = 0 ∧ (0x3A0804 + 8 * k - 0x3A0800) / 8 = k := by omega

theorem entryWrite_valid (h : d.onN Reg.T_RALARM.VALID k = true) (hv : bitOf v 0 = true) :
    remoteEntryWrite t (0x3A0800 + 8 * k) v d = d.cause intDxl 0 0 0 := by
  obtain ⟨h1, h2⟩ := word0_index k
  unfold remoteEntryWrite
  dsimp only
  rw [if_pos h1, h2, if_pos (by simp [h, hv])]

theorem entryWrite_starts (h : d.onN Reg.T_RALARM.VALID k = false) (hv : bitOf v 0 = true) :
    remoteEntryWrite t (0x3A0800 + 8 * k) v d = entryStart t k (d.putWord (0x3A0800 + 8 * k) v) := by
  obtain ⟨h1, h2⟩ := word0_index k
  unfold remoteEntryWrite
  dsimp only
  rw [if_pos h1, h2, if_neg (by simp [h]), if_pos hv]
  rfl

theorem entryWrite_clears (hv : bitOf v 0 = false) :
    remoteEntryWrite t (0x3A0800 + 8 * k) v d = d.putWord (0x3A0800 + 8 * k) v := by
  obtain ⟨h1, h2⟩ := word0_index k
  unfold remoteEntryWrite
  dsimp only
  rw [if_pos h1, if_neg (by simp [hv]), if_neg (by simp [hv])]
  rfl

theorem lossWrite_valid (h : d.onN Reg.T_RALARM.VALID k = true) :
    remoteEntryWrite t (0x3A0804 + 8 * k) v d = d.cause intDxl 0 0 0 := by
  obtain ⟨h1, h2⟩ := word1_index k
  unfold remoteEntryWrite
  dsimp only
  rw [if_neg h1, h2, if_pos h]

theorem lossWrite_taken (h : d.onN Reg.T_RALARM.VALID k = false) :
    remoteEntryWrite t (0x3A0804 + 8 * k) v d = d.putWord (0x3A0804 + 8 * k) v := by
  obtain ⟨h1, h2⟩ := word1_index k
  unfold remoteEntryWrite
  dsimp only
  rw [if_neg h1, h2, if_neg (by simp [h])]
  rfl

theorem alarm_valid_addr (k : Nat) : Reg.T_RALARM.VALID.reg.addr k = 0x3A0800 + 8 * k := by
  rw [show Reg.T_RALARM.VALID.reg = At.T_RALARM_0 from rfl, alarmEntry_addr, Nat.mul_comm]

theorem entryWrite_exec {a : Nat} (hu : s.dev.up (islandOf 0x3A0800) = true) (ha : 0x3A0800 ≤ a) (hb : a < 0x3A1000)
    (h4 : a % 4 = 0) : exec (.remoteAlarmEntryWrite a v) s = .next (s.after (remoteEntryWrite s.time a v s.dev)) := by
  have hi : islandOf a = islandOf 0x3A0800 := (islandOf_alarms (by omega) (by omega)).trans (islandOf_alarms (by omega) (by omega)).symm
  rw [exec_remoteAlarmEntryWrite, if_pos ⟨ha, hb, h4⟩, onWrite_up _ (by rw [hi]; exact hu)]

theorem entryStart_valid (t : Time) (k : Nat) (d : Dev) :
    (entryStart t k d).onN Reg.T_RALARM.VALID k = d.onN Reg.T_RALARM.VALID k := by
  have hne : At.T_RALARM_0.addr k ≠ At.T_RASTAT_0.addr k := by
    rw [alarmEntry_addr, alarmStat_addr]
    omega
  exact (Dev.onN_setN_addr _ Reg.T_RASTAT.SET _ _ _ _ hne).trans ((Dev.onN_setN_addr _ Reg.T_RASTAT.LOST _ _ _ _ hne).trans
    (Dev.onN_setN_addr _ Reg.T_RASTAT.STATE _ _ _ _ hne))

theorem entryStart_state (t : Time) (k : Nat) (d : Dev) : (entryStart t k d).onN Reg.T_RASTAT.STATE k = false :=
  (setN_state_apart (f := Reg.T_RASTAT.SET) rfl rfl 0).trans ((setN_state_apart (f := Reg.T_RASTAT.LOST) rfl rfl 0).trans
    (Dev.onN_setN_same _ _ _ _ rfl))

theorem entryStart_lost (t : Time) (k : Nat) (d : Dev) : (entryStart t k d).onN Reg.T_RASTAT.LOST k = false :=
  (Dev.onN_setN_apart _ Reg.T_RASTAT.SET Reg.T_RASTAT.LOST _ _ _ rfl rfl rfl).trans (Dev.onN_setN_same _ _ _ _ rfl)

theorem entryStart_set (t : Time) (k : Nat) (d : Dev) : (entryStart t k d).onN Reg.T_RASTAT.SET k = false :=
  Dev.onN_setN_same _ _ _ _ rfl

theorem putWord_invalid (d : Dev) {f : Field} (hw : f.width = 1) (hl : f.lo = 0) (hv : bitOf v 0 = false) :
    (d.putWord (f.reg.addr k) v).onN f k = false := by
  rw [Dev.onN_bit _ hw, hl, Dev.word_putWord, bitOf, BitVec.getLsbD_and, ← bitOf, hv, Bool.false_and]
end

theorem entry_written :
    ∀ (s : State) (k : Nat) (v : Word32), k < 256 → s.dev.up (islandOf 0x3A0800) = true →
    (bitOf v 0 = true → s.dev.onN Reg.T_RALARM.VALID k = true →
      exec (.remoteAlarmEntryWrite (0x3A0800 + 8 * k) v) s = .next (s.after (s.dev.cause intDxl 0 0 0))) ∧
    (bitOf v 0 = true → s.dev.onN Reg.T_RALARM.VALID k = false →
      ∃ t, exec (.remoteAlarmEntryWrite (0x3A0800 + 8 * k) v) s = .next t ∧ t.dev.onN Reg.T_RALARM.VALID k = true ∧
        t.dev.onN Reg.T_RASTAT.STATE k = false ∧ t.dev.onN Reg.T_RASTAT.LOST k = false ∧
        t.dev.onN Reg.T_RASTAT.SET k = false ∧ tget t.dev.dxl.since k = s.time.loc) ∧
    (bitOf v 0 = false → ∃ t, exec (.remoteAlarmEntryWrite (0x3A0800 + 8 * k) v) s = .next t ∧
        t.dev.onN Reg.T_RALARM.VALID k = false ∧ t.dev.dxl = s.dev.dxl) ∧
    (s.dev.onN Reg.T_RALARM.VALID k = true →
      exec (.remoteAlarmEntryWrite (0x3A0804 + 8 * k) v) s = .next (s.after (s.dev.cause intDxl 0 0 0))) ∧
    (s.dev.onN Reg.T_RALARM.VALID k = false → ∃ t, exec (.remoteAlarmEntryWrite (0x3A0804 + 8 * k) v) s = .next t ∧
      t.dev.word (0x3A0804 + 8 * k) = v &&& maskOf (fieldsAt (0x3A0804 + 8 * k)) ∧ t.dev.dxl = s.dev.dxl) := by
  intro s k v hk hu
  have hx := entryWrite_exec (s := s) (v := v) (a := 0x3A0800 + 8 * k) hu (by omega) (by omega) (by omega)
  have hy := entryWrite_exec (s := s) (v := v) (a := 0x3A0804 + 8 * k) hu (by omega) (by omega) (by omega)
  have hf : Reg.T_RALARM.VALID ∈ fieldsAt (Reg.T_RALARM.VALID.reg.addr k) :=
    List.mem_filter.mpr ⟨by decide +kernel, index?_single rfl (by decide) hk⟩
  refine ⟨fun hv ho => ?_, fun hv ho => ?_, fun hv => ?_, fun ho => ?_, fun ho => ?_⟩
  · rw [hx, entryWrite_valid ho hv]
  · refine ⟨_, by rw [hx, entryWrite_starts ho hv], ?_, ?_, ?_, ?_, ?_⟩
    · rw [alarmEntry_after _ _ rfl hk, entryStart_valid, ← alarm_valid_addr, putWord_valid _ rfl rfl hf hv]
    · rw [alarmStat_after _ _ rfl hk, entryStart_state]
    · rw [alarmStat_after _ _ rfl hk, entryStart_lost]
    · rw [alarmStat_after _ _ rfl hk, entryStart_set]
    · rw [after_dxl]
      exact tget_tset_same s.dev.dxl.since k s.time.loc
  · refine ⟨_, by rw [hx, entryWrite_clears hv], ?_, ?_⟩
    · rw [alarmEntry_after _ _ rfl hk, ← alarm_valid_addr, putWord_invalid _ rfl rfl hv]
    · rw [after_dxl]
      rfl
  · rw [hy, lossWrite_valid ho]
  · refine ⟨_, by rw [hy, lossWrite_taken ho], ?_, ?_⟩
    · rw [after_word _ _ _ (notIntake_between (by omega) (by omega)), Dev.word_putWord]
    · rw [after_dxl]
      rfl

theorem entry_outside :
    ∀ (s : State) (addr : Nat) (v : Word32), addr < 0x3A0800 ∨ 0x3A1000 ≤ addr ∨ addr % 4 ≠ 0 →
    exec (.remoteAlarmEntryWrite addr v) s = .next (s.after s.dev) := by
  intro s addr v h
  rw [exec_remoteAlarmEntryWrite, if_neg (by omega)]

/-! ## A TOKEN is applied (R533) -/

/-- An entry that the token's rule names. -/
def tokenEntry (t : Time) (origin seq : Nat) (p : List Byte) (x : Dev) (k : Nat) : Dev :=
  ((remoteSet t k (byteAt p 2 != 0) (remoteRecord (slice p 4 10) (leAt p 0 2) (b2n (byteAt p 2 != 0)) origin (leAt p 14 4)
    seq k) x).setN Reg.T_RASTAT.SET k 1).setN Reg.T_RASTAT.LOST k 0

theorem tokenApply_single {origin seq : Nat} {p : List Byte} (h : entriesOf d origin = [k]) (hr : entryRule d k = leAt p 0 2) :
    tokenApply t origin seq p d = tokenEntry t origin seq p d k := by
  unfold tokenApply
  dsimp only
  rw [h, List.foldl_cons, List.foldl_nil, if_pos hr]
  rfl

section
variable (t : Time) (origin seq : Nat) (p : List Byte) (d : Dev) (k : Nat)

theorem tokenEntry_only : EntryOnly k d (tokenEntry t origin seq p d k) :=
  ((remoteSet_entry (recordOnly_token ..) d).setN (.inl rfl)).setN (.inl rfl)

theorem tokenEntry_state : (tokenEntry t origin seq p d k).onN Reg.T_RASTAT.STATE k = (byteAt p 2 != 0) := by
  rw [tokenEntry, setN_state_apart rfl rfl, setN_state_apart rfl rfl, remoteSet_state (recordOnly_token ..)]

theorem tokenEntry_set : (tokenEntry t origin seq p d k).onN Reg.T_RASTAT.SET k = true := by
  rw [tokenEntry, Dev.onN_setN_apart _ _ _ _ _ _ rfl rfl rfl, Dev.onN_setN_same _ _ _ _ rfl]
  rfl

theorem tokenEntry_lost : (tokenEntry t origin seq p d k).onN Reg.T_RASTAT.LOST k = false := by
  rw [tokenEntry, Dev.onN_setN_same _ _ _ _ rfl]
  rfl
end

/-- A token taken at its last hop: its SEQ and its origin's instant stand before it is applied. -/
def tokenTaken (t : Time) (b : List Byte) (d : Dev) : Dev :=
  ((takeSeq (dxOrigin b) (dxType b) (dxSeq b) d).modDxl fun x => { x with heardAt := tset x.heardAt (dxOrigin b) t.loc }).sat
    Reg.DXL_CNT_TOKEN.N

theorem dxByType_new {l q : Nat} {b : List Byte} (hs : linkState d l = 2) (hk : dxType b ≠ tyKeepalive)
    (ht : dxType b ≠ tyTime) (ha : dxType b ≠ tyAck) : dxByType t l q b d = dxNew t l q b d := by
  unfold dxByType
  dsimp only
  rw [if_neg hk, if_neg (by simp [hs]), if_neg ht, if_neg ha]

theorem dxNew_token {l q : Nat} {b : List Byte} (hy : dxType b = tyToken) (hh : dxHops b = 1)
    (hw : winJudge (tget d.dxl.wins (winKey (dxOrigin b) tyToken)) (dxSeq b) = .fresh) :
    dxNew t l q b d = tokenApply t (dxOrigin b) (dxSeq b) (dxBody b) (tokenTaken t b d) := by
  unfold dxNew
  dsimp only
  rw [hy, hw]
  dsimp only
  rw [if_neg (fun h => absurd h.1 (by decide)), if_pos (.inl rfl)]
  unfold floodTake
  dsimp only
  rw [if_neg (show ¬ 1 < dxHops b by omega), if_pos hy, tokenTaken, hy]

theorem token_lastHop {l b : Nat} {f : DxFrame} (ho : linkOn s.dev l = true) (hs : linkState s.dev l = 2) (hf : f.fcsOk = true)
    (hm : dxMalformed f.bytes = false) (hl : s.dev.getN Reg.DXL_LINKn_RLIM.FRAMES l = 0)
    (ha : s.dev.onN Reg.DXL_LINKn_CFG.AUTH l = false) (hy : dxType f.bytes = tyToken) (hh : dxHops f.bytes = 1)
    (hn : dxOrigin f.bytes ≠ selfNode s.dev) (hb : tget s.dev.dxl.boots (dxOrigin f.bytes) = some b)
    (hz : sdiff (2 ^ 16) (dxBoot f.bytes) b = 0)
    (hw : winJudge (tget s.dev.dxl.wins (winKey (dxOrigin f.bytes) tyToken)) (dxSeq f.bytes) = .fresh) :
    exec (.daxideFrameReceive l f) s = .next (s.after (tokenApply s.time (dxOrigin f.bytes) (dxSeq f.bytes) (dxBody f.bytes)
      (tokenTaken s.time f.bytes (s.dev.sat Reg.DXL_LINKn_RXF.N l)))) := by
  rw [exec_daxideFrame_on f ho, dxReceive_unsigned hf (by rw [hs]; decide) hm (.inl hl) ha,
    dxOriginCheck_known (d := s.dev.sat Reg.DXL_LINKn_RXF.N l) (.inl (by rwa [selfNode_rxf])) hb hz,
    dxByType_new (by rw [linkState_rxf, hs]) (by rw [hy]; decide) (by rw [hy]; decide) (by rw [hy]; decide),
    dxNew_token (d := s.dev.sat Reg.DXL_LINKn_RXF.N l) hy hh hw]

/-- The frame's counters leave the remote alarm table. -/
theorem tokenTaken_words {l : Nat} (hl : l < 4) (t : Time) (b : List Byte) (d : Dev) :
    Apart RemoteWord d (tokenTaken t b (d.sat Reg.DXL_LINKn_RXF.N l)) := by
  have h1 : Apart RemoteWord d (d.sat Reg.DXL_LINKn_RXF.N l) := (Apart.refl _ d).sat (remote_off (by
    rw [show Reg.DXL_LINKn_RXF.N.reg = At.DXL_LINKn_RXF from rfl, linkRxf_addr]
    omega))
  exact Apart.sat (f := Reg.DXL_CNT_TOKEN.N) (h1.ofRegs rfl) (remote_off (by decide))

theorem Apart.tableN (h : Apart RemoteWord e d) {f : Field} (hf : f.reg = At.T_RALARM_0 ∨ f.reg = At.T_RALARM_1)
    (hk : k < 256) : d.getN f k = e.getN f k := h.getN (entry_table hf hk).1

theorem Apart.entriesOf (h : Apart RemoteWord e d) (node : Nat) : Machine.entriesOf d node = Machine.entriesOf e node := by
  unfold Machine.entriesOf
  refine List.filter_congr fun k hk => ?_
  have hk := List.mem_range.mp hk
  unfold Dev.onN
  rw [h.tableN (f := Reg.T_RALARM.VALID) (.inl rfl) hk, h.tableN (f := Reg.T_RALARM.NODE) (.inl rfl) hk]

theorem Apart.entryRule (h : Apart RemoteWord e d) (hk : k < 256) : Machine.entryRule d k = Machine.entryRule e k := by
  unfold Machine.entryRule Dev.onN
  rw [h.tableN (f := Reg.T_RALARM.INTEG) (.inl rfl) hk, h.tableN (f := Reg.T_RALARM.RULE) (.inl rfl) hk]

theorem mem_of_entries {node : Nat} (h : entriesOf d node = [k]) : k < 256 :=
  (mem_entries.mp (by rw [h]; exact List.mem_singleton.mpr rfl : k ∈ entriesOf d node)).1

theorem token_applied :
    ∀ (s : State) (l k b : Nat) (f : DxFrame), linkOn s.dev l = true → linkState s.dev l = 2 → f.fcsOk = true →
    dxMalformed f.bytes = false → s.dev.getN Reg.DXL_LINKn_RLIM.FRAMES l = 0 →
    s.dev.onN Reg.DXL_LINKn_CFG.AUTH l = false → dxType f.bytes = tyToken → dxHops f.bytes = 1 →
    dxOrigin f.bytes ≠ selfNode s.dev → tget s.dev.dxl.boots (dxOrigin f.bytes) = some b →
    sdiff (2 ^ 16) (dxBoot f.bytes) b = 0 →
    winJudge (tget s.dev.dxl.wins (winKey (dxOrigin f.bytes) tyToken)) (dxSeq f.bytes) = .fresh →
    entriesOf s.dev (dxOrigin f.bytes) = [k] → entryRule s.dev k = leAt (dxBody f.bytes) 0 2 →
    s.dev.onN Reg.T_RALARM.HOST k = false →
    ∃ t, exec (.daxideFrameReceive l f) s = .next t ∧
      t.dev.onN Reg.T_RASTAT.STATE k = (byteAt (dxBody f.bytes) 2 != 0) ∧ t.dev.onN Reg.T_RASTAT.SET k = true ∧
      t.dev.onN Reg.T_RASTAT.LOST k = false ∧ tget t.dev.dxl.heardAt (dxOrigin f.bytes) = s.time.loc ∧
      (∀ j, j < 256 → j ≠ k → t.dev.onN Reg.T_RASTAT.STATE j = s.dev.onN Reg.T_RASTAT.STATE j) := by
  intro s l k b f ho hs hf hm hl ha hy hh hn hb hz hw he hr _
  have hk := mem_of_entries he
  have hA := tokenTaken_words (linkOn_lt ho) s.time f.bytes s.dev
  have hx := token_lastHop ho hs hf hm hl ha hy hh hn hb hz hw
  rw [tokenApply_single (by rw [hA.entriesOf, he]) (by rw [hA.entryRule hk, hr])] at hx
  have hE := tokenEntry_only s.time (dxOrigin f.bytes) (dxSeq f.bytes) (dxBody f.bytes)
    (tokenTaken s.time f.bytes (s.dev.sat Reg.DXL_LINKn_RXF.N l)) k
  refine ⟨_, hx, ?_, ?_, ?_, ?_, fun j hj hjk => ?_⟩
  · rw [alarmStat_after _ _ rfl hk, tokenEntry_state]
  · rw [alarmStat_after _ _ rfl hk, tokenEntry_set]
  · rw [alarmStat_after _ _ rfl hk, tokenEntry_lost]
  · rw [after_dxl, hE.times.heard]
    exact tget_tset_same s.dev.dxl.heardAt (dxOrigin f.bytes) s.time.loc
  · rw [alarmStat_after _ _ rfl hj, (hE.stands hjk).onStat rfl]
    exact hA.onN (f := Reg.T_RASTAT.STATE) (by
      rw [show Reg.T_RASTAT.STATE.reg = At.T_RASTAT_0 from rfl, alarmStat_addr]
      unfold RemoteWord
      omega)

/-! ## The loss of an origin (R534) -/

/-- How long nothing has been taken of an entry's node. -/
def silent (t : Time) (node k : Nat) (x : Dev) : Nat := t.loc - max (tget x.dxl.heardAt node) (tget x.dxl.since k)

/-- Has an entry's loss time passed, and is it not lost yet? -/
abbrev LossDue (t : Time) (node k : Nat) (x : Dev) : Prop :=
  x.getN Reg.T_RALARM.LOSS_MS k ≠ 0 ∧ (!x.onN Reg.T_RASTAT.LOST k) = true ∧
    x.getN Reg.T_RALARM.LOSS_MS k * 1000000 ≤ silent t node k x

/-- An entry that loses its origin. -/
def lostEntry (t : Time) (x : Dev) (k : Nat) : Dev :=
  (remoteSet t k (x.onN Reg.T_RALARM.FAILSAFE k) (remoteOther 3 k true) (x.setN Reg.T_RASTAT.LOST k 1)).cause intDxl 4 0 0

/-- An entry of an origin that may be lost. -/
def lossEntry (t : Time) (node : Nat) (x : Dev) (k : Nat) : Dev :=
  if LossDue t node k x then lostEntry t x k else x

theorem originLost_fold (t : Time) (node : Nat) (d : Dev) (h : fabricRuns d = true) :
    originLost t node d = (entriesOf d node).foldl (lossEntry t node) d := by
  unfold originLost
  rw [if_neg (by simp [h])]
  rfl

theorem lossEntry_due (h : LossDue t n k d) : lossEntry t n d k = lostEntry t d k := if_pos h

theorem lossEntry_idle (h : ¬ LossDue t n k d) : lossEntry t n d k = d := if_neg h

theorem lostEntry_only (t : Time) (d : Dev) (k : Nat) : EntryOnly k d (lostEntry t d k) :=
  ((EntryOnly.setN (f := Reg.T_RASTAT.LOST) (.refl k d) (.inl rfl)).trans (remoteSet_entry (recordOnly_other ..) _)).cause

theorem lossEntry_only (t : Time) (node : Nat) (d : Dev) (k : Nat) : EntryOnly k d (lossEntry t node d k) := by
  by_cases h : LossDue t node k d
  · rw [lossEntry_due h]
    exact lostEntry_only t d k
  · rw [lossEntry_idle h]
    exact .refl k d

theorem stat_ne_intDxl (k : Nat) : At.T_RASTAT_0.addr k ≠ intDxl.addr := by
  rw [alarmStat_addr]
  exact ne_of_gt (show 0x60010 < _ by omega)

theorem lostEntry_state (t : Time) (d : Dev) (k : Nat) :
    (lostEntry t d k).onN Reg.T_RASTAT.STATE k = d.onN Reg.T_RALARM.FAILSAFE k := by
  rw [lostEntry, Dev.cause_onN _ _ _ _ _ _ _ (stat_ne_intDxl k), remoteSet_state (recordOnly_other ..)]

/-- Setting STATE leaves LOST. -/
theorem remoteSet_lost {v : Bool} {record : Dev → Dev} (hr : RecordOnly record) (d : Dev) :
    (remoteSet t k v record d).onN Reg.T_RASTAT.LOST k = d.onN Reg.T_RASTAT.LOST k := by
  have h1 : ((d.setB Reg.T_RASTAT.STATE k v).setN Reg.T_RASTAT.EDGE_T k t.st32).onN Reg.T_RASTAT.LOST k =
      d.onN Reg.T_RASTAT.LOST k := by
    rw [Dev.onN_setN_addr _ _ _ _ _ _ (stat_ne_edge k), Dev.setB, Dev.onN_setN_apart _ _ _ _ _ _ rfl rfl rfl]
  have hw : RemoteWord (Reg.T_RASTAT.LOST.reg.addr k) := by
    rw [show Reg.T_RASTAT.LOST.reg = At.T_RASTAT_0 from rfl, alarmStat_addr]
    unfold RemoteWord
    omega
  unfold remoteSet
  dsimp only
  split
  · rfl
  · split
    · rw [(hr.words _).onN hw, h1]
    · exact h1

theorem lostEntry_lost (t : Time) (d : Dev) (k : Nat) : (lostEntry t d k).onN Reg.T_RASTAT.LOST k = true := by
  rw [lostEntry, Dev.cause_onN _ _ _ _ _ _ _ (stat_ne_intDxl k), remoteSet_lost (recordOnly_other ..),
    Dev.onN_setN_same _ _ _ _ rfl]
  rfl

theorem lostEntry_bit (t : Time) (d : Dev) (k : Nat) : bitOf ((lostEntry t d k).word intDxl.addr) 4 = true :=
  Dev.cause_sets _ _ _ _ _ (by omega)

theorem EntryStands.lossDue (h : EntryStands k e d) (hk : k < 256) (t : Time) (node : Nat) :
    LossDue t node k d ↔ LossDue t node k e := by
  unfold LossDue silent
  rw [h.getTable (f := Reg.T_RALARM.LOSS_MS) (.inr rfl) hk, h.onStat (f := Reg.T_RASTAT.LOST) rfl, h.times.heard,
    h.times.since]

theorem entry_lost :
    ∀ (s : State) (node k : Nat), fabricRuns s.dev = true → entriesOf s.dev node = [k] →
    s.dev.onN Reg.T_RALARM.HOST k = false → s.dev.getN Reg.T_RALARM.LOSS_MS k ≠ 0 →
    s.dev.onN Reg.T_RASTAT.LOST k = false →
    (s.dev.getN Reg.T_RALARM.LOSS_MS k * 1000000 ≤
        s.time.loc - max (tget s.dev.dxl.heardAt node) (tget s.dev.dxl.since k) →
      ∃ t, exec (.remoteOriginLost node) s = .next t ∧ t.dev.onN Reg.T_RASTAT.LOST k = true ∧
        t.dev.onN Reg.T_RASTAT.STATE k = s.dev.onN Reg.T_RALARM.FAILSAFE k ∧
        bitOf (t.dev.word intDxl.addr) 4 = true) ∧
    (s.time.loc - max (tget s.dev.dxl.heardAt node) (tget s.dev.dxl.since k) <
        s.dev.getN Reg.T_RALARM.LOSS_MS k * 1000000 →
      exec (.remoteOriginLost node) s = .next (s.after s.dev)) := by
  intro s node k hr he _ hl ho
  have hk := mem_of_entries he
  have hx : originLost s.time node s.dev = lossEntry s.time node s.dev k := by
    rw [originLost_fold _ _ _ hr, he]
    rfl
  refine ⟨fun hd => ?_, fun hd => ?_⟩
  · rw [lossEntry_due ⟨hl, by simp [ho], hd⟩] at hx
    refine ⟨_, by rw [exec_remoteOriginLost, hx], ?_, ?_, ?_⟩
    · rw [alarmStat_after _ _ rfl hk, lostEntry_lost]
    · rw [alarmStat_after _ _ rfl hk, lostEntry_state]
    · rw [after_word _ _ _ (notIntake_of_lt (by decide)), lostEntry_bit]
  · rw [exec_remoteOriginLost, hx, lossEntry_idle fun h => Nat.not_le.mpr hd h.2.2]

theorem origin_unfollowed :
    ∀ (s : State) (node : Nat), fabricRuns s.dev = false ∨ entriesOf s.dev node = [] →
    exec (.remoteOriginLost node) s = .next (s.after s.dev) := by
  intro s node h
  cases hr : fabricRuns s.dev with
  | false => rw [exec_remoteOriginLost, originLost, if_pos (by simp [hr])]
  | true =>
    have he := h.resolve_left (by simp [hr])
    rw [exec_remoteOriginLost, originLost_fold _ _ _ hr, he]
    rfl

theorem origin_lost :
    ∀ (s : State) (node : Nat), fabricRuns s.dev = true → ∃ t, exec (.remoteOriginLost node) s = .next t ∧
    ∀ k, k ∈ entriesOf s.dev node →
      (s.dev.getN Reg.T_RALARM.LOSS_MS k ≠ 0 → s.dev.onN Reg.T_RASTAT.LOST k = false →
        s.dev.getN Reg.T_RALARM.LOSS_MS k * 1000000 ≤
          s.time.loc - max (tget s.dev.dxl.heardAt node) (tget s.dev.dxl.since k) →
        t.dev.onN Reg.T_RASTAT.LOST k = true ∧ t.dev.onN Reg.T_RASTAT.STATE k = s.dev.onN Reg.T_RALARM.FAILSAFE k) ∧
      (s.dev.getN Reg.T_RALARM.LOSS_MS k = 0 ∨ s.dev.onN Reg.T_RASTAT.LOST k = true ∨
        s.time.loc - max (tget s.dev.dxl.heardAt node) (tget s.dev.dxl.since k) <
          s.dev.getN Reg.T_RALARM.LOSS_MS k * 1000000 →
        t.dev.onN Reg.T_RASTAT.LOST k = s.dev.onN Reg.T_RASTAT.LOST k ∧
          t.dev.onN Reg.T_RASTAT.STATE k = s.dev.onN Reg.T_RASTAT.STATE k) := by
  intro s node hr
  refine ⟨_, by rw [exec_remoteOriginLost, originLost_fold _ _ _ hr], fun k hk => ?_⟩
  have h256 := (mem_entries.mp hk).1
  obtain ⟨x, hx, hw⟩ := (entries_fold (k := k) (lossEntry_only s.time node) _ s.dev (entries_nodup s.dev node)).2 hk
  have hat (f : Field) (hf : f.reg = At.T_RASTAT_0) : (s.after ((entriesOf s.dev node).foldl (lossEntry s.time node) s.dev)).dev.onN
      f k = (lossEntry s.time node x k).onN f k := by
    rw [← hf] at hw
    rw [alarmStat_after _ _ hf h256, Dev.onN, getN_of_word hw, ← Dev.onN]
  refine ⟨fun hl ho hd => ?_, fun h => ?_⟩
  · have hdue : LossDue s.time node k x := (hx.lossDue h256 _ _).mpr ⟨hl, by simp [ho], hd⟩
    rw [hat _ rfl, hat _ rfl, lossEntry_due hdue]
    exact ⟨lostEntry_lost .., (lostEntry_state ..).trans (hx.onTable (.inl rfl) h256)⟩
  · have hdue : ¬ LossDue s.time node k x := fun hd => by
      obtain ⟨h1, h2, h3⟩ := (hx.lossDue h256 _ _).mp hd
      rcases h with h | h | h
      · exact h1 h
      · rw [h] at h2
        cases h2
      · exact Nat.not_le.mpr h h3
    rw [hat _ rfl, hat _ rfl, lossEntry_idle hdue]
    exact ⟨hx.onStat rfl, hx.onStat rfl⟩

/-- Settles O52: a word of the remote alarm table by the entry's VALID, a TOKEN for an entry, and the loss of an origin. -/
theorem remoteAlarms : Obligations.RemoteAlarms :=
  ⟨entry_written, entry_outside, token_applied, entry_lost, origin_unfollowed, origin_lost⟩

end Sys2Proof.Machine

/-!
PROOFS. O51: what a Daxide link does with a frame it receives (R518, R523 to R528, R540 to R547), and the de-duplication window (R526).
-/

namespace Sys2Proof.Machine

open Sys2Proof

variable {s : State} {d x : Dev} {l q k : Nat} {t : Time} {b : List Byte} {f : DxFrame}

/-! ## A frame at a link -/

theorem dxReceive_bad (h : f.fcsOk = false ∨ linkState d l = 3) :
    dxReceive t l q f d = linkDrop l (d.sat Reg.DXL_LINKn_RXF.N l) := by
  unfold dxReceive
  dsimp only
  rw [if_pos]
  rcases h with h | h
  · exact .inl (by simp [h])
  · exact .inr (by rw [linkState_rxf, h])

theorem dxReceive_malformed (hf : f.fcsOk = true) (hs : linkState d l ≠ 3) (hm : dxMalformed f.bytes = true) :
    dxReceive t l q f d = linkDrop l ((d.sat Reg.DXL_LINKn_RXF.N l).sat Reg.DXL_CNT_MALFORMED.N) := by
  unfold dxReceive
  dsimp only
  rw [if_neg (by simp [hf, linkState_rxf, hs]), if_pos hm]

/-- The frame is counted in its millisecond. -/
def frameCounted (t : Time) (l : Nat) (d : Dev) : Dev :=
  d.modLink l fun x => { x with
    ms := t.loc / 1000000
    msCnt := (if (d.dlink l).ms = t.loc / 1000000 then (d.dlink l).msCnt else 0) + 1 }

/-- R546: of the frames that the limit counts, one beyond it is dropped. -/
theorem dxLimit_beyond (hk : dxType b ≠ tyKeepalive) (ht : dxType b ≠ tyTime) (hl : d.getN Reg.DXL_LINKn_RLIM.FRAMES l ≠ 0)
    (hms : (d.dlink l).ms = t.loc / 1000000) (hc : d.getN Reg.DXL_LINKn_RLIM.FRAMES l ≤ (d.dlink l).msCnt) :
    dxLimit t l b d = (false, frameCounted t l d) := by
  unfold dxLimit frameCounted
  dsimp only
  rw [if_neg (by tauto), if_pos hms]
  simp [hc]

theorem linkDrop_addr (l : Nat) : At.DXL_LINKn_DROP.addr l = 0x60138 + l * 0x40 := RegAt.addr_single rfl l

theorem drop_ne_low (l : Nat) {a : Nat} (ha : a < 0x60100) : a ≠ At.DXL_LINKn_DROP.addr l := by
  rw [linkDrop_addr]
  omega

theorem drop_ne_stat (l : Nat) : At.DXL_LINKn_STAT.addr l ≠ At.DXL_LINKn_DROP.addr l := by
  rw [linkDrop_addr, linkStat_addr]
  omega

theorem rxf_ne_low (l : Nat) {a : Nat} (ha : a < 0x60100) : a ≠ At.DXL_LINKn_RXF.addr l := by
  rw [linkRxf_addr]
  omega

/-- A counter of the fabric stands while a frame is dropped at a link. -/
theorem linkDrop_get (d : Dev) (l : Nat) {g : Field} (h : g.reg.addr 0 < 0x60100) : (linkDrop l d).get g = d.get g :=
  Dev.getN_setN_addr _ _ _ _ _ _ (drop_ne_low l h)

theorem linkDrop_word (d : Dev) (l : Nat) {a : Nat} (h : a < 0x60100) : (linkDrop l d).word a = d.word a :=
  Dev.word_setN _ _ _ _ _ (drop_ne_low l h)

theorem linkDrop_authOk (d : Dev) (l : Nat) :
    (linkDrop l d).onN Reg.DXL_LINKn_STAT.AUTH_OK l = d.onN Reg.DXL_LINKn_STAT.AUTH_OK l :=
  Dev.onN_setN_addr _ _ _ _ _ _ (drop_ne_stat l)

/-! ## The tag of a frame -/

/-- A frame whose tag fails, at the link whose copies may have left. -/
def authFailed (l : Nat) (d : Dev) : Dev :=
  linkDrop l (((d.sat Reg.DXL_CNT_AUTH.N).cause intDxl 2 l stAuthFail).setN Reg.DXL_LINKn_STAT.AUTH_OK l 0)

theorem dxAuthFail_by (l : Nat) (b : List Byte) (d : Dev) : dxAuthFail l b d =
    authFailed l (if cutThrough d l b then dxFlood (withHops b (dxHops b - 1)) (some l) false d else d) := rfl

theorem dxAuthFail_sends (l : Nat) (b : List Byte) (d : Dev) : SendsOnly d (dxAuthFail l b d) := by
  have h (x : Dev) (hx : SendsOnly d x) : SendsOnly d (authFailed l x) :=
    hx.trans (.ofDxl (Dev.cause_dxl (x.sat Reg.DXL_CNT_AUTH.N) intDxl 2 l stAuthFail))
  rw [dxAuthFail_by]
  split
  · exact h _ (dxFlood_sends ..)
  · exact h _ (.refl d)

theorem authFailed_off (l : Nat) (d : Dev) : (authFailed l d).onN Reg.DXL_LINKn_STAT.AUTH_OK l = false := by
  rw [authFailed, linkDrop_authOk, Dev.onN_setN_same _ _ _ _ rfl]
  rfl

theorem authFailed_bit (l : Nat) (d : Dev) : bitOf ((authFailed l d).word intDxl.addr) 2 = true := by
  rw [authFailed, linkDrop_word _ _ (by decide), Dev.word_setN _ _ _ _ _ (stat_ne_int l).symm]
  exact Dev.cause_sets _ _ _ _ _ (by omega)

theorem authFailed_count (l : Nat) (d : Dev) : (authFailed l d).get Reg.DXL_CNT_AUTH.N =
    min (d.get Reg.DXL_CNT_AUTH.N + 1) (2 ^ Reg.DXL_CNT_AUTH.N.width - 1) := by
  have hs : Reg.DXL_CNT_AUTH.N.reg.addr 0 ≠ At.DXL_LINKn_STAT.addr l := by
    rw [linkStat_addr]
    exact ne_of_lt (show 0x6004C < _ by omega)
  rw [authFailed, linkDrop_get _ _ (by decide)]
  exact (Dev.getN_setN_addr _ _ _ _ _ _ hs).trans ((Dev.cause_get _ _ _ _ _ _ (by decide)).trans (Dev.get_sat_same _ _ rfl))

/-- A frame whose key is refused, or whose tag does not match, fails its check. -/
theorem dxAuth_fails {r : Option KeyRec} (ha : d.onN Reg.DXL_LINKn_CFG.AUTH l = true)
    (hk : keyUse engDaxide l (d.getN Reg.DXL_LINKn_CFG.KEY_SLOT l) 3 true d = (r, x))
    (h : r = none ∨ dxTag f.bytes = false ∨ f.tagKey ≠ r.map (·.material)) :
    dxAuth t l q f d = dxAuthFail l f.bytes x := by
  unfold dxAuth
  rw [if_neg (by simp [ha]), hk]
  cases r with
  | none => rfl
  | some k =>
    dsimp only
    rw [if_neg]
    rcases h with h | h | h
    · cases h
    · simp [h]
    · simpa using fun _ => h

theorem dxAuth_matches {k : KeyRec} (ha : d.onN Reg.DXL_LINKn_CFG.AUTH l = true)
    (hk : keyUse engDaxide l (d.getN Reg.DXL_LINKn_CFG.KEY_SLOT l) 3 true d = (some k, x)) (hg : dxTag f.bytes = true)
    (hm : f.tagKey = some k.material) :
    dxAuth t l q f d = dxOriginCheck t l q f.bytes (x.setN Reg.DXL_LINKn_STAT.AUTH_OK l 1) := by
  unfold dxAuth
  rw [if_neg (by simp [ha]), hk]
  dsimp only
  rw [if_pos (by simp [hg, hm])]

theorem tag_checked :
    ∀ (t : Time) (l q : Nat) (f : DxFrame) (d : Dev),
    (d.onN Reg.DXL_LINKn_CFG.AUTH l = false → dxAuth t l q f d = dxOriginCheck t l q f.bytes d) ∧
    (∀ k d1, d.onN Reg.DXL_LINKn_CFG.AUTH l = true →
      keyUse engDaxide l (d.getN Reg.DXL_LINKn_CFG.KEY_SLOT l) 3 true d = (some k, d1) →
      dxTag f.bytes = true → f.tagKey = some k.material →
      dxAuth t l q f d = dxOriginCheck t l q f.bytes (d1.setN Reg.DXL_LINKn_STAT.AUTH_OK l 1)) ∧
    (∀ r d1, d.onN Reg.DXL_LINKn_CFG.AUTH l = true →
      keyUse engDaxide l (d.getN Reg.DXL_LINKn_CFG.KEY_SLOT l) 3 true d = (r, d1) →
      r = none ∨ dxTag f.bytes = false ∨ f.tagKey ≠ r.map (·.material) →
      (dxAuth t l q f d).dxl.wins = d1.dxl.wins ∧ (dxAuth t l q f d).dxl.held = d1.dxl.held ∧
        (dxAuth t l q f d).onN Reg.DXL_LINKn_STAT.AUTH_OK l = false ∧
        bitOf ((dxAuth t l q f d).word intDxl.addr) 2 = true) := by
  refine fun t l q f d => ⟨fun ha => dxAuth_unsigned ha, fun k d1 ha hk hg hm => dxAuth_matches ha hk hg hm,
    fun r d1 ha hk h => ?_⟩
  have hs := dxAuthFail_sends l f.bytes d1
  rw [dxAuth_fails ha hk h]
  exact ⟨hs.wins, hs.held, authFailed_off .., authFailed_bit ..⟩

/-! ## The origin of a frame -/

theorem origin_checked :
    ∀ (t : Time) (l q : Nat) (b : List Byte) (d : Dev),
    (dxOrigin b = selfNode d → dxBoot b ≠ selfBoot d →
      dxOriginCheck t l q b d = linkDrop l ((d.sat Reg.DXL_CNT_CLASH.N).cause intDxl 3 l 0)) ∧
    (dxOrigin b ≠ selfNode d ∨ dxBoot b = selfBoot d →
      (tget d.dxl.boots (dxOrigin b) = none → dxOriginCheck t l q b d =
        dxByType t l q b (d.modDxl fun x => { x with boots := tset x.boots (dxOrigin b) (some (dxBoot b)) })) ∧
      (∀ k, tget d.dxl.boots (dxOrigin b) = some k →
        (sdiff (2 ^ 16) (dxBoot b) k < 0 → dxOriginCheck t l q b d = linkDrop l (d.sat Reg.DXL_CNT_OLD.N)) ∧
        (sdiff (2 ^ 16) (dxBoot b) k = 0 → dxOriginCheck t l q b d = dxByType t l q b d) ∧
        (0 < sdiff (2 ^ 16) (dxBoot b) k → dxOriginCheck t l q b d = dxByType t l q b (originRestart t (dxOrigin b)
          (d.modDxl fun x => { x with
            boots := tset x.boots (dxOrigin b) (some (dxBoot b))
            wins := x.wins.filter fun e => e.1 / 8 != dxOrigin b }))))) ∧
    (∀ k, k ∈ entriesOf d (dxOrigin b) → k < 256 →
      (originRestart t (dxOrigin b) d).onN Reg.T_RASTAT.STATE k = false ∧
        (originRestart t (dxOrigin b) d).onN Reg.T_RASTAT.LOST k = false) := by
  refine fun t l q b d => ⟨fun ho hb => if_pos ⟨ho, hb⟩, fun h => ⟨fun hb => dxOriginCheck_first h hb, fun k hb =>
    ⟨fun hk => ?_, fun hk => dxOriginCheck_known h hb hk, fun hk => ?_⟩⟩, fun k hk _ => originRestart_entry t d hk⟩
  · unfold dxOriginCheck
    dsimp only
    rw [if_neg (by tauto), hb]
    dsimp only
    rw [if_pos hk]
  · unfold dxOriginCheck
    dsimp only
    rw [if_neg (by tauto), hb]
    dsimp only
    rw [if_neg (by omega), if_neg (by omega)]

/-! ## A frame by its TYPE -/

theorem not_up_takes_keepalive :
    ∀ (t : Time) (l q : Nat) (b : List Byte) (d : Dev), linkState d l ≠ 2 → dxType b ≠ tyKeepalive →
    dxByType t l q b d = linkDrop l d := by
  intro t l q b d hs hk
  unfold dxByType
  dsimp only
  rw [if_neg hk, if_pos hs]

theorem dxByType_ack (hs : linkState d l = 2) (h : dxType b = tyAck) : dxByType t l q b d =
    d.modDxl fun x => { x with held := x.held.filter fun h =>
      !(h.link == some l && h.seq == leAt (dxBody b) 0 4 && h.origin == leAt (dxBody b) 4 2 && h.typ == byteAt (dxBody b) 6) } := by
  unfold dxByType
  dsimp only
  rw [h, if_neg (by decide), if_neg (not_not.mpr hs), if_neg (by decide), if_pos rfl]

/-- A TIME frame by what its link takes. -/
theorem dxByType_time (hs : linkState d l = 2) (h : dxType b = tyTime) : dxByType t l q b d =
    if !(isDl d l && d.onN Reg.DXL_LINKn_CFG.TIME_EN l) then linkDrop l d
    else if byteAt (dxBody b) 0 = 0 then timeAnswer t l q b d
    else timeTake t l q b d := by
  unfold dxByType
  dsimp only
  rw [h, if_neg (by decide), if_neg (not_not.mpr hs), if_pos rfl]

theorem timeAnswer_respT3 (t : Time) (l q : Nat) (b : List Byte) (d : Dev) :
    ((timeAnswer t l q b d).dlink l).respT3 = some (dxSeq b, t.qns) := by
  unfold timeAnswer
  dsimp only
  rw [dlink_modLink]

theorem windowed_types (h : dxType b = tyRelay ∨ dxType b = tyMgmt) : dxType b ≠ tyKeepalive ∧ dxType b ≠ tyTime ∧
    dxType b ≠ tyAck ∧ ¬ (dxType b = tyToken ∨ dxType b = tyBeacon) := by
  rcases h with h | h <;> rw [h] <;> decide

/-- A RELAY or MGMT frame that is new and can be taken. -/
theorem dxByType_hop (hs : linkState d l = 2) (h : dxType b = tyRelay ∨ dxType b = tyMgmt)
    (hw : winJudge (tget d.dxl.wins (winKey (dxOrigin b) (dxType b))) (dxSeq b) = .fresh)
    (ht : ¬ (dxType b = tyMgmt ∧ dxDest b = selfNode d ∧ (!d.pwr.xaornRuns) = true)) :
    dxByType t l q b d = hopTake t l q b (takeSeq (dxOrigin b) (dxType b) (dxSeq b) d) := by
  obtain ⟨h1, h2, h3, h4⟩ := windowed_types h
  rw [dxByType_new hs h1 h2 h3]
  unfold dxNew
  dsimp only
  rw [hw]
  dsimp only
  rw [if_neg ht, if_neg h4]

theorem hopTake_spent (hd : dxDest b ≠ selfNode d) (hh : dxHops b = 1) :
    hopTake t l q b d = linkDrop l (d.sat Reg.DXL_CNT_HOPS.N) := by
  unfold hopTake
  rw [if_pos hd, if_pos hh]

theorem hopTake_forwards (hd : dxDest b ≠ selfNode d) (hh : dxHops b ≠ 1) :
    hopTake t l q b d = ackSend l b (holdFrame t (withHops b (dxHops b - 1)) d) := by
  unfold hopTake
  rw [if_pos hd, if_neg hh]

/-- A MGMT payload handed to Xaorn. -/
def mgmtHanded (b : List Byte) (d : Dev) : Dev :=
  d.modDxl fun x => { x with mgmtIn := x.mgmtIn ++ [(dxOrigin b, (dxFlags b).testBit 1, dxBody b)] }

theorem hopTake_mgmt (hy : dxType b = tyMgmt) (hd : dxDest b = selfNode d) (hx : d.pwr.xaornRuns = true) :
    hopTake t l q b d = ackSend l b (mgmtHanded b d) := by
  unfold hopTake
  rw [if_neg (not_not.mpr hd), if_neg (by rw [hy]; decide), if_pos hx]
  rfl

theorem nextSeq_mgmtIn (typ : Nat) (d : Dev) : (nextSeq typ d).2.dxl.mgmtIn = d.dxl.mgmtIn := rfl

theorem ackSend_mgmtIn (l : Nat) (b : List Byte) (d : Dev) : (ackSend l b d).dxl.mgmtIn = d.dxl.mgmtIn := by
  unfold ackSend dxOwn
  dsimp only
  rw [(dxEmit_sends ..).mgmtIn, nextSeq_mgmtIn]

theorem up_takes_type :
    ∀ (t : Time) (l q : Nat) (b : List Byte) (d : Dev), linkState d l = 2 →
    (dxType b = tyAck → dxByType t l q b d = d.modDxl fun x => { x with held := x.held.filter fun h =>
      !(h.link == some l && h.seq == leAt (dxBody b) 0 4 && h.origin == leAt (dxBody b) 4 2 &&
        h.typ == byteAt (dxBody b) 6) }) ∧
    (dxType b = tyTime → isDl d l = false ∨ d.onN Reg.DXL_LINKn_CFG.TIME_EN l = false →
      dxByType t l q b d = linkDrop l d) ∧
    (dxType b = tyTime → isDl d l = true → d.onN Reg.DXL_LINKn_CFG.TIME_EN l = true → byteAt (dxBody b) 0 = 0 →
      ((dxByType t l q b d).dlink l).respT3 = some (dxSeq b, t.qns)) ∧
    (dxType b = tyRelay ∨ dxType b = tyMgmt →
      winJudge (tget d.dxl.wins (winKey (dxOrigin b) (dxType b))) (dxSeq b) = .fresh → dxDest b ≠ selfNode d →
      (dxHops b = 1 → dxByType t l q b d =
        linkDrop l ((takeSeq (dxOrigin b) (dxType b) (dxSeq b) d).sat Reg.DXL_CNT_HOPS.N)) ∧
      (dxHops b ≠ 1 → dxByType t l q b d =
        ackSend l b (holdFrame t (withHops b (dxHops b - 1)) (takeSeq (dxOrigin b) (dxType b) (dxSeq b) d)))) ∧
    (dxType b = tyMgmt → dxDest b = selfNode d →
      winJudge (tget d.dxl.wins (winKey (dxOrigin b) tyMgmt)) (dxSeq b) = .fresh →
      (d.pwr.xaornRuns = false → dxByType t l q b d = linkDrop l d) ∧
      (d.pwr.xaornRuns = true → (dxByType t l q b d).dxl.mgmtIn =
        d.dxl.mgmtIn ++ [(dxOrigin b, (dxFlags b).testBit 1, dxBody b)])) := by
  refine fun t l q b d hs => ⟨fun h => dxByType_ack hs h, fun h hn => ?_, fun h hm he hb => ?_, fun h hw hd => ?_,
    fun h hd hw => ⟨fun hx => ?_, fun hx => ?_⟩⟩
  · rw [dxByType_time hs h, if_pos]
    rcases hn with hn | hn <;> simp [hn]
  · rw [dxByType_time hs h, if_neg (by simp [hm, he]), if_pos hb, timeAnswer_respT3]
  · rw [dxByType_hop hs h hw (by tauto)]
    exact ⟨fun hh => hopTake_spent (d := takeSeq _ _ _ d) hd hh, fun hh => hopTake_forwards (d := takeSeq _ _ _ d) hd hh⟩
  · obtain ⟨h1, h2, h3, -⟩ := windowed_types (.inr h)
    rw [dxByType_new hs h1 h2 h3]
    unfold dxNew
    dsimp only
    rw [h, hw]
    dsimp only
    rw [if_pos ⟨rfl, hd, by simp [hx]⟩]
  · rw [dxByType_hop hs (.inr h) (by rwa [h]) (by simp [hx]), hopTake_mgmt (d := takeSeq _ _ _ d) h hd hx, ackSend_mgmtIn]
    rfl

/-! ## What a link does with a frame -/

theorem link_off :
    ∀ (s : State) (l : Nat) (f : DxFrame), linkOn s.dev l = false →
    exec (.daxideFrameReceive l f) s = .next (s.after s.dev) := by
  intro s l f h
  rw [exec_daxideFrameReceive, if_neg (by simp [h])]

/-- A frame without a tag on a link that asks for one fails its check; nothing of it has left. -/
theorem untagged_fails (hf : f.fcsOk = true) (hs : linkState d l ≠ 3) (hm : dxMalformed f.bytes = false)
    (hl : d.getN Reg.DXL_LINKn_RLIM.FRAMES l = 0) (ha : d.onN Reg.DXL_LINKn_CFG.AUTH l = true) (hg : dxTag f.bytes = false)
    (ht : dxType f.bytes ≠ tyToken) (hb : dxType f.bytes ≠ tyBeacon) : ∃ x, x.dxl = d.dxl ∧
      x.get Reg.DXL_CNT_AUTH.N = d.get Reg.DXL_CNT_AUTH.N ∧ dxReceive t l q f d = authFailed l x := by
  obtain ⟨r, hr⟩ : ∃ r, r = keyUse engDaxide l ((d.sat Reg.DXL_LINKn_RXF.N l).getN Reg.DXL_LINKn_CFG.KEY_SLOT l) 3 true
    (d.sat Reg.DXL_LINKn_RXF.N l) := ⟨_, rfl⟩
  have hc : cutThrough r.2 l f.bytes = false := by
    simp [cutThrough, ht, hb]
  refine ⟨r.2, ?_, ?_, ?_⟩
  · rw [hr, keyUse_dxl]
    rfl
  · have hlow : Low 0x110004 (d.sat Reg.DXL_LINKn_RXF.N l) r.2 := by
      rw [hr]
      exact Low.keyUse (fun _ _ => rfl) le_rfl
    exact (hlow.getN (by decide)).trans (Dev.getN_setN_addr _ _ _ _ _ _ (rxf_ne_low l (by decide)))
  · rw [dxReceive_admitted hf hs hm (.inl hl), dxAuth_fails (by rw [onN_rxf (g := Reg.DXL_LINKn_CFG.AUTH) d l rfl (by decide), ha])
      (show _ = (r.1, r.2) from hr.symm) (.inr (.inl hg)), dxAuthFail_by, hc]
    rfl

theorem dxNew_dup (hy : dxType b = tyToken) (hw : winJudge (tget d.dxl.wins (winKey (dxOrigin b) tyToken)) (dxSeq b) = .dup) :
    dxNew t l q b d = linkDrop l (d.sat Reg.DXL_CNT_DUP.N) := by
  unfold dxNew
  dsimp only
  rw [hy, hw]
  dsimp only
  exact if_neg fun h => h.elim (fun h => absurd h (by decide)) fun h => absurd h.1 (by decide)

theorem dxNew_old (hy : dxType b = tyToken) (hw : winJudge (tget d.dxl.wins (winKey (dxOrigin b) tyToken)) (dxSeq b) = .old) :
    dxNew t l q b d = linkDrop l (d.sat Reg.DXL_CNT_OLD.N) := by
  unfold dxNew
  dsimp only
  rw [hy, hw]

/-- A token on an unsigned link that is up, of a BOOT that is known, goes by its SEQ. -/
theorem token_judged (ho : linkOn s.dev l = true) (hs : linkState s.dev l = 2) (hf : f.fcsOk = true)
    (hm : dxMalformed f.bytes = false) (hl : s.dev.getN Reg.DXL_LINKn_RLIM.FRAMES l = 0)
    (ha : s.dev.onN Reg.DXL_LINKn_CFG.AUTH l = false) (hy : dxType f.bytes = tyToken) (hn : dxOrigin f.bytes ≠ selfNode s.dev)
    (hb : tget s.dev.dxl.boots (dxOrigin f.bytes) = some k) (hz : sdiff (2 ^ 16) (dxBoot f.bytes) k = 0) :
    exec (.daxideFrameReceive l f) s =
      .next (s.after (dxNew s.time l (s.time.qns + f.q % 16) f.bytes (s.dev.sat Reg.DXL_LINKn_RXF.N l))) := by
  rw [exec_daxideFrame_on f ho, dxReceive_unsigned hf (by rw [hs]; decide) hm (.inl hl) ha,
    dxOriginCheck_known (d := s.dev.sat Reg.DXL_LINKn_RXF.N l) (.inl (by rwa [selfNode_rxf])) hb hz,
    dxByType_new (by rw [linkState_rxf, hs]) (by rw [hy]; decide) (by rw [hy]; decide) (by rw [hy]; decide)]

theorem frameCounted_msCnt (hms : (d.dlink l).ms = t.loc / 1000000) :
    ((frameCounted t l d).dlink l).msCnt = (d.dlink l).msCnt + 1 := by
  rw [frameCounted, dlink_modLink, if_pos hms]

theorem frame_received :
    ∀ (s : State) (l : Nat) (f : DxFrame), linkOn s.dev l = true →
    (f.fcsOk = false ∨ linkState s.dev l = 3 → exec (.daxideFrameReceive l f) s =
      .next (s.after ((s.dev.sat Reg.DXL_LINKn_RXF.N l).sat Reg.DXL_LINKn_DROP.N l))) ∧
    (f.fcsOk = true → linkState s.dev l ≠ 3 → dxMalformed f.bytes = false →
      (∃ d, dxLimit s.time l f.bytes (s.dev.sat Reg.DXL_LINKn_RXF.N l) = (false, d) ∧ exec (.daxideFrameReceive l f) s =
        .next (s.after ((d.sat Reg.DXL_CNT_RLIM.N).sat Reg.DXL_LINKn_DROP.N l))) ∨
      (∃ d, dxLimit s.time l f.bytes (s.dev.sat Reg.DXL_LINKn_RXF.N l) = (true, d) ∧ exec (.daxideFrameReceive l f) s =
        .next (s.after (dxAuth s.time l (s.time.qns + f.q % 16) f d)))) ∧
    (f.fcsOk = true → linkState s.dev l ≠ 3 → dxMalformed f.bytes = false → dxType f.bytes ≠ tyKeepalive →
      dxType f.bytes ≠ tyTime → s.dev.getN Reg.DXL_LINKn_RLIM.FRAMES l ≠ 0 → (s.dev.dlink l).ms = s.time.loc / 1000000 →
      s.dev.getN Reg.DXL_LINKn_RLIM.FRAMES l ≤ (s.dev.dlink l).msCnt →
      ∃ t, exec (.daxideFrameReceive l f) s = .next t ∧ (t.dev.dlink l).msCnt = (s.dev.dlink l).msCnt + 1 ∧
        t.dev.dxl.held = s.dev.dxl.held ∧ t.dev.dxl.wins = s.dev.dxl.wins ∧ t.dev.dxl.sent = s.dev.dxl.sent ∧
        t.dev.get Reg.DXL_CNT_RLIM.N = min (s.dev.get Reg.DXL_CNT_RLIM.N + 1) (2 ^ Reg.DXL_CNT_RLIM.N.width - 1)) ∧
    (f.fcsOk = true → linkState s.dev l ≠ 3 → dxMalformed f.bytes = true → exec (.daxideFrameReceive l f) s =
      .next (s.after (((s.dev.sat Reg.DXL_LINKn_RXF.N l).sat Reg.DXL_CNT_MALFORMED.N).sat Reg.DXL_LINKn_DROP.N l))) ∧
    (f.fcsOk = true → linkState s.dev l ≠ 3 → dxMalformed f.bytes = false → s.dev.getN Reg.DXL_LINKn_RLIM.FRAMES l = 0 →
      s.dev.onN Reg.DXL_LINKn_CFG.AUTH l = true → dxTag f.bytes = false → dxType f.bytes ≠ tyToken → dxType f.bytes ≠ tyBeacon →
      ∃ t, exec (.daxideFrameReceive l f) s = .next t ∧ t.dev.onN Reg.DXL_LINKn_STAT.AUTH_OK l = false ∧
        bitOf (t.dev.word intDxl.addr) 2 = true ∧ t.dev.dxl = s.dev.dxl ∧
        t.dev.get Reg.DXL_CNT_AUTH.N = min (s.dev.get Reg.DXL_CNT_AUTH.N + 1) (2 ^ Reg.DXL_CNT_AUTH.N.width - 1)) ∧
    (∀ k, f.fcsOk = true → linkState s.dev l = 2 → dxMalformed f.bytes = false →
      s.dev.getN Reg.DXL_LINKn_RLIM.FRAMES l = 0 → s.dev.onN Reg.DXL_LINKn_CFG.AUTH l = false →
      dxType f.bytes = tyToken → dxOrigin f.bytes ≠ selfNode s.dev →
      tget s.dev.dxl.boots (dxOrigin f.bytes) = some k → sdiff (2 ^ 16) (dxBoot f.bytes) k = 0 →
      (winJudge (tget s.dev.dxl.wins (winKey (dxOrigin f.bytes) tyToken)) (dxSeq f.bytes) = .dup →
        exec (.daxideFrameReceive l f) s = .next (s.after
          (((s.dev.sat Reg.DXL_LINKn_RXF.N l).sat Reg.DXL_CNT_DUP.N).sat Reg.DXL_LINKn_DROP.N l))) ∧
      (winJudge (tget s.dev.dxl.wins (winKey (dxOrigin f.bytes) tyToken)) (dxSeq f.bytes) = .old →
        exec (.daxideFrameReceive l f) s = .next (s.after
          (((s.dev.sat Reg.DXL_LINKn_RXF.N l).sat Reg.DXL_CNT_OLD.N).sat Reg.DXL_LINKn_DROP.N l)))) := by
  intro s l f ho
  have hx := exec_daxideFrame_on f ho
  refine ⟨fun h => ?_, fun hf hs hm => ?_, fun hf hs hm hk ht hl hms hc => ?_, fun hf hs hm => ?_,
    fun hf hs hm hl ha hg ht hb => ?_, fun k hf hs hm hl ha hy hn hb hz => ⟨fun hw => ?_, fun hw => ?_⟩⟩
  · rw [hx, dxReceive_bad h]
    rfl
  · cases hd : dxLimit s.time l f.bytes (s.dev.sat Reg.DXL_LINKn_RXF.N l) with
    | mk r d =>
      cases r with
      | false => exact .inl ⟨d, rfl, by rw [hx, dxReceive_limited hf hs hm hd]; rfl⟩
      | true => exact .inr ⟨d, rfl, by rw [hx, dxReceive_passed hf hs hm hd]⟩
  · have hr := getN_rxf (g := Reg.DXL_LINKn_RLIM.FRAMES) s.dev l rfl (by decide)
    have hd : dxLimit s.time l f.bytes (s.dev.sat Reg.DXL_LINKn_RXF.N l) =
        (false, frameCounted s.time l (s.dev.sat Reg.DXL_LINKn_RXF.N l)) :=
      dxLimit_beyond hk ht (by rwa [hr]) hms (by rw [hr]; exact hc)
    refine ⟨_, by rw [hx, dxReceive_limited hf hs hm hd], ?_, ?_, ?_, ?_, ?_⟩
    · rw [Dev.dlink, after_dxl]
      exact frameCounted_msCnt (d := s.dev.sat Reg.DXL_LINKn_RXF.N l) hms
    · rw [after_dxl]
      rfl
    · rw [after_dxl]
      rfl
    · rw [after_dxl]
      rfl
    · rw [after_get _ _ _ (notIntake_of_lt (by decide)), linkDrop_get _ _ (by decide), Dev.get_sat_same _ _ rfl]
      have hg : (frameCounted s.time l (s.dev.sat Reg.DXL_LINKn_RXF.N l)).get Reg.DXL_CNT_RLIM.N =
          s.dev.get Reg.DXL_CNT_RLIM.N := Dev.getN_setN_addr _ _ _ _ _ _ (rxf_ne_low l (by decide))
      rw [hg]
  · rw [hx, dxReceive_malformed hf hs hm]
    rfl
  · obtain ⟨x, hd, hc, he⟩ := untagged_fails (t := s.time) (q := s.time.qns + f.q % 16) hf hs hm hl ha hg ht hb
    refine ⟨_, by rw [hx, he], ?_, ?_, ?_, ?_⟩
    · rw [after_onN _ _ _ _ (notIntake_of_lt (by
        have := linkOn_lt ho
        rw [show Reg.DXL_LINKn_STAT.AUTH_OK.reg = At.DXL_LINKn_STAT from rfl, linkStat_addr]
        omega)), authFailed_off]
    · rw [after_word _ _ _ (notIntake_of_lt (by decide)), authFailed_bit]
    · rw [after_dxl, ← hd]
      exact Dev.cause_dxl (x.sat Reg.DXL_CNT_AUTH.N) intDxl 2 l stAuthFail
    · rw [after_get _ _ _ (notIntake_of_lt (by decide)), authFailed_count, hc]
  · rw [token_judged ho hs hf hm hl ha hy hn hb hz, dxNew_dup (d := s.dev.sat Reg.DXL_LINKn_RXF.N l) hy hw]
    rfl
  · rw [token_judged ho hs hf hm hl ha hy hn hb hz, dxNew_old (d := s.dev.sat Reg.DXL_LINKn_RXF.N l) hy hw]
    rfl

/-! ## The window (R526) -/

/-- A difference of two SEQs, folded into the signed numbers of 32 bits. -/
theorem sdiff_fold (a b : Nat) (ha : a < 2 ^ 32) (hb : b < 2 ^ 32) :
    -2147483648 ≤ sdiff (2 ^ 32) a b ∧ sdiff (2 ^ 32) a b < 2147483648 ∧
      (sdiff (2 ^ 32) a b = (a : Int) - b ∨ sdiff (2 ^ 32) a b = (a : Int) - b + 4294967296 ∨
        sdiff (2 ^ 32) a b = (a : Int) - b - 4294967296) := by
  have hm : (2 : Nat) ^ 32 = 4294967296 := by norm_num
  rw [hm] at ha hb ⊢
  unfold sdiff
  dsimp only
  rw [Nat.mod_eq_of_lt ha, Nat.mod_eq_of_lt hb]
  split <;> omega

/-- What the shifted window shows of SEQs below its old top. -/
theorem shifted_bit (m : Nat) {n j : Nat} (hn : 0 < n) (hj : j < 64) :
    ((m * 2 ^ n + 2 ^ (n - 1)) % 2 ^ 64).testBit j =
      if j < n then (2 ^ (n - 1)).testBit j else m.testBit (j - n) := by
  rw [Nat.testBit_mod_two_pow, Nat.mul_comm m, Nat.testBit_two_pow_mul_add _ (Nat.pow_lt_pow_right (by omega) (by omega))]
  simp [hj]

/-- The place of a SEQ in the window after a shift by n. -/
theorem shifted_index {n i j : Int} (hn : 0 < n) (hi : i < 0) (hj : j = i - n) :
    (-j - 1).toNat - n.toNat = (-i - 1).toNat := by
  omega

theorem dup_stays :
    ∀ (w : DxWin) (q r : Nat), w.seen = true → w.high < 2 ^ 32 → q < 2 ^ 32 → r < 2 ^ 32 → winJudge w q = .fresh →
    winJudge w r = .dup → -64 ≤ sdiff (2 ^ 32) q r → sdiff (2 ^ 32) q r ≤ 64 → winJudge (winTake w q) r = .dup := by
  intro w q r hs hh hq hr hf hd hlo hhi
  have hqh := sdiff_fold q w.high hq hh
  have hrh := sdiff_fold r w.high hr hh
  have hrq := sdiff_fold r q hr hq
  have hqr := sdiff_fold q r hq hr
  have hr0 : ¬ 0 < sdiff (2 ^ 32) r w.high := fun h => by
    rw [winJudge_above hs h] at hd
    cases hd
  have hr64 : ¬ sdiff (2 ^ 32) r w.high < -64 := fun h => by
    rw [winJudge_below hs h] at hd
    cases hd
  have hrb : sdiff (2 ^ 32) r w.high < 0 → w.mask.testBit (-sdiff (2 ^ 32) r w.high - 1).toNat = true := fun h => by
    rw [winJudge_bit hs h hr64] at hd
    by_contra hb
    rw [if_neg hb] at hd
    cases hd
  by_cases hk : 0 < sdiff (2 ^ 32) q w.high
  · rw [winTake_above hs hk, if_neg (by omega)]
    have hb : ¬ sdiff (2 ^ 32) r q < -64 := by omega
    refine (winJudge_bit (w := ⟨true, q, _⟩) rfl (show sdiff (2 ^ 32) r q < 0 by omega) hb).trans (if_pos ?_)
    show Nat.testBit (_ % 2 ^ 64) (-sdiff (2 ^ 32) r q - 1).toNat = true
    rw [shifted_bit _ (by omega) (by omega)]
    by_cases hz : sdiff (2 ^ 32) r w.high = 0
    · rw [if_pos (by omega), show (-sdiff (2 ^ 32) r q - 1).toNat = (sdiff (2 ^ 32) q w.high).toNat - 1 by omega]
      exact Nat.testBit_two_pow_self
    · have hneg : sdiff (2 ^ 32) r w.high < 0 := by omega
      have hsub : sdiff (2 ^ 32) r q = sdiff (2 ^ 32) r w.high - sdiff (2 ^ 32) q w.high := by omega
      rw [if_neg (by omega), shifted_index hk hneg hsub]
      exact hrb hneg
  · rw [winTake_below hs hk]
    by_cases hz : sdiff (2 ^ 32) r w.high = 0
    · exact winJudge_top hs hz
    · refine (winJudge_bit (w := ⟨w.seen, w.high, w.mask ||| 2 ^ (-sdiff (2 ^ 32) q w.high - 1).toNat⟩) hs
        (show sdiff (2 ^ 32) r w.high < 0 by omega) hr64).trans (if_pos ?_)
      rw [Nat.testBit_or, hrb (by omega), Bool.true_or]

/-- Settles O51: a frame by its link, its tag, its origin and its TYPE, and the window. -/
theorem fabricReception : Obligations.FabricReception :=
  ⟨⟨link_off, frame_received⟩, ⟨tag_checked, origin_checked, not_up_takes_keepalive, up_takes_type⟩,
    fun _ _ hs h => winJudge_above hs h, fun _ _ hs h => winJudge_below hs h,
    fun _ _ _ h => winJudge_winTake (by rw [h]; decide), dup_stays⟩

end Sys2Proof.Machine

/-!
PROOFS. O53: RELAY.EN and held frames (R539 to R541), and time over links (R547, R548).
-/

namespace Sys2Proof.Machine

open Sys2Proof

variable {s : State} {d x : Dev} {l m n q : Nat} {t : Time} {h : DxHeld}

theorem exec_mgmtFrameSend (dest : Nat) (bytes : List Byte) (deflate : Bool) (s : State) :
    exec (.mgmtFrameSend dest bytes deflate) s = .next (s.after (mgmtSend s.time dest bytes deflate s.dev)) := rfl

theorem exec_relayEnable (s : State) : exec .relayEnable s = .next (s.after (onWrite 0x60018 relayEnable s.dev)) := rfl

theorem exec_relayExpire (link : Nat) (s : State) :
    exec (.relayExpire link) s = .next (s.after (relayExpire s.time link s.dev)) := rfl

theorem exec_relayRetransmit (link : Nat) (s : State) :
    exec (.relayRetransmit link) s = .next (s.after (relayRetransmit s.time link s.dev)) := rfl

theorem exec_timeReqSend (link : Nat) (s : State) :
    exec (.timeReqSend link) s = .next (s.after (timeReqSend s.time link s.dev)) := rfl

/-! ## RELAY.EN (R539) -/

theorem relay_on :
    ∀ (s : State), s.dev.up (islandOf 0x60018) = true → s.dev.on Reg.DXL_RELAY.EN = true →
    exec .relayEnable s = .next (s.after s.dev) := by
  intro s hu he
  rw [exec_relayEnable, onWrite_up _ hu, relayEnable, if_pos he]

theorem relay_enables :
    ∀ (s : State), s.dev.up (islandOf 0x60018) = true → s.dev.on Reg.DXL_RELAY.EN = false →
    (partBytes s.dev partRelay < relayNeed s.dev ∨ partBytes s.dev partRelay = 0 → exec .relayEnable s =
      .next (s.after ((s.dev.set Reg.DXL_STATUS.FAIL stNoSpace).cause intDxl 0 0 stNoSpace))) ∧
    (relayNeed s.dev ≤ partBytes s.dev partRelay → partBytes s.dev partRelay ≠ 0 →
      ∃ t, exec .relayEnable s = .next t ∧ t.dev.on Reg.DXL_RELAY.EN = true ∧ t.dev.get Reg.DXL_STATUS.FAIL = stOk ∧
        t.dev.get Reg.DXL_RELAY.PARENT = s.dev.get Reg.DXL_RELAY.PARENT) := by
  refine fun s hu he => ⟨fun h => ?_, fun hn hp => ?_⟩
  · rw [exec_relayEnable, onWrite_up _ hu, relayEnable, if_neg (by simp [he]), if_pos h.symm]
  · refine ⟨_, by rw [exec_relayEnable, onWrite_up _ hu, relayEnable, if_neg (by simp [he]), if_neg (by omega)], ?_, ?_, ?_⟩
    · rw [after_on _ _ _ (notIntake_of_lt (by decide)), Dev.on_set_same _ _ _ rfl]
      rfl
    · rw [after_get _ _ _ (notIntake_of_lt (by decide)), Dev.get_set_other _ _ _ _ rfl, Dev.get_set_same _ _ _ rfl (by decide)]
    · rw [after_get _ _ _ (notIntake_of_lt (by decide)), Dev.get_set_other _ _ _ _ rfl, Dev.get_set_other _ _ _ _ rfl]

/-! ## A held frame is sent -/

theorem routeLink_congr (hr : x.regs = d.regs) (hi : x.isl = d.isl) (hp : x.pwr = d.pwr) (dest : Nat) :
    routeLink x dest = routeLink d dest := by
  have hu : linkIsUp x = linkIsUp d := funext fun l => linkIsUp_congr hr hi hp l
  unfold routeLink Dev.onN
  simp only [getN_ofRegs hr]
  rw [hu]

theorem partRead_dxl (p w k : Nat) (d : Dev) : (partRead p w k d).2.dxl = d.dxl :=
  (@Tame.partRead [.hmp, .free] d d p w k (.refl _ d) ⟨by decide⟩ ⟨by decide⟩).stands .dxl (by decide)

/-- The place of a held frame in the Hamper. -/
def heldAt (h : DxHeld) (d : Dev) : Nat := partWord d partRelay + h.ofs

/-- The held frame as it is read back. -/
def heldBytes (h : DxHeld) (d : Dev) : List Byte :=
  (wordsBytes (partRead partRelay (heldAt h d) (heldWords h) d).1).take h.count

/-- A held frame that has left. -/
def heldMark (t : Time) (m : Nat) (h g : DxHeld) : DxHeld :=
  if heldSame g h then { g with last := t.loc, link := some m, left := true } else g

/-- The fabric with a held frame read back and marked as sent. -/
def heldSent (t : Time) (m : Nat) (h : DxHeld) (d : Dev) : Dev :=
  (partRead partRelay (heldAt h d) (heldWords h) d).2.modDxl fun x => { x with held := x.held.map (heldMark t m h) }

theorem sendHeld_unrouted {r : Bool} (hr : routeLink d h.dest = none) : sendHeld t r h d = d := by
  unfold sendHeld
  rw [hr]

theorem sendHeld_bad {r : Bool} (hr : routeLink d h.dest = some m) (hb : ∃ i, i < heldWords h ∧
    (hBad d (heldAt h d + i) = true ∨ hUp d (heldAt h d + i) = false ∨ inPart d partRelay (heldAt h d + i) = false)) :
    sendHeld t r h d = linkDrop m (dropHeld h (partRead partRelay (heldAt h d) (heldWords h) d).2) := by
  obtain ⟨i, hi, hb⟩ := hb
  have hany : ((List.range (heldWords h)).any fun i => hBad d (heldAt h d + i) || !hUp d (heldAt h d + i) ||
      !inPart d partRelay (heldAt h d + i)) = true :=
    List.any_eq_true.mpr ⟨i, List.mem_range.mpr hi, by rcases hb with hb | hb | hb <;> simp [hb]⟩
  unfold sendHeld
  rw [hr]
  exact if_pos hany

theorem sendHeld_good {r : Bool} (hr : routeLink d h.dest = some m) (hb : ∀ i, i < heldWords h →
    hBad d (heldAt h d + i) = false ∧ hUp d (heldAt h d + i) = true ∧ inPart d partRelay (heldAt h d + i) = true) :
    sendHeld t r h d = dxEmit m (if r then withRetx (heldBytes h d) else heldBytes h d) true true (heldSent t m h d) := by
  have hany : ¬ ((List.range (heldWords h)).any fun i => hBad d (heldAt h d + i) || !hUp d (heldAt h d + i) ||
      !inPart d partRelay (heldAt h d + i)) = true := by
    rw [List.any_eq_true]
    rintro ⟨i, hi, hc⟩
    obtain ⟨h1, h2, h3⟩ := hb i (List.mem_range.mp hi)
    simp [h1, h2, h3] at hc
  unfold sendHeld
  rw [hr]
  exact if_neg hany

theorem heldSent_held (t : Time) (m : Nat) (h : DxHeld) (d : Dev) :
    (heldSent t m h d).dxl.held = d.dxl.held.map (heldMark t m h) :=
  congrArg (fun x : Dxl => x.held.map (heldMark t m h)) (partRead_dxl ..)

theorem heldSent_sent (t : Time) (m : Nat) (h : DxHeld) (d : Dev) : (heldSent t m h d).dxl.sent = d.dxl.sent := by
  show (partRead partRelay (heldAt h d) (heldWords h) d).2.dxl.sent = _
  rw [partRead_dxl]

theorem dropHeld_held (h : DxHeld) (d : Dev) : (dropHeld h d).dxl.held = d.dxl.held.filter fun g => !heldSame g h := rfl

theorem heldSame_self (h : DxHeld) : heldSame h h = true := by simp [heldSame]

/-! ## MGMT frames (R540) -/

theorem mgmt_idle :
    ∀ (s : State) (dest : Nat) (p : List Byte) (z : Bool), fabricRuns s.dev = false ∨ s.dev.pwr.xaornRuns = false ∨ p = [] ∨
      8192 < p.length ∨ 512 ≤ dest → exec (.mgmtFrameSend dest p z) s = .next (s.after s.dev) := by
  intro s dest p z h
  rw [exec_mgmtFrameSend, mgmtSend, if_pos]
  rcases h with h | h | h | h | h <;> simp [h]

theorem mgmtSend_held {dest : Nat} {p : List Byte} {z : Bool} (hr : fabricRuns d = true) (hx : d.pwr.xaornRuns = true)
    (hp : p ≠ []) (hl : p.length ≤ 8192) (hd : dest < 512) (hn : nextSeq tyMgmt d = (n, x)) :
    mgmtSend t dest p z d = holdFrame t (dxHeader tyMgmt (d.get Reg.DXL_CFG.HOPS) (selfNode d) dest false p.length n
      (selfBoot d) (2 * b2n z) ++ p) x := by
  unfold mgmtSend
  rw [if_neg (by simp [hr, hx, hp, hl, hd]), hn]

theorem mgmt_holds :
    ∀ (s : State) (dest n : Nat) (d : Dev) (p : List Byte) (z : Bool), fabricRuns s.dev = true →
    s.dev.pwr.xaornRuns = true → p ≠ [] → p.length ≤ 8192 → dest < 512 → nextSeq tyMgmt s.dev = (n, d) →
    exec (.mgmtFrameSend dest p z) s = .next (s.after (holdFrame s.time (dxHeader tyMgmt (s.dev.get Reg.DXL_CFG.HOPS)
      (selfNode s.dev) dest false p.length n (selfBoot s.dev) (2 * b2n z) ++ p) d)) := by
  intro s dest n d p z hr hx hp hl hd hn
  rw [exec_mgmtFrameSend, mgmtSend_held hr hx hp hl hd hn]

/-- The middle of three runs of bytes, by its place and length. -/
theorem slice_middle (a b c : List Byte) : slice (a ++ (b ++ c)) a.length b.length = b := by
  simp [slice]

theorem dxDest_header (typ hops origin : Nat) {dest : Nat} (len seq boot flags : Nat) (p : List Byte) (hd : dest < 512) :
    dxDest (dxHeader typ hops origin dest false len seq boot flags ++ p) = dest := by
  have hs := slice_middle (le 1 (typ + 16) ++ le 1 hops ++ le 2 origin) (le 2 (dest + 2 ^ 15 * b2n false))
    (le 2 len ++ le 4 seq ++ le 2 boot ++ le 2 flags ++ p)
  have hb : dxHeader typ hops origin dest false len seq boot flags ++ p = le 1 (typ + 16) ++ le 1 hops ++ le 2 origin ++
      (le 2 (dest + 2 ^ 15 * b2n false) ++ (le 2 len ++ le 4 seq ++ le 2 boot ++ le 2 flags ++ p)) := by
    simp [dxHeader]
  have h4 : (le 1 (typ + 16) ++ le 1 hops ++ le 2 origin).length = 4 := by simp
  rw [h4, le_length, ← hb] at hs
  rw [dxDest, leAt, hs, leVal_le _ _ (by rw [show b2n false = 0 from rfl]; omega), show b2n false = 0 from rfl]
  omega

/-- With nothing held, the partition's start takes any frame it can hold. -/
theorem heldRoom_empty {fuel : Nat} (he : d.dxl.held = []) (hn : n ≤ partBytes d partRelay / 4) :
    heldRoom fuel n d = (some 0, d) := by
  have hp : heldPlace d n = some 0 := by simp [heldPlace, he, hn]
  cases fuel with
  | zero =>
    unfold heldRoom
    rw [hp]
  | succ k =>
    unfold heldRoom
    rw [hp]

/-- The entry of a frame that starts to be held. -/
def heldNew (t : Time) (b : List Byte) (o : Nat) : DxHeld :=
  ⟨dxType b, dxOrigin b, dxSeq b, dxDest b, b.length, o, t.loc, t.loc, none, false⟩

/-- The fabric with a frame held at a place of the partition. -/
def heldPut (t : Time) (b : List Byte) (o : Nat) (d : Dev) : Dev :=
  partWrite partRelay (partWord d partRelay + o) (packWords ((b.length + 3) / 4) b) (d.modDxl fun x =>
    { x with held := x.held ++ [heldNew t b o] })

theorem holdFrame_placed {b : List Byte} {o : Nat}
    (hr : heldRoom (d.dxl.held.length + 1) ((b.length + 3) / 4) d = (some o, x)) :
    holdFrame t b d = sendHeld t false (heldNew t b o) (heldPut t b o x) := by
  unfold holdFrame
  dsimp only
  rw [hr]
  rfl

theorem heldPut_dxl (t : Time) (b : List Byte) (o : Nat) (d : Dev) :
    (heldPut t b o d).dxl = { d.dxl with held := d.dxl.held ++ [heldNew t b o] } :=
  (@Tame.partWrite [.hmp] _ _ partRelay (partWord d partRelay + o) (packWords ((b.length + 3) / 4) b)
    (.refl _ (d.modDxl fun x => { x with held := x.held ++ [heldNew t b o] })) ⟨by decide⟩).stands .dxl (by decide)

theorem routeLink_heldPut (t : Time) (b : List Byte) (o : Nat) (d : Dev) (dest : Nat) :
    routeLink (heldPut t b o d) dest = routeLink d dest := by
  have ht := @Tame.partWrite [.hmp] _ _ partRelay (partWord d partRelay + o) (packWords ((b.length + 3) / 4) b)
    (.refl _ (d.modDxl fun x => { x with held := x.held ++ [heldNew t b o] })) ⟨by decide⟩
  exact routeLink_congr (partWrite_regs _) (ht.stands .isl (by decide)) (ht.stands .pwr (by decide)) dest

theorem nextSeq_held (typ : Nat) (d : Dev) : (nextSeq typ d).2.dxl.held = d.dxl.held := rfl

theorem nextSeq_sent (typ : Nat) (d : Dev) : (nextSeq typ d).2.dxl.sent = d.dxl.sent := rfl

theorem routeLink_nextSeq (typ : Nat) (d : Dev) (dest : Nat) : routeLink (nextSeq typ d).2 dest = routeLink d dest :=
  routeLink_congr rfl rfl rfl dest

theorem mgmt_waits :
    ∀ (s : State) (dest : Nat) (p : List Byte) (z : Bool), fabricRuns s.dev = true → s.dev.pwr.xaornRuns = true → p ≠ [] →
    p.length ≤ 8192 → dest < 512 → s.dev.dxl.held = [] → (16 + p.length + 3) / 4 ≤ partBytes s.dev partRelay / 4 →
    routeLink s.dev dest = none →
    ∃ t, exec (.mgmtFrameSend dest p z) s = .next t ∧ t.dev.dxl.sent = s.dev.dxl.sent ∧
      (t.dev.dxl.held.map fun h => (h.dest, h.count, h.ofs, h.first, h.link)) =
        [(dest, 16 + p.length, 0, s.time.loc, none)] := by
  intro s dest p z hr hx hp hl hd he hcap hro
  obtain ⟨b, hb⟩ : ∃ b, b = dxHeader tyMgmt (s.dev.get Reg.DXL_CFG.HOPS) (selfNode s.dev) dest false p.length
    (nextSeq tyMgmt s.dev).1 (selfBoot s.dev) (2 * b2n z) ++ p := ⟨_, rfl⟩
  have hlen : b.length = 16 + p.length := by rw [hb, List.length_append, dxHeader_length]
  have hdest : dxDest b = dest := by rw [hb, dxDest_header _ _ _ _ _ _ _ _ hd]
  have hm : mgmtSend s.time dest p z s.dev = heldPut s.time b 0 (nextSeq tyMgmt s.dev).2 := by
    rw [mgmtSend_held (n := (nextSeq tyMgmt s.dev).1) (x := (nextSeq tyMgmt s.dev).2) hr hx hp hl hd rfl, ← hb,
      holdFrame_placed (heldRoom_empty (d := (nextSeq tyMgmt s.dev).2) he (by rw [hlen]; exact hcap)), sendHeld_unrouted]
    rw [routeLink_heldPut, heldNew, hdest, routeLink_nextSeq, hro]
  refine ⟨_, by rw [exec_mgmtFrameSend, hm], ?_, ?_⟩
  · rw [after_dxl, heldPut_dxl]
    exact nextSeq_sent tyMgmt s.dev
  · rw [after_dxl, heldPut_dxl]
    show List.map _ ((nextSeq tyMgmt s.dev).2.dxl.held ++ [heldNew s.time b 0]) = _
    rw [nextSeq_held, he, List.nil_append, List.map_singleton, heldNew, hdest, hlen]

/-! ## Held frames expire (R541) -/

/-- Has a held frame of a link been held for 100 ms? -/
def heldOld (t : Time) (l : Nat) (d : Dev) (h : DxHeld) : Bool := heldOn d l h && decide (100000000 ≤ t.loc - h.first)

/-- A frame held too long is dropped and counted. -/
def heldExpired (l : Nat) (h : DxHeld) (d : Dev) : Dev := ((dropHeld h d).sat Reg.DXL_CNT_RELAY_EXP.N).cause intDxl 5 l 0

theorem relayExpire_found (hf : d.dxl.held.find? (heldOld t l d) = some h) : relayExpire t l d = heldExpired l h d := by
  have hf' : d.dxl.held.find? (fun h => heldOn d l h && decide (100000000 ≤ t.loc - h.first)) = some h := hf
  unfold relayExpire
  rw [hf']
  rfl

theorem relayExpire_none (hf : ∀ h ∈ d.dxl.held, heldOld t l d h = false) : relayExpire t l d = d := by
  have hn : d.dxl.held.find? (fun h => heldOn d l h && decide (100000000 ≤ t.loc - h.first)) = none :=
    List.find?_eq_none.mpr fun h hh => by
      show ¬ heldOld t l d h = true
      simp [hf h hh]
  unfold relayExpire
  rw [hn]

theorem heldExpired_dxl (l : Nat) (h : DxHeld) (d : Dev) : (heldExpired l h d).dxl = (dropHeld h d).dxl :=
  Dev.cause_dxl ((dropHeld h d).sat Reg.DXL_CNT_RELAY_EXP.N) intDxl 5 l 0

theorem heldExpired_count (l : Nat) (h : DxHeld) (d : Dev) : (heldExpired l h d).get Reg.DXL_CNT_RELAY_EXP.N =
    min (d.get Reg.DXL_CNT_RELAY_EXP.N + 1) (2 ^ Reg.DXL_CNT_RELAY_EXP.N.width - 1) :=
  (Dev.cause_get _ _ _ _ _ _ (by decide)).trans (Dev.get_sat_same (dropHeld h d) _ rfl)

theorem filter_single (h : DxHeld) : [h].filter (fun g => !heldSame g h) = [] := by simp [heldSame_self]

theorem single_expires :
    ∀ (s : State) (l : Nat) (h : DxHeld), s.dev.dxl.held = [h] → h.link = some l →
    (s.time.loc - h.first < 100000000 → exec (.relayExpire l) s = .next (s.after s.dev)) ∧
    (100000000 ≤ s.time.loc - h.first → ∃ t, exec (.relayExpire l) s = .next t ∧ t.dev.dxl.held = [] ∧
      t.dev.dxl.sent = s.dev.dxl.sent ∧ t.dev.get Reg.DXL_CNT_RELAY_EXP.N =
        min (s.dev.get Reg.DXL_CNT_RELAY_EXP.N + 1) (2 ^ Reg.DXL_CNT_RELAY_EXP.N.width - 1)) := by
  intro s l h he hl
  have hon : heldOn s.dev l h = true := by simp [heldOn, hl]
  refine ⟨fun ht => ?_, fun ht => ?_⟩
  · rw [exec_relayExpire, relayExpire_none fun g hg => ?_]
    rw [he, List.mem_singleton] at hg
    subst hg
    simp [heldOld, ht]
  · have hf : s.dev.dxl.held.find? (heldOld s.time l s.dev) = some h := by simp [he, heldOld, hon, ht]
    refine ⟨_, by rw [exec_relayExpire, relayExpire_found hf], ?_, ?_, ?_⟩
    · rw [after_dxl, heldExpired_dxl, dropHeld_held, he, filter_single]
    · rw [after_dxl, heldExpired_dxl]
      rfl
    · rw [after_get _ _ _ (notIntake_of_lt (by decide)), heldExpired_count]

theorem held_expires :
    ∀ (s : State) (l : Nat),
    ((∀ h ∈ s.dev.dxl.held, heldOn s.dev l h = true → s.time.loc - h.first < 100000000) →
      exec (.relayExpire l) s = .next (s.after s.dev)) ∧
    (∀ h, (s.dev.dxl.held.find? fun g => heldOn s.dev l g && decide (100000000 ≤ s.time.loc - g.first)) = some h →
      h ∈ s.dev.dxl.held ∧ ∃ t, exec (.relayExpire l) s = .next t ∧ bitOf (t.dev.word intDxl.addr) 5 = true ∧
        t.dev.dxl.held = s.dev.dxl.held.filter fun g => !heldSame g h) := by
  refine fun s l => ⟨fun ha => ?_, fun h hf => ⟨List.mem_of_find?_eq_some hf, ?_⟩⟩
  · rw [exec_relayExpire, relayExpire_none fun g hg => ?_]
    cases ho : heldOn s.dev l g with
    | false => simp [heldOld, ho]
    | true =>
      have := ha g hg ho
      simp [heldOld, this]
  · refine ⟨_, by rw [exec_relayExpire, relayExpire_found hf], ?_, ?_⟩
    · rw [after_word _ _ _ (notIntake_of_lt (by decide))]
      exact Dev.cause_sets _ _ _ _ _ (by omega)
    · rw [after_dxl, heldExpired_dxl, dropHeld_held]

/-! ## Held frames leave again (R541) -/

/-- Is a held frame to leave: without a link yet, or RTO ms without an ACK? -/
def heldDue (t : Time) (l : Nat) (d : Dev) (h : DxHeld) : Bool :=
  heldOn d l h && (h.link.isNone || (d.get Reg.DXL_RELAY.RTO != 0 &&
    decide (d.get Reg.DXL_RELAY.RTO * 1000000 ≤ t.loc - h.last)))

theorem relayRetransmit_found (hr : fabricRuns d = true) (hf : d.dxl.held.find? (heldDue t l d) = some h) :
    relayRetransmit t l d = sendHeld t h.left h d := by
  have hf' : d.dxl.held.find? (fun h => heldOn d l h && (h.link.isNone || (d.get Reg.DXL_RELAY.RTO != 0 &&
    decide (d.get Reg.DXL_RELAY.RTO * 1000000 ≤ t.loc - h.last)))) = some h := hf
  unfold relayRetransmit
  dsimp only
  rw [if_neg (by simp [hr]), hf']

theorem relayRetransmit_none (hf : fabricRuns d = false ∨ ∀ h ∈ d.dxl.held, heldDue t l d h = false) :
    relayRetransmit t l d = d := by
  unfold relayRetransmit
  dsimp only
  split
  · rfl
  · next hr =>
    have hf := hf.resolve_left (by simpa using hr)
    have hn : d.dxl.held.find? (fun h => heldOn d l h && (h.link.isNone || (d.get Reg.DXL_RELAY.RTO != 0 &&
        decide (d.get Reg.DXL_RELAY.RTO * 1000000 ≤ t.loc - h.last)))) = none :=
      List.find?_eq_none.mpr fun h hh => by
        show ¬ heldDue t l d h = true
        simp [hf h hh]
    rw [hn]

theorem heldDue_waits (hw : heldOn d l h = true → h.link ≠ none ∧
    (d.get Reg.DXL_RELAY.RTO = 0 ∨ t.loc - h.last < d.get Reg.DXL_RELAY.RTO * 1000000)) : heldDue t l d h = false := by
  cases ho : heldOn d l h with
  | false => simp [heldDue, ho]
  | true =>
    obtain ⟨h1, h2⟩ := hw ho
    have hi : h.link.isNone = false := Option.isNone_eq_false_iff.mpr (Option.isSome_iff_ne_none.mpr h1)
    rcases h2 with h2 | h2 <;> simp [heldDue, ho, hi, h2]

theorem retransmit_idle :
    ∀ (s : State) (l : Nat), fabricRuns s.dev = false ∨
      (∀ h ∈ s.dev.dxl.held, heldOn s.dev l h = true → h.link ≠ none ∧
        (s.dev.get Reg.DXL_RELAY.RTO = 0 ∨ s.time.loc - h.last < s.dev.get Reg.DXL_RELAY.RTO * 1000000)) →
    exec (.relayRetransmit l) s = .next (s.after s.dev) := by
  intro s l h
  rw [exec_relayRetransmit, relayRetransmit_none (h.imp_right fun h g hg => heldDue_waits (h g hg))]

theorem retransmit_found :
    ∀ (s : State) (l : Nat) (h : DxHeld), fabricRuns s.dev = true →
    (s.dev.dxl.held.find? fun g => heldOn s.dev l g && (g.link.isNone || (s.dev.get Reg.DXL_RELAY.RTO != 0 &&
      decide (s.dev.get Reg.DXL_RELAY.RTO * 1000000 ≤ s.time.loc - g.last)))) = some h →
    (routeLink s.dev h.dest = none → exec (.relayRetransmit l) s = .next (s.after s.dev)) ∧
    (∀ m, routeLink s.dev h.dest = some m →
      (∃ i, i < heldWords h ∧ (hBad s.dev (partWord s.dev partRelay + h.ofs + i) = true ∨
        hUp s.dev (partWord s.dev partRelay + h.ofs + i) = false ∨
        inPart s.dev partRelay (partWord s.dev partRelay + h.ofs + i) = false)) →
      ∃ t, exec (.relayRetransmit l) s = .next t ∧ t.dev.dxl.held = s.dev.dxl.held.filter (fun g => !heldSame g h) ∧
        t.dev.dxl.sent = s.dev.dxl.sent) ∧
    (∀ m, routeLink s.dev h.dest = some m →
      (∀ i, i < heldWords h → hBad s.dev (partWord s.dev partRelay + h.ofs + i) = false ∧
        hUp s.dev (partWord s.dev partRelay + h.ofs + i) = true ∧
        inPart s.dev partRelay (partWord s.dev partRelay + h.ofs + i) = true) →
      ∃ t, exec (.relayRetransmit l) s = .next t ∧
        t.dev.dxl.held = s.dev.dxl.held.map fun g => if heldSame g h then
          { g with last := s.time.loc, link := some m, left := true } else g) := by
  intro s l h hr hf
  have hx := relayRetransmit_found hr hf
  refine ⟨fun hn => ?_, fun m hm hb => ?_, fun m hm hb => ?_⟩
  · rw [exec_relayRetransmit, hx, sendHeld_unrouted hn]
  · refine ⟨_, by rw [exec_relayRetransmit, hx, sendHeld_bad hm hb], ?_, ?_⟩
    · rw [after_dxl]
      exact (dropHeld_held ..).trans (by rw [partRead_dxl])
    · rw [after_dxl]
      show (partRead partRelay (heldAt h s.dev) (heldWords h) s.dev).2.dxl.sent = _
      rw [partRead_dxl]
  · refine ⟨_, by rw [exec_relayRetransmit, hx, sendHeld_good hm hb], ?_⟩
    rw [after_dxl, (dxEmit_sends ..).held, heldSent_held]
    rfl

theorem linkCfg_offHamper : OffHamper LinkCfg := by
  rintro a ⟨k, rfl⟩
  rw [linkCfg_addr]
  omega

theorem heldSent_cfg (t : Time) (m : Nat) (h : DxHeld) (d : Dev) : Apart LinkCfg d (heldSent t m h d) :=
  Apart.ofRegs ((Apart.refl _ d).partRead linkCfg_offHamper) rfl

theorem heldBytes_read (hb : ∀ i, i < heldWords h → inPart d partRelay (heldAt h d + i) = true) :
    heldBytes h d = (wordsBytes (hreadMany .engine (heldAt h d) (heldWords h) d).1).take h.count := by
  rw [heldBytes, partRead, if_pos (List.all_eq_true.mpr fun i hi => hb i (List.mem_range.mp hi))]

theorem single_retransmits :
    ∀ (s : State) (l m : Nat) (h : DxHeld), fabricRuns s.dev = true → s.dev.dxl.held = [h] → h.link = some l →
    h.left = true →
    (s.dev.get Reg.DXL_RELAY.RTO = 0 ∨ s.time.loc - h.last < s.dev.get Reg.DXL_RELAY.RTO * 1000000 →
      exec (.relayRetransmit l) s = .next (s.after s.dev)) ∧
    (s.dev.get Reg.DXL_RELAY.RTO ≠ 0 → s.dev.get Reg.DXL_RELAY.RTO * 1000000 ≤ s.time.loc - h.last →
      routeLink s.dev h.dest = some m → isDl s.dev m = true → s.dev.onN Reg.DXL_LINKn_CFG.AUTH m = false →
      (∀ i, i < heldWords h → hBad s.dev (partWord s.dev partRelay + h.ofs + i) = false ∧
        hUp s.dev (partWord s.dev partRelay + h.ofs + i) = true ∧
        inPart s.dev partRelay (partWord s.dev partRelay + h.ofs + i) = true) →
      ∃ t b, exec (.relayRetransmit l) s = .next t ∧
        b = withTag (withRetx ((wordsBytes (hreadMany .engine
          (partWord s.dev partRelay + h.ofs) (heldWords h) s.dev).1).take h.count)) false ∧
        t.dev.dxl.held = [{ h with last := s.time.loc, link := some m }] ∧
        t.dev.dxl.sent = s.dev.dxl.sent ++ [⟨m, b, none, true, dxPad b.length⟩]) := by
  intro s l m h hr he hl hle
  have hon : heldOn s.dev l h = true := by simp [heldOn, hl]
  refine ⟨fun hw => ?_, fun h0 hd hm hdl ha hb => ?_⟩
  · rw [exec_relayRetransmit, relayRetransmit_none (.inr fun g hg => ?_)]
    rw [he, List.mem_singleton] at hg
    subst hg
    exact heldDue_waits fun _ => ⟨by simp [hl], hw⟩
  · have hf : s.dev.dxl.held.find? (heldDue s.time l s.dev) = some h := by simp [he, heldDue, hon, h0, hd]
    have hc := heldSent_cfg s.time m h s.dev
    have hx : relayRetransmit s.time l s.dev = ((heldSent s.time m h s.dev).sat Reg.DXL_LINKn_TXF.N m).modDxl fun z =>
        { z with sent := z.sent ++ [plainSent m (withRetx (heldBytes h s.dev)) true] } := by
      rw [relayRetransmit_found hr hf, sendHeld_good hm hb, hle, if_pos rfl, dxEmit_plain (by rw [hc.isDl, hdl])
        (by rw [hc.onN (f := Reg.DXL_LINKn_CFG.AUTH) ⟨m, rfl⟩, ha])]
    refine ⟨_, _, by rw [exec_relayRetransmit, hx], rfl, ?_, ?_⟩
    · rw [after_dxl]
      refine (heldSent_held ..).trans ?_
      rw [he, List.map_singleton, heldMark, if_pos (heldSame_self h), hle]
    · rw [after_dxl]
      show (heldSent s.time m h s.dev).dxl.sent ++ [plainSent m (withRetx (heldBytes h s.dev)) true] = _
      rw [heldSent_sent, plainSent, heldBytes_read fun i hi => (hb i hi).2.2]
      rfl

/-! ## Time over links -/

/-- Is a REQ due on a link? -/
def reqDue (t : Time) (l : Nat) (d : Dev) : Bool :=
  match (d.dlink l).reqTx with
  | none => true
  | some a => decide (1000000000 ≤ (t.loc - a) * 2 ^ d.getN Reg.DXL_LINKn_TIME.RATE l)

/-- The fabric with a REQ sent: its departure is remembered under its SEQ. -/
def reqSent (t : Time) (l : Nat) (d : Dev) : Dev :=
  (dxOwn l tyTime (timeHead t 0 d ++ le 39 0) d).2.modLink l fun x =>
    { x with reqTx := some t.loc, reqs := fmInsert x.reqs (nextSeq tyTime d).1 t.qns }

theorem timeReqSend_by (t : Time) (l : Nat) (d : Dev) : timeReqSend t l d =
    if linkIsUp d l && isDl d l && d.onN Reg.DXL_LINKn_CFG.TIME_EN l && reqDue t l d then reqSent t l d else d := rfl

theorem reqDue_iff : reqDue t l d = true ↔
    ∀ a ∈ (d.dlink l).reqTx, 1000000000 ≤ (t.loc - a) * 2 ^ d.getN Reg.DXL_LINKn_TIME.RATE l := by
  unfold reqDue
  cases (d.dlink l).reqTx with
  | none => simp
  | some a => simp

theorem timeReqSend_due (hu : linkIsUp d l = true) (hd : isDl d l = true) (he : d.onN Reg.DXL_LINKn_CFG.TIME_EN l = true)
    (hq : ∀ a ∈ (d.dlink l).reqTx, 1000000000 ≤ (t.loc - a) * 2 ^ d.getN Reg.DXL_LINKn_TIME.RATE l) :
    timeReqSend t l d = reqSent t l d := by
  rw [timeReqSend_by, reqDue_iff.mpr hq, if_pos (by simp [hu, hd, he])]

theorem reqSent_tx (t : Time) (l : Nat) (d : Dev) : ((reqSent t l d).dlink l).reqTx = some t.loc := by
  rw [reqSent, dlink_modLink]

theorem reqSent_reqs (t : Time) (l : Nat) (d : Dev) :
    fmLook ((reqSent t l d).dlink l).reqs (nextSeq tyTime d).1 = some t.qns := by
  rw [reqSent, dlink_modLink]
  exact (fmLook_insert _ _ _ _).trans (if_pos rfl)

theorem reqSent_seqs (t : Time) (l : Nat) (d : Dev) : tget (reqSent t l d).dxl.seqs tyTime = (nextSeq tyTime d).1 := by
  have hs : (reqSent t l d).dxl.seqs = (dxOwn l tyTime (timeHead t 0 d ++ le 39 0) d).2.dxl.seqs := rfl
  rw [hs, dxOwn]
  dsimp only
  rw [(dxEmit_sends ..).seqs, nextSeq_seqs]

theorem req_idle :
    ∀ (s : State) (l : Nat), linkIsUp s.dev l = false ∨ isDl s.dev l = false ∨
      s.dev.onN Reg.DXL_LINKn_CFG.TIME_EN l = false ∨
      (∃ a ∈ (s.dev.dlink l).reqTx,
        (s.time.loc - a) * 2 ^ s.dev.getN Reg.DXL_LINKn_TIME.RATE l < 1000000000) →
    exec (.timeReqSend l) s = .next (s.after s.dev) := by
  intro s l h
  rw [exec_timeReqSend, timeReqSend_by, if_neg]
  simp only [Bool.and_eq_true]
  rintro ⟨⟨⟨h1, h2⟩, h3⟩, h4⟩
  rcases h with h | h | h | ⟨a, ha, h⟩
  · rw [h] at h1
    cases h1
  · rw [h] at h2
    cases h2
  · rw [h] at h3
    cases h3
  · exact absurd (reqDue_iff.mp h4 a ha) (Nat.not_le.mpr h)

/-- On an unsigned DL link a frame for one hop joins the frames sent. -/
theorem dxOwn_plain (typ : Nat) (p : List Byte) (hd : isDl d l = true) (ha : d.onN Reg.DXL_LINKn_CFG.AUTH l = false) :
    ∃ b, (dxOwn l typ p d).2.dxl.sent = d.dxl.sent ++ [plainSent l b true] := by
  unfold dxOwn
  dsimp only
  rw [dxEmit_plain (show isDl (nextSeq typ d).2 l = true from hd)
    (show (nextSeq typ d).2.onN Reg.DXL_LINKn_CFG.AUTH l = false from ha)]
  exact ⟨_, rfl⟩

theorem req_plain :
    ∀ (s : State) (l : Nat), linkIsUp s.dev l = true → isDl s.dev l = true →
    s.dev.onN Reg.DXL_LINKn_CFG.TIME_EN l = true → s.dev.onN Reg.DXL_LINKn_CFG.AUTH l = false →
    (s.dev.dlink l).reqTx = none →
    ∃ t n f, exec (.timeReqSend l) s = .next t ∧ n = (nextSeq tyTime s.dev).1 ∧ (t.dev.dlink l).reqTx = some s.time.loc ∧
      fmLook (t.dev.dlink l).reqs n = some s.time.qns ∧ t.dev.dxl.sent = s.dev.dxl.sent ++ [f] ∧ f.link = l ∧
      f.tagKey = none ∧ f.good = true := by
  intro s l hu hd he ha hq
  obtain ⟨b, hb⟩ := dxOwn_plain tyTime (timeHead s.time 0 s.dev ++ le 39 0) hd ha
  refine ⟨_, _, plainSent l b true, by rw [exec_timeReqSend, timeReqSend_due hu hd he (by simp [hq])], rfl, ?_, ?_, ?_,
    rfl, rfl, rfl⟩
  · rw [Dev.dlink, after_dxl, ← Dev.dlink, reqSent_tx]
  · rw [Dev.dlink, after_dxl, ← Dev.dlink, reqSent_reqs]
  · rw [after_dxl]
    exact hb

theorem req_due :
    ∀ (s : State) (l : Nat), linkIsUp s.dev l = true → isDl s.dev l = true →
    s.dev.onN Reg.DXL_LINKn_CFG.TIME_EN l = true →
    (∀ a ∈ (s.dev.dlink l).reqTx, 1000000000 ≤ (s.time.loc - a) * 2 ^ s.dev.getN Reg.DXL_LINKn_TIME.RATE l) →
    ∃ t, exec (.timeReqSend l) s = .next t ∧ (t.dev.dlink l).reqTx = some s.time.loc ∧
      fmLook (t.dev.dlink l).reqs (nextSeq tyTime s.dev).1 = some s.time.qns ∧
      tget t.dev.dxl.seqs tyTime = (nextSeq tyTime s.dev).1 := by
  intro s l hu hd he hq
  refine ⟨_, by rw [exec_timeReqSend, timeReqSend_due hu hd he hq], ?_, ?_, ?_⟩
  · rw [Dev.dlink, after_dxl, ← Dev.dlink, reqSent_tx]
  · rw [Dev.dlink, after_dxl, ← Dev.dlink, reqSent_reqs]
  · rw [after_dxl, reqSent_seqs]

/-! ## A RESP (R548) -/

section
variable {b : List Byte} {t1 : Nat}

/-- A link whose REQ has been answered: the exchange waits for T3. -/
def respTaken (l q t1 : Nat) (b : List Byte) (d : Dev) : Dev :=
  (d.modLink l fun x => { x with gm := some (leAt (dxBody b) 2 2, byteAt (dxBody b) 1) }).modLink l fun y => { y with
    reqs := fmErase y.reqs (leAt (dxBody b) 12 4)
    exchs := y.exchs ++ [⟨leAt (dxBody b) 12 4, t1, qAt (dxBody b) 16 9, q⟩] }

theorem timeTake_first (he : (d.dlink l).exchs = []) (hq : fmLook (d.dlink l).reqs (leAt (dxBody b) 12 4) = some t1) :
    timeTake t l q b d = respTaken l q t1 b d := by
  unfold timeTake
  dsimp only
  rw [he, hq]
  rfl

theorem respTaken_link (l q t1 : Nat) (b : List Byte) (d : Dev) : (respTaken l q t1 b d).dlink l = { d.dlink l with
    gm := some (leAt (dxBody b) 2 2, byteAt (dxBody b) 1)
    reqs := fmErase (d.dlink l).reqs (leAt (dxBody b) 12 4)
    exchs := (d.dlink l).exchs ++ [⟨leAt (dxBody b) 12 4, t1, qAt (dxBody b) 16 9, q⟩] } := by
  rw [respTaken, dlink_modLink, dlink_modLink]
end

theorem resp_taken :
    ∀ (s : State) (l b t1 : Nat) (f : DxFrame), linkIsUp s.dev l = true → isDl s.dev l = true →
    s.dev.onN Reg.DXL_LINKn_CFG.TIME_EN l = true → s.dev.onN Reg.DXL_LINKn_CFG.AUTH l = false → f.fcsOk = true →
    dxMalformed f.bytes = false → dxType f.bytes = tyTime → byteAt (dxBody f.bytes) 0 ≠ 0 →
    dxOrigin f.bytes ≠ selfNode s.dev → tget s.dev.dxl.boots (dxOrigin f.bytes) = some b →
    sdiff (2 ^ 16) (dxBoot f.bytes) b = 0 → (s.dev.dlink l).exchs = [] →
    fmLook (s.dev.dlink l).reqs (leAt (dxBody f.bytes) 12 4) = some t1 →
    ∃ t, exec (.daxideFrameReceive l f) s = .next t ∧ (t.dev.dlink l).exchs =
        [⟨leAt (dxBody f.bytes) 12 4, t1, qAt (dxBody f.bytes) 16 9, s.time.qns + f.q % 16⟩] ∧
      (t.dev.dlink l).gm = some (leAt (dxBody f.bytes) 2 2, byteAt (dxBody f.bytes) 1) ∧ t.dev.tkp = s.dev.tkp := by
  intro s l b t1 f hu hd he ha hf hm hy hb hn hk hz hx hq
  have hs := linkIsUp_state hu
  have hrun : exec (.daxideFrameReceive l f) s = .next (s.after (respTaken l (s.time.qns + f.q % 16) t1 f.bytes
      (s.dev.sat Reg.DXL_LINKn_RXF.N l))) := by
    rw [exec_daxideFrame_on f (linkIsUp_on hu), dxReceive_unsigned hf (by rw [hs]; decide) hm (.inr (.inr hy)) ha,
      dxOriginCheck_known (d := s.dev.sat Reg.DXL_LINKn_RXF.N l) (.inl (by rwa [selfNode_rxf])) hk hz,
      dxByType_time (by rw [linkState_rxf, hs]) hy, if_neg, if_neg hb,
      timeTake_first (d := s.dev.sat Reg.DXL_LINKn_RXF.N l) hx hq]
    have h1 : isDl (s.dev.sat Reg.DXL_LINKn_RXF.N l) l = true := by
      rw [isDl, getN_rxf (g := Reg.DXL_LINKn_CFG.MODE) s.dev l rfl (by decide)]
      exact hd
    rw [h1, onN_rxf (g := Reg.DXL_LINKn_CFG.TIME_EN) s.dev l rfl (by decide), he]
    simp
  refine ⟨_, hrun, ?_, ?_, ?_⟩
  · rw [Dev.dlink, after_dxl, ← Dev.dlink, respTaken_link]
    show (s.dev.dlink l).exchs ++ _ = _
    rw [hx, List.nil_append]
  · rw [Dev.dlink, after_dxl, ← Dev.dlink, respTaken_link]
  · rw [after_tkp]
    rfl

/-- Settles O53: RELAY.EN, the frames held, sent again and dropped, and the exchange of time over a link. -/
theorem fabricTraffic : Obligations.FabricTraffic :=
  ⟨⟨relay_on, relay_enables, mgmt_idle, mgmt_holds, mgmt_waits, single_expires, held_expires, retransmit_idle, retransmit_found,
    single_retransmits⟩, req_idle, req_plain, req_due, resp_taken⟩

end Sys2Proof.Machine

/-!
PROOFS. O54: Xaorn takes a mailbox command (R21, R626, R629), the key commands are taken one at a time (R565), and INFO and ATTEST reply
(R565, R569).
-/

namespace Sys2Proof.Machine

open Sys2Proof

variable {s : State} {d : Dev} {t : Time} {n service cmd : Nat} {h : Taken} {f : Taken → Dev → Dev}

theorem exec_keyInfo (n : Nat) (s : State) : exec (.keyInfo n) s = .next (s.after (keyInfo s.time n s.dev)) := rfl
theorem exec_keyAttest (n : Nat) (nonce : List Byte) (s : State) :
    exec (.keyAttest n nonce) s = .next (s.after (keyAttest s.time n nonce s.dev)) := rfl
theorem exec_keyImport (n : Nat) (b : KeyBody) (s : State) :
    exec (.keyImport n b) s = .next (s.after (keyImport s.time n b s.dev)) := rfl
theorem exec_keyDerive (n : Nat) (b : KeyBody) (s : State) :
    exec (.keyDerive n b) s = .next (s.after (keyDerive s.time n b s.dev)) := rfl
theorem exec_keyUnwrap (n : Nat) (b : KeyBody) (s : State) :
    exec (.keyUnwrap n b) s = .next (s.after (keyUnwrap s.time n b s.dev)) := rfl

/-! ## Xaorn takes a mailbox command -/

theorem mbox_waits (hh : startable d n clsMbox 0x10 = none) : mbox t n service cmd f d = d := by
  unfold mbox
  rw [hh]

theorem mbox_other (hh : startable d n clsMbox 0x10 = some h) (hc : kService h.words ≠ service ∨ kCmd h.words ≠ cmd) :
    mbox t n service cmd f d = d := by
  unfold mbox
  rw [hh]
  exact if_neg (by tauto)

/-- The head of the ring asks for the command. -/
theorem mbox_asked (hh : startable d n clsMbox 0x10 = some h) (hs : kService h.words = service) (hc : kCmd h.words = cmd) :
    mbox t n service cmd f d =
      if d.on Reg.GLB_STATUS.XFAIL || d.inReset islMgt then completeHead t n h (mboxStatus d) 0 [] d
      else if !xaornUp d then d
      else f h d := by
  unfold mbox
  rw [hh]
  exact if_pos ⟨hs, hc⟩

theorem inReset_of_up {i : Nat} (hi : i ≠ 63) (hu : d.up i = true) : d.inReset i = false := by
  rw [Dev.up, if_neg hi] at hu
  rw [Dev.inReset, of_decide_eq_true hu]
  rfl

theorem mbox_ready (hr : mboxReady d n service cmd h) : mbox t n service cmd f d = f h d := by
  obtain ⟨hh, hs, hc, hx, hu⟩ := hr
  have hup : d.up islMgt = true := (Bool.and_eq_true_iff.mp hu).2
  rw [mbox_asked hh hs hc, hx, inReset_of_up (by decide) hup, hu]
  rfl

/-- A command of a service of Xaorn's mailbox. -/
def Serves (c : Instr) (n service cmd : Nat) : Prop :=
  ∀ s, ∃ f, exec c s = .next (s.after (mbox s.time n service cmd f s.dev))

/-- A command of the key service. -/
def ServesKeys (c : Instr) (n cmd : Nat) : Prop :=
  ∀ s, ∃ f, exec c s = .next (s.after (keyCmd s.time n cmd f s.dev))

theorem ServesKeys.serves {c : Instr} (h : ServesKeys c n cmd) : Serves c n 1 cmd := fun s => by
  obtain ⟨f, hf⟩ := h s
  exact ⟨_, hf⟩

section
variable (n : Nat) (b : KeyBody) (bs : List Byte) (g : Bool) (k : Nat)

theorem keyInfo_serves : ServesKeys (.keyInfo n) n 1 := fun _ => ⟨_, rfl⟩
theorem keyImport_serves : ServesKeys (.keyImport n b) n 2 := fun _ => ⟨_, rfl⟩
theorem keyDerive_serves : ServesKeys (.keyDerive n b) n 3 := fun _ => ⟨_, rfl⟩
theorem keyUnwrap_serves : ServesKeys (.keyUnwrap n b) n 4 := fun _ => ⟨_, rfl⟩
theorem keyCommit_serves : ServesKeys (.keyCommit n g) n 5 := fun _ => ⟨_, rfl⟩
theorem keyErase_serves : ServesKeys (.keyErase n) n 6 := fun _ => ⟨_, rfl⟩
theorem keyAttest_serves : ServesKeys (.keyAttest n bs) n 7 := fun _ => ⟨_, rfl⟩
theorem fwStatus_serves : Serves (.fwStatus n) n 2 1 := fun _ => ⟨_, rfl⟩
theorem fwWrite_serves : Serves (.fwWrite n k bs) n 2 2 := fun _ => ⟨_, rfl⟩
theorem fwCheck_serves : Serves (.fwCheck n k) n 2 3 := fun _ => ⟨_, rfl⟩
theorem fwActivate_serves : Serves (.fwActivate n) n 2 4 := fun _ => ⟨_, rfl⟩
theorem fwSettings_serves : Serves (.fwSettings n bs) n 2 5 := fun _ => ⟨_, rfl⟩

/-- The key commands with their numbers. -/
def keyServiceCommands : List (Instr × Nat) :=
  [(.keyInfo n, 1), (.keyImport n b, 2), (.keyDerive n b, 3), (.keyUnwrap n b, 4), (.keyCommit n g, 5), (.keyErase n, 6),
    (.keyAttest n bs, 7)]

/-- The commands of the mailbox services with their services and numbers. -/
def mailboxCommands : List (Instr × Nat × Nat) :=
  [(.keyInfo n, 1, 1), (.keyImport n b, 1, 2), (.keyDerive n b, 1, 3), (.keyUnwrap n b, 1, 4), (.keyCommit n g, 1, 5),
    (.keyErase n, 1, 6), (.keyAttest n bs, 1, 7), (.fwStatus n, 2, 1), (.fwWrite n k bs, 2, 2), (.fwCheck n k, 2, 3),
    (.fwActivate n, 2, 4), (.fwSettings n bs, 2, 5)]

theorem keyServiceCommands_serve {x : Instr × Nat} (hx : x ∈ keyServiceCommands n b bs g) : ServesKeys x.1 n x.2 := by
  have hall : List.Forall (fun x : Instr × Nat => ServesKeys x.1 n x.2) (keyServiceCommands n b bs g) :=
    ⟨keyInfo_serves n, keyImport_serves n b, keyDerive_serves n b, keyUnwrap_serves n b, keyCommit_serves n g, keyErase_serves n,
      keyAttest_serves n bs⟩
  exact List.forall_iff_forall_mem.mp hall x hx

theorem mailboxCommands_serve {x : Instr × Nat × Nat} (hx : x ∈ mailboxCommands n b bs g k) : Serves x.1 n x.2.1 x.2.2 := by
  have hall : List.Forall (fun x : Instr × Nat × Nat => Serves x.1 n x.2.1 x.2.2) (mailboxCommands n b bs g k) :=
    ⟨(keyInfo_serves n).serves, (keyImport_serves n b).serves, (keyDerive_serves n b).serves, (keyUnwrap_serves n b).serves,
      (keyCommit_serves n g).serves, (keyErase_serves n).serves, (keyAttest_serves n bs).serves, fwStatus_serves n,
      fwWrite_serves n bs k, fwCheck_serves n k, fwActivate_serves n, fwSettings_serves n bs⟩
  exact List.forall_iff_forall_mem.mp hall x hx
end

theorem mailbox_waits :
    ∀ (s : State) (n : Nat) (b : KeyBody) (bs : List Byte) (g : Bool) (k : Nat), startable s.dev n clsMbox 0x10 = none →
    ∀ c ∈ [Instr.keyInfo n, .keyImport n b, .keyDerive n b, .keyUnwrap n b, .keyCommit n g, .keyErase n, .keyAttest n bs,
      .fwStatus n, .fwWrite n k bs, .fwCheck n k, .fwActivate n, .fwSettings n bs], exec c s = .next (s.after s.dev) := by
  intro s n b bs g k hh c hc
  have hm : c ∈ (mailboxCommands n b bs g k).map Prod.fst := hc
  obtain ⟨x, hx, rfl⟩ := List.mem_map.mp hm
  obtain ⟨f, hf⟩ := mailboxCommands_serve n b bs g k hx s
  rw [hf, mbox_waits hh]

theorem mailbox_asked :
    ∀ (s : State) (n : Nat) (b : KeyBody) (bs : List Byte) (g : Bool) (k : Nat) (h : Taken),
    startable s.dev n clsMbox 0x10 = some h →
    ∀ x ∈ [(Instr.keyInfo n, 1, 1), (.keyImport n b, 1, 2), (.keyDerive n b, 1, 3), (.keyUnwrap n b, 1, 4),
      (.keyCommit n g, 1, 5), (.keyErase n, 1, 6), (.keyAttest n bs, 1, 7), (.fwStatus n, 2, 1), (.fwWrite n k bs, 2, 2),
      (.fwCheck n k, 2, 3), (.fwActivate n, 2, 4), (.fwSettings n bs, 2, 5)],
    (kService h.words ≠ x.2.1 ∨ kCmd h.words ≠ x.2.2 → exec x.1 s = .next (s.after s.dev)) ∧
    (kService h.words = x.2.1 → kCmd h.words = x.2.2 →
      (s.dev.on Reg.GLB_STATUS.XFAIL = true →
        exec x.1 s = .next (s.after (completeHead s.time n h stNotVerified 0 [] s.dev))) ∧
      (s.dev.on Reg.GLB_STATUS.XFAIL = false → s.dev.inReset islMgt = true →
        exec x.1 s = .next (s.after (completeHead s.time n h stAborted 0 [] s.dev))) ∧
      (s.dev.on Reg.GLB_STATUS.XFAIL = false → s.dev.inReset islMgt = false → xaornUp s.dev = false →
        exec x.1 s = .next (s.after s.dev))) := by
  intro s n b bs g k h hh x hx
  obtain ⟨f, hf⟩ := mailboxCommands_serve n b bs g k hx s
  refine ⟨fun hc => ?_, fun hs hc => ⟨fun hxf => ?_, fun hxf hr => ?_, fun hxf hr hu => ?_⟩⟩
  · rw [hf, mbox_other hh hc]
  · have hst : mboxStatus s.dev = stNotVerified := if_pos hxf
    rw [hf, mbox_asked hh hs hc, hxf, hst]
    rfl
  · have hst : mboxStatus s.dev = stAborted := by simp [mboxStatus, hxf, hr]
    rw [hf, mbox_asked hh hs hc, hxf, hr, hst]
    rfl
  · rw [hf, mbox_asked hh hs hc, hxf, hr, hu]
    rfl

/-! ## A key command -/

/-- A key command that Xaorn takes. -/
theorem keyCmd_taken (hr : mboxReady d n 1 cmd h) : keyCmd t n cmd f d =
    if d.keys.cmd.isSome then d
    else if !d.on Reg.KEY_STATUS.FUSE_OK then keyEnd t n h stNotVerified 0 d
    else if 64 ≤ kSlot h.words then keyEnd t n h stRejected 0 d
    else f h d := mbox_ready hr

theorem keyCmd_ready (hr : keyReady d n cmd h) : keyCmd t n cmd f d = f h d := by
  obtain ⟨hm, hc, hf, hs⟩ := hr
  rw [keyCmd_taken hm, hc, hf, if_neg (by simp), if_neg (by simp), if_neg (by omega)]

theorem key_taken :
    ∀ (s : State) (n : Nat) (b : KeyBody) (bs : List Byte) (g : Bool) (h : Taken),
    ∀ x ∈ [(Instr.keyInfo n, 1), (.keyImport n b, 2), (.keyDerive n b, 3), (.keyUnwrap n b, 4), (.keyCommit n g, 5),
      (.keyErase n, 6), (.keyAttest n bs, 7)], mboxReady s.dev n 1 x.2 h →
    (s.dev.keys.cmd.isSome = true → exec x.1 s = .next (s.after s.dev)) ∧
    (s.dev.keys.cmd = none → s.dev.on Reg.KEY_STATUS.FUSE_OK = false →
      exec x.1 s = .next (s.after (completeHead s.time n h stNotVerified 0 (keyExt 0 (kSlot h.words) 0) s.dev))) ∧
    (s.dev.keys.cmd = none → s.dev.on Reg.KEY_STATUS.FUSE_OK = true → 64 ≤ kSlot h.words →
      exec x.1 s = .next (s.after (completeHead s.time n h stRejected 0 (keyExt 0 (kSlot h.words) 0) s.dev))) := by
  intro s n b bs g h x hx hr
  obtain ⟨f, hf⟩ := keyServiceCommands_serve n b bs g hx s
  refine ⟨fun hc => ?_, fun hc hfu => ?_, fun hc hfu hs => ?_⟩
  · rw [hf, keyCmd_taken hr, if_pos hc]
  · rw [hf, keyCmd_taken hr, hc, hfu]
    rfl
  · rw [hf, keyCmd_taken hr, hc, hfu, if_neg (by simp), if_neg (by simp), if_pos hs]
    rfl

section
variable {b : KeyBody} {bs : List Byte}

theorem keyImport_empty (hl : dLen h.words = 0) (hr : keyReady d n 2 h) :
    keyImport t n b d = keyEnd t n h stSkipped 0 d := (keyCmd_ready hr).trans (if_pos hl)

theorem keyDerive_empty (hl : dLen h.words = 0) (hr : keyReady d n 3 h) :
    keyDerive t n b d = keyEnd t n h stSkipped 0 d := (keyCmd_ready hr).trans (if_pos hl)

theorem keyUnwrap_empty (hl : dLen h.words = 0) (hr : keyReady d n 4 h) :
    keyUnwrap t n b d = keyEnd t n h stSkipped 0 d := (keyCmd_ready hr).trans (if_pos hl)

theorem keyAttest_empty (hl : dLen h.words = 0) (hr : keyReady d n 7 h) :
    keyAttest t n bs d = keyEnd t n h stSkipped 0 d := (keyCmd_ready hr).trans (if_pos hl)
end

theorem key_empty :
    ∀ (s : State) (n : Nat) (b : KeyBody) (bs : List Byte) (h : Taken), dLen h.words = 0 →
    ∀ x ∈ [(Instr.keyImport n b, 2), (.keyDerive n b, 3), (.keyUnwrap n b, 4), (.keyAttest n bs, 7)],
      keyReady s.dev n x.2 h →
      exec x.1 s = .next (s.after (completeHead s.time n h stSkipped 0 (keyExt 0 (kSlot h.words) 0) s.dev)) := by
  intro s n b bs h hl
  refine List.forall_mem_cons.mpr ⟨fun hr => ?_, List.forall_mem_cons.mpr ⟨fun hr => ?_, List.forall_mem_cons.mpr
    ⟨fun hr => ?_, List.forall_mem_singleton.mpr fun hr => ?_⟩⟩⟩
  · rw [exec_keyImport, keyImport_empty hl hr, keyEnd]
  · rw [exec_keyDerive, keyDerive_empty hl hr, keyEnd]
  · rw [exec_keyUnwrap, keyUnwrap_empty hl hr, keyEnd]
  · rw [exec_keyAttest, keyAttest_empty hl hr, keyEnd]

/-! ## A reply -/

section
variable {bytes : List Byte} {slot gen : Nat}

theorem mboxReply_small (hb : kRlen h.words < bytes.length) :
    mboxReply t n h bytes slot gen d = completeHead t n h stNoSpace 0 (keyExt bytes.length slot gen) d := if_pos hb

/-- The reply is on its way to the host. -/
def replied (h : Taken) (bytes : List Byte) (d : Dev) : Dev :=
  hostWrite (.data (kRaddr h.words) bytes (d.on Reg.HIF_CTRL.RO_EN)) d

theorem mboxReply_fits (hb : bytes.length ≤ kRlen h.words) : mboxReply t n h bytes slot gen d =
    completeHead t n h stOk bytes.length (keyExt bytes.length slot gen) (replied h bytes d) := if_neg (by omega)

theorem completeHead_sent (st len : Nat) (ext : List Byte) :
    (completeHead t n h st len ext d).hif.sent = d.hif.sent := rfl

theorem completeHead_keys (st len : Nat) (ext : List Byte) : (completeHead t n h st len ext d).keys = d.keys := rfl

theorem replied_sent : (replied h bytes d).hif.sent =
    d.hif.sent ++ [.data (kRaddr h.words) bytes (d.on Reg.HIF_CTRL.RO_EN)] := rfl

theorem replied_ring (m : Nat) : (replied h bytes d).ring m = d.ring m := rfl
end

theorem keyInfo_ready (hr : keyReady d n 1 h) : keyInfo t n d =
    mboxReply t n h (slotEntry (kSlot h.words) d) (kSlot h.words) (slotGen (kSlot h.words) d) d := keyCmd_ready hr

theorem keyAttest_ready {bs : List Byte} (hr : keyReady d n 7 h) (hl : dLen h.words ≠ 0) : keyAttest t n bs d =
    mboxReply t n h (attestation t bs d) (kSlot h.words) (slotGen (kSlot h.words) d) d :=
  (keyCmd_ready hr).trans (if_neg hl)

theorem slotEntry_length (k : Nat) (d : Dev) : (slotEntry k d).length = 32 := by
  simp [slotEntry, List.length_flatMap]

/-- The statement of Table KEY-6, its signature and the certificate. -/
theorem attestation_bytes (t : Time) (nonce : List Byte) (d : Dev) :
    (attestation t nonce d).length = 728 + 64 + 2 + Config.certLen % 2 ^ 16 := by
  have hs : ((List.range 64).flatMap (attestSlot d)).length = 512 := by simp [List.length_flatMap, attestSlot]
  have hb : (attestBody t nonce d).length = 728 := by
    rw [attestBody, List.length_append, hs]
    simp [slice_length]
  rw [attestation]
  simp only [List.length_append, hb, be_length, le_length, List.length_map, List.length_range]

theorem replies :
    ∀ (s : State) (n : Nat) (nonce : List Byte) (h : Taken),
    (keyReady s.dev n 1 h →
      (kRlen h.words < 32 → exec (.keyInfo n) s = .next (s.after (completeHead s.time n h stNoSpace 0
        (keyExt 32 (kSlot h.words) (slotGen (kSlot h.words) s.dev)) s.dev))) ∧
      (32 ≤ kRlen h.words → ∃ t, exec (.keyInfo n) s = .next t ∧ t.dev.keys = s.dev.keys ∧
        t.dev.hif.sent = s.dev.hif.sent ++
          [.data (kRaddr h.words) (slotEntry (kSlot h.words) s.dev) (s.dev.on Reg.HIF_CTRL.RO_EN)] ∧
        (t.dev.ring n).owed = (s.dev.ring n).owed ++ [owedOf clsMbox h.idx h.words stOk 32
          (keyExt 32 (kSlot h.words) (slotGen (kSlot h.words) s.dev))])) ∧
    (keyReady s.dev n 7 h → dLen h.words ≠ 0 →
      (kRlen h.words < (attestation s.time nonce s.dev).length →
        exec (.keyAttest n nonce) s = .next (s.after (completeHead s.time n h stNoSpace 0
          (keyExt (attestation s.time nonce s.dev).length (kSlot h.words) (slotGen (kSlot h.words) s.dev)) s.dev))) ∧
      ((attestation s.time nonce s.dev).length ≤ kRlen h.words → ∃ t, exec (.keyAttest n nonce) s = .next t ∧
        t.dev.keys = s.dev.keys ∧ t.dev.hif.sent = s.dev.hif.sent ++
          [.data (kRaddr h.words) (attestation s.time nonce s.dev) (s.dev.on Reg.HIF_CTRL.RO_EN)])) ∧
    (attestation s.time nonce s.dev).length = 728 + 64 + 2 + Config.certLen % 2 ^ 16 := by
  intro s n nonce h
  refine ⟨fun hr => ⟨fun hl => ?_, fun hl => ?_⟩, fun hr hl => ⟨fun hb => ?_, fun hb => ?_⟩, ?_⟩
  · rw [exec_keyInfo, keyInfo_ready hr, mboxReply_small (by rwa [slotEntry_length]), slotEntry_length]
  · refine ⟨_, by rw [exec_keyInfo, keyInfo_ready hr, mboxReply_fits (by rwa [slotEntry_length])], ?_, ?_, ?_⟩
    · rw [after_keys, completeHead_keys]
      rfl
    · rw [after_sent, completeHead_sent, replied_sent]
    · rw [after_ring, completeHead_ring, replied_ring, slotEntry_length, (startable_ring hr.1.1).2]
  · rw [exec_keyAttest, keyAttest_ready hr hl, mboxReply_small hb]
  · refine ⟨_, by rw [exec_keyAttest, keyAttest_ready hr hl, mboxReply_fits hb], ?_, ?_⟩
    · rw [after_keys, completeHead_keys]
      rfl
    · rw [after_sent, completeHead_sent, replied_sent]
  · exact attestation_bytes s.time nonce s.dev

/-- Settles O54: a mailbox command by its head and by what Xaorn takes, a key command by what is in hand, and the replies. -/
theorem keyCommands : Obligations.KeyCommands :=
  ⟨⟨mailbox_waits, mailbox_asked, key_taken, key_empty⟩, replies⟩

end Sys2Proof.Machine

/-!
PROOFS. O55: new keys arrive by IMPORT, DERIVE and UNWRAP (R559 to R562), their flash copies end (R566), and COMMIT and ERASE (R563, R564,
R568).
-/

namespace Sys2Proof.Machine

open Sys2Proof

variable {s : State} {d : Dev} {t : Time} {n i : Nat} {h : Taken} {b : KeyBody} {k p : KeyRec}

theorem exec_keyCommit (n : Nat) (good : Bool) (s : State) :
    exec (.keyCommit n good) s = .next (s.after (keyCommit s.time n good s.dev)) := rfl
theorem exec_keyErase (n : Nat) (s : State) : exec (.keyErase n) s = .next (s.after (keyErase s.time n s.dev)) := rfl
theorem exec_keyCopyWritten (good : Bool) (s : State) :
    exec (.keyCopyWritten good) s = .next (s.after (keyCopyWritten good s.dev)) := rfl

/-! ## IMPORT, DERIVE and UNWRAP -/

theorem import_judged :
    ∀ (s : State) (n : Nat) (b : KeyBody) (h : Taken), keyReady s.dev n 2 h → dLen h.words ≠ 0 →
    (keyBodyRefused (kSlot h.words) b s.dev = true →
      exec (.keyImport n b) s = .next (s.after (keyEnd s.time n h stRejected 0 s.dev))) ∧
    (keyBodyRefused (kSlot h.words) b s.dev = false →
      (b.wrapKey = none ∨ b.wrapSlot ≠ kSlot h.words ∨ b.wrapGen ≠ newGen (kSlot h.words) s.dev →
        exec (.keyImport n b) s = .next (s.after (keyEnd s.time n h stAuthFail 0 s.dev))) ∧
      (b.wrapKey ≠ none → b.wrapSlot = kSlot h.words → b.wrapGen = newGen (kSlot h.words) s.dev →
        exec (.keyImport n b) s = .next (s.after (keyArrive s.time n h b
          (keyNew b b.material 0 0 (newGen (kSlot h.words) s.dev)) s.dev)))) := by
  intro s n b h hr hl
  have hx : keyImport s.time n b s.dev = if keyBodyRefused (kSlot h.words) b s.dev then keyEnd s.time n h stRejected 0 s.dev
      else if b.wrapKey.isNone ∨ b.wrapSlot ≠ kSlot h.words ∨ b.wrapGen ≠ newGen (kSlot h.words) s.dev then
        keyEnd s.time n h stAuthFail 0 s.dev
      else keyArrive s.time n h b (keyNew b b.material 0 0 (newGen (kSlot h.words) s.dev)) s.dev :=
    (keyCmd_ready hr).trans (if_neg hl)
  rw [exec_keyImport, hx]
  refine ⟨fun hb => by rw [if_pos hb], fun hb => ⟨fun hw => ?_, fun hk hs hg => ?_⟩⟩
  · rw [if_neg (by simp [hb]), if_pos (hw.imp_left Option.isNone_iff_eq_none.mpr)]
  · rw [if_neg (by simp [hb]), if_neg]
    rintro (hw | hw | hw)
    · exact hk (Option.isNone_iff_eq_none.mp hw)
    · exact hw hs
    · exact hw hg

theorem derive_judged :
    ∀ (s : State) (n : Nat) (b : KeyBody) (h : Taken) (p : KeyRec), keyReady s.dev n 3 h → dLen h.words ≠ 0 →
    (parentOf (kParent h.words) 6 s.dev = none →
      exec (.keyDerive n b) s = .next (s.after (keyEnd s.time n h stRejected 0 s.dev))) ∧
    (parentOf (kParent h.words) 6 s.dev = some p → keyBodyRefused (kSlot h.words) b s.dev = true ∨ 1 < b.kdf ∨
        64 < b.label.length ∨ 64 < b.context.length →
      exec (.keyDerive n b) s = .next (s.after (keyEnd s.time n h stRejected 0 s.dev))) ∧
    (parentOf (kParent h.words) 6 s.dev = some p → keyBodyRefused (kSlot h.words) b s.dev = false → b.kdf ≤ 1 →
      b.label.length ≤ 64 → b.context.length ≤ 64 →
      exec (.keyDerive n b) s = .next (s.after (keyArrive s.time n h b
        (keyNew b (Config.derive p.material b.kdf b.label b.context) (p.depth + 1) (kParent h.words)
          (newGen (kSlot h.words) s.dev)) s.dev))) := by
  intro s n b h p hr hl
  rw [exec_keyDerive, keyDerive, keyCmd_ready hr]
  dsimp only
  rw [if_neg hl]
  refine ⟨fun hp => by rw [hp], fun hp hb => ?_, fun hp hb hk hL hc => ?_⟩
  · rw [hp]
    exact congrArg (fun d => Host.Outcome.next (s.after d)) (if_pos hb)
  · rw [hp]
    exact congrArg (fun d => Host.Outcome.next (s.after d)) (if_neg (by simp [hb, hk, hL, hc]))

theorem unwrap_judged :
    ∀ (s : State) (n : Nat) (b : KeyBody) (h : Taken) (p : KeyRec), keyReady s.dev n 4 h → dLen h.words ≠ 0 →
    (parentOf (kParent h.words) 5 s.dev = none →
      exec (.keyUnwrap n b) s = .next (s.after (keyEnd s.time n h stRejected 0 s.dev))) ∧
    (parentOf (kParent h.words) 5 s.dev = some p → keyBodyRefused (kSlot h.words) b s.dev = true →
      exec (.keyUnwrap n b) s = .next (s.after (keyEnd s.time n h stRejected 0 s.dev))) ∧
    (parentOf (kParent h.words) 5 s.dev = some p → keyBodyRefused (kSlot h.words) b s.dev = false →
      (b.wrapKey ≠ some p.material →
        exec (.keyUnwrap n b) s = .next (s.after (keyEnd s.time n h stAuthFail 0 s.dev))) ∧
      (b.wrapKey = some p.material → exec (.keyUnwrap n b) s = .next (s.after (keyArrive s.time n h b
        (keyNew b b.material (p.depth + 1) (kParent h.words) (newGen (kSlot h.words) s.dev)) s.dev)))) := by
  intro s n b h p hr hl
  rw [exec_keyUnwrap, keyUnwrap, keyCmd_ready hr]
  dsimp only
  rw [if_neg hl]
  refine ⟨fun hp => by rw [hp], fun hp hb => ?_, fun hp hb => ⟨fun hw => ?_, fun hw => ?_⟩⟩
  · rw [hp]
    exact congrArg (fun d => Host.Outcome.next (s.after d)) (if_pos hb)
  · rw [hp]
    dsimp only
    rw [if_neg (by simp [hb]), if_pos hw]
  · rw [hp]
    dsimp only
    rw [if_neg (by simp [hb]), if_neg (not_not.mpr hw)]

/-! ## The status entry of a slot (Table KEY-1) -/

/-- Two words of a slot's entry are two words. -/
theorem kslot_ne {r q : RegAt} {a c : Nat} (hr : r = ⟨a, 0x20, 64, 1, 0⟩) (hq : q = ⟨c, 0x20, 64, 1, 0⟩) (hac : a ≠ c) (i : Nat) :
    r.addr i ≠ q.addr i := by
  rw [RegAt.addr_single hr, RegAt.addr_single hq]
  omega

/-- PERSIST, LEN, DEPTH and PARENT show the active key, else the pending one. -/
def shownKey (i : Nat) (r : Option KeyRec) (d : Dev) : Dev :=
  match r with
  | none => (((d.setN Reg.T_KSLOT.PERSIST i 0).setN Reg.T_KSLOT.LEN i 0).setN Reg.T_KSLOT.DEPTH i 0).setN Reg.T_KSLOT.PARENT i 0
  | some r => (((d.setB Reg.T_KSLOT.PERSIST i r.persist).setB Reg.T_KSLOT.LEN i r.long).setN Reg.T_KSLOT.DEPTH i
      r.depth).setN Reg.T_KSLOT.PARENT i r.parent

/-- USAGE, KEYID and GEN show the active key. -/
def shownActive (i : Nat) (r : Option KeyRec) (d : Dev) : Dev :=
  match r with
  | none => ((d.setN Reg.T_KSLOT.USAGE i 0).setN Reg.T_KSLOT.KEYID i 0).setN Reg.T_KSLOT.GEN i 0
  | some r => ((d.setN Reg.T_KSLOT.USAGE i r.usage).setN Reg.T_KSLOT.KEYID i r.keyId).setN Reg.T_KSLOT.GEN i r.gen

/-- P_VERIFIED, PUSAGE and PGEN show the pending key. -/
def shownPending (i : Nat) (r : Option (KeyRec × Bool)) (d : Dev) : Dev :=
  match r with
  | none => ((d.setN Reg.T_KSLOT.P_VERIFIED i 0).setN Reg.T_KSLOT.PUSAGE i 0).setN Reg.T_KSLOT.PGEN i 0
  | some (r, v) => ((d.setB Reg.T_KSLOT.P_VERIFIED i v).setN Reg.T_KSLOT.PUSAGE i r.usage).setN Reg.T_KSLOT.PGEN i r.gen

/-- KEY_STATUS counts the slots. -/
def shownCounts (d : Dev) : Dev :=
  (d.set Reg.KEY_STATUS.ACTIVE (slotCount (fun k => k.active.isSome) d)).set Reg.KEY_STATUS.PENDING
    (slotCount (fun k => k.pending.isSome) d)

theorem keyShow_stages (i : Nat) (d : Dev) : keyShow i d =
    shownCounts (shownPending i (d.keySlot i).pending (shownActive i (d.keySlot i).active (shownKey i
      ((d.keySlot i).active.orElse fun _ => (d.keySlot i).pending.map Prod.fst)
      (d.setN Reg.T_KSLOT.STATE i (slotState (d.keySlot i)))))) := rfl

theorem shownCounts_apart {W : Nat → Prop} (hW : ¬ W 0x110000) (d : Dev) : Apart W d (shownCounts d) :=
  Apart.set (f := Reg.KEY_STATUS.PENDING) (Apart.set (f := Reg.KEY_STATUS.ACTIVE) (.refl _ d) hW) hW

theorem kslot_ne_status {r : RegAt} {a : Nat} (hr : r = ⟨a, 0x20, 64, 1, 0⟩) (ha : 0x3B0000 ≤ a) (i : Nat) :
    (0x110000 : Nat) ≠ r.addr i := by
  rw [RegAt.addr_single hr]
  omega

theorem shownActive_apart (i : Nat) (r : Option KeyRec) (d : Dev) :
    Apart (fun a => a = At.T_KSLOT_0.addr i ∨ a = At.T_KSLOT_5.addr i) d (shownActive i r d) := by
  have h1 : ¬ (At.T_KSLOT_1.addr i = At.T_KSLOT_0.addr i ∨ At.T_KSLOT_1.addr i = At.T_KSLOT_5.addr i) :=
    not_or.mpr ⟨kslot_ne rfl rfl (by decide) i, kslot_ne rfl rfl (by decide) i⟩
  have h2 : ¬ (At.T_KSLOT_2.addr i = At.T_KSLOT_0.addr i ∨ At.T_KSLOT_2.addr i = At.T_KSLOT_5.addr i) :=
    not_or.mpr ⟨kslot_ne rfl rfl (by decide) i, kslot_ne rfl rfl (by decide) i⟩
  have h3 : ¬ (At.T_KSLOT_3.addr i = At.T_KSLOT_0.addr i ∨ At.T_KSLOT_3.addr i = At.T_KSLOT_5.addr i) :=
    not_or.mpr ⟨kslot_ne rfl rfl (by decide) i, kslot_ne rfl rfl (by decide) i⟩
  cases r with
  | none => exact Apart.setN (f := Reg.T_KSLOT.GEN) (Apart.setN (f := Reg.T_KSLOT.KEYID)
      (Apart.setN (f := Reg.T_KSLOT.USAGE) (.refl _ d) h1) h2) h3
  | some r => exact Apart.setN (f := Reg.T_KSLOT.GEN) (Apart.setN (f := Reg.T_KSLOT.KEYID)
      (Apart.setN (f := Reg.T_KSLOT.USAGE) (.refl _ d) h1) h2) h3

theorem shownKey_state (i : Nat) (r : Option KeyRec) (d : Dev) :
    (shownKey i r d).getN Reg.T_KSLOT.STATE i = d.getN Reg.T_KSLOT.STATE i := by
  cases r with
  | none =>
    unfold shownKey
    iterate 4 rw [Dev.getN_setN_apart _ _ _ _ _ _ rfl rfl rfl]
  | some r =>
    unfold shownKey Dev.setB
    iterate 4 rw [Dev.getN_setN_apart _ _ _ _ _ _ rfl rfl rfl]

/-- The pending key's shows leave the entry's other fields of word 0. -/
theorem shownPending_state (i : Nat) (r : Option (KeyRec × Bool)) (d : Dev) :
    (shownPending i r d).getN Reg.T_KSLOT.STATE i = d.getN Reg.T_KSLOT.STATE i := by
  have h1 : At.T_KSLOT_0.addr i ≠ At.T_KSLOT_1.addr i := kslot_ne rfl rfl (by decide) i
  have h4 : At.T_KSLOT_0.addr i ≠ At.T_KSLOT_4.addr i := kslot_ne rfl rfl (by decide) i
  rcases r with - | ⟨r, v⟩
  · unfold shownPending
    rw [Dev.getN_setN_addr _ _ _ _ _ _ h4, Dev.getN_setN_addr _ _ _ _ _ _ h1, Dev.getN_setN_apart _ _ _ _ _ _ rfl rfl rfl]
  · unfold shownPending Dev.setB
    rw [Dev.getN_setN_addr _ _ _ _ _ _ h4, Dev.getN_setN_addr _ _ _ _ _ _ h1, Dev.getN_setN_apart _ _ _ _ _ _ rfl rfl rfl]

/-- P_VERIFIED of an entry whose pending key this is. -/
def pendingVerified : Option (KeyRec × Bool) → Bool
  | none => false
  | some (_, v) => v

theorem shownPending_verified (i : Nat) (r : Option (KeyRec × Bool)) (d : Dev) :
    (shownPending i r d).onN Reg.T_KSLOT.P_VERIFIED i = pendingVerified r := by
  have h1 : At.T_KSLOT_0.addr i ≠ At.T_KSLOT_1.addr i := kslot_ne rfl rfl (by decide) i
  have h4 : At.T_KSLOT_0.addr i ≠ At.T_KSLOT_4.addr i := kslot_ne rfl rfl (by decide) i
  rcases r with - | ⟨r, v⟩
  · unfold shownPending
    rw [Dev.onN_setN_addr _ _ _ _ _ _ h4, Dev.onN_setN_addr _ _ _ _ _ _ h1, Dev.onN_setN_same _ _ _ _ rfl]
    rfl
  · unfold shownPending Dev.setB
    rw [Dev.onN_setN_addr _ _ _ _ _ _ h4, Dev.onN_setN_addr _ _ _ _ _ _ h1, Dev.onN_setN_same _ _ _ _ rfl]
    cases v <;> rfl

theorem slotState_lt (k : KeySlot) : slotState k < 2 ^ Reg.T_KSLOT.STATE.width := by
  unfold slotState
  split <;> decide

theorem keyShow_state (i : Nat) (d : Dev) : (keyShow i d).getN Reg.T_KSLOT.STATE i = slotState (d.keySlot i) := by
  rw [keyShow_stages, (shownCounts_apart (W := (· = At.T_KSLOT_0.addr i)) (kslot_ne_status rfl (by decide) i) _).getN
    (f := Reg.T_KSLOT.STATE) rfl, shownPending_state, (shownActive_apart i _ _).getN (f := Reg.T_KSLOT.STATE) (.inl rfl),
    shownKey_state, Dev.getN_setN_same _ _ _ _ rfl, Nat.mod_eq_of_lt (slotState_lt _)]

theorem keyShow_verified (i : Nat) (d : Dev) :
    (keyShow i d).onN Reg.T_KSLOT.P_VERIFIED i = pendingVerified (d.keySlot i).pending := by
  rw [keyShow_stages, (shownCounts_apart (W := (· = At.T_KSLOT_0.addr i)) (kslot_ne_status rfl (by decide) i) _).onN
    (f := Reg.T_KSLOT.P_VERIFIED) rfl, shownPending_verified]

/-- The entry's count of uses is not shown anew. -/
theorem keyShow_uses (i : Nat) (d : Dev) : (keyShow i d).getN Reg.T_KSLOT.USES i = d.getN Reg.T_KSLOT.USES i := by
  have h0 : ¬ At.T_KSLOT_0.addr i = At.T_KSLOT_5.addr i := kslot_ne rfl rfl (by decide) i
  have h1 : ¬ At.T_KSLOT_1.addr i = At.T_KSLOT_5.addr i := kslot_ne rfl rfl (by decide) i
  have h4 : ¬ At.T_KSLOT_4.addr i = At.T_KSLOT_5.addr i := kslot_ne rfl rfl (by decide) i
  have hkey (r : Option KeyRec) (d : Dev) : Apart (· = At.T_KSLOT_5.addr i) d (shownKey i r d) := by
    cases r with
    | none => exact Apart.setN (f := Reg.T_KSLOT.PARENT) (Apart.setN (f := Reg.T_KSLOT.DEPTH) (Apart.setN (f := Reg.T_KSLOT.LEN)
        (Apart.setN (f := Reg.T_KSLOT.PERSIST) (.refl _ d) h0) h0) h0) h0
    | some r => exact Apart.setN (f := Reg.T_KSLOT.PARENT) (Apart.setN (f := Reg.T_KSLOT.DEPTH) (Apart.setN (f := Reg.T_KSLOT.LEN)
        (Apart.setN (f := Reg.T_KSLOT.PERSIST) (.refl _ d) h0) h0) h0) h0
  have hpend (r : Option (KeyRec × Bool)) (d : Dev) : Apart (· = At.T_KSLOT_5.addr i) d (shownPending i r d) := by
    rcases r with - | ⟨r, v⟩
    · exact Apart.setN (f := Reg.T_KSLOT.PGEN) (Apart.setN (f := Reg.T_KSLOT.PUSAGE)
        (Apart.setN (f := Reg.T_KSLOT.P_VERIFIED) (.refl _ d) h0) h1) h4
    · exact Apart.setN (f := Reg.T_KSLOT.PGEN) (Apart.setN (f := Reg.T_KSLOT.PUSAGE)
        (Apart.setN (f := Reg.T_KSLOT.P_VERIFIED) (.refl _ d) h0) h1) h4
  rw [keyShow_stages, (shownCounts_apart (W := (· = At.T_KSLOT_5.addr i)) (kslot_ne_status rfl (by decide) i) _).getN
    (f := Reg.T_KSLOT.USES) rfl, (hpend _ _).getN (f := Reg.T_KSLOT.USES) rfl,
    (shownActive_apart i _ _).getN (f := Reg.T_KSLOT.USES) (.inr rfl), (hkey _ _).getN (f := Reg.T_KSLOT.USES) rfl]
  exact Dev.getN_setN_addr _ _ _ _ _ _ (Ne.symm h0)

/-! ## The contents of a slot -/

theorem keyShow_keys (i : Nat) (d : Dev) : (keyShow i d).keys = d.keys :=
  (@Tame.keyShow [] d d i (.refl _ d)).stands .keys (by decide)

theorem keyShow_rings (i : Nat) (d : Dev) : (keyShow i d).hif.rings = d.hif.rings := by
  have hh : { (keyShow i d).hif with msgReq := [] } = { d.hif with msgReq := [] } :=
    (@Tame.keyShow [] d d i (.refl _ d)).stands .hif (by decide)
  have hr := congrArg (fun x : Hif => x.rings) hh
  exact hr

/-- The device with a slot's new contents, not shown yet. -/
def slotPut (i : Nat) (c : KeySlot) (d : Dev) : Dev := d.modKeys fun x => { x with slots := tset x.slots i c }

theorem keySlot_slotPut (i : Nat) (c : KeySlot) (d : Dev) : (slotPut i c d).keySlot i = c := tget_tset_same d.keys.slots i c

theorem keyPut_keys (i : Nat) (c : KeySlot) (d : Dev) :
    (keyPut i c d).keys = { d.keys with slots := tset d.keys.slots i c } := keyShow_keys i (slotPut i c d)

theorem keyPut_same (i : Nat) (c : KeySlot) (d : Dev) : (keyPut i c d).keySlot i = c := by
  rw [Dev.keySlot, keyPut_keys]
  exact tget_tset_same d.keys.slots i c

theorem keyPut_other {m : Nat} (c : KeySlot) (d : Dev) (hm : m ≠ i) : (keyPut i c d).keySlot m = d.keySlot m := by
  rw [Dev.keySlot, keyPut_keys]
  exact tget_tset_other d.keys.slots hm c

theorem keyPut_ring (i : Nat) (c : KeySlot) (d : Dev) (n : Nat) : (keyPut i c d).ring n = d.ring n := by
  have hh : (keyPut i c d).hif.rings = d.hif.rings := keyShow_rings i (slotPut i c d)
  rw [Dev.ring, hh, ← Dev.ring]

theorem keyPut_state (i : Nat) (c : KeySlot) (d : Dev) : (keyPut i c d).getN Reg.T_KSLOT.STATE i = slotState c :=
  (keyShow_state i (slotPut i c d)).trans (by rw [keySlot_slotPut])

theorem keyPut_verified (i : Nat) (c : KeySlot) (d : Dev) :
    (keyPut i c d).onN Reg.T_KSLOT.P_VERIFIED i = pendingVerified c.pending :=
  (keyShow_verified i (slotPut i c d)).trans (by rw [keySlot_slotPut])

theorem keyPut_uses (i : Nat) (c : KeySlot) (d : Dev) : (keyPut i c d).getN Reg.T_KSLOT.USES i = d.getN Reg.T_KSLOT.USES i :=
  keyShow_uses i (slotPut i c d)

/-! ## A key command ends -/

theorem keyEnd_keys (st g : Nat) : (keyEnd t n h st g d).keys = d.keys := rfl

theorem keyEnd_getN (st g : Nat) (f : Field) (i : Nat) : (keyEnd t n h st g d).getN f i = d.getN f i := rfl

theorem keyEnd_onN (st g : Nat) (f : Field) (i : Nat) : (keyEnd t n h st g d).onN f i = d.onN f i := rfl

theorem keyEnd_slot (st g i : Nat) : (keyEnd t n h st g d).keySlot i = d.keySlot i := rfl

theorem keyEnd_owed (st g : Nat) : ((keyEnd t n h st g d).ring n).owed =
    (d.ring n).owed ++ [owedOf (d.ring n).cls h.idx h.words st 0 (keyExt 0 (kSlot h.words) g)] := by
  rw [keyEnd, completeHead_ring]

/-! ## A key arrives -/

theorem keyArrive_badCheck {c : Nat} (hc : b.kcv = some c) (hk : c ≠ k.material) :
    keyArrive t n h b k d = keyEnd t n h stBadCheck k.gen d := by
  unfold keyArrive
  rw [hc]
  exact if_pos hk

/-- A key that is not persistent becomes the pending key at once. -/
theorem keyArrive_volatile (hp : k.persist = false) (hc : b.kcv = some k.material ∨ b.kcv = none) :
    keyArrive t n h b k d = keyEnd t n h (if b.kcv.isSome then stOk else stNotVerified) k.gen
      (keyPut (kSlot h.words) { d.keySlot (kSlot h.words) with pending := some (k, b.kcv.isSome) } d) := by
  unfold keyArrive
  rcases hc with hc | hc
  · rw [hc]
    dsimp only
    rw [if_neg (not_not.mpr rfl), if_neg (by simp [hp])]
    rfl
  · rw [hc]
    dsimp only
    rw [if_neg (by simp [hp])]
    rfl

/-- A persistent key goes by PFW_N. -/
theorem keyArrive_persistent (hp : k.persist = true) (hc : b.kcv = some k.material ∨ b.kcv = none) :
    keyArrive t n h b k d = if d.on Reg.GLB_STATUS.PFW then keyEnd t n h stAborted k.gen d
      else keyCopyStart t n h k b.kcv.isSome d := by
  unfold keyArrive
  rcases hc with hc | hc
  · rw [hc]
    dsimp only
    rw [if_neg (not_not.mpr rfl), if_pos hp]
    rfl
  · rw [hc]
    dsimp only
    rw [if_pos hp]
    rfl

theorem keyCopyStart_slots (v : Bool) : (keyCopyStart t n h k v d).keys.slots = d.keys.slots := rfl

theorem keyArrive_active (t : Time) (n : Nat) (h : Taken) (b : KeyBody) (k : KeyRec) (d : Dev) :
    ((keyArrive t n h b k d).keySlot (kSlot h.words)).active = (d.keySlot (kSlot h.words)).active := by
  by_cases hc : b.kcv = some k.material ∨ b.kcv = none
  · cases hp : k.persist with
    | false => rw [keyArrive_volatile hp hc, keyEnd_slot, keyPut_same]
    | true =>
      rw [keyArrive_persistent hp hc]
      split
      · rfl
      · rfl
  · cases hk : b.kcv with
    | none => exact absurd (.inr hk) hc
    | some c => rw [keyArrive_badCheck hk fun he => hc (.inl (by rw [hk, he])), keyEnd_slot]

theorem key_arrives :
    ∀ (t : Time) (n : Nat) (h : Taken) (b : KeyBody) (k : KeyRec) (d : Dev), kSlot h.words < 64 →
    ((keyArrive t n h b k d).keySlot (kSlot h.words)).active = (d.keySlot (kSlot h.words)).active ∧
    (∀ c, b.kcv = some c → c ≠ k.material →
      (keyArrive t n h b k d).keys = d.keys ∧ ((keyArrive t n h b k d).ring n).owed = (d.ring n).owed ++
        [owedOf (d.ring n).cls h.idx h.words stBadCheck 0 (keyExt 0 (kSlot h.words) k.gen)]) ∧
    (k.persist = false → b.kcv = some k.material →
      ((keyArrive t n h b k d).keySlot (kSlot h.words)).pending = some (k, true) ∧
      (keyArrive t n h b k d).onN Reg.T_KSLOT.P_VERIFIED (kSlot h.words) = true ∧
      ((keyArrive t n h b k d).ring n).owed = (d.ring n).owed ++
        [owedOf (d.ring n).cls h.idx h.words stOk 0 (keyExt 0 (kSlot h.words) k.gen)]) ∧
    (k.persist = false → b.kcv = none →
      ((keyArrive t n h b k d).keySlot (kSlot h.words)).pending = some (k, false) ∧
      (keyArrive t n h b k d).onN Reg.T_KSLOT.P_VERIFIED (kSlot h.words) = false) ∧
    (k.persist = true → b.kcv = some k.material ∨ b.kcv = none → d.on Reg.GLB_STATUS.PFW = true →
      keyArrive t n h b k d = keyEnd t n h stAborted k.gen d) ∧
    (k.persist = true → b.kcv = some k.material ∨ b.kcv = none → d.on Reg.GLB_STATUS.PFW = false →
      (keyArrive t n h b k d).keys.cmd = some ⟨n, h.idx, kSlot h.words, k, b.kcv.isSome⟩ ∧
      tget (keyArrive t n h b k d).keys.copies (2 * kSlot h.words + k.gen % 2) = some ⟨k, true, false⟩ ∧
      (keyArrive t n h b k d).keys.slots = d.keys.slots ∧ (keyArrive t n h b k d).get Reg.KEY_STATUS.BUSY = 1) := by
  intro t n h b k d _
  refine ⟨keyArrive_active t n h b k d, fun c hc hk => ?_, fun hp hc => ?_, fun hp hc => ?_, fun hp hc hw => ?_,
    fun hp hc hw => ?_⟩
  · rw [keyArrive_badCheck hc hk]
    exact ⟨rfl, keyEnd_owed ..⟩
  · rw [keyArrive_volatile hp (.inl hc), hc]
    refine ⟨?_, ?_, ?_⟩
    · rw [keyEnd_slot, keyPut_same]
      rfl
    · rw [keyEnd_onN, keyPut_verified]
      rfl
    · rw [keyEnd_owed, keyPut_ring]
      rfl
  · rw [keyArrive_volatile hp (.inr hc), hc]
    refine ⟨?_, ?_⟩
    · rw [keyEnd_slot, keyPut_same]
      rfl
    · rw [keyEnd_onN, keyPut_verified]
      rfl
  · rw [keyArrive_persistent hp hc, if_pos hw]
  · rw [keyArrive_persistent hp hc, if_neg (by simp [hw])]
    exact ⟨rfl, tget_tset_same d.keys.copies (2 * kSlot h.words + k.gen % 2) (some ⟨k, true, false⟩), rfl, Dev.get_set_same (startHead t n h d) _ _ rfl (by decide)⟩

/-! ## The copy of a key has been read back (R566) -/

theorem copy_idle :
    ∀ (s : State) (g : Bool), s.dev.keys.cmd = none ∨ xaornUp s.dev = false → exec (.keyCopyWritten g) s = .next (s.after s.dev) := by
  intro s g hc
  rw [exec_keyCopyWritten, keyCopyWritten]
  cases hk : s.dev.keys.cmd with
  | none => rfl
  | some c =>
    have hx := hc.resolve_left (by simp [hk])
    exact congrArg (fun d => Host.Outcome.next (s.after d)) (if_pos (by simp [hx]))

theorem keyCopyWritten_good {c : KeyCmd} (hk : d.keys.cmd = some c) (hx : xaornUp d = true) : keyCopyWritten true d =
    keyCmdEnd c (if c.verified then stOk else stNotVerified)
      (keyPut c.slot { d.keySlot c.slot with pending := some (c.key, c.verified) } d) := by
  unfold keyCopyWritten
  rw [hk]
  dsimp only
  rw [hx]
  rfl

/-- The copy of a key that did not read back is gone. -/
def copyLost (c : KeyCmd) (d : Dev) : Dev :=
  d.modKeys fun x => { x with copies := tset x.copies (2 * c.slot + c.key.gen % 2) (some ⟨c.key, false, false⟩) }

theorem keyCopyWritten_bad {c : KeyCmd} (hk : d.keys.cmd = some c) (hx : xaornUp d = true) : keyCopyWritten false d =
    keyCmdEnd c stRejected ((keyPut c.slot { d.keySlot c.slot with pending := none } (copyLost c d)).cause intKey 3 c.slot
      stRejected) := by
  unfold keyCopyWritten
  rw [hk]
  dsimp only
  rw [hx]
  rfl

theorem endStarted_keys (n idx st len : Nat) (ext : List Byte) (p : Option Nat) (d : Dev) :
    (endStarted n idx st len ext p d).keys = d.keys :=
  (@Tame.endStarted [.hif] d d n idx st len ext p (.refl _ _) ⟨by decide⟩).stands .keys (by decide)

theorem keyCmdEnd_keys (c : KeyCmd) (st : Nat) (d : Dev) : (keyCmdEnd c st d).keys = { d.keys with cmd := none } :=
  endStarted_keys ..

theorem keyCmdEnd_slot (c : KeyCmd) (st : Nat) (d : Dev) (i : Nat) : (keyCmdEnd c st d).keySlot i = d.keySlot i := by
  rw [Dev.keySlot, keyCmdEnd_keys, ← Dev.keySlot]

theorem keyCmdEnd_busy (c : KeyCmd) (st : Nat) (d : Dev) : (keyCmdEnd c st d).get Reg.KEY_STATUS.BUSY = 0 := by
  rw [Dev.get, keyCmdEnd, getN_ofRegs (endStarted_regs ..)]
  exact Dev.get_set_same d _ _ rfl (by decide)

theorem keyCmdEnd_bit (c : KeyCmd) (st : Nat) {d : Dev} {j : Nat} (hb : bitOf (d.word intKey.addr) j = true) :
    bitOf ((keyCmdEnd c st d).word intKey.addr) j = true := by
  rw [Dev.word, keyCmdEnd, endStarted_regs]
  exact Dev.bit_setN d Reg.KEY_STATUS.BUSY 0 0 (by decide) hb

theorem copy_written :
    ∀ (s : State) (c : KeyCmd), s.dev.keys.cmd = some c → xaornUp s.dev = true → c.slot < 64 →
    (∃ t, exec (.keyCopyWritten true) s = .next t ∧ t.dev.keys.cmd = none ∧ t.dev.get Reg.KEY_STATUS.BUSY = 0 ∧
      (t.dev.keySlot c.slot).pending = some (c.key, c.verified) ∧
      (t.dev.keySlot c.slot).active = (s.dev.keySlot c.slot).active ∧ t.dev.keys.copies = s.dev.keys.copies) ∧
    (∃ t, exec (.keyCopyWritten false) s = .next t ∧ t.dev.keys.cmd = none ∧ (t.dev.keySlot c.slot).pending = none ∧
      (t.dev.keySlot c.slot).active = (s.dev.keySlot c.slot).active ∧ bitOf (t.dev.word intKey.addr) 3 = true ∧
      tget t.dev.keys.copies (2 * c.slot + c.key.gen % 2) = some ⟨c.key, false, false⟩) := by
  intro s c hk hx _
  refine ⟨⟨_, by rw [exec_keyCopyWritten, keyCopyWritten_good hk hx], ?_, ?_, ?_, ?_, ?_⟩,
    ⟨_, by rw [exec_keyCopyWritten, keyCopyWritten_bad hk hx], ?_, ?_, ?_, ?_, ?_⟩⟩
  · rw [after_keys, keyCmdEnd_keys]
  · rw [after_get _ _ _ (notIntake_of_lt (by decide)), keyCmdEnd_busy]
  · rw [Dev.keySlot, after_keys, ← Dev.keySlot, keyCmdEnd_slot, keyPut_same]
  · rw [Dev.keySlot, after_keys, ← Dev.keySlot, keyCmdEnd_slot, keyPut_same]
  · rw [after_keys, keyCmdEnd_keys, keyPut_keys]
  · rw [after_keys, keyCmdEnd_keys]
  · rw [Dev.keySlot, after_keys, ← Dev.keySlot, keyCmdEnd_slot, Dev.keySlot, Dev.cause_keys, ← Dev.keySlot, keyPut_same]
  · rw [Dev.keySlot, after_keys, ← Dev.keySlot, keyCmdEnd_slot, Dev.keySlot, Dev.cause_keys, ← Dev.keySlot, keyPut_same]
  · rw [after_word _ _ _ (notIntake_of_lt (by decide))]
    exact keyCmdEnd_bit _ _ (Dev.cause_sets _ _ _ _ _ (by omega))
  · rw [after_keys, keyCmdEnd_keys, Dev.cause_keys, keyPut_keys]
    exact tget_tset_same s.dev.keys.copies (2 * c.slot + c.key.gen % 2) (some ⟨c.key, false, false⟩)

/-! ## COMMIT -/

theorem kslot_after (s : State) (d : Dev) {f : Field} {a : Nat} (hf : f.reg = ⟨a, 0x20, 64, 1, 0⟩)
    (ha : 0x3B0000 ≤ a ∧ a < 0x3B0020) (hi : i < 64) : (s.after d).dev.getN f i = d.getN f i :=
  after_getN s d f i (by
    rw [RegAt.addr_single hf]
    exact notIntake_between (by omega) (by omega))

theorem keyActivate_slot (i : Nat) (k : KeyRec) (d : Dev) : (keyActivate i k d).keySlot i = ⟨some k, none⟩ :=
  keyPut_same i ⟨some k, none⟩ (d.setN Reg.T_KSLOT.USES i 0)

theorem keyActivate_other {m : Nat} (k : KeyRec) (d : Dev) (hm : m ≠ i) : (keyActivate i k d).keySlot m = d.keySlot m :=
  keyPut_other ⟨some k, none⟩ (d.setN Reg.T_KSLOT.USES i 0) hm

theorem keyActivate_uses (i : Nat) (k : KeyRec) (d : Dev) : (keyActivate i k d).getN Reg.T_KSLOT.USES i = 0 :=
  (keyPut_uses i ⟨some k, none⟩ (d.setN Reg.T_KSLOT.USES i 0)).trans (Dev.getN_setN_same _ _ _ _ rfl)

theorem keyActivate_state (i : Nat) (k : KeyRec) (d : Dev) : (keyActivate i k d).getN Reg.T_KSLOT.STATE i = 1 :=
  keyPut_state i ⟨some k, none⟩ (d.setN Reg.T_KSLOT.USES i 0)

theorem keyRelease_held (i : Nat) (d : Dev) : ∀ x ∈ (keyRelease i d).keys.held, x.2.2 ≠ i := by
  intro x hx
  simpa using (List.mem_filter.mp hx).2

theorem keyActivate_copies (i : Nat) (k : KeyRec) (d : Dev) : (keyActivate i k d).keys.copies = d.keys.copies := by
  have hk := keyPut_keys i ⟨some k, none⟩ (d.setN Reg.T_KSLOT.USES i 0)
  exact (congrArg Keys.copies hk).trans rfl

/-- The device with the commit record of a persistent key written. -/
def commitRecorded (i : Nat) (k : KeyRec) (d : Dev) : Dev :=
  if k.persist then d.modKeys fun x => { x with copies := tset x.copies (2 * i + k.gen % 2) (some ⟨k, true, true⟩) } else d

theorem commitRecorded_slot (i m : Nat) (k : KeyRec) (d : Dev) : (commitRecorded i k d).keySlot m = d.keySlot m := by
  unfold commitRecorded
  split <;> rfl

theorem commitRecorded_copy (i : Nat) (d : Dev) (hp : k.persist = true) :
    tget (commitRecorded i k d).keys.copies (2 * i + k.gen % 2) = some ⟨k, true, true⟩ := by
  rw [commitRecorded, if_pos hp]
  exact tget_tset_same d.keys.copies (2 * i + k.gen % 2) (some ⟨k, true, true⟩)

section
variable {g : Bool}

theorem keyCommit_none (hr : keyReady d n 5 h) (hp : (d.keySlot (kSlot h.words)).pending = none) :
    keyCommit t n g d = keyEnd t n h stRejected (slotGen (kSlot h.words) d) d := by
  rw [keyCommit, keyCmd_ready hr]
  dsimp only
  rw [hp]

theorem keyCommit_unverified (hr : keyReady d n 5 h) (hp : (d.keySlot (kSlot h.words)).pending = some (k, false)) :
    keyCommit t n g d = keyEnd t n h stNotVerified k.gen d := by
  rw [keyCommit, keyCmd_ready hr]
  dsimp only
  rw [hp]
  rfl

theorem keyCommit_verified (hr : keyReady d n 5 h) (hp : (d.keySlot (kSlot h.words)).pending = some (k, true)) :
    keyCommit t n g d =
      if !k.persist then keyEnd t n h stOk k.gen (keyActivate (kSlot h.words) k d)
      else if d.on Reg.GLB_STATUS.PFW then keyEnd t n h stAborted k.gen d
      else if g then keyEnd t n h stOk k.gen (keyActivate (kSlot h.words) k (d.modKeys fun x =>
          { x with copies := tset x.copies (2 * kSlot h.words + k.gen % 2) (some ⟨k, true, true⟩) }))
      else keyEnd t n h stRejected k.gen (d.cause intKey 3 (kSlot h.words) stRejected) := by
  rw [keyCommit, keyCmd_ready hr]
  dsimp only
  rw [hp]
  rfl

theorem keyCommit_taken (hr : keyReady d n 5 h) (hp : (d.keySlot (kSlot h.words)).pending = some (k, true))
    (hk : k.persist = false ∨ (g = true ∧ d.on Reg.GLB_STATUS.PFW = false)) : keyCommit t n g d =
      keyEnd t n h stOk k.gen (keyActivate (kSlot h.words) k (commitRecorded (kSlot h.words) k d)) := by
  rw [keyCommit_verified hr hp]
  cases hs : k.persist with
  | false =>
    rw [commitRecorded, if_neg (c := k.persist = true) (by simp [hs])]
    rfl
  | true =>
    obtain ⟨hg, hw⟩ := hk.resolve_left (by simp [hs])
    rw [hg, hw, commitRecorded, if_pos hs]
    rfl
end

theorem commit_judged :
    ∀ (s : State) (n : Nat) (g : Bool) (h : Taken), keyReady s.dev n 5 h →
    ((s.dev.keySlot (kSlot h.words)).pending = none → exec (.keyCommit n g) s =
      .next (s.after (keyEnd s.time n h stRejected (slotGen (kSlot h.words) s.dev) s.dev))) ∧
    (∀ k, (s.dev.keySlot (kSlot h.words)).pending = some (k, false) →
      exec (.keyCommit n g) s = .next (s.after (keyEnd s.time n h stNotVerified k.gen s.dev))) ∧
    (∀ k, (s.dev.keySlot (kSlot h.words)).pending = some (k, true) → k.persist = true →
      (s.dev.on Reg.GLB_STATUS.PFW = true →
        exec (.keyCommit n g) s = .next (s.after (keyEnd s.time n h stAborted k.gen s.dev))) ∧
      (s.dev.on Reg.GLB_STATUS.PFW = false → g = false → exec (.keyCommit n g) s =
        .next (s.after (keyEnd s.time n h stRejected k.gen (s.dev.cause intKey 3 (kSlot h.words) stRejected))))) ∧
    (∀ k, (s.dev.keySlot (kSlot h.words)).pending = some (k, true) →
      k.persist = false ∨ (g = true ∧ s.dev.on Reg.GLB_STATUS.PFW = false) →
      ∃ t, exec (.keyCommit n g) s = .next t ∧ (t.dev.keySlot (kSlot h.words)).active = some k ∧
        (t.dev.keySlot (kSlot h.words)).pending = none ∧ t.dev.getN Reg.T_KSLOT.USES (kSlot h.words) = 0 ∧
        t.dev.getN Reg.T_KSLOT.STATE (kSlot h.words) = 1 ∧ (∀ x ∈ t.dev.keys.held, x.2.2 ≠ kSlot h.words) ∧
        (k.persist = true →
          tget t.dev.keys.copies (2 * kSlot h.words + k.gen % 2) = some ⟨k, true, true⟩) ∧
        (∀ m, m ≠ kSlot h.words → t.dev.keySlot m = s.dev.keySlot m)) := by
  intro s n g h hr
  have hi := hr.2.2.2
  refine ⟨fun hp => ?_, fun k hp => ?_, fun k hp hs => ⟨fun hw => ?_, fun hw hg => ?_⟩, fun k hp hk => ?_⟩
  · rw [exec_keyCommit, keyCommit_none hr hp]
  · rw [exec_keyCommit, keyCommit_unverified hr hp]
  · rw [exec_keyCommit, keyCommit_verified hr hp, hs, hw]
    rfl
  · rw [exec_keyCommit, keyCommit_verified hr hp, hs, hw, hg]
    rfl
  · refine ⟨_, by rw [exec_keyCommit, keyCommit_taken hr hp hk], ?_, ?_, ?_, ?_, ?_, fun hs => ?_, fun m hm => ?_⟩
    · rw [Dev.keySlot, after_keys, keyEnd_keys, ← Dev.keySlot, keyActivate_slot]
    · rw [Dev.keySlot, after_keys, keyEnd_keys, ← Dev.keySlot, keyActivate_slot]
    · rw [kslot_after _ _ rfl (by decide) hi, keyEnd_getN, keyActivate_uses]
    · rw [kslot_after _ _ rfl (by decide) hi, keyEnd_getN, keyActivate_state]
    · rw [after_keys, keyEnd_keys]
      exact fun x hx => keyRelease_held _ _ x hx
    · rw [after_keys, keyEnd_keys, keyActivate_copies, commitRecorded_copy _ _ hs]
    · rw [Dev.keySlot, after_keys, keyEnd_keys, ← Dev.keySlot, keyActivate_other _ _ hm, commitRecorded_slot]

/-! ## ERASE -/

/-- The device with a slot and its copies erased. -/
def slotErased (i : Nat) (d : Dev) : Dev :=
  keyRelease i (keyPut i ⟨none, none⟩ ((d.modKeys fun x =>
    { x with copies := tset (tset x.copies (2 * i) none) (2 * i + 1) none }).setN Reg.T_KSLOT.USES i 0))

theorem slotErased_slot (i : Nat) (d : Dev) : (slotErased i d).keySlot i = ⟨none, none⟩ := keyPut_same i ⟨none, none⟩ _

theorem slotErased_state (i : Nat) (d : Dev) : (slotErased i d).getN Reg.T_KSLOT.STATE i = 0 :=
  keyPut_state i ⟨none, none⟩ _

theorem slotErased_copies (i : Nat) (d : Dev) :
    (slotErased i d).keys.copies = tset (tset d.keys.copies (2 * i) none) (2 * i + 1) none := by
  have hk := keyPut_keys i ⟨none, none⟩ ((d.modKeys fun x =>
    { x with copies := tset (tset x.copies (2 * i) none) (2 * i + 1) none }).setN Reg.T_KSLOT.USES i 0)
  exact (congrArg Keys.copies hk).trans rfl

theorem keyErase_judged (hr : keyReady d n 6 h) : keyErase t n d =
    if slotIsParent (kSlot h.words) d then keyEnd t n h stRejected (slotGen (kSlot h.words) d) d
    else if ((tget d.keys.copies (2 * kSlot h.words)).isSome || (tget d.keys.copies (2 * kSlot h.words + 1)).isSome) ∧
        d.on Reg.GLB_STATUS.PFW then keyEnd t n h stAborted (slotGen (kSlot h.words) d) d
    else keyEnd t n h stOk (slotGen (kSlot h.words) d) (slotErased (kSlot h.words) d) := keyCmd_ready hr

theorem erase_judged :
    ∀ (s : State) (n : Nat) (h : Taken), keyReady s.dev n 6 h →
    (slotIsParent (kSlot h.words) s.dev = true → exec (.keyErase n) s =
      .next (s.after (keyEnd s.time n h stRejected (slotGen (kSlot h.words) s.dev) s.dev))) ∧
    (slotIsParent (kSlot h.words) s.dev = false → s.dev.on Reg.GLB_STATUS.PFW = true →
      (tget s.dev.keys.copies (2 * kSlot h.words)).isSome = true ∨
        (tget s.dev.keys.copies (2 * kSlot h.words + 1)).isSome = true →
      exec (.keyErase n) s = .next (s.after (keyEnd s.time n h stAborted (slotGen (kSlot h.words) s.dev) s.dev))) ∧
    (slotIsParent (kSlot h.words) s.dev = false → s.dev.on Reg.GLB_STATUS.PFW = false ∨
        (tget s.dev.keys.copies (2 * kSlot h.words) = none ∧ tget s.dev.keys.copies (2 * kSlot h.words + 1) = none) →
      ∃ t, exec (.keyErase n) s = .next t ∧ t.dev.keySlot (kSlot h.words) = ⟨none, none⟩ ∧
        tget t.dev.keys.copies (2 * kSlot h.words) = none ∧ tget t.dev.keys.copies (2 * kSlot h.words + 1) = none ∧
        t.dev.getN Reg.T_KSLOT.STATE (kSlot h.words) = 0 ∧ (∀ x ∈ t.dev.keys.held, x.2.2 ≠ kSlot h.words)) := by
  intro s n h hr
  have hi := hr.2.2.2
  refine ⟨fun hp => ?_, fun hp hw hc => ?_, fun hp hc => ?_⟩
  · rw [exec_keyErase, keyErase_judged hr, if_pos hp]
  · rw [exec_keyErase, keyErase_judged hr, if_neg (by simp [hp]), if_pos ⟨Bool.or_eq_true_iff.mpr hc, hw⟩]
  · have hn : ¬ (((tget s.dev.keys.copies (2 * kSlot h.words)).isSome ||
        (tget s.dev.keys.copies (2 * kSlot h.words + 1)).isSome) = true ∧ s.dev.on Reg.GLB_STATUS.PFW = true) := by
      rcases hc with hc | ⟨h1, h2⟩
      · simp [hc]
      · simp [h1, h2]
    refine ⟨_, by rw [exec_keyErase, keyErase_judged hr, if_neg (by simp [hp]), if_neg hn], ?_, ?_, ?_, ?_, ?_⟩
    · rw [Dev.keySlot, after_keys, keyEnd_keys, ← Dev.keySlot, slotErased_slot]
    · rw [after_keys, keyEnd_keys, slotErased_copies, tget_tset_other _ (by omega), tget_tset_same]
    · rw [after_keys, keyEnd_keys, slotErased_copies, tget_tset_same]
    · rw [kslot_after _ _ rfl (by decide) hi, keyEnd_getN, slotErased_state]
    · rw [after_keys, keyEnd_keys]
      exact fun x hx => keyRelease_held _ _ x hx

/-- Settles O55: what becomes of a new key, of its flash copy, and of a slot by COMMIT and ERASE. -/
theorem keyLife : Obligations.KeyLife :=
  ⟨⟨import_judged, derive_judged, unwrap_judged, key_arrives⟩, copy_idle, copy_written, commit_judged, erase_judged⟩

end Sys2Proof.Machine

/-!
PROOFS. O56: the firmware service of Xaorn's mailbox (Table RST-6, R629, R630), its report and its time limit (R626, R630), and a lockstep
mismatch (R631).
-/

namespace Sys2Proof.Machine

open Sys2Proof

variable {s : State} {d : Dev} {t : Time} {n i : Nat} {h : Taken}

theorem exec_fwActivate (n : Nat) (s : State) :
    exec (.fwActivate n) s = .next (s.after (fwActivate s.time n s.dev)) := rfl

theorem exec_fwCheck (n len : Nat) (s : State) :
    exec (.fwCheck n len) s = .next (s.after (fwCheck s.time n len s.dev)) := rfl

theorem exec_fwSettings (n : Nat) (body : List Byte) (s : State) :
    exec (.fwSettings n body) s = .next (s.after (fwSettings s.time n body s.dev)) := rfl

theorem exec_fwStatus (n : Nat) (s : State) : exec (.fwStatus n) s = .next (s.after (fwStatus s.time n s.dev)) := rfl

theorem exec_fwWrite (n ofs : Nat) (data : List Byte) (s : State) :
    exec (.fwWrite n ofs data) s = .next (s.after (fwWrite s.time n ofs data s.dev)) := rfl

theorem exec_lockstepMismatch (pair : Nat) (s : State) :
    exec (.lockstepMismatch pair) s = .next (s.after (lockstepMismatch s.time pair s.dev)) := rfl

theorem exec_updateTimeout (s : State) : exec .updateTimeout s = .next (s.after (updateTimeout s.time s.dev)) := rfl

theorem exec_xaornReport (s : State) : exec .xaornReport s = .next (s.after (xaornReport s.dev)) := rfl

/-! ## The commands at the head of the ring -/

/-- A firmware command ends with a status and no bytes. -/
def fwEnd (t : Time) (n : Nat) (h : Taken) (status len : Nat) (d : Dev) : Dev :=
  completeHead t n h status len (keyExt 0 0 0) d

/-- The image slot that does not run, with bytes written. -/
def imageWritten (ofs : Nat) (bs : List Byte) (d : Dev) : Dev :=
  d.modPwr fun p => { p with checked := false, images := tmod p.images (idleSlot d) (flashFill bs ofs) }

/-- The update begins: the settings prefer the new image, under TRIAL. -/
def updateBegun (d : Dev) : Dev :=
  ((d.set Reg.GLB_STATUS.UPDATING 1).event 593 0 0 0).modPwr fun p => { setFlip (idleSlot d) true p with update := true }

section
variable {ofs len : Nat} {bs : List Byte}

theorem fwStatus_ready (hr : mboxReady d n 2 1 h) : fwStatus t n d = mboxReply t n h (fwStatusBytes d) 0 0 d := mbox_ready hr

theorem fwWrite_ready (hr : mboxReady d n 2 2 h) : fwWrite t n ofs bs d =
    if dLen h.words = 0 ∨ bs.isEmpty then fwEnd t n h stSkipped 0 d
    else if 0x10000 < bs.length ∨ 0x800000 < ofs + bs.length then fwEnd t n h stRejected 0 d
    else if d.on Reg.GLB_STATUS.PFW then fwEnd t n h stAborted 0 d
    else fwEnd t n h stOk (dLen h.words) (imageWritten ofs bs d) := mbox_ready hr

theorem fwCheck_ready (hr : mboxReady d n 2 3 h) : fwCheck t n len d =
    if dLen h.words = 0 ∨ len = 0 then fwEnd t n h stSkipped 0 d
    else if Config.imageOk (tget d.pwr.images (idleSlot d)) (some len) then
      mboxReply t n h (be 48 (Config.imageSha (tget d.pwr.images (idleSlot d)))) 0 0 (d.modPwr fun p =>
        { p with checked := true })
    else fwEnd t n h stNotVerified 0 d := mbox_ready hr

theorem fwActivate_ready (hr : mboxReady d n 2 4 h) : fwActivate t n d =
    if !d.pwr.checked then fwEnd t n h stRejected 0 d
    else if d.on Reg.GLB_STATUS.PFW then fwEnd t n h stAborted 0 d
    else if imageGood (idleSlot d) (fwEnd t n h stOk 0 (updateBegun d)).pwr then
      xaornStart t (idleSlot d) (fwEnd t n h stOk 0 (updateBegun d))
    else updateFail t (d.get Reg.GLB_STATUS.SLOT) (fwEnd t n h stOk 0 (updateBegun d)) := mbox_ready hr

theorem fwSettings_ready (hr : mboxReady d n 2 5 h) : fwSettings t n bs d =
    if dLen h.words = 0 then fwEnd t n h stSkipped 0 d
    else if !settingsOk bs then fwEnd t n h stRejected 0 d
    else if d.on Reg.GLB_STATUS.PFW then fwEnd t n h stAborted 0 d
    else fwEnd t n h stOk (dLen h.words) (d.modPwr (setWrite bs)) := mbox_ready hr
end

/-! ## STATUS -/

theorem status_small :
    ∀ (s : State) (n : Nat) (h : Taken), mboxReady s.dev n 2 1 h → kRlen h.words < (fwStatusBytes s.dev).length →
    exec (.fwStatus n) s =
      .next (s.after (completeHead s.time n h stNoSpace 0 (keyExt (fwStatusBytes s.dev).length 0 0) s.dev)) := by
  intro s n h hr hl
  rw [exec_fwStatus, fwStatus_ready hr, mboxReply_small hl]

theorem completeHead_pwr (t : Time) (n : Nat) (h : Taken) (st len : Nat) (ext : List Byte) (d : Dev) :
    (completeHead t n h st len ext d).pwr = d.pwr := rfl

theorem status_replies :
    ∀ (s : State) (n : Nat) (h : Taken), mboxReady s.dev n 2 1 h → (fwStatusBytes s.dev).length ≤ kRlen h.words →
    ∃ t, exec (.fwStatus n) s = .next t ∧ t.dev.pwr = s.dev.pwr ∧ t.dev.hif.sent = s.dev.hif.sent ++
      [.data (kRaddr h.words) (fwStatusBytes s.dev) (s.dev.on Reg.HIF_CTRL.RO_EN)] := by
  intro s n h hr hl
  refine ⟨_, by rw [exec_fwStatus, fwStatus_ready hr, mboxReply_fits hl], ?_, ?_⟩
  · rw [after_pwr, completeHead_pwr]
    rfl
  · rw [after_sent, completeHead_sent, replied_sent]

/-! ## Commands that program nothing -/

theorem fw_unprogrammed :
    ∀ (s : State) (n k : Nat) (bs : List Byte) (h : Taken),
    (mboxReady s.dev n 2 2 h → dLen h.words = 0 ∨ bs = [] → exec (.fwWrite n k bs) s =
      .next (s.after (completeHead s.time n h stSkipped 0 (keyExt 0 0 0) s.dev))) ∧
    (mboxReady s.dev n 2 3 h → dLen h.words = 0 ∨ k = 0 → exec (.fwCheck n k) s =
      .next (s.after (completeHead s.time n h stSkipped 0 (keyExt 0 0 0) s.dev))) ∧
    (mboxReady s.dev n 2 5 h → dLen h.words = 0 → exec (.fwSettings n bs) s =
      .next (s.after (completeHead s.time n h stSkipped 0 (keyExt 0 0 0) s.dev))) ∧
    (s.dev.on Reg.GLB_STATUS.PFW = true →
      (mboxReady s.dev n 2 2 h → dLen h.words ≠ 0 → bs ≠ [] → bs.length ≤ 0x10000 → k + bs.length ≤ 0x800000 →
        exec (.fwWrite n k bs) s = .next (s.after (completeHead s.time n h stAborted 0 (keyExt 0 0 0) s.dev))) ∧
      (mboxReady s.dev n 2 4 h → s.dev.pwr.checked = true →
        exec (.fwActivate n) s = .next (s.after (completeHead s.time n h stAborted 0 (keyExt 0 0 0) s.dev))) ∧
      (mboxReady s.dev n 2 5 h → dLen h.words ≠ 0 → settingsOk bs = true →
        exec (.fwSettings n bs) s = .next (s.after (completeHead s.time n h stAborted 0 (keyExt 0 0 0) s.dev)))) := by
  refine fun s n k bs h => ⟨fun hr hl => ?_, fun hr hl => ?_, fun hr hl => ?_, fun hw => ⟨fun hr hl hb hs he => ?_,
    fun hr hc => ?_, fun hr hl hb => ?_⟩⟩
  · rw [exec_fwWrite, fwWrite_ready hr, if_pos (hl.imp_right fun hb => by simp [hb]), fwEnd]
  · rw [exec_fwCheck, fwCheck_ready hr, if_pos hl, fwEnd]
  · rw [exec_fwSettings, fwSettings_ready hr, if_pos hl, fwEnd]
  · rw [exec_fwWrite, fwWrite_ready hr, if_neg (by simp [hl, hb]), if_neg (by omega), if_pos hw, fwEnd]
  · rw [exec_fwActivate, fwActivate_ready hr, if_neg (by simp [hc]), if_pos hw, fwEnd]
  · rw [exec_fwSettings, fwSettings_ready hr, if_neg hl, if_neg (by simp [hb]), if_pos hw, fwEnd]

/-! ## WRITE -/

/-- A byte of a map of an image slot. -/
def mapByte (m : FMap (Option Byte)) (k : Nat) : Byte := (tget m k).getD 0xFF

theorem flashByte_getD (b : Byte) : (flashByte b).getD 0xFF = b := by
  unfold flashByte
  split
  · next hb => rw [hb]; rfl
  · rfl

theorem mapByte_tset (m : FMap (Option Byte)) (a k : Nat) (b : Byte) :
    mapByte (tset m a (flashByte b)) k = if k = a then b else mapByte m k := by
  unfold mapByte
  rw [tget_tset]
  split
  · exact flashByte_getD b
  · rfl

theorem mapByte_flashFill_other (k : Nat) : ∀ (bs : List Byte) (a : Nat) (m : FMap (Option Byte)),
    k < a ∨ a + bs.length ≤ k → mapByte (flashFill bs a m) k = mapByte m k
  | [], _, _, _ => rfl
  | b :: bs, a, m, h => by
    rw [List.length_cons] at h
    rw [flashFill, mapByte_flashFill_other k bs (a + 1) _ (by omega), mapByte_tset, if_neg (by omega)]

theorem mapByte_flashFill (i : Nat) : ∀ (bs : List Byte) (a : Nat) (m : FMap (Option Byte)), i < bs.length →
    mapByte (flashFill bs a m) (a + i) = bs.getD i 0
  | [], _, _, h => absurd h (Nat.not_lt_zero i)
  | b :: bs, a, m, h => by
    rw [flashFill]
    cases i with
    | zero => rw [mapByte_flashFill_other _ bs (a + 1) _ (by omega), mapByte_tset, if_pos (by omega)]; rfl
    | succ j =>
      have hj : j < bs.length := by simpa using h
      rw [show a + (j + 1) = a + 1 + j by omega, mapByte_flashFill j bs (a + 1) _ hj]
      rfl

theorem imageByte_written (ofs : Nat) (bs : List Byte) (d : Dev) (k i : Nat) : imageByte (imageWritten ofs bs d).pwr k i =
    if k = idleSlot d then mapByte (flashFill bs ofs (tget d.pwr.images (idleSlot d))) i else imageByte d.pwr k i := by
  show ((tget (tget (tmod d.pwr.images (idleSlot d) (flashFill bs ofs)) k) i).getD 0xFF) = _
  rw [tget_tmod]
  split
  · rfl
  · rfl

theorem image_written :
    ∀ (s : State) (n ofs : Nat) (bs : List Byte) (h : Taken), mboxReady s.dev n 2 2 h → dLen h.words ≠ 0 → bs ≠ [] →
    (0x10000 < bs.length ∨ 0x800000 < ofs + bs.length → exec (.fwWrite n ofs bs) s =
      .next (s.after (completeHead s.time n h stRejected 0 (keyExt 0 0 0) s.dev))) ∧
    (bs.length ≤ 0x10000 → ofs + bs.length ≤ 0x800000 → s.dev.on Reg.GLB_STATUS.PFW = false →
      ∃ t, exec (.fwWrite n ofs bs) s = .next t ∧ t.dev.pwr.checked = false ∧
        (∀ i, i < bs.length → imageByte t.dev.pwr (idleSlot s.dev) (ofs + i) = bs.getD i 0) ∧
        (∀ i, i < ofs ∨ ofs + bs.length ≤ i →
          imageByte t.dev.pwr (idleSlot s.dev) i = imageByte s.dev.pwr (idleSlot s.dev) i) ∧
        (∀ i k, k ≠ idleSlot s.dev → imageByte t.dev.pwr k i = imageByte s.dev.pwr k i)) := by
  intro s n ofs bs h hr hl hb
  have hx : exec (.fwWrite n ofs bs) s = .next (s.after (if 0x10000 < bs.length ∨ 0x800000 < ofs + bs.length then
        fwEnd s.time n h stRejected 0 s.dev
      else if s.dev.on Reg.GLB_STATUS.PFW then fwEnd s.time n h stAborted 0 s.dev
      else fwEnd s.time n h stOk (dLen h.words) (imageWritten ofs bs s.dev))) := by
    rw [exec_fwWrite, fwWrite_ready hr, if_neg (by simp [hl, hb])]
  refine ⟨fun hc => by rw [hx, if_pos hc, fwEnd], fun hs he hw => ?_⟩
  refine ⟨_, by rw [hx, if_neg (by omega), if_neg (by simp [hw]), fwEnd], ?_, fun i hi => ?_, fun i hi => ?_, fun i k hk => ?_⟩
  · rw [after_pwr, completeHead_pwr]
    rfl
  · rw [after_pwr, completeHead_pwr, imageByte_written, if_pos rfl, mapByte_flashFill i bs ofs _ hi]
  · rw [after_pwr, completeHead_pwr, imageByte_written, if_pos rfl, mapByte_flashFill_other i bs ofs _ hi]
    rfl
  · rw [after_pwr, completeHead_pwr, imageByte_written, if_neg hk]

/-! ## CHECK and SETTINGS -/

/-- A reply leaves power and images. -/
theorem mboxReply_pwr (bytes : List Byte) (slot gen : Nat) : (mboxReply t n h bytes slot gen d).pwr = d.pwr := by
  unfold mboxReply
  split
  · rfl
  · rfl

theorem image_checked :
    ∀ (s : State) (n len : Nat) (h : Taken), mboxReady s.dev n 2 3 h → dLen h.words ≠ 0 → len ≠ 0 →
    if Config.imageOk (tget s.dev.pwr.images (idleSlot s.dev)) (some len) = true then
      ∃ t, exec (.fwCheck n len) s = .next t ∧ t.dev.pwr.checked = true ∧ t.dev.pwr.images = s.dev.pwr.images
    else exec (.fwCheck n len) s = .next (s.after (completeHead s.time n h stNotVerified 0 (keyExt 0 0 0) s.dev)) := by
  intro s n len h hr hl hk
  have hx := fwCheck_ready (t := s.time) (len := len) hr
  rw [if_neg (by omega)] at hx
  by_cases hi : Config.imageOk (tget s.dev.pwr.images (idleSlot s.dev)) (some len) = true
  · rw [if_pos hi] at hx ⊢
    refine ⟨_, by rw [exec_fwCheck, hx], ?_, ?_⟩
    · rw [after_pwr, mboxReply_pwr]
      rfl
    · rw [after_pwr, mboxReply_pwr]
      rfl
  · rw [if_neg hi] at hx ⊢
    rw [exec_fwCheck, hx, fwEnd]

theorem setWrite_copy (b : List Byte) (p : Pwr) : (setWrite b p).copyA = p.copyA ∨ (setWrite b p).copyB = p.copyB := by
  unfold setWrite
  dsimp only
  generalize (if settingsOk p.copyA then _ else _ : Bool) = overA
  cases overA
  · exact .inl rfl
  · exact .inr rfl

theorem setWrite_images (b : List Byte) (p : Pwr) : (setWrite b p).images = p.images := by
  unfold setWrite
  dsimp only
  generalize (if settingsOk p.copyA then _ else _ : Bool) = overA
  cases overA <;> rfl

theorem settings_written :
    ∀ (s : State) (n : Nat) (b : List Byte) (h : Taken), mboxReady s.dev n 2 5 h → dLen h.words ≠ 0 →
    (settingsOk b = false → exec (.fwSettings n b) s =
      .next (s.after (completeHead s.time n h stRejected 0 (keyExt 0 0 0) s.dev))) ∧
    (settingsOk b = true → s.dev.on Reg.GLB_STATUS.PFW = false →
      ∃ t, exec (.fwSettings n b) s = .next t ∧ t.dev.pwr.images = s.dev.pwr.images ∧
        (t.dev.pwr.copyA = s.dev.pwr.copyA ∨ t.dev.pwr.copyB = s.dev.pwr.copyB) ∧ t.dev.pwr = setWrite b s.dev.pwr) := by
  intro s n b h hr hl
  have hx := fwSettings_ready (t := s.time) (bs := b) hr
  rw [if_neg hl] at hx
  refine ⟨fun hb => ?_, fun hb hw => ?_⟩
  · rw [exec_fwSettings, hx, if_pos (by simp [hb]), fwEnd]
  · refine ⟨_, by rw [exec_fwSettings, hx, if_neg (by simp [hb]), if_neg (by simp [hw]), fwEnd], ?_, ?_, ?_⟩
    · rw [after_pwr, completeHead_pwr]
      exact setWrite_images b s.dev.pwr
    · rw [after_pwr, completeHead_pwr]
      exact setWrite_copy b s.dev.pwr
    · rw [after_pwr, completeHead_pwr]
      rfl

/-! ## The cores start, and an update ends -/

theorem setFlip_images (slot : Nat) (trial : Bool) (p : Pwr) : (setFlip slot trial p).images = p.images :=
  setWrite_images _ p

/-- The start of the cores leaves a field of GLB_STATUS that it does not write. -/
theorem xaornStart_get (slot : Nat) (f : Field) (h1 : (Reg.GLB_STATUS.SLOT.reg.addr 0 != f.reg.addr 0 ||
      (Reg.GLB_STATUS.SLOT.fits && f.fits && Reg.GLB_STATUS.SLOT.apart f)) = true)
    (h2 : (Reg.GLB_STATUS.XAORN_RUN.reg.addr 0 != f.reg.addr 0 ||
      (Reg.GLB_STATUS.XAORN_RUN.fits && f.fits && Reg.GLB_STATUS.XAORN_RUN.apart f)) = true)
    (h3 : (Reg.GLB_STATUS.XFAIL.reg.addr 0 != f.reg.addr 0 ||
      (Reg.GLB_STATUS.XFAIL.fits && f.fits && Reg.GLB_STATUS.XFAIL.apart f)) = true) :
    (xaornStart t slot d).get f = d.get f :=
  (Dev.get_set_other _ _ f _ h3).trans ((Dev.get_set_other _ _ f _ h2).trans (Dev.get_set_other _ _ f _ h1))

theorem xaornStart_updating (slot : Nat) : (xaornStart t slot d).on Reg.GLB_STATUS.UPDATING = d.on Reg.GLB_STATUS.UPDATING :=
  congrArg (· != 0) (xaornStart_get slot Reg.GLB_STATUS.UPDATING rfl rfl rfl)

theorem xaornStart_run (slot : Nat) : (xaornStart t slot d).on Reg.GLB_STATUS.XAORN_RUN = false :=
  (Dev.on_set_other _ _ _ _ rfl).trans (Dev.on_set_same _ _ _ rfl)

theorem xaornStart_slot {slot : Nat} (hs : slot < 2) : (xaornStart t slot d).get Reg.GLB_STATUS.SLOT = slot :=
  (Dev.get_set_other _ _ _ _ rfl).trans ((Dev.get_set_other _ _ _ _ rfl).trans (Dev.get_set_same _ _ _ rfl hs))

theorem xaornStart_word (slot : Nat) {a : Nat} (ha : a ≠ 0x8) : (xaornStart t slot d).word a = d.word a :=
  (Dev.word_set _ _ _ _ ha).trans ((Dev.word_set _ _ _ _ ha).trans (Dev.word_set _ _ _ _ ha))

theorem updateEnd_update (st : Nat) (d : Dev) : (updateEnd st d).pwr.update = false := by
  rw [updateEnd, Dev.cause_pwr]
  rfl

theorem updateEnd_images (st : Nat) (d : Dev) : (updateEnd st d).pwr.images = d.pwr.images := by
  rw [updateEnd, Dev.cause_pwr]
  rfl

theorem updateEnd_updating (st : Nat) (d : Dev) : (updateEnd st d).on Reg.GLB_STATUS.UPDATING = false := by
  rw [updateEnd, Dev.cause_on _ _ _ _ _ _ (by decide)]
  exact (Dev.on_set_other _ _ _ _ rfl).trans (Dev.on_set_same _ _ _ rfl)

theorem updateEnd_run (st : Nat) (d : Dev) : (updateEnd st d).on Reg.GLB_STATUS.XAORN_RUN = d.on Reg.GLB_STATUS.XAORN_RUN := by
  rw [updateEnd, Dev.cause_on _ _ _ _ _ _ (by decide)]
  exact (Dev.on_set_other _ _ _ _ rfl).trans (Dev.on_set_other _ _ _ _ rfl)

theorem updateEnd_last {st : Nat} (hs : st < 256) (d : Dev) : (updateEnd st d).get Reg.GLB_XAORN.LAST = st := by
  rw [updateEnd, Dev.cause_get _ _ _ _ _ _ (by decide)]
  exact Dev.get_set_same _ _ _ rfl hs

theorem updateEnd_bit (st : Nat) (d : Dev) : bitOf ((updateEnd st d).word intGlb.addr) 4 = true :=
  Dev.cause_sets _ _ _ _ _ (by omega)

theorem updateEnd_ring (st : Nat) (d : Dev) (n : Nat) : (updateEnd st d).ring n = d.ring n :=
  congrArg (tget · n) (Dev.cause_rings ..)

theorem xaornBoot_images (t : Time) (slot : Nat) (d : Dev) : (xaornBoot t slot d).pwr.images = d.pwr.images := by
  unfold xaornBoot
  split
  · rfl
  · split
    · rfl
    · unfold xaornFail
      show (Dev.cause _ intGlb 4 0 stNotVerified).pwr.images = _
      rw [Dev.cause_pwr]
      rfl

theorem xaornBoot_ring (t : Time) (slot : Nat) (d : Dev) (n : Nat) : (xaornBoot t slot d).ring n = d.ring n := by
  unfold xaornBoot
  split
  · rfl
  · split
    · rfl
    · exact congrArg (tget · n) (Dev.cause_rings ((d.set Reg.GLB_STATUS.XAORN_RUN 0).set Reg.GLB_STATUS.XFAIL 1) intGlb 4 0 stNotVerified)

theorem updateFail_images (t : Time) (slot : Nat) (d : Dev) : (updateFail t slot d).pwr.images = d.pwr.images := by
  rw [updateFail, updateEnd_images, xaornBoot_images]
  exact setFlip_images slot false d.pwr

theorem updateFail_ring (t : Time) (slot : Nat) (d : Dev) (n : Nat) : (updateFail t slot d).ring n = d.ring n := by
  rw [updateFail, updateEnd_ring, xaornBoot_ring]
  rfl

/-! ## ACTIVATE -/

theorem idleSlot_lt (d : Dev) : idleSlot d < 2 := by
  unfold idleSlot
  omega

theorem updateBegun_images (d : Dev) : (updateBegun d).pwr.images = d.pwr.images := setFlip_images (idleSlot d) true d.pwr

theorem imageGood_congr {p q : Pwr} (h : p.images = q.images) (i : Nat) : imageGood i p = imageGood i q := by
  rw [imageGood, h, ← imageGood]

theorem fwEnd_owed (st len : Nat) : ((fwEnd t n h st len d).ring n).owed =
    (d.ring n).owed ++ [owedOf (d.ring n).cls h.idx h.words st len (keyExt 0 0 0)] := by
  rw [fwEnd, completeHead_ring]

/-- The update has begun, and ACTIVATE is complete. -/
def activated (t : Time) (n : Nat) (h : Taken) (d : Dev) : Dev := fwEnd t n h stOk 0 (updateBegun d)

theorem activated_images : (activated t n h d).pwr.images = d.pwr.images := updateBegun_images d

theorem activated_owed : ((activated t n h d).ring n).owed =
    (d.ring n).owed ++ [owedOf (d.ring n).cls h.idx h.words stOk 0 (keyExt 0 0 0)] := fwEnd_owed (d := updateBegun d) stOk 0

theorem activated_updating : (activated t n h d).on Reg.GLB_STATUS.UPDATING = true := Dev.on_set_same d _ _ rfl

theorem glbStatus_after (s : State) (d : Dev) {f : Field} (hf : f.reg = At.GLB_STATUS) :
    (s.after d).dev.get f = d.get f ∧ (s.after d).dev.on f = d.on f := by
  have ha : ¬ intakeWord (f.reg.addr 0) := by
    rw [hf]
    exact notIntake_of_lt (by decide)
  exact ⟨after_get s d f ha, after_on s d f ha⟩

theorem image_activated :
    ∀ (s : State) (n : Nat) (h : Taken), mboxReady s.dev n 2 4 h →
    (s.dev.pwr.checked = false → exec (.fwActivate n) s =
      .next (s.after (completeHead s.time n h stRejected 0 (keyExt 0 0 0) s.dev))) ∧
    (s.dev.pwr.checked = true → s.dev.on Reg.GLB_STATUS.PFW = false →
      ∃ t, exec (.fwActivate n) s = .next t ∧ t.dev.pwr.images = s.dev.pwr.images ∧
        (t.dev.ring n).owed = (s.dev.ring n).owed ++ [owedOf clsMbox h.idx h.words stOk 0 (keyExt 0 0 0)] ∧
        if imageGood (idleSlot s.dev) s.dev.pwr = true then
          t.dev.on Reg.GLB_STATUS.UPDATING = true ∧ t.dev.get Reg.GLB_STATUS.SLOT = idleSlot s.dev ∧
          t.dev.on Reg.GLB_STATUS.XAORN_RUN = false ∧ t.dev.pwr.update = true ∧ t.dev.pwr.xaornFrom = s.time.loc
        else t.dev.on Reg.GLB_STATUS.UPDATING = false ∧ t.dev.pwr.update = false) := by
  intro s n h hr
  have hx : exec (.fwActivate n) s = .next (s.after (if !s.dev.pwr.checked then fwEnd s.time n h stRejected 0 s.dev
      else if s.dev.on Reg.GLB_STATUS.PFW then fwEnd s.time n h stAborted 0 s.dev
      else if imageGood (idleSlot s.dev) (activated s.time n h s.dev).pwr then
        xaornStart s.time (idleSlot s.dev) (activated s.time n h s.dev)
      else updateFail s.time (s.dev.get Reg.GLB_STATUS.SLOT) (activated s.time n h s.dev))) := by
    rw [exec_fwActivate, fwActivate_ready hr]
    rfl
  have hcls : (s.dev.ring n).cls = clsMbox := (startable_ring hr.1).2
  refine ⟨fun hc => by rw [hx, if_pos (by simp [hc]), fwEnd], fun hc hw => ?_⟩
  rw [if_neg (by simp [hc]), if_neg (by simp [hw]), imageGood_congr activated_images] at hx
  by_cases hg : imageGood (idleSlot s.dev) s.dev.pwr = true
  · rw [if_pos hg] at hx
    refine ⟨_, hx, ?_, ?_, ?_⟩
    · rw [after_pwr]
      exact activated_images (t := s.time) (n := n) (h := h)
    · rw [after_ring, ← hcls]
      exact activated_owed
    · rw [if_pos hg]
      refine ⟨?_, ?_, ?_, ?_, ?_⟩
      · rw [(glbStatus_after _ _ rfl).2, xaornStart_updating, activated_updating]
      · rw [(glbStatus_after _ _ rfl).1, xaornStart_slot (idleSlot_lt _)]
      · rw [(glbStatus_after _ _ rfl).2, xaornStart_run]
      · rw [after_pwr]
        rfl
      · rw [after_pwr]
        rfl
  · rw [if_neg hg] at hx
    refine ⟨_, hx, ?_, ?_, ?_⟩
    · rw [after_pwr, updateFail_images, activated_images]
    · rw [after_ring, updateFail_ring, ← hcls]
      exact activated_owed
    · rw [if_neg hg]
      refine ⟨?_, ?_⟩
      · rw [(glbStatus_after _ _ rfl).2]
        exact updateEnd_updating ..
      · rw [after_pwr]
        exact updateEnd_update ..

/-! ## The report and its limit -/

theorem report_idle :
    ∀ (s : State), s.dev.pwr.xaornRuns = false ∨ s.dev.up islMgt = false ∨ s.dev.on Reg.GLB_STATUS.XAORN_RUN = true →
    exec .xaornReport s = .next (s.after s.dev) := by
  intro s hc
  rw [exec_xaornReport, xaornReport, if_pos]
  rcases hc with hc | hc | hc <;> simp [hc]

theorem xaornReport_taken (hx : d.pwr.xaornRuns = true) (hu : d.up islMgt = true) (hr : d.on Reg.GLB_STATUS.XAORN_RUN = false) :
    xaornReport d = if d.pwr.update then updateEnd stOk ((d.set Reg.GLB_STATUS.XAORN_RUN 1).modPwr
        (setFlip (d.get Reg.GLB_STATUS.SLOT) false))
      else (d.set Reg.GLB_STATUS.XAORN_RUN 1).set Reg.GLB_STATUS.UPDATING 0 := by
  unfold xaornReport
  rw [if_neg (by simp [hx, hu, hr])]

theorem report_plain :
    ∀ (s : State), s.dev.pwr.xaornRuns = true → s.dev.up islMgt = true → s.dev.on Reg.GLB_STATUS.XAORN_RUN = false →
    s.dev.pwr.update = false →
    ∃ t, exec .xaornReport s = .next t ∧ t.dev.on Reg.GLB_STATUS.XAORN_RUN = true ∧
      t.dev.on Reg.GLB_STATUS.UPDATING = false ∧ t.dev.pwr = s.dev.pwr ∧
      t.dev.get Reg.GLB_XAORN.LAST = s.dev.get Reg.GLB_XAORN.LAST := by
  intro s hx hu hr hp
  refine ⟨_, by rw [exec_xaornReport, xaornReport_taken hx hu hr, if_neg (by simp [hp])], ?_, ?_, ?_, ?_⟩
  · rw [(glbStatus_after _ _ rfl).2]
    exact (Dev.on_set_other _ _ _ _ rfl).trans (Dev.on_set_same _ _ _ rfl)
  · rw [(glbStatus_after _ _ rfl).2]
    exact Dev.on_set_same _ _ _ rfl
  · rw [after_pwr]
    rfl
  · rw [after_get _ _ _ (notIntake_of_lt (by decide)), Dev.get_set_other _ _ _ _ rfl, Dev.get_set_other _ _ _ _ rfl]

theorem report_updated :
    ∀ (s : State), s.dev.pwr.xaornRuns = true → s.dev.up islMgt = true → s.dev.on Reg.GLB_STATUS.XAORN_RUN = false →
    s.dev.pwr.update = true → ∃ t, exec .xaornReport s = .next t ∧ t.dev.pwr.update = false ∧
      t.dev.on Reg.GLB_STATUS.XAORN_RUN = true ∧ t.dev.get Reg.GLB_XAORN.LAST = stOk ∧ t.dev.on Reg.GLB_STATUS.UPDATING = false ∧
      bitOf (t.dev.word intGlb.addr) 4 = true := by
  intro s hx hu hr hp
  refine ⟨_, by rw [exec_xaornReport, xaornReport_taken hx hu hr, if_pos hp], ?_, ?_, ?_, ?_, ?_⟩
  · rw [after_pwr, updateEnd_update]
  · rw [(glbStatus_after _ _ rfl).2, updateEnd_run]
    exact Dev.on_set_same s.dev _ _ rfl
  · rw [after_get _ _ _ (notIntake_of_lt (by decide)), updateEnd_last (by decide)]
  · rw [(glbStatus_after _ _ rfl).2, updateEnd_updating]
  · rw [after_word _ _ _ (notIntake_of_lt (by decide)), updateEnd_bit]

theorem update_waits :
    ∀ (s : State), s.dev.pwr.update = false ∨ s.dev.on Reg.GLB_STATUS.XAORN_RUN = true ∨
      s.time.loc - s.dev.pwr.xaornFrom < 5000000000 → exec .updateTimeout s = .next (s.after s.dev) := by
  intro s hc
  rw [exec_updateTimeout, updateTimeout, if_neg]
  rintro ⟨h1, h2, h3⟩
  rcases hc with hc | hc | hc
  · rw [hc] at h1
    cases h1
  · rw [hc] at h2
    cases h2
  · omega

theorem update_fails :
    ∀ (s : State), s.dev.pwr.update = true → s.dev.on Reg.GLB_STATUS.XAORN_RUN = false →
    5000000000 ≤ s.time.loc - s.dev.pwr.xaornFrom →
    ∃ t, exec .updateTimeout s = .next t ∧ t.dev.pwr.update = false ∧ t.dev.get Reg.GLB_XAORN.LAST = stRejected ∧
      t.dev.on Reg.GLB_STATUS.UPDATING = false ∧ bitOf (t.dev.word intGlb.addr) 4 = true := by
  intro s hp hr hd
  refine ⟨_, by rw [exec_updateTimeout, updateTimeout, if_pos ⟨hp, by simp [hr], hd⟩, updateFail], ?_, ?_, ?_, ?_⟩
  · rw [after_pwr, updateEnd_update]
  · rw [after_get _ _ _ (notIntake_of_lt (by decide)), updateEnd_last (by decide)]
  · rw [(glbStatus_after _ _ rfl).2, updateEnd_updating]
  · rw [after_word _ _ _ (notIntake_of_lt (by decide)), updateEnd_bit]

/-! ## A lockstep mismatch (R631) -/

theorem mismatch_idle :
    ∀ (s : State) (p : Nat), s.dev.pwr.xaornRuns = false ∨ s.dev.up islMgt = false ∨ 2 ≤ p →
    exec (.lockstepMismatch p) s = .next (s.after s.dev) := by
  intro s p hc
  rw [exec_lockstepMismatch, lockstepMismatch, if_neg]
  rintro ⟨h1, h2, h3⟩
  rcases hc with hc | hc | hc
  · rw [hc] at h1
    cases h1
  · rw [hc] at h2
    cases h2
  · omega

/-- A mismatch raised and counted, before the cores start again. -/
def mismatchRaised (p : Nat) (d : Dev) : Dev :=
  (((d.event 592 p p 0).cause intGlb 4 0 0).sat Reg.GLB_XAORN.RESTARTS).set Reg.GLB_STATUS.UPDATING 1

theorem mismatchRaised_get (p : Nat) (d : Dev) (f : Field) (h1 : f.reg.addr 0 ≠ 0x24) (h2 : f.reg.addr 0 ≠ 0x38)
    (h3 : (Reg.GLB_STATUS.UPDATING.reg.addr 0 != f.reg.addr 0 ||
      (Reg.GLB_STATUS.UPDATING.fits && f.fits && Reg.GLB_STATUS.UPDATING.apart f)) = true) :
    (mismatchRaised p d).get f = d.get f := by
  rw [mismatchRaised, Dev.get_set_other _ _ _ _ h3, Dev.get_sat_other _ h2, Dev.cause_get _ _ _ _ _ _ h1, Dev.event_get]

theorem mismatchRaised_restarts (p : Nat) (d : Dev) : (mismatchRaised p d).get Reg.GLB_XAORN.RESTARTS =
    min (d.get Reg.GLB_XAORN.RESTARTS + 1) (2 ^ Reg.GLB_XAORN.RESTARTS.width - 1) := by
  rw [mismatchRaised, Dev.get_set_other _ _ _ _ rfl, Dev.get_sat_same _ _ rfl, Dev.cause_get _ _ _ _ _ _ (by decide),
    Dev.event_get]

theorem mismatchRaised_bit (p : Nat) (d : Dev) : bitOf ((mismatchRaised p d).word intGlb.addr) 4 = true := by
  rw [mismatchRaised]
  refine Dev.bit_setN _ Reg.GLB_STATUS.UPDATING 0 1 (by decide) (Dev.bit_setN _ Reg.GLB_XAORN.RESTARTS 0 _ (by decide) ?_)
  exact Dev.cause_sets _ _ _ _ _ (by omega)

theorem lockstepMismatch_restarts {p : Nat} (hx : d.pwr.xaornRuns = true) (hu : d.up islMgt = true) (hp : p < 2)
    (hf : d.on Reg.GLB_STATUS.XFAIL = false) :
    lockstepMismatch t p d = xaornStart t (d.get Reg.GLB_STATUS.SLOT) (mismatchRaised p d) := by
  have hs : (mismatchRaised p d).get Reg.GLB_STATUS.SLOT = d.get Reg.GLB_STATUS.SLOT :=
    mismatchRaised_get p d _ (by decide) (by decide) rfl
  have hn : ¬ (mismatchRaised p d).on Reg.GLB_STATUS.XFAIL = true := by
    have hg := mismatchRaised_get p d Reg.GLB_STATUS.XFAIL (by decide) (by decide) rfl
    have ho : (mismatchRaised p d).on Reg.GLB_STATUS.XFAIL = d.on Reg.GLB_STATUS.XFAIL := congrArg (· != 0) hg
    simp [ho, hf]
  unfold lockstepMismatch
  rw [if_pos ⟨hx, hu, hp⟩, ← hs]
  exact if_neg hn

theorem mismatch_restarts :
    ∀ (s : State) (p : Nat), s.dev.pwr.xaornRuns = true → s.dev.up islMgt = true → p < 2 →
    s.dev.on Reg.GLB_STATUS.XFAIL = false →
    ∃ t, exec (.lockstepMismatch p) s = .next t ∧ t.dev.on Reg.GLB_STATUS.UPDATING = true ∧
      t.dev.on Reg.GLB_STATUS.XAORN_RUN = false ∧ t.dev.get Reg.GLB_STATUS.SLOT = s.dev.get Reg.GLB_STATUS.SLOT ∧
      t.dev.pwr.xaornFrom = s.time.loc ∧ t.dev.get Reg.GLB_XAORN.RESTARTS =
        min (s.dev.get Reg.GLB_XAORN.RESTARTS + 1) (2 ^ Reg.GLB_XAORN.RESTARTS.width - 1) ∧
      bitOf (t.dev.word intGlb.addr) 4 = true := by
  intro s p hx hu hp hf
  refine ⟨_, by rw [exec_lockstepMismatch, lockstepMismatch_restarts hx hu hp hf], ?_, ?_, ?_, ?_, ?_, ?_⟩
  · rw [(glbStatus_after _ _ rfl).2, xaornStart_updating]
    exact Dev.on_set_same _ _ _ rfl
  · rw [(glbStatus_after _ _ rfl).2, xaornStart_run]
  · rw [(glbStatus_after _ _ rfl).1, xaornStart_slot (Dev.getN_lt ..)]
  · rw [after_pwr]
    rfl
  · rw [after_get _ _ _ (notIntake_of_lt (by decide)), xaornStart_get _ _ rfl rfl rfl, mismatchRaised_restarts]
  · rw [after_word _ _ _ (notIntake_of_lt (by decide)), xaornStart_word _ (by decide), mismatchRaised_bit]

/-- Settles O56: the firmware commands, the report and its limit, and a lockstep mismatch. -/
theorem firmware : Obligations.Firmware :=
  ⟨⟨status_small, fw_unprogrammed, status_replies, image_written, image_checked, image_activated, settings_written⟩, report_idle,
    report_plain, report_updated, update_waits, update_fails, mismatch_idle, mismatch_restarts⟩

end Sys2Proof.Machine

/-!
PROOFS. O59: the Lookout's samples, bins and limits, the enabling of a probe, and the snapshots (R590 to R594).
-/

namespace Sys2Proof.Machine

open Sys2Proof

variable {d e : Dev} {t : Time} {p k i n : Nat} {v : Int}

theorem exec_lkoSnapshot (v : Word32) (s : State) :
    exec (.lkoSnapshot v) s = .next (s.after (onWrite 0x128008 (lkoSnapshot s.time v) s.dev)) := rfl

theorem exec_probeEnable (p : Nat) (v : Word32) (s : State) :
    exec (.probeEnable p v) s =
      .next (s.after (if p < lkoProbes then onWrite (probeAddr p) (probeWrite0 p v) s.dev else s.dev)) := rfl

theorem exec_probeSample (kind index : Nat) (v : Int) (lost : Nat) (s : State) :
    exec (.probeSample kind index v lost) s = .next (s.after (probeSample kind index v lost s.dev)) := rfl

/-! ## Bins -/

theorem linear_bin :
    ∀ (base : Int) (w : Nat) (v : Int), probeBin false base w v = if v < base then 0
    else min 63 (((v - base) / ((max 1 w : Nat) : Int)).toNat + 1) := fun _ _ _ => rfl

theorem belowOctave_iff (base : Nat) (i : Nat) (hv : 0 ≤ v) : belowOctave base i v = true ↔ (v.toNat + 1) ^ 4 ≤ base ^ 4 * 2 ^ i := by
  unfold belowOctave
  simp [Int.not_lt.mpr hv]

/-- The bounds of the octaves rise. -/
theorem octave_mono (base : Nat) {i j : Nat} (h : i ≤ j) : base ^ 4 * 2 ^ i ≤ base ^ 4 * 2 ^ j :=
  Nat.mul_le_mul_left _ (Nat.pow_le_pow_right (by decide) h)

theorem octave_first (base : Nat) (hv : 0 ≤ v) (hi : i < 62) :
    (List.range 62).find? (fun i => belowOctave base (i + 1) v) = some i ↔
      (v.toNat + 1) ^ 4 ≤ base ^ 4 * 2 ^ (i + 1) ∧ ∀ j < i, base ^ 4 * 2 ^ (j + 1) < (v.toNat + 1) ^ 4 := by
  have hn (j : Nat) : (!belowOctave base (j + 1) v) = true ↔ base ^ 4 * 2 ^ (j + 1) < (v.toNat + 1) ^ 4 := by
    rw [Bool.not_eq_true', ← Bool.not_eq_true, belowOctave_iff base (j + 1) hv, Nat.not_le]
  rw [List.find?_range_eq_some, belowOctave_iff base (i + 1) hv]
  simp only [List.mem_range, hi, true_and, hn]

theorem octave_bin :
    ∀ (base w i : Nat) (v : Int), 1 ≤ base → i < 62 → (base : Int) ≤ v →
    (probeBin true base w v = i + 1 ↔ base ^ 4 * 2 ^ i < (v.toNat + 1) ^ 4 ∧ (v.toNat + 1) ^ 4 ≤ base ^ 4 * 2 ^ (i + 1)) := by
  intro base w i v hb hi hv
  have h0 : 0 ≤ v := by omega
  have hbin : probeBin true base w v = i + 1 ↔
      (List.range 62).find? (fun i => belowOctave base (i + 1) v) = some i := by
    unfold probeBin
    rw [if_neg (Int.not_lt.mpr hv), if_pos rfl, Int.toNat_natCast]
    cases (List.range 62).find? (fun i => belowOctave base (i + 1) v) with
    | none =>
      simp only [reduceCtorEq, iff_false]
      omega
    | some j => simp
  rw [hbin, octave_first base h0 hi, and_comm]
  refine and_congr_left fun _ => ⟨fun hlow => ?_, fun hlow j hj => ?_⟩
  · cases i with
    | zero =>
      rw [Nat.pow_zero, Nat.mul_one]
      exact Nat.pow_lt_pow_left (by omega) (by decide)
    | succ i => exact hlow i (Nat.lt_succ_self i)
  · exact Nat.lt_of_le_of_lt (octave_mono base hj) hlow

/-! ## Samples -/

/-- The words of the probes. -/
def ProbeWord (a : Nat) : Prop := 0x3C2000 ≤ a ∧ a < 0x3C3000

/-- The bin of a value at a probe. -/
def probeBinAt (d : Dev) (p : Nat) (x : Int) : Nat :=
  probeBin (d.onN Reg.T_PROBE.MODE p) (sint 32 (d.getN Reg.T_PROBE.BASE p)) (d.getN Reg.T_PROBE.WIDTH p) x

/-- Is the value above the probe's limit? -/
def beyondLimit (d : Dev) (p : Nat) (x : Int) : Prop :=
  sint 32 (d.getN Reg.T_PROBE.LIMIT p) ≠ 0 ∧ sint 32 (d.getN Reg.T_PROBE.LIMIT p) < x

/-- The bit of a probe in LKO_OVER0 or LKO_OVER1. -/
def overField (p : Nat) : Field := if p < 32 then Reg.LKO_OVER0.P else Reg.LKO_OVER1.P

/-- A sample joins a probe, and the samples lost beside it are counted. -/
def sampled (v : Int) (lost : Nat) (d : Dev) (p : Nat) : Dev :=
  { d with lko := tmod d.lko p (probeAdd (probeBinAt d p (satInt 32 v)) (satInt 32 v)) }.addSat Reg.LKO_CNT_LOST.N 0 lost

/-- The probe's limit has been passed. -/
def overRaised (p : Nat) (x : Int) (d : Dev) : Dev :=
  ((d.set (overField p) (d.get (overField p) ||| 2 ^ (p % 32))).cause intLko 0 0 0).event 560 0 p (unsig 64 x)

theorem probeTake_beyond {lost : Nat} (h : beyondLimit d p (satInt 32 v)) :
    probeTake v lost d p = overRaised p (satInt 32 v) (sampled v lost d p) := if_pos h

theorem probeTake_within {lost : Nat} (h : ¬ beyondLimit d p (satInt 32 v)) : probeTake v lost d p = sampled v lost d p := if_neg h

theorem overField_addr (p : Nat) : (overField p).reg.addr 0 = if p < 32 then 0x12800C else 0x128010 := by
  unfold overField
  split <;> rfl

theorem overField_fits (p : Nat) : (overField p).fits = true := by
  unfold overField
  split <;> rfl

theorem overField_width (p : Nat) : (overField p).width = 32 := by
  unfold overField
  split <;> rfl

theorem overField_low (p : Nat) : (overField p).reg.addr 0 < 0x128014 := by
  rw [overField_addr]
  split <;> decide

theorem overRaised_lko (x : Int) : (overRaised p x d).lko = d.lko := by
  rw [overRaised, Dev.event_lko, Dev.cause_lko, Dev.set_lko]

theorem probeTake_lko (lost : Nat) :
    (probeTake v lost d p).lko = tmod d.lko p (probeAdd (probeBinAt d p (satInt 32 v)) (satInt 32 v)) := by
  by_cases h : beyondLimit d p (satInt 32 v)
  · rw [probeTake_beyond h]
    exact overRaised_lko _
  · rw [probeTake_within h]
    rfl

theorem overRaised_apart (x : Int) : Apart ProbeWord d (overRaised p x d) := by
  have h1 : ¬ ProbeWord ((overField p).reg.addr 0) := fun h => by
    have := overField_low p
    unfold ProbeWord at h
    omega
  exact (((Apart.refl ProbeWord d).set h1).cause (b := intLko) (by unfold ProbeWord; decide)).event

theorem sampled_apart (lost : Nat) : Apart ProbeWord d (sampled v lost d p) :=
  ((Apart.refl ProbeWord d).ofRegs rfl).addSat (by unfold ProbeWord; decide)

theorem probeTake_apart (lost : Nat) : Apart ProbeWord d (probeTake v lost d p) := by
  by_cases h : beyondLimit d p (satInt 32 v)
  · rw [probeTake_beyond h]
    exact (sampled_apart lost).trans (overRaised_apart _)
  · rw [probeTake_within h]
    exact sampled_apart lost

theorem Dev.getN_addSat_same (d : Dev) (f : Field) (i n : Nat) (hf : f.fits = true) :
    (d.addSat f i n).getN f i = min (d.getN f i + n) (2 ^ f.width - 1) := by
  have hpos : 0 < 2 ^ f.width := Nat.two_pow_pos _
  rw [Dev.addSat, Dev.getN_setN_same _ _ _ _ hf]
  exact Nat.mod_eq_of_lt (by omega)

theorem overRaised_lost (x : Int) : (overRaised p x d).get Reg.LKO_CNT_LOST.N = d.get Reg.LKO_CNT_LOST.N := by
  have h1 : Reg.LKO_CNT_LOST.N.reg.addr 0 ≠ (overField p).reg.addr 0 := (overField_low p).ne'
  rw [overRaised, Dev.event_get, Dev.cause_get _ _ _ _ _ _ (by decide)]
  exact Dev.getN_setN_addr _ _ _ _ _ _ h1

theorem probeTake_lost (lost : Nat) : (probeTake v lost d p).get Reg.LKO_CNT_LOST.N =
    min (d.get Reg.LKO_CNT_LOST.N + lost) (2 ^ 32 - 1) := by
  have hs : (sampled v lost d p).get Reg.LKO_CNT_LOST.N = min (d.get Reg.LKO_CNT_LOST.N + lost) (2 ^ 32 - 1) :=
    Dev.getN_addSat_same _ Reg.LKO_CNT_LOST.N 0 lost rfl
  by_cases h : beyondLimit d p (satInt 32 v)
  · rw [probeTake_beyond h, overRaised_lost, hs]
  · rw [probeTake_within h, hs]

theorem overRaised_cause (x : Int) : bitOf ((overRaised p x d).word intLko.addr) 0 = true :=
  Dev.cause_sets _ intLko 0 0 0 (by omega)

theorem overRaised_bit (x : Int) : ((overRaised p x d).get (overField p)).testBit (p % 32) = true := by
  have ha : (overField p).reg.addr 0 ≠ intLko.addr := by
    rw [overField_addr]
    split <;> decide
  rw [overRaised, Dev.event_get, Dev.cause_get _ _ _ _ _ _ ha]
  show ((Dev.setN _ _ _ _).getN _ _).testBit _ = _
  rw [Dev.getN_setN_same _ _ _ _ (overField_fits p), overField_width, Nat.testBit_mod_two_pow, Nat.testBit_or,
    Nat.testBit_two_pow_self, Bool.or_true, Bool.and_true]
  exact decide_eq_true (Nat.mod_lt p (by decide))

theorem probe_addr0 (p : Nat) : At.T_PROBE_0.addr p = 0x3C2000 + p * 16 := RegAt.addr_single rfl p

theorem probe_addr1 (p : Nat) : At.T_PROBE_1.addr p = 0x3C2004 + p * 16 := RegAt.addr_single rfl p

theorem probe_addr2 (p : Nat) : At.T_PROBE_2.addr p = 0x3C2008 + p * 16 := RegAt.addr_single rfl p

theorem probeBinAt_congr (h : Apart ProbeWord e d) (hp : p < 64) (x : Int) : probeBinAt d p x = probeBinAt e p x := by
  unfold probeBinAt
  rw [h.onN (f := Reg.T_PROBE.MODE) (i := p) (by show ProbeWord (At.T_PROBE_0.addr p); rw [probe_addr0]; unfold ProbeWord; omega),
    h.getN (f := Reg.T_PROBE.BASE) (i := p) (by show ProbeWord (At.T_PROBE_1.addr p); rw [probe_addr1]; unfold ProbeWord; omega),
    h.getN (f := Reg.T_PROBE.WIDTH) (i := p) (by show ProbeWord (At.T_PROBE_2.addr p); rw [probe_addr2]; unfold ProbeWord; omega)]

/-- What the probes of a list hold after each has taken the sample, in the order of the list. -/
theorem probesTake_lko (e : Dev) (lost q : Nat) : ∀ (l : List Nat) (d : Dev), Apart ProbeWord e d → (∀ p ∈ l, p < 64) → l.Nodup →
    tget (l.foldl (probeTake v lost) d).lko q =
      if q ∈ l then probeAdd (probeBinAt e q (satInt 32 v)) (satInt 32 v) (tget d.lko q) else tget d.lko q
  | [], _, _, _, _ => by simp
  | p :: l, d, ha, hl, hn => by
    obtain ⟨hp, hl⟩ := List.forall_mem_cons.mp hl
    obtain ⟨hpl, hn⟩ := List.nodup_cons.mp hn
    rw [List.foldl_cons, probesTake_lko e lost q l _ (ha.trans (probeTake_apart lost)) hl hn, probeTake_lko,
      probeBinAt_congr ha hp, tget_tmod]
    by_cases hq : q = p
    · subst hq
      simp [hpl]
    · simp [hq]

theorem probesTake_lost (lost : Nat) : ∀ (l : List Nat) (d : Dev), (l.foldl (probeTake v lost) d).get Reg.LKO_CNT_LOST.N =
    min (d.get Reg.LKO_CNT_LOST.N + lost * l.length) (2 ^ 32 - 1)
  | [], d => by
    have h : d.get Reg.LKO_CNT_LOST.N < 2 ^ 32 := Dev.getN_lt ..
    simp only [List.foldl_nil, List.length_nil, Nat.mul_zero, Nat.add_zero]
    omega
  | p :: l, d => by
    rw [List.foldl_cons, probesTake_lost lost l, probeTake_lost, List.length_cons, Nat.mul_succ]
    omega

theorem probeSample_taken {lost : Nat} (hu : d.up islMgt = true) (he : d.on Reg.LKO_CTRL.EN = true) (h1 : 1 ≤ k) (h2 : k ≤ 15) :
    probeSample k i v lost d = ((List.range 64).filter (probeHears d k i)).foldl (probeTake v lost) d :=
  if_pos ⟨hu, he, h1, h2⟩

theorem sample_unheard :
    ∀ (s : State) (k i : Nat) (v : Int) (n : Nat), s.dev.up islMgt = false ∨ s.dev.on Reg.LKO_CTRL.EN = false ∨ k = 0 ∨
      15 < k ∨ (∀ p, p < 64 → probeHears s.dev k i p = false) →
    exec (.probeSample k i v n) s = .next (s.after s.dev) := by
  intro s k i v n hc
  rw [exec_probeSample]
  by_cases hg : s.dev.up islMgt = true ∧ s.dev.on Reg.LKO_CTRL.EN = true ∧ 1 ≤ k ∧ k ≤ 15
  · obtain ⟨hu, he, h1, h2⟩ := hg
    have hn : ∀ p, p < 64 → probeHears s.dev k i p = false := by
      rcases hc with hc | hc | hc | hc | hc
      · simp [hu] at hc
      · simp [he] at hc
      · omega
      · omega
      · exact hc
    have hf : (List.range 64).filter (probeHears s.dev k i) = [] :=
      List.filter_eq_nil_iff.mpr fun p hp => by simp [hn p (List.mem_range.mp hp)]
    rw [probeSample_taken hu he h1 h2, hf, List.foldl_nil]
  · exact congrArg (fun d => Host.Outcome.next (s.after d)) (if_neg hg)

theorem satInt_within (h1 : -2 ^ 31 ≤ v) (h2 : v < 2 ^ 31) : satInt 32 v = v := by
  unfold satInt
  norm_num
  omega

theorem probeAdd_bounds (b : Nat) (v : Int) (a : Probe) : (probeAdd b v a).low ≤ v ∧ v ≤ (probeAdd b v a).high := by
  unfold probeAdd
  dsimp only
  split
  · exact ⟨le_refl _, le_refl _⟩
  · exact ⟨min_le_right _ _, le_max_right _ _⟩

theorem notIntake_above {a : Nat} (h : 0x3C2000 ≤ a) : ¬ intakeWord a := by
  rintro (h1 | h1 | h1 | h1 | ⟨c, hc, h1⟩) <;> omega

theorem notIntake_lookout {a : Nat} (h1 : 0x128000 ≤ a) (h2 : a < 0x129000) : ¬ intakeWord a :=
  notIntake_between (by omega) (by omega)

theorem sample_alone :
    ∀ (s : State) (k i p : Nat) (v : Int), s.dev.up islMgt = true → s.dev.on Reg.LKO_CTRL.EN = true → 1 ≤ k → k ≤ 15 →
    (List.range 64).filter (probeHears s.dev k i) = [p] → -2 ^ 31 ≤ v → v < 2 ^ 31 →
    ∃ t, exec (.probeSample k i v 0) s = .next t ∧ (tget t.dev.lko p).count = min ((tget s.dev.lko p).count + 1) (2 ^ 32 - 1) ∧
      (tget t.dev.lko p).low ≤ v ∧ v ≤ (tget t.dev.lko p).high ∧
      (tget t.dev.lko p).sum = satInt 64 ((tget s.dev.lko p).sum + v) ∧
      (∀ q, q ≠ p → tget t.dev.lko q = tget s.dev.lko q) ∧
      (sint 32 (s.dev.getN Reg.T_PROBE.LIMIT p) ≠ 0 → sint 32 (s.dev.getN Reg.T_PROBE.LIMIT p) < v →
        bitOf (t.dev.word intLko.addr) 0 = true ∧ (if p < 32 then (t.dev.get Reg.LKO_OVER0.P).testBit p
          else (t.dev.get Reg.LKO_OVER1.P).testBit (p - 32)) = true) := by
  intro s k i p v hu he h1 h2 hf hlo hhi
  have hp : p < 64 := List.mem_range.mp (List.mem_of_mem_filter (hf ▸ List.mem_singleton_self p))
  have hlko : (probeTake v 0 s.dev p).lko = tmod s.dev.lko p (probeAdd (probeBinAt s.dev p v) v) := by
    rw [probeTake_lko, satInt_within hlo hhi]
  refine ⟨_, by rw [exec_probeSample, probeSample_taken hu he h1 h2, hf, List.foldl_cons, List.foldl_nil], ?_⟩
  rw [after_lko, hlko, tget_tmod_same]
  refine ⟨rfl, (probeAdd_bounds _ v _).1, (probeAdd_bounds _ v _).2, rfl, fun q hq => ?_, fun hl hx => ?_⟩
  · rw [tget_tmod, if_neg hq]
  · have hb : beyondLimit s.dev p (satInt 32 v) := by
      rw [satInt_within hlo hhi]
      exact ⟨hl, hx⟩
    have hbit := overRaised_bit (d := sampled v 0 s.dev p) (p := p) (satInt 32 v)
    rw [probeTake_beyond hb, after_word _ _ _ (notIntake_lookout (by decide) (by decide)), overRaised_cause]
    refine ⟨rfl, ?_⟩
    split
    · next h32 =>
      rw [after_get _ _ _ (notIntake_lookout (by decide) (by decide))]
      rwa [overField, if_pos h32, Nat.mod_eq_of_lt h32] at hbit
    · next h32 =>
      rw [after_get _ _ _ (notIntake_lookout (by decide) (by decide))]
      rwa [overField, if_neg h32, show p % 32 = p - 32 by omega] at hbit

theorem sample_everywhere :
    ∀ (s : State) (k i n : Nat) (v : Int), s.dev.up islMgt = true → s.dev.on Reg.LKO_CTRL.EN = true → 1 ≤ k → k ≤ 15 →
    ∃ t, exec (.probeSample k i v n) s = .next t ∧
      (∀ p, p < 64 → probeHears s.dev k i p = true → tget t.dev.lko p = probeAdd (probeBin (s.dev.onN Reg.T_PROBE.MODE p)
        (sint 32 (s.dev.getN Reg.T_PROBE.BASE p)) (s.dev.getN Reg.T_PROBE.WIDTH p) (satInt 32 v)) (satInt 32 v)
        (tget s.dev.lko p)) ∧
      (∀ p, 64 ≤ p ∨ probeHears s.dev k i p = false → tget t.dev.lko p = tget s.dev.lko p) ∧
      t.dev.get Reg.LKO_CNT_LOST.N = min (s.dev.get Reg.LKO_CNT_LOST.N +
        n * ((List.range 64).filter (probeHears s.dev k i)).length) (2 ^ 32 - 1) := by
  intro s k i n v hu he h1 h2
  have hl : ∀ q ∈ (List.range 64).filter (probeHears s.dev k i), q < 64 := fun q hq =>
    List.mem_range.mp (List.mem_of_mem_filter hq)
  have hq := fun q => probesTake_lko (v := v) s.dev n q _ s.dev (.refl _ _) hl (List.nodup_range.filter _)
  refine ⟨_, by rw [exec_probeSample, probeSample_taken hu he h1 h2], fun p hp hh => ?_, fun p hp => ?_, ?_⟩
  · rw [after_lko, hq, if_pos (List.mem_filter.mpr ⟨List.mem_range.mpr hp, hh⟩)]
    rfl
  · rw [after_lko, hq, if_neg]
    rw [List.mem_filter, List.mem_range]
    rintro ⟨h1, h2⟩
    rcases hp with hp | hp
    · omega
    · simp [hp] at h2
  · rw [after_get _ _ _ (notIntake_lookout (by decide) (by decide)), probesTake_lost]

/-! ## Enabling a probe (R591) -/

section
variable {v : Word32}

/-- A field of a table word above bit 0, after the word was written without it. -/
theorem getN_putUnvalid (d : Dev) {f : Field} {i : Nat} (hf : f ∈ fieldsAt (f.reg.addr i)) (hfit : f.fits = true) (hl : 0 < f.lo) :
    (d.putUnvalid (f.reg.addr i) v).getN f i = bits v.toNat f.lo f.width := by
  have hr : (d.putUnvalid (f.reg.addr i) v).getN f i = f.ofWord ((d.putUnvalid (f.reg.addr i) v).word (f.reg.addr i)) := rfl
  rw [hr, Dev.putUnvalid, Dev.word_putWord, Field.ofWord, bits]
  refine Nat.eq_of_testBit_eq fun k => ?_
  rw [Nat.testBit_mod_two_pow, Nat.testBit_mod_two_pow, Nat.testBit_shiftRight, Nat.testBit_shiftRight]
  by_cases hk : k < f.width
  · have hm : (maskOf (fieldsAt (f.reg.addr i))).getLsbD (f.lo + k) = true := by
      rw [maskOf_bit]
      refine List.any_eq_true.mpr ⟨f, hf, ?_⟩
      rw [Field.mask_bit f hfit]
      simp [hk]
    have h32 : f.lo + k < 32 := by
      by_contra hge
      rw [BitVec.getLsbD_of_ge _ _ (by omega)] at hm
      cases hm
    have hone : (~~~(1 : Word32)).getLsbD (f.lo + k) = true := by
      have hne : f.lo + k ≠ 0 := by omega
      rw [BitVec.getLsbD_not]
      show (decide _ && !BitVec.getLsbD (1#32) _) = true
      rw [BitVec.getLsbD_one]
      simp only [h32, hne, decide_true, decide_false, Bool.and_false, Bool.not_false, Bool.and_self]
    show (_ && BitVec.getLsbD _ _) = (_ && BitVec.getLsbD _ _)
    rw [BitVec.getLsbD_and, BitVec.getLsbD_and, hm, hone]
    simp
  · simp [hk]

theorem probeAddr_eq (p : Nat) : probeAddr p = At.T_PROBE_0.addr p := by
  rw [probe_addr0, probeAddr]
  omega

theorem probe_notIntake (p : Nat) : ¬ intakeWord (At.T_PROBE_0.addr p) := notIntake_above (by rw [probe_addr0]; omega)

theorem probe_field {f : Field} (hf : f ∈ [Reg.T_PROBE.EN, Reg.T_PROBE.KIND, Reg.T_PROBE.MODE, Reg.T_PROBE.INDEX]) (hp : p < 64) :
    f ∈ fieldsAt (At.T_PROBE_0.addr p) := by
  have hr : f.reg = At.T_PROBE_0 := by
    revert f
    decide
  refine List.mem_filter.mpr ⟨?_, ?_⟩
  · revert f
    decide +kernel
  · rw [hr]
    exact index?_single rfl (by decide) hp

/-- The word of a probe without EN. -/
def probeWord (p : Nat) (v : Word32) (d : Dev) : Dev := d.putUnvalid (At.T_PROBE_0.addr p) v

/-- Does a probe pass its checks (R591)? -/
def probeOk (d : Dev) (p : Nat) : Prop :=
  d.getN Reg.T_PROBE.KIND p ≤ 15 ∧ probeIndexOk (d.getN Reg.T_PROBE.KIND p) (d.getN Reg.T_PROBE.INDEX p) = true ∧
    (if d.onN Reg.T_PROBE.MODE p then 1 ≤ sint 32 (d.getN Reg.T_PROBE.BASE p) else 1 ≤ (d.getN Reg.T_PROBE.WIDTH p : Int))

theorem probeWrite0_off (h : d.onN Reg.T_PROBE.EN p = false) :
    (bitOf v 0 = false → probeWrite0 p v d = (probeWord p v d).setN Reg.T_PROBE.EN p 0) ∧
    (bitOf v 0 = true → probeOk (probeWord p v d) p → probeWrite0 p v d =
      { (probeWord p v d).setN Reg.T_PROBE.EN p 1 with lko := tset d.lko p default }) ∧
    (bitOf v 0 = true → ¬ probeOk (probeWord p v d) p → probeWrite0 p v d = lkoRej (probeWord p v d)) := by
  have hb : bitOf (d.word (At.T_PROBE_0.addr p)) 0 = false := (Dev.onN_bit d (f := Reg.T_PROBE.EN) rfl).symm.trans h
  unfold probeWrite0
  rw [probeAddr_eq]
  dsimp only
  rw [hb]
  refine ⟨fun hv => ?_, fun hv hk => ?_, fun hv hk => ?_⟩
  · rw [hv]
    rfl
  · rw [hv]
    exact if_pos hk
  · rw [hv]
    exact if_neg hk

theorem probeWrite0_on (h : d.onN Reg.T_PROBE.EN p = true) (hv : bitOf v 0 = false) :
    ∃ d1, (d1 = d ∨ d1 = lkoRej d) ∧ probeWrite0 p v d = d1.setN Reg.T_PROBE.EN p 0 := by
  have hb : bitOf (d.word (At.T_PROBE_0.addr p)) 0 = true := (Dev.onN_bit d (f := Reg.T_PROBE.EN) rfl).symm.trans h
  unfold probeWrite0
  rw [probeAddr_eq]
  dsimp only
  rw [hb, hv]
  exact ⟨_, (ite_eq_or_eq ..).symm, rfl⟩

theorem onN_setN_zero (d : Dev) (f : Field) (i : Nat) (hf : f.fits = true) : (d.setN f i 0).onN f i = false := by
  rw [Dev.onN, Dev.getN_setN_same _ _ _ _ hf, Nat.zero_mod]
  rfl

theorem probeWord_other {f : Field} {p : Nat} (h : f.reg.addr p ≠ At.T_PROBE_0.addr p) :
    (probeWord p v d).getN f p = d.getN f p := getN_of_word (Dev.word_putWord_other d _ h)

theorem probeWord_ok (hp : p < 64) : probeOk (probeWord p v d) p ↔ bits v.toNat 1 5 ≤ 15 ∧
    probeIndexOk (bits v.toNat 1 5) (bits v.toNat 16 16) = true ∧
    (if bits v.toNat 6 1 = 1 then 1 ≤ sint 32 (d.getN Reg.T_PROBE.BASE p) else 1 ≤ d.getN Reg.T_PROBE.WIDTH p) := by
  have hk : (probeWord p v d).getN Reg.T_PROBE.KIND p = bits v.toNat 1 5 :=
    getN_putUnvalid d (f := Reg.T_PROBE.KIND) (probe_field (by decide) hp) rfl (by decide)
  have hi : (probeWord p v d).getN Reg.T_PROBE.INDEX p = bits v.toNat 16 16 :=
    getN_putUnvalid d (f := Reg.T_PROBE.INDEX) (probe_field (by decide) hp) rfl (by decide)
  have hm : (probeWord p v d).getN Reg.T_PROBE.MODE p = bits v.toNat 6 1 :=
    getN_putUnvalid d (f := Reg.T_PROBE.MODE) (probe_field (by decide) hp) rfl (by decide)
  have hb : (probeWord p v d).getN Reg.T_PROBE.BASE p = d.getN Reg.T_PROBE.BASE p :=
    probeWord_other (by show At.T_PROBE_1.addr p ≠ _; rw [probe_addr0, probe_addr1]; omega)
  have hw : (probeWord p v d).getN Reg.T_PROBE.WIDTH p = d.getN Reg.T_PROBE.WIDTH p :=
    probeWord_other (by show At.T_PROBE_2.addr p ≠ _; rw [probe_addr0, probe_addr2]; omega)
  have hbit : bits v.toNat 6 1 < 2 := bits_lt_two_pow ..
  unfold probeOk Dev.onN
  rw [hk, hi, hm, hb, hw]
  refine and_congr_right fun _ => and_congr_right fun _ => ?_
  by_cases h1 : bits v.toNat 6 1 = 1
  · simp [h1]
  · have h0 : bits v.toNat 6 1 = 0 := by omega
    simp only [h0, bne_self_eq_false, Bool.false_eq_true, if_false, zero_ne_one]
    omega

theorem probeWrite_up (s : State) (hp : p < 64) (hu : s.dev.up islMgt = true) :
    exec (.probeEnable p v) s = .next (s.after (probeWrite0 p v s.dev)) := by
  have hi : islandOf (probeAddr p) = islMgt := by
    rw [probeAddr]
    unfold islandOf
    iterate 23 rw [if_neg (by omega)]
    rfl
  rw [exec_probeEnable, if_pos (show p < lkoProbes from hp), onWrite_up (probeWrite0 p v) (by rw [hi]; exact hu)]

theorem probe_enabled :
    ∀ (s : State) (p : Nat) (v : Word32), p < 64 → s.dev.up islMgt = true → s.dev.onN Reg.T_PROBE.EN p = false →
    (bitOf v 0 = false → ∃ t, exec (.probeEnable p v) s = .next t ∧ t.dev.onN Reg.T_PROBE.EN p = false ∧
      t.dev.lko = s.dev.lko) ∧
    (bitOf v 0 = true → bits v.toNat 1 5 ≤ 15 → probeIndexOk (bits v.toNat 1 5) (bits v.toNat 16 16) = true →
      (if bits v.toNat 6 1 = 1 then 1 ≤ sint 32 (s.dev.getN Reg.T_PROBE.BASE p)
        else 1 ≤ s.dev.getN Reg.T_PROBE.WIDTH p) →
      ∃ t, exec (.probeEnable p v) s = .next t ∧ t.dev.onN Reg.T_PROBE.EN p = true ∧ tget t.dev.lko p = default) ∧
    (bitOf v 0 = true → 15 < bits v.toNat 1 5 ∨ probeIndexOk (bits v.toNat 1 5) (bits v.toNat 16 16) = false ∨
        (if bits v.toNat 6 1 = 1 then sint 32 (s.dev.getN Reg.T_PROBE.BASE p) < 1
          else s.dev.getN Reg.T_PROBE.WIDTH p < 1) →
      ∃ t, exec (.probeEnable p v) s = .next t ∧ t.dev.onN Reg.T_PROBE.EN p = false ∧ t.dev.lko = s.dev.lko ∧
        bitOf (t.dev.word intLko.addr) 1 = true) := by
  intro s p v hp hu he
  obtain ⟨h0, h1, h2⟩ := probeWrite0_off (v := v) he
  refine ⟨fun hv => ?_, fun hv hk hi hc => ?_, fun hv hc => ?_⟩
  · refine ⟨_, by rw [probeWrite_up s hp hu, h0 hv], ?_, ?_⟩
    · rw [after_onN _ _ _ _ (probe_notIntake p), onN_setN_zero _ _ _ rfl]
    · rw [after_lko]
      rfl
  · refine ⟨_, by rw [probeWrite_up s hp hu, h1 hv ((probeWord_ok hp).mpr ⟨hk, hi, hc⟩)], ?_, ?_⟩
    · rw [after_onN _ _ _ _ (probe_notIntake p)]
      exact Dev.onN_setN_same (probeWord p v s.dev) Reg.T_PROBE.EN p 1 rfl
    · rw [after_lko]
      exact tget_tset_same s.dev.lko p default
  · have hno : ¬ probeOk (probeWord p v s.dev) p := by
      rw [probeWord_ok hp]
      rintro ⟨hk, hi, hm⟩
      rcases hc with hc | hc | hc
      · omega
      · simp [hi] at hc
      · split at hm <;> rename_i h1 <;> simp only [h1, if_true, if_false] at hc <;> omega
    refine ⟨_, by rw [probeWrite_up s hp hu, h2 hv hno], ?_, ?_, ?_⟩
    · rw [after_onN _ _ _ _ (probe_notIntake p), lkoRej, Dev.cause_onN _ _ _ _ _ _ _ (by
        show At.T_PROBE_0.addr p ≠ 0x128004
        rw [probe_addr0]
        omega)]
      exact putUnvalid_invalid s.dev v (f := Reg.T_PROBE.EN) rfl rfl
    · rw [after_lko, lkoRej, Dev.cause_lko]
      rfl
    · rw [after_word _ _ _ (notIntake_lookout (by decide) (by decide))]
      exact Dev.cause_sets _ _ _ _ _ (by omega)

theorem probe_disabled :
    ∀ (s : State) (p : Nat) (v : Word32), p < 64 → s.dev.up islMgt = true → s.dev.onN Reg.T_PROBE.EN p = true →
    bitOf v 0 = false → ∃ t, exec (.probeEnable p v) s = .next t ∧ t.dev.onN Reg.T_PROBE.EN p = false ∧
      t.dev.lko = s.dev.lko ∧ t.dev.getN Reg.T_PROBE.KIND p = s.dev.getN Reg.T_PROBE.KIND p ∧
      t.dev.getN Reg.T_PROBE.INDEX p = s.dev.getN Reg.T_PROBE.INDEX p := by
  intro s p v hp hu he hv
  obtain ⟨d1, hd, hx⟩ := probeWrite0_on he hv
  have hlko : d1.lko = s.dev.lko := by
    rcases hd with rfl | rfl
    · rfl
    · rw [lkoRej, Dev.cause_lko]
  have hget (f : Field) (hf : f.reg = At.T_PROBE_0) : d1.getN f p = s.dev.getN f p := by
    rcases hd with rfl | rfl
    · rfl
    · rw [lkoRej, Dev.cause_getN]
      rw [hf, probe_addr0]
      show _ ≠ 0x128004
      omega
  refine ⟨_, by rw [probeWrite_up s hp hu, hx], ?_, ?_, ?_, ?_⟩
  · rw [after_onN _ _ _ _ (probe_notIntake p), onN_setN_zero _ _ _ rfl]
  · rw [after_lko]
    exact hlko
  · rw [after_getN _ _ _ _ (probe_notIntake p), Dev.getN_setN_apart _ _ _ _ _ _ rfl rfl rfl, hget _ rfl]
  · rw [after_getN _ _ _ _ (probe_notIntake p), Dev.getN_setN_apart _ _ _ _ _ _ rfl rfl rfl, hget _ rfl]

theorem probe_absent :
    ∀ (s : State) (p : Nat) (v : Word32), 64 ≤ p → exec (.probeEnable p v) s = .next (s.after s.dev) := by
  intro s p v hp
  rw [exec_probeEnable, if_neg (show ¬ p < lkoProbes from Nat.not_lt.mpr hp)]
end

/-! ## Snapshots (R593) -/

theorem snap_addr (j : Nat) : At.T_PSNAP.addr j = 0x3C8000 + 4 * j := by
  show 0x3C8000 + j / 128 * 0x200 + j % 128 * 4 = _
  omega

theorem getN_snap_other {i j x : Nat} (h : i ≠ j) : (d.setN Reg.T_PSNAP.W j x).getN Reg.T_PSNAP.W i = d.getN Reg.T_PSNAP.W i := by
  refine Dev.getN_setN_addr _ _ _ _ _ _ ?_
  show At.T_PSNAP.addr i ≠ At.T_PSNAP.addr j
  rw [snap_addr, snap_addr]
  omega

/-- Successive words of the snapshot table, written. -/
def snapFill (b : Nat) (w : Nat → Nat) (n : Nat) (d : Dev) : Dev :=
  (List.range n).foldl (fun d j => d.setN Reg.T_PSNAP.W (b + j) (w j)) d

theorem snapFill_succ (b : Nat) (w : Nat → Nat) (n : Nat) (d : Dev) :
    snapFill b w (n + 1) d = (snapFill b w n d).setN Reg.T_PSNAP.W (b + n) (w n) := by
  rw [snapFill, List.range_succ, List.foldl_append]
  rfl

theorem snapFill_lko (b : Nat) (w : Nat → Nat) (d : Dev) : ∀ n, (snapFill b w n d).lko = d.lko
  | 0 => rfl
  | n + 1 => by rw [snapFill_succ, Dev.setN_lko, snapFill_lko b w d n]

theorem snapFill_getN (b : Nat) (w : Nat → Nat) (d : Dev) : ∀ n j, j < n →
    (snapFill b w n d).getN Reg.T_PSNAP.W (b + j) = w j % 2 ^ 32
  | n + 1, j, hj => by
    rw [snapFill_succ]
    by_cases hn : j = n
    · subst hn
      exact Dev.getN_setN_same _ Reg.T_PSNAP.W _ _ rfl
    · rw [getN_snap_other (by omega), snapFill_getN b w d n j (by omega)]

theorem snapFill_other (b : Nat) (w : Nat → Nat) (d : Dev) {i : Nat} : ∀ n, i < b ∨ b + n ≤ i →
    (snapFill b w n d).getN Reg.T_PSNAP.W i = d.getN Reg.T_PSNAP.W i
  | 0, _ => rfl
  | n + 1, h => by rw [snapFill_succ, getN_snap_other (by omega), snapFill_other b w d n (by omega)]

theorem snapProbe_eq (clear : Bool) : snapProbe t clear d p =
    if clear then { snapFill (p * 128) (snapWord t (tget d.lko p)) 128 d with
      lko := tset (snapFill (p * 128) (snapWord t (tget d.lko p)) 128 d).lko p default }
    else snapFill (p * 128) (snapWord t (tget d.lko p)) 128 d := rfl

theorem snapProbe_lko (clear : Bool) : (snapProbe t clear d p).lko = if clear then tset d.lko p default else d.lko := by
  rw [snapProbe_eq]
  cases clear with
  | false => exact snapFill_lko (p * 128) _ d 128
  | true => exact congrArg (tset · p default) (snapFill_lko (p * 128) _ d 128)

theorem snapProbe_regs (clear : Bool) :
    (snapProbe t clear d p).regs = (snapFill (p * 128) (snapWord t (tget d.lko p)) 128 d).regs := by
  rw [snapProbe_eq]
  split <;> rfl

theorem snapProbe_word (clear : Bool) {j : Nat} (hj : j < 128) :
    (snapProbe t clear d p).getN Reg.T_PSNAP.W (p * 128 + j) = snapWord t (tget d.lko p) j % 2 ^ 32 := by
  rw [getN_ofRegs (snapProbe_regs clear), snapFill_getN _ _ _ _ _ hj]

theorem snapProbe_other (clear : Bool) {i : Nat} (h : i < p * 128 ∨ p * 128 + 128 ≤ i) :
    (snapProbe t clear d p).getN Reg.T_PSNAP.W i = d.getN Reg.T_PSNAP.W i := by
  rw [getN_ofRegs (snapProbe_regs clear), snapFill_other _ _ _ _ h]

/-- The first probes, copied into the snapshot table. -/
def snapFirst (t : Time) (clear : Bool) (n : Nat) (d : Dev) : Dev := (List.range n).foldl (snapProbe t clear) d

theorem snapFirst_succ (clear : Bool) (n : Nat) : snapFirst t clear (n + 1) d = snapProbe t clear (snapFirst t clear n d) n := by
  rw [snapFirst, List.range_succ, List.foldl_append]
  rfl

theorem snapFirst_lko (clear : Bool) (q : Nat) : ∀ n, tget (snapFirst t clear n d).lko q =
    if q < n ∧ clear = true then default else tget d.lko q
  | 0 => by simp [snapFirst]
  | n + 1 => by
    rw [snapFirst_succ, snapProbe_lko]
    cases clear with
    | false => simp [snapFirst_lko false q n]
    | true =>
      rw [if_pos rfl, tget_tset, snapFirst_lko true q n]
      by_cases hq : q = n
      · simp [hq]
      · simp only [hq, if_false, and_true]
        congr 1
        exact propext (by omega)

theorem snapFirst_word (clear : Bool) {j : Nat} (hj : j < 128) : ∀ n q, q < n →
    (snapFirst t clear n d).getN Reg.T_PSNAP.W (q * 128 + j) = snapWord t (tget d.lko q) j % 2 ^ 32
  | n + 1, q, hq => by
    rw [snapFirst_succ]
    by_cases hn : q = n
    · subst hn
      rw [snapProbe_word clear hj, snapFirst_lko, if_neg (by simp)]
    · rw [snapProbe_other clear (by omega), snapFirst_word clear hj n q (by omega)]

/-- LKO_SNAP holds what was written. -/
def snapAsked (v : Word32) (d : Dev) : Dev :=
  ((d.set Reg.LKO_SNAP.PROBE v.toNat).set Reg.LKO_SNAP.ALL (bits v.toNat 8 1)).set Reg.LKO_SNAP.CLEAR (bits v.toNat 9 1)

theorem exec_snapshot (s : State) (v : Word32) (hu : s.dev.up islMgt = true) :
    exec (.lkoSnapshot v) s = .next (s.after (if !bitOf v 31 then snapAsked v s.dev
      else if bitOf v 8 then snapFirst s.time (bitOf v 9) 64 (snapAsked v s.dev)
      else snapProbe s.time (bitOf v 9) (snapAsked v s.dev) (v.toNat % 64))) := by
  have hu' : s.dev.up (islandOf 0x128008) = true := hu
  rw [exec_lkoSnapshot, onWrite_up (lkoSnapshot s.time v) hu']
  rfl

theorem snap_notIntake (j : Nat) : ¬ intakeWord (At.T_PSNAP.addr j) := notIntake_above (by rw [snap_addr]; omega)

theorem snapshot_all :
    ∀ (s : State) (v : Word32), s.dev.up islMgt = true → bitOf v 31 = true → bitOf v 8 = true →
    ∃ t, exec (.lkoSnapshot v) s = .next t ∧
      (∀ p j, p < 64 → j < 128 → t.dev.getN Reg.T_PSNAP.W (p * 128 + j) =
        snapWord s.time (tget s.dev.lko p) j % 2 ^ 32) ∧
      (∀ p, p < 64 → tget t.dev.lko p = if bitOf v 9 then default else tget s.dev.lko p) := by
  intro s v hu hg ha
  refine ⟨_, by rw [exec_snapshot s v hu, if_neg (by simp [hg]), if_pos ha], fun p j hp hj => ?_, fun p hp => ?_⟩
  · rw [after_getN _ _ _ _ (snap_notIntake _), snapFirst_word _ hj _ _ hp]
    rfl
  · rw [after_lko, snapFirst_lko]
    simp only [hp, true_and]
    rfl

theorem snapshot_one :
    ∀ (s : State) (v : Word32), s.dev.up islMgt = true → bitOf v 31 = true → bitOf v 8 = false →
    ∃ t, exec (.lkoSnapshot v) s = .next t ∧
      (∀ j, j < 128 → t.dev.getN Reg.T_PSNAP.W (v.toNat % 64 * 128 + j) =
        snapWord s.time (tget s.dev.lko (v.toNat % 64)) j % 2 ^ 32) ∧
      t.dev.lko = (if bitOf v 9 then tset s.dev.lko (v.toNat % 64) default else s.dev.lko) := by
  intro s v hu hg ha
  refine ⟨_, by rw [exec_snapshot s v hu, if_neg (by simp [hg]), if_neg (by simp [ha])], fun j hj => ?_, ?_⟩
  · rw [after_getN _ _ _ _ (snap_notIntake _), snapProbe_word _ hj]
    rfl
  · rw [after_lko, snapProbe_lko]
    rfl

theorem snapshot_waits :
    ∀ (s : State) (v : Word32), s.dev.up islMgt = true → bitOf v 31 = false →
    ∃ t, exec (.lkoSnapshot v) s = .next t ∧ t.dev.lko = s.dev.lko ∧
      ∀ i, i < 8192 → t.dev.getN Reg.T_PSNAP.W i = s.dev.getN Reg.T_PSNAP.W i := by
  intro s v hu hg
  refine ⟨_, by rw [exec_snapshot s v hu, if_pos (by simp [hg])], ?_, fun i _ => ?_⟩
  · rw [after_lko]
    rfl
  · have ha (f : Field) (hf : f.reg.addr 0 = 0x128008) : Reg.T_PSNAP.W.reg.addr i ≠ f.reg.addr 0 := by
      rw [hf]
      show At.T_PSNAP.addr i ≠ _
      rw [snap_addr]
      omega
    rw [after_getN _ _ _ _ (snap_notIntake _), snapAsked]
    exact (Dev.getN_setN_addr _ _ _ _ _ _ (ha _ rfl)).trans ((Dev.getN_setN_addr _ _ _ _ _ _ (ha _ rfl)).trans
      (Dev.getN_setN_addr _ _ _ _ _ _ (ha _ rfl)))

/-- Settles O59: the samples, the enabling of a probe, and the snapshots. -/
theorem lookout : Obligations.Lookout :=
  ⟨sample_unheard, sample_alone, sample_everywhere, linear_bin, octave_bin, probe_enabled, probe_disabled, probe_absent,
    snapshot_all, snapshot_one, snapshot_waits⟩

end Sys2Proof.Machine

/-!
PROOFS. O60: the jobs of the compression engine and their results (R21, R596 to R598, R603, R605, R607).
-/

namespace Sys2Proof.Machine

open Sys2Proof

variable {d : Dev} {t : Time} {n l k op : Nat} {h : Taken} {src : List Byte} {j : CmpJob}

theorem exec_cmpJobComplete (lane : Nat) (s : State) :
    exec (.cmpJobComplete lane) s = .next (s.after (cmpJobComplete lane s.dev)) := rfl

/-- Both kinds of job start alike. -/
theorem exec_cmpStart (s : State) {x : Instr × Nat} (hx : x ∈ [(Instr.cmpCompress n src, 0x10), (.cmpDecompress n src, 0x11)]) :
    exec x.1 s = .next (s.after (cmpStart s.time n x.2 src s.dev)) := by
  rcases List.mem_cons.mp hx with rfl | hx
  · rfl
  · rw [List.mem_singleton.mp hx]
    rfl

/-! ## Counters and causes -/

/-- What a count of a job that completes keeps, once the job is counted. -/
theorem cmpCount_keeps {P : Dev → Prop} (st : Nat) (h : P (d.sat Reg.CMP_CNT_JOBS.N))
    (hs : ∀ x, ∀ f ∈ [Reg.CMP_CNT_FAIL.N, Reg.CMP_CNT_LIMIT.N, Reg.CMP_CNT_OUTFULL.N], P x → P (x.sat f))
    (hc : ∀ x k, P x → P (x.cause intCmp k 0 st)) : P (cmpCount st d) := by
  unfold cmpCount
  dsimp only
  have hf : P (((d.sat Reg.CMP_CNT_JOBS.N).sat Reg.CMP_CNT_FAIL.N).cause intCmp 0 0 st) := hc _ _ (hs _ _ (by simp) h)
  split
  · exact h
  · split
    · exact hc _ _ (hs _ _ (by simp) hf)
    · split
      · exact hs _ _ (by simp) hf
      · split
        · exact hc _ _ hf
        · exact hf

theorem Dev.cause_sent (d : Dev) (b : IntBlk) (k i x : Nat) : (d.cause b k i x).hif.sent = d.hif.sent := by
  have hc : (d.cause b k i x).hif = (d.raise b k).hif := rfl
  rcases Dev.raise_hif d b k with h | h <;> rw [hc, h]

theorem cmpCount_sent (st : Nat) (d : Dev) : (cmpCount st d).hif.sent = d.hif.sent :=
  cmpCount_keeps (P := fun x => x.hif.sent = d.hif.sent) st rfl (fun _ _ _ h => h) fun x k h => (Dev.cause_sent x intCmp k 0 st).trans h

theorem cmpCount_cmp (st : Nat) (d : Dev) : (cmpCount st d).cmp = d.cmp :=
  cmpCount_keeps (P := fun x => x.cmp = d.cmp) st rfl (fun _ _ _ h => h) fun x k h => (Dev.cause_cmp x intCmp k 0 st).trans h

theorem cmpCount_ring (st : Nat) (d : Dev) (n : Nat) : (cmpCount st d).ring n = d.ring n := congrArg (tget · n) (cmpCount_rings st d)

theorem cmpCount_jobs (st : Nat) (d : Dev) : (cmpCount st d).get Reg.CMP_CNT_JOBS.N =
    min (d.get Reg.CMP_CNT_JOBS.N + 1) (2 ^ Reg.CMP_CNT_JOBS.N.width - 1) := by
  refine cmpCount_keeps (P := fun x => x.get Reg.CMP_CNT_JOBS.N = _) st (Dev.get_sat_same d _ rfl) (fun x f hf hx => ?_)
    fun x k hx => (Dev.cause_get _ _ _ _ _ _ (by decide)).trans hx
  refine (Dev.get_sat_other x ?_).trans hx
  revert f
  decide

theorem cmpCount_rejected (d : Dev) : cmpCount stRejected d =
    ((d.sat Reg.CMP_CNT_JOBS.N).sat Reg.CMP_CNT_FAIL.N).cause intCmp 0 0 stRejected := rfl

theorem cmpCount_skipped (d : Dev) : cmpCount stSkipped d = d.sat Reg.CMP_CNT_JOBS.N := rfl

/-! ## Jobs that are refused -/

theorem cmpZero_written {ws : DescWords} (ho : cOutLen ws ≠ 0) : cmpZero ws d =
    hostWrite (.data (cOutAddr ws) (le (min 16 (cOutLen ws)) 0) (d.on Reg.HIF_CTRL.RO_EN)) d := if_neg ho

theorem cmpZero_regs (ws : DescWords) : (cmpZero ws d).regs = d.regs := by
  unfold cmpZero
  split <;> rfl

theorem cmpZero_cmp (ws : DescWords) : (cmpZero ws d).cmp = d.cmp := by
  unfold cmpZero
  split <;> rfl

theorem cmpRefuse_failed {st : Nat} (hs : st ≠ stSkipped) :
    cmpRefuse t n h st d = completeHead t n h st 0 [] (cmpCount st (cmpZero h.words d)) := by
  rw [cmpRefuse, if_neg hs]

theorem completeHead_cmp (st len : Nat) (ext : List Byte) : (completeHead t n h st len ext d).cmp = d.cmp := rfl

theorem completeHead_regs (st len : Nat) (ext : List Byte) : (completeHead t n h st len ext d).regs = d.regs := rfl

theorem cmpRefuse_cmp (st : Nat) : (cmpRefuse t n h st d).cmp = d.cmp := by
  unfold cmpRefuse
  dsimp only
  rw [completeHead_cmp, cmpCount_cmp]
  split
  · rfl
  · exact cmpZero_cmp _

theorem cmpRefuse_ring (st : Nat) : (cmpRefuse t n h st d).ring n = { d.ring n with
    taken := (d.ring n).taken.tail, headSince := t.loc,
    owed := (d.ring n).owed ++ [owedOf (d.ring n).cls h.idx h.words st 0 []] } := by
  have hz : (if st = stSkipped then d else cmpZero h.words d).ring n = d.ring n := by
    split
    · rfl
    · rw [Dev.ring, cmpZero_rings, ← Dev.ring]
  unfold cmpRefuse
  dsimp only
  rw [completeHead_ring, cmpCount_ring, hz]

theorem cmpRefuse_sent {st : Nat} (ho : cOutLen h.words ≠ 0) (hs : st ≠ stSkipped) : (cmpRefuse t n h st d).hif.sent =
    d.hif.sent ++ [.data (cOutAddr h.words) (le (min 16 (cOutLen h.words)) 0) (d.on Reg.HIF_CTRL.RO_EN)] := by
  rw [cmpRefuse_failed hs, completeHead_sent, cmpCount_sent, cmpZero_written ho, hostWrite_sent]

/-- The registers of a job refused with REJECTED. -/
theorem cmpRefuse_rejected_regs : (cmpRefuse t n h stRejected d).regs =
    (((((cmpZero h.words d).sat Reg.CMP_CNT_JOBS.N).sat Reg.CMP_CNT_FAIL.N).cause intCmp 0 0 stRejected)).regs := by
  rw [cmpRefuse_failed (by decide), completeHead_regs, cmpCount_rejected]

theorem cmpRefuse_rejected_fail : (cmpRefuse t n h stRejected d).get Reg.CMP_CNT_FAIL.N =
    min (d.get Reg.CMP_CNT_FAIL.N + 1) (2 ^ Reg.CMP_CNT_FAIL.N.width - 1) := by
  have hz : (cmpZero h.words d).get Reg.CMP_CNT_FAIL.N = d.get Reg.CMP_CNT_FAIL.N := getN_ofRegs (cmpZero_regs _) _ _
  rw [Dev.get, getN_ofRegs cmpRefuse_rejected_regs, ← Dev.get, Dev.cause_get _ _ _ _ _ _ (by decide), Dev.get_sat_same _ _ rfl,
    Dev.get_sat_other _ (by decide), hz]

theorem cmpRefuse_rejected_bit : bitOf ((cmpRefuse t n h stRejected d).word intCmp.addr) 0 = true := by
  rw [Dev.word, cmpRefuse_rejected_regs, ← Dev.word]
  exact Dev.cause_sets _ _ _ _ _ (by omega)

theorem cmpRefuse_skipped_fail : (cmpRefuse t n h stSkipped d).get Reg.CMP_CNT_FAIL.N = d.get Reg.CMP_CNT_FAIL.N :=
  Dev.get_sat_other d (by decide)

/-! ## Lanes -/

/-- The mask of the busy lanes has the bit of each. -/
theorem busyMask_bit (b : Nat → Bool) : ∀ k < 4,
    ((((List.range 4).map fun k => if b k then 2 ^ k else 0).sum) % 2 ^ 4).testBit k = b k := by
  have hall : ∀ b0 b1 b2 b3 : Bool,
      let m := ([if b0 then 1 else 0, if b1 then 2 else 0, if b2 then 4 else 0, if b3 then 8 else 0].sum) % 2 ^ 4
      m.testBit 0 = b0 ∧ m.testBit 1 = b1 ∧ m.testBit 2 = b2 ∧ m.testBit 3 = b3 := by decide
  obtain ⟨h0, h1, h2, h3⟩ := hall (b 0) (b 1) (b 2) (b 3)
  intro k hk
  match k, hk with
  | 0, _ => exact h0
  | 1, _ => exact h1
  | 2, _ => exact h2
  | 3, _ => exact h3

theorem setLane_busy (hl : l < 4) : ((setLane l j d).get Reg.CMP_STATUS.BUSY).testBit l = j.busy := by
  have hb := busyMask_bit (fun k => (tget (tset d.cmp l j) k).busy) l hl
  have hg : (setLane l j d).get Reg.CMP_STATUS.BUSY =
      (((List.range 4).map fun k => if (tget (tset d.cmp l j) k).busy then 2 ^ k else 0).sum) % 2 ^ 4 :=
    Dev.getN_setN_same _ Reg.CMP_STATUS.BUSY 0 _ rfl
  rw [hg, hb, tget_tset_same]

theorem setLane_cmp : (setLane l j d).cmp = tset d.cmp l j := rfl

theorem setLane_hif : (setLane l j d).hif = d.hif := rfl

theorem freeLane_lt (hl : freeLane d = some l) : l < 4 := List.mem_range.mp (List.mem_of_find?_eq_some hl)

/-! ## Jobs that start -/

/-- The STAGE slot that a job waits for: one whose source is in the Hamper needs one. -/
def slotFor (ws : DescWords) (d : Dev) : Option Nat := if cSrcHmp ws then freeSlot d else none

/-- A lane takes the job. -/
def jobTaken (t : Time) (n l : Nat) (h : Taken) (src : List Byte) (slot : Option Nat) (d : Dev) : Dev :=
  setLane l ⟨true, n, h.idx, h.words, slot, (cmpSource h.words src slot d).1, (cmpSource h.words src slot d).2.1,
    (List.range 8).any fun q => !d.up (islHmp q) && cmpReads d h.words slot q⟩
    (startHead t n h (cmpSource h.words src slot d).2.2)

theorem cmpStart_unstarted (hs : startable d n clsCmpj op = none) : cmpStart t n op src d = d := by
  rw [cmpStart, hs]

section
variable (hs : startable d n clsCmpj op = some h)
include hs

theorem cmpStart_down (hu : d.up islCmp = false) :
    cmpStart t n op src d = if d.inReset islCmp then completeHead t n h stAborted 0 [] d else d := by
  rw [cmpStart, hs]
  exact if_pos (by simp [hu])

theorem cmpStart_off (hu : d.up islCmp = true) (hc : d.get Reg.GLB_SPLIT.COMP = 0 ∨ d.on Reg.CMP_CTRL.EN = false) :
    cmpStart t n op src d = cmpRefuse t n h stRejected d := by
  rw [cmpStart, hs]
  dsimp only
  rw [if_neg (by simp [hu]), if_pos (by simpa using hc)]

section
variable (hu : d.up islCmp = true) (hc : d.get Reg.GLB_SPLIT.COMP ≠ 0) (he : d.on Reg.CMP_CTRL.EN = true)
include hu hc he

theorem cmpStart_empty (hl : dLen h.words = 0 ∨ cOutLen h.words = 0) :
    cmpStart t n op src d = cmpRefuse t n h stSkipped d := by
  rw [cmpStart, hs]
  dsimp only
  rw [if_neg (by simp [hu]), if_neg (by simp [hc, he]), if_pos hl]

section
variable (hl : dLen h.words ≠ 0) (ho : cOutLen h.words ≠ 0)
include hl ho

theorem cmpStart_noStage (hh : cSrcHmp h.words = true) (hz : d.getN Reg.HMP_PARTn.SIZE partStage = 0) :
    cmpStart t n op src d = cmpRefuse t n h stNoSpace d := by
  rw [cmpStart, hs]
  dsimp only
  rw [if_neg (by simp [hu]), if_neg (by simp [hc, he]), if_neg (by simp [hl, ho]), if_pos ⟨hh, hz⟩]

theorem cmpStart_outside (hh : cSrcHmp h.words = true) (hz : d.getN Reg.HMP_PARTn.SIZE partStage ≠ 0)
    (hr : partBytes d partCapture < cHmpOfs h.words + dLen h.words ∨ cHmpOfs h.words % 4 ≠ 0) :
    cmpStart t n op src d = cmpRefuse t n h stRejected d := by
  rw [cmpStart, hs]
  dsimp only
  rw [if_neg (by simp [hu]), if_neg (by simp [hc, he]), if_neg (by simp [hl, ho]), if_neg (by simp [hz]), if_pos ⟨hh, hr⟩]

/-- A job within its limits waits for a lane, and for a slot where it needs one. -/
theorem cmpStart_within (hr : cSrcHmp h.words = true → d.getN Reg.HMP_PARTn.SIZE partStage ≠ 0 ∧
      cHmpOfs h.words + dLen h.words ≤ partBytes d partCapture ∧ cHmpOfs h.words % 4 = 0) :
    (freeLane d = none → cmpStart t n op src d = d) ∧
    (∀ l, freeLane d = some l → cmpStart t n op src d =
      if cSrcHmp h.words ∧ slotFor h.words d = none then d else jobTaken t n l h src (slotFor h.words d) d) := by
  have h1 : ¬ (cSrcHmp h.words = true ∧ d.getN Reg.HMP_PARTn.SIZE partStage = 0) := fun hx => (hr hx.1).1 hx.2
  have h2 : ¬ (cSrcHmp h.words = true ∧
      (partBytes d partCapture < cHmpOfs h.words + dLen h.words ∨ cHmpOfs h.words % 4 ≠ 0)) := fun hx => by
    have := hr hx.1
    omega
  rw [cmpStart, hs]
  dsimp only
  rw [if_neg (by simp [hu]), if_neg (by simp [hc, he]), if_neg (by simp [hl, ho]), if_neg h1, if_neg h2]
  refine ⟨fun hf => by rw [hf], fun l hf => ?_⟩
  rw [hf]
  rfl
end
end
end

/-- The source of a job from the Hamper: at most LEN bytes of the words read there. The address is made a variable first, and
by an existential: the kernel would reduce the read at an open multiple of 2^20. -/
theorem cmpSource_slot (ws : DescWords) (src : List Byte) (slot : Option Nat) (d : Dev) (hs : slot ≠ none) :
    (cmpSource ws src slot d).1.length ≤ dLen ws ∧ ∃ c w m, (cmpSource ws src slot d).2.2 = (hreadMany c w m d).2 := by
  unfold cmpSource
  obtain ⟨base, hb⟩ : ∃ base, base = d.getN Reg.HMP_PARTn.BASE partCapture * 2 ^ 20 + cHmpOfs ws := ⟨_, rfl⟩
  rw [← hb]
  cases slot with
  | none => exact absurd rfl hs
  | some k => exact ⟨List.length_take_le .., .engine, base / 4, (wordSpan base (dLen ws)).length, rfl⟩

theorem hreadMany_rings (c : HCause) (w m : Nat) (d : Dev) : (hreadMany c w m d).2.hif.rings = d.hif.rings := by
  have hh : { (hreadMany c w m d).2.hif with msgReq := [] } = { d.hif with msgReq := [] } :=
    (@Tame.hreadMany [.hmp, .free] d d c w m (.refl _ _) ⟨by decide⟩ ⟨by decide⟩).stands .hif (by decide)
  have hr := congrArg (fun x : Hif => x.rings) hh
  exact hr

theorem cmpSource_ring (ws : DescWords) (src : List Byte) (slot : Option Nat) (d : Dev) (n : Nat) :
    (cmpSource ws src slot d).2.2.ring n = d.ring n := by
  cases slot with
  | none => rfl
  | some k =>
    obtain ⟨-, c, w, m, hx⟩ := cmpSource_slot ws src (some k) d (by simp)
    rw [hx, Dev.ring, hreadMany_rings, ← Dev.ring]

theorem jobTaken_ring (slot : Option Nat) : (jobTaken t n l h src slot d).ring n = { d.ring n with
    taken := (d.ring n).taken.tail, headSince := t.loc, started := (d.ring n).started ++ [(h.idx, h.words)] } := by
  have hr := startHead_ring t n h (cmpSource h.words src slot d).2.2
  rw [cmpSource_ring] at hr
  exact hr

theorem jobTaken_lane (slot : Option Nat) : tget (jobTaken t n l h src slot d).cmp l =
    ⟨true, n, h.idx, h.words, slot, (cmpSource h.words src slot d).1, (cmpSource h.words src slot d).2.1,
    (List.range 8).any fun q => !d.up (islHmp q) && cmpReads d h.words slot q⟩ := by
  rw [jobTaken, setLane_cmp, tget_tset_same]

/-- A job whose source is in the Hamper holds its slot and at most LEN bytes. -/
theorem jobTaken_staged : ∃ bytes cut lost, bytes.length ≤ dLen h.words ∧
    tget (jobTaken t n l h src (some k) d).cmp l = ⟨true, n, h.idx, h.words, some k, bytes, cut, lost⟩ :=
  ⟨_, _, _, (cmpSource_slot h.words src (some k) d (by simp)).1, jobTaken_lane (some k)⟩

/-- A job whose source comes from the host. -/
theorem jobTaken_plain : jobTaken t n l h src none d =
    setLane l ⟨true, n, h.idx, h.words, none, slice src 0 (dLen h.words), none, false⟩ (startHead t n h d) := by
  have hsrc : cmpSource h.words src none d = (slice src 0 (dLen h.words), none, d) := rfl
  have hany : ((List.range 8).any fun q => !d.up (islHmp q) && cmpReads d h.words none q) = false :=
    List.any_eq_false.mpr fun q _ => by simp [cmpReads]
  rw [jobTaken, hsrc, hany]

theorem jobTaken_busy (slot : Option Nat) (hl : l < 4) :
    ((jobTaken t n l h src slot d).get Reg.CMP_STATUS.BUSY).testBit l = true := setLane_busy hl

theorem busy_after (s : State) (d : Dev) : (s.after d).dev.get Reg.CMP_STATUS.BUSY = d.get Reg.CMP_STATUS.BUSY :=
  after_get _ _ _ (notIntake_between (by decide) (by decide))

theorem jobs_start :
    ∀ (s : State) (n : Nat) (src : List Byte), ∀ x ∈ [(Instr.cmpCompress n src, 0x10), (.cmpDecompress n src, 0x11)],
    (startable s.dev n clsCmpj x.2 = none ∨ (s.dev.up islCmp = false ∧ s.dev.inReset islCmp = false) →
      exec x.1 s = .next (s.after s.dev)) ∧
    (∀ h, startable s.dev n clsCmpj x.2 = some h → s.dev.inReset islCmp = true →
      exec x.1 s = .next (s.after (completeHead s.time n h stAborted 0 [] s.dev))) ∧
    (∀ h, startable s.dev n clsCmpj x.2 = some h → s.dev.up islCmp = true →
      (s.dev.get Reg.GLB_SPLIT.COMP = 0 ∨ s.dev.on Reg.CMP_CTRL.EN = false →
        ∃ t, exec x.1 s = .next t ∧ t.dev.cmp = s.dev.cmp ∧ (t.dev.ring n).taken = (s.dev.ring n).taken.tail ∧
          (t.dev.ring n).owed = (s.dev.ring n).owed ++ [owedOf clsCmpj h.idx h.words stRejected 0 []] ∧
          bitOf (t.dev.word intCmp.addr) 0 = true ∧ t.dev.get Reg.CMP_CNT_FAIL.N =
            min (s.dev.get Reg.CMP_CNT_FAIL.N + 1) (2 ^ Reg.CMP_CNT_FAIL.N.width - 1)) ∧
      (s.dev.get Reg.GLB_SPLIT.COMP ≠ 0 → s.dev.on Reg.CMP_CTRL.EN = true → dLen h.words = 0 ∨ cOutLen h.words = 0 →
        ∃ t, exec x.1 s = .next t ∧ t.dev.cmp = s.dev.cmp ∧ t.dev.hif.sent = s.dev.hif.sent ∧
          (t.dev.ring n).owed = (s.dev.ring n).owed ++ [owedOf clsCmpj h.idx h.words stSkipped 0 []] ∧
          t.dev.get Reg.CMP_CNT_FAIL.N = s.dev.get Reg.CMP_CNT_FAIL.N) ∧
      (s.dev.get Reg.GLB_SPLIT.COMP ≠ 0 → s.dev.on Reg.CMP_CTRL.EN = true → dLen h.words ≠ 0 → cOutLen h.words ≠ 0 →
        cSrcHmp h.words = true →
        (s.dev.getN Reg.HMP_PARTn.SIZE partStage = 0 →
          exec x.1 s = .next (s.after (cmpRefuse s.time n h stNoSpace s.dev))) ∧
        (s.dev.getN Reg.HMP_PARTn.SIZE partStage ≠ 0 →
          partBytes s.dev partCapture < cHmpOfs h.words + dLen h.words ∨ cHmpOfs h.words % 4 ≠ 0 →
          exec x.1 s = .next (s.after (cmpRefuse s.time n h stRejected s.dev))) ∧
        (s.dev.getN Reg.HMP_PARTn.SIZE partStage ≠ 0 → cHmpOfs h.words + dLen h.words ≤ partBytes s.dev partCapture →
          cHmpOfs h.words % 4 = 0 →
          (freeLane s.dev = none ∨ freeSlot s.dev = none → exec x.1 s = .next (s.after s.dev)) ∧
          (∀ l k, freeLane s.dev = some l → freeSlot s.dev = some k → ∃ t, exec x.1 s = .next t ∧
            (tget t.dev.cmp l).busy = true ∧ (tget t.dev.cmp l).ring = n ∧ (tget t.dev.cmp l).idx = h.idx ∧
            (tget t.dev.cmp l).slot = some k ∧ (tget t.dev.cmp l).src.length ≤ dLen h.words ∧
            (t.dev.get Reg.CMP_STATUS.BUSY).testBit l = true ∧ (t.dev.ring n).taken = (s.dev.ring n).taken.tail ∧
            (t.dev.ring n).started = (s.dev.ring n).started ++ [(h.idx, h.words)]))) ∧
      (s.dev.get Reg.GLB_SPLIT.COMP ≠ 0 → s.dev.on Reg.CMP_CTRL.EN = true → dLen h.words ≠ 0 → cOutLen h.words ≠ 0 →
        cSrcHmp h.words = false →
        (freeLane s.dev = none → exec x.1 s = .next (s.after s.dev)) ∧
        (∀ l, freeLane s.dev = some l → ∃ t, exec x.1 s = .next t ∧
          tget t.dev.cmp l = ⟨true, n, h.idx, h.words, none, slice src 0 (dLen h.words), none, false⟩ ∧
          (∀ k, k ≠ l → tget t.dev.cmp k = tget s.dev.cmp k) ∧ (t.dev.get Reg.CMP_STATUS.BUSY).testBit l = true ∧
          (t.dev.ring n).taken = (s.dev.ring n).taken.tail ∧
          (t.dev.ring n).started = (s.dev.ring n).started ++ [(h.idx, h.words)] ∧
          t.dev.hif.sent = s.dev.hif.sent))) := by
  intro s n src x hx
  have he := exec_cmpStart s hx
  refine ⟨fun hc => ?_, fun h hs hr => ?_, fun h hs hu => ⟨fun hc => ?_, fun hc hen hl => ?_, fun hc hen hl ho hh =>
    ⟨fun hz => ?_, fun hz hr => ?_, fun hz hr hm => ?_⟩, fun hc hen hl ho hh => ?_⟩⟩
  · rw [he]
    rcases hc with hs | ⟨hu, hr⟩
    · rw [cmpStart_unstarted hs]
    · cases hs : startable s.dev n clsCmpj x.2 with
      | none => rw [cmpStart_unstarted hs]
      | some h => rw [cmpStart_down hs hu, if_neg (by simp [hr])]
  · have hu : s.dev.up islCmp = false := by
      rw [← Bool.not_eq_true]
      intro hu
      rw [inReset_of_up (by decide) hu] at hr
      cases hr
    rw [he, cmpStart_down hs hu, if_pos hr]
  · have hcls := (startable_ring hs).2
    refine ⟨_, by rw [he, cmpStart_off hs hu hc], ?_, ?_, ?_, ?_, ?_⟩
    · rw [after_cmp, cmpRefuse_cmp]
    · rw [after_ring, cmpRefuse_ring]
    · rw [after_ring, cmpRefuse_ring, hcls]
    · rw [after_word _ _ _ (notIntake_between (by decide) (by decide)), cmpRefuse_rejected_bit]
    · rw [after_get _ _ _ (notIntake_between (by decide) (by decide)), cmpRefuse_rejected_fail]
  · have hcls := (startable_ring hs).2
    refine ⟨_, by rw [he, cmpStart_empty hs hu hc hen hl], ?_, ?_, ?_, ?_⟩
    · rw [after_cmp, cmpRefuse_cmp]
    · rw [after_sent]
      rfl
    · rw [after_ring, cmpRefuse_ring, hcls]
    · rw [after_get _ _ _ (notIntake_between (by decide) (by decide)), cmpRefuse_skipped_fail]
  · rw [he, cmpStart_noStage hs hu hc hen hl ho hh hz]
  · rw [he, cmpStart_outside hs hu hc hen hl ho hh hz hr]
  · obtain ⟨hw, hg⟩ := cmpStart_within (t := s.time) (src := src) hs hu hc hen hl ho fun _ => ⟨hz, hr, hm⟩
    have hsl : slotFor h.words s.dev = freeSlot s.dev := if_pos hh
    refine ⟨fun hf => ?_, fun l k hf hk => ?_⟩
    · rw [he]
      rcases hf with hf | hf
      · rw [hw hf]
      · cases hl : freeLane s.dev with
        | none => rw [hw hl]
        | some l => rw [hg l hl, if_pos ⟨hh, hsl.trans hf⟩]
    · obtain ⟨bytes, cut, lost, hb, hx⟩ := jobTaken_staged (t := s.time) (n := n) (l := l) (h := h) (src := src) (k := k) (d := s.dev)
      refine ⟨_, by rw [he, hg l hf, if_neg (by simp [hsl, hk]), hsl, hk], ?_⟩
      rw [after_cmp, hx, after_ring, jobTaken_ring, busy_after, jobTaken_busy _ (freeLane_lt hf)]
      exact ⟨rfl, rfl, rfl, rfl, hb, rfl, rfl, rfl⟩
  · obtain ⟨hw, hg⟩ := cmpStart_within (t := s.time) (src := src) hs hu hc hen hl ho fun hx => by simp [hh] at hx
    have hsl : slotFor h.words s.dev = none := if_neg (by simp [hh])
    refine ⟨fun hf => by rw [he, hw hf], fun l hf => ?_⟩
    refine ⟨_, by rw [he, hg l hf, if_neg (by simp [hh]), hsl], ?_, fun k hk => ?_, ?_, ?_, ?_, ?_⟩
    · rw [after_cmp, jobTaken_plain, setLane_cmp, tget_tset_same]
    · rw [after_cmp, jobTaken_plain, setLane_cmp, tget_tset_other _ hk]
      rfl
    · rw [busy_after, jobTaken_busy _ (freeLane_lt hf)]
    · rw [after_ring, jobTaken_ring]
    · rw [after_ring, jobTaken_ring]
    · rw [after_sent, jobTaken_plain, setLane_hif]
      rfl

/-! ## Jobs that end -/

theorem job_stands :
    ∀ (s : State) (l : Nat), (tget s.dev.cmp l).busy = false ∨ (hifQuiet s.dev = true ∧ s.dev.up islHst = true) →
    exec (.cmpJobComplete l) s = .next (s.after s.dev) := by
  intro s l hc
  rw [exec_cmpJobComplete]
  exact congrArg (fun d => Host.Outcome.next (s.after d)) (if_pos (hc.imp_left fun hb => by simp [hb]))

theorem refused_job :
    ∀ (t : Time) (n : Nat) (h : Taken) (st : Nat) (d : Dev), cOutLen h.words ≠ 0 → st ≠ stSkipped →
    (cmpRefuse t n h st d).hif.sent = d.hif.sent ++
      [.data (cOutAddr h.words) (le (min 16 (cOutLen h.words)) 0) (d.on Reg.HIF_CTRL.RO_EN)] ∧
    (cmpRefuse t n h st d).cmp = d.cmp ∧
    (((cmpRefuse t n h st d).ring n).owed = (d.ring n).owed ++ [owedOf (d.ring n).cls h.idx h.words st 0 []]) := by
  intro t n h st d ho hs
  exact ⟨cmpRefuse_sent ho hs, cmpRefuse_cmp st, by rw [cmpRefuse_ring]⟩

/-- What a job ends with. -/
def jobResult (j : CmpJob) (d : Dev) : CmpResult :=
  if j.aborted then ⟨stAborted, [], 0, 0, 0, 0, 0⟩
  else if dOpcode j.words = 0x10 then compressResult j else decompressResult d j

/-- A lane gives up its job, and the job's completion becomes owed. -/
def jobEnded (l : Nat) (j : CmpJob) (r : CmpResult) (d : Dev) : Dev :=
  endStarted j.ring j.idx r.status r.len (le 4 r.crc ++ le 4 r.adler ++ le 4 r.used ++ le 4 r.blocks) none
    (setLane l default (cmpCount r.status d))

/-- The bytes of the job's result in its buffer. -/
def jobWritten (j : CmpJob) (r : CmpResult) (d : Dev) : Dev :=
  hostWrite (.data (cOutAddr j.words) (if r.status = stOk then r.bytes else le (min 16 (cOutLen j.words)) 0 ++ r.bytes.drop 16)
    (d.on Reg.HIF_CTRL.RO_EN)) d

theorem cmpJobComplete_ends (hj : (tget d.cmp l).busy = true) (hq : ¬ (hifQuiet d = true ∧ d.up islHst = true)) :
    cmpJobComplete l d = jobEnded l (tget d.cmp l) (jobResult (tget d.cmp l) d)
      (if d.up islHst then jobWritten (tget d.cmp l) (jobResult (tget d.cmp l) d) d else d) :=
  if_neg (by simp only [hj, Bool.not_true, Bool.false_eq_true, false_or]; exact hq)

theorem endStarted_cmp (n idx st len : Nat) (ext : List Byte) (p : Option Nat) (d : Dev) :
    (endStarted n idx st len ext p d).cmp = d.cmp ∧ (endStarted n idx st len ext p d).hif.sent = d.hif.sent := by
  unfold endStarted
  dsimp only
  split <;> exact ⟨rfl, rfl⟩

theorem endStarted_owed {n idx st len : Nat} {ext : List Byte} {e : Nat × DescWords}
    (he : (d.ring n).started.find? (fun e => e.1 == idx) = some e) :
    (endStarted n idx st len ext none d).ring n = { d.ring n with
      started := (d.ring n).started.filter fun e => e.1 != idx,
      owed := (d.ring n).owed ++ [owedOf (d.ring n).cls idx e.2 st len ext] } := by
  unfold endStarted
  dsimp only
  rw [he]
  simp only [owe, ring_setRing]
  rfl

theorem jobEnded_lane (r : CmpResult) : tget (jobEnded l j r d).cmp l = default := by
  rw [jobEnded, (endStarted_cmp ..).1, setLane_cmp, tget_tset_same]

theorem jobEnded_busy (r : CmpResult) (hl : l < 4) : ((jobEnded l j r d).get Reg.CMP_STATUS.BUSY).testBit l = false := by
  rw [jobEnded, Dev.get, getN_ofRegs (endStarted_regs ..), ← Dev.get, setLane_busy hl]
  rfl

theorem jobEnded_sent (r : CmpResult) : (jobEnded l j r d).hif.sent = d.hif.sent := by
  rw [jobEnded, (endStarted_cmp ..).2, setLane_hif, cmpCount_sent]

theorem jobEnded_jobs (r : CmpResult) : (jobEnded l j r d).get Reg.CMP_CNT_JOBS.N =
    min (d.get Reg.CMP_CNT_JOBS.N + 1) (2 ^ Reg.CMP_CNT_JOBS.N.width - 1) := by
  rw [jobEnded, Dev.get, getN_ofRegs (endStarted_regs ..), ← Dev.get]
  exact (Dev.get_set_other _ _ _ _ rfl).trans (cmpCount_jobs r.status d)

theorem jobEnded_ring (r : CmpResult) {e : Nat × DescWords}
    (he : (d.ring j.ring).started.find? (fun e => e.1 == j.idx) = some e) :
    (jobEnded l j r d).ring j.ring = { d.ring j.ring with
      started := (d.ring j.ring).started.filter fun e => e.1 != j.idx,
      owed := (d.ring j.ring).owed ++ [owedOf (d.ring j.ring).cls j.idx e.2 r.status r.len
        (le 4 r.crc ++ le 4 r.adler ++ le 4 r.used ++ le 4 r.blocks)] } := by
  have hr : (setLane l default (cmpCount r.status d)).ring j.ring = d.ring j.ring := by
    rw [Dev.ring, setLane_hif, ← Dev.ring, cmpCount_ring]
  rw [jobEnded, endStarted_owed (by rw [hr]; exact he), hr]

theorem job_ends_unwritten :
    ∀ (s : State) (l : Nat) (j : CmpJob) (r : CmpResult), l < 4 → tget s.dev.cmp l = j → j.busy = true →
    s.dev.up islHst = false → r = (if j.aborted then ⟨stAborted, [], 0, 0, 0, 0, 0⟩
      else if dOpcode j.words = 0x10 then compressResult j else decompressResult s.dev j) →
    ∃ t, exec (.cmpJobComplete l) s = .next t ∧ tget t.dev.cmp l = default ∧
      (t.dev.get Reg.CMP_STATUS.BUSY).testBit l = false ∧ t.dev.hif.sent = s.dev.hif.sent ∧
      t.dev.get Reg.CMP_CNT_JOBS.N = min (s.dev.get Reg.CMP_CNT_JOBS.N + 1) (2 ^ Reg.CMP_CNT_JOBS.N.width - 1) := by
  rintro s l j r hl rfl hb hu rfl
  refine ⟨_, by rw [exec_cmpJobComplete, cmpJobComplete_ends hb (by simp [hu]), if_neg (by simp [hu])], ?_, ?_, ?_, ?_⟩
  · rw [after_cmp, jobEnded_lane]
  · rw [busy_after, jobEnded_busy _ hl]
  · rw [after_sent, jobEnded_sent]
  · rw [after_get _ _ _ (notIntake_between (by decide) (by decide)), jobEnded_jobs]

theorem job_ends_written :
    ∀ (s : State) (l : Nat) (j : CmpJob) (r : CmpResult), l < 4 → tget s.dev.cmp l = j → j.busy = true →
    s.dev.up islHst = true → hifQuiet s.dev = false → r = (if j.aborted then ⟨stAborted, [], 0, 0, 0, 0, 0⟩
      else if dOpcode j.words = 0x10 then compressResult j else decompressResult s.dev j) →
    ∃ t, exec (.cmpJobComplete l) s = .next t ∧ tget t.dev.cmp l = default ∧
      (t.dev.get Reg.CMP_STATUS.BUSY).testBit l = false ∧
      t.dev.get Reg.CMP_CNT_JOBS.N = min (s.dev.get Reg.CMP_CNT_JOBS.N + 1) (2 ^ Reg.CMP_CNT_JOBS.N.width - 1) ∧
      (∀ e, (s.dev.ring j.ring).started.find? (fun e => e.1 == j.idx) = some e →
        (t.dev.ring j.ring).started = (s.dev.ring j.ring).started.filter (fun e => e.1 != j.idx) ∧
        (t.dev.ring j.ring).owed = (s.dev.ring j.ring).owed ++ [owedOf (s.dev.ring j.ring).cls j.idx e.2 r.status r.len
          (le 4 r.crc ++ le 4 r.adler ++ le 4 r.used ++ le 4 r.blocks)]) ∧
      t.dev.hif.sent = s.dev.hif.sent ++ [.data (cOutAddr j.words)
        (if r.status = stOk then r.bytes else le (min 16 (cOutLen j.words)) 0 ++ r.bytes.drop 16)
        (s.dev.on Reg.HIF_CTRL.RO_EN)] := by
  rintro s l j r hl rfl hb hu hq rfl
  refine ⟨_, by rw [exec_cmpJobComplete, cmpJobComplete_ends hb (by simp [hq]), if_pos hu], ?_, ?_, ?_, fun e he => ⟨?_, ?_⟩, ?_⟩
  · rw [after_cmp, jobEnded_lane]
  · rw [busy_after, jobEnded_busy _ hl]
  · rw [after_get _ _ _ (notIntake_between (by decide) (by decide)), jobEnded_jobs]
    rfl
  · rw [after_ring, jobEnded_ring _ (by exact he)]
    rfl
  · rw [after_ring, jobEnded_ring _ (by exact he)]
    rfl
  · rw [after_sent, jobEnded_sent]
    rfl

/-! ## Results -/

theorem compressResult_whole (hc : j.cut = none) : ∃ (out : List Byte) (adler blocks : Nat), compressResult j =
    ⟨if cOutLen j.words < out.length then stOutFull else stOk, out.take (cOutLen j.words), out.length,
      crc32 (cSeed j.words) j.src, adler, j.src.length, blocks⟩ := by
  unfold compressResult
  rw [hc]
  exact ⟨_, _, _, rfl⟩

theorem compress_results :
    (∀ (j : CmpJob), j.cut = none →
    (compressResult j).crc = crc32 (cSeed j.words) j.src ∧ (compressResult j).used = j.src.length ∧
    (compressResult j).bytes.length = min (cOutLen j.words) (compressResult j).len ∧
    ((compressResult j).status = stOk ↔ (compressResult j).len ≤ cOutLen j.words) ∧
    ((compressResult j).status = stOutFull ↔ cOutLen j.words < (compressResult j).len)) := by
  intro j hc
  obtain ⟨out, adler, blocks, hx⟩ := compressResult_whole hc
  rw [hx]
  refine ⟨rfl, rfl, List.length_take, ?_, ?_⟩
  · by_cases hf : cOutLen j.words < out.length
    · simp [hf, stOutFull, stOk]
    · simp only [hf, if_false, true_iff]
      omega
  · by_cases hf : cOutLen j.words < out.length
    · simp [hf]
    · simp [hf, stOutFull, stOk]

theorem compress_cut :
    (∀ (j : CmpJob) (k : Nat), j.cut = some k →
    (compressResult j).status = stParity ∧ (compressResult j).bytes = [] ∧ (compressResult j).used = k) := by
  intro j k hc
  have hx : compressResult j = ⟨stParity, [], 0, 0, 0, k, 0⟩ := by
    unfold compressResult
    rw [hc]
  rw [hx]
  exact ⟨rfl, rfl, rfl⟩

/-- The CRC continues over the bytes that follow. -/
theorem crc32_append (seed : Nat) (a b : List Byte) : crc32 (crc32 seed a) b = crc32 seed (a ++ b) := by
  unfold crc32
  rw [Nat.xor_assoc, Nat.xor_self, Nat.xor_zero, List.foldl_append]

theorem crc32_word {seed : Nat} (hs : seed < 2 ^ 32) (a : List Byte) : crc32 seed a < 2 ^ 32 := by
  have h0 : seed ^^^ 0xFFFFFFFF < 2 ^ 32 := Nat.xor_lt_two_pow hs (by decide)
  refine Nat.xor_lt_two_pow (foldl_lt crc32Byte (2 ^ 32) (fun c b hc => ?_) a _ h0) (by decide)
  exact foldl_lt _ _ (fun _ _ => crc32Bit_lt) _ _ (Nat.xor_lt_two_pow hc (b.isLt.trans (by decide)))

/-- Settles O60: the jobs that start, that are refused and that end, and what compression ends with. -/
theorem compression : Obligations.Compression :=
  ⟨⟨jobs_start, job_stands, refused_job, job_ends_unwritten, job_ends_written⟩, compress_results, compress_cut,
    fun seed a b _ => crc32_append seed a b, fun _ a hs => crc32_word hs a⟩

end Sys2Proof.Machine

/-!
PROOFS. O57: the way of an event into the Logbook, the writer, and the parity of its memory (R570 to R582).
-/

namespace Sys2Proof.Machine

open Sys2Proof

variable {s : State} {lb lb1 lb2 : Logbook} {d d1 d2 : Dev} {t : Time} {e : LogEv} {r w : Nat}

theorem exec_logEvent (c i x y : Nat) (s : State) :
    exec (.logEvent c i x y) s = .next (s.after (if s.dev.pwr.released then s.dev.event c i x y else s.dev)) := rfl

theorem exec_logRecordWrite (g : Bool) (s : State) : exec (.logRecordWrite g) s =
    .next (s.afterLog (logRecordWrite s.time g s.log s.dev).1 (logRecordWrite s.time g s.log s.dev).2) := rfl

theorem exec_logReread (b : Bool) (s : State) :
    exec (.logReread b) s = .next (s.afterLog (logReread b s.log s.dev).1 (logReread b s.log s.dev).2) := rfl

theorem exec_logScrub (b : Bool) (s : State) : exec (.logScrub b) s =
    .next (s.afterLog (if s.dev.pwr.released then (logScrub b s.log, s.dev) else (s.log, s.dev)).1
      (if s.dev.pwr.released then (logScrub b s.log, s.dev) else (s.log, s.dev)).2) := rfl

theorem exec_logTokenRefill (c : Nat) (s : State) : exec (.logTokenRefill c) s =
    .next (s.afterLog (if c < 1024 then (logTokenRefill s.time c s.log s.dev, s.dev) else (s.log, s.dev)).1
      (if c < 1024 then (logTokenRefill s.time c s.log s.dev, s.dev) else (s.log, s.dev)).2) := rfl

theorem afterLog_self (s : State) (d : Dev) : s.afterLog s.log d = s.after d := rfl

/-! ## What the judging of events keeps -/

/-- A property of the Logbook and the device that the judging of an event keeps. -/
structure Judging (P : Logbook → Dev → Prop) : Prop where
  dropped : ∀ {lb d} {code : Nat}, code < 1024 → P lb d → P (logDrop code lb d).1 (logDrop code lb d).2
  bucket : ∀ {lb d} (x : FMap Bucket), P lb d → P { lb with buckets := x } d
  entered : ∀ {lb : Logbook} {d} (x : LogItem), lb.full = false → lb.failed = false → lb.intake.length < 64 → P lb d →
    P { lb with intake := lb.intake ++ [x] } d
  lost : ∀ {lb d}, P lb d → P lb (d.sat Reg.LOG_CNT_FULL.N)
  overflowed : ∀ {lb d}, P lb d → P lb ((d.sat Reg.LOG_CNT_INTAKE.N).raise intLog 3)

section
variable {P : Logbook → Dev → Prop} (hj : Judging P)
include hj

theorem Judging.limit (now code : Nat) (h : P lb d) : P (logLimit now code lb d).2 d := by
  unfold logLimit
  dsimp only
  split
  · exact h
  · split
    · exact h
    · split
      · exact hj.bucket _ h
      · exact hj.bucket _ h

theorem Judging.enter (t : Time) (hc : e.code < 1024) (h : P lb d) : P (logEnter t e lb d).1 (logEnter t e lb d).2.1 := by
  unfold logEnter
  split
  · exact hj.lost (hj.dropped hc h)
  · next hopen =>
    obtain ⟨hfull, hfailed⟩ : lb.full = false ∧ lb.failed = false := by simpa using hopen
    split
    · exact hj.overflowed (hj.dropped hc h)
    · next hl => exact hj.entered _ hfull hfailed (Nat.not_le.mp hl) h

theorem Judging.judge1 (t : Time) (e : LogEv) (h : P lb d) : P (logJudge1 t e lb d).1 (logJudge1 t e lb d).2.1 := by
  unfold logJudge1
  split
  · exact h
  · next hdef =>
    have hc : e.code < 1024 := codeDefined_lt e.code (by simpa using hdef)
    have hlim := hj.limit t.loc e.code h
    split
    · next hx =>
      rw [hx] at hlim
      exact hj.enter t hc hlim
    · next hx =>
      rw [hx] at hlim
      exact hj.dropped hc hlim

theorem Judging.judge (t : Time) (e : LogEv) {x : Logbook × Dev} (h : P x.1 x.2) : P (logJudge t x e).1 (logJudge t x e).2 := by
  have h1 := hj.judge1 t e h
  unfold logJudge
  split
  · next hx =>
    rw [hx] at h1
    exact h1
  · next hx =>
    rw [hx] at h1
    exact hj.judge1 t _ h1

theorem Judging.judges (t : Time) (es : List LogEv) {x : Logbook × Dev} (h : P x.1 x.2) :
    P (es.foldl (logJudge t) x).1 (es.foldl (logJudge t) x).2 := by
  induction es generalizing x with
  | nil => exact h
  | cons e es ih => exact ih (hj.judge t e h)

/-- The end of a command keeps it too, up to the fill that LOG_STATUS shows. -/
theorem Judging.finish (h : P s.log { s.dev with evs := [] }) :
    ∃ d n, P (finish s).log d ∧ (finish s).dev = d.set Reg.LOG_STATUS.INTAKE n :=
  ⟨_, _, hj.judges s.time _ h, rfl⟩
end

theorem drops_addr (code : Nat) : Reg.T_LIMIT.DROPS.reg.addr code = 0x3C0004 + code * 8 := RegAt.addr_single rfl code

theorem logDrop_word {code a : Nat} (ha : a < 0x3C0000) : (logDrop code lb d).2.word a = d.word a :=
  Dev.word_setN _ _ _ _ _ (by rw [drops_addr]; omega)

/-- A word below the limits of the codes that holds its value through every count. -/
theorem judging_word {a : Nat} (x : Word32) (ha : a < 0x3C0000) (h1 : a ≠ 0x120004) (h2 : a ≠ 0x120010) (h3 : a ≠ 0x120014) :
    Judging fun _ d => d.word a = x where
  dropped _ h := (logDrop_word ha).trans h
  bucket _ h := h
  entered _ _ _ _ h := h
  lost h := (Dev.word_setN _ _ _ _ _ h3).trans h
  overflowed h := by
    rw [Dev.raise_word, if_neg (show ¬ a = intLog.addr from h1)]
    exact (Dev.word_setN _ _ _ _ _ h2).trans h

/-- A cause of the Logbook's interrupt register stays. -/
theorem judging_cause (k : Nat) : Judging fun _ d => bitOf (d.word intLog.addr) k = true where
  dropped _ h := Dev.bit_setN _ _ _ _ (by rw [drops_addr]; show 0x120004 ≠ _; omega) h
  bucket _ h := h
  entered _ _ _ _ h := h
  lost h := Dev.bit_setN _ _ _ _ (by decide) h
  overflowed {lb d} h := by
    have h1 : bitOf ((d.sat Reg.LOG_CNT_INTAKE.N).word intLog.addr) k = true := Dev.bit_setN _ _ _ _ (by decide) h
    rw [Dev.raise_word, if_pos rfl]
    simp only [bitOf, BitVec.getLsbD_or] at h1 ⊢
    simp [h1]

/-- The Logbook's causes outlast the end of a command. -/
theorem finish_cause {k : Nat} (h : bitOf (s.dev.word intLog.addr) k = true) :
    bitOf ((finish s).dev.word intLog.addr) k = true := by
  obtain ⟨d, n, hd, hx⟩ := (judging_cause k).finish (s := s) h
  rw [hx]
  exact Dev.bit_setN _ _ _ _ (by decide) hd

/-- The other fields of LOG_STATUS stand at the end of a command. -/
theorem finish_status {f : Field} (hr : f.reg = At.LOG_STATUS) (hf : f.fits = true)
    (hi : Reg.LOG_STATUS.INTAKE.apart f = true) : (finish s).dev.get f = s.dev.get f := by
  obtain ⟨d, n, hd, hx⟩ := (judging_word (a := 0x120000) (s.dev.word 0x120000) (by decide) (by decide) (by decide)
    (by decide)).finish (s := s) rfl
  rw [hx, Dev.get, Dev.set, Dev.getN_setN_apart _ _ _ _ _ _ rfl hf hi]
  exact getN_of_word (by rw [hr]; exact hd)

/-! ## Without other events in hand -/

theorem withoutEvs (h : d.evs = []) : { d with evs := [] } = d := by
  cases d
  cases h
  rfl

/-- The state with the Logbook and the device as judged, and the intake's fill shown. -/
def shown (s : State) (x : Logbook × Dev) : State :=
  { s with log := x.1, dev := x.2.set Reg.LOG_STATUS.INTAKE x.1.intake.length }

theorem finish_quiet (h : s.dev.evs = []) : finish s = shown s (s.log, s.dev) := by
  have hf : finish s = shown s ((orderEvs s.dev.evs).foldl (logJudge s.time) (s.log, { s.dev with evs := [] })) := rfl
  rw [hf, h, withoutEvs h]
  rfl

theorem after_event (h : s.dev.evs = []) (c i x y : Nat) :
    s.after (s.dev.event c i x y) = shown s (logJudge s.time (s.log, s.dev) ⟨c, i, x, y, []⟩) := by
  have hf : s.after (s.dev.event c i x y) = shown s ((orderEvs (s.dev.evs ++ [⟨c, i, x, y, []⟩])).foldl (logJudge s.time)
      (s.log, { s.dev with evs := [] })) := rfl
  rw [hf, h, withoutEvs h]
  rfl

theorem exec_logEvent_judged (hr : s.dev.pwr.released = true) (h : s.dev.evs = []) (c i x y : Nat) :
    exec (.logEvent c i x y) s = .next (shown s (logJudge s.time (s.log, s.dev) ⟨c, i, x, y, []⟩)) := by
  rw [exec_logEvent, if_pos hr, after_event h]

/-! ## Limits, the intake and what is dropped -/

/-- The bucket of a code as an event finds it. -/
def bucketNow (now code : Nat) (lb : Logbook) (d : Dev) : Bucket :=
  bucketRefill (d.getN Reg.T_LIMIT.RATE code) (burstOf code d) now (tget lb.buckets code)

section
variable {now code : Nat}

theorem logLimit_off (h : d.onN Reg.T_LIMIT.OFF code = true) : logLimit now code lb d = (false, lb) := if_pos h

theorem logLimit_free (h : d.onN Reg.T_LIMIT.OFF code = false) (hr : d.getN Reg.T_LIMIT.RATE code = 0) :
    logLimit now code lb d = (true, lb) := by
  unfold logLimit
  dsimp only
  rw [if_neg (by simp [h]), if_pos hr]

theorem logLimit_taken (h : d.onN Reg.T_LIMIT.OFF code = false) (hr : d.getN Reg.T_LIMIT.RATE code ≠ 0)
    (hb : 0 < (bucketNow now code lb d).held) : logLimit now code lb d = (true, { lb with
      buckets := tset lb.buckets code (bucketTake (d.getN Reg.T_LIMIT.RATE code) now (bucketNow now code lb d)) }) := by
  unfold logLimit
  dsimp only
  rw [if_neg (by simp [h]), if_neg hr]
  exact if_pos hb

theorem logLimit_empty (h : d.onN Reg.T_LIMIT.OFF code = false) (hr : d.getN Reg.T_LIMIT.RATE code ≠ 0)
    (hb : (bucketNow now code lb d).held = 0) :
    logLimit now code lb d = (false, { lb with buckets := tset lb.buckets code (bucketNow now code lb d) }) := by
  unfold logLimit
  dsimp only
  rw [if_neg (by simp [h]), if_neg hr]
  exact if_neg (show ¬ 0 < (bucketNow now code lb d).held by omega)
end

theorem logEnter_taken (hf : lb.full = false) (hx : lb.failed = false) (hl : lb.intake.length < 64) :
    logEnter t e lb d = ({ lb with intake := lb.intake ++ [⟨e, t.ns⟩] }, d, false) := by
  unfold logEnter
  rw [if_neg (by simp [hf, hx]), if_neg (Nat.not_le.mpr hl)]

theorem logEnter_closed (hf : lb.full = true ∨ lb.failed = true) : logEnter t e lb d =
    ((logDrop e.code lb d).1, (logDrop e.code lb d).2.sat Reg.LOG_CNT_FULL.N, false) := if_pos (by simpa using hf)

theorem logEnter_overflows (hf : lb.full = false) (hx : lb.failed = false) (hl : 64 ≤ lb.intake.length) : logEnter t e lb d =
    ((logDrop e.code lb d).1, ((logDrop e.code lb d).2.sat Reg.LOG_CNT_INTAKE.N).raise intLog 3, true) := by
  unfold logEnter
  rw [if_neg (by simp [hf, hx]), if_pos hl]

section
variable (hdef : codeDefined e.code = true)
include hdef

theorem logJudge_limited (hl : logLimit t.loc e.code lb d = (false, lb1)) : logJudge t (lb, d) e = logDrop e.code lb1 d := by
  unfold logJudge logJudge1
  dsimp only
  rw [if_neg (by simp [hdef]), hl]

theorem logJudge1_passed (hl : logLimit t.loc e.code lb d = (true, lb1)) : logJudge1 t e lb d = logEnter t e lb1 d := by
  unfold logJudge1
  rw [if_neg (by simp [hdef]), hl]

theorem logJudge_entered (hl : logLimit t.loc e.code lb d = (true, lb1)) (he : logEnter t e lb1 d = (lb2, d2, false)) :
    logJudge t (lb, d) e = (lb2, d2) := by
  unfold logJudge
  dsimp only
  rw [logJudge1_passed hdef hl, he]

theorem logJudge_overflowed (hl : logLimit t.loc e.code lb d = (true, lb1)) (he : logEnter t e lb1 d = (lb2, d2, true)) :
    logJudge t (lb, d) e = ((logJudge1 t ⟨515, 0, 0, 0, []⟩ lb2 d2).1, (logJudge1 t ⟨515, 0, 0, 0, []⟩ lb2 d2).2.1) := by
  unfold logJudge
  dsimp only
  rw [logJudge1_passed hdef hl, he]
end

theorem logDrop_pend (code : Nat) : tget (logDrop code lb d).1.pend code = tget lb.pend code + 1 := by
  show tget (tset lb.pend code (tget lb.pend code + 1)) code = _
  rw [tget_tset_same]

theorem logDrop_pend_le (code c : Nat) : tget lb.pend c ≤ tget (logDrop code lb d).1.pend c := by
  show _ ≤ tget (tset lb.pend code (tget lb.pend code + 1)) c
  rw [tget_tset]
  split
  · next h =>
    subst h
    exact Nat.le_succ _
  · exact Nat.le_refl _

theorem logDrop_drops (code : Nat) : (logDrop code lb d).2.getN Reg.T_LIMIT.DROPS code =
    min (d.getN Reg.T_LIMIT.DROPS code + 1) (2 ^ Reg.T_LIMIT.DROPS.width - 1) := Dev.getN_sat_same d Reg.T_LIMIT.DROPS code rfl

theorem shown_word {x : Logbook × Dev} {a : Nat} (ha : a ≠ 0x120000) : (shown s x).dev.word a = x.2.word a :=
  Dev.word_set _ _ _ _ ha

/-! ## Events (R570, R574 to R578) -/

theorem event_unreleased :
    ∀ (s : State) (c i x y : Nat), s.dev.pwr.released = false → exec (.logEvent c i x y) s = .next (s.after s.dev) := by
  intro s c i x y hr
  rw [exec_logEvent, if_neg (by simp [hr])]

theorem event_entered (s : State) (c i x y : Nat) (lb : Logbook) (hr : s.dev.pwr.released = true) (hev : s.dev.evs = [])
    (hc : codeDefined c = true) (hl : logLimit s.time.loc c s.log s.dev = (true, lb)) (hf : lb.full = false)
    (hx : lb.failed = false) (hi : lb.intake.length < 64) : exec (.logEvent c i x y) s =
      .next (shown s ({ lb with intake := lb.intake ++ [⟨⟨c, i, x, y, []⟩, s.time.ns⟩] }, s.dev)) := by
  rw [exec_logEvent_judged hr hev, logJudge_entered (e := ⟨c, i, x, y, []⟩) hc hl (logEnter_taken hf hx hi)]

theorem bucketTake_held (rate now : Nat) (b : Bucket) : (bucketTake rate now b).held = b.held - 1 := by
  unfold bucketTake
  split <;> rfl

theorem events_judged :
    ∀ (s : State) (c i x y : Nat), s.dev.pwr.released = true → s.dev.evs = [] → codeDefined c = true →
    (s.dev.onN Reg.T_LIMIT.OFF c = false → s.dev.getN Reg.T_LIMIT.RATE c = 0 → s.log.full = false → s.log.failed = false →
      s.log.intake.length < 64 →
      ∃ t, exec (.logEvent c i x y) s = .next t ∧
        t.log = { s.log with intake := s.log.intake ++ [⟨⟨c, i, x, y, []⟩, s.time.ns⟩] } ∧
        t.dev.get Reg.LOG_STATUS.INTAKE = s.log.intake.length + 1 ∧ t.dev.hif = s.dev.hif ∧
        ∀ a, a ≠ 0x120000 → t.dev.word a = s.dev.word a) ∧
    (s.dev.onN Reg.T_LIMIT.OFF c = true ∨
        (s.dev.getN Reg.T_LIMIT.RATE c ≠ 0 ∧ (bucketRefill (s.dev.getN Reg.T_LIMIT.RATE c) (burstOf c s.dev) s.time.loc
          (tget s.log.buckets c)).held = 0) →
      ∃ t, exec (.logEvent c i x y) s = .next t ∧ t.log.intake = s.log.intake ∧ t.log.records = s.log.records ∧
        tget t.log.pend c = tget s.log.pend c + 1 ∧ t.dev.getN Reg.T_LIMIT.DROPS c =
          min (s.dev.getN Reg.T_LIMIT.DROPS c + 1) (2 ^ Reg.T_LIMIT.DROPS.width - 1)) ∧
    (∀ b, s.dev.onN Reg.T_LIMIT.OFF c = false → s.dev.getN Reg.T_LIMIT.RATE c ≠ 0 →
      b = bucketRefill (s.dev.getN Reg.T_LIMIT.RATE c) (burstOf c s.dev) s.time.loc (tget s.log.buckets c) → 0 < b.held →
      s.log.full = false → s.log.failed = false → s.log.intake.length < 64 →
      ∃ t, exec (.logEvent c i x y) s = .next t ∧ t.log = { s.log with
          intake := s.log.intake ++ [⟨⟨c, i, x, y, []⟩, s.time.ns⟩]
          buckets := tset s.log.buckets c (bucketTake (s.dev.getN Reg.T_LIMIT.RATE c) s.time.loc b) } ∧
        (tget t.log.buckets c).held = b.held - 1) ∧
    (s.dev.onN Reg.T_LIMIT.OFF c = false → s.dev.getN Reg.T_LIMIT.RATE c = 0 → s.log.full = true ∨ s.log.failed = true →
      ∃ t, exec (.logEvent c i x y) s = .next t ∧ t.log = { s.log with pend := tset s.log.pend c (tget s.log.pend c + 1) } ∧
        t.dev.get Reg.LOG_CNT_FULL.N = min (s.dev.get Reg.LOG_CNT_FULL.N + 1) (2 ^ Reg.LOG_CNT_FULL.N.width - 1)) ∧
    (s.dev.onN Reg.T_LIMIT.OFF c = false → s.dev.getN Reg.T_LIMIT.RATE c = 0 → s.log.full = false → s.log.failed = false →
      64 ≤ s.log.intake.length →
      ∃ t, exec (.logEvent c i x y) s = .next t ∧ t.log.intake = s.log.intake ∧
        tget s.log.pend c < tget t.log.pend c ∧ bitOf (t.dev.word intLog.addr) 3 = true) := by
  intro s c i x y hr hev hc
  refine ⟨fun hoff hrate hf hx hi => ?_, fun hlim => ?_, fun b hoff hrate hb hheld hf hx hi => ?_, fun hoff hrate hf => ?_,
    fun hoff hrate hf hx hi => ?_⟩
  · refine ⟨_, event_entered s c i x y s.log hr hev hc (logLimit_free hoff hrate) hf hx hi, rfl, ?_, rfl, fun a ha => ?_⟩
    · have hlen : (s.log.intake ++ [(⟨⟨c, i, x, y, []⟩, s.time.ns⟩ : LogItem)]).length = s.log.intake.length + 1 := by simp
      rw [← hlen]
      refine Dev.get_set_same s.dev Reg.LOG_STATUS.INTAKE _ rfl ?_
      rw [hlen]
      show _ < 2 ^ 7
      omega
    · rw [shown_word ha]
  · obtain ⟨lb1, hl, hrec, hint, hpend⟩ : ∃ lb1, logLimit s.time.loc c s.log s.dev = (false, lb1) ∧
        lb1.records = s.log.records ∧ lb1.intake = s.log.intake ∧ lb1.pend = s.log.pend := by
      by_cases hoff : s.dev.onN Reg.T_LIMIT.OFF c = true
      · exact ⟨_, logLimit_off hoff, rfl, rfl, rfl⟩
      · obtain ⟨hrate, hheld⟩ := hlim.resolve_left hoff
        exact ⟨_, logLimit_empty (by simpa using hoff) hrate hheld, rfl, rfl, rfl⟩
    refine ⟨_, by rw [exec_logEvent_judged hr hev, logJudge_limited (e := ⟨c, i, x, y, []⟩) hc hl], hint, hrec, ?_, ?_⟩
    · rw [← hpend]
      exact logDrop_pend (d := s.dev) c
    · refine (getN_of_word (shown_word ?_)).trans (logDrop_drops c)
      rw [drops_addr]
      omega
  · subst hb
    refine ⟨_, event_entered s c i x y _ hr hev hc (logLimit_taken hoff hrate hheld) hf hx hi, rfl, ?_⟩
    show (tget (tset s.log.buckets c _) c).held = _
    rw [tget_tset_same, bucketTake_held]
    rfl
  · refine ⟨_, by rw [exec_logEvent_judged hr hev,
      logJudge_entered (e := ⟨c, i, x, y, []⟩) hc (logLimit_free hoff hrate) (logEnter_closed hf)], rfl, ?_⟩
    have hd : (logDrop c s.log s.dev).2.get Reg.LOG_CNT_FULL.N = s.dev.get Reg.LOG_CNT_FULL.N :=
      getN_of_word (logDrop_word (by decide))
    exact (Dev.get_set_other _ _ _ _ rfl).trans ((Dev.get_sat_same _ _ rfl).trans (by rw [hd]))
  · have hj : Judging fun lb d => lb.intake = s.log.intake ∧ tget s.log.pend c < tget lb.pend c ∧
        bitOf (d.word intLog.addr) 3 = true := by
      have hc := judging_cause 3
      exact {
        dropped := fun h ⟨h1, h2, h3⟩ => ⟨h1, Nat.lt_of_lt_of_le h2 (logDrop_pend_le _ _), hc.dropped (lb := s.log) h h3⟩
        bucket := fun _ h => h
        entered := fun _ _ _ h ⟨h1, _, _⟩ => by rw [h1] at h; omega
        lost := fun ⟨h1, h2, h3⟩ => ⟨h1, h2, hc.lost (lb := s.log) h3⟩
        overflowed := fun ⟨h1, h2, h3⟩ => ⟨h1, h2, hc.overflowed (lb := s.log) h3⟩ }
    have hbit : bitOf ((((logDrop c s.log s.dev).2.sat Reg.LOG_CNT_INTAKE.N).raise intLog 3).word intLog.addr) 3 = true :=
      Dev.cause_sets _ intLog 3 0 0 (by omega)
    obtain ⟨h1, h2, h3⟩ := hj.judge1 s.time ⟨515, 0, 0, 0, []⟩ (lb := (logDrop c s.log s.dev).1)
      (d := ((logDrop c s.log s.dev).2.sat Reg.LOG_CNT_INTAKE.N).raise intLog 3)
      ⟨rfl, by rw [logDrop_pend]; exact Nat.lt_succ_self _, hbit⟩
    refine ⟨_, by rw [exec_logEvent_judged hr hev, logJudge_overflowed (e := ⟨c, i, x, y, []⟩) hc (logLimit_free hoff hrate)
      (logEnter_overflows hf hx hi)], h1, h2, ?_⟩
    rw [shown_word (by decide)]
    exact h3

theorem event_undefined :
    ∀ (s : State) (c i x y : Nat), s.dev.evs = [] → codeDefined c = false →
    exec (.logEvent c i x y) s = .next (s.after s.dev) := by
  intro s c i x y hev hc
  have hj : logJudge s.time (s.log, s.dev) ⟨c, i, x, y, []⟩ = (s.log, s.dev) := by
    unfold logJudge logJudge1
    dsimp only
    rw [if_pos (by simp [hc])]
  rw [exec_logEvent]
  split
  · rw [after_event hev, hj]
    exact congrArg Host.Outcome.next (finish_quiet hev).symm
  · rfl

theorem token_refill :
    ∀ (s : State) (c : Nat),
    (1024 ≤ c ∨ s.dev.getN Reg.T_LIMIT.RATE c = 0 → exec (.logTokenRefill c) s = .next (s.after s.dev)) ∧
    (c < 1024 → s.dev.getN Reg.T_LIMIT.RATE c ≠ 0 → exec (.logTokenRefill c) s = .next (s.afterLog { s.log with
      buckets := tset s.log.buckets c (bucketRefill (s.dev.getN Reg.T_LIMIT.RATE c) (burstOf c s.dev) s.time.loc
        (tget s.log.buckets c)) } s.dev)) := by
  refine fun s c => ⟨fun hc => ?_, fun hc hr => ?_⟩
  · rw [exec_logTokenRefill]
    by_cases h : c < 1024
    · rw [if_pos h, logTokenRefill, if_pos (hc.resolve_left (by omega)), afterLog_self]
    · rw [if_neg h, afterLog_self]
  · rw [exec_logTokenRefill, if_pos hc, logTokenRefill, if_neg hr]
    rfl

theorem bucket_gains :
    ∀ (rate burst now : Nat) (b : Bucket),
    (bucketRefill rate burst now b).held = min burst (b.held + bucketDue now b) ∧
    bucketDue now (bucketRefill rate burst now b) = 0 ∧
    (b.run = true → b.given = 0 → bucketDue now b = (now - b.start) * b.rate / 1000000000) := by
  intro rate burst now b
  unfold bucketRefill
  dsimp only
  refine ⟨?_, ?_, fun hr hg => ?_⟩
  · split
    · next h => exact (Nat.min_eq_left h).symm
    · next h =>
      have hm : min burst (b.held + bucketDue now b) = b.held + bucketDue now b := Nat.min_eq_right (by omega)
      split
      · exact hm.symm
      · exact hm.symm
  · split
    · rfl
    · split
      · next h =>
        obtain ⟨hr, -⟩ := h
        unfold bucketDue
        simp only [hr, if_true]
        omega
      · simp [bucketDue]
  · simp [bucketDue, hr, hg]

/-! ## The writer (R571 to R573, R577 to R580) -/

theorem writer_idle :
    ∀ (s : State) (g : Bool), s.log.intake = [] ∨ s.log.full = true ∨ s.log.failed = true →
    exec (.logRecordWrite g) s = .next (s.after s.dev) := by
  intro s g hc
  have hx : logRecordWrite s.time g s.log s.dev = (s.log, s.dev) := by
    unfold logRecordWrite
    split
    · rfl
    · next hi =>
      rw [hi] at hc
      exact if_pos (by simpa using hc.resolve_left (by simp))
  rw [exec_logRecordWrite, hx, afterLog_self]

/-- The record of code 530, where fences leave it room. -/
def lastRecord (t : Time) (lb : Logbook) (d : Dev) : Logbook × Dev :=
  if (logRecPlace lb 32).1 < lastRegion lb.fenced logRegions then
    logAppend ⟨⟨530, 0, 0, 0, []⟩, t.ns⟩ (lastRegion lb.fenced logRegions, 0) { lb with attempts := 0 } d
  else if (logRecPlace lb 32).1 = lastRegion lb.fenced logRegions then
    logAppend ⟨⟨530, 0, 0, 0, []⟩, t.ns⟩ (logRecPlace lb 32) { lb with attempts := 0 } d
  else ({ lb with attempts := 0 }, d)

theorem lastRecord_records (h : (logRecPlace lb 32).1 ≤ lastRegion lb.fenced logRegions) :
    ∃ x, (lastRecord t lb d).1.records = lb.records ++ [x] ∧ x.ev.code = 530 ∧ x.seq = lb.seq + 1 ∧ x.t = t.ns := by
  unfold lastRecord
  split
  · exact ⟨_, rfl, rfl, rfl, rfl⟩
  · next hlt =>
    rw [if_pos (Nat.le_antisymm h (Nat.not_lt.mp hlt))]
    exact ⟨_, rfl, rfl, rfl, rfl⟩

section
variable {x : LogItem} {rest : List LogItem} {p : Nat × Nat} {g : Bool} (hi : lb.intake = x :: rest) (hf : lb.full = false)
  (hx : lb.failed = false) (hp : p = logRecPlace lb (logRecLen x.ev))
include hi hf hx hp

theorem logRecordWrite_room (hr : p.1 < lastRegion lb.fenced logRegions) : logRecordWrite t g lb d =
    if g then logAppend x p { lb with intake := rest } d else logWriteBad p.1 lb d := by
  subst hp
  unfold logRecordWrite
  rw [hi]
  dsimp only
  rw [if_neg (by simp [hf, hx]), if_neg (Nat.not_le.mpr hr)]

theorem logRecordWrite_full (hr : lastRegion lb.fenced logRegions ≤ p.1) : logRecordWrite t g lb d =
    logClose { (lastRecord t lb d).1 with full := true } (((lastRecord t lb d).2.set Reg.LOG_STATUS.FULL 1).cause intLog 0 0 0) := by
  subst hp
  unfold logRecordWrite lastRecord
  rw [hi]
  dsimp only
  rw [if_neg (by simp [hf, hx]), if_pos hr]
end

/-- What the loss of the intake's events keeps of the Logbook. -/
theorem logClose_log (lb : Logbook) (d : Dev) : (logClose lb d).1.intake = [] ∧ (logClose lb d).1.records = lb.records ∧
    (logClose lb d).1.full = lb.full ∧ (logClose lb d).1.failed = lb.failed ∧ (logClose lb d).1.fenced = lb.fenced := by
  have hfold (l : List LogItem) (x : Logbook × Dev) : (l.foldl logLose x).1 = { x.1 with pend := (l.foldl logLose x).1.pend } := by
    induction l generalizing x with
    | nil => rfl
    | cons y l ih => exact (ih (logLose x y)).trans rfl
  have h := hfold lb.intake ({ lb with intake := [] }, d)
  unfold logClose
  rw [h]
  exact ⟨rfl, rfl, rfl, rfl, rfl⟩

/-- The words that the loss of the intake's events leaves. -/
theorem logClose_word {a : Nat} (ha : a < 0x3C0000) (hn : a ≠ 0x120014) (lb : Logbook) (d : Dev) :
    (logClose lb d).2.word a = d.word a := by
  have hfold (l : List LogItem) (x : Logbook × Dev) : (l.foldl logLose x).2.word a = x.2.word a := by
    induction l generalizing x with
    | nil => rfl
    | cons y l ih =>
      refine (ih (logLose x y)).trans ?_
      exact (Dev.word_setN _ _ _ _ _ hn).trans (logDrop_word ha)
  exact hfold _ _

theorem logAppend_device (x : LogItem) (p : Nat × Nat) (lb : Logbook) (d : Dev) : (logAppend x p lb d).2 =
    (d.set Reg.LOG_SEQ.SEQ (lb.seq + 1)).set Reg.LOG_USED.BYTES (p.1 * 256 + (p.2 + logRecLen x.ev)) := rfl

/-- A closed Logbook stays closed, and its records stand. -/
theorem judging_closed (rs : List LogRec) : Judging fun lb _ => lb.full = true ∧ lb.intake = [] ∧ lb.records = rs where
  dropped _ h := h
  bucket _ h := h
  entered _ hf _ _ h := by rw [h.1] at hf; cases hf
  lost h := h
  overflowed h := h

theorem writer_writes :
    ∀ (s : State) (x : LogItem) (rest : List LogItem) (p : Nat × Nat), s.log.intake = x :: rest → s.log.full = false →
    s.log.failed = false → s.dev.evs = [] → p = logRecPlace s.log (logRecLen x.ev) →
    (p.1 < lastRegion s.log.fenced logRegions →
      (∃ t, exec (.logRecordWrite true) s = .next t ∧ t.log.intake = rest ∧ t.log.seq = s.log.seq + 1 ∧
        t.log.records = s.log.records ++ [⟨s.log.seq + 1, x.ev, min 0xFFFF (tget s.log.pend x.ev.code), x.t,
          decide (0 < s.log.attempts), p.1, p.2⟩] ∧ tget t.log.pend x.ev.code = 0 ∧ t.log.attempts = 0 ∧
        t.dev.get Reg.LOG_SEQ.SEQ = (s.log.seq + 1) % 2 ^ 32 ∧ t.dev.hif = s.dev.hif ∧ t.time = s.time) ∧
      exec (.logRecordWrite false) s = .next (s.afterLog (logWriteBad p.1 s.log s.dev).1 (logWriteBad p.1 s.log s.dev).2)) ∧
    (lastRegion s.log.fenced logRegions ≤ p.1 → ∀ g, ∃ t, exec (.logRecordWrite g) s = .next t ∧ t.log.full = true ∧
      t.log.intake = [] ∧ ((logRecPlace s.log 32).1 ≤ lastRegion s.log.fenced logRegions →
        ∃ r, t.log.records = s.log.records ++ [r] ∧ r.ev.code = 530 ∧ r.seq = s.log.seq + 1 ∧ r.t = s.time.ns)) := by
  intro s x rest p hi hf hx hev hp
  refine ⟨fun hr => ⟨?_, ?_⟩, fun hr g => ?_⟩
  · have hw : logRecordWrite s.time true s.log s.dev = logAppend x p { s.log with intake := rest } s.dev :=
      (logRecordWrite_room hi hf hx hp hr).trans (if_pos rfl)
    have hq : s.afterLog (logAppend x p { s.log with intake := rest } s.dev).1
        (logAppend x p { s.log with intake := rest } s.dev).2 = shown s (logAppend x p { s.log with intake := rest } s.dev) :=
      finish_quiet hev
    refine ⟨shown s (logAppend x p { s.log with intake := rest } s.dev), by rw [exec_logRecordWrite, hw, hq], rfl, rfl, rfl, ?_, rfl, ?_, rfl, rfl⟩
    · exact tget_tset_same s.log.pend x.ev.code 0
    · show ((logAppend x p { s.log with intake := rest } s.dev).2.set Reg.LOG_STATUS.INTAKE _).get Reg.LOG_SEQ.SEQ = _
      rw [Dev.get_set_other _ _ _ _ rfl, logAppend_device, Dev.get_set_other _ _ _ _ rfl]
      exact Dev.getN_setN_same s.dev Reg.LOG_SEQ.SEQ 0 _ rfl
  · rw [exec_logRecordWrite, logRecordWrite_room hi hf hx hp hr, if_neg (by simp)]
  · obtain ⟨hint, hrec, hfull, -, -⟩ := logClose_log { (lastRecord s.time s.log s.dev).1 with full := true }
      (((lastRecord s.time s.log s.dev).2.set Reg.LOG_STATUS.FULL 1).cause intLog 0 0 0)
    obtain ⟨-, -, ⟨h1, h2, h3⟩, -⟩ := (judging_closed _).finish (s := { s with
      log := (logRecordWrite s.time g s.log s.dev).1, dev := (logRecordWrite s.time g s.log s.dev).2 }) (by
        rw [logRecordWrite_full hi hf hx hp hr]
        exact ⟨hfull, hint, hrec⟩)
    refine ⟨_, exec_logRecordWrite g s, h1, h2, fun hl => ?_⟩
    obtain ⟨y, hy, hcode, hseq, ht⟩ := lastRecord_records (t := s.time) (d := s.dev) hl
    exact ⟨y, h3.trans hy, hcode, hseq, ht⟩

/-! ## A write that does not read back, and lasting faults -/

theorem fenceRegion_log (r : Nat) (lb : Logbook) (d : Dev) :
    (fenceRegion r lb d).1 = { lb with fenced := (fenceRegion r lb d).1.fenced } ∧ r ∈ (fenceRegion r lb d).1.fenced := by
  unfold fenceRegion
  split
  · next h => exact ⟨rfl, by simpa using h⟩
  · exact ⟨rfl, List.mem_cons_self⟩

theorem fenceRegion_word {a : Nat} (h1 : a ≠ 0x120020) (h2 : a ≠ 0x120024) (r : Nat) (lb : Logbook) (d : Dev) :
    (fenceRegion r lb d).2.word a = d.word a := by
  unfold fenceRegion
  split
  · rfl
  · exact (Dev.word_set _ _ _ _ h1).trans ((Dev.word_set _ _ _ _ h2).trans ((Dev.word_set _ _ _ _ h2).trans
      (Dev.word_set _ _ _ _ h1)))

/-- A region fenced for a write that did not read back, and the cause raised. -/
def writeFailed (r : Nat) (lb : Logbook) (d : Dev) : Dev :=
  ((fenceRegion r lb (d.sat Reg.LOG_HEALTH2.WFAIL)).2.cause intLog 1 0 0).event 528 0 r 0

theorem logWriteBad_again (h : lb.attempts < 3) : logWriteBad r lb d =
    ({ (fenceRegion r lb (d.sat Reg.LOG_HEALTH2.WFAIL)).1 with attempts := lb.attempts + 1 }, writeFailed r lb d) := by
  have ha : (fenceRegion r lb (d.sat Reg.LOG_HEALTH2.WFAIL)).1.attempts = lb.attempts := by rw [(fenceRegion_log r lb _).1]
  unfold logWriteBad
  dsimp only
  rw [ha, if_pos (by omega)]
  rfl

theorem logWriteBad_ends (h : 3 ≤ lb.attempts) : logWriteBad r lb d =
    logClose { (fenceRegion r lb (d.sat Reg.LOG_HEALTH2.WFAIL)).1 with attempts := 0, failed := true }
      (((writeFailed r lb d).set Reg.LOG_HEALTH0.STATE 2).cause intLog 2 0 0) := by
  have ha : (fenceRegion r lb (d.sat Reg.LOG_HEALTH2.WFAIL)).1.attempts = lb.attempts := by rw [(fenceRegion_log r lb _).1]
  unfold logWriteBad
  dsimp only
  rw [ha, if_neg (by omega)]
  rfl

theorem writeFailed_cause (r : Nat) (lb : Logbook) (d : Dev) : bitOf ((writeFailed r lb d).word intLog.addr) 1 = true :=
  Dev.cause_sets _ intLog 1 0 0 (by omega)

theorem writeFailed_count (r : Nat) (lb : Logbook) (d : Dev) : (writeFailed r lb d).get Reg.LOG_HEALTH2.WFAIL =
    min (d.get Reg.LOG_HEALTH2.WFAIL + 1) (2 ^ Reg.LOG_HEALTH2.WFAIL.width - 1) := by
  rw [writeFailed, Dev.event_get, Dev.cause_get _ _ _ _ _ _ (by decide)]
  exact (getN_of_word (fenceRegion_word (by decide) (by decide) r lb _)).trans (Dev.get_sat_same d _ rfl)

theorem write_bad :
    ∀ (r : Nat) (lb : Logbook) (d : Dev), r ∈ (logWriteBad r lb d).1.fenced ∧
    (logWriteBad r lb d).1.records = lb.records ∧ bitOf ((logWriteBad r lb d).2.word intLog.addr) 1 = true ∧
    (logWriteBad r lb d).2.get Reg.LOG_HEALTH2.WFAIL =
      min (d.get Reg.LOG_HEALTH2.WFAIL + 1) (2 ^ Reg.LOG_HEALTH2.WFAIL.width - 1) ∧
    (lb.attempts < 3 → (logWriteBad r lb d).1.attempts = lb.attempts + 1 ∧ (logWriteBad r lb d).1.failed = lb.failed ∧
      (logWriteBad r lb d).1.intake = lb.intake) ∧
    (3 ≤ lb.attempts → (logWriteBad r lb d).1.failed = true ∧ (logWriteBad r lb d).1.intake = [] ∧
      (logWriteBad r lb d).2.get Reg.LOG_HEALTH0.STATE = 2 ∧ bitOf ((logWriteBad r lb d).2.word intLog.addr) 2 = true) := by
  intro r lb d
  obtain ⟨hlog, hmem⟩ := fenceRegion_log r lb (d.sat Reg.LOG_HEALTH2.WFAIL)
  have hrec : (fenceRegion r lb (d.sat Reg.LOG_HEALTH2.WFAIL)).1.records = lb.records := by rw [hlog]
  have hint : (fenceRegion r lb (d.sat Reg.LOG_HEALTH2.WFAIL)).1.intake = lb.intake := by rw [hlog]
  have hfail : (fenceRegion r lb (d.sat Reg.LOG_HEALTH2.WFAIL)).1.failed = lb.failed := by rw [hlog]
  rcases Nat.lt_or_ge lb.attempts 3 with h | h
  · rw [logWriteBad_again h]
    exact ⟨hmem, hrec, writeFailed_cause r lb d, writeFailed_count r lb d, fun _ => ⟨rfl, hfail, hint⟩,
      fun h3 => absurd h (Nat.not_lt.mpr h3)⟩
  · obtain ⟨cint, crec, -, cfail, cfen⟩ :=
      logClose_log { (fenceRegion r lb (d.sat Reg.LOG_HEALTH2.WFAIL)).1 with attempts := 0, failed := true }
        (((writeFailed r lb d).set Reg.LOG_HEALTH0.STATE 2).cause intLog 2 0 0)
    rw [logWriteBad_ends h]
    refine ⟨by rw [cfen]; exact hmem, crec.trans hrec, ?_, ?_, fun h3 => absurd h3 (Nat.not_lt.mpr h), fun _ => ⟨cfail, cint, ?_, ?_⟩⟩
    · rw [logClose_word (by decide) (by decide)]
      exact Dev.cause_bit _ _ _ _ _ (Dev.bit_setN _ _ _ _ (by decide) (writeFailed_cause r lb d))
    · refine (getN_of_word (logClose_word (by decide) (by decide) _ _)).trans ?_
      rw [← Dev.get, Dev.cause_get _ _ _ _ _ _ (by decide), Dev.get_set_other _ _ _ _ rfl, writeFailed_count]
    · refine (getN_of_word (logClose_word (by decide) (by decide) _ _)).trans ?_
      rw [← Dev.get, Dev.cause_get _ _ _ _ _ _ (by decide)]
      exact Dev.get_set_same _ _ _ rfl (by decide)
    · rw [logClose_word (by decide) (by decide)]
      exact Dev.cause_sets _ _ _ _ _ (by omega)

theorem logReread_lasting {rest : List Nat} (h : lb.again = w :: rest) :
    logReread true lb d = logLasting w { lb with again := rest } d := by
  unfold logReread
  rw [h]
  rfl

/-- The Logbook with a word's lasting fault noted. -/
def lastingNoted (w : Nat) (lb : Logbook) : Logbook :=
  if lb.lasting.contains w then lb else { lb with lasting := w :: lb.lasting }

/-- A lasting fault counted and raised. -/
def lastingRaised (w : Nat) (d : Dev) : Dev := ((d.sat Reg.LOG_HEALTH2.LASTING).cause intLog 1 0 0).event 528 0 (w / 64) 1

theorem logLasting_eq (w : Nat) (lb : Logbook) (d : Dev) :
    logLasting w lb d = fenceRegion (w / 64) (lastingNoted w lb) (lastingRaised w d) := rfl

theorem lastingNoted_log (w : Nat) (lb : Logbook) : w ∈ (lastingNoted w lb).lasting ∧ (lastingNoted w lb).again = lb.again ∧
    (lastingNoted w lb).records = lb.records := by
  unfold lastingNoted
  split
  · next h => exact ⟨by simpa using h, rfl, rfl⟩
  · exact ⟨List.mem_cons_self, rfl, rfl⟩

theorem word_reread :
    ∀ (s : State) (w : Nat) (rest : List Nat), s.log.again = w :: rest →
    exec (.logReread false) s =
      .next (s.afterLog { s.log with again := rest } (s.dev.sat Reg.LOG_HEALTH0.TRANS)) ∧
    ∃ lb d, exec (.logReread true) s = .next (s.afterLog lb d) ∧ lb.again = rest ∧ w ∈ lb.lasting ∧ w / 64 ∈ lb.fenced ∧
      lb.records = s.log.records ∧ d.get Reg.LOG_HEALTH2.LASTING =
        min (s.dev.get Reg.LOG_HEALTH2.LASTING + 1) (2 ^ Reg.LOG_HEALTH2.LASTING.width - 1) ∧
      bitOf (d.word intLog.addr) 1 = true := by
  intro s w rest h
  refine ⟨?_, (logReread true s.log s.dev).1, (logReread true s.log s.dev).2, exec_logReread true s, ?_⟩
  · have hx : logReread false s.log s.dev = ({ s.log with again := rest }, s.dev.sat Reg.LOG_HEALTH0.TRANS) := by
      unfold logReread
      rw [h]
      rfl
    rw [exec_logReread, hx]
  · obtain ⟨hmem, hagain, hrec⟩ := lastingNoted_log w { s.log with again := rest }
    obtain ⟨hlog, hfen⟩ := fenceRegion_log (w / 64) (lastingNoted w { s.log with again := rest }) (lastingRaised w s.dev)
    rw [logReread_lasting h, logLasting_eq]
    refine ⟨by rw [hlog]; exact hagain, by rw [hlog]; exact hmem, hfen, by rw [hlog]; exact hrec, ?_, ?_⟩
    · refine (getN_of_word (fenceRegion_word (by decide) (by decide) _ _ _)).trans ?_
      rw [← Dev.get, lastingRaised, Dev.event_get, Dev.cause_get _ _ _ _ _ _ (by decide)]
      exact Dev.get_sat_same _ _ rfl
    · rw [fenceRegion_word (by decide) (by decide)]
      exact Dev.cause_sets _ intLog 1 0 0 (by omega)

theorem scrub_reads :
    ∀ (s : State) (b : Bool), s.dev.pwr.released = true →
    exec (.logScrub b) s = .next (s.afterLog { s.log with
      scrub := (s.log.scrub + 1) % 524288,
      again := if b = true ∧ s.log.scrub ∉ s.log.again then s.log.again ++ [s.log.scrub] else s.log.again } s.dev) := by
  intro s b hr
  have hb : (b && !s.log.again.contains s.log.scrub) = true ↔ b = true ∧ s.log.scrub ∉ s.log.again := by simp
  rw [exec_logScrub, if_pos hr, logScrub]
  simp only [hb]
  rfl

theorem scrub_unreleased :
    ∀ (s : State) (b : Bool), s.dev.pwr.released = false → exec (.logScrub b) s = .next (s.after s.dev) := by
  intro s b hr
  rw [exec_logScrub, if_neg (by simp [hr]), afterLog_self]

theorem reread_idle :
    ∀ (s : State) (b : Bool), s.log.again = [] → exec (.logReread b) s = .next (s.after s.dev) := by
  intro s b h
  have hx : logReread b s.log s.dev = (s.log, s.dev) := by
    unfold logReread
    rw [h]
  rw [exec_logReread, hx, afterLog_self]

/-- Settles O57: events and their limits, the writer, and the parity of the memory. -/
theorem logbookWriter : Obligations.LogbookWriter :=
  ⟨⟨event_unreleased, events_judged, event_undefined, token_refill, bucket_gains⟩, ⟨writer_idle, writer_writes, write_bad⟩,
    scrub_reads, scrub_unreleased, reread_idle, word_reread⟩

end Sys2Proof.Machine

/-!
PROOFS. O58: the Logbook's reader (R583 to R587), its mirror, and the flush on a power-fail warning (R588, R589, R642, R660,
R661).
-/

namespace Sys2Proof.Machine

open Sys2Proof

variable {s : State} {lb : Logbook} {d : Dev} {t : Time} {v : Word32} {n : Nat} {x : LogRec}

theorem exec_logReadGo (v : Word32) (s : State) :
    exec (.logReadGo v) s = .next (s.after (if s.dev.pwr.released then logReadGo s.log v s.dev else s.dev)) := rfl

theorem exec_logReadStop (v : Word32) (s : State) :
    exec (.logReadStop v) s = .next (s.after (if s.dev.pwr.released then logReadStop s.log v s.dev else s.dev)) := rfl

theorem exec_logReadDeliver (s : State) : exec .logReadDeliver s =
    .next (s.afterLog (logReadDeliver s.time s.log s.dev).1 (logReadDeliver s.time s.log s.dev).2) := rfl

theorem exec_logBufferTimeout (s : State) :
    exec .logBufferTimeout s = .next (s.after (logBufferTimeout s.time s.log s.dev)) := rfl

theorem exec_mirrorRecord (s : State) : exec .mirrorRecord s = .next (s.after (mirrorRecord s.log s.dev)) := rfl

theorem exec_powerFailWarning (s : State) :
    exec .powerFailWarning s = .next (s.after (powerFailWarning s.time s.log s.dev)) := rfl

theorem exec_powerFailClear (s : State) : exec .powerFailClear s = .next (s.after (powerFailClear s.dev)) := rfl

theorem exec_logFlushDone (s : State) : exec .logFlushDone s = .next (s.after (logFlushDone s.dev)) := rfl

theorem exec_flushAreaErase (s : State) : exec .flushAreaErase s = .next (s.after (flushAreaErase s.dev)) := rfl

theorem reader_after {f : Field} (s : State) (d : Dev) (h1 : 0x120018 ≤ f.reg.addr 0) (h2 : f.reg.addr 0 < 0x120040) :
    (s.after d).dev.get f = d.get f ∧ (s.after d).dev.on f = d.on f :=
  have h := notIntake_between h1 (h2.trans (by decide))
  ⟨after_get _ _ _ h, after_on _ _ _ h⟩

/-! ## The control register (R583, R586) -/

/-- LOG_RD_CTRL as it is written. -/
def readerAsked (v : Word32) (d : Dev) : Dev :=
  (d.set Reg.LOG_RD_CTRL.RING v.toNat).set Reg.LOG_RD_CTRL.FOLLOW (bits v.toNat 8 1)

/-- The reader starts. -/
def readerStarts (lb : Logbook) (v : Word32) (d : Dev) : Dev :=
  { (((readerAsked v d).set Reg.LOG_RD_STAT.STATUS stOk).setB Reg.LOG_RD_STAT.RUN 0
      (bitOf v 8 || decide (d.get Reg.LOG_RD_START.SEQ ≤ lb.seq))).set Reg.LOG_RD_NEXT.SEQ (d.get Reg.LOG_RD_START.SEQ) with
    rdr := ⟨d.get Reg.LOG_RD_START.SEQ, lb.seq, bitOf v 8, v.toNat % 256, false, [], 0⟩ }

theorem readerAsked_run : (readerAsked v d).on Reg.LOG_RD_STAT.RUN = d.on Reg.LOG_RD_STAT.RUN :=
  (Dev.on_set_other _ _ _ _ rfl).trans (Dev.on_set_other _ _ _ _ rfl)

theorem readerAsked_start : (readerAsked v d).get Reg.LOG_RD_START.SEQ = d.get Reg.LOG_RD_START.SEQ :=
  (Dev.get_set_other _ _ _ _ rfl).trans (Dev.get_set_other _ _ _ _ rfl)

theorem readerAsked_ring : (readerAsked v d).get Reg.LOG_RD_CTRL.RING = v.toNat % 256 :=
  (Dev.get_set_other _ _ _ _ rfl).trans (Dev.getN_setN_same d Reg.LOG_RD_CTRL.RING 0 _ rfl)

theorem bits_one_ne (v : Word32) (k : Nat) : (bits v.toNat k 1 != 0) = bitOf v k := by
  rw [bits, bitOf, BitVec.getLsbD, Nat.testBit, Nat.one_and_eq_mod_two]
  rfl

theorem readerAsked_follow : (readerAsked v d).on Reg.LOG_RD_CTRL.FOLLOW = bitOf v 8 := by
  have hb : bits v.toNat 8 1 % 2 ^ Reg.LOG_RD_CTRL.FOLLOW.width = bits v.toNat 8 1 := Nat.mod_eq_of_lt (bits_lt_two_pow ..)
  rw [readerAsked, Dev.on_set_same _ _ _ rfl, hb, bits_one_ne]

theorem readerAsked_runs (hn : n < 256) : ringRuns (readerAsked v d) n = ringRuns d n := by
  have ha : Reg.HIF_RINGn_STAT.STATE.reg.addr n ≠ 0x120034 := by
    rw [RegAt.addr_single (r := Reg.HIF_RINGn_STAT.STATE.reg) rfl]
    omega
  have hs : ringState (readerAsked v d) n = ringState d n :=
    (Dev.getN_setN_addr _ _ _ _ _ _ ha).trans (Dev.getN_setN_addr _ _ _ _ _ _ ha)
  rw [ringRuns, hs, ← ringRuns]

theorem logReadGo_plain (h : bitOf v 9 = false ∨ d.on Reg.LOG_RD_STAT.RUN = true) : logReadGo lb v d = readerAsked v d := by
  refine if_pos (h.imp (fun h => by simp [h]) fun h => ?_)
  exact readerAsked_run.trans h

theorem logReadGo_judged (hv : bitOf v 9 = true) (hr : d.on Reg.LOG_RD_STAT.RUN = false) : logReadGo lb v d =
    if d.get Reg.LOG_RD_START.SEQ = 0 ∨ lb.seq + 1 < d.get Reg.LOG_RD_START.SEQ ∨ ringRuns d (v.toNat % 256) = false ∨
      (d.ring (v.toNat % 256)).cls ≠ clsLogs then (readerAsked v d).set Reg.LOG_RD_STAT.STATUS stRejected
    else readerStarts lb v d := by
  have hrun : ¬ (readerAsked v d).on Reg.LOG_RD_STAT.RUN = true := by simp [readerAsked_run, hr]
  have hgo : ¬ ((!bitOf v 9) = true ∨ (readerAsked v d).on Reg.LOG_RD_STAT.RUN = true) := by simp [hv, hrun]
  have hring : ((readerAsked v d).ring (v.toNat % 256)).cls = (d.ring (v.toNat % 256)).cls := rfl
  have hcond : ((readerAsked v d).get Reg.LOG_RD_START.SEQ = 0 ∨ lb.seq + 1 < (readerAsked v d).get Reg.LOG_RD_START.SEQ ∨
      (!ringRuns (readerAsked v d) ((readerAsked v d).get Reg.LOG_RD_CTRL.RING)) = true ∨
      ((readerAsked v d).ring ((readerAsked v d).get Reg.LOG_RD_CTRL.RING)).cls ≠ clsLogs) ↔
      (d.get Reg.LOG_RD_START.SEQ = 0 ∨ lb.seq + 1 < d.get Reg.LOG_RD_START.SEQ ∨ ringRuns d (v.toNat % 256) = false ∨
      (d.ring (v.toNat % 256)).cls ≠ clsLogs) := by
    rw [readerAsked_start, readerAsked_ring, readerAsked_runs (Nat.mod_lt _ (by decide)), hring, Bool.not_eq_true']
  have hstarts : { (((readerAsked v d).set Reg.LOG_RD_STAT.STATUS stOk).setB Reg.LOG_RD_STAT.RUN 0
      ((readerAsked v d).on Reg.LOG_RD_CTRL.FOLLOW || decide ((readerAsked v d).get Reg.LOG_RD_START.SEQ ≤ lb.seq))).set
        Reg.LOG_RD_NEXT.SEQ ((readerAsked v d).get Reg.LOG_RD_START.SEQ) with
      rdr := ⟨(readerAsked v d).get Reg.LOG_RD_START.SEQ, lb.seq, (readerAsked v d).on Reg.LOG_RD_CTRL.FOLLOW,
        (readerAsked v d).get Reg.LOG_RD_CTRL.RING, false, [], 0⟩ } = readerStarts lb v d := by
    rw [readerAsked_start, readerAsked_ring, readerAsked_follow, ← readerStarts]
  unfold logReadGo
  exact (if_neg hgo).trans (if_congr hcond rfl hstarts)

theorem on_setB (d : Dev) (f : Field) (b : Bool) (hf : f.fits = true) (hw : f.width = 1) : (d.setB f 0 b).on f = b := by
  have h := Dev.onN_setN_same d f 0 (if b then 1 else 0) hf
  rw [hw] at h
  refine h.trans ?_
  cases b <;> rfl

theorem readerStarts_run : (readerStarts lb v d).on Reg.LOG_RD_STAT.RUN =
    (bitOf v 8 || decide (d.get Reg.LOG_RD_START.SEQ ≤ lb.seq)) :=
  (Dev.on_set_other _ _ _ _ rfl).trans (on_setB _ _ _ rfl rfl)

theorem readerStarts_status : (readerStarts lb v d).get Reg.LOG_RD_STAT.STATUS = stOk :=
  (Dev.get_set_other _ _ _ _ rfl).trans ((Dev.get_set_other _ Reg.LOG_RD_STAT.RUN _ _ rfl).trans
    (Dev.get_set_same _ _ _ rfl (by decide)))

theorem readerStarts_next : (readerStarts lb v d).get Reg.LOG_RD_NEXT.SEQ = d.get Reg.LOG_RD_START.SEQ :=
  Dev.get_set_same _ Reg.LOG_RD_NEXT.SEQ _ rfl (Dev.getN_lt d Reg.LOG_RD_START.SEQ 0)

theorem reader_goes :
    ∀ (s : State) (v : Word32), s.dev.pwr.released = true → bitOf v 9 = true → s.dev.on Reg.LOG_RD_STAT.RUN = false →
    (s.dev.get Reg.LOG_RD_START.SEQ = 0 ∨ s.log.seq + 1 < s.dev.get Reg.LOG_RD_START.SEQ ∨
        ringRuns s.dev (v.toNat % 256) = false ∨ (s.dev.ring (v.toNat % 256)).cls ≠ clsLogs →
      ∃ t, exec (.logReadGo v) s = .next t ∧ t.dev.get Reg.LOG_RD_STAT.STATUS = stRejected ∧
        t.dev.on Reg.LOG_RD_STAT.RUN = false ∧ t.dev.rdr = s.dev.rdr) ∧
    (s.dev.get Reg.LOG_RD_START.SEQ ≠ 0 → s.dev.get Reg.LOG_RD_START.SEQ ≤ s.log.seq →
      ringRuns s.dev (v.toNat % 256) = true → (s.dev.ring (v.toNat % 256)).cls = clsLogs →
      ∃ t, exec (.logReadGo v) s = .next t ∧ t.dev.get Reg.LOG_RD_STAT.STATUS = stOk ∧
        t.dev.on Reg.LOG_RD_STAT.RUN = true ∧ t.dev.get Reg.LOG_RD_NEXT.SEQ = s.dev.get Reg.LOG_RD_START.SEQ ∧
        t.dev.rdr = ⟨s.dev.get Reg.LOG_RD_START.SEQ, s.log.seq, bitOf v 8, v.toNat % 256, false, [], 0⟩) ∧
    (s.dev.get Reg.LOG_RD_START.SEQ ≠ 0 → s.dev.get Reg.LOG_RD_START.SEQ = s.log.seq + 1 →
      ringRuns s.dev (v.toNat % 256) = true → (s.dev.ring (v.toNat % 256)).cls = clsLogs →
      ∃ t, exec (.logReadGo v) s = .next t ∧ t.dev.get Reg.LOG_RD_STAT.STATUS = stOk ∧
        t.dev.on Reg.LOG_RD_STAT.RUN = bitOf v 8 ∧ t.dev.get Reg.LOG_RD_NEXT.SEQ = s.dev.get Reg.LOG_RD_START.SEQ) := by
  intro s v hrel hv hr
  have hx := logReadGo_judged (lb := s.log) hv hr
  have start (h0 : s.dev.get Reg.LOG_RD_START.SEQ ≠ 0) (h1 : s.dev.get Reg.LOG_RD_START.SEQ ≤ s.log.seq + 1)
      (h2 : ringRuns s.dev (v.toNat % 256) = true) (h3 : (s.dev.ring (v.toNat % 256)).cls = clsLogs) :
      exec (.logReadGo v) s = .next (s.after (readerStarts s.log v s.dev)) := by
    rw [exec_logReadGo, if_pos hrel, hx, if_neg]
    rintro (h | h | h | h)
    · exact h0 h
    · omega
    · simp [h2] at h
    · exact h h3
  refine ⟨fun hc => ?_, fun h0 h1 h2 h3 => ⟨_, start h0 (by omega) h2 h3, ?_, ?_, ?_, ?_⟩,
    fun h0 h1 h2 h3 => ⟨_, start h0 (by omega) h2 h3, ?_, ?_, ?_⟩⟩
  · refine ⟨_, by rw [exec_logReadGo, if_pos hrel, hx, if_pos hc], ?_, ?_, ?_⟩
    · rw [(reader_after _ _ (by decide) (by decide)).1]
      exact Dev.get_set_same _ _ _ rfl (by decide)
    · rw [(reader_after _ _ (by decide) (by decide)).2, Dev.on_set_other _ _ _ _ rfl, readerAsked_run, hr]
    · rw [after_rdr]
      rfl
  · rw [(reader_after _ _ (by decide) (by decide)).1, readerStarts_status]
  · rw [(reader_after _ _ (by decide) (by decide)).2, readerStarts_run, decide_eq_true h1, Bool.or_true]
  · rw [(reader_after _ _ (by decide) (by decide)).1, readerStarts_next]
  · rw [after_rdr]
    rfl
  · rw [(reader_after _ _ (by decide) (by decide)).1, readerStarts_status]
  · rw [(reader_after _ _ (by decide) (by decide)).2, readerStarts_run, decide_eq_false (by omega), Bool.or_false]
  · rw [(reader_after _ _ (by decide) (by decide)).1, readerStarts_next]

theorem logReadStop_plain (h : bitOf v 10 = false ∨ d.on Reg.LOG_RD_STAT.RUN = false) : logReadStop lb v d = readerAsked v d := by
  refine if_neg fun ⟨h1, h2⟩ => ?_
  rcases h with h | h
  · simp [h] at h1
  · have h2' : (readerAsked v d).on Reg.LOG_RD_STAT.RUN = true := h2
    rw [readerAsked_run, h] at h2'
    cases h2'

theorem logReadStop_stops (h : bitOf v 10 = true) (hr : d.on Reg.LOG_RD_STAT.RUN = true) :
    logReadStop lb v d = readerStop (readerComplete lb (readerAsked v d)) := if_pos ⟨h, readerAsked_run.trans hr⟩

theorem reader_kept :
    ∀ (s : State) (v : Word32), s.dev.pwr.released = true →
    (bitOf v 9 = false ∨ s.dev.on Reg.LOG_RD_STAT.RUN = true → exec (.logReadGo v) s = .next (s.after
      ((s.dev.set Reg.LOG_RD_CTRL.RING v.toNat).set Reg.LOG_RD_CTRL.FOLLOW (bits v.toNat 8 1)))) ∧
    (bitOf v 10 = false ∨ s.dev.on Reg.LOG_RD_STAT.RUN = false → exec (.logReadStop v) s = .next (s.after
      ((s.dev.set Reg.LOG_RD_CTRL.RING v.toNat).set Reg.LOG_RD_CTRL.FOLLOW (bits v.toNat 8 1)))) := by
  refine fun s v hrel => ⟨fun h => ?_, fun h => ?_⟩
  · rw [exec_logReadGo, if_pos hrel, logReadGo_plain h, readerAsked]
  · rw [exec_logReadStop, if_pos hrel, logReadStop_plain h, readerAsked]

theorem reader_unreleased :
    ∀ (s : State) (v : Word32), s.dev.pwr.released = false →
    exec (.logReadGo v) s = .next (s.after s.dev) ∧ exec (.logReadStop v) s = .next (s.after s.dev) := by
  intro s v hrel
  exact ⟨by rw [exec_logReadGo, if_neg (by simp [hrel])], by rw [exec_logReadStop, if_neg (by simp [hrel])]⟩

/-! ## A buffer completes -/

theorem readerStop_run (d : Dev) : (readerStop d).on Reg.LOG_RD_STAT.RUN = false := Dev.on_set_same d Reg.LOG_RD_STAT.RUN 0 rfl

theorem readerStop_buf (d : Dev) : (readerStop d).rdr.buf = [] := rfl

theorem readerStop_sent (d : Dev) : (readerStop d).hif.sent = d.hif.sent := rfl

/-- A delivery writes nothing at or above the Logbook's registers. -/
theorem deliver_word {a : Nat} (ha : 0x120000 ≤ a) (hn : n < 256) (bytes ext : List Byte) (d : Dev) :
    (deliver n bytes ext d).2.word a = d.word a := by
  have hdcons : a ≠ Reg.HIF_RINGn_DCONS.N.reg.addr n := by
    rw [RegAt.addr_single (r := Reg.HIF_RINGn_DCONS.N.reg) rfl]
    omega
  have hdrop : a ≠ Reg.HIF_RINGn_DROP.N.reg.addr n := by
    rw [RegAt.addr_single (r := Reg.HIF_RINGn_DROP.N.reg) rfl]
    omega
  have hskip (k : Nat) (x : Dev) : (skipBad n k x).word a = x.word a := by
    induction k generalizing x with
    | zero => rfl
    | succ k ih =>
      unfold skipBad
      split
      · split
        · rfl
        · exact (ih _).trans (Dev.word_setN _ _ _ _ _ hdcons)
      · rfl
  unfold deliver deliverSt
  dsimp only
  split
  · split
    · split
      · exact (hskip _ _).trans (Dev.word_setN _ _ _ _ _ hdcons)
      · exact (hskip _ _).trans (Dev.word_setN _ _ _ _ _ hdcons)
    · exact Dev.word_setN _ _ _ _ _ hdrop
  · exact Dev.word_setN _ _ _ _ _ hdrop

theorem deliver_rdr (n : Nat) (bytes ext : List Byte) (d : Dev) : (deliver n bytes ext d).2.rdr = d.rdr :=
  (@Tame.deliver [.hif] d d n bytes ext (.refl _ d) ⟨by decide⟩).stands .rdr (by decide)

/-- A delivery that fits the buffer at the head of its ring is written there. -/
theorem deliver_written {b : Posted} {rest : List Posted} {bytes : List Byte} (hp : (d.ring n).posted = b :: rest)
    (hf : ringFree d n = true) (hl : bytes.length ≤ b.len) (ext : List Byte) :
    (deliver n bytes ext d).2.hif.sent = d.hif.sent ++ [.data b.addr bytes (d.on Reg.HIF_CTRL.RO_EN)] := by
  have hskip (k : Nat) (x : Dev) : (skipBad n k x).hif.sent = x.hif.sent := by
    induction k generalizing x with
    | zero => rfl
    | succ k ih =>
      unfold skipBad
      split
      · split
        · rfl
        · exact (ih _).trans rfl
      · rfl
  unfold deliver deliverSt
  dsimp only
  rw [hp]
  dsimp only
  rw [if_pos hf, if_neg (Nat.not_lt.mpr hl)]
  exact (hskip _ _).trans rfl

theorem readerComplete_rdr (lb : Logbook) (d : Dev) : (readerComplete lb d).rdr = { d.rdr with buf := [] } := by
  unfold readerComplete
  split
  · next h => rw [← h]
  · exact deliver_rdr ..

theorem readerComplete_word {a : Nat} (ha : 0x120000 ≤ a) (hn : d.rdr.ring < 256) (lb : Logbook) :
    (readerComplete lb d).word a = d.word a := by
  unfold readerComplete
  split
  · rfl
  · exact deliver_word ha hn _ _ (d.modRdr fun x => { x with buf := [] })

theorem readerComplete_sent {b : Posted} {rest : List Posted} (hb : d.rdr.buf = [x])
    (hp : (d.ring d.rdr.ring).posted = b :: rest) (hf : ringFree d d.rdr.ring = true) (hl : (logRecBytes lb x).length ≤ b.len) :
    (readerComplete lb d).hif.sent = d.hif.sent ++ [.data b.addr (logRecBytes lb x) (d.on Reg.HIF_CTRL.RO_EN)] := by
  have hbytes : [x].flatMap (logRecBytes lb) = logRecBytes lb x := by simp
  unfold readerComplete
  rw [hb]
  dsimp only
  rw [hbytes]
  exact deliver_written (d := d.modRdr fun y => { y with buf := [] }) hp hf hl _

theorem logRecBytes_length (lb : Logbook) (x : LogRec) : (logRecBytes lb x).length ≤ logRecLen x.ev := by
  have hw (f : Nat → List Byte) (hf : ∀ i, (f i).length = 4) (l : List Nat) : (l.flatMap f).length = 4 * l.length := by
    induction l with
    | nil => rfl
    | cons i l ih =>
      rw [List.flatMap_cons, List.length_append, hf, ih, List.length_cons]
      omega
  unfold logRecBytes
  dsimp only
  rw [hw _ (fun i => by split <;> simp), List.length_range]
  omega

/-! ## Packing (R583 to R585) -/

/-- A record joins the buffer in hand. -/
def recordPacked (t : Time) (x : LogRec) (d : Dev) : Dev :=
  d.modRdr fun y => { y with
    next := x.seq + 1, buf := y.buf ++ [x], since := if y.buf.isEmpty then t.loc else y.since
    caught := y.caught || decide (x.seq = y.stop) }

theorem readerPack_none (h : readerNext lb d.rdr = none) : readerPack t (n + 1) lb d =
    if d.rdr.follow then (lb, d) else (lb, readerStop (readerComplete lb d)) := by
  unfold readerPack
  dsimp only
  rw [h]

theorem readerPack_waits (h : readerNext lb d.rdr = some x) (hf : ringFree d d.rdr.ring = false) :
    readerPack t (n + 1) lb d = (lb, d) := by
  unfold readerPack
  dsimp only
  rw [h]
  exact if_pos (by simp [hf])

theorem readerPack_last {b : Posted} {rest : List Posted} (hw : d.rdr.follow = false) (h : readerNext lb d.rdr = some x)
    (hs : x.seq = d.rdr.stop) (hb : d.rdr.buf = []) (hf : ringFree d d.rdr.ring = true)
    (hp : (d.ring d.rdr.ring).posted = b :: rest) (hl : logRecLen x.ev ≤ b.len) (hq : logRecFaults lb x = []) :
    readerPack t (n + 1) lb d = (lb, readerStop (readerComplete lb (recordPacked t x d))) := by
  have hread : logRecReadFaults lb x (lb, d) = (lb, d) := by rw [logRecReadFaults, hq]; rfl
  unfold readerPack
  dsimp only
  rw [h]
  dsimp only
  rw [if_neg (by simp [hf]), hp, hb]
  dsimp only
  rw [if_neg (by simpa using hl), hread, if_pos hs, if_neg (by simp [hw])]
  rfl

theorem deliver_runs (s : State) (hr : s.dev.on Reg.LOG_RD_STAT.RUN = true) : exec .logReadDeliver s =
    .next (s.afterLog (readerPack s.time (s.log.records.length + 1) s.log s.dev).1
      (readerPack s.time (s.log.records.length + 1) s.log s.dev).2) := by
  rw [exec_logReadDeliver, logReadDeliver, if_pos hr]

theorem deliver_idle :
    ∀ (s : State), s.dev.on Reg.LOG_RD_STAT.RUN = false ∨ (s.dev.rdr.follow = true ∧ readerNext s.log s.dev.rdr = none) →
    exec .logReadDeliver s = .next (s.after s.dev) := by
  intro s hc
  by_cases hr : s.dev.on Reg.LOG_RD_STAT.RUN = true
  · obtain ⟨hf, hn⟩ := hc.resolve_left (by simp [hr])
    rw [deliver_runs s hr, readerPack_none hn, if_pos hf, afterLog_self]
  · rw [exec_logReadDeliver, logReadDeliver, if_neg hr, afterLog_self]

theorem deliver_packs :
    ∀ (s : State), s.dev.on Reg.LOG_RD_STAT.RUN = true →
    exec .logReadDeliver s = .next (s.afterLog (readerPack s.time (s.log.records.length + 1) s.log s.dev).1
      (readerPack s.time (s.log.records.length + 1) s.log s.dev).2) ∧
    (s.dev.rdr.follow = false → readerNext s.log s.dev.rdr = none →
      ∃ t, exec .logReadDeliver s = .next t ∧ t.dev.on Reg.LOG_RD_STAT.RUN = false ∧ t.dev.rdr.buf = []) ∧
    (∀ x, readerNext s.log s.dev.rdr = some x → ringFree s.dev s.dev.rdr.ring = false →
      exec .logReadDeliver s = .next (s.after s.dev)) := by
  refine fun s hr => ⟨deliver_runs s hr, fun hf hn => ?_, fun x hx hf => ?_⟩
  · refine ⟨_, by rw [deliver_runs s hr, readerPack_none hn, if_neg (by simp [hf]), afterLog_self], ?_, ?_⟩
    · rw [(reader_after _ _ (by decide) (by decide)).2, readerStop_run]
    · rw [after_rdr, readerStop_buf]
  · rw [deliver_runs s hr, readerPack_waits hx hf, afterLog_self]

theorem deliver_ends :
    ∀ (s : State) (x : LogRec) (b : Posted) (rest : List Posted), s.dev.on Reg.LOG_RD_STAT.RUN = true →
    s.dev.rdr.follow = false → readerNext s.log s.dev.rdr = some x → x.seq = s.dev.rdr.stop → s.dev.rdr.buf = [] →
    ringFree s.dev s.dev.rdr.ring = true → (s.dev.ring s.dev.rdr.ring).posted = b :: rest → logRecLen x.ev ≤ b.len →
    logRecFaults s.log x = [] →
    ∃ t, exec .logReadDeliver s = .next t ∧ t.dev.on Reg.LOG_RD_STAT.RUN = false ∧ t.dev.rdr.buf = [] ∧
      t.dev.hif.sent = s.dev.hif.sent ++ [.data b.addr (logRecBytes s.log x) (s.dev.on Reg.HIF_CTRL.RO_EN)] := by
  intro s x b rest hr hw hx hs hb hf hp hl hq
  refine ⟨_, by rw [deliver_runs s hr, readerPack_last hw hx hs hb hf hp hl hq, afterLog_self], ?_, ?_, ?_⟩
  · rw [(reader_after _ _ (by decide) (by decide)).2, readerStop_run]
  · rw [after_rdr, readerStop_buf]
  · have hbuf : (recordPacked s.time x s.dev).rdr.buf = [x] := by
      show s.dev.rdr.buf ++ [x] = [x]
      rw [hb, List.nil_append]
    rw [after_sent, readerStop_sent]
    exact readerComplete_sent (d := recordPacked s.time x s.dev) hbuf hp hf ((logRecBytes_length s.log x).trans hl)

theorem timeout_waits :
    ∀ (s : State), s.dev.on Reg.LOG_RD_STAT.RUN = false ∨ s.dev.rdr.buf = [] ∨ s.time.loc - s.dev.rdr.since < 1000000 →
    exec .logBufferTimeout s = .next (s.after s.dev) := by
  intro s hc
  rw [exec_logBufferTimeout, logBufferTimeout, if_neg]
  rintro ⟨h1, h2, h3⟩
  rcases hc with hc | hc | hc
  · simp [hc] at h1
  · simp [hc] at h2
  · omega

theorem timeout_completes :
    ∀ (s : State), s.dev.on Reg.LOG_RD_STAT.RUN = true → s.dev.rdr.buf ≠ [] → s.dev.rdr.ring < 256 →
    1000000 ≤ s.time.loc - s.dev.rdr.since →
    ∃ t, exec .logBufferTimeout s = .next t ∧ t.dev.rdr = { s.dev.rdr with buf := [] } ∧
      t.dev.on Reg.LOG_RD_STAT.RUN = true := by
  intro s hr hb hn ht
  refine ⟨_, by rw [exec_logBufferTimeout, logBufferTimeout, if_pos ⟨hr, by simpa using hb, ht⟩], ?_, ?_⟩
  · rw [after_rdr, readerComplete_rdr]
  · rw [(reader_after _ _ (by decide) (by decide)).2]
    refine Eq.trans ?_ hr
    exact congrArg (· != 0) (getN_of_word (readerComplete_word (by decide) hn s.log))

/-- The judging of events leaves the records. -/
theorem judging_records (rs : List LogRec) : Judging fun lb _ => lb.records = rs where
  dropped _ h := h
  bucket _ h := h
  entered _ _ _ _ h := h
  lost h := h
  overflowed h := h

theorem after_records (s : State) (d : Dev) : (s.after d).log.records = s.log.records := by
  obtain ⟨-, -, h, -⟩ := (judging_records s.log.records).finish (s := { s with dev := d }) rfl
  exact h

theorem reader_stops :
    ∀ (s : State) (v : Word32), s.dev.pwr.released = true → bitOf v 10 = true → s.dev.on Reg.LOG_RD_STAT.RUN = true →
    ∃ t, exec (.logReadStop v) s = .next t ∧ t.dev.on Reg.LOG_RD_STAT.RUN = false ∧ t.dev.rdr.buf = [] ∧
      t.log.records = s.log.records := by
  intro s v hrel hv hr
  refine ⟨_, by rw [exec_logReadStop, if_pos hrel, logReadStop_stops hv hr], ?_, ?_, after_records _ _⟩
  · rw [(reader_after _ _ (by decide) (by decide)).2, readerStop_run]
  · rw [after_rdr, readerStop_buf]

/-! ## The mirror (R660) -/

theorem mirror_idle :
    ∀ (s : State), s.dev.get Reg.GLB_SPLIT.LOGMIR = 0 ∨ xaornUp s.dev = false ∨
      (∀ r ∈ s.log.records, r.seq ≤ s.dev.get Reg.LOG_MIR_SEQ.SEQ) →
    exec .mirrorRecord s = .next (s.after s.dev) := by
  intro s hc
  rw [exec_mirrorRecord, mirrorRecord]
  by_cases hm : s.dev.get Reg.GLB_SPLIT.LOGMIR = 0 ∨ (!xaornUp s.dev) = true
  · rw [if_pos hm]
  · obtain ⟨h1, h2⟩ := not_or.mp hm
    have hn : s.log.records.find? (fun x => decide (s.dev.get Reg.LOG_MIR_SEQ.SEQ < x.seq)) = none := by
      refine List.find?_eq_none.mpr fun x hx => ?_
      have := (hc.resolve_left h1).resolve_left (by simpa using h2) x hx
      simp [this]
    rw [if_neg hm, hn]

theorem mirror_writes :
    ∀ (s : State) (x : LogRec), s.dev.get Reg.GLB_SPLIT.LOGMIR ≠ 0 → xaornUp s.dev = true →
    s.log.records.find? (fun r => decide (s.dev.get Reg.LOG_MIR_SEQ.SEQ < r.seq)) = some x →
    ∃ t, exec .mirrorRecord s = .next t ∧ t.dev.get Reg.LOG_MIR_SEQ.SEQ = x.seq % 2 ^ 32 ∧
      t.dev.flush.mirror = newestFit (mirrorBytes s.dev) (s.dev.flush.mirror ++ [x]) ∧
      t.dev.flush.area = s.dev.flush.area := by
  intro s x h1 h2 hx
  have hm : mirrorRecord s.log s.dev = (mirrorAppend [x] s.dev).set Reg.LOG_MIR_SEQ.SEQ x.seq := by
    rw [mirrorRecord, if_neg (by simp [h1, h2]), hx]
  refine ⟨_, by rw [exec_mirrorRecord, hm], ?_, ?_, ?_⟩
  · rw [(reader_after _ _ (by decide) (by decide)).1]
    exact Dev.getN_setN_same _ Reg.LOG_MIR_SEQ.SEQ 0 _ rfl
  · rw [after_flush]
    rfl
  · rw [after_flush]
    rfl

/-! ## PFW_N falls and rises (R642, R588) -/

/-- PFW_N is low, and GLB shows it. -/
def pfwRaised (d : Dev) : Dev :=
  (((d.modPwr fun p => { p with pfwLow := true }).set Reg.GLB_STATUS.PFW 1).cause intGlb 3 0 0).event 20 0 0 0

/-- The flush of the newest records begins. -/
def flushBegun (t : Time) (lb : Logbook) (d : Dev) : Dev :=
  { d.set Reg.LOG_STATUS.FLUSH_READY 0 with flush := { d.flush with
    running := true, dirty := true, area := newestFit 65472 lb.records, header := none, tEdge := t.ns } }

theorem powerFailWarning_fell (hr : d.pwr.released = true) (hp : d.pwr.pfwLow = false) : powerFailWarning t lb d =
    if (keyPfw (pfwRaised d)).on Reg.LOG_STATUS.FLUSH_READY then flushBegun t lb (keyPfw (pfwRaised d))
    else ((keyPfw (pfwRaised d)).event 529 0 1 0).cause intLog 5 0 0 := if_neg (by simp [hr, hp])

theorem keyPfw_word {a : Nat} (ha : a ≠ 0x110000) (d : Dev) : (keyPfw d).word a = d.word a := by
  unfold keyPfw
  split
  · next c _ =>
    have hregs : (keyCmdEnd c stAborted d).regs = (d.set Reg.KEY_STATUS.BUSY 0).regs := endStarted_regs ..
    rw [Dev.word, hregs, ← Dev.word]
    exact Dev.word_set _ _ _ _ ha
  · rfl

theorem keyPfw_cmd (d : Dev) : (keyPfw d).keys.cmd = none := by
  unfold keyPfw
  split
  · next c _ => rw [keyCmdEnd_keys]
  · assumption

theorem keyPfw_flush (d : Dev) : (keyPfw d).flush = d.flush := (tame_keyPfw d).stands .flush (by decide)

theorem keyPfw_pwr (d : Dev) : (keyPfw d).pwr = d.pwr := (tame_keyPfw d).stands .pwr (by decide)

theorem pfw_shown (d : Dev) : (keyPfw (pfwRaised d)).on Reg.GLB_STATUS.PFW = true := by
  have h : (keyPfw (pfwRaised d)).get Reg.GLB_STATUS.PFW = (pfwRaised d).get Reg.GLB_STATUS.PFW :=
    getN_of_word (keyPfw_word (by decide) _)
  refine (congrArg (· != 0) h).trans ?_
  show (pfwRaised d).on Reg.GLB_STATUS.PFW = true
  rw [pfwRaised, Dev.event_on, Dev.cause_on _ _ _ _ _ _ (by decide)]
  exact Dev.on_set_same _ _ _ rfl

theorem pfw_cause (d : Dev) : bitOf ((keyPfw (pfwRaised d)).word intGlb.addr) 3 = true := by
  rw [keyPfw_word (by decide)]
  exact Dev.cause_sets _ intGlb 3 0 0 (by omega)

theorem pfw_ready (d : Dev) : (keyPfw (pfwRaised d)).on Reg.LOG_STATUS.FLUSH_READY = d.on Reg.LOG_STATUS.FLUSH_READY := by
  have h : (keyPfw (pfwRaised d)).get Reg.LOG_STATUS.FLUSH_READY = (pfwRaised d).get Reg.LOG_STATUS.FLUSH_READY :=
    getN_of_word (keyPfw_word (by decide) _)
  refine (congrArg (· != 0) h).trans ?_
  show (pfwRaised d).on Reg.LOG_STATUS.FLUSH_READY = _
  rw [pfwRaised, Dev.event_on, Dev.cause_on _ _ _ _ _ _ (by decide), Dev.on_set_other _ _ _ _ rfl]
  rfl

theorem pfw_flush (d : Dev) : (keyPfw (pfwRaised d)).flush = d.flush := by
  rw [keyPfw_flush, pfwRaised, Dev.event_flush, Dev.cause_flush]
  rfl

theorem pfw_low (d : Dev) : (keyPfw (pfwRaised d)).pwr.pfwLow = true := by
  rw [keyPfw_pwr, pfwRaised, Dev.event_pwr, Dev.cause_pwr]
  rfl

theorem after_cause {k : Nat} (s : State) {d : Dev} (h : bitOf (d.word intLog.addr) k = true) :
    bitOf ((s.after d).dev.word intLog.addr) k = true := finish_cause (s := { s with dev := d }) h

theorem after_ready (s : State) (d : Dev) :
    (s.after d).dev.on Reg.LOG_STATUS.FLUSH_READY = d.on Reg.LOG_STATUS.FLUSH_READY :=
  congrArg (· != 0) (finish_status (s := { s with dev := d }) (f := Reg.LOG_STATUS.FLUSH_READY) rfl rfl rfl)

theorem warning_idle :
    ∀ (s : State), s.dev.pwr.released = false ∨ s.dev.pwr.pfwLow = true →
    exec .powerFailWarning s = .next (s.after s.dev) := by
  intro s hc
  rw [exec_powerFailWarning]
  exact congrArg (fun d => Host.Outcome.next (s.after d)) (if_pos (hc.imp_left fun h => by simp [h]))

theorem warning_falls :
    ∀ (s : State), s.dev.pwr.released = true → s.dev.pwr.pfwLow = false →
    ∃ t, exec .powerFailWarning s = .next t ∧ t.dev.pwr.pfwLow = true ∧ t.dev.on Reg.GLB_STATUS.PFW = true ∧
      bitOf (t.dev.word intGlb.addr) 3 = true ∧ t.dev.keys.cmd = none ∧ t.time = s.time ∧
      (s.dev.on Reg.LOG_STATUS.FLUSH_READY = true → t.dev.flush.running = true ∧ t.dev.flush.tEdge = s.time.ns ∧
        t.dev.flush.area = newestFit 65472 s.log.records ∧ t.dev.flush.header = none ∧
        t.dev.on Reg.LOG_STATUS.FLUSH_READY = false) ∧
      (s.dev.on Reg.LOG_STATUS.FLUSH_READY = false → t.dev.flush = s.dev.flush ∧
        bitOf (t.dev.word intLog.addr) 5 = true) := by
  intro s hr hp
  have hx := powerFailWarning_fell (t := s.time) (lb := s.log) hr hp
  rw [pfw_ready] at hx
  by_cases hready : s.dev.on Reg.LOG_STATUS.FLUSH_READY = true
  · rw [if_pos hready] at hx
    have hw {a : Nat} (ha : a ≠ 0x120000) : (flushBegun s.time s.log (keyPfw (pfwRaised s.dev))).word a =
        (keyPfw (pfwRaised s.dev)).word a := Dev.word_set _ Reg.LOG_STATUS.FLUSH_READY 0 a ha
    refine ⟨_, by rw [exec_powerFailWarning, hx], ?_, ?_, ?_, ?_, after_time _ _, fun _ => ⟨?_, ?_, ?_, ?_, ?_⟩,
      fun hn => ?_⟩
    · rw [after_pwr]
      exact pfw_low s.dev
    · rw [after_on _ _ _ (notIntake_of_lt (by decide))]
      exact (congrArg (· != 0) (getN_of_word (f := Reg.GLB_STATUS.PFW) (i := 0) (hw (by decide)))).trans (pfw_shown s.dev)
    · rw [after_word _ _ _ (notIntake_of_lt (by decide)), hw (by decide), pfw_cause]
    · rw [after_keys]
      exact keyPfw_cmd _
    · rw [after_flush]
      rfl
    · rw [after_flush]
      rfl
    · rw [after_flush]
      rfl
    · rw [after_flush]
      rfl
    · rw [after_ready]
      exact Dev.on_set_same (keyPfw (pfwRaised s.dev)) Reg.LOG_STATUS.FLUSH_READY 0 rfl
    · rw [hready] at hn
      cases hn
  · rw [if_neg hready] at hx
    refine ⟨_, by rw [exec_powerFailWarning, hx], ?_, ?_, ?_, ?_, after_time _ _, fun hn => absurd hn hready,
      fun _ => ⟨?_, ?_⟩⟩
    · rw [after_pwr, Dev.cause_pwr, Dev.event_pwr, pfw_low]
    · rw [after_on _ _ _ (notIntake_of_lt (by decide)), Dev.cause_on _ _ _ _ _ _ (by decide), Dev.event_on, pfw_shown]
    · rw [after_word _ _ _ (notIntake_of_lt (by decide)), Dev.cause_word_other _ _ _ _ _ (by decide), Dev.event_word, pfw_cause]
    · rw [after_keys, Dev.cause_keys, Dev.event_keys, keyPfw_cmd]
    · rw [after_flush, Dev.cause_flush, Dev.event_flush, pfw_flush]
    · exact after_cause s (Dev.cause_sets _ intLog 5 0 0 (by omega))

theorem warning_clears :
    ∀ (s : State), (s.dev.pwr.released = true ∧ s.dev.pwr.pfwLow = true →
      exec .powerFailClear s = .next (s.after (((s.dev.modPwr fun p => { p with pfwLow := false }).set
        Reg.GLB_STATUS.PFW 0).event 20 0 1 0))) ∧
    (s.dev.pwr.released = false ∨ s.dev.pwr.pfwLow = false → exec .powerFailClear s = .next (s.after s.dev)) := by
  refine fun s => ⟨fun h => ?_, fun hc => ?_⟩
  · rw [exec_powerFailClear, powerFailClear, if_pos h]
  · rw [exec_powerFailClear, powerFailClear, if_neg]
    rintro ⟨h1, h2⟩
    rcases hc with hc | hc
    · simp [hc] at h1
    · simp [hc] at h2

/-! ## The flush (R588, R589, R661) -/

theorem flush_idle :
    ∀ (s : State), s.dev.flush.running = false → exec .logFlushDone s = .next (s.after s.dev) := by
  intro s h
  rw [exec_logFlushDone, logFlushDone, if_neg (by simp [h])]

/-- The number of the first record of a flush, 0 without one. -/
def flushFirst (l : List LogRec) : Nat := match l.head? with | some r => r.seq | none => 0

/-- The number of the last record of a flush, 0 without one. -/
def flushLast (l : List LogRec) : Nat := match l.getLast? with | some r => r.seq | none => 0

theorem flushLast_concat (m : List LogRec) (x : LogRec) : flushLast (m ++ [x]) = x.seq := by
  rw [flushLast, List.getLast?_concat]

/-- The header of the flush area is written. -/
def flushHeaded (d : Dev) : Dev :=
  { d with flush := { d.flush with
    running := false, header := some (flushFirst d.flush.area, flushLast d.flush.area, d.flush.tEdge, d.get Reg.LOG_HEALTH0.STATE) } }

theorem logFlushDone_done (h : d.flush.running = true) :
    logFlushDone d = ((flushHeaded d).event 529 0 0 (flushLast d.flush.area)).cause intLog 4 0 0 := if_pos h

theorem flush_done :
    ∀ (s : State), s.dev.flush.running = true →
    ∃ t a b, exec .logFlushDone s = .next t ∧ t.dev.flush.running = false ∧ t.dev.flush.area = s.dev.flush.area ∧
      t.dev.flush.header = some (a, b, s.dev.flush.tEdge, s.dev.get Reg.LOG_HEALTH0.STATE) ∧
      bitOf (t.dev.word intLog.addr) 4 = true ∧ (s.dev.flush.area = [] → a = 0 ∧ b = 0) ∧
      (∀ x m, s.dev.flush.area = x :: m → a = x.seq) ∧ (∀ x m, s.dev.flush.area = m ++ [x] → b = x.seq) := by
  intro s h
  refine ⟨_, flushFirst s.dev.flush.area, flushLast s.dev.flush.area, by rw [exec_logFlushDone, logFlushDone_done h], ?_, ?_, ?_, ?_,
    fun ha => ?_, fun x m ha => ?_, fun x m ha => ?_⟩
  · rw [after_flush, Dev.cause_flush, Dev.event_flush]
    rfl
  · rw [after_flush, Dev.cause_flush, Dev.event_flush]
    rfl
  · rw [after_flush, Dev.cause_flush, Dev.event_flush]
    rfl
  · exact after_cause s (Dev.cause_sets _ intLog 4 0 0 (by omega))
  · rw [ha]
    exact ⟨rfl, rfl⟩
  · rw [ha]
    rfl
  · rw [ha, flushLast_concat]

theorem area_erased :
    ∀ (s : State), xaornUp s.dev = true → s.dev.flush.running = false → s.dev.on Reg.LOG_STATUS.FLUSH_READY = false →
    ∃ t, exec .flushAreaErase s = .next t ∧ t.dev.flush.area = [] ∧ t.dev.flush.header = none ∧
      t.dev.on Reg.LOG_STATUS.FLUSH_READY = true ∧ t.dev.flush.mirror = (if s.dev.flush.header.isSome then
        newestFit (mirrorBytes s.dev) (s.dev.flush.mirror ++ s.dev.flush.area) else s.dev.flush.mirror) := by
  intro s h1 h2 h3
  have hx : flushAreaErase s.dev = { (if s.dev.flush.header.isSome then mirrorAppend s.dev.flush.area s.dev else s.dev) with
      flush := { (if s.dev.flush.header.isSome then mirrorAppend s.dev.flush.area s.dev else s.dev).flush with
        area := [], header := none, dirty := false } }.set Reg.LOG_STATUS.FLUSH_READY 1 := if_neg (by simp [h1, h2, h3])
  refine ⟨_, by rw [exec_flushAreaErase, hx], ?_, ?_, ?_, ?_⟩
  · rw [after_flush]
    rfl
  · rw [after_flush]
    rfl
  · rw [after_ready]
    exact Dev.on_set_same _ _ _ rfl
  · rw [after_flush, Dev.set_flush]
    split <;> rfl

theorem area_kept :
    ∀ (s : State), xaornUp s.dev = false ∨ s.dev.flush.running = true ∨ s.dev.on Reg.LOG_STATUS.FLUSH_READY = true →
    exec .flushAreaErase s = .next (s.after s.dev) := by
  intro s hc
  rw [exec_flushAreaErase]
  exact congrArg (fun d => Host.Outcome.next (s.after d)) (if_pos (hc.imp_left fun h => by simp [h]))

/-- Settles O58: the reader, the mirror and the flush. -/
theorem logbookReader : Obligations.LogbookReader :=
  ⟨⟨reader_goes, reader_kept, deliver_idle, deliver_packs, deliver_ends, timeout_waits, timeout_completes, reader_stops,
    reader_unreleased⟩, mirror_idle, mirror_writes, warning_idle, warning_falls, warning_clears, flush_idle, flush_done,
    area_erased, area_kept⟩

end Sys2Proof.Machine
